-- ==== Sys2Proof/Word.lean ====
section
/-! DEFINITION. The word types of the EVF-8192: bytes, 32-bit register words and 64-bit values. -/

namespace Sys2Proof

/-- One byte of memory, of a frame or of a point record. -/
abbrev Byte := BitVec 8

/-- A register word: R13, register pages take 32-bit accesses only. -/
abbrev Word := BitVec 32

/-- A 64-bit value: a point's VALUE (R38), a timebase count (R437). -/
abbrev DWord := BitVec 64

end Sys2Proof
end

