-- ==== Sys2Proof/Syntax.lean ====
section
/-! DEFINITION. The commands of the EVF-8192: one constructor of Instr for each row of spec/opcode_table.json, with the
operands that the row's rule gives it. -/

namespace Sys2Proof

/-- Who makes a register or window access: R14's requesters (management core contexts, field sequencers, Ladle channels,
NRAP bindings, the debug port). -/
inductive Requester where
  | mgmt (ctx : Fin 16)
  | sequencer (n : Fin 4)
  | ladle (ch : Fin 64)
  | nrap (binding : Fin 64)
  | debug
  deriving DecidableEq, Repr

/-- A switchable function of R31: a page, a station service (R288), a port meter (R295), a loop (R182), a circuit (R218),
a lite channel (R388) or a power domain (R467). -/
inductive SwitchFn where
  | page (page : BitVec 8)
  | station (spur : Fin 16)
  | portMeter (spur : Fin 16)
  | loop (n : Fin 512)
  | circuit (n : Fin 48)
  | lite (n : Fin 48)
  | domain (n : Fin 14)
  deriving DecidableEq, Repr

/-- REG form of R108. -/
structure RegForm where
  d : BitVec 4
  s1 : BitVec 4
  s2 : BitVec 4
  x : BitVec 14
  deriving DecidableEq, Repr

/-- IMM form of R108. -/
structure ImmForm where
  d : BitVec 4
  s1 : BitVec 4
  imm : BitVec 18
  deriving DecidableEq, Repr

/-- MEM form of R108. -/
structure MemForm where
  d : BitVec 4
  s1 : BitVec 4
  bsel : BitVec 2
  disp : BitVec 16
  deriving DecidableEq, Repr

/-- BR form of R108. -/
structure BrForm where
  a : BitVec 4
  b : BitVec 4
  imm : BitVec 18
  deriving DecidableEq, Repr

/-- REC form of R108. -/
structure RecForm where
  d : BitVec 4
  s1 : BitVec 4
  s2 : BitVec 4
  off : BitVec 14
  deriving DecidableEq, Repr

/-- PNT form of R108. -/
structure PntForm where
  addr : BitVec 4
  index : BitVec 4
  pid : BitVec 18
  deriving DecidableEq, Repr

/-- One sampling instant (R209, R210). `rawV`, `raw1` and `raw32` are the converters' samples with the pilot in them, in Q1.30 of
each path's own full scale, with the modulators' overloads; `volt`, `curr1` and `curr32` are the samples after correction, removal of the
pilot and the phase trim, in Q1.30 of the ×1 full scale; `portV` and `portI` are the port senses in µV and µA. A missing entry is 0. -/
structure MeterSample where
  rawV : List Word
  raw1 : List Word
  raw32 : List Word
  over1 : BitVec 48
  over32 : BitVec 48
  volt : List Word
  curr1 : List Word
  curr32 : List Word
  portV : List Word
  portI : List Word
  deriving DecidableEq, Repr

/-- A request at a fabric or bank arbiter (R357): the requester's ID and the beats of its transfer, less one. -/
structure FabricReq where
  id : Fin 27
  beats : Fin 8
  deriving DecidableEq, Repr

/-- The owner of a lock (R368): its fabric requester ID and its context. -/
structure LockOwner where
  req : Fin 27
  ctx : Fin 16
  deriving DecidableEq, Repr

/-- A frame that a CAN controller validates as receiver (R254): its fields, the timestamp of its start-of-frame (R256) and its data. -/
structure CanFrame where
  ide : Bool
  rtr : Bool
  fdf : Bool
  brs : Bool
  esi : Bool
  dlc : Fin 16
  id : BitVec 29
  sof : DWord
  data : List Byte
  deriving DecidableEq, Repr

/-- Where the frame of the chosen transmit buffer stands when a cancel arrives (R262). -/
inductive TxPhase where
  | beforeSof
  | arbitration
  | afterArbitration
  deriving DecidableEq, Repr

/-- A detected CAN error (R251): its code of FB_LEC, whether it lay in the data phase, which rule of the standard's fault confinement
counts it (0 none, 1 the ordinary count, 2 the receiver's count of 8), and for an error in an own frame between the end of arbitration and
the end of the CRC field, its bit position (R264). -/
structure CanErr where
  code : Fin 8
  data : Bool
  count : Fin 3
  clash : Option (BitVec 12)
  deriving DecidableEq, Repr

/-- An instance table entry (R145). -/
structure InstEnt where
  typeId : Nat
  ver : Nat
  flags : Nat
  key : Nat
  size : Nat
  offset : Nat
  deriving DecidableEq, Repr

/-- A mould task table entry (R146) with its image tables (R147): input points, and output points with ON_CHANGE. -/
structure TaskEnt where
  entry : Nat
  progInst : Nat
  inImg : Nat
  outImg : Nat
  inTbl : List Nat
  outTbl : List (Nat × Bool)
  deriving DecidableEq, Repr

/-- A field entry of a recast map (R148, R149). -/
structure FieldMap where
  src : Nat
  dst : Nat
  len : Nat
  op : Nat
  deriving DecidableEq, Repr

/-- A map of the recast table (R148). -/
structure TypeMap where
  typeId : Nat
  fromVer : Nat
  toVer : Nat
  fields : List FieldMap
  deriving DecidableEq, Repr

/-- A placed mould: its identity, its regions in the mould pool and its tables (R143 to R148). -/
structure Mould where
  id : Word
  codeAt : Nat
  codeSize : Nat
  dataAt : Nat
  dataSize : Nat
  insts : List InstEnt
  tasks : List TaskEnt
  maps : List TypeMap
  deriving DecidableEq, Repr

/-- An instance of a flask's retentive generation in the NVR (R176). -/
structure NvrInst where
  key : Nat
  typeId : Nat
  ver : Nat
  bytes : List Byte
  deriving DecidableEq, Repr

/-- An uplink frame's arrival (R279, R280): its bytes from the destination address to the last byte before the FCS, whether the FCS
is good, and the times of its first byte after the start-of-frame delimiter and of its last byte. -/
structure UplinkFrame where
  bytes : List Byte
  fcsOk : Bool
  first : DWord
  last : DWord
  deriving DecidableEq, Repr

/-- A heartbeat (R331). -/
structure Heartbeat where
  role : BitVec 8
  mode : BitVec 8
  home : Bool
  synced : Bool
  hoReq : Bool
  hoAck : Bool
  revSusp : Bool
  health : BitVec 8
  epoch : Word
  tb : DWord
  hoTick : DWord
  linkVer : BitVec 8
  grid : BitVec 16
  fcSeq : Word
  deriving DecidableEq, Repr

/-- A point-stream record (R339). -/
structure StreamRec where
  point : BitVec 13
  quality : Byte
  seq : BitVec 16
  value : DWord
  tstamp : DWord
  deriving DecidableEq, Repr

/-- Entries of the mirror frame's sections (R340). -/
structure XchItem where
  flask : Fin 32
  rollback : Bool
  tick : DWord
  deriving DecidableEq, Repr
structure ConfigItem where
  page : BitVec 8
  off : BitVec 12
  v : Word
  deriving DecidableEq, Repr
/-- FORCE entries: `op` 1 SET, 2 CLEAR, 3 BENEATH, 4 ORPHAN. -/
structure ForceItem where
  op : Nat
  setter : BitVec 5
  index : Nat
  point : BitVec 13
  written : Bool
  orphan : Bool
  uQuality : Byte
  value : DWord
  uValue : DWord
  uTstamp : DWord
  uSource : BitVec 16
  deriving DecidableEq, Repr
structure EnergyItem where
  circuit : Nat
  maxd : Word
  tm : DWord
  acc : List Nat
  wraps : List Nat
  ivl : List Nat
  maxt : Word
  deriving DecidableEq, Repr
structure RunItem where
  task : Nat
  flask : Nat
  cut : Bool
  cyclic : Bool
  rel : DWord
  ihash : DWord
  ohash : DWord
  deriving DecidableEq, Repr
structure GranItem where
  flask : Nat
  task : Nat
  retain : Bool
  mirror : Bool
  off : Nat
  rel : DWord
  data : List Byte
  deriving DecidableEq, Repr

/-- A mirror frame (R340): its header's words and its sections. `loops` holds eight section states for each loop. -/
structure MirrorFrame where
  tick : DWord
  epoch : Word
  flasks : Word
  carry : Nat
  cut : DWord
  loops : List (List DWord)
  xch : List XchItem
  config : List ConfigItem
  force : List ForceItem
  energy : List EnergyItem
  evSeq : Option Word
  runs : List RunItem
  grans : List GranItem
  deriving DecidableEq, Repr

/-- A point record of a bulk transfer, as its eight words. -/
structure PointImage where
  point : BitVec 13
  words : List Word
  deriving DecidableEq, Repr

/-- A flask's mould of a bulk transfer, with the bytes of its code and data regions. -/
structure MouldImage where
  flask : Nat
  mould : Mould
  code : List Byte
  data : List Byte
  deriving DecidableEq, Repr

/-- What a bulk transfer carries (R347): everything, or one flask's mould and data region. -/
structure BulkImage where
  flask : Option (Fin 32)
  config : List ConfigItem
  points : List PointImage
  forces : List ForceItem
  moulds : List MouldImage
  nvr : List (Nat × List NvrInst)
  deriving DecidableEq, Repr

/-- The results of a self-test sweep (R348, R349): the engines that failed, the scrub and known-answer counts of the sweep, the bit errors of
each lane's test and the lanes whose error rate was too high. -/
structure SweepResult where
  bistFail : Word
  scrubCorr : Nat
  scrubUncorr : Nat
  katPass : Nat
  katFail : Nat
  laneErr : List Nat
  laneFail : BitVec 2
  deriving DecidableEq, Repr

/-- A frame at a host MAC's receiver (R301, R302): its bytes from the destination address to the last byte before the FCS, whether the FCS is
good, whether its octet count is non-integral, whether the interface reported an error or the FIFO overflowed, and the stamp of its first
bit after the delimiter in sixteenths of a timebase count. -/
structure HostFrame where
  bytes : List Byte
  fcsOk : Bool
  align : Bool
  symbol : Bool
  overflow : Bool
  stamp : Nat
  deriving DecidableEq, Repr

/-- What an Announce message carries (R442): the data set that the best master clock algorithm compares, the sender and the log of the
announce interval. -/
structure PtpAnnounce where
  prio1 : Byte
  cls : Byte
  accuracy : Byte
  variance : BitVec 16
  prio2 : Byte
  gm : BitVec 64
  steps : BitVec 16
  src : BitVec 80
  logIvl : Int
  deriving DecidableEq, Repr

/-- The PTP messages that the servo processes: times, corrections and the receive stamp are in ns; the receive stamp is of the timebase. -/
inductive PtpMsg where
  | announce (dom : Byte) (a : PtpAnnounce)
  | sync (dom : Byte) (src : BitVec 80) (seq : BitVec 16) (twoStep : Bool) (origin corr stamp : Int)
  | followUp (dom : Byte) (src : BitVec 80) (seq : BitVec 16) (origin corr : Int)
  | delayResp (dom : Byte) (src : BitVec 80) (seq : BitVec 16) (receive corr : Int)
  deriving DecidableEq, Repr


/-- What the boot ROM finds at a reset (R409, R471, R472, R480, R485, R520): the ms that BOOT takes, the supplies that are good (VDD2, VDDQ,
VDD_LINE, VDDA_AFE, VDD_PHY from bit 0), the attempts of the entropy health tests that pass, the HOME strap, the DRAM's density code and width,
and the NOR's size (32 MiB doubled `nor` times) and identification. -/
structure BootEnv where
  ms : Nat
  rails : BitVec 5
  health : BitVec 3
  home : Bool
  density : Fin 5
  x16 : Bool
  nor : Fin 4
  norId : BitVec 24
  deriving DecidableEq, Repr
/-- The commands of the block, in the order of spec/opcode_table.json. -/
inductive Instr where
  /-- REGISTER_WRITE (R27): A write to a register that has no row of its own is checked and either applied or rejected as a whole. -/
  | registerWrite (q : Requester) (page : BitVec 8) (off : BitVec 12) (v : Word)
  /-- ADDRESS_DECODE_ERROR (R12): An access that touches an unmapped, unfitted or read-only range ends with a decode error and moves no byte. -/
  | addressDecodeError (q : Requester) (addr : Word) (len : Nat) (data : Option (List Byte))
  /-- REGISTER_ACCESS_MISALIGNED (R13): A non-32-bit or misaligned register access ends with a bus error and has no effect. -/
  | registerAccessMisaligned (q : Requester) (addr : Word) (len : Nat) (write : Bool)
  /-- WIDE_REGISTER_READ (R14): A read of the lowest word of a wide register captures its higher words for that requester. -/
  | wideRegisterRead (q : Requester) (page : BitVec 8) (off : BitVec 12)
  /-- WIDE_REGISTER_COMMIT (R14): A write of the highest word of a wide register commits the staged lower words and the register at once. -/
  | wideRegisterCommit (q : Requester) (page : BitVec 8) (off : BitVec 12) (v : Word)
  /-- ENABLE_WRITE (R31): EN written 1 starts a switchable function, latches a re-arm, or is ignored, according to its state. -/
  | enableWrite (q : Requester) (fn : SwitchFn)
  /-- DISABLE_WRITE (R31): EN written 0 begins STOPPING or cancels a pending re-arm. -/
  | disableWrite (q : Requester) (fn : SwitchFn)
  /-- STARTING_COMPLETE (R31): Start-up of a switchable function completes and it becomes ON. -/
  | startingComplete (fn : SwitchFn)
  /-- STOPPING_COMPLETE (R32): Shutdown completes; the function reaches OFF and restarts if a re-arm is pending. -/
  | stoppingComplete (fn : SwitchFn)
  /-- EVENT_PEND_CLEAR (R37): A write of 1 clears a pending bit, which a still-high level sets again at once. -/
  | eventPendClear (q : Requester) (k : Fin 10) (mask : Word)
  /-- WINDOW_RECORD_READ (R54): A read of word 00h of a record through the window applies R46 and captures the whole record. -/
  | windowRecordRead (q : Requester) (pid : BitVec 13) (word : Fin 8)
  /-- WINDOW_STAGE_LOW (R55): A window write of word 00h stages the low half of VALUE. -/
  | windowStageLow (q : Requester) (pid : BitVec 13) (v : Word)
  /-- WINDOW_STAGE_QUALITY (R55): A window write of word 14h stages a writer quality code. -/
  | windowStageQuality (q : Requester) (pid : BitVec 13) (v : Word)
  /-- WINDOW_COMMIT (R55): A window write of word 04h applies R46 and commits the record with the staged low half and quality. -/
  | windowCommit (q : Requester) (pid : BitVec 13) (v : Word)
  /-- FORCE_SET (R59): SET creates or replaces a force entry for an allocated point. -/
  | forceSet (q : Requester)
  /-- FORCE_CLEAR (R59): CLEAR restores the record beneath and removes the force entry. -/
  | forceClear (q : Requester)
  /-- FORCE_LOOKUP (R59): LOOKUP returns the force entry of a readable point. -/
  | forceLookup (q : Requester)
  /-- FORCE_CLEAR_FLASK (R59): CLEAR_FLASK removes every force set by the requester flask. -/
  | forceClearFlask (q : Requester)
  /-- FORCE_READ_INDEX (R59): READ_INDEX returns the force entry at an index for flask 0. -/
  | forceReadIndex (q : Requester)
  /-- PTD_ALLOC (R62): ALLOC writes an allocated record with the owner, type and reader mask of the page. -/
  | ptdAlloc (q : Requester)
  /-- PTD_FREE (R62): FREE writes the null record into an allocated, unforced point. -/
  | ptdFree (q : Requester)
  /-- PTD_LOAD (R62): LOAD copies the selected record's attributes into PTD_ATTR and PTD_READERS. -/
  | ptdLoad (q : Requester)
  /-- PTD_UPDATE (R62): UPDATE writes owner, type and reader mask into an allocated record. -/
  | ptdUpdate (q : Requester)
  /-- FLK_DENY_CLEAR (R65): A write of 1 to a bit of FLK_DENY_CLR clears that flask's denial counter. -/
  | flkDenyClear (q : Requester) (mask : Word)
  /-- TICK_BOUNDARY (R192): At each 1 ms boundary the engines apply due loop outputs, snapshot inputs and evaluate sampling loops. -/
  | tickBoundary
  /-- GRID_POINT (R71): A 250 µs grid point releases cyclic tasks whose period and phase match. -/
  | gridPoint
  /-- EVENT_INTERVAL_EXPIRY (R72): The minimum interval of an EVENT or ERROR task passes and a held event releases it. -/
  | eventIntervalExpiry (t : Fin 64)
  /-- ERROR_TASK_RELEASE (R73): An ERROR task is released while its flask's cause queue holds a record. -/
  | errorTaskRelease (t : Fin 64)
  /-- TASK_DISPATCH (R74): A core dispatches its highest-priority released task. -/
  | taskDispatch (c : Fin 8)
  /-- RUN_RESUME (R75): A preempted run resumes where it stopped. -/
  | runResume (c : Fin 8)
  /-- INPUT_LATCH (R77): An image-port operation reads the input image entries under R46 into the flask's memory. -/
  | inputLatch (t : Fin 64) (waitNs : Nat)
  /-- OUTPUT_WRITE_BACK (R79): An image-port operation commits the output image entries and then the deferred writes. -/
  | outputWriteBack (t : Fin 64) (waitNs : Nat)
  /-- RETENTION_COPY (R89): Dirty RETAIN granules of a run are copied as one batch into the staging buffer, waiting for room if needed. -/
  | retentionCopy (t : Fin 64)
  /-- WATCHDOG_EXPIRY (R86): A run reaches WDOG_US before its program step ends and is cut off with WATCHDOG. -/
  | watchdogExpiry (t : Fin 64)
  /-- RETENTION_BATCH_DRAIN (R90): The NVR writer writes a staged batch to the journal and completes its commit record. -/
  | retentionBatchDrain (ok : Bool) (failAt : Word)
  /-- PFW_ASSERT (R94): PFW or a mains sag stops releases, cuts off runs and starts the power-fail save. -/
  | pfwAssert
  /-- POWER_FAIL_SAVE_COMPLETE (R94): The staging buffer has drained and the save marker is written. -/
  | powerFailSaveComplete (drainUs : Nat)
  /-- PFW_DEASSERT_RESET (R95): PFW stays deasserted 100 ms after the save marker and the module resets. -/
  | pfwDeassertReset
  /-- TASK_ENABLE (R70): EN written 1 in SCN_TCFGn is checked and makes a DISABLED or HALTED task IDLE. -/
  | taskEnable (q : Requester) (t : Fin 64) (v : Word)
  /-- TASK_DISABLE (R88): EN written 0 disables a task at the end of any run in progress. -/
  | taskDisable (q : Requester) (t : Fin 64) (v : Word)
  /-- TASK_COUNTER_CLEAR (R85): SCN_TCLR sets the counters of one task or of all tasks to 0. -/
  | taskCounterClear (q : Requester) (v : Word)
  /-- LDW (R112): Loads a word into a work register. -/
  | ldw (t : Fin 64) (o : MemForm)
  /-- LDH (R112): Loads a sign-extended halfword. -/
  | ldh (t : Fin 64) (o : MemForm)
  /-- LDHU (R112): Loads a zero-extended halfword. -/
  | ldhu (t : Fin 64) (o : MemForm)
  /-- LDB (R112): Loads a sign-extended byte. -/
  | ldb (t : Fin 64) (o : MemForm)
  /-- LDBU (R112): Loads a zero-extended byte. -/
  | ldbu (t : Fin 64) (o : MemForm)
  /-- STW (R112): Stores a word. -/
  | stw (t : Fin 64) (o : MemForm)
  /-- STH (R112): Stores a halfword. -/
  | sth (t : Fin 64) (o : MemForm)
  /-- STB (R112): Stores a byte. -/
  | stb (t : Fin 64) (o : MemForm)
  /-- LDD (R112): Loads a doubleword into an even register pair. -/
  | ldd (t : Fin 64) (o : MemForm)
  /-- STD (R112): Stores an even register pair as a doubleword. -/
  | std (t : Fin 64) (o : MemForm)
  /-- MOVI (R112): Moves a sign-extended immediate into a register. -/
  | movi (t : Fin 64) (o : ImmForm)
  /-- LUI (R112): Loads an immediate shifted left by 14. -/
  | lui (t : Fin 64) (o : ImmForm)
  /-- MFS (R105): Reads a special register. -/
  | mfs (t : Fin 64) (o : RegForm)
  /-- MTS (R105): Writes IB, or traps SPECIAL for any other special register. -/
  | mts (t : Fin 64) (o : RegForm)
  /-- ADD (R113): Adds two registers modulo 2^32. -/
  | add (t : Fin 64) (o : RegForm)
  /-- ADDI (R113): Adds a sign-extended immediate. -/
  | addi (t : Fin 64) (o : ImmForm)
  /-- SUB (R113): Subtracts two registers. -/
  | sub (t : Fin 64) (o : RegForm)
  /-- MUL (R113): Gives the low 32 bits of a product. -/
  | mul (t : Fin 64) (o : RegForm)
  /-- MULH (R113): Gives the high 32 bits of a signed or unsigned product. -/
  | mulh (t : Fin 64) (o : RegForm)
  /-- DIV (R117): Divides, truncating toward zero, and traps DIV0 on zero. -/
  | div (t : Fin 64) (o : RegForm)
  /-- REM (R117): Gives the remainder of DIV and traps DIV0 on zero. -/
  | rem (t : Fin 64) (o : RegForm)
  /-- AND (R113): Bitwise AND of two registers. -/
  | and (t : Fin 64) (o : RegForm)
  /-- ANDI (R113): Bitwise AND with a zero-extended immediate. -/
  | andi (t : Fin 64) (o : ImmForm)
  /-- OR (R113): Bitwise OR of two registers. -/
  | or (t : Fin 64) (o : RegForm)
  /-- ORI (R113): Bitwise OR with a zero-extended immediate. -/
  | ori (t : Fin 64) (o : ImmForm)
  /-- XOR (R113): Bitwise XOR of two registers. -/
  | xor (t : Fin 64) (o : RegForm)
  /-- XORI (R113): Bitwise XOR with a zero-extended immediate. -/
  | xori (t : Fin 64) (o : ImmForm)
  /-- SHF (R114): Shifts or rotates a register by an immediate or register amount. -/
  | shf (t : Fin 64) (o : RegForm)
  /-- ADDS (R115): Saturating signed addition. -/
  | adds (t : Fin 64) (o : RegForm)
  /-- SUBS (R115): Saturating signed subtraction. -/
  | subs (t : Fin 64) (o : RegForm)
  /-- MIN (R115): Signed minimum. -/
  | min (t : Fin 64) (o : RegForm)
  /-- MAX (R115): Signed maximum. -/
  | max (t : Fin 64) (o : RegForm)
  /-- MINU (R115): Unsigned minimum. -/
  | minu (t : Fin 64) (o : RegForm)
  /-- MAXU (R115): Unsigned maximum. -/
  | maxu (t : Fin 64) (o : RegForm)
  /-- ABS (R115): Saturating absolute value. -/
  | abs (t : Fin 64) (o : RegForm)
  /-- BFX_EXTRACT (R116): Extracts a zero-extended bit field. -/
  | bfxExtract (t : Fin 64) (o : RegForm)
  /-- BFX_INSERT (R116): Inserts a bit field into the destination. -/
  | bfxInsert (t : Fin 64) (o : RegForm)
  /-- FADD (R118): Float addition. -/
  | fadd (t : Fin 64) (o : RegForm)
  /-- FSUB (R118): Float subtraction. -/
  | fsub (t : Fin 64) (o : RegForm)
  /-- FMUL (R118): Float multiplication. -/
  | fmul (t : Fin 64) (o : RegForm)
  /-- FDIV (R118): Float division. -/
  | fdiv (t : Fin 64) (o : RegForm)
  /-- FMA (R118): Fused multiply-add with one rounding. -/
  | fma (t : Fin 64) (o : RegForm)
  /-- FSQRT (R119): Float square root. -/
  | fsqrt (t : Fin 64) (o : RegForm)
  /-- FABS (R119): Clears the sign bit. -/
  | fabs (t : Fin 64) (o : RegForm)
  /-- FNEG (R119): Inverts the sign bit. -/
  | fneg (t : Fin 64) (o : RegForm)
  /-- FMIN (R119): Float minimum with the stated NaN rules. -/
  | fmin (t : Fin 64) (o : RegForm)
  /-- FMAX (R119): Float maximum with the stated NaN rules. -/
  | fmax (t : Fin 64) (o : RegForm)
  /-- FCVT_S32_TO_FLOAT (R119): Converts a signed integer to float. -/
  | fcvtS32ToFloat (t : Fin 64) (o : RegForm)
  /-- FCVT_U32_TO_FLOAT (R119): Converts an unsigned integer to float. -/
  | fcvtU32ToFloat (t : Fin 64) (o : RegForm)
  /-- FCVT_FLOAT_TO_S32_TRUNC (R120): Converts float to signed integer, truncated and saturating. -/
  | fcvtFloatToS32Trunc (t : Fin 64) (o : RegForm)
  /-- FCVT_FLOAT_TO_S32_NEAREST (R120): Converts float to signed integer, rounded to nearest even and saturating. -/
  | fcvtFloatToS32Nearest (t : Fin 64) (o : RegForm)
  /-- FCVT_FLOAT_TO_U32_TRUNC (R120): Converts float to unsigned integer, truncated and saturating. -/
  | fcvtFloatToU32Trunc (t : Fin 64) (o : RegForm)
  /-- FCMP (R119): Writes 1 when the selected float relation holds. -/
  | fcmp (t : Fin 64) (o : RegForm)
  /-- BEQ (R121): Branches when equal. -/
  | beq (t : Fin 64) (o : BrForm)
  /-- BNE (R121): Branches when not equal. -/
  | bne (t : Fin 64) (o : BrForm)
  /-- BLT (R121): Branches when signed less. -/
  | blt (t : Fin 64) (o : BrForm)
  /-- BGE (R121): Branches when signed greater or equal. -/
  | bge (t : Fin 64) (o : BrForm)
  /-- BLTU (R121): Branches when unsigned less. -/
  | bltu (t : Fin 64) (o : BrForm)
  /-- BGEU (R121): Branches when unsigned greater or equal. -/
  | bgeu (t : Fin 64) (o : BrForm)
  /-- JMP (R121): Jumps to PC plus an indexed word offset. -/
  | jmp (t : Fin 64) (o : BrForm)
  /-- SET (R121): Writes 1 when the selected integer relation holds. -/
  | set (t : Fin 64) (o : RegForm)
  /-- CALL (R123): Pushes a frame and continues at a PC-relative target. -/
  | call (t : Fin 64) (o : BrForm)
  /-- CALLR (R124): Pushes a frame and continues at a register target. -/
  | callr (t : Fin 64) (o : RegForm)
  /-- RET (R123): Pops a frame, or ends the program step on an empty stack. -/
  | ret (t : Fin 64) (o : RegForm)
  /-- SYS_REL_LO (R125): Returns the low word of the run's release timestamp. -/
  | sysRelLo (t : Fin 64) (o : ImmForm)
  /-- SYS_REL_HI (R125): Returns the high word of the run's release timestamp. -/
  | sysRelHi (t : Fin 64) (o : ImmForm)
  /-- SYS_TB_LO (R125): Returns the live timebase low word and captures the high word. -/
  | sysTbLo (t : Fin 64) (o : ImmForm)
  /-- SYS_TB_HI (R125): Returns the captured timebase high word. -/
  | sysTbHi (t : Fin 64) (o : ImmForm)
  /-- SYS_ST (R125): Returns the status word. -/
  | sysSt (t : Fin 64) (o : ImmForm)
  /-- SYS_ST_CLR (R125): Clears selected sticky bits of the status word. -/
  | sysStClr (t : Fin 64) (o : ImmForm)
  /-- SYS_TASK (R125): Returns the task's flask and number. -/
  | sysTask (t : Fin 64) (o : ImmForm)
  /-- SYS_MODE (R125): Returns the module's major mode code. -/
  | sysMode (t : Fin 64) (o : ImmForm)
  /-- SYS_RUNS (R125): Returns the task's completed run count. -/
  | sysRuns (t : Fin 64) (o : ImmForm)
  /-- SYS_DT (R125): Returns ms between this run's and the previous completed run's release timestamps. -/
  | sysDt (t : Fin 64) (o : ImmForm)
  /-- TMR (R133): Updates a TON, TOF or TP timer record from the release timestamp. -/
  | tmr (t : Fin 64) (o : RecForm)
  /-- CTR (R134): Updates a CTU, CTD or CTUD counter record. -/
  | ctr (t : Fin 64) (o : RecForm)
  /-- EDG (R135): Updates an edge detector record. -/
  | edg (t : Fin 64) (o : RecForm)
  /-- TRST (R131): Resets a built-in record to its initial state. -/
  | trst (t : Fin 64) (o : RecForm)
  /-- PRD (R136): Reads a point record live into a 16-byte entry. -/
  | prd (t : Fin 64) (o : PntForm)
  /-- PWR (R136): Queues a live point write in the deferred-write queue. -/
  | pwr (t : Fin 64) (o : PntForm)
  /-- PTST (R136): Returns a test word of a point's sequence, quality, type, force and ownership. -/
  | ptst (t : Fin 64) (o : PntForm)
  /-- HLT_END (R138): Ends the program step normally. -/
  | hltEnd (t : Fin 64) (o : ImmForm)
  /-- HLT_TRAP (R138): Traps with a user code. -/
  | hltTrap (t : Fin 64) (o : ImmForm)
  /-- HLT_BRK (R138): Stops the task for the debug port, or traps BRK without a session. -/
  | hltBrk (t : Fin 64) (o : ImmForm)
  /-- XCH_STAGE (R155): STAGE checks a mould container and places it in the mould pool. -/
  | xchStage (q : Requester)
  /-- STAGE_COMPLETE (R156): Checking and placement end with STATE STAGED or with a failure report. -/
  | stageComplete (codeAt dataAt : Word)
  /-- XCH_COMMIT (R152): COMMIT starts the search for the exchange tick. -/
  | xchCommit (q : Requester)
  /-- XCH_ABANDON (R152): ABANDON frees the placed regions and returns to IDLE. -/
  | xchAbandon (q : Requester)
  /-- XCH_CONFIRM (R173): CONFIRM frees the retained mould. -/
  | xchConfirm (q : Requester)
  /-- XCH_ROLLBACK (R174): ROLLBACK seeks an exchange tick to switch back to the retained mould. -/
  | xchRollback (q : Requester)
  /-- XCH_UNLOAD (R175): UNLOAD removes a flask's mould and its retentive data. -/
  | xchUnload (q : Requester)
  /-- EXCHANGE_TICK (R159): A tick boundary with no task of the flask running starts migration. -/
  | exchangeTick (peer : Bool)
  /-- EXCHANGE_TIMEOUT (R159): No exchange tick within TMO_MS returns the exchange to STAGED with BUSY. -/
  | exchangeTimeout
  /-- EXCHANGE_SWITCH (R161): Migration ends and the flask's tasks take the new mould. -/
  | exchangeSwitch (migNs : Nat)
  /-- EXCHANGE_REPORT (R168): The report is written to the report buffer within 5 ms. -/
  | exchangeReport
  /-- GENERATION_APPLIED (R176): The new retentive generation's commit record completes in the NVR. -/
  | generationApplied (f : Fin 32)
  /-- BANK_SWAP_REQUEST (R196): SWAP written 1 sets SWAP_PEND or swaps at once when the loop is not running. -/
  | bankSwapRequest (q : Requester) (n : Fin 512)
  /-- GROUP_SWAP (R199): LPG_GSWAP requests a swap for every loop of a swap group. -/
  | groupSwap (q : Requester) (groups : BitVec 16)
  /-- METERING_SAMPLE (R209): Every converter and port sense samples on the common 8 kS/s grid. -/
  | meteringSample (x : MeterSample)
  /-- ZC_LOST (R215): No crossing within ZC_TMO switches circuits to fixed windows. -/
  | zcLost (v : Fin 6)
  /-- FIXED_WINDOW_END (R215): A 20 ms fixed window ends and takes the place of a line cycle. -/
  | fixedWindowEnd
  /-- INTERVAL_BOUNDARY (R225): A demand interval boundary passes. -/
  | intervalBoundary
  /-- CALIBRATION_WINDOW_END (R230): A 60 s window ends and each path's target correction is set. -/
  | calibrationWindowEnd (targets : List Int)
  /-- CORRECTION_STEP (R231): Once per second APPLIED moves toward TARGET. -/
  | correctionStep
  /-- METERING_RECORD_SAVE (R237): The metering record is written to the NVR every 60 s. -/
  | meteringRecordSave
  /-- CIRCUIT_ZERO (R237): ZERO clears a stopped circuit's accumulators and saves the record. -/
  | circuitZero (q : Requester) (c : Fin 48)
  /-- CIRCUIT_CLR_MAX (R226): CLR_MAX sets maximum demand and its time to 0. -/
  | circuitClrMax (q : Requester) (c : Fin 48)
  /-- CAN_INTEGRATION_COMPLETE (R248): Eleven recessive bits end INTEGRATING and the controller is ON. -/
  | canIntegrationComplete (b : Fin 8)
  /-- CAN_FRAME_RECEIVED (R254): A validated frame is delivered as a packet to the receive queue. -/
  | canFrameReceived (b : Fin 8) (x : CanFrame)
  /-- CAN_TX_REQUEST (R259): FB_TXREQ makes the named buffers PENDING. -/
  | canTxRequest (q : Requester) (b : Fin 8) (bufs : Word) (idle : Bool)
  /-- CAN_ARBITRATION_LOST (R261): A frame losing arbitration returns to PENDING or ends SS_FAIL. -/
  | canArbitrationLost (b : Fin 8)
  /-- CAN_TX_DONE (R261): A frame's end-of-frame completes and the buffer takes TX_DONE. -/
  | canTxDone (b : Fin 8) (sof : DWord) (tdcv : BitVec 7)
  /-- CAN_TX_CANCEL (R262): FB_TXCAN cancels a buffer according to its position. -/
  | canTxCancel (q : Requester) (b : Fin 8) (bufs : Word) (ph : TxPhase)
  /-- CAN_ERROR (R251): A detected bus error updates the counters and error state. -/
  | canError (b : Fin 8) (x : CanErr)
  /-- CAN_RECOVER (R252): RECOVER moves a bus-off controller to RECOVERING. -/
  | canRecover (q : Requester) (b : Fin 8)
  /-- CAN_RECOVERY_COMPLETE (R252): 128 recessive sequences end recovery in ERROR_ACTIVE. -/
  | canRecoveryComplete (b : Fin 8)
  /-- CAN_PROTOCOL_EXCEPTION (R253): A recessive res bit enters PROTOCOL_EXCEPTION. -/
  | canProtocolException (b : Fin 8)
  /-- CAN_EXCEPTION_END (R253): Eleven recessive bits return the controller to its error state. -/
  | canExceptionEnd (b : Fin 8)
  /-- CAN_LISTEN_SWITCH (R250): A mode-caused change of listen-only takes effect at the next bus idle. -/
  | canListenSwitch (b : Fin 8)
  /-- PHY_LINK_UP (R268): A spur's 10BASE-T1L link comes up. -/
  | phyLinkUp (p : Fin 16) (full : Bool) (mse : Int)
  /-- PHY_LINK_DOWN (R268): A spur's link goes down. -/
  | phyLinkDown (p : Fin 16)
  /-- QUIET_CHECK_END (R271): The 10 ms quiet check ends, leading to detection or BACKFEED fault. -/
  | quietCheckEnd (p : Fin 16) (quiet : Bool)
  /-- DETECTION_RESULT (R271): PoDL detection finds a valid signature or schedules a retry. -/
  | detectionResult (p : Fin 16) (valid : Bool)
  /-- DETECTION_RETRY (R271): DETPER expires and CLASSIFY restarts. -/
  | detectionRetry (p : Fin 16)
  /-- SCCP_ATTEMPT_END (R271): An SCCP classification attempt ends with a class or a failure. -/
  | sccpAttemptEnd (p : Fin 16) (cls : Option (Fin 16))
  /-- POWER_UP_REACHED (R271): The port reaches 90 % of the rail and is ON. -/
  | powerUpReached (p : Fin 16)
  /-- POWER_UP_TIMEOUT (R271): The port misses 90 % within 50 ms and faults with POWERUP. -/
  | powerUpTimeout (p : Fin 16)
  /-- PORT_OVERLOAD (R272): Current above TRIP for TOVL forces the port off with OVERLOAD. -/
  | portOverload (p : Fin 16)
  /-- PORT_SHORT (R272): Current above twice TRIP forces the port off with SHORT. -/
  | portShort (p : Fin 16)
  /-- RAIL_UNDERVOLTAGE (R272): The rail below threshold for 1 ms forces the port off with RAIL. -/
  | railUndervoltage (g : Fin 2) (volt : BitVec 16)
  /-- PORT_DISCONNECT (R272): Current below 5 mA for 320 ms discharges and reclassifies the port. -/
  | portDisconnect (p : Fin 16)
  /-- COOL_DOWN_END (R270): The FAULT cool-down ends and DISCHARGE begins. -/
  | coolDownEnd (p : Fin 16)
  /-- DISCHARGE_COMPLETE (R271): The port voltage falls below 3.0 V and discharge ends. -/
  | dischargeComplete (p : Fin 16)
  /-- DISCHARGE_LIMIT (R271): Discharge reaches 250 ms, sets DIS_SLOW and ends. -/
  | dischargeLimit (p : Fin 16)
  /-- DOWNLINK_FRAME_SEND (R277): Each ON station service sends its downlink frame at STN_TXOFS after the boundary. -/
  | downlinkFrameSend
  /-- UPLINK_FRAME_RECEIVED (R280): An uplink frame is checked for validity and its inputs committed. -/
  | uplinkFrameReceived (p : Fin 16) (x : UplinkFrame)
  /-- STATION_DROP (R293): The miss count reaches DROP_N; substitutes are committed and STATION_DROP posted. -/
  | stationDrop (p : Fin 16)
  /-- STATION_SUBSTITUTE_COMMIT (R288): A starting or stopping service commits substitute inputs in one image-port operation. -/
  | stationSubstituteCommit (p : Fin 16)
  /-- HOST_FRAME_RECEIVED (R301): A host MAC filters and accepts or discards a received frame. -/
  | hostFrameReceived (m : Fin 6) (x : HostFrame)
  /-- HOST_FRAME_TRANSMIT (R303): The MAC sends the head frame of its highest-priority non-empty queue. -/
  | hostFrameTransmit (m : Fin 6) (stamp : Nat) (underrun : Bool)
  /-- PTP_FIFO_POP (R305): A write to +Ch removes the oldest timestamp entry. -/
  | ptpFifoPop (q : Requester) (m : Fin 6) (tx : Bool)
  /-- MAC_COUNTER_CLEAR (R304): HM_CNTCLR sets all 40 counters to 0. -/
  | macCounterClear (q : Requester) (m : Fin 6) (v : Word)
  /-- MDIO_ACCESS (R299): A write to HM_MDIO starts a Clause 22 management access. -/
  | mdioAccess (q : Requester) (m : Fin 6) (v : Word)
  /-- MDIO_COMPLETE (R299): The management access ends and BUSY clears. -/
  | mdioComplete (m : Fin 6) (data : BitVec 16)
  /-- NRAP_REQUEST (R310): The front end checks an NRAP datagram and queues, refuses or drops it. -/
  | nrapRequest (m : Fin 6)
  /-- NRAP_EXECUTE (R319): The management cores execute a queued request's operations in order. -/
  | nrapExecute
  /-- NRAP_NOTIFY (R318): A notification is sent for subscribed points whose SEQ changed. -/
  | nrapNotify (b : Fin 64)
  /-- HEARTBEAT_SEND (R331): A heartbeat is sent 5 µs after each grid point. -/
  | heartbeatSend
  /-- HEARTBEAT_RECEIVED (R332): A partner heartbeat is checked for validity for its grid point. -/
  | heartbeatReceived (x : Heartbeat) (at_ : DWord) (roleIn : Bool)
  /-- SLOT_CHECK (R332): At k + 50 µs a slot is judged silent or not. -/
  | slotCheck (roleIn : Bool)
  /-- ENTER_ACTIVE_ROLE (R351): At the named tick boundary the module becomes active. -/
  | enterActiveRole
  /-- ROLE_KEEPER_EXPIRY (R327): A heartbeat 20 µs late drops ROLE_OUT and the active role. -/
  | roleKeeperExpiry
  /-- DEMOTION (R336): A higher partner epoch or SUPERSEDED demotes the active at the next boundary. -/
  | demotion
  /-- LINK_PACKET_RETRY (R338): A link packet failing its CRC is retransmitted. -/
  | linkPacketRetry (received : Bool)
  /-- POINT_STREAM_RECEIVED (R339): The standby commits a stream record with SOURCE class 9h. -/
  | pointStreamReceived (x : StreamRec)
  /-- MIRROR_FRAME_CUT (R340): The active cuts and sends the mirror frame at B + 100 µs. -/
  | mirrorFrameCut
  /-- MIRROR_FRAME_RECEIVED (R342): The standby applies the mirror frame's sections in order. -/
  | mirrorFrameReceived (x : MirrorFrame)
  /-- BULK_START (R347): The active starts a bulk resynchronization transfer. -/
  | bulkStart
  /-- BULK_COMPLETE (R347): The bulk transfer completes and CATCHUP begins. -/
  | bulkComplete (x : BulkImage)
  /-- CATCHUP_COMPLETE (R347): The queued items are applied and SYNC becomes SYNCED. -/
  | catchupComplete
  /-- FORECAST_PUBLISH (R348): A Forecast record is published every 100 ms. -/
  | forecastPublish
  /-- FORECAST_RECEIVED (R349): The partner's Forecast record is stored in FCS_PART. -/
  | forecastReceived (bytes : List Byte)
  /-- SELF_TEST_SWEEP_END (R348): Every test of a sweep has completed once. -/
  | selfTestSweepEnd (x : SweepResult)
  /-- HANDOVER (R352): HANDOVER requests a planned handover. -/
  | handover (q : Requester)
  /-- HANDOVER_SWITCH (R352): At the named tick the roles exchange. -/
  | handoverSwitch
  /-- CANCEL_HO (R352): CANCEL_HO cancels a pending handover. -/
  | cancelHo (q : Requester)
  /-- REARM_REV (R354): REARM_REV clears REV_SUSP and the return record. -/
  | rearmRev (q : Requester)
  /-- CLR_TKO (R328): CLR_TKO drives TAKEOVER low. -/
  | clrTko (q : Requester)
  /-- RESYNC (R347): RESYNC starts a full resynchronization of a standby. -/
  | resync (q : Requester)
  /-- REVERTIVE_REQUEST (R353): The hold-off expires and the home standby requests a handover. -/
  | revertiveRequest
  /-- FABRIC_REQUEST (R359): A requester presents a transfer to the fabric. -/
  | fabricRequest (bank : Option (Fin 56)) (gap : Fin 4096) (reqs : List FabricReq)
  /-- FABRIC_RESPONSE (R367): A transaction's response is delivered and its tag freed. -/
  | fabricResponse (gap : Fin 4096) (id : Fin 27)
  /-- DEBUG_SQUALL (R365): A debug transfer preempts the fabric between beats. -/
  | debugSquall (gap : Fin 4096) (beats : Fin 8)
  /-- DRAM_REFRESH (R366): A due refresh takes a DRAM bank at the next burst boundary. -/
  | dramRefresh (bank : Fin 16) (cuts : Bool)
  /-- ARBITER_SEED_WRITE (R363): A seed write loads the LFSRs before their next decision. -/
  | arbiterSeedWrite (q : Requester) (bank : Bool) (v : Word)
  /-- LOCK_ACQUIRE (R369): A read of LCK_Ln tries to acquire a lock without waiting. -/
  | lockAcquire (o : LockOwner) (n : Fin 64)
  /-- LOCK_RELEASE (R370): A write of 1 to LCK_Ln releases the owner's lock. -/
  | lockRelease (o : LockOwner) (n : Fin 64) (v : Word)
  /-- LOCK_HOLD_EXPIRY (R373): A lock held past HOLD_US is released and marked BROKEN. -/
  | lockHoldExpiry (n : Fin 64)
  /-- LOCK_FREE (R374): LCK_FREE releases a lock and marks it BROKEN. -/
  | lockFree (q : Requester) (v : Word)
  /-- DESCRIPTOR_FETCH (R382): A bulk channel fetches a descriptor, waiting if OWN is 0. -/
  | descriptorFetch (c : Fin 16)
  /-- LADLE_KICK (R382): LDLB_KICK sets KICKED and refetches a waiting descriptor. -/
  | ladleKick (q : Requester) (c : Fin 16)
  /-- LADLE_TRANSACTION (R379): A channel issues one fabric transaction after checking its range. -/
  | ladleTransaction (ch : Fin 64) (n : Fin 257)
  /-- LADLE_QUEUE_POP (R395): A Ladle source-queue pop waits for items in the drain bank. -/
  | ladleQueuePop (ch : Fin 64)
  /-- DESCRIPTOR_WRITE_BACK (R383): After all writes are acknowledged the descriptor is written back, OWN last. -/
  | descriptorWriteBack (c : Fin 16)
  /-- LADLE_BUS_ERROR (R384): A transaction failing all retries puts the channel in FAULT. -/
  | ladleBusError (ch : Fin 64) (write : Bool) (wb : Fin 4)
  /-- LADLE_RESUME (R385): RESUME takes a channel out of FAULT. -/
  | ladleResume (q : Requester) (ch : Fin 64)
  /-- LADLE_ABORT (R387): ABORT stops a channel within 1 µs, losing transactions in flight. -/
  | ladleAbort (q : Requester) (ch : Fin 64)
  /-- LITE_GO (R389): GO triggers a lite channel transfer. -/
  | liteGo (q : Requester) (k : Fin 48)
  /-- LITE_TRANSFER_COMPLETE (R390): A lite transfer ends and its completion pulse is delivered. -/
  | liteTransferComplete (k : Fin 48)
  /-- QUEUE_PUSH (R391): A producer pushes an item into a queue's fill bank. -/
  | queuePush (q : Requester) (n : Fin 64) (side : BitVec 2) (v : Word)
  /-- QUEUE_POP (R395): A TND_POP read pops an item or returns the idle item. -/
  | queuePop (q : Requester) (n : Fin 64)
  /-- SKIP_PKT (R396): SKIP_PKT discards the rest of the packet being consumed. -/
  | skipPkt (q : Requester) (n : Fin 64)
  /-- FLUSH (R396): FLUSH empties both banks and resets the positions. -/
  | flush (q : Requester) (n : Fin 64)
  /-- CRU_GENERATE (R418): Creates a key from the DRBG under a parent. -/
  | cruGenerate (q : Requester)
  /-- CRU_DERIVE (R419): Derives a key under a parent with a label. -/
  | cruDerive (q : Requester)
  /-- CRU_UNWRAP (R419): Unwraps a key blob into a slot. -/
  | cruUnwrap (q : Requester)
  /-- CRU_WRAP (R419): Wraps an exportable key into a blob. -/
  | cruWrap (q : Requester)
  /-- CRU_LOAD (R418): Loads key material from CRU_KEYIN in COMMISSION. -/
  | cruLoad (q : Requester)
  /-- CRU_DESTROY (R418): Empties a slot and raises its generation. -/
  | cruDestroy (q : Requester)
  /-- CRU_PURGE (R418): Empties every ORPHAN slot. -/
  | cruPurge (q : Requester)
  /-- CRU_KILL (R410): Retires the root permanently and seals the Crucible. -/
  | cruKill (q : Requester)
  /-- CRU_COMMAND_COMPLETE (R417): A running Crucible command ends and reports in CRU_RESULT. -/
  | cruCommandComplete (entropy : Bool)
  /-- REMASK (R416): Every CRU_REMASK.MS ms all slots are re-masked. -/
  | remask
  /-- CRY_GCM_ENC (R422): AES-GCM encryption job. -/
  | cryGcmEnc (q : Requester) (slot : BitVec 8)
  /-- CRY_GCM_DEC (R422): AES-GCM decryption and tag check job. -/
  | cryGcmDec (q : Requester) (slot : BitVec 8)
  /-- CRY_CTR_ENC (R422): AES-CTR encryption job. -/
  | cryCtrEnc (q : Requester) (slot : BitVec 8)
  /-- CRY_CTR_DEC (R422): AES-CTR decryption job. -/
  | cryCtrDec (q : Requester) (slot : BitVec 8)
  /-- CRY_CMAC_GEN (R422): AES-CMAC generation job. -/
  | cryCmacGen (q : Requester) (slot : BitVec 8)
  /-- CRY_CMAC_VER (R422): AES-CMAC verification job. -/
  | cryCmacVer (q : Requester) (slot : BitVec 8)
  /-- CRY_HMAC_GEN (R422): HMAC-SHA-256 generation job. -/
  | cryHmacGen (q : Requester) (slot : BitVec 8)
  /-- CRY_HMAC_VER (R422): HMAC-SHA-256 verification job. -/
  | cryHmacVer (q : Requester) (slot : BitVec 8)
  /-- CRY_ECDSA_SIGN (R422): ECDSA P-256 signing job. -/
  | cryEcdsaSign (q : Requester) (slot : BitVec 8)
  /-- CRY_ECDSA_PUB (R422): Returns the ECDSA public key of a slot. -/
  | cryEcdsaPub (q : Requester) (slot : BitVec 8)
  /-- CRY_ECDSA_VER (R422): ECDSA P-256 verification job without a slot. -/
  | cryEcdsaVer (q : Requester) (slot : BitVec 8)
  /-- CRY_SHA256 (R422): SHA-256 digest job. -/
  | crySha256 (q : Requester) (slot : BitVec 8)
  /-- CRY_JOB_COMPLETE (R423): A crypto job ends, releasing output or overwriting it on failure. -/
  | cryJobComplete
  /-- TAMPER_EVENT (R428): A qualified pin or glitch event is latched with its time and context. -/
  | tamperEvent (src : Fin 6)
  /-- TAMPER_LATCH_CLEAR (R431): A write of 1 to VALID clears the tamper latch. -/
  | tamperLatchClear (q : Requester)
  /-- DEBUG_CHALLENGE (R413): A read of DBG_CHAL0 draws a fresh nonce. -/
  | debugChallenge (q : Requester)
  /-- DEBUG_OPEN (R413): OPEN checks the signed response and opens a session. -/
  | debugOpen (q : Requester)
  /-- DEBUG_CLOSE (R414): CLOSE ends the session and resumes stopped tasks. -/
  | debugClose (q : Requester)
  /-- DEBUG_RESET (R414): RESET of an open session resets the module. -/
  | debugReset (q : Requester)
  /-- DEBUG_LOCKFUSE (R415): LOCKFUSE programs the DEBUG_LOCK fuse. -/
  | debugLockfuse (q : Requester) (key : BitVec 16)
  /-- DEBUG_HOLD (R414): DBG_HOLD holds scan cores for BRK. -/
  | debugHold (q : Requester) (v : Word)
  /-- DEBUG_GO (R414): DBG_GO resumes a task stopped at BRK. -/
  | debugGo (q : Requester) (v : Word)
  /-- TB_STEP (R439): A committed TB_STEP loads a new timebase value. -/
  | tbStep (q : Requester) (v : DWord)
  /-- TB_SLEW (R438): A TB_SLEW write adds to the pending offset absorbed at 100 ppm. -/
  | tbSlew (q : Requester) (v : Word)
  /-- LINK_DELAY_MEASURE (R441): The Clais link measures its round trip every 100 ms. -/
  | linkDelayMeasure (rtt : Nat)
  /-- PTP_MESSAGE (R442): The PTP servo processes a received PTP message. -/
  | ptpMessage (x : PtpMsg)
  /-- PTP_ANNOUNCE_TIMEOUT (R443): No Announce for 3 intervals returns the servo to LISTENING. -/
  | ptpAnnounceTimeout
  /-- PTP_SYNC_TIMEOUT (R443): No Sync for 3 s in SLAVE enters HOLDOVER. -/
  | ptpSyncTimeout
  /-- RTC_SECOND_ROLLOVER (R444): The calendar advances by one second. -/
  | rtcSecondRollover
  /-- TRIM_WINDOW (R447): A 2^20-cycle trim window ends and a new TRIM applies. -/
  | trimWindow
  /-- RTC_HOLD (R445): HOLD written 1 freezes the calendar. -/
  | rtcHold (q : Requester) (v : Word)
  /-- RTC_RELEASE (R445): HOLD written 0 loads the staged calendar value. -/
  | rtcRelease (q : Requester) (v : Word)
  /-- RTC_TIME_READ (R446): A read of RTC_TIME captures date and sub-second. -/
  | rtcTimeRead (q : Requester)
  /-- ALARM_ARM (R448): ARM clears FIRED. -/
  | alarmArm (q : Requester)
  /-- BACKUP_SUPPLY_SWITCH (R450): The backup domain switches between VAON and VBKP. -/
  | backupSupplySwitch (vbkp : Bool)
  /-- BACKUP_DOMAIN_RESET (R451): The backup supply falls below retention and PD0 resets. -/
  | backupDomainReset
  /-- MODE_REQUEST (R457): A write to SYS_MODEREQ is checked and makes a mode request pending. -/
  | modeRequest (q : Requester) (v : Word)
  /-- MODE_CHANGE (R456): A pending mode change takes effect at a tick boundary. -/
  | modeChange
  /-- DOMAIN_STATE_CHANGE (R464): An idle domain enters the deepest allowed power state. -/
  | domainStateChange (d : Fin 14)
  /-- DOMAIN_PREWAKE (R465): A sleeping domain begins its exit one latency before scheduled work. -/
  | domainPrewake (d : Fin 14)
  /-- DOMAIN_EXIT_COMPLETE (R463): A domain reaches C0 after its exit latency. -/
  | domainExitComplete (d : Fin 14)
  /-- LATENCY_WRITE (R466): A PG_LAT change alters the domain budget at once. -/
  | latencyWrite (q : Requester) (page : BitVec 8) (v : Word)
  /-- POWER_ON_RESET (R469): Supplies become good and the power-on reset releases. -/
  | powerOnReset (x : BootEnv)
  /-- RESET_PIN (R469): RESET_N low resets the module. -/
  | resetPin
  /-- SYS_RESET (R469): SYS_CMD RESET resets the module. -/
  | sysReset (q : Requester) (key : BitVec 16)
  /-- SYS_RECOVER (R469): SYS_CMD RECOVER resets the module with a recovery request. -/
  | sysRecover (q : Requester) (key : BitVec 16)
  /-- MGMT_WATCHDOG_RESET (R469): The management watchdog expires and resets the module. -/
  | mgmtWatchdogReset
  /-- LOCKSTEP_RESET (R469): The management cores disagree and the module resets. -/
  | lockstepReset
  /-- THERMAL_RESET (R469): Junction above 125 °C for 10 ms resets the module. -/
  | thermalReset
  /-- SUPPLY_GOOD (R472): A waited-for supply becomes good and the ROM continues. -/
  | supplyGood (rail : Fin 5) (ms : Nat)
  /-- BOOT_STORE_PATTERN (R479): Stores a checked Pattern to the unused copy. -/
  | bootStorePattern (q : Requester)
  /-- BOOT_STORE_BLOB (R479): Stores bytes to the NOR user store. -/
  | bootStoreBlob (q : Requester)
  /-- BOOT_STORE_COMPLETE (R479): A store ends and reports its code. -/
  | bootStoreComplete
  /-- MR4_POLL (R480): Every 16 ms MR4 is read and the refresh rate derated. -/
  | mr4Poll (mult : Fin 3)
  /-- PLL_LOCK_LOSS (R482): An island PLL loses lock and its clock stops. -/
  | pllLockLoss (n : Fin 32)
  /-- PLL_RELOCK (R482): The PLL relocks and the island resumes. -/
  | pllRelock (n : Fin 32)
  /-- XSPI_ERASE (R486): Erases the 4 KiB sectors of a NOR range. -/
  | xspiErase (q : Requester)
  /-- XSPI_PROGRAM (R486): Programs a NOR range from DRAM. -/
  | xspiProgram (q : Requester)
  /-- XSPI_VERIFY (R486): Compares a NOR range with DRAM. -/
  | xspiVerify (q : Requester)
  /-- XSPI_COMMAND_COMPLETE (R486): An XSPI command ends and reports. -/
  | xspiCommandComplete (ok : Bool)
  /-- UPD_CHECK (R496): CHECK applies the package checks to the staged package. -/
  | updCheck (q : Requester)
  /-- CHECK_COMPLETE (R493): Checking ends in CHECKED or IDLE with a code. -/
  | checkComplete
  /-- UPD_WRITE (R496): WRITE writes the checked package to NOR under the journal. -/
  | updWrite (q : Requester)
  /-- WRITE_COMPLETE (R495): The image write ends in WRITTEN or IDLE with the journal open. -/
  | writeComplete (ok : Bool)
  /-- UPD_ACTIVATE (R499): ACTIVATE starts a warm activation or a reset into the new image. -/
  | updActivate (q : Requester)
  /-- UPD_ABANDON (R496): ABANDON returns a CHECKED update to IDLE. -/
  | updAbandon (q : Requester)
  /-- UPD_SVN_COMMIT (R503): Programs SVN fuses up to the running SVN. -/
  | updSvnCommit (q : Requester)
  /-- UPD_OWNER_PK (R504): Fuses the hash of the owner public key. -/
  | updOwnerPk (q : Requester)
  /-- ACTIVATION_HOLD (R500): At B1 stations send HOLD frames and metering saves its record. -/
  | activationHold
  /-- ACTIVATION_PAUSE_START (R500): At B1 + 3 ms the pause begins and the engines restart from NOR. -/
  | activationPauseStart
  /-- ACTIVATION_PAUSE_END (R500): The first tick boundary after the engines start ends the pause. -/
  | activationPauseEnd (ok : Bool) (counts : Nat)
  /-- RECOVERY_INFO (R507): Returns the module's recovery state. -/
  | recoveryInfo (m : Fin 3) (mac : List Byte) (seq : Word)
  /-- RECOVERY_CHALLENGE (R508): Returns a new nonce. -/
  | recoveryChallenge (m : Fin 3) (mac : List Byte) (seq : Word)
  /-- RECOVERY_LOAD (R507): Writes data into the download buffer. -/
  | recoveryLoad (m : Fin 3) (mac : List Byte) (seq : Word) (off : Word) (data : List Byte)
  /-- RECOVERY_COMMIT (R507): Checks the downloaded package and starts writing it. -/
  | recoveryCommit (m : Fin 3) (mac : List Byte) (seq : Word) (total : Word)
  /-- RECOVERY_WRITE_COMPLETE (R507): The ROM's image write ends in DONE or FAILED. -/
  | recoveryWriteComplete (ok : Bool)
  /-- RECOVERY_CLEAR_TAMPER (R508): Clears the tamper latch after owner-key authentication. -/
  | recoveryClearTamper (m : Fin 3) (mac : List Byte) (seq : Word) (data : List Byte)
  /-- RECOVERY_RESET (R507): Resets the module without a recovery request. -/
  | recoveryReset (m : Fin 3) (mac : List Byte) (seq : Word)
  /-- RECOVERY_SESSION_TIMEOUT (R507): A session idle for 60 s ends. -/
  | recoverySessionTimeout
  /-- SUPPLY_FAIL (R456): VAON or a core supply fails, holding the module in reset and, with VBKP holding the backup domain, entering BACKUP. -/
  | supplyFail (vbkp : Bool)
  /-- CLAIS_LINK_UP (R347): A Clais lane completes training and the partner answers, so the twin link comes up and the bulk transfer, heartbeats and delay measurement can begin. -/
  | claisLinkUp (lanes : BitVec 2)
  /-- CLAIS_LINK_DOWN (R347): The Clais link is lost, so SYNC leaves SYNCED and the active sets PARTNER_ABSENT. -/
  | claisLinkDown
  /-- HOST_LINK_UP (R299): A host MAC's external PHY reports link up through in-band status or forcing, which sets HM_LINK and PG_ISR LINK_UP. -/
  | hostLinkUp (m : Fin 6) (speed : Fin 4)
  /-- HOST_LINK_DOWN (R300): A host MAC's link goes down, which sets LINK_DOWN and, in STOPPING, discards the queued frames so that OFF can be reached. -/
  | hostLinkDown (m : Fin 6)
  deriving DecidableEq, Repr

end Sys2Proof
end

