-- ==== Sys2Proof/Machine/Bits.lean ====
section
/-! DEFINITION. Bit fields, extension, byte order and the sparse tables of the model. -/

namespace Sys2Proof.Machine

/-- Bits [hi:lo] of a natural number. -/
def natBits (n hi lo : Nat) : Nat := (n >>> lo) % 2 ^ (hi + 1 - lo)

/-- Bits [hi:lo] of a word, as a number. -/
def bits (w : Word) (hi lo : Nat) : Nat := natBits w.toNat hi lo

/-- Bit n of a word. -/
def bit (w : Word) (n : Nat) : Bool := w.toNat.testBit n

/-- `w` with its bits [hi:lo] replaced by `v` (the low bits of `v` that fit). -/
def withBits (w : Word) (hi lo v : Nat) : Word :=
  let m := 2 ^ (hi + 1 - lo)
  let n := w.toNat
  BitVec.ofNat 32 (n - natBits n hi lo * 2 ^ lo + (v % m) * 2 ^ lo)

/-- A field of a register: its highest and its lowest bit. -/
structure Fld where
  hi : Nat
  lo : Nat
  deriving DecidableEq, Repr

/-- The signed reading of the low `w` bits of `n` (two's complement). -/
def signedOf (w n : Nat) : Int :=
  let m := n % 2 ^ w
  if m < 2 ^ (w - 1) then (m : Int) else (m : Int) - (2 ^ w : Nat)

/-- The `w`-bit two's-complement code of an integer (modulo 2^w). -/
def codeOf (w : Nat) (i : Int) : Nat := (i % ((2 ^ w : Nat) : Int)).toNat

/-- An integer held between two bounds. -/
def clampInt (lo hi x : Int) : Int := if x < lo then lo else if hi < x then hi else x

/-- A number cut off at the top of a `w`-bit counter that stops there. -/
def satAdd (w a b : Nat) : Nat := if a + b < 2 ^ w then a + b else 2 ^ w - 1

/-- A signed quotient rounded to nearest, halves away from zero; 0 for a zero divisor. -/
def roundDiv (a b : Int) : Int :=
  if b = 0 then 0
  else
    let n := a.natAbs
    let d := b.natAbs
    let q := (2 * n + d) / (2 * d)
    if (a < 0) = (b < 0) then (q : Int) else -(q : Int)

/-- The little-endian bytes of a number (R38: multi-byte fields are little-endian). -/
def leBytes : Nat → Nat → List Byte
  | 0, _ => []
  | k + 1, n => BitVec.ofNat 8 n :: leBytes k (n / 256)

/-- The number that little-endian bytes spell. -/
def leNat : List Byte → Nat
  | [] => 0
  | b :: r => b.toNat + 256 * leNat r

/-- The big-endian bytes of a number (frames, keys). -/
def beBytes (k n : Nat) : List Byte := (leBytes k n).reverse

/-- The number that big-endian bytes spell. -/
def beNat (l : List Byte) : Nat := leNat l.reverse

/-- The `n` entries of `l` from place `i`, with `d` where the list has none. -/
def sliceD {α : Type} (d : α) (l : List α) (i : Nat) : Nat → List α
  | 0 => []
  | k + 1 => l.getD i d :: sliceD d l (i + 1) k

/-- `l` with its entry at place `i` replaced (unchanged beyond its end). -/
def setAt {α : Type} : List α → Nat → α → List α
  | [], _, _ => []
  | _ :: r, 0, v => v :: r
  | x :: r, i + 1, v => x :: setAt r i v

/-- A sparse table: what stands at each listed key; `d` gives what an unlisted key holds. -/
abbrev Table (α : Type) := List (Nat × α)

/-- The entry of a sparse table at a key. -/
def tget {α : Type} (d : Nat → α) : Table α → Nat → α
  | [], k => d k
  | (j, v) :: r, k => if k = j then v else if k < j then d k else tget d r k

/-- Put `v` at `k`, keeping the canonical form: keys rise strictly and no entry equals what an
unlisted key holds. -/
def tput {α : Type} [DecidableEq α] (d : Nat → α) : Table α → Nat → α → Table α
  | [], k, v => if v = d k then [] else [(k, v)]
  | (j, u) :: r, k, v =>
    if k < j then (if v = d k then (j, u) :: r else (k, v) :: (j, u) :: r)
    else if k = j then (if v = d k then r.dropWhile (fun e => decide (e.1 ≤ k)) else (k, v) :: r)
    else (j, u) :: tput d r k v

/-- Every key of the table lies above `b`, keys rise and no entry equals the unlisted value. -/
def twfFrom {α : Type} [DecidableEq α] (d : Nat → α) : Nat → Table α → Bool
  | _, [] => true
  | b, (k, v) :: r => decide (b ≤ k) && decide (v ≠ d k) && twfFrom d (k + 1) r

/-- The canonical form of a sparse table. -/
def twf {α : Type} [DecidableEq α] (d : Nat → α) (m : Table α) : Bool := twfFrom d 0 m

/-- The entries of a table whose keys, at `b` or above, a condition keeps; every other key holds its unlisted value. -/
def tkeepFrom {α : Type} (p : Nat → Bool) : Nat → Table α → Table α
  | _, [] => []
  | b, (k, v) :: r => if k < b then tkeepFrom p b r else if p k then (k, v) :: tkeepFrom p (k + 1) r else tkeepFrom p (k + 1) r
def tkeep {α : Type} (p : Nat → Bool) (m : Table α) : Table α := tkeepFrom p 0 m

/-- Fold a state update over a list of places. -/
def forAll {σ α : Type} (f : σ → α → σ) (l : List α) (x : σ) : σ := l.foldl f x

/-- The numbers below `n`, in rising order. -/
def upTo (n : Nat) : List Nat := List.range n

/-- A bit as a number. -/
def b2n (b : Bool) : Nat := if b then 1 else 0

end Sys2Proof.Machine
end

