-- ==== Sys2Proof/Machine/Crc.lean ====
section
/-! DEFINITION. CRC-64 of the shadow comparison (R346): polynomial 42F0_E1EB_A9EA_3693h, reflected, initial value and final XOR all ones. -/

namespace Sys2Proof.Machine

/-- Eight shifts of the reflected register. -/
def crc64Shift : Nat → DWord → DWord
  | 0, r => r
  | n + 1, r => crc64Shift n (if r.getLsbD 0 then (r >>> 1) ^^^ 0xC96C5795D7870F42 else r >>> 1)

/-- The CRC-64 of a list of bytes. -/
def crc64 (l : List Byte) : DWord :=
  ~~~(l.foldl (fun (r : DWord) b => crc64Shift 8 (r ^^^ b.setWidth 64)) (~~~(0 : DWord)))

end Sys2Proof.Machine
end

