-- ==== Sys2Proof/Config.lean ====
section
/-! DEFINITION. What one implementation fixes and the manual leaves open. A value the manual leaves open is an
opaque constant here: nothing can evaluate it, so a claim holds whatever the value is. -/

namespace Sys2Proof.Config

/-- What a byte of SRAM, queue SRAM or DRAM reads as before it is written after the `n`-th module reset (R534:
undefined values, returned without error). Free value: assumption 5. -/
opaque undefinedByte (n addr : Nat) : Byte

/-- The bytes of the boot ROM (R11, R534: it always holds its code, which the manual does not print). Free value: assumption 6. -/
opaque romByte (addr : Nat) : Byte

/-- A word that the manual leaves undefined or to the implementation: the `k`-th that a run meets. Free value: assumption 7. -/
opaque freeWord (k : Nat) : Word

/-- A 64-bit value that the manual leaves undefined or to the implementation: the `k`-th that a run meets. Free value: assumption 7. -/
opaque freeDWord (k : Nat) : DWord

/-- A byte of the security core's random generator: the `k`-th it gives (R404, R413: random keys, nonces and masks). Free value: assumption 8. -/
opaque randomByte (k : Nat) : Byte

/-- A byte of the NOR whose contents the manual does not print (the delivered firmware package), or that an interrupted program or erase
left undefined; `n` counts such images. Free value: assumption 6. -/
opaque norByte (n off : Nat) : Byte

/-- A byte of the Ametus signing key that the boot ROM holds for a KEY_ID (R491): x then y. Free value: assumption 6. -/
opaque ametusKey (id n : Nat) : Byte

/-- A byte of the factory MAC address in OTP (R505). Free value: assumption 6. -/
opaque factoryMac (n : Nat) : Byte

end Sys2Proof.Config
end

