-- ==== Sys2Proof/Machine/RegNames.lean ====
section
/-! DEFINITION. The names of the block registers and of their fields, as the register headings and field tables of
spec/01_register_pages.md to spec/17_update_and_recovery.md give them. A register's key is its page times 1000h plus its
offset; a register shown through a selector (a loop of an LPE page, a circuit of the MTR page) has the selected slot,
plus one, above that. -/

namespace Sys2Proof.Machine

/-- The key of a register: its page, its offset within the page, and the selected slot plus one where a selector shows it. -/
def regKey (page off win : Nat) : Nat := (win * 256 + page) * 4096 + off


/-! Chapter 01. -/
/-- EVT_ROUTE. -/
def R.EVT_ROUTE (s : Nat) : Nat := regKey 0x7 (0x100 + 0x4 * s) 0
def F.EVT_ROUTE_EN : Fld := ⟨31, 31⟩
def F.EVT_ROUTE_TARGET : Fld := ⟨4, 0⟩
/-- EVT_PEND. -/
def R.EVT_PEND (k : Nat) : Nat := regKey 0x7 (0x600 + 0x4 * k) 0
/-- EVT_NEXT. -/
def R.EVT_NEXT (t : Nat) : Nat := regKey 0x7 (0x700 + 0x4 * t) 0
def F.EVT_NEXT_VALID : Fld := ⟨31, 31⟩
def F.EVT_NEXT_SOURCE : Fld := ⟨8, 0⟩

/-! Chapter 02. -/
/-- PTD_SEL. -/
def R.PTD_SEL : Nat := regKey 0x30 0x40 0
def F.PTD_SEL_POINT : Fld := ⟨12, 0⟩
/-- PTD_ATTR. -/
def R.PTD_ATTR : Nat := regKey 0x30 0x44 0
def F.PTD_ATTR_ALLOC : Fld := ⟨31, 31⟩
def F.PTD_ATTR_OWNER : Fld := ⟨20, 16⟩
def F.PTD_ATTR_DTYPE : Fld := ⟨15, 8⟩
/-- PTD_READERS. -/
def R.PTD_READERS : Nat := regKey 0x30 0x48 0
/-- PTD_CMD. -/
def R.PTD_CMD : Nat := regKey 0x30 0x4C 0
def F.PTD_CMD_OP : Fld := ⟨2, 0⟩
/-- PTD_COUNT. -/
def R.PTD_COUNT : Nat := regKey 0x30 0x50 0
def F.PTD_COUNT_ALLOCATED : Fld := ⟨13, 0⟩
/-- FLK_CFG. -/
def R.FLK_CFG (n : Nat) : Nat := regKey 0x31 (0x40 + 0x4 * n) 0
def F.FLK_CFG_EN : Fld := ⟨31, 31⟩
def F.FLK_CFG_ERR_TASK : Fld := ⟨22, 16⟩
def F.FLK_CFG_QUOTA : Fld := ⟨13, 0⟩
/-- FLK_OWNED. -/
def R.FLK_OWNED (n : Nat) : Nat := regKey 0x31 (0xC0 + 0x4 * n) 0
def F.FLK_OWNED_COUNT : Fld := ⟨13, 0⟩
/-- FLK_DENY. -/
def R.FLK_DENY (n : Nat) : Nat := regKey 0x31 (0x140 + 0x4 * n) 0
/-- FLK_DENY_CLR. -/
def R.FLK_DENY_CLR : Nat := regKey 0x31 0x1C0 0
/-- FLK_DENY_LAST. -/
def R.FLK_DENY_LAST : Nat := regKey 0x31 0x1C4 0
def F.FLK_DENY_LAST_VALID : Fld := ⟨31, 31⟩
def F.FLK_DENY_LAST_FLASK : Fld := ⟨28, 24⟩
def F.FLK_DENY_LAST_PATH : Fld := ⟨23, 20⟩
def F.FLK_DENY_LAST_TARGET : Fld := ⟨12, 0⟩
/-- FRC_POINT. -/
def R.FRC_POINT : Nat := regKey 0x32 0x40 0
def F.FRC_POINT_POINT : Fld := ⟨12, 0⟩
/-- FRC_VALUE. -/
def R.FRC_VALUE (h : Nat) : Nat := regKey 0x32 (0x44 + 0x4 * h) 0
/-- FRC_CMD. -/
def R.FRC_CMD : Nat := regKey 0x32 0x4C 0
def F.FRC_CMD_OP : Fld := ⟨2, 0⟩
/-- FRC_INDEX. -/
def R.FRC_INDEX : Nat := regKey 0x32 0x50 0
def F.FRC_INDEX_INDEX : Fld := ⟨9, 0⟩
/-- FRC_RESULT. -/
def R.FRC_RESULT : Nat := regKey 0x32 0x54 0
def F.FRC_RESULT_HIT : Fld := ⟨31, 31⟩
def F.FRC_RESULT_ORPHAN : Fld := ⟨30, 30⟩
def F.FRC_RESULT_WRITTEN : Fld := ⟨29, 29⟩
def F.FRC_RESULT_SETTER : Fld := ⟨28, 24⟩
def F.FRC_RESULT_INDEX : Fld := ⟨23, 14⟩
def F.FRC_RESULT_POINT : Fld := ⟨12, 0⟩
/-- FRC_RVALUE. -/
def R.FRC_RVALUE (h : Nat) : Nat := regKey 0x32 (0x58 + 0x4 * h) 0
/-- FRC_UVALUE. -/
def R.FRC_UVALUE (h : Nat) : Nat := regKey 0x32 (0x60 + 0x4 * h) 0
/-- FRC_UINFO. -/
def R.FRC_UINFO : Nat := regKey 0x32 0x68 0
def F.FRC_UINFO_SOURCE : Fld := ⟨31, 16⟩
def F.FRC_UINFO_QUALITY : Fld := ⟨7, 0⟩
/-- FRC_COUNT. -/
def R.FRC_COUNT : Nat := regKey 0x32 0x6C 0
def F.FRC_COUNT_COUNT : Fld := ⟨10, 0⟩

/-! Chapter 03. -/
/-- SCN_TCFG. -/
def R.SCN_TCFG (n : Nat) : Nat := regKey 0x38 (0x100 + 0x10 * n) 0
def F.SCN_TCFG_EN : Fld := ⟨31, 31⟩
def F.SCN_TCFG_TRIG : Fld := ⟨30, 28⟩
def F.SCN_TCFG_CORE : Fld := ⟨26, 24⟩
def F.SCN_TCFG_PRIO : Fld := ⟨19, 16⟩
def F.SCN_TCFG_FLASK : Fld := ⟨12, 8⟩
def F.SCN_TCFG_TRAP_ACT : Fld := ⟨2, 2⟩
def F.SCN_TCFG_DOZE_RUN : Fld := ⟨1, 1⟩
/-- SCN_TPER. -/
def R.SCN_TPER (n : Nat) : Nat := regKey 0x38 (0x104 + 0x10 * n) 0
def F.SCN_TPER_PHASE : Fld := ⟨31, 16⟩
def F.SCN_TPER_PERIOD : Fld := ⟨15, 0⟩
/-- SCN_TBUD. -/
def R.SCN_TBUD (n : Nat) : Nat := regKey 0x38 (0x108 + 0x10 * n) 0
def F.SCN_TBUD_OVR_LIMIT : Fld := ⟨31, 24⟩
def F.SCN_TBUD_WDOG_US : Fld := ⟨23, 0⟩
/-- SCN_TSRC. -/
def R.SCN_TSRC (n : Nat) : Nat := regKey 0x38 (0x10C + 0x10 * n) 0
def F.SCN_TSRC_EVENT : Fld := ⟨23, 16⟩
def F.SCN_TSRC_MOULD_TASK : Fld := ⟨5, 0⟩
/-- SCN_TSTAT. -/
def R.SCN_TSTAT (n : Nat) : Nat := regKey 0x38 (0x500 + 0x10 * n) 0
def F.SCN_TSTAT_STATE : Fld := ⟨31, 29⟩
def F.SCN_TSTAT_LAST_CAUSE : Fld := ⟨23, 16⟩
def F.SCN_TSTAT_CONSEC : Fld := ⟨15, 8⟩
def F.SCN_TSTAT_PEND : Fld := ⟨0, 0⟩
/-- SCN_TRUNS. -/
def R.SCN_TRUNS (n : Nat) : Nat := regKey 0x38 (0x504 + 0x10 * n) 0
/-- SCN_TOVR. -/
def R.SCN_TOVR (n : Nat) : Nat := regKey 0x38 (0x508 + 0x10 * n) 0
def F.SCN_TOVR_DROPPED : Fld := ⟨31, 16⟩
def F.SCN_TOVR_COALESCED : Fld := ⟨15, 0⟩
/-- SCN_TTIME. -/
def R.SCN_TTIME (n : Nat) : Nat := regKey 0x38 (0x50C + 0x10 * n) 0
def F.SCN_TTIME_MAX_US : Fld := ⟨31, 16⟩
def F.SCN_TTIME_LAST_US : Fld := ⟨15, 0⟩
/-- SCN_TCLR. -/
def R.SCN_TCLR : Nat := regKey 0x38 0x40 0
def F.SCN_TCLR_ALL : Fld := ⟨31, 31⟩
def F.SCN_TCLR_TASK : Fld := ⟨5, 0⟩
/-- SCN_RETSZ. -/
def R.SCN_RETSZ : Nat := regKey 0x38 0x44 0
def F.SCN_RETSZ_BYTES : Fld := ⟨21, 0⟩
/-- SCN_STAGE. -/
def R.SCN_STAGE : Nat := regKey 0x38 0x48 0
def F.SCN_STAGE_FILL : Fld := ⟨19, 0⟩
/-- SCN_PFWST. -/
def R.SCN_PFWST : Nat := regKey 0x38 0x4C 0
def F.SCN_PFWST_VALID : Fld := ⟨31, 31⟩
def F.SCN_PFWST_COMPLETE : Fld := ⟨30, 30⟩
def F.SCN_PFWST_ABANDONED : Fld := ⟨23, 16⟩
def F.SCN_PFWST_DRAIN_US : Fld := ⟨15, 0⟩
/-- SCC_STATUS. -/
def R.SCC_STATUS (p : Nat) : Nat := regKey (0x39 + p) 0x40 0
def F.SCC_STATUS_CUR_TASK : Fld := ⟨30, 24⟩
def F.SCC_STATUS_BOUND : Fld := ⟨19, 16⟩
def F.SCC_STATUS_LOAD : Fld := ⟨9, 0⟩
/-- SCC_WAIT. -/
def R.SCC_WAIT (p : Nat) : Nat := regKey (0x39 + p) 0x44 0
def F.SCC_WAIT_WAIT_MAX : Fld := ⟨15, 0⟩
/-- SCC_UCAUSE. -/
def R.SCC_UCAUSE (p : Nat) : Nat := regKey (0x39 + p) 0x48 0
def F.SCC_UCAUSE_VALID : Fld := ⟨31, 31⟩
def F.SCC_UCAUSE_OVF : Fld := ⟨30, 30⟩
def F.SCC_UCAUSE_CAUSE : Fld := ⟨23, 16⟩
def F.SCC_UCAUSE_NOTASK : Fld := ⟨14, 14⟩
def F.SCC_UCAUSE_TASK : Fld := ⟨13, 8⟩
def F.SCC_UCAUSE_REASON : Fld := ⟨7, 0⟩
/-- SCC_UDETAIL. -/
def R.SCC_UDETAIL (p : Nat) : Nat := regKey (0x39 + p) 0x4C 0

/-! Chapter 04. -/
/-- SCN_MCODE. -/
def R.SCN_MCODE (n : Nat) : Nat := regKey 0x38 (0x900 + 0x10 * n) 0
/-- SCN_MCSZ. -/
def R.SCN_MCSZ (n : Nat) : Nat := regKey 0x38 (0x904 + 0x10 * n) 0
def F.SCN_MCSZ_SIZE : Fld := ⟨22, 0⟩
/-- SCN_MDATA. -/
def R.SCN_MDATA (n : Nat) : Nat := regKey 0x38 (0x908 + 0x10 * n) 0
/-- SCN_MDSZ. -/
def R.SCN_MDSZ (n : Nat) : Nat := regKey 0x38 (0x90C + 0x10 * n) 0
def F.SCN_MDSZ_SIZE : Fld := ⟨22, 0⟩

/-! Chapter 05. -/
/-- XCH_SRC. -/
def R.XCH_SRC : Nat := regKey 0x41 0x40 0
/-- XCH_LEN. -/
def R.XCH_LEN : Nat := regKey 0x41 0x44 0
/-- XCH_REQ. -/
def R.XCH_REQ : Nat := regKey 0x41 0x48 0
def F.XCH_REQ_KEY : Fld := ⟨15, 8⟩
def F.XCH_REQ_FLASK : Fld := ⟨4, 0⟩
/-- XCH_RPT. -/
def R.XCH_RPT : Nat := regKey 0x41 0x4C 0
/-- XCH_RPTSZ. -/
def R.XCH_RPTSZ : Nat := regKey 0x41 0x50 0
def F.XCH_RPTSZ_SIZE : Fld := ⟨20, 0⟩
/-- XCH_TMO. -/
def R.XCH_TMO : Nat := regKey 0x41 0x54 0
def F.XCH_TMO_TMO_MS : Fld := ⟨15, 0⟩
/-- XCH_CMD. -/
def R.XCH_CMD : Nat := regKey 0x41 0x58 0
def F.XCH_CMD_OP : Fld := ⟨2, 0⟩
/-- XCH_STATUS. -/
def R.XCH_STATUS : Nat := regKey 0x41 0x5C 0
def F.XCH_STATUS_STATE : Fld := ⟨31, 29⟩
def F.XCH_STATUS_FLASK : Fld := ⟨28, 24⟩
def F.XCH_STATUS_RESULT : Fld := ⟨23, 16⟩
def F.XCH_STATUS_ROLLBACK : Fld := ⟨1, 1⟩
def F.XCH_STATUS_TRUNC : Fld := ⟨0, 0⟩
/-- XCH_TIME. -/
def R.XCH_TIME : Nat := regKey 0x41 0x60 0
def F.XCH_TIME_WAIT_MS : Fld := ⟨31, 16⟩
def F.XCH_TIME_MIG_US : Fld := ⟨15, 0⟩
/-- XCH_POOL. -/
def R.XCH_POOL : Nat := regKey 0x41 0x64 0
def F.XCH_POOL_FREE : Fld := ⟨23, 0⟩
/-- XCH_MID. -/
def R.XCH_MID (n : Nat) : Nat := regKey 0x41 (0x80 + 0x4 * n) 0

/-! Chapter 06. -/
/-- LPG_GSWAP. -/
def R.LPG_GSWAP : Nat := regKey 0x48 0x40 0
def F.LPG_GSWAP_GROUP : Fld := ⟨15, 0⟩
/-- LPE_LSEL. -/
def R.LPE_LSEL (p : Nat) : Nat := regKey (0x49 + p) 0x40 0
def F.LPE_LSEL_SLOT : Fld := ⟨6, 0⟩
/-- LPE_LOAD. -/
def R.LPE_LOAD (p : Nat) : Nat := regKey (0x49 + p) 0x44 0
def F.LPE_LOAD_MAX_EVAL : Fld := ⟨31, 16⟩
def F.LPE_LOAD_LOAD : Fld := ⟨9, 0⟩
/-- LPE_COUNT. -/
def R.LPE_COUNT (p : Nat) : Nat := regKey (0x49 + p) 0x48 0
def F.LPE_COUNT_ON : Fld := ⟨7, 0⟩
/-- LPE_CTRL. -/
def R.LPE_CTRL (l : Nat) : Nat := regKey (0x49 + l / 128) 0x100 (l % 128 + 1)
def F.LPE_CTRL_EN : Fld := ⟨31, 31⟩
def F.LPE_CTRL_MODE : Fld := ⟨26, 24⟩
def F.LPE_CTRL_BUMPLESS : Fld := ⟨17, 17⟩
def F.LPE_CTRL_FAIL_ACT : Fld := ⟨16, 16⟩
def F.LPE_CTRL_GROUP : Fld := ⟨3, 0⟩
/-- LPE_CFG. -/
def R.LPE_CFG (l : Nat) : Nat := regKey (0x49 + l / 128) 0x104 (l % 128 + 1)
def F.LPE_CFG_FLASK : Fld := ⟨28, 24⟩
def F.LPE_CFG_SP_SRC : Fld := ⟨19, 18⟩
def F.LPE_CFG_TGT_PT : Fld := ⟨17, 17⟩
def F.LPE_CFG_INTEG : Fld := ⟨16, 16⟩
def F.LPE_CFG_REVERSE : Fld := ⟨12, 12⟩
def F.LPE_CFG_DOZE_RUN : Fld := ⟨8, 8⟩
def F.LPE_CFG_NSEC : Fld := ⟨2, 0⟩
/-- LPE_TIME. -/
def R.LPE_TIME (l : Nat) : Nat := regKey (0x49 + l / 128) 0x108 (l % 128 + 1)
def F.LPE_TIME_PHASE : Fld := ⟨31, 16⟩
def F.LPE_TIME_DIV : Fld := ⟨15, 0⟩
/-- LPE_PTS. -/
def R.LPE_PTS (l : Nat) : Nat := regKey (0x49 + l / 128) 0x10C (l % 128 + 1)
def F.LPE_PTS_SP_REF : Fld := ⟨28, 16⟩
def F.LPE_PTS_IN_PT : Fld := ⟨12, 0⟩
/-- LPE_PTO. -/
def R.LPE_PTO (l : Nat) : Nat := regKey (0x49 + l / 128) 0x110 (l % 128 + 1)
def F.LPE_PTO_TRK_PT : Fld := ⟨28, 16⟩
def F.LPE_PTO_OUT_PT : Fld := ⟨12, 0⟩
/-- LPE_SCL. -/
def R.LPE_SCL (l n : Nat) : Nat := regKey (0x49 + l / 128) (0x114 + 0x4 * n) (l % 128 + 1)
/-- LPE_LIM. -/
def R.LPE_LIM (l n : Nat) : Nat := regKey (0x49 + l / 128) (0x128 + 0x4 * n) (l % 128 + 1)
/-- LPE_SPC. -/
def R.LPE_SPC (l : Nat) : Nat := regKey (0x49 + l / 128) 0x130 (l % 128 + 1)
/-- LPE_MAN. -/
def R.LPE_MAN (l : Nat) : Nat := regKey (0x49 + l / 128) 0x134 (l % 128 + 1)
/-- LPE_FAILV. -/
def R.LPE_FAILV (l : Nat) : Nat := regKey (0x49 + l / 128) 0x138 (l % 128 + 1)
/-- LPE_BANK. -/
def R.LPE_BANK (l : Nat) : Nat := regKey (0x49 + l / 128) 0x13C (l % 128 + 1)
def F.LPE_BANK_SWAP_PEND : Fld := ⟨2, 2⟩
def F.LPE_BANK_SWAP : Fld := ⟨1, 1⟩
def F.LPE_BANK_ACTIVE : Fld := ⟨0, 0⟩
/-- LPE_LSTAT. -/
def R.LPE_LSTAT (l : Nat) : Nat := regKey (0x49 + l / 128) 0x140 (l % 128 + 1)
def F.LPE_LSTAT_SAT_HI : Fld := ⟨31, 31⟩
def F.LPE_LSTAT_SAT_LO : Fld := ⟨30, 30⟩
def F.LPE_LSTAT_IN_FAULT : Fld := ⟨29, 29⟩
def F.LPE_LSTAT_OUTPUT_DENIED : Fld := ⟨23, 23⟩
def F.LPE_LSTAT_STATE_SAT : Fld := ⟨22, 22⟩
def F.LPE_LSTAT_FAULT_SEEN : Fld := ⟨21, 21⟩
def F.LPE_LSTAT_SWAPPED : Fld := ⟨20, 20⟩
def F.LPE_LSTAT_TYPE_BAD : Fld := ⟨19, 19⟩
def F.LPE_LSTAT_PRF_DONE : Fld := ⟨9, 9⟩
def F.LPE_LSTAT_SUSP : Fld := ⟨5, 5⟩
def F.LPE_LSTAT_REARM : Fld := ⟨4, 4⟩
def F.LPE_LSTAT_STATE : Fld := ⟨1, 0⟩
/-- LPE_PRFT. -/
def R.LPE_PRFT (l : Nat) : Nat := regKey (0x49 + l / 128) 0x150 (l % 128 + 1)
/-- LPE_PRFL. -/
def R.LPE_PRFL (l n : Nat) : Nat := regKey (0x49 + l / 128) (0x154 + 0x4 * n) (l % 128 + 1)
/-- LPE_PRFS. -/
def R.LPE_PRFS (l n : Nat) : Nat := regKey (0x49 + l / 128) (0x160 + 0x4 * n) (l % 128 + 1)
/-- LPE_COEF. -/
def R.LPE_COEF (l b k c : Nat) : Nat := regKey (0x49 + l / 128) (0x180 + 0x50 * b + 0x14 * k + 0x4 * c) (l % 128 + 1)
/-- LPE_STATE. -/
def R.LPE_STATE (l k j h : Nat) : Nat := regKey (0x49 + l / 128) (0x220 + 0x10 * k + 0x8 * j + 0x4 * h) (l % 128 + 1)
/-- LPE_XL. -/
def R.LPE_XL (l : Nat) : Nat := regKey (0x49 + l / 128) 0x260 (l % 128 + 1)
/-- LPE_UVAL. -/
def R.LPE_UVAL (l : Nat) : Nat := regKey (0x49 + l / 128) 0x264 (l % 128 + 1)
/-- LPE_PVN. -/
def R.LPE_PVN (l : Nat) : Nat := regKey (0x49 + l / 128) 0x268 (l % 128 + 1)
/-- LPE_SPN. -/
def R.LPE_SPN (l : Nat) : Nat := regKey (0x49 + l / 128) 0x26C (l % 128 + 1)

/-! Chapter 07. -/
/-- MTR_ZC. -/
def R.MTR_ZC : Nat := regKey 0x50 0x40 0
def F.MTR_ZC_ZC_HYST : Fld := ⟨15, 8⟩
def F.MTR_ZC_ZC_TMO : Fld := ⟨7, 0⟩
/-- MTR_DEM. -/
def R.MTR_DEM : Nat := regKey 0x50 0x44 0
def F.MTR_DEM_LEN : Fld := ⟨5, 0⟩
/-- MTR_PUB. -/
def R.MTR_PUB : Nat := regKey 0x50 0x48 0
def F.MTR_PUB_PERIOD : Fld := ⟨6, 0⟩
/-- MTR_SAG. -/
def R.MTR_SAG : Nat := regKey 0x50 0x4C 0
def F.MTR_SAG_EN : Fld := ⟨31, 31⟩
def F.MTR_SAG_SRC : Fld := ⟨26, 24⟩
def F.MTR_SAG_CYCLES : Fld := ⟨23, 16⟩
def F.MTR_SAG_LEVEL : Fld := ⟨15, 0⟩
/-- MTR_VSTAT. -/
def R.MTR_VSTAT (n : Nat) : Nat := regKey 0x50 (0x50 + 0x4 * n) 0
def F.MTR_VSTAT_ZC_LOST : Fld := ⟨31, 31⟩
def F.MTR_VSTAT_SAG : Fld := ⟨30, 30⟩
def F.MTR_VSTAT_PERIOD : Fld := ⟨23, 0⟩
/-- MTR_CSEL. -/
def R.MTR_CSEL : Nat := regKey 0x50 0x80 0
def F.MTR_CSEL_CIRCUIT : Fld := ⟨5, 0⟩
/-- MTR_GAP. -/
def R.MTR_GAP : Nat := regKey 0x50 0x84 0
def F.MTR_GAP_VALID : Fld := ⟨31, 31⟩
def F.MTR_GAP_UNTIMED : Fld := ⟨30, 30⟩
def F.MTR_GAP_LOST : Fld := ⟨29, 29⟩
def F.MTR_GAP_SECONDS : Fld := ⟨28, 0⟩
/-- CIR_CTRL. -/
def R.CIR_CTRL (c : Nat) : Nat := regKey 0x50 0x100 (c + 1)
def F.CIR_CTRL_EN : Fld := ⟨31, 31⟩
/-- CIR_CFG. -/
def R.CIR_CFG (c : Nat) : Nat := regKey 0x50 0x104 (c + 1)
def F.CIR_CFG_FLASK : Fld := ⟨28, 24⟩
def F.CIR_CFG_NEL : Fld := ⟨17, 16⟩
def F.CIR_CFG_ZC_SRC : Fld := ⟨10, 8⟩
/-- CIR_ELEM. -/
def R.CIR_ELEM (c k : Nat) : Nat := regKey 0x50 (0x108 + 0x4 * k) (c + 1)
def F.CIR_ELEM_INVERT : Fld := ⟨15, 15⟩
def F.CIR_ELEM_VCH : Fld := ⟨10, 8⟩
def F.CIR_ELEM_ICH : Fld := ⟨5, 0⟩
/-- CIR_PTS. -/
def R.CIR_PTS (c : Nat) : Nat := regKey 0x50 0x114 (c + 1)
def F.CIR_PTS_PUB_MASK : Fld := ⟨28, 16⟩
def F.CIR_PTS_PT_BASE : Fld := ⟨12, 0⟩
/-- CIR_CMD. -/
def R.CIR_CMD (c : Nat) : Nat := regKey 0x50 0x118 (c + 1)
def F.CIR_CMD_OP : Fld := ⟨1, 0⟩
/-- CIR_STAT. -/
def R.CIR_STAT (c : Nat) : Nat := regKey 0x50 0x11C (c + 1)
def F.CIR_STAT_WRAP : Fld := ⟨29, 24⟩
def F.CIR_STAT_DENIED : Fld := ⟨23, 23⟩
def F.CIR_STAT_CLIP : Fld := ⟨22, 22⟩
def F.CIR_STAT_SUSP : Fld := ⟨7, 7⟩
def F.CIR_STAT_ZC_FB : Fld := ⟨6, 6⟩
def F.CIR_STAT_REARM : Fld := ⟨4, 4⟩
def F.CIR_STAT_STATE : Fld := ⟨1, 0⟩
/-- CIR_E. -/
def R.CIR_E (c r : Nat) : Nat := regKey 0x50 (0x120 + 0x8 * r) (c + 1)
/-- CIR_EH. -/
def R.CIR_EH (c r : Nat) : Nat := regKey 0x50 (0x124 + 0x8 * r) (c + 1)
def F.CIR_EH_WRAPS : Fld := ⟨15, 8⟩
def F.CIR_EH_COUNT : Fld := ⟨7, 0⟩
/-- CIR_DIMP. -/
def R.CIR_DIMP (c : Nat) : Nat := regKey 0x50 0x150 (c + 1)
/-- CIR_DEXP. -/
def R.CIR_DEXP (c : Nat) : Nat := regKey 0x50 0x154 (c + 1)
/-- CIR_DINFO. -/
def R.CIR_DINFO (c : Nat) : Nat := regKey 0x50 0x158 (c + 1)
def F.CIR_DINFO_ADJ : Fld := ⟨31, 31⟩
def F.CIR_DINFO_UNALIGNED : Fld := ⟨30, 30⟩
def F.CIR_DINFO_PARTIAL : Fld := ⟨29, 29⟩
def F.CIR_DINFO_CLIPPED : Fld := ⟨28, 28⟩
def F.CIR_DINFO_LENGTH : Fld := ⟨15, 0⟩
/-- CIR_MAXD. -/
def R.CIR_MAXD (c : Nat) : Nat := regKey 0x50 0x15C (c + 1)
/-- CIR_MAXT. -/
def R.CIR_MAXT (c : Nat) : Nat := regKey 0x50 0x160 (c + 1)
/-- CIR_P. -/
def R.CIR_P (c : Nat) : Nat := regKey 0x50 0x164 (c + 1)
/-- CIR_Q. -/
def R.CIR_Q (c : Nat) : Nat := regKey 0x50 0x168 (c + 1)
/-- MDSP_LOAD. -/
def R.MDSP_LOAD (p : Nat) : Nat := regKey (0x51 + p) 0x40 0
def F.MDSP_LOAD_LOAD : Fld := ⟨9, 0⟩
/-- MDSP_LOST. -/
def R.MDSP_LOST (p : Nat) : Nat := regKey (0x51 + p) 0x44 0
/-- AFE_VFS. -/
def R.AFE_VFS (n : Nat) : Nat := regKey 0x53 (0x40 + 0x4 * n) 0
/-- AFE_IFS. -/
def R.AFE_IFS (n : Nat) : Nat := regKey 0x53 (0x60 + 0x4 * n) 0
/-- AFE_PTRIM. -/
def R.AFE_PTRIM (n : Nat) : Nat := regKey 0x53 (0x120 + 0x4 * n) 0
def F.AFE_PTRIM_PTRIM : Fld := ⟨12, 0⟩
/-- AFE_PATHST. -/
def R.AFE_PATHST (n : Nat) : Nat := regKey 0x53 (0x200 + 0x4 * n) 0
/-- AFE_ICLIP0. -/
def R.AFE_ICLIP0 : Nat := regKey 0x53 0x208 0
/-- AFE_ICLIP1. -/
def R.AFE_ICLIP1 : Nat := regKey 0x53 0x20C 0
def F.AFE_ICLIP1_CLIP : Fld := ⟨15, 0⟩
/-- AFE_VCLIP. -/
def R.AFE_VCLIP : Nat := regKey 0x53 0x210 0
def F.AFE_VCLIP_CLIP : Fld := ⟨5, 0⟩
/-- LCAL_CFG. -/
def R.LCAL_CFG : Nat := regKey 0x54 0x40 0
def F.LCAL_CFG_LIMIT : Fld := ⟨14, 0⟩
/-- LCAL_STAT. -/
def R.LCAL_STAT : Nat := regKey 0x54 0x44 0
def F.LCAL_STAT_RANGE : Fld := ⟨31, 31⟩
def F.LCAL_STAT_DISCARD : Fld := ⟨30, 30⟩
def F.LCAL_STAT_WINDOWS : Fld := ⟨15, 0⟩
/-- LCAL_GAIN. -/
def R.LCAL_GAIN (p : Nat) : Nat := regKey 0x54 (0x100 + 0x4 * p) 0
def F.LCAL_GAIN_TARGET : Fld := ⟨31, 16⟩
def F.LCAL_GAIN_APPLIED : Fld := ⟨15, 0⟩

/-! Chapter 08. -/
/-- FB_CTRL. -/
def R.FB_CTRL (p : Nat) : Nat := regKey (0x58 + p) 0x40 0
def F.FB_CTRL_PXHD : Fld := ⟨6, 6⟩
def F.FB_CTRL_ECHO : Fld := ⟨5, 5⟩
def F.FB_CTRL_RING : Fld := ⟨4, 4⟩
def F.FB_CTRL_SSHOT : Fld := ⟨3, 3⟩
def F.FB_CTRL_LISTEN : Fld := ⟨2, 2⟩
def F.FB_CTRL_FDOE : Fld := ⟨1, 1⟩
/-- FB_NBT. -/
def R.FB_NBT (p : Nat) : Nat := regKey (0x58 + p) 0x44 0
def F.FB_NBT_NBRP : Fld := ⟨31, 23⟩
def F.FB_NBT_NSJW : Fld := ⟨22, 16⟩
def F.FB_NBT_NTSEG1 : Fld := ⟨15, 8⟩
def F.FB_NBT_NTSEG2 : Fld := ⟨6, 0⟩
/-- FB_DBT. -/
def R.FB_DBT (p : Nat) : Nat := regKey (0x58 + p) 0x48 0
def F.FB_DBT_DBRP : Fld := ⟨20, 16⟩
def F.FB_DBT_DSJW : Fld := ⟨15, 12⟩
def F.FB_DBT_DTSEG2 : Fld := ⟨11, 8⟩
def F.FB_DBT_DTSEG1 : Fld := ⟨4, 0⟩
/-- FB_TDC. -/
def R.FB_TDC (p : Nat) : Nat := regKey (0x58 + p) 0x4C 0
def F.FB_TDC_TDCEN : Fld := ⟨31, 31⟩
def F.FB_TDC_TDCF : Fld := ⟨14, 8⟩
def F.FB_TDC_TDCO : Fld := ⟨6, 0⟩
/-- FB_RXQ. -/
def R.FB_RXQ (p : Nat) : Nat := regKey (0x58 + p) 0x50 0
def F.FB_RXQ_QUEUE : Fld := ⟨5, 0⟩
/-- FB_RXOFF. -/
def R.FB_RXOFF (p : Nat) : Nat := regKey (0x58 + p) 0x54 0
def F.FB_RXOFF_OFF : Fld := ⟨22, 0⟩
/-- FB_TXOFF. -/
def R.FB_TXOFF (p : Nat) : Nat := regKey (0x58 + p) 0x58 0
def F.FB_TXOFF_OFF : Fld := ⟨22, 0⟩
/-- FB_RINGN. -/
def R.FB_RINGN (p : Nat) : Nat := regKey (0x58 + p) 0x5C 0
def F.FB_RINGN_TXN : Fld := ⟨26, 16⟩
def F.FB_RINGN_RXN : Fld := ⟨10, 0⟩
/-- FB_TXMAP. -/
def R.FB_TXMAP (p : Nat) : Nat := regKey (0x58 + p) 0x60 0
def F.FB_TXMAP_MAP : Fld := ⟨15, 0⟩
/-- FB_ERRC. -/
def R.FB_ERRC (p : Nat) : Nat := regKey (0x58 + p) 0x64 0
def F.FB_ERRC_RP : Fld := ⟨31, 31⟩
def F.FB_ERRC_REC : Fld := ⟨30, 24⟩
def F.FB_ERRC_TEC : Fld := ⟨8, 0⟩
/-- FB_LEC. -/
def R.FB_LEC (p : Nat) : Nat := regKey (0x58 + p) 0x68 0
def F.FB_LEC_VALID : Fld := ⟨31, 31⟩
def F.FB_LEC_TX : Fld := ⟨4, 4⟩
def F.FB_LEC_DATA : Fld := ⟨3, 3⟩
def F.FB_LEC_CODE : Fld := ⟨2, 0⟩
/-- FB_RXCNT. -/
def R.FB_RXCNT (p : Nat) : Nat := regKey (0x58 + p) 0x6C 0
/-- FB_RXLOST. -/
def R.FB_RXLOST (p : Nat) : Nat := regKey (0x58 + p) 0x70 0
/-- FB_ERRCNT. -/
def R.FB_ERRCNT (p : Nat) : Nat := regKey (0x58 + p) 0x74 0
/-- FB_TXBAD. -/
def R.FB_TXBAD (p : Nat) : Nat := regKey (0x58 + p) 0x78 0
/-- FB_PXCNT. -/
def R.FB_PXCNT (p : Nat) : Nat := regKey (0x58 + p) 0x7C 0
/-- FB_TDCR. -/
def R.FB_TDCR (p : Nat) : Nat := regKey (0x58 + p) 0x80 0
def F.FB_TDCR_TDCV : Fld := ⟨6, 0⟩
/-- FB_CLASH. -/
def R.FB_CLASH (p : Nat) : Nat := regKey (0x58 + p) 0x84 0
def F.FB_CLASH_VALID : Fld := ⟨31, 31⟩
def F.FB_CLASH_IDE : Fld := ⟨29, 29⟩
def F.FB_CLASH_ID : Fld := ⟨28, 0⟩
/-- FB_CLASHP. -/
def R.FB_CLASHP (p : Nat) : Nat := regKey (0x58 + p) 0x88 0
def F.FB_CLASHP_IDCLASH : Fld := ⟨31, 31⟩
def F.FB_CLASHP_COUNT : Fld := ⟨23, 16⟩
def F.FB_CLASHP_BUF : Fld := ⟨15, 12⟩
def F.FB_CLASHP_BITPOS : Fld := ⟨11, 0⟩
/-- FB_CMD. -/
def R.FB_CMD (p : Nat) : Nat := regKey (0x58 + p) 0x8C 0
def F.FB_CMD_RECOVER : Fld := ⟨0, 0⟩
/-- FB_TXREQ. -/
def R.FB_TXREQ (p : Nat) : Nat := regKey (0x58 + p) 0x90 0
def F.FB_TXREQ_BUFS : Fld := ⟨15, 0⟩
/-- FB_TXCAN. -/
def R.FB_TXCAN (p : Nat) : Nat := regKey (0x58 + p) 0x94 0
def F.FB_TXCAN_BUFS : Fld := ⟨15, 0⟩
/-- FB_TXPEND. -/
def R.FB_TXPEND (p : Nat) : Nat := regKey (0x58 + p) 0x98 0
def F.FB_TXPEND_BUFS : Fld := ⟨15, 0⟩
/-- TXB_ID. -/
def R.TXB_ID (p n : Nat) : Nat := regKey (0x58 + p) (0x400 + 0x50 * n) 0
def F.TXB_ID_IDE : Fld := ⟨29, 29⟩
def F.TXB_ID_ID : Fld := ⟨28, 0⟩
/-- TXB_CTL. -/
def R.TXB_CTL (p n : Nat) : Nat := regKey (0x58 + p) (0x404 + 0x50 * n) 0
def F.TXB_CTL_FDF : Fld := ⟨6, 6⟩
def F.TXB_CTL_BRS : Fld := ⟨5, 5⟩
def F.TXB_CTL_RTR : Fld := ⟨4, 4⟩
def F.TXB_CTL_DLC : Fld := ⟨3, 0⟩
/-- TXB_STAT. -/
def R.TXB_STAT (p n : Nat) : Nat := regKey (0x58 + p) (0x408 + 0x50 * n) 0
def F.TXB_STAT_CANCEL_LATE : Fld := ⟨31, 31⟩
def F.TXB_STAT_STATUS : Fld := ⟨26, 24⟩
def F.TXB_STAT_ATTEMPTS : Fld := ⟨7, 0⟩
/-- TXB_TS. -/
def R.TXB_TS (p n : Nat) : Nat := regKey (0x58 + p) (0x40C + 0x50 * n) 0
/-- TXB_DATA. -/
def R.TXB_DATA (p n k : Nat) : Nat := regKey (0x58 + p) (0x410 + 0x50 * n + 0x4 * k) 0

/-! Chapter 09. -/
/-- SPG_MAC0. -/
def R.SPG_MAC0 : Nat := regKey 0x60 0x40 0
/-- SPG_MAC1. -/
def R.SPG_MAC1 : Nat := regKey 0x60 0x44 0
def F.SPG_MAC1_MAC_HI : Fld := ⟨15, 0⟩
/-- SPG_RAILUV. -/
def R.SPG_RAILUV : Nat := regKey 0x60 0x48 0
def F.SPG_RAILUV_UV1 : Fld := ⟨31, 16⟩
def F.SPG_RAILUV_UV0 : Fld := ⟨15, 0⟩
/-- SPG_RAILV. -/
def R.SPG_RAILV : Nat := regKey 0x60 0x4C 0
def F.SPG_RAILV_V1 : Fld := ⟨31, 16⟩
def F.SPG_RAILV_V0 : Fld := ⟨15, 0⟩
/-- STN_ETYPE. -/
def R.STN_ETYPE : Nat := regKey 0x71 0x40 0
def F.STN_ETYPE_ETYPE : Fld := ⟨15, 0⟩
/-- STN_TXOFS. -/
def R.STN_TXOFS : Nat := regKey 0x71 0x44 0
def F.STN_TXOFS_TXOFS : Fld := ⟨8, 0⟩
/-- STN_PHOLD. -/
def R.STN_PHOLD : Nat := regKey 0x71 0x48 0
def F.STN_PHOLD_PHOLD : Fld := ⟨15, 0⟩
/-- STN_UPMAP. -/
def R.STN_UPMAP : Nat := regKey 0x71 0x4C 0
def F.STN_UPMAP_SPURS : Fld := ⟨15, 0⟩
/-- STN_DROPMAP. -/
def R.STN_DROPMAP : Nat := regKey 0x71 0x50 0
def F.STN_DROPMAP_SPURS : Fld := ⟨15, 0⟩
/-- STN_SUPMAP. -/
def R.STN_SUPMAP : Nat := regKey 0x71 0x54 0
def F.STN_SUPMAP_SPURS : Fld := ⟨15, 0⟩
/-- SPU_PCFG. -/
def R.SPU_PCFG (p : Nat) : Nat := regKey (0x61 + p) 0x40 0
def F.SPU_PCFG_PODL : Fld := ⟨31, 31⟩
def F.SPU_PCFG_RAIL : Fld := ⟨30, 30⟩
def F.SPU_PCFG_CLASS_MASK : Fld := ⟨21, 16⟩
def F.SPU_PCFG_AMP : Fld := ⟨1, 0⟩
/-- SPU_TRIP. -/
def R.SPU_TRIP (p : Nat) : Nat := regKey (0x61 + p) 0x44 0
def F.SPU_TRIP_TOVL : Fld := ⟨31, 24⟩
def F.SPU_TRIP_INRUSH : Fld := ⟨23, 16⟩
def F.SPU_TRIP_TRIP : Fld := ⟨7, 0⟩
/-- SPU_SENSE. -/
def R.SPU_SENSE (p : Nat) : Nat := regKey (0x61 + p) 0x48 0
def F.SPU_SENSE_DETPER : Fld := ⟨31, 24⟩
def F.SPU_SENSE_COOL : Fld := ⟨23, 16⟩
def F.SPU_SENSE_RSENSE : Fld := ⟨9, 0⟩
/-- SPU_PSTAT. -/
def R.SPU_PSTAT (p : Nat) : Nat := regKey (0x61 + p) 0x4C 0
def F.SPU_PSTAT_DIS_SLOW : Fld := ⟨31, 31⟩
def F.SPU_PSTAT_CLASS : Fld := ⟨27, 24⟩
def F.SPU_PSTAT_CAUSE : Fld := ⟨18, 16⟩
def F.SPU_PSTAT_PORT : Fld := ⟨2, 0⟩
/-- SPU_PMEAS. -/
def R.SPU_PMEAS (p : Nat) : Nat := regKey (0x61 + p) 0x50 0
def F.SPU_PMEAS_VOLT : Fld := ⟨31, 16⟩
def F.SPU_PMEAS_CURR : Fld := ⟨15, 0⟩
/-- SPU_LINK. -/
def R.SPU_LINK (p : Nat) : Nat := regKey (0x61 + p) 0x54 0
def F.SPU_LINK_SQI : Fld := ⟨10, 8⟩
def F.SPU_LINK_MODE : Fld := ⟨5, 4⟩
def F.SPU_LINK_LINK : Fld := ⟨1, 0⟩
/-- SPU_LCNT. -/
def R.SPU_LCNT (p : Nat) : Nat := regKey (0x61 + p) 0x58 0
/-- SPU_FCNT. -/
def R.SPU_FCNT (p : Nat) : Nat := regKey (0x61 + p) 0x5C 0
/-- SPU_SCTRL. -/
def R.SPU_SCTRL (p : Nat) : Nat := regKey (0x61 + p) 0x100 0
def F.SPU_SCTRL_EN : Fld := ⟨31, 31⟩
/-- SPU_SCFG. -/
def R.SPU_SCFG (p : Nat) : Nat := regKey (0x61 + p) 0x104 0
def F.SPU_SCFG_FAIL_MS : Fld := ⟨23, 16⟩
def F.SPU_SCFG_DROP_N : Fld := ⟨15, 8⟩
def F.SPU_SCFG_STN : Fld := ⟨7, 0⟩
/-- SPU_SLAY. -/
def R.SPU_SLAY (p : Nat) : Nat := regKey (0x61 + p) 0x108 0
/-- SPU_SLEN. -/
def R.SPU_SLEN (p : Nat) : Nat := regKey (0x61 + p) 0x10C 0
def F.SPU_SLEN_IN_LEN : Fld := ⟨25, 16⟩
def F.SPU_SLEN_OUT_LEN : Fld := ⟨9, 0⟩
/-- SPU_SSTAT. -/
def R.SPU_SSTAT (p : Nat) : Nat := regKey (0x61 + p) 0x110 0
def F.SPU_SSTAT_STN_STATE : Fld := ⟨31, 30⟩
def F.SPU_SSTAT_SUPERSEDED : Fld := ⟨29, 29⟩
def F.SPU_SSTAT_MISMATCH : Fld := ⟨28, 28⟩
def F.SPU_SSTAT_SFLAGS : Fld := ⟨27, 24⟩
def F.SPU_SSTAT_HEALTH : Fld := ⟨23, 16⟩
def F.SPU_SSTAT_MISSES : Fld := ⟨15, 8⟩
def F.SPU_SSTAT_REARM : Fld := ⟨4, 4⟩
def F.SPU_SSTAT_STATE : Fld := ⟨1, 0⟩
/-- SPU_SEPOCH. -/
def R.SPU_SEPOCH (p : Nat) : Nat := regKey (0x61 + p) 0x114 0
/-- SPU_SCNT. -/
def R.SPU_SCNT (p : Nat) : Nat := regKey (0x61 + p) 0x118 0
/-- SPU_SMISS. -/
def R.SPU_SMISS (p : Nat) : Nat := regKey (0x61 + p) 0x11C 0
/-- SPU_SDROPS. -/
def R.SPU_SDROPS (p : Nat) : Nat := regKey (0x61 + p) 0x120 0
/-- SPU_SBAD. -/
def R.SPU_SBAD (p : Nat) : Nat := regKey (0x61 + p) 0x124 0
def F.SPU_SBAD_LAST : Fld := ⟨31, 28⟩
def F.SPU_SBAD_COUNT : Fld := ⟨23, 0⟩
/-- SPU_PMPTS. -/
def R.SPU_PMPTS (p : Nat) : Nat := regKey (0x61 + p) 0x180 0
def F.SPU_PMPTS_MASK : Fld := ⟨22, 16⟩
def F.SPU_PMPTS_PT_BASE : Fld := ⟨12, 0⟩
/-- SPU_PMCTRL. -/
def R.SPU_PMCTRL (p : Nat) : Nat := regKey (0x61 + p) 0x184 0
def F.SPU_PMCTRL_EN : Fld := ⟨31, 31⟩
def F.SPU_PMCTRL_UTRACK : Fld := ⟨30, 30⟩
/-- SPU_PMTAU. -/
def R.SPU_PMTAU (p : Nat) : Nat := regKey (0x61 + p) 0x188 0
def F.SPU_PMTAU_TAU : Fld := ⟨15, 0⟩
/-- SPU_PMRINIT. -/
def R.SPU_PMRINIT (p : Nat) : Nat := regKey (0x61 + p) 0x18C 0
/-- SPU_PMSTAT. -/
def R.SPU_PMSTAT (p : Nat) : Nat := regKey (0x61 + p) 0x190 0
def F.SPU_PMSTAT_HELD : Fld := ⟨31, 31⟩
def F.SPU_PMSTAT_R_RANGE : Fld := ⟨30, 30⟩
def F.SPU_PMSTAT_WRAP : Fld := ⟨29, 27⟩
def F.SPU_PMSTAT_SUSP : Fld := ⟨5, 5⟩
def F.SPU_PMSTAT_REARM : Fld := ⟨4, 4⟩
def F.SPU_PMSTAT_STATE : Fld := ⟨1, 0⟩
/-- SPU_PMR. -/
def R.SPU_PMR (p : Nat) : Nat := regKey (0x61 + p) 0x194 0
/-- SPU_PMREV. -/
def R.SPU_PMREV (p : Nat) : Nat := regKey (0x61 + p) 0x198 0
/-- SPU_PME. -/
def R.SPU_PME (p r : Nat) : Nat := regKey (0x61 + p) (0x1A0 + 0x8 * r) 0
/-- SPU_PMEH. -/
def R.SPU_PMEH (p r : Nat) : Nat := regKey (0x61 + p) (0x1A4 + 0x8 * r) 0
def F.SPU_PMEH_WRAPS : Fld := ⟨15, 8⟩
def F.SPU_PMEH_COUNT : Fld := ⟨7, 0⟩
/-- CHn_CFG. -/
def R.CHn_CFG (p n : Nat) : Nat := regKey (0x61 + p) (0x800 + 0x8 * n) 0
def F.CHn_CFG_EN : Fld := ⟨31, 31⟩
def F.CHn_CFG_DIR : Fld := ⟨30, 30⟩
def F.CHn_CFG_TYPE : Fld := ⟨29, 27⟩
def F.CHn_CFG_OFFSET : Fld := ⟨24, 16⟩
def F.CHn_CFG_BIT : Fld := ⟨15, 13⟩
def F.CHn_CFG_POINT : Fld := ⟨12, 0⟩
/-- CHn_SUB. -/
def R.CHn_SUB (p n : Nat) : Nat := regKey (0x61 + p) (0x804 + 0x8 * n) 0

/-! Chapter 10. -/
/-- HM_CFG. -/
def R.HM_CFG (p : Nat) : Nat := regKey (0x78 + p) 0x40 0
def F.HM_CFG_MAXLEN : Fld := ⟨29, 16⟩
def F.HM_CFG_SPEED : Fld := ⟨7, 6⟩
def F.HM_CFG_RXPAUSE : Fld := ⟨3, 3⟩
def F.HM_CFG_VLAN_EN : Fld := ⟨2, 2⟩
def F.HM_CFG_IF : Fld := ⟨1, 0⟩
/-- HM_MACLO. -/
def R.HM_MACLO (p : Nat) : Nat := regKey (0x78 + p) 0x44 0
/-- HM_MACHI. -/
def R.HM_MACHI (p : Nat) : Nat := regKey (0x78 + p) 0x48 0
def F.HM_MACHI_MAC : Fld := ⟨15, 0⟩
/-- HM_IP. -/
def R.HM_IP (p : Nat) : Nat := regKey (0x78 + p) 0x4C 0
/-- HM_VLAN. -/
def R.HM_VLAN (p : Nat) : Nat := regKey (0x78 + p) 0x50 0
def F.HM_VLAN_PCP : Fld := ⟨15, 13⟩
def F.HM_VLAN_VID : Fld := ⟨11, 0⟩
/-- HM_LINK. -/
def R.HM_LINK (p : Nat) : Nat := regKey (0x78 + p) 0x54 0
def F.HM_LINK_UP : Fld := ⟨3, 3⟩
def F.HM_LINK_SPEED : Fld := ⟨1, 0⟩
/-- HM_PTPLAT. -/
def R.HM_PTPLAT (p : Nat) : Nat := regKey (0x78 + p) 0x58 0
def F.HM_PTPLAT_TX_NS : Fld := ⟨31, 16⟩
def F.HM_PTPLAT_RX_NS : Fld := ⟨15, 0⟩
/-- HM_QSTAT. -/
def R.HM_QSTAT (p : Nat) : Nat := regKey (0x78 + p) 0x5C 0
/-- HM_MDIO. -/
def R.HM_MDIO (p : Nat) : Nat := regKey (0x78 + p) 0x60 0
def F.HM_MDIO_BUSY : Fld := ⟨31, 31⟩
def F.HM_MDIO_WRITE : Fld := ⟨30, 30⟩
def F.HM_MDIO_PHYAD : Fld := ⟨25, 21⟩
def F.HM_MDIO_REGAD : Fld := ⟨20, 16⟩
def F.HM_MDIO_DATA : Fld := ⟨15, 0⟩
/-- HM_PTPRX. -/
def R.HM_PTPRX (p k : Nat) : Nat := regKey (0x78 + p) (0x70 + 0x4 * k) 0
/-- HM_PTPRXPOP. -/
def R.HM_PTPRXPOP (p : Nat) : Nat := regKey (0x78 + p) 0x7C 0
/-- HM_PTPTX. -/
def R.HM_PTPTX (p k : Nat) : Nat := regKey (0x78 + p) (0x80 + 0x4 * k) 0
/-- HM_PTPTXPOP. -/
def R.HM_PTPTXPOP (p : Nat) : Nat := regKey (0x78 + p) 0x8C 0
/-- HM_CNTHALF0. -/
def R.HM_CNTHALF0 (p : Nat) : Nat := regKey (0x78 + p) 0xC0 0
/-- HM_CNTHALF1. -/
def R.HM_CNTHALF1 (p : Nat) : Nat := regKey (0x78 + p) 0xC4 0
def F.HM_CNTHALF1_BITS : Fld := ⟨7, 0⟩
/-- HM_CNTCLR. -/
def R.HM_CNTCLR (p : Nat) : Nat := regKey (0x78 + p) 0xC8 0
def F.HM_CNTCLR_CLR : Fld := ⟨0, 0⟩
/-- HM_CNT. -/
def R.HM_CNT (p n : Nat) : Nat := regKey (0x78 + p) (0x200 + 0x4 * n) 0
/-- NRP_CFG. -/
def R.NRP_CFG : Nat := regKey 0x80 0x40 0
def F.NRP_CFG_PORT : Fld := ⟨15, 0⟩
/-- NRP_SAT. -/
def R.NRP_SAT : Nat := regKey 0x80 0x44 0
def F.NRP_SAT_THR_OFF : Fld := ⟨15, 8⟩
def F.NRP_SAT_THR_ON : Fld := ⟨7, 0⟩
/-- NRP_SATST. -/
def R.NRP_SATST : Nat := regKey 0x80 0x48 0
def F.NRP_SATST_SAT : Fld := ⟨31, 31⟩
def F.NRP_SATST_MAX : Fld := ⟨24, 16⟩
def F.NRP_SATST_DEPTH : Fld := ⟨8, 0⟩
/-- NRP_SUBIVL. -/
def R.NRP_SUBIVL : Nat := regKey 0x80 0x4C 0
def F.NRP_SUBIVL_IVL : Fld := ⟨15, 0⟩
/-- NRP_BOOT. -/
def R.NRP_BOOT : Nat := regKey 0x80 0x50 0
/-- NRP_CAUTH. -/
def R.NRP_CAUTH : Nat := regKey 0x80 0x54 0
/-- NRP_CSEQ. -/
def R.NRP_CSEQ : Nat := regKey 0x80 0x58 0
/-- NRP_CBUSY. -/
def R.NRP_CBUSY : Nat := regKey 0x80 0x5C 0
/-- NRP_BIND. -/
def R.NRP_BIND (n : Nat) : Nat := regKey 0x80 (0x100 + 0x8 * n) 0
def F.NRP_BIND_EN : Fld := ⟨31, 31⟩
def F.NRP_BIND_GCM_REQ : Fld := ⟨30, 30⟩
def F.NRP_BIND_PORT : Fld := ⟨26, 24⟩
def F.NRP_BIND_SLOT : Fld := ⟨7, 0⟩
/-- NRP_BSEQ. -/
def R.NRP_BSEQ (n : Nat) : Nat := regKey 0x80 (0x104 + 0x8 * n) 0
/-- NRP_STGBASE. -/
def R.NRP_STGBASE (f : Nat) : Nat := regKey 0x80 (0x300 + 0x8 * f) 0
/-- NRP_STGSZ. -/
def R.NRP_STGSZ (f : Nat) : Nat := regKey 0x80 (0x304 + 0x8 * f) 0

/-! Chapter 11. -/
/-- TLM_CFG. -/
def R.TLM_CFG : Nat := regKey 0x7E 0x40 0
def F.TLM_CFG_TEST_EN : Fld := ⟨8, 8⟩
def F.TLM_CFG_LANE1 : Fld := ⟨1, 1⟩
def F.TLM_CFG_LANE0 : Fld := ⟨0, 0⟩
/-- TLM_STAT. -/
def R.TLM_STAT : Nat := regKey 0x7E 0x44 0
def F.TLM_STAT_UP : Fld := ⟨31, 31⟩
def F.TLM_STAT_PLINKVER : Fld := ⟨23, 16⟩
def F.TLM_STAT_LINKVER : Fld := ⟨15, 8⟩
def F.TLM_STAT_LANES : Fld := ⟨1, 0⟩
/-- TLM_CRC. -/
def R.TLM_CRC : Nat := regKey 0x7E 0x48 0
/-- TLM_RETRY. -/
def R.TLM_RETRY : Nat := regKey 0x7E 0x4C 0
/-- TLM_LERR0. -/
def R.TLM_LERR0 : Nat := regKey 0x7E 0x50 0
/-- TLM_LERR1. -/
def R.TLM_LERR1 : Nat := regKey 0x7E 0x54 0
/-- TWN_CFG. -/
def R.TWN_CFG : Nat := regKey 0x88 0x40 0
def F.TWN_CFG_PAIR : Fld := ⟨31, 31⟩
def F.TWN_CFG_HOME : Fld := ⟨30, 30⟩
def F.TWN_CFG_TKO_EN : Fld := ⟨29, 29⟩
def F.TWN_CFG_REVERT : Fld := ⟨28, 28⟩
def F.TWN_CFG_STARTW : Fld := ⟨9, 0⟩
/-- TWN_HOLDOFF. -/
def R.TWN_HOLDOFF : Nat := regKey 0x88 0x44 0
def F.TWN_HOLDOFF_SEC : Fld := ⟨11, 0⟩
/-- TWN_STAT. -/
def R.TWN_STAT : Nat := regKey 0x88 0x48 0
def F.TWN_STAT_ROLE : Fld := ⟨31, 29⟩
def F.TWN_STAT_PROLE : Fld := ⟨28, 26⟩
def F.TWN_STAT_SYNC : Fld := ⟨25, 24⟩
def F.TWN_STAT_ROLE_IN : Fld := ⟨23, 23⟩
def F.TWN_STAT_ROLE_OUT : Fld := ⟨22, 22⟩
def F.TWN_STAT_TAKEOVER : Fld := ⟨21, 21⟩
def F.TWN_STAT_LINK : Fld := ⟨20, 20⟩
def F.TWN_STAT_REV_SUSP : Fld := ⟨19, 19⟩
def F.TWN_STAT_HO_PEND : Fld := ⟨18, 18⟩
def F.TWN_STAT_DEMOTED : Fld := ⟨17, 17⟩
def F.TWN_STAT_ROLE_MISMATCH : Fld := ⟨16, 16⟩
def F.TWN_STAT_SILENT : Fld := ⟨7, 0⟩
/-- TWN_EPOCH. -/
def R.TWN_EPOCH : Nat := regKey 0x88 0x4C 0
/-- TWN_PEPOCH. -/
def R.TWN_PEPOCH : Nat := regKey 0x88 0x50 0
/-- TWN_CMD. -/
def R.TWN_CMD : Nat := regKey 0x88 0x54 0
def F.TWN_CMD_OP : Fld := ⟨2, 0⟩
/-- TWN_TKO. -/
def R.TWN_TKO : Nat := regKey 0x88 0x58 0
def F.TWN_TKO_VALID : Fld := ⟨31, 31⟩
def F.TWN_TKO_COLD : Fld := ⟨30, 30⟩
def F.TWN_TKO_PROLE : Fld := ⟨23, 21⟩
def F.TWN_TKO_SILENT : Fld := ⟨15, 8⟩
def F.TWN_TKO_REASON : Fld := ⟨7, 0⟩
/-- TWN_TKOTB. -/
def R.TWN_TKOTB (h : Nat) : Nat := regKey 0x88 (0x60 + 0x4 * h) 0
/-- TWN_REV. -/
def R.TWN_REV : Nat := regKey 0x88 0x68 0
def F.TWN_REV_COUNT : Fld := ⟨31, 28⟩
def F.TWN_REV_WAIT : Fld := ⟨11, 0⟩
/-- MIR_FLASKS. -/
def R.MIR_FLASKS : Nat := regKey 0x89 0x40 0
/-- MIR_LAST. -/
def R.MIR_LAST : Nat := regKey 0x89 0x44 0
def F.MIR_LAST_BYTES : Fld := ⟨17, 0⟩
/-- MIR_MAX. -/
def R.MIR_MAX : Nat := regKey 0x89 0x48 0
def F.MIR_MAX_BYTES : Fld := ⟨17, 0⟩
/-- MIR_CARRY. -/
def R.MIR_CARRY : Nat := regKey 0x89 0x4C 0
/-- MIR_BACKLOG. -/
def R.MIR_BACKLOG : Nat := regKey 0x89 0x50 0
/-- MIR_LOCALW. -/
def R.MIR_LOCALW : Nat := regKey 0x89 0x54 0
/-- MIR_RESYNC. -/
def R.MIR_RESYNC : Nat := regKey 0x89 0x58 0
/-- FCS_CFG. -/
def R.FCS_CFG : Nat := regKey 0x8A 0x40 0
def F.FCS_CFG_KAT_EN : Fld := ⟨2, 2⟩
def F.FCS_CFG_SCRUB_EN : Fld := ⟨1, 1⟩
def F.FCS_CFG_BIST_EN : Fld := ⟨0, 0⟩
/-- FCS_OWN. -/
def R.FCS_OWN (n : Nat) : Nat := regKey 0x8A (0x100 + 0x4 * n) 0
/-- FCS_PART. -/
def R.FCS_PART (n : Nat) : Nat := regKey 0x8A (0x200 + 0x4 * n) 0

/-! Chapter 12. -/
/-- ARBF_SEED. -/
def R.ARBF_SEED : Nat := regKey 0x8 0x40 0
def F.ARBF_SEED_SEED : Fld := ⟨15, 0⟩
/-- ARBF_LFSR. -/
def R.ARBF_LFSR : Nat := regKey 0x8 0x44 0
def F.ARBF_LFSR_LFSR : Fld := ⟨15, 0⟩
/-- ARBF_OUT. -/
def R.ARBF_OUT : Nat := regKey 0x8 0x48 0
def F.ARBF_OUT_MAX : Fld := ⟨23, 16⟩
def F.ARBF_OUT_COUNT : Fld := ⟨7, 0⟩
/-- ARBF_SQUALL. -/
def R.ARBF_SQUALL : Nat := regKey 0x8 0x4C 0
/-- ARBF_REQ. -/
def R.ARBF_REQ (n : Nat) : Nat := regKey 0x8 (0x100 + 0x4 * n) 0
def F.ARBF_REQ_OUT : Fld := ⟨20, 16⟩
def F.ARBF_REQ_CLASS : Fld := ⟨9, 8⟩
def F.ARBF_REQ_TICKETS : Fld := ⟨7, 0⟩
/-- ARBF_GRANT. -/
def R.ARBF_GRANT (n : Nat) : Nat := regKey 0x8 (0x200 + 0x4 * n) 0
/-- ARBM_SEED. -/
def R.ARBM_SEED : Nat := regKey 0x9 0x40 0
def F.ARBM_SEED_SEED : Fld := ⟨15, 0⟩
/-- ARBM_REFPRE. -/
def R.ARBM_REFPRE : Nat := regKey 0x9 0x44 0
/-- ARBM_REQ. -/
def R.ARBM_REQ (n : Nat) : Nat := regKey 0x9 (0x100 + 0x4 * n) 0
def F.ARBM_REQ_CLASS : Fld := ⟨9, 8⟩
def F.ARBM_REQ_TICKETS : Fld := ⟨7, 0⟩
/-- LCK_FREE. -/
def R.LCK_FREE : Nat := regKey 0xA 0x40 0
def F.LCK_FREE_LOCK : Fld := ⟨5, 0⟩
/-- LCK_HELD. -/
def R.LCK_HELD (n : Nat) : Nat := regKey 0xA (0x44 + 0x4 * n) 0
/-- LCK_RANKLAST. -/
def R.LCK_RANKLAST : Nat := regKey 0xA 0x4C 0
def F.LCK_RANKLAST_VALID : Fld := ⟨31, 31⟩
def F.LCK_RANKLAST_REQ : Fld := ⟨20, 16⟩
def F.LCK_RANKLAST_CTX : Fld := ⟨15, 12⟩
def F.LCK_RANKLAST_HIGHEST : Fld := ⟨11, 6⟩
def F.LCK_RANKLAST_LOCK : Fld := ⟨5, 0⟩
/-- LCK_L. -/
def R.LCK_L (n : Nat) : Nat := regKey 0xA (0x100 + 0x4 * n) 0
/-- LCK_STAT. -/
def R.LCK_STAT (n : Nat) : Nat := regKey 0xA (0x200 + 0x4 * n) 0
def F.LCK_STAT_HELD : Fld := ⟨31, 31⟩
def F.LCK_STAT_BROKEN : Fld := ⟨30, 30⟩
def F.LCK_STAT_EXPIRED : Fld := ⟨29, 29⟩
def F.LCK_STAT_REQ : Fld := ⟨20, 16⟩
def F.LCK_STAT_CTX : Fld := ⟨15, 12⟩
/-- LCK_HOLD. -/
def R.LCK_HOLD (n : Nat) : Nat := regKey 0xA (0x300 + 0x4 * n) 0
def F.LCK_HOLD_HOLD_US : Fld := ⟨23, 0⟩

/-! Chapter 13. -/
/-- LDL_CFG. -/
def R.LDL_CFG : Nat := regKey 0x10 0x40 0
def F.LDL_CFG_RETRY_MAX : Fld := ⟨2, 0⟩
/-- LDL_FAULT. -/
def R.LDL_FAULT (n : Nat) : Nat := regKey 0x10 (0x44 + 0x4 * n) 0
/-- LDLB_HEAD. -/
def R.LDLB_HEAD (p : Nat) : Nat := regKey (0x11 + p) 0x40 0
/-- LDLB_CUR. -/
def R.LDLB_CUR (p : Nat) : Nat := regKey (0x11 + p) 0x44 0
/-- LDLB_FADDR. -/
def R.LDLB_FADDR (p : Nat) : Nat := regKey (0x11 + p) 0x54 0
/-- LDLB_DONE. -/
def R.LDLB_DONE (p : Nat) : Nat := regKey (0x11 + p) 0x48 0
def F.LDLB_DONE_DONE : Fld := ⟨23, 0⟩
/-- LDLB_KICK. -/
def R.LDLB_KICK (p : Nat) : Nat := regKey (0x11 + p) 0x4C 0
def F.LDLB_KICK_KICK : Fld := ⟨0, 0⟩
/-- LDLB_CMD. -/
def R.LDLB_CMD (p : Nat) : Nat := regKey (0x11 + p) 0x50 0
def F.LDLB_CMD_OP : Fld := ⟨1, 0⟩
/-- LDLB_FINFO. -/
def R.LDLB_FINFO (p : Nat) : Nat := regKey (0x11 + p) 0x58 0
def F.LDLB_FINFO_VALID : Fld := ⟨31, 31⟩
def F.LDLB_FINFO_DIR : Fld := ⟨30, 30⟩
def F.LDLB_FINFO_DESC : Fld := ⟨29, 29⟩
def F.LDLB_FINFO_CAUSE : Fld := ⟨27, 24⟩
def F.LDLB_FINFO_CODE : Fld := ⟨23, 16⟩
def F.LDLB_FINFO_TRIES : Fld := ⟨2, 0⟩
/-- LDLB_COUNT. -/
def R.LDLB_COUNT (p : Nat) : Nat := regKey (0x11 + p) 0x5C 0
/-- LDLL_SRC. -/
def R.LDLL_SRC (p j : Nat) : Nat := regKey (0x21 + p) (0x44 + 0x20 * j) 0
/-- LDLL_DST. -/
def R.LDLL_DST (p j : Nat) : Nat := regKey (0x21 + p) (0x48 + 0x20 * j) 0
/-- LDLL_LEN. -/
def R.LDLL_LEN (p j : Nat) : Nat := regKey (0x21 + p) (0x4C + 0x20 * j) 0
def F.LDLL_LEN_LEN : Fld := ⟨15, 0⟩
/-- LDLL_FADDR. -/
def R.LDLL_FADDR (p j : Nat) : Nat := regKey (0x21 + p) (0x58 + 0x20 * j) 0
/-- LDLL_COUNT. -/
def R.LDLL_COUNT (p j : Nat) : Nat := regKey (0x21 + p) (0x5C + 0x20 * j) 0
/-- LDLL_CTRL. -/
def R.LDLL_CTRL (p j : Nat) : Nat := regKey (0x21 + p) (0x40 + 0x20 * j) 0
def F.LDLL_CTRL_EN : Fld := ⟨31, 31⟩
def F.LDLL_CTRL_TRIG : Fld := ⟨30, 28⟩
def F.LDLL_CTRL_SRCQ : Fld := ⟨27, 27⟩
def F.LDLL_CTRL_DSTQ : Fld := ⟨26, 26⟩
def F.LDLL_CTRL_SOP : Fld := ⟨25, 25⟩
def F.LDLL_CTRL_EOP : Fld := ⟨24, 24⟩
def F.LDLL_CTRL_TSRC : Fld := ⟨21, 16⟩
def F.LDLL_CTRL_NQEN : Fld := ⟨14, 14⟩
def F.LDLL_CTRL_NQ : Fld := ⟨13, 8⟩
/-- LDLL_CMD. -/
def R.LDLL_CMD (p j : Nat) : Nat := regKey (0x21 + p) (0x50 + 0x20 * j) 0
def F.LDLL_CMD_OP : Fld := ⟨1, 0⟩
/-- LDLL_STAT. -/
def R.LDLL_STAT (p j : Nat) : Nat := regKey (0x21 + p) (0x54 + 0x20 * j) 0
def F.LDLL_STAT_FAULT : Fld := ⟨31, 31⟩
def F.LDLL_STAT_DIR : Fld := ⟨30, 30⟩
def F.LDLL_STAT_PEND : Fld := ⟨29, 29⟩
def F.LDLL_STAT_CHECK : Fld := ⟨28, 28⟩
def F.LDLL_STAT_CODE : Fld := ⟨27, 24⟩
def F.LDLL_STAT_OVR : Fld := ⟨23, 16⟩
def F.LDLL_STAT_REARM : Fld := ⟨4, 4⟩
def F.LDLL_STAT_STATE : Fld := ⟨1, 0⟩
/-- TND_IDLE. -/
def R.TND_IDLE (p j : Nat) : Nat := regKey (0x28 + p) (0x108 + 0x40 * j) 0
/-- TND_LEVEL. -/
def R.TND_LEVEL (p j : Nat) : Nat := regKey (0x28 + p) (0x10C + 0x40 * j) 0
/-- TND_FLAGS. -/
def R.TND_FLAGS (p j : Nat) : Nat := regKey (0x28 + p) (0x110 + 0x40 * j) 0
/-- TND_CMD. -/
def R.TND_CMD (p j : Nat) : Nat := regKey (0x28 + p) (0x114 + 0x40 * j) 0
def F.TND_CMD_OP : Fld := ⟨1, 0⟩
/-- TND_PUSH. -/
def R.TND_PUSH (p j k : Nat) : Nat := regKey (0x28 + p) (0x118 + 0x40 * j + 0x4 * k) 0
/-- TND_POP. -/
def R.TND_POP (p j : Nat) : Nat := regKey (0x28 + p) (0x128 + 0x40 * j) 0
/-- TND_POPH. -/
def R.TND_POPH (p j : Nat) : Nat := regKey (0x28 + p) (0x12C + 0x40 * j) 0
/-- TND_CNT. -/
def R.TND_CNT (p j : Nat) : Nat := regKey (0x28 + p) (0x130 + 0x40 * j) 0
/-- TND_PTRDUP. -/
def R.TND_PTRDUP (p j : Nat) : Nat := regKey (0x28 + p) (0x134 + 0x40 * j) 0
/-- TND_PTR. -/
def R.TND_PTR (p j : Nat) : Nat := regKey (0x28 + p) (0x138 + 0x40 * j) 0
/-- TND_DENY. -/
def R.TND_DENY (p j : Nat) : Nat := regKey (0x28 + p) (0x13C + 0x40 * j) 0
/-- TND_CFG. -/
def R.TND_CFG (p j : Nat) : Nat := regKey (0x28 + p) (0x100 + 0x40 * j) 0
def F.TND_CFG_EN : Fld := ⟨31, 31⟩
def F.TND_CFG_PROD : Fld := ⟨30, 29⟩
def F.TND_CFG_PCH : Fld := ⟨21, 16⟩
def F.TND_CFG_OWNER : Fld := ⟨12, 8⟩
/-- TND_BASE. -/
def R.TND_BASE (p j : Nat) : Nat := regKey (0x28 + p) (0x104 + 0x40 * j) 0
def F.TND_BASE_BANK : Fld := ⟨30, 16⟩
def F.TND_BASE_BASE : Fld := ⟨13, 0⟩

/-! Chapter 14. -/
/-- CRU_STAT. -/
def R.CRU_STAT : Nat := regKey 0x90 0x40 0
def F.CRU_STAT_SEALED : Fld := ⟨31, 31⟩
def F.CRU_STAT_DEBUG_ROOT : Fld := ⟨30, 30⟩
def F.CRU_STAT_ENTROPY_FAIL : Fld := ⟨29, 29⟩
def F.CRU_STAT_STORE_LOST : Fld := ⟨28, 28⟩
def F.CRU_STAT_ROOT_STATE : Fld := ⟨27, 25⟩
def F.CRU_STAT_ERASE_PEND : Fld := ⟨24, 24⟩
def F.CRU_STAT_LIVE : Fld := ⟨8, 0⟩
/-- CRU_REMASK. -/
def R.CRU_REMASK : Nat := regKey 0x90 0x44 0
def F.CRU_REMASK_MS : Fld := ⟨9, 0⟩
/-- CRU_SLOT. -/
def R.CRU_SLOT : Nat := regKey 0x90 0x48 0
def F.CRU_SLOT_AUX : Fld := ⟨15, 8⟩
def F.CRU_SLOT_TARGET : Fld := ⟨7, 0⟩
/-- CRU_ATTR. -/
def R.CRU_ATTR : Nat := regKey 0x90 0x4C 0
def F.CRU_ATTR_VALID : Fld := ⟨31, 31⟩
def F.CRU_ATTR_PERSIST : Fld := ⟨30, 30⟩
def F.CRU_ATTR_EXPORT : Fld := ⟨29, 29⟩
def F.CRU_ATTR_STATE : Fld := ⟨28, 27⟩
def F.CRU_ATTR_ALG : Fld := ⟨26, 24⟩
def F.CRU_ATTR_USAGE : Fld := ⟨23, 22⟩
def F.CRU_ATTR_OWNER : Fld := ⟨20, 16⟩
def F.CRU_ATTR_PARENT : Fld := ⟨15, 8⟩
/-- CRU_LABEL. -/
def R.CRU_LABEL (n : Nat) : Nat := regKey 0x90 (0x50 + 0x4 * n) 0
/-- CRU_ADDR. -/
def R.CRU_ADDR : Nat := regKey 0x90 0x60 0
/-- CRU_CMD. -/
def R.CRU_CMD : Nat := regKey 0x90 0x64 0
def F.CRU_CMD_OP : Fld := ⟨3, 0⟩
/-- CRU_RESULT. -/
def R.CRU_RESULT : Nat := regKey 0x90 0x68 0
def F.CRU_RESULT_BUSY : Fld := ⟨31, 31⟩
def F.CRU_RESULT_OP : Fld := ⟨11, 8⟩
def F.CRU_RESULT_CODE : Fld := ⟨7, 0⟩
/-- CRU_KEYIN. -/
def R.CRU_KEYIN (n : Nat) : Nat := regKey 0x90 (0x80 + 0x4 * n) 0
/-- CRU_INFO. -/
def R.CRU_INFO (n h : Nat) : Nat := regKey 0x90 (0x400 + 0x8 * n + 0x4 * h) 0
/-- TMP_CFG. -/
def R.TMP_CFG : Nat := regKey 0x5 0x40 0
def F.TMP_CFG_SAMPLE : Fld := ⟨25, 24⟩
def F.TMP_CFG_FILTER : Fld := ⟨23, 22⟩
def F.TMP_CFG_ERASE : Fld := ⟨21, 21⟩
def F.TMP_CFG_WAKE : Fld := ⟨20, 20⟩
def F.TMP_CFG_CGL_EN : Fld := ⟨17, 17⟩
def F.TMP_CFG_VGL_EN : Fld := ⟨16, 16⟩
def F.TMP_CFG_RESP : Fld := ⟨15, 12⟩
def F.TMP_CFG_POL : Fld := ⟨11, 8⟩
def F.TMP_CFG_PIN_EN : Fld := ⟨3, 0⟩
/-- TMP_LATCH. -/
def R.TMP_LATCH : Nat := regKey 0x5 0x44 0
def F.TMP_LATCH_VALID : Fld := ⟨31, 31⟩
def F.TMP_LATCH_OVF : Fld := ⟨30, 30⟩
def F.TMP_LATCH_FIRST : Fld := ⟨13, 8⟩
def F.TMP_LATCH_SEEN : Fld := ⟨5, 0⟩
/-- TMP_TS. -/
def R.TMP_TS (n : Nat) : Nat := regKey 0x5 (0x48 + 0x4 * n) 0
/-- TMP_CTX. -/
def R.TMP_CTX : Nat := regKey 0x5 0x50 0
/-- TMP_PINS. -/
def R.TMP_PINS : Nat := regKey 0x5 0x54 0
/-- DBG_CFG. -/
def R.DBG_CFG : Nat := regKey 0xA0 0x40 0
def F.DBG_CFG_DIS : Fld := ⟨0, 0⟩
/-- DBG_STAT. -/
def R.DBG_STAT : Nat := regKey 0xA0 0x44 0
def F.DBG_STAT_SESSION : Fld := ⟨31, 31⟩
def F.DBG_STAT_ACTIVE : Fld := ⟨30, 30⟩
def F.DBG_STAT_LOCKED : Fld := ⟨29, 29⟩
def F.DBG_STAT_NONCE : Fld := ⟨28, 28⟩
def F.DBG_STAT_CODE : Fld := ⟨23, 16⟩
def F.DBG_STAT_FAILS : Fld := ⟨7, 0⟩
/-- DBG_CMD. -/
def R.DBG_CMD : Nat := regKey 0xA0 0x48 0
def F.DBG_CMD_KEY : Fld := ⟨31, 16⟩
def F.DBG_CMD_OP : Fld := ⟨2, 0⟩
/-- DBG_HOLD. -/
def R.DBG_HOLD : Nat := regKey 0xA0 0x4C 0
def F.DBG_HOLD_STOPPED : Fld := ⟨15, 8⟩
def F.DBG_HOLD_HOLD : Fld := ⟨7, 0⟩
/-- DBG_GO. -/
def R.DBG_GO : Nat := regKey 0xA0 0x50 0
def F.DBG_GO_GO : Fld := ⟨7, 0⟩
/-- DBG_CHAL. -/
def R.DBG_CHAL (n : Nat) : Nat := regKey 0xA0 (0x80 + 0x4 * n) 0
/-- DBG_RESP. -/
def R.DBG_RESP (n : Nat) : Nat := regKey 0xA0 (0x100 + 0x4 * n) 0

/-! Chapter 15. -/
/-- TB_NOW. -/
def R.TB_NOW (h : Nat) : Nat := regKey 0x6 (0x40 + 0x4 * h) 0
/-- TB_RATE. -/
def R.TB_RATE : Nat := regKey 0x6 0x48 0
/-- TB_SLEW. -/
def R.TB_SLEW : Nat := regKey 0x6 0x4C 0
/-- TB_STEP. -/
def R.TB_STEP (h : Nat) : Nat := regKey 0x6 (0x50 + 0x4 * h) 0
/-- TB_STAT. -/
def R.TB_STAT : Nat := regKey 0x6 0x58 0
def F.TB_STAT_ALIGNED : Fld := ⟨31, 31⟩
def F.TB_STAT_SRC : Fld := ⟨30, 29⟩
def F.TB_STAT_STEPS : Fld := ⟨7, 0⟩
/-- TB_TWOFS. -/
def R.TB_TWOFS : Nat := regKey 0x6 0x5C 0
/-- TB_LINKDLY. -/
def R.TB_LINKDLY : Nat := regKey 0x6 0x60 0
/-- PTP_CFG. -/
def R.PTP_CFG : Nat := regKey 0x7F 0x40 0
def F.PTP_CFG_PORT : Fld := ⟨26, 24⟩
def F.PTP_CFG_DOMAIN : Fld := ⟨23, 16⟩
def F.PTP_CFG_UDP : Fld := ⟨0, 0⟩
/-- PTP_STAT. -/
def R.PTP_STAT : Nat := regKey 0x7F 0x44 0
def F.PTP_STAT_STATE : Fld := ⟨2, 0⟩
/-- PTP_OFS. -/
def R.PTP_OFS : Nat := regKey 0x7F 0x48 0
/-- PTP_DELAY. -/
def R.PTP_DELAY : Nat := regKey 0x7F 0x4C 0
/-- PTP_ORIGIN. -/
def R.PTP_ORIGIN (h : Nat) : Nat := regKey 0x7F (0x50 + 0x4 * h) 0
/-- RTC_TIME. -/
def R.RTC_TIME : Nat := regKey 0x4 0x40 0
def F.RTC_TIME_WDAY : Fld := ⟨26, 24⟩
def F.RTC_TIME_HOUR : Fld := ⟨21, 16⟩
def F.RTC_TIME_MIN : Fld := ⟨14, 8⟩
def F.RTC_TIME_SEC : Fld := ⟨6, 0⟩
/-- RTC_DATE. -/
def R.RTC_DATE : Nat := regKey 0x4 0x44 0
def F.RTC_DATE_CENTURY : Fld := ⟨24, 24⟩
def F.RTC_DATE_YEAR : Fld := ⟨23, 16⟩
def F.RTC_DATE_MONTH : Fld := ⟨12, 8⟩
def F.RTC_DATE_DAY : Fld := ⟨5, 0⟩
/-- RTC_CTRL. -/
def R.RTC_CTRL : Nat := regKey 0x4 0x48 0
def F.RTC_CTRL_WAKE : Fld := ⟨4, 4⟩
def F.RTC_CTRL_FIRE_ON_SKIP : Fld := ⟨3, 3⟩
def F.RTC_CTRL_ALM_EN : Fld := ⟨2, 2⟩
def F.RTC_CTRL_HOLD : Fld := ⟨0, 0⟩
/-- RTC_STAT. -/
def R.RTC_STAT : Nat := regKey 0x4 0x4C 0
def F.RTC_STAT_VALID : Fld := ⟨31, 31⟩
def F.RTC_STAT_BDOM_LOST : Fld := ⟨30, 30⟩
def F.RTC_STAT_ON_VBKP : Fld := ⟨29, 29⟩
def F.RTC_STAT_HELD : Fld := ⟨28, 28⟩
def F.RTC_STAT_ALARM_SKIPPED : Fld := ⟨3, 3⟩
def F.RTC_STAT_FIRED : Fld := ⟨2, 2⟩
def F.RTC_STAT_ACAUSE : Fld := ⟨1, 0⟩
/-- RTC_CMD. -/
def R.RTC_CMD : Nat := regKey 0x4 0x50 0
def F.RTC_CMD_ARM : Fld := ⟨0, 0⟩
/-- RTC_TRIM. -/
def R.RTC_TRIM : Nat := regKey 0x4 0x54 0
/-- RTC_SUBSEC. -/
def R.RTC_SUBSEC : Nat := regKey 0x4 0x58 0
/-- RTC_ALMT. -/
def R.RTC_ALMT : Nat := regKey 0x4 0x5C 0
def F.RTC_ALMT_MSK_WDAY : Fld := ⟨31, 31⟩
def F.RTC_ALMT_WDAY : Fld := ⟨26, 24⟩
def F.RTC_ALMT_MSK_HOUR : Fld := ⟨23, 23⟩
def F.RTC_ALMT_HOUR : Fld := ⟨21, 16⟩
def F.RTC_ALMT_MSK_MIN : Fld := ⟨15, 15⟩
def F.RTC_ALMT_MIN : Fld := ⟨14, 8⟩
def F.RTC_ALMT_MSK_SEC : Fld := ⟨7, 7⟩
def F.RTC_ALMT_SEC : Fld := ⟨6, 0⟩
/-- RTC_ALMD. -/
def R.RTC_ALMD : Nat := regKey 0x4 0x60 0
def F.RTC_ALMD_MSK_YEAR : Fld := ⟨31, 31⟩
def F.RTC_ALMD_CENTURY : Fld := ⟨24, 24⟩
def F.RTC_ALMD_YEAR : Fld := ⟨23, 16⟩
def F.RTC_ALMD_MSK_MONTH : Fld := ⟨15, 15⟩
def F.RTC_ALMD_MONTH : Fld := ⟨12, 8⟩
def F.RTC_ALMD_MSK_DAY : Fld := ⟨7, 7⟩
def F.RTC_ALMD_DAY : Fld := ⟨5, 0⟩
/-- RTC_TBCAP. -/
def R.RTC_TBCAP (h : Nat) : Nat := regKey 0x4 (0x68 + 0x4 * h) 0
/-- RTC_BKP. -/
def R.RTC_BKP (n : Nat) : Nat := regKey 0x4 (0x80 + 0x4 * n) 0

/-! Chapter 16. -/
/-- CLK_STAT. -/
def R.CLK_STAT : Nat := regKey 0x3 0x40 0
def F.CLK_STAT_REF_OK : Fld := ⟨31, 31⟩
def F.CLK_STAT_XT32_OK : Fld := ⟨30, 30⟩
/-- CLK_LOCK. -/
def R.CLK_LOCK : Nat := regKey 0x3 0x44 0
/-- CLK_UNLOCK. -/
def R.CLK_UNLOCK : Nat := regKey 0x3 0x48 0
/-- CLK_LOSSCNT. -/
def R.CLK_LOSSCNT : Nat := regKey 0x3 0x4C 0
/-- CLK_ISL. -/
def R.CLK_ISL (n : Nat) : Nat := regKey 0x3 (0x100 + 0x4 * n) 0
def F.CLK_ISL_LOCKED : Fld := ⟨31, 31⟩
def F.CLK_ISL_RUNNING : Fld := ⟨30, 30⟩
def F.CLK_ISL_FREQ : Fld := ⟨15, 0⟩
/-- NVR_STAT. -/
def R.NVR_STAT : Nat := regKey 0xB 0x40 0
def F.NVR_STAT_READY : Fld := ⟨31, 31⟩
def F.NVR_STAT_WRITING : Fld := ⟨30, 30⟩
def F.NVR_STAT_QUEUED : Fld := ⟨23, 0⟩
/-- NVR_CORR. -/
def R.NVR_CORR : Nat := regKey 0xB 0x44 0
/-- NVR_UNCORR. -/
def R.NVR_UNCORR : Nat := regKey 0xB 0x48 0
/-- NVR_WRFAIL. -/
def R.NVR_WRFAIL : Nat := regKey 0xB 0x4C 0
/-- NVR_UNCADDR. -/
def R.NVR_UNCADDR : Nat := regKey 0xB 0x50 0
/-- XSPI_SIZE. -/
def R.XSPI_SIZE : Nat := regKey 0xD 0x40 0
/-- XSPI_ID. -/
def R.XSPI_ID : Nat := regKey 0xD 0x44 0
/-- XSPI_OFF. -/
def R.XSPI_OFF : Nat := regKey 0xD 0x48 0
/-- XSPI_SRC. -/
def R.XSPI_SRC : Nat := regKey 0xD 0x4C 0
/-- XSPI_LEN. -/
def R.XSPI_LEN : Nat := regKey 0xD 0x50 0
/-- XSPI_CMD. -/
def R.XSPI_CMD : Nat := regKey 0xD 0x54 0
def F.XSPI_CMD_OP : Fld := ⟨1, 0⟩
/-- XSPI_STAT. -/
def R.XSPI_STAT : Nat := regKey 0xD 0x58 0
def F.XSPI_STAT_BUSY : Fld := ⟨31, 31⟩
def F.XSPI_STAT_MISMATCH : Fld := ⟨30, 30⟩
def F.XSPI_STAT_CODE : Fld := ⟨23, 16⟩
def F.XSPI_STAT_SECTORS : Fld := ⟨15, 0⟩
/-- SYS_MODE. -/
def R.SYS_MODE : Nat := regKey 0x0 0x40 0
def F.SYS_MODE_REASON : Fld := ⟨31, 24⟩
def F.SYS_MODE_PREV : Fld := ⟨15, 12⟩
def F.SYS_MODE_REQ : Fld := ⟨11, 8⟩
def F.SYS_MODE_PEND : Fld := ⟨7, 7⟩
def F.SYS_MODE_DISC : Fld := ⟨6, 6⟩
def F.SYS_MODE_MODE : Fld := ⟨3, 0⟩
/-- SYS_MODEREQ. -/
def R.SYS_MODEREQ : Nat := regKey 0x0 0x44 0
def F.SYS_MODEREQ_REQ : Fld := ⟨3, 0⟩
/-- SYS_CMD. -/
def R.SYS_CMD : Nat := regKey 0x0 0x48 0
def F.SYS_CMD_KEY : Fld := ⟨31, 16⟩
def F.SYS_CMD_OP : Fld := ⟨1, 0⟩
/-- SYS_RSTCAUSE. -/
def R.SYS_RSTCAUSE : Nat := regKey 0x0 0x4C 0
def F.SYS_RSTCAUSE_REC : Fld := ⟨9, 9⟩
def F.SYS_RSTCAUSE_DEBUG : Fld := ⟨8, 8⟩
def F.SYS_RSTCAUSE_THERM : Fld := ⟨7, 7⟩
def F.SYS_RSTCAUSE_PFW : Fld := ⟨6, 6⟩
def F.SYS_RSTCAUSE_LOCKSTEP : Fld := ⟨5, 5⟩
def F.SYS_RSTCAUSE_WDOG : Fld := ⟨4, 4⟩
def F.SYS_RSTCAUSE_SW : Fld := ⟨3, 3⟩
def F.SYS_RSTCAUSE_PIN : Fld := ⟨2, 2⟩
def F.SYS_RSTCAUSE_POR : Fld := ⟨0, 0⟩
/-- SYS_DOZECFG. -/
def R.SYS_DOZECFG : Nat := regKey 0x0 0x50 0
def F.SYS_DOZECFG_HOST : Fld := ⟨3, 3⟩
def F.SYS_DOZECFG_TAMP : Fld := ⟨2, 2⟩
def F.SYS_DOZECFG_STN : Fld := ⟨1, 1⟩
def F.SYS_DOZECFG_ALARM : Fld := ⟨0, 0⟩
/-- PWR_DOMCTRL. -/
def R.PWR_DOMCTRL (n : Nat) : Nat := regKey 0x1 (0x40 + 0x4 * n) 0
def F.PWR_DOMCTRL_EN : Fld := ⟨31, 31⟩
def F.PWR_DOMCTRL_C4_OK : Fld := ⟨30, 30⟩
/-- PWR_DOMSTAT. -/
def R.PWR_DOMSTAT (n : Nat) : Nat := regKey 0x1 (0x80 + 0x4 * n) 0
def F.PWR_DOMSTAT_STATE : Fld := ⟨31, 30⟩
def F.PWR_DOMSTAT_REARM : Fld := ⟨29, 29⟩
def F.PWR_DOMSTAT_KEEP : Fld := ⟨28, 28⟩
def F.PWR_DOMSTAT_CSTATE : Fld := ⟨26, 24⟩
def F.PWR_DOMSTAT_BUDGET : Fld := ⟨23, 0⟩
/-- BOOT_STAT. -/
def R.BOOT_STAT : Nat := regKey 0x2 0x40 0
def F.BOOT_STAT_PHASE : Fld := ⟨31, 24⟩
def F.BOOT_STAT_RAILWAIT : Fld := ⟨20, 20⟩
def F.BOOT_STAT_EXIT : Fld := ⟨19, 16⟩
def F.BOOT_STAT_TIME : Fld := ⟨15, 0⟩
/-- BOOT_PATSTAT. -/
def R.BOOT_PATSTAT : Nat := regKey 0x2 0x44 0
/-- BOOT_PATSEQ. -/
def R.BOOT_PATSEQ : Nat := regKey 0x2 0x48 0
/-- BOOT_PATREJ. -/
def R.BOOT_PATREJ : Nat := regKey 0x2 0x4C 0
def F.BOOT_PATREJ_CODE : Fld := ⟨31, 24⟩
def F.BOOT_PATREJ_SECTION : Fld := ⟨23, 21⟩
/-- BOOT_PATREJ2. -/
def R.BOOT_PATREJ2 : Nat := regKey 0x2 0x50 0
def F.BOOT_PATREJ2_COUNT : Fld := ⟨31, 16⟩
def F.BOOT_PATREJ2_INDEX : Fld := ⟨15, 0⟩
/-- BOOT_SSRC. -/
def R.BOOT_SSRC : Nat := regKey 0x2 0x54 0
/-- BOOT_SLEN. -/
def R.BOOT_SLEN : Nat := regKey 0x2 0x58 0
/-- BOOT_SOFF. -/
def R.BOOT_SOFF : Nat := regKey 0x2 0x5C 0
/-- BOOT_SCMD. -/
def R.BOOT_SCMD : Nat := regKey 0x2 0x60 0
def F.BOOT_SCMD_OP : Fld := ⟨1, 0⟩
/-- BOOT_SSTAT. -/
def R.BOOT_SSTAT : Nat := regKey 0x2 0x64 0
def F.BOOT_SSTAT_BUSY : Fld := ⟨31, 31⟩
def F.BOOT_SSTAT_CODE : Fld := ⟨7, 0⟩
/-- DDR_CFG. -/
def R.DDR_CFG : Nat := regKey 0xC 0x40 0
/-- DDR_STAT. -/
def R.DDR_STAT : Nat := regKey 0xC 0x44 0
def F.DDR_STAT_TRAINED : Fld := ⟨31, 31⟩
def F.DDR_STAT_MULT : Fld := ⟨2, 0⟩
/-- DDR_TREFI. -/
def R.DDR_TREFI : Nat := regKey 0xC 0x48 0
def F.DDR_TREFI_TREFI : Fld := ⟨15, 0⟩
/-- DDR_TIM0. -/
def R.DDR_TIM0 : Nat := regKey 0xC 0x50 0
/-- DDR_TIM1. -/
def R.DDR_TIM1 : Nat := regKey 0xC 0x54 0
/-- DDR_TIM2. -/
def R.DDR_TIM2 : Nat := regKey 0xC 0x58 0

/-! Chapter 17. -/
/-- UPD_SRC. -/
def R.UPD_SRC : Nat := regKey 0x98 0x40 0
/-- UPD_LEN. -/
def R.UPD_LEN : Nat := regKey 0x98 0x44 0
/-- UPD_CMD. -/
def R.UPD_CMD : Nat := regKey 0x98 0x48 0
def F.UPD_CMD_OP : Fld := ⟨2, 0⟩
/-- UPD_STAT. -/
def R.UPD_STAT : Nat := regKey 0x98 0x4C 0
def F.UPD_STAT_STATE : Fld := ⟨31, 29⟩
def F.UPD_STAT_JOPEN : Fld := ⟨28, 28⟩
def F.UPD_STAT_CODE : Fld := ⟨23, 16⟩
def F.UPD_STAT_LAST : Fld := ⟨2, 0⟩
/-- UPD_PROG. -/
def R.UPD_PROG : Nat := regKey 0x98 0x50 0
def F.UPD_PROG_BYTES : Fld := ⟨23, 0⟩
/-- UPD_RUN. -/
def R.UPD_RUN : Nat := regKey 0x98 0x54 0
/-- UPD_STAGED. -/
def R.UPD_STAGED : Nat := regKey 0x98 0x58 0
/-- UPD_SVN. -/
def R.UPD_SVN : Nat := regKey 0x98 0x5C 0
def F.UPD_SVN_RUN : Fld := ⟨15, 8⟩
def F.UPD_SVN_FUSED : Fld := ⟨6, 0⟩
/-- UPD_OWNER. -/
def R.UPD_OWNER : Nat := regKey 0x98 0x60 0
def F.UPD_OWNER_PROGRAMMED : Fld := ⟨31, 31⟩
/-- UPD_ACT. -/
def R.UPD_ACT : Nat := regKey 0x98 0x64 0
def F.UPD_ACT_COUNT : Fld := ⟨31, 16⟩
def F.UPD_ACT_PAUSE_MS : Fld := ⟨15, 0⟩

/-! Chapter 14. -/
/-- CRY_JOB. -/
def R.CRY_JOB : Nat := regKey 0x91 0x40 0
def F.CRY_JOB_SLOT : Fld := ⟨15, 8⟩
def F.CRY_JOB_OP : Fld := ⟨7, 0⟩
/-- CRY_SRC. -/
def R.CRY_SRC : Nat := regKey 0x91 0x44 0
/-- CRY_DST. -/
def R.CRY_DST : Nat := regKey 0x91 0x48 0
/-- CRY_LEN. -/
def R.CRY_LEN : Nat := regKey 0x91 0x4C 0
def F.CRY_LEN_LEN : Fld := ⟨23, 0⟩
/-- CRY_AUX. -/
def R.CRY_AUX : Nat := regKey 0x91 0x50 0
/-- CRY_AUXLEN. -/
def R.CRY_AUXLEN : Nat := regKey 0x91 0x54 0
def F.CRY_AUXLEN_LEN : Fld := ⟨23, 0⟩
/-- CRY_IV. -/
def R.CRY_IV (n : Nat) : Nat := regKey 0x91 (0x58 + 0x4 * n) 0
/-- CRY_TAG. -/
def R.CRY_TAG (n : Nat) : Nat := regKey 0x91 (0x64 + 0x4 * n) 0
/-- CRY_GO. -/
def R.CRY_GO : Nat := regKey 0x91 0x74 0
def F.CRY_GO_GO : Fld := ⟨0, 0⟩
/-- CRY_STAT. -/
def R.CRY_STAT : Nat := regKey 0x91 0x78 0
def F.CRY_STAT_BUSY : Fld := ⟨31, 31⟩
def F.CRY_STAT_PASS : Fld := ⟨8, 8⟩
def F.CRY_STAT_CODE : Fld := ⟨7, 0⟩

end Sys2Proof.Machine
end

