-- ==== Sys2Proof/Machine/RegTable.lean ====
section
/-! DEFINITION. The field tables of the register pages (R18, R19): for each block register its offset, its repetition, and for
each field its bits, its access type, its factory reset value and the values a write may give it. -/

namespace Sys2Proof.Machine

/-- The access types of R18; `rsv` is a reserved field, which the tables show as a dash. -/
inductive Acc where
  | rw | ro | w1c | wo | rwp | rwl | rsv
  deriving DecidableEq, Repr

/-- One row of a field table. `legal` lists the ranges of values a write may give the field (none: every value), and a legal value is a multiple of `mult`. -/
structure FieldDesc where
  hi : Nat
  lo : Nat
  acc : Acc
  reset : Nat
  legal : List (Nat × Nat) := []
  mult : Nat := 1
  deriving DecidableEq, Repr

/-- Which slots a register shows: one register, the loop that LPE_LSEL selects, or the circuit that MTR_CSEL selects. -/
inductive Win where
  | one | loop | circuit
  deriving DecidableEq, Repr

/-- One register heading: the offset of its first word, its repetitions (count and stride of each index, the widest stride first) and its fields. -/
structure RegDesc where
  off : Nat
  dims : List (Nat × Nat)
  win : Win
  fields : List FieldDesc
  deriving DecidableEq, Repr

/-- The block registers of page 00h. -/
def regsPage00 : List RegDesc := [
  -- SYS_MODE
  ⟨0x40, [], .one, [⟨31, 24, .ro, 6, [], 1⟩, ⟨23, 16, .rsv, 0, [], 1⟩, ⟨15, 12, .ro, 1, [], 1⟩, ⟨11, 8, .ro, 0, [], 1⟩, ⟨7, 7, .ro, 0, [], 1⟩, ⟨6, 6, .w1c, 0, [], 1⟩, ⟨5, 4, .rsv, 0, [], 1⟩, ⟨3, 0, .ro, 1, [], 1⟩]⟩,
  -- SYS_MODEREQ
  ⟨0x44, [], .one, [⟨31, 4, .rsv, 0, [], 1⟩, ⟨3, 0, .wo, 0, [(0x3, 0x4), (0x6, 0x7)], 1⟩]⟩,
  -- SYS_CMD
  ⟨0x48, [], .one, [⟨31, 16, .wo, 0, [(0x5253, 0x5253)], 1⟩, ⟨15, 2, .rsv, 0, [], 1⟩, ⟨1, 0, .wo, 0, [(0x1, 0x2)], 1⟩]⟩,
  -- SYS_RSTCAUSE
  ⟨0x4C, [], .one, [⟨31, 10, .rsv, 0, [], 1⟩, ⟨9, 9, .w1c, 0, [], 1⟩, ⟨8, 8, .w1c, 0, [], 1⟩, ⟨7, 7, .w1c, 0, [], 1⟩, ⟨6, 6, .w1c, 0, [], 1⟩, ⟨5, 5, .w1c, 0, [], 1⟩, ⟨4, 4, .w1c, 0, [], 1⟩, ⟨3, 3, .w1c, 0, [], 1⟩, ⟨2, 2, .w1c, 0, [], 1⟩, ⟨1, 1, .rsv, 0, [], 1⟩, ⟨0, 0, .w1c, 1, [], 1⟩]⟩,
  -- SYS_DOZECFG
  ⟨0x50, [], .one, [⟨31, 4, .rsv, 0, [], 1⟩, ⟨3, 3, .rwp, 0, [], 1⟩, ⟨2, 2, .rwp, 1, [], 1⟩, ⟨1, 1, .rwp, 1, [], 1⟩, ⟨0, 0, .rwp, 0, [], 1⟩]⟩]

/-- The block registers of page 01h. -/
def regsPage01 : List RegDesc := [
  -- PWR_DOMCTRL
  ⟨0x40, [(14, 0x4)], .one, [⟨31, 31, .rwp, 1, [], 1⟩, ⟨30, 30, .rwp, 0, [], 1⟩, ⟨29, 0, .rsv, 0, [], 1⟩]⟩,
  -- PWR_DOMSTAT
  ⟨0x80, [(14, 0x4)], .one, [⟨31, 30, .ro, 2, [], 1⟩, ⟨29, 29, .ro, 0, [], 1⟩, ⟨28, 28, .ro, 0, [], 1⟩, ⟨27, 27, .rsv, 0, [], 1⟩, ⟨26, 24, .ro, 0, [], 1⟩, ⟨23, 0, .ro, 0, [], 1⟩]⟩]

/-- The block registers of page 02h. -/
def regsPage02 : List RegDesc := [
  -- BOOT_STAT
  ⟨0x40, [], .one, [⟨31, 24, .ro, 1, [], 1⟩, ⟨23, 21, .rsv, 0, [], 1⟩, ⟨20, 20, .ro, 0, [], 1⟩, ⟨19, 16, .ro, 0, [], 1⟩, ⟨15, 0, .ro, 0, [], 1⟩]⟩,
  -- BOOT_PATSTAT
  ⟨0x44, [], .one, [⟨31, 0, .ro, 0, [], 1⟩]⟩,
  -- BOOT_PATSEQ
  ⟨0x48, [], .one, [⟨31, 0, .ro, 0, [], 1⟩]⟩,
  -- BOOT_PATREJ
  ⟨0x4C, [], .one, [⟨31, 24, .ro, 0, [], 1⟩, ⟨23, 21, .ro, 0, [], 1⟩, ⟨20, 0, .rsv, 0, [], 1⟩]⟩,
  -- BOOT_PATREJ2
  ⟨0x50, [], .one, [⟨31, 16, .ro, 0, [], 1⟩, ⟨15, 0, .ro, 0, [], 1⟩]⟩,
  -- BOOT_SSRC
  ⟨0x54, [], .one, [⟨31, 0, .rw, 0, [(0x80000000, 0xFFFFFFFF)], 16⟩]⟩,
  -- BOOT_SLEN
  ⟨0x58, [], .one, [⟨31, 0, .rw, 0, [(0x10, 0x1000000)], 16⟩]⟩,
  -- BOOT_SOFF
  ⟨0x5C, [], .one, [⟨31, 0, .rw, 0, [], 1⟩]⟩,
  -- BOOT_SCMD
  ⟨0x60, [], .one, [⟨31, 2, .rsv, 0, [], 1⟩, ⟨1, 0, .wo, 0, [(0x1, 0x2)], 1⟩]⟩,
  -- BOOT_SSTAT
  ⟨0x64, [], .one, [⟨31, 31, .ro, 0, [], 1⟩, ⟨30, 8, .rsv, 0, [], 1⟩, ⟨7, 0, .ro, 0, [], 1⟩]⟩]

/-- The block registers of page 03h. -/
def regsPage03 : List RegDesc := [
  -- CLK_STAT
  ⟨0x40, [], .one, [⟨31, 31, .ro, 0, [], 1⟩, ⟨30, 30, .ro, 0, [], 1⟩, ⟨29, 0, .rsv, 0, [], 1⟩]⟩,
  -- CLK_LOCK
  ⟨0x44, [], .one, [⟨31, 0, .ro, 0, [], 1⟩]⟩,
  -- CLK_UNLOCK
  ⟨0x48, [], .one, [⟨31, 0, .w1c, 0, [], 1⟩]⟩,
  -- CLK_LOSSCNT
  ⟨0x4C, [], .one, [⟨31, 0, .rw, 0, [], 1⟩]⟩,
  -- CLK_ISL
  ⟨0x100, [(32, 0x4)], .one, [⟨31, 31, .ro, 0, [], 1⟩, ⟨30, 30, .ro, 0, [], 1⟩, ⟨29, 16, .rsv, 0, [], 1⟩, ⟨15, 0, .ro, 0, [], 1⟩]⟩]

/-- The block registers of page 04h. -/
def regsPage04 : List RegDesc := [
  -- RTC_TIME
  ⟨0x40, [], .one, [⟨31, 27, .rsv, 0, [], 1⟩, ⟨26, 24, .rw, 6, [], 1⟩, ⟨23, 22, .rsv, 0, [], 1⟩, ⟨21, 16, .rw, 0, [], 1⟩, ⟨15, 15, .rsv, 0, [], 1⟩, ⟨14, 8, .rw, 0, [], 1⟩, ⟨7, 7, .rsv, 0, [], 1⟩, ⟨6, 0, .rw, 0, [], 1⟩]⟩,
  -- RTC_DATE
  ⟨0x44, [], .one, [⟨31, 25, .rsv, 0, [], 1⟩, ⟨24, 24, .rw, 0, [], 1⟩, ⟨23, 16, .rw, 0, [], 1⟩, ⟨15, 13, .rsv, 0, [], 1⟩, ⟨12, 8, .rw, 1, [], 1⟩, ⟨7, 6, .rsv, 0, [], 1⟩, ⟨5, 0, .rw, 1, [], 1⟩]⟩,
  -- RTC_CTRL
  ⟨0x48, [], .one, [⟨31, 5, .rsv, 0, [], 1⟩, ⟨4, 4, .rw, 0, [], 1⟩, ⟨3, 3, .rw, 0, [], 1⟩, ⟨2, 2, .rw, 0, [], 1⟩, ⟨1, 1, .rsv, 0, [], 1⟩, ⟨0, 0, .rw, 0, [], 1⟩]⟩,
  -- RTC_STAT
  ⟨0x4C, [], .one, [⟨31, 31, .ro, 0, [], 1⟩, ⟨30, 30, .w1c, 1, [], 1⟩, ⟨29, 29, .ro, 0, [], 1⟩, ⟨28, 28, .ro, 0, [], 1⟩, ⟨27, 4, .rsv, 0, [], 1⟩, ⟨3, 3, .w1c, 0, [], 1⟩, ⟨2, 2, .ro, 0, [], 1⟩, ⟨1, 0, .ro, 0, [], 1⟩]⟩,
  -- RTC_CMD
  ⟨0x50, [], .one, [⟨31, 1, .rsv, 0, [], 1⟩, ⟨0, 0, .wo, 0, [], 1⟩]⟩,
  -- RTC_TRIM
  ⟨0x54, [], .one, [⟨31, 0, .rwp, 0, [], 1⟩]⟩,
  -- RTC_SUBSEC
  ⟨0x58, [], .one, [⟨31, 0, .ro, 0, [], 1⟩]⟩,
  -- RTC_ALMT
  ⟨0x5C, [], .one, [⟨31, 31, .rw, 0, [], 1⟩, ⟨30, 27, .rsv, 0, [], 1⟩, ⟨26, 24, .rw, 0, [], 1⟩, ⟨23, 23, .rw, 0, [], 1⟩, ⟨22, 22, .rsv, 0, [], 1⟩, ⟨21, 16, .rw, 0, [], 1⟩, ⟨15, 15, .rw, 0, [], 1⟩, ⟨14, 8, .rw, 0, [], 1⟩, ⟨7, 7, .rw, 0, [], 1⟩, ⟨6, 0, .rw, 0, [], 1⟩]⟩,
  -- RTC_ALMD
  ⟨0x60, [], .one, [⟨31, 31, .rw, 0, [], 1⟩, ⟨30, 25, .rsv, 0, [], 1⟩, ⟨24, 24, .rw, 0, [], 1⟩, ⟨23, 16, .rw, 0, [], 1⟩, ⟨15, 15, .rw, 0, [], 1⟩, ⟨14, 13, .rsv, 0, [], 1⟩, ⟨12, 8, .rw, 0, [], 1⟩, ⟨7, 7, .rw, 0, [], 1⟩, ⟨6, 6, .rsv, 0, [], 1⟩, ⟨5, 0, .rw, 0, [], 1⟩]⟩,
  -- RTC_TBCAP
  ⟨0x68, [(2, 0x4)], .one, [⟨31, 0, .ro, 0, [], 1⟩]⟩,
  -- RTC_BKP
  ⟨0x80, [(32, 0x4)], .one, [⟨31, 0, .rw, 0x5A5A5A5A, [], 1⟩]⟩]

/-- The block registers of page 05h. -/
def regsPage05 : List RegDesc := [
  -- TMP_CFG
  ⟨0x40, [], .one, [⟨31, 26, .rsv, 0, [], 1⟩, ⟨25, 24, .rwl, 2, [], 1⟩, ⟨23, 22, .rwl, 1, [], 1⟩, ⟨21, 21, .rwl, 0, [], 1⟩, ⟨20, 20, .rwl, 1, [], 1⟩, ⟨19, 18, .rsv, 0, [], 1⟩, ⟨17, 17, .rwl, 1, [], 1⟩, ⟨16, 16, .rwl, 1, [], 1⟩, ⟨15, 12, .rwl, 0xF, [], 1⟩, ⟨11, 8, .rwl, 0, [], 1⟩, ⟨7, 4, .rsv, 0, [], 1⟩, ⟨3, 0, .rwl, 0, [], 1⟩]⟩,
  -- TMP_LATCH
  ⟨0x44, [], .one, [⟨31, 31, .w1c, 0, [], 1⟩, ⟨30, 30, .ro, 0, [], 1⟩, ⟨29, 14, .rsv, 0, [], 1⟩, ⟨13, 8, .ro, 0, [], 1⟩, ⟨7, 6, .rsv, 0, [], 1⟩, ⟨5, 0, .ro, 0, [], 1⟩]⟩,
  -- TMP_TS
  ⟨0x48, [(2, 0x4)], .one, [⟨31, 0, .ro, 0, [], 1⟩]⟩,
  -- TMP_CTX
  ⟨0x50, [], .one, [⟨31, 0, .ro, 0, [], 1⟩]⟩,
  -- TMP_PINS
  ⟨0x54, [], .one, [⟨31, 0, .ro, 0, [], 1⟩]⟩]

/-- The block registers of page 06h. -/
def regsPage06 : List RegDesc := [
  -- TB_NOW
  ⟨0x40, [(2, 0x4)], .one, [⟨31, 0, .ro, 0, [], 1⟩]⟩,
  -- TB_RATE
  ⟨0x48, [], .one, [⟨31, 0, .rw, 0, [], 1⟩]⟩,
  -- TB_SLEW
  ⟨0x4C, [], .one, [⟨31, 0, .rw, 0, [], 1⟩]⟩,
  -- TB_STEP
  ⟨0x50, [(2, 0x4)], .one, [⟨31, 0, .rw, 0, [], 1⟩]⟩,
  -- TB_STAT
  ⟨0x58, [], .one, [⟨31, 31, .ro, 0, [], 1⟩, ⟨30, 29, .ro, 0, [], 1⟩, ⟨28, 8, .rsv, 0, [], 1⟩, ⟨7, 0, .ro, 0, [], 1⟩]⟩,
  -- TB_TWOFS
  ⟨0x5C, [], .one, [⟨31, 0, .ro, 0, [], 1⟩]⟩,
  -- TB_LINKDLY
  ⟨0x60, [], .one, [⟨31, 0, .ro, 0, [], 1⟩]⟩]

/-- The block registers of page 07h. -/
def regsPage07 : List RegDesc := [
  -- EVT_ROUTE
  ⟨0x100, [(308, 0x4)], .one, [⟨31, 31, .rwp, 0, [], 1⟩, ⟨30, 5, .rsv, 0, [], 1⟩, ⟨4, 0, .rwp, 0, [(0x0, 0x14), (0x1F, 0x1F)], 1⟩]⟩,
  -- EVT_PEND
  ⟨0x600, [(10, 0x4)], .one, [⟨31, 0, .w1c, 0, [], 1⟩]⟩,
  -- EVT_NEXT
  ⟨0x700, [(21, 0x4)], .one, [⟨31, 31, .ro, 0, [], 1⟩, ⟨30, 9, .rsv, 0, [], 1⟩, ⟨8, 0, .ro, 0, [], 1⟩]⟩]

/-- The block registers of page 08h. -/
def regsPage08 : List RegDesc := [
  -- ARBF_SEED
  ⟨0x40, [], .one, [⟨31, 16, .rsv, 0, [], 1⟩, ⟨15, 0, .rwp, 0xACE1, [(0x1, 0xFFFF)], 1⟩]⟩,
  -- ARBF_LFSR
  ⟨0x44, [], .one, [⟨31, 16, .rsv, 0, [], 1⟩, ⟨15, 0, .ro, 0xACE1, [], 1⟩]⟩,
  -- ARBF_OUT
  ⟨0x48, [], .one, [⟨31, 24, .rsv, 0, [], 1⟩, ⟨23, 16, .rw, 0, [], 1⟩, ⟨15, 8, .rsv, 0, [], 1⟩, ⟨7, 0, .ro, 0, [], 1⟩]⟩,
  -- ARBF_SQUALL
  ⟨0x4C, [], .one, [⟨31, 0, .rw, 0, [], 1⟩]⟩,
  -- ARBF_REQ
  ⟨0x100, [(27, 0x4)], .one, [⟨31, 21, .rsv, 0, [], 1⟩, ⟨20, 16, .rwp, 0, [(0x1, 0x10)], 1⟩, ⟨15, 10, .rsv, 0, [], 1⟩, ⟨9, 8, .rwp, 0, [], 1⟩, ⟨7, 0, .rwp, 0, [], 1⟩]⟩,
  -- ARBF_GRANT
  ⟨0x200, [(27, 0x4)], .one, [⟨31, 0, .ro, 0, [], 1⟩]⟩]

/-- The block registers of page 09h. -/
def regsPage09 : List RegDesc := [
  -- ARBM_SEED
  ⟨0x40, [], .one, [⟨31, 16, .rsv, 0, [], 1⟩, ⟨15, 0, .rwp, 0x1D0F, [(0x1, 0xFFFF)], 1⟩]⟩,
  -- ARBM_REFPRE
  ⟨0x44, [], .one, [⟨31, 0, .rw, 0, [], 1⟩]⟩,
  -- ARBM_REQ
  ⟨0x100, [(26, 0x4)], .one, [⟨31, 10, .rsv, 0, [], 1⟩, ⟨9, 8, .rwp, 0, [], 1⟩, ⟨7, 0, .rwp, 0, [], 1⟩]⟩]

/-- The block registers of page 0Ah. -/
def regsPage0A : List RegDesc := [
  -- LCK_FREE
  ⟨0x40, [], .one, [⟨31, 6, .rsv, 0, [], 1⟩, ⟨5, 0, .wo, 0, [], 1⟩]⟩,
  -- LCK_HELD
  ⟨0x44, [(2, 0x4)], .one, [⟨31, 0, .ro, 0, [], 1⟩]⟩,
  -- LCK_RANKLAST
  ⟨0x4C, [], .one, [⟨31, 31, .w1c, 0, [], 1⟩, ⟨30, 21, .rsv, 0, [], 1⟩, ⟨20, 16, .ro, 0, [], 1⟩, ⟨15, 12, .ro, 0, [], 1⟩, ⟨11, 6, .ro, 0, [], 1⟩, ⟨5, 0, .ro, 0, [], 1⟩]⟩,
  -- LCK_L
  ⟨0x100, [(64, 0x4)], .one, [⟨31, 0, .wo, 0, [(0x1, 0x1)], 1⟩]⟩,
  -- LCK_STAT
  ⟨0x200, [(64, 0x4)], .one, [⟨31, 31, .ro, 0, [], 1⟩, ⟨30, 30, .ro, 0, [], 1⟩, ⟨29, 29, .w1c, 0, [], 1⟩, ⟨28, 21, .rsv, 0, [], 1⟩, ⟨20, 16, .ro, 0, [], 1⟩, ⟨15, 12, .ro, 0, [], 1⟩, ⟨11, 0, .rsv, 0, [], 1⟩]⟩,
  -- LCK_HOLD
  ⟨0x300, [(64, 0x4)], .one, [⟨31, 24, .rsv, 0, [], 1⟩, ⟨23, 0, .rwp, 0, [], 1⟩]⟩]

/-- The block registers of page 0Bh. -/
def regsPage0B : List RegDesc := [
  -- NVR_STAT
  ⟨0x40, [], .one, [⟨31, 31, .ro, 0, [], 1⟩, ⟨30, 30, .ro, 0, [], 1⟩, ⟨29, 24, .rsv, 0, [], 1⟩, ⟨23, 0, .ro, 0, [], 1⟩]⟩,
  -- NVR_CORR
  ⟨0x44, [], .one, [⟨31, 0, .rw, 0, [], 1⟩]⟩,
  -- NVR_UNCORR
  ⟨0x48, [], .one, [⟨31, 0, .rw, 0, [], 1⟩]⟩,
  -- NVR_WRFAIL
  ⟨0x4C, [], .one, [⟨31, 0, .rw, 0, [], 1⟩]⟩,
  -- NVR_UNCADDR
  ⟨0x50, [], .one, [⟨31, 0, .ro, 0, [], 1⟩]⟩]

/-- The block registers of page 0Ch. -/
def regsPage0C : List RegDesc := [
  -- DDR_CFG
  ⟨0x40, [], .one, [⟨31, 0, .ro, 0, [], 1⟩]⟩,
  -- DDR_STAT
  ⟨0x44, [], .one, [⟨31, 31, .ro, 0, [], 1⟩, ⟨30, 3, .rsv, 0, [], 1⟩, ⟨2, 0, .ro, 0, [], 1⟩]⟩,
  -- DDR_TREFI
  ⟨0x48, [], .one, [⟨31, 16, .rsv, 0, [], 1⟩, ⟨15, 0, .ro, 0x1866, [], 1⟩]⟩,
  -- DDR_TIM0
  ⟨0x50, [], .one, [⟨31, 0, .rw, 0x44611D1D, [], 1⟩]⟩,
  -- DDR_TIM1
  ⟨0x54, [], .one, [⟨31, 0, .rw, 0x1D0C3010, [], 1⟩]⟩,
  -- DDR_TIM2
  ⟨0x58, [], .one, [⟨31, 0, .rw, 0x26C0260, [], 1⟩]⟩]

/-- The block registers of page 0Dh. -/
def regsPage0D : List RegDesc := [
  -- XSPI_SIZE
  ⟨0x40, [], .one, [⟨31, 0, .ro, 0, [], 1⟩]⟩,
  -- XSPI_ID
  ⟨0x44, [], .one, [⟨31, 0, .ro, 0, [], 1⟩]⟩,
  -- XSPI_OFF
  ⟨0x48, [], .one, [⟨31, 0, .rw, 0, [(0x0, 0xFFFFFFFF)], 256⟩]⟩,
  -- XSPI_SRC
  ⟨0x4C, [], .one, [⟨31, 0, .rw, 0, [(0x80000000, 0xFFFFFFFF)], 16⟩]⟩,
  -- XSPI_LEN
  ⟨0x50, [], .one, [⟨31, 0, .rw, 0, [(0x100, 0x1000000)], 256⟩]⟩,
  -- XSPI_CMD
  ⟨0x54, [], .one, [⟨31, 2, .rsv, 0, [], 1⟩, ⟨1, 0, .wo, 0, [(0x1, 0x3)], 1⟩]⟩,
  -- XSPI_STAT
  ⟨0x58, [], .one, [⟨31, 31, .ro, 0, [], 1⟩, ⟨30, 30, .ro, 0, [], 1⟩, ⟨29, 24, .rsv, 0, [], 1⟩, ⟨23, 16, .ro, 0, [], 1⟩, ⟨15, 0, .ro, 0, [], 1⟩]⟩]

/-- The block registers of page 10h. -/
def regsPage10 : List RegDesc := [
  -- LDL_CFG
  ⟨0x40, [], .one, [⟨31, 3, .rsv, 0, [], 1⟩, ⟨2, 0, .rwp, 3, [], 1⟩]⟩,
  -- LDL_FAULT
  ⟨0x44, [(2, 0x4)], .one, [⟨31, 0, .ro, 0, [], 1⟩]⟩]

/-- The block registers of page 11h and the 15 pages after it. -/
def regsPage11 : List RegDesc := [
  -- LDLB_HEAD
  ⟨0x40, [], .one, [⟨31, 0, .rwp, 0, [(0x0, 0xFFFFFFFF)], 32⟩]⟩,
  -- LDLB_CUR
  ⟨0x44, [], .one, [⟨31, 0, .ro, 0, [], 1⟩]⟩,
  -- LDLB_FADDR
  ⟨0x54, [], .one, [⟨31, 0, .ro, 0, [], 1⟩]⟩,
  -- LDLB_DONE
  ⟨0x48, [], .one, [⟨31, 24, .rsv, 0, [], 1⟩, ⟨23, 0, .ro, 0, [], 1⟩]⟩,
  -- LDLB_KICK
  ⟨0x4C, [], .one, [⟨31, 1, .rsv, 0, [], 1⟩, ⟨0, 0, .wo, 0, [], 1⟩]⟩,
  -- LDLB_CMD
  ⟨0x50, [], .one, [⟨31, 2, .rsv, 0, [], 1⟩, ⟨1, 0, .wo, 0, [(0x1, 0x2)], 1⟩]⟩,
  -- LDLB_FINFO
  ⟨0x58, [], .one, [⟨31, 31, .w1c, 0, [], 1⟩, ⟨30, 30, .ro, 0, [], 1⟩, ⟨29, 29, .ro, 0, [], 1⟩, ⟨28, 28, .rsv, 0, [], 1⟩, ⟨27, 24, .ro, 0, [], 1⟩, ⟨23, 16, .ro, 0, [], 1⟩, ⟨15, 3, .rsv, 0, [], 1⟩, ⟨2, 0, .ro, 0, [], 1⟩]⟩,
  -- LDLB_COUNT
  ⟨0x5C, [], .one, [⟨31, 0, .rw, 0, [], 1⟩]⟩]

/-- The block registers of page 21h and the 5 pages after it. -/
def regsPage21 : List RegDesc := [
  -- LDLL_SRC
  ⟨0x44, [(8, 0x20)], .one, [⟨31, 0, .rwp, 0, [], 1⟩]⟩,
  -- LDLL_DST
  ⟨0x48, [(8, 0x20)], .one, [⟨31, 0, .rwp, 0, [], 1⟩]⟩,
  -- LDLL_LEN
  ⟨0x4C, [(8, 0x20)], .one, [⟨31, 16, .rsv, 0, [], 1⟩, ⟨15, 0, .rwp, 0, [(0x1, 0xFFFF)], 1⟩]⟩,
  -- LDLL_FADDR
  ⟨0x58, [(8, 0x20)], .one, [⟨31, 0, .ro, 0, [], 1⟩]⟩,
  -- LDLL_COUNT
  ⟨0x5C, [(8, 0x20)], .one, [⟨31, 0, .rw, 0, [], 1⟩]⟩,
  -- LDLL_CTRL
  ⟨0x40, [(8, 0x20)], .one, [⟨31, 31, .rwp, 0, [], 1⟩, ⟨30, 28, .rwp, 0, [(0x0, 0x4)], 1⟩, ⟨27, 27, .rwp, 0, [], 1⟩, ⟨26, 26, .rwp, 0, [], 1⟩, ⟨25, 25, .rwp, 0, [], 1⟩, ⟨24, 24, .rwp, 0, [], 1⟩, ⟨23, 22, .rsv, 0, [], 1⟩, ⟨21, 16, .rwp, 0, [], 1⟩, ⟨15, 15, .rsv, 0, [], 1⟩, ⟨14, 14, .rwp, 0, [], 1⟩, ⟨13, 8, .rwp, 0, [], 1⟩, ⟨7, 0, .rsv, 0, [], 1⟩]⟩,
  -- LDLL_CMD
  ⟨0x50, [(8, 0x20)], .one, [⟨31, 2, .rsv, 0, [], 1⟩, ⟨1, 0, .wo, 0, [(0x1, 0x3)], 1⟩]⟩,
  -- LDLL_STAT
  ⟨0x54, [(8, 0x20)], .one, [⟨31, 31, .ro, 0, [], 1⟩, ⟨30, 30, .ro, 0, [], 1⟩, ⟨29, 29, .ro, 0, [], 1⟩, ⟨28, 28, .ro, 0, [], 1⟩, ⟨27, 24, .ro, 0, [], 1⟩, ⟨23, 16, .ro, 0, [], 1⟩, ⟨15, 5, .rsv, 0, [], 1⟩, ⟨4, 4, .ro, 0, [], 1⟩, ⟨3, 2, .rsv, 0, [], 1⟩, ⟨1, 0, .ro, 0, [], 1⟩]⟩]

/-- The block registers of page 28h and the 3 pages after it. -/
def regsPage28 : List RegDesc := [
  -- TND_IDLE
  ⟨0x108, [(16, 0x40)], .one, [⟨31, 0, .rwp, 0, [], 1⟩]⟩,
  -- TND_LEVEL
  ⟨0x10C, [(16, 0x40)], .one, [⟨31, 0, .ro, 0, [], 1⟩]⟩,
  -- TND_FLAGS
  ⟨0x110, [(16, 0x40)], .one, [⟨31, 0, .ro, 0, [], 1⟩]⟩,
  -- TND_CMD
  ⟨0x114, [(16, 0x40)], .one, [⟨31, 2, .rsv, 0, [], 1⟩, ⟨1, 0, .wo, 0, [(0x1, 0x2)], 1⟩]⟩,
  -- TND_PUSH
  ⟨0x118, [(16, 0x40), (4, 0x4)], .one, [⟨31, 0, .wo, 0, [], 1⟩]⟩,
  -- TND_POP
  ⟨0x128, [(16, 0x40)], .one, [⟨31, 0, .ro, 0, [], 1⟩]⟩,
  -- TND_POPH
  ⟨0x12C, [(16, 0x40)], .one, [⟨31, 0, .ro, 0, [], 1⟩]⟩,
  -- TND_CNT
  ⟨0x130, [(16, 0x40)], .one, [⟨31, 0, .rw, 0, [], 1⟩]⟩,
  -- TND_PTRDUP
  ⟨0x134, [(16, 0x40)], .one, [⟨31, 0, .rw, 0, [], 1⟩]⟩,
  -- TND_PTR
  ⟨0x138, [(16, 0x40)], .one, [⟨31, 0, .rw, 0, [], 1⟩]⟩,
  -- TND_DENY
  ⟨0x13C, [(16, 0x40)], .one, [⟨31, 0, .rw, 0, [], 1⟩]⟩,
  -- TND_CFG
  ⟨0x100, [(16, 0x40)], .one, [⟨31, 31, .rwp, 0, [], 1⟩, ⟨30, 29, .rwp, 0, [(0x0, 0x2)], 1⟩, ⟨28, 22, .rsv, 0, [], 1⟩, ⟨21, 16, .rwp, 0, [], 1⟩, ⟨15, 13, .rsv, 0, [], 1⟩, ⟨12, 8, .rwp, 0, [], 1⟩, ⟨7, 0, .rsv, 0, [], 1⟩]⟩,
  -- TND_BASE
  ⟨0x104, [(16, 0x40)], .one, [⟨31, 31, .rsv, 0, [], 1⟩, ⟨30, 16, .rwp, 0, [], 1⟩, ⟨15, 14, .rsv, 0, [], 1⟩, ⟨13, 0, .rwp, 0, [], 1⟩]⟩]

/-- The block registers of page 30h. -/
def regsPage30 : List RegDesc := [
  -- PTD_SEL
  ⟨0x40, [], .one, [⟨31, 13, .rsv, 0, [], 1⟩, ⟨12, 0, .rw, 0, [], 1⟩]⟩,
  -- PTD_ATTR
  ⟨0x44, [], .one, [⟨31, 31, .ro, 0, [], 1⟩, ⟨30, 21, .rsv, 0, [], 1⟩, ⟨20, 16, .rw, 0, [], 1⟩, ⟨15, 8, .rw, 0, [(0x0, 0xB)], 1⟩, ⟨7, 0, .rsv, 0, [], 1⟩]⟩,
  -- PTD_READERS
  ⟨0x48, [], .one, [⟨31, 0, .rw, 0, [], 1⟩]⟩,
  -- PTD_CMD
  ⟨0x4C, [], .one, [⟨31, 3, .rsv, 0, [], 1⟩, ⟨2, 0, .wo, 0, [(0x1, 0x4)], 1⟩]⟩,
  -- PTD_COUNT
  ⟨0x50, [], .one, [⟨31, 14, .rsv, 0, [], 1⟩, ⟨13, 0, .ro, 0, [], 1⟩]⟩]

/-- The block registers of page 31h. -/
def regsPage31 : List RegDesc := [
  -- FLK_CFG
  ⟨0x40, [(32, 0x4)], .one, [⟨31, 31, .rwp, 0, [], 1⟩, ⟨30, 23, .rsv, 0, [], 1⟩, ⟨22, 16, .rwp, 0x7F, [(0x0, 0x3F), (0x7F, 0x7F)], 1⟩, ⟨15, 14, .rsv, 0, [], 1⟩, ⟨13, 0, .rwp, 0x2000, [(0x0, 0x2000)], 1⟩]⟩,
  -- FLK_OWNED
  ⟨0xC0, [(32, 0x4)], .one, [⟨31, 14, .rsv, 0, [], 1⟩, ⟨13, 0, .ro, 0, [], 1⟩]⟩,
  -- FLK_DENY
  ⟨0x140, [(32, 0x4)], .one, [⟨31, 0, .ro, 0, [], 1⟩]⟩,
  -- FLK_DENY_CLR
  ⟨0x1C0, [], .one, [⟨31, 0, .wo, 0, [], 1⟩]⟩,
  -- FLK_DENY_LAST
  ⟨0x1C4, [], .one, [⟨31, 31, .w1c, 0, [], 1⟩, ⟨30, 29, .rsv, 0, [], 1⟩, ⟨28, 24, .ro, 0, [], 1⟩, ⟨23, 20, .ro, 0, [], 1⟩, ⟨19, 13, .rsv, 0, [], 1⟩, ⟨12, 0, .ro, 0, [], 1⟩]⟩]

/-- The block registers of page 32h. -/
def regsPage32 : List RegDesc := [
  -- FRC_POINT
  ⟨0x40, [], .one, [⟨31, 13, .rsv, 0, [], 1⟩, ⟨12, 0, .rw, 0, [], 1⟩]⟩,
  -- FRC_VALUE
  ⟨0x44, [(2, 0x4)], .one, [⟨31, 0, .rw, 0, [], 1⟩]⟩,
  -- FRC_CMD
  ⟨0x4C, [], .one, [⟨31, 3, .rsv, 0, [], 1⟩, ⟨2, 0, .wo, 0, [(0x1, 0x5)], 1⟩]⟩,
  -- FRC_INDEX
  ⟨0x50, [], .one, [⟨31, 10, .rsv, 0, [], 1⟩, ⟨9, 0, .rw, 0, [], 1⟩]⟩,
  -- FRC_RESULT
  ⟨0x54, [], .one, [⟨31, 31, .ro, 0, [], 1⟩, ⟨30, 30, .ro, 0, [], 1⟩, ⟨29, 29, .ro, 0, [], 1⟩, ⟨28, 24, .ro, 0, [], 1⟩, ⟨23, 14, .ro, 0, [], 1⟩, ⟨13, 13, .rsv, 0, [], 1⟩, ⟨12, 0, .ro, 0, [], 1⟩]⟩,
  -- FRC_RVALUE
  ⟨0x58, [(2, 0x4)], .one, [⟨31, 0, .ro, 0, [], 1⟩]⟩,
  -- FRC_UVALUE
  ⟨0x60, [(2, 0x4)], .one, [⟨31, 0, .ro, 0, [], 1⟩]⟩,
  -- FRC_UINFO
  ⟨0x68, [], .one, [⟨31, 16, .ro, 0, [], 1⟩, ⟨15, 8, .rsv, 0, [], 1⟩, ⟨7, 0, .ro, 0, [], 1⟩]⟩,
  -- FRC_COUNT
  ⟨0x6C, [], .one, [⟨31, 11, .rsv, 0, [], 1⟩, ⟨10, 0, .ro, 0, [], 1⟩]⟩]

/-- The block registers of page 38h. -/
def regsPage38 : List RegDesc := [
  -- SCN_TCFG
  ⟨0x100, [(64, 0x10)], .one, [⟨31, 31, .rwp, 0, [], 1⟩, ⟨30, 28, .rwp, 0, [(0x0, 0x2)], 1⟩, ⟨27, 27, .rsv, 0, [], 1⟩, ⟨26, 24, .rwp, 0, [], 1⟩, ⟨23, 20, .rsv, 0, [], 1⟩, ⟨19, 16, .rwp, 0, [], 1⟩, ⟨15, 13, .rsv, 0, [], 1⟩, ⟨12, 8, .rwp, 0, [], 1⟩, ⟨7, 3, .rsv, 0, [], 1⟩, ⟨2, 2, .rwp, 1, [], 1⟩, ⟨1, 1, .rwp, 0, [], 1⟩, ⟨0, 0, .rsv, 0, [], 1⟩]⟩,
  -- SCN_TPER
  ⟨0x104, [(64, 0x10)], .one, [⟨31, 16, .rwp, 0, [(0x0, 0x9C3F)], 1⟩, ⟨15, 0, .rwp, 4, [(0x0, 0x9C40)], 1⟩]⟩,
  -- SCN_TBUD
  ⟨0x108, [(64, 0x10)], .one, [⟨31, 24, .rwp, 0, [], 1⟩, ⟨23, 0, .rwp, 0, [], 1⟩]⟩,
  -- SCN_TSRC
  ⟨0x10C, [(64, 0x10)], .one, [⟨31, 24, .rsv, 0, [], 1⟩, ⟨23, 16, .rwp, 0, [(0x0, 0x2F), (0x40, 0x7F)], 1⟩, ⟨15, 6, .rsv, 0, [], 1⟩, ⟨5, 0, .rwp, 0, [], 1⟩]⟩,
  -- SCN_TSTAT
  ⟨0x500, [(64, 0x10)], .one, [⟨31, 29, .ro, 0, [], 1⟩, ⟨28, 24, .rsv, 0, [], 1⟩, ⟨23, 16, .ro, 0, [], 1⟩, ⟨15, 8, .ro, 0, [], 1⟩, ⟨7, 1, .rsv, 0, [], 1⟩, ⟨0, 0, .ro, 0, [], 1⟩]⟩,
  -- SCN_TRUNS
  ⟨0x504, [(64, 0x10)], .one, [⟨31, 0, .ro, 0, [], 1⟩]⟩,
  -- SCN_TOVR
  ⟨0x508, [(64, 0x10)], .one, [⟨31, 16, .ro, 0, [], 1⟩, ⟨15, 0, .ro, 0, [], 1⟩]⟩,
  -- SCN_TTIME
  ⟨0x50C, [(64, 0x10)], .one, [⟨31, 16, .ro, 0, [], 1⟩, ⟨15, 0, .ro, 0, [], 1⟩]⟩,
  -- SCN_TCLR
  ⟨0x40, [], .one, [⟨31, 31, .wo, 0, [], 1⟩, ⟨30, 6, .rsv, 0, [], 1⟩, ⟨5, 0, .wo, 0, [], 1⟩]⟩,
  -- SCN_RETSZ
  ⟨0x44, [], .one, [⟨31, 22, .rsv, 0, [], 1⟩, ⟨21, 0, .ro, 0, [], 1⟩]⟩,
  -- SCN_STAGE
  ⟨0x48, [], .one, [⟨31, 20, .rsv, 0, [], 1⟩, ⟨19, 0, .ro, 0, [], 1⟩]⟩,
  -- SCN_PFWST
  ⟨0x4C, [], .one, [⟨31, 31, .w1c, 0, [], 1⟩, ⟨30, 30, .ro, 0, [], 1⟩, ⟨29, 24, .rsv, 0, [], 1⟩, ⟨23, 16, .ro, 0, [], 1⟩, ⟨15, 0, .ro, 0, [], 1⟩]⟩,
  -- SCN_MCODE
  ⟨0x900, [(32, 0x10)], .one, [⟨31, 0, .ro, 0, [], 1⟩]⟩,
  -- SCN_MCSZ
  ⟨0x904, [(32, 0x10)], .one, [⟨31, 23, .rsv, 0, [], 1⟩, ⟨22, 0, .ro, 0, [], 1⟩]⟩,
  -- SCN_MDATA
  ⟨0x908, [(32, 0x10)], .one, [⟨31, 0, .ro, 0, [], 1⟩]⟩,
  -- SCN_MDSZ
  ⟨0x90C, [(32, 0x10)], .one, [⟨31, 23, .rsv, 0, [], 1⟩, ⟨22, 0, .ro, 0, [], 1⟩]⟩]

/-- The block registers of page 39h and the 7 pages after it. -/
def regsPage39 : List RegDesc := [
  -- SCC_STATUS
  ⟨0x40, [], .one, [⟨31, 31, .rsv, 0, [], 1⟩, ⟨30, 24, .ro, 0x7F, [], 1⟩, ⟨23, 20, .rsv, 0, [], 1⟩, ⟨19, 16, .ro, 0, [], 1⟩, ⟨15, 10, .rsv, 0, [], 1⟩, ⟨9, 0, .ro, 0, [], 1⟩]⟩,
  -- SCC_WAIT
  ⟨0x44, [], .one, [⟨31, 16, .rsv, 0, [], 1⟩, ⟨15, 0, .rw, 0, [], 1⟩]⟩,
  -- SCC_UCAUSE
  ⟨0x48, [], .one, [⟨31, 31, .w1c, 0, [], 1⟩, ⟨30, 30, .ro, 0, [], 1⟩, ⟨29, 24, .rsv, 0, [], 1⟩, ⟨23, 16, .ro, 0, [], 1⟩, ⟨15, 15, .rsv, 0, [], 1⟩, ⟨14, 14, .ro, 0, [], 1⟩, ⟨13, 8, .ro, 0, [], 1⟩, ⟨7, 0, .ro, 0, [], 1⟩]⟩,
  -- SCC_UDETAIL
  ⟨0x4C, [], .one, [⟨31, 0, .ro, 0, [], 1⟩]⟩]

/-- The block registers of page 41h. -/
def regsPage41 : List RegDesc := [
  -- XCH_SRC
  ⟨0x40, [], .one, [⟨31, 0, .rw, 0, [(0x80000000, 0xFFFFFFFF)], 16⟩]⟩,
  -- XCH_LEN
  ⟨0x44, [], .one, [⟨31, 0, .rw, 0, [(0x80, 0x1000000)], 16⟩]⟩,
  -- XCH_REQ
  ⟨0x48, [], .one, [⟨31, 16, .rsv, 0, [], 1⟩, ⟨15, 8, .rw, 0, [], 1⟩, ⟨7, 5, .rsv, 0, [], 1⟩, ⟨4, 0, .rw, 0, [], 1⟩]⟩,
  -- XCH_RPT
  ⟨0x4C, [], .one, [⟨31, 0, .rw, 0, [(0x80000000, 0xFFFFFFFF)], 16⟩]⟩,
  -- XCH_RPTSZ
  ⟨0x50, [], .one, [⟨31, 21, .rsv, 0, [], 1⟩, ⟨20, 0, .rw, 0, [(0x0, 0x100000)], 16⟩]⟩,
  -- XCH_TMO
  ⟨0x54, [], .one, [⟨31, 16, .rsv, 0, [], 1⟩, ⟨15, 0, .rwp, 0x3E8, [(0x1, 0xFFFF)], 1⟩]⟩,
  -- XCH_CMD
  ⟨0x58, [], .one, [⟨31, 3, .rsv, 0, [], 1⟩, ⟨2, 0, .wo, 0, [(0x1, 0x6)], 1⟩]⟩,
  -- XCH_STATUS
  ⟨0x5C, [], .one, [⟨31, 29, .ro, 0, [], 1⟩, ⟨28, 24, .ro, 0, [], 1⟩, ⟨23, 16, .ro, 0, [], 1⟩, ⟨15, 2, .rsv, 0, [], 1⟩, ⟨1, 1, .ro, 0, [], 1⟩, ⟨0, 0, .ro, 0, [], 1⟩]⟩,
  -- XCH_TIME
  ⟨0x60, [], .one, [⟨31, 16, .ro, 0, [], 1⟩, ⟨15, 0, .ro, 0, [], 1⟩]⟩,
  -- XCH_POOL
  ⟨0x64, [], .one, [⟨31, 24, .rsv, 0, [], 1⟩, ⟨23, 0, .ro, 0xC00000, [], 1⟩]⟩,
  -- XCH_MID
  ⟨0x80, [(32, 0x4)], .one, [⟨31, 0, .ro, 0, [], 1⟩]⟩]

/-- The block registers of page 48h. -/
def regsPage48 : List RegDesc := [
  -- LPG_GSWAP
  ⟨0x40, [], .one, [⟨31, 16, .rsv, 0, [], 1⟩, ⟨15, 0, .wo, 0, [], 1⟩]⟩]

/-- The block registers of page 49h and the 3 pages after it. -/
def regsPage49 : List RegDesc := [
  -- LPE_LSEL
  ⟨0x40, [], .one, [⟨31, 7, .rsv, 0, [], 1⟩, ⟨6, 0, .rw, 0, [], 1⟩]⟩,
  -- LPE_LOAD
  ⟨0x44, [], .one, [⟨31, 16, .rw, 0, [], 1⟩, ⟨15, 10, .rsv, 0, [], 1⟩, ⟨9, 0, .ro, 0, [], 1⟩]⟩,
  -- LPE_COUNT
  ⟨0x48, [], .one, [⟨31, 8, .rsv, 0, [], 1⟩, ⟨7, 0, .ro, 0, [], 1⟩]⟩,
  -- LPE_CTRL
  ⟨0x100, [], .loop, [⟨31, 31, .rwp, 0, [], 1⟩, ⟨30, 27, .rsv, 0, [], 1⟩, ⟨26, 24, .rwp, 0, [(0x0, 0x2)], 1⟩, ⟨23, 18, .rsv, 0, [], 1⟩, ⟨17, 17, .rwp, 1, [], 1⟩, ⟨16, 16, .rwp, 0, [], 1⟩, ⟨15, 4, .rsv, 0, [], 1⟩, ⟨3, 0, .rwp, 0, [], 1⟩]⟩,
  -- LPE_CFG
  ⟨0x104, [], .loop, [⟨31, 29, .rsv, 0, [], 1⟩, ⟨28, 24, .rwp, 0, [], 1⟩, ⟨23, 20, .rsv, 0, [], 1⟩, ⟨19, 18, .rwp, 0, [], 1⟩, ⟨17, 17, .rwp, 0, [], 1⟩, ⟨16, 16, .rwp, 0, [], 1⟩, ⟨15, 13, .rsv, 0, [], 1⟩, ⟨12, 12, .rwp, 0, [], 1⟩, ⟨11, 9, .rsv, 0, [], 1⟩, ⟨8, 8, .rwp, 0, [], 1⟩, ⟨7, 3, .rsv, 0, [], 1⟩, ⟨2, 0, .rwp, 1, [(0x1, 0x4)], 1⟩]⟩,
  -- LPE_TIME
  ⟨0x108, [], .loop, [⟨31, 16, .rwp, 0, [], 1⟩, ⟨15, 0, .rwp, 1, [(0x1, 0xFFFF)], 1⟩]⟩,
  -- LPE_PTS
  ⟨0x10C, [], .loop, [⟨31, 29, .rsv, 0, [], 1⟩, ⟨28, 16, .rwp, 0, [], 1⟩, ⟨15, 13, .rsv, 0, [], 1⟩, ⟨12, 0, .rwp, 0, [], 1⟩]⟩,
  -- LPE_PTO
  ⟨0x110, [], .loop, [⟨31, 29, .rsv, 0, [], 1⟩, ⟨28, 16, .rwp, 0, [], 1⟩, ⟨15, 13, .rsv, 0, [], 1⟩, ⟨12, 0, .rwp, 0, [], 1⟩]⟩,
  -- LPE_SCL
  ⟨0x114, [(5, 0x4)], .loop, [⟨31, 0, .rwp, 0, [], 1⟩]⟩,
  -- LPE_LIM
  ⟨0x128, [(2, 0x4)], .loop, [⟨31, 0, .rwp, 0, [], 1⟩]⟩,
  -- LPE_SPC
  ⟨0x130, [], .loop, [⟨31, 0, .rwp, 0, [], 1⟩]⟩,
  -- LPE_MAN
  ⟨0x134, [], .loop, [⟨31, 0, .rwp, 0, [], 1⟩]⟩,
  -- LPE_FAILV
  ⟨0x138, [], .loop, [⟨31, 0, .rwp, 0, [], 1⟩]⟩,
  -- LPE_BANK
  ⟨0x13C, [], .loop, [⟨31, 3, .rsv, 0, [], 1⟩, ⟨2, 2, .ro, 0, [], 1⟩, ⟨1, 1, .wo, 0, [], 1⟩, ⟨0, 0, .ro, 0, [], 1⟩]⟩,
  -- LPE_LSTAT
  ⟨0x140, [], .loop, [⟨31, 31, .ro, 0, [], 1⟩, ⟨30, 30, .ro, 0, [], 1⟩, ⟨29, 29, .ro, 0, [], 1⟩, ⟨28, 24, .rsv, 0, [], 1⟩, ⟨23, 23, .w1c, 0, [], 1⟩, ⟨22, 22, .w1c, 0, [], 1⟩, ⟨21, 21, .w1c, 0, [], 1⟩, ⟨20, 20, .w1c, 0, [], 1⟩, ⟨19, 19, .w1c, 0, [], 1⟩, ⟨18, 10, .rsv, 0, [], 1⟩, ⟨9, 9, .ro, 0, [], 1⟩, ⟨8, 6, .rsv, 0, [], 1⟩, ⟨5, 5, .ro, 0, [], 1⟩, ⟨4, 4, .ro, 0, [], 1⟩, ⟨3, 2, .rsv, 0, [], 1⟩, ⟨1, 0, .ro, 0, [], 1⟩]⟩,
  -- LPE_PRFT
  ⟨0x150, [], .loop, [⟨31, 0, .rwp, 0, [], 1⟩]⟩,
  -- LPE_PRFL
  ⟨0x154, [(3, 0x4)], .loop, [⟨31, 0, .rwp, 0x3F800000, [], 1⟩]⟩,
  -- LPE_PRFS
  ⟨0x160, [(3, 0x4)], .loop, [⟨31, 0, .ro, 0, [], 1⟩]⟩,
  -- LPE_COEF
  ⟨0x180, [(2, 0x50), (4, 0x14), (5, 0x4)], .loop, [⟨31, 0, .rwp, 0, [], 1⟩]⟩,
  -- LPE_STATE
  ⟨0x220, [(4, 0x10), (2, 0x8), (2, 0x4)], .loop, [⟨31, 0, .rw, 0, [], 1⟩]⟩,
  -- LPE_XL
  ⟨0x260, [], .loop, [⟨31, 0, .ro, 0, [], 1⟩]⟩,
  -- LPE_UVAL
  ⟨0x264, [], .loop, [⟨31, 0, .rw, 0, [], 1⟩]⟩,
  -- LPE_PVN
  ⟨0x268, [], .loop, [⟨31, 0, .ro, 0, [], 1⟩]⟩,
  -- LPE_SPN
  ⟨0x26C, [], .loop, [⟨31, 0, .ro, 0, [], 1⟩]⟩]

/-- The block registers of page 50h. -/
def regsPage50 : List RegDesc := [
  -- MTR_ZC
  ⟨0x40, [], .one, [⟨31, 16, .rsv, 0, [], 1⟩, ⟨15, 8, .rwp, 0xA, [(0x1, 0x64)], 1⟩, ⟨7, 0, .rwp, 0x28, [(0x14, 0xC8)], 1⟩]⟩,
  -- MTR_DEM
  ⟨0x44, [], .one, [⟨31, 6, .rsv, 0, [], 1⟩, ⟨5, 0, .rwp, 0xF, [(0x1, 0x1), (0x2, 0x2), (0x3, 0x3), (0x4, 0x4), (0x5, 0x5), (0x6, 0x6), (0xA, 0xA), (0xC, 0xC), (0xF, 0xF), (0x14, 0x14), (0x1E, 0x1E), (0x3C, 0x3C)], 1⟩]⟩,
  -- MTR_PUB
  ⟨0x48, [], .one, [⟨31, 7, .rsv, 0, [], 1⟩, ⟨6, 0, .rwp, 0xA, [(0x1, 0x64)], 1⟩]⟩,
  -- MTR_SAG
  ⟨0x4C, [], .one, [⟨31, 31, .rwp, 0, [], 1⟩, ⟨30, 27, .rsv, 0, [], 1⟩, ⟨26, 24, .rwp, 0, [(0x0, 0x5)], 1⟩, ⟨23, 16, .rwp, 4, [(0x1, 0x32)], 1⟩, ⟨15, 0, .rwp, 0x708, [(0x1, 0xFFFF)], 1⟩]⟩,
  -- MTR_VSTAT
  ⟨0x50, [(6, 0x4)], .one, [⟨31, 31, .ro, 0, [], 1⟩, ⟨30, 30, .ro, 0, [], 1⟩, ⟨29, 24, .rsv, 0, [], 1⟩, ⟨23, 0, .ro, 0, [], 1⟩]⟩,
  -- MTR_CSEL
  ⟨0x80, [], .one, [⟨31, 6, .rsv, 0, [], 1⟩, ⟨5, 0, .rw, 0, [(0x0, 0x2F)], 1⟩]⟩,
  -- MTR_GAP
  ⟨0x84, [], .one, [⟨31, 31, .w1c, 0, [], 1⟩, ⟨30, 30, .ro, 0, [], 1⟩, ⟨29, 29, .ro, 0, [], 1⟩, ⟨28, 0, .ro, 0, [], 1⟩]⟩,
  -- CIR_CTRL
  ⟨0x100, [], .circuit, [⟨31, 31, .rwp, 0, [], 1⟩, ⟨30, 0, .rsv, 0, [], 1⟩]⟩,
  -- CIR_CFG
  ⟨0x104, [], .circuit, [⟨31, 29, .rsv, 0, [], 1⟩, ⟨28, 24, .rwp, 0, [], 1⟩, ⟨23, 18, .rsv, 0, [], 1⟩, ⟨17, 16, .rwp, 1, [(0x1, 0x3)], 1⟩, ⟨15, 11, .rsv, 0, [], 1⟩, ⟨10, 8, .rwp, 0, [(0x0, 0x5)], 1⟩, ⟨7, 0, .rsv, 0, [], 1⟩]⟩,
  -- CIR_ELEM
  ⟨0x108, [(3, 0x4)], .circuit, [⟨31, 16, .rsv, 0, [], 1⟩, ⟨15, 15, .rwp, 0, [], 1⟩, ⟨14, 11, .rsv, 0, [], 1⟩, ⟨10, 8, .rwp, 0, [(0x0, 0x5)], 1⟩, ⟨7, 6, .rsv, 0, [], 1⟩, ⟨5, 0, .rwp, 0, [(0x0, 0x2F)], 1⟩]⟩,
  -- CIR_PTS
  ⟨0x114, [], .circuit, [⟨31, 29, .rsv, 0, [], 1⟩, ⟨28, 16, .rwp, 0, [], 1⟩, ⟨15, 13, .rsv, 0, [], 1⟩, ⟨12, 0, .rwp, 0, [], 1⟩]⟩,
  -- CIR_CMD
  ⟨0x118, [], .circuit, [⟨31, 2, .rsv, 0, [], 1⟩, ⟨1, 0, .wo, 0, [(0x1, 0x2)], 1⟩]⟩,
  -- CIR_STAT
  ⟨0x11C, [], .circuit, [⟨31, 30, .rsv, 0, [], 1⟩, ⟨29, 24, .w1c, 0, [], 1⟩, ⟨23, 23, .w1c, 0, [], 1⟩, ⟨22, 22, .w1c, 0, [], 1⟩, ⟨21, 8, .rsv, 0, [], 1⟩, ⟨7, 7, .ro, 0, [], 1⟩, ⟨6, 6, .ro, 0, [], 1⟩, ⟨5, 5, .rsv, 0, [], 1⟩, ⟨4, 4, .ro, 0, [], 1⟩, ⟨3, 2, .rsv, 0, [], 1⟩, ⟨1, 0, .ro, 0, [], 1⟩]⟩,
  -- CIR_E
  ⟨0x120, [(6, 0x8)], .circuit, [⟨31, 0, .ro, 0, [], 1⟩]⟩,
  -- CIR_EH
  ⟨0x124, [(6, 0x8)], .circuit, [⟨31, 16, .rsv, 0, [], 1⟩, ⟨15, 8, .ro, 0, [], 1⟩, ⟨7, 0, .ro, 0, [], 1⟩]⟩,
  -- CIR_DIMP
  ⟨0x150, [], .circuit, [⟨31, 0, .ro, 0, [], 1⟩]⟩,
  -- CIR_DEXP
  ⟨0x154, [], .circuit, [⟨31, 0, .ro, 0, [], 1⟩]⟩,
  -- CIR_DINFO
  ⟨0x158, [], .circuit, [⟨31, 31, .ro, 0, [], 1⟩, ⟨30, 30, .ro, 0, [], 1⟩, ⟨29, 29, .ro, 0, [], 1⟩, ⟨28, 28, .ro, 0, [], 1⟩, ⟨27, 16, .rsv, 0, [], 1⟩, ⟨15, 0, .ro, 0, [], 1⟩]⟩,
  -- CIR_MAXD
  ⟨0x15C, [], .circuit, [⟨31, 0, .ro, 0, [], 1⟩]⟩,
  -- CIR_MAXT
  ⟨0x160, [], .circuit, [⟨31, 0, .ro, 0, [], 1⟩]⟩,
  -- CIR_P
  ⟨0x164, [], .circuit, [⟨31, 0, .ro, 0, [], 1⟩]⟩,
  -- CIR_Q
  ⟨0x168, [], .circuit, [⟨31, 0, .ro, 0, [], 1⟩]⟩]

/-- The block registers of page 51h and the 1 pages after it. -/
def regsPage51 : List RegDesc := [
  -- MDSP_LOAD
  ⟨0x40, [], .one, [⟨31, 10, .rsv, 0, [], 1⟩, ⟨9, 0, .ro, 0, [], 1⟩]⟩,
  -- MDSP_LOST
  ⟨0x44, [], .one, [⟨31, 0, .rw, 0, [], 1⟩]⟩]

/-- The block registers of page 53h. -/
def regsPage53 : List RegDesc := [
  -- AFE_VFS
  ⟨0x40, [(6, 0x4)], .one, [⟨31, 0, .rwp, 0x43C80000, [], 1⟩]⟩,
  -- AFE_IFS
  ⟨0x60, [(48, 0x4)], .one, [⟨31, 0, .rwp, 0x43480000, [], 1⟩]⟩,
  -- AFE_PTRIM
  ⟨0x120, [(48, 0x4)], .one, [⟨31, 13, .rsv, 0, [], 1⟩, ⟨12, 0, .rwp, 0, [], 1⟩]⟩,
  -- AFE_PATHST
  ⟨0x200, [(2, 0x4)], .one, [⟨31, 0, .ro, 0, [], 1⟩]⟩,
  -- AFE_ICLIP0
  ⟨0x208, [], .one, [⟨31, 0, .w1c, 0, [], 1⟩]⟩,
  -- AFE_ICLIP1
  ⟨0x20C, [], .one, [⟨31, 16, .rsv, 0, [], 1⟩, ⟨15, 0, .w1c, 0, [], 1⟩]⟩,
  -- AFE_VCLIP
  ⟨0x210, [], .one, [⟨31, 6, .rsv, 0, [], 1⟩, ⟨5, 0, .w1c, 0, [], 1⟩]⟩]

/-- The block registers of page 54h. -/
def regsPage54 : List RegDesc := [
  -- LCAL_CFG
  ⟨0x40, [], .one, [⟨31, 15, .rsv, 0, [], 1⟩, ⟨14, 0, .rwp, 0x7530, [(0x1, 0x7530)], 1⟩]⟩,
  -- LCAL_STAT
  ⟨0x44, [], .one, [⟨31, 31, .w1c, 0, [], 1⟩, ⟨30, 30, .w1c, 0, [], 1⟩, ⟨29, 16, .rsv, 0, [], 1⟩, ⟨15, 0, .ro, 0, [], 1⟩]⟩,
  -- LCAL_GAIN
  ⟨0x100, [(102, 0x4)], .one, [⟨31, 16, .ro, 0, [], 1⟩, ⟨15, 0, .ro, 0, [], 1⟩]⟩]

/-- The block registers of page 58h and the 7 pages after it. -/
def regsPage58 : List RegDesc := [
  -- FB_CTRL
  ⟨0x40, [], .one, [⟨31, 7, .rsv, 0, [], 1⟩, ⟨6, 6, .rwp, 0, [], 1⟩, ⟨5, 5, .rwp, 0, [], 1⟩, ⟨4, 4, .rwp, 0, [], 1⟩, ⟨3, 3, .rwp, 0, [], 1⟩, ⟨2, 2, .rwp, 0, [], 1⟩, ⟨1, 1, .rwp, 0, [], 1⟩, ⟨0, 0, .rsv, 0, [], 1⟩]⟩,
  -- FB_NBT
  ⟨0x44, [], .one, [⟨31, 23, .rwp, 4, [], 1⟩, ⟨22, 16, .rwp, 3, [], 1⟩, ⟨15, 8, .rwp, 0xE, [(0x1, 0xFF)], 1⟩, ⟨7, 7, .rsv, 0, [], 1⟩, ⟨6, 0, .rwp, 3, [(0x1, 0x7F)], 1⟩]⟩,
  -- FB_DBT
  ⟨0x48, [], .one, [⟨31, 21, .rsv, 0, [], 1⟩, ⟨20, 16, .rwp, 0, [], 1⟩, ⟨15, 12, .rwp, 1, [], 1⟩, ⟨11, 8, .rwp, 1, [], 1⟩, ⟨7, 5, .rsv, 0, [], 1⟩, ⟨4, 0, .rwp, 6, [], 1⟩]⟩,
  -- FB_TDC
  ⟨0x4C, [], .one, [⟨31, 31, .rwp, 0, [], 1⟩, ⟨30, 15, .rsv, 0, [], 1⟩, ⟨14, 8, .rwp, 0, [], 1⟩, ⟨7, 7, .rsv, 0, [], 1⟩, ⟨6, 0, .rwp, 0, [], 1⟩]⟩,
  -- FB_RXQ
  ⟨0x50, [], .one, [⟨31, 6, .rsv, 0, [], 1⟩, ⟨5, 0, .rwp, 0x38, [], 1⟩]⟩,
  -- FB_RXOFF
  ⟨0x54, [], .one, [⟨31, 23, .rsv, 0, [], 1⟩, ⟨22, 0, .rwp, 0, [(0x0, 0x7FFFFF)], 16⟩]⟩,
  -- FB_TXOFF
  ⟨0x58, [], .one, [⟨31, 23, .rsv, 0, [], 1⟩, ⟨22, 0, .rwp, 0, [(0x0, 0x7FFFFF)], 16⟩]⟩,
  -- FB_RINGN
  ⟨0x5C, [], .one, [⟨31, 27, .rsv, 0, [], 1⟩, ⟨26, 16, .rwp, 0x10, [(0x1, 0x400)], 1⟩, ⟨15, 11, .rsv, 0, [], 1⟩, ⟨10, 0, .rwp, 0x40, [(0x1, 0x400)], 1⟩]⟩,
  -- FB_TXMAP
  ⟨0x60, [], .one, [⟨31, 16, .rsv, 0, [], 1⟩, ⟨15, 0, .rwp, 0xFF, [], 1⟩]⟩,
  -- FB_ERRC
  ⟨0x64, [], .one, [⟨31, 31, .ro, 0, [], 1⟩, ⟨30, 24, .ro, 0, [], 1⟩, ⟨23, 9, .rsv, 0, [], 1⟩, ⟨8, 0, .ro, 0, [], 1⟩]⟩,
  -- FB_LEC
  ⟨0x68, [], .one, [⟨31, 31, .w1c, 0, [], 1⟩, ⟨30, 5, .rsv, 0, [], 1⟩, ⟨4, 4, .ro, 0, [], 1⟩, ⟨3, 3, .ro, 0, [], 1⟩, ⟨2, 0, .ro, 0, [], 1⟩]⟩,
  -- FB_RXCNT
  ⟨0x6C, [], .one, [⟨31, 0, .rw, 0, [], 1⟩]⟩,
  -- FB_RXLOST
  ⟨0x70, [], .one, [⟨31, 0, .rw, 0, [], 1⟩]⟩,
  -- FB_ERRCNT
  ⟨0x74, [], .one, [⟨31, 0, .rw, 0, [], 1⟩]⟩,
  -- FB_TXBAD
  ⟨0x78, [], .one, [⟨31, 0, .rw, 0, [], 1⟩]⟩,
  -- FB_PXCNT
  ⟨0x7C, [], .one, [⟨31, 0, .rw, 0, [], 1⟩]⟩,
  -- FB_TDCR
  ⟨0x80, [], .one, [⟨31, 7, .rsv, 0, [], 1⟩, ⟨6, 0, .ro, 0, [], 1⟩]⟩,
  -- FB_CLASH
  ⟨0x84, [], .one, [⟨31, 31, .w1c, 0, [], 1⟩, ⟨30, 30, .rsv, 0, [], 1⟩, ⟨29, 29, .ro, 0, [], 1⟩, ⟨28, 0, .ro, 0, [], 1⟩]⟩,
  -- FB_CLASHP
  ⟨0x88, [], .one, [⟨31, 31, .ro, 0, [], 1⟩, ⟨30, 24, .rsv, 0, [], 1⟩, ⟨23, 16, .ro, 0, [], 1⟩, ⟨15, 12, .ro, 0, [], 1⟩, ⟨11, 0, .ro, 0, [], 1⟩]⟩,
  -- FB_CMD
  ⟨0x8C, [], .one, [⟨31, 1, .rsv, 0, [], 1⟩, ⟨0, 0, .wo, 0, [], 1⟩]⟩,
  -- FB_TXREQ
  ⟨0x90, [], .one, [⟨31, 16, .rsv, 0, [], 1⟩, ⟨15, 0, .wo, 0, [], 1⟩]⟩,
  -- FB_TXCAN
  ⟨0x94, [], .one, [⟨31, 16, .rsv, 0, [], 1⟩, ⟨15, 0, .wo, 0, [], 1⟩]⟩,
  -- FB_TXPEND
  ⟨0x98, [], .one, [⟨31, 16, .rsv, 0, [], 1⟩, ⟨15, 0, .ro, 0, [], 1⟩]⟩,
  -- TXB_ID
  ⟨0x400, [(16, 0x50)], .one, [⟨31, 30, .rsv, 0, [], 1⟩, ⟨29, 29, .rw, 0, [], 1⟩, ⟨28, 0, .rw, 0, [], 1⟩]⟩,
  -- TXB_CTL
  ⟨0x404, [(16, 0x50)], .one, [⟨31, 7, .rsv, 0, [], 1⟩, ⟨6, 6, .rw, 0, [], 1⟩, ⟨5, 5, .rw, 0, [], 1⟩, ⟨4, 4, .rw, 0, [], 1⟩, ⟨3, 0, .rw, 0, [], 1⟩]⟩,
  -- TXB_STAT
  ⟨0x408, [(16, 0x50)], .one, [⟨31, 31, .ro, 0, [], 1⟩, ⟨30, 27, .rsv, 0, [], 1⟩, ⟨26, 24, .ro, 0, [], 1⟩, ⟨23, 8, .rsv, 0, [], 1⟩, ⟨7, 0, .ro, 0, [], 1⟩]⟩,
  -- TXB_TS
  ⟨0x40C, [(16, 0x50)], .one, [⟨31, 0, .ro, 0, [], 1⟩]⟩,
  -- TXB_DATA
  ⟨0x410, [(16, 0x50), (16, 0x4)], .one, [⟨31, 0, .rw, 0, [], 1⟩]⟩]

/-- The block registers of page 60h. -/
def regsPage60 : List RegDesc := [
  -- SPG_MAC0
  ⟨0x40, [], .one, [⟨31, 0, .rwp, 0, [], 1⟩]⟩,
  -- SPG_MAC1
  ⟨0x44, [], .one, [⟨31, 16, .rsv, 0, [], 1⟩, ⟨15, 0, .rwp, 0, [], 1⟩]⟩,
  -- SPG_RAILUV
  ⟨0x48, [], .one, [⟨31, 16, .rwp, 0x1E0, [(0x1, 0xFFFF)], 1⟩, ⟨15, 0, .rwp, 0xB4, [(0x1, 0xFFFF)], 1⟩]⟩,
  -- SPG_RAILV
  ⟨0x4C, [], .one, [⟨31, 16, .ro, 0, [], 1⟩, ⟨15, 0, .ro, 0, [], 1⟩]⟩]

/-- The block registers of page 61h and the 15 pages after it. -/
def regsPage61 : List RegDesc := [
  -- SPU_PCFG
  ⟨0x40, [], .one, [⟨31, 31, .rwp, 1, [], 1⟩, ⟨30, 30, .rwp, 0, [], 1⟩, ⟨29, 22, .rsv, 0, [], 1⟩, ⟨21, 16, .rwp, 0x3F, [], 1⟩, ⟨15, 2, .rsv, 0, [], 1⟩, ⟨1, 0, .rwp, 0, [(0x0, 0x2)], 1⟩]⟩,
  -- SPU_TRIP
  ⟨0x44, [], .one, [⟨31, 24, .rwp, 0x32, [(0x1, 0xFF)], 1⟩, ⟨23, 16, .rwp, 0xA, [(0x5, 0x32)], 1⟩, ⟨15, 8, .rsv, 0, [], 1⟩, ⟨7, 0, .rwp, 0x28, [(0x5, 0x96)], 1⟩]⟩,
  -- SPU_SENSE
  ⟨0x48, [], .one, [⟨31, 24, .rwp, 0xA, [(0x1, 0x64)], 1⟩, ⟨23, 16, .rwp, 0xA, [(0x1, 0xFF)], 1⟩, ⟨15, 10, .rsv, 0, [], 1⟩, ⟨9, 0, .rwp, 0x64, [(0x14, 0x3E8)], 1⟩]⟩,
  -- SPU_PSTAT
  ⟨0x4C, [], .one, [⟨31, 31, .w1c, 0, [], 1⟩, ⟨30, 28, .rsv, 0, [], 1⟩, ⟨27, 24, .ro, 0, [], 1⟩, ⟨23, 19, .rsv, 0, [], 1⟩, ⟨18, 16, .ro, 0, [], 1⟩, ⟨15, 3, .rsv, 0, [], 1⟩, ⟨2, 0, .ro, 0, [], 1⟩]⟩,
  -- SPU_PMEAS
  ⟨0x50, [], .one, [⟨31, 16, .ro, 0, [], 1⟩, ⟨15, 0, .ro, 0, [], 1⟩]⟩,
  -- SPU_LINK
  ⟨0x54, [], .one, [⟨31, 11, .rsv, 0, [], 1⟩, ⟨10, 8, .ro, 0, [], 1⟩, ⟨7, 6, .rsv, 0, [], 1⟩, ⟨5, 4, .ro, 0, [], 1⟩, ⟨3, 2, .rsv, 0, [], 1⟩, ⟨1, 0, .ro, 0, [], 1⟩]⟩,
  -- SPU_LCNT
  ⟨0x58, [], .one, [⟨31, 0, .rw, 0, [], 1⟩]⟩,
  -- SPU_FCNT
  ⟨0x5C, [], .one, [⟨31, 0, .rw, 0, [], 1⟩]⟩,
  -- SPU_SCTRL
  ⟨0x100, [], .one, [⟨31, 31, .rwp, 0, [], 1⟩, ⟨30, 0, .rsv, 0, [], 1⟩]⟩,
  -- SPU_SCFG
  ⟨0x104, [], .one, [⟨31, 24, .rsv, 0, [], 1⟩, ⟨23, 16, .rwp, 0xA, [(0x3, 0xFF)], 1⟩, ⟨15, 8, .rwp, 3, [(0x1, 0xFF)], 1⟩, ⟨7, 0, .rwp, 1, [(0x1, 0xFE)], 1⟩]⟩,
  -- SPU_SLAY
  ⟨0x108, [], .one, [⟨31, 0, .rwp, 0, [], 1⟩]⟩,
  -- SPU_SLEN
  ⟨0x10C, [], .one, [⟨31, 26, .rsv, 0, [], 1⟩, ⟨25, 16, .rwp, 0, [(0x0, 0x200)], 1⟩, ⟨15, 10, .rsv, 0, [], 1⟩, ⟨9, 0, .rwp, 0, [(0x0, 0x200)], 1⟩]⟩,
  -- SPU_SSTAT
  ⟨0x110, [], .one, [⟨31, 30, .ro, 2, [], 1⟩, ⟨29, 29, .ro, 0, [], 1⟩, ⟨28, 28, .ro, 0, [], 1⟩, ⟨27, 24, .ro, 0, [], 1⟩, ⟨23, 16, .ro, 0, [], 1⟩, ⟨15, 8, .ro, 0, [], 1⟩, ⟨7, 5, .rsv, 0, [], 1⟩, ⟨4, 4, .ro, 0, [], 1⟩, ⟨3, 2, .rsv, 0, [], 1⟩, ⟨1, 0, .ro, 0, [], 1⟩]⟩,
  -- SPU_SEPOCH
  ⟨0x114, [], .one, [⟨31, 0, .ro, 0, [], 1⟩]⟩,
  -- SPU_SCNT
  ⟨0x118, [], .one, [⟨31, 0, .rw, 0, [], 1⟩]⟩,
  -- SPU_SMISS
  ⟨0x11C, [], .one, [⟨31, 0, .rw, 0, [], 1⟩]⟩,
  -- SPU_SDROPS
  ⟨0x120, [], .one, [⟨31, 0, .rw, 0, [], 1⟩]⟩,
  -- SPU_SBAD
  ⟨0x124, [], .one, [⟨31, 28, .ro, 0, [], 1⟩, ⟨27, 24, .rsv, 0, [], 1⟩, ⟨23, 0, .rw, 0, [], 1⟩]⟩,
  -- SPU_PMPTS
  ⟨0x180, [], .one, [⟨31, 23, .rsv, 0, [], 1⟩, ⟨22, 16, .rwp, 0, [], 1⟩, ⟨15, 13, .rsv, 0, [], 1⟩, ⟨12, 0, .rwp, 0, [], 1⟩]⟩,
  -- SPU_PMCTRL
  ⟨0x184, [], .one, [⟨31, 31, .rwp, 0, [], 1⟩, ⟨30, 30, .rwp, 1, [], 1⟩, ⟨29, 0, .rsv, 0, [], 1⟩]⟩,
  -- SPU_PMTAU
  ⟨0x188, [], .one, [⟨31, 16, .rsv, 0, [], 1⟩, ⟨15, 0, .rwp, 0x12C, [(0xA, 0xE10)], 1⟩]⟩,
  -- SPU_PMRINIT
  ⟨0x18C, [], .one, [⟨31, 0, .rwp, 0, [], 1⟩]⟩,
  -- SPU_PMSTAT
  ⟨0x190, [], .one, [⟨31, 31, .ro, 0, [], 1⟩, ⟨30, 30, .w1c, 0, [], 1⟩, ⟨29, 27, .w1c, 0, [], 1⟩, ⟨26, 6, .rsv, 0, [], 1⟩, ⟨5, 5, .ro, 0, [], 1⟩, ⟨4, 4, .ro, 0, [], 1⟩, ⟨3, 2, .rsv, 0, [], 1⟩, ⟨1, 0, .ro, 0, [], 1⟩]⟩,
  -- SPU_PMR
  ⟨0x194, [], .one, [⟨31, 0, .ro, 0, [], 1⟩]⟩,
  -- SPU_PMREV
  ⟨0x198, [], .one, [⟨31, 0, .rw, 0, [], 1⟩]⟩,
  -- SPU_PME
  ⟨0x1A0, [(3, 0x8)], .one, [⟨31, 0, .ro, 0, [], 1⟩]⟩,
  -- SPU_PMEH
  ⟨0x1A4, [(3, 0x8)], .one, [⟨31, 16, .rsv, 0, [], 1⟩, ⟨15, 8, .ro, 0, [], 1⟩, ⟨7, 0, .ro, 0, [], 1⟩]⟩,
  -- CHn_CFG
  ⟨0x800, [(256, 0x8)], .one, [⟨31, 31, .rwp, 0, [], 1⟩, ⟨30, 30, .rwp, 0, [], 1⟩, ⟨29, 27, .rwp, 0, [], 1⟩, ⟨26, 25, .rsv, 0, [], 1⟩, ⟨24, 16, .rwp, 0, [], 1⟩, ⟨15, 13, .rwp, 0, [], 1⟩, ⟨12, 0, .rwp, 0, [], 1⟩]⟩,
  -- CHn_SUB
  ⟨0x804, [(256, 0x8)], .one, [⟨31, 0, .rwp, 0, [], 1⟩]⟩]

/-- The block registers of page 71h. -/
def regsPage71 : List RegDesc := [
  -- STN_ETYPE
  ⟨0x40, [], .one, [⟨31, 16, .rsv, 0, [], 1⟩, ⟨15, 0, .rwp, 0x88B5, [(0x600, 0xFFFF)], 1⟩]⟩,
  -- STN_TXOFS
  ⟨0x44, [], .one, [⟨31, 9, .rsv, 0, [], 1⟩, ⟨8, 0, .rwp, 0x14, [(0x14, 0x1F4)], 1⟩]⟩,
  -- STN_PHOLD
  ⟨0x48, [], .one, [⟨31, 16, .rsv, 0, [], 1⟩, ⟨15, 0, .rwp, 0x1F4, [(0x1C2, 0xFFFF)], 1⟩]⟩,
  -- STN_UPMAP
  ⟨0x4C, [], .one, [⟨31, 16, .rsv, 0, [], 1⟩, ⟨15, 0, .ro, 0, [], 1⟩]⟩,
  -- STN_DROPMAP
  ⟨0x50, [], .one, [⟨31, 16, .rsv, 0, [], 1⟩, ⟨15, 0, .ro, 0, [], 1⟩]⟩,
  -- STN_SUPMAP
  ⟨0x54, [], .one, [⟨31, 16, .rsv, 0, [], 1⟩, ⟨15, 0, .ro, 0, [], 1⟩]⟩]

/-- The block registers of page 78h and the 5 pages after it. -/
def regsPage78 : List RegDesc := [
  -- HM_CFG
  ⟨0x40, [], .one, [⟨31, 30, .rsv, 0, [], 1⟩, ⟨29, 16, .rwp, 0x5EE, [(0x5EE, 0x2400)], 1⟩, ⟨15, 8, .rsv, 0, [], 1⟩, ⟨7, 6, .rwp, 0, [], 1⟩, ⟨5, 4, .rsv, 0, [], 1⟩, ⟨3, 3, .rwp, 0, [], 1⟩, ⟨2, 2, .rwp, 0, [], 1⟩, ⟨1, 0, .rwp, 1, [], 1⟩]⟩,
  -- HM_MACLO
  ⟨0x44, [], .one, [⟨31, 0, .rwp, 0, [], 1⟩]⟩,
  -- HM_MACHI
  ⟨0x48, [], .one, [⟨31, 16, .rsv, 0, [], 1⟩, ⟨15, 0, .rwp, 0, [], 1⟩]⟩,
  -- HM_IP
  ⟨0x4C, [], .one, [⟨31, 0, .rwp, 0, [], 1⟩]⟩,
  -- HM_VLAN
  ⟨0x50, [], .one, [⟨31, 16, .rsv, 0, [], 1⟩, ⟨15, 13, .rwp, 0, [], 1⟩, ⟨12, 12, .rsv, 0, [], 1⟩, ⟨11, 0, .rwp, 1, [(0x1, 0xFFE)], 1⟩]⟩,
  -- HM_LINK
  ⟨0x54, [], .one, [⟨31, 4, .rsv, 0, [], 1⟩, ⟨3, 3, .ro, 0, [], 1⟩, ⟨2, 2, .rsv, 0, [], 1⟩, ⟨1, 0, .ro, 0, [], 1⟩]⟩,
  -- HM_PTPLAT
  ⟨0x58, [], .one, [⟨31, 16, .rwp, 0, [], 1⟩, ⟨15, 0, .rwp, 0, [], 1⟩]⟩,
  -- HM_QSTAT
  ⟨0x5C, [], .one, [⟨31, 0, .ro, 0, [], 1⟩]⟩,
  -- HM_MDIO
  ⟨0x60, [], .one, [⟨31, 31, .ro, 0, [], 1⟩, ⟨30, 30, .rw, 0, [], 1⟩, ⟨29, 26, .rsv, 0, [], 1⟩, ⟨25, 21, .rw, 0, [], 1⟩, ⟨20, 16, .rw, 0, [], 1⟩, ⟨15, 0, .rw, 0, [], 1⟩]⟩,
  -- HM_PTPRX
  ⟨0x70, [(3, 0x4)], .one, [⟨31, 0, .ro, 0, [], 1⟩]⟩,
  -- HM_PTPRXPOP
  ⟨0x7C, [], .one, [⟨31, 0, .wo, 0, [], 1⟩]⟩,
  -- HM_PTPTX
  ⟨0x80, [(3, 0x4)], .one, [⟨31, 0, .ro, 0, [], 1⟩]⟩,
  -- HM_PTPTXPOP
  ⟨0x8C, [], .one, [⟨31, 0, .wo, 0, [], 1⟩]⟩,
  -- HM_CNTHALF0
  ⟨0xC0, [], .one, [⟨31, 0, .w1c, 0, [], 1⟩]⟩,
  -- HM_CNTHALF1
  ⟨0xC4, [], .one, [⟨31, 8, .rsv, 0, [], 1⟩, ⟨7, 0, .w1c, 0, [], 1⟩]⟩,
  -- HM_CNTCLR
  ⟨0xC8, [], .one, [⟨31, 1, .rsv, 0, [], 1⟩, ⟨0, 0, .wo, 0, [], 1⟩]⟩,
  -- HM_CNT
  ⟨0x200, [(40, 0x4)], .one, [⟨31, 0, .ro, 0, [], 1⟩]⟩]

/-- The block registers of page 7Eh. -/
def regsPage7E : List RegDesc := [
  -- TLM_CFG
  ⟨0x40, [], .one, [⟨31, 9, .rsv, 0, [], 1⟩, ⟨8, 8, .rwp, 1, [], 1⟩, ⟨7, 2, .rsv, 0, [], 1⟩, ⟨1, 1, .rwp, 1, [], 1⟩, ⟨0, 0, .rwp, 1, [], 1⟩]⟩,
  -- TLM_STAT
  ⟨0x44, [], .one, [⟨31, 31, .ro, 0, [], 1⟩, ⟨30, 24, .rsv, 0, [], 1⟩, ⟨23, 16, .ro, 0, [], 1⟩, ⟨15, 8, .ro, 0, [], 1⟩, ⟨7, 2, .rsv, 0, [], 1⟩, ⟨1, 0, .ro, 0, [], 1⟩]⟩,
  -- TLM_CRC
  ⟨0x48, [], .one, [⟨31, 0, .rw, 0, [], 1⟩]⟩,
  -- TLM_RETRY
  ⟨0x4C, [], .one, [⟨31, 0, .rw, 0, [], 1⟩]⟩,
  -- TLM_LERR0
  ⟨0x50, [], .one, [⟨31, 0, .rw, 0, [], 1⟩]⟩,
  -- TLM_LERR1
  ⟨0x54, [], .one, [⟨31, 0, .rw, 0, [], 1⟩]⟩]

/-- The block registers of page 7Fh. -/
def regsPage7F : List RegDesc := [
  -- PTP_CFG
  ⟨0x40, [], .one, [⟨31, 27, .rsv, 0, [], 1⟩, ⟨26, 24, .rwp, 0, [(0x0, 0x2)], 1⟩, ⟨23, 16, .rwp, 0, [(0x0, 0x7F)], 1⟩, ⟨15, 1, .rsv, 0, [], 1⟩, ⟨0, 0, .rwp, 0, [], 1⟩]⟩,
  -- PTP_STAT
  ⟨0x44, [], .one, [⟨31, 3, .rsv, 0, [], 1⟩, ⟨2, 0, .ro, 0, [], 1⟩]⟩,
  -- PTP_OFS
  ⟨0x48, [], .one, [⟨31, 0, .ro, 0, [], 1⟩]⟩,
  -- PTP_DELAY
  ⟨0x4C, [], .one, [⟨31, 0, .ro, 0, [], 1⟩]⟩,
  -- PTP_ORIGIN
  ⟨0x50, [(2, 0x4)], .one, [⟨31, 0, .ro, 0, [], 1⟩]⟩]

/-- The block registers of page 80h. -/
def regsPage80 : List RegDesc := [
  -- NRP_CFG
  ⟨0x40, [], .one, [⟨31, 16, .rsv, 0, [], 1⟩, ⟨15, 0, .rwp, 0xC0A8, [(0x1, 0x13E), (0x141, 0xFFFF)], 1⟩]⟩,
  -- NRP_SAT
  ⟨0x44, [], .one, [⟨31, 16, .rsv, 0, [], 1⟩, ⟨15, 8, .rwp, 0x80, [], 1⟩, ⟨7, 0, .rwp, 0xC0, [(0x1, 0xFF)], 1⟩]⟩,
  -- NRP_SATST
  ⟨0x48, [], .one, [⟨31, 31, .ro, 0, [], 1⟩, ⟨30, 25, .rsv, 0, [], 1⟩, ⟨24, 16, .rw, 0, [], 1⟩, ⟨15, 9, .rsv, 0, [], 1⟩, ⟨8, 0, .ro, 0, [], 1⟩]⟩,
  -- NRP_SUBIVL
  ⟨0x4C, [], .one, [⟨31, 16, .rsv, 0, [], 1⟩, ⟨15, 0, .rwp, 0x3E8, [(0x1, 0xFFFF)], 1⟩]⟩,
  -- NRP_BOOT
  ⟨0x50, [], .one, [⟨31, 0, .ro, 0, [], 1⟩]⟩,
  -- NRP_CAUTH
  ⟨0x54, [], .one, [⟨31, 0, .rw, 0, [], 1⟩]⟩,
  -- NRP_CSEQ
  ⟨0x58, [], .one, [⟨31, 0, .rw, 0, [], 1⟩]⟩,
  -- NRP_CBUSY
  ⟨0x5C, [], .one, [⟨31, 0, .rw, 0, [], 1⟩]⟩,
  -- NRP_BIND
  ⟨0x100, [(64, 0x8)], .one, [⟨31, 31, .rwp, 0, [], 1⟩, ⟨30, 30, .rwp, 0, [], 1⟩, ⟨29, 27, .rsv, 0, [], 1⟩, ⟨26, 24, .rwp, 0, [(0x0, 0x5)], 1⟩, ⟨23, 8, .rsv, 0, [], 1⟩, ⟨7, 0, .rwp, 0, [], 1⟩]⟩,
  -- NRP_BSEQ
  ⟨0x104, [(64, 0x8)], .one, [⟨31, 0, .ro, 0, [], 1⟩]⟩,
  -- NRP_STGBASE
  ⟨0x300, [(32, 0x8)], .one, [⟨31, 0, .rwp, 0, [(0x80000000, 0xFFFFFFFF)], 4096⟩]⟩,
  -- NRP_STGSZ
  ⟨0x304, [(32, 0x8)], .one, [⟨31, 0, .rwp, 0, [(0x0, 0xFFFFFFFF)], 4096⟩]⟩]

/-- The block registers of page 88h. -/
def regsPage88 : List RegDesc := [
  -- TWN_CFG
  ⟨0x40, [], .one, [⟨31, 31, .rwl, 0, [], 1⟩, ⟨30, 30, .ro, 0, [], 1⟩, ⟨29, 29, .rwp, 1, [], 1⟩, ⟨28, 28, .rwp, 1, [], 1⟩, ⟨27, 10, .rsv, 0, [], 1⟩, ⟨9, 0, .rwp, 0x64, [(0xA, 0x3E8)], 1⟩]⟩,
  -- TWN_HOLDOFF
  ⟨0x44, [], .one, [⟨31, 12, .rsv, 0, [], 1⟩, ⟨11, 0, .rwp, 0x3C, [(0xA, 0xE10)], 1⟩]⟩,
  -- TWN_STAT
  ⟨0x48, [], .one, [⟨31, 29, .ro, 0, [], 1⟩, ⟨28, 26, .ro, 7, [], 1⟩, ⟨25, 24, .ro, 0, [], 1⟩, ⟨23, 23, .ro, 0, [], 1⟩, ⟨22, 22, .ro, 0, [], 1⟩, ⟨21, 21, .ro, 0, [], 1⟩, ⟨20, 20, .ro, 0, [], 1⟩, ⟨19, 19, .ro, 0, [], 1⟩, ⟨18, 18, .ro, 0, [], 1⟩, ⟨17, 17, .w1c, 0, [], 1⟩, ⟨16, 16, .ro, 0, [], 1⟩, ⟨15, 8, .rsv, 0, [], 1⟩, ⟨7, 0, .ro, 0, [], 1⟩]⟩,
  -- TWN_EPOCH
  ⟨0x4C, [], .one, [⟨31, 0, .ro, 0, [], 1⟩]⟩,
  -- TWN_PEPOCH
  ⟨0x50, [], .one, [⟨31, 0, .ro, 0, [], 1⟩]⟩,
  -- TWN_CMD
  ⟨0x54, [], .one, [⟨31, 3, .rsv, 0, [], 1⟩, ⟨2, 0, .wo, 0, [(0x1, 0x5)], 1⟩]⟩,
  -- TWN_TKO
  ⟨0x58, [], .one, [⟨31, 31, .w1c, 0, [], 1⟩, ⟨30, 30, .ro, 0, [], 1⟩, ⟨29, 24, .rsv, 0, [], 1⟩, ⟨23, 21, .ro, 0, [], 1⟩, ⟨20, 16, .rsv, 0, [], 1⟩, ⟨15, 8, .ro, 0, [], 1⟩, ⟨7, 0, .ro, 0, [], 1⟩]⟩,
  -- TWN_TKOTB
  ⟨0x60, [(2, 0x4)], .one, [⟨31, 0, .ro, 0, [], 1⟩]⟩,
  -- TWN_REV
  ⟨0x68, [], .one, [⟨31, 28, .ro, 0, [], 1⟩, ⟨27, 12, .rsv, 0, [], 1⟩, ⟨11, 0, .ro, 0, [], 1⟩]⟩]

/-- The block registers of page 89h. -/
def regsPage89 : List RegDesc := [
  -- MIR_FLASKS
  ⟨0x40, [], .one, [⟨31, 0, .rwp, 0xFFFFFFFF, [], 1⟩]⟩,
  -- MIR_LAST
  ⟨0x44, [], .one, [⟨31, 18, .rsv, 0, [], 1⟩, ⟨17, 0, .ro, 0, [], 1⟩]⟩,
  -- MIR_MAX
  ⟨0x48, [], .one, [⟨31, 18, .rsv, 0, [], 1⟩, ⟨17, 0, .rw, 0, [], 1⟩]⟩,
  -- MIR_CARRY
  ⟨0x4C, [], .one, [⟨31, 0, .rw, 0, [], 1⟩]⟩,
  -- MIR_BACKLOG
  ⟨0x50, [], .one, [⟨31, 0, .ro, 0, [], 1⟩]⟩,
  -- MIR_LOCALW
  ⟨0x54, [], .one, [⟨31, 0, .rw, 0, [], 1⟩]⟩,
  -- MIR_RESYNC
  ⟨0x58, [], .one, [⟨31, 0, .ro, 0, [], 1⟩]⟩]

/-- The block registers of page 8Ah. -/
def regsPage8A : List RegDesc := [
  -- FCS_CFG
  ⟨0x40, [], .one, [⟨31, 3, .rsv, 0, [], 1⟩, ⟨2, 2, .rwp, 1, [], 1⟩, ⟨1, 1, .rwp, 1, [], 1⟩, ⟨0, 0, .rwp, 1, [], 1⟩]⟩,
  -- FCS_OWN
  ⟨0x100, [(64, 0x4)], .one, [⟨31, 0, .ro, 0, [], 1⟩]⟩,
  -- FCS_PART
  ⟨0x200, [(64, 0x4)], .one, [⟨31, 0, .ro, 0, [], 1⟩]⟩]

/-- The block registers of page 90h. -/
def regsPage90 : List RegDesc := [
  -- CRU_STAT
  ⟨0x40, [], .one, [⟨31, 31, .ro, 0, [], 1⟩, ⟨30, 30, .ro, 0, [], 1⟩, ⟨29, 29, .ro, 0, [], 1⟩, ⟨28, 28, .w1c, 0, [], 1⟩, ⟨27, 25, .ro, 0, [], 1⟩, ⟨24, 24, .ro, 0, [], 1⟩, ⟨23, 9, .rsv, 0, [], 1⟩, ⟨8, 0, .ro, 0, [], 1⟩]⟩,
  -- CRU_REMASK
  ⟨0x44, [], .one, [⟨31, 10, .rsv, 0, [], 1⟩, ⟨9, 0, .rwp, 0x32, [(0x1, 0x3E8)], 1⟩]⟩,
  -- CRU_SLOT
  ⟨0x48, [], .one, [⟨31, 16, .rsv, 0, [], 1⟩, ⟨15, 8, .rw, 0, [], 1⟩, ⟨7, 0, .rw, 0, [], 1⟩]⟩,
  -- CRU_ATTR
  ⟨0x4C, [], .one, [⟨31, 31, .ro, 0, [], 1⟩, ⟨30, 30, .rw, 0, [], 1⟩, ⟨29, 29, .rw, 0, [], 1⟩, ⟨28, 27, .ro, 0, [], 1⟩, ⟨26, 24, .rw, 0, [], 1⟩, ⟨23, 22, .rw, 0, [], 1⟩, ⟨21, 21, .rsv, 0, [], 1⟩, ⟨20, 16, .rw, 0, [], 1⟩, ⟨15, 8, .rw, 0, [], 1⟩, ⟨7, 0, .rsv, 0, [], 1⟩]⟩,
  -- CRU_LABEL
  ⟨0x50, [(4, 0x4)], .one, [⟨31, 0, .rw, 0, [], 1⟩]⟩,
  -- CRU_ADDR
  ⟨0x60, [], .one, [⟨31, 0, .rw, 0, [(0x0, 0xFFFFFFFF)], 8⟩]⟩,
  -- CRU_CMD
  ⟨0x64, [], .one, [⟨31, 4, .rsv, 0, [], 1⟩, ⟨3, 0, .wo, 0, [(0x1, 0x8)], 1⟩]⟩,
  -- CRU_RESULT
  ⟨0x68, [], .one, [⟨31, 31, .ro, 0, [], 1⟩, ⟨30, 12, .rsv, 0, [], 1⟩, ⟨11, 8, .ro, 0, [], 1⟩, ⟨7, 0, .ro, 0, [], 1⟩]⟩,
  -- CRU_KEYIN
  ⟨0x80, [(8, 0x4)], .one, [⟨31, 0, .wo, 0, [], 1⟩]⟩,
  -- CRU_INFO
  ⟨0x400, [(256, 0x8), (2, 0x4)], .one, [⟨31, 0, .ro, 0, [], 1⟩]⟩]

/-- The block registers of page 91h. -/
def regsPage91 : List RegDesc := [
  -- CRY_JOB
  ⟨0x40, [], .one, [⟨31, 16, .rsv, 0, [], 1⟩, ⟨15, 8, .rw, 0, [], 1⟩, ⟨7, 0, .rw, 0, [], 1⟩]⟩,
  -- CRY_SRC
  ⟨0x44, [], .one, [⟨31, 0, .rw, 0, [], 1⟩]⟩,
  -- CRY_DST
  ⟨0x48, [], .one, [⟨31, 0, .rw, 0, [], 1⟩]⟩,
  -- CRY_LEN
  ⟨0x4C, [], .one, [⟨31, 24, .rsv, 0, [], 1⟩, ⟨23, 0, .rw, 0, [], 1⟩]⟩,
  -- CRY_AUX
  ⟨0x50, [], .one, [⟨31, 0, .rw, 0, [], 1⟩]⟩,
  -- CRY_AUXLEN
  ⟨0x54, [], .one, [⟨31, 24, .rsv, 0, [], 1⟩, ⟨23, 0, .rw, 0, [], 1⟩]⟩,
  -- CRY_IV
  ⟨0x58, [(3, 0x4)], .one, [⟨31, 0, .rw, 0, [], 1⟩]⟩,
  -- CRY_TAG
  ⟨0x64, [(4, 0x4)], .one, [⟨31, 0, .rw, 0, [], 1⟩]⟩,
  -- CRY_GO
  ⟨0x74, [], .one, [⟨31, 1, .rsv, 0, [], 1⟩, ⟨0, 0, .wo, 0, [], 1⟩]⟩,
  -- CRY_STAT
  ⟨0x78, [], .one, [⟨31, 31, .ro, 0, [], 1⟩, ⟨30, 9, .rsv, 0, [], 1⟩, ⟨8, 8, .ro, 0, [], 1⟩, ⟨7, 0, .ro, 0, [], 1⟩]⟩]

/-- The block registers of page 98h. -/
def regsPage98 : List RegDesc := [
  -- UPD_SRC
  ⟨0x40, [], .one, [⟨31, 0, .rw, 0, [(0x80000000, 0xFFFFFFFF)], 16⟩]⟩,
  -- UPD_LEN
  ⟨0x44, [], .one, [⟨31, 0, .rw, 0, [(0x1A0, 0xFF0000)], 16⟩]⟩,
  -- UPD_CMD
  ⟨0x48, [], .one, [⟨31, 3, .rsv, 0, [], 1⟩, ⟨2, 0, .wo, 0, [(0x1, 0x6)], 1⟩]⟩,
  -- UPD_STAT
  ⟨0x4C, [], .one, [⟨31, 29, .ro, 0, [], 1⟩, ⟨28, 28, .ro, 0, [], 1⟩, ⟨27, 24, .rsv, 0, [], 1⟩, ⟨23, 16, .ro, 0, [], 1⟩, ⟨15, 3, .rsv, 0, [], 1⟩, ⟨2, 0, .ro, 0, [], 1⟩]⟩,
  -- UPD_PROG
  ⟨0x50, [], .one, [⟨31, 24, .rsv, 0, [], 1⟩, ⟨23, 0, .ro, 0, [], 1⟩]⟩,
  -- UPD_RUN
  ⟨0x54, [], .one, [⟨31, 0, .ro, 0, [], 1⟩]⟩,
  -- UPD_STAGED
  ⟨0x58, [], .one, [⟨31, 0, .ro, 0, [], 1⟩]⟩,
  -- UPD_SVN
  ⟨0x5C, [], .one, [⟨31, 16, .rsv, 0, [], 1⟩, ⟨15, 8, .ro, 0, [], 1⟩, ⟨7, 7, .rsv, 0, [], 1⟩, ⟨6, 0, .ro, 0, [], 1⟩]⟩,
  -- UPD_OWNER
  ⟨0x60, [], .one, [⟨31, 31, .ro, 0, [], 1⟩, ⟨30, 0, .rsv, 0, [], 1⟩]⟩,
  -- UPD_ACT
  ⟨0x64, [], .one, [⟨31, 16, .ro, 0, [], 1⟩, ⟨15, 0, .ro, 0, [], 1⟩]⟩]

/-- The block registers of page A0h. -/
def regsPageA0 : List RegDesc := [
  -- DBG_CFG
  ⟨0x40, [], .one, [⟨31, 1, .rsv, 0, [], 1⟩, ⟨0, 0, .rwp, 0, [], 1⟩]⟩,
  -- DBG_STAT
  ⟨0x44, [], .one, [⟨31, 31, .ro, 0, [], 1⟩, ⟨30, 30, .ro, 0, [], 1⟩, ⟨29, 29, .ro, 0, [], 1⟩, ⟨28, 28, .ro, 0, [], 1⟩, ⟨27, 24, .rsv, 0, [], 1⟩, ⟨23, 16, .ro, 0, [], 1⟩, ⟨15, 8, .rsv, 0, [], 1⟩, ⟨7, 0, .ro, 0, [], 1⟩]⟩,
  -- DBG_CMD
  ⟨0x48, [], .one, [⟨31, 16, .wo, 0, [], 1⟩, ⟨15, 3, .rsv, 0, [], 1⟩, ⟨2, 0, .wo, 0, [(0x1, 0x4)], 1⟩]⟩,
  -- DBG_HOLD
  ⟨0x4C, [], .one, [⟨31, 16, .rsv, 0, [], 1⟩, ⟨15, 8, .ro, 0, [], 1⟩, ⟨7, 0, .rw, 0, [], 1⟩]⟩,
  -- DBG_GO
  ⟨0x50, [], .one, [⟨31, 8, .rsv, 0, [], 1⟩, ⟨7, 0, .wo, 0, [], 1⟩]⟩,
  -- DBG_CHAL
  ⟨0x80, [(8, 0x4)], .one, [⟨31, 0, .ro, 0, [], 1⟩]⟩,
  -- DBG_RESP
  ⟨0x100, [(32, 0x4)], .one, [⟨31, 0, .wo, 0, [], 1⟩]⟩]

/-- The block registers of a page. A page with no list has only its header, or is not allocated (R17). -/
def regsOfPage (page : Nat) : List RegDesc :=
  if page = 0x0 then regsPage00 else
  if page = 0x1 then regsPage01 else
  if page = 0x2 then regsPage02 else
  if page = 0x3 then regsPage03 else
  if page = 0x4 then regsPage04 else
  if page = 0x5 then regsPage05 else
  if page = 0x6 then regsPage06 else
  if page = 0x7 then regsPage07 else
  if page = 0x8 then regsPage08 else
  if page = 0x9 then regsPage09 else
  if page = 0xA then regsPage0A else
  if page = 0xB then regsPage0B else
  if page = 0xC then regsPage0C else
  if page = 0xD then regsPage0D else
  if page = 0x10 then regsPage10 else
  if 0x11 ≤ page ∧ page ≤ 0x20 then regsPage11 else
  if 0x21 ≤ page ∧ page ≤ 0x26 then regsPage21 else
  if 0x28 ≤ page ∧ page ≤ 0x2B then regsPage28 else
  if page = 0x30 then regsPage30 else
  if page = 0x31 then regsPage31 else
  if page = 0x32 then regsPage32 else
  if page = 0x38 then regsPage38 else
  if 0x39 ≤ page ∧ page ≤ 0x40 then regsPage39 else
  if page = 0x41 then regsPage41 else
  if page = 0x48 then regsPage48 else
  if 0x49 ≤ page ∧ page ≤ 0x4C then regsPage49 else
  if page = 0x50 then regsPage50 else
  if 0x51 ≤ page ∧ page ≤ 0x52 then regsPage51 else
  if page = 0x53 then regsPage53 else
  if page = 0x54 then regsPage54 else
  if 0x58 ≤ page ∧ page ≤ 0x5F then regsPage58 else
  if page = 0x60 then regsPage60 else
  if 0x61 ≤ page ∧ page ≤ 0x70 then regsPage61 else
  if page = 0x71 then regsPage71 else
  if 0x78 ≤ page ∧ page ≤ 0x7D then regsPage78 else
  if page = 0x7E then regsPage7E else
  if page = 0x7F then regsPage7F else
  if page = 0x80 then regsPage80 else
  if page = 0x88 then regsPage88 else
  if page = 0x89 then regsPage89 else
  if page = 0x8A then regsPage8A else
  if page = 0x90 then regsPage90 else
  if page = 0x91 then regsPage91 else
  if page = 0x98 then regsPage98 else
  if page = 0xA0 then regsPageA0 else
  []

end Sys2Proof.Machine
end

