-- ==== Sys2Proof/Machine/State.lean ====
section
/-! DEFINITION. The state of the EVF-8192 as plain data, and the state right after a module reset. Register words lie in
`regs`, keyed as R.* names them; the other fields hold what no register shows. A field's default is its reset value. -/

namespace Sys2Proof.Machine

/-! ## Answers, registers and events (01_register_pages.md) -/

/-- The error codes of R26. -/
inductive Code where
  | none | illegalValue | reservedBits | readOnly | notInState | accessFlask | rank | broken | orphaned | usage
  | tamperAbort | noResource | busy | lockedConfig | sequence | auth
  deriving DecidableEq, Repr

/-- What the requester of the last access received: an error code, a bus error (R12, R13), a denied indication (R50), and the data. -/
structure Answer where
  code : Code := .none
  busError : Bool := false
  denied : Bool := false
  words : List Word := []
  bytes : List Byte := []
  deriving DecidableEq, Repr

/-- A word kept for one requester: a holding copy or a stage of a wide register (R14). -/
structure KeptWord where
  who : Requester
  key : Nat
  word : Word
  deriving DecidableEq, Repr

/-! ## Points and forces (02_points_and_flasks.md) -/

/-- A point record (R38). The default is the null record (R40): every byte 00h except QUALITY, 06h. -/
structure Point where
  value : DWord := 0
  tstamp : DWord := 0
  readers : Word := 0
  quality : Byte := 6
  dtype : Byte := 0
  owner : BitVec 5 := 0
  alloc : Bool := false
  forced : Bool := false
  source : BitVec 16 := 0
  seq : BitVec 16 := 0
  deriving DecidableEq, Repr

/-- A force table entry (R57), with the copy of the record beneath. -/
structure Force where
  point : BitVec 13
  value : DWord
  setter : BitVec 5
  orphan : Bool
  written : Bool
  uValue : DWord
  uTstamp : DWord
  uQuality : Byte
  uSource : BitVec 16
  deriving DecidableEq, Repr

/-- A requester's window holding copy (R54). -/
structure WinHold where
  who : Requester
  point : BitVec 13
  copy : Point
  deriving DecidableEq, Repr

/-- A requester's window stage (R55). -/
structure WinStage where
  who : Requester
  point : BitVec 13
  low : Option Word
  quality : Option Byte
  deriving DecidableEq, Repr

/-! ## Scan (03_scan_execution.md) -/

/-- The step that a run is in (R75): latch (after its dispatch), program, write-back, retention copy. The end step follows the retention copy in one operation. -/
inductive RunStep where
  | latch | program | writeBack | retention
  deriving DecidableEq, Repr

/-- A deferred point write (R80, R137). -/
structure DeferredWrite where
  point : Nat
  value : DWord
  quality : Byte
  deriving DecidableEq, Repr

/-- A run in progress. -/
structure Run where
  step : RunStep
  release : DWord
  execNs : Nat
  drops : Nat := 0
  denials : Nat := 0
  firstDenied : Nat := 0
  deferred : List DeferredWrite := []
  dirty : List Nat := []
  stopped : Bool := false
  ihash : DWord := 0
  ohash : DWord := 0
  deriving DecidableEq, Repr

/-- A task slot's register bank, call stack and status word (R104 to R106, R123). A frame is a return address and the caller's IB. -/
structure Bank where
  w : Table Word := []
  pc : Word := 0
  ib : Word := 0
  stack : List (Word × Word) := []
  sticky : Word := 0
  tbHi : Word := 0
  deriving DecidableEq, Repr

/-- What a task holds beside its registers: its pending release and its run. -/
structure TaskState where
  bank : Bank := {}
  run : Option Run := none
  relAt : DWord := 0
  relOrder : Nat := 0
  lastRel : Option DWord := none
  held : Bool := false
  heldExchange : Option DWord := none
  prevDone : Option DWord := none
  lostRetain : Bool := false
  deriving DecidableEq, Repr

/-- A cause record (R96); task 255 stands for FFh, no task (R97). -/
structure Cause where
  code : Nat
  task : Nat
  detail : Word
  time : DWord
  deriving DecidableEq, Repr

/-- A flask's cause queue and its LOST count (R96). -/
structure CauseQueue where
  records : List Cause := []
  lost : Nat := 0
  deriving DecidableEq, Repr

/-- A granule of retentive data: the instance, the offset within it and its bytes (R89). -/
structure Granule where
  key : Nat
  offset : Nat
  bytes : List Byte
  deriving DecidableEq, Repr

/-- A batch in the staging buffer, tagged with the task and the run count (R89). -/
structure Batch where
  flask : Nat
  task : Nat
  run : Word
  granules : List Granule
  deriving DecidableEq, Repr

/-- The scan state beside the registers. `batches` is the staging buffer, oldest first; `nvr` the retentive data that has committed. -/
structure Scan where
  tasks : Table TaskState := []
  causes : Table CauseQueue := []
  batches : List Batch := []
  nvr : Table (List NvrInst) := []
  newGen : Table (Option (List NvrInst)) := []
  pfw : Bool := false
  saveDone : Bool := false
  relCount : Nat := 0
  busyNs : Table Nat := []
  deriving DecidableEq, Repr

/-! ## Recast (05_recast.md) -/

/-- A report that is due (R168), with the buffer that its operation took. -/
structure Report where
  addr : Nat
  size : Nat
  kind : Nat
  flask : Nat
  result : Nat
  oldId : Word
  newId : Word
  switchAt : DWord
  migUs : Nat := 0
  forces : List (List Byte) := []
  insts : List (List Byte) := []
  copied : Nat := 0
  deriving DecidableEq, Repr

/-- The Recast block beside its registers: the request taken at STAGE, the buffer taken for the next report, whether a tamper event
hit the check, the mould staged and the mould retained, the times of COMMIT and of the exchange tick, and the reports due. -/
structure Xch where
  src : Nat := 0
  len : Nat := 0
  key : Nat := 0
  rptAddr : Nat := 0
  rptSize : Nat := 0
  aborted : Bool := false
  staged : Option Mould := none
  retained : Option Mould := none
  commitAt : DWord := 0
  tickAt : DWord := 0
  reports : List Report := []
  deriving DecidableEq, Repr

/-! ## Crucible slots (14_crucible_and_tamper.md) -/

/-- A Crucible slot: its attribute word (R402), its parent's and its own generation (R404) and its key material. The material is
kept whole with the second of its two shares, `share`; the first is their exclusive or (R401, R416). -/
structure KeySlot where
  attr : Word := 0
  pgen : BitVec 16 := 0
  gen : BitVec 16 := 0
  material : List Byte := []
  share : List Byte := []
  deriving DecidableEq, Repr

/-! ## Loops (06_loop_engines.md) -/

/-- An output computed and not applied yet: u, its QUALITY and its due tick (R192). -/
structure LoopOut where
  u : Word
  quality : Byte
  due : Nat
  deriving DecidableEq, Repr

/-- What a loop holds beside its descriptor: its pending output, the last usable target and the step h of its profiler (R200, R201),
whether it has been suspended since its last sample (R204), and the section states mirrored for its previous sample (R205). -/
structure LoopState where
  out : Option LoopOut := none
  target : Option Word := none
  step : Word := 0
  wasSusp : Bool := false
  mirrored : List DWord := []
  deriving DecidableEq, Repr

/-! ## Metering (07_metering.md) -/

/-- A voltage channel: its latest samples, newest first, its last accepted crossing, whether a sample has been below −ZC_HYST since
(R213), and the half cycle of the sag detector in progress: its square sum, its sample count and the low half cycles in a row (R238). -/
structure VoltCh where
  hist : List Word := []
  last : Option DWord := none
  armed : Bool := false
  halfSq : Nat := 0
  halfN : Nat := 0
  lowHalves : Nat := 0
  deriving DecidableEq, Repr

/-- A current channel: the ×1 peak of the line cycle in progress and the low cycles in a row (R211). -/
structure CurrCh where
  peak : Nat := 0
  low : Nat := 0
  deriving DecidableEq, Repr

/-- A closed demand interval whose results wait for a cycle end (R226). -/
structure IvlClose where
  at_ : DWord
  adj : Bool
  unal : Bool
  maxt : Word
  deriving DecidableEq, Repr

/-- A circuit beside its registers (R214, R220 to R226): the cycle in progress, the six accumulators and their WRAPS, the
publication span, and the demand interval in progress with its flags of R227. -/
structure Circuit where
  running : Bool := false
  start : DWord := 0
  cp : Int := 0
  cq : Int := 0
  period : Nat := 2000000
  scale : List DWord := []
  acc : List Nat := [0, 0, 0, 0, 0, 0]
  wraps : List Nat := [0, 0, 0, 0, 0, 0]
  spanP : Int := 0
  spanQ : Int := 0
  spanLen : Nat := 0
  sqV : Nat := 0
  sqI : Nat := 0
  samples : Nat := 0
  clip : Bool := false
  lineLen : Nat := 0
  ivl : List Nat := [0, 0, 0, 0, 0, 0]
  ivlStart : DWord := 0
  ivlActive : Bool := false
  ivlPart : Bool := true
  ivlClip : Bool := false
  ivlAdj : Bool := false
  ivlUnal : Bool := false
  closing : Option IvlClose := none
  deriving DecidableEq, Repr

/-- A DC port meter beside its registers (R233 to R235): the tick in progress, the means of the tick before, the publication span,
the three accumulators and their WRAPS, whether an estimate is in force and the station frames received. -/
structure PortMeter where
  tickE : Int := 0
  tickSq : Nat := 0
  tickV : Int := 0
  tickI : Int := 0
  tickN : Nat := 0
  spanE : Int := 0
  spanV : Int := 0
  spanI : Int := 0
  spanN : Nat := 0
  spanTicks : Nat := 0
  acc : List Nat := [0, 0, 0]
  wraps : List Nat := [0, 0, 0]
  est : Option Word := none
  next : Option Word := none
  frames : Nat := 0
  deriving DecidableEq, Repr

/-- A circuit's or a port meter's part of the metering record (R237). -/
structure MeterEntry where
  acc : List Nat
  wraps : List Nat
  flags : Word
  ivl : List Nat
  maxd : Word
  maxt : Word
  rloop : Option Word
  deriving DecidableEq, Repr

/-- A copy of the metering record in the NVR (R237). -/
structure MeterRec where
  seq : Nat
  time : Word
  date : Word
  valid : Bool
  circuits : List MeterEntry
  ports : List MeterEntry
  applied : List Nat
  deriving DecidableEq, Repr

/-- Metering beside its registers. `nextSample` is the next sampling instant to be served, in units of 12,500 counts (the model's
own); `tainted` marks the calibration paths of which the window in progress is to be discarded (R230); `snap` is the snapshot of R238 that
awaits its write. -/
structure Meter where
  nextSample : Nat := 1
  volts : Table VoltCh := []
  currs : Table CurrCh := []
  circuits : Table Circuit := []
  ports : Table PortMeter := []
  started : DWord := 0
  ivlStart : DWord := 0
  tainted : Table Bool := []
  saves : Nat := 0
  snap : Option MeterRec := none
  nvr : Table (Option MeterRec) := []
  deriving DecidableEq, Repr

/-! ## Field buses (08_field_buses.md) -/

/-- A CAN controller beside its registers: whether it is listen-only at the moment (R249, R250), the receive error counter, the buffer
that is being sent (R260), whether its arbitration has been won and a cancel is held for it (R262), whether recovery is owed at the
next start (R248), whether LOSTB is due (R257), and the ring entries written but not yet published, with the ring they lie in (R258). -/
structure CanBus where
  listen : Bool := false
  recv : Nat := 0
  active : Option Nat := none
  won : Bool := false
  cancelled : Bool := false
  owesRecovery : Bool := false
  lostB : Bool := false
  ringNew : Nat := 0
  ringAt : Nat := 0
  deriving DecidableEq, Repr

/-! ## Fabric and locks (12_fabric_and_locks.md) -/

/-- A transfer on the fabric: its requester and the beats left. -/
structure Transfer where
  id : Nat
  beats : Nat
  deriving DecidableEq, Repr

/-- The fabric: requests waiting, the transfer in progress, one cut by the debug port (R365), the debug request and the fabric cycles
before it is presented, outstanding transactions by requester (R367), and the arbiters' LFSRs and last_grant words (R360, R361). Arbiter
0 is the fabric's and 1 + b is bank arbiter b; last_grant is kept at 4 × arbiter + class; `bankWait` holds the requests at a bank. -/
structure Fabric where
  waiting : List Transfer := []
  current : Option Transfer := none
  cut : Option Transfer := none
  debug : Option Nat := none
  cool : Nat := 0
  out : Table Nat := []
  lfsr : Table Nat := []
  last : Table Nat := []
  bankWait : Table (List Nat) := []
  deriving DecidableEq, Repr

/-- A lock's hold timer (R373): the time of the acquire and the HOLD_US in force since. -/
structure LockTimer where
  since : DWord := 0
  holdUs : Nat := 0
  deriving DecidableEq, Repr

/-! ## Ladle and Tundish (13_ladle_and_tundish.md) -/

/-- A transfer in hand: a bulk descriptor (R380) with its address, or a lite channel's registers. -/
structure LadleJob where
  addr : Nat
  ctrl : Word
  len : Nat
  src : Nat
  dst : Nat
  next : Nat
  deriving DecidableEq, Repr

/-- A Ladle channel beside its registers: KICKED (R382), the transfer in hand, the bytes moved, records denied, queue items gathered
for a point record, whether the source packet or the first item has passed, the write-back's RESULT, CODE and steps done (R383), and
for a channel in FAULT what it was doing: 1 fetch, 2 move, 3 write-back. -/
structure LadleCh where
  kicked : Bool := false
  job : Option LadleJob := none
  done : Nat := 0
  denied : Nat := 0
  gather : List Word := []
  ended : Bool := false
  result : Nat := 0
  code : Nat := 0
  wbSteps : Nat := 0
  was : Nat := 0
  deriving DecidableEq, Repr

/-- A Tundish queue beside its registers (R391, R396, R397): the complements of the read and write positions, the drain bank, the
items it took over at the swap, the write position at which the open packet began, whether the tail of a dropped packet is being
discarded, whether the consumer is inside a packet, and the side bits (SOP 1, EOP 2) of each item. -/
structure Queue where
  rdC : Nat := 0xFFFF
  wrC : Nat := 0xFFFF
  drain : Nat := 1
  filled : Nat := 0
  opened : Option Nat := none
  tail : Bool := false
  inside : Bool := false
  sides : Table Nat := []
  deriving DecidableEq, Repr

/-! ## Spurs and stations (09_spurs_and_stations.md) -/

/-- A spur port beside its registers (R270 to R274): the step of CLASSIFY (0 quiet check, 1 detection, 2 SCCP, 3 waiting to detect again),
SCCP attempts made, the start of the present step or state, an EN = 0 that waits for the step to end, and whether the port reconnects
after a disconnect. -/
structure SpurPort where
  step : Nat := 0
  tries : Nat := 0
  since : DWord := 0
  stopReq : Bool := false
  reconnect : Bool := false
  deriving DecidableEq, Repr

/-- A station service beside its registers (R276 to R293): the station's address from its last valid frame, the tick of the last downlink
frame, whether a valid frame for it has arrived, whether the substitutes of STARTING or STOPPING are committed, a drop that is due, and the
last downlink frame sent. -/
structure Station where
  peer : Option (List Byte) := none
  sent : Option Nat := none
  got : Bool := false
  subs : Bool := false
  dropDue : Bool := false
  frame : List Byte := []
  deriving DecidableEq, Repr

/-! ## The twin pair (11_twin_pair.md) -/

/-- What a standby queues while it is being resynchronized (R347). -/
inductive LinkItem where
  | frame (f : MirrorFrame)
  | stream (r : StreamRec)
  deriving DecidableEq, Repr

/-- The nets of a circuit's cycle that ended at a time, as a standby keeps them (R241). -/
structure NetRec where
  circuit : Nat
  te : DWord
  cp : Int
  cq : Int
  deriving DecidableEq, Repr

/-- Twin control beside its registers. Epochs and roles (R329 to R336): whether the epoch has been raised since reset, a refused raise,
the highest EPOCH_SEEN, the last uplink frame that showed a station driven with the home's epoch, the entry into RESOLVING and whether a
heartbeat has been heard since, the partner's last heartbeat and the one for the present grid point, the last four slots (silent, heard;
newest first), the heartbeat last sent with its grid point, a decision (REASON, SILENT), and a demotion that is due. Handover (R352 to
R354). The active's mirror (R339 to R341): items accepted and not yet sent. The standby (R341 to R347): the queue of a
resynchronization, the last frame's tick, a named exchange tick, granule tags, granules that wait for a shadow run, shadow runs and run
records not yet matched. Synchronization times, and the Forecast (R348, R349). `returns` and `epochNvr` are kept in the NVR. -/
structure Twin where
  raised : Bool := false
  epochEnd : Bool := false
  maxSeen : Nat := 0
  witness : Option DWord := none
  since : DWord := 0
  heard : Bool := false
  hb : Option Heartbeat := none
  hbNow : Option Heartbeat := none
  slots : List (Bool × Bool) := []
  sent : Option Heartbeat := none
  sentGrid : Nat := 0
  decided : Option (Nat × Nat) := none
  demote : Bool := false
  hoReq : Bool := false
  hoRev : Bool := false
  hoTick : Option Nat := none
  returns : List Nat := []
  epochNvr : Word := 0
  stream : Option StreamRec := none
  cutAt : DWord := 0
  frame : Option MirrorFrame := none
  stopped : Bool := false
  bulking : Bool := false
  xch : List XchItem := []
  config : List ConfigItem := []
  force : List ForceItem := []
  runs : List RunItem := []
  grans : List GranItem := []
  evSeq : Word := 0
  queue : List LinkItem := []
  lastTick : Option DWord := none
  named : Option XchItem := none
  tags : Table DWord := []
  heldGrans : List GranItem := []
  shadow : List (DWord × RunItem) := []
  records : List (DWord × RunItem) := []
  syncAt : DWord := 0
  readyAt : DWord := 0
  fcSeq : Nat := 0
  flagsNow : Word := 0
  flagsLast : Word := 0
  sweeps : Nat := 0
  sweepMs : Nat := 0
  sweepAt : DWord := 0
  laneErr0 : Nat := 0
  laneErr1 : Nat := 0
  bistFail : Word := 0
  scrubCorr : Nat := 0
  scrubUncorr : Nat := 0
  katPass : Nat := 0
  katFail : Nat := 0
  shCompared : Nat := 0
  shIncomp : Nat := 0
  shMismatch : Nat := 0
  shLast : Word := 0
  hbSilent : Nat := 0
  mirMaxB : Nat := 0
  mtrDiff : Nat := 0
  mtrCirc : Nat := 0
  energy : List EnergyItem := []
  nets : List NetRec := []
  ebase : Table (Option Nat) := []
  mgmtDepth : Nat := 0
  mgmtSat : Bool := false
  deriving DecidableEq, Repr

/-! ## Host ports and NRAP (10_host_ports_and_nrap.md) -/

/-- A datagram handed to the NRAP front end: its source and its UDP payload. -/
structure Datagram where
  mac : List Byte
  ip : Word
  port : Nat
  data : List Byte
  deriving DecidableEq, Repr

/-- A frame queued for transmission: its kind (0 ARP reply, 1 ICMP echo reply, 2 UDP datagram, 3 PTP over Ethernet, 4 PTP over UDP), its
destination and its payload. -/
structure TxFrame where
  kind : Nat
  mac : List Byte
  ip : Word
  port : Nat
  data : List Byte
  deriving DecidableEq, Repr

/-- An entry of a PTP timestamp FIFO (R305): the stamp in sixteenths of a count. -/
structure PtpStamp where
  ts : Nat
  msg : Nat
  dom : Nat
  seq : Nat
  deriving DecidableEq, Repr

/-- A host MAC beside its registers: transmit queues by number, timestamp FIFOs oldest first, datagrams for the front end, the end of a
received PAUSE, and the last frame sent. -/
structure HostMac where
  queues : Table (List TxFrame) := []
  rx : List PtpStamp := []
  tx : List PtpStamp := []
  inbox : List Datagram := []
  pause : DWord := 0
  sent : Option TxFrame := none
  deriving DecidableEq, Repr

/-- A request in the management work queue: its binding, port of arrival, source, header fields, operation area and tag. -/
structure NrapReq where
  binding : Nat
  port : Nat
  mac : List Byte
  ip : Word
  udp : Nat
  flags : Nat
  slot : Nat
  seq : Word
  area : List Byte
  tag : List Byte
  hello : Bool
  deriving DecidableEq, Repr

/-- The request last accepted under a port and slot (R311): its tag, and the response once sent. -/
structure NrapKept where
  tag : List Byte
  frame : Option (Nat × TxFrame)
  deriving DecidableEq, Repr

/-- A subscribed point (R318): the SEQ last notified and the time of that notification. -/
structure NrapSub where
  binding : Nat
  point : Nat
  minMs : Nat
  seq : BitVec 16
  at_ : Option DWord
  deriving DecidableEq, Repr

/-- Where a binding's notifications go, and whether they are encrypted. -/
structure NrapDest where
  mac : List Byte
  ip : Word
  udp : Nat
  gcm : Bool
  deriving DecidableEq, Repr

/-- NRAP beside its registers: the work queue, the last accepted SEQ and the kept request by port and slot (port × 256 + slot), the
subscriptions, their destinations and notification counts by binding, and the AUTH responses of a port in a second (the second and
their number), and the GEN that each enabled binding recorded (R426). `bootNvr` is the boot count in the NVR. -/
structure Nrap where
  work : List NrapReq := []
  lastSeq : Table Nat := []
  kept : Table (Option NrapKept) := []
  subs : List NrapSub := []
  dests : Table (Option NrapDest) := []
  notes : Table Nat := []
  auths : Table (Nat × Nat) := []
  gens : Table Nat := []
  bootNvr : Word := 0
  deriving DecidableEq, Repr

/-! ## Timebase, PTP and calendar (15_time_and_backup.md) -/

/-- The timebase follower (R441): the rate in ppb that it last set, and heartbeats in a row within and outside 100 ns. -/
structure Follower where
  rate : Int := 0
  inside : Nat := 0
  outside : Nat := 0
  deriving DecidableEq, Repr

/-- The PTP servo (R442, R443): the master's Announce data, times of the last Announce and Sync, whether PTP_ORIGIN has been set, a Sync that
waits for its Follow_Up (its sequence, t2 and correction), the last Sync's t1 and t2, the sequence of the last Delay_Req and its t3, the
mean path delay, and Sync messages in a row within 1 µs. Times are in ns. -/
structure Ptp where
  master : Option PtpAnnounce := none
  announceAt : DWord := 0
  syncAt : DWord := 0
  originSet : Bool := false
  wait : Option (Nat × Int × Int) := none
  t1 : Int := 0
  t2 : Int := 0
  reqSeq : Nat := 0
  t3 : Option Int := none
  delay : Int := 0
  good : Nat := 0
  deriving DecidableEq, Repr

/-- The calendar beside its registers: the staged date and time while held, and the TRIM in force (R445, R447). -/
structure Rtc where
  stageDate : Option Word := none
  stageTime : Option Word := none
  trim : Word := 0
  deriving DecidableEq, Repr

/-! ## OTP and the Crucible (14_crucible_and_tamper.md) -/

/-- A root bank in OTP (R409): its fuses, the masked root, the mask and the check value. -/
structure RootBank where
  used : Bool := false
  done : Bool := false
  root : List Byte := []
  mask : List Byte := []
  check : List Byte := []
  deriving DecidableEq, Repr

/-- The fuses: root banks, KILLED (R410), DEBUG_LOCK (R415), the SVN count (R503) and the owner key's hash (R504). -/
structure Otp where
  bankA : RootBank := {}
  bankB : RootBank := {}
  killed : Bool := false
  debugLock : Bool := false
  svn : Nat := 0
  owner : Option (List Byte) := none
  deriving DecidableEq, Repr

/-- A Crucible command in flight (R417): its registers as the write found them. -/
structure CruJob where
  op : Nat
  target : Nat
  aux : Nat
  attr : Word
  addr : Nat
  label : List Byte
  key : List Byte
  deriving DecidableEq, Repr

/-- A crypto job in flight (R422). -/
structure CryJob where
  op : Nat
  slot : Nat
  src : Nat
  dst : Nat
  len : Nat
  aux : Nat
  auxLen : Nat
  iv : List Byte
  tag : List Byte
  deriving DecidableEq, Repr

/-- The Crucible and the engine beside their registers: what is in flight, the key store and its generation table in the NVR (R420), the
debug nonce, and an OPEN that waits for phase 04h (R413). `erasePend` lies in PD0 (R430). -/
structure Crypto where
  cru : Option CruJob := none
  cry : Option CryJob := none
  store : Table (Option KeySlot) := []
  storeGen : Table Nat := []
  nonce : List Byte := []
  openWait : Bool := false
  erasePend : Bool := false
  deriving DecidableEq, Repr

/-! ## Boot, stores and the NOR (16_modes_power_boot.md) -/

/-- The running firmware, from its manifest (R491). -/
structure Firmware where
  release : Word := 0
  svn : Nat := 0
  linkVer : Byte := 0
  deriving DecidableEq, Repr

/-- A BOOT_S store or an XSPI command in progress: its kind, its source in DRAM, its NOR offset and its length. -/
structure NorJob where
  op : Nat
  src : Nat
  off : Nat
  len : Nat
  deriving DecidableEq, Repr

/-- The boot ROM and the power manager beside their registers: what the ROM finds around it, whether the NOR still holds the delivered package, a recovery request that the reset carried, the
causes of a module reset that is due, whether tamper sealed the Crucible in this BOOT (R429), the running firmware, and NOR work in progress. -/
structure Boot where
  env : BootEnv := { ms := 1250, rails := 31, health := 7, home := false, density := 0, x16 := false, nor := 0, norId := 0 }
  delivered : Bool := true
  recover : Bool := false
  due : Option Nat := none
  tampered : Bool := false
  fw : Firmware := {}
  store : Option NorJob := none
  xspi : Option NorJob := none
  deriving DecidableEq, Repr

/-! ## Update and recovery (17_update_and_recovery.md) -/

/-- An update beside its registers: the package's place, the manifest that the loader keeps, the first tick of an activation's holding step
and the time at which its pause began. -/
structure Upd where
  src : Nat := 0
  len : Nat := 0
  manifest : List Byte := []
  b1 : Option Nat := none
  pauseAt : DWord := 0
  deriving DecidableEq, Repr

/-- The ROM recovery protocol (R507, R508): the session's port and source address, its last accepted SEQ and response, the time of its last
request, the challenges drawn, the current nonce, and the commit's state, code and length. -/
structure Recov where
  session : Option (Nat × List Byte) := none
  seq : Option Nat := none
  respCode : Code := .none
  response : List Byte := []
  at_ : DWord := 0
  challenges : Nat := 0
  nonce : Option (List Byte) := none
  commit : Nat := 0
  code : Nat := 0
  total : Nat := 0
  deriving DecidableEq, Repr

/-! ## The whole state -/

/-- A record of the event log in the NVR (R60, R483): its sequence number and the point of a force that a restore discarded. The manual names no
other record of the log and no format. -/
structure LogEntry where
  seq : Word
  point : BitVec 13
  deriving DecidableEq, Repr

/-- Why a step stops with a fault. The block takes every command in every state, so no meaning of this model raises one. -/
inductive Fault where
  /-- A task shown as running that holds no run. Raised by no meaning: the commands of the scan pass such a task by. Safe. -/
  | runLost
  deriving DecidableEq, Repr

/-- Why a command has no meaning. -/
inductive Refusal where
  /-- A command without a meaning. Raised by no arm: every command has one. Safe. -/
  | notModelled (mnemonic : String)
  deriving DecidableEq, Repr

/-- The state of the block. -/
structure State where
  /-- The commands that wait, first in, first out. -/
  pending : List Instr := []
  /-- The timebase (R437): TB_NOW reads it. -/
  now : DWord := 0
  /-- The next tick boundary to be served, in ms of timebase. The model's own. -/
  nextTick : Nat := 1
  /-- The next grid point to be served, in units of 250 µs. The model's own. -/
  nextGrid : Nat := 1
  /-- Register words that differ from their reset value, by key (R18, R19). -/
  regs : Table Word := []
  /-- RWL fields are locked (R18). -/
  rwlLocked : Bool := false
  /-- The bytes of SRAM, queue SRAM, DRAM and NOR that have been written (R11, R534), addresses rising. -/
  mem : List Host.Cell := []
  /-- Module resets since power-on: selects fresh undefined bytes (R534). The model's own. -/
  resets : Nat := 0
  /-- Free values met so far. The model's own. -/
  free : Nat := 0
  /-- Bytes drawn from the random generator so far. The model's own. -/
  drawn : Nat := 0
  /-- What the last access answered. -/
  answer : Answer := {}
  /-- Holding copies of wide registers (R14). -/
  holds : List KeptWord := []
  /-- Stages of wide registers (R14). -/
  stages : List KeptWord := []
  /-- The target each pending event source was set for (R37). -/
  evtTarget : Table Nat := []
  /-- Sources of the event matrix whose level is high beside the page lines: PFW or sag (R36, 133h). -/
  pfwLevel : Bool := false
  /-- Domains that are leaving their sleep state (R463, R465). -/
  exiting : Table Bool := []
  /-- Allocated point records, by point ID (R38). -/
  points : Table Point := []
  /-- The force table, by entry index (R57). -/
  forces : Table (Option Force) := []
  /-- The force table as the NVR holds it (R61). -/
  nvrForces : Table (Option Force) := []
  /-- The event log in the NVR, oldest first (R60, R483). -/
  evLog : List LogEntry := []
  winHolds : List WinHold := []
  winStages : List WinStage := []
  /-- Running moulds, by flask. -/
  moulds : Table (Option Mould) := []
  scan : Scan := {}
  xch : Xch := {}
  /-- The Crucible's key slots (R401). -/
  slots : Table KeySlot := []
  /-- Loops, by number. -/
  loops : Table LoopState := []
  /-- Evaluation cycles of each loop engine in the present second (LPE_LOAD). -/
  loopBusy : Table Nat := []
  meter : Meter := {}
  /-- A firmware activation pause is in progress (R500): loops are suspended and releases held. -/
  paused : Bool := false
  /-- CAN controllers, by bus. -/
  buses : Table CanBus := []
  fabric : Fabric := {}
  /-- Hold timers of held locks. -/
  lockTimers : Table LockTimer := []
  /-- Ladle channels: bulk 00h to 0Fh, lite 10h to 3Fh. -/
  ladle : Table LadleCh := []
  queues : Table Queue := []
  ports : Table SpurPort := []
  stations : Table Station := []
  /-- The directory as it stood at the last tick boundary, after the loop outputs applied there (R193, R277). -/
  snapshot : Table Point := []
  /-- Stations are sent HOLD frames before an activation pause (R287, R500). -/
  stationHold : Bool := false
  twin : Twin := {}
  /-- A DOZE wake event asks for ACTIVE at the next tick boundary (R461). -/
  wake : Bool := false
  hosts : Table HostMac := []
  nrap : Nrap := {}
  follower : Follower := {}
  ptp : Ptp := {}
  rtc : Rtc := {}
  otp : Otp := {}
  crypto : Crypto := {}
  /-- Images of the NOR left undefined so far: selects fresh bytes. The model's own. -/
  norGen : Nat := 0
  /-- Times that the contents of DRAM were lost since the module reset (R35): selects fresh bytes. The model's own. -/
  dramGen : Nat := 0
  boot : Boot := {}
  upd : Upd := {}
  recov : Recov := {}
  deriving DecidableEq, Repr

/-- The module right after reset. -/
def State.reset : State := {}

end Sys2Proof.Machine
end

