-- ==== Sys2Proof/Machine/Regs.lean ====
section
/-! DEFINITION. Register words: their reset values (R19, R21, R25), reading and setting them, recording a rejection on a page
(R28), interrupt causes and the event matrix (R36, R37), and counting a denial (R65). -/

namespace Sys2Proof.Machine

/-- The number of an error code (R26). -/
def codeNum : Code → Nat
  | .none => 0 | .illegalValue => 1 | .reservedBits => 2 | .readOnly => 3 | .notInState => 4 | .accessFlask => 5
  | .rank => 6 | .broken => 7 | .orphaned => 8 | .usage => 9 | .tamperAbort => 10 | .noResource => 11 | .busy => 12
  | .lockedConfig => 13 | .sequence => 14 | .auth => 15

/-! ## The page allocation (R25) -/

/-- Whether a page lies in a range. -/
def pageIn (page a b : Nat) : Bool := decide (a ≤ page) && decide (page ≤ b)

/-- The block type, first page and domain of a page, as R25 allocates them; none for an unallocated page (R17). -/
def pageAlloc (page : Nat) : Option (Nat × Nat × Nat) :=
  if page ≤ 7 then some (page + 1, page, if page = 4 ∨ page = 5 then 0 else 1)
  else if page = 8 then some (0x09, 8, 1) else if page = 9 then some (0x0A, 9, 13)
  else if page = 0x0A then some (0x0B, page, 1)
  else if pageIn page 0x0B 0x0D then some (page + 1, page, 13)
  else if page = 0x10 then some (0x10, page, 13)
  else if pageIn page 0x11 0x20 then some (0x11, 0x11, 13)
  else if pageIn page 0x21 0x26 then some (0x12, 0x21, 13)
  else if pageIn page 0x28 0x2B then some (0x13, 0x28, 13)
  else if pageIn page 0x30 0x32 then some (page - 0x18, page, 13)
  else if page = 0x38 then some (0x20, page, 1)
  else if pageIn page 0x39 0x3C then some (0x21, 0x39, 3)
  else if pageIn page 0x3D 0x40 then some (0x21, 0x39, 4)
  else if page = 0x41 then some (0x22, page, 1)
  else if page = 0x48 then some (0x28, page, 5)
  else if pageIn page 0x49 0x4C then some (0x29, 0x49, 5)
  else if page = 0x50 then some (0x30, page, 6)
  else if pageIn page 0x51 0x52 then some (0x31, 0x51, 6)
  else if page = 0x53 then some (0x32, page, 7)
  else if page = 0x54 then some (0x33, page, 6)
  else if pageIn page 0x58 0x5F then some (0x38, 0x58, 8)
  else if page = 0x60 then some (0x40, page, 8)
  else if pageIn page 0x61 0x68 then some (0x41, 0x61, 9)
  else if pageIn page 0x69 0x70 then some (0x41, 0x61, 10)
  else if page = 0x71 then some (0x42, page, 8)
  else if pageIn page 0x78 0x7D then some (0x48, 0x78, 11)
  else if pageIn page 0x7E 0x7F then some (page - 0x35, page, 11)
  else if page = 0x80 then some (0x50, page, 2)
  else if pageIn page 0x88 0x8A then some (page - 0x30, page, 11)
  else if pageIn page 0x90 0x91 then some (page - 0x30, page, 12)
  else if page = 0x98 then some (0x68, page, 2)
  else if page = 0xA0 then some (0x70, page, 1)
  else none

/-- The domain that holds a page's block (R25); PD1 for an unallocated page. -/
def pageDomain (page : Nat) : Nat := match pageAlloc page with | some (_, _, d) => d | none => 1

/-- Whether a page's EN switches its block (R21; the chapters name the pages that cannot be switched off). -/
def pageSwitchable (page : Nat) : Bool :=
  pageIn page 0x11 0x20 || pageIn page 0x39 0x40 || pageIn page 0x49 0x4C || pageIn page 0x51 0x53 ||
  pageIn page 0x58 0x5F || pageIn page 0x61 0x70 || pageIn page 0x78 0x7F

/-- The reset value of PG_CTRL.EN: 1 on a page that cannot be switched off and on the SCC, LPE, MDSP, AFE and TLM pages. -/
def pageEnReset (page : Nat) : Bool :=
  !pageSwitchable page || pageIn page 0x39 0x40 || pageIn page 0x49 0x4C || pageIn page 0x51 0x53 || page == 0x7E

/-- The tenant-assignable pages (R23): LDLB0–15, FB0–7, SPU0–15 and HM3–HM5. -/
def tenantPage (page : Nat) : Bool :=
  pageIn page 0x11 0x20 || pageIn page 0x58 0x5F || pageIn page 0x61 0x70 || pageIn page 0x7B 0x7D

/-- The block-specific causes that a page's PG_ISR defines, from the cause table of each chapter. -/
def isrMask (page : Nat) : Nat :=
  if page = 0x00 then 0x3 else if page = 0x01 then 0x1 else if page = 0x02 then 0x3 else if page = 0x03 then 0x1
  else if page = 0x04 then 0x7 else if page = 0x05 then 0x1 else if page = 0x06 then 0x7 else if page = 0x0A then 0x7
  else if page = 0x0B then 0x3 else if page = 0x0C then 0x1 else if page = 0x0D then 0x3
  else if pageIn page 0x11 0x20 then 0xF else if pageIn page 0x21 0x26 then 0xFF
  else if pageIn page 0x28 0x2B then 0x3FFFF else if page = 0x31 then 0x1 else if page = 0x38 then 0x1F
  else if pageIn page 0x39 0x40 then 0x1 else if page = 0x41 then 0xF else if pageIn page 0x49 0x4C then 0x1F
  else if page = 0x50 then 0x3F else if pageIn page 0x51 0x53 then 0x1 else if page = 0x54 then 0x3
  else if pageIn page 0x58 0x5F then 0x1FF else if pageIn page 0x61 0x70 then 0x7FF
  else if pageIn page 0x78 0x7D then 0x3F else if page = 0x7E then 0x3 else if page = 0x7F then 0x7
  else if page = 0x80 then 0xF else if page = 0x88 then 0x1FF else if pageIn page 0x89 0x8A then 0x3
  else if page = 0x90 then 0xF else if page = 0x91 then 0x3 else if page = 0x98 then 0xF else if page = 0xA0 then 0x3
  else 0

/-! ## Looking a register up -/

/-- The indexes of an offset within a register's repetitions: true when it lies exactly on one of them. -/
def onDims : List (Nat × Nat) → Nat → Bool
  | [], d => d == 0
  | (cnt, stride) :: r, d => let n := min (d / stride) (cnt - 1); onDims r (d - n * stride)

/-- The description of the block register at an offset. -/
def findReg (page off : Nat) : Option RegDesc :=
  (regsOfPage page).find? (fun d => decide (d.off ≤ off) && onDims d.dims (off - d.off))

/-- The fabric requesters' reset class, tickets and outstanding limit (R357). -/
def arbReset (n : Nat) : Nat × Nat × Nat :=
  if n = 0 then (2, 32, 16) else if n ≤ 8 then (1, 16, 4) else if n ≤ 18 then (0, 16, 4) else if n = 19 then (2, 8, 2)
  else if n = 20 then (3, 16, 16) else if n = 21 then (2, 16, 8) else if n = 22 then (2, 32, 8)
  else if n = 23 then (0, 32, 16) else if n = 24 then (1, 32, 8) else if n = 25 then (3, 16, 8) else (0, 0, 1)

/-- Nominal island clocks in units of 0.25 MHz (R481). -/
def islandFreq (n : Nat) : Nat :=
  if n = 0 ∨ n = 2 ∨ n = 28 then 3200 else if n = 1 ∨ n = 17 ∨ n = 23 ∨ n = 24 then 400
  else if n ≤ 10 then 4000 else if n ≤ 14 then 1600 else if n ≤ 16 then 1200 else if n ≤ 21 then 1600
  else if n = 22 then 320 else if n = 25 then 500 else if n = 26 then 625 else if n = 27 then 1600
  else if n = 29 then 6400 else if n = 30 then 800 else 200

/-- Reset words that the field tables give per instance: event routes, FLK_CFG0, loop scales and limits, FB_RXQ, HM_CFG, arbiter
settings and island clocks. -/
def instanceReset (page off : Nat) : Option Nat :=
  if page = 0x07 ∧ 0x100 ≤ off ∧ off < 0x100 + 4 * 0x134 then
    let n := (off - 0x100) / 4
    some (if 0x100 ≤ n ∧ n < 0x130 then 0x1F else 0x80000000)
  else if page = 0x31 ∧ off = 0x40 then some 0x807F2000
  else if pageIn page 0x49 0x4C ∧ (off = 0x118 ∨ off = 0x120 ∨ off = 0x124) then some 0x3F800000
  else if pageIn page 0x49 0x4C ∧ off = 0x12C then some 0x40000000
  else if pageIn page 0x58 0x5F ∧ off = 0x50 then some (0x38 + (page - 0x58))
  else if pageIn page 0x78 0x79 ∧ off = 0x40 then some 0x05EE0000
  else if page = 0x08 ∧ 0x100 ≤ off ∧ off ≤ 0x168 then
    let (c, t, o) := arbReset ((off - 0x100) / 4); some (o * 0x10000 + c * 0x100 + t)
  else if page = 0x09 ∧ 0x100 ≤ off ∧ off ≤ 0x164 then
    let (c, t, _) := arbReset ((off - 0x100) / 4); some (c * 0x100 + t)
  else if page = 0x03 ∧ 0x100 ≤ off ∧ off < 0x180 then some (islandFreq ((off - 0x100) / 4))
  else none

/-- The reset word of a field table (R19). -/
def descReset (d : RegDesc) : Nat := d.fields.foldl (fun n f => n + f.reset * 2 ^ f.lo) 0

/-- The factory reset value of the register with a key (R19): the header's (R21), an instance's, or its field table's. -/
def resetWord (key : Nat) : Word :=
  let page := (key / 4096) % 256
  let off := key % 4096
  match pageAlloc page with
  | none => 0
  | some (ty, first, _) =>
    if off < 0x40 then
      if off = 0x00 then BitVec.ofNat 32 (ty * 2 ^ 24 + (page - first) * 2 ^ 16 + 0x0100)
      else if off = 0x04 then (if pageEnReset page then 1 else 0)
      else if off = 0x08 then (if pageSwitchable page then 0 else 2)
      else 0
    else match instanceReset page off with
      | some n => BitVec.ofNat 32 n
      | none =>
        match findReg page off with
        | some d => BitVec.ofNat 32 (descReset d)
        | none => 0

/-! ## Reading and setting -/

/-- The word that a register holds. -/
def rd (s : State) (key : Nat) : Word := tget resetWord s.regs key

/-- Set a register's word. -/
def wr (s : State) (key : Nat) (v : Word) : State := { s with regs := tput resetWord s.regs key v }

/-- A field of a register. -/
def fld (s : State) (key : Nat) (f : Fld) : Nat := bits (rd s key) f.hi f.lo

/-- A one-bit field of a register. -/
def flag (s : State) (key : Nat) (f : Fld) : Bool := fld s key f != 0

/-- Set a field of a register and leave its other bits. -/
def setFld (s : State) (key : Nat) (f : Fld) (v : Nat) : State := wr s key (withBits (rd s key) f.hi f.lo v)

/-- Set or clear one bit of a register. -/
def setBit (s : State) (key n : Nat) (b : Bool) : State := wr s key (withBits (rd s key) n n (b2n b))

/-- Add to a 32-bit counter register that stops at FFFF_FFFFh. -/
def bumpSat (s : State) (key n : Nat) : State := wr s key (BitVec.ofNat 32 (satAdd 32 (rd s key).toNat n))

/-- Add to a 32-bit counter register modulo 2^32. -/
def bump (s : State) (key n : Nat) : State := wr s key (rd s key + BitVec.ofNat 32 n)

/-- Add to a counter field that stops at its greatest value. -/
def bumpFld (s : State) (key : Nat) (f : Fld) (n : Nat) : State :=
  setFld s key f (satAdd (f.hi + 1 - f.lo) (fld s key f) n)

/-! ## Free values -/

/-- A free value (assumption 7). -/
def takeFree (s : State) : State × Word := ({ s with free := s.free + 1 }, Config.freeWord s.free)

/-! ## Page headers -/

def R.PG_CTRL (page : Nat) : Nat := regKey page 0x004 0
def R.PG_STATE (page : Nat) : Nat := regKey page 0x008 0
def R.PG_ERR (page : Nat) : Nat := regKey page 0x00C 0
def R.PG_ISR (page : Nat) : Nat := regKey page 0x010 0
def R.PG_IER (page : Nat) : Nat := regKey page 0x014 0
def R.PG_LAT (page : Nat) : Nat := regKey page 0x018 0
def R.PG_FLASK (page : Nat) : Nat := regKey page 0x01C 0
def F.PG_EN : Fld := ⟨0, 0⟩
def F.PG_SUBSTATE : Fld := ⟨15, 8⟩
def F.PG_REARM : Fld := ⟨4, 4⟩
def F.PG_STATE : Fld := ⟨1, 0⟩
def F.PG_OWNER : Fld := ⟨4, 0⟩
def F.PG_LAT : Fld := ⟨23, 0⟩

/-- The owner flask of a page (R23). -/
def pageOwner (s : State) (page : Nat) : Nat := fld s (R.PG_FLASK page) F.PG_OWNER

/-! ## Events (R36, R37) -/

/-- The domain of a target of the event matrix: management cores in PD2, field sequencers in PD8, security core in PD12. -/
def targetDomain (t : Nat) : Option Nat :=
  if t ≤ 0x0F then some 2 else if t ≤ 0x13 then some 8 else if t = 0x14 then some 12 else none

/-- Unscheduled demand for a domain (R465): a domain outside C0 begins its exit. -/
def demand (s : State) (d : Nat) : State :=
  if fld s (R.PWR_DOMSTAT d) F.PWR_DOMSTAT_CSTATE = 0 then s else { s with exiting := tput (fun _ => false) s.exiting d true }

/-- A source of the event matrix sets its pending bit when its route is enabled, and is remembered with its target (R37). -/
def evtSet (s : State) (src : Nat) : State :=
  if flag s (R.EVT_ROUTE src) F.EVT_ROUTE_EN then
    let k := R.EVT_PEND (src / 32)
    if bit (rd s k) (src % 32) then s
    else
      let t := fld s (R.EVT_ROUTE src) F.EVT_ROUTE_TARGET
      let s := setBit s k (src % 32) true
      let s := { s with evtTarget := tput (fun _ => 0x1F) s.evtTarget src t }
      match targetDomain t with
      | some d => demand s d
      | none => s
  else s

/-- The interrupt line of a page: the OR of PG_ISR AND PG_IER. -/
def pageLine (s : State) (page : Nat) : Bool := (rd s (R.PG_ISR page) &&& rd s (R.PG_IER page)) != 0

/-- Whether a level source of the event matrix is high (R36). -/
def sourceLevel (s : State) (src : Nat) : Bool :=
  if src < 0x100 then (pageAlloc src).isSome && pageLine s src else src == 0x133 && s.pfwLevel

/-- A level source that is high sets its bit (R37). -/
def evtLevel (s : State) (src : Nat) : State := if sourceLevel s src then evtSet s src else s

/-- Set interrupt causes of a page and let its line reach the event matrix. -/
def raise (s : State) (page causes : Nat) : State :=
  evtLevel (wr s (R.PG_ISR page) (rd s (R.PG_ISR page) ||| BitVec.ofNat 32 causes)) page

/-- Raise one interrupt cause of a page. -/
def raiseBit (s : State) (page n : Nat) : State := raise s page (2 ^ n)

/-- EVT_NEXTt: the lowest pending source set for target `t` (R37), with VALID in bit 31. -/
def evtNext (s : State) (t : Nat) : Word :=
  match (upTo 0x134).find? (fun n => bit (rd s (R.EVT_PEND (n / 32))) (n % 32) && tget (fun _ => 0x1F) s.evtTarget n == t) with
  | some n => BitVec.ofNat 32 (0x80000000 + n)
  | none => 0

/-! ## Rejections and denials -/

/-- Record a rejected write on its page (R28). -/
def pgError (s : State) (page off : Nat) (c : Code) : State :=
  let e := rd s (R.PG_ERR page)
  if bit e 31 then wr s (R.PG_ERR page) (withBits e 30 30 1)
  else raiseBit (wr s (R.PG_ERR page) (BitVec.ofNat 32 (0x80000000 + (off % 4096) * 256 + codeNum c))) page 31

/-- Answer the requester. -/
def answer (s : State) (c : Code) : State := { s with answer := { code := c } }

/-- A rejected write: recorded on its page and answered with its code (R28, R29). -/
def rejectWrite (s : State) (page off : Nat) (c : Code) : State := answer (pgError s page off c) c

/-- Count a denial of R65: FLK_DENYn, PG_ISR bit 0 of the FLK page, and FLK_DENY_LAST while its VALID is 0. -/
def deny (s : State) (flask path target : Nat) : State :=
  let s := bumpSat s (R.FLK_DENY flask) 1
  let s := if flag s R.FLK_DENY_LAST F.FLK_DENY_LAST_VALID then s
    else wr s R.FLK_DENY_LAST (BitVec.ofNat 32 (0x80000000 + flask * 2 ^ 24 + path * 2 ^ 20 + target % 2 ^ 13))
  raiseBit s 0x31 0

end Sys2Proof.Machine
end

