-- ==== Sys2Proof/Machine/Mem.lean ====
section
/-! DEFINITION. The physical address space (R11, R12, R534): the byte store, its canonical form, decode errors and the
little-endian accesses that engines make. -/

namespace Sys2Proof.Machine

/-! ## The byte store -/

/-- The byte written at an address, if any. -/
def mfind : List Host.Cell → Nat → Option Byte
  | [], _ => none
  | (j, v) :: r, a => if a = j then some v else if a < j then none else mfind r a

/-- Write one byte, keeping the addresses strictly rising. -/
def mput : List Host.Cell → Nat → Byte → List Host.Cell
  | [], a, v => [(a, v)]
  | (j, u) :: r, a, v =>
    if a < j then (a, v) :: (j, u) :: r else if a = j then (a, v) :: r else (j, u) :: mput r a v

/-- Remove the byte at an address. -/
def mdel : List Host.Cell → Nat → List Host.Cell
  | [], _ => []
  | (j, u) :: r, a =>
    if a < j then (j, u) :: r else if a = j then r.dropWhile (fun e => decide (e.1 ≤ a)) else (j, u) :: mdel r a

/-- NOR addresses that are delivered erased: the update journal, which is delivered closed (R494), and the ranges from the Pattern copies
on (R474), which the user fills (assumption 6). -/
def norErased (a : Nat) : Bool := pageIn a 0x30000000 0x3000FFFF || pageIn a 0x31000000 0x3FFFFFFF

/-- Addresses at or above `b`, strictly rising, and no entry that repeats what the byte reads as when unlisted. -/
def mwfFrom : Nat → List Host.Cell → Bool
  | _, [] => true
  | b, (a, v) :: r => decide (b ≤ a) && !(norErased a && v == 0xFF) && mwfFrom (a + 1) r

/-- The canonical form of the byte store: addresses strictly rising, no entry equal to a known unlisted value. Elsewhere an unlisted byte
reads as an opaque value, which no entry can be compared with. -/
def Memory.wf (m : List Host.Cell) : Bool := mwfFrom 0 m

/-- The byte at a physical address: the ROM's code, the byte written, or what stands where nothing was written: an undefined value in RAM
(R534), an erased byte or the delivered package in NOR. -/
def byteAt (s : State) (a : Nat) : Byte :=
  if a < 0x20000 then Config.romByte a
  else match mfind s.mem a with
    | some b => b
    | none => if norErased a then 0xFF else if pageIn a 0x30010000 0x30FFFFFF then Config.norByte 0 (a - 0x30000000)
      else Config.undefinedByte s.resets (if a < 0x80000000 then a else a + s.dramGen * 0x100000000)

/-- Store one byte. -/
def putByte (s : State) (a : Nat) (v : Byte) : State :=
  { s with mem := if norErased a && v == 0xFF then mdel s.mem a else mput s.mem a v }

/-- `n` bytes from an address. -/
def bytesAt (s : State) (a : Nat) : Nat → List Byte
  | 0 => []
  | n + 1 => byteAt s a :: bytesAt s (a + 1) n

/-- Store bytes from an address. -/
def putBytes (s : State) (a : Nat) : List Byte → State
  | [] => s
  | b :: r => putBytes (putByte s a b) (a + 1) r

/-- The little-endian number in `n` bytes. -/
def loadN (s : State) (a n : Nat) : Nat := leNat (bytesAt s a n)

/-- Store a number in `n` little-endian bytes. -/
def storeN (s : State) (a n v : Nat) : State := putBytes s a (leBytes n v)

/-- Fill `n` bytes with one value. -/
def fillBytes (s : State) (a n : Nat) (v : Byte) : State := putBytes s a (List.replicate n v)

/-! ## The address map -/

/-- Bytes of the fitted DRAM, from DDR_CFG (R480): two channels of 4, 6, 8, 12 or 16 Gb, at most the 2 GiB of the range. PRESUMED order of codes: assumption 9. -/
def dramSize (s : State) : Nat :=
  let d := bits (rd s R.DDR_CFG) 3 0
  let gb := if d = 0 then 4 else if d = 1 then 6 else if d = 2 then 8 else if d = 3 then 12 else 16
  min 0x80000000 (gb * 0x10000000)

/-- Whether bytes `a` to `a + n - 1` lie wholly in the fitted DRAM. -/
def inDram (s : State) (a n : Nat) : Bool := decide (0x80000000 ≤ a) && decide (a + n ≤ 0x80000000 + dramSize s)

/-- The ranges of R11, less what is not fitted (R12): first address, size, and whether a write is served. -/
def ranges (s : State) : List (Nat × Nat × Bool) :=
  [(0, 0x20000, false), (0x10000000, 0x1000000, true), (0x18000000, 0x80000, true), (0x20000000, 0x800000, false),
   (0x30000000, (rd s R.XSPI_SIZE).toNat, false), (0x40000000, 0x100000, true), (0x50000000, 0x40000, true),
   (0x80000000, dramSize s, true)]

/-- Whether an access of `n` bytes at `a` ends with a decode error (R12). -/
def decodeError (s : State) (a n : Nat) (write : Bool) : Bool :=
  !(ranges s).any (fun (r, size, w) => decide (r ≤ a) && decide (a + n ≤ r + size) && (w || !write))

/-- Read bytes of memory. The NVR gives 00h in the range of the key store; its other records have no stated layout, so their bytes are free values
(R484; assumption 7). -/
def readBytes (s : State) (a n : Nat) : State × List Byte :=
  if pageIn a 0x20000000 0x207FFFFF then
    ({ s with free := s.free + n },
      (upTo n).map (fun i => if pageIn (a + i) 0x20040000 0x2007FFFF then 0 else (Config.freeWord (s.free + i)).setWidth 8))
  else (s, bytesAt s a n)

/-- Whether an address lies in memory whose bytes a plain access moves: ROM, SRAM, queue SRAM, NVR, NOR window or DRAM. -/
def plainMemory (a : Nat) : Bool :=
  !(pageIn a 0x40000000 0x400FFFFF || pageIn a 0x50000000 0x5003FFFF)

end Sys2Proof.Machine
end

