-- ==== Sys2Proof/Machine/Points.lean ====
section
/-! DEFINITION. The point directory: who may read and write (R45, R46), committed writes (R41, R42, R44), the force table
(R57 to R61), record administration (R62) and the register access gate (R24). -/

namespace Sys2Proof.Machine

/-- The null record (R40). -/
def nullPoint : Point := {}

/-- The record of a point. -/
def pointAt (s : State) (pid : Nat) : Point := tget (fun _ => nullPoint) s.points pid

/-- Replace the record of a point. -/
def setPoint (s : State) (pid : Nat) (p : Point) : State := { s with points := tput (fun _ => nullPoint) s.points pid p }

/-- The requester flask of R45 for a page, window or lock access. -/
def flaskOf (s : State) : Requester → Nat
  | .mgmt _ => 0
  | .sequencer _ => 0
  | .ladle ch => if ch.val < 16 then pageOwner s (0x11 + ch.val) else 0
  | .nrap b => bits (tget (fun _ => ({} : KeySlot)) s.slots (fld s (R.NRP_BIND b.val) F.NRP_BIND_SLOT)).attr 20 16
  | .debug => 0

/-- R46: a read is allowed. -/
def mayRead (f : Nat) (p : Point) : Bool := f == 0 || (p.alloc && (p.owner.toNat == f || p.readers.toNat.testBit f))

/-- R46: a write is allowed. -/
def mayWrite (f : Nat) (p : Point) : Bool := p.alloc && p.owner.toNat == f

/-- The codes of R42 that an allocated point can have. -/
def dtypeOk (d : Nat) : Bool := decide (1 ≤ d) && decide (d ≤ 0x0B)

/-- The normalization of R42. -/
def normalize (dtype : Byte) (v : DWord) : DWord :=
  let n := v.toNat
  let d := dtype.toNat
  if d = 1 then (if n = 0 then 0 else 1)
  else if d = 2 then BitVec.ofInt 64 (signedOf 16 n)
  else if d = 3 ∨ d = 9 then BitVec.ofInt 64 (signedOf 32 n)
  else if d = 5 ∨ d = 7 ∨ d = 0x0A then BitVec.ofNat 64 (n % 2 ^ 32)
  else if d = 0x0B then BitVec.ofNat 64 (n % 2 ^ 48)
  else v

/-- The codes a writer may set (R43). -/
def writerQuality (q : Byte) : Bool := decide (q.toNat ≤ 5) && q.toNat != 1

/-- SOURCE (R38): class in [15:12], instance in [11:0]. -/
def sourceOf (cls inst : Nat) : BitVec 16 := BitVec.ofNat 16 (cls * 4096 + inst % 4096)

/-! ## The force table -/

/-- The entry at an index (R57). -/
def forceAt (s : State) (k : Nat) : Option Force := tget (fun _ => none) s.forces k

/-- The index and entry of the force on a point, if any. -/
def forceOn (s : State) (pid : Nat) : Option (Nat × Force) :=
  s.forces.findSome? (fun (k, e) => match e with
    | some f => if f.point.toNat = pid then some (k, f) else none
    | none => none)

/-- Put or remove a force table entry. -/
def setForce (s : State) (k : Nat) (e : Option Force) : State := { s with forces := tput (fun _ => none) s.forces k e }

/-- The lowest free index of the force table. DESIGN CHOICE: assumption 10. -/
def freeForce (s : State) : Option Nat := (upTo 1024).find? (fun k => (forceAt s k).isNone)

/-- Write the force table through to the NVR (R61). -/
def saveForces (s : State) : State := { s with nvrForces := s.forces }

/-! ## Committed changes -/

/-- The module holds the active role of a pair. -/
def pairActive (s : State) : Bool := flag s R.TWN_CFG F.TWN_CFG_PAIR && fld s R.TWN_STAT F.TWN_STAT_ROLE == 2

/-- The module is in STANDBY mode (R455). -/
def onStandby (s : State) : Bool := fld s R.SYS_MODE F.SYS_MODE_MODE == 5

/-- A linked partner shows the role STANDBY: mirror frames and the point stream flow (R339, R351). -/
def mirrors (s : State) : Bool :=
  pairActive s && flag s R.TLM_STAT F.TLM_STAT_UP && (match s.twin.hb with | some h => h.role == 3 | none => false)

/-- The active streams a committed record, except a change made by a station input (R339). -/
def streamPoint (s : State) (pid : Nat) : State :=
  let p := pointAt s pid
  if mirrors s && p.source.toNat / 4096 != 5 then
    { s with twin := { s.twin with stream := some { point := BitVec.ofNat 13 pid, quality := p.quality, seq := p.seq, value := p.value, tstamp := p.tstamp } } }
  else s

/-- A change of the force table goes into the next mirror frame (R340). -/
def mirrorForce (s : State) (op k : Nat) (e : Force) : State :=
  if pairActive s then
    { s with twin := { s.twin with force := s.twin.force ++ [{ op := op, setter := e.setter, index := k, point := e.point, written := e.written
                                                               orphan := e.orphan, uQuality := e.uQuality, value := e.value, uValue := e.uValue
                                                               uTstamp := e.uTstamp, uSource := e.uSource }] } }
  else s

/-- Replace a record by a change: SEQ rises by one (R41). -/
def commitForce (s : State) (pid : Nat) (p : Point) : State := setPoint s pid { p with seq := (pointAt s pid).seq + 1 }

/-- Replace a record by a committed write, which the active of a pair streams. -/
def commitPoint (s : State) (pid : Nat) (p : Point) : State := streamPoint (commitForce s pid p) pid

/-- A write that R46 has allowed: absorbed by a force (R58), or committed normalized with its timestamp and source (R42, R44). -/
def writePoint (s : State) (pid : Nat) (v : DWord) (q : Byte) (ts : DWord) (src : BitVec 16) : State :=
  let p := pointAt s pid
  match forceOn s pid with
  | some (k, e) =>
    let e := { e with uValue := normalize p.dtype v, uTstamp := ts, uQuality := q, uSource := src, written := true }
    mirrorForce (setForce s k (some e)) 3 k e
  | none => commitPoint s pid { p with value := normalize p.dtype v, quality := q, tstamp := ts, source := src }

/-- A write on behalf of a flask, whatever the mode: checked under R46, counted as a denial on its path where it is refused (R50, R65).
The result says whether it was allowed. -/
def fieldWrite (s : State) (f path pid : Nat) (v : DWord) (q : Byte) (ts : DWord) (src : BitVec 16) : State × Bool :=
  if mayWrite f (pointAt s pid) then (writePoint s pid v q ts src, true) else (deny s f path pid, false)

/-- A local write on behalf of a flask: on a standby it is discarded and counted (R344). -/
def tryWrite (s : State) (f path pid : Nat) (v : DWord) (q : Byte) (ts : DWord) (src : BitVec 16) : State × Bool :=
  if onStandby s then (bumpSat s R.MIR_LOCALW 1, true) else fieldWrite s f path pid v q ts src

/-- A read on behalf of a flask: the record, or the null record and a counted denial (R40, R50). -/
def tryRead (s : State) (f path pid : Nat) : State × Point × Bool :=
  if mayRead f (pointAt s pid) then (s, pointAt s pid, true) else (deny s f path pid, nullPoint, false)

/-! ## Force operations (R59) -/

/-- The record under an entry (R58). -/
def forcedRecord (p : Point) (k : Nat) (v now : DWord) : Point :=
  { p with value := v, quality := 1, tstamp := now, source := sourceOf 0xB k, forced := true }

/-- A force operation refused with ACCESS_FLASK is a denial on path 7h (R59, R65). -/
def forceDenied (s : State) (f target : Nat) : State × Code := (deny s f 7 target, .accessFlask)

/-- SET point, value for requester flask `f`. -/
def forceSet (s : State) (f pid : Nat) (v : DWord) : State × Code :=
  let p := pointAt s pid
  let ent := forceOn s pid
  if f ≠ 0 ∧ !mayWrite f p then forceDenied s f pid
  else if f ≠ 0 ∧ ent.any (fun (_, e) => e.setter.toNat != f) then forceDenied s f pid
  else if !p.alloc then (s, .notInState)
  else
    let nv := normalize p.dtype v
    match ent with
    | some (k, e) =>
      let e := { e with value := nv, setter := BitVec.ofNat 5 f, written := false }
      let s := mirrorForce (setForce s k (some e)) 1 k e
      (saveForces (commitForce s pid (forcedRecord p k nv s.now)), .none)
    | none =>
      match freeForce s with
      | none => (s, .noResource)
      | some k =>
        let e : Force := { point := BitVec.ofNat 13 pid, value := nv, setter := BitVec.ofNat 5 f, orphan := false, written := false,
                           uValue := p.value, uTstamp := p.tstamp, uQuality := p.quality, uSource := p.source }
        (saveForces (commitForce (mirrorForce (setForce s k (some e)) 1 k e) pid (forcedRecord p k nv s.now)), .none)

/-- Restore the record beneath an entry and remove it. -/
def liftForce (s : State) (k : Nat) (e : Force) : State :=
  let pid := e.point.toNat
  let p := pointAt s pid
  commitForce (mirrorForce (setForce s k none) 2 k e) pid
    { p with value := e.uValue, quality := e.uQuality, tstamp := e.uTstamp, source := e.uSource, forced := false }

/-- CLEAR point for requester flask `f`. -/
def forceClear (s : State) (f pid : Nat) : State × Code :=
  let p := pointAt s pid
  if f ≠ 0 ∧ !mayWrite f p then forceDenied s f pid
  else match forceOn s pid with
    | none => (s, .notInState)
    | some (k, e) =>
      if f ≠ 0 ∧ e.setter.toNat ≠ f then forceDenied s f pid
      else (saveForces (liftForce s k e), .none)

/-- CLEAR_FLASK for requester flask `f`: every entry it set, each as CLEAR does. -/
def forceClearFlask (s : State) (f : Nat) : State :=
  saveForces (forAll (fun s (k, e) => match e with
    | some e => if e.setter.toNat = f then liftForce s k e else s
    | none => s) s.forces s)

/-- LOOKUP point for requester flask `f`: the entry found, if any. -/
def forceLookup (s : State) (f pid : Nat) : State × Code × Option (Nat × Force) :=
  if mayRead f (pointAt s pid) then (s, .none, forceOn s pid)
  else let (s, c) := forceDenied s f pid; (s, c, none)

/-- READ_INDEX index for requester flask `f`. -/
def forceReadIndex (s : State) (f k : Nat) : State × Code × Option (Nat × Force) :=
  if f = 0 then (s, .none, (forceAt s k).map (fun e => (k, e)))
  else let (s, c) := forceDenied s f k; (s, c, none)

/-- Load the result registers of the FRC page (R66). -/
def showForce (s : State) (hit : Option (Nat × Force)) : State :=
  let w (v : Nat) : Word := BitVec.ofNat 32 v
  let put (s : State) (a b c d e g : Nat) : State :=
    wr (wr (wr (wr (wr (wr s R.FRC_RESULT (w a)) (R.FRC_RVALUE 0) (w b)) (R.FRC_RVALUE 1) (w c)) (R.FRC_UVALUE 0) (w d))
      (R.FRC_UVALUE 1) (w e)) R.FRC_UINFO (w g)
  match hit with
  | none => put s 0 0 0 0 0 0
  | some (k, e) =>
    put s (2 ^ 31 + b2n e.orphan * 2 ^ 30 + b2n e.written * 2 ^ 29 + e.setter.toNat * 2 ^ 24 + k * 2 ^ 14 + e.point.toNat)
      (e.value.toNat % 2 ^ 32) (e.value.toNat / 2 ^ 32) (e.uValue.toNat % 2 ^ 32) (e.uValue.toNat / 2 ^ 32)
      (e.uSource.toNat * 2 ^ 16 + e.uQuality.toNat)

/-! ## Administration of records (R62) -/

/-- The number of allocated records, and of those a flask owns (PTD_COUNT, FLK_OWNEDn). -/
def allocated (s : State) : Nat := (s.points.filter (fun (_, p) => p.alloc)).length
def ownedBy (s : State) (f : Nat) : Nat := (s.points.filter (fun (_, p) => p.alloc && p.owner.toNat == f)).length

/-- Whether a flask exists (R63): flask 0 always. -/
def flaskEnabled (s : State) (f : Nat) : Bool := f == 0 || flag s (R.FLK_CFG f) F.FLK_CFG_EN

/-- The checks that ALLOC and UPDATE share: a listed data type, an enabled owner, room in the owner's quota. -/
def attrCheck (s : State) (owner dtype : Nat) (grows : Bool) : Code :=
  if !dtypeOk dtype || !flaskEnabled s owner then .illegalValue
  else if grows && decide (fld s (R.FLK_CFG owner) F.FLK_CFG_QUOTA ≤ ownedBy s owner) then .noResource
  else .none

/-- ALLOC. -/
def ptdAlloc (s : State) (pid owner dtype : Nat) (readers : Word) : State × Code :=
  if (pointAt s pid).alloc then (s, .notInState)
  else match attrCheck s owner dtype true with
    | .none => (setPoint s pid { readers := readers, dtype := BitVec.ofNat 8 dtype, owner := BitVec.ofNat 5 owner, alloc := true, tstamp := s.now }, .none)
    | c => (s, c)

/-- FREE. -/
def ptdFree (s : State) (pid : Nat) : State × Code :=
  let p := pointAt s pid
  if !p.alloc || p.forced then (s, .notInState) else (setPoint s pid nullPoint, .none)

/-- UPDATE. -/
def ptdUpdate (s : State) (pid owner dtype : Nat) (readers : Word) : State × Code :=
  let p := pointAt s pid
  if !p.alloc || (p.forced && (p.owner.toNat != owner || p.dtype.toNat != dtype)) then (s, .notInState)
  else match attrCheck s owner dtype (p.owner.toNat != owner) with
    | .none => (setPoint s pid { p with readers := readers, dtype := BitVec.ofNat 8 dtype, owner := BitVec.ofNat 5 owner }, .none)
    | c => (s, c)

/-- One PTD_CMD operation on the selected point, with the page's attributes; PTD_ATTR shows ALLOC as of the command. -/
def ptdCommand (s : State) (op : Nat) : State × Code :=
  let pid := fld s R.PTD_SEL F.PTD_SEL_POINT
  let owner := fld s R.PTD_ATTR F.PTD_ATTR_OWNER
  let dtype := fld s R.PTD_ATTR F.PTD_ATTR_DTYPE
  let readers := rd s R.PTD_READERS
  let show1 (r : State × Code) : State × Code :=
    if r.2 = .none then (setFld r.1 R.PTD_ATTR F.PTD_ATTR_ALLOC (b2n (pointAt r.1 pid).alloc), .none) else r
  if op = 1 then show1 (ptdAlloc s pid owner dtype readers)
  else if op = 2 then show1 (ptdFree s pid)
  else if op = 3 then
    let p := pointAt s pid
    (wr (wr s R.PTD_ATTR (BitVec.ofNat 32 (b2n p.alloc * 2 ^ 31 + p.owner.toNat * 2 ^ 16 + p.dtype.toNat * 2 ^ 8))) R.PTD_READERS p.readers, .none)
  else if op = 4 then show1 (ptdUpdate s pid owner dtype readers)
  else (s, .illegalValue)

/-! ## Records as bytes and words -/

/-- The eight words of a record (R38). -/
def recordWords (p : Point) : List Word :=
  let lo (v : DWord) : Word := v.setWidth 32
  let hi (v : DWord) : Word := (v >>> 32).setWidth 32
  [lo p.value, hi p.value, lo p.tstamp, hi p.tstamp, p.readers,
   BitVec.ofNat 32 (p.quality.toNat + p.dtype.toNat * 2 ^ 8 + p.owner.toNat * 2 ^ 16 + (b2n p.forced * 2 + b2n p.alloc) * 2 ^ 24),
   BitVec.ofNat 32 (p.source.toNat + p.seq.toNat * 2 ^ 16), 0]

/-- An input image entry of a record (R77). -/
def imageEntry (p : Point) : List Byte :=
  leBytes 8 p.value.toNat ++ leBytes 4 p.tstamp.toNat ++ [p.quality, p.dtype] ++ leBytes 2 p.seq.toNat

/-! ## The window (R53 to R55) -/

/-- The denial path and the SOURCE of a window requester (R44, R65). -/
def windowPath : Requester → Nat
  | .ladle _ => 8
  | _ => 0xA
def windowSource : Requester → BitVec 16
  | .ladle ch => sourceOf 7 ch.val
  | .debug => sourceOf 0xA 0
  | _ => sourceOf 8 0

/-- A read of a word of a record (R54): word 0 applies R46 and captures the record; the others return the copy. -/
def windowRead (s : State) (q : Requester) (pid : BitVec 13) (word : Nat) : State :=
  if word = 0 then
    let (s, p, ok) := tryRead s (flaskOf s q) (windowPath q) pid.toNat
    { s with winHolds := { who := q, point := pid, copy := p } :: s.winHolds.filter (fun h => h.who != q)
             answer := { denied := !ok, words := [(recordWords p).getD 0 0] } }
  else
    let p := match s.winHolds.find? (fun h => h.who == q && h.point == pid) with | some h => h.copy | none => nullPoint
    { s with answer := { words := [(recordWords p).getD word 0] } }

/-- The stage that a write to a record finds: the one held, or an empty one for this record (R55). -/
def windowStage (s : State) (q : Requester) (pid : BitVec 13) : WinStage :=
  match s.winStages.find? (fun h => h.who == q && h.point == pid) with
  | some h => h
  | none => { who := q, point := pid, low := none, quality := none }

/-- Replace a requester's stage. -/
def setStage (s : State) (q : Requester) (st : Option WinStage) : State :=
  { s with winStages := (match st with | some st => [st] | none => []) ++ s.winStages.filter (fun h => h.who != q) }

/-- A write of a word of a record (R55). -/
def windowWrite (s : State) (q : Requester) (pid : BitVec 13) (word : Nat) (v : Word) : State :=
  let s := { s with answer := {} }
  if word = 0 then setStage s q (some { windowStage s q pid with low := some v })
  else if word = 5 then
    let b : Byte := v.setWidth 8
    if writerQuality b then setStage s q (some { windowStage s q pid with quality := some b }) else s
  else if word = 1 then
    let st := windowStage s q pid
    let val : DWord := v ++ (st.low.getD 0)
    let (s, ok) := tryWrite s (flaskOf s q) (windowPath q) pid.toNat val (st.quality.getD 0) s.now (windowSource q)
    { setStage s q none with answer := { denied := !ok } }
  else s

/-! ## Page access (R24, R296) -/

/-- Whether R24 lets a flask reach an offset of a page. R296 keeps offsets 040h–04Bh and 180h–1FFh of an SPU page to flask 0. -/
def pageAllowed (s : State) (f page off : Nat) : Bool :=
  f == 0 || (tenantPage page && pageOwner s page == f &&
    !(pageIn page 0x61 0x70 && (pageIn off 0x40 0x4B || pageIn off 0x180 0x1FF)))

/-- The debug port without an open session reaches only offsets 040h to 1FFh of the DBG page (R412). -/
def debugBarred (s : State) (q : Requester) (page off : Nat) : Bool :=
  q == .debug && !flag s R.DBG_STAT F.DBG_STAT_SESSION && !(page == 0xA0 && pageIn off 0x40 0x1FF)

/-- An access outside the register pages, or one to a lock: served but in BACKUP, and by the debug port only in a session (R412, R455). -/
def served (s : State) (q : Requester) (k : State → State) : State :=
  if fld s R.SYS_MODE F.SYS_MODE_MODE = 0 then { s with answer := { busError := true } }
  else if q == .debug && !flag s R.DBG_STAT F.DBG_STAT_SESSION then { s with answer := { words := [0] } }
  else k s

/-- Run an access that R24 allows; a denied one has no effect on the page, is counted on path 9h and is answered ACCESS_FLASK. In BACKUP
nothing but PD0 runs and no access is served (R455). -/
def gated (s : State) (q : Requester) (page off : Nat) (k : State → State) : State :=
  let f := flaskOf s q
  if fld s R.SYS_MODE F.SYS_MODE_MODE = 0 then { s with answer := { busError := true } }
  else if debugBarred s q page off then { s with answer := { words := [0] } }
  else if pageAllowed s f page off then k s
  else { deny s f 9 page with answer := { code := .accessFlask, denied := true, words := [0] } }

/-- End a page command: answered with NONE, or rejected at its offset with its code (R28). -/
def endCommand (page off : Nat) (r : State × Code) : State :=
  if r.2 = .none then answer r.1 .none else rejectWrite r.1 page off r.2

end Sys2Proof.Machine
end

