-- ==== Sys2Proof/Machine/Scan.lean ====
section
/-! DEFINITION. The cyclic scan (03_scan_execution.md): releases, dispatch, the latch, the write-back, the retention copy and the
end step, causes, cut-offs and the power-fail save. -/

namespace Sys2Proof.Machine

/-! ## Access to tasks, moulds and time -/

/-- Time moves on to an instant that has not been reached yet (an event falls due). -/
def advanceTo (s : State) (t : DWord) : State := if s.now < t then { s with now := t } else s

def taskAt (s : State) (t : Nat) : TaskState := tget (fun _ => {}) s.scan.tasks t
def setTask (s : State) (t : Nat) (x : TaskState) : State :=
  { s with scan := { s.scan with tasks := tput (fun _ => {}) s.scan.tasks t x } }
def mouldOf (s : State) (f : Nat) : Option Mould := tget (fun _ => none) s.moulds f

/-- The task states of SCN_TSTAT. -/
def tsDISABLED : Nat := 0
def tsIDLE : Nat := 1
def tsRELEASED : Nat := 2
def tsRUNNING : Nat := 3
def tsPREEMPTED : Nat := 4
def tsHALTED : Nat := 5
def tsSUSPENDED : Nat := 6

def taskStateOf (s : State) (t : Nat) : Nat := fld s (R.SCN_TSTAT t) F.SCN_TSTAT_STATE
def setTaskState (s : State) (t st : Nat) : State := setFld s (R.SCN_TSTAT t) F.SCN_TSTAT_STATE st
def taskFlask (s : State) (t : Nat) : Nat := fld s (R.SCN_TCFG t) F.SCN_TCFG_FLASK
def taskCore (s : State) (t : Nat) : Nat := fld s (R.SCN_TCFG t) F.SCN_TCFG_CORE
def taskTrig (s : State) (t : Nat) : Nat := fld s (R.SCN_TCFG t) F.SCN_TCFG_TRIG
def taskPrio (s : State) (t : Nat) : Nat := fld s (R.SCN_TCFG t) F.SCN_TCFG_PRIO
def taskEnabled (s : State) (t : Nat) : Bool := flag s (R.SCN_TCFG t) F.SCN_TCFG_EN
def taskPeriod (s : State) (t : Nat) : Nat := fld s (R.SCN_TPER t) F.SCN_TPER_PERIOD

/-- The mould task entry that a task runs (R146). -/
def taskEntry (s : State) (t : Nat) : Option (Mould × TaskEnt) :=
  match mouldOf s (taskFlask s t) with
  | some m => (m.tasks[fld s (R.SCN_TSRC t) F.SCN_TSRC_MOULD_TASK]?).map (fun e => (m, e))
  | none => none

/-- The major mode (R455). -/
def modeNow (s : State) : Nat := fld s R.SYS_MODE F.SYS_MODE_MODE
def mdBOOT : Nat := 1
def mdRECOVERY : Nat := 2
def mdCOMMISSION : Nat := 3
def mdACTIVE : Nat := 4
def mdSTANDBY : Nat := 5
def mdSAFE : Nat := 6
def mdDOZE : Nat := 7

/-- A pending mode request is discarded: DISC and PG_ISR bit 1 of the SYS page (R458). -/
def discardRequest (s : State) : State :=
  if flag s R.SYS_MODE F.SYS_MODE_PEND then
    let s := setFld (setFld s R.SYS_MODE F.SYS_MODE_PEND 0) R.SYS_MODE F.SYS_MODE_REQ 0
    raiseBit (setFld s R.SYS_MODE F.SYS_MODE_DISC 1) 0x00 1
  else s

/-- Whether a page's function is ON (R31). -/
def pageOn (s : State) (page : Nat) : Bool := fld s (R.PG_STATE page) F.PG_STATE == 2

/-- Whether the mode, the core and the power-fail save let a task be released (R88, R94, R101). -/
def mayRelease (s : State) (t : Nat) : Bool :=
  let md := modeNow s
  !s.scan.pfw && pageOn s (0x39 + taskCore s t) &&
  (md == mdCOMMISSION || md == mdACTIVE || md == mdSTANDBY || (md == mdDOZE && flag s (R.SCN_TCFG t) F.SCN_TCFG_DOZE_RUN))

/-- The Recast state of XCH_STATUS and the flask it serves (R152). -/
def xchState (s : State) : Nat := fld s R.XCH_STATUS F.XCH_STATUS_STATE
def xchFlask (s : State) : Nat := fld s R.XCH_STATUS F.XCH_STATUS_FLASK

/-- From the exchange tick to the switch, no task of the flask is dispatched (R160). -/
def migrating (s : State) (f : Nat) : Bool := xchState s == 4 && xchFlask s == f

/-- The module acts as the active of the plant or alone: it commits what its scan produces (R101). -/
def shadowing (s : State) : Bool := modeNow s == mdSTANDBY

/-! ## Causes (R96, R98) -/

def causeQueue (s : State) (f : Nat) : CauseQueue := tget (fun _ => {}) s.scan.causes f
def setCauseQueue (s : State) (f : Nat) (q : CauseQueue) : State :=
  { s with scan := { s.scan with causes := tput (fun _ => {}) s.scan.causes f q } }

/-- Why a cause cannot be posted (R98): the REASON code, 0 when it can. -/
def undelivered (s : State) (f task : Nat) : Nat :=
  let e := fld s (R.FLK_CFG f) F.FLK_CFG_ERR_TASK
  if e = 0x7F then 1
  else if taskFlask s e ≠ f then 2
  else if task = e then 3
  else if taskStateOf s e = tsDISABLED ∨ taskStateOf s e = tsHALTED then 4
  else if taskTrig s e ≠ 2 then 5
  else 0

/-- Post a cause record to a flask (R96), or record it in SCC_UCAUSE (R98). Task 255 stands for no task. -/
def postCause (s : State) (f code task : Nat) (detail : Word) : State :=
  let s := if task < 64 then setFld s (R.SCN_TSTAT task) F.SCN_TSTAT_LAST_CAUSE code else s
  let why := undelivered s f task
  if why = 0 then
    let q := causeQueue s f
    if q.records.length < 16 then
      setCauseQueue s f { q with records := q.records ++ [{ code := code, task := task, detail := detail, time := s.now }] }
    else setCauseQueue s f { q with lost := q.lost + 1 }
  else
    let c := if task < 64 then taskCore s task else 0
    let s := if flag s (R.SCC_UCAUSE c) F.SCC_UCAUSE_VALID then setFld s (R.SCC_UCAUSE c) F.SCC_UCAUSE_OVF 1
      else
        let w := 2 ^ 31 + code * 2 ^ 16 + (if task < 64 then task * 2 ^ 8 else 2 ^ 14) + why
        wr (wr s (R.SCC_UCAUSE c) (BitVec.ofNat 32 w)) (R.SCC_UDETAIL c) detail
    raiseBit s (0x39 + c) 0

/-! ## Releases (R71 to R73, R84) -/

/-- PERIOD units have passed since a task's previous release (R72, R73). -/
def intervalPassed (s : State) (t : Nat) : Bool :=
  match (taskAt s t).lastRel with
  | none => true
  | some r => decide (r.toNat + taskPeriod s t * 25000 ≤ s.now.toNat)

/-- Show PEND of an EVENT task: a release is pending (SCN_TSTAT). -/
def showPend (s : State) (t : Nat) : State :=
  if taskTrig s t = 1 then
    setFld s (R.SCN_TSTAT t) F.SCN_TSTAT_PEND (b2n ((taskAt s t).held || taskStateOf s t == tsRELEASED))
  else s

/-- Take a release at a time. -/
def takeRelease (s : State) (t : Nat) (at_ : DWord) : State :=
  let x := taskAt s t
  let s := setTask s t { x with relAt := at_, relOrder := s.scan.relCount, lastRel := some at_, held := false }
  let s := { s with scan := { s.scan with relCount := s.scan.relCount + 1 } }
  showPend (setTaskState s t tsRELEASED) t

/-- A dropped release (R84): DROPPED counts it, and so does the run in progress unless the drop is R160's. -/
def dropRelease (s : State) (t : Nat) (inRun : Bool) : State :=
  let s := bumpFld s (R.SCN_TOVR t) F.SCN_TOVR_DROPPED 1
  let x := taskAt s t
  let s := match x.run with
    | some r => if inRun then setTask s t { x with run := some { r with drops := r.drops + 1 } } else s
    | none => s
  raiseBit s 0x38 0

/-- A grid point releases a CYCLIC task whose period and phase match (R71, R84, R160). -/
def cyclicRelease (k : Nat) (s : State) (t : Nat) : State :=
  let st := taskStateOf s t
  let per := taskPeriod s t
  if taskEnabled s t && taskTrig s t == 0 && mayRelease s t && per != 0 && st != tsHALTED && st != tsDISABLED &&
     k % per == fld s (R.SCN_TPER t) F.SCN_TPER_PHASE then
    if migrating s (taskFlask s t) then
      if (taskAt s t).heldExchange.isNone then
        let s := takeRelease s t s.now
        setTask s t { taskAt s t with heldExchange := some s.now }
      else dropRelease s t false
    else if st = tsIDLE then takeRelease s t s.now
    else dropRelease s t true
  else s

/-- An event of R68 reaches an EVENT task (R72): it releases the task, is held until the interval has passed, or merges. -/
def eventArrives (s : State) (t : Nat) : State :=
  let st := taskStateOf s t
  let x := taskAt s t
  if !(taskEnabled s t && taskTrig s t == 1 && mayRelease s t) || st == tsHALTED || st == tsDISABLED then s
  else if st = tsIDLE ∧ !x.held then
    if intervalPassed s t then takeRelease s t s.now else showPend (setTask s t { x with held := true }) t
  else
    let s := bumpFld s (R.SCN_TOVR t) F.SCN_TOVR_COALESCED 1
    if st = tsRUNNING ∨ st = tsPREEMPTED then showPend (setTask s t { x with held := true }) t else s

/-- An event source of SCN_TSRC reaches every EVENT task that names it. -/
def eventSource (s : State) (src : Nat) : State :=
  forAll (fun s t => if fld s (R.SCN_TSRC t) F.SCN_TSRC_EVENT = src then eventArrives s t else s) (upTo 64) s

/-- A task that is not DISABLED, HALTED or in a run becomes SUSPENDED when it may not be released, its release withdrawn (R88), and IDLE again when it may. -/
def refreshTask (s : State) (t : Nat) : State :=
  let st := taskStateOf s t
  if st = tsIDLE ∨ st = tsRELEASED ∨ st = tsSUSPENDED then
    if mayRelease s t then (if st = tsSUSPENDED then setTaskState s t tsIDLE else s)
    else showPend (setTask (setTaskState s t tsSUSPENDED) t { taskAt s t with held := false, heldExchange := none }) t
  else s

/-- Refresh every task after a change of mode, of a core's state or of the power-fail save. -/
def refreshTasks (s : State) : State := forAll refreshTask (upTo 64) s

/-! ## Dispatch (R74, R75, R97, R107) -/

def curTask (s : State) (c : Nat) : Nat := fld s (R.SCC_STATUS c) F.SCC_STATUS_CUR_TASK
def setCurTask (s : State) (c t : Nat) : State := setFld s (R.SCC_STATUS c) F.SCC_STATUS_CUR_TASK t

/-- Whether task `a` runs before task `b` (R74): lower PRIO, then earlier release, then lower number at the same time. -/
def before (s : State) (a b : Nat) : Bool :=
  let pa := taskPrio s a
  let pb := taskPrio s b
  let ra := (taskAt s a).relAt
  let rb := (taskAt s b).relAt
  decide (pa < pb) || (pa == pb && (decide (ra < rb) || (ra == rb && decide (a < b))))

/-- The tasks of a core that wait to run: released ones that may be dispatched, and preempted runs. -/
def waiting (s : State) (c : Nat) : List Nat :=
  (upTo 64).filter (fun t => taskCore s t == c &&
    ((taskStateOf s t == tsRELEASED && !migrating s (taskFlask s t)) || taskStateOf s t == tsPREEMPTED))

/-- The first of them under R74. -/
def firstReady (s : State) (c : Nat) : Option Nat :=
  (waiting s c).foldl (fun b t => match b with
    | none => some t
    | some u => if before s t u then some t else some u) none

/-- A released task of lower PRIO value preempts the running task in its program step (R74, R75). -/
def preempt (s : State) (c : Nat) : State :=
  let cur := curTask s c
  if cur = 0x7F then s
  else match (taskAt s cur).run with
    | some r =>
      if r.step = .program ∧ !r.stopped ∧
         (waiting s c).any (fun t => taskStateOf s t == tsRELEASED && decide (taskPrio s t < taskPrio s cur)) then
        setCurTask (setTaskState s cur tsPREEMPTED) c 0x7F
      else s
    | none => s

/-- The work registers w1 to w4 of an ERROR task (R97). -/
def causeBank (b : Bank) (c : Cause) (lost : Nat) : Bank :=
  let put (w : Table Word) (k v : Nat) : Table Word := tput (fun _ => 0) w k (BitVec.ofNat 32 v)
  { b with w := put (put (put (put b.w 1 (c.code * 2 ^ 24 + c.task * 2 ^ 16 + min lost 0xFFFF)) 2 c.detail.toNat)
      3 (c.time.toNat % 2 ^ 32)) 4 (c.time.toNat / 2 ^ 32) }

/-- Dispatch a released task: a fresh bank (R107), the cause record of an ERROR task (R97), and the latch next. -/
def startRun (s : State) (c t : Nat) : State :=
  let x := taskAt s t
  let f := taskFlask s t
  let (pc, ib) : Word × Word := match taskEntry s t with
    | some (m, e) => (BitVec.ofNat 32 (m.codeAt + e.entry), BitVec.ofNat 32 (m.dataAt + e.progInst))
    | none => (0, 0)
  let b : Bank := { pc := pc, ib := ib, tbHi := x.bank.tbHi }
  let (s, b) : State × Bank :=
    if taskTrig s t = 2 then
      let q := causeQueue s f
      match q.records with
      | c :: r => (setCauseQueue s f { records := r, lost := 0 }, causeBank b c q.lost)
      | [] => (s, b)
    else (s, b)
  let s := setTask s t { x with bank := b, run := some { step := .latch, release := x.relAt, execNs := 300 }, lostRetain := false }
  let s := showPend (setCurTask (setTaskState s t tsRUNNING) c t) t
  if x.lostRetain then postCause s f 8 t 0 else s

/-- TASK_DISPATCH: the core takes its first ready task when that is a released one; a running task of greater PRIO value is preempted first. -/
def dispatchCore (s : State) (c : Nat) : State :=
  if !pageOn s (0x39 + c) then s
  else
    let s := preempt s c
    if curTask s c = 0x7F then
      match firstReady s c with
      | some t => if taskStateOf s t = tsRELEASED then startRun s c t else s
      | none => s
    else s

/-- RUN_RESUME: an idle core whose first ready task is a preempted run resumes it; the resume costs 0.2 µs (R82, R83). -/
def resumeCore (s : State) (c : Nat) : State :=
  if curTask s c = 0x7F then
    match firstReady s c with
    | some t =>
      if taskStateOf s t = tsPREEMPTED then
        let x := taskAt s t
        let s := setTask s t { x with run := x.run.map (fun r => { r with execNs := r.execNs + 200 }) }
        setCurTask (setTaskState s t tsRUNNING) c t
      else s
    | none => s
  else s

/-! ## Granules and the mirror (R111, R340, R345, R346) -/

/-- FLAGS of R127. -/
def instRetain (e : InstEnt) : Bool := e.flags % 2 == 1
def instMirror (e : InstEnt) : Bool := (e.flags / 2) % 2 == 1

/-- The instance that an address of the data region lies in. -/
def instAt (m : Mould) (a : Nat) : Option InstEnt :=
  m.insts.find? (fun e => decide (m.dataAt + e.offset ≤ a) && decide (a < m.dataAt + e.offset + e.size))

/-- The bytes `a` to `b` of a granule touch a RETAIN or MIRROR instance. -/
def tracked (m : Mould) (a b : Nat) : Bool :=
  (instAt m a).any (fun e => instRetain e || instMirror e) || (instAt m b).any (fun e => instRetain e || instMirror e)

/-- Mark the granules of RETAIN and MIRROR instances that a write of `n` bytes touches (R111, R340). -/
def markDirty (m : Mould) (dirty : List Nat) (a n : Nat) : List Nat :=
  let gs := (upTo ((a + n - 1) / 32 - a / 32 + 1)).map (fun i => (a / 32 + i) * 32)
  forAll (fun d g => if tracked m (max a g) (min (a + n - 1) (g + 31)) && !d.contains g then d ++ [g] else d) gs dirty

/-- The granules of a run that lie in RETAIN instances. -/
def retained (m : Mould) (dirty : List Nat) : List Nat := dirty.filter (fun g => (instAt m g).any instRetain)

/-- A run is hashed (R346): its task is CYCLIC and the module one of a pair. MIR_FLASKS applies where a frame is cut. -/
def hashed (s : State) (t : Nat) : Bool := flag s R.TWN_CFG F.TWN_CFG_PAIR && taskTrig s t == 0

/-- The GRAN items of a run (R340). -/
def granItems (s : State) (t : Nat) (m : Mould) (r : Run) : List GranItem :=
  r.dirty.map (fun g => { flask := taskFlask s t, task := t, retain := (instAt m g).any instRetain, mirror := (instAt m g).any instMirror
                          off := g - m.dataAt, rel := r.release, data := bytesAt s g 32 })

/-- A granule of the active is applied to the standby's data region, and a RETAIN granule goes to the standby's own staging buffer
(R344, R345). -/
def applyGran (s : State) (x : GranItem) : State :=
  match mouldOf s x.flask with
  | some m =>
    let a := m.dataAt + x.off
    let s := putBytes s a x.data
    match instAt m a with
    | some e =>
      if x.retain then
        { s with scan := { s.scan with batches := s.scan.batches ++
            [{ flask := x.flask, task := x.task, run := rd s (R.SCN_TRUNS x.task)
               granules := [{ key := e.key, offset := a - (m.dataAt + e.offset), bytes := x.data }] }] } }
      else s
    | none => s
  | none => s

/-- The tags of the granules that a shadow run of a CYCLIC task wrote (R345). -/
def tagRun (s : State) (t : Nat) (r : Run) : State :=
  if taskTrig s t = 0 then
    { s with twin := { s.twin with tags := forAll (fun w g => tput (fun _ => 0) w (g / 32) r.release) r.dirty s.twin.tags } }
  else s

/-- Two run records of one run: the same task and release. -/
def sameRun (x y : RunItem) : Bool := x.task == y.task && x.rel == y.rel

/-- The pairs of a list that are at most 100 ms old (R346). -/
def recentRuns (s : State) (l : List (DWord × RunItem)) : List (DWord × RunItem) :=
  l.filter (fun x => decide (s.now.toNat ≤ x.1.toNat + 10000000))

/-- Take a shadow run against the active's record (R346). Nothing is compared while the flask is being resynchronized (R347). -/
def compareRuns (s : State) (own active : RunItem) : State :=
  let f := active.flask
  if (rd s R.MIR_RESYNC).getLsbD f then s
  else if own.ihash ≠ active.ihash then { s with twin := { s.twin with shIncomp := s.twin.shIncomp + 1 } }
  else if own.ohash = active.ohash ∧ own.cut = active.cut then { s with twin := { s.twin with shCompared := s.twin.shCompared + 1 } }
  else
    let last := BitVec.ofNat 32 (f * 2 ^ 24 + active.task * 2 ^ 16 + active.rel.toNat % 2 ^ 16)
    let s := { s with twin := { s.twin with shMismatch := s.twin.shMismatch + 1, shLast := last, flagsNow := s.twin.flagsNow ||| 4 } }
    let s := wr s R.MIR_RESYNC (rd s R.MIR_RESYNC ||| BitVec.ofNat 32 (2 ^ f))
    raiseBit s 0x89 1

/-- A shadow run of a CYCLIC task has ended: it is compared with the record that has come for it, or waits for one. -/
def shadowEnded (s : State) (x : RunItem) : State :=
  let recs := recentRuns s s.twin.records
  match recs.find? (fun y => sameRun y.2 x) with
  | some y => compareRuns { s with twin := { s.twin with records := recs.filter (fun z => !sameRun z.2 x) } } x y.2
  | none => { s with twin := { s.twin with records := recs, shadow := recentRuns s s.twin.shadow ++ [(s.now, x)] } }

/-- A run record of a CYCLIC task has come from the active: it is compared with the shadow run, or waits for one. -/
def recordCame (s : State) (x : RunItem) : State :=
  let own := recentRuns s s.twin.shadow
  match own.find? (fun y => sameRun y.2 x) with
  | some y => compareRuns { s with twin := { s.twin with shadow := own.filter (fun z => !sameRun z.2 x) } } y.2 x
  | none => { s with twin := { s.twin with shadow := own, records := recentRuns s s.twin.records ++ [(s.now, x)] } }

/-- A run has ended or has been cut off: the active of a pair queues its run record and granules for the next mirror frame; a standby
compares its own record, tags its granules and applies the granules held for the task (R340, R345, R346). -/
def mirrorRun (s : State) (t : Nat) (r : Run) (cut : Bool) : State :=
  let f := taskFlask s t
  let item : RunItem := { task := t, flask := f, cut := cut, cyclic := taskTrig s t == 0, rel := r.release, ihash := r.ihash
                          ohash := if cut then 0 else r.ohash }
  if pairActive s then
    let gs := match mouldOf s f with
      | some m => granItems s t m r
      | none => []
    { s with twin := { s.twin with runs := s.twin.runs ++ [item], grans := s.twin.grans ++ gs } }
  else if shadowing s then
    let s := tagRun s t r
    let s := if hashed s t then shadowEnded s item else s
    let mine := s.twin.heldGrans.filter (fun x => x.task == t)
    let s := { s with twin := { s.twin with heldGrans := s.twin.heldGrans.filter (fun x => x.task != t) } }
    forAll applyGran mine s
  else s

/-! ## Ends of runs (R85, R86) -/

/-- A task goes to HALTED: EN is cleared and PG_ISR bit 1 set. -/
def haltTask (s : State) (t : Nat) : State :=
  raiseBit (setFld (setTaskState s t tsHALTED) (R.SCN_TCFG t) F.SCN_TCFG_EN 0) 0x38 1

/-- The state a task takes when its run has gone: DISABLED when EN is 0, else IDLE or SUSPENDED; a held event may release it. -/
def leaveRun (s : State) (t : Nat) : State :=
  if !taskEnabled s t then setTaskState s t tsDISABLED
  else
    let s := refreshTask (setTaskState s t tsIDLE) t
    let x := taskAt s t
    if x.held && taskStateOf s t == tsIDLE && intervalPassed s t then takeRelease s t s.now else showPend s t

/-- The core is free of a task's run; its busy time is added. -/
def freeCore (s : State) (t : Nat) (ns : Nat) : State :=
  let c := taskCore s t
  let s := { s with scan := { s.scan with busyNs := tput (fun _ => 0) s.scan.busyNs c (tget (fun _ => 0) s.scan.busyNs c + ns) } }
  if curTask s c = t then setCurTask s c 0x7F else s

/-- Cut a run off (R86): nothing of it is committed, the cause is posted, and TRAP_ACT decides whether the task halts. -/
def cutOff (s : State) (t code : Nat) (detail : Word) : State :=
  let x := taskAt s t
  let ns := match x.run with | some r => r.execNs | none => 0
  let s := match x.run with | some r => mirrorRun s t r true | none => s
  let s := freeCore (setTask s t { x with run := none }) t ns
  let s := postCause s (taskFlask s t) code t detail
  if flag s (R.SCN_TCFG t) F.SCN_TCFG_TRAP_ACT then showPend (haltTask (setTask s t { taskAt s t with held := false }) t) t
  else leaveRun s t

/-- Abandon a run without a cause (R94, R178). -/
def abandonRun (s : State) (t : Nat) : State :=
  let x := taskAt s t
  let ns := match x.run with | some r => r.execNs | none => 0
  leaveRun (freeCore (setTask s t { x with run := none }) t ns) t

/-- The execution time of a run has reached a non-zero WDOG_US (R86). -/
def watchdogHit (s : State) (t : Nat) (r : Run) : Bool :=
  let w := fld s (R.SCN_TBUD t) F.SCN_TBUD_WDOG_US
  w != 0 && decide (w * 1000 ≤ r.execNs)

/-- Cut off with WATCHDOG (R96: DETAIL is WDOG_US). -/
def watchdogCut (s : State) (t : Nat) : State :=
  cutOff s t 3 (BitVec.ofNat 32 (fld s (R.SCN_TBUD t) F.SCN_TBUD_WDOG_US))

/-- Whole microseconds, rounded up, saturating in 16 bits (R83). -/
def usUp (ns : Nat) : Nat := min 0xFFFF ((ns + 999) / 1000)

/-- The end step (R85, R51): counters, status and the run's cause records. -/
def runEnd (s : State) (t : Nat) (r : Run) : State :=
  let f := taskFlask s t
  let s := mirrorRun s t r false
  let s := bump s (R.SCN_TRUNS t) 1
  let us := usUp r.execNs
  let s := setFld s (R.SCN_TTIME t) F.SCN_TTIME_LAST_US us
  let s := setFld s (R.SCN_TTIME t) F.SCN_TTIME_MAX_US (max us (fld s (R.SCN_TTIME t) F.SCN_TTIME_MAX_US))
  let s := freeCore (setTask s t { taskAt s t with run := none, prevDone := some r.release }) t r.execNs
  let consec := if r.drops = 0 then 0 else satAdd 8 (fld s (R.SCN_TSTAT t) F.SCN_TSTAT_CONSEC) 1
  let s := setFld s (R.SCN_TSTAT t) F.SCN_TSTAT_CONSEC consec
  let lim := fld s (R.SCN_TBUD t) F.SCN_TBUD_OVR_LIMIT
  let halt := r.drops != 0 && lim != 0 && decide (lim ≤ consec)
  let s := if r.drops = 0 then s else postCause s f (if halt then 2 else 1) t (BitVec.ofNat 32 r.drops)
  let s := if r.denials = 0 then s else postCause s f 5 t (BitVec.ofNat 32 (r.firstDenied * 2 ^ 16 + min r.denials 0xFFFF))
  if halt then showPend (haltTask (setTask s t { taskAt s t with held := false }) t) t else leaveRun s t

/-! ## Latch and write-back (R76 to R80) -/

/-- Raise SCC_WAIT to a longer image-port wait, in units of 10 ns. -/
def noteWait (s : State) (c waitNs : Nat) : State :=
  setFld s (R.SCC_WAIT c) F.SCC_WAIT_WAIT_MAX (max (fld s (R.SCC_WAIT c) F.SCC_WAIT_WAIT_MAX) (min 0xFFFF (waitNs / 10)))

/-- Count a denial met by a run (R51). -/
def runDenied (r : Run) (pid : Nat) : Run :=
  { r with denials := r.denials + 1, firstDenied := if r.denials = 0 then pid else r.firstDenied }

/-- Read one input image entry into the flask's memory (R77). -/
def latchEntry (f base : Nat) (a : State × Run × Nat) (pid : Nat) : State × Run × Nat :=
  let (s, r, i) := a
  let (s, p, ok) := tryRead s f 0 pid
  (putBytes s (base + 16 * i) (imageEntry p), if ok then r else runDenied r pid, i + 1)

/-- What IHASH covers of the input image, and OHASH of the output image and the deferred writes (R346). -/
def inputHash (s : State) (base n : Nat) : DWord :=
  crc64 ((upTo n).flatMap (fun i => bytesAt s (base + 16 * i) 8 ++ bytesAt s (base + 16 * i + 12) 4))
def outputHash (s : State) (base n : Nat) (ds : List DeferredWrite) : DWord :=
  crc64 ((upTo n).flatMap (fun i => bytesAt s (base + 32 * i) 10) ++
    ds.flatMap (fun d => leBytes 2 d.point ++ leBytes 8 d.value.toNat ++ [d.quality]))

/-- INPUT_LATCH of a task's run. -/
def latchRun (s : State) (t waitNs : Nat) : State :=
  match (taskAt s t).run, taskEntry s t with
  | some r, some (m, e) =>
    if taskStateOf s t = tsRUNNING ∧ r.step = .latch then
      let s := noteWait s (taskCore s t) waitNs
      let (s, r, n) := e.inTbl.foldl (latchEntry (taskFlask s t) (m.dataAt + e.inImg)) (s, r, 0)
      let r := { r with step := .program, execNs := r.execNs + waitNs + 100 + 4 * n
                        ihash := if hashed s t then inputHash s (m.dataAt + e.inImg) e.inTbl.length else 0 }
      let s := setTask s t { taskAt s t with run := some r }
      if watchdogHit s t r then watchdogCut s t else s
    else s
  | _, _ => s

/-- Process one output image entry (R79). `live` is false on a standby, whose write-back commits nothing (R101) and counts the writes it
discards (R344). -/
def writeEntry (f base : Nat) (ts : DWord) (src : BitVec 16) (live : Bool) (a : State × Run × Nat) (en : Nat × Bool) : State × Run × Nat :=
  let (s, r, i) := a
  let at_ := base + 32 * i
  let v := loadN s at_ 8
  let q0 := byteAt s (at_ + 8)
  let q : Byte := if writerQuality q0 then q0 else 0
  let hold := (byteAt s (at_ + 9)).getLsbD 0
  let same := en.2 && byteAt s (at_ + 0x19) == 1 && loadN s (at_ + 0x10) 8 == v && byteAt s (at_ + 0x18) == q
  if hold || same then (s, r, i + 1)
  else if !live then (bumpSat s R.MIR_LOCALW 1, r, i + 1)
  else
    let (s, ok) := tryWrite s f 1 en.1 (BitVec.ofNat 64 v) q ts src
    if ok then (putBytes s (at_ + 0x10) (leBytes 8 v ++ [q, 1]), r, i + 1) else (s, runDenied r en.1, i + 1)

/-- Commit one deferred write, checked again under R46 (R80). -/
def deferredEntry (f : Nat) (ts : DWord) (src : BitVec 16) (a : State × Run) (d : DeferredWrite) : State × Run :=
  let (s, ok) := tryWrite a.1 f 1 d.point d.value d.quality ts src
  (s, if ok then a.2 else runDenied a.2 d.point)

/-- OUTPUT_WRITE_BACK of a task's run: the output image, then the deferred writes. -/
def writeBackRun (s : State) (t waitNs : Nat) : State :=
  match (taskAt s t).run, taskEntry s t with
  | some r, some (m, e) =>
    if taskStateOf s t = tsRUNNING ∧ r.step = .writeBack then
      let f := taskFlask s t
      let src := sourceOf 1 t
      let live := !shadowing s
      let s := noteWait s (taskCore s t) waitNs
      let (s, r, n) := e.outTbl.foldl (writeEntry f (m.dataAt + e.outImg) s.now src live) (s, r, 0)
      let hash := if hashed s t then outputHash s (m.dataAt + e.outImg) e.outTbl.length r.deferred else 0
      let (s, r) := if live then r.deferred.foldl (deferredEntry f s.now src) (s, r) else (bumpSat s R.MIR_LOCALW r.deferred.length, r)
      let r := { r with step := .retention, execNs := r.execNs + waitNs + 100 + 6 * (n + r.deferred.length), ohash := hash }
      setTask s t { taskAt s t with run := some r }
    else s
  | _, _ => s

/-! ## Retention (R89 to R92, R111, R176) -/

/-- Bytes in the staging buffer (SCN_STAGE.FILL). -/
def stageFill (s : State) : Nat := s.scan.batches.foldl (fun n b => n + 32 * b.granules.length) 0

/-- The granules of a run as the staging buffer takes them. -/
def dirtyGranules (s : State) (m : Mould) (dirty : List Nat) : List Granule :=
  (retained m dirty).filterMap (fun g => (instAt m g).map (fun e => { key := e.key, offset := g - (m.dataAt + e.offset), bytes := bytesAt s g 32 }))

/-- Whether a task has RETAIN instances: its program instance, or one that the run wrote. DEDUCED: assumption 14. -/
def hasRetain (m : Mould) (e : TaskEnt) (r : Run) : Bool :=
  retained m r.dirty != [] || m.insts.any (fun i => i.offset == e.progInst && instRetain i)

/-- RETENTION_COPY: one batch into the staging buffer when it fits (R89), then the end step. -/
def retentionRun (s : State) (t : Nat) : State :=
  match (taskAt s t).run, taskEntry s t with
  | some r, some (m, e) =>
    if taskStateOf s t = tsRUNNING ∧ r.step = .retention then
      let gs := if shadowing s then [] else dirtyGranules s m r.dirty
      if 524288 < stageFill s + 32 * gs.length then raiseBit s 0x38 4
      else
        let b : List Batch := if gs = [] then [] else
          [{ flask := taskFlask s t, task := t, run := rd s (R.SCN_TRUNS t), granules := gs }]
        let s := { s with scan := { s.scan with batches := s.scan.batches ++ b } }
        let ret := if hasRetain m e r then 100 + 10 * (retained m r.dirty).length else 0
        runEnd s t { r with execNs := r.execNs + ret + 100 }
    else s
  | _, _ => s

/-- A generation waits for its commit record (R176). -/
def newGenOf (s : State) (f : Nat) : Option (List NvrInst) := tget (fun _ => none) s.scan.newGen f
def nvrOf (s : State) (f : Nat) : List NvrInst := tget (fun _ => []) s.scan.nvr f
def setNvr (s : State) (f : Nat) (g : List NvrInst) : State :=
  { s with scan := { s.scan with nvr := tput (fun _ => []) s.scan.nvr f g } }

/-- Apply a granule to a generation. -/
def applyGranule (g : List NvrInst) (x : Granule) : List NvrInst :=
  g.map (fun e => if e.key = x.key then { e with bytes := e.bytes.take x.offset ++ x.bytes ++ e.bytes.drop (x.offset + x.bytes.length) } else e)

/-- An NVR write that failed its read-back twice is counted and reported (R484). -/
def nvrWriteFail (s : State) : State := raiseBit (bumpSat s R.NVR_WRFAIL 1) 0x0B 1

/-- RETENTION_BATCH_DRAIN: the oldest batch whose flask has no generation waiting commits, or fails and posts RETAIN_FAIL (R90, R92). -/
def drainBatch (s : State) (ok : Bool) (failAt : Word) : State :=
  match s.scan.batches.find? (fun b => (newGenOf s b.flask).isNone) with
  | none => s
  | some b =>
    let s := { s with scan := { s.scan with batches := s.scan.batches.erase b } }
    if ok then setNvr s b.flask (b.granules.foldl applyGranule (nvrOf s b.flask))
    else raiseBit (postCause (nvrWriteFail s) b.flask 9 b.task failAt) 0x38 2

/-- GENERATION_APPLIED: the waiting generation of a flask becomes what the NVR holds (R176). -/
def applyGeneration (s : State) (f : Nat) : State :=
  match newGenOf s f with
  | none => s
  | some g =>
    let s := setNvr s f g
    { s with scan := { s.scan with newGen := tput (fun _ => none) s.scan.newGen f none } }

/-! ## Power fail (R94, R95, R177) -/

/-- One run at the assertion of PFW: cut off in its latch or program step; a retention copy that does not fit is abandoned. -/
def pfwRun (s : State) (t : Nat) : State :=
  match (taskAt s t).run with
  | none => s
  | some r =>
    let gone := r.step == .latch || r.step == .program
    let m := taskEntry s t
    let late := r.step == .retention && match m with
      | some (m, _) => decide (524288 < stageFill s + 32 * (dirtyGranules s m r.dirty).length)
      | none => false
    if gone then bumpFld (abandonRun s t) R.SCN_PFWST F.SCN_PFWST_ABANDONED 1
    else if late then bumpFld (retentionRun (setTask s t { taskAt s t with run := some { r with dirty := [] } }) t) R.SCN_PFWST F.SCN_PFWST_ABANDONED 1
    else s

/-- The scan cores' answer to PFW or a mains sag (R94): no further release, runs cut off, SCN_PFWST opened. -/
def scanPowerFail (s : State) : State :=
  let s := { s with scan := { s.scan with pfw := true, saveDone := false } }
  let s := wr s R.SCN_PFWST 0x80000000
  refreshTasks (forAll pfwRun (upTo 64) s)

/-- The staging buffer has drained and the save marker is written (R94): batches that wait for a generation are discarded (R177). -/
def scanSaveDone (s : State) (drainUs : Nat) : State :=
  let live := s.scan.batches.filter (fun b => (newGenOf s b.flask).isNone)
  let s := live.foldl (fun s b => setNvr s b.flask (b.granules.foldl applyGranule (nvrOf s b.flask))) s
  let s := { s with scan := { s.scan with batches := [], newGen := [], saveDone := true } }
  let s := setFld s R.SCN_PFWST F.SCN_PFWST_DRAIN_US (min drainUs 0xFFFF)
  raiseBit (setFld s R.SCN_PFWST F.SCN_PFWST_COMPLETE 1) 0x38 3

/-! ## Enabling and disabling (R70, R78, R87, R88) -/

/-- Enabled tasks bound to a core, other than one. -/
def boundOthers (s : State) (c t : Nat) : Nat :=
  ((upTo 64).filter (fun u => u != t && taskEnabled s u && taskCore s u == c)).length

/-- The flask an EVENT source belongs to: a lite channel to flask 0, a queue to its owner (R70, R392). -/
def eventOwner (_s : State) (src : Nat) (queueOwner : Nat → Nat) : Nat := if src < 0x40 then 0 else queueOwner (src - 0x40)

/-- The conditions of R70 on a write of SCN_TCFGn that sets EN, with `w` the word written. -/
def enableTaskCheck (s : State) (t : Nat) (w : Word) (queueOwner : Nat → Nat) : Code :=
  let core := bits w 26 24
  let f := bits w 12 8
  let trig := bits w 30 28
  let per := taskPeriod s t
  let src := fld s (R.SCN_TSRC t) F.SCN_TSRC_EVENT
  if 8 ≤ boundOthers s core t then .noResource
  else if !flaskEnabled s f then .illegalValue
  else if (match mouldOf s f with
    | some m => decide (m.tasks.length ≤ fld s (R.SCN_TSRC t) F.SCN_TSRC_MOULD_TASK)
    | none => true) then .notInState
  else if trig = 0 ∧ per < 2 then .illegalValue
  else if trig = 0 ∧ per ≤ fld s (R.SCN_TPER t) F.SCN_TPER_PHASE then .illegalValue
  else if trig = 1 ∧ f ≠ 0 ∧ eventOwner s src queueOwner ≠ f then .accessFlask
  else .none

/-- Clear LAST_VALID of every output entry of a task (R78). -/
def clearLastValid (s : State) (t : Nat) : State :=
  match taskEntry s t with
  | some (m, e) => forAll (fun s i => putByte s (m.dataAt + e.outImg + 32 * i + 0x19) 0) (upTo e.outTbl.length) s
  | none => s

/-- A DISABLED or HALTED task that is enabled becomes IDLE from its next release point (R87), with LAST_VALID cleared. -/
def enableTask (s : State) (t : Nat) : State :=
  let st := taskStateOf s t
  if st = tsDISABLED ∨ st = tsHALTED then
    let s := clearLastValid s t
    let s := setTask s t { taskAt s t with prevDone := none, held := false, heldExchange := none }
    refreshTask (setTaskState s t tsIDLE) t
  else s

/-- EN written 0 takes effect at once, or at the end of the run in progress (R88). -/
def disableTask (s : State) (t : Nat) : State :=
  let st := taskStateOf s t
  if st = tsIDLE ∨ st = tsRELEASED ∨ st = tsSUSPENDED then
    showPend (setTask (setTaskState s t tsDISABLED) t { taskAt s t with held := false, heldExchange := none }) t
  else s

/-- SCN_TCLR: DROPPED, COALESCED, MAX_US, CONSEC and LAST_CAUSE of one task. -/
def clearTaskCounters (s : State) (t : Nat) : State :=
  let s := wr s (R.SCN_TOVR t) 0
  let s := setFld s (R.SCN_TTIME t) F.SCN_TTIME_MAX_US 0
  let s := setFld s (R.SCN_TSTAT t) F.SCN_TSTAT_CONSEC 0
  setFld s (R.SCN_TSTAT t) F.SCN_TSTAT_LAST_CAUSE 0

/-- The counters that a write of SCN_TCLR names. -/
def clearCounters (s : State) (v : Word) : State :=
  if bit v 31 then forAll clearTaskCounters (upTo 64) s else clearTaskCounters s (bits v 5 0)

/-- LOAD of every core, at each full second (SCC_STATUS). -/
def measureLoad (s : State) : State :=
  let s := forAll (fun s c => setFld s (R.SCC_STATUS c) F.SCC_STATUS_LOAD
    (min 1000 (tget (fun _ => 0) s.scan.busyNs c / 1000000))) (upTo 8) s
  { s with scan := { s.scan with busyNs := [] } }

/-- The scan part of a grid point (R71, R74): releases in task order, then preemption on every core. -/
def scanGridPoint (s : State) (k : Nat) : State :=
  forAll preempt (upTo 8) (forAll (cyclicRelease k) (upTo 64) s)

/-- Post START to every flask with an enabled task (R102). -/
def postStart (s : State) (detail : Nat) : State :=
  forAll (fun s f => if (upTo 64).any (fun t => taskEnabled s t && taskFlask s t == f) then
    postCause s f 0x0A 0xFF (BitVec.ofNat 32 detail) else s) (upTo 32) s

end Sys2Proof.Machine
end

