-- ==== Sys2Proof/Machine/Fabric.lean ====
section
/-! DEFINITION. Fabric arbitration (R357 to R367) and the hardware locks (R368 to R375). Arbiter 0 is the fabric's; arbiter 1 + b is
bank arbiter b: 0–31 SRAM, 32–39 queue SRAM, 40–55 DRAM. -/

namespace Sys2Proof.Machine

/-! ## The lottery (R360, R361) -/

/-- lfsr_step. -/
def lfsrStep (l : Nat) : Nat :=
  let fb := (l / 2 ^ 15 + l / 2 ^ 14 + l / 2 ^ 12 + l / 2 ^ 3) % 2
  (2 * l + fb) % 65536

/-- What an arbiter's LFSR holds at reset, from the reset seeds (ARBF_SEED, ARBM_SEED). -/
def bankSeed (seed b : Nat) : Nat := let n := (BitVec.ofNat 16 seed ^^^ BitVec.ofNat 16 (b * 0x0401)).toNat; if n = 0 then 1 else n
def lfsrReset (a : Nat) : Nat := if a = 0 then 0xACE1 else bankSeed 0x1D0F (a - 1)
def lfsrAt (s : State) (a : Nat) : Nat := tget lfsrReset s.fabric.lfsr a
def setLfsr (s : State) (a n : Nat) : State := { s with fabric := { s.fabric with lfsr := tput lfsrReset s.fabric.lfsr a n } }

/-- CLASS and TICKETS of a requester at an arbiter (R363: as they stand when the decision begins). -/
def arbClass (s : State) (a id : Nat) : Nat :=
  if a = 0 then fld s (R.ARBF_REQ id) F.ARBF_REQ_CLASS else fld s (R.ARBM_REQ id) F.ARBM_REQ_CLASS
def arbTickets (s : State) (a id : Nat) : Nat :=
  if a = 0 then fld s (R.ARBF_REQ id) F.ARBF_REQ_TICKETS else fld s (R.ARBM_REQ id) F.ARBM_REQ_TICKETS

def lastGrant (s : State) (a c : Nat) : Nat := tget (fun _ => 0) s.fabric.last (4 * a + c)
def setLastGrant (s : State) (a c id : Nat) : State :=
  { s with fabric := { s.fabric with last := tput (fun _ => 0) s.fabric.last (4 * a + c) id } }

/-- The first of the contenders whose running sum of tickets passes `r`. -/
def drawTicket (s : State) (a r : Nat) : Nat → List Nat → Option Nat
  | _, [] => none
  | acc, id :: l => let acc := acc + arbTickets s a id; if r < acc then some id else drawTicket s a r acc l

/-- ARBITER_DECISION: step the LFSR, then the highest class present, then its lottery, or its turn where it holds no tickets (R361). -/
def decide1 (s : State) (a : Nat) (contenders : List Nat) : State × Option Nat :=
  let l := lfsrStep (lfsrAt s a)
  let s := setLfsr s a l
  let s := if a = 0 then wr s R.ARBF_LFSR (BitVec.ofNat 32 l) else s
  let ids := (upTo 32).filter (fun id => contenders.contains id)
  let c := ids.foldl (fun m id => min m (arbClass s a id)) 3
  let cls := ids.filter (fun id => arbClass s a id == c)
  let t := cls.foldl (fun n id => n + arbTickets s a id) 0
  let w := if t = 0 then
      match cls.find? (fun id => decide (lastGrant s a c < id)) with | some id => some id | none => cls.head?
    else drawTicket s a (l * t / 65536) 0 cls
  match w with
  | some id => (setLastGrant s a c id, some id)
  | none => (s, none)

/-- A decision that the squall line wins: the LFSR steps (R360). -/
def squallDecision (s : State) (a : Nat) : State :=
  let l := lfsrStep (lfsrAt s a)
  let s := setLfsr s a l
  if a = 0 then wr s R.ARBF_LFSR (BitVec.ofNat 32 l) else s

/-! ## The fabric, cycle by cycle (R359, R365, R367) -/

def setFabric (s : State) (f : Fabric) : State := { s with fabric := f }
def outOf (s : State) (id : Nat) : Nat := tget (fun _ => 0) s.fabric.out id
def outLimit (s : State) (id : Nat) : Nat := fld s (R.ARBF_REQ id) F.ARBF_REQ_OUT
def outTotal (s : State) : Nat := fld s R.ARBF_OUT F.ARBF_OUT_COUNT

/-- R367: whether a requester's request contends. -/
def contends (s : State) (id : Nat) : Bool :=
  decide (outOf s id < outLimit s id) && decide (outTotal s < 128) && (decide (outTotal s + 16 ≤ 128) || arbClass s 0 id == 0)

/-- Count a grant and its outstanding transaction. -/
def countGrant (s : State) (id : Nat) : State :=
  let s := bump s (R.ARBF_GRANT id) 1
  let n := outTotal s + 1
  let s := setFld (setFld s R.ARBF_OUT F.ARBF_OUT_COUNT n) R.ARBF_OUT F.ARBF_OUT_MAX (max n (fld s R.ARBF_OUT F.ARBF_OUT_MAX))
  setFabric s { s.fabric with out := tput (fun _ => 0) s.fabric.out id (outOf s id + 1) }

/-- Remove the first request of a requester. -/
def takeRequest (id : Nat) : List Transfer → List Transfer
  | [] => []
  | t :: r => if t.id = id then r else t :: takeRequest id r

/-- The debug request is presented and its requester may contend (R365, R367). -/
def debugReady (s : State) : Bool :=
  Option.isSome s.fabric.debug && s.fabric.cool == 0 && decide (outOf s 26 < outLimit s 26) && decide (outTotal s < 128)

/-- The debug transfer takes the fabric. -/
def grantDebug (s : State) : State :=
  match s.fabric.debug with
  | none => s
  | some b =>
    let s := countGrant (squallDecision s 0) 26
    setFabric s { s.fabric with debug := none, current := some { id := 26, beats := b } }

/-- The next decision of the fabric arbiter, if anything contends; a transfer that was cut resumes before it. -/
def nextTransfer (s : State) : State :=
  match s.fabric.cut with
  | some t => setFabric s { s.fabric with current := some t, cut := none }
  | none =>
    if debugReady s then grantDebug s
    else
      let ids := (s.fabric.waiting.filter (fun t => contends s t.id)).map (·.id)
      if ids.isEmpty then s
      else match decide1 s 0 ids with
        | (s, some id) =>
          match s.fabric.waiting.find? (fun t => t.id == id) with
          | some t => let s := countGrant s id
                      setFabric s { s.fabric with waiting := takeRequest id s.fabric.waiting, current := some t }
          | none => s
        | (s, none) => s

/-- One fabric cycle: a beat of the transfer in progress, then a cut by the debug port, or at the last beat the next decision. -/
def fabricCycle (s : State) : State :=
  let cool := s.fabric.cool
  let s := setFabric s { s.fabric with cool := cool - 1 }
  match s.fabric.current with
  | none => nextTransfer s
  | some t =>
    if t.beats ≤ 1 then
      let s := setFabric s { s.fabric with current := none, cool := if t.id = 26 then 32 else s.fabric.cool }
      nextTransfer s
    else
      let t := { t with beats := t.beats - 1 }
      let s := setFabric s { s.fabric with current := some t }
      if t.id ≠ 26 ∧ debugReady s then grantDebug (bumpSat (setFabric s { s.fabric with cut := some t }) R.ARBF_SQUALL 1)
      else s

/-- Let fabric cycles pass. -/
def fabricRun : Nat → State → State
  | 0, s => s
  | n + 1, s => fabricRun n (fabricCycle s)

/-- Requests presented in one cycle: on an idle fabric they are decided in it, else they wait for the decision after it (R359). -/
def presentRequests (s : State) (reqs : List Transfer) : State :=
  let add (s : State) : State := setFabric s { s.fabric with waiting := s.fabric.waiting ++ reqs }
  if s.fabric.current.isNone then fabricCycle (add s) else add (fabricCycle s)

/-- Requests present at a bank arbiter in one cycle: it decides in that cycle, and the losers stay (R358). -/
def bankDecision (s : State) (b : Nat) (ids : List Nat) : State :=
  let all := tget (fun _ => []) s.fabric.bankWait b ++ ids
  if all.isEmpty then s
  else match decide1 s (1 + b) all with
    | (s, some id) => setFabric s { s.fabric with bankWait := tput (fun _ => []) s.fabric.bankWait b (all.erase id) }
    | (s, none) => setFabric s { s.fabric with bankWait := tput (fun _ => []) s.fabric.bankWait b all }

/-- FABRIC_REQUEST (R358, R359): after `gap` fabric cycles, requests reach an arbiter in one cycle: the fabric's, or bank `bank`'s. -/
def execFabricRequest (bank : Option (Fin 56)) (gap : Fin 4096) (reqs : List FabricReq) (s : State) : Host.Outcome State Fault Refusal :=
  let s := fabricRun gap.val s
  .next (match bank with
    | none => presentRequests s (reqs.map (fun r => { id := r.id.val, beats := r.beats.val + 1 }))
    | some b => bankDecision s b.val (reqs.map (fun r => r.id.val)))

/-- FABRIC_RESPONSE (R367): a response is delivered and its tag freed. -/
def execFabricResponse (gap : Fin 4096) (id : Fin 27) (s : State) : Host.Outcome State Fault Refusal :=
  let s := fabricRun gap.val s
  .next (if outOf s id.val = 0 then s
    else
      let s := setFabric s { s.fabric with out := tput (fun _ => 0) s.fabric.out id.val (outOf s id.val - 1) }
      setFld s R.ARBF_OUT F.ARBF_OUT_COUNT (outTotal s - 1))

/-- DEBUG_SQUALL (R365): the debug port requests a transfer of 1 to 8 beats. Outside a session its access is refused there. -/
def execDebugSquall (gap : Fin 4096) (beats : Fin 8) (s : State) : Host.Outcome State Fault Refusal :=
  let s := fabricRun gap.val s
  .next (if flag s R.DBG_STAT F.DBG_STAT_SESSION then
      fabricCycle (setFabric s { s.fabric with debug := some (beats.val + 1) })
    else { s with answer := { busError := true } })

/-- DRAM_REFRESH (R366): a due refresh takes a DRAM bank; `cuts` says that it cuts a multi-burst access in progress there. -/
def execDramRefresh (bank : Fin 16) (cuts : Bool) (s : State) : Host.Outcome State Fault Refusal :=
  let s := squallDecision s (1 + 40 + bank.val)
  .next (if cuts then bumpSat s R.ARBM_REFPRE 1 else s)

/-- The effect of a seed write (R363): the LFSRs concerned are loaded before their next decision. -/
def seedArbiter (s : State) (bank : Bool) (seed : Nat) : State :=
  if bank then forAll (fun s b => setLfsr s (1 + b) (bankSeed seed b)) (upTo 56) s else setLfsr s 0 seed

/-- A write of ARBF_SEED or ARBM_SEED. -/
def seedWrite (s : State) (bank : Bool) (v : Word) : State × Code :=
  if bits v 31 16 ≠ 0 then (s, .reservedBits)
  else if v = 0 then (s, .illegalValue)
  else (seedArbiter (wr s (if bank then R.ARBM_SEED else R.ARBF_SEED) v) bank v.toNat, .none)

/-- ARBITER_SEED_WRITE (R363). -/
def execArbiterSeedWrite (q : Requester) (bank : Bool) (v : Word) (s : State) : Host.Outcome State Fault Refusal :=
  let page := if bank then 0x09 else 0x08
  .next (gated s q page 0x40 (fun s => endCommand page 0x40 (seedWrite s bank v)))

/-! ## Hardware locks -/

/-- The context of an owner (R368): 16 for the management cores, 4 for each field sequencer, one for every other requester. -/
def ownerCtx (o : LockOwner) : Nat :=
  if o.req.val = 0 then o.ctx.val else if 15 ≤ o.req.val ∧ o.req.val ≤ 18 then o.ctx.val % 4 else 0

def lockHeld (s : State) (n : Nat) : Bool := flag s (R.LCK_STAT n) F.LCK_STAT_HELD
/-- Lock n is held by the requester and context. -/
def lockOwnedBy (s : State) (n req ctx : Nat) : Bool :=
  lockHeld s n && fld s (R.LCK_STAT n) F.LCK_STAT_REQ == req && fld s (R.LCK_STAT n) F.LCK_STAT_CTX == ctx

/-- The highest lock an owner holds. -/
def highestLock (s : State) (req ctx : Nat) : Option Nat := ((upTo 64).filter (fun n => lockOwnedBy s n req ctx)).getLast?

/-- Free a lock; `broken` marks it BROKEN. REQ and CTX keep naming the last owner. -/
def freeLock (s : State) (n : Nat) (broken : Bool) : State :=
  let s := setFld (setFld s (R.LCK_STAT n) F.LCK_STAT_HELD 0) (R.LCK_STAT n) F.LCK_STAT_BROKEN (b2n broken)
  let s := { s with lockTimers := tput (fun _ => {}) s.lockTimers n {} }
  setBit s (R.LCK_HELD (n / 32)) (n % 32) false

/-- The word that an acquire returns. -/
def lockAnswer (s : State) (n : Nat) (c : Code) (got : Bool) : State :=
  { s with answer := { words := [BitVec.ofNat 32 (b2n got * 2 ^ 31 + codeNum c * 256 + n)] } }

/-- Take a free lock. -/
def takeLock (s : State) (n req ctx : Nat) : State :=
  let k := R.LCK_STAT n
  let s := setFld (setFld (setFld (setFld s k F.LCK_STAT_HELD 1) k F.LCK_STAT_BROKEN 0) k F.LCK_STAT_REQ req) k F.LCK_STAT_CTX ctx
  let s := { s with lockTimers := tput (fun _ => {}) s.lockTimers n { since := s.now, holdUs := fld s (R.LCK_HOLD n) F.LCK_HOLD_HOLD_US } }
  setBit s (R.LCK_HELD (n / 32)) (n % 32) true

/-- A read of LCK_Ln (R369), in the order of its table. -/
def lockAcquire (s : State) (req ctx n : Nat) : State :=
  match highestLock s req ctx with
  | some m =>
    if n ≤ m then
      let s := if flag s R.LCK_RANKLAST F.LCK_RANKLAST_VALID then s
        else wr s R.LCK_RANKLAST (BitVec.ofNat 32 (2 ^ 31 + req * 2 ^ 16 + ctx * 2 ^ 12 + m * 2 ^ 6 + n))
      lockAnswer (raiseBit s 0x0A 2) n .rank false
    else if lockHeld s n then lockAnswer s n .busy false
    else lockAnswer (takeLock s n req ctx) n (if flag s (R.LCK_STAT n) F.LCK_STAT_BROKEN then .broken else .none) true
  | none =>
    if lockHeld s n then lockAnswer s n .busy false
    else lockAnswer (takeLock s n req ctx) n (if flag s (R.LCK_STAT n) F.LCK_STAT_BROKEN then .broken else .none) true

/-- A write of LCK_Ln (R370). -/
def lockRelease (s : State) (req ctx n : Nat) (v : Word) : State × Code :=
  if v ≠ 1 then (s, .illegalValue)
  else if lockOwnedBy s n req ctx then (freeLock s n false, .none)
  else (s, .sequence)

/-- A write of LCK_FREE (R374). -/
def lockFree (s : State) (v : Word) : State × Code :=
  if 64 ≤ v.toNat then (s, .reservedBits)
  else if lockHeld s v.toNat then (freeLock s v.toNat true, .none)
  else (s, .none)

/-- LOCK_BREAK (R372): every lock that the contexts of a requester hold is released and marked BROKEN. -/
def breakLocks (s : State) (req : Nat) : State :=
  forAll (fun s n => if lockHeld s n && fld s (R.LCK_STAT n) F.LCK_STAT_REQ == req then raiseBit (freeLock s n true) 0x0A 1 else s) (upTo 64) s

/-- An access to a lock by its owner's requester; NRAP (22) does not reach the locks (R371). -/
def lockServed (s : State) (o : LockOwner) (k : State → State) : State :=
  if o.req = 22 then { s with answer := { code := .notInState, words := [0] } }
  else served s (if o.req = 26 then .debug else .mgmt 0) k

/-- LOCK_ACQUIRE (R369). -/
def execLockAcquire (o : LockOwner) (n : Fin 64) (s : State) : Host.Outcome State Fault Refusal :=
  .next (lockServed s o (fun s => lockAcquire s o.req.val (ownerCtx o) n.val))
/-- LOCK_RELEASE (R370). -/
def execLockRelease (o : LockOwner) (n : Fin 64) (v : Word) (s : State) : Host.Outcome State Fault Refusal :=
  .next (lockServed s o (fun s =>
    endCommand 0x0A (0x100 + 4 * n.val) (lockRelease s o.req.val (ownerCtx o) n.val v)))
/-- LOCK_HOLD_EXPIRY (R373): a lock held for HOLD_US is released and marked BROKEN. -/
def execLockHoldExpiry (n : Fin 64) (s : State) : Host.Outcome State Fault Refusal :=
  let t := tget (fun _ => {}) s.lockTimers n.val
  .next (if lockHeld s n.val ∧ t.holdUs ≠ 0 then
      let s := advanceTo s (BitVec.ofNat 64 (t.since.toNat + 100 * t.holdUs))
      raiseBit (setFld (freeLock s n.val true) (R.LCK_STAT n.val) F.LCK_STAT_EXPIRED 1) 0x0A 0
    else s)
/-- LOCK_FREE (R374). -/
def execLockFree (q : Requester) (v : Word) (s : State) : Host.Outcome State Fault Refusal :=
  .next (gated s q 0x0A 0x40 (fun s => endCommand 0x0A 0x40 (lockFree s v)))

end Sys2Proof.Machine
end

