-- ==== Sys2Proof/Machine/Tundish.lean ====
section
/-! DEFINITION. Tundish queues (R391 to R398): who may push and pop, the banks, packets and their drops, the swap and the pointer
check. Registers of queue q lie on page TND(q / 16) at position q % 16. -/

namespace Sys2Proof.Machine

def R.qCFG (q : Nat) : Nat := R.TND_CFG (q / 16) (q % 16)
def R.qBASE (q : Nat) : Nat := R.TND_BASE (q / 16) (q % 16)
def R.qIDLE (q : Nat) : Nat := R.TND_IDLE (q / 16) (q % 16)
def R.qCNT (q : Nat) : Nat := R.TND_CNT (q / 16) (q % 16)
def R.qPTRDUP (q : Nat) : Nat := R.TND_PTRDUP (q / 16) (q % 16)
def R.qPTR (q : Nat) : Nat := R.TND_PTR (q / 16) (q % 16)
def R.qDENY (q : Nat) : Nat := R.TND_DENY (q / 16) (q % 16)
def F.TND_CNT_DROPPED : Fld := ⟨31, 16⟩
def F.TND_CNT_ORPHAN : Fld := ⟨15, 0⟩
def F.TND_PTR_RD : Fld := ⟨31, 16⟩
def F.TND_PTR_WR : Fld := ⟨15, 0⟩

def queueAt (s : State) (q : Nat) : Queue := tget (fun _ => {}) s.queues q
def setQueue (s : State) (q : Nat) (x : Queue) : State := { s with queues := tput (fun _ => {}) s.queues q x }
def queueOn (s : State) (q : Nat) : Bool := flag s (R.qCFG q) F.TND_CFG_EN
def queueProd (s : State) (q : Nat) : Nat := fld s (R.qCFG q) F.TND_CFG_PROD

/-- Items per bank (0 means 32,768). -/
def queueBank (s : State) (q : Nat) : Nat := let n := fld s (R.qBASE q) F.TND_BASE_BANK; if n = 0 then 32768 else n

/-- The read position in the drain bank and the write position in the fill bank. -/
def queueRd (s : State) (q : Nat) : Nat := fld s (R.qPTR q) F.TND_PTR_RD
def queueWr (s : State) (q : Nat) : Nat := fld s (R.qPTR q) F.TND_PTR_WR

/-- Set a position: its value and its complement (R397). -/
def setRd (s : State) (q n : Nat) : State :=
  setQueue (setFld s (R.qPTR q) F.TND_PTR_RD n) q { queueAt s q with rdC := 0xFFFF - n % 65536 }
def setWr (s : State) (q n : Nat) : State :=
  setQueue (setFld s (R.qPTR q) F.TND_PTR_WR n) q { queueAt s q with wrC := 0xFFFF - n % 65536 }

/-- The place of an item among the queue's items, and its address in queue SRAM. -/
def itemPlace (s : State) (q bank pos : Nat) : Nat := bank * queueBank s q + pos
def itemAddr (s : State) (q bank pos : Nat) : Nat :=
  0x18000000 + (32 * fld s (R.qBASE q) F.TND_BASE_BASE + 4 * itemPlace s q bank pos) % 0x80000

/-- The CAN controller that is the producer of a queue: one that is not OFF and names it (R392). -/
def canProducer (s : State) (q : Nat) : Option Nat :=
  if queueProd s q ≠ 0 then none
  else (upTo 8).find? (fun b => fld s (R.PG_STATE (0x58 + b)) F.PG_STATE != 0 && fld s (R.FB_RXQ b) F.FB_RXQ_QUEUE == q)

/-- The owner flask of a queue (R392). -/
def queueOwner (s : State) (q : Nat) : Nat :=
  match canProducer s q with
  | some b => pageOwner s (0x58 + b)
  | none => fld s (R.qCFG q) F.TND_CFG_OWNER

/-- The CAN service consumes the queue (R258). -/
def queueRing (s : State) (q : Nat) : Bool := match canProducer s q with | some b => flag s (R.FB_CTRL b) F.FB_CTRL_RING | none => false

/-- Both banks empty and the positions at 0. -/
def emptyQueue (s : State) (q : Nat) : State :=
  let x := queueAt s q
  setWr (setRd (setQueue s q { x with filled := 0, opened := none, inside := false }) q 0) q 0

/-- PACKET_DROP (R391): the open packet's items are discarded, and the rest of it will be. -/
def dropPacket (s : State) (q : Nat) : State :=
  let x := queueAt s q
  match x.opened with
  | none => s
  | some n =>
    let s := setWr (setQueue s q { x with opened := none, tail := true }) q n
    raiseBit (bumpFld s (R.qCNT q) F.TND_CNT_DROPPED 1) (0x28 + q / 16) 16

/-- FLUSH (R396). -/
def flushQueue (s : State) (q : Nat) : State := emptyQueue (dropPacket s q) q

/-- POINTER_MISMATCH (R397): unequal copies reset the queue. -/
def checkPointers (s : State) (q : Nat) : State :=
  let x := queueAt s q
  if queueRd s q + x.rdC = 0xFFFF ∧ queueWr s q + x.wrC = 0xFFFF then s
  else raiseBit (bumpSat (flushQueue s q) (R.qPTRDUP q) 1) (0x28 + q / 16) 17

/-- QUEUE_BANK_SWAP (R393). -/
def swapBanks (s : State) (q : Nat) : State :=
  let x := queueAt s q
  if x.filled ≤ queueRd s q ∧ x.opened = none ∧ 0 < queueWr s q then
    setWr (setRd (setQueue s q { x with drain := 1 - x.drain, filled := queueWr s q }) q 0) q 0
  else s

/-! ## Lite channel triggers start here, since a packet notice is one (R389) -/

def R.lCTRL (k : Nat) : Nat := R.LDLL_CTRL (k / 8) (k % 8)
def R.lSTAT (k : Nat) : Nat := R.LDLL_STAT (k / 8) (k % 8)
def R.lCOUNT (k : Nat) : Nat := R.LDLL_COUNT (k / 8) (k % 8)
def ladleAt (s : State) (ch : Nat) : LadleCh := tget (fun _ => {}) s.ladle ch
def setLadle (s : State) (ch : Nat) (x : LadleCh) : State := { s with ladle := tput (fun _ => {}) s.ladle ch x }
def liteSt (s : State) (k : Nat) : Nat := fld s (R.lSTAT k) F.LDLL_STAT_STATE
def setLiteSt (s : State) (k st : Nat) : State := setFld s (R.lSTAT k) F.LDLL_STAT_STATE st
def liteFault (s : State) (k : Nat) : Bool := flag s (R.lSTAT k) F.LDLL_STAT_FAULT

/-- The requester flask of a channel (R378). -/
def ladleFlask (s : State) (ch : Nat) : Nat := if ch < 16 then pageOwner s (0x11 + ch) else 0

/-- LDL_FAULT0 and LDL_FAULT1. -/
def showFault (s : State) (ch : Nat) (b : Bool) : State := setBit s (R.LDL_FAULT (ch / 32)) (ch % 32) b

/-- A range lies wholly within a region. -/
def within (a n base size : Nat) : Bool := decide (base ≤ a) && decide (a + n ≤ base + size)

/-- A range lies in a flask's data region or staging area (R379). -/
def flaskRange (s : State) (f a n : Nat) : Bool :=
  within a n (rd s (R.SCN_MDATA f)).toNat (rd s (R.SCN_MDSZ f)).toNat ||
  within a n (rd s (R.NRP_STGBASE f)).toNat (rd s (R.NRP_STGSZ f)).toNat

/-- Whether an address lies in the point window. -/
def inWindow (a : Nat) : Bool := pageIn a 0x50000000 0x5003FFFF

/-- What R379 says of a transfer range. -/
def rangeCode (s : State) (f a n : Nat) (write : Bool) : Code :=
  if inWindow a then .none
  else if pageIn a 0x18000000 0x1807FFFF || pageIn a 0x40000000 0x400FFFFF then .illegalValue
  else if f ≠ 0 then (if flaskRange s f a n then .none else .accessFlask)
  else if write && (decide (a < 0x20000) || pageIn a 0x20000000 0x207FFFFF || pageIn a 0x30000000 0x3FFFFFFF) then .illegalValue
  else .none

/-- What R379 says of a descriptor's place. -/
def descriptorCode (s : State) (f a : Nat) : Code :=
  if f ≠ 0 then (if flaskRange s f a 32 then .none else .accessFlask)
  else if within a 32 0x10000000 0x1000000 || within a 32 0x80000000 0x80000000 then .none
  else .illegalValue

def jobSrcQ (j : LadleJob) : Bool := bit j.ctrl 29
def jobDstQ (j : LadleJob) : Bool := bit j.ctrl 28
def jobSop (j : LadleJob) : Bool := bit j.ctrl 27
def jobEop (j : LadleJob) : Bool := bit j.ctrl 26

/-- DESCRIPTOR_CHECK (R381): the checks in the order of its table. -/
def jobCheck (s : State) (ch : Nat) (j : LadleJob) (rsv : Bool) : Code :=
  let f := ladleFlask s ch
  let sq := jobSrcQ j
  let dq := jobDstQ j
  let bad (a n : Nat) : Bool := inWindow a && (a % 32 != 0 || n % 32 != 0 || decide (0x50040000 < a + n))
  let first (a b : Code) : Code := if a = .none then b else a
  if rsv || (sq && decide (64 ≤ j.src)) || (dq && decide (64 ≤ j.dst)) then .reservedBits
  else if j.len = 0 ∨ ((sq || dq) ∧ j.len % 4 ≠ 0) ∨ j.next % 32 ≠ 0 then .illegalValue
  else if (!sq && bad j.src j.len) || (!dq && bad j.dst j.len) then .illegalValue
  else
    first (if sq then .none else rangeCode s f j.src j.len false)
    (first (if dq then .none else rangeCode s f j.dst j.len true)
    (first (if j.next = 0 then .none else descriptorCode s f j.next)
    (if (sq && !queueOn s j.src) || (dq && !(queueOn s j.dst && queueProd s j.dst == 1 && fld s (R.qCFG j.dst) F.TND_CFG_PCH == ch)) then .notInState
     else if (sq && queueOwner s j.src != f) || (dq && queueOwner s j.dst != f) then .accessFlask
     else .none)))

/-- The transfer that a lite channel's registers describe (R389). -/
def liteJob (s : State) (k : Nat) : LadleJob :=
  { addr := 0, ctrl := BitVec.ofNat 32 (bits (rd s (R.lCTRL k)) 27 24 * 2 ^ 26), len := fld s (R.LDLL_LEN (k / 8) (k % 8)) F.LDLL_LEN_LEN
    src := (rd s (R.LDLL_SRC (k / 8) (k % 8))).toNat, dst := (rd s (R.LDLL_DST (k / 8) (k % 8))).toNat, next := 0 }

/-- A lite channel enters FAULT with CAUSE CHECK. -/
def liteCheckFault (s : State) (k : Nat) (c : Code) : State :=
  let s := setFld (setFld (setFld s (R.lSTAT k) F.LDLL_STAT_FAULT 1) (R.lSTAT k) F.LDLL_STAT_CHECK 1) (R.lSTAT k) F.LDLL_STAT_CODE (codeNum c)
  let s := setLadle s (0x10 + k) { ladleAt s (0x10 + k) with job := none, was := 2 }
  raiseBit (showFault s (0x10 + k) true) (0x21 + k / 8) (k % 8)

/-- A lite transfer starts, or faults with the code of its checks. -/
def liteBegin (s : State) (k : Nat) (j : LadleJob) (c : Code) : State :=
  match c with
  | .none => setLadle s (0x10 + k) { job := some j }
  | c => liteCheckFault s k c

/-- A lite transfer starts. -/
def liteStart (s : State) (k : Nat) : State := liteBegin s k (liteJob s k) (jobCheck s (0x10 + k) (liteJob s k) false)

/-- LITE_TRIGGER (R389): a trigger starts the transfer, or is held, or merges. -/
def liteTrigger (s : State) (k : Nat) : State :=
  if liteSt s k ≠ 2 then s
  else if liteFault s k || (ladleAt s (0x10 + k)).job.isSome then
    if flag s (R.lSTAT k) F.LDLL_STAT_PEND then bumpFld s (R.lSTAT k) F.LDLL_STAT_OVR 1 else setFld s (R.lSTAT k) F.LDLL_STAT_PEND 1
  else liteStart s k

/-- A trigger of one kind reaches every lite channel that selects it. -/
def liteTriggers (s : State) (trig tsrc : Nat) : State :=
  forAll (fun s k => if fld s (R.lCTRL k) F.LDLL_CTRL_TRIG = trig ∧ (trig < 3 ∨ fld s (R.lCTRL k) F.LDLL_CTRL_TSRC = tsrc) then liteTrigger s k else s)
    (upTo 48) s

/-! ## Notices, pushes and pops -/

/-- PACKET_NOTICE (R394). -/
def packetNotice (s : State) (q : Nat) : State :=
  liteTriggers (eventSource (raiseBit s (0x28 + q / 16) (q % 16)) (0x40 + q)) 4 q

/-- Append an item to the open packet, or drop the packet when the fill bank is full (R391). The result says whether it was dropped. -/
def appendItem (s : State) (q : Nat) (w : Word) (sop eop : Bool) : State × Bool :=
  let x := queueAt s q
  let wr := queueWr s q
  if queueBank s q ≤ wr then
    let s := dropPacket s q
    (setQueue s q { queueAt s q with tail := !eop }, true)
  else
    let bank := 1 - x.drain
    let s := storeN s (itemAddr s q bank wr) 4 w.toNat
    let s := setQueue s q { x with sides := tput (fun _ => 0) x.sides (itemPlace s q bank wr) (b2n sop + 2 * b2n eop)
                                   opened := if eop then none else x.opened }
    let s := setWr s q (wr + 1)
    (if eop && !queueRing s q then packetNotice s q else s, false)

/-- A push by the queue's producer (R391, R393, R397). The result says whether its packet was lost: dropped, or the queue is disabled (R398). -/
def pushItem (s : State) (q : Nat) (w : Word) (sop eop : Bool) : State × Bool :=
  if !queueOn s q then (s, true)
  else
    let s := checkPointers s q
    let x := queueAt s q
    let r : State × Bool :=
      if sop then
        let s := dropPacket s q
        appendItem (setQueue s q { queueAt s q with opened := some (queueWr s q), tail := false }) q w sop eop
      else if x.opened.isSome then appendItem s q w sop eop
      else if x.tail then (setQueue s q { x with tail := !eop }, true)
      else (bumpFld s (R.qCNT q) F.TND_CNT_ORPHAN 1, true)
    (swapBanks r.1 q, r.2)

/-- Push the words of a whole packet; the result says whether it was lost. -/
def pushPacket (s : State) (q : Nat) (ws : List Word) : State × Bool :=
  ((upTo ws.length).foldl (fun (a : State × Bool) i =>
    let r := pushItem a.1 q (ws.getD i 0) (i == 0) (i + 1 == ws.length)
    (r.1, a.2 || r.2)) (s, false))

/-- An access denied or from a wrong producer is counted in DENY (R392). -/
def countDeny (s : State) (q : Nat) : State := bumpSat s (R.qDENY q) 1

/-- A denied access of a flask: counted in DENY, and under R65 on a CAN receive queue. -/
def queueDenied (s : State) (q f : Nat) : State :=
  let s := countDeny s q
  if (canProducer s q).isSome then deny s f 6 q else s

/-- A Ladle channel pushes an item (R392). -/
def ladlePush (s : State) (q ch : Nat) (w : Word) (sop eop : Bool) : State :=
  if queueOwner s q ≠ ladleFlask s ch then queueDenied s q (ladleFlask s ch)
  else if queueProd s q = 1 ∧ fld s (R.qCFG q) F.TND_CFG_PCH = ch then (pushItem s q w sop eop).1
  else countDeny s q

/-- Take the item at the read position, if the drain bank holds one (R393, R395, R397). -/
def takeItem (s : State) (q : Nat) : State × Option (Word × Bool × Bool) :=
  let s := checkPointers s q
  let x := queueAt s q
  let pos := queueRd s q
  if x.filled ≤ pos then (swapBanks s q, none)
  else
    let w : Word := BitVec.ofNat 32 (loadN s (itemAddr s q x.drain pos) 4)
    let side := tget (fun _ => 0) x.sides (itemPlace s q x.drain pos)
    let sop := side % 2 == 1
    let eop := side / 2 == 1
    let s := setQueue s q { x with inside := !eop && (sop || x.inside) }
    (swapBanks (setRd s q (pos + 1)) q, some (w, sop, eop))

/-- The items up to and including the next EOP are discarded (R396). -/
def skipItems (q : Nat) : Nat → State → State
  | 0, s => s
  | n + 1, s =>
    let x := queueAt s q
    let pos := queueRd s q
    if x.filled ≤ pos then s
    else
      let s := setRd s q (pos + 1)
      if tget (fun _ => 0) x.sides (itemPlace s q x.drain pos) / 2 = 1 then s else skipItems q n s

/-- SKIP_PKT (R396). -/
def skipPacket (s : State) (q : Nat) : State :=
  let s := checkPointers s q
  let x := queueAt s q
  if x.inside then
    let s := skipItems q (x.filled - queueRd s q) s
    swapBanks (setQueue s q { queueAt s q with inside := false }) q
  else s

/-- FLUSH with the pointer check before it (R396, R397). -/
def flushCommand (s : State) (q : Nat) : State := flushQueue (checkPointers s q) q

/-- Whether a requester's pop or push is allowed (R52, R392). -/
def mayQueue (s : State) (q f : Nat) : Bool := queueOwner s q == f

/-- A pop by a requester of a flask (R258, R392, R395): the low word and the high word of TND_POP. -/
def popWords (s : State) (q f : Nat) : State × Word × Word :=
  if !mayQueue s q f then (queueDenied s q f, 0, 0)
  else if queueRing s q then (s, 0, 0)
  else match takeItem s q with
    | (s, some (w, sop, eop)) => (s, w, BitVec.ofNat 32 (2 ^ 31 + 2 * b2n eop + b2n sop))
    | (s, none) => (s, rd s (R.qIDLE q), 0)

/-- A push through the TND_PUSH registers (R392): side bits by the register, SOP in bit 0 and EOP in bit 1 of `side`. -/
def registerPush (s : State) (q f side : Nat) (w : Word) : State :=
  if !mayQueue s q f then queueDenied s q f
  else if queueProd s q ≠ 0 ∨ (canProducer s q).isSome then countDeny s q
  else (pushItem s q w (side % 2 == 1) (side / 2 == 1)).1

/-- TND_LEVEL and TND_FLAGS, as they read. -/
def queueLevel (s : State) (q : Nat) : Word :=
  BitVec.ofNat 32 (((queueAt s q).filled - queueRd s q) * 65536 + queueWr s q)
def queueFlags (s : State) (q : Nat) : Word :=
  let x := queueAt s q
  BitVec.ofNat 32 (4 * x.drain + 2 * b2n x.opened.isSome + b2n x.inside)

/-! ## Enabling (TND_CFG, TND_BASE, R398) -/

/-- The bytes of queue SRAM that a queue's banks take. -/
def queueSpan (s : State) (q : Nat) : Nat × Nat := (32 * fld s (R.qBASE q) F.TND_BASE_BASE, 8 * queueBank s q)

/-- The conditions of a write that sets EN, for the word to be written. -/
def enableQueueCheck (s : State) (q : Nat) (v : Word) : Code :=
  let (a, n) := queueSpan s q
  let hit := (upTo 64).any (fun r => r != q && queueOn s r && (let (b, m) := queueSpan s r; decide (a < b + m) && decide (b < a + n)))
  if hit || decide (0x80000 < a + n) || !flaskEnabled s (bits v 12 8) then .illegalValue else .none

/-- EN may not be cleared under a producer (R398). -/
def disableQueueCheck (s : State) (q : Nat) : Code :=
  let pch := fld s (R.qCFG q) F.TND_CFG_PCH
  let busy := (canProducer s q).isSome ||
    (queueProd s q == 1 && (if pch < 16 then fld s (R.PG_STATE (0x11 + pch)) F.PG_STATE != 0 else liteSt s (pch - 16) != 0))
  if busy then .notInState else .none

/-- A queue is enabled with both banks empty, or disabled and emptied. -/
def resetQueue (s : State) (q : Nat) : State := emptyQueue (setQueue s q {}) q

/-! ## The commands -/

/-- Keep a word for a requester until it reads the rest of a wide register (R14). -/
def keepWord (s : State) (q : Requester) (key : Nat) (w : Word) : State :=
  { s with holds := { who := q, key := key, word := w } :: s.holds.filter (fun h => !(h.who == q && h.key == key)) }

/-- QUEUE_POP (R395): a read of the low word of TND_POP; the high word is kept for the requester. -/
def execQueuePop (q : Requester) (n : Fin 64) (s : State) : Host.Outcome State Fault Refusal :=
  .next (gated s q (0x28 + n.val / 16) (0x128 + 0x40 * (n.val % 16)) (fun s =>
    let f := flaskOf s q
    let ok := mayQueue s n.val f
    let (s, lo, hi) := popWords s n.val f
    { keepWord s q (R.TND_POPH (n.val / 16) (n.val % 16)) hi with answer := { denied := !ok, words := [lo] } }))

/-- QUEUE_PUSH (R391): a write of one of the TND_PUSH registers. -/
def execQueuePush (q : Requester) (n : Fin 64) (side : BitVec 2) (v : Word) (s : State) : Host.Outcome State Fault Refusal :=
  .next (gated s q (0x28 + n.val / 16) (0x118 + 0x40 * (n.val % 16) + 4 * side.toNat) (fun s =>
    let f := flaskOf s q
    let ok := mayQueue s n.val f
    { registerPush s n.val f side.toNat v with answer := { denied := !ok } }))

/-- A TND_CMD operation (R396); NOT_IN_STATE while EN is 0. -/
def queueCommand (s : State) (q : Nat) (op : Nat) : State × Code :=
  if !queueOn s q then (s, .notInState)
  else if op = 1 then (skipPacket s q, .none)
  else if op = 2 then (flushCommand s q, .none)
  else (s, .illegalValue)

/-- SKIP_PKT (R396). -/
def execSkipPkt (q : Requester) (n : Fin 64) (s : State) : Host.Outcome State Fault Refusal :=
  .next (gated s q (0x28 + n.val / 16) (0x114 + 0x40 * (n.val % 16)) (fun s =>
    endCommand (0x28 + n.val / 16) (0x114 + 0x40 * (n.val % 16)) (queueCommand s n.val 1)))

/-- FLUSH (R396). -/
def execFlush (q : Requester) (n : Fin 64) (s : State) : Host.Outcome State Fault Refusal :=
  .next (gated s q (0x28 + n.val / 16) (0x114 + 0x40 * (n.val % 16)) (fun s =>
    endCommand (0x28 + n.val / 16) (0x114 + 0x40 * (n.val % 16)) (queueCommand s n.val 2)))

end Sys2Proof.Machine
end

