-- ==== Sys2Proof/Machine/Can.lean ====
section
/-! DEFINITION. CAN FD field buses (R244 to R266): states and modes, errors and bus-off, delivery to the receive queue and ring,
transmit buffers, the transmit ring and identifier clashes. -/

namespace Sys2Proof.Machine

def fbPage (b : Nat) : Nat := 0x58 + b
def busAt (s : State) (b : Nat) : CanBus := tget (fun _ => {}) s.buses b
def setBus (s : State) (b : Nat) (x : CanBus) : State := { s with buses := tput (fun _ => {}) s.buses b x }
def fbSt (s : State) (b : Nat) : Nat := fld s (R.PG_STATE (fbPage b)) F.PG_STATE
def setFbSt (s : State) (b st : Nat) : State := setFld s (R.PG_STATE (fbPage b)) F.PG_STATE st
def fbSub (s : State) (b : Nat) : Nat := fld s (R.PG_STATE (fbPage b)) F.PG_SUBSTATE
def setFbSub (s : State) (b n : Nat) : State := setFld s (R.PG_STATE (fbPage b)) F.PG_SUBSTATE n
def cbINIT : Nat := 0
def cbINTEGRATING : Nat := 1
def cbACTIVE : Nat := 2
def cbPASSIVE : Nat := 3
def cbBUSOFF : Nat := 4
def cbRECOVERING : Nat := 5
def cbEXCEPTION : Nat := 6
def fbFlask (s : State) (b : Nat) : Nat := pageOwner s (fbPage b)
def fbRing (s : State) (b : Nat) : Bool := flag s (R.FB_CTRL b) F.FB_CTRL_RING
def canRaise (s : State) (b n : Nat) : State := raiseBit s (fbPage b) n

/-! ## Enabling (R245, R257) -/

/-- R245: the bit timing is refused. -/
def timingBad (s : State) (b : Nat) : Bool :=
  let n := R.FB_NBT b
  let d := R.FB_DBT b
  let fd := flag s (R.FB_CTRL b) F.FB_CTRL_FDOE
  let nq := 3 + fld s n F.FB_NBT_NTSEG1 + fld s n F.FB_NBT_NTSEG2
  let nclk := (fld s n F.FB_NBT_NBRP + 1) * nq
  let dq := 3 + fld s d F.FB_DBT_DTSEG1 + fld s d F.FB_DBT_DTSEG2
  let dbrp := fld s d F.FB_DBT_DBRP + 1
  let dclk := dbrp * dq
  decide (80000000 < 20000 * nclk) || decide (1000000 * nclk < 80000000) ||
  decide (nq < 8) || decide (fld s n F.FB_NBT_NTSEG2 < fld s n F.FB_NBT_NSJW) ||
  (fd && (decide (80000000 < 1000000 * dclk) || decide (8000000 * dclk < 80000000) || decide (nclk < dclk))) ||
  (fd && (decide (dq < 5) || decide (fld s d F.FB_DBT_DTSEG2 < fld s d F.FB_DBT_DSJW))) ||
  (flag s (R.FB_TDC b) F.FB_TDC_TDCEN && decide (2 < dbrp))

/-- The conditions of a write that sets EN to 1. -/
def enableCanCheck (s : State) (b : Nat) : Code :=
  let q := fld s (R.FB_RXQ b) F.FB_RXQ_QUEUE
  if timingBad s b then .illegalValue
  else if (upTo 8).any (fun c => c != b && fbSt s c != 0 && fld s (R.FB_RXQ c) F.FB_RXQ_QUEUE == q) || queueProd s q != 0 then .noResource
  else .none

/-- The modes that hold every controller OFF (R249). -/
def canBarred (s : State) : Bool := let m := modeNow s; m == 0 || m == mdBOOT || m == mdRECOVERY

/-- R249: listen-only by FB_CTRL.LISTEN or by the mode. -/
def wantsListen (s : State) (b : Nat) : Bool :=
  flag s (R.FB_CTRL b) F.FB_CTRL_LISTEN || modeNow s == mdCOMMISSION || modeNow s == mdSTANDBY

/-- A controller begins STARTING: it integrates into its bus (R248). -/
def startCan (s : State) (b : Nat) : State :=
  if canBarred s then s
  else
    let s := setBus s b { busAt s b with listen := wantsListen s b, active := none, won := false, cancelled := false }
    setFbSub (setFbSt s b 1) b cbINTEGRATING

/-! ## Buffers -/

def bsPENDING : Nat := 1
def bsACTIVE : Nat := 2
def bsTXDONE : Nat := 3
def bsCANCELLED : Nat := 4
def bsSSFAIL : Nat := 5
def bsBUSOFF : Nat := 6
def bufSt (s : State) (b n : Nat) : Nat := fld s (R.TXB_STAT b n) F.TXB_STAT_STATUS

/-- Set STATUS; FB_TXPEND shows PENDING and ACTIVE buffers. -/
def setBuf (s : State) (b n st : Nat) : State :=
  setBit (setFld s (R.TXB_STAT b n) F.TXB_STAT_STATUS st) (R.FB_TXPEND b) n (st == bsPENDING || st == bsACTIVE)

/-- A buffer ends without being sent: TX_FAIL (R266). -/
def failBuf (s : State) (b n st : Nat) : State := canRaise (setBuf s b n st) b 1

/-- Every PENDING buffer takes a STATUS. -/
def failPending (s : State) (b st : Nat) : State :=
  forAll (fun s n => if bufSt s b n = bsPENDING then failBuf s b n st else s) (upTo 16) s

/-- No frame of the controller is chosen or being sent any more. -/
def noActive (s : State) (b : Nat) : State := setBus s b { busAt s b with active := none, won := false, cancelled := false }

/-- A PENDING or ACTIVE buffer is busy: its words cannot be written (R259). -/
def bufBusy (s : State) (b n : Nat) : Bool := bufSt s b n == bsPENDING || bufSt s b n == bsACTIVE

/-- The arbitration field of a buffer as a number: the smaller wins (R260). -/
def arbField (s : State) (b n : Nat) : Nat :=
  let id := fld s (R.TXB_ID b n) F.TXB_ID_ID
  let rtr := fld s (R.TXB_CTL b n) F.TXB_CTL_RTR
  if flag s (R.TXB_ID b n) F.TXB_ID_IDE then (id / 2 ^ 18) * 2 ^ 21 + 3 * 2 ^ 19 + (id % 2 ^ 18) * 2 + rtr
  else (id % 2048) * 2 ^ 21 + rtr * 2 ^ 20

/-- CAN_TX_CHOICE (R260): the PENDING buffer that would win arbitration, the lower number on a tie, becomes ACTIVE. -/
def txChoice (s : State) (b : Nat) : State :=
  let sub := fbSub s b
  let x := busAt s b
  if fbSt s b ≠ 2 || (sub != cbACTIVE && sub != cbPASSIVE) || x.listen || x.active.isSome then s
  else
    let best := (upTo 16).foldl (fun (m : Option Nat) n =>
      if bufSt s b n = bsPENDING then
        match m with
        | some k => if arbField s b n < arbField s b k then some n else m
        | none => some n
      else m) none
    match best with
    | none => s
    | some n =>
      let s := setBus s b { x with active := some n, won := false, cancelled := false }
      bumpFld (setBuf s b n bsACTIVE) (R.TXB_STAT b n) F.TXB_STAT_ATTEMPTS 1

/-! ## Errors and bus-off (R251, R252) -/

/-- Show the error counters: TEC 0 to 256, REC 0 to 127 with RP. -/
def setCounters (s : State) (b tec recv : Nat) : State :=
  wr (setBus s b { busAt s b with recv := recv }) (R.FB_ERRC b)
    (BitVec.ofNat 32 ((if 128 ≤ recv then 2 ^ 31 else 0) + min recv 127 * 2 ^ 24 + min tec 256))

def tecOf (s : State) (b : Nat) : Nat := fld s (R.FB_ERRC b) F.FB_ERRC_TEC
def passive (s : State) (b : Nat) : Bool := decide (128 ≤ tecOf s b) || decide (128 ≤ (busAt s b).recv)

/-- The error state that the counters give: bus-off removes every PENDING buffer (R252). -/
def errorState (s : State) (b : Nat) (wasTec wasRec : Nat) : State :=
  let s := if (96 ≤ tecOf s b ∧ wasTec < 96) ∨ (96 ≤ (busAt s b).recv ∧ wasRec < 96) then canRaise s b 2 else s
  if 255 < tecOf s b then failPending (canRaise (setFbSub (noActive s b) b cbBUSOFF) b 4) b bsBUSOFF
  else if passive s b then
    let s := if fbSub s b = cbPASSIVE then s else canRaise s b 3
    setFbSub s b cbPASSIVE
  else setFbSub s b cbACTIVE

/-- Change the counters, unless the controller is listen-only (R250). -/
def count (s : State) (b : Nat) (tec recv : Nat) : State :=
  if (busAt s b).listen then s
  else
    let t0 := tecOf s b
    let r0 := (busAt s b).recv
    errorState (setCounters s b tec recv) b t0 r0

/-- A frame received without error lowers REC; from the passive range it takes a value of 119 to 127 that the standard leaves open. -/
def countGood (s : State) (b : Nat) : State :=
  let r := (busAt s b).recv
  if (busAt s b).listen || r == 0 then s
  else if 128 ≤ r then let (s, w) := takeFree s; count s b (tecOf s b) (119 + w.toNat % 9)
  else count s b (tecOf s b) (r - 1)

/-- ID_CLASH (R264): an error of an own frame after it has won arbitration. -/
def idClash (s : State) (b n : Nat) (pos : BitVec 12) : State :=
  let id := rd s (R.TXB_ID b n)
  let old := rd s (R.FB_CLASH b)
  let same := bits old 29 0 == bits id 29 0
  let c := if same then satAdd 8 (fld s (R.FB_CLASHP b) F.FB_CLASHP_COUNT) 1 else 1
  let was := flag s (R.FB_CLASHP b) F.FB_CLASHP_IDCLASH
  let s := wr s (R.FB_CLASH b) (BitVec.ofNat 32 (2 ^ 31 + bits id 29 0))
  let s := wr s (R.FB_CLASHP b) (BitVec.ofNat 32 (b2n (was || decide (16 ≤ c)) * 2 ^ 31 + c * 2 ^ 16 + n * 2 ^ 12 + pos.toNat))
  if c = 16 then canRaise s b 5 else s

/-- The attempt of the ACTIVE buffer fails: SS_FAIL under SSHOT, CANCELLED under a held cancel, else PENDING again (R261, R262). -/
def attemptFails (s : State) (b n : Nat) : State :=
  let held := (busAt s b).cancelled
  let s := noActive s b
  if held then failBuf s b n bsCANCELLED
  else if flag s (R.FB_CTRL b) F.FB_CTRL_SSHOT then failBuf s b n bsSSFAIL
  else setBuf s b n bsPENDING

/-- CAN_ERROR (R251, R261, R264): record, count, and end the attempt of an own frame; then the next choice. -/
def canError (s : State) (b : Nat) (x : CanErr) : State :=
  let own := (busAt s b).active
  let s := wr s (R.FB_LEC b) (BitVec.ofNat 32 (2 ^ 31 + b2n own.isSome * 16 + b2n x.data * 8 + x.code.val))
  let s := bumpSat s (R.FB_ERRCNT b) 1
  let s := match own, x.clash with
    | some n, some pos => if x.code.val = 4 ∨ x.code.val = 5 then idClash s b n pos else s
    | _, _ => s
  let s := match own with | some n => attemptFails s b n | none => s
  let tec := tecOf s b
  let r := (busAt s b).recv
  let s := if x.count.val = 0 then s
    else if own.isSome then count s b (min 256 (tec + 8)) r
    else count s b tec (min 255 (r + if x.count.val = 2 then 8 else 1))
  txChoice s b

/-! ## Delivery (R254 to R258) -/

/-- R244: the data bytes of a frame. -/
def dlcLen (fdf rtr : Bool) (dlc : Nat) : Nat :=
  if rtr then 0 else if dlc ≤ 8 then dlc else if !fdf then 8
  else if dlc = 9 then 12 else if dlc = 10 then 16 else if dlc = 11 then 20 else if dlc = 12 then 24
  else if dlc = 13 then 32 else if dlc = 14 then 48 else 64

/-- The packet of a frame (R255). -/
def framePacket (b : Nat) (x : CanFrame) (own lost : Bool) : List Word :=
  let n := dlcLen x.fdf x.rtr x.dlc.val
  let d := sliceD (0 : Byte) x.data 0 n
  let w0 := b2n x.ide * 2 ^ 31 + b2n x.rtr * 2 ^ 30 + b2n x.fdf * 2 ^ 29 + b2n x.brs * 2 ^ 28 + b2n x.esi * 2 ^ 27 + b2n own * 2 ^ 26 +
    b2n lost * 2 ^ 25 + b * 2 ^ 16 + x.dlc.val * 2 ^ 12 + n
  let id := if x.ide then x.id.toNat else x.id.toNat % 2048
  [w0, id, x.sof.toNat % 2 ^ 32, (x.sof.toNat / 2 ^ 32) % 65536].map (BitVec.ofNat 32) ++
    (upTo ((n + 3) / 4)).map (fun i => BitVec.ofNat 32 (leNat ((d.drop (4 * i)).take 4)))

/-- A ring that lies wholly inside the data window of the owner flask's mould (R109, R258): its address. -/
def ringBase (s : State) (b off n : Nat) : Option Nat :=
  let f := fbFlask s b
  let size := (rd s (R.SCN_MDSZ f)).toNat
  if (mouldOf s f).isSome ∧ off + 0x10 + 0x50 * n ≤ size then some ((rd s (R.SCN_MDATA f)).toNat + off) else none

def rxRing (s : State) (b : Nat) : Option Nat :=
  ringBase s b (fld s (R.FB_RXOFF b) F.FB_RXOFF_OFF) (fld s (R.FB_RINGN b) F.FB_RINGN_RXN)
def txRing (s : State) (b : Nat) : Option Nat :=
  ringBase s b (fld s (R.FB_TXOFF b) F.FB_TXOFF_OFF) (fld s (R.FB_RINGN b) F.FB_RINGN_TXN)

/-- A frame is lost: FB_RXLOST. -/
def countLost1 (s : State) (b : Nat) : State := bumpSat s (R.FB_RXLOST b) 1

/-- The CAN service writes an entry of the receive ring (R258). -/
def ringEntry (s : State) (b : Nat) (ws : List Word) : State :=
  match rxRing s b with
  | none => canRaise (countLost1 s b) b 8
  | some a =>
    let x := busAt s b
    let fresh := if x.ringAt = a then x.ringNew else 0
    let w := loadN s a 4 + fresh
    let r := loadN s (a + 4) 4
    let n := fld s (R.FB_RINGN b) F.FB_RINGN_RXN
    if n ≤ (w + 2 ^ 32 - r) % 2 ^ 32 then countLost1 (storeN s (a + 8) 4 (satAdd 32 (loadN s (a + 8) 4) 1)) b
    else
      let bytes := ws.flatMap (fun w => leBytes 4 w.toNat)
      let s := putBytes s (a + 0x10 + 0x50 * (w % 2 ^ 32 % n)) (sliceD (0 : Byte) bytes 0 80)
      setBus s b { busAt s b with ringNew := fresh + 1, ringAt := a }

/-- The CAN service takes one packet from the queue: items up to EOP, at most `fuel` of them. -/
def takePacket (q : Nat) : Nat → State → List Word → State × List Word
  | 0, s, acc => (s, acc)
  | n + 1, s, acc =>
    match takeItem s q with
    | (s, none) => (s, acc)
    | (s, some (w, _, eop)) => if eop then (s, acc ++ [w]) else takePacket q n s (acc ++ [w])

/-- The CAN service consumes every packet that waits in the queue. -/
def drainQueue (b q : Nat) : Nat → State → State
  | 0, s => s
  | n + 1, s =>
    match takePacket q 32768 s [] with
    | (s, []) => s
    | (s, ws) => drainQueue b q n (ringEntry s b ws)

/-- CAN_RX_QUEUE_DROP and delivery of a packet (R255, R257, R258). -/
def deliver (s : State) (b : Nat) (x : CanFrame) (own : Bool) : State :=
  let q := fld s (R.FB_RXQ b) F.FB_RXQ_QUEUE
  let lost := (busAt s b).lostB
  let (s, drop) := if queueProd s q = 0 then pushPacket s q (framePacket b x own lost) else (countDeny s q, true)
  let s := setBus s b { busAt s b with lostB := drop }
  if drop then canRaise (countLost1 s b) b 6
  else
    let s := bump s (R.FB_RXCNT b) 1
    if fbRing s b && !s.paused then drainQueue b q 65536 s else s

/-- CAN_FRAME_RECEIVED (R254): a frame of a format that R244 supports is validated and delivered. -/
def canFrameReceived (s : State) (b : Nat) (x : CanFrame) : State :=
  let sub := fbSub s b
  if (sub != cbACTIVE && sub != cbPASSIVE) || (x.fdf && !flag s (R.FB_CTRL b) F.FB_CTRL_FDOE) || (!x.fdf && x.brs) || (x.fdf && x.rtr) then s
  else txChoice (deliver (countGood s b) b x false) b

/-! ## Transmitting (R259 to R262) -/

/-- R259: a request of the buffer would be ILLEGAL_VALUE. -/
def bufIllegal (s : State) (b : Nat) (ctl : Word) : Bool :=
  let fdf := bit ctl 6
  (bit ctl 4 && fdf) || (bit ctl 5 && !fdf) || (fdf && !flag s (R.FB_CTRL b) F.FB_CTRL_FDOE)

/-- R259: a request is refused as a whole in this state. -/
def txRefused (s : State) (b : Nat) : Bool :=
  let sub := fbSub s b
  fbSt s b != 2 || (busAt s b).listen || wantsListen s b || sub == cbBUSOFF || sub == cbRECOVERING

/-- Request a buffer: PENDING, with CANCEL_LATE and ATTEMPTS cleared. -/
def requestBuf (s : State) (b n : Nat) : State :=
  if bufBusy s b n then s else setBuf (wr s (R.TXB_STAT b n) 0) b n bsPENDING

/-- A write of FB_TXREQ (R259); on an idle bus the choice is made at once (R260). -/
def canTxRequest (s : State) (b : Nat) (v : Word) (idle : Bool) : State × Code :=
  let sel := (upTo 16).filter (fun n => bit v n)
  if bits v 31 16 ≠ 0 then (s, .reservedBits)
  else if txRefused s b || (fbRing s b && sel.any (fun n => (fld s (R.FB_TXMAP b) F.FB_TXMAP_MAP).testBit n)) then (s, .notInState)
  else if sel.any (fun n => bufIllegal s b (rd s (R.TXB_CTL b n))) then (s, .illegalValue)
  else
    let s := forAll (fun s n => requestBuf s b n) sel s
    (if idle then txChoice s b else s, .none)

/-- The own frame as the controller sent it, for ECHO. -/
def ownFrame (s : State) (b n : Nat) (sof : DWord) : CanFrame :=
  let ctl := rd s (R.TXB_CTL b n)
  { ide := flag s (R.TXB_ID b n) F.TXB_ID_IDE, rtr := bit ctl 4, fdf := bit ctl 6, brs := bit ctl 5, esi := bit ctl 6 && passive s b
    dlc := Fin.ofNat 16 (bits ctl 3 0), id := BitVec.ofNat 29 (fld s (R.TXB_ID b n) F.TXB_ID_ID), sof := sof
    data := (upTo 16).flatMap (fun k => leBytes 4 (rd s (R.TXB_DATA b n k)).toNat) }

/-- CAN_TX_DONE (R261): the frame of the ACTIVE buffer has been sent. -/
def canTxDone (s : State) (b : Nat) (sof : DWord) (tdcv : BitVec 7) : State :=
  match (busAt s b).active with
  | none => s
  | some n =>
    let x := ownFrame s b n sof
    let late := (busAt s b).cancelled
    let s := setFld (setBuf (noActive s b) b n bsTXDONE) (R.TXB_STAT b n) F.TXB_STAT_CANCEL_LATE (b2n late)
    let s := wr s (R.TXB_TS b n) (sof.setWidth 32)
    let s := if x.fdf && x.brs && flag s (R.FB_TDC b) F.FB_TDC_TDCEN then wr s (R.FB_TDCR b) (BitVec.ofNat 32 tdcv.toNat) else s
    let s := if bits (rd s (R.FB_CLASH b)) 29 0 = bits (rd s (R.TXB_ID b n)) 29 0 then setFld s (R.FB_CLASHP b) F.FB_CLASHP_COUNT 0 else s
    let s := canRaise (count s b (tecOf s b - 1) (busAt s b).recv) b 0
    let s := if flag s (R.FB_CTRL b) F.FB_CTRL_ECHO then deliver s b x true else s
    txChoice s b

/-- The cancel of one buffer (R262). -/
def cancelBuf (ph : TxPhase) (b : Nat) (s : State) (n : Nat) : State :=
  let st := bufSt s b n
  if st = bsPENDING then failBuf s b n bsCANCELLED
  else if st = bsACTIVE then
    match ph with
    | .beforeSof =>
      let k := R.TXB_STAT b n
      let s := setFld s k F.TXB_STAT_ATTEMPTS (fld s k F.TXB_STAT_ATTEMPTS - 1)
      txChoice (failBuf (noActive s b) b n bsCANCELLED) b
    | .arbitration => setBus s b { busAt s b with cancelled := true }
    | .afterArbitration => setBus s b { busAt s b with cancelled := true, won := true }
  else s

/-- A write of FB_TXCAN (R262). The chosen buffer is cancelled last, so that a new choice sees the other cancels. -/
def canTxCancel (s : State) (b : Nat) (v : Word) (ph : TxPhase) : State × Code :=
  if bits v 31 16 ≠ 0 then (s, .reservedBits)
  else
    let sel := (upTo 16).filter (fun n => bit v n)
    let act := sel.filter (fun n => bufSt s b n == bsACTIVE)
    let rest := sel.filter (fun n => bufSt s b n != bsACTIVE)
    (forAll (cancelBuf ph b) act (forAll (cancelBuf ph b) rest s), .none)

/-- A write of FB_CMD (R252). -/
def canCommand (s : State) (b : Nat) (v : Word) : State × Code :=
  if 1 < v.toNat then (s, .reservedBits)
  else if v = 0 then (s, .none)
  else if fbSub s b ≠ cbBUSOFF then (s, .notInState)
  else (setFbSub s b cbRECOVERING, .none)

/-! ## Off (R248, R262) -/

/-- A controller reaches OFF: its PENDING buffers take CANCELLED; a latched re-arm starts it again. -/
def canOff (s : State) (b : Nat) : State :=
  let sub := fbSub s b
  let s := match (busAt s b).active with | some n => failBuf s b n bsCANCELLED | none => s
  let s := failPending (noActive s b) b bsCANCELLED
  let s := if sub = cbBUSOFF ∨ sub = cbRECOVERING then setBus s b { busAt s b with owesRecovery := true } else s
  let s := setFbSub (setFbSt s b 0) b cbINIT
  if flag s (R.PG_STATE (fbPage b)) F.PG_REARM then startCan (setFld s (R.PG_STATE (fbPage b)) F.PG_REARM 0) b else s

/-- A controller whose EN is 1 and that a mode held OFF starts once the mode lets it (R249). -/
def refreshCan (s : State) : State :=
  forAll (fun s b => if fbSt s b = 0 ∧ flag s (R.PG_CTRL (fbPage b)) F.PG_EN then startCan s b else s) (upTo 8) s

/-! ## The CAN service at ticks and grid points (R258, R263) -/

/-- RX_RING_PUBLISH of one bus: WR, then one notice for each entry published. -/
def publishRing (s : State) (b : Nat) : State :=
  let x := busAt s b
  if x.ringNew = 0 ∨ s.paused then s
  else
    let s := setBus s b { x with ringNew := 0 }
    if rxRing s b = some x.ringAt then
      let s := storeN s x.ringAt 4 ((loadN s x.ringAt 4 + x.ringNew) % 2 ^ 32)
      forAll (fun s _ => packetNotice s (fld s (R.FB_RXQ b) F.FB_RXQ_QUEUE)) (upTo x.ringNew) s
    else s
/-- Rings are served again after an activation pause: packets that waited in the queues are taken (R500). -/
def resumeRings (s : State) : State :=
  forAll (fun s b => if fbRing s b && fbSt s b == 2 then drainQueue b (fld s (R.FB_RXQ b) F.FB_RXQ_QUEUE) 65536 s else s) (upTo 8) s
def publishRings (s : State) : State := forAll publishRing (upTo 8) s

/-- The lowest buffer that the transmit ring may load. -/
def ringBuffer (s : State) (b : Nat) : Option Nat :=
  (upTo 16).find? (fun n => (fld s (R.FB_TXMAP b) F.FB_TXMAP_MAP).testBit n && !bufBusy s b n)

/-- TX_RING_TAKE: entries from RD toward WR into buffers (R263). -/
def takeEntries (b base txn : Nat) : Nat → State → State
  | 0, s => s
  | k + 1, s =>
    let r := loadN s (base + 4) 4
    let e := base + 0x10 + 0x50 * (r % txn)
    let ctl : Word := BitVec.ofNat 32 (loadN s e 4 % 128)
    let id := loadN s (e + 4) 4 % 2 ^ 30
    let next (s : State) : State := storeN s (base + 4) 4 ((r + 1) % 2 ^ 32)
    if bufIllegal s b ctl || (!id.testBit 29 && id / 2048 != 0) then
      takeEntries b base txn k (next (bumpSat (storeN s (base + 8) 4 (satAdd 32 (loadN s (base + 8) 4) 1)) (R.FB_TXBAD b) 1))
    else match ringBuffer s b with
      | none => s
      | some n =>
        let s := wr (wr s (R.TXB_ID b n) (BitVec.ofNat 32 id)) (R.TXB_CTL b n) ctl
        let s := forAll (fun s i => wr s (R.TXB_DATA b n i) (BitVec.ofNat 32 (loadN s (e + 0x10 + 4 * i) 4))) (upTo 16) s
        takeEntries b base txn k (next (requestBuf s b n))

/-- The transmit ring of one bus at a tick boundary. -/
def serveTxRing (s : State) (b : Nat) : State :=
  let sub := fbSub s b
  match txRing s b with
  | none => s
  | some base =>
    if s.paused || !fbRing s b || fbSt s b != 2 || sub == cbBUSOFF || sub == cbRECOVERING || modeNow s == mdSAFE then s
    else
      let w := loadN s base 4
      let n := (w + 2 ^ 32 - loadN s (base + 4) 4) % 2 ^ 32
      if (busAt s b).listen || wantsListen s b then storeN s (base + 4) 4 w
      else txChoice (takeEntries b base (fld s (R.FB_RINGN b) F.FB_RINGN_TXN) n s) b
def serveTxRings (s : State) : State := forAll serveTxRing (upTo 8) s

/-! ## The commands -/

def canGated (q : Requester) (b off : Nat) (s : State) (k : State → State × Code) : State :=
  gated s q (fbPage b) off (fun s => endCommand (fbPage b) off (k s))

/-- CAN_INTEGRATION_COMPLETE (R248): 11 recessive bits; a bus-off that was cut short goes on recovering. -/
def execCanIntegrationComplete (b : Fin 8) (s : State) : Host.Outcome State Fault Refusal :=
  .next (if fbSub s b.val ≠ cbINTEGRATING then s
    else
      let s := setFbSt s b.val 2
      let x := busAt s b.val
      if x.owesRecovery then setFbSub (setBus s b.val { x with owesRecovery := false }) b.val cbRECOVERING
      else setFbSub s b.val (if passive s b.val then cbPASSIVE else cbACTIVE))
/-- CAN_FRAME_RECEIVED (R254). -/
def execCanFrameReceived (b : Fin 8) (x : CanFrame) (s : State) : Host.Outcome State Fault Refusal := .next (canFrameReceived s b.val x)
/-- CAN_TX_REQUEST (R259); `idle` says that the bus is idle. -/
def execCanTxRequest (q : Requester) (b : Fin 8) (bufs : Word) (idle : Bool) (s : State) : Host.Outcome State Fault Refusal :=
  .next (canGated q b.val 0x90 s (fun s => canTxRequest s b.val bufs idle))
/-- CAN_ARBITRATION_LOST (R261, R262). -/
def execCanArbitrationLost (b : Fin 8) (s : State) : Host.Outcome State Fault Refusal :=
  .next (match (busAt s b.val).active with
    | none => s
    | some n => if (busAt s b.val).won then s else attemptFails s b.val n)
/-- CAN_TX_DONE (R261): `sof` is the start-of-frame timestamp, `tdcv` the transmitter delay measured (R247). -/
def execCanTxDone (b : Fin 8) (sof : DWord) (tdcv : BitVec 7) (s : State) : Host.Outcome State Fault Refusal :=
  .next (canTxDone s b.val sof tdcv)
/-- CAN_TX_CANCEL (R262); `ph` says where the chosen buffer's frame stands. -/
def execCanTxCancel (q : Requester) (b : Fin 8) (bufs : Word) (ph : TxPhase) (s : State) : Host.Outcome State Fault Refusal :=
  .next (canGated q b.val 0x94 s (fun s => canTxCancel s b.val bufs ph))
/-- CAN_ERROR (R251). -/
def execCanError (b : Fin 8) (x : CanErr) (s : State) : Host.Outcome State Fault Refusal :=
  .next (if fbSub s b.val = cbACTIVE ∨ fbSub s b.val = cbPASSIVE then canError s b.val x else s)
/-- CAN_RECOVER (R252). -/
def execCanRecover (q : Requester) (b : Fin 8) (s : State) : Host.Outcome State Fault Refusal :=
  .next (canGated q b.val 0x8C s (fun s => canCommand s b.val 1))
/-- CAN_RECOVERY_COMPLETE (R252). -/
def execCanRecoveryComplete (b : Fin 8) (s : State) : Host.Outcome State Fault Refusal :=
  .next (if fbSub s b.val = cbRECOVERING then setFbSub (setCounters s b.val 0 0) b.val cbACTIVE else s)
/-- CAN_PROTOCOL_EXCEPTION (R253); under PXHD the recessive res bit is a form error (R244). -/
def execCanProtocolException (b : Fin 8) (s : State) : Host.Outcome State Fault Refusal :=
  let sub := fbSub s b.val
  .next (if (sub != cbACTIVE && sub != cbPASSIVE) || (busAt s b.val).active.isSome then s
    else if flag s (R.FB_CTRL b.val) F.FB_CTRL_PXHD then canError s b.val { code := 2, data := false, count := 1, clash := none }
    else canRaise (bumpSat (setFbSub s b.val cbEXCEPTION) (R.FB_PXCNT b.val) 1) b.val 7)
/-- CAN_EXCEPTION_END (R253). -/
def execCanExceptionEnd (b : Fin 8) (s : State) : Host.Outcome State Fault Refusal :=
  .next (if fbSub s b.val = cbEXCEPTION then txChoice (setFbSub s b.val (if passive s b.val then cbPASSIVE else cbACTIVE)) b.val else s)
/-- CAN_LISTEN_SWITCH (R250): at a bus idle the mode's change of listen-only takes effect. -/
def execCanListenSwitch (b : Fin 8) (s : State) : Host.Outcome State Fault Refusal :=
  let want := wantsListen s b.val
  .next (if fbSt s b.val = 0 ∨ want = (busAt s b.val).listen then s
    else
      let s := setBus s b.val { busAt s b.val with listen := want }
      if want then
        match (busAt s b.val).active with
        | some n => failPending (setBuf (noActive s b.val) b.val n bsPENDING) b.val bsCANCELLED
        | none => failPending s b.val bsCANCELLED
      else s)

end Sys2Proof.Machine
end

