-- ==== Sys2Proof/Machine/Ladle.lean ====
section
/-! DEFINITION. Ladle DMA (R378 to R390): descriptors, transactions, write-backs, bus errors, stopping and aborting, and the lite
channels. Bulk channels are channels 0 to 15, lite channel k is channel 16 + k. -/

namespace Sys2Proof.Machine

/-! ## States of a bulk channel -/

def ldPage (c : Nat) : Nat := 0x11 + c
def setPageSt (s : State) (page st : Nat) : State := setFld s (R.PG_STATE page) F.PG_STATE st
def pageSt (s : State) (page : Nat) : Nat := fld s (R.PG_STATE page) F.PG_STATE
def setSub (s : State) (page n : Nat) : State := setFld s (R.PG_STATE page) F.PG_SUBSTATE n
def subOf (s : State) (page : Nat) : Nat := fld s (R.PG_STATE page) F.PG_SUBSTATE
def lsIDLE : Nat := 0
def lsFETCH : Nat := 1
def lsMOVE : Nat := 2
def lsWRITEBACK : Nat := 3
def lsWAIT : Nat := 4
def lsFAULT : Nat := 5

/-- Begin a fetch: every fetch clears KICKED (R382). -/
def bulkFetch (s : State) (c : Nat) : State := setSub (setLadle s c { ladleAt s c with kicked := false, job := none }) (ldPage c) lsFETCH

/-- STARTING loads LDLB_CUR from LDLB_HEAD and fetches that descriptor (R382). -/
def bulkStart (s : State) (c : Nat) : State :=
  let s := setPageSt (setLadle s c {}) (ldPage c) 1
  bulkFetch (wr (wr s (R.LDLB_CUR c) (rd s (R.LDLB_HEAD c))) (R.LDLB_DONE c) 0) c

/-- A bulk channel reaches OFF; a latched re-arm starts it again (R32). -/
def bulkOff (s : State) (c : Nat) : State :=
  let s := showFault (setSub (setPageSt (setLadle s c {}) (ldPage c) 0) (ldPage c) lsIDLE) c false
  if flag s (R.PG_STATE (ldPage c)) F.PG_REARM then bulkStart (setFld s (R.PG_STATE (ldPage c)) F.PG_REARM 0) c else s

/-- Go on after a descriptor boundary: fetch NEXT, or reach OFF when stopping or at the end of the list (R382, R386). -/
def bulkNext (s : State) (c next : Nat) : State :=
  let s := wr s (R.LDLB_CUR c) (BitVec.ofNat 32 next)
  if next = 0 then
    let s := raiseBit s (ldPage c) 3
    let s := if pageSt s (ldPage c) = 3 then s else setFld s (R.PG_CTRL (ldPage c)) F.PG_EN 0
    bulkOff s c
  else if pageSt s (ldPage c) = 3 then bulkOff s c
  else bulkFetch s c

/-- A bulk channel enters FAULT (R381, R384). -/
def bulkFault (s : State) (c cause code addr : Nat) (dir desc : Bool) (tries was : Nat) : State :=
  let s := wr s (R.LDLB_FADDR c) (BitVec.ofNat 32 addr)
  let s := wr s (R.LDLB_FINFO c) (BitVec.ofNat 32
    (2 ^ 31 + b2n dir * 2 ^ 30 + b2n desc * 2 ^ 29 + cause * 2 ^ 24 + code * 2 ^ 16 + tries))
  let s := setSub (setLadle s c { ladleAt s c with was := was }) (ldPage c) lsFAULT
  raiseBit (showFault s c true) (ldPage c) 1

/-! ## Write-back (R383) -/

/-- One step of the write-back: words 14h, 18h, 1Ch, and last OWN. -/
def writeBackStep (s : State) (c : Nat) (j : LadleJob) (n : Nat) : State :=
  let x := ladleAt s c
  if n = 0 then storeN s (j.addr + 0x14) 4 (x.result * 2 ^ 28 + x.done % 2 ^ 24)
  else if n = 1 then storeN s (j.addr + 0x18) 4 (x.code * 2 ^ 24 + min x.denied 0xFFFF)
  else if n = 2 then storeN s (j.addr + 0x1C) 4 (s.now.toNat % 2 ^ 32)
  else storeN s j.addr 4 (j.ctrl.toNat % 2 ^ 31)

/-- The steps from the one that is due up to, and not including, step `n`. -/
def writeBackTo (s : State) (c : Nat) (j : LadleJob) (n : Nat) : State :=
  let k := (ladleAt s c).wbSteps
  let s := forAll (fun s i => if k ≤ i ∧ i < n then writeBackStep s c j i else s) (upTo 4) s
  setLadle s c { ladleAt s c with wbSteps := max k n }

/-- The whole write-back of a descriptor, with its DONE cause and its count. -/
def writeBack (s : State) (c : Nat) (j : LadleJob) : State :=
  let s := writeBackTo s c j 4
  let s := if bit j.ctrl 30 then raiseBit s (ldPage c) 0 else s
  bump s (R.LDLB_COUNT c) 1

/-- End the descriptor in hand with RESULT CHECK and halt in FAULT (R381). -/
def bulkCheckFault (s : State) (c : Nat) (j : LadleJob) (code : Code) : State :=
  let s := setLadle s c { ladleAt s c with job := some j, result := 1, code := codeNum code, wbSteps := 0 }
  bulkFault (writeBack s c j) c 2 (codeNum code) j.addr false true 0 lsWRITEBACK

/-! ## Bus errors (R384) -/

/-- Every attempt of a transaction has failed. `dir` is 1 for a write; `wb` names the step of a write-back that failed. -/
def ladleBus (s : State) (ch : Nat) (dir : Bool) (wb : Nat) : State :=
  let tries := fld s R.LDL_CFG F.LDL_CFG_RETRY_MAX
  let x := ladleAt s ch
  let moveAddr (j : LadleJob) : Nat := if dir then j.dst + x.done else j.src + x.done
  if ch < 16 then
    let sub := subOf s (ldPage ch)
    if sub = lsFETCH then bulkFault s ch 1 0 (rd s (R.LDLB_CUR ch)).toNat false true tries lsFETCH
    else match x.job with
      | none => s
      | some j =>
        if sub = lsMOVE then bulkFault s ch 1 0 (moveAddr j) dir false tries lsMOVE
        else if sub = lsWRITEBACK then
          let k := max x.wbSteps wb
          let at_ := if k = 0 then 0x14 else if k = 1 then 0x18 else if k = 2 then 0x1C else 0
          bulkFault (writeBackTo s ch j k) ch 1 0 (j.addr + at_) true true tries lsWRITEBACK
        else s
  else
    let k := ch - 16
    match x.job with
    | none => s
    | some j =>
      if liteFault s k then s
      else
        let w := rd s (R.lSTAT k)
        let s := wr s (R.lSTAT k) (withBits (withBits (withBits (withBits w 31 31 1) 30 30 (b2n dir)) 28 28 0) 27 24 0)
        let s := wr s (R.LDLL_FADDR (k / 8) (k % 8)) (BitVec.ofNat 32 (moveAddr j))
        raiseBit (showFault (setLadle s ch { x with was := lsMOVE }) ch true) (0x21 + k / 8) (k % 8)

/-! ## Fetch (R380, R382) -/

/-- The descriptor at an address. -/
def descriptorAt (s : State) (a : Nat) : LadleJob :=
  { addr := a, ctrl := BitVec.ofNat 32 (loadN s a 4), len := loadN s (a + 4) 3, src := loadN s (a + 8) 4, dst := loadN s (a + 12) 4
    next := loadN s (a + 16) 4 }

/-- Reserved bits of a descriptor are set. -/
def descriptorRsv (s : State) (a : Nat) : Bool := loadN s a 4 % 2 ^ 26 != 0 || byteAt s (a + 7) != 0

/-- DESCRIPTOR_FETCH: the fetch in progress completes. -/
def descriptorFetch (s : State) (c : Nat) : State :=
  let page := ldPage c
  let a := (rd s (R.LDLB_CUR c)).toNat
  let s := if pageSt s page = 1 then setPageSt s page 2 else s
  let code := descriptorCode s (pageOwner s page) a
  if code ≠ .none then bulkFault s c 2 (codeNum code) a false true 0 lsFETCH
  else if decodeError s a 32 false then ladleBus s c false 0
  else
    let j := descriptorAt s a
    if !bit j.ctrl 31 then
      if (ladleAt s c).kicked then bulkFetch s c
      else
        let s := raiseBit (setSub s page lsWAIT) page 2
        if pageSt s page = 3 then bulkOff s c else s
    else
      let s := wr (setLadle s c { ladleAt s c with job := some j, done := 0, denied := 0, gather := [], ended := false, result := 0
                                                   code := 0, wbSteps := 0 }) (R.LDLB_DONE c) 0
      match jobCheck s c j (descriptorRsv s a) with
      | .none => setSub s page lsMOVE
      | code => bulkCheckFault s c j code

/-- LADLE_KICK (R382): KICKED is set; a waiting channel fetches again. -/
def ladleKick (s : State) (c : Nat) : State :=
  if subOf s (ldPage c) = lsWAIT then bulkFetch s c else setLadle s c { ladleAt s c with kicked := true }

/-! ## Moving data (R379) -/

/-- The channel's transfer is being moved. -/
def moving (s : State) (ch : Nat) : Bool :=
  if ch < 16 then subOf s (ldPage ch) == lsMOVE else !liteFault s (ch - 16)

/-- Show the bytes moved so far; a bulk transfer that is complete goes on to its write-back. -/
def moved (s : State) (ch : Nat) (x : LadleCh) (j : LadleJob) : State :=
  let s := setLadle s ch x
  if ch < 16 then
    let s := wr s (R.LDLB_DONE ch) (BitVec.ofNat 32 x.done)
    if x.ended || decide (j.len ≤ x.done) then setSub s (ldPage ch) lsWRITEBACK else s
  else s

/-- The point of a window address. -/
def windowPoint (a : Nat) : Nat := ((a - 0x50000000) / 32) % 8192

/-- Read bytes for a channel: whole records from the point window, memory elsewhere. The last part counts denied records. -/
def ladleRead (s : State) (ch a n : Nat) : State × List Byte × Nat :=
  if inWindow a then
    (upTo (n / 32)).foldl (fun (acc : State × List Byte × Nat) i =>
      let (s, p, ok) := tryRead acc.1 (ladleFlask s ch) 8 (windowPoint (a + 32 * i))
      (s, acc.2.1 ++ (recordWords p).flatMap (fun w => leBytes 4 w.toNat), acc.2.2 + b2n !ok)) (s, [], 0)
  else
    let (s, b) := readBytes s a n
    (s, b, 0)

/-- Commit one record of a burst (R55): VALUE from words 0 and 1, QUALITY from byte 14h. On a standby it is discarded and counted (R344). -/
def ladleRecord (s : State) (ch pid : Nat) (b : List Byte) : State × Bool :=
  if shadowing s then (bumpSat s R.MIR_LOCALW 1, true)
  else
    let q := b.getD 20 0
    tryWrite s (ladleFlask s ch) 8 pid (BitVec.ofNat 64 (leNat (b.take 8))) (if writerQuality q then q else 0) s.now (sourceOf 7 ch)

/-- Write bytes for a channel; the number is that of denied records. -/
def ladleWrite (s : State) (ch a : Nat) (b : List Byte) : State × Nat :=
  if inWindow a then
    (upTo (b.length / 32)).foldl (fun (acc : State × Nat) i =>
      let (s, ok) := ladleRecord acc.1 ch (windowPoint (a + 32 * i)) ((b.drop (32 * i)).take 32)
      (s, acc.2 + b2n !ok)) (s, 0)
  else (putBytes s a b, 0)

/-- Push the words of a piece; SOP goes with the first item of the transfer and EOP with its last. -/
def ladlePushes (s : State) (ch : Nat) (j : LadleJob) (done : Nat) (b : List Byte) : State :=
  forAll (fun s i =>
    let at_ := done + 4 * i
    ladlePush s (j.dst % 64) ch (BitVec.ofNat 32 (leNat ((b.drop (4 * i)).take 4))) (jobSop j && at_ == 0)
      (jobEop j && decide (j.len ≤ at_ + 4))) (upTo (b.length / 4)) s

/-- The bytes that one transaction moves: what it asks for, in whole records or words, and not past the end. -/
def pieceLen (j : LadleJob) (done n : Nat) : Nat :=
  let unit := if (!jobSrcQ j && inWindow j.src) || (!jobDstQ j && inWindow j.dst) then 32 else if jobDstQ j then 4 else 1
  min (j.len - done) (max unit (n / unit * unit))

/-- LADLE_TRANSACTION: the next `n` bytes of the transfer, after the check of their ranges (R379, R381). -/
def ladleTransaction (s : State) (ch n : Nat) : State :=
  let x := ladleAt s ch
  match x.job with
  | none => s
  | some j =>
    if !moving s ch || jobSrcQ j || x.ended || decide (j.len ≤ x.done) then s
    else
      let k := pieceLen j x.done n
      let f := ladleFlask s ch
      let a := j.src + x.done
      let b := j.dst + x.done
      if rangeCode s f a k false ≠ .none ∨ (!jobDstQ j ∧ rangeCode s f b k true ≠ .none) then
        if ch < 16 then bulkCheckFault s ch j .accessFlask else liteCheckFault s (ch - 16) .accessFlask
      else if decodeError s a k false then ladleBus s ch false 0
      else if !jobDstQ j && decodeError s b k true then ladleBus s ch true 0
      else
        let (s, bytes, d1) := ladleRead s ch a k
        let (s, d2) := if jobDstQ j then (ladlePushes s ch j x.done bytes, 0) else ladleWrite s ch b bytes
        moved s ch { ladleAt s ch with done := x.done + k, denied := x.denied + d1 + d2 } j

/-- LADLE_QUEUE_POP (R395): a source-queue transfer takes one item; while the drain bank is empty it waits. -/
def ladleQueuePop (s : State) (ch : Nat) : State :=
  let x := ladleAt s ch
  match x.job with
  | none => s
  | some j =>
    if !moving s ch || !jobSrcQ j || x.ended || decide (j.len ≤ x.done) then s
    else
      let q := j.src % 64
      let f := ladleFlask s ch
      let r : State × Option (Word × Bool × Bool) :=
        if !mayQueue s q f then (queueDenied s q f, some (0, false, false))
        else if queueRing s q then (s, some (0, false, false))
        else takeItem s q
      match r with
      | (s, none) => s
      | (s, some (w, _, eop)) =>
        let b := j.dst + x.done
        let y := { x with done := x.done + 4, ended := eop }
        if jobDstQ j then
          moved (ladlePush s (j.dst % 64) ch w (jobSop j && x.done == 0) (jobEop j && (eop || decide (j.len ≤ x.done + 4)))) ch y j
        else if rangeCode s f b 4 true ≠ .none then
          if ch < 16 then bulkCheckFault s ch j .accessFlask else liteCheckFault s (ch - 16) .accessFlask
        else if inWindow b then
          let g := x.gather ++ [w]
          if g.length = 8 then
            let (s, d) := ladleWrite s ch (b - 28) (g.flatMap (fun w => leBytes 4 w.toNat))
            moved s ch { y with gather := [], denied := x.denied + d } j
          else moved s ch { y with gather := g } j
        else if decodeError s b 4 true then ladleBus s ch true 0
        else moved (storeN s b 4 w.toNat) ch y j

/-- DESCRIPTOR_WRITE_BACK (R383): the transfer is written back and the channel goes on. -/
def descriptorWriteBack (s : State) (c : Nat) : State :=
  match (ladleAt s c).job with
  | none => s
  | some j => if subOf s (ldPage c) = lsWRITEBACK then bulkNext (writeBack s c j) c j.next else s

/-! ## Leaving FAULT, stopping and aborting (R385 to R387) -/

/-- A bulk channel's EN is written 0 while it is not OFF (R385, R386). -/
def bulkStop (s : State) (c : Nat) : State :=
  let s := setPageSt s (ldPage c) 3
  let x := ladleAt s c
  let sub := subOf s (ldPage c)
  let next (s : State) : State := match x.job with | some j => wr s (R.LDLB_CUR c) (BitVec.ofNat 32 j.next) | none => s
  if sub = lsWAIT ∨ sub = lsIDLE then bulkOff s c
  else if sub = lsFAULT then
    match x.job with
    | some j =>
      if fld s (R.LDLB_FINFO c) F.LDLB_FINFO_CAUSE = 1 ∧ x.was = lsMOVE then
        bulkOff (next (writeBack (setLadle s c { x with result := 2, code := 0, wbSteps := 0 }) c j)) c
      else bulkOff (next s) c
    | none => bulkOff s c
  else s

/-- RESUME of a bulk channel (R385). -/
def bulkResume (s : State) (c : Nat) : State × Code :=
  if subOf s (ldPage c) ≠ lsFAULT then (s, .sequence)
  else
    let s := showFault s c false
    let x := ladleAt s c
    if fld s (R.LDLB_FINFO c) F.LDLB_FINFO_CAUSE = 1 then (setSub s (ldPage c) x.was, .none)
    else match x.job with
      | some j => (bulkNext s c j.next, .none)
      | none => (bulkFetch s c, .none)

/-- ABORT is legal in BOOT, RECOVERY and COMMISSION and in a debug session (R387). -/
def abortLegal (s : State) : Bool :=
  modeNow s == mdBOOT || modeNow s == mdRECOVERY || modeNow s == mdCOMMISSION || flag s R.DBG_STAT F.DBG_STAT_SESSION

/-- The packet that a channel had opened as producer is dropped (R387, R391). -/
def dropProduced (s : State) (ch : Nat) : State :=
  forAll (fun s q => if queueOn s q && queueProd s q == 1 && fld s (R.qCFG q) F.TND_CFG_PCH == ch then swapBanks (dropPacket s q) q else s) (upTo 64) s

/-- ABORT of a bulk channel (R387): which parts of the write-back the descriptor holds, and CUR, DONE and COUNT, are free. -/
def bulkAbort (s : State) (c : Nat) : State × Code :=
  if !abortLegal s then (s, .notInState)
  else
    let (s, w) := takeFree s
    let s := match (ladleAt s c).job with
      | some j => forAll (fun s i => if bit w i then writeBackStep s c j i else s) (upTo 4) s
      | none => s
    let s := dropProduced (showFault s c false) c
    let s := setFld (setFld s (R.PG_CTRL (ldPage c)) F.PG_EN 0) (R.PG_STATE (ldPage c)) F.PG_REARM 0
    let s := bulkOff s c
    let (s, a) := takeFree s
    let (s, b) := takeFree s
    let (s, n) := takeFree s
    (wr (wr (wr s (R.LDLB_CUR c) a) (R.LDLB_DONE c) (b &&& 0xFFFFFF)) (R.LDLB_COUNT c) n, .none)

/-- An LDLB_CMD operation. -/
def bulkCommand (s : State) (c op : Nat) : State × Code :=
  if op = 1 then bulkResume s c else if op = 2 then bulkAbort s c else (s, .illegalValue)

/-! ## Lite channels (R385, R386, R389, R390) -/

/-- A lite channel reaches OFF; a latched re-arm starts it again. -/
def liteOff (s : State) (k : Nat) : State :=
  let s := showFault (setFld (setLiteSt (setLadle s (0x10 + k) {}) k 0) (R.lSTAT k) F.LDLL_STAT_FAULT 0) (0x10 + k) false
  if flag s (R.lSTAT k) F.LDLL_STAT_REARM then setLiteSt (setFld s (R.lSTAT k) F.LDLL_STAT_REARM 0) k 1 else s

/-- A lite channel's EN is written 0 while it is not OFF: the transfer in progress completes, a pending trigger is discarded. -/
def liteStop (s : State) (k : Nat) : State :=
  let s := setFld (setLiteSt s k 3) (R.lSTAT k) F.LDLL_STAT_PEND 0
  if liteFault s k || (ladleAt s (0x10 + k)).job.isNone then liteOff s k else s

/-- A held trigger starts the next transfer. -/
def liteHeld (s : State) (k : Nat) : State :=
  if flag s (R.lSTAT k) F.LDLL_STAT_PEND ∧ liteSt s k = 2 then liteStart (setFld s (R.lSTAT k) F.LDLL_STAT_PEND 0) k else s

/-- RESUME of a lite channel. After a failed check no transfer is in hand: the channel waits for a trigger, or serves the held one. -/
def liteResume (s : State) (k : Nat) : State × Code :=
  if !liteFault s k then (s, .sequence)
  else
    let s := showFault (setFld (setFld s (R.lSTAT k) F.LDLL_STAT_FAULT 0) (R.lSTAT k) F.LDLL_STAT_CHECK 0) (0x10 + k) false
    if (ladleAt s (0x10 + k)).job.isSome then (s, .none)
    else if liteSt s k = 3 then (liteOff s k, .none)
    else (liteHeld s k, .none)

/-- ABORT of a lite channel (R387): its count is free. -/
def liteAbort (s : State) (k : Nat) : State × Code :=
  if !abortLegal s then (s, .notInState)
  else
    let s := dropProduced s (0x10 + k)
    let s := setFld (setFld (setFld s (R.lCTRL k) F.LDLL_CTRL_EN 0) (R.lSTAT k) F.LDLL_STAT_REARM 0) (R.lSTAT k) F.LDLL_STAT_PEND 0
    let (s, n) := takeFree (liteOff s k)
    (wr s (R.lCOUNT k) n, .none)

/-- GO (R389). -/
def liteGo (s : State) (k : Nat) : State × Code := if liteSt s k ≠ 2 then (s, .notInState) else (liteTrigger s k, .none)

/-- An LDLL_CMD operation. -/
def liteCommand (s : State) (k op : Nat) : State × Code :=
  if op = 1 then liteGo s k else if op = 2 then liteResume s k else if op = 3 then liteAbort s k else (s, .illegalValue)

/-- The completion item of a lite channel in queue NQ (R390). -/
def completionItem (s : State) (k : Nat) : State :=
  let c := R.lCTRL k
  if flag s c F.LDLL_CTRL_NQEN then
    let q := fld s c F.LDLL_CTRL_NQ
    if queueOn s q && queueProd s q == 2 && fld s (R.qCFG q) F.TND_CFG_OWNER == 0 then
      (pushItem s q (BitVec.ofNat 32 ((0x10 + k) * 2 ^ 24 + (rd s (R.lCOUNT k)).toNat % 65536)) true true).1
    else countDeny s q
  else s

/-- LITE_TRANSFER_COMPLETE (R390): the pulse goes to EVENT tasks, chained channels, the event matrix and queue NQ. -/
def liteComplete (s : State) (k : Nat) : State :=
  let x := ladleAt s (0x10 + k)
  match x.job with
  | none => s
  | some j =>
    if liteFault s k || !(x.ended || decide (j.len ≤ x.done)) then s
    else
      let s := bump (setLadle s (0x10 + k) {}) (R.lCOUNT k) 1
      let s := liteTriggers (eventSource s k) 3 k
      let s := completionItem (evtSet s (0x100 + k)) k
      if liteSt s k = 3 then liteOff s k else liteHeld s k

/-! ## The commands -/

def bulkGated (q : Requester) (c off : Nat) (s : State) (k : State → State × Code) : State :=
  gated s q (ldPage c) off (fun s => endCommand (ldPage c) off (k s))
def liteGated (q : Requester) (k : Nat) (s : State) (f : State → State × Code) : State :=
  gated s q (0x21 + k / 8) (0x50 + 0x20 * (k % 8)) (fun s => endCommand (0x21 + k / 8) (0x50 + 0x20 * (k % 8)) (f s))

/-- DESCRIPTOR_FETCH (R382). -/
def execDescriptorFetch (c : Fin 16) (s : State) : Host.Outcome State Fault Refusal :=
  .next (if subOf s (ldPage c.val) = lsFETCH then descriptorFetch s c.val else s)
/-- LADLE_KICK (R382). -/
def execLadleKick (q : Requester) (c : Fin 16) (s : State) : Host.Outcome State Fault Refusal :=
  .next (bulkGated q c.val 0x4C s (fun s => (ladleKick s c.val, .none)))
/-- LADLE_TRANSACTION (R379): one transaction of up to `n` bytes. -/
def execLadleTransaction (ch : Fin 64) (n : Fin 257) (s : State) : Host.Outcome State Fault Refusal :=
  .next (ladleTransaction s ch.val n.val)
/-- LADLE_QUEUE_POP (R395). -/
def execLadleQueuePop (ch : Fin 64) (s : State) : Host.Outcome State Fault Refusal := .next (ladleQueuePop s ch.val)
/-- DESCRIPTOR_WRITE_BACK (R383). -/
def execDescriptorWriteBack (c : Fin 16) (s : State) : Host.Outcome State Fault Refusal := .next (descriptorWriteBack s c.val)
/-- LADLE_BUS_ERROR (R384): the transaction in progress has failed at every attempt. -/
def execLadleBusError (ch : Fin 64) (write : Bool) (wb : Fin 4) (s : State) : Host.Outcome State Fault Refusal :=
  .next (ladleBus s ch.val write wb.val)
/-- LADLE_RESUME (R385). -/
def execLadleResume (q : Requester) (ch : Fin 64) (s : State) : Host.Outcome State Fault Refusal :=
  .next (if ch.val < 16 then bulkGated q ch.val 0x50 s (fun s => bulkResume s ch.val)
    else liteGated q (ch.val - 16) s (fun s => liteResume s (ch.val - 16)))
/-- LADLE_ABORT (R387). -/
def execLadleAbort (q : Requester) (ch : Fin 64) (s : State) : Host.Outcome State Fault Refusal :=
  .next (if ch.val < 16 then bulkGated q ch.val 0x50 s (fun s => bulkAbort s ch.val)
    else liteGated q (ch.val - 16) s (fun s => liteAbort s (ch.val - 16)))
/-- LITE_GO (R389). -/
def execLiteGo (q : Requester) (k : Fin 48) (s : State) : Host.Outcome State Fault Refusal :=
  .next (liteGated q k.val s (fun s => liteGo s k.val))
/-- LITE_TRANSFER_COMPLETE (R390). -/
def execLiteTransferComplete (k : Fin 48) (s : State) : Host.Outcome State Fault Refusal := .next (liteComplete s k.val)

end Sys2Proof.Machine
end

