-- ==== Sys2Proof/Machine/Calendar.lean ====
section
/-! DEFINITION. The calendar as numbers (R444): BCD digits, the lengths of months, and the seconds since its first day. -/

namespace Sys2Proof.Machine

/-- Two BCD digits as a number, and back. -/
def ofBcd (n : Nat) : Nat := n / 16 * 10 + n % 16
def toBcd (n : Nat) : Nat := n / 10 * 16 + n % 10

/-- Years since 2000 that are leap years (R444). -/
def leapYear (y : Nat) : Bool := y % 4 == 0 && y != 100

/-- Days of a month. -/
def monthDays (y m : Nat) : Nat :=
  if m = 2 then (if leapYear y then 29 else 28) else if m = 4 ∨ m = 6 ∨ m = 9 ∨ m = 11 then 30 else 31

/-- Year since 2000, month and day of an RTC_DATE word. -/
def dateYear (w : Word) : Nat := 100 * bits w 24 24 + ofBcd (bits w 23 16)
def dateMonth (w : Word) : Nat := ofBcd (bits w 12 8)
def dateDay (w : Word) : Nat := ofBcd (bits w 5 0)
/-- Hour, minute and second of an RTC_TIME word. -/
def timeHour (w : Word) : Nat := ofBcd (bits w 21 16)
def timeMin (w : Word) : Nat := ofBcd (bits w 14 8)
def timeSec (w : Word) : Nat := ofBcd (bits w 6 0)

/-- The RTC_DATE word of a day, and the RTC_TIME word of a time. -/
def dateWord (y m d : Nat) : Word :=
  BitVec.ofNat 32 (y / 100 * 2 ^ 24 + toBcd (y % 100) * 2 ^ 16 + toBcd m * 2 ^ 8 + toBcd d)
def timeWord (w h m x : Nat) : Word := BitVec.ofNat 32 (w * 2 ^ 24 + toBcd h * 2 ^ 16 + toBcd m * 2 ^ 8 + toBcd x)

/-- The date exists. -/
def dateExists (w : Word) : Bool :=
  let m := dateMonth w
  decide (1 ≤ m) && decide (m ≤ 12) && decide (1 ≤ dateDay w) && decide (dateDay w ≤ monthDays (dateYear w) m)

/-- Seconds from 2000-01-01 00:00:00 to a date and time. -/
def secondsOf (date time : Word) : Nat :=
  let y := dateYear date
  let days := 365 * y + (y + 3) / 4 - b2n (decide (100 < y)) + (upTo (dateMonth date - 1)).foldl (fun n i => n + monthDays y (i + 1)) 0 + (dateDay date - 1)
  days * 86400 + timeHour time * 3600 + timeMin time * 60 + timeSec time

/-- The calendar's present seconds. -/
def calSeconds (s : State) : Nat := secondsOf (rd s R.RTC_DATE) (rd s R.RTC_TIME)

/-- The next second (R444): the time rolls over, the weekday and the date advance at midnight; the range wraps after 2199-12-31. -/
def nextSecond (date time : Word) : Word × Word :=
  let h := timeHour time
  let m := timeMin time
  let x := timeSec time
  let wd := bits time 26 24
  if x < 59 then (date, timeWord wd h m (x + 1))
  else if m < 59 then (date, timeWord wd h (m + 1) 0)
  else if h < 23 then (date, timeWord wd (h + 1) 0 0)
  else
    let wd := if wd < 7 then wd + 1 else 1
    let y := dateYear date
    let mo := dateMonth date
    let d := dateDay date
    let date := if d < monthDays y mo then dateWord y mo (d + 1)
      else if mo < 12 then dateWord y (mo + 1) 1
      else dateWord (if y = 199 then 0 else y + 1) 1 1
    (date, timeWord wd 0 0 0)

end Sys2Proof.Machine
end

