-- ==== Sys2Proof/Machine/Float.lean ====
section
/-! DEFINITION. IEEE 754 binary32 and binary64 by exact integer arithmetic with one rounding to nearest, ties to even, subnormals
kept, and underflow detected after rounding (R118 to R120). Every operation gives its bits and the flags it raises. -/

namespace Sys2Proof.Machine

/-- A binary interchange format: precision in bits and width of the exponent field. -/
structure Fmt where
  p : Nat
  w : Nat
  deriving DecidableEq, Repr

def f32 : Fmt := ⟨24, 8⟩
def f64 : Fmt := ⟨53, 11⟩

/-- What a float is: a NaN (quiet or not), an infinity, or the exact value (-1)^neg * m * 2^e. -/
inductive FVal where
  | nan (quiet : Bool)
  | inf (neg : Bool)
  | num (neg : Bool) (m : Nat) (e : Int)
  deriving DecidableEq, Repr

/-- Float flags as bits of the status word (R106): IV bit 1, DZ bit 2, OF bit 3, UF bit 4, NX bit 5. -/
def flagIV : Nat := 2
def flagDZ : Nat := 4
def flagOF : Nat := 8
def flagUF : Nat := 16
def flagNX : Nat := 32

def fbias (f : Fmt) : Int := ((2 ^ (f.w - 1) : Nat) : Int) - 1
def fexpMask (f : Fmt) : Nat := 2 ^ f.w - 1

/-- The value that the bits spell. -/
def fdec (f : Fmt) (n : Nat) : FVal :=
  let frac := n % 2 ^ (f.p - 1)
  let ex := (n / 2 ^ (f.p - 1)) % 2 ^ f.w
  let neg := (n / 2 ^ (f.p - 1 + f.w)) % 2 == 1
  if ex = fexpMask f then (if frac = 0 then .inf neg else .nan (frac.testBit (f.p - 2)))
  else if ex = 0 then .num neg frac (2 - fbias f - f.p)
  else .num neg (frac + 2 ^ (f.p - 1)) (ex - fbias f - (f.p - 1 : Nat))

/-- The sign bit's weight. -/
def fsign (f : Fmt) (neg : Bool) : Nat := if neg then 2 ^ (f.p - 1 + f.w) else 0

/-- The bits of an infinity, and of the one NaN that operations produce (R118: 7FC0_0000h in binary32). -/
def finfBits (f : Fmt) (neg : Bool) : Nat := fsign f neg + fexpMask f * 2 ^ (f.p - 1)
def fnanBits (f : Fmt) : Nat := fexpMask f * 2 ^ (f.p - 1) + 2 ^ (f.p - 2)

/-- `m` divided by 2^k and rounded to nearest even; `sticky` says that the exact value lies above `m` by less than one. The second part says whether it was inexact. -/
def rshiftEven (m k : Nat) (sticky : Bool) : Nat × Bool :=
  let n := m / 2 ^ k
  let r := m % 2 ^ k
  let half := if k = 0 then 1 else 2 ^ (k - 1)
  let up := if k = 0 then false else decide (half < r) || (r == half && (sticky || n % 2 == 1))
  (n + b2n up, r != 0 || sticky)

/-- Round the exact value (-1)^neg * (m + sticky part) * 2^e into the format. -/
def fround (f : Fmt) (neg : Bool) (m : Nat) (e : Int) (sticky : Bool) : Nat × Nat :=
  if m = 0 then (fsign f neg, if sticky then flagUF + flagNX else 0)
  else
    let emin : Int := 1 - fbias f
    let top : Int := e + (Nat.log2 m : Nat)
    let q0 : Int := top - (f.p - 1 : Nat)
    let q : Int := max q0 (emin - (f.p - 1 : Nat))
    let sh (q : Int) : Nat × Bool := if q ≤ e then (m * 2 ^ (e - q).toNat, sticky) else rshiftEven m (q - e).toNat sticky
    let r := sh q
    let un := (sh q0).1
    let tiny : Bool := decide (top + (if un = 2 ^ f.p then 1 else 0) < emin)
    let carry := r.1 = 2 ^ f.p
    let n := if carry then 2 ^ (f.p - 1) else r.1
    let q := if carry then q + 1 else q
    if fbias f < q + (f.p - 1 : Nat) then (finfBits f neg, flagOF + flagNX)
    else
      let body := if n < 2 ^ (f.p - 1) then n else n - 2 ^ (f.p - 1) + (q + (f.p - 1 : Nat) + fbias f).toNat * 2 ^ (f.p - 1)
      (fsign f neg + body, if r.2 then flagNX + (if tiny then flagUF else 0) else 0)

/-- The flag of signalling NaN operands. -/
def snanFlag : List FVal → Nat
  | [] => 0
  | .nan false :: _ => flagIV
  | _ :: r => snanFlag r

/-- The sum of two exact values, rounded once. An exact zero is +0, or -0 when both are negative. -/
def fsumExact (f : Fmt) (n1 : Bool) (m1 : Nat) (e1 : Int) (n2 : Bool) (m2 : Nat) (e2 : Int) : Nat × Nat :=
  let e := min e1 e2
  let i (n : Bool) (m : Nat) (x : Int) : Int := let v : Int := ((m * 2 ^ (x - e).toNat : Nat) : Int); if n then -v else v
  let t := i n1 m1 e1 + i n2 m2 e2
  if t = 0 then (fsign f (n1 && n2), 0) else fround f (decide (t < 0)) t.natAbs e false

def faddV (f : Fmt) (a b : FVal) : Nat × Nat :=
  match a, b with
  | .nan _, _ => (fnanBits f, snanFlag [a, b])
  | _, .nan _ => (fnanBits f, snanFlag [a, b])
  | .inf x, .inf y => if x = y then (finfBits f x, 0) else (fnanBits f, flagIV)
  | .inf x, _ => (finfBits f x, 0)
  | _, .inf y => (finfBits f y, 0)
  | .num n1 m1 e1, .num n2 m2 e2 => fsumExact f n1 m1 e1 n2 m2 e2

/-- The value with its sign inverted. -/
def fnegV : FVal → FVal
  | .nan q => .nan q
  | .inf n => .inf (!n)
  | .num n m e => .num (!n) m e

def fmulV (f : Fmt) (a b : FVal) : Nat × Nat :=
  match a, b with
  | .nan _, _ => (fnanBits f, snanFlag [a, b])
  | _, .nan _ => (fnanBits f, snanFlag [a, b])
  | .inf x, .inf y => (finfBits f (x != y), 0)
  | .inf x, .num y m _ => if m = 0 then (fnanBits f, flagIV) else (finfBits f (x != y), 0)
  | .num x m _, .inf y => if m = 0 then (fnanBits f, flagIV) else (finfBits f (x != y), 0)
  | .num n1 m1 e1, .num n2 m2 e2 => fround f (n1 != n2) (m1 * m2) (e1 + e2) false

def fdivV (f : Fmt) (a b : FVal) : Nat × Nat :=
  match a, b with
  | .nan _, _ => (fnanBits f, snanFlag [a, b])
  | _, .nan _ => (fnanBits f, snanFlag [a, b])
  | .inf _, .inf _ => (fnanBits f, flagIV)
  | .inf x, .num y _ _ => (finfBits f (x != y), 0)
  | .num x _ _, .inf y => (fsign f (x != y), 0)
  | .num n1 m1 e1, .num n2 m2 e2 =>
    if m2 = 0 then (if m1 = 0 then (fnanBits f, flagIV) else (finfBits f (n1 != n2), flagDZ))
    else
      let k := f.p + 3 + Nat.log2 m2
      let n := m1 * 2 ^ k
      fround f (n1 != n2) (n / m2) (e1 - e2 - k) (n % m2 != 0)

/-- d + a * b with one rounding. A product 0 × ∞ is invalid whatever `d` holds (R118). -/
def ffmaV (f : Fmt) (d a b : FVal) : Nat × Nat :=
  let prodInv := match a, b with
    | .inf _, .num _ m _ => m == 0
    | .num _ m _, .inf _ => m == 0
    | _, _ => false
  if prodInv then (fnanBits f, flagIV)
  else match d, a, b with
    | .nan _, _, _ => (fnanBits f, snanFlag [d, a, b])
    | _, .nan _, _ => (fnanBits f, snanFlag [d, a, b])
    | _, _, .nan _ => (fnanBits f, snanFlag [d, a, b])
    | .num n3 m3 e3, .num n1 m1 e1, .num n2 m2 e2 => fsumExact f n3 m3 e3 (n1 != n2) (m1 * m2) (e1 + e2)
    | .inf z, .num _ _ _, .num _ _ _ => (finfBits f z, 0)
    | .inf z, a, b =>
      let s := fnegOf a != fnegOf b
      if z = s then (finfBits f z, 0) else (fnanBits f, flagIV)
    | .num _ _ _, a, b => (finfBits f (fnegOf a != fnegOf b), 0)
where
  /-- The sign of a value. -/
  fnegOf : FVal → Bool
    | .nan _ => false
    | .inf n => n
    | .num n _ _ => n

/-- The integer k-th root of `n`, from bit `b` down: the greatest r with r^k ≤ n. -/
def irootFrom (k n : Nat) : Nat → Nat → Nat
  | 0, r => if (r + 1) ^ k ≤ n then r + 1 else r
  | b + 1, r => let r' := r + 2 ^ (b + 1); irootFrom k n b (if r' ^ k ≤ n then r' else r)

/-- The integer k-th root of `n`. -/
def iroot (k n : Nat) : Nat := irootFrom k n (Nat.log2 n / k + 1) 0

/-- The k-th root of a positive exact value, rounded once. -/
def frootExact (f : Fmt) (k : Nat) (neg : Bool) (m : Nat) (e : Int) : Nat × Nat :=
  let want := k * (f.p + 2)
  let up0 := want - Nat.log2 m
  let adj := ((e - up0) % (k : Int)).toNat
  let up := up0 + adj
  let n := m * 2 ^ up
  let r := iroot k n
  fround f neg r ((e - up) / (k : Int)) (r ^ k != n)

def fsqrtV (f : Fmt) (a : FVal) : Nat × Nat :=
  match a with
  | .nan _ => (fnanBits f, snanFlag [a])
  | .inf false => (finfBits f false, 0)
  | .inf true => (fnanBits f, flagIV)
  | .num neg m e =>
    if m = 0 then (fsign f neg, 0) else if neg then (fnanBits f, flagIV) else frootExact f 2 false m e

/-- The cube root, rounded once (used by the profiler, R201). -/
def fcbrtV (f : Fmt) (a : FVal) : Nat × Nat :=
  match a with
  | .nan _ => (fnanBits f, snanFlag [a])
  | .inf n => (finfBits f n, 0)
  | .num neg m e => if m = 0 then (fsign f neg, 0) else frootExact f 3 neg m e

/-- a < b and a = b on ordered values. -/
def fltV (a b : FVal) : Bool :=
  match a, b with
  | .nan _, _ => false
  | _, .nan _ => false
  | .inf x, .inf y => x && !y
  | .inf x, .num _ _ _ => x
  | .num _ _ _, .inf y => !y
  | .num n1 m1 e1, .num n2 m2 e2 =>
    let e := min e1 e2
    let i (n : Bool) (m : Nat) (x : Int) : Int := let v : Int := ((m * 2 ^ (x - e).toNat : Nat) : Int); if n then -v else v
    decide (i n1 m1 e1 < i n2 m2 e2)
def isNanV : FVal → Bool
  | .nan _ => true
  | _ => false
def feqV (a b : FVal) : Bool := !isNanV a && !isNanV b && !fltV a b && !fltV b a

/-- The exact integer part of a value, truncated, or rounded to nearest even; the second part says whether it was inexact. -/
def ftoInt (near : Bool) (m : Nat) (e : Int) : Nat × Bool :=
  if 0 ≤ e then (m * 2 ^ e.toNat, false)
  else
    let k := (-e).toNat
    if near then rshiftEven m k false else (m / 2 ^ k, m % 2 ^ k != 0)

/-- Float to signed integer of `w` bits, saturating, NaN to 0 (R120). -/
def ftoS (w : Nat) (near : Bool) (a : FVal) : Int × Nat :=
  let hi : Int := ((2 ^ (w - 1) : Nat) : Int) - 1
  let lo : Int := -((2 ^ (w - 1) : Nat) : Int)
  match a with
  | .nan _ => (0, flagIV)
  | .inf n => (if n then lo else hi, flagIV)
  | .num neg m e =>
    let r := ftoInt near m e
    let v : Int := if neg then -(r.1 : Int) else r.1
    if v < lo then (lo, flagIV) else if hi < v then (hi, flagIV) else (v, if r.2 then flagNX else 0)

/-- Float to unsigned 32-bit integer, truncated and saturating (R120). -/
def ftoU (a : FVal) : Nat × Nat :=
  match a with
  | .nan _ => (0, flagIV)
  | .inf n => (if n then 0 else 2 ^ 32 - 1, flagIV)
  | .num neg m e =>
    let r := ftoInt false m e
    if neg then (if r.1 = 0 then (0, if r.2 then flagNX else 0) else (0, flagIV))
    else if 2 ^ 32 ≤ r.1 then (2 ^ 32 - 1, flagIV) else (r.1, if r.2 then flagNX else 0)

/-- An integer to float. -/
def fofInt (f : Fmt) (i : Int) : Nat × Nat := if i = 0 then (0, 0) else fround f (decide (i < 0)) i.natAbs 0 false

/-- The value of a binary32 word. -/
def fval (w : Word) : FVal := fdec f32 w.toNat

/-- The word of a result. -/
def fword (n : Nat) : Word := BitVec.ofNat 32 n

/-- FMIN and FMAX of R119. -/
def fminmax (wantMax : Bool) (a b : Word) : Nat × Nat :=
  let x := fval a
  let y := fval b
  if snanFlag [x, y] ≠ 0 then (fnanBits f32, flagIV)
  else match isNanV x, isNanV y with
    | true, true => (fnanBits f32, 0)
    | true, false => (b.toNat, 0)
    | false, true => (a.toNat, 0)
    | false, false =>
      let less := fltV x y || (!fltV y x && a.getLsbD 31 && !b.getLsbD 31)
      (if less = wantMax then b.toNat else a.toNat, 0)

/-- binary32 arithmetic on words, without the flags (for the loop engines and the metering DSPs). -/
def fadd32 (a b : Word) : Word := fword (faddV f32 (fval a) (fval b)).1
def fsub32 (a b : Word) : Word := fword (faddV f32 (fval a) (fnegV (fval b))).1
def fmul32 (a b : Word) : Word := fword (fmulV f32 (fval a) (fval b)).1
def fdiv32 (a b : Word) : Word := fword (fdivV f32 (fval a) (fval b)).1
def fofInt32 (i : Int) : Word := fword (fofInt f32 i).1
def flt32 (a b : Word) : Bool := fltV (fval a) (fval b)
def finite32 (a : Word) : Bool := match fval a with | .num _ _ _ => true | _ => false

end Sys2Proof.Machine
end

