-- ==== Sys2Proof/Machine/Loops.lean ====
section
/-! DEFINITION. The loop engines and the set-point profiler (R180 to R207). -/

namespace Sys2Proof.Machine

/-! ## Fixed-point arithmetic (R184, R185) -/

/-- Round to nearest, ties toward +infinity, then shift right. -/
def rndShr (v : Int) (n : Nat) : Int := (v + ((2 ^ (n - 1) : Nat) : Int)) / ((2 ^ n : Nat) : Int)
def sat32 (v : Int) : Int := clampInt (-0x80000000) 0x7FFFFFFF v
/-- The value held in 48 bits, and whether it was clamped. -/
def sat48 (v : Int) : Int × Bool := let r := clampInt (-0x800000000000) 0x7FFFFFFFFFFF v; (r, r != v)

/-- to_q30: round(n · 2^30) to nearest even, saturating; none for a NaN. -/
def toQ30 (n : Word) : Option Int :=
  match fval n with
  | .nan _ => none
  | .inf neg => some (if neg then -0x80000000 else 0x7FFFFFFF)
  | .num neg m e => let r := (ftoInt true m (e + 30)).1; some (sat32 (if neg then -(r : Int) else r))

/-- A binary64 as a binary32, rounded to nearest even, and a binary32 as a binary64, exactly. -/
def narrow (v : DWord) : Word :=
  match fdec f64 v.toNat with
  | .nan _ => fword (fnanBits f32)
  | .inf neg => fword (finfBits f32 neg)
  | .num neg m e => if m = 0 then fword (fsign f32 neg) else fword (fround f32 neg m e false).1
def widen (v : Word) : DWord :=
  match fval v with
  | .nan _ => BitVec.ofNat 64 (fnanBits f64)
  | .inf neg => BitVec.ofNat 64 (finfBits f64 neg)
  | .num neg m e => if m = 0 then BitVec.ofNat 64 (fsign f64 neg) else BitVec.ofNat 64 (fround f64 neg m e false).1

/-! ## Access to a loop -/

def loopAt (s : State) (n : Nat) : LoopState := tget (fun _ => {}) s.loops n
def setLoop (s : State) (n : Nat) (x : LoopState) : State := { s with loops := tput (fun _ => {}) s.loops n x }

/-- The states of a switchable function (R31). -/
def fsOFF : Nat := 0
def fsSTARTING : Nat := 1
def fsON : Nat := 2
def fsSTOPPING : Nat := 3

def loopSt (s : State) (n : Nat) : Nat := fld s (R.LPE_LSTAT n) F.LPE_LSTAT_STATE
def loopFlask (s : State) (n : Nat) : Nat := fld s (R.LPE_CFG n) F.LPE_CFG_FLASK
def loopNsec (s : State) (n : Nat) : Nat := fld s (R.LPE_CFG n) F.LPE_CFG_NSEC
def loopMode (s : State) (n : Nat) : Nat := fld s (R.LPE_CTRL n) F.LPE_CTRL_MODE
def loopSrc (s : State) (n : Nat) : Nat := fld s (R.LPE_CFG n) F.LPE_CFG_SP_SRC
def loopRef (s : State) (n : Nat) : Nat := fld s (R.LPE_PTS n) F.LPE_PTS_SP_REF
def loopU (s : State) (n : Nat) : Int := (rd s (R.LPE_UVAL n)).toInt

/-- Set STATE; LPE_COUNT.ON counts the engine's loops in ON. -/
def setLoopSt (s : State) (n st : Nat) : State :=
  let old := loopSt s n
  let k := R.LPE_COUNT (n / 128)
  let c := fld s k F.LPE_COUNT_ON
  let s := setFld s k F.LPE_COUNT_ON (c + b2n (st == fsON) - b2n (old == fsON))
  setFld s (R.LPE_LSTAT n) F.LPE_LSTAT_STATE st

/-- A loop sets a sticky bit of LPE_LSTAT and the matching cause of its page (R208). -/
def loopFlag (s : State) (n : Nat) (f : Fld) (cause : Nat) : State :=
  raiseBit (setFld s (R.LPE_LSTAT n) f 1) (0x49 + n / 128) cause

/-! ## Suspension (R182, R203, R204) -/

/-- Whether the engine, the mode or an activation pause excludes a loop from sampling. -/
def loopExcluded (s : State) (n : Nat) : Bool :=
  let md := modeNow s
  s.paused || !pageOn s (0x49 + n / 128) ||
  !(md == mdCOMMISSION || md == mdACTIVE || md == mdSTANDBY || (md == mdDOZE && flag s (R.LPE_CFG n) F.LPE_CFG_DOZE_RUN))

/-- Bring SUSP up to date; SAFE discards pending outputs. -/
def refreshLoop (s : State) (n : Nat) : State :=
  let st := loopSt s n
  if st = fsOFF then s
  else
    let susp := (st == fsSTARTING || st == fsON) && loopExcluded s n
    let s := setFld s (R.LPE_LSTAT n) F.LPE_LSTAT_SUSP (b2n susp)
    let x := loopAt s n
    setLoop s n { x with wasSusp := x.wasSusp || susp, out := if modeNow s = mdSAFE then none else x.out }
def refreshLoops (s : State) : State := forAll refreshLoop (upTo 512) s

/-! ## Inputs (R186, R187) -/

/-- The engineering value of a record as a float32; none for a DTYPE that loops do not take. -/
def engValue (p : Point) : Option Word :=
  let n := p.value.toNat
  let d := p.dtype.toNat
  if d = 2 then some (fofInt32 (signedOf 16 n)) else if d = 3 then some (fofInt32 (signedOf 32 n))
  else if d = 5 then some (fofInt32 (n % 2 ^ 32)) else if d = 7 then some (BitVec.ofNat 32 n)
  else if d = 8 then some (narrow p.value) else none

/-- The DTYPEs of R183 and R191: INT, DINT, UDINT, REAL, LREAL. -/
def loopDtype (d : Nat) : Bool := d == 2 || d == 3 || d == 5 || d == 7 || d == 8

/-- Read a point for a loop's flask: its engineering value where it is usable. A denial is counted on path 3h. -/
def loopInput (s : State) (n pid : Nat) : State × Option Word :=
  let (s, p, ok) := tryRead s (loopFlask s n) 3 pid
  let q := p.quality.toNat
  if ok && (q == 0 || q == 1 || q == 3) then
    match engValue p with
    | some v => (s, if isNanV (fval v) then none else some v)
    | none => (s, none)
  else (s, none)

/-- to_q30((v − IN_OFS) × IN_GAIN). -/
def scaleIn (s : State) (n : Nat) (v : Word) : Option Int :=
  toQ30 (fmul32 (fsub32 v (rd s (R.LPE_SCL n 0))) (rd s (R.LPE_SCL n 1)))

/-- A slave may take a master of its own flask alone (R183). -/
def masterAllowed (s : State) (n m : Nat) : Bool := loopFlask s m == loopFlask s n

/-- The master's output in Q1.30 (R195); `now` holds the outputs that loops computed at this boundary. -/
def masterOutput (s : State) (now : List (Nat × Int)) (n : Nat) : Option Int :=
  let m := loopRef s n % 512
  if loopSt s m ≠ fsON ∨ flag s (R.LPE_LSTAT m) F.LPE_LSTAT_SUSP ∨ !masterAllowed s n m then none
  else match now.find? (fun x => x.1 == m) with
    | some (_, u) => if m / 128 = n / 128 ∧ m < n then some u else some (loopU s m)
    | none => some (loopU s m)

/-! ## The profiler (R200, R201) -/

structure Profile where
  p : Word
  v : Word
  a : Word
  deriving DecidableEq, Repr

def fabs32 (x : Word) : Word := x &&& 0x7FFFFFFF
def fcopysign (x y : Word) : Word := (x &&& 0x7FFFFFFF) ||| (y &&& 0x80000000)
def fmin32 (a b : Word) : Word := if flt32 b a then b else a
def fmax32 (a b : Word) : Word := if flt32 a b then b else a
def fle32 (a b : Word) : Bool := flt32 a b || feqV (fval a) (fval b)
def fsqrt32 (a : Word) : Word := fword (fsqrtV f32 (fval a)).1
def fcbrt32 (a : Word) : Word := fword (fcbrtV f32 (fval a)).1
/-- The float constants of R201. -/
def fHalf : Word := 0x3F000000
def f2 : Word := 0x40000000
def f3 : Word := 0x40400000
def f6 : Word := 0x40C00000
def f8 : Word := 0x41000000
/-- 0.001 as a float32, of h = DIV × 0.001. -/
def fMilli : Word := 0x3A83126F

/-- One profiler step toward `t` under VMAX, AMAX, JMAX and the step h. -/
def profileStep (x : Profile) (t vm am jm h : Word) : Profile :=
  let ta := fdiv32 (fabs32 x.a) jm
  let p0 := fadd32 (fadd32 x.p (fmul32 x.v ta)) (fdiv32 (fmul32 (fmul32 x.a ta) ta) f3)
  let d0 := fsub32 t p0
  let d := fabs32 d0
  let a3 := fmul32 (fmul32 am am) am
  let j2 := fmul32 jm jm
  let vb := if fle32 (fdiv32 a3 j2) d then
      fmul32 fHalf (fsub32 (fsqrt32 (fadd32 (fdiv32 (fmul32 a3 am) j2) (fmul32 (fmul32 f8 am) d))) (fdiv32 (fmul32 am am) jm))
    else fcbrt32 (fmul32 (fmul32 jm d) d)
  let vt := fcopysign (fmin32 vm vb) d0
  let dv := fsub32 vt x.v
  let ar := fcopysign (fmin32 am (fsqrt32 (fmul32 (fmul32 f2 jm) (fabs32 dv)))) dv
  let j := fmin32 (fmax32 (fdiv32 (fsub32 ar x.a) h) (jm ^^^ 0x80000000)) jm
  let p := fadd32 (fadd32 (fadd32 x.p (fmul32 x.v h)) (fdiv32 (fmul32 (fmul32 x.a h) h) f2))
    (fdiv32 (fmul32 (fmul32 (fmul32 j h) h) h) f6)
  let v := fadd32 (fadd32 x.v (fmul32 x.a h)) (fdiv32 (fmul32 (fmul32 j h) h) f2)
  let a := fadd32 x.a (fmul32 j h)
  let jh := fmul32 jm h
  if fle32 (fabs32 (fsub32 t p)) (fmul32 (fmul32 jh h) h) && fle32 (fabs32 v) (fmul32 jh h) && fle32 (fabs32 a) jh then
    { p := t, v := 0, a := 0 }
  else { p := p, v := v, a := a }

def profileOf (s : State) (n : Nat) : Profile := { p := rd s (R.LPE_PRFS n 0), v := rd s (R.LPE_PRFS n 1), a := rd s (R.LPE_PRFS n 2) }
def setProfile (s : State) (n : Nat) (x : Profile) : State :=
  wr (wr (wr s (R.LPE_PRFS n 0) x.p) (R.LPE_PRFS n 1) x.v) (R.LPE_PRFS n 2) x.a

/-- The profiler's target at a sample: the register, or the point's last usable value; before any, the position. -/
def loopTarget (s : State) (n : Nat) : State × Word :=
  if flag s (R.LPE_CFG n) F.LPE_CFG_TGT_PT then
    let (s, v) := loopInput s n (loopRef s n)
    let x := loopAt s n
    match v with
    | some t => (setLoop s n { x with target := some t }, t)
    | none => (s, x.target.getD (profileOf s n).p)
  else (s, rd s (R.LPE_PRFT n))

/-- PRF_DONE: p equals T with v and a at 0. -/
def showDone (s : State) (n : Nat) (t : Word) : State :=
  let x := profileOf s n
  let zero (w : Word) : Bool := feqV (fval w) (fval 0)
  setFld s (R.LPE_LSTAT n) F.LPE_LSTAT_PRF_DONE (b2n (feqV (fval x.p) (fval t) && zero x.v && zero x.a))

/-- The profiler's part of a sample: a step in AUTO, the input in MANUAL and TRACK, nothing while the input is unusable. The last part says whether a step was taken. -/
def profileSample (s : State) (n : Nat) (ev : Option Word) : State × Bool :=
  let (s, t) := loopTarget s n
  match ev with
  | none => (showDone s n t, false)
  | some v =>
    if loopMode s n = 0 then
      let x := profileStep (profileOf s n) t (rd s (R.LPE_PRFL n 0)) (rd s (R.LPE_PRFL n 1)) (rd s (R.LPE_PRFL n 2)) (loopAt s n).step
      (showDone (setProfile s n x) n t, true)
    else (showDone (setProfile s n { p := v, v := 0, a := 0 }) n t, false)

/-! ## Sections (R188, R190, R197) -/

def coef (s : State) (n k c : Nat) : Int := (rd s (R.LPE_COEF n (fld s (R.LPE_BANK n) F.LPE_BANK_ACTIVE) k c)).toInt
def secState (s : State) (n k j : Nat) : Int :=
  signedOf 64 ((rd s (R.LPE_STATE n k j 0)).toNat + (rd s (R.LPE_STATE n k j 1)).toNat * 2 ^ 32)

/-- Set a section state; a clamp sets STATE_SAT. -/
def setSecState (s : State) (n k j : Nat) (v : Int) : State :=
  let r := sat48 v
  let c := codeOf 64 r.1
  let s := wr (wr s (R.LPE_STATE n k j 0) (BitVec.ofNat 32 c)) (R.LPE_STATE n k j 1) (BitVec.ofNat 32 (c / 2 ^ 32))
  if r.2 then loopFlag s n F.LPE_LSTAT_STATE_SAT 3 else s

/-- The output pass: each section's input and output. -/
def outputPass (s : State) (n : Nat) (x : Int) (k : Nat) : Nat → List (Int × Int)
  | 0 => []
  | m + 1 =>
    let y := sat32 (rndShr (rndShr (coef s n k 0 * x) 12 + secState s n k 0 * 256) 16)
    (x, y) :: outputPass s n y (k + 1) m

/-- The state pass of one section from its input and fed-back output. -/
def sectionUpdate (s : State) (n k : Nat) (x f : Int) : State :=
  let s1 := rndShr (rndShr (coef s n k 1 * x) 12 - rndShr (coef s n k 3 * f) 12 + secState s n k 1 * 256) 8
  let s2 := rndShr (rndShr (coef s n k 2 * x) 12 - rndShr (coef s n k 4 * f) 12) 8
  setSecState (setSecState s n k 0 s1) n k 1 s2

/-- Back-calculation of the last section from U and XL with the active coefficients. -/
def backCalc (s : State) (n : Nat) : State :=
  let l := loopNsec s n - 1
  let u := loopU s n
  let xl := (rd s (R.LPE_XL n)).toInt
  let s1 := rndShr (u * 65536 - rndShr (coef s n l 0 * xl) 12) 8
  let s2 := rndShr (rndShr (coef s n l 2 * xl) 12 - rndShr (coef s n l 4 * u) 12) 8
  setSecState (setSecState s n l 0 s1) n l 1 s2

/-! ## Swaps (R196, R199) -/

/-- A swap takes effect: ACTIVE changes, SWAP_PEND clears, SWAPPED is set. -/
def swapNow (s : State) (n : Nat) : State :=
  let a := fld s (R.LPE_BANK n) F.LPE_BANK_ACTIVE
  let s := setFld (setFld s (R.LPE_BANK n) F.LPE_BANK_ACTIVE (1 - a)) (R.LPE_BANK n) F.LPE_BANK_SWAP_PEND 0
  loopFlag s n F.LPE_LSTAT_SWAPPED 0

/-- A swap is requested: at once in OFF and STOPPING, else pending. -/
def requestSwap (s : State) (n : Nat) : State :=
  let st := loopSt s n
  if st = fsOFF ∨ st = fsSTOPPING then swapNow s n else setFld s (R.LPE_BANK n) F.LPE_BANK_SWAP_PEND 1

/-- SWAP of LPE_BANK: BUSY while one is pending. -/
def bankSwap (s : State) (n : Nat) : State × Code :=
  if flag s (R.LPE_BANK n) F.LPE_BANK_SWAP_PEND then (s, .busy) else (requestSwap s n, .none)

/-- LPG_GSWAP: every loop of the named groups without a pending swap. -/
def groupSwap (s : State) (groups : Nat) : State :=
  forAll (fun s n => if groups.testBit (fld s (R.LPE_CTRL n) F.LPE_CTRL_GROUP) && !flag s (R.LPE_BANK n) F.LPE_BANK_SWAP_PEND
    then requestSwap s n else s) (upTo 512) s

/-! ## Applying outputs (R191, R192) -/

/-- The committed value of an output for a DTYPE; none for one that loops do not write. -/
def outValue (s : State) (n : Nat) (u : Int) (dtype : Nat) : Option DWord :=
  let un := fmul32 (fofInt32 u) 0x30800000
  let v := fadd32 (fmul32 un (rd s (R.LPE_SCL n 3))) (rd s (R.LPE_SCL n 2))
  if dtype = 7 then some (v.setWidth 64) else if dtype = 8 then some (widen v)
  else if dtype = 2 then some (BitVec.ofInt 64 (ftoS 16 true (fval v)).1)
  else if dtype = 3 then some (BitVec.ofInt 64 (ftoS 32 true (fval v)).1)
  else if dtype = 5 then
    let r : Nat := match fval v with
      | .nan _ => 0
      | .inf neg => if neg then 0 else 2 ^ 32 - 1
      | .num neg m e => if neg then 0 else min (2 ^ 32 - 1) (ftoInt true m e).1
    some (BitVec.ofNat 64 r)
  else none

/-- Commit an output to its point under R46; on a standby it is discarded and counted (R203, R344). -/
def commitOutput (s : State) (n : Nat) (o : LoopOut) : State :=
  let pid := fld s (R.LPE_PTO n) F.LPE_PTO_OUT_PT
  let p := pointAt s pid
  if modeNow s = mdSTANDBY then bumpSat s R.MIR_LOCALW 1
  else if mayWrite (loopFlask s n) p then
    match outValue s n o.u.toInt p.dtype.toNat with
    | some v => writePoint s pid v o.quality s.now (sourceOf 2 n)
    | none => loopFlag s n F.LPE_LSTAT_TYPE_BAD 4
  else loopFlag (deny s (loopFlask s n) 3 pid) n F.LPE_LSTAT_OUTPUT_DENIED 2

/-- Apply the pending output of a loop that is due at tick `k`; U takes u. -/
def applyOutput (k : Nat) (s : State) (n : Nat) : State :=
  match (loopAt s n).out with
  | some o =>
    if o.due ≤ k then
      let s := commitOutput s n o
      setLoop (wr s (R.LPE_UVAL n) o.u) n { loopAt s n with out := none }
    else s
  | none => s

/-! ## Starting and stopping (R182, R200) -/

/-- A loop enters STARTING: h and the profiler are formed. -/
def startLoop (s : State) (n : Nat) : State :=
  let s := setLoopSt s n fsSTARTING
  let h := fmul32 (fofInt32 (fld s (R.LPE_TIME n) F.LPE_TIME_DIV)) fMilli
  let s := setLoop s n { loopAt s n with step := h, target := none, wasSusp := false }
  let s := if loopSrc s n = 3 then
      let (s, ev) := loopInput s n (fld s (R.LPE_PTS n) F.LPE_PTS_IN_PT)
      let prft := rd s (R.LPE_PRFT n)
      match ev with
      | some v => setProfile s n { p := v, v := 0, a := 0 }
      | none =>
        if flag s (R.LPE_CFG n) F.LPE_CFG_TGT_PT then
          let (s, t) := loopInput s n (loopRef s n)
          let t := t.getD prft
          setProfile (setLoop s n { loopAt s n with target := some t }) n { p := t, v := 0, a := 0 }
        else setProfile s n { p := prft, v := 0, a := 0 }
    else s
  refreshLoop s n

/-- A STOPPING loop with no pending output reaches OFF; a latched re-arm starts it again (R32). -/
def finishLoop (s : State) (n : Nat) : State :=
  if loopSt s n = fsSTOPPING ∧ (loopAt s n).out = none then
    let s := setFld (setLoopSt s n fsOFF) (R.LPE_LSTAT n) F.LPE_LSTAT_SUSP 0
    if flag s (R.LPE_LSTAT n) F.LPE_LSTAT_REARM then startLoop (setFld s (R.LPE_LSTAT n) F.LPE_LSTAT_REARM 0) n else s
  else s

/-! ## One sample (R188 to R190, R194 to R197, R204, R205) -/

/-- Replace the section states by the mirrored ones (R205). -/
def replaceStates (s : State) (n : Nat) : State :=
  let m := (loopAt s n).mirrored
  if modeNow s = mdSTANDBY ∧ m.length = 8 then
    forAll (fun s i => setSecState s n (i / 2) (i % 2) (m.getD i 0).toInt) (upTo 8) s
  else s

/-- The swap and the back-calculation that come before a sample is evaluated; the last part says whether a back-calculation ran. -/
def beforeSample (s : State) (n : Nat) : State × Bool :=
  let s := replaceStates s n
  let x := loopAt s n
  let pend := flag s (R.LPE_BANK n) F.LPE_BANK_SWAP_PEND
  let want := x.wasSusp || (pend && loopSt s n == fsON)
  let s := setLoop s n { x with wasSusp := false }
  let s := if pend then swapNow s n else s
  if want && flag s (R.LPE_CTRL n) F.LPE_CTRL_BUMPLESS && flag s (R.LPE_CFG n) F.LPE_CFG_INTEG then (backCalc s n, true) else (s, false)

/-- The set-point of a sample (R187), from the profiler's position where SP_SRC is PROFILER. -/
def loopSetpoint (s : State) (now : List (Nat × Int)) (n : Nat) : State × Option Int :=
  let src := loopSrc s n
  if src = 0 then (s, scaleIn s n (rd s (R.LPE_SPC n)))
  else if src = 1 then
    let (s, v) := loopInput s n (loopRef s n)
    (s, v.bind (scaleIn s n))
  else if src = 2 then (s, masterOutput s now n)
  else (s, scaleIn s n (profileOf s n).p)

/-- The output before the clamp, where the mode or a fault selects it (R189), and its QUALITY; none means the cascade's output. -/
def selectOutput (s : State) (n : Nat) (usable : Bool) : State × Option Int × Byte :=
  let mode := loopMode s n
  if mode = 1 then (s, some (rd s (R.LPE_MAN n)).toInt, 0)
  else if mode = 2 then
    let (s, t) := loopInput s n (fld s (R.LPE_PTO n) F.LPE_PTO_TRK_PT)
    match t.bind (fun v => toQ30 (fmul32 (fsub32 v (rd s (R.LPE_SCL n 2))) (rd s (R.LPE_SCL n 4)))) with
    | some z => (s, some z, 0)
    | none => (loopFlag s n F.LPE_LSTAT_FAULT_SEEN 1, some (loopU s n), 2)
  else if usable then (s, none, 0)
  else (s, some (if flag s (R.LPE_CTRL n) F.LPE_CTRL_FAIL_ACT then (rd s (R.LPE_FAILV n)).toInt else loopU s n), 2)

/-- Sample one loop at tick `k`: `now` gathers the outputs computed at this boundary, `cyc` the engine cycles spent (R194). -/
def sampleLoop (k : Nat) (a : State × List (Nat × Int) × Nat) (n : Nat) : State × List (Nat × Int) × Nat :=
  let (s, now, cyc) := a
  let (s, bc) := beforeSample s n
  let nsec := loopNsec s n
  let (s, ev) := loopInput s n (fld s (R.LPE_PTS n) F.LPE_PTS_IN_PT)
  let pv := ev.bind (scaleIn s n)
  let (s, stepped) := if loopSrc s n = 3 then profileSample s n (if pv.isSome then ev else none) else (s, false)
  let (s, sp) := loopSetpoint s now n
  let s := match pv with | some v => wr s (R.LPE_PVN n) (BitVec.ofInt 32 v) | none => s
  let s := match sp with | some v => wr s (R.LPE_SPN n) (BitVec.ofInt 32 v) | none => s
  let usable := pv.isSome && sp.isSome
  let s := setFld s (R.LPE_LSTAT n) F.LPE_LSTAT_IN_FAULT (b2n !usable)
  let s := if usable then s else loopFlag s n F.LPE_LSTAT_FAULT_SEEN 1
  let (s, sel, q) := selectOutput s n usable
  let d := sp.getD 0 - pv.getD 0
  let e := sat32 (if flag s (R.LPE_CFG n) F.LPE_CFG_REVERSE then -d else d)
  let ys := if usable then outputPass s n e 0 nsec else []
  let last := (ys.getLast?).getD (0, 0)
  let raw := sel.getD last.2
  let lo := (rd s (R.LPE_LIM n 0)).toInt
  let hi := (rd s (R.LPE_LIM n 1)).toInt
  let u := min (max raw lo) hi
  let s := setFld (setFld s (R.LPE_LSTAT n) F.LPE_LSTAT_SAT_HI (b2n (decide (hi < raw)))) (R.LPE_LSTAT n) F.LPE_LSTAT_SAT_LO (b2n (decide (raw < lo)))
  let integ := flag s (R.LPE_CFG n) F.LPE_CFG_INTEG
  let s := if usable then
      let s := (ys.zipIdx).foldl (fun s (xy, i) => sectionUpdate s n i xy.1 (if integ ∧ i + 1 = nsec then u else xy.2)) s
      wr s (R.LPE_XL n) (BitVec.ofInt 32 last.1)
    else s
  let div := fld s (R.LPE_TIME n) F.LPE_TIME_DIV
  let s := setLoop s n { loopAt s n with out := some { u := BitVec.ofInt 32 u, quality := q, due := k + div } }
  let s := if loopSt s n = fsSTARTING then setLoopSt s n fsON else s
  (s, (n, u) :: now, cyc + 56 + (if usable then 14 * nsec else 0) + (if stepped then 72 else 0) + (if bc then 24 else 0))

/-- The loops of an engine that sample at tick `k` (R181), by rising slot. -/
def samplesAt (s : State) (k e : Nat) : List Nat :=
  ((upTo 128).map (fun i => e * 128 + i)).filter (fun n =>
    let st := loopSt s n
    let div := fld s (R.LPE_TIME n) F.LPE_TIME_DIV
    (st == fsON || st == fsSTARTING) && !flag s (R.LPE_LSTAT n) F.LPE_LSTAT_SUSP && div != 0 &&
      k % div == fld s (R.LPE_TIME n) F.LPE_TIME_PHASE)

/-- One engine at a boundary. The time from the boundary to the end of evaluation starts with at most 12 µs of application and reading (R192),
of which the manual states no more: a free value, assumption 7. -/
def engineTick (k : Nat) (a : State × List (Nat × Int)) (e : Nat) : State × List (Nat × Int) :=
  let ls := samplesAt a.1 k e
  if ls = [] then a
  else
    let (s, now, cyc) := ls.foldl (sampleLoop k) (a.1, a.2, 0)
    let t := (Config.freeWord s.free).toNat % 1201 + (cyc + 3) / 4
    let s := { s with free := s.free + 1, loopBusy := tput (fun _ => 0) s.loopBusy e (tget (fun _ => 0) s.loopBusy e + cyc) }
    (setFld s (R.LPE_LOAD e) F.LPE_LOAD_MAX_EVAL (min 0xFFFF (max t (fld s (R.LPE_LOAD e) F.LPE_LOAD_MAX_EVAL))), now)

/-- LPE_LOAD.LOAD of every engine at a full second: busy time in per mille, at 2.5 ns per cycle. -/
def measureLoops (s : State) : State :=
  let s := forAll (fun s e => setFld s (R.LPE_LOAD e) F.LPE_LOAD_LOAD (min 1000 (tget (fun _ => 0) s.loopBusy e / 400000))) (upTo 4) s
  { s with loopBusy := [] }

/-- An engine that is leaving ON reaches OFF once no output is pending (R207). -/
def enginePending (s : State) (e : Nat) : Bool := s.loops.any (fun (n, x) => n / 128 == e && x.out.isSome)

/-- Every engine evaluates its samples of tick `k`, engine 0 first (R192). -/
def engineTicks (s : State) (k : Nat) : State := ((upTo 4).foldl (engineTick k) (s, [])).1

/-- The loop engines at tick `k` (R192): outputs due, loops that stop, then inputs and evaluation in rising order. -/
def loopTick (s : State) (k : Nat) : State :=
  let s := refreshLoops s
  let s := forAll (applyOutput k) (s.loops.map (·.1)) s
  let s := forAll finishLoop (upTo 512) s
  engineTicks s k

/-! ## Enabling (R183) -/

/-- The points that an enable checks, and whether each is read. -/
def checkedPoints (s : State) (n mode : Nat) : List (Nat × Bool) :=
  let src := loopSrc s n
  let ref := src == 1 || (src == 3 && flag s (R.LPE_CFG n) F.LPE_CFG_TGT_PT)
  [(fld s (R.LPE_PTS n) F.LPE_PTS_IN_PT, true), (fld s (R.LPE_PTO n) F.LPE_PTO_OUT_PT, false)] ++
  (if ref then [(loopRef s n, true)] else []) ++ (if mode = 2 then [(fld s (R.LPE_PTO n) F.LPE_PTO_TRK_PT, true)] else [])

/-- The conditions of R183, in the order of its table, with `w` the word written. -/
def enableLoopCheck (s : State) (n : Nat) (w : Word) : Code :=
  let f := loopFlask s n
  let ps := checkedPoints s n (bits w 26 24)
  let nsec := loopNsec s n
  if !flaskEnabled s f then .illegalValue
  else if nsec = 0 ∨ 4 < nsec ∨ fld s (R.LPE_TIME n) F.LPE_TIME_DIV ≤ fld s (R.LPE_TIME n) F.LPE_TIME_PHASE then .illegalValue
  else if ps.any (fun x => !(pointAt s x.1).alloc) then .notInState
  else if ps.any (fun x => !loopDtype (pointAt s x.1).dtype.toNat) then .illegalValue
  else if ps.any (fun x => if x.2 then !mayRead f (pointAt s x.1) else !mayWrite f (pointAt s x.1)) then .accessFlask
  else if loopSrc s n = 2 ∧ !masterAllowed s n (loopRef s n % 512) then .accessFlask
  else if loopSrc s n = 2 ∧ loopRef s n % 512 = n then .illegalValue
  else .none

end Sys2Proof.Machine
end

