-- ==== Sys2Proof/Machine/Crypto.lean ====
section
/-! DEFINITION. The algorithms that the manual names for keys, containers, frames and images (R143, R306, R409, R419, R421, R491): AES with
CMAC, GCM, ECB key wrapping and the counter-mode KDF, SHA-256 and HMAC, ECDSA over P-256, and CRC-32. -/

namespace Sys2Proof.Machine

/-- XOR of two byte lists, as long as the shorter. -/
def xorBytes (a b : List Byte) : List Byte := List.zipWith (· ^^^ ·) a b

/-- Bytes padded with zeros to a length. -/
def padTo (n : Nat) (l : List Byte) : List Byte := l ++ List.replicate (n - l.length) 0

/-- Split into `k` blocks of `n` bytes. -/
def blocks (n : Nat) : Nat → List Byte → List (List Byte)
  | 0, _ => []
  | k + 1, l => l.take n :: blocks n k (l.drop n)

/-! ## AES -/

/-- Doubling in GF(2^8) with the AES polynomial. -/
def gf8x (a : Byte) : Byte := (a <<< 1) ^^^ (if a.getLsbD 7 then 0x1B else 0)

/-- Product in GF(2^8): Horner over the bits of `b`, high bit first. -/
def gf8mulFrom (a b : Byte) : Nat → Byte → Byte
  | 0, r => r
  | n + 1, r => gf8mulFrom a b n (gf8x r ^^^ (if b.getLsbD n then a else 0))
def gf8mul (a b : Byte) : Byte := gf8mulFrom a b 8 0

/-- The inverse in GF(2^8) (0 for 0): the product of a^2, a^4, …, a^128. -/
def gf8invFrom : Nat → Byte → Byte → Byte
  | 0, _, r => r
  | n + 1, p, r => let q := gf8mul p p; gf8invFrom n q (gf8mul r q)
def gf8inv (a : Byte) : Byte := gf8invFrom 7 a 1

def rotl8 (a : Byte) (n : Nat) : Byte := (a <<< n) ||| (a >>> (8 - n))
/-- The AES S-box and its inverse. -/
def aesSub (a : Byte) : Byte := let b := gf8inv a; b ^^^ rotl8 b 1 ^^^ rotl8 b 2 ^^^ rotl8 b 3 ^^^ rotl8 b 4 ^^^ 0x63
def aesSubInv (a : Byte) : Byte := gf8inv (rotl8 a 1 ^^^ rotl8 a 3 ^^^ rotl8 a 6 ^^^ 0x05)

/-- Key expansion: words still to make, the index of the next, the round constant and the words so far. -/
def aesExpandFrom (nk : Nat) : Nat → Nat → Byte → List (List Byte) → List (List Byte)
  | 0, _, _, w => w
  | n + 1, i, rc, w =>
    let t := w.getD (i - 1) []
    let (t, rc2) : List Byte × Byte :=
      if i % nk = 0 then (xorBytes ((t.drop 1 ++ t.take 1).map aesSub) [rc, 0, 0, 0], gf8x rc)
      else if nk = 8 ∧ i % 8 = 4 then (t.map aesSub, rc) else (t, rc)
    aesExpandFrom nk n (i + 1) rc2 (w ++ [xorBytes (w.getD (i - nk) []) t])

/-- The round keys of a 16-byte or 32-byte key. -/
def aesRoundKeys (key : List Byte) : List (List Byte) :=
  let nk := key.length / 4
  let w := aesExpandFrom nk (4 * (nk + 7) - nk) nk 1 (blocks 4 nk key)
  blocks 16 (nk + 7) w.flatten

def aesShift (l : List Byte) (k : Nat) : List Byte := (upTo 16).map (fun i => l.getD ((i + k * 4 * (i % 4)) % 16) 0)
def aesMixCol (m : List Byte) (c : List Byte) : List Byte :=
  (upTo 4).map (fun i => (upTo 4).foldl (fun r j => r ^^^ gf8mul (m.getD ((j + 4 - i) % 4) 0) (c.getD j 0)) 0)
def aesMix (m l : List Byte) : List Byte := ((blocks 4 4 l).map (aesMixCol m)).flatten

/-- Encrypt and decrypt one block under round keys. -/
def aesEncRounds : List (List Byte) → List Byte → List Byte
  | [], b => b
  | [k], b => xorBytes (aesShift (b.map aesSub) 1) k
  | k :: r, b => aesEncRounds r (xorBytes (aesMix [2, 3, 1, 1] (aesShift (b.map aesSub) 1)) k)
def aesEncRK (rk : List (List Byte)) (b : List Byte) : List Byte :=
  aesEncRounds (rk.drop 1) (xorBytes b (rk.headD []))
def aesDecRounds : List (List Byte) → List Byte → List Byte
  | [], b => b
  | [k], b => xorBytes ((aesShift b 3).map aesSubInv) k
  | k :: r, b => aesDecRounds r (aesMix [14, 11, 13, 9] (xorBytes ((aesShift b 3).map aesSubInv) k))
def aesDecRK (rk : List (List Byte)) (b : List Byte) : List Byte :=
  let rk := rk.reverse
  aesDecRounds (rk.drop 1) (xorBytes b (rk.headD []))
def aesEnc (key b : List Byte) : List Byte := aesEncRK (aesRoundKeys key) b
def aesDec (key b : List Byte) : List Byte := aesDecRK (aesRoundKeys key) b

/-! ## CMAC -/

/-- Doubling of a block in GF(2^128) as CMAC does it. -/
def cmacDouble (b : List Byte) : List Byte :=
  let n := beNat b
  let d := (2 * n) % 2 ^ 128
  beBytes 16 (if n < 2 ^ 127 then d else d ^^^ 0x87)

/-- AES-CMAC of a message. -/
def aesCmac (key msg : List Byte) : List Byte :=
  let rk := aesRoundKeys key
  let k1 := cmacDouble (aesEncRK rk (List.replicate 16 0))
  let n := max 1 ((msg.length + 15) / 16)
  let full := msg.length != 0 && msg.length % 16 == 0
  let last := msg.drop (16 * (n - 1))
  let last := if full then xorBytes last k1 else xorBytes (padTo 16 (last ++ [0x80])) (cmacDouble k1)
  ((blocks 16 (n - 1) msg) ++ [last]).foldl (fun x b => aesEncRK rk (xorBytes x b)) (List.replicate 16 0)

/-- The counter-mode KDF of SP 800-108 with AES-CMAC, a 32-bit counter before the fixed input. -/
def kdfCtrCmac (key fixed : List Byte) (bytes : Nat) : List Byte :=
  ((upTo ((bytes + 15) / 16)).map (fun i => aesCmac key (beBytes 4 (i + 1) ++ fixed))).flatten.take bytes

/-! ## GCM -/

/-- Product in GF(2^128) of GCM: `z` gathers, `v` is halved once a bit of `x`, first bit first. -/
def ghashMulFrom (x : Nat) : Nat → Nat → Nat → Nat
  | 0, z, _ => z
  | n + 1, z, v =>
    let z := if x.testBit n then z ^^^ v else z
    ghashMulFrom x n z (if v % 2 = 1 then (v / 2) ^^^ (0xE1 * 2 ^ 120) else v / 2)
def ghashMul (x y : Nat) : Nat := ghashMulFrom x 128 0 y

def gcmPad (l : List Byte) : List Byte := padTo (16 * ((l.length + 15) / 16)) l
def ghash (h : Nat) (l : List Byte) : Nat := (blocks 16 (l.length / 16) l).foldl (fun y b => ghashMul (y ^^^ beNat b) h) 0

/-- The counter stream of GCM from a 12-byte nonce, XORed on data. -/
def gcmCrypt (rk : List (List Byte)) (iv data : List Byte) : List Byte :=
  xorBytes data ((upTo ((data.length + 15) / 16)).map (fun i => aesEncRK rk (iv ++ beBytes 4 (i + 2)))).flatten

/-- The tag of GCM over additional data and ciphertext. -/
def gcmTag (rk : List (List Byte)) (iv aad ct : List Byte) : List Byte :=
  let h := beNat (aesEncRK rk (List.replicate 16 0))
  let y := ghash h (gcmPad aad ++ gcmPad ct ++ beBytes 8 (8 * aad.length) ++ beBytes 8 (8 * ct.length))
  xorBytes (beBytes 16 y) (aesEncRK rk (iv ++ beBytes 4 1))

/-- AES-GCM: the ciphertext and the 16-byte tag. -/
def gcmSeal (key iv aad pt : List Byte) : List Byte × List Byte :=
  let rk := aesRoundKeys key
  let ct := gcmCrypt rk iv pt
  (ct, gcmTag rk iv aad ct)

/-- AES-GCM: the plaintext when the tag verifies. -/
def gcmOpen (key iv aad ct tag : List Byte) : Option (List Byte) :=
  let rk := aesRoundKeys key
  if gcmTag rk iv aad ct = tag then some (gcmCrypt rk iv ct) else none

/-! ## AES key wrap (SP 800-38F KW) -/

/-- One step of wrapping: the block A, the registers and the step counter. -/
def kwStep (rk : List (List Byte)) (a : List Byte × List (List Byte)) (t : Nat) : List Byte × List (List Byte) :=
  let n := a.2.length
  let i := (t - 1) % n
  let b := aesEncRK rk (a.1 ++ a.2.getD i [])
  (xorBytes (b.take 8) (beBytes 8 t), setAt a.2 i (b.drop 8))
def kwWrap (kek p : List Byte) : List Byte :=
  let rk := aesRoundKeys kek
  let n := p.length / 8
  let r := (upTo (6 * n)).foldl (fun a t => kwStep rk a (t + 1)) (List.replicate 8 0xA6, blocks 8 n p)
  r.1 ++ r.2.flatten

/-- One step of unwrapping. -/
def kwUnstep (rk : List (List Byte)) (a : List Byte × List (List Byte)) (t : Nat) : List Byte × List (List Byte) :=
  let n := a.2.length
  let i := (t - 1) % n
  let b := aesDecRK rk (xorBytes a.1 (beBytes 8 t) ++ a.2.getD i [])
  (b.take 8, setAt a.2 i (b.drop 8))

/-- The key that a wrapping carries, when its integrity check holds. -/
def kwUnwrap (kek c : List Byte) : Option (List Byte) :=
  let rk := aesRoundKeys kek
  let n := c.length / 8 - 1
  let r := (upTo (6 * n)).foldl (fun a t => kwUnstep rk a (6 * n - t)) (c.take 8, blocks 8 n (c.drop 8))
  if r.1 = List.replicate 8 0xA6 then some r.2.flatten else none

/-! ## SHA-256 and HMAC -/

/-- The initial hash words and the round constants of SHA-256. -/
def sha256Init : List Word := [0x6A09E667, 0xBB67AE85, 0x3C6EF372, 0xA54FF53A, 0x510E527F, 0x9B05688C, 0x1F83D9AB, 0x5BE0CD19]
def sha256K : List Word :=
  [0x428A2F98, 0x71374491, 0xB5C0FBCF, 0xE9B5DBA5, 0x3956C25B, 0x59F111F1, 0x923F82A4, 0xAB1C5ED5] ++
  [0xD807AA98, 0x12835B01, 0x243185BE, 0x550C7DC3, 0x72BE5D74, 0x80DEB1FE, 0x9BDC06A7, 0xC19BF174] ++
  [0xE49B69C1, 0xEFBE4786, 0x0FC19DC6, 0x240CA1CC, 0x2DE92C6F, 0x4A7484AA, 0x5CB0A9DC, 0x76F988DA] ++
  [0x983E5152, 0xA831C66D, 0xB00327C8, 0xBF597FC7, 0xC6E00BF3, 0xD5A79147, 0x06CA6351, 0x14292967] ++
  [0x27B70A85, 0x2E1B2138, 0x4D2C6DFC, 0x53380D13, 0x650A7354, 0x766A0ABB, 0x81C2C92E, 0x92722C85] ++
  [0xA2BFE8A1, 0xA81A664B, 0xC24B8B70, 0xC76C51A3, 0xD192E819, 0xD6990624, 0xF40E3585, 0x106AA070] ++
  [0x19A4C116, 0x1E376C08, 0x2748774C, 0x34B0BCB5, 0x391C0CB3, 0x4ED8AA4A, 0x5B9CCA4F, 0x682E6FF3] ++
  [0x748F82EE, 0x78A5636F, 0x84C87814, 0x8CC70208, 0x90BEFFFA, 0xA4506CEB, 0xBEF9A3F7, 0xC67178F2]

/-- One more message-schedule word from the last sixteen, newest first. -/
def sha256Sched : Nat → List Word → List Word
  | 0, w => w
  | n + 1, w =>
    let g (i : Nat) : Word := w.getD (i - 1) 0
    let s0 (x : Word) : Word := x.rotateRight 7 ^^^ x.rotateRight 18 ^^^ (x >>> 3)
    let s1 (x : Word) : Word := x.rotateRight 17 ^^^ x.rotateRight 19 ^^^ (x >>> 10)
    sha256Sched n ((s1 (g 2) + g 7 + s0 (g 15) + g 16) :: w)

/-- One round. -/
def sha256Round (v : List Word) (kw : Word) : List Word :=
  match v with
  | [a, b, c, d, e, f, g, h] =>
    let t1 := h + (e.rotateRight 6 ^^^ e.rotateRight 11 ^^^ e.rotateRight 25) + ((e &&& f) ^^^ (~~~e &&& g)) + kw
    let t2 := (a.rotateRight 2 ^^^ a.rotateRight 13 ^^^ a.rotateRight 22) + ((a &&& b) ^^^ (a &&& c) ^^^ (b &&& c))
    [t1 + t2, a, b, c, d + t1, e, f, g]
  | v => v

/-- One block of 64 bytes. -/
def sha256Block (h : List Word) (b : List Byte) : List Word :=
  let w : List Word := (sha256Sched 48 ((blocks 4 16 b).map (fun x => BitVec.ofNat 32 (beNat x))).reverse).reverse
  let ks : List Word := List.zipWith (· + ·) sha256K w
  List.zipWith (· + ·) h (ks.foldl sha256Round h)

/-- SHA-256 of a message. -/
def sha256 (msg : List Byte) : List Byte :=
  let n := (msg.length + 8) / 64 + 1
  let m := padTo (64 * n - 8) (msg ++ [0x80]) ++ beBytes 8 (8 * msg.length)
  (((blocks 64 n m).foldl sha256Block sha256Init).map (fun w => beBytes 4 w.toNat)).flatten

/-- HMAC-SHA-256. -/
def hmac256 (key msg : List Byte) : List Byte :=
  let k := padTo 64 (if 64 < key.length then sha256 key else key)
  sha256 (k.map (· ^^^ 0x5C) ++ sha256 (k.map (· ^^^ 0x36) ++ msg))

/-! ## ECDSA over P-256 -/

def p256P : Nat := 2 ^ 256 - 2 ^ 224 + 2 ^ 192 + 2 ^ 96 - 1
def p256N : Nat := 0xFFFFFFFF00000000FFFFFFFFFFFFFFFFBCE6FAADA7179E84F3B9CAC2FC632551
def p256B : Nat := 0x5AC635D8AA3A93E7B3EBBD55769886BC651D06B0CC53B0F63BCE3C3E27D2604B
def p256G : Nat × Nat :=
  (0x6B17D1F2E12C4247F8BCE6E563A440F277037D812DEB33A0F4A13945D898C296,
   0x4FE342E2FE1A7F9B8EE7EB4A7C0F9E162BCE33576B315ECECBB6406837BF51F5)

/-- Power modulo `m` over the low `n` bits of the exponent. -/
def powModFrom (m e : Nat) : Nat → Nat → Nat → Nat
  | 0, _, r => r
  | n + 1, b, r => powModFrom m (e / 2) n (b * b % m) (if e % 2 = 1 then r * b % m else r)
def invMod (m a : Nat) : Nat := powModFrom m (m - 2) 256 (a % m) 1

/-- Addition on the curve; `none` is the point at infinity. -/
def ecAdd (p q : Option (Nat × Nat)) : Option (Nat × Nat) :=
  match p, q with
  | none, q => q
  | p, none => p
  | some (x1, y1), some (x2, y2) =>
    if x1 = x2 ∧ (y1 + y2) % p256P = 0 then none
    else
      let l := if x1 = x2 then (3 * x1 * x1 + (p256P - 3)) * invMod p256P (2 * y1) % p256P
        else (y2 + p256P - y1) * invMod p256P (x2 + p256P - x1) % p256P
      let x3 := (l * l + 2 * p256P - x1 - x2) % p256P
      some (x3, (l * (x1 + p256P - x3) + p256P - y1) % p256P)

/-- Scalar multiplication over the low `n` bits of the scalar. -/
def ecMulFrom : Nat → Nat → Option (Nat × Nat) → Option (Nat × Nat) → Option (Nat × Nat)
  | 0, _, _, r => r
  | n + 1, k, p, r => ecMulFrom n (k / 2) (ecAdd p p) (if k % 2 = 1 then ecAdd r p else r)
def ecMul (k : Nat) (p : Option (Nat × Nat)) : Option (Nat × Nat) := ecMulFrom 256 k p none

/-- Whether a point lies on the curve. -/
def ecOnCurve (x y : Nat) : Bool :=
  decide (x < p256P) && decide (y < p256P) && (y * y % p256P == (x * x * x + (p256P - 3) * x + p256B) % p256P)

/-- The public key of a private key, x then y, big-endian. -/
def ecPublic (d : Nat) : List Byte := match ecMul d (some p256G) with | some (x, y) => beBytes 32 x ++ beBytes 32 y | none => List.replicate 64 0

/-- The signature r then s, big-endian, of a hash under a private key with a per-signature secret. -/
def ecdsaSign (d k : Nat) (hash : List Byte) : List Byte :=
  let r := match ecMul k (some p256G) with | some (x, _) => x % p256N | none => 0
  let sg := invMod p256N k * (beNat hash + r * d) % p256N
  beBytes 32 r ++ beBytes 32 sg

/-- Whether a signature of a hash verifies under a public key. -/
def ecdsaVerify (pub hash sig : List Byte) : Bool :=
  let x := beNat (pub.take 32)
  let y := beNat (pub.drop 32)
  let r := beNat (sig.take 32)
  let sg := beNat (sig.drop 32)
  if !(ecOnCurve x y && decide (0 < r) && decide (r < p256N) && decide (0 < sg) && decide (sg < p256N)) then false
  else
    let w := invMod p256N sg
    match ecAdd (ecMul (beNat hash * w % p256N) (some p256G)) (ecMul (r * w % p256N) (some (x, y))) with
    | some (v, _) => v % p256N == r
    | none => false

/-! ## CRC-32 -/

/-- Eight shifts of the reflected IEEE 802.3 polynomial. -/
def crc32Bits : Nat → Word → Word
  | 0, c => c
  | n + 1, c => crc32Bits n (if c.getLsbD 0 then (c >>> 1) ^^^ 0xEDB88320 else c >>> 1)
/-- CRC-32 with the IEEE 802.3 polynomial. -/
def crc32 (l : List Byte) : Word :=
  ~~~(l.foldl (fun c b => crc32Bits 8 (c ^^^ b.setWidth 32)) 0xFFFFFFFF)

end Sys2Proof.Machine
end

