-- ==== Sys2Proof/Machine/Keys.lean ====
section
/-! DEFINITION. The Crucible's slots: the attribute word (R402) and whether a key is LIVE (R401, R404). -/

namespace Sys2Proof.Machine

/-- The slot with a number. -/
def slotAt (s : State) (n : Nat) : KeySlot := tget (fun _ => {}) s.slots n
def setSlot (s : State) (n : Nat) (k : KeySlot) : State := { s with slots := tput (fun _ => {}) s.slots n k }

/-- Fields of the attribute word (R402). -/
def attrValid (w : Word) : Bool := bit w 31
def attrPersist (w : Word) : Bool := bit w 30
def attrExport (w : Word) : Bool := bit w 29
def attrAlg (w : Word) : Nat := bits w 26 24
def attrUsage (w : Word) : Nat := bits w 23 22
def attrOwner (w : Word) : Nat := bits w 20 16
def attrParent (w : Word) : Nat := bits w 15 8
def attrDepth (w : Word) : Nat := bits w 7 4

/-- Usages of R402. -/
def usENC : Nat := 0
def usDEC : Nat := 1
def usWRAP : Nat := 2
def usDERIVE : Nat := 3

/-- The ancestry check of R404, over at most `k` slots. -/
def liveFrom (s : State) : Nat → Nat → Bool
  | 0, _ => false
  | k + 1, n =>
    let x := slotAt s n
    if !attrValid x.attr then false
    else if n = 0 then !flag s R.CRU_STAT F.CRU_STAT_SEALED
    else (slotAt s (attrParent x.attr)).gen == x.pgen && liveFrom s k (attrParent x.attr)

/-- Whether a slot holds a LIVE key. -/
def keyLive (s : State) (n : Nat) : Bool := liveFrom s 9 n

end Sys2Proof.Machine
end

