-- ==== Sys2Proof/Machine/Mould.lean ====
section
/-! DEFINITION. The mould container (R143 to R150): reading its tables from memory, the structure checks, and placing it. -/

namespace Sys2Proof.Machine

/-- The sections of a container header (R143). -/
structure MouldHead where
  total : Nat
  id : Word
  codeOff : Nat
  codeSize : Nat
  initOff : Nat
  initSize : Nat
  dataSize : Nat
  instOff : Nat
  instCount : Nat
  taskOff : Nat
  taskCount : Nat
  imgOff : Nat
  imgSize : Nat
  rctOff : Nat
  rctSize : Nat
  retainSize : Nat
  deriving DecidableEq, Repr

/-- Read a container's header at `a`. -/
def mouldHead (s : State) (a : Nat) : MouldHead :=
  let w (o : Nat) : Nat := loadN s (a + o) 4
  { total := w 0x08, id := BitVec.ofNat 32 (w 0x0C), codeOff := w 0x10, codeSize := w 0x14, initOff := w 0x18, initSize := w 0x1C
    dataSize := w 0x20, instOff := w 0x24, instCount := w 0x28, taskOff := w 0x2C, taskCount := w 0x30, imgOff := w 0x34
    imgSize := w 0x38, rctOff := w 0x3C, rctSize := w 0x40, retainSize := w 0x44 }

/-- The instance table entry at `a` (R145). -/
def instEntAt (s : State) (a : Nat) : InstEnt :=
  { typeId := loadN s a 2, ver := loadN s (a + 2) 1, flags := loadN s (a + 3) 1, key := loadN s (a + 4) 4
    size := loadN s (a + 8) 4, offset := loadN s (a + 12) 4 }

/-- The instance table of a container; R143 allows 65,535 entries. -/
def mouldInsts (s : State) (a : Nat) (h : MouldHead) : List InstEnt :=
  (upTo (min h.instCount 65535)).map (fun i => instEntAt s (a + h.instOff + 16 * i))

/-- A task table entry (R146) as it stands in a container, before its image tables are read. -/
structure TaskRaw where
  ent : TaskEnt
  inTblOff : Nat
  outTblOff : Nat
  inCount : Nat
  outCount : Nat
  rsvd : Nat
  inRaw : List Nat
  outRaw : List Nat
  deriving DecidableEq, Repr

/-- Read one task entry and its image tables (R146, R147). -/
def taskRawAt (s : State) (a : Nat) (h : MouldHead) (i : Nat) : TaskRaw :=
  let p := a + h.taskOff + 32 * i
  let w (o : Nat) : Nat := loadN s (p + o) 4
  let nIn := loadN s (p + 0x18) 2
  let nOut := loadN s (p + 0x1A) 2
  let tbl (off n lim : Nat) : List Nat := (upTo (min n lim)).map (fun k => loadN s (a + h.imgOff + off + 2 * k) 2)
  let ins := tbl (w 0x10) nIn 1024
  let outs := tbl (w 0x14) nOut 512
  { ent := { entry := w 0, progInst := w 4, inImg := w 8, outImg := w 0x0C, inTbl := ins.map (· % 0x2000)
             outTbl := outs.map (fun x => (x % 0x2000, x.testBit 13)) }
    inTblOff := w 0x10, outTblOff := w 0x14, inCount := nIn, outCount := nOut, rsvd := w 0x1C, inRaw := ins, outRaw := outs }

/-- The maps of a recast table (R148) from byte `o`, `n` to read; none when one does not fit or a reserved field is not 0. -/
def mapsFrom (s : State) (a rend : Nat) : Nat → Nat → Option (List TypeMap × Nat)
  | 0, o => some ([], o)
  | n + 1, o =>
    if rend < o + 8 then none
    else
      let fc := loadN s (a + o + 4) 2
      if fc = 0 ∨ 4096 < fc ∨ rend < o + 8 + 8 * fc ∨ loadN s (a + o + 6) 2 ≠ 0 then none
      else
        let fs := (upTo fc).map (fun k =>
          let p := a + o + 8 + 8 * k
          ({ src := loadN s p 2, dst := loadN s (p + 2) 2, len := loadN s (p + 4) 2, op := loadN s (p + 6) 1 } : FieldMap))
        let rs := (upTo fc).any (fun k => loadN s (a + o + 8 + 8 * k + 7) 1 != 0)
        let m : TypeMap := { typeId := loadN s (a + o) 2, fromVer := loadN s (a + o + 2) 1, toVer := loadN s (a + o + 3) 1, fields := fs }
        if rs then none
        else match mapsFrom s a rend n (o + 8 + 8 * fc) with
          | some (r, e) => some (m :: r, e)
          | none => none

/-- The recast table: empty, or filling RCT_SIZE exactly. -/
def mouldMaps (s : State) (a : Nat) (h : MouldHead) : Option (List TypeMap) :=
  if h.rctSize = 0 then some []
  else if h.rctSize < 8 ∨ loadN s (a + h.rctOff + 4) 4 ≠ 0 then none
  else
    -- a map takes at least 16 bytes, so a count that could not fit is refused before it is walked
    let n := loadN s (a + h.rctOff) 4
    if h.rctSize < 8 + 16 * n then none
    else match mapsFrom s (a + h.rctOff) h.rctSize n 8 with
      | some (ms, e) => if e = h.rctSize then some ms else none
      | none => none

/-- Bytes that a field entry reads and writes (R149). -/
def fieldReads (f : FieldMap) : Nat := if f.op = 0 then f.len else if f.op ≤ 2 then 2 else 4
def fieldWrites (f : FieldMap) : Nat := if f.op = 0 then f.len else if f.op = 5 then 8 else 4

/-- The sections of non-zero length, as offset and length. -/
def mouldSections (h : MouldHead) : List (Nat × Nat) :=
  [(h.codeOff, h.codeSize), (h.initOff, h.initSize), (h.instOff, 16 * h.instCount), (h.taskOff, 32 * h.taskCount),
   (h.imgOff, h.imgSize), (h.rctOff, h.rctSize)].filter (fun x => x.2 != 0)

/-- Whether ranges of a list do not overlap pairwise. -/
def disjoint : List (Nat × Nat) → Bool
  | [] => true
  | (o, n) :: r => r.all (fun (p, m) => decide (o + n ≤ p) || decide (p + m ≤ o)) && disjoint r

/-- The header and section checks of R143. -/
def headOk (s : State) (a flask : Nat) (h : MouldHead) : Bool :=
  let zero (o n : Nat) : Bool := (bytesAt s (a + o) n).all (· == 0)
  bytesAt s a 4 == [0x43, 0x41, 0x53, 0x54] && loadN s (a + 4) 2 == 1 && loadN s (a + 6) 1 == flask && zero 7 1 && zero 0x48 40 &&
  h.total % 16 == 0 && decide (4 ≤ h.codeSize) && decide (h.codeSize ≤ 4194304) && h.codeSize % 4 == 0 &&
  decide (h.initSize ≤ h.dataSize) && decide (32 ≤ h.dataSize) && decide (h.dataSize ≤ 4194304) && h.dataSize % 32 == 0 &&
  decide (h.instCount ≤ 65535) && decide (1 ≤ h.taskCount) && decide (h.taskCount ≤ 64) && (h.rctSize != 0 || h.rctOff == 0) &&
  (mouldSections h).all (fun (o, n) => o % 16 == 0 && decide (0x80 ≤ o) && decide (o + n ≤ h.total)) && disjoint (mouldSections h)

/-- The checks of one instance (R127, R150). -/
def instOk (h : MouldHead) (e : InstEnt) : Bool :=
  let builtIn := decide (1 ≤ e.typeId) && decide (e.typeId ≤ 8)
  (builtIn || (decide (0x100 ≤ e.typeId) && decide (e.typeId ≤ 0xFFFE))) && e.ver != 0 && decide (e.flags < 4) && e.key != 0 &&
  decide (16 ≤ e.size) && e.size % 16 == 0 && e.offset % 16 == 0 && decide (e.offset + e.size ≤ h.dataSize) &&
  (!instRetain e || (e.offset % 32 == 0 && e.size % 32 == 0)) && (!builtIn || (e.size == 32 && e.ver == 1))

/-- Strictly ascending keys. -/
def ascending : List InstEnt → Bool
  | a :: b :: r => decide (a.key < b.key) && ascending (b :: r)
  | _ => true

def retainSize (is : List InstEnt) : Nat := is.foldl (fun n e => if instRetain e then n + e.size else n) 0

/-- An image lies in the data region and clear of every RETAIN instance (R150). -/
def imageOk (h : MouldHead) (is : List InstEnt) (off n : Nat) : Bool :=
  n == 0 || (decide (off + n ≤ h.dataSize) &&
    is.all (fun e => !instRetain e || decide (off + n ≤ e.offset) || decide (e.offset + e.size ≤ off)))

/-- The checks of one task entry (R146, R147, R150). -/
def taskOk (h : MouldHead) (is : List InstEnt) (t : TaskRaw) : Bool :=
  t.ent.entry % 4 == 0 && decide (t.ent.entry < h.codeSize) && is.any (fun e => e.offset == t.ent.progInst) &&
  t.ent.inImg % 16 == 0 && t.ent.outImg % 32 == 0 && t.inTblOff % 2 == 0 && t.outTblOff % 2 == 0 &&
  decide (t.inCount ≤ 1024) && decide (t.outCount ≤ 512) && t.rsvd == 0 &&
  (t.inCount == 0 || decide (t.inTblOff + 2 * t.inCount ≤ h.imgSize)) &&
  (t.outCount == 0 || decide (t.outTblOff + 2 * t.outCount ≤ h.imgSize)) &&
  imageOk h is t.ent.inImg (16 * t.inCount) && imageOk h is t.ent.outImg (32 * t.outCount) &&
  t.inRaw.all (fun x => decide (x < 0x2000)) && t.outRaw.all (fun x => decide (x < 0x4000))

/-- The checks of one map against the instances of the new and of the running mould (R148 to R150). -/
def mapOk (is : List InstEnt) (m : TypeMap) : Bool :=
  let here := is.filter (fun e => e.typeId == m.typeId)
  m.fields.all (fun f => decide (f.op ≤ 5) && decide (16 ≤ f.src) && decide (16 ≤ f.dst) && (f.op == 0 || f.len == 0) &&
    here.all (fun e => (e.ver != m.fromVer || decide (f.src + fieldReads f ≤ e.size)) &&
      (e.ver != m.toVer || decide (f.dst + fieldWrites f ≤ e.size))))

/-- The container bytes with the MAC field as 00h. -/
def macInput (s : State) (a total : Nat) : List Byte :=
  bytesAt s a 0x70 ++ List.replicate 16 0 ++ bytesAt s (a + 0x80) (total - 0x80)

/-- A container that passes the structure checks of R150 as a mould not placed yet. -/
def readMould (s : State) (a flask : Nat) : Option Mould :=
  let h := mouldHead s a
  if !headOk s a flask h then none
  else
    let is := mouldInsts s a h
    let ts := (upTo h.taskCount).map (taskRawAt s a h)
    let old := match mouldOf s flask with | some m => m.insts | none => []
    match mouldMaps s a h with
    | none => none
    | some ms =>
      if is.all (instOk h) && ascending is && disjoint (is.map (fun e => (e.offset, e.size))) &&
         h.retainSize == retainSize is && ts.all (taskOk h is) && ms.all (mapOk (is ++ old)) then
        some { id := h.id, codeAt := 0, codeSize := h.codeSize, dataAt := 0, dataSize := h.dataSize, insts := is
               tasks := ts.map (·.ent), maps := ms }
      else none

/-! ## The mould pool (R156) -/

/-- A size rounded up to the 32 bytes that regions are aligned to. -/
def pad32 (n : Nat) : Nat := (n + 31) / 32 * 32

def mouldRegions (m : Mould) : List (Nat × Nat) := [(m.codeAt, pad32 m.codeSize), (m.dataAt, m.dataSize)]

/-- The regions in use: running moulds, the staged one and the retained one. -/
def poolUsed (s : State) : List (Nat × Nat) :=
  (s.moulds.filterMap (·.2) ++ s.xch.staged.toList ++ s.xch.retained.toList).flatMap mouldRegions

def poolFree (s : State) : Nat := 0xC00000 - (poolUsed s).foldl (fun n r => n + r.2) 0

/-- Whether a region fits at an address of the pool beside the used ones. -/
def regionFits (used : List (Nat × Nat)) (a n : Nat) : Bool :=
  a % 32 == 0 && decide (0x10400000 ≤ a) && decide (a + n ≤ 0x11000000) && used.all (fun (p, m) => m == 0 || decide (a + n ≤ p) || decide (p + m ≤ a))

/-- The lowest place for a region. -/
def firstFit (used : List (Nat × Nat)) (n : Nat) : Option Nat :=
  ((0x10400000 :: used.map (fun r => r.1 + r.2)).filter (fun a => regionFits used a n)).min?

/-- Place code and data: at the addresses that the block chose when both fit there, else at the lowest places; none when there is no room. -/
def placeRegions (s : State) (code data codeAt dataAt : Nat) : Option (Nat × Nat) :=
  let used := poolUsed s
  let c := pad32 code
  if regionFits used codeAt c && regionFits ((codeAt, c) :: used) dataAt data then some (codeAt, dataAt)
  else match firstFit used c with
    | none => none
    | some a => (firstFit ((a, c) :: used) data).map (fun d => (a, d))

/-- The 16-byte header of an instance (R127). -/
def instHeader (e : InstEnt) : List Byte :=
  leBytes 2 e.typeId ++ leBytes 1 e.ver ++ leBytes 1 e.flags ++ leBytes 4 e.key ++ leBytes 4 e.size ++ leBytes 4 0

/-- Write a mould's code and its initial data region (R144). -/
def buildRegions (s : State) (a : Nat) (m : Mould) : State :=
  let h := mouldHead s a
  let s1 := putBytes s m.codeAt (bytesAt s (a + h.codeOff) h.codeSize)
  let s2 := fillBytes (putBytes s1 m.dataAt (bytesAt s (a + h.initOff) h.initSize)) (m.dataAt + h.initSize) (m.dataSize - h.initSize) 0
  forAll (fun s e => putBytes s (m.dataAt + e.offset) (instHeader e)) m.insts s2

/-- Make a mould the running one of a flask, or none, with the registers that report it (R109, R175). -/
def setMould (s : State) (f : Nat) (m : Option Mould) : State :=
  let s := { s with moulds := tput (fun _ => none) s.moulds f m }
  let put (s : State) (c cs d ds : Nat) (id : Word) : State :=
    wr (wr (wr (wr (wr s (R.SCN_MCODE f) (BitVec.ofNat 32 c)) (R.SCN_MCSZ f) (BitVec.ofNat 32 cs)) (R.SCN_MDATA f) (BitVec.ofNat 32 d))
      (R.SCN_MDSZ f) (BitVec.ofNat 32 ds)) (R.XCH_MID f) id
  match m with
  | some m => put s m.codeAt m.codeSize m.dataAt m.dataSize m.id
  | none => put s 0 0 0 0 0

/-- The AES key of a slot as bytes (R402: ALG 000b or 001b). -/
def aesKeyOf (k : KeySlot) : List Byte := k.material.take (if attrAlg k.attr = 0 then 16 else 32)

end Sys2Proof.Machine
end

