-- ==== Sys2Proof/Machine/Recast.lean ====
section
/-! DEFINITION. Recast (R151 to R178): the operations of the XCH block, staging, the exchange tick, migration, the switch, the report
and the retained mould. -/

namespace Sys2Proof.Machine

/-- The states of XCH_STATUS. -/
def xsIDLE : Nat := 0
def xsCHECKING : Nat := 1
def xsSTAGED : Nat := 2
def xsWAITING : Nat := 3
def xsMIGRATING : Nat := 4
def xsRETAINED : Nat := 5

/-- A request of the XCH page or of NRAP: its flask takes the place of XCH_REQ.FLASK (R151). -/
structure XchReq where
  nrap : Bool
  flask : Nat
  src : Nat
  len : Nat
  key : Nat
  rptAddr : Nat
  rptSize : Nat
  deriving DecidableEq, Repr

/-- The request that the page's registers make. -/
def xchPageReq (s : State) : XchReq :=
  { nrap := false, flask := fld s R.XCH_REQ F.XCH_REQ_FLASK, src := (rd s R.XCH_SRC).toNat, len := (rd s R.XCH_LEN).toNat
    key := fld s R.XCH_REQ F.XCH_REQ_KEY, rptAddr := (rd s R.XCH_RPT).toNat, rptSize := fld s R.XCH_RPTSZ F.XCH_RPTSZ_SIZE }

/-- Set STATE; PG_STATE.SUBSTATE repeats it. XCH_POOL follows the regions in use. -/
def setXchState (s : State) (st : Nat) : State :=
  let s := setFld (setFld s R.XCH_STATUS F.XCH_STATUS_STATE st) (R.PG_STATE 0x41) F.PG_SUBSTATE st
  setFld s R.XCH_POOL F.XCH_POOL_FREE (poolFree s)

/-- An operation ends: RESULT, the state it leaves, and DONE (R179). -/
def xchEnd (s : State) (st result : Nat) : State :=
  raiseBit (setXchState (setFld s R.XCH_STATUS F.XCH_STATUS_RESULT result) st) 0x41 0

/-- A report becomes due when its buffer has a size (R168). -/
def dueReport (s : State) (r : Report) : State :=
  if r.size = 0 then s else { s with xch := { s.xch with reports := s.xch.reports ++ [r] } }

/-- The report buffer of a request is absent or lies wholly in the fitted DRAM (R168). -/
def reportBufferOk (s : State) (q : XchReq) : Bool := q.rptSize == 0 || inDram s q.rptAddr q.rptSize

/-- The mould identity of a flask; 0 when it has none. -/
def mouldIdOf (s : State) (f : Nat) : Word := match mouldOf s f with | some m => m.id | none => 0

/-- A task of a flask is enabled. -/
def flaskHasTask (s : State) (f : Nat) : Bool := (upTo 64).any (fun t => taskEnabled s t && taskFlask s t == f)

/-! ## Forces (R167) -/

/-- The lowest task entry of a mould whose output image table names a point (R166, R169). -/
def writerOf (m : Option Mould) (pid : Nat) : Option Nat :=
  match m with
  | some m => m.tasks.findIdx? (fun e => e.outTbl.any (fun x => x.1 == pid))
  | none => none

/-- Insert by a key, keeping a list in rising order. -/
def insertBy {α : Type} (k : α → Nat) (x : α) : List α → List α
  | [] => [x]
  | y :: r => if k x ≤ k y then x :: y :: r else y :: insertBy k x r
def sortBy {α : Type} (k : α → Nat) (l : List α) : List α := l.foldr (insertBy k) []

/-- The force entries that a change of mould touches, by rising point ID. -/
def touchedForces (s : State) (f : Nat) (old new : Option Mould) : List (Nat × Force) :=
  sortBy (fun x => x.2.point.toNat) (s.forces.filterMap (fun (k, e) => match e with
    | some e =>
      let p := e.point.toNat
      if (pointAt s p).alloc && (pointAt s p).owner.toNat == f && ((writerOf old p).isSome || (writerOf new p).isSome) then some (k, e)
      else none
    | none => none))

/-- The class of a force (R167). -/
def forceClass (old new : Option Mould) (pid : Nat) : Nat :=
  if (writerOf new pid).isNone then 3 else if (writerOf old pid).isSome then 1 else 2

/-- The report entry of a force after the switch (R169). -/
def forceEntry (old new : Option Mould) (e : Force) : List Byte :=
  let p := e.point.toNat
  let cls := forceClass old new p
  leBytes 2 p ++ leBytes 1 cls ++ leBytes 1 e.setter.toNat ++ leBytes 1 ((writerOf old p).getD 0xFF) ++
  leBytes 1 ((writerOf new p).getD 0xFF) ++ leBytes 1 (b2n e.written + 2 * b2n (cls == 3)) ++ leBytes 1 0 ++ leBytes 8 e.value.toNat

/-- Update ORPHAN of the touched forces, and give their report entries. -/
def classifyForces (s : State) (f : Nat) (old new : Option Mould) : State × List (List Byte) :=
  let fs := touchedForces s f old new
  let mark (s : State) (x : Nat × Force) : State :=
    let e := { x.2 with orphan := forceClass old new x.2.point.toNat == 3 }
    mirrorForce (setForce s x.1 (some e)) 4 x.1 e
  let s1 := fs.foldl mark s
  (if fs = [] then s1 else saveForces s1, fs.map (fun x => forceEntry old new x.2))

/-! ## Matching and migration (R162, R163, R174) -/

/-- The outcome of an instance: its code, key, type, versions, flags and size (R162, R170). -/
structure Outcome where
  code : Nat
  key : Nat
  typeId : Nat
  oldVer : Nat
  newVer : Nat
  flags : Nat
  size : Nat
  deriving DecidableEq, Repr

def outCOPIED : Nat := 1
def outMAPPED : Nat := 2
def outNOMAP : Nat := 3
def outRETYPED : Nat := 4
def outNEW : Nat := 5
def outREMOVED : Nat := 6
def outFROZEN : Nat := 7

/-- The first map that R163 selects. -/
def findMap (ms : List TypeMap) (ty fromVer toVer : Nat) : Option TypeMap :=
  ms.find? (fun m => m.typeId == ty && m.fromVer == fromVer && m.toVer == toVer)

/-- Apply a field entry (R149). -/
def applyField (src dst : Nat) (s : State) (f : FieldMap) : State :=
  let a := src + f.src
  let b := dst + f.dst
  let w (n : Nat) : Nat := loadN s a n
  if f.op = 0 then putBytes s b (bytesAt s a f.len)
  else if f.op = 1 then storeN s b 4 (codeOf 32 (signedOf 16 (w 2)))
  else if f.op = 2 then storeN s b 4 (w 2)
  else if f.op = 3 then storeN s b 4 (fofInt f32 (signedOf 32 (w 4))).1
  else if f.op = 4 then storeN s b 4 (codeOf 32 (ftoS 32 true (fdec f32 (w 4))).1)
  else storeN s b 8 (codeOf 64 (signedOf 32 (w 4)))

/-- Carry one instance of the mould entered (R162; R174 in a rollback, whose maps are the current mould's). -/
def migrateInst (old new : Mould) (maps : List TypeMap) (rollback : Bool) (a : State × List Outcome) (e : InstEnt) : State × List Outcome :=
  let dst := new.dataAt + e.offset
  let out (c v : Nat) : Outcome := { code := c, key := e.key, typeId := e.typeId, oldVer := v, newVer := e.ver, flags := e.flags, size := e.size }
  let miss (c v : Nat) : State × List Outcome := (a.1, a.2 ++ [out (if rollback then outFROZEN else c) v])
  match old.insts.find? (fun o => o.key == e.key) with
  | none => miss outNEW 0
  | some o =>
    let src := old.dataAt + o.offset
    if o.typeId ≠ e.typeId then miss outRETYPED o.ver
    else if o.ver = e.ver then (putBytes a.1 (dst + 16) (bytesAt a.1 (src + 16) (e.size - 16)), a.2 ++ [out outCOPIED o.ver])
    else match findMap maps e.typeId o.ver e.ver with
      | some m => (m.fields.foldl (applyField src dst) a.1, a.2 ++ [out outMAPPED o.ver])
      | none => miss outNOMAP o.ver

/-- The running instances that the mould entered lacks. -/
def removedInsts (old : Mould) (new : Option Mould) : List Outcome :=
  let keep (k : Nat) : Bool := match new with | some n => n.insts.any (fun e => e.key == k) | none => false
  (old.insts.filter (fun o => !keep o.key)).map (fun o =>
    { code := outREMOVED, key := o.key, typeId := o.typeId, oldVer := o.ver, newVer := 0, flags := 0, size := o.size })

/-- Migrate every instance; the outcomes stand by rising key. -/
def migrate (s : State) (old : Option Mould) (new : Mould) (rollback : Bool) : State × List Outcome :=
  match old with
  | none =>
    (s, new.insts.map (fun e => { code := outNEW, key := e.key, typeId := e.typeId, oldVer := 0, newVer := e.ver, flags := e.flags, size := e.size }))
  | some o =>
    let r := new.insts.foldl (migrateInst o new (if rollback then o.maps else new.maps) rollback) (s, [])
    (r.1, sortBy (·.key) (r.2 ++ removedInsts o (some new)))

/-- The report entry of an instance (R170). -/
def instEntry (o : Outcome) : List Byte :=
  leBytes 4 o.key ++ leBytes 2 o.typeId ++ leBytes 1 o.oldVer ++ leBytes 1 o.newVer ++ leBytes 1 o.code ++ leBytes 1 o.flags ++
  leBytes 2 0 ++ leBytes 4 o.size

def listedInsts (os : List Outcome) : List (List Byte) := (os.filter (fun o => o.code != outCOPIED)).map instEntry
def countOut (os : List Outcome) (cs : List Nat) : Nat := (os.filter (fun o => cs.contains o.code)).length

/-- Migrated instance data in bytes (R161). -/
def migratedBytes (os : List Outcome) : Nat :=
  (os.filter (fun o => o.code == outCOPIED || o.code == outMAPPED)).foldl (fun n o => n + o.size) 0

/-- The migration time within the bounds of R161: at least 1 µs, at most 200 µs per MiB. -/
def migrationNs (os : List Outcome) (ns : Nat) : Nat := max 1000 (min ns (migratedBytes os * 200000 / 1048576))

/-- The retentive generation of a mould as its data region holds it (R176). -/
def retentiveOf (s : State) (m : Mould) : List NvrInst :=
  (m.insts.filter instRetain).map (fun e =>
    { key := e.key, typeId := e.typeId, ver := e.ver, bytes := bytesAt s (m.dataAt + e.offset) e.size })

/-! ## Staging (R154, R155) -/

/-- Where a container may lie: in the fitted DRAM, and for the boot ROM's overlay in the NOR's user store (R477). -/
def containerFits (s : State) (a n : Nat) : Bool :=
  inDram s a n || (modeNow s == mdBOOT && decide (0x31200000 ≤ a) && decide (a + n ≤ 0x30000000 + (rd s R.XSPI_SIZE).toNat))

/-- The checks of R155, then of R150: the code of the first that fails, or the mould where all pass. -/
def stageCheck (s : State) (f : Nat) (codeAt dataAt : Nat) : Code × Option Mould :=
  let a := s.xch.src
  let k := slotAt s s.xch.key
  let h := mouldHead s a
  let old := match mouldOf s f with | some m => m.insts | none => []
  if !attrValid k.attr then (.illegalValue, none)
  else if attrUsage k.attr ≠ usDEC ∨ 1 < attrAlg k.attr then (.usage, none)
  else if !keyLive s s.xch.key then (.orphaned, none)
  else if attrOwner k.attr ≠ 0 ∧ attrOwner k.attr ≠ f then (.accessFlask, none)
  else if s.xch.aborted then (.tamperAbort, none)
  else if !flaskEnabled s f then (.illegalValue, none)
  else if s.xch.len ≠ h.total ∨ !containerFits s a h.total then (.illegalValue, none)
  else if (upTo 64).any (fun t => taskEnabled s t && taskFlask s t == f && decide (h.taskCount ≤ fld s (R.SCN_TSRC t) F.SCN_TSRC_MOULD_TASK)) then
    (.notInState, none)
  else if decide (h.instOff + 16 * h.instCount ≤ h.total) && (mouldInsts s a h).any (fun e =>
      old.any (fun o => o.key == e.key && o.typeId == e.typeId && o.ver == e.ver && o.size != e.size)) then (.illegalValue, none)
  else if aesCmac (aesKeyOf k) (macInput s a h.total) ≠ bytesAt s (a + 0x70) 16 then (.auth, none)
  else match readMould s a f with
    | none => (.illegalValue, none)
    | some m =>
      let others := s.moulds.foldl (fun n (g, x) => match x with | some x => if g = f then n else n + retainSize x.insts | none => n) 0
      if 0x200000 < others + retainSize m.insts then (.noResource, none)
      else match placeRegions s m.codeSize m.dataSize codeAt dataAt with
        | none => (.noResource, none)
        | some (c, d) => (.none, some { m with codeAt := c, dataAt := d })

/-- STAGE_COMPLETE: the check ends; a good mould is placed and STAGED, a bad one is reported (R152, R155, R156, R168). -/
def stageComplete (s : State) (codeAt dataAt : Word) : State :=
  if xchState s ≠ xsCHECKING then s
  else
    let f := xchFlask s
    match stageCheck s f codeAt.toNat dataAt.toNat with
    | (_, some m) =>
      let s := buildRegions s s.xch.src m
      xchEnd { s with xch := { s.xch with staged := some m } } xsSTAGED 0
    | (c, none) =>
      let id : Word := if inDram s (s.xch.src + 12) 4 then BitVec.ofNat 32 (loadN s (s.xch.src + 12) 4) else 0
      let s := xchEnd s xsIDLE (codeNum c)
      dueReport s { addr := s.xch.rptAddr, size := s.xch.rptSize, kind := 4, flask := f, result := codeNum c
                    oldId := mouldIdOf s f, newId := id, switchAt := s.now }

/-! ## The operations (R152) -/

/-- The mode forbids every operation (R153). -/
def xchBarred (s : State) : Bool := modeNow s == mdBOOT || modeNow s == mdRECOVERY || modeNow s == mdSTANDBY

/-- The flask of the operation is not that of the exchange in progress: an NRAP operation is answered with BUSY. -/
def wrongFlask (s : State) (q : XchReq) (c : Code) : Code := if q.nrap ∧ xchState s ≠ xsIDLE ∧ q.flask ≠ xchFlask s then .busy else c

/-- Begin an operation of a flask. -/
def xchBegin (s : State) (q : XchReq) (st : Nat) (rollback : Bool) : State :=
  let s := setFld (setFld s R.XCH_STATUS F.XCH_STATUS_FLASK q.flask) R.XCH_STATUS F.XCH_STATUS_ROLLBACK (b2n rollback)
  setXchState { s with xch := { s.xch with rptAddr := q.rptAddr, rptSize := q.rptSize } } st

def xchStage (s : State) (q : XchReq) : State × Code :=
  let st := xchState s
  if xchBarred s then (s, .notInState)
  else if st = xsRETAINED ∧ q.flask = xchFlask s then (s, .sequence)
  else if st ≠ xsIDLE then (s, .busy)
  else if !reportBufferOk s q then (s, .illegalValue)
  else
    let s := { s with xch := { s.xch with src := q.src, len := q.len, key := q.key, aborted := false } }
    (xchBegin s q xsCHECKING false, .none)

def xchCommit (s : State) (q : XchReq) : State × Code :=
  if xchBarred s then (s, .notInState)
  else if xchState s ≠ xsSTAGED ∨ q.flask ≠ xchFlask s then (s, wrongFlask s q .sequence)
  else if !reportBufferOk s q then (s, .illegalValue)
  else (xchBegin { s with xch := { s.xch with commitAt := s.now } } q xsWAITING false, .none)

def xchAbandon (s : State) (q : XchReq) : State × Code :=
  let st := xchState s
  if xchBarred s then (s, .notInState)
  else if q.flask ≠ xchFlask s ∧ st ≠ xsMIGRATING then (s, wrongFlask s q .sequence)
  else if st = xsMIGRATING then (s, wrongFlask s q .notInState)
  else if st = xsSTAGED ∨ (st = xsWAITING ∧ !flag s R.XCH_STATUS F.XCH_STATUS_ROLLBACK) then
    (xchEnd { s with xch := { s.xch with staged := none } } xsIDLE 0, .none)
  else if st = xsWAITING then (xchEnd s xsRETAINED 0, .none)
  else (s, .sequence)

def xchConfirm (s : State) (q : XchReq) : State × Code :=
  if xchBarred s then (s, .notInState)
  else if xchState s ≠ xsRETAINED ∨ q.flask ≠ xchFlask s then (s, wrongFlask s q .sequence)
  else (xchEnd { s with xch := { s.xch with retained := none } } xsIDLE 0, .none)

def xchRollback (s : State) (q : XchReq) : State × Code :=
  if xchBarred s then (s, .notInState)
  else if xchState s ≠ xsRETAINED ∨ q.flask ≠ xchFlask s then (s, wrongFlask s q .sequence)
  else if !reportBufferOk s q then (s, .illegalValue)
  else (xchBegin { s with xch := { s.xch with commitAt := s.now } } q xsWAITING true, .none)

/-- UNLOAD (R175). -/
def xchUnload (s : State) (q : XchReq) : State × Code :=
  let st := xchState s
  let f := q.flask
  if xchBarred s then (s, .notInState)
  else if st = xsRETAINED ∧ f = xchFlask s then (s, .sequence)
  else if st ≠ xsIDLE then (s, .busy)
  else match mouldOf s f with
    | none => (s, .notInState)
    | some m =>
      if flaskHasTask s f then (s, .notInState)
      else if !reportBufferOk s q then (s, .illegalValue)
      else
        let (s, forces) := classifyForces s f (some m) none
        let s := setNvr (setMould s f none) f []
        let s := { s with scan := { s.scan with newGen := tput (fun _ => none) s.scan.newGen f none } }
        let s := xchEnd (xchBegin s q xsIDLE false) xsIDLE 0
        (dueReport s { addr := q.rptAddr, size := q.rptSize, kind := 3, flask := f, result := 0, oldId := m.id, newId := 0
                       switchAt := s.now, forces := forces, insts := listedInsts (removedInsts m none) }, .none)

/-- One operation by its code in XCH_CMD.OP. -/
def xchOp (s : State) (q : XchReq) (op : Nat) : State × Code :=
  if op = 1 then xchStage s q else if op = 2 then xchCommit s q else if op = 3 then xchAbandon s q
  else if op = 4 then xchConfirm s q else if op = 5 then xchRollback s q else if op = 6 then xchUnload s q else (s, .illegalValue)

/-! ## The exchange (R159 to R161, R173, R178) -/

/-- A run of the flask is in progress. -/
def flaskRunning (s : State) (f : Nat) : Bool :=
  (upTo 64).any (fun t => taskFlask s t == f && (taskStateOf s t == tsRUNNING || taskStateOf s t == tsPREEMPTED))

/-- In a pair, COMMIT waits until the standby has answered the container forwarded to it (R178): `peer` says that it has. -/
def peerReady (s : State) (peer : Bool) : Bool := !flag s R.TWN_CFG F.TWN_CFG_PAIR || peer

/-- The instant at which a wait for the exchange tick ends (R159). -/
def xchDeadline (s : State) : Nat := s.xch.commitAt.toNat + fld s R.XCH_TMO F.XCH_TMO_TMO_MS * 100000

/-- EXCHANGE_TICK: at a tick boundary with no run of the flask in progress, migration begins; releases of this boundary are the held ones (R159, R160). The active of a pair names the tick in its mirror frame (R178). -/
def exchangeTick (s : State) (peer : Bool) : State :=
  let f := xchFlask s
  if xchState s = xsWAITING ∧ s.now.toNat % 100000 = 0 ∧ s.now.toNat ≤ xchDeadline s ∧ !flaskRunning s f ∧ peerReady s peer then
    let s := forAll (fun s t => if taskFlask s t = f ∧ taskStateOf s t = tsRELEASED ∧ (taskAt s t).relAt = s.now then
      setTask s t { taskAt s t with heldExchange := some s.now } else s) (upTo 64) s
    let s := if pairActive s then
      { s with twin := { s.twin with xch := s.twin.xch ++
          [{ flask := Fin.ofNat 32 f, rollback := flag s R.XCH_STATUS F.XCH_STATUS_ROLLBACK, tick := BitVec.ofNat 64 (s.now.toNat / 100000) }] } }
      else s
    setXchState { s with xch := { s.xch with tickAt := s.now } } xsMIGRATING
  else s

/-- EXCHANGE_TIMEOUT: no exchange tick within TMO_MS (R159). -/
def exchangeTimeout (s : State) : State :=
  if xchState s = xsWAITING then
    let s := advanceTo s (BitVec.ofNat 64 (xchDeadline s))
    let back := if flag s R.XCH_STATUS F.XCH_STATUS_ROLLBACK then xsRETAINED else xsSTAGED
    raiseBit (xchEnd s back (codeNum .busy)) 0x41 2
  else s

/-- The exchange or rollback is abandoned (R177): the flask keeps its running mould. -/
def exchangeAbandon (s : State) : State :=
  let st := xchState s
  if st = xsWAITING ∨ st = xsMIGRATING then
    let s := forAll (fun s t => if taskFlask s t = xchFlask s then setTask s t { taskAt s t with heldExchange := none } else s) (upTo 64) s
    if flag s R.XCH_STATUS F.XCH_STATUS_ROLLBACK then setXchState s xsRETAINED
    else setXchState { s with xch := { s.xch with staged := none } } xsIDLE
  else s

/-- Enter a mould: migration, forces, the tables of the flask, its new generation, its cause record and its report (R161 to R176). -/
def enterMould (s : State) (f : Nat) (new : Mould) (rollback : Bool) (migNs : Nat) : State :=
  let old := mouldOf s f
  let (s, outs) := migrate s old new rollback
  let ns := migrationNs outs migNs
  let s := advanceTo s (s.xch.tickAt + BitVec.ofNat 64 ((ns + 9) / 10))
  let s := if rollback then
    forAll (fun s (e : TaskEnt) => forAll (fun s i => putByte s (new.dataAt + e.outImg + 32 * i + 0x19) 0) (upTo e.outTbl.length) s) new.tasks s
    else s
  let (s, forces) := classifyForces s f old (some new)
  let keep := if rollback then none else old
  let s := { setMould s f (some new) with xch := { s.xch with staged := none, retained := keep } }
  let s := { s with scan := { s.scan with newGen := tput (fun _ => none) s.scan.newGen f (some (retentiveOf s new)) } }
  let us := min 0xFFFF ((ns + 999) / 1000)
  let wait := min 0xFFFF ((s.xch.tickAt - s.xch.commitAt).toNat / 100000)
  let s := wr s R.XCH_TIME (BitVec.ofNat 32 (wait * 2 ^ 16 + us))
  let s := forAll (fun s t => if taskFlask s t = f then setTask s t { taskAt s t with heldExchange := none } else s) (upTo 64) s
  let s := raiseBit (xchEnd s (if keep.isSome then xsRETAINED else xsIDLE) 0) 0x41 1
  let kind := if rollback then 2 else 1
  let lost := min 0xFFFF (countOut outs [outNOMAP, outRETYPED, outNEW])
  let s := if flaskHasTask s f then postCause s f 0x0B 0xFF (BitVec.ofNat 32 (kind * 2 ^ 24 + lost)) else s
  dueReport s { addr := s.xch.rptAddr, size := s.xch.rptSize, kind := kind, flask := f, result := 0
                oldId := match old with | some o => o.id | none => 0
                newId := new.id, switchAt := s.now, migUs := us, forces := forces, insts := listedInsts outs
                copied := min 0xFFFF (countOut outs [outCOPIED]) }

/-- EXCHANGE_SWITCH: the end of migration. -/
def exchangeSwitch (s : State) (migNs : Nat) : State :=
  if xchState s ≠ xsMIGRATING then s
  else
    let rb := flag s R.XCH_STATUS F.XCH_STATUS_ROLLBACK
    match if rb then s.xch.retained else s.xch.staged with
    | some m => enterMould s (xchFlask s) m rb migNs
    | none => s

/-! ## The report (R168 to R171) -/

/-- The header of a report. -/
def reportHeader (r : Report) (trunc : Bool) : List Byte :=
  [0x52, 0x43, 0x53, 0x54] ++ leBytes 1 r.kind ++ leBytes 1 r.flask ++ leBytes 1 r.result ++ leBytes 1 (b2n trunc) ++
  leBytes 4 r.oldId.toNat ++ leBytes 4 r.newId.toNat ++ leBytes 8 r.switchAt.toNat ++ leBytes 2 r.migUs ++
  leBytes 2 r.insts.length ++ leBytes 2 r.forces.length ++ leBytes 2 r.copied

/-- The bytes of a report in a buffer of its size, and whether entries were left out. -/
def reportBytes (r : Report) : List Byte × Bool :=
  let es := r.forces ++ r.insts
  let n := (r.size - 32) / 16
  let trunc := decide (n < es.length)
  (reportHeader r trunc ++ (es.take n).flatten, trunc)

/-- EXCHANGE_REPORT: the oldest report due is written. -/
def exchangeReport (s : State) : State :=
  match s.xch.reports with
  | [] => s
  | r :: rest =>
    let s := { s with xch := { s.xch with reports := rest } }
    if r.size < 32 then setFld s R.XCH_STATUS F.XCH_STATUS_TRUNC 1
    else
      let (bs, trunc) := reportBytes r
      raiseBit (setFld (putBytes s r.addr bs) R.XCH_STATUS F.XCH_STATUS_TRUNC (b2n trunc)) 0x41 3

end Sys2Proof.Machine
end

