-- ==== Sys2Proof/Machine/Metering.lean ====
section
/-! DEFINITION. Metering (R209 to R243): sampling, zero crossings, line cycles, energy registers, publication, demand intervals, live
calibration, port meters, the metering record, and the assertion of PFW (R94, R177, R238). -/

namespace Sys2Proof.Machine

/-! ## Numbers -/

/-- A ratio of integers as binary32, rounded to nearest even. -/
def ratF32 (num : Int) (den : Nat) : Word :=
  if num = 0 ∨ den = 0 then 0
  else
    let n := num.natAbs
    let k := Nat.log2 den + 30 - Nat.log2 n
    let q := n * 2 ^ k / den
    fword (fround f32 (decide (num < 0)) q (-(k : Int)) (n * 2 ^ k % den != 0)).1

/-- The square root of a ratio times a binary32, rounded to nearest even once: √(num/den) · m · 2^e. -/
def rootF32 (num den : Nat) (scale : Word) : Word :=
  match fval scale with
  | .num _ m e =>
    let n := num * m * m
    if n = 0 ∨ den = 0 then 0
    else
      let k := Nat.log2 den / 2 + 32 - Nat.log2 n / 2
      let x := n * 4 ^ k / den
      let r := iroot 2 x
      fword (fround f32 false r (e - k) (r * r != x || n * 4 ^ k % den != 0)).1
  | _ => scale

/-- `num/den` times an exact binary value, rounded once to an integer with ties away from zero. -/
def timesExact (num : Int) (den : Nat) (v : FVal) : Int :=
  match v with
  | .num neg m e =>
    let x : Int := num * (if neg then -(m : Int) else m)
    if 0 ≤ e then roundDiv (x * ((2 ^ e.toNat : Nat) : Int)) den else roundDiv x ((den * 2 ^ (-e).toNat : Nat) : Int)
  | _ => 0


/-! ## Access -/

def voltAt (s : State) (v : Nat) : VoltCh := tget (fun _ => {}) s.meter.volts v
def setVolt (s : State) (v : Nat) (x : VoltCh) : State := { s with meter := { s.meter with volts := tput (fun _ => {}) s.meter.volts v x } }
def currAt (s : State) (i : Nat) : CurrCh := tget (fun _ => {}) s.meter.currs i
def setCurr (s : State) (i : Nat) (x : CurrCh) : State := { s with meter := { s.meter with currs := tput (fun _ => {}) s.meter.currs i x } }
def circAt (s : State) (c : Nat) : Circuit := tget (fun _ => {}) s.meter.circuits c
def setCirc (s : State) (c : Nat) (x : Circuit) : State := { s with meter := { s.meter with circuits := tput (fun _ => {}) s.meter.circuits c x } }
def portMeterAt (s : State) (p : Nat) : PortMeter := tget (fun _ => {}) s.meter.ports p
def setPortMeter (s : State) (p : Nat) (x : PortMeter) : State := { s with meter := { s.meter with ports := tput (fun _ => {}) s.meter.ports p x } }

def circSt (s : State) (c : Nat) : Nat := fld s (R.CIR_STAT c) F.CIR_STAT_STATE
def setCircSt (s : State) (c st : Nat) : State := setFld s (R.CIR_STAT c) F.CIR_STAT_STATE st
def circFlask (s : State) (c : Nat) : Nat := fld s (R.CIR_CFG c) F.CIR_CFG_FLASK
def circNel (s : State) (c : Nat) : Nat := fld s (R.CIR_CFG c) F.CIR_CFG_NEL
def circZc (s : State) (c : Nat) : Nat := fld s (R.CIR_CFG c) F.CIR_CFG_ZC_SRC
def elemI (s : State) (c k : Nat) : Nat := fld s (R.CIR_ELEM c k) F.CIR_ELEM_ICH
def elemV (s : State) (c k : Nat) : Nat := fld s (R.CIR_ELEM c k) F.CIR_ELEM_VCH
def pmSt (s : State) (p : Nat) : Nat := fld s (R.SPU_PMSTAT p) F.SPU_PMSTAT_STATE
def setPmSt (s : State) (p st : Nat) : State := setFld s (R.SPU_PMSTAT p) F.SPU_PMSTAT_STATE st

/-- Modes in which nothing is metered (R240); an activation pause suspends metering too (R500). -/
def meterBarred (s : State) : Bool := let m := modeNow s; m == 0 || m == mdBOOT || m == mdRECOVERY
def circExcluded (s : State) (c : Nat) : Bool := meterBarred s || s.paused || !pageOn s (0x51 + c / 24) || !pageOn s 0x53
def pmExcluded (s : State) (p : Nat) : Bool := meterBarred s || s.paused || !pageOn s (0x51 + p / 8)

/-- SUSP of a circuit: it is not OFF and excluded. A suspension discards the cycle in progress and marks the interval (R218, R227). -/
def refreshCircuit (s : State) (c : Nat) : State :=
  let susp := circSt s c != fsOFF && circExcluded s c
  if susp = flag s (R.CIR_STAT c) F.CIR_STAT_SUSP then s
  else
    let s := setFld s (R.CIR_STAT c) F.CIR_STAT_SUSP (b2n susp)
    if susp then raiseBit (setCirc s c { circAt s c with running := false, cp := 0, cq := 0, ivlPart := true }) (0x51 + c / 24) 0 else s
def refreshPortMeter (s : State) (p : Nat) : State :=
  setFld s (R.SPU_PMSTAT p) F.SPU_PMSTAT_SUSP (b2n (pmSt s p != fsOFF && pmExcluded s p))
/-- Bring every suspension up to date after a change of mode or of a DSP's or the front end's state. -/
def refreshMeters (s : State) : State := forAll refreshPortMeter (upTo 16) (forAll refreshCircuit (upTo 48) s)

/-! ## Energy registers (R221, R222) -/

/-- Add to an unsigned 64-bit accumulator: its new value and whether it wrapped. -/
def accAdd (a n : Nat) : Nat × Bool := ((a + n) % 2 ^ 64, decide (2 ^ 64 ≤ a + n))

/-- Show an accumulator in its register: COUNT is the integer part. -/
def showEnergy (s : State) (lo hi acc wraps : Nat) : State :=
  let n := acc / 2 ^ 24
  wr (wr s lo (BitVec.ofNat 32 n)) hi (BitVec.ofNat 32 (wraps * 256 + n / 2 ^ 32))

/-- Add to register `r` of a circuit; a wrap sets its flag and MTR PG_ISR bit 3. -/
def addEnergy (s : State) (c r n : Nat) : State :=
  let x := circAt s c
  let (a, w) := accAdd (x.acc.getD r 0) n
  let wc := (x.wraps.getD r 0 + b2n w) % 256
  let s := setCirc s c { x with acc := setAt x.acc r a, wraps := setAt x.wraps r wc, ivl := setAt x.ivl r (x.ivl.getD r 0 + n) }
  let s := showEnergy s (R.CIR_E c r) (R.CIR_EH c r) a wc
  if w then raiseBit (setFld s (R.CIR_STAT c) F.CIR_STAT_WRAP (fld s (R.CIR_STAT c) F.CIR_STAT_WRAP ||| 2 ^ r)) 0x50 3 else s

/-- The quadrant register of a cycle's nets (R221); none when nothing is added. -/
def quadrantOf (cp cq : Int) : Option Nat :=
  if cq = 0 then none
  else if cp = 0 then some (if 0 < cq then 2 else 4)
  else if 0 < cp then some (if 0 < cq then 2 else 5)
  else some (if 0 < cq then 3 else 4)

/-- Move a cycle's nets into the registers (R220, R221). -/
def applyNets (s : State) (c : Nat) (cp cq : Int) : State :=
  let s := if 0 < cp then addEnergy s c 0 cp.natAbs else if cp < 0 then addEnergy s c 1 cp.natAbs else s
  match quadrantOf cp cq with
  | some r => addEnergy s c r cq.natAbs
  | none => s

/-! ## Publication (R219, R224) -/

/-- Commit one offset of a circuit's block when PUB_MASK selects it; a denial sets DENIED (R50, R224). -/
def publish (s : State) (c j : Nat) (v : DWord) (q : Byte) (ts : DWord) : State :=
  if (fld s (R.CIR_PTS c) F.CIR_PTS_PUB_MASK).testBit j ∧ modeNow s ≠ mdSTANDBY then
    let (s, ok) := tryWrite s (circFlask s c) 4 (fld s (R.CIR_PTS c) F.CIR_PTS_PT_BASE + j) v q ts (sourceOf 3 c)
    if ok then s else raiseBit (setFld s (R.CIR_STAT c) F.CIR_STAT_DENIED 1) 0x50 4
  else s

/-- The VALUE of an ENERGY point: WRAPS in [47:40], COUNT in [39:0]. -/
def energyValue (acc wraps : Nat) : DWord := BitVec.ofNat 64 (wraps * 2 ^ 40 + acc / 2 ^ 24)

/-- A power in W from energy in 2^-24 mWh over a time in timebase counts. -/
def meanPower (e : Int) (counts : Nat) : Word := ratF32 (e * 360000000) (2 ^ 24 * counts)

/-- Publish offsets 0 to 10 at a cycle end, and begin the next span. -/
def publishCircuit (s : State) (c : Nat) (ts : DWord) : State :=
  let x := circAt s c
  let q : Byte := if x.clip then 5 else 0
  let p := meanPower x.spanP x.spanLen
  let r := meanPower x.spanQ x.spanLen
  let s := wr (wr s (R.CIR_P c) p) (R.CIR_Q c) r
  let s := forAll (fun s j => publish s c j (energyValue (x.acc.getD j 0) (x.wraps.getD j 0)) q ts) (upTo 6) s
  let s := publish s c 6 (p.setWidth 64) q ts
  let s := publish s c 7 (r.setWidth 64) q ts
  let s := publish s c 8 ((rootF32 x.sqV (x.samples * 2 ^ 60) (rd s (R.AFE_VFS (elemV s c 0)))).setWidth 64) q ts
  let s := publish s c 9 ((rootF32 x.sqI (x.samples * 2 ^ 60) (rd s (R.AFE_IFS (elemI s c 0)))).setWidth 64) q ts
  let s := publish s c 10 ((ratF32 100000000 x.lineLen).setWidth 64) (if flag s (R.CIR_STAT c) F.CIR_STAT_ZC_FB then 5 else 0) ts
  setCirc s c { circAt s c with spanP := 0, spanQ := 0, spanLen := 0, sqV := 0, sqI := 0, samples := 0, clip := false }

/-- A publication boundary lies after `a` and at or before `b` (R224). -/
def pubBoundary (s : State) (a b : DWord) : Bool :=
  let per := fld s R.MTR_PUB F.MTR_PUB_PERIOD * 10000000
  per != 0 && decide (a.toNat / per < b.toNat / per)

/-! ## Demand intervals (R225 to R227) -/

/-- The calendar is valid (R444). -/
def calValid (s : State) : Bool := flag s R.RTC_STAT F.RTC_STAT_VALID

/-- CIR_MAXT of the present calendar time, in BCD: month, day, hour, minute. -/
def calStamp (s : State) : Word :=
  BitVec.ofNat 32 (fld s R.RTC_DATE F.RTC_DATE_MONTH * 2 ^ 24 + fld s R.RTC_DATE F.RTC_DATE_DAY * 2 ^ 16 +
    fld s R.RTC_TIME F.RTC_TIME_HOUR * 2 ^ 8 + fld s R.RTC_TIME F.RTC_TIME_MIN)

/-- Commit a closed interval's results and begin the next one (R226). -/
def commitInterval (s : State) (c : Nat) (b : IvlClose) : State :=
  let x := circAt s c
  let counts := (b.at_ - x.ivlStart).toNat
  let imp := x.ivl.getD 0 0
  let exp := x.ivl.getD 1 0
  let mwh (n : Nat) : Word := BitVec.ofNat 32 (min 0xFFFFFFFF (n / 2 ^ 24))
  let adj := x.ivlAdj || b.adj
  let unal := x.ivlUnal || b.unal
  let info := b2n adj * 2 ^ 31 + b2n unal * 2 ^ 30 + b2n x.ivlPart * 2 ^ 29 + b2n x.ivlClip * 2 ^ 28 + min 0xFFFF (counts / 100000000)
  let s := wr (wr (wr s (R.CIR_DIMP c) (mwh imp)) (R.CIR_DEXP c) (mwh exp)) (R.CIR_DINFO c) (BitVec.ofNat 32 info)
  let q : Byte := if x.ivlClip then 5 else 0
  let dem := meanPower imp counts
  let s := publish s c 11 (dem.setWidth 64) q b.at_
  let s := publish s c 12 ((meanPower exp counts).setWidth 64) q b.at_
  let full := !adj && !unal && !x.ivlPart
  let s := if full && flt32 (rd s (R.CIR_MAXD c)) dem then wr (wr s (R.CIR_MAXD c) dem) (R.CIR_MAXT c) b.maxt else s
  setCirc s c { circAt s c with ivl := [0, 0, 0, 0, 0, 0], ivlStart := b.at_, closing := none, ivlClip := false, ivlActive := x.running
                                ivlPart := !x.running, ivlAdj := b.adj, ivlUnal := !calValid s }

/-- An interval closes for one circuit: its results wait for the first cycle that ends after the boundary, or are committed at once where no cycle is in progress. -/
def closeCircuit (adj unal : Bool) (s : State) (c : Nat) : State :=
  let x := circAt s c
  let b : IvlClose := { at_ := s.now, adj := adj, unal := unal, maxt := calStamp s }
  let s := match x.closing with | some old => commitInterval s c old | none => s
  let x := circAt s c
  if x.running then setCirc s c { x with closing := some b }
  else if x.ivlActive then commitInterval s c b
  else setCirc s c { x with ivlStart := s.now, ivlPart := true, ivlAdj := adj, ivlUnal := !calValid s }

/-! ## The metering record (R237) -/

def circuitEntry (s : State) (c : Nat) : MeterEntry :=
  let x := circAt s c
  { acc := x.acc, wraps := x.wraps, flags := rd s (R.CIR_STAT c) &&& 0x3F000000, ivl := x.ivl, maxd := rd s (R.CIR_MAXD c)
    maxt := rd s (R.CIR_MAXT c), rloop := none }
def portEntry (s : State) (p : Nat) : MeterEntry :=
  let x := portMeterAt s p
  { acc := x.acc, wraps := x.wraps, flags := rd s (R.SPU_PMSTAT p) &&& 0x38000000, ivl := [], maxd := 0, maxt := 0, rloop := x.est }

/-- The record as it stands. -/
def meterRecord (s : State) : MeterRec :=
  { seq := s.meter.saves, time := rd s R.RTC_TIME, date := rd s R.RTC_DATE, valid := calValid s
    circuits := (upTo 48).map (circuitEntry s), ports := (upTo 16).map (portEntry s)
    applied := (upTo 102).map (fun p => fld s (R.LCAL_GAIN p) F.LCAL_GAIN_APPLIED) }

/-- Write a record into the older of the two copies. -/
def writeRecord (s : State) (r : MeterRec) : State :=
  let n := s.meter.saves
  { s with meter := { s.meter with nvr := tput (fun _ => none) s.meter.nvr (n % 2) (some { r with seq := n }), saves := n + 1 } }

/-- Write the record as it stands. -/
def saveRecord (s : State) : State := writeRecord s (meterRecord s)

/-- Write the snapshot that a power-fail save holds (R238). -/
def saveSnapshot (s : State) : State :=
  match s.meter.snap with
  | some r => let s := writeRecord s r; { s with meter := { s.meter with snap := none } }
  | none => s

/-- An interval closes for every circuit (R225 to R227); the record is saved (R237). -/
def closeIntervals (s : State) (adj unal : Bool) : State :=
  let s := forAll (closeCircuit adj unal) (upTo 48) s
  let s := { s with meter := { s.meter with ivlStart := s.now } }
  saveRecord (raiseBit s 0x50 5)

/-- INTERVAL_BOUNDARY: with a valid calendar, at a minute that LEN divides and second 0; else LEN minutes of timebase after the last one. -/
def intervalBoundary (s : State) : State :=
  let len := fld s R.MTR_DEM F.MTR_DEM_LEN
  if calValid s then
    if ofBcd (fld s R.RTC_TIME F.RTC_TIME_MIN) % len = 0 ∧ fld s R.RTC_TIME F.RTC_TIME_SEC = 0 then closeIntervals s false false else s
  else
    let due := s.meter.ivlStart.toNat + len * 6000000000
    closeIntervals (advanceTo s (BitVec.ofNat 64 due)) false true

/-! ## Line cycles (R211, R214, R215) -/

/-- The current channels of a circuit. -/
def circChannels (s : State) (c : Nat) : List Nat := (upTo (circNel s c)).map (elemI s c)

/-- Bit of AFE_PATHST: the channel uses its ×32 path. -/
def onX32 (s : State) (i : Nat) : Bool := bit (rd s (R.AFE_PATHST (i / 32))) (i % 32)
def setX32 (s : State) (i : Nat) (b : Bool) : State := setBit s (R.AFE_PATHST (i / 32)) (i % 32) b

/-- At a cycle end a ×1 channel whose peak stayed below 2 % in four cycles goes over to ×32 (R211). -/
def pathAtCycle (s : State) (i : Nat) : State :=
  let x := currAt s i
  if onX32 s i then setCurr s i { x with peak := 0, low := 0 }
  else
    let low := if x.peak * 50 < 2 ^ 30 then x.low + 1 else 0
    let s := setCurr s i { peak := 0, low := if 4 ≤ low then 0 else low }
    if 4 ≤ low then setX32 s i true else s

/-- Channels go back to ×1 (R211: a channel of no enabled circuit). -/
def freeChannels (s : State) (c : Nat) : State := forAll (fun s i => setCurr (setX32 s i false) i {}) (circChannels s c) s

/-- K of an element (R220): AFE_VFS · AFE_IFS / (28,800 · 2^36) in binary64. -/
def elemScale (s : State) (c k : Nat) : DWord :=
  let v := fval (rd s (R.AFE_VFS (elemV s c k)))
  let i := fval (rd s (R.AFE_IFS (elemI s c k)))
  match v, i with
  | .num n1 m1 e1, .num n2 m2 e2 =>
    BitVec.ofNat 64 (fdivV f64 (.num (n1 != n2) (m1 * m2) (e1 + e2)) (.num false 28800 36)).1
  | _, _ => 0

/-- A circuit enters STARTING: its scales are formed and its channels start on ×1 (R211, R220). -/
def startCircuit (s : State) (c : Nat) : State :=
  let s := freeChannels (setCircSt s c fsSTARTING) c
  let zc := flag s (R.MTR_VSTAT (circZc s c)) F.MTR_VSTAT_ZC_LOST
  let s := setFld s (R.CIR_STAT c) F.CIR_STAT_ZC_FB (b2n zc)
  let x := circAt s c
  refreshCircuit (setCirc s c { x with running := false, cp := 0, cq := 0, period := 2000000, spanP := 0, spanQ := 0, spanLen := 0
                                       sqV := 0, sqI := 0, samples := 0, clip := false, ivlPart := true
                                       scale := (upTo (circNel s c)).map (elemScale s c) }) c

/-- A circuit reaches OFF: totals are saved, and a latched re-arm starts it again. -/
def circuitOff (s : State) (c : Nat) : State :=
  let s := freeChannels (setCirc s c { circAt s c with running := false, ivlPart := true }) c
  let s := setFld (setFld (setCircSt s c fsOFF) (R.CIR_STAT c) F.CIR_STAT_SUSP 0) (R.CIR_STAT c) F.CIR_STAT_ZC_FB 0
  let s := saveRecord s
  if flag s (R.CIR_STAT c) F.CIR_STAT_REARM then startCircuit (setFld s (R.CIR_STAT c) F.CIR_STAT_REARM 0) c else s

/-- A standby keeps its own nets for the next mirrored accumulators (R241). -/
def logNets (s : State) (c : Nat) (te : DWord) (cp cq : Int) : State :=
  if onStandby s then { s with twin := { s.twin with nets := s.twin.nets ++ [{ circuit := c, te := te, cp := cp, cq := cq }] } } else s

/-- End the cycle in progress of a circuit at a time: nets, spans, demand, publication, and OFF when it is STOPPING. -/
def finishCycle (s : State) (c : Nat) (te : DWord) (isLine : Bool) : State :=
  let x := circAt s c
  let len := (te - x.start).toNat
  let s := match x.closing with | some b => if b.at_ < te then commitInterval s c b else s | none => s
  let s := logNets (applyNets s c x.cp x.cq) c te x.cp x.cq
  let y := circAt s c
  let s := setCirc s c { y with spanP := y.spanP + x.cp, spanQ := y.spanQ + x.cq, spanLen := y.spanLen + len, cp := 0, cq := 0, start := te
                                period := if isLine then len else y.period, lineLen := if isLine then len else y.lineLen, ivlActive := true }
  let s := forAll pathAtCycle (circChannels s c) s
  let stopping := circSt s c == fsSTOPPING
  let s := if stopping || pubBoundary s x.start te then publishCircuit s c te else s
  if stopping then circuitOff s c else s

/-- A cycle boundary reaches a circuit: STARTING becomes ON, a resumed circuit begins its first cycle, a running one ends its cycle. -/
def cycleEnd (te : DWord) (isLine : Bool) (s : State) (c : Nat) : State :=
  let st := circSt s c
  let x := circAt s c
  if st = fsOFF ∨ flag s (R.CIR_STAT c) F.CIR_STAT_SUSP then s
  else if x.running then finishCycle s c te isLine
  else if st = fsSTOPPING then circuitOff s c
  else setCirc (setCircSt s c fsON) c { x with running := true, start := te, cp := 0, cq := 0 }

/-- The circuits that a reference channel cuts. -/
def circuitsOf (s : State) (v : Nat) : List Nat := (upTo 48).filter (fun c => circSt s c != fsOFF && circZc s c == v)

/-- An accepted crossing of a voltage channel (R213, R214, R216). -/
def acceptCrossing (s : State) (v : Nat) (t : DWord) : State :=
  let x := voltAt s v
  let gap := match x.last with | some l => (t - l).toNat | none => 0
  let lost := flag s (R.MTR_VSTAT v) F.MTR_VSTAT_ZC_LOST
  let back := lost && decide (1538462 ≤ gap) && decide (gap ≤ 2222222)
  let s := setVolt s v { x with last := some t, armed := false }
  let s := if x.last.isSome && (!lost || back) then setFld s (R.MTR_VSTAT v) F.MTR_VSTAT_PERIOD gap else s
  if lost && !back then s
  else
    let s := forAll (cycleEnd t !lost) (circuitsOf s v) s
    if back then
      let s := forAll (fun s c => setFld s (R.CIR_STAT c) F.CIR_STAT_ZC_FB 0) (circuitsOf s v) s
      raiseBit (setFld s (R.MTR_VSTAT v) F.MTR_VSTAT_ZC_LOST 0) 0x50 1
    else s

/-- ZC_LOST (R215): no crossing for ZC_TMO; the cycles in progress end and windows begin. -/
def zcLost (s : State) (v : Nat) : State :=
  let base := ((voltAt s v).last.getD s.meter.started).toNat
  if flag s (R.MTR_VSTAT v) F.MTR_VSTAT_ZC_LOST then s
  else
    let s := advanceTo s (BitVec.ofNat 64 (base + fld s R.MTR_ZC F.MTR_ZC_ZC_TMO * 100000))
    let s := raiseBit (setFld s (R.MTR_VSTAT v) F.MTR_VSTAT_ZC_LOST 1) 0x50 0
    forAll (fun s c =>
      let s := if (circAt s c).running then finishCycle s c s.now false else s
      if circSt s c = fsOFF then s else setFld s (R.CIR_STAT c) F.CIR_STAT_ZC_FB 1) (circuitsOf s v) s

/-- FIXED_WINDOW_END (R215): the window that ends at the next multiple of 20 ms ends for every circuit on windows. -/
def fixedWindowEnd (s : State) : State :=
  let s := advanceTo s (BitVec.ofNat 64 ((s.now.toNat + 1999999) / 2000000 * 2000000))
  forAll (fun s c => if flag s (R.CIR_STAT c) F.CIR_STAT_ZC_FB then cycleEnd s.now false s c else s) (upTo 48) s

/-! ## One sampling instant (R209 to R213, R220) -/

def sampleInt (l : List Word) (i : Nat) : Int := (l.getD i 0).toInt

/-- Mark a calibration path's window as spoilt (R230). -/
def taint (s : State) (p : Nat) : State := { s with meter := { s.meter with tainted := tput (fun _ => false) s.meter.tainted p true } }

/-- Circuits that use a current or a voltage channel note a clipped sample. -/
def noteClip (s : State) (uses : Nat → Nat → Bool) : State :=
  forAll (fun s c => if circSt s c != fsOFF && (upTo (circNel s c)).any (uses c) then
    setCirc (setFld s (R.CIR_STAT c) F.CIR_STAT_CLIP 1) c { circAt s c with clip := true, ivlClip := true } else s) (upTo 48) s

/-- The clip and path tests of one current channel (R211, R212). -/
def currentSample (x : MeterSample) (s : State) (i : Nat) : State :=
  let r1 := (sampleInt x.raw1 i).natAbs
  let clip := decide (2 ^ 30 ≤ r1) || x.over1.getLsbD i
  let s := if clip then
      let k := if i < 32 then R.AFE_ICLIP0 else R.AFE_ICLIP1
      noteClip (taint (raiseBit (setBit s k (i % 32) true) 0x53 0) (6 + i)) (fun c k => elemI s c k == i)
    else s
  let ovl := x.over32.getLsbD i
  let s := if ovl then taint s (54 + i) else s
  let c := currAt s i
  let s := setCurr s i { c with peak := max c.peak r1 }
  if onX32 s i && (ovl || decide (96 * 2 ^ 30 < 100 * (sampleInt x.raw32 i).natAbs)) then
    setCurr (setX32 s i false) i { peak := r1, low := 0 }
  else s

/-- The clip test and the zero-crossing detector of one voltage channel (R212, R213). -/
def voltageSample (x : MeterSample) (t : DWord) (s : State) (v : Nat) : State :=
  let s := if 2 ^ 30 ≤ (sampleInt x.rawV v).natAbs then
      noteClip (taint (raiseBit (setBit s R.AFE_VCLIP v true) 0x53 0) v) (fun c k => elemV s c k == v)
    else s
  let ch := voltAt s v
  let cur := sampleInt x.volt v
  let prev := (ch.hist.headD 0).toInt
  let had := ch.hist != []
  let hyst : Int := fld s R.MTR_ZC F.MTR_ZC_ZC_HYST
  let s := setVolt s v { ch with hist := ((x.volt.getD v 0) :: ch.hist).take 64, armed := ch.armed || decide (cur * 1000 < -hyst * 2 ^ 30) }
  if had && decide (prev < 0) && decide (0 ≤ cur) && ch.armed then
    let tc := t - 12500 + BitVec.ofInt 64 (roundDiv (12500 * (-prev)) (cur - prev))
    let ok := match ch.last with | some l => decide (1250000 ≤ (tc - l).toNat) | none => true
    if ok then acceptCrossing s v tc else s
  else s

/-- The voltage a quarter period ago: a sample where the instant falls on one, else interpolated; the manual gives no interpolation, so that value is free (assumption 7). -/
def quadrature (s : State) (v period : Nat) : State × Int :=
  let h := (voltAt s v).hist
  if period % 50000 = 0 ∧ period / 50000 < h.length then (s, (h.getD (period / 50000) 0).toInt)
  else let (s, w) := takeFree s; (s, w.toInt)

/-- One element's part of a sample (R220). -/
def elementSample (x : MeterSample) (c : Nat) (s : State) (k : Nat) : State :=
  let i := elemI s c k
  let v := elemV s c k
  let raw := if onX32 s i then sampleInt x.curr32 i else sampleInt x.curr1 i
  let cur := if flag s (R.CIR_ELEM c k) F.CIR_ELEM_INVERT then -raw else raw
  let vol := sampleInt x.volt v
  let (s, vq) := quadrature s v (circAt s c).period
  let y := circAt s c
  let kk := fdec f64 (y.scale.getD k 0).toNat
  let first := k == 0
  setCirc s c { y with cp := y.cp + timesExact (vol * cur) 1 kk, cq := y.cq + timesExact (vq * cur) 1 kk
                       sqV := if first then y.sqV + vol.natAbs ^ 2 else y.sqV, sqI := if first then y.sqI + cur.natAbs ^ 2 else y.sqI
                       samples := y.samples + b2n first }

/-- A sample of one circuit. -/
def circuitSample (x : MeterSample) (s : State) (c : Nat) : State :=
  if (circAt s c).running then forAll (elementSample x c) (upTo (circNel s c)) s else s

/-- The port's gate is on (R270, R295). -/
def gateOn (s : State) (p : Nat) : Bool := fld s (R.SPU_PSTAT p) F.SPU_PSTAT_PORT == 3 && flag s (R.SPU_PCFG p) F.SPU_PCFG_PODL

/-- A port meter accumulates: it is ON or STOPPING, not suspended, and its gate is on. -/
def pmRuns (s : State) (p : Nat) : Bool :=
  (pmSt s p == fsON || pmSt s p == fsSTOPPING) && !flag s (R.SPU_PMSTAT p) F.SPU_PMSTAT_SUSP && gateOn s p

/-- A sample of one port (R233): energy in 2^-24 mWh, rounded once. The means of SPU_PMEAS follow every port. -/
def portSample (x : MeterSample) (s : State) (p : Nat) : State :=
  let v := sampleInt x.portV p
  let i := sampleInt x.portI p
  let m := portMeterAt s p
  let e := if pmRuns s p then roundDiv (v * i * (125 * 2 ^ 24)) (36 * 10 ^ 17) else 0
  let sq := if pmRuns s p then i.natAbs ^ 2 else 0
  setPortMeter s p { m with tickE := m.tickE + e, tickSq := m.tickSq + sq, tickV := m.tickV + v, tickI := m.tickI + i, tickN := m.tickN + 1 }

/-! ## PFW and the sag detector (R94, R177, R238) -/

/-- Each DSP ends its cycles and ticks in progress (R238). -/
def meterSnapshot (s : State) : State :=
  let s := forAll (fun s c => if (circAt s c).running then finishCycle s c s.now false else s) (upTo 48) s
  forAll taint (upTo 102) s

/-- PFW asserts, or a sag stands for it: the save of R94, the exchange of R177 and the metering snapshot of R238; a mode request is discarded (R458) and the event source 133h goes high. -/
def powerFail (s : State) : State :=
  if s.pfwLevel then s
  else
    let s := meterSnapshot (exchangeAbandon (scanPowerFail (discardRequest s)))
    evtLevel { s with pfwLevel := true, meter := { s.meter with snap := some (meterRecord s) } } 0x133

/-- Whether √(sq/n) · VFS / 2^30 lies below `num/den` volts, exactly. -/
def rmsBelow (sq n : Nat) (vfs : Word) (num den : Nat) : Bool :=
  match fval vfs with
  | .num _ m e =>
    let a := sq * m * m * den * den
    let b := num * num * n * 2 ^ 60
    if 0 ≤ e then decide (a * 4 ^ e.toNat < b) else decide (a < b * 4 ^ (-e).toNat)
  | _ => false

/-- A half cycle of the sag detector's channel ends (R238). -/
def sagHalf (s : State) (v : Nat) : State :=
  let x := voltAt s v
  let lev := fld s R.MTR_SAG F.MTR_SAG_LEVEL
  let vfs := rd s (R.AFE_VFS v)
  let below := rmsBelow x.halfSq x.halfN vfs lev 10
  let low := if below then x.lowHalves + 1 else 0
  let s := setVolt s v { x with halfSq := 0, halfN := 0, lowHalves := low }
  if x.halfN = 0 then s
  else if flag s (R.MTR_VSTAT v) F.MTR_VSTAT_SAG then
    if rmsBelow x.halfSq x.halfN vfs (lev * 105) 1000 then s else setFld s (R.MTR_VSTAT v) F.MTR_VSTAT_SAG 0
  else if fld s R.MTR_SAG F.MTR_SAG_CYCLES ≤ low then
    powerFail (raiseBit (setFld s (R.MTR_VSTAT v) F.MTR_VSTAT_SAG 1) 0x50 2)
  else s

/-- The sag detector's part of a sample: a change of sign, or half a window while crossings are lost, ends a half cycle. -/
def sagSample (x : MeterSample) (t : DWord) (s : State) : State :=
  let v := fld s R.MTR_SAG F.MTR_SAG_SRC
  if !flag s R.MTR_SAG F.MTR_SAG_EN then s
  else
    let cur := sampleInt x.volt v
    let prev := ((voltAt s v).hist.getD 1 0).toInt
    let edge := if flag s (R.MTR_VSTAT v) F.MTR_VSTAT_ZC_LOST then t.toNat % 1000000 == 0 else decide (prev < 0) != decide (cur < 0)
    let s := if edge then sagHalf s v else s
    let ch := voltAt s v
    setVolt s v { ch with halfSq := ch.halfSq + cur.natAbs ^ 2, halfN := ch.halfN + 1 }

/-- METERING_SAMPLE: the next sampling instant. The line die's part runs while the front end is ON and the mode meters. -/
def meteringSample (s : State) (x : MeterSample) : State :=
  let t : DWord := BitVec.ofNat 64 (s.meter.nextSample * 12500)
  let s := advanceTo { s with meter := { s.meter with nextSample := s.meter.nextSample + 1 } } t
  let s := if pageOn s 0x53 && !meterBarred s then
      let s := forAll (currentSample x) (upTo 48) s
      let s := forAll (voltageSample x t) (upTo 6) s
      sagSample x t (forAll (circuitSample x) (upTo 48) s)
    else s
  forAll (portSample x) (upTo 16) s

/-! ## Port meters (R233 to R235) -/

/-- Add to register `r` of a port meter. -/
def addPortEnergy (s : State) (p r n : Nat) : State :=
  let x := portMeterAt s p
  let (a, w) := accAdd (x.acc.getD r 0) n
  let wc := (x.wraps.getD r 0 + b2n w) % 256
  let s := setPortMeter s p { x with acc := setAt x.acc r a, wraps := setAt x.wraps r wc }
  let s := showEnergy s (R.SPU_PME p r) (R.SPU_PMEH p r) a wc
  if w then raiseBit (setFld s (R.SPU_PMSTAT p) F.SPU_PMSTAT_WRAP (fld s (R.SPU_PMSTAT p) F.SPU_PMSTAT_WRAP ||| 2 ^ r)) (0x61 + p) 9 else s

/-- The cable loss of a tick: Rloop × Σ i² × 125 µs, with currents in µA, in 2^-24 mWh. -/
def cableLoss (rloop : Word) (sq : Nat) : Int := timesExact ((sq * (125 * 2 ^ 24) : Nat) : Int) (36 * 10 ^ 17) (fval rloop)

/-- Publish one offset of a port meter. -/
def publishPort (s : State) (p j : Nat) (v : DWord) (q : Byte) : State :=
  if (fld s (R.SPU_PMPTS p) F.SPU_PMPTS_MASK).testBit j ∧ modeNow s ≠ mdSTANDBY then
    (tryWrite s 0 4 (fld s (R.SPU_PMPTS p) F.SPU_PMPTS_PT_BASE + j) v q s.now (sourceOf 4 p)).1
  else s

/-- The publication of a port meter at a tick's end (R235). -/
def publishPortMeter (s : State) (p : Nat) : State :=
  let x := portMeterAt s p
  let st : Byte := if flag s (R.SPU_PMSTAT p) F.SPU_PMSTAT_HELD then 3 else 0
  let en (r : Nat) : DWord := energyValue (x.acc.getD r 0) (x.wraps.getD r 0)
  let s := publishPort s p 0 (en 0) 0
  let s := publishPort s p 1 (en 1) st
  let s := publishPort s p 2 (en 2) 0
  let s := publishPort s p 3 ((meanPower x.spanE (x.spanTicks * 100000)).setWidth 64) 0
  let s := publishPort s p 4 ((ratF32 x.spanV (x.spanN * 1000000)).setWidth 64) 0
  let s := publishPort s p 5 ((ratF32 x.spanI (x.spanN * 1000000)).setWidth 64) 0
  let s := publishPort s p 6 ((rd s (R.SPU_PMR p)).setWidth 64) st
  setPortMeter s p { portMeterAt s p with spanE := 0, spanV := 0, spanI := 0, spanN := 0, spanTicks := 0 }

/-- PORT_METER_TICK (R233): net the tick that ends at the present boundary, and measure its means (SPU_PMEAS). -/
def portTick (s : State) (p : Nat) : State :=
  let x := portMeterAt s p
  let mean (t : Int) : Nat := if x.tickN = 0 then 0 else min 0xFFFF (t / ((x.tickN * 1000 : Nat) : Int)).toNat
  let s := if x.tickN = 0 then s else
    setFld (setFld s (R.SPU_PMEAS p) F.SPU_PMEAS_VOLT (mean x.tickV)) (R.SPU_PMEAS p) F.SPU_PMEAS_CURR (mean x.tickI)
  let s := if pmRuns s p then
      let loss := cableLoss (rd s (R.SPU_PMR p)) x.tickSq
      let s := if 0 < x.tickE then addPortEnergy s p 0 x.tickE.natAbs else bumpSat s (R.SPU_PMREV p) 1
      let s := if loss < x.tickE then addPortEnergy s p 1 (x.tickE - loss).natAbs else s
      if 0 < loss then addPortEnergy s p 2 loss.natAbs else s
    else s
  let y := portMeterAt s p
  let s := match y.next with | some r => wr s (R.SPU_PMR p) r | none => s
  let s := setPortMeter s p { y with tickE := 0, tickSq := 0, tickV := 0, tickI := 0, tickN := 0, est := if y.next.isSome then y.next else y.est
                                     next := none, spanE := y.spanE + x.tickE, spanV := y.spanV + x.tickV, spanI := y.spanI + x.tickI
                                     spanN := y.spanN + x.tickN, spanTicks := y.spanTicks + 1 }
  if (pmSt s p == fsON || pmSt s p == fsSTOPPING) && !flag s (R.SPU_PMSTAT p) F.SPU_PMSTAT_SUSP && pubBoundary s (s.now - 100000) s.now then
    publishPortMeter s p
  else s

/-- A cycle frame with the station's input voltage reaches the port meter (R234). The estimate and the deviation of I come from weighted sums
whose arithmetic the manual does not fix: free values (assumption 7), held to the conditions of R234. -/
def portEstimate (s : State) (p : Nat) : State :=
  if !(flag s (R.SPU_PMCTRL p) F.SPU_PMCTRL_UTRACK && pmRuns s p) then s
  else
    let x := portMeterAt s p
    let n := x.frames + 1
    let (s, r) := takeFree s
    let (s, d) := takeFree s
    let enough := decide (fld s (R.SPU_PMTAU p) F.SPU_PMTAU_TAU * 1000 ≤ n) && d.getLsbD 0
    let inRange := fle32 0 r && fle32 r 0x437F0000
    let s := setPortMeter s p { x with frames := n, next := if enough && inRange then some r else x.next }
    if !enough then setFld s (R.SPU_PMSTAT p) F.SPU_PMSTAT_HELD 1
    else if inRange then setFld s (R.SPU_PMSTAT p) F.SPU_PMSTAT_HELD 0
    else raiseBit (setFld s (R.SPU_PMSTAT p) F.SPU_PMSTAT_R_RANGE 1) (0x61 + p) 10

/-- A spur powers up: frames are counted anew and the configured initial value is in force (R234). -/
def portMeterPowerUp (s : State) (p : Nat) : State :=
  wr (setPortMeter s p { portMeterAt s p with frames := 0, est := none, next := none }) (R.SPU_PMR p) (rd s (R.SPU_PMRINIT p))

/-- MDSP_LOST counts the ms in which an enabled circuit or port meter of the DSP was suspended. -/
def countLost (s : State) (d : Nat) : State :=
  if (upTo 24).any (fun i => flag s (R.CIR_STAT (24 * d + i)) F.CIR_STAT_SUSP) || (upTo 8).any (fun i => flag s (R.SPU_PMSTAT (8 * d + i)) F.SPU_PMSTAT_SUSP)
  then bumpSat s (R.MDSP_LOST d) 1 else s

/-- The metering part of a tick boundary. MDSP_LOAD's busy time is not given: a free value in per mille, at each full second. -/
def meterTick (s : State) (k : Nat) : State :=
  let s := forAll portTick (upTo 16) s
  let s := forAll countLost (upTo 2) s
  if k % 1000 = 0 then
    forAll (fun s d => let (s, w) := takeFree s; setFld s (R.MDSP_LOAD d) F.MDSP_LOAD_LOAD (w.toNat % 1001)) (upTo 2) s
  else s

/-! ## Live calibration (R230, R231) -/

/-- One path at the end of a calibration window: the target that the correlation gave, adopted within LIMIT. -/
def calibratePath (ts : List Int) (s : State) (p : Nat) : State :=
  let t := ts.getD p 0
  if tget (fun _ => false) s.meter.tainted p then setFld s R.LCAL_STAT F.LCAL_STAT_DISCARD 1
  else if fld s R.LCAL_CFG F.LCAL_CFG_LIMIT < t.natAbs then raiseBit (setFld s R.LCAL_STAT F.LCAL_STAT_RANGE 1) 0x54 0
  else setFld s (R.LCAL_GAIN p) F.LCAL_GAIN_TARGET (codeOf 16 t)

/-- CALIBRATION_WINDOW_END, while the LCAL page is ON. -/
def calibrationWindowEnd (s : State) (ts : List Int) : State :=
  if !pageOn s 0x54 || meterBarred s then s
  else
    let s := forAll (calibratePath ts) (upTo 102) s
    let s := bumpFld { s with meter := { s.meter with tainted := [] } } R.LCAL_STAT F.LCAL_STAT_WINDOWS 1
    raiseBit s 0x54 1

/-- CORRECTION_STEP: APPLIED moves toward TARGET by at most 16 units (R231). -/
def correctionStep (s : State) : State :=
  forAll (fun s p =>
    let t := signedOf 16 (fld s (R.LCAL_GAIN p) F.LCAL_GAIN_TARGET)
    let a := signedOf 16 (fld s (R.LCAL_GAIN p) F.LCAL_GAIN_APPLIED)
    setFld s (R.LCAL_GAIN p) F.LCAL_GAIN_APPLIED (codeOf 16 (a + clampInt (-16) 16 (t - a)))) (upTo 102) s

/-! ## Commands and enables (R218, R237, R295) -/

/-- ZERO (CIR_CMD). -/
def circuitZero (s : State) (c : Nat) : State × Code :=
  if circSt s c ≠ fsOFF then (s, .notInState)
  else
    let z := [0, 0, 0, 0, 0, 0]
    let s := setCirc s c { circAt s c with acc := z, wraps := z, ivl := z }
    let s := forAll (fun s r => showEnergy s (R.CIR_E c r) (R.CIR_EH c r) 0 0) (upTo 6) s
    (saveRecord (wr s (R.CIR_MAXD c) 0), .none)

/-- CLR_MAX (CIR_CMD). -/
def circuitClrMax (s : State) (c : Nat) : State × Code := (wr (wr s (R.CIR_MAXD c) 0) (R.CIR_MAXT c) 0, .none)

/-- The DTYPE that R219 and R235 give an offset: ENERGY below `n`, REAL from there. -/
def meterDtype (n j : Nat) : Nat := if j < n then 0x0B else 7

/-- The points that a mask selects from a base, with their offsets. -/
def selected (base mask n : Nat) : List (Nat × Nat) := ((upTo n).filter mask.testBit).map (fun j => (j, base + j))

/-- The conditions of R218 for enabling a circuit. -/
def enableCircuitCheck (s : State) (c : Nat) : Code :=
  let f := circFlask s c
  let is := circChannels s c
  let ps := selected (fld s (R.CIR_PTS c) F.CIR_PTS_PT_BASE) (fld s (R.CIR_PTS c) F.CIR_PTS_PUB_MASK) 13
  if !flaskEnabled s f then .illegalValue
  else if is = [] ∨ !is.Nodup then .illegalValue
  else if (upTo 48).any (fun d => d != c && circSt s d != fsOFF && (circChannels s d).any is.contains) then .noResource
  else if ps.any (fun x => !(pointAt s x.2).alloc) then .notInState
  else if ps.any (fun x => (pointAt s x.2).dtype.toNat != meterDtype 6 x.1) then .illegalValue
  else if ps.any (fun x => (pointAt s x.2).owner.toNat != f) then .accessFlask
  else .none

/-- The conditions of R295 for enabling a port meter. -/
def enablePortMeterCheck (s : State) (p : Nat) : Code :=
  let ps := selected (fld s (R.SPU_PMPTS p) F.SPU_PMPTS_PT_BASE) (fld s (R.SPU_PMPTS p) F.SPU_PMPTS_MASK) 7
  if ps.any (fun x => !(pointAt s x.2).alloc) then .notInState
  else if ps.any (fun x => (pointAt s x.2).owner.toNat != 0) then .accessFlask
  else if ps.any (fun x => (pointAt s x.2).dtype.toNat != meterDtype 3 x.1) then .illegalValue
  else if !flag s (R.SPU_PCFG p) F.SPU_PCFG_PODL then .illegalValue
  else .none

/-! ## Restoring (R239) -/

/-- The newest copy of the record; a copy that fails its check is not one. -/
def newestRecord (s : State) : Option MeterRec :=
  match tget (fun _ => none) s.meter.nvr 0, tget (fun _ => none) s.meter.nvr 1 with
  | some a, some b => some (if a.seq < b.seq then b else a)
  | some a, none => some a
  | none, b => b

/-- Put a circuit's saved totals back. -/
def restoreCircuit (r : MeterRec) (s : State) (c : Nat) : State :=
  match r.circuits[c]? with
  | some e =>
    let s := setCirc s c { circAt s c with acc := e.acc, wraps := e.wraps, ivl := e.ivl }
    let s := forAll (fun s i => showEnergy s (R.CIR_E c i) (R.CIR_EH c i) (e.acc.getD i 0) (e.wraps.getD i 0)) (upTo 6) s
    wr (wr (wr s (R.CIR_MAXD c) e.maxd) (R.CIR_MAXT c) e.maxt) (R.CIR_STAT c) (rd s (R.CIR_STAT c) ||| e.flags)
  | none => s

/-- Put a port meter's saved totals back. -/
def restorePort (r : MeterRec) (s : State) (p : Nat) : State :=
  match r.ports[p]? with
  | some e =>
    let s := setPortMeter s p { portMeterAt s p with acc := e.acc, wraps := e.wraps, est := e.rloop }
    let s := forAll (fun s i => showEnergy s (R.SPU_PME p i) (R.SPU_PMEH p i) (e.acc.getD i 0) (e.wraps.getD i 0)) (upTo 3) s
    let s := wr s (R.SPU_PMSTAT p) (rd s (R.SPU_PMSTAT p) ||| e.flags)
    match e.rloop with | some w => wr s (R.SPU_PMR p) w | none => s
  | none => s

/-- METER_RESTORE: the totals and corrections of the newest record, and MTR_GAP; `gap` is the calendar time since the record in seconds. -/
def restoreMeters (s : State) (gap : Nat) : State :=
  match newestRecord s with
  | none => wr s R.MTR_GAP 0xA0000000
  | some r =>
    let s := forAll (restorePort r) (upTo 16) (forAll (restoreCircuit r) (upTo 48) s)
    let s := forAll (fun s p => setFld s (R.LCAL_GAIN p) F.LCAL_GAIN_APPLIED (r.applied.getD p 0)) (upTo 102) s
    let timed := calValid s
    wr s R.MTR_GAP (BitVec.ofNat 32 (2 ^ 31 + (if timed then min (2 ^ 29 - 1) gap else 2 ^ 30)))

end Sys2Proof.Machine
end

