-- ==== Sys2Proof/Machine/Modes.lean ====
section
/-! DEFINITION. Major modes and power domains (R455 to R468), and what a change of mode does to the roles, the lines and the
synchronization state of the twin page (R326, R328, R330, R347). -/

namespace Sys2Proof.Machine

/-! ## Roles, role lines and SYNC -/

def rlNONE : Nat := 0
def rlRESOLVING : Nat := 1
def rlACTIVE : Nat := 2
def rlSTANDBY : Nat := 3
def rlALONE : Nat := 4
def roleOf (s : State) : Nat := fld s R.TWN_STAT F.TWN_STAT_ROLE
def paired (s : State) : Bool := flag s R.TWN_CFG F.TWN_CFG_PAIR
def setTwin (s : State) (x : Twin) : State := { s with twin := x }

/-- ROLE_OUT is high in the active role of a pair only; TAKEOVER falls when the role is left (R326, R328). -/
def roleLines (s : State) : State :=
  let on := paired s && roleOf s == rlACTIVE
  let s := setFld s R.TWN_STAT F.TWN_STAT_ROLE_OUT (b2n on)
  if on then s else setFld s R.TWN_STAT F.TWN_STAT_TAKEOVER 0

/-- Take a role: TWN_STAT.ROLE and SUBSTATE show it, a change sets PG_ISR bit 0. -/
def setRole (s : State) (r : Nat) : State :=
  let s := if roleOf s = r then s else raiseBit s 0x88 0
  roleLines (setSub (setFld s R.TWN_STAT F.TWN_STAT_ROLE r) 0x88 r)

def syncOf (s : State) : Nat := fld s R.TWN_STAT F.TWN_STAT_SYNC
def syUNSYNCED : Nat := 0
def syBULK : Nat := 1
def syCATCHUP : Nat := 2
def sySYNCED : Nat := 3

/-- Set SYNC. Becoming SYNCED restarts the counts that run since then; leaving it sets SYNC_LOST (R347, R349, R353). -/
def setSync (s : State) (v : Nat) : State :=
  let was := syncOf s
  let s := setFld s R.TWN_STAT F.TWN_STAT_SYNC v
  if v = sySYNCED ∧ was ≠ sySYNCED then
    let s := setTwin s { s.twin with sweeps := 0, shCompared := 0, shIncomp := 0, shMismatch := 0, laneErr0 := 0, laneErr1 := 0, hbSilent := 0, syncAt := s.now
                                     sweepAt := s.now, queue := [] }
    raiseBit s 0x88 5
  else if was = sySYNCED ∧ v ≠ sySYNCED then raiseBit s 0x88 6
  else s

/-- Entry into RESOLVING: the wait of R333 starts. -/
def startResolving (s : State) : State :=
  setSync (setRole (setTwin s { s.twin with since := s.now, heard := false, slots := [], decided := none, demote := false, hoReq := false, hoTick := none })
    rlRESOLVING) syUNSYNCED

/-- The epoch of R335: the least value above every one given, with HOME as its bit 0. -/
def nextEpoch (own peer seen : Nat) (home : Bool) : Nat :=
  let n := max own (max peer seen) + 1
  if n % 2 = b2n home then n else n + 1

/-- Raise the epoch at an entry into the active role; a raise that would pass FFFF_FFFFh is refused (R335). The answer says whether it was made. -/
def raiseEpoch (s : State) : State × Bool :=
  let n := nextEpoch (rd s R.TWN_EPOCH).toNat (rd s R.TWN_PEPOCH).toNat s.twin.maxSeen (flag s R.TWN_CFG F.TWN_CFG_HOME)
  if n < 2 ^ 32 then
    let w := BitVec.ofNat 32 n
    (setTwin (wr s R.TWN_EPOCH w) { s.twin with raised := true, epochNvr := w }, true)
  else (setTwin s { s.twin with epochEnd := true }, false)

/-- A lone module raises its epoch at its first entry into ACTIVE after a reset (R329). -/
def loneEpoch (s : State) : State := if paired s || s.twin.raised then s else (raiseEpoch s).1

/-! ## Changing the mode (R456) -/

/-- The START record's DETAIL for the mode left (R96, R102); none after DOZE. -/
def startDetail (was : Nat) : Option Nat :=
  if was = mdBOOT then some 0 else if was = mdSTANDBY then some 1 else if was = mdSAFE then some 2
  else if was = mdCOMMISSION then some 3 else none

/-- Bring everything that the mode governs up to date. -/
def refreshAll (s : State) : State := refreshCan (refreshMeters (refreshLoops (refreshTasks s)))

/-- Enter a mode for a reason. -/
def changeMode (s : State) (md reason : Nat) : State :=
  let was := modeNow s
  let w := rd s R.SYS_MODE
  let s := wr s R.SYS_MODE (BitVec.ofNat 32 (reason * 2 ^ 24 + was * 2 ^ 12 + bits w 11 6 * 2 ^ 6 + md))
  let s := if was = md then s else raiseBit s 0x00 0
  let s := { s with wake := false, rwlLocked := s.rwlLocked || md == mdACTIVE || md == mdSTANDBY || md == mdDOZE }
  let s := if md = mdACTIVE then loneEpoch s else s
  let s := if md = mdACTIVE ∧ was ≠ md then (match startDetail was with | some d => postStart s d | none => s) else s
  refreshAll s

/-- The role that a host's change of mode gives a paired module (R330, R457). -/
def requestedRole (s : State) (md : Nat) : State :=
  if !paired s then s
  else if md = mdSTANDBY then startResolving s
  else if md = mdCOMMISSION then setSync (setRole s rlNONE) syUNSYNCED
  else s

/-- The rows of R456 that a host may request. -/
def requestAllowed (was req : Nat) : Bool :=
  if was = mdCOMMISSION then req == mdACTIVE
  else if was = mdACTIVE then req == mdSAFE || req == mdDOZE || req == mdCOMMISSION
  else if was = mdSAFE ∨ was = mdDOZE then req == mdACTIVE || req == mdCOMMISSION
  else was == mdSTANDBY && req == mdCOMMISSION

/-- A write of SYS_MODEREQ (R457). -/
def modeRequest (s : State) (req : Nat) : State × Code :=
  if req ≠ 3 ∧ req ≠ 4 ∧ req ≠ 6 ∧ req ≠ 7 then (s, .illegalValue)
  else if flag s R.SYS_MODE F.SYS_MODE_PEND then (s, .busy)
  else if !requestAllowed (modeNow s) req then (s, .notInState)
  else (setFld (setFld s R.SYS_MODE F.SYS_MODE_PEND 1) R.SYS_MODE F.SYS_MODE_REQ req, .none)

/-- A pending change takes effect at a tick boundary: a DOZE wake first, which discards a host request (R457, R461). -/
def settleMode (s : State) : State :=
  if s.wake ∧ modeNow s = mdDOZE then changeMode (discardRequest s) mdACTIVE 5
  else if flag s R.SYS_MODE F.SYS_MODE_PEND then
    let req := fld s R.SYS_MODE F.SYS_MODE_REQ
    let s := setFld (setFld s R.SYS_MODE F.SYS_MODE_PEND 0) R.SYS_MODE F.SYS_MODE_REQ 0
    if !requestAllowed (modeNow s) req then s
    else
      let md := if modeNow s = mdCOMMISSION ∧ req = mdACTIVE ∧ paired s then mdSTANDBY else req
      changeMode (requestedRole s md) md 1
  else s

/-- A wake event of SYS_DOZECFG (R461): it asks for ACTIVE and pulses source 132h (R36), or discards a request for DOZE (R458). -/
def wakeEvent (s : State) (f : Fld) : State :=
  if !flag s R.SYS_DOZECFG f then s
  else if modeNow s = mdDOZE then evtSet { s with wake := true } 0x132
  else if flag s R.SYS_MODE F.SYS_MODE_PEND ∧ fld s R.SYS_MODE F.SYS_MODE_REQ = mdDOZE then discardRequest s
  else s

/-! ## Power domains (R462 to R468) -/

/-- The Deepest column of R462. -/
def deepest (d : Nat) : Nat := if d = 0 ∨ d = 1 then 0 else if d = 2 ∨ d = 13 then 3 else 4
def domSwitchable (d : Nat) : Bool := pageIn d 3 11
def domSt (s : State) (d : Nat) : Nat := fld s (R.PWR_DOMSTAT d) F.PWR_DOMSTAT_STATE
def domC (s : State) (d : Nat) : Nat := fld s (R.PWR_DOMSTAT d) F.PWR_DOMSTAT_CSTATE
def setDomC (s : State) (d c : Nat) : State := setFld s (R.PWR_DOMSTAT d) F.PWR_DOMSTAT_CSTATE c

/-- STATE of a domain; a change sets PG_ISR bit 0 of the PWR page (R489). -/
def setDomSt (s : State) (d st : Nat) : State :=
  let s := if domSt s d = st then s else raiseBit s 0x01 0
  setFld s (R.PWR_DOMSTAT d) F.PWR_DOMSTAT_STATE st

/-- The pages that R25 assigns to a domain. -/
def domPages (d : Nat) : List Nat := (upTo 256).filter (fun p => (pageAlloc p).isSome && pageDomain p == d)

/-- The budget B (R464): the smallest LAT_US of the domain's pages. -/
def budget (s : State) (d : Nat) : Nat :=
  match (domPages d).map (fun p => fld s (R.PG_LAT p) F.PG_LAT) with
  | [] => 0
  | x :: r => r.foldl min x

/-- A function of an SPU page is not OFF. -/
def spurRuns (s : State) (p : Nat) : Bool :=
  fld s (R.PG_STATE (0x61 + p)) F.PG_STATE != 0 || fld s (R.SPU_SSTAT p) F.SPU_SSTAT_STATE != 0 || pmSt s p != fsOFF

/-- Every switchable function that a domain holds is OFF. -/
def functionsOff (s : State) (d : Nat) : Bool :=
  (domPages d).all (fun p => !pageSwitchable p || fld s (R.PG_STATE p) F.PG_STATE == 0) &&
  (d != 5 || (upTo 512).all (fun n => loopSt s n == fsOFF)) && (d != 6 || (upTo 48).all (fun c => circSt s c == fsOFF)) &&
  (d != 9 || (upTo 8).all (fun p => !spurRuns s p)) && (d != 10 || (upTo 8).all (fun p => !spurRuns s (8 + p)))

/-- A keep-running rule holds (R465): R240, R265, R297, R321, R399, and PD11 of a paired module. -/
def keepRunning (s : State) (d : Nat) : Bool :=
  if d = 6 ∨ d = 7 then (upTo 48).any (fun c => circSt s c != fsOFF) || (upTo 16).any (fun p => pmSt s p != fsOFF)
  else if d = 8 then (upTo 8).any (fun b => fbSt s b != 0) || (upTo 16).any (spurRuns s)
  else if d = 9 then (upTo 8).any (spurRuns s)
  else if d = 10 then (upTo 8).any (fun p => spurRuns s (8 + p))
  else if d = 11 then paired s || (upTo 6).any (fun m => fld s (R.PG_STATE (0x78 + m)) F.PG_STATE != 0)
  else if d = 13 then
    (upTo 16).any (fun c => pageSt s (ldPage c) != 0) || (upTo 48).any (fun k => liteSt s k != 0) ||
    (upTo 64).any (fun q => queueOn s q && ((queueAt s q).opened.isSome || queueLevel s q != 0))
  else false

/-- A volatile key slot that is not EMPTY bars C4 for PD12 (R433). -/
def volatileKey (s : State) : Bool := s.slots.any (fun (n, k) => n != 0 && attrValid k.attr && (!attrPersist k.attr || flag s R.CRU_STAT F.CRU_STAT_DEBUG_ROOT))

/-- An engine of the domain executes: a scan core that holds a run. -/
def domExecutes (s : State) (d : Nat) : Bool := pageIn d 3 4 && (upTo 4).any (fun i => curTask s (4 * (d - 3) + i) != 0x7F)

/-- Whether a state meets the budget and the other conditions of R464; exit latencies of R463, in units of 0.1 µs. -/
def mayTake (s : State) (d c : Nat) : Bool :=
  let exitLat := if c = 1 then 2 else if c = 2 then 50 else if c = 3 then 800 else 20000
  decide (c ≤ deepest d) && decide (exitLat ≤ 10 * budget s d) &&
  (c != 4 || (flag s (R.PWR_DOMCTRL d) F.PWR_DOMCTRL_C4_OK && functionsOff s d && !(d == 12 && volatileKey s)))

/-- The state that R464 chooses for a domain without work. -/
def chooseState (s : State) (d : Nat) : Nat :=
  if domExecutes s d || keepRunning s d || budget s d == 0 then 0
  else if mayTake s d 4 then 4 else if mayTake s d 3 then 3 else if mayTake s d 2 then 2 else if mayTake s d 1 then 1 else 0

/-- An idle domain enters the state chosen; a domain that leaves its state, or is held by R467, does not. -/
def domainIdle (s : State) (d : Nat) : State :=
  if tget (fun _ => false) s.exiting d || domSt s d != 2 then s else setDomC s d (chooseState s d)

/-- A domain begins to leave its sleep state (R465). -/
def domainWake (s : State) (d : Nat) : State := if domSt s d = 2 then demand s d else s

/-- A domain reaches C0 (R463). -/
def domainRuns (s : State) (d : Nat) : State :=
  if domSt s d = 2 then { setDomC s d 0 with exiting := tput (fun _ => false) s.exiting d false } else s

/-- A budget changed (R466): a domain in a state whose exit latency exceeds it moves to the deepest state allowed, or to C0. -/
def latencyChanged (s : State) (page : Nat) : State :=
  let d := pageDomain page
  let c := domC s d
  if c = 0 ∨ domSt s d ≠ 2 ∨ mayTake s d c then s else setDomC s d (chooseState s d)

/-- A page's domain is not ON (R467). -/
def domainBars (s : State) (page : Nat) : Bool := domSt s (pageDomain page) != 2

/-- EN written 0 on a domain (R467). -/
def domainDisableCheck (s : State) (d : Nat) : Code :=
  if !domSwitchable d then .illegalValue else if !functionsOff s d || keepRunning s d then .notInState else .none

/-- DOMAIN_STATE_CHANGE (R464). -/
def execDomainStateChange (d : Fin 14) (s : State) : Host.Outcome State Fault Refusal := .next (domainIdle s d.val)
/-- DOMAIN_PREWAKE (R465). -/
def execDomainPrewake (d : Fin 14) (s : State) : Host.Outcome State Fault Refusal := .next (domainWake s d.val)
/-- DOMAIN_EXIT_COMPLETE (R463). -/
def execDomainExitComplete (d : Fin 14) (s : State) : Host.Outcome State Fault Refusal :=
  .next (if tget (fun _ => false) s.exiting d.val then domainRuns s d.val else s)
/-- MODE_REQUEST (R457): a write of SYS_MODEREQ. -/
def execModeRequest (q : Requester) (v : Word) (s : State) : Host.Outcome State Fault Refusal :=
  .next (gated s q 0x00 0x44 (fun s => endCommand 0x00 0x44 (if bits v 31 4 ≠ 0 then (s, .reservedBits) else modeRequest s (bits v 3 0))))

end Sys2Proof.Machine
end

