-- ==== Sys2Proof/Machine/Spurs.lean ====
section
/-! DEFINITION. Powered spurs (R267 to R275): the PHY, and the port states with their quiet check, detection, classification, power-up,
supervision, cool-down and discharge. -/

namespace Sys2Proof.Machine

def spuPage (p : Nat) : Nat := 0x61 + p
def portAt (s : State) (p : Nat) : SpurPort := tget (fun _ => {}) s.ports p
def setPort (s : State) (p : Nat) (x : SpurPort) : State := { s with ports := tput (fun _ => {}) s.ports p x }
def podl (s : State) (p : Nat) : Bool := flag s (R.SPU_PCFG p) F.SPU_PCFG_PODL

/-- The port states of R270. -/
def poOFF : Nat := 0
def poCLASSIFY : Nat := 1
def poPOWERUP : Nat := 2
def poON : Nat := 3
def poFAULT : Nat := 4
def poDISCHARGE : Nat := 5
def portSt (s : State) (p : Nat) : Nat := fld s (R.SPU_PSTAT p) F.SPU_PSTAT_PORT

/-- The port state in SUBSTATE and SPU_PSTAT, with the time of its entry. -/
def enterPort (s : State) (p st : Nat) : State :=
  let s := setSub (setFld s (R.SPU_PSTAT p) F.SPU_PSTAT_PORT st) (spuPage p) st
  setPort s p { portAt s p with since := s.now, step := 0, tries := 0 }

/-- A time of the port, counted from the start of the present step or state, has been reached. -/
def portTime (s : State) (p counts : Nat) : State := advanceTo s ((portAt s p).since + BitVec.ofNat 64 counts)

/-! ## The PHY (R268) -/

def lkDOWN : Nat := 0
def lkUP : Nat := 3
def linkSt (s : State) (p : Nat) : Nat := fld s (R.SPU_LINK p) F.SPU_LINK_LINK
def setLink (s : State) (p st mode : Nat) : State := setFld (setFld s (R.SPU_LINK p) F.SPU_LINK_LINK st) (R.SPU_LINK p) F.SPU_LINK_MODE mode

/-- The PHY starts: it negotiates, or trains where the mode is forced. -/
def phyStart (s : State) (p : Nat) : State :=
  if linkSt s p = lkDOWN then setLink s p (if fld s (R.SPU_PCFG p) F.SPU_PCFG_AMP = 0 then 1 else 2) 0 else s

/-- A link that was UP is lost: counted, LINK_DOWN. -/
def linkLost (s : State) (p st : Nat) : State :=
  if linkSt s p = lkUP then raiseBit (bumpSat (setLink s p st 0) (R.SPU_LCNT p) 1) (spuPage p) 4 else setLink s p st 0
def phyStop (s : State) (p : Nat) : State := linkLost s p lkDOWN

/-- The signal quality index for a mean-square error in dB. -/
def sqiOf (mse : Int) : Nat := (clampInt 0 7 ((-mse - 16) / 2)).toNat

/-- The link comes up: a forced amplitude mode is the resolved one. -/
def phyUp (s : State) (p : Nat) (full : Bool) (mse : Int) : State :=
  let st := linkSt s p
  if st = lkDOWN ∨ st = lkUP then s
  else
    let amp := fld s (R.SPU_PCFG p) F.SPU_PCFG_AMP
    let mode := if amp = 0 then (if full then 2 else 1) else amp
    raiseBit (setFld (setLink s p lkUP mode) (R.SPU_LINK p) F.SPU_LINK_SQI (sqiOf mse)) (spuPage p) 3

/-- The link is lost while the PHY runs: it negotiates or trains again. -/
def phyDown (s : State) (p : Nat) : State :=
  if linkSt s p = lkUP then linkLost s p (if fld s (R.SPU_PCFG p) F.SPU_PCFG_AMP = 0 then 1 else 2) else s

/-! ## Starting, stopping and faults (R271 to R274) -/

/-- STARTING begins. -/
def portStart (s : State) (p : Nat) : State :=
  let s := setPort (setPageSt s (spuPage p) fsSTARTING) p {}
  enterPort s p (if podl s p then poCLASSIFY else poOFF)

/-- The port is OFF; a latched re-arm starts it again (R274). -/
def portOff (s : State) (p : Nat) : State :=
  let s := setPageSt (enterPort s p poOFF) (spuPage p) fsOFF
  let s := setPort s p {}
  let k := R.PG_STATE (spuPage p)
  if flag s k F.PG_REARM then portStart (setFld s k F.PG_REARM 0) p else s

/-- The gate is off and the discharge path on, in STOPPING. -/
def portStop (s : State) (p : Nat) : State :=
  let s := phyStop (setPageSt s (spuPage p) fsSTOPPING) p
  if podl s p then (if portSt s p = poDISCHARGE then s else enterPort s p poDISCHARGE) else enterPort s p poOFF

/-- EN written 0: a step of CLASSIFY in progress is completed first (R273). -/
def portDisable (s : State) (p : Nat) : State :=
  let st := pageSt s (spuPage p)
  if st = fsOFF ∨ st = fsSTOPPING then s
  else if st = fsSTARTING ∧ portSt s p = poCLASSIFY ∧ (portAt s p).step ≠ 3 then setPort s p { portAt s p with stopReq := true }
  else portStop s p

/-- A cause of R271 or R272 forces the port off (R33). -/
def portFault (s : State) (p cause : Nat) : State :=
  let s := phyStop (setPageSt s (spuPage p) fsSTOPPING) p
  let s := setFld (setFld s (R.PG_CTRL (spuPage p)) F.PG_EN 0) (R.PG_STATE (spuPage p)) F.PG_REARM 0
  let s := setFld (bumpSat s (R.SPU_FCNT p) 1) (R.SPU_PSTAT p) F.SPU_PSTAT_CAUSE cause
  raiseBit (setPort (enterPort s p poFAULT) p { portAt (enterPort s p poFAULT) p with stopReq := false, reconnect := false }) (spuPage p) 1

/-- A step of CLASSIFY has ended well: stop where EN = 0 waits for it, or go on. -/
def stepEnds (s : State) (p : Nat) (k : State → State) : State := if (portAt s p).stopReq then portStop s p else k s

/-- The next step of CLASSIFY. -/
def classifyStep (s : State) (p step tries : Nat) : State := setPort s p { portAt s p with step := step, tries := tries, since := s.now }

/-- The port is in a step of CLASSIFY. -/
def inStep (s : State) (p step : Nat) : Bool := portSt s p == poCLASSIFY && (portAt s p).step == step

/-- CLASSIFY starts again after a wait or a discharge. -/
def classify (s : State) (p : Nat) : State := enterPort s p poCLASSIFY

/-- The class read (R271): admitted by CLASS_MASK and by the rail group. -/
def classAdmitted (s : State) (p cls : Nat) : Bool :=
  let rail := fld s (R.SPU_PCFG p) F.SPU_PCFG_RAIL
  decide (10 ≤ cls) && (fld s (R.SPU_PCFG p) F.SPU_PCFG_CLASS_MASK).testBit (cls - 10) &&
  (if rail = 0 then decide (cls ≤ 12) else decide (13 ≤ cls))

/-- One SCCP attempt has ended, with the class read if any. SPU_PSTAT.CLASS is the class less 10. -/
def sccpEnd (s : State) (p : Nat) (cls : Option (Fin 16)) : State :=
  match cls with
  | some c =>
    let s := setFld s (R.SPU_PSTAT p) F.SPU_PSTAT_CLASS ((c.val + 6) % 16)
    if classAdmitted s p c.val then stepEnds s p (fun s => enterPort s p poPOWERUP) else portFault s p 5
  | none =>
    let s := setFld s (R.SPU_PSTAT p) F.SPU_PSTAT_CLASS 15
    let n := (portAt s p).tries + 1
    stepEnds s p (fun s => if n < 3 then classifyStep s p 2 n else classifyStep s p 3 0)

/-- The port reaches 90 % of the rail and is ON; the port meter counts anew (R234). -/
def poweredUp (s : State) (p : Nat) : State :=
  let starting := pageSt s (spuPage p) == fsSTARTING
  let s := portMeterPowerUp (setPageSt (enterPort s p poON) (spuPage p) fsON) p
  let s := setPort s p { portAt s p with reconnect := false }
  phyStart (if starting then raiseBit s (spuPage p) 0 else s) p

/-- Discharge has ended: a reconnecting port classifies again, another is OFF. -/
def discharged (s : State) (p : Nat) : State := if pageSt s (spuPage p) = fsON then classify s p else portOff s p

/-- A supervised port that is ON (R272). -/
def supervised (s : State) (p : Nat) : Bool := portSt s p == poON && podl s p

/-- STARTING_COMPLETE of a port without power: ON, and the PHY starts. -/
def portStarted (s : State) (p : Nat) : State :=
  if podl s p ∨ pageSt s (spuPage p) ≠ fsSTARTING then s
  else phyStart (raiseBit (setPageSt (enterPort s p poON) (spuPage p) fsON) (spuPage p) 0) p

/-- STOPPING_COMPLETE of a port without power. -/
def portStopped (s : State) (p : Nat) : State := if podl s p ∨ pageSt s (spuPage p) ≠ fsSTOPPING then s else portOff s p

/-! ## The commands -/

/-- PHY_LINK_UP (R268): `full` says that auto-negotiation resolved 2.4 Vpp; `mse` is the mean-square error in dB. -/
def execPhyLinkUp (p : Fin 16) (full : Bool) (mse : Int) (s : State) : Host.Outcome State Fault Refusal := .next (phyUp s p.val full mse)
/-- PHY_LINK_DOWN (R268). -/
def execPhyLinkDown (p : Fin 16) (s : State) : Host.Outcome State Fault Refusal := .next (phyDown s p.val)
/-- QUIET_CHECK_END (R271): 10 ms after the start of CLASSIFY; `quiet` says that the port stayed below 3.0 V. -/
def execQuietCheckEnd (p : Fin 16) (quiet : Bool) (s : State) : Host.Outcome State Fault Refusal :=
  .next (if !inStep s p.val 0 then s
    else
      let s := portTime s p.val 1000000
      if quiet then stepEnds s p.val (fun s => classifyStep s p.val 1 0) else portFault s p.val 6)
/-- DETECTION_RESULT (R271). -/
def execDetectionResult (p : Fin 16) (valid : Bool) (s : State) : Host.Outcome State Fault Refusal :=
  .next (if inStep s p.val 1 then stepEnds s p.val (fun s => classifyStep s p.val (if valid then 2 else 3) 0) else s)
/-- DETECTION_RETRY (R271): DETPER × 100 ms have passed. -/
def execDetectionRetry (p : Fin 16) (s : State) : Host.Outcome State Fault Refusal :=
  .next (if inStep s p.val 3 then classify (portTime s p.val (fld s (R.SPU_SENSE p.val) F.SPU_SENSE_DETPER * 10000000)) p.val else s)
/-- SCCP_ATTEMPT_END (R271). -/
def execSccpAttemptEnd (p : Fin 16) (cls : Option (Fin 16)) (s : State) : Host.Outcome State Fault Refusal :=
  .next (if inStep s p.val 2 then sccpEnd s p.val cls else s)
/-- POWER_UP_REACHED (R271). -/
def execPowerUpReached (p : Fin 16) (s : State) : Host.Outcome State Fault Refusal :=
  .next (if portSt s p.val = poPOWERUP then poweredUp s p.val else s)
/-- POWER_UP_TIMEOUT (R271): 50 ms. -/
def execPowerUpTimeout (p : Fin 16) (s : State) : Host.Outcome State Fault Refusal :=
  .next (if portSt s p.val = poPOWERUP then portFault (portTime s p.val 5000000) p.val 3 else s)
/-- PORT_OVERLOAD (R272). -/
def execPortOverload (p : Fin 16) (s : State) : Host.Outcome State Fault Refusal := .next (if supervised s p.val then portFault s p.val 1 else s)
/-- PORT_SHORT (R272). -/
def execPortShort (p : Fin 16) (s : State) : Host.Outcome State Fault Refusal := .next (if supervised s p.val then portFault s p.val 2 else s)
/-- RAIL_UNDERVOLTAGE (R272): the rail of group `g` has been measured at `volt` × 100 mV for 1 ms. -/
def execRailUndervoltage (g : Fin 2) (volt : BitVec 16) (s : State) : Host.Outcome State Fault Refusal :=
  let s := setFld s R.SPG_RAILV (if g.val = 1 then F.SPG_RAILV_V1 else F.SPG_RAILV_V0) volt.toNat
  let low := decide (volt.toNat < fld s R.SPG_RAILUV (if g.val = 1 then F.SPG_RAILUV_UV1 else F.SPG_RAILUV_UV0))
  .next (forAll (fun s p => if low && supervised s p && fld s (R.SPU_PCFG p) F.SPU_PCFG_RAIL == g.val then portFault s p 4 else s) (upTo 16) s)
/-- PORT_DISCONNECT (R272): recorded, counted, and the port discharges and classifies again under ON. -/
def execPortDisconnect (p : Fin 16) (s : State) : Host.Outcome State Fault Refusal :=
  .next (if !supervised s p.val then s
    else
      let s := setFld (bumpSat (enterPort s p.val poDISCHARGE) (R.SPU_FCNT p.val) 1) (R.SPU_PSTAT p.val) F.SPU_PSTAT_CAUSE 7
      raiseBit (setPort s p.val { portAt s p.val with reconnect := true }) (spuPage p.val) 2)
/-- COOL_DOWN_END (R270): COOL × 100 ms. -/
def execCoolDownEnd (p : Fin 16) (s : State) : Host.Outcome State Fault Refusal :=
  .next (if portSt s p.val = poFAULT then enterPort (portTime s p.val (fld s (R.SPU_SENSE p.val) F.SPU_SENSE_COOL * 10000000)) p.val poDISCHARGE else s)
/-- DISCHARGE_COMPLETE (R271). -/
def execDischargeComplete (p : Fin 16) (s : State) : Host.Outcome State Fault Refusal :=
  .next (if portSt s p.val = poDISCHARGE then discharged s p.val else s)
/-- DISCHARGE_LIMIT (R271): 250 ms have passed above 3.0 V. -/
def execDischargeLimit (p : Fin 16) (s : State) : Host.Outcome State Fault Refusal :=
  .next (if portSt s p.val = poDISCHARGE then discharged (setFld (portTime s p.val 25000000) (R.SPU_PSTAT p.val) F.SPU_PSTAT_DIS_SLOW 1) p.val else s)

end Sys2Proof.Machine
end

