-- ==== Sys2Proof/Machine/Stations.lean ====
section
/-! DEFINITION. Station services (R276 to R294): the Brixsor cycle, channels and points, missed frames and drop-out. -/

namespace Sys2Proof.Machine

def stnAt (s : State) (p : Nat) : Station := tget (fun _ => {}) s.stations p
def setStn (s : State) (p : Nat) (x : Station) : State := { s with stations := tput (fun _ => {}) s.stations p x }
def svcSt (s : State) (p : Nat) : Nat := fld s (R.SPU_SSTAT p) F.SPU_SSTAT_STATE
def setSvcSt (s : State) (p st : Nat) : State := setFld s (R.SPU_SSTAT p) F.SPU_SSTAT_STATE st
def spuFlask (s : State) (p : Nat) : Nat := pageOwner s (spuPage p)

/-- The station states of R293. -/
def stUP : Nat := 0
def stMISSING : Nat := 1
def stDROPPED : Nat := 2
def stnSt (s : State) (p : Nat) : Nat := fld s (R.SPU_SSTAT p) F.SPU_SSTAT_STN_STATE

/-- STN_STATE, with the spur's bits of STN_UPMAP and STN_DROPMAP (R294), which are 0 while the service is OFF. -/
def showStn (s : State) (p st : Nat) : State :=
  let s := setFld s (R.SPU_SSTAT p) F.SPU_SSTAT_STN_STATE st
  let on := svcSt s p != fsOFF
  setBit (setBit s R.STN_UPMAP p (on && st == stUP)) R.STN_DROPMAP p (on && st == stDROPPED)

/-! ## Channels (R290 to R292) -/

/-- A channel's fields: its number, TYPE, OFFSET, BIT and point. -/
structure Channel where
  n : Nat
  ty : Nat
  off : Nat
  bit : Nat
  point : Nat
  deriving DecidableEq, Repr

/-- The enabled channels of a direction (0 input, 1 output), in channel order. -/
def channels (s : State) (p dir : Nat) : List Channel :=
  (upTo 256).filterMap (fun n =>
    let k := R.CHn_CFG p n
    if flag s k F.CHn_CFG_EN && fld s k F.CHn_CFG_DIR == dir then
      some { n := n, ty := fld s k F.CHn_CFG_TYPE, off := fld s k F.CHn_CFG_OFFSET, bit := fld s k F.CHn_CFG_BIT, point := fld s k F.CHn_CFG_POINT }
    else none)

/-- Bytes that a field takes, and the bits of its value. -/
def typeBytes (ty : Nat) : Nat := if ty = 0 then 1 else if ty ≤ 2 then 2 else 4
def typeWidth (ty : Nat) : Nat := if ty = 0 then 1 else if ty ≤ 2 then 16 else 32

/-- The raw field of a channel in an image. -/
def rawField (c : Channel) (img : List Byte) : Nat :=
  let v := leNat ((img.drop c.off).take (typeBytes c.ty))
  if c.ty = 0 then (v / 2 ^ c.bit) % 2 else v

/-- The VALUE that a raw field gives (R290). -/
def fieldValue (ty raw : Nat) : DWord :=
  if ty = 1 then BitVec.ofInt 64 (signedOf 16 raw) else if ty = 3 then BitVec.ofInt 64 (signedOf 32 raw)
  else BitVec.ofNat 64 (raw % 2 ^ typeWidth ty)

/-- The raw field that a VALUE of a DTYPE gives (R290). -/
def fieldOf (ty dtype : Nat) (v : DWord) : Nat :=
  let i : Int := if pageIn dtype 2 4 then v.toInt else (v.toNat : Int)
  if ty = 0 then v.toNat % 2
  else if ty = 1 then codeOf 16 (clampInt (-32768) 32767 i)
  else if ty = 2 then (clampInt 0 65535 i).toNat
  else if ty = 3 then codeOf 32 (clampInt (-0x80000000) 0x7FFFFFFF i)
  else if ty = 4 ∧ dtype ≠ 0x0A then (clampInt 0 0xFFFFFFFF i).toNat
  else v.toNat % 2 ^ 32

/-- The raw substitute of a channel. -/
def subRaw (s : State) (p : Nat) (c : Channel) : Nat := (rd s (R.CHn_SUB p c.n)).toNat % 2 ^ typeWidth c.ty

/-- Place a raw field into an image. -/
def placeField (c : Channel) (raw : Nat) (img : List Byte) : List Byte :=
  if c.ty = 0 then
    let b := (img.getD c.off 0).toNat
    setAt img c.off (BitVec.ofNat 8 (b - (b / 2 ^ c.bit % 2) * 2 ^ c.bit + raw % 2 * 2 ^ c.bit))
  else img.take c.off ++ leBytes (typeBytes c.ty) raw ++ img.drop (c.off + typeBytes c.ty)

/-- The SOURCE of a spur's inputs (R44, R282). -/
def stnSource (s : State) (p : Nat) : BitVec 16 := sourceOf 5 (p * 256 + fld s (R.SPU_SCFG p) F.SPU_SCFG_STN)

/-- Commit an input under R46. -/
def commitInput (s : State) (p : Nat) (c : Channel) (raw : Nat) (q : Byte) (ts : DWord) : State :=
  (fieldWrite s (spuFlask s p) 5 c.point (fieldValue c.ty raw) q ts (stnSource s p)).1

/-- The substitutes of every enabled input channel, as one operation (R288, R293). -/
def commitSubs (s : State) (p : Nat) : State :=
  forAll (fun s c => commitInput s p c (subRaw s p c) 2 s.now) (channels s p 0) s

/-- QUALITY STALE for every enabled input channel; value, timestamp and source stay (R99). -/
def commitStale (s : State) (p : Nat) : State :=
  forAll (fun s c =>
    let x := pointAt s c.point
    if mayWrite (spuFlask s p) x then
      match forceOn s c.point with
      | some (k, e) =>
        let e := { e with uQuality := 3, written := true }
        mirrorForce (setForce s k (some e)) 3 k e
      | none => commitPoint s c.point { x with quality := 3 }
    else deny s (spuFlask s p) 5 c.point) (channels s p 0) s

/-- The output image (R278, R292), from the snapshot at the boundary. -/
def outputImage (s : State) (p : Nat) : State × List Byte :=
  let f := spuFlask s p
  (channels s p 1).foldl (fun (a : State × List Byte) c =>
    let (s, img) := a
    let x := tget (fun _ => nullPoint) s.snapshot c.point
    let sub := subRaw s p c
    if mayRead f (pointAt s c.point) then
      let raw := if modeNow s == mdSAFE || x.quality == 4 || x.quality == 5 || x.quality == 6 then sub
        else fieldOf c.ty x.dtype.toNat x.value
      (s, placeField c raw img)
    else (deny s f 5 c.point, placeField c sub img)) (s, List.replicate (fld s (R.SPU_SLEN p) F.SPU_SLEN_OUT_LEN) 0)

/-! ## Downlink (R276 to R278, R285, R287) -/

/-- Modes in which no frame is exchanged (R285). -/
def stnBarred (s : State) : Bool := let m := modeNow s; m == 0 || m == mdBOOT || m == mdRECOVERY

/-- ACTIVE of a downlink frame: by the mode, after the epoch has been raised (R285). -/
def sendsActive (s : State) : Bool :=
  let m := modeNow s
  (m == mdACTIVE || m == mdSAFE || m == mdDOZE) && s.twin.raised

/-- The MAC address of a spur (R269), byte 0 first. -/
def spurMac (s : State) (p : Nat) : List Byte :=
  let lo := rd s R.SPG_MAC0
  leBytes 2 (fld s R.SPG_MAC1 F.SPG_MAC1_MAC_HI) ++ leBytes 3 lo.toNat ++ [BitVec.ofNat 8 (bits lo 31 24 + p)]

/-- The tick in progress. -/
def tickNow (s : State) : Nat := s.nextTick - 1
def txofs (s : State) : Nat := fld s R.STN_TXOFS F.STN_TXOFS_TXOFS

/-- Bytes of a downlink frame on the wire (R281). -/
def downBytes (s : State) (p : Nat) : Nat := max 64 (38 + fld s (R.SPU_SLEN p) F.SPU_SLEN_OUT_LEN) + 8

/-- One spur's downlink frame for the tick in progress, from the destination address to the end of its padding. -/
def sendDownlink (s : State) (p : Nat) : State :=
  if svcSt s p != fsON || linkSt s p != lkUP || stnBarred s || s.paused || (stnAt s p).sent == some (tickNow s) then s
  else
    let (s, img) := outputImage s p
    let x := stnAt s p
    let hold := if s.stationHold then fld s R.STN_PHOLD F.STN_PHOLD_PHOLD else fld s (R.SPU_SCFG p) F.SPU_SCFG_FAIL_MS
    let head : List Byte := [0x11, BitVec.ofNat 8 (b2n (sendsActive s) + 2 * b2n s.stationHold + 4 * fld s R.TWN_CFG F.TWN_CFG_HOME)
                            , BitVec.ofNat 8 (fld s (R.SPU_SCFG p) F.SPU_SCFG_STN), 0] ++
      leBytes 4 (rd s R.TWN_EPOCH).toNat ++ leBytes 2 (tickNow s) ++ leBytes 2 hold ++ leBytes 4 (rd s (R.SPU_SLAY p)).toNat ++
      leBytes 2 img.length ++ [0, 0]
    let f := x.peer.getD (List.replicate 6 0xFF) ++ spurMac s p ++ beBytes 2 (fld s R.STN_ETYPE F.STN_ETYPE_ETYPE) ++ head ++ img
    setStn s p { x with sent := some (tickNow s), got := false, frame := f ++ List.replicate (60 - f.length) 0 }

/-! ## Uplink (R269, R279 to R282, R286, R291) -/

/-- Discard a frame (SPU_SBAD): MISMATCH follows the last discard. -/
def discardFrame (s : State) (p cause : Nat) : State :=
  let s := bumpFld (setFld s (R.SPU_SBAD p) F.SPU_SBAD_LAST cause) (R.SPU_SBAD p) F.SPU_SBAD_COUNT 1
  raiseBit (setFld s (R.SPU_SSTAT p) F.SPU_SSTAT_MISMATCH (b2n (cause == 3 || cause == 4))) (spuPage p) 8

/-- A little-endian field of a frame's payload, which follows its 14 bytes of addresses and EtherType. -/
def upField (x : UplinkFrame) (off n : Nat) : Nat := leNat ((x.bytes.drop (14 + off)).take n)

/-- R269: the spur MAC receives the frame. -/
def macTakes (s : State) (p : Nat) (x : UplinkFrame) : Bool :=
  let da := x.bytes.take 6
  (da == spurMac s p || da == List.replicate 6 0xFF) && beNat ((x.bytes.drop 12).take 2) == fld s R.STN_ETYPE F.STN_ETYPE_ETYPE &&
  decide (60 ≤ x.bytes.length) && decide (x.bytes.length ≤ 1514) && x.fcsOk

/-- The cause of the first failed check of R280; 0 for a valid frame. -/
def uplinkCause (s : State) (p : Nat) (x : UplinkFrame) : Nat :=
  let t := stnAt s p
  let b := tickNow s * 100000
  if !macTakes s p x then 1
  else if upField x 0 1 ≠ 0x12 then 2
  else if upField x 2 1 ≠ fld s (R.SPU_SCFG p) F.SPU_SCFG_STN then 3
  else if upField x 0xC 4 ≠ (rd s (R.SPU_SLAY p)).toNat ∨ upField x 0xA 2 ≠ fld s (R.SPU_SLEN p) F.SPU_SLEN_IN_LEN then 4
  else if svcSt s p ≠ fsON ∨ t.sent ≠ some (tickNow s) ∨ upField x 8 2 ≠ tickNow s % 65536 then 5
  else if x.last.toNat ≤ b + txofs s * 100 + downBytes s p * 80 ∨ b + 100000 ≤ x.last.toNat then 6
  else if t.got then 7
  else 0

/-- SUPERSEDED (R286); twin control steps down at the next tick boundary (R336). -/
def showSuperseded (s : State) (p seen : Nat) : State :=
  let set (s : State) (b : Bool) : State := setBit (setFld s (R.SPU_SSTAT p) F.SPU_SSTAT_SUPERSEDED (b2n b)) R.STN_SUPMAP p b
  if seen ≤ (rd s R.TWN_EPOCH).toNat then set s false
  else if sendsActive s then
    let s := raiseBit (set s true) (spuPage p) 7
    if roleOf s = rlACTIVE then setTwin s { s.twin with demote := true } else s
  else s

/-- A valid frame: its status, its epoch, its inputs (R291) and the port meter's estimate (R234). -/
def takeUplink (s : State) (p : Nat) (x : UplinkFrame) : State :=
  let seen := upField x 4 4
  let sf := upField x 1 1
  let s := bump s (R.SPU_SCNT p) 1
  let s := setFld (setFld s (R.SPU_SSTAT p) F.SPU_SSTAT_SFLAGS (sf % 16)) (R.SPU_SSTAT p) F.SPU_SSTAT_HEALTH (upField x 3 1)
  let s := showSuperseded (wr s (R.SPU_SEPOCH p) (BitVec.ofNat 32 seen)) p seen
  let s := setStn s p { stnAt s p with peer := some ((x.bytes.drop 6).take 6), got := true }
  let s := setTwin s { s.twin with maxSeen := max s.twin.maxSeen seen
                                   witness := if sf % 2 = 1 ∧ seen % 2 = 1 then some x.last else s.twin.witness }
  let img := x.bytes.drop (14 + 0x34)
  let qmap := upField x 0x14 32
  let s := forAll (fun s c => commitInput s p c (rawField c img) (if qmap.testBit c.n then 5 else 0) x.first) (channels s p 0) s
  let s := if stnSt s p = stMISSING then setFld s (R.SPU_SSTAT p) F.SPU_SSTAT_MISSES 0 else s
  portEstimate s p

/-! ## Drop-out (R293, R100) -/

/-- Post a station cause to the flask that owns the spur, and to flask 0 (R100). -/
def postStation (s : State) (p code : Nat) : State :=
  let f := spuFlask s p
  let d : Word := BitVec.ofNat 32 (p * 256 + fld s (R.SPU_SCFG p) F.SPU_SCFG_STN)
  let s := postCause s f code 0xFF d
  if f = 0 then s else postCause s 0 code 0xFF d

/-- The station becomes DROPPED. -/
def dropStation (s : State) (p : Nat) : State :=
  if !(stnAt s p).dropDue then s
  else
    let s := setStn s p { stnAt s p with dropDue := false }
    let s := commitSubs (showStn s p stDROPPED) p
    let s := raiseBit (bumpSat s (R.SPU_SDROPS p) 1) (spuPage p) 5
    wakeEvent (postStation s p 6) F.SYS_DOZECFG_STN

/-- Close the cycle of the previous tick for a service that is ON; cycles within an activation pause do not count (R287). -/
def closeCycle (s : State) (p : Nat) : State :=
  let s := dropStation s p
  if svcSt s p != fsON || s.paused then s
  else
    let x := stnAt s p
    let st := stnSt s p
    let s := setStn s p { x with got := false }
    if x.got then
      let s := setFld (showStn s p stUP) (R.SPU_SSTAT p) F.SPU_SSTAT_MISSES 0
      if st = stDROPPED then postStation (raiseBit s (spuPage p) 6) p 7 else s
    else
      let s := bumpSat s (R.SPU_SMISS p) 1
      if st = stDROPPED then s
      else
        let n := fld s (R.SPU_SSTAT p) F.SPU_SSTAT_MISSES + 1
        let s := setFld s (R.SPU_SSTAT p) F.SPU_SSTAT_MISSES n
        if fld s (R.SPU_SCFG p) F.SPU_SCFG_DROP_N ≤ n then setStn s p { stnAt s p with dropDue := true }
        else if st = stUP then commitStale (showStn s p stMISSING) p
        else s

/-! ## The service states (R288, R289) -/

/-- STARTING begins: the station is DROPPED, and no address is known. -/
def svcStart (s : State) (p : Nat) : State :=
  let s := setStn (setSvcSt s p fsSTARTING) p {}
  setFld (showStn s p stDROPPED) (R.SPU_SSTAT p) F.SPU_SSTAT_MISSES 0

/-- STOPPING begins. -/
def svcStop (s : State) (p : Nat) : State :=
  if svcSt s p = fsOFF ∨ svcSt s p = fsSTOPPING then s
  else setStn (setSvcSt s p fsSTOPPING) p { stnAt s p with subs := false, dropDue := false }

/-- The substitutes of STARTING or STOPPING are committed, once. -/
def svcSubs (s : State) (p : Nat) : State :=
  let st := svcSt s p
  if (st = fsSTARTING ∨ st = fsSTOPPING) ∧ !(stnAt s p).subs then setStn (commitSubs s p) p { stnAt s p with subs := true } else s

/-- OFF; a latched re-arm starts the service again (R32). -/
def svcOff (s : State) (p : Nat) : State :=
  let s := setStn (showStn (setSvcSt s p fsOFF) p stDROPPED) p {}
  let k := R.SPU_SSTAT p
  let s := setFld s k F.SPU_SSTAT_MISSES 0
  if flag s k F.SPU_SSTAT_REARM then svcStart (setFld s k F.SPU_SSTAT_REARM 0) p else s

/-- A tick boundary moves a service on (R288). -/
def svcTick (s : State) (p : Nat) : State :=
  let st := svcSt s p
  if st = fsSTARTING then setSvcSt (svcSubs s p) p fsON else if st = fsSTOPPING then svcOff (svcSubs s p) p else s

/-- The station manager's part of a tick boundary: the cycle of the previous tick closes, then services start or stop. -/
def stationTick (s : State) : State := forAll svcTick (upTo 16) (forAll closeCycle (upTo 16) s)

/-- DTYPEs that a channel TYPE may have (R290). -/
def pairOk (ty dtype : Nat) : Bool :=
  if ty = 0 then dtype == 1
  else if ty = 1 then pageIn dtype 2 4
  else if ty = 2 then pageIn dtype 3 6
  else if ty = 3 then pageIn dtype 3 4
  else if ty = 4 then dtype == 5 || dtype == 6 || dtype == 0x0A
  else ty == 5 && dtype == 7

/-- The conditions of R289, in the order of its table. -/
def enableServiceCheck (s : State) (p : Nat) : Code :=
  let f := spuFlask s p
  let ins := channels s p 0
  let outs := channels s p 1
  let il := fld s (R.SPU_SLEN p) F.SPU_SLEN_IN_LEN
  let ol := fld s (R.SPU_SLEN p) F.SPU_SLEN_OUT_LEN
  if !flaskEnabled s f then .illegalValue
  else if 9000 < txofs s * 10 + 8 * (downBytes s p + 78 + il) then .illegalValue
  else if ins.any (fun c => decide (il < c.off + typeBytes c.ty)) || outs.any (fun c => decide (ol < c.off + typeBytes c.ty)) then .illegalValue
  else if !(ins.map (·.point)).Nodup then .illegalValue
  else if (ins ++ outs).any (fun c => !(pointAt s c.point).alloc) then .notInState
  else if (ins ++ outs).any (fun c => !pairOk c.ty (pointAt s c.point).dtype.toNat) then .illegalValue
  else if ins.any (fun c => !mayWrite f (pointAt s c.point)) || outs.any (fun c => !mayRead f (pointAt s c.point)) then .accessFlask
  else .none

/-! ## The commands -/

/-- DOWNLINK_FRAME_SEND (R277): STN_TXOFS after the boundary of the tick in progress. -/
def execDownlinkFrameSend (s : State) : Host.Outcome State Fault Refusal :=
  .next (forAll sendDownlink (upTo 16) (advanceTo s (BitVec.ofNat 64 (tickNow s * 100000 + txofs s * 100))))
/-- UPLINK_FRAME_RECEIVED (R280): no frame arrives over a link that is not UP, and a frame in an activation pause changes nothing
(R500). -/
def execUplinkFrameReceived (p : Fin 16) (x : UplinkFrame) (s : State) : Host.Outcome State Fault Refusal :=
  .next (if linkSt s p.val ≠ lkUP ∨ s.paused then s
    else
      let s := dropStation (advanceTo s x.last) p.val
      let c := uplinkCause s p.val x
      if c = 0 then takeUplink s p.val x else discardFrame s p.val c)
/-- STATION_DROP (R293). -/
def execStationDrop (p : Fin 16) (s : State) : Host.Outcome State Fault Refusal := .next (dropStation s p.val)
/-- STATION_SUBSTITUTE_COMMIT (R288). -/
def execStationSubstituteCommit (p : Fin 16) (s : State) : Host.Outcome State Fault Refusal := .next (svcSubs s p.val)

end Sys2Proof.Machine
end

