-- ==== Sys2Proof/Machine/HostMac.lean ====
section
/-! DEFINITION. The host MACs (R299 to R305) and the NRAP front end: bindings, acceptance and replay (R306 to R311, R320, R322). -/

namespace Sys2Proof.Machine

def hmPage (m : Nat) : Nat := 0x78 + m
def hostAt (s : State) (m : Nat) : HostMac := tget (fun _ => {}) s.hosts m
def setHost (s : State) (m : Nat) (x : HostMac) : State := { s with hosts := tput (fun _ => {}) s.hosts m x }
def hmUp (s : State) (m : Nat) : Bool := flag s (R.HM_LINK m) F.HM_LINK_UP

/-- The MAC address and the IPv4 address of a host MAC. -/
def hmMac (s : State) (m : Nat) : List Byte := leBytes 2 (rd s (R.HM_MACHI m)).toNat ++ leBytes 4 (rd s (R.HM_MACLO m)).toNat
def hmIp (s : State) (m : Nat) : Word := rd s (R.HM_IP m)

/-- Count in a statistics counter; a crossing of half range is marked (R304). -/
def hmCount (s : State) (m n add : Nat) : State :=
  let k := R.HM_CNT m n
  let was := bit (rd s k) 31
  let s := bump s k add
  if !was && bit (rd s k) 31 then raiseBit (setBit s (if n < 32 then R.HM_CNTHALF0 m else R.HM_CNTHALF1 m) (n % 32) true) (hmPage m) 4 else s

/-! ## Transmit queues (R303) -/

def hmQueue (s : State) (m q : Nat) : List TxFrame := tget (fun _ => []) (hostAt s m).queues q
def setHmQueue (s : State) (m q : Nat) (l : List TxFrame) : State :=
  setHost s m { hostAt s m with queues := tput (fun _ => []) (hostAt s m).queues q l }
def hmQueued (s : State) (m : Nat) : Nat := ((upTo 4).map (fun q => (hmQueue s m q).length)).sum

/-- Frames dropped: counted in TX_QDROP. -/
def hmDrop (s : State) (m n : Nat) : State := if n = 0 then s else raiseBit (hmCount s m 38 n) (hmPage m) 2

/-- Place a frame on a queue. -/
def hmSend (s : State) (m q : Nat) (f : TxFrame) : State :=
  if pageSt s (hmPage m) = 2 ∧ (hmQueue s m q).length < 64 then setHmQueue s m q (hmQueue s m q ++ [f]) else hmDrop s m 1

/-- HM_QSTAT: each queue's fill. -/
def hmQstat (s : State) (m : Nat) : Word := BitVec.ofNat 32 (((upTo 4).map (fun q => (hmQueue s m q).length * 256 ^ q)).sum)

/-! ## States (R300) -/

/-- STARTING: the FIFOs are reset. -/
def hostStart (s : State) (m : Nat) : State :=
  setPageSt (setHost s m { hostAt s m with queues := [], rx := [], tx := [], pause := 0 }) (hmPage m) 1
def hostStarted (s : State) (m : Nat) : State := if pageSt s (hmPage m) = 1 then setPageSt s (hmPage m) 2 else s

/-- OFF; a latched re-arm starts the MAC again (R34). -/
def hostOff (s : State) (m : Nat) : State :=
  let s := setPageSt s (hmPage m) 0
  let k := R.PG_STATE (hmPage m)
  if flag s k F.PG_REARM then hostStart (setFld s k F.PG_REARM 0) m else s

/-- With the link down, STOPPING discards the queued frames. -/
def hostDiscard (s : State) (m : Nat) : State :=
  hmDrop (setHost s m { hostAt s m with queues := [] }) m (hmQueued s m)

/-- STOPPING ends once all queues are empty. -/
def hostStopped (s : State) (m : Nat) : State :=
  if pageSt s (hmPage m) ≠ 3 then s
  else
    let s := if hmUp s m then s else hostDiscard s m
    if hmQueued s m = 0 then hostOff s m else s
def hostStop (s : State) (m : Nat) : State := setPageSt s (hmPage m) 3

/-- A write that sets EN to 1 needs an address of each kind. -/
def enableHostCheck (s : State) (m : Nat) : Code := if (hmMac s m).all (· == 0) || hmIp s m == 0 then .illegalValue else .none

/-- The link comes up, at the forced rate where HM_CFG.SPEED forces one. -/
def hostLinkUp (s : State) (m speed : Nat) : State :=
  let forced := fld s (R.HM_CFG m) F.HM_CFG_SPEED
  let sp := if forced = 0 then speed else forced
  if sp = 0 then s
  else
    let was := hmUp s m
    let s := setFld (setFld s (R.HM_LINK m) F.HM_LINK_SPEED sp) (R.HM_LINK m) F.HM_LINK_UP 1
    if was then s else raiseBit s (hmPage m) 0

/-- The link goes down. -/
def hostLinkDown (s : State) (m : Nat) : State :=
  if hmUp s m then hostStopped (raiseBit (wr s (R.HM_LINK m) 0) (hmPage m) 1) m else s

/-! ## PTP timestamps (R305) -/

/-- A PTP event message's type, domain and sequence; none for a general message or a short one. -/
def ptpEvent (data : List Byte) (ts : Nat) : Option PtpStamp :=
  let t := (data.getD 0 0).toNat % 16
  if t ≤ 3 ∧ 34 ≤ data.length then
    some { ts := ts % 2 ^ 64, msg := t, dom := (data.getD 4 0).toNat, seq := beNat (sliceD 0 data 30 2) }
  else none

/-- A stamp moved by a latency in ns: 1 ns is 1.6 sixteenths of a count. -/
def stampBack (ts ns : Nat) : Nat := ts + 2 ^ 64 - ns * 8 / 5
def stampOn (ts ns : Nat) : Nat := ts + ns * 8 / 5

/-- Place a stamp in a FIFO; a full one drops it. -/
def ptpPush (s : State) (m : Nat) (tx : Bool) (x : PtpStamp) : State :=
  let h := hostAt s m
  if (if tx then h.tx else h.rx).length < 16 then
    setHost s m (if tx then { h with tx := h.tx ++ [x] } else { h with rx := h.rx ++ [x] })
  else raiseBit s (hmPage m) 5

/-- Remove the oldest entry. -/
def ptpPop (s : State) (m : Nat) (tx : Bool) : State :=
  let h := hostAt s m
  setHost s m (if tx then { h with tx := h.tx.drop 1 } else { h with rx := h.rx.drop 1 })

/-- HM_PTPRX and HM_PTPTX: word `k` of the oldest entry. -/
def ptpWord (s : State) (m : Nat) (tx : Bool) (k : Nat) : Word :=
  match (if tx then (hostAt s m).tx else (hostAt s m).rx) with
  | [] => 0
  | x :: _ =>
    let c := x.ts / 16
    if k = 0 then BitVec.ofNat 32 c
    else if k = 1 then BitVec.ofNat 32 (x.ts % 16 * 2 ^ 28 + c / 2 ^ 32 % 2 ^ 28)
    else BitVec.ofNat 32 (2 ^ 31 + x.msg * 2 ^ 24 + x.dom * 2 ^ 16 + x.seq)

/-! ## Reception (R301, R302) -/

def be16 (l : List Byte) (i : Nat) : Nat := beNat (sliceD 0 l i 2)
def be32 (l : List Byte) (i : Nat) : Nat := beNat (sliceD 0 l i 4)

/-- The one's-complement sum of the Internet checksum. -/
def inetSum (l : List Byte) : Nat :=
  let n := ((blocks 2 ((l.length + 1) / 2) (l ++ [0])).map (fun b => be16 b 0)).sum
  let n := n % 65536 + n / 65536
  n % 65536 + n / 65536

/-- What an accepted frame carries. -/
inductive HostKind where
  | arp (sender : List Byte) (ip : Word) (request : Bool)
  | echo (ip : Word) (data : List Byte)
  | nrap (d : Datagram)
  | ptp (data : List Byte)
  deriving DecidableEq, Repr

/-- An IPv4 datagram that R301 admits: options are ignored, fragments and failing UDP checksums are discarded. -/
def ipKind (s : State) (m : Nat) (mac ip : List Byte) : Option HostKind :=
  let hl := 4 * ((ip.getD 0 0).toNat % 16)
  let tl := be16 ip 2
  if (ip.getD 0 0).toNat / 16 ≠ 4 ∨ hl < 20 ∨ tl < hl ∨ ip.length < tl ∨ be16 ip 6 % 0x4000 ≠ 0 then none
  else
    let src := sliceD 0 ip 12 4
    let dst := sliceD 0 ip 16 4
    let own := beNat dst == (hmIp s m).toNat
    let proto := (ip.getD 9 0).toNat
    let b := (ip.take tl).drop hl
    let from_ := BitVec.ofNat 32 (beNat src)
    if proto = 1 then (if own && b.getD 0 1 == 8 && b.getD 1 1 == 0 then some (.echo from_ (b.drop 4)) else none)
    else if proto = 17 ∧ 8 ≤ b.length then
      let n := be16 b 4
      let u := b.take n
      let good := be16 b 6 == 0 || inetSum (src ++ dst ++ [0, 17] ++ beBytes 2 n ++ u) == 0xFFFF
      if n < 8 ∨ b.length < n ∨ !good then none
      else if be16 b 2 = 319 ∨ be16 b 2 = 320 then some (.ptp (u.drop 8))
      else if own && be16 b 2 == fld s R.NRP_CFG F.NRP_CFG_PORT then
        some (.nrap { mac := mac, ip := from_, port := be16 b 0, data := u.drop 8 })
      else none
    else none

/-- The multicast addresses of IEEE 1588. -/
def ptpMacs : List (List Byte) := [[0x01, 0x1B, 0x19, 0, 0, 0], [0x01, 0x80, 0xC2, 0, 0, 0x0E]]
def broadcastMac : List Byte := List.replicate 6 0xFF

/-- Whether a frame carries a VLAN tag, and the bytes from its EtherType on. -/
def tagged (b : List Byte) : Bool := be16 b 12 == 0x8100
def etherPart (b : List Byte) : List Byte := b.drop (if tagged b then 16 else 12)

/-- What R301 accepts a frame as. -/
def hostAccepts (s : State) (m : Nat) (b : List Byte) : Option HostKind :=
  let dst := b.take 6
  let vlan := if flag s (R.HM_CFG m) F.HM_CFG_VLAN_EN then tagged b && be16 b 14 % 4096 == fld s (R.HM_VLAN m) F.HM_VLAN_VID else !tagged b
  let e := etherPart b
  let p := e.drop 2
  let ty := be16 e 0
  if !(dst == hmMac s m || dst == broadcastMac || ptpMacs.contains dst) || !vlan then none
  else if ty = 0x0806 then
    if be16 p 0 = 1 ∧ be16 p 2 = 0x0800 ∧ be16 p 4 = 0x0604 ∧ 28 ≤ p.length ∧ be32 p 24 = (hmIp s m).toNat then
      some (.arp (sliceD 0 p 8 6) (BitVec.ofNat 32 (be32 p 14)) (be16 p 6 == 1))
    else none
  else if ty = 0x0800 then ipKind s m (sliceD 0 b 6 6) p
  else if ty = 0x88F7 then some (.ptp p)
  else none

/-- An IEEE 802.3 PAUSE frame. -/
def isPause (b : List Byte) : Bool := b.take 6 == [0x01, 0x80, 0xC2, 0, 0, 1] && be16 b 12 == 0x8808 && be16 b 14 == 1

/-- A pause quantum, 512 bit times, in tenths of a count. -/
def pauseQuantum (s : State) (m : Nat) : Nat :=
  let sp := fld s (R.HM_LINK m) F.HM_LINK_SPEED
  if sp = 3 then 512 else if sp = 2 then 5120 else 51200

/-- The size bucket of a length among the counters from `first`, seven received or six sent. -/
def sizeBucket (first len : Nat) (rx : Bool) : Nat :=
  first + (if len ≤ 64 then 0 else if len ≤ 127 then 1 else if len ≤ 255 then 2 else if len ≤ 511 then 3 else if len ≤ 1023 then 4
    else if len ≤ 1518 || !rx then 5 else 6)

/-- The class of a destination among unicast, multicast and broadcast. -/
def macClass (dst : List Byte) : Nat := if dst == broadcastMac then 2 else if (dst.getD 0 0).getLsbD 0 then 1 else 0

/-- A good frame is counted and taken. -/
def hostTakes (s : State) (m : Nat) (x : HostFrame) (k : HostKind) : State :=
  let len := x.bytes.length + 4
  let s := hmCount (hmCount (hmCount (hmCount s m 0 len) m 1 1) m (2 + macClass (x.bytes.take 6)) 1) m (sizeBucket 5 len true) 1
  let s := if tagged x.bytes then hmCount s m 19 1 else s
  match k with
  | .arp mac ip request => if request then hmSend s m 1 { kind := 0, mac := mac, ip := ip, port := 0, data := [] } else s
  | .echo ip data => hmSend s m 1 { kind := 1, mac := sliceD 0 x.bytes 6 6, ip := ip, port := 0, data := data }
  | .nrap d => hmCount (setHost s m { hostAt s m with inbox := (hostAt s m).inbox ++ [d] }) m 23 1
  | .ptp data =>
    match ptpEvent data (stampBack x.stamp (fld s (R.HM_PTPLAT m) F.HM_PTPLAT_RX_NS)) with
    | some st => ptpPush (hmCount s m 22 1) m false st
    | none => s

/-- The counter of R304 that describes a frame with an error, if it has one. -/
def frameError (x : HostFrame) (maxlen : Nat) : Option Nat :=
  let len := x.bytes.length + 4
  if maxlen < len then some 16
  else if !x.fcsOk then some (if len < 64 then 15 else 12)
  else if x.align then some 13
  else if len < 64 then some 14
  else if x.symbol then some 17
  else none

/-- A frame at a MAC's receiver. -/
def hostFrameReceived (s : State) (m : Nat) (x : HostFrame) : State :=
  if pageSt s (hmPage m) ≠ 2 ∨ !hmUp s m then s
  else match frameError x (fld s (R.HM_CFG m) F.HM_CFG_MAXLEN) with
  | some 16 => raiseBit (hmCount (if x.fcsOk then s else hmCount s m 12 1) m 16 1) (hmPage m) 3
  | some n => hmCount s m n 1
  | none =>
    if isPause x.bytes then
      let s := hmCount s m 18 1
      if flag s (R.HM_CFG m) F.HM_CFG_RXPAUSE then
        setHost s m { hostAt s m with pause := s.now + BitVec.ofNat 64 (be16 x.bytes 16 * pauseQuantum s m / 10) }
      else s
    else if x.overflow then hmCount s m 20 1
    else match hostAccepts s m x.bytes with
      | some k => hostTakes s m x k
      | none => hmCount s m 21 1

/-! ## Transmission (R303 to R305) -/

/-- The length of a queued frame from its destination address through its FCS. -/
def txLength (s : State) (m : Nat) (f : TxFrame) : Nat :=
  let body := if f.kind = 0 then 28 else if f.kind = 1 then 24 + f.data.length else if f.kind = 3 then f.data.length else 28 + f.data.length
  max 64 (18 + (if flag s (R.HM_CFG m) F.HM_CFG_VLAN_EN then 4 else 0) + body)

/-- An event message sent is stamped; the servo keeps the stamp of its Delay_Req as t3 (R442). -/
def stampSent (s : State) (m : Nat) (f : TxFrame) (stamp : Nat) : State :=
  if f.kind < 3 then s
  else match ptpEvent f.data (stampOn stamp (fld s (R.HM_PTPLAT m) F.HM_PTPLAT_TX_NS)) with
  | none => s
  | some st =>
    let s := ptpPush (hmCount s m 39 1) m true st
    if st.msg = 1 ∧ st.seq = s.ptp.reqSeq then { s with ptp := { s.ptp with t3 := some (st.ts * 5 / 8 : Nat) } } else s

/-- The frame at the head of the lowest-numbered queue that holds one is sent. -/
def hostFrameTransmit (s : State) (m stamp : Nat) (underrun : Bool) : State :=
  let st := pageSt s (hmPage m)
  if (st ≠ 2 ∧ st ≠ 3) ∨ !hmUp s m ∨ s.now < (hostAt s m).pause then s
  else match (upTo 4).find? (fun q => (hmQueue s m q).length != 0) with
  | none => s
  | some q =>
    match hmQueue s m q with
    | [] => s
    | f :: r =>
      let s := setHmQueue s m q r
      let len := txLength s m f
      let s := if underrun then hmCount s m 37 1
        else
          let s := setHost s m { hostAt s m with sent := some f }
          let s := hmCount (hmCount (hmCount (hmCount s m 26 len) m 27 1) m (28 + macClass f.mac) 1) m (sizeBucket 31 len false) 1
          stampSent s m f stamp
      hostStopped s m

/-! ## Counters and MDIO -/

/-- HM_CNTCLR. -/
def hmCounterClear (s : State) (m : Nat) (v : Word) : State × Code :=
  if bits v 31 1 ≠ 0 then (s, .reservedBits)
  else if !bit v 0 then (s, .none)
  else (wr (wr (forAll (fun s n => wr s (R.HM_CNT m n) 0) (upTo 40) s) (R.HM_CNTHALF0 m) 0) (R.HM_CNTHALF1 m) 0, .none)

/-- A write of HM_MDIO. -/
def mdioWrite (s : State) (m : Nat) (v : Word) : State × Code :=
  if bits v 29 26 ≠ 0 then (s, .reservedBits)
  else if flag s (R.HM_MDIO m) F.HM_MDIO_BUSY then (s, .busy)
  else (wr s (R.HM_MDIO m) (withBits v 31 31 1), .none)

/-- The access ends; a read leaves its data. -/
def mdioDone (s : State) (m : Nat) (data : Nat) : State :=
  let k := R.HM_MDIO m
  if !flag s k F.HM_MDIO_BUSY then s
  else
    let s := if flag s k F.HM_MDIO_WRITE then s else setFld s k F.HM_MDIO_DATA data
    setFld s k F.HM_MDIO_BUSY 0

/-! ## Bindings (R309) -/

def bindOn (s : State) (n : Nat) : Bool := flag s (R.NRP_BIND n) F.NRP_BIND_EN
def bindPort (s : State) (n : Nat) : Nat := fld s (R.NRP_BIND n) F.NRP_BIND_PORT
def bindSlot (s : State) (n : Nat) : Nat := fld s (R.NRP_BIND n) F.NRP_BIND_SLOT

/-- The conditions of R309 on a binding with a port and a slot. -/
def bindCheck (s : State) (n port slot : Nat) : Code :=
  let a := (slotAt s slot).attr
  let f := attrOwner a
  if !attrValid a ∨ slot = 0 then .illegalValue
  else if 1 < attrAlg a ∨ attrUsage a ≠ usDEC then .usage
  else if !keyLive s slot then .orphaned
  else if (upTo 64).any (fun j => j != n && bindOn s j && bindPort s j == port && bindSlot s j == slot) then .illegalValue
  else if 3 ≤ port ∧ (f = 0 ∨ f ≠ pageOwner s (hmPage port)) then .accessFlask
  else if !flaskEnabled s f then .illegalValue
  else .none

/-- A binding's subscriptions end (R318). -/
def endSubs (s : State) (n : Nat) : State := { s with nrap := { s.nrap with subs := s.nrap.subs.filter (fun x => x.binding != n) } }

/-- The conditions at a request (R309); a slot that has been refilled since the binding was enabled is refused (R426). -/
def bindServes (s : State) (n : Nat) : Code :=
  match bindCheck s n (bindPort s n) (bindSlot s n) with
  | .none => if (slotAt s (bindSlot s n)).gen.toNat = tget (fun _ => 0) s.nrap.gens n then .none else .orphaned
  | c => c

/-- A write of NRP_BINDn whose fields are legal; enabling records the GEN of the slot. -/
def bindWrite (s : State) (n : Nat) (v : Word) : State × Code :=
  let old := rd s (R.NRP_BIND n)
  if bit old 31 then (if v = withBits old 31 31 0 then (endSubs (wr s (R.NRP_BIND n) v) n, .none) else (s, .notInState))
  else if bit v 31 then
    match bindCheck s n (bits v 26 24) (bits v 7 0) with
    | .none =>
      let g := (slotAt s (bits v 7 0)).gen.toNat
      (wr { s with nrap := { s.nrap with gens := tput (fun _ => 0) s.nrap.gens n g } } (R.NRP_BIND n) v, .none)
    | c => (s, c)
  else (wr s (R.NRP_BIND n) v, .none)

/-! ## Messages (R306 to R308) -/

/-- The key of a port and a slot in the front end's tables. -/
def portSlot (port slot : Nat) : Nat := port * 256 + slot

/-- MAXOP of a port. -/
def maxOp (s : State) (m : Nat) : Nat := min 8192 ((fld s (R.HM_CFG m) F.HM_CFG_MAXLEN - 82) / 4 * 4)

/-- The header of a message (R307). -/
def nrapHeader (flags slot status len : Nat) (boot seq : Word) : List Byte :=
  [0x4E, 0x52, 1] ++ leBytes 1 flags ++ leBytes 1 slot ++ leBytes 1 status ++ leBytes 2 len ++ leBytes 4 boot.toNat ++ leBytes 4 seq.toNat

/-- The IV of R308: direction 0 request, 1 response, 2 notification. -/
def nrapIv (slot dir : Nat) (boot seq : Word) : List Byte :=
  leBytes 1 slot ++ leBytes 1 dir ++ [0, 0] ++ leBytes 4 boot.toNat ++ leBytes 4 seq.toNat

/-- A protected message: header, operation area and tag. -/
def nrapSeal (s : State) (flags slot status : Nat) (seq : Word) (dir : Nat) (area : List Byte) : List Byte :=
  let boot := rd s R.NRP_BOOT
  let h := nrapHeader flags slot status area.length boot seq
  let key := aesKeyOf (slotAt s slot)
  if flags.testBit 2 then
    let (ct, tag) := gcmSeal key (nrapIv slot dir boot seq) h area
    h ++ ct ++ tag
  else h ++ area ++ aesCmac key (h ++ area)

/-- The operation area of a request, once its tag verifies. -/
def nrapOpen (s : State) (slot : Nat) (d : List Byte) : Option (List Byte) :=
  let h := d.take 16
  let area := (d.drop 16).take (d.length - 32)
  let tag := d.drop (d.length - 16)
  let key := aesKeyOf (slotAt s slot)
  if (d.getD 3 0).getLsbD 2 then
    gcmOpen key (nrapIv slot 0 (BitVec.ofNat 32 (leNat (sliceD 0 d 8 4))) (BitVec.ofNat 32 (leNat (sliceD 0 d 12 4)))) h area tag
  else if aesCmac key (h ++ area) = tag then some area
  else none

/-- A response's FLAGS: RESP with the request's GCM, LOW and STOP. -/
def respFlags (flags : Nat) : Nat := 1 + 4 * natBits flags 4 2

/-! ## The front end (R310, R311) -/

/-- A request as the front end reads it. -/
def reqOf (m b : Nat) (d : Datagram) (area : List Byte) : NrapReq :=
  let at4 := fun i => BitVec.ofNat 32 (leNat (sliceD 0 d.data i 4))
  { binding := b, port := m, mac := d.mac, ip := d.ip, udp := d.port, flags := (d.data.getD 3 0).toNat, slot := (d.data.getD 4 0).toNat
    seq := at4 12, area := area, tag := d.data.drop (d.data.length - 16)
    hello := at4 8 == 0 && area == [1, 0, 0, 0] }

/-- Place a response to a request on a transmit queue. -/
def nrapReply (s : State) (m q : Nat) (d : Datagram) (data : List Byte) : State :=
  hmSend s m q { kind := 2, mac := d.mac, ip := d.ip, port := d.port, data := data }

/-- A header-only response with an all-zero tag, for a request that is not authenticated. -/
def bareReply (s : State) (m : Nat) (d : Datagram) (c : Code) : State :=
  let b := d.data
  nrapReply s m 2 d (nrapHeader (respFlags (b.getD 3 0).toNat) (b.getD 4 0).toNat (codeNum c) 0 (rd s R.NRP_BOOT)
    (BitVec.ofNat 32 (leNat (sliceD 0 b 12 4))) ++ List.replicate 16 0)

/-- A header-only response under the request's protection. -/
def sealedReply (s : State) (m : Nat) (d : Datagram) (c : Code) : State :=
  let b := d.data
  nrapReply s m 2 d (nrapSeal s (respFlags (b.getD 3 0).toNat) (b.getD 4 0).toNat (codeNum c) (BitVec.ofNat 32 (leNat (sliceD 0 b 12 4))) 1 [])

/-- A refusal with AUTH: counted; answered at most 1,000 times in a second of the timebase on each port. -/
def refuseAuth (s : State) (m : Nat) (d : Datagram) : State :=
  let s := raiseBit (bumpSat (hmCount s m 24 1) R.NRP_CAUTH 1) 0x80 2
  let sec := s.now.toNat / 100000000
  let (at_, n) := tget (fun _ => (0, 0)) s.nrap.auths m
  let n := if at_ = sec then n else 0
  if 1000 ≤ n then s
  else bareReply { s with nrap := { s.nrap with auths := tput (fun _ => (0, 0)) s.nrap.auths m (sec, n + 1) } } m d .auth

/-- A refusal with SEQUENCE. -/
def refuseSeq (s : State) (m : Nat) (d : Datagram) : State :=
  sealedReply (raiseBit (bumpSat (hmCount s m 25 1) R.NRP_CSEQ 1) 0x80 3) m d .sequence

/-- The modes that serve NRAP (R320). -/
def servesNrap (s : State) : Bool := pageIn (modeNow s) mdCOMMISSION mdDOZE

/-- Show the depth of the work queue; saturation begins and ends at its thresholds (R322). -/
def showDepth (s : State) : State :=
  let n := s.nrap.work.length
  let k := R.NRP_SATST
  let s := setFld (setFld s k F.NRP_SATST_DEPTH n) k F.NRP_SATST_MAX (max n (fld s k F.NRP_SATST_MAX))
  let s := setTwin s { s.twin with mgmtDepth := max n s.twin.mgmtDepth }
  if !flag s k F.NRP_SATST_SAT ∧ fld s R.NRP_SAT F.NRP_SAT_THR_ON ≤ n then
    raiseBit (setTwin (setFld s k F.NRP_SATST_SAT 1) { s.twin with mgmtSat := true }) 0x80 0
  else if flag s k F.NRP_SATST_SAT ∧ n ≤ fld s R.NRP_SAT F.NRP_SAT_THR_OFF then
    raiseBit (setTwin (setFld s k F.NRP_SATST_SAT 0) { s.twin with mgmtSat := false }) 0x80 1
  else s

/-- A request enters the work queue; PD2 wakes for it, and a request with LOW at 0 is a wake event of DOZE (R320, R461). -/
def acceptReq (s : State) (r : NrapReq) : State :=
  let k := portSlot r.port r.slot
  let n := s.nrap
  let n := if r.hello then n
    else { n with lastSeq := tput (fun _ => 0) n.lastSeq k r.seq.toNat, kept := tput (fun _ => none) n.kept k (some { tag := r.tag, frame := none }) }
  let s := showDepth { s with nrap := { n with work := n.work ++ [r] } }
  let s := demand s 2
  if r.flags.testBit 3 then s else wakeEvent s F.SYS_DOZECFG_HOST

/-- Steps 6 and 7 of R310; an activation pause answers BUSY (R500). -/
def admitReq (s : State) (m : Nat) (d : Datagram) (r : NrapReq) : State :=
  if !servesNrap s then sealedReply s m d .notInState
  else if s.paused ∨ 256 ≤ s.nrap.work.length ∨ (r.flags.testBit 3 ∧ flag s R.NRP_SATST F.NRP_SATST_SAT) then
    sealedReply (bumpSat s R.NRP_CBUSY 1) m d .busy
  else acceptReq s r

/-- Step 5 of R310: the table of R311. -/
def sequenceReq (s : State) (m : Nat) (d : Datagram) (r : NrapReq) : State :=
  let boot := leNat (sliceD 0 d.data 8 4)
  let last := tget (fun _ => 0) s.nrap.lastSeq (portSlot m r.slot)
  if r.hello then admitReq s m d r
  else if boot ≠ (rd s R.NRP_BOOT).toNat then refuseSeq s m d
  else if last < r.seq.toNat then admitReq s m d r
  else match tget (fun _ => none) s.nrap.kept (portSlot m r.slot) with
  | some k =>
    if r.seq.toNat = last ∧ k.tag = r.tag then (match k.frame with | some (q, f) => hmSend s m q f | none => s) else refuseSeq s m d
  | none => refuseSeq s m d

/-- The length checks of step 1 of R310; a length above MAXOP is refused with ILLEGAL_VALUE (R306). -/
def wellFramed (d : List Byte) : Bool :=
  decide (32 ≤ d.length) && d.take 3 == [0x4E, 0x52, 1] && !(d.getD 3 0).getLsbD 0 &&
  leNat (sliceD 0 d 6 2) % 4 == 0 && leNat (sliceD 0 d 6 2) + 32 == d.length

/-- R310 on one datagram. -/
def frontEnd (s : State) (m : Nat) (d : Datagram) : State :=
  let slot := (d.data.getD 4 0).toNat
  if !wellFramed d.data then hmCount s m 21 1
  else if maxOp s m + 32 < d.data.length then bareReply s m d .illegalValue
  else match (upTo 64).find? (fun n => bindOn s n && bindPort s n == m && bindSlot s n == slot) with
  | none => refuseAuth s m d
  | some b =>
    match bindServes s b with
    | .none =>
      if flag s (R.NRP_BIND b) F.NRP_BIND_GCM_REQ && !(d.data.getD 3 0).getLsbD 2 then refuseAuth s m d
      else match nrapOpen s slot d.data with
        | none => refuseAuth s m d
        | some area => sequenceReq s m d (reqOf m b d area)
    | c => bareReply s m d c

/-- The front end takes the oldest datagram of a port. -/
def nrapRequest (s : State) (m : Nat) : State :=
  match (hostAt s m).inbox with
  | [] => s
  | d :: r => frontEnd (setHost s m { hostAt s m with inbox := r }) m d

/-! ## The commands -/

/-- HOST_FRAME_RECEIVED (R301). -/
def execHostFrameReceived (m : Fin 6) (x : HostFrame) (s : State) : Host.Outcome State Fault Refusal := .next (hostFrameReceived s m.val x)
/-- HOST_FRAME_TRANSMIT (R303): `stamp` is the time of the first bit after the delimiter in sixteenths of a count. -/
def execHostFrameTransmit (m : Fin 6) (stamp : Nat) (underrun : Bool) (s : State) : Host.Outcome State Fault Refusal :=
  .next (hostFrameTransmit s m.val stamp underrun)
/-- PTP_FIFO_POP (R305). -/
def execPtpFifoPop (q : Requester) (m : Fin 6) (tx : Bool) (s : State) : Host.Outcome State Fault Refusal :=
  .next (gated s q (hmPage m.val) (if tx then 0x8C else 0x7C) (fun s => answer (ptpPop s m.val tx) .none))
/-- MAC_COUNTER_CLEAR (R304): a write of HM_CNTCLR. -/
def execMacCounterClear (q : Requester) (m : Fin 6) (v : Word) (s : State) : Host.Outcome State Fault Refusal :=
  .next (gated s q (hmPage m.val) 0xC8 (fun s => endCommand (hmPage m.val) 0xC8 (hmCounterClear s m.val v)))
/-- MDIO_ACCESS: a write of HM_MDIO. -/
def execMdioAccess (q : Requester) (m : Fin 6) (v : Word) (s : State) : Host.Outcome State Fault Refusal :=
  .next (gated s q (hmPage m.val) 0x60 (fun s => endCommand (hmPage m.val) 0x60 (mdioWrite s m.val v)))
/-- MDIO_COMPLETE. -/
def execMdioComplete (m : Fin 6) (data : BitVec 16) (s : State) : Host.Outcome State Fault Refusal := .next (mdioDone s m.val data.toNat)
/-- NRAP_REQUEST (R310). -/
def execNrapRequest (m : Fin 6) (s : State) : Host.Outcome State Fault Refusal := .next (nrapRequest s m.val)
/-- HOST_LINK_UP (R299). -/
def execHostLinkUp (m : Fin 6) (speed : Fin 4) (s : State) : Host.Outcome State Fault Refusal := .next (hostLinkUp s m.val speed.val)
/-- HOST_LINK_DOWN (R300). -/
def execHostLinkDown (m : Fin 6) (s : State) : Host.Outcome State Fault Refusal := .next (hostLinkDown s m.val)

end Sys2Proof.Machine
end

