-- ==== Sys2Proof/Machine/Time.lean ====
section
/-! DEFINITION. The timebase and its follower (R437 to R441), the PTP servo (R442, R443), the calendar and its alarm (R444 to R449), and
the backup domain (R450 to R453). -/

namespace Sys2Proof.Machine

/-! ## The timebase -/

/-- A module follows its partner's timebase (R440). -/
def following (s : State) : Bool :=
  (roleOf s == rlSTANDBY || roleOf s == rlRESOLVING) && flag s R.TWN_STAT F.TWN_STAT_LINK &&
  (match s.twin.hb with | some h => h.role == 2 | none => false)

def ptpOn (s : State) : Bool := pageOn s 0x7F

/-- TB_STAT.SRC. -/
def tbSource (s : State) : Nat := if following s then 2 else if ptpOn s then 1 else 0

/-- Load a value into the timebase: the events at its multiples go on at the first one that follows (R439). -/
def stepTo (s : State) (v : DWord) : State :=
  let n := v.toNat
  let s := { s with now := v, nextTick := n / 100000 + 1, nextGrid := n / 25000 + 1, meter := { s.meter with nextSample := n / 12500 + 1 } }
  raiseBit (bumpFld s R.TB_STAT F.TB_STAT_STEPS 1) 0x06 0

/-- A host's step. -/
def tbStep (s : State) (v : DWord) : State × Code :=
  if modeNow s ≠ mdCOMMISSION ∨ following s then (s, .notInState) else (stepTo s v, .none)

/-- A write of TB_RATE. -/
def tbRate (s : State) (v : Word) : State × Code :=
  if following s ∨ ptpOn s then (s, .notInState)
  else if v.toInt < -100000 ∨ 100000 < v.toInt then (s, .illegalValue)
  else (wr { s with follower := { s.follower with rate := 0 } } R.TB_RATE v, .none)

/-- A write of TB_SLEW adds to the pending offset. A sum outside 32 bits is a free value (assumption 7). -/
def tbSlew (s : State) (v : Word) : State × Code :=
  if following s ∨ ptpOn s then (s, .notInState)
  else
    let n := (rd s R.TB_SLEW).toInt + v.toInt
    if n < -0x80000000 ∨ 0x7FFFFFFF < n then
      let (s, w) := takeFree s
      (wr s R.TB_SLEW w, .none)
    else (wr s R.TB_SLEW (BitVec.ofInt 32 n), .none)

/-- A tick absorbs up to 10 counts of the pending offset: 100 ppm of its 100,000 (R438). -/
def absorbSlew (s : State) : State :=
  let n := (rd s R.TB_SLEW).toInt
  if n = 0 ∨ following s then s else wr s R.TB_SLEW (BitVec.ofInt 32 (n - clampInt (-10) 10 n))

/-- LINK_DELAY_MEASURE (R441): half the round trip, in ns. -/
def linkDelay (s : State) (rtt : Nat) : State :=
  if flag s R.TLM_STAT F.TLM_STAT_UP then wr s R.TB_LINKDLY (BitVec.ofNat 32 (rtt / 2)) else s

/-- ALIGNED: set by 16 heartbeats in a row within 100 ns, cleared by 4 outside. -/
def countAligned (s : State) (off : Int) : State :=
  let x := s.follower
  let x := if off.natAbs ≤ 100 then { x with inside := x.inside + 1, outside := 0 } else { x with inside := 0, outside := x.outside + 1 }
  let s := { s with follower := x }
  let on := flag s R.TB_STAT F.TB_STAT_ALIGNED
  if !on ∧ 16 ≤ x.inside then raiseBit (setFld s R.TB_STAT F.TB_STAT_ALIGNED 1) 0x06 2
  else if on ∧ 4 ≤ x.outside then raiseBit (setFld s R.TB_STAT F.TB_STAT_ALIGNED 0) 0x06 1
  else s

/-- The follower at a valid heartbeat whose TB field is `tb` and whose arrival stamp is `at_` (R441). -/
def follow (s : State) (tb at_ : DWord) : State :=
  if !following s then s
  else
    let off : Int := 10 * ((tb.toNat : Int) - at_.toNat) + (rd s R.TB_LINKDLY).toNat
    let s := countAligned (wr s R.TB_TWOFS (BitVec.ofInt 32 (sat32 off))) off
    if 1000 < off.natAbs ∧ syncOf s = syUNSYNCED then stepTo s (BitVec.ofInt 64 (s.now.toNat + roundDiv off 10))
    else { s with follower := { s.follower with rate := clampInt (-200000) 200000 (off * 250) } }

/-! ## PTP -/

def ptDISABLED : Nat := 0
def ptLISTENING : Nat := 1
def ptUNCALIBRATED : Nat := 2
def ptSLAVE : Nat := 3
def ptHOLDOVER : Nat := 4
def ptpState (s : State) : Nat := fld s R.PTP_STAT F.PTP_STAT_STATE
def setPtpState (s : State) (n : Nat) : State := setFld s R.PTP_STAT F.PTP_STAT_STATE n
def setPtp (s : State) (x : Ptp) : State := { s with ptp := x }

def ptpStart (s : State) : State := setPageSt (setPtp s {}) 0x7F 1
def ptpStarted (s : State) : State := if pageSt s 0x7F = 1 then setPtpState (setPageSt s 0x7F 2) ptLISTENING else s
def ptpStop (s : State) : State := setPageSt s 0x7F 3
def ptpStopped (s : State) : State :=
  if pageSt s 0x7F ≠ 3 then s
  else
    let s := setPtpState (setPageSt s 0x7F 0) ptDISABLED
    let k := R.PG_STATE 0x7F
    if flag s k F.PG_REARM then ptpStart (setFld s k F.PG_REARM 0) else s

/-- The data sets that the best master clock algorithm compares, most significant first. -/
def bmcaKey (a : PtpAnnounce) : List Nat :=
  [a.prio1.toNat, a.cls.toNat, a.accuracy.toNat, a.variance.toNat, a.prio2.toNat, a.gm.toNat, a.steps.toNat, a.src.toNat]

/-- A list of numbers comes before another of its length. -/
def comesBefore : List Nat → List Nat → Bool
  | x :: r, y :: q => decide (x < y) || (x == y && comesBefore r q)
  | _, _ => false

/-- An Announce from `a`: the present master's own, a better one's, or any while LISTENING (R442, R443). -/
def ptpAnnounce (s : State) (a : PtpAnnounce) : State :=
  let listening := ptpState s == ptLISTENING
  let take (s : State) (same : Bool) : State :=
    let gmSame := match s.ptp.master with | some m => m.gm == a.gm | none => true
    setPtp s { s.ptp with master := some a, announceAt := s.now, originSet := s.ptp.originSet && gmSame
                          wait := if same then s.ptp.wait else none, good := if same then s.ptp.good else 0 }
  match s.ptp.master with
  | some m =>
    if listening then setPtpState (take s false) ptUNCALIBRATED
    else if m.src = a.src then take s true
    else if comesBefore (bmcaKey a) (bmcaKey m) then setPtpState (take s false) ptUNCALIBRATED
    else s
  | none => setPtpState (take s false) ptUNCALIBRATED

/-- A message comes from the master. -/
def fromMaster (s : State) (src : BitVec 80) : Bool :=
  ptpState s != ptLISTENING && (match s.ptp.master with | some m => m.src == src | none => false)

/-- The Delay_Req message with a sequence number (IEEE 1588: 44 bytes, clock identity from the MAC address; assumption 40). -/
def delayReq (s : State) (m seq : Nat) : List Byte :=
  let mac := hmMac s m
  [0x01, 0x12] ++ beBytes 2 44 ++ [BitVec.ofNat 8 (fld s R.PTP_CFG F.PTP_CFG_DOMAIN), 0, 0, 0] ++ List.replicate 12 0 ++
    (mac.take 3 ++ [0xFF, 0xFE] ++ mac.drop 3) ++ [0, 1] ++ beBytes 2 seq ++ [1, 0x7F] ++ List.replicate 10 0

/-- Send a Delay_Req after a Sync. -/
def sendDelayReq (s : State) : State :=
  let m := fld s R.PTP_CFG F.PTP_CFG_PORT
  let seq := (s.ptp.reqSeq + 1) % 65536
  let s := setPtp s { s.ptp with reqSeq := seq, t3 := none }
  let d := delayReq s m seq
  if flag s R.PTP_CFG F.PTP_CFG_UDP then hmSend s m 0 { kind := 4, mac := [0x01, 0, 0x5E, 0, 1, 0x81], ip := 0xE0000181, port := 319, data := d }
  else hmSend s m 0 { kind := 3, mac := [0x01, 0x1B, 0x19, 0, 0, 0], ip := 0, port := 0, data := d }

def ptpOrigin (s : State) : Int := ((rd s (R.PTP_ORIGIN 1)).toNat * 2 ^ 32 + (rd s (R.PTP_ORIGIN 0)).toNat : Nat)
def setOrigin (s : State) (n : Int) : State :=
  let v := codeOf 64 n
  raiseBit (wr (wr s (R.PTP_ORIGIN 0) (BitVec.ofNat 32 v)) (R.PTP_ORIGIN 1) (BitVec.ofNat 32 (v / 2 ^ 32))) 0x7F 2

/-- The servo trims the timebase: the rate it chooses is a free value within R438 (assumption 7). -/
def servoRate (s : State) : State :=
  if following s then s
  else
    let (s, w) := takeFree s
    wr s R.TB_RATE (BitVec.ofInt 32 ((w.toNat % 200001 : Nat) - 100000 : Int))

/-- A Sync with its origin time t1 and its stamp t2 is processed (R443). -/
def ptpSync (s : State) (t1 t2 : Int) : State :=
  let off := t2 + ptpOrigin s - t1 - s.ptp.delay
  let renew := !s.ptp.originSet || decide (1000000 < off.natAbs)
  let s := if renew then setOrigin s (t1 + s.ptp.delay - t2) else s
  let off := if renew then 0 else off
  let good := if off.natAbs ≤ 1000 then s.ptp.good + 1 else 0
  let s := setPtp s { s.ptp with originSet := true, syncAt := s.now, wait := none, t1 := t1, t2 := t2, good := good }
  let s := wr s R.PTP_OFS (BitVec.ofInt 32 (sat32 off))
  let s := if 16 ≤ good ∧ ptpState s ≠ ptSLAVE then raiseBit (setPtpState s ptSLAVE) 0x7F 0 else s
  sendDelayReq (servoRate s)

/-- A PTP message in the servo's domain; the servo stands still in an activation pause (R500). -/
def ptpMessage (s : State) (x : PtpMsg) : State :=
  let here (d : Byte) : Bool := ptpOn s && !s.paused && d.toNat == fld s R.PTP_CFG F.PTP_CFG_DOMAIN
  match x with
  | .announce dom a => if here dom then ptpAnnounce s a else s
  | .sync dom src seq twoStep origin corr stamp =>
    if !here dom || !fromMaster s src then s
    else if twoStep then setPtp s { s.ptp with wait := some (seq.toNat, stamp, corr) }
    else ptpSync s (origin + corr) stamp
  | .followUp dom src seq origin corr =>
    if !here dom || !fromMaster s src then s
    else match s.ptp.wait with
      | some (q, t2, c) => if q = seq.toNat then ptpSync s (origin + c + corr) t2 else s
      | none => s
  | .delayResp dom src seq receive corr =>
    if !here dom || !fromMaster s src || seq.toNat != s.ptp.reqSeq then s
    else match s.ptp.t3 with
      | some t3 =>
        let d := ((s.ptp.t2 - s.ptp.t1) + (receive - corr - t3)) / 2
        wr (setPtp s { s.ptp with delay := d, t3 := none }) R.PTP_DELAY (BitVec.ofInt 32 d)
      | none => s

/-- An announce interval in counts. -/
def announceCounts (a : PtpAnnounce) : Nat :=
  if 0 ≤ a.logIvl then 100000000 * 2 ^ a.logIvl.toNat else 100000000 / 2 ^ (-a.logIvl).toNat

/-- PTP_ANNOUNCE_TIMEOUT (R443). -/
def announceTimeout (s : State) : State :=
  match s.ptp.master with
  | some a =>
    if !ptpOn s ∨ ptpState s = ptLISTENING then s
    else setPtpState (advanceTo s (s.ptp.announceAt + BitVec.ofNat 64 (3 * announceCounts a))) ptLISTENING
  | none => s

/-- PTP_SYNC_TIMEOUT (R443). -/
def syncTimeout (s : State) : State :=
  if !ptpOn s ∨ ptpState s ≠ ptSLAVE then s
  else
    let s := advanceTo s (s.ptp.syncAt + 300000000)
    raiseBit (setPtpState (setPtp s { s.ptp with good := 0 }) ptHOLDOVER) 0x7F 1

/-! ## The calendar -/

def rtcHeld (s : State) : Bool := flag s R.RTC_STAT F.RTC_STAT_HELD

/-- RTC_TBCAP takes the timebase, except in BACKUP (R446). -/
def captureTb (s : State) : State :=
  if modeNow s = 0 then s
  else wr (wr s (R.RTC_TBCAP 0) (s.now.setWidth 32)) (R.RTC_TBCAP 1) ((s.now >>> 32).setWidth 32)

/-- The alarm's date part matches a date and weekday, and its time part a time of day (R448). -/
def alarmDay (s : State) (date : Word) (wday : Nat) : Bool :=
  let t := rd s R.RTC_ALMT
  let d := rd s R.RTC_ALMD
  (bit t 31 || bits t 26 24 == wday) && (bit d 31 || bits d 24 16 == bits date 24 16) && (bit d 15 || bits d 12 8 == bits date 12 8) &&
    (bit d 7 || bits d 5 0 == bits date 5 0)
def alarmTime (s : State) (h m x : Nat) : Bool :=
  let t := rd s R.RTC_ALMT
  (bit t 23 || ofBcd (bits t 21 16) == h) && (bit t 15 || ofBcd (bits t 14 8) == m) && (bit t 7 || ofBcd (bits t 6 0) == x)
def alarmMatch (s : State) (date time : Word) : Bool :=
  alarmDay s date (bits time 26 24) && alarmTime s (timeHour time) (timeMin time) (timeSec time)

/-- The alarm's time part matches a second of the day from `lo` up to but not including `hi`. -/
def alarmWithin (s : State) (lo hi : Nat) : Bool :=
  (upTo 24).any (fun h => (upTo 60).any (fun m => (upTo 60).any (fun x =>
    let n := h * 3600 + m * 60 + x
    decide (lo ≤ n) && decide (n < hi) && alarmTime s h m x)))

/-- The alarm matches on one of `n` whole days from a date, or on the last day before a second of it. -/
def alarmDays (s : State) (last : Nat) : Nat → Word → Nat → Bool
  | 0, date, wd => alarmDay s date wd && alarmWithin s 0 last
  | n + 1, date, wd =>
    (alarmDay s date wd && alarmWithin s 0 86400) ||
    (let (d, t) := nextSecond date (timeWord wd 23 59 59); alarmDays s last n d (bits t 26 24))

/-- The alarm matches at a calendar second strictly between two values (R449). -/
def alarmBetween (s : State) (date0 time0 : Word) (a b : Nat) : Bool :=
  let n := b / 86400 - a / 86400
  let wd := bits time0 26 24
  match n with
  | 0 => alarmDay s date0 wd && alarmWithin s (a % 86400 + 1) (b % 86400)
  | n + 1 =>
    (alarmDay s date0 wd && alarmWithin s (a % 86400 + 1) 86400) ||
    (let (d, t) := nextSecond date0 (timeWord wd 23 59 59); alarmDays s (b % 86400) n d (bits t 26 24))

/-- The alarm is enabled and has not fired. -/
def alarmArmed (s : State) : Bool := flag s R.RTC_CTRL F.RTC_CTRL_ALM_EN && !flag s R.RTC_STAT F.RTC_STAT_FIRED

/-- The alarm fires (R448): with WAKE at 1, source 130h of the event matrix; it is a wake event of DOZE (R461). -/
def fireAlarm (s : State) (cause : Nat) : State :=
  let s := raiseBit (setFld (setFld s R.RTC_STAT F.RTC_STAT_FIRED 1) R.RTC_STAT F.RTC_STAT_ACAUSE cause) 0x04 0
  let s := if flag s R.RTC_CTRL F.RTC_CTRL_WAKE ∧ modeNow s ≠ 0 then evtSet s 0x130 else s
  wakeEvent s F.SYS_DOZECFG_ALARM

/-- The alarm at the calendar's present value. -/
def alarmNow (s : State) : State :=
  if alarmArmed s ∧ alarmMatch s (rd s R.RTC_DATE) (rd s R.RTC_TIME) then fireAlarm s 1 else s

/-- The alarm at a release that moved the clock from a held value (R449). -/
def alarmMoved (s : State) (date0 time0 : Word) : State :=
  let a := secondsOf date0 time0
  let b := calSeconds s
  if !alarmArmed s then s
  else
    let skip := decide (a < b) && alarmBetween s date0 time0 a b
    let hit := alarmMatch s (rd s R.RTC_DATE) (rd s R.RTC_TIME)
    let s := if skip then raiseBit (setFld s R.RTC_STAT F.RTC_STAT_ALARM_SKIPPED 1) 0x04 1 else s
    if hit then fireAlarm s 1 else if skip ∧ flag s R.RTC_CTRL F.RTC_CTRL_FIRE_ON_SKIP then fireAlarm s 2 else s

/-- RTC_SECOND_ROLLOVER (R444); a held calendar does not move. -/
def rtcRollover (s : State) : State :=
  if rtcHeld s then s
  else
    let (d, t) := nextSecond (rd s R.RTC_DATE) (rd s R.RTC_TIME)
    alarmNow (captureTb (wr (wr s R.RTC_DATE d) R.RTC_TIME t))

/-- The crystal cycles counted in the current second: a free value while the calendar runs (assumption 7). -/
def sampleSubsec (s : State) : State :=
  if rtcHeld s then s
  else
    let (s, w) := takeFree s
    wr s R.RTC_SUBSEC (w &&& 0x7FFF)

/-- HOLD: the calendar and its prescaler freeze. -/
def rtcHold (s : State) : State :=
  let s := setFld (sampleSubsec s) R.RTC_STAT F.RTC_STAT_HELD 1
  { s with rtc := { s.rtc with stageDate := none, stageTime := none } }

/-- Release: the staged value is loaded with the prescaler at 0; the demand interval closes when the clock moved (R227). -/
def rtcRelease (s : State) : State :=
  let d0 := rd s R.RTC_DATE
  let t0 := rd s R.RTC_TIME
  let d := s.rtc.stageDate.getD d0
  let t := s.rtc.stageTime.getD t0
  let s := wr (wr (wr s R.RTC_DATE d) R.RTC_TIME t) R.RTC_SUBSEC 0
  let s := setFld (setFld s R.RTC_STAT F.RTC_STAT_HELD 0) R.RTC_STAT F.RTC_STAT_VALID 1
  let s := captureTb { s with rtc := { s.rtc with stageDate := none, stageTime := none } }
  if d = d0 ∧ t = t0 then s else closeIntervals (alarmMoved s d0 t0) true false

/-- A write of RTC_CTRL (R445). -/
def rtcCtrlWrite (s : State) (v : Word) : State × Code :=
  if v &&& ~~~0x1D ≠ 0 then (s, .reservedBits)
  else
    let held := rtcHeld s
    if held ∧ !bit v 0 ∧ !dateExists (s.rtc.stageDate.getD (rd s R.RTC_DATE)) then (s, .illegalValue)
    else
      let s := wr s R.RTC_CTRL v
      (if !held ∧ bit v 0 then rtcHold s else if held ∧ !bit v 0 then rtcRelease s else s, .none)

/-- The fields of RTC_TIME and of RTC_DATE are in range (R444). -/
def bcdIn (n lo hi : Nat) : Bool := decide (n % 16 ≤ 9) && decide (n / 16 ≤ 9) && decide (lo ≤ ofBcd n) && decide (ofBcd n ≤ hi)
def timeLegal (v : Word) : Bool :=
  pageIn (bits v 26 24) 1 7 && bcdIn (bits v 21 16) 0 23 && bcdIn (bits v 14 8) 0 59 && bcdIn (bits v 6 0) 0 59
def dateLegal (v : Word) : Bool := bcdIn (bits v 23 16) 0 99 && bcdIn (bits v 12 8) 1 12 && bcdIn (bits v 5 0) 1 31

/-- A write of RTC_TIME or RTC_DATE: staged while held; else the undefined misuse of R445, after which the calendar holds free
values (R35; assumption 7). -/
def calendarWrite (s : State) (date : Bool) (v : Word) : State × Code :=
  if (if date then v &&& ~~~0x01FF1F3F else v &&& ~~~0x073F7F7F) ≠ 0 then (s, .reservedBits)
  else if !(if date then dateLegal v else timeLegal v) then (s, .illegalValue)
  else if rtcHeld s then
    ({ s with rtc := if date then { s.rtc with stageDate := some v } else { s.rtc with stageTime := some v } }, .none)
  else
    let (s, a) := takeFree s
    let (s, b) := takeFree s
    (wr (wr s R.RTC_DATE (a &&& 0x01FF1F3F)) R.RTC_TIME (b &&& 0x073F7F7F), .none)

/-- A read of RTC_TIME captures RTC_DATE and RTC_SUBSEC for the requester (R446). -/
def rtcTimeRead (s : State) (q : Requester) : State × Word :=
  let s := sampleSubsec s
  (keepWord (keepWord s q R.RTC_DATE (rd s R.RTC_DATE)) q R.RTC_SUBSEC (rd s R.RTC_SUBSEC), rd s R.RTC_TIME)

/-- ALMT or ALMD: a masked field must be 0, an unmasked one in range. -/
def alarmWordCode (date : Bool) (v : Word) : Code :=
  let parts : List (Nat × Nat × Nat × Bool) :=
    if date then [(31, 24, 16, bcdIn (bits v 23 16) 0 99), (15, 12, 8, bcdIn (bits v 12 8) 1 12), (7, 5, 0, bcdIn (bits v 5 0) 1 31)]
    else [(31, 26, 24, pageIn (bits v 26 24) 1 7), (23, 21, 16, bcdIn (bits v 21 16) 0 23), (15, 14, 8, bcdIn (bits v 14 8) 0 59),
          (7, 6, 0, bcdIn (bits v 6 0) 0 59)]
  let other := if date then v &&& ~~~0x81FF9FBF else v &&& ~~~0x87BFFFFF
  if other ≠ 0 ∨ parts.any (fun (m, hi, lo, _) => bit v m && bits v hi lo != 0) then .reservedBits
  else if parts.any (fun (m, _, _, ok) => !bit v m && !ok) then .illegalValue
  else .none

/-- ARM clears FIRED (R448). -/
def rtcCommand (s : State) (v : Word) : State × Code :=
  if bits v 31 1 ≠ 0 then (s, .reservedBits)
  else (if bit v 0 then setFld s R.RTC_STAT F.RTC_STAT_FIRED 0 else s, .none)

/-- A supply switch (R450). -/
def supplySwitch (s : State) (vbkp : Bool) : State :=
  if flag s R.RTC_STAT F.RTC_STAT_ON_VBKP = vbkp then s else raiseBit (setFld s R.RTC_STAT F.RTC_STAT_ON_VBKP (b2n vbkp)) 0x04 2

/-- The page of a register key lies in the backup domain. -/
def inBackup (key : Nat) : Bool := let p := (key / 4096) % 256; p == 4 || p == 5

/-- The backup-domain reset (R451): every register of pages 04h and 05h, the calendar's own state and a
pending erase. -/
def backupReset (s : State) : State :=
  { s with regs := tkeep (fun k => !inBackup k) s.regs, rtc := {}, crypto := { s.crypto with erasePend := false } }

/-! ## The commands -/

/-- TB_STEP (R439): a committed write. -/
def execTbStep (q : Requester) (v : DWord) (s : State) : Host.Outcome State Fault Refusal :=
  .next (gated s q 0x06 0x54 (fun s => endCommand 0x06 0x54 (tbStep s v)))
/-- TB_SLEW (R438). -/
def execTbSlew (q : Requester) (v : Word) (s : State) : Host.Outcome State Fault Refusal :=
  .next (gated s q 0x06 0x4C (fun s => endCommand 0x06 0x4C (tbSlew s v)))
/-- LINK_DELAY_MEASURE (R441): `rtt` is the round trip in ns. -/
def execLinkDelayMeasure (rtt : Nat) (s : State) : Host.Outcome State Fault Refusal := .next (linkDelay s rtt)
/-- PTP_MESSAGE (R442). -/
def execPtpMessage (x : PtpMsg) (s : State) : Host.Outcome State Fault Refusal := .next (ptpMessage s x)
/-- PTP_ANNOUNCE_TIMEOUT (R443). -/
def execPtpAnnounceTimeout (s : State) : Host.Outcome State Fault Refusal := .next (announceTimeout s)
/-- PTP_SYNC_TIMEOUT (R443). -/
def execPtpSyncTimeout (s : State) : Host.Outcome State Fault Refusal := .next (syncTimeout s)
/-- RTC_SECOND_ROLLOVER (R444). -/
def execRtcSecondRollover (s : State) : Host.Outcome State Fault Refusal := .next (rtcRollover s)
/-- TRIM_WINDOW (R447). -/
def execTrimWindow (s : State) : Host.Outcome State Fault Refusal := .next { s with rtc := { s.rtc with trim := rd s R.RTC_TRIM } }
/-- RTC_HOLD (R445): a write of RTC_CTRL with HOLD at 1. -/
def execRtcHold (q : Requester) (v : Word) (s : State) : Host.Outcome State Fault Refusal :=
  .next (gated s q 0x04 0x48 (fun s => endCommand 0x04 0x48 (rtcCtrlWrite s (withBits v 0 0 1))))
/-- RTC_RELEASE (R445): a write of RTC_CTRL with HOLD at 0. -/
def execRtcRelease (q : Requester) (v : Word) (s : State) : Host.Outcome State Fault Refusal :=
  .next (gated s q 0x04 0x48 (fun s => endCommand 0x04 0x48 (rtcCtrlWrite s (withBits v 0 0 0))))
/-- RTC_TIME_READ (R446). -/
def execRtcTimeRead (q : Requester) (s : State) : Host.Outcome State Fault Refusal :=
  .next (gated s q 0x04 0x40 (fun s => let (s, w) := rtcTimeRead s q; { s with answer := { words := [w] } }))
/-- ALARM_ARM (R448). -/
def execAlarmArm (q : Requester) (s : State) : Host.Outcome State Fault Refusal :=
  .next (gated s q 0x04 0x50 (fun s => endCommand 0x04 0x50 (rtcCommand s 1)))
/-- BACKUP_SUPPLY_SWITCH (R450). -/
def execBackupSupplySwitch (vbkp : Bool) (s : State) : Host.Outcome State Fault Refusal := .next (supplySwitch s vbkp)
/-- BACKUP_DOMAIN_RESET (R451). -/
def execBackupDomainReset (s : State) : Host.Outcome State Fault Refusal := .next (backupReset s)

end Sys2Proof.Machine
end

