-- ==== Sys2Proof/Machine/Twin.lean ====
section
/-! DEFINITION. The twin pair (R325 to R337, R348 to R354): heartbeats, slots, the decision to become active, demotion, handovers,
revertive return and the Forecast. -/

namespace Sys2Proof.Machine

def linkUp (s : State) : Bool := flag s R.TLM_STAT F.TLM_STAT_UP
def isHome (s : State) : Bool := flag s R.TWN_CFG F.TWN_CFG_HOME
/-- The last grid point served, and its instant. -/
def gridNow (s : State) : Nat := s.nextGrid - 1
def gridTime (s : State) : Nat := gridNow s * 25000
/-- A role that waits for the active role. -/
def waits (s : State) : Bool := roleOf s == rlSTANDBY || roleOf s == rlRESOLVING
/-- HEALTH of the module's own and of its partner's latest Forecast record. -/
def ownHealth (s : State) : Nat := bits (rd s (R.FCS_OWN 5)) 31 24
def setRoleIn (s : State) (b : Bool) : State := setFld s R.TWN_STAT F.TWN_STAT_ROLE_IN (b2n b)

/-- A condition of the Forecast's FLAGS has occurred in the sweep in progress (R349). -/
def noteFlag (s : State) (n : Nat) : State := setTwin s { s.twin with flagsNow := withBits s.twin.flagsNow n n 1 }

/-! ## Heartbeats (R327, R331, R332) -/

/-- The heartbeat of the last grid point. -/
def makeHeartbeat (s : State) : Heartbeat :=
  { role := BitVec.ofNat 8 (roleOf s), mode := BitVec.ofNat 8 (modeNow s), home := isHome s, synced := syncOf s == sySYNCED
    hoReq := s.twin.hoReq && roleOf s == rlSTANDBY, hoAck := s.twin.hoTick.isSome && roleOf s == rlACTIVE
    revSusp := flag s R.TWN_STAT F.TWN_STAT_REV_SUSP, health := BitVec.ofNat 8 (ownHealth s), epoch := rd s R.TWN_EPOCH, tb := s.now
    hoTick := BitVec.ofNat 64 (if roleOf s = rlACTIVE then s.twin.hoTick.getD 0 else 0), linkVer := s.boot.fw.linkVer
    grid := BitVec.ofNat 16 (gridNow s), fcSeq := BitVec.ofNat 32 s.twin.fcSeq }

/-- HEARTBEAT_SEND: 5 µs after the grid point. -/
def heartbeatSend (s : State) : State :=
  if !paired s || (roleOf s == rlNONE && !linkUp s) then s
  else
    let s := advanceTo s (BitVec.ofNat 64 (gridTime s + 500))
    setTwin s { s.twin with sent := some (makeHeartbeat s), sentGrid := gridNow s }

/-- ROLE_KEEPER_EXPIRY (R327): no heartbeat within 20 µs of its due time; the module drops out of the active role, and out of its mode at the
next tick boundary. -/
def roleKeeper (s : State) : State :=
  if !paired s || roleOf s != rlACTIVE || (s.twin.sent.isSome && s.twin.sentGrid == gridNow s) then s
  else
    let s := advanceTo s (BitVec.ofNat 64 (gridTime s + 2500))
    setRole (setTwin s { s.twin with demote := true, hoTick := none, hoReq := false }) rlSTANDBY

/-- A planned handover is cancelled (R352). -/
def cancelHandover (s : State) : State :=
  setFld (setTwin s { s.twin with hoReq := false, hoRev := false, hoTick := none }) R.TWN_STAT F.TWN_STAT_HO_PEND 0

/-- An exchange or rollback is WAITING or MIGRATING (R352). -/
def xchBusy (s : State) : Bool := xchState s == xsWAITING || xchState s == xsMIGRATING

/-- The handover part of a valid heartbeat (R352): the active names T, the standby follows HO_ACK, and both cancel. -/
def heartbeatHandover (s : State) (x : Heartbeat) : State :=
  if roleOf s = rlACTIVE then
    if x.role == 3 && x.hoReq && x.synced && x.health == 0 then
      if s.twin.hoTick.isSome || xchBusy s then s
      else
        let t := (s.now.toNat + 500000 + 99999) / 100000
        setFld (setTwin s { s.twin with hoTick := some t }) R.TWN_STAT F.TWN_STAT_HO_PEND 1
    else if s.twin.hoTick.isSome then cancelHandover s
    else s
  else if roleOf s = rlSTANDBY then
    if x.hoAck && s.twin.hoReq then setFld (setTwin s { s.twin with hoTick := some x.hoTick.toNat }) R.TWN_STAT F.TWN_STAT_HO_PEND 1
    else if s.twin.hoTick.isSome && !x.hoAck then cancelHandover s
    else s
  else s

/-- ROLE_MISMATCH (R332). -/
def roleMismatch (s : State) : State :=
  let s := if flag s R.TWN_STAT F.TWN_STAT_ROLE_MISMATCH then s else raiseBit s 0x88 8
  noteFlag (setFld s R.TWN_STAT F.TWN_STAT_ROLE_MISMATCH 1) 8

/-- A valid heartbeat for the last grid point. -/
def takeHeartbeat (s : State) (x : Heartbeat) (roleIn : Bool) : State :=
  let s := if flag s R.TWN_STAT F.TWN_STAT_LINK then s else raiseBit (setFld s R.TWN_STAT F.TWN_STAT_LINK 1) 0x88 4
  let s := setTwin s { s.twin with hb := some x, hbNow := some x, heard := true }
  let s := setFld (wr s R.TWN_PEPOCH x.epoch) R.TWN_STAT F.TWN_STAT_PROLE (x.role.toNat % 8)
  let s := setFld s R.TLM_STAT F.TLM_STAT_PLINKVER x.linkVer.toNat
  let s := if x.role == 2 && !roleIn then roleMismatch s else s
  let s := if roleOf s = rlRESOLVING ∧ (x.role = 2 ∨ roleIn) ∧ s.twin.decided.isNone then setRole s rlSTANDBY else s
  let s := if roleOf s = rlACTIVE ∧ x.role = 2 ∧ rd s R.TWN_EPOCH < x.epoch then setTwin s { s.twin with demote := true } else s
  heartbeatHandover s x

/-- HEARTBEAT_RECEIVED: one that is not valid for the last grid point is ignored (R332); the timebase follower
processes a valid one (R441). -/
def heartbeatReceived (s : State) (x : Heartbeat) (at_ : DWord) (roleIn : Bool) : State :=
  if !paired s || !linkUp s then s
  else
    let s := setRoleIn (advanceTo s at_) roleIn
    if x.grid.toNat = gridNow s % 65536 ∧ gridTime s ≤ at_.toNat ∧ at_.toNat < gridTime s + 5000 then follow (takeHeartbeat s x roleIn) x.tb at_ else s

/-! ## Slots and the decision (R332 to R335) -/

/-- The start-up wait of a RESOLVING module that has heard nothing is over (R333). -/
def startWaitOver (s : State) : Bool :=
  let w := fld s R.TWN_CFG F.TWN_CFG_STARTW * 100000
  let since := s.twin.since.toNat
  if isHome s then decide (since + w ≤ s.now.toNat)
  else decide (since + w + 50000000 ≤ s.now.toNat) &&
    (match s.twin.witness with | some t => decide (t.toNat + 1000000 < s.now.toNat) | none => true)

/-- The conditions of R333 at a slot's check. -/
def decides (s : State) (roleIn : Bool) : Bool :=
  let x := s.twin
  let none4 := x.slots.all (fun y => !y.2)
  waits s && x.decided.isNone && flag s R.TWN_CFG F.TWN_CFG_TKO_EN && x.slots.length == 4 && x.slots.all (fun y => y.1) && !roleIn &&
  (isHome s || none4 || (match x.hb with | some h => h.role == 0 | none => false)) &&
  (roleOf s != rlRESOLVING || x.heard || startWaitOver s)

/-- Decide to take the active role: the epoch is raised and written to the NVR; a refused raise leaves the role as it is (R334, R335). -/
def decide333 (s : State) : State :=
  let x := s.twin
  let reason := if roleOf s = rlRESOLVING ∧ !x.heard then 3 else if x.slots.all (fun y => !y.2) then 1 else 2
  let (s, ok) := raiseEpoch s
  if ok then setTwin s { s.twin with decided := some (reason, fld s R.TWN_STAT F.TWN_STAT_SILENT) } else s

/-- Record the slot of the last grid point: silent unless a valid heartbeat showed ACTIVE (R332). -/
def recordSlot (s : State) (silent heard : Bool) : State :=
  let x := s.twin
  let s := setTwin s { x with slots := ((silent, heard) :: x.slots).take 4, hbNow := none, hbSilent := x.hbSilent + b2n silent }
  setFld s R.TWN_STAT F.TWN_STAT_SILENT (if silent then satAdd 8 (fld s R.TWN_STAT F.TWN_STAT_SILENT) 1 else 0)

/-- LINK, and LINK_DOWN when slots become silent with ROLE_IN high (R333, R356). -/
def slotLink (s : State) (silent heard roleIn was : Bool) : State :=
  let s := setFld s R.TWN_STAT F.TWN_STAT_LINK (b2n (heard && !(waits s && silent && roleIn)))
  if waits s && silent && !was && roleIn then raiseBit s 0x88 3 else s

/-- A silent slot cancels a handover on the standby, and the loss of the partner's heartbeats on the active (R352). -/
def slotHandover (s : State) (silent heard : Bool) : State :=
  let lost := if roleOf s = rlSTANDBY then silent else roleOf s == rlACTIVE && !heard
  if lost && (s.twin.hoTick.isSome || s.twin.hoReq) then cancelHandover s else s

/-- SLOT_CHECK: 50 µs after the grid point. -/
def slotCheck (s : State) (roleIn : Bool) : State :=
  if !paired s then s
  else
    let s := setRoleIn (advanceTo s (BitVec.ofNat 64 (gridTime s + 5000))) roleIn
    let heard := s.twin.hbNow.isSome
    let silent := match s.twin.hbNow with | some h => h.role != 2 | none => true
    let was := match s.twin.slots with | y :: _ => y.1 | [] => false
    let s := slotLink (recordSlot s silent heard) silent heard roleIn was
    let s := if roleOf s == rlRESOLVING && roleIn && s.twin.decided.isNone then setRole s rlSTANDBY else s
    let s := slotHandover s silent heard
    if decides s roleIn then decide333 s else s

/-! ## Entering and leaving the active role (R336, R351, R352) -/

/-- The next tick boundary. -/
def nextBoundary (s : State) : DWord := BitVec.ofNat 64 (s.nextTick * 100000)

/-- Items of the mirror that no longer apply when a role is entered. -/
def clearMirror (s : State) : State :=
  setTwin s { s.twin with xch := [], config := [], force := [], energy := [], runs := [], grans := [], shadow := [], records := [], queue := []
                          nets := [], ebase := [], lastTick := none, bulking := false, stopped := false, slots := [], decided := none, demote := false
                          cutAt := s.now }

/-- An exchange STAGED or WAITING whose tick no XCH item named returns to STAGED with RESULT BUSY (R351). -/
def dropUnnamed (s : State) : State :=
  if (xchState s = xsSTAGED ∨ xchState s = xsWAITING) ∧ s.twin.named.isNone then setFld (setXchState s xsSTAGED) R.XCH_STATUS F.XCH_STATUS_RESULT (codeNum .busy)
  else s

/-- Enter the active role at a tick boundary: SYNC leaves SYNCED, the mode follows the partner's (R351). -/
def becomeActive (s : State) (reason : Nat) : State :=
  let safe := match s.twin.hb with | some h => h.mode == 6 | none => false
  let s := setRole (setSync (clearMirror (dropUnnamed (discardRequest s))) syUNSYNCED) rlACTIVE
  changeMode (cancelHandover s) (if safe then mdSAFE else mdACTIVE) reason

/-- Record a takeover (TWN_TKO, TWN_TKOTB). -/
def recordTakeover (s : State) (reason silent : Nat) : State :=
  let cold := b2n (syncOf s != sySYNCED)
  let s := wr s R.TWN_TKO (BitVec.ofNat 32 (2 ^ 31 + cold * 2 ^ 30 + fld s R.TWN_STAT F.TWN_STAT_PROLE * 2 ^ 21 + silent * 2 ^ 8 + reason))
  wr (wr s (R.TWN_TKOTB 0) (s.now.setWidth 32)) (R.TWN_TKOTB 1) ((s.now >>> 32).setWidth 32)

/-- ENTER_ACTIVE_ROLE: at the first tick boundary after the decision. TAKEOVER rises where the role before was STANDBY (R328). -/
def enterActiveRole (s : State) : State :=
  match s.twin.decided with
  | none => s
  | some (reason, silent) =>
    let s := advanceTo s (nextBoundary s)
    let takeover := roleOf s == rlSTANDBY
    let s := becomeActive (recordTakeover s reason silent) 2
    if takeover then raiseBit (setFld s R.TWN_STAT F.TWN_STAT_TAKEOVER 1) 0x88 1 else s

/-- Leave the active role for STANDBY. -/
def becomeStandby (s : State) (reason sync : Nat) : State :=
  let s := setSync (setRole (clearMirror (cancelHandover (discardRequest s))) rlSTANDBY) sync
  changeMode (setTwin s { s.twin with heard := true }) mdSTANDBY reason

/-- DEMOTION (R336), at the next tick boundary. -/
def demotion (s : State) : State :=
  if !s.twin.demote then s
  else
    let s := becomeStandby (advanceTo s (nextBoundary s)) 4 syUNSYNCED
    raiseBit (setFld s R.TWN_STAT F.TWN_STAT_DEMOTED 1) 0x88 2

/-- Revertive returns of the last 60 minutes (R354). -/
def recentReturns (s : State) : List Nat := s.twin.returns.filter (fun t => decide (calSeconds s < t + 3600))

/-- A revertive return is recorded; the third within 60 minutes suspends them (R354). -/
def recordReturn (s : State) : State :=
  let s := setTwin s { s.twin with returns := calSeconds s :: recentReturns s }
  if 3 ≤ (recentReturns s).length then raiseBit (setFld s R.TWN_STAT F.TWN_STAT_REV_SUSP 1) 0x88 7 else s

/-- HANDOVER_SWITCH: the named tick is the next boundary. -/
def handoverSwitch (s : State) : State :=
  match s.twin.hoTick with
  | none => s
  | some t =>
    if s.nextTick < t then s
    else
      let s := advanceTo s (nextBoundary s)
      if roleOf s = rlACTIVE then becomeStandby s 3 sySYNCED
      else if roleOf s = rlSTANDBY then
        let rev := s.twin.hoRev
        let (s, ok) := raiseEpoch s
        if ok then
          let s := becomeActive s 3
          if rev then recordReturn s else s
        else cancelHandover s
      else s

/-- What takes effect at the tick boundary before anything else: role changes, then a pending mode (R456, R458). -/
def settleBoundary (s : State) : State := settleMode (handoverSwitch (demotion (enterActiveRole s)))

/-! ## Commands of TWN_CMD (R328, R347, R352, R354) -/

/-- The standby of the pair is SYNCED and READY, as this module knows it. -/
def standbyReady (s : State) : Bool :=
  if roleOf s = rlSTANDBY then syncOf s == sySYNCED && ownHealth s == 0
  else match s.twin.hb with | some h => h.role == 3 && h.synced && h.health == 0 | none => false

/-- Full resynchronization. -/
def fullResync (s : State) : State := setSync (setTwin s { s.twin with queue := [], lastTick := none, ebase := [] }) syUNSYNCED

def twnCommand (s : State) (op : Nat) : State × Code :=
  if op = 1 then
    if (roleOf s != rlACTIVE && roleOf s != rlSTANDBY) || !linkUp s || !standbyReady s then (s, .notInState)
    else (setTwin s { s.twin with hoReq := true }, .none)
  else if op = 2 then
    if !s.twin.hoReq ∧ s.twin.hoTick.isNone then (s, .sequence)
    else match s.twin.hoTick with
      | some t => if t * 100000 ≤ s.now.toNat + 100000 then (s, .busy) else (cancelHandover s, .none)
      | none => (cancelHandover s, .none)
  else if op = 3 then (setFld (setTwin s { s.twin with returns := [] }) R.TWN_STAT F.TWN_STAT_REV_SUSP 0, .none)
  else if op = 4 then (setFld s R.TWN_STAT F.TWN_STAT_TAKEOVER 0, .none)
  else if op = 5 then (if roleOf s = rlSTANDBY then (fullResync s, .none) else (s, .notInState))
  else (s, .illegalValue)

/-- When the hold-off of R353 ends, for a home standby that counts. -/
def revertDue (s : State) : Option Nat :=
  if isHome s && roleOf s == rlSTANDBY && flag s R.TWN_CFG F.TWN_CFG_REVERT && !flag s R.TWN_STAT F.TWN_STAT_REV_SUSP &&
     syncOf s == sySYNCED && ownHealth s == 0 && paired s then
    some (max s.twin.syncAt.toNat s.twin.readyAt.toNat + fld s R.TWN_HOLDOFF F.TWN_HOLDOFF_SEC * 100000000)
  else none

/-- TWN_REV: returns counted and seconds left (R353, R354). -/
def twnRev (s : State) : Word :=
  let wait := match revertDue s with | some d => (d - s.now.toNat + 99999999) / 100000000 | none => 0
  BitVec.ofNat 32 (min 3 (recentReturns s).length * 2 ^ 28 + wait % 4096)

/-- REVERTIVE_REQUEST (R353). -/
def revertiveRequest (s : State) : State :=
  match revertDue s with
  | some d => if s.twin.sweeps = 0 ∨ s.twin.hoReq then s else
      let s := advanceTo s (BitVec.ofNat 64 d)
      setTwin s { s.twin with hoReq := true, hoRev := true }
  | none => s

/-! ## The link (R338, R347) -/

/-- The link is up on the lanes that trained. -/
def twinLinkUp (s : State) (lanes : Nat) : State :=
  let n := lanes &&& fld s R.TLM_CFG F.TLM_CFG_LANE0 + 2 * fld s R.TLM_CFG F.TLM_CFG_LANE1
  if n = 0 ∨ fld s (R.PG_STATE 0x7E) F.PG_STATE ≠ 2 ∨ !paired s then s
  else
    let s := if linkUp s then s else raiseBit s 0x7E 1
    setFld (setFld s R.TLM_STAT F.TLM_STAT_UP 1) R.TLM_STAT F.TLM_STAT_LANES n

/-- The link is lost: a standby falls to UNSYNCED, a handover is cancelled. -/
def twinLinkDown (s : State) : State :=
  let s := setFld (setFld s R.TLM_STAT F.TLM_STAT_UP 0) R.TLM_STAT F.TLM_STAT_LANES 0
  let s := if s.twin.hoReq ∨ s.twin.hoTick.isSome then cancelHandover s else s
  let s := setTwin s { s.twin with bulking := false }
  if waits s then fullResync s else s

/-! ## Forecast (R348 to R350) -/

/-- FLAGS of a Forecast record. -/
def forecastFlags (s : State) : Nat :=
  let x := s.twin
  let sticky := (x.flagsNow ||| x.flagsLast).toNat &&& 0x37E
  let lanes := fld s R.TLM_STAT F.TLM_STAT_LANES
  let link := flag s R.TWN_STAT F.TWN_STAT_LINK
  sticky + b2n x.mgmtSat + b2n (!link) * 2 ^ 7 + b2n (syncOf s != sySYNCED) * 2 ^ 10 + fld s R.TWN_STAT F.TWN_STAT_REV_SUSP * 2 ^ 11 +
  fld s R.TWN_STAT F.TWN_STAT_DEMOTED * 2 ^ 12 + b2n x.epochEnd * 2 ^ 13 + fld s R.TWN_TKO F.TWN_TKO_COLD * 2 ^ 14 +
  b2n (lanes == 1 || lanes == 2) * 2 ^ 15 + b2n (roleOf s == rlACTIVE && !link) * 2 ^ 16

/-- HEALTH for FLAGS (R350). -/
def healthOf (flags : Nat) : Nat :=
  if flags &&& 0x638 != 0 then 2 else if flags &&& 0x146 != 0 then 1 else 0

/-- BIST_DONE of a record: a standby's sweep has tested some engines, which no rule tells (assumption 7); else it is 0. -/
def bistDone (s : State) (w : Word) : Nat :=
  if flag s R.FCS_CFG F.FCS_CFG_BIST_EN && roleOf s == rlSTANDBY then (w &&& 0x7FFFF).toNat else 0

/-- The bytes of the Forecast record (R349). SWEEP_PCT, BIST_DONE and TJ are measurements: free values (assumption 7). -/
def forecastBytes (s : State) (pct bist tj : Word) : List Byte :=
  let x := s.twin
  let act := roleOf s == rlACTIVE
  let sh (n : Nat) : List Byte := leBytes 4 (if act then 0 else min 0xFFFFFFFF n)
  let flags := forecastFlags s
  let body : List Byte := [0x46, 0x43, 0x01, BitVec.ofNat 8 (roleOf s)] ++ leBytes 4 x.fcSeq ++ leBytes 8 s.now.toNat ++ leBytes 4 (rd s R.TWN_EPOCH).toNat ++
    [BitVec.ofNat 8 (modeNow s), BitVec.ofNat 8 (syncOf s), BitVec.ofNat 8 (pct.toNat % 101), BitVec.ofNat 8 (healthOf flags)] ++
    leBytes 4 flags ++ leBytes 4 x.sweeps ++ leBytes 4 x.sweepMs ++ sh x.shCompared ++ sh x.shIncomp ++ sh x.shMismatch ++ sh x.shLast.toNat ++
    leBytes 4 (bistDone s bist) ++ sh x.bistFail.toNat ++ leBytes 4 x.scrubCorr ++ leBytes 4 x.scrubUncorr ++ leBytes 4 x.katPass ++ leBytes 4 x.katFail ++
    leBytes 4 (min 0xFFFFFFFF x.mtrDiff) ++ [BitVec.ofNat 8 x.mtrCirc, 0, 0, 0] ++ leBytes 4 x.laneErr0 ++ leBytes 4 x.laneErr1 ++
    leBytes 4 x.hbSilent ++ leBytes 2 (min 0xFFFF x.mgmtDepth) ++ leBytes 2 tj.toNat ++ leBytes 4 x.mirMaxB ++ leBytes 4 (rd s R.MIR_BACKLOG).toNat ++
    List.replicate 144 0
  body ++ leBytes 4 (crc32 body).toNat

/-- A record's words in FCS_OWN or FCS_PART. -/
def putRecord (s : State) (key : Nat → Nat) (b : List Byte) : State :=
  forAll (fun s n => wr s (key n) (BitVec.ofNat 32 (leNat ((b.drop (4 * n)).take 4)))) (upTo 64) s

/-- FORECAST_PUBLISH: at a timebase multiple of 10,000,000. -/
def forecastPublish (s : State) : State :=
  let s := advanceTo s (BitVec.ofNat 64 ((s.now.toNat + 9999999) / 10000000 * 10000000))
  let was := ownHealth s
  let s := setTwin s { s.twin with fcSeq := s.twin.fcSeq + 1 }
  let (s, pct) := takeFree s
  let (s, bist) := takeFree s
  let (s, tj) := takeFree s
  let s := putRecord s R.FCS_OWN (forecastBytes s pct bist tj)
  let s := setTwin s { s.twin with mtrDiff := 0, mirMaxB := 0, mgmtDepth := 0, readyAt := if was ≠ 0 ∧ ownHealth s = 0 then s.now else s.twin.readyAt }
  let s := raiseBit s 0x8A 0
  if ownHealth s = was then s
  else
    let s := raiseBit s 0x8A 1
    if ownHealth s ≠ 0 ∧ roleOf s = rlSTANDBY ∧ (s.twin.hoReq ∨ s.twin.hoTick.isSome) then cancelHandover s else s

/-- FORECAST_RECEIVED: the partner's record. -/
def forecastReceived (s : State) (b : List Byte) : State :=
  if b.length ≠ 256 ∨ !linkUp s then s
  else
    let was := bits (rd s (R.FCS_PART 5)) 31 24
    let s := putRecord s R.FCS_PART b
    if bits (rd s (R.FCS_PART 5)) 31 24 = was then s else raiseBit s 0x8A 1

/-- A lane whose test error rate is too high leaves service (R349). -/
def laneFail (s : State) (lane : Nat) : State :=
  let n := fld s R.TLM_STAT F.TLM_STAT_LANES
  let s := raiseBit (noteFlag s 6) 0x7E 0
  if n.testBit lane ∧ n = 3 then setFld s R.TLM_STAT F.TLM_STAT_LANES (n - 2 ^ lane) else s

/-- SELF_TEST_SWEEP_END: a sweep is complete (R348, R349); FCS_CFG leaves tests out, and the active runs no logic BIST. -/
def sweepEnd (s : State) (r : SweepResult) : State :=
  let bist := flag s R.FCS_CFG F.FCS_CFG_BIST_EN && roleOf s != rlACTIVE
  let scrub := flag s R.FCS_CFG F.FCS_CFG_SCRUB_EN
  let kat := flag s R.FCS_CFG F.FCS_CFG_KAT_EN
  let x := s.twin
  let fail : Word := if bist then r.bistFail &&& 0x7FFFF else 0
  let s := setTwin s { x with sweeps := x.sweeps + 1, sweepMs := (s.now - x.sweepAt).toNat / 100000, sweepAt := s.now
                              bistFail := fail
                              laneErr0 := satAdd 32 x.laneErr0 (r.laneErr.getD 0 0), laneErr1 := satAdd 32 x.laneErr1 (r.laneErr.getD 1 0)
                              scrubCorr := satAdd 32 x.scrubCorr (if scrub then r.scrubCorr else 0), scrubUncorr := satAdd 32 x.scrubUncorr (if scrub then r.scrubUncorr else 0)
                              katPass := satAdd 32 x.katPass (if kat then r.katPass else 0), katFail := satAdd 32 x.katFail (if kat then r.katFail else 0) }
  let s := if fail != 0 then noteFlag s 3 else s
  let s := if scrub && r.scrubUncorr != 0 then noteFlag s 4 else s
  let s := if kat && r.katFail != 0 then noteFlag s 5 else s
  let s := bumpSat (bumpSat s R.TLM_LERR0 (r.laneErr.getD 0 0)) R.TLM_LERR1 (r.laneErr.getD 1 0)
  let s := if r.laneFail.getLsbD 0 then laneFail s 0 else s
  let s := if r.laneFail.getLsbD 1 then laneFail s 1 else s
  setTwin s { s.twin with flagsLast := s.twin.flagsNow, flagsNow := 0 }

/-! ## The commands -/

def twnGated (q : Requester) (op : Nat) (s : State) : Host.Outcome State Fault Refusal :=
  .next (gated s q 0x88 0x54 (fun s => endCommand 0x88 0x54 (twnCommand s op)))

/-- HEARTBEAT_SEND (R331). -/
def execHeartbeatSend (s : State) : Host.Outcome State Fault Refusal := .next (heartbeatSend s)
/-- HEARTBEAT_RECEIVED (R331, R332): `at_` is its arrival, `roleIn` the level of ROLE_IN. -/
def execHeartbeatReceived (x : Heartbeat) (at_ : DWord) (roleIn : Bool) (s : State) : Host.Outcome State Fault Refusal :=
  .next (heartbeatReceived s x at_ roleIn)
/-- SLOT_CHECK (R332, R333). -/
def execSlotCheck (roleIn : Bool) (s : State) : Host.Outcome State Fault Refusal := .next (slotCheck s roleIn)
/-- ENTER_ACTIVE_ROLE (R351). -/
def execEnterActiveRole (s : State) : Host.Outcome State Fault Refusal := .next (enterActiveRole s)
/-- ROLE_KEEPER_EXPIRY (R327). -/
def execRoleKeeperExpiry (s : State) : Host.Outcome State Fault Refusal := .next (roleKeeper s)
/-- DEMOTION (R336). -/
def execDemotion (s : State) : Host.Outcome State Fault Refusal := .next (demotion s)
/-- LINK_PACKET_RETRY (R338): a packet received with a CRC error, or one retransmitted. -/
def execLinkPacketRetry (received : Bool) (s : State) : Host.Outcome State Fault Refusal :=
  .next (bumpSat s (if received then R.TLM_CRC else R.TLM_RETRY) 1)
/-- FORECAST_PUBLISH (R348). -/
def execForecastPublish (s : State) : Host.Outcome State Fault Refusal := .next (forecastPublish s)
/-- FORECAST_RECEIVED (R349). -/
def execForecastReceived (bytes : List Byte) (s : State) : Host.Outcome State Fault Refusal := .next (forecastReceived s bytes)
/-- SELF_TEST_SWEEP_END (R348). -/
def execSelfTestSweepEnd (x : SweepResult) (s : State) : Host.Outcome State Fault Refusal := .next (sweepEnd s x)
/-- HANDOVER (R352). -/
def execHandover (q : Requester) (s : State) : Host.Outcome State Fault Refusal := twnGated q 1 s
/-- HANDOVER_SWITCH (R352). -/
def execHandoverSwitch (s : State) : Host.Outcome State Fault Refusal := .next (handoverSwitch s)
/-- CANCEL_HO (R352). -/
def execCancelHo (q : Requester) (s : State) : Host.Outcome State Fault Refusal := twnGated q 2 s
/-- REARM_REV (R354). -/
def execRearmRev (q : Requester) (s : State) : Host.Outcome State Fault Refusal := twnGated q 3 s
/-- CLR_TKO (R328). -/
def execClrTko (q : Requester) (s : State) : Host.Outcome State Fault Refusal := twnGated q 4 s
/-- RESYNC (R347). -/
def execResync (q : Requester) (s : State) : Host.Outcome State Fault Refusal := twnGated q 5 s
/-- REVERTIVE_REQUEST (R353). -/
def execRevertiveRequest (s : State) : Host.Outcome State Fault Refusal := .next (revertiveRequest s)
/-- CLAIS_LINK_UP (R347): the lanes that completed training. -/
def execClaisLinkUp (lanes : BitVec 2) (s : State) : Host.Outcome State Fault Refusal := .next (twinLinkUp s lanes.toNat)
/-- CLAIS_LINK_DOWN (R347). -/
def execClaisLinkDown (s : State) : Host.Outcome State Fault Refusal := .next (twinLinkDown s)
/-- MODE_CHANGE (R456): a pending mode takes effect at the next tick boundary. -/
def execModeChange (s : State) : Host.Outcome State Fault Refusal :=
  .next (if s.wake || flag s R.SYS_MODE F.SYS_MODE_PEND then settleBoundary (advanceTo s (nextBoundary s)) else s)

end Sys2Proof.Machine
end

