-- ==== Sys2Proof/Machine/Nor.lean ====
section
/-! DEFINITION. The NOR: Pattern containers (R474 to R476), the BOOT_S stores (R479), the XSPI commands (R486), and the update journal
(R494); DRAM refresh (R480) and island clocks (R481, R482). -/

namespace Sys2Proof.Machine

/-- The first address of the NOR window. -/
def norBase : Nat := 0x30000000

/-- The modes in which hosts write the NOR: COMMISSION, ACTIVE, STANDBY, SAFE and DOZE. -/
def serviceMode (s : State) : Bool := pageIn (modeNow s) mdCOMMISSION mdDOZE

/-- An interrupted or failed erase or program leaves a NOR range undefined (assumption 6). -/
def tornNor (s : State) (off n : Nat) : State :=
  let s := { s with norGen := s.norGen + 1 }
  putBytes s (norBase + off) ((upTo n).map (fun i => Config.norByte s.norGen (off + i)))

/-- Store bytes at a NOR offset in whole 4 KiB sectors; the rest of the last sector is erased. -/
def storeNor (s : State) (off : Nat) (b : List Byte) : State :=
  putBytes s (norBase + off) (b ++ List.replicate ((4096 - b.length % 4096) % 4096) 0xFF)

/-! ## Patterns (R475, R476) -/

/-- The header of a Pattern. -/
structure PatHead where
  commission : Bool
  seq : Nat
  total : Nat
  key : Nat
  flkOff : Nat
  pntOff : Nat
  pntN : Nat
  mldOff : Nat
  mldN : Nat
  regOff : Nat
  regN : Nat
  tskOff : Nat

/-- The header at an address. -/
def patHead (s : State) (a : Nat) : PatHead :=
  { commission := loadN s (a + 6) 2 % 2 == 1, seq := loadN s (a + 8) 4, total := loadN s (a + 0xC) 4, key := (byteAt s (a + 0x10)).toNat
    flkOff := loadN s (a + 0x18) 4, pntOff := loadN s (a + 0x1C) 4, pntN := loadN s (a + 0x20) 4, mldOff := loadN s (a + 0x24) 4
    mldN := loadN s (a + 0x28) 4, regOff := loadN s (a + 0x2C) 4, regN := loadN s (a + 0x30) 4, tskOff := loadN s (a + 0x34) 4 }

/-- The sections with their lengths. -/
def patSections (h : PatHead) : List (Nat × Nat) :=
  [(h.flkOff, 128), (h.pntOff, 8 * h.pntN), (h.mldOff, 16 * h.mldN), (h.regOff, 8 * h.regN), (h.tskOff, 1024)]

/-- MAGIC at an address: a copy is present. -/
def patPresent (s : State) (a : Nat) : Bool := bytesAt s a 4 == [0x50, 0x41, 0x54, 0x4E]

/-- R476 on the container at an address, within `limit` bytes. -/
def patOk (s : State) (a limit : Nat) : Bool :=
  let h := patHead s a
  let k := slotAt s h.key
  patPresent s a && loadN s (a + 4) 2 == 1 && h.total % 16 == 0 && decide (80 ≤ h.total) && decide (h.total ≤ min limit 0x100000) &&
  decide (h.pntN ≤ 8192) && decide (h.mldN ≤ 32) && decide (h.regN ≤ 65535) &&
  (patSections h).all (fun (o, n) => o % 16 == 0 && decide (0x50 ≤ o) && decide (o + n ≤ h.total)) && disjoint (patSections h) &&
  keyLive s h.key && decide (attrAlg k.attr ≤ 1) && attrUsage k.attr == usDEC && attrOwner k.attr == 0 && attrPersist k.attr &&
  aesCmac (aesKeyOf k) (bytesAt s a 64 ++ List.replicate 16 0 ++ bytesAt s (a + 80) (h.total - 80)) == bytesAt s (a + 64) 16

/-- The address of a Pattern copy. -/
def patCopy (n : Nat) : Nat := norBase + 0x1000000 + n * 0x100000

/-! ## The journal (R494) -/

/-- A valid record of the journal: its index, TYPE, JSEQ and DIGEST. -/
structure JRec where
  idx : Nat
  type : Nat
  jseq : Nat
  digest : List Byte

/-- The record at an index, when its MAGIC and CRC hold. -/
def jrecAt (s : State) (i : Nat) : Option JRec :=
  let b := bytesAt s (norBase + 32 * i) 32
  if b.take 2 = [0x4A, 0x52] ∧ leNat (b.drop 28) = (crc32 (b.take 28)).toNat then
    some { idx := i, type := (b.getD 2 0).toNat, jseq := leNat (sliceD 0 b 4 4), digest := sliceD 0 b 8 16 }
  else none

/-- The valid record with the highest JSEQ. -/
def lastJrec (s : State) : Option JRec :=
  (upTo 2048).foldl (fun best i =>
    match jrecAt s i, best with
    | some r, some b => if b.jseq < r.jseq then some r else some b
    | some r, none => some r
    | none, b => b) none

def journalOpen (s : State) : Bool := match lastJrec s with | some r => r.type == 1 | none => false

/-- The place of the next record: the next erased one in the half in use, or the start of the other half, which is erased first. -/
def jplace (s : State) : State × Nat :=
  let i := match lastJrec s with | some r => r.idx + 1 | none => 0
  let half := (i - b2n (lastJrec s).isSome) / 1024
  match (upTo 1024).find? (fun j => decide (i ≤ half * 1024 + j) && (bytesAt s (norBase + 32 * (half * 1024 + j)) 32).all (· == 0xFF)) with
  | some j => (s, half * 1024 + j)
  | none => (fillBytes s (norBase + (1 - half) * 32768) 32768 0xFF, (1 - half) * 1024)

/-- Append a record: 1 OPEN, 2 CLOSE. -/
def appendJrec (s : State) (type : Nat) (digest : List Byte) : State :=
  let n := match lastJrec s with | some r => r.jseq + 1 | none => 1
  let (s, i) := jplace s
  let b : List Byte := [0x4A, 0x52, BitVec.ofNat 8 type, 0] ++ leBytes 4 n ++ digest.take 16 ++ [0, 0, 0, 0]
  putBytes s (norBase + 32 * i) (b ++ leBytes 4 (crc32 b).toNat)

/-- UPD_STAT.JOPEN shows the journal. -/
def showJournal (s : State) : State := setFld s R.UPD_STAT F.UPD_STAT_JOPEN (b2n (journalOpen s))

/-! ## BOOT_S stores (R479) -/

def setBoot (s : State) (b : Boot) : State := { s with boot := b }

/-- The copy that a PATTERN store writes: the one that the module did not boot from; copy 0 where it booted from none. -/
def spareCopy (s : State) : Nat :=
  let w := rd s R.BOOT_PATSTAT
  if bits w 1 0 ≠ 2 ∧ bits w 5 4 ≠ 2 then 0 else 1 - bits w 8 8

/-- A write of BOOT_SCMD. -/
def storeStart (s : State) (v : Word) : State × Code :=
  let op := bits v 1 0
  let j : NorJob := { op := op, src := (rd s R.BOOT_SSRC).toNat, off := (rd s R.BOOT_SOFF).toNat, len := (rd s R.BOOT_SLEN).toNat }
  if bits v 31 2 ≠ 0 then (s, .reservedBits)
  else if op = 0 ∨ op = 3 then (s, .illegalValue)
  else if !serviceMode s then (s, .notInState)
  else if s.boot.store.isSome ∨ flag s R.UPD_STAT F.UPD_STAT_JOPEN then (s, .busy)
  else if !inDram s j.src j.len ∨ j.len < 16 ∨ (op = 1 ∧ 0x100000 < j.len) ∨
      (op = 2 ∧ (j.off % 4096 ≠ 0 ∨ j.off < 0x1200000 ∨ (rd s R.XSPI_SIZE).toNat < j.off + j.len)) then (s, .illegalValue)
  else
    let j := if op = 1 then { j with off := 0x1000000 + spareCopy s * 0x100000 } else j
    (wr (setBoot s { s.boot with store := some j }) R.BOOT_SSTAT 0x80000000, .none)

/-- BOOT_STORE_COMPLETE: a PATTERN is checked before it is written. -/
def storeComplete (s : State) : State :=
  match s.boot.store with
  | none => s
  | some j =>
    let c : Code := if j.op = 2 then .none
      else if !patOk s j.src j.len then .auth
      else if (patHead s j.src).seq ≤ (rd s R.BOOT_PATSEQ).toNat then .sequence
      else .none
    let s := if c = .none then storeNor s j.off (bytesAt s j.src j.len) else s
    raise (wr (setBoot s { s.boot with store := none }) R.BOOT_SSTAT (BitVec.ofNat 32 (codeNum c))) 0x02 (if c = .none then 1 else 3)

/-! ## XSPI commands (R486, R487) -/

/-- Whether a range lies within one row of R486's table, and which. -/
def xspiRow (s : State) (off len : Nat) : Nat :=
  if off + len ≤ 0x1000000 then 1
  else if 0x1000000 ≤ off ∧ off + len ≤ 0x1200000 then 2
  else if 0x1200000 ≤ off ∧ off + len ≤ (rd s R.XSPI_SIZE).toNat then 3
  else 0

/-- A write of XSPI_CMD. -/
def xspiStart (s : State) (v : Word) : State × Code :=
  let op := bits v 1 0
  let j : NorJob := { op := op, src := (rd s R.XSPI_SRC).toNat, off := (rd s R.XSPI_OFF).toNat, len := (rd s R.XSPI_LEN).toNat }
  let row := xspiRow s j.off j.len
  if bits v 31 2 ≠ 0 then (s, .reservedBits)
  else if op = 0 then (s, .illegalValue)
  else if s.boot.xspi.isSome ∨ s.boot.store.isSome then (s, .busy)
  else if !serviceMode s ∨ (op ≠ 3 ∧ row = 1 ∧ modeNow s ≠ mdCOMMISSION) then (s, .notInState)
  else if row = 0 ∨ (op ≠ 3 ∧ row = 2) ∨ j.len = 0 ∨ (op = 1 ∧ (j.off % 4096 ≠ 0 ∨ j.len % 4096 ≠ 0)) ∨
      (op ≠ 1 ∧ (j.off % 256 ≠ 0 ∨ j.len % 256 ≠ 0 ∨ !inDram s j.src j.len)) then (s, .illegalValue)
  else (wr (setBoot s { s.boot with xspi := some j }) R.XSPI_STAT 0x80000000, .none)

/-- What an ERASE or PROGRAM leaves in its range. Below 0100_0000h with the journal open it is the misuse of R35: the stored image is
undefined. -/
def xspiEffect (s : State) (j : NorJob) (ok : Bool) : State :=
  if j.op = 3 then s
  else if j.off < 0x1000000 ∧ flag s R.UPD_STAT F.UPD_STAT_JOPEN then tornNor s 0x10000 0xFF0000
  else if !ok then tornNor s j.off j.len
  else if j.op = 1 then fillBytes s (norBase + j.off) j.len 0xFF
  else putBytes s (norBase + j.off) (List.zipWith (· &&& ·) (bytesAt s (norBase + j.off) j.len) (bytesAt s j.src j.len))

/-- XSPI_COMMAND_COMPLETE: `ok` says that the device did not fail. -/
def xspiComplete (s : State) (ok : Bool) : State :=
  match s.boot.xspi with
  | none => s
  | some j =>
    let differ := j.op == 3 && bytesAt s (norBase + j.off) j.len != bytesAt s j.src j.len
    let s := xspiEffect (setBoot s { s.boot with xspi := none }) j ok
    let w := b2n differ * 2 ^ 30 + (if ok then 0 else 65536) + (j.len + 4095) / 4096 % 65536
    raise (wr s R.XSPI_STAT (BitVec.ofNat 32 w)) 0x0D (if ok then 1 else 3)

/-! ## DRAM refresh and clocks -/

/-- MR4_POLL (R480): the multiplier that MR4 states, 1, 2 or 4 times. -/
def mr4Poll (s : State) (mult : Nat) : State :=
  if !flag s R.DDR_STAT F.DDR_STAT_TRAINED ∨ fld s R.DDR_STAT F.DDR_STAT_MULT = 2 ^ mult then s
  else raiseBit (setFld s R.DDR_STAT F.DDR_STAT_MULT (2 ^ mult)) 0x0C 0

/-- The domain of an island (R481). -/
def islandDomain (n : Nat) : Nat :=
  if n ≤ 1 then 1 else if n = 2 then 2 else if n ≤ 6 then 3 else if n ≤ 10 then 4 else if n ≤ 14 then 5 else if n ≤ 16 then 6
  else if n = 17 then 7 else if n ≤ 22 then 8 else if n = 23 then 9 else if n = 24 then 10 else if n ≤ 26 then 11
  else if n = 27 then 12 else 13

/-- An island's clock runs: its domain is in C0 or C1 and its PLL is locked. -/
def islandRuns (s : State) (n : Nat) : Bool :=
  bit (rd s R.CLK_LOCK) n && domSt s (islandDomain n) != 0 && decide (domC s (islandDomain n) ≤ 1)

/-- PLL_LOCK_LOSS (R482). -/
def pllLoss (s : State) (n : Nat) : State :=
  if !islandRuns s n then s
  else raiseBit (bumpSat (setBit (setBit s R.CLK_LOCK n false) R.CLK_UNLOCK n true) R.CLK_LOSSCNT 1) 0x03 0

/-- PLL_RELOCK (R482). -/
def pllRelock (s : State) (n : Nat) : State := if modeNow s = 0 then s else setBit s R.CLK_LOCK n true

/-! ## The commands -/

/-- BOOT_STORE_PATTERN (R479). -/
def execBootStorePattern (q : Requester) (s : State) : Host.Outcome State Fault Refusal :=
  .next (gated s q 0x02 0x60 (fun s => endCommand 0x02 0x60 (storeStart s 1)))
/-- BOOT_STORE_BLOB (R479). -/
def execBootStoreBlob (q : Requester) (s : State) : Host.Outcome State Fault Refusal :=
  .next (gated s q 0x02 0x60 (fun s => endCommand 0x02 0x60 (storeStart s 2)))
/-- BOOT_STORE_COMPLETE (R479). -/
def execBootStoreComplete (s : State) : Host.Outcome State Fault Refusal := .next (storeComplete s)
/-- XSPI_ERASE (R486). -/
def execXspiErase (q : Requester) (s : State) : Host.Outcome State Fault Refusal :=
  .next (gated s q 0x0D 0x54 (fun s => endCommand 0x0D 0x54 (xspiStart s 1)))
/-- XSPI_PROGRAM (R486). -/
def execXspiProgram (q : Requester) (s : State) : Host.Outcome State Fault Refusal :=
  .next (gated s q 0x0D 0x54 (fun s => endCommand 0x0D 0x54 (xspiStart s 2)))
/-- XSPI_VERIFY (R486). -/
def execXspiVerify (q : Requester) (s : State) : Host.Outcome State Fault Refusal :=
  .next (gated s q 0x0D 0x54 (fun s => endCommand 0x0D 0x54 (xspiStart s 3)))
/-- XSPI_COMMAND_COMPLETE (R486). -/
def execXspiCommandComplete (ok : Bool) (s : State) : Host.Outcome State Fault Refusal := .next (xspiComplete s ok)
/-- MR4_POLL (R480). -/
def execMr4Poll (mult : Fin 3) (s : State) : Host.Outcome State Fault Refusal := .next (mr4Poll s mult.val)
/-- PLL_LOCK_LOSS (R482). -/
def execPllLockLoss (n : Fin 32) (s : State) : Host.Outcome State Fault Refusal := .next (pllLoss s n.val)
/-- PLL_RELOCK (R482). -/
def execPllRelock (n : Fin 32) (s : State) : Host.Outcome State Fault Refusal := .next (pllRelock s n.val)

end Sys2Proof.Machine
end

