-- ==== Sys2Proof/Machine/Flags.lean ====
section
/-! DEFINITION. The status word of a task slot (R106): its sticky bits and the flags that float and integer results raise. -/

namespace Sys2Proof.Machine

/-- The sticky bits of the status word that instructions set (R106); IV, DZ, OF, UF and NX stand in Float.lean. -/
def flagDN : Nat := 1
def flagIOV : Nat := 64
def flagSAT : Nat := 128

/-- Set sticky bits. -/
def sticky (b : Bank) (f : Nat) : Bank := if f = 0 then b else { b with sticky := b.sticky ||| BitVec.ofNat 32 f }

/-- The status word: the sticky bits, and DEPTH in [20:16]. -/
def statusWord (b : Bank) : Word := b.sticky ||| BitVec.ofNat 32 (b.stack.length * 2 ^ 16)

/-- ST_CLR: clear each sticky bit whose bit in the mask is 1 (R125). -/
def clearSticky (b : Bank) (mask : Word) : Bank := { b with sticky := b.sticky &&& ~~~mask }

/-- A signed result held in 32 bits: the word, and whether it was clamped (R115). -/
def clampS (i : Int) : Word × Nat :=
  let v := clampInt (-2147483648) 2147483647 i
  (BitVec.ofInt 32 v, if v = i then 0 else flagSAT)

end Sys2Proof.Machine
end

