-- ==== Sys2Proof/Machine/Operands.lean ====
section
/-! DEFINITION. The operand forms of Cast code (R108) and what they reach: work registers, the two memory windows of a flask
(R109, R110), instance records (R130) and point IDs. -/

namespace Sys2Proof.Machine

/-- Trap codes of R139. -/
def tcILLEGAL : Nat := 1
def tcALIGN : Nat := 2
def tcMEM_RANGE : Nat := 3
def tcCODE_WRITE : Nat := 4
def tcDIV0 : Nat := 5
def tcSTACK : Nat := 6
def tcSPECIAL : Nat := 7
def tcRECORD : Nat := 8
def tcPOINT_RANGE : Nat := 9
def tcDEFER_FULL : Nat := 10
def tcBRK : Nat := 11

/-- A work register; w0 reads as 0 (R104). -/
def breg (b : Bank) (n : BitVec 4) : Word := if n = 0 then 0 else tget (fun _ => 0) b.w n.toNat

/-- Write a work register; a write to w0 is discarded (R104). -/
def bset (b : Bank) (n : BitVec 4) (v : Word) : Bank :=
  if n = 0 then b else { b with w := tput (fun _ => 0) b.w n.toNat v }

/-- The fetch address reduced modulo the code region's size, relative to its base (R122). -/
def reducePc (m : Mould) (pc : Word) : Word :=
  BitVec.ofNat 32 (m.codeAt + (((pc.toNat : Int) - m.codeAt) % (m.codeSize : Int)).toNat)

/-- Whether `n` bytes at `a` lie in the code window, and in the data window (R109). -/
def inCode (m : Mould) (a n : Nat) : Bool := decide (m.codeAt ≤ a) && decide (a + n ≤ m.codeAt + m.codeSize)
def inData (m : Mould) (a n : Nat) : Bool := decide (m.dataAt ≤ a) && decide (a + n ≤ m.dataAt + m.dataSize)

/-- The check of a load of `n` bytes: alignment first, then the windows (R110); 0 when it passes, else the trap code. -/
def loadCheck (m : Mould) (a n : Nat) : Nat :=
  if a % n ≠ 0 then tcALIGN else if inCode m a n || inData m a n then 0 else tcMEM_RANGE

/-- The check of a store of `n` bytes. -/
def storeCheck (m : Mould) (a n : Nat) : Nat :=
  if a % n ≠ 0 then tcALIGN else if inData m a n then 0 else if inCode m a n then tcCODE_WRITE else tcMEM_RANGE

/-- The address of a MEM-form operand (R110): base + w[S1] + DISP, wrapping. -/
def memAddr (m : Mould) (b : Bank) (o : MemForm) : Nat :=
  let base : Word := if o.bsel = 0 then 0 else if o.bsel = 1 then b.ib else if o.bsel = 2 then BitVec.ofNat 32 m.dataAt else b.pc
  (base + breg b o.s1 + o.disp.signExtend 32).toNat

/-- The address of a REC-form record (R130): IB + 16 × RECOFF. -/
def recAddr (b : Bank) (o : RecForm) : Nat := (b.ib + BitVec.ofNat 32 (16 * o.off.toNat)).toNat

/-- The point ID of a PNT-form operand: w[index] + PID, unsigned in 32 bits. -/
def pntId (b : Bank) (o : PntForm) : Nat := (breg b o.index + o.pid.setWidth 32).toNat

/-- The target of a BR-form operand: PC + 4 × IMM, sign-extended (R121). -/
def brTarget (b : Bank) (imm : BitVec 18) : Word := b.pc + 4 * imm.signExtend 32

end Sys2Proof.Machine
end

