-- ==== Sys2Proof/Machine/Cast.lean ====
section
/-! DEFINITION. How a Cast instruction issues and retires (R108, R139, R140): the context it runs in, its outcome, the time it
takes, the watchdog at its boundary and the cut-off of a trap. -/

namespace Sys2Proof.Machine

/-- What an instruction of a running task sees: the machine, the task, its mould and entry, its run and its bank. -/
structure CastCtx where
  s : State
  t : Nat
  m : Mould
  r : Run
  b : Bank
  deriving DecidableEq, Repr

/-- How an instruction ends: it traps with a code after its cycles; goes on; ends the program step; or stops at a BRK. -/
inductive CastRes where
  | trap (code cycles : Nat)
  | next (c : CastCtx) (cycles : Nat)
  | finish (c : CastCtx) (cycles : Nat)
  | hold (c : CastCtx)

/-- The time of a run grows by an instruction's cycles, 1 ns each (R140). -/
def runFor (r : Run) (cycles : Nat) : Run := { r with execNs := r.execNs + cycles }

/-- At an instruction boundary the watchdog cuts the run off when its time is up (R86). -/
def boundary (s : State) (t : Nat) (b : Bank) (r : Run) : State :=
  let s := setTask s t { taskAt s t with bank := b, run := some r }
  if watchdogHit s t r then watchdogCut s t else s

/-- Retire an instruction of a task. -/
def castRetire (c : CastCtx) : CastRes → State
  | .trap code cycles =>
    let s := setTask c.s c.t { taskAt c.s c.t with bank := c.b, run := some (runFor c.r cycles) }
    cutOff s c.t 4 (BitVec.ofNat 32 ((c.b.pc.toNat - c.m.codeAt) / 4 * 2 ^ 8 + code))
  | .next d cycles => boundary d.s d.t d.b (runFor d.r cycles)
  | .finish d cycles => boundary d.s d.t d.b { runFor d.r cycles with step := .writeBack }
  | .hold d =>
    let s := setTask d.s d.t { taskAt d.s d.t with bank := d.b, run := some { d.r with stopped := true } }
    setFld s R.DBG_HOLD F.DBG_HOLD_STOPPED (fld s R.DBG_HOLD F.DBG_HOLD_STOPPED ||| 2 ^ taskCore s d.t)

/-- The context of a task that is running in its program step and not stopped at a BRK; its fetch address is reduced (R122). -/
def castCtx (s : State) (t : Nat) : Option CastCtx :=
  match (taskAt s t).run, taskEntry s t with
  | some r, some (m, _) =>
    if taskStateOf s t = tsRUNNING ∧ r.step = .program ∧ !r.stopped then
      let b := (taskAt s t).bank
      some { s := s, t := t, m := m, r := r, b := { b with pc := reducePc m b.pc } }
    else none
  | _, _ => none

/-- Execute an instruction on a task: the field checks of R108 come first and trap with ILLEGAL after 1 cycle. A task that is not
in its program step executes nothing. -/
def castStep (t : Fin 64) (legal : Bool) (body : CastCtx → CastRes) (s : State) : State :=
  match castCtx s t.val with
  | some c => castRetire c (if legal then body c else .trap tcILLEGAL 1)
  | none => s

/-- The context at the following instruction. -/
def castAdv (c : CastCtx) : CastCtx := { c with b := { c.b with pc := c.b.pc + 4 } }

/-- Write a work register, raise flags and go on. -/
def castSet (c : CastCtx) (d : BitVec 4) (v : Word) (flags cycles : Nat) : CastRes :=
  .next (castAdv { c with b := sticky (bset c.b d v) flags }) cycles

/-- Store bytes into the data window: the granules of RETAIN instances they touch become dirty (R111). -/
def castStore (c : CastCtx) (a : Nat) (l : List Byte) : CastCtx :=
  { c with s := putBytes c.s a l, r := { c.r with dirty := markDirty c.m c.r.dirty a l.length } }

end Sys2Proof.Machine
end

