-- ==== Sys2Proof/Machine/CastFlow.lean ====
section
/-! DEFINITION. Branches, calls, system functions and halts: opcodes 28h to 33h and 3Fh (R121 to R126, R138). -/

namespace Sys2Proof.Machine

/-- Continue at a target: a branch taken takes 3 cycles, one not taken 1 (R140). -/
def castBranch (t : Fin 64) (o : BrForm) (cond : Word → Word → Bool) (s : State) : State :=
  castStep t true (fun c =>
    if cond (breg c.b o.a) (breg c.b o.b) then .next { c with b := { c.b with pc := brTarget c.b o.imm } } 3
    else .next (castAdv c) 1) s

def execBeq (t : Fin 64) (o : BrForm) (s : State) : Host.Outcome State Fault Refusal := .next (castBranch t o (fun a b => a == b) s)
def execBne (t : Fin 64) (o : BrForm) (s : State) : Host.Outcome State Fault Refusal := .next (castBranch t o (fun a b => a != b) s)
def execBlt (t : Fin 64) (o : BrForm) (s : State) : Host.Outcome State Fault Refusal := .next (castBranch t o (fun a b => a.slt b) s)
def execBge (t : Fin 64) (o : BrForm) (s : State) : Host.Outcome State Fault Refusal := .next (castBranch t o (fun a b => !a.slt b) s)
def execBltu (t : Fin 64) (o : BrForm) (s : State) : Host.Outcome State Fault Refusal := .next (castBranch t o (fun a b => a.ult b) s)
def execBgeu (t : Fin 64) (o : BrForm) (s : State) : Host.Outcome State Fault Refusal := .next (castBranch t o (fun a b => !a.ult b) s)

/-- JMP (R121): continue at PC + 4 × (IMM + w[B]). -/
def execJmp (t : Fin 64) (o : BrForm) (s : State) : Host.Outcome State Fault Refusal :=
  .next (castStep t (o.a == 0) (fun c =>
    .next { c with b := { c.b with pc := c.b.pc + 4 * (o.imm.signExtend 32 + breg c.b o.b) } } 3) s)

/-- Push a frame and continue at a target with a new instance base (R123). -/
def castCall (c : CastCtx) (inst : BitVec 4) (target : Word) : CastRes :=
  if 16 ≤ c.b.stack.length then .trap tcSTACK 4
  else
    let ib := if inst = 0 then c.b.ib else breg c.b inst
    .next { c with b := { c.b with pc := target, ib := ib, stack := (c.b.pc + 4, c.b.ib) :: c.b.stack } } 4

/-- CALL (R123). -/
def execCall (t : Fin 64) (o : BrForm) (s : State) : Host.Outcome State Fault Refusal :=
  .next (castStep t (o.b == 0) (fun c => castCall c o.a (brTarget c.b o.imm)) s)
/-- CALLR (R123, R124): a misaligned target traps first. -/
def execCallr (t : Fin 64) (o : RegForm) (s : State) : Host.Outcome State Fault Refusal :=
  .next (castStep t (o.s2 == 0 && o.x == 0) (fun c =>
    if (breg c.b o.s1).toNat % 4 ≠ 0 then .trap tcALIGN 4 else castCall c o.d (breg c.b o.s1)) s)
/-- RET (R123): pop a frame, or end the program step. -/
def castRet (c : CastCtx) : CastRes :=
  match c.b.stack with
  | (ra, ib) :: r => .next { c with b := { c.b with pc := ra, ib := ib, stack := r } } 4
  | [] => .finish c 4
def execRet (t : Fin 64) (o : RegForm) (s : State) : Host.Outcome State Fault Refusal :=
  .next (castStep t (o.d == 0 && o.s1 == 0 && o.s2 == 0 && o.x == 0) castRet s)

/-- SYS (R125): IMM[17:8] must be 0, IMM[7:0] is the function that the command names, and S1 is used by ST_CLR alone (R108). -/
def sysLegal (o : ImmForm) : Bool := decide (o.imm.toNat < 256) && o.s1 == 0
def castSys (t : Fin 64) (o : ImmForm) (v : CastCtx → Word) (s : State) : State :=
  castStep t (sysLegal o) (fun c => castSet c o.d (v c) 0 2) s
def lowWord (v : DWord) : Word := v.setWidth 32
def highWord (v : DWord) : Word := (v >>> 32).setWidth 32

def execSysRelLo (t : Fin 64) (o : ImmForm) (s : State) : Host.Outcome State Fault Refusal := .next (castSys t o (fun c => lowWord c.r.release) s)
def execSysRelHi (t : Fin 64) (o : ImmForm) (s : State) : Host.Outcome State Fault Refusal := .next (castSys t o (fun c => highWord c.r.release) s)
/-- TB_LO captures the high word of the timebase for TB_HI. -/
def execSysTbLo (t : Fin 64) (o : ImmForm) (s : State) : Host.Outcome State Fault Refusal :=
  .next (castStep t (sysLegal o) (fun c => castSet { c with b := { c.b with tbHi := highWord c.s.now } } o.d (lowWord c.s.now) 0 2) s)
def execSysTbHi (t : Fin 64) (o : ImmForm) (s : State) : Host.Outcome State Fault Refusal := .next (castSys t o (fun c => c.b.tbHi) s)
def execSysSt (t : Fin 64) (o : ImmForm) (s : State) : Host.Outcome State Fault Refusal := .next (castSys t o (fun c => statusWord c.b) s)
def execSysStClr (t : Fin 64) (o : ImmForm) (s : State) : Host.Outcome State Fault Refusal :=
  .next (castStep t (decide (o.imm.toNat < 256) && o.d == 0) (fun c =>
    .next (castAdv { c with b := clearSticky c.b (breg c.b o.s1) }) 2) s)
def execSysTask (t : Fin 64) (o : ImmForm) (s : State) : Host.Outcome State Fault Refusal :=
  .next (castSys t o (fun c => BitVec.ofNat 32 (taskFlask c.s c.t * 256 + c.t)) s)
def execSysMode (t : Fin 64) (o : ImmForm) (s : State) : Host.Outcome State Fault Refusal :=
  .next (castSys t o (fun c => BitVec.ofNat 32 (modeNow c.s)) s)
def execSysRuns (t : Fin 64) (o : ImmForm) (s : State) : Host.Outcome State Fault Refusal :=
  .next (castSys t o (fun c => rd c.s (R.SCN_TRUNS c.t)) s)
/-- DT: whole ms between the release timestamps of the previous completed run and of this one. -/
def sysDt (c : CastCtx) : Word :=
  match (taskAt c.s c.t).prevDone with
  | some p => BitVec.ofNat 32 (min 0x7FFFFFFF ((c.r.release - p).toNat / 100000))
  | none => 0
def execSysDt (t : Fin 64) (o : ImmForm) (s : State) : Host.Outcome State Fault Refusal := .next (castSys t o sysDt s)

/-- HLT (R138): D and S1 must be 0; IMM[17:16] is the function that the command names. -/
def hltLegal (o : ImmForm) : Bool := o.d == 0 && o.s1 == 0
def execHltEnd (t : Fin 64) (o : ImmForm) (s : State) : Host.Outcome State Fault Refusal :=
  .next (castStep t (hltLegal o && o.imm.toNat % 2 ^ 16 == 0) (fun c => .finish c 1) s)
def execHltTrap (t : Fin 64) (o : ImmForm) (s : State) : Host.Outcome State Fault Refusal :=
  .next (castStep t (hltLegal o && decide (0x80 ≤ o.imm.toNat % 2 ^ 16) && decide (o.imm.toNat % 2 ^ 16 ≤ 0xFF))
    (fun _ => .trap (o.imm.toNat % 256) 1) s)

/-- A debug session is open and holds the core (R414). -/
def coreHeld (s : State) (c : Nat) : Bool :=
  flag s R.DBG_STAT F.DBG_STAT_SESSION && (fld s R.DBG_HOLD F.DBG_HOLD_HOLD).testBit c
/-- BRK (R138). R140 gives it no count: a free value, assumption 7. -/
def castBrk (c : CastCtx) : CastRes :=
  if coreHeld c.s (taskCore c.s c.t) then .hold c else .trap tcBRK (Config.freeWord c.s.free).toNat
def execHltBrk (t : Fin 64) (o : ImmForm) (s : State) : Host.Outcome State Fault Refusal :=
  .next (castStep t (hltLegal o && o.imm.toNat % 2 ^ 16 == 0) castBrk { s with free := s.free + 1 })

/-- DBG_GO resumes the stopped task of a core at the instruction after its BRK (R414). -/
def debugGo (s : State) (core : Nat) : State :=
  let stopped := fld s R.DBG_HOLD F.DBG_HOLD_STOPPED
  if stopped.testBit core then
    let t := curTask s core
    let x := taskAt s t
    let s := setTask s t { x with run := x.run.map (fun r => { r with stopped := false }), bank := { x.bank with pc := x.bank.pc + 4 } }
    setFld s R.DBG_HOLD F.DBG_HOLD_STOPPED (stopped - 2 ^ core)
  else s

end Sys2Proof.Machine
end

