-- ==== Sys2Proof/Machine/Crucible.lean ====
section
/-! DEFINITION. The Crucible (R401 to R424): slots and generations, its commands, the key store, re-masking, and crypto jobs. -/

namespace Sys2Proof.Machine

/-! ## Slots -/

def cruSealed (s : State) : Bool := flag s R.CRU_STAT F.CRU_STAT_SEALED
def debugRoot (s : State) : Bool := flag s R.CRU_STAT F.CRU_STAT_DEBUG_ROOT
def setCrypto (s : State) (x : Crypto) : State := { s with crypto := x }

/-- Random bytes of the DRBG (assumption 8). -/
def drawBytes (s : State) (n : Nat) : State × List Byte :=
  ({ s with drawn := s.drawn + n }, (upTo n).map (fun i => Config.randomByte (s.drawn + i)))

/-- A slot's key is lost at the end of the Crucible's power: it is not persistent, or debug is active (R411). -/
def volatileSlot (s : State) (n : Nat) : Bool :=
  let a := (slotAt s n).attr
  n != 0 && attrValid a && (!attrPersist a || debugRoot s)

/-- Write a slot through to the key store and its generation to the table (R420); not while debug is active (R411). -/
def saveSlot (s : State) (n : Nat) : State :=
  let x := slotAt s n
  if debugRoot s then s
  else setCrypto s { s.crypto with store := tput (fun _ => none) s.crypto.store n (if attrValid x.attr && attrPersist x.attr then some x else none)
                                   storeGen := tput (fun _ => 0) s.crypto.storeGen n x.gen.toNat }

/-- Put a key or emptiness in a slot, with a new GEN. -/
def refill (s : State) (n : Nat) (x : KeySlot) : State := saveSlot (setSlot s n { x with gen := (slotAt s n).gen + 1 }) n

/-- The slots that name a slot as their parent. -/
def childrenOf (s : State) (n : Nat) : List Nat :=
  (upTo 256).filter (fun c => c != n && attrValid (slotAt s c).attr && attrParent (slotAt s c).attr == n)

/-- Empty a slot; a GEN about to wrap first invalidates the slots that name it as parent (R405), to the depth of the tree. -/
def emptySlot : Nat → State → Nat → State
  | 0, s, n => refill s n {}
  | k + 1, s, n =>
    let s := if (slotAt s n).gen = 0xFFFF then forAll (fun s c => emptySlot k s c) (childrenOf s n) s else s
    refill s n {}

def flushSlot (s : State) (n : Nat) : State := emptySlot 9 s n

/-- A key is created in a slot (R404, R405). -/
def createSlot (s : State) (n : Nat) (x : KeySlot) : State :=
  let s := if (slotAt s n).gen = 0xFFFF then forAll flushSlot (childrenOf s n) s else s
  refill s n x

/-- Flush every slot that a condition names. -/
def flushWhere (s : State) (p : State → Nat → Bool) : State := forAll (fun s n => if p s n then flushSlot s n else s) (upTo 256) s

/-- The number of LIVE slots. -/
def liveCount (s : State) : Nat := ((upTo 256).filter (keyLive s)).length

/-- CRU_INFOn: the attribute word with STATE, and the generation word. -/
def cruInfo (s : State) (n : Nat) (high : Bool) : Word :=
  let x := slotAt s n
  if high then BitVec.ofNat 32 (x.pgen.toNat * 65536 + x.gen.toNat)
  else withBits x.attr 28 27 (if !attrValid x.attr then 0 else if keyLive s n then 1 else 2)

/-! ## Ending what is in flight (R423, R424) -/

/-- The bytes of a blob, and of a key, for an ALG. -/
def blobLen (alg : Nat) : Nat := if alg = 0 then 32 else 48
def keyLen (alg : Nat) : Nat := if alg = 0 then 16 else 32

/-- A Crucible command ends. -/
def cruEnd (s : State) (c : Code) : State :=
  let s := setCrypto s { s.crypto with cru := none }
  raiseBit (setFld (setFld s R.CRU_RESULT F.CRU_RESULT_BUSY 0) R.CRU_RESULT F.CRU_RESULT_CODE (codeNum c)) 0x90 0

/-- A crypto job ends. -/
def cryEnd (s : State) (c : Code) (pass : Bool) : State :=
  let s := wr (setCrypto s { s.crypto with cry := none }) R.CRY_STAT (BitVec.ofNat 32 (256 * b2n pass + codeNum c))
  raise s 0x91 (if c = .none then 1 else 3)

/-- Where a job writes memory as it runs. -/
def cryOut (j : CryJob) : Nat := if j.op ≤ 4 then j.len else if j.op = 7 ∨ j.op = 12 then 32 else if j.op = 9 ∨ j.op = 10 then 64 else 0
def blankJob (s : State) (j : CryJob) : State :=
  if j.op = 5 ∨ j.op = 6 ∨ j.op = 8 ∨ j.op = 11 then s else fillBytes s j.dst (cryOut j) 0

/-- Stop the Crucible command or the job in flight: its output is overwritten and it ends with a code. -/
def stopCru (s : State) (c : Code) : State :=
  match s.crypto.cru with
  | some j => cruEnd (if j.op = 4 then fillBytes s j.addr (blobLen (attrAlg (slotAt s j.target).attr)) 0 else s) c
  | none => s
def stopCry (s : State) (c : Code) : State :=
  match s.crypto.cry with
  | some j => cryEnd (blankJob s j) c false
  | none => s

/-- Every operation in flight is aborted with TAMPER_ABORT, a Recast check included (R411, R429). -/
def abortOps (s : State) : State :=
  let s := stopCry (stopCru s .tamperAbort) .tamperAbort
  if xchState s = xsCHECKING then { s with xch := { s.xch with aborted := true } } else s

/-- Whether an operation of the Crucible or the engine is in flight. -/
def keyBusy (s : State) : Bool := s.crypto.cru.isSome || s.crypto.cry.isSome || xchState s == xsCHECKING

/-- The slots whose keys a command uses. -/
def cruKeys (j : CruJob) : List Nat := if j.op = 4 then [j.aux, j.target] else if j.op ≤ 3 ∨ j.op = 5 then [attrParent j.attr] else []

/-- Operations whose keys are no longer LIVE end with ORPHANED. -/
def settleOps (s : State) : State :=
  let s := match s.crypto.cru with
    | some j => if (cruKeys j).all (keyLive s) then s else raiseBit (stopCru s .orphaned) 0x90 1
    | none => s
  match s.crypto.cry with
  | some j => if decide (11 ≤ j.op) || keyLive s j.slot then s else raiseBit (stopCry s .orphaned) 0x90 1
  | none => s

/-! ## Commands (R417 to R419) -/

/-- R403. -/
def algUsageOk (alg usage : Nat) : Bool :=
  decide (alg ≤ 1) || (alg == 2 && decide (usage ≤ 1)) || (alg == 3 && usage == 0)

/-- Bytes lie in SRAM or DRAM; an empty range lies anywhere. -/
def inRam (s : State) (a n : Nat) : Bool := n == 0 || inDram s a n || (decide (0x10000000 ≤ a) && decide (a + n ≤ 0x11000000))

/-- A key that a command uses: LIVE, and of a usage (steps 6 and 7). -/
def keyCheck (s : State) (n usage : Nat) : Code :=
  let a := (slotAt s n).attr
  if !attrValid a then .illegalValue else if !keyLive s n then .orphaned else if attrUsage a ≠ usage then .usage else .none

/-- R406 for a new key. -/
def newKeyCheck (s : State) (attr : Word) : Code :=
  let p := (slotAt s (attrParent attr)).attr
  if 8 ≤ attrDepth p ∨ (attrPersist attr ∧ !attrPersist p) ∨ !flaskEnabled s (attrOwner attr) then .illegalValue
  else if attrOwner attr ≠ attrOwner p ∧ attrOwner p ≠ 0 then .accessFlask
  else .none

/-- The checks of a create command from step 4 on. -/
def createCheck (s : State) (j : CruJob) : Code :=
  if j.target = 0 then .illegalValue
  else if keyLive s j.target then .notInState
  else if !algUsageOk (attrAlg j.attr) (attrUsage j.attr) then .illegalValue
  else match keyCheck s (attrParent j.attr) (if j.op = 3 then usWRAP else usDERIVE) with
  | .none =>
    match newKeyCheck s j.attr with
    | .none => if j.op = 3 ∧ !inRam s j.addr (blobLen (attrAlg j.attr)) then .illegalValue else .none
    | c => c
  | c => c

/-- The checks of WRAP from step 4 on. -/
def wrapCheck (s : State) (j : CruJob) : Code :=
  let t := (slotAt s j.target).attr
  let a := (slotAt s j.aux).attr
  if j.target = 0 ∨ !keyLive s j.target then .illegalValue
  else match keyCheck s j.aux usWRAP with
  | .none =>
    if attrOwner a ≠ 0 ∧ attrOwner a ≠ attrOwner t then .accessFlask
    else if !attrExport t then .usage
    else if !inRam s j.addr (blobLen (attrAlg t)) then .illegalValue
    else .none
  | c => c

/-- The mode allows a command (R421); an activation pause answers BUSY (R500). -/
def cruMode (s : State) (op : Nat) : Bool :=
  let m := modeNow s
  m == mdCOMMISSION || (pageIn m mdACTIVE mdDOZE && op != 5 && op != 8)

/-- R417 in order. -/
def cruCheck (s : State) (j : CruJob) : Code :=
  if cruSealed s then .tamperAbort
  else if !cruMode s j.op then .notInState
  else if j.op = 0 ∨ 8 < j.op then .illegalValue
  else if j.op ≤ 3 ∨ j.op = 5 then createCheck s j
  else if j.op = 4 then wrapCheck s j
  else if j.op = 6 then (if j.target = 0 ∨ !attrValid (slotAt s j.target).attr then .illegalValue else .none)
  else if j.op = 8 ∧ leNat (j.key.take 4) ≠ 0x4B494C4C then .illegalValue
  else .none

/-- KILL (R410). -/
def killRoot (s : State) : State :=
  let s := { s with otp := { s.otp with killed := true } }
  let s := flushWhere s (fun s n => attrValid (slotAt s n).attr)
  let s := setCrypto s { s.crypto with store := [], storeGen := [] }
  setFld (setFld s R.CRU_STAT F.CRU_STAT_SEALED 1) R.CRU_STAT F.CRU_STAT_ROOT_STATE 3

/-- DESTROY, PURGE and KILL take effect at once; the others at their completion. -/
def cruNow (s : State) (j : CruJob) : State :=
  if j.op = 6 then flushSlot s j.target
  else if j.op = 7 then flushWhere s (fun s n => attrValid (slotAt s n).attr && !keyLive s n)
  else if j.op = 8 then killRoot s
  else s

/-- The words of a run of registers as bytes. -/
def regBytes (s : State) (key : Nat → Nat) (n : Nat) : List Byte := ((upTo n).map (fun i => leBytes 4 (rd s (key i)).toNat)).flatten

/-- A write of CRU_CMD. CRU_KEYIN is cleared whatever becomes of it. -/
def cruStart (s : State) (v : Word) : State × Code :=
  let j : CruJob := { op := bits v 3 0, target := fld s R.CRU_SLOT F.CRU_SLOT_TARGET, aux := fld s R.CRU_SLOT F.CRU_SLOT_AUX
                      attr := rd s R.CRU_ATTR, addr := (rd s R.CRU_ADDR).toNat, label := regBytes s R.CRU_LABEL 4, key := regBytes s R.CRU_KEYIN 8 }
  let s := forAll (fun s n => wr s (R.CRU_KEYIN n) 0) (upTo 8) s
  if bits v 31 4 ≠ 0 then (s, .reservedBits)
  else if flag s R.CRU_RESULT F.CRU_RESULT_BUSY ∨ s.paused then (s, .busy)
  else match cruCheck s j with
  | .none =>
    let s := wr s R.CRU_RESULT (BitVec.ofNat 32 (0x80000000 + j.op * 256))
    (settleOps (cruNow (setCrypto s { s.crypto with cru := some j }) j), .none)
  | c => (setFld s R.CRU_RESULT F.CRU_RESULT_CODE (codeNum c), c)

/-- An ECDSA private key from 320 bits. -/
def ecKeyOf (c : List Byte) : List Byte := beBytes 32 (beNat c % (p256N - 1) + 1)

/-- The header of a blob. -/
def blobHead (attr : Word) : List Byte :=
  [1, BitVec.ofNat 8 (attrAlg attr), BitVec.ofNat 8 (attrUsage attr), BitVec.ofNat 8 (b2n (attrExport attr)), 0, 0, 0, 0]

/-- The key material of a new key; none when the blob fails. -/
def newMaterial (s : State) (j : CruJob) : State × Option (List Byte) :=
  let alg := attrAlg j.attr
  let n := if alg = 3 then 40 else keyLen alg
  let fix := fun (b : List Byte) => if alg = 3 then ecKeyOf b else b
  let parent := (slotAt s (attrParent j.attr))
  if j.op = 1 then
    let (s, b) := drawBytes s n
    (s, some (fix b))
  else if j.op = 2 then
    let ctx : List Byte := [1, BitVec.ofNat 8 alg, BitVec.ofNat 8 (attrUsage j.attr), BitVec.ofNat 8 (attrOwner j.attr)]
    (s, some (fix (kdfCtrCmac (aesKeyOf parent) (j.label ++ [0] ++ ctx ++ beBytes 4 (8 * n)) n)))
  else if j.op = 3 then
    match kwUnwrap (aesKeyOf parent) (bytesAt s j.addr (blobLen alg)) with
    | some p => (s, if p.take 8 = blobHead j.attr then some (p.drop 8) else none)
    | none => (s, none)
  else (s, some (j.key.take (keyLen alg)))

/-- The attribute word of a new key. -/
def newAttr (s : State) (attr : Word) : Word :=
  let d := attrDepth (slotAt s (attrParent attr)).attr + 1
  withBits (withBits (withBits attr 31 31 1) 28 27 0) 7 0 (d % 16 * 16)

/-- CRU_COMMAND_COMPLETE: `entropy` says that the entropy source passed its continuous tests. -/
def cruComplete (s : State) (entropy : Bool) : State :=
  match s.crypto.cru with
  | none => s
  | some j =>
    if j.op = 1 ∧ !entropy then cruEnd s .busy
    else if j.op ≤ 3 ∨ j.op = 5 then
      match newMaterial s j with
      | (s, some m) =>
        let (s, sh) := drawBytes s m.length
        let p := slotAt s (attrParent j.attr)
        settleOps (cruEnd (createSlot s j.target { attr := newAttr s j.attr, pgen := p.gen, material := m, share := sh }) .none)
      | (s, none) => cruEnd s .auth
    else if j.op = 4 then
      let t := slotAt s j.target
      cruEnd (putBytes s j.addr (kwWrap (aesKeyOf (slotAt s j.aux)) (blobHead t.attr ++ t.material))) .none
    else cruEnd s .none

/-- REMASK (R416): a fresh random word goes into both shares of every slot that is not EMPTY. -/
def remask (s : State) : State :=
  forAll (fun s n =>
    let x := slotAt s n
    if attrValid x.attr then
      let (s, r) := drawBytes s x.material.length
      setSlot s n { x with share := xorBytes x.share r }
    else s) (upTo 256) s

/-! ## Crypto jobs (R422, R423) -/

/-- ALG and USAGE that an operation needs: an AES key for 1 to 6, HMAC for 7 and 8, ECDSA for 9 and 10. -/
def cryKeyOk (a : Word) (op : Nat) : Bool :=
  let alg := attrAlg a
  (if op ≤ 6 then decide (alg ≤ 1) else if op ≤ 8 then alg == 2 else alg == 3) &&
    attrUsage a == (if op = 2 ∨ op = 4 ∨ op = 6 ∨ op = 8 then usDEC else usENC)

/-- The checks of a job. -/
def cryCheck (s : State) (j : CryJob) : Code :=
  let a := (slotAt s j.slot).attr
  let ranges := inRam s j.src (if j.op = 10 then 0 else j.len) && inRam s j.dst (cryOut j) &&
    inRam s j.aux (if j.op ≤ 2 then j.auxLen else if j.op = 8 then 32 else if j.op = 11 then 128 else 0)
  if j.op = 0 ∨ 12 < j.op then .illegalValue
  else if 11 ≤ j.op then (if j.slot ≠ 0 ∨ !ranges then .illegalValue else .none)
  else if cruSealed s then .tamperAbort
  else if j.slot = 0 ∨ !attrValid a then .illegalValue
  else if !keyLive s j.slot then .orphaned
  else if !cryKeyOk a j.op then .usage
  else if !ranges then .illegalValue
  else .none

/-- A write of CRY_GO. -/
def cryGo (s : State) (v : Word) : State × Code :=
  let j : CryJob := { op := fld s R.CRY_JOB F.CRY_JOB_OP, slot := fld s R.CRY_JOB F.CRY_JOB_SLOT, src := (rd s R.CRY_SRC).toNat
                      dst := (rd s R.CRY_DST).toNat, len := (rd s R.CRY_LEN).toNat, aux := (rd s R.CRY_AUX).toNat
                      auxLen := (rd s R.CRY_AUXLEN).toNat, iv := regBytes s R.CRY_IV 3, tag := regBytes s R.CRY_TAG 4 }
  if bits v 31 1 ≠ 0 then (s, .reservedBits)
  else if !bit v 0 then (s, .none)
  else if flag s R.CRY_STAT F.CRY_STAT_BUSY ∨ s.paused then (s, .busy)
  else match cryCheck s j with
  | .none => (wr (setCrypto s { s.crypto with cry := some j }) R.CRY_STAT 0x80000000, .none)
  | c => (s, c)

/-- AES-CTR from an initial counter block, which counts as a whole (assumption 41). -/
def ctrCrypt (key block data : List Byte) : List Byte :=
  let rk := aesRoundKeys key
  xorBytes data ((upTo ((data.length + 15) / 16)).map (fun i => aesEncRK rk (beBytes 16 (beNat block + i)))).flatten

/-- Put 16 bytes in CRY_TAG0–3. -/
def putTag (s : State) (b : List Byte) : State :=
  forAll (fun s n => wr s (R.CRY_TAG n) (BitVec.ofNat 32 (leNat (sliceD 0 b (4 * n) 4)))) (upTo 4) s

/-- A job that computes ends with its output and NONE; a verify ends with its verdict. -/
def cryVerdict (s : State) (ok : Bool) : State := cryEnd s (if ok then .none else .auth) ok

/-- CRY_JOB_COMPLETE: the job's result. -/
def cryComplete (s : State) : State :=
  match s.crypto.cry with
  | none => s
  | some j =>
    let k := slotAt s j.slot
    let key := aesKeyOf k
    let data := fun _ : Unit => bytesAt s j.src j.len
    let out := fun (s : State) (b : List Byte) => cryEnd (putBytes s j.dst b) .none false
    if j.op = 1 then
      let (ct, tag) := gcmSeal key j.iv (bytesAt s j.aux j.auxLen) (data ())
      out (putTag s tag) ct
    else if j.op = 2 then
      match gcmOpen key j.iv (bytesAt s j.aux j.auxLen) (data ()) j.tag with
      | some pt => cryEnd (putBytes s j.dst pt) .none true
      | none => cryEnd (blankJob s j) .auth false
    else if j.op ≤ 4 then out s (ctrCrypt key (j.iv ++ j.tag.take 4) (data ()))
    else if j.op = 5 then cryEnd (putTag s (aesCmac key (data ()))) .none false
    else if j.op = 6 then cryVerdict s (aesCmac key (data ()) == j.tag)
    else if j.op = 7 then
      let h := hmac256 k.material (data ())
      out (putTag s (h.take 16)) h
    else if j.op = 8 then cryVerdict s (hmac256 k.material (data ()) == bytesAt s j.aux 32)
    else if j.op = 9 then
      let (s, c) := drawBytes s 40
      cryEnd (putBytes s j.dst (ecdsaSign (beNat k.material) (beNat (ecKeyOf c)) (sha256 (bytesAt s j.src j.len)))) .none false
    else if j.op = 10 then out s (ecPublic (beNat k.material))
    else if j.op = 11 then
      let b := bytesAt s j.aux 128
      cryVerdict s (ecdsaVerify (b.take 64) (sha256 (data ())) (b.drop 64))
    else out s (sha256 (data ()))

/-! ## The commands -/

/-- A write of CRU_CMD by a requester. -/
def cruCommand (q : Requester) (op : Nat) (s : State) : Host.Outcome State Fault Refusal :=
  .next (gated s q 0x90 0x64 (fun s => endCommand 0x90 0x64 (cruStart s (BitVec.ofNat 32 op))))
/-- CRY_JOB is written with an operation and a slot, then CRY_GO. -/
def cryCommand (q : Requester) (op : Nat) (slot : BitVec 8) (s : State) : Host.Outcome State Fault Refusal :=
  .next (gated s q 0x91 0x74 (fun s => endCommand 0x91 0x74 (cryGo (wr s R.CRY_JOB (BitVec.ofNat 32 (slot.toNat * 256 + op))) 1)))

/-- CRU_GENERATE (R418). -/
def execCruGenerate (q : Requester) (s : State) : Host.Outcome State Fault Refusal := cruCommand q 1 s
/-- CRU_DERIVE (R419). -/
def execCruDerive (q : Requester) (s : State) : Host.Outcome State Fault Refusal := cruCommand q 2 s
/-- CRU_UNWRAP (R419). -/
def execCruUnwrap (q : Requester) (s : State) : Host.Outcome State Fault Refusal := cruCommand q 3 s
/-- CRU_WRAP (R419). -/
def execCruWrap (q : Requester) (s : State) : Host.Outcome State Fault Refusal := cruCommand q 4 s
/-- CRU_LOAD (R418). -/
def execCruLoad (q : Requester) (s : State) : Host.Outcome State Fault Refusal := cruCommand q 5 s
/-- CRU_DESTROY (R418). -/
def execCruDestroy (q : Requester) (s : State) : Host.Outcome State Fault Refusal := cruCommand q 6 s
/-- CRU_PURGE (R418). -/
def execCruPurge (q : Requester) (s : State) : Host.Outcome State Fault Refusal := cruCommand q 7 s
/-- CRU_KILL (R410). -/
def execCruKill (q : Requester) (s : State) : Host.Outcome State Fault Refusal := cruCommand q 8 s
/-- CRU_COMMAND_COMPLETE (R417). -/
def execCruCommandComplete (entropy : Bool) (s : State) : Host.Outcome State Fault Refusal := .next (cruComplete s entropy)
/-- REMASK (R416). -/
def execRemask (s : State) : Host.Outcome State Fault Refusal := .next (remask s)
/-- CRY_GCM_ENC (R422). -/
def execCryGcmEnc (q : Requester) (slot : BitVec 8) (s : State) : Host.Outcome State Fault Refusal := cryCommand q 1 slot s
/-- CRY_GCM_DEC (R422). -/
def execCryGcmDec (q : Requester) (slot : BitVec 8) (s : State) : Host.Outcome State Fault Refusal := cryCommand q 2 slot s
/-- CRY_CTR_ENC (R422). -/
def execCryCtrEnc (q : Requester) (slot : BitVec 8) (s : State) : Host.Outcome State Fault Refusal := cryCommand q 3 slot s
/-- CRY_CTR_DEC (R422). -/
def execCryCtrDec (q : Requester) (slot : BitVec 8) (s : State) : Host.Outcome State Fault Refusal := cryCommand q 4 slot s
/-- CRY_CMAC_GEN (R422). -/
def execCryCmacGen (q : Requester) (slot : BitVec 8) (s : State) : Host.Outcome State Fault Refusal := cryCommand q 5 slot s
/-- CRY_CMAC_VER (R422). -/
def execCryCmacVer (q : Requester) (slot : BitVec 8) (s : State) : Host.Outcome State Fault Refusal := cryCommand q 6 slot s
/-- CRY_HMAC_GEN (R422). -/
def execCryHmacGen (q : Requester) (slot : BitVec 8) (s : State) : Host.Outcome State Fault Refusal := cryCommand q 7 slot s
/-- CRY_HMAC_VER (R422). -/
def execCryHmacVer (q : Requester) (slot : BitVec 8) (s : State) : Host.Outcome State Fault Refusal := cryCommand q 8 slot s
/-- CRY_ECDSA_SIGN (R422). -/
def execCryEcdsaSign (q : Requester) (slot : BitVec 8) (s : State) : Host.Outcome State Fault Refusal := cryCommand q 9 slot s
/-- CRY_ECDSA_PUB (R422). -/
def execCryEcdsaPub (q : Requester) (slot : BitVec 8) (s : State) : Host.Outcome State Fault Refusal := cryCommand q 10 slot s
/-- CRY_ECDSA_VER (R422). -/
def execCryEcdsaVer (q : Requester) (slot : BitVec 8) (s : State) : Host.Outcome State Fault Refusal := cryCommand q 11 slot s
/-- CRY_SHA256 (R422). -/
def execCrySha256 (q : Requester) (slot : BitVec 8) (s : State) : Host.Outcome State Fault Refusal := cryCommand q 12 slot s
/-- CRY_JOB_COMPLETE (R423). -/
def execCryJobComplete (s : State) : Host.Outcome State Fault Refusal := .next (cryComplete s)

end Sys2Proof.Machine
end

