-- ==== Sys2Proof/Machine/Tamper.lean ====
section
/-! DEFINITION. The tamper block (R427 to R431) and debug sessions (R411 to R415). -/

namespace Sys2Proof.Machine

/-! ## Tamper -/

/-- A source is enabled, and responds (R427, R429): 0 to 3 the pins, 4 VGLITCH, 5 CGLITCH, which work only while VDD_CORE is present. -/
def tamperEnabled (s : State) (n : Nat) : Bool :=
  if n ≤ 3 then (fld s R.TMP_CFG F.TMP_CFG_PIN_EN).testBit n
  else modeNow s != 0 && flag s R.TMP_CFG (if n = 4 then F.TMP_CFG_VGL_EN else F.TMP_CFG_CGL_EN)
def tamperResponds (s : State) (n : Nat) : Bool := decide (4 ≤ n) || (fld s R.TMP_CFG F.TMP_CFG_RESP).testBit n

/-- The cases of R429, by their codes in TMP_CTX. -/
def tamperCase (s : State) : Nat :=
  if modeNow s = 0 then 5
  else if modeNow s = mdBOOT then 1
  else if domC s 12 ≠ 0 then 2
  else if keyBusy s then 3
  else 4

/-- Latch an event (R428). -/
def tamperLatch (s : State) (n : Nat) : State :=
  let k := R.TMP_LATCH
  let s := wr s k (withBits (rd s k) n n 1)
  let s := if flag s k F.TMP_LATCH_VALID then setFld s k F.TMP_LATCH_OVF 1
    else
      let d := rd s R.RTC_DATE
      let t := rd s R.RTC_TIME
      let s := setFld (setFld s k F.TMP_LATCH_VALID 1) k F.TMP_LATCH_FIRST (2 ^ n)
      let s := wr s (R.TMP_TS 0) (BitVec.ofNat 32 (bits d 5 0 * 2 ^ 24 + (t &&& 0x3F7F7F).toNat))
      let s := wr s (R.TMP_TS 1) (BitVec.ofNat 32 (b2n (!flag s R.RTC_STAT F.RTC_STAT_VALID) * 2 ^ 31 + bits d 24 24 * 2 ^ 16 +
        bits d 23 16 * 2 ^ 8 + bits d 12 8))
      wr s R.TMP_CTX (BitVec.ofNat 32 (tamperCase s))
  raiseBit s 0x05 0

/-- The Crucible is sealed: no root, no slot. -/
def sealCrucible (s : State) : State := setFld { s with slots := [] } R.CRU_STAT F.CRU_STAT_SEALED 1

/-- The START case of R429: sealed by tamper. -/
def sealByTamper (s : State) : State := let s := sealCrucible s; { s with boot := { s.boot with tampered := true } }

/-- Erase the key store and flush every persistent slot other than 0; with the NVR unpowered the erase is pending (R430). -/
def tamperErase (s : State) : State :=
  if !flag s R.TMP_CFG F.TMP_CFG_ERASE then s
  else if modeNow s = 0 then setCrypto s { s.crypto with erasePend := true }
  else
    let s := flushWhere s (fun s n => n != 0 && attrValid (slotAt s n).attr && attrPersist (slotAt s n).attr)
    setCrypto s { s.crypto with store := [], storeGen := [] }

/-- The response to an event, by the case it fell in (R429). -/
def tamperRespond (s : State) (c : Nat) : State :=
  let s := if c = 3 then abortOps s else s
  let s := if c = 1 then sealByTamper s
    else if c = 5 then s
    else settleOps (raiseBit (flushWhere s volatileSlot) 0x90 2)
  let s := settleOps (tamperErase s)
  if c = 2 ∧ flag s R.TMP_CFG F.TMP_CFG_WAKE then demand (demand s 2) 12 else s

/-- TAMPER_EVENT: a qualified event of a source. -/
def tamperEvent (s : State) (n : Nat) : State :=
  if !tamperEnabled s n then s
  else
    let c := tamperCase s
    let s := if n ≤ 3 then wr s R.TMP_PINS (withBits (rd s R.TMP_PINS) n n (b2n ((fld s R.TMP_CFG F.TMP_CFG_POL).testBit n))) else s
    let s := tamperLatch s n
    let s := if tamperResponds s n then tamperRespond s c else s
    if c = 5 then s
    else
      let s := if flag s R.TMP_CFG F.TMP_CFG_WAKE then evtSet s 0x131 else s
      wakeEvent s F.SYS_DOZECFG_TAMP

/-- A write of 1 to VALID clears the latch, the timestamp and the context (R431). -/
def clearTamper (s : State) : State := wr (wr (wr (wr s R.TMP_LATCH 0) (R.TMP_TS 0) 0) (R.TMP_TS 1) 0) R.TMP_CTX 0

/-! ## Debug sessions -/

/-- The factory MAC address (R505) and the Ametus key of a KEY_ID (R491). -/
def factoryMac : List Byte := (upTo 6).map Config.factoryMac
def ametusKey (id : Nat) : List Byte := (upTo 64).map (Config.ametusKey id)

/-- A read of DBG_CHAL0 draws a fresh nonce (R413). -/
def drawNonce (s : State) : State :=
  let (s, b) := drawBytes s 32
  let s := forAll (fun s n => wr s (R.DBG_CHAL n) (BitVec.ofNat 32 (leNat (sliceD 0 b (4 * n) 4)))) (upTo 8) s
  setFld (setCrypto s { s.crypto with nonce := b }) R.DBG_STAT F.DBG_STAT_NONCE 1

/-- Debug becomes active (R411): operations are aborted, every slot other than 0 is flushed and slot 0 takes the test root. -/
def debugActive (s : State) : State :=
  if flag s R.DBG_STAT F.DBG_STAT_ACTIVE then s
  else
    let s := setFld (abortOps s) R.CRU_STAT F.CRU_STAT_DEBUG_ROOT 1
    let s := flushWhere s (fun s n => n != 0 && attrValid (slotAt s n).attr)
    let root := { slotAt s 0 with attr := 0xC1C00000, material := List.replicate 32 0xA5, share := List.replicate 32 0 }
    setFld (setSlot s 0 root) R.DBG_STAT F.DBG_STAT_ACTIVE 1

/-- The checks of an OPEN (R413). -/
def openCheck (s : State) : Code :=
  let resp := regBytes s R.DBG_RESP 32
  let key := resp.take 64
  if s.otp.debugLock ∨ flag s R.DBG_CFG F.DBG_CFG_DIS ∨ modeNow s = 0 ∨ 8 ≤ fld s R.DBG_STAT F.DBG_STAT_FAILS then .notInState
  else if !flag s R.DBG_STAT F.DBG_STAT_NONCE then .sequence
  else if !(match s.otp.owner with | some h => sha256 key == h | none => key == ametusKey 0 || key == ametusKey 1) then .auth
  else if !ecdsaVerify key (sha256 (s.crypto.nonce ++ [0x44, 0x42] ++ factoryMac)) (resp.drop 64) then .auth
  else .none

/-- An OPEN: it uses up the nonce and clears the response. -/
def debugOpen (s : State) : State :=
  let c := openCheck s
  let s := setFld (setCrypto s { s.crypto with nonce := [], openWait := false }) R.DBG_STAT F.DBG_STAT_NONCE 0
  let s := forAll (fun s n => wr s (R.DBG_RESP n) 0) (upTo 32) s
  let s := setFld s R.DBG_STAT F.DBG_STAT_CODE (codeNum c)
  if c = .none then raiseBit (setFld (debugActive s) R.DBG_STAT F.DBG_STAT_SESSION 1) 0xA0 0
  else raiseBit (bumpFld s R.DBG_STAT F.DBG_STAT_FAILS 1) 0xA0 1

/-- CLOSE ends the session and resumes every stopped task (R414). -/
def debugClose (s : State) : State := setFld (forAll debugGo (upTo 8) s) R.DBG_STAT F.DBG_STAT_SESSION 0

/-- The cause bits of a module reset that is due (R469). -/
def resetDue (s : State) (causes : Nat) : State := { s with boot := { s.boot with due := some causes } }

/-- A write of DBG_CMD. An OPEN during BOOT waits for phase 04h. -/
def debugCommand (s : State) (q : Requester) (v : Word) : State × Code :=
  let op := bits v 2 0
  let key := bits v 31 16
  if bits v 15 3 ≠ 0 then (s, .reservedBits)
  else if op = 0 ∨ 5 ≤ op then (s, .illegalValue)
  else if op = 4 then
    if modeNow s ≠ mdCOMMISSION then (s, .notInState)
    else if key ≠ 0x4C4B then (s, .illegalValue)
    else ({ s with otp := { s.otp with debugLock := true } }, .none)
  else if q ≠ .debug then (s, .notInState)
  else if key ≠ 0 then (s, .illegalValue)
  else if op = 1 then
    (if modeNow s = mdBOOT ∧ fld s R.BOOT_STAT F.BOOT_STAT_PHASE < 4 then setCrypto s { s.crypto with openWait := true } else debugOpen s, .none)
  else if op = 2 then (if flag s R.DBG_STAT F.DBG_STAT_SESSION then (debugClose s, .none) else (s, .sequence))
  else if flag s R.DBG_STAT F.DBG_STAT_SESSION then (resetDue s 0x100, .none)
  else (s, .notInState)

/-- A write of DBG_HOLD: HOLD is the debug port's, with a session open. -/
def holdWrite (s : State) (q : Requester) (v : Word) : State × Code :=
  if bits v 31 16 ≠ 0 then (s, .reservedBits)
  else if q ≠ .debug ∨ !flag s R.DBG_STAT F.DBG_STAT_SESSION then (s, .notInState)
  else (setFld s R.DBG_HOLD F.DBG_HOLD_HOLD (bits v 7 0), .none)

/-- A write of DBG_GO. -/
def goWrite (s : State) (v : Word) : State × Code :=
  if bits v 31 8 ≠ 0 then (s, .reservedBits)
  else (forAll (fun s c => if bit v c then debugGo s c else s) (upTo 8) s, .none)

/-! ## The commands -/

/-- TAMPER_EVENT (R428). -/
def execTamperEvent (src : Fin 6) (s : State) : Host.Outcome State Fault Refusal := .next (tamperEvent s src.val)
/-- TAMPER_LATCH_CLEAR (R431). -/
def execTamperLatchClear (q : Requester) (s : State) : Host.Outcome State Fault Refusal :=
  .next (gated s q 0x05 0x44 (fun s => answer (clearTamper s) .none))
/-- DEBUG_CHALLENGE (R413): a read of DBG_CHAL0. -/
def execDebugChallenge (q : Requester) (s : State) : Host.Outcome State Fault Refusal :=
  .next (gated s q 0xA0 0x80 (fun s => let s := drawNonce s; { s with answer := { words := [rd s (R.DBG_CHAL 0)] } }))
/-- DEBUG_OPEN (R413). -/
def execDebugOpen (q : Requester) (s : State) : Host.Outcome State Fault Refusal :=
  .next (gated s q 0xA0 0x48 (fun s => endCommand 0xA0 0x48 (debugCommand s q 1)))
/-- DEBUG_CLOSE (R414). -/
def execDebugClose (q : Requester) (s : State) : Host.Outcome State Fault Refusal :=
  .next (gated s q 0xA0 0x48 (fun s => endCommand 0xA0 0x48 (debugCommand s q 2)))
/-- DEBUG_LOCKFUSE (R415). -/
def execDebugLockfuse (q : Requester) (key : BitVec 16) (s : State) : Host.Outcome State Fault Refusal :=
  .next (gated s q 0xA0 0x48 (fun s => endCommand 0xA0 0x48 (debugCommand s q (BitVec.ofNat 32 (key.toNat * 65536 + 4)))))
/-- DEBUG_HOLD (R414). -/
def execDebugHold (q : Requester) (v : Word) (s : State) : Host.Outcome State Fault Refusal :=
  .next (gated s q 0xA0 0x4C (fun s => endCommand 0xA0 0x4C (holdWrite s q v)))
/-- DEBUG_GO (R414). -/
def execDebugGo (q : Requester) (v : Word) (s : State) : Host.Outcome State Fault Refusal :=
  .next (gated s q 0xA0 0x50 (fun s => endCommand 0xA0 0x50 (goWrite s v)))

end Sys2Proof.Machine
end

