-- ==== Sys2Proof/Machine/Update.lean ====
section
/-! DEFINITION. Firmware packages (R491 to R493), the writer of the stored image (R495), the UPD page (R496 to R504), warm activation
(R499 to R502), and the ROM recovery protocol (R505 to R508). -/

namespace Sys2Proof.Machine

/-! ## Packages -/

/-- The size limit of a part (R492). -/
def partLimit (id : Nat) : Nat :=
  if id = 1 then 0x800000 else if id = 2 then 0x100000 else if id = 3 then 0x40000 else if id = 4 then 0x80000 else if id = 5 then 0x10000 else 0x1000

/-- A part entry: offset, size and digest. -/
def partAt (s : State) (a i : Nat) : Nat × Nat × List Byte :=
  let e := a + 0x40 + 48 * i
  (loadN s (e + 4) 4, loadN s (e + 8) 4, bytesAt s (e + 0x10) 32)

/-- Order 1: the header's fields as R491. -/
def packHeadOk (s : State) (a limit : Nat) : Bool :=
  let total := loadN s (a + 8) 4
  bytesAt s a 4 == [0x4D, 0x41, 0x4E, 0x46] && loadN s (a + 4) 2 == 1 && byteAt s (a + 6) == 6 && total % 16 == 0 &&
  decide (0x1A0 ≤ total) && decide (total ≤ min limit 16711680) && loadN s (a + 0x12) 2 == 0 && (bytesAt s (a + 0x18) 40).all (· == 0)

/-- Order 2: the part table as R492. -/
def packPartsOk (s : State) (a : Nat) : Bool :=
  let total := loadN s (a + 8) 4
  (upTo 6).all (fun i =>
    let e := a + 0x40 + 48 * i
    let (o, n, _) := partAt s a i
    byteAt s e == BitVec.ofNat 8 (i + 1) && (bytesAt s (e + 1) 3).all (· == 0) && o % 4096 == 0 && decide (0x1000 ≤ o) &&
    decide (1 ≤ n) && decide (n ≤ partLimit (i + 1)) && decide (o + n ≤ total)) &&
  disjoint ((upTo 6).map (fun i => let (o, n, _) := partAt s a i; (o, n)))

/-- The checks of R493 on the package at an address, within `limit` bytes; `svn` adds check 5. -/
def packCheck (s : State) (a limit : Nat) (svn : Bool) : Code :=
  if !packHeadOk s a limit then .illegalValue
  else if !packPartsOk s a then .illegalValue
  else if 1 < (byteAt s (a + 7)).toNat ∨
      !ecdsaVerify (ametusKey (byteAt s (a + 7)).toNat) (sha256 (bytesAt s a 0x160)) (bytesAt s (a + 0x160) 64) then .auth
  else if !(upTo 6).all (fun i => let (o, n, d) := partAt s a i; sha256 (bytesAt s (a + o) n) == d) then .auth
  else if svn ∧ (byteAt s (a + 0x10)).toNat < s.otp.svn then .sequence
  else .none

/-- The package stored in the NOR. -/
def imageAt : Nat := norBase + 0x10000

/-- The firmware that a manifest describes. -/
def fwAt (s : State) (a : Nat) : Firmware :=
  { release := BitVec.ofNat 32 (loadN s (a + 0xC) 4), svn := (byteAt s (a + 0x10)).toNat, linkVer := byteAt s (a + 0x11) }

/-- The checks of R493 on the stored image. The image as delivered is a whole, checked one (R494, R495; assumption 6): only check 5 remains. -/
def imageCheck (s : State) (svn : Bool) : Code :=
  if s.boot.delivered then (if svn ∧ (fwAt s imageAt).svn < s.otp.svn then .sequence else .none) else packCheck s imageAt 16711680 svn

/-- The firmware now running, shown in UPD_RUN and UPD_SVN. -/
def runFirmware (s : State) (f : Firmware) : State :=
  setFld (wr (setBoot s { s.boot with fw := f }) R.UPD_RUN f.release) R.UPD_SVN F.UPD_SVN_RUN f.svn

/-! ## The writer of the stored image (R495) -/

/-- Step 1: OPEN is appended with the digest of the manifest; from here the delivered image is no more. -/
def openImage (s : State) (manifest : List Byte) : State :=
  showJournal (appendJrec (setBoot s { s.boot with delivered := false }) 1 (sha256 manifest))

/-- Steps 2 to 4: the image is programmed, read back and checked, and CLOSE is appended. A sector that fails twice (`ok` false), or a check
that fails, ends the write with AUTH and leaves the journal open. -/
def closeImage (s : State) (manifest : List Byte) (src total : Nat) (ok : Bool) : State × Code :=
  if !ok then (tornNor s 0x10000 total, .auth)
  else
    let s := storeNor s 0x10000 (manifest ++ bytesAt s (src + 0x1A0) (total - 0x1A0))
    if packCheck s imageAt 16711680 false = .none then (showJournal (appendJrec s 2 (sha256 manifest)), .none) else (s, .auth)

/-! ## The UPD page (R496) -/

def udIDLE : Nat := 0
def udCHECKING : Nat := 1
def udCHECKED : Nat := 2
def udWRITING : Nat := 3
def udWRITTEN : Nat := 4
def udACTIVATING : Nat := 5
def updState (s : State) : Nat := fld s R.UPD_STAT F.UPD_STAT_STATE
def setUpd (s : State) (x : Upd) : State := { s with upd := x }

/-- Enter a state; UPD_STAGED shows the RELEASE in CHECKED and WRITTEN. -/
def enterUpd (s : State) (st : Nat) : State :=
  let rel := if st = udCHECKED ∨ st = udWRITTEN then leNat (sliceD 0 s.upd.manifest 0xC 4) else 0
  wr (setFld s R.UPD_STAT F.UPD_STAT_STATE st) R.UPD_STAGED (BitVec.ofNat 32 rel)

/-- A CHECK or WRITE ends. -/
def updEnd (s : State) (st cause : Nat) (c : Code) : State :=
  raiseBit (enterUpd (setFld s R.UPD_STAT F.UPD_STAT_CODE (codeNum c)) st) 0x98 (if c = .none then cause else 2)

/-- The states in which a command is busy. -/
def updBusy (st : Nat) : Bool := st == udCHECKING || st == udWRITING || st == udACTIVATING

/-- A partner is SYNCED, as its heartbeats say. -/
def partnerSynced (s : State) : Bool :=
  flag s R.TWN_STAT F.TWN_STAT_LINK && (match s.twin.hb with | some h => h.synced | none => false)

/-- ACTIVATE (R499). -/
def updActivate (s : State) : State × Code :=
  let m := modeNow s
  let x := xchState s
  if updState s ≠ udWRITTEN then (s, .sequence)
  else if roleOf s = rlACTIVE ∧ partnerSynced s then (s, .notInState)
  else if roleOf s = rlSTANDBY ∨ roleOf s = rlRESOLVING then (resetDue s 0x8, .none)
  else if m ≠ mdACTIVE ∧ m ≠ mdSAFE ∧ m ≠ mdCOMMISSION then (s, .notInState)
  else if x = xsCHECKING ∨ x = xsWAITING ∨ x = xsMIGRATING ∨ s.boot.store.isSome then (s, .busy)
  else (enterUpd (setUpd s { s.upd with b1 := some s.nextTick }) udACTIVATING, .none)

/-- OWNER_PK: the owner's public key is recorded once (R504). -/
def ownerRecord (s : State) : State × Code :=
  let a := (rd s R.UPD_SRC).toNat
  if modeNow s ≠ mdCOMMISSION then (s, .notInState)
  else if s.otp.owner.isSome then (s, .lockedConfig)
  else if updState s ≠ udIDLE then (s, .sequence)
  else if !inDram s a 64 then (s, .illegalValue)
  else ({ s with otp := { s.otp with owner := some (sha256 (bytesAt s a 64)) } }, .none)

/-- One command of UPD_CMD in a mode that serves it. -/
def updOp (s : State) (op : Nat) : State × Code :=
  let st := updState s
  if op = 1 then
    if updBusy st then (s, .busy)
    else (enterUpd (setUpd s { s.upd with src := (rd s R.UPD_SRC).toNat, len := (rd s R.UPD_LEN).toNat }) udCHECKING, .none)
  else if op = 2 then
    if st ≠ udCHECKED then (s, .sequence)
    else if s.boot.store.isSome then (s, .busy)
    else (enterUpd (wr (openImage s s.upd.manifest) R.UPD_PROG 0) udWRITING, .none)
  else if op = 3 then updActivate s
  else if op = 4 then
    if st = udCHECKED then (enterUpd s udIDLE, .none) else (s, if st = udWRITING ∨ st = udACTIVATING then .notInState else .sequence)
  else if op = 5 then
    if updBusy st then (s, .busy)
    else if st = udCHECKED then (s, .sequence)
    else ({ s with otp := { s.otp with svn := max s.otp.svn (min 64 s.boot.fw.svn) } }, .none)
  else ownerRecord s

/-- A write of UPD_CMD. -/
def updCommand (s : State) (v : Word) : State × Code :=
  let op := bits v 2 0
  if bits v 31 3 ≠ 0 then (s, .reservedBits)
  else if op = 0 ∨ op = 7 then (s, .illegalValue)
  else if !serviceMode s then (s, .notInState)
  else match updOp s op with
  | (s, .none) => (setFld s R.UPD_STAT F.UPD_STAT_LAST op, .none)
  | r => r

/-- CHECK_COMPLETE (R493): UPD_LEN must equal TOTAL_SIZE. The loader keeps the manifest. -/
def checkComplete (s : State) : State :=
  if updState s ≠ udCHECKING then s
  else
    let a := s.upd.src
    let n := s.upd.len
    let c := if !inDram s a n ∨ n < 0x1A0 then Code.illegalValue else packCheck s a n true
    let c := if c = .none ∧ loadN s (a + 8) 4 ≠ n then .illegalValue else c
    if c = .none then updEnd (setUpd s { s.upd with manifest := bytesAt s a 0x1A0 }) udCHECKED 0 .none
    else updEnd (setUpd s { s.upd with manifest := [] }) udIDLE 0 c

/-- WRITE_COMPLETE (R495); PFW has stopped a write that has lost its manifest. -/
def writeComplete (s : State) (ok : Bool) : State :=
  if updState s ≠ udWRITING ∨ s.upd.manifest = [] then s
  else
    let (s, c) := closeImage s s.upd.manifest s.upd.src s.upd.len ok
    let s := wr s R.UPD_PROG (BitVec.ofNat 32 ((s.upd.len + 4095) / 4096 * 4096))
    updEnd s (if c = .none then udWRITTEN else udIDLE) 1 c

/-! ## Warm activation (R500 to R502) -/

/-- ACTIVATION_HOLD at B1: stations get HOLD frames, the DSPs end their cycles and write their record. -/
def activationHold (s : State) : State :=
  match s.upd.b1 with
  | some b =>
    if updState s ≠ udACTIVATING ∨ s.stationHold ∨ s.paused then s
    else saveRecord (meterSnapshot { advanceTo s (BitVec.ofNat 64 (b * 100000)) with stationHold := true })
  | none => s

/-- Requesters whose engines an activation restarts: management cores, loop engines, metering DSPs, field sequencers and the security core. -/
def restarted : List Nat := [0, 9, 10, 11, 12, 13, 14, 15, 16, 17, 18, 19]

/-- ACTIVATION_PAUSE_START, 3 ms after B1: a command or job already running has completed. -/
def activationPauseStart (s : State) : State :=
  match s.upd.b1 with
  | some b =>
    if updState s ≠ udACTIVATING ∨ s.paused then s
    else
      let s := advanceTo s (BitVec.ofNat 64 ((b + 3) * 100000))
      let s := cryComplete (cruComplete s true)
      let s := forAll breakLocks restarted { s with paused := true, stationHold := true, upd := { s.upd with pauseAt := s.now } }
      refreshMeters (refreshLoops (if ptpOn s then setPtpState s ptDISABLED else s))
  | none => s

/-- The pause is over: what it suspended goes on. -/
def resumeAll (s : State) : State :=
  let s := { s with paused := false, stationHold := false, upd := { s.upd with b1 := none } }
  let s := resumeRings (refreshMeters (refreshLoops s))
  if ptpOn s then setPtpState s ptLISTENING else s

/-- ACTIVATION_PAUSE_END: the engines have started `counts` after the pause began, and the pause ends at the next tick boundary. A check of
the stored image that fails, or engines that fail to start (`ok` false), end in a module reset with SW (R501). -/
def activationPauseEnd (s : State) (ok : Bool) (counts : Nat) : State :=
  if !s.paused ∨ updState s ≠ udACTIVATING then s
  else
    let t := max s.now.toNat (s.upd.pauseAt.toNat + min counts 40000000)
    if !ok ∨ imageCheck s false ≠ .none then resetDue { s with paused := false } 0x8
    else
      let s := advanceTo s (BitVec.ofNat 64 ((t + 99999) / 100000 * 100000))
      let s := enterUpd (resumeAll (runFirmware s (fwAt s imageAt))) udIDLE
      let ms := (s.now - s.upd.pauseAt).toNat / 100000
      raiseBit (bumpFld (setFld s R.UPD_ACT F.UPD_ACT_PAUSE_MS (min 0xFFFF ms)) R.UPD_ACT F.UPD_ACT_COUNT 1) 0x98 3

/-- PFW stops a write at the end of its sector and abandons an activation (R498, R502). -/
def updPowerFail (s : State) : State :=
  if updState s = udWRITING then setUpd (tornNor s 0x10000 s.upd.len) { s.upd with manifest := [] }
  else if updState s = udACTIVATING then enterUpd (resumeAll s) udWRITTEN
  else s

/-! ## ROM recovery (R505 to R508) -/

def setRecov (s : State) (x : Recov) : State := { s with recov := x }

/-- A response: the code and the result, kept as the session's last and given to the requester. -/
def recovReply (s : State) (c : Code) (data : List Byte) : State :=
  { s with recov := { s.recov with respCode := c, response := data }, answer := { code := c, bytes := data } }

/-- The session's last response again. -/
def recovAgain (s : State) : State := { s with answer := { code := s.recov.respCode, bytes := s.recov.response } }

/-- A request from a port and an address: the session, and the order of its SEQ (R507). -/
def recovRequest (s : State) (m : Nat) (mac : List Byte) (seq : Nat) (k : State → State) : State :=
  if modeNow s ≠ mdRECOVERY ∨ mac.length ≠ 6 then s
  else
    let s := match s.recov.session with
      | none => setRecov s { s.recov with session := some (m, mac), seq := none, challenges := 0, nonce := none }
      | some _ => s
    if s.recov.session ≠ some (m, mac) then { s with answer := { code := .busy } }
    else
      let s := setRecov s { s.recov with at_ := s.now }
      match s.recov.seq with
      | none => k (setRecov s { s.recov with seq := some seq })
      | some last =>
        if last < seq then k (setRecov s { s.recov with seq := some seq })
        else if seq = last then recovAgain s
        else { s with answer := { code := .sequence } }

/-- INFO. -/
def recovInfo (s : State) : List Byte :=
  let w := fun k => leBytes 4 (rd s k).toNat
  factoryMac ++ [0, 0] ++ w R.BOOT_STAT ++ w R.SYS_RSTCAUSE ++ leBytes 4 (withBits (rd s R.CRU_STAT) 8 0 (liveCount s)).toNat ++ w R.TMP_LATCH ++
    w R.TMP_CTX ++ [BitVec.ofNat 8 (b2n (journalOpen s)), BitVec.ofNat 8 s.otp.svn, BitVec.ofNat 8 (b2n s.otp.owner.isSome),
      BitVec.ofNat 8 s.recov.commit, BitVec.ofNat 8 s.recov.code, 0, 0, 0] ++
    (match lastJrec s with | some r => r.digest | none => List.replicate 16 0)

/-- CHALLENGE: the SHA-256 of the factory address, the timebase and the count, little-endian as R506 (assumption 42). -/
def recovChallenge (s : State) : State :=
  let n := s.recov.challenges + 1
  let b := sha256 (factoryMac ++ leBytes 8 s.now.toNat ++ leBytes 4 n)
  recovReply (setRecov s { s.recov with challenges := n, nonce := some b }) .none b

/-- LOAD. -/
def recovLoad (s : State) (off : Nat) (data : List Byte) : State :=
  if 16711680 < off + data.length then recovReply s .illegalValue [] else recovReply (putBytes s (0x80000000 + off) data) .none []

/-- COMMIT. -/
def recovCommit (s : State) (total : Nat) : State :=
  if s.recov.commit = 1 then recovReply s .busy []
  else
    let a := 0x80000000
    let c := packCheck s a total true
    let c := if c = .none ∧ loadN s (a + 8) 4 ≠ total then .illegalValue else c
    if c = .none then recovReply (setRecov (openImage s (bytesAt s a 0x1A0)) { s.recov with commit := 1, code := 0, total := total }) .none []
    else recovReply s c []

/-- RECOVERY_WRITE_COMPLETE (R507). -/
def recovWritten (s : State) (ok : Bool) : State :=
  if s.recov.commit ≠ 1 then s
  else
    let (s, c) := closeImage s (bytesAt s 0x80000000 0x1A0) 0x80000000 s.recov.total ok
    setRecov s { s.recov with commit := (if c = .none then 2 else 3), code := codeNum c }

/-- CLEAR_TAMPER (R508): each nonce is good for one. -/
def recovClear (s : State) (data : List Byte) : State :=
  match s.otp.owner with
  | none => recovReply (clearTamper s) .none []
  | some h =>
    match s.recov.nonce with
    | none => recovReply s .sequence []
    | some n =>
      let s := setRecov s { s.recov with nonce := none }
      if data.length = 128 ∧ sha256 (data.take 64) = h ∧ ecdsaVerify (data.take 64) (sha256 (n ++ [0x43, 0x54])) (data.drop 64) then
        recovReply (clearTamper s) .none []
      else recovReply s .auth []

/-- RESET: a module reset without a recovery request, with SW (assumption 43). -/
def recovReset (s : State) : State := if s.recov.commit = 1 then recovReply s .busy [] else resetDue (recovReply s .none []) 0x8

/-- RECOVERY_SESSION_TIMEOUT: 60 s without a request. -/
def recovTimeout (s : State) : State :=
  match s.recov.session with
  | some _ => setRecov (advanceTo s (s.recov.at_ + 6000000000)) { s.recov with session := none, seq := none, nonce := none }
  | none => s

/-! ## The commands -/

/-- A write of UPD_CMD by a requester. -/
def updRow (q : Requester) (op : Nat) (s : State) : Host.Outcome State Fault Refusal :=
  .next (gated s q 0x98 0x48 (fun s => endCommand 0x98 0x48 (updCommand s (BitVec.ofNat 32 op))))
/-- UPD_CHECK (R496). -/
def execUpdCheck (q : Requester) (s : State) : Host.Outcome State Fault Refusal := updRow q 1 s
/-- UPD_WRITE (R496). -/
def execUpdWrite (q : Requester) (s : State) : Host.Outcome State Fault Refusal := updRow q 2 s
/-- UPD_ABANDON (R496). -/
def execUpdAbandon (q : Requester) (s : State) : Host.Outcome State Fault Refusal := updRow q 4 s
/-- UPD_SVN_COMMIT (R503). -/
def execUpdSvnCommit (q : Requester) (s : State) : Host.Outcome State Fault Refusal := updRow q 5 s
/-- UPD_OWNER_PK (R504). -/
def execUpdOwnerPk (q : Requester) (s : State) : Host.Outcome State Fault Refusal := updRow q 6 s
/-- CHECK_COMPLETE (R493). -/
def execCheckComplete (s : State) : Host.Outcome State Fault Refusal := .next (checkComplete s)
/-- WRITE_COMPLETE (R495). -/
def execWriteComplete (ok : Bool) (s : State) : Host.Outcome State Fault Refusal := .next (writeComplete s ok)
/-- ACTIVATION_HOLD (R500). -/
def execActivationHold (s : State) : Host.Outcome State Fault Refusal := .next (activationHold s)
/-- ACTIVATION_PAUSE_START (R500). -/
def execActivationPauseStart (s : State) : Host.Outcome State Fault Refusal := .next (activationPauseStart s)
/-- RECOVERY_INFO (R507). -/
def execRecoveryInfo (m : Fin 3) (mac : List Byte) (seq : Word) (s : State) : Host.Outcome State Fault Refusal :=
  .next (recovRequest s m.val mac seq.toNat (fun s => recovReply s .none (recovInfo s)))
/-- RECOVERY_CHALLENGE (R508). -/
def execRecoveryChallenge (m : Fin 3) (mac : List Byte) (seq : Word) (s : State) : Host.Outcome State Fault Refusal :=
  .next (recovRequest s m.val mac seq.toNat recovChallenge)
/-- RECOVERY_LOAD (R507): more than 1,024 bytes are malformed, and a malformed frame is dropped. -/
def execRecoveryLoad (m : Fin 3) (mac : List Byte) (seq off : Word) (data : List Byte) (s : State) : Host.Outcome State Fault Refusal :=
  .next (if 1024 < data.length then s else recovRequest s m.val mac seq.toNat (fun s => recovLoad s off.toNat data))
/-- RECOVERY_COMMIT (R507). -/
def execRecoveryCommit (m : Fin 3) (mac : List Byte) (seq total : Word) (s : State) : Host.Outcome State Fault Refusal :=
  .next (recovRequest s m.val mac seq.toNat (fun s => recovCommit s total.toNat))
/-- RECOVERY_WRITE_COMPLETE (R507). -/
def execRecoveryWriteComplete (ok : Bool) (s : State) : Host.Outcome State Fault Refusal := .next (recovWritten s ok)
/-- RECOVERY_CLEAR_TAMPER (R508). -/
def execRecoveryClearTamper (m : Fin 3) (mac : List Byte) (seq : Word) (data : List Byte) (s : State) : Host.Outcome State Fault Refusal :=
  .next (if 1024 < data.length then s else recovRequest s m.val mac seq.toNat (fun s => recovClear s data))
/-- RECOVERY_SESSION_TIMEOUT (R507). -/
def execRecoverySessionTimeout (s : State) : Host.Outcome State Fault Refusal := .next (recovTimeout s)

end Sys2Proof.Machine
end

