-- ==== Sys2Proof/Machine/RegRead.lean ====
section
/-! DEFINITION. Reading a register: what the registers show that are formed at the read, the holding copies of R14 and RTC_TIME, and the
reads that act (a lock's acquire, a queue's pop, the debug nonce). -/

namespace Sys2Proof.Machine

/-! ## Which register an offset names -/

/-- The key of the register that a description places at an offset, under the page's selector. -/
def keyAt (s : State) (page off : Nat) (d : RegDesc) : Nat :=
  regKey page off (match d.win with
    | .one => 0
    | .loop => fld s (R.LPE_LSEL (page - 0x49)) F.LPE_LSEL_SLOT + 1
    | .circuit => fld s R.MTR_CSEL F.MTR_CSEL_CIRCUIT + 1)

/-- The loop that an LPE page's selector shows. -/
def selLoop (s : State) (page : Nat) : Nat := (page - 0x49) * 128 + fld s (R.LPE_LSEL (page - 0x49)) F.LPE_LSEL_SLOT

/-- The circuit that MTR_CSEL shows. -/
def selCircuit (s : State) : Nat := fld s R.MTR_CSEL F.MTR_CSEL_CIRCUIT

/-- The registers wider than 32 bits (R14), and those read as one record: the first word's offset and the words. -/
def wideOf (page off : Nat) : Option (Nat × Nat) :=
  let pair : Bool :=
    (page == 0x32 && (off == 0x44 || off == 0x48 || pageIn off 0x58 0x64)) ||
    (pageIn page 0x49 0x4C && pageIn off 0x220 0x25F) || (page == 0x50 && pageIn off 0x120 0x14F) ||
    (pageIn page 0x61 0x70 && pageIn off 0x1A0 0x1B7) || (page == 0x88 && (off == 0x60 || off == 0x64)) ||
    (page == 0x06 && (pageIn off 0x40 0x44 || pageIn off 0x50 0x54)) || (page == 0x7F && pageIn off 0x50 0x54) ||
    (page == 0x04 && pageIn off 0x68 0x6C) || (page == 0x90 && pageIn off 0x400 0xBFF)
  if pair then (if page == 0x32 && off ≤ 0x48 then some (0x44, 2) else some (off / 8 * 8, 2))
  else if page == 0x8A && pageIn off 0x100 0x1FF then some (0x100, 64)
  else if page == 0x8A && pageIn off 0x200 0x2FF then some (0x200, 64)
  else none

/-! ## Values formed at the read -/

/-- A status word with a field replaced. -/
def showIn (w : Word) (f : Fld) (n : Nat) : Word := withBits w f.hi f.lo n

/-- The bytes of retentive instances of all loaded moulds (SCN_RETSZ, R91). -/
def retainedBytes (s : State) : Nat := s.moulds.foldl (fun n (_, m) => match m with | some m => n + retainSize m.insts | none => n) 0

/-- What a register shows, where it is not the word stored. -/
def shownWord (s : State) (page off : Nat) (w : Word) : Word :=
  if page = 0x01 then
    if pageIn off 0x80 0xB4 then
      let d := (off - 0x80) / 4
      showIn (showIn w F.PWR_DOMSTAT_KEEP (b2n (keepRunning s d))) F.PWR_DOMSTAT_BUDGET (budget s d)
    else w
  else if page = 0x03 then
    if pageIn off 0x100 0x17C then
      let n := (off - 0x100) / 4
      showIn (showIn w F.CLK_ISL_LOCKED (b2n (bit (rd s R.CLK_LOCK) n))) F.CLK_ISL_RUNNING (b2n (islandRuns s n))
    else w
  else if page = 0x06 then
    if off = 0x40 then s.now.setWidth 32 else if off = 0x44 then (s.now >>> 32).setWidth 32
    else if off = 0x58 then showIn w F.TB_STAT_SRC (tbSource s)
    else w
  else if page = 0x07 then (if pageIn off 0x700 0x750 then evtNext s ((off - 0x700) / 4) else w)
  else if page = 0x0B then
    if off = 0x40 then showIn (showIn w F.NVR_STAT_WRITING (b2n !s.scan.batches.isEmpty)) F.NVR_STAT_QUEUED (min 0xFFFFFF (stageFill s)) else w
  else if pageIn page 0x28 0x2B then
    let q := (page - 0x28) * 16 + (off - 0x100) / 0x40
    if off < 0x100 then w else if off % 0x40 = 0x0C then queueLevel s q else if off % 0x40 = 0x10 then queueFlags s q else w
  else if page = 0x30 then (if off = 0x50 then BitVec.ofNat 32 (allocated s) else w)
  else if page = 0x31 then (if pageIn off 0xC0 0x13C then BitVec.ofNat 32 (ownedBy s ((off - 0xC0) / 4)) else w)
  else if page = 0x32 then (if off = 0x6C then BitVec.ofNat 32 (s.forces.filter (fun (_, e) => e.isSome)).length else w)
  else if page = 0x38 then
    if off = 0x44 then BitVec.ofNat 32 (retainedBytes s) else if off = 0x48 then BitVec.ofNat 32 (stageFill s)
    else if pageIn off 0x500 0x8FF ∧ off % 16 = 0 then
      let t := (off - 0x500) / 16
      if taskTrig s t = 2 then showIn w F.SCN_TSTAT_PEND (b2n !(causeQueue s (taskFlask s t)).records.isEmpty) else w
    else w
  else if pageIn page 0x39 0x40 then
    if off = 0x40 then
      let c := page - 0x39
      showIn w F.SCC_STATUS_BOUND ((upTo 64).filter (fun t => taskEnabled s t && taskCore s t == c)).length
    else w
  else if pageIn page 0x78 0x7D then
    let m := page - 0x78
    if off = 0x5C then hmQstat s m
    else if pageIn off 0x70 0x78 then ptpWord s m false ((off - 0x70) / 4)
    else if pageIn off 0x80 0x88 then ptpWord s m true ((off - 0x80) / 4)
    else w
  else if page = 0x7E then (if off = 0x44 then showIn w F.TLM_STAT_LINKVER s.boot.fw.linkVer.toNat else w)
  else if page = 0x80 then
    if pageIn off 0x100 0x2FF ∧ off % 8 = 4 then
      let b := (off - 0x104) / 8
      BitVec.ofNat 32 (tget (fun _ => 0) s.nrap.lastSeq (portSlot (bindPort s b) (bindSlot s b)))
    else w
  else if page = 0x88 then (if off = 0x68 then twnRev s else w)
  else if page = 0x90 then
    if off = 0x40 then showIn (showIn w F.CRU_STAT_LIVE (liveCount s)) F.CRU_STAT_ERASE_PEND (b2n s.crypto.erasePend)
    else if pageIn off 0x400 0xBFF then cruInfo s ((off - 0x400) / 8) (off % 8 == 4)
    else w
  else if page = 0x98 then
    if off = 0x5C then showIn w F.UPD_SVN_FUSED s.otp.svn
    else if off = 0x60 then showIn w F.UPD_OWNER_PROGRAMMED (b2n s.otp.owner.isSome)
    else w
  else if page = 0xA0 then (if off = 0x44 then showIn w F.DBG_STAT_LOCKED (b2n s.otp.debugLock) else w)
  else w

/-- The bits that a read shows: fields of type WO read 0 (R18). -/
def readMask (d : RegDesc) : Word :=
  d.fields.foldl (fun m f => if f.acc = .wo ∨ f.acc = .rsv then withBits m f.hi f.lo 0 else m) 0xFFFFFFFF

/-- A register's word as it reads now, without the effect of a read: 0 at a reserved offset and on an unallocated page (R16, R17). -/
def wordNow (s : State) (page off : Nat) : Word :=
  if (pageAlloc page).isNone then 0
  else if off < 0x40 then rd s (regKey page off 0)
  else match findReg page off with
    | some d => shownWord s page off (rd s (keyAt s page off d)) &&& readMask d
    | none => 0

/-! ## Requesters as lock owners (R368) -/

/-- The fabric requester ID and the context with which a requester reaches the LCK page. -/
def lockRequester : Requester → Nat × Nat
  | .mgmt c => (0, c.val)
  | .sequencer n => (15 + n.val, 0)
  | .ladle ch => (if ch.val < 16 then 20 else 21, 0)
  | .nrap _ => (22, 0)
  | .debug => (26, 0)

/-- NRAP does not reach LCK_Ln (R371). -/
def lockBarred (q : Requester) (page off : Nat) : Bool :=
  page == 0x0A && pageIn off 0x100 0x1FF && (match q with | .nrap _ => true | _ => false)

/-! ## Reading -/

/-- Keep words `i` to `n − 1` of a wide register for a requester. -/
def captureWide (s : State) (q : Requester) (page base : Nat) (d : RegDesc) : Nat → Nat → State
  | _, 0 => s
  | i, n + 1 =>
    let off := base + 4 * i
    captureWide (keepWord s q (keyAt s page off d) (wordNow s page off)) q page base d (i + 1) n

/-- The word that a requester holds of a wide register. -/
def heldWord (s : State) (q : Requester) (key : Nat) : Option Word := (s.holds.find? (fun h => h.who == q && h.key == key)).map (·.word)

/-- A read of a wide register's word (R14). -/
def wideRead (s : State) (q : Requester) (page off base n : Nat) (d : RegDesc) : State × Word :=
  if off = base then (captureWide s q page base d 1 (n - 1), wordNow s page off)
  else (s, (heldWord s q (keyAt s page off d)).getD (wordNow s page off))

/-- A block register of a domain in C1, C2 or C3 waits for the domain's exit; in C4 the retention store serves it (R22, R468). -/
def wakeFor (s : State) (page off : Nat) : State :=
  let d := pageDomain page
  if off < 0x40 ∨ domC s d = 0 ∨ domC s d = 4 then s else domainRuns s d

/-- A read that R24 allows, with its effects: the state and the word; the words of a queue tell a denial in the answer. -/
def regRead (s : State) (q : Requester) (page off : Nat) : State × Word :=
  let s := wakeFor s page off
  match findReg page off with
  | none => (s, wordNow s page off)
  | some d =>
    if off < 0x40 then (s, wordNow s page off)
    else if page = 0x0A ∧ pageIn off 0x100 0x1FF then
      let (r, c) := lockRequester q
      let s := lockAcquire s r c ((off - 0x100) / 4)
      (s, s.answer.words.getD 0 0)
    else if pageIn page 0x28 0x2B ∧ 0x100 ≤ off ∧ off % 0x40 = 0x28 then
      let n := (page - 0x28) * 16 + (off - 0x100) / 0x40
      let (s, lo, hi) := popWords s n (flaskOf s q)
      (keepWord s q (R.TND_POPH (n / 16) (n % 16)) hi, lo)
    else if pageIn page 0x28 0x2B ∧ 0x100 ≤ off ∧ off % 0x40 = 0x2C then
      let n := (page - 0x28) * 16 + (off - 0x100) / 0x40
      (s, (heldWord s q (R.TND_POPH (n / 16) (n % 16))).getD 0)
    else if page = 0x04 ∧ off = 0x40 then rtcTimeRead s q
    else if page = 0x04 ∧ (off = 0x44 ∨ off = 0x58) then
      match heldWord s q (regKey page off 0) with
      | some w => (s, w)
      | none =>
        let s := if off = 0x58 then sampleSubsec s else s
        (s, wordNow s page off)
    else if page = 0xA0 ∧ off = 0x80 then
      let s := drawNonce s
      (s, rd s (R.DBG_CHAL 0))
    else match wideOf page off with
      | some (base, n) => wideRead s q page off base n d
      | none => (s, wordNow s page off)

/-- A register read by a requester: gated, and answered with its word. -/
def readCommand (s : State) (q : Requester) (page off : Nat) : State :=
  gated s q page off (fun s =>
    if lockBarred q page off then { s with answer := { code := .notInState, words := [0] } }
    else
      let (s, w) := regRead s q page off
      { s with answer := { words := [w] } })

end Sys2Proof.Machine
end

