-- ==== Sys2Proof/Machine/Switch.lean ====
section
/-! DEFINITION. Switchable functions (R31 to R34): their states, what starts and stops each, the conditions of an enable, and the domain's
say (R467, R468). -/

namespace Sys2Proof.Machine

/-! ## Where a function shows its state -/

/-- The page that holds a function. -/
def fnPage : SwitchFn → Nat
  | .page p => p.toNat
  | .station p => spuPage p.val
  | .portMeter p => spuPage p.val
  | .loop n => 0x49 + n.val / 128
  | .circuit _ => 0x50
  | .lite k => 0x21 + k.val / 8
  | .domain _ => 0x01

/-- The register that holds STATE and REARM. -/
def fnStat : SwitchFn → Nat
  | .page p => R.PG_STATE p.toNat
  | .station p => R.SPU_SSTAT p.val
  | .portMeter p => R.SPU_PMSTAT p.val
  | .loop n => R.LPE_LSTAT n.val
  | .circuit c => R.CIR_STAT c.val
  | .lite k => R.lSTAT k.val
  | .domain d => R.PWR_DOMSTAT d.val

/-- The register that holds EN, and EN's bit in it. -/
def fnCtrl : SwitchFn → Nat × Fld
  | .page p => (R.PG_CTRL p.toNat, F.PG_EN)
  | .station p => (R.SPU_SCTRL p.val, F.SPU_SCTRL_EN)
  | .portMeter p => (R.SPU_PMCTRL p.val, F.SPU_PMCTRL_EN)
  | .loop n => (R.LPE_CTRL n.val, F.LPE_CTRL_EN)
  | .circuit c => (R.CIR_CTRL c.val, F.CIR_CTRL_EN)
  | .lite k => (R.lCTRL k.val, F.LDLL_CTRL_EN)
  | .domain d => (R.PWR_DOMCTRL d.val, F.PWR_DOMCTRL_EN)

def fnStateFld : SwitchFn → Fld
  | .domain _ => F.PWR_DOMSTAT_STATE
  | _ => F.PG_STATE
def fnRearmFld : SwitchFn → Fld
  | .domain _ => F.PWR_DOMSTAT_REARM
  | _ => F.PG_REARM

def fnState (s : State) (fn : SwitchFn) : Nat := fld s (fnStat fn) (fnStateFld fn)
def fnRearm (s : State) (fn : SwitchFn) : Bool := flag s (fnStat fn) (fnRearmFld fn)
def setRearm (s : State) (fn : SwitchFn) (b : Bool) : State := setFld s (fnStat fn) (fnRearmFld fn) (b2n b)
def fnEn (s : State) (fn : SwitchFn) : Bool := flag s (fnCtrl fn).1 (fnCtrl fn).2

/-- Whether a function can be switched: a page whose EN always reads 1 cannot (R21), nor can domains PD0 to PD2, PD12 and PD13 (R467). -/
def fnSwitchable : SwitchFn → Bool
  | .page p => pageSwitchable p.toNat
  | .domain d => domSwitchable d.val
  | _ => true

/-! ## Starting -/

/-- STARTING of a scan core clears its register banks and call stacks (03_scan_execution.md). -/
def clearBanks (s : State) (c : Nat) : State :=
  forAll (fun s t => if taskCore s t = c then setTask s t { taskAt s t with bank := {} } else s) (upTo 64) s

/-- STARTING of a port meter (R295): Rloop starts from RINIT. -/
def startPortMeter (s : State) (p : Nat) : State := refreshPortMeter (portMeterPowerUp (setPmSt s p fsSTARTING) p) p

/-- STARTING of a page's function. A CAN controller stays OFF in the modes that bar it (R249). -/
def startPage (s : State) (p : Nat) : State :=
  if pageIn p 0x11 0x20 then bulkStart s (p - 0x11)
  else if pageIn p 0x39 0x40 then clearBanks (setPageSt s p fsSTARTING) (p - 0x39)
  else if pageIn p 0x58 0x5F then startCan s (p - 0x58)
  else if pageIn p 0x61 0x70 then portStart s (p - 0x61)
  else if pageIn p 0x78 0x7D then hostStart s (p - 0x78)
  else if p = 0x7F then ptpStart s
  else setPageSt s p fsSTARTING

def startFn (s : State) : SwitchFn → State
  | .page p => startPage s p.toNat
  | .station p => svcStart s p.val
  | .portMeter p => startPortMeter s p.val
  | .loop n => startLoop s n.val
  | .circuit c => startCircuit s c.val
  | .lite k => setLiteSt (setLadle s (0x10 + k.val) {}) k.val fsSTARTING
  | .domain d => setDomSt s d.val fsSTARTING

/-! ## Stopping -/

/-- STOPPING of a page's function. -/
def stopPage (s : State) (p : Nat) : State :=
  if pageIn p 0x11 0x20 then bulkStop s (p - 0x11)
  else if pageIn p 0x61 0x70 then portDisable s (p - 0x61)
  else if pageIn p 0x78 0x7D then hostStop s (p - 0x78)
  else if p = 0x7E then twinLinkDown (setPageSt s p fsSTOPPING)
  else if p = 0x7F then ptpStop s
  else refreshAll (setPageSt s p fsSTOPPING)

def stopFn (s : State) : SwitchFn → State
  | .page p => stopPage s p.toNat
  | .station p => svcStop s p.val
  | .portMeter p => setPmSt s p.val fsSTOPPING
  | .loop n => setLoopSt s n.val fsSTOPPING
  | .circuit c => setCircSt s c.val fsSTOPPING
  | .lite k => liteStop s k.val
  | .domain d => setDomC (setDomSt s d.val fsSTOPPING) d.val 0

/-! ## Completion of a start or a stop -/

/-- ON after STARTING, for a function with no event of its own that completes its start. A bulk channel becomes ON at its first fetch, a CAN
controller when it has integrated, a powered port when its line is up, a station service at the next tick boundary, a loop at its first
sample and a circuit at its first crossing. -/
def startedPage (s : State) (p : Nat) : State :=
  if pageIn p 0x11 0x20 ∨ pageIn p 0x58 0x5F then s
  else if pageIn p 0x61 0x70 then portStarted s (p - 0x61)
  else if pageIn p 0x78 0x7D then hostStarted s (p - 0x78)
  else if p = 0x7F then ptpStarted s
  else if pageSt s p = fsSTARTING then refreshAll (setPageSt s p fsON)
  else s

def startedFn (s : State) : SwitchFn → State
  | .page p => startedPage s p.toNat
  | .portMeter p => if pmSt s p.val = fsSTARTING then setPmSt s p.val fsON else s
  | .lite k => if liteSt s k.val = fsSTARTING then setLiteSt s k.val fsON else s
  | .domain d => if domSt s d.val = fsSTARTING then setDomC (setDomSt s d.val fsON) d.val 0 else s
  | _ => s

/-- OFF for a page whose function holds nothing more; a pending re-arm starts it again without a check (R32). -/
def pageOff (s : State) (p : Nat) : State :=
  let k := R.PG_STATE p
  let s := setPageSt s p fsOFF
  if flag s k F.PG_REARM then startPage (setFld s k F.PG_REARM 0) p else s

/-- A scan core in STOPPING still holds a run (03_scan_execution.md: the run in progress finishes its steps). -/
def coreBusy (s : State) (c : Nat) : Bool :=
  (upTo 64).any (fun t => taskCore s t == c && (taskStateOf s t == tsRUNNING || taskStateOf s t == tsPREEMPTED))

/-- OFF after STOPPING. A scan core waits for its runs, a loop engine for the pending outputs of its loops (R207), a bulk channel for the descriptor
in hand, a host MAC for its queues, a powered port for its discharge. An engine that passes through OFF loses its locks (R372). -/
def stoppedPage (s : State) (p : Nat) : State :=
  if pageSt s p ≠ fsSTOPPING then s
  else if pageIn p 0x11 0x20 then s
  else if pageIn p 0x39 0x40 then (if coreBusy s (p - 0x39) then s else refreshAll (pageOff (breakLocks s (1 + (p - 0x39))) p))
  else if pageIn p 0x49 0x4C then (if enginePending s (p - 0x49) then s else refreshAll (pageOff (breakLocks s (9 + (p - 0x49))) p))
  else if pageIn p 0x51 0x52 then refreshAll (pageOff (breakLocks s (13 + (p - 0x51))) p)
  else if pageIn p 0x58 0x5F then canOff s (p - 0x58)
  else if pageIn p 0x61 0x70 then portStopped s (p - 0x61)
  else if pageIn p 0x78 0x7D then hostStopped s (p - 0x78)
  else if p = 0x7F then ptpStopped s
  else refreshAll (pageOff s p)

/-- OFF of a port meter; a re-arm starts it again. -/
def portMeterOff (s : State) (p : Nat) : State :=
  let s := refreshPortMeter (setPmSt s p fsOFF) p
  if flag s (R.SPU_PMSTAT p) F.SPU_PMSTAT_REARM then startPortMeter (setFld s (R.SPU_PMSTAT p) F.SPU_PMSTAT_REARM 0) p else s

/-- OFF of a domain holds it in C4 (R467). -/
def domainOff (s : State) (d : Nat) : State :=
  let s := setDomC (setDomSt s d fsOFF) d 4
  if flag s (R.PWR_DOMSTAT d) F.PWR_DOMSTAT_REARM then
    setDomSt (setFld s (R.PWR_DOMSTAT d) F.PWR_DOMSTAT_REARM 0) d fsSTARTING
  else s

/-- OFF after STOPPING, where no event of the function's own brings it: a station service reaches OFF at the next tick boundary, a circuit
at the end of its cycle, and a lite channel when its transfer ends. -/
def stoppedFn (s : State) : SwitchFn → State
  | .page p => stoppedPage s p.toNat
  | .portMeter p => if pmSt s p.val = fsSTOPPING then portMeterOff s p.val else s
  | .loop n => finishLoop s n.val
  | .circuit c => if circSt s c.val = fsSTOPPING ∧ !(circAt s c.val).running then circuitOff s c.val else s
  | .domain d => if domSt s d.val = fsSTOPPING then domainOff s d.val else s
  | _ => s

/-! ## Enables and disables (R31) -/

/-- The conditions that a chapter sets for an enable, for the word to be written (R70, R183, R218, R245, R289, R295, R300). -/
def enableCheck (s : State) (v : Word) : SwitchFn → Code
  | .page p => if pageIn p.toNat 0x58 0x5F then enableCanCheck s (p.toNat - 0x58)
    else if pageIn p.toNat 0x78 0x7D then enableHostCheck s (p.toNat - 0x78) else .none
  | .station p => enableServiceCheck s p.val
  | .portMeter p => enablePortMeterCheck s p.val
  | .loop n => enableLoopCheck s n.val v
  | .circuit c => enableCircuitCheck s c.val
  | .lite _ => .none
  | .domain _ => .none

/-- An enable begins a start or latches a re-arm, and is therefore checked (R31). -/
def enableActs (s : State) (fn : SwitchFn) : Bool :=
  fnState s fn == fsOFF || (fnState s fn == fsSTOPPING && !fnRearm s fn)

/-- The domain bars an enable or an action while it is not ON (R467, R468). -/
def fnBarred (s : State) (fn : SwitchFn) : Bool :=
  match fn with
  | .domain _ => false
  | _ => domainBars s (fnPage fn)

/-- An accepted EN = 1, its word written: OFF starts, STOPPING latches one re-arm, and the other states ignore it. A sleeping domain wakes.
A function that the Pattern overlay enables starts when BOOT ends (R471). -/
def enableFn (s : State) (fn : SwitchFn) : State :=
  if modeNow s = mdBOOT then s
  else if fnState s fn = fsOFF then
    startFn (match fn with | .domain _ => s | _ => domainRuns s (pageDomain (fnPage fn))) fn
  else if fnState s fn = fsSTOPPING then setRearm s fn true
  else s

/-- An accepted EN = 0, its word written: STARTING and ON stop, STOPPING drops its re-arm. -/
def disableFn (s : State) (fn : SwitchFn) : State :=
  if fnState s fn = fsSTARTING ∨ fnState s fn = fsON then stopFn s fn
  else if fnState s fn = fsSTOPPING then setRearm s fn false
  else s

end Sys2Proof.Machine
end

