-- ==== Sys2Proof/Machine/RegCheck.lean ====
section
/-! DEFINITION. What a register write must meet (R16, R18, R27, R30, R34): the field tables' checks, and the checks that the chapters set for
single registers. -/

namespace Sys2Proof.Machine

/-! ## The field tables -/

/-- A field that a write can set or trigger. -/
def accWritable (a : Acc) : Bool := a == .rw || a == .w1c || a == .wo || a == .rwp || a == .rwl

/-- Every field of the register is RO or reserved (R18). -/
def allReadOnly (d : RegDesc) : Bool := d.fields.all (fun f => !accWritable f.acc)

/-- A value lies in a field's ranges (R27). -/
def valueLegal (f : FieldDesc) (n : Nat) : Bool :=
  (f.legal.isEmpty || f.legal.any (fun (a, b) => decide (a ≤ n) && decide (n ≤ b))) && n % f.mult == 0

/-- A reserved field is written non-zero. -/
def reservedSet (d : RegDesc) (v : Word) : Bool := d.fields.any (fun f => f.acc == .rsv && bits v f.hi f.lo != 0)

/-- An RWL field would change. -/
def lockedChange (d : RegDesc) (old v : Word) : Bool := d.fields.any (fun f => f.acc == .rwl && bits v f.hi f.lo != bits old f.hi f.lo)

/-- A writable field is given a value outside its ranges. -/
def illegalField (d : RegDesc) (v : Word) : Bool :=
  d.fields.any (fun f => accWritable f.acc && f.acc != .w1c && !valueLegal f (bits v f.hi f.lo))

/-- The word after an accepted write: settable fields take the value, W1C bits written 1 clear, the others stay (R18). -/
def writtenWord (d : RegDesc) (old v : Word) : Word :=
  d.fields.foldl (fun w f => match f.acc with
    | .rw => withBits w f.hi f.lo (bits v f.hi f.lo)
    | .rwp => withBits w f.hi f.lo (bits v f.hi f.lo)
    | .rwl => withBits w f.hi f.lo (bits v f.hi f.lo)
    | .w1c => withBits w f.hi f.lo (bits (old &&& ~~~v) f.hi f.lo)
    | .wo => w
    | .ro => w
    | .rsv => w) old

/-! ## Reserved bits that a table gives by text -/

/-- Bits of single registers that are reserved beside the tables' reserved fields. -/
def extraReserved (s : State) (page off : Nat) (v : Word) : Bool :=
  if page = 0x07 then off == 0x624 && bits v 31 20 != 0
  else if page = 0x08 then off == 0x168 && bits v 9 0 != 0
  else if page = 0x04 then
    if off = 0x54 then bits v 31 10 != (if bit v 9 then 0x3FFFFF else 0)
    else if off = 0x5C then alarmWordCode false v == .reservedBits
    else if off = 0x60 then alarmWordCode true v == .reservedBits
    else false
  else if pageIn page 0x61 0x70 then
    pageIn off 0x804 0xFFC && off % 8 == 4 &&
      (let ty := fld s (R.CHn_CFG (page - 0x61) ((off - 0x804) / 8)) F.CHn_CFG_TYPE; decide (2 ^ typeWidth ty ≤ v.toNat))
  else false

/-! ## Registers writable in certain states only (R34) -/

/-- An element of a circuit that is not OFF uses a voltage channel, or a current channel. -/
def voltUsed (s : State) (n : Nat) : Bool :=
  (upTo 48).any (fun c => circSt s c != fsOFF && (upTo (circNel s c)).any (fun k => elemV s c k == n))
def currUsed (s : State) (n : Nat) : Bool := (upTo 48).any (fun c => circSt s c != fsOFF && (circChannels s c).contains n)

/-- A staged container occupies part of flask f's staging area (R316). -/
def areaStaged (s : State) (f : Nat) : Bool :=
  let base := (rd s (R.NRP_STGBASE f)).toNat
  let size := (rd s (R.NRP_STGSZ f)).toNat
  (xchState s == xsCHECKING || xchState s == xsSTAGED || xchState s == xsWAITING) &&
    decide (s.xch.src < base + size) && decide (base < s.xch.src + s.xch.len)

/-- Two flasks' staging areas would overlap, with the word at an offset replaced. -/
def areasOverlap (s : State) (off : Nat) (v : Word) : Bool :=
  let f := (off - 0x300) / 8
  let base (g : Nat) : Nat := if g = f ∧ off % 8 = 0 then v.toNat else (rd s (R.NRP_STGBASE g)).toNat
  let size (g : Nat) : Nat := if g = f ∧ off % 8 = 4 then v.toNat else (rd s (R.NRP_STGSZ g)).toNat
  (upTo 32).any (fun g => g != f && decide (0 < size g) && decide (0 < size f) && decide (base f < base g + size g) && decide (base g < base f + size f))

/-- A write that the register's state bars with NOT_IN_STATE (R34, R69, R206, R218, R248, R288, R295, R300, R386, R398). -/
def stateBars (s : State) (page off : Nat) (old v : Word) : Bool :=
  if pageIn page 0x11 0x20 then off == 0x40 && pageSt s page != fsOFF
  else if pageIn page 0x21 0x26 then
    let k := (page - 0x21) * 8 + (off - 0x40) / 0x20
    liteSt s k != fsOFF &&
      (off % 0x20 == 0x04 || off % 0x20 == 0x08 || off % 0x20 == 0x0C || (off % 0x20 == 0 && withBits v 31 31 0 != withBits old 31 31 0))
  else if pageIn page 0x28 0x2B then
    let q := (page - 0x28) * 16 + (off - 0x100) / 0x40
    queueOn s q && ((off % 0x40 == 0 && bit v 31) || off % 0x40 == 4)
  else if page = 0x38 then
    pageIn off 0x100 0x4FF && (let t := (off - 0x100) / 16
      (if off % 16 = 0 then withBits v 31 31 0 != withBits old 31 31 0 else v != old) &&
        taskStateOf s t != tsDISABLED && taskStateOf s t != tsHALTED)
  else if pageIn page 0x49 0x4C then
    loopSt s (selLoop s page) != fsOFF && (pageIn off 0x104 0x127 || pageIn off 0x220 0x25F || off == 0x264)
  else if page = 0x50 then circSt s (selCircuit s) != fsOFF && (pageIn off 0x104 0x114)
  else if page = 0x53 then
    if pageIn off 0x40 0x57 then voltUsed s ((off - 0x40) / 4)
    else if pageIn off 0x60 0x11F then currUsed s ((off - 0x60) / 4)
    else if pageIn off 0x120 0x1DF then currUsed s ((off - 0x120) / 4)
    else false
  else if pageIn page 0x58 0x5F then fbSt s (page - 0x58) != 0 && (off == 0x40 || pageIn off 0x50 0x60)
  else if page = 0x60 then (off == 0x40 || off == 0x44) && (upTo 16).any (fun p => pageSt s (spuPage p) != fsOFF)
  else if pageIn page 0x61 0x70 then
    let p := page - 0x61
    if pageIn off 0x40 0x48 then pageSt s page != fsOFF
    else if pageIn off 0x104 0x10C ∨ 0x800 ≤ off then svcSt s p != fsOFF
    else if off = 0x180 ∨ off = 0x188 ∨ off = 0x18C then pmSt s p != fsOFF
    else if off = 0x184 then pmSt s p != fsOFF && bit v 30 != bit old 30
    else false
  else if page = 0x71 then (off == 0x40 || off == 0x44) && (upTo 16).any (fun p => svcSt s p != fsOFF)
  else if pageIn page 0x78 0x7D then pageIn off 0x40 0x50 && pageSt s page != fsOFF
  else if page = 0x7E then off == 0x40 && pageSt s page != fsOFF
  else if page = 0x7F then off == 0x40 && pageSt s page != fsOFF
  else if page = 0x80 then pageIn off 0x300 0x3FF && v != old && areaStaged s ((off - 0x300) / 8)
  else false

/-! ## Values that a chapter bars with ILLEGAL_VALUE -/

/-- A float32 is positive and finite. -/
def positive32 (v : Word) : Bool := finite32 v && flt32 0 v

/-- An IPv4 address that is multicast, broadcast or loopback. -/
def badIp (v : Word) : Bool := pageIn (bits v 31 28) 0xE 0xF || bits v 31 24 == 127

/-- A bad IF or SPEED of HM_CFG: IF is fixed on HM0 to HM2 and 01b or 10b on HM3 to HM5, and RMII (10b) needs SPEED 01b or 10b. -/
def hostCfgBad (page : Nat) (old v : Word) : Bool :=
  let ifc := if page ≤ 0x7A then bits old 1 0 else bits v 1 0
  (decide (0x7B ≤ page) && (ifc == 0 || ifc == 3)) || (ifc == 2 && (bits v 7 6 == 0 || bits v 7 6 == 3))

/-- The highest offset that a publication mask selects, with the base, passes 1FFFh. -/
def passesEnd (base mask n : Nat) : Bool := (selected base mask n).any (fun x => decide (0x1FFF < x.2))

/-- A write whose value a chapter bars with ILLEGAL_VALUE beside the field tables. -/
def valueBars (s : State) (page off : Nat) (old v : Word) : Bool :=
  if page = 0x01 then
    pageIn off 0x40 0x74 && (let d := (off - 0x40) / 4; (!bit v 31 && !domSwitchable d) || (bit v 30 && decide (deepest d < 4)))
  else if page = 0x04 then (if off = 0x5C then alarmWordCode false v != .none else if off = 0x60 then alarmWordCode true v != .none else false)
  else if pageIn page 0x21 0x26 then
    off % 0x20 == 0 && (let trig := bits v 30 28; let src := bits v 21 16
      if trig = 3 then decide (47 < src) else if trig = 4 then false else src != 0)
  else if pageIn page 0x28 0x2B then decide (0x100 ≤ off) && off % 0x40 == 4 && bits v 30 16 % 16 != 0
  else if page = 0x31 then
    pageIn off 0x40 0xBC && (let n := (off - 0x40) / 4; (n == 0 && !bit v 31) || decide (bits v 13 0 < ownedBy s n))
  else if page = 0x38 then
    pageIn off 0x100 0x4FF && off % 16 == 4 && taskTrig s ((off - 0x100) / 16) == 0 && decide (bits v 15 0 < 2)
  else if pageIn page 0x49 0x4C then
    let n := selLoop s page
    if off = 0x108 then decide (bits v 15 0 ≤ bits v 31 16)
    else if pageIn off 0x114 0x124 ∨ off = 0x130 ∨ off = 0x150 then !finite32 v
    else if off = 0x128 then decide ((rd s (R.LPE_LIM n 1)).toInt < v.toInt)
    else if off = 0x12C then decide (v.toInt < (rd s (R.LPE_LIM n 0)).toInt)
    else if pageIn off 0x154 0x15C then !positive32 v
    else false
  else if page = 0x50 then off == 0x114 && passesEnd (bits v 12 0) (bits v 28 16) 13
  else if page = 0x53 then pageIn off 0x40 0x11F && !positive32 v
  else if pageIn page 0x58 0x5F then
    decide (0x400 ≤ off) && (off - 0x400) % 0x50 == 0 && !bit v 29 && bits v 28 11 != 0
  else if page = 0x60 then (off == 0x40 && decide (0xF0 < bits v 31 24)) || (off == 0x44 && bit v 0)
  else if pageIn page 0x61 0x70 then
    let p := page - 0x61
    if off = 0x44 then decide (16000 < bits v 7 0 * bits (rd s (R.SPU_SENSE p)) 9 0)
    else if off = 0x48 then decide (16000 < bits (rd s (R.SPU_TRIP p)) 7 0 * bits v 9 0)
    else if off = 0x180 then passesEnd (bits v 12 0) (bits v 22 16) 7
    else if off = 0x18C then !finite32 v || flt32 v 0 || flt32 0x437F0000 v
    else if 0x800 ≤ off ∧ off % 8 = 0 then decide (6 ≤ bits v 29 27)
    else false
  else if pageIn page 0x78 0x7D then
    if off = 0x40 then hostCfgBad page old v else if off = 0x48 then bit v 0 else if off = 0x4C then badIp v else false
  else if page = 0x7E then off == 0x40 && bits v 1 0 == 0
  else if page = 0x80 then (off == 0x44 && decide (bits v 7 0 ≤ bits v 15 8)) || (pageIn off 0x300 0x3FF && areasOverlap s off v)
  else if page = 0x89 then off == 0x40 && !bit v 0
  else false

/-! ## Actions -/

/-- The write starts an action (R22, R468): it writes a WO field other than a buffer of bytes, or HM_MDIO. -/
def startsAction (page off : Nat) (d : RegDesc) : Bool :=
  (d.fields.any (fun f => f.acc == .wo) && !(page == 0x90 && pageIn off 0x80 0x9F) && !(page == 0xA0 && pageIn off 0x100 0x17F)) ||
  (pageIn page 0x78 0x7D && off == 0x60)

/-- The function whose EN a block register holds, if any. -/
def fnOfReg (s : State) (page off : Nat) : Option SwitchFn :=
  if page = 0x01 ∧ pageIn off 0x40 0x74 then (if h : (off - 0x40) / 4 < 14 then some (.domain ⟨(off - 0x40) / 4, h⟩) else none)
  else if pageIn page 0x21 0x26 ∧ 0x40 ≤ off ∧ off % 0x20 = 0 then
    let k := (page - 0x21) * 8 + (off - 0x40) / 0x20
    (if h : k < 48 then some (.lite ⟨k, h⟩) else none)
  else if pageIn page 0x49 0x4C ∧ off = 0x100 then
    let n := selLoop s page
    (if h : n < 512 then some (.loop ⟨n, h⟩) else none)
  else if page = 0x50 ∧ off = 0x100 then
    let c := selCircuit s
    (if h : c < 48 then some (.circuit ⟨c, h⟩) else none)
  else if pageIn page 0x61 0x70 ∧ (off = 0x100 ∨ off = 0x184) then
    (if h : page - 0x61 < 16 then some (if off = 0x100 then .station ⟨page - 0x61, h⟩ else .portMeter ⟨page - 0x61, h⟩) else none)
  else none

/-- The domain bars this write (R467, R468): it sets an EN or starts an action while the domain is not ON. -/
def domainRefuses (s : State) (page off : Nat) (d : RegDesc) (v : Word) : Bool :=
  domainBars s page &&
    (startsAction page off d || (match fnOfReg s page off with
      | some fn => (match fn with | .domain _ => false | _ => bit v 31 && fnState s fn == fsOFF)
      | none => false))

/-! ## The checks together -/

/-- The code of the highest-priority rule that a write to a block register breaks (R30). -/
def tableCode (s : State) (page off : Nat) (d : RegDesc) (old v : Word) : Code :=
  if allReadOnly d then .readOnly
  else if reservedSet d v || extraReserved s page off v then .reservedBits
  else if s.rwlLocked && lockedChange d old v then .lockedConfig
  else if stateBars s page off old v || domainRefuses s page off d v then .notInState
  else if illegalField d v || valueBars s page off old v then .illegalValue
  else .none

/-! ## Conditions of the chapters (R30) -/

/-- R64: whether anything names a flask. -/
def flaskNamed (s : State) (n : Nat) : Bool :=
  ownedBy s n != 0 || (upTo 256).any (fun p => tenantPage p && pageOwner s p == n) || (upTo 64).any (fun t => taskFlask s t == n) ||
  (upTo 512).any (fun l => loopFlask s l == n) || (upTo 48).any (fun c => circFlask s c == n) ||
  s.slots.any (fun (_, k) => attrValid k.attr && attrOwner k.attr == n)

/-- The conditions that a chapter sets on a write that breaks no rule of the tables: those of an enable, and those with a code of their own. -/
def chapterCode (s : State) (page off : Nat) (v : Word) : Code :=
  match fnOfReg s page off with
  | some fn =>
    if bit v 31 then (if enableActs s fn then enableCheck s v fn else .none)
    else match fn with
      | .domain d => if fnState s fn = fsOFF then .none else domainDisableCheck s d.val
      | _ => .none
  | none =>
    if page = 0x38 ∧ pageIn off 0x100 0x4FF ∧ off % 16 = 0 then
      let t := (off - 0x100) / 16
      if bit v 31 && (taskStateOf s t == tsDISABLED || taskStateOf s t == tsHALTED) then enableTaskCheck s t v (queueOwner s) else .none
    else if page = 0x31 ∧ pageIn off 0x44 0xBC then
      let n := (off - 0x40) / 4
      if !bit v 31 && flag s (R.FLK_CFG n) F.FLK_CFG_EN && flaskNamed s n then .notInState else .none
    else if pageIn page 0x28 0x2B ∧ 0x100 ≤ off ∧ off % 0x40 = 0 then
      let q := (page - 0x28) * 16 + (off - 0x100) / 0x40
      if bit v 31 then enableQueueCheck s q v else if queueOn s q then disableQueueCheck s q else .none
    else if pageIn page 0x49 0x4C ∧ pageIn off 0x180 0x21F then
      let n := selLoop s page
      let bank := (off - 0x180) / 0x50
      if loopSt s n ≠ fsOFF ∧ bank ≠ fld s (R.LPE_BANK n) F.LPE_BANK_ACTIVE ∧ flag s (R.LPE_BANK n) F.LPE_BANK_SWAP_PEND then .busy else .none
    else if pageIn page 0x58 0x5F ∧ 0x400 ≤ off then
      if bufBusy s (page - 0x58) ((off - 0x400) / 0x50) then .busy else .none
    else .none

end Sys2Proof.Machine
end

