-- ==== Sys2Proof/Machine/RegWrite.lean ====
section
/-! DEFINITION. Writing a register (R14, R16 to R18, R23, R27 to R32): the header, the block registers, the wide registers' stages, and the
action that each write starts. -/

namespace Sys2Proof.Machine

/-! ## Actions of single registers -/

/-- FRC_CMD for requester flask `f` (R59, R66): LOOKUP and READ_INDEX load the result registers. -/
def frcCommand (s : State) (f op : Nat) : State × Code :=
  let pid := fld s R.FRC_POINT F.FRC_POINT_POINT
  if op = 1 then forceSet s f pid (rd s (R.FRC_VALUE 1) ++ rd s (R.FRC_VALUE 0))
  else if op = 2 then forceClear s f pid
  else if op = 3 then
    let (s, c, hit) := forceLookup s f pid
    (if c = .none then showForce s hit else s, c)
  else if op = 4 then (forceClearFlask s f, .none)
  else if op = 5 then
    let (s, c, hit) := forceReadIndex s f (fld s R.FRC_INDEX F.FRC_INDEX_INDEX)
    (if c = .none then showForce s hit else s, c)
  else (s, .illegalValue)

/-- A write to a coefficient of the active bank of a loop that is not OFF: the misuse of R198, whose outcome, confined to the loop's states
and output, is a free value. -/
def loopMisuse (s : State) (n : Nat) : State :=
  let s := forAll (fun s i =>
    setSecState { s with free := s.free + 1 } n (i / 2) (i % 2) (signedOf 48 (Config.freeDWord s.free).toNat)) (upTo 8) s
  let (s, u) := takeFree s
  let s := wr s (R.LPE_UVAL n) u
  let (s, w) := takeFree s
  let x := loopAt s n
  setLoop s n { x with out := x.out.map (fun o => { o with u := w }) }

/-- A change of the DRAM timing registers while DRAM is in use (R35): all DRAM contents are lost to undefined values. -/
def dramMisuse (s : State) : State :=
  { s with mem := s.mem.filter (fun c => decide (c.1 < 0x80000000)), dramGen := s.dramGen + 1 }

/-- SYS_CMD (R469): RESET or RECOVER; the module reset is due. -/
def sysCommand (s : State) (v : Word) : State × Code := (resetDue s (if bits v 1 0 = 2 then 0x208 else 0x8), .none)

/-- TWN_CFG: PAIR decides whether the module is lone (R329, R330). -/
def pairWrite (s : State) (old : Word) : State :=
  if bit old 31 = paired s then s else setRole s (if paired s then rlNONE else rlALONE)

/-- The EN of a task, as written (R70, R88). -/
def taskEnWrite (s : State) (t : Nat) (v : Word) : State := if bit v 31 then enableTask s t else disableTask s t

/-- The EN of a queue, as written (R398): both banks start empty, and clearing EN empties the queue. -/
def queueEnWrite (s : State) (q : Nat) (old v : Word) : State := if bit v 31 != bit old 31 then resetQueue s q else s

/-- Swaps of LPE_BANK (R196). -/
def bankWrite (s : State) (n : Nat) (v : Word) : State × Code := if bit v 1 then bankSwap s n else (s, .none)

/-! ## What a write does after its checks -/

/-- The effect of an accepted write to a block register whose word has been set; `old` is the word before. -/
def afterWrite (s : State) (q : Requester) (page off : Nat) (old v : Word) : State × Code :=
  match fnOfReg s page off with
  | some fn => (if bit v 31 then enableFn s fn else disableFn s fn, .none)
  | none =>
    if page = 0x00 then (if off = 0x44 then modeRequest s (bits v 3 0) else if off = 0x48 then sysCommand s v else (s, .none))
    else if page = 0x02 then (if off = 0x60 then storeStart s v else (s, .none))
    else if page = 0x04 then (if off = 0x50 then rtcCommand s v else (s, .none))
    else if page = 0x05 then (if off = 0x44 ∧ bit v 31 then (clearTamper s, .none) else (s, .none))
    else if page = 0x07 then
      if pageIn off 0x100 0x5CC then (evtLevel s ((off - 0x100) / 4), .none)
      else if pageIn off 0x600 0x624 then (forAll evtLevel ((upTo 32).map (fun i => (off - 0x600) / 4 * 32 + i)) s, .none)
      else (s, .none)
    else if page = 0x08 ∨ page = 0x09 then (if off = 0x40 then seedWrite s (page == 0x09) v else (s, .none))
    else if page = 0x0A then
      if off = 0x40 then lockFree s v
      else if pageIn off 0x100 0x1FC then let (r, c) := lockRequester q; lockRelease s r c ((off - 0x100) / 4) v
      else (s, .none)
    else if page = 0x0C then (if pageIn off 0x50 0x58 ∧ v ≠ old ∧ flag s R.DDR_STAT F.DDR_STAT_TRAINED then dramMisuse s else s, .none)
    else if page = 0x0D then (if off = 0x54 then xspiStart s v else (s, .none))
    else if pageIn page 0x11 0x20 then
      if off = 0x4C then (if bit v 0 then ladleKick s (page - 0x11) else s, .none)
      else if off = 0x50 then bulkCommand s (page - 0x11) (bits v 1 0)
      else (s, .none)
    else if pageIn page 0x21 0x26 then
      (if off % 0x20 = 0x10 then liteCommand s ((page - 0x21) * 8 + (off - 0x40) / 0x20) (bits v 1 0) else (s, .none))
    else if pageIn page 0x28 0x2B then
      let n := (page - 0x28) * 16 + (off - 0x100) / 0x40
      let o := off % 0x40
      if o = 0 then (queueEnWrite s n old v, .none)
      else if o = 0x14 then queueCommand s n (bits v 1 0)
      else if pageIn o 0x18 0x24 then (registerPush s n (flaskOf s q) ((o - 0x18) / 4) v, .none)
      else (s, .none)
    else if page = 0x30 then (if off = 0x4C then ptdCommand s (bits v 2 0) else (s, .none))
    else if page = 0x31 then
      (if off = 0x1C0 then (forAll (fun s n => if bit v n then wr s (R.FLK_DENY n) 0 else s) (upTo 32) s, .none) else (s, .none))
    else if page = 0x32 then (if off = 0x4C then frcCommand s (flaskOf s q) (bits v 2 0) else (s, .none))
    else if page = 0x38 then
      if pageIn off 0x100 0x4FF ∧ off % 16 = 0 then (taskEnWrite s ((off - 0x100) / 16) v, .none)
      else if off = 0x40 then (clearCounters s v, .none)
      else (s, .none)
    else if pageIn page 0x39 0x40 then
      (if off = 0x48 ∧ bit v 31 then setFld s (R.SCC_UCAUSE (page - 0x39)) F.SCC_UCAUSE_OVF 0 else s, .none)
    else if page = 0x41 then (if off = 0x58 then xchOp s (xchPageReq s) (bits v 2 0) else (s, .none))
    else if page = 0x48 then (if off = 0x40 then groupSwap s (bits v 15 0) else s, .none)
    else if pageIn page 0x49 0x4C then
      let n := selLoop s page
      if off = 0x13C then bankWrite s n v
      else if pageIn off 0x180 0x21F ∧ loopSt s n ≠ fsOFF ∧ (off - 0x180) / 0x50 = fld s (R.LPE_BANK n) F.LPE_BANK_ACTIVE then (loopMisuse s n, .none)
      else (s, .none)
    else if page = 0x50 then
      if off = 0x118 then (if bits v 1 0 = 1 then circuitZero s (selCircuit s) else circuitClrMax s (selCircuit s)) else (s, .none)
    else if pageIn page 0x58 0x5F then
      let b := page - 0x58
      if off = 0x8C then canCommand s b v
      else if off = 0x90 then canTxRequest s b v (busAt s b).active.isNone
      else if off = 0x94 then
        let (s, w) := takeFree s
        canTxCancel s b v (match w.toNat % 3 with | 0 => .beforeSof | 1 => .arbitration | _ => .afterArbitration)
      else if off = 0x84 ∧ bit v 31 then
        (setFld (setFld s (R.FB_CLASHP b) F.FB_CLASHP_IDCLASH 0) (R.FB_CLASHP b) F.FB_CLASHP_COUNT 0, .none)
      else (s, .none)
    else if pageIn page 0x78 0x7D then
      let m := page - 0x78
      if off = 0x7C then (ptpPop s m false, .none)
      else if off = 0x8C then (ptpPop s m true, .none)
      else if off = 0xC8 then hmCounterClear s m v
      else (s, .none)
    else if page = 0x88 then
      if off = 0x40 then (pairWrite s old, .none) else if off = 0x54 then twnCommand s (bits v 2 0) else (s, .none)
    else if page = 0x90 then
      (if pageIn off 0x80 0x9C then (wr s (R.CRU_KEYIN ((off - 0x80) / 4)) v, .none) else (s, .none))
    else if page = 0x91 then (if off = 0x74 then cryGo s v else (s, .none))
    else if page = 0x98 then (if off = 0x48 then updCommand s v else (s, .none))
    else if page = 0xA0 then
      if off = 0x48 then debugCommand s q v else if off = 0x50 then goWrite s v
      else if pageIn off 0x100 0x17C then (wr s (R.DBG_RESP ((off - 0x100) / 4)) v, .none)
      else (s, .none)
    else (s, .none)

/-! ## Block registers -/

/-- Registers whose write has a check and an effect of its own in place of the plain one. -/
def ownWrite (s : State) (q : Requester) (page off : Nat) (v : Word) : Option (State × Code) :=
  if page = 0x04 ∧ (off = 0x40 ∨ off = 0x44) then some (calendarWrite s (off == 0x44) v)
  else if page = 0x04 ∧ off = 0x48 then some (rtcCtrlWrite s v)
  else if page = 0x06 ∧ off = 0x48 then some (tbRate s v)
  else if page = 0x06 ∧ off = 0x4C then some (tbSlew s v)
  else if pageIn page 0x78 0x7D ∧ off = 0x60 then some (mdioWrite s (page - 0x78) v)
  else if page = 0x90 ∧ off = 0x64 then some (cruStart s v)
  else if page = 0xA0 ∧ off = 0x4C then some (holdWrite s q v)
  else none

/-- A write that passes the tables' checks: the chapter's conditions, then the register and its effect. -/
def acceptWrite (s : State) (q : Requester) (page off : Nat) (d : RegDesc) (v : Word) : State × Code :=
  let key := keyAt s page off d
  let old := rd s key
  let act (s : State) : State := if startsAction page off d then domainRuns s (pageDomain page) else s
  if page = 0x80 ∧ pageIn off 0x100 0x2FF ∧ off % 8 = 0 then bindWrite s ((off - 0x100) / 8) v
  else match chapterCode s page off v with
    | .none =>
      let w := writtenWord d old v
      let w := if pageIn page 0x78 0x7A ∧ off = 0x40 then withBits w 1 0 (bits old 1 0) else w
      let (r, c) := afterWrite (act (wr s key w)) q page off old v
      if c = .none then (r, c) else (wr r key old, c)
    | c => (s, c)

/-- Stage a word of a wide register for a requester (R14). -/
def stageWord (s : State) (q : Requester) (key : Nat) (v : Word) : State :=
  { s with stages := { who := q, key := key, word := v } :: s.stages.filter (fun h => !(h.who == q && h.key == key)) }

/-- Commit a 64-bit register: a lower word that is not staged keeps its value (R14). -/
def commitWide (s : State) (q : Requester) (page : Nat) (kl kh : Nat) (v : Word) : State × Code :=
  let lo := ((s.stages.find? (fun h => h.who == q && h.key == kl)).map (·.word)).getD (rd s kl)
  let s := { s with stages := s.stages.filter (fun h => !(h.who == q && h.key == kl)) }
  if page = 0x06 then tbStep s (v ++ lo)
  else if pageIn page 0x49 0x4C ∧ v ≠ BitVec.ofInt 32 (signedOf 16 (v.toNat % 65536)) then (s, .illegalValue)
  else (wr (wr s kl lo) kh v, .none)

/-- A write of a word of a wide register. -/
def wideWrite (s : State) (q : Requester) (page off base : Nat) (d : RegDesc) (v : Word) : State × Code :=
  if off = base then (stageWord s q (keyAt s page off d) v, .none)
  else commitWide s q page (keyAt s page base d) (keyAt s page off d) v

/-- A write of a block register (R16, R27, R30). -/
def blockWrite (s : State) (q : Requester) (page off : Nat) (v : Word) : State × Code :=
  match findReg page off with
  | none => if v = 0 then (s, .none) else (s, .reservedBits)
  | some d =>
    let s := wakeFor s page off
    match ownWrite s q page off v with
    | some r => r
    | none =>
      match tableCode s page off d (rd s (keyAt s page off d)) v with
      | .none => (match wideOf page off with
        | some (base, _) => wideWrite s q page off base d v
        | none => acceptWrite s q page off d v)
      | c => (s, c)

/-! ## The header (R21, R23) -/

/-- Every switchable function of a tenant-assignable page is OFF (R23). -/
def pageIdle (s : State) (page : Nat) : Bool :=
  pageSt s page == fsOFF && (!pageIn page 0x61 0x70 || (svcSt s (page - 0x61) == fsOFF && pmSt s (page - 0x61) == fsOFF))

/-- PG_CTRL: EN of the page's function. -/
def ctrlWrite (s : State) (page : Nat) (v : Word) : State × Code :=
  let fn : SwitchFn := .page (BitVec.ofNat 8 page)
  if bits v 31 1 ≠ 0 then (s, .reservedBits)
  else if !pageSwitchable page then (if bit v 0 then (s, .none) else (s, .illegalValue))
  else if bit v 0 then
    if fnState s fn = fsOFF ∧ fnBarred s fn then (s, .notInState)
    else match (if enableActs s fn then enableCheck s v fn else .none) with
      | .none => (enableFn (wr s (R.PG_CTRL page) v) fn, .none)
      | c => (s, c)
  else (disableFn (wr s (R.PG_CTRL page) v) fn, .none)

/-- A write of a header register. -/
def headerWrite (s : State) (page off : Nat) (v : Word) : State × Code :=
  if off = 0x00 ∨ off = 0x08 then (s, .readOnly)
  else if off = 0x04 then ctrlWrite s page v
  else if off = 0x0C then
    if bits v 29 20 ≠ 0 then (s, .reservedBits)
    else (if bit v 31 then wr s (R.PG_ERR page) (withBits (rd s (R.PG_ERR page)) 31 30 0) else s, .none)
  else if off = 0x10 then
    if v.toNat &&& (0x7FFFFFFF - isrMask page) ≠ 0 then (s, .reservedBits)
    else (wr s (R.PG_ISR page) (rd s (R.PG_ISR page) &&& ~~~v), .none)
  else if off = 0x14 then
    if v.toNat &&& (0x7FFFFFFF - isrMask page) ≠ 0 then (s, .reservedBits)
    else (evtLevel (wr s (R.PG_IER page) v) page, .none)
  else if off = 0x18 then
    if bits v 31 24 ≠ 0 then (s, .reservedBits) else (latencyChanged (wr s (R.PG_LAT page) v) page, .none)
  else if off = 0x1C then
    if !tenantPage page then (s, .readOnly)
    else if bits v 31 5 ≠ 0 then (s, .reservedBits)
    else if !pageIdle s page then (s, .notInState)
    else (wr s (R.PG_FLASK page) v, .none)
  else if v = 0 then (s, .none)
  else (s, .reservedBits)

/-! ## The mirror of configuration writes (R343) -/

/-- The pages whose accepted writes the active forwards. -/
def forwardedPage (page : Nat) : Bool :=
  page == 0x30 || page == 0x31 || pageIn page 0x38 0x40 || pageIn page 0x48 0x4C || pageIn page 0x50 0x54 || pageIn page 0x58 0x71

/-- Writes to W1C fields, to counters, and to the transmit side of a CAN controller are not forwarded. -/
def notForwarded (page off : Nat) : Bool :=
  off == 0x0C || off == 0x10 ||
  (match findReg page off with
    | some d => decide (0x40 ≤ off) && !d.fields.any (fun f => accWritable f.acc && f.acc != .w1c)
    | none => false) ||
  (pageIn page 0x51 0x52 && off == 0x44) || (pageIn page 0x58 0x5F && (pageIn off 0x6C 0x7C || pageIn off 0x8C 0x94 || decide (0x400 ≤ off))) ||
  (pageIn page 0x61 0x70 && (off == 0x58 || off == 0x5C || pageIn off 0x118 0x124 || off == 0x198))

def forwardConfig (s : State) (page off : Nat) (v : Word) : State :=
  if pairActive s && forwardedPage page && !notForwarded page off then
    setTwin s { s.twin with config := s.twin.config ++ [{ page := BitVec.ofNat 8 page, off := BitVec.ofNat 12 off, v := v }] }
  else s

/-! ## A register write -/

/-- A register write that R24 allows: applied, or rejected with the code. -/
def regWrite (s : State) (q : Requester) (page off : Nat) (v : Word) : State × Code :=
  if (pageAlloc page).isNone then (s, .none)
  else
    match (if off < 0x40 then headerWrite s page off v else blockWrite s q page off v) with
    | (r, .none) => (forwardConfig r page off v, .none)
    | (r, c) => (r, c)

/-- A register write by a requester: gated, answered, and recorded where it is rejected (R24, R28). NRAP does not reach a lock (R371). -/
def writeCommand (s : State) (q : Requester) (page off : Nat) (v : Word) : State :=
  gated s q page off (fun s => if lockBarred q page off then answer s .notInState else endCommand page off (regWrite s q page off v))

end Sys2Proof.Machine
end

