-- ==== Sys2Proof/Machine/Boot.lean ====
section
/-! DEFINITION. Module resets (R469, R470), the boot ROM (R471 to R473, R409, R421), the Pattern overlay (R477, R478), the restoration of forces,
retentive data and metering totals, and the entry into BACKUP (R456). -/

namespace Sys2Proof.Machine

/-! ## The module reset (R470) -/

/-- NOR work that the reset interrupts leaves its range undefined (R479, R486, R495). -/
def interruptNor (s : State) : State :=
  let up (n : Nat) : Nat := (n + 4095) / 4096 * 4096
  let s := if updState s = udWRITING ∧ s.upd.manifest ≠ [] then tornNor s 0x10000 (up s.upd.len) else s
  let s := if s.recov.commit = 1 then tornNor s 0x10000 (up s.recov.total) else s
  let s := match s.boot.store with | some j => tornNor s j.off (up j.len) | none => s
  match s.boot.xspi with
  | some j => if j.op = 3 then s else tornNor s j.off j.len
  | none => s

/-- The registers that a module reset keeps: pages 04h and 05h, SYS_RSTCAUSE and SCN_PFWST. -/
def keptReg (key : Nat) : Bool := inBackup key || key == R.SYS_RSTCAUSE || key == R.SCN_PFWST

/-- The state that a module reset leaves: `causes` go to SYS_RSTCAUSE, which a power-on reset (bit 0) clears first with SCN_PFWST. What lies in
the NVR, the NOR, OTP and the backup domain stays, and so does the suspension of revertive returns (R354). -/
def moduleReset (s : State) (causes : Nat) : State :=
  let s := interruptNor s
  let por := causes % 2 = 1
  let old := if por then 0 else rd s R.SYS_RSTCAUSE
  let susp := fld s R.TWN_STAT F.TWN_STAT_REV_SUSP
  let r : State :=
    { pending := s.pending, regs := tkeep (fun k => if por then inBackup k else keptReg k) s.regs
      mem := s.mem.filter (fun c => pageIn c.1 0x30000000 0x3FFFFFFF)
      resets := s.resets + 1, free := s.free, drawn := s.drawn, norGen := s.norGen, answer := s.answer
      nvrForces := s.nvrForces, scan := { nvr := s.scan.nvr }, meter := { saves := s.meter.saves, nvr := s.meter.nvr }
      evLog := s.evLog
      twin := { returns := s.twin.returns, epochNvr := s.twin.epochNvr, evSeq := s.twin.evSeq }, nrap := { bootNvr := s.nrap.bootNvr }
      rtc := s.rtc, otp := s.otp
      crypto := { store := s.crypto.store, storeGen := s.crypto.storeGen, erasePend := s.crypto.erasePend }
      boot := { env := s.boot.env, delivered := s.boot.delivered, recover := causes.testBit 9 } }
  evtLevel (evtLevel (setFld (wr r R.SYS_RSTCAUSE (old ||| BitVec.ofNat 32 causes)) R.TWN_STAT F.TWN_STAT_REV_SUSP susp) 4) 5

/-! ## Root and keys (R409, R420, R421) -/

/-- The root that a bank holds, when it passes its check. -/
def bankRoot (b : RootBank) : Option (List Byte) :=
  let root := xorBytes b.root b.mask
  if b.done && (aesCmac root (List.replicate 16 0)).take 4 == b.check then some root else none

/-- A bank with a fresh root and mask. -/
def newBank (s : State) : State × RootBank :=
  let (s, root) := drawBytes s 32
  let (s, mask) := drawBytes s 32
  (s, { used := true, done := true, root := xorBytes root mask, mask := mask, check := (aesCmac root (List.replicate 16 0)).take 4 })

/-- Put the root into slot 0, in two shares; ROOT_STATE names the bank. -/
def installRoot (s : State) (root : List Byte) (rs : Nat) : State :=
  let (s, share) := drawBytes s root.length
  setFld (setSlot s 0 { attr := 0xC1C00000, material := root, share := share }) R.CRU_STAT F.CRU_STAT_ROOT_STATE rs

/-- No bank loads, or the entropy source fails: the Crucible stays sealed. -/
def rootFailed (s : State) : State := setFld (sealCrucible s) R.CRU_STAT F.CRU_STAT_ROOT_STATE 4
def entropyFailed (s : State) : State := setFld (sealCrucible s) R.CRU_STAT F.CRU_STAT_ENTROPY_FAIL 1

/-- Phase 03h: load the root of the highest bank that is DONE, or provision one. Three attempts at the health tests are made. -/
def loadRoot (s : State) : State :=
  let a := s.otp.bankA
  let b := s.otp.bankB
  if s.otp.killed then setFld (sealCrucible s) R.CRU_STAT F.CRU_STAT_ROOT_STATE 3
  else if b.done then (match bankRoot b with | some r => installRoot s r 2 | none => rootFailed s)
  else match bankRoot a with
    | some r => installRoot s r 1
    | none =>
      if a.used ∧ b.used then rootFailed s
      else if s.boot.env.health = 0 then entropyFailed s
      else
        let (s, k) := newBank s
        if a.used then installRoot { s with otp := { s.otp with bankB := k } } (xorBytes k.root k.mask) 2
        else installRoot { s with otp := { s.otp with bankA := k } } (xorBytes k.root k.mask) 1

/-- Restore the persistent keys, each in two fresh shares, and every GEN. -/
def restoreKeys (s : State) : State :=
  if cruSealed s then s
  else
    forAll (fun s n =>
      if n = 0 then s
      else
        let gen := BitVec.ofNat 16 (tget (fun _ => 0) s.crypto.storeGen n)
        match tget (fun _ => none) s.crypto.store n with
        | some k => let (s, b) := drawBytes s k.material.length; setSlot s n { k with share := b, gen := gen }
        | none => setSlot s n { gen := gen }) (upTo 256) s

/-! ## Phases -/

def bootPhase (s : State) : Nat := fld s R.BOOT_STAT F.BOOT_STAT_PHASE
def setPhase (s : State) (n : Nat) : State := setFld s R.BOOT_STAT F.BOOT_STAT_PHASE n

/-- The PLLs of some islands lock. -/
def lockPlls (s : State) (p : Nat → Bool) : State :=
  forAll (fun s n => if p n then setBit s R.CLK_LOCK n true else s) (upTo 32) s

/-- Phases 01h to 05h. A pending erase is served before anything else that reads the store, and a debug session that waited is opened. -/
def bootStart (s : State) : State :=
  let s := wr (lockPlls s (fun n => [1, 2, 12, 13].contains (islandDomain n))) R.CLK_STAT 0xC0000000
  let s := setFld s R.TWN_CFG F.TWN_CFG_HOME (b2n s.boot.env.home)
  let s := if flag s R.TMP_LATCH F.TMP_LATCH_VALID then sealByTamper s else s
  let s := if s.boot.tampered then s else loadRoot s
  let s := if s.crypto.erasePend then setCrypto s { s.crypto with store := [], storeGen := [], erasePend := false } else s
  let n := if s.nrap.bootNvr + 1 = 0 then 1 else s.nrap.bootNvr + 1
  let s := wr { s with nrap := { s.nrap with bootNvr := n } } R.NRP_BOOT n
  let s := setFld (wr s R.TWN_EPOCH s.twin.epochNvr) R.NVR_STAT F.NVR_STAT_READY 1
  let s := setPhase (restoreKeys s) 4
  let s := if s.crypto.openWait then debugOpen s else s
  let s := wr (wr s R.XSPI_SIZE (BitVec.ofNat 32 (0x2000000 * 2 ^ s.boot.env.nor.val))) R.XSPI_ID (s.boot.env.norId.setWidth 32)
  setPhase (showJournal s) 5

/-- Phase 06h (R480). -/
def trainDram (s : State) : State :=
  let e := s.boot.env
  setPhase (wr (wr s R.DDR_CFG (BitVec.ofNat 32 (e.density.val + 256 * b2n e.x16))) R.DDR_STAT 0x80000001) 6

/-- The rows 1 to 3 of R473, but for the manifest's check: the ROM goes no further than DRAM training. -/
def recoveryRow (s : State) : Option Nat :=
  let rs := fld s R.CRU_STAT F.CRU_STAT_ROOT_STATE
  if s.boot.recover then some 1
  else if s.boot.tampered ∨ rs = 4 ∨ flag s R.CRU_STAT F.CRU_STAT_ENTROPY_FAIL then some 2
  else if flag s R.UPD_STAT F.UPD_STAT_JOPEN then some 3
  else none

/-- Phase 09h: both copies are authenticated and one is taken; its place. -/
def choosePattern (s : State) : State × Option Nat :=
  let ok (n : Nat) : Bool := patOk s (patCopy n) 0x100000
  let code (n : Nat) : Nat := if ok n then 2 else if patPresent s (patCopy n) then 1 else 0
  let seq (n : Nat) : Nat := (patHead s (patCopy n)).seq
  let used : Option Nat := if ok 0 && (!ok 1 || decide (seq 1 ≤ seq 0)) then some 0 else if ok 1 then some 1 else none
  let s1 := wr s R.BOOT_PATSTAT (BitVec.ofNat 32 (code 1 * 16 + code 0 + (used.getD 0) * 256))
  match used with
  | some n => (wr s1 R.BOOT_PATSEQ (BitVec.ofNat 32 (seq n)), some n)
  | none => (s1, none)

/-! ## The overlay (R477, R478) -/

/-- A rejected entry: its section (1 flask, 2 point, 3 mould, 4 register, 5 task), index and code. -/
def overlayReject (s : State) (sec idx : Nat) (c : Code) : State :=
  let s := if fld s R.BOOT_PATREJ2 F.BOOT_PATREJ2_COUNT = 0 then
      setFld (setFld (setFld s R.BOOT_PATREJ F.BOOT_PATREJ_CODE (codeNum c)) R.BOOT_PATREJ F.BOOT_PATREJ_SECTION sec)
        R.BOOT_PATREJ2 F.BOOT_PATREJ2_INDEX idx
    else s
  bumpFld s R.BOOT_PATREJ2 F.BOOT_PATREJ2_COUNT 1

/-- A value writes 1 to a W1C field, or a non-zero value to a WO field. -/
def overlayBarred (page off : Nat) (v : Word) : Bool :=
  if off < 0x40 then (off == 0x10 && v != 0) || (off == 0x0C && bit v 31)
  else match findReg page off with
    | some d => d.fields.any (fun f => (f.acc == .w1c || f.acc == .wo) && bits v f.hi f.lo != 0)
    | none => false

/-- One register write of the overlay; a rejection is recorded on the page (R28). -/
def overlayWrite (s : State) (page off : Nat) (v : Word) : State × Code :=
  let (r, c) := if overlayBarred page off v then (s, .illegalValue) else regWrite s (.mgmt 0) page off v
  if c = .none then (r, .none) else (pgError s page off c, c)

/-- Several writes of one entry: the first rejection undoes the entry. -/
def overlayWrites (s0 : State) : State → List (Nat × Word) → State × Code
  | s, [] => (s, .none)
  | s, (key, v) :: r =>
    let page := (key / 4096) % 256
    match overlayWrite s page (key % 4096) v with
    | (s, .none) => overlayWrites s0 s r
    | (_, c) => (pgError s0 page (key % 4096) c, c)

def overlayEntry (s : State) (sec idx : Nat) (ws : List (Nat × Word)) : State :=
  match overlayWrites s s ws with
  | (s, .none) => s
  | (s, c) => overlayReject s sec idx c

def wordAt (s : State) (a : Nat) : Word := BitVec.ofNat 32 (loadN s a 4)

/-- Step 1: the flask section. -/
def overlayFlasks (s : State) (a : Nat) : State :=
  forAll (fun s n => overlayEntry s 1 n [(R.FLK_CFG n, wordAt s (a + 4 * n))]) (upTo 32) s

/-- Step 2: the point section, whose POINT fields rise strictly. -/
def overlayPoints (s : State) (a n : Nat) : State :=
  forAll (fun s i =>
    let e := a + 8 * i
    let pid := loadN s e 2
    let early := i != 0 && decide (pid ≤ loadN s (e - 8) 2)
    let (s, c) := if 8192 ≤ pid ∨ early ∨ 32 ≤ (byteAt s (e + 2)).toNat then (s, .illegalValue)
      else ptdAlloc s pid (byteAt s (e + 2)).toNat (byteAt s (e + 3)).toNat (wordAt s (e + 4))
    if c = .none then s else overlayReject s 2 i c) (upTo n) s

/-- A mould of the overlay, staged as a first load and switched at once. -/
def overlayMould (s : State) (e : Nat) : State × Code :=
  let f := (byteAt s e).toNat
  let off := loadN s (e + 4) 4
  let len := loadN s (e + 8) 4
  if 32 ≤ f ∨ loadN s (e + 2) 2 ≠ 0 ∨ loadN s (e + 12) 4 ≠ 0 ∨ off % 16 ≠ 0 ∨ off < 0x1200000 ∨ (rd s R.XSPI_SIZE).toNat < off + len then (s, .illegalValue)
  else
    let x : Xch := { src := norBase + off, len := len, key := (byteAt s (e + 1)).toNat }
    match stageCheck { s with xch := x } f 0 0 with
    | (_, some m) => (setMould (buildRegions s x.src m) f (some m), .none)
    | (c, none) => (s, c)

/-- Step 3: the mould section. -/
def overlayMoulds (s : State) (a n : Nat) : State :=
  forAll (fun s i => match overlayMould s (a + 16 * i) with
    | (s, .none) => s
    | (s, c) => overlayReject s 3 i c) (upTo n) s

/-- The RW fields of a register return to their reset values. -/
def revertRw (s : State) (key : Nat) : State :=
  match findReg ((key / 4096) % 256) (key % 4096) with
  | some d => d.fields.foldl (fun s f => if f.acc = .rw then wr s key (withBits (rd s key) f.hi f.lo (bits (resetWord key) f.hi f.lo)) else s) s
  | none => s

/-- The key that a register write reaches. -/
def writtenKey (s : State) (page off : Nat) : Nat :=
  match findReg page off with | some d => keyAt s page off d | none => regKey page off 0

/-- Step 4: the register section. Each entry is PAGE, 00h, OFFSET and VALUE. -/
def overlayRegs (s : State) (a n : Nat) : State :=
  let (s, keys) := (upTo n).foldl (fun (x : State × List Nat) i =>
    let (s, keys) := x
    let e := a + 8 * i
    let page := (byteAt s e).toNat
    let off := loadN s (e + 2) 2
    if byteAt s (e + 1) ≠ 0 ∨ off % 4 ≠ 0 ∨ 4096 ≤ off then (overlayReject s 4 i .illegalValue, keys)
    else
      let key := writtenKey s page off
      (overlayEntry s 4 i [(regKey page off 0, wordAt s (e + 4))], if 0x40 ≤ off then key :: keys else keys)) (s, [])
  forAll revertRw keys { s with stages := [] }

/-- Step 5: the task section, first with every EN cleared, then with each as stored. -/
def overlayTasks (s : State) (a : Nat) : State :=
  let w (s : State) (n i : Nat) : Word := wordAt s (a + 16 * n + 4 * i)
  let s := forAll (fun s n => overlayEntry s 5 n
    [(R.SCN_TCFG n, withBits (w s n 0) 31 31 0), (R.SCN_TPER n, w s n 1), (R.SCN_TBUD n, w s n 2), (R.SCN_TSRC n, w s n 3)]) (upTo 64) s
  forAll (fun s n => overlayEntry s 5 n [(R.SCN_TCFG n, w s n 0)]) (upTo 64) s

/-- The overlay of the Pattern at an address. -/
def overlay (s : State) (a : Nat) : State :=
  let h := patHead s a
  let s := overlayMoulds (overlayPoints (overlayFlasks s (a + h.flkOff)) (a + h.pntOff) h.pntN) (a + h.mldOff) h.mldN
  overlayTasks (overlayRegs s (a + h.regOff) h.regN) (a + h.tskOff)

/-! ## Restoring (R60, R93, R239) -/

/-- The discard of a force is written to the event log (R60). -/
def logDiscard (s : State) (pid : BitVec 13) : State :=
  setTwin { s with evLog := s.evLog ++ [{ seq := s.twin.evSeq, point := pid }] } { s.twin with evSeq := s.twin.evSeq + 1 }

/-- The forces that the NVR holds; one whose point is not allocated is discarded. -/
def restoreForces (s : State) : State :=
  saveForces (s.nvrForces.foldl (fun s (k, e) =>
    match e with
    | some e =>
      let pid := e.point.toNat
      let p := pointAt s pid
      if p.alloc then commitForce (setForce s k (some e)) pid (forcedRecord p k e.value s.now) else logDiscard s e.point
    | none => s) { s with forces := [] })

/-- The retentive instances of a flask's mould: those that the NVR holds under the same key, type and version, and those that it does not. -/
def retainFound (s : State) (f : Nat) (e : InstEnt) : Option NvrInst :=
  (nvrOf s f).find? (fun x => x.key == e.key && x.typeId == e.typeId && x.ver == e.ver && x.bytes.length == e.size)

/-- Restore a flask's retentive data. A task whose program instance is lost posts RETAIN_LOST at its first run, and every task of the flask does when
the instance lost is no task's own (assumption 14); the NVR then receives the instances as a new generation. -/
def restoreFlask (s : State) (f : Nat) : State :=
  match mouldOf s f with
  | none => s
  | some m =>
    let is := m.insts.filter instRetain
    let lost := is.filter (fun e => (retainFound s f e).isNone)
    let s := forAll (fun s e => match retainFound s f e with
      | some x => putBytes s (m.dataAt + e.offset) x.bytes
      | none => s) is s
    if lost = [] then s
    else
      let shared := lost.any (fun e => !m.tasks.any (fun t => t.progInst == e.offset))
      let s := forAll (fun s t =>
        let own := match m.tasks[fld s (R.SCN_TSRC t) F.SCN_TSRC_MOULD_TASK]? with
          | some x => lost.any (fun e => e.offset == x.progInst)
          | none => false
        if taskEnabled s t && taskFlask s t == f && (own || shared) then setTask s t { taskAt s t with lostRetain := true } else s) (upTo 64) s
      { s with scan := { s.scan with newGen := tput (fun _ => none) s.scan.newGen f (some (retentiveOf s m)) } }

/-- Phase 0Bh. -/
def restoreAll (s : State) : State :=
  let s := forAll restoreFlask (upTo 32) (restoreForces s)
  let gap := match newestRecord s with | some r => calSeconds s - secondsOf r.date r.time | none => 0
  restoreMeters s gap

/-! ## The end of BOOT (R473) -/

/-- Every switchable function. -/
def allFns : List SwitchFn :=
  ((upTo 256).filter pageSwitchable).map (fun p => .page (BitVec.ofNat 8 p)) ++ (List.finRange 512).map .loop ++ (List.finRange 48).map .circuit ++
  (List.finRange 48).map .lite ++ (List.finRange 16).map .station ++ (List.finRange 16).map .portMeter

/-- BOOT ends in the mode of a row: the clock stands at the time that BOOT took, and the enabled functions start. -/
def bootExit (s : State) (row : Nat) : State :=
  let s := advanceTo s (BitVec.ofNat 64 (s.boot.env.ms * 100000))
  let t := s.now.toNat
  let s := { s with nextTick := t / 100000 + 1, nextGrid := t / 25000 + 1, meter := { s.meter with nextSample := t / 12500 + 1 } }
  let s := setFld (setFld (setFld s R.BOOT_STAT F.BOOT_STAT_EXIT row) R.BOOT_STAT F.BOOT_STAT_TIME (min 0xFFFF (t / 100000)))
    R.BOOT_STAT F.BOOT_STAT_RAILWAIT 0
  let s := if !paired s then setRole s rlALONE else if row = 7 then startResolving s else setRole s rlNONE
  if row ≤ 3 then changeMode s mdRECOVERY 6
  else
    let md := if row = 6 then mdACTIVE else if row = 7 then mdSTANDBY else mdCOMMISSION
    let s := changeMode (setPhase s 0xC) md 6
    refreshAll (forAll (fun s fn => if fnEn s fn then enableFn s fn else s) allFns s)

/-- Phases 08h to 0Ch. -/
def bootFinish (s : State) : State :=
  let (s, pat) := choosePattern (setPhase (lockPlls s (fun _ => true)) 8)
  match pat with
  | none => bootExit (setPhase (restoreAll (setPhase s 9)) 0xB) 4
  | some n =>
    let a := patCopy n
    let s := setPhase (restoreAll (setPhase (overlay (setPhase s 9) a) 0xA)) 0xB
    let row := if (patHead s a).commission ∨ fld s R.BOOT_PATREJ2 F.BOOT_PATREJ2_COUNT ≠ 0 then 5 else if paired s then 7 else 6
    bootExit s row

/-- The ROM waits for a supply (R472). -/
def railWait (s : State) : State := setFld s R.BOOT_STAT F.BOOT_STAT_RAILWAIT 1

/-- From phase 07h: the manifest's parts are checked, and the line and analogue supplies waited for. -/
def bootFirmware (s : State) : State :=
  match recoveryRow s with
  | some r => bootExit s r
  | none =>
    if bootPhase s < 7 ∧ imageCheck s true ≠ .none then bootExit s 3
    else
      let s := if bootPhase s < 7 then setPhase (runFirmware s (fwAt s imageAt)) 7 else s
      if s.boot.env.rails.toNat / 4 = 7 then bootFinish (setFld s R.BOOT_STAT F.BOOT_STAT_RAILWAIT 0) else railWait s

/-- The boot ROM, from the phase it stands at to the end of BOOT or to a supply that it waits for. -/
def bootRom (s : State) : State :=
  if modeNow s ≠ mdBOOT then s
  else
    let s := if bootPhase s < 5 then bootStart s else s
    if 6 ≤ bootPhase s then bootFirmware s
    else if s.boot.env.rails.toNat % 4 = 3 then bootFirmware (trainDram (setFld s R.BOOT_STAT F.BOOT_STAT_RAILWAIT 0))
    else railWait s

/-! ## Resets as commands -/

/-- A module reset with its causes, and the BOOT that follows. In BACKUP only a power-on reset ends the hold (R456). -/
def resetModule (s : State) (causes : Nat) : State :=
  if modeNow s = 0 ∧ causes % 2 = 0 then s else bootRom (moduleReset s causes)

/-- Serve a reset that a command has asked for. -/
def settleReset (s : State) : State :=
  match s.boot.due with
  | some c => resetModule { s with boot := { s.boot with due := none } } c
  | none => s

/-- SUPPLY_GOOD: a supply becomes good `ms` after t0; a ROM that waits goes on. -/
def supplyGood (s : State) (rail ms : Nat) : State :=
  let s := setBoot s { s.boot with env := { s.boot.env with rails := s.boot.env.rails ||| BitVec.ofNat 5 (2 ^ rail) } }
  if modeNow s = mdBOOT ∧ flag s R.BOOT_STAT F.BOOT_STAT_RAILWAIT then bootRom (advanceTo s (BitVec.ofNat 64 (ms * 100000))) else s

/-- SUPPLY_FAIL: the module is held in reset. With VBKP the backup domain is kept on it (R450); without, it is lost as well (R452). -/
def supplyFail (s : State) (vbkp : Bool) : State :=
  let s := setFld (moduleReset s 0) R.SYS_MODE F.SYS_MODE_MODE 0
  if vbkp then supplySwitch s true else backupReset s

/-- POWER_ON_RESET: what the ROM finds around it is given afresh, and the backup domain goes back to VAON (R450). -/
def powerOn (s : State) (x : BootEnv) : State :=
  let s := moduleReset s 1
  bootRom (supplySwitch { s with boot := { s.boot with env := x } } false)

/-! ## The commands -/

/-- POWER_ON_RESET (R469). -/
def execPowerOnReset (x : BootEnv) (s : State) : Host.Outcome State Fault Refusal := .next (powerOn s x)
/-- RESET_PIN (R469). -/
def execResetPin (s : State) : Host.Outcome State Fault Refusal := .next (resetModule s 0x4)
/-- SYS_RESET (R469): SYS_CMD with OP RESET. -/
def execSysReset (q : Requester) (key : BitVec 16) (s : State) : Host.Outcome State Fault Refusal :=
  .next (settleReset (writeCommand s q 0x00 0x48 (BitVec.ofNat 32 (key.toNat * 65536 + 1))))
/-- SYS_RECOVER (R469): SYS_CMD with OP RECOVER. -/
def execSysRecover (q : Requester) (key : BitVec 16) (s : State) : Host.Outcome State Fault Refusal :=
  .next (settleReset (writeCommand s q 0x00 0x48 (BitVec.ofNat 32 (key.toNat * 65536 + 2))))
/-- MGMT_WATCHDOG_RESET (R469). -/
def execMgmtWatchdogReset (s : State) : Host.Outcome State Fault Refusal := .next (resetModule s 0x10)
/-- LOCKSTEP_RESET (R469). -/
def execLockstepReset (s : State) : Host.Outcome State Fault Refusal := .next (resetModule s 0x20)
/-- THERMAL_RESET (R469). -/
def execThermalReset (s : State) : Host.Outcome State Fault Refusal := .next (resetModule s 0x80)
/-- SUPPLY_GOOD (R472). -/
def execSupplyGood (rail : Fin 5) (ms : Nat) (s : State) : Host.Outcome State Fault Refusal := .next (supplyGood s rail.val ms)
/-- SUPPLY_FAIL (R456). -/
def execSupplyFail (vbkp : Bool) (s : State) : Host.Outcome State Fault Refusal := .next (supplyFail s vbkp)
/-- DEBUG_RESET (R414): DBG_CMD with OP RESET. -/
def execDebugReset (q : Requester) (s : State) : Host.Outcome State Fault Refusal :=
  .next (settleReset (gated s q 0xA0 0x48 (fun s => endCommand 0xA0 0x48 (debugCommand s q 3))))
/-- UPD_ACTIVATE (R499). -/
def execUpdActivate (q : Requester) (s : State) : Host.Outcome State Fault Refusal :=
  .next (settleReset (gated s q 0x98 0x48 (fun s => endCommand 0x98 0x48 (updCommand s 3))))
/-- ACTIVATION_PAUSE_END (R500, R501). -/
def execActivationPauseEnd (ok : Bool) (counts : Nat) (s : State) : Host.Outcome State Fault Refusal :=
  .next (settleReset (activationPauseEnd s ok counts))
/-- RECOVERY_RESET (R507). -/
def execRecoveryReset (m : Fin 3) (mac : List Byte) (seq : Word) (s : State) : Host.Outcome State Fault Refusal :=
  .next (settleReset (recovRequest s m.val mac seq.toNat recovReset))

end Sys2Proof.Machine
end

