-- ==== Sys2Proof/Machine/Access.lean ====
section
/-! DEFINITION. The commands of the register pages, of switchable functions and of the point directory (01_register_pages.md,
02_points_and_flasks.md), and those of other chapters that are register writes. -/

namespace Sys2Proof.Machine

/-! ## Register accesses -/

/-- A register write, and the module reset that it may ask for. A misaligned one ends with a bus error (R13). -/
def registerWrite (s : State) (q : Requester) (page off : Nat) (v : Word) : State :=
  if off % 4 ≠ 0 then { s with answer := { busError := true } } else settleReset (writeCommand s q page off v)

/-- A register read. -/
def registerRead (s : State) (q : Requester) (page off : Nat) : State :=
  if off % 4 ≠ 0 then { s with answer := { busError := true } } else readCommand s q page off

/-- An access of `n` bytes that does not end with a decode error moves the bytes of plain memory; pages and window have rows of their own. -/
def memoryAccess (s : State) (a n : Nat) (data : Option (List Byte)) : State :=
  if !plainMemory a then s
  else match data with
    | none =>
      let (s, b) := readBytes s a n
      { s with answer := { bytes := b } }
    | some b => { putBytes s a b with answer := {} }

/-- An access to the address space: with one byte outside what is served, none is moved (R12). -/
def addressAccess (s : State) (q : Requester) (a len : Nat) (data : Option (List Byte)) : State :=
  let n := match data with | some b => b.length | none => len
  served s q (fun s =>
    if decodeError s a n data.isSome then { s with answer := { busError := true, bytes := if data.isSome then [] else List.replicate n 0 } }
    else memoryAccess s a n data)

/-- An access of eight words that a Ladle channel makes to one whole record (R53). -/
def recordBurst (q : Requester) (a len : Nat) : Bool :=
  match q with
  | .ladle _ => a % 32 == 0 && len == 32
  | _ => false

/-- An access to the register pages (R13) or to the point directory window (R53) that is not an aligned word, nor in the window a burst of a
whole record, ends with a bus error. One of the right form has rows of its own. -/
def misalignedAccess (s : State) (q : Requester) (a len : Nat) : State :=
  if (a % 4 != 0 || len != 4) && (pageIn a 0x40000000 0x400FFFFF || (pageIn a 0x50000000 0x5003FFFF && !recordBurst q a len)) then
    { s with answer := { busError := true } }
  else s

/-- A write of a register that a selector shows, the selector set first. -/
def selectedWrite (s : State) (q : Requester) (page selOff slot off : Nat) (v : Word) : State :=
  gated s q page off (fun s => endCommand page off (regWrite (regWrite s q page selOff (BitVec.ofNat 32 slot)).1 q page off v))

/-- A write of a function's control register that changes its EN alone. -/
def enWrite (s : State) (q : Requester) (fn : SwitchFn) (on : Bool) : State :=
  let (key, f) := fnCtrl fn
  let page := fnPage fn
  let v := withBits (rd s key) f.hi f.lo (b2n on)
  match fn with
  | .loop n => selectedWrite s q page 0x40 (n.val % 128) (key % 4096) v
  | .circuit c => selectedWrite s q page 0x80 c.val (key % 4096) v
  | _ => writeCommand s q page (key % 4096) v

/-! ## The commands of chapter 01 -/

/-- REGISTER_WRITE (R27). -/
def execRegisterWrite (q : Requester) (page : BitVec 8) (off : BitVec 12) (v : Word) (s : State) : Host.Outcome State Fault Refusal :=
  .next (registerWrite s q page.toNat off.toNat v)
/-- ADDRESS_DECODE_ERROR (R12): `data` is what a write carries. -/
def execAddressDecodeError (q : Requester) (addr : Word) (len : Nat) (data : Option (List Byte)) (s : State) : Host.Outcome State Fault Refusal :=
  .next (addressAccess s q addr.toNat len data)
/-- REGISTER_ACCESS_MISALIGNED (R13). -/
def execRegisterAccessMisaligned (q : Requester) (addr : Word) (len : Nat) (_write : Bool) (s : State) : Host.Outcome State Fault Refusal :=
  .next (served s q (fun s => misalignedAccess s q addr.toNat len))
/-- WIDE_REGISTER_READ (R14): a register read. -/
def execWideRegisterRead (q : Requester) (page : BitVec 8) (off : BitVec 12) (s : State) : Host.Outcome State Fault Refusal :=
  .next (registerRead s q page.toNat off.toNat)
/-- WIDE_REGISTER_COMMIT (R14): a write of the highest word. -/
def execWideRegisterCommit (q : Requester) (page : BitVec 8) (off : BitVec 12) (v : Word) (s : State) : Host.Outcome State Fault Refusal :=
  .next (registerWrite s q page.toNat off.toNat v)
/-- ENABLE_WRITE (R31). -/
def execEnableWrite (q : Requester) (fn : SwitchFn) (s : State) : Host.Outcome State Fault Refusal := .next (enWrite s q fn true)
/-- DISABLE_WRITE (R31). -/
def execDisableWrite (q : Requester) (fn : SwitchFn) (s : State) : Host.Outcome State Fault Refusal := .next (enWrite s q fn false)
/-- STARTING_COMPLETE (R31). -/
def execStartingComplete (fn : SwitchFn) (s : State) : Host.Outcome State Fault Refusal := .next (startedFn s fn)
/-- STOPPING_COMPLETE (R32). -/
def execStoppingComplete (fn : SwitchFn) (s : State) : Host.Outcome State Fault Refusal := .next (stoppedFn s fn)
/-- EVENT_PEND_CLEAR (R37). -/
def execEventPendClear (q : Requester) (k : Fin 10) (mask : Word) (s : State) : Host.Outcome State Fault Refusal :=
  .next (writeCommand s q 0x07 (0x600 + 4 * k.val) mask)
/-- LATENCY_WRITE (R466). -/
def execLatencyWrite (q : Requester) (page : BitVec 8) (v : Word) (s : State) : Host.Outcome State Fault Refusal :=
  .next (writeCommand s q page.toNat 0x18 v)

/-! ## The commands of chapter 02 -/

/-- WINDOW_RECORD_READ (R54). -/
def execWindowRecordRead (q : Requester) (pid : BitVec 13) (word : Fin 8) (s : State) : Host.Outcome State Fault Refusal :=
  .next (served s q (fun s => windowRead s q pid word.val))
/-- WINDOW_STAGE_LOW (R55). -/
def execWindowStageLow (q : Requester) (pid : BitVec 13) (v : Word) (s : State) : Host.Outcome State Fault Refusal :=
  .next (served s q (fun s => windowWrite s q pid 0 v))
/-- WINDOW_STAGE_QUALITY (R55). -/
def execWindowStageQuality (q : Requester) (pid : BitVec 13) (v : Word) (s : State) : Host.Outcome State Fault Refusal :=
  .next (served s q (fun s => windowWrite s q pid 5 v))
/-- WINDOW_COMMIT (R55). -/
def execWindowCommit (q : Requester) (pid : BitVec 13) (v : Word) (s : State) : Host.Outcome State Fault Refusal :=
  .next (served s q (fun s => windowWrite s q pid 1 v))
/-- FORCE_SET (R59): FRC_CMD with FRC_POINT and FRC_VALUE. -/
def execForceSet (q : Requester) (s : State) : Host.Outcome State Fault Refusal := .next (writeCommand s q 0x32 0x4C 1)
/-- FORCE_CLEAR (R59). -/
def execForceClear (q : Requester) (s : State) : Host.Outcome State Fault Refusal := .next (writeCommand s q 0x32 0x4C 2)
/-- FORCE_LOOKUP (R59). -/
def execForceLookup (q : Requester) (s : State) : Host.Outcome State Fault Refusal := .next (writeCommand s q 0x32 0x4C 3)
/-- FORCE_CLEAR_FLASK (R59). -/
def execForceClearFlask (q : Requester) (s : State) : Host.Outcome State Fault Refusal := .next (writeCommand s q 0x32 0x4C 4)
/-- FORCE_READ_INDEX (R59): with FRC_INDEX. -/
def execForceReadIndex (q : Requester) (s : State) : Host.Outcome State Fault Refusal := .next (writeCommand s q 0x32 0x4C 5)
/-- PTD_ALLOC (R62): PTD_CMD on the point of PTD_SEL. -/
def execPtdAlloc (q : Requester) (s : State) : Host.Outcome State Fault Refusal := .next (writeCommand s q 0x30 0x4C 1)
/-- PTD_FREE (R62). -/
def execPtdFree (q : Requester) (s : State) : Host.Outcome State Fault Refusal := .next (writeCommand s q 0x30 0x4C 2)
/-- PTD_LOAD (R62). -/
def execPtdLoad (q : Requester) (s : State) : Host.Outcome State Fault Refusal := .next (writeCommand s q 0x30 0x4C 3)
/-- PTD_UPDATE (R62). -/
def execPtdUpdate (q : Requester) (s : State) : Host.Outcome State Fault Refusal := .next (writeCommand s q 0x30 0x4C 4)
/-- FLK_DENY_CLEAR (R65). -/
def execFlkDenyClear (q : Requester) (mask : Word) (s : State) : Host.Outcome State Fault Refusal := .next (writeCommand s q 0x31 0x1C0 mask)

/-! ## Register writes of chapters 03 to 07 -/

/-- TASK_ENABLE (R70): SCN_TCFG written with EN at 1. -/
def execTaskEnable (q : Requester) (t : Fin 64) (v : Word) (s : State) : Host.Outcome State Fault Refusal :=
  .next (writeCommand s q 0x38 (0x100 + 16 * t.val) (withBits v 31 31 1))
/-- TASK_DISABLE (R88): SCN_TCFG written with EN at 0. -/
def execTaskDisable (q : Requester) (t : Fin 64) (v : Word) (s : State) : Host.Outcome State Fault Refusal :=
  .next (writeCommand s q 0x38 (0x100 + 16 * t.val) (withBits v 31 31 0))
/-- TASK_COUNTER_CLEAR (R85): SCN_TCLR. -/
def execTaskCounterClear (q : Requester) (v : Word) (s : State) : Host.Outcome State Fault Refusal := .next (writeCommand s q 0x38 0x40 v)
/-- XCH_STAGE (R155): XCH_CMD with the request of the page. -/
def execXchStage (q : Requester) (s : State) : Host.Outcome State Fault Refusal := .next (writeCommand s q 0x41 0x58 1)
/-- XCH_COMMIT (R152). -/
def execXchCommit (q : Requester) (s : State) : Host.Outcome State Fault Refusal := .next (writeCommand s q 0x41 0x58 2)
/-- XCH_ABANDON (R152). -/
def execXchAbandon (q : Requester) (s : State) : Host.Outcome State Fault Refusal := .next (writeCommand s q 0x41 0x58 3)
/-- XCH_CONFIRM (R173). -/
def execXchConfirm (q : Requester) (s : State) : Host.Outcome State Fault Refusal := .next (writeCommand s q 0x41 0x58 4)
/-- XCH_ROLLBACK (R174). -/
def execXchRollback (q : Requester) (s : State) : Host.Outcome State Fault Refusal := .next (writeCommand s q 0x41 0x58 5)
/-- XCH_UNLOAD (R175). -/
def execXchUnload (q : Requester) (s : State) : Host.Outcome State Fault Refusal := .next (writeCommand s q 0x41 0x58 6)
/-- BANK_SWAP_REQUEST (R196): LPE_BANK with SWAP at 1. -/
def execBankSwapRequest (q : Requester) (n : Fin 512) (s : State) : Host.Outcome State Fault Refusal :=
  .next (selectedWrite s q (0x49 + n.val / 128) 0x40 (n.val % 128) 0x13C 2)
/-- GROUP_SWAP (R199): LPG_GSWAP. -/
def execGroupSwap (q : Requester) (groups : BitVec 16) (s : State) : Host.Outcome State Fault Refusal :=
  .next (writeCommand s q 0x48 0x40 (groups.setWidth 32))
/-- CIRCUIT_ZERO (R237): CIR_CMD with OP ZERO. -/
def execCircuitZero (q : Requester) (c : Fin 48) (s : State) : Host.Outcome State Fault Refusal := .next (selectedWrite s q 0x50 0x80 c.val 0x118 1)
/-- CIRCUIT_CLR_MAX (R226): CIR_CMD with OP CLR_MAX. -/
def execCircuitClrMax (q : Requester) (c : Fin 48) (s : State) : Host.Outcome State Fault Refusal := .next (selectedWrite s q 0x50 0x80 c.val 0x118 2)

end Sys2Proof.Machine
end

