-- ==== Sys2Proof/Machine/CastInteger.lean ====
section
/-! DEFINITION. Integer arithmetic and logic: opcodes 10h to 1Fh (R113 to R117), and SET (R121). -/

namespace Sys2Proof.Machine

/-- A REG-form operation on w[S1] and w[S2] that gives a word and flags; `legal` is its field check. -/
def castReg (t : Fin 64) (o : RegForm) (legal : Bool) (cycles : Nat) (op : Word → Word → Word × Nat) (s : State) : State :=
  castStep t legal (fun c => let r := op (breg c.b o.s1) (breg c.b o.s2); castSet c o.d r.1 r.2 cycles) s

/-- An IMM-form operation on w[S1]. -/
def castImm (t : Fin 64) (o : ImmForm) (op : Word → Word) (s : State) : State :=
  castStep t true (fun c => castSet c o.d (op (breg c.b o.s1)) 0 1) s

/-- ADD (R113). -/
def execAdd (t : Fin 64) (o : RegForm) (s : State) : Host.Outcome State Fault Refusal :=
  .next (castReg t o (o.x == 0) 1 (fun a b => (a + b, 0)) s)
/-- ADDI (R113). -/
def execAddi (t : Fin 64) (o : ImmForm) (s : State) : Host.Outcome State Fault Refusal :=
  .next (castImm t o (fun a => a + o.imm.signExtend 32) s)
/-- SUB (R113). -/
def execSub (t : Fin 64) (o : RegForm) (s : State) : Host.Outcome State Fault Refusal :=
  .next (castReg t o (o.x == 0) 1 (fun a b => (a - b, 0)) s)
/-- MUL (R113). -/
def execMul (t : Fin 64) (o : RegForm) (s : State) : Host.Outcome State Fault Refusal :=
  .next (castReg t o (o.x == 0) 3 (fun a b => (a * b, 0)) s)

/-- X[0] alone is defined; the sign of the operands it selects. -/
def signBitOnly (o : RegForm) : Bool := decide (o.x.toNat ≤ 1)

/-- MULH (R113): the high word of the 64-bit product. -/
def mulHigh (unsigned : Bool) (a b : Word) : Word :=
  if unsigned then BitVec.ofNat 32 (a.toNat * b.toNat / 2 ^ 32) else BitVec.ofInt 32 (a.toInt * b.toInt / 2 ^ 32)
def execMulh (t : Fin 64) (o : RegForm) (s : State) : Host.Outcome State Fault Refusal :=
  .next (castReg t o (signBitOnly o) 3 (fun a b => (mulHigh (o.x == 1) a b, 0)) s)

/-- DIV (R113, R117): the quotient, and IOV for −2^31 by −1. -/
def divide (unsigned : Bool) (a b : Word) : Word × Nat :=
  if unsigned then (BitVec.ofNat 32 (a.toNat / b.toNat), 0)
  else (BitVec.ofInt 32 (a.toInt.tdiv b.toInt), if a = 0x80000000 ∧ b = 0xFFFFFFFF then flagIOV else 0)
/-- REM (R113, R117). -/
def remainder (unsigned : Bool) (a b : Word) : Word × Nat :=
  if unsigned then (BitVec.ofNat 32 (a.toNat % b.toNat), 0)
  else (BitVec.ofInt 32 (a.toInt.tmod b.toInt), if a = 0x80000000 ∧ b = 0xFFFFFFFF then flagIOV else 0)

/-- DIV and REM trap with DIV0 on a zero divisor (R117). -/
def castDivide (op : Word → Word → Word × Nat) (o : RegForm) (c : CastCtx) : CastRes :=
  if breg c.b o.s2 = 0 then .trap tcDIV0 34
  else let r := op (breg c.b o.s1) (breg c.b o.s2); castSet c o.d r.1 r.2 34
def execDiv (t : Fin 64) (o : RegForm) (s : State) : Host.Outcome State Fault Refusal :=
  .next (castStep t (signBitOnly o) (castDivide (divide (o.x == 1)) o) s)
def execRem (t : Fin 64) (o : RegForm) (s : State) : Host.Outcome State Fault Refusal :=
  .next (castStep t (signBitOnly o) (castDivide (remainder (o.x == 1)) o) s)

/-- AND (R113). -/
def execAnd (t : Fin 64) (o : RegForm) (s : State) : Host.Outcome State Fault Refusal :=
  .next (castReg t o (o.x == 0) 1 (fun a b => (a &&& b, 0)) s)
/-- ANDI (R113). -/
def execAndi (t : Fin 64) (o : ImmForm) (s : State) : Host.Outcome State Fault Refusal :=
  .next (castImm t o (fun a => a &&& o.imm.setWidth 32) s)
/-- OR (R113). -/
def execOr (t : Fin 64) (o : RegForm) (s : State) : Host.Outcome State Fault Refusal :=
  .next (castReg t o (o.x == 0) 1 (fun a b => (a ||| b, 0)) s)
/-- ORI (R113). -/
def execOri (t : Fin 64) (o : ImmForm) (s : State) : Host.Outcome State Fault Refusal :=
  .next (castImm t o (fun a => a ||| o.imm.setWidth 32) s)
/-- XOR (R113). -/
def execXor (t : Fin 64) (o : RegForm) (s : State) : Host.Outcome State Fault Refusal :=
  .next (castReg t o (o.x == 0) 1 (fun a b => (a ^^^ b, 0)) s)
/-- XORI (R113). -/
def execXori (t : Fin 64) (o : ImmForm) (s : State) : Host.Outcome State Fault Refusal :=
  .next (castImm t o (fun a => a ^^^ o.imm.setWidth 32) s)

/-- SHF (R114): kind X[12:11]; the amount is X[4:0] when X[13] is 1, else w[S2][4:0], and then X[4:0] is not defined and must be 0 (R108,
DEDUCED: assumption 12). -/
def shift (kind : BitVec 2) (a : Word) (n : Nat) : Word :=
  if kind = 0 then a <<< n else if kind = 1 then a >>> n else if kind = 2 then a.sshiftRight n else a.rotateRight n
def shiftLegal (o : RegForm) : Bool := o.x.extractLsb' 5 6 == 0 && (if o.x.getLsbD 13 then o.s2 == 0 else o.x.extractLsb' 0 5 == 0)
def shiftAmount (o : RegForm) (b : Word) : Nat := if o.x.getLsbD 13 then o.x.toNat % 32 else b.toNat % 32
def execShf (t : Fin 64) (o : RegForm) (s : State) : Host.Outcome State Fault Refusal :=
  .next (castReg t o (shiftLegal o) 1 (fun a b => (shift (o.x.extractLsb' 11 2) a (shiftAmount o b), 0)) s)

/-- SAT operations: X[13:3] must be 0; X[2:0] is the function that the command names (R115). -/
def satLegal (o : RegForm) : Bool := decide (o.x.toNat < 8)
def execAdds (t : Fin 64) (o : RegForm) (s : State) : Host.Outcome State Fault Refusal :=
  .next (castReg t o (satLegal o) 1 (fun a b => clampS (a.toInt + b.toInt)) s)
def execSubs (t : Fin 64) (o : RegForm) (s : State) : Host.Outcome State Fault Refusal :=
  .next (castReg t o (satLegal o) 1 (fun a b => clampS (a.toInt - b.toInt)) s)
def execMin (t : Fin 64) (o : RegForm) (s : State) : Host.Outcome State Fault Refusal :=
  .next (castReg t o (satLegal o) 1 (fun a b => (if a.slt b then a else b, 0)) s)
def execMax (t : Fin 64) (o : RegForm) (s : State) : Host.Outcome State Fault Refusal :=
  .next (castReg t o (satLegal o) 1 (fun a b => (if a.slt b then b else a, 0)) s)
def execMinu (t : Fin 64) (o : RegForm) (s : State) : Host.Outcome State Fault Refusal :=
  .next (castReg t o (satLegal o) 1 (fun a b => (if a.ult b then a else b, 0)) s)
def execMaxu (t : Fin 64) (o : RegForm) (s : State) : Host.Outcome State Fault Refusal :=
  .next (castReg t o (satLegal o) 1 (fun a b => (if a.ult b then b else a, 0)) s)
def execAbs (t : Fin 64) (o : RegForm) (s : State) : Host.Outcome State Fault Refusal :=
  .next (castReg t o (satLegal o && o.s2 == 0) 1 (fun a _ => clampS (a.toInt.natAbs : Int)) s)

/-- BFX (R116): POS is X[12:8], WIDTH X[4:0] + 1; X[13] is the mode that the command names. -/
def bfxPos (o : RegForm) : Nat := (o.x.toNat / 256) % 32
def bfxWidth (o : RegForm) : Nat := o.x.toNat % 32 + 1
def bfxLegal (o : RegForm) : Bool := o.s2 == 0 && o.x.extractLsb' 5 3 == 0 && decide (bfxPos o + bfxWidth o ≤ 32)
def execBfxExtract (t : Fin 64) (o : RegForm) (s : State) : Host.Outcome State Fault Refusal :=
  .next (castReg t o (bfxLegal o) 1 (fun a _ => (BitVec.ofNat 32 (a.toNat / 2 ^ bfxPos o % 2 ^ bfxWidth o), 0)) s)
def execBfxInsert (t : Fin 64) (o : RegForm) (s : State) : Host.Outcome State Fault Refusal :=
  .next (castStep t (bfxLegal o)
    (fun c => castSet c o.d (withBits (breg c.b o.d) (bfxPos o + bfxWidth o - 1) (bfxPos o) (breg c.b o.s1).toNat) 0 1) s)

/-- SET (R121): the relation that X[2:0] selects. -/
def setRelation (x : BitVec 14) (a b : Word) : Bool :=
  if x = 0 then a == b else if x = 1 then a != b else if x = 2 then a.slt b else if x = 3 then !a.slt b
  else if x = 4 then a.ult b else !a.ult b
def execSet (t : Fin 64) (o : RegForm) (s : State) : Host.Outcome State Fault Refusal :=
  .next (castReg t o (decide (o.x.toNat ≤ 5)) 1 (fun a b => (if setRelation o.x a b then 1 else 0, 0)) s)

end Sys2Proof.Machine
end

