-- ==== Sys2Proof/Machine/CastFloat.lean ====
section
/-! DEFINITION. Floating point: opcodes 20h to 27h (R118 to R120). Operations never trap; they set the sticky flags. -/

namespace Sys2Proof.Machine

/-- A result of the float unit as a word. -/
def fres (r : Nat × Nat) : Word × Nat := (fword r.1, r.2)

def execFadd (t : Fin 64) (o : RegForm) (s : State) : Host.Outcome State Fault Refusal :=
  .next (castReg t o (o.x == 0) 4 (fun a b => fres (faddV f32 (fval a) (fval b))) s)
def execFsub (t : Fin 64) (o : RegForm) (s : State) : Host.Outcome State Fault Refusal :=
  .next (castReg t o (o.x == 0) 4 (fun a b => fres (faddV f32 (fval a) (fnegV (fval b)))) s)
def execFmul (t : Fin 64) (o : RegForm) (s : State) : Host.Outcome State Fault Refusal :=
  .next (castReg t o (o.x == 0) 4 (fun a b => fres (fmulV f32 (fval a) (fval b))) s)
def execFdiv (t : Fin 64) (o : RegForm) (s : State) : Host.Outcome State Fault Refusal :=
  .next (castReg t o (o.x == 0) 14 (fun a b => fres (fdivV f32 (fval a) (fval b))) s)

/-- FMA (R118): w[D] + w[S1] × w[S2] with one rounding. -/
def execFma (t : Fin 64) (o : RegForm) (s : State) : Host.Outcome State Fault Refusal :=
  .next (castStep t (o.x == 0) (fun c =>
    let r := fres (ffmaV f32 (fval (breg c.b o.d)) (fval (breg c.b o.s1)) (fval (breg c.b o.s2)))
    castSet c o.d r.1 r.2 5) s)

/-- FOP and FCVT: X[13:3] must be 0; X[2:0] is the function that the command names (R119). -/
def fopLegal (o : RegForm) (unary : Bool) : Bool := decide (o.x.toNat < 8) && (!unary || o.s2 == 0)
def execFsqrt (t : Fin 64) (o : RegForm) (s : State) : Host.Outcome State Fault Refusal :=
  .next (castReg t o (fopLegal o true) 16 (fun a _ => fres (fsqrtV f32 (fval a))) s)
def execFabs (t : Fin 64) (o : RegForm) (s : State) : Host.Outcome State Fault Refusal :=
  .next (castReg t o (fopLegal o true) 4 (fun a _ => (a &&& 0x7FFFFFFF, 0)) s)
def execFneg (t : Fin 64) (o : RegForm) (s : State) : Host.Outcome State Fault Refusal :=
  .next (castReg t o (fopLegal o true) 4 (fun a _ => (a ^^^ 0x80000000, 0)) s)
def execFmin (t : Fin 64) (o : RegForm) (s : State) : Host.Outcome State Fault Refusal :=
  .next (castReg t o (fopLegal o false) 4 (fun a b => fres (fminmax false a b)) s)
def execFmax (t : Fin 64) (o : RegForm) (s : State) : Host.Outcome State Fault Refusal :=
  .next (castReg t o (fopLegal o false) 4 (fun a b => fres (fminmax true a b)) s)

def execFcvtS32ToFloat (t : Fin 64) (o : RegForm) (s : State) : Host.Outcome State Fault Refusal :=
  .next (castReg t o (fopLegal o true) 4 (fun a _ => fres (fofInt f32 a.toInt)) s)
def execFcvtU32ToFloat (t : Fin 64) (o : RegForm) (s : State) : Host.Outcome State Fault Refusal :=
  .next (castReg t o (fopLegal o true) 4 (fun a _ => fres (fofInt f32 a.toNat)) s)
/-- Float to signed integer (R120). -/
def floatToSigned (near : Bool) (a : Word) : Word × Nat := let r := ftoS 32 near (fval a); (BitVec.ofInt 32 r.1, r.2)
def execFcvtFloatToS32Trunc (t : Fin 64) (o : RegForm) (s : State) : Host.Outcome State Fault Refusal :=
  .next (castReg t o (fopLegal o true) 4 (fun a _ => floatToSigned false a) s)
def execFcvtFloatToS32Nearest (t : Fin 64) (o : RegForm) (s : State) : Host.Outcome State Fault Refusal :=
  .next (castReg t o (fopLegal o true) 4 (fun a _ => floatToSigned true a) s)
def execFcvtFloatToU32Trunc (t : Fin 64) (o : RegForm) (s : State) : Host.Outcome State Fault Refusal :=
  .next (castReg t o (fopLegal o true) 4 (fun a _ => fres (ftoU (fval a))) s)

/-- FCMP (R119): EQ and UN raise IV for a signalling NaN only, LT and LE for any unordered operand. -/
def floatRelation (x : BitVec 14) (a b : Word) : Word × Nat :=
  let u := fval a
  let v := fval b
  let un := isNanV u || isNanV v
  let quiet := if snanFlag [u, v] = 0 then 0 else flagIV
  let loud := if un then flagIV else 0
  let w (h : Bool) : Word := if h then 1 else 0
  if x = 0 then (w (feqV u v), quiet)
  else if x = 1 then (w (!un && fltV u v), loud)
  else if x = 2 then (w (!un && (fltV u v || feqV u v)), loud)
  else (w un, quiet)
def execFcmp (t : Fin 64) (o : RegForm) (s : State) : Host.Outcome State Fault Refusal :=
  .next (castReg t o (decide (o.x.toNat ≤ 3)) 4 (floatRelation o.x) s)

end Sys2Proof.Machine
end

