-- ==== Sys2Proof/Machine/CastMemory.lean ====
section
/-! DEFINITION. Load, store and move: opcodes 00h to 0Dh (R112, R105). -/

namespace Sys2Proof.Machine

/-- A load of `n` bytes into w[D]. -/
def castLoad (n : Nat) (ext : Nat → Word) (o : MemForm) (c : CastCtx) : CastRes :=
  let a := memAddr c.m c.b o
  match loadCheck c.m a n with
  | 0 => castSet c o.d (ext (loadN c.s a n)) 0 4
  | k => .trap k 4

/-- A store of the low `n` bytes of w[D]. -/
def castPut (n : Nat) (o : MemForm) (c : CastCtx) : CastRes :=
  let a := memAddr c.m c.b o
  match storeCheck c.m a n with
  | 0 => .next (castAdv (castStore c a (leBytes n (breg c.b o.d).toNat))) 1
  | k => .trap k 1

/-- The registers of a doubleword: D must be even (R112). -/
def evenPair (o : MemForm) : Bool := o.d.toNat % 2 == 0

/-- LDW (R112). -/
def execLdw (t : Fin 64) (o : MemForm) (s : State) : Host.Outcome State Fault Refusal :=
  .next (castStep t true (castLoad 4 (BitVec.ofNat 32) o) s)
/-- LDH (R112). -/
def execLdh (t : Fin 64) (o : MemForm) (s : State) : Host.Outcome State Fault Refusal :=
  .next (castStep t true (castLoad 2 (fun n => (BitVec.ofNat 16 n).signExtend 32) o) s)
/-- LDHU (R112). -/
def execLdhu (t : Fin 64) (o : MemForm) (s : State) : Host.Outcome State Fault Refusal :=
  .next (castStep t true (castLoad 2 (BitVec.ofNat 32) o) s)
/-- LDB (R112). -/
def execLdb (t : Fin 64) (o : MemForm) (s : State) : Host.Outcome State Fault Refusal :=
  .next (castStep t true (castLoad 1 (fun n => (BitVec.ofNat 8 n).signExtend 32) o) s)
/-- LDBU (R112). -/
def execLdbu (t : Fin 64) (o : MemForm) (s : State) : Host.Outcome State Fault Refusal :=
  .next (castStep t true (castLoad 1 (BitVec.ofNat 32) o) s)
/-- STW (R112). -/
def execStw (t : Fin 64) (o : MemForm) (s : State) : Host.Outcome State Fault Refusal :=
  .next (castStep t true (castPut 4 o) s)
/-- STH (R112). -/
def execSth (t : Fin 64) (o : MemForm) (s : State) : Host.Outcome State Fault Refusal :=
  .next (castStep t true (castPut 2 o) s)
/-- STB (R112). -/
def execStb (t : Fin 64) (o : MemForm) (s : State) : Host.Outcome State Fault Refusal :=
  .next (castStep t true (castPut 1 o) s)

/-- LDD (R112): w[D] takes the low word and w[D+1] the high word. -/
def castLdd (o : MemForm) (c : CastCtx) : CastRes :=
  let a := memAddr c.m c.b o
  match loadCheck c.m a 8 with
  | 0 =>
    let b := bset c.b o.d (BitVec.ofNat 32 (loadN c.s a 4))
    castSet { c with b := b } (o.d + 1) (BitVec.ofNat 32 (loadN c.s (a + 4) 4)) 0 5
  | k => .trap k 5
def execLdd (t : Fin 64) (o : MemForm) (s : State) : Host.Outcome State Fault Refusal :=
  .next (castStep t (evenPair o) (castLdd o) s)

/-- STD (R112). -/
def castStd (o : MemForm) (c : CastCtx) : CastRes :=
  let a := memAddr c.m c.b o
  match storeCheck c.m a 8 with
  | 0 => .next (castAdv (castStore c a (leBytes 4 (breg c.b o.d).toNat ++ leBytes 4 (breg c.b (o.d + 1)).toNat))) 1
  | k => .trap k 1
def execStd (t : Fin 64) (o : MemForm) (s : State) : Host.Outcome State Fault Refusal :=
  .next (castStep t (evenPair o) (castStd o) s)

/-- MOVI (R112). -/
def execMovi (t : Fin 64) (o : ImmForm) (s : State) : Host.Outcome State Fault Refusal :=
  .next (castStep t (o.s1 == 0) (fun c => castSet c o.d (o.imm.signExtend 32) 0 1) s)
/-- LUI (R112). -/
def execLui (t : Fin 64) (o : ImmForm) (s : State) : Host.Outcome State Fault Refusal :=
  .next (castStep t (o.s1 == 0) (fun c => castSet c o.d (o.imm.setWidth 32 <<< 14) 0 1) s)

/-- The special registers of R105: PC, IB, GB and LK by select code. -/
def castSpecial (c : CastCtx) (sel : Nat) : Word :=
  if sel = 0 then c.b.pc else if sel = 1 then c.b.ib else if sel = 2 then BitVec.ofNat 32 c.m.dataAt
  else match c.b.stack with | (ra, _) :: _ => ra | [] => 0

/-- MFS (R105, R112). -/
def execMfs (t : Fin 64) (o : RegForm) (s : State) : Host.Outcome State Fault Refusal :=
  .next (castStep t (o.s1 == 0 && o.s2 == 0 && decide (o.x.toNat ≤ 3))
    (fun c => castSet c o.d (castSpecial c o.x.toNat) 0 1) s)

/-- MTS (R105, R112): only IB can be written. -/
def castMts (o : RegForm) (c : CastCtx) : CastRes :=
  if o.x = 1 then .next (castAdv { c with b := { c.b with ib := breg c.b o.s1 } }) 2 else .trap tcSPECIAL 2
def execMts (t : Fin 64) (o : RegForm) (s : State) : Host.Outcome State Fault Refusal :=
  .next (castStep t (o.d == 0 && o.s2 == 0 && decide (o.x.toNat ≤ 3)) (castMts o) s)

end Sys2Proof.Machine
end

