-- ==== Sys2Proof/Machine/CastPoint.lean ====
section
/-! DEFINITION. Point access: opcodes 3Ch to 3Eh (R136, R137). -/

namespace Sys2Proof.Machine

/-- The check of a 16-byte operand in the data window (R136). -/
def pointOperandCheck (c : CastCtx) (a : Nat) : Nat :=
  if a % 8 ≠ 0 then tcALIGN else if inData c.m a 16 then 0 else tcMEM_RANGE

/-- A denial by a point instruction: counted on path 2h and in the run, and DN set (R50, R51, R106). -/
def castDeny (c : CastCtx) (f pid : Nat) : CastCtx :=
  { c with s := deny c.s f 2 pid, r := runDenied c.r pid, b := sticky c.b flagDN }

/-- PRD: the record as an input-image entry, or the null entry. -/
def castPrd (o : PntForm) (c : CastCtx) : CastRes :=
  let pid := pntId c.b o
  let a := (breg c.b o.addr).toNat
  let f := taskFlask c.s c.t
  if 0x2000 ≤ pid then .trap tcPOINT_RANGE 40
  else match pointOperandCheck c a with
    | 0 =>
      let p := pointAt c.s pid
      if mayRead f p then .next (castAdv (castStore c a (imageEntry p))) 40
      else .next (castAdv (castStore (castDeny c f pid) a (imageEntry nullPoint))) 40
    | k => .trap k 40
def execPrd (t : Fin 64) (o : PntForm) (s : State) : Host.Outcome State Fault Refusal := .next (castStep t true (castPrd o) s)

/-- PWR: the write joins the run's deferred queue with the value and quality that memory holds now (R137). -/
def castPwr (o : PntForm) (c : CastCtx) : CastRes :=
  let pid := pntId c.b o
  let a := (breg c.b o.addr).toNat
  let f := taskFlask c.s c.t
  if 0x2000 ≤ pid then .trap tcPOINT_RANGE 30
  else match pointOperandCheck c a with
    | 0 =>
      if 64 ≤ c.r.deferred.length then .trap tcDEFER_FULL 30
      else if mayWrite f (pointAt c.s pid) then
        let q := byteAt c.s (a + 8)
        let d : DeferredWrite := { point := pid, value := BitVec.ofNat 64 (loadN c.s a 8), quality := if writerQuality q then q else 0 }
        .next (castAdv { c with r := { c.r with deferred := c.r.deferred ++ [d] } }) 30
      else .next (castAdv (castDeny c f pid)) 30
    | k => .trap k 30
def execPwr (t : Fin 64) (o : PntForm) (s : State) : Host.Outcome State Fault Refusal := .next (castStep t true (castPwr o) s)

/-- The test word of PTST (R136). -/
def testWord (f : Nat) (p : Point) : Word :=
  BitVec.ofNat 32 (p.seq.toNat * 2 ^ 16 + p.quality.toNat * 2 ^ 8 + p.dtype.toNat % 64 * 4 + b2n p.forced * 2 + b2n (mayWrite f p))
def castPtst (o : PntForm) (c : CastCtx) : CastRes :=
  let pid := pntId c.b o
  let f := taskFlask c.s c.t
  if 0x2000 ≤ pid then .trap tcPOINT_RANGE 36
  else
    let p := pointAt c.s pid
    if mayRead f p then castSet c o.addr (testWord f p) 0 36 else castSet (castDeny c f pid) o.addr 0x600 0 36
def execPtst (t : Fin 64) (o : PntForm) (s : State) : Host.Outcome State Fault Refusal := .next (castStep t true (castPtst o) s)

end Sys2Proof.Machine
end

