-- ==== Sys2Proof/Machine/CastRecord.lean ====
section
/-! DEFINITION. Timer, counter and edge instructions: opcodes 38h to 3Bh (R128 to R135). -/

namespace Sys2Proof.Machine

/-- The check of a record instruction (R130): IB alignment, the data window, then TYPE_ID and TYPE_VER. -/
def recordCheck (c : CastCtx) (a lo hi : Nat) : Nat :=
  if c.b.ib.toNat % 16 ≠ 0 then tcALIGN
  else if !inData c.m a 32 then tcMEM_RANGE
  else if lo ≤ loadN c.s a 2 ∧ loadN c.s a 2 ≤ hi ∧ byteAt c.s (a + 2) = 1 then 0
  else tcRECORD

/-- A record instruction: its checks, then `op` on the kind and the 16 record bytes, which gives w[D] and the new bytes. -/
def castRecord (lo hi cycles : Nat) (o : RecForm) (op : Nat → List Byte → Word × List Byte) (c : CastCtx) : CastRes :=
  let a := recAddr c.b o
  match recordCheck c a lo hi with
  | 0 =>
    let r := op (loadN c.s a 2) (bytesAt c.s (a + 16) 16)
    castSet (castStore c (a + 16) r.2) o.d r.1 0 cycles
  | k => .trap k cycles

/-- A timer record after its header (R129). -/
structure Timer where
  et : Int
  q : Bool
  inPrev : Bool
  run : Bool
  init : Bool
  last : Nat
  deriving DecidableEq, Repr

def timerOf (l : List Byte) : Timer :=
  let st := l.getD 4 0
  { et := signedOf 32 (leNat (l.take 4)), q := st.getLsbD 0, inPrev := st.getLsbD 1, run := st.getLsbD 2, init := st.getLsbD 3
    last := leNat (l.drop 8) }
def timerBytes (t : Timer) : List Byte :=
  leBytes 4 (codeOf 32 t.et) ++ leBytes 4 (b2n t.q + 2 * b2n t.inPrev + 4 * b2n t.run + 8 * b2n t.init) ++ leBytes 8 t.last

/-- TIME additions saturate at 7FFF_FFFFh. -/
def timeAdd (a : Int) (d : Nat) : Int := min 0x7FFFFFFF (a + d)

/-- The elapsed whole milliseconds of a call, with LAST moved on (R133). -/
def timerElapse (t : Timer) (rel : Nat) : Timer × Nat :=
  let span := signedOf 64 (codeOf 64 ((rel : Int) - t.last))
  if span < 0 then ({ t with last := rel }, 0)
  else
    let d := min (span.toNat / 100000) 0x7FFFFFFF
    ({ t with last := (t.last + d * 100000) % 2 ^ 64 }, d)

/-- TON, TOF and TP of R133, after the elapsed time is known. -/
def timerKind (kind : Nat) (t : Timer) (inp : Bool) (pt : Int) (d : Nat) : Timer :=
  if kind = 1 then
    if !inp then { t with et := 0, q := false }
    else
      let et := if t.inPrev then timeAdd t.et d else 0
      if pt ≤ et then { t with et := pt, q := true } else { t with et := et, q := false }
  else if kind = 2 then
    if inp then { t with et := 0, run := false, q := true }
    else
      let t := if t.inPrev then { t with et := 0, run := true } else if t.run then { t with et := timeAdd t.et d } else t
      let t := if t.run ∧ pt ≤ t.et then { t with et := pt, run := false } else t
      { t with q := t.run }
  else
    let t := if t.run then { t with et := timeAdd t.et d } else if inp ∧ !t.inPrev ∧ t.et = 0 then { t with run := true, et := 0 } else t
    let t := if t.run ∧ pt ≤ t.et then { t with et := pt, run := false } else t
    let t := if !t.run ∧ !inp then { t with et := 0 } else t
    { t with q := t.run }

/-- One TMR call (R132, R133). -/
def timerCall (kind : Nat) (t : Timer) (inp : Bool) (pt : Int) (rel : Nat) : Timer :=
  let t := if t.init then t else { t with inPrev := inp, last := rel, init := true }
  let (t, d) := timerElapse t rel
  { timerKind kind t inp (max 0 pt) d with inPrev := inp }

/-- A Boolean as a register word. -/
def boolWord (b : Bool) : Word := if b then 1 else 0

/-- TMR (R130, R133). -/
def execTmr (t : Fin 64) (o : RecForm) (s : State) : Host.Outcome State Fault Refusal :=
  .next (castStep t true (fun c => castRecord 1 3 14 o (fun kind l =>
    let r := timerCall kind (timerOf l) (breg c.b o.s1 != 0) (breg c.b o.s2).toInt c.r.release.toNat
    (boolWord r.q, timerBytes r)) c) s)

/-- One CTR call (R134): the new value and the state byte. -/
def counterCall (kind : Nat) (cv : Int) (st : Nat) (inp : Word) (pv : Int) : Int × Nat :=
  let cu := inp.getLsbD 0
  let cd := inp.getLsbD 1
  let r := inp.getLsbD 2
  let ld := inp.getLsbD 3
  let init := st.testBit 4
  let up := cu && !(if init then st.testBit 2 else cu)
  let dn := cd && !(if init then st.testBit 3 else cd)
  let inc (v : Int) : Int := if up ∧ v < 0x7FFFFFFF then v + 1 else v
  let dec (v : Int) : Int := if dn ∧ -0x80000000 < v then v - 1 else v
  let cv := if kind = 4 then (if r then 0 else inc cv) else if kind = 5 then (if ld then pv else dec cv)
    else if r then 0 else if ld then pv else dec (inc cv)
  (cv, b2n (decide (pv ≤ cv)) + 2 * b2n (decide (cv ≤ 0)) + 4 * b2n cu + 8 * b2n cd + 16)

/-- CTR (R130, R134). -/
def execCtr (t : Fin 64) (o : RecForm) (s : State) : Host.Outcome State Fault Refusal :=
  .next (castStep t true (fun c => castRecord 4 6 10 o (fun kind l =>
    let r := counterCall kind (signedOf 32 (leNat (l.take 4))) (l.getD 4 0).toNat (breg c.b o.s1) (breg c.b o.s2).toInt
    (BitVec.ofNat 32 (r.2 % 4), leBytes 4 (codeOf 32 r.1) ++ leBytes 12 r.2)) c) s)

/-- EDG (R130, R135). -/
def edgeCall (kind : Nat) (st : Nat) (clk : Bool) : Bool × Nat :=
  let prev := if st.testBit 2 then st.testBit 1 else clk
  let q := if kind = 7 then clk && !prev else !clk && prev
  (q, b2n q + 2 * b2n clk + 4)
def execEdg (t : Fin 64) (o : RecForm) (s : State) : Host.Outcome State Fault Refusal :=
  .next (castStep t (o.s2 == 0) (fun c => castRecord 7 8 6 o (fun kind l =>
    let r := edgeCall kind (l.getD 0 0).toNat (breg c.b o.s1 != 0)
    (boolWord r.1, leBytes 16 r.2)) c) s)

/-- TRST (R131): bytes 10h to 1Fh become 0. -/
def execTrst (t : Fin 64) (o : RecForm) (s : State) : Host.Outcome State Fault Refusal :=
  .next (castStep t (o.d == 0 && o.s1 == 0 && o.s2 == 0)
    (castRecord 1 8 4 o (fun _ _ => (0, List.replicate 16 0))) s)

end Sys2Proof.Machine
end

