-- ==== Sys2Proof/Machine/Tick.lean ====
section
/-! DEFINITION. The commands that time and the scan cores bring (03_scan_execution.md, 05_recast.md, 06_loop_engines.md, 07_metering.md): the tick
boundary, the grid point, releases, the steps of a run, the power-fail save, the exchange, and the metering samples and windows. -/

namespace Sys2Proof.Machine

/-! ## The tick boundary and the grid point -/

/-- The next tick boundary: pending roles and modes take effect, the loop engines and then the stations do their work (R192, R193, R278), and
the port meters close their tick. In BACKUP no timebase runs. -/
def tickBoundary (s : State) : State :=
  if modeNow s = 0 then s
  else
    let k := s.nextTick
    let s := settleBoundary (advanceTo s (BitVec.ofNat 64 (k * 100000)))
    let s := loopTick { s with nextTick := k + 1 } k
    let s := meterTick (stationTick { s with snapshot := s.points }) k
    let s := if k % 1000 = 0 then measureLoops (measureLoad s) else s
    liteTriggers (absorbSlew (serveTxRings s)) 1 0

/-- The next grid point: the receive rings publish before tasks are released (R258, R71), and GRID triggers arrive (R389). -/
def gridPoint (s : State) : State :=
  if modeNow s = 0 then s
  else
    let k := s.nextGrid
    let s := advanceTo { s with nextGrid := k + 1 } (BitVec.ofNat 64 (k * 25000))
    liteTriggers (scanGridPoint (publishRings s) k) 2 0

/-! ## Releases of EVENT and ERROR tasks (R72, R73) -/

/-- A task may be released now: its interval has passed and it is IDLE. -/
def releasable (s : State) (t : Nat) : Bool :=
  taskEnabled s t && mayRelease s t && taskStateOf s t == tsIDLE && intervalPassed s t

/-- An ERROR task's flask has a record. -/
def hasCause (s : State) (t : Nat) : Bool := (causeQueue s (taskFlask s t)).records != []

/-- EVENT_INTERVAL_EXPIRY: the interval of a task passes, and an event held or a record queued releases it. -/
def intervalExpiry (s : State) (t : Nat) : State :=
  let wants := (taskTrig s t == 1 && (taskAt s t).held) || (taskTrig s t == 2 && hasCause s t)
  if !wants then s
  else
    let s := match (taskAt s t).lastRel with
      | some r => advanceTo s (r + BitVec.ofNat 64 (taskPeriod s t * 25000))
      | none => s
    if releasable s t then takeRelease s t s.now else s

/-- ERROR_TASK_RELEASE. -/
def errorRelease (s : State) (t : Nat) : State :=
  if taskTrig s t = 2 ∧ hasCause s t ∧ releasable s t then takeRelease s t s.now else s

/-! ## Power fail (R94, R95, R238, R502) -/

/-- PFW asserts. -/
def pfwAsserts (s : State) : State := if modeNow s = 0 ∨ s.pfwLevel then s else updPowerFail (powerFail s)

/-- The save completes: retentive data, then the metering snapshot. -/
def saveCompletes (s : State) (drainUs : Nat) : State :=
  if s.scan.pfw ∧ !s.scan.saveDone then saveSnapshot (scanSaveDone s drainUs) else s

/-- PFW has stayed deasserted for 100 ms after the save: the record is written once more and the module resets. -/
def pfwReset (s : State) : State := if s.scan.saveDone then resetModule (saveRecord s) 0x40 else s

/-- A metering sample, whose sag detector may stand for PFW. -/
def sampleCommand (s : State) (x : MeterSample) : State :=
  if modeNow s = 0 then s
  else
    let r := meteringSample s x
    if r.pfwLevel && !s.pfwLevel then updPowerFail r else r

/-! ## The commands of chapter 03 -/

/-- TICK_BOUNDARY (R192). -/
def execTickBoundary (s : State) : Host.Outcome State Fault Refusal := .next (tickBoundary s)
/-- GRID_POINT (R71). -/
def execGridPoint (s : State) : Host.Outcome State Fault Refusal := .next (gridPoint s)
/-- EVENT_INTERVAL_EXPIRY (R72). -/
def execEventIntervalExpiry (t : Fin 64) (s : State) : Host.Outcome State Fault Refusal := .next (intervalExpiry s t.val)
/-- ERROR_TASK_RELEASE (R73). -/
def execErrorTaskRelease (t : Fin 64) (s : State) : Host.Outcome State Fault Refusal := .next (errorRelease s t.val)
/-- TASK_DISPATCH (R74). -/
def execTaskDispatch (c : Fin 8) (s : State) : Host.Outcome State Fault Refusal := .next (dispatchCore s c.val)
/-- RUN_RESUME (R75). -/
def execRunResume (c : Fin 8) (s : State) : Host.Outcome State Fault Refusal := .next (resumeCore s c.val)
/-- INPUT_LATCH (R77): `waitNs` is the time on the image port's queue. -/
def execInputLatch (t : Fin 64) (waitNs : Nat) (s : State) : Host.Outcome State Fault Refusal := .next (latchRun s t.val waitNs)
/-- OUTPUT_WRITE_BACK (R79). -/
def execOutputWriteBack (t : Fin 64) (waitNs : Nat) (s : State) : Host.Outcome State Fault Refusal := .next (writeBackRun s t.val waitNs)
/-- RETENTION_COPY (R89), and the end of the run. -/
def execRetentionCopy (t : Fin 64) (s : State) : Host.Outcome State Fault Refusal := .next (retentionRun s t.val)
/-- WATCHDOG_EXPIRY (R86). -/
def execWatchdogExpiry (t : Fin 64) (s : State) : Host.Outcome State Fault Refusal := .next (watchdogCut s t.val)
/-- RETENTION_BATCH_DRAIN (R90, R92): `ok` says that the write passed its read-back, `failAt` where it did not. -/
def execRetentionBatchDrain (ok : Bool) (failAt : Word) (s : State) : Host.Outcome State Fault Refusal := .next (drainBatch s ok failAt)
/-- PFW_ASSERT (R94). -/
def execPfwAssert (s : State) : Host.Outcome State Fault Refusal := .next (pfwAsserts s)
/-- POWER_FAIL_SAVE_COMPLETE (R94). -/
def execPowerFailSaveComplete (drainUs : Nat) (s : State) : Host.Outcome State Fault Refusal := .next (saveCompletes s drainUs)
/-- PFW_DEASSERT_RESET (R95). -/
def execPfwDeassertReset (s : State) : Host.Outcome State Fault Refusal := .next (pfwReset s)

/-! ## The commands of chapter 05 -/

/-- STAGE_COMPLETE (R156): the block's choice of places, taken where both fit. -/
def execStageComplete (codeAt dataAt : Word) (s : State) : Host.Outcome State Fault Refusal := .next (stageComplete s codeAt dataAt)
/-- EXCHANGE_TICK (R159): `peer` says that the standby has answered the container forwarded to it (R178). -/
def execExchangeTick (peer : Bool) (s : State) : Host.Outcome State Fault Refusal := .next (exchangeTick s peer)
/-- EXCHANGE_TIMEOUT (R159). -/
def execExchangeTimeout (s : State) : Host.Outcome State Fault Refusal := .next (exchangeTimeout s)
/-- EXCHANGE_SWITCH (R161): the migration's time, held within its bounds. -/
def execExchangeSwitch (migNs : Nat) (s : State) : Host.Outcome State Fault Refusal := .next (exchangeSwitch s migNs)
/-- EXCHANGE_REPORT (R168). -/
def execExchangeReport (s : State) : Host.Outcome State Fault Refusal := .next (exchangeReport s)
/-- GENERATION_APPLIED (R176). -/
def execGenerationApplied (f : Fin 32) (s : State) : Host.Outcome State Fault Refusal := .next (applyGeneration s f.val)

/-! ## The commands of chapter 07 -/

/-- METERING_SAMPLE (R209). -/
def execMeteringSample (x : MeterSample) (s : State) : Host.Outcome State Fault Refusal := .next (sampleCommand s x)
/-- ZC_LOST (R215). -/
def execZcLost (v : Fin 6) (s : State) : Host.Outcome State Fault Refusal := .next (zcLost s v.val)
/-- FIXED_WINDOW_END (R215). -/
def execFixedWindowEnd (s : State) : Host.Outcome State Fault Refusal := .next (fixedWindowEnd s)
/-- INTERVAL_BOUNDARY (R225). -/
def execIntervalBoundary (s : State) : Host.Outcome State Fault Refusal := .next (intervalBoundary s)
/-- CALIBRATION_WINDOW_END (R230): the corrections that the correlation gave, by path. -/
def execCalibrationWindowEnd (targets : List Int) (s : State) : Host.Outcome State Fault Refusal := .next (calibrationWindowEnd s targets)
/-- CORRECTION_STEP (R231). -/
def execCorrectionStep (s : State) : Host.Outcome State Fault Refusal := .next (correctionStep s)
/-- METERING_RECORD_SAVE (R237). -/
def execMeteringRecordSave (s : State) : Host.Outcome State Fault Refusal := .next (if modeNow s = 0 then s else saveRecord s)

end Sys2Proof.Machine
end

