-- ==== Sys2Proof/Machine/Nrap.lean ====
section
/-! DEFINITION. The management cores' side of NRAP: the operations of a request (R312 to R317, R320), their execution in order (R319), and
notifications (R318). -/

namespace Sys2Proof.Machine

/-! ## Operations and their arguments -/

/-- An operation of a request. -/
structure NrapOp where
  code : Nat
  args : List Byte
  deriving DecidableEq, Repr

/-- The operations that an area holds: none when a length is not a multiple of 4 or runs past the end. -/
def nrapOps : Nat → List Byte → Option (List NrapOp)
  | 0, area => if area = [] then some [] else none
  | n + 1, area =>
    if area = [] then some []
    else
      let len := leNat (sliceD 0 area 2 2)
      if area.length < 4 + len ∨ len % 4 ≠ 0 ∨ area.getD 1 0 ≠ 0 then none
      else (nrapOps n (area.drop (4 + len))).map (fun r => { code := (area.getD 0 0).toNat, args := (area.drop 4).take len } :: r)

/-- The number in `n` bytes of arguments from place `i`. -/
def argN (a : List Byte) (i n : Nat) : Nat := leNat (sliceD 0 a i n)

/-- A length rounded up to whole words. -/
def pad4 (n : Nat) : Nat := (n + 3) / 4 * 4

/-- An operation's outcome: the state, the STATUS and the result. A failed one leaves the state it found, but for what it counts. -/
structure NrapRes where
  s : State
  code : Code := .none
  result : List Byte := []

/-- Words as bytes. -/
def wordBytes (ws : List Word) : List Byte := (ws.map (fun w => leBytes 4 w.toNat)).flatten

/-- Point IDs of a list padded to a word. -/
def argPoints (a : List Byte) (i n : Nat) : List Nat := (upTo n).map (fun k => argN a (i + 2 * k) 2)

/-! ## Registers (R314) -/

/-- The pages that WR and WRM reach on a standby (R320): SYS, PWR, HM0 to HM5, TLM, PTP, NRP, TWN, MIR, FCS, UPD and DBG. -/
def standbyPage (p : Nat) : Bool :=
  p == 0x00 || p == 0x01 || pageIn p 0x78 0x80 || pageIn p 0x88 0x8A || p == 0x98 || p == 0xA0

/-- The page, offset and count of RD and WR arguments, where they are well formed. -/
def regArgs (a : List Byte) : Option (Nat × Nat × Nat) :=
  let off := argN a 2 2
  let n := argN a 4 2
  if a.length < 8 ∨ a.getD 1 0 ≠ 0 ∨ argN a 6 2 ≠ 0 ∨ off % 4 ≠ 0 ∨ 4096 < off + 4 * n then none else some (argN a 0 1, off, n)

/-- A page access of a binding's flask that R24 denies, or one to a lock. -/
def nrapBars (s : State) (q : Requester) (page off : Nat) : Code :=
  if !pageAllowed s (flaskOf s q) page off then .accessFlask else if lockBarred q page off then .notInState else .none

/-- Count a denial under R24. -/
def nrapDeny (s : State) (q : Requester) (page : Nat) (c : Code) : State := if c = .accessFlask then deny s (flaskOf s q) 9 page else s

/-- RD. -/
def nrapRd (s : State) (q : Requester) (a : List Byte) : NrapRes :=
  match regArgs a with
  | none => { s := s, code := .illegalValue }
  | some (page, off, n) =>
    if a.length ≠ 8 then { s := s, code := .illegalValue }
    else match ((upTo n).map (fun i => nrapBars s q page (off + 4 * i))).find? (· != .none) with
    | some c => { s := nrapDeny s q page c, code := c }
    | none =>
      let (s, ws) := (upTo n).foldl (fun (x : State × List Word) i => let (t, w) := regRead x.1 q page (off + 4 * i); (t, x.2 ++ [w])) (s, [])
      { s := s, result := wordBytes ws }

/-- WR's words one at a time: the state, and the code and index of the first that is rejected. A reset that a word asks for ends them. -/
def nrapWords (q : Requester) (page off : Nat) (check : State → Nat → Word → Code) : Nat → List Word → State → State × Code × Nat
  | _, [], s => (s, .none, 0xFFFF)
  | i, w :: r, s =>
    let o := off + 4 * i
    match check s o w with
    | .none =>
      match regWrite s q page o w with
      | (s, .none) => if s.boot.due.isSome then (s, .none, 0xFFFF) else nrapWords q page off check (i + 1) r s
      | (s, c) => (pgError s page o c, c, i)
    | c => (nrapDeny s q page c, c, i)

/-- The words that follow WR's arguments. -/
def argWords (a : List Byte) (i n : Nat) : List Word := (upTo n).map (fun k => BitVec.ofNat 32 (argN a (i + 4 * k) 4))

/-- WR. -/
def nrapWr (s : State) (q : Requester) (a : List Byte) : NrapRes :=
  match regArgs a with
  | none => { s := s, code := .illegalValue }
  | some (page, off, n) =>
    if a.length ≠ 8 + 4 * n then { s := s, code := .illegalValue }
    else if onStandby s ∧ !standbyPage page then { s := s, code := .notInState }
    else
      let (s, c, i) := nrapWords q page off (fun s o _ => nrapBars s q page o) 0 (argWords a 8 n) s
      { s := s, code := c, result := leBytes 2 i ++ [0, 0] }

/-- WRM. -/
def nrapWrm (s : State) (q : Requester) (a : List Byte) : NrapRes :=
  let page := argN a 0 1
  let off := argN a 2 2
  let mask : Word := BitVec.ofNat 32 (argN a 4 4)
  if a.length ≠ 12 ∨ a.getD 1 0 ≠ 0 ∨ off % 4 ≠ 0 ∨ 4096 ≤ off then { s := s, code := .illegalValue }
  else if onStandby s ∧ !standbyPage page then { s := s, code := .notInState }
  else match nrapBars s q page off with
  | .none =>
    let (r, w) := regRead s q page off
    match regWrite r q page off ((w &&& ~~~mask) ||| (BitVec.ofNat 32 (argN a 8 4) &&& mask)) with
    | (r, .none) => { s := r, result := wordBytes [wordNow r page off] }
    | (r, c) => { s := pgError r page off c, code := c }
  | c => { s := nrapDeny s q page c, code := c }

/-! ## Points and forces (R315) -/

/-- The first code that is not NONE. -/
def firstCode (cs : List Code) : Code := (cs.find? (· != .none)).getD .none

/-- A record as PRD and notifications list it. -/
def pointEntry (s : State) (f pid : Nat) : State × Code × List Byte :=
  let head (c : Code) : List Byte := [BitVec.ofNat 8 (codeNum c), 0] ++ leBytes 2 pid
  if 8192 ≤ pid then (s, .illegalValue, head .illegalValue)
  else
    let (s, p, ok) := tryRead s f 7 pid
    if ok then (s, .none, head .none ++ wordBytes (recordWords p)) else (s, .accessFlask, head .accessFlask)

/-- Entries of several points. -/
def pointEntries (s : State) (f : Nat) (pids : List Nat) : State × List Code × List Byte :=
  pids.foldl (fun (x : State × List Code × List Byte) pid =>
    let (s, c, b) := pointEntry x.1 f pid
    (s, x.2.1 ++ [c], x.2.2 ++ b)) (s, [], [])

/-- PRD. -/
def nrapPrd (s : State) (q : Requester) (a : List Byte) : NrapRes :=
  let n := argN a 0 2
  if a.length ≠ 4 + pad4 (2 * n) ∨ argN a 2 2 ≠ 0 then { s := s, code := .illegalValue }
  else
    let (s, cs, b) := pointEntries s (flaskOf s q) (argPoints a 4 n)
    { s := s, code := firstCode cs, result := b }

/-- One point of PWR. -/
def nrapPut (s : State) (q : Requester) (src : BitVec 16) (a : List Byte) (i : Nat) : State × Code :=
  let pid := argN a i 2
  let ql := a.getD (i + 2) 0
  if 8192 ≤ pid ∨ !writerQuality ql then (s, .illegalValue)
  else
    let (s, ok) := tryWrite s (flaskOf s q) 7 pid (BitVec.ofNat 64 (argN a (i + 4) 8)) ql s.now src
    (s, if ok then .none else .accessFlask)

/-- PWR. -/
def nrapPwr (s : State) (q : Requester) (src : BitVec 16) (a : List Byte) : NrapRes :=
  let n := argN a 0 2
  if a.length ≠ 4 + 12 * n ∨ argN a 2 2 ≠ 0 then { s := s, code := .illegalValue }
  else if onStandby s then { s := s, code := .notInState }
  else
    let (s, cs, b) := (upTo n).foldl (fun (x : State × List Code × List Byte) k =>
      let (s, c) := nrapPut x.1 q src a (4 + 12 * k)
      (s, x.2.1 ++ [c], x.2.2 ++ [BitVec.ofNat 8 (codeNum c), 0] ++ leBytes 2 (argN a (4 + 12 * k) 2))) (s, [], [])
    { s := s, code := firstCode cs, result := b }

/-- The words that LOOKUP and READ_INDEX return; the FRC page's own result registers are not touched. -/
def forceWords (s : State) (hit : Option (Nat × Force)) : List Byte :=
  let r := showForce s hit
  wordBytes [rd r R.FRC_RESULT, rd r (R.FRC_RVALUE 0), rd r (R.FRC_RVALUE 1), rd r (R.FRC_UVALUE 0), rd r (R.FRC_UVALUE 1), rd r R.FRC_UINFO]

/-- FORCE. -/
def nrapForce (s : State) (q : Requester) (a : List Byte) : NrapRes :=
  let op := argN a 0 1
  let f := flaskOf s q
  let n := argN a 2 2
  let plain (r : State × Code) : NrapRes := { s := r.1, code := r.2 }
  if a.length ≠ 12 ∨ a.getD 1 0 ≠ 0 ∨ op = 0 ∨ 5 < op ∨ (op ≤ 3 ∧ 8192 ≤ n) ∨ (op = 5 ∧ 1024 ≤ n) then { s := s, code := .illegalValue }
  else if op = 3 then
    let (s, c, hit) := forceLookup s f n
    { s := s, code := c, result := if c = .none then forceWords s hit else [] }
  else if op = 5 then
    let (s, c, hit) := forceReadIndex s f n
    { s := s, code := c, result := if c = .none then forceWords s hit else [] }
  else if onStandby s then { s := s, code := .notInState }
  else if op = 1 then plain (forceSet s f n (BitVec.ofNat 64 (argN a 4 8)))
  else if op = 2 then plain (forceClear s f n)
  else { s := forceClearFlask s f }

/-! ## The staging area and moulds (R316) -/

def areaBase (s : State) (f : Nat) : Nat := (rd s (R.NRP_STGBASE f)).toNat
def areaSize (s : State) (f : Nat) : Nat := (rd s (R.NRP_STGSZ f)).toNat

/-- `n` bytes from an offset lie in a flask's area, and in the fitted DRAM. -/
def inArea (s : State) (f off n : Nat) : Bool := decide (off + n ≤ areaSize s f) && inDram s (areaBase s f + off) n

/-- XCH. -/
def nrapXch (s : State) (q : Requester) (a : List Byte) : NrapRes :=
  let f := flaskOf s q
  let op := argN a 0 1
  let src := argN a 4 4
  let len := argN a 8 4
  let rpt := argN a 12 4
  let rsz := argN a 16 4
  if a.length ≠ 20 ∨ argN a 2 2 ≠ 0 then { s := s, code := .illegalValue }
  else if onStandby s ∨ (op = 1 ∧ areaSize s f = 0) then { s := s, code := .notInState }
  else if (op = 1 ∧ !inArea s f src len) ∨ (rsz ≠ 0 ∧ !inArea s f rpt rsz) then { s := s, code := .illegalValue }
  else
    let x : XchReq := { nrap := true, flask := f, src := areaBase s f + src, len := len, key := argN a 1 1, rptAddr := areaBase s f + rpt, rptSize := rsz }
    let (s, c) := xchOp s x op
    { s := s, code := c, result := wordBytes [wordNow s 0x41 (R.XCH_STATUS % 4096)] }

/-- STG_WR. -/
def nrapStgWr (s : State) (q : Requester) (a : List Byte) : NrapRes :=
  let f := flaskOf s q
  let off := argN a 0 4
  let n := argN a 4 4
  if a.length ≠ 8 + pad4 n then { s := s, code := .illegalValue }
  else if areaSize s f = 0 ∨ (onStandby s ∧ f ≠ 0) then { s := s, code := .notInState }
  else if !inArea s f off n then { s := s, code := .illegalValue }
  else { s := putBytes s (areaBase s f + off) ((a.drop 8).take n) }

/-- STG_RD. -/
def nrapStgRd (s : State) (q : Requester) (a : List Byte) : NrapRes :=
  let f := flaskOf s q
  let off := argN a 0 4
  let n := argN a 4 4
  if a.length ≠ 8 then { s := s, code := .illegalValue }
  else if areaSize s f = 0 then { s := s, code := .notInState }
  else if !inArea s f off n then { s := s, code := .illegalValue }
  else { s := s, result := padTo (pad4 n) (bytesAt s (areaBase s f + off) n) }

/-! ## Loops (R317) -/

/-- LOOP writes must leave the FLASK field of LPE_CFG as it is. -/
def loopWordCheck (n : Nat) (s : State) (off : Nat) (w : Word) : Code :=
  if off = R.LPE_CFG n % 4096 ∧ bits w F.LPE_CFG_FLASK.hi F.LPE_CFG_FLASK.lo ≠ loopFlask s n then .accessFlask else .none

/-- The words of LOOP, with the page's selector on the loop for the time being. -/
def nrapLoop (s : State) (q : Requester) (a : List Byte) : NrapRes :=
  let n := argN a 0 2
  let f := flaskOf s q
  let arg := a.drop 4
  match regArgs arg with
  | none => { s := s, code := .illegalValue }
  | some (page, off, cnt) =>
    let wr? := decide (8 < arg.length)
    if argN a 2 2 ≠ 0 ∨ 512 ≤ n ∨ page ≠ 0 ∨ off < 0x100 ∨ 0x270 < off + 4 * cnt ∨ arg.length ≠ (if wr? then 8 + 4 * cnt else 8) then
      { s := s, code := .illegalValue }
    else if f ≠ 0 ∧ loopFlask s n ≠ f then { s := s, code := .accessFlask }
    else if wr? ∧ onStandby s then { s := s, code := .notInState }
    else
      let page := 0x49 + n / 128
      let old := rd s (R.LPE_LSEL (n / 128))
      let select (s : State) (w : Word) : State := (regWrite s q page 0x40 w).1
      let s := select s (BitVec.ofNat 32 (n % 128))
      if wr? then
        let (s, c, i) := nrapWords q page off (loopWordCheck n) 0 (argWords arg 8 cnt) s
        { s := select s old, code := c, result := leBytes 2 i ++ [0, 0] }
      else
        let (s, ws) := (upTo cnt).foldl (fun (x : State × List Word) i => let (t, w) := regRead x.1 q page (off + 4 * i); (t, x.2 ++ [w])) (s, [])
        { s := select s old, result := wordBytes ws }

/-! ## Subscriptions (R318) -/

/-- Subscribe a binding to points in order, up to 1,024 in all: the subscriptions, the number of points added, and whether all fitted. -/
def addSubs (s : State) (b ms : Nat) : List Nat → List NrapSub → Nat → List NrapSub × Nat × Bool
  | [], l, n => (l, n, true)
  | p :: r, l, n =>
    if l.any (fun x => x.binding == b && x.point == p) then
      addSubs s b ms r (l.map (fun x => if x.binding = b ∧ x.point = p then { x with minMs := ms } else x)) n
    else if 1024 ≤ l.length then (l, n, false)
    else addSubs s b ms r (l ++ [{ binding := b, point := p, minMs := ms, seq := (pointAt s p).seq, at_ := none }]) (n + 1)

/-- SUB. -/
def nrapSub (s : State) (r : NrapReq) (a : List Byte) : NrapRes :=
  let op := argN a 0 1
  let ms := argN a 2 2
  let n := argN a 4 2
  let ps := argPoints a 8 n
  let subs := s.nrap.subs
  let setSubs (l : List NrapSub) : State := { s with nrap := { s.nrap with subs := l } }
  if a.length ≠ 8 + pad4 (2 * n) ∨ a.getD 1 0 ≠ 0 ∨ argN a 6 2 ≠ 0 ∨ op = 0 ∨ 3 < op ∨ (op = 1 ∧ ms = 0) ∨ ps.any (fun p => decide (8192 ≤ p)) then
    { s := s, code := .illegalValue }
  else if op = 3 then { s := endSubs s r.binding }
  else if op = 2 then { s := setSubs (subs.filter (fun x => !(x.binding == r.binding && ps.contains x.point))) }
  else
    let (l, k, all) := addSubs s r.binding ms ps subs 0
    let s := setSubs l
    let d : NrapDest := { mac := r.mac, ip := r.ip, udp := r.udp, gcm := r.flags.testBit 2 }
    { s := { s with nrap := { s.nrap with dests := tput (fun _ => none) s.nrap.dests r.binding (some d) } }
      code := if all then .none else .noResource, result := leBytes 2 k ++ [0, 0] }

/-! ## Executing a request (R312, R319) -/

/-- HELLO. -/
def nrapHello (s : State) (r : NrapReq) (q : Requester) : List Byte :=
  let role := if !paired s then 0 else if roleOf s = rlACTIVE then 1 else 2
  leBytes 4 (rd s R.NRP_BOOT).toNat ++ leBytes 4 (tget (fun _ => 0) s.nrap.lastSeq (portSlot r.port r.slot)) ++
  leBytes 1 (modeNow s) ++ leBytes 1 role ++ leBytes 1 (flaskOf s q) ++ leBytes 1 r.port ++ leBytes 2 (maxOp s r.port) ++ [0, 0]

/-- One operation (R313). -/
def nrapOp (s : State) (r : NrapReq) (o : NrapOp) : NrapRes :=
  let q : Requester := .nrap (Fin.ofNat 64 r.binding)
  let a := o.args
  if o.code = 1 then (if a = [] then { s := s, result := nrapHello s r q } else { s := s, code := .illegalValue })
  else if o.code = 2 then nrapRd s q a
  else if o.code = 3 then nrapWr s q a
  else if o.code = 4 then nrapWrm s q a
  else if o.code = 5 then nrapPrd s q a
  else if o.code = 6 then nrapPwr s q (sourceOf 6 (r.port * 256 + r.slot)) a
  else if o.code = 7 then nrapForce s q a
  else if o.code = 8 then nrapXch s q a
  else if o.code = 9 then nrapStgWr s q a
  else if o.code = 10 then nrapStgRd s q a
  else if o.code = 11 then nrapLoop s q a
  else if o.code = 12 then nrapSub s r a
  else { s := s, code := .illegalValue }

/-- An operation's answer: CODE, STATUS, LEN2 and the result. -/
def opAnswer (o : NrapOp) (c : Code) (b : List Byte) : List Byte :=
  [BitVec.ofNat 8 o.code, BitVec.ofNat 8 (codeNum c)] ++ leBytes 2 b.length ++ b

/-- The operations in order. `halt` is the code that every later one is answered with: SEQUENCE after a failure under STOP, NO_RESOURCE after a
result that would not fit beside the heads still owed. A module reset ends them. -/
def nrapRun (r : NrapReq) (room : Nat) : List NrapOp → Code → State → List Byte → State × List Byte
  | [], _, s, out => (s, out)
  | o :: rest, halt, s, out =>
    if halt ≠ .none then nrapRun r room rest halt s (out ++ opAnswer o halt [])
    else
      let x := nrapOp s r o
      if room < out.length + 4 + x.result.length + 4 * rest.length then nrapRun r room rest .noResource s (out ++ opAnswer o .noResource [])
      else if x.s.boot.due.isSome then (x.s, out)
      else nrapRun r room rest (if x.code ≠ .none ∧ r.flags.testBit 4 then .sequence else .none) x.s (out ++ opAnswer o x.code x.result)

/-- The response goes to the request's source, on queue 1 or, with LOW, on queue 2 (R303), and is kept for its SEQ (R311). -/
def nrapRespond (s : State) (r : NrapReq) (c : Code) (area : List Byte) : State :=
  let q := if r.flags.testBit 3 then 2 else 1
  let f : TxFrame := { kind := 2, mac := r.mac, ip := r.ip, port := r.udp, data := nrapSeal s (respFlags r.flags) r.slot (codeNum c) r.seq 1 area }
  let k := portSlot r.port r.slot
  let s := match tget (fun _ => none) s.nrap.kept k with
    | some x => if !r.hello ∧ x.tag = r.tag then { s with nrap := { s.nrap with kept := tput (fun _ => none) s.nrap.kept k (some { x with frame := some (q, f) }) } } else s
    | none => s
  hmSend s r.port q f

/-- The request that runs next: those with LOW at 0 first, each priority in order of acceptance. -/
def nextRequest (l : List NrapReq) : Option NrapReq :=
  match l.find? (fun r => !r.flags.testBit 3) with
  | some r => some r
  | none => l.head?

/-- NRAP_EXECUTE. A request whose area does not hold 1 to 64 whole operations is answered ILLEGAL_VALUE. During an activation pause none runs. -/
def nrapExecute (s : State) : State :=
  if s.paused then s
  else match nextRequest s.nrap.work with
  | none => s
  | some r =>
    let s := showDepth { s with nrap := { s.nrap with work := s.nrap.work.erase r } }
    match nrapOps 64 r.area with
    | some (o :: ops) =>
      let (s, out) := nrapRun r (maxOp s r.port) (o :: ops) .none s []
      if s.boot.due.isSome then settleReset s else nrapRespond s r .none out
    | _ => nrapRespond s r .illegalValue []

/-! ## Notifications -/

/-- The interval of a subscription in counts. -/
def subCounts (s : State) (x : NrapSub) : Nat :=
  (if flag s R.NRP_SATST F.NRP_SATST_SAT then max x.minMs (fld s R.NRP_SUBIVL F.NRP_SUBIVL_IVL) else x.minMs) * 100000

/-- A subscription of a binding is due: its SEQ has changed and its interval has passed. -/
def subDue (s : State) (b : Nat) (x : NrapSub) : Bool :=
  x.binding == b && (pointAt s x.point).seq != x.seq &&
  (match x.at_ with | some t => decide (t.toNat + subCounts s x ≤ s.now.toNat) | none => true)

/-- NRAP_NOTIFY: one notification of a binding, with up to 32 points that are due. -/
def nrapNotify (s : State) (b : Nat) : State :=
  let due := (s.nrap.subs.filter (subDue s b)).take 32
  match tget (fun _ => none) s.nrap.dests b with
  | none => s
  | some d =>
    if due = [] ∨ s.paused ∨ !bindOn s b ∨ !servesNrap s then s
    else
      let (s, _, body) := pointEntries s (flaskOf s (.nrap (Fin.ofNat 64 b))) (due.map (·.point))
      let n := tget (fun _ => 0) s.nrap.notes b + 1
      let subs := s.nrap.subs.map (fun x => if due.contains x then { x with seq := (pointAt s x.point).seq, at_ := some s.now } else x)
      let s := { s with nrap := { s.nrap with notes := tput (fun _ => 0) s.nrap.notes b n, subs := subs } }
      let area := opAnswer { code := 5, args := [] } .none body
      let flags := 3 + (if d.gcm then 4 else 0)
      hmSend s (bindPort s b) 3 { kind := 2, mac := d.mac, ip := d.ip, port := d.udp, data := nrapSeal s flags (bindSlot s b) 0 (BitVec.ofNat 32 n) 2 area }

/-! ## The commands -/

/-- NRAP_EXECUTE (R319). -/
def execNrapExecute (s : State) : Host.Outcome State Fault Refusal := .next (nrapExecute s)
/-- NRAP_NOTIFY (R318). -/
def execNrapNotify (b : Fin 64) (s : State) : Host.Outcome State Fault Refusal := .next (nrapNotify s b.val)

end Sys2Proof.Machine
end

