-- ==== Sys2Proof/Machine/Mirror.lean ====
section
/-! DEFINITION. Mirroring between the twins (R339 to R347, R178, R205, R241, R242): the point stream, the cut of a mirror frame, its application
section by section, and the resynchronization of a standby. -/

namespace Sys2Proof.Machine

/-! ## The cut (R340, R341) -/

/-- The section states of a loop, section 0 to 3, s1 before s2 (R205). -/
def loopStates (s : State) (n : Nat) : List DWord :=
  (upTo 8).map (fun i => BitVec.ofInt 64 (secState s n (i / 2) (i % 2)))

/-- The ENERGY entry of a circuit. -/
def energyItem (s : State) (c : Nat) : EnergyItem :=
  let x := circAt s c
  { circuit := c, maxd := rd s (R.CIR_MAXD c), tm := x.start, acc := x.acc, wraps := x.wraps, ivl := x.ivl, maxt := rd s (R.CIR_MAXT c) }

/-- A timebase multiple of 100,000,000 fell since the previous cut (R340). -/
def energyDue (s : State) : Bool := s.twin.cutAt.toNat / 100000000 != s.now.toNat / 100000000

/-- The frame being filled: the bytes used and the items left over. -/
structure Fill where
  used : Nat
  left : Nat := 0

/-- How many of `n` entries of a section go into the frame. -/
def fits (x : Fill) (entry n : Nat) : Nat := min n ((196608 - x.used - 8) / entry)

/-- Fill a section: its head comes with its first entry. -/
def fillSection (x : Fill) (entry n : Nat) : Fill :=
  let k := fits x entry n
  { used := x.used + (if k = 0 then 0 else 8 + entry * k), left := x.left + (n - k) }

/-- The header and the LOOP section, which every frame holds. -/
def fillLoops : Fill := { used := 32 + 8 + 48 * 512 }

/-- MIR_LAST, MIR_MAX, MIR_CARRY, MIR_BACKLOG and the Forecast's MIR_MAXB after a cut; at 100 frames with a carry in a row the active
stops sending (R341). -/
def countFrame (s : State) (len left : Nat) : State :=
  let s := wr s R.MIR_LAST (BitVec.ofNat 32 len)
  let s := if (rd s R.MIR_MAX).toNat < len then wr s R.MIR_MAX (BitVec.ofNat 32 len) else s
  let s := setTwin s { s.twin with mirMaxB := max s.twin.mirMaxB len }
  if left = 0 then wr s R.MIR_BACKLOG 0
  else
    let s := raiseBit (bumpSat (bumpSat s R.MIR_CARRY 1) R.MIR_BACKLOG 1) 0x89 0
    if 100 ≤ (rd s R.MIR_BACKLOG).toNat then setTwin s { s.twin with stopped := true } else s

/-- The items accepted since the previous cut go nowhere. -/
def dropItems (s : State) : State :=
  setTwin s { s.twin with xch := [], config := [], force := [], energy := [], runs := [], grans := [], cutAt := s.now }

/-- Cut the frame of the tick whose boundary was the last one. -/
def cutFrame (s : State) : State :=
  let x := s.twin
  let flasks := rd s R.MIR_FLASKS
  let energy := x.energy ++ (if energyDue s then (upTo 48).map (energyItem s) else [])
  let grans := x.grans.filter (fun g => flasks.getLsbD g.flask)
  let f0 := fillLoops
  let n1 := fits f0 16 x.xch.length
  let f1 := fillSection f0 16 x.xch.length
  let n2 := fits f1 8 x.config.length
  let f2 := fillSection f1 8 x.config.length
  let n3 := fits f2 40 x.force.length
  let f3 := fillSection f2 40 x.force.length
  let n4 := fits f3 128 energy.length
  let f4 := fillSection f3 128 energy.length
  let n5 := fits f4 8 1
  let f5 := fillSection f4 8 1
  let n6 := fits f5 32 x.runs.length
  let f6 := fillSection f5 32 x.runs.length
  let n7 := fits f6 48 grans.length
  let f7 := fillSection f6 48 grans.length
  let frame : MirrorFrame :=
    { tick := BitVec.ofNat 64 (s.nextTick - 1), epoch := rd s R.TWN_EPOCH, flasks := flasks, carry := min 0xFFFF f7.left, cut := s.now
      loops := (upTo 512).map (loopStates s), xch := x.xch.take n1, config := x.config.take n2, force := x.force.take n3, energy := energy.take n4
      evSeq := if n5 = 0 then none else some x.evSeq, runs := x.runs.take n6, grans := grans.take n7 }
  let s := setTwin s { x with frame := some frame, xch := x.xch.drop n1, config := x.config.drop n2, force := x.force.drop n3
                              energy := energy.drop n4, runs := x.runs.drop n6, grans := grans.drop n7, cutAt := s.now }
  countFrame s f7.used f7.left

/-- MIRROR_FRAME_CUT: at B + 100 µs, on an active that mirrors and has not stopped. -/
def mirrorCut (s : State) : State :=
  if !pairActive s then s
  else
    let s := if 0 < s.nextTick then advanceTo s (BitVec.ofNat 64 ((s.nextTick - 1) * 100000 + 10000)) else s
    if !mirrors s || s.twin.stopped then dropItems s else cutFrame s

/-! ## The point stream on the standby (R339) -/

/-- Commit a stream record with SOURCE class 9h, or put it beneath a force (R58). A record of a point that the standby has not allocated is
dropped. -/
def applyStream (s : State) (x : StreamRec) : State :=
  let pid := x.point.toNat
  match forceOn s pid with
  | some (k, e) =>
    setForce s k (some { e with uValue := x.value, uTstamp := x.tstamp, uQuality := x.quality, uSource := sourceOf 9 0, written := true })
  | none =>
    let p := pointAt s pid
    if p.alloc then setPoint s pid { p with value := x.value, quality := x.quality, tstamp := x.tstamp, seq := x.seq, source := sourceOf 9 0 } else s

/-- The module receives the mirror: a STANDBY with its link up. -/
def receives (s : State) : Bool := roleOf s == rlSTANDBY && onStandby s && linkUp s

/-- POINT_STREAM_RECEIVED: applied when SYNCED, queued during a resynchronization (R347). -/
def streamReceived (s : State) (x : StreamRec) : State :=
  if !receives s then s
  else if syncOf s = sySYNCED then applyStream s x
  else if syncOf s = syUNSYNCED then s
  else setTwin s { s.twin with queue := s.twin.queue ++ [.stream x] }

/-! ## The sections of a frame on the standby (R342 to R346) -/

/-- The flask is taken out of the comparison and resynchronized (R178, R347). -/
def resyncFlask (s : State) (f : Nat) : State := wr s R.MIR_RESYNC (rd s R.MIR_RESYNC ||| BitVec.ofNat 32 (2 ^ f))

/-- LOOP: the states that replace a loop's own before its next sample (R205). -/
def applyLoops (s : State) (l : List (List DWord)) : State :=
  forAll (fun s n => match l.drop n with
    | m :: _ => setLoop s n { loopAt s n with mirrored := m }
    | [] => s) (upTo 512) s

/-- XCH: the standby switches at the same tick, and abandons a shadow run in progress; one that has not staged resynchronizes the flask
(R178). -/
def applyXch (s : State) (x : XchItem) : State :=
  let f := x.flask.val
  if xchFlask s = f ∧ xchState s = (if x.rollback then xsRETAINED else xsSTAGED) then
    let s := forAll (fun s t => if taskFlask s t = f ∧ (taskAt s t).run.isSome then abandonRun s t else s) (upTo 64) s
    let s := setFld (setTwin s { s.twin with named := some x }) R.XCH_STATUS F.XCH_STATUS_ROLLBACK (b2n x.rollback)
    let at_ := x.tick * 100000
    setXchState { s with xch := { s.xch with tickAt := at_, commitAt := at_ } } xsMIGRATING
  else resyncFlask s f

/-- CONFIG: replayed as a register write; a rejection sets CONFIG_DIVERGED and starts a full resynchronization (R343). -/
def applyConfig (s : State) (x : ConfigItem) : State :=
  let page := x.page.toNat
  let off := x.off.toNat
  match regWrite s (.mgmt 0) page off x.v with
  | (r, .none) => r
  | (r, c) => fullResync (noteFlag (pgError r page off c) 9)

/-- The entry that a FORCE item describes. -/
def itemForce (x : ForceItem) : Force :=
  { point := x.point, value := x.value, setter := x.setter, orphan := x.orphan, written := x.written, uValue := x.uValue, uTstamp := x.uTstamp
    uQuality := x.uQuality, uSource := x.uSource }

/-- FORCE: SET, CLEAR, BENEATH and ORPHAN on the standby's own table, written through to its NVR (R61). -/
def applyForce (s : State) (x : ForceItem) : State :=
  let pid := x.point.toNat
  let e := itemForce x
  let s := if x.op = 1 then commitForce (setForce s x.index (some e)) pid (forcedRecord (pointAt s pid) x.index x.value s.now)
    else if x.op = 2 then liftForce s x.index ((forceAt s x.index).getD e)
    else setForce s x.index (some e)
  saveForces s

/-- The increments of EIMP + EEXP of a circuit since the last rebase, own and active's, are compared (R242), in 2^-24 mWh. -/
def compareEnergy (s : State) (x : EnergyItem) (later : List NetRec) : State :=
  match tget (fun _ => none) s.twin.ebase x.circuit with
  | none => s
  | some base =>
    let sum (l : List Nat) : Nat := l.getD 0 0 + l.getD 1 0
    let gone := (later.map (fun n => n.cp.natAbs)).foldl (· + ·) 0
    let m := 2 ^ 64
    let own := (sum (circAt s x.circuit).acc + 4 * m - gone % m - base % m) % m
    let act := (sum x.acc + m - base % m) % m
    let diff := max own act - min own act
    let s := if act + 1000 * 2 ^ 24 < 1000 * diff then noteFlag s 1 else s
    if s.twin.mtrDiff < diff / 2 ^ 24 then setTwin s { s.twin with mtrDiff := diff / 2 ^ 24, mtrCirc := x.circuit } else s

/-- ENERGY: the circuit takes the mirrored totals and adds its own nets of the cycles that ended more than 1 ms after Tm (R241). -/
def applyEnergy (s : State) (x : EnergyItem) : State :=
  let c := x.circuit
  let mine := s.twin.nets.filter (fun n => n.circuit == c && decide (x.tm.toNat + 100000 < n.te.toNat))
  let s := compareEnergy s x mine
  let s := setCirc s c { circAt s c with acc := x.acc, wraps := x.wraps, ivl := x.ivl }
  let s := wr (wr s (R.CIR_MAXD c) x.maxd) (R.CIR_MAXT c) x.maxt
  let s := forAll (fun s r => showEnergy s (R.CIR_E c r) (R.CIR_EH c r) (x.acc.getD r 0) (x.wraps.getD r 0)) (upTo 6) s
  let s := setTwin s { s.twin with nets := s.twin.nets.filter (fun n => n.circuit != c) ++ mine
                                   ebase := tput (fun _ => none) s.twin.ebase c (some (x.acc.getD 0 0 + x.acc.getD 1 0)) }
  forAll (fun s n => applyNets s c n.cp n.cq) mine s

/-- RUN: records of CYCLIC tasks of the active's mirrored flasks are compared (R346). -/
def applyRun (flasks : Word) (s : State) (x : RunItem) : State := if x.cyclic && flasks.getLsbD x.flask then recordCame s x else s

/-- The place of a granule in the tags. -/
def granKey (m : Mould) (x : GranItem) : Nat := (m.dataAt + x.off) / 32

/-- GRAN (R345): of a CYCLIC task, when it is no older than the granule's tag; of an EVENT or ERROR task at once, or at the end of the shadow run
in progress. -/
def applyGranItem (s : State) (x : GranItem) : State :=
  match mouldOf s x.flask with
  | none => s
  | some m =>
    if taskTrig s x.task = 0 then
      if tget (fun _ => 0) s.twin.tags (granKey m x) ≤ x.rel then
        let s := applyGran s x
        setTwin s { s.twin with tags := tput (fun _ => 0) s.twin.tags (granKey m x) x.rel }
      else s
    else if (taskAt s x.task).run.isSome then setTwin s { s.twin with heldGrans := s.twin.heldGrans ++ [x] }
    else applyGran s x

/-- Apply while the standby has not fallen to UNSYNCED. -/
def whileSynced {α : Type} (f : State → α → State) (s : State) (x : α) : State := if syncOf s = syUNSYNCED then s else f s x

/-- The sections of a frame, in their order (R342). -/
def applySections (s : State) (x : MirrorFrame) : State :=
  let s := applyLoops s x.loops
  let s := forAll applyXch x.xch s
  let s := forAll (whileSynced applyConfig) x.config s
  let s := forAll (whileSynced applyForce) x.force s
  let s := forAll (whileSynced applyEnergy) x.energy s
  let s := match x.evSeq with | some n => setTwin s { s.twin with evSeq := n } | none => s
  let s := forAll (whileSynced (applyRun x.flasks)) x.runs s
  forAll (whileSynced applyGranItem) x.grans s

/-- The standby counts consecutive frames with a carry and falls to UNSYNCED at 100 (R341). -/
def countCarry (s : State) (x : MirrorFrame) : State :=
  if x.carry = 0 then wr s R.MIR_BACKLOG 0
  else
    let s := bumpSat s R.MIR_BACKLOG 1
    if 100 ≤ (rd s R.MIR_BACKLOG).toNat then fullResync s else s

/-- Apply a frame; a frame lost before it starts a full resynchronization (R347). -/
def applyFrame (s : State) (x : MirrorFrame) : State :=
  let lost := match s.twin.lastTick with | some t => x.tick != t + 1 | none => false
  if lost then fullResync s
  else whileSynced applySections (countCarry (setTwin s { s.twin with lastTick := some x.tick }) x) x

/-- MIRROR_FRAME_RECEIVED. -/
def frameReceived (s : State) (x : MirrorFrame) : State :=
  if !receives s then s
  else if syncOf s = sySYNCED then applyFrame s x
  else if syncOf s = syUNSYNCED then s
  else setTwin s { s.twin with queue := s.twin.queue ++ [.frame x] }

/-! ## Resynchronization (R347) -/

/-- BULK_START: on the active, frames and stream go on; on the standby, BULK. -/
def bulkBegins (s : State) : State :=
  if mirrors s then setTwin s { s.twin with bulking := true, stopped := false }
  else if receives s && syncOf s == syUNSYNCED then
    setSync (setTwin s { s.twin with queue := [], lastTick := none, ebase := [], nets := [], shadow := [], records := [] }) syBULK
  else s

/-- A word of a register image: the register write, or where the page's state bars it, the image's word in its writable fields (assumption 30). -/
def applyImageWord (s : State) (x : ConfigItem) : State :=
  let page := x.page.toNat
  let off := x.off.toNat
  match regWrite s (.mgmt 0) page off x.v with
  | (r, .none) => r
  | (_, _) => match findReg page off with
    | some d => wr s (keyAt s page off d) (writtenWord d (rd s (keyAt s page off d)) x.v)
    | none => s

/-- A point record from its eight words. -/
def wordsPoint (w : List Word) : Point :=
  let g (i : Nat) : Word := w.getD i 0
  { value := g 1 ++ g 0, tstamp := g 3 ++ g 2, readers := g 4, quality := (g 5).setWidth 8, dtype := ((g 5) >>> 8).setWidth 8
    owner := ((g 5) >>> 16).setWidth 5, alloc := (g 5).getLsbD 24, forced := (g 5).getLsbD 25, source := (g 6).setWidth 16
    seq := ((g 6) >>> 16).setWidth 16 }

/-- A mould and its data region: the tags of its granules start anew. -/
def applyMould (s : State) (x : MouldImage) : State :=
  let m := x.mould
  let s := putBytes (putBytes s m.codeAt x.code) m.dataAt x.data
  let s := setTwin s { s.twin with tags := s.twin.tags.filter (fun t => decide (t.1 < m.dataAt / 32 ∨ (m.dataAt + m.dataSize) / 32 ≤ t.1)) }
  setMould s x.flask (some m)

/-- The generations that a transfer carries. -/
def applyNvr (s : State) (l : List (Nat × List NvrInst)) : State := forAll (fun s (x : Nat × List NvrInst) => setNvr s x.1 x.2) l s

/-- A whole transfer: every mould, configuration word, point record, force and generation. -/
def applyWhole (s : State) (x : BulkImage) : State :=
  let s := forAll applyMould x.moulds (forAll (fun s f => setMould s f none) (upTo 32) s)
  let s := forAll applyImageWord x.config s
  let s := forAll (fun s (p : PointImage) => setPoint s p.point.toNat (wordsPoint p.words)) x.points s
  let s := saveForces (forAll (fun s (f : ForceItem) => setForce s f.index (some (itemForce f))) x.forces { s with forces := [] })
  let s := setTwin (applyNvr s x.nvr) { s.twin with tags := [], heldGrans := [] }
  wr s R.MIR_RESYNC 0

/-- One flask's mould and data region: its bit in MIR_RESYNC falls. -/
def applyFlask (s : State) (f : Nat) (x : BulkImage) : State :=
  let s := applyNvr (forAll applyMould (x.moulds.filter (fun m => m.flask == f)) s) (x.nvr.filter (fun n => n.1 == f))
  wr s R.MIR_RESYNC (rd s R.MIR_RESYNC &&& ~~~BitVec.ofNat 32 (2 ^ f))

/-- BULK_COMPLETE: a whole transfer leads to CATCHUP; a flask's ends its resynchronization. -/
def bulkEnds (s : State) (x : BulkImage) : State :=
  match x.flask with
  | some f =>
    if receives s && (rd s R.MIR_RESYNC).getLsbD f.val then applyFlask s f.val x else s
  | none =>
    if pairActive s then setTwin s { s.twin with bulking := false }
    else if receives s && syncOf s == syBULK then setSync (applyWhole s x) syCATCHUP
    else s

/-- A queued item. -/
def applyLink (s : State) (x : LinkItem) : State :=
  match x with
  | .frame f => applyFrame s f
  | .stream r => applyStream s r

/-- CATCHUP_COMPLETE: the queued items are applied in order, then SYNCED. -/
def catchupEnds (s : State) : State :=
  if receives s && syncOf s == syCATCHUP then
    let items := s.twin.queue
    let s := forAll (whileSynced applyLink) items (setTwin s { s.twin with queue := [] })
    if syncOf s = syCATCHUP then setSync s sySYNCED else s
  else s

/-! ## The commands -/

/-- POINT_STREAM_RECEIVED (R339). -/
def execPointStreamReceived (x : StreamRec) (s : State) : Host.Outcome State Fault Refusal := .next (streamReceived s x)
/-- MIRROR_FRAME_CUT (R340). -/
def execMirrorFrameCut (s : State) : Host.Outcome State Fault Refusal := .next (mirrorCut s)
/-- MIRROR_FRAME_RECEIVED (R342). -/
def execMirrorFrameReceived (x : MirrorFrame) (s : State) : Host.Outcome State Fault Refusal := .next (frameReceived s x)
/-- BULK_START (R347). -/
def execBulkStart (s : State) : Host.Outcome State Fault Refusal := .next (bulkBegins s)
/-- BULK_COMPLETE (R347). -/
def execBulkComplete (x : BulkImage) (s : State) : Host.Outcome State Fault Refusal := .next (bulkEnds s x)
/-- CATCHUP_COMPLETE (R347). -/
def execCatchupComplete (s : State) : Host.Outcome State Fault Refusal := .next (catchupEnds s)

end Sys2Proof.Machine
end

