-- ==== Sys2Proof/Machine/Dispatch.lean ====
section
/-! DEFINITION. The meaning of each command: one arm for each constructor of Instr. -/

namespace Sys2Proof.Machine

def exec (i : Instr) (s : State) : Host.Outcome State Fault Refusal :=
  match i with
  | .registerWrite q page off v => Sys2Proof.Machine.execRegisterWrite q page off v s
  | .addressDecodeError q addr len data => Sys2Proof.Machine.execAddressDecodeError q addr len data s
  | .registerAccessMisaligned q addr len write => Sys2Proof.Machine.execRegisterAccessMisaligned q addr len write s
  | .wideRegisterRead q page off => Sys2Proof.Machine.execWideRegisterRead q page off s
  | .wideRegisterCommit q page off v => Sys2Proof.Machine.execWideRegisterCommit q page off v s
  | .enableWrite q fn => Sys2Proof.Machine.execEnableWrite q fn s
  | .disableWrite q fn => Sys2Proof.Machine.execDisableWrite q fn s
  | .startingComplete fn => Sys2Proof.Machine.execStartingComplete fn s
  | .stoppingComplete fn => Sys2Proof.Machine.execStoppingComplete fn s
  | .eventPendClear q k mask => Sys2Proof.Machine.execEventPendClear q k mask s
  | .windowRecordRead q pid word => Sys2Proof.Machine.execWindowRecordRead q pid word s
  | .windowStageLow q pid v => Sys2Proof.Machine.execWindowStageLow q pid v s
  | .windowStageQuality q pid v => Sys2Proof.Machine.execWindowStageQuality q pid v s
  | .windowCommit q pid v => Sys2Proof.Machine.execWindowCommit q pid v s
  | .forceSet q => Sys2Proof.Machine.execForceSet q s
  | .forceClear q => Sys2Proof.Machine.execForceClear q s
  | .forceLookup q => Sys2Proof.Machine.execForceLookup q s
  | .forceClearFlask q => Sys2Proof.Machine.execForceClearFlask q s
  | .forceReadIndex q => Sys2Proof.Machine.execForceReadIndex q s
  | .ptdAlloc q => Sys2Proof.Machine.execPtdAlloc q s
  | .ptdFree q => Sys2Proof.Machine.execPtdFree q s
  | .ptdLoad q => Sys2Proof.Machine.execPtdLoad q s
  | .ptdUpdate q => Sys2Proof.Machine.execPtdUpdate q s
  | .flkDenyClear q mask => Sys2Proof.Machine.execFlkDenyClear q mask s
  | .tickBoundary => Sys2Proof.Machine.execTickBoundary s
  | .gridPoint => Sys2Proof.Machine.execGridPoint s
  | .eventIntervalExpiry t => Sys2Proof.Machine.execEventIntervalExpiry t s
  | .errorTaskRelease t => Sys2Proof.Machine.execErrorTaskRelease t s
  | .taskDispatch c => Sys2Proof.Machine.execTaskDispatch c s
  | .runResume c => Sys2Proof.Machine.execRunResume c s
  | .inputLatch t waitNs => Sys2Proof.Machine.execInputLatch t waitNs s
  | .outputWriteBack t waitNs => Sys2Proof.Machine.execOutputWriteBack t waitNs s
  | .retentionCopy t => Sys2Proof.Machine.execRetentionCopy t s
  | .watchdogExpiry t => Sys2Proof.Machine.execWatchdogExpiry t s
  | .retentionBatchDrain ok failAt => Sys2Proof.Machine.execRetentionBatchDrain ok failAt s
  | .pfwAssert => Sys2Proof.Machine.execPfwAssert s
  | .powerFailSaveComplete drainUs => Sys2Proof.Machine.execPowerFailSaveComplete drainUs s
  | .pfwDeassertReset => Sys2Proof.Machine.execPfwDeassertReset s
  | .taskEnable q t v => Sys2Proof.Machine.execTaskEnable q t v s
  | .taskDisable q t v => Sys2Proof.Machine.execTaskDisable q t v s
  | .taskCounterClear q v => Sys2Proof.Machine.execTaskCounterClear q v s
  | .ldw t o => Sys2Proof.Machine.execLdw t o s
  | .ldh t o => Sys2Proof.Machine.execLdh t o s
  | .ldhu t o => Sys2Proof.Machine.execLdhu t o s
  | .ldb t o => Sys2Proof.Machine.execLdb t o s
  | .ldbu t o => Sys2Proof.Machine.execLdbu t o s
  | .stw t o => Sys2Proof.Machine.execStw t o s
  | .sth t o => Sys2Proof.Machine.execSth t o s
  | .stb t o => Sys2Proof.Machine.execStb t o s
  | .ldd t o => Sys2Proof.Machine.execLdd t o s
  | .std t o => Sys2Proof.Machine.execStd t o s
  | .movi t o => Sys2Proof.Machine.execMovi t o s
  | .lui t o => Sys2Proof.Machine.execLui t o s
  | .mfs t o => Sys2Proof.Machine.execMfs t o s
  | .mts t o => Sys2Proof.Machine.execMts t o s
  | .add t o => Sys2Proof.Machine.execAdd t o s
  | .addi t o => Sys2Proof.Machine.execAddi t o s
  | .sub t o => Sys2Proof.Machine.execSub t o s
  | .mul t o => Sys2Proof.Machine.execMul t o s
  | .mulh t o => Sys2Proof.Machine.execMulh t o s
  | .div t o => Sys2Proof.Machine.execDiv t o s
  | .rem t o => Sys2Proof.Machine.execRem t o s
  | .and t o => Sys2Proof.Machine.execAnd t o s
  | .andi t o => Sys2Proof.Machine.execAndi t o s
  | .or t o => Sys2Proof.Machine.execOr t o s
  | .ori t o => Sys2Proof.Machine.execOri t o s
  | .xor t o => Sys2Proof.Machine.execXor t o s
  | .xori t o => Sys2Proof.Machine.execXori t o s
  | .shf t o => Sys2Proof.Machine.execShf t o s
  | .adds t o => Sys2Proof.Machine.execAdds t o s
  | .subs t o => Sys2Proof.Machine.execSubs t o s
  | .min t o => Sys2Proof.Machine.execMin t o s
  | .max t o => Sys2Proof.Machine.execMax t o s
  | .minu t o => Sys2Proof.Machine.execMinu t o s
  | .maxu t o => Sys2Proof.Machine.execMaxu t o s
  | .abs t o => Sys2Proof.Machine.execAbs t o s
  | .bfxExtract t o => Sys2Proof.Machine.execBfxExtract t o s
  | .bfxInsert t o => Sys2Proof.Machine.execBfxInsert t o s
  | .fadd t o => Sys2Proof.Machine.execFadd t o s
  | .fsub t o => Sys2Proof.Machine.execFsub t o s
  | .fmul t o => Sys2Proof.Machine.execFmul t o s
  | .fdiv t o => Sys2Proof.Machine.execFdiv t o s
  | .fma t o => Sys2Proof.Machine.execFma t o s
  | .fsqrt t o => Sys2Proof.Machine.execFsqrt t o s
  | .fabs t o => Sys2Proof.Machine.execFabs t o s
  | .fneg t o => Sys2Proof.Machine.execFneg t o s
  | .fmin t o => Sys2Proof.Machine.execFmin t o s
  | .fmax t o => Sys2Proof.Machine.execFmax t o s
  | .fcvtS32ToFloat t o => Sys2Proof.Machine.execFcvtS32ToFloat t o s
  | .fcvtU32ToFloat t o => Sys2Proof.Machine.execFcvtU32ToFloat t o s
  | .fcvtFloatToS32Trunc t o => Sys2Proof.Machine.execFcvtFloatToS32Trunc t o s
  | .fcvtFloatToS32Nearest t o => Sys2Proof.Machine.execFcvtFloatToS32Nearest t o s
  | .fcvtFloatToU32Trunc t o => Sys2Proof.Machine.execFcvtFloatToU32Trunc t o s
  | .fcmp t o => Sys2Proof.Machine.execFcmp t o s
  | .beq t o => Sys2Proof.Machine.execBeq t o s
  | .bne t o => Sys2Proof.Machine.execBne t o s
  | .blt t o => Sys2Proof.Machine.execBlt t o s
  | .bge t o => Sys2Proof.Machine.execBge t o s
  | .bltu t o => Sys2Proof.Machine.execBltu t o s
  | .bgeu t o => Sys2Proof.Machine.execBgeu t o s
  | .jmp t o => Sys2Proof.Machine.execJmp t o s
  | .set t o => Sys2Proof.Machine.execSet t o s
  | .call t o => Sys2Proof.Machine.execCall t o s
  | .callr t o => Sys2Proof.Machine.execCallr t o s
  | .ret t o => Sys2Proof.Machine.execRet t o s
  | .sysRelLo t o => Sys2Proof.Machine.execSysRelLo t o s
  | .sysRelHi t o => Sys2Proof.Machine.execSysRelHi t o s
  | .sysTbLo t o => Sys2Proof.Machine.execSysTbLo t o s
  | .sysTbHi t o => Sys2Proof.Machine.execSysTbHi t o s
  | .sysSt t o => Sys2Proof.Machine.execSysSt t o s
  | .sysStClr t o => Sys2Proof.Machine.execSysStClr t o s
  | .sysTask t o => Sys2Proof.Machine.execSysTask t o s
  | .sysMode t o => Sys2Proof.Machine.execSysMode t o s
  | .sysRuns t o => Sys2Proof.Machine.execSysRuns t o s
  | .sysDt t o => Sys2Proof.Machine.execSysDt t o s
  | .tmr t o => Sys2Proof.Machine.execTmr t o s
  | .ctr t o => Sys2Proof.Machine.execCtr t o s
  | .edg t o => Sys2Proof.Machine.execEdg t o s
  | .trst t o => Sys2Proof.Machine.execTrst t o s
  | .prd t o => Sys2Proof.Machine.execPrd t o s
  | .pwr t o => Sys2Proof.Machine.execPwr t o s
  | .ptst t o => Sys2Proof.Machine.execPtst t o s
  | .hltEnd t o => Sys2Proof.Machine.execHltEnd t o s
  | .hltTrap t o => Sys2Proof.Machine.execHltTrap t o s
  | .hltBrk t o => Sys2Proof.Machine.execHltBrk t o s
  | .xchStage q => Sys2Proof.Machine.execXchStage q s
  | .stageComplete codeAt dataAt => Sys2Proof.Machine.execStageComplete codeAt dataAt s
  | .xchCommit q => Sys2Proof.Machine.execXchCommit q s
  | .xchAbandon q => Sys2Proof.Machine.execXchAbandon q s
  | .xchConfirm q => Sys2Proof.Machine.execXchConfirm q s
  | .xchRollback q => Sys2Proof.Machine.execXchRollback q s
  | .xchUnload q => Sys2Proof.Machine.execXchUnload q s
  | .exchangeTick peer => Sys2Proof.Machine.execExchangeTick peer s
  | .exchangeTimeout => Sys2Proof.Machine.execExchangeTimeout s
  | .exchangeSwitch migNs => Sys2Proof.Machine.execExchangeSwitch migNs s
  | .exchangeReport => Sys2Proof.Machine.execExchangeReport s
  | .generationApplied f => Sys2Proof.Machine.execGenerationApplied f s
  | .bankSwapRequest q n => Sys2Proof.Machine.execBankSwapRequest q n s
  | .groupSwap q groups => Sys2Proof.Machine.execGroupSwap q groups s
  | .meteringSample x => Sys2Proof.Machine.execMeteringSample x s
  | .zcLost v => Sys2Proof.Machine.execZcLost v s
  | .fixedWindowEnd => Sys2Proof.Machine.execFixedWindowEnd s
  | .intervalBoundary => Sys2Proof.Machine.execIntervalBoundary s
  | .calibrationWindowEnd targets => Sys2Proof.Machine.execCalibrationWindowEnd targets s
  | .correctionStep => Sys2Proof.Machine.execCorrectionStep s
  | .meteringRecordSave => Sys2Proof.Machine.execMeteringRecordSave s
  | .circuitZero q c => Sys2Proof.Machine.execCircuitZero q c s
  | .circuitClrMax q c => Sys2Proof.Machine.execCircuitClrMax q c s
  | .canIntegrationComplete b => Sys2Proof.Machine.execCanIntegrationComplete b s
  | .canFrameReceived b x => Sys2Proof.Machine.execCanFrameReceived b x s
  | .canTxRequest q b bufs idle => Sys2Proof.Machine.execCanTxRequest q b bufs idle s
  | .canArbitrationLost b => Sys2Proof.Machine.execCanArbitrationLost b s
  | .canTxDone b sof tdcv => Sys2Proof.Machine.execCanTxDone b sof tdcv s
  | .canTxCancel q b bufs ph => Sys2Proof.Machine.execCanTxCancel q b bufs ph s
  | .canError b x => Sys2Proof.Machine.execCanError b x s
  | .canRecover q b => Sys2Proof.Machine.execCanRecover q b s
  | .canRecoveryComplete b => Sys2Proof.Machine.execCanRecoveryComplete b s
  | .canProtocolException b => Sys2Proof.Machine.execCanProtocolException b s
  | .canExceptionEnd b => Sys2Proof.Machine.execCanExceptionEnd b s
  | .canListenSwitch b => Sys2Proof.Machine.execCanListenSwitch b s
  | .phyLinkUp p full mse => Sys2Proof.Machine.execPhyLinkUp p full mse s
  | .phyLinkDown p => Sys2Proof.Machine.execPhyLinkDown p s
  | .quietCheckEnd p quiet => Sys2Proof.Machine.execQuietCheckEnd p quiet s
  | .detectionResult p valid => Sys2Proof.Machine.execDetectionResult p valid s
  | .detectionRetry p => Sys2Proof.Machine.execDetectionRetry p s
  | .sccpAttemptEnd p cls => Sys2Proof.Machine.execSccpAttemptEnd p cls s
  | .powerUpReached p => Sys2Proof.Machine.execPowerUpReached p s
  | .powerUpTimeout p => Sys2Proof.Machine.execPowerUpTimeout p s
  | .portOverload p => Sys2Proof.Machine.execPortOverload p s
  | .portShort p => Sys2Proof.Machine.execPortShort p s
  | .railUndervoltage g volt => Sys2Proof.Machine.execRailUndervoltage g volt s
  | .portDisconnect p => Sys2Proof.Machine.execPortDisconnect p s
  | .coolDownEnd p => Sys2Proof.Machine.execCoolDownEnd p s
  | .dischargeComplete p => Sys2Proof.Machine.execDischargeComplete p s
  | .dischargeLimit p => Sys2Proof.Machine.execDischargeLimit p s
  | .downlinkFrameSend => Sys2Proof.Machine.execDownlinkFrameSend s
  | .uplinkFrameReceived p x => Sys2Proof.Machine.execUplinkFrameReceived p x s
  | .stationDrop p => Sys2Proof.Machine.execStationDrop p s
  | .stationSubstituteCommit p => Sys2Proof.Machine.execStationSubstituteCommit p s
  | .hostFrameReceived m x => Sys2Proof.Machine.execHostFrameReceived m x s
  | .hostFrameTransmit m stamp underrun => Sys2Proof.Machine.execHostFrameTransmit m stamp underrun s
  | .ptpFifoPop q m tx => Sys2Proof.Machine.execPtpFifoPop q m tx s
  | .macCounterClear q m v => Sys2Proof.Machine.execMacCounterClear q m v s
  | .mdioAccess q m v => Sys2Proof.Machine.execMdioAccess q m v s
  | .mdioComplete m data => Sys2Proof.Machine.execMdioComplete m data s
  | .nrapRequest m => Sys2Proof.Machine.execNrapRequest m s
  | .nrapExecute => Sys2Proof.Machine.execNrapExecute s
  | .nrapNotify b => Sys2Proof.Machine.execNrapNotify b s
  | .heartbeatSend => Sys2Proof.Machine.execHeartbeatSend s
  | .heartbeatReceived x at_ roleIn => Sys2Proof.Machine.execHeartbeatReceived x at_ roleIn s
  | .slotCheck roleIn => Sys2Proof.Machine.execSlotCheck roleIn s
  | .enterActiveRole => Sys2Proof.Machine.execEnterActiveRole s
  | .roleKeeperExpiry => Sys2Proof.Machine.execRoleKeeperExpiry s
  | .demotion => Sys2Proof.Machine.execDemotion s
  | .linkPacketRetry received => Sys2Proof.Machine.execLinkPacketRetry received s
  | .pointStreamReceived x => Sys2Proof.Machine.execPointStreamReceived x s
  | .mirrorFrameCut => Sys2Proof.Machine.execMirrorFrameCut s
  | .mirrorFrameReceived x => Sys2Proof.Machine.execMirrorFrameReceived x s
  | .bulkStart => Sys2Proof.Machine.execBulkStart s
  | .bulkComplete x => Sys2Proof.Machine.execBulkComplete x s
  | .catchupComplete => Sys2Proof.Machine.execCatchupComplete s
  | .forecastPublish => Sys2Proof.Machine.execForecastPublish s
  | .forecastReceived bytes => Sys2Proof.Machine.execForecastReceived bytes s
  | .selfTestSweepEnd x => Sys2Proof.Machine.execSelfTestSweepEnd x s
  | .handover q => Sys2Proof.Machine.execHandover q s
  | .handoverSwitch => Sys2Proof.Machine.execHandoverSwitch s
  | .cancelHo q => Sys2Proof.Machine.execCancelHo q s
  | .rearmRev q => Sys2Proof.Machine.execRearmRev q s
  | .clrTko q => Sys2Proof.Machine.execClrTko q s
  | .resync q => Sys2Proof.Machine.execResync q s
  | .revertiveRequest => Sys2Proof.Machine.execRevertiveRequest s
  | .fabricRequest bank gap reqs => Sys2Proof.Machine.execFabricRequest bank gap reqs s
  | .fabricResponse gap id => Sys2Proof.Machine.execFabricResponse gap id s
  | .debugSquall gap beats => Sys2Proof.Machine.execDebugSquall gap beats s
  | .dramRefresh bank cuts => Sys2Proof.Machine.execDramRefresh bank cuts s
  | .arbiterSeedWrite q bank v => Sys2Proof.Machine.execArbiterSeedWrite q bank v s
  | .lockAcquire o n => Sys2Proof.Machine.execLockAcquire o n s
  | .lockRelease o n v => Sys2Proof.Machine.execLockRelease o n v s
  | .lockHoldExpiry n => Sys2Proof.Machine.execLockHoldExpiry n s
  | .lockFree q v => Sys2Proof.Machine.execLockFree q v s
  | .descriptorFetch c => Sys2Proof.Machine.execDescriptorFetch c s
  | .ladleKick q c => Sys2Proof.Machine.execLadleKick q c s
  | .ladleTransaction ch n => Sys2Proof.Machine.execLadleTransaction ch n s
  | .ladleQueuePop ch => Sys2Proof.Machine.execLadleQueuePop ch s
  | .descriptorWriteBack c => Sys2Proof.Machine.execDescriptorWriteBack c s
  | .ladleBusError ch write wb => Sys2Proof.Machine.execLadleBusError ch write wb s
  | .ladleResume q ch => Sys2Proof.Machine.execLadleResume q ch s
  | .ladleAbort q ch => Sys2Proof.Machine.execLadleAbort q ch s
  | .liteGo q k => Sys2Proof.Machine.execLiteGo q k s
  | .liteTransferComplete k => Sys2Proof.Machine.execLiteTransferComplete k s
  | .queuePush q n side v => Sys2Proof.Machine.execQueuePush q n side v s
  | .queuePop q n => Sys2Proof.Machine.execQueuePop q n s
  | .skipPkt q n => Sys2Proof.Machine.execSkipPkt q n s
  | .flush q n => Sys2Proof.Machine.execFlush q n s
  | .cruGenerate q => Sys2Proof.Machine.execCruGenerate q s
  | .cruDerive q => Sys2Proof.Machine.execCruDerive q s
  | .cruUnwrap q => Sys2Proof.Machine.execCruUnwrap q s
  | .cruWrap q => Sys2Proof.Machine.execCruWrap q s
  | .cruLoad q => Sys2Proof.Machine.execCruLoad q s
  | .cruDestroy q => Sys2Proof.Machine.execCruDestroy q s
  | .cruPurge q => Sys2Proof.Machine.execCruPurge q s
  | .cruKill q => Sys2Proof.Machine.execCruKill q s
  | .cruCommandComplete entropy => Sys2Proof.Machine.execCruCommandComplete entropy s
  | .remask => Sys2Proof.Machine.execRemask s
  | .cryGcmEnc q slot => Sys2Proof.Machine.execCryGcmEnc q slot s
  | .cryGcmDec q slot => Sys2Proof.Machine.execCryGcmDec q slot s
  | .cryCtrEnc q slot => Sys2Proof.Machine.execCryCtrEnc q slot s
  | .cryCtrDec q slot => Sys2Proof.Machine.execCryCtrDec q slot s
  | .cryCmacGen q slot => Sys2Proof.Machine.execCryCmacGen q slot s
  | .cryCmacVer q slot => Sys2Proof.Machine.execCryCmacVer q slot s
  | .cryHmacGen q slot => Sys2Proof.Machine.execCryHmacGen q slot s
  | .cryHmacVer q slot => Sys2Proof.Machine.execCryHmacVer q slot s
  | .cryEcdsaSign q slot => Sys2Proof.Machine.execCryEcdsaSign q slot s
  | .cryEcdsaPub q slot => Sys2Proof.Machine.execCryEcdsaPub q slot s
  | .cryEcdsaVer q slot => Sys2Proof.Machine.execCryEcdsaVer q slot s
  | .crySha256 q slot => Sys2Proof.Machine.execCrySha256 q slot s
  | .cryJobComplete => Sys2Proof.Machine.execCryJobComplete s
  | .tamperEvent src => Sys2Proof.Machine.execTamperEvent src s
  | .tamperLatchClear q => Sys2Proof.Machine.execTamperLatchClear q s
  | .debugChallenge q => Sys2Proof.Machine.execDebugChallenge q s
  | .debugOpen q => Sys2Proof.Machine.execDebugOpen q s
  | .debugClose q => Sys2Proof.Machine.execDebugClose q s
  | .debugReset q => Sys2Proof.Machine.execDebugReset q s
  | .debugLockfuse q key => Sys2Proof.Machine.execDebugLockfuse q key s
  | .debugHold q v => Sys2Proof.Machine.execDebugHold q v s
  | .debugGo q v => Sys2Proof.Machine.execDebugGo q v s
  | .tbStep q v => Sys2Proof.Machine.execTbStep q v s
  | .tbSlew q v => Sys2Proof.Machine.execTbSlew q v s
  | .linkDelayMeasure rtt => Sys2Proof.Machine.execLinkDelayMeasure rtt s
  | .ptpMessage x => Sys2Proof.Machine.execPtpMessage x s
  | .ptpAnnounceTimeout => Sys2Proof.Machine.execPtpAnnounceTimeout s
  | .ptpSyncTimeout => Sys2Proof.Machine.execPtpSyncTimeout s
  | .rtcSecondRollover => Sys2Proof.Machine.execRtcSecondRollover s
  | .trimWindow => Sys2Proof.Machine.execTrimWindow s
  | .rtcHold q v => Sys2Proof.Machine.execRtcHold q v s
  | .rtcRelease q v => Sys2Proof.Machine.execRtcRelease q v s
  | .rtcTimeRead q => Sys2Proof.Machine.execRtcTimeRead q s
  | .alarmArm q => Sys2Proof.Machine.execAlarmArm q s
  | .backupSupplySwitch vbkp => Sys2Proof.Machine.execBackupSupplySwitch vbkp s
  | .backupDomainReset => Sys2Proof.Machine.execBackupDomainReset s
  | .modeRequest q v => Sys2Proof.Machine.execModeRequest q v s
  | .modeChange => Sys2Proof.Machine.execModeChange s
  | .domainStateChange d => Sys2Proof.Machine.execDomainStateChange d s
  | .domainPrewake d => Sys2Proof.Machine.execDomainPrewake d s
  | .domainExitComplete d => Sys2Proof.Machine.execDomainExitComplete d s
  | .latencyWrite q page v => Sys2Proof.Machine.execLatencyWrite q page v s
  | .powerOnReset x => Sys2Proof.Machine.execPowerOnReset x s
  | .resetPin => Sys2Proof.Machine.execResetPin s
  | .sysReset q key => Sys2Proof.Machine.execSysReset q key s
  | .sysRecover q key => Sys2Proof.Machine.execSysRecover q key s
  | .mgmtWatchdogReset => Sys2Proof.Machine.execMgmtWatchdogReset s
  | .lockstepReset => Sys2Proof.Machine.execLockstepReset s
  | .thermalReset => Sys2Proof.Machine.execThermalReset s
  | .supplyGood rail ms => Sys2Proof.Machine.execSupplyGood rail ms s
  | .bootStorePattern q => Sys2Proof.Machine.execBootStorePattern q s
  | .bootStoreBlob q => Sys2Proof.Machine.execBootStoreBlob q s
  | .bootStoreComplete => Sys2Proof.Machine.execBootStoreComplete s
  | .mr4Poll mult => Sys2Proof.Machine.execMr4Poll mult s
  | .pllLockLoss n => Sys2Proof.Machine.execPllLockLoss n s
  | .pllRelock n => Sys2Proof.Machine.execPllRelock n s
  | .xspiErase q => Sys2Proof.Machine.execXspiErase q s
  | .xspiProgram q => Sys2Proof.Machine.execXspiProgram q s
  | .xspiVerify q => Sys2Proof.Machine.execXspiVerify q s
  | .xspiCommandComplete ok => Sys2Proof.Machine.execXspiCommandComplete ok s
  | .updCheck q => Sys2Proof.Machine.execUpdCheck q s
  | .checkComplete => Sys2Proof.Machine.execCheckComplete s
  | .updWrite q => Sys2Proof.Machine.execUpdWrite q s
  | .writeComplete ok => Sys2Proof.Machine.execWriteComplete ok s
  | .updActivate q => Sys2Proof.Machine.execUpdActivate q s
  | .updAbandon q => Sys2Proof.Machine.execUpdAbandon q s
  | .updSvnCommit q => Sys2Proof.Machine.execUpdSvnCommit q s
  | .updOwnerPk q => Sys2Proof.Machine.execUpdOwnerPk q s
  | .activationHold => Sys2Proof.Machine.execActivationHold s
  | .activationPauseStart => Sys2Proof.Machine.execActivationPauseStart s
  | .activationPauseEnd ok counts => Sys2Proof.Machine.execActivationPauseEnd ok counts s
  | .recoveryInfo m mac seq => Sys2Proof.Machine.execRecoveryInfo m mac seq s
  | .recoveryChallenge m mac seq => Sys2Proof.Machine.execRecoveryChallenge m mac seq s
  | .recoveryLoad m mac seq off data => Sys2Proof.Machine.execRecoveryLoad m mac seq off data s
  | .recoveryCommit m mac seq total => Sys2Proof.Machine.execRecoveryCommit m mac seq total s
  | .recoveryWriteComplete ok => Sys2Proof.Machine.execRecoveryWriteComplete ok s
  | .recoveryClearTamper m mac seq data => Sys2Proof.Machine.execRecoveryClearTamper m mac seq data s
  | .recoveryReset m mac seq => Sys2Proof.Machine.execRecoveryReset m mac seq s
  | .recoverySessionTimeout => Sys2Proof.Machine.execRecoverySessionTimeout s
  | .supplyFail vbkp => Sys2Proof.Machine.execSupplyFail vbkp s
  | .claisLinkUp lanes => Sys2Proof.Machine.execClaisLinkUp lanes s
  | .claisLinkDown => Sys2Proof.Machine.execClaisLinkDown s
  | .hostLinkUp m speed => Sys2Proof.Machine.execHostLinkUp m speed s
  | .hostLinkDown m => Sys2Proof.Machine.execHostLinkDown m s

end Sys2Proof.Machine
end

