-- ==== Sys2Proof/Machine/Idle.lean ====
section
/-! DEFINITION. What the block does while no command waits (assumption 2). -/

namespace Sys2Proof.Machine

/-- The instant at which a boundary, a grid point or a sampling instant that no command has served yet is due. -/
def nextDue (s : State) : Nat := min (min (s.nextTick * 100000) (s.nextGrid * 25000)) (s.meter.nextSample * 12500)

/-- One idle step. A ROM that waits for nothing runs; in BACKUP no timebase runs; else the timebase counts once, but not past an instant that
a command must serve first. DESIGN CHOICE: assumption 2. -/
def idle (s : State) : State :=
  if modeNow s = mdBOOT then (if flag s R.BOOT_STAT F.BOOT_STAT_RAILWAIT then s else bootRom s)
  else if modeNow s = 0 then s
  else if s.now.toNat < nextDue s then { s with now := s.now + 1 }
  else s

end Sys2Proof.Machine
end

