-- ==== Sys2Proof/Safety.lean ====
section
/-! DEFINITION. The terms in which statements about the machine are made: who reaches a page, what an update leaves alone, and the state
after an instruction of a Cast program. -/

namespace Sys2Proof.Safety

open Sys2Proof.Machine

/-! ## What stays -/

/-- Every register but those of a list reads as before. -/
def SameRegs (ks : List Nat) (s t : State) : Prop := ∀ k, k ∉ ks → rd t k = rd s k

/-- Every byte of memory reads as before. -/
def SameBytes (s t : State) : Prop := ∀ a, byteAt t a = byteAt s a

/-- Every point record reads as before. -/
def SamePoints (s t : State) : Prop := ∀ n, pointAt t n = pointAt s n

/-- A register access has changed nothing but the registers of a list and what the requester is answered; no domain has begun to leave its
sleep state, and the active of a pair may have put the write into its next mirror frame (R343). -/
structure OnlyRegs (ks : List Nat) (s t : State) : Prop where
  rest : t = { s with regs := t.regs, exiting := t.exiting, answer := t.answer, twin := { s.twin with config := t.twin.config } }
  regs : SameRegs ks s t
  exits : ∀ d, tget (fun _ => false) t.exiting d = true → tget (fun _ => false) s.exiting d = true

/-- An update of registers that may raise interrupts: nothing else changes but what an event reaches, the matrix's targets and the domains
that it wakes (R36, R37), and what the active of a pair puts into its next mirror frame (R343). -/
structure RegsAndEvents (ks : List Nat) (s t : State) : Prop where
  rest : t = { s with regs := t.regs, exiting := t.exiting, evtTarget := t.evtTarget, answer := t.answer,
                      twin := { s.twin with config := t.twin.config } }
  regs : ∀ k, k ∉ ks → (∀ i, k ≠ R.EVT_PEND i) → rd t k = rd s k

/-! ## Who reaches a page -/

/-- A requester's access to an offset of a page is served: the module is not in BACKUP, the debug port has a session or means its own page,
and the page is the requester's (R24, R412, R455). -/
abbrev Reaches (s : State) (q : Requester) (page off : Nat) : Prop :=
  modeNow s ≠ 0 ∧ debugBarred s q page off = false ∧ pageAllowed s (flaskOf s q) page off = true

/-- A requester's access outside the register pages is served (R412, R455). -/
abbrev ReachesWindow (s : State) (q : Requester) : Prop :=
  modeNow s ≠ 0 ∧ (q = .debug → flag s R.DBG_STAT F.DBG_STAT_SESSION = true)

/-- The domain of a page is ON and in C0 (R463, R467). -/
abbrev Awake (s : State) (page : Nat) : Prop := domSt s (pageDomain page) = 2 ∧ domC s (pageDomain page) = 0

/-- A write was taken: the requester is answered NONE without an error (R29). -/
abbrev Accepted (t : State) : Prop := t.answer = { code := .none }

/-- A write was turned away with a code (R28, R29): the requester is answered with it, and the page records it. -/
structure Rejected (s t : State) (page off : Nat) (c : Code) : Prop where
  told : t.answer = { code := c }
  recorded : t = { pgError s page off c with answer := t.answer }

/-! ## Cast programs -/

/-- The watchdog does not cut a run off when an instruction of `n` cycles ends (R86, R140). -/
abbrev InTime (c : CastCtx) (n : Nat) : Prop := watchdogHit c.s c.t (runFor c.r n) = false

/-- A bank at the following instruction. -/
def nextPc (b : Bank) : Bank := { b with pc := b.pc + 4 }

/-- The state whose task holds a bank and a run; nothing else has changed. -/
def withRun (c : CastCtx) (b : Bank) (r : Run) : State := setTask c.s c.t { taskAt c.s c.t with bank := b, run := some r }

/-- The state after an instruction of `n` cycles that leaves a bank: the task's bank and the time of its run have changed, and nothing
else. -/
def afterInstr (c : CastCtx) (b : Bank) (n : Nat) : State := withRun c b (runFor c.r n)

/-- The state after an instruction that writes a work register and goes on, having raised sticky flags. -/
def afterSet (c : CastCtx) (d : BitVec 4) (v : Word) (flags n : Nat) : State :=
  afterInstr c (nextPc (sticky (bset c.b d v) flags)) n

/-- The state after a trap: the run, which has taken the instruction's cycles, is cut off with cause TRAP and the detail of R96. -/
def afterTrap (c : CastCtx) (code n : Nat) : State :=
  cutOff (withRun c c.b (runFor c.r n)) c.t 4
    (BitVec.ofNat 32 ((c.b.pc.toNat - c.m.codeAt) / 4 * 2 ^ 8 + code))

/-! ## Invariants -/

/-- The fuses only ever blow (R410, R415, R503, R504): a root that is KILLED stays so, DEBUG_LOCK stays, the SVN count does not fall and a
fused owner key stays. -/
structure FusesKept (a b : Otp) : Prop where
  killed : a.killed = true → b.killed = true
  lock : a.debugLock = true → b.debugLock = true
  svn : a.svn ≤ b.svn
  owner : ∀ h, a.owner = some h → b.owner = some h

end Sys2Proof.Safety
end

