-- ==== Sys2Proof/Certificates/Slice0/Obligations.lean ====
section
/-! DEFINITION. The statements about the EVF-8192 for the provers, chapter by chapter. -/

open Sys2Proof Sys2Proof.Machine Sys2Proof.Safety

/-! ## The block as a whole -/

/-- The command at the front of the queue runs with the queue's rest, and its outcome is the step's. -/
def Obligations.StepRunsTheFrontCommand : Prop :=
  ∀ (s : State) (c : Instr) (rest : List Instr), s.pending = c :: rest → step s = exec c { s with pending := rest }

/-- The model's choice (assumption 2): on an empty queue the boot ROM runs to its end in BOOT unless it waits for its rails, a module in BACKUP
stays as it is, and else one count of the timebase passes, but not past a tick, a grid point or a sample that no command has served. -/
def Obligations.EmptyQueueLetsTimePass : Prop :=
  ∀ s : State, s.pending = [] →
    (modeNow s = mdBOOT → flag s R.BOOT_STAT F.BOOT_STAT_RAILWAIT = false → step s = .next (bootRom s)) ∧
    (modeNow s = mdBOOT → flag s R.BOOT_STAT F.BOOT_STAT_RAILWAIT = true → step s = .next s) ∧
    (modeNow s = 0 → step s = .next s) ∧
    (modeNow s ≠ mdBOOT → modeNow s ≠ 0 → s.now.toNat < nextDue s → step s = .next { s with now := s.now + 1 }) ∧
    (modeNow s ≠ mdBOOT → modeNow s ≠ 0 → nextDue s ≤ s.now.toNat → step s = .next s)

/-- Every command runs to a next state in every state: none faults and none is refused, and none touches the queue. -/
def Obligations.EveryCommandCompletes : Prop :=
  ∀ (c : Instr) (s : State), ∃ t, exec c s = .next t ∧ t.pending = s.pending

/-- The byte store keeps its canonical form over every step. -/
def Obligations.ByteStoreStaysCanonical : Prop :=
  ∀ s t : State, Memory.wf s.mem = true → step s = .next t → Memory.wf t.mem = true

/-- R410, R415, R503, R504: over every step a killed root stays killed, a blown debug lock stays blown, the SVN count does not fall and the
owner's key stays the one recorded. -/
def Obligations.FusesAreNeverUndone : Prop :=
  ∀ s t : State, step s = .next t →
    (s.otp.killed = true → t.otp.killed = true) ∧ (s.otp.debugLock = true → t.otp.debugLock = true) ∧ s.otp.svn ≤ t.otp.svn ∧
    (∀ h, s.otp.owner = some h → t.otp.owner = some h)

/-- The state after reset: an empty queue, a byte store and a point directory with nothing in them, mode BOOT, timebase 0, every domain ON and in
C0 (R463, R470), the pages' headers as R21 gives them, no force, no mould, unlocked configuration and unblown fuses. -/
def Obligations.ResetStateIsTheSpecs : Prop :=
  State.reset.pending = [] ∧ State.reset.mem = [] ∧ Memory.wf State.reset.mem = true ∧ State.reset.now = 0 ∧
  modeNow State.reset = mdBOOT ∧ (∀ d : Fin 14, domSt State.reset d.val = 2 ∧ domC State.reset d.val = 0) ∧
  (∀ p : Fin 8192, pointAt State.reset p.val = nullPoint) ∧ (∀ k : Fin 1024, forceAt State.reset k.val = none) ∧
  (∀ f : Fin 32, mouldOf State.reset f.val = none) ∧ State.reset.rwlLocked = false ∧ State.reset.otp.killed = false ∧
  rd State.reset (R.PG_CTRL 0x39) = 1 ∧ rd State.reset (R.PG_STATE 0x39) = 0 ∧ rd State.reset (R.PG_STATE 0x00) = 2 ∧
  rd State.reset (R.FLK_CFG 0) = 0x807F2000

/-! ## Cast code (04_cast_code.md) -/

/-- R104: w0 reads 0 and discards a write; a write to another work register is read back there, and the other registers, the special
registers, the call stack and the status word stay. -/
def Obligations.WorkRegisterZeroDiscardsWrites : Prop :=
  ∀ (b : Bank) (d n : BitVec 4) (v : Word),
    breg b 0 = 0 ∧ bset b 0 v = b ∧ breg (bset b d v) n = (if n = d ∧ d ≠ 0 then v else breg b n) ∧
    (bset b d v).pc = b.pc ∧ (bset b d v).ib = b.ib ∧ (bset b d v).stack = b.stack ∧ (bset b d v).sticky = b.sticky ∧
    (bset b d v).tbHi = b.tbHi

/-- R113, R112, R121: ADD to XORI, MOVI, LUI and SET on a task in its program step. Each completes with the result in w[D], the PC moved on
by 4 and the run's time grown by its cycles (R140); nothing else changes. -/
def Obligations.IntegerArithmeticWritesD : Prop :=
  ∀ (s : State) (t : Fin 64) (c : CastCtx), castCtx s t.val = some c →
    (∀ o : RegForm, o.x = 0 → InTime c 1 →
      exec (.add t o) s = .next (afterSet c o.d (breg c.b o.s1 + breg c.b o.s2) 0 1) ∧
      exec (.sub t o) s = .next (afterSet c o.d (breg c.b o.s1 - breg c.b o.s2) 0 1) ∧
      exec (.and t o) s = .next (afterSet c o.d (breg c.b o.s1 &&& breg c.b o.s2) 0 1) ∧
      exec (.or t o) s = .next (afterSet c o.d (breg c.b o.s1 ||| breg c.b o.s2) 0 1) ∧
      exec (.xor t o) s = .next (afterSet c o.d (breg c.b o.s1 ^^^ breg c.b o.s2) 0 1)) ∧
    (∀ o : RegForm, o.x = 0 → InTime c 3 →
      exec (.mul t o) s = .next (afterSet c o.d (breg c.b o.s1 * breg c.b o.s2) 0 3)) ∧
    (∀ o : RegForm, InTime c 3 →
      (o.x = 0 → exec (.mulh t o) s =
        .next (afterSet c o.d (BitVec.ofInt 32 ((breg c.b o.s1).toInt * (breg c.b o.s2).toInt / 4294967296)) 0 3)) ∧
      (o.x = 1 → exec (.mulh t o) s =
        .next (afterSet c o.d (BitVec.ofNat 32 ((breg c.b o.s1).toNat * (breg c.b o.s2).toNat / 4294967296)) 0 3))) ∧
    (∀ o : ImmForm, InTime c 1 →
      exec (.addi t o) s = .next (afterSet c o.d (breg c.b o.s1 + o.imm.signExtend 32) 0 1) ∧
      exec (.andi t o) s = .next (afterSet c o.d (breg c.b o.s1 &&& o.imm.setWidth 32) 0 1) ∧
      exec (.ori t o) s = .next (afterSet c o.d (breg c.b o.s1 ||| o.imm.setWidth 32) 0 1) ∧
      exec (.xori t o) s = .next (afterSet c o.d (breg c.b o.s1 ^^^ o.imm.setWidth 32) 0 1) ∧
      (o.s1 = 0 → exec (.movi t o) s = .next (afterSet c o.d (o.imm.signExtend 32) 0 1)) ∧
      (o.s1 = 0 → exec (.lui t o) s = .next (afterSet c o.d (o.imm.setWidth 32 <<< 14) 0 1))) ∧
    (∀ o : RegForm, InTime c 1 →
      (o.x = 0 → exec (.set t o) s = .next (afterSet c o.d (if breg c.b o.s1 = breg c.b o.s2 then 1 else 0) 0 1)) ∧
      (o.x = 1 → exec (.set t o) s = .next (afterSet c o.d (if breg c.b o.s1 = breg c.b o.s2 then 0 else 1) 0 1)) ∧
      (o.x = 2 → exec (.set t o) s = .next (afterSet c o.d (if (breg c.b o.s1).toInt < (breg c.b o.s2).toInt then 1 else 0) 0 1)) ∧
      (o.x = 3 → exec (.set t o) s = .next (afterSet c o.d (if (breg c.b o.s2).toInt ≤ (breg c.b o.s1).toInt then 1 else 0) 0 1)) ∧
      (o.x = 4 → exec (.set t o) s = .next (afterSet c o.d (if (breg c.b o.s1).toNat < (breg c.b o.s2).toNat then 1 else 0) 0 1)) ∧
      (o.x = 5 → exec (.set t o) s = .next (afterSet c o.d (if (breg c.b o.s2).toNat ≤ (breg c.b o.s1).toNat then 1 else 0) 0 1)))

/-- R114, R115, R116: SHF, the SAT operations and BFX complete with their results in w[D]; a clamp sets SAT. -/
def Obligations.ShiftSaturateFieldWritesD : Prop :=
  ∀ (s : State) (t : Fin 64) (c : CastCtx), castCtx s t.val = some c → InTime c 1 →
    (∀ o : RegForm, o.x.extractLsb' 5 6 = 0 → (o.x.getLsbD 13 = true → o.s2 = 0) → (o.x.getLsbD 13 = false → o.x.extractLsb' 0 5 = 0) →
      let a := breg c.b o.s1
      let n := if o.x.getLsbD 13 then (o.x.extractLsb' 0 5).toNat else (breg c.b o.s2).toNat % 32
      (o.x.extractLsb' 11 2 = 0 → exec (.shf t o) s = .next (afterSet c o.d (a <<< n) 0 1)) ∧
      (o.x.extractLsb' 11 2 = 1 → exec (.shf t o) s = .next (afterSet c o.d (a >>> n) 0 1)) ∧
      (o.x.extractLsb' 11 2 = 2 → exec (.shf t o) s = .next (afterSet c o.d (a.sshiftRight n) 0 1)) ∧
      (o.x.extractLsb' 11 2 = 3 → exec (.shf t o) s = .next (afterSet c o.d (a.rotateRight n) 0 1))) ∧
    (∀ o : RegForm, o.x.toNat < 8 →
      let a := (breg c.b o.s1).toInt
      let b := (breg c.b o.s2).toInt
      let clamp (i : Int) : Int := max (-2147483648) (min 2147483647 i)
      let sat (i : Int) : Nat := if clamp i = i then 0 else 128
      exec (.adds t o) s = .next (afterSet c o.d (BitVec.ofInt 32 (clamp (a + b))) (sat (a + b)) 1) ∧
      exec (.subs t o) s = .next (afterSet c o.d (BitVec.ofInt 32 (clamp (a - b))) (sat (a - b)) 1) ∧
      (o.s2 = 0 → exec (.abs t o) s = .next (afterSet c o.d (BitVec.ofInt 32 (clamp |a|)) (sat |a|) 1)) ∧
      exec (.min t o) s = .next (afterSet c o.d (BitVec.ofInt 32 (min a b)) 0 1) ∧
      exec (.max t o) s = .next (afterSet c o.d (BitVec.ofInt 32 (max a b)) 0 1) ∧
      exec (.minu t o) s = .next (afterSet c o.d (BitVec.ofNat 32 (min (breg c.b o.s1).toNat (breg c.b o.s2).toNat)) 0 1) ∧
      exec (.maxu t o) s = .next (afterSet c o.d (BitVec.ofNat 32 (max (breg c.b o.s1).toNat (breg c.b o.s2).toNat)) 0 1)) ∧
    (∀ (o : RegForm) (pos width : Nat), o.s2 = 0 → o.x.extractLsb' 5 3 = 0 → pos = (o.x.extractLsb' 8 5).toNat →
      width = (o.x.extractLsb' 0 5).toNat + 1 → pos + width ≤ 32 →
      (∃ v : Word, exec (.bfxExtract t o) s = .next (afterSet c o.d v 0 1) ∧
        ∀ i, v.getLsbD i = (decide (i < width) && (breg c.b o.s1).getLsbD (pos + i))) ∧
      (∃ v : Word, exec (.bfxInsert t o) s = .next (afterSet c o.d v 0 1) ∧
        ∀ i, v.getLsbD i = if pos ≤ i ∧ i < pos + width then (breg c.b o.s1).getLsbD (i - pos) else (breg c.b o.d).getLsbD i))

/-- R117: DIV and REM complete for a divisor that is not zero, with a quotient truncated toward zero and a remainder of the dividend's sign;
the signed division of 8000_0000h by FFFF_FFFFh gives 8000_0000h and 0 and sets IOV. A zero divisor traps DIV0. -/
def Obligations.DivideTruncatesOrTrapsDivZero : Prop :=
  ∀ (s : State) (t : Fin 64) (c : CastCtx) (o : RegForm), castCtx s t.val = some c →
    let a := breg c.b o.s1
    let b := breg c.b o.s2
    (b ≠ 0 → InTime c 34 →
      (o.x = 1 → exec (.div t o) s = .next (afterSet c o.d (BitVec.ofNat 32 (a.toNat / b.toNat)) 0 34) ∧
        exec (.rem t o) s = .next (afterSet c o.d (BitVec.ofNat 32 (a.toNat % b.toNat)) 0 34)) ∧
      (o.x = 0 → ¬ (a = 0x80000000 ∧ b = 0xFFFFFFFF) →
        exec (.div t o) s = .next (afterSet c o.d (BitVec.ofInt 32 (a.toInt.tdiv b.toInt)) 0 34) ∧
        exec (.rem t o) s = .next (afterSet c o.d (BitVec.ofInt 32 (a.toInt.tmod b.toInt)) 0 34)) ∧
      (o.x = 0 → a = 0x80000000 → b = 0xFFFFFFFF →
        exec (.div t o) s = .next (afterSet c o.d 0x80000000 64 34) ∧ exec (.rem t o) s = .next (afterSet c o.d 0 64 34))) ∧
    (b = 0 → o.x.toNat ≤ 1 → exec (.div t o) s = .next (afterTrap c 5 34) ∧ exec (.rem t o) s = .next (afterTrap c 5 34))

/-- R105, R112: MFS reads PC, IB, GB and LK; MTS writes IB and traps SPECIAL for the others. -/
def Obligations.SpecialRegistersMoveThroughMfsMts : Prop :=
  ∀ (s : State) (t : Fin 64) (c : CastCtx) (o : RegForm), castCtx s t.val = some c → o.s2 = 0 →
    (o.s1 = 0 → InTime c 1 →
      (o.x = 0 → exec (.mfs t o) s = .next (afterSet c o.d c.b.pc 0 1)) ∧
      (o.x = 1 → exec (.mfs t o) s = .next (afterSet c o.d c.b.ib 0 1)) ∧
      (o.x = 2 → exec (.mfs t o) s = .next (afterSet c o.d (BitVec.ofNat 32 c.m.dataAt) 0 1)) ∧
      (o.x = 3 → c.b.stack = [] → exec (.mfs t o) s = .next (afterSet c o.d 0 0 1)) ∧
      (∀ ra ib r, o.x = 3 → c.b.stack = (ra, ib) :: r → exec (.mfs t o) s = .next (afterSet c o.d ra 0 1))) ∧
    (o.d = 0 →
      (o.x = 1 → InTime c 2 → exec (.mts t o) s = .next (afterInstr c (nextPc { c.b with ib := breg c.b o.s1 }) 2)) ∧
      (o.x = 0 ∨ o.x = 2 ∨ o.x = 3 → exec (.mts t o) s = .next (afterTrap c 7 2)))

/-- R110, R112: an aligned load whose bytes lie in the code or the data window fills w[D]; LDD fills an even pair. -/
def Obligations.LoadsFillD : Prop :=
  ∀ (s : State) (t : Fin 64) (c : CastCtx) (o : MemForm), castCtx s t.val = some c →
    let a := memAddr c.m c.b o
    let byte (i : Nat) : Byte := byteAt s (a + i)
    let seen (n : Nat) : Prop := a % n = 0 ∧ (inCode c.m a n = true ∨ inData c.m a n = true)
    (InTime c 4 →
      (seen 4 → exec (.ldw t o) s = .next (afterSet c o.d (byte 3 ++ byte 2 ++ byte 1 ++ byte 0) 0 4)) ∧
      (seen 2 → exec (.ldh t o) s = .next (afterSet c o.d ((byte 1 ++ byte 0).signExtend 32) 0 4) ∧
        exec (.ldhu t o) s = .next (afterSet c o.d ((byte 1 ++ byte 0).setWidth 32) 0 4)) ∧
      (seen 1 → exec (.ldb t o) s = .next (afterSet c o.d ((byte 0).signExtend 32) 0 4) ∧
        exec (.ldbu t o) s = .next (afterSet c o.d ((byte 0).setWidth 32) 0 4))) ∧
    (InTime c 5 → seen 8 → o.d.toNat % 2 = 0 → exec (.ldd t o) s = .next
      (afterInstr c (nextPc (bset (bset c.b o.d (byte 3 ++ byte 2 ++ byte 1 ++ byte 0)) (o.d + 1) (byte 7 ++ byte 6 ++ byte 5 ++ byte 4))) 5))

/-- R110, R112: an aligned store into the data window puts the low bytes of w[D], low byte first, at the address of the MEM form; every other
byte and every register stay, and the granules of RETAIN and MIRROR instances that it touches join the run's dirty granules (R111). -/
def Obligations.StoresPutLowBytes : Prop :=
  ∀ (s : State) (t : Fin 64) (c : CastCtx) (o : MemForm), castCtx s t.val = some c → InTime c 1 →
    let a := memAddr c.m c.b o
    let v := breg c.b o.d
    let w := breg c.b (o.d + 1)
    let stores (n : Nat) (byte : Nat → Byte) (i : Instr) : Prop :=
      a % n = 0 → inData c.m a n = true → 0x20000 ≤ a → ∃ u, exec i s = .next u ∧
        (∀ k, k < n → byteAt u (a + k) = byte k) ∧ (∀ x, x < a ∨ a + n ≤ x → byteAt u x = byteAt s x) ∧
        u = { s with mem := u.mem, scan := (withRun c (nextPc c.b) { runFor c.r 1 with dirty := markDirty c.m c.r.dirty a n }).scan }
    stores 4 (fun k => v.extractLsb' (8 * k) 8) (.stw t o) ∧ stores 2 (fun k => v.extractLsb' (8 * k) 8) (.sth t o) ∧
    stores 1 (fun k => v.extractLsb' (8 * k) 8) (.stb t o) ∧
    (o.d.toNat % 2 = 0 → stores 8 (fun k => (w ++ v).extractLsb' (8 * k) 8) (.std t o))

/-- R118, R119, R120: the float opcodes complete with the rounded result in w[D] and its flags in the status word. A NaN operand gives
7FC0_0000h to the arithmetic and 0 with IV to a conversion to an integer; FABS and FNEG change bit 31 alone and set no flag; UN is 1 exactly
when an operand is a NaN. -/
def Obligations.FloatOpcodesWriteD : Prop :=
  ∀ (s : State) (t : Fin 64) (c : CastCtx) (o : RegForm), castCtx s t.val = some c →
    let a := breg c.b o.s1
    let b := breg c.b o.s2
    let nan (w : Word) : Prop := isNanV (fval w) = true
    let gives (i : Instr) (n : Nat) (r : Word × Nat) : Prop := exec i s = .next (afterSet c o.d r.1 r.2 n)
    let canon (r : Word × Nat) : Prop := nan a ∨ nan b → r.1 = 0x7FC00000
    (o.x = 0 → InTime c 4 →
      (∃ r, gives (.fadd t o) 4 r ∧ r = fres (faddV f32 (fval a) (fval b)) ∧ canon r) ∧
      (∃ r, gives (.fsub t o) 4 r ∧ r = fres (faddV f32 (fval a) (fnegV (fval b))) ∧ canon r) ∧
      (∃ r, gives (.fmul t o) 4 r ∧ r = fres (fmulV f32 (fval a) (fval b)) ∧ canon r)) ∧
    (o.x = 0 → InTime c 14 → ∃ r, gives (.fdiv t o) 14 r ∧ r = fres (fdivV f32 (fval a) (fval b)) ∧ canon r) ∧
    (o.x = 0 → InTime c 5 → ∃ r, gives (.fma t o) 5 r ∧ r = fres (ffmaV f32 (fval (breg c.b o.d)) (fval a) (fval b)) ∧ canon r) ∧
    (o.x.toNat < 8 → InTime c 4 →
      (∃ r, gives (.fmin t o) 4 r ∧ (nan a → nan b → r.1 = 0x7FC00000) ∧
        (fltV (fval a) (fval b) = true → r = (a, 0)) ∧ (fltV (fval b) (fval a) = true → r = (b, 0)) ∧
        ((a = 0 ∧ b = 0x80000000) ∨ (a = 0x80000000 ∧ b = 0) → r = (0x80000000, 0))) ∧
      (∃ r, gives (.fmax t o) 4 r ∧ (nan a → nan b → r.1 = 0x7FC00000) ∧
        (fltV (fval a) (fval b) = true → r = (b, 0)) ∧ (fltV (fval b) (fval a) = true → r = (a, 0)) ∧
        ((a = 0 ∧ b = 0x80000000) ∨ (a = 0x80000000 ∧ b = 0) → r = (0, 0)))) ∧
    (o.x.toNat < 8 → o.s2 = 0 → InTime c 16 → ∃ r, gives (.fsqrt t o) 16 r ∧ r = fres (fsqrtV f32 (fval a)) ∧ (nan a → r.1 = 0x7FC00000)) ∧
    (o.x.toNat < 8 → o.s2 = 0 → InTime c 4 →
      gives (.fabs t o) 4 (a &&& 0x7FFFFFFF, 0) ∧ gives (.fneg t o) 4 (a ^^^ 0x80000000, 0) ∧
      gives (.fcvtS32ToFloat t o) 4 (fres (fofInt f32 a.toInt)) ∧ gives (.fcvtU32ToFloat t o) 4 (fres (fofInt f32 a.toNat)) ∧
      (∃ r, gives (.fcvtFloatToS32Trunc t o) 4 r ∧ (nan a → r = (0, 2))) ∧
      (∃ r, gives (.fcvtFloatToS32Nearest t o) 4 r ∧ (nan a → r = (0, 2))) ∧
      (∃ r, gives (.fcvtFloatToU32Trunc t o) 4 r ∧ (nan a → r = (0, 2)))) ∧
    (o.x.toNat ≤ 3 → InTime c 4 → ∃ r, gives (.fcmp t o) 4 r ∧ (r.1 = 0 ∨ r.1 = 1) ∧
      (o.x = 0 → (r.1 = 1 ↔ feqV (fval a) (fval b) = true)) ∧ (o.x = 1 → (r.1 = 1 ↔ ¬ nan a ∧ ¬ nan b ∧ fltV (fval a) (fval b) = true)) ∧
      (o.x = 3 → (r.1 = 1 ↔ nan a ∨ nan b)) ∧ (o.x = 1 ∨ o.x = 2 → (r.2 = 2 ↔ nan a ∨ nan b)))

/-- R121: a branch that holds continues at PC + 4 × IMM after 3 cycles, one that does not at PC + 4 after 1; JMP adds w[B]. -/
def Obligations.BranchesMoveThePc : Prop :=
  ∀ (s : State) (t : Fin 64) (c : CastCtx) (o : BrForm), castCtx s t.val = some c → InTime c 1 → InTime c 3 →
    let a := breg c.b o.a
    let b := breg c.b o.b
    let goes (i : Instr) (holds : Prop) : Prop :=
      (holds → exec i s = .next (afterInstr c { c.b with pc := c.b.pc + 4 * o.imm.signExtend 32 } 3)) ∧
      (¬ holds → exec i s = .next (afterInstr c (nextPc c.b) 1))
    goes (.beq t o) (a = b) ∧ goes (.bne t o) (a ≠ b) ∧ goes (.blt t o) (a.toInt < b.toInt) ∧ goes (.bge t o) (b.toInt ≤ a.toInt) ∧
    goes (.bltu t o) (a.toNat < b.toNat) ∧ goes (.bgeu t o) (b.toNat ≤ a.toNat) ∧
    (o.a = 0 → exec (.jmp t o) s = .next (afterInstr c { c.b with pc := c.b.pc + 4 * (o.imm.signExtend 32 + b) } 3))

/-- R123, R124: CALL and CALLR push PC + 4 and IB and take IB from the named register, RET pops them; a RET on an empty stack ends the program
step; at 16 frames the calls trap STACK, and CALLR to a misaligned target traps ALIGN. -/
def Obligations.CallsPushAndReturnsPop : Prop :=
  ∀ (s : State) (t : Fin 64) (c : CastCtx), castCtx s t.val = some c → InTime c 4 →
    (∀ o : BrForm, o.b = 0 →
      (c.b.stack.length < 16 → exec (.call t o) s = .next (afterInstr c { c.b with
        pc := c.b.pc + 4 * o.imm.signExtend 32, ib := if o.a = 0 then c.b.ib else breg c.b o.a, stack := (c.b.pc + 4, c.b.ib) :: c.b.stack } 4)) ∧
      (16 ≤ c.b.stack.length → exec (.call t o) s = .next (afterTrap c 6 4))) ∧
    (∀ o : RegForm, o.s2 = 0 → o.x = 0 →
      ((breg c.b o.s1).toNat % 4 = 0 → c.b.stack.length < 16 → exec (.callr t o) s = .next (afterInstr c { c.b with
        pc := breg c.b o.s1, ib := if o.d = 0 then c.b.ib else breg c.b o.d, stack := (c.b.pc + 4, c.b.ib) :: c.b.stack } 4)) ∧
      ((breg c.b o.s1).toNat % 4 ≠ 0 → exec (.callr t o) s = .next (afterTrap c 2 4)) ∧
      ((breg c.b o.s1).toNat % 4 = 0 → 16 ≤ c.b.stack.length → exec (.callr t o) s = .next (afterTrap c 6 4))) ∧
    (∀ o : RegForm, o.d = 0 → o.s1 = 0 → o.s2 = 0 → o.x = 0 →
      (∀ ra ib r, c.b.stack = (ra, ib) :: r →
        exec (.ret t o) s = .next (afterInstr c { c.b with pc := ra, ib := ib, stack := r } 4)) ∧
      (c.b.stack = [] → exec (.ret t o) s =
        .next (withRun c c.b { runFor c.r 4 with step := .writeBack })))

/-- R125: the system functions complete with their words in w[D]; TB_LO captures the high word that TB_HI gives, and ST_CLR clears the named
sticky bits. -/
def Obligations.SystemFunctionsGiveTheirWords : Prop :=
  ∀ (s : State) (t : Fin 64) (c : CastCtx) (o : ImmForm), castCtx s t.val = some c → InTime c 2 → o.imm.toNat < 256 →
    (o.s1 = 0 →
      exec (.sysRelLo t o) s = .next (afterSet c o.d (c.r.release.extractLsb' 0 32) 0 2) ∧
      exec (.sysRelHi t o) s = .next (afterSet c o.d (c.r.release.extractLsb' 32 32) 0 2) ∧
      exec (.sysTbLo t o) s =
        .next (afterInstr c (nextPc (bset { c.b with tbHi := s.now.extractLsb' 32 32 } o.d (s.now.extractLsb' 0 32))) 2) ∧
      exec (.sysTbHi t o) s = .next (afterSet c o.d c.b.tbHi 0 2) ∧
      exec (.sysSt t o) s = .next (afterSet c o.d (c.b.sticky ||| BitVec.ofNat 32 (c.b.stack.length * 65536)) 0 2) ∧
      exec (.sysTask t o) s = .next (afterSet c o.d (BitVec.ofNat 32 (taskFlask s t.val * 256 + t.val)) 0 2) ∧
      exec (.sysMode t o) s = .next (afterSet c o.d (BitVec.ofNat 32 (modeNow s)) 0 2) ∧
      exec (.sysRuns t o) s = .next (afterSet c o.d (rd s (R.SCN_TRUNS t.val)) 0 2) ∧
      ((taskAt s t.val).prevDone = none → exec (.sysDt t o) s = .next (afterSet c o.d 0 0 2)) ∧
      (∀ p, (taskAt s t.val).prevDone = some p →
        exec (.sysDt t o) s = .next (afterSet c o.d (BitVec.ofNat 32 (min 0x7FFFFFFF ((c.r.release - p).toNat / 100000))) 0 2))) ∧
    (o.d = 0 → exec (.sysStClr t o) s = .next (afterInstr c (nextPc { c.b with sticky := c.b.sticky &&& ~~~breg c.b o.s1 }) 2))

/-- R138: END ends the program step whatever the depth; TRAP traps with its code; BRK stops the task for a debug session that holds its core
and traps BRK otherwise, after a count of cycles that the spec does not give (log entry 7). -/
def Obligations.HaltsEndTrapOrStop : Prop :=
  ∀ (s : State) (t : Fin 64) (c : CastCtx) (o : ImmForm), castCtx s t.val = some c → o.d = 0 → o.s1 = 0 →
    (o.imm.toNat % 65536 = 0 → InTime c 1 → exec (.hltEnd t o) s =
      .next (withRun c c.b { runFor c.r 1 with step := .writeBack })) ∧
    (0x80 ≤ o.imm.toNat % 65536 → o.imm.toNat % 65536 ≤ 0xFF → exec (.hltTrap t o) s = .next (afterTrap c (o.imm.toNat % 65536) 1)) ∧
    (o.imm.toNat % 65536 = 0 → coreHeld s (taskCore s t.val) = true →
      ∃ u, exec (.hltBrk t o) s = .next u ∧ (taskAt u t.val).run = some { c.r with stopped := true } ∧ (taskAt u t.val).bank = c.b ∧
        fld u R.DBG_HOLD F.DBG_HOLD_STOPPED = fld s R.DBG_HOLD F.DBG_HOLD_STOPPED ||| 2 ^ taskCore s t.val ∧
        SameRegs [R.DBG_HOLD] s u ∧ SameBytes s u ∧ SamePoints s u ∧ (∀ k, k ≠ t.val → taskAt u k = taskAt s k)) ∧
    (o.imm.toNat % 65536 = 0 → coreHeld s (taskCore s t.val) = false →
      ∃ n, exec (.hltBrk t o) s = .next (afterTrap { c with s := { s with free := s.free + 1 } } 11 n))

/-- R130, R131, R135: a record instruction whose record is aligned, in the data window and of its kinds completes: TRST clears the sixteen
bytes after the header, EDG stores Q, PREV and INIT, and TMR and CTR write their record; bytes outside the record stay. -/
def Obligations.RecordInstructionsUpdateTheirRecord : Prop :=
  ∀ (s : State) (t : Fin 64) (c : CastCtx) (o : RecForm), castCtx s t.val = some c →
    let a := recAddr c.b o
    let kind := loadN s a 2
    let ready (lo hi : Nat) : Prop :=
      c.b.ib.toNat % 16 = 0 ∧ inData c.m a 32 = true ∧ lo ≤ kind ∧ kind ≤ hi ∧ byteAt s (a + 2) = 1 ∧ 0x20000 ≤ a
    let done (i : Instr) (n : Nat) (d : Word) (l : List Byte) : Prop :=
      l.length = 16 ∧ ∃ u, exec i s = .next u ∧ bytesAt u (a + 16) 16 = l ∧ (∀ x, x < a + 16 ∨ a + 32 ≤ x → byteAt u x = byteAt s x) ∧
        u = { s with
          mem := u.mem
          scan := (withRun c (nextPc (bset c.b o.d d)) { runFor c.r n with dirty := markDirty c.m c.r.dirty (a + 16) 16 }).scan }
    (ready 1 3 → InTime c 14 → ∃ r : Timer,
      r = timerCall kind (timerOf (bytesAt s (a + 16) 16)) (decide (breg c.b o.s1 ≠ 0)) (breg c.b o.s2).toInt c.r.release.toNat ∧
      done (.tmr t o) 14 (if r.q then 1 else 0) (timerBytes r)) ∧
    (ready 4 6 → InTime c 10 → ∃ r : Int × Nat,
      r = counterCall kind (signedOf 32 (loadN s (a + 16) 4)) (byteAt s (a + 20)).toNat (breg c.b o.s1) (breg c.b o.s2).toInt ∧
      done (.ctr t o) 10 (BitVec.ofNat 32 (r.2 % 4)) (leBytes 4 (codeOf 32 r.1) ++ leBytes 12 r.2)) ∧
    (ready 7 8 → o.s2 = 0 → InTime c 6 →
      let st := byteAt s (a + 16)
      let clk := decide (breg c.b o.s1 ≠ 0)
      let prev := if st.getLsbD 2 then st.getLsbD 1 else clk
      let q := if kind = 7 then clk && !prev else !clk && prev
      done (.edg t o) 6 (if q then 1 else 0) (leBytes 16 (b2n q + 2 * b2n clk + 4))) ∧
    (ready 1 8 → o.d = 0 → o.s1 = 0 → o.s2 = 0 → InTime c 4 → done (.trst t o) 4 0 (List.replicate 16 0))

/-- R136, R137: PRD writes a point's image entry at w[address], PWR queues its write, PTST gives the test word; a point that R46 does not let
the task's flask reach leaves the null entry, queues nothing and gives 600h, with DN set and the denial counted. -/
def Obligations.PointInstructionsReachTheDirectory : Prop :=
  ∀ (s : State) (t : Fin 64) (c : CastCtx) (o : PntForm), castCtx s t.val = some c →
    let pid := (breg c.b o.index + o.pid.setWidth 32).toNat
    let p := pointAt s pid
    let f := taskFlask s t.val
    let a := (breg c.b o.addr).toNat
    let denied : CastCtx := castDeny c f pid
    pid < 0x2000 →
    (a % 8 = 0 → inData c.m a 16 = true → 0x20000 ≤ a → InTime c 40 →
      (mayRead f p = true → ∃ u, exec (.prd t o) s = .next u ∧ bytesAt u a 16 = imageEntry p ∧
        (∀ x, x < a ∨ a + 16 ≤ x → byteAt u x = byteAt s x) ∧ SamePoints s u ∧ SameRegs [] s u ∧ (taskAt u t.val).bank = nextPc c.b) ∧
      (mayRead f p = false → ∃ u, exec (.prd t o) s = .next u ∧ bytesAt u a 16 = imageEntry nullPoint ∧
        (∀ x, x < a ∨ a + 16 ≤ x → byteAt u x = byteAt s x) ∧ SamePoints s u ∧ SameRegs [] (deny s f 2 pid) u ∧
        (taskAt u t.val).bank = nextPc (sticky c.b 1))) ∧
    (a % 8 = 0 → inData c.m a 16 = true → c.r.deferred.length < 64 → InTime c 30 →
      (mayWrite f p = true → ∃ d : DeferredWrite, d.point = pid ∧ d.value = BitVec.ofNat 64 (loadN s a 8) ∧
        d.quality = (if writerQuality (byteAt s (a + 8)) then byteAt s (a + 8) else 0) ∧
        exec (.pwr t o) s = .next (withRun c (nextPc c.b) { runFor c.r 30 with deferred := c.r.deferred ++ [d] })) ∧
      (mayWrite f p = false → exec (.pwr t o) s = .next (afterInstr denied (nextPc (sticky c.b 1)) 30))) ∧
    (InTime c 36 →
      (mayRead f p = true → exec (.ptst t o) s = .next (afterSet c o.addr (testWord f p) 0 36)) ∧
      (mayRead f p = false → exec (.ptst t o) s = .next (afterSet denied o.addr 0x600 0 36)))

/-- R108, R139, R86: an instruction whose fields break the rules of its form traps with ILLEGAL after 1 cycle and cuts its run off: no byte,
no point record and no other task changes, and the task holds no run. -/
def Obligations.IllegalFieldsCutTheRunOff : Prop :=
  ∀ (s : State) (t : Fin 64) (c : CastCtx), castCtx s t.val = some c →
    (∀ o : RegForm, o.x ≠ 0 → exec (.add t o) s = .next (afterTrap c 1 1)) ∧
    (∀ o : MemForm, o.d.toNat % 2 = 1 → exec (.ldd t o) s = .next (afterTrap c 1 1) ∧ exec (.std t o) s = .next (afterTrap c 1 1)) ∧
    (∀ code n, modeNow s ≠ mdSTANDBY →
      (taskAt (afterTrap c code n) t.val).run = none ∧ SameBytes s (afterTrap c code n) ∧ SamePoints s (afterTrap c code n) ∧
      (∀ k, k ≠ t.val → taskAt (afterTrap c code n) k = taskAt s k))

/-! ## Register pages (01_register_pages.md) -/

/-- R13, R16, R17, R21, R27, R28: a write to a register page. The header's writable registers take it, a write that a rule bars is rejected as a
whole with the rule's code, a misaligned one ends with a bus error, and a page or offset without a register changes nothing. -/
def Obligations.RegisterWritesAreTakenOrRejected : Prop :=
  ∀ (s : State) (q : Requester) (page : BitVec 8) (off : BitVec 12) (v : Word),
    s.boot.due = none → Reaches s q page.toNat off.toNat →
    (off.toNat % 4 ≠ 0 → exec (.registerWrite q page off v) s = .next { s with answer := { busError := true } }) ∧
    (off.toNat % 4 = 0 → pageAlloc page.toNat = none → exec (.registerWrite q page off v) s = .next { s with answer := {} }) ∧
    ((pageAlloc page.toNat).isSome →
      (off = 0x010 → v.toNat &&& (0x7FFFFFFF - isrMask page.toNat) = 0 → ∃ t, exec (.registerWrite q page off v) s = .next t ∧
        rd t (R.PG_ISR page.toNat) = rd s (R.PG_ISR page.toNat) &&& ~~~v ∧ Accepted t ∧ OnlyRegs [R.PG_ISR page.toNat] s t) ∧
      (off = 0x014 → v.toNat &&& (0x7FFFFFFF - isrMask page.toNat) = 0 → ∃ t, exec (.registerWrite q page off v) s = .next t ∧
        rd t (R.PG_IER page.toNat) = v ∧ Accepted t ∧ RegsAndEvents [R.PG_IER page.toNat] s t) ∧
      (off = 0x00C → v = 0x80000000 → ∃ t, exec (.registerWrite q page off v) s = .next t ∧
        (rd t (R.PG_ERR page.toNat)).extractLsb' 30 2 = 0 ∧
        (rd t (R.PG_ERR page.toNat)).extractLsb' 0 30 = (rd s (R.PG_ERR page.toNat)).extractLsb' 0 30 ∧ Accepted t ∧
        OnlyRegs [R.PG_ERR page.toNat] s t) ∧
      (off = 0x000 ∨ off = 0x008 → ∃ t, exec (.registerWrite q page off v) s = .next t ∧ Rejected s t page.toNat off.toNat .readOnly) ∧
      (0x020 ≤ off.toNat → off.toNat < 0x040 → off.toNat % 4 = 0 → v ≠ 0 → ∃ t, exec (.registerWrite q page off v) s = .next t ∧
        Rejected s t page.toNat off.toNat .reservedBits) ∧
      (0x040 ≤ off.toNat → off.toNat % 4 = 0 → findReg page.toNat off.toNat = none → lockBarred q page.toNat off.toNat = false →
        (v = 0 → ∃ t, exec (.registerWrite q page off v) s = .next t ∧ Accepted t ∧ OnlyRegs [] s t) ∧
        (v ≠ 0 → ∃ t, exec (.registerWrite q page off v) s = .next t ∧ Rejected s t page.toNat off.toNat .reservedBits)) ∧
      (∀ (d : RegDesc) (c : Code), 0x040 ≤ off.toNat → off.toNat % 4 = 0 → findReg page.toNat off.toNat = some d → Awake s page.toNat →
        lockBarred q page.toNat off.toNat = false → ownWrite s q page.toNat off.toNat v = none →
        tableCode s page.toNat off.toNat d (rd s (keyAt s page.toNat off.toNat d)) v = c → c ≠ .none →
        ∃ t, exec (.registerWrite q page off v) s = .next t ∧ Rejected s t page.toNat off.toNat c))

/-- R28: a rejection is recorded while PG_ERR.VALID is 0, with its code and offset, and sets PG_ISR.ERR; a later one only sets OVF. A write that
R24 denies is no rejection and records nothing. -/
def Obligations.RejectionKeepsTheFirstError : Prop :=
  ∀ (s : State) (page : BitVec 8) (off : BitVec 12) (c : Code),
    let e := rd s (R.PG_ERR page.toNat)
    let t := pgError s page.toNat off.toNat c
    (e.getLsbD 31 = false → rd t (R.PG_ERR page.toNat) = BitVec.ofNat 32 (0x80000000 + off.toNat * 256 + codeNum c) ∧
      (rd t (R.PG_ISR page.toNat)).getLsbD 31 = true ∧ RegsAndEvents [R.PG_ERR page.toNat, R.PG_ISR page.toNat] s t) ∧
    (e.getLsbD 31 = true → (rd t (R.PG_ERR page.toNat)).getLsbD 30 = true ∧
      (∀ i, i ≠ 30 → (rd t (R.PG_ERR page.toNat)).getLsbD i = e.getLsbD i) ∧ OnlyRegs [R.PG_ERR page.toNat] s t) ∧
    (∀ (q : Requester) (v : Word), s.boot.due = none → modeNow s ≠ 0 → debugBarred s q page.toNat off.toNat = false →
      pageAllowed s (flaskOf s q) page.toNat off.toNat = false → off.toNat % 4 = 0 →
      ∃ u, exec (.registerWrite q page off v) s = .next u ∧ ∀ p : BitVec 8, rd u (R.PG_ERR p.toNat) = rd s (R.PG_ERR p.toNat))

/-- R24, R65: a write that R24 denies leaves its page alone. It is counted for the requester's flask, the first one since the last clear is kept
with path 9h and the page, and the requester learns ACCESS_FLASK. -/
def Obligations.DeniedAccessIsCounted : Prop :=
  ∀ (s : State) (q : Requester) (page : BitVec 8) (off : BitVec 12) (v : Word),
    s.boot.due = none → modeNow s ≠ 0 → debugBarred s q page.toNat off.toNat = false → pageAllowed s (flaskOf s q) page.toNat off.toNat = false →
    off.toNat % 4 = 0 →
    ∃ t, exec (.registerWrite q page off v) s = .next t ∧ t.answer.code = .accessFlask ∧ t.answer.denied = true ∧
      (rd t (R.FLK_DENY (flaskOf s q))).toNat = min 0xFFFFFFFF ((rd s (R.FLK_DENY (flaskOf s q))).toNat + 1) ∧
      (rd t (R.PG_ISR 0x31)).getLsbD 0 = true ∧
      (rd t R.FLK_DENY_LAST = if (rd s R.FLK_DENY_LAST).getLsbD 31 then rd s R.FLK_DENY_LAST
        else BitVec.ofNat 32 (0x80000000 + flaskOf s q * 0x1000000 + 0x900000 + page.toNat)) ∧
      RegsAndEvents [R.FLK_DENY (flaskOf s q), R.FLK_DENY_LAST, R.PG_ISR 0x31] s t

/-- R12, R13: an access with a byte outside every range moves no byte, whatever the rest of it covers: a read returns zeros, and the requester has
a bus error. So has an access to the register pages that is not an aligned word, and one to the point directory window (R53) that is neither that
nor a burst of a whole record by a channel of Ladle. -/
def Obligations.AddressErrorsMoveNothing : Prop :=
  ∀ (s : State) (q : Requester) (addr : Word) (len : Nat), ReachesWindow s q →
    (decodeError s addr.toNat len false = true →
      exec (.addressDecodeError q addr len none) s = .next { s with answer := { busError := true, bytes := List.replicate len 0 } }) ∧
    (∀ data : List Byte, decodeError s addr.toNat data.length true = true →
      exec (.addressDecodeError q addr len (some data)) s = .next { s with answer := { busError := true } }) ∧
    (∀ w : Bool, 0x40000000 ≤ addr.toNat → addr.toNat ≤ 0x400FFFFF → addr.toNat % 4 ≠ 0 ∨ len ≠ 4 →
      exec (.registerAccessMisaligned q addr len w) s = .next { s with answer := { busError := true } }) ∧
    (∀ w : Bool, 0x50000000 ≤ addr.toNat → addr.toNat ≤ 0x5003FFFF → addr.toNat % 4 ≠ 0 ∨ len ≠ 4 →
      (∀ c, q = .ladle c → addr.toNat % 32 ≠ 0 ∨ len ≠ 32) →
      exec (.registerAccessMisaligned q addr len w) s = .next { s with answer := { busError := true } })

/-- R14, for the 64-bit FRC_VALUE: a read of the lowest word keeps the higher word for its requester, whatever the register does later; a write of
the highest word sets both, the lower one as this requester had staged it. -/
def Obligations.WideRegistersMoveWhole : Prop :=
  ∀ (s : State) (q : Requester), s.boot.due = none →
    (Reaches s q 0x32 0x44 → Awake s 0x32 → ∃ t, exec (.wideRegisterRead q 0x32 0x44) s = .next t ∧
      t.answer = { words := [rd s (R.FRC_VALUE 0)] } ∧ heldWord t q (R.FRC_VALUE 1) = some (rd s (R.FRC_VALUE 1)) ∧
      (∀ r k, (r, k) ≠ (q, R.FRC_VALUE 1) → heldWord t r k = heldWord s r k) ∧ t = { s with holds := t.holds, answer := t.answer }) ∧
    (Reaches s q 0x32 0x48 → Awake s 0x32 →
      (∀ w, heldWord s q (R.FRC_VALUE 1) = some w → exec (.wideRegisterRead q 0x32 0x48) s = .next { s with answer := { words := [w] } }) ∧
      (∀ v : Word, ∃ t, exec (.wideRegisterCommit q 0x32 0x48 v) s = .next t ∧ rd t (R.FRC_VALUE 1) = v ∧
        (∀ x, s.stages.find? (fun h => h.who == q && h.key == R.FRC_VALUE 0) = some x → rd t (R.FRC_VALUE 0) = x.word) ∧
        (s.stages.find? (fun h => h.who == q && h.key == R.FRC_VALUE 0) = none → rd t (R.FRC_VALUE 0) = rd s (R.FRC_VALUE 0)) ∧
        SameRegs [R.FRC_VALUE 0, R.FRC_VALUE 1] s t ∧ Accepted t ∧ t = { s with regs := t.regs, stages := t.stages, answer := t.answer }))

/-- R31, R32, R467 on the switchable domains PD3 to PD11: an enable starts a domain that is OFF and latches a re-arm on one that is STOPPING; a
disable of one that is ON and whose functions are all OFF stops it; a start ends ON in C0, and a stop ends OFF in C4, or starts again with REARM
at 1. Each change of STATE sets PG_ISR bit 0 of the PWR page (R489). -/
def Obligations.DomainsSwitchThroughTheirStates : Prop :=
  ∀ (s : State) (d : Fin 14), 3 ≤ d.val → d.val ≤ 11 →
    (∀ q : Requester, Reaches s q 0x01 (0x40 + 4 * d.val) → Awake s 0x01 → modeNow s ≠ mdBOOT → s.rwlLocked = false →
      (rd s (R.PWR_DOMCTRL d.val)).toNat % 0x40000000 = 0 →
      (domSt s d.val = 0 → ∃ t, exec (.enableWrite q (.domain d)) s = .next t ∧ domSt t d.val = 1 ∧
        (rd t (R.PWR_DOMCTRL d.val)).getLsbD 31 = true ∧ (rd t (R.PG_ISR 0x01)).getLsbD 0 = true ∧ Accepted t ∧
        RegsAndEvents [R.PWR_DOMCTRL d.val, R.PWR_DOMSTAT d.val, R.PG_ISR 0x01] s t) ∧
      (domSt s d.val = 3 → ∃ t, exec (.enableWrite q (.domain d)) s = .next t ∧ domSt t d.val = 3 ∧
        flag t (R.PWR_DOMSTAT d.val) F.PWR_DOMSTAT_REARM = true ∧ Accepted t ∧
        RegsAndEvents [R.PWR_DOMCTRL d.val, R.PWR_DOMSTAT d.val] s t) ∧
      (domSt s d.val = 2 → functionsOff s d.val = true → keepRunning s d.val = false →
        ∃ t, exec (.disableWrite q (.domain d)) s = .next t ∧ domSt t d.val = 3 ∧ domC t d.val = 0 ∧
          (rd t (R.PWR_DOMCTRL d.val)).getLsbD 31 = false ∧ (rd t (R.PG_ISR 0x01)).getLsbD 0 = true ∧ Accepted t ∧
          RegsAndEvents [R.PWR_DOMCTRL d.val, R.PWR_DOMSTAT d.val, R.PG_ISR 0x01] s t)) ∧
    (domSt s d.val = 1 → ∃ t, exec (.startingComplete (.domain d)) s = .next t ∧ domSt t d.val = 2 ∧ domC t d.val = 0 ∧
      (rd t (R.PG_ISR 0x01)).getLsbD 0 = true ∧ RegsAndEvents [R.PWR_DOMSTAT d.val, R.PG_ISR 0x01] s t) ∧
    (domSt s d.val = 3 → ∃ t, exec (.stoppingComplete (.domain d)) s = .next t ∧ domC t d.val = 4 ∧
      domSt t d.val = (if flag s (R.PWR_DOMSTAT d.val) F.PWR_DOMSTAT_REARM then 1 else 0) ∧
      flag t (R.PWR_DOMSTAT d.val) F.PWR_DOMSTAT_REARM = false ∧ (rd t (R.PG_ISR 0x01)).getLsbD 0 = true ∧
      RegsAndEvents [R.PWR_DOMSTAT d.val, R.PG_ISR 0x01] s t)

/-- R37, R65, R85, R466: writes of 1 clear pending events (a source that is still high sets its bit again at once), denial counters and a task's
counters; PG_LAT takes its budget. -/
def Obligations.ClearsAndBudgetsTakeEffect : Prop :=
  ∀ (s : State) (q : Requester),
    (∀ (k : Fin 10) (mask : Word), Reaches s q 0x07 (0x600 + 4 * k.val) → Awake s 0x07 → (k.val = 9 → mask.toNat < 0x100000) →
      ∃ t, exec (.eventPendClear q k mask) s = .next t ∧ Accepted t ∧ RegsAndEvents [] s t ∧
        ∀ i : Fin 32, (rd t (R.EVT_PEND k.val)).getLsbD i.val =
          (((rd s (R.EVT_PEND k.val)).getLsbD i.val && !mask.getLsbD i.val) ||
            (sourceLevel s (32 * k.val + i.val) && flag s (R.EVT_ROUTE (32 * k.val + i.val)) F.EVT_ROUTE_EN))) ∧
    (∀ mask : Word, Reaches s q 0x31 0x1C0 → Awake s 0x31 → ∃ t, exec (.flkDenyClear q mask) s = .next t ∧
      (∀ f : Fin 32, rd t (R.FLK_DENY f.val) = if mask.getLsbD f.val then 0 else rd s (R.FLK_DENY f.val)) ∧ Accepted t ∧
      OnlyRegs ((upTo 32).map R.FLK_DENY) s t) ∧
    (∀ n : Fin 64, Reaches s q 0x38 0x40 → Awake s 0x38 → ∃ t, exec (.taskCounterClear q (BitVec.ofNat 32 n.val)) s = .next t ∧
      rd t (R.SCN_TOVR n.val) = 0 ∧ fld t (R.SCN_TTIME n.val) F.SCN_TTIME_MAX_US = 0 ∧ fld t (R.SCN_TSTAT n.val) F.SCN_TSTAT_CONSEC = 0 ∧
      fld t (R.SCN_TSTAT n.val) F.SCN_TSTAT_LAST_CAUSE = 0 ∧ taskStateOf t n.val = taskStateOf s n.val ∧ Accepted t ∧
      OnlyRegs [R.SCN_TOVR n.val, R.SCN_TTIME n.val, R.SCN_TSTAT n.val] s t) ∧
    (∀ (page : BitVec 8) (v : Word), Reaches s q page.toNat 0x18 → (pageAlloc page.toNat).isSome → v.toNat < 0x1000000 →
      domC s (pageDomain page.toNat) = 0 → ∃ t, exec (.latencyWrite q page v) s = .next t ∧ rd t (R.PG_LAT page.toNat) = v ∧ Accepted t ∧
        OnlyRegs [R.PG_LAT page.toNat] s t)

/-! ## Points, flasks and forces (02_points_and_flasks.md) -/

/-- R46: who may read and who may write a point's record. -/
def Obligations.PointRightsAreTheOwnersAndReaders : Prop :=
  ∀ (f : Fin 32) (p : Point),
    (mayRead f.val p = true ↔ f.val = 0 ∨ (p.alloc = true ∧ (p.owner.toNat = f.val ∨ p.readers.getLsbD f.val = true))) ∧
    (mayWrite f.val p = true ↔ p.alloc = true ∧ p.owner.toNat = f.val)

/-- R54, R55, R41, R58, R344: the window. Word 0 of a record that R46 opens is answered and captures the record for its requester, whose reads of
the other words give that copy; a record that R46 closes reads as the null record and is a counted denial. A write of the low half and a write
of a legal quality are staged for their record; a write of the high half commits VALUE and QUALITY with the timebase, the requester's SOURCE and
SEQ one up, into the record or, where a force stands, into what lies under it; on a standby it is discarded and counted. -/
def Obligations.WindowReadsAndCommitsWholeRecords : Prop :=
  ∀ (s : State) (q : Requester) (pid : BitVec 13), ReachesWindow s q →
    let p := pointAt s pid.toNat
    let f := flaskOf s q
    (mayRead f p = true →
      (∃ t, exec (.windowRecordRead q pid 0) s = .next t ∧ t.answer = { words := [p.value.setWidth 32] } ∧
        t = { s with winHolds := t.winHolds, answer := t.answer } ∧
        (∀ w : Fin 8, w.val ≠ 0 → exec (.windowRecordRead q pid w) t = .next { t with answer := { words := [(recordWords p).getD w.val 0] } }))) ∧
    (mayRead f p = false → ∃ t, exec (.windowRecordRead q pid 0) s = .next t ∧ t.answer = { denied := true, words := [0] } ∧
      (rd t (R.FLK_DENY f)).toNat = min 0xFFFFFFFF ((rd s (R.FLK_DENY f)).toNat + 1) ∧ SamePoints s t) ∧
    (∀ v : Word, ∃ t, exec (.windowStageLow q pid v) s = .next t ∧ (windowStage t q pid).low = some v ∧
      (windowStage t q pid).quality = (windowStage s q pid).quality ∧ t = { s with winStages := t.winStages, answer := {} }) ∧
    (∀ v : Word, writerQuality (v.setWidth 8) = true → ∃ t, exec (.windowStageQuality q pid v) s = .next t ∧
      (windowStage t q pid).quality = some (v.setWidth 8) ∧ (windowStage t q pid).low = (windowStage s q pid).low ∧
      t = { s with winStages := t.winStages, answer := {} }) ∧
    (∀ v : Word, writerQuality (v.setWidth 8) = false → exec (.windowStageQuality q pid v) s = .next { s with answer := {} }) ∧
    (∀ v : Word,
      (onStandby s = false → mayWrite f p = true → forceOn s pid.toNat = none → ∃ t, exec (.windowCommit q pid v) s = .next t ∧
        pointAt t pid.toNat = { p with value := normalize p.dtype (v ++ (windowStage s q pid).low.getD 0)
                                       quality := (windowStage s q pid).quality.getD 0, tstamp := s.now, source := windowSource q, seq := p.seq + 1 } ∧
        (∀ n, n ≠ pid.toNat → pointAt t n = pointAt s n) ∧ windowStage t q pid = { who := q, point := pid, low := none, quality := none } ∧
        t = { s with points := t.points, winStages := t.winStages, twin := t.twin, answer := {} }) ∧
      (∀ k e, onStandby s = false → mayWrite f p = true → forceOn s pid.toNat = some (k, e) → ∃ t, exec (.windowCommit q pid v) s = .next t ∧
        SamePoints s t ∧ forceAt t k = some { e with uValue := normalize p.dtype (v ++ (windowStage s q pid).low.getD 0), uTstamp := s.now,
                                                     uQuality := (windowStage s q pid).quality.getD 0, uSource := windowSource q, written := true } ∧
        t = { s with forces := t.forces, winStages := t.winStages, twin := t.twin, answer := {} }) ∧
      (onStandby s = false → mayWrite f p = false → ∃ t, exec (.windowCommit q pid v) s = .next t ∧ t.answer = { denied := true } ∧ SamePoints s t ∧
        (rd t (R.FLK_DENY f)).toNat = min 0xFFFFFFFF ((rd s (R.FLK_DENY f)).toNat + 1)) ∧
      (onStandby s = true → ∃ t, exec (.windowCommit q pid v) s = .next t ∧ SamePoints s t ∧
        (rd t R.MIR_LOCALW).toNat = min 0xFFFFFFFF ((rd s R.MIR_LOCALW).toNat + 1) ∧ SameRegs [R.MIR_LOCALW] s t))

/-- R57 to R61, R66: the force page. SET on an allocated point puts an entry of setter 0 (who reaches the page acts for flask 0, R24)
with the record under it at a free index and forces the record; CLEAR puts the record beneath back; LOOKUP and READ_INDEX load the result
registers; CLEAR_FLASK removes every entry that flask 0 set and no other. Each change is in the NVR when the command ends. -/
def Obligations.ForceCommandsKeepTheRecordBeneath : Prop :=
  ∀ (s : State) (q : Requester), Reaches s q 0x32 0x4C → Awake s 0x32 →
    let n := fld s R.FRC_POINT F.FRC_POINT_POINT
    let p := pointAt s n
    let v := rd s (R.FRC_VALUE 1) ++ rd s (R.FRC_VALUE 0)
    (∀ k, p.alloc = true → forceOn s n = none → freeForce s = some k →
      ∃ t, exec (.forceSet q) s = .next t ∧ Accepted t ∧
        forceAt t k = some { point := BitVec.ofNat 13 n, value := normalize p.dtype v, setter := 0, orphan := false, written := false,
                             uValue := p.value, uTstamp := p.tstamp, uQuality := p.quality, uSource := p.source } ∧
        (∀ j, j ≠ k → forceAt t j = forceAt s j) ∧ t.nvrForces = t.forces ∧
        pointAt t n = { p with value := normalize p.dtype v, quality := 1, tstamp := s.now, source := sourceOf 0xB k, forced := true, seq := p.seq + 1 } ∧
        (∀ m, m ≠ n → pointAt t m = pointAt s m) ∧ SameRegs [] s t ∧ SameBytes s t) ∧
    (∀ k e, forceOn s n = some (k, e) →
      ∃ t, exec (.forceClear q) s = .next t ∧ Accepted t ∧ forceAt t k = none ∧ (∀ j, j ≠ k → forceAt t j = forceAt s j) ∧ t.nvrForces = t.forces ∧
        pointAt t n = { p with value := e.uValue, quality := e.uQuality, tstamp := e.uTstamp, source := e.uSource, forced := false, seq := p.seq + 1 } ∧
        (∀ m, m ≠ n → pointAt t m = pointAt s m) ∧ SameRegs [] s t ∧ SameBytes s t) ∧
    (∃ t, exec (.forceLookup q) s = .next t ∧ Accepted t ∧ (forceOn s n = none → rd t R.FRC_RESULT = 0 ∧ rd t R.FRC_UINFO = 0) ∧
      (∀ k e, k < 1024 → forceOn s n = some (k, e) → (rd t R.FRC_RESULT).getLsbD 31 = true ∧ rd t (R.FRC_RVALUE 0) = e.value.setWidth 32 ∧
        rd t (R.FRC_RVALUE 1) = (e.value >>> 32).setWidth 32 ∧ rd t (R.FRC_UVALUE 0) = e.uValue.setWidth 32 ∧
        rd t (R.FRC_UVALUE 1) = (e.uValue >>> 32).setWidth 32) ∧
      OnlyRegs [R.FRC_RESULT, R.FRC_RVALUE 0, R.FRC_RVALUE 1, R.FRC_UVALUE 0, R.FRC_UVALUE 1, R.FRC_UINFO] s t) ∧
    (∃ t, exec (.forceReadIndex q) s = .next t ∧ Accepted t ∧
      ((rd t R.FRC_RESULT).getLsbD 31 = (forceAt s (fld s R.FRC_INDEX F.FRC_INDEX_INDEX)).isSome) ∧
      OnlyRegs [R.FRC_RESULT, R.FRC_RVALUE 0, R.FRC_RVALUE 1, R.FRC_UVALUE 0, R.FRC_UVALUE 1, R.FRC_UINFO] s t) ∧
    (∃ t, exec (.forceClearFlask q) s = .next t ∧ Accepted t ∧ t.nvrForces = t.forces ∧
      (∀ k e, forceAt s k = some e → e.setter = 0 → forceAt t k = none) ∧
      (∀ k e, forceAt s k = some e → e.setter ≠ 0 → (∀ x, (k, some x) ∈ s.forces → x = e) → forceAt t k = some e) ∧
      SameRegs [] s t ∧ SameBytes s t)

/-- R62: PTD_CMD. ALLOC makes a free record the owner's, with value 0, quality INIT and the present time; FREE makes one that no force holds the null
record; LOAD shows the attributes; UPDATE replaces owner, data type and readers and nothing else. -/
def Obligations.PointAdministrationFollowsItsTable : Prop :=
  ∀ (s : State) (q : Requester), Reaches s q 0x30 0x4C → Awake s 0x30 →
    let n := fld s R.PTD_SEL F.PTD_SEL_POINT
    let p := pointAt s n
    let owner := fld s R.PTD_ATTR F.PTD_ATTR_OWNER
    let dtype := fld s R.PTD_ATTR F.PTD_ATTR_DTYPE
    let readers := rd s R.PTD_READERS
    (p.alloc = false → attrCheck s owner dtype true = .none → ∃ t, exec (.ptdAlloc q) s = .next t ∧ Accepted t ∧
      pointAt t n = { readers := readers, dtype := BitVec.ofNat 8 dtype, owner := BitVec.ofNat 5 owner, alloc := true, tstamp := s.now } ∧
      (∀ m, m ≠ n → pointAt t m = pointAt s m) ∧ flag t R.PTD_ATTR F.PTD_ATTR_ALLOC = true ∧ SameRegs [R.PTD_ATTR] s t ∧ SameBytes s t) ∧
    (p.alloc = true → p.forced = false → ∃ t, exec (.ptdFree q) s = .next t ∧ Accepted t ∧ pointAt t n = nullPoint ∧
      (∀ m, m ≠ n → pointAt t m = pointAt s m) ∧ flag t R.PTD_ATTR F.PTD_ATTR_ALLOC = false ∧ SameRegs [R.PTD_ATTR] s t ∧ SameBytes s t) ∧
    (∃ t, exec (.ptdLoad q) s = .next t ∧ Accepted t ∧ rd t R.PTD_READERS = p.readers ∧ fld t R.PTD_ATTR F.PTD_ATTR_OWNER = p.owner.toNat ∧
      fld t R.PTD_ATTR F.PTD_ATTR_DTYPE = p.dtype.toNat ∧ flag t R.PTD_ATTR F.PTD_ATTR_ALLOC = p.alloc ∧
      OnlyRegs [R.PTD_ATTR, R.PTD_READERS] s t) ∧
    (p.alloc = true → p.forced = false → attrCheck s owner dtype (p.owner.toNat != owner) = .none →
      ∃ t, exec (.ptdUpdate q) s = .next t ∧ Accepted t ∧
        pointAt t n = { p with readers := readers, dtype := BitVec.ofNat 8 dtype, owner := BitVec.ofNat 5 owner } ∧
        (∀ m, m ≠ n → pointAt t m = pointAt s m) ∧ SameRegs [R.PTD_ATTR] s t ∧ SameBytes s t) ∧
    (p.alloc = true → ∃ t, exec (.ptdAlloc q) s = .next t ∧ t.answer.code = .notInState ∧ SamePoints s t)

/-! ## The cyclic scan (03_scan_execution.md) -/

/-- R71 to R73, R84: releases. A grid point serves its receive rings, then releases CYCLIC tasks and preempts, then triggers the lite channels of
the grid; a CYCLIC task whose period and phase match is released when it is IDLE, and else loses the release, which DROPPED counts. An EVENT task
that holds an event is released when its interval has passed, and so is an ERROR task whose flask has a cause. -/
def Obligations.ReleasesFollowPeriodEventAndCause : Prop :=
  ∀ s : State,
    (modeNow s ≠ 0 → exec .gridPoint s = .next (liteTriggers (scanGridPoint (publishRings
      (advanceTo { s with nextGrid := s.nextGrid + 1 } (BitVec.ofNat 64 (s.nextGrid * 25000)))) s.nextGrid) 2 0)) ∧
    (∀ (t : Fin 64) (k : Nat), taskEnabled s t.val = true → taskTrig s t.val = 0 → mayRelease s t.val = true → taskPeriod s t.val ≠ 0 →
      k % taskPeriod s t.val = fld s (R.SCN_TPER t.val) F.SCN_TPER_PHASE → migrating s (taskFlask s t.val) = false →
      (taskStateOf s t.val = tsIDLE → taskStateOf (cyclicRelease k s t.val) t.val = tsRELEASED ∧
        (taskAt (cyclicRelease k s t.val) t.val).relAt = s.now ∧ SameRegs [R.SCN_TSTAT t.val] s (cyclicRelease k s t.val)) ∧
      (taskStateOf s t.val = tsRUNNING → taskStateOf (cyclicRelease k s t.val) t.val = tsRUNNING ∧
        fld (cyclicRelease k s t.val) (R.SCN_TOVR t.val) F.SCN_TOVR_DROPPED = min 0xFFFF (fld s (R.SCN_TOVR t.val) F.SCN_TOVR_DROPPED + 1) ∧
        (rd (cyclicRelease k s t.val) (R.PG_ISR 0x38)).getLsbD 0 = true)) ∧
    (∀ (t : Fin 64) (r : DWord), taskTrig s t.val = 1 → taskEnabled s t.val = true → mayRelease s t.val = true → taskStateOf s t.val = tsIDLE →
      (taskAt s t.val).held = true → (taskAt s t.val).lastRel = some r → r.toNat + taskPeriod s t.val * 25000 < 2 ^ 64 →
      ∃ u, exec (.eventIntervalExpiry t) s = .next u ∧ taskStateOf u t.val = tsRELEASED ∧ (taskAt u t.val).held = false ∧
        (taskAt u t.val).lastRel = some u.now ∧ u.now.toNat = max s.now.toNat (r.toNat + taskPeriod s t.val * 25000) ∧
        SameRegs [R.SCN_TSTAT t.val] s u ∧ SameBytes s u ∧ SamePoints s u) ∧
    (∀ t : Fin 64, taskTrig s t.val = 2 → (causeQueue s (taskFlask s t.val)).records ≠ [] → releasable s t.val = true →
      ∃ u, exec (.errorTaskRelease t) s = .next u ∧ taskStateOf u t.val = tsRELEASED ∧ (taskAt u t.val).lastRel = some s.now ∧
        SameRegs [R.SCN_TSTAT t.val] s u ∧ SameBytes s u ∧ SamePoints s u)

/-- R74, R82, R97, R107: an idle core that is ON takes its first ready task. A released one starts with a fresh bank at its program's entry, with
the cause record in w1 to w4 where it is an ERROR task; a preempted one goes on where it was, 0.2 µs later. -/
def Obligations.CoresDispatchAndResume : Prop :=
  ∀ (s : State) (c : Fin 8) (n : Fin 64), curTask s c.val = 0x7F → firstReady s c.val = some n.val →
    (pageOn s (0x39 + c.val) = true → taskStateOf s n.val = tsRELEASED → (taskAt s n.val).lostRetain = false →
      (∀ m e, taskTrig s n.val ≠ 2 → taskEntry s n.val = some (m, e) →
        ∃ u, exec (.taskDispatch c) s = .next u ∧ curTask u c.val = n.val ∧ taskStateOf u n.val = tsRUNNING ∧
          (taskAt u n.val).bank = { pc := BitVec.ofNat 32 (m.codeAt + e.entry), ib := BitVec.ofNat 32 (m.dataAt + e.progInst),
                                    tbHi := (taskAt s n.val).bank.tbHi } ∧
          (taskAt u n.val).run = some { step := .latch, release := (taskAt s n.val).relAt, execNs := 300 } ∧
          SameRegs [R.SCN_TSTAT n.val, R.SCC_STATUS c.val] s u ∧ SameBytes s u ∧ SamePoints s u) ∧
      (∀ x rest, taskTrig s n.val = 2 → (causeQueue s (taskFlask s n.val)).records = x :: rest →
        ∃ u, exec (.taskDispatch c) s = .next u ∧ curTask u c.val = n.val ∧ taskStateOf u n.val = tsRUNNING ∧
          (causeQueue u (taskFlask s n.val)).records = rest ∧
          breg (taskAt u n.val).bank 1 = BitVec.ofNat 32 (x.code * 2 ^ 24 + x.task * 2 ^ 16 + min (causeQueue s (taskFlask s n.val)).lost 0xFFFF) ∧
          breg (taskAt u n.val).bank 2 = x.detail ∧ breg (taskAt u n.val).bank 3 = x.time.setWidth 32 ∧
          breg (taskAt u n.val).bank 4 = (x.time >>> 32).setWidth 32 ∧ SameRegs [R.SCN_TSTAT n.val, R.SCC_STATUS c.val] s u)) ∧
    (∀ r, taskStateOf s n.val = tsPREEMPTED → (taskAt s n.val).run = some r →
      ∃ u, exec (.runResume c) s = .next u ∧ curTask u c.val = n.val ∧ taskStateOf u n.val = tsRUNNING ∧
        (taskAt u n.val).bank = (taskAt s n.val).bank ∧ (taskAt u n.val).run = some { r with execNs := r.execNs + 200 } ∧
        SameRegs [R.SCN_TSTAT n.val, R.SCC_STATUS c.val] s u ∧ SameBytes s u ∧ SamePoints s u)

/-- R77, R79, R83, R85: the steps of a run beside its program. The latch puts the records of the input table into the flask's memory in order; the
write-back commits an output entry whose HOLD is 0 with the task as its source; the retention step ends a run that wrote nothing retentive with
its counters, and frees the core. -/
def Obligations.RunStepsMoveImagesAndEnd : Prop :=
  ∀ (s : State) (n : Fin 64) (r : Run) (m : Mould) (e : TaskEnt), (taskAt s n.val).run = some r → taskEntry s n.val = some (m, e) →
    taskStateOf s n.val = tsRUNNING →
    (∀ w : Nat, r.step = .latch → fld s (R.SCN_TBUD n.val) F.SCN_TBUD_WDOG_US = 0 → 0x20000 ≤ m.dataAt + e.inImg →
      (∀ p ∈ e.inTbl, mayRead (taskFlask s n.val) (pointAt s p) = true) →
      ∃ u, exec (.inputLatch n w) s = .next u ∧
        (∃ r' : Run, (taskAt u n.val).run = some r' ∧ r'.step = .program ∧ r'.execNs = r.execNs + w + 100 + 4 * e.inTbl.length ∧
          r'.denials = r.denials) ∧
        (∀ i (h : i < e.inTbl.length), bytesAt u (m.dataAt + e.inImg + 16 * i) 16 = imageEntry (pointAt s e.inTbl[i])) ∧
        (∀ a, a < m.dataAt + e.inImg ∨ m.dataAt + e.inImg + 16 * e.inTbl.length ≤ a → byteAt u a = byteAt s a) ∧ SamePoints s u) ∧
    (∀ (w pid : Nat), r.step = .writeBack → e.outTbl = [(pid, false)] → r.deferred = [] → onStandby s = false →
      mayWrite (taskFlask s n.val) (pointAt s pid) = true → forceOn s pid = none →
      (byteAt s (m.dataAt + e.outImg + 9)).getLsbD 0 = false → writerQuality (byteAt s (m.dataAt + e.outImg + 8)) = true →
      ∃ u, exec (.outputWriteBack n w) s = .next u ∧
        pointAt u pid = { pointAt s pid with value := normalize (pointAt s pid).dtype (BitVec.ofNat 64 (loadN s (m.dataAt + e.outImg) 8))
                                             quality := byteAt s (m.dataAt + e.outImg + 8), tstamp := s.now, source := sourceOf 1 n.val
                                             seq := (pointAt s pid).seq + 1 } ∧
        (∀ k, k ≠ pid → pointAt u k = pointAt s k) ∧
        (∃ r' : Run, (taskAt u n.val).run = some r' ∧ r'.step = .retention ∧ r'.execNs = r.execNs + w + 106)) ∧
    (r.step = .retention → r.dirty = [] → r.drops = 0 → r.denials = 0 → pairActive s = false → modeNow s ≠ mdSTANDBY →
      hasRetain m e r = false → stageFill s ≤ 524288 → taskEnabled s n.val = true → mayRelease s n.val = true → (taskAt s n.val).held = false →
      curTask s (taskCore s n.val) = n.val →
      ∃ u, exec (.retentionCopy n) s = .next u ∧ (taskAt u n.val).run = none ∧ (taskAt u n.val).prevDone = some r.release ∧
        taskStateOf u n.val = tsIDLE ∧ curTask u (taskCore s n.val) = 0x7F ∧ rd u (R.SCN_TRUNS n.val) = rd s (R.SCN_TRUNS n.val) + 1 ∧
        fld u (R.SCN_TTIME n.val) F.SCN_TTIME_LAST_US = usUp (r.execNs + 100) ∧ fld u (R.SCN_TSTAT n.val) F.SCN_TSTAT_CONSEC = 0 ∧
        SameRegs [R.SCN_TRUNS n.val, R.SCN_TTIME n.val, R.SCN_TSTAT n.val, R.SCC_STATUS (taskCore s n.val)] s u ∧ SameBytes s u ∧ SamePoints s u)

/-- R86, R90, R92: the watchdog cuts a run off with nothing of it committed, and with TRAP_ACT the task halts; a batch that drains is applied to
the flask's retentive data, and one that fails is counted. -/
def Obligations.WatchdogAndDrainEndTheirWork : Prop :=
  ∀ s : State,
    (∀ (n : Fin 64) (r : Run), (taskAt s n.val).run = some r → pairActive s = false → modeNow s ≠ mdSTANDBY →
      flag s (R.SCN_TCFG n.val) F.SCN_TCFG_TRAP_ACT = true →
      ∃ u, exec (.watchdogExpiry n) s = .next u ∧ (taskAt u n.val).run = none ∧ taskStateOf u n.val = tsHALTED ∧ taskEnabled u n.val = false ∧
        fld u (R.SCN_TSTAT n.val) F.SCN_TSTAT_LAST_CAUSE = 3 ∧ (rd u (R.PG_ISR 0x38)).getLsbD 1 = true ∧ SameBytes s u ∧ SamePoints s u) ∧
    (∀ (b : Batch) (w : Word), s.scan.batches.find? (fun b => (newGenOf s b.flask).isNone) = some b →
      (∃ u, exec (.retentionBatchDrain true w) s = .next u ∧ u.scan.batches = s.scan.batches.erase b ∧
        nvrOf u b.flask = b.granules.foldl applyGranule (nvrOf s b.flask) ∧ (∀ f, f ≠ b.flask → nvrOf u f = nvrOf s f) ∧
        u = { s with scan := u.scan }) ∧
      (∃ u, exec (.retentionBatchDrain false w) s = .next u ∧ u.scan.batches = s.scan.batches.erase b ∧ (∀ f, nvrOf u f = nvrOf s f) ∧
        (rd u R.NVR_WRFAIL).toNat = min 0xFFFFFFFF ((rd s R.NVR_WRFAIL).toNat + 1) ∧ (rd u (R.PG_ISR 0x38)).getLsbD 2 = true))

/-- R94, R95, R238: a falling supply. PFW stops the scan and the other engines and takes the metering snapshot, once; the save has nothing staged
left and shows its time; 100 ms after PFW has gone the metering record is saved again and the module resets with cause bit 6. -/
def Obligations.PowerFailSavesAndResets : Prop :=
  ∀ s : State,
    (modeNow s ≠ 0 → s.pfwLevel = false → exec .pfwAssert s = .next (updPowerFail (powerFail s)) ∧ (powerFail s).pfwLevel = true) ∧
    (s.pfwLevel = true → exec .pfwAssert s = .next s) ∧
    (∀ us : Nat, s.scan.pfw = true → s.scan.saveDone = false → s.meter.snap = none →
      ∃ u, exec (.powerFailSaveComplete us) s = .next u ∧ u.scan.batches = [] ∧ u.scan.newGen = [] ∧ u.scan.saveDone = true ∧
        flag u R.SCN_PFWST F.SCN_PFWST_COMPLETE = true ∧ fld u R.SCN_PFWST F.SCN_PFWST_DRAIN_US = min us 0xFFFF ∧
        (rd u (R.PG_ISR 0x38)).getLsbD 3 = true ∧ SameBytes s u ∧ SamePoints s u) ∧
    (s.scan.saveDone = true → exec .pfwDeassertReset s = .next (resetModule (saveRecord s) 0x40)) ∧
    (s.scan.saveDone = false → exec .pfwDeassertReset s = .next s)

/-- R70, R78, R87, R88: SCN_TCFG. An accepted write with EN at 1 on a task that is DISABLED makes it IDLE, or SUSPENDED while the mode, its core or
the power-fail save bars it; one with EN at 0 on an IDLE task disables it. -/
def Obligations.TasksEnableAndDisable : Prop :=
  ∀ (s : State) (q : Requester) (n : Fin 64) (v : Word) (d : RegDesc), Reaches s q 0x38 (0x100 + 16 * n.val) → Awake s 0x38 →
    findReg 0x38 (0x100 + 16 * n.val) = some d →
    (tableCode s 0x38 (0x100 + 16 * n.val) d (rd s (R.SCN_TCFG n.val)) (withBits v 31 31 1) = .none →
      enableTaskCheck s n.val (withBits v 31 31 1) (queueOwner s) = .none → taskStateOf s n.val = tsDISABLED →
      ∃ u, exec (.taskEnable q n v) s = .next u ∧ Accepted u ∧ taskEnabled u n.val = true ∧
        taskStateOf u n.val = (if mayRelease u n.val then tsIDLE else tsSUSPENDED) ∧ (taskAt u n.val).held = false ∧
        SameRegs [R.SCN_TCFG n.val, R.SCN_TSTAT n.val] s u ∧ SamePoints s u) ∧
    (tableCode s 0x38 (0x100 + 16 * n.val) d (rd s (R.SCN_TCFG n.val)) (withBits v 31 31 0) = .none → taskStateOf s n.val = tsIDLE →
      ∃ u, exec (.taskDisable q n v) s = .next u ∧ Accepted u ∧ taskEnabled u n.val = false ∧ taskStateOf u n.val = tsDISABLED ∧
        SameRegs [R.SCN_TCFG n.val, R.SCN_TSTAT n.val] s u ∧ SameBytes s u ∧ SamePoints s u)

/-! ## Recast (05_recast.md) -/

/-- R151 to R155, R159, R173 to R175: the operations of the XCH page. STAGE begins the check of the page's request, COMMIT and ROLLBACK begin to wait
for the exchange tick, ABANDON and CONFIRM drop the staged or the retained mould, and UNLOAD takes a mould that no enabled task runs from its
flask with its retentive data; a mode of R153 bars them all. -/
def Obligations.XchOperationsMoveTheExchange : Prop :=
  ∀ (s : State) (q : Requester), Reaches s q 0x41 0x58 → Awake s 0x41 →
    let x := xchPageReq s
    let own := [R.XCH_STATUS, R.PG_STATE 0x41, R.XCH_POOL]
    (xchBarred s = false →
      (xchState s = xsIDLE → reportBufferOk s x = true → ∃ t, exec (.xchStage q) s = .next t ∧ Accepted t ∧ xchState t = xsCHECKING ∧
        xchFlask t = x.flask ∧ t.xch.src = x.src ∧ t.xch.len = x.len ∧ t.xch.key = x.key ∧ SameRegs own s t ∧ SameBytes s t ∧ SamePoints s t) ∧
      (xchState s = xsSTAGED → x.flask = xchFlask s → reportBufferOk s x = true → ∃ t, exec (.xchCommit q) s = .next t ∧ Accepted t ∧
        xchState t = xsWAITING ∧ xchFlask t = x.flask ∧ t.xch.commitAt = s.now ∧ t.xch.staged = s.xch.staged ∧ SameRegs own s t ∧ SameBytes s t ∧
        SamePoints s t) ∧
      (xchState s = xsSTAGED → x.flask = xchFlask s → ∃ t, exec (.xchAbandon q) s = .next t ∧ Accepted t ∧ xchState t = xsIDLE ∧
        t.xch.staged = none ∧ (rd t (R.PG_ISR 0x41)).getLsbD 0 = true ∧ t.moulds = s.moulds ∧ SameBytes s t ∧ SamePoints s t) ∧
      (xchState s = xsRETAINED → x.flask = xchFlask s → ∃ t, exec (.xchConfirm q) s = .next t ∧ Accepted t ∧ xchState t = xsIDLE ∧
        t.xch.retained = none ∧ (rd t (R.PG_ISR 0x41)).getLsbD 0 = true ∧ t.moulds = s.moulds ∧ SameBytes s t ∧ SamePoints s t) ∧
      (xchState s = xsRETAINED → x.flask = xchFlask s → reportBufferOk s x = true → ∃ t, exec (.xchRollback q) s = .next t ∧ Accepted t ∧
        xchState t = xsWAITING ∧ flag t R.XCH_STATUS F.XCH_STATUS_ROLLBACK = true ∧ t.xch.commitAt = s.now ∧ t.xch.retained = s.xch.retained ∧
        SameRegs own s t ∧ SameBytes s t ∧ SamePoints s t) ∧
      (∀ m, xchState s = xsIDLE → mouldOf s x.flask = some m → flaskHasTask s x.flask = false → reportBufferOk s x = true →
        ∃ t, exec (.xchUnload q) s = .next t ∧ Accepted t ∧ mouldOf t x.flask = none ∧ (∀ f, f ≠ x.flask → mouldOf t f = mouldOf s f) ∧
          nvrOf t x.flask = [] ∧ newGenOf t x.flask = none ∧ xchState t = xsIDLE ∧ SameBytes s t ∧ SamePoints s t)) ∧
    (xchBarred s = true → ∃ t, exec (.xchStage q) s = .next t ∧ t.answer.code = .notInState ∧ t.xch = s.xch ∧ t.moulds = s.moulds)

/-- R155, R156, R159 to R161, R168, R176, R177: what carries an exchange on. The check ends STAGED with the mould placed, or IDLE with its code; the
exchange tick begins migration when no run of the flask is in progress; the time-out goes back with BUSY; the switch puts the staged mould into
force and retains the old one; a due report is written; a waiting generation becomes what the NVR holds. -/
def Obligations.ExchangeChecksMigratesAndReports : Prop :=
  ∀ s : State,
    (∀ (c d : Word) (m : Mould) (k : Code), xchState s = xsCHECKING → stageCheck s (xchFlask s) c.toNat d.toNat = (k, some m) →
      ∃ t, exec (.stageComplete c d) s = .next t ∧ xchState t = xsSTAGED ∧ t.xch.staged = some m ∧ fld t R.XCH_STATUS F.XCH_STATUS_RESULT = 0 ∧
        t.moulds = s.moulds ∧ SamePoints s t) ∧
    (∀ (c d : Word) (k : Code), xchState s = xsCHECKING → stageCheck s (xchFlask s) c.toNat d.toNat = (k, none) →
      ∃ t, exec (.stageComplete c d) s = .next t ∧ xchState t = xsIDLE ∧ fld t R.XCH_STATUS F.XCH_STATUS_RESULT = codeNum k ∧
        (rd t (R.PG_ISR 0x41)).getLsbD 0 = true ∧ t.moulds = s.moulds ∧ SameBytes s t ∧ SamePoints s t) ∧
    (∀ peer : Bool, xchState s = xsWAITING → s.now.toNat % 100000 = 0 → s.now.toNat ≤ xchDeadline s → flaskRunning s (xchFlask s) = false →
      peerReady s peer = true → ∃ t, exec (.exchangeTick peer) s = .next t ∧ xchState t = xsMIGRATING ∧ t.xch.tickAt = s.now ∧
        t.moulds = s.moulds ∧ SameBytes s t ∧ SamePoints s t ∧ SameRegs [R.XCH_STATUS, R.PG_STATE 0x41, R.XCH_POOL] s t) ∧
    (xchState s = xsWAITING → ∃ t, exec .exchangeTimeout s = .next t ∧
      xchState t = (if flag s R.XCH_STATUS F.XCH_STATUS_ROLLBACK then xsRETAINED else xsSTAGED) ∧ fld t R.XCH_STATUS F.XCH_STATUS_RESULT = 0x0C ∧
      (rd t (R.PG_ISR 0x41)).getLsbD 2 = true ∧ t.xch.staged = s.xch.staged ∧ t.moulds = s.moulds ∧ SameBytes s t ∧ SamePoints s t) ∧
    (∀ (m : Mould) (ns : Nat), xchState s = xsMIGRATING → flag s R.XCH_STATUS F.XCH_STATUS_ROLLBACK = false → s.xch.staged = some m →
      ∃ t, exec (.exchangeSwitch ns) s = .next t ∧ mouldOf t (xchFlask s) = some m ∧ (∀ f, f ≠ xchFlask s → mouldOf t f = mouldOf s f) ∧
        t.xch.staged = none ∧ t.xch.retained = mouldOf s (xchFlask s) ∧ SamePoints s t) ∧
    (∀ (r : Report) (rest : List Report), s.xch.reports = r :: rest → 32 ≤ r.size → 0x20000 ≤ r.addr →
      ∃ t, exec .exchangeReport s = .next t ∧ t.xch.reports = rest ∧ bytesAt t r.addr (reportBytes r).1.length = (reportBytes r).1 ∧
        (∀ a, a < r.addr ∨ r.addr + (reportBytes r).1.length ≤ a → byteAt t a = byteAt s a) ∧ (rd t (R.PG_ISR 0x41)).getLsbD 3 = true) ∧
    (∀ (f : Fin 32) (g : List NvrInst), newGenOf s f.val = some g → ∃ t, exec (.generationApplied f) s = .next t ∧ nvrOf t f.val = g ∧
      newGenOf t f.val = none ∧ (∀ k, k ≠ f.val → nvrOf t k = nvrOf s k ∧ newGenOf t k = newGenOf s k) ∧ t = { s with scan := t.scan })

/-! ## Loop engines (06_loop_engines.md) -/

/-- R196, R199: a swap is latched while the loop runs and takes effect at once while it is OFF; one that is pending bars another. A group swap
reaches every running loop of the groups it names, and no loop of another group. -/
def Obligations.LoopSwapsAreLatchedOrTaken : Prop :=
  ∀ (s : State) (q : Requester),
    (∀ n : Fin 512, Reaches s q (0x49 + n.val / 128) 0x13C → Awake s (0x49 + n.val / 128) →
      (flag s (R.LPE_BANK n.val) F.LPE_BANK_SWAP_PEND = false → loopSt s n.val = 2 →
        ∃ t, exec (.bankSwapRequest q n) s = .next t ∧ Accepted t ∧ flag t (R.LPE_BANK n.val) F.LPE_BANK_SWAP_PEND = true ∧
          fld t (R.LPE_BANK n.val) F.LPE_BANK_ACTIVE = fld s (R.LPE_BANK n.val) F.LPE_BANK_ACTIVE ∧
          OnlyRegs [R.LPE_LSEL (n.val / 128), R.LPE_BANK n.val] s t) ∧
      (flag s (R.LPE_BANK n.val) F.LPE_BANK_SWAP_PEND = false → loopSt s n.val = 0 →
        ∃ t, exec (.bankSwapRequest q n) s = .next t ∧ Accepted t ∧ flag t (R.LPE_BANK n.val) F.LPE_BANK_SWAP_PEND = false ∧
          fld t (R.LPE_BANK n.val) F.LPE_BANK_ACTIVE = 1 - fld s (R.LPE_BANK n.val) F.LPE_BANK_ACTIVE ∧
          flag t (R.LPE_LSTAT n.val) F.LPE_LSTAT_SWAPPED = true) ∧
      (flag s (R.LPE_BANK n.val) F.LPE_BANK_SWAP_PEND = true → ∃ t, exec (.bankSwapRequest q n) s = .next t ∧ t.answer.code = .busy ∧
        rd t (R.LPE_BANK n.val) = rd s (R.LPE_BANK n.val))) ∧
    (∀ g : BitVec 16, Reaches s q 0x48 0x40 → Awake s 0x48 → ∃ t, exec (.groupSwap q g) s = .next t ∧ Accepted t ∧
      (∀ n : Fin 512, g.getLsbD (fld s (R.LPE_CTRL n.val) F.LPE_CTRL_GROUP) = true → loopSt s n.val = 2 →
        flag t (R.LPE_BANK n.val) F.LPE_BANK_SWAP_PEND = true) ∧
      (∀ n : Fin 512, g.getLsbD (fld s (R.LPE_CTRL n.val) F.LPE_CTRL_GROUP) = false → rd t (R.LPE_BANK n.val) = rd s (R.LPE_BANK n.val)) ∧
      SameBytes s t ∧ SamePoints s t)

/-! ## Metering (07_metering.md) -/

/-- R220 to R222: the nets of a cycle go into the energy registers. A positive active net adds to EIMP and a negative one to EEXP, and the magnitude
of the reactive net to the quadrant that the table names; each accumulator wraps at 2^64, which WRAPS counts modulo 256. -/
def Obligations.CycleNetsGoToTheirRegisters : Prop :=
  ∀ (s : State) (c : Fin 48) (cp cq : Int) (r : Fin 6),
    let x := circAt s c.val
    let y := circAt (applyNets s c.val cp cq) c.val
    let n : Nat :=
      if r.val = 0 then (if 0 < cp then cp.natAbs else 0)
      else if r.val = 1 then (if cp < 0 then cp.natAbs else 0)
      else if r.val = 2 then (if 0 ≤ cp ∧ 0 < cq then cq.natAbs else 0)
      else if r.val = 3 then (if cp < 0 ∧ 0 < cq then cq.natAbs else 0)
      else if r.val = 4 then (if cp ≤ 0 ∧ cq < 0 then cq.natAbs else 0)
      else (if 0 < cp ∧ cq < 0 then cq.natAbs else 0)
    x.acc.length = 6 → x.wraps.length = 6 → x.ivl.length = 6 → (∀ i, x.acc.getD i 0 < 2 ^ 64) → (∀ i, x.wraps.getD i 0 < 256) →
    y.acc.getD r.val 0 = (x.acc.getD r.val 0 + n) % 2 ^ 64 ∧
    y.wraps.getD r.val 0 = (x.wraps.getD r.val 0 + (if 2 ^ 64 ≤ x.acc.getD r.val 0 + n then 1 else 0)) % 256 ∧
    y.ivl.getD r.val 0 = x.ivl.getD r.val 0 + n

/-- R209, R215, R225, R227, R230, R231, R233, R237: samples, windows and the metering record, where no circuit's cycle is in progress. A sample
adds to the port meters' tick; a lost crossing puts the circuits of its channel on windows; a window's end starts the first cycle of a circuit on
windows; an interval boundary closes every interval and saves the record; a calibration window adopts targets within LIMIT; a correction step
moves APPLIED toward TARGET by at most 16; a save writes the older copy. -/
def Obligations.MeteringEventsTakeEffect : Prop :=
  ∀ s : State,
    (∀ x : MeterSample, modeNow s ≠ 0 → pageOn s 0x53 = false → ∃ t, exec (.meteringSample x) s = .next t ∧
      t.meter.nextSample = s.meter.nextSample + 1 ∧
      (∀ p : Fin 16, (portMeterAt t p.val).tickN = (portMeterAt s p.val).tickN + 1 ∧
        (portMeterAt t p.val).tickV = (portMeterAt s p.val).tickV + sampleInt x.portV p.val ∧
        (portMeterAt t p.val).tickI = (portMeterAt s p.val).tickI + sampleInt x.portI p.val ∧
        (pmRuns s p.val = true → (portMeterAt t p.val).tickE = (portMeterAt s p.val).tickE +
          roundDiv (sampleInt x.portV p.val * sampleInt x.portI p.val * (125 * 2 ^ 24)) (36 * 10 ^ 17))) ∧
      SameRegs [] s t ∧ SameBytes s t ∧ SamePoints s t) ∧
    ((∀ c : Fin 48, (circAt s c.val).running = false) →
      (∀ v : Fin 6, flag s (R.MTR_VSTAT v.val) F.MTR_VSTAT_ZC_LOST = false → ∃ t, exec (.zcLost v) s = .next t ∧
        flag t (R.MTR_VSTAT v.val) F.MTR_VSTAT_ZC_LOST = true ∧ (rd t (R.PG_ISR 0x50)).getLsbD 0 = true ∧
        (∀ c : Fin 48, circSt s c.val ≠ 0 → circZc s c.val = v.val → flag t (R.CIR_STAT c.val) F.CIR_STAT_ZC_FB = true) ∧
        SameBytes s t ∧ SamePoints s t) ∧
      ((∀ c : Fin 48, circSt s c.val ≠ 3) → ∃ t, exec .fixedWindowEnd s = .next t ∧
        (∀ c : Fin 48, flag s (R.CIR_STAT c.val) F.CIR_STAT_ZC_FB = true → circSt s c.val ≠ 0 → flag s (R.CIR_STAT c.val) F.CIR_STAT_SUSP = false →
          circSt t c.val = 2 ∧ (circAt t c.val).running = true ∧ (circAt t c.val).start = t.now) ∧ SameBytes s t ∧ SamePoints s t) ∧
      (calValid s = true → ofBcd (fld s R.RTC_TIME F.RTC_TIME_MIN) % fld s R.MTR_DEM F.MTR_DEM_LEN = 0 → fld s R.RTC_TIME F.RTC_TIME_SEC = 0 →
        (∀ c : Fin 48, (circAt s c.val).closing = none ∧ (circAt s c.val).ivlActive = false) →
        ∃ t, exec .intervalBoundary s = .next t ∧ (∀ c : Fin 48, (circAt t c.val).ivlStart = s.now ∧ (circAt t c.val).ivlPart = true) ∧
          t.meter.ivlStart = s.now ∧ t.meter.saves = s.meter.saves + 1 ∧ (rd t (R.PG_ISR 0x50)).getLsbD 5 = true ∧ SameBytes s t ∧ SamePoints s t)) ∧
    (∀ ts : List Int, pageOn s 0x54 = true → meterBarred s = false → ∃ t, exec (.calibrationWindowEnd ts) s = .next t ∧
      (∀ p : Fin 102, tget (fun _ => false) s.meter.tainted p.val = false →
        ((ts.getD p.val 0).natAbs ≤ fld s R.LCAL_CFG F.LCAL_CFG_LIMIT →
          fld t (R.LCAL_GAIN p.val) F.LCAL_GAIN_TARGET = codeOf 16 (ts.getD p.val 0))) ∧
      (rd t (R.PG_ISR 0x54)).getLsbD 1 = true ∧ t.meter.tainted = [] ∧ SameBytes s t ∧ SamePoints s t) ∧
    (∃ t, exec .correctionStep s = .next t ∧
      (∀ p : Fin 102, fld t (R.LCAL_GAIN p.val) F.LCAL_GAIN_TARGET = fld s (R.LCAL_GAIN p.val) F.LCAL_GAIN_TARGET ∧
        let want := signedOf 16 (fld s (R.LCAL_GAIN p.val) F.LCAL_GAIN_TARGET)
        let have_ := signedOf 16 (fld s (R.LCAL_GAIN p.val) F.LCAL_GAIN_APPLIED)
        signedOf 16 (fld t (R.LCAL_GAIN p.val) F.LCAL_GAIN_APPLIED) = have_ + max (-16) (min 16 (want - have_))) ∧
      OnlyRegs ((upTo 102).map R.LCAL_GAIN) s t) ∧
    (modeNow s ≠ 0 → ∃ t, exec .meteringRecordSave s = .next t ∧ t.meter.saves = s.meter.saves + 1 ∧
      tget (fun _ => none) t.meter.nvr (s.meter.saves % 2) = some (meterRecord s) ∧
      tget (fun _ => none) t.meter.nvr ((s.meter.saves + 1) % 2) = tget (fun _ => none) s.meter.nvr ((s.meter.saves + 1) % 2) ∧
      t = { s with meter := t.meter })

/-- R226, R237: CIR_CMD. ZERO on a circuit that is OFF clears its registers and saves the record, and is barred elsewhere; CLR_MAX clears the maximum
demand and its time. -/
def Obligations.CircuitCommandsClearTotals : Prop :=
  ∀ (s : State) (q : Requester) (c : Fin 48), Reaches s q 0x50 0x118 → Awake s 0x50 →
    (circSt s c.val = 0 → ∃ t, exec (.circuitZero q c) s = .next t ∧ Accepted t ∧ (circAt t c.val).acc = [0, 0, 0, 0, 0, 0] ∧
      (circAt t c.val).wraps = [0, 0, 0, 0, 0, 0] ∧ (∀ r : Fin 6, rd t (R.CIR_E c.val r.val) = 0 ∧ rd t (R.CIR_EH c.val r.val) = 0) ∧
      rd t (R.CIR_MAXD c.val) = 0 ∧ t.meter.saves = s.meter.saves + 1 ∧ (∀ d, d ≠ c.val → circAt t d = circAt s d) ∧ SameBytes s t ∧ SamePoints s t) ∧
    (circSt s c.val ≠ 0 → ∃ t, exec (.circuitZero q c) s = .next t ∧ t.answer.code = .notInState ∧ t.meter = s.meter) ∧
    (∃ t, exec (.circuitClrMax q c) s = .next t ∧ Accepted t ∧ rd t (R.CIR_MAXD c.val) = 0 ∧ rd t (R.CIR_MAXT c.val) = 0 ∧
      OnlyRegs [R.MTR_CSEL, R.CIR_MAXD c.val, R.CIR_MAXT c.val] s t)

/-! ## Field buses (08_spurs_can.md) -/

/-- R259 to R262: transmit buffers. A request makes the buffers it names PENDING; on an idle bus the winner goes out at once. A lost arbitration
returns the buffer to PENDING, or ends it under single shot or a held cancel; a sent frame is TX_DONE with its timestamp and lowers TEC; a cancel
ends a pending buffer, and one whose frame is out only after the frame. -/
def Obligations.CanBuffersTransmit : Prop :=
  ∀ (s : State) (b : Fin 8),
    (∀ (q : Requester) (v : Word), Reaches s q (fbPage b.val) 0x90 →
      (v.toNat < 65536 → txRefused s b.val = false → fbRing s b.val = false →
        (∀ n : Fin 16, v.getLsbD n.val = true → bufIllegal s b.val (rd s (R.TXB_CTL b.val n.val)) = false) →
        (∃ t, exec (.canTxRequest q b v false) s = .next t ∧ Accepted t ∧
          (∀ n : Fin 16, (v.getLsbD n.val = true → bufBusy s b.val n.val = false →
              bufSt t b.val n.val = bsPENDING ∧ fld t (R.TXB_STAT b.val n.val) F.TXB_STAT_ATTEMPTS = 0) ∧
            ((v.getLsbD n.val = false ∨ bufBusy s b.val n.val = true) → rd t (R.TXB_STAT b.val n.val) = rd s (R.TXB_STAT b.val n.val))) ∧
          OnlyRegs (R.FB_TXPEND b.val :: (upTo 16).map (R.TXB_STAT b.val)) s t) ∧
        (∀ n : Fin 16, v = BitVec.ofNat 32 (2 ^ n.val) → (∀ k : Fin 16, bufBusy s b.val k.val = false) →
          (fbSub s b.val = cbACTIVE ∨ fbSub s b.val = cbPASSIVE) → (busAt s b.val).active = none →
          ∃ t, exec (.canTxRequest q b v true) s = .next t ∧ Accepted t ∧ (busAt t b.val).active = some n.val ∧
            bufSt t b.val n.val = bsACTIVE ∧ fld t (R.TXB_STAT b.val n.val) F.TXB_STAT_ATTEMPTS = 1 ∧ SameBytes s t ∧ SamePoints s t)) ∧
      (v.toNat < 65536 → txRefused s b.val = true → ∀ idle : Bool, ∃ t, exec (.canTxRequest q b v idle) s = .next t ∧
        Rejected s t (fbPage b.val) 0x90 .notInState)) ∧
    (∀ n : Fin 16, (busAt s b.val).active = some n.val → (busAt s b.val).won = false →
      ∃ t, exec (.canArbitrationLost b) s = .next t ∧ (busAt t b.val).active = none ∧
        bufSt t b.val n.val = (if (busAt s b.val).cancelled then bsCANCELLED
          else if flag s (R.FB_CTRL b.val) F.FB_CTRL_SSHOT then bsSSFAIL else bsPENDING) ∧
        (∀ k : Fin 16, k ≠ n → rd t (R.TXB_STAT b.val k.val) = rd s (R.TXB_STAT b.val k.val)) ∧ SameBytes s t ∧ SamePoints s t) ∧
    (∀ (n : Fin 16) (sof : DWord) (d : BitVec 7), (busAt s b.val).active = some n.val → (busAt s b.val).cancelled = false →
      (busAt s b.val).listen = false → flag s (R.FB_CTRL b.val) F.FB_CTRL_ECHO = false → tecOf s b.val ≤ 255 → (busAt s b.val).recv < 128 →
      (∀ k : Fin 16, bufSt s b.val k.val ≠ bsPENDING) →
      ∃ t, exec (.canTxDone b sof d) s = .next t ∧ bufSt t b.val n.val = bsTXDONE ∧ rd t (R.TXB_TS b.val n.val) = sof.setWidth 32 ∧
        tecOf t b.val = tecOf s b.val - 1 ∧ (busAt t b.val).active = none ∧ (rd t (R.PG_ISR (fbPage b.val))).getLsbD 0 = true ∧
        SameBytes s t ∧ SamePoints s t) ∧
    (∀ (q : Requester) (v : Word) (ph : TxPhase), Reaches s q (fbPage b.val) 0x94 → v.toNat < 65536 → ph ≠ .beforeSof →
      (∀ k, (busAt s b.val).active = some k → k < 16) →
      ∃ t, exec (.canTxCancel q b v ph) s = .next t ∧ Accepted t ∧
        (∀ n : Fin 16, (v.getLsbD n.val = true → bufSt s b.val n.val = bsPENDING → bufSt t b.val n.val = bsCANCELLED) ∧
          (v.getLsbD n.val = false ∨ bufSt s b.val n.val ≠ bsPENDING → rd t (R.TXB_STAT b.val n.val) = rd s (R.TXB_STAT b.val n.val)) ∧
          (v.getLsbD n.val = true → bufSt s b.val n.val = bsACTIVE → (busAt t b.val).cancelled = true)) ∧ SameBytes s t ∧ SamePoints s t)

/-- R248 to R255: a controller's states. Integration ends in error active or passive, or goes on recovering; a frame is counted when its packet
finds room and lost when it does not; an error is recorded, counts, and above 255 puts the bus off with its buffers; recovery, a protocol
exception and the listen-only switch follow their tables. -/
def Obligations.CanStatesFollowTheBus : Prop :=
  ∀ (s : State) (b : Fin 8), (∀ k, (busAt s b.val).active = some k → k < 16) →
    let online := fbSub s b.val = cbACTIVE ∨ fbSub s b.val = cbPASSIVE
    let rest := if passive s b.val then cbPASSIVE else cbACTIVE
    let page := R.PG_STATE (fbPage b.val)
    let idle := ∀ k : Fin 16, bufSt s b.val k.val ≠ bsPENDING
    (fbSub s b.val = cbINTEGRATING → ∃ t, exec (.canIntegrationComplete b) s = .next t ∧ fbSt t b.val = 2 ∧
      fbSub t b.val = (if (busAt s b.val).owesRecovery then cbRECOVERING else rest) ∧ (busAt t b.val).owesRecovery = false ∧
      SameRegs [page] s t ∧ SameBytes s t ∧ SamePoints s t) ∧
    (∀ x : CanFrame, ¬ online → exec (.canFrameReceived b x) s = .next s) ∧
    (∀ x : CanFrame, online → (x.fdf = true → flag s (R.FB_CTRL b.val) F.FB_CTRL_FDOE = true ∧ x.rtr = false) → (x.fdf = false → x.brs = false) →
      (busAt s b.val).recv = 0 → idle → fbRing s b.val = false →
      (∀ u, queueProd s (fld s (R.FB_RXQ b.val) F.FB_RXQ_QUEUE) = 0 →
        pushPacket s (fld s (R.FB_RXQ b.val) F.FB_RXQ_QUEUE) (framePacket b.val x false (busAt s b.val).lostB) = (u, false) →
        ∃ t, exec (.canFrameReceived b x) s = .next t ∧ rd t (R.FB_RXCNT b.val) = rd u (R.FB_RXCNT b.val) + 1 ∧ (busAt t b.val).lostB = false ∧
          SameRegs [R.FB_RXCNT b.val] u t ∧ SameBytes u t ∧ SamePoints u t) ∧
      (queueProd s (fld s (R.FB_RXQ b.val) F.FB_RXQ_QUEUE) ≠ 0 →
        ∃ t, exec (.canFrameReceived b x) s = .next t ∧ (busAt t b.val).lostB = true ∧ (rd t (R.PG_ISR (fbPage b.val))).getLsbD 6 = true ∧
          rd t (R.FB_RXCNT b.val) = rd s (R.FB_RXCNT b.val) ∧
          (rd t (R.FB_RXLOST b.val)).toNat = min 0xFFFFFFFF ((rd s (R.FB_RXLOST b.val)).toNat + 1))) ∧
    (∀ x : CanErr, online → (busAt s b.val).listen = false →
      ((busAt s b.val).active = none → x.count.val = 2 → tecOf s b.val < 128 → (busAt s b.val).recv < 120 → idle →
        ∃ t, exec (.canError b x) s = .next t ∧ fbSub t b.val = cbACTIVE ∧ (busAt t b.val).recv = (busAt s b.val).recv + 8 ∧
          tecOf t b.val = tecOf s b.val ∧ fld t (R.FB_LEC b.val) F.FB_LEC_CODE = x.code.val ∧
          (rd t (R.FB_ERRCNT b.val)).toNat = min 0xFFFFFFFF ((rd s (R.FB_ERRCNT b.val)).toNat + 1) ∧ SameBytes s t ∧ SamePoints s t) ∧
      (∀ n : Fin 16, (busAt s b.val).active = some n.val → (busAt s b.val).cancelled = false →
        flag s (R.FB_CTRL b.val) F.FB_CTRL_SSHOT = false → x.count.val ≠ 0 → 248 ≤ tecOf s b.val → tecOf s b.val ≤ 256 →
        ∃ t, exec (.canError b x) s = .next t ∧ fbSub t b.val = cbBUSOFF ∧ tecOf t b.val = 256 ∧ (busAt t b.val).active = none ∧
          bufSt t b.val n.val = bsBUSOFF ∧ (∀ k : Fin 16, bufSt s b.val k.val = bsPENDING → bufSt t b.val k.val = bsBUSOFF) ∧
          (rd t (R.PG_ISR (fbPage b.val))).getLsbD 4 = true ∧ SameBytes s t ∧ SamePoints s t)) ∧
    (∀ q : Requester, Reaches s q (fbPage b.val) 0x8C →
      (fbSub s b.val = cbBUSOFF → ∃ t, exec (.canRecover q b) s = .next t ∧ Accepted t ∧ fbSub t b.val = cbRECOVERING ∧ OnlyRegs [page] s t) ∧
      (fbSub s b.val ≠ cbBUSOFF → ∃ t, exec (.canRecover q b) s = .next t ∧ Rejected s t (fbPage b.val) 0x8C .notInState)) ∧
    (fbSub s b.val = cbRECOVERING → ∃ t, exec (.canRecoveryComplete b) s = .next t ∧ fbSub t b.val = cbACTIVE ∧ tecOf t b.val = 0 ∧
      (busAt t b.val).recv = 0 ∧ SameRegs [page, R.FB_ERRC b.val] s t ∧ SameBytes s t ∧ SamePoints s t) ∧
    (online → (busAt s b.val).active = none → flag s (R.FB_CTRL b.val) F.FB_CTRL_PXHD = false →
      ∃ t, exec (.canProtocolException b) s = .next t ∧ fbSub t b.val = cbEXCEPTION ∧ (rd t (R.PG_ISR (fbPage b.val))).getLsbD 7 = true ∧
        (rd t (R.FB_PXCNT b.val)).toNat = min 0xFFFFFFFF ((rd s (R.FB_PXCNT b.val)).toNat + 1) ∧ SameBytes s t ∧ SamePoints s t) ∧
    (fbSub s b.val = cbEXCEPTION → idle → ∃ t, exec (.canExceptionEnd b) s = .next t ∧ fbSub t b.val = rest ∧ OnlyRegs [page] s t) ∧
    (fbSt s b.val ≠ 0 → wantsListen s b.val ≠ (busAt s b.val).listen → ∃ t, exec (.canListenSwitch b) s = .next t ∧
      (busAt t b.val).listen = wantsListen s b.val ∧
      (wantsListen s b.val = true → (busAt t b.val).active = none ∧ (∀ k : Fin 16, bufSt s b.val k.val = bsPENDING → bufSt t b.val k.val = bsCANCELLED) ∧
        (∀ k : Fin 16, (busAt s b.val).active = some k.val → bufSt t b.val k.val = bsCANCELLED)) ∧ SameBytes s t ∧ SamePoints s t)

/-! ## Powered spurs and station services (09_spurs_powered_stations.md) -/

/-- R268, R270 to R273: the port states. Classification goes from the quiet check through detection and SCCP to power-up; each failure of the table
forces the port off with its cause, clears EN and counts; a cool-down and a discharge lead back; the PHY's link comes up with its mode and signal
quality and is counted when it is lost. -/
def Obligations.PortsFollowTheirStates : Prop :=
  ∀ (s : State) (p : Fin 16),
    let P := spuPage p.val
    let isr := fun (t : State) (n : Nat) => (rd t (R.PG_ISR P)).getLsbD n
    let same := fun (t : State) => SameBytes s t ∧ SamePoints s t
    let faulted := fun (t : State) (c : Nat) => portSt t p.val = poFAULT ∧ fld t (R.SPU_PSTAT p.val) F.SPU_PSTAT_CAUSE = c ∧
      flag t (R.PG_CTRL P) F.PG_EN = false ∧ pageSt t P = fsSTOPPING ∧ linkSt t p.val = lkDOWN ∧ isr t 1 = true ∧
      (rd t (R.SPU_FCNT p.val)).toNat = min 0xFFFFFFFF ((rd s (R.SPU_FCNT p.val)).toNat + 1) ∧ same t
    let go := (portAt s p.val).stopReq = false
    (inStep s p.val 0 = true → (go → ∃ t, exec (.quietCheckEnd p true) s = .next t ∧ inStep t p.val 1 = true ∧ SameRegs [] s t ∧ same t) ∧
      (∃ t, exec (.quietCheckEnd p false) s = .next t ∧ faulted t 6) ∧
      (¬ go → podl s p.val = true → ∃ t, exec (.quietCheckEnd p true) s = .next t ∧ portSt t p.val = poDISCHARGE ∧ pageSt t P = fsSTOPPING ∧ same t)) ∧
    (∀ v : Bool, inStep s p.val 1 = true → go → ∃ t, exec (.detectionResult p v) s = .next t ∧ inStep t p.val (if v then 2 else 3) = true ∧
      t = { s with ports := t.ports }) ∧
    (inStep s p.val 3 = true → ∃ t, exec (.detectionRetry p) s = .next t ∧ inStep t p.val 0 = true ∧ same t ∧
      SameRegs [R.SPU_PSTAT p.val, R.PG_STATE P] s t) ∧
    (inStep s p.val 2 = true →
      (∀ c : Fin 16, (classAdmitted s p.val c.val = true → go → ∃ t, exec (.sccpAttemptEnd p (some c)) s = .next t ∧ portSt t p.val = poPOWERUP ∧
          fld t (R.SPU_PSTAT p.val) F.SPU_PSTAT_CLASS = (c.val + 6) % 16 ∧ same t) ∧
        (classAdmitted s p.val c.val = false → ∃ t, exec (.sccpAttemptEnd p (some c)) s = .next t ∧ faulted t 5)) ∧
      (go → ∃ t, exec (.sccpAttemptEnd p none) s = .next t ∧ inStep t p.val (if (portAt s p.val).tries < 2 then 2 else 3) = true ∧ same t)) ∧
    (portSt s p.val = poPOWERUP → (∃ t, exec (.powerUpReached p) s = .next t ∧ portSt t p.val = poON ∧ pageSt t P = fsON ∧
        (pageSt s P = fsSTARTING → isr t 0 = true) ∧ rd t (R.SPU_PMR p.val) = rd s (R.SPU_PMRINIT p.val) ∧ same t) ∧
      (∃ t, exec (.powerUpTimeout p) s = .next t ∧ faulted t 3)) ∧
    (supervised s p.val = true → (∃ t, exec (.portOverload p) s = .next t ∧ faulted t 1) ∧ (∃ t, exec (.portShort p) s = .next t ∧ faulted t 2) ∧
      (∃ t, exec (.portDisconnect p) s = .next t ∧ portSt t p.val = poDISCHARGE ∧ fld t (R.SPU_PSTAT p.val) F.SPU_PSTAT_CAUSE = 7 ∧
        pageSt t P = pageSt s P ∧ isr t 2 = true ∧ same t)) ∧
    (supervised s p.val = false → exec (.portOverload p) s = .next s ∧ exec (.portShort p) s = .next s ∧ exec (.portDisconnect p) s = .next s) ∧
    (∀ (g : Fin 2) (v : BitVec 16), ∃ t, exec (.railUndervoltage g v) s = .next t ∧
      fld t R.SPG_RAILV (if g.val = 1 then F.SPG_RAILV_V1 else F.SPG_RAILV_V0) = v.toNat ∧ same t ∧
      (if v.toNat < fld s R.SPG_RAILUV (if g.val = 1 then F.SPG_RAILUV_UV1 else F.SPG_RAILUV_UV0) ∧ supervised s p.val = true ∧
          fld s (R.SPU_PCFG p.val) F.SPU_PCFG_RAIL = g.val
        then faulted t 4 else portSt t p.val = portSt s p.val)) ∧
    (portSt s p.val = poFAULT → ∃ t, exec (.coolDownEnd p) s = .next t ∧ portSt t p.val = poDISCHARGE ∧ same t) ∧
    (portSt s p.val = poDISCHARGE → flag s (R.PG_STATE P) F.PG_REARM = false →
      let want := if pageSt s P = fsON then poCLASSIFY else poOFF
      (∃ t, exec (.dischargeComplete p) s = .next t ∧ portSt t p.val = want ∧ (pageSt s P ≠ fsON → pageSt t P = fsOFF) ∧ same t) ∧
      (∃ t, exec (.dischargeLimit p) s = .next t ∧ portSt t p.val = want ∧ flag t (R.SPU_PSTAT p.val) F.SPU_PSTAT_DIS_SLOW = true ∧ same t)) ∧
    (∀ (full : Bool) (mse : Int), linkSt s p.val ≠ lkDOWN → linkSt s p.val ≠ lkUP → ∃ t, exec (.phyLinkUp p full mse) s = .next t ∧
      linkSt t p.val = lkUP ∧ fld t (R.SPU_LINK p.val) F.SPU_LINK_SQI = sqiOf mse ∧ isr t 3 = true ∧ same t ∧
      fld t (R.SPU_LINK p.val) F.SPU_LINK_MODE = (if fld s (R.SPU_PCFG p.val) F.SPU_PCFG_AMP = 0 then (if full then 2 else 1)
        else fld s (R.SPU_PCFG p.val) F.SPU_PCFG_AMP)) ∧
    (linkSt s p.val = lkUP → ∃ t, exec (.phyLinkDown p) s = .next t ∧
      linkSt t p.val = (if fld s (R.SPU_PCFG p.val) F.SPU_PCFG_AMP = 0 then 1 else 2) ∧ isr t 4 = true ∧
      (rd t (R.SPU_LCNT p.val)).toNat = min 0xFFFFFFFF ((rd s (R.SPU_LCNT p.val)).toNat + 1) ∧ same t)

/-- R276 to R282, R288, R290, R291, R293: station services. A tick's downlink frame goes out once to every station that is served; an uplink frame that
fails a check is counted with its cause and moves no point; a valid one gives its channels to their points; a drop-out, a start and a stop commit
the substitutes. -/
def Obligations.StationsExchangeFrames : Prop :=
  ∀ (s : State) (p : Fin 16),
    (∃ t, exec .downlinkFrameSend s = .next t ∧ SameBytes s t ∧ SamePoints s t ∧
      (svcSt s p.val = fsON → linkSt s p.val = lkUP → stnBarred s = false → s.paused = false → (stnAt s p.val).sent ≠ some (tickNow s) →
        (stnAt t p.val).sent = some (tickNow s) ∧ (stnAt t p.val).got = false ∧
        ((stnAt s p.val).peer = none → (stnAt t p.val).frame.take 15 = List.replicate 6 0xFF ++ spurMac s p.val ++
          beBytes 2 (fld s R.STN_ETYPE F.STN_ETYPE_ETYPE) ++ [0x11])) ∧
      (svcSt s p.val ≠ fsON ∨ linkSt s p.val ≠ lkUP → stnAt t p.val = stnAt s p.val)) ∧
    (∀ x : UplinkFrame,
      (linkSt s p.val ≠ lkUP ∨ s.paused = true → exec (.uplinkFrameReceived p x) s = .next s) ∧
      (linkSt s p.val = lkUP → s.paused = false → (stnAt s p.val).dropDue = false →
        let c := uplinkCause s p.val x
        (c ≠ 0 → ∃ t, exec (.uplinkFrameReceived p x) s = .next t ∧ fld t (R.SPU_SBAD p.val) F.SPU_SBAD_LAST = c ∧
          (rd t (R.PG_ISR (spuPage p.val))).getLsbD 8 = true ∧ flag t (R.SPU_SSTAT p.val) F.SPU_SSTAT_MISMATCH = (c == 3 || c == 4) ∧
          stnAt t p.val = stnAt s p.val ∧ SameBytes s t ∧ SamePoints s t) ∧
        (∀ ch : Channel, c = 0 → channels s p.val 0 = [ch] → mayWrite (spuFlask s p.val) (pointAt s ch.point) = true → forceOn s ch.point = none →
          ∃ t, exec (.uplinkFrameReceived p x) s = .next t ∧ rd t (R.SPU_SCNT p.val) = rd s (R.SPU_SCNT p.val) + 1 ∧
            rd t (R.SPU_SEPOCH p.val) = BitVec.ofNat 32 (upField x 4 4) ∧ (stnAt t p.val).got = true ∧
            (stnAt t p.val).peer = some ((x.bytes.drop 6).take 6) ∧
            pointAt t ch.point = { pointAt s ch.point with
              value := normalize (pointAt s ch.point).dtype (fieldValue ch.ty (rawField ch (x.bytes.drop 66)))
              quality := if (upField x 0x14 32).testBit ch.n then 5 else 0
              tstamp := x.first, source := stnSource s p.val, seq := (pointAt s ch.point).seq + 1 } ∧
            (∀ k, k ≠ ch.point → pointAt t k = pointAt s k) ∧ SameBytes s t))) ∧
    ((stnAt s p.val).dropDue = false → exec (.stationDrop p) s = .next s) ∧
    ((stnAt s p.val).dropDue = true → ∃ t, exec (.stationDrop p) s = .next t ∧ (stnAt t p.val).dropDue = false ∧ stnSt t p.val = stDROPPED ∧
      (rd t (R.SPU_SDROPS p.val)).toNat = min 0xFFFFFFFF ((rd s (R.SPU_SDROPS p.val)).toNat + 1) ∧
      (rd t (R.PG_ISR (spuPage p.val))).getLsbD 5 = true ∧ SameBytes s t) ∧
    (svcSt s p.val = fsSTARTING ∨ svcSt s p.val = fsSTOPPING → (stnAt s p.val).subs = false →
      ∃ t, exec (.stationSubstituteCommit p) s = .next t ∧ (stnAt t p.val).subs = true ∧ SameBytes s t ∧
        (∀ ch : Channel, channels s p.val 0 = [ch] → mayWrite (spuFlask s p.val) (pointAt s ch.point) = true → forceOn s ch.point = none →
          pointAt t ch.point = { pointAt s ch.point with
            value := normalize (pointAt s ch.point).dtype (fieldValue ch.ty (subRaw s p.val ch)), quality := 2
            tstamp := s.now, source := stnSource s p.val, seq := (pointAt s ch.point).seq + 1 } ∧
          (∀ k, k ≠ ch.point → pointAt t k = pointAt s k)))

/-! ## Host MACs and NRAP (10_host_nrap.md) -/

/-- R299 to R305: the host MACs. A frame is counted by its error or taken by its kind; the head of the lowest queue that holds a frame is sent; the PTP
FIFOs, the statistics and MDIO answer their commands; a link comes up and goes down with its events. -/
def Obligations.HostMacsCountAndCarryFrames : Prop :=
  ∀ (s : State) (m : Fin 6),
    let cnt := fun (t : State) (n : Nat) => rd t (R.HM_CNT m.val n)
    let isr := fun (t : State) (n : Nat) => (rd t (R.PG_ISR (hmPage m.val))).getLsbD n
    let same := fun (t : State) => SameBytes s t ∧ SamePoints s t
    (∀ x : HostFrame, pageSt s (hmPage m.val) ≠ 2 ∨ hmUp s m.val = false → exec (.hostFrameReceived m x) s = .next s) ∧
    (∀ x : HostFrame, pageSt s (hmPage m.val) = 2 → hmUp s m.val = true →
      let e := frameError x (fld s (R.HM_CFG m.val) F.HM_CFG_MAXLEN)
      (∀ n, e = some n → ∃ t, exec (.hostFrameReceived m x) s = .next t ∧ cnt t n = cnt s n + 1 ∧ (n = 16 → isr t 3 = true) ∧ same t ∧
        hostAt t m.val = hostAt s m.val) ∧
      (e = none → isPause x.bytes = false → x.overflow = true → ∃ t, exec (.hostFrameReceived m x) s = .next t ∧ cnt t 20 = cnt s 20 + 1 ∧ same t ∧
        hostAt t m.val = hostAt s m.val) ∧
      (e = none → isPause x.bytes = false → x.overflow = false →
        (hostAccepts s m.val x.bytes = none → ∃ t, exec (.hostFrameReceived m x) s = .next t ∧ cnt t 21 = cnt s 21 + 1 ∧ same t ∧
          hostAt t m.val = hostAt s m.val) ∧
        (∀ k, hostAccepts s m.val x.bytes = some k → ∃ t, exec (.hostFrameReceived m x) s = .next t ∧ cnt t 1 = cnt s 1 + 1 ∧
          cnt t 0 = cnt s 0 + BitVec.ofNat 32 (x.bytes.length + 4) ∧ same t ∧
          (∀ d, k = .nrap d → (hostAt t m.val).inbox = (hostAt s m.val).inbox ++ [d] ∧ cnt t 23 = cnt s 23 + 1) ∧
          (∀ mac ip, k = .arp mac ip true → (hmQueue s m.val 1).length < 64 →
            hmQueue t m.val 1 = hmQueue s m.val 1 ++ [{ kind := 0, mac := mac, ip := ip, port := 0, data := [] }])))) ∧
    (∀ (q : Fin 4) (f : TxFrame) (r : List TxFrame) (stamp : Nat), pageSt s (hmPage m.val) = 2 → hmUp s m.val = true →
      (hostAt s m.val).pause ≤ s.now → (∀ k, k < q.val → hmQueue s m.val k = []) → hmQueue s m.val q.val = f :: r →
      (∃ t, exec (.hostFrameTransmit m stamp false) s = .next t ∧ hmQueue t m.val q.val = r ∧ (hostAt t m.val).sent = some f ∧ cnt t 27 = cnt s 27 + 1 ∧
        cnt t 26 = cnt s 26 + BitVec.ofNat 32 (txLength s m.val f) ∧ same t) ∧
      (∃ t, exec (.hostFrameTransmit m stamp true) s = .next t ∧ hmQueue t m.val q.val = r ∧ (hostAt t m.val).sent = (hostAt s m.val).sent ∧
        cnt t 37 = cnt s 37 + 1 ∧ same t)) ∧
    (∀ q : Requester, Reaches s q (hmPage m.val) 0x8C → ∃ t, exec (.ptpFifoPop q m true) s = .next t ∧ Accepted t ∧
      (hostAt t m.val).tx = (hostAt s m.val).tx.drop 1 ∧ t = { s with hosts := t.hosts, answer := t.answer }) ∧
    (∀ q : Requester, Reaches s q (hmPage m.val) 0x7C → ∃ t, exec (.ptpFifoPop q m false) s = .next t ∧ Accepted t ∧
      (hostAt t m.val).rx = (hostAt s m.val).rx.drop 1 ∧ t = { s with hosts := t.hosts, answer := t.answer }) ∧
    (∀ q : Requester, Reaches s q (hmPage m.val) 0xC8 →
      (∃ t, exec (.macCounterClear q m 1) s = .next t ∧ Accepted t ∧ (∀ n : Fin 40, cnt t n.val = 0) ∧ rd t (R.HM_CNTHALF0 m.val) = 0 ∧
        rd t (R.HM_CNTHALF1 m.val) = 0 ∧ OnlyRegs (R.HM_CNTHALF0 m.val :: R.HM_CNTHALF1 m.val :: (upTo 40).map (R.HM_CNT m.val)) s t) ∧
      (∀ v : Word, bits v 31 1 ≠ 0 → ∃ t, exec (.macCounterClear q m v) s = .next t ∧ Rejected s t (hmPage m.val) 0xC8 .reservedBits)) ∧
    (∀ (q : Requester) (v : Word), Reaches s q (hmPage m.val) 0x60 → bits v 29 26 = 0 →
      (flag s (R.HM_MDIO m.val) F.HM_MDIO_BUSY = false → ∃ t, exec (.mdioAccess q m v) s = .next t ∧ Accepted t ∧
        rd t (R.HM_MDIO m.val) = withBits v 31 31 1 ∧ OnlyRegs [R.HM_MDIO m.val] s t) ∧
      (flag s (R.HM_MDIO m.val) F.HM_MDIO_BUSY = true → ∃ t, exec (.mdioAccess q m v) s = .next t ∧ Rejected s t (hmPage m.val) 0x60 .busy)) ∧
    (∀ d : BitVec 16, flag s (R.HM_MDIO m.val) F.HM_MDIO_BUSY = true → ∃ t, exec (.mdioComplete m d) s = .next t ∧
      flag t (R.HM_MDIO m.val) F.HM_MDIO_BUSY = false ∧ OnlyRegs [R.HM_MDIO m.val] s t ∧
      fld t (R.HM_MDIO m.val) F.HM_MDIO_DATA = (if flag s (R.HM_MDIO m.val) F.HM_MDIO_WRITE then fld s (R.HM_MDIO m.val) F.HM_MDIO_DATA else d.toNat)) ∧
    (∀ sp : Fin 4, let k := if fld s (R.HM_CFG m.val) F.HM_CFG_SPEED = 0 then sp.val else fld s (R.HM_CFG m.val) F.HM_CFG_SPEED
      k ≠ 0 → ∃ t, exec (.hostLinkUp m sp) s = .next t ∧ hmUp t m.val = true ∧ fld t (R.HM_LINK m.val) F.HM_LINK_SPEED = k % 4 ∧
        (hmUp s m.val = false → isr t 0 = true) ∧ same t) ∧
    (hmUp s m.val = true → pageSt s (hmPage m.val) ≠ 3 → ∃ t, exec (.hostLinkDown m) s = .next t ∧ hmUp t m.val = false ∧ isr t 1 = true ∧
      hostAt t m.val = hostAt s m.val ∧ same t)

/-- R306, R310 to R313, R316, R318, R319: NRAP. The front end takes the oldest datagram: it counts a misframed one, refuses one without a binding, and
places an authenticated request in sequence on the work queue. An execution answers HELLO on queue 1, and moves the bytes of STG_WR and STG_RD
within the flask's area; a notification goes out for the subscriptions that are due. -/
def Obligations.NrapServesItsRequests : Prop :=
  ∀ s : State,
    (∀ m : Fin 6, (hostAt s m.val).inbox = [] → exec (.nrapRequest m) s = .next s) ∧
    (∀ (m : Fin 6) (d : Datagram) (rest : List Datagram), (hostAt s m.val).inbox = d :: rest →
      let hit := (upTo 64).find? (fun n => bindOn s n && bindPort s n == m.val && bindSlot s n == (d.data.getD 4 0).toNat)
      (wellFramed d.data = false → ∃ t, exec (.nrapRequest m) s = .next t ∧ (hostAt t m.val).inbox = rest ∧
        rd t (R.HM_CNT m.val 21) = rd s (R.HM_CNT m.val 21) + 1 ∧ t.nrap = s.nrap ∧ SameBytes s t ∧ SamePoints s t) ∧
      (wellFramed d.data = true → d.data.length ≤ maxOp s m.val + 32 → hit = none → ∃ t, exec (.nrapRequest m) s = .next t ∧
        (hostAt t m.val).inbox = rest ∧ (rd t R.NRP_CAUTH).toNat = min 0xFFFFFFFF ((rd s R.NRP_CAUTH).toNat + 1) ∧ (rd t (R.PG_ISR 0x80)).getLsbD 2 = true ∧
        t.nrap.work = s.nrap.work ∧ SameBytes s t ∧ SamePoints s t) ∧
      (∀ (b : Nat) (area : List Byte), wellFramed d.data = true → d.data.length ≤ maxOp s m.val + 32 → hit = some b → bindServes s b = .none →
        flag s (R.NRP_BIND b) F.NRP_BIND_GCM_REQ = false → nrapOpen s (d.data.getD 4 0).toNat d.data = some area → servesNrap s = true → s.paused = false →
        s.nrap.work.length < 256 → flag s R.NRP_SATST F.NRP_SATST_SAT = false → (reqOf m.val b d area).hello = false →
        leNat (sliceD 0 d.data 8 4) = (rd s R.NRP_BOOT).toNat →
        tget (fun _ => 0) s.nrap.lastSeq (portSlot m.val (d.data.getD 4 0).toNat) < (reqOf m.val b d area).seq.toNat →
        ∃ t, exec (.nrapRequest m) s = .next t ∧ (hostAt t m.val).inbox = rest ∧ t.nrap.work = s.nrap.work ++ [reqOf m.val b d area] ∧
          tget (fun _ => 0) t.nrap.lastSeq (portSlot m.val (d.data.getD 4 0).toNat) = (reqOf m.val b d area).seq.toNat ∧ SameBytes s t ∧ SamePoints s t)) ∧
    (s.paused = true → exec .nrapExecute s = .next s) ∧
    (∀ r : NrapReq, s.paused = false → nextRequest s.nrap.work = some r → nrapOps 64 r.area = some [{ code := 1, args := [] }] →
      20 ≤ maxOp s r.port → s.boot.due = none → r.flags.testBit 3 = false → pageSt s (hmPage r.port) = 2 → (hmQueue s r.port 1).length < 64 →
      ∃ t, exec .nrapExecute s = .next t ∧ t.nrap.work = s.nrap.work.erase r ∧
        (∃ h : List Byte, h.length = 20 ∧ h.take 12 = [1, 0, 16, 0] ++ leBytes 4 (rd s R.NRP_BOOT).toNat ++
            leBytes 4 (tget (fun _ => 0) s.nrap.lastSeq (portSlot r.port r.slot)) ∧
          hmQueue t r.port 1 = hmQueue s r.port 1 ++
            [⟨2, r.mac, r.ip, r.udp, nrapSeal s (respFlags r.flags) r.slot 0 r.seq 1 h⟩]) ∧ SameBytes s t ∧ SamePoints s t) ∧
    (∀ (r : NrapReq) (off : Word) (d : List Byte), let f := flaskOf s (.nrap (Fin.ofNat 64 r.binding))
      d.length % 4 = 0 → d.length < 2 ^ 32 → areaSize s f ≠ 0 → (onStandby s = false ∨ f = 0) → inArea s f off.toNat d.length = true →
      let args := leBytes 4 off.toNat ++ leBytes 4 d.length
      (nrapOp s r { code := 10, args := args }).code = .none ∧
      (nrapOp s r { code := 10, args := args }).result = bytesAt s (areaBase s f + off.toNat) d.length ∧
      (nrapOp s r { code := 9, args := args ++ d }).code = .none ∧
      bytesAt (nrapOp s r { code := 9, args := args ++ d }).s (areaBase s f + off.toNat) d.length = d ∧
      SamePoints s (nrapOp s r { code := 9, args := args ++ d }).s) ∧
    (∀ (b : Fin 64) (d : NrapDest), tget (fun _ => none) s.nrap.dests b.val = some d → s.paused = false → bindOn s b.val = true → servesNrap s = true →
      (s.nrap.subs.filter (subDue s b.val) = [] → exec (.nrapNotify b) s = .next s) ∧
      (∀ x : NrapSub, s.nrap.subs.filter (subDue s b.val) = [x] → ∃ t, exec (.nrapNotify b) s = .next t ∧
        tget (fun _ => 0) t.nrap.notes b.val = tget (fun _ => 0) s.nrap.notes b.val + 1 ∧
        t.nrap.subs = s.nrap.subs.map (fun y => if y = x then { y with seq := (pointAt s x.point).seq, at_ := some s.now } else y) ∧
        (pageSt s (hmPage (bindPort s b.val)) = 2 → (hmQueue s (bindPort s b.val) 3).length < 64 →
          (hmQueue t (bindPort s b.val) 3).length = (hmQueue s (bindPort s b.val) 3).length + 1) ∧ SameBytes s t ∧ SamePoints s t))

/-! ## The twin pair (11_twin_pair.md) -/

/-- R327, R331 to R336, R351: heartbeats, slots and roles. A heartbeat sent shows the module's role, epoch and time; a valid one received is kept, a
lower epoch's active is marked for demotion, and one that is not valid is ignored; four silent slots make a home standby decide and raise its
epoch; the decision, the role keeper and the demotion change the role and the mode. -/
def Obligations.TwinRolesFollowTheHeartbeats : Prop :=
  ∀ s : State,
    let isr := fun (t : State) (n : Nat) => (rd t (R.PG_ISR 0x88)).getLsbD n
    let same := fun (t : State) => SameBytes s t ∧ SamePoints s t ∧ t.moulds = s.moulds
    (paired s = false → exec .heartbeatSend s = .next s) ∧
    (paired s = true → (roleOf s ≠ rlNONE ∨ linkUp s = true) → ∃ t h, exec .heartbeatSend s = .next t ∧ t.twin.sent = some h ∧
      h.role = BitVec.ofNat 8 (roleOf s) ∧ h.mode = BitVec.ofNat 8 (modeNow s) ∧ h.home = isHome s ∧ h.epoch = rd s R.TWN_EPOCH ∧ h.tb = t.now ∧
      h.grid = BitVec.ofNat 16 (gridNow s) ∧ t.twin.sentGrid = gridNow s ∧ t = { s with now := t.now, twin := t.twin }) ∧
    (∀ (x : Heartbeat) (a : DWord) (roleIn : Bool),
      let valid := x.grid.toNat = gridNow s % 65536 ∧ gridTime s ≤ a.toNat ∧ a.toNat < gridTime s + 5000
      (paired s = false ∨ linkUp s = false → exec (.heartbeatReceived x a roleIn) s = .next s) ∧
      (paired s = true → linkUp s = true → ¬ valid → ∃ t, exec (.heartbeatReceived x a roleIn) s = .next t ∧ t.twin = s.twin ∧
        flag t R.TWN_STAT F.TWN_STAT_ROLE_IN = roleIn ∧ SameRegs [R.TWN_STAT] s t ∧ same t) ∧
      (paired s = true → linkUp s = true → valid → ∃ t, exec (.heartbeatReceived x a roleIn) s = .next t ∧ t.twin.hb = some x ∧
        rd t R.TWN_PEPOCH = x.epoch ∧ fld t R.TWN_STAT F.TWN_STAT_PROLE = x.role.toNat % 8 ∧ flag t R.TWN_STAT F.TWN_STAT_LINK = true ∧ same t ∧
        (roleOf s = rlRESOLVING → x.role = 2 → s.twin.decided = none → roleOf t = rlSTANDBY) ∧
        (roleOf s = rlACTIVE → x.role = 2 → rd s R.TWN_EPOCH < x.epoch → t.twin.demote = true))) ∧
    (∀ roleIn : Bool,
      (paired s = false → exec (.slotCheck roleIn) s = .next s) ∧
      (paired s = true → let silent := (match s.twin.hbNow with | some h => h.role != 2 | none => true)
        ∃ t, exec (.slotCheck roleIn) s = .next t ∧ t.twin.slots = ((silent, s.twin.hbNow.isSome) :: s.twin.slots).take 4 ∧ t.twin.hbNow = none ∧
          fld t R.TWN_STAT F.TWN_STAT_SILENT = (if silent then min 255 (fld s R.TWN_STAT F.TWN_STAT_SILENT + 1) else 0) ∧ same t)) ∧
    (let n := nextEpoch (rd s R.TWN_EPOCH).toNat (rd s R.TWN_PEPOCH).toNat s.twin.maxSeen (isHome s);
      paired s = true → roleOf s = rlSTANDBY → isHome s = true → flag s R.TWN_CFG F.TWN_CFG_TKO_EN = true → s.twin.decided = none →
      s.twin.hbNow = none → 3 ≤ s.twin.slots.length → (∀ y ∈ s.twin.slots.take 3, y.1 = true) → n < 2 ^ 32 →
      ∃ t, exec (.slotCheck false) s = .next t ∧ t.twin.decided.isSome = true ∧ rd t R.TWN_EPOCH = BitVec.ofNat 32 n ∧ t.twin.raised = true ∧
        t.twin.epochNvr = BitVec.ofNat 32 n ∧ roleOf t = rlSTANDBY ∧ same t) ∧
    (s.twin.decided = none → exec .enterActiveRole s = .next s) ∧
    (∀ reason silent, s.twin.decided = some (reason, silent) → reason < 256 → silent < 256 → ∃ t, exec .enterActiveRole s = .next t ∧
      roleOf t = rlACTIVE ∧ modeNow t = (if (match s.twin.hb with | some h => h.mode == 6 | none => false) then mdSAFE else mdACTIVE) ∧
      syncOf t = syUNSYNCED ∧ t.twin.decided = none ∧ flag t R.TWN_TKO F.TWN_TKO_VALID = true ∧ fld t R.TWN_TKO F.TWN_TKO_REASON = reason ∧
      fld t R.TWN_TKO F.TWN_TKO_SILENT = silent ∧ (roleOf s = rlSTANDBY → flag t R.TWN_STAT F.TWN_STAT_TAKEOVER = true ∧ isr t 1 = true) ∧
      flag t R.TWN_STAT F.TWN_STAT_ROLE_OUT = paired s ∧ same t) ∧
    (paired s = true → roleOf s = rlACTIVE → s.twin.sent = none → ∃ t, exec .roleKeeperExpiry s = .next t ∧ roleOf t = rlSTANDBY ∧
      t.twin.demote = true ∧ flag t R.TWN_STAT F.TWN_STAT_ROLE_OUT = false ∧ isr t 0 = true ∧ modeNow t = modeNow s ∧ same t) ∧
    (roleOf s ≠ rlACTIVE → exec .roleKeeperExpiry s = .next s) ∧
    (s.twin.demote = false → exec .demotion s = .next s) ∧
    (s.twin.demote = true → ∃ t, exec .demotion s = .next t ∧ roleOf t = rlSTANDBY ∧ modeNow t = mdSTANDBY ∧ syncOf t = syUNSYNCED ∧
      t.twin.demote = false ∧ flag t R.TWN_STAT F.TWN_STAT_DEMOTED = true ∧ isr t 2 = true ∧ same t)

/-- R328, R338, R347 to R354: the commands of TWN_CMD, the planned handover, the link and the Forecast. -/
def Obligations.HandoversLinkAndForecast : Prop :=
  ∀ s : State,
    let isr := fun (t : State) (page n : Nat) => (rd t (R.PG_ISR page)).getLsbD n
    let same := fun (t : State) => SameBytes s t ∧ SamePoints s t ∧ t.moulds = s.moulds
    (∀ q : Requester, Reaches s q 0x88 0x54 →
      ((roleOf s = rlACTIVE ∨ roleOf s = rlSTANDBY) → linkUp s = true → standbyReady s = true → ∃ t, exec (.handover q) s = .next t ∧ Accepted t ∧
        t = { s with twin := { s.twin with hoReq := true }, answer := t.answer }) ∧
      (linkUp s = false ∨ standbyReady s = false → ∃ t, exec (.handover q) s = .next t ∧ Rejected s t 0x88 0x54 .notInState) ∧
      (s.twin.hoReq = false → s.twin.hoTick = none → ∃ t, exec (.cancelHo q) s = .next t ∧ Rejected s t 0x88 0x54 .sequence) ∧
      (∀ k, s.twin.hoTick = some k → k * 100000 ≤ s.now.toNat + 100000 → ∃ t, exec (.cancelHo q) s = .next t ∧ Rejected s t 0x88 0x54 .busy) ∧
      (∀ k, s.twin.hoTick = some k → s.now.toNat + 100000 < k * 100000 → ∃ t, exec (.cancelHo q) s = .next t ∧ Accepted t ∧
        t.twin.hoReq = false ∧ t.twin.hoTick = none ∧ flag t R.TWN_STAT F.TWN_STAT_HO_PEND = false ∧ SameRegs [R.TWN_STAT] s t ∧ same t) ∧
      (∃ t, exec (.rearmRev q) s = .next t ∧ Accepted t ∧ flag t R.TWN_STAT F.TWN_STAT_REV_SUSP = false ∧ t.twin.returns = [] ∧
        SameRegs [R.TWN_STAT] s t ∧ same t) ∧
      (∃ t, exec (.clrTko q) s = .next t ∧ Accepted t ∧ flag t R.TWN_STAT F.TWN_STAT_TAKEOVER = false ∧ OnlyRegs [R.TWN_STAT] s t) ∧
      (roleOf s = rlSTANDBY → ∃ t, exec (.resync q) s = .next t ∧ Accepted t ∧ syncOf t = syUNSYNCED ∧ t.twin.queue = [] ∧ roleOf t = rlSTANDBY ∧ same t) ∧
      (roleOf s ≠ rlSTANDBY → ∃ t, exec (.resync q) s = .next t ∧ Rejected s t 0x88 0x54 .notInState)) ∧
    (∀ k, s.twin.hoTick = some k →
      (s.nextTick < k → exec .handoverSwitch s = .next s) ∧
      (k ≤ s.nextTick → roleOf s = rlACTIVE → ∃ t, exec .handoverSwitch s = .next t ∧ roleOf t = rlSTANDBY ∧ modeNow t = mdSTANDBY ∧
        syncOf t = sySYNCED ∧ t.twin.hoTick = none ∧ same t) ∧
      (k ≤ s.nextTick → roleOf s = rlSTANDBY → (raiseEpoch s).2 = true → ∃ t, exec .handoverSwitch s = .next t ∧ roleOf t = rlACTIVE ∧
        syncOf t = syUNSYNCED ∧ rd t R.TWN_EPOCH = rd (raiseEpoch s).1 R.TWN_EPOCH ∧ t.twin.hoTick = none ∧ same t)) ∧
    (s.twin.hoTick = none → exec .handoverSwitch s = .next s) ∧
    (revertDue s = none → exec .revertiveRequest s = .next s) ∧
    (∀ d, revertDue s = some d → s.twin.sweeps ≠ 0 → s.twin.hoReq = false → ∃ t, exec .revertiveRequest s = .next t ∧
      t = { s with now := t.now, twin := { s.twin with hoReq := true, hoRev := true } }) ∧
    (∀ received : Bool, ∃ t, exec (.linkPacketRetry received) s = .next t ∧
      (let k := if received then R.TLM_CRC else R.TLM_RETRY
       (rd t k).toNat = min 0xFFFFFFFF ((rd s k).toNat + 1) ∧ OnlyRegs [k] s t)) ∧
    (∀ lanes : BitVec 2, paired s = true → pageSt s 0x7E = 2 →
      let n := lanes.toNat &&& (fld s R.TLM_CFG F.TLM_CFG_LANE0 + 2 * fld s R.TLM_CFG F.TLM_CFG_LANE1);
      n ≠ 0 → ∃ t, exec (.claisLinkUp lanes) s = .next t ∧ linkUp t = true ∧ fld t R.TLM_STAT F.TLM_STAT_LANES = n ∧
        (linkUp s = false → isr t 0x7E 1 = true) ∧ t.twin = s.twin ∧ same t) ∧
    (∃ t, exec .claisLinkDown s = .next t ∧ linkUp t = false ∧ fld t R.TLM_STAT F.TLM_STAT_LANES = 0 ∧ t.twin.hoTick = none ∧ t.twin.bulking = false ∧
      (roleOf s = rlSTANDBY → syncOf t = syUNSYNCED) ∧ same t) ∧
    (∃ t, exec .forecastPublish s = .next t ∧ rd t (R.FCS_OWN 0) = BitVec.ofNat 32 (roleOf s * 2 ^ 24 + 0x014346) ∧
      rd t (R.FCS_OWN 1) = BitVec.ofNat 32 (s.twin.fcSeq + 1) ∧ rd t (R.FCS_OWN 2) = t.now.setWidth 32 ∧ rd t (R.FCS_OWN 4) = rd s R.TWN_EPOCH ∧
      rd t (R.FCS_OWN 6) = BitVec.ofNat 32 (forecastFlags s) ∧ t.twin.fcSeq = s.twin.fcSeq + 1 ∧ isr t 0x8A 0 = true ∧ same t) ∧
    (∀ b : List Byte, (b.length ≠ 256 ∨ linkUp s = false → exec (.forecastReceived b) s = .next s) ∧
      (b.length = 256 → linkUp s = true → ∃ t, exec (.forecastReceived b) s = .next t ∧ same t ∧ t.twin = s.twin ∧
        (∀ n : Fin 64, rd t (R.FCS_PART n.val) = BitVec.ofNat 32 (leNat ((b.drop (4 * n.val)).take 4))))) ∧
    (∀ x : SweepResult, ∃ t, exec (.selfTestSweepEnd x) s = .next t ∧ t.twin.sweeps = s.twin.sweeps + 1 ∧ t.twin.sweepAt = s.now ∧ t.twin.flagsNow = 0 ∧
      (flag s R.FCS_CFG F.FCS_CFG_KAT_EN = true → t.twin.katFail = min 0xFFFFFFFF (s.twin.katFail + x.katFail)) ∧
      (flag s R.FCS_CFG F.FCS_CFG_BIST_EN = true → roleOf s ≠ rlACTIVE → x.bistFail &&& 0x7FFFF ≠ 0 → t.twin.flagsLast.getLsbD 3 = true) ∧ same t)

/-- R339 to R342, R347: mirroring. A cut takes what fits of the items in their order, leaves the others for the next frame, keeps within 196,608 bytes
and shows the frame's length; the standby applies, queues or drops what arrives by SYNC, falls to UNSYNCED on a lost frame, and returns to SYNCED
through BULK and CATCHUP. -/
def Obligations.MirrorFramesCarryEverything : Prop :=
  ∀ s : State,
    (pairActive s = false → exec .mirrorFrameCut s = .next s) ∧
    (mirrors s = true → s.twin.stopped = false → ∃ t f, exec .mirrorFrameCut s = .next t ∧ t.twin.frame = some f ∧ f.epoch = rd s R.TWN_EPOCH ∧
      f.tick = BitVec.ofNat 64 (s.nextTick - 1) ∧ (∀ n : Fin 512, f.loops[n.val]? = some (loopStates s n.val)) ∧
      f.xch ++ t.twin.xch = s.twin.xch ∧ f.config ++ t.twin.config = s.twin.config ∧ f.force ++ t.twin.force = s.twin.force ∧
      f.runs ++ t.twin.runs = s.twin.runs ∧ f.grans ++ t.twin.grans = s.twin.grans.filter (fun g => (rd s R.MIR_FLASKS).getLsbD g.flask) ∧
      (rd t R.MIR_LAST).toNat ≤ 196608 ∧ (f.carry = 0 → rd t R.MIR_BACKLOG = 0) ∧ SameBytes s t ∧ SamePoints s t) ∧
    (pairActive s = true → (mirrors s = false ∨ s.twin.stopped = true) → ∃ t, exec .mirrorFrameCut s = .next t ∧ t.twin.xch = [] ∧ t.twin.config = [] ∧
      t.twin.force = [] ∧ t.twin.runs = [] ∧ t.twin.grans = [] ∧ t.twin.frame = s.twin.frame ∧ SameRegs [] s t ∧ SameBytes s t ∧ SamePoints s t) ∧
    (∀ x : StreamRec,
      (receives s = false ∨ syncOf s = syUNSYNCED → exec (.pointStreamReceived x) s = .next s) ∧
      (receives s = true → syncOf s = sySYNCED → forceOn s x.point.toNat = none → (pointAt s x.point.toNat).alloc = true →
        ∃ t, exec (.pointStreamReceived x) s = .next t ∧ pointAt t x.point.toNat = { pointAt s x.point.toNat with
            value := x.value, quality := x.quality, tstamp := x.tstamp, seq := x.seq, source := sourceOf 9 0 } ∧
          (∀ k, k ≠ x.point.toNat → pointAt t k = pointAt s k) ∧ t = { s with points := t.points }) ∧
      (receives s = true → (syncOf s = syBULK ∨ syncOf s = syCATCHUP) → exec (.pointStreamReceived x) s =
        .next { s with twin := { s.twin with queue := s.twin.queue ++ [.stream x] } })) ∧
    (∀ x : MirrorFrame,
      (receives s = false ∨ syncOf s = syUNSYNCED → exec (.mirrorFrameReceived x) s = .next s) ∧
      (receives s = true → (syncOf s = syBULK ∨ syncOf s = syCATCHUP) → exec (.mirrorFrameReceived x) s =
        .next { s with twin := { s.twin with queue := s.twin.queue ++ [.frame x] } }) ∧
      (∀ k, receives s = true → syncOf s = sySYNCED → s.twin.lastTick = some k → x.tick ≠ k + 1 → ∃ t, exec (.mirrorFrameReceived x) s = .next t ∧
        syncOf t = syUNSYNCED ∧ t.twin.lastTick = none ∧ SameBytes s t ∧ SamePoints s t) ∧
      (∀ k, receives s = true → syncOf s = sySYNCED → s.twin.lastTick = some k → x.tick = k + 1 → x.carry = 0 → x.xch = [] → x.config = [] →
        x.force = [] → x.energy = [] → x.evSeq = none → x.runs = [] → x.grans = [] → ∃ t, exec (.mirrorFrameReceived x) s = .next t ∧
          t.twin.lastTick = some x.tick ∧ syncOf t = sySYNCED ∧ rd t R.MIR_BACKLOG = 0 ∧ SameRegs [R.MIR_BACKLOG] s t ∧ SameBytes s t ∧ SamePoints s t ∧
          (∀ (n : Fin 512) (l : List DWord), x.loops[n.val]? = some l → (loopAt t n.val).mirrored = l))) ∧
    (mirrors s = true → ∃ t, exec .bulkStart s = .next t ∧ t = { s with twin := { s.twin with bulking := true, stopped := false } }) ∧
    (receives s = true → syncOf s = syUNSYNCED → ∃ t, exec .bulkStart s = .next t ∧ syncOf t = syBULK ∧ t.twin.queue = [] ∧
      SameRegs [R.TWN_STAT] s t ∧ SameBytes s t ∧ SamePoints s t) ∧
    (∀ x : BulkImage,
      (x.flask = none → pairActive s = true → exec (.bulkComplete x) s = .next { s with twin := { s.twin with bulking := false } }) ∧
      (x.flask = none → receives s = true → syncOf s = syBULK → (x.points.map (·.point)).Nodup → ∃ t, exec (.bulkComplete x) s = .next t ∧
        syncOf t = syCATCHUP ∧ rd t R.MIR_RESYNC = 0 ∧ (∀ p ∈ x.points, pointAt t p.point.toNat = wordsPoint p.words)) ∧
      (∀ f : Fin 32, x.flask = some f → receives s = true → (rd s R.MIR_RESYNC).getLsbD f.val = true → ∃ t, exec (.bulkComplete x) s = .next t ∧
        (rd t R.MIR_RESYNC).getLsbD f.val = false ∧ (∀ g, g ≠ f.val → mouldOf t g = mouldOf s g ∧ nvrOf t g = nvrOf s g) ∧ SamePoints s t)) ∧
    (receives s = true → syncOf s = syCATCHUP → s.twin.queue = [] → ∃ t, exec .catchupComplete s = .next t ∧ syncOf t = sySYNCED ∧
      t.twin.syncAt = s.now ∧ SameBytes s t ∧ SamePoints s t)

/-! ## Fabric and locks (12_fabric_and_locks.md) -/

/-- R359 to R363, R365 to R367, R369, R370, R372 to R374: arbitration and locks. A request on an idle fabric takes it and steps the LFSR; between two
requests at a bank the lower class wins, and in one class the ticket that the LFSR draws; a response frees its tag; the debug port cuts the transfer
in progress; seeds load the LFSRs. A free lock above the owner's highest is taken, a held one answers BUSY and a lower one RANK; release, expiry and
LCK_FREE free it. -/
def Obligations.ArbitersDrawAndLocksHold : Prop :=
  ∀ s : State,
    let isr := fun (t : State) (n : Nat) => (rd t (R.PG_ISR 0x0A)).getLsbD n
    let idleFabric := s.fabric.current = none ∧ s.fabric.cut = none ∧ s.fabric.waiting = []
    (∀ r : FabricReq, idleFabric → s.fabric.debug = none → contends s r.id.val = true → ∃ t, exec (.fabricRequest none 0 [r]) s = .next t ∧
      t.fabric.current = some { id := r.id.val, beats := r.beats.val + 1 } ∧ t.fabric.waiting = [] ∧
      lfsrAt t 0 = lfsrStep (lfsrAt s 0) ∧ rd t R.ARBF_LFSR = BitVec.ofNat 32 (lfsrStep (lfsrAt s 0)) ∧ outOf t r.id.val = outOf s r.id.val + 1 ∧
      rd t (R.ARBF_GRANT r.id.val) = rd s (R.ARBF_GRANT r.id.val) + 1 ∧ SameRegs [R.ARBF_LFSR, R.ARBF_GRANT r.id.val, R.ARBF_OUT] s t ∧
      SameBytes s t ∧ SamePoints s t) ∧
    (∀ (b : Fin 56) (x y : FabricReq), x.id.val < y.id.val → tget (fun _ => []) s.fabric.bankWait b.val = [] →
      let a := 1 + b.val
      let l := lfsrStep (lfsrAt s a)
      let tx := arbTickets s a x.id.val
      let ty := arbTickets s a y.id.val
      ∃ t, exec (.fabricRequest (some b) 0 [x, y]) s = .next t ∧ lfsrAt t a = l ∧ SameRegs [] s t ∧ SameBytes s t ∧ SamePoints s t ∧
        (arbClass s a x.id.val < arbClass s a y.id.val → tget (fun _ => []) t.fabric.bankWait b.val = [y.id.val]) ∧
        (arbClass s a y.id.val < arbClass s a x.id.val → tget (fun _ => []) t.fabric.bankWait b.val = [x.id.val]) ∧
        (arbClass s a x.id.val = arbClass s a y.id.val → 0 < tx + ty →
          tget (fun _ => []) t.fabric.bankWait b.val = [if l * (tx + ty) / 65536 < tx then y.id.val else x.id.val])) ∧
    (∀ id : Fin 27, (outOf s id.val = 0 → exec (.fabricResponse 0 id) s = .next s) ∧
      (outOf s id.val ≠ 0 → ∃ t, exec (.fabricResponse 0 id) s = .next t ∧ outOf t id.val = outOf s id.val - 1 ∧ outTotal t = outTotal s - 1 ∧
        (∀ k, k ≠ id.val → outOf t k = outOf s k) ∧ SameRegs [R.ARBF_OUT] s t ∧ SameBytes s t ∧ SamePoints s t)) ∧
    (∀ (n : Fin 8) (x : Transfer), flag s R.DBG_STAT F.DBG_STAT_SESSION = true → s.fabric.current = some x → x.id ≠ 26 → 2 ≤ x.beats →
      s.fabric.cool ≤ 1 → outOf s 26 < outLimit s 26 → outTotal s < 128 → ∃ t, exec (.debugSquall 0 n) s = .next t ∧
        t.fabric.current = some { id := 26, beats := n.val + 1 } ∧ t.fabric.cut = some { x with beats := x.beats - 1 } ∧ t.fabric.debug = none ∧
        (rd t R.ARBF_SQUALL).toNat = min 0xFFFFFFFF ((rd s R.ARBF_SQUALL).toNat + 1) ∧ SameBytes s t ∧ SamePoints s t) ∧
    (∀ n : Fin 8, flag s R.DBG_STAT F.DBG_STAT_SESSION = false → exec (.debugSquall 0 n) s = .next { s with answer := { busError := true } }) ∧
    (∀ (b : Fin 16) (cuts : Bool), ∃ t, exec (.dramRefresh b cuts) s = .next t ∧ lfsrAt t (41 + b.val) = lfsrStep (lfsrAt s (41 + b.val)) ∧
      (rd t R.ARBM_REFPRE).toNat = min 0xFFFFFFFF ((rd s R.ARBM_REFPRE).toNat + (if cuts then 1 else 0)) ∧ SameRegs [R.ARBM_REFPRE] s t ∧
      SameBytes s t ∧ SamePoints s t) ∧
    (∀ (q : Requester) (bank : Bool) (v : Word), let page := if bank then 0x09 else 0x08
      Reaches s q page 0x40 →
      (v = 0 → ∃ t, exec (.arbiterSeedWrite q bank v) s = .next t ∧ Rejected s t page 0x40 .illegalValue) ∧
      (v ≠ 0 → v.toNat < 65536 → ∃ t, exec (.arbiterSeedWrite q bank v) s = .next t ∧ Accepted t ∧
        (bank = false → lfsrAt t 0 = v.toNat ∧ rd t R.ARBF_SEED = v) ∧
        (bank = true → rd t R.ARBM_SEED = v ∧ ∀ b : Fin 56, lfsrAt t (1 + b.val) = bankSeed v.toNat b.val) ∧
        SameRegs [R.ARBF_SEED, R.ARBM_SEED] s t ∧ SameBytes s t ∧ SamePoints s t)) ∧
    (∀ (o : LockOwner) (n : Fin 64), o.req ≠ 22 → ReachesWindow s (if o.req = 26 then .debug else .mgmt 0) →
      let req := o.req.val
      let ctx := ownerCtx o
      ((∀ m, highestLock s req ctx = some m → m < n.val) → lockHeld s n.val = false → ∃ t, exec (.lockAcquire o n) s = .next t ∧
        lockOwnedBy t n.val req ctx = true ∧ (rd t (R.LCK_HELD (n.val / 32))).getLsbD (n.val % 32) = true ∧
        flag t (R.LCK_STAT n.val) F.LCK_STAT_BROKEN = false ∧
        t.answer.words = [BitVec.ofNat 32 (2 ^ 31 + codeNum (if flag s (R.LCK_STAT n.val) F.LCK_STAT_BROKEN then .broken else .none) * 256 + n.val)] ∧
        SameRegs [R.LCK_STAT n.val, R.LCK_HELD (n.val / 32)] s t ∧ SameBytes s t ∧ SamePoints s t) ∧
      ((∀ m, highestLock s req ctx = some m → m < n.val) → lockHeld s n.val = true → exec (.lockAcquire o n) s =
        .next { s with answer := { words := [BitVec.ofNat 32 (codeNum .busy * 256 + n.val)] } }) ∧
      (∀ m, highestLock s req ctx = some m → n.val ≤ m → ∃ t, exec (.lockAcquire o n) s = .next t ∧ isr t 2 = true ∧
        t.answer.words = [BitVec.ofNat 32 (codeNum .rank * 256 + n.val)] ∧ (∀ k : Fin 64, rd t (R.LCK_STAT k.val) = rd s (R.LCK_STAT k.val))) ∧
      (lockOwnedBy s n.val req ctx = true → ∃ t, exec (.lockRelease o n 1) s = .next t ∧ Accepted t ∧ lockHeld t n.val = false ∧
        flag t (R.LCK_STAT n.val) F.LCK_STAT_BROKEN = false ∧ SameRegs [R.LCK_STAT n.val, R.LCK_HELD (n.val / 32)] s t ∧ SameBytes s t ∧ SamePoints s t) ∧
      (lockOwnedBy s n.val req ctx = false → ∃ t, exec (.lockRelease o n 1) s = .next t ∧ Rejected s t 0x0A (0x100 + 4 * n.val) .sequence)) ∧
    (∀ n : Fin 64, let x := tget (fun _ => {}) s.lockTimers n.val
      (lockHeld s n.val = false ∨ x.holdUs = 0 → exec (.lockHoldExpiry n) s = .next s) ∧
      (lockHeld s n.val = true → x.holdUs ≠ 0 → ∃ t, exec (.lockHoldExpiry n) s = .next t ∧ lockHeld t n.val = false ∧
        flag t (R.LCK_STAT n.val) F.LCK_STAT_BROKEN = true ∧ flag t (R.LCK_STAT n.val) F.LCK_STAT_EXPIRED = true ∧ isr t 0 = true ∧
        SameBytes s t ∧ SamePoints s t)) ∧
    (∀ (q : Requester) (n : Fin 64), Reaches s q 0x0A 0x40 →
      (lockHeld s n.val = true → ∃ t, exec (.lockFree q (BitVec.ofNat 32 n.val)) s = .next t ∧ Accepted t ∧ lockHeld t n.val = false ∧
        flag t (R.LCK_STAT n.val) F.LCK_STAT_BROKEN = true ∧ SameRegs [R.LCK_STAT n.val, R.LCK_HELD (n.val / 32)] s t ∧ SameBytes s t ∧ SamePoints s t) ∧
      (lockHeld s n.val = false → exec (.lockFree q (BitVec.ofNat 32 n.val)) s = .next { s with answer := { code := .none } }))

/-! ## Ladle and Tundish (13_ladle_and_tundish.md) -/

/-- R379, R381 to R387, R389 to R391, R395, R396: the DMA channels and the queues. A fetched descriptor goes to its move, a wait or FAULT; a
transaction copies its bytes and moves no other; the write-back gives the descriptor back and goes on to the next or ends; a bus error, RESUME and
ABORT, and the lite channels' commands follow their tables; an item pushed alone into an empty queue is the one popped. -/
def Obligations.ChannelsMoveAndQueuesDeliver : Prop :=
  ∀ s : State,
    (∀ c : Fin 16, let page := ldPage c.val
      let a := (rd s (R.LDLB_CUR c.val)).toNat
      let j := descriptorAt s a
      (subOf s page ≠ lsFETCH → exec (.descriptorFetch c) s = .next s) ∧
      (subOf s page = lsFETCH → descriptorCode s (pageOwner s page) a ≠ .none → ∃ t, exec (.descriptorFetch c) s = .next t ∧ subOf t page = lsFAULT ∧
        rd t (R.LDLB_FADDR c.val) = rd s (R.LDLB_CUR c.val) ∧ fld t (R.LDLB_FINFO c.val) F.LDLB_FINFO_CAUSE = 2 ∧
        fld t (R.LDLB_FINFO c.val) F.LDLB_FINFO_CODE = codeNum (descriptorCode s (pageOwner s page) a) ∧ (rd t (R.PG_ISR page)).getLsbD 1 = true ∧
        SameBytes s t ∧ SamePoints s t) ∧
      (subOf s page = lsFETCH → descriptorCode s (pageOwner s page) a = .none → decodeError s a 32 false = false →
        (bit j.ctrl 31 = true → jobCheck s c.val j (descriptorRsv s a) = .none → ∃ t, exec (.descriptorFetch c) s = .next t ∧ subOf t page = lsMOVE ∧
          (ladleAt t c.val).job = some j ∧ (ladleAt t c.val).done = 0 ∧ rd t (R.LDLB_DONE c.val) = 0 ∧ SameBytes s t ∧ SamePoints s t) ∧
        (bit j.ctrl 31 = false → (ladleAt s c.val).kicked = false → pageSt s page ≠ 3 → ∃ t, exec (.descriptorFetch c) s = .next t ∧
          subOf t page = lsWAIT ∧ (rd t (R.PG_ISR page)).getLsbD 2 = true ∧ SameBytes s t ∧ SamePoints s t)) ∧
      (∀ q : Requester, Reaches s q page 0x4C → ∃ t, exec (.ladleKick q c) s = .next t ∧ Accepted t ∧ SameRegs [R.PG_STATE page] s t ∧
        (subOf s page = lsWAIT → subOf t page = lsFETCH) ∧ (subOf s page ≠ lsWAIT → (ladleAt t c.val).kicked = true ∧ subOf t page = subOf s page) ∧
        SameBytes s t ∧ SamePoints s t) ∧
      (∀ k : LadleJob, subOf s page = lsWRITEBACK → (ladleAt s c.val).job = some k → (ladleAt s c.val).wbSteps = 0 → 0x20000 ≤ k.addr → k.next < 2 ^ 32 →
        ∃ t, exec (.descriptorWriteBack c) s = .next t ∧ loadN t k.addr 4 = k.ctrl.toNat % 2 ^ 31 ∧
          loadN t (k.addr + 0x14) 4 = ((ladleAt s c.val).result * 2 ^ 28 + (ladleAt s c.val).done % 2 ^ 24) % 2 ^ 32 ∧
          rd t (R.LDLB_COUNT c.val) = rd s (R.LDLB_COUNT c.val) + 1 ∧
          (∀ b, b < k.addr ∨ k.addr + 0x20 ≤ b → byteAt t b = byteAt s b) ∧ SamePoints s t ∧
          (k.next ≠ 0 → pageSt s page ≠ 3 → subOf t page = lsFETCH ∧ (rd t (R.LDLB_CUR c.val)).toNat = k.next) ∧
          (k.next = 0 → flag s (R.PG_STATE page) F.PG_REARM = false → pageSt t page = 0 ∧ (rd t (R.PG_ISR page)).getLsbD 3 = true ∧
            (pageSt s page ≠ 3 → flag t (R.PG_CTRL page) F.PG_EN = false)))) ∧
    (∀ (ch : Fin 64) (n : Fin 257) (j : LadleJob), let x := ladleAt s ch.val
      let k := min (j.len - x.done) (max 1 n.val)
      x.job = some j → moving s ch.val = true → jobSrcQ j = false → jobDstQ j = false → x.ended = false → x.done < j.len →
      inWindow j.src = false → inWindow j.dst = false → inWindow (j.src + x.done) = false → inWindow (j.dst + x.done) = false →
      rangeCode s (ladleFlask s ch.val) (j.src + x.done) k false = .none → rangeCode s (ladleFlask s ch.val) (j.dst + x.done) k true = .none →
      decodeError s (j.src + x.done) k false = false → decodeError s (j.dst + x.done) k true = false → 0x20000 ≤ j.dst + x.done →
      ∃ t, exec (.ladleTransaction ch n) s = .next t ∧ bytesAt t (j.dst + x.done) k = bytesAt s (j.src + x.done) k ∧
        (∀ a, a < j.dst + x.done ∨ j.dst + x.done + k ≤ a → byteAt t a = byteAt s a) ∧ (ladleAt t ch.val).done = x.done + k ∧ SamePoints s t) ∧
    (∀ (ch : Fin 64) (j : LadleJob) (u : State) (w : Word) (sop eop : Bool), let x := ladleAt s ch.val
      let b := j.dst + x.done
      x.job = some j → moving s ch.val = true → jobSrcQ j = true → jobDstQ j = false → x.ended = false → x.done < j.len →
      mayQueue s (j.src % 64) (ladleFlask s ch.val) = true → queueRing s (j.src % 64) = false → takeItem s (j.src % 64) = (u, some (w, sop, eop)) →
      rangeCode u (ladleFlask s ch.val) b 4 true = .none → inWindow b = false → decodeError u b 4 true = false → 0x20000 ≤ b →
      ∃ t, exec (.ladleQueuePop ch) s = .next t ∧ loadN t b 4 = w.toNat ∧ (ladleAt t ch.val).done = x.done + 4 ∧ (ladleAt t ch.val).ended = eop ∧
        (∀ a, a < b ∨ b + 4 ≤ a → byteAt t a = byteAt u a) ∧ SamePoints u t) ∧
    (∀ (ch : Fin 64) (write : Bool) (wb : Fin 4) (j : LadleJob), (ladleAt s ch.val).job = some j → let at_ := (if write then j.dst else j.src) + (ladleAt s ch.val).done
      (ch.val < 16 → subOf s (ldPage ch.val) = lsMOVE → ∃ t, exec (.ladleBusError ch write wb) s = .next t ∧ subOf t (ldPage ch.val) = lsFAULT ∧
        rd t (R.LDLB_FADDR ch.val) = BitVec.ofNat 32 at_ ∧ flag t (R.LDLB_FINFO ch.val) F.LDLB_FINFO_DIR = write ∧
        fld t (R.LDLB_FINFO ch.val) F.LDLB_FINFO_CAUSE = 1 ∧ (rd t (R.PG_ISR (ldPage ch.val))).getLsbD 1 = true ∧ SameBytes s t ∧ SamePoints s t) ∧
      (16 ≤ ch.val → liteFault s (ch.val - 16) = false → ∃ t, exec (.ladleBusError ch write wb) s = .next t ∧ liteFault t (ch.val - 16) = true ∧
        rd t (R.LDLL_FADDR ((ch.val - 16) / 8) ((ch.val - 16) % 8)) = BitVec.ofNat 32 at_ ∧ SameBytes s t ∧ SamePoints s t)) ∧
    (∀ (q : Requester) (c : Fin 16), Reaches s q (ldPage c.val) 0x50 → let ch : Fin 64 := Fin.ofNat 64 c.val
      (subOf s (ldPage c.val) ≠ lsFAULT → ∃ t, exec (.ladleResume q ch) s = .next t ∧ Rejected s t (ldPage c.val) 0x50 .sequence) ∧
      (subOf s (ldPage c.val) = lsFAULT → fld s (R.LDLB_FINFO c.val) F.LDLB_FINFO_CAUSE = 1 → ∃ t, exec (.ladleResume q ch) s = .next t ∧ Accepted t ∧
        subOf t (ldPage c.val) = (ladleAt s c.val).was % 2 ^ (F.PG_SUBSTATE.hi + 1 - F.PG_SUBSTATE.lo) ∧ OnlyRegs [R.PG_STATE (ldPage c.val), R.LDL_FAULT 0] s t) ∧
      (abortLegal s = false → ∃ t, exec (.ladleAbort q ch) s = .next t ∧ Rejected s t (ldPage c.val) 0x50 .notInState) ∧
      (abortLegal s = true → ∃ t, exec (.ladleAbort q ch) s = .next t ∧ Accepted t ∧ pageSt t (ldPage c.val) = 0 ∧ subOf t (ldPage c.val) = lsIDLE ∧
        flag t (R.PG_CTRL (ldPage c.val)) F.PG_EN = false ∧ (ladleAt t c.val).job = none ∧ SamePoints s t)) ∧
    (∀ (q : Requester) (k : Fin 48), Reaches s q (0x21 + k.val / 8) (0x50 + 0x20 * (k.val % 8)) → let ch : Fin 64 := Fin.ofNat 64 (16 + k.val)
      (liteSt s k.val ≠ 2 → ∃ t, exec (.liteGo q k) s = .next t ∧ Rejected s t (0x21 + k.val / 8) (0x50 + 0x20 * (k.val % 8)) .notInState) ∧
      (liteSt s k.val = 2 → liteFault s k.val = false → (ladleAt s (16 + k.val)).job = none → jobCheck s (16 + k.val) (liteJob s k.val) false = .none →
        ∃ t, exec (.liteGo q k) s = .next t ∧ Accepted t ∧ (ladleAt t (16 + k.val)).job = some (liteJob s k.val) ∧
          t = { s with ladle := t.ladle, answer := t.answer }) ∧
      (liteSt s k.val = 2 → (ladleAt s (16 + k.val)).job.isSome = true → flag s (R.lSTAT k.val) F.LDLL_STAT_PEND = false →
        ∃ t, exec (.liteGo q k) s = .next t ∧ Accepted t ∧ flag t (R.lSTAT k.val) F.LDLL_STAT_PEND = true ∧ OnlyRegs [R.lSTAT k.val] s t) ∧
      (liteFault s k.val = false → ∃ t, exec (.ladleResume q ch) s = .next t ∧
        Rejected s t (0x21 + k.val / 8) (0x50 + 0x20 * (k.val % 8)) .sequence) ∧
      (liteFault s k.val = true → (ladleAt s (16 + k.val)).job.isSome = true → ∃ t, exec (.ladleResume q ch) s = .next t ∧ Accepted t ∧
        liteFault t k.val = false ∧ ladleAt t (16 + k.val) = ladleAt s (16 + k.val) ∧ SameBytes s t ∧ SamePoints s t) ∧
      (abortLegal s = true → ∃ t, exec (.ladleAbort q ch) s = .next t ∧ Accepted t ∧ liteSt t k.val = 0 ∧ (ladleAt t (16 + k.val)).job = none ∧
        flag t (R.lCTRL k.val) F.LDLL_CTRL_EN = false ∧ SamePoints s t)) ∧
    (∀ (k : Fin 48) (j : LadleJob), (ladleAt s (16 + k.val)).job = some j → j.len ≤ (ladleAt s (16 + k.val)).done → liteFault s k.val = false →
      flag s (R.lSTAT k.val) F.LDLL_STAT_PEND = false → fld s (R.lCTRL k.val) F.LDLL_CTRL_TRIG ≠ 3 → fld s (R.lCTRL k.val) F.LDLL_CTRL_TRIG ≠ 4 →
      flag s (R.lCTRL k.val) F.LDLL_CTRL_NQEN = false → liteSt s k.val = 2 → ∃ t, exec (.liteTransferComplete k) s = .next t ∧
        (ladleAt t (16 + k.val)).job = none ∧ rd t (R.lCOUNT k.val) = rd s (R.lCOUNT k.val) + 1 ∧ liteSt t k.val = 2 ∧ SameBytes s t ∧ SamePoints s t) ∧
    (∀ (q : Requester) (n : Fin 64), let page := 0x28 + n.val / 16
      let off := fun (o : Nat) => o + 0x40 * (n.val % 16)
      let empty := (queueAt s n.val).filled ≤ queueRd s n.val ∧ queueWr s n.val = 0
      let whole := queueRd s n.val + (queueAt s n.val).rdC = 0xFFFF ∧ queueWr s n.val + (queueAt s n.val).wrC = 0xFFFF
      (∀ v : Word, Reaches s q page (off 0x124) → Reaches s q page (off 0x128) → mayQueue s n.val (flaskOf s q) = true → queueOn s n.val = true →
        queueProd s n.val = 0 → canProducer s n.val = none → whole → empty → (queueAt s n.val).opened = none →
        ∃ t u, exec (.queuePush q n 3 v) s = .next t ∧ t.answer.denied = false ∧ SamePoints s t ∧
          exec (.queuePop q n) t = .next u ∧ u.answer.words = [v] ∧ SamePoints s u) ∧
      (Reaches s q page (off 0x124) → mayQueue s n.val (flaskOf s q) = false → canProducer s n.val = none → ∀ v : Word,
        ∃ t, exec (.queuePush q n 3 v) s = .next t ∧ t.answer.denied = true ∧ (rd t (R.qDENY n.val)).toNat = min 0xFFFFFFFF ((rd s (R.qDENY n.val)).toNat + 1) ∧
          SameRegs [R.qDENY n.val] s t ∧ SameBytes s t ∧ SamePoints s t) ∧
      (Reaches s q page (off 0x128) → mayQueue s n.val (flaskOf s q) = true → queueRing s n.val = false → whole → empty →
        ∃ t, exec (.queuePop q n) s = .next t ∧ t.answer.words = [rd s (R.qIDLE n.val)] ∧ SameRegs [] s t ∧ SameBytes s t ∧ SamePoints s t) ∧
      (Reaches s q page (off 0x114) →
        (queueOn s n.val = false → (∃ t, exec (.flush q n) s = .next t ∧ Rejected s t page (off 0x114) .notInState) ∧
          (∃ t, exec (.skipPkt q n) s = .next t ∧ Rejected s t page (off 0x114) .notInState)) ∧
        (queueOn s n.val = true → (∃ t, exec (.flush q n) s = .next t ∧ Accepted t ∧ (queueAt t n.val).filled = 0 ∧ (queueAt t n.val).opened = none ∧
            queueRd t n.val = 0 ∧ queueWr t n.val = 0 ∧ SameBytes s t ∧ SamePoints s t) ∧
          (whole → ∃ t, exec (.skipPkt q n) s = .next t ∧ Accepted t ∧ (queueAt t n.val).inside = false ∧ SameBytes s t ∧ SamePoints s t))))

/-! ## The Crucible, tamper and debug (14_crucible.md) -/

/-- R401 to R408, R410, R411, R413 to R423, R428 to R431: keys, crypto jobs, tamper events and debug sessions. A command of CRU_CMD that passes R417 is
taken, with CRU_KEYIN cleared, and one that does not is answered with the code of its first failing check; at its completion a create command puts
its key under its parent's GEN, and WRAP writes its blob. DESTROY, PURGE and KILL empty slots. The twelve jobs of R422 run on the registers and end
with their outputs, tags and verdicts. A tamper event of an enabled source is latched once, and one that responds seals or empties volatile slots. A
debug session is opened, closed, reset and locked as R413 to R415. That DESTROY, PURGE and KILL act at the write, and the CTR block's count, are the
model's (assumption 41). -/
def Obligations.KeysJobsTamperAndDebug : Prop :=
  ∀ s : State,
    let isr := fun (t : State) (page n : Nat) => (rd t (R.PG_ISR page)).getLsbD n
    let same := fun (t : State) => SameBytes s t ∧ SamePoints s t
    let keyin := (upTo 8).map R.CRU_KEYIN
    (∀ q : Requester, Reaches s q 0x90 0x64 → flag s R.CRU_RESULT F.CRU_RESULT_BUSY = false → s.paused = false →
      ∀ p ∈ [(1, Instr.cruGenerate q), (2, .cruDerive q), (3, .cruUnwrap q), (4, .cruWrap q), (5, .cruLoad q), (6, .cruDestroy q), (7, .cruPurge q),
             (8, .cruKill q)],
        let j : CruJob := ⟨p.1, fld s R.CRU_SLOT F.CRU_SLOT_TARGET, fld s R.CRU_SLOT F.CRU_SLOT_AUX, rd s R.CRU_ATTR, (rd s R.CRU_ADDR).toNat,
          regBytes s R.CRU_LABEL 4, regBytes s R.CRU_KEYIN 8⟩
        (cruCheck s j ≠ .none → ∃ t, exec p.2 s = .next t ∧ t.answer = { code := cruCheck s j } ∧ t.slots = s.slots ∧ t.crypto = s.crypto ∧
          t.otp = s.otp ∧ (∀ n : Fin 8, rd t (R.CRU_KEYIN n.val) = 0) ∧ fld t R.CRU_RESULT F.CRU_RESULT_CODE = codeNum (cruCheck s j) ∧ same t) ∧
        (cruCheck s j = .none → s.crypto.cry = none → ∃ t, exec p.2 s = .next t ∧ Accepted t ∧ t.crypto.cru = some j ∧
          rd t R.CRU_RESULT = BitVec.ofNat 32 (0x80000000 + p.1 * 256) ∧ (∀ n : Fin 8, rd t (R.CRU_KEYIN n.val) = 0) ∧ same t ∧
          (p.1 ≤ 5 → SameRegs (R.CRU_RESULT :: keyin) s t ∧ t.slots = s.slots ∧ t.otp = s.otp) ∧
          (p.1 = 6 → attrValid (slotAt t j.target).attr = false ∧ t.otp = s.otp) ∧
          (p.1 = 7 → attrParent (slotAt s 0).attr = 0 → t.otp = s.otp ∧ ∀ n : Fin 256, (keyLive s n.val = true → slotAt t n.val = slotAt s n.val) ∧
            (keyLive s n.val = false → attrValid (slotAt t n.val).attr = false)) ∧
          (p.1 = 8 → t.otp.killed = true ∧ flag t R.CRU_STAT F.CRU_STAT_SEALED = true ∧ fld t R.CRU_STAT F.CRU_STAT_ROOT_STATE = 3 ∧
            t.crypto.store = [] ∧ ∀ n : Fin 256, attrValid (slotAt t n.val).attr = false))) ∧
    (∀ e : Bool, s.crypto.cru = none → exec (.cruCommandComplete e) s = .next s) ∧
    (∀ j : CruJob, s.crypto.cru = some j →
      let ended := fun (t : State) (c : Code) => t.crypto.cru = none ∧ flag t R.CRU_RESULT F.CRU_RESULT_BUSY = false ∧
        fld t R.CRU_RESULT F.CRU_RESULT_CODE = codeNum c ∧ isr t 0x90 0 = true ∧ SamePoints s t
      (j.op = 1 → ∃ t, exec (.cruCommandComplete false) s = .next t ∧ ended t .busy ∧ t.slots = s.slots ∧ SameBytes s t) ∧
      (∀ u m, j.op ∈ [1, 2, 3, 5] → newMaterial s j = (u, some m) → s.crypto.cry = none → (slotAt s j.target).gen ≠ 0xFFFF →
        ∃ t, exec (.cruCommandComplete true) s = .next t ∧ ended t .none ∧ SameBytes s t ∧ (slotAt t j.target).material = m ∧
          (slotAt t j.target).attr = newAttr s j.attr ∧ (slotAt t j.target).pgen = (slotAt s (attrParent j.attr)).gen ∧
          (slotAt t j.target).gen = (slotAt s j.target).gen + 1 ∧ ∀ n, n ≠ j.target → slotAt t n = slotAt s n) ∧
      (∀ u, j.op ∈ [2, 3, 5] → newMaterial s j = (u, none) → ∃ t, exec (.cruCommandComplete true) s = .next t ∧ ended t .auth ∧ t.slots = s.slots ∧
        SameBytes s t) ∧
      (let k := slotAt s j.target
       let b := kwWrap (aesKeyOf (slotAt s j.aux)) (blobHead k.attr ++ k.material)
       j.op = 4 → 0x20000 ≤ j.addr → ∃ t, exec (.cruCommandComplete true) s = .next t ∧ ended t .none ∧ t.slots = s.slots ∧
        bytesAt t j.addr b.length = b ∧ ∀ a, a < j.addr ∨ j.addr + b.length ≤ a → byteAt t a = byteAt s a) ∧
      (6 ≤ j.op → ∃ t, exec (.cruCommandComplete true) s = .next t ∧ ended t .none ∧ t.slots = s.slots ∧ SameBytes s t)) ∧
    (∃ t, exec .remask s = .next t ∧ t = { s with slots := t.slots, drawn := t.drawn } ∧ ∀ n : Fin 256, let x := slotAt s n.val
      (attrValid x.attr = false → slotAt t n.val = x) ∧
      (attrValid x.attr = true → ∃ r : List Byte, r.length = x.material.length ∧ slotAt t n.val = { x with share := xorBytes x.share r })) ∧
    (∀ (q : Requester) (slot : BitVec 8), Reaches s q 0x91 0x74 → flag s R.CRY_STAT F.CRY_STAT_BUSY = false → s.paused = false →
      ∀ p ∈ [(1, Instr.cryGcmEnc q slot), (2, .cryGcmDec q slot), (3, .cryCtrEnc q slot), (4, .cryCtrDec q slot), (5, .cryCmacGen q slot),
             (6, .cryCmacVer q slot), (7, .cryHmacGen q slot), (8, .cryHmacVer q slot), (9, .cryEcdsaSign q slot), (10, .cryEcdsaPub q slot),
             (11, .cryEcdsaVer q slot), (12, .crySha256 q slot)],
        let j : CryJob := ⟨p.1, slot.toNat, (rd s R.CRY_SRC).toNat, (rd s R.CRY_DST).toNat, (rd s R.CRY_LEN).toNat, (rd s R.CRY_AUX).toNat,
          (rd s R.CRY_AUXLEN).toNat, regBytes s R.CRY_IV 3, regBytes s R.CRY_TAG 4⟩
        (cryCheck s j = .none → ∃ t, exec p.2 s = .next t ∧ Accepted t ∧ t.crypto = { s.crypto with cry := some j } ∧ rd t R.CRY_STAT = 0x80000000 ∧
          rd t R.CRY_JOB = BitVec.ofNat 32 (slot.toNat * 256 + p.1) ∧ SameRegs [R.CRY_JOB, R.CRY_STAT] s t ∧ t.slots = s.slots ∧ same t) ∧
        (cryCheck s j ≠ .none → ∃ t, exec p.2 s = .next t ∧ t.answer = { code := cryCheck s j } ∧ t.crypto = s.crypto ∧ t.slots = s.slots ∧ same t)) ∧
    (s.crypto.cry = none → exec .cryJobComplete s = .next s) ∧
    (∀ j : CryJob, s.crypto.cry = some j → 0x20000 ≤ j.dst →
      let k := slotAt s j.slot
      let key := aesKeyOf k
      let data := bytesAt s j.src j.len
      let aad := bytesAt s j.aux j.auxLen
      let ended := fun (t : State) (c : Code) (pass : Bool) (n : Nat) => t.crypto.cry = none ∧
        rd t R.CRY_STAT = BitVec.ofNat 32 ((if pass then 256 else 0) + codeNum c) ∧ isr t 0x91 0 = true ∧ isr t 0x91 1 = (isr s 0x91 1 || c != .none) ∧
        t.slots = s.slots ∧ SamePoints s t ∧ ∀ a, a < j.dst ∨ j.dst + n ≤ a → byteAt t a = byteAt s a
      let tag := fun (t : State) (b : List Byte) => regBytes t R.CRY_TAG 4 = sliceD 0 b 0 16
      let verdict := fun (ok : Bool) => ∃ t, exec .cryJobComplete s = .next t ∧ ended t (if ok then .none else .auth) ok 0
      let gives := fun (b : List Byte) (t : State) => ended t .none false b.length ∧ bytesAt t j.dst b.length = b
      (j.op = 1 → ∃ t, exec .cryJobComplete s = .next t ∧ gives (gcmSeal key j.iv aad data).1 t ∧ tag t (gcmSeal key j.iv aad data).2) ∧
      (∀ b, j.op = 2 → gcmOpen key j.iv aad data j.tag = some b → ∃ t, exec .cryJobComplete s = .next t ∧ ended t .none true b.length ∧
        bytesAt t j.dst b.length = b) ∧
      (j.op = 2 → gcmOpen key j.iv aad data j.tag = none → ∃ t, exec .cryJobComplete s = .next t ∧ ended t .auth false j.len ∧
        bytesAt t j.dst j.len = List.replicate j.len 0) ∧
      (j.op = 3 ∨ j.op = 4 → ∃ t, exec .cryJobComplete s = .next t ∧ gives (ctrCrypt key (j.iv ++ j.tag.take 4) data) t) ∧
      (j.op = 5 → ∃ t, exec .cryJobComplete s = .next t ∧ ended t .none false 0 ∧ tag t (aesCmac key data)) ∧
      (j.op = 6 → verdict (aesCmac key data == j.tag)) ∧
      (j.op = 7 → ∃ t, exec .cryJobComplete s = .next t ∧ gives (hmac256 k.material data) t ∧ tag t ((hmac256 k.material data).take 16)) ∧
      (j.op = 8 → verdict (hmac256 k.material data == bytesAt s j.aux 32)) ∧
      (j.op = 9 → ∃ t c, exec .cryJobComplete s = .next t ∧ c.length = 40 ∧
        gives (ecdsaSign (beNat k.material) (beNat (ecKeyOf c)) (sha256 data)) t) ∧
      (j.op = 10 → ∃ t, exec .cryJobComplete s = .next t ∧ gives (ecPublic (beNat k.material)) t) ∧
      (j.op = 11 → verdict (ecdsaVerify ((bytesAt s j.aux 128).take 64) (sha256 data) ((bytesAt s j.aux 128).drop 64))) ∧
      (j.op = 12 → ∃ t, exec .cryJobComplete s = .next t ∧ gives (sha256 data) t)) ∧
    (∀ n : Fin 6,
      (tamperEnabled s n.val = false → exec (.tamperEvent n) s = .next s) ∧
      (tamperEnabled s n.val = true → ∃ t, exec (.tamperEvent n) s = .next t ∧ flag t R.TMP_LATCH F.TMP_LATCH_VALID = true ∧
        (rd t R.TMP_LATCH).getLsbD n.val = true ∧ isr t 0x05 0 = true ∧ SamePoints s t ∧
        (flag s R.TMP_LATCH F.TMP_LATCH_VALID = true → flag t R.TMP_LATCH F.TMP_LATCH_OVF = true ∧ rd t R.TMP_CTX = rd s R.TMP_CTX ∧
          fld t R.TMP_LATCH F.TMP_LATCH_FIRST = fld s R.TMP_LATCH F.TMP_LATCH_FIRST ∧ ∀ i : Fin 2, rd t (R.TMP_TS i.val) = rd s (R.TMP_TS i.val)) ∧
        (flag s R.TMP_LATCH F.TMP_LATCH_VALID = false → fld t R.TMP_LATCH F.TMP_LATCH_FIRST = 2 ^ n.val ∧
          rd t R.TMP_CTX = BitVec.ofNat 32 (tamperCase s)) ∧
        (tamperResponds s n.val = false → t.slots = s.slots ∧ t.crypto = s.crypto ∧ SameBytes s t) ∧
        (tamperResponds s n.val = true →
          (tamperCase s = 1 → t.slots = [] ∧ flag t R.CRU_STAT F.CRU_STAT_SEALED = true) ∧
          (tamperCase s ≠ 1 → tamperCase s ≠ 5 → ∀ i : Fin 256, volatileSlot s i.val = true → attrValid (slotAt t i.val).attr = false) ∧
          (tamperCase s = 5 → t.slots = s.slots ∧ t.crypto.store = s.crypto.store ∧
            t.crypto.erasePend = (s.crypto.erasePend || flag s R.TMP_CFG F.TMP_CFG_ERASE)) ∧
          (tamperCase s ≠ 5 → flag s R.TMP_CFG F.TMP_CFG_ERASE = true → t.crypto.store = [] ∧
            ∀ i : Fin 256, i.val ≠ 0 → attrPersist (slotAt s i.val).attr = true → attrValid (slotAt t i.val).attr = false)))) ∧
    (∀ q : Requester, Reaches s q 0x05 0x44 → ∃ t, exec (.tamperLatchClear q) s = .next t ∧ Accepted t ∧ rd t R.TMP_LATCH = 0 ∧ rd t R.TMP_CTX = 0 ∧
      rd t (R.TMP_TS 0) = 0 ∧ rd t (R.TMP_TS 1) = 0 ∧ OnlyRegs [R.TMP_LATCH, R.TMP_CTX, R.TMP_TS 0, R.TMP_TS 1] s t) ∧
    (∀ q : Requester, Reaches s q 0xA0 0x80 → ∃ t, exec (.debugChallenge q) s = .next t ∧ t.crypto.nonce.length = 32 ∧
      flag t R.DBG_STAT F.DBG_STAT_NONCE = true ∧ t.answer = { words := [rd t (R.DBG_CHAL 0)] } ∧
      (∀ n : Fin 8, rd t (R.DBG_CHAL n.val) = BitVec.ofNat 32 (leNat (sliceD 0 t.crypto.nonce (4 * n.val) 4))) ∧
      SameRegs (R.DBG_STAT :: (upTo 8).map R.DBG_CHAL) s t ∧ t.slots = s.slots ∧ same t) ∧
    (∀ q : Requester, Reaches s q 0xA0 0x48 → s.boot.due = none →
      (q ≠ .debug → ∀ i ∈ [Instr.debugOpen q, .debugClose q, .debugReset q], ∃ t, exec i s = .next t ∧ Rejected s t 0xA0 0x48 .notInState) ∧
      (∀ key : BitVec 16,
        (modeNow s = mdCOMMISSION → key = 0x4C4B → exec (.debugLockfuse q key) s =
          .next { s with otp := { s.otp with debugLock := true }, answer := { code := .none } }) ∧
        (modeNow s ≠ mdCOMMISSION → ∃ t, exec (.debugLockfuse q key) s = .next t ∧ Rejected s t 0xA0 0x48 .notInState) ∧
        (modeNow s = mdCOMMISSION → key ≠ 0x4C4B → ∃ t, exec (.debugLockfuse q key) s = .next t ∧ Rejected s t 0xA0 0x48 .illegalValue))) ∧
    (Reaches s .debug 0xA0 0x48 → s.boot.due = none → let session := flag s R.DBG_STAT F.DBG_STAT_SESSION
      ((modeNow s = mdBOOT → 4 ≤ fld s R.BOOT_STAT F.BOOT_STAT_PHASE) → ∃ t, exec (.debugOpen .debug) s = .next t ∧ Accepted t ∧
        flag t R.DBG_STAT F.DBG_STAT_NONCE = false ∧ t.crypto.nonce = [] ∧ (∀ n : Fin 32, rd t (R.DBG_RESP n.val) = 0) ∧
        fld t R.DBG_STAT F.DBG_STAT_CODE = codeNum (openCheck s) ∧
        (openCheck s = .none → flag t R.DBG_STAT F.DBG_STAT_SESSION = true ∧ flag t R.DBG_STAT F.DBG_STAT_ACTIVE = true ∧ isr t 0xA0 0 = true ∧
          (flag s R.DBG_STAT F.DBG_STAT_ACTIVE = false → flag t R.CRU_STAT F.CRU_STAT_DEBUG_ROOT = true ∧
            (slotAt t 0).material = List.replicate 32 0xA5 ∧ ∀ i : Fin 256, i.val ≠ 0 → attrValid (slotAt t i.val).attr = false)) ∧
        (openCheck s ≠ .none → flag t R.DBG_STAT F.DBG_STAT_SESSION = session ∧ isr t 0xA0 1 = true ∧ t.slots = s.slots ∧
          fld t R.DBG_STAT F.DBG_STAT_FAILS = min 255 (fld s R.DBG_STAT F.DBG_STAT_FAILS + 1) ∧ same t)) ∧
      (session = true → ∃ t, exec (.debugClose .debug) s = .next t ∧ Accepted t ∧ flag t R.DBG_STAT F.DBG_STAT_SESSION = false ∧
        fld t R.DBG_HOLD F.DBG_HOLD_STOPPED = 0 ∧ SameRegs [R.DBG_STAT, R.DBG_HOLD] s t ∧ t.slots = s.slots ∧ same t) ∧
      (session = false → ∃ t, exec (.debugClose .debug) s = .next t ∧ Rejected s t 0xA0 0x48 .sequence) ∧
      (session = true → exec (.debugReset .debug) s = .next (bootRom (moduleReset { s with answer := { code := .none } } 0x100))) ∧
      (session = false → ∃ t, exec (.debugReset .debug) s = .next t ∧ Rejected s t 0xA0 0x48 .notInState)) ∧
    (∀ (q : Requester) (v : Word), Reaches s q 0xA0 0x4C → v.toNat < 0x10000 →
      (q = .debug → flag s R.DBG_STAT F.DBG_STAT_SESSION = true → ∃ t, exec (.debugHold q v) s = .next t ∧ Accepted t ∧
        fld t R.DBG_HOLD F.DBG_HOLD_HOLD = v.toNat % 256 ∧ fld t R.DBG_HOLD F.DBG_HOLD_STOPPED = fld s R.DBG_HOLD F.DBG_HOLD_STOPPED ∧
        OnlyRegs [R.DBG_HOLD] s t) ∧
      (q ≠ .debug → ∃ t, exec (.debugHold q v) s = .next t ∧ Rejected s t 0xA0 0x4C .notInState)) ∧
    (∀ (q : Requester) (c : Fin 8), Reaches s q 0xA0 0x50 → (fld s R.DBG_HOLD F.DBG_HOLD_STOPPED).testBit c.val = true → let k := curTask s c.val
      ∃ t, exec (.debugGo q (BitVec.ofNat 32 (2 ^ c.val))) s = .next t ∧ Accepted t ∧ (fld t R.DBG_HOLD F.DBG_HOLD_STOPPED).testBit c.val = false ∧
        (taskAt t k).bank.pc = (taskAt s k).bank.pc + 4 ∧ (taskAt t k).run = (taskAt s k).run.map (fun r => { r with stopped := false }) ∧
        (∀ n, n ≠ k → taskAt t n = taskAt s n) ∧ SameRegs [R.DBG_HOLD] s t ∧ same t)

/-! ## Time and the backup domain (15_time_and_backup.md) -/

/-- R438, R439, R441 to R451: the timebase, the PTP servo, the calendar and the backup domain. A step loads the timebase and counts; a slew adds to
the pending offset; the link delay is half the round trip. An Announce selects the first or a better master, a Sync gives the offset from PTP_ORIGIN or
sets the origin anew, a Delay_Resp gives the delay, and silence ends in LISTENING or HOLDOVER. The calendar rolls over, is held, staged and released,
and fires its alarm; a capture is kept for its reader; a supply switch changes nothing else, and the domain's reset sets its two pages back and no
other register. The rate that the servo chooses is free within R438 (assumption 7), and the order of masters is IEEE 1588's (assumption 40). -/
def Obligations.TimeServoCalendarAndBackup : Prop :=
  ∀ s : State,
    let isr := fun (t : State) (page n : Nat) => (rd t (R.PG_ISR page)).getLsbD n
    let same := fun (t : State) => SameBytes s t ∧ SamePoints s t
    (∀ (q : Requester) (v : DWord), Reaches s q 0x06 0x54 →
      (modeNow s = mdCOMMISSION → following s = false → ∃ t, exec (.tbStep q v) s = .next t ∧ Accepted t ∧ t.now = v ∧
        t.nextTick = v.toNat / 100000 + 1 ∧ t.nextGrid = v.toNat / 25000 + 1 ∧ t.meter = { s.meter with nextSample := v.toNat / 12500 + 1 } ∧
        fld t R.TB_STAT F.TB_STAT_STEPS = min 255 (fld s R.TB_STAT F.TB_STAT_STEPS + 1) ∧ isr t 0x06 0 = true ∧ same t) ∧
      (modeNow s ≠ mdCOMMISSION ∨ following s = true → ∃ t, exec (.tbStep q v) s = .next t ∧ Rejected s t 0x06 0x54 .notInState)) ∧
    (∀ (q : Requester) (v : Word), Reaches s q 0x06 0x4C → let n := (rd s R.TB_SLEW).toInt + v.toInt
      (following s = true ∨ ptpOn s = true → ∃ t, exec (.tbSlew q v) s = .next t ∧ Rejected s t 0x06 0x4C .notInState) ∧
      (following s = false → ptpOn s = false → -0x80000000 ≤ n → n ≤ 0x7FFFFFFF → ∃ t, exec (.tbSlew q v) s = .next t ∧ Accepted t ∧
        (rd t R.TB_SLEW).toInt = n ∧ OnlyRegs [R.TB_SLEW] s t)) ∧
    (∀ rtt : Nat,
      (flag s R.TLM_STAT F.TLM_STAT_UP = false → exec (.linkDelayMeasure rtt) s = .next s) ∧
      (flag s R.TLM_STAT F.TLM_STAT_UP = true → ∃ t, exec (.linkDelayMeasure rtt) s = .next t ∧ rd t R.TB_LINKDLY = BitVec.ofNat 32 (rtt / 2) ∧
        t = { s with regs := t.regs } ∧ SameRegs [R.TB_LINKDLY] s t)) ∧
    (∀ (d : Byte) (src : BitVec 80) (seq : BitVec 16) (a : PtpAnnounce) (origin corr stamp : Int) (two : Bool),
      let here := ptpOn s && !s.paused && d.toNat == fld s R.PTP_CFG F.PTP_CFG_DOMAIN
      (here = false → exec (.ptpMessage (.announce d a)) s = .next s ∧ exec (.ptpMessage (.sync d src seq two origin corr stamp)) s = .next s ∧
        exec (.ptpMessage (.followUp d src seq origin corr)) s = .next s ∧ exec (.ptpMessage (.delayResp d src seq origin corr)) s = .next s) ∧
      (here = true →
        (∀ m, s.ptp.master = some m → ptpState s ≠ ptLISTENING → a.src ≠ m.src → comesBefore (bmcaKey a) (bmcaKey m) = false →
          exec (.ptpMessage (.announce d a)) s = .next s) ∧
        (∀ m, s.ptp.master = some m → ptpState s ≠ ptLISTENING → a.src = m.src → ∃ t, exec (.ptpMessage (.announce d a)) s = .next t ∧
          t.ptp.master = some a ∧ t.ptp.announceAt = s.now ∧ t.ptp.good = s.ptp.good ∧ t = { s with ptp := t.ptp }) ∧
        ((ptpState s = ptLISTENING ∨ s.ptp.master = none ∨ ∃ m, s.ptp.master = some m ∧ a.src ≠ m.src ∧ comesBefore (bmcaKey a) (bmcaKey m) = true) →
          ∃ t, exec (.ptpMessage (.announce d a)) s = .next t ∧ ptpState t = ptUNCALIBRATED ∧ t.ptp.master = some a ∧ t.ptp.good = 0 ∧
            SameRegs [R.PTP_STAT] s t ∧ same t) ∧
        (fromMaster s src = false → exec (.ptpMessage (.sync d src seq two origin corr stamp)) s = .next s ∧
          exec (.ptpMessage (.followUp d src seq origin corr)) s = .next s ∧ exec (.ptpMessage (.delayResp d src seq origin corr)) s = .next s) ∧
        (fromMaster s src = true →
          (exec (.ptpMessage (.sync d src seq true origin corr stamp)) s = .next { s with ptp := { s.ptp with wait := some (seq.toNat, stamp, corr) } }) ∧
          (∀ t2 c, s.ptp.wait = some (seq.toNat, t2, c) → exec (.ptpMessage (.followUp d src seq origin corr)) s =
            exec (.ptpMessage (.sync d src seq false (origin + c) corr t2)) s) ∧
          (∀ n t2 c, s.ptp.wait = some (n, t2, c) → n ≠ seq.toNat → exec (.ptpMessage (.followUp d src seq origin corr)) s = .next s) ∧
          (let off := stamp + ptpOrigin s - (origin + corr) - s.ptp.delay
           let v := codeOf 64 (origin + corr + s.ptp.delay - stamp)
           ∃ t, exec (.ptpMessage (.sync d src seq false origin corr stamp)) s = .next t ∧ t.ptp.t1 = origin + corr ∧ t.ptp.t2 = stamp ∧
            t.ptp.originSet = true ∧ t.ptp.syncAt = s.now ∧ t.ptp.wait = none ∧ t.ptp.reqSeq = (s.ptp.reqSeq + 1) % 65536 ∧ same t ∧
            (following s = true → rd t R.TB_RATE = rd s R.TB_RATE) ∧
            (following s = false → -100000 ≤ (rd t R.TB_RATE).toInt ∧ (rd t R.TB_RATE).toInt ≤ 100000) ∧
            (s.ptp.originSet = true → off.natAbs ≤ 1000000 → rd t R.PTP_OFS = BitVec.ofInt 32 off ∧ ptpOrigin t = ptpOrigin s ∧
              (1000 < off.natAbs → t.ptp.good = 0 ∧ ptpState t = ptpState s) ∧
              (off.natAbs ≤ 1000 → t.ptp.good = s.ptp.good + 1 ∧ (15 ≤ s.ptp.good → ptpState t = ptSLAVE) ∧
                (15 ≤ s.ptp.good → ptpState s ≠ ptSLAVE → isr t 0x7F 0 = true))) ∧
            (s.ptp.originSet = false ∨ 1000000 < off.natAbs → rd t R.PTP_OFS = 0 ∧ ptpOrigin t = v ∧ isr t 0x7F 2 = true)) ∧
          (∀ t3, seq.toNat = s.ptp.reqSeq → s.ptp.t3 = some t3 → let y := ((s.ptp.t2 - s.ptp.t1) + (origin - corr - t3)) / 2
            ∃ t, exec (.ptpMessage (.delayResp d src seq origin corr)) s = .next t ∧ t.ptp = { s.ptp with delay := y, t3 := none } ∧
              rd t R.PTP_DELAY = BitVec.ofInt 32 y ∧ SameRegs [R.PTP_DELAY] s t ∧ same t)))) ∧
    (∀ m, s.ptp.master = some m → ptpOn s = true → ptpState s ≠ ptLISTENING → ∃ t, exec .ptpAnnounceTimeout s = .next t ∧ ptpState t = ptLISTENING ∧
      t.ptp = s.ptp ∧ s.now ≤ t.now ∧ SameRegs [R.PTP_STAT] s t ∧ same t) ∧
    (s.ptp.master = none ∨ ptpOn s = false → exec .ptpAnnounceTimeout s = .next s) ∧
    (ptpOn s = true → ptpState s = ptSLAVE → ∃ t, exec .ptpSyncTimeout s = .next t ∧ ptpState t = ptHOLDOVER ∧ isr t 0x7F 1 = true ∧
      rd t R.TB_RATE = rd s R.TB_RATE ∧ t.ptp = { s.ptp with good := 0 } ∧ same t) ∧
    (ptpOn s = false ∨ ptpState s ≠ ptSLAVE → exec .ptpSyncTimeout s = .next s) ∧
    (rtcHeld s = true → exec .rtcSecondRollover s = .next s) ∧
    (rtcHeld s = false → let n := nextSecond (rd s R.RTC_DATE) (rd s R.RTC_TIME)
      let armed := flag s R.RTC_CTRL F.RTC_CTRL_ALM_EN = true ∧ flag s R.RTC_STAT F.RTC_STAT_FIRED = false
      ∃ t, exec .rtcSecondRollover s = .next t ∧ rd t R.RTC_DATE = n.1 ∧ rd t R.RTC_TIME = n.2 ∧ same t ∧
        (modeNow s ≠ 0 → rd t (R.RTC_TBCAP 0) = s.now.setWidth 32 ∧ rd t (R.RTC_TBCAP 1) = (s.now >>> 32).setWidth 32) ∧
        (armed → alarmMatch s n.1 n.2 = true → flag t R.RTC_STAT F.RTC_STAT_FIRED = true ∧ fld t R.RTC_STAT F.RTC_STAT_ACAUSE = 1 ∧
          isr t 0x04 0 = true) ∧
        (¬ armed ∨ alarmMatch s n.1 n.2 = false → rd t R.RTC_STAT = rd s R.RTC_STAT)) ∧
    exec .trimWindow s = .next { s with rtc := { s.rtc with trim := rd s R.RTC_TRIM } } ∧
    (∀ (q : Requester) (v : Word), Reaches s q 0x04 0x48 → v &&& 0xFFFFFFE2 = 0 →
      let date := s.rtc.stageDate.getD (rd s R.RTC_DATE)
      let time := s.rtc.stageTime.getD (rd s R.RTC_TIME)
      (∃ t, exec (.rtcHold q v) s = .next t ∧ Accepted t ∧ rd t R.RTC_CTRL = v ||| 1 ∧ rtcHeld t = true ∧ rd t R.RTC_DATE = rd s R.RTC_DATE ∧
        rd t R.RTC_TIME = rd s R.RTC_TIME ∧ (rtcHeld s = true → t.rtc = s.rtc) ∧
        (rtcHeld s = false → t.rtc.stageDate = none ∧ t.rtc.stageTime = none) ∧ SameRegs [R.RTC_CTRL, R.RTC_STAT, R.RTC_SUBSEC] s t ∧ same t) ∧
      (rtcHeld s = false → ∃ t, exec (.rtcRelease q v) s = .next t ∧ Accepted t ∧ rd t R.RTC_CTRL = v &&& 0xFFFFFFFE ∧ OnlyRegs [R.RTC_CTRL] s t) ∧
      (rtcHeld s = true → dateExists date = false → ∃ t, exec (.rtcRelease q v) s = .next t ∧ Rejected s t 0x04 0x48 .illegalValue) ∧
      (rtcHeld s = true → dateExists date = true → ∃ t, exec (.rtcRelease q v) s = .next t ∧ Accepted t ∧ rd t R.RTC_CTRL = v &&& 0xFFFFFFFE ∧
        rtcHeld t = false ∧ flag t R.RTC_STAT F.RTC_STAT_VALID = true ∧ rd t R.RTC_DATE = date ∧ rd t R.RTC_TIME = time ∧ rd t R.RTC_SUBSEC = 0 ∧
        t.rtc.stageDate = none ∧ t.rtc.stageTime = none ∧ rd t (R.RTC_TBCAP 0) = s.now.setWidth 32 ∧
        (date = rd s R.RTC_DATE → time = rd s R.RTC_TIME → same t ∧ t.meter = s.meter) ∧
        (date ≠ rd s R.RTC_DATE ∨ time ≠ rd s R.RTC_TIME → v.getLsbD 2 = true → flag s R.RTC_STAT F.RTC_STAT_FIRED = false →
          alarmMatch s date time = true → flag t R.RTC_STAT F.RTC_STAT_FIRED = true ∧ fld t R.RTC_STAT F.RTC_STAT_ACAUSE = 1 ∧
            isr t 0x04 0 = true))) ∧
    (∀ q : Requester, Reaches s q 0x04 0x40 → ∃ t, exec (.rtcTimeRead q) s = .next t ∧ t.answer = { words := [rd s R.RTC_TIME] } ∧
      heldWord t q R.RTC_DATE = some (rd s R.RTC_DATE) ∧ heldWord t q R.RTC_SUBSEC = some (rd t R.RTC_SUBSEC) ∧ SameRegs [R.RTC_SUBSEC] s t ∧ same t ∧
      (rtcHeld s = true → rd t R.RTC_SUBSEC = rd s R.RTC_SUBSEC)) ∧
    (∀ q : Requester, Reaches s q 0x04 0x50 → ∃ t, exec (.alarmArm q) s = .next t ∧ Accepted t ∧ flag t R.RTC_STAT F.RTC_STAT_FIRED = false ∧
      OnlyRegs [R.RTC_STAT] s t ∧ ∀ n : Fin 32, n.val ≠ 2 → (rd t R.RTC_STAT).getLsbD n.val = (rd s R.RTC_STAT).getLsbD n.val) ∧
    (∀ b : Bool,
      (flag s R.RTC_STAT F.RTC_STAT_ON_VBKP = b → exec (.backupSupplySwitch b) s = .next s) ∧
      (flag s R.RTC_STAT F.RTC_STAT_ON_VBKP ≠ b → ∃ t, exec (.backupSupplySwitch b) s = .next t ∧ flag t R.RTC_STAT F.RTC_STAT_ON_VBKP = b ∧
        isr t 0x04 2 = true ∧ RegsAndEvents [R.RTC_STAT, R.PG_ISR 0x04] s t)) ∧
    (∃ t, exec .backupDomainReset s = .next t ∧ (∀ k, inBackup k = true → rd t k = resetWord k) ∧ (∀ k, inBackup k = false → rd t k = rd s k) ∧
      rd t R.RTC_DATE = 0x101 ∧ rd t R.RTC_TIME = 0x06000000 ∧ flag t R.RTC_STAT F.RTC_STAT_BDOM_LOST = true ∧
      flag t R.RTC_STAT F.RTC_STAT_VALID = false ∧ rd t R.TMP_LATCH = 0 ∧ t.rtc = {} ∧ t.otp = s.otp ∧ t.crypto.store = s.crypto.store ∧ same t)

/-! ## Modes, power, reset and the NOR (16_modes_power_boot.md) -/

/-- R456 to R459, R461, R463 to R465, R469, R470, R472, R473, R479 to R482, R486: modes, domains, resets and the NOR. A request waits for the tick
boundary and takes effect there; a DOZE wake goes to ACTIVE. An idle domain takes the state that R464 chooses, a pre-wake begins its exit and an exit
ends in C0. A module reset sets every register back but the backup pages, SYS_RSTCAUSE, SCN_PFWST and REV_SUSP, keeps fuses, NVR and NOR and runs the
boot ROM; a supply failure holds the module in mode 0. A store and an XSPI command are taken where their rules allow, and end having written their
range and nothing else. That the suspension of returns outlives a reset is the model's reading (DEDUCED). -/
def Obligations.ModesPowerResetsAndNor : Prop :=
  ∀ s : State,
    let isr := fun (t : State) (page n : Nat) => (rd t (R.PG_ISR page)).getLsbD n
    let same := fun (t : State) => SameBytes s t ∧ SamePoints s t
    let pend := flag s R.SYS_MODE F.SYS_MODE_PEND
    let req := fld s R.SYS_MODE F.SYS_MODE_REQ
    let quiet := s.twin.decided = none ∧ s.twin.demote = false ∧ s.twin.hoTick = none
    (modeNow s = 0 → exec .tickBoundary s = .next s) ∧
    (modeNow s ≠ 0 → ∃ t, exec .tickBoundary s = .next t ∧ t.nextTick = s.nextTick + 1 ∧ s.now ≤ t.now ∧
      BitVec.ofNat 64 (s.nextTick * 100000) ≤ t.now ∧
      (quiet → s.wake = false → pend = false → modeNow t = modeNow s ∧ (following s = false →
        (rd t R.TB_SLEW).toInt = (rd s R.TB_SLEW).toInt - clampInt (-10) 10 (rd s R.TB_SLEW).toInt))) ∧
    (s.wake = false → pend = false → exec .modeChange s = .next s) ∧
    (modeNow s ≠ 0 → quiet → ∀ i ∈ [Instr.tickBoundary, .modeChange],
      (s.wake = true → modeNow s = mdDOZE → ∃ t, exec i s = .next t ∧ modeNow t = mdACTIVE ∧ fld t R.SYS_MODE F.SYS_MODE_REASON = 5 ∧
        flag t R.SYS_MODE F.SYS_MODE_PEND = false ∧ t.wake = false ∧ isr t 0x00 0 = true) ∧
      ((s.wake = false ∨ modeNow s ≠ mdDOZE) → pend = true → requestAllowed (modeNow s) req = true → ∃ t, exec i s = .next t ∧
        modeNow t = (if modeNow s = mdCOMMISSION ∧ req = mdACTIVE ∧ paired s = true then mdSTANDBY else req) ∧
        fld t R.SYS_MODE F.SYS_MODE_REASON = 1 ∧ fld t R.SYS_MODE F.SYS_MODE_PREV = modeNow s ∧ flag t R.SYS_MODE F.SYS_MODE_PEND = false ∧
        isr t 0x00 0 = true ∧ (req = mdCOMMISSION ∨ req = mdSAFE → t.rwlLocked = s.rwlLocked) ∧ (req = mdACTIVE ∨ req = mdDOZE → t.rwlLocked = true)) ∧
      ((s.wake = false ∨ modeNow s ≠ mdDOZE) → pend = true → requestAllowed (modeNow s) req = false → ∃ t, exec i s = .next t ∧
        modeNow t = modeNow s ∧ flag t R.SYS_MODE F.SYS_MODE_PEND = false)) ∧
    (∀ (q : Requester) (v : Word), Reaches s q 0x00 0x44 → v.toNat < 16 → let n := v.toNat
      (n ∉ [3, 4, 6, 7] → ∃ t, exec (.modeRequest q v) s = .next t ∧ Rejected s t 0x00 0x44 .illegalValue) ∧
      (n ∈ [3, 4, 6, 7] → pend = true → ∃ t, exec (.modeRequest q v) s = .next t ∧ Rejected s t 0x00 0x44 .busy) ∧
      (n ∈ [3, 4, 6, 7] → pend = false → requestAllowed (modeNow s) n = false → ∃ t, exec (.modeRequest q v) s = .next t ∧
        Rejected s t 0x00 0x44 .notInState) ∧
      (n ∈ [3, 4, 6, 7] → pend = false → requestAllowed (modeNow s) n = true → ∃ t, exec (.modeRequest q v) s = .next t ∧ Accepted t ∧
        flag t R.SYS_MODE F.SYS_MODE_PEND = true ∧ fld t R.SYS_MODE F.SYS_MODE_REQ = n ∧ modeNow t = modeNow s ∧ OnlyRegs [R.SYS_MODE] s t)) ∧
    (∀ d : Fin 14, let leaving := tget (fun _ => false) s.exiting d.val
      (leaving = true ∨ domSt s d.val ≠ 2 → exec (.domainStateChange d) s = .next s) ∧
      (leaving = false → domSt s d.val = 2 → ∃ t, exec (.domainStateChange d) s = .next t ∧ domC t d.val = chooseState s d.val ∧ domSt t d.val = 2 ∧
        SameRegs [R.PWR_DOMSTAT d.val] s t ∧ t = { s with regs := t.regs }) ∧
      (domSt s d.val ≠ 2 ∨ domC s d.val = 0 → exec (.domainPrewake d) s = .next s) ∧
      (domSt s d.val = 2 → domC s d.val ≠ 0 → ∃ t, exec (.domainPrewake d) s = .next t ∧ tget (fun _ => false) t.exiting d.val = true ∧
        (∀ e, e ≠ d.val → tget (fun _ => false) t.exiting e = tget (fun _ => false) s.exiting e) ∧ t = { s with exiting := t.exiting }) ∧
      (leaving = false ∨ domSt s d.val ≠ 2 → exec (.domainExitComplete d) s = .next s) ∧
      (leaving = true → domSt s d.val = 2 → ∃ t, exec (.domainExitComplete d) s = .next t ∧ domC t d.val = 0 ∧ domSt t d.val = 2 ∧
        tget (fun _ => false) t.exiting d.val = false ∧ SameRegs [R.PWR_DOMSTAT d.val] s t ∧ same t)) ∧
    (∀ c : Nat, let r := moduleReset s c
      r.now = 0 ∧ r.points = [] ∧ r.forces = [] ∧ r.moulds = [] ∧ r.slots = [] ∧ r.lockTimers = [] ∧ r.rwlLocked = false ∧ r.otp = s.otp ∧
      r.nvrForces = s.nvrForces ∧ r.scan.nvr = s.scan.nvr ∧ r.crypto.store = s.crypto.store ∧ r.resets = s.resets + 1 ∧ r.pending = s.pending ∧
      rd r R.SYS_RSTCAUSE = (if c % 2 = 1 then 0 else rd s R.SYS_RSTCAUSE) ||| BitVec.ofNat 32 c ∧
      (c % 2 = 0 → rd r R.SCN_PFWST = rd s R.SCN_PFWST) ∧ (∀ k, inBackup k = true → rd r k = rd s k) ∧
      (∀ k, inBackup k = false → k ∉ [R.SYS_RSTCAUSE, R.SCN_PFWST, R.TWN_STAT, R.EVT_PEND 0] → rd r k = resetWord k) ∧
      fld r R.TWN_STAT F.TWN_STAT_REV_SUSP = fld s R.TWN_STAT F.TWN_STAT_REV_SUSP ∧
      (Memory.wf s.mem = true → updState s ≠ udWRITING → s.recov.commit ≠ 1 → s.boot.store = none → s.boot.xspi = none →
        ∀ a, 0x30000000 ≤ a → a ≤ 0x3FFFFFFF → byteAt r a = byteAt s a)) ∧
    (∀ p ∈ [(Instr.resetPin, 0x4), (.mgmtWatchdogReset, 0x10), (.lockstepReset, 0x20), (.thermalReset, 0x80)],
      (modeNow s = 0 → exec p.1 s = .next s) ∧ (modeNow s ≠ 0 → exec p.1 s = .next (bootRom (moduleReset s p.2)))) ∧
    (∀ q : Requester, Reaches s q 0x00 0x48 → Awake s 0x00 → s.boot.due = none →
      (∀ p ∈ [(Instr.sysReset q 0x5253, 0x8), (.sysRecover q 0x5253, 0x208)], ∃ u, exec p.1 s = .next (bootRom (moduleReset u p.2)) ∧ Accepted u ∧
        OnlyRegs [] s u) ∧
      (∀ key : BitVec 16, key ≠ 0x5253 → ∀ i ∈ [Instr.sysReset q key, .sysRecover q key], ∃ t, exec i s = .next t ∧
        Rejected s t 0x00 0x48 .illegalValue)) ∧
    (∀ x : BootEnv, ∃ r, exec (.powerOnReset x) s = .next (bootRom r) ∧ r.boot.env = x ∧ rd r R.SYS_RSTCAUSE = 1 ∧ modeNow r = mdBOOT ∧ r.now = 0 ∧
      flag r R.RTC_STAT F.RTC_STAT_ON_VBKP = false ∧ rd r R.SCN_PFWST = resetWord R.SCN_PFWST ∧ r.otp = s.otp) ∧
    (∀ (rail : Fin 5) (ms : Nat), let e := { s.boot.env with rails := s.boot.env.rails ||| BitVec.ofNat 5 (2 ^ rail.val) }
      let waits := modeNow s = mdBOOT ∧ flag s R.BOOT_STAT F.BOOT_STAT_RAILWAIT = true
      (¬ waits → exec (.supplyGood rail ms) s = .next { s with boot := { s.boot with env := e } }) ∧
      (waits → bootPhase s = 5 → e.rails.toNat % 4 ≠ 3 → ∃ t, exec (.supplyGood rail ms) s = .next t ∧ t.boot.env = e ∧ modeNow t = mdBOOT ∧
        bootPhase t = 5 ∧ flag t R.BOOT_STAT F.BOOT_STAT_RAILWAIT = true ∧ BitVec.ofNat 64 (ms * 100000) ≤ t.now)) ∧
    (∀ b : Bool, ∃ t, exec (.supplyFail b) s = .next t ∧ modeNow t = 0 ∧ t.now = 0 ∧ t.points = [] ∧ t.slots = [] ∧ t.otp = s.otp ∧
      (b = true → flag t R.RTC_STAT F.RTC_STAT_ON_VBKP = true ∧ rd t R.RTC_DATE = rd s R.RTC_DATE ∧ rd t R.RTC_TIME = rd s R.RTC_TIME ∧
        rd t R.TMP_LATCH = rd s R.TMP_LATCH) ∧
      (b = false → ∀ k, inBackup k = true → rd t k = resetWord k)) ∧
    (∀ q : Requester, Reaches s q 0x02 0x60 →
      let src := (rd s R.BOOT_SSRC).toNat
      let off := (rd s R.BOOT_SOFF).toNat
      let len := (rd s R.BOOT_SLEN).toNat
      let free := s.boot.store = none ∧ flag s R.UPD_STAT F.UPD_STAT_JOPEN = false
      (serviceMode s = false → ∀ i ∈ [Instr.bootStorePattern q, .bootStoreBlob q], ∃ t, exec i s = .next t ∧ Rejected s t 0x02 0x60 .notInState) ∧
      (serviceMode s = true → ¬ free → ∀ i ∈ [Instr.bootStorePattern q, .bootStoreBlob q], ∃ t, exec i s = .next t ∧
        Rejected s t 0x02 0x60 .busy) ∧
      (serviceMode s = true → free → inDram s src len = true → 16 ≤ len → len ≤ 0x100000 → ∃ t, exec (.bootStorePattern q) s = .next t ∧ Accepted t ∧
        t.boot = { s.boot with store := some ⟨1, src, 0x1000000 + spareCopy s * 0x100000, len⟩ } ∧ rd t R.BOOT_SSTAT = 0x80000000 ∧
        SameRegs [R.BOOT_SSTAT] s t ∧ same t) ∧
      (serviceMode s = true → free → inDram s src len = true → 16 ≤ len → off % 4096 = 0 → 0x1200000 ≤ off → off + len ≤ (rd s R.XSPI_SIZE).toNat →
        ∃ t, exec (.bootStoreBlob q) s = .next t ∧ Accepted t ∧ t.boot = { s.boot with store := some ⟨2, src, off, len⟩ } ∧
          rd t R.BOOT_SSTAT = 0x80000000 ∧ SameRegs [R.BOOT_SSTAT] s t ∧ same t)) ∧
    (s.boot.store = none → exec .bootStoreComplete s = .next s) ∧
    (∀ j : NorJob, s.boot.store = some j →
      let c : Code := if j.op = 2 then .none else if patOk s j.src j.len = false then .auth
        else if (patHead s j.src).seq ≤ (rd s R.BOOT_PATSEQ).toNat then .sequence else .none
      let n := (j.len + 4095) / 4096 * 4096
      ∃ t, exec .bootStoreComplete s = .next t ∧ t.boot = { s.boot with store := none } ∧ rd t R.BOOT_SSTAT = BitVec.ofNat 32 (codeNum c) ∧
        isr t 0x02 0 = true ∧ SamePoints s t ∧ (c ≠ .none → isr t 0x02 1 = true ∧ SameBytes s t) ∧
        (c = .none → bytesAt t (norBase + j.off) j.len = bytesAt s j.src j.len ∧
          ∀ a, a < norBase + j.off ∨ norBase + j.off + n ≤ a → byteAt t a = byteAt s a)) ∧
    (∀ q : Requester, Reaches s q 0x0D 0x54 →
      let src := (rd s R.XSPI_SRC).toNat
      let off := (rd s R.XSPI_OFF).toNat
      let len := (rd s R.XSPI_LEN).toNat
      let row := xspiRow s off len
      let free := s.boot.store = none ∧ s.boot.xspi = none
      let taken := fun (i : Instr) (op : Nat) => ∃ t, exec i s = .next t ∧ Accepted t ∧ t.boot = { s.boot with xspi := some ⟨op, src, off, len⟩ } ∧
        rd t R.XSPI_STAT = 0x80000000 ∧ SameRegs [R.XSPI_STAT] s t ∧ same t
      (¬ free → ∀ i ∈ [Instr.xspiErase q, .xspiProgram q, .xspiVerify q], ∃ t, exec i s = .next t ∧ Rejected s t 0x0D 0x54 .busy) ∧
      (free → serviceMode s = true → row = 3 ∨ (row = 1 ∧ modeNow s = mdCOMMISSION) → len ≠ 0 →
        (off % 4096 = 0 → len % 4096 = 0 → taken (.xspiErase q) 1) ∧
        (off % 256 = 0 → len % 256 = 0 → inDram s src len = true → taken (.xspiProgram q) 2)) ∧
      (free → serviceMode s = true → row ≠ 0 → len ≠ 0 → off % 256 = 0 → len % 256 = 0 → inDram s src len = true → taken (.xspiVerify q) 3) ∧
      (free → serviceMode s = true → row = 1 → modeNow s ≠ mdCOMMISSION → ∀ i ∈ [Instr.xspiErase q, .xspiProgram q], ∃ t, exec i s = .next t ∧
        Rejected s t 0x0D 0x54 .notInState)) ∧
    (∀ ok : Bool, s.boot.xspi = none → exec (.xspiCommandComplete ok) s = .next s) ∧
    (∀ (j : NorJob) (ok : Bool), s.boot.xspi = some j →
      let a := norBase + j.off
      ∃ t, exec (.xspiCommandComplete ok) s = .next t ∧ t.boot = { s.boot with xspi := none } ∧ isr t 0x0D 0 = true ∧ SamePoints s t ∧
        flag t R.XSPI_STAT F.XSPI_STAT_BUSY = false ∧ fld t R.XSPI_STAT F.XSPI_STAT_CODE = codeNum (if ok then .none else .illegalValue) ∧
        fld t R.XSPI_STAT F.XSPI_STAT_SECTORS = (j.len + 4095) / 4096 % 65536 ∧
        flag t R.XSPI_STAT F.XSPI_STAT_MISMATCH = (j.op == 3 && bytesAt s a j.len != bytesAt s j.src j.len) ∧ (ok = false → isr t 0x0D 1 = true) ∧
        (j.op = 3 → SameBytes s t) ∧
        (j.op ≠ 3 → flag s R.UPD_STAT F.UPD_STAT_JOPEN = false → (∀ b, b < a ∨ a + j.len ≤ b → byteAt t b = byteAt s b) ∧
          (ok = true → bytesAt t a j.len = if j.op = 1 then List.replicate j.len 0xFF
            else List.zipWith (· &&& ·) (bytesAt s a j.len) (bytesAt s j.src j.len)))) ∧
    (∀ m : Fin 3, let old := fld s R.DDR_STAT F.DDR_STAT_MULT
      (flag s R.DDR_STAT F.DDR_STAT_TRAINED = false ∨ old = 2 ^ m.val → exec (.mr4Poll m) s = .next s) ∧
      (flag s R.DDR_STAT F.DDR_STAT_TRAINED = true → old ≠ 2 ^ m.val → ∃ t, exec (.mr4Poll m) s = .next t ∧
        fld t R.DDR_STAT F.DDR_STAT_MULT = 2 ^ m.val ∧ isr t 0x0C 0 = true ∧ RegsAndEvents [R.DDR_STAT, R.PG_ISR 0x0C] s t)) ∧
    (∀ n : Fin 32,
      (islandRuns s n.val = false → exec (.pllLockLoss n) s = .next s) ∧
      (islandRuns s n.val = true → ∃ t, exec (.pllLockLoss n) s = .next t ∧ (rd t R.CLK_LOCK).getLsbD n.val = false ∧
        (rd t R.CLK_UNLOCK).getLsbD n.val = true ∧ (rd t R.CLK_LOSSCNT).toNat = min 0xFFFFFFFF ((rd s R.CLK_LOSSCNT).toNat + 1) ∧ isr t 0x03 0 = true ∧
        RegsAndEvents [R.CLK_LOCK, R.CLK_UNLOCK, R.CLK_LOSSCNT, R.PG_ISR 0x03] s t) ∧
      (modeNow s = 0 → exec (.pllRelock n) s = .next s) ∧
      (modeNow s ≠ 0 → ∃ t, exec (.pllRelock n) s = .next t ∧ (rd t R.CLK_LOCK).getLsbD n.val = true ∧ t = { s with regs := t.regs } ∧
        SameRegs [R.CLK_LOCK] s t ∧ ∀ m, m ≠ n.val → (rd t R.CLK_LOCK).getLsbD m = (rd s R.CLK_LOCK).getLsbD m))

/-! ## Firmware update and recovery (17_firmware_update.md) -/

/-- R493 to R504: the UPD page and warm activation. A command of UPD_CMD outside the five modes, or outside its states, is turned away with its code;
CHECK and WRITE run to their ends with the code of the first failing check, WRITE having stored the checked manifest and the parts; ABANDON,
SVN_COMMIT and OWNER_PK do what they say; ACTIVATE resets a standby and starts a warm activation elsewhere, whose hold, pause and end follow R500, and
whose failure is a module reset. -/
def Obligations.UpdatesRunThroughTheirStates : Prop :=
  ∀ s : State, s.boot.due = none →
    let isr := fun (t : State) (n : Nat) => (rd t (R.PG_ISR 0x98)).getLsbD n
    let same := fun (t : State) => SameBytes s t ∧ SamePoints s t
    let st := updState s
    let busy := st = udCHECKING ∨ st = udWRITING ∨ st = udACTIVATING
    let last := fun (t : State) => fld t R.UPD_STAT F.UPD_STAT_LAST
    (∀ q : Requester, Reaches s q 0x98 0x48 →
      let no := fun (i : Instr) (c : Code) => ∃ t, exec i s = .next t ∧ Rejected s t 0x98 0x48 c
      (serviceMode s = false → ∀ i ∈ [Instr.updCheck q, .updWrite q, .updActivate q, .updAbandon q, .updSvnCommit q, .updOwnerPk q], no i .notInState) ∧
      (serviceMode s = true →
        (busy → no (.updCheck q) .busy ∧ no (.updSvnCommit q) .busy) ∧
        (¬ busy → ∃ t, exec (.updCheck q) s = .next t ∧ Accepted t ∧ updState t = udCHECKING ∧ last t = 1 ∧ rd t R.UPD_STAGED = 0 ∧
          t.upd = { s.upd with src := (rd s R.UPD_SRC).toNat, len := (rd s R.UPD_LEN).toNat } ∧ SameRegs [R.UPD_STAT, R.UPD_STAGED] s t ∧ same t) ∧
        (st ≠ udCHECKED → no (.updWrite q) .sequence) ∧
        (st = udCHECKED → s.boot.store.isSome = true → no (.updWrite q) .busy) ∧
        (st = udCHECKED → s.boot.store = none → ∃ t, exec (.updWrite q) s = .next t ∧ Accepted t ∧ updState t = udWRITING ∧ last t = 2 ∧
          rd t R.UPD_PROG = 0 ∧ t.upd = s.upd ∧ t.boot = { s.boot with delivered := false } ∧
          SameRegs [R.UPD_STAT, R.UPD_STAGED, R.UPD_PROG] s t ∧ SamePoints s t ∧
          ∀ a, a < norBase ∨ norBase + 0x10000 ≤ a → byteAt t a = byteAt s a) ∧
        (st = udCHECKED → ∃ t, exec (.updAbandon q) s = .next t ∧ Accepted t ∧ updState t = udIDLE ∧ last t = 4 ∧ rd t R.UPD_STAGED = 0 ∧
          SameRegs [R.UPD_STAT, R.UPD_STAGED] s t ∧ same t) ∧
        (st = udWRITING ∨ st = udACTIVATING → no (.updAbandon q) .notInState) ∧
        (st ∉ [udCHECKED, udWRITING, udACTIVATING] → no (.updAbandon q) .sequence) ∧
        (¬ busy → st ≠ udCHECKED → ∃ t, exec (.updSvnCommit q) s = .next t ∧ Accepted t ∧
          t.otp = { s.otp with svn := max s.otp.svn (min 64 s.boot.fw.svn) } ∧ SameRegs [R.UPD_STAT] s t ∧ updState t = st ∧ last t = 5 ∧ same t) ∧
        (modeNow s ≠ mdCOMMISSION → no (.updOwnerPk q) .notInState) ∧
        (modeNow s = mdCOMMISSION → s.otp.owner.isSome = true → no (.updOwnerPk q) .lockedConfig) ∧
        (modeNow s = mdCOMMISSION → s.otp.owner = none → st = udIDLE → inDram s (rd s R.UPD_SRC).toNat 64 = true →
          ∃ t, exec (.updOwnerPk q) s = .next t ∧ Accepted t ∧ t.otp = { s.otp with owner := some (sha256 (bytesAt s (rd s R.UPD_SRC).toNat 64)) } ∧
            SameRegs [R.UPD_STAT] s t ∧ updState t = st ∧ last t = 6 ∧ same t) ∧
        (st ≠ udWRITTEN → no (.updActivate q) .sequence) ∧
        (st = udWRITTEN → roleOf s = rlACTIVE → partnerSynced s = true → no (.updActivate q) .notInState) ∧
        (st = udWRITTEN → roleOf s = rlSTANDBY ∨ roleOf s = rlRESOLVING → ∃ u, exec (.updActivate q) s = .next (bootRom (moduleReset u 0x8)) ∧
          OnlyRegs [R.UPD_STAT] s u ∧ Accepted u) ∧
        (st = udWRITTEN → roleOf s ≠ rlSTANDBY → roleOf s ≠ rlRESOLVING → roleOf s ≠ rlACTIVE ∨ partnerSynced s = false →
          (modeNow s = mdDOZE → no (.updActivate q) .notInState) ∧
          (modeNow s ∈ [mdACTIVE, mdSAFE, mdCOMMISSION] →
            (xchState s ∈ [xsCHECKING, xsWAITING, xsMIGRATING] ∨ s.boot.store.isSome = true → no (.updActivate q) .busy) ∧
            (xchState s ∉ [xsCHECKING, xsWAITING, xsMIGRATING] → s.boot.store = none → ∃ t, exec (.updActivate q) s = .next t ∧ Accepted t ∧
              updState t = udACTIVATING ∧ t.upd = { s.upd with b1 := some s.nextTick } ∧ last t = 3 ∧ SameRegs [R.UPD_STAT, R.UPD_STAGED] s t ∧
              same t))))) ∧
    (st ≠ udCHECKING → exec .checkComplete s = .next s) ∧
    (let a := s.upd.src
     let n := s.upd.len
     let c0 : Code := if inDram s a n = false ∨ n < 0x1A0 then .illegalValue else packCheck s a n true
     let c : Code := if c0 = .none ∧ loadN s (a + 8) 4 ≠ n then .illegalValue else c0
     st = udCHECKING → ∃ t, exec .checkComplete s = .next t ∧ fld t R.UPD_STAT F.UPD_STAT_CODE = codeNum c ∧ same t ∧
      (c = .none → updState t = udCHECKED ∧ t.upd = { s.upd with manifest := bytesAt s a 0x1A0 } ∧ isr t 0 = true ∧
        rd t R.UPD_STAGED = BitVec.ofNat 32 (loadN s (a + 0xC) 4)) ∧
      (c ≠ .none → updState t = udIDLE ∧ t.upd = { s.upd with manifest := [] } ∧ isr t 2 = true ∧ rd t R.UPD_STAGED = 0)) ∧
    (∀ ok : Bool,
      let m := s.upd.manifest
      let img := m ++ bytesAt s (s.upd.src + 0x1A0) (s.upd.len - 0x1A0)
      let u := storeNor s 0x10000 img
      (st ≠ udWRITING ∨ m = [] → exec (.writeComplete ok) s = .next s) ∧
      (st = udWRITING → m ≠ [] → ok = false → ∃ t, exec (.writeComplete ok) s = .next t ∧ updState t = udIDLE ∧
        fld t R.UPD_STAT F.UPD_STAT_CODE = codeNum .auth ∧ isr t 2 = true ∧ SamePoints s t ∧
        ∀ a, a < imageAt ∨ imageAt + s.upd.len ≤ a → byteAt t a = byteAt s a) ∧
      (st = udWRITING → m ≠ [] → ok = true → ∃ t, exec (.writeComplete ok) s = .next t ∧ bytesAt t imageAt img.length = img ∧ SamePoints s t ∧
        rd t R.UPD_PROG = BitVec.ofNat 32 ((s.upd.len + 4095) / 4096 * 4096) ∧
        (packCheck u imageAt 16711680 false = .none → updState t = udWRITTEN ∧ fld t R.UPD_STAT F.UPD_STAT_CODE = 0 ∧ isr t 1 = true) ∧
        (packCheck u imageAt 16711680 false ≠ .none → updState t = udIDLE ∧ fld t R.UPD_STAT F.UPD_STAT_CODE = codeNum .auth ∧ isr t 2 = true ∧
          flag t R.UPD_STAT F.UPD_STAT_JOPEN = flag s R.UPD_STAT F.UPD_STAT_JOPEN))) ∧
    (s.upd.b1 = none ∨ st ≠ udACTIVATING ∨ s.paused = true → exec .activationHold s = .next s ∧ exec .activationPauseStart s = .next s) ∧
    (∀ b, s.upd.b1 = some b → st = udACTIVATING → s.paused = false →
      (s.stationHold = true → exec .activationHold s = .next s) ∧
      (s.stationHold = false → ∃ t, exec .activationHold s = .next t ∧ t.stationHold = true ∧ updState t = st ∧ BitVec.ofNat 64 (b * 100000) ≤ t.now) ∧
      (∃ t, exec .activationPauseStart s = .next t ∧ t.paused = true ∧ t.stationHold = true ∧ t.upd.pauseAt = t.now ∧
        BitVec.ofNat 64 ((b + 3) * 100000) ≤ t.now ∧ t.crypto.cru = none ∧ t.crypto.cry = none ∧ (ptpOn s = true → ptpState t = ptDISABLED) ∧
        ∀ n : Fin 64, lockHeld s n.val = true → fld s (R.LCK_STAT n.val) F.LCK_STAT_REQ ∈ restarted → lockHeld t n.val = false ∧
          flag t (R.LCK_STAT n.val) F.LCK_STAT_BROKEN = true)) ∧
    (∀ (ok : Bool) (k : Nat),
      (s.paused = false ∨ st ≠ udACTIVATING → exec (.activationPauseEnd ok k) s = .next s) ∧
      (s.paused = true → st = udACTIVATING → modeNow s ≠ 0 → ok = false ∨ imageCheck s false ≠ .none →
        exec (.activationPauseEnd ok k) s = .next (bootRom (moduleReset { s with paused := false } 0x8))) ∧
      (s.paused = true → st = udACTIVATING → ok = true → imageCheck s false = .none → ∃ t, exec (.activationPauseEnd ok k) s = .next t ∧
        t.paused = false ∧ t.stationHold = false ∧ updState t = udIDLE ∧ t.upd.b1 = none ∧ s.now ≤ t.now ∧ isr t 3 = true ∧
        rd t R.UPD_RUN = BitVec.ofNat 32 (loadN s (imageAt + 0xC) 4) ∧ (ptpOn s = true → ptpState t = ptLISTENING) ∧
        fld t R.UPD_ACT F.UPD_ACT_COUNT = min 0xFFFF (fld s R.UPD_ACT F.UPD_ACT_COUNT + 1) ∧
        fld t R.UPD_ACT F.UPD_ACT_PAUSE_MS = min 0xFFFF ((t.now - s.upd.pauseAt).toNat / 100000)))

/-- R505 to R508: the recovery protocol. Outside RECOVERY nothing is served; another party than the session's is answered BUSY, a repeated SEQ gets
the last response again, and a lower one SEQUENCE. A new SEQ is executed: INFO, CHALLENGE, LOAD, COMMIT, CLEAR_TAMPER and RESET do as their table says.
The end of a committed write and the end of a session leave what R507 states. The encoding of the challenge is the model's reading (assumption 42), and
so is the cause bit of RESET (assumption 43). -/
def Obligations.RecoveryServesOneSession : Prop :=
  ∀ s : State, s.boot.due = none →
    (∀ (m : Fin 3) (mac : List Byte) (seq off total : Word) (data : List Byte), mac.length = 6 → data.length ≤ 1024 →
      let all := [Instr.recoveryInfo m mac seq, .recoveryChallenge m mac seq, .recoveryLoad m mac seq off data, .recoveryCommit m mac seq total,
        .recoveryClearTamper m mac seq data, .recoveryReset m mac seq]
      let r := s.recov
      let me := some (m.val, mac)
      (modeNow s ≠ mdRECOVERY → ∀ i ∈ all, exec i s = .next s) ∧
      (modeNow s = mdRECOVERY → r.session.isSome = true → r.session ≠ me → ∀ i ∈ all, exec i s = .next { s with answer := { code := .busy } }) ∧
      (∀ n, modeNow s = mdRECOVERY → r.session = me → r.seq = some n →
        (seq.toNat = n → ∀ i ∈ all, exec i s = .next { s with recov := { r with at_ := s.now }, answer := { code := r.respCode, bytes := r.response } }) ∧
        (seq.toNat < n → ∀ i ∈ all, exec i s = .next { s with recov := { r with at_ := s.now }, answer := { code := .sequence } })) ∧
      (modeNow s = mdRECOVERY → (r.session = none ∨ (r.session = me ∧ (r.seq = none ∨ ∃ n, r.seq = some n ∧ n < seq.toNat))) →
        let reply := fun (t : State) (c : Code) (b : List Byte) => t.answer = { code := c, bytes := b } ∧ t.recov.session = me ∧
          t.recov.seq = some seq.toNat ∧ t.recov.at_ = s.now ∧ t.recov.respCode = c ∧ t.recov.response = b ∧ SamePoints s t
        let count := (if r.session = none then 0 else r.challenges) + 1
        let nonce := if r.session = none then none else r.nonce
        let fresh := sha256 (factoryMac ++ leBytes 8 s.now.toNat ++ leBytes 4 count)
        let c0 := packCheck s 0x80000000 total.toNat true
        let c : Code := if c0 = .none ∧ loadN s 0x80000008 4 ≠ total.toNat then .illegalValue else c0
        (∃ t, exec (.recoveryInfo m mac seq) s = .next t ∧ reply t .none (recovInfo s) ∧ SameBytes s t ∧ SameRegs [] s t) ∧
        (∃ t, exec (.recoveryChallenge m mac seq) s = .next t ∧ reply t .none fresh ∧ t.recov.nonce = some fresh ∧ t.recov.challenges = count ∧
          SameBytes s t ∧ SameRegs [] s t) ∧
        (off.toNat + data.length ≤ 16711680 → ∃ t, exec (.recoveryLoad m mac seq off data) s = .next t ∧ reply t .none [] ∧ SameRegs [] s t ∧
          bytesAt t (0x80000000 + off.toNat) data.length = data ∧
          ∀ a, a < 0x80000000 + off.toNat ∨ 0x80000000 + off.toNat + data.length ≤ a → byteAt t a = byteAt s a) ∧
        (16711680 < off.toNat + data.length → ∃ t, exec (.recoveryLoad m mac seq off data) s = .next t ∧ reply t .illegalValue [] ∧ SameBytes s t ∧
          SameRegs [] s t) ∧
        (r.commit = 1 → (∃ t, exec (.recoveryCommit m mac seq total) s = .next t ∧ reply t .busy [] ∧ SameBytes s t) ∧
          ∃ t, exec (.recoveryReset m mac seq) s = .next t ∧ reply t .busy [] ∧ SameBytes s t) ∧
        (r.commit ≠ 1 → ∃ t, exec (.recoveryCommit m mac seq total) s = .next t ∧ reply t c [] ∧
          t.recov.commit = (if c = .none then 1 else r.commit) ∧ (c ≠ .none → SameBytes s t) ∧
          (c = .none → t.recov.total = total.toNat ∧ ∀ a, a < norBase ∨ norBase + 0x10000 ≤ a → byteAt t a = byteAt s a)) ∧
        (r.commit ≠ 1 → ∃ u, exec (.recoveryReset m mac seq) s = .next (bootRom (moduleReset u 0x8)) ∧ u.answer = { code := .none } ∧
          u = { s with recov := u.recov, answer := u.answer }) ∧
        (let i := Instr.recoveryClearTamper m mac seq data
         let cleared := fun (t : State) => rd t R.TMP_LATCH = 0 ∧ rd t R.TMP_CTX = 0 ∧ rd t (R.TMP_TS 0) = 0 ∧ rd t (R.TMP_TS 1) = 0 ∧
          SameRegs [R.TMP_LATCH, R.TMP_CTX, R.TMP_TS 0, R.TMP_TS 1] s t ∧ t.slots = s.slots
         (s.otp.owner = none → ∃ t, exec i s = .next t ∧ reply t .none [] ∧ cleared t ∧ SameBytes s t) ∧
         (∀ h, s.otp.owner = some h →
          (nonce = none → ∃ t, exec i s = .next t ∧ reply t .sequence [] ∧ SameRegs [] s t ∧ SameBytes s t) ∧
          (∀ b, nonce = some b →
            let good := data.length = 128 ∧ sha256 (data.take 64) = h ∧ ecdsaVerify (data.take 64) (sha256 (b ++ [0x43, 0x54])) (data.drop 64) = true
            (good → ∃ t, exec i s = .next t ∧ reply t .none [] ∧ cleared t ∧ t.recov.nonce = none ∧ SameBytes s t) ∧
            (¬ good → ∃ t, exec i s = .next t ∧ reply t .auth [] ∧ SameRegs [] s t ∧ t.recov.nonce = none ∧ SameBytes s t)))))) ∧
    (∀ ok : Bool,
      let img := bytesAt s 0x80000000 0x1A0 ++ bytesAt s 0x800001A0 (s.recov.total - 0x1A0)
      let u := storeNor s 0x10000 img
      (s.recov.commit ≠ 1 → exec (.recoveryWriteComplete ok) s = .next s) ∧
      (s.recov.commit = 1 → ok = false → ∃ t, exec (.recoveryWriteComplete ok) s = .next t ∧ t.recov = { s.recov with commit := 3, code := codeNum .auth } ∧
        SamePoints s t ∧ ∀ a, a < imageAt ∨ imageAt + s.recov.total ≤ a → byteAt t a = byteAt s a) ∧
      (s.recov.commit = 1 → ok = true → ∃ t, exec (.recoveryWriteComplete ok) s = .next t ∧ SamePoints s t ∧ bytesAt t imageAt img.length = img ∧
        (packCheck u imageAt 16711680 false = .none → t.recov = { s.recov with commit := 2, code := 0 }) ∧
        (packCheck u imageAt 16711680 false ≠ .none → t.recov = { s.recov with commit := 3, code := codeNum .auth }))) ∧
    (s.recov.session = none → exec .recoverySessionTimeout s = .next s) ∧
    (s.recov.session.isSome = true → ∃ t, exec .recoverySessionTimeout s = .next t ∧ t.recov = { s.recov with session := none, seq := none, nonce := none } ∧
      t = { s with now := t.now, recov := t.recov } ∧ s.now ≤ t.now ∧ s.recov.at_ + 6000000000 ≤ t.now)
end

