-- ==== Sys2Proof/Laws/Tables.lean ====
section
/-! SUPPORT. Laws of the sparse tables, of the register words and of the byte store: a read after a write, and the canonical form. -/

namespace Sys2Proof.Machine

variable {α : Type} {d : Nat → α}

/-! ## Tables -/

theorem tget_dropWhile (m : Table α) {k k' : Nat} (h : k ≤ k') (hk : k' = k → tget d (m.dropWhile (fun e => decide (e.1 ≤ k))) k' = d k') :
    tget d (m.dropWhile (fun e => decide (e.1 ≤ k))) k' = if k' = k then d k' else tget d m k' := by
  by_cases e : k' = k
  · simp [e] at hk ⊢; exact hk
  · simp only [e, if_false]
    induction m with
    | nil => rfl
    | cons x r ih =>
      obtain ⟨j, u⟩ := x
      by_cases hj : j ≤ k
      · have h1 : ¬ k' = j := by omega
        have h2 : ¬ k' < j := by omega
        simp only [List.dropWhile, hj, decide_true, tget, h1, h2, if_false]
        exact ih (fun h => absurd h e)
      · simp [List.dropWhile, hj]

theorem tget_dropWhile_same (m : Table α) (k : Nat) : tget d (m.dropWhile (fun e => decide (e.1 ≤ k))) k = d k := by
  induction m with
  | nil => rfl
  | cons x r ih =>
    obtain ⟨j, u⟩ := x
    by_cases hj : j ≤ k
    · simpa [List.dropWhile, hj] using ih
    · have h1 : ¬ k = j := by omega
      have h2 : k < j := by omega
      simp [List.dropWhile, hj, tget, h1, h2]

variable [DecidableEq α]

/-- A key reads as what was put there. -/
@[simp] theorem tget_tput_same (m : Table α) (k : Nat) (v : α) : tget d (tput d m k v) k = v := by
  induction m with
  | nil => simp only [tput]; split <;> simp_all [tget]
  | cons x r ih =>
    obtain ⟨j, u⟩ := x
    simp only [tput]
    split
    · split <;> simp_all [tget]
      intro h; omega
    · split
      · split
        · rename_i h; rw [tget_dropWhile_same]; exact h.symm
        · simp [tget]
      · simp_all [tget]

/-- Every other key reads as before. -/
theorem tget_tput_ne (m : Table α) {k k' : Nat} (v : α) (h : k' ≠ k) : tget d (tput d m k v) k' = tget d m k' := by
  induction m with
  | nil => simp only [tput]; split <;> simp [tget, h]
  | cons x r ih =>
    obtain ⟨j, u⟩ := x
    simp only [tput]
    split
    · split
      · rfl
      · by_cases h1 : k' < k
        · have h2 : k' < j := by omega
          have h3 : ¬ k' = j := by omega
          simp [tget, h, h1, h2, h3]
        · simp [tget, h, h1]
    · split
      · rename_i hj; subst hj
        split
        · by_cases h1 : k' < k
          · have : ∀ m : Table α, tget d (m.dropWhile (fun e => decide (e.1 ≤ k))) k' = d k' := by
              intro m
              induction m with
              | nil => rfl
              | cons y s ihs =>
                obtain ⟨i, w⟩ := y
                by_cases hi : i ≤ k
                · simpa [List.dropWhile, hi] using ihs
                · have h2 : k' < i := by omega
                  have h3 : ¬ k' = i := by omega
                  simp [List.dropWhile, hi, tget, h2, h3]
            simp [this, tget, h, h1]
          · rw [tget_dropWhile r (by omega) (fun e => absurd e h)]
            simp [tget, h, h1]
        · by_cases h1 : k' < k
          · simp [tget, h, h1]
          · simp [tget, h, h1]
      · by_cases h1 : k' = j
        · simp [tget, h1]
        · by_cases h2 : k' < j
          · simp [tget, h1, h2]
          · simp [tget, h1, h2, ih]

theorem tget_tput (m : Table α) (k k' : Nat) (v : α) : tget d (tput d m k v) k' = if k' = k then v else tget d m k' := by
  by_cases h : k' = k
  · simp [h]
  · simp [h, tget_tput_ne m v h]

theorem twfFrom_mono {m : Table α} {b c : Nat} (h : twfFrom d b m = true) (hc : c ≤ b) : twfFrom d c m = true := by
  cases m with
  | nil => rfl
  | cons x r =>
    obtain ⟨j, u⟩ := x
    simp only [twfFrom, Bool.and_eq_true, decide_eq_true_eq] at h ⊢
    exact ⟨⟨by omega, h.1.2⟩, h.2⟩

theorem twfFrom_dropWhile {m : Table α} {b : Nat} (k : Nat) (h : twfFrom d b m = true) :
    twfFrom d b (m.dropWhile (fun e => decide (e.1 ≤ k))) = true := by
  induction m generalizing b with
  | nil => rfl
  | cons x r ih =>
    obtain ⟨j, u⟩ := x
    by_cases hj : j ≤ k
    · simp only [twfFrom, Bool.and_eq_true, decide_eq_true_eq] at h
      simp only [List.dropWhile, hj, decide_true]
      exact ih (twfFrom_mono h.2 (by omega))
    · simpa [List.dropWhile, hj] using h

theorem twfFrom_tput {m : Table α} {b k : Nat} (v : α) (h : twfFrom d b m = true) (hb : b ≤ k) : twfFrom d b (tput d m k v) = true := by
  induction m generalizing b with
  | nil =>
    simp only [tput]
    split
    · rfl
    · simp_all [twfFrom]
  | cons x r ih =>
    obtain ⟨j, u⟩ := x
    have h' := h
    simp only [twfFrom, Bool.and_eq_true, decide_eq_true_eq] at h
    simp only [tput]
    split
    · split
      · exact h'
      · rename_i hk hv
        simp only [twfFrom, Bool.and_eq_true, decide_eq_true_eq]
        exact ⟨⟨hb, hv⟩, ⟨by omega, h.1.2⟩, h.2⟩
    · split
      · rename_i hk hj; subst hj
        split
        · exact twfFrom_dropWhile k (twfFrom_mono h.2 (by omega))
        · rename_i hv
          simp only [twfFrom, Bool.and_eq_true, decide_eq_true_eq]
          exact ⟨⟨hb, hv⟩, h.2⟩
      · rename_i hk hj
        simp only [twfFrom, Bool.and_eq_true, decide_eq_true_eq]
        exact ⟨h.1, ih h.2 (by omega)⟩

/-- Putting keeps the canonical form. -/
theorem twf_tput {m : Table α} (k : Nat) (v : α) (h : twf d m = true) : twf d (tput d m k v) = true := twfFrom_tput v h (Nat.zero_le k)

omit [DecidableEq α] in
theorem tget_tkeepFrom_low (p : Nat → Bool) (m : Table α) {b k : Nat} (h : k < b) : tget d (tkeepFrom p b m) k = d k := by
  induction m generalizing b with
  | nil => rfl
  | cons e r ih =>
    obtain ⟨j, v⟩ := e
    unfold tkeepFrom
    split
    · exact ih h
    · have h1 : k ≠ j := by omega
      have h2 : k < j := by omega
      split
      · simp [tget, h1, h2]
      · exact ih (by omega)

omit [DecidableEq α] in
theorem tget_tkeepFrom (p : Nat → Bool) (m : Table α) {b k : Nat} (h : b ≤ k) :
    tget d (tkeepFrom p b m) k = if p k then tget d m k else d k := by
  induction m generalizing b with
  | nil => simp [tkeepFrom, tget]
  | cons e r ih =>
    obtain ⟨j, v⟩ := e
    unfold tkeepFrom
    by_cases h1 : j < b
    · have h2 : k ≠ j := by omega
      have h3 : ¬ k < j := by omega
      simp [h1, tget, h2, h3, ih h]
    · simp only [h1, if_false]
      by_cases h2 : k < j
      · have h4 : k ≠ j := by omega
        have h5 : tget d (tkeepFrom p (j + 1) r) k = d k := tget_tkeepFrom_low p r (by omega)
        split <;> simp [tget, h4, h2, h5]
      · by_cases h3 : k = j
        · subst h3
          have h5 : tget d (tkeepFrom p (k + 1) r) k = d k := tget_tkeepFrom_low p r (by omega)
          by_cases hp : p k = true <;> simp [hp, tget, h5]
        · have h4 : j + 1 ≤ k := by omega
          by_cases hp : p j = true <;> simp [hp, tget, h2, h3, ih h4]

omit [DecidableEq α] in
/-- Lookups after keeping part of a table. -/
theorem tget_tkeep (p : Nat → Bool) (m : Table α) (k : Nat) : tget d (tkeep p m) k = if p k then tget d m k else d k :=
  tget_tkeepFrom p m (Nat.zero_le k)

/-! ## Register words -/

@[simp] theorem rd_wr_same (s : State) (k : Nat) (v : Word) : rd (wr s k v) k = v := by simp [rd, wr]
theorem rd_wr_ne (s : State) {k k' : Nat} (v : Word) (h : k' ≠ k) : rd (wr s k v) k' = rd s k' := by simp [rd, wr, tget_tput_ne _ _ h]
theorem rd_wr (s : State) (k k' : Nat) (v : Word) : rd (wr s k v) k' = if k' = k then v else rd s k' := by simp [rd, wr, tget_tput]
theorem rd_setFld_ne (s : State) {k k' : Nat} (f : Fld) (v : Nat) (h : k' ≠ k) : rd (setFld s k f v) k' = rd s k' := rd_wr_ne s _ h
theorem rd_setBit_ne (s : State) {k k' : Nat} (n : Nat) (b : Bool) (h : k' ≠ k) : rd (setBit s k n b) k' = rd s k' := rd_wr_ne s _ h
@[simp] theorem rd_setFld_same (s : State) (k : Nat) (f : Fld) (v : Nat) : rd (setFld s k f v) k = withBits (rd s k) f.hi f.lo v := rd_wr_same s k _

/-! ## The byte store -/

theorem mfind_mput_same (m : List Host.Cell) (a : Nat) (v : Byte) : mfind (mput m a v) a = some v := by
  induction m with
  | nil => simp [mput, mfind]
  | cons x r ih =>
    obtain ⟨j, u⟩ := x
    simp only [mput]
    split
    · simp [mfind]
    · split
      · simp [mfind]
      · simp_all [mfind]

theorem mfind_mput_ne (m : List Host.Cell) {a b : Nat} (v : Byte) (h : b ≠ a) : mfind (mput m a v) b = mfind m b := by
  induction m with
  | nil => simp [mput, mfind, h]
  | cons x r ih =>
    obtain ⟨j, u⟩ := x
    simp only [mput]
    split
    · by_cases h1 : b < a
      · have h2 : b < j := by omega
        have h3 : ¬ b = j := by omega
        simp [mfind, h, h1, h2, h3]
      · simp [mfind, h, h1]
    · split
      · rename_i hj; subst hj; simp [mfind, h]
      · simp [mfind, ih]

theorem mfind_dropWhile_same (m : List Host.Cell) (a : Nat) : mfind (m.dropWhile (fun e => decide (e.1 ≤ a))) a = none := by
  induction m with
  | nil => rfl
  | cons x r ih =>
    obtain ⟨j, u⟩ := x
    by_cases hj : j ≤ a
    · simpa [List.dropWhile, hj] using ih
    · have h1 : ¬ a = j := by omega
      have h2 : a < j := by omega
      simp [List.dropWhile, hj, mfind, h1, h2]

theorem mfind_dropWhile_ne (m : List Host.Cell) {a b : Nat} (h : b ≠ a) :
    mfind (m.dropWhile (fun e => decide (e.1 ≤ a))) b = if b < a then none else mfind m b := by
  induction m with
  | nil => simp [mfind]
  | cons x r ih =>
    obtain ⟨j, u⟩ := x
    by_cases hj : j ≤ a
    · simp only [List.dropWhile, hj, decide_true, ih]
      by_cases hb : b < a
      · simp [hb]
      · have h1 : ¬ b = j := by omega
        have h2 : ¬ b < j := by omega
        simp [hb, mfind, h1, h2]
    · by_cases hb : b < a
      · have h1 : ¬ b = j := by omega
        have h2 : b < j := by omega
        simp [List.dropWhile, hj, hb, mfind, h1, h2]
      · simp [List.dropWhile, hj, hb]

theorem mfind_mdel_same (m : List Host.Cell) (a : Nat) : mfind (mdel m a) a = none := by
  induction m with
  | nil => rfl
  | cons x r ih =>
    obtain ⟨j, u⟩ := x
    simp only [mdel]
    split
    · have : ¬ a = j := by omega
      simp_all [mfind]
    · split
      · exact mfind_dropWhile_same r a
      · simp_all [mfind]

theorem mfind_mdel_ne (m : List Host.Cell) {a b : Nat} (h : b ≠ a) : mfind (mdel m a) b = mfind m b := by
  induction m with
  | nil => rfl
  | cons x r ih =>
    obtain ⟨j, u⟩ := x
    simp only [mdel]
    split
    · rfl
    · split
      · rename_i hj; subst hj
        rw [mfind_dropWhile_ne r h]
        by_cases hb : b < a
        · simp [mfind, h, hb]
        · simp [mfind, h, hb]
      · simp [mfind, ih]

/-- A byte reads as what was stored there. -/
theorem byteAt_putByte_same (s : State) (a : Nat) (v : Byte) (h : 0x20000 ≤ a) : byteAt (putByte s a v) a = v := by
  have h0 : ¬ a < 0x20000 := by omega
  unfold byteAt putByte
  by_cases e : (norErased a && v == 0xFF) = true
  · simp only [e, if_true, h0, if_false, mfind_mdel_same]
    simp only [Bool.and_eq_true, beq_iff_eq] at e
    simp [e.1, e.2]
  · simp only [e, Bool.false_eq_true, if_false, h0]
    rw [mfind_mput_same]

/-- Every other byte reads as before. -/
theorem byteAt_putByte_ne (s : State) {a b : Nat} (v : Byte) (h : b ≠ a) : byteAt (putByte s a v) b = byteAt s b := by
  unfold byteAt putByte
  by_cases e : (norErased a && v == 0xFF) = true
  · simp only [e, if_true, mfind_mdel_ne _ h]
  · simp only [e, Bool.false_eq_true, if_false, mfind_mput_ne _ v h]

/-- Bytes outside a stored range read as before. -/
theorem byteAt_putBytes_outside (s : State) (a : Nat) (l : List Byte) {b : Nat} (h : b < a ∨ a + l.length ≤ b) :
    byteAt (putBytes s a l) b = byteAt s b := by
  induction l generalizing s a with
  | nil => rfl
  | cons x r ih =>
    simp only [List.length_cons] at h
    rw [putBytes, ih _ _ (by omega), byteAt_putByte_ne _ _ (by omega)]

theorem mwfFrom_mono {m : List Host.Cell} {b c : Nat} (h : mwfFrom b m = true) (hc : c ≤ b) : mwfFrom c m = true := by
  cases m with
  | nil => rfl
  | cons x r =>
    obtain ⟨j, u⟩ := x
    simp only [mwfFrom, Bool.and_eq_true, decide_eq_true_eq] at h ⊢
    exact ⟨⟨by omega, h.1.2⟩, h.2⟩

theorem mwfFrom_dropWhile {m : List Host.Cell} {b : Nat} (a : Nat) (h : mwfFrom b m = true) :
    mwfFrom b (m.dropWhile (fun e => decide (e.1 ≤ a))) = true := by
  induction m generalizing b with
  | nil => rfl
  | cons x r ih =>
    obtain ⟨j, u⟩ := x
    by_cases hj : j ≤ a
    · simp only [mwfFrom, Bool.and_eq_true, decide_eq_true_eq] at h
      simp only [List.dropWhile, hj, decide_true]
      exact ih (mwfFrom_mono h.2 (by omega))
    · simpa [List.dropWhile, hj] using h

theorem mwfFrom_mput {m : List Host.Cell} {b a : Nat} {v : Byte} (h : mwfFrom b m = true) (hb : b ≤ a) (hv : (norErased a && v == 0xFF) = false) :
    mwfFrom b (mput m a v) = true := by
  induction m generalizing b with
  | nil => simp only [mput, mwfFrom, hv]; simp [hb]
  | cons x r ih =>
    obtain ⟨j, u⟩ := x
    simp only [mwfFrom, Bool.and_eq_true, decide_eq_true_eq] at h
    simp only [mput]
    split
    · simp only [mwfFrom, Bool.and_eq_true, decide_eq_true_eq, hv]
      exact ⟨⟨hb, by simp⟩, ⟨by omega, h.1.2⟩, h.2⟩
    · split
      · rename_i hj; subst hj
        simp only [mwfFrom, Bool.and_eq_true, decide_eq_true_eq, hv]
        exact ⟨⟨hb, by simp⟩, h.2⟩
      · simp only [mwfFrom, Bool.and_eq_true, decide_eq_true_eq]
        exact ⟨h.1, ih h.2 (by omega)⟩

theorem mwfFrom_mdel {m : List Host.Cell} {b : Nat} (a : Nat) (h : mwfFrom b m = true) : mwfFrom b (mdel m a) = true := by
  induction m generalizing b with
  | nil => rfl
  | cons x r ih =>
    obtain ⟨j, u⟩ := x
    have h' := h
    simp only [mwfFrom, Bool.and_eq_true, decide_eq_true_eq] at h
    simp only [mdel]
    split
    · exact h'
    · split
      · exact mwfFrom_dropWhile a (mwfFrom_mono h.2 (by omega))
      · simp only [mwfFrom, Bool.and_eq_true, decide_eq_true_eq]
        exact ⟨h.1, ih h.2⟩

/-- Storing a byte keeps the canonical form. -/
theorem wf_putByte {s : State} (a : Nat) (v : Byte) (h : Memory.wf s.mem = true) : Memory.wf (putByte s a v).mem = true := by
  unfold putByte Memory.wf at *
  by_cases e : (norErased a && v == 0xFF) = true
  · simp only [e, if_true]; exact mwfFrom_mdel a h
  · simp only [e, Bool.false_eq_true, if_false]; exact mwfFrom_mput h (Nat.zero_le a) (by simpa using e)

/-- Storing bytes keeps the canonical form. -/
theorem wf_putBytes {s : State} (a : Nat) (l : List Byte) (h : Memory.wf s.mem = true) : Memory.wf (putBytes s a l).mem = true := by
  induction l generalizing s a with
  | nil => exact h
  | cons x r ih => exact ih (a + 1) (wf_putByte a x h)

/-- The bytes that a module reset keeps are in canonical form. -/
theorem mwfFrom_filter {m : List Host.Cell} {b : Nat} (p : Host.Cell → Bool) (h : mwfFrom b m = true) : mwfFrom b (m.filter p) = true := by
  induction m generalizing b with
  | nil => rfl
  | cons x r ih =>
    obtain ⟨j, u⟩ := x
    simp only [mwfFrom, Bool.and_eq_true, decide_eq_true_eq] at h
    simp only [List.filter]
    split
    · simp only [mwfFrom, Bool.and_eq_true, decide_eq_true_eq]
      exact ⟨h.1, ih h.2⟩
    · exact ih (mwfFrom_mono h.2 (by omega))

theorem reset_wf : Memory.wf State.reset.mem = true := rfl

end Sys2Proof.Machine
end

