-- ==== Sys2Proof/Laws/Bits.lean ====
section
/-! SUPPORT. Laws of bit fields: a field reads as it was set, and a field that shares no bit with it reads as before. -/

namespace Sys2Proof.Machine

theorem natBits_testBit (n hi lo i : Nat) : (natBits n hi lo).testBit i = (decide (i < hi + 1 - lo) && n.testBit (lo + i)) := by
  simp [natBits, Nat.testBit_mod_two_pow, Nat.testBit_shiftRight]

/-- The number in a field lies below two to its width. -/
theorem bits_lt (w : Word) (hi lo : Nat) : bits w hi lo < 2 ^ (hi + 1 - lo) := Nat.mod_lt _ (Nat.two_pow_pos _)

theorem fld_lt (s : State) (k : Nat) (f : Fld) : fld s k f < 2 ^ (f.hi + 1 - f.lo) := bits_lt _ _ _

theorem withBits_toNat_testBit (w : Word) {hi lo : Nat} (v i : Nat) (h : lo ≤ hi) (h32 : hi < 32) :
    (withBits w hi lo v).toNat.testBit i = if lo ≤ i ∧ i ≤ hi then v.testBit (i - lo) else w.toNat.testBit i := by
  have e : w.toNat = 2 ^ (hi + 1) * (w.toNat / 2 ^ (hi + 1)) + (2 ^ lo * natBits w.toNat hi lo + w.toNat % 2 ^ lo) := by
    have h1 : natBits w.toNat hi lo = w.toNat % 2 ^ (hi + 1) / 2 ^ lo := by
      apply Nat.eq_of_testBit_eq
      intro j
      rw [natBits_testBit, Nat.testBit_div_two_pow, Nat.testBit_mod_two_pow]
      congr 1
      · simp; omega
      · rw [Nat.add_comm]
    have h2 := Nat.div_add_mod (w.toNat % 2 ^ (hi + 1)) (2 ^ lo)
    rw [Nat.mod_mod_of_dvd _ (Nat.pow_dvd_pow 2 (by omega : lo ≤ hi + 1))] at h2
    rw [h1, h2, Nat.div_add_mod]
  have hb := natBits_testBit w.toNat hi lo
  have hlt : natBits w.toNat hi lo < 2 ^ (hi + 1 - lo) := Nat.mod_lt _ (Nat.two_pow_pos _)
  have hv : v % 2 ^ (hi + 1 - lo) < 2 ^ (hi + 1 - lo) := Nat.mod_lt _ (Nat.two_pow_pos _)
  have hc : w.toNat % 2 ^ lo < 2 ^ lo := Nat.mod_lt _ (Nat.two_pow_pos _)
  have hp : 2 ^ (hi + 1) = 2 ^ lo * 2 ^ (hi + 1 - lo) := by rw [← Nat.pow_add]; congr 1; omega
  have val : w.toNat - natBits w.toNat hi lo * 2 ^ lo + (v % 2 ^ (hi + 1 - lo)) * 2 ^ lo =
      2 ^ (hi + 1) * (w.toNat / 2 ^ (hi + 1)) + (2 ^ lo * (v % 2 ^ (hi + 1 - lo)) + w.toNat % 2 ^ lo) := by
    rw [Nat.mul_comm (v % _) (2 ^ lo), Nat.mul_comm (natBits w.toNat hi lo) (2 ^ lo)]
    omega
  have hs : ∀ x, x < 2 ^ (hi + 1 - lo) → 2 ^ lo * x + w.toNat % 2 ^ lo < 2 ^ (hi + 1) := by
    intro x hx
    rw [hp]
    calc 2 ^ lo * x + w.toNat % 2 ^ lo < 2 ^ lo * x + 2 ^ lo := by omega
      _ = 2 ^ lo * (x + 1) := by rw [Nat.mul_add, Nat.mul_one]
      _ ≤ 2 ^ lo * 2 ^ (hi + 1 - lo) := Nat.mul_le_mul_left _ hx
  have key : ∀ x, x < 2 ^ (hi + 1 - lo) → ∀ j, (2 ^ (hi + 1) * (w.toNat / 2 ^ (hi + 1)) + (2 ^ lo * x + w.toNat % 2 ^ lo)).testBit j =
      if j ≤ hi then (if j < lo then (w.toNat % 2 ^ lo).testBit j else x.testBit (j - lo)) else w.toNat.testBit j := by
    intro x hx j
    rw [Nat.testBit_two_pow_mul_add _ (hs x hx)]
    by_cases hj : j ≤ hi
    · have : j < hi + 1 := by omega
      simp only [this, if_true, hj]
      rw [Nat.testBit_two_pow_mul_add _ hc]
    · have : ¬ j < hi + 1 := by omega
      simp only [this, if_false, hj]
      rw [Nat.testBit_div_two_pow]
      congr 1; omega
  unfold withBits
  simp only [BitVec.toNat_ofNat]
  rw [Nat.testBit_mod_two_pow, val, key _ hv]
  by_cases hi1 : i ≤ hi
  · have : i < 32 := by omega
    simp only [hi1, if_true, this, decide_true, Bool.true_and]
    by_cases hl : i < lo
    · have : ¬ lo ≤ i := by omega
      simp only [hl, if_true, this, false_and, if_false]
      rw [Nat.testBit_mod_two_pow]; simp [hl]
    · have : lo ≤ i := by omega
      simp only [hl, if_false, this, true_and, if_true]
      rw [Nat.testBit_mod_two_pow]
      have : i - lo < hi + 1 - lo := by omega
      simp [this]
  · simp only [hi1, if_false, and_false]
    by_cases h3 : i < 32
    · simp [h3]
    · have : w.toNat.testBit i = false := Nat.testBit_lt_two_pow (Nat.lt_of_lt_of_le w.isLt (Nat.pow_le_pow_right (by omega) (by omega)))
      simp [h3, this]

/-- A field reads as it was set, cut to its width. -/
theorem bits_withBits_same (w : Word) {hi lo : Nat} (v : Nat) (h : lo ≤ hi) (h32 : hi < 32) :
    bits (withBits w hi lo v) hi lo = v % 2 ^ (hi + 1 - lo) := by
  apply Nat.eq_of_testBit_eq
  intro i
  rw [bits, natBits_testBit, withBits_toNat_testBit w v _ h h32, Nat.testBit_mod_two_pow]
  by_cases hi1 : i < hi + 1 - lo
  · have : lo + i ≤ hi := by omega
    simp [hi1, this]
  · simp [hi1]

/-- A field that shares no bit with the one set reads as before. -/
theorem bits_withBits_ne (w : Word) {hi lo a b : Nat} (v : Nat) (h : lo ≤ hi) (h32 : hi < 32) (hd : a < lo ∨ hi < b) :
    bits (withBits w hi lo v) a b = bits w a b := by
  apply Nat.eq_of_testBit_eq
  intro i
  rw [bits, bits, natBits_testBit, natBits_testBit, withBits_toNat_testBit w v _ h h32]
  by_cases hi1 : i < a + 1 - b
  · have : ¬ (lo ≤ b + i ∧ b + i ≤ hi) := by omega
    simp [hi1, this]
  · simp [hi1]

theorem withBits_getLsbD (w : Word) {hi lo : Nat} (v i : Nat) (h : lo ≤ hi) (h32 : hi < 32) :
    (withBits w hi lo v).getLsbD i = if lo ≤ i ∧ i ≤ hi then v.testBit (i - lo) else w.getLsbD i :=
  withBits_toNat_testBit w v i h h32

theorem bit_withBits (w : Word) {hi lo : Nat} (v i : Nat) (h : lo ≤ hi) (h32 : hi < 32) :
    bit (withBits w hi lo v) i = if lo ≤ i ∧ i ≤ hi then v.testBit (i - lo) else bit w i :=
  withBits_toNat_testBit w v i h h32

/-- Setting a field to what it holds changes nothing. -/
theorem withBits_self (w : Word) {hi lo : Nat} (h : lo ≤ hi) (h32 : hi < 32) : withBits w hi lo (bits w hi lo) = w := by
  apply BitVec.eq_of_getLsbD_eq
  intro i _
  rw [withBits_getLsbD w _ i h h32, bits, natBits_testBit]
  split
  · rename_i hi1
    have h1 : i - lo < hi + 1 - lo := by omega
    have h2 : lo + (i - lo) = i := by omega
    simp [h1, h2, BitVec.getLsbD]
  · rfl

/-! ## Fields of registers -/

theorem fld_setFld_same (s : State) (k : Nat) (f : Fld) (v : Nat) (h : f.lo ≤ f.hi) (h32 : f.hi < 32) :
    fld (setFld s k f v) k f = v % 2 ^ (f.hi + 1 - f.lo) := by
  simp [fld, setFld, bits_withBits_same _ _ h h32]

theorem fld_setFld_ne (s : State) {k k' : Nat} (f g : Fld) (v : Nat) (h : k' ≠ k) : fld (setFld s k f v) k' g = fld s k' g := by
  simp [fld, setFld, rd_wr_ne _ _ h]

theorem fld_setFld_other (s : State) (k : Nat) (f g : Fld) (v : Nat) (h : f.lo ≤ f.hi) (h32 : f.hi < 32) (hd : g.hi < f.lo ∨ f.hi < g.lo) :
    fld (setFld s k f v) k g = fld s k g := by
  simp [fld, setFld, bits_withBits_ne _ _ h h32 hd]

theorem fld_wr_ne (s : State) {k k' : Nat} (v : Word) (g : Fld) (h : k' ≠ k) : fld (wr s k v) k' g = fld s k' g := by
  simp [fld, rd_wr_ne _ _ h]

end Sys2Proof.Machine
end

