-- ==== Sys2Proof/Laws/State.lean ====
section
/-! SUPPORT. What the named updates of State leave alone: one lemma for each update and each field that it does not touch. -/

namespace Sys2Proof.Machine

/-! ## wr -/

@[simp] theorem wr_pending (s : State) (k : Nat) (v : Word) : (wr s k v).pending = s.pending := rfl
@[simp] theorem wr_now (s : State) (k : Nat) (v : Word) : (wr s k v).now = s.now := rfl
@[simp] theorem wr_nextTick (s : State) (k : Nat) (v : Word) : (wr s k v).nextTick = s.nextTick := rfl
@[simp] theorem wr_nextGrid (s : State) (k : Nat) (v : Word) : (wr s k v).nextGrid = s.nextGrid := rfl
@[simp] theorem wr_rwlLocked (s : State) (k : Nat) (v : Word) : (wr s k v).rwlLocked = s.rwlLocked := rfl
@[simp] theorem wr_mem (s : State) (k : Nat) (v : Word) : (wr s k v).mem = s.mem := rfl
@[simp] theorem wr_resets (s : State) (k : Nat) (v : Word) : (wr s k v).resets = s.resets := rfl
@[simp] theorem wr_free (s : State) (k : Nat) (v : Word) : (wr s k v).free = s.free := rfl
@[simp] theorem wr_drawn (s : State) (k : Nat) (v : Word) : (wr s k v).drawn = s.drawn := rfl
@[simp] theorem wr_answer (s : State) (k : Nat) (v : Word) : (wr s k v).answer = s.answer := rfl
@[simp] theorem wr_holds (s : State) (k : Nat) (v : Word) : (wr s k v).holds = s.holds := rfl
@[simp] theorem wr_stages (s : State) (k : Nat) (v : Word) : (wr s k v).stages = s.stages := rfl
@[simp] theorem wr_evtTarget (s : State) (k : Nat) (v : Word) : (wr s k v).evtTarget = s.evtTarget := rfl
@[simp] theorem wr_pfwLevel (s : State) (k : Nat) (v : Word) : (wr s k v).pfwLevel = s.pfwLevel := rfl
@[simp] theorem wr_exiting (s : State) (k : Nat) (v : Word) : (wr s k v).exiting = s.exiting := rfl
@[simp] theorem wr_points (s : State) (k : Nat) (v : Word) : (wr s k v).points = s.points := rfl
@[simp] theorem wr_forces (s : State) (k : Nat) (v : Word) : (wr s k v).forces = s.forces := rfl
@[simp] theorem wr_nvrForces (s : State) (k : Nat) (v : Word) : (wr s k v).nvrForces = s.nvrForces := rfl
@[simp] theorem wr_evLog (s : State) (k : Nat) (v : Word) : (wr s k v).evLog = s.evLog := rfl
@[simp] theorem wr_winHolds (s : State) (k : Nat) (v : Word) : (wr s k v).winHolds = s.winHolds := rfl
@[simp] theorem wr_winStages (s : State) (k : Nat) (v : Word) : (wr s k v).winStages = s.winStages := rfl
@[simp] theorem wr_moulds (s : State) (k : Nat) (v : Word) : (wr s k v).moulds = s.moulds := rfl
@[simp] theorem wr_scan (s : State) (k : Nat) (v : Word) : (wr s k v).scan = s.scan := rfl
@[simp] theorem wr_xch (s : State) (k : Nat) (v : Word) : (wr s k v).xch = s.xch := rfl
@[simp] theorem wr_slots (s : State) (k : Nat) (v : Word) : (wr s k v).slots = s.slots := rfl
@[simp] theorem wr_loops (s : State) (k : Nat) (v : Word) : (wr s k v).loops = s.loops := rfl
@[simp] theorem wr_loopBusy (s : State) (k : Nat) (v : Word) : (wr s k v).loopBusy = s.loopBusy := rfl
@[simp] theorem wr_meter (s : State) (k : Nat) (v : Word) : (wr s k v).meter = s.meter := rfl
@[simp] theorem wr_paused (s : State) (k : Nat) (v : Word) : (wr s k v).paused = s.paused := rfl
@[simp] theorem wr_buses (s : State) (k : Nat) (v : Word) : (wr s k v).buses = s.buses := rfl
@[simp] theorem wr_fabric (s : State) (k : Nat) (v : Word) : (wr s k v).fabric = s.fabric := rfl
@[simp] theorem wr_lockTimers (s : State) (k : Nat) (v : Word) : (wr s k v).lockTimers = s.lockTimers := rfl
@[simp] theorem wr_ladle (s : State) (k : Nat) (v : Word) : (wr s k v).ladle = s.ladle := rfl
@[simp] theorem wr_queues (s : State) (k : Nat) (v : Word) : (wr s k v).queues = s.queues := rfl
@[simp] theorem wr_ports (s : State) (k : Nat) (v : Word) : (wr s k v).ports = s.ports := rfl
@[simp] theorem wr_stations (s : State) (k : Nat) (v : Word) : (wr s k v).stations = s.stations := rfl
@[simp] theorem wr_snapshot (s : State) (k : Nat) (v : Word) : (wr s k v).snapshot = s.snapshot := rfl
@[simp] theorem wr_stationHold (s : State) (k : Nat) (v : Word) : (wr s k v).stationHold = s.stationHold := rfl
@[simp] theorem wr_twin (s : State) (k : Nat) (v : Word) : (wr s k v).twin = s.twin := rfl
@[simp] theorem wr_wake (s : State) (k : Nat) (v : Word) : (wr s k v).wake = s.wake := rfl
@[simp] theorem wr_hosts (s : State) (k : Nat) (v : Word) : (wr s k v).hosts = s.hosts := rfl
@[simp] theorem wr_nrap (s : State) (k : Nat) (v : Word) : (wr s k v).nrap = s.nrap := rfl
@[simp] theorem wr_follower (s : State) (k : Nat) (v : Word) : (wr s k v).follower = s.follower := rfl
@[simp] theorem wr_ptp (s : State) (k : Nat) (v : Word) : (wr s k v).ptp = s.ptp := rfl
@[simp] theorem wr_rtc (s : State) (k : Nat) (v : Word) : (wr s k v).rtc = s.rtc := rfl
@[simp] theorem wr_otp (s : State) (k : Nat) (v : Word) : (wr s k v).otp = s.otp := rfl
@[simp] theorem wr_crypto (s : State) (k : Nat) (v : Word) : (wr s k v).crypto = s.crypto := rfl
@[simp] theorem wr_norGen (s : State) (k : Nat) (v : Word) : (wr s k v).norGen = s.norGen := rfl
@[simp] theorem wr_dramGen (s : State) (k : Nat) (v : Word) : (wr s k v).dramGen = s.dramGen := rfl
@[simp] theorem wr_boot (s : State) (k : Nat) (v : Word) : (wr s k v).boot = s.boot := rfl
@[simp] theorem wr_upd (s : State) (k : Nat) (v : Word) : (wr s k v).upd = s.upd := rfl
@[simp] theorem wr_recov (s : State) (k : Nat) (v : Word) : (wr s k v).recov = s.recov := rfl

/-! ## setFld -/

@[simp] theorem setFld_pending (s : State) (k : Nat) (f : Fld) (v : Nat) : (setFld s k f v).pending = s.pending := rfl
@[simp] theorem setFld_now (s : State) (k : Nat) (f : Fld) (v : Nat) : (setFld s k f v).now = s.now := rfl
@[simp] theorem setFld_nextTick (s : State) (k : Nat) (f : Fld) (v : Nat) : (setFld s k f v).nextTick = s.nextTick := rfl
@[simp] theorem setFld_nextGrid (s : State) (k : Nat) (f : Fld) (v : Nat) : (setFld s k f v).nextGrid = s.nextGrid := rfl
@[simp] theorem setFld_rwlLocked (s : State) (k : Nat) (f : Fld) (v : Nat) : (setFld s k f v).rwlLocked = s.rwlLocked := rfl
@[simp] theorem setFld_mem (s : State) (k : Nat) (f : Fld) (v : Nat) : (setFld s k f v).mem = s.mem := rfl
@[simp] theorem setFld_resets (s : State) (k : Nat) (f : Fld) (v : Nat) : (setFld s k f v).resets = s.resets := rfl
@[simp] theorem setFld_free (s : State) (k : Nat) (f : Fld) (v : Nat) : (setFld s k f v).free = s.free := rfl
@[simp] theorem setFld_drawn (s : State) (k : Nat) (f : Fld) (v : Nat) : (setFld s k f v).drawn = s.drawn := rfl
@[simp] theorem setFld_answer (s : State) (k : Nat) (f : Fld) (v : Nat) : (setFld s k f v).answer = s.answer := rfl
@[simp] theorem setFld_holds (s : State) (k : Nat) (f : Fld) (v : Nat) : (setFld s k f v).holds = s.holds := rfl
@[simp] theorem setFld_stages (s : State) (k : Nat) (f : Fld) (v : Nat) : (setFld s k f v).stages = s.stages := rfl
@[simp] theorem setFld_evtTarget (s : State) (k : Nat) (f : Fld) (v : Nat) : (setFld s k f v).evtTarget = s.evtTarget := rfl
@[simp] theorem setFld_pfwLevel (s : State) (k : Nat) (f : Fld) (v : Nat) : (setFld s k f v).pfwLevel = s.pfwLevel := rfl
@[simp] theorem setFld_exiting (s : State) (k : Nat) (f : Fld) (v : Nat) : (setFld s k f v).exiting = s.exiting := rfl
@[simp] theorem setFld_points (s : State) (k : Nat) (f : Fld) (v : Nat) : (setFld s k f v).points = s.points := rfl
@[simp] theorem setFld_forces (s : State) (k : Nat) (f : Fld) (v : Nat) : (setFld s k f v).forces = s.forces := rfl
@[simp] theorem setFld_nvrForces (s : State) (k : Nat) (f : Fld) (v : Nat) : (setFld s k f v).nvrForces = s.nvrForces := rfl
@[simp] theorem setFld_evLog (s : State) (k : Nat) (f : Fld) (v : Nat) : (setFld s k f v).evLog = s.evLog := rfl
@[simp] theorem setFld_winHolds (s : State) (k : Nat) (f : Fld) (v : Nat) : (setFld s k f v).winHolds = s.winHolds := rfl
@[simp] theorem setFld_winStages (s : State) (k : Nat) (f : Fld) (v : Nat) : (setFld s k f v).winStages = s.winStages := rfl
@[simp] theorem setFld_moulds (s : State) (k : Nat) (f : Fld) (v : Nat) : (setFld s k f v).moulds = s.moulds := rfl
@[simp] theorem setFld_scan (s : State) (k : Nat) (f : Fld) (v : Nat) : (setFld s k f v).scan = s.scan := rfl
@[simp] theorem setFld_xch (s : State) (k : Nat) (f : Fld) (v : Nat) : (setFld s k f v).xch = s.xch := rfl
@[simp] theorem setFld_slots (s : State) (k : Nat) (f : Fld) (v : Nat) : (setFld s k f v).slots = s.slots := rfl
@[simp] theorem setFld_loops (s : State) (k : Nat) (f : Fld) (v : Nat) : (setFld s k f v).loops = s.loops := rfl
@[simp] theorem setFld_loopBusy (s : State) (k : Nat) (f : Fld) (v : Nat) : (setFld s k f v).loopBusy = s.loopBusy := rfl
@[simp] theorem setFld_meter (s : State) (k : Nat) (f : Fld) (v : Nat) : (setFld s k f v).meter = s.meter := rfl
@[simp] theorem setFld_paused (s : State) (k : Nat) (f : Fld) (v : Nat) : (setFld s k f v).paused = s.paused := rfl
@[simp] theorem setFld_buses (s : State) (k : Nat) (f : Fld) (v : Nat) : (setFld s k f v).buses = s.buses := rfl
@[simp] theorem setFld_fabric (s : State) (k : Nat) (f : Fld) (v : Nat) : (setFld s k f v).fabric = s.fabric := rfl
@[simp] theorem setFld_lockTimers (s : State) (k : Nat) (f : Fld) (v : Nat) : (setFld s k f v).lockTimers = s.lockTimers := rfl
@[simp] theorem setFld_ladle (s : State) (k : Nat) (f : Fld) (v : Nat) : (setFld s k f v).ladle = s.ladle := rfl
@[simp] theorem setFld_queues (s : State) (k : Nat) (f : Fld) (v : Nat) : (setFld s k f v).queues = s.queues := rfl
@[simp] theorem setFld_ports (s : State) (k : Nat) (f : Fld) (v : Nat) : (setFld s k f v).ports = s.ports := rfl
@[simp] theorem setFld_stations (s : State) (k : Nat) (f : Fld) (v : Nat) : (setFld s k f v).stations = s.stations := rfl
@[simp] theorem setFld_snapshot (s : State) (k : Nat) (f : Fld) (v : Nat) : (setFld s k f v).snapshot = s.snapshot := rfl
@[simp] theorem setFld_stationHold (s : State) (k : Nat) (f : Fld) (v : Nat) : (setFld s k f v).stationHold = s.stationHold := rfl
@[simp] theorem setFld_twin (s : State) (k : Nat) (f : Fld) (v : Nat) : (setFld s k f v).twin = s.twin := rfl
@[simp] theorem setFld_wake (s : State) (k : Nat) (f : Fld) (v : Nat) : (setFld s k f v).wake = s.wake := rfl
@[simp] theorem setFld_hosts (s : State) (k : Nat) (f : Fld) (v : Nat) : (setFld s k f v).hosts = s.hosts := rfl
@[simp] theorem setFld_nrap (s : State) (k : Nat) (f : Fld) (v : Nat) : (setFld s k f v).nrap = s.nrap := rfl
@[simp] theorem setFld_follower (s : State) (k : Nat) (f : Fld) (v : Nat) : (setFld s k f v).follower = s.follower := rfl
@[simp] theorem setFld_ptp (s : State) (k : Nat) (f : Fld) (v : Nat) : (setFld s k f v).ptp = s.ptp := rfl
@[simp] theorem setFld_rtc (s : State) (k : Nat) (f : Fld) (v : Nat) : (setFld s k f v).rtc = s.rtc := rfl
@[simp] theorem setFld_otp (s : State) (k : Nat) (f : Fld) (v : Nat) : (setFld s k f v).otp = s.otp := rfl
@[simp] theorem setFld_crypto (s : State) (k : Nat) (f : Fld) (v : Nat) : (setFld s k f v).crypto = s.crypto := rfl
@[simp] theorem setFld_norGen (s : State) (k : Nat) (f : Fld) (v : Nat) : (setFld s k f v).norGen = s.norGen := rfl
@[simp] theorem setFld_dramGen (s : State) (k : Nat) (f : Fld) (v : Nat) : (setFld s k f v).dramGen = s.dramGen := rfl
@[simp] theorem setFld_boot (s : State) (k : Nat) (f : Fld) (v : Nat) : (setFld s k f v).boot = s.boot := rfl
@[simp] theorem setFld_upd (s : State) (k : Nat) (f : Fld) (v : Nat) : (setFld s k f v).upd = s.upd := rfl
@[simp] theorem setFld_recov (s : State) (k : Nat) (f : Fld) (v : Nat) : (setFld s k f v).recov = s.recov := rfl

/-! ## setBit -/

@[simp] theorem setBit_pending (s : State) (k n : Nat) (b : Bool) : (setBit s k n b).pending = s.pending := rfl
@[simp] theorem setBit_now (s : State) (k n : Nat) (b : Bool) : (setBit s k n b).now = s.now := rfl
@[simp] theorem setBit_nextTick (s : State) (k n : Nat) (b : Bool) : (setBit s k n b).nextTick = s.nextTick := rfl
@[simp] theorem setBit_nextGrid (s : State) (k n : Nat) (b : Bool) : (setBit s k n b).nextGrid = s.nextGrid := rfl
@[simp] theorem setBit_rwlLocked (s : State) (k n : Nat) (b : Bool) : (setBit s k n b).rwlLocked = s.rwlLocked := rfl
@[simp] theorem setBit_mem (s : State) (k n : Nat) (b : Bool) : (setBit s k n b).mem = s.mem := rfl
@[simp] theorem setBit_resets (s : State) (k n : Nat) (b : Bool) : (setBit s k n b).resets = s.resets := rfl
@[simp] theorem setBit_free (s : State) (k n : Nat) (b : Bool) : (setBit s k n b).free = s.free := rfl
@[simp] theorem setBit_drawn (s : State) (k n : Nat) (b : Bool) : (setBit s k n b).drawn = s.drawn := rfl
@[simp] theorem setBit_answer (s : State) (k n : Nat) (b : Bool) : (setBit s k n b).answer = s.answer := rfl
@[simp] theorem setBit_holds (s : State) (k n : Nat) (b : Bool) : (setBit s k n b).holds = s.holds := rfl
@[simp] theorem setBit_stages (s : State) (k n : Nat) (b : Bool) : (setBit s k n b).stages = s.stages := rfl
@[simp] theorem setBit_evtTarget (s : State) (k n : Nat) (b : Bool) : (setBit s k n b).evtTarget = s.evtTarget := rfl
@[simp] theorem setBit_pfwLevel (s : State) (k n : Nat) (b : Bool) : (setBit s k n b).pfwLevel = s.pfwLevel := rfl
@[simp] theorem setBit_exiting (s : State) (k n : Nat) (b : Bool) : (setBit s k n b).exiting = s.exiting := rfl
@[simp] theorem setBit_points (s : State) (k n : Nat) (b : Bool) : (setBit s k n b).points = s.points := rfl
@[simp] theorem setBit_forces (s : State) (k n : Nat) (b : Bool) : (setBit s k n b).forces = s.forces := rfl
@[simp] theorem setBit_nvrForces (s : State) (k n : Nat) (b : Bool) : (setBit s k n b).nvrForces = s.nvrForces := rfl
@[simp] theorem setBit_evLog (s : State) (k n : Nat) (b : Bool) : (setBit s k n b).evLog = s.evLog := rfl
@[simp] theorem setBit_winHolds (s : State) (k n : Nat) (b : Bool) : (setBit s k n b).winHolds = s.winHolds := rfl
@[simp] theorem setBit_winStages (s : State) (k n : Nat) (b : Bool) : (setBit s k n b).winStages = s.winStages := rfl
@[simp] theorem setBit_moulds (s : State) (k n : Nat) (b : Bool) : (setBit s k n b).moulds = s.moulds := rfl
@[simp] theorem setBit_scan (s : State) (k n : Nat) (b : Bool) : (setBit s k n b).scan = s.scan := rfl
@[simp] theorem setBit_xch (s : State) (k n : Nat) (b : Bool) : (setBit s k n b).xch = s.xch := rfl
@[simp] theorem setBit_slots (s : State) (k n : Nat) (b : Bool) : (setBit s k n b).slots = s.slots := rfl
@[simp] theorem setBit_loops (s : State) (k n : Nat) (b : Bool) : (setBit s k n b).loops = s.loops := rfl
@[simp] theorem setBit_loopBusy (s : State) (k n : Nat) (b : Bool) : (setBit s k n b).loopBusy = s.loopBusy := rfl
@[simp] theorem setBit_meter (s : State) (k n : Nat) (b : Bool) : (setBit s k n b).meter = s.meter := rfl
@[simp] theorem setBit_paused (s : State) (k n : Nat) (b : Bool) : (setBit s k n b).paused = s.paused := rfl
@[simp] theorem setBit_buses (s : State) (k n : Nat) (b : Bool) : (setBit s k n b).buses = s.buses := rfl
@[simp] theorem setBit_fabric (s : State) (k n : Nat) (b : Bool) : (setBit s k n b).fabric = s.fabric := rfl
@[simp] theorem setBit_lockTimers (s : State) (k n : Nat) (b : Bool) : (setBit s k n b).lockTimers = s.lockTimers := rfl
@[simp] theorem setBit_ladle (s : State) (k n : Nat) (b : Bool) : (setBit s k n b).ladle = s.ladle := rfl
@[simp] theorem setBit_queues (s : State) (k n : Nat) (b : Bool) : (setBit s k n b).queues = s.queues := rfl
@[simp] theorem setBit_ports (s : State) (k n : Nat) (b : Bool) : (setBit s k n b).ports = s.ports := rfl
@[simp] theorem setBit_stations (s : State) (k n : Nat) (b : Bool) : (setBit s k n b).stations = s.stations := rfl
@[simp] theorem setBit_snapshot (s : State) (k n : Nat) (b : Bool) : (setBit s k n b).snapshot = s.snapshot := rfl
@[simp] theorem setBit_stationHold (s : State) (k n : Nat) (b : Bool) : (setBit s k n b).stationHold = s.stationHold := rfl
@[simp] theorem setBit_twin (s : State) (k n : Nat) (b : Bool) : (setBit s k n b).twin = s.twin := rfl
@[simp] theorem setBit_wake (s : State) (k n : Nat) (b : Bool) : (setBit s k n b).wake = s.wake := rfl
@[simp] theorem setBit_hosts (s : State) (k n : Nat) (b : Bool) : (setBit s k n b).hosts = s.hosts := rfl
@[simp] theorem setBit_nrap (s : State) (k n : Nat) (b : Bool) : (setBit s k n b).nrap = s.nrap := rfl
@[simp] theorem setBit_follower (s : State) (k n : Nat) (b : Bool) : (setBit s k n b).follower = s.follower := rfl
@[simp] theorem setBit_ptp (s : State) (k n : Nat) (b : Bool) : (setBit s k n b).ptp = s.ptp := rfl
@[simp] theorem setBit_rtc (s : State) (k n : Nat) (b : Bool) : (setBit s k n b).rtc = s.rtc := rfl
@[simp] theorem setBit_otp (s : State) (k n : Nat) (b : Bool) : (setBit s k n b).otp = s.otp := rfl
@[simp] theorem setBit_crypto (s : State) (k n : Nat) (b : Bool) : (setBit s k n b).crypto = s.crypto := rfl
@[simp] theorem setBit_norGen (s : State) (k n : Nat) (b : Bool) : (setBit s k n b).norGen = s.norGen := rfl
@[simp] theorem setBit_dramGen (s : State) (k n : Nat) (b : Bool) : (setBit s k n b).dramGen = s.dramGen := rfl
@[simp] theorem setBit_boot (s : State) (k n : Nat) (b : Bool) : (setBit s k n b).boot = s.boot := rfl
@[simp] theorem setBit_upd (s : State) (k n : Nat) (b : Bool) : (setBit s k n b).upd = s.upd := rfl
@[simp] theorem setBit_recov (s : State) (k n : Nat) (b : Bool) : (setBit s k n b).recov = s.recov := rfl

/-! ## bump -/

@[simp] theorem bump_pending (s : State) (k n : Nat) : (bump s k n).pending = s.pending := rfl
@[simp] theorem bump_now (s : State) (k n : Nat) : (bump s k n).now = s.now := rfl
@[simp] theorem bump_nextTick (s : State) (k n : Nat) : (bump s k n).nextTick = s.nextTick := rfl
@[simp] theorem bump_nextGrid (s : State) (k n : Nat) : (bump s k n).nextGrid = s.nextGrid := rfl
@[simp] theorem bump_rwlLocked (s : State) (k n : Nat) : (bump s k n).rwlLocked = s.rwlLocked := rfl
@[simp] theorem bump_mem (s : State) (k n : Nat) : (bump s k n).mem = s.mem := rfl
@[simp] theorem bump_resets (s : State) (k n : Nat) : (bump s k n).resets = s.resets := rfl
@[simp] theorem bump_free (s : State) (k n : Nat) : (bump s k n).free = s.free := rfl
@[simp] theorem bump_drawn (s : State) (k n : Nat) : (bump s k n).drawn = s.drawn := rfl
@[simp] theorem bump_answer (s : State) (k n : Nat) : (bump s k n).answer = s.answer := rfl
@[simp] theorem bump_holds (s : State) (k n : Nat) : (bump s k n).holds = s.holds := rfl
@[simp] theorem bump_stages (s : State) (k n : Nat) : (bump s k n).stages = s.stages := rfl
@[simp] theorem bump_evtTarget (s : State) (k n : Nat) : (bump s k n).evtTarget = s.evtTarget := rfl
@[simp] theorem bump_pfwLevel (s : State) (k n : Nat) : (bump s k n).pfwLevel = s.pfwLevel := rfl
@[simp] theorem bump_exiting (s : State) (k n : Nat) : (bump s k n).exiting = s.exiting := rfl
@[simp] theorem bump_points (s : State) (k n : Nat) : (bump s k n).points = s.points := rfl
@[simp] theorem bump_forces (s : State) (k n : Nat) : (bump s k n).forces = s.forces := rfl
@[simp] theorem bump_nvrForces (s : State) (k n : Nat) : (bump s k n).nvrForces = s.nvrForces := rfl
@[simp] theorem bump_evLog (s : State) (k n : Nat) : (bump s k n).evLog = s.evLog := rfl
@[simp] theorem bump_winHolds (s : State) (k n : Nat) : (bump s k n).winHolds = s.winHolds := rfl
@[simp] theorem bump_winStages (s : State) (k n : Nat) : (bump s k n).winStages = s.winStages := rfl
@[simp] theorem bump_moulds (s : State) (k n : Nat) : (bump s k n).moulds = s.moulds := rfl
@[simp] theorem bump_scan (s : State) (k n : Nat) : (bump s k n).scan = s.scan := rfl
@[simp] theorem bump_xch (s : State) (k n : Nat) : (bump s k n).xch = s.xch := rfl
@[simp] theorem bump_slots (s : State) (k n : Nat) : (bump s k n).slots = s.slots := rfl
@[simp] theorem bump_loops (s : State) (k n : Nat) : (bump s k n).loops = s.loops := rfl
@[simp] theorem bump_loopBusy (s : State) (k n : Nat) : (bump s k n).loopBusy = s.loopBusy := rfl
@[simp] theorem bump_meter (s : State) (k n : Nat) : (bump s k n).meter = s.meter := rfl
@[simp] theorem bump_paused (s : State) (k n : Nat) : (bump s k n).paused = s.paused := rfl
@[simp] theorem bump_buses (s : State) (k n : Nat) : (bump s k n).buses = s.buses := rfl
@[simp] theorem bump_fabric (s : State) (k n : Nat) : (bump s k n).fabric = s.fabric := rfl
@[simp] theorem bump_lockTimers (s : State) (k n : Nat) : (bump s k n).lockTimers = s.lockTimers := rfl
@[simp] theorem bump_ladle (s : State) (k n : Nat) : (bump s k n).ladle = s.ladle := rfl
@[simp] theorem bump_queues (s : State) (k n : Nat) : (bump s k n).queues = s.queues := rfl
@[simp] theorem bump_ports (s : State) (k n : Nat) : (bump s k n).ports = s.ports := rfl
@[simp] theorem bump_stations (s : State) (k n : Nat) : (bump s k n).stations = s.stations := rfl
@[simp] theorem bump_snapshot (s : State) (k n : Nat) : (bump s k n).snapshot = s.snapshot := rfl
@[simp] theorem bump_stationHold (s : State) (k n : Nat) : (bump s k n).stationHold = s.stationHold := rfl
@[simp] theorem bump_twin (s : State) (k n : Nat) : (bump s k n).twin = s.twin := rfl
@[simp] theorem bump_wake (s : State) (k n : Nat) : (bump s k n).wake = s.wake := rfl
@[simp] theorem bump_hosts (s : State) (k n : Nat) : (bump s k n).hosts = s.hosts := rfl
@[simp] theorem bump_nrap (s : State) (k n : Nat) : (bump s k n).nrap = s.nrap := rfl
@[simp] theorem bump_follower (s : State) (k n : Nat) : (bump s k n).follower = s.follower := rfl
@[simp] theorem bump_ptp (s : State) (k n : Nat) : (bump s k n).ptp = s.ptp := rfl
@[simp] theorem bump_rtc (s : State) (k n : Nat) : (bump s k n).rtc = s.rtc := rfl
@[simp] theorem bump_otp (s : State) (k n : Nat) : (bump s k n).otp = s.otp := rfl
@[simp] theorem bump_crypto (s : State) (k n : Nat) : (bump s k n).crypto = s.crypto := rfl
@[simp] theorem bump_norGen (s : State) (k n : Nat) : (bump s k n).norGen = s.norGen := rfl
@[simp] theorem bump_dramGen (s : State) (k n : Nat) : (bump s k n).dramGen = s.dramGen := rfl
@[simp] theorem bump_boot (s : State) (k n : Nat) : (bump s k n).boot = s.boot := rfl
@[simp] theorem bump_upd (s : State) (k n : Nat) : (bump s k n).upd = s.upd := rfl
@[simp] theorem bump_recov (s : State) (k n : Nat) : (bump s k n).recov = s.recov := rfl

/-! ## bumpSat -/

@[simp] theorem bumpSat_pending (s : State) (k n : Nat) : (bumpSat s k n).pending = s.pending := rfl
@[simp] theorem bumpSat_now (s : State) (k n : Nat) : (bumpSat s k n).now = s.now := rfl
@[simp] theorem bumpSat_nextTick (s : State) (k n : Nat) : (bumpSat s k n).nextTick = s.nextTick := rfl
@[simp] theorem bumpSat_nextGrid (s : State) (k n : Nat) : (bumpSat s k n).nextGrid = s.nextGrid := rfl
@[simp] theorem bumpSat_rwlLocked (s : State) (k n : Nat) : (bumpSat s k n).rwlLocked = s.rwlLocked := rfl
@[simp] theorem bumpSat_mem (s : State) (k n : Nat) : (bumpSat s k n).mem = s.mem := rfl
@[simp] theorem bumpSat_resets (s : State) (k n : Nat) : (bumpSat s k n).resets = s.resets := rfl
@[simp] theorem bumpSat_free (s : State) (k n : Nat) : (bumpSat s k n).free = s.free := rfl
@[simp] theorem bumpSat_drawn (s : State) (k n : Nat) : (bumpSat s k n).drawn = s.drawn := rfl
@[simp] theorem bumpSat_answer (s : State) (k n : Nat) : (bumpSat s k n).answer = s.answer := rfl
@[simp] theorem bumpSat_holds (s : State) (k n : Nat) : (bumpSat s k n).holds = s.holds := rfl
@[simp] theorem bumpSat_stages (s : State) (k n : Nat) : (bumpSat s k n).stages = s.stages := rfl
@[simp] theorem bumpSat_evtTarget (s : State) (k n : Nat) : (bumpSat s k n).evtTarget = s.evtTarget := rfl
@[simp] theorem bumpSat_pfwLevel (s : State) (k n : Nat) : (bumpSat s k n).pfwLevel = s.pfwLevel := rfl
@[simp] theorem bumpSat_exiting (s : State) (k n : Nat) : (bumpSat s k n).exiting = s.exiting := rfl
@[simp] theorem bumpSat_points (s : State) (k n : Nat) : (bumpSat s k n).points = s.points := rfl
@[simp] theorem bumpSat_forces (s : State) (k n : Nat) : (bumpSat s k n).forces = s.forces := rfl
@[simp] theorem bumpSat_nvrForces (s : State) (k n : Nat) : (bumpSat s k n).nvrForces = s.nvrForces := rfl
@[simp] theorem bumpSat_evLog (s : State) (k n : Nat) : (bumpSat s k n).evLog = s.evLog := rfl
@[simp] theorem bumpSat_winHolds (s : State) (k n : Nat) : (bumpSat s k n).winHolds = s.winHolds := rfl
@[simp] theorem bumpSat_winStages (s : State) (k n : Nat) : (bumpSat s k n).winStages = s.winStages := rfl
@[simp] theorem bumpSat_moulds (s : State) (k n : Nat) : (bumpSat s k n).moulds = s.moulds := rfl
@[simp] theorem bumpSat_scan (s : State) (k n : Nat) : (bumpSat s k n).scan = s.scan := rfl
@[simp] theorem bumpSat_xch (s : State) (k n : Nat) : (bumpSat s k n).xch = s.xch := rfl
@[simp] theorem bumpSat_slots (s : State) (k n : Nat) : (bumpSat s k n).slots = s.slots := rfl
@[simp] theorem bumpSat_loops (s : State) (k n : Nat) : (bumpSat s k n).loops = s.loops := rfl
@[simp] theorem bumpSat_loopBusy (s : State) (k n : Nat) : (bumpSat s k n).loopBusy = s.loopBusy := rfl
@[simp] theorem bumpSat_meter (s : State) (k n : Nat) : (bumpSat s k n).meter = s.meter := rfl
@[simp] theorem bumpSat_paused (s : State) (k n : Nat) : (bumpSat s k n).paused = s.paused := rfl
@[simp] theorem bumpSat_buses (s : State) (k n : Nat) : (bumpSat s k n).buses = s.buses := rfl
@[simp] theorem bumpSat_fabric (s : State) (k n : Nat) : (bumpSat s k n).fabric = s.fabric := rfl
@[simp] theorem bumpSat_lockTimers (s : State) (k n : Nat) : (bumpSat s k n).lockTimers = s.lockTimers := rfl
@[simp] theorem bumpSat_ladle (s : State) (k n : Nat) : (bumpSat s k n).ladle = s.ladle := rfl
@[simp] theorem bumpSat_queues (s : State) (k n : Nat) : (bumpSat s k n).queues = s.queues := rfl
@[simp] theorem bumpSat_ports (s : State) (k n : Nat) : (bumpSat s k n).ports = s.ports := rfl
@[simp] theorem bumpSat_stations (s : State) (k n : Nat) : (bumpSat s k n).stations = s.stations := rfl
@[simp] theorem bumpSat_snapshot (s : State) (k n : Nat) : (bumpSat s k n).snapshot = s.snapshot := rfl
@[simp] theorem bumpSat_stationHold (s : State) (k n : Nat) : (bumpSat s k n).stationHold = s.stationHold := rfl
@[simp] theorem bumpSat_twin (s : State) (k n : Nat) : (bumpSat s k n).twin = s.twin := rfl
@[simp] theorem bumpSat_wake (s : State) (k n : Nat) : (bumpSat s k n).wake = s.wake := rfl
@[simp] theorem bumpSat_hosts (s : State) (k n : Nat) : (bumpSat s k n).hosts = s.hosts := rfl
@[simp] theorem bumpSat_nrap (s : State) (k n : Nat) : (bumpSat s k n).nrap = s.nrap := rfl
@[simp] theorem bumpSat_follower (s : State) (k n : Nat) : (bumpSat s k n).follower = s.follower := rfl
@[simp] theorem bumpSat_ptp (s : State) (k n : Nat) : (bumpSat s k n).ptp = s.ptp := rfl
@[simp] theorem bumpSat_rtc (s : State) (k n : Nat) : (bumpSat s k n).rtc = s.rtc := rfl
@[simp] theorem bumpSat_otp (s : State) (k n : Nat) : (bumpSat s k n).otp = s.otp := rfl
@[simp] theorem bumpSat_crypto (s : State) (k n : Nat) : (bumpSat s k n).crypto = s.crypto := rfl
@[simp] theorem bumpSat_norGen (s : State) (k n : Nat) : (bumpSat s k n).norGen = s.norGen := rfl
@[simp] theorem bumpSat_dramGen (s : State) (k n : Nat) : (bumpSat s k n).dramGen = s.dramGen := rfl
@[simp] theorem bumpSat_boot (s : State) (k n : Nat) : (bumpSat s k n).boot = s.boot := rfl
@[simp] theorem bumpSat_upd (s : State) (k n : Nat) : (bumpSat s k n).upd = s.upd := rfl
@[simp] theorem bumpSat_recov (s : State) (k n : Nat) : (bumpSat s k n).recov = s.recov := rfl

/-! ## bumpFld -/

@[simp] theorem bumpFld_pending (s : State) (k : Nat) (f : Fld) (n : Nat) : (bumpFld s k f n).pending = s.pending := rfl
@[simp] theorem bumpFld_now (s : State) (k : Nat) (f : Fld) (n : Nat) : (bumpFld s k f n).now = s.now := rfl
@[simp] theorem bumpFld_nextTick (s : State) (k : Nat) (f : Fld) (n : Nat) : (bumpFld s k f n).nextTick = s.nextTick := rfl
@[simp] theorem bumpFld_nextGrid (s : State) (k : Nat) (f : Fld) (n : Nat) : (bumpFld s k f n).nextGrid = s.nextGrid := rfl
@[simp] theorem bumpFld_rwlLocked (s : State) (k : Nat) (f : Fld) (n : Nat) : (bumpFld s k f n).rwlLocked = s.rwlLocked := rfl
@[simp] theorem bumpFld_mem (s : State) (k : Nat) (f : Fld) (n : Nat) : (bumpFld s k f n).mem = s.mem := rfl
@[simp] theorem bumpFld_resets (s : State) (k : Nat) (f : Fld) (n : Nat) : (bumpFld s k f n).resets = s.resets := rfl
@[simp] theorem bumpFld_free (s : State) (k : Nat) (f : Fld) (n : Nat) : (bumpFld s k f n).free = s.free := rfl
@[simp] theorem bumpFld_drawn (s : State) (k : Nat) (f : Fld) (n : Nat) : (bumpFld s k f n).drawn = s.drawn := rfl
@[simp] theorem bumpFld_answer (s : State) (k : Nat) (f : Fld) (n : Nat) : (bumpFld s k f n).answer = s.answer := rfl
@[simp] theorem bumpFld_holds (s : State) (k : Nat) (f : Fld) (n : Nat) : (bumpFld s k f n).holds = s.holds := rfl
@[simp] theorem bumpFld_stages (s : State) (k : Nat) (f : Fld) (n : Nat) : (bumpFld s k f n).stages = s.stages := rfl
@[simp] theorem bumpFld_evtTarget (s : State) (k : Nat) (f : Fld) (n : Nat) : (bumpFld s k f n).evtTarget = s.evtTarget := rfl
@[simp] theorem bumpFld_pfwLevel (s : State) (k : Nat) (f : Fld) (n : Nat) : (bumpFld s k f n).pfwLevel = s.pfwLevel := rfl
@[simp] theorem bumpFld_exiting (s : State) (k : Nat) (f : Fld) (n : Nat) : (bumpFld s k f n).exiting = s.exiting := rfl
@[simp] theorem bumpFld_points (s : State) (k : Nat) (f : Fld) (n : Nat) : (bumpFld s k f n).points = s.points := rfl
@[simp] theorem bumpFld_forces (s : State) (k : Nat) (f : Fld) (n : Nat) : (bumpFld s k f n).forces = s.forces := rfl
@[simp] theorem bumpFld_nvrForces (s : State) (k : Nat) (f : Fld) (n : Nat) : (bumpFld s k f n).nvrForces = s.nvrForces := rfl
@[simp] theorem bumpFld_evLog (s : State) (k : Nat) (f : Fld) (n : Nat) : (bumpFld s k f n).evLog = s.evLog := rfl
@[simp] theorem bumpFld_winHolds (s : State) (k : Nat) (f : Fld) (n : Nat) : (bumpFld s k f n).winHolds = s.winHolds := rfl
@[simp] theorem bumpFld_winStages (s : State) (k : Nat) (f : Fld) (n : Nat) : (bumpFld s k f n).winStages = s.winStages := rfl
@[simp] theorem bumpFld_moulds (s : State) (k : Nat) (f : Fld) (n : Nat) : (bumpFld s k f n).moulds = s.moulds := rfl
@[simp] theorem bumpFld_scan (s : State) (k : Nat) (f : Fld) (n : Nat) : (bumpFld s k f n).scan = s.scan := rfl
@[simp] theorem bumpFld_xch (s : State) (k : Nat) (f : Fld) (n : Nat) : (bumpFld s k f n).xch = s.xch := rfl
@[simp] theorem bumpFld_slots (s : State) (k : Nat) (f : Fld) (n : Nat) : (bumpFld s k f n).slots = s.slots := rfl
@[simp] theorem bumpFld_loops (s : State) (k : Nat) (f : Fld) (n : Nat) : (bumpFld s k f n).loops = s.loops := rfl
@[simp] theorem bumpFld_loopBusy (s : State) (k : Nat) (f : Fld) (n : Nat) : (bumpFld s k f n).loopBusy = s.loopBusy := rfl
@[simp] theorem bumpFld_meter (s : State) (k : Nat) (f : Fld) (n : Nat) : (bumpFld s k f n).meter = s.meter := rfl
@[simp] theorem bumpFld_paused (s : State) (k : Nat) (f : Fld) (n : Nat) : (bumpFld s k f n).paused = s.paused := rfl
@[simp] theorem bumpFld_buses (s : State) (k : Nat) (f : Fld) (n : Nat) : (bumpFld s k f n).buses = s.buses := rfl
@[simp] theorem bumpFld_fabric (s : State) (k : Nat) (f : Fld) (n : Nat) : (bumpFld s k f n).fabric = s.fabric := rfl
@[simp] theorem bumpFld_lockTimers (s : State) (k : Nat) (f : Fld) (n : Nat) : (bumpFld s k f n).lockTimers = s.lockTimers := rfl
@[simp] theorem bumpFld_ladle (s : State) (k : Nat) (f : Fld) (n : Nat) : (bumpFld s k f n).ladle = s.ladle := rfl
@[simp] theorem bumpFld_queues (s : State) (k : Nat) (f : Fld) (n : Nat) : (bumpFld s k f n).queues = s.queues := rfl
@[simp] theorem bumpFld_ports (s : State) (k : Nat) (f : Fld) (n : Nat) : (bumpFld s k f n).ports = s.ports := rfl
@[simp] theorem bumpFld_stations (s : State) (k : Nat) (f : Fld) (n : Nat) : (bumpFld s k f n).stations = s.stations := rfl
@[simp] theorem bumpFld_snapshot (s : State) (k : Nat) (f : Fld) (n : Nat) : (bumpFld s k f n).snapshot = s.snapshot := rfl
@[simp] theorem bumpFld_stationHold (s : State) (k : Nat) (f : Fld) (n : Nat) : (bumpFld s k f n).stationHold = s.stationHold := rfl
@[simp] theorem bumpFld_twin (s : State) (k : Nat) (f : Fld) (n : Nat) : (bumpFld s k f n).twin = s.twin := rfl
@[simp] theorem bumpFld_wake (s : State) (k : Nat) (f : Fld) (n : Nat) : (bumpFld s k f n).wake = s.wake := rfl
@[simp] theorem bumpFld_hosts (s : State) (k : Nat) (f : Fld) (n : Nat) : (bumpFld s k f n).hosts = s.hosts := rfl
@[simp] theorem bumpFld_nrap (s : State) (k : Nat) (f : Fld) (n : Nat) : (bumpFld s k f n).nrap = s.nrap := rfl
@[simp] theorem bumpFld_follower (s : State) (k : Nat) (f : Fld) (n : Nat) : (bumpFld s k f n).follower = s.follower := rfl
@[simp] theorem bumpFld_ptp (s : State) (k : Nat) (f : Fld) (n : Nat) : (bumpFld s k f n).ptp = s.ptp := rfl
@[simp] theorem bumpFld_rtc (s : State) (k : Nat) (f : Fld) (n : Nat) : (bumpFld s k f n).rtc = s.rtc := rfl
@[simp] theorem bumpFld_otp (s : State) (k : Nat) (f : Fld) (n : Nat) : (bumpFld s k f n).otp = s.otp := rfl
@[simp] theorem bumpFld_crypto (s : State) (k : Nat) (f : Fld) (n : Nat) : (bumpFld s k f n).crypto = s.crypto := rfl
@[simp] theorem bumpFld_norGen (s : State) (k : Nat) (f : Fld) (n : Nat) : (bumpFld s k f n).norGen = s.norGen := rfl
@[simp] theorem bumpFld_dramGen (s : State) (k : Nat) (f : Fld) (n : Nat) : (bumpFld s k f n).dramGen = s.dramGen := rfl
@[simp] theorem bumpFld_boot (s : State) (k : Nat) (f : Fld) (n : Nat) : (bumpFld s k f n).boot = s.boot := rfl
@[simp] theorem bumpFld_upd (s : State) (k : Nat) (f : Fld) (n : Nat) : (bumpFld s k f n).upd = s.upd := rfl
@[simp] theorem bumpFld_recov (s : State) (k : Nat) (f : Fld) (n : Nat) : (bumpFld s k f n).recov = s.recov := rfl

/-! ## answer -/

@[simp] theorem answer_pending (s : State) (c : Code) : (answer s c).pending = s.pending := rfl
@[simp] theorem answer_now (s : State) (c : Code) : (answer s c).now = s.now := rfl
@[simp] theorem answer_nextTick (s : State) (c : Code) : (answer s c).nextTick = s.nextTick := rfl
@[simp] theorem answer_nextGrid (s : State) (c : Code) : (answer s c).nextGrid = s.nextGrid := rfl
@[simp] theorem answer_regs (s : State) (c : Code) : (answer s c).regs = s.regs := rfl
@[simp] theorem answer_rwlLocked (s : State) (c : Code) : (answer s c).rwlLocked = s.rwlLocked := rfl
@[simp] theorem answer_mem (s : State) (c : Code) : (answer s c).mem = s.mem := rfl
@[simp] theorem answer_resets (s : State) (c : Code) : (answer s c).resets = s.resets := rfl
@[simp] theorem answer_free (s : State) (c : Code) : (answer s c).free = s.free := rfl
@[simp] theorem answer_drawn (s : State) (c : Code) : (answer s c).drawn = s.drawn := rfl
@[simp] theorem answer_holds (s : State) (c : Code) : (answer s c).holds = s.holds := rfl
@[simp] theorem answer_stages (s : State) (c : Code) : (answer s c).stages = s.stages := rfl
@[simp] theorem answer_evtTarget (s : State) (c : Code) : (answer s c).evtTarget = s.evtTarget := rfl
@[simp] theorem answer_pfwLevel (s : State) (c : Code) : (answer s c).pfwLevel = s.pfwLevel := rfl
@[simp] theorem answer_exiting (s : State) (c : Code) : (answer s c).exiting = s.exiting := rfl
@[simp] theorem answer_points (s : State) (c : Code) : (answer s c).points = s.points := rfl
@[simp] theorem answer_forces (s : State) (c : Code) : (answer s c).forces = s.forces := rfl
@[simp] theorem answer_nvrForces (s : State) (c : Code) : (answer s c).nvrForces = s.nvrForces := rfl
@[simp] theorem answer_evLog (s : State) (c : Code) : (answer s c).evLog = s.evLog := rfl
@[simp] theorem answer_winHolds (s : State) (c : Code) : (answer s c).winHolds = s.winHolds := rfl
@[simp] theorem answer_winStages (s : State) (c : Code) : (answer s c).winStages = s.winStages := rfl
@[simp] theorem answer_moulds (s : State) (c : Code) : (answer s c).moulds = s.moulds := rfl
@[simp] theorem answer_scan (s : State) (c : Code) : (answer s c).scan = s.scan := rfl
@[simp] theorem answer_xch (s : State) (c : Code) : (answer s c).xch = s.xch := rfl
@[simp] theorem answer_slots (s : State) (c : Code) : (answer s c).slots = s.slots := rfl
@[simp] theorem answer_loops (s : State) (c : Code) : (answer s c).loops = s.loops := rfl
@[simp] theorem answer_loopBusy (s : State) (c : Code) : (answer s c).loopBusy = s.loopBusy := rfl
@[simp] theorem answer_meter (s : State) (c : Code) : (answer s c).meter = s.meter := rfl
@[simp] theorem answer_paused (s : State) (c : Code) : (answer s c).paused = s.paused := rfl
@[simp] theorem answer_buses (s : State) (c : Code) : (answer s c).buses = s.buses := rfl
@[simp] theorem answer_fabric (s : State) (c : Code) : (answer s c).fabric = s.fabric := rfl
@[simp] theorem answer_lockTimers (s : State) (c : Code) : (answer s c).lockTimers = s.lockTimers := rfl
@[simp] theorem answer_ladle (s : State) (c : Code) : (answer s c).ladle = s.ladle := rfl
@[simp] theorem answer_queues (s : State) (c : Code) : (answer s c).queues = s.queues := rfl
@[simp] theorem answer_ports (s : State) (c : Code) : (answer s c).ports = s.ports := rfl
@[simp] theorem answer_stations (s : State) (c : Code) : (answer s c).stations = s.stations := rfl
@[simp] theorem answer_snapshot (s : State) (c : Code) : (answer s c).snapshot = s.snapshot := rfl
@[simp] theorem answer_stationHold (s : State) (c : Code) : (answer s c).stationHold = s.stationHold := rfl
@[simp] theorem answer_twin (s : State) (c : Code) : (answer s c).twin = s.twin := rfl
@[simp] theorem answer_wake (s : State) (c : Code) : (answer s c).wake = s.wake := rfl
@[simp] theorem answer_hosts (s : State) (c : Code) : (answer s c).hosts = s.hosts := rfl
@[simp] theorem answer_nrap (s : State) (c : Code) : (answer s c).nrap = s.nrap := rfl
@[simp] theorem answer_follower (s : State) (c : Code) : (answer s c).follower = s.follower := rfl
@[simp] theorem answer_ptp (s : State) (c : Code) : (answer s c).ptp = s.ptp := rfl
@[simp] theorem answer_rtc (s : State) (c : Code) : (answer s c).rtc = s.rtc := rfl
@[simp] theorem answer_otp (s : State) (c : Code) : (answer s c).otp = s.otp := rfl
@[simp] theorem answer_crypto (s : State) (c : Code) : (answer s c).crypto = s.crypto := rfl
@[simp] theorem answer_norGen (s : State) (c : Code) : (answer s c).norGen = s.norGen := rfl
@[simp] theorem answer_dramGen (s : State) (c : Code) : (answer s c).dramGen = s.dramGen := rfl
@[simp] theorem answer_boot (s : State) (c : Code) : (answer s c).boot = s.boot := rfl
@[simp] theorem answer_upd (s : State) (c : Code) : (answer s c).upd = s.upd := rfl
@[simp] theorem answer_recov (s : State) (c : Code) : (answer s c).recov = s.recov := rfl

/-! ## putByte -/

@[simp] theorem putByte_pending (s : State) (a : Nat) (v : Byte) : (putByte s a v).pending = s.pending := rfl
@[simp] theorem putByte_now (s : State) (a : Nat) (v : Byte) : (putByte s a v).now = s.now := rfl
@[simp] theorem putByte_nextTick (s : State) (a : Nat) (v : Byte) : (putByte s a v).nextTick = s.nextTick := rfl
@[simp] theorem putByte_nextGrid (s : State) (a : Nat) (v : Byte) : (putByte s a v).nextGrid = s.nextGrid := rfl
@[simp] theorem putByte_regs (s : State) (a : Nat) (v : Byte) : (putByte s a v).regs = s.regs := rfl
@[simp] theorem putByte_rwlLocked (s : State) (a : Nat) (v : Byte) : (putByte s a v).rwlLocked = s.rwlLocked := rfl
@[simp] theorem putByte_resets (s : State) (a : Nat) (v : Byte) : (putByte s a v).resets = s.resets := rfl
@[simp] theorem putByte_free (s : State) (a : Nat) (v : Byte) : (putByte s a v).free = s.free := rfl
@[simp] theorem putByte_drawn (s : State) (a : Nat) (v : Byte) : (putByte s a v).drawn = s.drawn := rfl
@[simp] theorem putByte_answer (s : State) (a : Nat) (v : Byte) : (putByte s a v).answer = s.answer := rfl
@[simp] theorem putByte_holds (s : State) (a : Nat) (v : Byte) : (putByte s a v).holds = s.holds := rfl
@[simp] theorem putByte_stages (s : State) (a : Nat) (v : Byte) : (putByte s a v).stages = s.stages := rfl
@[simp] theorem putByte_evtTarget (s : State) (a : Nat) (v : Byte) : (putByte s a v).evtTarget = s.evtTarget := rfl
@[simp] theorem putByte_pfwLevel (s : State) (a : Nat) (v : Byte) : (putByte s a v).pfwLevel = s.pfwLevel := rfl
@[simp] theorem putByte_exiting (s : State) (a : Nat) (v : Byte) : (putByte s a v).exiting = s.exiting := rfl
@[simp] theorem putByte_points (s : State) (a : Nat) (v : Byte) : (putByte s a v).points = s.points := rfl
@[simp] theorem putByte_forces (s : State) (a : Nat) (v : Byte) : (putByte s a v).forces = s.forces := rfl
@[simp] theorem putByte_nvrForces (s : State) (a : Nat) (v : Byte) : (putByte s a v).nvrForces = s.nvrForces := rfl
@[simp] theorem putByte_evLog (s : State) (a : Nat) (v : Byte) : (putByte s a v).evLog = s.evLog := rfl
@[simp] theorem putByte_winHolds (s : State) (a : Nat) (v : Byte) : (putByte s a v).winHolds = s.winHolds := rfl
@[simp] theorem putByte_winStages (s : State) (a : Nat) (v : Byte) : (putByte s a v).winStages = s.winStages := rfl
@[simp] theorem putByte_moulds (s : State) (a : Nat) (v : Byte) : (putByte s a v).moulds = s.moulds := rfl
@[simp] theorem putByte_scan (s : State) (a : Nat) (v : Byte) : (putByte s a v).scan = s.scan := rfl
@[simp] theorem putByte_xch (s : State) (a : Nat) (v : Byte) : (putByte s a v).xch = s.xch := rfl
@[simp] theorem putByte_slots (s : State) (a : Nat) (v : Byte) : (putByte s a v).slots = s.slots := rfl
@[simp] theorem putByte_loops (s : State) (a : Nat) (v : Byte) : (putByte s a v).loops = s.loops := rfl
@[simp] theorem putByte_loopBusy (s : State) (a : Nat) (v : Byte) : (putByte s a v).loopBusy = s.loopBusy := rfl
@[simp] theorem putByte_meter (s : State) (a : Nat) (v : Byte) : (putByte s a v).meter = s.meter := rfl
@[simp] theorem putByte_paused (s : State) (a : Nat) (v : Byte) : (putByte s a v).paused = s.paused := rfl
@[simp] theorem putByte_buses (s : State) (a : Nat) (v : Byte) : (putByte s a v).buses = s.buses := rfl
@[simp] theorem putByte_fabric (s : State) (a : Nat) (v : Byte) : (putByte s a v).fabric = s.fabric := rfl
@[simp] theorem putByte_lockTimers (s : State) (a : Nat) (v : Byte) : (putByte s a v).lockTimers = s.lockTimers := rfl
@[simp] theorem putByte_ladle (s : State) (a : Nat) (v : Byte) : (putByte s a v).ladle = s.ladle := rfl
@[simp] theorem putByte_queues (s : State) (a : Nat) (v : Byte) : (putByte s a v).queues = s.queues := rfl
@[simp] theorem putByte_ports (s : State) (a : Nat) (v : Byte) : (putByte s a v).ports = s.ports := rfl
@[simp] theorem putByte_stations (s : State) (a : Nat) (v : Byte) : (putByte s a v).stations = s.stations := rfl
@[simp] theorem putByte_snapshot (s : State) (a : Nat) (v : Byte) : (putByte s a v).snapshot = s.snapshot := rfl
@[simp] theorem putByte_stationHold (s : State) (a : Nat) (v : Byte) : (putByte s a v).stationHold = s.stationHold := rfl
@[simp] theorem putByte_twin (s : State) (a : Nat) (v : Byte) : (putByte s a v).twin = s.twin := rfl
@[simp] theorem putByte_wake (s : State) (a : Nat) (v : Byte) : (putByte s a v).wake = s.wake := rfl
@[simp] theorem putByte_hosts (s : State) (a : Nat) (v : Byte) : (putByte s a v).hosts = s.hosts := rfl
@[simp] theorem putByte_nrap (s : State) (a : Nat) (v : Byte) : (putByte s a v).nrap = s.nrap := rfl
@[simp] theorem putByte_follower (s : State) (a : Nat) (v : Byte) : (putByte s a v).follower = s.follower := rfl
@[simp] theorem putByte_ptp (s : State) (a : Nat) (v : Byte) : (putByte s a v).ptp = s.ptp := rfl
@[simp] theorem putByte_rtc (s : State) (a : Nat) (v : Byte) : (putByte s a v).rtc = s.rtc := rfl
@[simp] theorem putByte_otp (s : State) (a : Nat) (v : Byte) : (putByte s a v).otp = s.otp := rfl
@[simp] theorem putByte_crypto (s : State) (a : Nat) (v : Byte) : (putByte s a v).crypto = s.crypto := rfl
@[simp] theorem putByte_norGen (s : State) (a : Nat) (v : Byte) : (putByte s a v).norGen = s.norGen := rfl
@[simp] theorem putByte_dramGen (s : State) (a : Nat) (v : Byte) : (putByte s a v).dramGen = s.dramGen := rfl
@[simp] theorem putByte_boot (s : State) (a : Nat) (v : Byte) : (putByte s a v).boot = s.boot := rfl
@[simp] theorem putByte_upd (s : State) (a : Nat) (v : Byte) : (putByte s a v).upd = s.upd := rfl
@[simp] theorem putByte_recov (s : State) (a : Nat) (v : Byte) : (putByte s a v).recov = s.recov := rfl

/-! ## setPoint -/

@[simp] theorem setPoint_pending (s : State) (i : Nat) (p : Point) : (setPoint s i p).pending = s.pending := rfl
@[simp] theorem setPoint_now (s : State) (i : Nat) (p : Point) : (setPoint s i p).now = s.now := rfl
@[simp] theorem setPoint_nextTick (s : State) (i : Nat) (p : Point) : (setPoint s i p).nextTick = s.nextTick := rfl
@[simp] theorem setPoint_nextGrid (s : State) (i : Nat) (p : Point) : (setPoint s i p).nextGrid = s.nextGrid := rfl
@[simp] theorem setPoint_regs (s : State) (i : Nat) (p : Point) : (setPoint s i p).regs = s.regs := rfl
@[simp] theorem setPoint_rwlLocked (s : State) (i : Nat) (p : Point) : (setPoint s i p).rwlLocked = s.rwlLocked := rfl
@[simp] theorem setPoint_mem (s : State) (i : Nat) (p : Point) : (setPoint s i p).mem = s.mem := rfl
@[simp] theorem setPoint_resets (s : State) (i : Nat) (p : Point) : (setPoint s i p).resets = s.resets := rfl
@[simp] theorem setPoint_free (s : State) (i : Nat) (p : Point) : (setPoint s i p).free = s.free := rfl
@[simp] theorem setPoint_drawn (s : State) (i : Nat) (p : Point) : (setPoint s i p).drawn = s.drawn := rfl
@[simp] theorem setPoint_answer (s : State) (i : Nat) (p : Point) : (setPoint s i p).answer = s.answer := rfl
@[simp] theorem setPoint_holds (s : State) (i : Nat) (p : Point) : (setPoint s i p).holds = s.holds := rfl
@[simp] theorem setPoint_stages (s : State) (i : Nat) (p : Point) : (setPoint s i p).stages = s.stages := rfl
@[simp] theorem setPoint_evtTarget (s : State) (i : Nat) (p : Point) : (setPoint s i p).evtTarget = s.evtTarget := rfl
@[simp] theorem setPoint_pfwLevel (s : State) (i : Nat) (p : Point) : (setPoint s i p).pfwLevel = s.pfwLevel := rfl
@[simp] theorem setPoint_exiting (s : State) (i : Nat) (p : Point) : (setPoint s i p).exiting = s.exiting := rfl
@[simp] theorem setPoint_forces (s : State) (i : Nat) (p : Point) : (setPoint s i p).forces = s.forces := rfl
@[simp] theorem setPoint_nvrForces (s : State) (i : Nat) (p : Point) : (setPoint s i p).nvrForces = s.nvrForces := rfl
@[simp] theorem setPoint_evLog (s : State) (i : Nat) (p : Point) : (setPoint s i p).evLog = s.evLog := rfl
@[simp] theorem setPoint_winHolds (s : State) (i : Nat) (p : Point) : (setPoint s i p).winHolds = s.winHolds := rfl
@[simp] theorem setPoint_winStages (s : State) (i : Nat) (p : Point) : (setPoint s i p).winStages = s.winStages := rfl
@[simp] theorem setPoint_moulds (s : State) (i : Nat) (p : Point) : (setPoint s i p).moulds = s.moulds := rfl
@[simp] theorem setPoint_scan (s : State) (i : Nat) (p : Point) : (setPoint s i p).scan = s.scan := rfl
@[simp] theorem setPoint_xch (s : State) (i : Nat) (p : Point) : (setPoint s i p).xch = s.xch := rfl
@[simp] theorem setPoint_slots (s : State) (i : Nat) (p : Point) : (setPoint s i p).slots = s.slots := rfl
@[simp] theorem setPoint_loops (s : State) (i : Nat) (p : Point) : (setPoint s i p).loops = s.loops := rfl
@[simp] theorem setPoint_loopBusy (s : State) (i : Nat) (p : Point) : (setPoint s i p).loopBusy = s.loopBusy := rfl
@[simp] theorem setPoint_meter (s : State) (i : Nat) (p : Point) : (setPoint s i p).meter = s.meter := rfl
@[simp] theorem setPoint_paused (s : State) (i : Nat) (p : Point) : (setPoint s i p).paused = s.paused := rfl
@[simp] theorem setPoint_buses (s : State) (i : Nat) (p : Point) : (setPoint s i p).buses = s.buses := rfl
@[simp] theorem setPoint_fabric (s : State) (i : Nat) (p : Point) : (setPoint s i p).fabric = s.fabric := rfl
@[simp] theorem setPoint_lockTimers (s : State) (i : Nat) (p : Point) : (setPoint s i p).lockTimers = s.lockTimers := rfl
@[simp] theorem setPoint_ladle (s : State) (i : Nat) (p : Point) : (setPoint s i p).ladle = s.ladle := rfl
@[simp] theorem setPoint_queues (s : State) (i : Nat) (p : Point) : (setPoint s i p).queues = s.queues := rfl
@[simp] theorem setPoint_ports (s : State) (i : Nat) (p : Point) : (setPoint s i p).ports = s.ports := rfl
@[simp] theorem setPoint_stations (s : State) (i : Nat) (p : Point) : (setPoint s i p).stations = s.stations := rfl
@[simp] theorem setPoint_snapshot (s : State) (i : Nat) (p : Point) : (setPoint s i p).snapshot = s.snapshot := rfl
@[simp] theorem setPoint_stationHold (s : State) (i : Nat) (p : Point) : (setPoint s i p).stationHold = s.stationHold := rfl
@[simp] theorem setPoint_twin (s : State) (i : Nat) (p : Point) : (setPoint s i p).twin = s.twin := rfl
@[simp] theorem setPoint_wake (s : State) (i : Nat) (p : Point) : (setPoint s i p).wake = s.wake := rfl
@[simp] theorem setPoint_hosts (s : State) (i : Nat) (p : Point) : (setPoint s i p).hosts = s.hosts := rfl
@[simp] theorem setPoint_nrap (s : State) (i : Nat) (p : Point) : (setPoint s i p).nrap = s.nrap := rfl
@[simp] theorem setPoint_follower (s : State) (i : Nat) (p : Point) : (setPoint s i p).follower = s.follower := rfl
@[simp] theorem setPoint_ptp (s : State) (i : Nat) (p : Point) : (setPoint s i p).ptp = s.ptp := rfl
@[simp] theorem setPoint_rtc (s : State) (i : Nat) (p : Point) : (setPoint s i p).rtc = s.rtc := rfl
@[simp] theorem setPoint_otp (s : State) (i : Nat) (p : Point) : (setPoint s i p).otp = s.otp := rfl
@[simp] theorem setPoint_crypto (s : State) (i : Nat) (p : Point) : (setPoint s i p).crypto = s.crypto := rfl
@[simp] theorem setPoint_norGen (s : State) (i : Nat) (p : Point) : (setPoint s i p).norGen = s.norGen := rfl
@[simp] theorem setPoint_dramGen (s : State) (i : Nat) (p : Point) : (setPoint s i p).dramGen = s.dramGen := rfl
@[simp] theorem setPoint_boot (s : State) (i : Nat) (p : Point) : (setPoint s i p).boot = s.boot := rfl
@[simp] theorem setPoint_upd (s : State) (i : Nat) (p : Point) : (setPoint s i p).upd = s.upd := rfl
@[simp] theorem setPoint_recov (s : State) (i : Nat) (p : Point) : (setPoint s i p).recov = s.recov := rfl

/-! ## setForce -/

@[simp] theorem setForce_pending (s : State) (k : Nat) (e : Option Force) : (setForce s k e).pending = s.pending := rfl
@[simp] theorem setForce_now (s : State) (k : Nat) (e : Option Force) : (setForce s k e).now = s.now := rfl
@[simp] theorem setForce_nextTick (s : State) (k : Nat) (e : Option Force) : (setForce s k e).nextTick = s.nextTick := rfl
@[simp] theorem setForce_nextGrid (s : State) (k : Nat) (e : Option Force) : (setForce s k e).nextGrid = s.nextGrid := rfl
@[simp] theorem setForce_regs (s : State) (k : Nat) (e : Option Force) : (setForce s k e).regs = s.regs := rfl
@[simp] theorem setForce_rwlLocked (s : State) (k : Nat) (e : Option Force) : (setForce s k e).rwlLocked = s.rwlLocked := rfl
@[simp] theorem setForce_mem (s : State) (k : Nat) (e : Option Force) : (setForce s k e).mem = s.mem := rfl
@[simp] theorem setForce_resets (s : State) (k : Nat) (e : Option Force) : (setForce s k e).resets = s.resets := rfl
@[simp] theorem setForce_free (s : State) (k : Nat) (e : Option Force) : (setForce s k e).free = s.free := rfl
@[simp] theorem setForce_drawn (s : State) (k : Nat) (e : Option Force) : (setForce s k e).drawn = s.drawn := rfl
@[simp] theorem setForce_answer (s : State) (k : Nat) (e : Option Force) : (setForce s k e).answer = s.answer := rfl
@[simp] theorem setForce_holds (s : State) (k : Nat) (e : Option Force) : (setForce s k e).holds = s.holds := rfl
@[simp] theorem setForce_stages (s : State) (k : Nat) (e : Option Force) : (setForce s k e).stages = s.stages := rfl
@[simp] theorem setForce_evtTarget (s : State) (k : Nat) (e : Option Force) : (setForce s k e).evtTarget = s.evtTarget := rfl
@[simp] theorem setForce_pfwLevel (s : State) (k : Nat) (e : Option Force) : (setForce s k e).pfwLevel = s.pfwLevel := rfl
@[simp] theorem setForce_exiting (s : State) (k : Nat) (e : Option Force) : (setForce s k e).exiting = s.exiting := rfl
@[simp] theorem setForce_points (s : State) (k : Nat) (e : Option Force) : (setForce s k e).points = s.points := rfl
@[simp] theorem setForce_nvrForces (s : State) (k : Nat) (e : Option Force) : (setForce s k e).nvrForces = s.nvrForces := rfl
@[simp] theorem setForce_evLog (s : State) (k : Nat) (e : Option Force) : (setForce s k e).evLog = s.evLog := rfl
@[simp] theorem setForce_winHolds (s : State) (k : Nat) (e : Option Force) : (setForce s k e).winHolds = s.winHolds := rfl
@[simp] theorem setForce_winStages (s : State) (k : Nat) (e : Option Force) : (setForce s k e).winStages = s.winStages := rfl
@[simp] theorem setForce_moulds (s : State) (k : Nat) (e : Option Force) : (setForce s k e).moulds = s.moulds := rfl
@[simp] theorem setForce_scan (s : State) (k : Nat) (e : Option Force) : (setForce s k e).scan = s.scan := rfl
@[simp] theorem setForce_xch (s : State) (k : Nat) (e : Option Force) : (setForce s k e).xch = s.xch := rfl
@[simp] theorem setForce_slots (s : State) (k : Nat) (e : Option Force) : (setForce s k e).slots = s.slots := rfl
@[simp] theorem setForce_loops (s : State) (k : Nat) (e : Option Force) : (setForce s k e).loops = s.loops := rfl
@[simp] theorem setForce_loopBusy (s : State) (k : Nat) (e : Option Force) : (setForce s k e).loopBusy = s.loopBusy := rfl
@[simp] theorem setForce_meter (s : State) (k : Nat) (e : Option Force) : (setForce s k e).meter = s.meter := rfl
@[simp] theorem setForce_paused (s : State) (k : Nat) (e : Option Force) : (setForce s k e).paused = s.paused := rfl
@[simp] theorem setForce_buses (s : State) (k : Nat) (e : Option Force) : (setForce s k e).buses = s.buses := rfl
@[simp] theorem setForce_fabric (s : State) (k : Nat) (e : Option Force) : (setForce s k e).fabric = s.fabric := rfl
@[simp] theorem setForce_lockTimers (s : State) (k : Nat) (e : Option Force) : (setForce s k e).lockTimers = s.lockTimers := rfl
@[simp] theorem setForce_ladle (s : State) (k : Nat) (e : Option Force) : (setForce s k e).ladle = s.ladle := rfl
@[simp] theorem setForce_queues (s : State) (k : Nat) (e : Option Force) : (setForce s k e).queues = s.queues := rfl
@[simp] theorem setForce_ports (s : State) (k : Nat) (e : Option Force) : (setForce s k e).ports = s.ports := rfl
@[simp] theorem setForce_stations (s : State) (k : Nat) (e : Option Force) : (setForce s k e).stations = s.stations := rfl
@[simp] theorem setForce_snapshot (s : State) (k : Nat) (e : Option Force) : (setForce s k e).snapshot = s.snapshot := rfl
@[simp] theorem setForce_stationHold (s : State) (k : Nat) (e : Option Force) : (setForce s k e).stationHold = s.stationHold := rfl
@[simp] theorem setForce_twin (s : State) (k : Nat) (e : Option Force) : (setForce s k e).twin = s.twin := rfl
@[simp] theorem setForce_wake (s : State) (k : Nat) (e : Option Force) : (setForce s k e).wake = s.wake := rfl
@[simp] theorem setForce_hosts (s : State) (k : Nat) (e : Option Force) : (setForce s k e).hosts = s.hosts := rfl
@[simp] theorem setForce_nrap (s : State) (k : Nat) (e : Option Force) : (setForce s k e).nrap = s.nrap := rfl
@[simp] theorem setForce_follower (s : State) (k : Nat) (e : Option Force) : (setForce s k e).follower = s.follower := rfl
@[simp] theorem setForce_ptp (s : State) (k : Nat) (e : Option Force) : (setForce s k e).ptp = s.ptp := rfl
@[simp] theorem setForce_rtc (s : State) (k : Nat) (e : Option Force) : (setForce s k e).rtc = s.rtc := rfl
@[simp] theorem setForce_otp (s : State) (k : Nat) (e : Option Force) : (setForce s k e).otp = s.otp := rfl
@[simp] theorem setForce_crypto (s : State) (k : Nat) (e : Option Force) : (setForce s k e).crypto = s.crypto := rfl
@[simp] theorem setForce_norGen (s : State) (k : Nat) (e : Option Force) : (setForce s k e).norGen = s.norGen := rfl
@[simp] theorem setForce_dramGen (s : State) (k : Nat) (e : Option Force) : (setForce s k e).dramGen = s.dramGen := rfl
@[simp] theorem setForce_boot (s : State) (k : Nat) (e : Option Force) : (setForce s k e).boot = s.boot := rfl
@[simp] theorem setForce_upd (s : State) (k : Nat) (e : Option Force) : (setForce s k e).upd = s.upd := rfl
@[simp] theorem setForce_recov (s : State) (k : Nat) (e : Option Force) : (setForce s k e).recov = s.recov := rfl

/-! ## saveForces -/

@[simp] theorem saveForces_pending (s : State)  : (saveForces s).pending = s.pending := rfl
@[simp] theorem saveForces_now (s : State)  : (saveForces s).now = s.now := rfl
@[simp] theorem saveForces_nextTick (s : State)  : (saveForces s).nextTick = s.nextTick := rfl
@[simp] theorem saveForces_nextGrid (s : State)  : (saveForces s).nextGrid = s.nextGrid := rfl
@[simp] theorem saveForces_regs (s : State)  : (saveForces s).regs = s.regs := rfl
@[simp] theorem saveForces_rwlLocked (s : State)  : (saveForces s).rwlLocked = s.rwlLocked := rfl
@[simp] theorem saveForces_mem (s : State)  : (saveForces s).mem = s.mem := rfl
@[simp] theorem saveForces_resets (s : State)  : (saveForces s).resets = s.resets := rfl
@[simp] theorem saveForces_free (s : State)  : (saveForces s).free = s.free := rfl
@[simp] theorem saveForces_drawn (s : State)  : (saveForces s).drawn = s.drawn := rfl
@[simp] theorem saveForces_answer (s : State)  : (saveForces s).answer = s.answer := rfl
@[simp] theorem saveForces_holds (s : State)  : (saveForces s).holds = s.holds := rfl
@[simp] theorem saveForces_stages (s : State)  : (saveForces s).stages = s.stages := rfl
@[simp] theorem saveForces_evtTarget (s : State)  : (saveForces s).evtTarget = s.evtTarget := rfl
@[simp] theorem saveForces_pfwLevel (s : State)  : (saveForces s).pfwLevel = s.pfwLevel := rfl
@[simp] theorem saveForces_exiting (s : State)  : (saveForces s).exiting = s.exiting := rfl
@[simp] theorem saveForces_points (s : State)  : (saveForces s).points = s.points := rfl
@[simp] theorem saveForces_forces (s : State)  : (saveForces s).forces = s.forces := rfl
@[simp] theorem saveForces_evLog (s : State)  : (saveForces s).evLog = s.evLog := rfl
@[simp] theorem saveForces_winHolds (s : State)  : (saveForces s).winHolds = s.winHolds := rfl
@[simp] theorem saveForces_winStages (s : State)  : (saveForces s).winStages = s.winStages := rfl
@[simp] theorem saveForces_moulds (s : State)  : (saveForces s).moulds = s.moulds := rfl
@[simp] theorem saveForces_scan (s : State)  : (saveForces s).scan = s.scan := rfl
@[simp] theorem saveForces_xch (s : State)  : (saveForces s).xch = s.xch := rfl
@[simp] theorem saveForces_slots (s : State)  : (saveForces s).slots = s.slots := rfl
@[simp] theorem saveForces_loops (s : State)  : (saveForces s).loops = s.loops := rfl
@[simp] theorem saveForces_loopBusy (s : State)  : (saveForces s).loopBusy = s.loopBusy := rfl
@[simp] theorem saveForces_meter (s : State)  : (saveForces s).meter = s.meter := rfl
@[simp] theorem saveForces_paused (s : State)  : (saveForces s).paused = s.paused := rfl
@[simp] theorem saveForces_buses (s : State)  : (saveForces s).buses = s.buses := rfl
@[simp] theorem saveForces_fabric (s : State)  : (saveForces s).fabric = s.fabric := rfl
@[simp] theorem saveForces_lockTimers (s : State)  : (saveForces s).lockTimers = s.lockTimers := rfl
@[simp] theorem saveForces_ladle (s : State)  : (saveForces s).ladle = s.ladle := rfl
@[simp] theorem saveForces_queues (s : State)  : (saveForces s).queues = s.queues := rfl
@[simp] theorem saveForces_ports (s : State)  : (saveForces s).ports = s.ports := rfl
@[simp] theorem saveForces_stations (s : State)  : (saveForces s).stations = s.stations := rfl
@[simp] theorem saveForces_snapshot (s : State)  : (saveForces s).snapshot = s.snapshot := rfl
@[simp] theorem saveForces_stationHold (s : State)  : (saveForces s).stationHold = s.stationHold := rfl
@[simp] theorem saveForces_twin (s : State)  : (saveForces s).twin = s.twin := rfl
@[simp] theorem saveForces_wake (s : State)  : (saveForces s).wake = s.wake := rfl
@[simp] theorem saveForces_hosts (s : State)  : (saveForces s).hosts = s.hosts := rfl
@[simp] theorem saveForces_nrap (s : State)  : (saveForces s).nrap = s.nrap := rfl
@[simp] theorem saveForces_follower (s : State)  : (saveForces s).follower = s.follower := rfl
@[simp] theorem saveForces_ptp (s : State)  : (saveForces s).ptp = s.ptp := rfl
@[simp] theorem saveForces_rtc (s : State)  : (saveForces s).rtc = s.rtc := rfl
@[simp] theorem saveForces_otp (s : State)  : (saveForces s).otp = s.otp := rfl
@[simp] theorem saveForces_crypto (s : State)  : (saveForces s).crypto = s.crypto := rfl
@[simp] theorem saveForces_norGen (s : State)  : (saveForces s).norGen = s.norGen := rfl
@[simp] theorem saveForces_dramGen (s : State)  : (saveForces s).dramGen = s.dramGen := rfl
@[simp] theorem saveForces_boot (s : State)  : (saveForces s).boot = s.boot := rfl
@[simp] theorem saveForces_upd (s : State)  : (saveForces s).upd = s.upd := rfl
@[simp] theorem saveForces_recov (s : State)  : (saveForces s).recov = s.recov := rfl

/-! ## setTask -/

@[simp] theorem setTask_pending (s : State) (t : Nat) (x : TaskState) : (setTask s t x).pending = s.pending := rfl
@[simp] theorem setTask_now (s : State) (t : Nat) (x : TaskState) : (setTask s t x).now = s.now := rfl
@[simp] theorem setTask_nextTick (s : State) (t : Nat) (x : TaskState) : (setTask s t x).nextTick = s.nextTick := rfl
@[simp] theorem setTask_nextGrid (s : State) (t : Nat) (x : TaskState) : (setTask s t x).nextGrid = s.nextGrid := rfl
@[simp] theorem setTask_regs (s : State) (t : Nat) (x : TaskState) : (setTask s t x).regs = s.regs := rfl
@[simp] theorem setTask_rwlLocked (s : State) (t : Nat) (x : TaskState) : (setTask s t x).rwlLocked = s.rwlLocked := rfl
@[simp] theorem setTask_mem (s : State) (t : Nat) (x : TaskState) : (setTask s t x).mem = s.mem := rfl
@[simp] theorem setTask_resets (s : State) (t : Nat) (x : TaskState) : (setTask s t x).resets = s.resets := rfl
@[simp] theorem setTask_free (s : State) (t : Nat) (x : TaskState) : (setTask s t x).free = s.free := rfl
@[simp] theorem setTask_drawn (s : State) (t : Nat) (x : TaskState) : (setTask s t x).drawn = s.drawn := rfl
@[simp] theorem setTask_answer (s : State) (t : Nat) (x : TaskState) : (setTask s t x).answer = s.answer := rfl
@[simp] theorem setTask_holds (s : State) (t : Nat) (x : TaskState) : (setTask s t x).holds = s.holds := rfl
@[simp] theorem setTask_stages (s : State) (t : Nat) (x : TaskState) : (setTask s t x).stages = s.stages := rfl
@[simp] theorem setTask_evtTarget (s : State) (t : Nat) (x : TaskState) : (setTask s t x).evtTarget = s.evtTarget := rfl
@[simp] theorem setTask_pfwLevel (s : State) (t : Nat) (x : TaskState) : (setTask s t x).pfwLevel = s.pfwLevel := rfl
@[simp] theorem setTask_exiting (s : State) (t : Nat) (x : TaskState) : (setTask s t x).exiting = s.exiting := rfl
@[simp] theorem setTask_points (s : State) (t : Nat) (x : TaskState) : (setTask s t x).points = s.points := rfl
@[simp] theorem setTask_forces (s : State) (t : Nat) (x : TaskState) : (setTask s t x).forces = s.forces := rfl
@[simp] theorem setTask_nvrForces (s : State) (t : Nat) (x : TaskState) : (setTask s t x).nvrForces = s.nvrForces := rfl
@[simp] theorem setTask_evLog (s : State) (t : Nat) (x : TaskState) : (setTask s t x).evLog = s.evLog := rfl
@[simp] theorem setTask_winHolds (s : State) (t : Nat) (x : TaskState) : (setTask s t x).winHolds = s.winHolds := rfl
@[simp] theorem setTask_winStages (s : State) (t : Nat) (x : TaskState) : (setTask s t x).winStages = s.winStages := rfl
@[simp] theorem setTask_moulds (s : State) (t : Nat) (x : TaskState) : (setTask s t x).moulds = s.moulds := rfl
@[simp] theorem setTask_xch (s : State) (t : Nat) (x : TaskState) : (setTask s t x).xch = s.xch := rfl
@[simp] theorem setTask_slots (s : State) (t : Nat) (x : TaskState) : (setTask s t x).slots = s.slots := rfl
@[simp] theorem setTask_loops (s : State) (t : Nat) (x : TaskState) : (setTask s t x).loops = s.loops := rfl
@[simp] theorem setTask_loopBusy (s : State) (t : Nat) (x : TaskState) : (setTask s t x).loopBusy = s.loopBusy := rfl
@[simp] theorem setTask_meter (s : State) (t : Nat) (x : TaskState) : (setTask s t x).meter = s.meter := rfl
@[simp] theorem setTask_paused (s : State) (t : Nat) (x : TaskState) : (setTask s t x).paused = s.paused := rfl
@[simp] theorem setTask_buses (s : State) (t : Nat) (x : TaskState) : (setTask s t x).buses = s.buses := rfl
@[simp] theorem setTask_fabric (s : State) (t : Nat) (x : TaskState) : (setTask s t x).fabric = s.fabric := rfl
@[simp] theorem setTask_lockTimers (s : State) (t : Nat) (x : TaskState) : (setTask s t x).lockTimers = s.lockTimers := rfl
@[simp] theorem setTask_ladle (s : State) (t : Nat) (x : TaskState) : (setTask s t x).ladle = s.ladle := rfl
@[simp] theorem setTask_queues (s : State) (t : Nat) (x : TaskState) : (setTask s t x).queues = s.queues := rfl
@[simp] theorem setTask_ports (s : State) (t : Nat) (x : TaskState) : (setTask s t x).ports = s.ports := rfl
@[simp] theorem setTask_stations (s : State) (t : Nat) (x : TaskState) : (setTask s t x).stations = s.stations := rfl
@[simp] theorem setTask_snapshot (s : State) (t : Nat) (x : TaskState) : (setTask s t x).snapshot = s.snapshot := rfl
@[simp] theorem setTask_stationHold (s : State) (t : Nat) (x : TaskState) : (setTask s t x).stationHold = s.stationHold := rfl
@[simp] theorem setTask_twin (s : State) (t : Nat) (x : TaskState) : (setTask s t x).twin = s.twin := rfl
@[simp] theorem setTask_wake (s : State) (t : Nat) (x : TaskState) : (setTask s t x).wake = s.wake := rfl
@[simp] theorem setTask_hosts (s : State) (t : Nat) (x : TaskState) : (setTask s t x).hosts = s.hosts := rfl
@[simp] theorem setTask_nrap (s : State) (t : Nat) (x : TaskState) : (setTask s t x).nrap = s.nrap := rfl
@[simp] theorem setTask_follower (s : State) (t : Nat) (x : TaskState) : (setTask s t x).follower = s.follower := rfl
@[simp] theorem setTask_ptp (s : State) (t : Nat) (x : TaskState) : (setTask s t x).ptp = s.ptp := rfl
@[simp] theorem setTask_rtc (s : State) (t : Nat) (x : TaskState) : (setTask s t x).rtc = s.rtc := rfl
@[simp] theorem setTask_otp (s : State) (t : Nat) (x : TaskState) : (setTask s t x).otp = s.otp := rfl
@[simp] theorem setTask_crypto (s : State) (t : Nat) (x : TaskState) : (setTask s t x).crypto = s.crypto := rfl
@[simp] theorem setTask_norGen (s : State) (t : Nat) (x : TaskState) : (setTask s t x).norGen = s.norGen := rfl
@[simp] theorem setTask_dramGen (s : State) (t : Nat) (x : TaskState) : (setTask s t x).dramGen = s.dramGen := rfl
@[simp] theorem setTask_boot (s : State) (t : Nat) (x : TaskState) : (setTask s t x).boot = s.boot := rfl
@[simp] theorem setTask_upd (s : State) (t : Nat) (x : TaskState) : (setTask s t x).upd = s.upd := rfl
@[simp] theorem setTask_recov (s : State) (t : Nat) (x : TaskState) : (setTask s t x).recov = s.recov := rfl

/-! ## setCauseQueue -/

@[simp] theorem setCauseQueue_pending (s : State) (f : Nat) (q : CauseQueue) : (setCauseQueue s f q).pending = s.pending := rfl
@[simp] theorem setCauseQueue_now (s : State) (f : Nat) (q : CauseQueue) : (setCauseQueue s f q).now = s.now := rfl
@[simp] theorem setCauseQueue_nextTick (s : State) (f : Nat) (q : CauseQueue) : (setCauseQueue s f q).nextTick = s.nextTick := rfl
@[simp] theorem setCauseQueue_nextGrid (s : State) (f : Nat) (q : CauseQueue) : (setCauseQueue s f q).nextGrid = s.nextGrid := rfl
@[simp] theorem setCauseQueue_regs (s : State) (f : Nat) (q : CauseQueue) : (setCauseQueue s f q).regs = s.regs := rfl
@[simp] theorem setCauseQueue_rwlLocked (s : State) (f : Nat) (q : CauseQueue) : (setCauseQueue s f q).rwlLocked = s.rwlLocked := rfl
@[simp] theorem setCauseQueue_mem (s : State) (f : Nat) (q : CauseQueue) : (setCauseQueue s f q).mem = s.mem := rfl
@[simp] theorem setCauseQueue_resets (s : State) (f : Nat) (q : CauseQueue) : (setCauseQueue s f q).resets = s.resets := rfl
@[simp] theorem setCauseQueue_free (s : State) (f : Nat) (q : CauseQueue) : (setCauseQueue s f q).free = s.free := rfl
@[simp] theorem setCauseQueue_drawn (s : State) (f : Nat) (q : CauseQueue) : (setCauseQueue s f q).drawn = s.drawn := rfl
@[simp] theorem setCauseQueue_answer (s : State) (f : Nat) (q : CauseQueue) : (setCauseQueue s f q).answer = s.answer := rfl
@[simp] theorem setCauseQueue_holds (s : State) (f : Nat) (q : CauseQueue) : (setCauseQueue s f q).holds = s.holds := rfl
@[simp] theorem setCauseQueue_stages (s : State) (f : Nat) (q : CauseQueue) : (setCauseQueue s f q).stages = s.stages := rfl
@[simp] theorem setCauseQueue_evtTarget (s : State) (f : Nat) (q : CauseQueue) : (setCauseQueue s f q).evtTarget = s.evtTarget := rfl
@[simp] theorem setCauseQueue_pfwLevel (s : State) (f : Nat) (q : CauseQueue) : (setCauseQueue s f q).pfwLevel = s.pfwLevel := rfl
@[simp] theorem setCauseQueue_exiting (s : State) (f : Nat) (q : CauseQueue) : (setCauseQueue s f q).exiting = s.exiting := rfl
@[simp] theorem setCauseQueue_points (s : State) (f : Nat) (q : CauseQueue) : (setCauseQueue s f q).points = s.points := rfl
@[simp] theorem setCauseQueue_forces (s : State) (f : Nat) (q : CauseQueue) : (setCauseQueue s f q).forces = s.forces := rfl
@[simp] theorem setCauseQueue_nvrForces (s : State) (f : Nat) (q : CauseQueue) : (setCauseQueue s f q).nvrForces = s.nvrForces := rfl
@[simp] theorem setCauseQueue_evLog (s : State) (f : Nat) (q : CauseQueue) : (setCauseQueue s f q).evLog = s.evLog := rfl
@[simp] theorem setCauseQueue_winHolds (s : State) (f : Nat) (q : CauseQueue) : (setCauseQueue s f q).winHolds = s.winHolds := rfl
@[simp] theorem setCauseQueue_winStages (s : State) (f : Nat) (q : CauseQueue) : (setCauseQueue s f q).winStages = s.winStages := rfl
@[simp] theorem setCauseQueue_moulds (s : State) (f : Nat) (q : CauseQueue) : (setCauseQueue s f q).moulds = s.moulds := rfl
@[simp] theorem setCauseQueue_xch (s : State) (f : Nat) (q : CauseQueue) : (setCauseQueue s f q).xch = s.xch := rfl
@[simp] theorem setCauseQueue_slots (s : State) (f : Nat) (q : CauseQueue) : (setCauseQueue s f q).slots = s.slots := rfl
@[simp] theorem setCauseQueue_loops (s : State) (f : Nat) (q : CauseQueue) : (setCauseQueue s f q).loops = s.loops := rfl
@[simp] theorem setCauseQueue_loopBusy (s : State) (f : Nat) (q : CauseQueue) : (setCauseQueue s f q).loopBusy = s.loopBusy := rfl
@[simp] theorem setCauseQueue_meter (s : State) (f : Nat) (q : CauseQueue) : (setCauseQueue s f q).meter = s.meter := rfl
@[simp] theorem setCauseQueue_paused (s : State) (f : Nat) (q : CauseQueue) : (setCauseQueue s f q).paused = s.paused := rfl
@[simp] theorem setCauseQueue_buses (s : State) (f : Nat) (q : CauseQueue) : (setCauseQueue s f q).buses = s.buses := rfl
@[simp] theorem setCauseQueue_fabric (s : State) (f : Nat) (q : CauseQueue) : (setCauseQueue s f q).fabric = s.fabric := rfl
@[simp] theorem setCauseQueue_lockTimers (s : State) (f : Nat) (q : CauseQueue) : (setCauseQueue s f q).lockTimers = s.lockTimers := rfl
@[simp] theorem setCauseQueue_ladle (s : State) (f : Nat) (q : CauseQueue) : (setCauseQueue s f q).ladle = s.ladle := rfl
@[simp] theorem setCauseQueue_queues (s : State) (f : Nat) (q : CauseQueue) : (setCauseQueue s f q).queues = s.queues := rfl
@[simp] theorem setCauseQueue_ports (s : State) (f : Nat) (q : CauseQueue) : (setCauseQueue s f q).ports = s.ports := rfl
@[simp] theorem setCauseQueue_stations (s : State) (f : Nat) (q : CauseQueue) : (setCauseQueue s f q).stations = s.stations := rfl
@[simp] theorem setCauseQueue_snapshot (s : State) (f : Nat) (q : CauseQueue) : (setCauseQueue s f q).snapshot = s.snapshot := rfl
@[simp] theorem setCauseQueue_stationHold (s : State) (f : Nat) (q : CauseQueue) : (setCauseQueue s f q).stationHold = s.stationHold := rfl
@[simp] theorem setCauseQueue_twin (s : State) (f : Nat) (q : CauseQueue) : (setCauseQueue s f q).twin = s.twin := rfl
@[simp] theorem setCauseQueue_wake (s : State) (f : Nat) (q : CauseQueue) : (setCauseQueue s f q).wake = s.wake := rfl
@[simp] theorem setCauseQueue_hosts (s : State) (f : Nat) (q : CauseQueue) : (setCauseQueue s f q).hosts = s.hosts := rfl
@[simp] theorem setCauseQueue_nrap (s : State) (f : Nat) (q : CauseQueue) : (setCauseQueue s f q).nrap = s.nrap := rfl
@[simp] theorem setCauseQueue_follower (s : State) (f : Nat) (q : CauseQueue) : (setCauseQueue s f q).follower = s.follower := rfl
@[simp] theorem setCauseQueue_ptp (s : State) (f : Nat) (q : CauseQueue) : (setCauseQueue s f q).ptp = s.ptp := rfl
@[simp] theorem setCauseQueue_rtc (s : State) (f : Nat) (q : CauseQueue) : (setCauseQueue s f q).rtc = s.rtc := rfl
@[simp] theorem setCauseQueue_otp (s : State) (f : Nat) (q : CauseQueue) : (setCauseQueue s f q).otp = s.otp := rfl
@[simp] theorem setCauseQueue_crypto (s : State) (f : Nat) (q : CauseQueue) : (setCauseQueue s f q).crypto = s.crypto := rfl
@[simp] theorem setCauseQueue_norGen (s : State) (f : Nat) (q : CauseQueue) : (setCauseQueue s f q).norGen = s.norGen := rfl
@[simp] theorem setCauseQueue_dramGen (s : State) (f : Nat) (q : CauseQueue) : (setCauseQueue s f q).dramGen = s.dramGen := rfl
@[simp] theorem setCauseQueue_boot (s : State) (f : Nat) (q : CauseQueue) : (setCauseQueue s f q).boot = s.boot := rfl
@[simp] theorem setCauseQueue_upd (s : State) (f : Nat) (q : CauseQueue) : (setCauseQueue s f q).upd = s.upd := rfl
@[simp] theorem setCauseQueue_recov (s : State) (f : Nat) (q : CauseQueue) : (setCauseQueue s f q).recov = s.recov := rfl

/-! ## setTwin -/

@[simp] theorem setTwin_pending (s : State) (x : Twin) : (setTwin s x).pending = s.pending := rfl
@[simp] theorem setTwin_now (s : State) (x : Twin) : (setTwin s x).now = s.now := rfl
@[simp] theorem setTwin_nextTick (s : State) (x : Twin) : (setTwin s x).nextTick = s.nextTick := rfl
@[simp] theorem setTwin_nextGrid (s : State) (x : Twin) : (setTwin s x).nextGrid = s.nextGrid := rfl
@[simp] theorem setTwin_regs (s : State) (x : Twin) : (setTwin s x).regs = s.regs := rfl
@[simp] theorem setTwin_rwlLocked (s : State) (x : Twin) : (setTwin s x).rwlLocked = s.rwlLocked := rfl
@[simp] theorem setTwin_mem (s : State) (x : Twin) : (setTwin s x).mem = s.mem := rfl
@[simp] theorem setTwin_resets (s : State) (x : Twin) : (setTwin s x).resets = s.resets := rfl
@[simp] theorem setTwin_free (s : State) (x : Twin) : (setTwin s x).free = s.free := rfl
@[simp] theorem setTwin_drawn (s : State) (x : Twin) : (setTwin s x).drawn = s.drawn := rfl
@[simp] theorem setTwin_answer (s : State) (x : Twin) : (setTwin s x).answer = s.answer := rfl
@[simp] theorem setTwin_holds (s : State) (x : Twin) : (setTwin s x).holds = s.holds := rfl
@[simp] theorem setTwin_stages (s : State) (x : Twin) : (setTwin s x).stages = s.stages := rfl
@[simp] theorem setTwin_evtTarget (s : State) (x : Twin) : (setTwin s x).evtTarget = s.evtTarget := rfl
@[simp] theorem setTwin_pfwLevel (s : State) (x : Twin) : (setTwin s x).pfwLevel = s.pfwLevel := rfl
@[simp] theorem setTwin_exiting (s : State) (x : Twin) : (setTwin s x).exiting = s.exiting := rfl
@[simp] theorem setTwin_points (s : State) (x : Twin) : (setTwin s x).points = s.points := rfl
@[simp] theorem setTwin_forces (s : State) (x : Twin) : (setTwin s x).forces = s.forces := rfl
@[simp] theorem setTwin_nvrForces (s : State) (x : Twin) : (setTwin s x).nvrForces = s.nvrForces := rfl
@[simp] theorem setTwin_evLog (s : State) (x : Twin) : (setTwin s x).evLog = s.evLog := rfl
@[simp] theorem setTwin_winHolds (s : State) (x : Twin) : (setTwin s x).winHolds = s.winHolds := rfl
@[simp] theorem setTwin_winStages (s : State) (x : Twin) : (setTwin s x).winStages = s.winStages := rfl
@[simp] theorem setTwin_moulds (s : State) (x : Twin) : (setTwin s x).moulds = s.moulds := rfl
@[simp] theorem setTwin_scan (s : State) (x : Twin) : (setTwin s x).scan = s.scan := rfl
@[simp] theorem setTwin_xch (s : State) (x : Twin) : (setTwin s x).xch = s.xch := rfl
@[simp] theorem setTwin_slots (s : State) (x : Twin) : (setTwin s x).slots = s.slots := rfl
@[simp] theorem setTwin_loops (s : State) (x : Twin) : (setTwin s x).loops = s.loops := rfl
@[simp] theorem setTwin_loopBusy (s : State) (x : Twin) : (setTwin s x).loopBusy = s.loopBusy := rfl
@[simp] theorem setTwin_meter (s : State) (x : Twin) : (setTwin s x).meter = s.meter := rfl
@[simp] theorem setTwin_paused (s : State) (x : Twin) : (setTwin s x).paused = s.paused := rfl
@[simp] theorem setTwin_buses (s : State) (x : Twin) : (setTwin s x).buses = s.buses := rfl
@[simp] theorem setTwin_fabric (s : State) (x : Twin) : (setTwin s x).fabric = s.fabric := rfl
@[simp] theorem setTwin_lockTimers (s : State) (x : Twin) : (setTwin s x).lockTimers = s.lockTimers := rfl
@[simp] theorem setTwin_ladle (s : State) (x : Twin) : (setTwin s x).ladle = s.ladle := rfl
@[simp] theorem setTwin_queues (s : State) (x : Twin) : (setTwin s x).queues = s.queues := rfl
@[simp] theorem setTwin_ports (s : State) (x : Twin) : (setTwin s x).ports = s.ports := rfl
@[simp] theorem setTwin_stations (s : State) (x : Twin) : (setTwin s x).stations = s.stations := rfl
@[simp] theorem setTwin_snapshot (s : State) (x : Twin) : (setTwin s x).snapshot = s.snapshot := rfl
@[simp] theorem setTwin_stationHold (s : State) (x : Twin) : (setTwin s x).stationHold = s.stationHold := rfl
@[simp] theorem setTwin_wake (s : State) (x : Twin) : (setTwin s x).wake = s.wake := rfl
@[simp] theorem setTwin_hosts (s : State) (x : Twin) : (setTwin s x).hosts = s.hosts := rfl
@[simp] theorem setTwin_nrap (s : State) (x : Twin) : (setTwin s x).nrap = s.nrap := rfl
@[simp] theorem setTwin_follower (s : State) (x : Twin) : (setTwin s x).follower = s.follower := rfl
@[simp] theorem setTwin_ptp (s : State) (x : Twin) : (setTwin s x).ptp = s.ptp := rfl
@[simp] theorem setTwin_rtc (s : State) (x : Twin) : (setTwin s x).rtc = s.rtc := rfl
@[simp] theorem setTwin_otp (s : State) (x : Twin) : (setTwin s x).otp = s.otp := rfl
@[simp] theorem setTwin_crypto (s : State) (x : Twin) : (setTwin s x).crypto = s.crypto := rfl
@[simp] theorem setTwin_norGen (s : State) (x : Twin) : (setTwin s x).norGen = s.norGen := rfl
@[simp] theorem setTwin_dramGen (s : State) (x : Twin) : (setTwin s x).dramGen = s.dramGen := rfl
@[simp] theorem setTwin_boot (s : State) (x : Twin) : (setTwin s x).boot = s.boot := rfl
@[simp] theorem setTwin_upd (s : State) (x : Twin) : (setTwin s x).upd = s.upd := rfl
@[simp] theorem setTwin_recov (s : State) (x : Twin) : (setTwin s x).recov = s.recov := rfl

/-! ## advanceTo -/

@[simp] theorem advanceTo_pending (s : State) (t : DWord) : (advanceTo s t).pending = s.pending := by unfold advanceTo; split <;> rfl
@[simp] theorem advanceTo_nextTick (s : State) (t : DWord) : (advanceTo s t).nextTick = s.nextTick := by unfold advanceTo; split <;> rfl
@[simp] theorem advanceTo_nextGrid (s : State) (t : DWord) : (advanceTo s t).nextGrid = s.nextGrid := by unfold advanceTo; split <;> rfl
@[simp] theorem advanceTo_regs (s : State) (t : DWord) : (advanceTo s t).regs = s.regs := by unfold advanceTo; split <;> rfl
@[simp] theorem advanceTo_rwlLocked (s : State) (t : DWord) : (advanceTo s t).rwlLocked = s.rwlLocked := by unfold advanceTo; split <;> rfl
@[simp] theorem advanceTo_mem (s : State) (t : DWord) : (advanceTo s t).mem = s.mem := by unfold advanceTo; split <;> rfl
@[simp] theorem advanceTo_resets (s : State) (t : DWord) : (advanceTo s t).resets = s.resets := by unfold advanceTo; split <;> rfl
@[simp] theorem advanceTo_free (s : State) (t : DWord) : (advanceTo s t).free = s.free := by unfold advanceTo; split <;> rfl
@[simp] theorem advanceTo_drawn (s : State) (t : DWord) : (advanceTo s t).drawn = s.drawn := by unfold advanceTo; split <;> rfl
@[simp] theorem advanceTo_answer (s : State) (t : DWord) : (advanceTo s t).answer = s.answer := by unfold advanceTo; split <;> rfl
@[simp] theorem advanceTo_holds (s : State) (t : DWord) : (advanceTo s t).holds = s.holds := by unfold advanceTo; split <;> rfl
@[simp] theorem advanceTo_stages (s : State) (t : DWord) : (advanceTo s t).stages = s.stages := by unfold advanceTo; split <;> rfl
@[simp] theorem advanceTo_evtTarget (s : State) (t : DWord) : (advanceTo s t).evtTarget = s.evtTarget := by unfold advanceTo; split <;> rfl
@[simp] theorem advanceTo_pfwLevel (s : State) (t : DWord) : (advanceTo s t).pfwLevel = s.pfwLevel := by unfold advanceTo; split <;> rfl
@[simp] theorem advanceTo_exiting (s : State) (t : DWord) : (advanceTo s t).exiting = s.exiting := by unfold advanceTo; split <;> rfl
@[simp] theorem advanceTo_points (s : State) (t : DWord) : (advanceTo s t).points = s.points := by unfold advanceTo; split <;> rfl
@[simp] theorem advanceTo_forces (s : State) (t : DWord) : (advanceTo s t).forces = s.forces := by unfold advanceTo; split <;> rfl
@[simp] theorem advanceTo_nvrForces (s : State) (t : DWord) : (advanceTo s t).nvrForces = s.nvrForces := by unfold advanceTo; split <;> rfl
@[simp] theorem advanceTo_evLog (s : State) (t : DWord) : (advanceTo s t).evLog = s.evLog := by unfold advanceTo; split <;> rfl
@[simp] theorem advanceTo_winHolds (s : State) (t : DWord) : (advanceTo s t).winHolds = s.winHolds := by unfold advanceTo; split <;> rfl
@[simp] theorem advanceTo_winStages (s : State) (t : DWord) : (advanceTo s t).winStages = s.winStages := by unfold advanceTo; split <;> rfl
@[simp] theorem advanceTo_moulds (s : State) (t : DWord) : (advanceTo s t).moulds = s.moulds := by unfold advanceTo; split <;> rfl
@[simp] theorem advanceTo_scan (s : State) (t : DWord) : (advanceTo s t).scan = s.scan := by unfold advanceTo; split <;> rfl
@[simp] theorem advanceTo_xch (s : State) (t : DWord) : (advanceTo s t).xch = s.xch := by unfold advanceTo; split <;> rfl
@[simp] theorem advanceTo_slots (s : State) (t : DWord) : (advanceTo s t).slots = s.slots := by unfold advanceTo; split <;> rfl
@[simp] theorem advanceTo_loops (s : State) (t : DWord) : (advanceTo s t).loops = s.loops := by unfold advanceTo; split <;> rfl
@[simp] theorem advanceTo_loopBusy (s : State) (t : DWord) : (advanceTo s t).loopBusy = s.loopBusy := by unfold advanceTo; split <;> rfl
@[simp] theorem advanceTo_meter (s : State) (t : DWord) : (advanceTo s t).meter = s.meter := by unfold advanceTo; split <;> rfl
@[simp] theorem advanceTo_paused (s : State) (t : DWord) : (advanceTo s t).paused = s.paused := by unfold advanceTo; split <;> rfl
@[simp] theorem advanceTo_buses (s : State) (t : DWord) : (advanceTo s t).buses = s.buses := by unfold advanceTo; split <;> rfl
@[simp] theorem advanceTo_fabric (s : State) (t : DWord) : (advanceTo s t).fabric = s.fabric := by unfold advanceTo; split <;> rfl
@[simp] theorem advanceTo_lockTimers (s : State) (t : DWord) : (advanceTo s t).lockTimers = s.lockTimers := by unfold advanceTo; split <;> rfl
@[simp] theorem advanceTo_ladle (s : State) (t : DWord) : (advanceTo s t).ladle = s.ladle := by unfold advanceTo; split <;> rfl
@[simp] theorem advanceTo_queues (s : State) (t : DWord) : (advanceTo s t).queues = s.queues := by unfold advanceTo; split <;> rfl
@[simp] theorem advanceTo_ports (s : State) (t : DWord) : (advanceTo s t).ports = s.ports := by unfold advanceTo; split <;> rfl
@[simp] theorem advanceTo_stations (s : State) (t : DWord) : (advanceTo s t).stations = s.stations := by unfold advanceTo; split <;> rfl
@[simp] theorem advanceTo_snapshot (s : State) (t : DWord) : (advanceTo s t).snapshot = s.snapshot := by unfold advanceTo; split <;> rfl
@[simp] theorem advanceTo_stationHold (s : State) (t : DWord) : (advanceTo s t).stationHold = s.stationHold := by unfold advanceTo; split <;> rfl
@[simp] theorem advanceTo_twin (s : State) (t : DWord) : (advanceTo s t).twin = s.twin := by unfold advanceTo; split <;> rfl
@[simp] theorem advanceTo_wake (s : State) (t : DWord) : (advanceTo s t).wake = s.wake := by unfold advanceTo; split <;> rfl
@[simp] theorem advanceTo_hosts (s : State) (t : DWord) : (advanceTo s t).hosts = s.hosts := by unfold advanceTo; split <;> rfl
@[simp] theorem advanceTo_nrap (s : State) (t : DWord) : (advanceTo s t).nrap = s.nrap := by unfold advanceTo; split <;> rfl
@[simp] theorem advanceTo_follower (s : State) (t : DWord) : (advanceTo s t).follower = s.follower := by unfold advanceTo; split <;> rfl
@[simp] theorem advanceTo_ptp (s : State) (t : DWord) : (advanceTo s t).ptp = s.ptp := by unfold advanceTo; split <;> rfl
@[simp] theorem advanceTo_rtc (s : State) (t : DWord) : (advanceTo s t).rtc = s.rtc := by unfold advanceTo; split <;> rfl
@[simp] theorem advanceTo_otp (s : State) (t : DWord) : (advanceTo s t).otp = s.otp := by unfold advanceTo; split <;> rfl
@[simp] theorem advanceTo_crypto (s : State) (t : DWord) : (advanceTo s t).crypto = s.crypto := by unfold advanceTo; split <;> rfl
@[simp] theorem advanceTo_norGen (s : State) (t : DWord) : (advanceTo s t).norGen = s.norGen := by unfold advanceTo; split <;> rfl
@[simp] theorem advanceTo_dramGen (s : State) (t : DWord) : (advanceTo s t).dramGen = s.dramGen := by unfold advanceTo; split <;> rfl
@[simp] theorem advanceTo_boot (s : State) (t : DWord) : (advanceTo s t).boot = s.boot := by unfold advanceTo; split <;> rfl
@[simp] theorem advanceTo_upd (s : State) (t : DWord) : (advanceTo s t).upd = s.upd := by unfold advanceTo; split <;> rfl
@[simp] theorem advanceTo_recov (s : State) (t : DWord) : (advanceTo s t).recov = s.recov := by unfold advanceTo; split <;> rfl

/-! ## demand -/

@[simp] theorem demand_pending (s : State) (d : Nat) : (demand s d).pending = s.pending := by unfold demand; split <;> rfl
@[simp] theorem demand_now (s : State) (d : Nat) : (demand s d).now = s.now := by unfold demand; split <;> rfl
@[simp] theorem demand_nextTick (s : State) (d : Nat) : (demand s d).nextTick = s.nextTick := by unfold demand; split <;> rfl
@[simp] theorem demand_nextGrid (s : State) (d : Nat) : (demand s d).nextGrid = s.nextGrid := by unfold demand; split <;> rfl
@[simp] theorem demand_regs (s : State) (d : Nat) : (demand s d).regs = s.regs := by unfold demand; split <;> rfl
@[simp] theorem demand_rwlLocked (s : State) (d : Nat) : (demand s d).rwlLocked = s.rwlLocked := by unfold demand; split <;> rfl
@[simp] theorem demand_mem (s : State) (d : Nat) : (demand s d).mem = s.mem := by unfold demand; split <;> rfl
@[simp] theorem demand_resets (s : State) (d : Nat) : (demand s d).resets = s.resets := by unfold demand; split <;> rfl
@[simp] theorem demand_free (s : State) (d : Nat) : (demand s d).free = s.free := by unfold demand; split <;> rfl
@[simp] theorem demand_drawn (s : State) (d : Nat) : (demand s d).drawn = s.drawn := by unfold demand; split <;> rfl
@[simp] theorem demand_answer (s : State) (d : Nat) : (demand s d).answer = s.answer := by unfold demand; split <;> rfl
@[simp] theorem demand_holds (s : State) (d : Nat) : (demand s d).holds = s.holds := by unfold demand; split <;> rfl
@[simp] theorem demand_stages (s : State) (d : Nat) : (demand s d).stages = s.stages := by unfold demand; split <;> rfl
@[simp] theorem demand_evtTarget (s : State) (d : Nat) : (demand s d).evtTarget = s.evtTarget := by unfold demand; split <;> rfl
@[simp] theorem demand_pfwLevel (s : State) (d : Nat) : (demand s d).pfwLevel = s.pfwLevel := by unfold demand; split <;> rfl
@[simp] theorem demand_points (s : State) (d : Nat) : (demand s d).points = s.points := by unfold demand; split <;> rfl
@[simp] theorem demand_forces (s : State) (d : Nat) : (demand s d).forces = s.forces := by unfold demand; split <;> rfl
@[simp] theorem demand_nvrForces (s : State) (d : Nat) : (demand s d).nvrForces = s.nvrForces := by unfold demand; split <;> rfl
@[simp] theorem demand_evLog (s : State) (d : Nat) : (demand s d).evLog = s.evLog := by unfold demand; split <;> rfl
@[simp] theorem demand_winHolds (s : State) (d : Nat) : (demand s d).winHolds = s.winHolds := by unfold demand; split <;> rfl
@[simp] theorem demand_winStages (s : State) (d : Nat) : (demand s d).winStages = s.winStages := by unfold demand; split <;> rfl
@[simp] theorem demand_moulds (s : State) (d : Nat) : (demand s d).moulds = s.moulds := by unfold demand; split <;> rfl
@[simp] theorem demand_scan (s : State) (d : Nat) : (demand s d).scan = s.scan := by unfold demand; split <;> rfl
@[simp] theorem demand_xch (s : State) (d : Nat) : (demand s d).xch = s.xch := by unfold demand; split <;> rfl
@[simp] theorem demand_slots (s : State) (d : Nat) : (demand s d).slots = s.slots := by unfold demand; split <;> rfl
@[simp] theorem demand_loops (s : State) (d : Nat) : (demand s d).loops = s.loops := by unfold demand; split <;> rfl
@[simp] theorem demand_loopBusy (s : State) (d : Nat) : (demand s d).loopBusy = s.loopBusy := by unfold demand; split <;> rfl
@[simp] theorem demand_meter (s : State) (d : Nat) : (demand s d).meter = s.meter := by unfold demand; split <;> rfl
@[simp] theorem demand_paused (s : State) (d : Nat) : (demand s d).paused = s.paused := by unfold demand; split <;> rfl
@[simp] theorem demand_buses (s : State) (d : Nat) : (demand s d).buses = s.buses := by unfold demand; split <;> rfl
@[simp] theorem demand_fabric (s : State) (d : Nat) : (demand s d).fabric = s.fabric := by unfold demand; split <;> rfl
@[simp] theorem demand_lockTimers (s : State) (d : Nat) : (demand s d).lockTimers = s.lockTimers := by unfold demand; split <;> rfl
@[simp] theorem demand_ladle (s : State) (d : Nat) : (demand s d).ladle = s.ladle := by unfold demand; split <;> rfl
@[simp] theorem demand_queues (s : State) (d : Nat) : (demand s d).queues = s.queues := by unfold demand; split <;> rfl
@[simp] theorem demand_ports (s : State) (d : Nat) : (demand s d).ports = s.ports := by unfold demand; split <;> rfl
@[simp] theorem demand_stations (s : State) (d : Nat) : (demand s d).stations = s.stations := by unfold demand; split <;> rfl
@[simp] theorem demand_snapshot (s : State) (d : Nat) : (demand s d).snapshot = s.snapshot := by unfold demand; split <;> rfl
@[simp] theorem demand_stationHold (s : State) (d : Nat) : (demand s d).stationHold = s.stationHold := by unfold demand; split <;> rfl
@[simp] theorem demand_twin (s : State) (d : Nat) : (demand s d).twin = s.twin := by unfold demand; split <;> rfl
@[simp] theorem demand_wake (s : State) (d : Nat) : (demand s d).wake = s.wake := by unfold demand; split <;> rfl
@[simp] theorem demand_hosts (s : State) (d : Nat) : (demand s d).hosts = s.hosts := by unfold demand; split <;> rfl
@[simp] theorem demand_nrap (s : State) (d : Nat) : (demand s d).nrap = s.nrap := by unfold demand; split <;> rfl
@[simp] theorem demand_follower (s : State) (d : Nat) : (demand s d).follower = s.follower := by unfold demand; split <;> rfl
@[simp] theorem demand_ptp (s : State) (d : Nat) : (demand s d).ptp = s.ptp := by unfold demand; split <;> rfl
@[simp] theorem demand_rtc (s : State) (d : Nat) : (demand s d).rtc = s.rtc := by unfold demand; split <;> rfl
@[simp] theorem demand_otp (s : State) (d : Nat) : (demand s d).otp = s.otp := by unfold demand; split <;> rfl
@[simp] theorem demand_crypto (s : State) (d : Nat) : (demand s d).crypto = s.crypto := by unfold demand; split <;> rfl
@[simp] theorem demand_norGen (s : State) (d : Nat) : (demand s d).norGen = s.norGen := by unfold demand; split <;> rfl
@[simp] theorem demand_dramGen (s : State) (d : Nat) : (demand s d).dramGen = s.dramGen := by unfold demand; split <;> rfl
@[simp] theorem demand_boot (s : State) (d : Nat) : (demand s d).boot = s.boot := by unfold demand; split <;> rfl
@[simp] theorem demand_upd (s : State) (d : Nat) : (demand s d).upd = s.upd := by unfold demand; split <;> rfl
@[simp] theorem demand_recov (s : State) (d : Nat) : (demand s d).recov = s.recov := by unfold demand; split <;> rfl

/-! ## evtSet -/

@[simp] theorem evtSet_pending (s : State) (n : Nat) : (evtSet s n).pending = s.pending := by
  unfold evtSet
  repeat (first | rfl | split | simp)
@[simp] theorem evtSet_now (s : State) (n : Nat) : (evtSet s n).now = s.now := by
  unfold evtSet
  repeat (first | rfl | split | simp)
@[simp] theorem evtSet_nextTick (s : State) (n : Nat) : (evtSet s n).nextTick = s.nextTick := by
  unfold evtSet
  repeat (first | rfl | split | simp)
@[simp] theorem evtSet_nextGrid (s : State) (n : Nat) : (evtSet s n).nextGrid = s.nextGrid := by
  unfold evtSet
  repeat (first | rfl | split | simp)
@[simp] theorem evtSet_rwlLocked (s : State) (n : Nat) : (evtSet s n).rwlLocked = s.rwlLocked := by
  unfold evtSet
  repeat (first | rfl | split | simp)
@[simp] theorem evtSet_mem (s : State) (n : Nat) : (evtSet s n).mem = s.mem := by
  unfold evtSet
  repeat (first | rfl | split | simp)
@[simp] theorem evtSet_resets (s : State) (n : Nat) : (evtSet s n).resets = s.resets := by
  unfold evtSet
  repeat (first | rfl | split | simp)
@[simp] theorem evtSet_free (s : State) (n : Nat) : (evtSet s n).free = s.free := by
  unfold evtSet
  repeat (first | rfl | split | simp)
@[simp] theorem evtSet_drawn (s : State) (n : Nat) : (evtSet s n).drawn = s.drawn := by
  unfold evtSet
  repeat (first | rfl | split | simp)
@[simp] theorem evtSet_answer (s : State) (n : Nat) : (evtSet s n).answer = s.answer := by
  unfold evtSet
  repeat (first | rfl | split | simp)
@[simp] theorem evtSet_holds (s : State) (n : Nat) : (evtSet s n).holds = s.holds := by
  unfold evtSet
  repeat (first | rfl | split | simp)
@[simp] theorem evtSet_stages (s : State) (n : Nat) : (evtSet s n).stages = s.stages := by
  unfold evtSet
  repeat (first | rfl | split | simp)
@[simp] theorem evtSet_pfwLevel (s : State) (n : Nat) : (evtSet s n).pfwLevel = s.pfwLevel := by
  unfold evtSet
  repeat (first | rfl | split | simp)
@[simp] theorem evtSet_points (s : State) (n : Nat) : (evtSet s n).points = s.points := by
  unfold evtSet
  repeat (first | rfl | split | simp)
@[simp] theorem evtSet_forces (s : State) (n : Nat) : (evtSet s n).forces = s.forces := by
  unfold evtSet
  repeat (first | rfl | split | simp)
@[simp] theorem evtSet_nvrForces (s : State) (n : Nat) : (evtSet s n).nvrForces = s.nvrForces := by
  unfold evtSet
  repeat (first | rfl | split | simp)
@[simp] theorem evtSet_evLog (s : State) (n : Nat) : (evtSet s n).evLog = s.evLog := by
  unfold evtSet
  repeat (first | rfl | split | simp)
@[simp] theorem evtSet_winHolds (s : State) (n : Nat) : (evtSet s n).winHolds = s.winHolds := by
  unfold evtSet
  repeat (first | rfl | split | simp)
@[simp] theorem evtSet_winStages (s : State) (n : Nat) : (evtSet s n).winStages = s.winStages := by
  unfold evtSet
  repeat (first | rfl | split | simp)
@[simp] theorem evtSet_moulds (s : State) (n : Nat) : (evtSet s n).moulds = s.moulds := by
  unfold evtSet
  repeat (first | rfl | split | simp)
@[simp] theorem evtSet_scan (s : State) (n : Nat) : (evtSet s n).scan = s.scan := by
  unfold evtSet
  repeat (first | rfl | split | simp)
@[simp] theorem evtSet_xch (s : State) (n : Nat) : (evtSet s n).xch = s.xch := by
  unfold evtSet
  repeat (first | rfl | split | simp)
@[simp] theorem evtSet_slots (s : State) (n : Nat) : (evtSet s n).slots = s.slots := by
  unfold evtSet
  repeat (first | rfl | split | simp)
@[simp] theorem evtSet_loops (s : State) (n : Nat) : (evtSet s n).loops = s.loops := by
  unfold evtSet
  repeat (first | rfl | split | simp)
@[simp] theorem evtSet_loopBusy (s : State) (n : Nat) : (evtSet s n).loopBusy = s.loopBusy := by
  unfold evtSet
  repeat (first | rfl | split | simp)
@[simp] theorem evtSet_meter (s : State) (n : Nat) : (evtSet s n).meter = s.meter := by
  unfold evtSet
  repeat (first | rfl | split | simp)
@[simp] theorem evtSet_paused (s : State) (n : Nat) : (evtSet s n).paused = s.paused := by
  unfold evtSet
  repeat (first | rfl | split | simp)
@[simp] theorem evtSet_buses (s : State) (n : Nat) : (evtSet s n).buses = s.buses := by
  unfold evtSet
  repeat (first | rfl | split | simp)
@[simp] theorem evtSet_fabric (s : State) (n : Nat) : (evtSet s n).fabric = s.fabric := by
  unfold evtSet
  repeat (first | rfl | split | simp)
@[simp] theorem evtSet_lockTimers (s : State) (n : Nat) : (evtSet s n).lockTimers = s.lockTimers := by
  unfold evtSet
  repeat (first | rfl | split | simp)
@[simp] theorem evtSet_ladle (s : State) (n : Nat) : (evtSet s n).ladle = s.ladle := by
  unfold evtSet
  repeat (first | rfl | split | simp)
@[simp] theorem evtSet_queues (s : State) (n : Nat) : (evtSet s n).queues = s.queues := by
  unfold evtSet
  repeat (first | rfl | split | simp)
@[simp] theorem evtSet_ports (s : State) (n : Nat) : (evtSet s n).ports = s.ports := by
  unfold evtSet
  repeat (first | rfl | split | simp)
@[simp] theorem evtSet_stations (s : State) (n : Nat) : (evtSet s n).stations = s.stations := by
  unfold evtSet
  repeat (first | rfl | split | simp)
@[simp] theorem evtSet_snapshot (s : State) (n : Nat) : (evtSet s n).snapshot = s.snapshot := by
  unfold evtSet
  repeat (first | rfl | split | simp)
@[simp] theorem evtSet_stationHold (s : State) (n : Nat) : (evtSet s n).stationHold = s.stationHold := by
  unfold evtSet
  repeat (first | rfl | split | simp)
@[simp] theorem evtSet_twin (s : State) (n : Nat) : (evtSet s n).twin = s.twin := by
  unfold evtSet
  repeat (first | rfl | split | simp)
@[simp] theorem evtSet_wake (s : State) (n : Nat) : (evtSet s n).wake = s.wake := by
  unfold evtSet
  repeat (first | rfl | split | simp)
@[simp] theorem evtSet_hosts (s : State) (n : Nat) : (evtSet s n).hosts = s.hosts := by
  unfold evtSet
  repeat (first | rfl | split | simp)
@[simp] theorem evtSet_nrap (s : State) (n : Nat) : (evtSet s n).nrap = s.nrap := by
  unfold evtSet
  repeat (first | rfl | split | simp)
@[simp] theorem evtSet_follower (s : State) (n : Nat) : (evtSet s n).follower = s.follower := by
  unfold evtSet
  repeat (first | rfl | split | simp)
@[simp] theorem evtSet_ptp (s : State) (n : Nat) : (evtSet s n).ptp = s.ptp := by
  unfold evtSet
  repeat (first | rfl | split | simp)
@[simp] theorem evtSet_rtc (s : State) (n : Nat) : (evtSet s n).rtc = s.rtc := by
  unfold evtSet
  repeat (first | rfl | split | simp)
@[simp] theorem evtSet_otp (s : State) (n : Nat) : (evtSet s n).otp = s.otp := by
  unfold evtSet
  repeat (first | rfl | split | simp)
@[simp] theorem evtSet_crypto (s : State) (n : Nat) : (evtSet s n).crypto = s.crypto := by
  unfold evtSet
  repeat (first | rfl | split | simp)
@[simp] theorem evtSet_norGen (s : State) (n : Nat) : (evtSet s n).norGen = s.norGen := by
  unfold evtSet
  repeat (first | rfl | split | simp)
@[simp] theorem evtSet_dramGen (s : State) (n : Nat) : (evtSet s n).dramGen = s.dramGen := by
  unfold evtSet
  repeat (first | rfl | split | simp)
@[simp] theorem evtSet_boot (s : State) (n : Nat) : (evtSet s n).boot = s.boot := by
  unfold evtSet
  repeat (first | rfl | split | simp)
@[simp] theorem evtSet_upd (s : State) (n : Nat) : (evtSet s n).upd = s.upd := by
  unfold evtSet
  repeat (first | rfl | split | simp)
@[simp] theorem evtSet_recov (s : State) (n : Nat) : (evtSet s n).recov = s.recov := by
  unfold evtSet
  repeat (first | rfl | split | simp)

/-! ## evtLevel -/

@[simp] theorem evtLevel_pending (s : State) (n : Nat) : (evtLevel s n).pending = s.pending := by unfold evtLevel; split <;> simp
@[simp] theorem evtLevel_now (s : State) (n : Nat) : (evtLevel s n).now = s.now := by unfold evtLevel; split <;> simp
@[simp] theorem evtLevel_nextTick (s : State) (n : Nat) : (evtLevel s n).nextTick = s.nextTick := by unfold evtLevel; split <;> simp
@[simp] theorem evtLevel_nextGrid (s : State) (n : Nat) : (evtLevel s n).nextGrid = s.nextGrid := by unfold evtLevel; split <;> simp
@[simp] theorem evtLevel_rwlLocked (s : State) (n : Nat) : (evtLevel s n).rwlLocked = s.rwlLocked := by unfold evtLevel; split <;> simp
@[simp] theorem evtLevel_mem (s : State) (n : Nat) : (evtLevel s n).mem = s.mem := by unfold evtLevel; split <;> simp
@[simp] theorem evtLevel_resets (s : State) (n : Nat) : (evtLevel s n).resets = s.resets := by unfold evtLevel; split <;> simp
@[simp] theorem evtLevel_free (s : State) (n : Nat) : (evtLevel s n).free = s.free := by unfold evtLevel; split <;> simp
@[simp] theorem evtLevel_drawn (s : State) (n : Nat) : (evtLevel s n).drawn = s.drawn := by unfold evtLevel; split <;> simp
@[simp] theorem evtLevel_answer (s : State) (n : Nat) : (evtLevel s n).answer = s.answer := by unfold evtLevel; split <;> simp
@[simp] theorem evtLevel_holds (s : State) (n : Nat) : (evtLevel s n).holds = s.holds := by unfold evtLevel; split <;> simp
@[simp] theorem evtLevel_stages (s : State) (n : Nat) : (evtLevel s n).stages = s.stages := by unfold evtLevel; split <;> simp
@[simp] theorem evtLevel_pfwLevel (s : State) (n : Nat) : (evtLevel s n).pfwLevel = s.pfwLevel := by unfold evtLevel; split <;> simp
@[simp] theorem evtLevel_points (s : State) (n : Nat) : (evtLevel s n).points = s.points := by unfold evtLevel; split <;> simp
@[simp] theorem evtLevel_forces (s : State) (n : Nat) : (evtLevel s n).forces = s.forces := by unfold evtLevel; split <;> simp
@[simp] theorem evtLevel_nvrForces (s : State) (n : Nat) : (evtLevel s n).nvrForces = s.nvrForces := by unfold evtLevel; split <;> simp
@[simp] theorem evtLevel_evLog (s : State) (n : Nat) : (evtLevel s n).evLog = s.evLog := by unfold evtLevel; split <;> simp
@[simp] theorem evtLevel_winHolds (s : State) (n : Nat) : (evtLevel s n).winHolds = s.winHolds := by unfold evtLevel; split <;> simp
@[simp] theorem evtLevel_winStages (s : State) (n : Nat) : (evtLevel s n).winStages = s.winStages := by unfold evtLevel; split <;> simp
@[simp] theorem evtLevel_moulds (s : State) (n : Nat) : (evtLevel s n).moulds = s.moulds := by unfold evtLevel; split <;> simp
@[simp] theorem evtLevel_scan (s : State) (n : Nat) : (evtLevel s n).scan = s.scan := by unfold evtLevel; split <;> simp
@[simp] theorem evtLevel_xch (s : State) (n : Nat) : (evtLevel s n).xch = s.xch := by unfold evtLevel; split <;> simp
@[simp] theorem evtLevel_slots (s : State) (n : Nat) : (evtLevel s n).slots = s.slots := by unfold evtLevel; split <;> simp
@[simp] theorem evtLevel_loops (s : State) (n : Nat) : (evtLevel s n).loops = s.loops := by unfold evtLevel; split <;> simp
@[simp] theorem evtLevel_loopBusy (s : State) (n : Nat) : (evtLevel s n).loopBusy = s.loopBusy := by unfold evtLevel; split <;> simp
@[simp] theorem evtLevel_meter (s : State) (n : Nat) : (evtLevel s n).meter = s.meter := by unfold evtLevel; split <;> simp
@[simp] theorem evtLevel_paused (s : State) (n : Nat) : (evtLevel s n).paused = s.paused := by unfold evtLevel; split <;> simp
@[simp] theorem evtLevel_buses (s : State) (n : Nat) : (evtLevel s n).buses = s.buses := by unfold evtLevel; split <;> simp
@[simp] theorem evtLevel_fabric (s : State) (n : Nat) : (evtLevel s n).fabric = s.fabric := by unfold evtLevel; split <;> simp
@[simp] theorem evtLevel_lockTimers (s : State) (n : Nat) : (evtLevel s n).lockTimers = s.lockTimers := by unfold evtLevel; split <;> simp
@[simp] theorem evtLevel_ladle (s : State) (n : Nat) : (evtLevel s n).ladle = s.ladle := by unfold evtLevel; split <;> simp
@[simp] theorem evtLevel_queues (s : State) (n : Nat) : (evtLevel s n).queues = s.queues := by unfold evtLevel; split <;> simp
@[simp] theorem evtLevel_ports (s : State) (n : Nat) : (evtLevel s n).ports = s.ports := by unfold evtLevel; split <;> simp
@[simp] theorem evtLevel_stations (s : State) (n : Nat) : (evtLevel s n).stations = s.stations := by unfold evtLevel; split <;> simp
@[simp] theorem evtLevel_snapshot (s : State) (n : Nat) : (evtLevel s n).snapshot = s.snapshot := by unfold evtLevel; split <;> simp
@[simp] theorem evtLevel_stationHold (s : State) (n : Nat) : (evtLevel s n).stationHold = s.stationHold := by unfold evtLevel; split <;> simp
@[simp] theorem evtLevel_twin (s : State) (n : Nat) : (evtLevel s n).twin = s.twin := by unfold evtLevel; split <;> simp
@[simp] theorem evtLevel_wake (s : State) (n : Nat) : (evtLevel s n).wake = s.wake := by unfold evtLevel; split <;> simp
@[simp] theorem evtLevel_hosts (s : State) (n : Nat) : (evtLevel s n).hosts = s.hosts := by unfold evtLevel; split <;> simp
@[simp] theorem evtLevel_nrap (s : State) (n : Nat) : (evtLevel s n).nrap = s.nrap := by unfold evtLevel; split <;> simp
@[simp] theorem evtLevel_follower (s : State) (n : Nat) : (evtLevel s n).follower = s.follower := by unfold evtLevel; split <;> simp
@[simp] theorem evtLevel_ptp (s : State) (n : Nat) : (evtLevel s n).ptp = s.ptp := by unfold evtLevel; split <;> simp
@[simp] theorem evtLevel_rtc (s : State) (n : Nat) : (evtLevel s n).rtc = s.rtc := by unfold evtLevel; split <;> simp
@[simp] theorem evtLevel_otp (s : State) (n : Nat) : (evtLevel s n).otp = s.otp := by unfold evtLevel; split <;> simp
@[simp] theorem evtLevel_crypto (s : State) (n : Nat) : (evtLevel s n).crypto = s.crypto := by unfold evtLevel; split <;> simp
@[simp] theorem evtLevel_norGen (s : State) (n : Nat) : (evtLevel s n).norGen = s.norGen := by unfold evtLevel; split <;> simp
@[simp] theorem evtLevel_dramGen (s : State) (n : Nat) : (evtLevel s n).dramGen = s.dramGen := by unfold evtLevel; split <;> simp
@[simp] theorem evtLevel_boot (s : State) (n : Nat) : (evtLevel s n).boot = s.boot := by unfold evtLevel; split <;> simp
@[simp] theorem evtLevel_upd (s : State) (n : Nat) : (evtLevel s n).upd = s.upd := by unfold evtLevel; split <;> simp
@[simp] theorem evtLevel_recov (s : State) (n : Nat) : (evtLevel s n).recov = s.recov := by unfold evtLevel; split <;> simp

/-! ## raise -/

@[simp] theorem raise_pending (s : State) (p c : Nat) : (raise s p c).pending = s.pending := by unfold raise; simp
@[simp] theorem raise_now (s : State) (p c : Nat) : (raise s p c).now = s.now := by unfold raise; simp
@[simp] theorem raise_nextTick (s : State) (p c : Nat) : (raise s p c).nextTick = s.nextTick := by unfold raise; simp
@[simp] theorem raise_nextGrid (s : State) (p c : Nat) : (raise s p c).nextGrid = s.nextGrid := by unfold raise; simp
@[simp] theorem raise_rwlLocked (s : State) (p c : Nat) : (raise s p c).rwlLocked = s.rwlLocked := by unfold raise; simp
@[simp] theorem raise_mem (s : State) (p c : Nat) : (raise s p c).mem = s.mem := by unfold raise; simp
@[simp] theorem raise_resets (s : State) (p c : Nat) : (raise s p c).resets = s.resets := by unfold raise; simp
@[simp] theorem raise_free (s : State) (p c : Nat) : (raise s p c).free = s.free := by unfold raise; simp
@[simp] theorem raise_drawn (s : State) (p c : Nat) : (raise s p c).drawn = s.drawn := by unfold raise; simp
@[simp] theorem raise_answer (s : State) (p c : Nat) : (raise s p c).answer = s.answer := by unfold raise; simp
@[simp] theorem raise_holds (s : State) (p c : Nat) : (raise s p c).holds = s.holds := by unfold raise; simp
@[simp] theorem raise_stages (s : State) (p c : Nat) : (raise s p c).stages = s.stages := by unfold raise; simp
@[simp] theorem raise_pfwLevel (s : State) (p c : Nat) : (raise s p c).pfwLevel = s.pfwLevel := by unfold raise; simp
@[simp] theorem raise_points (s : State) (p c : Nat) : (raise s p c).points = s.points := by unfold raise; simp
@[simp] theorem raise_forces (s : State) (p c : Nat) : (raise s p c).forces = s.forces := by unfold raise; simp
@[simp] theorem raise_nvrForces (s : State) (p c : Nat) : (raise s p c).nvrForces = s.nvrForces := by unfold raise; simp
@[simp] theorem raise_evLog (s : State) (p c : Nat) : (raise s p c).evLog = s.evLog := by unfold raise; simp
@[simp] theorem raise_winHolds (s : State) (p c : Nat) : (raise s p c).winHolds = s.winHolds := by unfold raise; simp
@[simp] theorem raise_winStages (s : State) (p c : Nat) : (raise s p c).winStages = s.winStages := by unfold raise; simp
@[simp] theorem raise_moulds (s : State) (p c : Nat) : (raise s p c).moulds = s.moulds := by unfold raise; simp
@[simp] theorem raise_scan (s : State) (p c : Nat) : (raise s p c).scan = s.scan := by unfold raise; simp
@[simp] theorem raise_xch (s : State) (p c : Nat) : (raise s p c).xch = s.xch := by unfold raise; simp
@[simp] theorem raise_slots (s : State) (p c : Nat) : (raise s p c).slots = s.slots := by unfold raise; simp
@[simp] theorem raise_loops (s : State) (p c : Nat) : (raise s p c).loops = s.loops := by unfold raise; simp
@[simp] theorem raise_loopBusy (s : State) (p c : Nat) : (raise s p c).loopBusy = s.loopBusy := by unfold raise; simp
@[simp] theorem raise_meter (s : State) (p c : Nat) : (raise s p c).meter = s.meter := by unfold raise; simp
@[simp] theorem raise_paused (s : State) (p c : Nat) : (raise s p c).paused = s.paused := by unfold raise; simp
@[simp] theorem raise_buses (s : State) (p c : Nat) : (raise s p c).buses = s.buses := by unfold raise; simp
@[simp] theorem raise_fabric (s : State) (p c : Nat) : (raise s p c).fabric = s.fabric := by unfold raise; simp
@[simp] theorem raise_lockTimers (s : State) (p c : Nat) : (raise s p c).lockTimers = s.lockTimers := by unfold raise; simp
@[simp] theorem raise_ladle (s : State) (p c : Nat) : (raise s p c).ladle = s.ladle := by unfold raise; simp
@[simp] theorem raise_queues (s : State) (p c : Nat) : (raise s p c).queues = s.queues := by unfold raise; simp
@[simp] theorem raise_ports (s : State) (p c : Nat) : (raise s p c).ports = s.ports := by unfold raise; simp
@[simp] theorem raise_stations (s : State) (p c : Nat) : (raise s p c).stations = s.stations := by unfold raise; simp
@[simp] theorem raise_snapshot (s : State) (p c : Nat) : (raise s p c).snapshot = s.snapshot := by unfold raise; simp
@[simp] theorem raise_stationHold (s : State) (p c : Nat) : (raise s p c).stationHold = s.stationHold := by unfold raise; simp
@[simp] theorem raise_twin (s : State) (p c : Nat) : (raise s p c).twin = s.twin := by unfold raise; simp
@[simp] theorem raise_wake (s : State) (p c : Nat) : (raise s p c).wake = s.wake := by unfold raise; simp
@[simp] theorem raise_hosts (s : State) (p c : Nat) : (raise s p c).hosts = s.hosts := by unfold raise; simp
@[simp] theorem raise_nrap (s : State) (p c : Nat) : (raise s p c).nrap = s.nrap := by unfold raise; simp
@[simp] theorem raise_follower (s : State) (p c : Nat) : (raise s p c).follower = s.follower := by unfold raise; simp
@[simp] theorem raise_ptp (s : State) (p c : Nat) : (raise s p c).ptp = s.ptp := by unfold raise; simp
@[simp] theorem raise_rtc (s : State) (p c : Nat) : (raise s p c).rtc = s.rtc := by unfold raise; simp
@[simp] theorem raise_otp (s : State) (p c : Nat) : (raise s p c).otp = s.otp := by unfold raise; simp
@[simp] theorem raise_crypto (s : State) (p c : Nat) : (raise s p c).crypto = s.crypto := by unfold raise; simp
@[simp] theorem raise_norGen (s : State) (p c : Nat) : (raise s p c).norGen = s.norGen := by unfold raise; simp
@[simp] theorem raise_dramGen (s : State) (p c : Nat) : (raise s p c).dramGen = s.dramGen := by unfold raise; simp
@[simp] theorem raise_boot (s : State) (p c : Nat) : (raise s p c).boot = s.boot := by unfold raise; simp
@[simp] theorem raise_upd (s : State) (p c : Nat) : (raise s p c).upd = s.upd := by unfold raise; simp
@[simp] theorem raise_recov (s : State) (p c : Nat) : (raise s p c).recov = s.recov := by unfold raise; simp

/-! ## raiseBit -/

@[simp] theorem raiseBit_pending (s : State) (p n : Nat) : (raiseBit s p n).pending = s.pending := by unfold raiseBit; simp
@[simp] theorem raiseBit_now (s : State) (p n : Nat) : (raiseBit s p n).now = s.now := by unfold raiseBit; simp
@[simp] theorem raiseBit_nextTick (s : State) (p n : Nat) : (raiseBit s p n).nextTick = s.nextTick := by unfold raiseBit; simp
@[simp] theorem raiseBit_nextGrid (s : State) (p n : Nat) : (raiseBit s p n).nextGrid = s.nextGrid := by unfold raiseBit; simp
@[simp] theorem raiseBit_rwlLocked (s : State) (p n : Nat) : (raiseBit s p n).rwlLocked = s.rwlLocked := by unfold raiseBit; simp
@[simp] theorem raiseBit_mem (s : State) (p n : Nat) : (raiseBit s p n).mem = s.mem := by unfold raiseBit; simp
@[simp] theorem raiseBit_resets (s : State) (p n : Nat) : (raiseBit s p n).resets = s.resets := by unfold raiseBit; simp
@[simp] theorem raiseBit_free (s : State) (p n : Nat) : (raiseBit s p n).free = s.free := by unfold raiseBit; simp
@[simp] theorem raiseBit_drawn (s : State) (p n : Nat) : (raiseBit s p n).drawn = s.drawn := by unfold raiseBit; simp
@[simp] theorem raiseBit_answer (s : State) (p n : Nat) : (raiseBit s p n).answer = s.answer := by unfold raiseBit; simp
@[simp] theorem raiseBit_holds (s : State) (p n : Nat) : (raiseBit s p n).holds = s.holds := by unfold raiseBit; simp
@[simp] theorem raiseBit_stages (s : State) (p n : Nat) : (raiseBit s p n).stages = s.stages := by unfold raiseBit; simp
@[simp] theorem raiseBit_pfwLevel (s : State) (p n : Nat) : (raiseBit s p n).pfwLevel = s.pfwLevel := by unfold raiseBit; simp
@[simp] theorem raiseBit_points (s : State) (p n : Nat) : (raiseBit s p n).points = s.points := by unfold raiseBit; simp
@[simp] theorem raiseBit_forces (s : State) (p n : Nat) : (raiseBit s p n).forces = s.forces := by unfold raiseBit; simp
@[simp] theorem raiseBit_nvrForces (s : State) (p n : Nat) : (raiseBit s p n).nvrForces = s.nvrForces := by unfold raiseBit; simp
@[simp] theorem raiseBit_evLog (s : State) (p n : Nat) : (raiseBit s p n).evLog = s.evLog := by unfold raiseBit; simp
@[simp] theorem raiseBit_winHolds (s : State) (p n : Nat) : (raiseBit s p n).winHolds = s.winHolds := by unfold raiseBit; simp
@[simp] theorem raiseBit_winStages (s : State) (p n : Nat) : (raiseBit s p n).winStages = s.winStages := by unfold raiseBit; simp
@[simp] theorem raiseBit_moulds (s : State) (p n : Nat) : (raiseBit s p n).moulds = s.moulds := by unfold raiseBit; simp
@[simp] theorem raiseBit_scan (s : State) (p n : Nat) : (raiseBit s p n).scan = s.scan := by unfold raiseBit; simp
@[simp] theorem raiseBit_xch (s : State) (p n : Nat) : (raiseBit s p n).xch = s.xch := by unfold raiseBit; simp
@[simp] theorem raiseBit_slots (s : State) (p n : Nat) : (raiseBit s p n).slots = s.slots := by unfold raiseBit; simp
@[simp] theorem raiseBit_loops (s : State) (p n : Nat) : (raiseBit s p n).loops = s.loops := by unfold raiseBit; simp
@[simp] theorem raiseBit_loopBusy (s : State) (p n : Nat) : (raiseBit s p n).loopBusy = s.loopBusy := by unfold raiseBit; simp
@[simp] theorem raiseBit_meter (s : State) (p n : Nat) : (raiseBit s p n).meter = s.meter := by unfold raiseBit; simp
@[simp] theorem raiseBit_paused (s : State) (p n : Nat) : (raiseBit s p n).paused = s.paused := by unfold raiseBit; simp
@[simp] theorem raiseBit_buses (s : State) (p n : Nat) : (raiseBit s p n).buses = s.buses := by unfold raiseBit; simp
@[simp] theorem raiseBit_fabric (s : State) (p n : Nat) : (raiseBit s p n).fabric = s.fabric := by unfold raiseBit; simp
@[simp] theorem raiseBit_lockTimers (s : State) (p n : Nat) : (raiseBit s p n).lockTimers = s.lockTimers := by unfold raiseBit; simp
@[simp] theorem raiseBit_ladle (s : State) (p n : Nat) : (raiseBit s p n).ladle = s.ladle := by unfold raiseBit; simp
@[simp] theorem raiseBit_queues (s : State) (p n : Nat) : (raiseBit s p n).queues = s.queues := by unfold raiseBit; simp
@[simp] theorem raiseBit_ports (s : State) (p n : Nat) : (raiseBit s p n).ports = s.ports := by unfold raiseBit; simp
@[simp] theorem raiseBit_stations (s : State) (p n : Nat) : (raiseBit s p n).stations = s.stations := by unfold raiseBit; simp
@[simp] theorem raiseBit_snapshot (s : State) (p n : Nat) : (raiseBit s p n).snapshot = s.snapshot := by unfold raiseBit; simp
@[simp] theorem raiseBit_stationHold (s : State) (p n : Nat) : (raiseBit s p n).stationHold = s.stationHold := by unfold raiseBit; simp
@[simp] theorem raiseBit_twin (s : State) (p n : Nat) : (raiseBit s p n).twin = s.twin := by unfold raiseBit; simp
@[simp] theorem raiseBit_wake (s : State) (p n : Nat) : (raiseBit s p n).wake = s.wake := by unfold raiseBit; simp
@[simp] theorem raiseBit_hosts (s : State) (p n : Nat) : (raiseBit s p n).hosts = s.hosts := by unfold raiseBit; simp
@[simp] theorem raiseBit_nrap (s : State) (p n : Nat) : (raiseBit s p n).nrap = s.nrap := by unfold raiseBit; simp
@[simp] theorem raiseBit_follower (s : State) (p n : Nat) : (raiseBit s p n).follower = s.follower := by unfold raiseBit; simp
@[simp] theorem raiseBit_ptp (s : State) (p n : Nat) : (raiseBit s p n).ptp = s.ptp := by unfold raiseBit; simp
@[simp] theorem raiseBit_rtc (s : State) (p n : Nat) : (raiseBit s p n).rtc = s.rtc := by unfold raiseBit; simp
@[simp] theorem raiseBit_otp (s : State) (p n : Nat) : (raiseBit s p n).otp = s.otp := by unfold raiseBit; simp
@[simp] theorem raiseBit_crypto (s : State) (p n : Nat) : (raiseBit s p n).crypto = s.crypto := by unfold raiseBit; simp
@[simp] theorem raiseBit_norGen (s : State) (p n : Nat) : (raiseBit s p n).norGen = s.norGen := by unfold raiseBit; simp
@[simp] theorem raiseBit_dramGen (s : State) (p n : Nat) : (raiseBit s p n).dramGen = s.dramGen := by unfold raiseBit; simp
@[simp] theorem raiseBit_boot (s : State) (p n : Nat) : (raiseBit s p n).boot = s.boot := by unfold raiseBit; simp
@[simp] theorem raiseBit_upd (s : State) (p n : Nat) : (raiseBit s p n).upd = s.upd := by unfold raiseBit; simp
@[simp] theorem raiseBit_recov (s : State) (p n : Nat) : (raiseBit s p n).recov = s.recov := by unfold raiseBit; simp

/-! ## pgError -/

@[simp] theorem pgError_pending (s : State) (p o : Nat) (c : Code) : (pgError s p o c).pending = s.pending := by unfold pgError; dsimp only; split <;> simp
@[simp] theorem pgError_now (s : State) (p o : Nat) (c : Code) : (pgError s p o c).now = s.now := by unfold pgError; dsimp only; split <;> simp
@[simp] theorem pgError_nextTick (s : State) (p o : Nat) (c : Code) : (pgError s p o c).nextTick = s.nextTick := by unfold pgError; dsimp only; split <;> simp
@[simp] theorem pgError_nextGrid (s : State) (p o : Nat) (c : Code) : (pgError s p o c).nextGrid = s.nextGrid := by unfold pgError; dsimp only; split <;> simp
@[simp] theorem pgError_rwlLocked (s : State) (p o : Nat) (c : Code) : (pgError s p o c).rwlLocked = s.rwlLocked := by unfold pgError; dsimp only; split <;> simp
@[simp] theorem pgError_mem (s : State) (p o : Nat) (c : Code) : (pgError s p o c).mem = s.mem := by unfold pgError; dsimp only; split <;> simp
@[simp] theorem pgError_resets (s : State) (p o : Nat) (c : Code) : (pgError s p o c).resets = s.resets := by unfold pgError; dsimp only; split <;> simp
@[simp] theorem pgError_free (s : State) (p o : Nat) (c : Code) : (pgError s p o c).free = s.free := by unfold pgError; dsimp only; split <;> simp
@[simp] theorem pgError_drawn (s : State) (p o : Nat) (c : Code) : (pgError s p o c).drawn = s.drawn := by unfold pgError; dsimp only; split <;> simp
@[simp] theorem pgError_answer (s : State) (p o : Nat) (c : Code) : (pgError s p o c).answer = s.answer := by unfold pgError; dsimp only; split <;> simp
@[simp] theorem pgError_holds (s : State) (p o : Nat) (c : Code) : (pgError s p o c).holds = s.holds := by unfold pgError; dsimp only; split <;> simp
@[simp] theorem pgError_stages (s : State) (p o : Nat) (c : Code) : (pgError s p o c).stages = s.stages := by unfold pgError; dsimp only; split <;> simp
@[simp] theorem pgError_pfwLevel (s : State) (p o : Nat) (c : Code) : (pgError s p o c).pfwLevel = s.pfwLevel := by unfold pgError; dsimp only; split <;> simp
@[simp] theorem pgError_points (s : State) (p o : Nat) (c : Code) : (pgError s p o c).points = s.points := by unfold pgError; dsimp only; split <;> simp
@[simp] theorem pgError_forces (s : State) (p o : Nat) (c : Code) : (pgError s p o c).forces = s.forces := by unfold pgError; dsimp only; split <;> simp
@[simp] theorem pgError_nvrForces (s : State) (p o : Nat) (c : Code) : (pgError s p o c).nvrForces = s.nvrForces := by unfold pgError; dsimp only; split <;> simp
@[simp] theorem pgError_evLog (s : State) (p o : Nat) (c : Code) : (pgError s p o c).evLog = s.evLog := by unfold pgError; dsimp only; split <;> simp
@[simp] theorem pgError_winHolds (s : State) (p o : Nat) (c : Code) : (pgError s p o c).winHolds = s.winHolds := by unfold pgError; dsimp only; split <;> simp
@[simp] theorem pgError_winStages (s : State) (p o : Nat) (c : Code) : (pgError s p o c).winStages = s.winStages := by unfold pgError; dsimp only; split <;> simp
@[simp] theorem pgError_moulds (s : State) (p o : Nat) (c : Code) : (pgError s p o c).moulds = s.moulds := by unfold pgError; dsimp only; split <;> simp
@[simp] theorem pgError_scan (s : State) (p o : Nat) (c : Code) : (pgError s p o c).scan = s.scan := by unfold pgError; dsimp only; split <;> simp
@[simp] theorem pgError_xch (s : State) (p o : Nat) (c : Code) : (pgError s p o c).xch = s.xch := by unfold pgError; dsimp only; split <;> simp
@[simp] theorem pgError_slots (s : State) (p o : Nat) (c : Code) : (pgError s p o c).slots = s.slots := by unfold pgError; dsimp only; split <;> simp
@[simp] theorem pgError_loops (s : State) (p o : Nat) (c : Code) : (pgError s p o c).loops = s.loops := by unfold pgError; dsimp only; split <;> simp
@[simp] theorem pgError_loopBusy (s : State) (p o : Nat) (c : Code) : (pgError s p o c).loopBusy = s.loopBusy := by unfold pgError; dsimp only; split <;> simp
@[simp] theorem pgError_meter (s : State) (p o : Nat) (c : Code) : (pgError s p o c).meter = s.meter := by unfold pgError; dsimp only; split <;> simp
@[simp] theorem pgError_paused (s : State) (p o : Nat) (c : Code) : (pgError s p o c).paused = s.paused := by unfold pgError; dsimp only; split <;> simp
@[simp] theorem pgError_buses (s : State) (p o : Nat) (c : Code) : (pgError s p o c).buses = s.buses := by unfold pgError; dsimp only; split <;> simp
@[simp] theorem pgError_fabric (s : State) (p o : Nat) (c : Code) : (pgError s p o c).fabric = s.fabric := by unfold pgError; dsimp only; split <;> simp
@[simp] theorem pgError_lockTimers (s : State) (p o : Nat) (c : Code) : (pgError s p o c).lockTimers = s.lockTimers := by unfold pgError; dsimp only; split <;> simp
@[simp] theorem pgError_ladle (s : State) (p o : Nat) (c : Code) : (pgError s p o c).ladle = s.ladle := by unfold pgError; dsimp only; split <;> simp
@[simp] theorem pgError_queues (s : State) (p o : Nat) (c : Code) : (pgError s p o c).queues = s.queues := by unfold pgError; dsimp only; split <;> simp
@[simp] theorem pgError_ports (s : State) (p o : Nat) (c : Code) : (pgError s p o c).ports = s.ports := by unfold pgError; dsimp only; split <;> simp
@[simp] theorem pgError_stations (s : State) (p o : Nat) (c : Code) : (pgError s p o c).stations = s.stations := by unfold pgError; dsimp only; split <;> simp
@[simp] theorem pgError_snapshot (s : State) (p o : Nat) (c : Code) : (pgError s p o c).snapshot = s.snapshot := by unfold pgError; dsimp only; split <;> simp
@[simp] theorem pgError_stationHold (s : State) (p o : Nat) (c : Code) : (pgError s p o c).stationHold = s.stationHold := by unfold pgError; dsimp only; split <;> simp
@[simp] theorem pgError_twin (s : State) (p o : Nat) (c : Code) : (pgError s p o c).twin = s.twin := by unfold pgError; dsimp only; split <;> simp
@[simp] theorem pgError_wake (s : State) (p o : Nat) (c : Code) : (pgError s p o c).wake = s.wake := by unfold pgError; dsimp only; split <;> simp
@[simp] theorem pgError_hosts (s : State) (p o : Nat) (c : Code) : (pgError s p o c).hosts = s.hosts := by unfold pgError; dsimp only; split <;> simp
@[simp] theorem pgError_nrap (s : State) (p o : Nat) (c : Code) : (pgError s p o c).nrap = s.nrap := by unfold pgError; dsimp only; split <;> simp
@[simp] theorem pgError_follower (s : State) (p o : Nat) (c : Code) : (pgError s p o c).follower = s.follower := by unfold pgError; dsimp only; split <;> simp
@[simp] theorem pgError_ptp (s : State) (p o : Nat) (c : Code) : (pgError s p o c).ptp = s.ptp := by unfold pgError; dsimp only; split <;> simp
@[simp] theorem pgError_rtc (s : State) (p o : Nat) (c : Code) : (pgError s p o c).rtc = s.rtc := by unfold pgError; dsimp only; split <;> simp
@[simp] theorem pgError_otp (s : State) (p o : Nat) (c : Code) : (pgError s p o c).otp = s.otp := by unfold pgError; dsimp only; split <;> simp
@[simp] theorem pgError_crypto (s : State) (p o : Nat) (c : Code) : (pgError s p o c).crypto = s.crypto := by unfold pgError; dsimp only; split <;> simp
@[simp] theorem pgError_norGen (s : State) (p o : Nat) (c : Code) : (pgError s p o c).norGen = s.norGen := by unfold pgError; dsimp only; split <;> simp
@[simp] theorem pgError_dramGen (s : State) (p o : Nat) (c : Code) : (pgError s p o c).dramGen = s.dramGen := by unfold pgError; dsimp only; split <;> simp
@[simp] theorem pgError_boot (s : State) (p o : Nat) (c : Code) : (pgError s p o c).boot = s.boot := by unfold pgError; dsimp only; split <;> simp
@[simp] theorem pgError_upd (s : State) (p o : Nat) (c : Code) : (pgError s p o c).upd = s.upd := by unfold pgError; dsimp only; split <;> simp
@[simp] theorem pgError_recov (s : State) (p o : Nat) (c : Code) : (pgError s p o c).recov = s.recov := by unfold pgError; dsimp only; split <;> simp

/-! ## rejectWrite -/

@[simp] theorem rejectWrite_pending (s : State) (p o : Nat) (c : Code) : (rejectWrite s p o c).pending = s.pending := by unfold rejectWrite; simp
@[simp] theorem rejectWrite_now (s : State) (p o : Nat) (c : Code) : (rejectWrite s p o c).now = s.now := by unfold rejectWrite; simp
@[simp] theorem rejectWrite_nextTick (s : State) (p o : Nat) (c : Code) : (rejectWrite s p o c).nextTick = s.nextTick := by unfold rejectWrite; simp
@[simp] theorem rejectWrite_nextGrid (s : State) (p o : Nat) (c : Code) : (rejectWrite s p o c).nextGrid = s.nextGrid := by unfold rejectWrite; simp
@[simp] theorem rejectWrite_rwlLocked (s : State) (p o : Nat) (c : Code) : (rejectWrite s p o c).rwlLocked = s.rwlLocked := by unfold rejectWrite; simp
@[simp] theorem rejectWrite_mem (s : State) (p o : Nat) (c : Code) : (rejectWrite s p o c).mem = s.mem := by unfold rejectWrite; simp
@[simp] theorem rejectWrite_resets (s : State) (p o : Nat) (c : Code) : (rejectWrite s p o c).resets = s.resets := by unfold rejectWrite; simp
@[simp] theorem rejectWrite_free (s : State) (p o : Nat) (c : Code) : (rejectWrite s p o c).free = s.free := by unfold rejectWrite; simp
@[simp] theorem rejectWrite_drawn (s : State) (p o : Nat) (c : Code) : (rejectWrite s p o c).drawn = s.drawn := by unfold rejectWrite; simp
@[simp] theorem rejectWrite_holds (s : State) (p o : Nat) (c : Code) : (rejectWrite s p o c).holds = s.holds := by unfold rejectWrite; simp
@[simp] theorem rejectWrite_stages (s : State) (p o : Nat) (c : Code) : (rejectWrite s p o c).stages = s.stages := by unfold rejectWrite; simp
@[simp] theorem rejectWrite_pfwLevel (s : State) (p o : Nat) (c : Code) : (rejectWrite s p o c).pfwLevel = s.pfwLevel := by unfold rejectWrite; simp
@[simp] theorem rejectWrite_points (s : State) (p o : Nat) (c : Code) : (rejectWrite s p o c).points = s.points := by unfold rejectWrite; simp
@[simp] theorem rejectWrite_forces (s : State) (p o : Nat) (c : Code) : (rejectWrite s p o c).forces = s.forces := by unfold rejectWrite; simp
@[simp] theorem rejectWrite_nvrForces (s : State) (p o : Nat) (c : Code) : (rejectWrite s p o c).nvrForces = s.nvrForces := by unfold rejectWrite; simp
@[simp] theorem rejectWrite_evLog (s : State) (p o : Nat) (c : Code) : (rejectWrite s p o c).evLog = s.evLog := by unfold rejectWrite; simp
@[simp] theorem rejectWrite_winHolds (s : State) (p o : Nat) (c : Code) : (rejectWrite s p o c).winHolds = s.winHolds := by unfold rejectWrite; simp
@[simp] theorem rejectWrite_winStages (s : State) (p o : Nat) (c : Code) : (rejectWrite s p o c).winStages = s.winStages := by unfold rejectWrite; simp
@[simp] theorem rejectWrite_moulds (s : State) (p o : Nat) (c : Code) : (rejectWrite s p o c).moulds = s.moulds := by unfold rejectWrite; simp
@[simp] theorem rejectWrite_scan (s : State) (p o : Nat) (c : Code) : (rejectWrite s p o c).scan = s.scan := by unfold rejectWrite; simp
@[simp] theorem rejectWrite_xch (s : State) (p o : Nat) (c : Code) : (rejectWrite s p o c).xch = s.xch := by unfold rejectWrite; simp
@[simp] theorem rejectWrite_slots (s : State) (p o : Nat) (c : Code) : (rejectWrite s p o c).slots = s.slots := by unfold rejectWrite; simp
@[simp] theorem rejectWrite_loops (s : State) (p o : Nat) (c : Code) : (rejectWrite s p o c).loops = s.loops := by unfold rejectWrite; simp
@[simp] theorem rejectWrite_loopBusy (s : State) (p o : Nat) (c : Code) : (rejectWrite s p o c).loopBusy = s.loopBusy := by unfold rejectWrite; simp
@[simp] theorem rejectWrite_meter (s : State) (p o : Nat) (c : Code) : (rejectWrite s p o c).meter = s.meter := by unfold rejectWrite; simp
@[simp] theorem rejectWrite_paused (s : State) (p o : Nat) (c : Code) : (rejectWrite s p o c).paused = s.paused := by unfold rejectWrite; simp
@[simp] theorem rejectWrite_buses (s : State) (p o : Nat) (c : Code) : (rejectWrite s p o c).buses = s.buses := by unfold rejectWrite; simp
@[simp] theorem rejectWrite_fabric (s : State) (p o : Nat) (c : Code) : (rejectWrite s p o c).fabric = s.fabric := by unfold rejectWrite; simp
@[simp] theorem rejectWrite_lockTimers (s : State) (p o : Nat) (c : Code) : (rejectWrite s p o c).lockTimers = s.lockTimers := by unfold rejectWrite; simp
@[simp] theorem rejectWrite_ladle (s : State) (p o : Nat) (c : Code) : (rejectWrite s p o c).ladle = s.ladle := by unfold rejectWrite; simp
@[simp] theorem rejectWrite_queues (s : State) (p o : Nat) (c : Code) : (rejectWrite s p o c).queues = s.queues := by unfold rejectWrite; simp
@[simp] theorem rejectWrite_ports (s : State) (p o : Nat) (c : Code) : (rejectWrite s p o c).ports = s.ports := by unfold rejectWrite; simp
@[simp] theorem rejectWrite_stations (s : State) (p o : Nat) (c : Code) : (rejectWrite s p o c).stations = s.stations := by unfold rejectWrite; simp
@[simp] theorem rejectWrite_snapshot (s : State) (p o : Nat) (c : Code) : (rejectWrite s p o c).snapshot = s.snapshot := by unfold rejectWrite; simp
@[simp] theorem rejectWrite_stationHold (s : State) (p o : Nat) (c : Code) : (rejectWrite s p o c).stationHold = s.stationHold := by unfold rejectWrite; simp
@[simp] theorem rejectWrite_twin (s : State) (p o : Nat) (c : Code) : (rejectWrite s p o c).twin = s.twin := by unfold rejectWrite; simp
@[simp] theorem rejectWrite_wake (s : State) (p o : Nat) (c : Code) : (rejectWrite s p o c).wake = s.wake := by unfold rejectWrite; simp
@[simp] theorem rejectWrite_hosts (s : State) (p o : Nat) (c : Code) : (rejectWrite s p o c).hosts = s.hosts := by unfold rejectWrite; simp
@[simp] theorem rejectWrite_nrap (s : State) (p o : Nat) (c : Code) : (rejectWrite s p o c).nrap = s.nrap := by unfold rejectWrite; simp
@[simp] theorem rejectWrite_follower (s : State) (p o : Nat) (c : Code) : (rejectWrite s p o c).follower = s.follower := by unfold rejectWrite; simp
@[simp] theorem rejectWrite_ptp (s : State) (p o : Nat) (c : Code) : (rejectWrite s p o c).ptp = s.ptp := by unfold rejectWrite; simp
@[simp] theorem rejectWrite_rtc (s : State) (p o : Nat) (c : Code) : (rejectWrite s p o c).rtc = s.rtc := by unfold rejectWrite; simp
@[simp] theorem rejectWrite_otp (s : State) (p o : Nat) (c : Code) : (rejectWrite s p o c).otp = s.otp := by unfold rejectWrite; simp
@[simp] theorem rejectWrite_crypto (s : State) (p o : Nat) (c : Code) : (rejectWrite s p o c).crypto = s.crypto := by unfold rejectWrite; simp
@[simp] theorem rejectWrite_norGen (s : State) (p o : Nat) (c : Code) : (rejectWrite s p o c).norGen = s.norGen := by unfold rejectWrite; simp
@[simp] theorem rejectWrite_dramGen (s : State) (p o : Nat) (c : Code) : (rejectWrite s p o c).dramGen = s.dramGen := by unfold rejectWrite; simp
@[simp] theorem rejectWrite_boot (s : State) (p o : Nat) (c : Code) : (rejectWrite s p o c).boot = s.boot := by unfold rejectWrite; simp
@[simp] theorem rejectWrite_upd (s : State) (p o : Nat) (c : Code) : (rejectWrite s p o c).upd = s.upd := by unfold rejectWrite; simp
@[simp] theorem rejectWrite_recov (s : State) (p o : Nat) (c : Code) : (rejectWrite s p o c).recov = s.recov := by unfold rejectWrite; simp

/-! ## deny -/

@[simp] theorem deny_pending (s : State) (f p o : Nat) : (deny s f p o).pending = s.pending := by unfold deny; dsimp only; split <;> simp
@[simp] theorem deny_now (s : State) (f p o : Nat) : (deny s f p o).now = s.now := by unfold deny; dsimp only; split <;> simp
@[simp] theorem deny_nextTick (s : State) (f p o : Nat) : (deny s f p o).nextTick = s.nextTick := by unfold deny; dsimp only; split <;> simp
@[simp] theorem deny_nextGrid (s : State) (f p o : Nat) : (deny s f p o).nextGrid = s.nextGrid := by unfold deny; dsimp only; split <;> simp
@[simp] theorem deny_rwlLocked (s : State) (f p o : Nat) : (deny s f p o).rwlLocked = s.rwlLocked := by unfold deny; dsimp only; split <;> simp
@[simp] theorem deny_mem (s : State) (f p o : Nat) : (deny s f p o).mem = s.mem := by unfold deny; dsimp only; split <;> simp
@[simp] theorem deny_resets (s : State) (f p o : Nat) : (deny s f p o).resets = s.resets := by unfold deny; dsimp only; split <;> simp
@[simp] theorem deny_free (s : State) (f p o : Nat) : (deny s f p o).free = s.free := by unfold deny; dsimp only; split <;> simp
@[simp] theorem deny_drawn (s : State) (f p o : Nat) : (deny s f p o).drawn = s.drawn := by unfold deny; dsimp only; split <;> simp
@[simp] theorem deny_answer (s : State) (f p o : Nat) : (deny s f p o).answer = s.answer := by unfold deny; dsimp only; split <;> simp
@[simp] theorem deny_holds (s : State) (f p o : Nat) : (deny s f p o).holds = s.holds := by unfold deny; dsimp only; split <;> simp
@[simp] theorem deny_stages (s : State) (f p o : Nat) : (deny s f p o).stages = s.stages := by unfold deny; dsimp only; split <;> simp
@[simp] theorem deny_pfwLevel (s : State) (f p o : Nat) : (deny s f p o).pfwLevel = s.pfwLevel := by unfold deny; dsimp only; split <;> simp
@[simp] theorem deny_points (s : State) (f p o : Nat) : (deny s f p o).points = s.points := by unfold deny; dsimp only; split <;> simp
@[simp] theorem deny_forces (s : State) (f p o : Nat) : (deny s f p o).forces = s.forces := by unfold deny; dsimp only; split <;> simp
@[simp] theorem deny_nvrForces (s : State) (f p o : Nat) : (deny s f p o).nvrForces = s.nvrForces := by unfold deny; dsimp only; split <;> simp
@[simp] theorem deny_evLog (s : State) (f p o : Nat) : (deny s f p o).evLog = s.evLog := by unfold deny; dsimp only; split <;> simp
@[simp] theorem deny_winHolds (s : State) (f p o : Nat) : (deny s f p o).winHolds = s.winHolds := by unfold deny; dsimp only; split <;> simp
@[simp] theorem deny_winStages (s : State) (f p o : Nat) : (deny s f p o).winStages = s.winStages := by unfold deny; dsimp only; split <;> simp
@[simp] theorem deny_moulds (s : State) (f p o : Nat) : (deny s f p o).moulds = s.moulds := by unfold deny; dsimp only; split <;> simp
@[simp] theorem deny_scan (s : State) (f p o : Nat) : (deny s f p o).scan = s.scan := by unfold deny; dsimp only; split <;> simp
@[simp] theorem deny_xch (s : State) (f p o : Nat) : (deny s f p o).xch = s.xch := by unfold deny; dsimp only; split <;> simp
@[simp] theorem deny_slots (s : State) (f p o : Nat) : (deny s f p o).slots = s.slots := by unfold deny; dsimp only; split <;> simp
@[simp] theorem deny_loops (s : State) (f p o : Nat) : (deny s f p o).loops = s.loops := by unfold deny; dsimp only; split <;> simp
@[simp] theorem deny_loopBusy (s : State) (f p o : Nat) : (deny s f p o).loopBusy = s.loopBusy := by unfold deny; dsimp only; split <;> simp
@[simp] theorem deny_meter (s : State) (f p o : Nat) : (deny s f p o).meter = s.meter := by unfold deny; dsimp only; split <;> simp
@[simp] theorem deny_paused (s : State) (f p o : Nat) : (deny s f p o).paused = s.paused := by unfold deny; dsimp only; split <;> simp
@[simp] theorem deny_buses (s : State) (f p o : Nat) : (deny s f p o).buses = s.buses := by unfold deny; dsimp only; split <;> simp
@[simp] theorem deny_fabric (s : State) (f p o : Nat) : (deny s f p o).fabric = s.fabric := by unfold deny; dsimp only; split <;> simp
@[simp] theorem deny_lockTimers (s : State) (f p o : Nat) : (deny s f p o).lockTimers = s.lockTimers := by unfold deny; dsimp only; split <;> simp
@[simp] theorem deny_ladle (s : State) (f p o : Nat) : (deny s f p o).ladle = s.ladle := by unfold deny; dsimp only; split <;> simp
@[simp] theorem deny_queues (s : State) (f p o : Nat) : (deny s f p o).queues = s.queues := by unfold deny; dsimp only; split <;> simp
@[simp] theorem deny_ports (s : State) (f p o : Nat) : (deny s f p o).ports = s.ports := by unfold deny; dsimp only; split <;> simp
@[simp] theorem deny_stations (s : State) (f p o : Nat) : (deny s f p o).stations = s.stations := by unfold deny; dsimp only; split <;> simp
@[simp] theorem deny_snapshot (s : State) (f p o : Nat) : (deny s f p o).snapshot = s.snapshot := by unfold deny; dsimp only; split <;> simp
@[simp] theorem deny_stationHold (s : State) (f p o : Nat) : (deny s f p o).stationHold = s.stationHold := by unfold deny; dsimp only; split <;> simp
@[simp] theorem deny_twin (s : State) (f p o : Nat) : (deny s f p o).twin = s.twin := by unfold deny; dsimp only; split <;> simp
@[simp] theorem deny_wake (s : State) (f p o : Nat) : (deny s f p o).wake = s.wake := by unfold deny; dsimp only; split <;> simp
@[simp] theorem deny_hosts (s : State) (f p o : Nat) : (deny s f p o).hosts = s.hosts := by unfold deny; dsimp only; split <;> simp
@[simp] theorem deny_nrap (s : State) (f p o : Nat) : (deny s f p o).nrap = s.nrap := by unfold deny; dsimp only; split <;> simp
@[simp] theorem deny_follower (s : State) (f p o : Nat) : (deny s f p o).follower = s.follower := by unfold deny; dsimp only; split <;> simp
@[simp] theorem deny_ptp (s : State) (f p o : Nat) : (deny s f p o).ptp = s.ptp := by unfold deny; dsimp only; split <;> simp
@[simp] theorem deny_rtc (s : State) (f p o : Nat) : (deny s f p o).rtc = s.rtc := by unfold deny; dsimp only; split <;> simp
@[simp] theorem deny_otp (s : State) (f p o : Nat) : (deny s f p o).otp = s.otp := by unfold deny; dsimp only; split <;> simp
@[simp] theorem deny_crypto (s : State) (f p o : Nat) : (deny s f p o).crypto = s.crypto := by unfold deny; dsimp only; split <;> simp
@[simp] theorem deny_norGen (s : State) (f p o : Nat) : (deny s f p o).norGen = s.norGen := by unfold deny; dsimp only; split <;> simp
@[simp] theorem deny_dramGen (s : State) (f p o : Nat) : (deny s f p o).dramGen = s.dramGen := by unfold deny; dsimp only; split <;> simp
@[simp] theorem deny_boot (s : State) (f p o : Nat) : (deny s f p o).boot = s.boot := by unfold deny; dsimp only; split <;> simp
@[simp] theorem deny_upd (s : State) (f p o : Nat) : (deny s f p o).upd = s.upd := by unfold deny; dsimp only; split <;> simp
@[simp] theorem deny_recov (s : State) (f p o : Nat) : (deny s f p o).recov = s.recov := by unfold deny; dsimp only; split <;> simp

/-! ## putBytes -/

@[simp] theorem putBytes_pending (s : State) (a : Nat) (l : List Byte) : (putBytes s a l).pending = s.pending := by
  induction l generalizing s a with
  | nil => rfl
  | cons x r ih => simp [putBytes, ih]
@[simp] theorem putBytes_now (s : State) (a : Nat) (l : List Byte) : (putBytes s a l).now = s.now := by
  induction l generalizing s a with
  | nil => rfl
  | cons x r ih => simp [putBytes, ih]
@[simp] theorem putBytes_nextTick (s : State) (a : Nat) (l : List Byte) : (putBytes s a l).nextTick = s.nextTick := by
  induction l generalizing s a with
  | nil => rfl
  | cons x r ih => simp [putBytes, ih]
@[simp] theorem putBytes_nextGrid (s : State) (a : Nat) (l : List Byte) : (putBytes s a l).nextGrid = s.nextGrid := by
  induction l generalizing s a with
  | nil => rfl
  | cons x r ih => simp [putBytes, ih]
@[simp] theorem putBytes_regs (s : State) (a : Nat) (l : List Byte) : (putBytes s a l).regs = s.regs := by
  induction l generalizing s a with
  | nil => rfl
  | cons x r ih => simp [putBytes, ih]
@[simp] theorem putBytes_rwlLocked (s : State) (a : Nat) (l : List Byte) : (putBytes s a l).rwlLocked = s.rwlLocked := by
  induction l generalizing s a with
  | nil => rfl
  | cons x r ih => simp [putBytes, ih]
@[simp] theorem putBytes_resets (s : State) (a : Nat) (l : List Byte) : (putBytes s a l).resets = s.resets := by
  induction l generalizing s a with
  | nil => rfl
  | cons x r ih => simp [putBytes, ih]
@[simp] theorem putBytes_free (s : State) (a : Nat) (l : List Byte) : (putBytes s a l).free = s.free := by
  induction l generalizing s a with
  | nil => rfl
  | cons x r ih => simp [putBytes, ih]
@[simp] theorem putBytes_drawn (s : State) (a : Nat) (l : List Byte) : (putBytes s a l).drawn = s.drawn := by
  induction l generalizing s a with
  | nil => rfl
  | cons x r ih => simp [putBytes, ih]
@[simp] theorem putBytes_answer (s : State) (a : Nat) (l : List Byte) : (putBytes s a l).answer = s.answer := by
  induction l generalizing s a with
  | nil => rfl
  | cons x r ih => simp [putBytes, ih]
@[simp] theorem putBytes_holds (s : State) (a : Nat) (l : List Byte) : (putBytes s a l).holds = s.holds := by
  induction l generalizing s a with
  | nil => rfl
  | cons x r ih => simp [putBytes, ih]
@[simp] theorem putBytes_stages (s : State) (a : Nat) (l : List Byte) : (putBytes s a l).stages = s.stages := by
  induction l generalizing s a with
  | nil => rfl
  | cons x r ih => simp [putBytes, ih]
@[simp] theorem putBytes_evtTarget (s : State) (a : Nat) (l : List Byte) : (putBytes s a l).evtTarget = s.evtTarget := by
  induction l generalizing s a with
  | nil => rfl
  | cons x r ih => simp [putBytes, ih]
@[simp] theorem putBytes_pfwLevel (s : State) (a : Nat) (l : List Byte) : (putBytes s a l).pfwLevel = s.pfwLevel := by
  induction l generalizing s a with
  | nil => rfl
  | cons x r ih => simp [putBytes, ih]
@[simp] theorem putBytes_exiting (s : State) (a : Nat) (l : List Byte) : (putBytes s a l).exiting = s.exiting := by
  induction l generalizing s a with
  | nil => rfl
  | cons x r ih => simp [putBytes, ih]
@[simp] theorem putBytes_points (s : State) (a : Nat) (l : List Byte) : (putBytes s a l).points = s.points := by
  induction l generalizing s a with
  | nil => rfl
  | cons x r ih => simp [putBytes, ih]
@[simp] theorem putBytes_forces (s : State) (a : Nat) (l : List Byte) : (putBytes s a l).forces = s.forces := by
  induction l generalizing s a with
  | nil => rfl
  | cons x r ih => simp [putBytes, ih]
@[simp] theorem putBytes_nvrForces (s : State) (a : Nat) (l : List Byte) : (putBytes s a l).nvrForces = s.nvrForces := by
  induction l generalizing s a with
  | nil => rfl
  | cons x r ih => simp [putBytes, ih]
@[simp] theorem putBytes_evLog (s : State) (a : Nat) (l : List Byte) : (putBytes s a l).evLog = s.evLog := by
  induction l generalizing s a with
  | nil => rfl
  | cons x r ih => simp [putBytes, ih]
@[simp] theorem putBytes_winHolds (s : State) (a : Nat) (l : List Byte) : (putBytes s a l).winHolds = s.winHolds := by
  induction l generalizing s a with
  | nil => rfl
  | cons x r ih => simp [putBytes, ih]
@[simp] theorem putBytes_winStages (s : State) (a : Nat) (l : List Byte) : (putBytes s a l).winStages = s.winStages := by
  induction l generalizing s a with
  | nil => rfl
  | cons x r ih => simp [putBytes, ih]
@[simp] theorem putBytes_moulds (s : State) (a : Nat) (l : List Byte) : (putBytes s a l).moulds = s.moulds := by
  induction l generalizing s a with
  | nil => rfl
  | cons x r ih => simp [putBytes, ih]
@[simp] theorem putBytes_scan (s : State) (a : Nat) (l : List Byte) : (putBytes s a l).scan = s.scan := by
  induction l generalizing s a with
  | nil => rfl
  | cons x r ih => simp [putBytes, ih]
@[simp] theorem putBytes_xch (s : State) (a : Nat) (l : List Byte) : (putBytes s a l).xch = s.xch := by
  induction l generalizing s a with
  | nil => rfl
  | cons x r ih => simp [putBytes, ih]
@[simp] theorem putBytes_slots (s : State) (a : Nat) (l : List Byte) : (putBytes s a l).slots = s.slots := by
  induction l generalizing s a with
  | nil => rfl
  | cons x r ih => simp [putBytes, ih]
@[simp] theorem putBytes_loops (s : State) (a : Nat) (l : List Byte) : (putBytes s a l).loops = s.loops := by
  induction l generalizing s a with
  | nil => rfl
  | cons x r ih => simp [putBytes, ih]
@[simp] theorem putBytes_loopBusy (s : State) (a : Nat) (l : List Byte) : (putBytes s a l).loopBusy = s.loopBusy := by
  induction l generalizing s a with
  | nil => rfl
  | cons x r ih => simp [putBytes, ih]
@[simp] theorem putBytes_meter (s : State) (a : Nat) (l : List Byte) : (putBytes s a l).meter = s.meter := by
  induction l generalizing s a with
  | nil => rfl
  | cons x r ih => simp [putBytes, ih]
@[simp] theorem putBytes_paused (s : State) (a : Nat) (l : List Byte) : (putBytes s a l).paused = s.paused := by
  induction l generalizing s a with
  | nil => rfl
  | cons x r ih => simp [putBytes, ih]
@[simp] theorem putBytes_buses (s : State) (a : Nat) (l : List Byte) : (putBytes s a l).buses = s.buses := by
  induction l generalizing s a with
  | nil => rfl
  | cons x r ih => simp [putBytes, ih]
@[simp] theorem putBytes_fabric (s : State) (a : Nat) (l : List Byte) : (putBytes s a l).fabric = s.fabric := by
  induction l generalizing s a with
  | nil => rfl
  | cons x r ih => simp [putBytes, ih]
@[simp] theorem putBytes_lockTimers (s : State) (a : Nat) (l : List Byte) : (putBytes s a l).lockTimers = s.lockTimers := by
  induction l generalizing s a with
  | nil => rfl
  | cons x r ih => simp [putBytes, ih]
@[simp] theorem putBytes_ladle (s : State) (a : Nat) (l : List Byte) : (putBytes s a l).ladle = s.ladle := by
  induction l generalizing s a with
  | nil => rfl
  | cons x r ih => simp [putBytes, ih]
@[simp] theorem putBytes_queues (s : State) (a : Nat) (l : List Byte) : (putBytes s a l).queues = s.queues := by
  induction l generalizing s a with
  | nil => rfl
  | cons x r ih => simp [putBytes, ih]
@[simp] theorem putBytes_ports (s : State) (a : Nat) (l : List Byte) : (putBytes s a l).ports = s.ports := by
  induction l generalizing s a with
  | nil => rfl
  | cons x r ih => simp [putBytes, ih]
@[simp] theorem putBytes_stations (s : State) (a : Nat) (l : List Byte) : (putBytes s a l).stations = s.stations := by
  induction l generalizing s a with
  | nil => rfl
  | cons x r ih => simp [putBytes, ih]
@[simp] theorem putBytes_snapshot (s : State) (a : Nat) (l : List Byte) : (putBytes s a l).snapshot = s.snapshot := by
  induction l generalizing s a with
  | nil => rfl
  | cons x r ih => simp [putBytes, ih]
@[simp] theorem putBytes_stationHold (s : State) (a : Nat) (l : List Byte) : (putBytes s a l).stationHold = s.stationHold := by
  induction l generalizing s a with
  | nil => rfl
  | cons x r ih => simp [putBytes, ih]
@[simp] theorem putBytes_twin (s : State) (a : Nat) (l : List Byte) : (putBytes s a l).twin = s.twin := by
  induction l generalizing s a with
  | nil => rfl
  | cons x r ih => simp [putBytes, ih]
@[simp] theorem putBytes_wake (s : State) (a : Nat) (l : List Byte) : (putBytes s a l).wake = s.wake := by
  induction l generalizing s a with
  | nil => rfl
  | cons x r ih => simp [putBytes, ih]
@[simp] theorem putBytes_hosts (s : State) (a : Nat) (l : List Byte) : (putBytes s a l).hosts = s.hosts := by
  induction l generalizing s a with
  | nil => rfl
  | cons x r ih => simp [putBytes, ih]
@[simp] theorem putBytes_nrap (s : State) (a : Nat) (l : List Byte) : (putBytes s a l).nrap = s.nrap := by
  induction l generalizing s a with
  | nil => rfl
  | cons x r ih => simp [putBytes, ih]
@[simp] theorem putBytes_follower (s : State) (a : Nat) (l : List Byte) : (putBytes s a l).follower = s.follower := by
  induction l generalizing s a with
  | nil => rfl
  | cons x r ih => simp [putBytes, ih]
@[simp] theorem putBytes_ptp (s : State) (a : Nat) (l : List Byte) : (putBytes s a l).ptp = s.ptp := by
  induction l generalizing s a with
  | nil => rfl
  | cons x r ih => simp [putBytes, ih]
@[simp] theorem putBytes_rtc (s : State) (a : Nat) (l : List Byte) : (putBytes s a l).rtc = s.rtc := by
  induction l generalizing s a with
  | nil => rfl
  | cons x r ih => simp [putBytes, ih]
@[simp] theorem putBytes_otp (s : State) (a : Nat) (l : List Byte) : (putBytes s a l).otp = s.otp := by
  induction l generalizing s a with
  | nil => rfl
  | cons x r ih => simp [putBytes, ih]
@[simp] theorem putBytes_crypto (s : State) (a : Nat) (l : List Byte) : (putBytes s a l).crypto = s.crypto := by
  induction l generalizing s a with
  | nil => rfl
  | cons x r ih => simp [putBytes, ih]
@[simp] theorem putBytes_norGen (s : State) (a : Nat) (l : List Byte) : (putBytes s a l).norGen = s.norGen := by
  induction l generalizing s a with
  | nil => rfl
  | cons x r ih => simp [putBytes, ih]
@[simp] theorem putBytes_dramGen (s : State) (a : Nat) (l : List Byte) : (putBytes s a l).dramGen = s.dramGen := by
  induction l generalizing s a with
  | nil => rfl
  | cons x r ih => simp [putBytes, ih]
@[simp] theorem putBytes_boot (s : State) (a : Nat) (l : List Byte) : (putBytes s a l).boot = s.boot := by
  induction l generalizing s a with
  | nil => rfl
  | cons x r ih => simp [putBytes, ih]
@[simp] theorem putBytes_upd (s : State) (a : Nat) (l : List Byte) : (putBytes s a l).upd = s.upd := by
  induction l generalizing s a with
  | nil => rfl
  | cons x r ih => simp [putBytes, ih]
@[simp] theorem putBytes_recov (s : State) (a : Nat) (l : List Byte) : (putBytes s a l).recov = s.recov := by
  induction l generalizing s a with
  | nil => rfl
  | cons x r ih => simp [putBytes, ih]

end Sys2Proof.Machine
end

