-- ==== Sys2Proof/Laws/Cast.lean ====
section
/-! SUPPORT. Laws of Cast code: what a work register reads after a write, the context of an instruction, and how an instruction retires. -/

namespace Sys2Proof.Machine

open Sys2Proof.Safety

/-- A work register after a write: w0 reads 0 and takes no write (R104). -/
theorem breg_bset (b : Bank) (d n : BitVec 4) (v : Word) : breg (bset b d v) n = if n = d ∧ d ≠ 0 then v else breg b n := by
  by_cases hd : d = 0
  · have h1 : ¬ (n = d ∧ d ≠ 0) := fun h => h.2 hd
    rw [if_neg h1, bset, if_pos hd]
  · by_cases hn : n = 0
    · have h1 : ¬ (n = d ∧ d ≠ 0) := fun h => hd (h.1 ▸ hn)
      rw [if_neg h1, breg, breg, if_pos hn, if_pos hn]
    · rw [breg, breg, bset, if_neg hd, if_neg hn, if_neg hn]
      by_cases e : n = d
      · rw [if_pos ⟨e, hd⟩, e]
        exact tget_tput_same _ _ _
      · have h1 : ¬ (n = d ∧ d ≠ 0) := fun h => e h.1
        rw [if_neg h1]
        exact tget_tput_ne _ _ (fun h => e (BitVec.eq_of_toNat_eq h))

@[simp] theorem breg_zero (b : Bank) : breg b 0 = 0 := by simp [breg]
@[simp] theorem bset_pc (b : Bank) (d : BitVec 4) (v : Word) : (bset b d v).pc = b.pc := by unfold bset; split <;> rfl
@[simp] theorem bset_ib (b : Bank) (d : BitVec 4) (v : Word) : (bset b d v).ib = b.ib := by unfold bset; split <;> rfl
@[simp] theorem bset_stack (b : Bank) (d : BitVec 4) (v : Word) : (bset b d v).stack = b.stack := by unfold bset; split <;> rfl
@[simp] theorem bset_sticky (b : Bank) (d : BitVec 4) (v : Word) : (bset b d v).sticky = b.sticky := by unfold bset; split <;> rfl
@[simp] theorem bset_tbHi (b : Bank) (d : BitVec 4) (v : Word) : (bset b d v).tbHi = b.tbHi := by unfold bset; split <;> rfl
@[simp] theorem sticky_zero (b : Bank) : sticky b 0 = b := rfl
@[simp] theorem breg_sticky (b : Bank) (f : Nat) (n : BitVec 4) : breg (sticky b f) n = breg b n := by unfold sticky; split <;> rfl

/-- The context of an instruction is the machine's: its state, its task, and the task's bank with the fetch address reduced (R122). -/
theorem castCtx_eq {s : State} {t : Nat} {c : CastCtx} (h : castCtx s t = some c) :
    c.s = s ∧ c.t = t ∧ (taskAt s t).run = some c.r ∧ taskStateOf s t = tsRUNNING ∧ c.r.step = .program ∧ c.r.stopped = false ∧
    c.b = { (taskAt s t).bank with pc := reducePc c.m (taskAt s t).bank.pc } ∧ (∃ e, taskEntry s t = some (c.m, e)) := by
  unfold castCtx at h
  split at h
  · rename_i r m e hr he
    split at h
    · rename_i hc
      cases h
      exact ⟨rfl, rfl, hr, hc.1, hc.2.1, by simpa using hc.2.2, rfl, e, he⟩
    · cases h
  · cases h

/-- An instruction of a task in its program step retires as its body says, its field checks first. -/
theorem castStep_eq {s : State} {t : Fin 64} {c : CastCtx} (h : castCtx s t.val = some c) (legal : Bool) (body : CastCtx → CastRes) :
    castStep t legal body s = castRetire c (if legal then body c else .trap tcILLEGAL 1) := by
  simp [castStep, h]

/-- The watchdog looks at the limit and the time of the run alone. -/
theorem watchdogHit_setTask (s : State) (t u : Nat) (x : TaskState) (r : Run) : watchdogHit (setTask s u x) t r = watchdogHit s t r := rfl

/-- An instruction that goes on in time leaves its bank. -/
theorem castRetire_next {c : CastCtx} {b : Bank} {n : Nat} (h : InTime c n) : castRetire c (.next { c with b := b } n) = afterInstr c b n := by
  simp only [castRetire, boundary, watchdogHit_setTask]
  unfold InTime at h
  simp [h, afterInstr, withRun]

/-- An instruction that writes a work register in time. -/
theorem castRetire_set {c : CastCtx} {d : BitVec 4} {v : Word} {f n : Nat} (h : InTime c n) :
    castRetire c (castSet c d v f n) = afterSet c d v f n := by
  unfold castSet castAdv
  exact castRetire_next (b := nextPc (sticky (bset c.b d v) f)) h

/-- A trap. -/
theorem castRetire_trap (c : CastCtx) (code n : Nat) : castRetire c (.trap code n) = afterTrap c code n := rfl

theorem castReg_eq {s : State} {t : Fin 64} {c : CastCtx} (h : castCtx s t.val = some c) {o : RegForm} {legal : Bool} (hl : legal = true)
    {n : Nat} (hn : InTime c n) (op : Word → Word → Word × Nat) :
    castReg t o legal n op s = afterSet c o.d (op (breg c.b o.s1) (breg c.b o.s2)).1 (op (breg c.b o.s1) (breg c.b o.s2)).2 n := by
  simp only [castReg, castStep_eq h, hl, if_true]
  exact castRetire_set hn

theorem castImm_eq {s : State} {t : Fin 64} {c : CastCtx} (h : castCtx s t.val = some c) {o : ImmForm} (hn : InTime c 1) (op : Word → Word) :
    castImm t o op s = afterSet c o.d (op (breg c.b o.s1)) 0 1 := by
  simp only [castImm, castStep_eq h, if_true]
  exact castRetire_set hn

end Sys2Proof.Machine
end

