-- ==== Sys2Proof/Laws/Commands.lean ====
section
/-! SUPPORT. A register command as its requester meets it: an access that reaches its page runs, and a write of an action register comes down
to the action. -/

namespace Sys2Proof.Machine

open Sys2Proof.Safety

/-- An access that reaches its page runs (R24, R412, R455). -/
theorem gated_reaches {s : State} {q : Requester} {page off : Nat} {k : State → State} (h : Reaches s q page off) : gated s q page off k = k s := by
  obtain ⟨h1, h2, h3⟩ := h
  have h1' : fld s R.SYS_MODE F.SYS_MODE_MODE ≠ 0 := h1
  unfold gated
  simp only [h1', h2, h3, if_false, if_true, Bool.false_eq_true]

/-- An access outside the register pages runs. -/
theorem served_reaches {s : State} {q : Requester} {k : State → State} (h : ReachesWindow s q) : served s q k = k s := by
  obtain ⟨h1, h2⟩ := h
  have h1' : fld s R.SYS_MODE F.SYS_MODE_MODE ≠ 0 := h1
  unfold served
  by_cases e : q = .debug
  · simp [h1', e, h2 e]
  · simp [h1', e]

/-- In a domain that is awake an access wakes nothing. -/
theorem wakeFor_awake {s : State} {page off : Nat} (h : Awake s page) : wakeFor s page off = s := by
  unfold wakeFor
  simp [h.2]

/-- A write of an action register of a domain that is awake comes down to its action. -/
theorem regWrite_action {s : State} {q : Requester} {page off : Nat} {v : Word} {d : RegDesc} (ha : Awake s page) (h40 : 0x40 ≤ off)
    (hp : (pageAlloc page).isSome) (hd : findReg page off = some d) (ho : ownWrite s q page off v = none)
    (ht : tableCode s page off d (rd s (keyAt s page off d)) v = .none) (hw : wideOf page off = none) :
    (∀ r, acceptWrite s q page off d v = (r, .none) → regWrite s q page off v = (forwardConfig r page off v, .none)) ∧
    (∀ r c, c ≠ .none → acceptWrite s q page off d v = (r, c) → regWrite s q page off v = (r, c)) := by
  have hp' : (pageAlloc page).isNone = false := by cases h : pageAlloc page <;> simp_all
  have h40' : ¬ off < 0x40 := by omega
  unfold regWrite blockWrite
  simp only [hp', h40', hd, wakeFor_awake ha, ho, ht, hw, Bool.false_eq_true, if_false]
  constructor
  · intro r e; rw [e]
  · intro r c hc e; rw [e]; cases c <;> first | exact absurd rfl hc | rfl

/-- The same, as its requester meets it. -/
theorem writeCommand_action {s : State} {q : Requester} {page off : Nat} {v : Word} {d : RegDesc} (hr : Reaches s q page off) (ha : Awake s page)
    (hl : lockBarred q page off = false) (h40 : 0x40 ≤ off) (hp : (pageAlloc page).isSome) (hd : findReg page off = some d)
    (ho : ownWrite s q page off v = none) (ht : tableCode s page off d (rd s (keyAt s page off d)) v = .none) (hw : wideOf page off = none) :
    (∀ r, acceptWrite s q page off d v = (r, .none) → writeCommand s q page off v = answer (forwardConfig r page off v) .none) ∧
    (∀ r c, c ≠ .none → acceptWrite s q page off d v = (r, c) → writeCommand s q page off v = rejectWrite r page off c) := by
  obtain ⟨h1, h2⟩ := regWrite_action ha h40 hp hd ho ht hw
  unfold writeCommand
  rw [gated_reaches hr]
  simp only [hl, Bool.false_eq_true, if_false]
  constructor
  · intro r e; rw [h1 r e]; simp [endCommand]
  · intro r c hc e; rw [h2 r c hc e]; simp [endCommand, hc]

end Sys2Proof.Machine
end

