-- ==== Sys2Proof/Laws/Kept.lean ====
section
/-! SUPPORT. What every command keeps: the queue, the canonical form of the byte store and the blown fuses. -/

namespace Sys2Proof.Machine

open Sys2Proof.Safety

/-- The queue is untouched, the byte store stays in canonical form and no fuse is undone. -/
structure Kept (s t : State) : Prop where
  pending : t.pending = s.pending
  wf : Memory.wf s.mem = true → Memory.wf t.mem = true
  fuses : FusesKept s.otp t.otp

theorem FusesKept.refl (a : Otp) : FusesKept a a := ⟨id, id, Nat.le_refl _, fun _ h => h⟩
theorem FusesKept.trans {a b c : Otp} (h : FusesKept a b) (k : FusesKept b c) : FusesKept a c :=
  ⟨k.killed ∘ h.killed, k.lock ∘ h.lock, Nat.le_trans h.svn k.svn, fun x e => k.owner x (h.owner x e)⟩
theorem Kept.refl (s : State) : Kept s s := ⟨rfl, id, FusesKept.refl _⟩
theorem Kept.trans {a b c : State} (h : Kept a b) (k : Kept b c) : Kept a c :=
  ⟨k.pending.trans h.pending, k.wf ∘ h.wf, FusesKept.trans h.fuses k.fuses⟩

/-- An update of any other field. -/
theorem kept_mk {s0 E : State} {now_ : DWord} {nextTick_ : Nat} {nextGrid_ : Nat} {regs_ : Table Word} {rwlLocked_ : Bool} {resets_ : Nat} {free_ : Nat} {drawn_ : Nat} {answer_ : Answer} {holds_ : List KeptWord} {stages_ : List KeptWord} {evtTarget_ : Table Nat} {pfwLevel_ : Bool} {exiting_ : Table Bool} {points_ : Table Point} {forces_ : Table (Option Force)} {nvrForces_ : Table (Option Force)} {evLog_ : List LogEntry} {winHolds_ : List WinHold} {winStages_ : List WinStage} {moulds_ : Table (Option Mould)} {scan_ : Scan} {xch_ : Xch} {slots_ : Table KeySlot} {loops_ : Table LoopState} {loopBusy_ : Table Nat} {meter_ : Meter} {paused_ : Bool} {buses_ : Table CanBus} {fabric_ : Fabric} {lockTimers_ : Table LockTimer} {ladle_ : Table LadleCh} {queues_ : Table Queue} {ports_ : Table SpurPort} {stations_ : Table Station} {snapshot_ : Table Point} {stationHold_ : Bool} {twin_ : Twin} {wake_ : Bool} {hosts_ : Table HostMac} {nrap_ : Nrap} {follower_ : Follower} {ptp_ : Ptp} {rtc_ : Rtc} {crypto_ : Crypto} {norGen_ : Nat} {dramGen_ : Nat} {boot_ : Boot} {upd_ : Upd} {recov_ : Recov} (h : Kept s0 E) :
    Kept s0 { pending := E.pending, now := now_, nextTick := nextTick_, nextGrid := nextGrid_, regs := regs_, rwlLocked := rwlLocked_, mem := E.mem, resets := resets_, free := free_, drawn := drawn_, answer := answer_, holds := holds_, stages := stages_, evtTarget := evtTarget_, pfwLevel := pfwLevel_, exiting := exiting_, points := points_, forces := forces_, nvrForces := nvrForces_, evLog := evLog_, winHolds := winHolds_, winStages := winStages_, moulds := moulds_, scan := scan_, xch := xch_, slots := slots_, loops := loops_, loopBusy := loopBusy_, meter := meter_, paused := paused_, buses := buses_, fabric := fabric_, lockTimers := lockTimers_, ladle := ladle_, queues := queues_, ports := ports_, stations := stations_, snapshot := snapshot_, stationHold := stationHold_, twin := twin_, wake := wake_, hosts := hosts_, nrap := nrap_, follower := follower_, ptp := ptp_, rtc := rtc_, otp := E.otp, crypto := crypto_, norGen := norGen_, dramGen := dramGen_, boot := boot_, upd := upd_, recov := recov_ } := ⟨h.pending, h.wf, h.fuses⟩
/-- Bytes are dropped from the byte store, and any other field is updated. -/
theorem kept_filter {s0 E : State} {now_ : DWord} {nextTick_ : Nat} {nextGrid_ : Nat} {regs_ : Table Word} {rwlLocked_ : Bool} {resets_ : Nat} {free_ : Nat} {drawn_ : Nat} {answer_ : Answer} {holds_ : List KeptWord} {stages_ : List KeptWord} {evtTarget_ : Table Nat} {pfwLevel_ : Bool} {exiting_ : Table Bool} {points_ : Table Point} {forces_ : Table (Option Force)} {nvrForces_ : Table (Option Force)} {evLog_ : List LogEntry} {winHolds_ : List WinHold} {winStages_ : List WinStage} {moulds_ : Table (Option Mould)} {scan_ : Scan} {xch_ : Xch} {slots_ : Table KeySlot} {loops_ : Table LoopState} {loopBusy_ : Table Nat} {meter_ : Meter} {paused_ : Bool} {buses_ : Table CanBus} {fabric_ : Fabric} {lockTimers_ : Table LockTimer} {ladle_ : Table LadleCh} {queues_ : Table Queue} {ports_ : Table SpurPort} {stations_ : Table Station} {snapshot_ : Table Point} {stationHold_ : Bool} {twin_ : Twin} {wake_ : Bool} {hosts_ : Table HostMac} {nrap_ : Nrap} {follower_ : Follower} {ptp_ : Ptp} {rtc_ : Rtc} {crypto_ : Crypto} {norGen_ : Nat} {dramGen_ : Nat} {boot_ : Boot} {upd_ : Upd} {recov_ : Recov} {p : Host.Cell → Bool} (h : Kept s0 E) :
    Kept s0 { pending := E.pending, now := now_, nextTick := nextTick_, nextGrid := nextGrid_, regs := regs_, rwlLocked := rwlLocked_, mem := E.mem.filter p, resets := resets_, free := free_, drawn := drawn_, answer := answer_, holds := holds_, stages := stages_, evtTarget := evtTarget_, pfwLevel := pfwLevel_, exiting := exiting_, points := points_, forces := forces_, nvrForces := nvrForces_, evLog := evLog_, winHolds := winHolds_, winStages := winStages_, moulds := moulds_, scan := scan_, xch := xch_, slots := slots_, loops := loops_, loopBusy := loopBusy_, meter := meter_, paused := paused_, buses := buses_, fabric := fabric_, lockTimers := lockTimers_, ladle := ladle_, queues := queues_, ports := ports_, stations := stations_, snapshot := snapshot_, stationHold := stationHold_, twin := twin_, wake := wake_, hosts := hosts_, nrap := nrap_, follower := follower_, ptp := ptp_, rtc := rtc_, otp := E.otp, crypto := crypto_, norGen := norGen_, dramGen := dramGen_, boot := boot_, upd := upd_, recov := recov_ } := ⟨h.pending, fun w => mwfFrom_filter p (h.wf w), h.fuses⟩
/-- An update of the fuses that undoes none. -/
theorem kept_otp {s0 E : State} {o : Otp} (h : Kept s0 E) (ho : FusesKept E.otp o) : Kept s0 { E with otp := o } :=
  ⟨h.pending, h.wf, FusesKept.trans h.fuses ho⟩
theorem kept_ite {s0 a b : State} {c : Prop} [Decidable c] (ha : Kept s0 a) (hb : Kept s0 b) : Kept s0 (if c then a else b) := by
  split <;> assumption
theorem kept_ite1 {α : Type} {s0 : State} {a b : State × α} {c : Prop} [Decidable c] (ha : Kept s0 a.1) (hb : Kept s0 b.1) :
    Kept s0 (if c then a else b).1 := by split <;> assumption
theorem kept_ite2 {α β : Type} {s0 : State} {a b : (State × α) × β} {c : Prop} [Decidable c] (ha : Kept s0 a.1.1) (hb : Kept s0 b.1.1) :
    Kept s0 (if c then a else b).1.1 := by split <;> assumption
theorem kept_of_eq {α : Type} {s0 a : State} {p : State × α} {b : α} (e : p = (a, b)) (h : Kept s0 p.1) : Kept s0 a := by
  rw [e] at h; exact h
theorem kept_foldl {α : Type} {s0 s : State} {f : State → α → State} (hf : ∀ x a, Kept s0 x → Kept s0 (f x a)) {l : List α} (h : Kept s0 s) :
    Kept s0 (l.foldl f s) := by
  induction l generalizing s with
  | nil => exact h
  | cons a r ih => exact ih (hf s a h)
theorem kept_foldl1 {α β : Type} {s0 : State} {f : State × β → α → State × β} (hf : ∀ x a, Kept s0 x.1 → Kept s0 (f x a).1) {p : State × β} {l : List α}
    (h : Kept s0 p.1) : Kept s0 (l.foldl f p).1 := by
  induction l generalizing p with
  | nil => exact h
  | cons a r ih => exact ih (hf p a h)
theorem kept_forAll {α : Type} {s0 s : State} {f : State → α → State} (hf : ∀ x a, Kept s0 x → Kept s0 (f x a)) {l : List α} (h : Kept s0 s) :
    Kept s0 (forAll f l s) := kept_foldl hf h

end Sys2Proof.Machine
end

