-- ==== Sys2Proof/Laws/KeptA.lean ====
section
/-! SUPPORT. What the bit, register, memory and point operations keep. -/
namespace Sys2Proof.Machine
open Sys2Proof.Safety
set_option linter.unusedTactic false
set_option linter.unreachableTactic false

theorem kept_wr {s0 s : State} (key : Nat) (v : Word) (h : Kept s0 s) : Kept s0 (wr s key v) := by
  unfold wr
  try dsimp only
  repeat' first | with_reducible assumption | with_reducible apply kept_ite | with_reducible apply kept_ite1 | with_reducible apply kept_ite2 | (with_reducible refine kept_forAll (fun _ _ _ => ?_) ?_) | (with_reducible refine kept_foldl (fun _ _ _ => ?_) ?_) | (with_reducible refine kept_foldl1 (fun _ _ _ => ?_) ?_) | fail_if_no_progress (with_reducible apply kept_mk) | (with_reducible refine kept_of_eq (by with_reducible assumption) ?_) | intro _ _ | split | dsimp only

theorem kept_setFld {s0 s : State} (key : Nat) (f : Fld) (v : Nat) (h : Kept s0 s) : Kept s0 (setFld s key f v) := by
  unfold setFld
  try dsimp only
  repeat' first | with_reducible assumption | with_reducible apply kept_ite | with_reducible apply kept_ite1 | with_reducible apply kept_ite2 | (with_reducible refine kept_forAll (fun _ _ _ => ?_) ?_) | (with_reducible refine kept_foldl (fun _ _ _ => ?_) ?_) | (with_reducible refine kept_foldl1 (fun _ _ _ => ?_) ?_) | with_reducible apply kept_wr | fail_if_no_progress (with_reducible apply kept_mk) | (with_reducible refine kept_of_eq (by with_reducible assumption) ?_) | intro _ _ | split | dsimp only

theorem kept_setBit {s0 s : State} (key : Nat) (n : Nat) (b : Bool) (h : Kept s0 s) : Kept s0 (setBit s key n b) := by
  unfold setBit
  try dsimp only
  repeat' first | with_reducible assumption | with_reducible apply kept_ite | with_reducible apply kept_ite1 | with_reducible apply kept_ite2 | (with_reducible refine kept_forAll (fun _ _ _ => ?_) ?_) | (with_reducible refine kept_foldl (fun _ _ _ => ?_) ?_) | (with_reducible refine kept_foldl1 (fun _ _ _ => ?_) ?_) | with_reducible apply kept_wr | fail_if_no_progress (with_reducible apply kept_mk) | (with_reducible refine kept_of_eq (by with_reducible assumption) ?_) | intro _ _ | split | dsimp only

theorem kept_bumpSat {s0 s : State} (key : Nat) (n : Nat) (h : Kept s0 s) : Kept s0 (bumpSat s key n) := by
  unfold bumpSat
  try dsimp only
  repeat' first | with_reducible assumption | with_reducible apply kept_ite | with_reducible apply kept_ite1 | with_reducible apply kept_ite2 | (with_reducible refine kept_forAll (fun _ _ _ => ?_) ?_) | (with_reducible refine kept_foldl (fun _ _ _ => ?_) ?_) | (with_reducible refine kept_foldl1 (fun _ _ _ => ?_) ?_) | with_reducible apply kept_wr | fail_if_no_progress (with_reducible apply kept_mk) | (with_reducible refine kept_of_eq (by with_reducible assumption) ?_) | intro _ _ | split | dsimp only

theorem kept_bump {s0 s : State} (key : Nat) (n : Nat) (h : Kept s0 s) : Kept s0 (bump s key n) := by
  unfold bump
  try dsimp only
  repeat' first | with_reducible assumption | with_reducible apply kept_ite | with_reducible apply kept_ite1 | with_reducible apply kept_ite2 | (with_reducible refine kept_forAll (fun _ _ _ => ?_) ?_) | (with_reducible refine kept_foldl (fun _ _ _ => ?_) ?_) | (with_reducible refine kept_foldl1 (fun _ _ _ => ?_) ?_) | with_reducible apply kept_wr | fail_if_no_progress (with_reducible apply kept_mk) | (with_reducible refine kept_of_eq (by with_reducible assumption) ?_) | intro _ _ | split | dsimp only

theorem kept_bumpFld {s0 s : State} (key : Nat) (f : Fld) (n : Nat) (h : Kept s0 s) : Kept s0 (bumpFld s key f n) := by
  unfold bumpFld
  try dsimp only
  repeat' first | with_reducible assumption | with_reducible apply kept_ite | with_reducible apply kept_ite1 | with_reducible apply kept_ite2 | (with_reducible refine kept_forAll (fun _ _ _ => ?_) ?_) | (with_reducible refine kept_foldl (fun _ _ _ => ?_) ?_) | (with_reducible refine kept_foldl1 (fun _ _ _ => ?_) ?_) | with_reducible apply kept_setFld | fail_if_no_progress (with_reducible apply kept_mk) | (with_reducible refine kept_of_eq (by with_reducible assumption) ?_) | intro _ _ | split | dsimp only

theorem kept_takeFree {s0 s : State}  (h : Kept s0 s) : Kept s0 (takeFree s).1 := by
  unfold takeFree
  try dsimp only
  repeat' first | with_reducible assumption | with_reducible apply kept_ite | with_reducible apply kept_ite1 | with_reducible apply kept_ite2 | (with_reducible refine kept_forAll (fun _ _ _ => ?_) ?_) | (with_reducible refine kept_foldl (fun _ _ _ => ?_) ?_) | (with_reducible refine kept_foldl1 (fun _ _ _ => ?_) ?_) | fail_if_no_progress (with_reducible apply kept_mk) | (with_reducible refine kept_of_eq (by with_reducible assumption) ?_) | intro _ _ | split | dsimp only

theorem kept_demand {s0 s : State} (d : Nat) (h : Kept s0 s) : Kept s0 (demand s d) := by
  unfold demand
  try dsimp only
  repeat' first | with_reducible assumption | with_reducible apply kept_ite | with_reducible apply kept_ite1 | with_reducible apply kept_ite2 | (with_reducible refine kept_forAll (fun _ _ _ => ?_) ?_) | (with_reducible refine kept_foldl (fun _ _ _ => ?_) ?_) | (with_reducible refine kept_foldl1 (fun _ _ _ => ?_) ?_) | fail_if_no_progress (with_reducible apply kept_mk) | (with_reducible refine kept_of_eq (by with_reducible assumption) ?_) | intro _ _ | split | dsimp only

theorem kept_evtSet {s0 s : State} (src : Nat) (h : Kept s0 s) : Kept s0 (evtSet s src) := by
  unfold evtSet
  try dsimp only
  repeat' first | with_reducible assumption | with_reducible apply kept_ite | with_reducible apply kept_ite1 | with_reducible apply kept_ite2 | (with_reducible refine kept_forAll (fun _ _ _ => ?_) ?_) | (with_reducible refine kept_foldl (fun _ _ _ => ?_) ?_) | (with_reducible refine kept_foldl1 (fun _ _ _ => ?_) ?_) | with_reducible apply kept_setBit | with_reducible apply kept_demand | fail_if_no_progress (with_reducible apply kept_mk) | (with_reducible refine kept_of_eq (by with_reducible assumption) ?_) | intro _ _ | split | dsimp only

theorem kept_evtLevel {s0 s : State} (src : Nat) (h : Kept s0 s) : Kept s0 (evtLevel s src) := by
  unfold evtLevel
  try dsimp only
  repeat' first | with_reducible assumption | with_reducible apply kept_ite | with_reducible apply kept_ite1 | with_reducible apply kept_ite2 | (with_reducible refine kept_forAll (fun _ _ _ => ?_) ?_) | (with_reducible refine kept_foldl (fun _ _ _ => ?_) ?_) | (with_reducible refine kept_foldl1 (fun _ _ _ => ?_) ?_) | with_reducible apply kept_evtSet | fail_if_no_progress (with_reducible apply kept_mk) | (with_reducible refine kept_of_eq (by with_reducible assumption) ?_) | intro _ _ | split | dsimp only

theorem kept_raise {s0 s : State} (page : Nat) (causes : Nat) (h : Kept s0 s) : Kept s0 (raise s page causes) := by
  unfold raise
  try dsimp only
  repeat' first | with_reducible assumption | with_reducible apply kept_ite | with_reducible apply kept_ite1 | with_reducible apply kept_ite2 | (with_reducible refine kept_forAll (fun _ _ _ => ?_) ?_) | (with_reducible refine kept_foldl (fun _ _ _ => ?_) ?_) | (with_reducible refine kept_foldl1 (fun _ _ _ => ?_) ?_) | with_reducible apply kept_evtLevel | with_reducible apply kept_wr | fail_if_no_progress (with_reducible apply kept_mk) | (with_reducible refine kept_of_eq (by with_reducible assumption) ?_) | intro _ _ | split | dsimp only

theorem kept_raiseBit {s0 s : State} (page : Nat) (n : Nat) (h : Kept s0 s) : Kept s0 (raiseBit s page n) := by
  unfold raiseBit
  try dsimp only
  repeat' first | with_reducible assumption | with_reducible apply kept_ite | with_reducible apply kept_ite1 | with_reducible apply kept_ite2 | (with_reducible refine kept_forAll (fun _ _ _ => ?_) ?_) | (with_reducible refine kept_foldl (fun _ _ _ => ?_) ?_) | (with_reducible refine kept_foldl1 (fun _ _ _ => ?_) ?_) | with_reducible apply kept_raise | fail_if_no_progress (with_reducible apply kept_mk) | (with_reducible refine kept_of_eq (by with_reducible assumption) ?_) | intro _ _ | split | dsimp only

theorem kept_pgError {s0 s : State} (page : Nat) (off : Nat) (c : Code) (h : Kept s0 s) : Kept s0 (pgError s page off c) := by
  unfold pgError
  try dsimp only
  repeat' first | with_reducible assumption | with_reducible apply kept_ite | with_reducible apply kept_ite1 | with_reducible apply kept_ite2 | (with_reducible refine kept_forAll (fun _ _ _ => ?_) ?_) | (with_reducible refine kept_foldl (fun _ _ _ => ?_) ?_) | (with_reducible refine kept_foldl1 (fun _ _ _ => ?_) ?_) | with_reducible apply kept_wr | with_reducible apply kept_raiseBit | fail_if_no_progress (with_reducible apply kept_mk) | (with_reducible refine kept_of_eq (by with_reducible assumption) ?_) | intro _ _ | split | dsimp only

theorem kept_answer {s0 s : State} (c : Code) (h : Kept s0 s) : Kept s0 (answer s c) := by
  unfold answer
  try dsimp only
  repeat' first | with_reducible assumption | with_reducible apply kept_ite | with_reducible apply kept_ite1 | with_reducible apply kept_ite2 | (with_reducible refine kept_forAll (fun _ _ _ => ?_) ?_) | (with_reducible refine kept_foldl (fun _ _ _ => ?_) ?_) | (with_reducible refine kept_foldl1 (fun _ _ _ => ?_) ?_) | fail_if_no_progress (with_reducible apply kept_mk) | (with_reducible refine kept_of_eq (by with_reducible assumption) ?_) | intro _ _ | split | dsimp only

theorem kept_rejectWrite {s0 s : State} (page : Nat) (off : Nat) (c : Code) (h : Kept s0 s) : Kept s0 (rejectWrite s page off c) := by
  unfold rejectWrite
  try dsimp only
  repeat' first | with_reducible assumption | with_reducible apply kept_ite | with_reducible apply kept_ite1 | with_reducible apply kept_ite2 | (with_reducible refine kept_forAll (fun _ _ _ => ?_) ?_) | (with_reducible refine kept_foldl (fun _ _ _ => ?_) ?_) | (with_reducible refine kept_foldl1 (fun _ _ _ => ?_) ?_) | with_reducible apply kept_answer | with_reducible apply kept_pgError | fail_if_no_progress (with_reducible apply kept_mk) | (with_reducible refine kept_of_eq (by with_reducible assumption) ?_) | intro _ _ | split | dsimp only

theorem kept_deny {s0 s : State} (flask : Nat) (path : Nat) (target : Nat) (h : Kept s0 s) : Kept s0 (deny s flask path target) := by
  unfold deny
  try dsimp only
  repeat' first | with_reducible assumption | with_reducible apply kept_ite | with_reducible apply kept_ite1 | with_reducible apply kept_ite2 | (with_reducible refine kept_forAll (fun _ _ _ => ?_) ?_) | (with_reducible refine kept_foldl (fun _ _ _ => ?_) ?_) | (with_reducible refine kept_foldl1 (fun _ _ _ => ?_) ?_) | with_reducible apply kept_bumpSat | with_reducible apply kept_wr | with_reducible apply kept_raiseBit | fail_if_no_progress (with_reducible apply kept_mk) | (with_reducible refine kept_of_eq (by with_reducible assumption) ?_) | intro _ _ | split | dsimp only

theorem kept_putByte {s0 s : State} (a : Nat) (v : Byte) (h : Kept s0 s) : Kept s0 (putByte s a v) :=
  ⟨h.pending, fun w => wf_putByte a v (h.wf w), h.fuses⟩

theorem kept_putBytes {s0 s : State} (a : Nat) (l : List Byte) (h : Kept s0 s) : Kept s0 (putBytes s a l) := by
  induction l generalizing s a with
  | nil => exact h
  | cons x r ih => exact ih _ (kept_putByte a x h)

theorem kept_storeN {s0 s : State} (a : Nat) (n : Nat) (v : Nat) (h : Kept s0 s) : Kept s0 (storeN s a n v) := by
  unfold storeN
  try dsimp only
  repeat' first | with_reducible assumption | with_reducible apply kept_ite | with_reducible apply kept_ite1 | with_reducible apply kept_ite2 | (with_reducible refine kept_forAll (fun _ _ _ => ?_) ?_) | (with_reducible refine kept_foldl (fun _ _ _ => ?_) ?_) | (with_reducible refine kept_foldl1 (fun _ _ _ => ?_) ?_) | with_reducible apply kept_putBytes | fail_if_no_progress (with_reducible apply kept_mk) | (with_reducible refine kept_of_eq (by with_reducible assumption) ?_) | intro _ _ | split | dsimp only

theorem kept_fillBytes {s0 s : State} (a : Nat) (n : Nat) (v : Byte) (h : Kept s0 s) : Kept s0 (fillBytes s a n v) := by
  unfold fillBytes
  try dsimp only
  repeat' first | with_reducible assumption | with_reducible apply kept_ite | with_reducible apply kept_ite1 | with_reducible apply kept_ite2 | (with_reducible refine kept_forAll (fun _ _ _ => ?_) ?_) | (with_reducible refine kept_foldl (fun _ _ _ => ?_) ?_) | (with_reducible refine kept_foldl1 (fun _ _ _ => ?_) ?_) | with_reducible apply kept_putBytes | fail_if_no_progress (with_reducible apply kept_mk) | (with_reducible refine kept_of_eq (by with_reducible assumption) ?_) | intro _ _ | split | dsimp only

theorem kept_setPoint {s0 s : State} (pid : Nat) (p : Point) (h : Kept s0 s) : Kept s0 (setPoint s pid p) := by
  unfold setPoint
  try dsimp only
  repeat' first | with_reducible assumption | with_reducible apply kept_ite | with_reducible apply kept_ite1 | with_reducible apply kept_ite2 | (with_reducible refine kept_forAll (fun _ _ _ => ?_) ?_) | (with_reducible refine kept_foldl (fun _ _ _ => ?_) ?_) | (with_reducible refine kept_foldl1 (fun _ _ _ => ?_) ?_) | fail_if_no_progress (with_reducible apply kept_mk) | (with_reducible refine kept_of_eq (by with_reducible assumption) ?_) | intro _ _ | split | dsimp only

theorem kept_setForce {s0 s : State} (k : Nat) (e : Option Force) (h : Kept s0 s) : Kept s0 (setForce s k e) := by
  unfold setForce
  try dsimp only
  repeat' first | with_reducible assumption | with_reducible apply kept_ite | with_reducible apply kept_ite1 | with_reducible apply kept_ite2 | (with_reducible refine kept_forAll (fun _ _ _ => ?_) ?_) | (with_reducible refine kept_foldl (fun _ _ _ => ?_) ?_) | (with_reducible refine kept_foldl1 (fun _ _ _ => ?_) ?_) | fail_if_no_progress (with_reducible apply kept_mk) | (with_reducible refine kept_of_eq (by with_reducible assumption) ?_) | intro _ _ | split | dsimp only

theorem kept_saveForces {s0 s : State}  (h : Kept s0 s) : Kept s0 (saveForces s) := by
  unfold saveForces
  try dsimp only
  repeat' first | with_reducible assumption | with_reducible apply kept_ite | with_reducible apply kept_ite1 | with_reducible apply kept_ite2 | (with_reducible refine kept_forAll (fun _ _ _ => ?_) ?_) | (with_reducible refine kept_foldl (fun _ _ _ => ?_) ?_) | (with_reducible refine kept_foldl1 (fun _ _ _ => ?_) ?_) | fail_if_no_progress (with_reducible apply kept_mk) | (with_reducible refine kept_of_eq (by with_reducible assumption) ?_) | intro _ _ | split | dsimp only

theorem kept_streamPoint {s0 s : State} (pid : Nat) (h : Kept s0 s) : Kept s0 (streamPoint s pid) := by
  unfold streamPoint
  try dsimp only
  repeat' first | with_reducible assumption | with_reducible apply kept_ite | with_reducible apply kept_ite1 | with_reducible apply kept_ite2 | (with_reducible refine kept_forAll (fun _ _ _ => ?_) ?_) | (with_reducible refine kept_foldl (fun _ _ _ => ?_) ?_) | (with_reducible refine kept_foldl1 (fun _ _ _ => ?_) ?_) | fail_if_no_progress (with_reducible apply kept_mk) | (with_reducible refine kept_of_eq (by with_reducible assumption) ?_) | intro _ _ | split | dsimp only

theorem kept_mirrorForce {s0 s : State} (op : Nat) (k : Nat) (e : Force) (h : Kept s0 s) : Kept s0 (mirrorForce s op k e) := by
  unfold mirrorForce
  try dsimp only
  repeat' first | with_reducible assumption | with_reducible apply kept_ite | with_reducible apply kept_ite1 | with_reducible apply kept_ite2 | (with_reducible refine kept_forAll (fun _ _ _ => ?_) ?_) | (with_reducible refine kept_foldl (fun _ _ _ => ?_) ?_) | (with_reducible refine kept_foldl1 (fun _ _ _ => ?_) ?_) | fail_if_no_progress (with_reducible apply kept_mk) | (with_reducible refine kept_of_eq (by with_reducible assumption) ?_) | intro _ _ | split | dsimp only

theorem kept_commitForce {s0 s : State} (pid : Nat) (p : Point) (h : Kept s0 s) : Kept s0 (commitForce s pid p) := by
  unfold commitForce
  try dsimp only
  repeat' first | with_reducible assumption | with_reducible apply kept_ite | with_reducible apply kept_ite1 | with_reducible apply kept_ite2 | (with_reducible refine kept_forAll (fun _ _ _ => ?_) ?_) | (with_reducible refine kept_foldl (fun _ _ _ => ?_) ?_) | (with_reducible refine kept_foldl1 (fun _ _ _ => ?_) ?_) | with_reducible apply kept_setPoint | fail_if_no_progress (with_reducible apply kept_mk) | (with_reducible refine kept_of_eq (by with_reducible assumption) ?_) | intro _ _ | split | dsimp only

theorem kept_commitPoint {s0 s : State} (pid : Nat) (p : Point) (h : Kept s0 s) : Kept s0 (commitPoint s pid p) := by
  unfold commitPoint
  try dsimp only
  repeat' first | with_reducible assumption | with_reducible apply kept_ite | with_reducible apply kept_ite1 | with_reducible apply kept_ite2 | (with_reducible refine kept_forAll (fun _ _ _ => ?_) ?_) | (with_reducible refine kept_foldl (fun _ _ _ => ?_) ?_) | (with_reducible refine kept_foldl1 (fun _ _ _ => ?_) ?_) | with_reducible apply kept_streamPoint | with_reducible apply kept_commitForce | fail_if_no_progress (with_reducible apply kept_mk) | (with_reducible refine kept_of_eq (by with_reducible assumption) ?_) | intro _ _ | split | dsimp only

theorem kept_writePoint {s0 s : State} (pid : Nat) (v : DWord) (q : Byte) (ts : DWord) (src : BitVec 16) (h : Kept s0 s) : Kept s0 (writePoint s pid v q ts src) := by
  unfold writePoint
  try dsimp only
  repeat' first | with_reducible assumption | with_reducible apply kept_ite | with_reducible apply kept_ite1 | with_reducible apply kept_ite2 | (with_reducible refine kept_forAll (fun _ _ _ => ?_) ?_) | (with_reducible refine kept_foldl (fun _ _ _ => ?_) ?_) | (with_reducible refine kept_foldl1 (fun _ _ _ => ?_) ?_) | with_reducible apply kept_mirrorForce | with_reducible apply kept_setForce | with_reducible apply kept_commitPoint | fail_if_no_progress (with_reducible apply kept_mk) | (with_reducible refine kept_of_eq (by with_reducible assumption) ?_) | intro _ _ | split | dsimp only

theorem kept_fieldWrite {s0 s : State} (f : Nat) (path : Nat) (pid : Nat) (v : DWord) (q : Byte) (ts : DWord) (src : BitVec 16) (h : Kept s0 s) : Kept s0 (fieldWrite s f path pid v q ts src).1 := by
  unfold fieldWrite
  try dsimp only
  repeat' first | with_reducible assumption | with_reducible apply kept_ite | with_reducible apply kept_ite1 | with_reducible apply kept_ite2 | (with_reducible refine kept_forAll (fun _ _ _ => ?_) ?_) | (with_reducible refine kept_foldl (fun _ _ _ => ?_) ?_) | (with_reducible refine kept_foldl1 (fun _ _ _ => ?_) ?_) | with_reducible apply kept_writePoint | with_reducible apply kept_deny | fail_if_no_progress (with_reducible apply kept_mk) | (with_reducible refine kept_of_eq (by with_reducible assumption) ?_) | intro _ _ | split | dsimp only

theorem kept_tryWrite {s0 s : State} (f : Nat) (path : Nat) (pid : Nat) (v : DWord) (q : Byte) (ts : DWord) (src : BitVec 16) (h : Kept s0 s) : Kept s0 (tryWrite s f path pid v q ts src).1 := by
  unfold tryWrite
  try dsimp only
  repeat' first | with_reducible assumption | with_reducible apply kept_ite | with_reducible apply kept_ite1 | with_reducible apply kept_ite2 | (with_reducible refine kept_forAll (fun _ _ _ => ?_) ?_) | (with_reducible refine kept_foldl (fun _ _ _ => ?_) ?_) | (with_reducible refine kept_foldl1 (fun _ _ _ => ?_) ?_) | with_reducible apply kept_bumpSat | with_reducible apply kept_fieldWrite | fail_if_no_progress (with_reducible apply kept_mk) | (with_reducible refine kept_of_eq (by with_reducible assumption) ?_) | intro _ _ | split | dsimp only

theorem kept_tryRead {s0 s : State} (f : Nat) (path : Nat) (pid : Nat) (h : Kept s0 s) : Kept s0 (tryRead s f path pid).1 := by
  unfold tryRead
  try dsimp only
  repeat' first | with_reducible assumption | with_reducible apply kept_ite | with_reducible apply kept_ite1 | with_reducible apply kept_ite2 | (with_reducible refine kept_forAll (fun _ _ _ => ?_) ?_) | (with_reducible refine kept_foldl (fun _ _ _ => ?_) ?_) | (with_reducible refine kept_foldl1 (fun _ _ _ => ?_) ?_) | with_reducible apply kept_deny | fail_if_no_progress (with_reducible apply kept_mk) | (with_reducible refine kept_of_eq (by with_reducible assumption) ?_) | intro _ _ | split | dsimp only

theorem kept_forceDenied {s0 s : State} (f : Nat) (target : Nat) (h : Kept s0 s) : Kept s0 (forceDenied s f target).1 := by
  unfold forceDenied
  try dsimp only
  repeat' first | with_reducible assumption | with_reducible apply kept_ite | with_reducible apply kept_ite1 | with_reducible apply kept_ite2 | (with_reducible refine kept_forAll (fun _ _ _ => ?_) ?_) | (with_reducible refine kept_foldl (fun _ _ _ => ?_) ?_) | (with_reducible refine kept_foldl1 (fun _ _ _ => ?_) ?_) | with_reducible apply kept_deny | fail_if_no_progress (with_reducible apply kept_mk) | (with_reducible refine kept_of_eq (by with_reducible assumption) ?_) | intro _ _ | split | dsimp only

theorem kept_forceSet {s0 s : State} (f : Nat) (pid : Nat) (v : DWord) (h : Kept s0 s) : Kept s0 (forceSet s f pid v).1 := by
  unfold forceSet
  try dsimp only
  repeat' first | with_reducible assumption | with_reducible apply kept_ite | with_reducible apply kept_ite1 | with_reducible apply kept_ite2 | (with_reducible refine kept_forAll (fun _ _ _ => ?_) ?_) | (with_reducible refine kept_foldl (fun _ _ _ => ?_) ?_) | (with_reducible refine kept_foldl1 (fun _ _ _ => ?_) ?_) | with_reducible apply kept_forceDenied | with_reducible apply kept_mirrorForce | with_reducible apply kept_setForce | with_reducible apply kept_saveForces | with_reducible apply kept_commitForce | fail_if_no_progress (with_reducible apply kept_mk) | (with_reducible refine kept_of_eq (by with_reducible assumption) ?_) | intro _ _ | split | dsimp only

theorem kept_liftForce {s0 s : State} (k : Nat) (e : Force) (h : Kept s0 s) : Kept s0 (liftForce s k e) := by
  unfold liftForce
  try dsimp only
  repeat' first | with_reducible assumption | with_reducible apply kept_ite | with_reducible apply kept_ite1 | with_reducible apply kept_ite2 | (with_reducible refine kept_forAll (fun _ _ _ => ?_) ?_) | (with_reducible refine kept_foldl (fun _ _ _ => ?_) ?_) | (with_reducible refine kept_foldl1 (fun _ _ _ => ?_) ?_) | with_reducible apply kept_commitForce | with_reducible apply kept_mirrorForce | with_reducible apply kept_setForce | fail_if_no_progress (with_reducible apply kept_mk) | (with_reducible refine kept_of_eq (by with_reducible assumption) ?_) | intro _ _ | split | dsimp only

theorem kept_forceClear {s0 s : State} (f : Nat) (pid : Nat) (h : Kept s0 s) : Kept s0 (forceClear s f pid).1 := by
  unfold forceClear
  try dsimp only
  repeat' first | with_reducible assumption | with_reducible apply kept_ite | with_reducible apply kept_ite1 | with_reducible apply kept_ite2 | (with_reducible refine kept_forAll (fun _ _ _ => ?_) ?_) | (with_reducible refine kept_foldl (fun _ _ _ => ?_) ?_) | (with_reducible refine kept_foldl1 (fun _ _ _ => ?_) ?_) | with_reducible apply kept_forceDenied | with_reducible apply kept_saveForces | with_reducible apply kept_liftForce | fail_if_no_progress (with_reducible apply kept_mk) | (with_reducible refine kept_of_eq (by with_reducible assumption) ?_) | intro _ _ | split | dsimp only

theorem kept_forceClearFlask {s0 s : State} (f : Nat) (h : Kept s0 s) : Kept s0 (forceClearFlask s f) := by
  unfold forceClearFlask
  try dsimp only
  repeat' first | with_reducible assumption | with_reducible apply kept_ite | with_reducible apply kept_ite1 | with_reducible apply kept_ite2 | (with_reducible refine kept_forAll (fun _ _ _ => ?_) ?_) | (with_reducible refine kept_foldl (fun _ _ _ => ?_) ?_) | (with_reducible refine kept_foldl1 (fun _ _ _ => ?_) ?_) | with_reducible apply kept_saveForces | with_reducible apply kept_liftForce | fail_if_no_progress (with_reducible apply kept_mk) | (with_reducible refine kept_of_eq (by with_reducible assumption) ?_) | intro _ _ | split | dsimp only

theorem kept_forceLookup {s0 s : State} (f : Nat) (pid : Nat) (h : Kept s0 s) : Kept s0 (forceLookup s f pid).1 := by
  unfold forceLookup
  try dsimp only
  repeat' first | with_reducible assumption | with_reducible apply kept_ite | with_reducible apply kept_ite1 | with_reducible apply kept_ite2 | (with_reducible refine kept_forAll (fun _ _ _ => ?_) ?_) | (with_reducible refine kept_foldl (fun _ _ _ => ?_) ?_) | (with_reducible refine kept_foldl1 (fun _ _ _ => ?_) ?_) | with_reducible apply kept_forceDenied | fail_if_no_progress (with_reducible apply kept_mk) | (with_reducible refine kept_of_eq (by with_reducible assumption) ?_) | intro _ _ | split | dsimp only

theorem kept_forceReadIndex {s0 s : State} (f : Nat) (k : Nat) (h : Kept s0 s) : Kept s0 (forceReadIndex s f k).1 := by
  unfold forceReadIndex
  try dsimp only
  repeat' first | with_reducible assumption | with_reducible apply kept_ite | with_reducible apply kept_ite1 | with_reducible apply kept_ite2 | (with_reducible refine kept_forAll (fun _ _ _ => ?_) ?_) | (with_reducible refine kept_foldl (fun _ _ _ => ?_) ?_) | (with_reducible refine kept_foldl1 (fun _ _ _ => ?_) ?_) | with_reducible apply kept_forceDenied | fail_if_no_progress (with_reducible apply kept_mk) | (with_reducible refine kept_of_eq (by with_reducible assumption) ?_) | intro _ _ | split | dsimp only

theorem kept_showForce {s0 s : State} (hit : Option (Nat × Force)) (h : Kept s0 s) : Kept s0 (showForce s hit) := by
  unfold showForce
  try dsimp only
  repeat' first | with_reducible assumption | with_reducible apply kept_ite | with_reducible apply kept_ite1 | with_reducible apply kept_ite2 | (with_reducible refine kept_forAll (fun _ _ _ => ?_) ?_) | (with_reducible refine kept_foldl (fun _ _ _ => ?_) ?_) | (with_reducible refine kept_foldl1 (fun _ _ _ => ?_) ?_) | with_reducible apply kept_wr | fail_if_no_progress (with_reducible apply kept_mk) | (with_reducible refine kept_of_eq (by with_reducible assumption) ?_) | intro _ _ | split | dsimp only

theorem kept_ptdAlloc {s0 s : State} (pid : Nat) (owner : Nat) (dtype : Nat) (readers : Word) (h : Kept s0 s) : Kept s0 (ptdAlloc s pid owner dtype readers).1 := by
  unfold ptdAlloc
  try dsimp only
  repeat' first | with_reducible assumption | with_reducible apply kept_ite | with_reducible apply kept_ite1 | with_reducible apply kept_ite2 | (with_reducible refine kept_forAll (fun _ _ _ => ?_) ?_) | (with_reducible refine kept_foldl (fun _ _ _ => ?_) ?_) | (with_reducible refine kept_foldl1 (fun _ _ _ => ?_) ?_) | with_reducible apply kept_setPoint | fail_if_no_progress (with_reducible apply kept_mk) | (with_reducible refine kept_of_eq (by with_reducible assumption) ?_) | intro _ _ | split | dsimp only

theorem kept_ptdFree {s0 s : State} (pid : Nat) (h : Kept s0 s) : Kept s0 (ptdFree s pid).1 := by
  unfold ptdFree
  try dsimp only
  repeat' first | with_reducible assumption | with_reducible apply kept_ite | with_reducible apply kept_ite1 | with_reducible apply kept_ite2 | (with_reducible refine kept_forAll (fun _ _ _ => ?_) ?_) | (with_reducible refine kept_foldl (fun _ _ _ => ?_) ?_) | (with_reducible refine kept_foldl1 (fun _ _ _ => ?_) ?_) | with_reducible apply kept_setPoint | fail_if_no_progress (with_reducible apply kept_mk) | (with_reducible refine kept_of_eq (by with_reducible assumption) ?_) | intro _ _ | split | dsimp only

theorem kept_ptdUpdate {s0 s : State} (pid : Nat) (owner : Nat) (dtype : Nat) (readers : Word) (h : Kept s0 s) : Kept s0 (ptdUpdate s pid owner dtype readers).1 := by
  unfold ptdUpdate
  try dsimp only
  repeat' first | with_reducible assumption | with_reducible apply kept_ite | with_reducible apply kept_ite1 | with_reducible apply kept_ite2 | (with_reducible refine kept_forAll (fun _ _ _ => ?_) ?_) | (with_reducible refine kept_foldl (fun _ _ _ => ?_) ?_) | (with_reducible refine kept_foldl1 (fun _ _ _ => ?_) ?_) | with_reducible apply kept_setPoint | fail_if_no_progress (with_reducible apply kept_mk) | (with_reducible refine kept_of_eq (by with_reducible assumption) ?_) | intro _ _ | split | dsimp only

theorem kept_ptdCommand {s0 s : State} (op : Nat) (h : Kept s0 s) : Kept s0 (ptdCommand s op).1 := by
  unfold ptdCommand
  try dsimp only
  repeat' first | with_reducible assumption | with_reducible apply kept_ite | with_reducible apply kept_ite1 | with_reducible apply kept_ite2 | (with_reducible refine kept_forAll (fun _ _ _ => ?_) ?_) | (with_reducible refine kept_foldl (fun _ _ _ => ?_) ?_) | (with_reducible refine kept_foldl1 (fun _ _ _ => ?_) ?_) | with_reducible apply kept_setFld | with_reducible apply kept_ptdAlloc | with_reducible apply kept_ptdFree | with_reducible apply kept_wr | with_reducible apply kept_ptdUpdate | fail_if_no_progress (with_reducible apply kept_mk) | (with_reducible refine kept_of_eq (by with_reducible assumption) ?_) | intro _ _ | split | dsimp only

theorem kept_windowRead {s0 s : State} (q : Requester) (pid : BitVec 13) (word : Nat) (h : Kept s0 s) : Kept s0 (windowRead s q pid word) := by
  unfold windowRead
  try dsimp only
  repeat' first | with_reducible assumption | with_reducible apply kept_ite | with_reducible apply kept_ite1 | with_reducible apply kept_ite2 | (with_reducible refine kept_forAll (fun _ _ _ => ?_) ?_) | (with_reducible refine kept_foldl (fun _ _ _ => ?_) ?_) | (with_reducible refine kept_foldl1 (fun _ _ _ => ?_) ?_) | with_reducible apply kept_tryRead | with_reducible apply kept_answer | fail_if_no_progress (with_reducible apply kept_mk) | (with_reducible refine kept_of_eq (by with_reducible assumption) ?_) | intro _ _ | split | dsimp only

theorem kept_setStage {s0 s : State} (q : Requester) (st : Option WinStage) (h : Kept s0 s) : Kept s0 (setStage s q st) := by
  unfold setStage
  try dsimp only
  repeat' first | with_reducible assumption | with_reducible apply kept_ite | with_reducible apply kept_ite1 | with_reducible apply kept_ite2 | (with_reducible refine kept_forAll (fun _ _ _ => ?_) ?_) | (with_reducible refine kept_foldl (fun _ _ _ => ?_) ?_) | (with_reducible refine kept_foldl1 (fun _ _ _ => ?_) ?_) | fail_if_no_progress (with_reducible apply kept_mk) | (with_reducible refine kept_of_eq (by with_reducible assumption) ?_) | intro _ _ | split | dsimp only

theorem kept_windowWrite {s0 s : State} (q : Requester) (pid : BitVec 13) (word : Nat) (v : Word) (h : Kept s0 s) : Kept s0 (windowWrite s q pid word v) := by
  unfold windowWrite
  try dsimp only
  repeat' first | with_reducible assumption | with_reducible apply kept_ite | with_reducible apply kept_ite1 | with_reducible apply kept_ite2 | (with_reducible refine kept_forAll (fun _ _ _ => ?_) ?_) | (with_reducible refine kept_foldl (fun _ _ _ => ?_) ?_) | (with_reducible refine kept_foldl1 (fun _ _ _ => ?_) ?_) | with_reducible apply kept_answer | with_reducible apply kept_setStage | with_reducible apply kept_tryWrite | fail_if_no_progress (with_reducible apply kept_mk) | (with_reducible refine kept_of_eq (by with_reducible assumption) ?_) | intro _ _ | split | dsimp only

theorem kept_served {s0 s : State} (q : Requester) (k : State → State) (hk : ∀ x, Kept s0 x → Kept s0 (k x)) (h : Kept s0 s) : Kept s0 (served s q k) := by
  unfold served
  try dsimp only
  repeat' first | with_reducible assumption | with_reducible apply kept_ite | with_reducible apply kept_ite1 | with_reducible apply kept_ite2 | (with_reducible refine kept_forAll (fun _ _ _ => ?_) ?_) | (with_reducible refine kept_foldl (fun _ _ _ => ?_) ?_) | (with_reducible refine kept_foldl1 (fun _ _ _ => ?_) ?_) | with_reducible apply kept_answer | with_reducible apply hk | fail_if_no_progress (with_reducible apply kept_mk) | (with_reducible refine kept_of_eq (by with_reducible assumption) ?_) | intro _ _ | split | dsimp only

theorem kept_gated {s0 s : State} (q : Requester) (page : Nat) (off : Nat) (k : State → State) (hk : ∀ x, Kept s0 x → Kept s0 (k x)) (h : Kept s0 s) : Kept s0 (gated s q page off k) := by
  unfold gated
  try dsimp only
  repeat' first | with_reducible assumption | with_reducible apply kept_ite | with_reducible apply kept_ite1 | with_reducible apply kept_ite2 | (with_reducible refine kept_forAll (fun _ _ _ => ?_) ?_) | (with_reducible refine kept_foldl (fun _ _ _ => ?_) ?_) | (with_reducible refine kept_foldl1 (fun _ _ _ => ?_) ?_) | with_reducible apply kept_answer | with_reducible apply kept_deny | with_reducible apply hk | fail_if_no_progress (with_reducible apply kept_mk) | (with_reducible refine kept_of_eq (by with_reducible assumption) ?_) | intro _ _ | split | dsimp only

theorem kept_endCommand {s0 : State} (page : Nat) (off : Nat) (r : State × Code) (h : Kept s0 r.1) : Kept s0 (endCommand page off r) := by
  unfold endCommand
  split
  · exact kept_answer _ h
  · exact kept_rejectWrite _ _ _ h

end Sys2Proof.Machine
end

