-- ==== Sys2Proof/Laws/KeptB.lean ====
section
/-! SUPPORT. What the scan and operand operations keep. -/
namespace Sys2Proof.Machine
open Sys2Proof.Safety
set_option linter.unusedTactic false
set_option linter.unreachableTactic false

theorem kept_advanceTo {s0 s : State} (t : DWord) (h : Kept s0 s) : Kept s0 (advanceTo s t) := by
  unfold advanceTo
  try dsimp only
  repeat' first | with_reducible assumption | with_reducible apply kept_ite | with_reducible apply kept_ite1 | with_reducible apply kept_ite2 | (with_reducible refine kept_forAll (fun _ _ _ => ?_) ?_) | (with_reducible refine kept_foldl (fun _ _ _ => ?_) ?_) | (with_reducible refine kept_foldl1 (fun _ _ _ => ?_) ?_) | fail_if_no_progress (with_reducible apply kept_mk) | (with_reducible refine kept_of_eq (by with_reducible assumption) ?_) | intro _ _ | split | dsimp only

theorem kept_setTask {s0 s : State} (t : Nat) (x : TaskState) (h : Kept s0 s) : Kept s0 (setTask s t x) := by
  unfold setTask
  try dsimp only
  repeat' first | with_reducible assumption | with_reducible apply kept_ite | with_reducible apply kept_ite1 | with_reducible apply kept_ite2 | (with_reducible refine kept_forAll (fun _ _ _ => ?_) ?_) | (with_reducible refine kept_foldl (fun _ _ _ => ?_) ?_) | (with_reducible refine kept_foldl1 (fun _ _ _ => ?_) ?_) | fail_if_no_progress (with_reducible apply kept_mk) | (with_reducible refine kept_of_eq (by with_reducible assumption) ?_) | intro _ _ | split | dsimp only

theorem kept_setTaskState {s0 s : State} (t : Nat) (st : Nat) (h : Kept s0 s) : Kept s0 (setTaskState s t st) := by
  unfold setTaskState
  try dsimp only
  repeat' first | with_reducible assumption | with_reducible apply kept_ite | with_reducible apply kept_ite1 | with_reducible apply kept_ite2 | (with_reducible refine kept_forAll (fun _ _ _ => ?_) ?_) | (with_reducible refine kept_foldl (fun _ _ _ => ?_) ?_) | (with_reducible refine kept_foldl1 (fun _ _ _ => ?_) ?_) | with_reducible apply kept_setFld | fail_if_no_progress (with_reducible apply kept_mk) | (with_reducible refine kept_of_eq (by with_reducible assumption) ?_) | intro _ _ | split | dsimp only

theorem kept_discardRequest {s0 s : State}  (h : Kept s0 s) : Kept s0 (discardRequest s) := by
  unfold discardRequest
  try dsimp only
  repeat' first | with_reducible assumption | with_reducible apply kept_ite | with_reducible apply kept_ite1 | with_reducible apply kept_ite2 | (with_reducible refine kept_forAll (fun _ _ _ => ?_) ?_) | (with_reducible refine kept_foldl (fun _ _ _ => ?_) ?_) | (with_reducible refine kept_foldl1 (fun _ _ _ => ?_) ?_) | with_reducible apply kept_setFld | with_reducible apply kept_raiseBit | fail_if_no_progress (with_reducible apply kept_mk) | (with_reducible refine kept_of_eq (by with_reducible assumption) ?_) | intro _ _ | split | dsimp only

theorem kept_setCauseQueue {s0 s : State} (f : Nat) (q : CauseQueue) (h : Kept s0 s) : Kept s0 (setCauseQueue s f q) := by
  unfold setCauseQueue
  try dsimp only
  repeat' first | with_reducible assumption | with_reducible apply kept_ite | with_reducible apply kept_ite1 | with_reducible apply kept_ite2 | (with_reducible refine kept_forAll (fun _ _ _ => ?_) ?_) | (with_reducible refine kept_foldl (fun _ _ _ => ?_) ?_) | (with_reducible refine kept_foldl1 (fun _ _ _ => ?_) ?_) | fail_if_no_progress (with_reducible apply kept_mk) | (with_reducible refine kept_of_eq (by with_reducible assumption) ?_) | intro _ _ | split | dsimp only

theorem kept_postCause {s0 s : State} (f : Nat) (code : Nat) (task : Nat) (detail : Word) (h : Kept s0 s) : Kept s0 (postCause s f code task detail) := by
  unfold postCause
  try dsimp only
  repeat' first | with_reducible assumption | with_reducible apply kept_ite | with_reducible apply kept_ite1 | with_reducible apply kept_ite2 | (with_reducible refine kept_forAll (fun _ _ _ => ?_) ?_) | (with_reducible refine kept_foldl (fun _ _ _ => ?_) ?_) | (with_reducible refine kept_foldl1 (fun _ _ _ => ?_) ?_) | with_reducible apply kept_setFld | with_reducible apply kept_setCauseQueue | with_reducible apply kept_wr | with_reducible apply kept_raiseBit | fail_if_no_progress (with_reducible apply kept_mk) | (with_reducible refine kept_of_eq (by with_reducible assumption) ?_) | intro _ _ | split | dsimp only

theorem kept_showPend {s0 s : State} (t : Nat) (h : Kept s0 s) : Kept s0 (showPend s t) := by
  unfold showPend
  try dsimp only
  repeat' first | with_reducible assumption | with_reducible apply kept_ite | with_reducible apply kept_ite1 | with_reducible apply kept_ite2 | (with_reducible refine kept_forAll (fun _ _ _ => ?_) ?_) | (with_reducible refine kept_foldl (fun _ _ _ => ?_) ?_) | (with_reducible refine kept_foldl1 (fun _ _ _ => ?_) ?_) | with_reducible apply kept_setFld | fail_if_no_progress (with_reducible apply kept_mk) | (with_reducible refine kept_of_eq (by with_reducible assumption) ?_) | intro _ _ | split | dsimp only

theorem kept_takeRelease {s0 s : State} (t : Nat) (at_ : DWord) (h : Kept s0 s) : Kept s0 (takeRelease s t at_) := by
  unfold takeRelease
  try dsimp only
  repeat' first | with_reducible assumption | with_reducible apply kept_ite | with_reducible apply kept_ite1 | with_reducible apply kept_ite2 | (with_reducible refine kept_forAll (fun _ _ _ => ?_) ?_) | (with_reducible refine kept_foldl (fun _ _ _ => ?_) ?_) | (with_reducible refine kept_foldl1 (fun _ _ _ => ?_) ?_) | with_reducible apply kept_setTask | with_reducible apply kept_showPend | with_reducible apply kept_setTaskState | fail_if_no_progress (with_reducible apply kept_mk) | (with_reducible refine kept_of_eq (by with_reducible assumption) ?_) | intro _ _ | split | dsimp only

theorem kept_dropRelease {s0 s : State} (t : Nat) (inRun : Bool) (h : Kept s0 s) : Kept s0 (dropRelease s t inRun) := by
  unfold dropRelease
  try dsimp only
  repeat' first | with_reducible assumption | with_reducible apply kept_ite | with_reducible apply kept_ite1 | with_reducible apply kept_ite2 | (with_reducible refine kept_forAll (fun _ _ _ => ?_) ?_) | (with_reducible refine kept_foldl (fun _ _ _ => ?_) ?_) | (with_reducible refine kept_foldl1 (fun _ _ _ => ?_) ?_) | with_reducible apply kept_bumpFld | with_reducible apply kept_setTask | with_reducible apply kept_raiseBit | fail_if_no_progress (with_reducible apply kept_mk) | (with_reducible refine kept_of_eq (by with_reducible assumption) ?_) | intro _ _ | split | dsimp only

theorem kept_cyclicRelease {s0 s : State} (k : Nat) (t : Nat) (h : Kept s0 s) : Kept s0 (cyclicRelease k s t) := by
  unfold cyclicRelease
  try dsimp only
  repeat' first | with_reducible assumption | with_reducible apply kept_ite | with_reducible apply kept_ite1 | with_reducible apply kept_ite2 | (with_reducible refine kept_forAll (fun _ _ _ => ?_) ?_) | (with_reducible refine kept_foldl (fun _ _ _ => ?_) ?_) | (with_reducible refine kept_foldl1 (fun _ _ _ => ?_) ?_) | with_reducible apply kept_takeRelease | with_reducible apply kept_setTask | with_reducible apply kept_dropRelease | fail_if_no_progress (with_reducible apply kept_mk) | (with_reducible refine kept_of_eq (by with_reducible assumption) ?_) | intro _ _ | split | dsimp only

theorem kept_eventArrives {s0 s : State} (t : Nat) (h : Kept s0 s) : Kept s0 (eventArrives s t) := by
  unfold eventArrives
  try dsimp only
  repeat' first | with_reducible assumption | with_reducible apply kept_ite | with_reducible apply kept_ite1 | with_reducible apply kept_ite2 | (with_reducible refine kept_forAll (fun _ _ _ => ?_) ?_) | (with_reducible refine kept_foldl (fun _ _ _ => ?_) ?_) | (with_reducible refine kept_foldl1 (fun _ _ _ => ?_) ?_) | with_reducible apply kept_takeRelease | with_reducible apply kept_showPend | with_reducible apply kept_setTask | with_reducible apply kept_bumpFld | fail_if_no_progress (with_reducible apply kept_mk) | (with_reducible refine kept_of_eq (by with_reducible assumption) ?_) | intro _ _ | split | dsimp only

theorem kept_eventSource {s0 s : State} (src : Nat) (h : Kept s0 s) : Kept s0 (eventSource s src) := by
  unfold eventSource
  try dsimp only
  repeat' first | with_reducible assumption | with_reducible apply kept_ite | with_reducible apply kept_ite1 | with_reducible apply kept_ite2 | (with_reducible refine kept_forAll (fun _ _ _ => ?_) ?_) | (with_reducible refine kept_foldl (fun _ _ _ => ?_) ?_) | (with_reducible refine kept_foldl1 (fun _ _ _ => ?_) ?_) | with_reducible apply kept_eventArrives | fail_if_no_progress (with_reducible apply kept_mk) | (with_reducible refine kept_of_eq (by with_reducible assumption) ?_) | intro _ _ | split | dsimp only

theorem kept_refreshTask {s0 s : State} (t : Nat) (h : Kept s0 s) : Kept s0 (refreshTask s t) := by
  unfold refreshTask
  try dsimp only
  repeat' first | with_reducible assumption | with_reducible apply kept_ite | with_reducible apply kept_ite1 | with_reducible apply kept_ite2 | (with_reducible refine kept_forAll (fun _ _ _ => ?_) ?_) | (with_reducible refine kept_foldl (fun _ _ _ => ?_) ?_) | (with_reducible refine kept_foldl1 (fun _ _ _ => ?_) ?_) | with_reducible apply kept_setTaskState | with_reducible apply kept_showPend | with_reducible apply kept_setTask | fail_if_no_progress (with_reducible apply kept_mk) | (with_reducible refine kept_of_eq (by with_reducible assumption) ?_) | intro _ _ | split | dsimp only

theorem kept_refreshTasks {s0 s : State}  (h : Kept s0 s) : Kept s0 (refreshTasks s) := by
  unfold refreshTasks
  try dsimp only
  repeat' first | with_reducible assumption | with_reducible apply kept_ite | with_reducible apply kept_ite1 | with_reducible apply kept_ite2 | (with_reducible refine kept_forAll (fun _ _ _ => ?_) ?_) | (with_reducible refine kept_foldl (fun _ _ _ => ?_) ?_) | (with_reducible refine kept_foldl1 (fun _ _ _ => ?_) ?_) | with_reducible apply kept_refreshTask | fail_if_no_progress (with_reducible apply kept_mk) | (with_reducible refine kept_of_eq (by with_reducible assumption) ?_) | intro _ _ | split | dsimp only

theorem kept_setCurTask {s0 s : State} (c : Nat) (t : Nat) (h : Kept s0 s) : Kept s0 (setCurTask s c t) := by
  unfold setCurTask
  try dsimp only
  repeat' first | with_reducible assumption | with_reducible apply kept_ite | with_reducible apply kept_ite1 | with_reducible apply kept_ite2 | (with_reducible refine kept_forAll (fun _ _ _ => ?_) ?_) | (with_reducible refine kept_foldl (fun _ _ _ => ?_) ?_) | (with_reducible refine kept_foldl1 (fun _ _ _ => ?_) ?_) | with_reducible apply kept_setFld | fail_if_no_progress (with_reducible apply kept_mk) | (with_reducible refine kept_of_eq (by with_reducible assumption) ?_) | intro _ _ | split | dsimp only

theorem kept_preempt {s0 s : State} (c : Nat) (h : Kept s0 s) : Kept s0 (preempt s c) := by
  unfold preempt
  try dsimp only
  repeat' first | with_reducible assumption | with_reducible apply kept_ite | with_reducible apply kept_ite1 | with_reducible apply kept_ite2 | (with_reducible refine kept_forAll (fun _ _ _ => ?_) ?_) | (with_reducible refine kept_foldl (fun _ _ _ => ?_) ?_) | (with_reducible refine kept_foldl1 (fun _ _ _ => ?_) ?_) | with_reducible apply kept_setCurTask | with_reducible apply kept_setTaskState | fail_if_no_progress (with_reducible apply kept_mk) | (with_reducible refine kept_of_eq (by with_reducible assumption) ?_) | intro _ _ | split | dsimp only

theorem kept_startRun {s0 s : State} (c : Nat) (t : Nat) (h : Kept s0 s) : Kept s0 (startRun s c t) := by
  unfold startRun
  try dsimp only
  repeat' first | with_reducible assumption | with_reducible apply kept_ite | with_reducible apply kept_ite1 | with_reducible apply kept_ite2 | (with_reducible refine kept_forAll (fun _ _ _ => ?_) ?_) | (with_reducible refine kept_foldl (fun _ _ _ => ?_) ?_) | (with_reducible refine kept_foldl1 (fun _ _ _ => ?_) ?_) | with_reducible apply kept_setCauseQueue | with_reducible apply kept_setTask | with_reducible apply kept_step | with_reducible apply kept_showPend | with_reducible apply kept_setCurTask | with_reducible apply kept_setTaskState | with_reducible apply kept_postCause | fail_if_no_progress (with_reducible apply kept_mk) | (with_reducible refine kept_of_eq (by with_reducible assumption) ?_) | intro _ _ | split | dsimp only

theorem kept_dispatchCore {s0 s : State} (c : Nat) (h : Kept s0 s) : Kept s0 (dispatchCore s c) := by
  unfold dispatchCore
  try dsimp only
  repeat' first | with_reducible assumption | with_reducible apply kept_ite | with_reducible apply kept_ite1 | with_reducible apply kept_ite2 | (with_reducible refine kept_forAll (fun _ _ _ => ?_) ?_) | (with_reducible refine kept_foldl (fun _ _ _ => ?_) ?_) | (with_reducible refine kept_foldl1 (fun _ _ _ => ?_) ?_) | with_reducible apply kept_preempt | with_reducible apply kept_startRun | fail_if_no_progress (with_reducible apply kept_mk) | (with_reducible refine kept_of_eq (by with_reducible assumption) ?_) | intro _ _ | split | dsimp only

theorem kept_resumeCore {s0 s : State} (c : Nat) (h : Kept s0 s) : Kept s0 (resumeCore s c) := by
  unfold resumeCore
  try dsimp only
  repeat' first | with_reducible assumption | with_reducible apply kept_ite | with_reducible apply kept_ite1 | with_reducible apply kept_ite2 | (with_reducible refine kept_forAll (fun _ _ _ => ?_) ?_) | (with_reducible refine kept_foldl (fun _ _ _ => ?_) ?_) | (with_reducible refine kept_foldl1 (fun _ _ _ => ?_) ?_) | with_reducible apply kept_setTask | with_reducible apply kept_setCurTask | with_reducible apply kept_setTaskState | fail_if_no_progress (with_reducible apply kept_mk) | (with_reducible refine kept_of_eq (by with_reducible assumption) ?_) | intro _ _ | split | dsimp only

theorem kept_applyGran {s0 s : State} (x : GranItem) (h : Kept s0 s) : Kept s0 (applyGran s x) := by
  unfold applyGran
  try dsimp only
  repeat' first | with_reducible assumption | with_reducible apply kept_ite | with_reducible apply kept_ite1 | with_reducible apply kept_ite2 | (with_reducible refine kept_forAll (fun _ _ _ => ?_) ?_) | (with_reducible refine kept_foldl (fun _ _ _ => ?_) ?_) | (with_reducible refine kept_foldl1 (fun _ _ _ => ?_) ?_) | with_reducible apply kept_putBytes | fail_if_no_progress (with_reducible apply kept_mk) | (with_reducible refine kept_of_eq (by with_reducible assumption) ?_) | intro _ _ | split | dsimp only

theorem kept_tagRun {s0 s : State} (t : Nat) (r : Run) (h : Kept s0 s) : Kept s0 (tagRun s t r) := by
  unfold tagRun
  try dsimp only
  repeat' first | with_reducible assumption | with_reducible apply kept_ite | with_reducible apply kept_ite1 | with_reducible apply kept_ite2 | (with_reducible refine kept_forAll (fun _ _ _ => ?_) ?_) | (with_reducible refine kept_foldl (fun _ _ _ => ?_) ?_) | (with_reducible refine kept_foldl1 (fun _ _ _ => ?_) ?_) | fail_if_no_progress (with_reducible apply kept_mk) | (with_reducible refine kept_of_eq (by with_reducible assumption) ?_) | intro _ _ | split | dsimp only

theorem kept_compareRuns {s0 s : State} (own : RunItem) (active : RunItem) (h : Kept s0 s) : Kept s0 (compareRuns s own active) := by
  unfold compareRuns
  try dsimp only
  repeat' first | with_reducible assumption | with_reducible apply kept_ite | with_reducible apply kept_ite1 | with_reducible apply kept_ite2 | (with_reducible refine kept_forAll (fun _ _ _ => ?_) ?_) | (with_reducible refine kept_foldl (fun _ _ _ => ?_) ?_) | (with_reducible refine kept_foldl1 (fun _ _ _ => ?_) ?_) | with_reducible apply kept_wr | with_reducible apply kept_raiseBit | fail_if_no_progress (with_reducible apply kept_mk) | (with_reducible refine kept_of_eq (by with_reducible assumption) ?_) | intro _ _ | split | dsimp only

theorem kept_shadowEnded {s0 s : State} (x : RunItem) (h : Kept s0 s) : Kept s0 (shadowEnded s x) := by
  unfold shadowEnded
  try dsimp only
  repeat' first | with_reducible assumption | with_reducible apply kept_ite | with_reducible apply kept_ite1 | with_reducible apply kept_ite2 | (with_reducible refine kept_forAll (fun _ _ _ => ?_) ?_) | (with_reducible refine kept_foldl (fun _ _ _ => ?_) ?_) | (with_reducible refine kept_foldl1 (fun _ _ _ => ?_) ?_) | with_reducible apply kept_compareRuns | fail_if_no_progress (with_reducible apply kept_mk) | (with_reducible refine kept_of_eq (by with_reducible assumption) ?_) | intro _ _ | split | dsimp only

theorem kept_recordCame {s0 s : State} (x : RunItem) (h : Kept s0 s) : Kept s0 (recordCame s x) := by
  unfold recordCame
  try dsimp only
  repeat' first | with_reducible assumption | with_reducible apply kept_ite | with_reducible apply kept_ite1 | with_reducible apply kept_ite2 | (with_reducible refine kept_forAll (fun _ _ _ => ?_) ?_) | (with_reducible refine kept_foldl (fun _ _ _ => ?_) ?_) | (with_reducible refine kept_foldl1 (fun _ _ _ => ?_) ?_) | with_reducible apply kept_compareRuns | fail_if_no_progress (with_reducible apply kept_mk) | (with_reducible refine kept_of_eq (by with_reducible assumption) ?_) | intro _ _ | split | dsimp only

theorem kept_mirrorRun {s0 s : State} (t : Nat) (r : Run) (cut : Bool) (h : Kept s0 s) : Kept s0 (mirrorRun s t r cut) := by
  unfold mirrorRun
  try dsimp only
  repeat' first | with_reducible assumption | with_reducible apply kept_ite | with_reducible apply kept_ite1 | with_reducible apply kept_ite2 | (with_reducible refine kept_forAll (fun _ _ _ => ?_) ?_) | (with_reducible refine kept_foldl (fun _ _ _ => ?_) ?_) | (with_reducible refine kept_foldl1 (fun _ _ _ => ?_) ?_) | with_reducible apply kept_tagRun | with_reducible apply kept_shadowEnded | with_reducible apply kept_applyGran | fail_if_no_progress (with_reducible apply kept_mk) | (with_reducible refine kept_of_eq (by with_reducible assumption) ?_) | intro _ _ | split | dsimp only

theorem kept_haltTask {s0 s : State} (t : Nat) (h : Kept s0 s) : Kept s0 (haltTask s t) := by
  unfold haltTask
  try dsimp only
  repeat' first | with_reducible assumption | with_reducible apply kept_ite | with_reducible apply kept_ite1 | with_reducible apply kept_ite2 | (with_reducible refine kept_forAll (fun _ _ _ => ?_) ?_) | (with_reducible refine kept_foldl (fun _ _ _ => ?_) ?_) | (with_reducible refine kept_foldl1 (fun _ _ _ => ?_) ?_) | with_reducible apply kept_raiseBit | with_reducible apply kept_setFld | with_reducible apply kept_setTaskState | fail_if_no_progress (with_reducible apply kept_mk) | (with_reducible refine kept_of_eq (by with_reducible assumption) ?_) | intro _ _ | split | dsimp only

theorem kept_leaveRun {s0 s : State} (t : Nat) (h : Kept s0 s) : Kept s0 (leaveRun s t) := by
  unfold leaveRun
  try dsimp only
  repeat' first | with_reducible assumption | with_reducible apply kept_ite | with_reducible apply kept_ite1 | with_reducible apply kept_ite2 | (with_reducible refine kept_forAll (fun _ _ _ => ?_) ?_) | (with_reducible refine kept_foldl (fun _ _ _ => ?_) ?_) | (with_reducible refine kept_foldl1 (fun _ _ _ => ?_) ?_) | with_reducible apply kept_setTaskState | with_reducible apply kept_refreshTask | with_reducible apply kept_takeRelease | with_reducible apply kept_showPend | fail_if_no_progress (with_reducible apply kept_mk) | (with_reducible refine kept_of_eq (by with_reducible assumption) ?_) | intro _ _ | split | dsimp only

theorem kept_freeCore {s0 s : State} (t : Nat) (ns : Nat) (h : Kept s0 s) : Kept s0 (freeCore s t ns) := by
  unfold freeCore
  try dsimp only
  repeat' first | with_reducible assumption | with_reducible apply kept_ite | with_reducible apply kept_ite1 | with_reducible apply kept_ite2 | (with_reducible refine kept_forAll (fun _ _ _ => ?_) ?_) | (with_reducible refine kept_foldl (fun _ _ _ => ?_) ?_) | (with_reducible refine kept_foldl1 (fun _ _ _ => ?_) ?_) | with_reducible apply kept_setCurTask | fail_if_no_progress (with_reducible apply kept_mk) | (with_reducible refine kept_of_eq (by with_reducible assumption) ?_) | intro _ _ | split | dsimp only

theorem kept_cutOff {s0 s : State} (t : Nat) (code : Nat) (detail : Word) (h : Kept s0 s) : Kept s0 (cutOff s t code detail) := by
  unfold cutOff
  try dsimp only
  repeat' first | with_reducible assumption | with_reducible apply kept_ite | with_reducible apply kept_ite1 | with_reducible apply kept_ite2 | (with_reducible refine kept_forAll (fun _ _ _ => ?_) ?_) | (with_reducible refine kept_foldl (fun _ _ _ => ?_) ?_) | (with_reducible refine kept_foldl1 (fun _ _ _ => ?_) ?_) | with_reducible apply kept_mirrorRun | with_reducible apply kept_freeCore | with_reducible apply kept_setTask | with_reducible apply kept_postCause | with_reducible apply kept_showPend | with_reducible apply kept_haltTask | with_reducible apply kept_leaveRun | fail_if_no_progress (with_reducible apply kept_mk) | (with_reducible refine kept_of_eq (by with_reducible assumption) ?_) | intro _ _ | split | dsimp only

theorem kept_abandonRun {s0 s : State} (t : Nat) (h : Kept s0 s) : Kept s0 (abandonRun s t) := by
  unfold abandonRun
  try dsimp only
  repeat' first | with_reducible assumption | with_reducible apply kept_ite | with_reducible apply kept_ite1 | with_reducible apply kept_ite2 | (with_reducible refine kept_forAll (fun _ _ _ => ?_) ?_) | (with_reducible refine kept_foldl (fun _ _ _ => ?_) ?_) | (with_reducible refine kept_foldl1 (fun _ _ _ => ?_) ?_) | with_reducible apply kept_leaveRun | with_reducible apply kept_freeCore | with_reducible apply kept_setTask | fail_if_no_progress (with_reducible apply kept_mk) | (with_reducible refine kept_of_eq (by with_reducible assumption) ?_) | intro _ _ | split | dsimp only

theorem kept_watchdogCut {s0 s : State} (t : Nat) (h : Kept s0 s) : Kept s0 (watchdogCut s t) := by
  unfold watchdogCut
  try dsimp only
  repeat' first | with_reducible assumption | with_reducible apply kept_ite | with_reducible apply kept_ite1 | with_reducible apply kept_ite2 | (with_reducible refine kept_forAll (fun _ _ _ => ?_) ?_) | (with_reducible refine kept_foldl (fun _ _ _ => ?_) ?_) | (with_reducible refine kept_foldl1 (fun _ _ _ => ?_) ?_) | with_reducible apply kept_cutOff | fail_if_no_progress (with_reducible apply kept_mk) | (with_reducible refine kept_of_eq (by with_reducible assumption) ?_) | intro _ _ | split | dsimp only

theorem kept_runEnd {s0 s : State} (t : Nat) (r : Run) (h : Kept s0 s) : Kept s0 (runEnd s t r) := by
  unfold runEnd
  try dsimp only
  repeat' first | with_reducible assumption | with_reducible apply kept_ite | with_reducible apply kept_ite1 | with_reducible apply kept_ite2 | (with_reducible refine kept_forAll (fun _ _ _ => ?_) ?_) | (with_reducible refine kept_foldl (fun _ _ _ => ?_) ?_) | (with_reducible refine kept_foldl1 (fun _ _ _ => ?_) ?_) | with_reducible apply kept_mirrorRun | with_reducible apply kept_bump | with_reducible apply kept_setFld | with_reducible apply kept_freeCore | with_reducible apply kept_setTask | with_reducible apply kept_postCause | with_reducible apply kept_showPend | with_reducible apply kept_haltTask | with_reducible apply kept_leaveRun | fail_if_no_progress (with_reducible apply kept_mk) | (with_reducible refine kept_of_eq (by with_reducible assumption) ?_) | intro _ _ | split | dsimp only

theorem kept_noteWait {s0 s : State} (c : Nat) (waitNs : Nat) (h : Kept s0 s) : Kept s0 (noteWait s c waitNs) := by
  unfold noteWait
  try dsimp only
  repeat' first | with_reducible assumption | with_reducible apply kept_ite | with_reducible apply kept_ite1 | with_reducible apply kept_ite2 | (with_reducible refine kept_forAll (fun _ _ _ => ?_) ?_) | (with_reducible refine kept_foldl (fun _ _ _ => ?_) ?_) | (with_reducible refine kept_foldl1 (fun _ _ _ => ?_) ?_) | with_reducible apply kept_setFld | fail_if_no_progress (with_reducible apply kept_mk) | (with_reducible refine kept_of_eq (by with_reducible assumption) ?_) | intro _ _ | split | dsimp only

theorem kept_latchEntry {s0 : State} {a : State × Run × Nat} (f : Nat) (base : Nat) (pid : Nat) (h : Kept s0 a.1) : Kept s0 (latchEntry f base a pid).1 := by
  unfold latchEntry
  try dsimp only
  repeat' first | with_reducible assumption | with_reducible apply kept_ite | with_reducible apply kept_ite1 | with_reducible apply kept_ite2 | (with_reducible refine kept_forAll (fun _ _ _ => ?_) ?_) | (with_reducible refine kept_foldl (fun _ _ _ => ?_) ?_) | (with_reducible refine kept_foldl1 (fun _ _ _ => ?_) ?_) | with_reducible apply kept_tryRead | with_reducible apply kept_putBytes | fail_if_no_progress (with_reducible apply kept_mk) | (with_reducible refine kept_of_eq (by with_reducible assumption) ?_) | intro _ _ | split | dsimp only

theorem kept_latchRun {s0 s : State} (t : Nat) (waitNs : Nat) (h : Kept s0 s) : Kept s0 (latchRun s t waitNs) := by
  unfold latchRun
  try dsimp only
  repeat' first | with_reducible assumption | with_reducible apply kept_ite | with_reducible apply kept_ite1 | with_reducible apply kept_ite2 | (with_reducible refine kept_forAll (fun _ _ _ => ?_) ?_) | (with_reducible refine kept_foldl (fun _ _ _ => ?_) ?_) | (with_reducible refine kept_foldl1 (fun _ _ _ => ?_) ?_) | with_reducible apply kept_noteWait | with_reducible apply kept_latchEntry | with_reducible apply kept_step | with_reducible apply kept_setTask | with_reducible apply kept_watchdogCut | fail_if_no_progress (with_reducible apply kept_mk) | (with_reducible refine kept_of_eq (by with_reducible assumption) ?_) | intro _ _ | split | dsimp only

theorem kept_writeEntry {s0 : State} {a : State × Run × Nat} (f : Nat) (base : Nat) (ts : DWord) (src : BitVec 16) (live : Bool) (en : Nat × Bool) (h : Kept s0 a.1) : Kept s0 (writeEntry f base ts src live a en).1 := by
  unfold writeEntry
  try dsimp only
  repeat' first | with_reducible assumption | with_reducible apply kept_ite | with_reducible apply kept_ite1 | with_reducible apply kept_ite2 | (with_reducible refine kept_forAll (fun _ _ _ => ?_) ?_) | (with_reducible refine kept_foldl (fun _ _ _ => ?_) ?_) | (with_reducible refine kept_foldl1 (fun _ _ _ => ?_) ?_) | with_reducible apply kept_bumpSat | with_reducible apply kept_tryWrite | with_reducible apply kept_putBytes | fail_if_no_progress (with_reducible apply kept_mk) | (with_reducible refine kept_of_eq (by with_reducible assumption) ?_) | intro _ _ | split | dsimp only

theorem kept_deferredEntry {s0 : State} {a : State × Run} (f : Nat) (ts : DWord) (src : BitVec 16) (d : DeferredWrite) (h : Kept s0 a.1) : Kept s0 (deferredEntry f ts src a d).1 := by
  unfold deferredEntry
  try dsimp only
  repeat' first | with_reducible assumption | with_reducible apply kept_ite | with_reducible apply kept_ite1 | with_reducible apply kept_ite2 | (with_reducible refine kept_forAll (fun _ _ _ => ?_) ?_) | (with_reducible refine kept_foldl (fun _ _ _ => ?_) ?_) | (with_reducible refine kept_foldl1 (fun _ _ _ => ?_) ?_) | with_reducible apply kept_tryWrite | fail_if_no_progress (with_reducible apply kept_mk) | (with_reducible refine kept_of_eq (by with_reducible assumption) ?_) | intro _ _ | split | dsimp only

theorem kept_writeBackRun {s0 s : State} (t : Nat) (waitNs : Nat) (h : Kept s0 s) : Kept s0 (writeBackRun s t waitNs) := by
  unfold writeBackRun
  try dsimp only
  repeat' first | with_reducible assumption | with_reducible apply kept_ite | with_reducible apply kept_ite1 | with_reducible apply kept_ite2 | (with_reducible refine kept_forAll (fun _ _ _ => ?_) ?_) | (with_reducible refine kept_foldl (fun _ _ _ => ?_) ?_) | (with_reducible refine kept_foldl1 (fun _ _ _ => ?_) ?_) | with_reducible apply kept_writeBack | with_reducible apply kept_noteWait | with_reducible apply kept_writeEntry | with_reducible apply kept_deferredEntry | with_reducible apply kept_bumpSat | with_reducible apply kept_step | with_reducible apply kept_setTask | fail_if_no_progress (with_reducible apply kept_mk) | (with_reducible refine kept_of_eq (by with_reducible assumption) ?_) | intro _ _ | split | dsimp only

theorem kept_retentionRun {s0 s : State} (t : Nat) (h : Kept s0 s) : Kept s0 (retentionRun s t) := by
  unfold retentionRun
  try dsimp only
  repeat' first | with_reducible assumption | with_reducible apply kept_ite | with_reducible apply kept_ite1 | with_reducible apply kept_ite2 | (with_reducible refine kept_forAll (fun _ _ _ => ?_) ?_) | (with_reducible refine kept_foldl (fun _ _ _ => ?_) ?_) | (with_reducible refine kept_foldl1 (fun _ _ _ => ?_) ?_) | with_reducible apply kept_raiseBit | with_reducible apply kept_runEnd | fail_if_no_progress (with_reducible apply kept_mk) | (with_reducible refine kept_of_eq (by with_reducible assumption) ?_) | intro _ _ | split | dsimp only

theorem kept_setNvr {s0 s : State} (f : Nat) (g : List NvrInst) (h : Kept s0 s) : Kept s0 (setNvr s f g) := by
  unfold setNvr
  try dsimp only
  repeat' first | with_reducible assumption | with_reducible apply kept_ite | with_reducible apply kept_ite1 | with_reducible apply kept_ite2 | (with_reducible refine kept_forAll (fun _ _ _ => ?_) ?_) | (with_reducible refine kept_foldl (fun _ _ _ => ?_) ?_) | (with_reducible refine kept_foldl1 (fun _ _ _ => ?_) ?_) | fail_if_no_progress (with_reducible apply kept_mk) | (with_reducible refine kept_of_eq (by with_reducible assumption) ?_) | intro _ _ | split | dsimp only

theorem kept_nvrWriteFail {s0 s : State}  (h : Kept s0 s) : Kept s0 (nvrWriteFail s) := by
  unfold nvrWriteFail
  try dsimp only
  repeat' first | with_reducible assumption | with_reducible apply kept_ite | with_reducible apply kept_ite1 | with_reducible apply kept_ite2 | (with_reducible refine kept_forAll (fun _ _ _ => ?_) ?_) | (with_reducible refine kept_foldl (fun _ _ _ => ?_) ?_) | (with_reducible refine kept_foldl1 (fun _ _ _ => ?_) ?_) | with_reducible apply kept_raiseBit | with_reducible apply kept_bumpSat | fail_if_no_progress (with_reducible apply kept_mk) | (with_reducible refine kept_of_eq (by with_reducible assumption) ?_) | intro _ _ | split | dsimp only

theorem kept_drainBatch {s0 s : State} (ok : Bool) (failAt : Word) (h : Kept s0 s) : Kept s0 (drainBatch s ok failAt) := by
  unfold drainBatch
  try dsimp only
  repeat' first | with_reducible assumption | with_reducible apply kept_ite | with_reducible apply kept_ite1 | with_reducible apply kept_ite2 | (with_reducible refine kept_forAll (fun _ _ _ => ?_) ?_) | (with_reducible refine kept_foldl (fun _ _ _ => ?_) ?_) | (with_reducible refine kept_foldl1 (fun _ _ _ => ?_) ?_) | with_reducible apply kept_setNvr | with_reducible apply kept_raiseBit | with_reducible apply kept_postCause | with_reducible apply kept_nvrWriteFail | fail_if_no_progress (with_reducible apply kept_mk) | (with_reducible refine kept_of_eq (by with_reducible assumption) ?_) | intro _ _ | split | dsimp only

theorem kept_applyGeneration {s0 s : State} (f : Nat) (h : Kept s0 s) : Kept s0 (applyGeneration s f) := by
  unfold applyGeneration
  try dsimp only
  repeat' first | with_reducible assumption | with_reducible apply kept_ite | with_reducible apply kept_ite1 | with_reducible apply kept_ite2 | (with_reducible refine kept_forAll (fun _ _ _ => ?_) ?_) | (with_reducible refine kept_foldl (fun _ _ _ => ?_) ?_) | (with_reducible refine kept_foldl1 (fun _ _ _ => ?_) ?_) | with_reducible apply kept_setNvr | fail_if_no_progress (with_reducible apply kept_mk) | (with_reducible refine kept_of_eq (by with_reducible assumption) ?_) | intro _ _ | split | dsimp only

theorem kept_pfwRun {s0 s : State} (t : Nat) (h : Kept s0 s) : Kept s0 (pfwRun s t) := by
  unfold pfwRun
  try dsimp only
  repeat' first | with_reducible assumption | with_reducible apply kept_ite | with_reducible apply kept_ite1 | with_reducible apply kept_ite2 | (with_reducible refine kept_forAll (fun _ _ _ => ?_) ?_) | (with_reducible refine kept_foldl (fun _ _ _ => ?_) ?_) | (with_reducible refine kept_foldl1 (fun _ _ _ => ?_) ?_) | with_reducible apply kept_bumpFld | with_reducible apply kept_abandonRun | with_reducible apply kept_retentionRun | with_reducible apply kept_setTask | fail_if_no_progress (with_reducible apply kept_mk) | (with_reducible refine kept_of_eq (by with_reducible assumption) ?_) | intro _ _ | split | dsimp only

theorem kept_scanPowerFail {s0 s : State}  (h : Kept s0 s) : Kept s0 (scanPowerFail s) := by
  unfold scanPowerFail
  try dsimp only
  repeat' first | with_reducible assumption | with_reducible apply kept_ite | with_reducible apply kept_ite1 | with_reducible apply kept_ite2 | (with_reducible refine kept_forAll (fun _ _ _ => ?_) ?_) | (with_reducible refine kept_foldl (fun _ _ _ => ?_) ?_) | (with_reducible refine kept_foldl1 (fun _ _ _ => ?_) ?_) | with_reducible apply kept_wr | with_reducible apply kept_refreshTasks | with_reducible apply kept_pfwRun | fail_if_no_progress (with_reducible apply kept_mk) | (with_reducible refine kept_of_eq (by with_reducible assumption) ?_) | intro _ _ | split | dsimp only

theorem kept_scanSaveDone {s0 s : State} (drainUs : Nat) (h : Kept s0 s) : Kept s0 (scanSaveDone s drainUs) := by
  unfold scanSaveDone
  try dsimp only
  repeat' first | with_reducible assumption | with_reducible apply kept_ite | with_reducible apply kept_ite1 | with_reducible apply kept_ite2 | (with_reducible refine kept_forAll (fun _ _ _ => ?_) ?_) | (with_reducible refine kept_foldl (fun _ _ _ => ?_) ?_) | (with_reducible refine kept_foldl1 (fun _ _ _ => ?_) ?_) | with_reducible apply kept_setNvr | with_reducible apply kept_setFld | with_reducible apply kept_raiseBit | fail_if_no_progress (with_reducible apply kept_mk) | (with_reducible refine kept_of_eq (by with_reducible assumption) ?_) | intro _ _ | split | dsimp only

theorem kept_clearLastValid {s0 s : State} (t : Nat) (h : Kept s0 s) : Kept s0 (clearLastValid s t) := by
  unfold clearLastValid
  try dsimp only
  repeat' first | with_reducible assumption | with_reducible apply kept_ite | with_reducible apply kept_ite1 | with_reducible apply kept_ite2 | (with_reducible refine kept_forAll (fun _ _ _ => ?_) ?_) | (with_reducible refine kept_foldl (fun _ _ _ => ?_) ?_) | (with_reducible refine kept_foldl1 (fun _ _ _ => ?_) ?_) | with_reducible apply kept_putByte | fail_if_no_progress (with_reducible apply kept_mk) | (with_reducible refine kept_of_eq (by with_reducible assumption) ?_) | intro _ _ | split | dsimp only

theorem kept_enableTask {s0 s : State} (t : Nat) (h : Kept s0 s) : Kept s0 (enableTask s t) := by
  unfold enableTask
  try dsimp only
  repeat' first | with_reducible assumption | with_reducible apply kept_ite | with_reducible apply kept_ite1 | with_reducible apply kept_ite2 | (with_reducible refine kept_forAll (fun _ _ _ => ?_) ?_) | (with_reducible refine kept_foldl (fun _ _ _ => ?_) ?_) | (with_reducible refine kept_foldl1 (fun _ _ _ => ?_) ?_) | with_reducible apply kept_clearLastValid | with_reducible apply kept_setTask | with_reducible apply kept_refreshTask | with_reducible apply kept_setTaskState | fail_if_no_progress (with_reducible apply kept_mk) | (with_reducible refine kept_of_eq (by with_reducible assumption) ?_) | intro _ _ | split | dsimp only

theorem kept_disableTask {s0 s : State} (t : Nat) (h : Kept s0 s) : Kept s0 (disableTask s t) := by
  unfold disableTask
  try dsimp only
  repeat' first | with_reducible assumption | with_reducible apply kept_ite | with_reducible apply kept_ite1 | with_reducible apply kept_ite2 | (with_reducible refine kept_forAll (fun _ _ _ => ?_) ?_) | (with_reducible refine kept_foldl (fun _ _ _ => ?_) ?_) | (with_reducible refine kept_foldl1 (fun _ _ _ => ?_) ?_) | with_reducible apply kept_showPend | with_reducible apply kept_setTask | with_reducible apply kept_setTaskState | fail_if_no_progress (with_reducible apply kept_mk) | (with_reducible refine kept_of_eq (by with_reducible assumption) ?_) | intro _ _ | split | dsimp only

theorem kept_clearTaskCounters {s0 s : State} (t : Nat) (h : Kept s0 s) : Kept s0 (clearTaskCounters s t) := by
  unfold clearTaskCounters
  try dsimp only
  repeat' first | with_reducible assumption | with_reducible apply kept_ite | with_reducible apply kept_ite1 | with_reducible apply kept_ite2 | (with_reducible refine kept_forAll (fun _ _ _ => ?_) ?_) | (with_reducible refine kept_foldl (fun _ _ _ => ?_) ?_) | (with_reducible refine kept_foldl1 (fun _ _ _ => ?_) ?_) | with_reducible apply kept_wr | with_reducible apply kept_setFld | fail_if_no_progress (with_reducible apply kept_mk) | (with_reducible refine kept_of_eq (by with_reducible assumption) ?_) | intro _ _ | split | dsimp only

theorem kept_clearCounters {s0 s : State} (v : Word) (h : Kept s0 s) : Kept s0 (clearCounters s v) := by
  unfold clearCounters
  try dsimp only
  repeat' first | with_reducible assumption | with_reducible apply kept_ite | with_reducible apply kept_ite1 | with_reducible apply kept_ite2 | (with_reducible refine kept_forAll (fun _ _ _ => ?_) ?_) | (with_reducible refine kept_foldl (fun _ _ _ => ?_) ?_) | (with_reducible refine kept_foldl1 (fun _ _ _ => ?_) ?_) | with_reducible apply kept_clearTaskCounters | fail_if_no_progress (with_reducible apply kept_mk) | (with_reducible refine kept_of_eq (by with_reducible assumption) ?_) | intro _ _ | split | dsimp only

theorem kept_measureLoad {s0 s : State}  (h : Kept s0 s) : Kept s0 (measureLoad s) := by
  unfold measureLoad
  try dsimp only
  repeat' first | with_reducible assumption | with_reducible apply kept_ite | with_reducible apply kept_ite1 | with_reducible apply kept_ite2 | (with_reducible refine kept_forAll (fun _ _ _ => ?_) ?_) | (with_reducible refine kept_foldl (fun _ _ _ => ?_) ?_) | (with_reducible refine kept_foldl1 (fun _ _ _ => ?_) ?_) | with_reducible apply kept_setFld | fail_if_no_progress (with_reducible apply kept_mk) | (with_reducible refine kept_of_eq (by with_reducible assumption) ?_) | intro _ _ | split | dsimp only

theorem kept_scanGridPoint {s0 s : State} (k : Nat) (h : Kept s0 s) : Kept s0 (scanGridPoint s k) := by
  unfold scanGridPoint
  try dsimp only
  repeat' first | with_reducible assumption | with_reducible apply kept_ite | with_reducible apply kept_ite1 | with_reducible apply kept_ite2 | (with_reducible refine kept_forAll (fun _ _ _ => ?_) ?_) | (with_reducible refine kept_foldl (fun _ _ _ => ?_) ?_) | (with_reducible refine kept_foldl1 (fun _ _ _ => ?_) ?_) | with_reducible apply kept_preempt | with_reducible apply kept_cyclicRelease | fail_if_no_progress (with_reducible apply kept_mk) | (with_reducible refine kept_of_eq (by with_reducible assumption) ?_) | intro _ _ | split | dsimp only

theorem kept_postStart {s0 s : State} (detail : Nat) (h : Kept s0 s) : Kept s0 (postStart s detail) := by
  unfold postStart
  try dsimp only
  repeat' first | with_reducible assumption | with_reducible apply kept_ite | with_reducible apply kept_ite1 | with_reducible apply kept_ite2 | (with_reducible refine kept_forAll (fun _ _ _ => ?_) ?_) | (with_reducible refine kept_foldl (fun _ _ _ => ?_) ?_) | (with_reducible refine kept_foldl1 (fun _ _ _ => ?_) ?_) | with_reducible apply kept_postCause | fail_if_no_progress (with_reducible apply kept_mk) | (with_reducible refine kept_of_eq (by with_reducible assumption) ?_) | intro _ _ | split | dsimp only

end Sys2Proof.Machine
end

