-- ==== Sys2Proof/Laws/KeptC.lean ====
section
/-! SUPPORT. What the Cast interpreter, the Recast, the loops and the cryptographic helpers keep. -/
namespace Sys2Proof.Machine
open Sys2Proof.Safety
set_option linter.unusedTactic false
set_option linter.unreachableTactic false

theorem kept_boundary {s0 s : State} (t : Nat) (b : Bank) (r : Run) (h : Kept s0 s) : Kept s0 (boundary s t b r) := by
  unfold boundary
  try dsimp only
  repeat' first | with_reducible assumption | with_reducible apply kept_ite | with_reducible apply kept_ite1 | with_reducible apply kept_ite2 | (with_reducible refine kept_forAll (fun _ _ _ => ?_) ?_) | (with_reducible refine kept_foldl (fun _ _ _ => ?_) ?_) | (with_reducible refine kept_foldl1 (fun _ _ _ => ?_) ?_) | with_reducible apply kept_setTask | with_reducible apply kept_watchdogCut | fail_if_no_progress (with_reducible apply kept_mk) | (with_reducible refine kept_of_eq (by with_reducible assumption) ?_) | intro _ _ | split | dsimp only

/-- What an instruction's end keeps. -/
def KeptRes (s0 : State) : CastRes → Prop
  | .trap _ _ => True
  | .next c _ => Kept s0 c.s
  | .finish c _ => Kept s0 c.s
  | .hold c => Kept s0 c.s

theorem kept_castRetire {s0 : State} {c : CastCtx} {r : CastRes} (h : Kept s0 c.s) (hr : KeptRes s0 r) : Kept s0 (castRetire c r) := by
  cases r with
  | trap code n => exact kept_cutOff _ _ _ (kept_setTask _ _ h)
  | next d n => exact kept_boundary _ _ _ hr
  | finish d n => exact kept_boundary _ _ _ hr
  | hold d => exact kept_setFld _ _ _ (kept_setTask _ _ hr)
theorem keptRes_set {s0 : State} {c : CastCtx} {d : BitVec 4} {v : Word} {f n : Nat} (h : Kept s0 c.s) : KeptRes s0 (castSet c d v f n) := h

theorem kept_castStep {s0 s : State} (t : Fin 64) (legal : Bool) {body : CastCtx → CastRes} (hb : ∀ c, Kept s0 c.s → KeptRes s0 (body c)) (h : Kept s0 s) :
    Kept s0 (castStep t legal body s) := by
  unfold castStep
  split
  · rename_i c hc
    have hc' : Kept s0 c.s := by rw [(castCtx_eq hc).1]; exact h
    refine kept_castRetire hc' ?_
    split
    · exact hb c hc'
    · trivial
  · exact h

theorem kept_castReg {s0 s : State} (t : Fin 64) (o : RegForm) (legal : Bool) (n : Nat) (op : Word → Word → Word × Nat) (h : Kept s0 s) :
    Kept s0 (castReg t o legal n op s) := kept_castStep t legal (fun _ hc => keptRes_set hc) h

theorem kept_castImm {s0 s : State} (t : Fin 64) (o : ImmForm) (op : Word → Word) (h : Kept s0 s) :
    Kept s0 (castImm t o op s) := kept_castStep t true (fun _ hc => keptRes_set hc) h

theorem kept_castBranch {s0 s : State} (t : Fin 64) (o : BrForm) (cond : Word → Word → Bool) (h : Kept s0 s) :
    Kept s0 (castBranch t o cond s) := by
  refine kept_castStep t true (fun c hc => ?_) h
  dsimp only
  split <;> exact hc

theorem kept_castSys {s0 s : State} (t : Fin 64) (o : ImmForm) (v : CastCtx → Word) (h : Kept s0 s) :
    Kept s0 (castSys t o v s) := kept_castStep t _ (fun _ hc => keptRes_set hc) h

theorem kept_debugGo {s0 s : State} (core : Nat) (h : Kept s0 s) : Kept s0 (debugGo s core) := by
  unfold debugGo
  try dsimp only
  repeat' first | with_reducible assumption | with_reducible apply kept_ite | with_reducible apply kept_ite1 | with_reducible apply kept_ite2 | (with_reducible refine kept_forAll (fun _ _ _ => ?_) ?_) | (with_reducible refine kept_foldl (fun _ _ _ => ?_) ?_) | (with_reducible refine kept_foldl1 (fun _ _ _ => ?_) ?_) | with_reducible apply kept_setTask | with_reducible apply kept_setFld | fail_if_no_progress (with_reducible apply kept_mk) | (with_reducible refine kept_of_eq (by with_reducible assumption) ?_) | intro _ _ | split | dsimp only

theorem kept_setSlot {s0 s : State} (n : Nat) (k : KeySlot) (h : Kept s0 s) : Kept s0 (setSlot s n k) := by
  unfold setSlot
  try dsimp only
  repeat' first | with_reducible assumption | with_reducible apply kept_ite | with_reducible apply kept_ite1 | with_reducible apply kept_ite2 | (with_reducible refine kept_forAll (fun _ _ _ => ?_) ?_) | (with_reducible refine kept_foldl (fun _ _ _ => ?_) ?_) | (with_reducible refine kept_foldl1 (fun _ _ _ => ?_) ?_) | fail_if_no_progress (with_reducible apply kept_mk) | (with_reducible refine kept_of_eq (by with_reducible assumption) ?_) | intro _ _ | split | dsimp only

theorem kept_buildRegions {s0 s : State} (a : Nat) (m : Mould) (h : Kept s0 s) : Kept s0 (buildRegions s a m) := by
  unfold buildRegions
  try dsimp only
  repeat' first | with_reducible assumption | with_reducible apply kept_ite | with_reducible apply kept_ite1 | with_reducible apply kept_ite2 | (with_reducible refine kept_forAll (fun _ _ _ => ?_) ?_) | (with_reducible refine kept_foldl (fun _ _ _ => ?_) ?_) | (with_reducible refine kept_foldl1 (fun _ _ _ => ?_) ?_) | with_reducible apply kept_putBytes | with_reducible apply kept_fillBytes | fail_if_no_progress (with_reducible apply kept_mk) | (with_reducible refine kept_of_eq (by with_reducible assumption) ?_) | intro _ _ | split | dsimp only

theorem kept_setMould {s0 s : State} (f : Nat) (m : Option Mould) (h : Kept s0 s) : Kept s0 (setMould s f m) := by
  unfold setMould
  try dsimp only
  repeat' first | with_reducible assumption | with_reducible apply kept_ite | with_reducible apply kept_ite1 | with_reducible apply kept_ite2 | (with_reducible refine kept_forAll (fun _ _ _ => ?_) ?_) | (with_reducible refine kept_foldl (fun _ _ _ => ?_) ?_) | (with_reducible refine kept_foldl1 (fun _ _ _ => ?_) ?_) | with_reducible apply kept_wr | fail_if_no_progress (with_reducible apply kept_mk) | (with_reducible refine kept_of_eq (by with_reducible assumption) ?_) | intro _ _ | split | dsimp only

theorem kept_setXchState {s0 s : State} (st : Nat) (h : Kept s0 s) : Kept s0 (setXchState s st) := by
  unfold setXchState
  try dsimp only
  repeat' first | with_reducible assumption | with_reducible apply kept_ite | with_reducible apply kept_ite1 | with_reducible apply kept_ite2 | (with_reducible refine kept_forAll (fun _ _ _ => ?_) ?_) | (with_reducible refine kept_foldl (fun _ _ _ => ?_) ?_) | (with_reducible refine kept_foldl1 (fun _ _ _ => ?_) ?_) | with_reducible apply kept_setFld | fail_if_no_progress (with_reducible apply kept_mk) | (with_reducible refine kept_of_eq (by with_reducible assumption) ?_) | intro _ _ | split | dsimp only

theorem kept_xchEnd {s0 s : State} (st : Nat) (result : Nat) (h : Kept s0 s) : Kept s0 (xchEnd s st result) := by
  unfold xchEnd
  try dsimp only
  repeat' first | with_reducible assumption | with_reducible apply kept_ite | with_reducible apply kept_ite1 | with_reducible apply kept_ite2 | (with_reducible refine kept_forAll (fun _ _ _ => ?_) ?_) | (with_reducible refine kept_foldl (fun _ _ _ => ?_) ?_) | (with_reducible refine kept_foldl1 (fun _ _ _ => ?_) ?_) | with_reducible apply kept_raiseBit | with_reducible apply kept_setXchState | with_reducible apply kept_setFld | fail_if_no_progress (with_reducible apply kept_mk) | (with_reducible refine kept_of_eq (by with_reducible assumption) ?_) | intro _ _ | split | dsimp only

theorem kept_dueReport {s0 s : State} (r : Report) (h : Kept s0 s) : Kept s0 (dueReport s r) := by
  unfold dueReport
  try dsimp only
  repeat' first | with_reducible assumption | with_reducible apply kept_ite | with_reducible apply kept_ite1 | with_reducible apply kept_ite2 | (with_reducible refine kept_forAll (fun _ _ _ => ?_) ?_) | (with_reducible refine kept_foldl (fun _ _ _ => ?_) ?_) | (with_reducible refine kept_foldl1 (fun _ _ _ => ?_) ?_) | fail_if_no_progress (with_reducible apply kept_mk) | (with_reducible refine kept_of_eq (by with_reducible assumption) ?_) | intro _ _ | split | dsimp only

theorem kept_classifyForces {s0 s : State} (f : Nat) (old : Option Mould) (new : Option Mould) (h : Kept s0 s) : Kept s0 (classifyForces s f old new).1 := by
  unfold classifyForces
  try dsimp only
  repeat' first | with_reducible assumption | with_reducible apply kept_ite | with_reducible apply kept_ite1 | with_reducible apply kept_ite2 | (with_reducible refine kept_forAll (fun _ _ _ => ?_) ?_) | (with_reducible refine kept_foldl (fun _ _ _ => ?_) ?_) | (with_reducible refine kept_foldl1 (fun _ _ _ => ?_) ?_) | with_reducible apply kept_mirrorForce | with_reducible apply kept_setForce | with_reducible apply kept_saveForces | fail_if_no_progress (with_reducible apply kept_mk) | (with_reducible refine kept_of_eq (by with_reducible assumption) ?_) | intro _ _ | split | dsimp only

theorem kept_applyField {s0 s : State} (src : Nat) (dst : Nat) (f : FieldMap) (h : Kept s0 s) : Kept s0 (applyField src dst s f) := by
  unfold applyField
  try dsimp only
  repeat' first | with_reducible assumption | with_reducible apply kept_ite | with_reducible apply kept_ite1 | with_reducible apply kept_ite2 | (with_reducible refine kept_forAll (fun _ _ _ => ?_) ?_) | (with_reducible refine kept_foldl (fun _ _ _ => ?_) ?_) | (with_reducible refine kept_foldl1 (fun _ _ _ => ?_) ?_) | with_reducible apply kept_putBytes | with_reducible apply kept_storeN | fail_if_no_progress (with_reducible apply kept_mk) | (with_reducible refine kept_of_eq (by with_reducible assumption) ?_) | intro _ _ | split | dsimp only

theorem kept_migrateInst {s0 : State} {a : State × List Outcome} (old : Mould) (new : Mould) (maps : List TypeMap) (rollback : Bool) (e : InstEnt) (h : Kept s0 a.1) : Kept s0 (migrateInst old new maps rollback a e).1 := by
  unfold migrateInst
  try dsimp only
  repeat' first | with_reducible assumption | with_reducible apply kept_ite | with_reducible apply kept_ite1 | with_reducible apply kept_ite2 | (with_reducible refine kept_forAll (fun _ _ _ => ?_) ?_) | (with_reducible refine kept_foldl (fun _ _ _ => ?_) ?_) | (with_reducible refine kept_foldl1 (fun _ _ _ => ?_) ?_) | with_reducible apply kept_putBytes | with_reducible apply kept_applyField | fail_if_no_progress (with_reducible apply kept_mk) | (with_reducible refine kept_of_eq (by with_reducible assumption) ?_) | intro _ _ | split | dsimp only

theorem kept_migrate {s0 s : State} (old : Option Mould) (new : Mould) (rollback : Bool) (h : Kept s0 s) : Kept s0 (migrate s old new rollback).1 := by
  unfold migrate
  try dsimp only
  repeat' first | with_reducible assumption | with_reducible apply kept_ite | with_reducible apply kept_ite1 | with_reducible apply kept_ite2 | (with_reducible refine kept_forAll (fun _ _ _ => ?_) ?_) | (with_reducible refine kept_foldl (fun _ _ _ => ?_) ?_) | (with_reducible refine kept_foldl1 (fun _ _ _ => ?_) ?_) | with_reducible apply kept_migrateInst | fail_if_no_progress (with_reducible apply kept_mk) | (with_reducible refine kept_of_eq (by with_reducible assumption) ?_) | intro _ _ | split | dsimp only

theorem kept_stageComplete {s0 s : State} (codeAt : Word) (dataAt : Word) (h : Kept s0 s) : Kept s0 (stageComplete s codeAt dataAt) := by
  unfold stageComplete
  try dsimp only
  repeat' first | with_reducible assumption | with_reducible apply kept_ite | with_reducible apply kept_ite1 | with_reducible apply kept_ite2 | (with_reducible refine kept_forAll (fun _ _ _ => ?_) ?_) | (with_reducible refine kept_foldl (fun _ _ _ => ?_) ?_) | (with_reducible refine kept_foldl1 (fun _ _ _ => ?_) ?_) | with_reducible apply kept_buildRegions | with_reducible apply kept_xchEnd | with_reducible apply kept_dueReport | fail_if_no_progress (with_reducible apply kept_mk) | (with_reducible refine kept_of_eq (by with_reducible assumption) ?_) | intro _ _ | split | dsimp only

theorem kept_xchBegin {s0 s : State} (q : XchReq) (st : Nat) (rollback : Bool) (h : Kept s0 s) : Kept s0 (xchBegin s q st rollback) := by
  unfold xchBegin
  try dsimp only
  repeat' first | with_reducible assumption | with_reducible apply kept_ite | with_reducible apply kept_ite1 | with_reducible apply kept_ite2 | (with_reducible refine kept_forAll (fun _ _ _ => ?_) ?_) | (with_reducible refine kept_foldl (fun _ _ _ => ?_) ?_) | (with_reducible refine kept_foldl1 (fun _ _ _ => ?_) ?_) | with_reducible apply kept_setFld | with_reducible apply kept_setXchState | fail_if_no_progress (with_reducible apply kept_mk) | (with_reducible refine kept_of_eq (by with_reducible assumption) ?_) | intro _ _ | split | dsimp only

theorem kept_xchStage {s0 s : State} (q : XchReq) (h : Kept s0 s) : Kept s0 (xchStage s q).1 := by
  unfold xchStage
  try dsimp only
  repeat' first | with_reducible assumption | with_reducible apply kept_ite | with_reducible apply kept_ite1 | with_reducible apply kept_ite2 | (with_reducible refine kept_forAll (fun _ _ _ => ?_) ?_) | (with_reducible refine kept_foldl (fun _ _ _ => ?_) ?_) | (with_reducible refine kept_foldl1 (fun _ _ _ => ?_) ?_) | with_reducible apply kept_xchBegin | fail_if_no_progress (with_reducible apply kept_mk) | (with_reducible refine kept_of_eq (by with_reducible assumption) ?_) | intro _ _ | split | dsimp only

theorem kept_xchCommit {s0 s : State} (q : XchReq) (h : Kept s0 s) : Kept s0 (xchCommit s q).1 := by
  unfold xchCommit
  try dsimp only
  repeat' first | with_reducible assumption | with_reducible apply kept_ite | with_reducible apply kept_ite1 | with_reducible apply kept_ite2 | (with_reducible refine kept_forAll (fun _ _ _ => ?_) ?_) | (with_reducible refine kept_foldl (fun _ _ _ => ?_) ?_) | (with_reducible refine kept_foldl1 (fun _ _ _ => ?_) ?_) | with_reducible apply kept_xchBegin | fail_if_no_progress (with_reducible apply kept_mk) | (with_reducible refine kept_of_eq (by with_reducible assumption) ?_) | intro _ _ | split | dsimp only

theorem kept_xchAbandon {s0 s : State} (q : XchReq) (h : Kept s0 s) : Kept s0 (xchAbandon s q).1 := by
  unfold xchAbandon
  try dsimp only
  repeat' first | with_reducible assumption | with_reducible apply kept_ite | with_reducible apply kept_ite1 | with_reducible apply kept_ite2 | (with_reducible refine kept_forAll (fun _ _ _ => ?_) ?_) | (with_reducible refine kept_foldl (fun _ _ _ => ?_) ?_) | (with_reducible refine kept_foldl1 (fun _ _ _ => ?_) ?_) | with_reducible apply kept_xchEnd | fail_if_no_progress (with_reducible apply kept_mk) | (with_reducible refine kept_of_eq (by with_reducible assumption) ?_) | intro _ _ | split | dsimp only

theorem kept_xchConfirm {s0 s : State} (q : XchReq) (h : Kept s0 s) : Kept s0 (xchConfirm s q).1 := by
  unfold xchConfirm
  try dsimp only
  repeat' first | with_reducible assumption | with_reducible apply kept_ite | with_reducible apply kept_ite1 | with_reducible apply kept_ite2 | (with_reducible refine kept_forAll (fun _ _ _ => ?_) ?_) | (with_reducible refine kept_foldl (fun _ _ _ => ?_) ?_) | (with_reducible refine kept_foldl1 (fun _ _ _ => ?_) ?_) | with_reducible apply kept_xchEnd | fail_if_no_progress (with_reducible apply kept_mk) | (with_reducible refine kept_of_eq (by with_reducible assumption) ?_) | intro _ _ | split | dsimp only

theorem kept_xchRollback {s0 s : State} (q : XchReq) (h : Kept s0 s) : Kept s0 (xchRollback s q).1 := by
  unfold xchRollback
  try dsimp only
  repeat' first | with_reducible assumption | with_reducible apply kept_ite | with_reducible apply kept_ite1 | with_reducible apply kept_ite2 | (with_reducible refine kept_forAll (fun _ _ _ => ?_) ?_) | (with_reducible refine kept_foldl (fun _ _ _ => ?_) ?_) | (with_reducible refine kept_foldl1 (fun _ _ _ => ?_) ?_) | with_reducible apply kept_xchBegin | fail_if_no_progress (with_reducible apply kept_mk) | (with_reducible refine kept_of_eq (by with_reducible assumption) ?_) | intro _ _ | split | dsimp only

theorem kept_xchUnload {s0 s : State} (q : XchReq) (h : Kept s0 s) : Kept s0 (xchUnload s q).1 := by
  unfold xchUnload
  try dsimp only
  repeat' first | with_reducible assumption | with_reducible apply kept_ite | with_reducible apply kept_ite1 | with_reducible apply kept_ite2 | (with_reducible refine kept_forAll (fun _ _ _ => ?_) ?_) | (with_reducible refine kept_foldl (fun _ _ _ => ?_) ?_) | (with_reducible refine kept_foldl1 (fun _ _ _ => ?_) ?_) | with_reducible apply kept_classifyForces | with_reducible apply kept_setNvr | with_reducible apply kept_setMould | with_reducible apply kept_xchEnd | with_reducible apply kept_xchBegin | with_reducible apply kept_dueReport | fail_if_no_progress (with_reducible apply kept_mk) | (with_reducible refine kept_of_eq (by with_reducible assumption) ?_) | intro _ _ | split | dsimp only

theorem kept_xchOp {s0 s : State} (q : XchReq) (op : Nat) (h : Kept s0 s) : Kept s0 (xchOp s q op).1 := by
  unfold xchOp
  try dsimp only
  repeat' first | with_reducible assumption | with_reducible apply kept_ite | with_reducible apply kept_ite1 | with_reducible apply kept_ite2 | (with_reducible refine kept_forAll (fun _ _ _ => ?_) ?_) | (with_reducible refine kept_foldl (fun _ _ _ => ?_) ?_) | (with_reducible refine kept_foldl1 (fun _ _ _ => ?_) ?_) | with_reducible apply kept_xchStage | with_reducible apply kept_xchCommit | with_reducible apply kept_xchAbandon | with_reducible apply kept_xchConfirm | with_reducible apply kept_xchRollback | with_reducible apply kept_xchUnload | fail_if_no_progress (with_reducible apply kept_mk) | (with_reducible refine kept_of_eq (by with_reducible assumption) ?_) | intro _ _ | split | dsimp only

theorem kept_exchangeTick {s0 s : State} (peer : Bool) (h : Kept s0 s) : Kept s0 (exchangeTick s peer) := by
  unfold exchangeTick
  try dsimp only
  repeat' first | with_reducible assumption | with_reducible apply kept_ite | with_reducible apply kept_ite1 | with_reducible apply kept_ite2 | (with_reducible refine kept_forAll (fun _ _ _ => ?_) ?_) | (with_reducible refine kept_foldl (fun _ _ _ => ?_) ?_) | (with_reducible refine kept_foldl1 (fun _ _ _ => ?_) ?_) | with_reducible apply kept_setTask | with_reducible apply kept_setXchState | fail_if_no_progress (with_reducible apply kept_mk) | (with_reducible refine kept_of_eq (by with_reducible assumption) ?_) | intro _ _ | split | dsimp only

theorem kept_exchangeTimeout {s0 s : State}  (h : Kept s0 s) : Kept s0 (exchangeTimeout s) := by
  unfold exchangeTimeout
  try dsimp only
  repeat' first | with_reducible assumption | with_reducible apply kept_ite | with_reducible apply kept_ite1 | with_reducible apply kept_ite2 | (with_reducible refine kept_forAll (fun _ _ _ => ?_) ?_) | (with_reducible refine kept_foldl (fun _ _ _ => ?_) ?_) | (with_reducible refine kept_foldl1 (fun _ _ _ => ?_) ?_) | with_reducible apply kept_advanceTo | with_reducible apply kept_raiseBit | with_reducible apply kept_xchEnd | fail_if_no_progress (with_reducible apply kept_mk) | (with_reducible refine kept_of_eq (by with_reducible assumption) ?_) | intro _ _ | split | dsimp only

theorem kept_exchangeAbandon {s0 s : State}  (h : Kept s0 s) : Kept s0 (exchangeAbandon s) := by
  unfold exchangeAbandon
  try dsimp only
  repeat' first | with_reducible assumption | with_reducible apply kept_ite | with_reducible apply kept_ite1 | with_reducible apply kept_ite2 | (with_reducible refine kept_forAll (fun _ _ _ => ?_) ?_) | (with_reducible refine kept_foldl (fun _ _ _ => ?_) ?_) | (with_reducible refine kept_foldl1 (fun _ _ _ => ?_) ?_) | with_reducible apply kept_setTask | with_reducible apply kept_setXchState | fail_if_no_progress (with_reducible apply kept_mk) | (with_reducible refine kept_of_eq (by with_reducible assumption) ?_) | intro _ _ | split | dsimp only

theorem kept_enterMould {s0 s : State} (f : Nat) (new : Mould) (rollback : Bool) (migNs : Nat) (h : Kept s0 s) : Kept s0 (enterMould s f new rollback migNs) := by
  unfold enterMould
  try dsimp only
  repeat' first | with_reducible assumption | with_reducible apply kept_ite | with_reducible apply kept_ite1 | with_reducible apply kept_ite2 | (with_reducible refine kept_forAll (fun _ _ _ => ?_) ?_) | (with_reducible refine kept_foldl (fun _ _ _ => ?_) ?_) | (with_reducible refine kept_foldl1 (fun _ _ _ => ?_) ?_) | with_reducible apply kept_migrate | with_reducible apply kept_advanceTo | with_reducible apply kept_putByte | with_reducible apply kept_classifyForces | with_reducible apply kept_setMould | with_reducible apply kept_wr | with_reducible apply kept_setTask | with_reducible apply kept_raiseBit | with_reducible apply kept_xchEnd | with_reducible apply kept_postCause | with_reducible apply kept_dueReport | fail_if_no_progress (with_reducible apply kept_mk) | (with_reducible refine kept_of_eq (by with_reducible assumption) ?_) | intro _ _ | split | dsimp only

theorem kept_exchangeSwitch {s0 s : State} (migNs : Nat) (h : Kept s0 s) : Kept s0 (exchangeSwitch s migNs) := by
  unfold exchangeSwitch
  try dsimp only
  repeat' first | with_reducible assumption | with_reducible apply kept_ite | with_reducible apply kept_ite1 | with_reducible apply kept_ite2 | (with_reducible refine kept_forAll (fun _ _ _ => ?_) ?_) | (with_reducible refine kept_foldl (fun _ _ _ => ?_) ?_) | (with_reducible refine kept_foldl1 (fun _ _ _ => ?_) ?_) | with_reducible apply kept_enterMould | fail_if_no_progress (with_reducible apply kept_mk) | (with_reducible refine kept_of_eq (by with_reducible assumption) ?_) | intro _ _ | split | dsimp only

theorem kept_exchangeReport {s0 s : State}  (h : Kept s0 s) : Kept s0 (exchangeReport s) := by
  unfold exchangeReport
  try dsimp only
  repeat' first | with_reducible assumption | with_reducible apply kept_ite | with_reducible apply kept_ite1 | with_reducible apply kept_ite2 | (with_reducible refine kept_forAll (fun _ _ _ => ?_) ?_) | (with_reducible refine kept_foldl (fun _ _ _ => ?_) ?_) | (with_reducible refine kept_foldl1 (fun _ _ _ => ?_) ?_) | with_reducible apply kept_setFld | with_reducible apply kept_raiseBit | with_reducible apply kept_putBytes | fail_if_no_progress (with_reducible apply kept_mk) | (with_reducible refine kept_of_eq (by with_reducible assumption) ?_) | intro _ _ | split | dsimp only

theorem kept_setLoop {s0 s : State} (n : Nat) (x : LoopState) (h : Kept s0 s) : Kept s0 (setLoop s n x) := by
  unfold setLoop
  try dsimp only
  repeat' first | with_reducible assumption | with_reducible apply kept_ite | with_reducible apply kept_ite1 | with_reducible apply kept_ite2 | (with_reducible refine kept_forAll (fun _ _ _ => ?_) ?_) | (with_reducible refine kept_foldl (fun _ _ _ => ?_) ?_) | (with_reducible refine kept_foldl1 (fun _ _ _ => ?_) ?_) | fail_if_no_progress (with_reducible apply kept_mk) | (with_reducible refine kept_of_eq (by with_reducible assumption) ?_) | intro _ _ | split | dsimp only

theorem kept_setLoopSt {s0 s : State} (n : Nat) (st : Nat) (h : Kept s0 s) : Kept s0 (setLoopSt s n st) := by
  unfold setLoopSt
  try dsimp only
  repeat' first | with_reducible assumption | with_reducible apply kept_ite | with_reducible apply kept_ite1 | with_reducible apply kept_ite2 | (with_reducible refine kept_forAll (fun _ _ _ => ?_) ?_) | (with_reducible refine kept_foldl (fun _ _ _ => ?_) ?_) | (with_reducible refine kept_foldl1 (fun _ _ _ => ?_) ?_) | with_reducible apply kept_setFld | fail_if_no_progress (with_reducible apply kept_mk) | (with_reducible refine kept_of_eq (by with_reducible assumption) ?_) | intro _ _ | split | dsimp only

theorem kept_loopFlag {s0 s : State} (n : Nat) (f : Fld) (cause : Nat) (h : Kept s0 s) : Kept s0 (loopFlag s n f cause) := by
  unfold loopFlag
  try dsimp only
  repeat' first | with_reducible assumption | with_reducible apply kept_ite | with_reducible apply kept_ite1 | with_reducible apply kept_ite2 | (with_reducible refine kept_forAll (fun _ _ _ => ?_) ?_) | (with_reducible refine kept_foldl (fun _ _ _ => ?_) ?_) | (with_reducible refine kept_foldl1 (fun _ _ _ => ?_) ?_) | with_reducible apply kept_raiseBit | with_reducible apply kept_setFld | fail_if_no_progress (with_reducible apply kept_mk) | (with_reducible refine kept_of_eq (by with_reducible assumption) ?_) | intro _ _ | split | dsimp only

theorem kept_refreshLoop {s0 s : State} (n : Nat) (h : Kept s0 s) : Kept s0 (refreshLoop s n) := by
  unfold refreshLoop
  try dsimp only
  repeat' first | with_reducible assumption | with_reducible apply kept_ite | with_reducible apply kept_ite1 | with_reducible apply kept_ite2 | (with_reducible refine kept_forAll (fun _ _ _ => ?_) ?_) | (with_reducible refine kept_foldl (fun _ _ _ => ?_) ?_) | (with_reducible refine kept_foldl1 (fun _ _ _ => ?_) ?_) | with_reducible apply kept_setFld | with_reducible apply kept_setLoop | fail_if_no_progress (with_reducible apply kept_mk) | (with_reducible refine kept_of_eq (by with_reducible assumption) ?_) | intro _ _ | split | dsimp only

theorem kept_refreshLoops {s0 s : State}  (h : Kept s0 s) : Kept s0 (refreshLoops s) := by
  unfold refreshLoops
  try dsimp only
  repeat' first | with_reducible assumption | with_reducible apply kept_ite | with_reducible apply kept_ite1 | with_reducible apply kept_ite2 | (with_reducible refine kept_forAll (fun _ _ _ => ?_) ?_) | (with_reducible refine kept_foldl (fun _ _ _ => ?_) ?_) | (with_reducible refine kept_foldl1 (fun _ _ _ => ?_) ?_) | with_reducible apply kept_refreshLoop | fail_if_no_progress (with_reducible apply kept_mk) | (with_reducible refine kept_of_eq (by with_reducible assumption) ?_) | intro _ _ | split | dsimp only

theorem kept_loopInput {s0 s : State} (n : Nat) (pid : Nat) (h : Kept s0 s) : Kept s0 (loopInput s n pid).1 := by
  unfold loopInput
  try dsimp only
  repeat' first | with_reducible assumption | with_reducible apply kept_ite | with_reducible apply kept_ite1 | with_reducible apply kept_ite2 | (with_reducible refine kept_forAll (fun _ _ _ => ?_) ?_) | (with_reducible refine kept_foldl (fun _ _ _ => ?_) ?_) | (with_reducible refine kept_foldl1 (fun _ _ _ => ?_) ?_) | with_reducible apply kept_tryRead | fail_if_no_progress (with_reducible apply kept_mk) | (with_reducible refine kept_of_eq (by with_reducible assumption) ?_) | intro _ _ | split | dsimp only

theorem kept_setProfile {s0 s : State} (n : Nat) (x : Profile) (h : Kept s0 s) : Kept s0 (setProfile s n x) := by
  unfold setProfile
  try dsimp only
  repeat' first | with_reducible assumption | with_reducible apply kept_ite | with_reducible apply kept_ite1 | with_reducible apply kept_ite2 | (with_reducible refine kept_forAll (fun _ _ _ => ?_) ?_) | (with_reducible refine kept_foldl (fun _ _ _ => ?_) ?_) | (with_reducible refine kept_foldl1 (fun _ _ _ => ?_) ?_) | with_reducible apply kept_wr | fail_if_no_progress (with_reducible apply kept_mk) | (with_reducible refine kept_of_eq (by with_reducible assumption) ?_) | intro _ _ | split | dsimp only

theorem kept_loopTarget {s0 s : State} (n : Nat) (h : Kept s0 s) : Kept s0 (loopTarget s n).1 := by
  unfold loopTarget
  try dsimp only
  repeat' first | with_reducible assumption | with_reducible apply kept_ite | with_reducible apply kept_ite1 | with_reducible apply kept_ite2 | (with_reducible refine kept_forAll (fun _ _ _ => ?_) ?_) | (with_reducible refine kept_foldl (fun _ _ _ => ?_) ?_) | (with_reducible refine kept_foldl1 (fun _ _ _ => ?_) ?_) | with_reducible apply kept_loopInput | with_reducible apply kept_setLoop | fail_if_no_progress (with_reducible apply kept_mk) | (with_reducible refine kept_of_eq (by with_reducible assumption) ?_) | intro _ _ | split | dsimp only

theorem kept_showDone {s0 s : State} (n : Nat) (t : Word) (h : Kept s0 s) : Kept s0 (showDone s n t) := by
  unfold showDone
  try dsimp only
  repeat' first | with_reducible assumption | with_reducible apply kept_ite | with_reducible apply kept_ite1 | with_reducible apply kept_ite2 | (with_reducible refine kept_forAll (fun _ _ _ => ?_) ?_) | (with_reducible refine kept_foldl (fun _ _ _ => ?_) ?_) | (with_reducible refine kept_foldl1 (fun _ _ _ => ?_) ?_) | with_reducible apply kept_setFld | fail_if_no_progress (with_reducible apply kept_mk) | (with_reducible refine kept_of_eq (by with_reducible assumption) ?_) | intro _ _ | split | dsimp only

theorem kept_profileSample {s0 s : State} (n : Nat) (ev : Option Word) (h : Kept s0 s) : Kept s0 (profileSample s n ev).1 := by
  unfold profileSample
  try dsimp only
  repeat' first | with_reducible assumption | with_reducible apply kept_ite | with_reducible apply kept_ite1 | with_reducible apply kept_ite2 | (with_reducible refine kept_forAll (fun _ _ _ => ?_) ?_) | (with_reducible refine kept_foldl (fun _ _ _ => ?_) ?_) | (with_reducible refine kept_foldl1 (fun _ _ _ => ?_) ?_) | with_reducible apply kept_loopTarget | with_reducible apply kept_showDone | with_reducible apply kept_step | with_reducible apply kept_setProfile | fail_if_no_progress (with_reducible apply kept_mk) | (with_reducible refine kept_of_eq (by with_reducible assumption) ?_) | intro _ _ | split | dsimp only

theorem kept_setSecState {s0 s : State} (n : Nat) (k : Nat) (j : Nat) (v : Int) (h : Kept s0 s) : Kept s0 (setSecState s n k j v) := by
  unfold setSecState
  try dsimp only
  repeat' first | with_reducible assumption | with_reducible apply kept_ite | with_reducible apply kept_ite1 | with_reducible apply kept_ite2 | (with_reducible refine kept_forAll (fun _ _ _ => ?_) ?_) | (with_reducible refine kept_foldl (fun _ _ _ => ?_) ?_) | (with_reducible refine kept_foldl1 (fun _ _ _ => ?_) ?_) | with_reducible apply kept_wr | with_reducible apply kept_loopFlag | fail_if_no_progress (with_reducible apply kept_mk) | (with_reducible refine kept_of_eq (by with_reducible assumption) ?_) | intro _ _ | split | dsimp only

theorem kept_sectionUpdate {s0 s : State} (n : Nat) (k : Nat) (x : Int) (f : Int) (h : Kept s0 s) : Kept s0 (sectionUpdate s n k x f) := by
  unfold sectionUpdate
  try dsimp only
  repeat' first | with_reducible assumption | with_reducible apply kept_ite | with_reducible apply kept_ite1 | with_reducible apply kept_ite2 | (with_reducible refine kept_forAll (fun _ _ _ => ?_) ?_) | (with_reducible refine kept_foldl (fun _ _ _ => ?_) ?_) | (with_reducible refine kept_foldl1 (fun _ _ _ => ?_) ?_) | with_reducible apply kept_setSecState | fail_if_no_progress (with_reducible apply kept_mk) | (with_reducible refine kept_of_eq (by with_reducible assumption) ?_) | intro _ _ | split | dsimp only

theorem kept_backCalc {s0 s : State} (n : Nat) (h : Kept s0 s) : Kept s0 (backCalc s n) := by
  unfold backCalc
  try dsimp only
  repeat' first | with_reducible assumption | with_reducible apply kept_ite | with_reducible apply kept_ite1 | with_reducible apply kept_ite2 | (with_reducible refine kept_forAll (fun _ _ _ => ?_) ?_) | (with_reducible refine kept_foldl (fun _ _ _ => ?_) ?_) | (with_reducible refine kept_foldl1 (fun _ _ _ => ?_) ?_) | with_reducible apply kept_setSecState | fail_if_no_progress (with_reducible apply kept_mk) | (with_reducible refine kept_of_eq (by with_reducible assumption) ?_) | intro _ _ | split | dsimp only

theorem kept_swapNow {s0 s : State} (n : Nat) (h : Kept s0 s) : Kept s0 (swapNow s n) := by
  unfold swapNow
  try dsimp only
  repeat' first | with_reducible assumption | with_reducible apply kept_ite | with_reducible apply kept_ite1 | with_reducible apply kept_ite2 | (with_reducible refine kept_forAll (fun _ _ _ => ?_) ?_) | (with_reducible refine kept_foldl (fun _ _ _ => ?_) ?_) | (with_reducible refine kept_foldl1 (fun _ _ _ => ?_) ?_) | with_reducible apply kept_setFld | with_reducible apply kept_loopFlag | fail_if_no_progress (with_reducible apply kept_mk) | (with_reducible refine kept_of_eq (by with_reducible assumption) ?_) | intro _ _ | split | dsimp only

theorem kept_requestSwap {s0 s : State} (n : Nat) (h : Kept s0 s) : Kept s0 (requestSwap s n) := by
  unfold requestSwap
  try dsimp only
  repeat' first | with_reducible assumption | with_reducible apply kept_ite | with_reducible apply kept_ite1 | with_reducible apply kept_ite2 | (with_reducible refine kept_forAll (fun _ _ _ => ?_) ?_) | (with_reducible refine kept_foldl (fun _ _ _ => ?_) ?_) | (with_reducible refine kept_foldl1 (fun _ _ _ => ?_) ?_) | with_reducible apply kept_swapNow | with_reducible apply kept_setFld | fail_if_no_progress (with_reducible apply kept_mk) | (with_reducible refine kept_of_eq (by with_reducible assumption) ?_) | intro _ _ | split | dsimp only

theorem kept_bankSwap {s0 s : State} (n : Nat) (h : Kept s0 s) : Kept s0 (bankSwap s n).1 := by
  unfold bankSwap
  try dsimp only
  repeat' first | with_reducible assumption | with_reducible apply kept_ite | with_reducible apply kept_ite1 | with_reducible apply kept_ite2 | (with_reducible refine kept_forAll (fun _ _ _ => ?_) ?_) | (with_reducible refine kept_foldl (fun _ _ _ => ?_) ?_) | (with_reducible refine kept_foldl1 (fun _ _ _ => ?_) ?_) | with_reducible apply kept_requestSwap | fail_if_no_progress (with_reducible apply kept_mk) | (with_reducible refine kept_of_eq (by with_reducible assumption) ?_) | intro _ _ | split | dsimp only

theorem kept_groupSwap {s0 s : State} (groups : Nat) (h : Kept s0 s) : Kept s0 (groupSwap s groups) := by
  unfold groupSwap
  try dsimp only
  repeat' first | with_reducible assumption | with_reducible apply kept_ite | with_reducible apply kept_ite1 | with_reducible apply kept_ite2 | (with_reducible refine kept_forAll (fun _ _ _ => ?_) ?_) | (with_reducible refine kept_foldl (fun _ _ _ => ?_) ?_) | (with_reducible refine kept_foldl1 (fun _ _ _ => ?_) ?_) | with_reducible apply kept_requestSwap | fail_if_no_progress (with_reducible apply kept_mk) | (with_reducible refine kept_of_eq (by with_reducible assumption) ?_) | intro _ _ | split | dsimp only

theorem kept_commitOutput {s0 s : State} (n : Nat) (o : LoopOut) (h : Kept s0 s) : Kept s0 (commitOutput s n o) := by
  unfold commitOutput
  try dsimp only
  repeat' first | with_reducible assumption | with_reducible apply kept_ite | with_reducible apply kept_ite1 | with_reducible apply kept_ite2 | (with_reducible refine kept_forAll (fun _ _ _ => ?_) ?_) | (with_reducible refine kept_foldl (fun _ _ _ => ?_) ?_) | (with_reducible refine kept_foldl1 (fun _ _ _ => ?_) ?_) | with_reducible apply kept_bumpSat | with_reducible apply kept_writePoint | with_reducible apply kept_loopFlag | with_reducible apply kept_deny | fail_if_no_progress (with_reducible apply kept_mk) | (with_reducible refine kept_of_eq (by with_reducible assumption) ?_) | intro _ _ | split | dsimp only

theorem kept_applyOutput {s0 s : State} (k : Nat) (n : Nat) (h : Kept s0 s) : Kept s0 (applyOutput k s n) := by
  unfold applyOutput
  try dsimp only
  repeat' first | with_reducible assumption | with_reducible apply kept_ite | with_reducible apply kept_ite1 | with_reducible apply kept_ite2 | (with_reducible refine kept_forAll (fun _ _ _ => ?_) ?_) | (with_reducible refine kept_foldl (fun _ _ _ => ?_) ?_) | (with_reducible refine kept_foldl1 (fun _ _ _ => ?_) ?_) | with_reducible apply kept_commitOutput | with_reducible apply kept_setLoop | with_reducible apply kept_wr | fail_if_no_progress (with_reducible apply kept_mk) | (with_reducible refine kept_of_eq (by with_reducible assumption) ?_) | intro _ _ | split | dsimp only

theorem kept_startLoop {s0 s : State} (n : Nat) (h : Kept s0 s) : Kept s0 (startLoop s n) := by
  unfold startLoop
  try dsimp only
  repeat' first | with_reducible assumption | with_reducible apply kept_ite | with_reducible apply kept_ite1 | with_reducible apply kept_ite2 | (with_reducible refine kept_forAll (fun _ _ _ => ?_) ?_) | (with_reducible refine kept_foldl (fun _ _ _ => ?_) ?_) | (with_reducible refine kept_foldl1 (fun _ _ _ => ?_) ?_) | with_reducible apply kept_setLoopSt | with_reducible apply kept_setLoop | with_reducible apply kept_step | with_reducible apply kept_loopInput | with_reducible apply kept_setProfile | with_reducible apply kept_refreshLoop | fail_if_no_progress (with_reducible apply kept_mk) | (with_reducible refine kept_of_eq (by with_reducible assumption) ?_) | intro _ _ | split | dsimp only

theorem kept_finishLoop {s0 s : State} (n : Nat) (h : Kept s0 s) : Kept s0 (finishLoop s n) := by
  unfold finishLoop
  try dsimp only
  repeat' first | with_reducible assumption | with_reducible apply kept_ite | with_reducible apply kept_ite1 | with_reducible apply kept_ite2 | (with_reducible refine kept_forAll (fun _ _ _ => ?_) ?_) | (with_reducible refine kept_foldl (fun _ _ _ => ?_) ?_) | (with_reducible refine kept_foldl1 (fun _ _ _ => ?_) ?_) | with_reducible apply kept_setFld | with_reducible apply kept_setLoopSt | with_reducible apply kept_startLoop | fail_if_no_progress (with_reducible apply kept_mk) | (with_reducible refine kept_of_eq (by with_reducible assumption) ?_) | intro _ _ | split | dsimp only

theorem kept_replaceStates {s0 s : State} (n : Nat) (h : Kept s0 s) : Kept s0 (replaceStates s n) := by
  unfold replaceStates
  try dsimp only
  repeat' first | with_reducible assumption | with_reducible apply kept_ite | with_reducible apply kept_ite1 | with_reducible apply kept_ite2 | (with_reducible refine kept_forAll (fun _ _ _ => ?_) ?_) | (with_reducible refine kept_foldl (fun _ _ _ => ?_) ?_) | (with_reducible refine kept_foldl1 (fun _ _ _ => ?_) ?_) | with_reducible apply kept_setSecState | fail_if_no_progress (with_reducible apply kept_mk) | (with_reducible refine kept_of_eq (by with_reducible assumption) ?_) | intro _ _ | split | dsimp only

theorem kept_beforeSample {s0 s : State} (n : Nat) (h : Kept s0 s) : Kept s0 (beforeSample s n).1 := by
  unfold beforeSample
  try dsimp only
  repeat' first | with_reducible assumption | with_reducible apply kept_ite | with_reducible apply kept_ite1 | with_reducible apply kept_ite2 | (with_reducible refine kept_forAll (fun _ _ _ => ?_) ?_) | (with_reducible refine kept_foldl (fun _ _ _ => ?_) ?_) | (with_reducible refine kept_foldl1 (fun _ _ _ => ?_) ?_) | with_reducible apply kept_replaceStates | with_reducible apply kept_setLoop | with_reducible apply kept_swapNow | with_reducible apply kept_backCalc | fail_if_no_progress (with_reducible apply kept_mk) | (with_reducible refine kept_of_eq (by with_reducible assumption) ?_) | intro _ _ | split | dsimp only

theorem kept_loopSetpoint {s0 s : State} (now : List (Nat × Int)) (n : Nat) (h : Kept s0 s) : Kept s0 (loopSetpoint s now n).1 := by
  unfold loopSetpoint
  try dsimp only
  repeat' first | with_reducible assumption | with_reducible apply kept_ite | with_reducible apply kept_ite1 | with_reducible apply kept_ite2 | (with_reducible refine kept_forAll (fun _ _ _ => ?_) ?_) | (with_reducible refine kept_foldl (fun _ _ _ => ?_) ?_) | (with_reducible refine kept_foldl1 (fun _ _ _ => ?_) ?_) | with_reducible apply kept_loopInput | fail_if_no_progress (with_reducible apply kept_mk) | (with_reducible refine kept_of_eq (by with_reducible assumption) ?_) | intro _ _ | split | dsimp only

theorem kept_selectOutput {s0 s : State} (n : Nat) (usable : Bool) (h : Kept s0 s) : Kept s0 (selectOutput s n usable).1 := by
  unfold selectOutput
  try dsimp only
  repeat' first | with_reducible assumption | with_reducible apply kept_ite | with_reducible apply kept_ite1 | with_reducible apply kept_ite2 | (with_reducible refine kept_forAll (fun _ _ _ => ?_) ?_) | (with_reducible refine kept_foldl (fun _ _ _ => ?_) ?_) | (with_reducible refine kept_foldl1 (fun _ _ _ => ?_) ?_) | with_reducible apply kept_loopInput | with_reducible apply kept_loopFlag | fail_if_no_progress (with_reducible apply kept_mk) | (with_reducible refine kept_of_eq (by with_reducible assumption) ?_) | intro _ _ | split | dsimp only

theorem kept_sampleLoop {s0 : State} {a : State × List (Nat × Int) × Nat} (k : Nat) (n : Nat) (h : Kept s0 a.1) : Kept s0 (sampleLoop k a n).1 := by
  unfold sampleLoop
  try dsimp only
  repeat' first | with_reducible assumption | with_reducible apply kept_ite | with_reducible apply kept_ite1 | with_reducible apply kept_ite2 | (with_reducible refine kept_forAll (fun _ _ _ => ?_) ?_) | (with_reducible refine kept_foldl (fun _ _ _ => ?_) ?_) | (with_reducible refine kept_foldl1 (fun _ _ _ => ?_) ?_) | with_reducible apply kept_beforeSample | with_reducible apply kept_loopInput | with_reducible apply kept_profileSample | with_reducible apply kept_loopSetpoint | with_reducible apply kept_wr | with_reducible apply kept_setFld | with_reducible apply kept_loopFlag | with_reducible apply kept_selectOutput | with_reducible apply kept_sectionUpdate | with_reducible apply kept_setLoop | with_reducible apply kept_setLoopSt | fail_if_no_progress (with_reducible apply kept_mk) | (with_reducible refine kept_of_eq (by with_reducible assumption) ?_) | intro _ _ | split | dsimp only

theorem kept_engineTick {s0 : State} {a : State × List (Nat × Int)} (k : Nat) (e : Nat) (h : Kept s0 a.1) : Kept s0 (engineTick k a e).1 := by
  unfold engineTick
  try dsimp only
  repeat' first | with_reducible assumption | with_reducible apply kept_ite | with_reducible apply kept_ite1 | with_reducible apply kept_ite2 | (with_reducible refine kept_forAll (fun _ _ _ => ?_) ?_) | (with_reducible refine kept_foldl (fun _ _ _ => ?_) ?_) | (with_reducible refine kept_foldl1 (fun _ _ _ => ?_) ?_) | with_reducible apply kept_sampleLoop | with_reducible apply kept_setFld | fail_if_no_progress (with_reducible apply kept_mk) | (with_reducible refine kept_of_eq (by with_reducible assumption) ?_) | intro _ _ | split | dsimp only

theorem kept_measureLoops {s0 s : State}  (h : Kept s0 s) : Kept s0 (measureLoops s) := by
  unfold measureLoops
  try dsimp only
  repeat' first | with_reducible assumption | with_reducible apply kept_ite | with_reducible apply kept_ite1 | with_reducible apply kept_ite2 | (with_reducible refine kept_forAll (fun _ _ _ => ?_) ?_) | (with_reducible refine kept_foldl (fun _ _ _ => ?_) ?_) | (with_reducible refine kept_foldl1 (fun _ _ _ => ?_) ?_) | with_reducible apply kept_setFld | fail_if_no_progress (with_reducible apply kept_mk) | (with_reducible refine kept_of_eq (by with_reducible assumption) ?_) | intro _ _ | split | dsimp only

theorem kept_engineTicks {s0 s : State} (k : Nat) (h : Kept s0 s) : Kept s0 (engineTicks s k) :=
  kept_foldl1 (p := (s, [])) (fun _ a hx => kept_engineTick k a hx) h

theorem kept_loopTick {s0 s : State} (k : Nat) (h : Kept s0 s) : Kept s0 (loopTick s k) := by
  unfold loopTick
  try dsimp only
  repeat' first | with_reducible assumption | with_reducible apply kept_ite | with_reducible apply kept_ite1 | with_reducible apply kept_ite2 | (with_reducible refine kept_forAll (fun _ _ _ => ?_) ?_) | (with_reducible refine kept_foldl (fun _ _ _ => ?_) ?_) | (with_reducible refine kept_foldl1 (fun _ _ _ => ?_) ?_) | with_reducible apply kept_refreshLoops | with_reducible apply kept_applyOutput | with_reducible apply kept_finishLoop | with_reducible apply kept_engineTicks | fail_if_no_progress (with_reducible apply kept_mk) | (with_reducible refine kept_of_eq (by with_reducible assumption) ?_) | intro _ _ | split | dsimp only

end Sys2Proof.Machine
end

