-- ==== Sys2Proof/Laws/KeptD.lean ====
section
/-! SUPPORT. What metering, queues, Ladle, fabric, CAN, modes, ports and stations keep. -/
namespace Sys2Proof.Machine
open Sys2Proof.Safety
set_option linter.unusedTactic false
set_option linter.unreachableTactic false

theorem kept_setVolt {s0 s : State} (v : Nat) (x : VoltCh) (h : Kept s0 s) : Kept s0 (setVolt s v x) := by
  unfold setVolt
  try dsimp only
  repeat' first | with_reducible assumption | with_reducible apply kept_ite | with_reducible apply kept_ite1 | with_reducible apply kept_ite2 | (with_reducible refine kept_forAll (fun _ _ _ => ?_) ?_) | (with_reducible refine kept_foldl (fun _ _ _ => ?_) ?_) | (with_reducible refine kept_foldl1 (fun _ _ _ => ?_) ?_) | fail_if_no_progress (with_reducible apply kept_mk) | (with_reducible refine kept_of_eq (by with_reducible assumption) ?_) | intro _ _ | split | dsimp only

theorem kept_setCurr {s0 s : State} (i : Nat) (x : CurrCh) (h : Kept s0 s) : Kept s0 (setCurr s i x) := by
  unfold setCurr
  try dsimp only
  repeat' first | with_reducible assumption | with_reducible apply kept_ite | with_reducible apply kept_ite1 | with_reducible apply kept_ite2 | (with_reducible refine kept_forAll (fun _ _ _ => ?_) ?_) | (with_reducible refine kept_foldl (fun _ _ _ => ?_) ?_) | (with_reducible refine kept_foldl1 (fun _ _ _ => ?_) ?_) | fail_if_no_progress (with_reducible apply kept_mk) | (with_reducible refine kept_of_eq (by with_reducible assumption) ?_) | intro _ _ | split | dsimp only

theorem kept_setCirc {s0 s : State} (c : Nat) (x : Circuit) (h : Kept s0 s) : Kept s0 (setCirc s c x) := by
  unfold setCirc
  try dsimp only
  repeat' first | with_reducible assumption | with_reducible apply kept_ite | with_reducible apply kept_ite1 | with_reducible apply kept_ite2 | (with_reducible refine kept_forAll (fun _ _ _ => ?_) ?_) | (with_reducible refine kept_foldl (fun _ _ _ => ?_) ?_) | (with_reducible refine kept_foldl1 (fun _ _ _ => ?_) ?_) | fail_if_no_progress (with_reducible apply kept_mk) | (with_reducible refine kept_of_eq (by with_reducible assumption) ?_) | intro _ _ | split | dsimp only

theorem kept_setPortMeter {s0 s : State} (p : Nat) (x : PortMeter) (h : Kept s0 s) : Kept s0 (setPortMeter s p x) := by
  unfold setPortMeter
  try dsimp only
  repeat' first | with_reducible assumption | with_reducible apply kept_ite | with_reducible apply kept_ite1 | with_reducible apply kept_ite2 | (with_reducible refine kept_forAll (fun _ _ _ => ?_) ?_) | (with_reducible refine kept_foldl (fun _ _ _ => ?_) ?_) | (with_reducible refine kept_foldl1 (fun _ _ _ => ?_) ?_) | fail_if_no_progress (with_reducible apply kept_mk) | (with_reducible refine kept_of_eq (by with_reducible assumption) ?_) | intro _ _ | split | dsimp only

theorem kept_setCircSt {s0 s : State} (c : Nat) (st : Nat) (h : Kept s0 s) : Kept s0 (setCircSt s c st) := by
  unfold setCircSt
  try dsimp only
  repeat' first | with_reducible assumption | with_reducible apply kept_ite | with_reducible apply kept_ite1 | with_reducible apply kept_ite2 | (with_reducible refine kept_forAll (fun _ _ _ => ?_) ?_) | (with_reducible refine kept_foldl (fun _ _ _ => ?_) ?_) | (with_reducible refine kept_foldl1 (fun _ _ _ => ?_) ?_) | with_reducible apply kept_setFld | fail_if_no_progress (with_reducible apply kept_mk) | (with_reducible refine kept_of_eq (by with_reducible assumption) ?_) | intro _ _ | split | dsimp only

theorem kept_setPmSt {s0 s : State} (p : Nat) (st : Nat) (h : Kept s0 s) : Kept s0 (setPmSt s p st) := by
  unfold setPmSt
  try dsimp only
  repeat' first | with_reducible assumption | with_reducible apply kept_ite | with_reducible apply kept_ite1 | with_reducible apply kept_ite2 | (with_reducible refine kept_forAll (fun _ _ _ => ?_) ?_) | (with_reducible refine kept_foldl (fun _ _ _ => ?_) ?_) | (with_reducible refine kept_foldl1 (fun _ _ _ => ?_) ?_) | with_reducible apply kept_setFld | fail_if_no_progress (with_reducible apply kept_mk) | (with_reducible refine kept_of_eq (by with_reducible assumption) ?_) | intro _ _ | split | dsimp only

theorem kept_refreshCircuit {s0 s : State} (c : Nat) (h : Kept s0 s) : Kept s0 (refreshCircuit s c) := by
  unfold refreshCircuit
  try dsimp only
  repeat' first | with_reducible assumption | with_reducible apply kept_ite | with_reducible apply kept_ite1 | with_reducible apply kept_ite2 | (with_reducible refine kept_forAll (fun _ _ _ => ?_) ?_) | (with_reducible refine kept_foldl (fun _ _ _ => ?_) ?_) | (with_reducible refine kept_foldl1 (fun _ _ _ => ?_) ?_) | with_reducible apply kept_setFld | with_reducible apply kept_raiseBit | with_reducible apply kept_setCirc | fail_if_no_progress (with_reducible apply kept_mk) | (with_reducible refine kept_of_eq (by with_reducible assumption) ?_) | intro _ _ | split | dsimp only

theorem kept_refreshPortMeter {s0 s : State} (p : Nat) (h : Kept s0 s) : Kept s0 (refreshPortMeter s p) := by
  unfold refreshPortMeter
  try dsimp only
  repeat' first | with_reducible assumption | with_reducible apply kept_ite | with_reducible apply kept_ite1 | with_reducible apply kept_ite2 | (with_reducible refine kept_forAll (fun _ _ _ => ?_) ?_) | (with_reducible refine kept_foldl (fun _ _ _ => ?_) ?_) | (with_reducible refine kept_foldl1 (fun _ _ _ => ?_) ?_) | with_reducible apply kept_setFld | fail_if_no_progress (with_reducible apply kept_mk) | (with_reducible refine kept_of_eq (by with_reducible assumption) ?_) | intro _ _ | split | dsimp only

theorem kept_refreshMeters {s0 s : State}  (h : Kept s0 s) : Kept s0 (refreshMeters s) := by
  unfold refreshMeters
  try dsimp only
  repeat' first | with_reducible assumption | with_reducible apply kept_ite | with_reducible apply kept_ite1 | with_reducible apply kept_ite2 | (with_reducible refine kept_forAll (fun _ _ _ => ?_) ?_) | (with_reducible refine kept_foldl (fun _ _ _ => ?_) ?_) | (with_reducible refine kept_foldl1 (fun _ _ _ => ?_) ?_) | with_reducible apply kept_refreshPortMeter | with_reducible apply kept_refreshCircuit | fail_if_no_progress (with_reducible apply kept_mk) | (with_reducible refine kept_of_eq (by with_reducible assumption) ?_) | intro _ _ | split | dsimp only

theorem kept_showEnergy {s0 s : State} (lo : Nat) (hi : Nat) (acc : Nat) (wraps : Nat) (h : Kept s0 s) : Kept s0 (showEnergy s lo hi acc wraps) := by
  unfold showEnergy
  try dsimp only
  repeat' first | with_reducible assumption | with_reducible apply kept_ite | with_reducible apply kept_ite1 | with_reducible apply kept_ite2 | (with_reducible refine kept_forAll (fun _ _ _ => ?_) ?_) | (with_reducible refine kept_foldl (fun _ _ _ => ?_) ?_) | (with_reducible refine kept_foldl1 (fun _ _ _ => ?_) ?_) | with_reducible apply kept_wr | fail_if_no_progress (with_reducible apply kept_mk) | (with_reducible refine kept_of_eq (by with_reducible assumption) ?_) | intro _ _ | split | dsimp only

theorem kept_addEnergy {s0 s : State} (c : Nat) (r : Nat) (n : Nat) (h : Kept s0 s) : Kept s0 (addEnergy s c r n) := by
  unfold addEnergy
  try dsimp only
  repeat' first | with_reducible assumption | with_reducible apply kept_ite | with_reducible apply kept_ite1 | with_reducible apply kept_ite2 | (with_reducible refine kept_forAll (fun _ _ _ => ?_) ?_) | (with_reducible refine kept_foldl (fun _ _ _ => ?_) ?_) | (with_reducible refine kept_foldl1 (fun _ _ _ => ?_) ?_) | with_reducible apply kept_setCirc | with_reducible apply kept_showEnergy | with_reducible apply kept_raiseBit | with_reducible apply kept_setFld | fail_if_no_progress (with_reducible apply kept_mk) | (with_reducible refine kept_of_eq (by with_reducible assumption) ?_) | intro _ _ | split | dsimp only

theorem kept_applyNets {s0 s : State} (c : Nat) (cp : Int) (cq : Int) (h : Kept s0 s) : Kept s0 (applyNets s c cp cq) := by
  unfold applyNets
  try dsimp only
  repeat' first | with_reducible assumption | with_reducible apply kept_ite | with_reducible apply kept_ite1 | with_reducible apply kept_ite2 | (with_reducible refine kept_forAll (fun _ _ _ => ?_) ?_) | (with_reducible refine kept_foldl (fun _ _ _ => ?_) ?_) | (with_reducible refine kept_foldl1 (fun _ _ _ => ?_) ?_) | with_reducible apply kept_addEnergy | fail_if_no_progress (with_reducible apply kept_mk) | (with_reducible refine kept_of_eq (by with_reducible assumption) ?_) | intro _ _ | split | dsimp only

theorem kept_publish {s0 s : State} (c : Nat) (j : Nat) (v : DWord) (q : Byte) (ts : DWord) (h : Kept s0 s) : Kept s0 (publish s c j v q ts) := by
  unfold publish
  try dsimp only
  repeat' first | with_reducible assumption | with_reducible apply kept_ite | with_reducible apply kept_ite1 | with_reducible apply kept_ite2 | (with_reducible refine kept_forAll (fun _ _ _ => ?_) ?_) | (with_reducible refine kept_foldl (fun _ _ _ => ?_) ?_) | (with_reducible refine kept_foldl1 (fun _ _ _ => ?_) ?_) | with_reducible apply kept_tryWrite | with_reducible apply kept_raiseBit | with_reducible apply kept_setFld | fail_if_no_progress (with_reducible apply kept_mk) | (with_reducible refine kept_of_eq (by with_reducible assumption) ?_) | intro _ _ | split | dsimp only

theorem kept_publishCircuit {s0 s : State} (c : Nat) (ts : DWord) (h : Kept s0 s) : Kept s0 (publishCircuit s c ts) := by
  unfold publishCircuit
  try dsimp only
  repeat' first | with_reducible assumption | with_reducible apply kept_ite | with_reducible apply kept_ite1 | with_reducible apply kept_ite2 | (with_reducible refine kept_forAll (fun _ _ _ => ?_) ?_) | (with_reducible refine kept_foldl (fun _ _ _ => ?_) ?_) | (with_reducible refine kept_foldl1 (fun _ _ _ => ?_) ?_) | with_reducible apply kept_wr | with_reducible apply kept_publish | with_reducible apply kept_setCirc | fail_if_no_progress (with_reducible apply kept_mk) | (with_reducible refine kept_of_eq (by with_reducible assumption) ?_) | intro _ _ | split | dsimp only

theorem kept_commitInterval {s0 s : State} (c : Nat) (b : IvlClose) (h : Kept s0 s) : Kept s0 (commitInterval s c b) := by
  unfold commitInterval
  try dsimp only
  repeat' first | with_reducible assumption | with_reducible apply kept_ite | with_reducible apply kept_ite1 | with_reducible apply kept_ite2 | (with_reducible refine kept_forAll (fun _ _ _ => ?_) ?_) | (with_reducible refine kept_foldl (fun _ _ _ => ?_) ?_) | (with_reducible refine kept_foldl1 (fun _ _ _ => ?_) ?_) | with_reducible apply kept_wr | with_reducible apply kept_publish | with_reducible apply kept_setCirc | fail_if_no_progress (with_reducible apply kept_mk) | (with_reducible refine kept_of_eq (by with_reducible assumption) ?_) | intro _ _ | split | dsimp only

theorem kept_closeCircuit {s0 s : State} (adj : Bool) (unal : Bool) (c : Nat) (h : Kept s0 s) : Kept s0 (closeCircuit adj unal s c) := by
  unfold closeCircuit
  try dsimp only
  repeat' first | with_reducible assumption | with_reducible apply kept_ite | with_reducible apply kept_ite1 | with_reducible apply kept_ite2 | (with_reducible refine kept_forAll (fun _ _ _ => ?_) ?_) | (with_reducible refine kept_foldl (fun _ _ _ => ?_) ?_) | (with_reducible refine kept_foldl1 (fun _ _ _ => ?_) ?_) | with_reducible apply kept_commitInterval | with_reducible apply kept_setCirc | fail_if_no_progress (with_reducible apply kept_mk) | (with_reducible refine kept_of_eq (by with_reducible assumption) ?_) | intro _ _ | split | dsimp only

theorem kept_writeRecord {s0 s : State} (r : MeterRec) (h : Kept s0 s) : Kept s0 (writeRecord s r) := by
  unfold writeRecord
  try dsimp only
  repeat' first | with_reducible assumption | with_reducible apply kept_ite | with_reducible apply kept_ite1 | with_reducible apply kept_ite2 | (with_reducible refine kept_forAll (fun _ _ _ => ?_) ?_) | (with_reducible refine kept_foldl (fun _ _ _ => ?_) ?_) | (with_reducible refine kept_foldl1 (fun _ _ _ => ?_) ?_) | fail_if_no_progress (with_reducible apply kept_mk) | (with_reducible refine kept_of_eq (by with_reducible assumption) ?_) | intro _ _ | split | dsimp only

theorem kept_saveRecord {s0 s : State}  (h : Kept s0 s) : Kept s0 (saveRecord s) := by
  unfold saveRecord
  try dsimp only
  repeat' first | with_reducible assumption | with_reducible apply kept_ite | with_reducible apply kept_ite1 | with_reducible apply kept_ite2 | (with_reducible refine kept_forAll (fun _ _ _ => ?_) ?_) | (with_reducible refine kept_foldl (fun _ _ _ => ?_) ?_) | (with_reducible refine kept_foldl1 (fun _ _ _ => ?_) ?_) | with_reducible apply kept_writeRecord | fail_if_no_progress (with_reducible apply kept_mk) | (with_reducible refine kept_of_eq (by with_reducible assumption) ?_) | intro _ _ | split | dsimp only

theorem kept_saveSnapshot {s0 s : State}  (h : Kept s0 s) : Kept s0 (saveSnapshot s) := by
  unfold saveSnapshot
  try dsimp only
  repeat' first | with_reducible assumption | with_reducible apply kept_ite | with_reducible apply kept_ite1 | with_reducible apply kept_ite2 | (with_reducible refine kept_forAll (fun _ _ _ => ?_) ?_) | (with_reducible refine kept_foldl (fun _ _ _ => ?_) ?_) | (with_reducible refine kept_foldl1 (fun _ _ _ => ?_) ?_) | with_reducible apply kept_writeRecord | fail_if_no_progress (with_reducible apply kept_mk) | (with_reducible refine kept_of_eq (by with_reducible assumption) ?_) | intro _ _ | split | dsimp only

theorem kept_closeIntervals {s0 s : State} (adj : Bool) (unal : Bool) (h : Kept s0 s) : Kept s0 (closeIntervals s adj unal) := by
  unfold closeIntervals
  try dsimp only
  repeat' first | with_reducible assumption | with_reducible apply kept_ite | with_reducible apply kept_ite1 | with_reducible apply kept_ite2 | (with_reducible refine kept_forAll (fun _ _ _ => ?_) ?_) | (with_reducible refine kept_foldl (fun _ _ _ => ?_) ?_) | (with_reducible refine kept_foldl1 (fun _ _ _ => ?_) ?_) | with_reducible apply kept_closeCircuit | with_reducible apply kept_saveRecord | with_reducible apply kept_raiseBit | fail_if_no_progress (with_reducible apply kept_mk) | (with_reducible refine kept_of_eq (by with_reducible assumption) ?_) | intro _ _ | split | dsimp only

theorem kept_intervalBoundary {s0 s : State}  (h : Kept s0 s) : Kept s0 (intervalBoundary s) := by
  unfold intervalBoundary
  try dsimp only
  repeat' first | with_reducible assumption | with_reducible apply kept_ite | with_reducible apply kept_ite1 | with_reducible apply kept_ite2 | (with_reducible refine kept_forAll (fun _ _ _ => ?_) ?_) | (with_reducible refine kept_foldl (fun _ _ _ => ?_) ?_) | (with_reducible refine kept_foldl1 (fun _ _ _ => ?_) ?_) | with_reducible apply kept_closeIntervals | with_reducible apply kept_advanceTo | fail_if_no_progress (with_reducible apply kept_mk) | (with_reducible refine kept_of_eq (by with_reducible assumption) ?_) | intro _ _ | split | dsimp only

theorem kept_setX32 {s0 s : State} (i : Nat) (b : Bool) (h : Kept s0 s) : Kept s0 (setX32 s i b) := by
  unfold setX32
  try dsimp only
  repeat' first | with_reducible assumption | with_reducible apply kept_ite | with_reducible apply kept_ite1 | with_reducible apply kept_ite2 | (with_reducible refine kept_forAll (fun _ _ _ => ?_) ?_) | (with_reducible refine kept_foldl (fun _ _ _ => ?_) ?_) | (with_reducible refine kept_foldl1 (fun _ _ _ => ?_) ?_) | with_reducible apply kept_setBit | fail_if_no_progress (with_reducible apply kept_mk) | (with_reducible refine kept_of_eq (by with_reducible assumption) ?_) | intro _ _ | split | dsimp only

theorem kept_pathAtCycle {s0 s : State} (i : Nat) (h : Kept s0 s) : Kept s0 (pathAtCycle s i) := by
  unfold pathAtCycle
  try dsimp only
  repeat' first | with_reducible assumption | with_reducible apply kept_ite | with_reducible apply kept_ite1 | with_reducible apply kept_ite2 | (with_reducible refine kept_forAll (fun _ _ _ => ?_) ?_) | (with_reducible refine kept_foldl (fun _ _ _ => ?_) ?_) | (with_reducible refine kept_foldl1 (fun _ _ _ => ?_) ?_) | with_reducible apply kept_setCurr | with_reducible apply kept_setX32 | fail_if_no_progress (with_reducible apply kept_mk) | (with_reducible refine kept_of_eq (by with_reducible assumption) ?_) | intro _ _ | split | dsimp only

theorem kept_freeChannels {s0 s : State} (c : Nat) (h : Kept s0 s) : Kept s0 (freeChannels s c) := by
  unfold freeChannels
  try dsimp only
  repeat' first | with_reducible assumption | with_reducible apply kept_ite | with_reducible apply kept_ite1 | with_reducible apply kept_ite2 | (with_reducible refine kept_forAll (fun _ _ _ => ?_) ?_) | (with_reducible refine kept_foldl (fun _ _ _ => ?_) ?_) | (with_reducible refine kept_foldl1 (fun _ _ _ => ?_) ?_) | with_reducible apply kept_setCurr | with_reducible apply kept_setX32 | fail_if_no_progress (with_reducible apply kept_mk) | (with_reducible refine kept_of_eq (by with_reducible assumption) ?_) | intro _ _ | split | dsimp only

theorem kept_startCircuit {s0 s : State} (c : Nat) (h : Kept s0 s) : Kept s0 (startCircuit s c) := by
  unfold startCircuit
  try dsimp only
  repeat' first | with_reducible assumption | with_reducible apply kept_ite | with_reducible apply kept_ite1 | with_reducible apply kept_ite2 | (with_reducible refine kept_forAll (fun _ _ _ => ?_) ?_) | (with_reducible refine kept_foldl (fun _ _ _ => ?_) ?_) | (with_reducible refine kept_foldl1 (fun _ _ _ => ?_) ?_) | with_reducible apply kept_freeChannels | with_reducible apply kept_setCircSt | with_reducible apply kept_setFld | with_reducible apply kept_refreshCircuit | with_reducible apply kept_setCirc | fail_if_no_progress (with_reducible apply kept_mk) | (with_reducible refine kept_of_eq (by with_reducible assumption) ?_) | intro _ _ | split | dsimp only

theorem kept_circuitOff {s0 s : State} (c : Nat) (h : Kept s0 s) : Kept s0 (circuitOff s c) := by
  unfold circuitOff
  try dsimp only
  repeat' first | with_reducible assumption | with_reducible apply kept_ite | with_reducible apply kept_ite1 | with_reducible apply kept_ite2 | (with_reducible refine kept_forAll (fun _ _ _ => ?_) ?_) | (with_reducible refine kept_foldl (fun _ _ _ => ?_) ?_) | (with_reducible refine kept_foldl1 (fun _ _ _ => ?_) ?_) | with_reducible apply kept_freeChannels | with_reducible apply kept_setCirc | with_reducible apply kept_setFld | with_reducible apply kept_setCircSt | with_reducible apply kept_saveRecord | with_reducible apply kept_startCircuit | fail_if_no_progress (with_reducible apply kept_mk) | (with_reducible refine kept_of_eq (by with_reducible assumption) ?_) | intro _ _ | split | dsimp only

theorem kept_logNets {s0 s : State} (c : Nat) (te : DWord) (cp : Int) (cq : Int) (h : Kept s0 s) : Kept s0 (logNets s c te cp cq) := by
  unfold logNets
  try dsimp only
  repeat' first | with_reducible assumption | with_reducible apply kept_ite | with_reducible apply kept_ite1 | with_reducible apply kept_ite2 | (with_reducible refine kept_forAll (fun _ _ _ => ?_) ?_) | (with_reducible refine kept_foldl (fun _ _ _ => ?_) ?_) | (with_reducible refine kept_foldl1 (fun _ _ _ => ?_) ?_) | fail_if_no_progress (with_reducible apply kept_mk) | (with_reducible refine kept_of_eq (by with_reducible assumption) ?_) | intro _ _ | split | dsimp only

theorem kept_finishCycle {s0 s : State} (c : Nat) (te : DWord) (isLine : Bool) (h : Kept s0 s) : Kept s0 (finishCycle s c te isLine) := by
  unfold finishCycle
  try dsimp only
  repeat' first | with_reducible assumption | with_reducible apply kept_ite | with_reducible apply kept_ite1 | with_reducible apply kept_ite2 | (with_reducible refine kept_forAll (fun _ _ _ => ?_) ?_) | (with_reducible refine kept_foldl (fun _ _ _ => ?_) ?_) | (with_reducible refine kept_foldl1 (fun _ _ _ => ?_) ?_) | with_reducible apply kept_commitInterval | with_reducible apply kept_logNets | with_reducible apply kept_applyNets | with_reducible apply kept_setCirc | with_reducible apply kept_pathAtCycle | with_reducible apply kept_publishCircuit | with_reducible apply kept_circuitOff | fail_if_no_progress (with_reducible apply kept_mk) | (with_reducible refine kept_of_eq (by with_reducible assumption) ?_) | intro _ _ | split | dsimp only

theorem kept_cycleEnd {s0 s : State} (te : DWord) (isLine : Bool) (c : Nat) (h : Kept s0 s) : Kept s0 (cycleEnd te isLine s c) := by
  unfold cycleEnd
  try dsimp only
  repeat' first | with_reducible assumption | with_reducible apply kept_ite | with_reducible apply kept_ite1 | with_reducible apply kept_ite2 | (with_reducible refine kept_forAll (fun _ _ _ => ?_) ?_) | (with_reducible refine kept_foldl (fun _ _ _ => ?_) ?_) | (with_reducible refine kept_foldl1 (fun _ _ _ => ?_) ?_) | with_reducible apply kept_finishCycle | with_reducible apply kept_circuitOff | with_reducible apply kept_setCirc | with_reducible apply kept_setCircSt | fail_if_no_progress (with_reducible apply kept_mk) | (with_reducible refine kept_of_eq (by with_reducible assumption) ?_) | intro _ _ | split | dsimp only

theorem kept_acceptCrossing {s0 s : State} (v : Nat) (t : DWord) (h : Kept s0 s) : Kept s0 (acceptCrossing s v t) := by
  unfold acceptCrossing
  try dsimp only
  repeat' first | with_reducible assumption | with_reducible apply kept_ite | with_reducible apply kept_ite1 | with_reducible apply kept_ite2 | (with_reducible refine kept_forAll (fun _ _ _ => ?_) ?_) | (with_reducible refine kept_foldl (fun _ _ _ => ?_) ?_) | (with_reducible refine kept_foldl1 (fun _ _ _ => ?_) ?_) | with_reducible apply kept_setVolt | with_reducible apply kept_setFld | with_reducible apply kept_cycleEnd | with_reducible apply kept_raiseBit | fail_if_no_progress (with_reducible apply kept_mk) | (with_reducible refine kept_of_eq (by with_reducible assumption) ?_) | intro _ _ | split | dsimp only

theorem kept_zcLost {s0 s : State} (v : Nat) (h : Kept s0 s) : Kept s0 (zcLost s v) := by
  unfold zcLost
  try dsimp only
  repeat' first | with_reducible assumption | with_reducible apply kept_ite | with_reducible apply kept_ite1 | with_reducible apply kept_ite2 | (with_reducible refine kept_forAll (fun _ _ _ => ?_) ?_) | (with_reducible refine kept_foldl (fun _ _ _ => ?_) ?_) | (with_reducible refine kept_foldl1 (fun _ _ _ => ?_) ?_) | with_reducible apply kept_advanceTo | with_reducible apply kept_raiseBit | with_reducible apply kept_setFld | with_reducible apply kept_finishCycle | fail_if_no_progress (with_reducible apply kept_mk) | (with_reducible refine kept_of_eq (by with_reducible assumption) ?_) | intro _ _ | split | dsimp only

theorem kept_fixedWindowEnd {s0 s : State}  (h : Kept s0 s) : Kept s0 (fixedWindowEnd s) := by
  unfold fixedWindowEnd
  try dsimp only
  repeat' first | with_reducible assumption | with_reducible apply kept_ite | with_reducible apply kept_ite1 | with_reducible apply kept_ite2 | (with_reducible refine kept_forAll (fun _ _ _ => ?_) ?_) | (with_reducible refine kept_foldl (fun _ _ _ => ?_) ?_) | (with_reducible refine kept_foldl1 (fun _ _ _ => ?_) ?_) | with_reducible apply kept_advanceTo | with_reducible apply kept_cycleEnd | fail_if_no_progress (with_reducible apply kept_mk) | (with_reducible refine kept_of_eq (by with_reducible assumption) ?_) | intro _ _ | split | dsimp only

theorem kept_taint {s0 s : State} (p : Nat) (h : Kept s0 s) : Kept s0 (taint s p) := by
  unfold taint
  try dsimp only
  repeat' first | with_reducible assumption | with_reducible apply kept_ite | with_reducible apply kept_ite1 | with_reducible apply kept_ite2 | (with_reducible refine kept_forAll (fun _ _ _ => ?_) ?_) | (with_reducible refine kept_foldl (fun _ _ _ => ?_) ?_) | (with_reducible refine kept_foldl1 (fun _ _ _ => ?_) ?_) | fail_if_no_progress (with_reducible apply kept_mk) | (with_reducible refine kept_of_eq (by with_reducible assumption) ?_) | intro _ _ | split | dsimp only

theorem kept_noteClip {s0 s : State} (uses : Nat → Nat → Bool) (h : Kept s0 s) : Kept s0 (noteClip s uses) := by
  unfold noteClip
  try dsimp only
  repeat' first | with_reducible assumption | with_reducible apply kept_ite | with_reducible apply kept_ite1 | with_reducible apply kept_ite2 | (with_reducible refine kept_forAll (fun _ _ _ => ?_) ?_) | (with_reducible refine kept_foldl (fun _ _ _ => ?_) ?_) | (with_reducible refine kept_foldl1 (fun _ _ _ => ?_) ?_) | with_reducible apply kept_setCirc | with_reducible apply kept_setFld | fail_if_no_progress (with_reducible apply kept_mk) | (with_reducible refine kept_of_eq (by with_reducible assumption) ?_) | intro _ _ | split | dsimp only

theorem kept_currentSample {s0 s : State} (x : MeterSample) (i : Nat) (h : Kept s0 s) : Kept s0 (currentSample x s i) := by
  unfold currentSample
  try dsimp only
  repeat' first | with_reducible assumption | with_reducible apply kept_ite | with_reducible apply kept_ite1 | with_reducible apply kept_ite2 | (with_reducible refine kept_forAll (fun _ _ _ => ?_) ?_) | (with_reducible refine kept_foldl (fun _ _ _ => ?_) ?_) | (with_reducible refine kept_foldl1 (fun _ _ _ => ?_) ?_) | with_reducible apply kept_noteClip | with_reducible apply kept_taint | with_reducible apply kept_raiseBit | with_reducible apply kept_setBit | with_reducible apply kept_setCurr | with_reducible apply kept_setX32 | fail_if_no_progress (with_reducible apply kept_mk) | (with_reducible refine kept_of_eq (by with_reducible assumption) ?_) | intro _ _ | split | dsimp only

theorem kept_voltageSample {s0 s : State} (x : MeterSample) (t : DWord) (v : Nat) (h : Kept s0 s) : Kept s0 (voltageSample x t s v) := by
  unfold voltageSample
  try dsimp only
  repeat' first | with_reducible assumption | with_reducible apply kept_ite | with_reducible apply kept_ite1 | with_reducible apply kept_ite2 | (with_reducible refine kept_forAll (fun _ _ _ => ?_) ?_) | (with_reducible refine kept_foldl (fun _ _ _ => ?_) ?_) | (with_reducible refine kept_foldl1 (fun _ _ _ => ?_) ?_) | with_reducible apply kept_noteClip | with_reducible apply kept_taint | with_reducible apply kept_raiseBit | with_reducible apply kept_setBit | with_reducible apply kept_setVolt | with_reducible apply kept_acceptCrossing | fail_if_no_progress (with_reducible apply kept_mk) | (with_reducible refine kept_of_eq (by with_reducible assumption) ?_) | intro _ _ | split | dsimp only

theorem kept_quadrature {s0 s : State} (v : Nat) (period : Nat) (h : Kept s0 s) : Kept s0 (quadrature s v period).1 := by
  unfold quadrature
  try dsimp only
  repeat' first | with_reducible assumption | with_reducible apply kept_ite | with_reducible apply kept_ite1 | with_reducible apply kept_ite2 | (with_reducible refine kept_forAll (fun _ _ _ => ?_) ?_) | (with_reducible refine kept_foldl (fun _ _ _ => ?_) ?_) | (with_reducible refine kept_foldl1 (fun _ _ _ => ?_) ?_) | with_reducible apply kept_takeFree | fail_if_no_progress (with_reducible apply kept_mk) | (with_reducible refine kept_of_eq (by with_reducible assumption) ?_) | intro _ _ | split | dsimp only

theorem kept_elementSample {s0 s : State} (x : MeterSample) (c : Nat) (k : Nat) (h : Kept s0 s) : Kept s0 (elementSample x c s k) := by
  unfold elementSample
  try dsimp only
  repeat' first | with_reducible assumption | with_reducible apply kept_ite | with_reducible apply kept_ite1 | with_reducible apply kept_ite2 | (with_reducible refine kept_forAll (fun _ _ _ => ?_) ?_) | (with_reducible refine kept_foldl (fun _ _ _ => ?_) ?_) | (with_reducible refine kept_foldl1 (fun _ _ _ => ?_) ?_) | with_reducible apply kept_quadrature | with_reducible apply kept_setCirc | fail_if_no_progress (with_reducible apply kept_mk) | (with_reducible refine kept_of_eq (by with_reducible assumption) ?_) | intro _ _ | split | dsimp only

theorem kept_circuitSample {s0 s : State} (x : MeterSample) (c : Nat) (h : Kept s0 s) : Kept s0 (circuitSample x s c) := by
  unfold circuitSample
  try dsimp only
  repeat' first | with_reducible assumption | with_reducible apply kept_ite | with_reducible apply kept_ite1 | with_reducible apply kept_ite2 | (with_reducible refine kept_forAll (fun _ _ _ => ?_) ?_) | (with_reducible refine kept_foldl (fun _ _ _ => ?_) ?_) | (with_reducible refine kept_foldl1 (fun _ _ _ => ?_) ?_) | with_reducible apply kept_elementSample | fail_if_no_progress (with_reducible apply kept_mk) | (with_reducible refine kept_of_eq (by with_reducible assumption) ?_) | intro _ _ | split | dsimp only

theorem kept_portSample {s0 s : State} (x : MeterSample) (p : Nat) (h : Kept s0 s) : Kept s0 (portSample x s p) := by
  unfold portSample
  try dsimp only
  repeat' first | with_reducible assumption | with_reducible apply kept_ite | with_reducible apply kept_ite1 | with_reducible apply kept_ite2 | (with_reducible refine kept_forAll (fun _ _ _ => ?_) ?_) | (with_reducible refine kept_foldl (fun _ _ _ => ?_) ?_) | (with_reducible refine kept_foldl1 (fun _ _ _ => ?_) ?_) | with_reducible apply kept_setPortMeter | fail_if_no_progress (with_reducible apply kept_mk) | (with_reducible refine kept_of_eq (by with_reducible assumption) ?_) | intro _ _ | split | dsimp only

theorem kept_meterSnapshot {s0 s : State}  (h : Kept s0 s) : Kept s0 (meterSnapshot s) := by
  unfold meterSnapshot
  try dsimp only
  repeat' first | with_reducible assumption | with_reducible apply kept_ite | with_reducible apply kept_ite1 | with_reducible apply kept_ite2 | (with_reducible refine kept_forAll (fun _ _ _ => ?_) ?_) | (with_reducible refine kept_foldl (fun _ _ _ => ?_) ?_) | (with_reducible refine kept_foldl1 (fun _ _ _ => ?_) ?_) | with_reducible apply kept_finishCycle | with_reducible apply kept_taint | fail_if_no_progress (with_reducible apply kept_mk) | (with_reducible refine kept_of_eq (by with_reducible assumption) ?_) | intro _ _ | split | dsimp only

theorem kept_powerFail {s0 s : State}  (h : Kept s0 s) : Kept s0 (powerFail s) := by
  unfold powerFail
  try dsimp only
  repeat' first | with_reducible assumption | with_reducible apply kept_ite | with_reducible apply kept_ite1 | with_reducible apply kept_ite2 | (with_reducible refine kept_forAll (fun _ _ _ => ?_) ?_) | (with_reducible refine kept_foldl (fun _ _ _ => ?_) ?_) | (with_reducible refine kept_foldl1 (fun _ _ _ => ?_) ?_) | with_reducible apply kept_meterSnapshot | with_reducible apply kept_exchangeAbandon | with_reducible apply kept_scanPowerFail | with_reducible apply kept_discardRequest | with_reducible apply kept_evtLevel | fail_if_no_progress (with_reducible apply kept_mk) | (with_reducible refine kept_of_eq (by with_reducible assumption) ?_) | intro _ _ | split | dsimp only

theorem kept_sagHalf {s0 s : State} (v : Nat) (h : Kept s0 s) : Kept s0 (sagHalf s v) := by
  unfold sagHalf
  try dsimp only
  repeat' first | with_reducible assumption | with_reducible apply kept_ite | with_reducible apply kept_ite1 | with_reducible apply kept_ite2 | (with_reducible refine kept_forAll (fun _ _ _ => ?_) ?_) | (with_reducible refine kept_foldl (fun _ _ _ => ?_) ?_) | (with_reducible refine kept_foldl1 (fun _ _ _ => ?_) ?_) | with_reducible apply kept_setVolt | with_reducible apply kept_setFld | with_reducible apply kept_powerFail | with_reducible apply kept_raiseBit | fail_if_no_progress (with_reducible apply kept_mk) | (with_reducible refine kept_of_eq (by with_reducible assumption) ?_) | intro _ _ | split | dsimp only

theorem kept_sagSample {s0 s : State} (x : MeterSample) (t : DWord) (h : Kept s0 s) : Kept s0 (sagSample x t s) := by
  unfold sagSample
  try dsimp only
  repeat' first | with_reducible assumption | with_reducible apply kept_ite | with_reducible apply kept_ite1 | with_reducible apply kept_ite2 | (with_reducible refine kept_forAll (fun _ _ _ => ?_) ?_) | (with_reducible refine kept_foldl (fun _ _ _ => ?_) ?_) | (with_reducible refine kept_foldl1 (fun _ _ _ => ?_) ?_) | with_reducible apply kept_sagHalf | with_reducible apply kept_setVolt | fail_if_no_progress (with_reducible apply kept_mk) | (with_reducible refine kept_of_eq (by with_reducible assumption) ?_) | intro _ _ | split | dsimp only

theorem kept_meteringSample {s0 s : State} (x : MeterSample) (h : Kept s0 s) : Kept s0 (meteringSample s x) := by
  unfold meteringSample
  try dsimp only
  repeat' first | with_reducible assumption | with_reducible apply kept_ite | with_reducible apply kept_ite1 | with_reducible apply kept_ite2 | (with_reducible refine kept_forAll (fun _ _ _ => ?_) ?_) | (with_reducible refine kept_foldl (fun _ _ _ => ?_) ?_) | (with_reducible refine kept_foldl1 (fun _ _ _ => ?_) ?_) | with_reducible apply kept_advanceTo | with_reducible apply kept_currentSample | with_reducible apply kept_voltageSample | with_reducible apply kept_sagSample | with_reducible apply kept_circuitSample | with_reducible apply kept_portSample | fail_if_no_progress (with_reducible apply kept_mk) | (with_reducible refine kept_of_eq (by with_reducible assumption) ?_) | intro _ _ | split | dsimp only

theorem kept_addPortEnergy {s0 s : State} (p : Nat) (r : Nat) (n : Nat) (h : Kept s0 s) : Kept s0 (addPortEnergy s p r n) := by
  unfold addPortEnergy
  try dsimp only
  repeat' first | with_reducible assumption | with_reducible apply kept_ite | with_reducible apply kept_ite1 | with_reducible apply kept_ite2 | (with_reducible refine kept_forAll (fun _ _ _ => ?_) ?_) | (with_reducible refine kept_foldl (fun _ _ _ => ?_) ?_) | (with_reducible refine kept_foldl1 (fun _ _ _ => ?_) ?_) | with_reducible apply kept_setPortMeter | with_reducible apply kept_showEnergy | with_reducible apply kept_raiseBit | with_reducible apply kept_setFld | fail_if_no_progress (with_reducible apply kept_mk) | (with_reducible refine kept_of_eq (by with_reducible assumption) ?_) | intro _ _ | split | dsimp only

theorem kept_publishPort {s0 s : State} (p : Nat) (j : Nat) (v : DWord) (q : Byte) (h : Kept s0 s) : Kept s0 (publishPort s p j v q) := by
  unfold publishPort
  try dsimp only
  repeat' first | with_reducible assumption | with_reducible apply kept_ite | with_reducible apply kept_ite1 | with_reducible apply kept_ite2 | (with_reducible refine kept_forAll (fun _ _ _ => ?_) ?_) | (with_reducible refine kept_foldl (fun _ _ _ => ?_) ?_) | (with_reducible refine kept_foldl1 (fun _ _ _ => ?_) ?_) | with_reducible apply kept_tryWrite | fail_if_no_progress (with_reducible apply kept_mk) | (with_reducible refine kept_of_eq (by with_reducible assumption) ?_) | intro _ _ | split | dsimp only

theorem kept_publishPortMeter {s0 s : State} (p : Nat) (h : Kept s0 s) : Kept s0 (publishPortMeter s p) := by
  unfold publishPortMeter
  try dsimp only
  repeat' first | with_reducible assumption | with_reducible apply kept_ite | with_reducible apply kept_ite1 | with_reducible apply kept_ite2 | (with_reducible refine kept_forAll (fun _ _ _ => ?_) ?_) | (with_reducible refine kept_foldl (fun _ _ _ => ?_) ?_) | (with_reducible refine kept_foldl1 (fun _ _ _ => ?_) ?_) | with_reducible apply kept_publishPort | with_reducible apply kept_setPortMeter | fail_if_no_progress (with_reducible apply kept_mk) | (with_reducible refine kept_of_eq (by with_reducible assumption) ?_) | intro _ _ | split | dsimp only

theorem kept_portTick {s0 s : State} (p : Nat) (h : Kept s0 s) : Kept s0 (portTick s p) := by
  unfold portTick
  try dsimp only
  repeat' first | with_reducible assumption | with_reducible apply kept_ite | with_reducible apply kept_ite1 | with_reducible apply kept_ite2 | (with_reducible refine kept_forAll (fun _ _ _ => ?_) ?_) | (with_reducible refine kept_foldl (fun _ _ _ => ?_) ?_) | (with_reducible refine kept_foldl1 (fun _ _ _ => ?_) ?_) | with_reducible apply kept_setFld | with_reducible apply kept_addPortEnergy | with_reducible apply kept_bumpSat | with_reducible apply kept_wr | with_reducible apply kept_setPortMeter | with_reducible apply kept_publishPortMeter | fail_if_no_progress (with_reducible apply kept_mk) | (with_reducible refine kept_of_eq (by with_reducible assumption) ?_) | intro _ _ | split | dsimp only

theorem kept_portEstimate {s0 s : State} (p : Nat) (h : Kept s0 s) : Kept s0 (portEstimate s p) := by
  unfold portEstimate
  try dsimp only
  repeat' first | with_reducible assumption | with_reducible apply kept_ite | with_reducible apply kept_ite1 | with_reducible apply kept_ite2 | (with_reducible refine kept_forAll (fun _ _ _ => ?_) ?_) | (with_reducible refine kept_foldl (fun _ _ _ => ?_) ?_) | (with_reducible refine kept_foldl1 (fun _ _ _ => ?_) ?_) | with_reducible apply kept_takeFree | with_reducible apply kept_setPortMeter | with_reducible apply kept_setFld | with_reducible apply kept_raiseBit | fail_if_no_progress (with_reducible apply kept_mk) | (with_reducible refine kept_of_eq (by with_reducible assumption) ?_) | intro _ _ | split | dsimp only

theorem kept_portMeterPowerUp {s0 s : State} (p : Nat) (h : Kept s0 s) : Kept s0 (portMeterPowerUp s p) := by
  unfold portMeterPowerUp
  try dsimp only
  repeat' first | with_reducible assumption | with_reducible apply kept_ite | with_reducible apply kept_ite1 | with_reducible apply kept_ite2 | (with_reducible refine kept_forAll (fun _ _ _ => ?_) ?_) | (with_reducible refine kept_foldl (fun _ _ _ => ?_) ?_) | (with_reducible refine kept_foldl1 (fun _ _ _ => ?_) ?_) | with_reducible apply kept_wr | with_reducible apply kept_setPortMeter | fail_if_no_progress (with_reducible apply kept_mk) | (with_reducible refine kept_of_eq (by with_reducible assumption) ?_) | intro _ _ | split | dsimp only

theorem kept_countLost {s0 s : State} (d : Nat) (h : Kept s0 s) : Kept s0 (countLost s d) := by
  unfold countLost
  try dsimp only
  repeat' first | with_reducible assumption | with_reducible apply kept_ite | with_reducible apply kept_ite1 | with_reducible apply kept_ite2 | (with_reducible refine kept_forAll (fun _ _ _ => ?_) ?_) | (with_reducible refine kept_foldl (fun _ _ _ => ?_) ?_) | (with_reducible refine kept_foldl1 (fun _ _ _ => ?_) ?_) | with_reducible apply kept_bumpSat | fail_if_no_progress (with_reducible apply kept_mk) | (with_reducible refine kept_of_eq (by with_reducible assumption) ?_) | intro _ _ | split | dsimp only

theorem kept_meterTick {s0 s : State} (k : Nat) (h : Kept s0 s) : Kept s0 (meterTick s k) := by
  unfold meterTick
  try dsimp only
  repeat' first | with_reducible assumption | with_reducible apply kept_ite | with_reducible apply kept_ite1 | with_reducible apply kept_ite2 | (with_reducible refine kept_forAll (fun _ _ _ => ?_) ?_) | (with_reducible refine kept_foldl (fun _ _ _ => ?_) ?_) | (with_reducible refine kept_foldl1 (fun _ _ _ => ?_) ?_) | with_reducible apply kept_portTick | with_reducible apply kept_countLost | with_reducible apply kept_takeFree | with_reducible apply kept_setFld | fail_if_no_progress (with_reducible apply kept_mk) | (with_reducible refine kept_of_eq (by with_reducible assumption) ?_) | intro _ _ | split | dsimp only

theorem kept_calibratePath {s0 s : State} (ts : List Int) (p : Nat) (h : Kept s0 s) : Kept s0 (calibratePath ts s p) := by
  unfold calibratePath
  try dsimp only
  repeat' first | with_reducible assumption | with_reducible apply kept_ite | with_reducible apply kept_ite1 | with_reducible apply kept_ite2 | (with_reducible refine kept_forAll (fun _ _ _ => ?_) ?_) | (with_reducible refine kept_foldl (fun _ _ _ => ?_) ?_) | (with_reducible refine kept_foldl1 (fun _ _ _ => ?_) ?_) | with_reducible apply kept_setFld | with_reducible apply kept_raiseBit | fail_if_no_progress (with_reducible apply kept_mk) | (with_reducible refine kept_of_eq (by with_reducible assumption) ?_) | intro _ _ | split | dsimp only

theorem kept_calibrationWindowEnd {s0 s : State} (ts : List Int) (h : Kept s0 s) : Kept s0 (calibrationWindowEnd s ts) := by
  unfold calibrationWindowEnd
  try dsimp only
  repeat' first | with_reducible assumption | with_reducible apply kept_ite | with_reducible apply kept_ite1 | with_reducible apply kept_ite2 | (with_reducible refine kept_forAll (fun _ _ _ => ?_) ?_) | (with_reducible refine kept_foldl (fun _ _ _ => ?_) ?_) | (with_reducible refine kept_foldl1 (fun _ _ _ => ?_) ?_) | with_reducible apply kept_calibratePath | with_reducible apply kept_bumpFld | with_reducible apply kept_raiseBit | fail_if_no_progress (with_reducible apply kept_mk) | (with_reducible refine kept_of_eq (by with_reducible assumption) ?_) | intro _ _ | split | dsimp only

theorem kept_correctionStep {s0 s : State}  (h : Kept s0 s) : Kept s0 (correctionStep s) := by
  unfold correctionStep
  try dsimp only
  repeat' first | with_reducible assumption | with_reducible apply kept_ite | with_reducible apply kept_ite1 | with_reducible apply kept_ite2 | (with_reducible refine kept_forAll (fun _ _ _ => ?_) ?_) | (with_reducible refine kept_foldl (fun _ _ _ => ?_) ?_) | (with_reducible refine kept_foldl1 (fun _ _ _ => ?_) ?_) | with_reducible apply kept_setFld | fail_if_no_progress (with_reducible apply kept_mk) | (with_reducible refine kept_of_eq (by with_reducible assumption) ?_) | intro _ _ | split | dsimp only

theorem kept_circuitZero {s0 s : State} (c : Nat) (h : Kept s0 s) : Kept s0 (circuitZero s c).1 := by
  unfold circuitZero
  try dsimp only
  repeat' first | with_reducible assumption | with_reducible apply kept_ite | with_reducible apply kept_ite1 | with_reducible apply kept_ite2 | (with_reducible refine kept_forAll (fun _ _ _ => ?_) ?_) | (with_reducible refine kept_foldl (fun _ _ _ => ?_) ?_) | (with_reducible refine kept_foldl1 (fun _ _ _ => ?_) ?_) | with_reducible apply kept_setCirc | with_reducible apply kept_showEnergy | with_reducible apply kept_saveRecord | with_reducible apply kept_wr | fail_if_no_progress (with_reducible apply kept_mk) | (with_reducible refine kept_of_eq (by with_reducible assumption) ?_) | intro _ _ | split | dsimp only

theorem kept_circuitClrMax {s0 s : State} (c : Nat) (h : Kept s0 s) : Kept s0 (circuitClrMax s c).1 := by
  unfold circuitClrMax
  try dsimp only
  repeat' first | with_reducible assumption | with_reducible apply kept_ite | with_reducible apply kept_ite1 | with_reducible apply kept_ite2 | (with_reducible refine kept_forAll (fun _ _ _ => ?_) ?_) | (with_reducible refine kept_foldl (fun _ _ _ => ?_) ?_) | (with_reducible refine kept_foldl1 (fun _ _ _ => ?_) ?_) | with_reducible apply kept_wr | fail_if_no_progress (with_reducible apply kept_mk) | (with_reducible refine kept_of_eq (by with_reducible assumption) ?_) | intro _ _ | split | dsimp only

theorem kept_restoreCircuit {s0 s : State} (r : MeterRec) (c : Nat) (h : Kept s0 s) : Kept s0 (restoreCircuit r s c) := by
  unfold restoreCircuit
  try dsimp only
  repeat' first | with_reducible assumption | with_reducible apply kept_ite | with_reducible apply kept_ite1 | with_reducible apply kept_ite2 | (with_reducible refine kept_forAll (fun _ _ _ => ?_) ?_) | (with_reducible refine kept_foldl (fun _ _ _ => ?_) ?_) | (with_reducible refine kept_foldl1 (fun _ _ _ => ?_) ?_) | with_reducible apply kept_setCirc | with_reducible apply kept_showEnergy | with_reducible apply kept_wr | fail_if_no_progress (with_reducible apply kept_mk) | (with_reducible refine kept_of_eq (by with_reducible assumption) ?_) | intro _ _ | split | dsimp only

theorem kept_restorePort {s0 s : State} (r : MeterRec) (p : Nat) (h : Kept s0 s) : Kept s0 (restorePort r s p) := by
  unfold restorePort
  try dsimp only
  repeat' first | with_reducible assumption | with_reducible apply kept_ite | with_reducible apply kept_ite1 | with_reducible apply kept_ite2 | (with_reducible refine kept_forAll (fun _ _ _ => ?_) ?_) | (with_reducible refine kept_foldl (fun _ _ _ => ?_) ?_) | (with_reducible refine kept_foldl1 (fun _ _ _ => ?_) ?_) | with_reducible apply kept_setPortMeter | with_reducible apply kept_showEnergy | with_reducible apply kept_wr | fail_if_no_progress (with_reducible apply kept_mk) | (with_reducible refine kept_of_eq (by with_reducible assumption) ?_) | intro _ _ | split | dsimp only

theorem kept_restoreMeters {s0 s : State} (gap : Nat) (h : Kept s0 s) : Kept s0 (restoreMeters s gap) := by
  unfold restoreMeters
  try dsimp only
  repeat' first | with_reducible assumption | with_reducible apply kept_ite | with_reducible apply kept_ite1 | with_reducible apply kept_ite2 | (with_reducible refine kept_forAll (fun _ _ _ => ?_) ?_) | (with_reducible refine kept_foldl (fun _ _ _ => ?_) ?_) | (with_reducible refine kept_foldl1 (fun _ _ _ => ?_) ?_) | with_reducible apply kept_wr | with_reducible apply kept_restorePort | with_reducible apply kept_restoreCircuit | with_reducible apply kept_setFld | fail_if_no_progress (with_reducible apply kept_mk) | (with_reducible refine kept_of_eq (by with_reducible assumption) ?_) | intro _ _ | split | dsimp only

theorem kept_setQueue {s0 s : State} (q : Nat) (x : Queue) (h : Kept s0 s) : Kept s0 (setQueue s q x) := by
  unfold setQueue
  try dsimp only
  repeat' first | with_reducible assumption | with_reducible apply kept_ite | with_reducible apply kept_ite1 | with_reducible apply kept_ite2 | (with_reducible refine kept_forAll (fun _ _ _ => ?_) ?_) | (with_reducible refine kept_foldl (fun _ _ _ => ?_) ?_) | (with_reducible refine kept_foldl1 (fun _ _ _ => ?_) ?_) | fail_if_no_progress (with_reducible apply kept_mk) | (with_reducible refine kept_of_eq (by with_reducible assumption) ?_) | intro _ _ | split | dsimp only

theorem kept_setRd {s0 s : State} (q : Nat) (n : Nat) (h : Kept s0 s) : Kept s0 (setRd s q n) := by
  unfold setRd
  try dsimp only
  repeat' first | with_reducible assumption | with_reducible apply kept_ite | with_reducible apply kept_ite1 | with_reducible apply kept_ite2 | (with_reducible refine kept_forAll (fun _ _ _ => ?_) ?_) | (with_reducible refine kept_foldl (fun _ _ _ => ?_) ?_) | (with_reducible refine kept_foldl1 (fun _ _ _ => ?_) ?_) | with_reducible apply kept_setQueue | with_reducible apply kept_setFld | fail_if_no_progress (with_reducible apply kept_mk) | (with_reducible refine kept_of_eq (by with_reducible assumption) ?_) | intro _ _ | split | dsimp only

theorem kept_setWr {s0 s : State} (q : Nat) (n : Nat) (h : Kept s0 s) : Kept s0 (setWr s q n) := by
  unfold setWr
  try dsimp only
  repeat' first | with_reducible assumption | with_reducible apply kept_ite | with_reducible apply kept_ite1 | with_reducible apply kept_ite2 | (with_reducible refine kept_forAll (fun _ _ _ => ?_) ?_) | (with_reducible refine kept_foldl (fun _ _ _ => ?_) ?_) | (with_reducible refine kept_foldl1 (fun _ _ _ => ?_) ?_) | with_reducible apply kept_setQueue | with_reducible apply kept_setFld | fail_if_no_progress (with_reducible apply kept_mk) | (with_reducible refine kept_of_eq (by with_reducible assumption) ?_) | intro _ _ | split | dsimp only

theorem kept_emptyQueue {s0 s : State} (q : Nat) (h : Kept s0 s) : Kept s0 (emptyQueue s q) := by
  unfold emptyQueue
  try dsimp only
  repeat' first | with_reducible assumption | with_reducible apply kept_ite | with_reducible apply kept_ite1 | with_reducible apply kept_ite2 | (with_reducible refine kept_forAll (fun _ _ _ => ?_) ?_) | (with_reducible refine kept_foldl (fun _ _ _ => ?_) ?_) | (with_reducible refine kept_foldl1 (fun _ _ _ => ?_) ?_) | with_reducible apply kept_setWr | with_reducible apply kept_setRd | with_reducible apply kept_setQueue | fail_if_no_progress (with_reducible apply kept_mk) | (with_reducible refine kept_of_eq (by with_reducible assumption) ?_) | intro _ _ | split | dsimp only

theorem kept_dropPacket {s0 s : State} (q : Nat) (h : Kept s0 s) : Kept s0 (dropPacket s q) := by
  unfold dropPacket
  try dsimp only
  repeat' first | with_reducible assumption | with_reducible apply kept_ite | with_reducible apply kept_ite1 | with_reducible apply kept_ite2 | (with_reducible refine kept_forAll (fun _ _ _ => ?_) ?_) | (with_reducible refine kept_foldl (fun _ _ _ => ?_) ?_) | (with_reducible refine kept_foldl1 (fun _ _ _ => ?_) ?_) | with_reducible apply kept_setWr | with_reducible apply kept_setQueue | with_reducible apply kept_raiseBit | with_reducible apply kept_bumpFld | fail_if_no_progress (with_reducible apply kept_mk) | (with_reducible refine kept_of_eq (by with_reducible assumption) ?_) | intro _ _ | split | dsimp only

theorem kept_flushQueue {s0 s : State} (q : Nat) (h : Kept s0 s) : Kept s0 (flushQueue s q) := by
  unfold flushQueue
  try dsimp only
  repeat' first | with_reducible assumption | with_reducible apply kept_ite | with_reducible apply kept_ite1 | with_reducible apply kept_ite2 | (with_reducible refine kept_forAll (fun _ _ _ => ?_) ?_) | (with_reducible refine kept_foldl (fun _ _ _ => ?_) ?_) | (with_reducible refine kept_foldl1 (fun _ _ _ => ?_) ?_) | with_reducible apply kept_emptyQueue | with_reducible apply kept_dropPacket | fail_if_no_progress (with_reducible apply kept_mk) | (with_reducible refine kept_of_eq (by with_reducible assumption) ?_) | intro _ _ | split | dsimp only

theorem kept_checkPointers {s0 s : State} (q : Nat) (h : Kept s0 s) : Kept s0 (checkPointers s q) := by
  unfold checkPointers
  try dsimp only
  repeat' first | with_reducible assumption | with_reducible apply kept_ite | with_reducible apply kept_ite1 | with_reducible apply kept_ite2 | (with_reducible refine kept_forAll (fun _ _ _ => ?_) ?_) | (with_reducible refine kept_foldl (fun _ _ _ => ?_) ?_) | (with_reducible refine kept_foldl1 (fun _ _ _ => ?_) ?_) | with_reducible apply kept_raiseBit | with_reducible apply kept_bumpSat | with_reducible apply kept_flushQueue | fail_if_no_progress (with_reducible apply kept_mk) | (with_reducible refine kept_of_eq (by with_reducible assumption) ?_) | intro _ _ | split | dsimp only

theorem kept_swapBanks {s0 s : State} (q : Nat) (h : Kept s0 s) : Kept s0 (swapBanks s q) := by
  unfold swapBanks
  try dsimp only
  repeat' first | with_reducible assumption | with_reducible apply kept_ite | with_reducible apply kept_ite1 | with_reducible apply kept_ite2 | (with_reducible refine kept_forAll (fun _ _ _ => ?_) ?_) | (with_reducible refine kept_foldl (fun _ _ _ => ?_) ?_) | (with_reducible refine kept_foldl1 (fun _ _ _ => ?_) ?_) | with_reducible apply kept_setWr | with_reducible apply kept_setRd | with_reducible apply kept_setQueue | fail_if_no_progress (with_reducible apply kept_mk) | (with_reducible refine kept_of_eq (by with_reducible assumption) ?_) | intro _ _ | split | dsimp only

theorem kept_setLadle {s0 s : State} (ch : Nat) (x : LadleCh) (h : Kept s0 s) : Kept s0 (setLadle s ch x) := by
  unfold setLadle
  try dsimp only
  repeat' first | with_reducible assumption | with_reducible apply kept_ite | with_reducible apply kept_ite1 | with_reducible apply kept_ite2 | (with_reducible refine kept_forAll (fun _ _ _ => ?_) ?_) | (with_reducible refine kept_foldl (fun _ _ _ => ?_) ?_) | (with_reducible refine kept_foldl1 (fun _ _ _ => ?_) ?_) | fail_if_no_progress (with_reducible apply kept_mk) | (with_reducible refine kept_of_eq (by with_reducible assumption) ?_) | intro _ _ | split | dsimp only

theorem kept_setLiteSt {s0 s : State} (k : Nat) (st : Nat) (h : Kept s0 s) : Kept s0 (setLiteSt s k st) := by
  unfold setLiteSt
  try dsimp only
  repeat' first | with_reducible assumption | with_reducible apply kept_ite | with_reducible apply kept_ite1 | with_reducible apply kept_ite2 | (with_reducible refine kept_forAll (fun _ _ _ => ?_) ?_) | (with_reducible refine kept_foldl (fun _ _ _ => ?_) ?_) | (with_reducible refine kept_foldl1 (fun _ _ _ => ?_) ?_) | with_reducible apply kept_setFld | fail_if_no_progress (with_reducible apply kept_mk) | (with_reducible refine kept_of_eq (by with_reducible assumption) ?_) | intro _ _ | split | dsimp only

theorem kept_showFault {s0 s : State} (ch : Nat) (b : Bool) (h : Kept s0 s) : Kept s0 (showFault s ch b) := by
  unfold showFault
  try dsimp only
  repeat' first | with_reducible assumption | with_reducible apply kept_ite | with_reducible apply kept_ite1 | with_reducible apply kept_ite2 | (with_reducible refine kept_forAll (fun _ _ _ => ?_) ?_) | (with_reducible refine kept_foldl (fun _ _ _ => ?_) ?_) | (with_reducible refine kept_foldl1 (fun _ _ _ => ?_) ?_) | with_reducible apply kept_setBit | fail_if_no_progress (with_reducible apply kept_mk) | (with_reducible refine kept_of_eq (by with_reducible assumption) ?_) | intro _ _ | split | dsimp only

theorem kept_liteCheckFault {s0 s : State} (k : Nat) (c : Code) (h : Kept s0 s) : Kept s0 (liteCheckFault s k c) := by
  unfold liteCheckFault
  try dsimp only
  repeat' first | with_reducible assumption | with_reducible apply kept_ite | with_reducible apply kept_ite1 | with_reducible apply kept_ite2 | (with_reducible refine kept_forAll (fun _ _ _ => ?_) ?_) | (with_reducible refine kept_foldl (fun _ _ _ => ?_) ?_) | (with_reducible refine kept_foldl1 (fun _ _ _ => ?_) ?_) | with_reducible apply kept_setFld | with_reducible apply kept_setLadle | with_reducible apply kept_raiseBit | with_reducible apply kept_showFault | fail_if_no_progress (with_reducible apply kept_mk) | (with_reducible refine kept_of_eq (by with_reducible assumption) ?_) | intro _ _ | split | dsimp only

theorem kept_liteBegin {s0 s : State} (k : Nat) (j : LadleJob) (c : Code) (h : Kept s0 s) : Kept s0 (liteBegin s k j c) := by
  unfold liteBegin
  split
  · exact kept_setLadle _ _ h
  · exact kept_liteCheckFault _ _ h

theorem kept_liteStart {s0 s : State} (k : Nat) (h : Kept s0 s) : Kept s0 (liteStart s k) := by
  unfold liteStart
  try dsimp only
  repeat' first | with_reducible assumption | with_reducible apply kept_ite | with_reducible apply kept_ite1 | with_reducible apply kept_ite2 | (with_reducible refine kept_forAll (fun _ _ _ => ?_) ?_) | (with_reducible refine kept_foldl (fun _ _ _ => ?_) ?_) | (with_reducible refine kept_foldl1 (fun _ _ _ => ?_) ?_) | with_reducible apply kept_liteBegin | fail_if_no_progress (with_reducible apply kept_mk) | (with_reducible refine kept_of_eq (by with_reducible assumption) ?_) | intro _ _ | split | dsimp only

theorem kept_liteTrigger {s0 s : State} (k : Nat) (h : Kept s0 s) : Kept s0 (liteTrigger s k) := by
  unfold liteTrigger
  try dsimp only
  repeat' first | with_reducible assumption | with_reducible apply kept_ite | with_reducible apply kept_ite1 | with_reducible apply kept_ite2 | (with_reducible refine kept_forAll (fun _ _ _ => ?_) ?_) | (with_reducible refine kept_foldl (fun _ _ _ => ?_) ?_) | (with_reducible refine kept_foldl1 (fun _ _ _ => ?_) ?_) | with_reducible apply kept_bumpFld | with_reducible apply kept_setFld | with_reducible apply kept_liteStart | fail_if_no_progress (with_reducible apply kept_mk) | (with_reducible refine kept_of_eq (by with_reducible assumption) ?_) | intro _ _ | split | dsimp only

theorem kept_liteTriggers {s0 s : State} (trig : Nat) (tsrc : Nat) (h : Kept s0 s) : Kept s0 (liteTriggers s trig tsrc) := by
  unfold liteTriggers
  try dsimp only
  repeat' first | with_reducible assumption | with_reducible apply kept_ite | with_reducible apply kept_ite1 | with_reducible apply kept_ite2 | (with_reducible refine kept_forAll (fun _ _ _ => ?_) ?_) | (with_reducible refine kept_foldl (fun _ _ _ => ?_) ?_) | (with_reducible refine kept_foldl1 (fun _ _ _ => ?_) ?_) | with_reducible apply kept_liteTrigger | fail_if_no_progress (with_reducible apply kept_mk) | (with_reducible refine kept_of_eq (by with_reducible assumption) ?_) | intro _ _ | split | dsimp only

theorem kept_packetNotice {s0 s : State} (q : Nat) (h : Kept s0 s) : Kept s0 (packetNotice s q) := by
  unfold packetNotice
  try dsimp only
  repeat' first | with_reducible assumption | with_reducible apply kept_ite | with_reducible apply kept_ite1 | with_reducible apply kept_ite2 | (with_reducible refine kept_forAll (fun _ _ _ => ?_) ?_) | (with_reducible refine kept_foldl (fun _ _ _ => ?_) ?_) | (with_reducible refine kept_foldl1 (fun _ _ _ => ?_) ?_) | with_reducible apply kept_liteTriggers | with_reducible apply kept_eventSource | with_reducible apply kept_raiseBit | fail_if_no_progress (with_reducible apply kept_mk) | (with_reducible refine kept_of_eq (by with_reducible assumption) ?_) | intro _ _ | split | dsimp only

theorem kept_appendItem {s0 s : State} (q : Nat) (w : Word) (sop : Bool) (eop : Bool) (h : Kept s0 s) : Kept s0 (appendItem s q w sop eop).1 := by
  unfold appendItem
  try dsimp only
  repeat' first | with_reducible assumption | with_reducible apply kept_ite | with_reducible apply kept_ite1 | with_reducible apply kept_ite2 | (with_reducible refine kept_forAll (fun _ _ _ => ?_) ?_) | (with_reducible refine kept_foldl (fun _ _ _ => ?_) ?_) | (with_reducible refine kept_foldl1 (fun _ _ _ => ?_) ?_) | with_reducible apply kept_wr | with_reducible apply kept_dropPacket | with_reducible apply kept_setQueue | with_reducible apply kept_storeN | with_reducible apply kept_setWr | with_reducible apply kept_packetNotice | fail_if_no_progress (with_reducible apply kept_mk) | (with_reducible refine kept_of_eq (by with_reducible assumption) ?_) | intro _ _ | split | dsimp only

theorem kept_pushItem {s0 s : State} (q : Nat) (w : Word) (sop : Bool) (eop : Bool) (h : Kept s0 s) : Kept s0 (pushItem s q w sop eop).1 := by
  unfold pushItem
  try dsimp only
  repeat' first | with_reducible assumption | with_reducible apply kept_ite | with_reducible apply kept_ite1 | with_reducible apply kept_ite2 | (with_reducible refine kept_forAll (fun _ _ _ => ?_) ?_) | (with_reducible refine kept_foldl (fun _ _ _ => ?_) ?_) | (with_reducible refine kept_foldl1 (fun _ _ _ => ?_) ?_) | with_reducible apply kept_checkPointers | with_reducible apply kept_dropPacket | with_reducible apply kept_appendItem | with_reducible apply kept_setQueue | with_reducible apply kept_bumpFld | with_reducible apply kept_swapBanks | fail_if_no_progress (with_reducible apply kept_mk) | (with_reducible refine kept_of_eq (by with_reducible assumption) ?_) | intro _ _ | split | dsimp only

theorem kept_pushPacket {s0 s : State} (q : Nat) (ws : List Word) (h : Kept s0 s) : Kept s0 (pushPacket s q ws).1 := by
  unfold pushPacket
  try dsimp only
  repeat' first | with_reducible assumption | with_reducible apply kept_ite | with_reducible apply kept_ite1 | with_reducible apply kept_ite2 | (with_reducible refine kept_forAll (fun _ _ _ => ?_) ?_) | (with_reducible refine kept_foldl (fun _ _ _ => ?_) ?_) | (with_reducible refine kept_foldl1 (fun _ _ _ => ?_) ?_) | with_reducible apply kept_pushItem | fail_if_no_progress (with_reducible apply kept_mk) | (with_reducible refine kept_of_eq (by with_reducible assumption) ?_) | intro _ _ | split | dsimp only

theorem kept_countDeny {s0 s : State} (q : Nat) (h : Kept s0 s) : Kept s0 (countDeny s q) := by
  unfold countDeny
  try dsimp only
  repeat' first | with_reducible assumption | with_reducible apply kept_ite | with_reducible apply kept_ite1 | with_reducible apply kept_ite2 | (with_reducible refine kept_forAll (fun _ _ _ => ?_) ?_) | (with_reducible refine kept_foldl (fun _ _ _ => ?_) ?_) | (with_reducible refine kept_foldl1 (fun _ _ _ => ?_) ?_) | with_reducible apply kept_bumpSat | fail_if_no_progress (with_reducible apply kept_mk) | (with_reducible refine kept_of_eq (by with_reducible assumption) ?_) | intro _ _ | split | dsimp only

theorem kept_queueDenied {s0 s : State} (q : Nat) (f : Nat) (h : Kept s0 s) : Kept s0 (queueDenied s q f) := by
  unfold queueDenied
  try dsimp only
  repeat' first | with_reducible assumption | with_reducible apply kept_ite | with_reducible apply kept_ite1 | with_reducible apply kept_ite2 | (with_reducible refine kept_forAll (fun _ _ _ => ?_) ?_) | (with_reducible refine kept_foldl (fun _ _ _ => ?_) ?_) | (with_reducible refine kept_foldl1 (fun _ _ _ => ?_) ?_) | with_reducible apply kept_countDeny | with_reducible apply kept_deny | fail_if_no_progress (with_reducible apply kept_mk) | (with_reducible refine kept_of_eq (by with_reducible assumption) ?_) | intro _ _ | split | dsimp only

theorem kept_ladlePush {s0 s : State} (q : Nat) (ch : Nat) (w : Word) (sop : Bool) (eop : Bool) (h : Kept s0 s) : Kept s0 (ladlePush s q ch w sop eop) := by
  unfold ladlePush
  try dsimp only
  repeat' first | with_reducible assumption | with_reducible apply kept_ite | with_reducible apply kept_ite1 | with_reducible apply kept_ite2 | (with_reducible refine kept_forAll (fun _ _ _ => ?_) ?_) | (with_reducible refine kept_foldl (fun _ _ _ => ?_) ?_) | (with_reducible refine kept_foldl1 (fun _ _ _ => ?_) ?_) | with_reducible apply kept_queueDenied | with_reducible apply kept_pushItem | with_reducible apply kept_countDeny | fail_if_no_progress (with_reducible apply kept_mk) | (with_reducible refine kept_of_eq (by with_reducible assumption) ?_) | intro _ _ | split | dsimp only

theorem kept_takeItem {s0 s : State} (q : Nat) (h : Kept s0 s) : Kept s0 (takeItem s q).1 := by
  unfold takeItem
  try dsimp only
  repeat' first | with_reducible assumption | with_reducible apply kept_ite | with_reducible apply kept_ite1 | with_reducible apply kept_ite2 | (with_reducible refine kept_forAll (fun _ _ _ => ?_) ?_) | (with_reducible refine kept_foldl (fun _ _ _ => ?_) ?_) | (with_reducible refine kept_foldl1 (fun _ _ _ => ?_) ?_) | with_reducible apply kept_checkPointers | with_reducible apply kept_swapBanks | with_reducible apply kept_setQueue | with_reducible apply kept_setRd | fail_if_no_progress (with_reducible apply kept_mk) | (with_reducible refine kept_of_eq (by with_reducible assumption) ?_) | intro _ _ | split | dsimp only

theorem kept_skipItems {s0 s : State} (q n : Nat) (h : Kept s0 s) : Kept s0 (skipItems q n s) := by
  induction n generalizing s with
  | zero => exact h
  | succ n ih =>
    unfold skipItems
    dsimp only
    split
    · exact h
    · split
      · exact kept_setRd _ _ h
      · exact ih (kept_setRd _ _ h)

theorem kept_skipPacket {s0 s : State} (q : Nat) (h : Kept s0 s) : Kept s0 (skipPacket s q) := by
  unfold skipPacket
  try dsimp only
  repeat' first | with_reducible assumption | with_reducible apply kept_ite | with_reducible apply kept_ite1 | with_reducible apply kept_ite2 | (with_reducible refine kept_forAll (fun _ _ _ => ?_) ?_) | (with_reducible refine kept_foldl (fun _ _ _ => ?_) ?_) | (with_reducible refine kept_foldl1 (fun _ _ _ => ?_) ?_) | with_reducible apply kept_checkPointers | with_reducible apply kept_skipItems | with_reducible apply kept_swapBanks | with_reducible apply kept_setQueue | fail_if_no_progress (with_reducible apply kept_mk) | (with_reducible refine kept_of_eq (by with_reducible assumption) ?_) | intro _ _ | split | dsimp only

theorem kept_flushCommand {s0 s : State} (q : Nat) (h : Kept s0 s) : Kept s0 (flushCommand s q) := by
  unfold flushCommand
  try dsimp only
  repeat' first | with_reducible assumption | with_reducible apply kept_ite | with_reducible apply kept_ite1 | with_reducible apply kept_ite2 | (with_reducible refine kept_forAll (fun _ _ _ => ?_) ?_) | (with_reducible refine kept_foldl (fun _ _ _ => ?_) ?_) | (with_reducible refine kept_foldl1 (fun _ _ _ => ?_) ?_) | with_reducible apply kept_flushQueue | with_reducible apply kept_checkPointers | fail_if_no_progress (with_reducible apply kept_mk) | (with_reducible refine kept_of_eq (by with_reducible assumption) ?_) | intro _ _ | split | dsimp only

theorem kept_popWords {s0 s : State} (q : Nat) (f : Nat) (h : Kept s0 s) : Kept s0 (popWords s q f).1 := by
  unfold popWords
  try dsimp only
  repeat' first | with_reducible assumption | with_reducible apply kept_ite | with_reducible apply kept_ite1 | with_reducible apply kept_ite2 | (with_reducible refine kept_forAll (fun _ _ _ => ?_) ?_) | (with_reducible refine kept_foldl (fun _ _ _ => ?_) ?_) | (with_reducible refine kept_foldl1 (fun _ _ _ => ?_) ?_) | with_reducible apply kept_queueDenied | with_reducible apply kept_takeItem | fail_if_no_progress (with_reducible apply kept_mk) | (with_reducible refine kept_of_eq (by with_reducible assumption) ?_) | intro _ _ | split | dsimp only

theorem kept_registerPush {s0 s : State} (q : Nat) (f : Nat) (side : Nat) (w : Word) (h : Kept s0 s) : Kept s0 (registerPush s q f side w) := by
  unfold registerPush
  try dsimp only
  repeat' first | with_reducible assumption | with_reducible apply kept_ite | with_reducible apply kept_ite1 | with_reducible apply kept_ite2 | (with_reducible refine kept_forAll (fun _ _ _ => ?_) ?_) | (with_reducible refine kept_foldl (fun _ _ _ => ?_) ?_) | (with_reducible refine kept_foldl1 (fun _ _ _ => ?_) ?_) | with_reducible apply kept_queueDenied | with_reducible apply kept_countDeny | with_reducible apply kept_pushItem | fail_if_no_progress (with_reducible apply kept_mk) | (with_reducible refine kept_of_eq (by with_reducible assumption) ?_) | intro _ _ | split | dsimp only

theorem kept_resetQueue {s0 s : State} (q : Nat) (h : Kept s0 s) : Kept s0 (resetQueue s q) := by
  unfold resetQueue
  try dsimp only
  repeat' first | with_reducible assumption | with_reducible apply kept_ite | with_reducible apply kept_ite1 | with_reducible apply kept_ite2 | (with_reducible refine kept_forAll (fun _ _ _ => ?_) ?_) | (with_reducible refine kept_foldl (fun _ _ _ => ?_) ?_) | (with_reducible refine kept_foldl1 (fun _ _ _ => ?_) ?_) | with_reducible apply kept_emptyQueue | with_reducible apply kept_setQueue | fail_if_no_progress (with_reducible apply kept_mk) | (with_reducible refine kept_of_eq (by with_reducible assumption) ?_) | intro _ _ | split | dsimp only

theorem kept_keepWord {s0 s : State} (q : Requester) (key : Nat) (w : Word) (h : Kept s0 s) : Kept s0 (keepWord s q key w) := by
  unfold keepWord
  try dsimp only
  repeat' first | with_reducible assumption | with_reducible apply kept_ite | with_reducible apply kept_ite1 | with_reducible apply kept_ite2 | (with_reducible refine kept_forAll (fun _ _ _ => ?_) ?_) | (with_reducible refine kept_foldl (fun _ _ _ => ?_) ?_) | (with_reducible refine kept_foldl1 (fun _ _ _ => ?_) ?_) | fail_if_no_progress (with_reducible apply kept_mk) | (with_reducible refine kept_of_eq (by with_reducible assumption) ?_) | intro _ _ | split | dsimp only

theorem kept_queueCommand {s0 s : State} (q : Nat) (op : Nat) (h : Kept s0 s) : Kept s0 (queueCommand s q op).1 := by
  unfold queueCommand
  try dsimp only
  repeat' first | with_reducible assumption | with_reducible apply kept_ite | with_reducible apply kept_ite1 | with_reducible apply kept_ite2 | (with_reducible refine kept_forAll (fun _ _ _ => ?_) ?_) | (with_reducible refine kept_foldl (fun _ _ _ => ?_) ?_) | (with_reducible refine kept_foldl1 (fun _ _ _ => ?_) ?_) | with_reducible apply kept_skipPacket | with_reducible apply kept_flushCommand | fail_if_no_progress (with_reducible apply kept_mk) | (with_reducible refine kept_of_eq (by with_reducible assumption) ?_) | intro _ _ | split | dsimp only

theorem kept_setPageSt {s0 s : State} (page : Nat) (st : Nat) (h : Kept s0 s) : Kept s0 (setPageSt s page st) := by
  unfold setPageSt
  try dsimp only
  repeat' first | with_reducible assumption | with_reducible apply kept_ite | with_reducible apply kept_ite1 | with_reducible apply kept_ite2 | (with_reducible refine kept_forAll (fun _ _ _ => ?_) ?_) | (with_reducible refine kept_foldl (fun _ _ _ => ?_) ?_) | (with_reducible refine kept_foldl1 (fun _ _ _ => ?_) ?_) | with_reducible apply kept_setFld | fail_if_no_progress (with_reducible apply kept_mk) | (with_reducible refine kept_of_eq (by with_reducible assumption) ?_) | intro _ _ | split | dsimp only

theorem kept_setSub {s0 s : State} (page : Nat) (n : Nat) (h : Kept s0 s) : Kept s0 (setSub s page n) := by
  unfold setSub
  try dsimp only
  repeat' first | with_reducible assumption | with_reducible apply kept_ite | with_reducible apply kept_ite1 | with_reducible apply kept_ite2 | (with_reducible refine kept_forAll (fun _ _ _ => ?_) ?_) | (with_reducible refine kept_foldl (fun _ _ _ => ?_) ?_) | (with_reducible refine kept_foldl1 (fun _ _ _ => ?_) ?_) | with_reducible apply kept_setFld | fail_if_no_progress (with_reducible apply kept_mk) | (with_reducible refine kept_of_eq (by with_reducible assumption) ?_) | intro _ _ | split | dsimp only

theorem kept_bulkFetch {s0 s : State} (c : Nat) (h : Kept s0 s) : Kept s0 (bulkFetch s c) := by
  unfold bulkFetch
  try dsimp only
  repeat' first | with_reducible assumption | with_reducible apply kept_ite | with_reducible apply kept_ite1 | with_reducible apply kept_ite2 | (with_reducible refine kept_forAll (fun _ _ _ => ?_) ?_) | (with_reducible refine kept_foldl (fun _ _ _ => ?_) ?_) | (with_reducible refine kept_foldl1 (fun _ _ _ => ?_) ?_) | with_reducible apply kept_setSub | with_reducible apply kept_setLadle | fail_if_no_progress (with_reducible apply kept_mk) | (with_reducible refine kept_of_eq (by with_reducible assumption) ?_) | intro _ _ | split | dsimp only

theorem kept_bulkStart {s0 s : State} (c : Nat) (h : Kept s0 s) : Kept s0 (bulkStart s c) := by
  unfold bulkStart
  try dsimp only
  repeat' first | with_reducible assumption | with_reducible apply kept_ite | with_reducible apply kept_ite1 | with_reducible apply kept_ite2 | (with_reducible refine kept_forAll (fun _ _ _ => ?_) ?_) | (with_reducible refine kept_foldl (fun _ _ _ => ?_) ?_) | (with_reducible refine kept_foldl1 (fun _ _ _ => ?_) ?_) | with_reducible apply kept_setPageSt | with_reducible apply kept_setLadle | with_reducible apply kept_bulkFetch | with_reducible apply kept_wr | fail_if_no_progress (with_reducible apply kept_mk) | (with_reducible refine kept_of_eq (by with_reducible assumption) ?_) | intro _ _ | split | dsimp only

theorem kept_bulkOff {s0 s : State} (c : Nat) (h : Kept s0 s) : Kept s0 (bulkOff s c) := by
  unfold bulkOff
  try dsimp only
  repeat' first | with_reducible assumption | with_reducible apply kept_ite | with_reducible apply kept_ite1 | with_reducible apply kept_ite2 | (with_reducible refine kept_forAll (fun _ _ _ => ?_) ?_) | (with_reducible refine kept_foldl (fun _ _ _ => ?_) ?_) | (with_reducible refine kept_foldl1 (fun _ _ _ => ?_) ?_) | with_reducible apply kept_showFault | with_reducible apply kept_setSub | with_reducible apply kept_setPageSt | with_reducible apply kept_setLadle | with_reducible apply kept_bulkStart | with_reducible apply kept_setFld | fail_if_no_progress (with_reducible apply kept_mk) | (with_reducible refine kept_of_eq (by with_reducible assumption) ?_) | intro _ _ | split | dsimp only

theorem kept_bulkNext {s0 s : State} (c : Nat) (next : Nat) (h : Kept s0 s) : Kept s0 (bulkNext s c next) := by
  unfold bulkNext
  try dsimp only
  repeat' first | with_reducible assumption | with_reducible apply kept_ite | with_reducible apply kept_ite1 | with_reducible apply kept_ite2 | (with_reducible refine kept_forAll (fun _ _ _ => ?_) ?_) | (with_reducible refine kept_foldl (fun _ _ _ => ?_) ?_) | (with_reducible refine kept_foldl1 (fun _ _ _ => ?_) ?_) | with_reducible apply kept_wr | with_reducible apply kept_raiseBit | with_reducible apply kept_setFld | with_reducible apply kept_bulkOff | with_reducible apply kept_bulkFetch | fail_if_no_progress (with_reducible apply kept_mk) | (with_reducible refine kept_of_eq (by with_reducible assumption) ?_) | intro _ _ | split | dsimp only

theorem kept_bulkFault {s0 s : State} (c : Nat) (cause : Nat) (code : Nat) (addr : Nat) (dir : Bool) (desc : Bool) (tries : Nat) (was : Nat) (h : Kept s0 s) : Kept s0 (bulkFault s c cause code addr dir desc tries was) := by
  unfold bulkFault
  try dsimp only
  repeat' first | with_reducible assumption | with_reducible apply kept_ite | with_reducible apply kept_ite1 | with_reducible apply kept_ite2 | (with_reducible refine kept_forAll (fun _ _ _ => ?_) ?_) | (with_reducible refine kept_foldl (fun _ _ _ => ?_) ?_) | (with_reducible refine kept_foldl1 (fun _ _ _ => ?_) ?_) | with_reducible apply kept_wr | with_reducible apply kept_setSub | with_reducible apply kept_setLadle | with_reducible apply kept_raiseBit | with_reducible apply kept_showFault | fail_if_no_progress (with_reducible apply kept_mk) | (with_reducible refine kept_of_eq (by with_reducible assumption) ?_) | intro _ _ | split | dsimp only

theorem kept_writeBackStep {s0 s : State} (c : Nat) (j : LadleJob) (n : Nat) (h : Kept s0 s) : Kept s0 (writeBackStep s c j n) := by
  unfold writeBackStep
  try dsimp only
  repeat' first | with_reducible assumption | with_reducible apply kept_ite | with_reducible apply kept_ite1 | with_reducible apply kept_ite2 | (with_reducible refine kept_forAll (fun _ _ _ => ?_) ?_) | (with_reducible refine kept_foldl (fun _ _ _ => ?_) ?_) | (with_reducible refine kept_foldl1 (fun _ _ _ => ?_) ?_) | with_reducible apply kept_storeN | fail_if_no_progress (with_reducible apply kept_mk) | (with_reducible refine kept_of_eq (by with_reducible assumption) ?_) | intro _ _ | split | dsimp only

theorem kept_writeBackTo {s0 s : State} (c : Nat) (j : LadleJob) (n : Nat) (h : Kept s0 s) : Kept s0 (writeBackTo s c j n) := by
  unfold writeBackTo
  try dsimp only
  repeat' first | with_reducible assumption | with_reducible apply kept_ite | with_reducible apply kept_ite1 | with_reducible apply kept_ite2 | (with_reducible refine kept_forAll (fun _ _ _ => ?_) ?_) | (with_reducible refine kept_foldl (fun _ _ _ => ?_) ?_) | (with_reducible refine kept_foldl1 (fun _ _ _ => ?_) ?_) | with_reducible apply kept_writeBackStep | with_reducible apply kept_setLadle | fail_if_no_progress (with_reducible apply kept_mk) | (with_reducible refine kept_of_eq (by with_reducible assumption) ?_) | intro _ _ | split | dsimp only

theorem kept_writeBack {s0 s : State} (c : Nat) (j : LadleJob) (h : Kept s0 s) : Kept s0 (writeBack s c j) := by
  unfold writeBack
  try dsimp only
  repeat' first | with_reducible assumption | with_reducible apply kept_ite | with_reducible apply kept_ite1 | with_reducible apply kept_ite2 | (with_reducible refine kept_forAll (fun _ _ _ => ?_) ?_) | (with_reducible refine kept_foldl (fun _ _ _ => ?_) ?_) | (with_reducible refine kept_foldl1 (fun _ _ _ => ?_) ?_) | with_reducible apply kept_writeBackTo | with_reducible apply kept_raiseBit | with_reducible apply kept_bump | fail_if_no_progress (with_reducible apply kept_mk) | (with_reducible refine kept_of_eq (by with_reducible assumption) ?_) | intro _ _ | split | dsimp only

theorem kept_bulkCheckFault {s0 s : State} (c : Nat) (j : LadleJob) (code : Code) (h : Kept s0 s) : Kept s0 (bulkCheckFault s c j code) := by
  unfold bulkCheckFault
  try dsimp only
  repeat' first | with_reducible assumption | with_reducible apply kept_ite | with_reducible apply kept_ite1 | with_reducible apply kept_ite2 | (with_reducible refine kept_forAll (fun _ _ _ => ?_) ?_) | (with_reducible refine kept_foldl (fun _ _ _ => ?_) ?_) | (with_reducible refine kept_foldl1 (fun _ _ _ => ?_) ?_) | with_reducible apply kept_setLadle | with_reducible apply kept_bulkFault | with_reducible apply kept_writeBack | fail_if_no_progress (with_reducible apply kept_mk) | (with_reducible refine kept_of_eq (by with_reducible assumption) ?_) | intro _ _ | split | dsimp only

theorem kept_ladleBus {s0 s : State} (ch : Nat) (dir : Bool) (wb : Nat) (h : Kept s0 s) : Kept s0 (ladleBus s ch dir wb) := by
  unfold ladleBus
  try dsimp only
  repeat' first | with_reducible assumption | with_reducible apply kept_ite | with_reducible apply kept_ite1 | with_reducible apply kept_ite2 | (with_reducible refine kept_forAll (fun _ _ _ => ?_) ?_) | (with_reducible refine kept_foldl (fun _ _ _ => ?_) ?_) | (with_reducible refine kept_foldl1 (fun _ _ _ => ?_) ?_) | with_reducible apply kept_bulkFault | with_reducible apply kept_writeBackTo | with_reducible apply kept_wr | with_reducible apply kept_raiseBit | with_reducible apply kept_showFault | with_reducible apply kept_setLadle | fail_if_no_progress (with_reducible apply kept_mk) | (with_reducible refine kept_of_eq (by with_reducible assumption) ?_) | intro _ _ | split | dsimp only

theorem kept_descriptorFetch {s0 s : State} (c : Nat) (h : Kept s0 s) : Kept s0 (descriptorFetch s c) := by
  unfold descriptorFetch
  try dsimp only
  repeat' first | with_reducible assumption | with_reducible apply kept_ite | with_reducible apply kept_ite1 | with_reducible apply kept_ite2 | (with_reducible refine kept_forAll (fun _ _ _ => ?_) ?_) | (with_reducible refine kept_foldl (fun _ _ _ => ?_) ?_) | (with_reducible refine kept_foldl1 (fun _ _ _ => ?_) ?_) | with_reducible apply kept_setPageSt | with_reducible apply kept_bulkFault | with_reducible apply kept_ladleBus | with_reducible apply kept_bulkFetch | with_reducible apply kept_raiseBit | with_reducible apply kept_setSub | with_reducible apply kept_bulkOff | with_reducible apply kept_wr | with_reducible apply kept_setLadle | with_reducible apply kept_bulkCheckFault | fail_if_no_progress (with_reducible apply kept_mk) | (with_reducible refine kept_of_eq (by with_reducible assumption) ?_) | intro _ _ | split | dsimp only

theorem kept_ladleKick {s0 s : State} (c : Nat) (h : Kept s0 s) : Kept s0 (ladleKick s c) := by
  unfold ladleKick
  try dsimp only
  repeat' first | with_reducible assumption | with_reducible apply kept_ite | with_reducible apply kept_ite1 | with_reducible apply kept_ite2 | (with_reducible refine kept_forAll (fun _ _ _ => ?_) ?_) | (with_reducible refine kept_foldl (fun _ _ _ => ?_) ?_) | (with_reducible refine kept_foldl1 (fun _ _ _ => ?_) ?_) | with_reducible apply kept_bulkFetch | with_reducible apply kept_setLadle | fail_if_no_progress (with_reducible apply kept_mk) | (with_reducible refine kept_of_eq (by with_reducible assumption) ?_) | intro _ _ | split | dsimp only

theorem kept_moved {s0 s : State} (ch : Nat) (x : LadleCh) (j : LadleJob) (h : Kept s0 s) : Kept s0 (moved s ch x j) := by
  unfold moved
  try dsimp only
  repeat' first | with_reducible assumption | with_reducible apply kept_ite | with_reducible apply kept_ite1 | with_reducible apply kept_ite2 | (with_reducible refine kept_forAll (fun _ _ _ => ?_) ?_) | (with_reducible refine kept_foldl (fun _ _ _ => ?_) ?_) | (with_reducible refine kept_foldl1 (fun _ _ _ => ?_) ?_) | with_reducible apply kept_setLadle | with_reducible apply kept_wr | with_reducible apply kept_setSub | fail_if_no_progress (with_reducible apply kept_mk) | (with_reducible refine kept_of_eq (by with_reducible assumption) ?_) | intro _ _ | split | dsimp only

theorem kept_readBytes {s0 s : State} (a : Nat) (n : Nat) (h : Kept s0 s) : Kept s0 (readBytes s a n).1 := by
  unfold readBytes
  split
  · exact kept_mk h
  · exact h

theorem kept_ladleRead {s0 s : State} (ch : Nat) (a : Nat) (n : Nat) (h : Kept s0 s) : Kept s0 (ladleRead s ch a n).1 := by
  unfold ladleRead
  try dsimp only
  repeat' first | with_reducible assumption | with_reducible apply kept_ite | with_reducible apply kept_ite1 | with_reducible apply kept_ite2 | (with_reducible refine kept_forAll (fun _ _ _ => ?_) ?_) | (with_reducible refine kept_foldl (fun _ _ _ => ?_) ?_) | (with_reducible refine kept_foldl1 (fun _ _ _ => ?_) ?_) | with_reducible apply kept_tryRead | with_reducible apply kept_readBytes | fail_if_no_progress (with_reducible apply kept_mk) | (with_reducible refine kept_of_eq (by with_reducible assumption) ?_) | intro _ _ | split | dsimp only

theorem kept_ladleRecord {s0 s : State} (ch : Nat) (pid : Nat) (b : List Byte) (h : Kept s0 s) : Kept s0 (ladleRecord s ch pid b).1 := by
  unfold ladleRecord
  try dsimp only
  repeat' first | with_reducible assumption | with_reducible apply kept_ite | with_reducible apply kept_ite1 | with_reducible apply kept_ite2 | (with_reducible refine kept_forAll (fun _ _ _ => ?_) ?_) | (with_reducible refine kept_foldl (fun _ _ _ => ?_) ?_) | (with_reducible refine kept_foldl1 (fun _ _ _ => ?_) ?_) | with_reducible apply kept_bumpSat | with_reducible apply kept_tryWrite | fail_if_no_progress (with_reducible apply kept_mk) | (with_reducible refine kept_of_eq (by with_reducible assumption) ?_) | intro _ _ | split | dsimp only

theorem kept_ladleWrite {s0 s : State} (ch : Nat) (a : Nat) (b : List Byte) (h : Kept s0 s) : Kept s0 (ladleWrite s ch a b).1 := by
  unfold ladleWrite
  try dsimp only
  repeat' first | with_reducible assumption | with_reducible apply kept_ite | with_reducible apply kept_ite1 | with_reducible apply kept_ite2 | (with_reducible refine kept_forAll (fun _ _ _ => ?_) ?_) | (with_reducible refine kept_foldl (fun _ _ _ => ?_) ?_) | (with_reducible refine kept_foldl1 (fun _ _ _ => ?_) ?_) | with_reducible apply kept_ladleRecord | with_reducible apply kept_putBytes | fail_if_no_progress (with_reducible apply kept_mk) | (with_reducible refine kept_of_eq (by with_reducible assumption) ?_) | intro _ _ | split | dsimp only

theorem kept_ladlePushes {s0 s : State} (ch : Nat) (j : LadleJob) (done : Nat) (b : List Byte) (h : Kept s0 s) : Kept s0 (ladlePushes s ch j done b) := by
  unfold ladlePushes
  try dsimp only
  repeat' first | with_reducible assumption | with_reducible apply kept_ite | with_reducible apply kept_ite1 | with_reducible apply kept_ite2 | (with_reducible refine kept_forAll (fun _ _ _ => ?_) ?_) | (with_reducible refine kept_foldl (fun _ _ _ => ?_) ?_) | (with_reducible refine kept_foldl1 (fun _ _ _ => ?_) ?_) | with_reducible apply kept_ladlePush | fail_if_no_progress (with_reducible apply kept_mk) | (with_reducible refine kept_of_eq (by with_reducible assumption) ?_) | intro _ _ | split | dsimp only

theorem kept_ladleTransaction {s0 s : State} (ch : Nat) (n : Nat) (h : Kept s0 s) : Kept s0 (ladleTransaction s ch n) := by
  unfold ladleTransaction
  try dsimp only
  repeat' first | with_reducible assumption | with_reducible apply kept_ite | with_reducible apply kept_ite1 | with_reducible apply kept_ite2 | (with_reducible refine kept_forAll (fun _ _ _ => ?_) ?_) | (with_reducible refine kept_foldl (fun _ _ _ => ?_) ?_) | (with_reducible refine kept_foldl1 (fun _ _ _ => ?_) ?_) | with_reducible apply kept_bulkCheckFault | with_reducible apply kept_liteCheckFault | with_reducible apply kept_ladleBus | with_reducible apply kept_ladleRead | with_reducible apply kept_ladlePushes | with_reducible apply kept_ladleWrite | with_reducible apply kept_moved | fail_if_no_progress (with_reducible apply kept_mk) | (with_reducible refine kept_of_eq (by with_reducible assumption) ?_) | intro _ _ | split | dsimp only

theorem kept_ladleQueuePop {s0 s : State} (ch : Nat) (h : Kept s0 s) : Kept s0 (ladleQueuePop s ch) := by
  unfold ladleQueuePop
  try dsimp only
  repeat' first | with_reducible assumption | with_reducible apply kept_ite | with_reducible apply kept_ite1 | with_reducible apply kept_ite2 | (with_reducible refine kept_forAll (fun _ _ _ => ?_) ?_) | (with_reducible refine kept_foldl (fun _ _ _ => ?_) ?_) | (with_reducible refine kept_foldl1 (fun _ _ _ => ?_) ?_) | with_reducible apply kept_queueDenied | with_reducible apply kept_takeItem | with_reducible apply kept_moved | with_reducible apply kept_ladlePush | with_reducible apply kept_bulkCheckFault | with_reducible apply kept_liteCheckFault | with_reducible apply kept_ladleWrite | with_reducible apply kept_ladleBus | with_reducible apply kept_storeN | fail_if_no_progress (with_reducible apply kept_mk) | (with_reducible refine kept_of_eq (by with_reducible assumption) ?_) | intro _ _ | split | dsimp only

theorem kept_descriptorWriteBack {s0 s : State} (c : Nat) (h : Kept s0 s) : Kept s0 (descriptorWriteBack s c) := by
  unfold descriptorWriteBack
  try dsimp only
  repeat' first | with_reducible assumption | with_reducible apply kept_ite | with_reducible apply kept_ite1 | with_reducible apply kept_ite2 | (with_reducible refine kept_forAll (fun _ _ _ => ?_) ?_) | (with_reducible refine kept_foldl (fun _ _ _ => ?_) ?_) | (with_reducible refine kept_foldl1 (fun _ _ _ => ?_) ?_) | with_reducible apply kept_bulkNext | with_reducible apply kept_writeBack | fail_if_no_progress (with_reducible apply kept_mk) | (with_reducible refine kept_of_eq (by with_reducible assumption) ?_) | intro _ _ | split | dsimp only

theorem kept_bulkStop {s0 s : State} (c : Nat) (h : Kept s0 s) : Kept s0 (bulkStop s c) := by
  unfold bulkStop
  try dsimp only
  repeat' first | with_reducible assumption | with_reducible apply kept_ite | with_reducible apply kept_ite1 | with_reducible apply kept_ite2 | (with_reducible refine kept_forAll (fun _ _ _ => ?_) ?_) | (with_reducible refine kept_foldl (fun _ _ _ => ?_) ?_) | (with_reducible refine kept_foldl1 (fun _ _ _ => ?_) ?_) | with_reducible apply kept_setPageSt | with_reducible apply kept_wr | with_reducible apply kept_bulkOff | with_reducible apply kept_writeBack | with_reducible apply kept_setLadle | fail_if_no_progress (with_reducible apply kept_mk) | (with_reducible refine kept_of_eq (by with_reducible assumption) ?_) | intro _ _ | split | dsimp only

theorem kept_bulkResume {s0 s : State} (c : Nat) (h : Kept s0 s) : Kept s0 (bulkResume s c).1 := by
  unfold bulkResume
  try dsimp only
  repeat' first | with_reducible assumption | with_reducible apply kept_ite | with_reducible apply kept_ite1 | with_reducible apply kept_ite2 | (with_reducible refine kept_forAll (fun _ _ _ => ?_) ?_) | (with_reducible refine kept_foldl (fun _ _ _ => ?_) ?_) | (with_reducible refine kept_foldl1 (fun _ _ _ => ?_) ?_) | with_reducible apply kept_showFault | with_reducible apply kept_setSub | with_reducible apply kept_bulkNext | with_reducible apply kept_bulkFetch | fail_if_no_progress (with_reducible apply kept_mk) | (with_reducible refine kept_of_eq (by with_reducible assumption) ?_) | intro _ _ | split | dsimp only

theorem kept_dropProduced {s0 s : State} (ch : Nat) (h : Kept s0 s) : Kept s0 (dropProduced s ch) := by
  unfold dropProduced
  try dsimp only
  repeat' first | with_reducible assumption | with_reducible apply kept_ite | with_reducible apply kept_ite1 | with_reducible apply kept_ite2 | (with_reducible refine kept_forAll (fun _ _ _ => ?_) ?_) | (with_reducible refine kept_foldl (fun _ _ _ => ?_) ?_) | (with_reducible refine kept_foldl1 (fun _ _ _ => ?_) ?_) | with_reducible apply kept_swapBanks | with_reducible apply kept_dropPacket | fail_if_no_progress (with_reducible apply kept_mk) | (with_reducible refine kept_of_eq (by with_reducible assumption) ?_) | intro _ _ | split | dsimp only

theorem kept_bulkAbort {s0 s : State} (c : Nat) (h : Kept s0 s) : Kept s0 (bulkAbort s c).1 := by
  unfold bulkAbort
  try dsimp only
  repeat' first | with_reducible assumption | with_reducible apply kept_ite | with_reducible apply kept_ite1 | with_reducible apply kept_ite2 | (with_reducible refine kept_forAll (fun _ _ _ => ?_) ?_) | (with_reducible refine kept_foldl (fun _ _ _ => ?_) ?_) | (with_reducible refine kept_foldl1 (fun _ _ _ => ?_) ?_) | with_reducible apply kept_takeFree | with_reducible apply kept_writeBackStep | with_reducible apply kept_dropProduced | with_reducible apply kept_showFault | with_reducible apply kept_setFld | with_reducible apply kept_bulkOff | with_reducible apply kept_wr | fail_if_no_progress (with_reducible apply kept_mk) | (with_reducible refine kept_of_eq (by with_reducible assumption) ?_) | intro _ _ | split | dsimp only

theorem kept_bulkCommand {s0 s : State} (c : Nat) (op : Nat) (h : Kept s0 s) : Kept s0 (bulkCommand s c op).1 := by
  unfold bulkCommand
  try dsimp only
  repeat' first | with_reducible assumption | with_reducible apply kept_ite | with_reducible apply kept_ite1 | with_reducible apply kept_ite2 | (with_reducible refine kept_forAll (fun _ _ _ => ?_) ?_) | (with_reducible refine kept_foldl (fun _ _ _ => ?_) ?_) | (with_reducible refine kept_foldl1 (fun _ _ _ => ?_) ?_) | with_reducible apply kept_bulkResume | with_reducible apply kept_bulkAbort | fail_if_no_progress (with_reducible apply kept_mk) | (with_reducible refine kept_of_eq (by with_reducible assumption) ?_) | intro _ _ | split | dsimp only

theorem kept_liteOff {s0 s : State} (k : Nat) (h : Kept s0 s) : Kept s0 (liteOff s k) := by
  unfold liteOff
  try dsimp only
  repeat' first | with_reducible assumption | with_reducible apply kept_ite | with_reducible apply kept_ite1 | with_reducible apply kept_ite2 | (with_reducible refine kept_forAll (fun _ _ _ => ?_) ?_) | (with_reducible refine kept_foldl (fun _ _ _ => ?_) ?_) | (with_reducible refine kept_foldl1 (fun _ _ _ => ?_) ?_) | with_reducible apply kept_showFault | with_reducible apply kept_setFld | with_reducible apply kept_setLiteSt | with_reducible apply kept_setLadle | fail_if_no_progress (with_reducible apply kept_mk) | (with_reducible refine kept_of_eq (by with_reducible assumption) ?_) | intro _ _ | split | dsimp only

theorem kept_liteStop {s0 s : State} (k : Nat) (h : Kept s0 s) : Kept s0 (liteStop s k) := by
  unfold liteStop
  try dsimp only
  repeat' first | with_reducible assumption | with_reducible apply kept_ite | with_reducible apply kept_ite1 | with_reducible apply kept_ite2 | (with_reducible refine kept_forAll (fun _ _ _ => ?_) ?_) | (with_reducible refine kept_foldl (fun _ _ _ => ?_) ?_) | (with_reducible refine kept_foldl1 (fun _ _ _ => ?_) ?_) | with_reducible apply kept_setFld | with_reducible apply kept_setLiteSt | with_reducible apply kept_liteOff | fail_if_no_progress (with_reducible apply kept_mk) | (with_reducible refine kept_of_eq (by with_reducible assumption) ?_) | intro _ _ | split | dsimp only

theorem kept_liteHeld {s0 s : State} (k : Nat) (h : Kept s0 s) : Kept s0 (liteHeld s k) := by
  unfold liteHeld
  try dsimp only
  repeat' first | with_reducible assumption | with_reducible apply kept_ite | with_reducible apply kept_ite1 | with_reducible apply kept_ite2 | (with_reducible refine kept_forAll (fun _ _ _ => ?_) ?_) | (with_reducible refine kept_foldl (fun _ _ _ => ?_) ?_) | (with_reducible refine kept_foldl1 (fun _ _ _ => ?_) ?_) | with_reducible apply kept_liteStart | with_reducible apply kept_setFld | fail_if_no_progress (with_reducible apply kept_mk) | (with_reducible refine kept_of_eq (by with_reducible assumption) ?_) | intro _ _ | split | dsimp only

theorem kept_liteResume {s0 s : State} (k : Nat) (h : Kept s0 s) : Kept s0 (liteResume s k).1 := by
  unfold liteResume
  try dsimp only
  repeat' first | with_reducible assumption | with_reducible apply kept_ite | with_reducible apply kept_ite1 | with_reducible apply kept_ite2 | (with_reducible refine kept_forAll (fun _ _ _ => ?_) ?_) | (with_reducible refine kept_foldl (fun _ _ _ => ?_) ?_) | (with_reducible refine kept_foldl1 (fun _ _ _ => ?_) ?_) | with_reducible apply kept_showFault | with_reducible apply kept_setFld | with_reducible apply kept_liteOff | with_reducible apply kept_liteHeld | fail_if_no_progress (with_reducible apply kept_mk) | (with_reducible refine kept_of_eq (by with_reducible assumption) ?_) | intro _ _ | split | dsimp only

theorem kept_liteAbort {s0 s : State} (k : Nat) (h : Kept s0 s) : Kept s0 (liteAbort s k).1 := by
  unfold liteAbort
  try dsimp only
  repeat' first | with_reducible assumption | with_reducible apply kept_ite | with_reducible apply kept_ite1 | with_reducible apply kept_ite2 | (with_reducible refine kept_forAll (fun _ _ _ => ?_) ?_) | (with_reducible refine kept_foldl (fun _ _ _ => ?_) ?_) | (with_reducible refine kept_foldl1 (fun _ _ _ => ?_) ?_) | with_reducible apply kept_dropProduced | with_reducible apply kept_setFld | with_reducible apply kept_takeFree | with_reducible apply kept_liteOff | with_reducible apply kept_wr | fail_if_no_progress (with_reducible apply kept_mk) | (with_reducible refine kept_of_eq (by with_reducible assumption) ?_) | intro _ _ | split | dsimp only

theorem kept_liteGo {s0 s : State} (k : Nat) (h : Kept s0 s) : Kept s0 (liteGo s k).1 := by
  unfold liteGo
  try dsimp only
  repeat' first | with_reducible assumption | with_reducible apply kept_ite | with_reducible apply kept_ite1 | with_reducible apply kept_ite2 | (with_reducible refine kept_forAll (fun _ _ _ => ?_) ?_) | (with_reducible refine kept_foldl (fun _ _ _ => ?_) ?_) | (with_reducible refine kept_foldl1 (fun _ _ _ => ?_) ?_) | with_reducible apply kept_liteTrigger | fail_if_no_progress (with_reducible apply kept_mk) | (with_reducible refine kept_of_eq (by with_reducible assumption) ?_) | intro _ _ | split | dsimp only

theorem kept_liteCommand {s0 s : State} (k : Nat) (op : Nat) (h : Kept s0 s) : Kept s0 (liteCommand s k op).1 := by
  unfold liteCommand
  try dsimp only
  repeat' first | with_reducible assumption | with_reducible apply kept_ite | with_reducible apply kept_ite1 | with_reducible apply kept_ite2 | (with_reducible refine kept_forAll (fun _ _ _ => ?_) ?_) | (with_reducible refine kept_foldl (fun _ _ _ => ?_) ?_) | (with_reducible refine kept_foldl1 (fun _ _ _ => ?_) ?_) | with_reducible apply kept_liteGo | with_reducible apply kept_liteResume | with_reducible apply kept_liteAbort | fail_if_no_progress (with_reducible apply kept_mk) | (with_reducible refine kept_of_eq (by with_reducible assumption) ?_) | intro _ _ | split | dsimp only

theorem kept_completionItem {s0 s : State} (k : Nat) (h : Kept s0 s) : Kept s0 (completionItem s k) := by
  unfold completionItem
  try dsimp only
  repeat' first | with_reducible assumption | with_reducible apply kept_ite | with_reducible apply kept_ite1 | with_reducible apply kept_ite2 | (with_reducible refine kept_forAll (fun _ _ _ => ?_) ?_) | (with_reducible refine kept_foldl (fun _ _ _ => ?_) ?_) | (with_reducible refine kept_foldl1 (fun _ _ _ => ?_) ?_) | with_reducible apply kept_pushItem | with_reducible apply kept_countDeny | fail_if_no_progress (with_reducible apply kept_mk) | (with_reducible refine kept_of_eq (by with_reducible assumption) ?_) | intro _ _ | split | dsimp only

theorem kept_liteComplete {s0 s : State} (k : Nat) (h : Kept s0 s) : Kept s0 (liteComplete s k) := by
  unfold liteComplete
  try dsimp only
  repeat' first | with_reducible assumption | with_reducible apply kept_ite | with_reducible apply kept_ite1 | with_reducible apply kept_ite2 | (with_reducible refine kept_forAll (fun _ _ _ => ?_) ?_) | (with_reducible refine kept_foldl (fun _ _ _ => ?_) ?_) | (with_reducible refine kept_foldl1 (fun _ _ _ => ?_) ?_) | with_reducible apply kept_bump | with_reducible apply kept_setLadle | with_reducible apply kept_liteTriggers | with_reducible apply kept_eventSource | with_reducible apply kept_completionItem | with_reducible apply kept_evtSet | with_reducible apply kept_liteOff | with_reducible apply kept_liteHeld | fail_if_no_progress (with_reducible apply kept_mk) | (with_reducible refine kept_of_eq (by with_reducible assumption) ?_) | intro _ _ | split | dsimp only

theorem kept_bulkGated {s0 s : State} (q : Requester) (c : Nat) (off : Nat) (k : State → State × Code) (hk : ∀ x, Kept s0 x → Kept s0 (k x).1) (h : Kept s0 s) : Kept s0 (bulkGated q c off s k) := by
  unfold bulkGated
  try dsimp only
  repeat' first | with_reducible assumption | with_reducible apply kept_ite | with_reducible apply kept_ite1 | with_reducible apply kept_ite2 | (with_reducible refine kept_forAll (fun _ _ _ => ?_) ?_) | (with_reducible refine kept_foldl (fun _ _ _ => ?_) ?_) | (with_reducible refine kept_foldl1 (fun _ _ _ => ?_) ?_) | with_reducible apply kept_gated | with_reducible apply kept_endCommand | with_reducible apply hk | fail_if_no_progress (with_reducible apply kept_mk) | (with_reducible refine kept_of_eq (by with_reducible assumption) ?_) | intro _ _ | split | dsimp only

theorem kept_liteGated {s0 s : State} (q : Requester) (k : Nat) (f : State → State × Code) (hf : ∀ x, Kept s0 x → Kept s0 (f x).1) (h : Kept s0 s) : Kept s0 (liteGated q k s f) := by
  unfold liteGated
  try dsimp only
  repeat' first | with_reducible assumption | with_reducible apply kept_ite | with_reducible apply kept_ite1 | with_reducible apply kept_ite2 | (with_reducible refine kept_forAll (fun _ _ _ => ?_) ?_) | (with_reducible refine kept_foldl (fun _ _ _ => ?_) ?_) | (with_reducible refine kept_foldl1 (fun _ _ _ => ?_) ?_) | with_reducible apply kept_gated | with_reducible apply kept_endCommand | with_reducible apply hf | fail_if_no_progress (with_reducible apply kept_mk) | (with_reducible refine kept_of_eq (by with_reducible assumption) ?_) | intro _ _ | split | dsimp only

theorem kept_setLfsr {s0 s : State} (a : Nat) (n : Nat) (h : Kept s0 s) : Kept s0 (setLfsr s a n) := by
  unfold setLfsr
  try dsimp only
  repeat' first | with_reducible assumption | with_reducible apply kept_ite | with_reducible apply kept_ite1 | with_reducible apply kept_ite2 | (with_reducible refine kept_forAll (fun _ _ _ => ?_) ?_) | (with_reducible refine kept_foldl (fun _ _ _ => ?_) ?_) | (with_reducible refine kept_foldl1 (fun _ _ _ => ?_) ?_) | fail_if_no_progress (with_reducible apply kept_mk) | (with_reducible refine kept_of_eq (by with_reducible assumption) ?_) | intro _ _ | split | dsimp only

theorem kept_setLastGrant {s0 s : State} (a : Nat) (c : Nat) (id : Nat) (h : Kept s0 s) : Kept s0 (setLastGrant s a c id) := by
  unfold setLastGrant
  try dsimp only
  repeat' first | with_reducible assumption | with_reducible apply kept_ite | with_reducible apply kept_ite1 | with_reducible apply kept_ite2 | (with_reducible refine kept_forAll (fun _ _ _ => ?_) ?_) | (with_reducible refine kept_foldl (fun _ _ _ => ?_) ?_) | (with_reducible refine kept_foldl1 (fun _ _ _ => ?_) ?_) | fail_if_no_progress (with_reducible apply kept_mk) | (with_reducible refine kept_of_eq (by with_reducible assumption) ?_) | intro _ _ | split | dsimp only

theorem kept_decide1 {s0 s : State} (a : Nat) (contenders : List Nat) (h : Kept s0 s) : Kept s0 (decide1 s a contenders).1 := by
  unfold decide1
  try dsimp only
  repeat' first | with_reducible assumption | with_reducible apply kept_ite | with_reducible apply kept_ite1 | with_reducible apply kept_ite2 | (with_reducible refine kept_forAll (fun _ _ _ => ?_) ?_) | (with_reducible refine kept_foldl (fun _ _ _ => ?_) ?_) | (with_reducible refine kept_foldl1 (fun _ _ _ => ?_) ?_) | with_reducible apply kept_setLfsr | with_reducible apply kept_wr | with_reducible apply kept_setLastGrant | fail_if_no_progress (with_reducible apply kept_mk) | (with_reducible refine kept_of_eq (by with_reducible assumption) ?_) | intro _ _ | split | dsimp only

theorem kept_squallDecision {s0 s : State} (a : Nat) (h : Kept s0 s) : Kept s0 (squallDecision s a) := by
  unfold squallDecision
  try dsimp only
  repeat' first | with_reducible assumption | with_reducible apply kept_ite | with_reducible apply kept_ite1 | with_reducible apply kept_ite2 | (with_reducible refine kept_forAll (fun _ _ _ => ?_) ?_) | (with_reducible refine kept_foldl (fun _ _ _ => ?_) ?_) | (with_reducible refine kept_foldl1 (fun _ _ _ => ?_) ?_) | with_reducible apply kept_setLfsr | with_reducible apply kept_wr | fail_if_no_progress (with_reducible apply kept_mk) | (with_reducible refine kept_of_eq (by with_reducible assumption) ?_) | intro _ _ | split | dsimp only

theorem kept_setFabric {s0 s : State} (f : Fabric) (h : Kept s0 s) : Kept s0 (setFabric s f) := by
  unfold setFabric
  try dsimp only
  repeat' first | with_reducible assumption | with_reducible apply kept_ite | with_reducible apply kept_ite1 | with_reducible apply kept_ite2 | (with_reducible refine kept_forAll (fun _ _ _ => ?_) ?_) | (with_reducible refine kept_foldl (fun _ _ _ => ?_) ?_) | (with_reducible refine kept_foldl1 (fun _ _ _ => ?_) ?_) | fail_if_no_progress (with_reducible apply kept_mk) | (with_reducible refine kept_of_eq (by with_reducible assumption) ?_) | intro _ _ | split | dsimp only

theorem kept_countGrant {s0 s : State} (id : Nat) (h : Kept s0 s) : Kept s0 (countGrant s id) := by
  unfold countGrant
  try dsimp only
  repeat' first | with_reducible assumption | with_reducible apply kept_ite | with_reducible apply kept_ite1 | with_reducible apply kept_ite2 | (with_reducible refine kept_forAll (fun _ _ _ => ?_) ?_) | (with_reducible refine kept_foldl (fun _ _ _ => ?_) ?_) | (with_reducible refine kept_foldl1 (fun _ _ _ => ?_) ?_) | with_reducible apply kept_bump | with_reducible apply kept_setFld | with_reducible apply kept_setFabric | fail_if_no_progress (with_reducible apply kept_mk) | (with_reducible refine kept_of_eq (by with_reducible assumption) ?_) | intro _ _ | split | dsimp only

theorem kept_grantDebug {s0 s : State}  (h : Kept s0 s) : Kept s0 (grantDebug s) := by
  unfold grantDebug
  try dsimp only
  repeat' first | with_reducible assumption | with_reducible apply kept_ite | with_reducible apply kept_ite1 | with_reducible apply kept_ite2 | (with_reducible refine kept_forAll (fun _ _ _ => ?_) ?_) | (with_reducible refine kept_foldl (fun _ _ _ => ?_) ?_) | (with_reducible refine kept_foldl1 (fun _ _ _ => ?_) ?_) | with_reducible apply kept_countGrant | with_reducible apply kept_squallDecision | with_reducible apply kept_setFabric | fail_if_no_progress (with_reducible apply kept_mk) | (with_reducible refine kept_of_eq (by with_reducible assumption) ?_) | intro _ _ | split | dsimp only

theorem kept_nextTransfer {s0 s : State}  (h : Kept s0 s) : Kept s0 (nextTransfer s) := by
  unfold nextTransfer
  try dsimp only
  repeat' first | with_reducible assumption | with_reducible apply kept_ite | with_reducible apply kept_ite1 | with_reducible apply kept_ite2 | (with_reducible refine kept_forAll (fun _ _ _ => ?_) ?_) | (with_reducible refine kept_foldl (fun _ _ _ => ?_) ?_) | (with_reducible refine kept_foldl1 (fun _ _ _ => ?_) ?_) | with_reducible apply kept_setFabric | with_reducible apply kept_grantDebug | with_reducible apply kept_decide1 | with_reducible apply kept_countGrant | fail_if_no_progress (with_reducible apply kept_mk) | (with_reducible refine kept_of_eq (by with_reducible assumption) ?_) | intro _ _ | split | dsimp only

theorem kept_fabricCycle {s0 s : State}  (h : Kept s0 s) : Kept s0 (fabricCycle s) := by
  unfold fabricCycle
  try dsimp only
  repeat' first | with_reducible assumption | with_reducible apply kept_ite | with_reducible apply kept_ite1 | with_reducible apply kept_ite2 | (with_reducible refine kept_forAll (fun _ _ _ => ?_) ?_) | (with_reducible refine kept_foldl (fun _ _ _ => ?_) ?_) | (with_reducible refine kept_foldl1 (fun _ _ _ => ?_) ?_) | with_reducible apply kept_setFabric | with_reducible apply kept_nextTransfer | with_reducible apply kept_grantDebug | with_reducible apply kept_bumpSat | fail_if_no_progress (with_reducible apply kept_mk) | (with_reducible refine kept_of_eq (by with_reducible assumption) ?_) | intro _ _ | split | dsimp only

theorem kept_fabricRun {s0 s : State} (n : Nat) (h : Kept s0 s) : Kept s0 (fabricRun n s) := by
  induction n generalizing s with
  | zero => exact h
  | succ n ih => exact ih (kept_fabricCycle h)

theorem kept_presentRequests {s0 s : State} (reqs : List Transfer) (h : Kept s0 s) : Kept s0 (presentRequests s reqs) := by
  unfold presentRequests
  try dsimp only
  repeat' first | with_reducible assumption | with_reducible apply kept_ite | with_reducible apply kept_ite1 | with_reducible apply kept_ite2 | (with_reducible refine kept_forAll (fun _ _ _ => ?_) ?_) | (with_reducible refine kept_foldl (fun _ _ _ => ?_) ?_) | (with_reducible refine kept_foldl1 (fun _ _ _ => ?_) ?_) | with_reducible apply kept_setFabric | with_reducible apply kept_fabricCycle | fail_if_no_progress (with_reducible apply kept_mk) | (with_reducible refine kept_of_eq (by with_reducible assumption) ?_) | intro _ _ | split | dsimp only

theorem kept_bankDecision {s0 s : State} (b : Nat) (ids : List Nat) (h : Kept s0 s) : Kept s0 (bankDecision s b ids) := by
  unfold bankDecision
  try dsimp only
  repeat' first | with_reducible assumption | with_reducible apply kept_ite | with_reducible apply kept_ite1 | with_reducible apply kept_ite2 | (with_reducible refine kept_forAll (fun _ _ _ => ?_) ?_) | (with_reducible refine kept_foldl (fun _ _ _ => ?_) ?_) | (with_reducible refine kept_foldl1 (fun _ _ _ => ?_) ?_) | with_reducible apply kept_decide1 | with_reducible apply kept_setFabric | fail_if_no_progress (with_reducible apply kept_mk) | (with_reducible refine kept_of_eq (by with_reducible assumption) ?_) | intro _ _ | split | dsimp only

theorem kept_seedArbiter {s0 s : State} (bank : Bool) (seed : Nat) (h : Kept s0 s) : Kept s0 (seedArbiter s bank seed) := by
  unfold seedArbiter
  try dsimp only
  repeat' first | with_reducible assumption | with_reducible apply kept_ite | with_reducible apply kept_ite1 | with_reducible apply kept_ite2 | (with_reducible refine kept_forAll (fun _ _ _ => ?_) ?_) | (with_reducible refine kept_foldl (fun _ _ _ => ?_) ?_) | (with_reducible refine kept_foldl1 (fun _ _ _ => ?_) ?_) | with_reducible apply kept_setLfsr | fail_if_no_progress (with_reducible apply kept_mk) | (with_reducible refine kept_of_eq (by with_reducible assumption) ?_) | intro _ _ | split | dsimp only

theorem kept_seedWrite {s0 s : State} (bank : Bool) (v : Word) (h : Kept s0 s) : Kept s0 (seedWrite s bank v).1 := by
  unfold seedWrite
  try dsimp only
  repeat' first | with_reducible assumption | with_reducible apply kept_ite | with_reducible apply kept_ite1 | with_reducible apply kept_ite2 | (with_reducible refine kept_forAll (fun _ _ _ => ?_) ?_) | (with_reducible refine kept_foldl (fun _ _ _ => ?_) ?_) | (with_reducible refine kept_foldl1 (fun _ _ _ => ?_) ?_) | with_reducible apply kept_seedArbiter | with_reducible apply kept_wr | fail_if_no_progress (with_reducible apply kept_mk) | (with_reducible refine kept_of_eq (by with_reducible assumption) ?_) | intro _ _ | split | dsimp only

theorem kept_freeLock {s0 s : State} (n : Nat) (broken : Bool) (h : Kept s0 s) : Kept s0 (freeLock s n broken) := by
  unfold freeLock
  try dsimp only
  repeat' first | with_reducible assumption | with_reducible apply kept_ite | with_reducible apply kept_ite1 | with_reducible apply kept_ite2 | (with_reducible refine kept_forAll (fun _ _ _ => ?_) ?_) | (with_reducible refine kept_foldl (fun _ _ _ => ?_) ?_) | (with_reducible refine kept_foldl1 (fun _ _ _ => ?_) ?_) | with_reducible apply kept_setFld | with_reducible apply kept_setBit | fail_if_no_progress (with_reducible apply kept_mk) | (with_reducible refine kept_of_eq (by with_reducible assumption) ?_) | intro _ _ | split | dsimp only

theorem kept_lockAnswer {s0 s : State} (n : Nat) (c : Code) (got : Bool) (h : Kept s0 s) : Kept s0 (lockAnswer s n c got) := by
  unfold lockAnswer
  try dsimp only
  repeat' first | with_reducible assumption | with_reducible apply kept_ite | with_reducible apply kept_ite1 | with_reducible apply kept_ite2 | (with_reducible refine kept_forAll (fun _ _ _ => ?_) ?_) | (with_reducible refine kept_foldl (fun _ _ _ => ?_) ?_) | (with_reducible refine kept_foldl1 (fun _ _ _ => ?_) ?_) | with_reducible apply kept_answer | fail_if_no_progress (with_reducible apply kept_mk) | (with_reducible refine kept_of_eq (by with_reducible assumption) ?_) | intro _ _ | split | dsimp only

theorem kept_takeLock {s0 s : State} (n : Nat) (req : Nat) (ctx : Nat) (h : Kept s0 s) : Kept s0 (takeLock s n req ctx) := by
  unfold takeLock
  try dsimp only
  repeat' first | with_reducible assumption | with_reducible apply kept_ite | with_reducible apply kept_ite1 | with_reducible apply kept_ite2 | (with_reducible refine kept_forAll (fun _ _ _ => ?_) ?_) | (with_reducible refine kept_foldl (fun _ _ _ => ?_) ?_) | (with_reducible refine kept_foldl1 (fun _ _ _ => ?_) ?_) | with_reducible apply kept_setFld | with_reducible apply kept_setBit | fail_if_no_progress (with_reducible apply kept_mk) | (with_reducible refine kept_of_eq (by with_reducible assumption) ?_) | intro _ _ | split | dsimp only

theorem kept_lockAcquire {s0 s : State} (req : Nat) (ctx : Nat) (n : Nat) (h : Kept s0 s) : Kept s0 (lockAcquire s req ctx n) := by
  unfold lockAcquire
  try dsimp only
  repeat' first | with_reducible assumption | with_reducible apply kept_ite | with_reducible apply kept_ite1 | with_reducible apply kept_ite2 | (with_reducible refine kept_forAll (fun _ _ _ => ?_) ?_) | (with_reducible refine kept_foldl (fun _ _ _ => ?_) ?_) | (with_reducible refine kept_foldl1 (fun _ _ _ => ?_) ?_) | with_reducible apply kept_wr | with_reducible apply kept_lockAnswer | with_reducible apply kept_raiseBit | with_reducible apply kept_takeLock | fail_if_no_progress (with_reducible apply kept_mk) | (with_reducible refine kept_of_eq (by with_reducible assumption) ?_) | intro _ _ | split | dsimp only

theorem kept_lockRelease {s0 s : State} (req : Nat) (ctx : Nat) (n : Nat) (v : Word) (h : Kept s0 s) : Kept s0 (lockRelease s req ctx n v).1 := by
  unfold lockRelease
  try dsimp only
  repeat' first | with_reducible assumption | with_reducible apply kept_ite | with_reducible apply kept_ite1 | with_reducible apply kept_ite2 | (with_reducible refine kept_forAll (fun _ _ _ => ?_) ?_) | (with_reducible refine kept_foldl (fun _ _ _ => ?_) ?_) | (with_reducible refine kept_foldl1 (fun _ _ _ => ?_) ?_) | with_reducible apply kept_freeLock | fail_if_no_progress (with_reducible apply kept_mk) | (with_reducible refine kept_of_eq (by with_reducible assumption) ?_) | intro _ _ | split | dsimp only

theorem kept_lockFree {s0 s : State} (v : Word) (h : Kept s0 s) : Kept s0 (lockFree s v).1 := by
  unfold lockFree
  try dsimp only
  repeat' first | with_reducible assumption | with_reducible apply kept_ite | with_reducible apply kept_ite1 | with_reducible apply kept_ite2 | (with_reducible refine kept_forAll (fun _ _ _ => ?_) ?_) | (with_reducible refine kept_foldl (fun _ _ _ => ?_) ?_) | (with_reducible refine kept_foldl1 (fun _ _ _ => ?_) ?_) | with_reducible apply kept_freeLock | fail_if_no_progress (with_reducible apply kept_mk) | (with_reducible refine kept_of_eq (by with_reducible assumption) ?_) | intro _ _ | split | dsimp only

theorem kept_breakLocks {s0 s : State} (req : Nat) (h : Kept s0 s) : Kept s0 (breakLocks s req) := by
  unfold breakLocks
  try dsimp only
  repeat' first | with_reducible assumption | with_reducible apply kept_ite | with_reducible apply kept_ite1 | with_reducible apply kept_ite2 | (with_reducible refine kept_forAll (fun _ _ _ => ?_) ?_) | (with_reducible refine kept_foldl (fun _ _ _ => ?_) ?_) | (with_reducible refine kept_foldl1 (fun _ _ _ => ?_) ?_) | with_reducible apply kept_raiseBit | with_reducible apply kept_freeLock | fail_if_no_progress (with_reducible apply kept_mk) | (with_reducible refine kept_of_eq (by with_reducible assumption) ?_) | intro _ _ | split | dsimp only

theorem kept_lockServed {s0 s : State} (o : LockOwner) (k : State → State) (hk : ∀ x, Kept s0 x → Kept s0 (k x)) (h : Kept s0 s) : Kept s0 (lockServed s o k) := by
  unfold lockServed
  try dsimp only
  repeat' first | with_reducible assumption | with_reducible apply kept_ite | with_reducible apply kept_ite1 | with_reducible apply kept_ite2 | (with_reducible refine kept_forAll (fun _ _ _ => ?_) ?_) | (with_reducible refine kept_foldl (fun _ _ _ => ?_) ?_) | (with_reducible refine kept_foldl1 (fun _ _ _ => ?_) ?_) | with_reducible apply kept_answer | with_reducible apply kept_served | with_reducible apply hk | fail_if_no_progress (with_reducible apply kept_mk) | (with_reducible refine kept_of_eq (by with_reducible assumption) ?_) | intro _ _ | split | dsimp only

theorem kept_setBus {s0 s : State} (b : Nat) (x : CanBus) (h : Kept s0 s) : Kept s0 (setBus s b x) := by
  unfold setBus
  try dsimp only
  repeat' first | with_reducible assumption | with_reducible apply kept_ite | with_reducible apply kept_ite1 | with_reducible apply kept_ite2 | (with_reducible refine kept_forAll (fun _ _ _ => ?_) ?_) | (with_reducible refine kept_foldl (fun _ _ _ => ?_) ?_) | (with_reducible refine kept_foldl1 (fun _ _ _ => ?_) ?_) | fail_if_no_progress (with_reducible apply kept_mk) | (with_reducible refine kept_of_eq (by with_reducible assumption) ?_) | intro _ _ | split | dsimp only

theorem kept_setFbSt {s0 s : State} (b : Nat) (st : Nat) (h : Kept s0 s) : Kept s0 (setFbSt s b st) := by
  unfold setFbSt
  try dsimp only
  repeat' first | with_reducible assumption | with_reducible apply kept_ite | with_reducible apply kept_ite1 | with_reducible apply kept_ite2 | (with_reducible refine kept_forAll (fun _ _ _ => ?_) ?_) | (with_reducible refine kept_foldl (fun _ _ _ => ?_) ?_) | (with_reducible refine kept_foldl1 (fun _ _ _ => ?_) ?_) | with_reducible apply kept_setFld | fail_if_no_progress (with_reducible apply kept_mk) | (with_reducible refine kept_of_eq (by with_reducible assumption) ?_) | intro _ _ | split | dsimp only

theorem kept_setFbSub {s0 s : State} (b : Nat) (n : Nat) (h : Kept s0 s) : Kept s0 (setFbSub s b n) := by
  unfold setFbSub
  try dsimp only
  repeat' first | with_reducible assumption | with_reducible apply kept_ite | with_reducible apply kept_ite1 | with_reducible apply kept_ite2 | (with_reducible refine kept_forAll (fun _ _ _ => ?_) ?_) | (with_reducible refine kept_foldl (fun _ _ _ => ?_) ?_) | (with_reducible refine kept_foldl1 (fun _ _ _ => ?_) ?_) | with_reducible apply kept_setFld | fail_if_no_progress (with_reducible apply kept_mk) | (with_reducible refine kept_of_eq (by with_reducible assumption) ?_) | intro _ _ | split | dsimp only

theorem kept_canRaise {s0 s : State} (b : Nat) (n : Nat) (h : Kept s0 s) : Kept s0 (canRaise s b n) := by
  unfold canRaise
  try dsimp only
  repeat' first | with_reducible assumption | with_reducible apply kept_ite | with_reducible apply kept_ite1 | with_reducible apply kept_ite2 | (with_reducible refine kept_forAll (fun _ _ _ => ?_) ?_) | (with_reducible refine kept_foldl (fun _ _ _ => ?_) ?_) | (with_reducible refine kept_foldl1 (fun _ _ _ => ?_) ?_) | with_reducible apply kept_raiseBit | fail_if_no_progress (with_reducible apply kept_mk) | (with_reducible refine kept_of_eq (by with_reducible assumption) ?_) | intro _ _ | split | dsimp only

theorem kept_startCan {s0 s : State} (b : Nat) (h : Kept s0 s) : Kept s0 (startCan s b) := by
  unfold startCan
  try dsimp only
  repeat' first | with_reducible assumption | with_reducible apply kept_ite | with_reducible apply kept_ite1 | with_reducible apply kept_ite2 | (with_reducible refine kept_forAll (fun _ _ _ => ?_) ?_) | (with_reducible refine kept_foldl (fun _ _ _ => ?_) ?_) | (with_reducible refine kept_foldl1 (fun _ _ _ => ?_) ?_) | with_reducible apply kept_setBus | with_reducible apply kept_setFbSub | with_reducible apply kept_setFbSt | fail_if_no_progress (with_reducible apply kept_mk) | (with_reducible refine kept_of_eq (by with_reducible assumption) ?_) | intro _ _ | split | dsimp only

theorem kept_setBuf {s0 s : State} (b : Nat) (n : Nat) (st : Nat) (h : Kept s0 s) : Kept s0 (setBuf s b n st) := by
  unfold setBuf
  try dsimp only
  repeat' first | with_reducible assumption | with_reducible apply kept_ite | with_reducible apply kept_ite1 | with_reducible apply kept_ite2 | (with_reducible refine kept_forAll (fun _ _ _ => ?_) ?_) | (with_reducible refine kept_foldl (fun _ _ _ => ?_) ?_) | (with_reducible refine kept_foldl1 (fun _ _ _ => ?_) ?_) | with_reducible apply kept_setBit | with_reducible apply kept_setFld | fail_if_no_progress (with_reducible apply kept_mk) | (with_reducible refine kept_of_eq (by with_reducible assumption) ?_) | intro _ _ | split | dsimp only

theorem kept_failBuf {s0 s : State} (b : Nat) (n : Nat) (st : Nat) (h : Kept s0 s) : Kept s0 (failBuf s b n st) := by
  unfold failBuf
  try dsimp only
  repeat' first | with_reducible assumption | with_reducible apply kept_ite | with_reducible apply kept_ite1 | with_reducible apply kept_ite2 | (with_reducible refine kept_forAll (fun _ _ _ => ?_) ?_) | (with_reducible refine kept_foldl (fun _ _ _ => ?_) ?_) | (with_reducible refine kept_foldl1 (fun _ _ _ => ?_) ?_) | with_reducible apply kept_canRaise | with_reducible apply kept_setBuf | fail_if_no_progress (with_reducible apply kept_mk) | (with_reducible refine kept_of_eq (by with_reducible assumption) ?_) | intro _ _ | split | dsimp only

theorem kept_failPending {s0 s : State} (b : Nat) (st : Nat) (h : Kept s0 s) : Kept s0 (failPending s b st) := by
  unfold failPending
  try dsimp only
  repeat' first | with_reducible assumption | with_reducible apply kept_ite | with_reducible apply kept_ite1 | with_reducible apply kept_ite2 | (with_reducible refine kept_forAll (fun _ _ _ => ?_) ?_) | (with_reducible refine kept_foldl (fun _ _ _ => ?_) ?_) | (with_reducible refine kept_foldl1 (fun _ _ _ => ?_) ?_) | with_reducible apply kept_failBuf | fail_if_no_progress (with_reducible apply kept_mk) | (with_reducible refine kept_of_eq (by with_reducible assumption) ?_) | intro _ _ | split | dsimp only

theorem kept_noActive {s0 s : State} (b : Nat) (h : Kept s0 s) : Kept s0 (noActive s b) := by
  unfold noActive
  try dsimp only
  repeat' first | with_reducible assumption | with_reducible apply kept_ite | with_reducible apply kept_ite1 | with_reducible apply kept_ite2 | (with_reducible refine kept_forAll (fun _ _ _ => ?_) ?_) | (with_reducible refine kept_foldl (fun _ _ _ => ?_) ?_) | (with_reducible refine kept_foldl1 (fun _ _ _ => ?_) ?_) | with_reducible apply kept_setBus | fail_if_no_progress (with_reducible apply kept_mk) | (with_reducible refine kept_of_eq (by with_reducible assumption) ?_) | intro _ _ | split | dsimp only

theorem kept_txChoice {s0 s : State} (b : Nat) (h : Kept s0 s) : Kept s0 (txChoice s b) := by
  unfold txChoice
  try dsimp only
  repeat' first | with_reducible assumption | with_reducible apply kept_ite | with_reducible apply kept_ite1 | with_reducible apply kept_ite2 | (with_reducible refine kept_forAll (fun _ _ _ => ?_) ?_) | (with_reducible refine kept_foldl (fun _ _ _ => ?_) ?_) | (with_reducible refine kept_foldl1 (fun _ _ _ => ?_) ?_) | with_reducible apply kept_setBus | with_reducible apply kept_bumpFld | with_reducible apply kept_setBuf | fail_if_no_progress (with_reducible apply kept_mk) | (with_reducible refine kept_of_eq (by with_reducible assumption) ?_) | intro _ _ | split | dsimp only

theorem kept_setCounters {s0 s : State} (b : Nat) (tec : Nat) (recv : Nat) (h : Kept s0 s) : Kept s0 (setCounters s b tec recv) := by
  unfold setCounters
  try dsimp only
  repeat' first | with_reducible assumption | with_reducible apply kept_ite | with_reducible apply kept_ite1 | with_reducible apply kept_ite2 | (with_reducible refine kept_forAll (fun _ _ _ => ?_) ?_) | (with_reducible refine kept_foldl (fun _ _ _ => ?_) ?_) | (with_reducible refine kept_foldl1 (fun _ _ _ => ?_) ?_) | with_reducible apply kept_wr | with_reducible apply kept_setBus | fail_if_no_progress (with_reducible apply kept_mk) | (with_reducible refine kept_of_eq (by with_reducible assumption) ?_) | intro _ _ | split | dsimp only

theorem kept_errorState {s0 s : State} (b : Nat) (wasTec : Nat) (wasRec : Nat) (h : Kept s0 s) : Kept s0 (errorState s b wasTec wasRec) := by
  unfold errorState
  try dsimp only
  repeat' first | with_reducible assumption | with_reducible apply kept_ite | with_reducible apply kept_ite1 | with_reducible apply kept_ite2 | (with_reducible refine kept_forAll (fun _ _ _ => ?_) ?_) | (with_reducible refine kept_foldl (fun _ _ _ => ?_) ?_) | (with_reducible refine kept_foldl1 (fun _ _ _ => ?_) ?_) | with_reducible apply kept_canRaise | with_reducible apply kept_failPending | with_reducible apply kept_setFbSub | with_reducible apply kept_noActive | fail_if_no_progress (with_reducible apply kept_mk) | (with_reducible refine kept_of_eq (by with_reducible assumption) ?_) | intro _ _ | split | dsimp only

theorem kept_count {s0 s : State} (b : Nat) (tec : Nat) (recv : Nat) (h : Kept s0 s) : Kept s0 (count s b tec recv) := by
  unfold count
  try dsimp only
  repeat' first | with_reducible assumption | with_reducible apply kept_ite | with_reducible apply kept_ite1 | with_reducible apply kept_ite2 | (with_reducible refine kept_forAll (fun _ _ _ => ?_) ?_) | (with_reducible refine kept_foldl (fun _ _ _ => ?_) ?_) | (with_reducible refine kept_foldl1 (fun _ _ _ => ?_) ?_) | with_reducible apply kept_errorState | with_reducible apply kept_setCounters | fail_if_no_progress (with_reducible apply kept_mk) | (with_reducible refine kept_of_eq (by with_reducible assumption) ?_) | intro _ _ | split | dsimp only

theorem kept_countGood {s0 s : State} (b : Nat) (h : Kept s0 s) : Kept s0 (countGood s b) := by
  unfold countGood
  try dsimp only
  repeat' first | with_reducible assumption | with_reducible apply kept_ite | with_reducible apply kept_ite1 | with_reducible apply kept_ite2 | (with_reducible refine kept_forAll (fun _ _ _ => ?_) ?_) | (with_reducible refine kept_foldl (fun _ _ _ => ?_) ?_) | (with_reducible refine kept_foldl1 (fun _ _ _ => ?_) ?_) | with_reducible apply kept_takeFree | with_reducible apply kept_count | fail_if_no_progress (with_reducible apply kept_mk) | (with_reducible refine kept_of_eq (by with_reducible assumption) ?_) | intro _ _ | split | dsimp only

theorem kept_idClash {s0 s : State} (b : Nat) (n : Nat) (pos : BitVec 12) (h : Kept s0 s) : Kept s0 (idClash s b n pos) := by
  unfold idClash
  try dsimp only
  repeat' first | with_reducible assumption | with_reducible apply kept_ite | with_reducible apply kept_ite1 | with_reducible apply kept_ite2 | (with_reducible refine kept_forAll (fun _ _ _ => ?_) ?_) | (with_reducible refine kept_foldl (fun _ _ _ => ?_) ?_) | (with_reducible refine kept_foldl1 (fun _ _ _ => ?_) ?_) | with_reducible apply kept_wr | with_reducible apply kept_canRaise | fail_if_no_progress (with_reducible apply kept_mk) | (with_reducible refine kept_of_eq (by with_reducible assumption) ?_) | intro _ _ | split | dsimp only

theorem kept_attemptFails {s0 s : State} (b : Nat) (n : Nat) (h : Kept s0 s) : Kept s0 (attemptFails s b n) := by
  unfold attemptFails
  try dsimp only
  repeat' first | with_reducible assumption | with_reducible apply kept_ite | with_reducible apply kept_ite1 | with_reducible apply kept_ite2 | (with_reducible refine kept_forAll (fun _ _ _ => ?_) ?_) | (with_reducible refine kept_foldl (fun _ _ _ => ?_) ?_) | (with_reducible refine kept_foldl1 (fun _ _ _ => ?_) ?_) | with_reducible apply kept_noActive | with_reducible apply kept_failBuf | with_reducible apply kept_setBuf | fail_if_no_progress (with_reducible apply kept_mk) | (with_reducible refine kept_of_eq (by with_reducible assumption) ?_) | intro _ _ | split | dsimp only

theorem kept_canError {s0 s : State} (b : Nat) (x : CanErr) (h : Kept s0 s) : Kept s0 (canError s b x) := by
  unfold canError
  try dsimp only
  repeat' first | with_reducible assumption | with_reducible apply kept_ite | with_reducible apply kept_ite1 | with_reducible apply kept_ite2 | (with_reducible refine kept_forAll (fun _ _ _ => ?_) ?_) | (with_reducible refine kept_foldl (fun _ _ _ => ?_) ?_) | (with_reducible refine kept_foldl1 (fun _ _ _ => ?_) ?_) | with_reducible apply kept_wr | with_reducible apply kept_bumpSat | with_reducible apply kept_idClash | with_reducible apply kept_attemptFails | with_reducible apply kept_count | with_reducible apply kept_txChoice | fail_if_no_progress (with_reducible apply kept_mk) | (with_reducible refine kept_of_eq (by with_reducible assumption) ?_) | intro _ _ | split | dsimp only

theorem kept_countLost1 {s0 s : State} (b : Nat) (h : Kept s0 s) : Kept s0 (countLost1 s b) := by
  unfold countLost1
  try dsimp only
  repeat' first | with_reducible assumption | with_reducible apply kept_ite | with_reducible apply kept_ite1 | with_reducible apply kept_ite2 | (with_reducible refine kept_forAll (fun _ _ _ => ?_) ?_) | (with_reducible refine kept_foldl (fun _ _ _ => ?_) ?_) | (with_reducible refine kept_foldl1 (fun _ _ _ => ?_) ?_) | with_reducible apply kept_bumpSat | fail_if_no_progress (with_reducible apply kept_mk) | (with_reducible refine kept_of_eq (by with_reducible assumption) ?_) | intro _ _ | split | dsimp only

theorem kept_ringEntry {s0 s : State} (b : Nat) (ws : List Word) (h : Kept s0 s) : Kept s0 (ringEntry s b ws) := by
  unfold ringEntry
  try dsimp only
  repeat' first | with_reducible assumption | with_reducible apply kept_ite | with_reducible apply kept_ite1 | with_reducible apply kept_ite2 | (with_reducible refine kept_forAll (fun _ _ _ => ?_) ?_) | (with_reducible refine kept_foldl (fun _ _ _ => ?_) ?_) | (with_reducible refine kept_foldl1 (fun _ _ _ => ?_) ?_) | with_reducible apply kept_canRaise | with_reducible apply kept_countLost1 | with_reducible apply kept_storeN | with_reducible apply kept_putBytes | with_reducible apply kept_setBus | fail_if_no_progress (with_reducible apply kept_mk) | (with_reducible refine kept_of_eq (by with_reducible assumption) ?_) | intro _ _ | split | dsimp only

theorem kept_takePacket {s0 s : State} (q n : Nat) (acc : List Word) (h : Kept s0 s) : Kept s0 (takePacket q n s acc).1 := by
  induction n generalizing s acc with
  | zero => exact h
  | succ n ih =>
    have ht : Kept s0 (takeItem s q).1 := kept_takeItem _ h
    unfold takePacket
    split
    · rename_i e; exact kept_of_eq e ht
    · rename_i e
      have hb := kept_of_eq e ht
      split
      · exact hb
      · exact ih _ hb

theorem kept_drainQueue {s0 s : State} (b q n : Nat) (h : Kept s0 s) : Kept s0 (drainQueue b q n s) := by
  induction n generalizing s with
  | zero => exact h
  | succ n ih =>
    have ht : Kept s0 (takePacket q 32768 s []).1 := kept_takePacket _ _ _ h
    unfold drainQueue
    split
    · rename_i e; exact kept_of_eq e ht
    · rename_i e; exact ih (kept_ringEntry _ _ (kept_of_eq e ht))

theorem kept_deliver {s0 s : State} (b : Nat) (x : CanFrame) (own : Bool) (h : Kept s0 s) : Kept s0 (deliver s b x own) := by
  unfold deliver
  try dsimp only
  repeat' first | with_reducible assumption | with_reducible apply kept_ite | with_reducible apply kept_ite1 | with_reducible apply kept_ite2 | (with_reducible refine kept_forAll (fun _ _ _ => ?_) ?_) | (with_reducible refine kept_foldl (fun _ _ _ => ?_) ?_) | (with_reducible refine kept_foldl1 (fun _ _ _ => ?_) ?_) | with_reducible apply kept_pushPacket | with_reducible apply kept_countDeny | with_reducible apply kept_setBus | with_reducible apply kept_canRaise | with_reducible apply kept_countLost1 | with_reducible apply kept_bump | with_reducible apply kept_drainQueue | fail_if_no_progress (with_reducible apply kept_mk) | (with_reducible refine kept_of_eq (by with_reducible assumption) ?_) | intro _ _ | split | dsimp only

theorem kept_canFrameReceived {s0 s : State} (b : Nat) (x : CanFrame) (h : Kept s0 s) : Kept s0 (canFrameReceived s b x) := by
  unfold canFrameReceived
  try dsimp only
  repeat' first | with_reducible assumption | with_reducible apply kept_ite | with_reducible apply kept_ite1 | with_reducible apply kept_ite2 | (with_reducible refine kept_forAll (fun _ _ _ => ?_) ?_) | (with_reducible refine kept_foldl (fun _ _ _ => ?_) ?_) | (with_reducible refine kept_foldl1 (fun _ _ _ => ?_) ?_) | with_reducible apply kept_txChoice | with_reducible apply kept_deliver | with_reducible apply kept_countGood | fail_if_no_progress (with_reducible apply kept_mk) | (with_reducible refine kept_of_eq (by with_reducible assumption) ?_) | intro _ _ | split | dsimp only

theorem kept_requestBuf {s0 s : State} (b : Nat) (n : Nat) (h : Kept s0 s) : Kept s0 (requestBuf s b n) := by
  unfold requestBuf
  try dsimp only
  repeat' first | with_reducible assumption | with_reducible apply kept_ite | with_reducible apply kept_ite1 | with_reducible apply kept_ite2 | (with_reducible refine kept_forAll (fun _ _ _ => ?_) ?_) | (with_reducible refine kept_foldl (fun _ _ _ => ?_) ?_) | (with_reducible refine kept_foldl1 (fun _ _ _ => ?_) ?_) | with_reducible apply kept_setBuf | with_reducible apply kept_wr | fail_if_no_progress (with_reducible apply kept_mk) | (with_reducible refine kept_of_eq (by with_reducible assumption) ?_) | intro _ _ | split | dsimp only

theorem kept_canTxRequest {s0 s : State} (b : Nat) (v : Word) (idle : Bool) (h : Kept s0 s) : Kept s0 (canTxRequest s b v idle).1 := by
  unfold canTxRequest
  try dsimp only
  repeat' first | with_reducible assumption | with_reducible apply kept_ite | with_reducible apply kept_ite1 | with_reducible apply kept_ite2 | (with_reducible refine kept_forAll (fun _ _ _ => ?_) ?_) | (with_reducible refine kept_foldl (fun _ _ _ => ?_) ?_) | (with_reducible refine kept_foldl1 (fun _ _ _ => ?_) ?_) | with_reducible apply kept_requestBuf | with_reducible apply kept_idle | with_reducible apply kept_txChoice | fail_if_no_progress (with_reducible apply kept_mk) | (with_reducible refine kept_of_eq (by with_reducible assumption) ?_) | intro _ _ | split | dsimp only

theorem kept_canTxDone {s0 s : State} (b : Nat) (sof : DWord) (tdcv : BitVec 7) (h : Kept s0 s) : Kept s0 (canTxDone s b sof tdcv) := by
  unfold canTxDone
  try dsimp only
  repeat' first | with_reducible assumption | with_reducible apply kept_ite | with_reducible apply kept_ite1 | with_reducible apply kept_ite2 | (with_reducible refine kept_forAll (fun _ _ _ => ?_) ?_) | (with_reducible refine kept_foldl (fun _ _ _ => ?_) ?_) | (with_reducible refine kept_foldl1 (fun _ _ _ => ?_) ?_) | with_reducible apply kept_setFld | with_reducible apply kept_setBuf | with_reducible apply kept_noActive | with_reducible apply kept_wr | with_reducible apply kept_canRaise | with_reducible apply kept_count | with_reducible apply kept_deliver | with_reducible apply kept_txChoice | fail_if_no_progress (with_reducible apply kept_mk) | (with_reducible refine kept_of_eq (by with_reducible assumption) ?_) | intro _ _ | split | dsimp only

theorem kept_cancelBuf {s0 s : State} (ph : TxPhase) (b : Nat) (n : Nat) (h : Kept s0 s) : Kept s0 (cancelBuf ph b s n) := by
  unfold cancelBuf
  try dsimp only
  repeat' first | with_reducible assumption | with_reducible apply kept_ite | with_reducible apply kept_ite1 | with_reducible apply kept_ite2 | (with_reducible refine kept_forAll (fun _ _ _ => ?_) ?_) | (with_reducible refine kept_foldl (fun _ _ _ => ?_) ?_) | (with_reducible refine kept_foldl1 (fun _ _ _ => ?_) ?_) | with_reducible apply kept_failBuf | with_reducible apply kept_setFld | with_reducible apply kept_txChoice | with_reducible apply kept_noActive | with_reducible apply kept_setBus | fail_if_no_progress (with_reducible apply kept_mk) | (with_reducible refine kept_of_eq (by with_reducible assumption) ?_) | intro _ _ | split | dsimp only

theorem kept_canTxCancel {s0 s : State} (b : Nat) (v : Word) (ph : TxPhase) (h : Kept s0 s) : Kept s0 (canTxCancel s b v ph).1 := by
  unfold canTxCancel
  try dsimp only
  repeat' first | with_reducible assumption | with_reducible apply kept_ite | with_reducible apply kept_ite1 | with_reducible apply kept_ite2 | (with_reducible refine kept_forAll (fun _ _ _ => ?_) ?_) | (with_reducible refine kept_foldl (fun _ _ _ => ?_) ?_) | (with_reducible refine kept_foldl1 (fun _ _ _ => ?_) ?_) | with_reducible apply kept_cancelBuf | fail_if_no_progress (with_reducible apply kept_mk) | (with_reducible refine kept_of_eq (by with_reducible assumption) ?_) | intro _ _ | split | dsimp only

theorem kept_canCommand {s0 s : State} (b : Nat) (v : Word) (h : Kept s0 s) : Kept s0 (canCommand s b v).1 := by
  unfold canCommand
  try dsimp only
  repeat' first | with_reducible assumption | with_reducible apply kept_ite | with_reducible apply kept_ite1 | with_reducible apply kept_ite2 | (with_reducible refine kept_forAll (fun _ _ _ => ?_) ?_) | (with_reducible refine kept_foldl (fun _ _ _ => ?_) ?_) | (with_reducible refine kept_foldl1 (fun _ _ _ => ?_) ?_) | with_reducible apply kept_setFbSub | fail_if_no_progress (with_reducible apply kept_mk) | (with_reducible refine kept_of_eq (by with_reducible assumption) ?_) | intro _ _ | split | dsimp only

theorem kept_canOff {s0 s : State} (b : Nat) (h : Kept s0 s) : Kept s0 (canOff s b) := by
  unfold canOff
  try dsimp only
  repeat' first | with_reducible assumption | with_reducible apply kept_ite | with_reducible apply kept_ite1 | with_reducible apply kept_ite2 | (with_reducible refine kept_forAll (fun _ _ _ => ?_) ?_) | (with_reducible refine kept_foldl (fun _ _ _ => ?_) ?_) | (with_reducible refine kept_foldl1 (fun _ _ _ => ?_) ?_) | with_reducible apply kept_failBuf | with_reducible apply kept_failPending | with_reducible apply kept_noActive | with_reducible apply kept_setBus | with_reducible apply kept_setFbSub | with_reducible apply kept_setFbSt | with_reducible apply kept_startCan | with_reducible apply kept_setFld | fail_if_no_progress (with_reducible apply kept_mk) | (with_reducible refine kept_of_eq (by with_reducible assumption) ?_) | intro _ _ | split | dsimp only

theorem kept_refreshCan {s0 s : State}  (h : Kept s0 s) : Kept s0 (refreshCan s) := by
  unfold refreshCan
  try dsimp only
  repeat' first | with_reducible assumption | with_reducible apply kept_ite | with_reducible apply kept_ite1 | with_reducible apply kept_ite2 | (with_reducible refine kept_forAll (fun _ _ _ => ?_) ?_) | (with_reducible refine kept_foldl (fun _ _ _ => ?_) ?_) | (with_reducible refine kept_foldl1 (fun _ _ _ => ?_) ?_) | with_reducible apply kept_startCan | fail_if_no_progress (with_reducible apply kept_mk) | (with_reducible refine kept_of_eq (by with_reducible assumption) ?_) | intro _ _ | split | dsimp only

theorem kept_publishRing {s0 s : State} (b : Nat) (h : Kept s0 s) : Kept s0 (publishRing s b) := by
  unfold publishRing
  try dsimp only
  repeat' first | with_reducible assumption | with_reducible apply kept_ite | with_reducible apply kept_ite1 | with_reducible apply kept_ite2 | (with_reducible refine kept_forAll (fun _ _ _ => ?_) ?_) | (with_reducible refine kept_foldl (fun _ _ _ => ?_) ?_) | (with_reducible refine kept_foldl1 (fun _ _ _ => ?_) ?_) | with_reducible apply kept_setBus | with_reducible apply kept_storeN | with_reducible apply kept_packetNotice | fail_if_no_progress (with_reducible apply kept_mk) | (with_reducible refine kept_of_eq (by with_reducible assumption) ?_) | intro _ _ | split | dsimp only

theorem kept_resumeRings {s0 s : State}  (h : Kept s0 s) : Kept s0 (resumeRings s) := by
  unfold resumeRings
  try dsimp only
  repeat' first | with_reducible assumption | with_reducible apply kept_ite | with_reducible apply kept_ite1 | with_reducible apply kept_ite2 | (with_reducible refine kept_forAll (fun _ _ _ => ?_) ?_) | (with_reducible refine kept_foldl (fun _ _ _ => ?_) ?_) | (with_reducible refine kept_foldl1 (fun _ _ _ => ?_) ?_) | with_reducible apply kept_drainQueue | fail_if_no_progress (with_reducible apply kept_mk) | (with_reducible refine kept_of_eq (by with_reducible assumption) ?_) | intro _ _ | split | dsimp only

theorem kept_publishRings {s0 s : State}  (h : Kept s0 s) : Kept s0 (publishRings s) := by
  unfold publishRings
  try dsimp only
  repeat' first | with_reducible assumption | with_reducible apply kept_ite | with_reducible apply kept_ite1 | with_reducible apply kept_ite2 | (with_reducible refine kept_forAll (fun _ _ _ => ?_) ?_) | (with_reducible refine kept_foldl (fun _ _ _ => ?_) ?_) | (with_reducible refine kept_foldl1 (fun _ _ _ => ?_) ?_) | with_reducible apply kept_publishRing | fail_if_no_progress (with_reducible apply kept_mk) | (with_reducible refine kept_of_eq (by with_reducible assumption) ?_) | intro _ _ | split | dsimp only

theorem kept_takeEntries {s0 s : State} (b base txn n : Nat) (h : Kept s0 s) : Kept s0 (takeEntries b base txn n s) := by
  induction n generalizing s with
  | zero => exact h
  | succ n ih =>
    unfold takeEntries
    dsimp only
    split
    · exact ih (kept_storeN _ _ _ (kept_bumpSat _ _ (kept_storeN _ _ _ h)))
    · split
      · exact h
      · exact ih (kept_storeN _ _ _ (kept_requestBuf _ _ (kept_forAll (fun _ _ hx => kept_wr _ _ hx) (kept_wr _ _ (kept_wr _ _ h)))))

theorem kept_serveTxRing {s0 s : State} (b : Nat) (h : Kept s0 s) : Kept s0 (serveTxRing s b) := by
  unfold serveTxRing
  try dsimp only
  repeat' first | with_reducible assumption | with_reducible apply kept_ite | with_reducible apply kept_ite1 | with_reducible apply kept_ite2 | (with_reducible refine kept_forAll (fun _ _ _ => ?_) ?_) | (with_reducible refine kept_foldl (fun _ _ _ => ?_) ?_) | (with_reducible refine kept_foldl1 (fun _ _ _ => ?_) ?_) | with_reducible apply kept_storeN | with_reducible apply kept_txChoice | with_reducible apply kept_takeEntries | fail_if_no_progress (with_reducible apply kept_mk) | (with_reducible refine kept_of_eq (by with_reducible assumption) ?_) | intro _ _ | split | dsimp only

theorem kept_serveTxRings {s0 s : State}  (h : Kept s0 s) : Kept s0 (serveTxRings s) := by
  unfold serveTxRings
  try dsimp only
  repeat' first | with_reducible assumption | with_reducible apply kept_ite | with_reducible apply kept_ite1 | with_reducible apply kept_ite2 | (with_reducible refine kept_forAll (fun _ _ _ => ?_) ?_) | (with_reducible refine kept_foldl (fun _ _ _ => ?_) ?_) | (with_reducible refine kept_foldl1 (fun _ _ _ => ?_) ?_) | with_reducible apply kept_serveTxRing | fail_if_no_progress (with_reducible apply kept_mk) | (with_reducible refine kept_of_eq (by with_reducible assumption) ?_) | intro _ _ | split | dsimp only

theorem kept_canGated {s0 s : State} (q : Requester) (b : Nat) (off : Nat) (k : State → State × Code) (hk : ∀ x, Kept s0 x → Kept s0 (k x).1) (h : Kept s0 s) : Kept s0 (canGated q b off s k) := by
  unfold canGated
  try dsimp only
  repeat' first | with_reducible assumption | with_reducible apply kept_ite | with_reducible apply kept_ite1 | with_reducible apply kept_ite2 | (with_reducible refine kept_forAll (fun _ _ _ => ?_) ?_) | (with_reducible refine kept_foldl (fun _ _ _ => ?_) ?_) | (with_reducible refine kept_foldl1 (fun _ _ _ => ?_) ?_) | with_reducible apply kept_gated | with_reducible apply kept_endCommand | with_reducible apply hk | fail_if_no_progress (with_reducible apply kept_mk) | (with_reducible refine kept_of_eq (by with_reducible assumption) ?_) | intro _ _ | split | dsimp only

theorem kept_setTwin {s0 s : State} (x : Twin) (h : Kept s0 s) : Kept s0 (setTwin s x) := by
  unfold setTwin
  try dsimp only
  repeat' first | with_reducible assumption | with_reducible apply kept_ite | with_reducible apply kept_ite1 | with_reducible apply kept_ite2 | (with_reducible refine kept_forAll (fun _ _ _ => ?_) ?_) | (with_reducible refine kept_foldl (fun _ _ _ => ?_) ?_) | (with_reducible refine kept_foldl1 (fun _ _ _ => ?_) ?_) | fail_if_no_progress (with_reducible apply kept_mk) | (with_reducible refine kept_of_eq (by with_reducible assumption) ?_) | intro _ _ | split | dsimp only

theorem kept_roleLines {s0 s : State}  (h : Kept s0 s) : Kept s0 (roleLines s) := by
  unfold roleLines
  try dsimp only
  repeat' first | with_reducible assumption | with_reducible apply kept_ite | with_reducible apply kept_ite1 | with_reducible apply kept_ite2 | (with_reducible refine kept_forAll (fun _ _ _ => ?_) ?_) | (with_reducible refine kept_foldl (fun _ _ _ => ?_) ?_) | (with_reducible refine kept_foldl1 (fun _ _ _ => ?_) ?_) | with_reducible apply kept_setFld | fail_if_no_progress (with_reducible apply kept_mk) | (with_reducible refine kept_of_eq (by with_reducible assumption) ?_) | intro _ _ | split | dsimp only

theorem kept_setRole {s0 s : State} (r : Nat) (h : Kept s0 s) : Kept s0 (setRole s r) := by
  unfold setRole
  try dsimp only
  repeat' first | with_reducible assumption | with_reducible apply kept_ite | with_reducible apply kept_ite1 | with_reducible apply kept_ite2 | (with_reducible refine kept_forAll (fun _ _ _ => ?_) ?_) | (with_reducible refine kept_foldl (fun _ _ _ => ?_) ?_) | (with_reducible refine kept_foldl1 (fun _ _ _ => ?_) ?_) | with_reducible apply kept_raiseBit | with_reducible apply kept_roleLines | with_reducible apply kept_setSub | with_reducible apply kept_setFld | fail_if_no_progress (with_reducible apply kept_mk) | (with_reducible refine kept_of_eq (by with_reducible assumption) ?_) | intro _ _ | split | dsimp only

theorem kept_setSync {s0 s : State} (v : Nat) (h : Kept s0 s) : Kept s0 (setSync s v) := by
  unfold setSync
  try dsimp only
  repeat' first | with_reducible assumption | with_reducible apply kept_ite | with_reducible apply kept_ite1 | with_reducible apply kept_ite2 | (with_reducible refine kept_forAll (fun _ _ _ => ?_) ?_) | (with_reducible refine kept_foldl (fun _ _ _ => ?_) ?_) | (with_reducible refine kept_foldl1 (fun _ _ _ => ?_) ?_) | with_reducible apply kept_setFld | with_reducible apply kept_setTwin | with_reducible apply kept_raiseBit | fail_if_no_progress (with_reducible apply kept_mk) | (with_reducible refine kept_of_eq (by with_reducible assumption) ?_) | intro _ _ | split | dsimp only

theorem kept_startResolving {s0 s : State}  (h : Kept s0 s) : Kept s0 (startResolving s) := by
  unfold startResolving
  try dsimp only
  repeat' first | with_reducible assumption | with_reducible apply kept_ite | with_reducible apply kept_ite1 | with_reducible apply kept_ite2 | (with_reducible refine kept_forAll (fun _ _ _ => ?_) ?_) | (with_reducible refine kept_foldl (fun _ _ _ => ?_) ?_) | (with_reducible refine kept_foldl1 (fun _ _ _ => ?_) ?_) | with_reducible apply kept_setSync | with_reducible apply kept_setRole | with_reducible apply kept_setTwin | fail_if_no_progress (with_reducible apply kept_mk) | (with_reducible refine kept_of_eq (by with_reducible assumption) ?_) | intro _ _ | split | dsimp only

theorem kept_raiseEpoch {s0 s : State}  (h : Kept s0 s) : Kept s0 (raiseEpoch s).1 := by
  unfold raiseEpoch
  try dsimp only
  repeat' first | with_reducible assumption | with_reducible apply kept_ite | with_reducible apply kept_ite1 | with_reducible apply kept_ite2 | (with_reducible refine kept_forAll (fun _ _ _ => ?_) ?_) | (with_reducible refine kept_foldl (fun _ _ _ => ?_) ?_) | (with_reducible refine kept_foldl1 (fun _ _ _ => ?_) ?_) | with_reducible apply kept_setTwin | with_reducible apply kept_wr | fail_if_no_progress (with_reducible apply kept_mk) | (with_reducible refine kept_of_eq (by with_reducible assumption) ?_) | intro _ _ | split | dsimp only

theorem kept_loneEpoch {s0 s : State}  (h : Kept s0 s) : Kept s0 (loneEpoch s) := by
  unfold loneEpoch
  try dsimp only
  repeat' first | with_reducible assumption | with_reducible apply kept_ite | with_reducible apply kept_ite1 | with_reducible apply kept_ite2 | (with_reducible refine kept_forAll (fun _ _ _ => ?_) ?_) | (with_reducible refine kept_foldl (fun _ _ _ => ?_) ?_) | (with_reducible refine kept_foldl1 (fun _ _ _ => ?_) ?_) | with_reducible apply kept_raiseEpoch | fail_if_no_progress (with_reducible apply kept_mk) | (with_reducible refine kept_of_eq (by with_reducible assumption) ?_) | intro _ _ | split | dsimp only

theorem kept_refreshAll {s0 s : State}  (h : Kept s0 s) : Kept s0 (refreshAll s) := by
  unfold refreshAll
  try dsimp only
  repeat' first | with_reducible assumption | with_reducible apply kept_ite | with_reducible apply kept_ite1 | with_reducible apply kept_ite2 | (with_reducible refine kept_forAll (fun _ _ _ => ?_) ?_) | (with_reducible refine kept_foldl (fun _ _ _ => ?_) ?_) | (with_reducible refine kept_foldl1 (fun _ _ _ => ?_) ?_) | with_reducible apply kept_refreshCan | with_reducible apply kept_refreshMeters | with_reducible apply kept_refreshLoops | with_reducible apply kept_refreshTasks | fail_if_no_progress (with_reducible apply kept_mk) | (with_reducible refine kept_of_eq (by with_reducible assumption) ?_) | intro _ _ | split | dsimp only

theorem kept_changeMode {s0 s : State} (md : Nat) (reason : Nat) (h : Kept s0 s) : Kept s0 (changeMode s md reason) := by
  unfold changeMode
  try dsimp only
  repeat' first | with_reducible assumption | with_reducible apply kept_ite | with_reducible apply kept_ite1 | with_reducible apply kept_ite2 | (with_reducible refine kept_forAll (fun _ _ _ => ?_) ?_) | (with_reducible refine kept_foldl (fun _ _ _ => ?_) ?_) | (with_reducible refine kept_foldl1 (fun _ _ _ => ?_) ?_) | with_reducible apply kept_wr | with_reducible apply kept_raiseBit | with_reducible apply kept_loneEpoch | with_reducible apply kept_postStart | with_reducible apply kept_refreshAll | fail_if_no_progress (with_reducible apply kept_mk) | (with_reducible refine kept_of_eq (by with_reducible assumption) ?_) | intro _ _ | split | dsimp only

theorem kept_requestedRole {s0 s : State} (md : Nat) (h : Kept s0 s) : Kept s0 (requestedRole s md) := by
  unfold requestedRole
  try dsimp only
  repeat' first | with_reducible assumption | with_reducible apply kept_ite | with_reducible apply kept_ite1 | with_reducible apply kept_ite2 | (with_reducible refine kept_forAll (fun _ _ _ => ?_) ?_) | (with_reducible refine kept_foldl (fun _ _ _ => ?_) ?_) | (with_reducible refine kept_foldl1 (fun _ _ _ => ?_) ?_) | with_reducible apply kept_startResolving | with_reducible apply kept_setSync | with_reducible apply kept_setRole | fail_if_no_progress (with_reducible apply kept_mk) | (with_reducible refine kept_of_eq (by with_reducible assumption) ?_) | intro _ _ | split | dsimp only

theorem kept_modeRequest {s0 s : State} (req : Nat) (h : Kept s0 s) : Kept s0 (modeRequest s req).1 := by
  unfold modeRequest
  try dsimp only
  repeat' first | with_reducible assumption | with_reducible apply kept_ite | with_reducible apply kept_ite1 | with_reducible apply kept_ite2 | (with_reducible refine kept_forAll (fun _ _ _ => ?_) ?_) | (with_reducible refine kept_foldl (fun _ _ _ => ?_) ?_) | (with_reducible refine kept_foldl1 (fun _ _ _ => ?_) ?_) | with_reducible apply kept_setFld | fail_if_no_progress (with_reducible apply kept_mk) | (with_reducible refine kept_of_eq (by with_reducible assumption) ?_) | intro _ _ | split | dsimp only

theorem kept_settleMode {s0 s : State}  (h : Kept s0 s) : Kept s0 (settleMode s) := by
  unfold settleMode
  try dsimp only
  repeat' first | with_reducible assumption | with_reducible apply kept_ite | with_reducible apply kept_ite1 | with_reducible apply kept_ite2 | (with_reducible refine kept_forAll (fun _ _ _ => ?_) ?_) | (with_reducible refine kept_foldl (fun _ _ _ => ?_) ?_) | (with_reducible refine kept_foldl1 (fun _ _ _ => ?_) ?_) | with_reducible apply kept_changeMode | with_reducible apply kept_discardRequest | with_reducible apply kept_setFld | with_reducible apply kept_requestedRole | fail_if_no_progress (with_reducible apply kept_mk) | (with_reducible refine kept_of_eq (by with_reducible assumption) ?_) | intro _ _ | split | dsimp only

theorem kept_wakeEvent {s0 s : State} (f : Fld) (h : Kept s0 s) : Kept s0 (wakeEvent s f) := by
  unfold wakeEvent
  try dsimp only
  repeat' first | with_reducible assumption | with_reducible apply kept_ite | with_reducible apply kept_ite1 | with_reducible apply kept_ite2 | (with_reducible refine kept_forAll (fun _ _ _ => ?_) ?_) | (with_reducible refine kept_foldl (fun _ _ _ => ?_) ?_) | (with_reducible refine kept_foldl1 (fun _ _ _ => ?_) ?_) | with_reducible apply kept_evtSet | with_reducible apply kept_discardRequest | fail_if_no_progress (with_reducible apply kept_mk) | (with_reducible refine kept_of_eq (by with_reducible assumption) ?_) | intro _ _ | split | dsimp only

theorem kept_setDomC {s0 s : State} (d : Nat) (c : Nat) (h : Kept s0 s) : Kept s0 (setDomC s d c) := by
  unfold setDomC
  try dsimp only
  repeat' first | with_reducible assumption | with_reducible apply kept_ite | with_reducible apply kept_ite1 | with_reducible apply kept_ite2 | (with_reducible refine kept_forAll (fun _ _ _ => ?_) ?_) | (with_reducible refine kept_foldl (fun _ _ _ => ?_) ?_) | (with_reducible refine kept_foldl1 (fun _ _ _ => ?_) ?_) | with_reducible apply kept_setFld | fail_if_no_progress (with_reducible apply kept_mk) | (with_reducible refine kept_of_eq (by with_reducible assumption) ?_) | intro _ _ | split | dsimp only

theorem kept_setDomSt {s0 s : State} (d : Nat) (st : Nat) (h : Kept s0 s) : Kept s0 (setDomSt s d st) := by
  unfold setDomSt
  try dsimp only
  repeat' first | with_reducible assumption | with_reducible apply kept_ite | with_reducible apply kept_ite1 | with_reducible apply kept_ite2 | (with_reducible refine kept_forAll (fun _ _ _ => ?_) ?_) | (with_reducible refine kept_foldl (fun _ _ _ => ?_) ?_) | (with_reducible refine kept_foldl1 (fun _ _ _ => ?_) ?_) | with_reducible apply kept_raiseBit | with_reducible apply kept_setFld | fail_if_no_progress (with_reducible apply kept_mk) | (with_reducible refine kept_of_eq (by with_reducible assumption) ?_) | intro _ _ | split | dsimp only

theorem kept_domainIdle {s0 s : State} (d : Nat) (h : Kept s0 s) : Kept s0 (domainIdle s d) := by
  unfold domainIdle
  try dsimp only
  repeat' first | with_reducible assumption | with_reducible apply kept_ite | with_reducible apply kept_ite1 | with_reducible apply kept_ite2 | (with_reducible refine kept_forAll (fun _ _ _ => ?_) ?_) | (with_reducible refine kept_foldl (fun _ _ _ => ?_) ?_) | (with_reducible refine kept_foldl1 (fun _ _ _ => ?_) ?_) | with_reducible apply kept_setDomC | fail_if_no_progress (with_reducible apply kept_mk) | (with_reducible refine kept_of_eq (by with_reducible assumption) ?_) | intro _ _ | split | dsimp only

theorem kept_domainWake {s0 s : State} (d : Nat) (h : Kept s0 s) : Kept s0 (domainWake s d) := by
  unfold domainWake
  try dsimp only
  repeat' first | with_reducible assumption | with_reducible apply kept_ite | with_reducible apply kept_ite1 | with_reducible apply kept_ite2 | (with_reducible refine kept_forAll (fun _ _ _ => ?_) ?_) | (with_reducible refine kept_foldl (fun _ _ _ => ?_) ?_) | (with_reducible refine kept_foldl1 (fun _ _ _ => ?_) ?_) | with_reducible apply kept_demand | fail_if_no_progress (with_reducible apply kept_mk) | (with_reducible refine kept_of_eq (by with_reducible assumption) ?_) | intro _ _ | split | dsimp only

theorem kept_domainRuns {s0 s : State} (d : Nat) (h : Kept s0 s) : Kept s0 (domainRuns s d) := by
  unfold domainRuns
  try dsimp only
  repeat' first | with_reducible assumption | with_reducible apply kept_ite | with_reducible apply kept_ite1 | with_reducible apply kept_ite2 | (with_reducible refine kept_forAll (fun _ _ _ => ?_) ?_) | (with_reducible refine kept_foldl (fun _ _ _ => ?_) ?_) | (with_reducible refine kept_foldl1 (fun _ _ _ => ?_) ?_) | with_reducible apply kept_setDomC | fail_if_no_progress (with_reducible apply kept_mk) | (with_reducible refine kept_of_eq (by with_reducible assumption) ?_) | intro _ _ | split | dsimp only

theorem kept_latencyChanged {s0 s : State} (page : Nat) (h : Kept s0 s) : Kept s0 (latencyChanged s page) := by
  unfold latencyChanged
  try dsimp only
  repeat' first | with_reducible assumption | with_reducible apply kept_ite | with_reducible apply kept_ite1 | with_reducible apply kept_ite2 | (with_reducible refine kept_forAll (fun _ _ _ => ?_) ?_) | (with_reducible refine kept_foldl (fun _ _ _ => ?_) ?_) | (with_reducible refine kept_foldl1 (fun _ _ _ => ?_) ?_) | with_reducible apply kept_setDomC | fail_if_no_progress (with_reducible apply kept_mk) | (with_reducible refine kept_of_eq (by with_reducible assumption) ?_) | intro _ _ | split | dsimp only

theorem kept_setPort {s0 s : State} (p : Nat) (x : SpurPort) (h : Kept s0 s) : Kept s0 (setPort s p x) := by
  unfold setPort
  try dsimp only
  repeat' first | with_reducible assumption | with_reducible apply kept_ite | with_reducible apply kept_ite1 | with_reducible apply kept_ite2 | (with_reducible refine kept_forAll (fun _ _ _ => ?_) ?_) | (with_reducible refine kept_foldl (fun _ _ _ => ?_) ?_) | (with_reducible refine kept_foldl1 (fun _ _ _ => ?_) ?_) | fail_if_no_progress (with_reducible apply kept_mk) | (with_reducible refine kept_of_eq (by with_reducible assumption) ?_) | intro _ _ | split | dsimp only

theorem kept_enterPort {s0 s : State} (p : Nat) (st : Nat) (h : Kept s0 s) : Kept s0 (enterPort s p st) := by
  unfold enterPort
  try dsimp only
  repeat' first | with_reducible assumption | with_reducible apply kept_ite | with_reducible apply kept_ite1 | with_reducible apply kept_ite2 | (with_reducible refine kept_forAll (fun _ _ _ => ?_) ?_) | (with_reducible refine kept_foldl (fun _ _ _ => ?_) ?_) | (with_reducible refine kept_foldl1 (fun _ _ _ => ?_) ?_) | with_reducible apply kept_setSub | with_reducible apply kept_setFld | with_reducible apply kept_setPort | with_reducible apply kept_step | fail_if_no_progress (with_reducible apply kept_mk) | (with_reducible refine kept_of_eq (by with_reducible assumption) ?_) | intro _ _ | split | dsimp only

theorem kept_portTime {s0 s : State} (p : Nat) (counts : Nat) (h : Kept s0 s) : Kept s0 (portTime s p counts) := by
  unfold portTime
  try dsimp only
  repeat' first | with_reducible assumption | with_reducible apply kept_ite | with_reducible apply kept_ite1 | with_reducible apply kept_ite2 | (with_reducible refine kept_forAll (fun _ _ _ => ?_) ?_) | (with_reducible refine kept_foldl (fun _ _ _ => ?_) ?_) | (with_reducible refine kept_foldl1 (fun _ _ _ => ?_) ?_) | with_reducible apply kept_advanceTo | fail_if_no_progress (with_reducible apply kept_mk) | (with_reducible refine kept_of_eq (by with_reducible assumption) ?_) | intro _ _ | split | dsimp only

theorem kept_setLink {s0 s : State} (p : Nat) (st : Nat) (mode : Nat) (h : Kept s0 s) : Kept s0 (setLink s p st mode) := by
  unfold setLink
  try dsimp only
  repeat' first | with_reducible assumption | with_reducible apply kept_ite | with_reducible apply kept_ite1 | with_reducible apply kept_ite2 | (with_reducible refine kept_forAll (fun _ _ _ => ?_) ?_) | (with_reducible refine kept_foldl (fun _ _ _ => ?_) ?_) | (with_reducible refine kept_foldl1 (fun _ _ _ => ?_) ?_) | with_reducible apply kept_setFld | fail_if_no_progress (with_reducible apply kept_mk) | (with_reducible refine kept_of_eq (by with_reducible assumption) ?_) | intro _ _ | split | dsimp only

theorem kept_phyStart {s0 s : State} (p : Nat) (h : Kept s0 s) : Kept s0 (phyStart s p) := by
  unfold phyStart
  try dsimp only
  repeat' first | with_reducible assumption | with_reducible apply kept_ite | with_reducible apply kept_ite1 | with_reducible apply kept_ite2 | (with_reducible refine kept_forAll (fun _ _ _ => ?_) ?_) | (with_reducible refine kept_foldl (fun _ _ _ => ?_) ?_) | (with_reducible refine kept_foldl1 (fun _ _ _ => ?_) ?_) | with_reducible apply kept_setLink | fail_if_no_progress (with_reducible apply kept_mk) | (with_reducible refine kept_of_eq (by with_reducible assumption) ?_) | intro _ _ | split | dsimp only

theorem kept_linkLost {s0 s : State} (p : Nat) (st : Nat) (h : Kept s0 s) : Kept s0 (linkLost s p st) := by
  unfold linkLost
  try dsimp only
  repeat' first | with_reducible assumption | with_reducible apply kept_ite | with_reducible apply kept_ite1 | with_reducible apply kept_ite2 | (with_reducible refine kept_forAll (fun _ _ _ => ?_) ?_) | (with_reducible refine kept_foldl (fun _ _ _ => ?_) ?_) | (with_reducible refine kept_foldl1 (fun _ _ _ => ?_) ?_) | with_reducible apply kept_raiseBit | with_reducible apply kept_bumpSat | with_reducible apply kept_setLink | fail_if_no_progress (with_reducible apply kept_mk) | (with_reducible refine kept_of_eq (by with_reducible assumption) ?_) | intro _ _ | split | dsimp only

theorem kept_phyStop {s0 s : State} (p : Nat) (h : Kept s0 s) : Kept s0 (phyStop s p) := by
  unfold phyStop
  try dsimp only
  repeat' first | with_reducible assumption | with_reducible apply kept_ite | with_reducible apply kept_ite1 | with_reducible apply kept_ite2 | (with_reducible refine kept_forAll (fun _ _ _ => ?_) ?_) | (with_reducible refine kept_foldl (fun _ _ _ => ?_) ?_) | (with_reducible refine kept_foldl1 (fun _ _ _ => ?_) ?_) | with_reducible apply kept_linkLost | fail_if_no_progress (with_reducible apply kept_mk) | (with_reducible refine kept_of_eq (by with_reducible assumption) ?_) | intro _ _ | split | dsimp only

theorem kept_phyUp {s0 s : State} (p : Nat) (full : Bool) (mse : Int) (h : Kept s0 s) : Kept s0 (phyUp s p full mse) := by
  unfold phyUp
  try dsimp only
  repeat' first | with_reducible assumption | with_reducible apply kept_ite | with_reducible apply kept_ite1 | with_reducible apply kept_ite2 | (with_reducible refine kept_forAll (fun _ _ _ => ?_) ?_) | (with_reducible refine kept_foldl (fun _ _ _ => ?_) ?_) | (with_reducible refine kept_foldl1 (fun _ _ _ => ?_) ?_) | with_reducible apply kept_raiseBit | with_reducible apply kept_setFld | with_reducible apply kept_setLink | fail_if_no_progress (with_reducible apply kept_mk) | (with_reducible refine kept_of_eq (by with_reducible assumption) ?_) | intro _ _ | split | dsimp only

theorem kept_phyDown {s0 s : State} (p : Nat) (h : Kept s0 s) : Kept s0 (phyDown s p) := by
  unfold phyDown
  try dsimp only
  repeat' first | with_reducible assumption | with_reducible apply kept_ite | with_reducible apply kept_ite1 | with_reducible apply kept_ite2 | (with_reducible refine kept_forAll (fun _ _ _ => ?_) ?_) | (with_reducible refine kept_foldl (fun _ _ _ => ?_) ?_) | (with_reducible refine kept_foldl1 (fun _ _ _ => ?_) ?_) | with_reducible apply kept_linkLost | fail_if_no_progress (with_reducible apply kept_mk) | (with_reducible refine kept_of_eq (by with_reducible assumption) ?_) | intro _ _ | split | dsimp only

theorem kept_portStart {s0 s : State} (p : Nat) (h : Kept s0 s) : Kept s0 (portStart s p) := by
  unfold portStart
  try dsimp only
  repeat' first | with_reducible assumption | with_reducible apply kept_ite | with_reducible apply kept_ite1 | with_reducible apply kept_ite2 | (with_reducible refine kept_forAll (fun _ _ _ => ?_) ?_) | (with_reducible refine kept_foldl (fun _ _ _ => ?_) ?_) | (with_reducible refine kept_foldl1 (fun _ _ _ => ?_) ?_) | with_reducible apply kept_setPort | with_reducible apply kept_setPageSt | with_reducible apply kept_enterPort | fail_if_no_progress (with_reducible apply kept_mk) | (with_reducible refine kept_of_eq (by with_reducible assumption) ?_) | intro _ _ | split | dsimp only

theorem kept_portOff {s0 s : State} (p : Nat) (h : Kept s0 s) : Kept s0 (portOff s p) := by
  unfold portOff
  try dsimp only
  repeat' first | with_reducible assumption | with_reducible apply kept_ite | with_reducible apply kept_ite1 | with_reducible apply kept_ite2 | (with_reducible refine kept_forAll (fun _ _ _ => ?_) ?_) | (with_reducible refine kept_foldl (fun _ _ _ => ?_) ?_) | (with_reducible refine kept_foldl1 (fun _ _ _ => ?_) ?_) | with_reducible apply kept_setPageSt | with_reducible apply kept_enterPort | with_reducible apply kept_setPort | with_reducible apply kept_portStart | with_reducible apply kept_setFld | fail_if_no_progress (with_reducible apply kept_mk) | (with_reducible refine kept_of_eq (by with_reducible assumption) ?_) | intro _ _ | split | dsimp only

theorem kept_portStop {s0 s : State} (p : Nat) (h : Kept s0 s) : Kept s0 (portStop s p) := by
  unfold portStop
  try dsimp only
  repeat' first | with_reducible assumption | with_reducible apply kept_ite | with_reducible apply kept_ite1 | with_reducible apply kept_ite2 | (with_reducible refine kept_forAll (fun _ _ _ => ?_) ?_) | (with_reducible refine kept_foldl (fun _ _ _ => ?_) ?_) | (with_reducible refine kept_foldl1 (fun _ _ _ => ?_) ?_) | with_reducible apply kept_phyStop | with_reducible apply kept_setPageSt | with_reducible apply kept_enterPort | fail_if_no_progress (with_reducible apply kept_mk) | (with_reducible refine kept_of_eq (by with_reducible assumption) ?_) | intro _ _ | split | dsimp only

theorem kept_portDisable {s0 s : State} (p : Nat) (h : Kept s0 s) : Kept s0 (portDisable s p) := by
  unfold portDisable
  try dsimp only
  repeat' first | with_reducible assumption | with_reducible apply kept_ite | with_reducible apply kept_ite1 | with_reducible apply kept_ite2 | (with_reducible refine kept_forAll (fun _ _ _ => ?_) ?_) | (with_reducible refine kept_foldl (fun _ _ _ => ?_) ?_) | (with_reducible refine kept_foldl1 (fun _ _ _ => ?_) ?_) | with_reducible apply kept_step | with_reducible apply kept_setPort | with_reducible apply kept_portStop | fail_if_no_progress (with_reducible apply kept_mk) | (with_reducible refine kept_of_eq (by with_reducible assumption) ?_) | intro _ _ | split | dsimp only

theorem kept_portFault {s0 s : State} (p : Nat) (cause : Nat) (h : Kept s0 s) : Kept s0 (portFault s p cause) := by
  unfold portFault
  try dsimp only
  repeat' first | with_reducible assumption | with_reducible apply kept_ite | with_reducible apply kept_ite1 | with_reducible apply kept_ite2 | (with_reducible refine kept_forAll (fun _ _ _ => ?_) ?_) | (with_reducible refine kept_foldl (fun _ _ _ => ?_) ?_) | (with_reducible refine kept_foldl1 (fun _ _ _ => ?_) ?_) | with_reducible apply kept_phyStop | with_reducible apply kept_setPageSt | with_reducible apply kept_setFld | with_reducible apply kept_bumpSat | with_reducible apply kept_raiseBit | with_reducible apply kept_setPort | with_reducible apply kept_enterPort | fail_if_no_progress (with_reducible apply kept_mk) | (with_reducible refine kept_of_eq (by with_reducible assumption) ?_) | intro _ _ | split | dsimp only

theorem kept_stepEnds {s0 s : State} (p : Nat) (k : State → State) (hk : ∀ x, Kept s0 x → Kept s0 (k x)) (h : Kept s0 s) : Kept s0 (stepEnds s p k) := by
  unfold stepEnds
  try dsimp only
  repeat' first | with_reducible assumption | with_reducible apply kept_ite | with_reducible apply kept_ite1 | with_reducible apply kept_ite2 | (with_reducible refine kept_forAll (fun _ _ _ => ?_) ?_) | (with_reducible refine kept_foldl (fun _ _ _ => ?_) ?_) | (with_reducible refine kept_foldl1 (fun _ _ _ => ?_) ?_) | with_reducible apply kept_portStop | with_reducible apply hk | fail_if_no_progress (with_reducible apply kept_mk) | (with_reducible refine kept_of_eq (by with_reducible assumption) ?_) | intro _ _ | split | dsimp only

theorem kept_classifyStep {s0 s : State} (p : Nat) (step : Nat) (tries : Nat) (h : Kept s0 s) : Kept s0 (classifyStep s p step tries) := by
  unfold classifyStep
  try dsimp only
  repeat' first | with_reducible assumption | with_reducible apply kept_ite | with_reducible apply kept_ite1 | with_reducible apply kept_ite2 | (with_reducible refine kept_forAll (fun _ _ _ => ?_) ?_) | (with_reducible refine kept_foldl (fun _ _ _ => ?_) ?_) | (with_reducible refine kept_foldl1 (fun _ _ _ => ?_) ?_) | with_reducible apply kept_setPort | with_reducible apply kept_step | fail_if_no_progress (with_reducible apply kept_mk) | (with_reducible refine kept_of_eq (by with_reducible assumption) ?_) | intro _ _ | split | dsimp only

theorem kept_classify {s0 s : State} (p : Nat) (h : Kept s0 s) : Kept s0 (classify s p) := by
  unfold classify
  try dsimp only
  repeat' first | with_reducible assumption | with_reducible apply kept_ite | with_reducible apply kept_ite1 | with_reducible apply kept_ite2 | (with_reducible refine kept_forAll (fun _ _ _ => ?_) ?_) | (with_reducible refine kept_foldl (fun _ _ _ => ?_) ?_) | (with_reducible refine kept_foldl1 (fun _ _ _ => ?_) ?_) | with_reducible apply kept_enterPort | fail_if_no_progress (with_reducible apply kept_mk) | (with_reducible refine kept_of_eq (by with_reducible assumption) ?_) | intro _ _ | split | dsimp only

theorem kept_sccpEnd {s0 s : State} (p : Nat) (cls : Option (Fin 16)) (h : Kept s0 s) : Kept s0 (sccpEnd s p cls) := by
  unfold sccpEnd
  try dsimp only
  repeat' first | with_reducible assumption | with_reducible apply kept_ite | with_reducible apply kept_ite1 | with_reducible apply kept_ite2 | (with_reducible refine kept_forAll (fun _ _ _ => ?_) ?_) | (with_reducible refine kept_foldl (fun _ _ _ => ?_) ?_) | (with_reducible refine kept_foldl1 (fun _ _ _ => ?_) ?_) | with_reducible apply kept_setFld | with_reducible apply kept_stepEnds | with_reducible apply kept_enterPort | with_reducible apply kept_portFault | with_reducible apply kept_classifyStep | fail_if_no_progress (with_reducible apply kept_mk) | (with_reducible refine kept_of_eq (by with_reducible assumption) ?_) | intro _ _ | split | dsimp only

theorem kept_poweredUp {s0 s : State} (p : Nat) (h : Kept s0 s) : Kept s0 (poweredUp s p) := by
  unfold poweredUp
  try dsimp only
  repeat' first | with_reducible assumption | with_reducible apply kept_ite | with_reducible apply kept_ite1 | with_reducible apply kept_ite2 | (with_reducible refine kept_forAll (fun _ _ _ => ?_) ?_) | (with_reducible refine kept_foldl (fun _ _ _ => ?_) ?_) | (with_reducible refine kept_foldl1 (fun _ _ _ => ?_) ?_) | with_reducible apply kept_portMeterPowerUp | with_reducible apply kept_setPageSt | with_reducible apply kept_enterPort | with_reducible apply kept_setPort | with_reducible apply kept_phyStart | with_reducible apply kept_raiseBit | fail_if_no_progress (with_reducible apply kept_mk) | (with_reducible refine kept_of_eq (by with_reducible assumption) ?_) | intro _ _ | split | dsimp only

theorem kept_discharged {s0 s : State} (p : Nat) (h : Kept s0 s) : Kept s0 (discharged s p) := by
  unfold discharged
  try dsimp only
  repeat' first | with_reducible assumption | with_reducible apply kept_ite | with_reducible apply kept_ite1 | with_reducible apply kept_ite2 | (with_reducible refine kept_forAll (fun _ _ _ => ?_) ?_) | (with_reducible refine kept_foldl (fun _ _ _ => ?_) ?_) | (with_reducible refine kept_foldl1 (fun _ _ _ => ?_) ?_) | with_reducible apply kept_classify | with_reducible apply kept_portOff | fail_if_no_progress (with_reducible apply kept_mk) | (with_reducible refine kept_of_eq (by with_reducible assumption) ?_) | intro _ _ | split | dsimp only

theorem kept_portStarted {s0 s : State} (p : Nat) (h : Kept s0 s) : Kept s0 (portStarted s p) := by
  unfold portStarted
  try dsimp only
  repeat' first | with_reducible assumption | with_reducible apply kept_ite | with_reducible apply kept_ite1 | with_reducible apply kept_ite2 | (with_reducible refine kept_forAll (fun _ _ _ => ?_) ?_) | (with_reducible refine kept_foldl (fun _ _ _ => ?_) ?_) | (with_reducible refine kept_foldl1 (fun _ _ _ => ?_) ?_) | with_reducible apply kept_phyStart | with_reducible apply kept_raiseBit | with_reducible apply kept_setPageSt | with_reducible apply kept_enterPort | fail_if_no_progress (with_reducible apply kept_mk) | (with_reducible refine kept_of_eq (by with_reducible assumption) ?_) | intro _ _ | split | dsimp only

theorem kept_portStopped {s0 s : State} (p : Nat) (h : Kept s0 s) : Kept s0 (portStopped s p) := by
  unfold portStopped
  try dsimp only
  repeat' first | with_reducible assumption | with_reducible apply kept_ite | with_reducible apply kept_ite1 | with_reducible apply kept_ite2 | (with_reducible refine kept_forAll (fun _ _ _ => ?_) ?_) | (with_reducible refine kept_foldl (fun _ _ _ => ?_) ?_) | (with_reducible refine kept_foldl1 (fun _ _ _ => ?_) ?_) | with_reducible apply kept_portOff | fail_if_no_progress (with_reducible apply kept_mk) | (with_reducible refine kept_of_eq (by with_reducible assumption) ?_) | intro _ _ | split | dsimp only

theorem kept_setStn {s0 s : State} (p : Nat) (x : Station) (h : Kept s0 s) : Kept s0 (setStn s p x) := by
  unfold setStn
  try dsimp only
  repeat' first | with_reducible assumption | with_reducible apply kept_ite | with_reducible apply kept_ite1 | with_reducible apply kept_ite2 | (with_reducible refine kept_forAll (fun _ _ _ => ?_) ?_) | (with_reducible refine kept_foldl (fun _ _ _ => ?_) ?_) | (with_reducible refine kept_foldl1 (fun _ _ _ => ?_) ?_) | fail_if_no_progress (with_reducible apply kept_mk) | (with_reducible refine kept_of_eq (by with_reducible assumption) ?_) | intro _ _ | split | dsimp only

theorem kept_setSvcSt {s0 s : State} (p : Nat) (st : Nat) (h : Kept s0 s) : Kept s0 (setSvcSt s p st) := by
  unfold setSvcSt
  try dsimp only
  repeat' first | with_reducible assumption | with_reducible apply kept_ite | with_reducible apply kept_ite1 | with_reducible apply kept_ite2 | (with_reducible refine kept_forAll (fun _ _ _ => ?_) ?_) | (with_reducible refine kept_foldl (fun _ _ _ => ?_) ?_) | (with_reducible refine kept_foldl1 (fun _ _ _ => ?_) ?_) | with_reducible apply kept_setFld | fail_if_no_progress (with_reducible apply kept_mk) | (with_reducible refine kept_of_eq (by with_reducible assumption) ?_) | intro _ _ | split | dsimp only

theorem kept_showStn {s0 s : State} (p : Nat) (st : Nat) (h : Kept s0 s) : Kept s0 (showStn s p st) := by
  unfold showStn
  try dsimp only
  repeat' first | with_reducible assumption | with_reducible apply kept_ite | with_reducible apply kept_ite1 | with_reducible apply kept_ite2 | (with_reducible refine kept_forAll (fun _ _ _ => ?_) ?_) | (with_reducible refine kept_foldl (fun _ _ _ => ?_) ?_) | (with_reducible refine kept_foldl1 (fun _ _ _ => ?_) ?_) | with_reducible apply kept_setFld | with_reducible apply kept_setBit | fail_if_no_progress (with_reducible apply kept_mk) | (with_reducible refine kept_of_eq (by with_reducible assumption) ?_) | intro _ _ | split | dsimp only

theorem kept_commitInput {s0 s : State} (p : Nat) (c : Channel) (raw : Nat) (q : Byte) (ts : DWord) (h : Kept s0 s) : Kept s0 (commitInput s p c raw q ts) := by
  unfold commitInput
  try dsimp only
  repeat' first | with_reducible assumption | with_reducible apply kept_ite | with_reducible apply kept_ite1 | with_reducible apply kept_ite2 | (with_reducible refine kept_forAll (fun _ _ _ => ?_) ?_) | (with_reducible refine kept_foldl (fun _ _ _ => ?_) ?_) | (with_reducible refine kept_foldl1 (fun _ _ _ => ?_) ?_) | with_reducible apply kept_fieldWrite | fail_if_no_progress (with_reducible apply kept_mk) | (with_reducible refine kept_of_eq (by with_reducible assumption) ?_) | intro _ _ | split | dsimp only

theorem kept_commitSubs {s0 s : State} (p : Nat) (h : Kept s0 s) : Kept s0 (commitSubs s p) := by
  unfold commitSubs
  try dsimp only
  repeat' first | with_reducible assumption | with_reducible apply kept_ite | with_reducible apply kept_ite1 | with_reducible apply kept_ite2 | (with_reducible refine kept_forAll (fun _ _ _ => ?_) ?_) | (with_reducible refine kept_foldl (fun _ _ _ => ?_) ?_) | (with_reducible refine kept_foldl1 (fun _ _ _ => ?_) ?_) | with_reducible apply kept_commitInput | fail_if_no_progress (with_reducible apply kept_mk) | (with_reducible refine kept_of_eq (by with_reducible assumption) ?_) | intro _ _ | split | dsimp only

theorem kept_commitStale {s0 s : State} (p : Nat) (h : Kept s0 s) : Kept s0 (commitStale s p) := by
  unfold commitStale
  try dsimp only
  repeat' first | with_reducible assumption | with_reducible apply kept_ite | with_reducible apply kept_ite1 | with_reducible apply kept_ite2 | (with_reducible refine kept_forAll (fun _ _ _ => ?_) ?_) | (with_reducible refine kept_foldl (fun _ _ _ => ?_) ?_) | (with_reducible refine kept_foldl1 (fun _ _ _ => ?_) ?_) | with_reducible apply kept_mirrorForce | with_reducible apply kept_setForce | with_reducible apply kept_commitPoint | with_reducible apply kept_deny | fail_if_no_progress (with_reducible apply kept_mk) | (with_reducible refine kept_of_eq (by with_reducible assumption) ?_) | intro _ _ | split | dsimp only

theorem kept_outputImage {s0 s : State} (p : Nat) (h : Kept s0 s) : Kept s0 (outputImage s p).1 := by
  unfold outputImage
  try dsimp only
  repeat' first | with_reducible assumption | with_reducible apply kept_ite | with_reducible apply kept_ite1 | with_reducible apply kept_ite2 | (with_reducible refine kept_forAll (fun _ _ _ => ?_) ?_) | (with_reducible refine kept_foldl (fun _ _ _ => ?_) ?_) | (with_reducible refine kept_foldl1 (fun _ _ _ => ?_) ?_) | with_reducible apply kept_deny | fail_if_no_progress (with_reducible apply kept_mk) | (with_reducible refine kept_of_eq (by with_reducible assumption) ?_) | intro _ _ | split | dsimp only

theorem kept_sendDownlink {s0 s : State} (p : Nat) (h : Kept s0 s) : Kept s0 (sendDownlink s p) := by
  unfold sendDownlink
  try dsimp only
  repeat' first | with_reducible assumption | with_reducible apply kept_ite | with_reducible apply kept_ite1 | with_reducible apply kept_ite2 | (with_reducible refine kept_forAll (fun _ _ _ => ?_) ?_) | (with_reducible refine kept_foldl (fun _ _ _ => ?_) ?_) | (with_reducible refine kept_foldl1 (fun _ _ _ => ?_) ?_) | with_reducible apply kept_outputImage | with_reducible apply kept_setStn | fail_if_no_progress (with_reducible apply kept_mk) | (with_reducible refine kept_of_eq (by with_reducible assumption) ?_) | intro _ _ | split | dsimp only

theorem kept_discardFrame {s0 s : State} (p : Nat) (cause : Nat) (h : Kept s0 s) : Kept s0 (discardFrame s p cause) := by
  unfold discardFrame
  try dsimp only
  repeat' first | with_reducible assumption | with_reducible apply kept_ite | with_reducible apply kept_ite1 | with_reducible apply kept_ite2 | (with_reducible refine kept_forAll (fun _ _ _ => ?_) ?_) | (with_reducible refine kept_foldl (fun _ _ _ => ?_) ?_) | (with_reducible refine kept_foldl1 (fun _ _ _ => ?_) ?_) | with_reducible apply kept_bumpFld | with_reducible apply kept_setFld | with_reducible apply kept_raiseBit | fail_if_no_progress (with_reducible apply kept_mk) | (with_reducible refine kept_of_eq (by with_reducible assumption) ?_) | intro _ _ | split | dsimp only

theorem kept_showSuperseded {s0 s : State} (p : Nat) (seen : Nat) (h : Kept s0 s) : Kept s0 (showSuperseded s p seen) := by
  unfold showSuperseded
  try dsimp only
  repeat' first | with_reducible assumption | with_reducible apply kept_ite | with_reducible apply kept_ite1 | with_reducible apply kept_ite2 | (with_reducible refine kept_forAll (fun _ _ _ => ?_) ?_) | (with_reducible refine kept_foldl (fun _ _ _ => ?_) ?_) | (with_reducible refine kept_foldl1 (fun _ _ _ => ?_) ?_) | with_reducible apply kept_setBit | with_reducible apply kept_setFld | with_reducible apply kept_raiseBit | with_reducible apply kept_setTwin | fail_if_no_progress (with_reducible apply kept_mk) | (with_reducible refine kept_of_eq (by with_reducible assumption) ?_) | intro _ _ | split | dsimp only

theorem kept_takeUplink {s0 s : State} (p : Nat) (x : UplinkFrame) (h : Kept s0 s) : Kept s0 (takeUplink s p x) := by
  unfold takeUplink
  try dsimp only
  repeat' first | with_reducible assumption | with_reducible apply kept_ite | with_reducible apply kept_ite1 | with_reducible apply kept_ite2 | (with_reducible refine kept_forAll (fun _ _ _ => ?_) ?_) | (with_reducible refine kept_foldl (fun _ _ _ => ?_) ?_) | (with_reducible refine kept_foldl1 (fun _ _ _ => ?_) ?_) | with_reducible apply kept_bump | with_reducible apply kept_setFld | with_reducible apply kept_showSuperseded | with_reducible apply kept_wr | with_reducible apply kept_setStn | with_reducible apply kept_setTwin | with_reducible apply kept_commitInput | with_reducible apply kept_portEstimate | fail_if_no_progress (with_reducible apply kept_mk) | (with_reducible refine kept_of_eq (by with_reducible assumption) ?_) | intro _ _ | split | dsimp only

theorem kept_postStation {s0 s : State} (p : Nat) (code : Nat) (h : Kept s0 s) : Kept s0 (postStation s p code) := by
  unfold postStation
  try dsimp only
  repeat' first | with_reducible assumption | with_reducible apply kept_ite | with_reducible apply kept_ite1 | with_reducible apply kept_ite2 | (with_reducible refine kept_forAll (fun _ _ _ => ?_) ?_) | (with_reducible refine kept_foldl (fun _ _ _ => ?_) ?_) | (with_reducible refine kept_foldl1 (fun _ _ _ => ?_) ?_) | with_reducible apply kept_postCause | fail_if_no_progress (with_reducible apply kept_mk) | (with_reducible refine kept_of_eq (by with_reducible assumption) ?_) | intro _ _ | split | dsimp only

theorem kept_dropStation {s0 s : State} (p : Nat) (h : Kept s0 s) : Kept s0 (dropStation s p) := by
  unfold dropStation
  try dsimp only
  repeat' first | with_reducible assumption | with_reducible apply kept_ite | with_reducible apply kept_ite1 | with_reducible apply kept_ite2 | (with_reducible refine kept_forAll (fun _ _ _ => ?_) ?_) | (with_reducible refine kept_foldl (fun _ _ _ => ?_) ?_) | (with_reducible refine kept_foldl1 (fun _ _ _ => ?_) ?_) | with_reducible apply kept_setStn | with_reducible apply kept_commitSubs | with_reducible apply kept_showStn | with_reducible apply kept_raiseBit | with_reducible apply kept_bumpSat | with_reducible apply kept_wakeEvent | with_reducible apply kept_postStation | fail_if_no_progress (with_reducible apply kept_mk) | (with_reducible refine kept_of_eq (by with_reducible assumption) ?_) | intro _ _ | split | dsimp only

theorem kept_closeCycle {s0 s : State} (p : Nat) (h : Kept s0 s) : Kept s0 (closeCycle s p) := by
  unfold closeCycle
  try dsimp only
  repeat' first | with_reducible assumption | with_reducible apply kept_ite | with_reducible apply kept_ite1 | with_reducible apply kept_ite2 | (with_reducible refine kept_forAll (fun _ _ _ => ?_) ?_) | (with_reducible refine kept_foldl (fun _ _ _ => ?_) ?_) | (with_reducible refine kept_foldl1 (fun _ _ _ => ?_) ?_) | with_reducible apply kept_dropStation | with_reducible apply kept_setStn | with_reducible apply kept_setFld | with_reducible apply kept_showStn | with_reducible apply kept_postStation | with_reducible apply kept_raiseBit | with_reducible apply kept_bumpSat | with_reducible apply kept_commitStale | fail_if_no_progress (with_reducible apply kept_mk) | (with_reducible refine kept_of_eq (by with_reducible assumption) ?_) | intro _ _ | split | dsimp only

theorem kept_svcStart {s0 s : State} (p : Nat) (h : Kept s0 s) : Kept s0 (svcStart s p) := by
  unfold svcStart
  try dsimp only
  repeat' first | with_reducible assumption | with_reducible apply kept_ite | with_reducible apply kept_ite1 | with_reducible apply kept_ite2 | (with_reducible refine kept_forAll (fun _ _ _ => ?_) ?_) | (with_reducible refine kept_foldl (fun _ _ _ => ?_) ?_) | (with_reducible refine kept_foldl1 (fun _ _ _ => ?_) ?_) | with_reducible apply kept_setStn | with_reducible apply kept_setSvcSt | with_reducible apply kept_setFld | with_reducible apply kept_showStn | fail_if_no_progress (with_reducible apply kept_mk) | (with_reducible refine kept_of_eq (by with_reducible assumption) ?_) | intro _ _ | split | dsimp only

theorem kept_svcStop {s0 s : State} (p : Nat) (h : Kept s0 s) : Kept s0 (svcStop s p) := by
  unfold svcStop
  try dsimp only
  repeat' first | with_reducible assumption | with_reducible apply kept_ite | with_reducible apply kept_ite1 | with_reducible apply kept_ite2 | (with_reducible refine kept_forAll (fun _ _ _ => ?_) ?_) | (with_reducible refine kept_foldl (fun _ _ _ => ?_) ?_) | (with_reducible refine kept_foldl1 (fun _ _ _ => ?_) ?_) | with_reducible apply kept_setStn | with_reducible apply kept_setSvcSt | fail_if_no_progress (with_reducible apply kept_mk) | (with_reducible refine kept_of_eq (by with_reducible assumption) ?_) | intro _ _ | split | dsimp only

theorem kept_svcSubs {s0 s : State} (p : Nat) (h : Kept s0 s) : Kept s0 (svcSubs s p) := by
  unfold svcSubs
  try dsimp only
  repeat' first | with_reducible assumption | with_reducible apply kept_ite | with_reducible apply kept_ite1 | with_reducible apply kept_ite2 | (with_reducible refine kept_forAll (fun _ _ _ => ?_) ?_) | (with_reducible refine kept_foldl (fun _ _ _ => ?_) ?_) | (with_reducible refine kept_foldl1 (fun _ _ _ => ?_) ?_) | with_reducible apply kept_setStn | with_reducible apply kept_commitSubs | fail_if_no_progress (with_reducible apply kept_mk) | (with_reducible refine kept_of_eq (by with_reducible assumption) ?_) | intro _ _ | split | dsimp only

theorem kept_svcOff {s0 s : State} (p : Nat) (h : Kept s0 s) : Kept s0 (svcOff s p) := by
  unfold svcOff
  try dsimp only
  repeat' first | with_reducible assumption | with_reducible apply kept_ite | with_reducible apply kept_ite1 | with_reducible apply kept_ite2 | (with_reducible refine kept_forAll (fun _ _ _ => ?_) ?_) | (with_reducible refine kept_foldl (fun _ _ _ => ?_) ?_) | (with_reducible refine kept_foldl1 (fun _ _ _ => ?_) ?_) | with_reducible apply kept_setStn | with_reducible apply kept_showStn | with_reducible apply kept_setSvcSt | with_reducible apply kept_setFld | with_reducible apply kept_svcStart | fail_if_no_progress (with_reducible apply kept_mk) | (with_reducible refine kept_of_eq (by with_reducible assumption) ?_) | intro _ _ | split | dsimp only

theorem kept_svcTick {s0 s : State} (p : Nat) (h : Kept s0 s) : Kept s0 (svcTick s p) := by
  unfold svcTick
  try dsimp only
  repeat' first | with_reducible assumption | with_reducible apply kept_ite | with_reducible apply kept_ite1 | with_reducible apply kept_ite2 | (with_reducible refine kept_forAll (fun _ _ _ => ?_) ?_) | (with_reducible refine kept_foldl (fun _ _ _ => ?_) ?_) | (with_reducible refine kept_foldl1 (fun _ _ _ => ?_) ?_) | with_reducible apply kept_setSvcSt | with_reducible apply kept_svcSubs | with_reducible apply kept_svcOff | fail_if_no_progress (with_reducible apply kept_mk) | (with_reducible refine kept_of_eq (by with_reducible assumption) ?_) | intro _ _ | split | dsimp only

theorem kept_stationTick {s0 s : State}  (h : Kept s0 s) : Kept s0 (stationTick s) := by
  unfold stationTick
  try dsimp only
  repeat' first | with_reducible assumption | with_reducible apply kept_ite | with_reducible apply kept_ite1 | with_reducible apply kept_ite2 | (with_reducible refine kept_forAll (fun _ _ _ => ?_) ?_) | (with_reducible refine kept_foldl (fun _ _ _ => ?_) ?_) | (with_reducible refine kept_foldl1 (fun _ _ _ => ?_) ?_) | with_reducible apply kept_svcTick | with_reducible apply kept_closeCycle | fail_if_no_progress (with_reducible apply kept_mk) | (with_reducible refine kept_of_eq (by with_reducible assumption) ?_) | intro _ _ | split | dsimp only

end Sys2Proof.Machine
end

