-- ==== Sys2Proof/Laws/KeptE.lean ====
section
/-! SUPPORT. What the host MACs, time, the twin, the Crucible, tamper, NOR and update operations keep. -/
namespace Sys2Proof.Machine
open Sys2Proof.Safety
set_option linter.unusedTactic false
set_option linter.unreachableTactic false

theorem kept_setHost {s0 s : State} (m : Nat) (x : HostMac) (h : Kept s0 s) : Kept s0 (setHost s m x) := by
  unfold setHost
  try dsimp only
  repeat' first | with_reducible assumption | with_reducible apply kept_ite | with_reducible apply kept_ite1 | with_reducible apply kept_ite2 | (with_reducible refine kept_forAll (fun _ _ _ => ?_) ?_) | (with_reducible refine kept_foldl (fun _ _ _ => ?_) ?_) | (with_reducible refine kept_foldl1 (fun _ _ _ => ?_) ?_) | fail_if_no_progress (with_reducible apply kept_mk) | (with_reducible refine kept_of_eq (by with_reducible assumption) ?_) | intro _ _ | split | dsimp only

theorem kept_hmCount {s0 s : State} (m : Nat) (n : Nat) (add : Nat) (h : Kept s0 s) : Kept s0 (hmCount s m n add) := by
  unfold hmCount
  try dsimp only
  repeat' first | with_reducible assumption | with_reducible apply kept_ite | with_reducible apply kept_ite1 | with_reducible apply kept_ite2 | (with_reducible refine kept_forAll (fun _ _ _ => ?_) ?_) | (with_reducible refine kept_foldl (fun _ _ _ => ?_) ?_) | (with_reducible refine kept_foldl1 (fun _ _ _ => ?_) ?_) | with_reducible apply kept_bump | with_reducible apply kept_raiseBit | with_reducible apply kept_setBit | fail_if_no_progress (with_reducible apply kept_mk) | (with_reducible refine kept_of_eq (by with_reducible assumption) ?_) | intro _ _ | split | dsimp only

theorem kept_setHmQueue {s0 s : State} (m : Nat) (q : Nat) (l : List TxFrame) (h : Kept s0 s) : Kept s0 (setHmQueue s m q l) := by
  unfold setHmQueue
  try dsimp only
  repeat' first | with_reducible assumption | with_reducible apply kept_ite | with_reducible apply kept_ite1 | with_reducible apply kept_ite2 | (with_reducible refine kept_forAll (fun _ _ _ => ?_) ?_) | (with_reducible refine kept_foldl (fun _ _ _ => ?_) ?_) | (with_reducible refine kept_foldl1 (fun _ _ _ => ?_) ?_) | with_reducible apply kept_setHost | fail_if_no_progress (with_reducible apply kept_mk) | (with_reducible refine kept_of_eq (by with_reducible assumption) ?_) | intro _ _ | split | dsimp only

theorem kept_hmDrop {s0 s : State} (m : Nat) (n : Nat) (h : Kept s0 s) : Kept s0 (hmDrop s m n) := by
  unfold hmDrop
  try dsimp only
  repeat' first | with_reducible assumption | with_reducible apply kept_ite | with_reducible apply kept_ite1 | with_reducible apply kept_ite2 | (with_reducible refine kept_forAll (fun _ _ _ => ?_) ?_) | (with_reducible refine kept_foldl (fun _ _ _ => ?_) ?_) | (with_reducible refine kept_foldl1 (fun _ _ _ => ?_) ?_) | with_reducible apply kept_raiseBit | with_reducible apply kept_hmCount | fail_if_no_progress (with_reducible apply kept_mk) | (with_reducible refine kept_of_eq (by with_reducible assumption) ?_) | intro _ _ | split | dsimp only

theorem kept_hmSend {s0 s : State} (m : Nat) (q : Nat) (f : TxFrame) (h : Kept s0 s) : Kept s0 (hmSend s m q f) := by
  unfold hmSend
  try dsimp only
  repeat' first | with_reducible assumption | with_reducible apply kept_ite | with_reducible apply kept_ite1 | with_reducible apply kept_ite2 | (with_reducible refine kept_forAll (fun _ _ _ => ?_) ?_) | (with_reducible refine kept_foldl (fun _ _ _ => ?_) ?_) | (with_reducible refine kept_foldl1 (fun _ _ _ => ?_) ?_) | with_reducible apply kept_setHmQueue | with_reducible apply kept_hmDrop | fail_if_no_progress (with_reducible apply kept_mk) | (with_reducible refine kept_of_eq (by with_reducible assumption) ?_) | intro _ _ | split | dsimp only

theorem kept_hostStart {s0 s : State} (m : Nat) (h : Kept s0 s) : Kept s0 (hostStart s m) := by
  unfold hostStart
  try dsimp only
  repeat' first | with_reducible assumption | with_reducible apply kept_ite | with_reducible apply kept_ite1 | with_reducible apply kept_ite2 | (with_reducible refine kept_forAll (fun _ _ _ => ?_) ?_) | (with_reducible refine kept_foldl (fun _ _ _ => ?_) ?_) | (with_reducible refine kept_foldl1 (fun _ _ _ => ?_) ?_) | with_reducible apply kept_setPageSt | with_reducible apply kept_setHost | fail_if_no_progress (with_reducible apply kept_mk) | (with_reducible refine kept_of_eq (by with_reducible assumption) ?_) | intro _ _ | split | dsimp only

theorem kept_hostStarted {s0 s : State} (m : Nat) (h : Kept s0 s) : Kept s0 (hostStarted s m) := by
  unfold hostStarted
  try dsimp only
  repeat' first | with_reducible assumption | with_reducible apply kept_ite | with_reducible apply kept_ite1 | with_reducible apply kept_ite2 | (with_reducible refine kept_forAll (fun _ _ _ => ?_) ?_) | (with_reducible refine kept_foldl (fun _ _ _ => ?_) ?_) | (with_reducible refine kept_foldl1 (fun _ _ _ => ?_) ?_) | with_reducible apply kept_setPageSt | fail_if_no_progress (with_reducible apply kept_mk) | (with_reducible refine kept_of_eq (by with_reducible assumption) ?_) | intro _ _ | split | dsimp only

theorem kept_hostOff {s0 s : State} (m : Nat) (h : Kept s0 s) : Kept s0 (hostOff s m) := by
  unfold hostOff
  try dsimp only
  repeat' first | with_reducible assumption | with_reducible apply kept_ite | with_reducible apply kept_ite1 | with_reducible apply kept_ite2 | (with_reducible refine kept_forAll (fun _ _ _ => ?_) ?_) | (with_reducible refine kept_foldl (fun _ _ _ => ?_) ?_) | (with_reducible refine kept_foldl1 (fun _ _ _ => ?_) ?_) | with_reducible apply kept_setPageSt | with_reducible apply kept_hostStart | with_reducible apply kept_setFld | fail_if_no_progress (with_reducible apply kept_mk) | (with_reducible refine kept_of_eq (by with_reducible assumption) ?_) | intro _ _ | split | dsimp only

theorem kept_hostDiscard {s0 s : State} (m : Nat) (h : Kept s0 s) : Kept s0 (hostDiscard s m) := by
  unfold hostDiscard
  try dsimp only
  repeat' first | with_reducible assumption | with_reducible apply kept_ite | with_reducible apply kept_ite1 | with_reducible apply kept_ite2 | (with_reducible refine kept_forAll (fun _ _ _ => ?_) ?_) | (with_reducible refine kept_foldl (fun _ _ _ => ?_) ?_) | (with_reducible refine kept_foldl1 (fun _ _ _ => ?_) ?_) | with_reducible apply kept_hmDrop | with_reducible apply kept_setHost | fail_if_no_progress (with_reducible apply kept_mk) | (with_reducible refine kept_of_eq (by with_reducible assumption) ?_) | intro _ _ | split | dsimp only

theorem kept_hostStopped {s0 s : State} (m : Nat) (h : Kept s0 s) : Kept s0 (hostStopped s m) := by
  unfold hostStopped
  try dsimp only
  repeat' first | with_reducible assumption | with_reducible apply kept_ite | with_reducible apply kept_ite1 | with_reducible apply kept_ite2 | (with_reducible refine kept_forAll (fun _ _ _ => ?_) ?_) | (with_reducible refine kept_foldl (fun _ _ _ => ?_) ?_) | (with_reducible refine kept_foldl1 (fun _ _ _ => ?_) ?_) | with_reducible apply kept_hostDiscard | with_reducible apply kept_hostOff | fail_if_no_progress (with_reducible apply kept_mk) | (with_reducible refine kept_of_eq (by with_reducible assumption) ?_) | intro _ _ | split | dsimp only

theorem kept_hostStop {s0 s : State} (m : Nat) (h : Kept s0 s) : Kept s0 (hostStop s m) := by
  unfold hostStop
  try dsimp only
  repeat' first | with_reducible assumption | with_reducible apply kept_ite | with_reducible apply kept_ite1 | with_reducible apply kept_ite2 | (with_reducible refine kept_forAll (fun _ _ _ => ?_) ?_) | (with_reducible refine kept_foldl (fun _ _ _ => ?_) ?_) | (with_reducible refine kept_foldl1 (fun _ _ _ => ?_) ?_) | with_reducible apply kept_setPageSt | fail_if_no_progress (with_reducible apply kept_mk) | (with_reducible refine kept_of_eq (by with_reducible assumption) ?_) | intro _ _ | split | dsimp only

theorem kept_hostLinkUp {s0 s : State} (m : Nat) (speed : Nat) (h : Kept s0 s) : Kept s0 (hostLinkUp s m speed) := by
  unfold hostLinkUp
  try dsimp only
  repeat' first | with_reducible assumption | with_reducible apply kept_ite | with_reducible apply kept_ite1 | with_reducible apply kept_ite2 | (with_reducible refine kept_forAll (fun _ _ _ => ?_) ?_) | (with_reducible refine kept_foldl (fun _ _ _ => ?_) ?_) | (with_reducible refine kept_foldl1 (fun _ _ _ => ?_) ?_) | with_reducible apply kept_setFld | with_reducible apply kept_raiseBit | fail_if_no_progress (with_reducible apply kept_mk) | (with_reducible refine kept_of_eq (by with_reducible assumption) ?_) | intro _ _ | split | dsimp only

theorem kept_hostLinkDown {s0 s : State} (m : Nat) (h : Kept s0 s) : Kept s0 (hostLinkDown s m) := by
  unfold hostLinkDown
  try dsimp only
  repeat' first | with_reducible assumption | with_reducible apply kept_ite | with_reducible apply kept_ite1 | with_reducible apply kept_ite2 | (with_reducible refine kept_forAll (fun _ _ _ => ?_) ?_) | (with_reducible refine kept_foldl (fun _ _ _ => ?_) ?_) | (with_reducible refine kept_foldl1 (fun _ _ _ => ?_) ?_) | with_reducible apply kept_hostStopped | with_reducible apply kept_raiseBit | with_reducible apply kept_wr | fail_if_no_progress (with_reducible apply kept_mk) | (with_reducible refine kept_of_eq (by with_reducible assumption) ?_) | intro _ _ | split | dsimp only

theorem kept_ptpPush {s0 s : State} (m : Nat) (tx : Bool) (x : PtpStamp) (h : Kept s0 s) : Kept s0 (ptpPush s m tx x) := by
  unfold ptpPush
  try dsimp only
  repeat' first | with_reducible assumption | with_reducible apply kept_ite | with_reducible apply kept_ite1 | with_reducible apply kept_ite2 | (with_reducible refine kept_forAll (fun _ _ _ => ?_) ?_) | (with_reducible refine kept_foldl (fun _ _ _ => ?_) ?_) | (with_reducible refine kept_foldl1 (fun _ _ _ => ?_) ?_) | with_reducible apply kept_setHost | with_reducible apply kept_raiseBit | fail_if_no_progress (with_reducible apply kept_mk) | (with_reducible refine kept_of_eq (by with_reducible assumption) ?_) | intro _ _ | split | dsimp only

theorem kept_ptpPop {s0 s : State} (m : Nat) (tx : Bool) (h : Kept s0 s) : Kept s0 (ptpPop s m tx) := by
  unfold ptpPop
  try dsimp only
  repeat' first | with_reducible assumption | with_reducible apply kept_ite | with_reducible apply kept_ite1 | with_reducible apply kept_ite2 | (with_reducible refine kept_forAll (fun _ _ _ => ?_) ?_) | (with_reducible refine kept_foldl (fun _ _ _ => ?_) ?_) | (with_reducible refine kept_foldl1 (fun _ _ _ => ?_) ?_) | with_reducible apply kept_setHost | fail_if_no_progress (with_reducible apply kept_mk) | (with_reducible refine kept_of_eq (by with_reducible assumption) ?_) | intro _ _ | split | dsimp only

theorem kept_hostTakes {s0 s : State} (m : Nat) (x : HostFrame) (k : HostKind) (h : Kept s0 s) : Kept s0 (hostTakes s m x k) := by
  unfold hostTakes
  try dsimp only
  repeat' first | with_reducible assumption | with_reducible apply kept_ite | with_reducible apply kept_ite1 | with_reducible apply kept_ite2 | (with_reducible refine kept_forAll (fun _ _ _ => ?_) ?_) | (with_reducible refine kept_foldl (fun _ _ _ => ?_) ?_) | (with_reducible refine kept_foldl1 (fun _ _ _ => ?_) ?_) | with_reducible apply kept_hmCount | with_reducible apply kept_hmSend | with_reducible apply kept_setHost | with_reducible apply kept_ptpPush | fail_if_no_progress (with_reducible apply kept_mk) | (with_reducible refine kept_of_eq (by with_reducible assumption) ?_) | intro _ _ | split | dsimp only

theorem kept_hostFrameReceived {s0 s : State} (m : Nat) (x : HostFrame) (h : Kept s0 s) : Kept s0 (hostFrameReceived s m x) := by
  unfold hostFrameReceived
  try dsimp only
  repeat' first | with_reducible assumption | with_reducible apply kept_ite | with_reducible apply kept_ite1 | with_reducible apply kept_ite2 | (with_reducible refine kept_forAll (fun _ _ _ => ?_) ?_) | (with_reducible refine kept_foldl (fun _ _ _ => ?_) ?_) | (with_reducible refine kept_foldl1 (fun _ _ _ => ?_) ?_) | with_reducible apply kept_raiseBit | with_reducible apply kept_hmCount | with_reducible apply kept_setHost | with_reducible apply kept_hostTakes | fail_if_no_progress (with_reducible apply kept_mk) | (with_reducible refine kept_of_eq (by with_reducible assumption) ?_) | intro _ _ | split | dsimp only

theorem kept_stampSent {s0 s : State} (m : Nat) (f : TxFrame) (stamp : Nat) (h : Kept s0 s) : Kept s0 (stampSent s m f stamp) := by
  unfold stampSent
  try dsimp only
  repeat' first | with_reducible assumption | with_reducible apply kept_ite | with_reducible apply kept_ite1 | with_reducible apply kept_ite2 | (with_reducible refine kept_forAll (fun _ _ _ => ?_) ?_) | (with_reducible refine kept_foldl (fun _ _ _ => ?_) ?_) | (with_reducible refine kept_foldl1 (fun _ _ _ => ?_) ?_) | with_reducible apply kept_ptpPush | with_reducible apply kept_hmCount | fail_if_no_progress (with_reducible apply kept_mk) | (with_reducible refine kept_of_eq (by with_reducible assumption) ?_) | intro _ _ | split | dsimp only

theorem kept_hostFrameTransmit {s0 s : State} (m : Nat) (stamp : Nat) (underrun : Bool) (h : Kept s0 s) : Kept s0 (hostFrameTransmit s m stamp underrun) := by
  unfold hostFrameTransmit
  try dsimp only
  repeat' first | with_reducible assumption | with_reducible apply kept_ite | with_reducible apply kept_ite1 | with_reducible apply kept_ite2 | (with_reducible refine kept_forAll (fun _ _ _ => ?_) ?_) | (with_reducible refine kept_foldl (fun _ _ _ => ?_) ?_) | (with_reducible refine kept_foldl1 (fun _ _ _ => ?_) ?_) | with_reducible apply kept_setHmQueue | with_reducible apply kept_hmCount | with_reducible apply kept_setHost | with_reducible apply kept_stampSent | with_reducible apply kept_hostStopped | fail_if_no_progress (with_reducible apply kept_mk) | (with_reducible refine kept_of_eq (by with_reducible assumption) ?_) | intro _ _ | split | dsimp only

theorem kept_hmCounterClear {s0 s : State} (m : Nat) (v : Word) (h : Kept s0 s) : Kept s0 (hmCounterClear s m v).1 := by
  unfold hmCounterClear
  try dsimp only
  repeat' first | with_reducible assumption | with_reducible apply kept_ite | with_reducible apply kept_ite1 | with_reducible apply kept_ite2 | (with_reducible refine kept_forAll (fun _ _ _ => ?_) ?_) | (with_reducible refine kept_foldl (fun _ _ _ => ?_) ?_) | (with_reducible refine kept_foldl1 (fun _ _ _ => ?_) ?_) | with_reducible apply kept_wr | fail_if_no_progress (with_reducible apply kept_mk) | (with_reducible refine kept_of_eq (by with_reducible assumption) ?_) | intro _ _ | split | dsimp only

theorem kept_mdioWrite {s0 s : State} (m : Nat) (v : Word) (h : Kept s0 s) : Kept s0 (mdioWrite s m v).1 := by
  unfold mdioWrite
  try dsimp only
  repeat' first | with_reducible assumption | with_reducible apply kept_ite | with_reducible apply kept_ite1 | with_reducible apply kept_ite2 | (with_reducible refine kept_forAll (fun _ _ _ => ?_) ?_) | (with_reducible refine kept_foldl (fun _ _ _ => ?_) ?_) | (with_reducible refine kept_foldl1 (fun _ _ _ => ?_) ?_) | with_reducible apply kept_wr | fail_if_no_progress (with_reducible apply kept_mk) | (with_reducible refine kept_of_eq (by with_reducible assumption) ?_) | intro _ _ | split | dsimp only

theorem kept_mdioDone {s0 s : State} (m : Nat) (data : Nat) (h : Kept s0 s) : Kept s0 (mdioDone s m data) := by
  unfold mdioDone
  try dsimp only
  repeat' first | with_reducible assumption | with_reducible apply kept_ite | with_reducible apply kept_ite1 | with_reducible apply kept_ite2 | (with_reducible refine kept_forAll (fun _ _ _ => ?_) ?_) | (with_reducible refine kept_foldl (fun _ _ _ => ?_) ?_) | (with_reducible refine kept_foldl1 (fun _ _ _ => ?_) ?_) | with_reducible apply kept_setFld | fail_if_no_progress (with_reducible apply kept_mk) | (with_reducible refine kept_of_eq (by with_reducible assumption) ?_) | intro _ _ | split | dsimp only

theorem kept_endSubs {s0 s : State} (n : Nat) (h : Kept s0 s) : Kept s0 (endSubs s n) := by
  unfold endSubs
  try dsimp only
  repeat' first | with_reducible assumption | with_reducible apply kept_ite | with_reducible apply kept_ite1 | with_reducible apply kept_ite2 | (with_reducible refine kept_forAll (fun _ _ _ => ?_) ?_) | (with_reducible refine kept_foldl (fun _ _ _ => ?_) ?_) | (with_reducible refine kept_foldl1 (fun _ _ _ => ?_) ?_) | fail_if_no_progress (with_reducible apply kept_mk) | (with_reducible refine kept_of_eq (by with_reducible assumption) ?_) | intro _ _ | split | dsimp only

theorem kept_bindWrite {s0 s : State} (n : Nat) (v : Word) (h : Kept s0 s) : Kept s0 (bindWrite s n v).1 := by
  unfold bindWrite
  try dsimp only
  repeat' first | with_reducible assumption | with_reducible apply kept_ite | with_reducible apply kept_ite1 | with_reducible apply kept_ite2 | (with_reducible refine kept_forAll (fun _ _ _ => ?_) ?_) | (with_reducible refine kept_foldl (fun _ _ _ => ?_) ?_) | (with_reducible refine kept_foldl1 (fun _ _ _ => ?_) ?_) | with_reducible apply kept_endSubs | with_reducible apply kept_wr | fail_if_no_progress (with_reducible apply kept_mk) | (with_reducible refine kept_of_eq (by with_reducible assumption) ?_) | intro _ _ | split | dsimp only

theorem kept_nrapReply {s0 s : State} (m : Nat) (q : Nat) (d : Datagram) (data : List Byte) (h : Kept s0 s) : Kept s0 (nrapReply s m q d data) := by
  unfold nrapReply
  try dsimp only
  repeat' first | with_reducible assumption | with_reducible apply kept_ite | with_reducible apply kept_ite1 | with_reducible apply kept_ite2 | (with_reducible refine kept_forAll (fun _ _ _ => ?_) ?_) | (with_reducible refine kept_foldl (fun _ _ _ => ?_) ?_) | (with_reducible refine kept_foldl1 (fun _ _ _ => ?_) ?_) | with_reducible apply kept_hmSend | fail_if_no_progress (with_reducible apply kept_mk) | (with_reducible refine kept_of_eq (by with_reducible assumption) ?_) | intro _ _ | split | dsimp only

theorem kept_bareReply {s0 s : State} (m : Nat) (d : Datagram) (c : Code) (h : Kept s0 s) : Kept s0 (bareReply s m d c) := by
  unfold bareReply
  try dsimp only
  repeat' first | with_reducible assumption | with_reducible apply kept_ite | with_reducible apply kept_ite1 | with_reducible apply kept_ite2 | (with_reducible refine kept_forAll (fun _ _ _ => ?_) ?_) | (with_reducible refine kept_foldl (fun _ _ _ => ?_) ?_) | (with_reducible refine kept_foldl1 (fun _ _ _ => ?_) ?_) | with_reducible apply kept_nrapReply | fail_if_no_progress (with_reducible apply kept_mk) | (with_reducible refine kept_of_eq (by with_reducible assumption) ?_) | intro _ _ | split | dsimp only

theorem kept_sealedReply {s0 s : State} (m : Nat) (d : Datagram) (c : Code) (h : Kept s0 s) : Kept s0 (sealedReply s m d c) := by
  unfold sealedReply
  try dsimp only
  repeat' first | with_reducible assumption | with_reducible apply kept_ite | with_reducible apply kept_ite1 | with_reducible apply kept_ite2 | (with_reducible refine kept_forAll (fun _ _ _ => ?_) ?_) | (with_reducible refine kept_foldl (fun _ _ _ => ?_) ?_) | (with_reducible refine kept_foldl1 (fun _ _ _ => ?_) ?_) | with_reducible apply kept_nrapReply | fail_if_no_progress (with_reducible apply kept_mk) | (with_reducible refine kept_of_eq (by with_reducible assumption) ?_) | intro _ _ | split | dsimp only

theorem kept_refuseAuth {s0 s : State} (m : Nat) (d : Datagram) (h : Kept s0 s) : Kept s0 (refuseAuth s m d) := by
  unfold refuseAuth
  try dsimp only
  repeat' first | with_reducible assumption | with_reducible apply kept_ite | with_reducible apply kept_ite1 | with_reducible apply kept_ite2 | (with_reducible refine kept_forAll (fun _ _ _ => ?_) ?_) | (with_reducible refine kept_foldl (fun _ _ _ => ?_) ?_) | (with_reducible refine kept_foldl1 (fun _ _ _ => ?_) ?_) | with_reducible apply kept_raiseBit | with_reducible apply kept_bumpSat | with_reducible apply kept_hmCount | with_reducible apply kept_bareReply | fail_if_no_progress (with_reducible apply kept_mk) | (with_reducible refine kept_of_eq (by with_reducible assumption) ?_) | intro _ _ | split | dsimp only

theorem kept_refuseSeq {s0 s : State} (m : Nat) (d : Datagram) (h : Kept s0 s) : Kept s0 (refuseSeq s m d) := by
  unfold refuseSeq
  try dsimp only
  repeat' first | with_reducible assumption | with_reducible apply kept_ite | with_reducible apply kept_ite1 | with_reducible apply kept_ite2 | (with_reducible refine kept_forAll (fun _ _ _ => ?_) ?_) | (with_reducible refine kept_foldl (fun _ _ _ => ?_) ?_) | (with_reducible refine kept_foldl1 (fun _ _ _ => ?_) ?_) | with_reducible apply kept_sealedReply | with_reducible apply kept_raiseBit | with_reducible apply kept_bumpSat | with_reducible apply kept_hmCount | fail_if_no_progress (with_reducible apply kept_mk) | (with_reducible refine kept_of_eq (by with_reducible assumption) ?_) | intro _ _ | split | dsimp only

theorem kept_showDepth {s0 s : State}  (h : Kept s0 s) : Kept s0 (showDepth s) := by
  unfold showDepth
  try dsimp only
  repeat' first | with_reducible assumption | with_reducible apply kept_ite | with_reducible apply kept_ite1 | with_reducible apply kept_ite2 | (with_reducible refine kept_forAll (fun _ _ _ => ?_) ?_) | (with_reducible refine kept_foldl (fun _ _ _ => ?_) ?_) | (with_reducible refine kept_foldl1 (fun _ _ _ => ?_) ?_) | with_reducible apply kept_setFld | with_reducible apply kept_setTwin | with_reducible apply kept_raiseBit | fail_if_no_progress (with_reducible apply kept_mk) | (with_reducible refine kept_of_eq (by with_reducible assumption) ?_) | intro _ _ | split | dsimp only

theorem kept_acceptReq {s0 s : State} (r : NrapReq) (h : Kept s0 s) : Kept s0 (acceptReq s r) := by
  unfold acceptReq
  try dsimp only
  repeat' first | with_reducible assumption | with_reducible apply kept_ite | with_reducible apply kept_ite1 | with_reducible apply kept_ite2 | (with_reducible refine kept_forAll (fun _ _ _ => ?_) ?_) | (with_reducible refine kept_foldl (fun _ _ _ => ?_) ?_) | (with_reducible refine kept_foldl1 (fun _ _ _ => ?_) ?_) | with_reducible apply kept_showDepth | with_reducible apply kept_demand | with_reducible apply kept_wakeEvent | fail_if_no_progress (with_reducible apply kept_mk) | (with_reducible refine kept_of_eq (by with_reducible assumption) ?_) | intro _ _ | split | dsimp only

theorem kept_admitReq {s0 s : State} (m : Nat) (d : Datagram) (r : NrapReq) (h : Kept s0 s) : Kept s0 (admitReq s m d r) := by
  unfold admitReq
  try dsimp only
  repeat' first | with_reducible assumption | with_reducible apply kept_ite | with_reducible apply kept_ite1 | with_reducible apply kept_ite2 | (with_reducible refine kept_forAll (fun _ _ _ => ?_) ?_) | (with_reducible refine kept_foldl (fun _ _ _ => ?_) ?_) | (with_reducible refine kept_foldl1 (fun _ _ _ => ?_) ?_) | with_reducible apply kept_sealedReply | with_reducible apply kept_bumpSat | with_reducible apply kept_acceptReq | fail_if_no_progress (with_reducible apply kept_mk) | (with_reducible refine kept_of_eq (by with_reducible assumption) ?_) | intro _ _ | split | dsimp only

theorem kept_sequenceReq {s0 s : State} (m : Nat) (d : Datagram) (r : NrapReq) (h : Kept s0 s) : Kept s0 (sequenceReq s m d r) := by
  unfold sequenceReq
  try dsimp only
  repeat' first | with_reducible assumption | with_reducible apply kept_ite | with_reducible apply kept_ite1 | with_reducible apply kept_ite2 | (with_reducible refine kept_forAll (fun _ _ _ => ?_) ?_) | (with_reducible refine kept_foldl (fun _ _ _ => ?_) ?_) | (with_reducible refine kept_foldl1 (fun _ _ _ => ?_) ?_) | with_reducible apply kept_admitReq | with_reducible apply kept_refuseSeq | with_reducible apply kept_hmSend | fail_if_no_progress (with_reducible apply kept_mk) | (with_reducible refine kept_of_eq (by with_reducible assumption) ?_) | intro _ _ | split | dsimp only

theorem kept_frontEnd {s0 s : State} (m : Nat) (d : Datagram) (h : Kept s0 s) : Kept s0 (frontEnd s m d) := by
  unfold frontEnd
  try dsimp only
  repeat' first | with_reducible assumption | with_reducible apply kept_ite | with_reducible apply kept_ite1 | with_reducible apply kept_ite2 | (with_reducible refine kept_forAll (fun _ _ _ => ?_) ?_) | (with_reducible refine kept_foldl (fun _ _ _ => ?_) ?_) | (with_reducible refine kept_foldl1 (fun _ _ _ => ?_) ?_) | with_reducible apply kept_hmCount | with_reducible apply kept_bareReply | with_reducible apply kept_refuseAuth | with_reducible apply kept_sequenceReq | fail_if_no_progress (with_reducible apply kept_mk) | (with_reducible refine kept_of_eq (by with_reducible assumption) ?_) | intro _ _ | split | dsimp only

theorem kept_nrapRequest {s0 s : State} (m : Nat) (h : Kept s0 s) : Kept s0 (nrapRequest s m) := by
  unfold nrapRequest
  try dsimp only
  repeat' first | with_reducible assumption | with_reducible apply kept_ite | with_reducible apply kept_ite1 | with_reducible apply kept_ite2 | (with_reducible refine kept_forAll (fun _ _ _ => ?_) ?_) | (with_reducible refine kept_foldl (fun _ _ _ => ?_) ?_) | (with_reducible refine kept_foldl1 (fun _ _ _ => ?_) ?_) | with_reducible apply kept_frontEnd | with_reducible apply kept_setHost | fail_if_no_progress (with_reducible apply kept_mk) | (with_reducible refine kept_of_eq (by with_reducible assumption) ?_) | intro _ _ | split | dsimp only

theorem kept_stepTo {s0 s : State} (v : DWord) (h : Kept s0 s) : Kept s0 (stepTo s v) := by
  unfold stepTo
  try dsimp only
  repeat' first | with_reducible assumption | with_reducible apply kept_ite | with_reducible apply kept_ite1 | with_reducible apply kept_ite2 | (with_reducible refine kept_forAll (fun _ _ _ => ?_) ?_) | (with_reducible refine kept_foldl (fun _ _ _ => ?_) ?_) | (with_reducible refine kept_foldl1 (fun _ _ _ => ?_) ?_) | with_reducible apply kept_raiseBit | with_reducible apply kept_bumpFld | fail_if_no_progress (with_reducible apply kept_mk) | (with_reducible refine kept_of_eq (by with_reducible assumption) ?_) | intro _ _ | split | dsimp only

theorem kept_tbStep {s0 s : State} (v : DWord) (h : Kept s0 s) : Kept s0 (tbStep s v).1 := by
  unfold tbStep
  try dsimp only
  repeat' first | with_reducible assumption | with_reducible apply kept_ite | with_reducible apply kept_ite1 | with_reducible apply kept_ite2 | (with_reducible refine kept_forAll (fun _ _ _ => ?_) ?_) | (with_reducible refine kept_foldl (fun _ _ _ => ?_) ?_) | (with_reducible refine kept_foldl1 (fun _ _ _ => ?_) ?_) | with_reducible apply kept_stepTo | fail_if_no_progress (with_reducible apply kept_mk) | (with_reducible refine kept_of_eq (by with_reducible assumption) ?_) | intro _ _ | split | dsimp only

theorem kept_tbRate {s0 s : State} (v : Word) (h : Kept s0 s) : Kept s0 (tbRate s v).1 := by
  unfold tbRate
  try dsimp only
  repeat' first | with_reducible assumption | with_reducible apply kept_ite | with_reducible apply kept_ite1 | with_reducible apply kept_ite2 | (with_reducible refine kept_forAll (fun _ _ _ => ?_) ?_) | (with_reducible refine kept_foldl (fun _ _ _ => ?_) ?_) | (with_reducible refine kept_foldl1 (fun _ _ _ => ?_) ?_) | with_reducible apply kept_wr | fail_if_no_progress (with_reducible apply kept_mk) | (with_reducible refine kept_of_eq (by with_reducible assumption) ?_) | intro _ _ | split | dsimp only

theorem kept_tbSlew {s0 s : State} (v : Word) (h : Kept s0 s) : Kept s0 (tbSlew s v).1 := by
  unfold tbSlew
  try dsimp only
  repeat' first | with_reducible assumption | with_reducible apply kept_ite | with_reducible apply kept_ite1 | with_reducible apply kept_ite2 | (with_reducible refine kept_forAll (fun _ _ _ => ?_) ?_) | (with_reducible refine kept_foldl (fun _ _ _ => ?_) ?_) | (with_reducible refine kept_foldl1 (fun _ _ _ => ?_) ?_) | with_reducible apply kept_takeFree | with_reducible apply kept_wr | fail_if_no_progress (with_reducible apply kept_mk) | (with_reducible refine kept_of_eq (by with_reducible assumption) ?_) | intro _ _ | split | dsimp only

theorem kept_absorbSlew {s0 s : State}  (h : Kept s0 s) : Kept s0 (absorbSlew s) := by
  unfold absorbSlew
  try dsimp only
  repeat' first | with_reducible assumption | with_reducible apply kept_ite | with_reducible apply kept_ite1 | with_reducible apply kept_ite2 | (with_reducible refine kept_forAll (fun _ _ _ => ?_) ?_) | (with_reducible refine kept_foldl (fun _ _ _ => ?_) ?_) | (with_reducible refine kept_foldl1 (fun _ _ _ => ?_) ?_) | with_reducible apply kept_wr | fail_if_no_progress (with_reducible apply kept_mk) | (with_reducible refine kept_of_eq (by with_reducible assumption) ?_) | intro _ _ | split | dsimp only

theorem kept_linkDelay {s0 s : State} (rtt : Nat) (h : Kept s0 s) : Kept s0 (linkDelay s rtt) := by
  unfold linkDelay
  try dsimp only
  repeat' first | with_reducible assumption | with_reducible apply kept_ite | with_reducible apply kept_ite1 | with_reducible apply kept_ite2 | (with_reducible refine kept_forAll (fun _ _ _ => ?_) ?_) | (with_reducible refine kept_foldl (fun _ _ _ => ?_) ?_) | (with_reducible refine kept_foldl1 (fun _ _ _ => ?_) ?_) | with_reducible apply kept_wr | fail_if_no_progress (with_reducible apply kept_mk) | (with_reducible refine kept_of_eq (by with_reducible assumption) ?_) | intro _ _ | split | dsimp only

theorem kept_countAligned {s0 s : State} (off : Int) (h : Kept s0 s) : Kept s0 (countAligned s off) := by
  unfold countAligned
  try dsimp only
  repeat' first | with_reducible assumption | with_reducible apply kept_ite | with_reducible apply kept_ite1 | with_reducible apply kept_ite2 | (with_reducible refine kept_forAll (fun _ _ _ => ?_) ?_) | (with_reducible refine kept_foldl (fun _ _ _ => ?_) ?_) | (with_reducible refine kept_foldl1 (fun _ _ _ => ?_) ?_) | with_reducible apply kept_raiseBit | with_reducible apply kept_setFld | fail_if_no_progress (with_reducible apply kept_mk) | (with_reducible refine kept_of_eq (by with_reducible assumption) ?_) | intro _ _ | split | dsimp only

theorem kept_follow {s0 s : State} (tb : DWord) (at_ : DWord) (h : Kept s0 s) : Kept s0 (follow s tb at_) := by
  unfold follow
  try dsimp only
  repeat' first | with_reducible assumption | with_reducible apply kept_ite | with_reducible apply kept_ite1 | with_reducible apply kept_ite2 | (with_reducible refine kept_forAll (fun _ _ _ => ?_) ?_) | (with_reducible refine kept_foldl (fun _ _ _ => ?_) ?_) | (with_reducible refine kept_foldl1 (fun _ _ _ => ?_) ?_) | with_reducible apply kept_countAligned | with_reducible apply kept_wr | with_reducible apply kept_stepTo | fail_if_no_progress (with_reducible apply kept_mk) | (with_reducible refine kept_of_eq (by with_reducible assumption) ?_) | intro _ _ | split | dsimp only

theorem kept_setPtpState {s0 s : State} (n : Nat) (h : Kept s0 s) : Kept s0 (setPtpState s n) := by
  unfold setPtpState
  try dsimp only
  repeat' first | with_reducible assumption | with_reducible apply kept_ite | with_reducible apply kept_ite1 | with_reducible apply kept_ite2 | (with_reducible refine kept_forAll (fun _ _ _ => ?_) ?_) | (with_reducible refine kept_foldl (fun _ _ _ => ?_) ?_) | (with_reducible refine kept_foldl1 (fun _ _ _ => ?_) ?_) | with_reducible apply kept_setFld | fail_if_no_progress (with_reducible apply kept_mk) | (with_reducible refine kept_of_eq (by with_reducible assumption) ?_) | intro _ _ | split | dsimp only

theorem kept_setPtp {s0 s : State} (x : Ptp) (h : Kept s0 s) : Kept s0 (setPtp s x) := by
  unfold setPtp
  try dsimp only
  repeat' first | with_reducible assumption | with_reducible apply kept_ite | with_reducible apply kept_ite1 | with_reducible apply kept_ite2 | (with_reducible refine kept_forAll (fun _ _ _ => ?_) ?_) | (with_reducible refine kept_foldl (fun _ _ _ => ?_) ?_) | (with_reducible refine kept_foldl1 (fun _ _ _ => ?_) ?_) | fail_if_no_progress (with_reducible apply kept_mk) | (with_reducible refine kept_of_eq (by with_reducible assumption) ?_) | intro _ _ | split | dsimp only

theorem kept_ptpStart {s0 s : State}  (h : Kept s0 s) : Kept s0 (ptpStart s) := by
  unfold ptpStart
  try dsimp only
  repeat' first | with_reducible assumption | with_reducible apply kept_ite | with_reducible apply kept_ite1 | with_reducible apply kept_ite2 | (with_reducible refine kept_forAll (fun _ _ _ => ?_) ?_) | (with_reducible refine kept_foldl (fun _ _ _ => ?_) ?_) | (with_reducible refine kept_foldl1 (fun _ _ _ => ?_) ?_) | with_reducible apply kept_setPageSt | with_reducible apply kept_setPtp | fail_if_no_progress (with_reducible apply kept_mk) | (with_reducible refine kept_of_eq (by with_reducible assumption) ?_) | intro _ _ | split | dsimp only

theorem kept_ptpStarted {s0 s : State}  (h : Kept s0 s) : Kept s0 (ptpStarted s) := by
  unfold ptpStarted
  try dsimp only
  repeat' first | with_reducible assumption | with_reducible apply kept_ite | with_reducible apply kept_ite1 | with_reducible apply kept_ite2 | (with_reducible refine kept_forAll (fun _ _ _ => ?_) ?_) | (with_reducible refine kept_foldl (fun _ _ _ => ?_) ?_) | (with_reducible refine kept_foldl1 (fun _ _ _ => ?_) ?_) | with_reducible apply kept_setPtpState | with_reducible apply kept_setPageSt | fail_if_no_progress (with_reducible apply kept_mk) | (with_reducible refine kept_of_eq (by with_reducible assumption) ?_) | intro _ _ | split | dsimp only

theorem kept_ptpStop {s0 s : State}  (h : Kept s0 s) : Kept s0 (ptpStop s) := by
  unfold ptpStop
  try dsimp only
  repeat' first | with_reducible assumption | with_reducible apply kept_ite | with_reducible apply kept_ite1 | with_reducible apply kept_ite2 | (with_reducible refine kept_forAll (fun _ _ _ => ?_) ?_) | (with_reducible refine kept_foldl (fun _ _ _ => ?_) ?_) | (with_reducible refine kept_foldl1 (fun _ _ _ => ?_) ?_) | with_reducible apply kept_setPageSt | fail_if_no_progress (with_reducible apply kept_mk) | (with_reducible refine kept_of_eq (by with_reducible assumption) ?_) | intro _ _ | split | dsimp only

theorem kept_ptpStopped {s0 s : State}  (h : Kept s0 s) : Kept s0 (ptpStopped s) := by
  unfold ptpStopped
  try dsimp only
  repeat' first | with_reducible assumption | with_reducible apply kept_ite | with_reducible apply kept_ite1 | with_reducible apply kept_ite2 | (with_reducible refine kept_forAll (fun _ _ _ => ?_) ?_) | (with_reducible refine kept_foldl (fun _ _ _ => ?_) ?_) | (with_reducible refine kept_foldl1 (fun _ _ _ => ?_) ?_) | with_reducible apply kept_setPtpState | with_reducible apply kept_setPageSt | with_reducible apply kept_ptpStart | with_reducible apply kept_setFld | fail_if_no_progress (with_reducible apply kept_mk) | (with_reducible refine kept_of_eq (by with_reducible assumption) ?_) | intro _ _ | split | dsimp only

theorem kept_ptpAnnounce {s0 s : State} (a : PtpAnnounce) (h : Kept s0 s) : Kept s0 (ptpAnnounce s a) := by
  unfold ptpAnnounce
  try dsimp only
  repeat' first | with_reducible assumption | with_reducible apply kept_ite | with_reducible apply kept_ite1 | with_reducible apply kept_ite2 | (with_reducible refine kept_forAll (fun _ _ _ => ?_) ?_) | (with_reducible refine kept_foldl (fun _ _ _ => ?_) ?_) | (with_reducible refine kept_foldl1 (fun _ _ _ => ?_) ?_) | with_reducible apply kept_setPtp | with_reducible apply kept_setPtpState | fail_if_no_progress (with_reducible apply kept_mk) | (with_reducible refine kept_of_eq (by with_reducible assumption) ?_) | intro _ _ | split | dsimp only

theorem kept_sendDelayReq {s0 s : State}  (h : Kept s0 s) : Kept s0 (sendDelayReq s) := by
  unfold sendDelayReq
  try dsimp only
  repeat' first | with_reducible assumption | with_reducible apply kept_ite | with_reducible apply kept_ite1 | with_reducible apply kept_ite2 | (with_reducible refine kept_forAll (fun _ _ _ => ?_) ?_) | (with_reducible refine kept_foldl (fun _ _ _ => ?_) ?_) | (with_reducible refine kept_foldl1 (fun _ _ _ => ?_) ?_) | with_reducible apply kept_setPtp | with_reducible apply kept_hmSend | fail_if_no_progress (with_reducible apply kept_mk) | (with_reducible refine kept_of_eq (by with_reducible assumption) ?_) | intro _ _ | split | dsimp only

theorem kept_setOrigin {s0 s : State} (n : Int) (h : Kept s0 s) : Kept s0 (setOrigin s n) := by
  unfold setOrigin
  try dsimp only
  repeat' first | with_reducible assumption | with_reducible apply kept_ite | with_reducible apply kept_ite1 | with_reducible apply kept_ite2 | (with_reducible refine kept_forAll (fun _ _ _ => ?_) ?_) | (with_reducible refine kept_foldl (fun _ _ _ => ?_) ?_) | (with_reducible refine kept_foldl1 (fun _ _ _ => ?_) ?_) | with_reducible apply kept_raiseBit | with_reducible apply kept_wr | fail_if_no_progress (with_reducible apply kept_mk) | (with_reducible refine kept_of_eq (by with_reducible assumption) ?_) | intro _ _ | split | dsimp only

theorem kept_servoRate {s0 s : State}  (h : Kept s0 s) : Kept s0 (servoRate s) := by
  unfold servoRate
  try dsimp only
  repeat' first | with_reducible assumption | with_reducible apply kept_ite | with_reducible apply kept_ite1 | with_reducible apply kept_ite2 | (with_reducible refine kept_forAll (fun _ _ _ => ?_) ?_) | (with_reducible refine kept_foldl (fun _ _ _ => ?_) ?_) | (with_reducible refine kept_foldl1 (fun _ _ _ => ?_) ?_) | with_reducible apply kept_takeFree | with_reducible apply kept_wr | fail_if_no_progress (with_reducible apply kept_mk) | (with_reducible refine kept_of_eq (by with_reducible assumption) ?_) | intro _ _ | split | dsimp only

theorem kept_ptpSync {s0 s : State} (t1 : Int) (t2 : Int) (h : Kept s0 s) : Kept s0 (ptpSync s t1 t2) := by
  unfold ptpSync
  try dsimp only
  repeat' first | with_reducible assumption | with_reducible apply kept_ite | with_reducible apply kept_ite1 | with_reducible apply kept_ite2 | (with_reducible refine kept_forAll (fun _ _ _ => ?_) ?_) | (with_reducible refine kept_foldl (fun _ _ _ => ?_) ?_) | (with_reducible refine kept_foldl1 (fun _ _ _ => ?_) ?_) | with_reducible apply kept_setOrigin | with_reducible apply kept_setPtp | with_reducible apply kept_wr | with_reducible apply kept_raiseBit | with_reducible apply kept_setPtpState | with_reducible apply kept_sendDelayReq | with_reducible apply kept_servoRate | fail_if_no_progress (with_reducible apply kept_mk) | (with_reducible refine kept_of_eq (by with_reducible assumption) ?_) | intro _ _ | split | dsimp only

theorem kept_ptpMessage {s0 s : State} (x : PtpMsg) (h : Kept s0 s) : Kept s0 (ptpMessage s x) := by
  unfold ptpMessage
  try dsimp only
  repeat' first | with_reducible assumption | with_reducible apply kept_ite | with_reducible apply kept_ite1 | with_reducible apply kept_ite2 | (with_reducible refine kept_forAll (fun _ _ _ => ?_) ?_) | (with_reducible refine kept_foldl (fun _ _ _ => ?_) ?_) | (with_reducible refine kept_foldl1 (fun _ _ _ => ?_) ?_) | with_reducible apply kept_ptpAnnounce | with_reducible apply kept_setPtp | with_reducible apply kept_ptpSync | with_reducible apply kept_wr | fail_if_no_progress (with_reducible apply kept_mk) | (with_reducible refine kept_of_eq (by with_reducible assumption) ?_) | intro _ _ | split | dsimp only

theorem kept_announceTimeout {s0 s : State}  (h : Kept s0 s) : Kept s0 (announceTimeout s) := by
  unfold announceTimeout
  try dsimp only
  repeat' first | with_reducible assumption | with_reducible apply kept_ite | with_reducible apply kept_ite1 | with_reducible apply kept_ite2 | (with_reducible refine kept_forAll (fun _ _ _ => ?_) ?_) | (with_reducible refine kept_foldl (fun _ _ _ => ?_) ?_) | (with_reducible refine kept_foldl1 (fun _ _ _ => ?_) ?_) | with_reducible apply kept_setPtpState | with_reducible apply kept_advanceTo | fail_if_no_progress (with_reducible apply kept_mk) | (with_reducible refine kept_of_eq (by with_reducible assumption) ?_) | intro _ _ | split | dsimp only

theorem kept_syncTimeout {s0 s : State}  (h : Kept s0 s) : Kept s0 (syncTimeout s) := by
  unfold syncTimeout
  try dsimp only
  repeat' first | with_reducible assumption | with_reducible apply kept_ite | with_reducible apply kept_ite1 | with_reducible apply kept_ite2 | (with_reducible refine kept_forAll (fun _ _ _ => ?_) ?_) | (with_reducible refine kept_foldl (fun _ _ _ => ?_) ?_) | (with_reducible refine kept_foldl1 (fun _ _ _ => ?_) ?_) | with_reducible apply kept_advanceTo | with_reducible apply kept_raiseBit | with_reducible apply kept_setPtpState | with_reducible apply kept_setPtp | fail_if_no_progress (with_reducible apply kept_mk) | (with_reducible refine kept_of_eq (by with_reducible assumption) ?_) | intro _ _ | split | dsimp only

theorem kept_captureTb {s0 s : State}  (h : Kept s0 s) : Kept s0 (captureTb s) := by
  unfold captureTb
  try dsimp only
  repeat' first | with_reducible assumption | with_reducible apply kept_ite | with_reducible apply kept_ite1 | with_reducible apply kept_ite2 | (with_reducible refine kept_forAll (fun _ _ _ => ?_) ?_) | (with_reducible refine kept_foldl (fun _ _ _ => ?_) ?_) | (with_reducible refine kept_foldl1 (fun _ _ _ => ?_) ?_) | with_reducible apply kept_wr | fail_if_no_progress (with_reducible apply kept_mk) | (with_reducible refine kept_of_eq (by with_reducible assumption) ?_) | intro _ _ | split | dsimp only

theorem kept_fireAlarm {s0 s : State} (cause : Nat) (h : Kept s0 s) : Kept s0 (fireAlarm s cause) := by
  unfold fireAlarm
  try dsimp only
  repeat' first | with_reducible assumption | with_reducible apply kept_ite | with_reducible apply kept_ite1 | with_reducible apply kept_ite2 | (with_reducible refine kept_forAll (fun _ _ _ => ?_) ?_) | (with_reducible refine kept_foldl (fun _ _ _ => ?_) ?_) | (with_reducible refine kept_foldl1 (fun _ _ _ => ?_) ?_) | with_reducible apply kept_raiseBit | with_reducible apply kept_setFld | with_reducible apply kept_evtSet | with_reducible apply kept_wakeEvent | fail_if_no_progress (with_reducible apply kept_mk) | (with_reducible refine kept_of_eq (by with_reducible assumption) ?_) | intro _ _ | split | dsimp only

theorem kept_alarmNow {s0 s : State}  (h : Kept s0 s) : Kept s0 (alarmNow s) := by
  unfold alarmNow
  try dsimp only
  repeat' first | with_reducible assumption | with_reducible apply kept_ite | with_reducible apply kept_ite1 | with_reducible apply kept_ite2 | (with_reducible refine kept_forAll (fun _ _ _ => ?_) ?_) | (with_reducible refine kept_foldl (fun _ _ _ => ?_) ?_) | (with_reducible refine kept_foldl1 (fun _ _ _ => ?_) ?_) | with_reducible apply kept_fireAlarm | fail_if_no_progress (with_reducible apply kept_mk) | (with_reducible refine kept_of_eq (by with_reducible assumption) ?_) | intro _ _ | split | dsimp only

theorem kept_alarmMoved {s0 s : State} (date0 : Word) (time0 : Word) (h : Kept s0 s) : Kept s0 (alarmMoved s date0 time0) := by
  unfold alarmMoved
  try dsimp only
  repeat' first | with_reducible assumption | with_reducible apply kept_ite | with_reducible apply kept_ite1 | with_reducible apply kept_ite2 | (with_reducible refine kept_forAll (fun _ _ _ => ?_) ?_) | (with_reducible refine kept_foldl (fun _ _ _ => ?_) ?_) | (with_reducible refine kept_foldl1 (fun _ _ _ => ?_) ?_) | with_reducible apply kept_raiseBit | with_reducible apply kept_setFld | with_reducible apply kept_fireAlarm | fail_if_no_progress (with_reducible apply kept_mk) | (with_reducible refine kept_of_eq (by with_reducible assumption) ?_) | intro _ _ | split | dsimp only

theorem kept_rtcRollover {s0 s : State}  (h : Kept s0 s) : Kept s0 (rtcRollover s) := by
  unfold rtcRollover
  try dsimp only
  repeat' first | with_reducible assumption | with_reducible apply kept_ite | with_reducible apply kept_ite1 | with_reducible apply kept_ite2 | (with_reducible refine kept_forAll (fun _ _ _ => ?_) ?_) | (with_reducible refine kept_foldl (fun _ _ _ => ?_) ?_) | (with_reducible refine kept_foldl1 (fun _ _ _ => ?_) ?_) | with_reducible apply kept_alarmNow | with_reducible apply kept_captureTb | with_reducible apply kept_wr | fail_if_no_progress (with_reducible apply kept_mk) | (with_reducible refine kept_of_eq (by with_reducible assumption) ?_) | intro _ _ | split | dsimp only

theorem kept_sampleSubsec {s0 s : State}  (h : Kept s0 s) : Kept s0 (sampleSubsec s) := by
  unfold sampleSubsec
  try dsimp only
  repeat' first | with_reducible assumption | with_reducible apply kept_ite | with_reducible apply kept_ite1 | with_reducible apply kept_ite2 | (with_reducible refine kept_forAll (fun _ _ _ => ?_) ?_) | (with_reducible refine kept_foldl (fun _ _ _ => ?_) ?_) | (with_reducible refine kept_foldl1 (fun _ _ _ => ?_) ?_) | with_reducible apply kept_takeFree | with_reducible apply kept_wr | fail_if_no_progress (with_reducible apply kept_mk) | (with_reducible refine kept_of_eq (by with_reducible assumption) ?_) | intro _ _ | split | dsimp only

theorem kept_rtcHold {s0 s : State}  (h : Kept s0 s) : Kept s0 (rtcHold s) := by
  unfold rtcHold
  try dsimp only
  repeat' first | with_reducible assumption | with_reducible apply kept_ite | with_reducible apply kept_ite1 | with_reducible apply kept_ite2 | (with_reducible refine kept_forAll (fun _ _ _ => ?_) ?_) | (with_reducible refine kept_foldl (fun _ _ _ => ?_) ?_) | (with_reducible refine kept_foldl1 (fun _ _ _ => ?_) ?_) | with_reducible apply kept_setFld | with_reducible apply kept_sampleSubsec | fail_if_no_progress (with_reducible apply kept_mk) | (with_reducible refine kept_of_eq (by with_reducible assumption) ?_) | intro _ _ | split | dsimp only

theorem kept_rtcRelease {s0 s : State}  (h : Kept s0 s) : Kept s0 (rtcRelease s) := by
  unfold rtcRelease
  try dsimp only
  repeat' first | with_reducible assumption | with_reducible apply kept_ite | with_reducible apply kept_ite1 | with_reducible apply kept_ite2 | (with_reducible refine kept_forAll (fun _ _ _ => ?_) ?_) | (with_reducible refine kept_foldl (fun _ _ _ => ?_) ?_) | (with_reducible refine kept_foldl1 (fun _ _ _ => ?_) ?_) | with_reducible apply kept_wr | with_reducible apply kept_setFld | with_reducible apply kept_captureTb | with_reducible apply kept_closeIntervals | with_reducible apply kept_alarmMoved | fail_if_no_progress (with_reducible apply kept_mk) | (with_reducible refine kept_of_eq (by with_reducible assumption) ?_) | intro _ _ | split | dsimp only

theorem kept_rtcCtrlWrite {s0 s : State} (v : Word) (h : Kept s0 s) : Kept s0 (rtcCtrlWrite s v).1 := by
  unfold rtcCtrlWrite
  try dsimp only
  repeat' first | with_reducible assumption | with_reducible apply kept_ite | with_reducible apply kept_ite1 | with_reducible apply kept_ite2 | (with_reducible refine kept_forAll (fun _ _ _ => ?_) ?_) | (with_reducible refine kept_foldl (fun _ _ _ => ?_) ?_) | (with_reducible refine kept_foldl1 (fun _ _ _ => ?_) ?_) | with_reducible apply kept_wr | with_reducible apply kept_rtcHold | with_reducible apply kept_rtcRelease | fail_if_no_progress (with_reducible apply kept_mk) | (with_reducible refine kept_of_eq (by with_reducible assumption) ?_) | intro _ _ | split | dsimp only

theorem kept_calendarWrite {s0 s : State} (date : Bool) (v : Word) (h : Kept s0 s) : Kept s0 (calendarWrite s date v).1 := by
  unfold calendarWrite
  try dsimp only
  repeat' first | with_reducible assumption | with_reducible apply kept_ite | with_reducible apply kept_ite1 | with_reducible apply kept_ite2 | (with_reducible refine kept_forAll (fun _ _ _ => ?_) ?_) | (with_reducible refine kept_foldl (fun _ _ _ => ?_) ?_) | (with_reducible refine kept_foldl1 (fun _ _ _ => ?_) ?_) | with_reducible apply kept_takeFree | with_reducible apply kept_wr | fail_if_no_progress (with_reducible apply kept_mk) | (with_reducible refine kept_of_eq (by with_reducible assumption) ?_) | intro _ _ | split | dsimp only

theorem kept_rtcTimeRead {s0 s : State} (q : Requester) (h : Kept s0 s) : Kept s0 (rtcTimeRead s q).1 := by
  unfold rtcTimeRead
  try dsimp only
  repeat' first | with_reducible assumption | with_reducible apply kept_ite | with_reducible apply kept_ite1 | with_reducible apply kept_ite2 | (with_reducible refine kept_forAll (fun _ _ _ => ?_) ?_) | (with_reducible refine kept_foldl (fun _ _ _ => ?_) ?_) | (with_reducible refine kept_foldl1 (fun _ _ _ => ?_) ?_) | with_reducible apply kept_sampleSubsec | with_reducible apply kept_keepWord | fail_if_no_progress (with_reducible apply kept_mk) | (with_reducible refine kept_of_eq (by with_reducible assumption) ?_) | intro _ _ | split | dsimp only

theorem kept_rtcCommand {s0 s : State} (v : Word) (h : Kept s0 s) : Kept s0 (rtcCommand s v).1 := by
  unfold rtcCommand
  try dsimp only
  repeat' first | with_reducible assumption | with_reducible apply kept_ite | with_reducible apply kept_ite1 | with_reducible apply kept_ite2 | (with_reducible refine kept_forAll (fun _ _ _ => ?_) ?_) | (with_reducible refine kept_foldl (fun _ _ _ => ?_) ?_) | (with_reducible refine kept_foldl1 (fun _ _ _ => ?_) ?_) | with_reducible apply kept_setFld | fail_if_no_progress (with_reducible apply kept_mk) | (with_reducible refine kept_of_eq (by with_reducible assumption) ?_) | intro _ _ | split | dsimp only

theorem kept_supplySwitch {s0 s : State} (vbkp : Bool) (h : Kept s0 s) : Kept s0 (supplySwitch s vbkp) := by
  unfold supplySwitch
  try dsimp only
  repeat' first | with_reducible assumption | with_reducible apply kept_ite | with_reducible apply kept_ite1 | with_reducible apply kept_ite2 | (with_reducible refine kept_forAll (fun _ _ _ => ?_) ?_) | (with_reducible refine kept_foldl (fun _ _ _ => ?_) ?_) | (with_reducible refine kept_foldl1 (fun _ _ _ => ?_) ?_) | with_reducible apply kept_raiseBit | with_reducible apply kept_setFld | fail_if_no_progress (with_reducible apply kept_mk) | (with_reducible refine kept_of_eq (by with_reducible assumption) ?_) | intro _ _ | split | dsimp only

theorem kept_backupReset {s0 s : State}  (h : Kept s0 s) : Kept s0 (backupReset s) := by
  unfold backupReset
  try dsimp only
  repeat' first | with_reducible assumption | with_reducible apply kept_ite | with_reducible apply kept_ite1 | with_reducible apply kept_ite2 | (with_reducible refine kept_forAll (fun _ _ _ => ?_) ?_) | (with_reducible refine kept_foldl (fun _ _ _ => ?_) ?_) | (with_reducible refine kept_foldl1 (fun _ _ _ => ?_) ?_) | fail_if_no_progress (with_reducible apply kept_mk) | (with_reducible refine kept_of_eq (by with_reducible assumption) ?_) | intro _ _ | split | dsimp only

theorem kept_setRoleIn {s0 s : State} (b : Bool) (h : Kept s0 s) : Kept s0 (setRoleIn s b) := by
  unfold setRoleIn
  try dsimp only
  repeat' first | with_reducible assumption | with_reducible apply kept_ite | with_reducible apply kept_ite1 | with_reducible apply kept_ite2 | (with_reducible refine kept_forAll (fun _ _ _ => ?_) ?_) | (with_reducible refine kept_foldl (fun _ _ _ => ?_) ?_) | (with_reducible refine kept_foldl1 (fun _ _ _ => ?_) ?_) | with_reducible apply kept_setFld | fail_if_no_progress (with_reducible apply kept_mk) | (with_reducible refine kept_of_eq (by with_reducible assumption) ?_) | intro _ _ | split | dsimp only

theorem kept_noteFlag {s0 s : State} (n : Nat) (h : Kept s0 s) : Kept s0 (noteFlag s n) := by
  unfold noteFlag
  try dsimp only
  repeat' first | with_reducible assumption | with_reducible apply kept_ite | with_reducible apply kept_ite1 | with_reducible apply kept_ite2 | (with_reducible refine kept_forAll (fun _ _ _ => ?_) ?_) | (with_reducible refine kept_foldl (fun _ _ _ => ?_) ?_) | (with_reducible refine kept_foldl1 (fun _ _ _ => ?_) ?_) | with_reducible apply kept_setTwin | fail_if_no_progress (with_reducible apply kept_mk) | (with_reducible refine kept_of_eq (by with_reducible assumption) ?_) | intro _ _ | split | dsimp only

theorem kept_heartbeatSend {s0 s : State}  (h : Kept s0 s) : Kept s0 (heartbeatSend s) := by
  unfold heartbeatSend
  try dsimp only
  repeat' first | with_reducible assumption | with_reducible apply kept_ite | with_reducible apply kept_ite1 | with_reducible apply kept_ite2 | (with_reducible refine kept_forAll (fun _ _ _ => ?_) ?_) | (with_reducible refine kept_foldl (fun _ _ _ => ?_) ?_) | (with_reducible refine kept_foldl1 (fun _ _ _ => ?_) ?_) | with_reducible apply kept_advanceTo | with_reducible apply kept_setTwin | fail_if_no_progress (with_reducible apply kept_mk) | (with_reducible refine kept_of_eq (by with_reducible assumption) ?_) | intro _ _ | split | dsimp only

theorem kept_roleKeeper {s0 s : State}  (h : Kept s0 s) : Kept s0 (roleKeeper s) := by
  unfold roleKeeper
  try dsimp only
  repeat' first | with_reducible assumption | with_reducible apply kept_ite | with_reducible apply kept_ite1 | with_reducible apply kept_ite2 | (with_reducible refine kept_forAll (fun _ _ _ => ?_) ?_) | (with_reducible refine kept_foldl (fun _ _ _ => ?_) ?_) | (with_reducible refine kept_foldl1 (fun _ _ _ => ?_) ?_) | with_reducible apply kept_advanceTo | with_reducible apply kept_setRole | with_reducible apply kept_setTwin | fail_if_no_progress (with_reducible apply kept_mk) | (with_reducible refine kept_of_eq (by with_reducible assumption) ?_) | intro _ _ | split | dsimp only

theorem kept_cancelHandover {s0 s : State}  (h : Kept s0 s) : Kept s0 (cancelHandover s) := by
  unfold cancelHandover
  try dsimp only
  repeat' first | with_reducible assumption | with_reducible apply kept_ite | with_reducible apply kept_ite1 | with_reducible apply kept_ite2 | (with_reducible refine kept_forAll (fun _ _ _ => ?_) ?_) | (with_reducible refine kept_foldl (fun _ _ _ => ?_) ?_) | (with_reducible refine kept_foldl1 (fun _ _ _ => ?_) ?_) | with_reducible apply kept_setFld | with_reducible apply kept_setTwin | fail_if_no_progress (with_reducible apply kept_mk) | (with_reducible refine kept_of_eq (by with_reducible assumption) ?_) | intro _ _ | split | dsimp only

theorem kept_heartbeatHandover {s0 s : State} (x : Heartbeat) (h : Kept s0 s) : Kept s0 (heartbeatHandover s x) := by
  unfold heartbeatHandover
  try dsimp only
  repeat' first | with_reducible assumption | with_reducible apply kept_ite | with_reducible apply kept_ite1 | with_reducible apply kept_ite2 | (with_reducible refine kept_forAll (fun _ _ _ => ?_) ?_) | (with_reducible refine kept_foldl (fun _ _ _ => ?_) ?_) | (with_reducible refine kept_foldl1 (fun _ _ _ => ?_) ?_) | with_reducible apply kept_setFld | with_reducible apply kept_setTwin | with_reducible apply kept_cancelHandover | fail_if_no_progress (with_reducible apply kept_mk) | (with_reducible refine kept_of_eq (by with_reducible assumption) ?_) | intro _ _ | split | dsimp only

theorem kept_roleMismatch {s0 s : State}  (h : Kept s0 s) : Kept s0 (roleMismatch s) := by
  unfold roleMismatch
  try dsimp only
  repeat' first | with_reducible assumption | with_reducible apply kept_ite | with_reducible apply kept_ite1 | with_reducible apply kept_ite2 | (with_reducible refine kept_forAll (fun _ _ _ => ?_) ?_) | (with_reducible refine kept_foldl (fun _ _ _ => ?_) ?_) | (with_reducible refine kept_foldl1 (fun _ _ _ => ?_) ?_) | with_reducible apply kept_raiseBit | with_reducible apply kept_noteFlag | with_reducible apply kept_setFld | fail_if_no_progress (with_reducible apply kept_mk) | (with_reducible refine kept_of_eq (by with_reducible assumption) ?_) | intro _ _ | split | dsimp only

theorem kept_takeHeartbeat {s0 s : State} (x : Heartbeat) (roleIn : Bool) (h : Kept s0 s) : Kept s0 (takeHeartbeat s x roleIn) := by
  unfold takeHeartbeat
  try dsimp only
  repeat' first | with_reducible assumption | with_reducible apply kept_ite | with_reducible apply kept_ite1 | with_reducible apply kept_ite2 | (with_reducible refine kept_forAll (fun _ _ _ => ?_) ?_) | (with_reducible refine kept_foldl (fun _ _ _ => ?_) ?_) | (with_reducible refine kept_foldl1 (fun _ _ _ => ?_) ?_) | with_reducible apply kept_raiseBit | with_reducible apply kept_setFld | with_reducible apply kept_setTwin | with_reducible apply kept_wr | with_reducible apply kept_roleMismatch | with_reducible apply kept_setRole | with_reducible apply kept_heartbeatHandover | fail_if_no_progress (with_reducible apply kept_mk) | (with_reducible refine kept_of_eq (by with_reducible assumption) ?_) | intro _ _ | split | dsimp only

theorem kept_heartbeatReceived {s0 s : State} (x : Heartbeat) (at_ : DWord) (roleIn : Bool) (h : Kept s0 s) : Kept s0 (heartbeatReceived s x at_ roleIn) := by
  unfold heartbeatReceived
  try dsimp only
  repeat' first | with_reducible assumption | with_reducible apply kept_ite | with_reducible apply kept_ite1 | with_reducible apply kept_ite2 | (with_reducible refine kept_forAll (fun _ _ _ => ?_) ?_) | (with_reducible refine kept_foldl (fun _ _ _ => ?_) ?_) | (with_reducible refine kept_foldl1 (fun _ _ _ => ?_) ?_) | with_reducible apply kept_setRoleIn | with_reducible apply kept_advanceTo | with_reducible apply kept_follow | with_reducible apply kept_takeHeartbeat | fail_if_no_progress (with_reducible apply kept_mk) | (with_reducible refine kept_of_eq (by with_reducible assumption) ?_) | intro _ _ | split | dsimp only

theorem kept_decide333 {s0 s : State}  (h : Kept s0 s) : Kept s0 (decide333 s) := by
  unfold decide333
  try dsimp only
  repeat' first | with_reducible assumption | with_reducible apply kept_ite | with_reducible apply kept_ite1 | with_reducible apply kept_ite2 | (with_reducible refine kept_forAll (fun _ _ _ => ?_) ?_) | (with_reducible refine kept_foldl (fun _ _ _ => ?_) ?_) | (with_reducible refine kept_foldl1 (fun _ _ _ => ?_) ?_) | with_reducible apply kept_raiseEpoch | with_reducible apply kept_setTwin | fail_if_no_progress (with_reducible apply kept_mk) | (with_reducible refine kept_of_eq (by with_reducible assumption) ?_) | intro _ _ | split | dsimp only

theorem kept_recordSlot {s0 s : State} (silent : Bool) (heard : Bool) (h : Kept s0 s) : Kept s0 (recordSlot s silent heard) := by
  unfold recordSlot
  try dsimp only
  repeat' first | with_reducible assumption | with_reducible apply kept_ite | with_reducible apply kept_ite1 | with_reducible apply kept_ite2 | (with_reducible refine kept_forAll (fun _ _ _ => ?_) ?_) | (with_reducible refine kept_foldl (fun _ _ _ => ?_) ?_) | (with_reducible refine kept_foldl1 (fun _ _ _ => ?_) ?_) | with_reducible apply kept_setTwin | with_reducible apply kept_setFld | fail_if_no_progress (with_reducible apply kept_mk) | (with_reducible refine kept_of_eq (by with_reducible assumption) ?_) | intro _ _ | split | dsimp only

theorem kept_slotLink {s0 s : State} (silent : Bool) (heard : Bool) (roleIn : Bool) (was : Bool) (h : Kept s0 s) : Kept s0 (slotLink s silent heard roleIn was) := by
  unfold slotLink
  try dsimp only
  repeat' first | with_reducible assumption | with_reducible apply kept_ite | with_reducible apply kept_ite1 | with_reducible apply kept_ite2 | (with_reducible refine kept_forAll (fun _ _ _ => ?_) ?_) | (with_reducible refine kept_foldl (fun _ _ _ => ?_) ?_) | (with_reducible refine kept_foldl1 (fun _ _ _ => ?_) ?_) | with_reducible apply kept_setFld | with_reducible apply kept_raiseBit | fail_if_no_progress (with_reducible apply kept_mk) | (with_reducible refine kept_of_eq (by with_reducible assumption) ?_) | intro _ _ | split | dsimp only

theorem kept_slotHandover {s0 s : State} (silent : Bool) (heard : Bool) (h : Kept s0 s) : Kept s0 (slotHandover s silent heard) := by
  unfold slotHandover
  try dsimp only
  repeat' first | with_reducible assumption | with_reducible apply kept_ite | with_reducible apply kept_ite1 | with_reducible apply kept_ite2 | (with_reducible refine kept_forAll (fun _ _ _ => ?_) ?_) | (with_reducible refine kept_foldl (fun _ _ _ => ?_) ?_) | (with_reducible refine kept_foldl1 (fun _ _ _ => ?_) ?_) | with_reducible apply kept_cancelHandover | fail_if_no_progress (with_reducible apply kept_mk) | (with_reducible refine kept_of_eq (by with_reducible assumption) ?_) | intro _ _ | split | dsimp only

theorem kept_slotCheck {s0 s : State} (roleIn : Bool) (h : Kept s0 s) : Kept s0 (slotCheck s roleIn) := by
  unfold slotCheck
  try dsimp only
  repeat' first | with_reducible assumption | with_reducible apply kept_ite | with_reducible apply kept_ite1 | with_reducible apply kept_ite2 | (with_reducible refine kept_forAll (fun _ _ _ => ?_) ?_) | (with_reducible refine kept_foldl (fun _ _ _ => ?_) ?_) | (with_reducible refine kept_foldl1 (fun _ _ _ => ?_) ?_) | with_reducible apply kept_setRoleIn | with_reducible apply kept_advanceTo | with_reducible apply kept_slotLink | with_reducible apply kept_recordSlot | with_reducible apply kept_setRole | with_reducible apply kept_slotHandover | with_reducible apply kept_decide333 | fail_if_no_progress (with_reducible apply kept_mk) | (with_reducible refine kept_of_eq (by with_reducible assumption) ?_) | intro _ _ | split | dsimp only

theorem kept_clearMirror {s0 s : State}  (h : Kept s0 s) : Kept s0 (clearMirror s) := by
  unfold clearMirror
  try dsimp only
  repeat' first | with_reducible assumption | with_reducible apply kept_ite | with_reducible apply kept_ite1 | with_reducible apply kept_ite2 | (with_reducible refine kept_forAll (fun _ _ _ => ?_) ?_) | (with_reducible refine kept_foldl (fun _ _ _ => ?_) ?_) | (with_reducible refine kept_foldl1 (fun _ _ _ => ?_) ?_) | with_reducible apply kept_setTwin | fail_if_no_progress (with_reducible apply kept_mk) | (with_reducible refine kept_of_eq (by with_reducible assumption) ?_) | intro _ _ | split | dsimp only

theorem kept_dropUnnamed {s0 s : State}  (h : Kept s0 s) : Kept s0 (dropUnnamed s) := by
  unfold dropUnnamed
  try dsimp only
  repeat' first | with_reducible assumption | with_reducible apply kept_ite | with_reducible apply kept_ite1 | with_reducible apply kept_ite2 | (with_reducible refine kept_forAll (fun _ _ _ => ?_) ?_) | (with_reducible refine kept_foldl (fun _ _ _ => ?_) ?_) | (with_reducible refine kept_foldl1 (fun _ _ _ => ?_) ?_) | with_reducible apply kept_setFld | with_reducible apply kept_setXchState | fail_if_no_progress (with_reducible apply kept_mk) | (with_reducible refine kept_of_eq (by with_reducible assumption) ?_) | intro _ _ | split | dsimp only

theorem kept_becomeActive {s0 s : State} (reason : Nat) (h : Kept s0 s) : Kept s0 (becomeActive s reason) := by
  unfold becomeActive
  try dsimp only
  repeat' first | with_reducible assumption | with_reducible apply kept_ite | with_reducible apply kept_ite1 | with_reducible apply kept_ite2 | (with_reducible refine kept_forAll (fun _ _ _ => ?_) ?_) | (with_reducible refine kept_foldl (fun _ _ _ => ?_) ?_) | (with_reducible refine kept_foldl1 (fun _ _ _ => ?_) ?_) | with_reducible apply kept_setRole | with_reducible apply kept_setSync | with_reducible apply kept_clearMirror | with_reducible apply kept_dropUnnamed | with_reducible apply kept_discardRequest | with_reducible apply kept_changeMode | with_reducible apply kept_cancelHandover | fail_if_no_progress (with_reducible apply kept_mk) | (with_reducible refine kept_of_eq (by with_reducible assumption) ?_) | intro _ _ | split | dsimp only

theorem kept_recordTakeover {s0 s : State} (reason : Nat) (silent : Nat) (h : Kept s0 s) : Kept s0 (recordTakeover s reason silent) := by
  unfold recordTakeover
  try dsimp only
  repeat' first | with_reducible assumption | with_reducible apply kept_ite | with_reducible apply kept_ite1 | with_reducible apply kept_ite2 | (with_reducible refine kept_forAll (fun _ _ _ => ?_) ?_) | (with_reducible refine kept_foldl (fun _ _ _ => ?_) ?_) | (with_reducible refine kept_foldl1 (fun _ _ _ => ?_) ?_) | with_reducible apply kept_wr | fail_if_no_progress (with_reducible apply kept_mk) | (with_reducible refine kept_of_eq (by with_reducible assumption) ?_) | intro _ _ | split | dsimp only

theorem kept_enterActiveRole {s0 s : State}  (h : Kept s0 s) : Kept s0 (enterActiveRole s) := by
  unfold enterActiveRole
  try dsimp only
  repeat' first | with_reducible assumption | with_reducible apply kept_ite | with_reducible apply kept_ite1 | with_reducible apply kept_ite2 | (with_reducible refine kept_forAll (fun _ _ _ => ?_) ?_) | (with_reducible refine kept_foldl (fun _ _ _ => ?_) ?_) | (with_reducible refine kept_foldl1 (fun _ _ _ => ?_) ?_) | with_reducible apply kept_advanceTo | with_reducible apply kept_becomeActive | with_reducible apply kept_recordTakeover | with_reducible apply kept_raiseBit | with_reducible apply kept_setFld | fail_if_no_progress (with_reducible apply kept_mk) | (with_reducible refine kept_of_eq (by with_reducible assumption) ?_) | intro _ _ | split | dsimp only

theorem kept_becomeStandby {s0 s : State} (reason : Nat) (sync : Nat) (h : Kept s0 s) : Kept s0 (becomeStandby s reason sync) := by
  unfold becomeStandby
  try dsimp only
  repeat' first | with_reducible assumption | with_reducible apply kept_ite | with_reducible apply kept_ite1 | with_reducible apply kept_ite2 | (with_reducible refine kept_forAll (fun _ _ _ => ?_) ?_) | (with_reducible refine kept_foldl (fun _ _ _ => ?_) ?_) | (with_reducible refine kept_foldl1 (fun _ _ _ => ?_) ?_) | with_reducible apply kept_setSync | with_reducible apply kept_setRole | with_reducible apply kept_clearMirror | with_reducible apply kept_cancelHandover | with_reducible apply kept_discardRequest | with_reducible apply kept_changeMode | with_reducible apply kept_setTwin | fail_if_no_progress (with_reducible apply kept_mk) | (with_reducible refine kept_of_eq (by with_reducible assumption) ?_) | intro _ _ | split | dsimp only

theorem kept_demotion {s0 s : State}  (h : Kept s0 s) : Kept s0 (demotion s) := by
  unfold demotion
  try dsimp only
  repeat' first | with_reducible assumption | with_reducible apply kept_ite | with_reducible apply kept_ite1 | with_reducible apply kept_ite2 | (with_reducible refine kept_forAll (fun _ _ _ => ?_) ?_) | (with_reducible refine kept_foldl (fun _ _ _ => ?_) ?_) | (with_reducible refine kept_foldl1 (fun _ _ _ => ?_) ?_) | with_reducible apply kept_becomeStandby | with_reducible apply kept_advanceTo | with_reducible apply kept_raiseBit | with_reducible apply kept_setFld | fail_if_no_progress (with_reducible apply kept_mk) | (with_reducible refine kept_of_eq (by with_reducible assumption) ?_) | intro _ _ | split | dsimp only

theorem kept_recordReturn {s0 s : State}  (h : Kept s0 s) : Kept s0 (recordReturn s) := by
  unfold recordReturn
  try dsimp only
  repeat' first | with_reducible assumption | with_reducible apply kept_ite | with_reducible apply kept_ite1 | with_reducible apply kept_ite2 | (with_reducible refine kept_forAll (fun _ _ _ => ?_) ?_) | (with_reducible refine kept_foldl (fun _ _ _ => ?_) ?_) | (with_reducible refine kept_foldl1 (fun _ _ _ => ?_) ?_) | with_reducible apply kept_setTwin | with_reducible apply kept_raiseBit | with_reducible apply kept_setFld | fail_if_no_progress (with_reducible apply kept_mk) | (with_reducible refine kept_of_eq (by with_reducible assumption) ?_) | intro _ _ | split | dsimp only

theorem kept_handoverSwitch {s0 s : State}  (h : Kept s0 s) : Kept s0 (handoverSwitch s) := by
  unfold handoverSwitch
  try dsimp only
  repeat' first | with_reducible assumption | with_reducible apply kept_ite | with_reducible apply kept_ite1 | with_reducible apply kept_ite2 | (with_reducible refine kept_forAll (fun _ _ _ => ?_) ?_) | (with_reducible refine kept_foldl (fun _ _ _ => ?_) ?_) | (with_reducible refine kept_foldl1 (fun _ _ _ => ?_) ?_) | with_reducible apply kept_advanceTo | with_reducible apply kept_becomeStandby | with_reducible apply kept_raiseEpoch | with_reducible apply kept_becomeActive | with_reducible apply kept_recordReturn | with_reducible apply kept_cancelHandover | fail_if_no_progress (with_reducible apply kept_mk) | (with_reducible refine kept_of_eq (by with_reducible assumption) ?_) | intro _ _ | split | dsimp only

theorem kept_settleBoundary {s0 s : State}  (h : Kept s0 s) : Kept s0 (settleBoundary s) := by
  unfold settleBoundary
  try dsimp only
  repeat' first | with_reducible assumption | with_reducible apply kept_ite | with_reducible apply kept_ite1 | with_reducible apply kept_ite2 | (with_reducible refine kept_forAll (fun _ _ _ => ?_) ?_) | (with_reducible refine kept_foldl (fun _ _ _ => ?_) ?_) | (with_reducible refine kept_foldl1 (fun _ _ _ => ?_) ?_) | with_reducible apply kept_settleMode | with_reducible apply kept_handoverSwitch | with_reducible apply kept_demotion | with_reducible apply kept_enterActiveRole | fail_if_no_progress (with_reducible apply kept_mk) | (with_reducible refine kept_of_eq (by with_reducible assumption) ?_) | intro _ _ | split | dsimp only

theorem kept_fullResync {s0 s : State}  (h : Kept s0 s) : Kept s0 (fullResync s) := by
  unfold fullResync
  try dsimp only
  repeat' first | with_reducible assumption | with_reducible apply kept_ite | with_reducible apply kept_ite1 | with_reducible apply kept_ite2 | (with_reducible refine kept_forAll (fun _ _ _ => ?_) ?_) | (with_reducible refine kept_foldl (fun _ _ _ => ?_) ?_) | (with_reducible refine kept_foldl1 (fun _ _ _ => ?_) ?_) | with_reducible apply kept_setSync | with_reducible apply kept_setTwin | fail_if_no_progress (with_reducible apply kept_mk) | (with_reducible refine kept_of_eq (by with_reducible assumption) ?_) | intro _ _ | split | dsimp only

theorem kept_twnCommand {s0 s : State} (op : Nat) (h : Kept s0 s) : Kept s0 (twnCommand s op).1 := by
  unfold twnCommand
  try dsimp only
  repeat' first | with_reducible assumption | with_reducible apply kept_ite | with_reducible apply kept_ite1 | with_reducible apply kept_ite2 | (with_reducible refine kept_forAll (fun _ _ _ => ?_) ?_) | (with_reducible refine kept_foldl (fun _ _ _ => ?_) ?_) | (with_reducible refine kept_foldl1 (fun _ _ _ => ?_) ?_) | with_reducible apply kept_setTwin | with_reducible apply kept_cancelHandover | with_reducible apply kept_setFld | with_reducible apply kept_fullResync | fail_if_no_progress (with_reducible apply kept_mk) | (with_reducible refine kept_of_eq (by with_reducible assumption) ?_) | intro _ _ | split | dsimp only

theorem kept_revertiveRequest {s0 s : State}  (h : Kept s0 s) : Kept s0 (revertiveRequest s) := by
  unfold revertiveRequest
  try dsimp only
  repeat' first | with_reducible assumption | with_reducible apply kept_ite | with_reducible apply kept_ite1 | with_reducible apply kept_ite2 | (with_reducible refine kept_forAll (fun _ _ _ => ?_) ?_) | (with_reducible refine kept_foldl (fun _ _ _ => ?_) ?_) | (with_reducible refine kept_foldl1 (fun _ _ _ => ?_) ?_) | with_reducible apply kept_advanceTo | with_reducible apply kept_setTwin | fail_if_no_progress (with_reducible apply kept_mk) | (with_reducible refine kept_of_eq (by with_reducible assumption) ?_) | intro _ _ | split | dsimp only

theorem kept_twinLinkUp {s0 s : State} (lanes : Nat) (h : Kept s0 s) : Kept s0 (twinLinkUp s lanes) := by
  unfold twinLinkUp
  try dsimp only
  repeat' first | with_reducible assumption | with_reducible apply kept_ite | with_reducible apply kept_ite1 | with_reducible apply kept_ite2 | (with_reducible refine kept_forAll (fun _ _ _ => ?_) ?_) | (with_reducible refine kept_foldl (fun _ _ _ => ?_) ?_) | (with_reducible refine kept_foldl1 (fun _ _ _ => ?_) ?_) | with_reducible apply kept_raiseBit | with_reducible apply kept_setFld | fail_if_no_progress (with_reducible apply kept_mk) | (with_reducible refine kept_of_eq (by with_reducible assumption) ?_) | intro _ _ | split | dsimp only

theorem kept_twinLinkDown {s0 s : State}  (h : Kept s0 s) : Kept s0 (twinLinkDown s) := by
  unfold twinLinkDown
  try dsimp only
  repeat' first | with_reducible assumption | with_reducible apply kept_ite | with_reducible apply kept_ite1 | with_reducible apply kept_ite2 | (with_reducible refine kept_forAll (fun _ _ _ => ?_) ?_) | (with_reducible refine kept_foldl (fun _ _ _ => ?_) ?_) | (with_reducible refine kept_foldl1 (fun _ _ _ => ?_) ?_) | with_reducible apply kept_setFld | with_reducible apply kept_cancelHandover | with_reducible apply kept_setTwin | with_reducible apply kept_fullResync | fail_if_no_progress (with_reducible apply kept_mk) | (with_reducible refine kept_of_eq (by with_reducible assumption) ?_) | intro _ _ | split | dsimp only

theorem kept_putRecord {s0 s : State} (key : Nat → Nat) (b : List Byte) (h : Kept s0 s) : Kept s0 (putRecord s key b) := by
  unfold putRecord
  try dsimp only
  repeat' first | with_reducible assumption | with_reducible apply kept_ite | with_reducible apply kept_ite1 | with_reducible apply kept_ite2 | (with_reducible refine kept_forAll (fun _ _ _ => ?_) ?_) | (with_reducible refine kept_foldl (fun _ _ _ => ?_) ?_) | (with_reducible refine kept_foldl1 (fun _ _ _ => ?_) ?_) | with_reducible apply kept_wr | fail_if_no_progress (with_reducible apply kept_mk) | (with_reducible refine kept_of_eq (by with_reducible assumption) ?_) | intro _ _ | split | dsimp only

theorem kept_forecastPublish {s0 s : State}  (h : Kept s0 s) : Kept s0 (forecastPublish s) := by
  unfold forecastPublish
  try dsimp only
  repeat' first | with_reducible assumption | with_reducible apply kept_ite | with_reducible apply kept_ite1 | with_reducible apply kept_ite2 | (with_reducible refine kept_forAll (fun _ _ _ => ?_) ?_) | (with_reducible refine kept_foldl (fun _ _ _ => ?_) ?_) | (with_reducible refine kept_foldl1 (fun _ _ _ => ?_) ?_) | with_reducible apply kept_advanceTo | with_reducible apply kept_setTwin | with_reducible apply kept_takeFree | with_reducible apply kept_putRecord | with_reducible apply kept_raiseBit | with_reducible apply kept_cancelHandover | fail_if_no_progress (with_reducible apply kept_mk) | (with_reducible refine kept_of_eq (by with_reducible assumption) ?_) | intro _ _ | split | dsimp only

theorem kept_forecastReceived {s0 s : State} (b : List Byte) (h : Kept s0 s) : Kept s0 (forecastReceived s b) := by
  unfold forecastReceived
  try dsimp only
  repeat' first | with_reducible assumption | with_reducible apply kept_ite | with_reducible apply kept_ite1 | with_reducible apply kept_ite2 | (with_reducible refine kept_forAll (fun _ _ _ => ?_) ?_) | (with_reducible refine kept_foldl (fun _ _ _ => ?_) ?_) | (with_reducible refine kept_foldl1 (fun _ _ _ => ?_) ?_) | with_reducible apply kept_putRecord | with_reducible apply kept_raiseBit | fail_if_no_progress (with_reducible apply kept_mk) | (with_reducible refine kept_of_eq (by with_reducible assumption) ?_) | intro _ _ | split | dsimp only

theorem kept_laneFail {s0 s : State} (lane : Nat) (h : Kept s0 s) : Kept s0 (laneFail s lane) := by
  unfold laneFail
  try dsimp only
  repeat' first | with_reducible assumption | with_reducible apply kept_ite | with_reducible apply kept_ite1 | with_reducible apply kept_ite2 | (with_reducible refine kept_forAll (fun _ _ _ => ?_) ?_) | (with_reducible refine kept_foldl (fun _ _ _ => ?_) ?_) | (with_reducible refine kept_foldl1 (fun _ _ _ => ?_) ?_) | with_reducible apply kept_raiseBit | with_reducible apply kept_noteFlag | with_reducible apply kept_setFld | fail_if_no_progress (with_reducible apply kept_mk) | (with_reducible refine kept_of_eq (by with_reducible assumption) ?_) | intro _ _ | split | dsimp only

theorem kept_sweepEnd {s0 s : State} (r : SweepResult) (h : Kept s0 s) : Kept s0 (sweepEnd s r) := by
  unfold sweepEnd
  try dsimp only
  repeat' first | with_reducible assumption | with_reducible apply kept_ite | with_reducible apply kept_ite1 | with_reducible apply kept_ite2 | (with_reducible refine kept_forAll (fun _ _ _ => ?_) ?_) | (with_reducible refine kept_foldl (fun _ _ _ => ?_) ?_) | (with_reducible refine kept_foldl1 (fun _ _ _ => ?_) ?_) | with_reducible apply kept_setTwin | with_reducible apply kept_noteFlag | with_reducible apply kept_bumpSat | with_reducible apply kept_laneFail | fail_if_no_progress (with_reducible apply kept_mk) | (with_reducible refine kept_of_eq (by with_reducible assumption) ?_) | intro _ _ | split | dsimp only

theorem kept_setCrypto {s0 s : State} (x : Crypto) (h : Kept s0 s) : Kept s0 (setCrypto s x) := by
  unfold setCrypto
  try dsimp only
  repeat' first | with_reducible assumption | with_reducible apply kept_ite | with_reducible apply kept_ite1 | with_reducible apply kept_ite2 | (with_reducible refine kept_forAll (fun _ _ _ => ?_) ?_) | (with_reducible refine kept_foldl (fun _ _ _ => ?_) ?_) | (with_reducible refine kept_foldl1 (fun _ _ _ => ?_) ?_) | fail_if_no_progress (with_reducible apply kept_mk) | (with_reducible refine kept_of_eq (by with_reducible assumption) ?_) | intro _ _ | split | dsimp only

theorem kept_drawBytes {s0 s : State} (n : Nat) (h : Kept s0 s) : Kept s0 (drawBytes s n).1 := by
  unfold drawBytes
  try dsimp only
  repeat' first | with_reducible assumption | with_reducible apply kept_ite | with_reducible apply kept_ite1 | with_reducible apply kept_ite2 | (with_reducible refine kept_forAll (fun _ _ _ => ?_) ?_) | (with_reducible refine kept_foldl (fun _ _ _ => ?_) ?_) | (with_reducible refine kept_foldl1 (fun _ _ _ => ?_) ?_) | fail_if_no_progress (with_reducible apply kept_mk) | (with_reducible refine kept_of_eq (by with_reducible assumption) ?_) | intro _ _ | split | dsimp only

theorem kept_saveSlot {s0 s : State} (n : Nat) (h : Kept s0 s) : Kept s0 (saveSlot s n) := by
  unfold saveSlot
  try dsimp only
  repeat' first | with_reducible assumption | with_reducible apply kept_ite | with_reducible apply kept_ite1 | with_reducible apply kept_ite2 | (with_reducible refine kept_forAll (fun _ _ _ => ?_) ?_) | (with_reducible refine kept_foldl (fun _ _ _ => ?_) ?_) | (with_reducible refine kept_foldl1 (fun _ _ _ => ?_) ?_) | with_reducible apply kept_setCrypto | fail_if_no_progress (with_reducible apply kept_mk) | (with_reducible refine kept_of_eq (by with_reducible assumption) ?_) | intro _ _ | split | dsimp only

theorem kept_refill {s0 s : State} (n : Nat) (x : KeySlot) (h : Kept s0 s) : Kept s0 (refill s n x) := by
  unfold refill
  try dsimp only
  repeat' first | with_reducible assumption | with_reducible apply kept_ite | with_reducible apply kept_ite1 | with_reducible apply kept_ite2 | (with_reducible refine kept_forAll (fun _ _ _ => ?_) ?_) | (with_reducible refine kept_foldl (fun _ _ _ => ?_) ?_) | (with_reducible refine kept_foldl1 (fun _ _ _ => ?_) ?_) | with_reducible apply kept_saveSlot | with_reducible apply kept_setSlot | fail_if_no_progress (with_reducible apply kept_mk) | (with_reducible refine kept_of_eq (by with_reducible assumption) ?_) | intro _ _ | split | dsimp only

theorem kept_emptySlot {s0 s : State} (k n : Nat) (h : Kept s0 s) : Kept s0 (emptySlot k s n) := by
  induction k generalizing s n with
  | zero => exact kept_refill _ _ h
  | succ k ih => exact kept_refill _ _ (kept_ite (kept_forAll (fun _ _ hx => ih _ hx) h) h)

theorem kept_flushSlot {s0 s : State} (n : Nat) (h : Kept s0 s) : Kept s0 (flushSlot s n) := kept_emptySlot 9 n h

theorem kept_createSlot {s0 s : State} (n : Nat) (x : KeySlot) (h : Kept s0 s) : Kept s0 (createSlot s n x) := by
  unfold createSlot
  try dsimp only
  repeat' first | with_reducible assumption | with_reducible apply kept_ite | with_reducible apply kept_ite1 | with_reducible apply kept_ite2 | (with_reducible refine kept_forAll (fun _ _ _ => ?_) ?_) | (with_reducible refine kept_foldl (fun _ _ _ => ?_) ?_) | (with_reducible refine kept_foldl1 (fun _ _ _ => ?_) ?_) | with_reducible apply kept_flushSlot | with_reducible apply kept_refill | fail_if_no_progress (with_reducible apply kept_mk) | (with_reducible refine kept_of_eq (by with_reducible assumption) ?_) | intro _ _ | split | dsimp only

theorem kept_flushWhere {s0 s : State} (p : State → Nat → Bool) (h : Kept s0 s) : Kept s0 (flushWhere s p) := by
  unfold flushWhere
  try dsimp only
  repeat' first | with_reducible assumption | with_reducible apply kept_ite | with_reducible apply kept_ite1 | with_reducible apply kept_ite2 | (with_reducible refine kept_forAll (fun _ _ _ => ?_) ?_) | (with_reducible refine kept_foldl (fun _ _ _ => ?_) ?_) | (with_reducible refine kept_foldl1 (fun _ _ _ => ?_) ?_) | with_reducible apply kept_flushSlot | fail_if_no_progress (with_reducible apply kept_mk) | (with_reducible refine kept_of_eq (by with_reducible assumption) ?_) | intro _ _ | split | dsimp only

theorem kept_cruEnd {s0 s : State} (c : Code) (h : Kept s0 s) : Kept s0 (cruEnd s c) := by
  unfold cruEnd
  try dsimp only
  repeat' first | with_reducible assumption | with_reducible apply kept_ite | with_reducible apply kept_ite1 | with_reducible apply kept_ite2 | (with_reducible refine kept_forAll (fun _ _ _ => ?_) ?_) | (with_reducible refine kept_foldl (fun _ _ _ => ?_) ?_) | (with_reducible refine kept_foldl1 (fun _ _ _ => ?_) ?_) | with_reducible apply kept_setCrypto | with_reducible apply kept_raiseBit | with_reducible apply kept_setFld | fail_if_no_progress (with_reducible apply kept_mk) | (with_reducible refine kept_of_eq (by with_reducible assumption) ?_) | intro _ _ | split | dsimp only

theorem kept_cryEnd {s0 s : State} (c : Code) (pass : Bool) (h : Kept s0 s) : Kept s0 (cryEnd s c pass) := by
  unfold cryEnd
  try dsimp only
  repeat' first | with_reducible assumption | with_reducible apply kept_ite | with_reducible apply kept_ite1 | with_reducible apply kept_ite2 | (with_reducible refine kept_forAll (fun _ _ _ => ?_) ?_) | (with_reducible refine kept_foldl (fun _ _ _ => ?_) ?_) | (with_reducible refine kept_foldl1 (fun _ _ _ => ?_) ?_) | with_reducible apply kept_wr | with_reducible apply kept_setCrypto | with_reducible apply kept_raise | fail_if_no_progress (with_reducible apply kept_mk) | (with_reducible refine kept_of_eq (by with_reducible assumption) ?_) | intro _ _ | split | dsimp only

theorem kept_blankJob {s0 s : State} (j : CryJob) (h : Kept s0 s) : Kept s0 (blankJob s j) := by
  unfold blankJob
  try dsimp only
  repeat' first | with_reducible assumption | with_reducible apply kept_ite | with_reducible apply kept_ite1 | with_reducible apply kept_ite2 | (with_reducible refine kept_forAll (fun _ _ _ => ?_) ?_) | (with_reducible refine kept_foldl (fun _ _ _ => ?_) ?_) | (with_reducible refine kept_foldl1 (fun _ _ _ => ?_) ?_) | with_reducible apply kept_fillBytes | fail_if_no_progress (with_reducible apply kept_mk) | (with_reducible refine kept_of_eq (by with_reducible assumption) ?_) | intro _ _ | split | dsimp only

theorem kept_stopCru {s0 s : State} (c : Code) (h : Kept s0 s) : Kept s0 (stopCru s c) := by
  unfold stopCru
  try dsimp only
  repeat' first | with_reducible assumption | with_reducible apply kept_ite | with_reducible apply kept_ite1 | with_reducible apply kept_ite2 | (with_reducible refine kept_forAll (fun _ _ _ => ?_) ?_) | (with_reducible refine kept_foldl (fun _ _ _ => ?_) ?_) | (with_reducible refine kept_foldl1 (fun _ _ _ => ?_) ?_) | with_reducible apply kept_cruEnd | with_reducible apply kept_fillBytes | fail_if_no_progress (with_reducible apply kept_mk) | (with_reducible refine kept_of_eq (by with_reducible assumption) ?_) | intro _ _ | split | dsimp only

theorem kept_stopCry {s0 s : State} (c : Code) (h : Kept s0 s) : Kept s0 (stopCry s c) := by
  unfold stopCry
  try dsimp only
  repeat' first | with_reducible assumption | with_reducible apply kept_ite | with_reducible apply kept_ite1 | with_reducible apply kept_ite2 | (with_reducible refine kept_forAll (fun _ _ _ => ?_) ?_) | (with_reducible refine kept_foldl (fun _ _ _ => ?_) ?_) | (with_reducible refine kept_foldl1 (fun _ _ _ => ?_) ?_) | with_reducible apply kept_cryEnd | with_reducible apply kept_blankJob | fail_if_no_progress (with_reducible apply kept_mk) | (with_reducible refine kept_of_eq (by with_reducible assumption) ?_) | intro _ _ | split | dsimp only

theorem kept_abortOps {s0 s : State}  (h : Kept s0 s) : Kept s0 (abortOps s) := by
  unfold abortOps
  try dsimp only
  repeat' first | with_reducible assumption | with_reducible apply kept_ite | with_reducible apply kept_ite1 | with_reducible apply kept_ite2 | (with_reducible refine kept_forAll (fun _ _ _ => ?_) ?_) | (with_reducible refine kept_foldl (fun _ _ _ => ?_) ?_) | (with_reducible refine kept_foldl1 (fun _ _ _ => ?_) ?_) | with_reducible apply kept_stopCry | with_reducible apply kept_stopCru | fail_if_no_progress (with_reducible apply kept_mk) | (with_reducible refine kept_of_eq (by with_reducible assumption) ?_) | intro _ _ | split | dsimp only

theorem kept_settleOps {s0 s : State}  (h : Kept s0 s) : Kept s0 (settleOps s) := by
  unfold settleOps
  try dsimp only
  repeat' first | with_reducible assumption | with_reducible apply kept_ite | with_reducible apply kept_ite1 | with_reducible apply kept_ite2 | (with_reducible refine kept_forAll (fun _ _ _ => ?_) ?_) | (with_reducible refine kept_foldl (fun _ _ _ => ?_) ?_) | (with_reducible refine kept_foldl1 (fun _ _ _ => ?_) ?_) | with_reducible apply kept_raiseBit | with_reducible apply kept_stopCru | with_reducible apply kept_stopCry | fail_if_no_progress (with_reducible apply kept_mk) | (with_reducible refine kept_of_eq (by with_reducible assumption) ?_) | intro _ _ | split | dsimp only

theorem kept_killRoot {s0 s : State} (h : Kept s0 s) : Kept s0 (killRoot s) := by
  unfold killRoot
  dsimp only
  refine kept_setFld _ _ _ (kept_setFld _ _ _ (kept_setCrypto _ (kept_flushWhere _ (kept_otp h ⟨fun _ => rfl, id, Nat.le_refl _, fun _ e => e⟩))))

theorem kept_cruNow {s0 s : State} (j : CruJob) (h : Kept s0 s) : Kept s0 (cruNow s j) := by
  unfold cruNow
  try dsimp only
  repeat' first | with_reducible assumption | with_reducible apply kept_ite | with_reducible apply kept_ite1 | with_reducible apply kept_ite2 | (with_reducible refine kept_forAll (fun _ _ _ => ?_) ?_) | (with_reducible refine kept_foldl (fun _ _ _ => ?_) ?_) | (with_reducible refine kept_foldl1 (fun _ _ _ => ?_) ?_) | with_reducible apply kept_flushSlot | with_reducible apply kept_flushWhere | with_reducible apply kept_killRoot | fail_if_no_progress (with_reducible apply kept_mk) | (with_reducible refine kept_of_eq (by with_reducible assumption) ?_) | intro _ _ | split | dsimp only

theorem kept_cruStart {s0 s : State} (v : Word) (h : Kept s0 s) : Kept s0 (cruStart s v).1 := by
  unfold cruStart
  try dsimp only
  repeat' first | with_reducible assumption | with_reducible apply kept_ite | with_reducible apply kept_ite1 | with_reducible apply kept_ite2 | (with_reducible refine kept_forAll (fun _ _ _ => ?_) ?_) | (with_reducible refine kept_foldl (fun _ _ _ => ?_) ?_) | (with_reducible refine kept_foldl1 (fun _ _ _ => ?_) ?_) | with_reducible apply kept_wr | with_reducible apply kept_settleOps | with_reducible apply kept_cruNow | with_reducible apply kept_setCrypto | with_reducible apply kept_setFld | fail_if_no_progress (with_reducible apply kept_mk) | (with_reducible refine kept_of_eq (by with_reducible assumption) ?_) | intro _ _ | split | dsimp only

theorem kept_newMaterial {s0 s : State} (j : CruJob) (h : Kept s0 s) : Kept s0 (newMaterial s j).1 := by
  unfold newMaterial
  try dsimp only
  repeat' first | with_reducible assumption | with_reducible apply kept_ite | with_reducible apply kept_ite1 | with_reducible apply kept_ite2 | (with_reducible refine kept_forAll (fun _ _ _ => ?_) ?_) | (with_reducible refine kept_foldl (fun _ _ _ => ?_) ?_) | (with_reducible refine kept_foldl1 (fun _ _ _ => ?_) ?_) | with_reducible apply kept_drawBytes | fail_if_no_progress (with_reducible apply kept_mk) | (with_reducible refine kept_of_eq (by with_reducible assumption) ?_) | intro _ _ | split | dsimp only

theorem kept_cruComplete {s0 s : State} (entropy : Bool) (h : Kept s0 s) : Kept s0 (cruComplete s entropy) := by
  unfold cruComplete
  try dsimp only
  repeat' first | with_reducible assumption | with_reducible apply kept_ite | with_reducible apply kept_ite1 | with_reducible apply kept_ite2 | (with_reducible refine kept_forAll (fun _ _ _ => ?_) ?_) | (with_reducible refine kept_foldl (fun _ _ _ => ?_) ?_) | (with_reducible refine kept_foldl1 (fun _ _ _ => ?_) ?_) | with_reducible apply kept_cruEnd | with_reducible apply kept_newMaterial | with_reducible apply kept_drawBytes | with_reducible apply kept_settleOps | with_reducible apply kept_createSlot | with_reducible apply kept_putBytes | fail_if_no_progress (with_reducible apply kept_mk) | (with_reducible refine kept_of_eq (by with_reducible assumption) ?_) | intro _ _ | split | dsimp only

theorem kept_remask {s0 s : State}  (h : Kept s0 s) : Kept s0 (remask s) := by
  unfold remask
  try dsimp only
  repeat' first | with_reducible assumption | with_reducible apply kept_ite | with_reducible apply kept_ite1 | with_reducible apply kept_ite2 | (with_reducible refine kept_forAll (fun _ _ _ => ?_) ?_) | (with_reducible refine kept_foldl (fun _ _ _ => ?_) ?_) | (with_reducible refine kept_foldl1 (fun _ _ _ => ?_) ?_) | with_reducible apply kept_drawBytes | with_reducible apply kept_setSlot | fail_if_no_progress (with_reducible apply kept_mk) | (with_reducible refine kept_of_eq (by with_reducible assumption) ?_) | intro _ _ | split | dsimp only

theorem kept_cryGo {s0 s : State} (v : Word) (h : Kept s0 s) : Kept s0 (cryGo s v).1 := by
  unfold cryGo
  try dsimp only
  repeat' first | with_reducible assumption | with_reducible apply kept_ite | with_reducible apply kept_ite1 | with_reducible apply kept_ite2 | (with_reducible refine kept_forAll (fun _ _ _ => ?_) ?_) | (with_reducible refine kept_foldl (fun _ _ _ => ?_) ?_) | (with_reducible refine kept_foldl1 (fun _ _ _ => ?_) ?_) | with_reducible apply kept_wr | with_reducible apply kept_setCrypto | fail_if_no_progress (with_reducible apply kept_mk) | (with_reducible refine kept_of_eq (by with_reducible assumption) ?_) | intro _ _ | split | dsimp only

theorem kept_putTag {s0 s : State} (b : List Byte) (h : Kept s0 s) : Kept s0 (putTag s b) := by
  unfold putTag
  try dsimp only
  repeat' first | with_reducible assumption | with_reducible apply kept_ite | with_reducible apply kept_ite1 | with_reducible apply kept_ite2 | (with_reducible refine kept_forAll (fun _ _ _ => ?_) ?_) | (with_reducible refine kept_foldl (fun _ _ _ => ?_) ?_) | (with_reducible refine kept_foldl1 (fun _ _ _ => ?_) ?_) | with_reducible apply kept_wr | fail_if_no_progress (with_reducible apply kept_mk) | (with_reducible refine kept_of_eq (by with_reducible assumption) ?_) | intro _ _ | split | dsimp only

theorem kept_cryVerdict {s0 s : State} (ok : Bool) (h : Kept s0 s) : Kept s0 (cryVerdict s ok) := by
  unfold cryVerdict
  try dsimp only
  repeat' first | with_reducible assumption | with_reducible apply kept_ite | with_reducible apply kept_ite1 | with_reducible apply kept_ite2 | (with_reducible refine kept_forAll (fun _ _ _ => ?_) ?_) | (with_reducible refine kept_foldl (fun _ _ _ => ?_) ?_) | (with_reducible refine kept_foldl1 (fun _ _ _ => ?_) ?_) | with_reducible apply kept_cryEnd | fail_if_no_progress (with_reducible apply kept_mk) | (with_reducible refine kept_of_eq (by with_reducible assumption) ?_) | intro _ _ | split | dsimp only

theorem kept_cryComplete {s0 s : State}  (h : Kept s0 s) : Kept s0 (cryComplete s) := by
  unfold cryComplete
  try dsimp only
  repeat' first | with_reducible assumption | with_reducible apply kept_ite | with_reducible apply kept_ite1 | with_reducible apply kept_ite2 | (with_reducible refine kept_forAll (fun _ _ _ => ?_) ?_) | (with_reducible refine kept_foldl (fun _ _ _ => ?_) ?_) | (with_reducible refine kept_foldl1 (fun _ _ _ => ?_) ?_) | with_reducible apply kept_cryEnd | with_reducible apply kept_putBytes | with_reducible apply kept_putTag | with_reducible apply kept_blankJob | with_reducible apply kept_cryVerdict | with_reducible apply kept_drawBytes | fail_if_no_progress (with_reducible apply kept_mk) | (with_reducible refine kept_of_eq (by with_reducible assumption) ?_) | intro _ _ | split | dsimp only

theorem kept_tamperLatch {s0 s : State} (n : Nat) (h : Kept s0 s) : Kept s0 (tamperLatch s n) := by
  unfold tamperLatch
  try dsimp only
  repeat' first | with_reducible assumption | with_reducible apply kept_ite | with_reducible apply kept_ite1 | with_reducible apply kept_ite2 | (with_reducible refine kept_forAll (fun _ _ _ => ?_) ?_) | (with_reducible refine kept_foldl (fun _ _ _ => ?_) ?_) | (with_reducible refine kept_foldl1 (fun _ _ _ => ?_) ?_) | with_reducible apply kept_wr | with_reducible apply kept_setFld | with_reducible apply kept_raiseBit | fail_if_no_progress (with_reducible apply kept_mk) | (with_reducible refine kept_of_eq (by with_reducible assumption) ?_) | intro _ _ | split | dsimp only

theorem kept_sealCrucible {s0 s : State}  (h : Kept s0 s) : Kept s0 (sealCrucible s) := by
  unfold sealCrucible
  try dsimp only
  repeat' first | with_reducible assumption | with_reducible apply kept_ite | with_reducible apply kept_ite1 | with_reducible apply kept_ite2 | (with_reducible refine kept_forAll (fun _ _ _ => ?_) ?_) | (with_reducible refine kept_foldl (fun _ _ _ => ?_) ?_) | (with_reducible refine kept_foldl1 (fun _ _ _ => ?_) ?_) | with_reducible apply kept_setFld | fail_if_no_progress (with_reducible apply kept_mk) | (with_reducible refine kept_of_eq (by with_reducible assumption) ?_) | intro _ _ | split | dsimp only

theorem kept_sealByTamper {s0 s : State}  (h : Kept s0 s) : Kept s0 (sealByTamper s) := by
  unfold sealByTamper
  try dsimp only
  repeat' first | with_reducible assumption | with_reducible apply kept_ite | with_reducible apply kept_ite1 | with_reducible apply kept_ite2 | (with_reducible refine kept_forAll (fun _ _ _ => ?_) ?_) | (with_reducible refine kept_foldl (fun _ _ _ => ?_) ?_) | (with_reducible refine kept_foldl1 (fun _ _ _ => ?_) ?_) | with_reducible apply kept_sealCrucible | fail_if_no_progress (with_reducible apply kept_mk) | (with_reducible refine kept_of_eq (by with_reducible assumption) ?_) | intro _ _ | split | dsimp only

theorem kept_tamperErase {s0 s : State}  (h : Kept s0 s) : Kept s0 (tamperErase s) := by
  unfold tamperErase
  try dsimp only
  repeat' first | with_reducible assumption | with_reducible apply kept_ite | with_reducible apply kept_ite1 | with_reducible apply kept_ite2 | (with_reducible refine kept_forAll (fun _ _ _ => ?_) ?_) | (with_reducible refine kept_foldl (fun _ _ _ => ?_) ?_) | (with_reducible refine kept_foldl1 (fun _ _ _ => ?_) ?_) | with_reducible apply kept_setCrypto | with_reducible apply kept_flushWhere | fail_if_no_progress (with_reducible apply kept_mk) | (with_reducible refine kept_of_eq (by with_reducible assumption) ?_) | intro _ _ | split | dsimp only

theorem kept_tamperRespond {s0 s : State} (c : Nat) (h : Kept s0 s) : Kept s0 (tamperRespond s c) := by
  unfold tamperRespond
  try dsimp only
  repeat' first | with_reducible assumption | with_reducible apply kept_ite | with_reducible apply kept_ite1 | with_reducible apply kept_ite2 | (with_reducible refine kept_forAll (fun _ _ _ => ?_) ?_) | (with_reducible refine kept_foldl (fun _ _ _ => ?_) ?_) | (with_reducible refine kept_foldl1 (fun _ _ _ => ?_) ?_) | with_reducible apply kept_abortOps | with_reducible apply kept_sealByTamper | with_reducible apply kept_settleOps | with_reducible apply kept_raiseBit | with_reducible apply kept_flushWhere | with_reducible apply kept_tamperErase | with_reducible apply kept_demand | fail_if_no_progress (with_reducible apply kept_mk) | (with_reducible refine kept_of_eq (by with_reducible assumption) ?_) | intro _ _ | split | dsimp only

theorem kept_tamperEvent {s0 s : State} (n : Nat) (h : Kept s0 s) : Kept s0 (tamperEvent s n) := by
  unfold tamperEvent
  try dsimp only
  repeat' first | with_reducible assumption | with_reducible apply kept_ite | with_reducible apply kept_ite1 | with_reducible apply kept_ite2 | (with_reducible refine kept_forAll (fun _ _ _ => ?_) ?_) | (with_reducible refine kept_foldl (fun _ _ _ => ?_) ?_) | (with_reducible refine kept_foldl1 (fun _ _ _ => ?_) ?_) | with_reducible apply kept_wr | with_reducible apply kept_tamperLatch | with_reducible apply kept_tamperRespond | with_reducible apply kept_evtSet | with_reducible apply kept_wakeEvent | fail_if_no_progress (with_reducible apply kept_mk) | (with_reducible refine kept_of_eq (by with_reducible assumption) ?_) | intro _ _ | split | dsimp only

theorem kept_clearTamper {s0 s : State}  (h : Kept s0 s) : Kept s0 (clearTamper s) := by
  unfold clearTamper
  try dsimp only
  repeat' first | with_reducible assumption | with_reducible apply kept_ite | with_reducible apply kept_ite1 | with_reducible apply kept_ite2 | (with_reducible refine kept_forAll (fun _ _ _ => ?_) ?_) | (with_reducible refine kept_foldl (fun _ _ _ => ?_) ?_) | (with_reducible refine kept_foldl1 (fun _ _ _ => ?_) ?_) | with_reducible apply kept_wr | fail_if_no_progress (with_reducible apply kept_mk) | (with_reducible refine kept_of_eq (by with_reducible assumption) ?_) | intro _ _ | split | dsimp only

theorem kept_drawNonce {s0 s : State}  (h : Kept s0 s) : Kept s0 (drawNonce s) := by
  unfold drawNonce
  try dsimp only
  repeat' first | with_reducible assumption | with_reducible apply kept_ite | with_reducible apply kept_ite1 | with_reducible apply kept_ite2 | (with_reducible refine kept_forAll (fun _ _ _ => ?_) ?_) | (with_reducible refine kept_foldl (fun _ _ _ => ?_) ?_) | (with_reducible refine kept_foldl1 (fun _ _ _ => ?_) ?_) | with_reducible apply kept_drawBytes | with_reducible apply kept_wr | with_reducible apply kept_setFld | with_reducible apply kept_setCrypto | fail_if_no_progress (with_reducible apply kept_mk) | (with_reducible refine kept_of_eq (by with_reducible assumption) ?_) | intro _ _ | split | dsimp only

theorem kept_debugActive {s0 s : State}  (h : Kept s0 s) : Kept s0 (debugActive s) := by
  unfold debugActive
  try dsimp only
  repeat' first | with_reducible assumption | with_reducible apply kept_ite | with_reducible apply kept_ite1 | with_reducible apply kept_ite2 | (with_reducible refine kept_forAll (fun _ _ _ => ?_) ?_) | (with_reducible refine kept_foldl (fun _ _ _ => ?_) ?_) | (with_reducible refine kept_foldl1 (fun _ _ _ => ?_) ?_) | with_reducible apply kept_setFld | with_reducible apply kept_abortOps | with_reducible apply kept_flushWhere | with_reducible apply kept_setSlot | fail_if_no_progress (with_reducible apply kept_mk) | (with_reducible refine kept_of_eq (by with_reducible assumption) ?_) | intro _ _ | split | dsimp only

theorem kept_debugOpen {s0 s : State}  (h : Kept s0 s) : Kept s0 (debugOpen s) := by
  unfold debugOpen
  try dsimp only
  repeat' first | with_reducible assumption | with_reducible apply kept_ite | with_reducible apply kept_ite1 | with_reducible apply kept_ite2 | (with_reducible refine kept_forAll (fun _ _ _ => ?_) ?_) | (with_reducible refine kept_foldl (fun _ _ _ => ?_) ?_) | (with_reducible refine kept_foldl1 (fun _ _ _ => ?_) ?_) | with_reducible apply kept_setFld | with_reducible apply kept_setCrypto | with_reducible apply kept_wr | with_reducible apply kept_raiseBit | with_reducible apply kept_debugActive | with_reducible apply kept_bumpFld | fail_if_no_progress (with_reducible apply kept_mk) | (with_reducible refine kept_of_eq (by with_reducible assumption) ?_) | intro _ _ | split | dsimp only

theorem kept_debugClose {s0 s : State}  (h : Kept s0 s) : Kept s0 (debugClose s) := by
  unfold debugClose
  try dsimp only
  repeat' first | with_reducible assumption | with_reducible apply kept_ite | with_reducible apply kept_ite1 | with_reducible apply kept_ite2 | (with_reducible refine kept_forAll (fun _ _ _ => ?_) ?_) | (with_reducible refine kept_foldl (fun _ _ _ => ?_) ?_) | (with_reducible refine kept_foldl1 (fun _ _ _ => ?_) ?_) | with_reducible apply kept_setFld | with_reducible apply kept_debugGo | fail_if_no_progress (with_reducible apply kept_mk) | (with_reducible refine kept_of_eq (by with_reducible assumption) ?_) | intro _ _ | split | dsimp only

theorem kept_resetDue {s0 s : State} (causes : Nat) (h : Kept s0 s) : Kept s0 (resetDue s causes) := by
  unfold resetDue
  try dsimp only
  repeat' first | with_reducible assumption | with_reducible apply kept_ite | with_reducible apply kept_ite1 | with_reducible apply kept_ite2 | (with_reducible refine kept_forAll (fun _ _ _ => ?_) ?_) | (with_reducible refine kept_foldl (fun _ _ _ => ?_) ?_) | (with_reducible refine kept_foldl1 (fun _ _ _ => ?_) ?_) | fail_if_no_progress (with_reducible apply kept_mk) | (with_reducible refine kept_of_eq (by with_reducible assumption) ?_) | intro _ _ | split | dsimp only

theorem kept_debugCommand {s0 s : State} (q : Requester) (v : Word) (h : Kept s0 s) : Kept s0 (debugCommand s q v).1 := by
  unfold debugCommand
  try dsimp only
  repeat' first | with_reducible assumption | with_reducible apply kept_ite | with_reducible apply kept_ite1 | with_reducible apply kept_ite2 | (with_reducible refine kept_forAll (fun _ _ _ => ?_) ?_) | (with_reducible refine kept_foldl (fun _ _ _ => ?_) ?_) | (with_reducible refine kept_foldl1 (fun _ _ _ => ?_) ?_) | with_reducible apply kept_setCrypto | with_reducible apply kept_debugOpen | with_reducible apply kept_debugClose | with_reducible apply kept_resetDue | fail_if_no_progress (with_reducible apply kept_mk) | (with_reducible refine kept_of_eq (by with_reducible assumption) ?_) | intro _ _ | split | dsimp only
  exact kept_otp h ⟨id, fun _ => rfl, Nat.le_refl _, fun _ e => e⟩

theorem kept_holdWrite {s0 s : State} (q : Requester) (v : Word) (h : Kept s0 s) : Kept s0 (holdWrite s q v).1 := by
  unfold holdWrite
  try dsimp only
  repeat' first | with_reducible assumption | with_reducible apply kept_ite | with_reducible apply kept_ite1 | with_reducible apply kept_ite2 | (with_reducible refine kept_forAll (fun _ _ _ => ?_) ?_) | (with_reducible refine kept_foldl (fun _ _ _ => ?_) ?_) | (with_reducible refine kept_foldl1 (fun _ _ _ => ?_) ?_) | with_reducible apply kept_setFld | fail_if_no_progress (with_reducible apply kept_mk) | (with_reducible refine kept_of_eq (by with_reducible assumption) ?_) | intro _ _ | split | dsimp only

theorem kept_goWrite {s0 s : State} (v : Word) (h : Kept s0 s) : Kept s0 (goWrite s v).1 := by
  unfold goWrite
  try dsimp only
  repeat' first | with_reducible assumption | with_reducible apply kept_ite | with_reducible apply kept_ite1 | with_reducible apply kept_ite2 | (with_reducible refine kept_forAll (fun _ _ _ => ?_) ?_) | (with_reducible refine kept_foldl (fun _ _ _ => ?_) ?_) | (with_reducible refine kept_foldl1 (fun _ _ _ => ?_) ?_) | with_reducible apply kept_debugGo | fail_if_no_progress (with_reducible apply kept_mk) | (with_reducible refine kept_of_eq (by with_reducible assumption) ?_) | intro _ _ | split | dsimp only

theorem kept_tornNor {s0 s : State} (off : Nat) (n : Nat) (h : Kept s0 s) : Kept s0 (tornNor s off n) := by
  unfold tornNor
  try dsimp only
  repeat' first | with_reducible assumption | with_reducible apply kept_ite | with_reducible apply kept_ite1 | with_reducible apply kept_ite2 | (with_reducible refine kept_forAll (fun _ _ _ => ?_) ?_) | (with_reducible refine kept_foldl (fun _ _ _ => ?_) ?_) | (with_reducible refine kept_foldl1 (fun _ _ _ => ?_) ?_) | with_reducible apply kept_putBytes | fail_if_no_progress (with_reducible apply kept_mk) | (with_reducible refine kept_of_eq (by with_reducible assumption) ?_) | intro _ _ | split | dsimp only

theorem kept_storeNor {s0 s : State} (off : Nat) (b : List Byte) (h : Kept s0 s) : Kept s0 (storeNor s off b) := by
  unfold storeNor
  try dsimp only
  repeat' first | with_reducible assumption | with_reducible apply kept_ite | with_reducible apply kept_ite1 | with_reducible apply kept_ite2 | (with_reducible refine kept_forAll (fun _ _ _ => ?_) ?_) | (with_reducible refine kept_foldl (fun _ _ _ => ?_) ?_) | (with_reducible refine kept_foldl1 (fun _ _ _ => ?_) ?_) | with_reducible apply kept_putBytes | fail_if_no_progress (with_reducible apply kept_mk) | (with_reducible refine kept_of_eq (by with_reducible assumption) ?_) | intro _ _ | split | dsimp only

theorem kept_jplace {s0 s : State}  (h : Kept s0 s) : Kept s0 (jplace s).1 := by
  unfold jplace
  try dsimp only
  repeat' first | with_reducible assumption | with_reducible apply kept_ite | with_reducible apply kept_ite1 | with_reducible apply kept_ite2 | (with_reducible refine kept_forAll (fun _ _ _ => ?_) ?_) | (with_reducible refine kept_foldl (fun _ _ _ => ?_) ?_) | (with_reducible refine kept_foldl1 (fun _ _ _ => ?_) ?_) | with_reducible apply kept_fillBytes | fail_if_no_progress (with_reducible apply kept_mk) | (with_reducible refine kept_of_eq (by with_reducible assumption) ?_) | intro _ _ | split | dsimp only

theorem kept_appendJrec {s0 s : State} (type : Nat) (digest : List Byte) (h : Kept s0 s) : Kept s0 (appendJrec s type digest) := by
  unfold appendJrec
  try dsimp only
  repeat' first | with_reducible assumption | with_reducible apply kept_ite | with_reducible apply kept_ite1 | with_reducible apply kept_ite2 | (with_reducible refine kept_forAll (fun _ _ _ => ?_) ?_) | (with_reducible refine kept_foldl (fun _ _ _ => ?_) ?_) | (with_reducible refine kept_foldl1 (fun _ _ _ => ?_) ?_) | with_reducible apply kept_jplace | with_reducible apply kept_putBytes | fail_if_no_progress (with_reducible apply kept_mk) | (with_reducible refine kept_of_eq (by with_reducible assumption) ?_) | intro _ _ | split | dsimp only

theorem kept_showJournal {s0 s : State}  (h : Kept s0 s) : Kept s0 (showJournal s) := by
  unfold showJournal
  try dsimp only
  repeat' first | with_reducible assumption | with_reducible apply kept_ite | with_reducible apply kept_ite1 | with_reducible apply kept_ite2 | (with_reducible refine kept_forAll (fun _ _ _ => ?_) ?_) | (with_reducible refine kept_foldl (fun _ _ _ => ?_) ?_) | (with_reducible refine kept_foldl1 (fun _ _ _ => ?_) ?_) | with_reducible apply kept_setFld | fail_if_no_progress (with_reducible apply kept_mk) | (with_reducible refine kept_of_eq (by with_reducible assumption) ?_) | intro _ _ | split | dsimp only

theorem kept_setBoot {s0 s : State} (b : Boot) (h : Kept s0 s) : Kept s0 (setBoot s b) := by
  unfold setBoot
  try dsimp only
  repeat' first | with_reducible assumption | with_reducible apply kept_ite | with_reducible apply kept_ite1 | with_reducible apply kept_ite2 | (with_reducible refine kept_forAll (fun _ _ _ => ?_) ?_) | (with_reducible refine kept_foldl (fun _ _ _ => ?_) ?_) | (with_reducible refine kept_foldl1 (fun _ _ _ => ?_) ?_) | fail_if_no_progress (with_reducible apply kept_mk) | (with_reducible refine kept_of_eq (by with_reducible assumption) ?_) | intro _ _ | split | dsimp only

theorem kept_storeStart {s0 s : State} (v : Word) (h : Kept s0 s) : Kept s0 (storeStart s v).1 := by
  unfold storeStart
  try dsimp only
  repeat' first | with_reducible assumption | with_reducible apply kept_ite | with_reducible apply kept_ite1 | with_reducible apply kept_ite2 | (with_reducible refine kept_forAll (fun _ _ _ => ?_) ?_) | (with_reducible refine kept_foldl (fun _ _ _ => ?_) ?_) | (with_reducible refine kept_foldl1 (fun _ _ _ => ?_) ?_) | with_reducible apply kept_wr | with_reducible apply kept_setBoot | fail_if_no_progress (with_reducible apply kept_mk) | (with_reducible refine kept_of_eq (by with_reducible assumption) ?_) | intro _ _ | split | dsimp only

theorem kept_storeComplete {s0 s : State}  (h : Kept s0 s) : Kept s0 (storeComplete s) := by
  unfold storeComplete
  try dsimp only
  repeat' first | with_reducible assumption | with_reducible apply kept_ite | with_reducible apply kept_ite1 | with_reducible apply kept_ite2 | (with_reducible refine kept_forAll (fun _ _ _ => ?_) ?_) | (with_reducible refine kept_foldl (fun _ _ _ => ?_) ?_) | (with_reducible refine kept_foldl1 (fun _ _ _ => ?_) ?_) | with_reducible apply kept_storeNor | with_reducible apply kept_raise | with_reducible apply kept_wr | with_reducible apply kept_setBoot | fail_if_no_progress (with_reducible apply kept_mk) | (with_reducible refine kept_of_eq (by with_reducible assumption) ?_) | intro _ _ | split | dsimp only

theorem kept_xspiStart {s0 s : State} (v : Word) (h : Kept s0 s) : Kept s0 (xspiStart s v).1 := by
  unfold xspiStart
  try dsimp only
  repeat' first | with_reducible assumption | with_reducible apply kept_ite | with_reducible apply kept_ite1 | with_reducible apply kept_ite2 | (with_reducible refine kept_forAll (fun _ _ _ => ?_) ?_) | (with_reducible refine kept_foldl (fun _ _ _ => ?_) ?_) | (with_reducible refine kept_foldl1 (fun _ _ _ => ?_) ?_) | with_reducible apply kept_wr | with_reducible apply kept_setBoot | fail_if_no_progress (with_reducible apply kept_mk) | (with_reducible refine kept_of_eq (by with_reducible assumption) ?_) | intro _ _ | split | dsimp only

theorem kept_xspiEffect {s0 s : State} (j : NorJob) (ok : Bool) (h : Kept s0 s) : Kept s0 (xspiEffect s j ok) := by
  unfold xspiEffect
  try dsimp only
  repeat' first | with_reducible assumption | with_reducible apply kept_ite | with_reducible apply kept_ite1 | with_reducible apply kept_ite2 | (with_reducible refine kept_forAll (fun _ _ _ => ?_) ?_) | (with_reducible refine kept_foldl (fun _ _ _ => ?_) ?_) | (with_reducible refine kept_foldl1 (fun _ _ _ => ?_) ?_) | with_reducible apply kept_tornNor | with_reducible apply kept_fillBytes | with_reducible apply kept_putBytes | fail_if_no_progress (with_reducible apply kept_mk) | (with_reducible refine kept_of_eq (by with_reducible assumption) ?_) | intro _ _ | split | dsimp only

theorem kept_xspiComplete {s0 s : State} (ok : Bool) (h : Kept s0 s) : Kept s0 (xspiComplete s ok) := by
  unfold xspiComplete
  try dsimp only
  repeat' first | with_reducible assumption | with_reducible apply kept_ite | with_reducible apply kept_ite1 | with_reducible apply kept_ite2 | (with_reducible refine kept_forAll (fun _ _ _ => ?_) ?_) | (with_reducible refine kept_foldl (fun _ _ _ => ?_) ?_) | (with_reducible refine kept_foldl1 (fun _ _ _ => ?_) ?_) | with_reducible apply kept_xspiEffect | with_reducible apply kept_setBoot | with_reducible apply kept_raise | with_reducible apply kept_wr | fail_if_no_progress (with_reducible apply kept_mk) | (with_reducible refine kept_of_eq (by with_reducible assumption) ?_) | intro _ _ | split | dsimp only

theorem kept_mr4Poll {s0 s : State} (mult : Nat) (h : Kept s0 s) : Kept s0 (mr4Poll s mult) := by
  unfold mr4Poll
  try dsimp only
  repeat' first | with_reducible assumption | with_reducible apply kept_ite | with_reducible apply kept_ite1 | with_reducible apply kept_ite2 | (with_reducible refine kept_forAll (fun _ _ _ => ?_) ?_) | (with_reducible refine kept_foldl (fun _ _ _ => ?_) ?_) | (with_reducible refine kept_foldl1 (fun _ _ _ => ?_) ?_) | with_reducible apply kept_raiseBit | with_reducible apply kept_setFld | fail_if_no_progress (with_reducible apply kept_mk) | (with_reducible refine kept_of_eq (by with_reducible assumption) ?_) | intro _ _ | split | dsimp only

theorem kept_pllLoss {s0 s : State} (n : Nat) (h : Kept s0 s) : Kept s0 (pllLoss s n) := by
  unfold pllLoss
  try dsimp only
  repeat' first | with_reducible assumption | with_reducible apply kept_ite | with_reducible apply kept_ite1 | with_reducible apply kept_ite2 | (with_reducible refine kept_forAll (fun _ _ _ => ?_) ?_) | (with_reducible refine kept_foldl (fun _ _ _ => ?_) ?_) | (with_reducible refine kept_foldl1 (fun _ _ _ => ?_) ?_) | with_reducible apply kept_raiseBit | with_reducible apply kept_bumpSat | with_reducible apply kept_setBit | fail_if_no_progress (with_reducible apply kept_mk) | (with_reducible refine kept_of_eq (by with_reducible assumption) ?_) | intro _ _ | split | dsimp only

theorem kept_pllRelock {s0 s : State} (n : Nat) (h : Kept s0 s) : Kept s0 (pllRelock s n) := by
  unfold pllRelock
  try dsimp only
  repeat' first | with_reducible assumption | with_reducible apply kept_ite | with_reducible apply kept_ite1 | with_reducible apply kept_ite2 | (with_reducible refine kept_forAll (fun _ _ _ => ?_) ?_) | (with_reducible refine kept_foldl (fun _ _ _ => ?_) ?_) | (with_reducible refine kept_foldl1 (fun _ _ _ => ?_) ?_) | with_reducible apply kept_setBit | fail_if_no_progress (with_reducible apply kept_mk) | (with_reducible refine kept_of_eq (by with_reducible assumption) ?_) | intro _ _ | split | dsimp only

theorem kept_runFirmware {s0 s : State} (f : Firmware) (h : Kept s0 s) : Kept s0 (runFirmware s f) := by
  unfold runFirmware
  try dsimp only
  repeat' first | with_reducible assumption | with_reducible apply kept_ite | with_reducible apply kept_ite1 | with_reducible apply kept_ite2 | (with_reducible refine kept_forAll (fun _ _ _ => ?_) ?_) | (with_reducible refine kept_foldl (fun _ _ _ => ?_) ?_) | (with_reducible refine kept_foldl1 (fun _ _ _ => ?_) ?_) | with_reducible apply kept_setFld | with_reducible apply kept_wr | with_reducible apply kept_setBoot | fail_if_no_progress (with_reducible apply kept_mk) | (with_reducible refine kept_of_eq (by with_reducible assumption) ?_) | intro _ _ | split | dsimp only

theorem kept_openImage {s0 s : State} (manifest : List Byte) (h : Kept s0 s) : Kept s0 (openImage s manifest) := by
  unfold openImage
  try dsimp only
  repeat' first | with_reducible assumption | with_reducible apply kept_ite | with_reducible apply kept_ite1 | with_reducible apply kept_ite2 | (with_reducible refine kept_forAll (fun _ _ _ => ?_) ?_) | (with_reducible refine kept_foldl (fun _ _ _ => ?_) ?_) | (with_reducible refine kept_foldl1 (fun _ _ _ => ?_) ?_) | with_reducible apply kept_showJournal | with_reducible apply kept_appendJrec | with_reducible apply kept_setBoot | fail_if_no_progress (with_reducible apply kept_mk) | (with_reducible refine kept_of_eq (by with_reducible assumption) ?_) | intro _ _ | split | dsimp only

theorem kept_closeImage {s0 s : State} (manifest : List Byte) (src : Nat) (total : Nat) (ok : Bool) (h : Kept s0 s) : Kept s0 (closeImage s manifest src total ok).1 := by
  unfold closeImage
  try dsimp only
  repeat' first | with_reducible assumption | with_reducible apply kept_ite | with_reducible apply kept_ite1 | with_reducible apply kept_ite2 | (with_reducible refine kept_forAll (fun _ _ _ => ?_) ?_) | (with_reducible refine kept_foldl (fun _ _ _ => ?_) ?_) | (with_reducible refine kept_foldl1 (fun _ _ _ => ?_) ?_) | with_reducible apply kept_tornNor | with_reducible apply kept_storeNor | with_reducible apply kept_showJournal | with_reducible apply kept_appendJrec | fail_if_no_progress (with_reducible apply kept_mk) | (with_reducible refine kept_of_eq (by with_reducible assumption) ?_) | intro _ _ | split | dsimp only

theorem kept_setUpd {s0 s : State} (x : Upd) (h : Kept s0 s) : Kept s0 (setUpd s x) := by
  unfold setUpd
  try dsimp only
  repeat' first | with_reducible assumption | with_reducible apply kept_ite | with_reducible apply kept_ite1 | with_reducible apply kept_ite2 | (with_reducible refine kept_forAll (fun _ _ _ => ?_) ?_) | (with_reducible refine kept_foldl (fun _ _ _ => ?_) ?_) | (with_reducible refine kept_foldl1 (fun _ _ _ => ?_) ?_) | fail_if_no_progress (with_reducible apply kept_mk) | (with_reducible refine kept_of_eq (by with_reducible assumption) ?_) | intro _ _ | split | dsimp only

theorem kept_enterUpd {s0 s : State} (st : Nat) (h : Kept s0 s) : Kept s0 (enterUpd s st) := by
  unfold enterUpd
  try dsimp only
  repeat' first | with_reducible assumption | with_reducible apply kept_ite | with_reducible apply kept_ite1 | with_reducible apply kept_ite2 | (with_reducible refine kept_forAll (fun _ _ _ => ?_) ?_) | (with_reducible refine kept_foldl (fun _ _ _ => ?_) ?_) | (with_reducible refine kept_foldl1 (fun _ _ _ => ?_) ?_) | with_reducible apply kept_wr | with_reducible apply kept_setFld | fail_if_no_progress (with_reducible apply kept_mk) | (with_reducible refine kept_of_eq (by with_reducible assumption) ?_) | intro _ _ | split | dsimp only

theorem kept_updEnd {s0 s : State} (st : Nat) (cause : Nat) (c : Code) (h : Kept s0 s) : Kept s0 (updEnd s st cause c) := by
  unfold updEnd
  try dsimp only
  repeat' first | with_reducible assumption | with_reducible apply kept_ite | with_reducible apply kept_ite1 | with_reducible apply kept_ite2 | (with_reducible refine kept_forAll (fun _ _ _ => ?_) ?_) | (with_reducible refine kept_foldl (fun _ _ _ => ?_) ?_) | (with_reducible refine kept_foldl1 (fun _ _ _ => ?_) ?_) | with_reducible apply kept_raiseBit | with_reducible apply kept_enterUpd | with_reducible apply kept_setFld | fail_if_no_progress (with_reducible apply kept_mk) | (with_reducible refine kept_of_eq (by with_reducible assumption) ?_) | intro _ _ | split | dsimp only

theorem kept_updActivate {s0 s : State}  (h : Kept s0 s) : Kept s0 (updActivate s).1 := by
  unfold updActivate
  try dsimp only
  repeat' first | with_reducible assumption | with_reducible apply kept_ite | with_reducible apply kept_ite1 | with_reducible apply kept_ite2 | (with_reducible refine kept_forAll (fun _ _ _ => ?_) ?_) | (with_reducible refine kept_foldl (fun _ _ _ => ?_) ?_) | (with_reducible refine kept_foldl1 (fun _ _ _ => ?_) ?_) | with_reducible apply kept_resetDue | with_reducible apply kept_enterUpd | with_reducible apply kept_setUpd | fail_if_no_progress (with_reducible apply kept_mk) | (with_reducible refine kept_of_eq (by with_reducible assumption) ?_) | intro _ _ | split | dsimp only

theorem kept_ownerRecord {s0 s : State} (h : Kept s0 s) : Kept s0 (ownerRecord s).1 := by
  unfold ownerRecord
  dsimp only
  repeat' split
  all_goals first | exact h | skip
  rename_i ho _ _
  exact kept_otp h ⟨id, id, Nat.le_refl _, fun _ e => absurd (by rw [e]; rfl) ho⟩

theorem kept_updOp {s0 s : State} (op : Nat) (h : Kept s0 s) : Kept s0 (updOp s op).1 := by
  unfold updOp
  try dsimp only
  repeat' first | with_reducible assumption | with_reducible apply kept_ite | with_reducible apply kept_ite1 | with_reducible apply kept_ite2 | (with_reducible refine kept_forAll (fun _ _ _ => ?_) ?_) | (with_reducible refine kept_foldl (fun _ _ _ => ?_) ?_) | (with_reducible refine kept_foldl1 (fun _ _ _ => ?_) ?_) | with_reducible apply kept_enterUpd | with_reducible apply kept_setUpd | with_reducible apply kept_wr | with_reducible apply kept_openImage | with_reducible apply kept_updActivate | with_reducible apply kept_ownerRecord | fail_if_no_progress (with_reducible apply kept_mk) | (with_reducible refine kept_of_eq (by with_reducible assumption) ?_) | intro _ _ | split | dsimp only
  exact kept_otp h ⟨id, id, Nat.le_max_left _ _, fun _ e => e⟩

theorem kept_updCommand {s0 s : State} (v : Word) (h : Kept s0 s) : Kept s0 (updCommand s v).1 := by
  unfold updCommand
  try dsimp only
  repeat' first | with_reducible assumption | with_reducible apply kept_ite | with_reducible apply kept_ite1 | with_reducible apply kept_ite2 | (with_reducible refine kept_forAll (fun _ _ _ => ?_) ?_) | (with_reducible refine kept_foldl (fun _ _ _ => ?_) ?_) | (with_reducible refine kept_foldl1 (fun _ _ _ => ?_) ?_) | with_reducible apply kept_updOp | with_reducible apply kept_setFld | fail_if_no_progress (with_reducible apply kept_mk) | (with_reducible refine kept_of_eq (by with_reducible assumption) ?_) | intro _ _ | split | dsimp only

theorem kept_checkComplete {s0 s : State}  (h : Kept s0 s) : Kept s0 (checkComplete s) := by
  unfold checkComplete
  try dsimp only
  repeat' first | with_reducible assumption | with_reducible apply kept_ite | with_reducible apply kept_ite1 | with_reducible apply kept_ite2 | (with_reducible refine kept_forAll (fun _ _ _ => ?_) ?_) | (with_reducible refine kept_foldl (fun _ _ _ => ?_) ?_) | (with_reducible refine kept_foldl1 (fun _ _ _ => ?_) ?_) | with_reducible apply kept_updEnd | with_reducible apply kept_setUpd | fail_if_no_progress (with_reducible apply kept_mk) | (with_reducible refine kept_of_eq (by with_reducible assumption) ?_) | intro _ _ | split | dsimp only

theorem kept_writeComplete {s0 s : State} (ok : Bool) (h : Kept s0 s) : Kept s0 (writeComplete s ok) := by
  unfold writeComplete
  try dsimp only
  repeat' first | with_reducible assumption | with_reducible apply kept_ite | with_reducible apply kept_ite1 | with_reducible apply kept_ite2 | (with_reducible refine kept_forAll (fun _ _ _ => ?_) ?_) | (with_reducible refine kept_foldl (fun _ _ _ => ?_) ?_) | (with_reducible refine kept_foldl1 (fun _ _ _ => ?_) ?_) | with_reducible apply kept_closeImage | with_reducible apply kept_wr | with_reducible apply kept_updEnd | fail_if_no_progress (with_reducible apply kept_mk) | (with_reducible refine kept_of_eq (by with_reducible assumption) ?_) | intro _ _ | split | dsimp only

theorem kept_activationHold {s0 s : State}  (h : Kept s0 s) : Kept s0 (activationHold s) := by
  unfold activationHold
  try dsimp only
  repeat' first | with_reducible assumption | with_reducible apply kept_ite | with_reducible apply kept_ite1 | with_reducible apply kept_ite2 | (with_reducible refine kept_forAll (fun _ _ _ => ?_) ?_) | (with_reducible refine kept_foldl (fun _ _ _ => ?_) ?_) | (with_reducible refine kept_foldl1 (fun _ _ _ => ?_) ?_) | with_reducible apply kept_saveRecord | with_reducible apply kept_meterSnapshot | with_reducible apply kept_advanceTo | fail_if_no_progress (with_reducible apply kept_mk) | (with_reducible refine kept_of_eq (by with_reducible assumption) ?_) | intro _ _ | split | dsimp only

theorem kept_activationPauseStart {s0 s : State}  (h : Kept s0 s) : Kept s0 (activationPauseStart s) := by
  unfold activationPauseStart
  try dsimp only
  repeat' first | with_reducible assumption | with_reducible apply kept_ite | with_reducible apply kept_ite1 | with_reducible apply kept_ite2 | (with_reducible refine kept_forAll (fun _ _ _ => ?_) ?_) | (with_reducible refine kept_foldl (fun _ _ _ => ?_) ?_) | (with_reducible refine kept_foldl1 (fun _ _ _ => ?_) ?_) | with_reducible apply kept_advanceTo | with_reducible apply kept_cryComplete | with_reducible apply kept_cruComplete | with_reducible apply kept_breakLocks | with_reducible apply kept_refreshMeters | with_reducible apply kept_refreshLoops | with_reducible apply kept_setPtpState | fail_if_no_progress (with_reducible apply kept_mk) | (with_reducible refine kept_of_eq (by with_reducible assumption) ?_) | intro _ _ | split | dsimp only

theorem kept_resumeAll {s0 s : State}  (h : Kept s0 s) : Kept s0 (resumeAll s) := by
  unfold resumeAll
  try dsimp only
  repeat' first | with_reducible assumption | with_reducible apply kept_ite | with_reducible apply kept_ite1 | with_reducible apply kept_ite2 | (with_reducible refine kept_forAll (fun _ _ _ => ?_) ?_) | (with_reducible refine kept_foldl (fun _ _ _ => ?_) ?_) | (with_reducible refine kept_foldl1 (fun _ _ _ => ?_) ?_) | with_reducible apply kept_resumeRings | with_reducible apply kept_refreshMeters | with_reducible apply kept_refreshLoops | with_reducible apply kept_setPtpState | fail_if_no_progress (with_reducible apply kept_mk) | (with_reducible refine kept_of_eq (by with_reducible assumption) ?_) | intro _ _ | split | dsimp only

theorem kept_activationPauseEnd {s0 s : State} (ok : Bool) (counts : Nat) (h : Kept s0 s) : Kept s0 (activationPauseEnd s ok counts) := by
  unfold activationPauseEnd
  try dsimp only
  repeat' first | with_reducible assumption | with_reducible apply kept_ite | with_reducible apply kept_ite1 | with_reducible apply kept_ite2 | (with_reducible refine kept_forAll (fun _ _ _ => ?_) ?_) | (with_reducible refine kept_foldl (fun _ _ _ => ?_) ?_) | (with_reducible refine kept_foldl1 (fun _ _ _ => ?_) ?_) | with_reducible apply kept_resetDue | with_reducible apply kept_advanceTo | with_reducible apply kept_enterUpd | with_reducible apply kept_resumeAll | with_reducible apply kept_runFirmware | with_reducible apply kept_raiseBit | with_reducible apply kept_bumpFld | with_reducible apply kept_setFld | fail_if_no_progress (with_reducible apply kept_mk) | (with_reducible refine kept_of_eq (by with_reducible assumption) ?_) | intro _ _ | split | dsimp only

theorem kept_updPowerFail {s0 s : State}  (h : Kept s0 s) : Kept s0 (updPowerFail s) := by
  unfold updPowerFail
  try dsimp only
  repeat' first | with_reducible assumption | with_reducible apply kept_ite | with_reducible apply kept_ite1 | with_reducible apply kept_ite2 | (with_reducible refine kept_forAll (fun _ _ _ => ?_) ?_) | (with_reducible refine kept_foldl (fun _ _ _ => ?_) ?_) | (with_reducible refine kept_foldl1 (fun _ _ _ => ?_) ?_) | with_reducible apply kept_setUpd | with_reducible apply kept_tornNor | with_reducible apply kept_enterUpd | with_reducible apply kept_resumeAll | fail_if_no_progress (with_reducible apply kept_mk) | (with_reducible refine kept_of_eq (by with_reducible assumption) ?_) | intro _ _ | split | dsimp only

theorem kept_setRecov {s0 s : State} (x : Recov) (h : Kept s0 s) : Kept s0 (setRecov s x) := by
  unfold setRecov
  try dsimp only
  repeat' first | with_reducible assumption | with_reducible apply kept_ite | with_reducible apply kept_ite1 | with_reducible apply kept_ite2 | (with_reducible refine kept_forAll (fun _ _ _ => ?_) ?_) | (with_reducible refine kept_foldl (fun _ _ _ => ?_) ?_) | (with_reducible refine kept_foldl1 (fun _ _ _ => ?_) ?_) | fail_if_no_progress (with_reducible apply kept_mk) | (with_reducible refine kept_of_eq (by with_reducible assumption) ?_) | intro _ _ | split | dsimp only

theorem kept_recovReply {s0 s : State} (c : Code) (data : List Byte) (h : Kept s0 s) : Kept s0 (recovReply s c data) := by
  unfold recovReply
  try dsimp only
  repeat' first | with_reducible assumption | with_reducible apply kept_ite | with_reducible apply kept_ite1 | with_reducible apply kept_ite2 | (with_reducible refine kept_forAll (fun _ _ _ => ?_) ?_) | (with_reducible refine kept_foldl (fun _ _ _ => ?_) ?_) | (with_reducible refine kept_foldl1 (fun _ _ _ => ?_) ?_) | with_reducible apply kept_answer | fail_if_no_progress (with_reducible apply kept_mk) | (with_reducible refine kept_of_eq (by with_reducible assumption) ?_) | intro _ _ | split | dsimp only

theorem kept_recovAgain {s0 s : State}  (h : Kept s0 s) : Kept s0 (recovAgain s) := by
  unfold recovAgain
  try dsimp only
  repeat' first | with_reducible assumption | with_reducible apply kept_ite | with_reducible apply kept_ite1 | with_reducible apply kept_ite2 | (with_reducible refine kept_forAll (fun _ _ _ => ?_) ?_) | (with_reducible refine kept_foldl (fun _ _ _ => ?_) ?_) | (with_reducible refine kept_foldl1 (fun _ _ _ => ?_) ?_) | with_reducible apply kept_answer | fail_if_no_progress (with_reducible apply kept_mk) | (with_reducible refine kept_of_eq (by with_reducible assumption) ?_) | intro _ _ | split | dsimp only

theorem kept_recovRequest {s0 s : State} (m : Nat) (mac : List Byte) (seq : Nat) (k : State → State) (hk : ∀ x, Kept s0 x → Kept s0 (k x)) (h : Kept s0 s) : Kept s0 (recovRequest s m mac seq k) := by
  unfold recovRequest
  try dsimp only
  repeat' first | with_reducible assumption | with_reducible apply kept_ite | with_reducible apply kept_ite1 | with_reducible apply kept_ite2 | (with_reducible refine kept_forAll (fun _ _ _ => ?_) ?_) | (with_reducible refine kept_foldl (fun _ _ _ => ?_) ?_) | (with_reducible refine kept_foldl1 (fun _ _ _ => ?_) ?_) | with_reducible apply kept_setRecov | with_reducible apply kept_answer | with_reducible apply kept_recovAgain | with_reducible apply hk | fail_if_no_progress (with_reducible apply kept_mk) | (with_reducible refine kept_of_eq (by with_reducible assumption) ?_) | intro _ _ | split | dsimp only

theorem kept_recovChallenge {s0 s : State}  (h : Kept s0 s) : Kept s0 (recovChallenge s) := by
  unfold recovChallenge
  try dsimp only
  repeat' first | with_reducible assumption | with_reducible apply kept_ite | with_reducible apply kept_ite1 | with_reducible apply kept_ite2 | (with_reducible refine kept_forAll (fun _ _ _ => ?_) ?_) | (with_reducible refine kept_foldl (fun _ _ _ => ?_) ?_) | (with_reducible refine kept_foldl1 (fun _ _ _ => ?_) ?_) | with_reducible apply kept_recovReply | with_reducible apply kept_setRecov | fail_if_no_progress (with_reducible apply kept_mk) | (with_reducible refine kept_of_eq (by with_reducible assumption) ?_) | intro _ _ | split | dsimp only

theorem kept_recovLoad {s0 s : State} (off : Nat) (data : List Byte) (h : Kept s0 s) : Kept s0 (recovLoad s off data) := by
  unfold recovLoad
  try dsimp only
  repeat' first | with_reducible assumption | with_reducible apply kept_ite | with_reducible apply kept_ite1 | with_reducible apply kept_ite2 | (with_reducible refine kept_forAll (fun _ _ _ => ?_) ?_) | (with_reducible refine kept_foldl (fun _ _ _ => ?_) ?_) | (with_reducible refine kept_foldl1 (fun _ _ _ => ?_) ?_) | with_reducible apply kept_recovReply | with_reducible apply kept_putBytes | fail_if_no_progress (with_reducible apply kept_mk) | (with_reducible refine kept_of_eq (by with_reducible assumption) ?_) | intro _ _ | split | dsimp only

theorem kept_recovCommit {s0 s : State} (total : Nat) (h : Kept s0 s) : Kept s0 (recovCommit s total) := by
  unfold recovCommit
  try dsimp only
  repeat' first | with_reducible assumption | with_reducible apply kept_ite | with_reducible apply kept_ite1 | with_reducible apply kept_ite2 | (with_reducible refine kept_forAll (fun _ _ _ => ?_) ?_) | (with_reducible refine kept_foldl (fun _ _ _ => ?_) ?_) | (with_reducible refine kept_foldl1 (fun _ _ _ => ?_) ?_) | with_reducible apply kept_recovReply | with_reducible apply kept_setRecov | with_reducible apply kept_openImage | fail_if_no_progress (with_reducible apply kept_mk) | (with_reducible refine kept_of_eq (by with_reducible assumption) ?_) | intro _ _ | split | dsimp only

theorem kept_recovWritten {s0 s : State} (ok : Bool) (h : Kept s0 s) : Kept s0 (recovWritten s ok) := by
  unfold recovWritten
  try dsimp only
  repeat' first | with_reducible assumption | with_reducible apply kept_ite | with_reducible apply kept_ite1 | with_reducible apply kept_ite2 | (with_reducible refine kept_forAll (fun _ _ _ => ?_) ?_) | (with_reducible refine kept_foldl (fun _ _ _ => ?_) ?_) | (with_reducible refine kept_foldl1 (fun _ _ _ => ?_) ?_) | with_reducible apply kept_closeImage | with_reducible apply kept_setRecov | fail_if_no_progress (with_reducible apply kept_mk) | (with_reducible refine kept_of_eq (by with_reducible assumption) ?_) | intro _ _ | split | dsimp only

theorem kept_recovClear {s0 s : State} (data : List Byte) (h : Kept s0 s) : Kept s0 (recovClear s data) := by
  unfold recovClear
  try dsimp only
  repeat' first | with_reducible assumption | with_reducible apply kept_ite | with_reducible apply kept_ite1 | with_reducible apply kept_ite2 | (with_reducible refine kept_forAll (fun _ _ _ => ?_) ?_) | (with_reducible refine kept_foldl (fun _ _ _ => ?_) ?_) | (with_reducible refine kept_foldl1 (fun _ _ _ => ?_) ?_) | with_reducible apply kept_recovReply | with_reducible apply kept_clearTamper | with_reducible apply kept_setRecov | fail_if_no_progress (with_reducible apply kept_mk) | (with_reducible refine kept_of_eq (by with_reducible assumption) ?_) | intro _ _ | split | dsimp only

theorem kept_recovReset {s0 s : State}  (h : Kept s0 s) : Kept s0 (recovReset s) := by
  unfold recovReset
  try dsimp only
  repeat' first | with_reducible assumption | with_reducible apply kept_ite | with_reducible apply kept_ite1 | with_reducible apply kept_ite2 | (with_reducible refine kept_forAll (fun _ _ _ => ?_) ?_) | (with_reducible refine kept_foldl (fun _ _ _ => ?_) ?_) | (with_reducible refine kept_foldl1 (fun _ _ _ => ?_) ?_) | with_reducible apply kept_recovReply | with_reducible apply kept_resetDue | fail_if_no_progress (with_reducible apply kept_mk) | (with_reducible refine kept_of_eq (by with_reducible assumption) ?_) | intro _ _ | split | dsimp only

theorem kept_recovTimeout {s0 s : State}  (h : Kept s0 s) : Kept s0 (recovTimeout s) := by
  unfold recovTimeout
  try dsimp only
  repeat' first | with_reducible assumption | with_reducible apply kept_ite | with_reducible apply kept_ite1 | with_reducible apply kept_ite2 | (with_reducible refine kept_forAll (fun _ _ _ => ?_) ?_) | (with_reducible refine kept_foldl (fun _ _ _ => ?_) ?_) | (with_reducible refine kept_foldl1 (fun _ _ _ => ?_) ?_) | with_reducible apply kept_setRecov | with_reducible apply kept_advanceTo | fail_if_no_progress (with_reducible apply kept_mk) | (with_reducible refine kept_of_eq (by with_reducible assumption) ?_) | intro _ _ | split | dsimp only

end Sys2Proof.Machine
end

