-- ==== Sys2Proof/Laws/KeptF.lean ====
section
/-! SUPPORT. What register access, switching, boot, NRAP and mirroring keep. -/
namespace Sys2Proof.Machine
open Sys2Proof.Safety
set_option linter.unusedTactic false
set_option linter.unreachableTactic false

theorem kept_ite_s {s0 : State} {a b : NrapRes} {c : Prop} [Decidable c] (ha : Kept s0 a.s) (hb : Kept s0 b.s) : Kept s0 (if c then a else b).s := by
  split <;> assumption

theorem kept_captureWide {s0 s : State} (q : Requester) (page base : Nat) (d : RegDesc) (i n : Nat) (h : Kept s0 s) : Kept s0 (captureWide s q page base d i n) := by
  induction n generalizing s i with
  | zero => exact h
  | succ n ih => exact ih _ (kept_keepWord _ _ _ h)

theorem kept_wideRead {s0 s : State} (q : Requester) (page : Nat) (off : Nat) (base : Nat) (n : Nat) (d : RegDesc) (h : Kept s0 s) : Kept s0 (wideRead s q page off base n d).1 := by
  unfold wideRead
  try dsimp only
  repeat' first | with_reducible assumption | with_reducible apply kept_ite | with_reducible apply kept_ite1 | with_reducible apply kept_ite2 | (with_reducible refine kept_forAll (fun _ _ _ => ?_) ?_) | (with_reducible refine kept_foldl (fun _ _ _ => ?_) ?_) | (with_reducible refine kept_foldl1 (fun _ _ _ => ?_) ?_) | with_reducible apply kept_captureWide | fail_if_no_progress (with_reducible apply kept_mk) | (with_reducible refine kept_of_eq (by with_reducible assumption) ?_) | intro _ _ | split | dsimp only

theorem kept_wakeFor {s0 s : State} (page : Nat) (off : Nat) (h : Kept s0 s) : Kept s0 (wakeFor s page off) := by
  unfold wakeFor
  try dsimp only
  repeat' first | with_reducible assumption | with_reducible apply kept_ite | with_reducible apply kept_ite1 | with_reducible apply kept_ite2 | (with_reducible refine kept_forAll (fun _ _ _ => ?_) ?_) | (with_reducible refine kept_foldl (fun _ _ _ => ?_) ?_) | (with_reducible refine kept_foldl1 (fun _ _ _ => ?_) ?_) | with_reducible apply kept_domainRuns | fail_if_no_progress (with_reducible apply kept_mk) | (with_reducible refine kept_of_eq (by with_reducible assumption) ?_) | intro _ _ | split | dsimp only

theorem kept_regRead {s0 s : State} (q : Requester) (page : Nat) (off : Nat) (h : Kept s0 s) : Kept s0 (regRead s q page off).1 := by
  unfold regRead
  try dsimp only
  repeat' first | with_reducible assumption | with_reducible apply kept_ite | with_reducible apply kept_ite1 | with_reducible apply kept_ite2 | (with_reducible refine kept_forAll (fun _ _ _ => ?_) ?_) | (with_reducible refine kept_foldl (fun _ _ _ => ?_) ?_) | (with_reducible refine kept_foldl1 (fun _ _ _ => ?_) ?_) | with_reducible apply kept_wakeFor | with_reducible apply kept_lockAcquire | with_reducible apply kept_popWords | with_reducible apply kept_keepWord | with_reducible apply kept_rtcTimeRead | with_reducible apply kept_sampleSubsec | with_reducible apply kept_drawNonce | with_reducible apply kept_wideRead | fail_if_no_progress (with_reducible apply kept_mk) | (with_reducible refine kept_of_eq (by with_reducible assumption) ?_) | intro _ _ | split | dsimp only

theorem kept_readCommand {s0 s : State} (q : Requester) (page : Nat) (off : Nat) (h : Kept s0 s) : Kept s0 (readCommand s q page off) := by
  unfold readCommand
  try dsimp only
  repeat' first | with_reducible assumption | with_reducible apply kept_ite | with_reducible apply kept_ite1 | with_reducible apply kept_ite2 | (with_reducible refine kept_forAll (fun _ _ _ => ?_) ?_) | (with_reducible refine kept_foldl (fun _ _ _ => ?_) ?_) | (with_reducible refine kept_foldl1 (fun _ _ _ => ?_) ?_) | with_reducible apply kept_gated | with_reducible apply kept_answer | with_reducible apply kept_regRead | fail_if_no_progress (with_reducible apply kept_mk) | (with_reducible refine kept_of_eq (by with_reducible assumption) ?_) | intro _ _ | split | dsimp only

theorem kept_setRearm {s0 s : State} (fn : SwitchFn) (b : Bool) (h : Kept s0 s) : Kept s0 (setRearm s fn b) := by
  unfold setRearm
  try dsimp only
  repeat' first | with_reducible assumption | with_reducible apply kept_ite | with_reducible apply kept_ite1 | with_reducible apply kept_ite2 | (with_reducible refine kept_forAll (fun _ _ _ => ?_) ?_) | (with_reducible refine kept_foldl (fun _ _ _ => ?_) ?_) | (with_reducible refine kept_foldl1 (fun _ _ _ => ?_) ?_) | with_reducible apply kept_setFld | fail_if_no_progress (with_reducible apply kept_mk) | (with_reducible refine kept_of_eq (by with_reducible assumption) ?_) | intro _ _ | split | dsimp only

theorem kept_clearBanks {s0 s : State} (c : Nat) (h : Kept s0 s) : Kept s0 (clearBanks s c) := by
  unfold clearBanks
  try dsimp only
  repeat' first | with_reducible assumption | with_reducible apply kept_ite | with_reducible apply kept_ite1 | with_reducible apply kept_ite2 | (with_reducible refine kept_forAll (fun _ _ _ => ?_) ?_) | (with_reducible refine kept_foldl (fun _ _ _ => ?_) ?_) | (with_reducible refine kept_foldl1 (fun _ _ _ => ?_) ?_) | with_reducible apply kept_setTask | fail_if_no_progress (with_reducible apply kept_mk) | (with_reducible refine kept_of_eq (by with_reducible assumption) ?_) | intro _ _ | split | dsimp only

theorem kept_startPortMeter {s0 s : State} (p : Nat) (h : Kept s0 s) : Kept s0 (startPortMeter s p) := by
  unfold startPortMeter
  try dsimp only
  repeat' first | with_reducible assumption | with_reducible apply kept_ite | with_reducible apply kept_ite1 | with_reducible apply kept_ite2 | (with_reducible refine kept_forAll (fun _ _ _ => ?_) ?_) | (with_reducible refine kept_foldl (fun _ _ _ => ?_) ?_) | (with_reducible refine kept_foldl1 (fun _ _ _ => ?_) ?_) | with_reducible apply kept_refreshPortMeter | with_reducible apply kept_portMeterPowerUp | with_reducible apply kept_setPmSt | fail_if_no_progress (with_reducible apply kept_mk) | (with_reducible refine kept_of_eq (by with_reducible assumption) ?_) | intro _ _ | split | dsimp only

theorem kept_startPage {s0 s : State} (p : Nat) (h : Kept s0 s) : Kept s0 (startPage s p) := by
  unfold startPage
  try dsimp only
  repeat' first | with_reducible assumption | with_reducible apply kept_ite | with_reducible apply kept_ite1 | with_reducible apply kept_ite2 | (with_reducible refine kept_forAll (fun _ _ _ => ?_) ?_) | (with_reducible refine kept_foldl (fun _ _ _ => ?_) ?_) | (with_reducible refine kept_foldl1 (fun _ _ _ => ?_) ?_) | with_reducible apply kept_bulkStart | with_reducible apply kept_clearBanks | with_reducible apply kept_setPageSt | with_reducible apply kept_startCan | with_reducible apply kept_portStart | with_reducible apply kept_hostStart | with_reducible apply kept_ptpStart | fail_if_no_progress (with_reducible apply kept_mk) | (with_reducible refine kept_of_eq (by with_reducible assumption) ?_) | intro _ _ | split | dsimp only

theorem kept_startFn {s0 s : State} (fn : SwitchFn) (h : Kept s0 s) : Kept s0 (startFn s fn) := by
  cases fn with
  | page p => exact kept_startPage _ h
  | station p => exact kept_svcStart _ h
  | portMeter p => exact kept_startPortMeter _ h
  | loop n => exact kept_startLoop _ h
  | circuit c => exact kept_startCircuit _ h
  | lite k => exact kept_setLiteSt _ _ (kept_setLadle _ _ h)
  | domain d => exact kept_setDomSt _ _ h

theorem kept_stopPage {s0 s : State} (p : Nat) (h : Kept s0 s) : Kept s0 (stopPage s p) := by
  unfold stopPage
  try dsimp only
  repeat' first | with_reducible assumption | with_reducible apply kept_ite | with_reducible apply kept_ite1 | with_reducible apply kept_ite2 | (with_reducible refine kept_forAll (fun _ _ _ => ?_) ?_) | (with_reducible refine kept_foldl (fun _ _ _ => ?_) ?_) | (with_reducible refine kept_foldl1 (fun _ _ _ => ?_) ?_) | with_reducible apply kept_bulkStop | with_reducible apply kept_portDisable | with_reducible apply kept_hostStop | with_reducible apply kept_twinLinkDown | with_reducible apply kept_setPageSt | with_reducible apply kept_ptpStop | with_reducible apply kept_refreshAll | fail_if_no_progress (with_reducible apply kept_mk) | (with_reducible refine kept_of_eq (by with_reducible assumption) ?_) | intro _ _ | split | dsimp only

theorem kept_stopFn {s0 s : State} (fn : SwitchFn) (h : Kept s0 s) : Kept s0 (stopFn s fn) := by
  cases fn with
  | page p => exact kept_stopPage _ h
  | station p => exact kept_svcStop _ h
  | portMeter p => exact kept_setPmSt _ _ h
  | loop n => exact kept_setLoopSt _ _ h
  | circuit c => exact kept_setCircSt _ _ h
  | lite k => exact kept_liteStop _ h
  | domain d => exact kept_setDomC _ _ (kept_setDomSt _ _ h)

theorem kept_startedPage {s0 s : State} (p : Nat) (h : Kept s0 s) : Kept s0 (startedPage s p) := by
  unfold startedPage
  try dsimp only
  repeat' first | with_reducible assumption | with_reducible apply kept_ite | with_reducible apply kept_ite1 | with_reducible apply kept_ite2 | (with_reducible refine kept_forAll (fun _ _ _ => ?_) ?_) | (with_reducible refine kept_foldl (fun _ _ _ => ?_) ?_) | (with_reducible refine kept_foldl1 (fun _ _ _ => ?_) ?_) | with_reducible apply kept_portStarted | with_reducible apply kept_hostStarted | with_reducible apply kept_ptpStarted | with_reducible apply kept_refreshAll | with_reducible apply kept_setPageSt | fail_if_no_progress (with_reducible apply kept_mk) | (with_reducible refine kept_of_eq (by with_reducible assumption) ?_) | intro _ _ | split | dsimp only

theorem kept_startedFn {s0 s : State} (fn : SwitchFn) (h : Kept s0 s) : Kept s0 (startedFn s fn) := by
  cases fn with
  | page p => exact kept_startedPage _ h
  | portMeter p => exact kept_ite (kept_setPmSt _ _ h) h
  | lite k => exact kept_ite (kept_setLiteSt _ _ h) h
  | domain d => exact kept_ite (kept_setDomC _ _ (kept_setDomSt _ _ h)) h
  | _ => exact h

theorem kept_pageOff {s0 s : State} (p : Nat) (h : Kept s0 s) : Kept s0 (pageOff s p) := by
  unfold pageOff
  try dsimp only
  repeat' first | with_reducible assumption | with_reducible apply kept_ite | with_reducible apply kept_ite1 | with_reducible apply kept_ite2 | (with_reducible refine kept_forAll (fun _ _ _ => ?_) ?_) | (with_reducible refine kept_foldl (fun _ _ _ => ?_) ?_) | (with_reducible refine kept_foldl1 (fun _ _ _ => ?_) ?_) | with_reducible apply kept_setPageSt | with_reducible apply kept_startPage | with_reducible apply kept_setFld | fail_if_no_progress (with_reducible apply kept_mk) | (with_reducible refine kept_of_eq (by with_reducible assumption) ?_) | intro _ _ | split | dsimp only

theorem kept_stoppedPage {s0 s : State} (p : Nat) (h : Kept s0 s) : Kept s0 (stoppedPage s p) := by
  unfold stoppedPage
  try dsimp only
  repeat' first | with_reducible assumption | with_reducible apply kept_ite | with_reducible apply kept_ite1 | with_reducible apply kept_ite2 | (with_reducible refine kept_forAll (fun _ _ _ => ?_) ?_) | (with_reducible refine kept_foldl (fun _ _ _ => ?_) ?_) | (with_reducible refine kept_foldl1 (fun _ _ _ => ?_) ?_) | with_reducible apply kept_refreshAll | with_reducible apply kept_pageOff | with_reducible apply kept_breakLocks | with_reducible apply kept_canOff | with_reducible apply kept_portStopped | with_reducible apply kept_hostStopped | with_reducible apply kept_ptpStopped | fail_if_no_progress (with_reducible apply kept_mk) | (with_reducible refine kept_of_eq (by with_reducible assumption) ?_) | intro _ _ | split | dsimp only

theorem kept_portMeterOff {s0 s : State} (p : Nat) (h : Kept s0 s) : Kept s0 (portMeterOff s p) := by
  unfold portMeterOff
  try dsimp only
  repeat' first | with_reducible assumption | with_reducible apply kept_ite | with_reducible apply kept_ite1 | with_reducible apply kept_ite2 | (with_reducible refine kept_forAll (fun _ _ _ => ?_) ?_) | (with_reducible refine kept_foldl (fun _ _ _ => ?_) ?_) | (with_reducible refine kept_foldl1 (fun _ _ _ => ?_) ?_) | with_reducible apply kept_refreshPortMeter | with_reducible apply kept_setPmSt | with_reducible apply kept_startPortMeter | with_reducible apply kept_setFld | fail_if_no_progress (with_reducible apply kept_mk) | (with_reducible refine kept_of_eq (by with_reducible assumption) ?_) | intro _ _ | split | dsimp only

theorem kept_domainOff {s0 s : State} (d : Nat) (h : Kept s0 s) : Kept s0 (domainOff s d) := by
  unfold domainOff
  try dsimp only
  repeat' first | with_reducible assumption | with_reducible apply kept_ite | with_reducible apply kept_ite1 | with_reducible apply kept_ite2 | (with_reducible refine kept_forAll (fun _ _ _ => ?_) ?_) | (with_reducible refine kept_foldl (fun _ _ _ => ?_) ?_) | (with_reducible refine kept_foldl1 (fun _ _ _ => ?_) ?_) | with_reducible apply kept_setDomC | with_reducible apply kept_setDomSt | with_reducible apply kept_setFld | fail_if_no_progress (with_reducible apply kept_mk) | (with_reducible refine kept_of_eq (by with_reducible assumption) ?_) | intro _ _ | split | dsimp only

theorem kept_stoppedFn {s0 s : State} (fn : SwitchFn) (h : Kept s0 s) : Kept s0 (stoppedFn s fn) := by
  cases fn with
  | page p => exact kept_stoppedPage _ h
  | portMeter p => exact kept_ite (kept_portMeterOff _ h) h
  | loop n => exact kept_finishLoop _ h
  | circuit c => exact kept_ite (kept_circuitOff _ h) h
  | domain d => exact kept_ite (kept_domainOff _ h) h
  | _ => exact h

theorem kept_enableFn {s0 s : State} (fn : SwitchFn) (h : Kept s0 s) : Kept s0 (enableFn s fn) := by
  unfold enableFn
  try dsimp only
  repeat' first | with_reducible assumption | with_reducible apply kept_ite | with_reducible apply kept_ite1 | with_reducible apply kept_ite2 | (with_reducible refine kept_forAll (fun _ _ _ => ?_) ?_) | (with_reducible refine kept_foldl (fun _ _ _ => ?_) ?_) | (with_reducible refine kept_foldl1 (fun _ _ _ => ?_) ?_) | with_reducible apply kept_startFn | with_reducible apply kept_domainRuns | with_reducible apply kept_setRearm | fail_if_no_progress (with_reducible apply kept_mk) | (with_reducible refine kept_of_eq (by with_reducible assumption) ?_) | intro _ _ | split | dsimp only

theorem kept_disableFn {s0 s : State} (fn : SwitchFn) (h : Kept s0 s) : Kept s0 (disableFn s fn) := by
  unfold disableFn
  try dsimp only
  repeat' first | with_reducible assumption | with_reducible apply kept_ite | with_reducible apply kept_ite1 | with_reducible apply kept_ite2 | (with_reducible refine kept_forAll (fun _ _ _ => ?_) ?_) | (with_reducible refine kept_foldl (fun _ _ _ => ?_) ?_) | (with_reducible refine kept_foldl1 (fun _ _ _ => ?_) ?_) | with_reducible apply kept_stopFn | with_reducible apply kept_setRearm | fail_if_no_progress (with_reducible apply kept_mk) | (with_reducible refine kept_of_eq (by with_reducible assumption) ?_) | intro _ _ | split | dsimp only

theorem kept_frcCommand {s0 s : State} (f : Nat) (op : Nat) (h : Kept s0 s) : Kept s0 (frcCommand s f op).1 := by
  unfold frcCommand
  try dsimp only
  repeat' first | with_reducible assumption | with_reducible apply kept_ite | with_reducible apply kept_ite1 | with_reducible apply kept_ite2 | (with_reducible refine kept_forAll (fun _ _ _ => ?_) ?_) | (with_reducible refine kept_foldl (fun _ _ _ => ?_) ?_) | (with_reducible refine kept_foldl1 (fun _ _ _ => ?_) ?_) | with_reducible apply kept_forceSet | with_reducible apply kept_forceClear | with_reducible apply kept_forceLookup | with_reducible apply kept_showForce | with_reducible apply kept_forceClearFlask | with_reducible apply kept_forceReadIndex | fail_if_no_progress (with_reducible apply kept_mk) | (with_reducible refine kept_of_eq (by with_reducible assumption) ?_) | intro _ _ | split | dsimp only

theorem kept_loopMisuse {s0 s : State} (n : Nat) (h : Kept s0 s) : Kept s0 (loopMisuse s n) := by
  unfold loopMisuse
  try dsimp only
  repeat' first | with_reducible assumption | with_reducible apply kept_ite | with_reducible apply kept_ite1 | with_reducible apply kept_ite2 | (with_reducible refine kept_forAll (fun _ _ _ => ?_) ?_) | (with_reducible refine kept_foldl (fun _ _ _ => ?_) ?_) | (with_reducible refine kept_foldl1 (fun _ _ _ => ?_) ?_) | with_reducible apply kept_setSecState | with_reducible apply kept_takeFree | with_reducible apply kept_wr | with_reducible apply kept_setLoop | fail_if_no_progress (with_reducible apply kept_mk) | (with_reducible refine kept_of_eq (by with_reducible assumption) ?_) | intro _ _ | split | dsimp only

theorem kept_dramMisuse {s0 s : State} (h : Kept s0 s) : Kept s0 (dramMisuse s) := kept_filter h

theorem kept_sysCommand {s0 s : State} (v : Word) (h : Kept s0 s) : Kept s0 (sysCommand s v).1 := by
  unfold sysCommand
  try dsimp only
  repeat' first | with_reducible assumption | with_reducible apply kept_ite | with_reducible apply kept_ite1 | with_reducible apply kept_ite2 | (with_reducible refine kept_forAll (fun _ _ _ => ?_) ?_) | (with_reducible refine kept_foldl (fun _ _ _ => ?_) ?_) | (with_reducible refine kept_foldl1 (fun _ _ _ => ?_) ?_) | with_reducible apply kept_resetDue | fail_if_no_progress (with_reducible apply kept_mk) | (with_reducible refine kept_of_eq (by with_reducible assumption) ?_) | intro _ _ | split | dsimp only

theorem kept_pairWrite {s0 s : State} (old : Word) (h : Kept s0 s) : Kept s0 (pairWrite s old) := by
  unfold pairWrite
  try dsimp only
  repeat' first | with_reducible assumption | with_reducible apply kept_ite | with_reducible apply kept_ite1 | with_reducible apply kept_ite2 | (with_reducible refine kept_forAll (fun _ _ _ => ?_) ?_) | (with_reducible refine kept_foldl (fun _ _ _ => ?_) ?_) | (with_reducible refine kept_foldl1 (fun _ _ _ => ?_) ?_) | with_reducible apply kept_setRole | fail_if_no_progress (with_reducible apply kept_mk) | (with_reducible refine kept_of_eq (by with_reducible assumption) ?_) | intro _ _ | split | dsimp only

theorem kept_taskEnWrite {s0 s : State} (t : Nat) (v : Word) (h : Kept s0 s) : Kept s0 (taskEnWrite s t v) := by
  unfold taskEnWrite
  try dsimp only
  repeat' first | with_reducible assumption | with_reducible apply kept_ite | with_reducible apply kept_ite1 | with_reducible apply kept_ite2 | (with_reducible refine kept_forAll (fun _ _ _ => ?_) ?_) | (with_reducible refine kept_foldl (fun _ _ _ => ?_) ?_) | (with_reducible refine kept_foldl1 (fun _ _ _ => ?_) ?_) | with_reducible apply kept_enableTask | with_reducible apply kept_disableTask | fail_if_no_progress (with_reducible apply kept_mk) | (with_reducible refine kept_of_eq (by with_reducible assumption) ?_) | intro _ _ | split | dsimp only

theorem kept_queueEnWrite {s0 s : State} (q : Nat) (old : Word) (v : Word) (h : Kept s0 s) : Kept s0 (queueEnWrite s q old v) := by
  unfold queueEnWrite
  try dsimp only
  repeat' first | with_reducible assumption | with_reducible apply kept_ite | with_reducible apply kept_ite1 | with_reducible apply kept_ite2 | (with_reducible refine kept_forAll (fun _ _ _ => ?_) ?_) | (with_reducible refine kept_foldl (fun _ _ _ => ?_) ?_) | (with_reducible refine kept_foldl1 (fun _ _ _ => ?_) ?_) | with_reducible apply kept_resetQueue | fail_if_no_progress (with_reducible apply kept_mk) | (with_reducible refine kept_of_eq (by with_reducible assumption) ?_) | intro _ _ | split | dsimp only

theorem kept_bankWrite {s0 s : State} (n : Nat) (v : Word) (h : Kept s0 s) : Kept s0 (bankWrite s n v).1 := by
  unfold bankWrite
  try dsimp only
  repeat' first | with_reducible assumption | with_reducible apply kept_ite | with_reducible apply kept_ite1 | with_reducible apply kept_ite2 | (with_reducible refine kept_forAll (fun _ _ _ => ?_) ?_) | (with_reducible refine kept_foldl (fun _ _ _ => ?_) ?_) | (with_reducible refine kept_foldl1 (fun _ _ _ => ?_) ?_) | with_reducible apply kept_bankSwap | fail_if_no_progress (with_reducible apply kept_mk) | (with_reducible refine kept_of_eq (by with_reducible assumption) ?_) | intro _ _ | split | dsimp only

theorem kept_afterWrite {s0 s : State} (q : Requester) (page : Nat) (off : Nat) (old : Word) (v : Word) (h : Kept s0 s) : Kept s0 (afterWrite s q page off old v).1 := by
  unfold afterWrite
  try dsimp only
  repeat' first | with_reducible assumption | with_reducible apply kept_ite | with_reducible apply kept_ite1 | with_reducible apply kept_ite2 | (with_reducible refine kept_forAll (fun _ _ _ => ?_) ?_) | (with_reducible refine kept_foldl (fun _ _ _ => ?_) ?_) | (with_reducible refine kept_foldl1 (fun _ _ _ => ?_) ?_) | with_reducible apply kept_enableFn | with_reducible apply kept_disableFn | with_reducible apply kept_modeRequest | with_reducible apply kept_sysCommand | with_reducible apply kept_storeStart | with_reducible apply kept_rtcCommand | with_reducible apply kept_clearTamper | with_reducible apply kept_evtLevel | with_reducible apply kept_seedWrite | with_reducible apply kept_lockFree | with_reducible apply kept_lockRelease | with_reducible apply kept_dramMisuse | with_reducible apply kept_xspiStart | with_reducible apply kept_ladleKick | with_reducible apply kept_bulkCommand | with_reducible apply kept_liteCommand | with_reducible apply kept_queueEnWrite | with_reducible apply kept_queueCommand | with_reducible apply kept_registerPush | with_reducible apply kept_ptdCommand | with_reducible apply kept_wr | with_reducible apply kept_frcCommand | with_reducible apply kept_taskEnWrite | with_reducible apply kept_clearCounters | with_reducible apply kept_setFld | with_reducible apply kept_xchOp | with_reducible apply kept_groupSwap | with_reducible apply kept_bankWrite | with_reducible apply kept_loopMisuse | with_reducible apply kept_circuitZero | with_reducible apply kept_circuitClrMax | with_reducible apply kept_canCommand | with_reducible apply kept_canTxRequest | with_reducible apply kept_takeFree | with_reducible apply kept_canTxCancel | with_reducible apply kept_ptpPop | with_reducible apply kept_hmCounterClear | with_reducible apply kept_pairWrite | with_reducible apply kept_twnCommand | with_reducible apply kept_cryGo | with_reducible apply kept_updCommand | with_reducible apply kept_debugCommand | with_reducible apply kept_goWrite | fail_if_no_progress (with_reducible apply kept_mk) | (with_reducible refine kept_of_eq (by with_reducible assumption) ?_) | intro _ _ | split | dsimp only

theorem kept_ownWrite {s0 s : State} {q : Requester} {page off : Nat} {v : Word} {r : State × Code} (e : ownWrite s q page off v = some r) (h : Kept s0 s) :
    Kept s0 r.1 := by
  unfold ownWrite at e
  split at e
  · cases e; exact kept_calendarWrite _ _ h
  split at e
  · cases e; exact kept_rtcCtrlWrite _ h
  split at e
  · cases e; exact kept_tbRate _ h
  split at e
  · cases e; exact kept_tbSlew _ h
  split at e
  · cases e; exact kept_mdioWrite _ _ h
  split at e
  · cases e; exact kept_cruStart _ h
  split at e
  · cases e; exact kept_holdWrite _ _ h
  · cases e

theorem kept_acceptWrite {s0 s : State} (q : Requester) (page : Nat) (off : Nat) (d : RegDesc) (v : Word) (h : Kept s0 s) : Kept s0 (acceptWrite s q page off d v).1 := by
  unfold acceptWrite
  try dsimp only
  repeat' first | with_reducible assumption | with_reducible apply kept_ite | with_reducible apply kept_ite1 | with_reducible apply kept_ite2 | (with_reducible refine kept_forAll (fun _ _ _ => ?_) ?_) | (with_reducible refine kept_foldl (fun _ _ _ => ?_) ?_) | (with_reducible refine kept_foldl1 (fun _ _ _ => ?_) ?_) | with_reducible apply kept_domainRuns | with_reducible apply kept_bindWrite | with_reducible apply kept_afterWrite | with_reducible apply kept_wr | fail_if_no_progress (with_reducible apply kept_mk) | (with_reducible refine kept_of_eq (by with_reducible assumption) ?_) | intro _ _ | split | dsimp only

theorem kept_stageWord {s0 s : State} (q : Requester) (key : Nat) (v : Word) (h : Kept s0 s) : Kept s0 (stageWord s q key v) := by
  unfold stageWord
  try dsimp only
  repeat' first | with_reducible assumption | with_reducible apply kept_ite | with_reducible apply kept_ite1 | with_reducible apply kept_ite2 | (with_reducible refine kept_forAll (fun _ _ _ => ?_) ?_) | (with_reducible refine kept_foldl (fun _ _ _ => ?_) ?_) | (with_reducible refine kept_foldl1 (fun _ _ _ => ?_) ?_) | fail_if_no_progress (with_reducible apply kept_mk) | (with_reducible refine kept_of_eq (by with_reducible assumption) ?_) | intro _ _ | split | dsimp only

theorem kept_commitWide {s0 s : State} (q : Requester) (page : Nat) (kl : Nat) (kh : Nat) (v : Word) (h : Kept s0 s) : Kept s0 (commitWide s q page kl kh v).1 := by
  unfold commitWide
  try dsimp only
  repeat' first | with_reducible assumption | with_reducible apply kept_ite | with_reducible apply kept_ite1 | with_reducible apply kept_ite2 | (with_reducible refine kept_forAll (fun _ _ _ => ?_) ?_) | (with_reducible refine kept_foldl (fun _ _ _ => ?_) ?_) | (with_reducible refine kept_foldl1 (fun _ _ _ => ?_) ?_) | with_reducible apply kept_tbStep | with_reducible apply kept_wr | fail_if_no_progress (with_reducible apply kept_mk) | (with_reducible refine kept_of_eq (by with_reducible assumption) ?_) | intro _ _ | split | dsimp only

theorem kept_wideWrite {s0 s : State} (q : Requester) (page : Nat) (off : Nat) (base : Nat) (d : RegDesc) (v : Word) (h : Kept s0 s) : Kept s0 (wideWrite s q page off base d v).1 := by
  unfold wideWrite
  try dsimp only
  repeat' first | with_reducible assumption | with_reducible apply kept_ite | with_reducible apply kept_ite1 | with_reducible apply kept_ite2 | (with_reducible refine kept_forAll (fun _ _ _ => ?_) ?_) | (with_reducible refine kept_foldl (fun _ _ _ => ?_) ?_) | (with_reducible refine kept_foldl1 (fun _ _ _ => ?_) ?_) | with_reducible apply kept_stageWord | with_reducible apply kept_commitWide | fail_if_no_progress (with_reducible apply kept_mk) | (with_reducible refine kept_of_eq (by with_reducible assumption) ?_) | intro _ _ | split | dsimp only

theorem kept_blockWrite {s0 s : State} (q : Requester) (page off : Nat) (v : Word) (h : Kept s0 s) : Kept s0 (blockWrite s q page off v).1 := by
  unfold blockWrite
  split
  · exact kept_ite1 h h
  · have hw : Kept s0 (wakeFor s page off) := kept_wakeFor _ _ h
    dsimp only
    split
    · rename_i e; exact kept_ownWrite e hw
    · split
      · split
        · exact kept_wideWrite _ _ _ _ _ _ hw
        · exact kept_acceptWrite _ _ _ _ _ hw
      · exact hw

theorem kept_ctrlWrite {s0 s : State} (page : Nat) (v : Word) (h : Kept s0 s) : Kept s0 (ctrlWrite s page v).1 := by
  unfold ctrlWrite
  try dsimp only
  repeat' first | with_reducible assumption | with_reducible apply kept_ite | with_reducible apply kept_ite1 | with_reducible apply kept_ite2 | (with_reducible refine kept_forAll (fun _ _ _ => ?_) ?_) | (with_reducible refine kept_foldl (fun _ _ _ => ?_) ?_) | (with_reducible refine kept_foldl1 (fun _ _ _ => ?_) ?_) | with_reducible apply kept_enableFn | with_reducible apply kept_wr | with_reducible apply kept_disableFn | fail_if_no_progress (with_reducible apply kept_mk) | (with_reducible refine kept_of_eq (by with_reducible assumption) ?_) | intro _ _ | split | dsimp only

theorem kept_headerWrite {s0 s : State} (page : Nat) (off : Nat) (v : Word) (h : Kept s0 s) : Kept s0 (headerWrite s page off v).1 := by
  unfold headerWrite
  try dsimp only
  repeat' first | with_reducible assumption | with_reducible apply kept_ite | with_reducible apply kept_ite1 | with_reducible apply kept_ite2 | (with_reducible refine kept_forAll (fun _ _ _ => ?_) ?_) | (with_reducible refine kept_foldl (fun _ _ _ => ?_) ?_) | (with_reducible refine kept_foldl1 (fun _ _ _ => ?_) ?_) | with_reducible apply kept_ctrlWrite | with_reducible apply kept_wr | with_reducible apply kept_evtLevel | with_reducible apply kept_latencyChanged | fail_if_no_progress (with_reducible apply kept_mk) | (with_reducible refine kept_of_eq (by with_reducible assumption) ?_) | intro _ _ | split | dsimp only

theorem kept_forwardConfig {s0 s : State} (page : Nat) (off : Nat) (v : Word) (h : Kept s0 s) : Kept s0 (forwardConfig s page off v) := by
  unfold forwardConfig
  try dsimp only
  repeat' first | with_reducible assumption | with_reducible apply kept_ite | with_reducible apply kept_ite1 | with_reducible apply kept_ite2 | (with_reducible refine kept_forAll (fun _ _ _ => ?_) ?_) | (with_reducible refine kept_foldl (fun _ _ _ => ?_) ?_) | (with_reducible refine kept_foldl1 (fun _ _ _ => ?_) ?_) | with_reducible apply kept_setTwin | fail_if_no_progress (with_reducible apply kept_mk) | (with_reducible refine kept_of_eq (by with_reducible assumption) ?_) | intro _ _ | split | dsimp only

theorem kept_regWrite {s0 s : State} (q : Requester) (page : Nat) (off : Nat) (v : Word) (h : Kept s0 s) : Kept s0 (regWrite s q page off v).1 := by
  unfold regWrite
  try dsimp only
  repeat' first | with_reducible assumption | with_reducible apply kept_ite | with_reducible apply kept_ite1 | with_reducible apply kept_ite2 | (with_reducible refine kept_forAll (fun _ _ _ => ?_) ?_) | (with_reducible refine kept_foldl (fun _ _ _ => ?_) ?_) | (with_reducible refine kept_foldl1 (fun _ _ _ => ?_) ?_) | with_reducible apply kept_headerWrite | with_reducible apply kept_blockWrite | with_reducible apply kept_forwardConfig | fail_if_no_progress (with_reducible apply kept_mk) | (with_reducible refine kept_of_eq (by with_reducible assumption) ?_) | intro _ _ | split | dsimp only

theorem kept_writeCommand {s0 s : State} (q : Requester) (page : Nat) (off : Nat) (v : Word) (h : Kept s0 s) : Kept s0 (writeCommand s q page off v) := by
  unfold writeCommand
  try dsimp only
  repeat' first | with_reducible assumption | with_reducible apply kept_ite | with_reducible apply kept_ite1 | with_reducible apply kept_ite2 | (with_reducible refine kept_forAll (fun _ _ _ => ?_) ?_) | (with_reducible refine kept_foldl (fun _ _ _ => ?_) ?_) | (with_reducible refine kept_foldl1 (fun _ _ _ => ?_) ?_) | with_reducible apply kept_gated | with_reducible apply kept_answer | with_reducible apply kept_endCommand | with_reducible apply kept_regWrite | fail_if_no_progress (with_reducible apply kept_mk) | (with_reducible refine kept_of_eq (by with_reducible assumption) ?_) | intro _ _ | split | dsimp only

theorem kept_interruptNor {s0 s : State} (h : Kept s0 s) : Kept s0 (interruptNor s) := by
  unfold interruptNor
  generalize (0x10000 : Nat) = a
  generalize (4096 : Nat) = b
  generalize (4095 : Nat) = c
  dsimp only
  have h1 : ∀ x, Kept s0 x → Kept s0 (match x.boot.xspi with
      | some j => if j.op = 3 then x else tornNor x j.off j.len
      | none => x) := by
    intro x hx; split
    · exact kept_ite hx (kept_tornNor _ _ hx)
    · exact hx
  apply h1
  have h2 : ∀ x, Kept s0 x → Kept s0 (match x.boot.store with
      | some j => tornNor x j.off ((j.len + c) / b * b)
      | none => x) := by
    intro x hx; split
    · exact kept_tornNor _ _ hx
    · exact hx
  apply h2
  exact kept_ite (kept_tornNor _ _ (kept_ite (kept_tornNor _ _ h) h)) (kept_ite (kept_tornNor _ _ h) h)

theorem kept_moduleReset {s0 s : State} (causes : Nat) (h : Kept s0 s) : Kept s0 (moduleReset s causes) := by
  unfold moduleReset
  dsimp only
  exact kept_evtLevel _ (kept_evtLevel _ (kept_setFld _ _ _ (kept_wr _ _ (kept_filter (kept_interruptNor h)))))

theorem kept_newBank {s0 s : State}  (h : Kept s0 s) : Kept s0 (newBank s).1 := by
  unfold newBank
  try dsimp only
  repeat' first | with_reducible assumption | with_reducible apply kept_ite | with_reducible apply kept_ite1 | with_reducible apply kept_ite2 | (with_reducible refine kept_forAll (fun _ _ _ => ?_) ?_) | (with_reducible refine kept_foldl (fun _ _ _ => ?_) ?_) | (with_reducible refine kept_foldl1 (fun _ _ _ => ?_) ?_) | with_reducible apply kept_drawBytes | fail_if_no_progress (with_reducible apply kept_mk) | (with_reducible refine kept_of_eq (by with_reducible assumption) ?_) | intro _ _ | split | dsimp only

theorem kept_installRoot {s0 s : State} (root : List Byte) (rs : Nat) (h : Kept s0 s) : Kept s0 (installRoot s root rs) := by
  unfold installRoot
  try dsimp only
  repeat' first | with_reducible assumption | with_reducible apply kept_ite | with_reducible apply kept_ite1 | with_reducible apply kept_ite2 | (with_reducible refine kept_forAll (fun _ _ _ => ?_) ?_) | (with_reducible refine kept_foldl (fun _ _ _ => ?_) ?_) | (with_reducible refine kept_foldl1 (fun _ _ _ => ?_) ?_) | with_reducible apply kept_drawBytes | with_reducible apply kept_setFld | with_reducible apply kept_setSlot | fail_if_no_progress (with_reducible apply kept_mk) | (with_reducible refine kept_of_eq (by with_reducible assumption) ?_) | intro _ _ | split | dsimp only

theorem kept_rootFailed {s0 s : State}  (h : Kept s0 s) : Kept s0 (rootFailed s) := by
  unfold rootFailed
  try dsimp only
  repeat' first | with_reducible assumption | with_reducible apply kept_ite | with_reducible apply kept_ite1 | with_reducible apply kept_ite2 | (with_reducible refine kept_forAll (fun _ _ _ => ?_) ?_) | (with_reducible refine kept_foldl (fun _ _ _ => ?_) ?_) | (with_reducible refine kept_foldl1 (fun _ _ _ => ?_) ?_) | with_reducible apply kept_setFld | with_reducible apply kept_sealCrucible | fail_if_no_progress (with_reducible apply kept_mk) | (with_reducible refine kept_of_eq (by with_reducible assumption) ?_) | intro _ _ | split | dsimp only

theorem kept_entropyFailed {s0 s : State}  (h : Kept s0 s) : Kept s0 (entropyFailed s) := by
  unfold entropyFailed
  try dsimp only
  repeat' first | with_reducible assumption | with_reducible apply kept_ite | with_reducible apply kept_ite1 | with_reducible apply kept_ite2 | (with_reducible refine kept_forAll (fun _ _ _ => ?_) ?_) | (with_reducible refine kept_foldl (fun _ _ _ => ?_) ?_) | (with_reducible refine kept_foldl1 (fun _ _ _ => ?_) ?_) | with_reducible apply kept_setFld | with_reducible apply kept_sealCrucible | fail_if_no_progress (with_reducible apply kept_mk) | (with_reducible refine kept_of_eq (by with_reducible assumption) ?_) | intro _ _ | split | dsimp only

theorem kept_loadRoot {s0 s : State} (h : Kept s0 s) : Kept s0 (loadRoot s) := by
  unfold loadRoot
  dsimp only
  have hf : ∀ o : Otp, o = s.otp → Kept s0 (rootFailed s) := fun _ _ => kept_rootFailed h
  have hn : Kept s0 (newBank s).1 := kept_newBank h
  repeat' split
  all_goals first
    | exact kept_setFld _ _ _ (kept_sealCrucible h)
    | exact kept_installRoot _ _ h
    | exact kept_rootFailed h
    | exact kept_entropyFailed h
    | exact kept_installRoot _ _ (kept_otp hn ⟨id, id, Nat.le_refl _, fun _ e => e⟩)

theorem kept_restoreKeys {s0 s : State}  (h : Kept s0 s) : Kept s0 (restoreKeys s) := by
  unfold restoreKeys
  try dsimp only
  repeat' first | with_reducible assumption | with_reducible apply kept_ite | with_reducible apply kept_ite1 | with_reducible apply kept_ite2 | (with_reducible refine kept_forAll (fun _ _ _ => ?_) ?_) | (with_reducible refine kept_foldl (fun _ _ _ => ?_) ?_) | (with_reducible refine kept_foldl1 (fun _ _ _ => ?_) ?_) | with_reducible apply kept_drawBytes | with_reducible apply kept_setSlot | fail_if_no_progress (with_reducible apply kept_mk) | (with_reducible refine kept_of_eq (by with_reducible assumption) ?_) | intro _ _ | split | dsimp only

theorem kept_setPhase {s0 s : State} (n : Nat) (h : Kept s0 s) : Kept s0 (setPhase s n) := by
  unfold setPhase
  try dsimp only
  repeat' first | with_reducible assumption | with_reducible apply kept_ite | with_reducible apply kept_ite1 | with_reducible apply kept_ite2 | (with_reducible refine kept_forAll (fun _ _ _ => ?_) ?_) | (with_reducible refine kept_foldl (fun _ _ _ => ?_) ?_) | (with_reducible refine kept_foldl1 (fun _ _ _ => ?_) ?_) | with_reducible apply kept_setFld | fail_if_no_progress (with_reducible apply kept_mk) | (with_reducible refine kept_of_eq (by with_reducible assumption) ?_) | intro _ _ | split | dsimp only

theorem kept_lockPlls {s0 s : State} (p : Nat → Bool) (h : Kept s0 s) : Kept s0 (lockPlls s p) := by
  unfold lockPlls
  try dsimp only
  repeat' first | with_reducible assumption | with_reducible apply kept_ite | with_reducible apply kept_ite1 | with_reducible apply kept_ite2 | (with_reducible refine kept_forAll (fun _ _ _ => ?_) ?_) | (with_reducible refine kept_foldl (fun _ _ _ => ?_) ?_) | (with_reducible refine kept_foldl1 (fun _ _ _ => ?_) ?_) | with_reducible apply kept_setBit | fail_if_no_progress (with_reducible apply kept_mk) | (with_reducible refine kept_of_eq (by with_reducible assumption) ?_) | intro _ _ | split | dsimp only

theorem kept_bootStart {s0 s : State}  (h : Kept s0 s) : Kept s0 (bootStart s) := by
  unfold bootStart
  try dsimp only
  repeat' first | with_reducible assumption | with_reducible apply kept_ite | with_reducible apply kept_ite1 | with_reducible apply kept_ite2 | (with_reducible refine kept_forAll (fun _ _ _ => ?_) ?_) | (with_reducible refine kept_foldl (fun _ _ _ => ?_) ?_) | (with_reducible refine kept_foldl1 (fun _ _ _ => ?_) ?_) | with_reducible apply kept_wr | with_reducible apply kept_lockPlls | with_reducible apply kept_setFld | with_reducible apply kept_sealByTamper | with_reducible apply kept_loadRoot | with_reducible apply kept_setCrypto | with_reducible apply kept_setPhase | with_reducible apply kept_restoreKeys | with_reducible apply kept_debugOpen | with_reducible apply kept_showJournal | fail_if_no_progress (with_reducible apply kept_mk) | (with_reducible refine kept_of_eq (by with_reducible assumption) ?_) | intro _ _ | split | dsimp only

theorem kept_trainDram {s0 s : State}  (h : Kept s0 s) : Kept s0 (trainDram s) := by
  unfold trainDram
  try dsimp only
  repeat' first | with_reducible assumption | with_reducible apply kept_ite | with_reducible apply kept_ite1 | with_reducible apply kept_ite2 | (with_reducible refine kept_forAll (fun _ _ _ => ?_) ?_) | (with_reducible refine kept_foldl (fun _ _ _ => ?_) ?_) | (with_reducible refine kept_foldl1 (fun _ _ _ => ?_) ?_) | with_reducible apply kept_setPhase | with_reducible apply kept_wr | fail_if_no_progress (with_reducible apply kept_mk) | (with_reducible refine kept_of_eq (by with_reducible assumption) ?_) | intro _ _ | split | dsimp only

theorem kept_choosePattern {s0 s : State}  (h : Kept s0 s) : Kept s0 (choosePattern s).1 := by
  unfold choosePattern
  try dsimp only
  repeat' first | with_reducible assumption | with_reducible apply kept_ite | with_reducible apply kept_ite1 | with_reducible apply kept_ite2 | (with_reducible refine kept_forAll (fun _ _ _ => ?_) ?_) | (with_reducible refine kept_foldl (fun _ _ _ => ?_) ?_) | (with_reducible refine kept_foldl1 (fun _ _ _ => ?_) ?_) | with_reducible apply kept_wr | fail_if_no_progress (with_reducible apply kept_mk) | (with_reducible refine kept_of_eq (by with_reducible assumption) ?_) | intro _ _ | split | dsimp only

theorem kept_overlayReject {s0 s : State} (sec : Nat) (idx : Nat) (c : Code) (h : Kept s0 s) : Kept s0 (overlayReject s sec idx c) := by
  unfold overlayReject
  try dsimp only
  repeat' first | with_reducible assumption | with_reducible apply kept_ite | with_reducible apply kept_ite1 | with_reducible apply kept_ite2 | (with_reducible refine kept_forAll (fun _ _ _ => ?_) ?_) | (with_reducible refine kept_foldl (fun _ _ _ => ?_) ?_) | (with_reducible refine kept_foldl1 (fun _ _ _ => ?_) ?_) | with_reducible apply kept_setFld | with_reducible apply kept_bumpFld | fail_if_no_progress (with_reducible apply kept_mk) | (with_reducible refine kept_of_eq (by with_reducible assumption) ?_) | intro _ _ | split | dsimp only

theorem kept_overlayWrite {s0 s : State} (page : Nat) (off : Nat) (v : Word) (h : Kept s0 s) : Kept s0 (overlayWrite s page off v).1 := by
  unfold overlayWrite
  try dsimp only
  repeat' first | with_reducible assumption | with_reducible apply kept_ite | with_reducible apply kept_ite1 | with_reducible apply kept_ite2 | (with_reducible refine kept_forAll (fun _ _ _ => ?_) ?_) | (with_reducible refine kept_foldl (fun _ _ _ => ?_) ?_) | (with_reducible refine kept_foldl1 (fun _ _ _ => ?_) ?_) | with_reducible apply kept_regWrite | with_reducible apply kept_pgError | fail_if_no_progress (with_reducible apply kept_mk) | (with_reducible refine kept_of_eq (by with_reducible assumption) ?_) | intro _ _ | split | dsimp only

theorem kept_overlayWrites {s0 b s : State} (l : List (Nat × Word)) (hb : Kept s0 b) (h : Kept s0 s) : Kept s0 (overlayWrites b s l).1 := by
  induction l generalizing s with
  | nil => exact h
  | cons a l ih =>
    unfold overlayWrites
    dsimp only
    split
    · rename_i e
      exact ih (kept_of_eq e (kept_overlayWrite _ _ _ h))
    · exact kept_pgError _ _ _ hb

theorem kept_overlayEntry {s0 s : State} (sec idx : Nat) (ws : List (Nat × Word)) (h : Kept s0 s) : Kept s0 (overlayEntry s sec idx ws) := by
  unfold overlayEntry
  split
  · rename_i e; exact kept_of_eq e (kept_overlayWrites _ h h)
  · rename_i e; exact kept_overlayReject _ _ _ (kept_of_eq e (kept_overlayWrites _ h h))

theorem kept_overlayFlasks {s0 s : State} (a : Nat) (h : Kept s0 s) : Kept s0 (overlayFlasks s a) := by
  unfold overlayFlasks
  try dsimp only
  repeat' first | with_reducible assumption | with_reducible apply kept_ite | with_reducible apply kept_ite1 | with_reducible apply kept_ite2 | (with_reducible refine kept_forAll (fun _ _ _ => ?_) ?_) | (with_reducible refine kept_foldl (fun _ _ _ => ?_) ?_) | (with_reducible refine kept_foldl1 (fun _ _ _ => ?_) ?_) | with_reducible apply kept_overlayEntry | fail_if_no_progress (with_reducible apply kept_mk) | (with_reducible refine kept_of_eq (by with_reducible assumption) ?_) | intro _ _ | split | dsimp only

theorem kept_overlayPoints {s0 s : State} (a : Nat) (n : Nat) (h : Kept s0 s) : Kept s0 (overlayPoints s a n) := by
  unfold overlayPoints
  try dsimp only
  repeat' first | with_reducible assumption | with_reducible apply kept_ite | with_reducible apply kept_ite1 | with_reducible apply kept_ite2 | (with_reducible refine kept_forAll (fun _ _ _ => ?_) ?_) | (with_reducible refine kept_foldl (fun _ _ _ => ?_) ?_) | (with_reducible refine kept_foldl1 (fun _ _ _ => ?_) ?_) | with_reducible apply kept_ptdAlloc | with_reducible apply kept_overlayReject | fail_if_no_progress (with_reducible apply kept_mk) | (with_reducible refine kept_of_eq (by with_reducible assumption) ?_) | intro _ _ | split | dsimp only

theorem kept_overlayMould {s0 s : State} (e : Nat) (h : Kept s0 s) : Kept s0 (overlayMould s e).1 := by
  unfold overlayMould
  try dsimp only
  repeat' first | with_reducible assumption | with_reducible apply kept_ite | with_reducible apply kept_ite1 | with_reducible apply kept_ite2 | (with_reducible refine kept_forAll (fun _ _ _ => ?_) ?_) | (with_reducible refine kept_foldl (fun _ _ _ => ?_) ?_) | (with_reducible refine kept_foldl1 (fun _ _ _ => ?_) ?_) | with_reducible apply kept_setMould | with_reducible apply kept_buildRegions | fail_if_no_progress (with_reducible apply kept_mk) | (with_reducible refine kept_of_eq (by with_reducible assumption) ?_) | intro _ _ | split | dsimp only

theorem kept_overlayMoulds {s0 s : State} (a : Nat) (n : Nat) (h : Kept s0 s) : Kept s0 (overlayMoulds s a n) := by
  unfold overlayMoulds
  try dsimp only
  repeat' first | with_reducible assumption | with_reducible apply kept_ite | with_reducible apply kept_ite1 | with_reducible apply kept_ite2 | (with_reducible refine kept_forAll (fun _ _ _ => ?_) ?_) | (with_reducible refine kept_foldl (fun _ _ _ => ?_) ?_) | (with_reducible refine kept_foldl1 (fun _ _ _ => ?_) ?_) | with_reducible apply kept_overlayMould | with_reducible apply kept_overlayReject | fail_if_no_progress (with_reducible apply kept_mk) | (with_reducible refine kept_of_eq (by with_reducible assumption) ?_) | intro _ _ | split | dsimp only

theorem kept_revertRw {s0 s : State} (key : Nat) (h : Kept s0 s) : Kept s0 (revertRw s key) := by
  unfold revertRw
  try dsimp only
  repeat' first | with_reducible assumption | with_reducible apply kept_ite | with_reducible apply kept_ite1 | with_reducible apply kept_ite2 | (with_reducible refine kept_forAll (fun _ _ _ => ?_) ?_) | (with_reducible refine kept_foldl (fun _ _ _ => ?_) ?_) | (with_reducible refine kept_foldl1 (fun _ _ _ => ?_) ?_) | with_reducible apply kept_wr | fail_if_no_progress (with_reducible apply kept_mk) | (with_reducible refine kept_of_eq (by with_reducible assumption) ?_) | intro _ _ | split | dsimp only

theorem kept_overlayRegs {s0 s : State} (a : Nat) (n : Nat) (h : Kept s0 s) : Kept s0 (overlayRegs s a n) := by
  unfold overlayRegs
  try dsimp only
  repeat' first | with_reducible assumption | with_reducible apply kept_ite | with_reducible apply kept_ite1 | with_reducible apply kept_ite2 | (with_reducible refine kept_forAll (fun _ _ _ => ?_) ?_) | (with_reducible refine kept_foldl (fun _ _ _ => ?_) ?_) | (with_reducible refine kept_foldl1 (fun _ _ _ => ?_) ?_) | with_reducible apply kept_overlayReject | with_reducible apply kept_overlayEntry | with_reducible apply kept_revertRw | fail_if_no_progress (with_reducible apply kept_mk) | (with_reducible refine kept_of_eq (by with_reducible assumption) ?_) | intro _ _ | split | dsimp only

theorem kept_overlayTasks {s0 s : State} (a : Nat) (h : Kept s0 s) : Kept s0 (overlayTasks s a) := by
  unfold overlayTasks
  try dsimp only
  repeat' first | with_reducible assumption | with_reducible apply kept_ite | with_reducible apply kept_ite1 | with_reducible apply kept_ite2 | (with_reducible refine kept_forAll (fun _ _ _ => ?_) ?_) | (with_reducible refine kept_foldl (fun _ _ _ => ?_) ?_) | (with_reducible refine kept_foldl1 (fun _ _ _ => ?_) ?_) | with_reducible apply kept_overlayEntry | fail_if_no_progress (with_reducible apply kept_mk) | (with_reducible refine kept_of_eq (by with_reducible assumption) ?_) | intro _ _ | split | dsimp only

theorem kept_overlay {s0 s : State} (a : Nat) (h : Kept s0 s) : Kept s0 (overlay s a) := by
  unfold overlay
  try dsimp only
  repeat' first | with_reducible assumption | with_reducible apply kept_ite | with_reducible apply kept_ite1 | with_reducible apply kept_ite2 | (with_reducible refine kept_forAll (fun _ _ _ => ?_) ?_) | (with_reducible refine kept_foldl (fun _ _ _ => ?_) ?_) | (with_reducible refine kept_foldl1 (fun _ _ _ => ?_) ?_) | with_reducible apply kept_overlayMoulds | with_reducible apply kept_overlayPoints | with_reducible apply kept_overlayFlasks | with_reducible apply kept_overlayTasks | with_reducible apply kept_overlayRegs | fail_if_no_progress (with_reducible apply kept_mk) | (with_reducible refine kept_of_eq (by with_reducible assumption) ?_) | intro _ _ | split | dsimp only

theorem kept_logDiscard {s0 s : State} (pid : BitVec 13) (h : Kept s0 s) : Kept s0 (logDiscard s pid) := ⟨h.pending, h.wf, h.fuses⟩

theorem kept_restoreForces {s0 s : State}  (h : Kept s0 s) : Kept s0 (restoreForces s) := by
  unfold restoreForces
  try dsimp only
  repeat' first | with_reducible assumption | with_reducible apply kept_ite | with_reducible apply kept_ite1 | with_reducible apply kept_ite2 | (with_reducible refine kept_forAll (fun _ _ _ => ?_) ?_) | (with_reducible refine kept_foldl (fun _ _ _ => ?_) ?_) | (with_reducible refine kept_foldl1 (fun _ _ _ => ?_) ?_) | with_reducible apply kept_saveForces | with_reducible apply kept_commitForce | with_reducible apply kept_setForce | with_reducible apply kept_logDiscard | fail_if_no_progress (with_reducible apply kept_mk) | (with_reducible refine kept_of_eq (by with_reducible assumption) ?_) | intro _ _ | split | dsimp only

theorem kept_restoreFlask {s0 s : State} (f : Nat) (h : Kept s0 s) : Kept s0 (restoreFlask s f) := by
  unfold restoreFlask
  try dsimp only
  repeat' first | with_reducible assumption | with_reducible apply kept_ite | with_reducible apply kept_ite1 | with_reducible apply kept_ite2 | (with_reducible refine kept_forAll (fun _ _ _ => ?_) ?_) | (with_reducible refine kept_foldl (fun _ _ _ => ?_) ?_) | (with_reducible refine kept_foldl1 (fun _ _ _ => ?_) ?_) | with_reducible apply kept_putBytes | with_reducible apply kept_setTask | fail_if_no_progress (with_reducible apply kept_mk) | (with_reducible refine kept_of_eq (by with_reducible assumption) ?_) | intro _ _ | split | dsimp only

theorem kept_restoreAll {s0 s : State}  (h : Kept s0 s) : Kept s0 (restoreAll s) := by
  unfold restoreAll
  try dsimp only
  repeat' first | with_reducible assumption | with_reducible apply kept_ite | with_reducible apply kept_ite1 | with_reducible apply kept_ite2 | (with_reducible refine kept_forAll (fun _ _ _ => ?_) ?_) | (with_reducible refine kept_foldl (fun _ _ _ => ?_) ?_) | (with_reducible refine kept_foldl1 (fun _ _ _ => ?_) ?_) | with_reducible apply kept_restoreFlask | with_reducible apply kept_restoreForces | with_reducible apply kept_restoreMeters | fail_if_no_progress (with_reducible apply kept_mk) | (with_reducible refine kept_of_eq (by with_reducible assumption) ?_) | intro _ _ | split | dsimp only

theorem kept_bootExit {s0 s : State} (row : Nat) (h : Kept s0 s) : Kept s0 (bootExit s row) := by
  unfold bootExit
  try dsimp only
  repeat' first | with_reducible assumption | with_reducible apply kept_ite | with_reducible apply kept_ite1 | with_reducible apply kept_ite2 | (with_reducible refine kept_forAll (fun _ _ _ => ?_) ?_) | (with_reducible refine kept_foldl (fun _ _ _ => ?_) ?_) | (with_reducible refine kept_foldl1 (fun _ _ _ => ?_) ?_) | with_reducible apply kept_advanceTo | with_reducible apply kept_setFld | with_reducible apply kept_setRole | with_reducible apply kept_startResolving | with_reducible apply kept_changeMode | with_reducible apply kept_setPhase | with_reducible apply kept_refreshAll | with_reducible apply kept_enableFn | fail_if_no_progress (with_reducible apply kept_mk) | (with_reducible refine kept_of_eq (by with_reducible assumption) ?_) | intro _ _ | split | dsimp only

theorem kept_bootFinish {s0 s : State}  (h : Kept s0 s) : Kept s0 (bootFinish s) := by
  unfold bootFinish
  try dsimp only
  repeat' first | with_reducible assumption | with_reducible apply kept_ite | with_reducible apply kept_ite1 | with_reducible apply kept_ite2 | (with_reducible refine kept_forAll (fun _ _ _ => ?_) ?_) | (with_reducible refine kept_foldl (fun _ _ _ => ?_) ?_) | (with_reducible refine kept_foldl1 (fun _ _ _ => ?_) ?_) | with_reducible apply kept_choosePattern | with_reducible apply kept_setPhase | with_reducible apply kept_lockPlls | with_reducible apply kept_bootExit | with_reducible apply kept_restoreAll | with_reducible apply kept_overlay | fail_if_no_progress (with_reducible apply kept_mk) | (with_reducible refine kept_of_eq (by with_reducible assumption) ?_) | intro _ _ | split | dsimp only

theorem kept_railWait {s0 s : State}  (h : Kept s0 s) : Kept s0 (railWait s) := by
  unfold railWait
  try dsimp only
  repeat' first | with_reducible assumption | with_reducible apply kept_ite | with_reducible apply kept_ite1 | with_reducible apply kept_ite2 | (with_reducible refine kept_forAll (fun _ _ _ => ?_) ?_) | (with_reducible refine kept_foldl (fun _ _ _ => ?_) ?_) | (with_reducible refine kept_foldl1 (fun _ _ _ => ?_) ?_) | with_reducible apply kept_setFld | fail_if_no_progress (with_reducible apply kept_mk) | (with_reducible refine kept_of_eq (by with_reducible assumption) ?_) | intro _ _ | split | dsimp only

theorem kept_bootFirmware {s0 s : State}  (h : Kept s0 s) : Kept s0 (bootFirmware s) := by
  unfold bootFirmware
  try dsimp only
  repeat' first | with_reducible assumption | with_reducible apply kept_ite | with_reducible apply kept_ite1 | with_reducible apply kept_ite2 | (with_reducible refine kept_forAll (fun _ _ _ => ?_) ?_) | (with_reducible refine kept_foldl (fun _ _ _ => ?_) ?_) | (with_reducible refine kept_foldl1 (fun _ _ _ => ?_) ?_) | with_reducible apply kept_bootExit | with_reducible apply kept_setPhase | with_reducible apply kept_runFirmware | with_reducible apply kept_bootFinish | with_reducible apply kept_setFld | with_reducible apply kept_railWait | fail_if_no_progress (with_reducible apply kept_mk) | (with_reducible refine kept_of_eq (by with_reducible assumption) ?_) | intro _ _ | split | dsimp only

theorem kept_bootRom {s0 s : State}  (h : Kept s0 s) : Kept s0 (bootRom s) := by
  unfold bootRom
  try dsimp only
  repeat' first | with_reducible assumption | with_reducible apply kept_ite | with_reducible apply kept_ite1 | with_reducible apply kept_ite2 | (with_reducible refine kept_forAll (fun _ _ _ => ?_) ?_) | (with_reducible refine kept_foldl (fun _ _ _ => ?_) ?_) | (with_reducible refine kept_foldl1 (fun _ _ _ => ?_) ?_) | with_reducible apply kept_bootStart | with_reducible apply kept_bootFirmware | with_reducible apply kept_trainDram | with_reducible apply kept_setFld | with_reducible apply kept_railWait | fail_if_no_progress (with_reducible apply kept_mk) | (with_reducible refine kept_of_eq (by with_reducible assumption) ?_) | intro _ _ | split | dsimp only

theorem kept_resetModule {s0 s : State} (causes : Nat) (h : Kept s0 s) : Kept s0 (resetModule s causes) := by
  unfold resetModule
  try dsimp only
  repeat' first | with_reducible assumption | with_reducible apply kept_ite | with_reducible apply kept_ite1 | with_reducible apply kept_ite2 | (with_reducible refine kept_forAll (fun _ _ _ => ?_) ?_) | (with_reducible refine kept_foldl (fun _ _ _ => ?_) ?_) | (with_reducible refine kept_foldl1 (fun _ _ _ => ?_) ?_) | with_reducible apply kept_bootRom | with_reducible apply kept_moduleReset | fail_if_no_progress (with_reducible apply kept_mk) | (with_reducible refine kept_of_eq (by with_reducible assumption) ?_) | intro _ _ | split | dsimp only

theorem kept_settleReset {s0 s : State}  (h : Kept s0 s) : Kept s0 (settleReset s) := by
  unfold settleReset
  try dsimp only
  repeat' first | with_reducible assumption | with_reducible apply kept_ite | with_reducible apply kept_ite1 | with_reducible apply kept_ite2 | (with_reducible refine kept_forAll (fun _ _ _ => ?_) ?_) | (with_reducible refine kept_foldl (fun _ _ _ => ?_) ?_) | (with_reducible refine kept_foldl1 (fun _ _ _ => ?_) ?_) | with_reducible apply kept_resetModule | fail_if_no_progress (with_reducible apply kept_mk) | (with_reducible refine kept_of_eq (by with_reducible assumption) ?_) | intro _ _ | split | dsimp only

theorem kept_supplyGood {s0 s : State} (rail : Nat) (ms : Nat) (h : Kept s0 s) : Kept s0 (supplyGood s rail ms) := by
  unfold supplyGood
  try dsimp only
  repeat' first | with_reducible assumption | with_reducible apply kept_ite | with_reducible apply kept_ite1 | with_reducible apply kept_ite2 | (with_reducible refine kept_forAll (fun _ _ _ => ?_) ?_) | (with_reducible refine kept_foldl (fun _ _ _ => ?_) ?_) | (with_reducible refine kept_foldl1 (fun _ _ _ => ?_) ?_) | with_reducible apply kept_setBoot | with_reducible apply kept_bootRom | with_reducible apply kept_advanceTo | fail_if_no_progress (with_reducible apply kept_mk) | (with_reducible refine kept_of_eq (by with_reducible assumption) ?_) | intro _ _ | split | dsimp only

theorem kept_supplyFail {s0 s : State} (vbkp : Bool) (h : Kept s0 s) : Kept s0 (supplyFail s vbkp) := by
  unfold supplyFail
  try dsimp only
  repeat' first | with_reducible assumption | with_reducible apply kept_ite | with_reducible apply kept_ite1 | with_reducible apply kept_ite2 | (with_reducible refine kept_forAll (fun _ _ _ => ?_) ?_) | (with_reducible refine kept_foldl (fun _ _ _ => ?_) ?_) | (with_reducible refine kept_foldl1 (fun _ _ _ => ?_) ?_) | with_reducible apply kept_setFld | with_reducible apply kept_moduleReset | with_reducible apply kept_supplySwitch | with_reducible apply kept_backupReset | fail_if_no_progress (with_reducible apply kept_mk) | (with_reducible refine kept_of_eq (by with_reducible assumption) ?_) | intro _ _ | split | dsimp only

theorem kept_powerOn {s0 s : State} (x : BootEnv) (h : Kept s0 s) : Kept s0 (powerOn s x) := by
  unfold powerOn
  try dsimp only
  repeat' first | with_reducible assumption | with_reducible apply kept_ite | with_reducible apply kept_ite1 | with_reducible apply kept_ite2 | (with_reducible refine kept_forAll (fun _ _ _ => ?_) ?_) | (with_reducible refine kept_foldl (fun _ _ _ => ?_) ?_) | (with_reducible refine kept_foldl1 (fun _ _ _ => ?_) ?_) | with_reducible apply kept_moduleReset | with_reducible apply kept_bootRom | with_reducible apply kept_supplySwitch | fail_if_no_progress (with_reducible apply kept_mk) | (with_reducible refine kept_of_eq (by with_reducible assumption) ?_) | intro _ _ | split | dsimp only

theorem kept_registerWrite {s0 s : State} (q : Requester) (page : Nat) (off : Nat) (v : Word) (h : Kept s0 s) : Kept s0 (registerWrite s q page off v) := by
  unfold registerWrite
  try dsimp only
  repeat' first | with_reducible assumption | with_reducible apply kept_ite | with_reducible apply kept_ite1 | with_reducible apply kept_ite2 | (with_reducible refine kept_forAll (fun _ _ _ => ?_) ?_) | (with_reducible refine kept_foldl (fun _ _ _ => ?_) ?_) | (with_reducible refine kept_foldl1 (fun _ _ _ => ?_) ?_) | with_reducible apply kept_answer | with_reducible apply kept_settleReset | with_reducible apply kept_writeCommand | fail_if_no_progress (with_reducible apply kept_mk) | (with_reducible refine kept_of_eq (by with_reducible assumption) ?_) | intro _ _ | split | dsimp only

theorem kept_registerRead {s0 s : State} (q : Requester) (page : Nat) (off : Nat) (h : Kept s0 s) : Kept s0 (registerRead s q page off) := by
  unfold registerRead
  try dsimp only
  repeat' first | with_reducible assumption | with_reducible apply kept_ite | with_reducible apply kept_ite1 | with_reducible apply kept_ite2 | (with_reducible refine kept_forAll (fun _ _ _ => ?_) ?_) | (with_reducible refine kept_foldl (fun _ _ _ => ?_) ?_) | (with_reducible refine kept_foldl1 (fun _ _ _ => ?_) ?_) | with_reducible apply kept_answer | with_reducible apply kept_readCommand | fail_if_no_progress (with_reducible apply kept_mk) | (with_reducible refine kept_of_eq (by with_reducible assumption) ?_) | intro _ _ | split | dsimp only

theorem kept_memoryAccess {s0 s : State} (a : Nat) (n : Nat) (data : Option (List Byte)) (h : Kept s0 s) : Kept s0 (memoryAccess s a n data) := by
  unfold memoryAccess
  try dsimp only
  repeat' first | with_reducible assumption | with_reducible apply kept_ite | with_reducible apply kept_ite1 | with_reducible apply kept_ite2 | (with_reducible refine kept_forAll (fun _ _ _ => ?_) ?_) | (with_reducible refine kept_foldl (fun _ _ _ => ?_) ?_) | (with_reducible refine kept_foldl1 (fun _ _ _ => ?_) ?_) | with_reducible apply kept_answer | with_reducible apply kept_putBytes | with_reducible apply kept_readBytes | fail_if_no_progress (with_reducible apply kept_mk) | (with_reducible refine kept_of_eq (by with_reducible assumption) ?_) | intro _ _ | split | dsimp only

theorem kept_addressAccess {s0 s : State} (q : Requester) (a : Nat) (len : Nat) (data : Option (List Byte)) (h : Kept s0 s) : Kept s0 (addressAccess s q a len data) := by
  unfold addressAccess
  try dsimp only
  repeat' first | with_reducible assumption | with_reducible apply kept_ite | with_reducible apply kept_ite1 | with_reducible apply kept_ite2 | (with_reducible refine kept_forAll (fun _ _ _ => ?_) ?_) | (with_reducible refine kept_foldl (fun _ _ _ => ?_) ?_) | (with_reducible refine kept_foldl1 (fun _ _ _ => ?_) ?_) | with_reducible apply kept_served | with_reducible apply kept_answer | with_reducible apply kept_memoryAccess | fail_if_no_progress (with_reducible apply kept_mk) | (with_reducible refine kept_of_eq (by with_reducible assumption) ?_) | intro _ _ | split | dsimp only

theorem kept_misalignedAccess {s0 s : State} (q : Requester) (a : Nat) (len : Nat) (h : Kept s0 s) : Kept s0 (misalignedAccess s q a len) := by
  unfold misalignedAccess
  try dsimp only
  repeat' first | with_reducible assumption | with_reducible apply kept_ite | with_reducible apply kept_ite1 | with_reducible apply kept_ite2 | (with_reducible refine kept_forAll (fun _ _ _ => ?_) ?_) | (with_reducible refine kept_foldl (fun _ _ _ => ?_) ?_) | (with_reducible refine kept_foldl1 (fun _ _ _ => ?_) ?_) | with_reducible apply kept_answer | fail_if_no_progress (with_reducible apply kept_mk) | (with_reducible refine kept_of_eq (by with_reducible assumption) ?_) | intro _ _ | split | dsimp only

theorem kept_selectedWrite {s0 s : State} (q : Requester) (page : Nat) (selOff : Nat) (slot : Nat) (off : Nat) (v : Word) (h : Kept s0 s) : Kept s0 (selectedWrite s q page selOff slot off v) := by
  unfold selectedWrite
  try dsimp only
  repeat' first | with_reducible assumption | with_reducible apply kept_ite | with_reducible apply kept_ite1 | with_reducible apply kept_ite2 | (with_reducible refine kept_forAll (fun _ _ _ => ?_) ?_) | (with_reducible refine kept_foldl (fun _ _ _ => ?_) ?_) | (with_reducible refine kept_foldl1 (fun _ _ _ => ?_) ?_) | with_reducible apply kept_gated | with_reducible apply kept_endCommand | with_reducible apply kept_regWrite | fail_if_no_progress (with_reducible apply kept_mk) | (with_reducible refine kept_of_eq (by with_reducible assumption) ?_) | intro _ _ | split | dsimp only

theorem kept_enWrite {s0 s : State} (q : Requester) (fn : SwitchFn) (on : Bool) (h : Kept s0 s) : Kept s0 (enWrite s q fn on) := by
  unfold enWrite
  try dsimp only
  repeat' first | with_reducible assumption | with_reducible apply kept_ite | with_reducible apply kept_ite1 | with_reducible apply kept_ite2 | (with_reducible refine kept_forAll (fun _ _ _ => ?_) ?_) | (with_reducible refine kept_foldl (fun _ _ _ => ?_) ?_) | (with_reducible refine kept_foldl1 (fun _ _ _ => ?_) ?_) | with_reducible apply kept_selectedWrite | with_reducible apply kept_writeCommand | fail_if_no_progress (with_reducible apply kept_mk) | (with_reducible refine kept_of_eq (by with_reducible assumption) ?_) | intro _ _ | split | dsimp only

theorem kept_tickBoundary {s0 s : State}  (h : Kept s0 s) : Kept s0 (tickBoundary s) := by
  unfold tickBoundary
  try dsimp only
  repeat' first | with_reducible assumption | with_reducible apply kept_ite | with_reducible apply kept_ite1 | with_reducible apply kept_ite2 | (with_reducible refine kept_forAll (fun _ _ _ => ?_) ?_) | (with_reducible refine kept_foldl (fun _ _ _ => ?_) ?_) | (with_reducible refine kept_foldl1 (fun _ _ _ => ?_) ?_) | with_reducible apply kept_settleBoundary | with_reducible apply kept_advanceTo | with_reducible apply kept_loopTick | with_reducible apply kept_meterTick | with_reducible apply kept_stationTick | with_reducible apply kept_measureLoops | with_reducible apply kept_measureLoad | with_reducible apply kept_liteTriggers | with_reducible apply kept_absorbSlew | with_reducible apply kept_serveTxRings | fail_if_no_progress (with_reducible apply kept_mk) | (with_reducible refine kept_of_eq (by with_reducible assumption) ?_) | intro _ _ | split | dsimp only

theorem kept_gridPoint {s0 s : State}  (h : Kept s0 s) : Kept s0 (gridPoint s) := by
  unfold gridPoint
  try dsimp only
  repeat' first | with_reducible assumption | with_reducible apply kept_ite | with_reducible apply kept_ite1 | with_reducible apply kept_ite2 | (with_reducible refine kept_forAll (fun _ _ _ => ?_) ?_) | (with_reducible refine kept_foldl (fun _ _ _ => ?_) ?_) | (with_reducible refine kept_foldl1 (fun _ _ _ => ?_) ?_) | with_reducible apply kept_advanceTo | with_reducible apply kept_liteTriggers | with_reducible apply kept_scanGridPoint | with_reducible apply kept_publishRings | fail_if_no_progress (with_reducible apply kept_mk) | (with_reducible refine kept_of_eq (by with_reducible assumption) ?_) | intro _ _ | split | dsimp only

theorem kept_intervalExpiry {s0 s : State} (t : Nat) (h : Kept s0 s) : Kept s0 (intervalExpiry s t) := by
  unfold intervalExpiry
  try dsimp only
  repeat' first | with_reducible assumption | with_reducible apply kept_ite | with_reducible apply kept_ite1 | with_reducible apply kept_ite2 | (with_reducible refine kept_forAll (fun _ _ _ => ?_) ?_) | (with_reducible refine kept_foldl (fun _ _ _ => ?_) ?_) | (with_reducible refine kept_foldl1 (fun _ _ _ => ?_) ?_) | with_reducible apply kept_advanceTo | with_reducible apply kept_takeRelease | fail_if_no_progress (with_reducible apply kept_mk) | (with_reducible refine kept_of_eq (by with_reducible assumption) ?_) | intro _ _ | split | dsimp only

theorem kept_errorRelease {s0 s : State} (t : Nat) (h : Kept s0 s) : Kept s0 (errorRelease s t) := by
  unfold errorRelease
  try dsimp only
  repeat' first | with_reducible assumption | with_reducible apply kept_ite | with_reducible apply kept_ite1 | with_reducible apply kept_ite2 | (with_reducible refine kept_forAll (fun _ _ _ => ?_) ?_) | (with_reducible refine kept_foldl (fun _ _ _ => ?_) ?_) | (with_reducible refine kept_foldl1 (fun _ _ _ => ?_) ?_) | with_reducible apply kept_takeRelease | fail_if_no_progress (with_reducible apply kept_mk) | (with_reducible refine kept_of_eq (by with_reducible assumption) ?_) | intro _ _ | split | dsimp only

theorem kept_pfwAsserts {s0 s : State}  (h : Kept s0 s) : Kept s0 (pfwAsserts s) := by
  unfold pfwAsserts
  try dsimp only
  repeat' first | with_reducible assumption | with_reducible apply kept_ite | with_reducible apply kept_ite1 | with_reducible apply kept_ite2 | (with_reducible refine kept_forAll (fun _ _ _ => ?_) ?_) | (with_reducible refine kept_foldl (fun _ _ _ => ?_) ?_) | (with_reducible refine kept_foldl1 (fun _ _ _ => ?_) ?_) | with_reducible apply kept_updPowerFail | with_reducible apply kept_powerFail | fail_if_no_progress (with_reducible apply kept_mk) | (with_reducible refine kept_of_eq (by with_reducible assumption) ?_) | intro _ _ | split | dsimp only

theorem kept_saveCompletes {s0 s : State} (drainUs : Nat) (h : Kept s0 s) : Kept s0 (saveCompletes s drainUs) := by
  unfold saveCompletes
  try dsimp only
  repeat' first | with_reducible assumption | with_reducible apply kept_ite | with_reducible apply kept_ite1 | with_reducible apply kept_ite2 | (with_reducible refine kept_forAll (fun _ _ _ => ?_) ?_) | (with_reducible refine kept_foldl (fun _ _ _ => ?_) ?_) | (with_reducible refine kept_foldl1 (fun _ _ _ => ?_) ?_) | with_reducible apply kept_saveSnapshot | with_reducible apply kept_scanSaveDone | fail_if_no_progress (with_reducible apply kept_mk) | (with_reducible refine kept_of_eq (by with_reducible assumption) ?_) | intro _ _ | split | dsimp only

theorem kept_pfwReset {s0 s : State}  (h : Kept s0 s) : Kept s0 (pfwReset s) := by
  unfold pfwReset
  try dsimp only
  repeat' first | with_reducible assumption | with_reducible apply kept_ite | with_reducible apply kept_ite1 | with_reducible apply kept_ite2 | (with_reducible refine kept_forAll (fun _ _ _ => ?_) ?_) | (with_reducible refine kept_foldl (fun _ _ _ => ?_) ?_) | (with_reducible refine kept_foldl1 (fun _ _ _ => ?_) ?_) | with_reducible apply kept_resetModule | with_reducible apply kept_saveRecord | fail_if_no_progress (with_reducible apply kept_mk) | (with_reducible refine kept_of_eq (by with_reducible assumption) ?_) | intro _ _ | split | dsimp only

theorem kept_sampleCommand {s0 s : State} (x : MeterSample) (h : Kept s0 s) : Kept s0 (sampleCommand s x) := by
  unfold sampleCommand
  try dsimp only
  repeat' first | with_reducible assumption | with_reducible apply kept_ite | with_reducible apply kept_ite1 | with_reducible apply kept_ite2 | (with_reducible refine kept_forAll (fun _ _ _ => ?_) ?_) | (with_reducible refine kept_foldl (fun _ _ _ => ?_) ?_) | (with_reducible refine kept_foldl1 (fun _ _ _ => ?_) ?_) | with_reducible apply kept_meteringSample | with_reducible apply kept_updPowerFail | fail_if_no_progress (with_reducible apply kept_mk) | (with_reducible refine kept_of_eq (by with_reducible assumption) ?_) | intro _ _ | split | dsimp only

theorem kept_nrapDeny {s0 s : State} (q : Requester) (page : Nat) (c : Code) (h : Kept s0 s) : Kept s0 (nrapDeny s q page c) := by
  unfold nrapDeny
  try dsimp only
  repeat' first | with_reducible assumption | with_reducible apply kept_ite | with_reducible apply kept_ite1 | with_reducible apply kept_ite2 | (with_reducible refine kept_forAll (fun _ _ _ => ?_) ?_) | (with_reducible refine kept_foldl (fun _ _ _ => ?_) ?_) | (with_reducible refine kept_foldl1 (fun _ _ _ => ?_) ?_) | with_reducible apply kept_deny | fail_if_no_progress (with_reducible apply kept_mk) | (with_reducible refine kept_of_eq (by with_reducible assumption) ?_) | intro _ _ | split | dsimp only

theorem kept_nrapRd {s0 s : State} (q : Requester) (a : List Byte) (h : Kept s0 s) : Kept s0 (nrapRd s q a).s := by
  unfold nrapRd
  try dsimp only
  repeat' first | with_reducible assumption | with_reducible apply kept_ite | with_reducible apply kept_ite1 | with_reducible apply kept_ite2 | with_reducible apply kept_ite_s | (with_reducible refine kept_forAll (fun _ _ _ => ?_) ?_) | (with_reducible refine kept_foldl (fun _ _ _ => ?_) ?_) | (with_reducible refine kept_foldl1 (fun _ _ _ => ?_) ?_) | with_reducible apply kept_nrapDeny | with_reducible apply kept_regRead | fail_if_no_progress (with_reducible apply kept_mk) | (with_reducible refine kept_of_eq (by with_reducible assumption) ?_) | intro _ _ | split | dsimp only

theorem kept_nrapWords {s0 s : State} (q : Requester) (page off : Nat) (check : State → Nat → Word → Code) (i : Nat) (l : List Word) (h : Kept s0 s) :
    Kept s0 (nrapWords q page off check i l s).1 := by
  induction l generalizing s i with
  | nil => exact h
  | cons w l ih =>
    unfold nrapWords
    dsimp only
    split
    · split
      · rename_i e
        have := kept_of_eq e (kept_regWrite _ _ _ _ h)
        split
        · exact this
        · exact ih _ this
      · rename_i e
        exact kept_pgError _ _ _ (kept_of_eq e (kept_regWrite _ _ _ _ h))
    · exact kept_nrapDeny _ _ _ h

theorem kept_nrapWr {s0 s : State} (q : Requester) (a : List Byte) (h : Kept s0 s) : Kept s0 (nrapWr s q a).s := by
  unfold nrapWr
  try dsimp only
  repeat' first | with_reducible assumption | with_reducible apply kept_ite | with_reducible apply kept_ite1 | with_reducible apply kept_ite2 | with_reducible apply kept_ite_s | (with_reducible refine kept_forAll (fun _ _ _ => ?_) ?_) | (with_reducible refine kept_foldl (fun _ _ _ => ?_) ?_) | (with_reducible refine kept_foldl1 (fun _ _ _ => ?_) ?_) | with_reducible apply kept_nrapWords | fail_if_no_progress (with_reducible apply kept_mk) | (with_reducible refine kept_of_eq (by with_reducible assumption) ?_) | intro _ _ | split | dsimp only

theorem kept_nrapWrm {s0 s : State} (q : Requester) (a : List Byte) (h : Kept s0 s) : Kept s0 (nrapWrm s q a).s := by
  unfold nrapWrm
  try dsimp only
  repeat' first | with_reducible assumption | with_reducible apply kept_ite | with_reducible apply kept_ite1 | with_reducible apply kept_ite2 | with_reducible apply kept_ite_s | (with_reducible refine kept_forAll (fun _ _ _ => ?_) ?_) | (with_reducible refine kept_foldl (fun _ _ _ => ?_) ?_) | (with_reducible refine kept_foldl1 (fun _ _ _ => ?_) ?_) | with_reducible apply kept_regRead | with_reducible apply kept_regWrite | with_reducible apply kept_pgError | with_reducible apply kept_nrapDeny | fail_if_no_progress (with_reducible apply kept_mk) | (with_reducible refine kept_of_eq (by with_reducible assumption) ?_) | intro _ _ | split | dsimp only

theorem kept_pointEntry {s0 s : State} (f : Nat) (pid : Nat) (h : Kept s0 s) : Kept s0 (pointEntry s f pid).1 := by
  unfold pointEntry
  try dsimp only
  repeat' first | with_reducible assumption | with_reducible apply kept_ite | with_reducible apply kept_ite1 | with_reducible apply kept_ite2 | (with_reducible refine kept_forAll (fun _ _ _ => ?_) ?_) | (with_reducible refine kept_foldl (fun _ _ _ => ?_) ?_) | (with_reducible refine kept_foldl1 (fun _ _ _ => ?_) ?_) | with_reducible apply kept_tryRead | fail_if_no_progress (with_reducible apply kept_mk) | (with_reducible refine kept_of_eq (by with_reducible assumption) ?_) | intro _ _ | split | dsimp only

theorem kept_pointEntries {s0 s : State} (f : Nat) (pids : List Nat) (h : Kept s0 s) : Kept s0 (pointEntries s f pids).1 := by
  unfold pointEntries
  try dsimp only
  repeat' first | with_reducible assumption | with_reducible apply kept_ite | with_reducible apply kept_ite1 | with_reducible apply kept_ite2 | (with_reducible refine kept_forAll (fun _ _ _ => ?_) ?_) | (with_reducible refine kept_foldl (fun _ _ _ => ?_) ?_) | (with_reducible refine kept_foldl1 (fun _ _ _ => ?_) ?_) | with_reducible apply kept_pointEntry | fail_if_no_progress (with_reducible apply kept_mk) | (with_reducible refine kept_of_eq (by with_reducible assumption) ?_) | intro _ _ | split | dsimp only

theorem kept_nrapPrd {s0 s : State} (q : Requester) (a : List Byte) (h : Kept s0 s) : Kept s0 (nrapPrd s q a).s := by
  unfold nrapPrd
  try dsimp only
  repeat' first | with_reducible assumption | with_reducible apply kept_ite | with_reducible apply kept_ite1 | with_reducible apply kept_ite2 | with_reducible apply kept_ite_s | (with_reducible refine kept_forAll (fun _ _ _ => ?_) ?_) | (with_reducible refine kept_foldl (fun _ _ _ => ?_) ?_) | (with_reducible refine kept_foldl1 (fun _ _ _ => ?_) ?_) | with_reducible apply kept_pointEntries | fail_if_no_progress (with_reducible apply kept_mk) | (with_reducible refine kept_of_eq (by with_reducible assumption) ?_) | intro _ _ | split | dsimp only

theorem kept_nrapPut {s0 s : State} (q : Requester) (src : BitVec 16) (a : List Byte) (i : Nat) (h : Kept s0 s) : Kept s0 (nrapPut s q src a i).1 := by
  unfold nrapPut
  try dsimp only
  repeat' first | with_reducible assumption | with_reducible apply kept_ite | with_reducible apply kept_ite1 | with_reducible apply kept_ite2 | (with_reducible refine kept_forAll (fun _ _ _ => ?_) ?_) | (with_reducible refine kept_foldl (fun _ _ _ => ?_) ?_) | (with_reducible refine kept_foldl1 (fun _ _ _ => ?_) ?_) | with_reducible apply kept_tryWrite | fail_if_no_progress (with_reducible apply kept_mk) | (with_reducible refine kept_of_eq (by with_reducible assumption) ?_) | intro _ _ | split | dsimp only

theorem kept_nrapPwr {s0 s : State} (q : Requester) (src : BitVec 16) (a : List Byte) (h : Kept s0 s) : Kept s0 (nrapPwr s q src a).s := by
  unfold nrapPwr
  try dsimp only
  repeat' first | with_reducible assumption | with_reducible apply kept_ite | with_reducible apply kept_ite1 | with_reducible apply kept_ite2 | with_reducible apply kept_ite_s | (with_reducible refine kept_forAll (fun _ _ _ => ?_) ?_) | (with_reducible refine kept_foldl (fun _ _ _ => ?_) ?_) | (with_reducible refine kept_foldl1 (fun _ _ _ => ?_) ?_) | with_reducible apply kept_nrapPut | fail_if_no_progress (with_reducible apply kept_mk) | (with_reducible refine kept_of_eq (by with_reducible assumption) ?_) | intro _ _ | split | dsimp only

theorem kept_nrapForce {s0 s : State} (q : Requester) (a : List Byte) (h : Kept s0 s) : Kept s0 (nrapForce s q a).s := by
  unfold nrapForce
  try dsimp only
  repeat' first | with_reducible assumption | with_reducible apply kept_ite | with_reducible apply kept_ite1 | with_reducible apply kept_ite2 | with_reducible apply kept_ite_s | (with_reducible refine kept_forAll (fun _ _ _ => ?_) ?_) | (with_reducible refine kept_foldl (fun _ _ _ => ?_) ?_) | (with_reducible refine kept_foldl1 (fun _ _ _ => ?_) ?_) | with_reducible apply kept_forceLookup | with_reducible apply kept_forceReadIndex | with_reducible apply kept_forceSet | with_reducible apply kept_forceClear | with_reducible apply kept_forceClearFlask | fail_if_no_progress (with_reducible apply kept_mk) | (with_reducible refine kept_of_eq (by with_reducible assumption) ?_) | intro _ _ | split | dsimp only

theorem kept_nrapXch {s0 s : State} (q : Requester) (a : List Byte) (h : Kept s0 s) : Kept s0 (nrapXch s q a).s := by
  unfold nrapXch
  try dsimp only
  repeat' first | with_reducible assumption | with_reducible apply kept_ite | with_reducible apply kept_ite1 | with_reducible apply kept_ite2 | with_reducible apply kept_ite_s | (with_reducible refine kept_forAll (fun _ _ _ => ?_) ?_) | (with_reducible refine kept_foldl (fun _ _ _ => ?_) ?_) | (with_reducible refine kept_foldl1 (fun _ _ _ => ?_) ?_) | with_reducible apply kept_xchOp | fail_if_no_progress (with_reducible apply kept_mk) | (with_reducible refine kept_of_eq (by with_reducible assumption) ?_) | intro _ _ | split | dsimp only

theorem kept_nrapStgWr {s0 s : State} (q : Requester) (a : List Byte) (h : Kept s0 s) : Kept s0 (nrapStgWr s q a).s := by
  unfold nrapStgWr
  try dsimp only
  repeat' first | with_reducible assumption | with_reducible apply kept_ite | with_reducible apply kept_ite1 | with_reducible apply kept_ite2 | with_reducible apply kept_ite_s | (with_reducible refine kept_forAll (fun _ _ _ => ?_) ?_) | (with_reducible refine kept_foldl (fun _ _ _ => ?_) ?_) | (with_reducible refine kept_foldl1 (fun _ _ _ => ?_) ?_) | with_reducible apply kept_putBytes | fail_if_no_progress (with_reducible apply kept_mk) | (with_reducible refine kept_of_eq (by with_reducible assumption) ?_) | intro _ _ | split | dsimp only

theorem kept_nrapStgRd {s0 s : State} (q : Requester) (a : List Byte) (h : Kept s0 s) : Kept s0 (nrapStgRd s q a).s := by
  unfold nrapStgRd
  try dsimp only
  repeat' first | with_reducible assumption | with_reducible apply kept_ite | with_reducible apply kept_ite1 | with_reducible apply kept_ite2 | with_reducible apply kept_ite_s | (with_reducible refine kept_forAll (fun _ _ _ => ?_) ?_) | (with_reducible refine kept_foldl (fun _ _ _ => ?_) ?_) | (with_reducible refine kept_foldl1 (fun _ _ _ => ?_) ?_) | fail_if_no_progress (with_reducible apply kept_mk) | (with_reducible refine kept_of_eq (by with_reducible assumption) ?_) | intro _ _ | split | dsimp only

theorem kept_nrapLoop {s0 s : State} (q : Requester) (a : List Byte) (h : Kept s0 s) : Kept s0 (nrapLoop s q a).s := by
  unfold nrapLoop
  try dsimp only
  repeat' first | with_reducible assumption | with_reducible apply kept_ite | with_reducible apply kept_ite1 | with_reducible apply kept_ite2 | with_reducible apply kept_ite_s | (with_reducible refine kept_forAll (fun _ _ _ => ?_) ?_) | (with_reducible refine kept_foldl (fun _ _ _ => ?_) ?_) | (with_reducible refine kept_foldl1 (fun _ _ _ => ?_) ?_) | with_reducible apply kept_wr | with_reducible apply kept_regWrite | with_reducible apply kept_nrapWords | with_reducible apply kept_regRead | fail_if_no_progress (with_reducible apply kept_mk) | (with_reducible refine kept_of_eq (by with_reducible assumption) ?_) | intro _ _ | split | dsimp only

theorem kept_nrapSub {s0 s : State} (r : NrapReq) (a : List Byte) (h : Kept s0 s) : Kept s0 (nrapSub s r a).s := by
  unfold nrapSub
  try dsimp only
  repeat' first | with_reducible assumption | with_reducible apply kept_ite | with_reducible apply kept_ite1 | with_reducible apply kept_ite2 | with_reducible apply kept_ite_s | (with_reducible refine kept_forAll (fun _ _ _ => ?_) ?_) | (with_reducible refine kept_foldl (fun _ _ _ => ?_) ?_) | (with_reducible refine kept_foldl1 (fun _ _ _ => ?_) ?_) | with_reducible apply kept_endSubs | fail_if_no_progress (with_reducible apply kept_mk) | (with_reducible refine kept_of_eq (by with_reducible assumption) ?_) | intro _ _ | split | dsimp only

theorem kept_nrapOp {s0 s : State} (r : NrapReq) (o : NrapOp) (h : Kept s0 s) : Kept s0 (nrapOp s r o).s := by
  unfold nrapOp
  try dsimp only
  repeat' first | with_reducible assumption | with_reducible apply kept_ite | with_reducible apply kept_ite1 | with_reducible apply kept_ite2 | with_reducible apply kept_ite_s | (with_reducible refine kept_forAll (fun _ _ _ => ?_) ?_) | (with_reducible refine kept_foldl (fun _ _ _ => ?_) ?_) | (with_reducible refine kept_foldl1 (fun _ _ _ => ?_) ?_) | with_reducible apply kept_nrapRd | with_reducible apply kept_nrapWr | with_reducible apply kept_nrapWrm | with_reducible apply kept_nrapPrd | with_reducible apply kept_nrapPwr | with_reducible apply kept_nrapForce | with_reducible apply kept_nrapXch | with_reducible apply kept_nrapStgWr | with_reducible apply kept_nrapStgRd | with_reducible apply kept_nrapLoop | with_reducible apply kept_nrapSub | fail_if_no_progress (with_reducible apply kept_mk) | (with_reducible refine kept_of_eq (by with_reducible assumption) ?_) | intro _ _ | split | dsimp only

theorem kept_nrapRun {s0 s : State} (r : NrapReq) (room : Nat) (l : List NrapOp) (halt : Code) (out : List Byte) (h : Kept s0 s) :
    Kept s0 (nrapRun r room l halt s out).1 := by
  induction l generalizing s halt out with
  | nil => exact h
  | cons o l ih =>
    unfold nrapRun
    dsimp only
    split
    · exact ih _ _ h
    · split
      · exact ih _ _ h
      · split
        · exact kept_nrapOp _ _ h
        · exact ih _ _ (kept_nrapOp _ _ h)

theorem kept_nrapRespond {s0 s : State} (r : NrapReq) (c : Code) (area : List Byte) (h : Kept s0 s) : Kept s0 (nrapRespond s r c area) := by
  unfold nrapRespond
  try dsimp only
  repeat' first | with_reducible assumption | with_reducible apply kept_ite | with_reducible apply kept_ite1 | with_reducible apply kept_ite2 | (with_reducible refine kept_forAll (fun _ _ _ => ?_) ?_) | (with_reducible refine kept_foldl (fun _ _ _ => ?_) ?_) | (with_reducible refine kept_foldl1 (fun _ _ _ => ?_) ?_) | with_reducible apply kept_hmSend | fail_if_no_progress (with_reducible apply kept_mk) | (with_reducible refine kept_of_eq (by with_reducible assumption) ?_) | intro _ _ | split | dsimp only

theorem kept_nrapExecute {s0 s : State}  (h : Kept s0 s) : Kept s0 (nrapExecute s) := by
  unfold nrapExecute
  try dsimp only
  repeat' first | with_reducible assumption | with_reducible apply kept_ite | with_reducible apply kept_ite1 | with_reducible apply kept_ite2 | (with_reducible refine kept_forAll (fun _ _ _ => ?_) ?_) | (with_reducible refine kept_foldl (fun _ _ _ => ?_) ?_) | (with_reducible refine kept_foldl1 (fun _ _ _ => ?_) ?_) | with_reducible apply kept_showDepth | with_reducible apply kept_nrapRun | with_reducible apply kept_settleReset | with_reducible apply kept_nrapRespond | fail_if_no_progress (with_reducible apply kept_mk) | (with_reducible refine kept_of_eq (by with_reducible assumption) ?_) | intro _ _ | split | dsimp only

theorem kept_nrapNotify {s0 s : State} (b : Nat) (h : Kept s0 s) : Kept s0 (nrapNotify s b) := by
  unfold nrapNotify
  try dsimp only
  repeat' first | with_reducible assumption | with_reducible apply kept_ite | with_reducible apply kept_ite1 | with_reducible apply kept_ite2 | (with_reducible refine kept_forAll (fun _ _ _ => ?_) ?_) | (with_reducible refine kept_foldl (fun _ _ _ => ?_) ?_) | (with_reducible refine kept_foldl1 (fun _ _ _ => ?_) ?_) | with_reducible apply kept_pointEntries | with_reducible apply kept_hmSend | fail_if_no_progress (with_reducible apply kept_mk) | (with_reducible refine kept_of_eq (by with_reducible assumption) ?_) | intro _ _ | split | dsimp only

theorem kept_countFrame {s0 s : State} (len : Nat) (left : Nat) (h : Kept s0 s) : Kept s0 (countFrame s len left) := by
  unfold countFrame
  try dsimp only
  repeat' first | with_reducible assumption | with_reducible apply kept_ite | with_reducible apply kept_ite1 | with_reducible apply kept_ite2 | (with_reducible refine kept_forAll (fun _ _ _ => ?_) ?_) | (with_reducible refine kept_foldl (fun _ _ _ => ?_) ?_) | (with_reducible refine kept_foldl1 (fun _ _ _ => ?_) ?_) | with_reducible apply kept_wr | with_reducible apply kept_setTwin | with_reducible apply kept_raiseBit | with_reducible apply kept_bumpSat | fail_if_no_progress (with_reducible apply kept_mk) | (with_reducible refine kept_of_eq (by with_reducible assumption) ?_) | intro _ _ | split | dsimp only

theorem kept_dropItems {s0 s : State}  (h : Kept s0 s) : Kept s0 (dropItems s) := by
  unfold dropItems
  try dsimp only
  repeat' first | with_reducible assumption | with_reducible apply kept_ite | with_reducible apply kept_ite1 | with_reducible apply kept_ite2 | (with_reducible refine kept_forAll (fun _ _ _ => ?_) ?_) | (with_reducible refine kept_foldl (fun _ _ _ => ?_) ?_) | (with_reducible refine kept_foldl1 (fun _ _ _ => ?_) ?_) | with_reducible apply kept_setTwin | fail_if_no_progress (with_reducible apply kept_mk) | (with_reducible refine kept_of_eq (by with_reducible assumption) ?_) | intro _ _ | split | dsimp only

theorem kept_cutFrame {s0 s : State}  (h : Kept s0 s) : Kept s0 (cutFrame s) := by
  unfold cutFrame
  try dsimp only
  repeat' first | with_reducible assumption | with_reducible apply kept_ite | with_reducible apply kept_ite1 | with_reducible apply kept_ite2 | (with_reducible refine kept_forAll (fun _ _ _ => ?_) ?_) | (with_reducible refine kept_foldl (fun _ _ _ => ?_) ?_) | (with_reducible refine kept_foldl1 (fun _ _ _ => ?_) ?_) | with_reducible apply kept_setTwin | with_reducible apply kept_countFrame | fail_if_no_progress (with_reducible apply kept_mk) | (with_reducible refine kept_of_eq (by with_reducible assumption) ?_) | intro _ _ | split | dsimp only

theorem kept_mirrorCut {s0 s : State}  (h : Kept s0 s) : Kept s0 (mirrorCut s) := by
  unfold mirrorCut
  try dsimp only
  repeat' first | with_reducible assumption | with_reducible apply kept_ite | with_reducible apply kept_ite1 | with_reducible apply kept_ite2 | (with_reducible refine kept_forAll (fun _ _ _ => ?_) ?_) | (with_reducible refine kept_foldl (fun _ _ _ => ?_) ?_) | (with_reducible refine kept_foldl1 (fun _ _ _ => ?_) ?_) | with_reducible apply kept_advanceTo | with_reducible apply kept_dropItems | with_reducible apply kept_cutFrame | fail_if_no_progress (with_reducible apply kept_mk) | (with_reducible refine kept_of_eq (by with_reducible assumption) ?_) | intro _ _ | split | dsimp only

theorem kept_applyStream {s0 s : State} (x : StreamRec) (h : Kept s0 s) : Kept s0 (applyStream s x) := by
  unfold applyStream
  try dsimp only
  repeat' first | with_reducible assumption | with_reducible apply kept_ite | with_reducible apply kept_ite1 | with_reducible apply kept_ite2 | (with_reducible refine kept_forAll (fun _ _ _ => ?_) ?_) | (with_reducible refine kept_foldl (fun _ _ _ => ?_) ?_) | (with_reducible refine kept_foldl1 (fun _ _ _ => ?_) ?_) | with_reducible apply kept_setForce | with_reducible apply kept_setPoint | fail_if_no_progress (with_reducible apply kept_mk) | (with_reducible refine kept_of_eq (by with_reducible assumption) ?_) | intro _ _ | split | dsimp only

theorem kept_streamReceived {s0 s : State} (x : StreamRec) (h : Kept s0 s) : Kept s0 (streamReceived s x) := by
  unfold streamReceived
  try dsimp only
  repeat' first | with_reducible assumption | with_reducible apply kept_ite | with_reducible apply kept_ite1 | with_reducible apply kept_ite2 | (with_reducible refine kept_forAll (fun _ _ _ => ?_) ?_) | (with_reducible refine kept_foldl (fun _ _ _ => ?_) ?_) | (with_reducible refine kept_foldl1 (fun _ _ _ => ?_) ?_) | with_reducible apply kept_applyStream | with_reducible apply kept_setTwin | fail_if_no_progress (with_reducible apply kept_mk) | (with_reducible refine kept_of_eq (by with_reducible assumption) ?_) | intro _ _ | split | dsimp only

theorem kept_resyncFlask {s0 s : State} (f : Nat) (h : Kept s0 s) : Kept s0 (resyncFlask s f) := by
  unfold resyncFlask
  try dsimp only
  repeat' first | with_reducible assumption | with_reducible apply kept_ite | with_reducible apply kept_ite1 | with_reducible apply kept_ite2 | (with_reducible refine kept_forAll (fun _ _ _ => ?_) ?_) | (with_reducible refine kept_foldl (fun _ _ _ => ?_) ?_) | (with_reducible refine kept_foldl1 (fun _ _ _ => ?_) ?_) | with_reducible apply kept_wr | fail_if_no_progress (with_reducible apply kept_mk) | (with_reducible refine kept_of_eq (by with_reducible assumption) ?_) | intro _ _ | split | dsimp only

theorem kept_applyLoops {s0 s : State} (l : List (List DWord)) (h : Kept s0 s) : Kept s0 (applyLoops s l) := by
  unfold applyLoops
  try dsimp only
  repeat' first | with_reducible assumption | with_reducible apply kept_ite | with_reducible apply kept_ite1 | with_reducible apply kept_ite2 | (with_reducible refine kept_forAll (fun _ _ _ => ?_) ?_) | (with_reducible refine kept_foldl (fun _ _ _ => ?_) ?_) | (with_reducible refine kept_foldl1 (fun _ _ _ => ?_) ?_) | with_reducible apply kept_setLoop | fail_if_no_progress (with_reducible apply kept_mk) | (with_reducible refine kept_of_eq (by with_reducible assumption) ?_) | intro _ _ | split | dsimp only

theorem kept_applyXch {s0 s : State} (x : XchItem) (h : Kept s0 s) : Kept s0 (applyXch s x) := by
  unfold applyXch
  try dsimp only
  repeat' first | with_reducible assumption | with_reducible apply kept_ite | with_reducible apply kept_ite1 | with_reducible apply kept_ite2 | (with_reducible refine kept_forAll (fun _ _ _ => ?_) ?_) | (with_reducible refine kept_foldl (fun _ _ _ => ?_) ?_) | (with_reducible refine kept_foldl1 (fun _ _ _ => ?_) ?_) | with_reducible apply kept_abandonRun | with_reducible apply kept_setFld | with_reducible apply kept_setTwin | with_reducible apply kept_setXchState | with_reducible apply kept_resyncFlask | fail_if_no_progress (with_reducible apply kept_mk) | (with_reducible refine kept_of_eq (by with_reducible assumption) ?_) | intro _ _ | split | dsimp only

theorem kept_applyConfig {s0 s : State} (x : ConfigItem) (h : Kept s0 s) : Kept s0 (applyConfig s x) := by
  unfold applyConfig
  try dsimp only
  repeat' first | with_reducible assumption | with_reducible apply kept_ite | with_reducible apply kept_ite1 | with_reducible apply kept_ite2 | (with_reducible refine kept_forAll (fun _ _ _ => ?_) ?_) | (with_reducible refine kept_foldl (fun _ _ _ => ?_) ?_) | (with_reducible refine kept_foldl1 (fun _ _ _ => ?_) ?_) | with_reducible apply kept_regWrite | with_reducible apply kept_fullResync | with_reducible apply kept_noteFlag | with_reducible apply kept_pgError | fail_if_no_progress (with_reducible apply kept_mk) | (with_reducible refine kept_of_eq (by with_reducible assumption) ?_) | intro _ _ | split | dsimp only

theorem kept_applyForce {s0 s : State} (x : ForceItem) (h : Kept s0 s) : Kept s0 (applyForce s x) := by
  unfold applyForce
  try dsimp only
  repeat' first | with_reducible assumption | with_reducible apply kept_ite | with_reducible apply kept_ite1 | with_reducible apply kept_ite2 | (with_reducible refine kept_forAll (fun _ _ _ => ?_) ?_) | (with_reducible refine kept_foldl (fun _ _ _ => ?_) ?_) | (with_reducible refine kept_foldl1 (fun _ _ _ => ?_) ?_) | with_reducible apply kept_commitForce | with_reducible apply kept_setForce | with_reducible apply kept_liftForce | with_reducible apply kept_saveForces | fail_if_no_progress (with_reducible apply kept_mk) | (with_reducible refine kept_of_eq (by with_reducible assumption) ?_) | intro _ _ | split | dsimp only

theorem kept_compareEnergy {s0 s : State} (x : EnergyItem) (later : List NetRec) (h : Kept s0 s) : Kept s0 (compareEnergy s x later) := by
  unfold compareEnergy
  try dsimp only
  repeat' first | with_reducible assumption | with_reducible apply kept_ite | with_reducible apply kept_ite1 | with_reducible apply kept_ite2 | (with_reducible refine kept_forAll (fun _ _ _ => ?_) ?_) | (with_reducible refine kept_foldl (fun _ _ _ => ?_) ?_) | (with_reducible refine kept_foldl1 (fun _ _ _ => ?_) ?_) | with_reducible apply kept_noteFlag | with_reducible apply kept_setTwin | fail_if_no_progress (with_reducible apply kept_mk) | (with_reducible refine kept_of_eq (by with_reducible assumption) ?_) | intro _ _ | split | dsimp only

theorem kept_applyEnergy {s0 s : State} (x : EnergyItem) (h : Kept s0 s) : Kept s0 (applyEnergy s x) := by
  unfold applyEnergy
  try dsimp only
  repeat' first | with_reducible assumption | with_reducible apply kept_ite | with_reducible apply kept_ite1 | with_reducible apply kept_ite2 | (with_reducible refine kept_forAll (fun _ _ _ => ?_) ?_) | (with_reducible refine kept_foldl (fun _ _ _ => ?_) ?_) | (with_reducible refine kept_foldl1 (fun _ _ _ => ?_) ?_) | with_reducible apply kept_compareEnergy | with_reducible apply kept_setCirc | with_reducible apply kept_wr | with_reducible apply kept_showEnergy | with_reducible apply kept_setTwin | with_reducible apply kept_applyNets | fail_if_no_progress (with_reducible apply kept_mk) | (with_reducible refine kept_of_eq (by with_reducible assumption) ?_) | intro _ _ | split | dsimp only

theorem kept_applyRun {s0 s : State} (flasks : Word) (x : RunItem) (h : Kept s0 s) : Kept s0 (applyRun flasks s x) := by
  unfold applyRun
  try dsimp only
  repeat' first | with_reducible assumption | with_reducible apply kept_ite | with_reducible apply kept_ite1 | with_reducible apply kept_ite2 | (with_reducible refine kept_forAll (fun _ _ _ => ?_) ?_) | (with_reducible refine kept_foldl (fun _ _ _ => ?_) ?_) | (with_reducible refine kept_foldl1 (fun _ _ _ => ?_) ?_) | with_reducible apply kept_recordCame | fail_if_no_progress (with_reducible apply kept_mk) | (with_reducible refine kept_of_eq (by with_reducible assumption) ?_) | intro _ _ | split | dsimp only

theorem kept_applyGranItem {s0 s : State} (x : GranItem) (h : Kept s0 s) : Kept s0 (applyGranItem s x) := by
  unfold applyGranItem
  try dsimp only
  repeat' first | with_reducible assumption | with_reducible apply kept_ite | with_reducible apply kept_ite1 | with_reducible apply kept_ite2 | (with_reducible refine kept_forAll (fun _ _ _ => ?_) ?_) | (with_reducible refine kept_foldl (fun _ _ _ => ?_) ?_) | (with_reducible refine kept_foldl1 (fun _ _ _ => ?_) ?_) | with_reducible apply kept_applyGran | with_reducible apply kept_setTwin | fail_if_no_progress (with_reducible apply kept_mk) | (with_reducible refine kept_of_eq (by with_reducible assumption) ?_) | intro _ _ | split | dsimp only

theorem kept_whileSynced {α : Type} {s0 s : State} {f : State → α → State} (hf : ∀ x a, Kept s0 x → Kept s0 (f x a)) (x : α) (h : Kept s0 s) :
    Kept s0 (whileSynced f s x) := kept_ite h (hf _ _ h)

theorem kept_applySections {s0 s : State} (x : MirrorFrame) (h : Kept s0 s) : Kept s0 (applySections s x) := by
  unfold applySections
  dsimp only
  refine kept_forAll (fun _ _ hx => kept_whileSynced (fun _ _ hy => kept_applyGranItem _ hy) _ hx) ?_
  refine kept_forAll (fun _ _ hx => kept_whileSynced (fun _ _ hy => kept_applyRun _ _ hy) _ hx) ?_
  have h1 : Kept s0 (forAll (whileSynced applyEnergy) x.energy (forAll (whileSynced applyForce) x.force
      (forAll (whileSynced applyConfig) x.config (forAll applyXch x.xch (applyLoops s x.loops))))) := by
    refine kept_forAll (fun _ _ hx => kept_whileSynced (fun _ _ hy => kept_applyEnergy _ hy) _ hx) ?_
    refine kept_forAll (fun _ _ hx => kept_whileSynced (fun _ _ hy => kept_applyForce _ hy) _ hx) ?_
    refine kept_forAll (fun _ _ hx => kept_whileSynced (fun _ _ hy => kept_applyConfig _ hy) _ hx) ?_
    exact kept_forAll (fun _ _ hx => kept_applyXch _ hx) (kept_applyLoops x.loops h)
  generalize forAll (whileSynced applyEnergy) _ _ = e at *
  split
  · exact kept_setTwin _ h1
  · exact h1

theorem kept_countCarry {s0 s : State} (x : MirrorFrame) (h : Kept s0 s) : Kept s0 (countCarry s x) := by
  unfold countCarry
  try dsimp only
  repeat' first | with_reducible assumption | with_reducible apply kept_ite | with_reducible apply kept_ite1 | with_reducible apply kept_ite2 | (with_reducible refine kept_forAll (fun _ _ _ => ?_) ?_) | (with_reducible refine kept_foldl (fun _ _ _ => ?_) ?_) | (with_reducible refine kept_foldl1 (fun _ _ _ => ?_) ?_) | with_reducible apply kept_wr | with_reducible apply kept_bumpSat | with_reducible apply kept_fullResync | fail_if_no_progress (with_reducible apply kept_mk) | (with_reducible refine kept_of_eq (by with_reducible assumption) ?_) | intro _ _ | split | dsimp only

theorem kept_applyFrame {s0 s : State} (x : MirrorFrame) (h : Kept s0 s) : Kept s0 (applyFrame s x) := by
  unfold applyFrame
  generalize hl : (match s.twin.lastTick with | some t => x.tick != t + 1 | none => false) = b
  exact kept_ite (kept_fullResync h) (kept_whileSynced (fun _ _ hy => kept_applySections _ hy) _ (kept_countCarry _ (kept_setTwin _ h)))

theorem kept_frameReceived {s0 s : State} (x : MirrorFrame) (h : Kept s0 s) : Kept s0 (frameReceived s x) := by
  unfold frameReceived
  try dsimp only
  repeat' first | with_reducible assumption | with_reducible apply kept_ite | with_reducible apply kept_ite1 | with_reducible apply kept_ite2 | (with_reducible refine kept_forAll (fun _ _ _ => ?_) ?_) | (with_reducible refine kept_foldl (fun _ _ _ => ?_) ?_) | (with_reducible refine kept_foldl1 (fun _ _ _ => ?_) ?_) | with_reducible apply kept_applyFrame | with_reducible apply kept_setTwin | fail_if_no_progress (with_reducible apply kept_mk) | (with_reducible refine kept_of_eq (by with_reducible assumption) ?_) | intro _ _ | split | dsimp only

theorem kept_bulkBegins {s0 s : State}  (h : Kept s0 s) : Kept s0 (bulkBegins s) := by
  unfold bulkBegins
  try dsimp only
  repeat' first | with_reducible assumption | with_reducible apply kept_ite | with_reducible apply kept_ite1 | with_reducible apply kept_ite2 | (with_reducible refine kept_forAll (fun _ _ _ => ?_) ?_) | (with_reducible refine kept_foldl (fun _ _ _ => ?_) ?_) | (with_reducible refine kept_foldl1 (fun _ _ _ => ?_) ?_) | with_reducible apply kept_setTwin | with_reducible apply kept_setSync | fail_if_no_progress (with_reducible apply kept_mk) | (with_reducible refine kept_of_eq (by with_reducible assumption) ?_) | intro _ _ | split | dsimp only

theorem kept_applyImageWord {s0 s : State} (x : ConfigItem) (h : Kept s0 s) : Kept s0 (applyImageWord s x) := by
  unfold applyImageWord
  try dsimp only
  repeat' first | with_reducible assumption | with_reducible apply kept_ite | with_reducible apply kept_ite1 | with_reducible apply kept_ite2 | (with_reducible refine kept_forAll (fun _ _ _ => ?_) ?_) | (with_reducible refine kept_foldl (fun _ _ _ => ?_) ?_) | (with_reducible refine kept_foldl1 (fun _ _ _ => ?_) ?_) | with_reducible apply kept_regWrite | with_reducible apply kept_wr | fail_if_no_progress (with_reducible apply kept_mk) | (with_reducible refine kept_of_eq (by with_reducible assumption) ?_) | intro _ _ | split | dsimp only

theorem kept_applyMould {s0 s : State} (x : MouldImage) (h : Kept s0 s) : Kept s0 (applyMould s x) := by
  unfold applyMould
  try dsimp only
  repeat' first | with_reducible assumption | with_reducible apply kept_ite | with_reducible apply kept_ite1 | with_reducible apply kept_ite2 | (with_reducible refine kept_forAll (fun _ _ _ => ?_) ?_) | (with_reducible refine kept_foldl (fun _ _ _ => ?_) ?_) | (with_reducible refine kept_foldl1 (fun _ _ _ => ?_) ?_) | with_reducible apply kept_putBytes | with_reducible apply kept_setTwin | with_reducible apply kept_setMould | fail_if_no_progress (with_reducible apply kept_mk) | (with_reducible refine kept_of_eq (by with_reducible assumption) ?_) | intro _ _ | split | dsimp only

theorem kept_applyNvr {s0 s : State} (l : List (Nat × List NvrInst)) (h : Kept s0 s) : Kept s0 (applyNvr s l) := by
  unfold applyNvr
  try dsimp only
  repeat' first | with_reducible assumption | with_reducible apply kept_ite | with_reducible apply kept_ite1 | with_reducible apply kept_ite2 | (with_reducible refine kept_forAll (fun _ _ _ => ?_) ?_) | (with_reducible refine kept_foldl (fun _ _ _ => ?_) ?_) | (with_reducible refine kept_foldl1 (fun _ _ _ => ?_) ?_) | with_reducible apply kept_setNvr | fail_if_no_progress (with_reducible apply kept_mk) | (with_reducible refine kept_of_eq (by with_reducible assumption) ?_) | intro _ _ | split | dsimp only

theorem kept_applyWhole {s0 s : State} (x : BulkImage) (h : Kept s0 s) : Kept s0 (applyWhole s x) := by
  unfold applyWhole
  try dsimp only
  repeat' first | with_reducible assumption | with_reducible apply kept_ite | with_reducible apply kept_ite1 | with_reducible apply kept_ite2 | (with_reducible refine kept_forAll (fun _ _ _ => ?_) ?_) | (with_reducible refine kept_foldl (fun _ _ _ => ?_) ?_) | (with_reducible refine kept_foldl1 (fun _ _ _ => ?_) ?_) | with_reducible apply kept_applyMould | with_reducible apply kept_setMould | with_reducible apply kept_applyImageWord | with_reducible apply kept_setPoint | with_reducible apply kept_saveForces | with_reducible apply kept_setForce | with_reducible apply kept_setTwin | with_reducible apply kept_applyNvr | with_reducible apply kept_wr | fail_if_no_progress (with_reducible apply kept_mk) | (with_reducible refine kept_of_eq (by with_reducible assumption) ?_) | intro _ _ | split | dsimp only

theorem kept_applyFlask {s0 s : State} (f : Nat) (x : BulkImage) (h : Kept s0 s) : Kept s0 (applyFlask s f x) := by
  unfold applyFlask
  try dsimp only
  repeat' first | with_reducible assumption | with_reducible apply kept_ite | with_reducible apply kept_ite1 | with_reducible apply kept_ite2 | (with_reducible refine kept_forAll (fun _ _ _ => ?_) ?_) | (with_reducible refine kept_foldl (fun _ _ _ => ?_) ?_) | (with_reducible refine kept_foldl1 (fun _ _ _ => ?_) ?_) | with_reducible apply kept_applyNvr | with_reducible apply kept_applyMould | with_reducible apply kept_wr | fail_if_no_progress (with_reducible apply kept_mk) | (with_reducible refine kept_of_eq (by with_reducible assumption) ?_) | intro _ _ | split | dsimp only

theorem kept_bulkEnds {s0 s : State} (x : BulkImage) (h : Kept s0 s) : Kept s0 (bulkEnds s x) := by
  unfold bulkEnds
  try dsimp only
  repeat' first | with_reducible assumption | with_reducible apply kept_ite | with_reducible apply kept_ite1 | with_reducible apply kept_ite2 | (with_reducible refine kept_forAll (fun _ _ _ => ?_) ?_) | (with_reducible refine kept_foldl (fun _ _ _ => ?_) ?_) | (with_reducible refine kept_foldl1 (fun _ _ _ => ?_) ?_) | with_reducible apply kept_applyFlask | with_reducible apply kept_setTwin | with_reducible apply kept_setSync | with_reducible apply kept_applyWhole | fail_if_no_progress (with_reducible apply kept_mk) | (with_reducible refine kept_of_eq (by with_reducible assumption) ?_) | intro _ _ | split | dsimp only

theorem kept_applyLink {s0 s : State} (x : LinkItem) (h : Kept s0 s) : Kept s0 (applyLink s x) := by
  unfold applyLink
  try dsimp only
  repeat' first | with_reducible assumption | with_reducible apply kept_ite | with_reducible apply kept_ite1 | with_reducible apply kept_ite2 | (with_reducible refine kept_forAll (fun _ _ _ => ?_) ?_) | (with_reducible refine kept_foldl (fun _ _ _ => ?_) ?_) | (with_reducible refine kept_foldl1 (fun _ _ _ => ?_) ?_) | with_reducible apply kept_applyFrame | with_reducible apply kept_applyStream | fail_if_no_progress (with_reducible apply kept_mk) | (with_reducible refine kept_of_eq (by with_reducible assumption) ?_) | intro _ _ | split | dsimp only

theorem kept_catchupEnds {s0 s : State} (h : Kept s0 s) : Kept s0 (catchupEnds s) := by
  unfold catchupEnds
  dsimp only
  have h1 : Kept s0 (forAll (whileSynced applyLink) s.twin.queue (setTwin s { s.twin with queue := [] })) :=
    kept_forAll (fun _ _ hx => kept_whileSynced (fun _ _ hy => kept_applyLink _ hy) _ hx) (kept_setTwin _ h)
  exact kept_ite (kept_ite (kept_setSync _ h1) h1) h

theorem kept_idle {s0 s : State}  (h : Kept s0 s) : Kept s0 (idle s) := by
  unfold idle
  try dsimp only
  repeat' first | with_reducible assumption | with_reducible apply kept_ite | with_reducible apply kept_ite1 | with_reducible apply kept_ite2 | (with_reducible refine kept_forAll (fun _ _ _ => ?_) ?_) | (with_reducible refine kept_foldl (fun _ _ _ => ?_) ?_) | (with_reducible refine kept_foldl1 (fun _ _ _ => ?_) ?_) | with_reducible apply kept_bootRom | fail_if_no_progress (with_reducible apply kept_mk) | (with_reducible refine kept_of_eq (by with_reducible assumption) ?_) | intro _ _ | split | dsimp only

end Sys2Proof.Machine
end

