-- ==== Sys2Proof/Laws/KeptG.lean ====
section
/-! SUPPORT. Every command keeps the queue, the canonical form of the byte store and the blown fuses. -/
namespace Sys2Proof.Machine
open Sys2Proof.Safety
set_option linter.unusedTactic false
set_option linter.unreachableTactic false
set_option linter.unusedSimpArgs false

theorem keptRes_trap (s : State) (k n : Nat) : KeptRes s (.trap k n) = True := rfl
theorem keptRes_next (s : State) (c : CastCtx) (n : Nat) : KeptRes s (.next c n) = Kept s c.s := rfl
theorem keptRes_finish (s : State) (c : CastCtx) (n : Nat) : KeptRes s (.finish c n) = Kept s c.s := rfl
theorem keptRes_hold (s : State) (c : CastCtx) : KeptRes s (.hold c) = Kept s c.s := rfl
theorem castSet_eq (c : CastCtx) (d : BitVec 4) (v : Word) (f n : Nat) : castSet c d v f n = .next (castAdv { c with b := sticky (bset c.b d v) f }) n := rfl
theorem castAdv_s (c : CastCtx) : (castAdv c).s = c.s := rfl
theorem castStore_s (c : CastCtx) (a : Nat) (l : List Byte) : (castStore c a l).s = putBytes c.s a l := rfl
theorem castDeny_s (c : CastCtx) (f pid : Nat) : (castDeny c f pid).s = deny c.s f 2 pid := rfl

theorem keptRes_castDivide {s0 : State} {c : CastCtx} (op : Word → Word → Word × Nat) (o : RegForm) (h : Kept s0 c.s) : KeptRes s0 (castDivide op o c) := by
  unfold castDivide
  try dsimp only
  repeat' split
  all_goals simp only [keptRes_trap, keptRes_next, keptRes_finish, keptRes_hold, castSet_eq, castAdv_s, castStore_s, castDeny_s]
  all_goals repeat' first | with_reducible assumption | with_reducible apply kept_putBytes | with_reducible apply kept_deny

theorem keptRes_castLoad {s0 : State} {c : CastCtx} (n : Nat) (ext : Nat → Word) (o : MemForm) (h : Kept s0 c.s) : KeptRes s0 (castLoad n ext o c) := by
  unfold castLoad
  try dsimp only
  repeat' split
  all_goals simp only [keptRes_trap, keptRes_next, keptRes_finish, keptRes_hold, castSet_eq, castAdv_s, castStore_s, castDeny_s]
  all_goals repeat' first | with_reducible assumption | with_reducible apply kept_putBytes | with_reducible apply kept_deny

theorem keptRes_castPut {s0 : State} {c : CastCtx} (n : Nat) (o : MemForm) (h : Kept s0 c.s) : KeptRes s0 (castPut n o c) := by
  unfold castPut
  try dsimp only
  repeat' split
  all_goals simp only [keptRes_trap, keptRes_next, keptRes_finish, keptRes_hold, castSet_eq, castAdv_s, castStore_s, castDeny_s]
  all_goals repeat' first | with_reducible assumption | with_reducible apply kept_putBytes | with_reducible apply kept_deny

theorem keptRes_castLdd {s0 : State} {c : CastCtx} (o : MemForm) (h : Kept s0 c.s) : KeptRes s0 (castLdd o c) := by
  unfold castLdd
  try dsimp only
  repeat' split
  all_goals simp only [keptRes_trap, keptRes_next, keptRes_finish, keptRes_hold, castSet_eq, castAdv_s, castStore_s, castDeny_s]
  all_goals repeat' first | with_reducible assumption | with_reducible apply kept_putBytes | with_reducible apply kept_deny

theorem keptRes_castStd {s0 : State} {c : CastCtx} (o : MemForm) (h : Kept s0 c.s) : KeptRes s0 (castStd o c) := by
  unfold castStd
  try dsimp only
  repeat' split
  all_goals simp only [keptRes_trap, keptRes_next, keptRes_finish, keptRes_hold, castSet_eq, castAdv_s, castStore_s, castDeny_s]
  all_goals repeat' first | with_reducible assumption | with_reducible apply kept_putBytes | with_reducible apply kept_deny

theorem keptRes_castMts {s0 : State} {c : CastCtx} (o : RegForm) (h : Kept s0 c.s) : KeptRes s0 (castMts o c) := by
  unfold castMts
  try dsimp only
  repeat' split
  all_goals simp only [keptRes_trap, keptRes_next, keptRes_finish, keptRes_hold, castSet_eq, castAdv_s, castStore_s, castDeny_s]
  all_goals repeat' first | with_reducible assumption | with_reducible apply kept_putBytes | with_reducible apply kept_deny

theorem keptRes_castRet {s0 : State} {c : CastCtx}  (h : Kept s0 c.s) : KeptRes s0 (castRet  c) := by
  unfold castRet
  try dsimp only
  repeat' split
  all_goals simp only [keptRes_trap, keptRes_next, keptRes_finish, keptRes_hold, castSet_eq, castAdv_s, castStore_s, castDeny_s]
  all_goals repeat' first | with_reducible assumption | with_reducible apply kept_putBytes | with_reducible apply kept_deny

theorem keptRes_castBrk {s0 : State} {c : CastCtx}  (h : Kept s0 c.s) : KeptRes s0 (castBrk  c) := by
  unfold castBrk
  try dsimp only
  repeat' split
  all_goals simp only [keptRes_trap, keptRes_next, keptRes_finish, keptRes_hold, castSet_eq, castAdv_s, castStore_s, castDeny_s]
  all_goals repeat' first | with_reducible assumption | with_reducible apply kept_putBytes | with_reducible apply kept_deny

theorem keptRes_castRecord {s0 : State} {c : CastCtx} (lo hi cycles : Nat) (o : RecForm) (op : Nat → List Byte → Word × List Byte) (h : Kept s0 c.s) : KeptRes s0 (castRecord lo hi cycles o op c) := by
  unfold castRecord
  try dsimp only
  repeat' split
  all_goals simp only [keptRes_trap, keptRes_next, keptRes_finish, keptRes_hold, castSet_eq, castAdv_s, castStore_s, castDeny_s]
  all_goals repeat' first | with_reducible assumption | with_reducible apply kept_putBytes | with_reducible apply kept_deny

theorem keptRes_castPrd {s0 : State} {c : CastCtx} (o : PntForm) (h : Kept s0 c.s) : KeptRes s0 (castPrd o c) := by
  unfold castPrd
  try dsimp only
  repeat' split
  all_goals simp only [keptRes_trap, keptRes_next, keptRes_finish, keptRes_hold, castSet_eq, castAdv_s, castStore_s, castDeny_s]
  all_goals repeat' first | with_reducible assumption | with_reducible apply kept_putBytes | with_reducible apply kept_deny

theorem keptRes_castPwr {s0 : State} {c : CastCtx} (o : PntForm) (h : Kept s0 c.s) : KeptRes s0 (castPwr o c) := by
  unfold castPwr
  try dsimp only
  repeat' split
  all_goals simp only [keptRes_trap, keptRes_next, keptRes_finish, keptRes_hold, castSet_eq, castAdv_s, castStore_s, castDeny_s]
  all_goals repeat' first | with_reducible assumption | with_reducible apply kept_putBytes | with_reducible apply kept_deny

theorem keptRes_castPtst {s0 : State} {c : CastCtx} (o : PntForm) (h : Kept s0 c.s) : KeptRes s0 (castPtst o c) := by
  unfold castPtst
  try dsimp only
  repeat' split
  all_goals simp only [keptRes_trap, keptRes_next, keptRes_finish, keptRes_hold, castSet_eq, castAdv_s, castStore_s, castDeny_s]
  all_goals repeat' first | with_reducible assumption | with_reducible apply kept_putBytes | with_reducible apply kept_deny

theorem keptRes_castCall {s0 : State} {c : CastCtx} (inst : BitVec 4) (target : Word) (h : Kept s0 c.s) : KeptRes s0 (castCall c inst target) := by
  unfold castCall
  split
  · exact trivial
  · exact h

theorem kept_execAdd (t : Fin 64) (o : RegForm) (s : State) : ∃ r, execAdd t o s = .next r ∧ Kept s r := by
  unfold execAdd
  refine ⟨_, rfl, ?_⟩
  have h := Kept.refl s
  repeat' first | with_reducible assumption | with_reducible apply kept_ite | with_reducible apply kept_ite1 | with_reducible apply kept_ite2 | (with_reducible refine kept_forAll (fun _ _ _ => ?_) ?_) | (with_reducible refine kept_foldl (fun _ _ _ => ?_) ?_) | (with_reducible refine kept_foldl1 (fun _ _ _ => ?_) ?_) | with_reducible apply kept_castReg | exact trivial | (simp only [keptRes_trap, keptRes_next, keptRes_finish, keptRes_hold, castAdv_s]) | with_reducible apply keptRes_set | fail_if_no_progress (with_reducible apply kept_mk) | (with_reducible refine kept_of_eq (by with_reducible assumption) ?_) | intro _ _ | split | dsimp only

theorem kept_execAddi (t : Fin 64) (o : ImmForm) (s : State) : ∃ r, execAddi t o s = .next r ∧ Kept s r := by
  unfold execAddi
  refine ⟨_, rfl, ?_⟩
  have h := Kept.refl s
  repeat' first | with_reducible assumption | with_reducible apply kept_ite | with_reducible apply kept_ite1 | with_reducible apply kept_ite2 | (with_reducible refine kept_forAll (fun _ _ _ => ?_) ?_) | (with_reducible refine kept_foldl (fun _ _ _ => ?_) ?_) | (with_reducible refine kept_foldl1 (fun _ _ _ => ?_) ?_) | with_reducible apply kept_castImm | exact trivial | (simp only [keptRes_trap, keptRes_next, keptRes_finish, keptRes_hold, castAdv_s]) | with_reducible apply keptRes_set | fail_if_no_progress (with_reducible apply kept_mk) | (with_reducible refine kept_of_eq (by with_reducible assumption) ?_) | intro _ _ | split | dsimp only

theorem kept_execSub (t : Fin 64) (o : RegForm) (s : State) : ∃ r, execSub t o s = .next r ∧ Kept s r := by
  unfold execSub
  refine ⟨_, rfl, ?_⟩
  have h := Kept.refl s
  repeat' first | with_reducible assumption | with_reducible apply kept_ite | with_reducible apply kept_ite1 | with_reducible apply kept_ite2 | (with_reducible refine kept_forAll (fun _ _ _ => ?_) ?_) | (with_reducible refine kept_foldl (fun _ _ _ => ?_) ?_) | (with_reducible refine kept_foldl1 (fun _ _ _ => ?_) ?_) | with_reducible apply kept_castReg | exact trivial | (simp only [keptRes_trap, keptRes_next, keptRes_finish, keptRes_hold, castAdv_s]) | with_reducible apply keptRes_set | fail_if_no_progress (with_reducible apply kept_mk) | (with_reducible refine kept_of_eq (by with_reducible assumption) ?_) | intro _ _ | split | dsimp only

theorem kept_execMul (t : Fin 64) (o : RegForm) (s : State) : ∃ r, execMul t o s = .next r ∧ Kept s r := by
  unfold execMul
  refine ⟨_, rfl, ?_⟩
  have h := Kept.refl s
  repeat' first | with_reducible assumption | with_reducible apply kept_ite | with_reducible apply kept_ite1 | with_reducible apply kept_ite2 | (with_reducible refine kept_forAll (fun _ _ _ => ?_) ?_) | (with_reducible refine kept_foldl (fun _ _ _ => ?_) ?_) | (with_reducible refine kept_foldl1 (fun _ _ _ => ?_) ?_) | with_reducible apply kept_castReg | exact trivial | (simp only [keptRes_trap, keptRes_next, keptRes_finish, keptRes_hold, castAdv_s]) | with_reducible apply keptRes_set | fail_if_no_progress (with_reducible apply kept_mk) | (with_reducible refine kept_of_eq (by with_reducible assumption) ?_) | intro _ _ | split | dsimp only

theorem kept_execMulh (t : Fin 64) (o : RegForm) (s : State) : ∃ r, execMulh t o s = .next r ∧ Kept s r := by
  unfold execMulh
  refine ⟨_, rfl, ?_⟩
  have h := Kept.refl s
  repeat' first | with_reducible assumption | with_reducible apply kept_ite | with_reducible apply kept_ite1 | with_reducible apply kept_ite2 | (with_reducible refine kept_forAll (fun _ _ _ => ?_) ?_) | (with_reducible refine kept_foldl (fun _ _ _ => ?_) ?_) | (with_reducible refine kept_foldl1 (fun _ _ _ => ?_) ?_) | with_reducible apply kept_castReg | exact trivial | (simp only [keptRes_trap, keptRes_next, keptRes_finish, keptRes_hold, castAdv_s]) | with_reducible apply keptRes_set | fail_if_no_progress (with_reducible apply kept_mk) | (with_reducible refine kept_of_eq (by with_reducible assumption) ?_) | intro _ _ | split | dsimp only

theorem kept_execDiv (t : Fin 64) (o : RegForm) (s : State) : ∃ r, execDiv t o s = .next r ∧ Kept s r := by
  unfold execDiv
  refine ⟨_, rfl, ?_⟩
  have h := Kept.refl s
  repeat' first | with_reducible assumption | with_reducible apply kept_ite | with_reducible apply kept_ite1 | with_reducible apply kept_ite2 | (with_reducible refine kept_forAll (fun _ _ _ => ?_) ?_) | (with_reducible refine kept_foldl (fun _ _ _ => ?_) ?_) | (with_reducible refine kept_foldl1 (fun _ _ _ => ?_) ?_) | with_reducible apply kept_castStep | with_reducible apply keptRes_castDivide | exact trivial | (simp only [keptRes_trap, keptRes_next, keptRes_finish, keptRes_hold, castAdv_s]) | with_reducible apply keptRes_set | fail_if_no_progress (with_reducible apply kept_mk) | (with_reducible refine kept_of_eq (by with_reducible assumption) ?_) | intro _ _ | split | dsimp only

theorem kept_execRem (t : Fin 64) (o : RegForm) (s : State) : ∃ r, execRem t o s = .next r ∧ Kept s r := by
  unfold execRem
  refine ⟨_, rfl, ?_⟩
  have h := Kept.refl s
  repeat' first | with_reducible assumption | with_reducible apply kept_ite | with_reducible apply kept_ite1 | with_reducible apply kept_ite2 | (with_reducible refine kept_forAll (fun _ _ _ => ?_) ?_) | (with_reducible refine kept_foldl (fun _ _ _ => ?_) ?_) | (with_reducible refine kept_foldl1 (fun _ _ _ => ?_) ?_) | with_reducible apply kept_castStep | with_reducible apply keptRes_castDivide | exact trivial | (simp only [keptRes_trap, keptRes_next, keptRes_finish, keptRes_hold, castAdv_s]) | with_reducible apply keptRes_set | fail_if_no_progress (with_reducible apply kept_mk) | (with_reducible refine kept_of_eq (by with_reducible assumption) ?_) | intro _ _ | split | dsimp only

theorem kept_execAnd (t : Fin 64) (o : RegForm) (s : State) : ∃ r, execAnd t o s = .next r ∧ Kept s r := by
  unfold execAnd
  refine ⟨_, rfl, ?_⟩
  have h := Kept.refl s
  repeat' first | with_reducible assumption | with_reducible apply kept_ite | with_reducible apply kept_ite1 | with_reducible apply kept_ite2 | (with_reducible refine kept_forAll (fun _ _ _ => ?_) ?_) | (with_reducible refine kept_foldl (fun _ _ _ => ?_) ?_) | (with_reducible refine kept_foldl1 (fun _ _ _ => ?_) ?_) | with_reducible apply kept_castReg | exact trivial | (simp only [keptRes_trap, keptRes_next, keptRes_finish, keptRes_hold, castAdv_s]) | with_reducible apply keptRes_set | fail_if_no_progress (with_reducible apply kept_mk) | (with_reducible refine kept_of_eq (by with_reducible assumption) ?_) | intro _ _ | split | dsimp only

theorem kept_execAndi (t : Fin 64) (o : ImmForm) (s : State) : ∃ r, execAndi t o s = .next r ∧ Kept s r := by
  unfold execAndi
  refine ⟨_, rfl, ?_⟩
  have h := Kept.refl s
  repeat' first | with_reducible assumption | with_reducible apply kept_ite | with_reducible apply kept_ite1 | with_reducible apply kept_ite2 | (with_reducible refine kept_forAll (fun _ _ _ => ?_) ?_) | (with_reducible refine kept_foldl (fun _ _ _ => ?_) ?_) | (with_reducible refine kept_foldl1 (fun _ _ _ => ?_) ?_) | with_reducible apply kept_castImm | exact trivial | (simp only [keptRes_trap, keptRes_next, keptRes_finish, keptRes_hold, castAdv_s]) | with_reducible apply keptRes_set | fail_if_no_progress (with_reducible apply kept_mk) | (with_reducible refine kept_of_eq (by with_reducible assumption) ?_) | intro _ _ | split | dsimp only

theorem kept_execOr (t : Fin 64) (o : RegForm) (s : State) : ∃ r, execOr t o s = .next r ∧ Kept s r := by
  unfold execOr
  refine ⟨_, rfl, ?_⟩
  have h := Kept.refl s
  repeat' first | with_reducible assumption | with_reducible apply kept_ite | with_reducible apply kept_ite1 | with_reducible apply kept_ite2 | (with_reducible refine kept_forAll (fun _ _ _ => ?_) ?_) | (with_reducible refine kept_foldl (fun _ _ _ => ?_) ?_) | (with_reducible refine kept_foldl1 (fun _ _ _ => ?_) ?_) | with_reducible apply kept_castReg | exact trivial | (simp only [keptRes_trap, keptRes_next, keptRes_finish, keptRes_hold, castAdv_s]) | with_reducible apply keptRes_set | fail_if_no_progress (with_reducible apply kept_mk) | (with_reducible refine kept_of_eq (by with_reducible assumption) ?_) | intro _ _ | split | dsimp only

theorem kept_execOri (t : Fin 64) (o : ImmForm) (s : State) : ∃ r, execOri t o s = .next r ∧ Kept s r := by
  unfold execOri
  refine ⟨_, rfl, ?_⟩
  have h := Kept.refl s
  repeat' first | with_reducible assumption | with_reducible apply kept_ite | with_reducible apply kept_ite1 | with_reducible apply kept_ite2 | (with_reducible refine kept_forAll (fun _ _ _ => ?_) ?_) | (with_reducible refine kept_foldl (fun _ _ _ => ?_) ?_) | (with_reducible refine kept_foldl1 (fun _ _ _ => ?_) ?_) | with_reducible apply kept_castImm | exact trivial | (simp only [keptRes_trap, keptRes_next, keptRes_finish, keptRes_hold, castAdv_s]) | with_reducible apply keptRes_set | fail_if_no_progress (with_reducible apply kept_mk) | (with_reducible refine kept_of_eq (by with_reducible assumption) ?_) | intro _ _ | split | dsimp only

theorem kept_execXor (t : Fin 64) (o : RegForm) (s : State) : ∃ r, execXor t o s = .next r ∧ Kept s r := by
  unfold execXor
  refine ⟨_, rfl, ?_⟩
  have h := Kept.refl s
  repeat' first | with_reducible assumption | with_reducible apply kept_ite | with_reducible apply kept_ite1 | with_reducible apply kept_ite2 | (with_reducible refine kept_forAll (fun _ _ _ => ?_) ?_) | (with_reducible refine kept_foldl (fun _ _ _ => ?_) ?_) | (with_reducible refine kept_foldl1 (fun _ _ _ => ?_) ?_) | with_reducible apply kept_castReg | exact trivial | (simp only [keptRes_trap, keptRes_next, keptRes_finish, keptRes_hold, castAdv_s]) | with_reducible apply keptRes_set | fail_if_no_progress (with_reducible apply kept_mk) | (with_reducible refine kept_of_eq (by with_reducible assumption) ?_) | intro _ _ | split | dsimp only

theorem kept_execXori (t : Fin 64) (o : ImmForm) (s : State) : ∃ r, execXori t o s = .next r ∧ Kept s r := by
  unfold execXori
  refine ⟨_, rfl, ?_⟩
  have h := Kept.refl s
  repeat' first | with_reducible assumption | with_reducible apply kept_ite | with_reducible apply kept_ite1 | with_reducible apply kept_ite2 | (with_reducible refine kept_forAll (fun _ _ _ => ?_) ?_) | (with_reducible refine kept_foldl (fun _ _ _ => ?_) ?_) | (with_reducible refine kept_foldl1 (fun _ _ _ => ?_) ?_) | with_reducible apply kept_castImm | exact trivial | (simp only [keptRes_trap, keptRes_next, keptRes_finish, keptRes_hold, castAdv_s]) | with_reducible apply keptRes_set | fail_if_no_progress (with_reducible apply kept_mk) | (with_reducible refine kept_of_eq (by with_reducible assumption) ?_) | intro _ _ | split | dsimp only

theorem kept_execShf (t : Fin 64) (o : RegForm) (s : State) : ∃ r, execShf t o s = .next r ∧ Kept s r := by
  unfold execShf
  refine ⟨_, rfl, ?_⟩
  have h := Kept.refl s
  repeat' first | with_reducible assumption | with_reducible apply kept_ite | with_reducible apply kept_ite1 | with_reducible apply kept_ite2 | (with_reducible refine kept_forAll (fun _ _ _ => ?_) ?_) | (with_reducible refine kept_foldl (fun _ _ _ => ?_) ?_) | (with_reducible refine kept_foldl1 (fun _ _ _ => ?_) ?_) | with_reducible apply kept_castReg | exact trivial | (simp only [keptRes_trap, keptRes_next, keptRes_finish, keptRes_hold, castAdv_s]) | with_reducible apply keptRes_set | fail_if_no_progress (with_reducible apply kept_mk) | (with_reducible refine kept_of_eq (by with_reducible assumption) ?_) | intro _ _ | split | dsimp only

theorem kept_execAdds (t : Fin 64) (o : RegForm) (s : State) : ∃ r, execAdds t o s = .next r ∧ Kept s r := by
  unfold execAdds
  refine ⟨_, rfl, ?_⟩
  have h := Kept.refl s
  repeat' first | with_reducible assumption | with_reducible apply kept_ite | with_reducible apply kept_ite1 | with_reducible apply kept_ite2 | (with_reducible refine kept_forAll (fun _ _ _ => ?_) ?_) | (with_reducible refine kept_foldl (fun _ _ _ => ?_) ?_) | (with_reducible refine kept_foldl1 (fun _ _ _ => ?_) ?_) | with_reducible apply kept_castReg | exact trivial | (simp only [keptRes_trap, keptRes_next, keptRes_finish, keptRes_hold, castAdv_s]) | with_reducible apply keptRes_set | fail_if_no_progress (with_reducible apply kept_mk) | (with_reducible refine kept_of_eq (by with_reducible assumption) ?_) | intro _ _ | split | dsimp only

theorem kept_execSubs (t : Fin 64) (o : RegForm) (s : State) : ∃ r, execSubs t o s = .next r ∧ Kept s r := by
  unfold execSubs
  refine ⟨_, rfl, ?_⟩
  have h := Kept.refl s
  repeat' first | with_reducible assumption | with_reducible apply kept_ite | with_reducible apply kept_ite1 | with_reducible apply kept_ite2 | (with_reducible refine kept_forAll (fun _ _ _ => ?_) ?_) | (with_reducible refine kept_foldl (fun _ _ _ => ?_) ?_) | (with_reducible refine kept_foldl1 (fun _ _ _ => ?_) ?_) | with_reducible apply kept_castReg | exact trivial | (simp only [keptRes_trap, keptRes_next, keptRes_finish, keptRes_hold, castAdv_s]) | with_reducible apply keptRes_set | fail_if_no_progress (with_reducible apply kept_mk) | (with_reducible refine kept_of_eq (by with_reducible assumption) ?_) | intro _ _ | split | dsimp only

theorem kept_execMin (t : Fin 64) (o : RegForm) (s : State) : ∃ r, execMin t o s = .next r ∧ Kept s r := by
  unfold execMin
  refine ⟨_, rfl, ?_⟩
  have h := Kept.refl s
  repeat' first | with_reducible assumption | with_reducible apply kept_ite | with_reducible apply kept_ite1 | with_reducible apply kept_ite2 | (with_reducible refine kept_forAll (fun _ _ _ => ?_) ?_) | (with_reducible refine kept_foldl (fun _ _ _ => ?_) ?_) | (with_reducible refine kept_foldl1 (fun _ _ _ => ?_) ?_) | with_reducible apply kept_castReg | exact trivial | (simp only [keptRes_trap, keptRes_next, keptRes_finish, keptRes_hold, castAdv_s]) | with_reducible apply keptRes_set | fail_if_no_progress (with_reducible apply kept_mk) | (with_reducible refine kept_of_eq (by with_reducible assumption) ?_) | intro _ _ | split | dsimp only

theorem kept_execMax (t : Fin 64) (o : RegForm) (s : State) : ∃ r, execMax t o s = .next r ∧ Kept s r := by
  unfold execMax
  refine ⟨_, rfl, ?_⟩
  have h := Kept.refl s
  repeat' first | with_reducible assumption | with_reducible apply kept_ite | with_reducible apply kept_ite1 | with_reducible apply kept_ite2 | (with_reducible refine kept_forAll (fun _ _ _ => ?_) ?_) | (with_reducible refine kept_foldl (fun _ _ _ => ?_) ?_) | (with_reducible refine kept_foldl1 (fun _ _ _ => ?_) ?_) | with_reducible apply kept_castReg | exact trivial | (simp only [keptRes_trap, keptRes_next, keptRes_finish, keptRes_hold, castAdv_s]) | with_reducible apply keptRes_set | fail_if_no_progress (with_reducible apply kept_mk) | (with_reducible refine kept_of_eq (by with_reducible assumption) ?_) | intro _ _ | split | dsimp only

theorem kept_execMinu (t : Fin 64) (o : RegForm) (s : State) : ∃ r, execMinu t o s = .next r ∧ Kept s r := by
  unfold execMinu
  refine ⟨_, rfl, ?_⟩
  have h := Kept.refl s
  repeat' first | with_reducible assumption | with_reducible apply kept_ite | with_reducible apply kept_ite1 | with_reducible apply kept_ite2 | (with_reducible refine kept_forAll (fun _ _ _ => ?_) ?_) | (with_reducible refine kept_foldl (fun _ _ _ => ?_) ?_) | (with_reducible refine kept_foldl1 (fun _ _ _ => ?_) ?_) | with_reducible apply kept_castReg | exact trivial | (simp only [keptRes_trap, keptRes_next, keptRes_finish, keptRes_hold, castAdv_s]) | with_reducible apply keptRes_set | fail_if_no_progress (with_reducible apply kept_mk) | (with_reducible refine kept_of_eq (by with_reducible assumption) ?_) | intro _ _ | split | dsimp only

theorem kept_execMaxu (t : Fin 64) (o : RegForm) (s : State) : ∃ r, execMaxu t o s = .next r ∧ Kept s r := by
  unfold execMaxu
  refine ⟨_, rfl, ?_⟩
  have h := Kept.refl s
  repeat' first | with_reducible assumption | with_reducible apply kept_ite | with_reducible apply kept_ite1 | with_reducible apply kept_ite2 | (with_reducible refine kept_forAll (fun _ _ _ => ?_) ?_) | (with_reducible refine kept_foldl (fun _ _ _ => ?_) ?_) | (with_reducible refine kept_foldl1 (fun _ _ _ => ?_) ?_) | with_reducible apply kept_castReg | exact trivial | (simp only [keptRes_trap, keptRes_next, keptRes_finish, keptRes_hold, castAdv_s]) | with_reducible apply keptRes_set | fail_if_no_progress (with_reducible apply kept_mk) | (with_reducible refine kept_of_eq (by with_reducible assumption) ?_) | intro _ _ | split | dsimp only

theorem kept_execAbs (t : Fin 64) (o : RegForm) (s : State) : ∃ r, execAbs t o s = .next r ∧ Kept s r := by
  unfold execAbs
  refine ⟨_, rfl, ?_⟩
  have h := Kept.refl s
  repeat' first | with_reducible assumption | with_reducible apply kept_ite | with_reducible apply kept_ite1 | with_reducible apply kept_ite2 | (with_reducible refine kept_forAll (fun _ _ _ => ?_) ?_) | (with_reducible refine kept_foldl (fun _ _ _ => ?_) ?_) | (with_reducible refine kept_foldl1 (fun _ _ _ => ?_) ?_) | with_reducible apply kept_castReg | exact trivial | (simp only [keptRes_trap, keptRes_next, keptRes_finish, keptRes_hold, castAdv_s]) | with_reducible apply keptRes_set | fail_if_no_progress (with_reducible apply kept_mk) | (with_reducible refine kept_of_eq (by with_reducible assumption) ?_) | intro _ _ | split | dsimp only

theorem kept_execBfxExtract (t : Fin 64) (o : RegForm) (s : State) : ∃ r, execBfxExtract t o s = .next r ∧ Kept s r := by
  unfold execBfxExtract
  refine ⟨_, rfl, ?_⟩
  have h := Kept.refl s
  repeat' first | with_reducible assumption | with_reducible apply kept_ite | with_reducible apply kept_ite1 | with_reducible apply kept_ite2 | (with_reducible refine kept_forAll (fun _ _ _ => ?_) ?_) | (with_reducible refine kept_foldl (fun _ _ _ => ?_) ?_) | (with_reducible refine kept_foldl1 (fun _ _ _ => ?_) ?_) | with_reducible apply kept_castReg | exact trivial | (simp only [keptRes_trap, keptRes_next, keptRes_finish, keptRes_hold, castAdv_s]) | with_reducible apply keptRes_set | fail_if_no_progress (with_reducible apply kept_mk) | (with_reducible refine kept_of_eq (by with_reducible assumption) ?_) | intro _ _ | split | dsimp only

theorem kept_execBfxInsert (t : Fin 64) (o : RegForm) (s : State) : ∃ r, execBfxInsert t o s = .next r ∧ Kept s r := by
  unfold execBfxInsert
  refine ⟨_, rfl, ?_⟩
  have h := Kept.refl s
  repeat' first | with_reducible assumption | with_reducible apply kept_ite | with_reducible apply kept_ite1 | with_reducible apply kept_ite2 | (with_reducible refine kept_forAll (fun _ _ _ => ?_) ?_) | (with_reducible refine kept_foldl (fun _ _ _ => ?_) ?_) | (with_reducible refine kept_foldl1 (fun _ _ _ => ?_) ?_) | with_reducible apply kept_castStep | exact trivial | (simp only [keptRes_trap, keptRes_next, keptRes_finish, keptRes_hold, castAdv_s]) | with_reducible apply keptRes_set | fail_if_no_progress (with_reducible apply kept_mk) | (with_reducible refine kept_of_eq (by with_reducible assumption) ?_) | intro _ _ | split | dsimp only

theorem kept_execSet (t : Fin 64) (o : RegForm) (s : State) : ∃ r, execSet t o s = .next r ∧ Kept s r := by
  unfold execSet
  refine ⟨_, rfl, ?_⟩
  have h := Kept.refl s
  repeat' first | with_reducible assumption | with_reducible apply kept_ite | with_reducible apply kept_ite1 | with_reducible apply kept_ite2 | (with_reducible refine kept_forAll (fun _ _ _ => ?_) ?_) | (with_reducible refine kept_foldl (fun _ _ _ => ?_) ?_) | (with_reducible refine kept_foldl1 (fun _ _ _ => ?_) ?_) | with_reducible apply kept_castReg | exact trivial | (simp only [keptRes_trap, keptRes_next, keptRes_finish, keptRes_hold, castAdv_s]) | with_reducible apply keptRes_set | fail_if_no_progress (with_reducible apply kept_mk) | (with_reducible refine kept_of_eq (by with_reducible assumption) ?_) | intro _ _ | split | dsimp only

theorem kept_execFadd (t : Fin 64) (o : RegForm) (s : State) : ∃ r, execFadd t o s = .next r ∧ Kept s r := by
  unfold execFadd
  refine ⟨_, rfl, ?_⟩
  have h := Kept.refl s
  repeat' first | with_reducible assumption | with_reducible apply kept_ite | with_reducible apply kept_ite1 | with_reducible apply kept_ite2 | (with_reducible refine kept_forAll (fun _ _ _ => ?_) ?_) | (with_reducible refine kept_foldl (fun _ _ _ => ?_) ?_) | (with_reducible refine kept_foldl1 (fun _ _ _ => ?_) ?_) | with_reducible apply kept_castReg | exact trivial | (simp only [keptRes_trap, keptRes_next, keptRes_finish, keptRes_hold, castAdv_s]) | with_reducible apply keptRes_set | fail_if_no_progress (with_reducible apply kept_mk) | (with_reducible refine kept_of_eq (by with_reducible assumption) ?_) | intro _ _ | split | dsimp only

theorem kept_execFsub (t : Fin 64) (o : RegForm) (s : State) : ∃ r, execFsub t o s = .next r ∧ Kept s r := by
  unfold execFsub
  refine ⟨_, rfl, ?_⟩
  have h := Kept.refl s
  repeat' first | with_reducible assumption | with_reducible apply kept_ite | with_reducible apply kept_ite1 | with_reducible apply kept_ite2 | (with_reducible refine kept_forAll (fun _ _ _ => ?_) ?_) | (with_reducible refine kept_foldl (fun _ _ _ => ?_) ?_) | (with_reducible refine kept_foldl1 (fun _ _ _ => ?_) ?_) | with_reducible apply kept_castReg | exact trivial | (simp only [keptRes_trap, keptRes_next, keptRes_finish, keptRes_hold, castAdv_s]) | with_reducible apply keptRes_set | fail_if_no_progress (with_reducible apply kept_mk) | (with_reducible refine kept_of_eq (by with_reducible assumption) ?_) | intro _ _ | split | dsimp only

theorem kept_execFmul (t : Fin 64) (o : RegForm) (s : State) : ∃ r, execFmul t o s = .next r ∧ Kept s r := by
  unfold execFmul
  refine ⟨_, rfl, ?_⟩
  have h := Kept.refl s
  repeat' first | with_reducible assumption | with_reducible apply kept_ite | with_reducible apply kept_ite1 | with_reducible apply kept_ite2 | (with_reducible refine kept_forAll (fun _ _ _ => ?_) ?_) | (with_reducible refine kept_foldl (fun _ _ _ => ?_) ?_) | (with_reducible refine kept_foldl1 (fun _ _ _ => ?_) ?_) | with_reducible apply kept_castReg | exact trivial | (simp only [keptRes_trap, keptRes_next, keptRes_finish, keptRes_hold, castAdv_s]) | with_reducible apply keptRes_set | fail_if_no_progress (with_reducible apply kept_mk) | (with_reducible refine kept_of_eq (by with_reducible assumption) ?_) | intro _ _ | split | dsimp only

theorem kept_execFdiv (t : Fin 64) (o : RegForm) (s : State) : ∃ r, execFdiv t o s = .next r ∧ Kept s r := by
  unfold execFdiv
  refine ⟨_, rfl, ?_⟩
  have h := Kept.refl s
  repeat' first | with_reducible assumption | with_reducible apply kept_ite | with_reducible apply kept_ite1 | with_reducible apply kept_ite2 | (with_reducible refine kept_forAll (fun _ _ _ => ?_) ?_) | (with_reducible refine kept_foldl (fun _ _ _ => ?_) ?_) | (with_reducible refine kept_foldl1 (fun _ _ _ => ?_) ?_) | with_reducible apply kept_castReg | exact trivial | (simp only [keptRes_trap, keptRes_next, keptRes_finish, keptRes_hold, castAdv_s]) | with_reducible apply keptRes_set | fail_if_no_progress (with_reducible apply kept_mk) | (with_reducible refine kept_of_eq (by with_reducible assumption) ?_) | intro _ _ | split | dsimp only

theorem kept_execFma (t : Fin 64) (o : RegForm) (s : State) : ∃ r, execFma t o s = .next r ∧ Kept s r := by
  unfold execFma
  refine ⟨_, rfl, ?_⟩
  have h := Kept.refl s
  repeat' first | with_reducible assumption | with_reducible apply kept_ite | with_reducible apply kept_ite1 | with_reducible apply kept_ite2 | (with_reducible refine kept_forAll (fun _ _ _ => ?_) ?_) | (with_reducible refine kept_foldl (fun _ _ _ => ?_) ?_) | (with_reducible refine kept_foldl1 (fun _ _ _ => ?_) ?_) | with_reducible apply kept_castStep | exact trivial | (simp only [keptRes_trap, keptRes_next, keptRes_finish, keptRes_hold, castAdv_s]) | with_reducible apply keptRes_set | fail_if_no_progress (with_reducible apply kept_mk) | (with_reducible refine kept_of_eq (by with_reducible assumption) ?_) | intro _ _ | split | dsimp only

theorem kept_execFsqrt (t : Fin 64) (o : RegForm) (s : State) : ∃ r, execFsqrt t o s = .next r ∧ Kept s r := by
  unfold execFsqrt
  refine ⟨_, rfl, ?_⟩
  have h := Kept.refl s
  repeat' first | with_reducible assumption | with_reducible apply kept_ite | with_reducible apply kept_ite1 | with_reducible apply kept_ite2 | (with_reducible refine kept_forAll (fun _ _ _ => ?_) ?_) | (with_reducible refine kept_foldl (fun _ _ _ => ?_) ?_) | (with_reducible refine kept_foldl1 (fun _ _ _ => ?_) ?_) | with_reducible apply kept_castReg | exact trivial | (simp only [keptRes_trap, keptRes_next, keptRes_finish, keptRes_hold, castAdv_s]) | with_reducible apply keptRes_set | fail_if_no_progress (with_reducible apply kept_mk) | (with_reducible refine kept_of_eq (by with_reducible assumption) ?_) | intro _ _ | split | dsimp only

theorem kept_execFabs (t : Fin 64) (o : RegForm) (s : State) : ∃ r, execFabs t o s = .next r ∧ Kept s r := by
  unfold execFabs
  refine ⟨_, rfl, ?_⟩
  have h := Kept.refl s
  repeat' first | with_reducible assumption | with_reducible apply kept_ite | with_reducible apply kept_ite1 | with_reducible apply kept_ite2 | (with_reducible refine kept_forAll (fun _ _ _ => ?_) ?_) | (with_reducible refine kept_foldl (fun _ _ _ => ?_) ?_) | (with_reducible refine kept_foldl1 (fun _ _ _ => ?_) ?_) | with_reducible apply kept_castReg | exact trivial | (simp only [keptRes_trap, keptRes_next, keptRes_finish, keptRes_hold, castAdv_s]) | with_reducible apply keptRes_set | fail_if_no_progress (with_reducible apply kept_mk) | (with_reducible refine kept_of_eq (by with_reducible assumption) ?_) | intro _ _ | split | dsimp only

theorem kept_execFneg (t : Fin 64) (o : RegForm) (s : State) : ∃ r, execFneg t o s = .next r ∧ Kept s r := by
  unfold execFneg
  refine ⟨_, rfl, ?_⟩
  have h := Kept.refl s
  repeat' first | with_reducible assumption | with_reducible apply kept_ite | with_reducible apply kept_ite1 | with_reducible apply kept_ite2 | (with_reducible refine kept_forAll (fun _ _ _ => ?_) ?_) | (with_reducible refine kept_foldl (fun _ _ _ => ?_) ?_) | (with_reducible refine kept_foldl1 (fun _ _ _ => ?_) ?_) | with_reducible apply kept_castReg | exact trivial | (simp only [keptRes_trap, keptRes_next, keptRes_finish, keptRes_hold, castAdv_s]) | with_reducible apply keptRes_set | fail_if_no_progress (with_reducible apply kept_mk) | (with_reducible refine kept_of_eq (by with_reducible assumption) ?_) | intro _ _ | split | dsimp only

theorem kept_execFmin (t : Fin 64) (o : RegForm) (s : State) : ∃ r, execFmin t o s = .next r ∧ Kept s r := by
  unfold execFmin
  refine ⟨_, rfl, ?_⟩
  have h := Kept.refl s
  repeat' first | with_reducible assumption | with_reducible apply kept_ite | with_reducible apply kept_ite1 | with_reducible apply kept_ite2 | (with_reducible refine kept_forAll (fun _ _ _ => ?_) ?_) | (with_reducible refine kept_foldl (fun _ _ _ => ?_) ?_) | (with_reducible refine kept_foldl1 (fun _ _ _ => ?_) ?_) | with_reducible apply kept_castReg | exact trivial | (simp only [keptRes_trap, keptRes_next, keptRes_finish, keptRes_hold, castAdv_s]) | with_reducible apply keptRes_set | fail_if_no_progress (with_reducible apply kept_mk) | (with_reducible refine kept_of_eq (by with_reducible assumption) ?_) | intro _ _ | split | dsimp only

theorem kept_execFmax (t : Fin 64) (o : RegForm) (s : State) : ∃ r, execFmax t o s = .next r ∧ Kept s r := by
  unfold execFmax
  refine ⟨_, rfl, ?_⟩
  have h := Kept.refl s
  repeat' first | with_reducible assumption | with_reducible apply kept_ite | with_reducible apply kept_ite1 | with_reducible apply kept_ite2 | (with_reducible refine kept_forAll (fun _ _ _ => ?_) ?_) | (with_reducible refine kept_foldl (fun _ _ _ => ?_) ?_) | (with_reducible refine kept_foldl1 (fun _ _ _ => ?_) ?_) | with_reducible apply kept_castReg | exact trivial | (simp only [keptRes_trap, keptRes_next, keptRes_finish, keptRes_hold, castAdv_s]) | with_reducible apply keptRes_set | fail_if_no_progress (with_reducible apply kept_mk) | (with_reducible refine kept_of_eq (by with_reducible assumption) ?_) | intro _ _ | split | dsimp only

theorem kept_execFcvtS32ToFloat (t : Fin 64) (o : RegForm) (s : State) : ∃ r, execFcvtS32ToFloat t o s = .next r ∧ Kept s r := by
  unfold execFcvtS32ToFloat
  refine ⟨_, rfl, ?_⟩
  have h := Kept.refl s
  repeat' first | with_reducible assumption | with_reducible apply kept_ite | with_reducible apply kept_ite1 | with_reducible apply kept_ite2 | (with_reducible refine kept_forAll (fun _ _ _ => ?_) ?_) | (with_reducible refine kept_foldl (fun _ _ _ => ?_) ?_) | (with_reducible refine kept_foldl1 (fun _ _ _ => ?_) ?_) | with_reducible apply kept_castReg | exact trivial | (simp only [keptRes_trap, keptRes_next, keptRes_finish, keptRes_hold, castAdv_s]) | with_reducible apply keptRes_set | fail_if_no_progress (with_reducible apply kept_mk) | (with_reducible refine kept_of_eq (by with_reducible assumption) ?_) | intro _ _ | split | dsimp only

theorem kept_execFcvtU32ToFloat (t : Fin 64) (o : RegForm) (s : State) : ∃ r, execFcvtU32ToFloat t o s = .next r ∧ Kept s r := by
  unfold execFcvtU32ToFloat
  refine ⟨_, rfl, ?_⟩
  have h := Kept.refl s
  repeat' first | with_reducible assumption | with_reducible apply kept_ite | with_reducible apply kept_ite1 | with_reducible apply kept_ite2 | (with_reducible refine kept_forAll (fun _ _ _ => ?_) ?_) | (with_reducible refine kept_foldl (fun _ _ _ => ?_) ?_) | (with_reducible refine kept_foldl1 (fun _ _ _ => ?_) ?_) | with_reducible apply kept_castReg | exact trivial | (simp only [keptRes_trap, keptRes_next, keptRes_finish, keptRes_hold, castAdv_s]) | with_reducible apply keptRes_set | fail_if_no_progress (with_reducible apply kept_mk) | (with_reducible refine kept_of_eq (by with_reducible assumption) ?_) | intro _ _ | split | dsimp only

theorem kept_execFcvtFloatToS32Trunc (t : Fin 64) (o : RegForm) (s : State) : ∃ r, execFcvtFloatToS32Trunc t o s = .next r ∧ Kept s r := by
  unfold execFcvtFloatToS32Trunc
  refine ⟨_, rfl, ?_⟩
  have h := Kept.refl s
  repeat' first | with_reducible assumption | with_reducible apply kept_ite | with_reducible apply kept_ite1 | with_reducible apply kept_ite2 | (with_reducible refine kept_forAll (fun _ _ _ => ?_) ?_) | (with_reducible refine kept_foldl (fun _ _ _ => ?_) ?_) | (with_reducible refine kept_foldl1 (fun _ _ _ => ?_) ?_) | with_reducible apply kept_castReg | exact trivial | (simp only [keptRes_trap, keptRes_next, keptRes_finish, keptRes_hold, castAdv_s]) | with_reducible apply keptRes_set | fail_if_no_progress (with_reducible apply kept_mk) | (with_reducible refine kept_of_eq (by with_reducible assumption) ?_) | intro _ _ | split | dsimp only

theorem kept_execFcvtFloatToS32Nearest (t : Fin 64) (o : RegForm) (s : State) : ∃ r, execFcvtFloatToS32Nearest t o s = .next r ∧ Kept s r := by
  unfold execFcvtFloatToS32Nearest
  refine ⟨_, rfl, ?_⟩
  have h := Kept.refl s
  repeat' first | with_reducible assumption | with_reducible apply kept_ite | with_reducible apply kept_ite1 | with_reducible apply kept_ite2 | (with_reducible refine kept_forAll (fun _ _ _ => ?_) ?_) | (with_reducible refine kept_foldl (fun _ _ _ => ?_) ?_) | (with_reducible refine kept_foldl1 (fun _ _ _ => ?_) ?_) | with_reducible apply kept_castReg | exact trivial | (simp only [keptRes_trap, keptRes_next, keptRes_finish, keptRes_hold, castAdv_s]) | with_reducible apply keptRes_set | fail_if_no_progress (with_reducible apply kept_mk) | (with_reducible refine kept_of_eq (by with_reducible assumption) ?_) | intro _ _ | split | dsimp only

theorem kept_execFcvtFloatToU32Trunc (t : Fin 64) (o : RegForm) (s : State) : ∃ r, execFcvtFloatToU32Trunc t o s = .next r ∧ Kept s r := by
  unfold execFcvtFloatToU32Trunc
  refine ⟨_, rfl, ?_⟩
  have h := Kept.refl s
  repeat' first | with_reducible assumption | with_reducible apply kept_ite | with_reducible apply kept_ite1 | with_reducible apply kept_ite2 | (with_reducible refine kept_forAll (fun _ _ _ => ?_) ?_) | (with_reducible refine kept_foldl (fun _ _ _ => ?_) ?_) | (with_reducible refine kept_foldl1 (fun _ _ _ => ?_) ?_) | with_reducible apply kept_castReg | exact trivial | (simp only [keptRes_trap, keptRes_next, keptRes_finish, keptRes_hold, castAdv_s]) | with_reducible apply keptRes_set | fail_if_no_progress (with_reducible apply kept_mk) | (with_reducible refine kept_of_eq (by with_reducible assumption) ?_) | intro _ _ | split | dsimp only

theorem kept_execFcmp (t : Fin 64) (o : RegForm) (s : State) : ∃ r, execFcmp t o s = .next r ∧ Kept s r := by
  unfold execFcmp
  refine ⟨_, rfl, ?_⟩
  have h := Kept.refl s
  repeat' first | with_reducible assumption | with_reducible apply kept_ite | with_reducible apply kept_ite1 | with_reducible apply kept_ite2 | (with_reducible refine kept_forAll (fun _ _ _ => ?_) ?_) | (with_reducible refine kept_foldl (fun _ _ _ => ?_) ?_) | (with_reducible refine kept_foldl1 (fun _ _ _ => ?_) ?_) | with_reducible apply kept_castReg | exact trivial | (simp only [keptRes_trap, keptRes_next, keptRes_finish, keptRes_hold, castAdv_s]) | with_reducible apply keptRes_set | fail_if_no_progress (with_reducible apply kept_mk) | (with_reducible refine kept_of_eq (by with_reducible assumption) ?_) | intro _ _ | split | dsimp only

theorem kept_execLdw (t : Fin 64) (o : MemForm) (s : State) : ∃ r, execLdw t o s = .next r ∧ Kept s r := by
  unfold execLdw
  refine ⟨_, rfl, ?_⟩
  have h := Kept.refl s
  repeat' first | with_reducible assumption | with_reducible apply kept_ite | with_reducible apply kept_ite1 | with_reducible apply kept_ite2 | (with_reducible refine kept_forAll (fun _ _ _ => ?_) ?_) | (with_reducible refine kept_foldl (fun _ _ _ => ?_) ?_) | (with_reducible refine kept_foldl1 (fun _ _ _ => ?_) ?_) | with_reducible apply kept_castStep | with_reducible apply keptRes_castLoad | exact trivial | (simp only [keptRes_trap, keptRes_next, keptRes_finish, keptRes_hold, castAdv_s]) | with_reducible apply keptRes_set | fail_if_no_progress (with_reducible apply kept_mk) | (with_reducible refine kept_of_eq (by with_reducible assumption) ?_) | intro _ _ | split | dsimp only

theorem kept_execLdh (t : Fin 64) (o : MemForm) (s : State) : ∃ r, execLdh t o s = .next r ∧ Kept s r := by
  unfold execLdh
  refine ⟨_, rfl, ?_⟩
  have h := Kept.refl s
  repeat' first | with_reducible assumption | with_reducible apply kept_ite | with_reducible apply kept_ite1 | with_reducible apply kept_ite2 | (with_reducible refine kept_forAll (fun _ _ _ => ?_) ?_) | (with_reducible refine kept_foldl (fun _ _ _ => ?_) ?_) | (with_reducible refine kept_foldl1 (fun _ _ _ => ?_) ?_) | with_reducible apply kept_castStep | with_reducible apply keptRes_castLoad | exact trivial | (simp only [keptRes_trap, keptRes_next, keptRes_finish, keptRes_hold, castAdv_s]) | with_reducible apply keptRes_set | fail_if_no_progress (with_reducible apply kept_mk) | (with_reducible refine kept_of_eq (by with_reducible assumption) ?_) | intro _ _ | split | dsimp only

theorem kept_execLdhu (t : Fin 64) (o : MemForm) (s : State) : ∃ r, execLdhu t o s = .next r ∧ Kept s r := by
  unfold execLdhu
  refine ⟨_, rfl, ?_⟩
  have h := Kept.refl s
  repeat' first | with_reducible assumption | with_reducible apply kept_ite | with_reducible apply kept_ite1 | with_reducible apply kept_ite2 | (with_reducible refine kept_forAll (fun _ _ _ => ?_) ?_) | (with_reducible refine kept_foldl (fun _ _ _ => ?_) ?_) | (with_reducible refine kept_foldl1 (fun _ _ _ => ?_) ?_) | with_reducible apply kept_castStep | with_reducible apply keptRes_castLoad | exact trivial | (simp only [keptRes_trap, keptRes_next, keptRes_finish, keptRes_hold, castAdv_s]) | with_reducible apply keptRes_set | fail_if_no_progress (with_reducible apply kept_mk) | (with_reducible refine kept_of_eq (by with_reducible assumption) ?_) | intro _ _ | split | dsimp only

theorem kept_execLdb (t : Fin 64) (o : MemForm) (s : State) : ∃ r, execLdb t o s = .next r ∧ Kept s r := by
  unfold execLdb
  refine ⟨_, rfl, ?_⟩
  have h := Kept.refl s
  repeat' first | with_reducible assumption | with_reducible apply kept_ite | with_reducible apply kept_ite1 | with_reducible apply kept_ite2 | (with_reducible refine kept_forAll (fun _ _ _ => ?_) ?_) | (with_reducible refine kept_foldl (fun _ _ _ => ?_) ?_) | (with_reducible refine kept_foldl1 (fun _ _ _ => ?_) ?_) | with_reducible apply kept_castStep | with_reducible apply keptRes_castLoad | exact trivial | (simp only [keptRes_trap, keptRes_next, keptRes_finish, keptRes_hold, castAdv_s]) | with_reducible apply keptRes_set | fail_if_no_progress (with_reducible apply kept_mk) | (with_reducible refine kept_of_eq (by with_reducible assumption) ?_) | intro _ _ | split | dsimp only

theorem kept_execLdbu (t : Fin 64) (o : MemForm) (s : State) : ∃ r, execLdbu t o s = .next r ∧ Kept s r := by
  unfold execLdbu
  refine ⟨_, rfl, ?_⟩
  have h := Kept.refl s
  repeat' first | with_reducible assumption | with_reducible apply kept_ite | with_reducible apply kept_ite1 | with_reducible apply kept_ite2 | (with_reducible refine kept_forAll (fun _ _ _ => ?_) ?_) | (with_reducible refine kept_foldl (fun _ _ _ => ?_) ?_) | (with_reducible refine kept_foldl1 (fun _ _ _ => ?_) ?_) | with_reducible apply kept_castStep | with_reducible apply keptRes_castLoad | exact trivial | (simp only [keptRes_trap, keptRes_next, keptRes_finish, keptRes_hold, castAdv_s]) | with_reducible apply keptRes_set | fail_if_no_progress (with_reducible apply kept_mk) | (with_reducible refine kept_of_eq (by with_reducible assumption) ?_) | intro _ _ | split | dsimp only

theorem kept_execStw (t : Fin 64) (o : MemForm) (s : State) : ∃ r, execStw t o s = .next r ∧ Kept s r := by
  unfold execStw
  refine ⟨_, rfl, ?_⟩
  have h := Kept.refl s
  repeat' first | with_reducible assumption | with_reducible apply kept_ite | with_reducible apply kept_ite1 | with_reducible apply kept_ite2 | (with_reducible refine kept_forAll (fun _ _ _ => ?_) ?_) | (with_reducible refine kept_foldl (fun _ _ _ => ?_) ?_) | (with_reducible refine kept_foldl1 (fun _ _ _ => ?_) ?_) | with_reducible apply kept_castStep | with_reducible apply keptRes_castPut | exact trivial | (simp only [keptRes_trap, keptRes_next, keptRes_finish, keptRes_hold, castAdv_s]) | with_reducible apply keptRes_set | fail_if_no_progress (with_reducible apply kept_mk) | (with_reducible refine kept_of_eq (by with_reducible assumption) ?_) | intro _ _ | split | dsimp only

theorem kept_execSth (t : Fin 64) (o : MemForm) (s : State) : ∃ r, execSth t o s = .next r ∧ Kept s r := by
  unfold execSth
  refine ⟨_, rfl, ?_⟩
  have h := Kept.refl s
  repeat' first | with_reducible assumption | with_reducible apply kept_ite | with_reducible apply kept_ite1 | with_reducible apply kept_ite2 | (with_reducible refine kept_forAll (fun _ _ _ => ?_) ?_) | (with_reducible refine kept_foldl (fun _ _ _ => ?_) ?_) | (with_reducible refine kept_foldl1 (fun _ _ _ => ?_) ?_) | with_reducible apply kept_castStep | with_reducible apply keptRes_castPut | exact trivial | (simp only [keptRes_trap, keptRes_next, keptRes_finish, keptRes_hold, castAdv_s]) | with_reducible apply keptRes_set | fail_if_no_progress (with_reducible apply kept_mk) | (with_reducible refine kept_of_eq (by with_reducible assumption) ?_) | intro _ _ | split | dsimp only

theorem kept_execStb (t : Fin 64) (o : MemForm) (s : State) : ∃ r, execStb t o s = .next r ∧ Kept s r := by
  unfold execStb
  refine ⟨_, rfl, ?_⟩
  have h := Kept.refl s
  repeat' first | with_reducible assumption | with_reducible apply kept_ite | with_reducible apply kept_ite1 | with_reducible apply kept_ite2 | (with_reducible refine kept_forAll (fun _ _ _ => ?_) ?_) | (with_reducible refine kept_foldl (fun _ _ _ => ?_) ?_) | (with_reducible refine kept_foldl1 (fun _ _ _ => ?_) ?_) | with_reducible apply kept_castStep | with_reducible apply keptRes_castPut | exact trivial | (simp only [keptRes_trap, keptRes_next, keptRes_finish, keptRes_hold, castAdv_s]) | with_reducible apply keptRes_set | fail_if_no_progress (with_reducible apply kept_mk) | (with_reducible refine kept_of_eq (by with_reducible assumption) ?_) | intro _ _ | split | dsimp only

theorem kept_execLdd (t : Fin 64) (o : MemForm) (s : State) : ∃ r, execLdd t o s = .next r ∧ Kept s r := by
  unfold execLdd
  refine ⟨_, rfl, ?_⟩
  have h := Kept.refl s
  repeat' first | with_reducible assumption | with_reducible apply kept_ite | with_reducible apply kept_ite1 | with_reducible apply kept_ite2 | (with_reducible refine kept_forAll (fun _ _ _ => ?_) ?_) | (with_reducible refine kept_foldl (fun _ _ _ => ?_) ?_) | (with_reducible refine kept_foldl1 (fun _ _ _ => ?_) ?_) | with_reducible apply kept_castStep | with_reducible apply keptRes_castLdd | exact trivial | (simp only [keptRes_trap, keptRes_next, keptRes_finish, keptRes_hold, castAdv_s]) | with_reducible apply keptRes_set | fail_if_no_progress (with_reducible apply kept_mk) | (with_reducible refine kept_of_eq (by with_reducible assumption) ?_) | intro _ _ | split | dsimp only

theorem kept_execStd (t : Fin 64) (o : MemForm) (s : State) : ∃ r, execStd t o s = .next r ∧ Kept s r := by
  unfold execStd
  refine ⟨_, rfl, ?_⟩
  have h := Kept.refl s
  repeat' first | with_reducible assumption | with_reducible apply kept_ite | with_reducible apply kept_ite1 | with_reducible apply kept_ite2 | (with_reducible refine kept_forAll (fun _ _ _ => ?_) ?_) | (with_reducible refine kept_foldl (fun _ _ _ => ?_) ?_) | (with_reducible refine kept_foldl1 (fun _ _ _ => ?_) ?_) | with_reducible apply kept_castStep | with_reducible apply keptRes_castStd | exact trivial | (simp only [keptRes_trap, keptRes_next, keptRes_finish, keptRes_hold, castAdv_s]) | with_reducible apply keptRes_set | fail_if_no_progress (with_reducible apply kept_mk) | (with_reducible refine kept_of_eq (by with_reducible assumption) ?_) | intro _ _ | split | dsimp only

theorem kept_execMovi (t : Fin 64) (o : ImmForm) (s : State) : ∃ r, execMovi t o s = .next r ∧ Kept s r := by
  unfold execMovi
  refine ⟨_, rfl, ?_⟩
  have h := Kept.refl s
  repeat' first | with_reducible assumption | with_reducible apply kept_ite | with_reducible apply kept_ite1 | with_reducible apply kept_ite2 | (with_reducible refine kept_forAll (fun _ _ _ => ?_) ?_) | (with_reducible refine kept_foldl (fun _ _ _ => ?_) ?_) | (with_reducible refine kept_foldl1 (fun _ _ _ => ?_) ?_) | with_reducible apply kept_castStep | exact trivial | (simp only [keptRes_trap, keptRes_next, keptRes_finish, keptRes_hold, castAdv_s]) | with_reducible apply keptRes_set | fail_if_no_progress (with_reducible apply kept_mk) | (with_reducible refine kept_of_eq (by with_reducible assumption) ?_) | intro _ _ | split | dsimp only

theorem kept_execLui (t : Fin 64) (o : ImmForm) (s : State) : ∃ r, execLui t o s = .next r ∧ Kept s r := by
  unfold execLui
  refine ⟨_, rfl, ?_⟩
  have h := Kept.refl s
  repeat' first | with_reducible assumption | with_reducible apply kept_ite | with_reducible apply kept_ite1 | with_reducible apply kept_ite2 | (with_reducible refine kept_forAll (fun _ _ _ => ?_) ?_) | (with_reducible refine kept_foldl (fun _ _ _ => ?_) ?_) | (with_reducible refine kept_foldl1 (fun _ _ _ => ?_) ?_) | with_reducible apply kept_castStep | exact trivial | (simp only [keptRes_trap, keptRes_next, keptRes_finish, keptRes_hold, castAdv_s]) | with_reducible apply keptRes_set | fail_if_no_progress (with_reducible apply kept_mk) | (with_reducible refine kept_of_eq (by with_reducible assumption) ?_) | intro _ _ | split | dsimp only

theorem kept_execMfs (t : Fin 64) (o : RegForm) (s : State) : ∃ r, execMfs t o s = .next r ∧ Kept s r := by
  unfold execMfs
  refine ⟨_, rfl, ?_⟩
  have h := Kept.refl s
  repeat' first | with_reducible assumption | with_reducible apply kept_ite | with_reducible apply kept_ite1 | with_reducible apply kept_ite2 | (with_reducible refine kept_forAll (fun _ _ _ => ?_) ?_) | (with_reducible refine kept_foldl (fun _ _ _ => ?_) ?_) | (with_reducible refine kept_foldl1 (fun _ _ _ => ?_) ?_) | with_reducible apply kept_castStep | exact trivial | (simp only [keptRes_trap, keptRes_next, keptRes_finish, keptRes_hold, castAdv_s]) | with_reducible apply keptRes_set | fail_if_no_progress (with_reducible apply kept_mk) | (with_reducible refine kept_of_eq (by with_reducible assumption) ?_) | intro _ _ | split | dsimp only

theorem kept_execMts (t : Fin 64) (o : RegForm) (s : State) : ∃ r, execMts t o s = .next r ∧ Kept s r := by
  unfold execMts
  refine ⟨_, rfl, ?_⟩
  have h := Kept.refl s
  repeat' first | with_reducible assumption | with_reducible apply kept_ite | with_reducible apply kept_ite1 | with_reducible apply kept_ite2 | (with_reducible refine kept_forAll (fun _ _ _ => ?_) ?_) | (with_reducible refine kept_foldl (fun _ _ _ => ?_) ?_) | (with_reducible refine kept_foldl1 (fun _ _ _ => ?_) ?_) | with_reducible apply kept_castStep | with_reducible apply keptRes_castMts | exact trivial | (simp only [keptRes_trap, keptRes_next, keptRes_finish, keptRes_hold, castAdv_s]) | with_reducible apply keptRes_set | fail_if_no_progress (with_reducible apply kept_mk) | (with_reducible refine kept_of_eq (by with_reducible assumption) ?_) | intro _ _ | split | dsimp only

theorem kept_execBeq (t : Fin 64) (o : BrForm) (s : State) : ∃ r, execBeq t o s = .next r ∧ Kept s r := by
  unfold execBeq
  refine ⟨_, rfl, ?_⟩
  have h := Kept.refl s
  repeat' first | with_reducible assumption | with_reducible apply kept_ite | with_reducible apply kept_ite1 | with_reducible apply kept_ite2 | (with_reducible refine kept_forAll (fun _ _ _ => ?_) ?_) | (with_reducible refine kept_foldl (fun _ _ _ => ?_) ?_) | (with_reducible refine kept_foldl1 (fun _ _ _ => ?_) ?_) | with_reducible apply kept_castBranch | exact trivial | (simp only [keptRes_trap, keptRes_next, keptRes_finish, keptRes_hold, castAdv_s]) | with_reducible apply keptRes_set | fail_if_no_progress (with_reducible apply kept_mk) | (with_reducible refine kept_of_eq (by with_reducible assumption) ?_) | intro _ _ | split | dsimp only

theorem kept_execBne (t : Fin 64) (o : BrForm) (s : State) : ∃ r, execBne t o s = .next r ∧ Kept s r := by
  unfold execBne
  refine ⟨_, rfl, ?_⟩
  have h := Kept.refl s
  repeat' first | with_reducible assumption | with_reducible apply kept_ite | with_reducible apply kept_ite1 | with_reducible apply kept_ite2 | (with_reducible refine kept_forAll (fun _ _ _ => ?_) ?_) | (with_reducible refine kept_foldl (fun _ _ _ => ?_) ?_) | (with_reducible refine kept_foldl1 (fun _ _ _ => ?_) ?_) | with_reducible apply kept_castBranch | exact trivial | (simp only [keptRes_trap, keptRes_next, keptRes_finish, keptRes_hold, castAdv_s]) | with_reducible apply keptRes_set | fail_if_no_progress (with_reducible apply kept_mk) | (with_reducible refine kept_of_eq (by with_reducible assumption) ?_) | intro _ _ | split | dsimp only

theorem kept_execBlt (t : Fin 64) (o : BrForm) (s : State) : ∃ r, execBlt t o s = .next r ∧ Kept s r := by
  unfold execBlt
  refine ⟨_, rfl, ?_⟩
  have h := Kept.refl s
  repeat' first | with_reducible assumption | with_reducible apply kept_ite | with_reducible apply kept_ite1 | with_reducible apply kept_ite2 | (with_reducible refine kept_forAll (fun _ _ _ => ?_) ?_) | (with_reducible refine kept_foldl (fun _ _ _ => ?_) ?_) | (with_reducible refine kept_foldl1 (fun _ _ _ => ?_) ?_) | with_reducible apply kept_castBranch | exact trivial | (simp only [keptRes_trap, keptRes_next, keptRes_finish, keptRes_hold, castAdv_s]) | with_reducible apply keptRes_set | fail_if_no_progress (with_reducible apply kept_mk) | (with_reducible refine kept_of_eq (by with_reducible assumption) ?_) | intro _ _ | split | dsimp only

theorem kept_execBge (t : Fin 64) (o : BrForm) (s : State) : ∃ r, execBge t o s = .next r ∧ Kept s r := by
  unfold execBge
  refine ⟨_, rfl, ?_⟩
  have h := Kept.refl s
  repeat' first | with_reducible assumption | with_reducible apply kept_ite | with_reducible apply kept_ite1 | with_reducible apply kept_ite2 | (with_reducible refine kept_forAll (fun _ _ _ => ?_) ?_) | (with_reducible refine kept_foldl (fun _ _ _ => ?_) ?_) | (with_reducible refine kept_foldl1 (fun _ _ _ => ?_) ?_) | with_reducible apply kept_castBranch | exact trivial | (simp only [keptRes_trap, keptRes_next, keptRes_finish, keptRes_hold, castAdv_s]) | with_reducible apply keptRes_set | fail_if_no_progress (with_reducible apply kept_mk) | (with_reducible refine kept_of_eq (by with_reducible assumption) ?_) | intro _ _ | split | dsimp only

theorem kept_execBltu (t : Fin 64) (o : BrForm) (s : State) : ∃ r, execBltu t o s = .next r ∧ Kept s r := by
  unfold execBltu
  refine ⟨_, rfl, ?_⟩
  have h := Kept.refl s
  repeat' first | with_reducible assumption | with_reducible apply kept_ite | with_reducible apply kept_ite1 | with_reducible apply kept_ite2 | (with_reducible refine kept_forAll (fun _ _ _ => ?_) ?_) | (with_reducible refine kept_foldl (fun _ _ _ => ?_) ?_) | (with_reducible refine kept_foldl1 (fun _ _ _ => ?_) ?_) | with_reducible apply kept_castBranch | exact trivial | (simp only [keptRes_trap, keptRes_next, keptRes_finish, keptRes_hold, castAdv_s]) | with_reducible apply keptRes_set | fail_if_no_progress (with_reducible apply kept_mk) | (with_reducible refine kept_of_eq (by with_reducible assumption) ?_) | intro _ _ | split | dsimp only

theorem kept_execBgeu (t : Fin 64) (o : BrForm) (s : State) : ∃ r, execBgeu t o s = .next r ∧ Kept s r := by
  unfold execBgeu
  refine ⟨_, rfl, ?_⟩
  have h := Kept.refl s
  repeat' first | with_reducible assumption | with_reducible apply kept_ite | with_reducible apply kept_ite1 | with_reducible apply kept_ite2 | (with_reducible refine kept_forAll (fun _ _ _ => ?_) ?_) | (with_reducible refine kept_foldl (fun _ _ _ => ?_) ?_) | (with_reducible refine kept_foldl1 (fun _ _ _ => ?_) ?_) | with_reducible apply kept_castBranch | exact trivial | (simp only [keptRes_trap, keptRes_next, keptRes_finish, keptRes_hold, castAdv_s]) | with_reducible apply keptRes_set | fail_if_no_progress (with_reducible apply kept_mk) | (with_reducible refine kept_of_eq (by with_reducible assumption) ?_) | intro _ _ | split | dsimp only

theorem kept_execJmp (t : Fin 64) (o : BrForm) (s : State) : ∃ r, execJmp t o s = .next r ∧ Kept s r := by
  unfold execJmp
  refine ⟨_, rfl, ?_⟩
  have h := Kept.refl s
  repeat' first | with_reducible assumption | with_reducible apply kept_ite | with_reducible apply kept_ite1 | with_reducible apply kept_ite2 | (with_reducible refine kept_forAll (fun _ _ _ => ?_) ?_) | (with_reducible refine kept_foldl (fun _ _ _ => ?_) ?_) | (with_reducible refine kept_foldl1 (fun _ _ _ => ?_) ?_) | with_reducible apply kept_castStep | exact trivial | (simp only [keptRes_trap, keptRes_next, keptRes_finish, keptRes_hold, castAdv_s]) | with_reducible apply keptRes_set | fail_if_no_progress (with_reducible apply kept_mk) | (with_reducible refine kept_of_eq (by with_reducible assumption) ?_) | intro _ _ | split | dsimp only

theorem kept_execCall (t : Fin 64) (o : BrForm) (s : State) : ∃ r, execCall t o s = .next r ∧ Kept s r := by
  unfold execCall
  refine ⟨_, rfl, ?_⟩
  have h := Kept.refl s
  repeat' first | with_reducible assumption | with_reducible apply kept_ite | with_reducible apply kept_ite1 | with_reducible apply kept_ite2 | (with_reducible refine kept_forAll (fun _ _ _ => ?_) ?_) | (with_reducible refine kept_foldl (fun _ _ _ => ?_) ?_) | (with_reducible refine kept_foldl1 (fun _ _ _ => ?_) ?_) | with_reducible apply kept_castStep | with_reducible apply keptRes_castCall | exact trivial | (simp only [keptRes_trap, keptRes_next, keptRes_finish, keptRes_hold, castAdv_s]) | with_reducible apply keptRes_set | fail_if_no_progress (with_reducible apply kept_mk) | (with_reducible refine kept_of_eq (by with_reducible assumption) ?_) | intro _ _ | split | dsimp only

theorem kept_execCallr (t : Fin 64) (o : RegForm) (s : State) : ∃ r, execCallr t o s = .next r ∧ Kept s r := by
  unfold execCallr
  refine ⟨_, rfl, ?_⟩
  have h := Kept.refl s
  repeat' first | with_reducible assumption | with_reducible apply kept_ite | with_reducible apply kept_ite1 | with_reducible apply kept_ite2 | (with_reducible refine kept_forAll (fun _ _ _ => ?_) ?_) | (with_reducible refine kept_foldl (fun _ _ _ => ?_) ?_) | (with_reducible refine kept_foldl1 (fun _ _ _ => ?_) ?_) | with_reducible apply kept_castStep | with_reducible apply keptRes_castCall | exact trivial | (simp only [keptRes_trap, keptRes_next, keptRes_finish, keptRes_hold, castAdv_s]) | with_reducible apply keptRes_set | fail_if_no_progress (with_reducible apply kept_mk) | (with_reducible refine kept_of_eq (by with_reducible assumption) ?_) | intro _ _ | split | dsimp only

theorem kept_execRet (t : Fin 64) (o : RegForm) (s : State) : ∃ r, execRet t o s = .next r ∧ Kept s r := by
  unfold execRet
  refine ⟨_, rfl, ?_⟩
  have h := Kept.refl s
  repeat' first | with_reducible assumption | with_reducible apply kept_ite | with_reducible apply kept_ite1 | with_reducible apply kept_ite2 | (with_reducible refine kept_forAll (fun _ _ _ => ?_) ?_) | (with_reducible refine kept_foldl (fun _ _ _ => ?_) ?_) | (with_reducible refine kept_foldl1 (fun _ _ _ => ?_) ?_) | with_reducible apply kept_castStep | with_reducible apply keptRes_castRet | exact trivial | (simp only [keptRes_trap, keptRes_next, keptRes_finish, keptRes_hold, castAdv_s]) | with_reducible apply keptRes_set | fail_if_no_progress (with_reducible apply kept_mk) | (with_reducible refine kept_of_eq (by with_reducible assumption) ?_) | intro _ _ | split | dsimp only

theorem kept_execSysRelLo (t : Fin 64) (o : ImmForm) (s : State) : ∃ r, execSysRelLo t o s = .next r ∧ Kept s r := by
  unfold execSysRelLo
  refine ⟨_, rfl, ?_⟩
  have h := Kept.refl s
  repeat' first | with_reducible assumption | with_reducible apply kept_ite | with_reducible apply kept_ite1 | with_reducible apply kept_ite2 | (with_reducible refine kept_forAll (fun _ _ _ => ?_) ?_) | (with_reducible refine kept_foldl (fun _ _ _ => ?_) ?_) | (with_reducible refine kept_foldl1 (fun _ _ _ => ?_) ?_) | with_reducible apply kept_castSys | exact trivial | (simp only [keptRes_trap, keptRes_next, keptRes_finish, keptRes_hold, castAdv_s]) | with_reducible apply keptRes_set | fail_if_no_progress (with_reducible apply kept_mk) | (with_reducible refine kept_of_eq (by with_reducible assumption) ?_) | intro _ _ | split | dsimp only

theorem kept_execSysRelHi (t : Fin 64) (o : ImmForm) (s : State) : ∃ r, execSysRelHi t o s = .next r ∧ Kept s r := by
  unfold execSysRelHi
  refine ⟨_, rfl, ?_⟩
  have h := Kept.refl s
  repeat' first | with_reducible assumption | with_reducible apply kept_ite | with_reducible apply kept_ite1 | with_reducible apply kept_ite2 | (with_reducible refine kept_forAll (fun _ _ _ => ?_) ?_) | (with_reducible refine kept_foldl (fun _ _ _ => ?_) ?_) | (with_reducible refine kept_foldl1 (fun _ _ _ => ?_) ?_) | with_reducible apply kept_castSys | exact trivial | (simp only [keptRes_trap, keptRes_next, keptRes_finish, keptRes_hold, castAdv_s]) | with_reducible apply keptRes_set | fail_if_no_progress (with_reducible apply kept_mk) | (with_reducible refine kept_of_eq (by with_reducible assumption) ?_) | intro _ _ | split | dsimp only

theorem kept_execSysTbLo (t : Fin 64) (o : ImmForm) (s : State) : ∃ r, execSysTbLo t o s = .next r ∧ Kept s r := by
  unfold execSysTbLo
  refine ⟨_, rfl, ?_⟩
  have h := Kept.refl s
  repeat' first | with_reducible assumption | with_reducible apply kept_ite | with_reducible apply kept_ite1 | with_reducible apply kept_ite2 | (with_reducible refine kept_forAll (fun _ _ _ => ?_) ?_) | (with_reducible refine kept_foldl (fun _ _ _ => ?_) ?_) | (with_reducible refine kept_foldl1 (fun _ _ _ => ?_) ?_) | with_reducible apply kept_castStep | exact trivial | (simp only [keptRes_trap, keptRes_next, keptRes_finish, keptRes_hold, castAdv_s]) | with_reducible apply keptRes_set | fail_if_no_progress (with_reducible apply kept_mk) | (with_reducible refine kept_of_eq (by with_reducible assumption) ?_) | intro _ _ | split | dsimp only

theorem kept_execSysTbHi (t : Fin 64) (o : ImmForm) (s : State) : ∃ r, execSysTbHi t o s = .next r ∧ Kept s r := by
  unfold execSysTbHi
  refine ⟨_, rfl, ?_⟩
  have h := Kept.refl s
  repeat' first | with_reducible assumption | with_reducible apply kept_ite | with_reducible apply kept_ite1 | with_reducible apply kept_ite2 | (with_reducible refine kept_forAll (fun _ _ _ => ?_) ?_) | (with_reducible refine kept_foldl (fun _ _ _ => ?_) ?_) | (with_reducible refine kept_foldl1 (fun _ _ _ => ?_) ?_) | with_reducible apply kept_castSys | exact trivial | (simp only [keptRes_trap, keptRes_next, keptRes_finish, keptRes_hold, castAdv_s]) | with_reducible apply keptRes_set | fail_if_no_progress (with_reducible apply kept_mk) | (with_reducible refine kept_of_eq (by with_reducible assumption) ?_) | intro _ _ | split | dsimp only

theorem kept_execSysSt (t : Fin 64) (o : ImmForm) (s : State) : ∃ r, execSysSt t o s = .next r ∧ Kept s r := by
  unfold execSysSt
  refine ⟨_, rfl, ?_⟩
  have h := Kept.refl s
  repeat' first | with_reducible assumption | with_reducible apply kept_ite | with_reducible apply kept_ite1 | with_reducible apply kept_ite2 | (with_reducible refine kept_forAll (fun _ _ _ => ?_) ?_) | (with_reducible refine kept_foldl (fun _ _ _ => ?_) ?_) | (with_reducible refine kept_foldl1 (fun _ _ _ => ?_) ?_) | with_reducible apply kept_castSys | exact trivial | (simp only [keptRes_trap, keptRes_next, keptRes_finish, keptRes_hold, castAdv_s]) | with_reducible apply keptRes_set | fail_if_no_progress (with_reducible apply kept_mk) | (with_reducible refine kept_of_eq (by with_reducible assumption) ?_) | intro _ _ | split | dsimp only

theorem kept_execSysStClr (t : Fin 64) (o : ImmForm) (s : State) : ∃ r, execSysStClr t o s = .next r ∧ Kept s r := by
  unfold execSysStClr
  refine ⟨_, rfl, ?_⟩
  have h := Kept.refl s
  repeat' first | with_reducible assumption | with_reducible apply kept_ite | with_reducible apply kept_ite1 | with_reducible apply kept_ite2 | (with_reducible refine kept_forAll (fun _ _ _ => ?_) ?_) | (with_reducible refine kept_foldl (fun _ _ _ => ?_) ?_) | (with_reducible refine kept_foldl1 (fun _ _ _ => ?_) ?_) | with_reducible apply kept_castStep | exact trivial | (simp only [keptRes_trap, keptRes_next, keptRes_finish, keptRes_hold, castAdv_s]) | with_reducible apply keptRes_set | fail_if_no_progress (with_reducible apply kept_mk) | (with_reducible refine kept_of_eq (by with_reducible assumption) ?_) | intro _ _ | split | dsimp only

theorem kept_execSysTask (t : Fin 64) (o : ImmForm) (s : State) : ∃ r, execSysTask t o s = .next r ∧ Kept s r := by
  unfold execSysTask
  refine ⟨_, rfl, ?_⟩
  have h := Kept.refl s
  repeat' first | with_reducible assumption | with_reducible apply kept_ite | with_reducible apply kept_ite1 | with_reducible apply kept_ite2 | (with_reducible refine kept_forAll (fun _ _ _ => ?_) ?_) | (with_reducible refine kept_foldl (fun _ _ _ => ?_) ?_) | (with_reducible refine kept_foldl1 (fun _ _ _ => ?_) ?_) | with_reducible apply kept_castSys | exact trivial | (simp only [keptRes_trap, keptRes_next, keptRes_finish, keptRes_hold, castAdv_s]) | with_reducible apply keptRes_set | fail_if_no_progress (with_reducible apply kept_mk) | (with_reducible refine kept_of_eq (by with_reducible assumption) ?_) | intro _ _ | split | dsimp only

theorem kept_execSysMode (t : Fin 64) (o : ImmForm) (s : State) : ∃ r, execSysMode t o s = .next r ∧ Kept s r := by
  unfold execSysMode
  refine ⟨_, rfl, ?_⟩
  have h := Kept.refl s
  repeat' first | with_reducible assumption | with_reducible apply kept_ite | with_reducible apply kept_ite1 | with_reducible apply kept_ite2 | (with_reducible refine kept_forAll (fun _ _ _ => ?_) ?_) | (with_reducible refine kept_foldl (fun _ _ _ => ?_) ?_) | (with_reducible refine kept_foldl1 (fun _ _ _ => ?_) ?_) | with_reducible apply kept_castSys | exact trivial | (simp only [keptRes_trap, keptRes_next, keptRes_finish, keptRes_hold, castAdv_s]) | with_reducible apply keptRes_set | fail_if_no_progress (with_reducible apply kept_mk) | (with_reducible refine kept_of_eq (by with_reducible assumption) ?_) | intro _ _ | split | dsimp only

theorem kept_execSysRuns (t : Fin 64) (o : ImmForm) (s : State) : ∃ r, execSysRuns t o s = .next r ∧ Kept s r := by
  unfold execSysRuns
  refine ⟨_, rfl, ?_⟩
  have h := Kept.refl s
  repeat' first | with_reducible assumption | with_reducible apply kept_ite | with_reducible apply kept_ite1 | with_reducible apply kept_ite2 | (with_reducible refine kept_forAll (fun _ _ _ => ?_) ?_) | (with_reducible refine kept_foldl (fun _ _ _ => ?_) ?_) | (with_reducible refine kept_foldl1 (fun _ _ _ => ?_) ?_) | with_reducible apply kept_castSys | exact trivial | (simp only [keptRes_trap, keptRes_next, keptRes_finish, keptRes_hold, castAdv_s]) | with_reducible apply keptRes_set | fail_if_no_progress (with_reducible apply kept_mk) | (with_reducible refine kept_of_eq (by with_reducible assumption) ?_) | intro _ _ | split | dsimp only

theorem kept_execSysDt (t : Fin 64) (o : ImmForm) (s : State) : ∃ r, execSysDt t o s = .next r ∧ Kept s r := by
  unfold execSysDt
  refine ⟨_, rfl, ?_⟩
  have h := Kept.refl s
  repeat' first | with_reducible assumption | with_reducible apply kept_ite | with_reducible apply kept_ite1 | with_reducible apply kept_ite2 | (with_reducible refine kept_forAll (fun _ _ _ => ?_) ?_) | (with_reducible refine kept_foldl (fun _ _ _ => ?_) ?_) | (with_reducible refine kept_foldl1 (fun _ _ _ => ?_) ?_) | with_reducible apply kept_castSys | exact trivial | (simp only [keptRes_trap, keptRes_next, keptRes_finish, keptRes_hold, castAdv_s]) | with_reducible apply keptRes_set | fail_if_no_progress (with_reducible apply kept_mk) | (with_reducible refine kept_of_eq (by with_reducible assumption) ?_) | intro _ _ | split | dsimp only

theorem kept_execHltEnd (t : Fin 64) (o : ImmForm) (s : State) : ∃ r, execHltEnd t o s = .next r ∧ Kept s r := by
  unfold execHltEnd
  refine ⟨_, rfl, ?_⟩
  have h := Kept.refl s
  repeat' first | with_reducible assumption | with_reducible apply kept_ite | with_reducible apply kept_ite1 | with_reducible apply kept_ite2 | (with_reducible refine kept_forAll (fun _ _ _ => ?_) ?_) | (with_reducible refine kept_foldl (fun _ _ _ => ?_) ?_) | (with_reducible refine kept_foldl1 (fun _ _ _ => ?_) ?_) | with_reducible apply kept_castStep | exact trivial | (simp only [keptRes_trap, keptRes_next, keptRes_finish, keptRes_hold, castAdv_s]) | with_reducible apply keptRes_set | fail_if_no_progress (with_reducible apply kept_mk) | (with_reducible refine kept_of_eq (by with_reducible assumption) ?_) | intro _ _ | split | dsimp only

theorem kept_execHltTrap (t : Fin 64) (o : ImmForm) (s : State) : ∃ r, execHltTrap t o s = .next r ∧ Kept s r := by
  unfold execHltTrap
  refine ⟨_, rfl, ?_⟩
  have h := Kept.refl s
  repeat' first | with_reducible assumption | with_reducible apply kept_ite | with_reducible apply kept_ite1 | with_reducible apply kept_ite2 | (with_reducible refine kept_forAll (fun _ _ _ => ?_) ?_) | (with_reducible refine kept_foldl (fun _ _ _ => ?_) ?_) | (with_reducible refine kept_foldl1 (fun _ _ _ => ?_) ?_) | with_reducible apply kept_castStep | exact trivial | (simp only [keptRes_trap, keptRes_next, keptRes_finish, keptRes_hold, castAdv_s]) | with_reducible apply keptRes_set | fail_if_no_progress (with_reducible apply kept_mk) | (with_reducible refine kept_of_eq (by with_reducible assumption) ?_) | intro _ _ | split | dsimp only

theorem kept_execHltBrk (t : Fin 64) (o : ImmForm) (s : State) : ∃ r, execHltBrk t o s = .next r ∧ Kept s r := by
  unfold execHltBrk
  refine ⟨_, rfl, ?_⟩
  have h := Kept.refl s
  repeat' first | with_reducible assumption | with_reducible apply kept_ite | with_reducible apply kept_ite1 | with_reducible apply kept_ite2 | (with_reducible refine kept_forAll (fun _ _ _ => ?_) ?_) | (with_reducible refine kept_foldl (fun _ _ _ => ?_) ?_) | (with_reducible refine kept_foldl1 (fun _ _ _ => ?_) ?_) | with_reducible apply kept_castStep | with_reducible apply keptRes_castBrk | exact trivial | (simp only [keptRes_trap, keptRes_next, keptRes_finish, keptRes_hold, castAdv_s]) | with_reducible apply keptRes_set | fail_if_no_progress (with_reducible apply kept_mk) | (with_reducible refine kept_of_eq (by with_reducible assumption) ?_) | intro _ _ | split | dsimp only

theorem kept_execTmr (t : Fin 64) (o : RecForm) (s : State) : ∃ r, execTmr t o s = .next r ∧ Kept s r := by
  unfold execTmr
  refine ⟨_, rfl, ?_⟩
  have h := Kept.refl s
  repeat' first | with_reducible assumption | with_reducible apply kept_ite | with_reducible apply kept_ite1 | with_reducible apply kept_ite2 | (with_reducible refine kept_forAll (fun _ _ _ => ?_) ?_) | (with_reducible refine kept_foldl (fun _ _ _ => ?_) ?_) | (with_reducible refine kept_foldl1 (fun _ _ _ => ?_) ?_) | with_reducible apply kept_castStep | with_reducible apply keptRes_castRecord | exact trivial | (simp only [keptRes_trap, keptRes_next, keptRes_finish, keptRes_hold, castAdv_s]) | with_reducible apply keptRes_set | fail_if_no_progress (with_reducible apply kept_mk) | (with_reducible refine kept_of_eq (by with_reducible assumption) ?_) | intro _ _ | split | dsimp only

theorem kept_execCtr (t : Fin 64) (o : RecForm) (s : State) : ∃ r, execCtr t o s = .next r ∧ Kept s r := by
  unfold execCtr
  refine ⟨_, rfl, ?_⟩
  have h := Kept.refl s
  repeat' first | with_reducible assumption | with_reducible apply kept_ite | with_reducible apply kept_ite1 | with_reducible apply kept_ite2 | (with_reducible refine kept_forAll (fun _ _ _ => ?_) ?_) | (with_reducible refine kept_foldl (fun _ _ _ => ?_) ?_) | (with_reducible refine kept_foldl1 (fun _ _ _ => ?_) ?_) | with_reducible apply kept_castStep | with_reducible apply keptRes_castRecord | exact trivial | (simp only [keptRes_trap, keptRes_next, keptRes_finish, keptRes_hold, castAdv_s]) | with_reducible apply keptRes_set | fail_if_no_progress (with_reducible apply kept_mk) | (with_reducible refine kept_of_eq (by with_reducible assumption) ?_) | intro _ _ | split | dsimp only

theorem kept_execEdg (t : Fin 64) (o : RecForm) (s : State) : ∃ r, execEdg t o s = .next r ∧ Kept s r := by
  unfold execEdg
  refine ⟨_, rfl, ?_⟩
  have h := Kept.refl s
  repeat' first | with_reducible assumption | with_reducible apply kept_ite | with_reducible apply kept_ite1 | with_reducible apply kept_ite2 | (with_reducible refine kept_forAll (fun _ _ _ => ?_) ?_) | (with_reducible refine kept_foldl (fun _ _ _ => ?_) ?_) | (with_reducible refine kept_foldl1 (fun _ _ _ => ?_) ?_) | with_reducible apply kept_castStep | with_reducible apply keptRes_castRecord | exact trivial | (simp only [keptRes_trap, keptRes_next, keptRes_finish, keptRes_hold, castAdv_s]) | with_reducible apply keptRes_set | fail_if_no_progress (with_reducible apply kept_mk) | (with_reducible refine kept_of_eq (by with_reducible assumption) ?_) | intro _ _ | split | dsimp only

theorem kept_execTrst (t : Fin 64) (o : RecForm) (s : State) : ∃ r, execTrst t o s = .next r ∧ Kept s r := by
  unfold execTrst
  refine ⟨_, rfl, ?_⟩
  have h := Kept.refl s
  repeat' first | with_reducible assumption | with_reducible apply kept_ite | with_reducible apply kept_ite1 | with_reducible apply kept_ite2 | (with_reducible refine kept_forAll (fun _ _ _ => ?_) ?_) | (with_reducible refine kept_foldl (fun _ _ _ => ?_) ?_) | (with_reducible refine kept_foldl1 (fun _ _ _ => ?_) ?_) | with_reducible apply kept_castStep | with_reducible apply keptRes_castRecord | exact trivial | (simp only [keptRes_trap, keptRes_next, keptRes_finish, keptRes_hold, castAdv_s]) | with_reducible apply keptRes_set | fail_if_no_progress (with_reducible apply kept_mk) | (with_reducible refine kept_of_eq (by with_reducible assumption) ?_) | intro _ _ | split | dsimp only

theorem kept_execPrd (t : Fin 64) (o : PntForm) (s : State) : ∃ r, execPrd t o s = .next r ∧ Kept s r := by
  unfold execPrd
  refine ⟨_, rfl, ?_⟩
  have h := Kept.refl s
  repeat' first | with_reducible assumption | with_reducible apply kept_ite | with_reducible apply kept_ite1 | with_reducible apply kept_ite2 | (with_reducible refine kept_forAll (fun _ _ _ => ?_) ?_) | (with_reducible refine kept_foldl (fun _ _ _ => ?_) ?_) | (with_reducible refine kept_foldl1 (fun _ _ _ => ?_) ?_) | with_reducible apply kept_castStep | with_reducible apply keptRes_castPrd | exact trivial | (simp only [keptRes_trap, keptRes_next, keptRes_finish, keptRes_hold, castAdv_s]) | with_reducible apply keptRes_set | fail_if_no_progress (with_reducible apply kept_mk) | (with_reducible refine kept_of_eq (by with_reducible assumption) ?_) | intro _ _ | split | dsimp only

theorem kept_execPwr (t : Fin 64) (o : PntForm) (s : State) : ∃ r, execPwr t o s = .next r ∧ Kept s r := by
  unfold execPwr
  refine ⟨_, rfl, ?_⟩
  have h := Kept.refl s
  repeat' first | with_reducible assumption | with_reducible apply kept_ite | with_reducible apply kept_ite1 | with_reducible apply kept_ite2 | (with_reducible refine kept_forAll (fun _ _ _ => ?_) ?_) | (with_reducible refine kept_foldl (fun _ _ _ => ?_) ?_) | (with_reducible refine kept_foldl1 (fun _ _ _ => ?_) ?_) | with_reducible apply kept_castStep | with_reducible apply keptRes_castPwr | exact trivial | (simp only [keptRes_trap, keptRes_next, keptRes_finish, keptRes_hold, castAdv_s]) | with_reducible apply keptRes_set | fail_if_no_progress (with_reducible apply kept_mk) | (with_reducible refine kept_of_eq (by with_reducible assumption) ?_) | intro _ _ | split | dsimp only

theorem kept_execPtst (t : Fin 64) (o : PntForm) (s : State) : ∃ r, execPtst t o s = .next r ∧ Kept s r := by
  unfold execPtst
  refine ⟨_, rfl, ?_⟩
  have h := Kept.refl s
  repeat' first | with_reducible assumption | with_reducible apply kept_ite | with_reducible apply kept_ite1 | with_reducible apply kept_ite2 | (with_reducible refine kept_forAll (fun _ _ _ => ?_) ?_) | (with_reducible refine kept_foldl (fun _ _ _ => ?_) ?_) | (with_reducible refine kept_foldl1 (fun _ _ _ => ?_) ?_) | with_reducible apply kept_castStep | with_reducible apply keptRes_castPtst | exact trivial | (simp only [keptRes_trap, keptRes_next, keptRes_finish, keptRes_hold, castAdv_s]) | with_reducible apply keptRes_set | fail_if_no_progress (with_reducible apply kept_mk) | (with_reducible refine kept_of_eq (by with_reducible assumption) ?_) | intro _ _ | split | dsimp only

theorem kept_execQueuePop (q : Requester) (n : Fin 64) (s : State) : ∃ r, execQueuePop q n s = .next r ∧ Kept s r := by
  unfold execQueuePop
  refine ⟨_, rfl, ?_⟩
  have h := Kept.refl s
  repeat' first | with_reducible assumption | with_reducible apply kept_ite | with_reducible apply kept_ite1 | with_reducible apply kept_ite2 | (with_reducible refine kept_forAll (fun _ _ _ => ?_) ?_) | (with_reducible refine kept_foldl (fun _ _ _ => ?_) ?_) | (with_reducible refine kept_foldl1 (fun _ _ _ => ?_) ?_) | with_reducible apply kept_gated | with_reducible apply kept_popWords | with_reducible apply kept_keepWord | with_reducible apply kept_answer | with_reducible apply kept_gated | with_reducible apply kept_endCommand | with_reducible apply kept_twnCommand | with_reducible apply kept_cruStart | with_reducible apply kept_cryGo | with_reducible apply kept_wr | with_reducible apply kept_updCommand | with_reducible apply keptRes_set | fail_if_no_progress (with_reducible apply kept_mk) | (with_reducible refine kept_of_eq (by with_reducible assumption) ?_) | intro _ _ | split | dsimp only

theorem kept_execQueuePush (q : Requester) (n : Fin 64) (side : BitVec 2) (v : Word) (s : State) : ∃ r, execQueuePush q n side v s = .next r ∧ Kept s r := by
  unfold execQueuePush
  refine ⟨_, rfl, ?_⟩
  have h := Kept.refl s
  repeat' first | with_reducible assumption | with_reducible apply kept_ite | with_reducible apply kept_ite1 | with_reducible apply kept_ite2 | (with_reducible refine kept_forAll (fun _ _ _ => ?_) ?_) | (with_reducible refine kept_foldl (fun _ _ _ => ?_) ?_) | (with_reducible refine kept_foldl1 (fun _ _ _ => ?_) ?_) | with_reducible apply kept_gated | with_reducible apply kept_registerPush | with_reducible apply kept_answer | with_reducible apply kept_gated | with_reducible apply kept_endCommand | with_reducible apply kept_twnCommand | with_reducible apply kept_cruStart | with_reducible apply kept_cryGo | with_reducible apply kept_wr | with_reducible apply kept_updCommand | with_reducible apply keptRes_set | fail_if_no_progress (with_reducible apply kept_mk) | (with_reducible refine kept_of_eq (by with_reducible assumption) ?_) | intro _ _ | split | dsimp only

theorem kept_execSkipPkt (q : Requester) (n : Fin 64) (s : State) : ∃ r, execSkipPkt q n s = .next r ∧ Kept s r := by
  unfold execSkipPkt
  refine ⟨_, rfl, ?_⟩
  have h := Kept.refl s
  repeat' first | with_reducible assumption | with_reducible apply kept_ite | with_reducible apply kept_ite1 | with_reducible apply kept_ite2 | (with_reducible refine kept_forAll (fun _ _ _ => ?_) ?_) | (with_reducible refine kept_foldl (fun _ _ _ => ?_) ?_) | (with_reducible refine kept_foldl1 (fun _ _ _ => ?_) ?_) | with_reducible apply kept_gated | with_reducible apply kept_endCommand | with_reducible apply kept_queueCommand | with_reducible apply kept_gated | with_reducible apply kept_endCommand | with_reducible apply kept_twnCommand | with_reducible apply kept_cruStart | with_reducible apply kept_cryGo | with_reducible apply kept_wr | with_reducible apply kept_updCommand | with_reducible apply keptRes_set | fail_if_no_progress (with_reducible apply kept_mk) | (with_reducible refine kept_of_eq (by with_reducible assumption) ?_) | intro _ _ | split | dsimp only

theorem kept_execFlush (q : Requester) (n : Fin 64) (s : State) : ∃ r, execFlush q n s = .next r ∧ Kept s r := by
  unfold execFlush
  refine ⟨_, rfl, ?_⟩
  have h := Kept.refl s
  repeat' first | with_reducible assumption | with_reducible apply kept_ite | with_reducible apply kept_ite1 | with_reducible apply kept_ite2 | (with_reducible refine kept_forAll (fun _ _ _ => ?_) ?_) | (with_reducible refine kept_foldl (fun _ _ _ => ?_) ?_) | (with_reducible refine kept_foldl1 (fun _ _ _ => ?_) ?_) | with_reducible apply kept_gated | with_reducible apply kept_endCommand | with_reducible apply kept_queueCommand | with_reducible apply kept_gated | with_reducible apply kept_endCommand | with_reducible apply kept_twnCommand | with_reducible apply kept_cruStart | with_reducible apply kept_cryGo | with_reducible apply kept_wr | with_reducible apply kept_updCommand | with_reducible apply keptRes_set | fail_if_no_progress (with_reducible apply kept_mk) | (with_reducible refine kept_of_eq (by with_reducible assumption) ?_) | intro _ _ | split | dsimp only

theorem kept_execDescriptorFetch (c : Fin 16) (s : State) : ∃ r, execDescriptorFetch c s = .next r ∧ Kept s r := by
  unfold execDescriptorFetch
  refine ⟨_, rfl, ?_⟩
  have h := Kept.refl s
  repeat' first | with_reducible assumption | with_reducible apply kept_ite | with_reducible apply kept_ite1 | with_reducible apply kept_ite2 | (with_reducible refine kept_forAll (fun _ _ _ => ?_) ?_) | (with_reducible refine kept_foldl (fun _ _ _ => ?_) ?_) | (with_reducible refine kept_foldl1 (fun _ _ _ => ?_) ?_) | with_reducible apply kept_descriptorFetch | with_reducible apply kept_gated | with_reducible apply kept_endCommand | with_reducible apply kept_twnCommand | with_reducible apply kept_cruStart | with_reducible apply kept_cryGo | with_reducible apply kept_wr | with_reducible apply kept_updCommand | with_reducible apply keptRes_set | fail_if_no_progress (with_reducible apply kept_mk) | (with_reducible refine kept_of_eq (by with_reducible assumption) ?_) | intro _ _ | split | dsimp only

theorem kept_execLadleKick (q : Requester) (c : Fin 16) (s : State) : ∃ r, execLadleKick q c s = .next r ∧ Kept s r := by
  unfold execLadleKick
  refine ⟨_, rfl, ?_⟩
  have h := Kept.refl s
  repeat' first | with_reducible assumption | with_reducible apply kept_ite | with_reducible apply kept_ite1 | with_reducible apply kept_ite2 | (with_reducible refine kept_forAll (fun _ _ _ => ?_) ?_) | (with_reducible refine kept_foldl (fun _ _ _ => ?_) ?_) | (with_reducible refine kept_foldl1 (fun _ _ _ => ?_) ?_) | with_reducible apply kept_bulkGated | with_reducible apply kept_ladleKick | with_reducible apply kept_gated | with_reducible apply kept_endCommand | with_reducible apply kept_twnCommand | with_reducible apply kept_cruStart | with_reducible apply kept_cryGo | with_reducible apply kept_wr | with_reducible apply kept_updCommand | with_reducible apply keptRes_set | fail_if_no_progress (with_reducible apply kept_mk) | (with_reducible refine kept_of_eq (by with_reducible assumption) ?_) | intro _ _ | split | dsimp only

theorem kept_execLadleTransaction (ch : Fin 64) (n : Fin 257) (s : State) : ∃ r, execLadleTransaction ch n s = .next r ∧ Kept s r := by
  unfold execLadleTransaction
  refine ⟨_, rfl, ?_⟩
  have h := Kept.refl s
  repeat' first | with_reducible assumption | with_reducible apply kept_ite | with_reducible apply kept_ite1 | with_reducible apply kept_ite2 | (with_reducible refine kept_forAll (fun _ _ _ => ?_) ?_) | (with_reducible refine kept_foldl (fun _ _ _ => ?_) ?_) | (with_reducible refine kept_foldl1 (fun _ _ _ => ?_) ?_) | with_reducible apply kept_ladleTransaction | with_reducible apply kept_gated | with_reducible apply kept_endCommand | with_reducible apply kept_twnCommand | with_reducible apply kept_cruStart | with_reducible apply kept_cryGo | with_reducible apply kept_wr | with_reducible apply kept_updCommand | with_reducible apply keptRes_set | fail_if_no_progress (with_reducible apply kept_mk) | (with_reducible refine kept_of_eq (by with_reducible assumption) ?_) | intro _ _ | split | dsimp only

theorem kept_execLadleQueuePop (ch : Fin 64) (s : State) : ∃ r, execLadleQueuePop ch s = .next r ∧ Kept s r := by
  unfold execLadleQueuePop
  refine ⟨_, rfl, ?_⟩
  have h := Kept.refl s
  repeat' first | with_reducible assumption | with_reducible apply kept_ite | with_reducible apply kept_ite1 | with_reducible apply kept_ite2 | (with_reducible refine kept_forAll (fun _ _ _ => ?_) ?_) | (with_reducible refine kept_foldl (fun _ _ _ => ?_) ?_) | (with_reducible refine kept_foldl1 (fun _ _ _ => ?_) ?_) | with_reducible apply kept_ladleQueuePop | with_reducible apply kept_gated | with_reducible apply kept_endCommand | with_reducible apply kept_twnCommand | with_reducible apply kept_cruStart | with_reducible apply kept_cryGo | with_reducible apply kept_wr | with_reducible apply kept_updCommand | with_reducible apply keptRes_set | fail_if_no_progress (with_reducible apply kept_mk) | (with_reducible refine kept_of_eq (by with_reducible assumption) ?_) | intro _ _ | split | dsimp only

theorem kept_execDescriptorWriteBack (c : Fin 16) (s : State) : ∃ r, execDescriptorWriteBack c s = .next r ∧ Kept s r := by
  unfold execDescriptorWriteBack
  refine ⟨_, rfl, ?_⟩
  have h := Kept.refl s
  repeat' first | with_reducible assumption | with_reducible apply kept_ite | with_reducible apply kept_ite1 | with_reducible apply kept_ite2 | (with_reducible refine kept_forAll (fun _ _ _ => ?_) ?_) | (with_reducible refine kept_foldl (fun _ _ _ => ?_) ?_) | (with_reducible refine kept_foldl1 (fun _ _ _ => ?_) ?_) | with_reducible apply kept_descriptorWriteBack | with_reducible apply kept_gated | with_reducible apply kept_endCommand | with_reducible apply kept_twnCommand | with_reducible apply kept_cruStart | with_reducible apply kept_cryGo | with_reducible apply kept_wr | with_reducible apply kept_updCommand | with_reducible apply keptRes_set | fail_if_no_progress (with_reducible apply kept_mk) | (with_reducible refine kept_of_eq (by with_reducible assumption) ?_) | intro _ _ | split | dsimp only

theorem kept_execLadleBusError (ch : Fin 64) (write : Bool) (wb : Fin 4) (s : State) : ∃ r, execLadleBusError ch write wb s = .next r ∧ Kept s r := by
  unfold execLadleBusError
  refine ⟨_, rfl, ?_⟩
  have h := Kept.refl s
  repeat' first | with_reducible assumption | with_reducible apply kept_ite | with_reducible apply kept_ite1 | with_reducible apply kept_ite2 | (with_reducible refine kept_forAll (fun _ _ _ => ?_) ?_) | (with_reducible refine kept_foldl (fun _ _ _ => ?_) ?_) | (with_reducible refine kept_foldl1 (fun _ _ _ => ?_) ?_) | with_reducible apply kept_ladleBus | with_reducible apply kept_gated | with_reducible apply kept_endCommand | with_reducible apply kept_twnCommand | with_reducible apply kept_cruStart | with_reducible apply kept_cryGo | with_reducible apply kept_wr | with_reducible apply kept_updCommand | with_reducible apply keptRes_set | fail_if_no_progress (with_reducible apply kept_mk) | (with_reducible refine kept_of_eq (by with_reducible assumption) ?_) | intro _ _ | split | dsimp only

theorem kept_execLadleResume (q : Requester) (ch : Fin 64) (s : State) : ∃ r, execLadleResume q ch s = .next r ∧ Kept s r := by
  unfold execLadleResume
  refine ⟨_, rfl, ?_⟩
  have h := Kept.refl s
  repeat' first | with_reducible assumption | with_reducible apply kept_ite | with_reducible apply kept_ite1 | with_reducible apply kept_ite2 | (with_reducible refine kept_forAll (fun _ _ _ => ?_) ?_) | (with_reducible refine kept_foldl (fun _ _ _ => ?_) ?_) | (with_reducible refine kept_foldl1 (fun _ _ _ => ?_) ?_) | with_reducible apply kept_bulkGated | with_reducible apply kept_bulkResume | with_reducible apply kept_liteGated | with_reducible apply kept_liteResume | with_reducible apply kept_gated | with_reducible apply kept_endCommand | with_reducible apply kept_twnCommand | with_reducible apply kept_cruStart | with_reducible apply kept_cryGo | with_reducible apply kept_wr | with_reducible apply kept_updCommand | with_reducible apply keptRes_set | fail_if_no_progress (with_reducible apply kept_mk) | (with_reducible refine kept_of_eq (by with_reducible assumption) ?_) | intro _ _ | split | dsimp only

theorem kept_execLadleAbort (q : Requester) (ch : Fin 64) (s : State) : ∃ r, execLadleAbort q ch s = .next r ∧ Kept s r := by
  unfold execLadleAbort
  refine ⟨_, rfl, ?_⟩
  have h := Kept.refl s
  repeat' first | with_reducible assumption | with_reducible apply kept_ite | with_reducible apply kept_ite1 | with_reducible apply kept_ite2 | (with_reducible refine kept_forAll (fun _ _ _ => ?_) ?_) | (with_reducible refine kept_foldl (fun _ _ _ => ?_) ?_) | (with_reducible refine kept_foldl1 (fun _ _ _ => ?_) ?_) | with_reducible apply kept_bulkGated | with_reducible apply kept_bulkAbort | with_reducible apply kept_liteGated | with_reducible apply kept_liteAbort | with_reducible apply kept_gated | with_reducible apply kept_endCommand | with_reducible apply kept_twnCommand | with_reducible apply kept_cruStart | with_reducible apply kept_cryGo | with_reducible apply kept_wr | with_reducible apply kept_updCommand | with_reducible apply keptRes_set | fail_if_no_progress (with_reducible apply kept_mk) | (with_reducible refine kept_of_eq (by with_reducible assumption) ?_) | intro _ _ | split | dsimp only

theorem kept_execLiteGo (q : Requester) (k : Fin 48) (s : State) : ∃ r, execLiteGo q k s = .next r ∧ Kept s r := by
  unfold execLiteGo
  refine ⟨_, rfl, ?_⟩
  have h := Kept.refl s
  repeat' first | with_reducible assumption | with_reducible apply kept_ite | with_reducible apply kept_ite1 | with_reducible apply kept_ite2 | (with_reducible refine kept_forAll (fun _ _ _ => ?_) ?_) | (with_reducible refine kept_foldl (fun _ _ _ => ?_) ?_) | (with_reducible refine kept_foldl1 (fun _ _ _ => ?_) ?_) | with_reducible apply kept_liteGated | with_reducible apply kept_liteGo | with_reducible apply kept_gated | with_reducible apply kept_endCommand | with_reducible apply kept_twnCommand | with_reducible apply kept_cruStart | with_reducible apply kept_cryGo | with_reducible apply kept_wr | with_reducible apply kept_updCommand | with_reducible apply keptRes_set | fail_if_no_progress (with_reducible apply kept_mk) | (with_reducible refine kept_of_eq (by with_reducible assumption) ?_) | intro _ _ | split | dsimp only

theorem kept_execLiteTransferComplete (k : Fin 48) (s : State) : ∃ r, execLiteTransferComplete k s = .next r ∧ Kept s r := by
  unfold execLiteTransferComplete
  refine ⟨_, rfl, ?_⟩
  have h := Kept.refl s
  repeat' first | with_reducible assumption | with_reducible apply kept_ite | with_reducible apply kept_ite1 | with_reducible apply kept_ite2 | (with_reducible refine kept_forAll (fun _ _ _ => ?_) ?_) | (with_reducible refine kept_foldl (fun _ _ _ => ?_) ?_) | (with_reducible refine kept_foldl1 (fun _ _ _ => ?_) ?_) | with_reducible apply kept_liteComplete | with_reducible apply kept_gated | with_reducible apply kept_endCommand | with_reducible apply kept_twnCommand | with_reducible apply kept_cruStart | with_reducible apply kept_cryGo | with_reducible apply kept_wr | with_reducible apply kept_updCommand | with_reducible apply keptRes_set | fail_if_no_progress (with_reducible apply kept_mk) | (with_reducible refine kept_of_eq (by with_reducible assumption) ?_) | intro _ _ | split | dsimp only

theorem kept_execFabricRequest (bank : Option (Fin 56)) (gap : Fin 4096) (reqs : List FabricReq) (s : State) : ∃ r, execFabricRequest bank gap reqs s = .next r ∧ Kept s r := by
  unfold execFabricRequest
  refine ⟨_, rfl, ?_⟩
  have h := Kept.refl s
  repeat' first | with_reducible assumption | with_reducible apply kept_ite | with_reducible apply kept_ite1 | with_reducible apply kept_ite2 | (with_reducible refine kept_forAll (fun _ _ _ => ?_) ?_) | (with_reducible refine kept_foldl (fun _ _ _ => ?_) ?_) | (with_reducible refine kept_foldl1 (fun _ _ _ => ?_) ?_) | with_reducible apply kept_fabricRun | with_reducible apply kept_presentRequests | with_reducible apply kept_bankDecision | with_reducible apply kept_gated | with_reducible apply kept_endCommand | with_reducible apply kept_twnCommand | with_reducible apply kept_cruStart | with_reducible apply kept_cryGo | with_reducible apply kept_wr | with_reducible apply kept_updCommand | with_reducible apply keptRes_set | fail_if_no_progress (with_reducible apply kept_mk) | (with_reducible refine kept_of_eq (by with_reducible assumption) ?_) | intro _ _ | split | dsimp only

theorem kept_execFabricResponse (gap : Fin 4096) (id : Fin 27) (s : State) : ∃ r, execFabricResponse gap id s = .next r ∧ Kept s r := by
  unfold execFabricResponse
  refine ⟨_, rfl, ?_⟩
  have h := Kept.refl s
  repeat' first | with_reducible assumption | with_reducible apply kept_ite | with_reducible apply kept_ite1 | with_reducible apply kept_ite2 | (with_reducible refine kept_forAll (fun _ _ _ => ?_) ?_) | (with_reducible refine kept_foldl (fun _ _ _ => ?_) ?_) | (with_reducible refine kept_foldl1 (fun _ _ _ => ?_) ?_) | with_reducible apply kept_fabricRun | with_reducible apply kept_setFabric | with_reducible apply kept_setFld | with_reducible apply kept_gated | with_reducible apply kept_endCommand | with_reducible apply kept_twnCommand | with_reducible apply kept_cruStart | with_reducible apply kept_cryGo | with_reducible apply kept_wr | with_reducible apply kept_updCommand | with_reducible apply keptRes_set | fail_if_no_progress (with_reducible apply kept_mk) | (with_reducible refine kept_of_eq (by with_reducible assumption) ?_) | intro _ _ | split | dsimp only

theorem kept_execDebugSquall (gap : Fin 4096) (beats : Fin 8) (s : State) : ∃ r, execDebugSquall gap beats s = .next r ∧ Kept s r := by
  unfold execDebugSquall
  refine ⟨_, rfl, ?_⟩
  have h := Kept.refl s
  repeat' first | with_reducible assumption | with_reducible apply kept_ite | with_reducible apply kept_ite1 | with_reducible apply kept_ite2 | (with_reducible refine kept_forAll (fun _ _ _ => ?_) ?_) | (with_reducible refine kept_foldl (fun _ _ _ => ?_) ?_) | (with_reducible refine kept_foldl1 (fun _ _ _ => ?_) ?_) | with_reducible apply kept_fabricRun | with_reducible apply kept_fabricCycle | with_reducible apply kept_setFabric | with_reducible apply kept_answer | with_reducible apply kept_gated | with_reducible apply kept_endCommand | with_reducible apply kept_twnCommand | with_reducible apply kept_cruStart | with_reducible apply kept_cryGo | with_reducible apply kept_wr | with_reducible apply kept_updCommand | with_reducible apply keptRes_set | fail_if_no_progress (with_reducible apply kept_mk) | (with_reducible refine kept_of_eq (by with_reducible assumption) ?_) | intro _ _ | split | dsimp only

theorem kept_execDramRefresh (bank : Fin 16) (cuts : Bool) (s : State) : ∃ r, execDramRefresh bank cuts s = .next r ∧ Kept s r := by
  unfold execDramRefresh
  refine ⟨_, rfl, ?_⟩
  have h := Kept.refl s
  repeat' first | with_reducible assumption | with_reducible apply kept_ite | with_reducible apply kept_ite1 | with_reducible apply kept_ite2 | (with_reducible refine kept_forAll (fun _ _ _ => ?_) ?_) | (with_reducible refine kept_foldl (fun _ _ _ => ?_) ?_) | (with_reducible refine kept_foldl1 (fun _ _ _ => ?_) ?_) | with_reducible apply kept_squallDecision | with_reducible apply kept_bumpSat | with_reducible apply kept_gated | with_reducible apply kept_endCommand | with_reducible apply kept_twnCommand | with_reducible apply kept_cruStart | with_reducible apply kept_cryGo | with_reducible apply kept_wr | with_reducible apply kept_updCommand | with_reducible apply keptRes_set | fail_if_no_progress (with_reducible apply kept_mk) | (with_reducible refine kept_of_eq (by with_reducible assumption) ?_) | intro _ _ | split | dsimp only

theorem kept_execArbiterSeedWrite (q : Requester) (bank : Bool) (v : Word) (s : State) : ∃ r, execArbiterSeedWrite q bank v s = .next r ∧ Kept s r := by
  unfold execArbiterSeedWrite
  refine ⟨_, rfl, ?_⟩
  have h := Kept.refl s
  repeat' first | with_reducible assumption | with_reducible apply kept_ite | with_reducible apply kept_ite1 | with_reducible apply kept_ite2 | (with_reducible refine kept_forAll (fun _ _ _ => ?_) ?_) | (with_reducible refine kept_foldl (fun _ _ _ => ?_) ?_) | (with_reducible refine kept_foldl1 (fun _ _ _ => ?_) ?_) | with_reducible apply kept_gated | with_reducible apply kept_endCommand | with_reducible apply kept_seedWrite | with_reducible apply kept_gated | with_reducible apply kept_endCommand | with_reducible apply kept_twnCommand | with_reducible apply kept_cruStart | with_reducible apply kept_cryGo | with_reducible apply kept_wr | with_reducible apply kept_updCommand | with_reducible apply keptRes_set | fail_if_no_progress (with_reducible apply kept_mk) | (with_reducible refine kept_of_eq (by with_reducible assumption) ?_) | intro _ _ | split | dsimp only

theorem kept_execLockAcquire (o : LockOwner) (n : Fin 64) (s : State) : ∃ r, execLockAcquire o n s = .next r ∧ Kept s r := by
  unfold execLockAcquire
  refine ⟨_, rfl, ?_⟩
  have h := Kept.refl s
  repeat' first | with_reducible assumption | with_reducible apply kept_ite | with_reducible apply kept_ite1 | with_reducible apply kept_ite2 | (with_reducible refine kept_forAll (fun _ _ _ => ?_) ?_) | (with_reducible refine kept_foldl (fun _ _ _ => ?_) ?_) | (with_reducible refine kept_foldl1 (fun _ _ _ => ?_) ?_) | with_reducible apply kept_lockServed | with_reducible apply kept_lockAcquire | with_reducible apply kept_gated | with_reducible apply kept_endCommand | with_reducible apply kept_twnCommand | with_reducible apply kept_cruStart | with_reducible apply kept_cryGo | with_reducible apply kept_wr | with_reducible apply kept_updCommand | with_reducible apply keptRes_set | fail_if_no_progress (with_reducible apply kept_mk) | (with_reducible refine kept_of_eq (by with_reducible assumption) ?_) | intro _ _ | split | dsimp only

theorem kept_execLockRelease (o : LockOwner) (n : Fin 64) (v : Word) (s : State) : ∃ r, execLockRelease o n v s = .next r ∧ Kept s r := by
  unfold execLockRelease
  refine ⟨_, rfl, ?_⟩
  have h := Kept.refl s
  repeat' first | with_reducible assumption | with_reducible apply kept_ite | with_reducible apply kept_ite1 | with_reducible apply kept_ite2 | (with_reducible refine kept_forAll (fun _ _ _ => ?_) ?_) | (with_reducible refine kept_foldl (fun _ _ _ => ?_) ?_) | (with_reducible refine kept_foldl1 (fun _ _ _ => ?_) ?_) | with_reducible apply kept_lockServed | with_reducible apply kept_endCommand | with_reducible apply kept_lockRelease | with_reducible apply kept_gated | with_reducible apply kept_endCommand | with_reducible apply kept_twnCommand | with_reducible apply kept_cruStart | with_reducible apply kept_cryGo | with_reducible apply kept_wr | with_reducible apply kept_updCommand | with_reducible apply keptRes_set | fail_if_no_progress (with_reducible apply kept_mk) | (with_reducible refine kept_of_eq (by with_reducible assumption) ?_) | intro _ _ | split | dsimp only

theorem kept_execLockHoldExpiry (n : Fin 64) (s : State) : ∃ r, execLockHoldExpiry n s = .next r ∧ Kept s r := by
  unfold execLockHoldExpiry
  refine ⟨_, rfl, ?_⟩
  have h := Kept.refl s
  repeat' first | with_reducible assumption | with_reducible apply kept_ite | with_reducible apply kept_ite1 | with_reducible apply kept_ite2 | (with_reducible refine kept_forAll (fun _ _ _ => ?_) ?_) | (with_reducible refine kept_foldl (fun _ _ _ => ?_) ?_) | (with_reducible refine kept_foldl1 (fun _ _ _ => ?_) ?_) | with_reducible apply kept_advanceTo | with_reducible apply kept_raiseBit | with_reducible apply kept_setFld | with_reducible apply kept_freeLock | with_reducible apply kept_gated | with_reducible apply kept_endCommand | with_reducible apply kept_twnCommand | with_reducible apply kept_cruStart | with_reducible apply kept_cryGo | with_reducible apply kept_wr | with_reducible apply kept_updCommand | with_reducible apply keptRes_set | fail_if_no_progress (with_reducible apply kept_mk) | (with_reducible refine kept_of_eq (by with_reducible assumption) ?_) | intro _ _ | split | dsimp only

theorem kept_execLockFree (q : Requester) (v : Word) (s : State) : ∃ r, execLockFree q v s = .next r ∧ Kept s r := by
  unfold execLockFree
  refine ⟨_, rfl, ?_⟩
  have h := Kept.refl s
  repeat' first | with_reducible assumption | with_reducible apply kept_ite | with_reducible apply kept_ite1 | with_reducible apply kept_ite2 | (with_reducible refine kept_forAll (fun _ _ _ => ?_) ?_) | (with_reducible refine kept_foldl (fun _ _ _ => ?_) ?_) | (with_reducible refine kept_foldl1 (fun _ _ _ => ?_) ?_) | with_reducible apply kept_gated | with_reducible apply kept_endCommand | with_reducible apply kept_lockFree | with_reducible apply kept_gated | with_reducible apply kept_endCommand | with_reducible apply kept_twnCommand | with_reducible apply kept_cruStart | with_reducible apply kept_cryGo | with_reducible apply kept_wr | with_reducible apply kept_updCommand | with_reducible apply keptRes_set | fail_if_no_progress (with_reducible apply kept_mk) | (with_reducible refine kept_of_eq (by with_reducible assumption) ?_) | intro _ _ | split | dsimp only

theorem kept_execCanIntegrationComplete (b : Fin 8) (s : State) : ∃ r, execCanIntegrationComplete b s = .next r ∧ Kept s r := by
  unfold execCanIntegrationComplete
  refine ⟨_, rfl, ?_⟩
  have h := Kept.refl s
  repeat' first | with_reducible assumption | with_reducible apply kept_ite | with_reducible apply kept_ite1 | with_reducible apply kept_ite2 | (with_reducible refine kept_forAll (fun _ _ _ => ?_) ?_) | (with_reducible refine kept_foldl (fun _ _ _ => ?_) ?_) | (with_reducible refine kept_foldl1 (fun _ _ _ => ?_) ?_) | with_reducible apply kept_setFbSt | with_reducible apply kept_setFbSub | with_reducible apply kept_setBus | with_reducible apply kept_gated | with_reducible apply kept_endCommand | with_reducible apply kept_twnCommand | with_reducible apply kept_cruStart | with_reducible apply kept_cryGo | with_reducible apply kept_wr | with_reducible apply kept_updCommand | with_reducible apply keptRes_set | fail_if_no_progress (with_reducible apply kept_mk) | (with_reducible refine kept_of_eq (by with_reducible assumption) ?_) | intro _ _ | split | dsimp only

theorem kept_execCanFrameReceived (b : Fin 8) (x : CanFrame) (s : State) : ∃ r, execCanFrameReceived b x s = .next r ∧ Kept s r := by
  unfold execCanFrameReceived
  refine ⟨_, rfl, ?_⟩
  have h := Kept.refl s
  repeat' first | with_reducible assumption | with_reducible apply kept_ite | with_reducible apply kept_ite1 | with_reducible apply kept_ite2 | (with_reducible refine kept_forAll (fun _ _ _ => ?_) ?_) | (with_reducible refine kept_foldl (fun _ _ _ => ?_) ?_) | (with_reducible refine kept_foldl1 (fun _ _ _ => ?_) ?_) | with_reducible apply kept_canFrameReceived | with_reducible apply kept_gated | with_reducible apply kept_endCommand | with_reducible apply kept_twnCommand | with_reducible apply kept_cruStart | with_reducible apply kept_cryGo | with_reducible apply kept_wr | with_reducible apply kept_updCommand | with_reducible apply keptRes_set | fail_if_no_progress (with_reducible apply kept_mk) | (with_reducible refine kept_of_eq (by with_reducible assumption) ?_) | intro _ _ | split | dsimp only

theorem kept_execCanTxRequest (q : Requester) (b : Fin 8) (bufs : Word) (idle : Bool) (s : State) : ∃ r, execCanTxRequest q b bufs idle s = .next r ∧ Kept s r := by
  unfold execCanTxRequest
  refine ⟨_, rfl, ?_⟩
  have h := Kept.refl s
  repeat' first | with_reducible assumption | with_reducible apply kept_ite | with_reducible apply kept_ite1 | with_reducible apply kept_ite2 | (with_reducible refine kept_forAll (fun _ _ _ => ?_) ?_) | (with_reducible refine kept_foldl (fun _ _ _ => ?_) ?_) | (with_reducible refine kept_foldl1 (fun _ _ _ => ?_) ?_) | with_reducible apply kept_canGated | with_reducible apply kept_canTxRequest | with_reducible apply kept_idle | with_reducible apply kept_gated | with_reducible apply kept_endCommand | with_reducible apply kept_twnCommand | with_reducible apply kept_cruStart | with_reducible apply kept_cryGo | with_reducible apply kept_wr | with_reducible apply kept_updCommand | with_reducible apply keptRes_set | fail_if_no_progress (with_reducible apply kept_mk) | (with_reducible refine kept_of_eq (by with_reducible assumption) ?_) | intro _ _ | split | dsimp only

theorem kept_execCanArbitrationLost (b : Fin 8) (s : State) : ∃ r, execCanArbitrationLost b s = .next r ∧ Kept s r := by
  unfold execCanArbitrationLost
  refine ⟨_, rfl, ?_⟩
  have h := Kept.refl s
  repeat' first | with_reducible assumption | with_reducible apply kept_ite | with_reducible apply kept_ite1 | with_reducible apply kept_ite2 | (with_reducible refine kept_forAll (fun _ _ _ => ?_) ?_) | (with_reducible refine kept_foldl (fun _ _ _ => ?_) ?_) | (with_reducible refine kept_foldl1 (fun _ _ _ => ?_) ?_) | with_reducible apply kept_attemptFails | with_reducible apply kept_gated | with_reducible apply kept_endCommand | with_reducible apply kept_twnCommand | with_reducible apply kept_cruStart | with_reducible apply kept_cryGo | with_reducible apply kept_wr | with_reducible apply kept_updCommand | with_reducible apply keptRes_set | fail_if_no_progress (with_reducible apply kept_mk) | (with_reducible refine kept_of_eq (by with_reducible assumption) ?_) | intro _ _ | split | dsimp only

theorem kept_execCanTxDone (b : Fin 8) (sof : DWord) (tdcv : BitVec 7) (s : State) : ∃ r, execCanTxDone b sof tdcv s = .next r ∧ Kept s r := by
  unfold execCanTxDone
  refine ⟨_, rfl, ?_⟩
  have h := Kept.refl s
  repeat' first | with_reducible assumption | with_reducible apply kept_ite | with_reducible apply kept_ite1 | with_reducible apply kept_ite2 | (with_reducible refine kept_forAll (fun _ _ _ => ?_) ?_) | (with_reducible refine kept_foldl (fun _ _ _ => ?_) ?_) | (with_reducible refine kept_foldl1 (fun _ _ _ => ?_) ?_) | with_reducible apply kept_canTxDone | with_reducible apply kept_gated | with_reducible apply kept_endCommand | with_reducible apply kept_twnCommand | with_reducible apply kept_cruStart | with_reducible apply kept_cryGo | with_reducible apply kept_wr | with_reducible apply kept_updCommand | with_reducible apply keptRes_set | fail_if_no_progress (with_reducible apply kept_mk) | (with_reducible refine kept_of_eq (by with_reducible assumption) ?_) | intro _ _ | split | dsimp only

theorem kept_execCanTxCancel (q : Requester) (b : Fin 8) (bufs : Word) (ph : TxPhase) (s : State) : ∃ r, execCanTxCancel q b bufs ph s = .next r ∧ Kept s r := by
  unfold execCanTxCancel
  refine ⟨_, rfl, ?_⟩
  have h := Kept.refl s
  repeat' first | with_reducible assumption | with_reducible apply kept_ite | with_reducible apply kept_ite1 | with_reducible apply kept_ite2 | (with_reducible refine kept_forAll (fun _ _ _ => ?_) ?_) | (with_reducible refine kept_foldl (fun _ _ _ => ?_) ?_) | (with_reducible refine kept_foldl1 (fun _ _ _ => ?_) ?_) | with_reducible apply kept_canGated | with_reducible apply kept_canTxCancel | with_reducible apply kept_gated | with_reducible apply kept_endCommand | with_reducible apply kept_twnCommand | with_reducible apply kept_cruStart | with_reducible apply kept_cryGo | with_reducible apply kept_wr | with_reducible apply kept_updCommand | with_reducible apply keptRes_set | fail_if_no_progress (with_reducible apply kept_mk) | (with_reducible refine kept_of_eq (by with_reducible assumption) ?_) | intro _ _ | split | dsimp only

theorem kept_execCanError (b : Fin 8) (x : CanErr) (s : State) : ∃ r, execCanError b x s = .next r ∧ Kept s r := by
  unfold execCanError
  refine ⟨_, rfl, ?_⟩
  have h := Kept.refl s
  repeat' first | with_reducible assumption | with_reducible apply kept_ite | with_reducible apply kept_ite1 | with_reducible apply kept_ite2 | (with_reducible refine kept_forAll (fun _ _ _ => ?_) ?_) | (with_reducible refine kept_foldl (fun _ _ _ => ?_) ?_) | (with_reducible refine kept_foldl1 (fun _ _ _ => ?_) ?_) | with_reducible apply kept_canError | with_reducible apply kept_gated | with_reducible apply kept_endCommand | with_reducible apply kept_twnCommand | with_reducible apply kept_cruStart | with_reducible apply kept_cryGo | with_reducible apply kept_wr | with_reducible apply kept_updCommand | with_reducible apply keptRes_set | fail_if_no_progress (with_reducible apply kept_mk) | (with_reducible refine kept_of_eq (by with_reducible assumption) ?_) | intro _ _ | split | dsimp only

theorem kept_execCanRecover (q : Requester) (b : Fin 8) (s : State) : ∃ r, execCanRecover q b s = .next r ∧ Kept s r := by
  unfold execCanRecover
  refine ⟨_, rfl, ?_⟩
  have h := Kept.refl s
  repeat' first | with_reducible assumption | with_reducible apply kept_ite | with_reducible apply kept_ite1 | with_reducible apply kept_ite2 | (with_reducible refine kept_forAll (fun _ _ _ => ?_) ?_) | (with_reducible refine kept_foldl (fun _ _ _ => ?_) ?_) | (with_reducible refine kept_foldl1 (fun _ _ _ => ?_) ?_) | with_reducible apply kept_canGated | with_reducible apply kept_canCommand | with_reducible apply kept_gated | with_reducible apply kept_endCommand | with_reducible apply kept_twnCommand | with_reducible apply kept_cruStart | with_reducible apply kept_cryGo | with_reducible apply kept_wr | with_reducible apply kept_updCommand | with_reducible apply keptRes_set | fail_if_no_progress (with_reducible apply kept_mk) | (with_reducible refine kept_of_eq (by with_reducible assumption) ?_) | intro _ _ | split | dsimp only

theorem kept_execCanRecoveryComplete (b : Fin 8) (s : State) : ∃ r, execCanRecoveryComplete b s = .next r ∧ Kept s r := by
  unfold execCanRecoveryComplete
  refine ⟨_, rfl, ?_⟩
  have h := Kept.refl s
  repeat' first | with_reducible assumption | with_reducible apply kept_ite | with_reducible apply kept_ite1 | with_reducible apply kept_ite2 | (with_reducible refine kept_forAll (fun _ _ _ => ?_) ?_) | (with_reducible refine kept_foldl (fun _ _ _ => ?_) ?_) | (with_reducible refine kept_foldl1 (fun _ _ _ => ?_) ?_) | with_reducible apply kept_setFbSub | with_reducible apply kept_setCounters | with_reducible apply kept_gated | with_reducible apply kept_endCommand | with_reducible apply kept_twnCommand | with_reducible apply kept_cruStart | with_reducible apply kept_cryGo | with_reducible apply kept_wr | with_reducible apply kept_updCommand | with_reducible apply keptRes_set | fail_if_no_progress (with_reducible apply kept_mk) | (with_reducible refine kept_of_eq (by with_reducible assumption) ?_) | intro _ _ | split | dsimp only

theorem kept_execCanProtocolException (b : Fin 8) (s : State) : ∃ r, execCanProtocolException b s = .next r ∧ Kept s r := by
  unfold execCanProtocolException
  refine ⟨_, rfl, ?_⟩
  have h := Kept.refl s
  repeat' first | with_reducible assumption | with_reducible apply kept_ite | with_reducible apply kept_ite1 | with_reducible apply kept_ite2 | (with_reducible refine kept_forAll (fun _ _ _ => ?_) ?_) | (with_reducible refine kept_foldl (fun _ _ _ => ?_) ?_) | (with_reducible refine kept_foldl1 (fun _ _ _ => ?_) ?_) | with_reducible apply kept_canError | with_reducible apply kept_count | with_reducible apply kept_canRaise | with_reducible apply kept_bumpSat | with_reducible apply kept_setFbSub | with_reducible apply kept_gated | with_reducible apply kept_endCommand | with_reducible apply kept_twnCommand | with_reducible apply kept_cruStart | with_reducible apply kept_cryGo | with_reducible apply kept_wr | with_reducible apply kept_updCommand | with_reducible apply keptRes_set | fail_if_no_progress (with_reducible apply kept_mk) | (with_reducible refine kept_of_eq (by with_reducible assumption) ?_) | intro _ _ | split | dsimp only

theorem kept_execCanExceptionEnd (b : Fin 8) (s : State) : ∃ r, execCanExceptionEnd b s = .next r ∧ Kept s r := by
  unfold execCanExceptionEnd
  refine ⟨_, rfl, ?_⟩
  have h := Kept.refl s
  repeat' first | with_reducible assumption | with_reducible apply kept_ite | with_reducible apply kept_ite1 | with_reducible apply kept_ite2 | (with_reducible refine kept_forAll (fun _ _ _ => ?_) ?_) | (with_reducible refine kept_foldl (fun _ _ _ => ?_) ?_) | (with_reducible refine kept_foldl1 (fun _ _ _ => ?_) ?_) | with_reducible apply kept_txChoice | with_reducible apply kept_setFbSub | with_reducible apply kept_gated | with_reducible apply kept_endCommand | with_reducible apply kept_twnCommand | with_reducible apply kept_cruStart | with_reducible apply kept_cryGo | with_reducible apply kept_wr | with_reducible apply kept_updCommand | with_reducible apply keptRes_set | fail_if_no_progress (with_reducible apply kept_mk) | (with_reducible refine kept_of_eq (by with_reducible assumption) ?_) | intro _ _ | split | dsimp only

theorem kept_execCanListenSwitch (b : Fin 8) (s : State) : ∃ r, execCanListenSwitch b s = .next r ∧ Kept s r := by
  unfold execCanListenSwitch
  refine ⟨_, rfl, ?_⟩
  have h := Kept.refl s
  repeat' first | with_reducible assumption | with_reducible apply kept_ite | with_reducible apply kept_ite1 | with_reducible apply kept_ite2 | (with_reducible refine kept_forAll (fun _ _ _ => ?_) ?_) | (with_reducible refine kept_foldl (fun _ _ _ => ?_) ?_) | (with_reducible refine kept_foldl1 (fun _ _ _ => ?_) ?_) | with_reducible apply kept_setBus | with_reducible apply kept_failPending | with_reducible apply kept_setBuf | with_reducible apply kept_noActive | with_reducible apply kept_gated | with_reducible apply kept_endCommand | with_reducible apply kept_twnCommand | with_reducible apply kept_cruStart | with_reducible apply kept_cryGo | with_reducible apply kept_wr | with_reducible apply kept_updCommand | with_reducible apply keptRes_set | fail_if_no_progress (with_reducible apply kept_mk) | (with_reducible refine kept_of_eq (by with_reducible assumption) ?_) | intro _ _ | split | dsimp only

theorem kept_execDomainStateChange (d : Fin 14) (s : State) : ∃ r, execDomainStateChange d s = .next r ∧ Kept s r := by
  unfold execDomainStateChange
  refine ⟨_, rfl, ?_⟩
  have h := Kept.refl s
  repeat' first | with_reducible assumption | with_reducible apply kept_ite | with_reducible apply kept_ite1 | with_reducible apply kept_ite2 | (with_reducible refine kept_forAll (fun _ _ _ => ?_) ?_) | (with_reducible refine kept_foldl (fun _ _ _ => ?_) ?_) | (with_reducible refine kept_foldl1 (fun _ _ _ => ?_) ?_) | with_reducible apply kept_domainIdle | with_reducible apply kept_gated | with_reducible apply kept_endCommand | with_reducible apply kept_twnCommand | with_reducible apply kept_cruStart | with_reducible apply kept_cryGo | with_reducible apply kept_wr | with_reducible apply kept_updCommand | with_reducible apply keptRes_set | fail_if_no_progress (with_reducible apply kept_mk) | (with_reducible refine kept_of_eq (by with_reducible assumption) ?_) | intro _ _ | split | dsimp only

theorem kept_execDomainPrewake (d : Fin 14) (s : State) : ∃ r, execDomainPrewake d s = .next r ∧ Kept s r := by
  unfold execDomainPrewake
  refine ⟨_, rfl, ?_⟩
  have h := Kept.refl s
  repeat' first | with_reducible assumption | with_reducible apply kept_ite | with_reducible apply kept_ite1 | with_reducible apply kept_ite2 | (with_reducible refine kept_forAll (fun _ _ _ => ?_) ?_) | (with_reducible refine kept_foldl (fun _ _ _ => ?_) ?_) | (with_reducible refine kept_foldl1 (fun _ _ _ => ?_) ?_) | with_reducible apply kept_domainWake | with_reducible apply kept_gated | with_reducible apply kept_endCommand | with_reducible apply kept_twnCommand | with_reducible apply kept_cruStart | with_reducible apply kept_cryGo | with_reducible apply kept_wr | with_reducible apply kept_updCommand | with_reducible apply keptRes_set | fail_if_no_progress (with_reducible apply kept_mk) | (with_reducible refine kept_of_eq (by with_reducible assumption) ?_) | intro _ _ | split | dsimp only

theorem kept_execDomainExitComplete (d : Fin 14) (s : State) : ∃ r, execDomainExitComplete d s = .next r ∧ Kept s r := by
  unfold execDomainExitComplete
  refine ⟨_, rfl, ?_⟩
  have h := Kept.refl s
  repeat' first | with_reducible assumption | with_reducible apply kept_ite | with_reducible apply kept_ite1 | with_reducible apply kept_ite2 | (with_reducible refine kept_forAll (fun _ _ _ => ?_) ?_) | (with_reducible refine kept_foldl (fun _ _ _ => ?_) ?_) | (with_reducible refine kept_foldl1 (fun _ _ _ => ?_) ?_) | with_reducible apply kept_domainRuns | with_reducible apply kept_gated | with_reducible apply kept_endCommand | with_reducible apply kept_twnCommand | with_reducible apply kept_cruStart | with_reducible apply kept_cryGo | with_reducible apply kept_wr | with_reducible apply kept_updCommand | with_reducible apply keptRes_set | fail_if_no_progress (with_reducible apply kept_mk) | (with_reducible refine kept_of_eq (by with_reducible assumption) ?_) | intro _ _ | split | dsimp only

theorem kept_execModeRequest (q : Requester) (v : Word) (s : State) : ∃ r, execModeRequest q v s = .next r ∧ Kept s r := by
  unfold execModeRequest
  refine ⟨_, rfl, ?_⟩
  have h := Kept.refl s
  repeat' first | with_reducible assumption | with_reducible apply kept_ite | with_reducible apply kept_ite1 | with_reducible apply kept_ite2 | (with_reducible refine kept_forAll (fun _ _ _ => ?_) ?_) | (with_reducible refine kept_foldl (fun _ _ _ => ?_) ?_) | (with_reducible refine kept_foldl1 (fun _ _ _ => ?_) ?_) | with_reducible apply kept_gated | with_reducible apply kept_endCommand | with_reducible apply kept_modeRequest | with_reducible apply kept_gated | with_reducible apply kept_endCommand | with_reducible apply kept_twnCommand | with_reducible apply kept_cruStart | with_reducible apply kept_cryGo | with_reducible apply kept_wr | with_reducible apply kept_updCommand | with_reducible apply keptRes_set | fail_if_no_progress (with_reducible apply kept_mk) | (with_reducible refine kept_of_eq (by with_reducible assumption) ?_) | intro _ _ | split | dsimp only

theorem kept_execPhyLinkUp (p : Fin 16) (full : Bool) (mse : Int) (s : State) : ∃ r, execPhyLinkUp p full mse s = .next r ∧ Kept s r := by
  unfold execPhyLinkUp
  refine ⟨_, rfl, ?_⟩
  have h := Kept.refl s
  repeat' first | with_reducible assumption | with_reducible apply kept_ite | with_reducible apply kept_ite1 | with_reducible apply kept_ite2 | (with_reducible refine kept_forAll (fun _ _ _ => ?_) ?_) | (with_reducible refine kept_foldl (fun _ _ _ => ?_) ?_) | (with_reducible refine kept_foldl1 (fun _ _ _ => ?_) ?_) | with_reducible apply kept_phyUp | with_reducible apply kept_gated | with_reducible apply kept_endCommand | with_reducible apply kept_twnCommand | with_reducible apply kept_cruStart | with_reducible apply kept_cryGo | with_reducible apply kept_wr | with_reducible apply kept_updCommand | with_reducible apply keptRes_set | fail_if_no_progress (with_reducible apply kept_mk) | (with_reducible refine kept_of_eq (by with_reducible assumption) ?_) | intro _ _ | split | dsimp only

theorem kept_execPhyLinkDown (p : Fin 16) (s : State) : ∃ r, execPhyLinkDown p s = .next r ∧ Kept s r := by
  unfold execPhyLinkDown
  refine ⟨_, rfl, ?_⟩
  have h := Kept.refl s
  repeat' first | with_reducible assumption | with_reducible apply kept_ite | with_reducible apply kept_ite1 | with_reducible apply kept_ite2 | (with_reducible refine kept_forAll (fun _ _ _ => ?_) ?_) | (with_reducible refine kept_foldl (fun _ _ _ => ?_) ?_) | (with_reducible refine kept_foldl1 (fun _ _ _ => ?_) ?_) | with_reducible apply kept_phyDown | with_reducible apply kept_gated | with_reducible apply kept_endCommand | with_reducible apply kept_twnCommand | with_reducible apply kept_cruStart | with_reducible apply kept_cryGo | with_reducible apply kept_wr | with_reducible apply kept_updCommand | with_reducible apply keptRes_set | fail_if_no_progress (with_reducible apply kept_mk) | (with_reducible refine kept_of_eq (by with_reducible assumption) ?_) | intro _ _ | split | dsimp only

theorem kept_execQuietCheckEnd (p : Fin 16) (quiet : Bool) (s : State) : ∃ r, execQuietCheckEnd p quiet s = .next r ∧ Kept s r := by
  unfold execQuietCheckEnd
  refine ⟨_, rfl, ?_⟩
  have h := Kept.refl s
  repeat' first | with_reducible assumption | with_reducible apply kept_ite | with_reducible apply kept_ite1 | with_reducible apply kept_ite2 | (with_reducible refine kept_forAll (fun _ _ _ => ?_) ?_) | (with_reducible refine kept_foldl (fun _ _ _ => ?_) ?_) | (with_reducible refine kept_foldl1 (fun _ _ _ => ?_) ?_) | with_reducible apply kept_portTime | with_reducible apply kept_stepEnds | with_reducible apply kept_classifyStep | with_reducible apply kept_portFault | with_reducible apply kept_gated | with_reducible apply kept_endCommand | with_reducible apply kept_twnCommand | with_reducible apply kept_cruStart | with_reducible apply kept_cryGo | with_reducible apply kept_wr | with_reducible apply kept_updCommand | with_reducible apply keptRes_set | fail_if_no_progress (with_reducible apply kept_mk) | (with_reducible refine kept_of_eq (by with_reducible assumption) ?_) | intro _ _ | split | dsimp only

theorem kept_execDetectionResult (p : Fin 16) (valid : Bool) (s : State) : ∃ r, execDetectionResult p valid s = .next r ∧ Kept s r := by
  unfold execDetectionResult
  refine ⟨_, rfl, ?_⟩
  have h := Kept.refl s
  repeat' first | with_reducible assumption | with_reducible apply kept_ite | with_reducible apply kept_ite1 | with_reducible apply kept_ite2 | (with_reducible refine kept_forAll (fun _ _ _ => ?_) ?_) | (with_reducible refine kept_foldl (fun _ _ _ => ?_) ?_) | (with_reducible refine kept_foldl1 (fun _ _ _ => ?_) ?_) | with_reducible apply kept_stepEnds | with_reducible apply kept_classifyStep | with_reducible apply kept_gated | with_reducible apply kept_endCommand | with_reducible apply kept_twnCommand | with_reducible apply kept_cruStart | with_reducible apply kept_cryGo | with_reducible apply kept_wr | with_reducible apply kept_updCommand | with_reducible apply keptRes_set | fail_if_no_progress (with_reducible apply kept_mk) | (with_reducible refine kept_of_eq (by with_reducible assumption) ?_) | intro _ _ | split | dsimp only

theorem kept_execDetectionRetry (p : Fin 16) (s : State) : ∃ r, execDetectionRetry p s = .next r ∧ Kept s r := by
  unfold execDetectionRetry
  refine ⟨_, rfl, ?_⟩
  have h := Kept.refl s
  repeat' first | with_reducible assumption | with_reducible apply kept_ite | with_reducible apply kept_ite1 | with_reducible apply kept_ite2 | (with_reducible refine kept_forAll (fun _ _ _ => ?_) ?_) | (with_reducible refine kept_foldl (fun _ _ _ => ?_) ?_) | (with_reducible refine kept_foldl1 (fun _ _ _ => ?_) ?_) | with_reducible apply kept_classify | with_reducible apply kept_portTime | with_reducible apply kept_gated | with_reducible apply kept_endCommand | with_reducible apply kept_twnCommand | with_reducible apply kept_cruStart | with_reducible apply kept_cryGo | with_reducible apply kept_wr | with_reducible apply kept_updCommand | with_reducible apply keptRes_set | fail_if_no_progress (with_reducible apply kept_mk) | (with_reducible refine kept_of_eq (by with_reducible assumption) ?_) | intro _ _ | split | dsimp only

theorem kept_execSccpAttemptEnd (p : Fin 16) (cls : Option (Fin 16)) (s : State) : ∃ r, execSccpAttemptEnd p cls s = .next r ∧ Kept s r := by
  unfold execSccpAttemptEnd
  refine ⟨_, rfl, ?_⟩
  have h := Kept.refl s
  repeat' first | with_reducible assumption | with_reducible apply kept_ite | with_reducible apply kept_ite1 | with_reducible apply kept_ite2 | (with_reducible refine kept_forAll (fun _ _ _ => ?_) ?_) | (with_reducible refine kept_foldl (fun _ _ _ => ?_) ?_) | (with_reducible refine kept_foldl1 (fun _ _ _ => ?_) ?_) | with_reducible apply kept_sccpEnd | with_reducible apply kept_gated | with_reducible apply kept_endCommand | with_reducible apply kept_twnCommand | with_reducible apply kept_cruStart | with_reducible apply kept_cryGo | with_reducible apply kept_wr | with_reducible apply kept_updCommand | with_reducible apply keptRes_set | fail_if_no_progress (with_reducible apply kept_mk) | (with_reducible refine kept_of_eq (by with_reducible assumption) ?_) | intro _ _ | split | dsimp only

theorem kept_execPowerUpReached (p : Fin 16) (s : State) : ∃ r, execPowerUpReached p s = .next r ∧ Kept s r := by
  unfold execPowerUpReached
  refine ⟨_, rfl, ?_⟩
  have h := Kept.refl s
  repeat' first | with_reducible assumption | with_reducible apply kept_ite | with_reducible apply kept_ite1 | with_reducible apply kept_ite2 | (with_reducible refine kept_forAll (fun _ _ _ => ?_) ?_) | (with_reducible refine kept_foldl (fun _ _ _ => ?_) ?_) | (with_reducible refine kept_foldl1 (fun _ _ _ => ?_) ?_) | with_reducible apply kept_poweredUp | with_reducible apply kept_gated | with_reducible apply kept_endCommand | with_reducible apply kept_twnCommand | with_reducible apply kept_cruStart | with_reducible apply kept_cryGo | with_reducible apply kept_wr | with_reducible apply kept_updCommand | with_reducible apply keptRes_set | fail_if_no_progress (with_reducible apply kept_mk) | (with_reducible refine kept_of_eq (by with_reducible assumption) ?_) | intro _ _ | split | dsimp only

theorem kept_execPowerUpTimeout (p : Fin 16) (s : State) : ∃ r, execPowerUpTimeout p s = .next r ∧ Kept s r := by
  unfold execPowerUpTimeout
  refine ⟨_, rfl, ?_⟩
  have h := Kept.refl s
  repeat' first | with_reducible assumption | with_reducible apply kept_ite | with_reducible apply kept_ite1 | with_reducible apply kept_ite2 | (with_reducible refine kept_forAll (fun _ _ _ => ?_) ?_) | (with_reducible refine kept_foldl (fun _ _ _ => ?_) ?_) | (with_reducible refine kept_foldl1 (fun _ _ _ => ?_) ?_) | with_reducible apply kept_portFault | with_reducible apply kept_portTime | with_reducible apply kept_gated | with_reducible apply kept_endCommand | with_reducible apply kept_twnCommand | with_reducible apply kept_cruStart | with_reducible apply kept_cryGo | with_reducible apply kept_wr | with_reducible apply kept_updCommand | with_reducible apply keptRes_set | fail_if_no_progress (with_reducible apply kept_mk) | (with_reducible refine kept_of_eq (by with_reducible assumption) ?_) | intro _ _ | split | dsimp only

theorem kept_execPortOverload (p : Fin 16) (s : State) : ∃ r, execPortOverload p s = .next r ∧ Kept s r := by
  unfold execPortOverload
  refine ⟨_, rfl, ?_⟩
  have h := Kept.refl s
  repeat' first | with_reducible assumption | with_reducible apply kept_ite | with_reducible apply kept_ite1 | with_reducible apply kept_ite2 | (with_reducible refine kept_forAll (fun _ _ _ => ?_) ?_) | (with_reducible refine kept_foldl (fun _ _ _ => ?_) ?_) | (with_reducible refine kept_foldl1 (fun _ _ _ => ?_) ?_) | with_reducible apply kept_portFault | with_reducible apply kept_gated | with_reducible apply kept_endCommand | with_reducible apply kept_twnCommand | with_reducible apply kept_cruStart | with_reducible apply kept_cryGo | with_reducible apply kept_wr | with_reducible apply kept_updCommand | with_reducible apply keptRes_set | fail_if_no_progress (with_reducible apply kept_mk) | (with_reducible refine kept_of_eq (by with_reducible assumption) ?_) | intro _ _ | split | dsimp only

theorem kept_execPortShort (p : Fin 16) (s : State) : ∃ r, execPortShort p s = .next r ∧ Kept s r := by
  unfold execPortShort
  refine ⟨_, rfl, ?_⟩
  have h := Kept.refl s
  repeat' first | with_reducible assumption | with_reducible apply kept_ite | with_reducible apply kept_ite1 | with_reducible apply kept_ite2 | (with_reducible refine kept_forAll (fun _ _ _ => ?_) ?_) | (with_reducible refine kept_foldl (fun _ _ _ => ?_) ?_) | (with_reducible refine kept_foldl1 (fun _ _ _ => ?_) ?_) | with_reducible apply kept_portFault | with_reducible apply kept_gated | with_reducible apply kept_endCommand | with_reducible apply kept_twnCommand | with_reducible apply kept_cruStart | with_reducible apply kept_cryGo | with_reducible apply kept_wr | with_reducible apply kept_updCommand | with_reducible apply keptRes_set | fail_if_no_progress (with_reducible apply kept_mk) | (with_reducible refine kept_of_eq (by with_reducible assumption) ?_) | intro _ _ | split | dsimp only

theorem kept_execRailUndervoltage (g : Fin 2) (volt : BitVec 16) (s : State) : ∃ r, execRailUndervoltage g volt s = .next r ∧ Kept s r := by
  unfold execRailUndervoltage
  refine ⟨_, rfl, ?_⟩
  have h := Kept.refl s
  repeat' first | with_reducible assumption | with_reducible apply kept_ite | with_reducible apply kept_ite1 | with_reducible apply kept_ite2 | (with_reducible refine kept_forAll (fun _ _ _ => ?_) ?_) | (with_reducible refine kept_foldl (fun _ _ _ => ?_) ?_) | (with_reducible refine kept_foldl1 (fun _ _ _ => ?_) ?_) | with_reducible apply kept_setFld | with_reducible apply kept_portFault | with_reducible apply kept_gated | with_reducible apply kept_endCommand | with_reducible apply kept_twnCommand | with_reducible apply kept_cruStart | with_reducible apply kept_cryGo | with_reducible apply kept_wr | with_reducible apply kept_updCommand | with_reducible apply keptRes_set | fail_if_no_progress (with_reducible apply kept_mk) | (with_reducible refine kept_of_eq (by with_reducible assumption) ?_) | intro _ _ | split | dsimp only

theorem kept_execPortDisconnect (p : Fin 16) (s : State) : ∃ r, execPortDisconnect p s = .next r ∧ Kept s r := by
  unfold execPortDisconnect
  refine ⟨_, rfl, ?_⟩
  have h := Kept.refl s
  repeat' first | with_reducible assumption | with_reducible apply kept_ite | with_reducible apply kept_ite1 | with_reducible apply kept_ite2 | (with_reducible refine kept_forAll (fun _ _ _ => ?_) ?_) | (with_reducible refine kept_foldl (fun _ _ _ => ?_) ?_) | (with_reducible refine kept_foldl1 (fun _ _ _ => ?_) ?_) | with_reducible apply kept_setFld | with_reducible apply kept_bumpSat | with_reducible apply kept_enterPort | with_reducible apply kept_raiseBit | with_reducible apply kept_setPort | with_reducible apply kept_gated | with_reducible apply kept_endCommand | with_reducible apply kept_twnCommand | with_reducible apply kept_cruStart | with_reducible apply kept_cryGo | with_reducible apply kept_wr | with_reducible apply kept_updCommand | with_reducible apply keptRes_set | fail_if_no_progress (with_reducible apply kept_mk) | (with_reducible refine kept_of_eq (by with_reducible assumption) ?_) | intro _ _ | split | dsimp only

theorem kept_execCoolDownEnd (p : Fin 16) (s : State) : ∃ r, execCoolDownEnd p s = .next r ∧ Kept s r := by
  unfold execCoolDownEnd
  refine ⟨_, rfl, ?_⟩
  have h := Kept.refl s
  repeat' first | with_reducible assumption | with_reducible apply kept_ite | with_reducible apply kept_ite1 | with_reducible apply kept_ite2 | (with_reducible refine kept_forAll (fun _ _ _ => ?_) ?_) | (with_reducible refine kept_foldl (fun _ _ _ => ?_) ?_) | (with_reducible refine kept_foldl1 (fun _ _ _ => ?_) ?_) | with_reducible apply kept_enterPort | with_reducible apply kept_portTime | with_reducible apply kept_gated | with_reducible apply kept_endCommand | with_reducible apply kept_twnCommand | with_reducible apply kept_cruStart | with_reducible apply kept_cryGo | with_reducible apply kept_wr | with_reducible apply kept_updCommand | with_reducible apply keptRes_set | fail_if_no_progress (with_reducible apply kept_mk) | (with_reducible refine kept_of_eq (by with_reducible assumption) ?_) | intro _ _ | split | dsimp only

theorem kept_execDischargeComplete (p : Fin 16) (s : State) : ∃ r, execDischargeComplete p s = .next r ∧ Kept s r := by
  unfold execDischargeComplete
  refine ⟨_, rfl, ?_⟩
  have h := Kept.refl s
  repeat' first | with_reducible assumption | with_reducible apply kept_ite | with_reducible apply kept_ite1 | with_reducible apply kept_ite2 | (with_reducible refine kept_forAll (fun _ _ _ => ?_) ?_) | (with_reducible refine kept_foldl (fun _ _ _ => ?_) ?_) | (with_reducible refine kept_foldl1 (fun _ _ _ => ?_) ?_) | with_reducible apply kept_discharged | with_reducible apply kept_gated | with_reducible apply kept_endCommand | with_reducible apply kept_twnCommand | with_reducible apply kept_cruStart | with_reducible apply kept_cryGo | with_reducible apply kept_wr | with_reducible apply kept_updCommand | with_reducible apply keptRes_set | fail_if_no_progress (with_reducible apply kept_mk) | (with_reducible refine kept_of_eq (by with_reducible assumption) ?_) | intro _ _ | split | dsimp only

theorem kept_execDischargeLimit (p : Fin 16) (s : State) : ∃ r, execDischargeLimit p s = .next r ∧ Kept s r := by
  unfold execDischargeLimit
  refine ⟨_, rfl, ?_⟩
  have h := Kept.refl s
  repeat' first | with_reducible assumption | with_reducible apply kept_ite | with_reducible apply kept_ite1 | with_reducible apply kept_ite2 | (with_reducible refine kept_forAll (fun _ _ _ => ?_) ?_) | (with_reducible refine kept_foldl (fun _ _ _ => ?_) ?_) | (with_reducible refine kept_foldl1 (fun _ _ _ => ?_) ?_) | with_reducible apply kept_discharged | with_reducible apply kept_setFld | with_reducible apply kept_portTime | with_reducible apply kept_gated | with_reducible apply kept_endCommand | with_reducible apply kept_twnCommand | with_reducible apply kept_cruStart | with_reducible apply kept_cryGo | with_reducible apply kept_wr | with_reducible apply kept_updCommand | with_reducible apply keptRes_set | fail_if_no_progress (with_reducible apply kept_mk) | (with_reducible refine kept_of_eq (by with_reducible assumption) ?_) | intro _ _ | split | dsimp only

theorem kept_execDownlinkFrameSend  (s : State) : ∃ r, execDownlinkFrameSend s = .next r ∧ Kept s r := by
  unfold execDownlinkFrameSend
  refine ⟨_, rfl, ?_⟩
  have h := Kept.refl s
  repeat' first | with_reducible assumption | with_reducible apply kept_ite | with_reducible apply kept_ite1 | with_reducible apply kept_ite2 | (with_reducible refine kept_forAll (fun _ _ _ => ?_) ?_) | (with_reducible refine kept_foldl (fun _ _ _ => ?_) ?_) | (with_reducible refine kept_foldl1 (fun _ _ _ => ?_) ?_) | with_reducible apply kept_sendDownlink | with_reducible apply kept_advanceTo | with_reducible apply kept_gated | with_reducible apply kept_endCommand | with_reducible apply kept_twnCommand | with_reducible apply kept_cruStart | with_reducible apply kept_cryGo | with_reducible apply kept_wr | with_reducible apply kept_updCommand | with_reducible apply keptRes_set | fail_if_no_progress (with_reducible apply kept_mk) | (with_reducible refine kept_of_eq (by with_reducible assumption) ?_) | intro _ _ | split | dsimp only

theorem kept_execUplinkFrameReceived (p : Fin 16) (x : UplinkFrame) (s : State) : ∃ r, execUplinkFrameReceived p x s = .next r ∧ Kept s r := by
  unfold execUplinkFrameReceived
  refine ⟨_, rfl, ?_⟩
  have h := Kept.refl s
  repeat' first | with_reducible assumption | with_reducible apply kept_ite | with_reducible apply kept_ite1 | with_reducible apply kept_ite2 | (with_reducible refine kept_forAll (fun _ _ _ => ?_) ?_) | (with_reducible refine kept_foldl (fun _ _ _ => ?_) ?_) | (with_reducible refine kept_foldl1 (fun _ _ _ => ?_) ?_) | with_reducible apply kept_dropStation | with_reducible apply kept_advanceTo | with_reducible apply kept_takeUplink | with_reducible apply kept_discardFrame | with_reducible apply kept_gated | with_reducible apply kept_endCommand | with_reducible apply kept_twnCommand | with_reducible apply kept_cruStart | with_reducible apply kept_cryGo | with_reducible apply kept_wr | with_reducible apply kept_updCommand | with_reducible apply keptRes_set | fail_if_no_progress (with_reducible apply kept_mk) | (with_reducible refine kept_of_eq (by with_reducible assumption) ?_) | intro _ _ | split | dsimp only

theorem kept_execStationDrop (p : Fin 16) (s : State) : ∃ r, execStationDrop p s = .next r ∧ Kept s r := by
  unfold execStationDrop
  refine ⟨_, rfl, ?_⟩
  have h := Kept.refl s
  repeat' first | with_reducible assumption | with_reducible apply kept_ite | with_reducible apply kept_ite1 | with_reducible apply kept_ite2 | (with_reducible refine kept_forAll (fun _ _ _ => ?_) ?_) | (with_reducible refine kept_foldl (fun _ _ _ => ?_) ?_) | (with_reducible refine kept_foldl1 (fun _ _ _ => ?_) ?_) | with_reducible apply kept_dropStation | with_reducible apply kept_gated | with_reducible apply kept_endCommand | with_reducible apply kept_twnCommand | with_reducible apply kept_cruStart | with_reducible apply kept_cryGo | with_reducible apply kept_wr | with_reducible apply kept_updCommand | with_reducible apply keptRes_set | fail_if_no_progress (with_reducible apply kept_mk) | (with_reducible refine kept_of_eq (by with_reducible assumption) ?_) | intro _ _ | split | dsimp only

theorem kept_execStationSubstituteCommit (p : Fin 16) (s : State) : ∃ r, execStationSubstituteCommit p s = .next r ∧ Kept s r := by
  unfold execStationSubstituteCommit
  refine ⟨_, rfl, ?_⟩
  have h := Kept.refl s
  repeat' first | with_reducible assumption | with_reducible apply kept_ite | with_reducible apply kept_ite1 | with_reducible apply kept_ite2 | (with_reducible refine kept_forAll (fun _ _ _ => ?_) ?_) | (with_reducible refine kept_foldl (fun _ _ _ => ?_) ?_) | (with_reducible refine kept_foldl1 (fun _ _ _ => ?_) ?_) | with_reducible apply kept_svcSubs | with_reducible apply kept_gated | with_reducible apply kept_endCommand | with_reducible apply kept_twnCommand | with_reducible apply kept_cruStart | with_reducible apply kept_cryGo | with_reducible apply kept_wr | with_reducible apply kept_updCommand | with_reducible apply keptRes_set | fail_if_no_progress (with_reducible apply kept_mk) | (with_reducible refine kept_of_eq (by with_reducible assumption) ?_) | intro _ _ | split | dsimp only

theorem kept_execHostFrameReceived (m : Fin 6) (x : HostFrame) (s : State) : ∃ r, execHostFrameReceived m x s = .next r ∧ Kept s r := by
  unfold execHostFrameReceived
  refine ⟨_, rfl, ?_⟩
  have h := Kept.refl s
  repeat' first | with_reducible assumption | with_reducible apply kept_ite | with_reducible apply kept_ite1 | with_reducible apply kept_ite2 | (with_reducible refine kept_forAll (fun _ _ _ => ?_) ?_) | (with_reducible refine kept_foldl (fun _ _ _ => ?_) ?_) | (with_reducible refine kept_foldl1 (fun _ _ _ => ?_) ?_) | with_reducible apply kept_hostFrameReceived | with_reducible apply kept_gated | with_reducible apply kept_endCommand | with_reducible apply kept_twnCommand | with_reducible apply kept_cruStart | with_reducible apply kept_cryGo | with_reducible apply kept_wr | with_reducible apply kept_updCommand | with_reducible apply keptRes_set | fail_if_no_progress (with_reducible apply kept_mk) | (with_reducible refine kept_of_eq (by with_reducible assumption) ?_) | intro _ _ | split | dsimp only

theorem kept_execHostFrameTransmit (m : Fin 6) (stamp : Nat) (underrun : Bool) (s : State) : ∃ r, execHostFrameTransmit m stamp underrun s = .next r ∧ Kept s r := by
  unfold execHostFrameTransmit
  refine ⟨_, rfl, ?_⟩
  have h := Kept.refl s
  repeat' first | with_reducible assumption | with_reducible apply kept_ite | with_reducible apply kept_ite1 | with_reducible apply kept_ite2 | (with_reducible refine kept_forAll (fun _ _ _ => ?_) ?_) | (with_reducible refine kept_foldl (fun _ _ _ => ?_) ?_) | (with_reducible refine kept_foldl1 (fun _ _ _ => ?_) ?_) | with_reducible apply kept_hostFrameTransmit | with_reducible apply kept_gated | with_reducible apply kept_endCommand | with_reducible apply kept_twnCommand | with_reducible apply kept_cruStart | with_reducible apply kept_cryGo | with_reducible apply kept_wr | with_reducible apply kept_updCommand | with_reducible apply keptRes_set | fail_if_no_progress (with_reducible apply kept_mk) | (with_reducible refine kept_of_eq (by with_reducible assumption) ?_) | intro _ _ | split | dsimp only

theorem kept_execPtpFifoPop (q : Requester) (m : Fin 6) (tx : Bool) (s : State) : ∃ r, execPtpFifoPop q m tx s = .next r ∧ Kept s r := by
  unfold execPtpFifoPop
  refine ⟨_, rfl, ?_⟩
  have h := Kept.refl s
  repeat' first | with_reducible assumption | with_reducible apply kept_ite | with_reducible apply kept_ite1 | with_reducible apply kept_ite2 | (with_reducible refine kept_forAll (fun _ _ _ => ?_) ?_) | (with_reducible refine kept_foldl (fun _ _ _ => ?_) ?_) | (with_reducible refine kept_foldl1 (fun _ _ _ => ?_) ?_) | with_reducible apply kept_gated | with_reducible apply kept_answer | with_reducible apply kept_ptpPop | with_reducible apply kept_gated | with_reducible apply kept_endCommand | with_reducible apply kept_twnCommand | with_reducible apply kept_cruStart | with_reducible apply kept_cryGo | with_reducible apply kept_wr | with_reducible apply kept_updCommand | with_reducible apply keptRes_set | fail_if_no_progress (with_reducible apply kept_mk) | (with_reducible refine kept_of_eq (by with_reducible assumption) ?_) | intro _ _ | split | dsimp only

theorem kept_execMacCounterClear (q : Requester) (m : Fin 6) (v : Word) (s : State) : ∃ r, execMacCounterClear q m v s = .next r ∧ Kept s r := by
  unfold execMacCounterClear
  refine ⟨_, rfl, ?_⟩
  have h := Kept.refl s
  repeat' first | with_reducible assumption | with_reducible apply kept_ite | with_reducible apply kept_ite1 | with_reducible apply kept_ite2 | (with_reducible refine kept_forAll (fun _ _ _ => ?_) ?_) | (with_reducible refine kept_foldl (fun _ _ _ => ?_) ?_) | (with_reducible refine kept_foldl1 (fun _ _ _ => ?_) ?_) | with_reducible apply kept_gated | with_reducible apply kept_endCommand | with_reducible apply kept_hmCounterClear | with_reducible apply kept_gated | with_reducible apply kept_endCommand | with_reducible apply kept_twnCommand | with_reducible apply kept_cruStart | with_reducible apply kept_cryGo | with_reducible apply kept_wr | with_reducible apply kept_updCommand | with_reducible apply keptRes_set | fail_if_no_progress (with_reducible apply kept_mk) | (with_reducible refine kept_of_eq (by with_reducible assumption) ?_) | intro _ _ | split | dsimp only

theorem kept_execMdioAccess (q : Requester) (m : Fin 6) (v : Word) (s : State) : ∃ r, execMdioAccess q m v s = .next r ∧ Kept s r := by
  unfold execMdioAccess
  refine ⟨_, rfl, ?_⟩
  have h := Kept.refl s
  repeat' first | with_reducible assumption | with_reducible apply kept_ite | with_reducible apply kept_ite1 | with_reducible apply kept_ite2 | (with_reducible refine kept_forAll (fun _ _ _ => ?_) ?_) | (with_reducible refine kept_foldl (fun _ _ _ => ?_) ?_) | (with_reducible refine kept_foldl1 (fun _ _ _ => ?_) ?_) | with_reducible apply kept_gated | with_reducible apply kept_endCommand | with_reducible apply kept_mdioWrite | with_reducible apply kept_gated | with_reducible apply kept_endCommand | with_reducible apply kept_twnCommand | with_reducible apply kept_cruStart | with_reducible apply kept_cryGo | with_reducible apply kept_wr | with_reducible apply kept_updCommand | with_reducible apply keptRes_set | fail_if_no_progress (with_reducible apply kept_mk) | (with_reducible refine kept_of_eq (by with_reducible assumption) ?_) | intro _ _ | split | dsimp only

theorem kept_execMdioComplete (m : Fin 6) (data : BitVec 16) (s : State) : ∃ r, execMdioComplete m data s = .next r ∧ Kept s r := by
  unfold execMdioComplete
  refine ⟨_, rfl, ?_⟩
  have h := Kept.refl s
  repeat' first | with_reducible assumption | with_reducible apply kept_ite | with_reducible apply kept_ite1 | with_reducible apply kept_ite2 | (with_reducible refine kept_forAll (fun _ _ _ => ?_) ?_) | (with_reducible refine kept_foldl (fun _ _ _ => ?_) ?_) | (with_reducible refine kept_foldl1 (fun _ _ _ => ?_) ?_) | with_reducible apply kept_mdioDone | with_reducible apply kept_gated | with_reducible apply kept_endCommand | with_reducible apply kept_twnCommand | with_reducible apply kept_cruStart | with_reducible apply kept_cryGo | with_reducible apply kept_wr | with_reducible apply kept_updCommand | with_reducible apply keptRes_set | fail_if_no_progress (with_reducible apply kept_mk) | (with_reducible refine kept_of_eq (by with_reducible assumption) ?_) | intro _ _ | split | dsimp only

theorem kept_execNrapRequest (m : Fin 6) (s : State) : ∃ r, execNrapRequest m s = .next r ∧ Kept s r := by
  unfold execNrapRequest
  refine ⟨_, rfl, ?_⟩
  have h := Kept.refl s
  repeat' first | with_reducible assumption | with_reducible apply kept_ite | with_reducible apply kept_ite1 | with_reducible apply kept_ite2 | (with_reducible refine kept_forAll (fun _ _ _ => ?_) ?_) | (with_reducible refine kept_foldl (fun _ _ _ => ?_) ?_) | (with_reducible refine kept_foldl1 (fun _ _ _ => ?_) ?_) | with_reducible apply kept_nrapRequest | with_reducible apply kept_gated | with_reducible apply kept_endCommand | with_reducible apply kept_twnCommand | with_reducible apply kept_cruStart | with_reducible apply kept_cryGo | with_reducible apply kept_wr | with_reducible apply kept_updCommand | with_reducible apply keptRes_set | fail_if_no_progress (with_reducible apply kept_mk) | (with_reducible refine kept_of_eq (by with_reducible assumption) ?_) | intro _ _ | split | dsimp only

theorem kept_execHostLinkUp (m : Fin 6) (speed : Fin 4) (s : State) : ∃ r, execHostLinkUp m speed s = .next r ∧ Kept s r := by
  unfold execHostLinkUp
  refine ⟨_, rfl, ?_⟩
  have h := Kept.refl s
  repeat' first | with_reducible assumption | with_reducible apply kept_ite | with_reducible apply kept_ite1 | with_reducible apply kept_ite2 | (with_reducible refine kept_forAll (fun _ _ _ => ?_) ?_) | (with_reducible refine kept_foldl (fun _ _ _ => ?_) ?_) | (with_reducible refine kept_foldl1 (fun _ _ _ => ?_) ?_) | with_reducible apply kept_hostLinkUp | with_reducible apply kept_gated | with_reducible apply kept_endCommand | with_reducible apply kept_twnCommand | with_reducible apply kept_cruStart | with_reducible apply kept_cryGo | with_reducible apply kept_wr | with_reducible apply kept_updCommand | with_reducible apply keptRes_set | fail_if_no_progress (with_reducible apply kept_mk) | (with_reducible refine kept_of_eq (by with_reducible assumption) ?_) | intro _ _ | split | dsimp only

theorem kept_execHostLinkDown (m : Fin 6) (s : State) : ∃ r, execHostLinkDown m s = .next r ∧ Kept s r := by
  unfold execHostLinkDown
  refine ⟨_, rfl, ?_⟩
  have h := Kept.refl s
  repeat' first | with_reducible assumption | with_reducible apply kept_ite | with_reducible apply kept_ite1 | with_reducible apply kept_ite2 | (with_reducible refine kept_forAll (fun _ _ _ => ?_) ?_) | (with_reducible refine kept_foldl (fun _ _ _ => ?_) ?_) | (with_reducible refine kept_foldl1 (fun _ _ _ => ?_) ?_) | with_reducible apply kept_hostLinkDown | with_reducible apply kept_gated | with_reducible apply kept_endCommand | with_reducible apply kept_twnCommand | with_reducible apply kept_cruStart | with_reducible apply kept_cryGo | with_reducible apply kept_wr | with_reducible apply kept_updCommand | with_reducible apply keptRes_set | fail_if_no_progress (with_reducible apply kept_mk) | (with_reducible refine kept_of_eq (by with_reducible assumption) ?_) | intro _ _ | split | dsimp only

theorem kept_execTbStep (q : Requester) (v : DWord) (s : State) : ∃ r, execTbStep q v s = .next r ∧ Kept s r := by
  unfold execTbStep
  refine ⟨_, rfl, ?_⟩
  have h := Kept.refl s
  repeat' first | with_reducible assumption | with_reducible apply kept_ite | with_reducible apply kept_ite1 | with_reducible apply kept_ite2 | (with_reducible refine kept_forAll (fun _ _ _ => ?_) ?_) | (with_reducible refine kept_foldl (fun _ _ _ => ?_) ?_) | (with_reducible refine kept_foldl1 (fun _ _ _ => ?_) ?_) | with_reducible apply kept_gated | with_reducible apply kept_endCommand | with_reducible apply kept_tbStep | with_reducible apply kept_gated | with_reducible apply kept_endCommand | with_reducible apply kept_twnCommand | with_reducible apply kept_cruStart | with_reducible apply kept_cryGo | with_reducible apply kept_wr | with_reducible apply kept_updCommand | with_reducible apply keptRes_set | fail_if_no_progress (with_reducible apply kept_mk) | (with_reducible refine kept_of_eq (by with_reducible assumption) ?_) | intro _ _ | split | dsimp only

theorem kept_execTbSlew (q : Requester) (v : Word) (s : State) : ∃ r, execTbSlew q v s = .next r ∧ Kept s r := by
  unfold execTbSlew
  refine ⟨_, rfl, ?_⟩
  have h := Kept.refl s
  repeat' first | with_reducible assumption | with_reducible apply kept_ite | with_reducible apply kept_ite1 | with_reducible apply kept_ite2 | (with_reducible refine kept_forAll (fun _ _ _ => ?_) ?_) | (with_reducible refine kept_foldl (fun _ _ _ => ?_) ?_) | (with_reducible refine kept_foldl1 (fun _ _ _ => ?_) ?_) | with_reducible apply kept_gated | with_reducible apply kept_endCommand | with_reducible apply kept_tbSlew | with_reducible apply kept_gated | with_reducible apply kept_endCommand | with_reducible apply kept_twnCommand | with_reducible apply kept_cruStart | with_reducible apply kept_cryGo | with_reducible apply kept_wr | with_reducible apply kept_updCommand | with_reducible apply keptRes_set | fail_if_no_progress (with_reducible apply kept_mk) | (with_reducible refine kept_of_eq (by with_reducible assumption) ?_) | intro _ _ | split | dsimp only

theorem kept_execLinkDelayMeasure (rtt : Nat) (s : State) : ∃ r, execLinkDelayMeasure rtt s = .next r ∧ Kept s r := by
  unfold execLinkDelayMeasure
  refine ⟨_, rfl, ?_⟩
  have h := Kept.refl s
  repeat' first | with_reducible assumption | with_reducible apply kept_ite | with_reducible apply kept_ite1 | with_reducible apply kept_ite2 | (with_reducible refine kept_forAll (fun _ _ _ => ?_) ?_) | (with_reducible refine kept_foldl (fun _ _ _ => ?_) ?_) | (with_reducible refine kept_foldl1 (fun _ _ _ => ?_) ?_) | with_reducible apply kept_linkDelay | with_reducible apply kept_gated | with_reducible apply kept_endCommand | with_reducible apply kept_twnCommand | with_reducible apply kept_cruStart | with_reducible apply kept_cryGo | with_reducible apply kept_wr | with_reducible apply kept_updCommand | with_reducible apply keptRes_set | fail_if_no_progress (with_reducible apply kept_mk) | (with_reducible refine kept_of_eq (by with_reducible assumption) ?_) | intro _ _ | split | dsimp only

theorem kept_execPtpMessage (x : PtpMsg) (s : State) : ∃ r, execPtpMessage x s = .next r ∧ Kept s r := by
  unfold execPtpMessage
  refine ⟨_, rfl, ?_⟩
  have h := Kept.refl s
  repeat' first | with_reducible assumption | with_reducible apply kept_ite | with_reducible apply kept_ite1 | with_reducible apply kept_ite2 | (with_reducible refine kept_forAll (fun _ _ _ => ?_) ?_) | (with_reducible refine kept_foldl (fun _ _ _ => ?_) ?_) | (with_reducible refine kept_foldl1 (fun _ _ _ => ?_) ?_) | with_reducible apply kept_ptpMessage | with_reducible apply kept_gated | with_reducible apply kept_endCommand | with_reducible apply kept_twnCommand | with_reducible apply kept_cruStart | with_reducible apply kept_cryGo | with_reducible apply kept_wr | with_reducible apply kept_updCommand | with_reducible apply keptRes_set | fail_if_no_progress (with_reducible apply kept_mk) | (with_reducible refine kept_of_eq (by with_reducible assumption) ?_) | intro _ _ | split | dsimp only

theorem kept_execPtpAnnounceTimeout  (s : State) : ∃ r, execPtpAnnounceTimeout s = .next r ∧ Kept s r := by
  unfold execPtpAnnounceTimeout
  refine ⟨_, rfl, ?_⟩
  have h := Kept.refl s
  repeat' first | with_reducible assumption | with_reducible apply kept_ite | with_reducible apply kept_ite1 | with_reducible apply kept_ite2 | (with_reducible refine kept_forAll (fun _ _ _ => ?_) ?_) | (with_reducible refine kept_foldl (fun _ _ _ => ?_) ?_) | (with_reducible refine kept_foldl1 (fun _ _ _ => ?_) ?_) | with_reducible apply kept_announceTimeout | with_reducible apply kept_gated | with_reducible apply kept_endCommand | with_reducible apply kept_twnCommand | with_reducible apply kept_cruStart | with_reducible apply kept_cryGo | with_reducible apply kept_wr | with_reducible apply kept_updCommand | with_reducible apply keptRes_set | fail_if_no_progress (with_reducible apply kept_mk) | (with_reducible refine kept_of_eq (by with_reducible assumption) ?_) | intro _ _ | split | dsimp only

theorem kept_execPtpSyncTimeout  (s : State) : ∃ r, execPtpSyncTimeout s = .next r ∧ Kept s r := by
  unfold execPtpSyncTimeout
  refine ⟨_, rfl, ?_⟩
  have h := Kept.refl s
  repeat' first | with_reducible assumption | with_reducible apply kept_ite | with_reducible apply kept_ite1 | with_reducible apply kept_ite2 | (with_reducible refine kept_forAll (fun _ _ _ => ?_) ?_) | (with_reducible refine kept_foldl (fun _ _ _ => ?_) ?_) | (with_reducible refine kept_foldl1 (fun _ _ _ => ?_) ?_) | with_reducible apply kept_syncTimeout | with_reducible apply kept_gated | with_reducible apply kept_endCommand | with_reducible apply kept_twnCommand | with_reducible apply kept_cruStart | with_reducible apply kept_cryGo | with_reducible apply kept_wr | with_reducible apply kept_updCommand | with_reducible apply keptRes_set | fail_if_no_progress (with_reducible apply kept_mk) | (with_reducible refine kept_of_eq (by with_reducible assumption) ?_) | intro _ _ | split | dsimp only

theorem kept_execRtcSecondRollover  (s : State) : ∃ r, execRtcSecondRollover s = .next r ∧ Kept s r := by
  unfold execRtcSecondRollover
  refine ⟨_, rfl, ?_⟩
  have h := Kept.refl s
  repeat' first | with_reducible assumption | with_reducible apply kept_ite | with_reducible apply kept_ite1 | with_reducible apply kept_ite2 | (with_reducible refine kept_forAll (fun _ _ _ => ?_) ?_) | (with_reducible refine kept_foldl (fun _ _ _ => ?_) ?_) | (with_reducible refine kept_foldl1 (fun _ _ _ => ?_) ?_) | with_reducible apply kept_rtcRollover | with_reducible apply kept_gated | with_reducible apply kept_endCommand | with_reducible apply kept_twnCommand | with_reducible apply kept_cruStart | with_reducible apply kept_cryGo | with_reducible apply kept_wr | with_reducible apply kept_updCommand | with_reducible apply keptRes_set | fail_if_no_progress (with_reducible apply kept_mk) | (with_reducible refine kept_of_eq (by with_reducible assumption) ?_) | intro _ _ | split | dsimp only

theorem kept_execTrimWindow  (s : State) : ∃ r, execTrimWindow s = .next r ∧ Kept s r := by
  unfold execTrimWindow
  refine ⟨_, rfl, ?_⟩
  have h := Kept.refl s
  repeat' first | with_reducible assumption | with_reducible apply kept_ite | with_reducible apply kept_ite1 | with_reducible apply kept_ite2 | (with_reducible refine kept_forAll (fun _ _ _ => ?_) ?_) | (with_reducible refine kept_foldl (fun _ _ _ => ?_) ?_) | (with_reducible refine kept_foldl1 (fun _ _ _ => ?_) ?_) | with_reducible apply kept_gated | with_reducible apply kept_endCommand | with_reducible apply kept_twnCommand | with_reducible apply kept_cruStart | with_reducible apply kept_cryGo | with_reducible apply kept_wr | with_reducible apply kept_updCommand | with_reducible apply keptRes_set | fail_if_no_progress (with_reducible apply kept_mk) | (with_reducible refine kept_of_eq (by with_reducible assumption) ?_) | intro _ _ | split | dsimp only

theorem kept_execRtcHold (q : Requester) (v : Word) (s : State) : ∃ r, execRtcHold q v s = .next r ∧ Kept s r := by
  unfold execRtcHold
  refine ⟨_, rfl, ?_⟩
  have h := Kept.refl s
  repeat' first | with_reducible assumption | with_reducible apply kept_ite | with_reducible apply kept_ite1 | with_reducible apply kept_ite2 | (with_reducible refine kept_forAll (fun _ _ _ => ?_) ?_) | (with_reducible refine kept_foldl (fun _ _ _ => ?_) ?_) | (with_reducible refine kept_foldl1 (fun _ _ _ => ?_) ?_) | with_reducible apply kept_gated | with_reducible apply kept_endCommand | with_reducible apply kept_rtcCtrlWrite | with_reducible apply kept_gated | with_reducible apply kept_endCommand | with_reducible apply kept_twnCommand | with_reducible apply kept_cruStart | with_reducible apply kept_cryGo | with_reducible apply kept_wr | with_reducible apply kept_updCommand | with_reducible apply keptRes_set | fail_if_no_progress (with_reducible apply kept_mk) | (with_reducible refine kept_of_eq (by with_reducible assumption) ?_) | intro _ _ | split | dsimp only

theorem kept_execRtcRelease (q : Requester) (v : Word) (s : State) : ∃ r, execRtcRelease q v s = .next r ∧ Kept s r := by
  unfold execRtcRelease
  refine ⟨_, rfl, ?_⟩
  have h := Kept.refl s
  repeat' first | with_reducible assumption | with_reducible apply kept_ite | with_reducible apply kept_ite1 | with_reducible apply kept_ite2 | (with_reducible refine kept_forAll (fun _ _ _ => ?_) ?_) | (with_reducible refine kept_foldl (fun _ _ _ => ?_) ?_) | (with_reducible refine kept_foldl1 (fun _ _ _ => ?_) ?_) | with_reducible apply kept_gated | with_reducible apply kept_endCommand | with_reducible apply kept_rtcCtrlWrite | with_reducible apply kept_gated | with_reducible apply kept_endCommand | with_reducible apply kept_twnCommand | with_reducible apply kept_cruStart | with_reducible apply kept_cryGo | with_reducible apply kept_wr | with_reducible apply kept_updCommand | with_reducible apply keptRes_set | fail_if_no_progress (with_reducible apply kept_mk) | (with_reducible refine kept_of_eq (by with_reducible assumption) ?_) | intro _ _ | split | dsimp only

theorem kept_execRtcTimeRead (q : Requester) (s : State) : ∃ r, execRtcTimeRead q s = .next r ∧ Kept s r := by
  unfold execRtcTimeRead
  refine ⟨_, rfl, ?_⟩
  have h := Kept.refl s
  repeat' first | with_reducible assumption | with_reducible apply kept_ite | with_reducible apply kept_ite1 | with_reducible apply kept_ite2 | (with_reducible refine kept_forAll (fun _ _ _ => ?_) ?_) | (with_reducible refine kept_foldl (fun _ _ _ => ?_) ?_) | (with_reducible refine kept_foldl1 (fun _ _ _ => ?_) ?_) | with_reducible apply kept_gated | with_reducible apply kept_rtcTimeRead | with_reducible apply kept_answer | with_reducible apply kept_gated | with_reducible apply kept_endCommand | with_reducible apply kept_twnCommand | with_reducible apply kept_cruStart | with_reducible apply kept_cryGo | with_reducible apply kept_wr | with_reducible apply kept_updCommand | with_reducible apply keptRes_set | fail_if_no_progress (with_reducible apply kept_mk) | (with_reducible refine kept_of_eq (by with_reducible assumption) ?_) | intro _ _ | split | dsimp only

theorem kept_execAlarmArm (q : Requester) (s : State) : ∃ r, execAlarmArm q s = .next r ∧ Kept s r := by
  unfold execAlarmArm
  refine ⟨_, rfl, ?_⟩
  have h := Kept.refl s
  repeat' first | with_reducible assumption | with_reducible apply kept_ite | with_reducible apply kept_ite1 | with_reducible apply kept_ite2 | (with_reducible refine kept_forAll (fun _ _ _ => ?_) ?_) | (with_reducible refine kept_foldl (fun _ _ _ => ?_) ?_) | (with_reducible refine kept_foldl1 (fun _ _ _ => ?_) ?_) | with_reducible apply kept_gated | with_reducible apply kept_endCommand | with_reducible apply kept_rtcCommand | with_reducible apply kept_gated | with_reducible apply kept_endCommand | with_reducible apply kept_twnCommand | with_reducible apply kept_cruStart | with_reducible apply kept_cryGo | with_reducible apply kept_wr | with_reducible apply kept_updCommand | with_reducible apply keptRes_set | fail_if_no_progress (with_reducible apply kept_mk) | (with_reducible refine kept_of_eq (by with_reducible assumption) ?_) | intro _ _ | split | dsimp only

theorem kept_execBackupSupplySwitch (vbkp : Bool) (s : State) : ∃ r, execBackupSupplySwitch vbkp s = .next r ∧ Kept s r := by
  unfold execBackupSupplySwitch
  refine ⟨_, rfl, ?_⟩
  have h := Kept.refl s
  repeat' first | with_reducible assumption | with_reducible apply kept_ite | with_reducible apply kept_ite1 | with_reducible apply kept_ite2 | (with_reducible refine kept_forAll (fun _ _ _ => ?_) ?_) | (with_reducible refine kept_foldl (fun _ _ _ => ?_) ?_) | (with_reducible refine kept_foldl1 (fun _ _ _ => ?_) ?_) | with_reducible apply kept_supplySwitch | with_reducible apply kept_gated | with_reducible apply kept_endCommand | with_reducible apply kept_twnCommand | with_reducible apply kept_cruStart | with_reducible apply kept_cryGo | with_reducible apply kept_wr | with_reducible apply kept_updCommand | with_reducible apply keptRes_set | fail_if_no_progress (with_reducible apply kept_mk) | (with_reducible refine kept_of_eq (by with_reducible assumption) ?_) | intro _ _ | split | dsimp only

theorem kept_execBackupDomainReset  (s : State) : ∃ r, execBackupDomainReset s = .next r ∧ Kept s r := by
  unfold execBackupDomainReset
  refine ⟨_, rfl, ?_⟩
  have h := Kept.refl s
  repeat' first | with_reducible assumption | with_reducible apply kept_ite | with_reducible apply kept_ite1 | with_reducible apply kept_ite2 | (with_reducible refine kept_forAll (fun _ _ _ => ?_) ?_) | (with_reducible refine kept_foldl (fun _ _ _ => ?_) ?_) | (with_reducible refine kept_foldl1 (fun _ _ _ => ?_) ?_) | with_reducible apply kept_backupReset | with_reducible apply kept_gated | with_reducible apply kept_endCommand | with_reducible apply kept_twnCommand | with_reducible apply kept_cruStart | with_reducible apply kept_cryGo | with_reducible apply kept_wr | with_reducible apply kept_updCommand | with_reducible apply keptRes_set | fail_if_no_progress (with_reducible apply kept_mk) | (with_reducible refine kept_of_eq (by with_reducible assumption) ?_) | intro _ _ | split | dsimp only

theorem kept_execHeartbeatSend  (s : State) : ∃ r, execHeartbeatSend s = .next r ∧ Kept s r := by
  unfold execHeartbeatSend
  refine ⟨_, rfl, ?_⟩
  have h := Kept.refl s
  repeat' first | with_reducible assumption | with_reducible apply kept_ite | with_reducible apply kept_ite1 | with_reducible apply kept_ite2 | (with_reducible refine kept_forAll (fun _ _ _ => ?_) ?_) | (with_reducible refine kept_foldl (fun _ _ _ => ?_) ?_) | (with_reducible refine kept_foldl1 (fun _ _ _ => ?_) ?_) | with_reducible apply kept_heartbeatSend | with_reducible apply kept_gated | with_reducible apply kept_endCommand | with_reducible apply kept_twnCommand | with_reducible apply kept_cruStart | with_reducible apply kept_cryGo | with_reducible apply kept_wr | with_reducible apply kept_updCommand | with_reducible apply keptRes_set | fail_if_no_progress (with_reducible apply kept_mk) | (with_reducible refine kept_of_eq (by with_reducible assumption) ?_) | intro _ _ | split | dsimp only

theorem kept_execHeartbeatReceived (x : Heartbeat) (at_ : DWord) (roleIn : Bool) (s : State) : ∃ r, execHeartbeatReceived x at_ roleIn s = .next r ∧ Kept s r := by
  unfold execHeartbeatReceived
  refine ⟨_, rfl, ?_⟩
  have h := Kept.refl s
  repeat' first | with_reducible assumption | with_reducible apply kept_ite | with_reducible apply kept_ite1 | with_reducible apply kept_ite2 | (with_reducible refine kept_forAll (fun _ _ _ => ?_) ?_) | (with_reducible refine kept_foldl (fun _ _ _ => ?_) ?_) | (with_reducible refine kept_foldl1 (fun _ _ _ => ?_) ?_) | with_reducible apply kept_heartbeatReceived | with_reducible apply kept_gated | with_reducible apply kept_endCommand | with_reducible apply kept_twnCommand | with_reducible apply kept_cruStart | with_reducible apply kept_cryGo | with_reducible apply kept_wr | with_reducible apply kept_updCommand | with_reducible apply keptRes_set | fail_if_no_progress (with_reducible apply kept_mk) | (with_reducible refine kept_of_eq (by with_reducible assumption) ?_) | intro _ _ | split | dsimp only

theorem kept_execSlotCheck (roleIn : Bool) (s : State) : ∃ r, execSlotCheck roleIn s = .next r ∧ Kept s r := by
  unfold execSlotCheck
  refine ⟨_, rfl, ?_⟩
  have h := Kept.refl s
  repeat' first | with_reducible assumption | with_reducible apply kept_ite | with_reducible apply kept_ite1 | with_reducible apply kept_ite2 | (with_reducible refine kept_forAll (fun _ _ _ => ?_) ?_) | (with_reducible refine kept_foldl (fun _ _ _ => ?_) ?_) | (with_reducible refine kept_foldl1 (fun _ _ _ => ?_) ?_) | with_reducible apply kept_slotCheck | with_reducible apply kept_gated | with_reducible apply kept_endCommand | with_reducible apply kept_twnCommand | with_reducible apply kept_cruStart | with_reducible apply kept_cryGo | with_reducible apply kept_wr | with_reducible apply kept_updCommand | with_reducible apply keptRes_set | fail_if_no_progress (with_reducible apply kept_mk) | (with_reducible refine kept_of_eq (by with_reducible assumption) ?_) | intro _ _ | split | dsimp only

theorem kept_execEnterActiveRole  (s : State) : ∃ r, execEnterActiveRole s = .next r ∧ Kept s r := by
  unfold execEnterActiveRole
  refine ⟨_, rfl, ?_⟩
  have h := Kept.refl s
  repeat' first | with_reducible assumption | with_reducible apply kept_ite | with_reducible apply kept_ite1 | with_reducible apply kept_ite2 | (with_reducible refine kept_forAll (fun _ _ _ => ?_) ?_) | (with_reducible refine kept_foldl (fun _ _ _ => ?_) ?_) | (with_reducible refine kept_foldl1 (fun _ _ _ => ?_) ?_) | with_reducible apply kept_enterActiveRole | with_reducible apply kept_gated | with_reducible apply kept_endCommand | with_reducible apply kept_twnCommand | with_reducible apply kept_cruStart | with_reducible apply kept_cryGo | with_reducible apply kept_wr | with_reducible apply kept_updCommand | with_reducible apply keptRes_set | fail_if_no_progress (with_reducible apply kept_mk) | (with_reducible refine kept_of_eq (by with_reducible assumption) ?_) | intro _ _ | split | dsimp only

theorem kept_execRoleKeeperExpiry  (s : State) : ∃ r, execRoleKeeperExpiry s = .next r ∧ Kept s r := by
  unfold execRoleKeeperExpiry
  refine ⟨_, rfl, ?_⟩
  have h := Kept.refl s
  repeat' first | with_reducible assumption | with_reducible apply kept_ite | with_reducible apply kept_ite1 | with_reducible apply kept_ite2 | (with_reducible refine kept_forAll (fun _ _ _ => ?_) ?_) | (with_reducible refine kept_foldl (fun _ _ _ => ?_) ?_) | (with_reducible refine kept_foldl1 (fun _ _ _ => ?_) ?_) | with_reducible apply kept_roleKeeper | with_reducible apply kept_gated | with_reducible apply kept_endCommand | with_reducible apply kept_twnCommand | with_reducible apply kept_cruStart | with_reducible apply kept_cryGo | with_reducible apply kept_wr | with_reducible apply kept_updCommand | with_reducible apply keptRes_set | fail_if_no_progress (with_reducible apply kept_mk) | (with_reducible refine kept_of_eq (by with_reducible assumption) ?_) | intro _ _ | split | dsimp only

theorem kept_execDemotion  (s : State) : ∃ r, execDemotion s = .next r ∧ Kept s r := by
  unfold execDemotion
  refine ⟨_, rfl, ?_⟩
  have h := Kept.refl s
  repeat' first | with_reducible assumption | with_reducible apply kept_ite | with_reducible apply kept_ite1 | with_reducible apply kept_ite2 | (with_reducible refine kept_forAll (fun _ _ _ => ?_) ?_) | (with_reducible refine kept_foldl (fun _ _ _ => ?_) ?_) | (with_reducible refine kept_foldl1 (fun _ _ _ => ?_) ?_) | with_reducible apply kept_demotion | with_reducible apply kept_gated | with_reducible apply kept_endCommand | with_reducible apply kept_twnCommand | with_reducible apply kept_cruStart | with_reducible apply kept_cryGo | with_reducible apply kept_wr | with_reducible apply kept_updCommand | with_reducible apply keptRes_set | fail_if_no_progress (with_reducible apply kept_mk) | (with_reducible refine kept_of_eq (by with_reducible assumption) ?_) | intro _ _ | split | dsimp only

theorem kept_execLinkPacketRetry (received : Bool) (s : State) : ∃ r, execLinkPacketRetry received s = .next r ∧ Kept s r := by
  unfold execLinkPacketRetry
  refine ⟨_, rfl, ?_⟩
  have h := Kept.refl s
  repeat' first | with_reducible assumption | with_reducible apply kept_ite | with_reducible apply kept_ite1 | with_reducible apply kept_ite2 | (with_reducible refine kept_forAll (fun _ _ _ => ?_) ?_) | (with_reducible refine kept_foldl (fun _ _ _ => ?_) ?_) | (with_reducible refine kept_foldl1 (fun _ _ _ => ?_) ?_) | with_reducible apply kept_bumpSat | with_reducible apply kept_gated | with_reducible apply kept_endCommand | with_reducible apply kept_twnCommand | with_reducible apply kept_cruStart | with_reducible apply kept_cryGo | with_reducible apply kept_wr | with_reducible apply kept_updCommand | with_reducible apply keptRes_set | fail_if_no_progress (with_reducible apply kept_mk) | (with_reducible refine kept_of_eq (by with_reducible assumption) ?_) | intro _ _ | split | dsimp only

theorem kept_execForecastPublish  (s : State) : ∃ r, execForecastPublish s = .next r ∧ Kept s r := by
  unfold execForecastPublish
  refine ⟨_, rfl, ?_⟩
  have h := Kept.refl s
  repeat' first | with_reducible assumption | with_reducible apply kept_ite | with_reducible apply kept_ite1 | with_reducible apply kept_ite2 | (with_reducible refine kept_forAll (fun _ _ _ => ?_) ?_) | (with_reducible refine kept_foldl (fun _ _ _ => ?_) ?_) | (with_reducible refine kept_foldl1 (fun _ _ _ => ?_) ?_) | with_reducible apply kept_forecastPublish | with_reducible apply kept_gated | with_reducible apply kept_endCommand | with_reducible apply kept_twnCommand | with_reducible apply kept_cruStart | with_reducible apply kept_cryGo | with_reducible apply kept_wr | with_reducible apply kept_updCommand | with_reducible apply keptRes_set | fail_if_no_progress (with_reducible apply kept_mk) | (with_reducible refine kept_of_eq (by with_reducible assumption) ?_) | intro _ _ | split | dsimp only

theorem kept_execForecastReceived (bytes : List Byte) (s : State) : ∃ r, execForecastReceived bytes s = .next r ∧ Kept s r := by
  unfold execForecastReceived
  refine ⟨_, rfl, ?_⟩
  have h := Kept.refl s
  repeat' first | with_reducible assumption | with_reducible apply kept_ite | with_reducible apply kept_ite1 | with_reducible apply kept_ite2 | (with_reducible refine kept_forAll (fun _ _ _ => ?_) ?_) | (with_reducible refine kept_foldl (fun _ _ _ => ?_) ?_) | (with_reducible refine kept_foldl1 (fun _ _ _ => ?_) ?_) | with_reducible apply kept_forecastReceived | with_reducible apply kept_gated | with_reducible apply kept_endCommand | with_reducible apply kept_twnCommand | with_reducible apply kept_cruStart | with_reducible apply kept_cryGo | with_reducible apply kept_wr | with_reducible apply kept_updCommand | with_reducible apply keptRes_set | fail_if_no_progress (with_reducible apply kept_mk) | (with_reducible refine kept_of_eq (by with_reducible assumption) ?_) | intro _ _ | split | dsimp only

theorem kept_execSelfTestSweepEnd (x : SweepResult) (s : State) : ∃ r, execSelfTestSweepEnd x s = .next r ∧ Kept s r := by
  unfold execSelfTestSweepEnd
  refine ⟨_, rfl, ?_⟩
  have h := Kept.refl s
  repeat' first | with_reducible assumption | with_reducible apply kept_ite | with_reducible apply kept_ite1 | with_reducible apply kept_ite2 | (with_reducible refine kept_forAll (fun _ _ _ => ?_) ?_) | (with_reducible refine kept_foldl (fun _ _ _ => ?_) ?_) | (with_reducible refine kept_foldl1 (fun _ _ _ => ?_) ?_) | with_reducible apply kept_sweepEnd | with_reducible apply kept_gated | with_reducible apply kept_endCommand | with_reducible apply kept_twnCommand | with_reducible apply kept_cruStart | with_reducible apply kept_cryGo | with_reducible apply kept_wr | with_reducible apply kept_updCommand | with_reducible apply keptRes_set | fail_if_no_progress (with_reducible apply kept_mk) | (with_reducible refine kept_of_eq (by with_reducible assumption) ?_) | intro _ _ | split | dsimp only

theorem kept_execHandover (q : Requester) (s : State) : ∃ r, execHandover q s = .next r ∧ Kept s r := by
  unfold execHandover
  refine ⟨_, rfl, ?_⟩
  have h := Kept.refl s
  repeat' first | with_reducible assumption | with_reducible apply kept_ite | with_reducible apply kept_ite1 | with_reducible apply kept_ite2 | (with_reducible refine kept_forAll (fun _ _ _ => ?_) ?_) | (with_reducible refine kept_foldl (fun _ _ _ => ?_) ?_) | (with_reducible refine kept_foldl1 (fun _ _ _ => ?_) ?_) | with_reducible apply kept_twnGated | with_reducible apply kept_gated | with_reducible apply kept_endCommand | with_reducible apply kept_twnCommand | with_reducible apply kept_cruStart | with_reducible apply kept_cryGo | with_reducible apply kept_wr | with_reducible apply kept_updCommand | with_reducible apply keptRes_set | fail_if_no_progress (with_reducible apply kept_mk) | (with_reducible refine kept_of_eq (by with_reducible assumption) ?_) | intro _ _ | split | dsimp only

theorem kept_execHandoverSwitch  (s : State) : ∃ r, execHandoverSwitch s = .next r ∧ Kept s r := by
  unfold execHandoverSwitch
  refine ⟨_, rfl, ?_⟩
  have h := Kept.refl s
  repeat' first | with_reducible assumption | with_reducible apply kept_ite | with_reducible apply kept_ite1 | with_reducible apply kept_ite2 | (with_reducible refine kept_forAll (fun _ _ _ => ?_) ?_) | (with_reducible refine kept_foldl (fun _ _ _ => ?_) ?_) | (with_reducible refine kept_foldl1 (fun _ _ _ => ?_) ?_) | with_reducible apply kept_handoverSwitch | with_reducible apply kept_gated | with_reducible apply kept_endCommand | with_reducible apply kept_twnCommand | with_reducible apply kept_cruStart | with_reducible apply kept_cryGo | with_reducible apply kept_wr | with_reducible apply kept_updCommand | with_reducible apply keptRes_set | fail_if_no_progress (with_reducible apply kept_mk) | (with_reducible refine kept_of_eq (by with_reducible assumption) ?_) | intro _ _ | split | dsimp only

theorem kept_execCancelHo (q : Requester) (s : State) : ∃ r, execCancelHo q s = .next r ∧ Kept s r := by
  unfold execCancelHo
  refine ⟨_, rfl, ?_⟩
  have h := Kept.refl s
  repeat' first | with_reducible assumption | with_reducible apply kept_ite | with_reducible apply kept_ite1 | with_reducible apply kept_ite2 | (with_reducible refine kept_forAll (fun _ _ _ => ?_) ?_) | (with_reducible refine kept_foldl (fun _ _ _ => ?_) ?_) | (with_reducible refine kept_foldl1 (fun _ _ _ => ?_) ?_) | with_reducible apply kept_twnGated | with_reducible apply kept_gated | with_reducible apply kept_endCommand | with_reducible apply kept_twnCommand | with_reducible apply kept_cruStart | with_reducible apply kept_cryGo | with_reducible apply kept_wr | with_reducible apply kept_updCommand | with_reducible apply keptRes_set | fail_if_no_progress (with_reducible apply kept_mk) | (with_reducible refine kept_of_eq (by with_reducible assumption) ?_) | intro _ _ | split | dsimp only

theorem kept_execRearmRev (q : Requester) (s : State) : ∃ r, execRearmRev q s = .next r ∧ Kept s r := by
  unfold execRearmRev
  refine ⟨_, rfl, ?_⟩
  have h := Kept.refl s
  repeat' first | with_reducible assumption | with_reducible apply kept_ite | with_reducible apply kept_ite1 | with_reducible apply kept_ite2 | (with_reducible refine kept_forAll (fun _ _ _ => ?_) ?_) | (with_reducible refine kept_foldl (fun _ _ _ => ?_) ?_) | (with_reducible refine kept_foldl1 (fun _ _ _ => ?_) ?_) | with_reducible apply kept_twnGated | with_reducible apply kept_gated | with_reducible apply kept_endCommand | with_reducible apply kept_twnCommand | with_reducible apply kept_cruStart | with_reducible apply kept_cryGo | with_reducible apply kept_wr | with_reducible apply kept_updCommand | with_reducible apply keptRes_set | fail_if_no_progress (with_reducible apply kept_mk) | (with_reducible refine kept_of_eq (by with_reducible assumption) ?_) | intro _ _ | split | dsimp only

theorem kept_execClrTko (q : Requester) (s : State) : ∃ r, execClrTko q s = .next r ∧ Kept s r := by
  unfold execClrTko
  refine ⟨_, rfl, ?_⟩
  have h := Kept.refl s
  repeat' first | with_reducible assumption | with_reducible apply kept_ite | with_reducible apply kept_ite1 | with_reducible apply kept_ite2 | (with_reducible refine kept_forAll (fun _ _ _ => ?_) ?_) | (with_reducible refine kept_foldl (fun _ _ _ => ?_) ?_) | (with_reducible refine kept_foldl1 (fun _ _ _ => ?_) ?_) | with_reducible apply kept_twnGated | with_reducible apply kept_gated | with_reducible apply kept_endCommand | with_reducible apply kept_twnCommand | with_reducible apply kept_cruStart | with_reducible apply kept_cryGo | with_reducible apply kept_wr | with_reducible apply kept_updCommand | with_reducible apply keptRes_set | fail_if_no_progress (with_reducible apply kept_mk) | (with_reducible refine kept_of_eq (by with_reducible assumption) ?_) | intro _ _ | split | dsimp only

theorem kept_execResync (q : Requester) (s : State) : ∃ r, execResync q s = .next r ∧ Kept s r := by
  unfold execResync
  refine ⟨_, rfl, ?_⟩
  have h := Kept.refl s
  repeat' first | with_reducible assumption | with_reducible apply kept_ite | with_reducible apply kept_ite1 | with_reducible apply kept_ite2 | (with_reducible refine kept_forAll (fun _ _ _ => ?_) ?_) | (with_reducible refine kept_foldl (fun _ _ _ => ?_) ?_) | (with_reducible refine kept_foldl1 (fun _ _ _ => ?_) ?_) | with_reducible apply kept_twnGated | with_reducible apply kept_gated | with_reducible apply kept_endCommand | with_reducible apply kept_twnCommand | with_reducible apply kept_cruStart | with_reducible apply kept_cryGo | with_reducible apply kept_wr | with_reducible apply kept_updCommand | with_reducible apply keptRes_set | fail_if_no_progress (with_reducible apply kept_mk) | (with_reducible refine kept_of_eq (by with_reducible assumption) ?_) | intro _ _ | split | dsimp only

theorem kept_execRevertiveRequest  (s : State) : ∃ r, execRevertiveRequest s = .next r ∧ Kept s r := by
  unfold execRevertiveRequest
  refine ⟨_, rfl, ?_⟩
  have h := Kept.refl s
  repeat' first | with_reducible assumption | with_reducible apply kept_ite | with_reducible apply kept_ite1 | with_reducible apply kept_ite2 | (with_reducible refine kept_forAll (fun _ _ _ => ?_) ?_) | (with_reducible refine kept_foldl (fun _ _ _ => ?_) ?_) | (with_reducible refine kept_foldl1 (fun _ _ _ => ?_) ?_) | with_reducible apply kept_revertiveRequest | with_reducible apply kept_gated | with_reducible apply kept_endCommand | with_reducible apply kept_twnCommand | with_reducible apply kept_cruStart | with_reducible apply kept_cryGo | with_reducible apply kept_wr | with_reducible apply kept_updCommand | with_reducible apply keptRes_set | fail_if_no_progress (with_reducible apply kept_mk) | (with_reducible refine kept_of_eq (by with_reducible assumption) ?_) | intro _ _ | split | dsimp only

theorem kept_execClaisLinkUp (lanes : BitVec 2) (s : State) : ∃ r, execClaisLinkUp lanes s = .next r ∧ Kept s r := by
  unfold execClaisLinkUp
  refine ⟨_, rfl, ?_⟩
  have h := Kept.refl s
  repeat' first | with_reducible assumption | with_reducible apply kept_ite | with_reducible apply kept_ite1 | with_reducible apply kept_ite2 | (with_reducible refine kept_forAll (fun _ _ _ => ?_) ?_) | (with_reducible refine kept_foldl (fun _ _ _ => ?_) ?_) | (with_reducible refine kept_foldl1 (fun _ _ _ => ?_) ?_) | with_reducible apply kept_twinLinkUp | with_reducible apply kept_gated | with_reducible apply kept_endCommand | with_reducible apply kept_twnCommand | with_reducible apply kept_cruStart | with_reducible apply kept_cryGo | with_reducible apply kept_wr | with_reducible apply kept_updCommand | with_reducible apply keptRes_set | fail_if_no_progress (with_reducible apply kept_mk) | (with_reducible refine kept_of_eq (by with_reducible assumption) ?_) | intro _ _ | split | dsimp only

theorem kept_execClaisLinkDown  (s : State) : ∃ r, execClaisLinkDown s = .next r ∧ Kept s r := by
  unfold execClaisLinkDown
  refine ⟨_, rfl, ?_⟩
  have h := Kept.refl s
  repeat' first | with_reducible assumption | with_reducible apply kept_ite | with_reducible apply kept_ite1 | with_reducible apply kept_ite2 | (with_reducible refine kept_forAll (fun _ _ _ => ?_) ?_) | (with_reducible refine kept_foldl (fun _ _ _ => ?_) ?_) | (with_reducible refine kept_foldl1 (fun _ _ _ => ?_) ?_) | with_reducible apply kept_twinLinkDown | with_reducible apply kept_gated | with_reducible apply kept_endCommand | with_reducible apply kept_twnCommand | with_reducible apply kept_cruStart | with_reducible apply kept_cryGo | with_reducible apply kept_wr | with_reducible apply kept_updCommand | with_reducible apply keptRes_set | fail_if_no_progress (with_reducible apply kept_mk) | (with_reducible refine kept_of_eq (by with_reducible assumption) ?_) | intro _ _ | split | dsimp only

theorem kept_execModeChange  (s : State) : ∃ r, execModeChange s = .next r ∧ Kept s r := by
  unfold execModeChange
  refine ⟨_, rfl, ?_⟩
  have h := Kept.refl s
  repeat' first | with_reducible assumption | with_reducible apply kept_ite | with_reducible apply kept_ite1 | with_reducible apply kept_ite2 | (with_reducible refine kept_forAll (fun _ _ _ => ?_) ?_) | (with_reducible refine kept_foldl (fun _ _ _ => ?_) ?_) | (with_reducible refine kept_foldl1 (fun _ _ _ => ?_) ?_) | with_reducible apply kept_settleBoundary | with_reducible apply kept_advanceTo | with_reducible apply kept_gated | with_reducible apply kept_endCommand | with_reducible apply kept_twnCommand | with_reducible apply kept_cruStart | with_reducible apply kept_cryGo | with_reducible apply kept_wr | with_reducible apply kept_updCommand | with_reducible apply keptRes_set | fail_if_no_progress (with_reducible apply kept_mk) | (with_reducible refine kept_of_eq (by with_reducible assumption) ?_) | intro _ _ | split | dsimp only

theorem kept_execCruGenerate (q : Requester) (s : State) : ∃ r, execCruGenerate q s = .next r ∧ Kept s r := by
  unfold execCruGenerate
  refine ⟨_, rfl, ?_⟩
  have h := Kept.refl s
  repeat' first | with_reducible assumption | with_reducible apply kept_ite | with_reducible apply kept_ite1 | with_reducible apply kept_ite2 | (with_reducible refine kept_forAll (fun _ _ _ => ?_) ?_) | (with_reducible refine kept_foldl (fun _ _ _ => ?_) ?_) | (with_reducible refine kept_foldl1 (fun _ _ _ => ?_) ?_) | with_reducible apply kept_cruCommand | with_reducible apply kept_gated | with_reducible apply kept_endCommand | with_reducible apply kept_twnCommand | with_reducible apply kept_cruStart | with_reducible apply kept_cryGo | with_reducible apply kept_wr | with_reducible apply kept_updCommand | with_reducible apply keptRes_set | fail_if_no_progress (with_reducible apply kept_mk) | (with_reducible refine kept_of_eq (by with_reducible assumption) ?_) | intro _ _ | split | dsimp only

theorem kept_execCruDerive (q : Requester) (s : State) : ∃ r, execCruDerive q s = .next r ∧ Kept s r := by
  unfold execCruDerive
  refine ⟨_, rfl, ?_⟩
  have h := Kept.refl s
  repeat' first | with_reducible assumption | with_reducible apply kept_ite | with_reducible apply kept_ite1 | with_reducible apply kept_ite2 | (with_reducible refine kept_forAll (fun _ _ _ => ?_) ?_) | (with_reducible refine kept_foldl (fun _ _ _ => ?_) ?_) | (with_reducible refine kept_foldl1 (fun _ _ _ => ?_) ?_) | with_reducible apply kept_cruCommand | with_reducible apply kept_gated | with_reducible apply kept_endCommand | with_reducible apply kept_twnCommand | with_reducible apply kept_cruStart | with_reducible apply kept_cryGo | with_reducible apply kept_wr | with_reducible apply kept_updCommand | with_reducible apply keptRes_set | fail_if_no_progress (with_reducible apply kept_mk) | (with_reducible refine kept_of_eq (by with_reducible assumption) ?_) | intro _ _ | split | dsimp only

theorem kept_execCruUnwrap (q : Requester) (s : State) : ∃ r, execCruUnwrap q s = .next r ∧ Kept s r := by
  unfold execCruUnwrap
  refine ⟨_, rfl, ?_⟩
  have h := Kept.refl s
  repeat' first | with_reducible assumption | with_reducible apply kept_ite | with_reducible apply kept_ite1 | with_reducible apply kept_ite2 | (with_reducible refine kept_forAll (fun _ _ _ => ?_) ?_) | (with_reducible refine kept_foldl (fun _ _ _ => ?_) ?_) | (with_reducible refine kept_foldl1 (fun _ _ _ => ?_) ?_) | with_reducible apply kept_cruCommand | with_reducible apply kept_gated | with_reducible apply kept_endCommand | with_reducible apply kept_twnCommand | with_reducible apply kept_cruStart | with_reducible apply kept_cryGo | with_reducible apply kept_wr | with_reducible apply kept_updCommand | with_reducible apply keptRes_set | fail_if_no_progress (with_reducible apply kept_mk) | (with_reducible refine kept_of_eq (by with_reducible assumption) ?_) | intro _ _ | split | dsimp only

theorem kept_execCruWrap (q : Requester) (s : State) : ∃ r, execCruWrap q s = .next r ∧ Kept s r := by
  unfold execCruWrap
  refine ⟨_, rfl, ?_⟩
  have h := Kept.refl s
  repeat' first | with_reducible assumption | with_reducible apply kept_ite | with_reducible apply kept_ite1 | with_reducible apply kept_ite2 | (with_reducible refine kept_forAll (fun _ _ _ => ?_) ?_) | (with_reducible refine kept_foldl (fun _ _ _ => ?_) ?_) | (with_reducible refine kept_foldl1 (fun _ _ _ => ?_) ?_) | with_reducible apply kept_cruCommand | with_reducible apply kept_gated | with_reducible apply kept_endCommand | with_reducible apply kept_twnCommand | with_reducible apply kept_cruStart | with_reducible apply kept_cryGo | with_reducible apply kept_wr | with_reducible apply kept_updCommand | with_reducible apply keptRes_set | fail_if_no_progress (with_reducible apply kept_mk) | (with_reducible refine kept_of_eq (by with_reducible assumption) ?_) | intro _ _ | split | dsimp only

theorem kept_execCruLoad (q : Requester) (s : State) : ∃ r, execCruLoad q s = .next r ∧ Kept s r := by
  unfold execCruLoad
  refine ⟨_, rfl, ?_⟩
  have h := Kept.refl s
  repeat' first | with_reducible assumption | with_reducible apply kept_ite | with_reducible apply kept_ite1 | with_reducible apply kept_ite2 | (with_reducible refine kept_forAll (fun _ _ _ => ?_) ?_) | (with_reducible refine kept_foldl (fun _ _ _ => ?_) ?_) | (with_reducible refine kept_foldl1 (fun _ _ _ => ?_) ?_) | with_reducible apply kept_cruCommand | with_reducible apply kept_gated | with_reducible apply kept_endCommand | with_reducible apply kept_twnCommand | with_reducible apply kept_cruStart | with_reducible apply kept_cryGo | with_reducible apply kept_wr | with_reducible apply kept_updCommand | with_reducible apply keptRes_set | fail_if_no_progress (with_reducible apply kept_mk) | (with_reducible refine kept_of_eq (by with_reducible assumption) ?_) | intro _ _ | split | dsimp only

theorem kept_execCruDestroy (q : Requester) (s : State) : ∃ r, execCruDestroy q s = .next r ∧ Kept s r := by
  unfold execCruDestroy
  refine ⟨_, rfl, ?_⟩
  have h := Kept.refl s
  repeat' first | with_reducible assumption | with_reducible apply kept_ite | with_reducible apply kept_ite1 | with_reducible apply kept_ite2 | (with_reducible refine kept_forAll (fun _ _ _ => ?_) ?_) | (with_reducible refine kept_foldl (fun _ _ _ => ?_) ?_) | (with_reducible refine kept_foldl1 (fun _ _ _ => ?_) ?_) | with_reducible apply kept_cruCommand | with_reducible apply kept_gated | with_reducible apply kept_endCommand | with_reducible apply kept_twnCommand | with_reducible apply kept_cruStart | with_reducible apply kept_cryGo | with_reducible apply kept_wr | with_reducible apply kept_updCommand | with_reducible apply keptRes_set | fail_if_no_progress (with_reducible apply kept_mk) | (with_reducible refine kept_of_eq (by with_reducible assumption) ?_) | intro _ _ | split | dsimp only

theorem kept_execCruPurge (q : Requester) (s : State) : ∃ r, execCruPurge q s = .next r ∧ Kept s r := by
  unfold execCruPurge
  refine ⟨_, rfl, ?_⟩
  have h := Kept.refl s
  repeat' first | with_reducible assumption | with_reducible apply kept_ite | with_reducible apply kept_ite1 | with_reducible apply kept_ite2 | (with_reducible refine kept_forAll (fun _ _ _ => ?_) ?_) | (with_reducible refine kept_foldl (fun _ _ _ => ?_) ?_) | (with_reducible refine kept_foldl1 (fun _ _ _ => ?_) ?_) | with_reducible apply kept_cruCommand | with_reducible apply kept_gated | with_reducible apply kept_endCommand | with_reducible apply kept_twnCommand | with_reducible apply kept_cruStart | with_reducible apply kept_cryGo | with_reducible apply kept_wr | with_reducible apply kept_updCommand | with_reducible apply keptRes_set | fail_if_no_progress (with_reducible apply kept_mk) | (with_reducible refine kept_of_eq (by with_reducible assumption) ?_) | intro _ _ | split | dsimp only

theorem kept_execCruKill (q : Requester) (s : State) : ∃ r, execCruKill q s = .next r ∧ Kept s r := by
  unfold execCruKill
  refine ⟨_, rfl, ?_⟩
  have h := Kept.refl s
  repeat' first | with_reducible assumption | with_reducible apply kept_ite | with_reducible apply kept_ite1 | with_reducible apply kept_ite2 | (with_reducible refine kept_forAll (fun _ _ _ => ?_) ?_) | (with_reducible refine kept_foldl (fun _ _ _ => ?_) ?_) | (with_reducible refine kept_foldl1 (fun _ _ _ => ?_) ?_) | with_reducible apply kept_cruCommand | with_reducible apply kept_gated | with_reducible apply kept_endCommand | with_reducible apply kept_twnCommand | with_reducible apply kept_cruStart | with_reducible apply kept_cryGo | with_reducible apply kept_wr | with_reducible apply kept_updCommand | with_reducible apply keptRes_set | fail_if_no_progress (with_reducible apply kept_mk) | (with_reducible refine kept_of_eq (by with_reducible assumption) ?_) | intro _ _ | split | dsimp only

theorem kept_execCruCommandComplete (entropy : Bool) (s : State) : ∃ r, execCruCommandComplete entropy s = .next r ∧ Kept s r := by
  unfold execCruCommandComplete
  refine ⟨_, rfl, ?_⟩
  have h := Kept.refl s
  repeat' first | with_reducible assumption | with_reducible apply kept_ite | with_reducible apply kept_ite1 | with_reducible apply kept_ite2 | (with_reducible refine kept_forAll (fun _ _ _ => ?_) ?_) | (with_reducible refine kept_foldl (fun _ _ _ => ?_) ?_) | (with_reducible refine kept_foldl1 (fun _ _ _ => ?_) ?_) | with_reducible apply kept_cruComplete | with_reducible apply kept_gated | with_reducible apply kept_endCommand | with_reducible apply kept_twnCommand | with_reducible apply kept_cruStart | with_reducible apply kept_cryGo | with_reducible apply kept_wr | with_reducible apply kept_updCommand | with_reducible apply keptRes_set | fail_if_no_progress (with_reducible apply kept_mk) | (with_reducible refine kept_of_eq (by with_reducible assumption) ?_) | intro _ _ | split | dsimp only

theorem kept_execRemask  (s : State) : ∃ r, execRemask s = .next r ∧ Kept s r := by
  unfold execRemask
  refine ⟨_, rfl, ?_⟩
  have h := Kept.refl s
  repeat' first | with_reducible assumption | with_reducible apply kept_ite | with_reducible apply kept_ite1 | with_reducible apply kept_ite2 | (with_reducible refine kept_forAll (fun _ _ _ => ?_) ?_) | (with_reducible refine kept_foldl (fun _ _ _ => ?_) ?_) | (with_reducible refine kept_foldl1 (fun _ _ _ => ?_) ?_) | with_reducible apply kept_remask | with_reducible apply kept_gated | with_reducible apply kept_endCommand | with_reducible apply kept_twnCommand | with_reducible apply kept_cruStart | with_reducible apply kept_cryGo | with_reducible apply kept_wr | with_reducible apply kept_updCommand | with_reducible apply keptRes_set | fail_if_no_progress (with_reducible apply kept_mk) | (with_reducible refine kept_of_eq (by with_reducible assumption) ?_) | intro _ _ | split | dsimp only

theorem kept_execCryGcmEnc (q : Requester) (slot : BitVec 8) (s : State) : ∃ r, execCryGcmEnc q slot s = .next r ∧ Kept s r := by
  unfold execCryGcmEnc
  refine ⟨_, rfl, ?_⟩
  have h := Kept.refl s
  repeat' first | with_reducible assumption | with_reducible apply kept_ite | with_reducible apply kept_ite1 | with_reducible apply kept_ite2 | (with_reducible refine kept_forAll (fun _ _ _ => ?_) ?_) | (with_reducible refine kept_foldl (fun _ _ _ => ?_) ?_) | (with_reducible refine kept_foldl1 (fun _ _ _ => ?_) ?_) | with_reducible apply kept_cryCommand | with_reducible apply kept_gated | with_reducible apply kept_endCommand | with_reducible apply kept_twnCommand | with_reducible apply kept_cruStart | with_reducible apply kept_cryGo | with_reducible apply kept_wr | with_reducible apply kept_updCommand | with_reducible apply keptRes_set | fail_if_no_progress (with_reducible apply kept_mk) | (with_reducible refine kept_of_eq (by with_reducible assumption) ?_) | intro _ _ | split | dsimp only

theorem kept_execCryGcmDec (q : Requester) (slot : BitVec 8) (s : State) : ∃ r, execCryGcmDec q slot s = .next r ∧ Kept s r := by
  unfold execCryGcmDec
  refine ⟨_, rfl, ?_⟩
  have h := Kept.refl s
  repeat' first | with_reducible assumption | with_reducible apply kept_ite | with_reducible apply kept_ite1 | with_reducible apply kept_ite2 | (with_reducible refine kept_forAll (fun _ _ _ => ?_) ?_) | (with_reducible refine kept_foldl (fun _ _ _ => ?_) ?_) | (with_reducible refine kept_foldl1 (fun _ _ _ => ?_) ?_) | with_reducible apply kept_cryCommand | with_reducible apply kept_gated | with_reducible apply kept_endCommand | with_reducible apply kept_twnCommand | with_reducible apply kept_cruStart | with_reducible apply kept_cryGo | with_reducible apply kept_wr | with_reducible apply kept_updCommand | with_reducible apply keptRes_set | fail_if_no_progress (with_reducible apply kept_mk) | (with_reducible refine kept_of_eq (by with_reducible assumption) ?_) | intro _ _ | split | dsimp only

theorem kept_execCryCtrEnc (q : Requester) (slot : BitVec 8) (s : State) : ∃ r, execCryCtrEnc q slot s = .next r ∧ Kept s r := by
  unfold execCryCtrEnc
  refine ⟨_, rfl, ?_⟩
  have h := Kept.refl s
  repeat' first | with_reducible assumption | with_reducible apply kept_ite | with_reducible apply kept_ite1 | with_reducible apply kept_ite2 | (with_reducible refine kept_forAll (fun _ _ _ => ?_) ?_) | (with_reducible refine kept_foldl (fun _ _ _ => ?_) ?_) | (with_reducible refine kept_foldl1 (fun _ _ _ => ?_) ?_) | with_reducible apply kept_cryCommand | with_reducible apply kept_gated | with_reducible apply kept_endCommand | with_reducible apply kept_twnCommand | with_reducible apply kept_cruStart | with_reducible apply kept_cryGo | with_reducible apply kept_wr | with_reducible apply kept_updCommand | with_reducible apply keptRes_set | fail_if_no_progress (with_reducible apply kept_mk) | (with_reducible refine kept_of_eq (by with_reducible assumption) ?_) | intro _ _ | split | dsimp only

theorem kept_execCryCtrDec (q : Requester) (slot : BitVec 8) (s : State) : ∃ r, execCryCtrDec q slot s = .next r ∧ Kept s r := by
  unfold execCryCtrDec
  refine ⟨_, rfl, ?_⟩
  have h := Kept.refl s
  repeat' first | with_reducible assumption | with_reducible apply kept_ite | with_reducible apply kept_ite1 | with_reducible apply kept_ite2 | (with_reducible refine kept_forAll (fun _ _ _ => ?_) ?_) | (with_reducible refine kept_foldl (fun _ _ _ => ?_) ?_) | (with_reducible refine kept_foldl1 (fun _ _ _ => ?_) ?_) | with_reducible apply kept_cryCommand | with_reducible apply kept_gated | with_reducible apply kept_endCommand | with_reducible apply kept_twnCommand | with_reducible apply kept_cruStart | with_reducible apply kept_cryGo | with_reducible apply kept_wr | with_reducible apply kept_updCommand | with_reducible apply keptRes_set | fail_if_no_progress (with_reducible apply kept_mk) | (with_reducible refine kept_of_eq (by with_reducible assumption) ?_) | intro _ _ | split | dsimp only

theorem kept_execCryCmacGen (q : Requester) (slot : BitVec 8) (s : State) : ∃ r, execCryCmacGen q slot s = .next r ∧ Kept s r := by
  unfold execCryCmacGen
  refine ⟨_, rfl, ?_⟩
  have h := Kept.refl s
  repeat' first | with_reducible assumption | with_reducible apply kept_ite | with_reducible apply kept_ite1 | with_reducible apply kept_ite2 | (with_reducible refine kept_forAll (fun _ _ _ => ?_) ?_) | (with_reducible refine kept_foldl (fun _ _ _ => ?_) ?_) | (with_reducible refine kept_foldl1 (fun _ _ _ => ?_) ?_) | with_reducible apply kept_cryCommand | with_reducible apply kept_gated | with_reducible apply kept_endCommand | with_reducible apply kept_twnCommand | with_reducible apply kept_cruStart | with_reducible apply kept_cryGo | with_reducible apply kept_wr | with_reducible apply kept_updCommand | with_reducible apply keptRes_set | fail_if_no_progress (with_reducible apply kept_mk) | (with_reducible refine kept_of_eq (by with_reducible assumption) ?_) | intro _ _ | split | dsimp only

theorem kept_execCryCmacVer (q : Requester) (slot : BitVec 8) (s : State) : ∃ r, execCryCmacVer q slot s = .next r ∧ Kept s r := by
  unfold execCryCmacVer
  refine ⟨_, rfl, ?_⟩
  have h := Kept.refl s
  repeat' first | with_reducible assumption | with_reducible apply kept_ite | with_reducible apply kept_ite1 | with_reducible apply kept_ite2 | (with_reducible refine kept_forAll (fun _ _ _ => ?_) ?_) | (with_reducible refine kept_foldl (fun _ _ _ => ?_) ?_) | (with_reducible refine kept_foldl1 (fun _ _ _ => ?_) ?_) | with_reducible apply kept_cryCommand | with_reducible apply kept_gated | with_reducible apply kept_endCommand | with_reducible apply kept_twnCommand | with_reducible apply kept_cruStart | with_reducible apply kept_cryGo | with_reducible apply kept_wr | with_reducible apply kept_updCommand | with_reducible apply keptRes_set | fail_if_no_progress (with_reducible apply kept_mk) | (with_reducible refine kept_of_eq (by with_reducible assumption) ?_) | intro _ _ | split | dsimp only

theorem kept_execCryHmacGen (q : Requester) (slot : BitVec 8) (s : State) : ∃ r, execCryHmacGen q slot s = .next r ∧ Kept s r := by
  unfold execCryHmacGen
  refine ⟨_, rfl, ?_⟩
  have h := Kept.refl s
  repeat' first | with_reducible assumption | with_reducible apply kept_ite | with_reducible apply kept_ite1 | with_reducible apply kept_ite2 | (with_reducible refine kept_forAll (fun _ _ _ => ?_) ?_) | (with_reducible refine kept_foldl (fun _ _ _ => ?_) ?_) | (with_reducible refine kept_foldl1 (fun _ _ _ => ?_) ?_) | with_reducible apply kept_cryCommand | with_reducible apply kept_gated | with_reducible apply kept_endCommand | with_reducible apply kept_twnCommand | with_reducible apply kept_cruStart | with_reducible apply kept_cryGo | with_reducible apply kept_wr | with_reducible apply kept_updCommand | with_reducible apply keptRes_set | fail_if_no_progress (with_reducible apply kept_mk) | (with_reducible refine kept_of_eq (by with_reducible assumption) ?_) | intro _ _ | split | dsimp only

theorem kept_execCryHmacVer (q : Requester) (slot : BitVec 8) (s : State) : ∃ r, execCryHmacVer q slot s = .next r ∧ Kept s r := by
  unfold execCryHmacVer
  refine ⟨_, rfl, ?_⟩
  have h := Kept.refl s
  repeat' first | with_reducible assumption | with_reducible apply kept_ite | with_reducible apply kept_ite1 | with_reducible apply kept_ite2 | (with_reducible refine kept_forAll (fun _ _ _ => ?_) ?_) | (with_reducible refine kept_foldl (fun _ _ _ => ?_) ?_) | (with_reducible refine kept_foldl1 (fun _ _ _ => ?_) ?_) | with_reducible apply kept_cryCommand | with_reducible apply kept_gated | with_reducible apply kept_endCommand | with_reducible apply kept_twnCommand | with_reducible apply kept_cruStart | with_reducible apply kept_cryGo | with_reducible apply kept_wr | with_reducible apply kept_updCommand | with_reducible apply keptRes_set | fail_if_no_progress (with_reducible apply kept_mk) | (with_reducible refine kept_of_eq (by with_reducible assumption) ?_) | intro _ _ | split | dsimp only

theorem kept_execCryEcdsaSign (q : Requester) (slot : BitVec 8) (s : State) : ∃ r, execCryEcdsaSign q slot s = .next r ∧ Kept s r := by
  unfold execCryEcdsaSign
  refine ⟨_, rfl, ?_⟩
  have h := Kept.refl s
  repeat' first | with_reducible assumption | with_reducible apply kept_ite | with_reducible apply kept_ite1 | with_reducible apply kept_ite2 | (with_reducible refine kept_forAll (fun _ _ _ => ?_) ?_) | (with_reducible refine kept_foldl (fun _ _ _ => ?_) ?_) | (with_reducible refine kept_foldl1 (fun _ _ _ => ?_) ?_) | with_reducible apply kept_cryCommand | with_reducible apply kept_gated | with_reducible apply kept_endCommand | with_reducible apply kept_twnCommand | with_reducible apply kept_cruStart | with_reducible apply kept_cryGo | with_reducible apply kept_wr | with_reducible apply kept_updCommand | with_reducible apply keptRes_set | fail_if_no_progress (with_reducible apply kept_mk) | (with_reducible refine kept_of_eq (by with_reducible assumption) ?_) | intro _ _ | split | dsimp only

theorem kept_execCryEcdsaPub (q : Requester) (slot : BitVec 8) (s : State) : ∃ r, execCryEcdsaPub q slot s = .next r ∧ Kept s r := by
  unfold execCryEcdsaPub
  refine ⟨_, rfl, ?_⟩
  have h := Kept.refl s
  repeat' first | with_reducible assumption | with_reducible apply kept_ite | with_reducible apply kept_ite1 | with_reducible apply kept_ite2 | (with_reducible refine kept_forAll (fun _ _ _ => ?_) ?_) | (with_reducible refine kept_foldl (fun _ _ _ => ?_) ?_) | (with_reducible refine kept_foldl1 (fun _ _ _ => ?_) ?_) | with_reducible apply kept_cryCommand | with_reducible apply kept_gated | with_reducible apply kept_endCommand | with_reducible apply kept_twnCommand | with_reducible apply kept_cruStart | with_reducible apply kept_cryGo | with_reducible apply kept_wr | with_reducible apply kept_updCommand | with_reducible apply keptRes_set | fail_if_no_progress (with_reducible apply kept_mk) | (with_reducible refine kept_of_eq (by with_reducible assumption) ?_) | intro _ _ | split | dsimp only

theorem kept_execCryEcdsaVer (q : Requester) (slot : BitVec 8) (s : State) : ∃ r, execCryEcdsaVer q slot s = .next r ∧ Kept s r := by
  unfold execCryEcdsaVer
  refine ⟨_, rfl, ?_⟩
  have h := Kept.refl s
  repeat' first | with_reducible assumption | with_reducible apply kept_ite | with_reducible apply kept_ite1 | with_reducible apply kept_ite2 | (with_reducible refine kept_forAll (fun _ _ _ => ?_) ?_) | (with_reducible refine kept_foldl (fun _ _ _ => ?_) ?_) | (with_reducible refine kept_foldl1 (fun _ _ _ => ?_) ?_) | with_reducible apply kept_cryCommand | with_reducible apply kept_gated | with_reducible apply kept_endCommand | with_reducible apply kept_twnCommand | with_reducible apply kept_cruStart | with_reducible apply kept_cryGo | with_reducible apply kept_wr | with_reducible apply kept_updCommand | with_reducible apply keptRes_set | fail_if_no_progress (with_reducible apply kept_mk) | (with_reducible refine kept_of_eq (by with_reducible assumption) ?_) | intro _ _ | split | dsimp only

theorem kept_execCrySha256 (q : Requester) (slot : BitVec 8) (s : State) : ∃ r, execCrySha256 q slot s = .next r ∧ Kept s r := by
  unfold execCrySha256
  refine ⟨_, rfl, ?_⟩
  have h := Kept.refl s
  repeat' first | with_reducible assumption | with_reducible apply kept_ite | with_reducible apply kept_ite1 | with_reducible apply kept_ite2 | (with_reducible refine kept_forAll (fun _ _ _ => ?_) ?_) | (with_reducible refine kept_foldl (fun _ _ _ => ?_) ?_) | (with_reducible refine kept_foldl1 (fun _ _ _ => ?_) ?_) | with_reducible apply kept_cryCommand | with_reducible apply kept_gated | with_reducible apply kept_endCommand | with_reducible apply kept_twnCommand | with_reducible apply kept_cruStart | with_reducible apply kept_cryGo | with_reducible apply kept_wr | with_reducible apply kept_updCommand | with_reducible apply keptRes_set | fail_if_no_progress (with_reducible apply kept_mk) | (with_reducible refine kept_of_eq (by with_reducible assumption) ?_) | intro _ _ | split | dsimp only

theorem kept_execCryJobComplete  (s : State) : ∃ r, execCryJobComplete s = .next r ∧ Kept s r := by
  unfold execCryJobComplete
  refine ⟨_, rfl, ?_⟩
  have h := Kept.refl s
  repeat' first | with_reducible assumption | with_reducible apply kept_ite | with_reducible apply kept_ite1 | with_reducible apply kept_ite2 | (with_reducible refine kept_forAll (fun _ _ _ => ?_) ?_) | (with_reducible refine kept_foldl (fun _ _ _ => ?_) ?_) | (with_reducible refine kept_foldl1 (fun _ _ _ => ?_) ?_) | with_reducible apply kept_cryComplete | with_reducible apply kept_gated | with_reducible apply kept_endCommand | with_reducible apply kept_twnCommand | with_reducible apply kept_cruStart | with_reducible apply kept_cryGo | with_reducible apply kept_wr | with_reducible apply kept_updCommand | with_reducible apply keptRes_set | fail_if_no_progress (with_reducible apply kept_mk) | (with_reducible refine kept_of_eq (by with_reducible assumption) ?_) | intro _ _ | split | dsimp only

theorem kept_execTamperEvent (src : Fin 6) (s : State) : ∃ r, execTamperEvent src s = .next r ∧ Kept s r := by
  unfold execTamperEvent
  refine ⟨_, rfl, ?_⟩
  have h := Kept.refl s
  repeat' first | with_reducible assumption | with_reducible apply kept_ite | with_reducible apply kept_ite1 | with_reducible apply kept_ite2 | (with_reducible refine kept_forAll (fun _ _ _ => ?_) ?_) | (with_reducible refine kept_foldl (fun _ _ _ => ?_) ?_) | (with_reducible refine kept_foldl1 (fun _ _ _ => ?_) ?_) | with_reducible apply kept_tamperEvent | with_reducible apply kept_gated | with_reducible apply kept_endCommand | with_reducible apply kept_twnCommand | with_reducible apply kept_cruStart | with_reducible apply kept_cryGo | with_reducible apply kept_wr | with_reducible apply kept_updCommand | with_reducible apply keptRes_set | fail_if_no_progress (with_reducible apply kept_mk) | (with_reducible refine kept_of_eq (by with_reducible assumption) ?_) | intro _ _ | split | dsimp only

theorem kept_execTamperLatchClear (q : Requester) (s : State) : ∃ r, execTamperLatchClear q s = .next r ∧ Kept s r := by
  unfold execTamperLatchClear
  refine ⟨_, rfl, ?_⟩
  have h := Kept.refl s
  repeat' first | with_reducible assumption | with_reducible apply kept_ite | with_reducible apply kept_ite1 | with_reducible apply kept_ite2 | (with_reducible refine kept_forAll (fun _ _ _ => ?_) ?_) | (with_reducible refine kept_foldl (fun _ _ _ => ?_) ?_) | (with_reducible refine kept_foldl1 (fun _ _ _ => ?_) ?_) | with_reducible apply kept_gated | with_reducible apply kept_answer | with_reducible apply kept_clearTamper | with_reducible apply kept_gated | with_reducible apply kept_endCommand | with_reducible apply kept_twnCommand | with_reducible apply kept_cruStart | with_reducible apply kept_cryGo | with_reducible apply kept_wr | with_reducible apply kept_updCommand | with_reducible apply keptRes_set | fail_if_no_progress (with_reducible apply kept_mk) | (with_reducible refine kept_of_eq (by with_reducible assumption) ?_) | intro _ _ | split | dsimp only

theorem kept_execDebugChallenge (q : Requester) (s : State) : ∃ r, execDebugChallenge q s = .next r ∧ Kept s r := by
  unfold execDebugChallenge
  refine ⟨_, rfl, ?_⟩
  have h := Kept.refl s
  repeat' first | with_reducible assumption | with_reducible apply kept_ite | with_reducible apply kept_ite1 | with_reducible apply kept_ite2 | (with_reducible refine kept_forAll (fun _ _ _ => ?_) ?_) | (with_reducible refine kept_foldl (fun _ _ _ => ?_) ?_) | (with_reducible refine kept_foldl1 (fun _ _ _ => ?_) ?_) | with_reducible apply kept_gated | with_reducible apply kept_drawNonce | with_reducible apply kept_answer | with_reducible apply kept_gated | with_reducible apply kept_endCommand | with_reducible apply kept_twnCommand | with_reducible apply kept_cruStart | with_reducible apply kept_cryGo | with_reducible apply kept_wr | with_reducible apply kept_updCommand | with_reducible apply keptRes_set | fail_if_no_progress (with_reducible apply kept_mk) | (with_reducible refine kept_of_eq (by with_reducible assumption) ?_) | intro _ _ | split | dsimp only

theorem kept_execDebugOpen (q : Requester) (s : State) : ∃ r, execDebugOpen q s = .next r ∧ Kept s r := by
  unfold execDebugOpen
  refine ⟨_, rfl, ?_⟩
  have h := Kept.refl s
  repeat' first | with_reducible assumption | with_reducible apply kept_ite | with_reducible apply kept_ite1 | with_reducible apply kept_ite2 | (with_reducible refine kept_forAll (fun _ _ _ => ?_) ?_) | (with_reducible refine kept_foldl (fun _ _ _ => ?_) ?_) | (with_reducible refine kept_foldl1 (fun _ _ _ => ?_) ?_) | with_reducible apply kept_gated | with_reducible apply kept_endCommand | with_reducible apply kept_debugCommand | with_reducible apply kept_gated | with_reducible apply kept_endCommand | with_reducible apply kept_twnCommand | with_reducible apply kept_cruStart | with_reducible apply kept_cryGo | with_reducible apply kept_wr | with_reducible apply kept_updCommand | with_reducible apply keptRes_set | fail_if_no_progress (with_reducible apply kept_mk) | (with_reducible refine kept_of_eq (by with_reducible assumption) ?_) | intro _ _ | split | dsimp only

theorem kept_execDebugClose (q : Requester) (s : State) : ∃ r, execDebugClose q s = .next r ∧ Kept s r := by
  unfold execDebugClose
  refine ⟨_, rfl, ?_⟩
  have h := Kept.refl s
  repeat' first | with_reducible assumption | with_reducible apply kept_ite | with_reducible apply kept_ite1 | with_reducible apply kept_ite2 | (with_reducible refine kept_forAll (fun _ _ _ => ?_) ?_) | (with_reducible refine kept_foldl (fun _ _ _ => ?_) ?_) | (with_reducible refine kept_foldl1 (fun _ _ _ => ?_) ?_) | with_reducible apply kept_gated | with_reducible apply kept_endCommand | with_reducible apply kept_debugCommand | with_reducible apply kept_gated | with_reducible apply kept_endCommand | with_reducible apply kept_twnCommand | with_reducible apply kept_cruStart | with_reducible apply kept_cryGo | with_reducible apply kept_wr | with_reducible apply kept_updCommand | with_reducible apply keptRes_set | fail_if_no_progress (with_reducible apply kept_mk) | (with_reducible refine kept_of_eq (by with_reducible assumption) ?_) | intro _ _ | split | dsimp only

theorem kept_execDebugLockfuse (q : Requester) (key : BitVec 16) (s : State) : ∃ r, execDebugLockfuse q key s = .next r ∧ Kept s r := by
  unfold execDebugLockfuse
  refine ⟨_, rfl, ?_⟩
  have h := Kept.refl s
  repeat' first | with_reducible assumption | with_reducible apply kept_ite | with_reducible apply kept_ite1 | with_reducible apply kept_ite2 | (with_reducible refine kept_forAll (fun _ _ _ => ?_) ?_) | (with_reducible refine kept_foldl (fun _ _ _ => ?_) ?_) | (with_reducible refine kept_foldl1 (fun _ _ _ => ?_) ?_) | with_reducible apply kept_gated | with_reducible apply kept_endCommand | with_reducible apply kept_debugCommand | with_reducible apply kept_gated | with_reducible apply kept_endCommand | with_reducible apply kept_twnCommand | with_reducible apply kept_cruStart | with_reducible apply kept_cryGo | with_reducible apply kept_wr | with_reducible apply kept_updCommand | with_reducible apply keptRes_set | fail_if_no_progress (with_reducible apply kept_mk) | (with_reducible refine kept_of_eq (by with_reducible assumption) ?_) | intro _ _ | split | dsimp only

theorem kept_execDebugHold (q : Requester) (v : Word) (s : State) : ∃ r, execDebugHold q v s = .next r ∧ Kept s r := by
  unfold execDebugHold
  refine ⟨_, rfl, ?_⟩
  have h := Kept.refl s
  repeat' first | with_reducible assumption | with_reducible apply kept_ite | with_reducible apply kept_ite1 | with_reducible apply kept_ite2 | (with_reducible refine kept_forAll (fun _ _ _ => ?_) ?_) | (with_reducible refine kept_foldl (fun _ _ _ => ?_) ?_) | (with_reducible refine kept_foldl1 (fun _ _ _ => ?_) ?_) | with_reducible apply kept_gated | with_reducible apply kept_endCommand | with_reducible apply kept_holdWrite | with_reducible apply kept_gated | with_reducible apply kept_endCommand | with_reducible apply kept_twnCommand | with_reducible apply kept_cruStart | with_reducible apply kept_cryGo | with_reducible apply kept_wr | with_reducible apply kept_updCommand | with_reducible apply keptRes_set | fail_if_no_progress (with_reducible apply kept_mk) | (with_reducible refine kept_of_eq (by with_reducible assumption) ?_) | intro _ _ | split | dsimp only

theorem kept_execDebugGo (q : Requester) (v : Word) (s : State) : ∃ r, execDebugGo q v s = .next r ∧ Kept s r := by
  unfold execDebugGo
  refine ⟨_, rfl, ?_⟩
  have h := Kept.refl s
  repeat' first | with_reducible assumption | with_reducible apply kept_ite | with_reducible apply kept_ite1 | with_reducible apply kept_ite2 | (with_reducible refine kept_forAll (fun _ _ _ => ?_) ?_) | (with_reducible refine kept_foldl (fun _ _ _ => ?_) ?_) | (with_reducible refine kept_foldl1 (fun _ _ _ => ?_) ?_) | with_reducible apply kept_gated | with_reducible apply kept_endCommand | with_reducible apply kept_goWrite | with_reducible apply kept_gated | with_reducible apply kept_endCommand | with_reducible apply kept_twnCommand | with_reducible apply kept_cruStart | with_reducible apply kept_cryGo | with_reducible apply kept_wr | with_reducible apply kept_updCommand | with_reducible apply keptRes_set | fail_if_no_progress (with_reducible apply kept_mk) | (with_reducible refine kept_of_eq (by with_reducible assumption) ?_) | intro _ _ | split | dsimp only

theorem kept_execBootStorePattern (q : Requester) (s : State) : ∃ r, execBootStorePattern q s = .next r ∧ Kept s r := by
  unfold execBootStorePattern
  refine ⟨_, rfl, ?_⟩
  have h := Kept.refl s
  repeat' first | with_reducible assumption | with_reducible apply kept_ite | with_reducible apply kept_ite1 | with_reducible apply kept_ite2 | (with_reducible refine kept_forAll (fun _ _ _ => ?_) ?_) | (with_reducible refine kept_foldl (fun _ _ _ => ?_) ?_) | (with_reducible refine kept_foldl1 (fun _ _ _ => ?_) ?_) | with_reducible apply kept_gated | with_reducible apply kept_endCommand | with_reducible apply kept_storeStart | with_reducible apply kept_gated | with_reducible apply kept_endCommand | with_reducible apply kept_twnCommand | with_reducible apply kept_cruStart | with_reducible apply kept_cryGo | with_reducible apply kept_wr | with_reducible apply kept_updCommand | with_reducible apply keptRes_set | fail_if_no_progress (with_reducible apply kept_mk) | (with_reducible refine kept_of_eq (by with_reducible assumption) ?_) | intro _ _ | split | dsimp only

theorem kept_execBootStoreBlob (q : Requester) (s : State) : ∃ r, execBootStoreBlob q s = .next r ∧ Kept s r := by
  unfold execBootStoreBlob
  refine ⟨_, rfl, ?_⟩
  have h := Kept.refl s
  repeat' first | with_reducible assumption | with_reducible apply kept_ite | with_reducible apply kept_ite1 | with_reducible apply kept_ite2 | (with_reducible refine kept_forAll (fun _ _ _ => ?_) ?_) | (with_reducible refine kept_foldl (fun _ _ _ => ?_) ?_) | (with_reducible refine kept_foldl1 (fun _ _ _ => ?_) ?_) | with_reducible apply kept_gated | with_reducible apply kept_endCommand | with_reducible apply kept_storeStart | with_reducible apply kept_gated | with_reducible apply kept_endCommand | with_reducible apply kept_twnCommand | with_reducible apply kept_cruStart | with_reducible apply kept_cryGo | with_reducible apply kept_wr | with_reducible apply kept_updCommand | with_reducible apply keptRes_set | fail_if_no_progress (with_reducible apply kept_mk) | (with_reducible refine kept_of_eq (by with_reducible assumption) ?_) | intro _ _ | split | dsimp only

theorem kept_execBootStoreComplete  (s : State) : ∃ r, execBootStoreComplete s = .next r ∧ Kept s r := by
  unfold execBootStoreComplete
  refine ⟨_, rfl, ?_⟩
  have h := Kept.refl s
  repeat' first | with_reducible assumption | with_reducible apply kept_ite | with_reducible apply kept_ite1 | with_reducible apply kept_ite2 | (with_reducible refine kept_forAll (fun _ _ _ => ?_) ?_) | (with_reducible refine kept_foldl (fun _ _ _ => ?_) ?_) | (with_reducible refine kept_foldl1 (fun _ _ _ => ?_) ?_) | with_reducible apply kept_storeComplete | with_reducible apply kept_gated | with_reducible apply kept_endCommand | with_reducible apply kept_twnCommand | with_reducible apply kept_cruStart | with_reducible apply kept_cryGo | with_reducible apply kept_wr | with_reducible apply kept_updCommand | with_reducible apply keptRes_set | fail_if_no_progress (with_reducible apply kept_mk) | (with_reducible refine kept_of_eq (by with_reducible assumption) ?_) | intro _ _ | split | dsimp only

theorem kept_execXspiErase (q : Requester) (s : State) : ∃ r, execXspiErase q s = .next r ∧ Kept s r := by
  unfold execXspiErase
  refine ⟨_, rfl, ?_⟩
  have h := Kept.refl s
  repeat' first | with_reducible assumption | with_reducible apply kept_ite | with_reducible apply kept_ite1 | with_reducible apply kept_ite2 | (with_reducible refine kept_forAll (fun _ _ _ => ?_) ?_) | (with_reducible refine kept_foldl (fun _ _ _ => ?_) ?_) | (with_reducible refine kept_foldl1 (fun _ _ _ => ?_) ?_) | with_reducible apply kept_gated | with_reducible apply kept_endCommand | with_reducible apply kept_xspiStart | with_reducible apply kept_gated | with_reducible apply kept_endCommand | with_reducible apply kept_twnCommand | with_reducible apply kept_cruStart | with_reducible apply kept_cryGo | with_reducible apply kept_wr | with_reducible apply kept_updCommand | with_reducible apply keptRes_set | fail_if_no_progress (with_reducible apply kept_mk) | (with_reducible refine kept_of_eq (by with_reducible assumption) ?_) | intro _ _ | split | dsimp only

theorem kept_execXspiProgram (q : Requester) (s : State) : ∃ r, execXspiProgram q s = .next r ∧ Kept s r := by
  unfold execXspiProgram
  refine ⟨_, rfl, ?_⟩
  have h := Kept.refl s
  repeat' first | with_reducible assumption | with_reducible apply kept_ite | with_reducible apply kept_ite1 | with_reducible apply kept_ite2 | (with_reducible refine kept_forAll (fun _ _ _ => ?_) ?_) | (with_reducible refine kept_foldl (fun _ _ _ => ?_) ?_) | (with_reducible refine kept_foldl1 (fun _ _ _ => ?_) ?_) | with_reducible apply kept_gated | with_reducible apply kept_endCommand | with_reducible apply kept_xspiStart | with_reducible apply kept_gated | with_reducible apply kept_endCommand | with_reducible apply kept_twnCommand | with_reducible apply kept_cruStart | with_reducible apply kept_cryGo | with_reducible apply kept_wr | with_reducible apply kept_updCommand | with_reducible apply keptRes_set | fail_if_no_progress (with_reducible apply kept_mk) | (with_reducible refine kept_of_eq (by with_reducible assumption) ?_) | intro _ _ | split | dsimp only

theorem kept_execXspiVerify (q : Requester) (s : State) : ∃ r, execXspiVerify q s = .next r ∧ Kept s r := by
  unfold execXspiVerify
  refine ⟨_, rfl, ?_⟩
  have h := Kept.refl s
  repeat' first | with_reducible assumption | with_reducible apply kept_ite | with_reducible apply kept_ite1 | with_reducible apply kept_ite2 | (with_reducible refine kept_forAll (fun _ _ _ => ?_) ?_) | (with_reducible refine kept_foldl (fun _ _ _ => ?_) ?_) | (with_reducible refine kept_foldl1 (fun _ _ _ => ?_) ?_) | with_reducible apply kept_gated | with_reducible apply kept_endCommand | with_reducible apply kept_xspiStart | with_reducible apply kept_gated | with_reducible apply kept_endCommand | with_reducible apply kept_twnCommand | with_reducible apply kept_cruStart | with_reducible apply kept_cryGo | with_reducible apply kept_wr | with_reducible apply kept_updCommand | with_reducible apply keptRes_set | fail_if_no_progress (with_reducible apply kept_mk) | (with_reducible refine kept_of_eq (by with_reducible assumption) ?_) | intro _ _ | split | dsimp only

theorem kept_execXspiCommandComplete (ok : Bool) (s : State) : ∃ r, execXspiCommandComplete ok s = .next r ∧ Kept s r := by
  unfold execXspiCommandComplete
  refine ⟨_, rfl, ?_⟩
  have h := Kept.refl s
  repeat' first | with_reducible assumption | with_reducible apply kept_ite | with_reducible apply kept_ite1 | with_reducible apply kept_ite2 | (with_reducible refine kept_forAll (fun _ _ _ => ?_) ?_) | (with_reducible refine kept_foldl (fun _ _ _ => ?_) ?_) | (with_reducible refine kept_foldl1 (fun _ _ _ => ?_) ?_) | with_reducible apply kept_xspiComplete | with_reducible apply kept_gated | with_reducible apply kept_endCommand | with_reducible apply kept_twnCommand | with_reducible apply kept_cruStart | with_reducible apply kept_cryGo | with_reducible apply kept_wr | with_reducible apply kept_updCommand | with_reducible apply keptRes_set | fail_if_no_progress (with_reducible apply kept_mk) | (with_reducible refine kept_of_eq (by with_reducible assumption) ?_) | intro _ _ | split | dsimp only

theorem kept_execMr4Poll (mult : Fin 3) (s : State) : ∃ r, execMr4Poll mult s = .next r ∧ Kept s r := by
  unfold execMr4Poll
  refine ⟨_, rfl, ?_⟩
  have h := Kept.refl s
  repeat' first | with_reducible assumption | with_reducible apply kept_ite | with_reducible apply kept_ite1 | with_reducible apply kept_ite2 | (with_reducible refine kept_forAll (fun _ _ _ => ?_) ?_) | (with_reducible refine kept_foldl (fun _ _ _ => ?_) ?_) | (with_reducible refine kept_foldl1 (fun _ _ _ => ?_) ?_) | with_reducible apply kept_mr4Poll | with_reducible apply kept_gated | with_reducible apply kept_endCommand | with_reducible apply kept_twnCommand | with_reducible apply kept_cruStart | with_reducible apply kept_cryGo | with_reducible apply kept_wr | with_reducible apply kept_updCommand | with_reducible apply keptRes_set | fail_if_no_progress (with_reducible apply kept_mk) | (with_reducible refine kept_of_eq (by with_reducible assumption) ?_) | intro _ _ | split | dsimp only

theorem kept_execPllLockLoss (n : Fin 32) (s : State) : ∃ r, execPllLockLoss n s = .next r ∧ Kept s r := by
  unfold execPllLockLoss
  refine ⟨_, rfl, ?_⟩
  have h := Kept.refl s
  repeat' first | with_reducible assumption | with_reducible apply kept_ite | with_reducible apply kept_ite1 | with_reducible apply kept_ite2 | (with_reducible refine kept_forAll (fun _ _ _ => ?_) ?_) | (with_reducible refine kept_foldl (fun _ _ _ => ?_) ?_) | (with_reducible refine kept_foldl1 (fun _ _ _ => ?_) ?_) | with_reducible apply kept_pllLoss | with_reducible apply kept_gated | with_reducible apply kept_endCommand | with_reducible apply kept_twnCommand | with_reducible apply kept_cruStart | with_reducible apply kept_cryGo | with_reducible apply kept_wr | with_reducible apply kept_updCommand | with_reducible apply keptRes_set | fail_if_no_progress (with_reducible apply kept_mk) | (with_reducible refine kept_of_eq (by with_reducible assumption) ?_) | intro _ _ | split | dsimp only

theorem kept_execPllRelock (n : Fin 32) (s : State) : ∃ r, execPllRelock n s = .next r ∧ Kept s r := by
  unfold execPllRelock
  refine ⟨_, rfl, ?_⟩
  have h := Kept.refl s
  repeat' first | with_reducible assumption | with_reducible apply kept_ite | with_reducible apply kept_ite1 | with_reducible apply kept_ite2 | (with_reducible refine kept_forAll (fun _ _ _ => ?_) ?_) | (with_reducible refine kept_foldl (fun _ _ _ => ?_) ?_) | (with_reducible refine kept_foldl1 (fun _ _ _ => ?_) ?_) | with_reducible apply kept_pllRelock | with_reducible apply kept_gated | with_reducible apply kept_endCommand | with_reducible apply kept_twnCommand | with_reducible apply kept_cruStart | with_reducible apply kept_cryGo | with_reducible apply kept_wr | with_reducible apply kept_updCommand | with_reducible apply keptRes_set | fail_if_no_progress (with_reducible apply kept_mk) | (with_reducible refine kept_of_eq (by with_reducible assumption) ?_) | intro _ _ | split | dsimp only

theorem kept_execUpdCheck (q : Requester) (s : State) : ∃ r, execUpdCheck q s = .next r ∧ Kept s r := by
  unfold execUpdCheck
  refine ⟨_, rfl, ?_⟩
  have h := Kept.refl s
  repeat' first | with_reducible assumption | with_reducible apply kept_ite | with_reducible apply kept_ite1 | with_reducible apply kept_ite2 | (with_reducible refine kept_forAll (fun _ _ _ => ?_) ?_) | (with_reducible refine kept_foldl (fun _ _ _ => ?_) ?_) | (with_reducible refine kept_foldl1 (fun _ _ _ => ?_) ?_) | with_reducible apply kept_updRow | with_reducible apply kept_gated | with_reducible apply kept_endCommand | with_reducible apply kept_twnCommand | with_reducible apply kept_cruStart | with_reducible apply kept_cryGo | with_reducible apply kept_wr | with_reducible apply kept_updCommand | with_reducible apply keptRes_set | fail_if_no_progress (with_reducible apply kept_mk) | (with_reducible refine kept_of_eq (by with_reducible assumption) ?_) | intro _ _ | split | dsimp only

theorem kept_execUpdWrite (q : Requester) (s : State) : ∃ r, execUpdWrite q s = .next r ∧ Kept s r := by
  unfold execUpdWrite
  refine ⟨_, rfl, ?_⟩
  have h := Kept.refl s
  repeat' first | with_reducible assumption | with_reducible apply kept_ite | with_reducible apply kept_ite1 | with_reducible apply kept_ite2 | (with_reducible refine kept_forAll (fun _ _ _ => ?_) ?_) | (with_reducible refine kept_foldl (fun _ _ _ => ?_) ?_) | (with_reducible refine kept_foldl1 (fun _ _ _ => ?_) ?_) | with_reducible apply kept_updRow | with_reducible apply kept_gated | with_reducible apply kept_endCommand | with_reducible apply kept_twnCommand | with_reducible apply kept_cruStart | with_reducible apply kept_cryGo | with_reducible apply kept_wr | with_reducible apply kept_updCommand | with_reducible apply keptRes_set | fail_if_no_progress (with_reducible apply kept_mk) | (with_reducible refine kept_of_eq (by with_reducible assumption) ?_) | intro _ _ | split | dsimp only

theorem kept_execUpdAbandon (q : Requester) (s : State) : ∃ r, execUpdAbandon q s = .next r ∧ Kept s r := by
  unfold execUpdAbandon
  refine ⟨_, rfl, ?_⟩
  have h := Kept.refl s
  repeat' first | with_reducible assumption | with_reducible apply kept_ite | with_reducible apply kept_ite1 | with_reducible apply kept_ite2 | (with_reducible refine kept_forAll (fun _ _ _ => ?_) ?_) | (with_reducible refine kept_foldl (fun _ _ _ => ?_) ?_) | (with_reducible refine kept_foldl1 (fun _ _ _ => ?_) ?_) | with_reducible apply kept_updRow | with_reducible apply kept_gated | with_reducible apply kept_endCommand | with_reducible apply kept_twnCommand | with_reducible apply kept_cruStart | with_reducible apply kept_cryGo | with_reducible apply kept_wr | with_reducible apply kept_updCommand | with_reducible apply keptRes_set | fail_if_no_progress (with_reducible apply kept_mk) | (with_reducible refine kept_of_eq (by with_reducible assumption) ?_) | intro _ _ | split | dsimp only

theorem kept_execUpdSvnCommit (q : Requester) (s : State) : ∃ r, execUpdSvnCommit q s = .next r ∧ Kept s r := by
  unfold execUpdSvnCommit
  refine ⟨_, rfl, ?_⟩
  have h := Kept.refl s
  repeat' first | with_reducible assumption | with_reducible apply kept_ite | with_reducible apply kept_ite1 | with_reducible apply kept_ite2 | (with_reducible refine kept_forAll (fun _ _ _ => ?_) ?_) | (with_reducible refine kept_foldl (fun _ _ _ => ?_) ?_) | (with_reducible refine kept_foldl1 (fun _ _ _ => ?_) ?_) | with_reducible apply kept_updRow | with_reducible apply kept_gated | with_reducible apply kept_endCommand | with_reducible apply kept_twnCommand | with_reducible apply kept_cruStart | with_reducible apply kept_cryGo | with_reducible apply kept_wr | with_reducible apply kept_updCommand | with_reducible apply keptRes_set | fail_if_no_progress (with_reducible apply kept_mk) | (with_reducible refine kept_of_eq (by with_reducible assumption) ?_) | intro _ _ | split | dsimp only

theorem kept_execUpdOwnerPk (q : Requester) (s : State) : ∃ r, execUpdOwnerPk q s = .next r ∧ Kept s r := by
  unfold execUpdOwnerPk
  refine ⟨_, rfl, ?_⟩
  have h := Kept.refl s
  repeat' first | with_reducible assumption | with_reducible apply kept_ite | with_reducible apply kept_ite1 | with_reducible apply kept_ite2 | (with_reducible refine kept_forAll (fun _ _ _ => ?_) ?_) | (with_reducible refine kept_foldl (fun _ _ _ => ?_) ?_) | (with_reducible refine kept_foldl1 (fun _ _ _ => ?_) ?_) | with_reducible apply kept_updRow | with_reducible apply kept_gated | with_reducible apply kept_endCommand | with_reducible apply kept_twnCommand | with_reducible apply kept_cruStart | with_reducible apply kept_cryGo | with_reducible apply kept_wr | with_reducible apply kept_updCommand | with_reducible apply keptRes_set | fail_if_no_progress (with_reducible apply kept_mk) | (with_reducible refine kept_of_eq (by with_reducible assumption) ?_) | intro _ _ | split | dsimp only

theorem kept_execCheckComplete  (s : State) : ∃ r, execCheckComplete s = .next r ∧ Kept s r := by
  unfold execCheckComplete
  refine ⟨_, rfl, ?_⟩
  have h := Kept.refl s
  repeat' first | with_reducible assumption | with_reducible apply kept_ite | with_reducible apply kept_ite1 | with_reducible apply kept_ite2 | (with_reducible refine kept_forAll (fun _ _ _ => ?_) ?_) | (with_reducible refine kept_foldl (fun _ _ _ => ?_) ?_) | (with_reducible refine kept_foldl1 (fun _ _ _ => ?_) ?_) | with_reducible apply kept_checkComplete | with_reducible apply kept_gated | with_reducible apply kept_endCommand | with_reducible apply kept_twnCommand | with_reducible apply kept_cruStart | with_reducible apply kept_cryGo | with_reducible apply kept_wr | with_reducible apply kept_updCommand | with_reducible apply keptRes_set | fail_if_no_progress (with_reducible apply kept_mk) | (with_reducible refine kept_of_eq (by with_reducible assumption) ?_) | intro _ _ | split | dsimp only

theorem kept_execWriteComplete (ok : Bool) (s : State) : ∃ r, execWriteComplete ok s = .next r ∧ Kept s r := by
  unfold execWriteComplete
  refine ⟨_, rfl, ?_⟩
  have h := Kept.refl s
  repeat' first | with_reducible assumption | with_reducible apply kept_ite | with_reducible apply kept_ite1 | with_reducible apply kept_ite2 | (with_reducible refine kept_forAll (fun _ _ _ => ?_) ?_) | (with_reducible refine kept_foldl (fun _ _ _ => ?_) ?_) | (with_reducible refine kept_foldl1 (fun _ _ _ => ?_) ?_) | with_reducible apply kept_writeComplete | with_reducible apply kept_gated | with_reducible apply kept_endCommand | with_reducible apply kept_twnCommand | with_reducible apply kept_cruStart | with_reducible apply kept_cryGo | with_reducible apply kept_wr | with_reducible apply kept_updCommand | with_reducible apply keptRes_set | fail_if_no_progress (with_reducible apply kept_mk) | (with_reducible refine kept_of_eq (by with_reducible assumption) ?_) | intro _ _ | split | dsimp only

theorem kept_execActivationHold  (s : State) : ∃ r, execActivationHold s = .next r ∧ Kept s r := by
  unfold execActivationHold
  refine ⟨_, rfl, ?_⟩
  have h := Kept.refl s
  repeat' first | with_reducible assumption | with_reducible apply kept_ite | with_reducible apply kept_ite1 | with_reducible apply kept_ite2 | (with_reducible refine kept_forAll (fun _ _ _ => ?_) ?_) | (with_reducible refine kept_foldl (fun _ _ _ => ?_) ?_) | (with_reducible refine kept_foldl1 (fun _ _ _ => ?_) ?_) | with_reducible apply kept_activationHold | with_reducible apply kept_gated | with_reducible apply kept_endCommand | with_reducible apply kept_twnCommand | with_reducible apply kept_cruStart | with_reducible apply kept_cryGo | with_reducible apply kept_wr | with_reducible apply kept_updCommand | with_reducible apply keptRes_set | fail_if_no_progress (with_reducible apply kept_mk) | (with_reducible refine kept_of_eq (by with_reducible assumption) ?_) | intro _ _ | split | dsimp only

theorem kept_execActivationPauseStart  (s : State) : ∃ r, execActivationPauseStart s = .next r ∧ Kept s r := by
  unfold execActivationPauseStart
  refine ⟨_, rfl, ?_⟩
  have h := Kept.refl s
  repeat' first | with_reducible assumption | with_reducible apply kept_ite | with_reducible apply kept_ite1 | with_reducible apply kept_ite2 | (with_reducible refine kept_forAll (fun _ _ _ => ?_) ?_) | (with_reducible refine kept_foldl (fun _ _ _ => ?_) ?_) | (with_reducible refine kept_foldl1 (fun _ _ _ => ?_) ?_) | with_reducible apply kept_activationPauseStart | with_reducible apply kept_gated | with_reducible apply kept_endCommand | with_reducible apply kept_twnCommand | with_reducible apply kept_cruStart | with_reducible apply kept_cryGo | with_reducible apply kept_wr | with_reducible apply kept_updCommand | with_reducible apply keptRes_set | fail_if_no_progress (with_reducible apply kept_mk) | (with_reducible refine kept_of_eq (by with_reducible assumption) ?_) | intro _ _ | split | dsimp only

theorem kept_execRecoveryInfo (m : Fin 3) (mac : List Byte) (seq : Word) (s : State) : ∃ r, execRecoveryInfo m mac seq s = .next r ∧ Kept s r := by
  unfold execRecoveryInfo
  refine ⟨_, rfl, ?_⟩
  have h := Kept.refl s
  repeat' first | with_reducible assumption | with_reducible apply kept_ite | with_reducible apply kept_ite1 | with_reducible apply kept_ite2 | (with_reducible refine kept_forAll (fun _ _ _ => ?_) ?_) | (with_reducible refine kept_foldl (fun _ _ _ => ?_) ?_) | (with_reducible refine kept_foldl1 (fun _ _ _ => ?_) ?_) | with_reducible apply kept_recovRequest | with_reducible apply kept_recovReply | with_reducible apply kept_gated | with_reducible apply kept_endCommand | with_reducible apply kept_twnCommand | with_reducible apply kept_cruStart | with_reducible apply kept_cryGo | with_reducible apply kept_wr | with_reducible apply kept_updCommand | with_reducible apply keptRes_set | fail_if_no_progress (with_reducible apply kept_mk) | (with_reducible refine kept_of_eq (by with_reducible assumption) ?_) | intro _ _ | split | dsimp only

theorem kept_execRecoveryChallenge (m : Fin 3) (mac : List Byte) (seq : Word) (s : State) : ∃ r, execRecoveryChallenge m mac seq s = .next r ∧ Kept s r := by
  unfold execRecoveryChallenge
  refine ⟨_, rfl, ?_⟩
  have h := Kept.refl s
  repeat' first | with_reducible assumption | with_reducible apply kept_ite | with_reducible apply kept_ite1 | with_reducible apply kept_ite2 | (with_reducible refine kept_forAll (fun _ _ _ => ?_) ?_) | (with_reducible refine kept_foldl (fun _ _ _ => ?_) ?_) | (with_reducible refine kept_foldl1 (fun _ _ _ => ?_) ?_) | with_reducible apply kept_recovRequest | with_reducible apply kept_recovChallenge | with_reducible apply kept_gated | with_reducible apply kept_endCommand | with_reducible apply kept_twnCommand | with_reducible apply kept_cruStart | with_reducible apply kept_cryGo | with_reducible apply kept_wr | with_reducible apply kept_updCommand | with_reducible apply keptRes_set | fail_if_no_progress (with_reducible apply kept_mk) | (with_reducible refine kept_of_eq (by with_reducible assumption) ?_) | intro _ _ | split | dsimp only

theorem kept_execRecoveryLoad (m : Fin 3) (mac : List Byte) (seq : Word) (off : Word) (data : List Byte) (s : State) : ∃ r, execRecoveryLoad m mac seq off data s = .next r ∧ Kept s r := by
  unfold execRecoveryLoad
  refine ⟨_, rfl, ?_⟩
  have h := Kept.refl s
  repeat' first | with_reducible assumption | with_reducible apply kept_ite | with_reducible apply kept_ite1 | with_reducible apply kept_ite2 | (with_reducible refine kept_forAll (fun _ _ _ => ?_) ?_) | (with_reducible refine kept_foldl (fun _ _ _ => ?_) ?_) | (with_reducible refine kept_foldl1 (fun _ _ _ => ?_) ?_) | with_reducible apply kept_recovRequest | with_reducible apply kept_recovLoad | with_reducible apply kept_gated | with_reducible apply kept_endCommand | with_reducible apply kept_twnCommand | with_reducible apply kept_cruStart | with_reducible apply kept_cryGo | with_reducible apply kept_wr | with_reducible apply kept_updCommand | with_reducible apply keptRes_set | fail_if_no_progress (with_reducible apply kept_mk) | (with_reducible refine kept_of_eq (by with_reducible assumption) ?_) | intro _ _ | split | dsimp only

theorem kept_execRecoveryCommit (m : Fin 3) (mac : List Byte) (seq : Word) (total : Word) (s : State) : ∃ r, execRecoveryCommit m mac seq total s = .next r ∧ Kept s r := by
  unfold execRecoveryCommit
  refine ⟨_, rfl, ?_⟩
  have h := Kept.refl s
  repeat' first | with_reducible assumption | with_reducible apply kept_ite | with_reducible apply kept_ite1 | with_reducible apply kept_ite2 | (with_reducible refine kept_forAll (fun _ _ _ => ?_) ?_) | (with_reducible refine kept_foldl (fun _ _ _ => ?_) ?_) | (with_reducible refine kept_foldl1 (fun _ _ _ => ?_) ?_) | with_reducible apply kept_recovRequest | with_reducible apply kept_recovCommit | with_reducible apply kept_gated | with_reducible apply kept_endCommand | with_reducible apply kept_twnCommand | with_reducible apply kept_cruStart | with_reducible apply kept_cryGo | with_reducible apply kept_wr | with_reducible apply kept_updCommand | with_reducible apply keptRes_set | fail_if_no_progress (with_reducible apply kept_mk) | (with_reducible refine kept_of_eq (by with_reducible assumption) ?_) | intro _ _ | split | dsimp only

theorem kept_execRecoveryWriteComplete (ok : Bool) (s : State) : ∃ r, execRecoveryWriteComplete ok s = .next r ∧ Kept s r := by
  unfold execRecoveryWriteComplete
  refine ⟨_, rfl, ?_⟩
  have h := Kept.refl s
  repeat' first | with_reducible assumption | with_reducible apply kept_ite | with_reducible apply kept_ite1 | with_reducible apply kept_ite2 | (with_reducible refine kept_forAll (fun _ _ _ => ?_) ?_) | (with_reducible refine kept_foldl (fun _ _ _ => ?_) ?_) | (with_reducible refine kept_foldl1 (fun _ _ _ => ?_) ?_) | with_reducible apply kept_recovWritten | with_reducible apply kept_gated | with_reducible apply kept_endCommand | with_reducible apply kept_twnCommand | with_reducible apply kept_cruStart | with_reducible apply kept_cryGo | with_reducible apply kept_wr | with_reducible apply kept_updCommand | with_reducible apply keptRes_set | fail_if_no_progress (with_reducible apply kept_mk) | (with_reducible refine kept_of_eq (by with_reducible assumption) ?_) | intro _ _ | split | dsimp only

theorem kept_execRecoveryClearTamper (m : Fin 3) (mac : List Byte) (seq : Word) (data : List Byte) (s : State) : ∃ r, execRecoveryClearTamper m mac seq data s = .next r ∧ Kept s r := by
  unfold execRecoveryClearTamper
  refine ⟨_, rfl, ?_⟩
  have h := Kept.refl s
  repeat' first | with_reducible assumption | with_reducible apply kept_ite | with_reducible apply kept_ite1 | with_reducible apply kept_ite2 | (with_reducible refine kept_forAll (fun _ _ _ => ?_) ?_) | (with_reducible refine kept_foldl (fun _ _ _ => ?_) ?_) | (with_reducible refine kept_foldl1 (fun _ _ _ => ?_) ?_) | with_reducible apply kept_recovRequest | with_reducible apply kept_recovClear | with_reducible apply kept_gated | with_reducible apply kept_endCommand | with_reducible apply kept_twnCommand | with_reducible apply kept_cruStart | with_reducible apply kept_cryGo | with_reducible apply kept_wr | with_reducible apply kept_updCommand | with_reducible apply keptRes_set | fail_if_no_progress (with_reducible apply kept_mk) | (with_reducible refine kept_of_eq (by with_reducible assumption) ?_) | intro _ _ | split | dsimp only

theorem kept_execRecoverySessionTimeout  (s : State) : ∃ r, execRecoverySessionTimeout s = .next r ∧ Kept s r := by
  unfold execRecoverySessionTimeout
  refine ⟨_, rfl, ?_⟩
  have h := Kept.refl s
  repeat' first | with_reducible assumption | with_reducible apply kept_ite | with_reducible apply kept_ite1 | with_reducible apply kept_ite2 | (with_reducible refine kept_forAll (fun _ _ _ => ?_) ?_) | (with_reducible refine kept_foldl (fun _ _ _ => ?_) ?_) | (with_reducible refine kept_foldl1 (fun _ _ _ => ?_) ?_) | with_reducible apply kept_recovTimeout | with_reducible apply kept_gated | with_reducible apply kept_endCommand | with_reducible apply kept_twnCommand | with_reducible apply kept_cruStart | with_reducible apply kept_cryGo | with_reducible apply kept_wr | with_reducible apply kept_updCommand | with_reducible apply keptRes_set | fail_if_no_progress (with_reducible apply kept_mk) | (with_reducible refine kept_of_eq (by with_reducible assumption) ?_) | intro _ _ | split | dsimp only

theorem kept_execPowerOnReset (x : BootEnv) (s : State) : ∃ r, execPowerOnReset x s = .next r ∧ Kept s r := by
  unfold execPowerOnReset
  refine ⟨_, rfl, ?_⟩
  have h := Kept.refl s
  repeat' first | with_reducible assumption | with_reducible apply kept_ite | with_reducible apply kept_ite1 | with_reducible apply kept_ite2 | (with_reducible refine kept_forAll (fun _ _ _ => ?_) ?_) | (with_reducible refine kept_foldl (fun _ _ _ => ?_) ?_) | (with_reducible refine kept_foldl1 (fun _ _ _ => ?_) ?_) | with_reducible apply kept_powerOn | with_reducible apply kept_gated | with_reducible apply kept_endCommand | with_reducible apply kept_twnCommand | with_reducible apply kept_cruStart | with_reducible apply kept_cryGo | with_reducible apply kept_wr | with_reducible apply kept_updCommand | with_reducible apply keptRes_set | fail_if_no_progress (with_reducible apply kept_mk) | (with_reducible refine kept_of_eq (by with_reducible assumption) ?_) | intro _ _ | split | dsimp only

theorem kept_execResetPin  (s : State) : ∃ r, execResetPin s = .next r ∧ Kept s r := by
  unfold execResetPin
  refine ⟨_, rfl, ?_⟩
  have h := Kept.refl s
  repeat' first | with_reducible assumption | with_reducible apply kept_ite | with_reducible apply kept_ite1 | with_reducible apply kept_ite2 | (with_reducible refine kept_forAll (fun _ _ _ => ?_) ?_) | (with_reducible refine kept_foldl (fun _ _ _ => ?_) ?_) | (with_reducible refine kept_foldl1 (fun _ _ _ => ?_) ?_) | with_reducible apply kept_resetModule | with_reducible apply kept_gated | with_reducible apply kept_endCommand | with_reducible apply kept_twnCommand | with_reducible apply kept_cruStart | with_reducible apply kept_cryGo | with_reducible apply kept_wr | with_reducible apply kept_updCommand | with_reducible apply keptRes_set | fail_if_no_progress (with_reducible apply kept_mk) | (with_reducible refine kept_of_eq (by with_reducible assumption) ?_) | intro _ _ | split | dsimp only

theorem kept_execSysReset (q : Requester) (key : BitVec 16) (s : State) : ∃ r, execSysReset q key s = .next r ∧ Kept s r := by
  unfold execSysReset
  refine ⟨_, rfl, ?_⟩
  have h := Kept.refl s
  repeat' first | with_reducible assumption | with_reducible apply kept_ite | with_reducible apply kept_ite1 | with_reducible apply kept_ite2 | (with_reducible refine kept_forAll (fun _ _ _ => ?_) ?_) | (with_reducible refine kept_foldl (fun _ _ _ => ?_) ?_) | (with_reducible refine kept_foldl1 (fun _ _ _ => ?_) ?_) | with_reducible apply kept_settleReset | with_reducible apply kept_writeCommand | with_reducible apply kept_gated | with_reducible apply kept_endCommand | with_reducible apply kept_twnCommand | with_reducible apply kept_cruStart | with_reducible apply kept_cryGo | with_reducible apply kept_wr | with_reducible apply kept_updCommand | with_reducible apply keptRes_set | fail_if_no_progress (with_reducible apply kept_mk) | (with_reducible refine kept_of_eq (by with_reducible assumption) ?_) | intro _ _ | split | dsimp only

theorem kept_execSysRecover (q : Requester) (key : BitVec 16) (s : State) : ∃ r, execSysRecover q key s = .next r ∧ Kept s r := by
  unfold execSysRecover
  refine ⟨_, rfl, ?_⟩
  have h := Kept.refl s
  repeat' first | with_reducible assumption | with_reducible apply kept_ite | with_reducible apply kept_ite1 | with_reducible apply kept_ite2 | (with_reducible refine kept_forAll (fun _ _ _ => ?_) ?_) | (with_reducible refine kept_foldl (fun _ _ _ => ?_) ?_) | (with_reducible refine kept_foldl1 (fun _ _ _ => ?_) ?_) | with_reducible apply kept_settleReset | with_reducible apply kept_writeCommand | with_reducible apply kept_gated | with_reducible apply kept_endCommand | with_reducible apply kept_twnCommand | with_reducible apply kept_cruStart | with_reducible apply kept_cryGo | with_reducible apply kept_wr | with_reducible apply kept_updCommand | with_reducible apply keptRes_set | fail_if_no_progress (with_reducible apply kept_mk) | (with_reducible refine kept_of_eq (by with_reducible assumption) ?_) | intro _ _ | split | dsimp only

theorem kept_execMgmtWatchdogReset  (s : State) : ∃ r, execMgmtWatchdogReset s = .next r ∧ Kept s r := by
  unfold execMgmtWatchdogReset
  refine ⟨_, rfl, ?_⟩
  have h := Kept.refl s
  repeat' first | with_reducible assumption | with_reducible apply kept_ite | with_reducible apply kept_ite1 | with_reducible apply kept_ite2 | (with_reducible refine kept_forAll (fun _ _ _ => ?_) ?_) | (with_reducible refine kept_foldl (fun _ _ _ => ?_) ?_) | (with_reducible refine kept_foldl1 (fun _ _ _ => ?_) ?_) | with_reducible apply kept_resetModule | with_reducible apply kept_gated | with_reducible apply kept_endCommand | with_reducible apply kept_twnCommand | with_reducible apply kept_cruStart | with_reducible apply kept_cryGo | with_reducible apply kept_wr | with_reducible apply kept_updCommand | with_reducible apply keptRes_set | fail_if_no_progress (with_reducible apply kept_mk) | (with_reducible refine kept_of_eq (by with_reducible assumption) ?_) | intro _ _ | split | dsimp only

theorem kept_execLockstepReset  (s : State) : ∃ r, execLockstepReset s = .next r ∧ Kept s r := by
  unfold execLockstepReset
  refine ⟨_, rfl, ?_⟩
  have h := Kept.refl s
  repeat' first | with_reducible assumption | with_reducible apply kept_ite | with_reducible apply kept_ite1 | with_reducible apply kept_ite2 | (with_reducible refine kept_forAll (fun _ _ _ => ?_) ?_) | (with_reducible refine kept_foldl (fun _ _ _ => ?_) ?_) | (with_reducible refine kept_foldl1 (fun _ _ _ => ?_) ?_) | with_reducible apply kept_resetModule | with_reducible apply kept_gated | with_reducible apply kept_endCommand | with_reducible apply kept_twnCommand | with_reducible apply kept_cruStart | with_reducible apply kept_cryGo | with_reducible apply kept_wr | with_reducible apply kept_updCommand | with_reducible apply keptRes_set | fail_if_no_progress (with_reducible apply kept_mk) | (with_reducible refine kept_of_eq (by with_reducible assumption) ?_) | intro _ _ | split | dsimp only

theorem kept_execThermalReset  (s : State) : ∃ r, execThermalReset s = .next r ∧ Kept s r := by
  unfold execThermalReset
  refine ⟨_, rfl, ?_⟩
  have h := Kept.refl s
  repeat' first | with_reducible assumption | with_reducible apply kept_ite | with_reducible apply kept_ite1 | with_reducible apply kept_ite2 | (with_reducible refine kept_forAll (fun _ _ _ => ?_) ?_) | (with_reducible refine kept_foldl (fun _ _ _ => ?_) ?_) | (with_reducible refine kept_foldl1 (fun _ _ _ => ?_) ?_) | with_reducible apply kept_resetModule | with_reducible apply kept_gated | with_reducible apply kept_endCommand | with_reducible apply kept_twnCommand | with_reducible apply kept_cruStart | with_reducible apply kept_cryGo | with_reducible apply kept_wr | with_reducible apply kept_updCommand | with_reducible apply keptRes_set | fail_if_no_progress (with_reducible apply kept_mk) | (with_reducible refine kept_of_eq (by with_reducible assumption) ?_) | intro _ _ | split | dsimp only

theorem kept_execSupplyGood (rail : Fin 5) (ms : Nat) (s : State) : ∃ r, execSupplyGood rail ms s = .next r ∧ Kept s r := by
  unfold execSupplyGood
  refine ⟨_, rfl, ?_⟩
  have h := Kept.refl s
  repeat' first | with_reducible assumption | with_reducible apply kept_ite | with_reducible apply kept_ite1 | with_reducible apply kept_ite2 | (with_reducible refine kept_forAll (fun _ _ _ => ?_) ?_) | (with_reducible refine kept_foldl (fun _ _ _ => ?_) ?_) | (with_reducible refine kept_foldl1 (fun _ _ _ => ?_) ?_) | with_reducible apply kept_supplyGood | with_reducible apply kept_gated | with_reducible apply kept_endCommand | with_reducible apply kept_twnCommand | with_reducible apply kept_cruStart | with_reducible apply kept_cryGo | with_reducible apply kept_wr | with_reducible apply kept_updCommand | with_reducible apply keptRes_set | fail_if_no_progress (with_reducible apply kept_mk) | (with_reducible refine kept_of_eq (by with_reducible assumption) ?_) | intro _ _ | split | dsimp only

theorem kept_execSupplyFail (vbkp : Bool) (s : State) : ∃ r, execSupplyFail vbkp s = .next r ∧ Kept s r := by
  unfold execSupplyFail
  refine ⟨_, rfl, ?_⟩
  have h := Kept.refl s
  repeat' first | with_reducible assumption | with_reducible apply kept_ite | with_reducible apply kept_ite1 | with_reducible apply kept_ite2 | (with_reducible refine kept_forAll (fun _ _ _ => ?_) ?_) | (with_reducible refine kept_foldl (fun _ _ _ => ?_) ?_) | (with_reducible refine kept_foldl1 (fun _ _ _ => ?_) ?_) | with_reducible apply kept_supplyFail | with_reducible apply kept_gated | with_reducible apply kept_endCommand | with_reducible apply kept_twnCommand | with_reducible apply kept_cruStart | with_reducible apply kept_cryGo | with_reducible apply kept_wr | with_reducible apply kept_updCommand | with_reducible apply keptRes_set | fail_if_no_progress (with_reducible apply kept_mk) | (with_reducible refine kept_of_eq (by with_reducible assumption) ?_) | intro _ _ | split | dsimp only

theorem kept_execDebugReset (q : Requester) (s : State) : ∃ r, execDebugReset q s = .next r ∧ Kept s r := by
  unfold execDebugReset
  refine ⟨_, rfl, ?_⟩
  have h := Kept.refl s
  repeat' first | with_reducible assumption | with_reducible apply kept_ite | with_reducible apply kept_ite1 | with_reducible apply kept_ite2 | (with_reducible refine kept_forAll (fun _ _ _ => ?_) ?_) | (with_reducible refine kept_foldl (fun _ _ _ => ?_) ?_) | (with_reducible refine kept_foldl1 (fun _ _ _ => ?_) ?_) | with_reducible apply kept_settleReset | with_reducible apply kept_gated | with_reducible apply kept_endCommand | with_reducible apply kept_debugCommand | with_reducible apply kept_gated | with_reducible apply kept_endCommand | with_reducible apply kept_twnCommand | with_reducible apply kept_cruStart | with_reducible apply kept_cryGo | with_reducible apply kept_wr | with_reducible apply kept_updCommand | with_reducible apply keptRes_set | fail_if_no_progress (with_reducible apply kept_mk) | (with_reducible refine kept_of_eq (by with_reducible assumption) ?_) | intro _ _ | split | dsimp only

theorem kept_execUpdActivate (q : Requester) (s : State) : ∃ r, execUpdActivate q s = .next r ∧ Kept s r := by
  unfold execUpdActivate
  refine ⟨_, rfl, ?_⟩
  have h := Kept.refl s
  repeat' first | with_reducible assumption | with_reducible apply kept_ite | with_reducible apply kept_ite1 | with_reducible apply kept_ite2 | (with_reducible refine kept_forAll (fun _ _ _ => ?_) ?_) | (with_reducible refine kept_foldl (fun _ _ _ => ?_) ?_) | (with_reducible refine kept_foldl1 (fun _ _ _ => ?_) ?_) | with_reducible apply kept_settleReset | with_reducible apply kept_gated | with_reducible apply kept_endCommand | with_reducible apply kept_updCommand | with_reducible apply kept_gated | with_reducible apply kept_endCommand | with_reducible apply kept_twnCommand | with_reducible apply kept_cruStart | with_reducible apply kept_cryGo | with_reducible apply kept_wr | with_reducible apply kept_updCommand | with_reducible apply keptRes_set | fail_if_no_progress (with_reducible apply kept_mk) | (with_reducible refine kept_of_eq (by with_reducible assumption) ?_) | intro _ _ | split | dsimp only

theorem kept_execActivationPauseEnd (ok : Bool) (counts : Nat) (s : State) : ∃ r, execActivationPauseEnd ok counts s = .next r ∧ Kept s r := by
  unfold execActivationPauseEnd
  refine ⟨_, rfl, ?_⟩
  have h := Kept.refl s
  repeat' first | with_reducible assumption | with_reducible apply kept_ite | with_reducible apply kept_ite1 | with_reducible apply kept_ite2 | (with_reducible refine kept_forAll (fun _ _ _ => ?_) ?_) | (with_reducible refine kept_foldl (fun _ _ _ => ?_) ?_) | (with_reducible refine kept_foldl1 (fun _ _ _ => ?_) ?_) | with_reducible apply kept_settleReset | with_reducible apply kept_activationPauseEnd | with_reducible apply kept_gated | with_reducible apply kept_endCommand | with_reducible apply kept_twnCommand | with_reducible apply kept_cruStart | with_reducible apply kept_cryGo | with_reducible apply kept_wr | with_reducible apply kept_updCommand | with_reducible apply keptRes_set | fail_if_no_progress (with_reducible apply kept_mk) | (with_reducible refine kept_of_eq (by with_reducible assumption) ?_) | intro _ _ | split | dsimp only

theorem kept_execRecoveryReset (m : Fin 3) (mac : List Byte) (seq : Word) (s : State) : ∃ r, execRecoveryReset m mac seq s = .next r ∧ Kept s r := by
  unfold execRecoveryReset
  refine ⟨_, rfl, ?_⟩
  have h := Kept.refl s
  repeat' first | with_reducible assumption | with_reducible apply kept_ite | with_reducible apply kept_ite1 | with_reducible apply kept_ite2 | (with_reducible refine kept_forAll (fun _ _ _ => ?_) ?_) | (with_reducible refine kept_foldl (fun _ _ _ => ?_) ?_) | (with_reducible refine kept_foldl1 (fun _ _ _ => ?_) ?_) | with_reducible apply kept_settleReset | with_reducible apply kept_recovRequest | with_reducible apply kept_recovReset | with_reducible apply kept_gated | with_reducible apply kept_endCommand | with_reducible apply kept_twnCommand | with_reducible apply kept_cruStart | with_reducible apply kept_cryGo | with_reducible apply kept_wr | with_reducible apply kept_updCommand | with_reducible apply keptRes_set | fail_if_no_progress (with_reducible apply kept_mk) | (with_reducible refine kept_of_eq (by with_reducible assumption) ?_) | intro _ _ | split | dsimp only

theorem kept_execRegisterWrite (q : Requester) (page : BitVec 8) (off : BitVec 12) (v : Word) (s : State) : ∃ r, execRegisterWrite q page off v s = .next r ∧ Kept s r := by
  unfold execRegisterWrite
  refine ⟨_, rfl, ?_⟩
  have h := Kept.refl s
  repeat' first | with_reducible assumption | with_reducible apply kept_ite | with_reducible apply kept_ite1 | with_reducible apply kept_ite2 | (with_reducible refine kept_forAll (fun _ _ _ => ?_) ?_) | (with_reducible refine kept_foldl (fun _ _ _ => ?_) ?_) | (with_reducible refine kept_foldl1 (fun _ _ _ => ?_) ?_) | with_reducible apply kept_registerWrite | with_reducible apply kept_gated | with_reducible apply kept_endCommand | with_reducible apply kept_twnCommand | with_reducible apply kept_cruStart | with_reducible apply kept_cryGo | with_reducible apply kept_wr | with_reducible apply kept_updCommand | with_reducible apply keptRes_set | fail_if_no_progress (with_reducible apply kept_mk) | (with_reducible refine kept_of_eq (by with_reducible assumption) ?_) | intro _ _ | split | dsimp only

theorem kept_execAddressDecodeError (q : Requester) (addr : Word) (len : Nat) (data : Option (List Byte)) (s : State) : ∃ r, execAddressDecodeError q addr len data s = .next r ∧ Kept s r := by
  unfold execAddressDecodeError
  refine ⟨_, rfl, ?_⟩
  have h := Kept.refl s
  repeat' first | with_reducible assumption | with_reducible apply kept_ite | with_reducible apply kept_ite1 | with_reducible apply kept_ite2 | (with_reducible refine kept_forAll (fun _ _ _ => ?_) ?_) | (with_reducible refine kept_foldl (fun _ _ _ => ?_) ?_) | (with_reducible refine kept_foldl1 (fun _ _ _ => ?_) ?_) | with_reducible apply kept_addressAccess | with_reducible apply kept_gated | with_reducible apply kept_endCommand | with_reducible apply kept_twnCommand | with_reducible apply kept_cruStart | with_reducible apply kept_cryGo | with_reducible apply kept_wr | with_reducible apply kept_updCommand | with_reducible apply keptRes_set | fail_if_no_progress (with_reducible apply kept_mk) | (with_reducible refine kept_of_eq (by with_reducible assumption) ?_) | intro _ _ | split | dsimp only

theorem kept_execRegisterAccessMisaligned (q : Requester) (addr : Word) (len : Nat) (_write : Bool) (s : State) : ∃ r, execRegisterAccessMisaligned q addr len _write s = .next r ∧ Kept s r := by
  unfold execRegisterAccessMisaligned
  refine ⟨_, rfl, ?_⟩
  have h := Kept.refl s
  repeat' first | with_reducible assumption | with_reducible apply kept_ite | with_reducible apply kept_ite1 | with_reducible apply kept_ite2 | (with_reducible refine kept_forAll (fun _ _ _ => ?_) ?_) | (with_reducible refine kept_foldl (fun _ _ _ => ?_) ?_) | (with_reducible refine kept_foldl1 (fun _ _ _ => ?_) ?_) | with_reducible apply kept_served | with_reducible apply kept_misalignedAccess | with_reducible apply kept_gated | with_reducible apply kept_endCommand | with_reducible apply kept_twnCommand | with_reducible apply kept_cruStart | with_reducible apply kept_cryGo | with_reducible apply kept_wr | with_reducible apply kept_updCommand | with_reducible apply keptRes_set | fail_if_no_progress (with_reducible apply kept_mk) | (with_reducible refine kept_of_eq (by with_reducible assumption) ?_) | intro _ _ | split | dsimp only

theorem kept_execWideRegisterRead (q : Requester) (page : BitVec 8) (off : BitVec 12) (s : State) : ∃ r, execWideRegisterRead q page off s = .next r ∧ Kept s r := by
  unfold execWideRegisterRead
  refine ⟨_, rfl, ?_⟩
  have h := Kept.refl s
  repeat' first | with_reducible assumption | with_reducible apply kept_ite | with_reducible apply kept_ite1 | with_reducible apply kept_ite2 | (with_reducible refine kept_forAll (fun _ _ _ => ?_) ?_) | (with_reducible refine kept_foldl (fun _ _ _ => ?_) ?_) | (with_reducible refine kept_foldl1 (fun _ _ _ => ?_) ?_) | with_reducible apply kept_registerRead | with_reducible apply kept_gated | with_reducible apply kept_endCommand | with_reducible apply kept_twnCommand | with_reducible apply kept_cruStart | with_reducible apply kept_cryGo | with_reducible apply kept_wr | with_reducible apply kept_updCommand | with_reducible apply keptRes_set | fail_if_no_progress (with_reducible apply kept_mk) | (with_reducible refine kept_of_eq (by with_reducible assumption) ?_) | intro _ _ | split | dsimp only

theorem kept_execWideRegisterCommit (q : Requester) (page : BitVec 8) (off : BitVec 12) (v : Word) (s : State) : ∃ r, execWideRegisterCommit q page off v s = .next r ∧ Kept s r := by
  unfold execWideRegisterCommit
  refine ⟨_, rfl, ?_⟩
  have h := Kept.refl s
  repeat' first | with_reducible assumption | with_reducible apply kept_ite | with_reducible apply kept_ite1 | with_reducible apply kept_ite2 | (with_reducible refine kept_forAll (fun _ _ _ => ?_) ?_) | (with_reducible refine kept_foldl (fun _ _ _ => ?_) ?_) | (with_reducible refine kept_foldl1 (fun _ _ _ => ?_) ?_) | with_reducible apply kept_registerWrite | with_reducible apply kept_gated | with_reducible apply kept_endCommand | with_reducible apply kept_twnCommand | with_reducible apply kept_cruStart | with_reducible apply kept_cryGo | with_reducible apply kept_wr | with_reducible apply kept_updCommand | with_reducible apply keptRes_set | fail_if_no_progress (with_reducible apply kept_mk) | (with_reducible refine kept_of_eq (by with_reducible assumption) ?_) | intro _ _ | split | dsimp only

theorem kept_execEnableWrite (q : Requester) (fn : SwitchFn) (s : State) : ∃ r, execEnableWrite q fn s = .next r ∧ Kept s r := by
  unfold execEnableWrite
  refine ⟨_, rfl, ?_⟩
  have h := Kept.refl s
  repeat' first | with_reducible assumption | with_reducible apply kept_ite | with_reducible apply kept_ite1 | with_reducible apply kept_ite2 | (with_reducible refine kept_forAll (fun _ _ _ => ?_) ?_) | (with_reducible refine kept_foldl (fun _ _ _ => ?_) ?_) | (with_reducible refine kept_foldl1 (fun _ _ _ => ?_) ?_) | with_reducible apply kept_enWrite | with_reducible apply kept_gated | with_reducible apply kept_endCommand | with_reducible apply kept_twnCommand | with_reducible apply kept_cruStart | with_reducible apply kept_cryGo | with_reducible apply kept_wr | with_reducible apply kept_updCommand | with_reducible apply keptRes_set | fail_if_no_progress (with_reducible apply kept_mk) | (with_reducible refine kept_of_eq (by with_reducible assumption) ?_) | intro _ _ | split | dsimp only

theorem kept_execDisableWrite (q : Requester) (fn : SwitchFn) (s : State) : ∃ r, execDisableWrite q fn s = .next r ∧ Kept s r := by
  unfold execDisableWrite
  refine ⟨_, rfl, ?_⟩
  have h := Kept.refl s
  repeat' first | with_reducible assumption | with_reducible apply kept_ite | with_reducible apply kept_ite1 | with_reducible apply kept_ite2 | (with_reducible refine kept_forAll (fun _ _ _ => ?_) ?_) | (with_reducible refine kept_foldl (fun _ _ _ => ?_) ?_) | (with_reducible refine kept_foldl1 (fun _ _ _ => ?_) ?_) | with_reducible apply kept_enWrite | with_reducible apply kept_gated | with_reducible apply kept_endCommand | with_reducible apply kept_twnCommand | with_reducible apply kept_cruStart | with_reducible apply kept_cryGo | with_reducible apply kept_wr | with_reducible apply kept_updCommand | with_reducible apply keptRes_set | fail_if_no_progress (with_reducible apply kept_mk) | (with_reducible refine kept_of_eq (by with_reducible assumption) ?_) | intro _ _ | split | dsimp only

theorem kept_execStartingComplete (fn : SwitchFn) (s : State) : ∃ r, execStartingComplete fn s = .next r ∧ Kept s r := by
  unfold execStartingComplete
  refine ⟨_, rfl, ?_⟩
  have h := Kept.refl s
  repeat' first | with_reducible assumption | with_reducible apply kept_ite | with_reducible apply kept_ite1 | with_reducible apply kept_ite2 | (with_reducible refine kept_forAll (fun _ _ _ => ?_) ?_) | (with_reducible refine kept_foldl (fun _ _ _ => ?_) ?_) | (with_reducible refine kept_foldl1 (fun _ _ _ => ?_) ?_) | with_reducible apply kept_startedFn | with_reducible apply kept_gated | with_reducible apply kept_endCommand | with_reducible apply kept_twnCommand | with_reducible apply kept_cruStart | with_reducible apply kept_cryGo | with_reducible apply kept_wr | with_reducible apply kept_updCommand | with_reducible apply keptRes_set | fail_if_no_progress (with_reducible apply kept_mk) | (with_reducible refine kept_of_eq (by with_reducible assumption) ?_) | intro _ _ | split | dsimp only

theorem kept_execStoppingComplete (fn : SwitchFn) (s : State) : ∃ r, execStoppingComplete fn s = .next r ∧ Kept s r := by
  unfold execStoppingComplete
  refine ⟨_, rfl, ?_⟩
  have h := Kept.refl s
  repeat' first | with_reducible assumption | with_reducible apply kept_ite | with_reducible apply kept_ite1 | with_reducible apply kept_ite2 | (with_reducible refine kept_forAll (fun _ _ _ => ?_) ?_) | (with_reducible refine kept_foldl (fun _ _ _ => ?_) ?_) | (with_reducible refine kept_foldl1 (fun _ _ _ => ?_) ?_) | with_reducible apply kept_stoppedFn | with_reducible apply kept_gated | with_reducible apply kept_endCommand | with_reducible apply kept_twnCommand | with_reducible apply kept_cruStart | with_reducible apply kept_cryGo | with_reducible apply kept_wr | with_reducible apply kept_updCommand | with_reducible apply keptRes_set | fail_if_no_progress (with_reducible apply kept_mk) | (with_reducible refine kept_of_eq (by with_reducible assumption) ?_) | intro _ _ | split | dsimp only

theorem kept_execEventPendClear (q : Requester) (k : Fin 10) (mask : Word) (s : State) : ∃ r, execEventPendClear q k mask s = .next r ∧ Kept s r := by
  unfold execEventPendClear
  refine ⟨_, rfl, ?_⟩
  have h := Kept.refl s
  repeat' first | with_reducible assumption | with_reducible apply kept_ite | with_reducible apply kept_ite1 | with_reducible apply kept_ite2 | (with_reducible refine kept_forAll (fun _ _ _ => ?_) ?_) | (with_reducible refine kept_foldl (fun _ _ _ => ?_) ?_) | (with_reducible refine kept_foldl1 (fun _ _ _ => ?_) ?_) | with_reducible apply kept_writeCommand | with_reducible apply kept_gated | with_reducible apply kept_endCommand | with_reducible apply kept_twnCommand | with_reducible apply kept_cruStart | with_reducible apply kept_cryGo | with_reducible apply kept_wr | with_reducible apply kept_updCommand | with_reducible apply keptRes_set | fail_if_no_progress (with_reducible apply kept_mk) | (with_reducible refine kept_of_eq (by with_reducible assumption) ?_) | intro _ _ | split | dsimp only

theorem kept_execLatencyWrite (q : Requester) (page : BitVec 8) (v : Word) (s : State) : ∃ r, execLatencyWrite q page v s = .next r ∧ Kept s r := by
  unfold execLatencyWrite
  refine ⟨_, rfl, ?_⟩
  have h := Kept.refl s
  repeat' first | with_reducible assumption | with_reducible apply kept_ite | with_reducible apply kept_ite1 | with_reducible apply kept_ite2 | (with_reducible refine kept_forAll (fun _ _ _ => ?_) ?_) | (with_reducible refine kept_foldl (fun _ _ _ => ?_) ?_) | (with_reducible refine kept_foldl1 (fun _ _ _ => ?_) ?_) | with_reducible apply kept_writeCommand | with_reducible apply kept_gated | with_reducible apply kept_endCommand | with_reducible apply kept_twnCommand | with_reducible apply kept_cruStart | with_reducible apply kept_cryGo | with_reducible apply kept_wr | with_reducible apply kept_updCommand | with_reducible apply keptRes_set | fail_if_no_progress (with_reducible apply kept_mk) | (with_reducible refine kept_of_eq (by with_reducible assumption) ?_) | intro _ _ | split | dsimp only

theorem kept_execWindowRecordRead (q : Requester) (pid : BitVec 13) (word : Fin 8) (s : State) : ∃ r, execWindowRecordRead q pid word s = .next r ∧ Kept s r := by
  unfold execWindowRecordRead
  refine ⟨_, rfl, ?_⟩
  have h := Kept.refl s
  repeat' first | with_reducible assumption | with_reducible apply kept_ite | with_reducible apply kept_ite1 | with_reducible apply kept_ite2 | (with_reducible refine kept_forAll (fun _ _ _ => ?_) ?_) | (with_reducible refine kept_foldl (fun _ _ _ => ?_) ?_) | (with_reducible refine kept_foldl1 (fun _ _ _ => ?_) ?_) | with_reducible apply kept_served | with_reducible apply kept_windowRead | with_reducible apply kept_gated | with_reducible apply kept_endCommand | with_reducible apply kept_twnCommand | with_reducible apply kept_cruStart | with_reducible apply kept_cryGo | with_reducible apply kept_wr | with_reducible apply kept_updCommand | with_reducible apply keptRes_set | fail_if_no_progress (with_reducible apply kept_mk) | (with_reducible refine kept_of_eq (by with_reducible assumption) ?_) | intro _ _ | split | dsimp only

theorem kept_execWindowStageLow (q : Requester) (pid : BitVec 13) (v : Word) (s : State) : ∃ r, execWindowStageLow q pid v s = .next r ∧ Kept s r := by
  unfold execWindowStageLow
  refine ⟨_, rfl, ?_⟩
  have h := Kept.refl s
  repeat' first | with_reducible assumption | with_reducible apply kept_ite | with_reducible apply kept_ite1 | with_reducible apply kept_ite2 | (with_reducible refine kept_forAll (fun _ _ _ => ?_) ?_) | (with_reducible refine kept_foldl (fun _ _ _ => ?_) ?_) | (with_reducible refine kept_foldl1 (fun _ _ _ => ?_) ?_) | with_reducible apply kept_served | with_reducible apply kept_windowWrite | with_reducible apply kept_gated | with_reducible apply kept_endCommand | with_reducible apply kept_twnCommand | with_reducible apply kept_cruStart | with_reducible apply kept_cryGo | with_reducible apply kept_wr | with_reducible apply kept_updCommand | with_reducible apply keptRes_set | fail_if_no_progress (with_reducible apply kept_mk) | (with_reducible refine kept_of_eq (by with_reducible assumption) ?_) | intro _ _ | split | dsimp only

theorem kept_execWindowStageQuality (q : Requester) (pid : BitVec 13) (v : Word) (s : State) : ∃ r, execWindowStageQuality q pid v s = .next r ∧ Kept s r := by
  unfold execWindowStageQuality
  refine ⟨_, rfl, ?_⟩
  have h := Kept.refl s
  repeat' first | with_reducible assumption | with_reducible apply kept_ite | with_reducible apply kept_ite1 | with_reducible apply kept_ite2 | (with_reducible refine kept_forAll (fun _ _ _ => ?_) ?_) | (with_reducible refine kept_foldl (fun _ _ _ => ?_) ?_) | (with_reducible refine kept_foldl1 (fun _ _ _ => ?_) ?_) | with_reducible apply kept_served | with_reducible apply kept_windowWrite | with_reducible apply kept_gated | with_reducible apply kept_endCommand | with_reducible apply kept_twnCommand | with_reducible apply kept_cruStart | with_reducible apply kept_cryGo | with_reducible apply kept_wr | with_reducible apply kept_updCommand | with_reducible apply keptRes_set | fail_if_no_progress (with_reducible apply kept_mk) | (with_reducible refine kept_of_eq (by with_reducible assumption) ?_) | intro _ _ | split | dsimp only

theorem kept_execWindowCommit (q : Requester) (pid : BitVec 13) (v : Word) (s : State) : ∃ r, execWindowCommit q pid v s = .next r ∧ Kept s r := by
  unfold execWindowCommit
  refine ⟨_, rfl, ?_⟩
  have h := Kept.refl s
  repeat' first | with_reducible assumption | with_reducible apply kept_ite | with_reducible apply kept_ite1 | with_reducible apply kept_ite2 | (with_reducible refine kept_forAll (fun _ _ _ => ?_) ?_) | (with_reducible refine kept_foldl (fun _ _ _ => ?_) ?_) | (with_reducible refine kept_foldl1 (fun _ _ _ => ?_) ?_) | with_reducible apply kept_served | with_reducible apply kept_windowWrite | with_reducible apply kept_gated | with_reducible apply kept_endCommand | with_reducible apply kept_twnCommand | with_reducible apply kept_cruStart | with_reducible apply kept_cryGo | with_reducible apply kept_wr | with_reducible apply kept_updCommand | with_reducible apply keptRes_set | fail_if_no_progress (with_reducible apply kept_mk) | (with_reducible refine kept_of_eq (by with_reducible assumption) ?_) | intro _ _ | split | dsimp only

theorem kept_execForceSet (q : Requester) (s : State) : ∃ r, execForceSet q s = .next r ∧ Kept s r := by
  unfold execForceSet
  refine ⟨_, rfl, ?_⟩
  have h := Kept.refl s
  repeat' first | with_reducible assumption | with_reducible apply kept_ite | with_reducible apply kept_ite1 | with_reducible apply kept_ite2 | (with_reducible refine kept_forAll (fun _ _ _ => ?_) ?_) | (with_reducible refine kept_foldl (fun _ _ _ => ?_) ?_) | (with_reducible refine kept_foldl1 (fun _ _ _ => ?_) ?_) | with_reducible apply kept_writeCommand | with_reducible apply kept_gated | with_reducible apply kept_endCommand | with_reducible apply kept_twnCommand | with_reducible apply kept_cruStart | with_reducible apply kept_cryGo | with_reducible apply kept_wr | with_reducible apply kept_updCommand | with_reducible apply keptRes_set | fail_if_no_progress (with_reducible apply kept_mk) | (with_reducible refine kept_of_eq (by with_reducible assumption) ?_) | intro _ _ | split | dsimp only

theorem kept_execForceClear (q : Requester) (s : State) : ∃ r, execForceClear q s = .next r ∧ Kept s r := by
  unfold execForceClear
  refine ⟨_, rfl, ?_⟩
  have h := Kept.refl s
  repeat' first | with_reducible assumption | with_reducible apply kept_ite | with_reducible apply kept_ite1 | with_reducible apply kept_ite2 | (with_reducible refine kept_forAll (fun _ _ _ => ?_) ?_) | (with_reducible refine kept_foldl (fun _ _ _ => ?_) ?_) | (with_reducible refine kept_foldl1 (fun _ _ _ => ?_) ?_) | with_reducible apply kept_writeCommand | with_reducible apply kept_gated | with_reducible apply kept_endCommand | with_reducible apply kept_twnCommand | with_reducible apply kept_cruStart | with_reducible apply kept_cryGo | with_reducible apply kept_wr | with_reducible apply kept_updCommand | with_reducible apply keptRes_set | fail_if_no_progress (with_reducible apply kept_mk) | (with_reducible refine kept_of_eq (by with_reducible assumption) ?_) | intro _ _ | split | dsimp only

theorem kept_execForceLookup (q : Requester) (s : State) : ∃ r, execForceLookup q s = .next r ∧ Kept s r := by
  unfold execForceLookup
  refine ⟨_, rfl, ?_⟩
  have h := Kept.refl s
  repeat' first | with_reducible assumption | with_reducible apply kept_ite | with_reducible apply kept_ite1 | with_reducible apply kept_ite2 | (with_reducible refine kept_forAll (fun _ _ _ => ?_) ?_) | (with_reducible refine kept_foldl (fun _ _ _ => ?_) ?_) | (with_reducible refine kept_foldl1 (fun _ _ _ => ?_) ?_) | with_reducible apply kept_writeCommand | with_reducible apply kept_gated | with_reducible apply kept_endCommand | with_reducible apply kept_twnCommand | with_reducible apply kept_cruStart | with_reducible apply kept_cryGo | with_reducible apply kept_wr | with_reducible apply kept_updCommand | with_reducible apply keptRes_set | fail_if_no_progress (with_reducible apply kept_mk) | (with_reducible refine kept_of_eq (by with_reducible assumption) ?_) | intro _ _ | split | dsimp only

theorem kept_execForceClearFlask (q : Requester) (s : State) : ∃ r, execForceClearFlask q s = .next r ∧ Kept s r := by
  unfold execForceClearFlask
  refine ⟨_, rfl, ?_⟩
  have h := Kept.refl s
  repeat' first | with_reducible assumption | with_reducible apply kept_ite | with_reducible apply kept_ite1 | with_reducible apply kept_ite2 | (with_reducible refine kept_forAll (fun _ _ _ => ?_) ?_) | (with_reducible refine kept_foldl (fun _ _ _ => ?_) ?_) | (with_reducible refine kept_foldl1 (fun _ _ _ => ?_) ?_) | with_reducible apply kept_writeCommand | with_reducible apply kept_gated | with_reducible apply kept_endCommand | with_reducible apply kept_twnCommand | with_reducible apply kept_cruStart | with_reducible apply kept_cryGo | with_reducible apply kept_wr | with_reducible apply kept_updCommand | with_reducible apply keptRes_set | fail_if_no_progress (with_reducible apply kept_mk) | (with_reducible refine kept_of_eq (by with_reducible assumption) ?_) | intro _ _ | split | dsimp only

theorem kept_execForceReadIndex (q : Requester) (s : State) : ∃ r, execForceReadIndex q s = .next r ∧ Kept s r := by
  unfold execForceReadIndex
  refine ⟨_, rfl, ?_⟩
  have h := Kept.refl s
  repeat' first | with_reducible assumption | with_reducible apply kept_ite | with_reducible apply kept_ite1 | with_reducible apply kept_ite2 | (with_reducible refine kept_forAll (fun _ _ _ => ?_) ?_) | (with_reducible refine kept_foldl (fun _ _ _ => ?_) ?_) | (with_reducible refine kept_foldl1 (fun _ _ _ => ?_) ?_) | with_reducible apply kept_writeCommand | with_reducible apply kept_gated | with_reducible apply kept_endCommand | with_reducible apply kept_twnCommand | with_reducible apply kept_cruStart | with_reducible apply kept_cryGo | with_reducible apply kept_wr | with_reducible apply kept_updCommand | with_reducible apply keptRes_set | fail_if_no_progress (with_reducible apply kept_mk) | (with_reducible refine kept_of_eq (by with_reducible assumption) ?_) | intro _ _ | split | dsimp only

theorem kept_execPtdAlloc (q : Requester) (s : State) : ∃ r, execPtdAlloc q s = .next r ∧ Kept s r := by
  unfold execPtdAlloc
  refine ⟨_, rfl, ?_⟩
  have h := Kept.refl s
  repeat' first | with_reducible assumption | with_reducible apply kept_ite | with_reducible apply kept_ite1 | with_reducible apply kept_ite2 | (with_reducible refine kept_forAll (fun _ _ _ => ?_) ?_) | (with_reducible refine kept_foldl (fun _ _ _ => ?_) ?_) | (with_reducible refine kept_foldl1 (fun _ _ _ => ?_) ?_) | with_reducible apply kept_writeCommand | with_reducible apply kept_gated | with_reducible apply kept_endCommand | with_reducible apply kept_twnCommand | with_reducible apply kept_cruStart | with_reducible apply kept_cryGo | with_reducible apply kept_wr | with_reducible apply kept_updCommand | with_reducible apply keptRes_set | fail_if_no_progress (with_reducible apply kept_mk) | (with_reducible refine kept_of_eq (by with_reducible assumption) ?_) | intro _ _ | split | dsimp only

theorem kept_execPtdFree (q : Requester) (s : State) : ∃ r, execPtdFree q s = .next r ∧ Kept s r := by
  unfold execPtdFree
  refine ⟨_, rfl, ?_⟩
  have h := Kept.refl s
  repeat' first | with_reducible assumption | with_reducible apply kept_ite | with_reducible apply kept_ite1 | with_reducible apply kept_ite2 | (with_reducible refine kept_forAll (fun _ _ _ => ?_) ?_) | (with_reducible refine kept_foldl (fun _ _ _ => ?_) ?_) | (with_reducible refine kept_foldl1 (fun _ _ _ => ?_) ?_) | with_reducible apply kept_writeCommand | with_reducible apply kept_gated | with_reducible apply kept_endCommand | with_reducible apply kept_twnCommand | with_reducible apply kept_cruStart | with_reducible apply kept_cryGo | with_reducible apply kept_wr | with_reducible apply kept_updCommand | with_reducible apply keptRes_set | fail_if_no_progress (with_reducible apply kept_mk) | (with_reducible refine kept_of_eq (by with_reducible assumption) ?_) | intro _ _ | split | dsimp only

theorem kept_execPtdLoad (q : Requester) (s : State) : ∃ r, execPtdLoad q s = .next r ∧ Kept s r := by
  unfold execPtdLoad
  refine ⟨_, rfl, ?_⟩
  have h := Kept.refl s
  repeat' first | with_reducible assumption | with_reducible apply kept_ite | with_reducible apply kept_ite1 | with_reducible apply kept_ite2 | (with_reducible refine kept_forAll (fun _ _ _ => ?_) ?_) | (with_reducible refine kept_foldl (fun _ _ _ => ?_) ?_) | (with_reducible refine kept_foldl1 (fun _ _ _ => ?_) ?_) | with_reducible apply kept_writeCommand | with_reducible apply kept_gated | with_reducible apply kept_endCommand | with_reducible apply kept_twnCommand | with_reducible apply kept_cruStart | with_reducible apply kept_cryGo | with_reducible apply kept_wr | with_reducible apply kept_updCommand | with_reducible apply keptRes_set | fail_if_no_progress (with_reducible apply kept_mk) | (with_reducible refine kept_of_eq (by with_reducible assumption) ?_) | intro _ _ | split | dsimp only

theorem kept_execPtdUpdate (q : Requester) (s : State) : ∃ r, execPtdUpdate q s = .next r ∧ Kept s r := by
  unfold execPtdUpdate
  refine ⟨_, rfl, ?_⟩
  have h := Kept.refl s
  repeat' first | with_reducible assumption | with_reducible apply kept_ite | with_reducible apply kept_ite1 | with_reducible apply kept_ite2 | (with_reducible refine kept_forAll (fun _ _ _ => ?_) ?_) | (with_reducible refine kept_foldl (fun _ _ _ => ?_) ?_) | (with_reducible refine kept_foldl1 (fun _ _ _ => ?_) ?_) | with_reducible apply kept_writeCommand | with_reducible apply kept_gated | with_reducible apply kept_endCommand | with_reducible apply kept_twnCommand | with_reducible apply kept_cruStart | with_reducible apply kept_cryGo | with_reducible apply kept_wr | with_reducible apply kept_updCommand | with_reducible apply keptRes_set | fail_if_no_progress (with_reducible apply kept_mk) | (with_reducible refine kept_of_eq (by with_reducible assumption) ?_) | intro _ _ | split | dsimp only

theorem kept_execFlkDenyClear (q : Requester) (mask : Word) (s : State) : ∃ r, execFlkDenyClear q mask s = .next r ∧ Kept s r := by
  unfold execFlkDenyClear
  refine ⟨_, rfl, ?_⟩
  have h := Kept.refl s
  repeat' first | with_reducible assumption | with_reducible apply kept_ite | with_reducible apply kept_ite1 | with_reducible apply kept_ite2 | (with_reducible refine kept_forAll (fun _ _ _ => ?_) ?_) | (with_reducible refine kept_foldl (fun _ _ _ => ?_) ?_) | (with_reducible refine kept_foldl1 (fun _ _ _ => ?_) ?_) | with_reducible apply kept_writeCommand | with_reducible apply kept_gated | with_reducible apply kept_endCommand | with_reducible apply kept_twnCommand | with_reducible apply kept_cruStart | with_reducible apply kept_cryGo | with_reducible apply kept_wr | with_reducible apply kept_updCommand | with_reducible apply keptRes_set | fail_if_no_progress (with_reducible apply kept_mk) | (with_reducible refine kept_of_eq (by with_reducible assumption) ?_) | intro _ _ | split | dsimp only

theorem kept_execTaskEnable (q : Requester) (t : Fin 64) (v : Word) (s : State) : ∃ r, execTaskEnable q t v s = .next r ∧ Kept s r := by
  unfold execTaskEnable
  refine ⟨_, rfl, ?_⟩
  have h := Kept.refl s
  repeat' first | with_reducible assumption | with_reducible apply kept_ite | with_reducible apply kept_ite1 | with_reducible apply kept_ite2 | (with_reducible refine kept_forAll (fun _ _ _ => ?_) ?_) | (with_reducible refine kept_foldl (fun _ _ _ => ?_) ?_) | (with_reducible refine kept_foldl1 (fun _ _ _ => ?_) ?_) | with_reducible apply kept_writeCommand | with_reducible apply kept_gated | with_reducible apply kept_endCommand | with_reducible apply kept_twnCommand | with_reducible apply kept_cruStart | with_reducible apply kept_cryGo | with_reducible apply kept_wr | with_reducible apply kept_updCommand | with_reducible apply keptRes_set | fail_if_no_progress (with_reducible apply kept_mk) | (with_reducible refine kept_of_eq (by with_reducible assumption) ?_) | intro _ _ | split | dsimp only

theorem kept_execTaskDisable (q : Requester) (t : Fin 64) (v : Word) (s : State) : ∃ r, execTaskDisable q t v s = .next r ∧ Kept s r := by
  unfold execTaskDisable
  refine ⟨_, rfl, ?_⟩
  have h := Kept.refl s
  repeat' first | with_reducible assumption | with_reducible apply kept_ite | with_reducible apply kept_ite1 | with_reducible apply kept_ite2 | (with_reducible refine kept_forAll (fun _ _ _ => ?_) ?_) | (with_reducible refine kept_foldl (fun _ _ _ => ?_) ?_) | (with_reducible refine kept_foldl1 (fun _ _ _ => ?_) ?_) | with_reducible apply kept_writeCommand | with_reducible apply kept_gated | with_reducible apply kept_endCommand | with_reducible apply kept_twnCommand | with_reducible apply kept_cruStart | with_reducible apply kept_cryGo | with_reducible apply kept_wr | with_reducible apply kept_updCommand | with_reducible apply keptRes_set | fail_if_no_progress (with_reducible apply kept_mk) | (with_reducible refine kept_of_eq (by with_reducible assumption) ?_) | intro _ _ | split | dsimp only

theorem kept_execTaskCounterClear (q : Requester) (v : Word) (s : State) : ∃ r, execTaskCounterClear q v s = .next r ∧ Kept s r := by
  unfold execTaskCounterClear
  refine ⟨_, rfl, ?_⟩
  have h := Kept.refl s
  repeat' first | with_reducible assumption | with_reducible apply kept_ite | with_reducible apply kept_ite1 | with_reducible apply kept_ite2 | (with_reducible refine kept_forAll (fun _ _ _ => ?_) ?_) | (with_reducible refine kept_foldl (fun _ _ _ => ?_) ?_) | (with_reducible refine kept_foldl1 (fun _ _ _ => ?_) ?_) | with_reducible apply kept_writeCommand | with_reducible apply kept_gated | with_reducible apply kept_endCommand | with_reducible apply kept_twnCommand | with_reducible apply kept_cruStart | with_reducible apply kept_cryGo | with_reducible apply kept_wr | with_reducible apply kept_updCommand | with_reducible apply keptRes_set | fail_if_no_progress (with_reducible apply kept_mk) | (with_reducible refine kept_of_eq (by with_reducible assumption) ?_) | intro _ _ | split | dsimp only

theorem kept_execXchStage (q : Requester) (s : State) : ∃ r, execXchStage q s = .next r ∧ Kept s r := by
  unfold execXchStage
  refine ⟨_, rfl, ?_⟩
  have h := Kept.refl s
  repeat' first | with_reducible assumption | with_reducible apply kept_ite | with_reducible apply kept_ite1 | with_reducible apply kept_ite2 | (with_reducible refine kept_forAll (fun _ _ _ => ?_) ?_) | (with_reducible refine kept_foldl (fun _ _ _ => ?_) ?_) | (with_reducible refine kept_foldl1 (fun _ _ _ => ?_) ?_) | with_reducible apply kept_writeCommand | with_reducible apply kept_gated | with_reducible apply kept_endCommand | with_reducible apply kept_twnCommand | with_reducible apply kept_cruStart | with_reducible apply kept_cryGo | with_reducible apply kept_wr | with_reducible apply kept_updCommand | with_reducible apply keptRes_set | fail_if_no_progress (with_reducible apply kept_mk) | (with_reducible refine kept_of_eq (by with_reducible assumption) ?_) | intro _ _ | split | dsimp only

theorem kept_execXchCommit (q : Requester) (s : State) : ∃ r, execXchCommit q s = .next r ∧ Kept s r := by
  unfold execXchCommit
  refine ⟨_, rfl, ?_⟩
  have h := Kept.refl s
  repeat' first | with_reducible assumption | with_reducible apply kept_ite | with_reducible apply kept_ite1 | with_reducible apply kept_ite2 | (with_reducible refine kept_forAll (fun _ _ _ => ?_) ?_) | (with_reducible refine kept_foldl (fun _ _ _ => ?_) ?_) | (with_reducible refine kept_foldl1 (fun _ _ _ => ?_) ?_) | with_reducible apply kept_writeCommand | with_reducible apply kept_gated | with_reducible apply kept_endCommand | with_reducible apply kept_twnCommand | with_reducible apply kept_cruStart | with_reducible apply kept_cryGo | with_reducible apply kept_wr | with_reducible apply kept_updCommand | with_reducible apply keptRes_set | fail_if_no_progress (with_reducible apply kept_mk) | (with_reducible refine kept_of_eq (by with_reducible assumption) ?_) | intro _ _ | split | dsimp only

theorem kept_execXchAbandon (q : Requester) (s : State) : ∃ r, execXchAbandon q s = .next r ∧ Kept s r := by
  unfold execXchAbandon
  refine ⟨_, rfl, ?_⟩
  have h := Kept.refl s
  repeat' first | with_reducible assumption | with_reducible apply kept_ite | with_reducible apply kept_ite1 | with_reducible apply kept_ite2 | (with_reducible refine kept_forAll (fun _ _ _ => ?_) ?_) | (with_reducible refine kept_foldl (fun _ _ _ => ?_) ?_) | (with_reducible refine kept_foldl1 (fun _ _ _ => ?_) ?_) | with_reducible apply kept_writeCommand | with_reducible apply kept_gated | with_reducible apply kept_endCommand | with_reducible apply kept_twnCommand | with_reducible apply kept_cruStart | with_reducible apply kept_cryGo | with_reducible apply kept_wr | with_reducible apply kept_updCommand | with_reducible apply keptRes_set | fail_if_no_progress (with_reducible apply kept_mk) | (with_reducible refine kept_of_eq (by with_reducible assumption) ?_) | intro _ _ | split | dsimp only

theorem kept_execXchConfirm (q : Requester) (s : State) : ∃ r, execXchConfirm q s = .next r ∧ Kept s r := by
  unfold execXchConfirm
  refine ⟨_, rfl, ?_⟩
  have h := Kept.refl s
  repeat' first | with_reducible assumption | with_reducible apply kept_ite | with_reducible apply kept_ite1 | with_reducible apply kept_ite2 | (with_reducible refine kept_forAll (fun _ _ _ => ?_) ?_) | (with_reducible refine kept_foldl (fun _ _ _ => ?_) ?_) | (with_reducible refine kept_foldl1 (fun _ _ _ => ?_) ?_) | with_reducible apply kept_writeCommand | with_reducible apply kept_gated | with_reducible apply kept_endCommand | with_reducible apply kept_twnCommand | with_reducible apply kept_cruStart | with_reducible apply kept_cryGo | with_reducible apply kept_wr | with_reducible apply kept_updCommand | with_reducible apply keptRes_set | fail_if_no_progress (with_reducible apply kept_mk) | (with_reducible refine kept_of_eq (by with_reducible assumption) ?_) | intro _ _ | split | dsimp only

theorem kept_execXchRollback (q : Requester) (s : State) : ∃ r, execXchRollback q s = .next r ∧ Kept s r := by
  unfold execXchRollback
  refine ⟨_, rfl, ?_⟩
  have h := Kept.refl s
  repeat' first | with_reducible assumption | with_reducible apply kept_ite | with_reducible apply kept_ite1 | with_reducible apply kept_ite2 | (with_reducible refine kept_forAll (fun _ _ _ => ?_) ?_) | (with_reducible refine kept_foldl (fun _ _ _ => ?_) ?_) | (with_reducible refine kept_foldl1 (fun _ _ _ => ?_) ?_) | with_reducible apply kept_writeCommand | with_reducible apply kept_gated | with_reducible apply kept_endCommand | with_reducible apply kept_twnCommand | with_reducible apply kept_cruStart | with_reducible apply kept_cryGo | with_reducible apply kept_wr | with_reducible apply kept_updCommand | with_reducible apply keptRes_set | fail_if_no_progress (with_reducible apply kept_mk) | (with_reducible refine kept_of_eq (by with_reducible assumption) ?_) | intro _ _ | split | dsimp only

theorem kept_execXchUnload (q : Requester) (s : State) : ∃ r, execXchUnload q s = .next r ∧ Kept s r := by
  unfold execXchUnload
  refine ⟨_, rfl, ?_⟩
  have h := Kept.refl s
  repeat' first | with_reducible assumption | with_reducible apply kept_ite | with_reducible apply kept_ite1 | with_reducible apply kept_ite2 | (with_reducible refine kept_forAll (fun _ _ _ => ?_) ?_) | (with_reducible refine kept_foldl (fun _ _ _ => ?_) ?_) | (with_reducible refine kept_foldl1 (fun _ _ _ => ?_) ?_) | with_reducible apply kept_writeCommand | with_reducible apply kept_gated | with_reducible apply kept_endCommand | with_reducible apply kept_twnCommand | with_reducible apply kept_cruStart | with_reducible apply kept_cryGo | with_reducible apply kept_wr | with_reducible apply kept_updCommand | with_reducible apply keptRes_set | fail_if_no_progress (with_reducible apply kept_mk) | (with_reducible refine kept_of_eq (by with_reducible assumption) ?_) | intro _ _ | split | dsimp only

theorem kept_execBankSwapRequest (q : Requester) (n : Fin 512) (s : State) : ∃ r, execBankSwapRequest q n s = .next r ∧ Kept s r := by
  unfold execBankSwapRequest
  refine ⟨_, rfl, ?_⟩
  have h := Kept.refl s
  repeat' first | with_reducible assumption | with_reducible apply kept_ite | with_reducible apply kept_ite1 | with_reducible apply kept_ite2 | (with_reducible refine kept_forAll (fun _ _ _ => ?_) ?_) | (with_reducible refine kept_foldl (fun _ _ _ => ?_) ?_) | (with_reducible refine kept_foldl1 (fun _ _ _ => ?_) ?_) | with_reducible apply kept_selectedWrite | with_reducible apply kept_gated | with_reducible apply kept_endCommand | with_reducible apply kept_twnCommand | with_reducible apply kept_cruStart | with_reducible apply kept_cryGo | with_reducible apply kept_wr | with_reducible apply kept_updCommand | with_reducible apply keptRes_set | fail_if_no_progress (with_reducible apply kept_mk) | (with_reducible refine kept_of_eq (by with_reducible assumption) ?_) | intro _ _ | split | dsimp only

theorem kept_execGroupSwap (q : Requester) (groups : BitVec 16) (s : State) : ∃ r, execGroupSwap q groups s = .next r ∧ Kept s r := by
  unfold execGroupSwap
  refine ⟨_, rfl, ?_⟩
  have h := Kept.refl s
  repeat' first | with_reducible assumption | with_reducible apply kept_ite | with_reducible apply kept_ite1 | with_reducible apply kept_ite2 | (with_reducible refine kept_forAll (fun _ _ _ => ?_) ?_) | (with_reducible refine kept_foldl (fun _ _ _ => ?_) ?_) | (with_reducible refine kept_foldl1 (fun _ _ _ => ?_) ?_) | with_reducible apply kept_writeCommand | with_reducible apply kept_gated | with_reducible apply kept_endCommand | with_reducible apply kept_twnCommand | with_reducible apply kept_cruStart | with_reducible apply kept_cryGo | with_reducible apply kept_wr | with_reducible apply kept_updCommand | with_reducible apply keptRes_set | fail_if_no_progress (with_reducible apply kept_mk) | (with_reducible refine kept_of_eq (by with_reducible assumption) ?_) | intro _ _ | split | dsimp only

theorem kept_execCircuitZero (q : Requester) (c : Fin 48) (s : State) : ∃ r, execCircuitZero q c s = .next r ∧ Kept s r := by
  unfold execCircuitZero
  refine ⟨_, rfl, ?_⟩
  have h := Kept.refl s
  repeat' first | with_reducible assumption | with_reducible apply kept_ite | with_reducible apply kept_ite1 | with_reducible apply kept_ite2 | (with_reducible refine kept_forAll (fun _ _ _ => ?_) ?_) | (with_reducible refine kept_foldl (fun _ _ _ => ?_) ?_) | (with_reducible refine kept_foldl1 (fun _ _ _ => ?_) ?_) | with_reducible apply kept_selectedWrite | with_reducible apply kept_gated | with_reducible apply kept_endCommand | with_reducible apply kept_twnCommand | with_reducible apply kept_cruStart | with_reducible apply kept_cryGo | with_reducible apply kept_wr | with_reducible apply kept_updCommand | with_reducible apply keptRes_set | fail_if_no_progress (with_reducible apply kept_mk) | (with_reducible refine kept_of_eq (by with_reducible assumption) ?_) | intro _ _ | split | dsimp only

theorem kept_execCircuitClrMax (q : Requester) (c : Fin 48) (s : State) : ∃ r, execCircuitClrMax q c s = .next r ∧ Kept s r := by
  unfold execCircuitClrMax
  refine ⟨_, rfl, ?_⟩
  have h := Kept.refl s
  repeat' first | with_reducible assumption | with_reducible apply kept_ite | with_reducible apply kept_ite1 | with_reducible apply kept_ite2 | (with_reducible refine kept_forAll (fun _ _ _ => ?_) ?_) | (with_reducible refine kept_foldl (fun _ _ _ => ?_) ?_) | (with_reducible refine kept_foldl1 (fun _ _ _ => ?_) ?_) | with_reducible apply kept_selectedWrite | with_reducible apply kept_gated | with_reducible apply kept_endCommand | with_reducible apply kept_twnCommand | with_reducible apply kept_cruStart | with_reducible apply kept_cryGo | with_reducible apply kept_wr | with_reducible apply kept_updCommand | with_reducible apply keptRes_set | fail_if_no_progress (with_reducible apply kept_mk) | (with_reducible refine kept_of_eq (by with_reducible assumption) ?_) | intro _ _ | split | dsimp only

theorem kept_execTickBoundary  (s : State) : ∃ r, execTickBoundary s = .next r ∧ Kept s r := by
  unfold execTickBoundary
  refine ⟨_, rfl, ?_⟩
  have h := Kept.refl s
  repeat' first | with_reducible assumption | with_reducible apply kept_ite | with_reducible apply kept_ite1 | with_reducible apply kept_ite2 | (with_reducible refine kept_forAll (fun _ _ _ => ?_) ?_) | (with_reducible refine kept_foldl (fun _ _ _ => ?_) ?_) | (with_reducible refine kept_foldl1 (fun _ _ _ => ?_) ?_) | with_reducible apply kept_tickBoundary | with_reducible apply kept_gated | with_reducible apply kept_endCommand | with_reducible apply kept_twnCommand | with_reducible apply kept_cruStart | with_reducible apply kept_cryGo | with_reducible apply kept_wr | with_reducible apply kept_updCommand | with_reducible apply keptRes_set | fail_if_no_progress (with_reducible apply kept_mk) | (with_reducible refine kept_of_eq (by with_reducible assumption) ?_) | intro _ _ | split | dsimp only

theorem kept_execGridPoint  (s : State) : ∃ r, execGridPoint s = .next r ∧ Kept s r := by
  unfold execGridPoint
  refine ⟨_, rfl, ?_⟩
  have h := Kept.refl s
  repeat' first | with_reducible assumption | with_reducible apply kept_ite | with_reducible apply kept_ite1 | with_reducible apply kept_ite2 | (with_reducible refine kept_forAll (fun _ _ _ => ?_) ?_) | (with_reducible refine kept_foldl (fun _ _ _ => ?_) ?_) | (with_reducible refine kept_foldl1 (fun _ _ _ => ?_) ?_) | with_reducible apply kept_gridPoint | with_reducible apply kept_gated | with_reducible apply kept_endCommand | with_reducible apply kept_twnCommand | with_reducible apply kept_cruStart | with_reducible apply kept_cryGo | with_reducible apply kept_wr | with_reducible apply kept_updCommand | with_reducible apply keptRes_set | fail_if_no_progress (with_reducible apply kept_mk) | (with_reducible refine kept_of_eq (by with_reducible assumption) ?_) | intro _ _ | split | dsimp only

theorem kept_execEventIntervalExpiry (t : Fin 64) (s : State) : ∃ r, execEventIntervalExpiry t s = .next r ∧ Kept s r := by
  unfold execEventIntervalExpiry
  refine ⟨_, rfl, ?_⟩
  have h := Kept.refl s
  repeat' first | with_reducible assumption | with_reducible apply kept_ite | with_reducible apply kept_ite1 | with_reducible apply kept_ite2 | (with_reducible refine kept_forAll (fun _ _ _ => ?_) ?_) | (with_reducible refine kept_foldl (fun _ _ _ => ?_) ?_) | (with_reducible refine kept_foldl1 (fun _ _ _ => ?_) ?_) | with_reducible apply kept_intervalExpiry | with_reducible apply kept_gated | with_reducible apply kept_endCommand | with_reducible apply kept_twnCommand | with_reducible apply kept_cruStart | with_reducible apply kept_cryGo | with_reducible apply kept_wr | with_reducible apply kept_updCommand | with_reducible apply keptRes_set | fail_if_no_progress (with_reducible apply kept_mk) | (with_reducible refine kept_of_eq (by with_reducible assumption) ?_) | intro _ _ | split | dsimp only

theorem kept_execErrorTaskRelease (t : Fin 64) (s : State) : ∃ r, execErrorTaskRelease t s = .next r ∧ Kept s r := by
  unfold execErrorTaskRelease
  refine ⟨_, rfl, ?_⟩
  have h := Kept.refl s
  repeat' first | with_reducible assumption | with_reducible apply kept_ite | with_reducible apply kept_ite1 | with_reducible apply kept_ite2 | (with_reducible refine kept_forAll (fun _ _ _ => ?_) ?_) | (with_reducible refine kept_foldl (fun _ _ _ => ?_) ?_) | (with_reducible refine kept_foldl1 (fun _ _ _ => ?_) ?_) | with_reducible apply kept_errorRelease | with_reducible apply kept_gated | with_reducible apply kept_endCommand | with_reducible apply kept_twnCommand | with_reducible apply kept_cruStart | with_reducible apply kept_cryGo | with_reducible apply kept_wr | with_reducible apply kept_updCommand | with_reducible apply keptRes_set | fail_if_no_progress (with_reducible apply kept_mk) | (with_reducible refine kept_of_eq (by with_reducible assumption) ?_) | intro _ _ | split | dsimp only

theorem kept_execTaskDispatch (c : Fin 8) (s : State) : ∃ r, execTaskDispatch c s = .next r ∧ Kept s r := by
  unfold execTaskDispatch
  refine ⟨_, rfl, ?_⟩
  have h := Kept.refl s
  repeat' first | with_reducible assumption | with_reducible apply kept_ite | with_reducible apply kept_ite1 | with_reducible apply kept_ite2 | (with_reducible refine kept_forAll (fun _ _ _ => ?_) ?_) | (with_reducible refine kept_foldl (fun _ _ _ => ?_) ?_) | (with_reducible refine kept_foldl1 (fun _ _ _ => ?_) ?_) | with_reducible apply kept_dispatchCore | with_reducible apply kept_gated | with_reducible apply kept_endCommand | with_reducible apply kept_twnCommand | with_reducible apply kept_cruStart | with_reducible apply kept_cryGo | with_reducible apply kept_wr | with_reducible apply kept_updCommand | with_reducible apply keptRes_set | fail_if_no_progress (with_reducible apply kept_mk) | (with_reducible refine kept_of_eq (by with_reducible assumption) ?_) | intro _ _ | split | dsimp only

theorem kept_execRunResume (c : Fin 8) (s : State) : ∃ r, execRunResume c s = .next r ∧ Kept s r := by
  unfold execRunResume
  refine ⟨_, rfl, ?_⟩
  have h := Kept.refl s
  repeat' first | with_reducible assumption | with_reducible apply kept_ite | with_reducible apply kept_ite1 | with_reducible apply kept_ite2 | (with_reducible refine kept_forAll (fun _ _ _ => ?_) ?_) | (with_reducible refine kept_foldl (fun _ _ _ => ?_) ?_) | (with_reducible refine kept_foldl1 (fun _ _ _ => ?_) ?_) | with_reducible apply kept_resumeCore | with_reducible apply kept_gated | with_reducible apply kept_endCommand | with_reducible apply kept_twnCommand | with_reducible apply kept_cruStart | with_reducible apply kept_cryGo | with_reducible apply kept_wr | with_reducible apply kept_updCommand | with_reducible apply keptRes_set | fail_if_no_progress (with_reducible apply kept_mk) | (with_reducible refine kept_of_eq (by with_reducible assumption) ?_) | intro _ _ | split | dsimp only

theorem kept_execInputLatch (t : Fin 64) (waitNs : Nat) (s : State) : ∃ r, execInputLatch t waitNs s = .next r ∧ Kept s r := by
  unfold execInputLatch
  refine ⟨_, rfl, ?_⟩
  have h := Kept.refl s
  repeat' first | with_reducible assumption | with_reducible apply kept_ite | with_reducible apply kept_ite1 | with_reducible apply kept_ite2 | (with_reducible refine kept_forAll (fun _ _ _ => ?_) ?_) | (with_reducible refine kept_foldl (fun _ _ _ => ?_) ?_) | (with_reducible refine kept_foldl1 (fun _ _ _ => ?_) ?_) | with_reducible apply kept_latchRun | with_reducible apply kept_gated | with_reducible apply kept_endCommand | with_reducible apply kept_twnCommand | with_reducible apply kept_cruStart | with_reducible apply kept_cryGo | with_reducible apply kept_wr | with_reducible apply kept_updCommand | with_reducible apply keptRes_set | fail_if_no_progress (with_reducible apply kept_mk) | (with_reducible refine kept_of_eq (by with_reducible assumption) ?_) | intro _ _ | split | dsimp only

theorem kept_execOutputWriteBack (t : Fin 64) (waitNs : Nat) (s : State) : ∃ r, execOutputWriteBack t waitNs s = .next r ∧ Kept s r := by
  unfold execOutputWriteBack
  refine ⟨_, rfl, ?_⟩
  have h := Kept.refl s
  repeat' first | with_reducible assumption | with_reducible apply kept_ite | with_reducible apply kept_ite1 | with_reducible apply kept_ite2 | (with_reducible refine kept_forAll (fun _ _ _ => ?_) ?_) | (with_reducible refine kept_foldl (fun _ _ _ => ?_) ?_) | (with_reducible refine kept_foldl1 (fun _ _ _ => ?_) ?_) | with_reducible apply kept_writeBackRun | with_reducible apply kept_gated | with_reducible apply kept_endCommand | with_reducible apply kept_twnCommand | with_reducible apply kept_cruStart | with_reducible apply kept_cryGo | with_reducible apply kept_wr | with_reducible apply kept_updCommand | with_reducible apply keptRes_set | fail_if_no_progress (with_reducible apply kept_mk) | (with_reducible refine kept_of_eq (by with_reducible assumption) ?_) | intro _ _ | split | dsimp only

theorem kept_execRetentionCopy (t : Fin 64) (s : State) : ∃ r, execRetentionCopy t s = .next r ∧ Kept s r := by
  unfold execRetentionCopy
  refine ⟨_, rfl, ?_⟩
  have h := Kept.refl s
  repeat' first | with_reducible assumption | with_reducible apply kept_ite | with_reducible apply kept_ite1 | with_reducible apply kept_ite2 | (with_reducible refine kept_forAll (fun _ _ _ => ?_) ?_) | (with_reducible refine kept_foldl (fun _ _ _ => ?_) ?_) | (with_reducible refine kept_foldl1 (fun _ _ _ => ?_) ?_) | with_reducible apply kept_retentionRun | with_reducible apply kept_gated | with_reducible apply kept_endCommand | with_reducible apply kept_twnCommand | with_reducible apply kept_cruStart | with_reducible apply kept_cryGo | with_reducible apply kept_wr | with_reducible apply kept_updCommand | with_reducible apply keptRes_set | fail_if_no_progress (with_reducible apply kept_mk) | (with_reducible refine kept_of_eq (by with_reducible assumption) ?_) | intro _ _ | split | dsimp only

theorem kept_execWatchdogExpiry (t : Fin 64) (s : State) : ∃ r, execWatchdogExpiry t s = .next r ∧ Kept s r := by
  unfold execWatchdogExpiry
  refine ⟨_, rfl, ?_⟩
  have h := Kept.refl s
  repeat' first | with_reducible assumption | with_reducible apply kept_ite | with_reducible apply kept_ite1 | with_reducible apply kept_ite2 | (with_reducible refine kept_forAll (fun _ _ _ => ?_) ?_) | (with_reducible refine kept_foldl (fun _ _ _ => ?_) ?_) | (with_reducible refine kept_foldl1 (fun _ _ _ => ?_) ?_) | with_reducible apply kept_watchdogCut | with_reducible apply kept_gated | with_reducible apply kept_endCommand | with_reducible apply kept_twnCommand | with_reducible apply kept_cruStart | with_reducible apply kept_cryGo | with_reducible apply kept_wr | with_reducible apply kept_updCommand | with_reducible apply keptRes_set | fail_if_no_progress (with_reducible apply kept_mk) | (with_reducible refine kept_of_eq (by with_reducible assumption) ?_) | intro _ _ | split | dsimp only

theorem kept_execRetentionBatchDrain (ok : Bool) (failAt : Word) (s : State) : ∃ r, execRetentionBatchDrain ok failAt s = .next r ∧ Kept s r := by
  unfold execRetentionBatchDrain
  refine ⟨_, rfl, ?_⟩
  have h := Kept.refl s
  repeat' first | with_reducible assumption | with_reducible apply kept_ite | with_reducible apply kept_ite1 | with_reducible apply kept_ite2 | (with_reducible refine kept_forAll (fun _ _ _ => ?_) ?_) | (with_reducible refine kept_foldl (fun _ _ _ => ?_) ?_) | (with_reducible refine kept_foldl1 (fun _ _ _ => ?_) ?_) | with_reducible apply kept_drainBatch | with_reducible apply kept_gated | with_reducible apply kept_endCommand | with_reducible apply kept_twnCommand | with_reducible apply kept_cruStart | with_reducible apply kept_cryGo | with_reducible apply kept_wr | with_reducible apply kept_updCommand | with_reducible apply keptRes_set | fail_if_no_progress (with_reducible apply kept_mk) | (with_reducible refine kept_of_eq (by with_reducible assumption) ?_) | intro _ _ | split | dsimp only

theorem kept_execPfwAssert  (s : State) : ∃ r, execPfwAssert s = .next r ∧ Kept s r := by
  unfold execPfwAssert
  refine ⟨_, rfl, ?_⟩
  have h := Kept.refl s
  repeat' first | with_reducible assumption | with_reducible apply kept_ite | with_reducible apply kept_ite1 | with_reducible apply kept_ite2 | (with_reducible refine kept_forAll (fun _ _ _ => ?_) ?_) | (with_reducible refine kept_foldl (fun _ _ _ => ?_) ?_) | (with_reducible refine kept_foldl1 (fun _ _ _ => ?_) ?_) | with_reducible apply kept_pfwAsserts | with_reducible apply kept_gated | with_reducible apply kept_endCommand | with_reducible apply kept_twnCommand | with_reducible apply kept_cruStart | with_reducible apply kept_cryGo | with_reducible apply kept_wr | with_reducible apply kept_updCommand | with_reducible apply keptRes_set | fail_if_no_progress (with_reducible apply kept_mk) | (with_reducible refine kept_of_eq (by with_reducible assumption) ?_) | intro _ _ | split | dsimp only

theorem kept_execPowerFailSaveComplete (drainUs : Nat) (s : State) : ∃ r, execPowerFailSaveComplete drainUs s = .next r ∧ Kept s r := by
  unfold execPowerFailSaveComplete
  refine ⟨_, rfl, ?_⟩
  have h := Kept.refl s
  repeat' first | with_reducible assumption | with_reducible apply kept_ite | with_reducible apply kept_ite1 | with_reducible apply kept_ite2 | (with_reducible refine kept_forAll (fun _ _ _ => ?_) ?_) | (with_reducible refine kept_foldl (fun _ _ _ => ?_) ?_) | (with_reducible refine kept_foldl1 (fun _ _ _ => ?_) ?_) | with_reducible apply kept_saveCompletes | with_reducible apply kept_gated | with_reducible apply kept_endCommand | with_reducible apply kept_twnCommand | with_reducible apply kept_cruStart | with_reducible apply kept_cryGo | with_reducible apply kept_wr | with_reducible apply kept_updCommand | with_reducible apply keptRes_set | fail_if_no_progress (with_reducible apply kept_mk) | (with_reducible refine kept_of_eq (by with_reducible assumption) ?_) | intro _ _ | split | dsimp only

theorem kept_execPfwDeassertReset  (s : State) : ∃ r, execPfwDeassertReset s = .next r ∧ Kept s r := by
  unfold execPfwDeassertReset
  refine ⟨_, rfl, ?_⟩
  have h := Kept.refl s
  repeat' first | with_reducible assumption | with_reducible apply kept_ite | with_reducible apply kept_ite1 | with_reducible apply kept_ite2 | (with_reducible refine kept_forAll (fun _ _ _ => ?_) ?_) | (with_reducible refine kept_foldl (fun _ _ _ => ?_) ?_) | (with_reducible refine kept_foldl1 (fun _ _ _ => ?_) ?_) | with_reducible apply kept_pfwReset | with_reducible apply kept_gated | with_reducible apply kept_endCommand | with_reducible apply kept_twnCommand | with_reducible apply kept_cruStart | with_reducible apply kept_cryGo | with_reducible apply kept_wr | with_reducible apply kept_updCommand | with_reducible apply keptRes_set | fail_if_no_progress (with_reducible apply kept_mk) | (with_reducible refine kept_of_eq (by with_reducible assumption) ?_) | intro _ _ | split | dsimp only

theorem kept_execStageComplete (codeAt : Word) (dataAt : Word) (s : State) : ∃ r, execStageComplete codeAt dataAt s = .next r ∧ Kept s r := by
  unfold execStageComplete
  refine ⟨_, rfl, ?_⟩
  have h := Kept.refl s
  repeat' first | with_reducible assumption | with_reducible apply kept_ite | with_reducible apply kept_ite1 | with_reducible apply kept_ite2 | (with_reducible refine kept_forAll (fun _ _ _ => ?_) ?_) | (with_reducible refine kept_foldl (fun _ _ _ => ?_) ?_) | (with_reducible refine kept_foldl1 (fun _ _ _ => ?_) ?_) | with_reducible apply kept_stageComplete | with_reducible apply kept_gated | with_reducible apply kept_endCommand | with_reducible apply kept_twnCommand | with_reducible apply kept_cruStart | with_reducible apply kept_cryGo | with_reducible apply kept_wr | with_reducible apply kept_updCommand | with_reducible apply keptRes_set | fail_if_no_progress (with_reducible apply kept_mk) | (with_reducible refine kept_of_eq (by with_reducible assumption) ?_) | intro _ _ | split | dsimp only

theorem kept_execExchangeTick (peer : Bool) (s : State) : ∃ r, execExchangeTick peer s = .next r ∧ Kept s r := by
  unfold execExchangeTick
  refine ⟨_, rfl, ?_⟩
  have h := Kept.refl s
  repeat' first | with_reducible assumption | with_reducible apply kept_ite | with_reducible apply kept_ite1 | with_reducible apply kept_ite2 | (with_reducible refine kept_forAll (fun _ _ _ => ?_) ?_) | (with_reducible refine kept_foldl (fun _ _ _ => ?_) ?_) | (with_reducible refine kept_foldl1 (fun _ _ _ => ?_) ?_) | with_reducible apply kept_exchangeTick | with_reducible apply kept_gated | with_reducible apply kept_endCommand | with_reducible apply kept_twnCommand | with_reducible apply kept_cruStart | with_reducible apply kept_cryGo | with_reducible apply kept_wr | with_reducible apply kept_updCommand | with_reducible apply keptRes_set | fail_if_no_progress (with_reducible apply kept_mk) | (with_reducible refine kept_of_eq (by with_reducible assumption) ?_) | intro _ _ | split | dsimp only

theorem kept_execExchangeTimeout  (s : State) : ∃ r, execExchangeTimeout s = .next r ∧ Kept s r := by
  unfold execExchangeTimeout
  refine ⟨_, rfl, ?_⟩
  have h := Kept.refl s
  repeat' first | with_reducible assumption | with_reducible apply kept_ite | with_reducible apply kept_ite1 | with_reducible apply kept_ite2 | (with_reducible refine kept_forAll (fun _ _ _ => ?_) ?_) | (with_reducible refine kept_foldl (fun _ _ _ => ?_) ?_) | (with_reducible refine kept_foldl1 (fun _ _ _ => ?_) ?_) | with_reducible apply kept_exchangeTimeout | with_reducible apply kept_gated | with_reducible apply kept_endCommand | with_reducible apply kept_twnCommand | with_reducible apply kept_cruStart | with_reducible apply kept_cryGo | with_reducible apply kept_wr | with_reducible apply kept_updCommand | with_reducible apply keptRes_set | fail_if_no_progress (with_reducible apply kept_mk) | (with_reducible refine kept_of_eq (by with_reducible assumption) ?_) | intro _ _ | split | dsimp only

theorem kept_execExchangeSwitch (migNs : Nat) (s : State) : ∃ r, execExchangeSwitch migNs s = .next r ∧ Kept s r := by
  unfold execExchangeSwitch
  refine ⟨_, rfl, ?_⟩
  have h := Kept.refl s
  repeat' first | with_reducible assumption | with_reducible apply kept_ite | with_reducible apply kept_ite1 | with_reducible apply kept_ite2 | (with_reducible refine kept_forAll (fun _ _ _ => ?_) ?_) | (with_reducible refine kept_foldl (fun _ _ _ => ?_) ?_) | (with_reducible refine kept_foldl1 (fun _ _ _ => ?_) ?_) | with_reducible apply kept_exchangeSwitch | with_reducible apply kept_gated | with_reducible apply kept_endCommand | with_reducible apply kept_twnCommand | with_reducible apply kept_cruStart | with_reducible apply kept_cryGo | with_reducible apply kept_wr | with_reducible apply kept_updCommand | with_reducible apply keptRes_set | fail_if_no_progress (with_reducible apply kept_mk) | (with_reducible refine kept_of_eq (by with_reducible assumption) ?_) | intro _ _ | split | dsimp only

theorem kept_execExchangeReport  (s : State) : ∃ r, execExchangeReport s = .next r ∧ Kept s r := by
  unfold execExchangeReport
  refine ⟨_, rfl, ?_⟩
  have h := Kept.refl s
  repeat' first | with_reducible assumption | with_reducible apply kept_ite | with_reducible apply kept_ite1 | with_reducible apply kept_ite2 | (with_reducible refine kept_forAll (fun _ _ _ => ?_) ?_) | (with_reducible refine kept_foldl (fun _ _ _ => ?_) ?_) | (with_reducible refine kept_foldl1 (fun _ _ _ => ?_) ?_) | with_reducible apply kept_exchangeReport | with_reducible apply kept_gated | with_reducible apply kept_endCommand | with_reducible apply kept_twnCommand | with_reducible apply kept_cruStart | with_reducible apply kept_cryGo | with_reducible apply kept_wr | with_reducible apply kept_updCommand | with_reducible apply keptRes_set | fail_if_no_progress (with_reducible apply kept_mk) | (with_reducible refine kept_of_eq (by with_reducible assumption) ?_) | intro _ _ | split | dsimp only

theorem kept_execGenerationApplied (f : Fin 32) (s : State) : ∃ r, execGenerationApplied f s = .next r ∧ Kept s r := by
  unfold execGenerationApplied
  refine ⟨_, rfl, ?_⟩
  have h := Kept.refl s
  repeat' first | with_reducible assumption | with_reducible apply kept_ite | with_reducible apply kept_ite1 | with_reducible apply kept_ite2 | (with_reducible refine kept_forAll (fun _ _ _ => ?_) ?_) | (with_reducible refine kept_foldl (fun _ _ _ => ?_) ?_) | (with_reducible refine kept_foldl1 (fun _ _ _ => ?_) ?_) | with_reducible apply kept_applyGeneration | with_reducible apply kept_gated | with_reducible apply kept_endCommand | with_reducible apply kept_twnCommand | with_reducible apply kept_cruStart | with_reducible apply kept_cryGo | with_reducible apply kept_wr | with_reducible apply kept_updCommand | with_reducible apply keptRes_set | fail_if_no_progress (with_reducible apply kept_mk) | (with_reducible refine kept_of_eq (by with_reducible assumption) ?_) | intro _ _ | split | dsimp only

theorem kept_execMeteringSample (x : MeterSample) (s : State) : ∃ r, execMeteringSample x s = .next r ∧ Kept s r := by
  unfold execMeteringSample
  refine ⟨_, rfl, ?_⟩
  have h := Kept.refl s
  repeat' first | with_reducible assumption | with_reducible apply kept_ite | with_reducible apply kept_ite1 | with_reducible apply kept_ite2 | (with_reducible refine kept_forAll (fun _ _ _ => ?_) ?_) | (with_reducible refine kept_foldl (fun _ _ _ => ?_) ?_) | (with_reducible refine kept_foldl1 (fun _ _ _ => ?_) ?_) | with_reducible apply kept_sampleCommand | with_reducible apply kept_gated | with_reducible apply kept_endCommand | with_reducible apply kept_twnCommand | with_reducible apply kept_cruStart | with_reducible apply kept_cryGo | with_reducible apply kept_wr | with_reducible apply kept_updCommand | with_reducible apply keptRes_set | fail_if_no_progress (with_reducible apply kept_mk) | (with_reducible refine kept_of_eq (by with_reducible assumption) ?_) | intro _ _ | split | dsimp only

theorem kept_execZcLost (v : Fin 6) (s : State) : ∃ r, execZcLost v s = .next r ∧ Kept s r := by
  unfold execZcLost
  refine ⟨_, rfl, ?_⟩
  have h := Kept.refl s
  repeat' first | with_reducible assumption | with_reducible apply kept_ite | with_reducible apply kept_ite1 | with_reducible apply kept_ite2 | (with_reducible refine kept_forAll (fun _ _ _ => ?_) ?_) | (with_reducible refine kept_foldl (fun _ _ _ => ?_) ?_) | (with_reducible refine kept_foldl1 (fun _ _ _ => ?_) ?_) | with_reducible apply kept_zcLost | with_reducible apply kept_gated | with_reducible apply kept_endCommand | with_reducible apply kept_twnCommand | with_reducible apply kept_cruStart | with_reducible apply kept_cryGo | with_reducible apply kept_wr | with_reducible apply kept_updCommand | with_reducible apply keptRes_set | fail_if_no_progress (with_reducible apply kept_mk) | (with_reducible refine kept_of_eq (by with_reducible assumption) ?_) | intro _ _ | split | dsimp only

theorem kept_execFixedWindowEnd  (s : State) : ∃ r, execFixedWindowEnd s = .next r ∧ Kept s r := by
  unfold execFixedWindowEnd
  refine ⟨_, rfl, ?_⟩
  have h := Kept.refl s
  repeat' first | with_reducible assumption | with_reducible apply kept_ite | with_reducible apply kept_ite1 | with_reducible apply kept_ite2 | (with_reducible refine kept_forAll (fun _ _ _ => ?_) ?_) | (with_reducible refine kept_foldl (fun _ _ _ => ?_) ?_) | (with_reducible refine kept_foldl1 (fun _ _ _ => ?_) ?_) | with_reducible apply kept_fixedWindowEnd | with_reducible apply kept_gated | with_reducible apply kept_endCommand | with_reducible apply kept_twnCommand | with_reducible apply kept_cruStart | with_reducible apply kept_cryGo | with_reducible apply kept_wr | with_reducible apply kept_updCommand | with_reducible apply keptRes_set | fail_if_no_progress (with_reducible apply kept_mk) | (with_reducible refine kept_of_eq (by with_reducible assumption) ?_) | intro _ _ | split | dsimp only

theorem kept_execIntervalBoundary  (s : State) : ∃ r, execIntervalBoundary s = .next r ∧ Kept s r := by
  unfold execIntervalBoundary
  refine ⟨_, rfl, ?_⟩
  have h := Kept.refl s
  repeat' first | with_reducible assumption | with_reducible apply kept_ite | with_reducible apply kept_ite1 | with_reducible apply kept_ite2 | (with_reducible refine kept_forAll (fun _ _ _ => ?_) ?_) | (with_reducible refine kept_foldl (fun _ _ _ => ?_) ?_) | (with_reducible refine kept_foldl1 (fun _ _ _ => ?_) ?_) | with_reducible apply kept_intervalBoundary | with_reducible apply kept_gated | with_reducible apply kept_endCommand | with_reducible apply kept_twnCommand | with_reducible apply kept_cruStart | with_reducible apply kept_cryGo | with_reducible apply kept_wr | with_reducible apply kept_updCommand | with_reducible apply keptRes_set | fail_if_no_progress (with_reducible apply kept_mk) | (with_reducible refine kept_of_eq (by with_reducible assumption) ?_) | intro _ _ | split | dsimp only

theorem kept_execCalibrationWindowEnd (targets : List Int) (s : State) : ∃ r, execCalibrationWindowEnd targets s = .next r ∧ Kept s r := by
  unfold execCalibrationWindowEnd
  refine ⟨_, rfl, ?_⟩
  have h := Kept.refl s
  repeat' first | with_reducible assumption | with_reducible apply kept_ite | with_reducible apply kept_ite1 | with_reducible apply kept_ite2 | (with_reducible refine kept_forAll (fun _ _ _ => ?_) ?_) | (with_reducible refine kept_foldl (fun _ _ _ => ?_) ?_) | (with_reducible refine kept_foldl1 (fun _ _ _ => ?_) ?_) | with_reducible apply kept_calibrationWindowEnd | with_reducible apply kept_gated | with_reducible apply kept_endCommand | with_reducible apply kept_twnCommand | with_reducible apply kept_cruStart | with_reducible apply kept_cryGo | with_reducible apply kept_wr | with_reducible apply kept_updCommand | with_reducible apply keptRes_set | fail_if_no_progress (with_reducible apply kept_mk) | (with_reducible refine kept_of_eq (by with_reducible assumption) ?_) | intro _ _ | split | dsimp only

theorem kept_execCorrectionStep  (s : State) : ∃ r, execCorrectionStep s = .next r ∧ Kept s r := by
  unfold execCorrectionStep
  refine ⟨_, rfl, ?_⟩
  have h := Kept.refl s
  repeat' first | with_reducible assumption | with_reducible apply kept_ite | with_reducible apply kept_ite1 | with_reducible apply kept_ite2 | (with_reducible refine kept_forAll (fun _ _ _ => ?_) ?_) | (with_reducible refine kept_foldl (fun _ _ _ => ?_) ?_) | (with_reducible refine kept_foldl1 (fun _ _ _ => ?_) ?_) | with_reducible apply kept_correctionStep | with_reducible apply kept_gated | with_reducible apply kept_endCommand | with_reducible apply kept_twnCommand | with_reducible apply kept_cruStart | with_reducible apply kept_cryGo | with_reducible apply kept_wr | with_reducible apply kept_updCommand | with_reducible apply keptRes_set | fail_if_no_progress (with_reducible apply kept_mk) | (with_reducible refine kept_of_eq (by with_reducible assumption) ?_) | intro _ _ | split | dsimp only

theorem kept_execMeteringRecordSave  (s : State) : ∃ r, execMeteringRecordSave s = .next r ∧ Kept s r := by
  unfold execMeteringRecordSave
  refine ⟨_, rfl, ?_⟩
  have h := Kept.refl s
  repeat' first | with_reducible assumption | with_reducible apply kept_ite | with_reducible apply kept_ite1 | with_reducible apply kept_ite2 | (with_reducible refine kept_forAll (fun _ _ _ => ?_) ?_) | (with_reducible refine kept_foldl (fun _ _ _ => ?_) ?_) | (with_reducible refine kept_foldl1 (fun _ _ _ => ?_) ?_) | with_reducible apply kept_saveRecord | with_reducible apply kept_gated | with_reducible apply kept_endCommand | with_reducible apply kept_twnCommand | with_reducible apply kept_cruStart | with_reducible apply kept_cryGo | with_reducible apply kept_wr | with_reducible apply kept_updCommand | with_reducible apply keptRes_set | fail_if_no_progress (with_reducible apply kept_mk) | (with_reducible refine kept_of_eq (by with_reducible assumption) ?_) | intro _ _ | split | dsimp only

theorem kept_execNrapExecute  (s : State) : ∃ r, execNrapExecute s = .next r ∧ Kept s r := by
  unfold execNrapExecute
  refine ⟨_, rfl, ?_⟩
  have h := Kept.refl s
  repeat' first | with_reducible assumption | with_reducible apply kept_ite | with_reducible apply kept_ite1 | with_reducible apply kept_ite2 | (with_reducible refine kept_forAll (fun _ _ _ => ?_) ?_) | (with_reducible refine kept_foldl (fun _ _ _ => ?_) ?_) | (with_reducible refine kept_foldl1 (fun _ _ _ => ?_) ?_) | with_reducible apply kept_nrapExecute | with_reducible apply kept_gated | with_reducible apply kept_endCommand | with_reducible apply kept_twnCommand | with_reducible apply kept_cruStart | with_reducible apply kept_cryGo | with_reducible apply kept_wr | with_reducible apply kept_updCommand | with_reducible apply keptRes_set | fail_if_no_progress (with_reducible apply kept_mk) | (with_reducible refine kept_of_eq (by with_reducible assumption) ?_) | intro _ _ | split | dsimp only

theorem kept_execNrapNotify (b : Fin 64) (s : State) : ∃ r, execNrapNotify b s = .next r ∧ Kept s r := by
  unfold execNrapNotify
  refine ⟨_, rfl, ?_⟩
  have h := Kept.refl s
  repeat' first | with_reducible assumption | with_reducible apply kept_ite | with_reducible apply kept_ite1 | with_reducible apply kept_ite2 | (with_reducible refine kept_forAll (fun _ _ _ => ?_) ?_) | (with_reducible refine kept_foldl (fun _ _ _ => ?_) ?_) | (with_reducible refine kept_foldl1 (fun _ _ _ => ?_) ?_) | with_reducible apply kept_nrapNotify | with_reducible apply kept_gated | with_reducible apply kept_endCommand | with_reducible apply kept_twnCommand | with_reducible apply kept_cruStart | with_reducible apply kept_cryGo | with_reducible apply kept_wr | with_reducible apply kept_updCommand | with_reducible apply keptRes_set | fail_if_no_progress (with_reducible apply kept_mk) | (with_reducible refine kept_of_eq (by with_reducible assumption) ?_) | intro _ _ | split | dsimp only

theorem kept_execPointStreamReceived (x : StreamRec) (s : State) : ∃ r, execPointStreamReceived x s = .next r ∧ Kept s r := by
  unfold execPointStreamReceived
  refine ⟨_, rfl, ?_⟩
  have h := Kept.refl s
  repeat' first | with_reducible assumption | with_reducible apply kept_ite | with_reducible apply kept_ite1 | with_reducible apply kept_ite2 | (with_reducible refine kept_forAll (fun _ _ _ => ?_) ?_) | (with_reducible refine kept_foldl (fun _ _ _ => ?_) ?_) | (with_reducible refine kept_foldl1 (fun _ _ _ => ?_) ?_) | with_reducible apply kept_streamReceived | with_reducible apply kept_gated | with_reducible apply kept_endCommand | with_reducible apply kept_twnCommand | with_reducible apply kept_cruStart | with_reducible apply kept_cryGo | with_reducible apply kept_wr | with_reducible apply kept_updCommand | with_reducible apply keptRes_set | fail_if_no_progress (with_reducible apply kept_mk) | (with_reducible refine kept_of_eq (by with_reducible assumption) ?_) | intro _ _ | split | dsimp only

theorem kept_execMirrorFrameCut  (s : State) : ∃ r, execMirrorFrameCut s = .next r ∧ Kept s r := by
  unfold execMirrorFrameCut
  refine ⟨_, rfl, ?_⟩
  have h := Kept.refl s
  repeat' first | with_reducible assumption | with_reducible apply kept_ite | with_reducible apply kept_ite1 | with_reducible apply kept_ite2 | (with_reducible refine kept_forAll (fun _ _ _ => ?_) ?_) | (with_reducible refine kept_foldl (fun _ _ _ => ?_) ?_) | (with_reducible refine kept_foldl1 (fun _ _ _ => ?_) ?_) | with_reducible apply kept_mirrorCut | with_reducible apply kept_gated | with_reducible apply kept_endCommand | with_reducible apply kept_twnCommand | with_reducible apply kept_cruStart | with_reducible apply kept_cryGo | with_reducible apply kept_wr | with_reducible apply kept_updCommand | with_reducible apply keptRes_set | fail_if_no_progress (with_reducible apply kept_mk) | (with_reducible refine kept_of_eq (by with_reducible assumption) ?_) | intro _ _ | split | dsimp only

theorem kept_execMirrorFrameReceived (x : MirrorFrame) (s : State) : ∃ r, execMirrorFrameReceived x s = .next r ∧ Kept s r := by
  unfold execMirrorFrameReceived
  refine ⟨_, rfl, ?_⟩
  have h := Kept.refl s
  repeat' first | with_reducible assumption | with_reducible apply kept_ite | with_reducible apply kept_ite1 | with_reducible apply kept_ite2 | (with_reducible refine kept_forAll (fun _ _ _ => ?_) ?_) | (with_reducible refine kept_foldl (fun _ _ _ => ?_) ?_) | (with_reducible refine kept_foldl1 (fun _ _ _ => ?_) ?_) | with_reducible apply kept_frameReceived | with_reducible apply kept_gated | with_reducible apply kept_endCommand | with_reducible apply kept_twnCommand | with_reducible apply kept_cruStart | with_reducible apply kept_cryGo | with_reducible apply kept_wr | with_reducible apply kept_updCommand | with_reducible apply keptRes_set | fail_if_no_progress (with_reducible apply kept_mk) | (with_reducible refine kept_of_eq (by with_reducible assumption) ?_) | intro _ _ | split | dsimp only

theorem kept_execBulkStart  (s : State) : ∃ r, execBulkStart s = .next r ∧ Kept s r := by
  unfold execBulkStart
  refine ⟨_, rfl, ?_⟩
  have h := Kept.refl s
  repeat' first | with_reducible assumption | with_reducible apply kept_ite | with_reducible apply kept_ite1 | with_reducible apply kept_ite2 | (with_reducible refine kept_forAll (fun _ _ _ => ?_) ?_) | (with_reducible refine kept_foldl (fun _ _ _ => ?_) ?_) | (with_reducible refine kept_foldl1 (fun _ _ _ => ?_) ?_) | with_reducible apply kept_bulkBegins | with_reducible apply kept_gated | with_reducible apply kept_endCommand | with_reducible apply kept_twnCommand | with_reducible apply kept_cruStart | with_reducible apply kept_cryGo | with_reducible apply kept_wr | with_reducible apply kept_updCommand | with_reducible apply keptRes_set | fail_if_no_progress (with_reducible apply kept_mk) | (with_reducible refine kept_of_eq (by with_reducible assumption) ?_) | intro _ _ | split | dsimp only

theorem kept_execBulkComplete (x : BulkImage) (s : State) : ∃ r, execBulkComplete x s = .next r ∧ Kept s r := by
  unfold execBulkComplete
  refine ⟨_, rfl, ?_⟩
  have h := Kept.refl s
  repeat' first | with_reducible assumption | with_reducible apply kept_ite | with_reducible apply kept_ite1 | with_reducible apply kept_ite2 | (with_reducible refine kept_forAll (fun _ _ _ => ?_) ?_) | (with_reducible refine kept_foldl (fun _ _ _ => ?_) ?_) | (with_reducible refine kept_foldl1 (fun _ _ _ => ?_) ?_) | with_reducible apply kept_bulkEnds | with_reducible apply kept_gated | with_reducible apply kept_endCommand | with_reducible apply kept_twnCommand | with_reducible apply kept_cruStart | with_reducible apply kept_cryGo | with_reducible apply kept_wr | with_reducible apply kept_updCommand | with_reducible apply keptRes_set | fail_if_no_progress (with_reducible apply kept_mk) | (with_reducible refine kept_of_eq (by with_reducible assumption) ?_) | intro _ _ | split | dsimp only

theorem kept_execCatchupComplete  (s : State) : ∃ r, execCatchupComplete s = .next r ∧ Kept s r := by
  unfold execCatchupComplete
  refine ⟨_, rfl, ?_⟩
  have h := Kept.refl s
  repeat' first | with_reducible assumption | with_reducible apply kept_ite | with_reducible apply kept_ite1 | with_reducible apply kept_ite2 | (with_reducible refine kept_forAll (fun _ _ _ => ?_) ?_) | (with_reducible refine kept_foldl (fun _ _ _ => ?_) ?_) | (with_reducible refine kept_foldl1 (fun _ _ _ => ?_) ?_) | with_reducible apply kept_catchupEnds | with_reducible apply kept_gated | with_reducible apply kept_endCommand | with_reducible apply kept_twnCommand | with_reducible apply kept_cruStart | with_reducible apply kept_cryGo | with_reducible apply kept_wr | with_reducible apply kept_updCommand | with_reducible apply keptRes_set | fail_if_no_progress (with_reducible apply kept_mk) | (with_reducible refine kept_of_eq (by with_reducible assumption) ?_) | intro _ _ | split | dsimp only

end Sys2Proof.Machine
end

