-- ==== Sys2Proof/Tests/States.lean ====
section
/-! SUPPORT. States for the tests and witnesses: small ones, each made from the last by a helper. -/

namespace Sys2Proof.Tests

open Sys2Proof.Machine Sys2Proof.Safety

/-! ## States -/

/-- A state of a mode, 1,250 ms after a reset. -/
def live (m : Nat) : State :=
  setFld { State.reset with now := 125000000, nextTick := 1251, nextGrid := 5001, meter := { nextSample := 10001 } } R.SYS_MODE F.SYS_MODE_MODE m
/-- A page's function is ON. -/
def withPage (page st : Nat) (s : State) : State := setFld s (R.PG_STATE page) F.PG_STATE st
def hbOf (role mode : Nat) : Heartbeat :=
  ⟨BitVec.ofNat 8 role, BitVec.ofNat 8 mode, true, true, false, false, false, 0, 9, 125000000, 0, 1, 0, 0⟩
/-- The module is one of a pair, with a role, its link and its partner's last heartbeat. -/
def inPair (role : Nat) (h : Heartbeat) (s : State) : State :=
  let s := setFld (setFld s R.TWN_CFG F.TWN_CFG_PAIR 1) R.TWN_STAT F.TWN_STAT_ROLE role
  { setFld s R.TWN_STAT F.TWN_STAT_LINK 1 with twin := { s.twin with hb := some h } }

/-! ## Keys, jobs, tamper and debug -/

/-- A key slot: algorithm, usage, whether it may be exported, whether it persists; a child of slot 0. -/
def keySlot (alg usage : Nat) (ext keep : Bool) (pgen : BitVec 16) : KeySlot :=
  ⟨BitVec.ofNat 32 (0x80000010 + b2n keep * 2 ^ 30 + b2n ext * 2 ^ 29 + alg * 2 ^ 24 + usage * 2 ^ 22), pgen, 3, List.replicate (keyLen alg) 7,
    List.replicate (keyLen alg) 0⟩
/-- The root, keys of each use in slots 1 to 8, and in slot 9 a key whose parent has changed since. -/
def keyed (m : Nat) : State :=
  { live m with slots := [(0, ⟨0xC1C00000, 0, 1, List.replicate 32 1, List.replicate 32 0⟩), (1, keySlot 0 usDERIVE false true 1),
      (2, keySlot 0 usWRAP false true 1), (3, keySlot 0 usENC true false 1), (4, keySlot 0 usDEC false true 1), (5, keySlot 2 usENC false false 1),
      (6, keySlot 2 usDEC false false 1), (7, keySlot 3 usENC false false 1), (8, keySlot 0 usENC false false 0)] }
/-- Slots, attribute word, address and key material before a Crucible command. -/
def cruSet (target aux : Nat) (attr key : Word) (s : State) : State :=
  let s := wr (wr s R.CRU_SLOT (BitVec.ofNat 32 (aux * 256 + target))) R.CRU_ATTR attr
  wr (wr s R.CRU_ADDR 0x10000000) (R.CRU_KEYIN 0) key
def cruBusy (op target aux : Nat) (attr : Word) (s : State) : State :=
  setFld { s with crypto := { s.crypto with cru := some ⟨op, target, aux, attr, 0x10000000, List.replicate 16 0, List.replicate 32 5⟩ } }
    R.CRU_RESULT F.CRU_RESULT_BUSY 1
def cryBusy (op slot : Nat) (tag : List Byte) (s : State) : State :=
  setFld { s with crypto := { s.crypto with cry := some ⟨op, slot, 0x10000000, 0x10000100, 0, 0x10000200, 0, List.replicate 12 1, tag⟩ } }
    R.CRY_STAT F.CRY_STAT_BUSY 1
/-- A debug session is open. -/
def session (s : State) : State := setFld s R.DBG_STAT F.DBG_STAT_SESSION 1
/-- Core 0 is stopped under a session in task 1. -/
def stoppedCore : State := setFld (setFld (session (live 4)) R.DBG_HOLD F.DBG_HOLD_STOPPED 1) (R.SCC_STATUS 0) F.SCC_STATUS_CUR_TASK 1
/-- Every tamper source is enabled; the pins respond, and persistent keys are erased. -/
def tampered (c : Word) (s : State) : State := wr s R.TMP_CFG c

/-! ## Cast programs and the scan -/

/-- A mould at 1000_0000h: its code, its data with a timer, a counter and two edge records, and two tasks; task 1 has images. -/
def demoMould : Mould :=
  ⟨7, 0x10000000, 256, 0x10000100, 1024, [⟨1, 1, 0, 5, 512, 0⟩, ⟨2, 1, 1, 6, 32, 512⟩],
    [⟨0, 0, 0, 0, [], []⟩, ⟨0, 0, 0x240, 0x280, [1, 2], [(1, true), (3, false)]⟩], []⟩
def recordCells (a kind : Nat) : List Host.Cell := [(a, BitVec.ofNat 8 kind), (a + 1, 0), (a + 2, 1)]
/-- Task 1 of flask 1 on core 0 is in a step of its run. -/
def scanBase : State :=
  let s := live 4
  let s := setFld (setFld s (R.SCN_TCFG 1) F.SCN_TCFG_FLASK 1) (R.SCN_TCFG 1) F.SCN_TCFG_EN 1
  let s := setFld (setFld s (R.SCN_TSRC 1) F.SCN_TSRC_MOULD_TASK 1) (R.FLK_CFG 1) F.FLK_CFG_EN 1
  { s with
    moulds := [(1, some demoMould)]
    mem := recordCells 0x10000100 1 ++ recordCells 0x10000180 4 ++ recordCells 0x10000200 7 ++ recordCells 0x10000300 7
    points := [(1, { alloc := true, owner := 1, dtype := 7, value := 9, quality := 0 }), (2, { alloc := true, owner := 2, readers := 2, dtype := 3 })] }
def running (step : RunStep) (x : TaskState) : State :=
  let s := setFld (setFld scanBase (R.SCN_TSTAT 1) F.SCN_TSTAT_STATE tsRUNNING) (R.SCC_STATUS 0) F.SCC_STATUS_CUR_TASK 1
  setTask s 1 { x with run := some ⟨step, 125000000, 40, 0, 0, 0, [], [], false, 0, 0⟩ }
/-- Task 1 executes its program with work registers and a call stack. -/
def casting (stack : List (Word × Word)) (prev : Option DWord) : State :=
  running .program { bank := { w := [(1, 0x80000000), (2, 5), (3, 7), (4, 0xFFFFFFFF), (9, 0x10000100)], pc := 0x10000010, ib := 0x10000100, stack := stack,
                               sticky := 1 }, prevDone := prev }
/-- What an instruction of a task sees. -/
def ctxOf (s : State) (t : Nat) : CastCtx :=
  (castCtx s t).getD ⟨s, t, demoMould, ⟨.latch, 0, 0, 0, 0, 0, [], [], false, 0, 0⟩, {}⟩
/-- A mould whose task 1 writes point 1 alone. -/
def writerMould : Mould := { demoMould with tasks := [⟨0, 0, 0, 0, [], []⟩, ⟨0, 0, 0x240, 0x280, [], [(1, false)]⟩] }

/-! ## Pages, points, the exchange, loops and metering -/

/-- Point 1 of flask 0, point 2 of flask 3 with a force, point 7 of flask 3 that flask 5 reads. -/
def pointed (m : Nat) : State :=
  { setFld (live m) (R.FLK_CFG 3) F.FLK_CFG_EN 1 with
    points := [(1, { alloc := true, dtype := 7, value := 9, quality := 0 }),
               (2, { alloc := true, owner := 3, dtype := 7, value := 5, quality := 1, forced := true, source := 0xB004, seq := 3 }),
               (7, { alloc := true, owner := 3, readers := 0x20, dtype := 3 })]
    forces := [(4, some ⟨2, 5, 0, false, false, 11, 12, 0, 0x1001⟩)] }
/-- A word of a register page. -/
def withReg (k : Nat) (v : Word) (s : State) : State := wr s k v
/-- A switchable domain in a state. -/
def withDomain (d st : Nat) (s : State) : State := setFld s (R.PWR_DOMSTAT d) F.PWR_DOMSTAT_STATE st
/-- The Recast block serves flask 1, in a state; task 1 is disabled. -/
def exchanging (st : Nat) (s : State) : State :=
  let s := setFld (wr s (R.SCN_TCFG 1) 0x100) R.XCH_REQ F.XCH_REQ_FLASK 1
  setFld (setFld s R.XCH_STATUS F.XCH_STATUS_FLASK 1) R.XCH_STATUS F.XCH_STATUS_STATE st
/-- A mould container at 8000_0000h with its MAC under the key of slot 4: 16 bytes of code, one instance and one task. -/
def containerHead : List Byte :=
  [0x43, 0x41, 0x53, 0x54, 1, 0, 1, 0] ++ leBytes 4 0xC0 ++ leBytes 4 0x77 ++ leBytes 4 0x80 ++ leBytes 4 16 ++ leBytes 4 0 ++ leBytes 4 0 ++
  leBytes 4 32 ++ leBytes 4 0x90 ++ leBytes 4 1 ++ leBytes 4 0xA0 ++ leBytes 4 1 ++ List.replicate 60 0
def containerBody : List Byte := List.replicate 16 0 ++ (leBytes 2 1 ++ [1, 0] ++ leBytes 4 5 ++ leBytes 4 32 ++ leBytes 4 0) ++ List.replicate 32 0
def container : List Byte :=
  containerHead ++ aesCmac (List.replicate 16 7) (containerHead ++ List.replicate 16 0 ++ containerBody) ++ containerBody
def cellsFrom (a : Nat) (l : List Byte) : List Host.Cell := (List.range l.length).zip l |>.map (fun x => (a + x.1, x.2))
/-- The check of that container is in progress. -/
def checkingMould (len : Nat) : State :=
  let s := exchanging 1 (keyed 3)
  { setFld s (R.FLK_CFG 1) F.FLK_CFG_EN 1 with xch := { src := 0x80000000, len := len, key := 4 }, mem := cellsFrom 0x80000000 container }
/-- A loop in a state. -/
def loopIn (n st : Nat) (s : State) : State := setFld s (R.LPE_LSTAT n) F.LPE_LSTAT_STATE st
/-- A circuit on windows, whose accumulators are about to wrap. -/
def metered (st : Nat) : State :=
  let s := setFld (setFld (live 4) (R.CIR_STAT 0) F.CIR_STAT_STATE st) (R.CIR_STAT 0) F.CIR_STAT_ZC_FB 1
  { s with meter := { s.meter with circuits := [(0, { acc := [2 ^ 64 - 1, 2 ^ 64 - 1, 5, 6, 7, 2 ^ 64 - 3], wraps := [255, 1, 0, 0, 0, 0] })] } }
/-- The requests of NRAP binding 1 act for flask 3. -/
def asFlask3 (s : State) : State := { setFld s (R.NRP_BIND 1) F.NRP_BIND_SLOT 4 with slots := [(4, { attr := 0x80030000 })] }

/-! ## Buses, spurs, hosts and NRAP -/

/-- A CAN controller that is ON in a substate, not listening. -/
def onBus (b sub : Nat) (x : CanBus) (s : State) : State :=
  { setFld (withPage (0x58 + b) 2 s) (R.PG_STATE (0x58 + b)) F.PG_SUBSTATE sub with buses := [(b, x)] }
def bufIn (b n st : Nat) (s : State) : State := setFld s (R.TXB_STAT b n) F.TXB_STAT_STATUS st
/-- A port in a state and a step. -/
def portIn (p st step tries : Nat) (stop : Bool) (s : State) : State :=
  let s := setFld (setFld s (R.SPU_PCFG p) F.SPU_PCFG_PODL 1) (R.SPU_PCFG p) F.SPU_PCFG_CLASS_MASK 0x3F
  { setFld s (R.SPU_PSTAT p) F.SPU_PSTAT_PORT st with ports := [(p, { step := step, tries := tries, stopReq := stop })] }
/-- The station service of spur 2 is ON, its link UP, with one input channel to point 1 of flask 0. -/
def stationOn (svc link : Nat) (x : Station) (s : State) : State :=
  let s := setFld (setFld s (R.SPU_SSTAT 2) F.SPU_SSTAT_STATE svc) (R.SPU_LINK 2) F.SPU_LINK_LINK link
  let s := setFld (wr s (R.CHn_CFG 2 0) 0x90000001) (R.SPU_SLEN 2) F.SPU_SLEN_IN_LEN 4
  { s with stations := [(2, x)], points := [(1, { alloc := true, dtype := 3 })] }
/-- A frame that such a station sends in tick 1250. -/
def stationFrame : UplinkFrame :=
  ⟨List.replicate 6 0xFF ++ [2, 0, 0, 0, 0, 9] ++ beBytes 2 (fld State.reset R.STN_ETYPE F.STN_ETYPE_ETYPE) ++
    [0x12, 0, 1, 0, 7, 0, 0, 0, 0xE2, 4, 4, 0, 0, 0, 0, 0] ++ List.replicate 36 0 ++ [5, 0, 0, 0, 0, 0, 0, 0], true, 125030000, 125090000⟩
/-- A host MAC that is ON with its link up. -/
def macUp (m : Nat) (x : HostMac) (s : State) : State :=
  { setFld (withPage (0x78 + m) 2 s) (R.HM_LINK m) F.HM_LINK_UP 1 with hosts := [(m, x)] }
/-- Binding 1 on port 0 and the AES key of slot 4, whose GEN it has recorded. -/
def bound (s : State) : State :=
  let s := setFld (setFld s (R.NRP_BIND 1) F.NRP_BIND_EN 1) (R.NRP_BIND 1) F.NRP_BIND_SLOT 4
  { s with nrap := { s.nrap with gens := [(1, 3)] } }
/-- A datagram whose body is authenticated under slot 4. -/
def sealedDatagram (seq : Nat) (area : List Byte) : Datagram :=
  let h := [0x4E, 0x52, 1, 0, 4, 0] ++ leBytes 2 area.length ++ leBytes 4 0 ++ leBytes 4 seq
  ⟨[2, 0, 0, 0, 0, 7], 0x0A000001, 7000, h ++ area ++ aesCmac (List.replicate 16 7) (h ++ area)⟩
def helloReq : NrapReq := ⟨1, 0, [2, 0, 0, 0, 0, 7], 0x0A000001, 7000, 0, 4, 5, [1, 0, 0, 0], List.replicate 16 0, false⟩
/-- A frame that a host port with the reset address answers: an ARP request, and a datagram for NRAP. -/
def arpRequest : List Byte :=
  List.replicate 6 0xFF ++ [2, 0, 0, 0, 0, 7, 8, 6, 0, 1, 8, 0, 6, 4, 0, 1, 2, 0, 0, 0, 0, 7, 10, 0, 0, 1, 0, 0, 0, 0, 0, 0, 0, 0, 0, 0] ++
  List.replicate 18 0

/-! ## The twin pair -/

/-- A module of a pair whose link is up, with a role and a state of SYNC. -/
def linked (role sync : Nat) (h : Heartbeat) (s : State) : State :=
  setFld (setFld (inPair role h s) R.TWN_STAT F.TWN_STAT_SYNC sync) R.TLM_STAT F.TLM_STAT_UP 1
def withTwin (f : Twin → Twin) (s : State) : State := { s with twin := f s.twin }
/-- The heartbeat of the present grid point. -/
def presentHb (role epoch : Nat) : Heartbeat := { hbOf role 4 with grid := 5000, epoch := BitVec.ofNat 32 epoch }

/-! ## Fabric, locks, DMA and queues -/

/-- A lock held by a requester. -/
def heldLock (n req ctx hold : Nat) (s : State) : State :=
  let k := R.LCK_STAT n
  { setFld (setFld (setFld s k F.LCK_STAT_HELD 1) k F.LCK_STAT_REQ req) k F.LCK_STAT_CTX ctx with lockTimers := [(n, { since := 0, holdUs := hold })] }
/-- A bulk channel in a substate, with a descriptor address. -/
def bulk (c sub cur : Nat) (x : LadleCh) (s : State) : State :=
  let s := setFld (withPage (0x11 + c) 2 s) (R.PG_STATE (0x11 + c)) F.PG_SUBSTATE sub
  { wr s (R.LDLB_CUR c) (BitVec.ofNat 32 cur) with ladle := [(c, x)] }
def descCells (a : Nat) (ctrl : Word) (len src dst next : Nat) : List Host.Cell :=
  cellsFrom a (leBytes 4 ctrl.toNat ++ leBytes 4 len ++ leBytes 4 src ++ leBytes 4 dst ++ leBytes 4 next ++ List.replicate 12 0)
def demoJob (next : Nat) : LadleJob := ⟨0x80000000, 0x80000000, 64, 0x80001000, 0x80002000, next⟩
def demoQJob : LadleJob := ⟨0x80000000, 0xA0000000, 64, 5, 0x80002000, 0⟩
/-- A lite channel in a state. -/
def lite (k st : Nat) (x : LadleCh) (s : State) : State :=
  let s := wr (wr (wr s (R.LDLL_LEN (k / 8) (k % 8)) 64) (R.LDLL_SRC (k / 8) (k % 8)) 0x80001000) (R.LDLL_DST (k / 8) (k % 8)) 0x80002000
  { setFld s (R.lSTAT k) F.LDLL_STAT_STATE st with ladle := [(16 + k, x)] }
/-- Queue 5 is enabled for flask 0, with items in its drain bank. -/
def queueReady (filled : Nat) (s : State) : State :=
  { setFld s (R.qCFG 5) F.TND_CFG_EN 1 with queues := [(5, { filled := filled, sides := [] })] }

/-! ## Time and the backup domain -/

def annOf (prio : Byte) (src : BitVec 80) : PtpAnnounce := ⟨prio, 6, 0x21, 5, 128, 0x44, 1, src, 0⟩
/-- A servo in a state, with a master, after `good` good Syncs. -/
def servo (st good : Nat) (m : Option PtpAnnounce) : State :=
  { setPtpState (withPage 0x7F 2 (live 3)) st with
    ptp := { master := m, originSet := true, wait := some (1, 1250000000, 4), reqSeq := 1, t3 := some 1350, good := good } }
/-- A held calendar with staged words. -/
def heldCal (d t : Option Word) : State :=
  { setFld (setFld (live 3) R.RTC_STAT F.RTC_STAT_HELD 1) R.RTC_CTRL F.RTC_CTRL_HOLD 1 with rtc := { stageDate := d, stageTime := t } }
/-- An armed alarm that matches every second. -/
def alarmed (s : State) : State := wr (wr (setFld s R.RTC_CTRL F.RTC_CTRL_ALM_EN 1) R.RTC_ALMT 0x80808080) R.RTC_ALMD 0x80808080

/-! ## Modes, power and updates -/

/-- A mode request waits. -/
def asked (req : Nat) (s : State) : State := setFld (setFld s R.SYS_MODE F.SYS_MODE_PEND 1) R.SYS_MODE F.SYS_MODE_REQ req
def inState (d c : Nat) (exiting : Bool) (s : State) : State :=
  { setFld s (R.PWR_DOMSTAT d) F.PWR_DOMSTAT_CSTATE c with exiting := if exiting then [(d, true)] else [] }
/-- The boot ROM waits for a rail. -/
def waiting : State :=
  setFld (setFld { setFld State.reset R.SYS_MODE F.SYS_MODE_MODE 1 with boot := { env := { State.reset.boot.env with rails := 0 } } }
    R.BOOT_STAT F.BOOT_STAT_RAILWAIT 1) R.BOOT_STAT F.BOOT_STAT_PHASE 5
def norSet (src off len : Word) (s : State) : State :=
  let s := wr (wr (wr s R.XSPI_SRC src) R.XSPI_OFF off) R.XSPI_LEN len
  wr (wr (wr (wr s R.XSPI_SIZE 0x4000000) R.BOOT_SSRC src) R.BOOT_SOFF off) R.BOOT_SLEN len
/-- An update in a state. -/
def updating (st : Nat) (u : Upd) (s : State) : State := { setFld s R.UPD_STAT F.UPD_STAT_STATE st with upd := u }
/-- A recovery session of a port and an address. -/
def recovering (r : Recov) : State := { live 2 with recov := r }

end Sys2Proof.Tests
end

