-- ==== Sys2Proof/WellFormed.lean ====
section
/-! DEFINITION. Which commands are well formed: what the types of their operands do not say already. -/

namespace Sys2Proof

/-- An address of the register pages (R11) or of the point directory window (R53). -/
def inPages (a : Nat) : Bool :=
  decide (0x40000000 ≤ a) && decide (a ≤ 0x400FFFFF) || decide (0x50000000 ≤ a) && decide (a ≤ 0x5003FFFF)

/-- The data of an access is as long as the access. -/
def lenFits (n : Nat) (d : Option (List Byte)) : Bool :=
  match d with
  | none => true
  | some l => l.length == n

/-- A power domain that software switches is one of PD3 to PD11 (R467). -/
def switchable : SwitchFn → Bool
  | .domain d => decide (3 ≤ d.val) && decide (d.val ≤ 11)
  | .page _ | .station _ | .portMeter _ | .loop _ | .circuit _ | .lite _ => true

/-- A sampling instant has at most 6 voltage and 48 current channels and 16 ports (R209, R233). -/
def sampleFits (x : MeterSample) : Bool :=
  [x.rawV, x.volt].all (fun l => decide (l.length ≤ 6)) && [x.raw1, x.raw32, x.curr1, x.curr32].all (fun l => decide (l.length ≤ 48)) &&
  [x.portV, x.portI].all (fun l => decide (l.length ≤ 16))

/-- The bytes of data that a DLC stands for (R244). -/
def canLength (fdf rtr : Bool) (dlc : Nat) : Nat :=
  if rtr then 0 else if dlc ≤ 8 then dlc else if fdf then [12, 16, 20, 24, 32, 48, 64].getD (dlc - 9) 64 else 8

/-- A validated frame has the data that its DLC says, no bit rate switch without FDF, no remote FD frame, and 11 identifier bits without IDE. -/
def canFrameFits (x : CanFrame) : Bool :=
  x.data.length == canLength x.fdf x.rtr x.dlc.val && (x.fdf || !x.brs) && !(x.fdf && x.rtr) && (x.ide || decide (x.id.toNat < 2048))

/-- A FORCE entry has one of the four operations and an index of the force table (R340). -/
def forceFits (x : ForceItem) : Bool := decide (1 ≤ x.op) && decide (x.op ≤ 4) && decide (x.index < 1024)

/-- A mirror frame holds eight section states of every loop, and its entries name things that exist (R340). -/
def mirrorFits (x : MirrorFrame) : Bool :=
  x.loops.length == 512 && x.loops.all (fun l => l.length == 8) && x.force.all forceFits &&
  x.energy.all (fun e => decide (e.circuit < 48) && e.acc.length == 6 && e.wraps.length == 6 && e.ivl.length == 6) &&
  x.runs.all (fun r => decide (r.task < 64) && decide (r.flask < 32)) &&
  x.grans.all (fun g => decide (g.task < 64) && decide (g.flask < 32) && g.data.length == 32)

/-- A bulk transfer holds every point at most once, in eight words, and each mould with its regions (R347). -/
def bulkFits (x : BulkImage) : Bool :=
  decide (x.points.map (·.point)).Nodup && x.points.all (fun p => p.words.length == 8) && x.forces.all forceFits &&
  x.moulds.all (fun m => decide (m.flask < 32) && m.code.length == m.mould.codeSize && m.data.length == m.mould.dataSize)

/-- Well-formed commands. -/
def wellFormed (i : Instr) : Bool :=
  match i with
  | .registerWrite .. => true
  | .addressDecodeError _ _ n d => lenFits n d
  | .registerAccessMisaligned _ a n _ => inPages a.toNat && (a.toNat % 4 != 0 || n != 4)
  | .wideRegisterRead _ _ off => off.toNat % 4 == 0
  | .wideRegisterCommit _ _ off _ => off.toNat % 4 == 0
  | .enableWrite _ f => switchable f
  | .disableWrite _ f => switchable f
  | .startingComplete f => switchable f
  | .stoppingComplete f => switchable f
  | .eventPendClear .. => true
  | .windowRecordRead .. => true
  | .windowStageLow .. => true
  | .windowStageQuality .. => true
  | .windowCommit .. => true
  | .forceSet .. => true
  | .forceClear .. => true
  | .forceLookup .. => true
  | .forceClearFlask .. => true
  | .forceReadIndex .. => true
  | .ptdAlloc .. => true
  | .ptdFree .. => true
  | .ptdLoad .. => true
  | .ptdUpdate .. => true
  | .flkDenyClear .. => true
  | .tickBoundary => true
  | .gridPoint => true
  | .eventIntervalExpiry .. => true
  | .errorTaskRelease .. => true
  | .taskDispatch .. => true
  | .runResume .. => true
  | .inputLatch .. => true
  | .outputWriteBack .. => true
  | .retentionCopy .. => true
  | .watchdogExpiry .. => true
  | .retentionBatchDrain .. => true
  | .pfwAssert => true
  | .powerFailSaveComplete .. => true
  | .pfwDeassertReset => true
  | .taskEnable .. => true
  | .taskDisable .. => true
  | .taskCounterClear .. => true
  | .ldw .. => true
  | .ldh .. => true
  | .ldhu .. => true
  | .ldb .. => true
  | .ldbu .. => true
  | .stw .. => true
  | .sth .. => true
  | .stb .. => true
  | .ldd .. => true
  | .std .. => true
  | .movi .. => true
  | .lui .. => true
  | .mfs .. => true
  | .mts .. => true
  | .add .. => true
  | .addi .. => true
  | .sub .. => true
  | .mul .. => true
  | .mulh .. => true
  | .div .. => true
  | .rem .. => true
  | .and .. => true
  | .andi .. => true
  | .or .. => true
  | .ori .. => true
  | .xor .. => true
  | .xori .. => true
  | .shf .. => true
  | .adds .. => true
  | .subs .. => true
  | .min .. => true
  | .max .. => true
  | .minu .. => true
  | .maxu .. => true
  | .abs .. => true
  | .bfxExtract .. => true
  | .bfxInsert .. => true
  | .fadd .. => true
  | .fsub .. => true
  | .fmul .. => true
  | .fdiv .. => true
  | .fma .. => true
  | .fsqrt .. => true
  | .fabs .. => true
  | .fneg .. => true
  | .fmin .. => true
  | .fmax .. => true
  | .fcvtS32ToFloat .. => true
  | .fcvtU32ToFloat .. => true
  | .fcvtFloatToS32Trunc .. => true
  | .fcvtFloatToS32Nearest .. => true
  | .fcvtFloatToU32Trunc .. => true
  | .fcmp .. => true
  | .beq .. => true
  | .bne .. => true
  | .blt .. => true
  | .bge .. => true
  | .bltu .. => true
  | .bgeu .. => true
  | .jmp .. => true
  | .set .. => true
  | .call .. => true
  | .callr .. => true
  | .ret .. => true
  | .sysRelLo .. => true
  | .sysRelHi .. => true
  | .sysTbLo .. => true
  | .sysTbHi .. => true
  | .sysSt .. => true
  | .sysStClr .. => true
  | .sysTask .. => true
  | .sysMode .. => true
  | .sysRuns .. => true
  | .sysDt .. => true
  | .tmr .. => true
  | .ctr .. => true
  | .edg .. => true
  | .trst .. => true
  | .prd .. => true
  | .pwr .. => true
  | .ptst .. => true
  | .hltEnd .. => true
  | .hltTrap .. => true
  | .hltBrk .. => true
  | .xchStage .. => true
  | .stageComplete .. => true
  | .xchCommit .. => true
  | .xchAbandon .. => true
  | .xchConfirm .. => true
  | .xchRollback .. => true
  | .xchUnload .. => true
  | .exchangeTick .. => true
  | .exchangeTimeout => true
  | .exchangeSwitch .. => true
  | .exchangeReport => true
  | .generationApplied .. => true
  | .bankSwapRequest .. => true
  | .groupSwap .. => true
  | .meteringSample x => sampleFits x
  | .zcLost .. => true
  | .fixedWindowEnd => true
  | .intervalBoundary => true
  | .calibrationWindowEnd l => l.length == 102
  | .correctionStep => true
  | .meteringRecordSave => true
  | .circuitZero .. => true
  | .circuitClrMax .. => true
  | .canIntegrationComplete .. => true
  | .canFrameReceived _ x => canFrameFits x
  | .canTxRequest .. => true
  | .canArbitrationLost .. => true
  | .canTxDone .. => true
  | .canTxCancel .. => true
  | .canError _ x => x.code != 0
  | .canRecover .. => true
  | .canRecoveryComplete .. => true
  | .canProtocolException .. => true
  | .canExceptionEnd .. => true
  | .canListenSwitch .. => true
  | .phyLinkUp .. => true
  | .phyLinkDown .. => true
  | .quietCheckEnd .. => true
  | .detectionResult .. => true
  | .detectionRetry .. => true
  | .sccpAttemptEnd .. => true
  | .powerUpReached .. => true
  | .powerUpTimeout .. => true
  | .portOverload .. => true
  | .portShort .. => true
  | .railUndervoltage .. => true
  | .portDisconnect .. => true
  | .coolDownEnd .. => true
  | .dischargeComplete .. => true
  | .dischargeLimit .. => true
  | .downlinkFrameSend => true
  | .uplinkFrameReceived _ x => decide (x.first ≤ x.last)
  | .stationDrop .. => true
  | .stationSubstituteCommit .. => true
  | .hostFrameReceived .. => true
  | .hostFrameTransmit .. => true
  | .ptpFifoPop .. => true
  | .macCounterClear .. => true
  | .mdioAccess .. => true
  | .mdioComplete .. => true
  | .nrapRequest .. => true
  | .nrapExecute => true
  | .nrapNotify .. => true
  | .heartbeatSend => true
  | .heartbeatReceived .. => true
  | .slotCheck .. => true
  | .enterActiveRole => true
  | .roleKeeperExpiry => true
  | .demotion => true
  | .linkPacketRetry .. => true
  | .pointStreamReceived .. => true
  | .mirrorFrameCut => true
  | .mirrorFrameReceived x => mirrorFits x
  | .bulkStart => true
  | .bulkComplete x => bulkFits x
  | .catchupComplete => true
  | .forecastPublish => true
  | .forecastReceived b => b.length == 256
  | .selfTestSweepEnd x => x.laneErr.length == 2
  | .handover .. => true
  | .handoverSwitch => true
  | .cancelHo .. => true
  | .rearmRev .. => true
  | .clrTko .. => true
  | .resync .. => true
  | .revertiveRequest => true
  | .fabricRequest _ _ l => decide (l.map (·.id)).Nodup
  | .fabricResponse .. => true
  | .debugSquall .. => true
  | .dramRefresh .. => true
  | .arbiterSeedWrite .. => true
  | .lockAcquire .. => true
  | .lockRelease .. => true
  | .lockHoldExpiry .. => true
  | .lockFree .. => true
  | .descriptorFetch .. => true
  | .ladleKick .. => true
  | .ladleTransaction .. => true
  | .ladleQueuePop .. => true
  | .descriptorWriteBack .. => true
  | .ladleBusError .. => true
  | .ladleResume .. => true
  | .ladleAbort .. => true
  | .liteGo .. => true
  | .liteTransferComplete .. => true
  | .queuePush .. => true
  | .queuePop .. => true
  | .skipPkt .. => true
  | .flush .. => true
  | .cruGenerate .. => true
  | .cruDerive .. => true
  | .cruUnwrap .. => true
  | .cruWrap .. => true
  | .cruLoad .. => true
  | .cruDestroy .. => true
  | .cruPurge .. => true
  | .cruKill .. => true
  | .cruCommandComplete .. => true
  | .remask => true
  | .cryGcmEnc .. => true
  | .cryGcmDec .. => true
  | .cryCtrEnc .. => true
  | .cryCtrDec .. => true
  | .cryCmacGen .. => true
  | .cryCmacVer .. => true
  | .cryHmacGen .. => true
  | .cryHmacVer .. => true
  | .cryEcdsaSign .. => true
  | .cryEcdsaPub .. => true
  | .cryEcdsaVer .. => true
  | .crySha256 .. => true
  | .cryJobComplete => true
  | .tamperEvent .. => true
  | .tamperLatchClear .. => true
  | .debugChallenge .. => true
  | .debugOpen .. => true
  | .debugClose .. => true
  | .debugReset .. => true
  | .debugLockfuse .. => true
  | .debugHold .. => true
  | .debugGo .. => true
  | .tbStep .. => true
  | .tbSlew .. => true
  | .linkDelayMeasure .. => true
  | .ptpMessage .. => true
  | .ptpAnnounceTimeout => true
  | .ptpSyncTimeout => true
  | .rtcSecondRollover => true
  | .trimWindow => true
  | .rtcHold .. => true
  | .rtcRelease .. => true
  | .rtcTimeRead .. => true
  | .alarmArm .. => true
  | .backupSupplySwitch .. => true
  | .backupDomainReset => true
  | .modeRequest .. => true
  | .modeChange => true
  | .domainStateChange .. => true
  | .domainPrewake .. => true
  | .domainExitComplete .. => true
  | .latencyWrite .. => true
  | .powerOnReset .. => true
  | .resetPin => true
  | .sysReset .. => true
  | .sysRecover .. => true
  | .mgmtWatchdogReset => true
  | .lockstepReset => true
  | .thermalReset => true
  | .supplyGood .. => true
  | .bootStorePattern .. => true
  | .bootStoreBlob .. => true
  | .bootStoreComplete => true
  | .mr4Poll .. => true
  | .pllLockLoss .. => true
  | .pllRelock .. => true
  | .xspiErase .. => true
  | .xspiProgram .. => true
  | .xspiVerify .. => true
  | .xspiCommandComplete .. => true
  | .updCheck .. => true
  | .checkComplete => true
  | .updWrite .. => true
  | .writeComplete .. => true
  | .updActivate .. => true
  | .updAbandon .. => true
  | .updSvnCommit .. => true
  | .updOwnerPk .. => true
  | .activationHold => true
  | .activationPauseStart => true
  | .activationPauseEnd .. => true
  | .recoveryInfo _ m _ => m.length == 6
  | .recoveryChallenge _ m _ => m.length == 6
  | .recoveryLoad _ m _ _ d => m.length == 6 && decide (d.length ≤ 1024)
  | .recoveryCommit _ m _ _ => m.length == 6
  | .recoveryWriteComplete .. => true
  | .recoveryClearTamper _ m _ d => m.length == 6 && (d.length == 0 || d.length == 128)
  | .recoveryReset _ m _ => m.length == 6
  | .recoverySessionTimeout => true
  | .supplyFail .. => true
  | .claisLinkUp .. => true
  | .claisLinkDown => true
  | .hostLinkUp .. => true
  | .hostLinkDown .. => true

end Sys2Proof
end

