-- ==== Sys2Proof/Tests/Slice0.lean ====
section
/-! SUPPORT. Own tests: an ill-formed command for each check of WellFormed, the decoder, the queue, and one step of the worked examples of spec/. -/

namespace Sys2Proof.Tests

open Sys2Proof.Machine

set_option Elab.async false

/-- The state that an outcome gives. -/
def after (o : Host.Outcome State Fault Refusal) : State := match o with | .next t => t | _ => State.reset

/-! ## Ill-formed commands -/

theorem test_illFormed_accesses :
    [Instr.addressDecodeError (.mgmt 0) 0x10 4 (some [1, 2, 3]), .registerAccessMisaligned (.mgmt 0) 0x40001004 4 true,
     .registerAccessMisaligned (.mgmt 0) 0x20000001 4 true, .wideRegisterRead (.mgmt 0) 0x32 0x046, .wideRegisterCommit (.mgmt 0) 0x32 0x049 0].map
      wellFormed = [false, false, false, false, false] := by decide
theorem test_illFormed_domains :
    [Instr.enableWrite (.mgmt 0) (.domain 2), .disableWrite (.mgmt 0) (.domain 12), .startingComplete (.domain 0), .stoppingComplete (.domain 13)].map
      wellFormed = [false, false, false, false] := by decide
theorem test_illFormed_meter :
    [Instr.meteringSample ⟨List.replicate 7 0, [], [], 0, 0, [], [], [], [], []⟩, .calibrationWindowEnd [0, 1]].map wellFormed = [false, false] := by
  decide
/-- Two data bytes for DLC 3, a remote FD frame, BRS without FDF, a base identifier of 12 bits; an error without a code. -/
theorem test_illFormed_can :
    [Instr.canFrameReceived 0 ⟨false, false, false, false, false, 3, 1, 0, [1, 2]⟩, .canFrameReceived 0 ⟨false, true, true, false, false, 0, 1, 0, []⟩,
     .canFrameReceived 0 ⟨false, false, false, true, false, 0, 1, 0, []⟩, .canFrameReceived 0 ⟨false, false, false, false, false, 0, 0x800, 0, []⟩,
     .canError 0 ⟨0, false, 1, none⟩].map wellFormed = [false, false, false, false, false] := by decide
theorem test_illFormed_links :
    [Instr.uplinkFrameReceived 0 ⟨[], true, 9, 8⟩, .fabricRequest none 0 [⟨3, 0⟩, ⟨3, 1⟩], .forecastReceived [1], .selfTestSweepEnd ⟨0, 0, 0, 0, 0, [], 0⟩,
     .mirrorFrameReceived ⟨0, 0, 0, 0, 0, [], [], [], [], [], none, [], []⟩,
     .bulkComplete ⟨none, [], [⟨1, []⟩], [], [], []⟩].map wellFormed = [false, false, false, false, false, false] := by decide
theorem test_illFormed_recovery :
    [Instr.recoveryInfo 0 [] 0, .recoveryChallenge 0 [1] 0, .recoveryLoad 0 [1, 2, 3, 4, 5] 0 0 [], .recoveryCommit 0 [] 0 0,
     .recoveryClearTamper 0 [1, 2, 3, 4, 5, 6] 0 [1], .recoveryReset 0 [] 0].map wellFormed = [false, false, false, false, false, false] := by decide

/-! ## The words of the opcode table and the queue -/

/-- The table gives its rows no bits: a word spells no command, and the state stays as it is. -/
theorem test_no_word (s : State) (nbits w : Nat) : decodeTableWord nbits w = none ∧ s.withFetchWord nbits w = s := ⟨rfl, rfl⟩
/-- The command in front has its effect; the rest waits. -/
theorem test_queue : step { live 4 with pending := [.tickBoundary, .gridPoint] } = exec .tickBoundary { live 4 with pending := [.gridPoint] } := rfl
/-- On an empty queue the timebase counts once, and stands still where a command is due first. -/
theorem test_idle : (after (step (live 3))).now = 125000001 ∧ (after (step { live 3 with now := 125012500 })).now = 125012500 := by decide +kernel
/-- R455: in BACKUP no timebase runs. -/
theorem test_idle_backup : step (live 0) = .next (live 0) := rfl

/-! ## Worked examples -/

/-- 01_register_pages.md under R29: PG_LAT of SPU0 with a reserved bit, then a write of PG_STATE. -/
def spuLat : State := after (execLatencyWrite (.mgmt 0) 0x61 0x01000000 (live 4))
theorem test_pgErr_first : rd spuLat (R.PG_ERR 0x61) = 0x80001802 := by decide +kernel
theorem test_pgErr_second : rd (after (execRegisterWrite (.mgmt 0) 0x61 0x008 0 spuLat)) (R.PG_ERR 0x61) = 0xC0001802 := by decide +kernel
theorem test_pgErr_clear :
    rd (after (execRegisterWrite (.mgmt 0) 0x61 0x00C 0x80000000 (wr spuLat (R.PG_ERR 0x61) 0xC0001802))) (R.PG_ERR 0x61) = 0x00001802 := by decide +kernel

/-- 02_points_and_flasks.md under R66: point 0A41h of flask 3, which flask 5 reads, at 21.5. -/
def airPoint : Point := { alloc := true, owner := 3, readers := 0x20, dtype := 7, value := 0x41AC0000, quality := 0, source := 0x100C, seq := 8 }
def airState : State := { withReg R.FRC_POINT 0xA41 (withReg (R.FRC_VALUE 0) 0x41900000 (live 4)) with points := [(0xA41, airPoint)] }
/-- The force shows 18.0 as FORCED from its entry, and holds 21.5 beneath. -/
theorem test_force_set : let t := after (execForceSet (.mgmt 0) airState)
    ((pointAt t 0xA41).value, (pointAt t 0xA41).quality, (pointAt t 0xA41).source, (forceAt t 0).map (fun e => (e.setter, e.uValue))) =
      (0x41900000, 1, 0xB000, some (0, 0x41AC0000)) := by decide +kernel
/-- Another flask's channel reads the null record. -/
theorem test_force_window : (after (execWindowRecordRead (.ladle 2) 0xA41 0 (withReg (R.PG_FLASK 0x13) 7 airState))).answer =
    { denied := true, words := [0] } := by decide +kernel

/-- 07_metering.md under R223: the nets of cycles 1 to 5 of the lift, in hundredths of a mWh. -/
def lift : State :=
  [1000, 400, -500, -500, 250].foldl (fun s n => applyNets s 12 n 0)
    { live 4 with meter := { (live 4).meter with circuits := [(12, { acc := [100000075, 50000, 0, 0, 0, 0], wraps := [0, 0, 0, 0, 0, 0] })] } }
theorem test_energy_nets : ((circAt lift 12).acc, (circAt lift 12).ivl) = ([100001725, 51000, 0, 0, 0, 0], [1650, 1000, 0, 0, 0, 0]) := by decide +kernel

/-- 12_fabric_and_locks.md under R362: IDs 3, 8 and 25 in class 1 with 40, 20 and 4 tickets at the fabric arbiter. -/
def tickets (id n : Nat) (s : State) : State :=
  setFld (setFld (setFld s (R.ARBF_REQ id) F.ARBF_REQ_CLASS 1) (R.ARBF_REQ id) F.ARBF_REQ_TICKETS n) (R.ARBF_REQ id) F.ARBF_REQ_OUT 4
def threeAsk (lfsr eight : Nat) : State :=
  after (execFabricRequest none 0 [⟨3, 0⟩, ⟨8, 0⟩, ⟨25, 0⟩] (setLfsr (tickets 25 4 (tickets 8 eight (tickets 3 40 (live 4)))) 0 lfsr))
/-- The LFSR that each of the three decisions uses, and its winner. -/
theorem test_fabric_draws :
    [(0xACE1, 20), (0x59C3, 20), (0xB386, 0)].map (fun (l, n) => (lfsrAt (threeAsk l n) 0, (threeAsk l n).fabric.current.map (·.id))) =
      [(0x59C3, some 3), (0xB386, some 8), (0x670C, some 3)] := by decide +kernel

end Sys2Proof.Tests
end

