-- ==== Sys2Proof/Tests/WitnessCast.lean ====
section
/-! SUPPORT. Witnesses: for each statement of this part with hypotheses, states and operands that meet the hypotheses of its clauses together. -/

namespace Sys2Proof.Tests

open Sys2Proof.Machine Sys2Proof.Safety

set_option Elab.async false

theorem witness_ByteStoreStaysCanonical : let s := live 3; Memory.wf s.mem = true ∧ ∃ t, step s = .next t := ⟨by decide +kernel, _, rfl⟩

theorem witness_FusesAreNeverUndone : let s := { live 4 with otp := { killed := true, debugLock := true, owner := some (List.replicate 32 1) } }
    (∃ t, step s = .next t) ∧ s.otp.killed = true ∧ s.otp.debugLock = true ∧ s.otp.owner = some (List.replicate 32 1) := ⟨⟨_, rfl⟩, by decide +kernel⟩

theorem witness_EmptyQueueLetsTimePass :
    (let s : State := State.reset
     s.pending = [] ∧ modeNow s = mdBOOT ∧ flag s R.BOOT_STAT F.BOOT_STAT_RAILWAIT = false) ∧
    (let s : State := waiting
     s.pending = [] ∧ modeNow s = mdBOOT ∧ flag s R.BOOT_STAT F.BOOT_STAT_RAILWAIT = true) ∧
    (let s : State := live 0
     s.pending = [] ∧ modeNow s = 0) ∧
    (let s : State := live 3
     s.pending = [] ∧ modeNow s ≠ mdBOOT ∧ modeNow s ≠ 0 ∧ BitVec.toNat s.now < nextDue s) ∧
    (let s : State := { live 4 with nextTick := 1250 }
     s.pending = [] ∧ modeNow s ≠ mdBOOT ∧ modeNow s ≠ 0 ∧ nextDue s ≤ BitVec.toNat s.now) := by
  refine ⟨?_, ?_, ?_, ?_, ?_⟩ <;> decide +kernel

theorem witness_IntegerArithmeticWritesD :
    (let s : State := casting [] none
     let t : Fin 64 := 1
     let c : CastCtx := ctxOf s t.val
     castCtx s t.val = some c ∧
     let o : RegForm := { d := 1, s1 := 9, s2 := 0, x := 0 }
     o.x = 0 ∧ InTime c 1) ∧
    (let s : State := casting [] none
     let t : Fin 64 := 1
     let c : CastCtx := ctxOf s t.val
     castCtx s t.val = some c ∧
     let o : RegForm := { d := 6, s1 := 7, s2 := 7, x := 0 }
     o.x = 0 ∧ InTime c 3) ∧
    (let s : State := casting [] none
     let t : Fin 64 := 1
     let c : CastCtx := ctxOf s t.val
     castCtx s t.val = some c ∧
     let o : RegForm := { d := 0, s1 := 1, s2 := 0, x := 1 }
     InTime c 3 ∧ o.x = 1) ∧
    (let s : State := casting [] none
     let t : Fin 64 := 1
     let c : CastCtx := ctxOf s t.val
     castCtx s t.val = some c ∧
     let o : ImmForm := { d := 3, s1 := 0, imm := 0x3FFFF }
     InTime c 1 ∧ o.s1 = 0) ∧
    (let s : State := casting [] none
     let t : Fin 64 := 1
     let c : CastCtx := ctxOf s t.val
     castCtx s t.val = some c ∧
     let o : RegForm := { d := 1, s1 := 2, s2 := 3, x := 1 }
     InTime c 1 ∧ o.x = 1) ∧
    (let s : State := casting [] none
     let t : Fin 64 := 1
     let c : CastCtx := ctxOf s t.val
     castCtx s t.val = some c ∧
     let o : RegForm := { d := 1, s1 := 2, s2 := 3, x := 2 }
     InTime c 1 ∧ o.x = 2) ∧
    (let s : State := casting [] none
     let t : Fin 64 := 1
     let c : CastCtx := ctxOf s t.val
     castCtx s t.val = some c ∧
     let o : RegForm := { d := 3, s1 := 0, s2 := 0, x := 3 }
     InTime c 1 ∧ o.x = 3) ∧
    (let s : State := casting [] none
     let t : Fin 64 := 1
     let c : CastCtx := ctxOf s t.val
     castCtx s t.val = some c ∧
     let o : RegForm := { d := 1, s1 := 2, s2 := 3, x := 4 }
     InTime c 1 ∧ o.x = 4) ∧
    (let s : State := casting [] none
     let t : Fin 64 := 1
     let c : CastCtx := ctxOf s t.val
     castCtx s t.val = some c ∧
     let o : RegForm := { d := 1, s1 := 2, s2 := 3, x := 5 }
     InTime c 1 ∧ o.x = 5) := by
  refine ⟨?_, ?_, ?_, ?_, ?_, ?_, ?_, ?_, ?_⟩ <;> decide +kernel

theorem witness_ShiftSaturateFieldWritesD :
    (let s : State := casting [] none
     let t : Fin 64 := 1
     let c : CastCtx := ctxOf s t.val
     castCtx s t.val = some c ∧ InTime c 1 ∧
     let o : RegForm := { d := 5, s1 := 1, s2 := 4, x := 0 }
     BitVec.extractLsb' 5 6 o.x = 0 ∧ (o.x.getLsbD 13 = true → o.s2 = 0) ∧ (o.x.getLsbD 13 = false → BitVec.extractLsb' 0 5 o.x = 0) ∧
     BitVec.extractLsb' 11 2 o.x = 0) ∧
    (let s : State := (casting (List.replicate 16 (0x10000020, 5)) none)
     let t : Fin 64 := 1
     let c : CastCtx := ctxOf s t.val
     castCtx s t.val = some c ∧ InTime c 1 ∧
     let o : RegForm := { d := 5, s1 := 1, s2 := 0, x := 0x800 }
     BitVec.extractLsb' 5 6 o.x = 0 ∧ (o.x.getLsbD 13 = true → o.s2 = 0) ∧ (o.x.getLsbD 13 = false → BitVec.extractLsb' 0 5 o.x = 0) ∧
     BitVec.extractLsb' 11 2 o.x = 1) ∧
    (let s : State := (casting (List.replicate 16 (0x10000020, 5)) none)
     let t : Fin 64 := 1
     let c : CastCtx := ctxOf s t.val
     castCtx s t.val = some c ∧ InTime c 1 ∧
     let o : RegForm := { d := 5, s1 := 1, s2 := 0, x := 0x1000 }
     BitVec.extractLsb' 5 6 o.x = 0 ∧ (o.x.getLsbD 13 = true → o.s2 = 0) ∧ (o.x.getLsbD 13 = false → BitVec.extractLsb' 0 5 o.x = 0) ∧
     BitVec.extractLsb' 11 2 o.x = 2) ∧
    (let s : State := (casting (List.replicate 16 (0x10000020, 5)) none)
     let t : Fin 64 := 1
     let c : CastCtx := ctxOf s t.val
     castCtx s t.val = some c ∧ InTime c 1 ∧
     let o : RegForm := { d := 5, s1 := 1, s2 := 0, x := 0x1800 }
     BitVec.extractLsb' 5 6 o.x = 0 ∧ (o.x.getLsbD 13 = true → o.s2 = 0) ∧ (o.x.getLsbD 13 = false → BitVec.extractLsb' 0 5 o.x = 0) ∧
     BitVec.extractLsb' 11 2 o.x = 3) ∧
    (let s : State := casting [] none
     let t : Fin 64 := 1
     let c : CastCtx := ctxOf s t.val
     castCtx s t.val = some c ∧ InTime c 1 ∧
     let o : RegForm := { d := 2, s1 := 2, s2 := 0, x := 0 }
     o.x.toNat < 8 ∧ o.s2 = 0) ∧
    (let s : State := casting [] none
     let t : Fin 64 := 1
     let c : CastCtx := ctxOf s t.val
     castCtx s t.val = some c ∧ InTime c 1 ∧
     let o : RegForm := { d := 0, s1 := 0, s2 := 0, x := 1 }
     let pos : Nat := 0
     let width : Nat := 2
     o.s2 = 0 ∧ BitVec.extractLsb' 5 3 o.x = 0 ∧ pos = (BitVec.extractLsb' 8 5 o.x).toNat ∧ width = (BitVec.extractLsb' 0 5 o.x).toNat + 1 ∧ pos +
     width ≤ 32) := by
  refine ⟨?_, ?_, ?_, ?_, ?_, ?_⟩ <;> decide +kernel

theorem witness_DivideTruncatesOrTrapsDivZero :
    (let s : State := (setFld (setFld (casting [] none) R.DBG_STAT F.DBG_STAT_SESSION 1) R.DBG_HOLD F.DBG_HOLD_HOLD 1)
     let t : Fin 64 := 1
     let c : CastCtx := ctxOf s t.val
     let o : RegForm := { d := 4, s1 := 3, s2 := 2, x := 1 }
     castCtx s t.val = some c ∧
     let b : Word := breg c.b o.s2
     b ≠ 0 ∧ InTime c 34 ∧ o.x = 1) ∧
    (let s : State := casting [] none
     let t : Fin 64 := 1
     let c : CastCtx := ctxOf s t.val
     let o : RegForm := { d := 0, s1 := 1, s2 := 2, x := 0 }
     castCtx s t.val = some c ∧
     let a : Word := breg c.b o.s1
     let b : Word := breg c.b o.s2
     b ≠ 0 ∧ InTime c 34 ∧ o.x = 0 ∧ (¬(a = 0x80000000 ∧ b = 0xFFFFFFFF))) ∧
    (let s : State := (casting (List.replicate 16 (0x10000020, 5)) none)
     let t : Fin 64 := 1
     let c : CastCtx := ctxOf s t.val
     let o : RegForm := { d := 5, s1 := 1, s2 := 4, x := 0 }
     castCtx s t.val = some c ∧
     let a : Word := breg c.b o.s1
     let b : Word := breg c.b o.s2
     b ≠ 0 ∧ InTime c 34 ∧ o.x = 0 ∧ a = 0x80000000 ∧ b = 0xFFFFFFFF) ∧
    (let s : State := casting [] none
     let t : Fin 64 := 1
     let c : CastCtx := ctxOf s t.val
     let o : RegForm := { d := 2, s1 := 2, s2 := 0, x := 0 }
     castCtx s t.val = some c ∧
     let b : Word := breg c.b o.s2
     b = 0 ∧ o.x.toNat ≤ 1) := by
  refine ⟨?_, ?_, ?_, ?_⟩ <;> decide +kernel

theorem witness_SpecialRegistersMoveThroughMfsMts :
    (let s : State := (casting (List.replicate 16 (0x10000020, 5)) none)
     let t : Fin 64 := 1
     let c : CastCtx := ctxOf s t.val
     let o : RegForm := { d := 0, s1 := 0, s2 := 0, x := 0 }
     castCtx s t.val = some c ∧ o.s2 = 0 ∧ o.s1 = 0 ∧ InTime c 1 ∧ o.x = 0) ∧
    (let s : State := casting [] none
     let t : Fin 64 := 1
     let c : CastCtx := ctxOf s t.val
     let o : RegForm := { d := 3, s1 := 0, s2 := 0, x := 1 }
     castCtx s t.val = some c ∧ o.s2 = 0 ∧ o.s1 = 0 ∧ InTime c 1 ∧ o.x = 1) ∧
    (let s : State := (setFld (setFld (casting [] none) R.DBG_STAT F.DBG_STAT_SESSION 1) R.DBG_HOLD F.DBG_HOLD_HOLD 1)
     let t : Fin 64 := 1
     let c : CastCtx := ctxOf s t.val
     let o : RegForm := { d := 3, s1 := 0, s2 := 0, x := 2 }
     castCtx s t.val = some c ∧ o.s2 = 0 ∧ o.s1 = 0 ∧ InTime c 1 ∧ o.x = 2) ∧
    (let s : State := casting [] none
     let t : Fin 64 := 1
     let c : CastCtx := ctxOf s t.val
     let o : RegForm := { d := 3, s1 := 0, s2 := 0, x := 3 }
     castCtx s t.val = some c ∧ o.s2 = 0 ∧ o.s1 = 0 ∧ InTime c 1 ∧ o.x = 3 ∧ c.b.stack = []) ∧
    (let s : State := casting [(0x10000020, 5)] (some 5)
     let t : Fin 64 := 1
     let c : CastCtx := ctxOf s t.val
     let o : RegForm := { d := 3, s1 := 0, s2 := 0, x := 3 }
     castCtx s t.val = some c ∧ o.s2 = 0 ∧ o.s1 = 0 ∧ InTime c 1 ∧
     let ra : Word := 0x10000020
     let ib : Word := 5
     let r : List (Word × Word) := []
     o.x = 3 ∧ c.b.stack = (ra, ib) :: r) ∧
    (let s : State := (setFld (setFld (casting [] none) R.DBG_STAT F.DBG_STAT_SESSION 1) R.DBG_HOLD F.DBG_HOLD_HOLD 1)
     let t : Fin 64 := 1
     let c : CastCtx := ctxOf s t.val
     let o : RegForm := { d := 0, s1 := 1, s2 := 0, x := 1 }
     castCtx s t.val = some c ∧ o.s2 = 0 ∧ o.d = 0 ∧ o.x = 1 ∧ InTime c 2) ∧
    (let s : State := (casting (List.replicate 16 (0x10000020, 5)) none)
     let t : Fin 64 := 1
     let c : CastCtx := ctxOf s t.val
     let o : RegForm := { d := 0, s1 := 0, s2 := 0, x := 0 }
     castCtx s t.val = some c ∧ o.s2 = 0 ∧ o.d = 0 ∧ (o.x = 0 ∨ o.x = 2 ∨ o.x = 3)) := by
  refine ⟨?_, ?_, ?_, ?_, ?_, ?_, ?_⟩ <;> decide +kernel

theorem witness_LoadsFillD :
    (let s : State := casting [] none
     let t : Fin 64 := 1
     let c : CastCtx := ctxOf s t.val
     let o : MemForm := { d := 2, s1 := 9, bsel := 0, disp := 0x10 }
     castCtx s t.val = some c ∧
     let a : Nat := memAddr c.m c.b o
     InTime c 4 ∧ (a % 4 = 0 ∧ (inCode c.m a 4 = true ∨ inData c.m a 4 = true))) ∧
    (let s : State := casting [] none
     let t : Fin 64 := 1
     let c : CastCtx := ctxOf s t.val
     let o : MemForm := { d := 2, s1 := 9, bsel := 0, disp := 0x10 }
     castCtx s t.val = some c ∧
     let a : Nat := memAddr c.m c.b o
     InTime c 4 ∧ (a % 2 = 0 ∧ (inCode c.m a 2 = true ∨ inData c.m a 2 = true))) ∧
    (let s : State := casting [] none
     let t : Fin 64 := 1
     let c : CastCtx := ctxOf s t.val
     let o : MemForm := { d := 2, s1 := 9, bsel := 0, disp := 0x10 }
     castCtx s t.val = some c ∧
     let a : Nat := memAddr c.m c.b o
     InTime c 4 ∧ (a % 1 = 0 ∧ (inCode c.m a 1 = true ∨ inData c.m a 1 = true))) ∧
    (let s : State := casting [] none
     let t : Fin 64 := 1
     let c : CastCtx := ctxOf s t.val
     let o : MemForm := { d := 2, s1 := 9, bsel := 0, disp := 0x10 }
     castCtx s t.val = some c ∧
     let a : Nat := memAddr c.m c.b o
     InTime c 5 ∧ (a % 8 = 0 ∧ (inCode c.m a 8 = true ∨ inData c.m a 8 = true)) ∧ o.d.toNat % 2 = 0) := by
  refine ⟨?_, ?_, ?_, ?_⟩ <;> decide +kernel

theorem witness_StoresPutLowBytes :
    (let s : State := casting [] none
     let t : Fin 64 := 1
     let c : CastCtx := ctxOf s t.val
     let o : MemForm := { d := 2, s1 := 9, bsel := 0, disp := 0x10 }
     castCtx s t.val = some c ∧ InTime c 1 ∧
     let a : Nat := memAddr c.m c.b o
     a % 4 = 0 ∧ inData c.m a 4 = true ∧ 0x20000 ≤ a) ∧
    (let s : State := casting [] none
     let t : Fin 64 := 1
     let c : CastCtx := ctxOf s t.val
     let o : MemForm := { d := 2, s1 := 9, bsel := 0, disp := 0x10 }
     castCtx s t.val = some c ∧ InTime c 1 ∧
     let a : Nat := memAddr c.m c.b o
     a % 2 = 0 ∧ inData c.m a 2 = true ∧ 0x20000 ≤ a) ∧
    (let s : State := casting [] none
     let t : Fin 64 := 1
     let c : CastCtx := ctxOf s t.val
     let o : MemForm := { d := 2, s1 := 9, bsel := 0, disp := 0x10 }
     castCtx s t.val = some c ∧ InTime c 1 ∧
     let a : Nat := memAddr c.m c.b o
     a % 1 = 0 ∧ inData c.m a 1 = true ∧ 0x20000 ≤ a) ∧
    (let s : State := casting [] none
     let t : Fin 64 := 1
     let c : CastCtx := ctxOf s t.val
     let o : MemForm := { d := 2, s1 := 9, bsel := 0, disp := 0x10 }
     castCtx s t.val = some c ∧ InTime c 1 ∧
     let a : Nat := memAddr c.m c.b o
     o.d.toNat % 2 = 0 ∧ a % 8 = 0 ∧ inData c.m a 8 = true ∧ 0x20000 ≤ a) := by
  refine ⟨?_, ?_, ?_, ?_⟩ <;> decide +kernel

theorem witness_FloatOpcodesWriteD :
    (let s : State := casting [] none
     let t : Fin 64 := 1
     let c : CastCtx := ctxOf s t.val
     let o : RegForm := { d := 2, s1 := 2, s2 := 0, x := 0 }
     castCtx s t.val = some c ∧ o.x = 0 ∧ InTime c 4) ∧
    (let s : State := casting [] none
     let t : Fin 64 := 1
     let c : CastCtx := ctxOf s t.val
     let o : RegForm := { d := 2, s1 := 2, s2 := 0, x := 0 }
     castCtx s t.val = some c ∧ o.x = 0 ∧ InTime c 14) ∧
    (let s : State := casting [] none
     let t : Fin 64 := 1
     let c : CastCtx := ctxOf s t.val
     let o : RegForm := { d := 2, s1 := 2, s2 := 0, x := 0 }
     castCtx s t.val = some c ∧ o.x = 0 ∧ InTime c 5) ∧
    (let s : State := casting [] none
     let t : Fin 64 := 1
     let c : CastCtx := ctxOf s t.val
     let o : RegForm := { d := 3, s1 := 0, s2 := 0, x := 1 }
     castCtx s t.val = some c ∧ o.x.toNat < 8 ∧ o.s2 = 0 ∧ InTime c 16) ∧
    (let s : State := casting [] none
     let t : Fin 64 := 1
     let c : CastCtx := ctxOf s t.val
     let o : RegForm := { d := 3, s1 := 0, s2 := 0, x := 1 }
     castCtx s t.val = some c ∧ o.x.toNat < 8 ∧ o.s2 = 0 ∧ InTime c 4) ∧
    (let s : State := casting [] none
     let t : Fin 64 := 1
     let c : CastCtx := ctxOf s t.val
     let o : RegForm := { d := 3, s1 := 0, s2 := 0, x := 1 }
     castCtx s t.val = some c ∧ o.x.toNat ≤ 3 ∧ InTime c 4) := by
  refine ⟨?_, ?_, ?_, ?_, ?_, ?_⟩ <;> decide +kernel

theorem witness_BranchesMoveThePc_1 :
    (let s : State := casting [] none
     let t : Fin 64 := 1
     let c : CastCtx := ctxOf s t.val
     let o : BrForm := { a := 0, b := 0, imm := 0 }
     castCtx s t.val = some c ∧ InTime c 1 ∧ InTime c 3 ∧
     let a : Word := breg c.b o.a
     let b : Word := breg c.b o.b
     a = b) ∧
    (let s : State := casting [] none
     let t : Fin 64 := 1
     let c : CastCtx := ctxOf s t.val
     let o : BrForm := { a := 1, b := 2, imm := 5 }
     castCtx s t.val = some c ∧ InTime c 1 ∧ InTime c 3 ∧
     let a : Word := breg c.b o.a
     let b : Word := breg c.b o.b
     (¬a = b)) ∧
    (let s : State := casting [] none
     let t : Fin 64 := 1
     let c : CastCtx := ctxOf s t.val
     let o : BrForm := { a := 1, b := 2, imm := 5 }
     castCtx s t.val = some c ∧ InTime c 1 ∧ InTime c 3 ∧
     let a : Word := breg c.b o.a
     let b : Word := breg c.b o.b
     a ≠ b) ∧
    (let s : State := casting [] none
     let t : Fin 64 := 1
     let c : CastCtx := ctxOf s t.val
     let o : BrForm := { a := 0, b := 0, imm := 0 }
     castCtx s t.val = some c ∧ InTime c 1 ∧ InTime c 3 ∧
     let a : Word := breg c.b o.a
     let b : Word := breg c.b o.b
     (¬a ≠ b)) ∧
    (let s : State := casting [] none
     let t : Fin 64 := 1
     let c : CastCtx := ctxOf s t.val
     let o : BrForm := { a := 1, b := 2, imm := 5 }
     castCtx s t.val = some c ∧ InTime c 1 ∧ InTime c 3 ∧
     let a : Word := breg c.b o.a
     let b : Word := breg c.b o.b
     BitVec.toInt a < BitVec.toInt b) ∧
    (let s : State := casting [] none
     let t : Fin 64 := 1
     let c : CastCtx := ctxOf s t.val
     let o : BrForm := { a := 0, b := 0, imm := 0 }
     castCtx s t.val = some c ∧ InTime c 1 ∧ InTime c 3 ∧
     let a : Word := breg c.b o.a
     let b : Word := breg c.b o.b
     (¬BitVec.toInt a < BitVec.toInt b)) ∧
    (let s : State := casting [] none
     let t : Fin 64 := 1
     let c : CastCtx := ctxOf s t.val
     let o : BrForm := { a := 0, b := 0, imm := 0 }
     castCtx s t.val = some c ∧ InTime c 1 ∧ InTime c 3 ∧
     let a : Word := breg c.b o.a
     let b : Word := breg c.b o.b
     BitVec.toInt b ≤ BitVec.toInt a) ∧
    (let s : State := casting [] none
     let t : Fin 64 := 1
     let c : CastCtx := ctxOf s t.val
     let o : BrForm := { a := 1, b := 2, imm := 5 }
     castCtx s t.val = some c ∧ InTime c 1 ∧ InTime c 3 ∧
     let a : Word := breg c.b o.a
     let b : Word := breg c.b o.b
     (¬BitVec.toInt b ≤ BitVec.toInt a)) ∧
    (let s : State := (setFld (setFld (casting [] none) R.DBG_STAT F.DBG_STAT_SESSION 1) R.DBG_HOLD F.DBG_HOLD_HOLD 1)
     let t : Fin 64 := 1
     let c : CastCtx := ctxOf s t.val
     let o : BrForm := { a := 2, b := 1, imm := 5 }
     castCtx s t.val = some c ∧ InTime c 1 ∧ InTime c 3 ∧
     let a : Word := breg c.b o.a
     let b : Word := breg c.b o.b
     BitVec.toNat a < BitVec.toNat b) ∧
    (let s : State := casting [] none
     let t : Fin 64 := 1
     let c : CastCtx := ctxOf s t.val
     let o : BrForm := { a := 1, b := 2, imm := 5 }
     castCtx s t.val = some c ∧ InTime c 1 ∧ InTime c 3 ∧
     let a : Word := breg c.b o.a
     let b : Word := breg c.b o.b
     (¬BitVec.toNat a < BitVec.toNat b)) ∧
    (let s : State := casting [] none
     let t : Fin 64 := 1
     let c : CastCtx := ctxOf s t.val
     let o : BrForm := { a := 1, b := 2, imm := 5 }
     castCtx s t.val = some c ∧ InTime c 1 ∧ InTime c 3 ∧
     let a : Word := breg c.b o.a
     let b : Word := breg c.b o.b
     BitVec.toNat b ≤ BitVec.toNat a) ∧
    (let s : State := (setFld (setFld (casting [] none) R.DBG_STAT F.DBG_STAT_SESSION 1) R.DBG_HOLD F.DBG_HOLD_HOLD 1)
     let t : Fin 64 := 1
     let c : CastCtx := ctxOf s t.val
     let o : BrForm := { a := 2, b := 1, imm := 5 }
     castCtx s t.val = some c ∧ InTime c 1 ∧ InTime c 3 ∧
     let a : Word := breg c.b o.a
     let b : Word := breg c.b o.b
     (¬BitVec.toNat b ≤ BitVec.toNat a)) := by
  refine ⟨?_, ?_, ?_, ?_, ?_, ?_, ?_, ?_, ?_, ?_, ?_, ?_⟩ <;> decide +kernel

theorem witness_BranchesMoveThePc_2 :
    let s : State := casting [] none
    let t : Fin 64 := 1
    let c : CastCtx := ctxOf s t.val
    let o : BrForm := { a := 0, b := 0, imm := 0 }
    castCtx s t.val = some c ∧ InTime c 1 ∧ InTime c 3 ∧ o.a = 0 := by
  decide +kernel

theorem witness_CallsPushAndReturnsPop :
    (let s : State := casting [] none
     let t : Fin 64 := 1
     let c : CastCtx := ctxOf s t.val
     castCtx s t.val = some c ∧ InTime c 4 ∧
     let o : BrForm := { a := 0, b := 0, imm := 3 }
     o.b = 0 ∧ c.b.stack.length < 16) ∧
    (let s : State := (casting (List.replicate 16 (0x10000020, 5)) none)
     let t : Fin 64 := 1
     let c : CastCtx := ctxOf s t.val
     castCtx s t.val = some c ∧ InTime c 4 ∧
     let o : BrForm := { a := 0, b := 0, imm := 0 }
     o.b = 0 ∧ 16 ≤ c.b.stack.length) ∧
    (let s : State := casting [] none
     let t : Fin 64 := 1
     let c : CastCtx := ctxOf s t.val
     castCtx s t.val = some c ∧ InTime c 4 ∧
     let o : RegForm := { d := 0, s1 := 0, s2 := 0, x := 0 }
     o.s2 = 0 ∧ o.x = 0 ∧ BitVec.toNat (breg c.b o.s1) % 4 = 0 ∧ c.b.stack.length < 16) ∧
    (let s : State := (setFld (setFld (casting [] none) R.DBG_STAT F.DBG_STAT_SESSION 1) R.DBG_HOLD F.DBG_HOLD_HOLD 1)
     let t : Fin 64 := 1
     let c : CastCtx := ctxOf s t.val
     castCtx s t.val = some c ∧ InTime c 4 ∧
     let o : RegForm := { d := 2, s1 := 2, s2 := 0, x := 0 }
     o.s2 = 0 ∧ o.x = 0 ∧ BitVec.toNat (breg c.b o.s1) % 4 ≠ 0) ∧
    (let s : State := (casting (List.replicate 16 (0x10000020, 5)) none)
     let t : Fin 64 := 1
     let c : CastCtx := ctxOf s t.val
     castCtx s t.val = some c ∧ InTime c 4 ∧
     let o : RegForm := { d := 0, s1 := 0, s2 := 0, x := 0 }
     o.s2 = 0 ∧ o.x = 0 ∧ BitVec.toNat (breg c.b o.s1) % 4 = 0 ∧ 16 ≤ c.b.stack.length) ∧
    (let s : State := casting [(0x10000020, 5)] (some 5)
     let t : Fin 64 := 1
     let c : CastCtx := ctxOf s t.val
     castCtx s t.val = some c ∧ InTime c 4 ∧
     let o : RegForm := { d := 0, s1 := 0, s2 := 0, x := 0 }
     o.d = 0 ∧ o.s1 = 0 ∧ o.s2 = 0 ∧ o.x = 0 ∧
     let ra : Word := 0x10000020
     let ib : Word := 5
     let r : List (Word × Word) := []
     c.b.stack = (ra, ib) :: r) ∧
    (let s : State := (setFld (setFld (casting [] none) R.DBG_STAT F.DBG_STAT_SESSION 1) R.DBG_HOLD F.DBG_HOLD_HOLD 1)
     let t : Fin 64 := 1
     let c : CastCtx := ctxOf s t.val
     castCtx s t.val = some c ∧ InTime c 4 ∧
     let o : RegForm := { d := 0, s1 := 0, s2 := 0, x := 0 }
     o.d = 0 ∧ o.s1 = 0 ∧ o.s2 = 0 ∧ o.x = 0 ∧ c.b.stack = []) := by
  refine ⟨?_, ?_, ?_, ?_, ?_, ?_, ?_⟩ <;> decide +kernel

theorem witness_SystemFunctionsGiveTheirWords :
    (let s : State := (setFld (setFld (casting [] none) R.DBG_STAT F.DBG_STAT_SESSION 1) R.DBG_HOLD F.DBG_HOLD_HOLD 1)
     let t : Fin 64 := 1
     let c : CastCtx := ctxOf s t.val
     let o : ImmForm := { d := 0, s1 := 0, imm := 0 }
     castCtx s t.val = some c ∧ InTime c 2 ∧ o.imm.toNat < 256 ∧ o.s1 = 0 ∧ (taskAt s t.val).prevDone = none) ∧
    (let s : State := casting [(0x10000020, 5)] (some 5)
     let t : Fin 64 := 1
     let c : CastCtx := ctxOf s t.val
     let o : ImmForm := { d := 0, s1 := 0, imm := 0 }
     castCtx s t.val = some c ∧ InTime c 2 ∧ o.imm.toNat < 256 ∧ o.s1 = 0 ∧
     let p : DWord := 5
     (taskAt s t.val).prevDone = some p) ∧
    (let s : State := casting [] none
     let t : Fin 64 := 1
     let c : CastCtx := ctxOf s t.val
     let o : ImmForm := { d := 0, s1 := 1, imm := 7 }
     castCtx s t.val = some c ∧ InTime c 2 ∧ o.imm.toNat < 256 ∧ o.d = 0) := by
  refine ⟨?_, ?_, ?_⟩ <;> decide +kernel

theorem witness_HaltsEndTrapOrStop :
    (let s : State := casting [] none
     let t : Fin 64 := 1
     let c : CastCtx := ctxOf s t.val
     let o : ImmForm := { d := 0, s1 := 0, imm := 0 }
     castCtx s t.val = some c ∧ o.d = 0 ∧ o.s1 = 0 ∧ o.imm.toNat % 65536 = 0 ∧ InTime c 1) ∧
    (let s : State := casting [] none
     let t : Fin 64 := 1
     let c : CastCtx := ctxOf s t.val
     let o : ImmForm := { d := 0, s1 := 0, imm := 0x10085 }
     castCtx s t.val = some c ∧ o.d = 0 ∧ o.s1 = 0 ∧ 128 ≤ o.imm.toNat % 65536 ∧ o.imm.toNat % 65536 ≤ 255) ∧
    (let s : State := (setFld (setFld (casting [] none) R.DBG_STAT F.DBG_STAT_SESSION 1) R.DBG_HOLD F.DBG_HOLD_HOLD 1)
     let t : Fin 64 := 1
     let c : CastCtx := ctxOf s t.val
     let o : ImmForm := { d := 0, s1 := 0, imm := 0 }
     castCtx s t.val = some c ∧ o.d = 0 ∧ o.s1 = 0 ∧ o.imm.toNat % 65536 = 0 ∧ coreHeld s (taskCore s t.val) = true) ∧
    (let s : State := casting [] none
     let t : Fin 64 := 1
     let c : CastCtx := ctxOf s t.val
     let o : ImmForm := { d := 0, s1 := 0, imm := 0 }
     castCtx s t.val = some c ∧ o.d = 0 ∧ o.s1 = 0 ∧ o.imm.toNat % 65536 = 0 ∧ coreHeld s (taskCore s t.val) = false) := by
  refine ⟨?_, ?_, ?_, ?_⟩ <;> decide +kernel

theorem witness_RecordInstructionsUpdateTheirRecord :
    (let s : State := casting [] none
     let t : Fin 64 := 1
     let c : CastCtx := ctxOf s t.val
     let o : RecForm := { d := 0, s1 := 0, s2 := 0, off := 0 }
     castCtx s t.val = some c ∧
     let a : Nat := recAddr c.b o
     let kind : Nat := loadN s a 2
     BitVec.toNat c.b.ib % 16 = 0 ∧ inData c.m a 32 = true ∧ 1 ≤ kind ∧ kind ≤ 3 ∧ byteAt s (a + 2) = 1 ∧ 0x20000 ≤ a ∧ InTime c 14) ∧
    (let s : State := casting [(0x10000020, 5)] (some 5)
     let t : Fin 64 := 1
     let c : CastCtx := ctxOf s t.val
     let o : RecForm := { d := 1, s1 := 9, s2 := 3, off := 8 }
     castCtx s t.val = some c ∧
     let a : Nat := recAddr c.b o
     let kind : Nat := loadN s a 2
     BitVec.toNat c.b.ib % 16 = 0 ∧ inData c.m a 32 = true ∧ 4 ≤ kind ∧ kind ≤ 6 ∧ byteAt s (a + 2) = 1 ∧ 0x20000 ≤ a ∧ InTime c 10) ∧
    (let s : State := casting [] none
     let t : Fin 64 := 1
     let c : CastCtx := ctxOf s t.val
     let o : RecForm := { d := 1, s1 := 9, s2 := 0, off := 0x20 }
     castCtx s t.val = some c ∧
     let a : Nat := recAddr c.b o
     let kind : Nat := loadN s a 2
     BitVec.toNat c.b.ib % 16 = 0 ∧ inData c.m a 32 = true ∧ 7 ≤ kind ∧ kind ≤ 8 ∧ byteAt s (a + 2) = 1 ∧ 0x20000 ≤ a ∧ o.s2 = 0 ∧ InTime c 6) ∧
    (let s : State := casting [] none
     let t : Fin 64 := 1
     let c : CastCtx := ctxOf s t.val
     let o : RecForm := { d := 0, s1 := 0, s2 := 0, off := 0 }
     castCtx s t.val = some c ∧
     let a : Nat := recAddr c.b o
     let kind : Nat := loadN s a 2
     BitVec.toNat c.b.ib % 16 = 0 ∧ inData c.m a 32 = true ∧ 1 ≤ kind ∧ kind ≤ 8 ∧ byteAt s (a + 2) = 1 ∧ 0x20000 ≤ a ∧ o.d = 0 ∧ o.s1 = 0 ∧ o.s2 =
     0 ∧ InTime c 4) := by
  refine ⟨?_, ?_, ?_, ?_⟩ <;> decide +kernel

theorem witness_PointInstructionsReachTheDirectory :
    (let s : State := casting [] none
     let t : Fin 64 := 1
     let c : CastCtx := ctxOf s t.val
     let o : PntForm := { addr := 9, index := 0, pid := 1 }
     castCtx s t.val = some c ∧
     let pid : Nat := BitVec.toNat (breg c.b o.index + BitVec.setWidth 32 o.pid)
     let p : Point := pointAt s pid
     let f : Nat := taskFlask s t.val
     let a : Nat := BitVec.toNat (breg c.b o.addr)
     pid < 8192 ∧ a % 8 = 0 ∧ inData c.m a 16 = true ∧ 0x20000 ≤ a ∧ InTime c 40 ∧ mayRead f p = true) ∧
    (let s : State := casting [(0x10000020, 5)] (some 5)
     let t : Fin 64 := 1
     let c : CastCtx := ctxOf s t.val
     let o : PntForm := { addr := 9, index := 0, pid := 7 }
     castCtx s t.val = some c ∧
     let pid : Nat := BitVec.toNat (breg c.b o.index + BitVec.setWidth 32 o.pid)
     let p : Point := pointAt s pid
     let f : Nat := taskFlask s t.val
     let a : Nat := BitVec.toNat (breg c.b o.addr)
     pid < 8192 ∧ a % 8 = 0 ∧ inData c.m a 16 = true ∧ 0x20000 ≤ a ∧ InTime c 40 ∧ mayRead f p = false) ∧
    (let s : State := casting [] none
     let t : Fin 64 := 1
     let c : CastCtx := ctxOf s t.val
     let o : PntForm := { addr := 9, index := 0, pid := 1 }
     castCtx s t.val = some c ∧
     let pid : Nat := BitVec.toNat (breg c.b o.index + BitVec.setWidth 32 o.pid)
     let p : Point := pointAt s pid
     let f : Nat := taskFlask s t.val
     let a : Nat := BitVec.toNat (breg c.b o.addr)
     pid < 8192 ∧ a % 8 = 0 ∧ inData c.m a 16 = true ∧ c.r.deferred.length < 64 ∧ InTime c 30 ∧ mayWrite f p = true) ∧
    (let s : State := casting [(0x10000020, 5)] (some 5)
     let t : Fin 64 := 1
     let c : CastCtx := ctxOf s t.val
     let o : PntForm := { addr := 9, index := 0, pid := 7 }
     castCtx s t.val = some c ∧
     let pid : Nat := BitVec.toNat (breg c.b o.index + BitVec.setWidth 32 o.pid)
     let p : Point := pointAt s pid
     let f : Nat := taskFlask s t.val
     let a : Nat := BitVec.toNat (breg c.b o.addr)
     pid < 8192 ∧ a % 8 = 0 ∧ inData c.m a 16 = true ∧ c.r.deferred.length < 64 ∧ InTime c 30 ∧ mayWrite f p = false) ∧
    (let s : State := casting [] none
     let t : Fin 64 := 1
     let c : CastCtx := ctxOf s t.val
     let o : PntForm := { addr := 9, index := 0, pid := 1 }
     castCtx s t.val = some c ∧
     let pid : Nat := BitVec.toNat (breg c.b o.index + BitVec.setWidth 32 o.pid)
     let p : Point := pointAt s pid
     let f : Nat := taskFlask s t.val
     pid < 8192 ∧ InTime c 36 ∧ mayRead f p = true) ∧
    (let s : State := casting [] none
     let t : Fin 64 := 1
     let c : CastCtx := ctxOf s t.val
     let o : PntForm := { addr := 2, index := 0, pid := 7 }
     castCtx s t.val = some c ∧
     let pid : Nat := BitVec.toNat (breg c.b o.index + BitVec.setWidth 32 o.pid)
     let p : Point := pointAt s pid
     let f : Nat := taskFlask s t.val
     pid < 8192 ∧ InTime c 36 ∧ mayRead f p = false) := by
  refine ⟨?_, ?_, ?_, ?_, ?_, ?_⟩ <;> decide +kernel

theorem witness_IllegalFieldsCutTheRunOff :
    (let s : State := casting [] none
     let t : Fin 64 := 1
     let c : CastCtx := ctxOf s t.val
     castCtx s t.val = some c ∧
     let o : RegForm := { d := 0, s1 := 2, s2 := 0, x := 3 }
     o.x ≠ 0) ∧
    (let s : State := casting [] none
     let t : Fin 64 := 1
     let c : CastCtx := ctxOf s t.val
     castCtx s t.val = some c ∧
     let o : MemForm := { d := 3, s1 := 1, bsel := 3, disp := 2 }
     o.d.toNat % 2 = 1) ∧
    (let s : State := casting [] none
     let t : Fin 64 := 1
     let c : CastCtx := ctxOf s t.val
     castCtx s t.val = some c ∧ modeNow s ≠ mdSTANDBY ∧
     let k : Nat := 8
     k ≠ t.val) := by
  refine ⟨?_, ?_, ?_⟩ <;> decide +kernel

end Sys2Proof.Tests
end

