-- ==== Sys2Proof/Tests/WitnessField.lean ====
section
/-! SUPPORT. Witnesses: for each statement of this part with hypotheses, states and operands that meet the hypotheses of its clauses together. -/

namespace Sys2Proof.Tests

open Sys2Proof.Machine Sys2Proof.Safety

set_option Elab.async false

theorem witness_CycleNetsGoToTheirRegisters : let s := live 3; let x := circAt s 0
    x.acc.length = 6 ∧ x.wraps.length = 6 ∧ x.ivl.length = 6 ∧ (∀ i, x.acc.getD i 0 < 2 ^ 64) ∧ (∀ i, x.wraps.getD i 0 < 256) := by
  have h : ∀ i, (List.replicate 6 0).getD i 0 = 0 := fun i => by
    rw [List.getD_eq_getElem?_getD, List.getElem?_replicate]; split <;> rfl
  have h1 : (circAt (live 3) 0).acc = List.replicate 6 0 := by decide +kernel
  have h2 : (circAt (live 3) 0).wraps = List.replicate 6 0 := by decide +kernel
  have h3 : (circAt (live 3) 0).ivl = List.replicate 6 0 := by decide +kernel
  simp only [h1, h2, h3, h]
  exact ⟨rfl, rfl, rfl, fun _ => by decide, fun _ => by decide⟩

theorem witness_MeteringEventsTakeEffect :
    (let s : State := live 3
     modeNow s ≠ 0 ∧ pageOn s 83 = false) ∧
    (let s : State := live 3
     (∀ (c : Fin 48), (circAt s c.val).running = false) ∧
     let v : Fin 6 := 0
     flag s (R.MTR_VSTAT v.val) F.MTR_VSTAT_ZC_LOST = false) ∧
    (let s : State := live 3
     (∀ (c : Fin 48), (circAt s c.val).running = false) ∧ (∀ (c : Fin 48), circSt s c.val ≠ 3)) ∧
    (let s : State := (setFld (withReg R.RTC_TIME 0x00003000 (setFld (live 4) R.RTC_STAT F.RTC_STAT_VALID 1)) R.MTR_DEM F.MTR_DEM_LEN 15)
     (∀ (c : Fin 48), (circAt s c.val).running = false) ∧ calValid s = true ∧ ofBcd (fld s R.RTC_TIME F.RTC_TIME_MIN) % fld s R.MTR_DEM
     F.MTR_DEM_LEN = 0 ∧ fld s R.RTC_TIME F.RTC_TIME_SEC = 0 ∧ (∀ (c : Fin 48), (circAt s c.val).closing = none ∧ (circAt s c.val).ivlActive =
     false)) ∧
    (let s : State := live 3
     pageOn s 84 = true ∧ meterBarred s = false) := by
  refine ⟨?_, ?_, ?_, ?_, ?_⟩ <;> decide +kernel

theorem witness_CircuitCommandsClearTotals :
    (let s : State := live 3
     let q : Requester := Requester.mgmt 0
     let c : Fin 48 := 0
     Reaches s q 80 280 ∧ Awake s 80 ∧ circSt s c.val = 0) ∧
    (let s : State := metered 1
     let q : Requester := Requester.mgmt 0
     let c : Fin 48 := 0
     Reaches s q 80 280 ∧ Awake s 80 ∧ circSt s c.val ≠ 0) := by
  refine ⟨?_, ?_⟩ <;> decide +kernel

theorem witness_CanBuffersTransmit :
    (let s : State := onBus 0 2 {} (live 4)
     let b : Fin 8 := 0
     let q : Requester := Requester.mgmt 0
     let v : Word := 1
     Reaches s q (fbPage b.val) 144 ∧ BitVec.toNat v < 65536 ∧ txRefused s b.val = false ∧ fbRing s b.val = false ∧ (∀ (n : Fin 16), BitVec.getLsbD
     v n.val = true → bufIllegal s b.val (rd s (R.TXB_CTL b.val n.val)) = false) ∧
     let n : Fin 16 := 0
     v = BitVec.ofNat 32 (2 ^ n.val) ∧ (∀ (k : Fin 16), bufBusy s b.val k.val = false) ∧ (fbSub s b.val = cbACTIVE ∨ fbSub s b.val = cbPASSIVE) ∧
     (busAt s b.val).active = none) ∧
    (let s : State := live 3
     let b : Fin 8 := 0
     let q : Requester := Requester.mgmt 0
     let v : Word := 0x20
     Reaches s q (fbPage b.val) 144 ∧ BitVec.toNat v < 65536 ∧ txRefused s b.val = true) ∧
    (let s : State := (onBus 2 2 { active := some 0, won := false } (bufIn 2 0 2 (live 4)))
     let b : Fin 8 := 2
     let n : Fin 16 := 0
     (busAt s b.val).active = some n.val ∧ (busAt s b.val).won = false) ∧
    (let s : State := (onBus 2 2 { active := some 0, won := false } (bufIn 2 0 2 (live 4)))
     let b : Fin 8 := 2
     let n : Fin 16 := 0
     (busAt s b.val).active = some n.val ∧ (busAt s b.val).cancelled = false ∧ (busAt s b.val).listen = false ∧ flag s (R.FB_CTRL b.val)
     F.FB_CTRL_ECHO = false ∧ tecOf s b.val ≤ 255 ∧ (busAt s b.val).recv < 128 ∧ (∀ (k : Fin 16), bufSt s b.val k.val ≠ bsPENDING)) ∧
    (let s : State := live 3
     let b : Fin 8 := 0
     let q : Requester := Requester.mgmt 0
     let v : Word := 0x100
     let ph : TxPhase := TxPhase.arbitration
     Reaches s q (fbPage b.val) 148 ∧ BitVec.toNat v < 65536 ∧ ph ≠ TxPhase.beforeSof ∧ (∀ k ∈ (busAt s b.val).active, k < 16)) := by
  refine ⟨?_, ?_, ?_, ?_, ?_⟩ <;> decide +kernel

theorem witness_CanStatesFollowTheBus :
    (let s : State := onBus 0 1 {} (live 4)
     let b : Fin 8 := 0
     (∀ k ∈ (busAt s b.val).active, k < 16) ∧ fbSub s b.val = cbINTEGRATING) ∧
    (let s : State := live 3
     let b : Fin 8 := 0
     (∀ k ∈ (busAt s b.val).active, k < 16) ∧ (¬(fbSub s b.val = cbACTIVE ∨ fbSub s b.val = cbPASSIVE))) ∧
    (let s : State := onBus 0 2 {} (live 4)
     let b : Fin 8 := 0
     (∀ k ∈ (busAt s b.val).active, k < 16) ∧
     let x : CanErr := { code := 3, data := true, count := 2, clash := none }
     (fbSub s b.val = cbACTIVE ∨ fbSub s b.val = cbPASSIVE) ∧ (busAt s b.val).listen = false ∧ (busAt s b.val).active = none ∧ x.count.val = 2 ∧
     tecOf s b.val < 128 ∧ (busAt s b.val).recv < 120 ∧ (∀ (k : Fin 16), bufSt s b.val k.val ≠ bsPENDING)) ∧
    (let s : State := (onBus 0 2 { active := some 5, won := true } (setFld (bufIn 0 5 2 (live 4)) (R.FB_ERRC 0) F.FB_ERRC_TEC 250))
     let b : Fin 8 := 0
     (∀ k ∈ (busAt s b.val).active, k < 16) ∧
     let x : CanErr := { code := 1, data := false, count := 1, clash := none }
     (fbSub s b.val = cbACTIVE ∨ fbSub s b.val = cbPASSIVE) ∧ (busAt s b.val).listen = false ∧
     let n : Fin 16 := 5
     (busAt s b.val).active = some n.val ∧ (busAt s b.val).cancelled = false ∧ flag s (R.FB_CTRL b.val) F.FB_CTRL_SSHOT = false ∧ x.count.val ≠ 0 ∧
     248 ≤ tecOf s b.val ∧ tecOf s b.val ≤ 256) ∧
    (let s : State := onBus 0 4 {} (live 4)
     let b : Fin 8 := 0
     (∀ k ∈ (busAt s b.val).active, k < 16) ∧
     let q : Requester := Requester.mgmt 0
     Reaches s q (fbPage b.val) 140 ∧ fbSub s b.val = cbBUSOFF) ∧
    (let s : State := live 3
     let b : Fin 8 := 0
     (∀ k ∈ (busAt s b.val).active, k < 16) ∧
     let q : Requester := Requester.mgmt 0
     Reaches s q (fbPage b.val) 140 ∧ fbSub s b.val ≠ cbBUSOFF) ∧
    (let s : State := onBus 1 5 {} (live 4)
     let b : Fin 8 := 1
     (∀ k ∈ (busAt s b.val).active, k < 16) ∧ fbSub s b.val = cbRECOVERING) ∧
    (let s : State := onBus 0 2 {} (live 4)
     let b : Fin 8 := 0
     (∀ k ∈ (busAt s b.val).active, k < 16) ∧ (fbSub s b.val = cbACTIVE ∨ fbSub s b.val = cbPASSIVE) ∧ (busAt s b.val).active = none ∧ flag s
     (R.FB_CTRL b.val) F.FB_CTRL_PXHD = false) ∧
    (let s : State := onBus 0 6 {} (live 4)
     let b : Fin 8 := 0
     (∀ k ∈ (busAt s b.val).active, k < 16) ∧ fbSub s b.val = cbEXCEPTION ∧ (∀ (k : Fin 16), bufSt s b.val k.val ≠ bsPENDING)) ∧
    (let s : State := (onBus 0 2 { active := some 3 } (setFld (bufIn 0 3 2 (live 4)) (R.FB_CTRL 0) F.FB_CTRL_LISTEN 1))
     let b : Fin 8 := 0
     (∀ k ∈ (busAt s b.val).active, k < 16) ∧ fbSt s b.val ≠ 0 ∧ wantsListen s b.val ≠ (busAt s b.val).listen) := by
  refine ⟨?_, ?_, ?_, ?_, ?_, ?_, ?_, ?_, ?_, ?_⟩ <;> decide +kernel

/-- A frame for a receive queue that takes it, and for one that another producer fills. -/
theorem witness_CanStatesFollowTheBus_frame :
    (let s : State := setFld (onBus 0 2 {} (queueReady 1 (live 4))) (R.FB_RXQ 0) F.FB_RXQ_QUEUE 5
     let x : CanFrame := ⟨false, false, false, false, false, 3, 0x123, 500, [1, 2, 3]⟩
     (∀ k ∈ (busAt s 0).active, k < 16) ∧ fbSub s 0 = cbACTIVE ∧ (busAt s 0).recv = 0 ∧ (∀ k : Fin 16, bufSt s 0 k.val ≠ bsPENDING) ∧
     fbRing s 0 = false ∧ queueProd s (fld s (R.FB_RXQ 0) F.FB_RXQ_QUEUE) = 0 ∧
     (pushPacket s (fld s (R.FB_RXQ 0) F.FB_RXQ_QUEUE) (framePacket 0 x false (busAt s 0).lostB)).2 = false) ∧
    (let s : State := setFld (setFld (onBus 0 2 {} (live 4)) (R.FB_RXQ 0) F.FB_RXQ_QUEUE 5) (R.qCFG 5) F.TND_CFG_PROD 1
     (∀ k ∈ (busAt s 0).active, k < 16) ∧ fbSub s 0 = cbACTIVE ∧ (busAt s 0).recv = 0 ∧ (∀ k : Fin 16, bufSt s 0 k.val ≠ bsPENDING) ∧
     fbRing s 0 = false ∧ queueProd s (fld s (R.FB_RXQ 0) F.FB_RXQ_QUEUE) ≠ 0) := by
  decide +kernel

theorem witness_PortsFollowTheirStates_1 :
    (let s : State := portIn 0 1 0 0 false (live 4)
     let p : Fin 16 := 0
     inStep s p.val 0 = true ∧ (portAt s p.val).stopReq = false) ∧
    (let s : State := portIn 0 1 0 0 true (live 4)
     let p : Fin 16 := 0
     inStep s p.val 0 = true ∧ (¬(portAt s p.val).stopReq = false) ∧ podl s p.val = true) ∧
    (let s : State := portIn 2 1 1 0 false (live 4)
     let p : Fin 16 := 2
     inStep s p.val 1 = true ∧ (portAt s p.val).stopReq = false) ∧
    (let s : State := portIn 2 1 3 0 false (live 4)
     let p : Fin 16 := 2
     inStep s p.val 3 = true) ∧
    (let s : State := (setFld (portIn 2 1 2 1 false (live 4)) (R.SPU_PCFG 2) F.SPU_PCFG_RAIL 1)
     let p : Fin 16 := 2
     inStep s p.val 2 = true ∧
     let c : Fin 16 := 15
     classAdmitted s p.val c.val = true ∧ (portAt s p.val).stopReq = false) ∧
    (let s : State := portIn 2 1 2 1 false (live 4)
     let p : Fin 16 := 2
     inStep s p.val 2 = true ∧
     let c : Fin 16 := 0
     classAdmitted s p.val c.val = false) ∧
    (let s : State := portIn 5 2 0 0 false (live 4)
     let p : Fin 16 := 5
     portSt s p.val = poPOWERUP) ∧
    (let s : State := (portIn 5 3 0 0 false (withPage 0x66 2 (live 4)))
     let p : Fin 16 := 5
     supervised s p.val = true) ∧
    (let s : State := live 3
     let p : Fin 16 := 0
     supervised s p.val = false) ∧
    (let s : State := portIn 5 4 0 0 false (live 4)
     let p : Fin 16 := 5
     portSt s p.val = poFAULT) ∧
    (let s : State := portIn 5 5 0 0 false (live 4)
     let p : Fin 16 := 5
     let P : Nat := spuPage p.val
     portSt s p.val = poDISCHARGE ∧ flag s (R.PG_STATE P) F.PG_REARM = false) ∧
    (let s : State := setFld (live 4) (R.SPU_LINK 2) F.SPU_LINK_LINK 1
     let p : Fin 16 := 2
     linkSt s p.val ≠ lkDOWN ∧ linkSt s p.val ≠ lkUP) := by
  refine ⟨?_, ?_, ?_, ?_, ?_, ?_, ?_, ?_, ?_, ?_, ?_, ?_⟩ <;> decide +kernel

theorem witness_PortsFollowTheirStates_2 :
    let s : State := stationOn 2 3 {} (live 4)
    let p : Fin 16 := 2
    linkSt s p.val = lkUP := by
  decide +kernel

theorem witness_StationsExchangeFrames :
    (let s : State := live 3
     let p : Fin 16 := 0
     (linkSt s p.val ≠ lkUP ∨ s.paused = true)) ∧
    (let s : State := stationOn 2 3 {} (live 4)
     let p : Fin 16 := 2
     let x : UplinkFrame := { bytes := [], fcsOk := true, first := 0, last := 0 }
     linkSt s p.val = lkUP ∧ s.paused = false ∧ (stnAt s p.val).dropDue = false ∧
     let c : Nat := uplinkCause s p.val x
     c ≠ 0) ∧
    (let s : State := stationOn 2 3 { sent := some 1250 } (live 4)
     let p : Fin 16 := 2
     let x : UplinkFrame := stationFrame
     linkSt s p.val = lkUP ∧ s.paused = false ∧ (stnAt s p.val).dropDue = false ∧
     let c : Nat := uplinkCause s p.val x
     let ch : Channel := { n := 0, ty := 2, off := 0, bit := 0, point := 1 }
     c = 0 ∧ channels s p.val 0 = [ch] ∧ mayWrite (spuFlask s p.val) (pointAt s ch.point) = true ∧ forceOn s ch.point = none) ∧
    (let s : State := stationOn 2 3 { dropDue := true } (live 4)
     let p : Fin 16 := 2
     (stnAt s p.val).dropDue = true) ∧
    (let s : State := stationOn 1 3 {} (live 4)
     let p : Fin 16 := 2
     (svcSt s p.val = fsSTARTING ∨ svcSt s p.val = fsSTOPPING) ∧ (stnAt s p.val).subs = false) := by
  refine ⟨?_, ?_, ?_, ?_, ?_⟩ <;> decide +kernel

end Sys2Proof.Tests
end

