-- ==== Sys2Proof/Tests/WitnessHost.lean ====
section
/-! SUPPORT. Witnesses: for each statement of this part with hypotheses, states and operands that meet the hypotheses of its clauses together. -/

namespace Sys2Proof.Tests

open Sys2Proof.Machine Sys2Proof.Safety

set_option Elab.async false

theorem witness_HostMacsCountAndCarryFrames_1 :
    (let s : State := live 3
     let m : Fin 6 := 0
     (pageSt s (hmPage m.val) ≠ 2 ∨ hmUp s m.val = false)) ∧
    (let s : State := macUp 0 {} (live 4)
     let m : Fin 6 := 0
     let x : HostFrame := { bytes := [], fcsOk := true, align := false, symbol := false, overflow := false, stamp := 0 }
     pageSt s (hmPage m.val) = 2 ∧ hmUp s m.val = true ∧
     let e : Option Nat := frameError x (fld s (R.HM_CFG m.val) F.HM_CFG_MAXLEN)
     let n : Nat := 14
     e = some n) ∧
    (let s : State := macUp 0 {} (live 4)
     let m : Fin 6 := 0
     let x : HostFrame := { bytes := (List.replicate 100 3), fcsOk := true, align := false, symbol := false, overflow := true, stamp := 7 }
     pageSt s (hmPage m.val) = 2 ∧ hmUp s m.val = true ∧
     let e : Option Nat := frameError x (fld s (R.HM_CFG m.val) F.HM_CFG_MAXLEN)
     e = none ∧ isPause x.bytes = false ∧ x.overflow = true) ∧
    (let s : State := macUp 0 {} (live 4)
     let m : Fin 6 := 0
     let x : HostFrame := { bytes := (List.replicate 60 0xFF), fcsOk := true, align := false, symbol := false, overflow := false, stamp := 99 }
     pageSt s (hmPage m.val) = 2 ∧ hmUp s m.val = true ∧
     let e : Option Nat := frameError x (fld s (R.HM_CFG m.val) F.HM_CFG_MAXLEN)
     e = none ∧ isPause x.bytes = false ∧ x.overflow = false ∧ hostAccepts s m.val x.bytes = none) ∧
    (let s : State := macUp 0 {} (live 4)
     let m : Fin 6 := 0
     let x : HostFrame :=
         { bytes := [0xFF, 0xFF, 0xFF, 0xFF, 0xFF, 0xFF, 2, 0, 0, 0, 0, 7, 8, 6, 0, 1, 8, 0, 6, 4, 0, 1, 2, 0, 0, 0, 0, 7, 0xA, 0, 0, 1, 0, 0, 0, 0, 0, 0, 0, 0, 0, 0, 0, 0, 0, 0, 0, 0, 0, 0, 0, 0, 0, 0, 0, 0, 0, 0, 0, 0], fcsOk := true, align := false, symbol := false, overflow := false, stamp := 5 }
     pageSt s (hmPage m.val) = 2 ∧ hmUp s m.val = true ∧
     let e : Option Nat := frameError x (fld s (R.HM_CFG m.val) F.HM_CFG_MAXLEN)
     e = none ∧ isPause x.bytes = false ∧ x.overflow = false ∧
     let k : HostKind := HostKind.arp [2, 0, 0, 0, 0, 7] 0xA000001 true
     hostAccepts s m.val x.bytes = some k) ∧
    (let s : State := macUp 1 { queues := [(2, [⟨2, [1, 2, 3, 4, 5, 6], 5, 6, [1, 2]⟩])] } (live 4)
     let m : Fin 6 := 1
     let q : Fin 4 := 2
     let f : TxFrame := { kind := 2, mac := [1, 2, 3, 4, 5, 6], ip := 5, port := 6, data := [1, 2] }
     let r : List TxFrame := []
     pageSt s (hmPage m.val) = 2 ∧ hmUp s m.val = true ∧ (hostAt s m.val).pause ≤ s.now ∧ (∀ k < q.val, hmQueue s m.val k = []) ∧ hmQueue s m.val
     q.val = f :: r) ∧
    (let s : State := live 3
     let m : Fin 6 := 0
     let q : Requester := Requester.mgmt 0
     Reaches s q (hmPage m.val) 140) ∧
    (let s : State := live 3
     let m : Fin 6 := 0
     let q : Requester := Requester.mgmt 0
     Reaches s q (hmPage m.val) 124) ∧
    (let s : State := live 3
     let m : Fin 6 := 0
     let q : Requester := Requester.mgmt 0
     Reaches s q (hmPage m.val) 200 ∧
     let v : Word := 0x80000000
     bits v 31 1 ≠ 0) ∧
    (let s : State := live 3
     let m : Fin 6 := 0
     let q : Requester := Requester.mgmt 0
     let v : Word := 0x100
     Reaches s q (hmPage m.val) 96 ∧ bits v 29 26 = 0 ∧ flag s (R.HM_MDIO m.val) F.HM_MDIO_BUSY = false) ∧
    (let s : State := setFld (live 4) (R.HM_MDIO 2) F.HM_MDIO_BUSY 1
     let m : Fin 6 := 2
     let q : Requester := Requester.mgmt 0
     let v : Word := 2
     Reaches s q (hmPage m.val) 96 ∧ bits v 29 26 = 0 ∧ flag s (R.HM_MDIO m.val) F.HM_MDIO_BUSY = true) ∧
    (let s : State := live 3
     let m : Fin 6 := 0
     let sp : Fin 4 := 1
     let k : Nat := if fld s (R.HM_CFG m.val) F.HM_CFG_SPEED = 0 then sp.val else fld s (R.HM_CFG m.val) F.HM_CFG_SPEED
     k ≠ 0) := by
  refine ⟨?_, ?_, ?_, ?_, ?_, ?_, ?_, ?_, ?_, ?_, ?_, ?_⟩ <;> decide +kernel

theorem witness_HostMacsCountAndCarryFrames_2 :
    let s : State := macUp 0 {} (live 4)
    let m : Fin 6 := 0
    hmUp s m.val = true ∧ pageSt s (hmPage m.val) ≠ 3 := by
  decide +kernel

theorem witness_NrapServesItsRequests :
    (let s : State := live 3
     let m : Fin 6 := 0
     (hostAt s m.val).inbox = []) ∧
    (let s : State := macUp 0 { inbox := [⟨[1, 2, 3, 4, 5, 6], 5, 6, [1, 2]⟩] } (live 4)
     let m : Fin 6 := 0
     let d : Datagram := { mac := [1, 2, 3, 4, 5, 6], ip := 5, port := 6, data := [1, 2] }
     let rest : List Datagram := []
     (hostAt s m.val).inbox = d :: rest ∧ wellFramed d.data = false) ∧
    (let s : State := { live 4 with paused := true }
     s.paused = true) ∧
    (let s : State := ({ bound (macUp 0 {} (keyed 4)) with nrap := { work := [helloReq], gens := [(1, 3)] } })
     let r : NrapReq := helloReq
     s.paused = false ∧ nextRequest s.nrap.work = some r ∧ nrapOps 64 r.area = some [{ code := 1, args := [] }] ∧ 20 ≤ maxOp s r.port ∧ s.boot.due =
     none ∧ r.flags.testBit 3 = false ∧ pageSt s (hmPage r.port) = 2 ∧ (hmQueue s r.port 1).length < 64) ∧
    (let s : State := (withReg (R.NRP_STGBASE 0) 0x80000000 (withReg (R.NRP_STGSZ 0) 0x1000 (live 4)))
     let r : NrapReq := helloReq
     let off : Word := 0x20
     let d : List Byte := List.replicate 256 7
     let f : Nat := flaskOf s (Requester.nrap (Fin.ofNat 64 r.binding))
     d.length % 4 = 0 ∧ d.length < 2 ^ 32 ∧ areaSize s f ≠ 0 ∧ (onStandby s = false ∨ f = 0) ∧ inArea s f (BitVec.toNat off) d.length = true) ∧
    (let s : State := ({ bound (macUp 0 {} (pointed 4)) with nrap := { dests := [(1, some ⟨[1, 2, 3, 4, 5, 6], 5, 6, false⟩)] } })
     let b : Fin 64 := 1
     let d : NrapDest := { mac := [1, 2, 3, 4, 5, 6], ip := 5, udp := 6, gcm := false }
     tget (fun x => none) s.nrap.dests b.val = some d ∧ s.paused = false ∧ bindOn s b.val = true ∧ servesNrap s = true ∧ List.filter (subDue s
     b.val) s.nrap.subs = []) ∧
    (let s : State :=
         ({ bound (macUp 0 {} (pointed 4)) with nrap := { dests := [(1, some ⟨[1, 2, 3, 4, 5, 6], 5, 6, false⟩)], subs := [⟨1, 2, 10, 1, none⟩] } })
     let b : Fin 64 := 1
     let d : NrapDest := { mac := [1, 2, 3, 4, 5, 6], ip := 5, udp := 6, gcm := false }
     tget (fun x => none) s.nrap.dests b.val = some d ∧ s.paused = false ∧ bindOn s b.val = true ∧ servesNrap s = true ∧
     let x : NrapSub := { binding := 1, point := 2, minMs := 10, seq := 1, at_ := none }
     List.filter (subDue s b.val) s.nrap.subs = [x]) := by
  refine ⟨?_, ?_, ?_, ?_, ?_, ?_, ?_⟩ <;> decide +kernel

/-- A datagram that binding 1 authenticates, and the state that holds it. -/
@[irreducible] def goodTag : List Byte := aesCmac (List.replicate 16 7) ([0x4E, 0x52, 1, 0, 4, 0, 4, 0, 0, 0, 0, 0, 9, 0, 0, 0] ++ [2, 0, 0, 0])
def goodFrame : Datagram := sealedDatagram 9 [2, 0, 0, 0]
def goodHead : List Byte := [0x4E, 0x52, 1, 0, 4, 0, 4, 0, 0, 0, 0, 0, 9, 0, 0, 0]
def framed : State := bound (macUp 0 { inbox := [goodFrame] } (keyed 4))
theorem goodTag_length : goodTag.length = 16 := by decide +kernel
theorem goodFrame_data : goodFrame.data = (goodHead ++ [2, 0, 0, 0]) ++ goodTag := by unfold goodTag; rfl
theorem goodFrame_length : goodFrame.data.length = 36 := by rw [goodFrame_data, List.length_append, goodTag_length]; rfl
theorem goodFrame_opens : nrapOpen framed 4 goodFrame.data = some [2, 0, 0, 0] := by
  have h1 : goodFrame.data.take 16 = goodHead := by decide +kernel
  have h2 : (goodFrame.data.drop 16).take (goodFrame.data.length - 32) = [2, 0, 0, 0] := by rw [goodFrame_length]; decide +kernel
  have h3 : goodFrame.data.drop (goodFrame.data.length - 16) = goodTag := by
    rw [goodFrame_length, goodFrame_data]; exact List.drop_left' (by rfl)
  have h4 : (goodFrame.data.getD 3 0).getLsbD 2 = false := by decide +kernel
  have h5 : aesKeyOf (slotAt framed 4) = List.replicate 16 7 := by decide +kernel
  unfold nrapOpen
  have e : aesCmac (List.replicate 16 7) (goodHead ++ [2, 0, 0, 0]) = goodTag := by unfold goodTag goodHead; rfl
  rw [h1, h2, h3, h4, h5]
  dsimp only
  rw [if_neg (by decide), e, if_pos rfl]
theorem witness_NrapServesItsRequests_unbound :
    let s : State := macUp 0 { inbox := [sealedDatagram 9 [1, 0, 0, 0]] } (live 4)
    let d : Datagram := sealedDatagram 9 [1, 0, 0, 0]
    (hostAt s 0).inbox = [d] ∧ wellFramed d.data = true ∧ d.data.length ≤ maxOp s 0 + 32 ∧
    (upTo 64).find? (fun n => bindOn s n && bindPort s n == 0 && bindSlot s n == (d.data.getD 4 0).toNat) = none :=
  ⟨rfl, by decide +kernel⟩
theorem witness_NrapServesItsRequests_served :
    let s : State := framed
    let d : Datagram := goodFrame
    (hostAt s 0).inbox = [d] ∧ nrapOpen s (d.data.getD 4 0).toNat d.data = some [2, 0, 0, 0] ∧ wellFramed d.data = true ∧
    d.data.length ≤ maxOp s 0 + 32 ∧ (upTo 64).find? (fun n => bindOn s n && bindPort s n == 0 && bindSlot s n == (d.data.getD 4 0).toNat) = some 1 ∧
    bindServes s 1 = Code.none ∧ flag s (R.NRP_BIND 1) F.NRP_BIND_GCM_REQ = false ∧ servesNrap s = true ∧ s.paused = false ∧
    s.nrap.work.length < 256 ∧ flag s R.NRP_SATST F.NRP_SATST_SAT = false ∧ (reqOf 0 1 d [2, 0, 0, 0]).hello = false ∧
    leNat (sliceD 0 d.data 8 4) = (rd s R.NRP_BOOT).toNat ∧
    tget (fun _ => 0) s.nrap.lastSeq (portSlot 0 (d.data.getD 4 0).toNat) < (reqOf 0 1 d [2, 0, 0, 0]).seq.toNat := by
  have h : ((goodFrame.data.getD 4 0).toNat) = 4 := by decide +kernel
  refine ⟨rfl, ?_, by decide +kernel⟩
  show nrapOpen framed ((goodFrame.data.getD 4 0).toNat) goodFrame.data = _
  rw [h]
  exact goodFrame_opens

theorem witness_TwinRolesFollowTheHeartbeats :
    (let s : State := live 3
     paired s = false) ∧
    (let s : State := linked 2 0 (hbOf 3 5) (live 4)
     paired s = true ∧ (roleOf s ≠ rlNONE ∨ linkUp s = true)) ∧
    (let s : State := live 3
     (paired s = false ∨ linkUp s = false)) ∧
    (let s : State := linked 2 0 (hbOf 3 5) (live 4)
     let x : Heartbeat :=
         { role := 2, mode := 4, home := true, synced := true, hoReq := false, hoAck := false, revSusp := false, health := 0, epoch := 9, tb := 0x7735940, hoTick := 0, linkVer := 1, grid := 0x1388, fcSeq := 0 }
     let a : DWord := 0
     paired s = true ∧ linkUp s = true ∧ (¬(x.grid.toNat = gridNow s % 65536 ∧ gridTime s ≤ BitVec.toNat a ∧ BitVec.toNat a < gridTime s + 5000))) ∧
    (let s : State := linked 2 0 (hbOf 3 5) (live 4)
     let x : Heartbeat :=
         { role := 2, mode := 4, home := true, synced := true, hoReq := false, hoAck := false, revSusp := false, health := 0, epoch := 9, tb := 0x7735940, hoTick := 0, linkVer := 1, grid := 0x1388, fcSeq := 0 }
     let a : DWord := 0x77359A4
     paired s = true ∧ linkUp s = true ∧ x.grid.toNat = gridNow s % 65536 ∧ gridTime s ≤ BitVec.toNat a ∧ BitVec.toNat a < gridTime s + 5000) ∧
    (let s : State := (setFld (setFld (withTwin (fun t => { t with slots := [(true, true), (true, false), (true, false)], hbNow := none }) (linked 3
         3 (hbOf 2 4) (live 5))) R.TWN_CFG F.TWN_CFG_HOME 1) R.TWN_CFG F.TWN_CFG_TKO_EN 1)
     let n : Nat := nextEpoch (BitVec.toNat (rd s R.TWN_EPOCH)) (BitVec.toNat (rd s R.TWN_PEPOCH)) s.twin.maxSeen (isHome s)
     paired s = true ∧ roleOf s = rlSTANDBY ∧ isHome s = true ∧ flag s R.TWN_CFG F.TWN_CFG_TKO_EN = true ∧ s.twin.decided = none ∧ s.twin.hbNow =
     none ∧ 3 ≤ s.twin.slots.length ∧ (∀ y ∈ List.take 3 s.twin.slots, y.1 = true) ∧ n < 2 ^ 32) ∧
    (let s : State := (withTwin (fun t => { t with decided := some (2, 4) }) (linked 3 3 (hbOf 2 4) (live 5)))
     let reason : Nat := 2
     let silent : Nat := 4
     s.twin.decided = some (reason, silent) ∧ reason < 256 ∧ silent < 256) ∧
    (let s : State := linked 2 0 (hbOf 3 5) (live 4)
     paired s = true ∧ roleOf s = rlACTIVE ∧ s.twin.sent = none) ∧
    (let s : State := live 3
     roleOf s ≠ rlACTIVE) ∧
    (let s : State := live 3
     s.twin.demote = false) ∧
    (let s : State := (withTwin (fun t => { t with demote := true }) (linked 2 0 (hbOf 3 5) (live 4)))
     s.twin.demote = true) := by
  refine ⟨?_, ?_, ?_, ?_, ?_, ?_, ?_, ?_, ?_, ?_, ?_⟩ <;> decide +kernel

theorem witness_HandoversLinkAndForecast_1 :
    (let s : State := linked 2 0 (hbOf 3 5) (live 4)
     let q : Requester := Requester.mgmt 0
     Reaches s q 136 84 ∧ (roleOf s = rlACTIVE ∨ roleOf s = rlSTANDBY) ∧ linkUp s = true ∧ standbyReady s = true) ∧
    (let s : State := live 3
     let q : Requester := Requester.mgmt 0
     Reaches s q 136 84 ∧ (linkUp s = false ∨ standbyReady s = false)) ∧
    (let s : State := live 3
     let q : Requester := Requester.mgmt 0
     Reaches s q 136 84 ∧ s.twin.hoReq = false ∧ s.twin.hoTick = none) ∧
    (let s : State := (withTwin (fun t => { t with hoTick := some 1240 }) (linked 2 0 (hbOf 3 5) (live 4)))
     let q : Requester := Requester.mgmt 0
     Reaches s q 136 84 ∧
     let k : Nat := 1240
     s.twin.hoTick = some k ∧ k * 0x186A0 ≤ BitVec.toNat s.now + 0x186A0) ∧
    (let s : State := (withTwin (fun t => { t with hoTick := some 1260 }) (linked 2 0 (hbOf 3 5) (live 4)))
     let q : Requester := Requester.mgmt 0
     Reaches s q 136 84 ∧
     let k : Nat := 1260
     s.twin.hoTick = some k ∧ BitVec.toNat s.now + 0x186A0 < k * 0x186A0) ∧
    (let s : State := linked 3 3 (hbOf 2 4) (live 5)
     let q : Requester := Requester.mgmt 0
     Reaches s q 136 84 ∧ roleOf s = rlSTANDBY) ∧
    (let s : State := live 3
     let q : Requester := Requester.mgmt 0
     Reaches s q 136 84 ∧ roleOf s ≠ rlSTANDBY) ∧
    (let s : State := (withTwin (fun t => { t with hoTick := some 1260 }) (linked 2 0 (hbOf 3 5) (live 4)))
     let k : Nat := 1260
     s.twin.hoTick = some k ∧ s.nextTick < k) ∧
    (let s : State := (withTwin (fun t => { t with hoTick := some 1240 }) (linked 2 0 (hbOf 3 5) (live 4)))
     let k : Nat := 1240
     s.twin.hoTick = some k ∧ k ≤ s.nextTick ∧ roleOf s = rlACTIVE) ∧
    (let s : State := (withTwin (fun t => { t with hoTick := some 1250 }) (linked 3 3 (hbOf 2 4) (live 5)))
     let k : Nat := 1250
     s.twin.hoTick = some k ∧ k ≤ s.nextTick ∧ roleOf s = rlSTANDBY ∧ (raiseEpoch s).2 = true) ∧
    (let s : State := live 3
     revertDue s = none) ∧
    (let s : State := (setFld (setFld (withTwin (fun t => { t with sweeps := 2 }) (linked 3 3 (hbOf 2 4) (live 5))) R.TWN_CFG F.TWN_CFG_HOME 1)
         R.TWN_CFG F.TWN_CFG_REVERT 1)
     let d : Nat := 0x165A0BC00
     revertDue s = some d ∧ s.twin.sweeps ≠ 0 ∧ s.twin.hoReq = false) := by
  refine ⟨?_, ?_, ?_, ?_, ?_, ?_, ?_, ?_, ?_, ?_, ?_, ?_⟩ <;> decide +kernel

theorem witness_HandoversLinkAndForecast_2 :
    (let s : State := (setFld (setFld (withPage 0x7E 2 (inPair 2 (hbOf 3 5) (live 4))) R.TLM_CFG F.TLM_CFG_LANE0 1) R.TLM_CFG F.TLM_CFG_LANE1 1)
     let lanes : BitVec 2 := 1
     paired s = true ∧ pageSt s 126 = 2 ∧
     let n : Nat := lanes.toNat &&& fld s R.TLM_CFG F.TLM_CFG_LANE0 + 2 * fld s R.TLM_CFG F.TLM_CFG_LANE1
     n ≠ 0) ∧
    (let s : State := live 3
     let b : List Byte := []
     (b.length ≠ 256 ∨ linkUp s = false)) ∧
    (let s : State := linked 2 0 (hbOf 3 5) (live 4)
     let b : List Byte := List.replicate 256 7
     b.length = 256 ∧ linkUp s = true) := by
  refine ⟨?_, ?_, ?_⟩ <;> decide +kernel

theorem witness_MirrorFramesCarryEverything_1 :
    (let s : State := live 3
     pairActive s = false) ∧
    (let s : State := linked 2 0 (hbOf 3 5) (live 4)
     mirrors s = true ∧ s.twin.stopped = false) ∧
    (let s : State := (setFld (setFld (withPage 0x7E 2 (inPair 2 (hbOf 3 5) (live 4))) R.TLM_CFG F.TLM_CFG_LANE0 1) R.TLM_CFG F.TLM_CFG_LANE1 1)
     pairActive s = true ∧ (mirrors s = false ∨ s.twin.stopped = true)) ∧
    (let s : State := live 3
     (receives s = false ∨ syncOf s = syUNSYNCED)) ∧
    (let s : State := (withTwin (fun t => { t with lastTick := some 1249 }) (linked 3 3 (hbOf 2 4) { pointed 5 with forces := [] }))
     let x : StreamRec := { point := 1, quality := 1, seq := 9, value := 0x1122334455667788, tstamp := 0x63 }
     receives s = true ∧ syncOf s = sySYNCED ∧ forceOn s x.point.toNat = none ∧ (pointAt s x.point.toNat).alloc = true) ∧
    (let s : State := linked 3 1 (hbOf 2 4) (live 5)
     receives s = true ∧ (syncOf s = syBULK ∨ syncOf s = syCATCHUP)) ∧
    (let s : State := (withTwin (fun t => { t with lastTick := some 1249 }) (linked 3 3 (hbOf 2 4) { pointed 5 with forces := [] }))
     let x : MirrorFrame :=
         { tick := 0x4E3, epoch := 2, flasks := 1, carry := 7, cut := 0x4E2, loops := [], xch := [], config := [{ page := 0x38, off := 0x40, v := 5 }], force := [{ op := 1, setter := 0, index := 3, point := 1, written := false, orphan := false, uQuality := 0, value := 7, uValue := 8, uTstamp := 9, uSource := 3 }], energy := [], evSeq := some 4, runs := [], grans := [] }
     let k : DWord := 0x4E1
     receives s = true ∧ syncOf s = sySYNCED ∧ s.twin.lastTick = some k ∧ x.tick ≠ k + 1) ∧
    (let s : State := (withTwin (fun t => { t with lastTick := some 1249 }) (linked 3 3 (hbOf 2 4) { pointed 5 with forces := [] }))
     let x : MirrorFrame :=
         { tick := 0x4E2, epoch := 2, flasks := 0, carry := 0, cut := 0x4E2, loops := [], xch := [], config := [], force := [], energy := [], evSeq := none, runs := [], grans := [] }
     let k : DWord := 0x4E1
     receives s = true ∧ syncOf s = sySYNCED ∧ s.twin.lastTick = some k ∧ x.tick = k + 1 ∧ x.carry = 0 ∧ x.xch = [] ∧ x.config = [] ∧ x.force = [] ∧
     x.energy = [] ∧ x.evSeq = none ∧ x.runs = [] ∧ x.grans = []) ∧
    (let s : State := linked 3 0 (hbOf 2 4) (live 5)
     receives s = true ∧ syncOf s = syUNSYNCED) ∧
    (let s : State := linked 2 0 (hbOf 3 5) (live 4)
     let x : BulkImage := { flask := none, config := [], points := [], forces := [], moulds := [], nvr := [] }
     x.flask = none ∧ pairActive s = true) ∧
    (let s : State := linked 3 1 (hbOf 2 4) (live 5)
     let x : BulkImage := { flask := none, config := [], points := [], forces := [], moulds := [], nvr := [] }
     x.flask = none ∧ receives s = true ∧ syncOf s = syBULK ∧ (List.map (fun x => x.point) x.points).Nodup) ∧
    (let s : State := (withReg R.MIR_RESYNC 2 (linked 3 3 (hbOf 2 4) (live 5)))
     let x : BulkImage := { flask := some 1, config := [], points := [], forces := [], moulds := [], nvr := [] }
     let f : Fin 32 := 1
     x.flask = some f ∧ receives s = true ∧ BitVec.getLsbD (rd s R.MIR_RESYNC) f.val = true) := by
  refine ⟨?_, ?_, ?_, ?_, ?_, ?_, ?_, ?_, ?_, ?_, ?_, ?_⟩ <;> decide +kernel

theorem witness_MirrorFramesCarryEverything_2 :
    let s : State := linked 3 2 (hbOf 2 4) (live 5)
    receives s = true ∧ syncOf s = syCATCHUP ∧ s.twin.queue = [] := by
  decide +kernel

theorem witness_ArbitersDrawAndLocksHold_1 :
    (let s : State := live 3
     let r : FabricReq := { id := 0, beats := 0 }
     s.fabric.current = none ∧ s.fabric.cut = none ∧ s.fabric.waiting = [] ∧ s.fabric.debug = none ∧ contends s r.id.val = true) ∧
    (let s : State := live 3
     let b : Fin 56 := 0
     let x : FabricReq := { id := 0, beats := 0 }
     let y : FabricReq := { id := 1, beats := 7 }
     x.id.val < y.id.val ∧ tget (fun x => []) s.fabric.bankWait b.val = []) ∧
    (let s : State := live 3
     let id : Fin 27 := 0
     outOf s id.val = 0) ∧
    (let s : State := { live 4 with fabric := { out := [(5, 2)] } }
     let id : Fin 27 := 5
     outOf s id.val ≠ 0) ∧
    (let s : State := { session (live 4) with fabric := { current := some ⟨3, 5⟩ } }
     let x : Transfer := { id := 3, beats := 5 }
     flag s R.DBG_STAT F.DBG_STAT_SESSION = true ∧ s.fabric.current = some x ∧ x.id ≠ 26 ∧ 2 ≤ x.beats ∧ s.fabric.cool ≤ 1 ∧ outOf s 26 < outLimit s
     26 ∧ outTotal s < 128) ∧
    (let s : State := live 3
     flag s R.DBG_STAT F.DBG_STAT_SESSION = false) ∧
    (let s : State := live 3
     let q : Requester := Requester.mgmt 0
     let bank : Bool := false
     let v : Word := 0
     let page : Nat := if bank = true then 9 else 8
     Reaches s q page 64 ∧ v = 0) ∧
    (let s : State := live 3
     let q : Requester := Requester.mgmt 0
     let bank : Bool := false
     let v : Word := 2
     let page : Nat := if bank = true then 9 else 8
     Reaches s q page 64 ∧ v ≠ 0 ∧ BitVec.toNat v < 65536) ∧
    (let s : State := live 3
     let o : LockOwner := { req := 0, ctx := 0 }
     let n : Fin 64 := 0
     o.req ≠ 22 ∧ ReachesWindow s (if o.req = 26 then Requester.debug else Requester.mgmt 0) ∧
     let req : Nat := o.req.val
     let ctx : Nat := ownerCtx o
     (∀ m ∈ highestLock s req ctx, m < n.val) ∧ lockHeld s n.val = false) ∧
    (let s : State := heldLock 5 0 0 0 (live 4)
     let o : LockOwner := { req := 1, ctx := 3 }
     let n : Fin 64 := 5
     o.req ≠ 22 ∧ ReachesWindow s (if o.req = 26 then Requester.debug else Requester.mgmt 0) ∧
     let req : Nat := o.req.val
     let ctx : Nat := ownerCtx o
     (∀ m ∈ highestLock s req ctx, m < n.val) ∧ lockHeld s n.val = true) ∧
    (let s : State := heldLock 5 0 0 0 (live 4)
     let o : LockOwner := { req := 0, ctx := 0 }
     let n : Fin 64 := 0
     o.req ≠ 22 ∧ ReachesWindow s (if o.req = 26 then Requester.debug else Requester.mgmt 0) ∧
     let req : Nat := o.req.val
     let ctx : Nat := ownerCtx o
     let m : Nat := 5
     highestLock s req ctx = some m ∧ n.val ≤ m) ∧
    (let s : State := heldLock 5 0 0 0 (live 4)
     let o : LockOwner := { req := 0, ctx := 0 }
     let n : Fin 64 := 5
     o.req ≠ 22 ∧ ReachesWindow s (if o.req = 26 then Requester.debug else Requester.mgmt 0) ∧
     let req : Nat := o.req.val
     let ctx : Nat := ownerCtx o
     lockOwnedBy s n.val req ctx = true) := by
  refine ⟨?_, ?_, ?_, ?_, ?_, ?_, ?_, ?_, ?_, ?_, ?_, ?_⟩ <;> decide +kernel

theorem witness_ArbitersDrawAndLocksHold_2 :
    (let s : State := live 3
     let o : LockOwner := { req := 0, ctx := 0 }
     let n : Fin 64 := 0
     o.req ≠ 22 ∧ ReachesWindow s (if o.req = 26 then Requester.debug else Requester.mgmt 0) ∧
     let req : Nat := o.req.val
     let ctx : Nat := ownerCtx o
     lockOwnedBy s n.val req ctx = false) ∧
    (let s : State := live 3
     let n : Fin 64 := 0
     let x : LockTimer := tget (fun x => { }) s.lockTimers n.val
     (lockHeld s n.val = false ∨ x.holdUs = 0)) ∧
    (let s : State := heldLock 5 1 3 700 (live 4)
     let n : Fin 64 := 5
     let x : LockTimer := tget (fun x => { }) s.lockTimers n.val
     lockHeld s n.val = true ∧ x.holdUs ≠ 0) ∧
    (let s : State := heldLock 5 0 0 0 (live 4)
     let q : Requester := Requester.mgmt 0
     let n : Fin 64 := 5
     Reaches s q 10 64 ∧ lockHeld s n.val = true) ∧
    (let s : State := live 3
     let q : Requester := Requester.mgmt 0
     let n : Fin 64 := 0
     Reaches s q 10 64 ∧ lockHeld s n.val = false) := by
  refine ⟨?_, ?_, ?_, ?_, ?_⟩ <;> decide +kernel

theorem witness_ChannelsMoveAndQueuesDeliver_1 :
    (let s : State := live 3
     let c : Fin 16 := 0
     let page : Nat := ldPage c.val
     subOf s page ≠ lsFETCH) ∧
    (let s : State := bulk 2 1 0x7 {} (live 4)
     let c : Fin 16 := 2
     let page : Nat := ldPage c.val
     let a : Nat := BitVec.toNat (rd s (R.LDLB_CUR c.val))
     subOf s page = lsFETCH ∧ descriptorCode s (pageOwner s page) a ≠ Code.none) ∧
    (let s : State := { bulk 0 1 0x80000000 {} (live 4) with mem := descCells 0x80000000 0x80000000 64 0x80001000 0x80002000 0 }
     let c : Fin 16 := 0
     let page : Nat := ldPage c.val
     let a : Nat := BitVec.toNat (rd s (R.LDLB_CUR c.val))
     let j : LadleJob := descriptorAt s a
     subOf s page = lsFETCH ∧ descriptorCode s (pageOwner s page) a = Code.none ∧ decodeError s a 32 false = false ∧ bit j.ctrl 31 = true ∧ jobCheck
     s c.val j (descriptorRsv s a) = Code.none) ∧
    (let s : State := live 3
     let c : Fin 16 := 0
     let page : Nat := ldPage c.val
     let q : Requester := Requester.mgmt 0
     Reaches s q page 76) ∧
    (let s : State := bulk 2 3 0x80000000 { job := some (demoJob 0), done := 64, result := 1 } (live 4)
     let c : Fin 16 := 2
     let page : Nat := ldPage c.val
     let k : LadleJob := { addr := 0x80000000, ctrl := 0x80000000, len := 64, src := 0x80001000, dst := 0x80002000, next := 0 }
     subOf s page = lsWRITEBACK ∧ (ladleAt s c.val).job = some k ∧ (ladleAt s c.val).wbSteps = 0 ∧ 0x20000 ≤ k.addr ∧ k.next < 2 ^ 32) ∧
    (let s : State := bulk 1 2 0x80000000 { job := some (demoJob 0), done := 8 } (live 4)
     let ch : Fin 64 := 1
     let n : Fin 257 := 0
     let j : LadleJob := { addr := 0x80000000, ctrl := 0x80000000, len := 64, src := 0x80001000, dst := 0x80002000, next := 0 }
     let x : LadleCh := ladleAt s ch.val
     let k : Nat := min (j.len - x.done) (max 1 n.val)
     x.job = some j ∧ moving s ch.val = true ∧ jobSrcQ j = false ∧ jobDstQ j = false ∧ x.ended = false ∧ x.done < j.len ∧ inWindow j.src = false ∧
     inWindow j.dst = false ∧ inWindow (j.src + x.done) = false ∧ inWindow (j.dst + x.done) = false ∧ rangeCode s (ladleFlask s ch.val) (j.src +
     x.done) k false = Code.none ∧ rangeCode s (ladleFlask s ch.val) (j.dst + x.done) k true = Code.none ∧ decodeError s (j.src + x.done) k false =
     false ∧ decodeError s (j.dst + x.done) k true = false ∧ 0x20000 ≤ j.dst + x.done) ∧
    (let s : State :=
         ({ queueReady 1 (bulk 1 2 0x80000000 { job := some demoQJob, done := 8 } (live 4)) with mem := cellsFrom (itemAddr (queueReady 1 (live 4)) 5 1 0) [0, 0, 0, 0] })
     let ch : Fin 64 := 1
     let j : LadleJob := { addr := 0x80000000, ctrl := 0xA0000000, len := 64, src := 5, dst := 0x80002000, next := 0 }
     let u : State := (takeItem s (j.src % 64)).1
     let w : Word := 0
     let sop : Bool := false
     let eop : Bool := false
     let x : LadleCh := ladleAt s ch.val
     let b : Nat := j.dst + x.done
     x.job = some j ∧ moving s ch.val = true ∧ jobSrcQ j = true ∧ jobDstQ j = false ∧ x.ended = false ∧ x.done < j.len ∧ mayQueue s (j.src % 64)
     (ladleFlask s ch.val) = true ∧ queueRing s (j.src % 64) = false ∧ takeItem s (j.src % 64) = (u, some (w, sop, eop)) ∧ rangeCode u (ladleFlask s
     ch.val) b 4 true = Code.none ∧ inWindow b = false ∧ decodeError u b 4 true = false ∧ 0x20000 ≤ b) ∧
    (let s : State := bulk 1 2 0x80000000 { job := some (demoJob 0), done := 8 } (live 4)
     let ch : Fin 64 := 1
     let j : LadleJob := { addr := 0x80000000, ctrl := 0x80000000, len := 64, src := 0x80001000, dst := 0x80002000, next := 0 }
     (ladleAt s ch.val).job = some j ∧ ch.val < 16 ∧ subOf s (ldPage ch.val) = lsMOVE) ∧
    (let s : State := lite 47 2 { job := some ⟨0, 0, 64, 0x80001000, 0x80002000, 0⟩, done := 8 } (live 4)
     let ch : Fin 64 := 63
     let j : LadleJob := { addr := 0, ctrl := 0, len := 64, src := 0x80001000, dst := 0x80002000, next := 0 }
     (ladleAt s ch.val).job = some j ∧ 16 ≤ ch.val ∧ liteFault s (ch.val - 16) = false) ∧
    (let s : State := live 3
     let q : Requester := Requester.mgmt 0
     let c : Fin 16 := 0
     Reaches s q (ldPage c.val) 80 ∧ subOf s (ldPage c.val) ≠ lsFAULT) ∧
    (let s : State := (setFld (bulk 1 5 0x80000000 { job := some demoQJob, done := 8, was := 2 } (live 4)) (R.LDLB_FINFO 1) F.LDLB_FINFO_CAUSE 1)
     let q : Requester := Requester.mgmt 0
     let c : Fin 16 := 1
     Reaches s q (ldPage c.val) 80 ∧ subOf s (ldPage c.val) = lsFAULT ∧ fld s (R.LDLB_FINFO c.val) F.LDLB_FINFO_CAUSE = 1) ∧
    (let s : State := live 4
     let q : Requester := Requester.mgmt 0
     let c : Fin 16 := 0
     Reaches s q (ldPage c.val) 80 ∧ abortLegal s = false) := by
  refine ⟨?_, ?_, ?_, ?_, ?_, ?_, ?_, ?_, ?_, ?_, ?_, ?_⟩ <;> decide +kernel

theorem witness_ChannelsMoveAndQueuesDeliver_2 :
    (let s : State := live 3
     let q : Requester := Requester.mgmt 0
     let c : Fin 16 := 0
     Reaches s q (ldPage c.val) 80 ∧ abortLegal s = true) ∧
    (let s : State := live 3
     let q : Requester := Requester.mgmt 0
     let k : Fin 48 := 0
     Reaches s q (33 + k.val / 8) (80 + 32 * (k.val % 8)) ∧ liteSt s k.val ≠ 2) ∧
    (let s : State := lite 47 2 {} (live 4)
     let q : Requester := Requester.mgmt 0
     let k : Fin 48 := 47
     Reaches s q (33 + k.val / 8) (80 + 32 * (k.val % 8)) ∧ liteSt s k.val = 2 ∧ liteFault s k.val = false ∧ (ladleAt s (16 + k.val)).job = none ∧
     jobCheck s (16 + k.val) (liteJob s k.val) false = Code.none) ∧
    (let s : State := lite 47 2 { job := some ⟨0, 0, 64, 0x80001000, 0x80002000, 0⟩, done := 8 } (live 4)
     let q : Requester := Requester.mgmt 0
     let k : Fin 48 := 47
     Reaches s q (33 + k.val / 8) (80 + 32 * (k.val % 8)) ∧ liteSt s k.val = 2 ∧ (ladleAt s (16 + k.val)).job.isSome = true ∧ flag s (R.lSTAT k.val)
     F.LDLL_STAT_PEND = false) ∧
    (let s : State := (setFld (lite 47 2 { job := some ⟨0, 0, 64, 0x80001000, 0x80002000, 0⟩, done := 8 } (live 4)) (R.lSTAT 47) F.LDLL_STAT_FAULT
         1)
     let q : Requester := Requester.mgmt 0
     let k : Fin 48 := 47
     Reaches s q (33 + k.val / 8) (80 + 32 * (k.val % 8)) ∧ liteFault s k.val = true ∧ (ladleAt s (16 + k.val)).job.isSome = true) ∧
    (let s : State := live 3
     let q : Requester := Requester.mgmt 0
     let k : Fin 48 := 0
     Reaches s q (33 + k.val / 8) (80 + 32 * (k.val % 8)) ∧ abortLegal s = true) ∧
    (let s : State := lite 47 2 { job := some ⟨0, 0, 64, 0x80001000, 0x80002000, 0⟩, done := 64 } (live 4)
     let k : Fin 48 := 47
     let j : LadleJob := { addr := 0, ctrl := 0, len := 64, src := 0x80001000, dst := 0x80002000, next := 0 }
     (ladleAt s (16 + k.val)).job = some j ∧ j.len ≤ (ladleAt s (16 + k.val)).done ∧ liteFault s k.val = false ∧ flag s (R.lSTAT k.val)
     F.LDLL_STAT_PEND = false ∧ fld s (R.lCTRL k.val) F.LDLL_CTRL_TRIG ≠ 3 ∧ fld s (R.lCTRL k.val) F.LDLL_CTRL_TRIG ≠ 4 ∧ flag s (R.lCTRL k.val)
     F.LDLL_CTRL_NQEN = false ∧ liteSt s k.val = 2) ∧
    (let s : State := queueReady 0 (live 4)
     let q : Requester := Requester.mgmt 0
     let n : Fin 64 := 5
     let page : Nat := 40 + n.val / 16
     Reaches s q page (292 + 64 * (n.val % 16)) ∧ Reaches s q page (296 + 64 * (n.val % 16)) ∧ mayQueue s n.val (flaskOf s q) = true ∧ queueOn s
     n.val = true ∧ queueProd s n.val = 0 ∧ canProducer s n.val = none ∧ queueRd s n.val + (queueAt s n.val).rdC = 65535 ∧ queueWr s n.val +
     (queueAt s n.val).wrC = 65535 ∧ (queueAt s n.val).filled ≤ queueRd s n.val ∧ queueWr s n.val = 0 ∧ (queueAt s n.val).opened = none) ∧
    (let s : State := (setFld (queueReady 0 (live 4)) (R.qCFG 5) F.TND_CFG_OWNER 3)
     let q : Requester := Requester.mgmt 0
     let n : Fin 64 := 5
     let page : Nat := 40 + n.val / 16
     Reaches s q page (292 + 64 * (n.val % 16)) ∧ mayQueue s n.val (flaskOf s q) = false ∧ canProducer s n.val = none) ∧
    (let s : State := live 3
     let q : Requester := Requester.mgmt 0
     let n : Fin 64 := 0
     let page : Nat := 40 + n.val / 16
     Reaches s q page (296 + 64 * (n.val % 16)) ∧ mayQueue s n.val (flaskOf s q) = true ∧ queueRing s n.val = false ∧ queueRd s n.val + (queueAt s
     n.val).rdC = 65535 ∧ queueWr s n.val + (queueAt s n.val).wrC = 65535 ∧ (queueAt s n.val).filled ≤ queueRd s n.val ∧ queueWr s n.val = 0) ∧
    (let s : State := live 3
     let q : Requester := Requester.mgmt 0
     let n : Fin 64 := 0
     let page : Nat := 40 + n.val / 16
     Reaches s q page (276 + 64 * (n.val % 16)) ∧ queueOn s n.val = false) ∧
    (let s : State :=
         ({ queueReady 1 (bulk 1 2 0x80000000 { job := some demoQJob, done := 8 } (live 4)) with mem := cellsFrom (itemAddr (queueReady 1 (live 4)) 5 1 0) [0, 0, 0, 0] })
     let q : Requester := Requester.mgmt 0
     let n : Fin 64 := 5
     let page : Nat := 40 + n.val / 16
     Reaches s q page (276 + 64 * (n.val % 16)) ∧ queueOn s n.val = true ∧ queueRd s n.val + (queueAt s n.val).rdC = 65535 ∧ queueWr s n.val +
     (queueAt s n.val).wrC = 65535) := by
  refine ⟨?_, ?_, ?_, ?_, ?_, ?_, ?_, ?_, ?_, ?_, ?_, ?_⟩ <;> decide +kernel

/-- A descriptor without OWN. -/
theorem witness_ChannelsMoveAndQueuesDeliver_notOwned :
    let s : State := putBytes (bulk 0 1 0x80000000 {} (live 4)) 0x80000000 (List.replicate 32 0)
    let a := (rd s (R.LDLB_CUR 0)).toNat
    subOf s 0x11 = lsFETCH ∧ descriptorCode s (pageOwner s 0x11) a = Code.none ∧ decodeError s a 32 false = false ∧
    bit (descriptorAt s a).ctrl 31 = false ∧ (ladleAt s 0).kicked = false ∧ pageSt s 0x11 ≠ 3 := by
  decide +kernel

end Sys2Proof.Tests
end

