-- ==== Sys2Proof/Tests/WitnessPages.lean ====
section
/-! SUPPORT. Witnesses: for each statement of this part with hypotheses, states and operands that meet the hypotheses of its clauses together. -/

namespace Sys2Proof.Tests

open Sys2Proof.Machine Sys2Proof.Safety

set_option Elab.async false

theorem witness_RegisterWritesAreTakenOrRejected :
    (let s : State := live 3
     let q : Requester := Requester.mgmt 0
     let page : BitVec 8 := 0xFF
     let off : BitVec 12 := 0x42
     s.boot.due = none ∧ Reaches s q page.toNat off.toNat ∧ off.toNat % 4 ≠ 0) ∧
    (let s : State := live 3
     let q : Requester := Requester.mgmt 0
     let page : BitVec 8 := 0xFF
     let off : BitVec 12 := 0x18
     s.boot.due = none ∧ Reaches s q page.toNat off.toNat ∧ off.toNat % 4 = 0 ∧ pageAlloc page.toNat = none) ∧
    (let s : State := live 3
     let q : Requester := Requester.mgmt 3
     let page : BitVec 8 := 0x38
     let off : BitVec 12 := 0x10
     let v : Word := 1
     s.boot.due = none ∧ Reaches s q page.toNat off.toNat ∧ (pageAlloc page.toNat).isSome = true ∧ off = 16 ∧ BitVec.toNat v &&& 0x7FFFFFFF -
     isrMask page.toNat = 0) ∧
    (let s : State := live 3
     let q : Requester := Requester.mgmt 0
     let page : BitVec 8 := 5
     let off : BitVec 12 := 0x14
     let v : Word := 0x80000000
     s.boot.due = none ∧ Reaches s q page.toNat off.toNat ∧ (pageAlloc page.toNat).isSome = true ∧ off = 20 ∧ BitVec.toNat v &&& 0x7FFFFFFF -
     isrMask page.toNat = 0) ∧
    (let s : State := live 3
     let q : Requester := Requester.ladle 2
     let page : BitVec 8 := 3
     let off : BitVec 12 := 0xC
     let v : Word := 0x80000000
     s.boot.due = none ∧ Reaches s q page.toNat off.toNat ∧ (pageAlloc page.toNat).isSome = true ∧ off = 12 ∧ v = 0x80000000) ∧
    (let s : State := live 3
     let q : Requester := Requester.mgmt 0
     let page : BitVec 8 := 7
     let off : BitVec 12 := 8
     s.boot.due = none ∧ Reaches s q page.toNat off.toNat ∧ (pageAlloc page.toNat).isSome = true ∧ (off = 0 ∨ off = 8)) ∧
    (let s : State := live 3
     let q : Requester := Requester.mgmt 3
     let page : BitVec 8 := 0x38
     let off : BitVec 12 := 0x20
     let v : Word := 0x80000000
     s.boot.due = none ∧ Reaches s q page.toNat off.toNat ∧ (pageAlloc page.toNat).isSome = true ∧ 32 ≤ off.toNat ∧ off.toNat < 64 ∧ off.toNat % 4 =
     0 ∧ v ≠ 0) ∧
    (let s : State := live 4
     let q : Requester := Requester.mgmt 3
     let page : BitVec 8 := 7
     let off : BitVec 12 := 0x44
     let v : Word := 0
     s.boot.due = none ∧ Reaches s q page.toNat off.toNat ∧ (pageAlloc page.toNat).isSome = true ∧ 64 ≤ off.toNat ∧ off.toNat % 4 = 0 ∧ findReg
     page.toNat off.toNat = none ∧ lockBarred q page.toNat off.toNat = false ∧ v = 0) ∧
    (let s : State := live 3
     let q : Requester := Requester.mgmt 0
     let page : BitVec 8 := 7
     let off : BitVec 12 := 0x4C
     let v : Word := 0x12345678
     s.boot.due = none ∧ Reaches s q page.toNat off.toNat ∧ (pageAlloc page.toNat).isSome = true ∧ 64 ≤ off.toNat ∧ off.toNat % 4 = 0 ∧ findReg
     page.toNat off.toNat = none ∧ lockBarred q page.toNat off.toNat = false ∧ v ≠ 0) ∧
    (let s : State := live 3
     let q : Requester := Requester.mgmt 0
     let page : BitVec 8 := 4
     let off : BitVec 12 := 0x4C
     let v : Word := 0x40001002
     s.boot.due = none ∧ Reaches s q page.toNat off.toNat ∧ (pageAlloc page.toNat).isSome = true ∧
     let d : RegDesc := (findReg page.toNat off.toNat).getD ⟨0, [], .one, []⟩
     let c : Code := Code.reservedBits
     64 ≤ off.toNat ∧ off.toNat % 4 = 0 ∧ findReg page.toNat off.toNat = some d ∧ Awake s page.toNat ∧ lockBarred q page.toNat off.toNat = false ∧
     ownWrite s q page.toNat off.toNat v = none ∧ tableCode s page.toNat off.toNat d (rd s (keyAt s page.toNat off.toNat d)) v = c ∧ c ≠ Code.none) := by
  refine ⟨?_, ?_, ?_, ?_, ?_, ?_, ?_, ?_, ?_, ?_⟩ <;> decide +kernel

theorem witness_RejectionKeepsTheFirstError :
    (let s : State := live 3
     let page : BitVec 8 := 0
     let e : Word := rd s (R.PG_ERR page.toNat)
     BitVec.getLsbD e 31 = false) ∧
    (let s : State := withReg (R.PG_ERR 0x38) 0x80004001 (live 3)
     let page : BitVec 8 := 0x38
     let e : Word := rd s (R.PG_ERR page.toNat)
     BitVec.getLsbD e 31 = true ∧
     let i : Nat := 0x10000000
     i ≠ 30) ∧
    (let s : State := asFlask3 (live 4)
     let page : BitVec 8 := 0
     let off : BitVec 12 := 0xC
     let q : Requester := Requester.nrap 1
     s.boot.due = none ∧ modeNow s ≠ 0 ∧ debugBarred s q page.toNat off.toNat = false ∧ pageAllowed s (flaskOf s q) page.toNat off.toNat = false ∧
     off.toNat % 4 = 0) := by
  refine ⟨?_, ?_, ?_⟩ <;> decide +kernel

theorem witness_DeniedAccessIsCounted :
    let s : State := asFlask3 (live 4)
    let q : Requester := Requester.nrap 1
    let page : BitVec 8 := 2
    let off : BitVec 12 := 0x40
    s.boot.due = none ∧ modeNow s ≠ 0 ∧ debugBarred s q page.toNat off.toNat = false ∧ pageAllowed s (flaskOf s q) page.toNat off.toNat = false ∧
    off.toNat % 4 = 0 := by
  decide +kernel

theorem witness_AddressErrorsMoveNothing :
    (let s : State := live 3
     let q : Requester := Requester.mgmt 0
     let addr : Word := 0x12345678
     let len : Nat := 63
     ReachesWindow s q ∧ decodeError s (BitVec.toNat addr) len false = true) ∧
    (let s : State := live 3
     let q : Requester := Requester.mgmt 0
     let addr : Word := 2
     ReachesWindow s q ∧
     let data : List Byte := [0xFF, 0]
     decodeError s (BitVec.toNat addr) data.length true = true) ∧
    (let s : State := live 3
     let q : Requester := Requester.mgmt 0
     let addr : Word := 0x40001002
     let len : Nat := 255
     ReachesWindow s q ∧ 0x40000000 ≤ BitVec.toNat addr ∧ BitVec.toNat addr ≤ 0x400FFFFF ∧ (BitVec.toNat addr % 4 ≠ 0 ∨ len ≠ 4)) := by
  refine ⟨?_, ?_, ?_⟩ <;> decide +kernel

/-- A misaligned access by a channel of Ladle to the last record of the window. -/
theorem witness_AddressErrorsMoveNothing_window : ReachesWindow (live 3) (.ladle 3) ∧
    0x50000000 ≤ (0x5003FFFE : Word).toNat ∧ (0x5003FFFE : Word).toNat ≤ 0x5003FFFF ∧ (0x5003FFFE : Word).toNat % 4 ≠ 0 ∧
    (0x5003FFFE : Word).toNat % 32 ≠ 0 := by
  decide +kernel

theorem witness_WideRegistersMoveWhole :
    (let s : State := live 3
     let q : Requester := Requester.mgmt 0
     s.boot.due = none ∧ Reaches s q 50 68 ∧ Awake s 50) ∧
    (let s : State := { pointed 3 with holds := [⟨.mgmt 0, R.FRC_VALUE 1, 77⟩], stages := [⟨.mgmt 0, R.FRC_VALUE 0, 78⟩] }
     let q : Requester := Requester.mgmt 0
     s.boot.due = none ∧ Reaches s q 50 72 ∧ Awake s 50 ∧
     let w : Word := 0x4D
     heldWord s q (R.FRC_VALUE 1) = some w) := by
  refine ⟨?_, ?_⟩ <;> decide +kernel

theorem witness_DomainsSwitchThroughTheirStates :
    (let s : State := withDomain 5 0 (live 3)
     let d : Fin 14 := 5
     3 ≤ d.val ∧ d.val ≤ 11 ∧
     let q : Requester := Requester.mgmt 0
     Reaches s q 1 (64 + 4 * d.val) ∧ Awake s 1 ∧ modeNow s ≠ mdBOOT ∧ s.rwlLocked = false ∧ BitVec.toNat (rd s (R.PWR_DOMCTRL d.val)) % 0x40000000
     = 0 ∧ domSt s d.val = 0) ∧
    (let s : State := withDomain 9 3 (live 3)
     let d : Fin 14 := 9
     3 ≤ d.val ∧ d.val ≤ 11 ∧
     let q : Requester := Requester.mgmt 0
     Reaches s q 1 (64 + 4 * d.val) ∧ Awake s 1 ∧ modeNow s ≠ mdBOOT ∧ s.rwlLocked = false ∧ BitVec.toNat (rd s (R.PWR_DOMCTRL d.val)) % 0x40000000
     = 0 ∧ domSt s d.val = 3) ∧
    (let s : State := live 3
     let d : Fin 14 := 5
     3 ≤ d.val ∧ d.val ≤ 11 ∧
     let q : Requester := Requester.mgmt 0
     Reaches s q 1 (64 + 4 * d.val) ∧ Awake s 1 ∧ modeNow s ≠ mdBOOT ∧ s.rwlLocked = false ∧ BitVec.toNat (rd s (R.PWR_DOMCTRL d.val)) % 0x40000000
     = 0 ∧ domSt s d.val = 2 ∧ functionsOff s d.val = true ∧ keepRunning s d.val = false) ∧
    (let s : State := withDomain 5 1 (live 3)
     let d : Fin 14 := 5
     3 ≤ d.val ∧ d.val ≤ 11 ∧ domSt s d.val = 1) := by
  refine ⟨?_, ?_, ?_, ?_⟩ <;> decide +kernel

theorem witness_ClearsAndBudgetsTakeEffect :
    (let s : State := live 3
     let q : Requester := Requester.mgmt 0
     let k : Fin 10 := 0
     let mask : Word := 0x20
     Reaches s q 7 (1536 + 4 * k.val) ∧ Awake s 7 ∧ (k.val = 9 → BitVec.toNat mask < 0x100000)) ∧
    (let s : State := live 3
     let q : Requester := Requester.mgmt 0
     Reaches s q 49 448 ∧ Awake s 49) ∧
    (let s : State := live 3
     let q : Requester := Requester.mgmt 0
     Reaches s q 56 64 ∧ Awake s 56) ∧
    (let s : State := live 3
     let q : Requester := Requester.mgmt 0
     let page : BitVec 8 := 7
     let v : Word := 0
     Reaches s q page.toNat 24 ∧ (pageAlloc page.toNat).isSome = true ∧ BitVec.toNat v < 0x1000000 ∧ domC s (pageDomain page.toNat) = 0) := by
  refine ⟨?_, ?_, ?_, ?_⟩ <;> decide +kernel

theorem witness_WindowReadsAndCommitsWholeRecords :
    (let s : State := live 3
     let q : Requester := Requester.mgmt 0
     let pid : BitVec 13 := 0
     ReachesWindow s q ∧
     let p : Point := pointAt s pid.toNat
     let f : Nat := flaskOf s q
     mayRead f p = true) ∧
    (let s : State := asFlask3 (live 4)
     let q : Requester := Requester.nrap 1
     let pid : BitVec 13 := 0
     ReachesWindow s q ∧
     let p : Point := pointAt s pid.toNat
     let f : Nat := flaskOf s q
     mayRead f p = false) ∧
    (let s : State := live 3
     let q : Requester := Requester.mgmt 0
     ReachesWindow s q ∧
     let v : Word := 0x100
     writerQuality (BitVec.setWidth 8 v) = true) ∧
    (let s : State := live 3
     let q : Requester := Requester.mgmt 0
     ReachesWindow s q ∧
     let v : Word := 1
     writerQuality (BitVec.setWidth 8 v) = false) ∧
    (let s : State := pointed 3
     let q : Requester := Requester.mgmt 0
     let pid : BitVec 13 := 1
     ReachesWindow s q ∧
     let p : Point := pointAt s pid.toNat
     let f : Nat := flaskOf s q
     onStandby s = false ∧ mayWrite f p = true ∧ forceOn s pid.toNat = none) ∧
    (let s : State := asFlask3 (pointed 4)
     let q : Requester := Requester.nrap 1
     let pid : BitVec 13 := 2
     ReachesWindow s q ∧
     let p : Point := pointAt s pid.toNat
     let f : Nat := flaskOf s q
     let k : Nat := 4
     let e : Force :=
         { point := 2, value := 5, setter := 0, orphan := false, written := false, uValue := 0xB, uTstamp := 0xC, uQuality := 0, uSource := 0x1001 }
     onStandby s = false ∧ mayWrite f p = true ∧ forceOn s pid.toNat = some (k, e)) ∧
    (let s : State := live 3
     let q : Requester := Requester.mgmt 0
     let pid : BitVec 13 := 0
     ReachesWindow s q ∧
     let p : Point := pointAt s pid.toNat
     let f : Nat := flaskOf s q
     onStandby s = false ∧ mayWrite f p = false) ∧
    (let s : State := pointed 5
     let q : Requester := Requester.mgmt 0
     ReachesWindow s q ∧ onStandby s = true) := by
  refine ⟨?_, ?_, ?_, ?_, ?_, ?_, ?_, ?_⟩ <;> decide +kernel

theorem witness_ForceCommandsKeepTheRecordBeneath :
    (let s : State := setFld (pointed 4) R.FRC_POINT F.FRC_POINT_POINT 1
     let q : Requester := Requester.mgmt 0
     Reaches s q 50 76 ∧ Awake s 50 ∧
     let n : Nat := fld s R.FRC_POINT F.FRC_POINT_POINT
     let p : Point := pointAt s n
     let k : Nat := 0
     p.alloc = true ∧ forceOn s n = none ∧ freeForce s = some k) ∧
    (let s : State := setFld (pointed 4) R.FRC_POINT F.FRC_POINT_POINT 2
     let q : Requester := Requester.mgmt 0
     Reaches s q 50 76 ∧ Awake s 50 ∧
     let n : Nat := fld s R.FRC_POINT F.FRC_POINT_POINT
     let k : Nat := 4
     let e : Force :=
         { point := 2, value := 5, setter := 0, orphan := false, written := false, uValue := 0xB, uTstamp := 0xC, uQuality := 0, uSource := 0x1001 }
     forceOn s n = some (k, e)) := by
  refine ⟨?_, ?_⟩ <;> decide +kernel

theorem witness_PointAdministrationFollowsItsTable :
    (let s : State := (withReg R.PTD_ATTR 0x00030700 (withReg R.PTD_SEL 5 (pointed 3)))
     let q : Requester := Requester.mgmt 0
     Reaches s q 48 76 ∧ Awake s 48 ∧
     let n : Nat := fld s R.PTD_SEL F.PTD_SEL_POINT
     let p : Point := pointAt s n
     let owner : Nat := fld s R.PTD_ATTR F.PTD_ATTR_OWNER
     let dtype : Nat := fld s R.PTD_ATTR F.PTD_ATTR_DTYPE
     p.alloc = false ∧ attrCheck s owner dtype true = Code.none) ∧
    (let s : State := (withReg R.PTD_ATTR 0x00000700 (withReg R.PTD_SEL 1 (pointed 3)))
     let q : Requester := Requester.mgmt 0
     Reaches s q 48 76 ∧ Awake s 48 ∧
     let n : Nat := fld s R.PTD_SEL F.PTD_SEL_POINT
     let p : Point := pointAt s n
     let owner : Nat := fld s R.PTD_ATTR F.PTD_ATTR_OWNER
     let dtype : Nat := fld s R.PTD_ATTR F.PTD_ATTR_DTYPE
     p.alloc = true ∧ p.forced = false ∧ attrCheck s owner dtype (p.owner.toNat != owner) = Code.none) := by
  refine ⟨?_, ?_⟩ <;> decide +kernel

end Sys2Proof.Tests
end

