-- ==== Sys2Proof/Tests/WitnessScan.lean ====
section
/-! SUPPORT. Witnesses: for each statement of this part with hypotheses, states and operands that meet the hypotheses of its clauses together. -/

namespace Sys2Proof.Tests

open Sys2Proof.Machine Sys2Proof.Safety

set_option Elab.async false

theorem witness_ReleasesFollowPeriodEventAndCause :
    (let s : State := scanBase
     modeNow s ≠ 0) ∧
    (let s : State := (withReg (R.SCN_TPER 1) 1 (withPage 0x39 2 (setFld scanBase (R.SCN_TSTAT 1) F.SCN_TSTAT_STATE tsIDLE)))
     let t : Fin 64 := 1
     let k : Nat := 0x10000004
     taskEnabled s t.val = true ∧ taskTrig s t.val = 0 ∧ mayRelease s t.val = true ∧ taskPeriod s t.val ≠ 0 ∧ k % taskPeriod s t.val = fld s
     (R.SCN_TPER t.val) F.SCN_TPER_PHASE ∧ migrating s (taskFlask s t.val) = false ∧ taskStateOf s t.val = tsIDLE) ∧
    (let s : State := (withReg (R.SCN_TPER 1) 1 (withPage 0x39 2 (running .program {})))
     let t : Fin 64 := 1
     let k : Nat := 5
     taskEnabled s t.val = true ∧ taskTrig s t.val = 0 ∧ mayRelease s t.val = true ∧ taskPeriod s t.val ≠ 0 ∧ k % taskPeriod s t.val = fld s
     (R.SCN_TPER t.val) F.SCN_TPER_PHASE ∧ migrating s (taskFlask s t.val) = false ∧ taskStateOf s t.val = tsRUNNING) ∧
    (let s : State := (withReg (R.SCN_TPER 1) 1 (withPage 0x39 2 (setTask (setFld (setFld scanBase (R.SCN_TCFG 1) F.SCN_TCFG_TRIG 1) (R.SCN_TSTAT 1)
         F.SCN_TSTAT_STATE tsIDLE) 1 { held := true, lastRel := some 0x7733230 })))
     let t : Fin 64 := 1
     let r : DWord := 0x7733230
     taskTrig s t.val = 1 ∧ taskEnabled s t.val = true ∧ mayRelease s t.val = true ∧ taskStateOf s t.val = tsIDLE ∧ (taskAt s t.val).held = true ∧
     (taskAt s t.val).lastRel = some r ∧ BitVec.toNat r + taskPeriod s t.val * 25000 < 2 ^ 64) ∧
    (let s : State := (withPage 0x39 2 (setCauseQueue (setFld (setFld scanBase (R.SCN_TCFG 1) F.SCN_TCFG_TRIG 2) (R.SCN_TSTAT 1) F.SCN_TSTAT_STATE
         tsIDLE) 1 { records := [⟨3, 2, 9, 0x100000005⟩], lost := 2 }))
     let t : Fin 64 := 1
     taskTrig s t.val = 2 ∧ (causeQueue s (taskFlask s t.val)).records ≠ [] ∧ releasable s t.val = true) := by
  refine ⟨?_, ?_, ?_, ?_, ?_⟩ <;> decide +kernel

theorem witness_CoresDispatchAndResume :
    (let s : State := (withPage 0x39 2 (setFld scanBase (R.SCN_TSTAT 1) F.SCN_TSTAT_STATE tsRELEASED))
     let c : Fin 8 := 0
     let n : Fin 64 := 1
     curTask s c.val = 127 ∧ firstReady s c.val = some n.val ∧ pageOn s (57 + c.val) = true ∧ taskStateOf s n.val = tsRELEASED ∧ (taskAt s
     n.val).lostRetain = false ∧
     let m : Mould :=
         { id := 7, codeAt := 0x10000000, codeSize := 256, dataAt := 0x10000100, dataSize := 1024, insts := [{ typeId := 1, ver := 1, flags := 0, key := 5, size := 512, offset := 0 }, { typeId := 2, ver := 1, flags := 1, key := 6, size := 32, offset := 512 }], tasks := [{ entry := 0, progInst := 0, inImg := 0, outImg := 0, inTbl := [], outTbl := [] }, { entry := 0, progInst := 0, inImg := 576, outImg := 640, inTbl := [1, 2], outTbl := [(1, true), (3, false)] }], maps := [] }
     let e : TaskEnt := { entry := 0, progInst := 0, inImg := 576, outImg := 640, inTbl := [1, 2], outTbl := [(1, true), (3, false)] }
     taskTrig s n.val ≠ 2 ∧ taskEntry s n.val = some (m, e)) ∧
    (let s : State := (withPage 0x39 2 (setCauseQueue (setFld (setFld scanBase (R.SCN_TCFG 1) F.SCN_TCFG_TRIG 2) (R.SCN_TSTAT 1) F.SCN_TSTAT_STATE
         tsRELEASED) 1 { records := [⟨3, 2, 9, 0x100000005⟩], lost := 2 }))
     let c : Fin 8 := 0
     let n : Fin 64 := 1
     curTask s c.val = 127 ∧ firstReady s c.val = some n.val ∧ pageOn s (57 + c.val) = true ∧ taskStateOf s n.val = tsRELEASED ∧ (taskAt s
     n.val).lostRetain = false ∧
     let x : Cause := { code := 3, task := 2, detail := 9, time := 0x100000005 }
     let rest : List Cause := []
     taskTrig s n.val = 2 ∧ (causeQueue s (taskFlask s n.val)).records = x :: rest) ∧
    (let s : State := (withPage 0x39 2 (setFld (setFld (running .program {}) (R.SCN_TSTAT 1) F.SCN_TSTAT_STATE tsPREEMPTED) (R.SCC_STATUS 0)
         F.SCC_STATUS_CUR_TASK 0x7F))
     let c : Fin 8 := 0
     let n : Fin 64 := 1
     curTask s c.val = 127 ∧ firstReady s c.val = some n.val ∧
     let r : Run :=
         { step := RunStep.program, release := 0x7735940, execNs := 40, drops := 0, denials := 0, firstDenied := 0, deferred := [], dirty := [], stopped := false, ihash := 0, ohash := 0 }
     taskStateOf s n.val = tsPREEMPTED ∧ (taskAt s n.val).run = some r) := by
  refine ⟨?_, ?_, ?_⟩ <;> decide +kernel

theorem witness_RunStepsMoveImagesAndEnd :
    (let s : State := running .latch {}
     let n : Fin 64 := 1
     let r : Run :=
         { step := RunStep.latch, release := 0x7735940, execNs := 40, drops := 0, denials := 0, firstDenied := 0, deferred := [], dirty := [], stopped := false, ihash := 0, ohash := 0 }
     let m : Mould :=
         { id := 7, codeAt := 0x10000000, codeSize := 256, dataAt := 0x10000100, dataSize := 1024, insts := [{ typeId := 1, ver := 1, flags := 0, key := 5, size := 512, offset := 0 }, { typeId := 2, ver := 1, flags := 1, key := 6, size := 32, offset := 512 }], tasks := [{ entry := 0, progInst := 0, inImg := 0, outImg := 0, inTbl := [], outTbl := [] }, { entry := 0, progInst := 0, inImg := 576, outImg := 640, inTbl := [1, 2], outTbl := [(1, true), (3, false)] }], maps := [] }
     let e : TaskEnt := { entry := 0, progInst := 0, inImg := 576, outImg := 640, inTbl := [1, 2], outTbl := [(1, true), (3, false)] }
     (taskAt s n.val).run = some r ∧ taskEntry s n.val = some (m, e) ∧ taskStateOf s n.val = tsRUNNING ∧ r.step = RunStep.latch ∧ fld s (R.SCN_TBUD
     n.val) F.SCN_TBUD_WDOG_US = 0 ∧ 0x20000 ≤ m.dataAt + e.inImg ∧ (∀ p ∈ e.inTbl, mayRead (taskFlask s n.val) (pointAt s p) = true)) ∧
    (let s : State := { running .writeBack {} with mem := [(0x10000388, 0), (0x10000389, 0)], moulds := [(1, some writerMould)] }
     let n : Fin 64 := 1
     let r : Run :=
         { step := RunStep.writeBack, release := 0x7735940, execNs := 40, drops := 0, denials := 0, firstDenied := 0, deferred := [], dirty := [], stopped := false, ihash := 0, ohash := 0 }
     let m : Mould :=
         { id := 7, codeAt := 0x10000000, codeSize := 256, dataAt := 0x10000100, dataSize := 1024, insts := [{ typeId := 1, ver := 1, flags := 0, key := 5, size := 512, offset := 0 }, { typeId := 2, ver := 1, flags := 1, key := 6, size := 32, offset := 512 }], tasks := [{ entry := 0, progInst := 0, inImg := 0, outImg := 0, inTbl := [], outTbl := [] }, { entry := 0, progInst := 0, inImg := 576, outImg := 640, inTbl := [], outTbl := [(1, false)] }], maps := [] }
     let e : TaskEnt := { entry := 0, progInst := 0, inImg := 576, outImg := 640, inTbl := [], outTbl := [(1, false)] }
     (taskAt s n.val).run = some r ∧ taskEntry s n.val = some (m, e) ∧ taskStateOf s n.val = tsRUNNING ∧
     let pid : Nat := 1
     r.step = RunStep.writeBack ∧ e.outTbl = [(pid, false)] ∧ r.deferred = [] ∧ onStandby s = false ∧ mayWrite (taskFlask s n.val) (pointAt s pid) =
     true ∧ forceOn s pid = none ∧ BitVec.getLsbD (byteAt s (m.dataAt + e.outImg + 9)) 0 = false ∧ writerQuality (byteAt s (m.dataAt + e.outImg +
     8)) = true) ∧
    (let s : State := withPage 0x39 2 (running .retention {})
     let n : Fin 64 := 1
     let r : Run :=
         { step := RunStep.retention, release := 0x7735940, execNs := 40, drops := 0, denials := 0, firstDenied := 0, deferred := [], dirty := [], stopped := false, ihash := 0, ohash := 0 }
     let m : Mould :=
         { id := 7, codeAt := 0x10000000, codeSize := 256, dataAt := 0x10000100, dataSize := 1024, insts := [{ typeId := 1, ver := 1, flags := 0, key := 5, size := 512, offset := 0 }, { typeId := 2, ver := 1, flags := 1, key := 6, size := 32, offset := 512 }], tasks := [{ entry := 0, progInst := 0, inImg := 0, outImg := 0, inTbl := [], outTbl := [] }, { entry := 0, progInst := 0, inImg := 576, outImg := 640, inTbl := [1, 2], outTbl := [(1, true), (3, false)] }], maps := [] }
     let e : TaskEnt := { entry := 0, progInst := 0, inImg := 576, outImg := 640, inTbl := [1, 2], outTbl := [(1, true), (3, false)] }
     (taskAt s n.val).run = some r ∧ taskEntry s n.val = some (m, e) ∧ taskStateOf s n.val = tsRUNNING ∧ r.step = RunStep.retention ∧ r.dirty = [] ∧
     r.drops = 0 ∧ r.denials = 0 ∧ pairActive s = false ∧ modeNow s ≠ mdSTANDBY ∧ hasRetain m e r = false ∧ stageFill s ≤ 0x80000 ∧ taskEnabled s
     n.val = true ∧ mayRelease s n.val = true ∧ (taskAt s n.val).held = false ∧ curTask s (taskCore s n.val) = n.val) := by
  refine ⟨?_, ?_, ?_⟩ <;> decide +kernel

theorem witness_WatchdogAndDrainEndTheirWork :
    (let s : State := (withReg (R.SCN_TPER 1) 1 (withPage 0x39 2 (running .program {})))
     let n : Fin 64 := 1
     let r : Run :=
         { step := RunStep.program, release := 0x7735940, execNs := 40, drops := 0, denials := 0, firstDenied := 0, deferred := [], dirty := [], stopped := false, ihash := 0, ohash := 0 }
     (taskAt s n.val).run = some r ∧ pairActive s = false ∧ modeNow s ≠ mdSTANDBY ∧ flag s (R.SCN_TCFG n.val) F.SCN_TCFG_TRAP_ACT = true) ∧
    (let s : State := { live 4 with scan := { batches := [⟨1, 1, 5, [⟨5, 0, [1, 2]⟩]⟩], nvr := [(1, [⟨5, 1, 1, [0, 0, 0, 0]⟩])] } }
     let b : Batch := { flask := 1, task := 1, run := 5, granules := [{ key := 5, offset := 0, bytes := [1, 2] }] }
     List.find? (fun b => (newGenOf s b.flask).isNone) s.scan.batches = some b) := by
  refine ⟨?_, ?_⟩ <;> decide +kernel

theorem witness_PowerFailSavesAndResets :
    (let s : State := scanBase
     modeNow s ≠ 0 ∧ s.pfwLevel = false) ∧
    (let s : State := { live 4 with pfwLevel := true, scan := { pfw := true } }
     s.pfwLevel = true) ∧
    (let s : State := { live 4 with pfwLevel := true, scan := { pfw := true } }
     s.scan.pfw = true ∧ s.scan.saveDone = false ∧ s.meter.snap = none) ∧
    (let s : State := { live 4 with scan := { saveDone := true } }
     s.scan.saveDone = true) := by
  refine ⟨?_, ?_, ?_, ?_⟩ <;> decide +kernel

theorem witness_TasksEnableAndDisable :
    let s : State := scanBase
    let q : Requester := Requester.mgmt 0
    let n : Fin 64 := 0
    let v : Word := 0x100
    let d : RegDesc := (findReg 56 (256 + 16 * n.val)).getD ⟨0, [], .one, []⟩
    Reaches s q 56 (256 + 16 * n.val) ∧ Awake s 56 ∧ findReg 56 (256 + 16 * n.val) = some d ∧ tableCode s 56 (256 + 16 * n.val) d (rd s (R.SCN_TCFG
    n.val)) (withBits v 31 31 1) = Code.none ∧ enableTaskCheck s n.val (withBits v 31 31 1) (queueOwner s) = Code.none ∧ taskStateOf s n.val =
    tsDISABLED := by
  decide +kernel

theorem witness_TasksEnableAndDisable_idle : let s : State := setFld scanBase (R.SCN_TSTAT 1) F.SCN_TSTAT_STATE tsIDLE
    Reaches s (.mgmt 0) 0x38 (0x100 + 16 * 1) ∧ Awake s 0x38 ∧ taskStateOf s 1 = tsIDLE ∧ ∃ d, findReg 0x38 (0x100 + 16 * 1) = some d ∧
    tableCode s 0x38 (0x100 + 16 * 1) d (rd s (R.SCN_TCFG 1)) (withBits 0x104 31 31 0) = .none := by
  refine ⟨by decide +kernel, by decide +kernel, by decide +kernel, _, rfl, by decide +kernel⟩

theorem witness_XchOperationsMoveTheExchange :
    (let s : State := exchanging 2 scanBase
     let q : Requester := Requester.mgmt 0
     Reaches s q 65 88 ∧ Awake s 65 ∧
     let x : XchReq := xchPageReq s
     xchBarred s = false ∧ xchState s = xsSTAGED ∧ x.flask = xchFlask s ∧ reportBufferOk s x = true) ∧
    (let s : State := exchanging 5 scanBase
     let q : Requester := Requester.mgmt 0
     Reaches s q 65 88 ∧ Awake s 65 ∧
     let x : XchReq := xchPageReq s
     xchBarred s = false ∧ xchState s = xsRETAINED ∧ x.flask = xchFlask s ∧ reportBufferOk s x = true) ∧
    (let s : State := exchanging 0 scanBase
     let q : Requester := Requester.mgmt 0
     Reaches s q 65 88 ∧ Awake s 65 ∧
     let x : XchReq := xchPageReq s
     xchBarred s = false ∧
     let m : Mould :=
         { id := 7, codeAt := 0x10000000, codeSize := 256, dataAt := 0x10000100, dataSize := 1024, insts := [{ typeId := 1, ver := 1, flags := 0, key := 5, size := 512, offset := 0 }, { typeId := 2, ver := 1, flags := 1, key := 6, size := 32, offset := 512 }], tasks := [{ entry := 0, progInst := 0, inImg := 0, outImg := 0, inTbl := [], outTbl := [] }, { entry := 0, progInst := 0, inImg := 576, outImg := 640, inTbl := [1, 2], outTbl := [(1, true), (3, false)] }], maps := [] }
     xchState s = xsIDLE ∧ mouldOf s x.flask = some m ∧ flaskHasTask s x.flask = false ∧ reportBufferOk s x = true) ∧
    (let s : State := exchanging 0 (live 5)
     let q : Requester := Requester.mgmt 0
     Reaches s q 65 88 ∧ Awake s 65 ∧ xchBarred s = true) := by
  refine ⟨?_, ?_, ?_, ?_⟩ <;> decide +kernel

theorem witness_ExchangeChecksMigratesAndReports :
    (let s : State := checkingMould 0x90
     let c : Word := 0
     let d : Word := 0x12345678
     let k : Code := Code.illegalValue
     xchState s = xsCHECKING ∧ stageCheck s (xchFlask s) (BitVec.toNat c) (BitVec.toNat d) = (k, none)) ∧
    (let s : State := { exchanging 3 scanBase with xch := { commitAt := 0x7735940 } }
     let peer : Bool := false
     xchState s = xsWAITING ∧ BitVec.toNat s.now % 0x186A0 = 0 ∧ BitVec.toNat s.now ≤ xchDeadline s ∧ flaskRunning s (xchFlask s) = false ∧
     peerReady s peer = true) ∧
    (let s : State := { exchanging 4 scanBase with xch := { staged := some demoMould } }
     let m : Mould :=
         { id := 7, codeAt := 0x10000000, codeSize := 256, dataAt := 0x10000100, dataSize := 1024, insts := [{ typeId := 1, ver := 1, flags := 0, key := 5, size := 512, offset := 0 }, { typeId := 2, ver := 1, flags := 1, key := 6, size := 32, offset := 512 }], tasks := [{ entry := 0, progInst := 0, inImg := 0, outImg := 0, inTbl := [], outTbl := [] }, { entry := 0, progInst := 0, inImg := 576, outImg := 640, inTbl := [1, 2], outTbl := [(1, true), (3, false)] }], maps := [] }
     xchState s = xsMIGRATING ∧ flag s R.XCH_STATUS F.XCH_STATUS_ROLLBACK = false ∧ s.xch.staged = some m) ∧
    (let s : State := { live 4 with xch := { reports := [⟨0x80000000, 64, 1, 1, 0, 5, 6, 99, 0, [], [], 0⟩] } }
     let r : Report :=
         { addr := 0x80000000, size := 64, kind := 1, flask := 1, result := 0, oldId := 5, newId := 6, switchAt := 0x63, migUs := 0, forces := [], insts := [], copied := 0 }
     let rest : List Report := []
     s.xch.reports = r :: rest ∧ 32 ≤ r.size ∧ 0x20000 ≤ r.addr) ∧
    (let s : State := { live 4 with scan := { newGen := [(1, some [⟨5, 1, 1, [1]⟩])] } }
     let f : Fin 32 := 1
     let g : List NvrInst := [{ key := 5, typeId := 1, ver := 1, bytes := [1] }]
     newGenOf s f.val = some g) := by
  refine ⟨?_, ?_, ?_, ?_, ?_⟩ <;> decide +kernel

/-- The MAC of the container, byte for byte. -/
def goodMac : List Byte := aesCmac (List.replicate 16 7) (containerHead ++ List.replicate 16 0 ++ containerBody)
@[irreducible] def macByte (i : Nat) : Byte := goodMac.getD i 0
def goodContainer : List Byte :=
  containerHead ++ [macByte 0, macByte 1, macByte 2, macByte 3, macByte 4, macByte 5, macByte 6, macByte 7, macByte 8, macByte 9, macByte 10, macByte 11,
    macByte 12, macByte 13, macByte 14, macByte 15] ++ containerBody
def checkingGood : State := { checkingMould 0xC0 with mem := cellsFrom 0x80000000 goodContainer }
theorem list_of_16 (l : List Byte) (h : l.length = 16) :
    [l.getD 0 0, l.getD 1 0, l.getD 2 0, l.getD 3 0, l.getD 4 0, l.getD 5 0, l.getD 6 0, l.getD 7 0, l.getD 8 0, l.getD 9 0, l.getD 10 0, l.getD 11 0,
     l.getD 12 0, l.getD 13 0, l.getD 14 0, l.getD 15 0] = l := by
  match l, h with
  | [_, _, _, _, _, _, _, _, _, _, _, _, _, _, _, _], _ => rfl
theorem goodMac_length : goodMac.length = 16 := by decide +kernel
theorem goodMac_input : macInput checkingGood 0x80000000 0xC0 = containerHead ++ List.replicate 16 0 ++ containerBody := by decide +kernel

def goodMould : Mould := ⟨0x77, 0, 16, 0, 32, [⟨1, 1, 0, 5, 32, 0⟩], [⟨0, 0, 0, 0, [], []⟩], []⟩
theorem goodMac_key : aesKeyOf (slotAt checkingGood 4) = List.replicate 16 7 := by decide +kernel
set_option maxRecDepth 20000 in
theorem goodMac_stored : bytesAt checkingGood (0x80000000 + 0x70) 16 = goodMac := by
  have h : bytesAt checkingGood (0x80000000 + 0x70) 16 = [macByte 0, macByte 1, macByte 2, macByte 3, macByte 4, macByte 5, macByte 6, macByte 7, macByte 8,
    macByte 9, macByte 10, macByte 11, macByte 12, macByte 13, macByte 14, macByte 15] := rfl
  rw [h]; unfold macByte; exact list_of_16 _ goodMac_length
/-- The check of a good container. -/
theorem witness_ExchangeChecksMigratesAndReports_staged : xchState checkingGood = xsCHECKING ∧ ∃ m, stageCheck checkingGood (xchFlask checkingGood) 0 0x12345678 = (.none, some m) := by
  refine ⟨by decide +kernel, ?_⟩
  have hm : aesCmac (aesKeyOf (slotAt checkingGood checkingGood.xch.key)) (macInput checkingGood checkingGood.xch.src
      (mouldHead checkingGood checkingGood.xch.src).total) = bytesAt checkingGood (checkingGood.xch.src + 0x70) 16 := by
    have h1 : checkingGood.xch.key = 4 := rfl
    have h2 : checkingGood.xch.src = 0x80000000 := rfl
    have h3 : (mouldHead checkingGood 0x80000000).total = 0xC0 := by decide +kernel
    rw [h1, h2, h3, goodMac_key, goodMac_input, goodMac_stored]; rfl
  have hr : readMould checkingGood checkingGood.xch.src (xchFlask checkingGood) = some goodMould := by decide +kernel
  have hp : (placeRegions checkingGood goodMould.codeSize goodMould.dataSize 0 0x12345678).isSome = true := by decide +kernel
  obtain ⟨x, hx⟩ := Option.isSome_iff_exists.mp hp
  unfold stageCheck
  dsimp only
  rw [if_neg (by decide +kernel), if_neg (by decide +kernel), if_neg (by decide +kernel), if_neg (by decide +kernel), if_neg (by decide +kernel),
    if_neg (by decide +kernel), if_neg (by decide +kernel), if_neg (by decide +kernel), if_neg (by decide +kernel), if_neg (fun h => h hm), hr]
  dsimp only
  rw [if_neg (by decide +kernel), hx]
  exact ⟨_, rfl⟩

theorem witness_LoopSwapsAreLatchedOrTaken :
    (let s : State := loopIn 511 2 (live 4)
     let q : Requester := Requester.mgmt 0
     let n : Fin 512 := 511
     Reaches s q (73 + n.val / 128) 316 ∧ Awake s (73 + n.val / 128) ∧ flag s (R.LPE_BANK n.val) F.LPE_BANK_SWAP_PEND = false ∧ loopSt s n.val = 2) ∧
    (let s : State := live 3
     let q : Requester := Requester.mgmt 0
     let n : Fin 512 := 0
     Reaches s q (73 + n.val / 128) 316 ∧ Awake s (73 + n.val / 128) ∧ flag s (R.LPE_BANK n.val) F.LPE_BANK_SWAP_PEND = false ∧ loopSt s n.val = 0) ∧
    (let s : State := (setFld (loopIn 5 2 (live 4)) (R.LPE_BANK 5) F.LPE_BANK_SWAP_PEND 1)
     let q : Requester := Requester.mgmt 0
     let n : Fin 512 := 5
     Reaches s q (73 + n.val / 128) 316 ∧ Awake s (73 + n.val / 128) ∧ flag s (R.LPE_BANK n.val) F.LPE_BANK_SWAP_PEND = true) ∧
    (let s : State := live 3
     let q : Requester := Requester.mgmt 0
     Reaches s q 72 64 ∧ Awake s 72) := by
  refine ⟨?_, ?_, ?_, ?_⟩ <;> decide +kernel

end Sys2Proof.Tests
end

