-- ==== Sys2Proof/Tests/WitnessSystem.lean ====
section
/-! SUPPORT. Witnesses: for each statement of this part with hypotheses, states and operands that meet the hypotheses of its clauses together. -/

namespace Sys2Proof.Tests

open Sys2Proof.Machine Sys2Proof.Safety

set_option Elab.async false

theorem witness_KeysJobsTamperAndDebug_1 :
    (let s : State := keyed 3
     let q : Requester := Requester.mgmt 0
     Reaches s q 144 100 ∧ flag s R.CRU_RESULT F.CRU_RESULT_BUSY = false ∧ s.paused = false ∧
     let j : CruJob :=
         { op := 8, target := fld s R.CRU_SLOT F.CRU_SLOT_TARGET, aux := fld s R.CRU_SLOT F.CRU_SLOT_AUX, attr := rd s R.CRU_ATTR, addr := BitVec.toNat (rd s R.CRU_ADDR), label := regBytes s R.CRU_LABEL 4, key := regBytes s R.CRU_KEYIN 8 }
     cruCheck s j ≠ Code.none) ∧
    (let s : State := cruSet 9 2 0x80000100 0x4B494C4C (keyed 3)
     let q : Requester := Requester.mgmt 0
     Reaches s q 144 100 ∧ flag s R.CRU_RESULT F.CRU_RESULT_BUSY = false ∧ s.paused = false ∧
     let j : CruJob :=
         { op := 8, target := fld s R.CRU_SLOT F.CRU_SLOT_TARGET, aux := fld s R.CRU_SLOT F.CRU_SLOT_AUX, attr := rd s R.CRU_ATTR, addr := BitVec.toNat (rd s R.CRU_ADDR), label := regBytes s R.CRU_LABEL 4, key := regBytes s R.CRU_KEYIN 8 }
     cruCheck s j = Code.none ∧ s.crypto.cry = none) ∧
    (let s : State := keyed 3
     s.crypto.cru = none) ∧
    (let s : State := cruBusy 1 9 0 0x80000100 (keyed 3)
     let j : CruJob :=
         { op := 1, target := 9, aux := 0, attr := 0x80000100, addr := 0x10000000, label := (List.replicate 16 0), key := (List.replicate 32 5) }
     s.crypto.cru = some j ∧ j.op = 1) ∧
    (let s : State := cruBusy 4 3 2 0 (keyed 4)
     let j : CruJob :=
         { op := 4, target := 3, aux := 2, attr := 0, addr := 0x10000000, label := (List.replicate 16 0), key := (List.replicate 32 5) }
     s.crypto.cru = some j ∧ j.op = 4 ∧ 0x20000 ≤ j.addr) ∧
    (let s : State := cruBusy 7 0 0 0 (keyed 3)
     let j : CruJob :=
         { op := 7, target := 0, aux := 0, attr := 0, addr := 0x10000000, label := (List.replicate 16 0), key := (List.replicate 32 5) }
     s.crypto.cru = some j ∧ 6 ≤ j.op) ∧
    (let s : State := (withReg R.CRY_AUX 0x10000200 (withReg R.CRY_DST 0x10000100 (keyed 4)))
     let q : Requester := Requester.nrap 1
     let slot : BitVec 8 := 0
     Reaches s q 145 116 ∧ flag s R.CRY_STAT F.CRY_STAT_BUSY = false ∧ s.paused = false ∧
     let j : CryJob :=
         { op := 12, slot := slot.toNat, src := BitVec.toNat (rd s R.CRY_SRC), dst := BitVec.toNat (rd s R.CRY_DST), len := BitVec.toNat (rd s R.CRY_LEN), aux := BitVec.toNat (rd s R.CRY_AUX), auxLen := BitVec.toNat (rd s R.CRY_AUXLEN), iv := regBytes s R.CRY_IV 3, tag := regBytes s R.CRY_TAG 4 }
     cryCheck s j = Code.none) ∧
    (let s : State := keyed 3
     let q : Requester := Requester.mgmt 0
     let slot : BitVec 8 := 5
     Reaches s q 145 116 ∧ flag s R.CRY_STAT F.CRY_STAT_BUSY = false ∧ s.paused = false ∧
     let j : CryJob :=
         { op := 12, slot := slot.toNat, src := BitVec.toNat (rd s R.CRY_SRC), dst := BitVec.toNat (rd s R.CRY_DST), len := BitVec.toNat (rd s R.CRY_LEN), aux := BitVec.toNat (rd s R.CRY_AUX), auxLen := BitVec.toNat (rd s R.CRY_AUXLEN), iv := regBytes s R.CRY_IV 3, tag := regBytes s R.CRY_TAG 4 }
     cryCheck s j ≠ Code.none) ∧
    (let s : State := cryBusy 1 3 [] (keyed 4)
     let j : CryJob :=
         { op := 1, slot := 3, src := 0x10000000, dst := 0x10000100, len := 0, aux := 0x10000200, auxLen := 0, iv := (List.replicate 12 1), tag := [] }
     s.crypto.cry = some j ∧ 0x20000 ≤ j.dst ∧ j.op = 1) ∧
    (let s : State := cryBusy 3 3 (List.replicate 16 0) (keyed 4)
     let j : CryJob :=
         { op := 3, slot := 3, src := 0x10000000, dst := 0x10000100, len := 0, aux := 0x10000200, auxLen := 0, iv := (List.replicate 12 1), tag := (List.replicate 16 0) }
     s.crypto.cry = some j ∧ 0x20000 ≤ j.dst ∧ (j.op = 3 ∨ j.op = 4)) ∧
    (let s : State := cryBusy 5 3 (List.replicate 16 0) (keyed 4)
     let j : CryJob :=
         { op := 5, slot := 3, src := 0x10000000, dst := 0x10000100, len := 0, aux := 0x10000200, auxLen := 0, iv := (List.replicate 12 1), tag := (List.replicate 16 0) }
     s.crypto.cry = some j ∧ 0x20000 ≤ j.dst ∧ j.op = 5) ∧
    (let s : State := cryBusy 6 4 (List.replicate 16 0) (keyed 4)
     let j : CryJob :=
         { op := 6, slot := 4, src := 0x10000000, dst := 0x10000100, len := 0, aux := 0x10000200, auxLen := 0, iv := (List.replicate 12 1), tag := (List.replicate 16 0) }
     s.crypto.cry = some j ∧ 0x20000 ≤ j.dst ∧ j.op = 6) := by
  refine ⟨?_, ?_, ?_, ?_, ?_, ?_, ?_, ?_, ?_, ?_, ?_, ?_⟩ <;> decide +kernel

theorem witness_KeysJobsTamperAndDebug_2 :
    (let s : State := cryBusy 7 5 (List.replicate 16 0) (keyed 4)
     let j : CryJob :=
         { op := 7, slot := 5, src := 0x10000000, dst := 0x10000100, len := 0, aux := 0x10000200, auxLen := 0, iv := (List.replicate 12 1), tag := (List.replicate 16 0) }
     s.crypto.cry = some j ∧ 0x20000 ≤ j.dst ∧ j.op = 7) ∧
    (let s : State := cryBusy 8 6 (List.replicate 16 0) (keyed 4)
     let j : CryJob :=
         { op := 8, slot := 6, src := 0x10000000, dst := 0x10000100, len := 0, aux := 0x10000200, auxLen := 0, iv := (List.replicate 12 1), tag := (List.replicate 16 0) }
     s.crypto.cry = some j ∧ 0x20000 ≤ j.dst ∧ j.op = 8) ∧
    (let s : State := cryBusy 9 7 (List.replicate 16 0) (keyed 4)
     let j : CryJob :=
         { op := 9, slot := 7, src := 0x10000000, dst := 0x10000100, len := 0, aux := 0x10000200, auxLen := 0, iv := (List.replicate 12 1), tag := (List.replicate 16 0) }
     s.crypto.cry = some j ∧ 0x20000 ≤ j.dst ∧ j.op = 9) ∧
    (let s : State := cryBusy 10 7 (List.replicate 16 0) (keyed 4)
     let j : CryJob :=
         { op := 10, slot := 7, src := 0x10000000, dst := 0x10000100, len := 0, aux := 0x10000200, auxLen := 0, iv := (List.replicate 12 1), tag := (List.replicate 16 0) }
     s.crypto.cry = some j ∧ 0x20000 ≤ j.dst ∧ j.op = 10) ∧
    (let s : State := cryBusy 11 0 (List.replicate 16 0) (keyed 4)
     let j : CryJob :=
         { op := 11, slot := 0, src := 0x10000000, dst := 0x10000100, len := 0, aux := 0x10000200, auxLen := 0, iv := (List.replicate 12 1), tag := (List.replicate 16 0) }
     s.crypto.cry = some j ∧ 0x20000 ≤ j.dst ∧ j.op = 11) ∧
    (let s : State := cryBusy 12 0 (List.replicate 16 0) (keyed 4)
     let j : CryJob :=
         { op := 12, slot := 0, src := 0x10000000, dst := 0x10000100, len := 0, aux := 0x10000200, auxLen := 0, iv := (List.replicate 12 1), tag := (List.replicate 16 0) }
     s.crypto.cry = some j ∧ 0x20000 ≤ j.dst ∧ j.op = 12) ∧
    (let s : State := keyed 3
     let n : Fin 6 := 0
     tamperEnabled s n.val = false) ∧
    (let s : State := keyed 3
     let n : Fin 6 := 4
     tamperEnabled s n.val = true) ∧
    (let s : State := keyed 3
     let q : Requester := Requester.mgmt 0
     Reaches s q 5 68) ∧
    (let s : State := keyed 3
     let q : Requester := Requester.mgmt 0
     Reaches s q 160 128) ∧
    (let s : State := keyed 3
     let q : Requester := Requester.mgmt 0
     Reaches s q 160 72 ∧ s.boot.due = none ∧
     let key : BitVec 16 := 0x4C4B
     modeNow s = mdCOMMISSION ∧ key = 19531) ∧
    (let s : State := cruSet 3 2 0x80000100 0 (keyed 4)
     let q : Requester := Requester.mgmt 0
     Reaches s q 160 72 ∧ s.boot.due = none ∧ modeNow s ≠ mdCOMMISSION) := by
  refine ⟨?_, ?_, ?_, ?_, ?_, ?_, ?_, ?_, ?_, ?_, ?_, ?_⟩ <;> decide +kernel

theorem witness_KeysJobsTamperAndDebug_3 :
    (let s : State := keyed 3
     let q : Requester := Requester.mgmt 0
     Reaches s q 160 72 ∧ s.boot.due = none ∧
     let key : BitVec 16 := 0
     modeNow s = mdCOMMISSION ∧ key ≠ 19531) ∧
    (let s : State := keyed 3
     Reaches s Requester.debug 160 72 ∧ s.boot.due = none ∧ (modeNow s = mdBOOT → 4 ≤ fld s R.BOOT_STAT F.BOOT_STAT_PHASE)) ∧
    (let s : State := session (live 3)
     Reaches s Requester.debug 160 72 ∧ s.boot.due = none ∧
     let session : Bool := flag s R.DBG_STAT F.DBG_STAT_SESSION
     session = true) ∧
    (let s : State := keyed 3
     Reaches s Requester.debug 160 72 ∧ s.boot.due = none ∧
     let session : Bool := flag s R.DBG_STAT F.DBG_STAT_SESSION
     session = false) ∧
    (let s : State := session (live 3)
     let q : Requester := Requester.debug
     let v : Word := 0
     Reaches s q 160 76 ∧ BitVec.toNat v < 65536 ∧ q = Requester.debug ∧ flag s R.DBG_STAT F.DBG_STAT_SESSION = true) ∧
    (let s : State := keyed 3
     let q : Requester := Requester.mgmt 0
     let v : Word := 0x100
     Reaches s q 160 76 ∧ BitVec.toNat v < 65536 ∧ q ≠ Requester.debug) ∧
    (let s : State := stoppedCore
     let q : Requester := Requester.ladle 2
     let c : Fin 8 := 0
     Reaches s q 160 80 ∧ (fld s R.DBG_HOLD F.DBG_HOLD_STOPPED).testBit c.val = true) := by
  refine ⟨?_, ?_, ?_, ?_, ?_, ?_, ?_⟩ <;> decide +kernel

/-- A command that creates a key: a derivation. -/
theorem witness_KeysJobsTamperAndDebug_create : let s : State := cruBusy 2 9 0 0x80000100 (keyed 3)
    ∃ j m u, s.crypto.cru = some j ∧ j.op ∈ [1, 2, 3, 5] ∧ newMaterial s j = (u, some m) ∧ s.crypto.cry = none ∧ (slotAt s j.target).gen ≠ 65535 :=
  ⟨_, _, _, rfl, by decide, rfl, by decide, by decide +kernel⟩
/-- Of two attribute words with different headers at most one fits a blob. -/
theorem unwrap_fails_for_one (s t : State) (j k : CruJob) (hj : j.op = 3) (hk : k.op = 3) (hs : slotAt s (attrParent j.attr) = slotAt t (attrParent k.attr))
    (hb : bytesAt s j.addr (blobLen (attrAlg j.attr)) = bytesAt t k.addr (blobLen (attrAlg k.attr))) (hh : blobHead j.attr ≠ blobHead k.attr) :
    newMaterial s j = (s, none) ∨ newMaterial t k = (t, none) := by
  unfold newMaterial
  simp only [hj, hk, hs, hb, if_neg (show ¬ (3 : Nat) = 1 by decide), if_neg (show ¬ (3 : Nat) = 2 by decide), if_true]
  cases kwUnwrap (aesKeyOf (slotAt t (attrParent k.attr))) (bytesAt t k.addr (blobLen (attrAlg k.attr))) with
  | none => exact .inl rfl
  | some p =>
    by_cases e : p.take 8 = blobHead j.attr
    · exact .inr (by simp [e, hh])
    · exact .inl (by simp [e])
/-- A command that creates a key from a blob which does not unwrap. -/
theorem witness_KeysJobsTamperAndDebug_blob : ∃ attr : Word, let s := cruBusy 3 9 0 attr (keyed 3)
    ∃ j, s.crypto.cru = some j ∧ j.op ∈ [2, 3, 5] ∧ newMaterial s j = (s, none) := by
  cases unwrap_fails_for_one (cruBusy 3 9 0 0x80000100 (keyed 3)) (cruBusy 3 9 0 0x80400100 (keyed 3))
      ⟨3, 9, 0, 0x80000100, 0x10000000, List.replicate 16 0, List.replicate 32 5⟩ ⟨3, 9, 0, 0x80400100, 0x10000000, List.replicate 16 0, List.replicate 32 5⟩
      rfl rfl rfl rfl (by decide +kernel) with
  | inl h => exact ⟨_, _, rfl, by decide +kernel, h⟩
  | inr h => exact ⟨_, _, rfl, by decide +kernel, h⟩
/-- Of two tags at most one verifies. -/
theorem gcm_fails_for_one (key iv aad ct a b : List Byte) (h : a ≠ b) : gcmOpen key iv aad ct a = none ∨ gcmOpen key iv aad ct b = none := by
  unfold gcmOpen
  by_cases e : gcmTag (aesRoundKeys key) iv aad ct = a
  · exact .inr (by simp [e, h])
  · exact .inl (by simp [e])
theorem gcm_opens_its_tag (key iv aad ct : List Byte) : ∃ b, gcmOpen key iv aad ct (gcmTag (aesRoundKeys key) iv aad ct) = some b :=
  ⟨_, by unfold gcmOpen; exact if_pos rfl⟩
def gcmJob (tag : List Byte) : CryJob := ⟨2, 4, 0x10000000, 0x10000100, 0, 0x10000200, 0, List.replicate 12 1, tag⟩
def gcmOf (tag : List Byte) : Option (List Byte) :=
  let s := cryBusy 2 4 tag (keyed 4)
  gcmOpen (aesKeyOf (slotAt s 4)) (gcmJob tag).iv (bytesAt s (gcmJob tag).aux (gcmJob tag).auxLen) (bytesAt s (gcmJob tag).src (gcmJob tag).len) tag
theorem gcmOf_eq (tag : List Byte) : gcmOf tag = gcmOpen (aesKeyOf (slotAt (keyed 4) 4)) (List.replicate 12 1) [] [] tag := by
  have e : slotAt (cryBusy 2 4 tag (keyed 4)) 4 = slotAt (keyed 4) 4 := by unfold cryBusy setFld wr slotAt; rfl
  unfold gcmOf
  dsimp only
  rw [e]
  rfl
theorem witness_KeysJobsTamperAndDebug_opens : ∃ tag b, (cryBusy 2 4 tag (keyed 4)).crypto.cry = some (gcmJob tag) ∧ 0x20000 ≤ (gcmJob tag).dst ∧ (gcmJob tag).op = 2 ∧ gcmOf tag = some b := by
  obtain ⟨b, h⟩ := gcm_opens_its_tag (aesKeyOf (slotAt (keyed 4) 4)) (List.replicate 12 1) [] []
  exact ⟨_, b, rfl, by unfold gcmJob; decide, rfl, (gcmOf_eq _).trans h⟩
theorem witness_KeysJobsTamperAndDebug_refuses : ∃ tag, (cryBusy 2 4 tag (keyed 4)).crypto.cry = some (gcmJob tag) ∧ 0x20000 ≤ (gcmJob tag).dst ∧ (gcmJob tag).op = 2 ∧ gcmOf tag = none := by
  cases gcm_fails_for_one (aesKeyOf (slotAt (keyed 4) 4)) (List.replicate 12 1) [] [] [0] [1] (by decide) with
  | inl h => exact ⟨[0], rfl, by decide, rfl, (gcmOf_eq _).trans h⟩
  | inr h => exact ⟨[1], rfl, by decide, rfl, (gcmOf_eq _).trans h⟩

theorem witness_TimeServoCalendarAndBackup_1 :
    (let s : State := live 3
     let q : Requester := Requester.mgmt 0
     Reaches s q 6 84 ∧ modeNow s = mdCOMMISSION ∧ following s = false) ∧
    (let s : State := live 4
     let q : Requester := Requester.mgmt 0
     Reaches s q 6 84 ∧ (modeNow s ≠ mdCOMMISSION ∨ following s = true)) ∧
    (let s : State := inPair 3 (hbOf 2 4) (live 5)
     let q : Requester := Requester.mgmt 0
     Reaches s q 6 76 ∧ (following s = true ∨ ptpOn s = true)) ∧
    (let s : State := live 3
     let q : Requester := Requester.mgmt 0
     let v : Word := 0x20
     Reaches s q 6 76 ∧
     let n : Int := BitVec.toInt (rd s R.TB_SLEW) + BitVec.toInt v
     following s = false ∧ ptpOn s = false ∧ -0x80000000 ≤ n ∧ n ≤ 0x7FFFFFFF) ∧
    (let s : State := live 3
     flag s R.TLM_STAT F.TLM_STAT_UP = false) ∧
    (let s : State := setFld (live 3) R.TLM_STAT F.TLM_STAT_UP 1
     flag s R.TLM_STAT F.TLM_STAT_UP = true) ∧
    (let s : State := live 3
     let d : Byte := 0
     let here : Bool := ptpOn s && !s.paused && BitVec.toNat d == fld s R.PTP_CFG F.PTP_CFG_DOMAIN
     here = false) ∧
    (let s : State := (servo 2 0 (some (annOf 128 0x98)))
     let d : Byte := 0
     let a : PtpAnnounce :=
         { prio1 := 0x80, cls := 6, accuracy := 0x21, variance := 5, prio2 := 0x80, gm := 0x1122334455667788, steps := 1, src := 0x99, logIvl := 1 }
     let here : Bool := ptpOn s && !s.paused && BitVec.toNat d == fld s R.PTP_CFG F.PTP_CFG_DOMAIN
     here = true ∧
     let m : PtpAnnounce :=
         { prio1 := 0x80, cls := 6, accuracy := 0x21, variance := 5, prio2 := 0x80, gm := 0x44, steps := 1, src := 0x98, logIvl := 0 }
     s.ptp.master = some m ∧ ptpState s ≠ ptLISTENING ∧ a.src ≠ m.src ∧ comesBefore (bmcaKey a) (bmcaKey m) = false) ∧
    (let s : State := (servo 2 0 (some (annOf 128 0x98)))
     let d : Byte := 0
     let a : PtpAnnounce :=
         { prio1 := 1, cls := 6, accuracy := 0x21, variance := 5, prio2 := 0x80, gm := 0x33, steps := 1, src := 0x98, logIvl := 0 }
     let here : Bool := ptpOn s && !s.paused && BitVec.toNat d == fld s R.PTP_CFG F.PTP_CFG_DOMAIN
     here = true ∧
     let m : PtpAnnounce :=
         { prio1 := 0x80, cls := 6, accuracy := 0x21, variance := 5, prio2 := 0x80, gm := 0x44, steps := 1, src := 0x98, logIvl := 0 }
     s.ptp.master = some m ∧ ptpState s ≠ ptLISTENING ∧ a.src = m.src) ∧
    (let s : State := servo 1 0 none
     let d : Byte := 0
     let a : PtpAnnounce :=
         { prio1 := 0x80, cls := 6, accuracy := 0x21, variance := 5, prio2 := 0x80, gm := 0x1122334455667788, steps := 1, src := 0x99, logIvl := 1 }
     let here : Bool := ptpOn s && !s.paused && BitVec.toNat d == fld s R.PTP_CFG F.PTP_CFG_DOMAIN
     here = true ∧ (ptpState s = ptLISTENING ∨ s.ptp.master = none ∨ ∃ m, s.ptp.master = some m ∧ a.src ≠ m.src ∧ comesBefore (bmcaKey a) (bmcaKey
     m) = true)) ∧
    (let s : State := servo 1 0 none
     let d : Byte := 0
     let src : BitVec 80 := 0x99
     let here : Bool := ptpOn s && !s.paused && BitVec.toNat d == fld s R.PTP_CFG F.PTP_CFG_DOMAIN
     here = true ∧ fromMaster s src = false) ∧
    (let s : State := (servo 2 0 (some (annOf 128 0x98)))
     let d : Byte := 0
     let src : BitVec 80 := 0x98
     let seq : BitVec 16 := 1
     let here : Bool := ptpOn s && !s.paused && BitVec.toNat d == fld s R.PTP_CFG F.PTP_CFG_DOMAIN
     here = true ∧ fromMaster s src = true ∧
     let t2 : Int := 0x4A817C80
     let c : Int := 4
     s.ptp.wait = some (seq.toNat, t2, c)) := by
  refine ⟨?_, ?_, ?_, ?_, ?_, ?_, ?_, ?_, ?_, ?_, ?_, ?_⟩ <;> decide +kernel

theorem witness_TimeServoCalendarAndBackup_2 :
    (let s : State := (servo 2 0 (some (annOf 128 0x98)))
     let d : Byte := 0
     let src : BitVec 80 := 0x98
     let seq : BitVec 16 := 0x4C4B
     let here : Bool := ptpOn s && !s.paused && BitVec.toNat d == fld s R.PTP_CFG F.PTP_CFG_DOMAIN
     here = true ∧ fromMaster s src = true ∧
     let n : Nat := 1
     let t2 : Int := 0x4A817C80
     let c : Int := 4
     s.ptp.wait = some (n, t2, c) ∧ n ≠ seq.toNat) ∧
    (let s : State := (servo 2 0 (some (annOf 128 0x98)))
     let d : Byte := 0
     let src : BitVec 80 := 0x98
     let seq : BitVec 16 := 1
     let here : Bool := ptpOn s && !s.paused && BitVec.toNat d == fld s R.PTP_CFG F.PTP_CFG_DOMAIN
     here = true ∧ fromMaster s src = true ∧
     let t3 : Int := 1350
     seq.toNat = s.ptp.reqSeq ∧ s.ptp.t3 = some t3) ∧
    (let s : State := (servo 2 0 (some (annOf 128 0x98)))
     let m : PtpAnnounce :=
         { prio1 := 0x80, cls := 6, accuracy := 0x21, variance := 5, prio2 := 0x80, gm := 0x44, steps := 1, src := 0x98, logIvl := 0 }
     s.ptp.master = some m ∧ ptpOn s = true ∧ ptpState s ≠ ptLISTENING) ∧
    (let s : State := live 3
     (s.ptp.master = none ∨ ptpOn s = false)) ∧
    (let s : State := (servo 3 20 (some (annOf 200 0x99)))
     ptpOn s = true ∧ ptpState s = ptSLAVE) ∧
    (let s : State := live 3
     (ptpOn s = false ∨ ptpState s ≠ ptSLAVE)) ∧
    (let s : State := live 3
     let q : Requester := Requester.mgmt 0
     let v : Word := 0
     Reaches s q 4 72 ∧ v &&& 0xFFFFFFE2 = 0 ∧ rtcHeld s = false) ∧
    (let s : State := heldCal (some 0x431) none
     let q : Requester := Requester.mgmt 0
     let v : Word := 0
     Reaches s q 4 72 ∧ v &&& 0xFFFFFFE2 = 0 ∧
     let date : Word := s.rtc.stageDate.getD (rd s R.RTC_DATE)
     rtcHeld s = true ∧ dateExists date = false) ∧
    (let s : State := heldCal (some 0x229) (some 0x07235959)
     let q : Requester := Requester.mgmt 0
     let v : Word := 1
     Reaches s q 4 72 ∧ v &&& 0xFFFFFFE2 = 0 ∧
     let date : Word := s.rtc.stageDate.getD (rd s R.RTC_DATE)
     rtcHeld s = true ∧ dateExists date = true) ∧
    (let s : State := live 3
     let q : Requester := Requester.mgmt 0
     Reaches s q 4 64) ∧
    (let s : State := live 3
     let q : Requester := Requester.mgmt 0
     Reaches s q 4 80) ∧
    (let s : State := live 3
     let b : Bool := false
     flag s R.RTC_STAT F.RTC_STAT_ON_VBKP = b) := by
  refine ⟨?_, ?_, ?_, ?_, ?_, ?_, ?_, ?_, ?_, ?_, ?_, ?_⟩ <;> decide +kernel

theorem witness_TimeServoCalendarAndBackup_3 :
    let s : State := live 3
    let b : Bool := true
    flag s R.RTC_STAT F.RTC_STAT_ON_VBKP ≠ b := by
  decide +kernel

theorem witness_ModesPowerResetsAndNor_1 :
    (let s : State := live 0
     modeNow s = 0) ∧
    (let s : State := live 3
     let pend : Bool := flag s R.SYS_MODE F.SYS_MODE_PEND
     s.wake = false ∧ pend = false) ∧
    (let s : State := { live 7 with wake := true }
     modeNow s ≠ 0 ∧ s.twin.decided = none ∧ s.twin.demote = false ∧ s.twin.hoTick = none ∧ s.wake = true ∧ modeNow s = mdDOZE) ∧
    (let s : State := asked 4 (live 3)
     let pend : Bool := flag s R.SYS_MODE F.SYS_MODE_PEND
     let req : Nat := fld s R.SYS_MODE F.SYS_MODE_REQ
     modeNow s ≠ 0 ∧ s.twin.decided = none ∧ s.twin.demote = false ∧ s.twin.hoTick = none ∧ (s.wake = false ∨ modeNow s ≠ mdDOZE) ∧ pend = true ∧
     requestAllowed (modeNow s) req = true) ∧
    (let s : State := live 3
     let q : Requester := Requester.mgmt 0
     let v : Word := 2
     Reaches s q 0 68 ∧ BitVec.toNat v < 16 ∧
     let n : Nat := BitVec.toNat v
     n ∉ [3, 4, 6, 7]) ∧
    (let s : State := inState 5 2 true (live 4)
     let d : Fin 14 := 5
     let leaving : Bool := tget (fun x => false) s.exiting d.val
     (leaving = true ∨ domSt s d.val ≠ 2)) ∧
    (let s : State := live 3
     let d : Fin 14 := 0
     let leaving : Bool := tget (fun x => false) s.exiting d.val
     leaving = false ∧ domSt s d.val = 2) ∧
    (let s : State := live 3
     let d : Fin 14 := 0
     (domSt s d.val ≠ 2 ∨ domC s d.val = 0)) ∧
    (let s : State := inState 5 2 true (live 4)
     let d : Fin 14 := 5
     domSt s d.val = 2 ∧ domC s d.val ≠ 0) ∧
    (let s : State := live 3
     let d : Fin 14 := 0
     let leaving : Bool := tget (fun x => false) s.exiting d.val
     (leaving = false ∨ domSt s d.val ≠ 2)) ∧
    (let s : State := inState 5 2 true (live 4)
     let d : Fin 14 := 5
     let leaving : Bool := tget (fun x => false) s.exiting d.val
     leaving = true ∧ domSt s d.val = 2) ∧
    (let c : Nat := 0
     c % 2 = 0) := by
  refine ⟨?_, ?_, ?_, ?_, ?_, ?_, ?_, ?_, ?_, ?_, ?_, ?_⟩ <;> decide +kernel

theorem witness_ModesPowerResetsAndNor_2 :
    (let k : Nat := 16452
     inBackup k = true) ∧
    (let k : Nat := 255
     inBackup k = false ∧ k ∉ [R.SYS_RSTCAUSE, R.SCN_PFWST, R.TWN_STAT, R.EVT_PEND 0]) ∧
    (let s : State := live 3
     Memory.wf s.mem = true ∧ updState s ≠ udWRITING ∧ s.recov.commit ≠ 1 ∧ s.boot.store = none ∧ s.boot.xspi = none ∧
     let a : Nat := 0x30010000
     0x30000000 ≤ a ∧ a ≤ 0x3FFFFFFF) ∧
    (let s : State := live 3
     (¬(modeNow s = mdBOOT ∧ flag s R.BOOT_STAT F.BOOT_STAT_RAILWAIT = true))) ∧
    (let s : State := waiting
     let rail : Fin 5 := 0
     let e : BootEnv := { s.boot.env with rails := s.boot.env.rails ||| BitVec.ofNat 5 (2 ^ rail.val) }
     modeNow s = mdBOOT ∧ flag s R.BOOT_STAT F.BOOT_STAT_RAILWAIT = true ∧ bootPhase s = 5 ∧ e.rails.toNat % 4 ≠ 3) ∧
    (let s : State := norSet 0x80000000 0x1201000 0x1000 (live 3)
     let q : Requester := Requester.mgmt 0
     Reaches s q 2 96 ∧
     let src : Nat := BitVec.toNat (rd s R.BOOT_SSRC)
     let len : Nat := BitVec.toNat (rd s R.BOOT_SLEN)
     serviceMode s = true ∧ s.boot.store = none ∧ flag s R.UPD_STAT F.UPD_STAT_JOPEN = false ∧ inDram s src len = true ∧ 16 ≤ len ∧ len ≤ 0x100000) ∧
    (let s : State := norSet 0x80000000 0x1201000 0x1000 (live 3)
     let q : Requester := Requester.mgmt 0
     Reaches s q 2 96 ∧
     let src : Nat := BitVec.toNat (rd s R.BOOT_SSRC)
     let off : Nat := BitVec.toNat (rd s R.BOOT_SOFF)
     let len : Nat := BitVec.toNat (rd s R.BOOT_SLEN)
     serviceMode s = true ∧ s.boot.store = none ∧ flag s R.UPD_STAT F.UPD_STAT_JOPEN = false ∧ inDram s src len = true ∧ 16 ≤ len ∧ off % 4096 = 0 ∧
     0x1200000 ≤ off ∧ off + len ≤ BitVec.toNat (rd s R.XSPI_SIZE)) ∧
    (let s : State := { live 4 with boot := { store := some ⟨2, 0x80000000, 0x1200000, 64⟩ } }
     let j : NorJob := { op := 2, src := 0x80000000, off := 0x1200000, len := 64 }
     s.boot.store = some j) ∧
    (let s : State := norSet 0x80000000 0x1201000 0x1000 (live 3)
     let q : Requester := Requester.mgmt 0
     Reaches s q 13 84 ∧
     let off : Nat := BitVec.toNat (rd s R.XSPI_OFF)
     let len : Nat := BitVec.toNat (rd s R.XSPI_LEN)
     let row : Nat := xspiRow s off len
     s.boot.store = none ∧ s.boot.xspi = none ∧ serviceMode s = true ∧ (row = 3 ∨ row = 1 ∧ modeNow s = mdCOMMISSION) ∧ len ≠ 0 ∧ off % 4096 = 0 ∧
     len % 4096 = 0) ∧
    (let s : State := norSet 0x80000000 0x1201000 0x1000 (live 3)
     let q : Requester := Requester.mgmt 0
     Reaches s q 13 84 ∧
     let src : Nat := BitVec.toNat (rd s R.XSPI_SRC)
     let off : Nat := BitVec.toNat (rd s R.XSPI_OFF)
     let len : Nat := BitVec.toNat (rd s R.XSPI_LEN)
     let row : Nat := xspiRow s off len
     s.boot.store = none ∧ s.boot.xspi = none ∧ serviceMode s = true ∧ (row = 3 ∨ row = 1 ∧ modeNow s = mdCOMMISSION) ∧ len ≠ 0 ∧ off % 256 = 0 ∧
     len % 256 = 0 ∧ inDram s src len = true) ∧
    (let s : State := norSet 0x80000000 0x1201000 0x1000 (live 3)
     let q : Requester := Requester.mgmt 0
     Reaches s q 13 84 ∧
     let src : Nat := BitVec.toNat (rd s R.XSPI_SRC)
     let off : Nat := BitVec.toNat (rd s R.XSPI_OFF)
     let len : Nat := BitVec.toNat (rd s R.XSPI_LEN)
     let row : Nat := xspiRow s off len
     s.boot.store = none ∧ s.boot.xspi = none ∧ serviceMode s = true ∧ row ≠ 0 ∧ len ≠ 0 ∧ off % 256 = 0 ∧ len % 256 = 0 ∧ inDram s src len = true) ∧
    (let s : State := { live 4 with boot := { xspi := some ⟨3, 0x80000000, 0x1200000, 256⟩ } }
     let j : NorJob := { op := 3, src := 0x80000000, off := 0x1200000, len := 256 }
     s.boot.xspi = some j) := by
  refine ⟨?_, ?_, ?_, ?_, ?_, ?_, ?_, ?_, ?_, ?_, ?_, ?_⟩ <;> decide +kernel

theorem witness_ModesPowerResetsAndNor_3 :
    (let s : State := live 3
     let m : Fin 3 := 0
     let old : Nat := fld s R.DDR_STAT F.DDR_STAT_MULT
     (flag s R.DDR_STAT F.DDR_STAT_TRAINED = false ∨ old = 2 ^ m.val)) ∧
    (let s : State := (setFld (setFld (live 4) R.DDR_STAT F.DDR_STAT_TRAINED 1) R.DDR_STAT F.DDR_STAT_MULT 1)
     let m : Fin 3 := 1
     let old : Nat := fld s R.DDR_STAT F.DDR_STAT_MULT
     flag s R.DDR_STAT F.DDR_STAT_TRAINED = true ∧ old ≠ 2 ^ m.val) ∧
    (let s : State := live 3
     let n : Fin 32 := 0
     islandRuns s n.val = false) ∧
    (let s : State := withReg R.CLK_LOCK 0xFFFFFFFF (live 4)
     let n : Fin 32 := 0
     islandRuns s n.val = true) := by
  refine ⟨?_, ?_, ?_, ?_⟩ <;> decide +kernel

/-- Mode requests: one that waits and that the table does not allow, one on a waiting one, one that is not allowed, one that is. -/
theorem witness_ModesPowerResetsAndNor_requests :
    (let s := asked 3 (live 3)
     modeNow s ≠ 0 ∧ s.twin.decided = none ∧ s.twin.demote = false ∧ s.twin.hoTick = none ∧ s.wake = false ∧
     flag s R.SYS_MODE F.SYS_MODE_PEND = true ∧ requestAllowed (modeNow s) (fld s R.SYS_MODE F.SYS_MODE_REQ) = false ∧
     Reaches s (.mgmt 0) 0x00 0x44) ∧
    (let s := live 3
     Reaches s (.mgmt 0) 0x00 0x44 ∧ flag s R.SYS_MODE F.SYS_MODE_PEND = false ∧ requestAllowed (modeNow s) 3 = false ∧
     requestAllowed (modeNow s) 4 = true) := by
  decide +kernel

theorem witness_UpdatesRunThroughTheirStates_1 :
    (let s : State := updating 1 { src := 0x80000000, len := 16 } (live 4)
     s.boot.due = none ∧
     let st : Nat := updState s
     let q : Requester := Requester.mgmt 0
     Reaches s q 152 72 ∧ serviceMode s = true ∧ (st = udCHECKING ∨ st = udWRITING ∨ st = udACTIVATING)) ∧
    (let s : State := { updating 2 {} (live 4) with boot := { store := some ⟨2, 0x80000000, 0x1200000, 64⟩ } }
     s.boot.due = none ∧
     let st : Nat := updState s
     let q : Requester := Requester.mgmt 0
     Reaches s q 152 72 ∧ serviceMode s = true ∧ st = udCHECKED ∧ s.boot.store.isSome = true) ∧
    (let s : State := updating 2 {} (live 4)
     s.boot.due = none ∧
     let st : Nat := updState s
     let q : Requester := Requester.mgmt 0
     Reaches s q 152 72 ∧ serviceMode s = true ∧ st = udCHECKED ∧ s.boot.store = none) ∧
    (let s : State := updating 3 { src := 0x80000000, len := 0x1A4, manifest := List.replicate 416 1 } (live 4)
     s.boot.due = none ∧
     let st : Nat := updState s
     let q : Requester := Requester.mgmt 0
     Reaches s q 152 72 ∧ serviceMode s = true ∧ (st = udWRITING ∨ st = udACTIVATING)) ∧
    (let s : State := live 3
     s.boot.due = none ∧
     let st : Nat := updState s
     let q : Requester := Requester.mgmt 0
     Reaches s q 152 72 ∧ serviceMode s = true ∧ st ∉ [udCHECKED, udWRITING, udACTIVATING]) ∧
    (let s : State := live 3
     s.boot.due = none ∧
     let st : Nat := updState s
     let q : Requester := Requester.mgmt 0
     Reaches s q 152 72 ∧ serviceMode s = true ∧ (¬(st = udCHECKING ∨ st = udWRITING ∨ st = udACTIVATING)) ∧ st ≠ udCHECKED) ∧
    (let s : State := live 4
     s.boot.due = none ∧
     let q : Requester := Requester.mgmt 0
     Reaches s q 152 72 ∧ serviceMode s = true ∧ modeNow s ≠ mdCOMMISSION) ∧
    (let s : State := { live 3 with otp := { owner := some (List.replicate 32 1) } }
     s.boot.due = none ∧
     let q : Requester := Requester.mgmt 0
     Reaches s q 152 72 ∧ serviceMode s = true ∧ modeNow s = mdCOMMISSION ∧ s.otp.owner.isSome = true) ∧
    (let s : State := withReg R.UPD_SRC 0x80000000 (live 3)
     s.boot.due = none ∧
     let st : Nat := updState s
     let q : Requester := Requester.mgmt 0
     Reaches s q 152 72 ∧ serviceMode s = true ∧ modeNow s = mdCOMMISSION ∧ s.otp.owner = none ∧ st = udIDLE ∧ inDram s (BitVec.toNat (rd s
     R.UPD_SRC)) 64 = true) ∧
    (let s : State := live 3
     s.boot.due = none ∧
     let st : Nat := updState s
     let q : Requester := Requester.mgmt 0
     Reaches s q 152 72 ∧ serviceMode s = true ∧ st ≠ udWRITTEN) ∧
    (let s : State := (updating 4 {} (linked 2 0 { hbOf 3 5 with synced := true } (live 4)))
     s.boot.due = none ∧
     let st : Nat := updState s
     let q : Requester := Requester.mgmt 0
     Reaches s q 152 72 ∧ serviceMode s = true ∧ st = udWRITTEN ∧ roleOf s = rlACTIVE ∧ partnerSynced s = true) ∧
    (let s : State := (updating 4 {} (linked 3 3 (hbOf 2 4) (live 5)))
     s.boot.due = none ∧
     let st : Nat := updState s
     let q : Requester := Requester.mgmt 0
     Reaches s q 152 72 ∧ serviceMode s = true ∧ st = udWRITTEN ∧ (roleOf s = rlSTANDBY ∨ roleOf s = rlRESOLVING)) := by
  refine ⟨?_, ?_, ?_, ?_, ?_, ?_, ?_, ?_, ?_, ?_, ?_, ?_⟩ <;> decide +kernel

theorem witness_UpdatesRunThroughTheirStates_2 :
    (let s : State := updating 4 {} (live 7)
     s.boot.due = none ∧
     let st : Nat := updState s
     let q : Requester := Requester.mgmt 0
     Reaches s q 152 72 ∧ serviceMode s = true ∧ st = udWRITTEN ∧ roleOf s ≠ rlSTANDBY ∧ roleOf s ≠ rlRESOLVING ∧ (roleOf s ≠ rlACTIVE ∨
     partnerSynced s = false) ∧ modeNow s = mdDOZE) ∧
    (let s : State := (updating 4 {} (exchanging 1 (live 4)))
     s.boot.due = none ∧
     let st : Nat := updState s
     let q : Requester := Requester.mgmt 0
     Reaches s q 152 72 ∧ serviceMode s = true ∧ st = udWRITTEN ∧ roleOf s ≠ rlSTANDBY ∧ roleOf s ≠ rlRESOLVING ∧ (roleOf s ≠ rlACTIVE ∨
     partnerSynced s = false) ∧ modeNow s ∈ [mdACTIVE, mdSAFE, mdCOMMISSION] ∧ (xchState s ∈ [xsCHECKING, xsWAITING, xsMIGRATING] ∨
     s.boot.store.isSome = true)) ∧
    (let s : State := updating 4 {} (live 4)
     s.boot.due = none ∧
     let st : Nat := updState s
     let q : Requester := Requester.mgmt 0
     Reaches s q 152 72 ∧ serviceMode s = true ∧ st = udWRITTEN ∧ roleOf s ≠ rlSTANDBY ∧ roleOf s ≠ rlRESOLVING ∧ (roleOf s ≠ rlACTIVE ∨
     partnerSynced s = false) ∧ modeNow s ∈ [mdACTIVE, mdSAFE, mdCOMMISSION] ∧ xchState s ∉ [xsCHECKING, xsWAITING, xsMIGRATING] ∧ s.boot.store =
     none) ∧
    (let s : State := live 3
     s.boot.due = none ∧
     let st : Nat := updState s
     st ≠ udCHECKING) ∧
    (let s : State := updating 1 { src := 0x80000000, len := 16 } (live 4)
     s.boot.due = none ∧
     let st : Nat := updState s
     st = udCHECKING) ∧
    (let s : State := live 3
     s.boot.due = none ∧
     let st : Nat := updState s
     let m : List Byte := s.upd.manifest
     (st ≠ udWRITING ∨ m = [])) ∧
    (let s : State := updating 3 { src := 0x80000000, len := 0x1A4, manifest := List.replicate 416 1 } (live 4)
     s.boot.due = none ∧
     let st : Nat := updState s
     let ok : Bool := true
     let m : List Byte := s.upd.manifest
     st = udWRITING ∧ m ≠ [] ∧ ok = true) ∧
    (let s : State := live 3
     s.boot.due = none ∧
     let st : Nat := updState s
     (s.upd.b1 = none ∨ st ≠ udACTIVATING ∨ s.paused = true)) ∧
    (let s : State := { updating 5 { b1 := some 1251 } (live 4) with stationHold := true }
     s.boot.due = none ∧
     let st : Nat := updState s
     let b : Nat := 1251
     s.upd.b1 = some b ∧ st = udACTIVATING ∧ s.paused = false ∧ s.stationHold = true) ∧
    (let s : State := updating 5 { b1 := some 1251 } (live 4)
     s.boot.due = none ∧
     let st : Nat := updState s
     let b : Nat := 1251
     s.upd.b1 = some b ∧ st = udACTIVATING ∧ s.paused = false ∧ s.stationHold = false) ∧
    (let s : State := live 3
     s.boot.due = none ∧
     let st : Nat := updState s
     (s.paused = false ∨ st ≠ udACTIVATING)) ∧
    (let s : State :=
         { updating 5 { b1 := some 1251, pauseAt := 0x7735940 } (live 4) with stationHold := true, paused := true, boot := { delivered := false } }
     s.boot.due = none ∧
     let st : Nat := updState s
     let ok : Bool := false
     s.paused = true ∧ st = udACTIVATING ∧ modeNow s ≠ 0 ∧ (ok = false ∨ imageCheck s false ≠ Code.none)) := by
  refine ⟨?_, ?_, ?_, ?_, ?_, ?_, ?_, ?_, ?_, ?_, ?_, ?_⟩ <;> decide +kernel

theorem witness_UpdatesRunThroughTheirStates_3 :
    let s : State := { updating 5 { b1 := some 1251, pauseAt := 0x7735940 } (live 4) with stationHold := true, paused := true }
    s.boot.due = none ∧
    let st : Nat := updState s
    let ok : Bool := true
    s.paused = true ∧ st = udACTIVATING ∧ ok = true ∧ imageCheck s false = Code.none := by
  decide +kernel

theorem witness_UpdatesRunThroughTheirStates_writing : let s := updating 3 { manifest := [1] } (live 3)
    s.boot.due = none ∧ updState s = udWRITING ∧ s.upd.manifest ≠ [] := by
  decide +kernel

theorem witness_RecoveryServesOneSession :
    (let s : State := recovering {}
     s.boot.due = none ∧
     let m : Fin 3 := 0
     let mac : List Byte := [1, 2, 3, 4, 5, 6]
     let seq : Word := 0x20
     let off : Word := 0x20
     let data : List Byte := [0xFF, 0]
     mac.length = 6 ∧ data.length ≤ 1024 ∧
     let r : Recov := s.recov
     let me : Option (Nat × List Byte) := some (m.val, mac)
     modeNow s = mdRECOVERY ∧ (r.session = none ∨ r.session = me ∧ (r.seq = none ∨ ∃ n, r.seq = some n ∧ n < BitVec.toNat seq)) ∧ BitVec.toNat off +
     data.length ≤ 0xFF0000) ∧
    (let s : State := recovering {}
     s.boot.due = none ∧
     let m : Fin 3 := 0
     let mac : List Byte := [1, 2, 3, 4, 5, 6]
     let seq : Word := 0x20
     let off : Word := 0x12345678
     let data : List Byte := []
     mac.length = 6 ∧ data.length ≤ 1024 ∧
     let r : Recov := s.recov
     let me : Option (Nat × List Byte) := some (m.val, mac)
     modeNow s = mdRECOVERY ∧ (r.session = none ∨ r.session = me ∧ (r.seq = none ∨ ∃ n, r.seq = some n ∧ n < BitVec.toNat seq)) ∧ 0xFF0000 <
     BitVec.toNat off + data.length) ∧
    (let s : State := recovering { session := some (1, [1, 2, 3, 4, 5, 6]), seq := some 1, commit := 1, total := 0x1A4 }
     s.boot.due = none ∧
     let m : Fin 3 := 1
     let mac : List Byte := [1, 2, 3, 4, 5, 6]
     let seq : Word := 0x100
     let data : List Byte := List.replicate 256 7
     mac.length = 6 ∧ data.length ≤ 1024 ∧
     let r : Recov := s.recov
     let me : Option (Nat × List Byte) := some (m.val, mac)
     modeNow s = mdRECOVERY ∧ (r.session = none ∨ r.session = me ∧ (r.seq = none ∨ ∃ n, r.seq = some n ∧ n < BitVec.toNat seq)) ∧ r.commit = 1) ∧
    (let s : State := recovering {}
     s.boot.due = none ∧
     let m : Fin 3 := 0
     let mac : List Byte := [1, 2, 3, 4, 5, 6]
     let seq : Word := 0x20
     let data : List Byte := [0xFF, 0]
     mac.length = 6 ∧ data.length ≤ 1024 ∧
     let r : Recov := s.recov
     let me : Option (Nat × List Byte) := some (m.val, mac)
     modeNow s = mdRECOVERY ∧ (r.session = none ∨ r.session = me ∧ (r.seq = none ∨ ∃ n, r.seq = some n ∧ n < BitVec.toNat seq)) ∧ r.commit ≠ 1) ∧
    (let s : State := recovering {}
     s.boot.due = none ∧
     let m : Fin 3 := 0
     let mac : List Byte := [1, 2, 3, 4, 5, 6]
     let seq : Word := 0x20
     let data : List Byte := [0xFF, 0]
     mac.length = 6 ∧ data.length ≤ 1024 ∧
     let r : Recov := s.recov
     let me : Option (Nat × List Byte) := some (m.val, mac)
     modeNow s = mdRECOVERY ∧ (r.session = none ∨ r.session = me ∧ (r.seq = none ∨ ∃ n, r.seq = some n ∧ n < BitVec.toNat seq)) ∧ s.otp.owner = none) ∧
    (let s : State := { recovering {} with otp := { owner := some (List.replicate 32 1) } }
     s.boot.due = none ∧
     let m : Fin 3 := 0
     let mac : List Byte := [1, 2, 3, 4, 5, 6]
     let seq : Word := 0xFFFFFFFF
     let data : List Byte := List.replicate 128 7
     mac.length = 6 ∧ data.length ≤ 1024 ∧
     let r : Recov := s.recov
     let me : Option (Nat × List Byte) := some (m.val, mac)
     modeNow s = mdRECOVERY ∧ (r.session = none ∨ r.session = me ∧ (r.seq = none ∨ ∃ n, r.seq = some n ∧ n < BitVec.toNat seq)) ∧
     let nonce : Option (List Byte) := if r.session = none then none else r.nonce
     let h : List Byte := List.replicate 32 1
     s.otp.owner = some h ∧ nonce = none) ∧
    (let s : State :=
         { recovering { session := some (1, [1, 2, 3, 4, 5, 6]), seq := some 1, nonce := some (List.replicate 32 3) } with otp := { owner := some (List.replicate 32 1) } }
     s.boot.due = none ∧
     let m : Fin 3 := 1
     let mac : List Byte := [1, 2, 3, 4, 5, 6]
     let seq : Word := 0x100
     let data : List Byte := List.replicate 128 7
     mac.length = 6 ∧ data.length ≤ 1024 ∧
     let r : Recov := s.recov
     let me : Option (Nat × List Byte) := some (m.val, mac)
     modeNow s = mdRECOVERY ∧ (r.session = none ∨ r.session = me ∧ (r.seq = none ∨ ∃ n, r.seq = some n ∧ n < BitVec.toNat seq)) ∧
     let nonce : Option (List Byte) := if r.session = none then none else r.nonce
     let h : List Byte := List.replicate 32 1
     s.otp.owner = some h ∧
     let b : List Byte := List.replicate 32 3
     nonce = some b ∧ (¬(data.length = 128 ∧ sha256 (List.take 64 data) = h ∧ ecdsaVerify (List.take 64 data) (sha256 (b ++ [67, 84])) (List.drop 64
     data) = true))) ∧
    (let s : State := live 3
     s.boot.due = none ∧ s.recov.commit ≠ 1) ∧
    (let s : State := recovering { session := some (1, [1, 2, 3, 4, 5, 6]), seq := some 1, commit := 1, total := 0x1A4 }
     s.boot.due = none ∧
     let ok : Bool := true
     s.recov.commit = 1 ∧ ok = true) ∧
    (let s : State := live 3
     s.boot.due = none ∧ s.recov.session = none) ∧
    (let s : State := recovering { session := some (1, [1, 2, 3, 4, 5, 6]), seq := some 1 }
     s.boot.due = none ∧ s.recov.session.isSome = true) := by
  refine ⟨?_, ?_, ?_, ?_, ?_, ?_, ?_, ?_, ?_, ?_, ?_⟩ <;> decide +kernel

/-- A key, a nonce and a signature of "CT" after it under this key. With the number of the hash as both r and s, the point of the verification is the
sum of the generator and the key, and the key is chosen for that. -/
def clearKey : List Byte := beBytes 32 0x74d8a401945bae147885a0328029896df0f6aed290ec051fbbae214167586597 ++ beBytes 32 0x993610b4489647d98602b09c39df7ce93601e98d1f98e05fb43314ebf1db4915
def clearHash : List Byte := beBytes 32 0x840abf8cec090aeba8e293758fe587e7572d3ae7407b0027d9f7cd7ee15718ac
def clearNonce : List Byte := 0 :: List.replicate 31 0
def clearSession : State :=
  { recovering { session := some (1, [1, 2, 3, 4, 5, 6]), seq := some 1, nonce := some clearNonce } with otp := { owner := some (sha256 clearKey) } }
theorem witness_RecoveryServesOneSession_hash : sha256 (clearNonce ++ [0x43, 0x54]) = clearHash := by decide +kernel
theorem witness_RecoveryServesOneSession_verify : ecdsaVerify clearKey clearHash (clearHash ++ clearHash) = true := by decide +kernel
theorem witness_RecoveryServesOneSession_good : let data := clearKey ++ (clearHash ++ clearHash)
    clearSession.boot.due = none ∧ modeNow clearSession = mdRECOVERY ∧ clearSession.otp.owner = some (sha256 clearKey) ∧
    clearSession.recov.session = some (1, [1, 2, 3, 4, 5, 6]) ∧ clearSession.recov.nonce = some clearNonce ∧ data.length = 128 ∧
    sha256 (data.take 64) = sha256 clearKey ∧ ecdsaVerify (data.take 64) (sha256 (clearNonce ++ [0x43, 0x54])) (data.drop 64) = true := by
  have h1 : (clearKey ++ (clearHash ++ clearHash)).take 64 = clearKey := by decide +kernel
  have h2 : (clearKey ++ (clearHash ++ clearHash)).drop 64 = clearHash ++ clearHash := by decide +kernel
  refine ⟨rfl, by decide +kernel, rfl, rfl, rfl, by decide +kernel, by rw [h1], ?_⟩
  rw [h1, h2, witness_RecoveryServesOneSession_hash]
  exact witness_RecoveryServesOneSession_verify

end Sys2Proof.Tests
end

section
/-! SUPPORT. What every command and every step keeps, and the canonical form of the byte store (R11, R534). -/

namespace Sys2Proof.Machine

open Sys2Proof.Safety

/-- Every command runs to a next state that keeps the queue, the canonical byte store and the blown fuses. -/
theorem exec_kept (c : Instr) (s : State) : ∃ t, exec c s = .next t ∧ Kept s t :=
  match c with
  | .registerWrite q page off v => kept_execRegisterWrite q page off v s
  | .addressDecodeError q addr len data => kept_execAddressDecodeError q addr len data s
  | .registerAccessMisaligned q addr len write => kept_execRegisterAccessMisaligned q addr len write s
  | .wideRegisterRead q page off => kept_execWideRegisterRead q page off s
  | .wideRegisterCommit q page off v => kept_execWideRegisterCommit q page off v s
  | .enableWrite q fn => kept_execEnableWrite q fn s
  | .disableWrite q fn => kept_execDisableWrite q fn s
  | .startingComplete fn => kept_execStartingComplete fn s
  | .stoppingComplete fn => kept_execStoppingComplete fn s
  | .eventPendClear q k mask => kept_execEventPendClear q k mask s
  | .windowRecordRead q pid word => kept_execWindowRecordRead q pid word s
  | .windowStageLow q pid v => kept_execWindowStageLow q pid v s
  | .windowStageQuality q pid v => kept_execWindowStageQuality q pid v s
  | .windowCommit q pid v => kept_execWindowCommit q pid v s
  | .forceSet q => kept_execForceSet q s
  | .forceClear q => kept_execForceClear q s
  | .forceLookup q => kept_execForceLookup q s
  | .forceClearFlask q => kept_execForceClearFlask q s
  | .forceReadIndex q => kept_execForceReadIndex q s
  | .ptdAlloc q => kept_execPtdAlloc q s
  | .ptdFree q => kept_execPtdFree q s
  | .ptdLoad q => kept_execPtdLoad q s
  | .ptdUpdate q => kept_execPtdUpdate q s
  | .flkDenyClear q mask => kept_execFlkDenyClear q mask s
  | .tickBoundary => kept_execTickBoundary s
  | .gridPoint => kept_execGridPoint s
  | .eventIntervalExpiry t => kept_execEventIntervalExpiry t s
  | .errorTaskRelease t => kept_execErrorTaskRelease t s
  | .taskDispatch c => kept_execTaskDispatch c s
  | .runResume c => kept_execRunResume c s
  | .inputLatch t waitNs => kept_execInputLatch t waitNs s
  | .outputWriteBack t waitNs => kept_execOutputWriteBack t waitNs s
  | .retentionCopy t => kept_execRetentionCopy t s
  | .watchdogExpiry t => kept_execWatchdogExpiry t s
  | .retentionBatchDrain ok failAt => kept_execRetentionBatchDrain ok failAt s
  | .pfwAssert => kept_execPfwAssert s
  | .powerFailSaveComplete drainUs => kept_execPowerFailSaveComplete drainUs s
  | .pfwDeassertReset => kept_execPfwDeassertReset s
  | .taskEnable q t v => kept_execTaskEnable q t v s
  | .taskDisable q t v => kept_execTaskDisable q t v s
  | .taskCounterClear q v => kept_execTaskCounterClear q v s
  | .ldw t o => kept_execLdw t o s
  | .ldh t o => kept_execLdh t o s
  | .ldhu t o => kept_execLdhu t o s
  | .ldb t o => kept_execLdb t o s
  | .ldbu t o => kept_execLdbu t o s
  | .stw t o => kept_execStw t o s
  | .sth t o => kept_execSth t o s
  | .stb t o => kept_execStb t o s
  | .ldd t o => kept_execLdd t o s
  | .std t o => kept_execStd t o s
  | .movi t o => kept_execMovi t o s
  | .lui t o => kept_execLui t o s
  | .mfs t o => kept_execMfs t o s
  | .mts t o => kept_execMts t o s
  | .add t o => kept_execAdd t o s
  | .addi t o => kept_execAddi t o s
  | .sub t o => kept_execSub t o s
  | .mul t o => kept_execMul t o s
  | .mulh t o => kept_execMulh t o s
  | .div t o => kept_execDiv t o s
  | .rem t o => kept_execRem t o s
  | .and t o => kept_execAnd t o s
  | .andi t o => kept_execAndi t o s
  | .or t o => kept_execOr t o s
  | .ori t o => kept_execOri t o s
  | .xor t o => kept_execXor t o s
  | .xori t o => kept_execXori t o s
  | .shf t o => kept_execShf t o s
  | .adds t o => kept_execAdds t o s
  | .subs t o => kept_execSubs t o s
  | .min t o => kept_execMin t o s
  | .max t o => kept_execMax t o s
  | .minu t o => kept_execMinu t o s
  | .maxu t o => kept_execMaxu t o s
  | .abs t o => kept_execAbs t o s
  | .bfxExtract t o => kept_execBfxExtract t o s
  | .bfxInsert t o => kept_execBfxInsert t o s
  | .fadd t o => kept_execFadd t o s
  | .fsub t o => kept_execFsub t o s
  | .fmul t o => kept_execFmul t o s
  | .fdiv t o => kept_execFdiv t o s
  | .fma t o => kept_execFma t o s
  | .fsqrt t o => kept_execFsqrt t o s
  | .fabs t o => kept_execFabs t o s
  | .fneg t o => kept_execFneg t o s
  | .fmin t o => kept_execFmin t o s
  | .fmax t o => kept_execFmax t o s
  | .fcvtS32ToFloat t o => kept_execFcvtS32ToFloat t o s
  | .fcvtU32ToFloat t o => kept_execFcvtU32ToFloat t o s
  | .fcvtFloatToS32Trunc t o => kept_execFcvtFloatToS32Trunc t o s
  | .fcvtFloatToS32Nearest t o => kept_execFcvtFloatToS32Nearest t o s
  | .fcvtFloatToU32Trunc t o => kept_execFcvtFloatToU32Trunc t o s
  | .fcmp t o => kept_execFcmp t o s
  | .beq t o => kept_execBeq t o s
  | .bne t o => kept_execBne t o s
  | .blt t o => kept_execBlt t o s
  | .bge t o => kept_execBge t o s
  | .bltu t o => kept_execBltu t o s
  | .bgeu t o => kept_execBgeu t o s
  | .jmp t o => kept_execJmp t o s
  | .set t o => kept_execSet t o s
  | .call t o => kept_execCall t o s
  | .callr t o => kept_execCallr t o s
  | .ret t o => kept_execRet t o s
  | .sysRelLo t o => kept_execSysRelLo t o s
  | .sysRelHi t o => kept_execSysRelHi t o s
  | .sysTbLo t o => kept_execSysTbLo t o s
  | .sysTbHi t o => kept_execSysTbHi t o s
  | .sysSt t o => kept_execSysSt t o s
  | .sysStClr t o => kept_execSysStClr t o s
  | .sysTask t o => kept_execSysTask t o s
  | .sysMode t o => kept_execSysMode t o s
  | .sysRuns t o => kept_execSysRuns t o s
  | .sysDt t o => kept_execSysDt t o s
  | .tmr t o => kept_execTmr t o s
  | .ctr t o => kept_execCtr t o s
  | .edg t o => kept_execEdg t o s
  | .trst t o => kept_execTrst t o s
  | .prd t o => kept_execPrd t o s
  | .pwr t o => kept_execPwr t o s
  | .ptst t o => kept_execPtst t o s
  | .hltEnd t o => kept_execHltEnd t o s
  | .hltTrap t o => kept_execHltTrap t o s
  | .hltBrk t o => kept_execHltBrk t o s
  | .xchStage q => kept_execXchStage q s
  | .stageComplete codeAt dataAt => kept_execStageComplete codeAt dataAt s
  | .xchCommit q => kept_execXchCommit q s
  | .xchAbandon q => kept_execXchAbandon q s
  | .xchConfirm q => kept_execXchConfirm q s
  | .xchRollback q => kept_execXchRollback q s
  | .xchUnload q => kept_execXchUnload q s
  | .exchangeTick peer => kept_execExchangeTick peer s
  | .exchangeTimeout => kept_execExchangeTimeout s
  | .exchangeSwitch migNs => kept_execExchangeSwitch migNs s
  | .exchangeReport => kept_execExchangeReport s
  | .generationApplied f => kept_execGenerationApplied f s
  | .bankSwapRequest q n => kept_execBankSwapRequest q n s
  | .groupSwap q groups => kept_execGroupSwap q groups s
  | .meteringSample x => kept_execMeteringSample x s
  | .zcLost v => kept_execZcLost v s
  | .fixedWindowEnd => kept_execFixedWindowEnd s
  | .intervalBoundary => kept_execIntervalBoundary s
  | .calibrationWindowEnd targets => kept_execCalibrationWindowEnd targets s
  | .correctionStep => kept_execCorrectionStep s
  | .meteringRecordSave => kept_execMeteringRecordSave s
  | .circuitZero q c => kept_execCircuitZero q c s
  | .circuitClrMax q c => kept_execCircuitClrMax q c s
  | .canIntegrationComplete b => kept_execCanIntegrationComplete b s
  | .canFrameReceived b x => kept_execCanFrameReceived b x s
  | .canTxRequest q b bufs idle => kept_execCanTxRequest q b bufs idle s
  | .canArbitrationLost b => kept_execCanArbitrationLost b s
  | .canTxDone b sof tdcv => kept_execCanTxDone b sof tdcv s
  | .canTxCancel q b bufs ph => kept_execCanTxCancel q b bufs ph s
  | .canError b x => kept_execCanError b x s
  | .canRecover q b => kept_execCanRecover q b s
  | .canRecoveryComplete b => kept_execCanRecoveryComplete b s
  | .canProtocolException b => kept_execCanProtocolException b s
  | .canExceptionEnd b => kept_execCanExceptionEnd b s
  | .canListenSwitch b => kept_execCanListenSwitch b s
  | .phyLinkUp p full mse => kept_execPhyLinkUp p full mse s
  | .phyLinkDown p => kept_execPhyLinkDown p s
  | .quietCheckEnd p quiet => kept_execQuietCheckEnd p quiet s
  | .detectionResult p valid => kept_execDetectionResult p valid s
  | .detectionRetry p => kept_execDetectionRetry p s
  | .sccpAttemptEnd p cls => kept_execSccpAttemptEnd p cls s
  | .powerUpReached p => kept_execPowerUpReached p s
  | .powerUpTimeout p => kept_execPowerUpTimeout p s
  | .portOverload p => kept_execPortOverload p s
  | .portShort p => kept_execPortShort p s
  | .railUndervoltage g volt => kept_execRailUndervoltage g volt s
  | .portDisconnect p => kept_execPortDisconnect p s
  | .coolDownEnd p => kept_execCoolDownEnd p s
  | .dischargeComplete p => kept_execDischargeComplete p s
  | .dischargeLimit p => kept_execDischargeLimit p s
  | .downlinkFrameSend => kept_execDownlinkFrameSend s
  | .uplinkFrameReceived p x => kept_execUplinkFrameReceived p x s
  | .stationDrop p => kept_execStationDrop p s
  | .stationSubstituteCommit p => kept_execStationSubstituteCommit p s
  | .hostFrameReceived m x => kept_execHostFrameReceived m x s
  | .hostFrameTransmit m stamp underrun => kept_execHostFrameTransmit m stamp underrun s
  | .ptpFifoPop q m tx => kept_execPtpFifoPop q m tx s
  | .macCounterClear q m v => kept_execMacCounterClear q m v s
  | .mdioAccess q m v => kept_execMdioAccess q m v s
  | .mdioComplete m data => kept_execMdioComplete m data s
  | .nrapRequest m => kept_execNrapRequest m s
  | .nrapExecute => kept_execNrapExecute s
  | .nrapNotify b => kept_execNrapNotify b s
  | .heartbeatSend => kept_execHeartbeatSend s
  | .heartbeatReceived x at_ roleIn => kept_execHeartbeatReceived x at_ roleIn s
  | .slotCheck roleIn => kept_execSlotCheck roleIn s
  | .enterActiveRole => kept_execEnterActiveRole s
  | .roleKeeperExpiry => kept_execRoleKeeperExpiry s
  | .demotion => kept_execDemotion s
  | .linkPacketRetry received => kept_execLinkPacketRetry received s
  | .pointStreamReceived x => kept_execPointStreamReceived x s
  | .mirrorFrameCut => kept_execMirrorFrameCut s
  | .mirrorFrameReceived x => kept_execMirrorFrameReceived x s
  | .bulkStart => kept_execBulkStart s
  | .bulkComplete x => kept_execBulkComplete x s
  | .catchupComplete => kept_execCatchupComplete s
  | .forecastPublish => kept_execForecastPublish s
  | .forecastReceived bytes => kept_execForecastReceived bytes s
  | .selfTestSweepEnd x => kept_execSelfTestSweepEnd x s
  | .handover q => kept_execHandover q s
  | .handoverSwitch => kept_execHandoverSwitch s
  | .cancelHo q => kept_execCancelHo q s
  | .rearmRev q => kept_execRearmRev q s
  | .clrTko q => kept_execClrTko q s
  | .resync q => kept_execResync q s
  | .revertiveRequest => kept_execRevertiveRequest s
  | .fabricRequest bank gap reqs => kept_execFabricRequest bank gap reqs s
  | .fabricResponse gap id => kept_execFabricResponse gap id s
  | .debugSquall gap beats => kept_execDebugSquall gap beats s
  | .dramRefresh bank cuts => kept_execDramRefresh bank cuts s
  | .arbiterSeedWrite q bank v => kept_execArbiterSeedWrite q bank v s
  | .lockAcquire o n => kept_execLockAcquire o n s
  | .lockRelease o n v => kept_execLockRelease o n v s
  | .lockHoldExpiry n => kept_execLockHoldExpiry n s
  | .lockFree q v => kept_execLockFree q v s
  | .descriptorFetch c => kept_execDescriptorFetch c s
  | .ladleKick q c => kept_execLadleKick q c s
  | .ladleTransaction ch n => kept_execLadleTransaction ch n s
  | .ladleQueuePop ch => kept_execLadleQueuePop ch s
  | .descriptorWriteBack c => kept_execDescriptorWriteBack c s
  | .ladleBusError ch write wb => kept_execLadleBusError ch write wb s
  | .ladleResume q ch => kept_execLadleResume q ch s
  | .ladleAbort q ch => kept_execLadleAbort q ch s
  | .liteGo q k => kept_execLiteGo q k s
  | .liteTransferComplete k => kept_execLiteTransferComplete k s
  | .queuePush q n side v => kept_execQueuePush q n side v s
  | .queuePop q n => kept_execQueuePop q n s
  | .skipPkt q n => kept_execSkipPkt q n s
  | .flush q n => kept_execFlush q n s
  | .cruGenerate q => kept_execCruGenerate q s
  | .cruDerive q => kept_execCruDerive q s
  | .cruUnwrap q => kept_execCruUnwrap q s
  | .cruWrap q => kept_execCruWrap q s
  | .cruLoad q => kept_execCruLoad q s
  | .cruDestroy q => kept_execCruDestroy q s
  | .cruPurge q => kept_execCruPurge q s
  | .cruKill q => kept_execCruKill q s
  | .cruCommandComplete entropy => kept_execCruCommandComplete entropy s
  | .remask => kept_execRemask s
  | .cryGcmEnc q slot => kept_execCryGcmEnc q slot s
  | .cryGcmDec q slot => kept_execCryGcmDec q slot s
  | .cryCtrEnc q slot => kept_execCryCtrEnc q slot s
  | .cryCtrDec q slot => kept_execCryCtrDec q slot s
  | .cryCmacGen q slot => kept_execCryCmacGen q slot s
  | .cryCmacVer q slot => kept_execCryCmacVer q slot s
  | .cryHmacGen q slot => kept_execCryHmacGen q slot s
  | .cryHmacVer q slot => kept_execCryHmacVer q slot s
  | .cryEcdsaSign q slot => kept_execCryEcdsaSign q slot s
  | .cryEcdsaPub q slot => kept_execCryEcdsaPub q slot s
  | .cryEcdsaVer q slot => kept_execCryEcdsaVer q slot s
  | .crySha256 q slot => kept_execCrySha256 q slot s
  | .cryJobComplete => kept_execCryJobComplete s
  | .tamperEvent src => kept_execTamperEvent src s
  | .tamperLatchClear q => kept_execTamperLatchClear q s
  | .debugChallenge q => kept_execDebugChallenge q s
  | .debugOpen q => kept_execDebugOpen q s
  | .debugClose q => kept_execDebugClose q s
  | .debugReset q => kept_execDebugReset q s
  | .debugLockfuse q key => kept_execDebugLockfuse q key s
  | .debugHold q v => kept_execDebugHold q v s
  | .debugGo q v => kept_execDebugGo q v s
  | .tbStep q v => kept_execTbStep q v s
  | .tbSlew q v => kept_execTbSlew q v s
  | .linkDelayMeasure rtt => kept_execLinkDelayMeasure rtt s
  | .ptpMessage x => kept_execPtpMessage x s
  | .ptpAnnounceTimeout => kept_execPtpAnnounceTimeout s
  | .ptpSyncTimeout => kept_execPtpSyncTimeout s
  | .rtcSecondRollover => kept_execRtcSecondRollover s
  | .trimWindow => kept_execTrimWindow s
  | .rtcHold q v => kept_execRtcHold q v s
  | .rtcRelease q v => kept_execRtcRelease q v s
  | .rtcTimeRead q => kept_execRtcTimeRead q s
  | .alarmArm q => kept_execAlarmArm q s
  | .backupSupplySwitch vbkp => kept_execBackupSupplySwitch vbkp s
  | .backupDomainReset => kept_execBackupDomainReset s
  | .modeRequest q v => kept_execModeRequest q v s
  | .modeChange => kept_execModeChange s
  | .domainStateChange d => kept_execDomainStateChange d s
  | .domainPrewake d => kept_execDomainPrewake d s
  | .domainExitComplete d => kept_execDomainExitComplete d s
  | .latencyWrite q page v => kept_execLatencyWrite q page v s
  | .powerOnReset x => kept_execPowerOnReset x s
  | .resetPin => kept_execResetPin s
  | .sysReset q key => kept_execSysReset q key s
  | .sysRecover q key => kept_execSysRecover q key s
  | .mgmtWatchdogReset => kept_execMgmtWatchdogReset s
  | .lockstepReset => kept_execLockstepReset s
  | .thermalReset => kept_execThermalReset s
  | .supplyGood rail ms => kept_execSupplyGood rail ms s
  | .bootStorePattern q => kept_execBootStorePattern q s
  | .bootStoreBlob q => kept_execBootStoreBlob q s
  | .bootStoreComplete => kept_execBootStoreComplete s
  | .mr4Poll mult => kept_execMr4Poll mult s
  | .pllLockLoss n => kept_execPllLockLoss n s
  | .pllRelock n => kept_execPllRelock n s
  | .xspiErase q => kept_execXspiErase q s
  | .xspiProgram q => kept_execXspiProgram q s
  | .xspiVerify q => kept_execXspiVerify q s
  | .xspiCommandComplete ok => kept_execXspiCommandComplete ok s
  | .updCheck q => kept_execUpdCheck q s
  | .checkComplete => kept_execCheckComplete s
  | .updWrite q => kept_execUpdWrite q s
  | .writeComplete ok => kept_execWriteComplete ok s
  | .updActivate q => kept_execUpdActivate q s
  | .updAbandon q => kept_execUpdAbandon q s
  | .updSvnCommit q => kept_execUpdSvnCommit q s
  | .updOwnerPk q => kept_execUpdOwnerPk q s
  | .activationHold => kept_execActivationHold s
  | .activationPauseStart => kept_execActivationPauseStart s
  | .activationPauseEnd ok counts => kept_execActivationPauseEnd ok counts s
  | .recoveryInfo m mac seq => kept_execRecoveryInfo m mac seq s
  | .recoveryChallenge m mac seq => kept_execRecoveryChallenge m mac seq s
  | .recoveryLoad m mac seq off data => kept_execRecoveryLoad m mac seq off data s
  | .recoveryCommit m mac seq total => kept_execRecoveryCommit m mac seq total s
  | .recoveryWriteComplete ok => kept_execRecoveryWriteComplete ok s
  | .recoveryClearTamper m mac seq data => kept_execRecoveryClearTamper m mac seq data s
  | .recoveryReset m mac seq => kept_execRecoveryReset m mac seq s
  | .recoverySessionTimeout => kept_execRecoverySessionTimeout s
  | .supplyFail vbkp => kept_execSupplyFail vbkp s
  | .claisLinkUp lanes => kept_execClaisLinkUp lanes s
  | .claisLinkDown => kept_execClaisLinkDown s
  | .hostLinkUp m speed => kept_execHostLinkUp m speed s
  | .hostLinkDown m => kept_execHostLinkDown m s

/-- An idle step keeps them as well: it runs the boot ROM, counts the timebase once, or leaves the state. -/
theorem idle_kept (s : State) : Kept s (idle s) := by
  unfold idle
  split
  · split
    · exact Kept.refl s
    · exact kept_bootRom (Kept.refl s)
  · split
    · exact Kept.refl s
    · split
      · exact kept_mk (Kept.refl s)
      · exact Kept.refl s

/-- A step keeps the canonical byte store and the blown fuses; of the queue it takes the front command. -/
theorem step_keeps {s t : State} (h : step s = .next t) :
    t.pending = s.pending.tail ∧ (Memory.wf s.mem = true → Memory.wf t.mem = true) ∧ FusesKept s.otp t.otp := by
  unfold step at h
  split at h
  next hq =>
    cases h
    exact ⟨by rw [(idle_kept s).pending, hq]; rfl, (idle_kept s).wf, (idle_kept s).fuses⟩
  next c rest hq =>
    obtain ⟨u, hu, hk⟩ := exec_kept c { s with pending := rest }
    cases hu.symm.trans h
    exact ⟨by rw [hk.pending, hq]; rfl, hk.wf, hk.fuses⟩

/-- Settles O4: no command and no idle step breaks the canonical form. -/
theorem byteStoreStaysCanonical : Obligations.ByteStoreStaysCanonical := by
  unfold Obligations.ByteStoreStaysCanonical
  intro s t hwf h
  obtain ⟨-, keepsWf, -⟩ := step_keeps h
  exact keepsWf hwf

end Sys2Proof.Machine
end

section
/-! SUPPORT. How the frames of Safety compose. -/

namespace Sys2Proof.Safety

open Sys2Proof.Machine

/-! ## Frames of updates: what RegsAndEvents and OnlyRegs allow, and how they compose -/

theorem SameRegs.trans {ks : List Nat} {s t u : State} (a : SameRegs ks s t) (b : SameRegs ks t u) : SameRegs ks s u :=
  fun k hk => (b k hk).trans (a k hk)

theorem RegsAndEvents.refl (ks : List Nat) (s : State) : RegsAndEvents ks s s := ⟨rfl, fun _ _ _ => rfl⟩

theorem RegsAndEvents.trans {ks : List Nat} {s t u : State} (a : RegsAndEvents ks s t) (b : RegsAndEvents ks t u) : RegsAndEvents ks s u where
  rest := by conv_lhs => rw [b.rest, a.rest]
  regs k hk he := (b.regs k hk he).trans (a.regs k hk he)

theorem OnlyRegs.refl (ks : List Nat) (s : State) : OnlyRegs ks s s := ⟨rfl, fun _ _ => rfl, fun _ h => h⟩

theorem OnlyRegs.trans {ks : List Nat} {s t u : State} (a : OnlyRegs ks s t) (b : OnlyRegs ks t u) : OnlyRegs ks s u where
  rest := by conv_lhs => rw [b.rest, a.rest]
  regs := SameRegs.trans a.regs b.regs
  exits d h := a.exits d (b.exits d h)

/-- A register access without events is one that may raise none. -/
theorem OnlyRegs.regsAndEvents {ks : List Nat} {s t : State} (a : OnlyRegs ks s t) : RegsAndEvents ks s t where
  rest := by
    have target : t.evtTarget = s.evtTarget := by rw [a.rest]
    rw [target]
    exact a.rest
  regs k hk _ := a.regs k hk

end Sys2Proof.Safety
end

section
/-! SUPPORT. What updates of registers leave alone, and what registers read after an event (R36, R37). -/

namespace Sys2Proof.Machine

open Sys2Proof.Safety

/-! ## The frame of each update -/

theorem onlyRegs_wr {ks : List Nat} (s : State) {k : Nat} (v : Word) (h : k ∈ ks) : OnlyRegs ks s (wr s k v) where
  rest := rfl
  regs _ hk := rd_wr_ne s v (fun e => hk (e ▸ h))
  exits _ h := h

/-- A fold of updates that each keep a frame keeps it. -/
theorem onlyRegs_forAll {α : Type} {ks : List Nat} {f : State → α → State} {l : List α} (hf : ∀ a ∈ l, ∀ s, OnlyRegs ks s (f s a)) (s : State) :
    OnlyRegs ks s (forAll f l s) := by
  induction l generalizing s with
  | nil => exact OnlyRegs.refl ks s
  | cons a l ih => exact (hf a List.mem_cons_self s).trans (ih (fun b hb => hf b (List.mem_cons_of_mem a hb)) (f s a))

theorem regsAndEvents_forAll {α : Type} {ks : List Nat} {f : State → α → State} (hf : ∀ s a, RegsAndEvents ks s (f s a)) (l : List α)
    (s : State) : RegsAndEvents ks s (forAll f l s) := by
  induction l generalizing s with
  | nil => exact RegsAndEvents.refl ks s
  | cons a l ih => exact (hf s a).trans (ih (f s a))

/-- Writing back what a register holds is no change. -/
theorem rd_wr_self (s : State) (k k' : Nat) : rd (wr s k (rd s k)) k' = rd s k' := by
  rw [rd_wr]
  split
  next h => rw [h]
  next => rfl

theorem onlyRegs_wr_self (ks : List Nat) (s : State) (k : Nat) : OnlyRegs ks s (wr s k (rd s k)) where
  rest := rfl
  regs k' _ := rd_wr_self s k k'
  exits _ h := h

theorem onlyRegs_setFld {ks : List Nat} (s : State) {k : Nat} (f : Fld) (v : Nat) (h : k ∈ ks) : OnlyRegs ks s (setFld s k f v) :=
  onlyRegs_wr s _ h

theorem onlyRegs_answer (ks : List Nat) (s : State) (c : Code) : OnlyRegs ks s (answer s c) := ⟨rfl, fun _ _ => rfl, fun _ h => h⟩

theorem regsAndEvents_demand (ks : List Nat) (s : State) (d : Nat) : RegsAndEvents ks s (demand s d) := by
  unfold demand
  split
  · exact RegsAndEvents.refl ks s
  · exact ⟨rfl, fun _ _ _ => rfl⟩

theorem regsAndEvents_evtSet (ks : List Nat) (s : State) (src : Nat) : RegsAndEvents ks s (evtSet s src) := by
  have pend : RegsAndEvents ks s (setBit s (R.EVT_PEND (src / 32)) (src % 32) true) :=
    ⟨rfl, fun k _ he => rd_setBit_ne s _ _ (he _)⟩
  have target : ∀ (u : State) (m : Table Nat), RegsAndEvents ks u { u with evtTarget := m } := fun _ _ => ⟨rfl, fun _ _ _ => rfl⟩
  unfold evtSet
  split
  · dsimp only
    split
    · exact RegsAndEvents.refl ks s
    · split
      · exact (pend.trans (target _ _)).trans (regsAndEvents_demand ks _ _)
      · exact pend.trans (target _ _)
  · exact RegsAndEvents.refl ks s

theorem regsAndEvents_evtLevel (ks : List Nat) (s : State) (src : Nat) : RegsAndEvents ks s (evtLevel s src) := by
  unfold evtLevel
  split
  · exact regsAndEvents_evtSet ks s src
  · exact RegsAndEvents.refl ks s

theorem regsAndEvents_raiseBit {ks : List Nat} (s : State) {page : Nat} (n : Nat) (h : R.PG_ISR page ∈ ks) :
    RegsAndEvents ks s (raiseBit s page n) :=
  (onlyRegs_wr s _ h).regsAndEvents.trans (regsAndEvents_evtLevel ks _ page)

/-- What the active of a pair forwards stands in its next mirror frame alone (R343). -/
theorem forwardConfig_cases (s : State) (page off : Nat) (v : Word) :
    forwardConfig s page off v = s ∨ ∃ c, forwardConfig s page off v = { s with twin := { s.twin with config := c } } := by
  unfold forwardConfig
  split
  · exact .inr ⟨_, rfl⟩
  · exact .inl rfl

theorem forwardConfig_other {s : State} {page : Nat} (h : forwardedPage page = false) (off : Nat) (v : Word) : forwardConfig s page off v = s := by
  simp [forwardConfig, h]

theorem onlyRegs_forwardConfig (ks : List Nat) (s : State) (page off : Nat) (v : Word) : OnlyRegs ks s (forwardConfig s page off v) := by
  obtain h | ⟨c, h⟩ := forwardConfig_cases s page off v
  · rw [h]
    exact OnlyRegs.refl ks s
  · rw [h]
    exact ⟨rfl, fun _ _ => rfl, fun _ h => h⟩

@[simp] theorem rd_forwardConfig (s : State) (page off : Nat) (v : Word) (k : Nat) : rd (forwardConfig s page off v) k = rd s k :=
  (onlyRegs_forwardConfig [] s page off v).regs k (List.not_mem_nil)

theorem rd_answer (s : State) (c : Code) (k : Nat) : rd (answer s c) k = rd s k := rfl

/-! ## Registers and the event matrix -/

@[simp] theorem rd_demand (s : State) (d k : Nat) : rd (demand s d) k = rd s k := by simp [rd]

/-- An event touches no register but the pending word of its source. -/
theorem rd_evtSet_ne (s : State) {src k : Nat} (h : k ≠ R.EVT_PEND (src / 32)) : rd (evtSet s src) k = rd s k := by
  have set : rd (setBit s (R.EVT_PEND (src / 32)) (src % 32) true) k = rd s k := rd_setBit_ne s _ _ h
  unfold evtSet
  split
  · dsimp only
    split
    · rfl
    · split
      · rw [rd_demand]; exact set
      · exact set
  · rfl

/-- An enabled source sets its bit of its pending word, and no other bit. -/
theorem rd_evtSet_pend (s : State) (src i : Nat) : (rd (evtSet s src) (R.EVT_PEND (src / 32))).getLsbD i =
    ((rd s (R.EVT_PEND (src / 32))).getLsbD i || (i == src % 32 && flag s (R.EVT_ROUTE src) F.EVT_ROUTE_EN)) := by
  have lt : src % 32 < 32 := Nat.mod_lt _ (by decide)
  have set : (rd (setBit s (R.EVT_PEND (src / 32)) (src % 32) true) (R.EVT_PEND (src / 32))).getLsbD i =
      ((rd s (R.EVT_PEND (src / 32))).getLsbD i || i == src % 32) := by
    rw [setBit, rd_wr, if_pos rfl, withBits_getLsbD _ _ _ (Nat.le_refl _) lt]
    split
    next h =>
      have e : i = src % 32 := by omega
      subst e
      simp [b2n]
    next h =>
      have e : i ≠ src % 32 := by omega
      simp [e]
  unfold evtSet
  split
  next en =>
    dsimp only
    rw [en, Bool.and_true]
    split
    next was =>
      by_cases e : i = src % 32
      · subst e
        simpa [bit, BitVec.getLsbD] using was
      · simp [e]
    next =>
      split
      · rw [rd_demand]; exact set
      · exact set
  next en => simp [en]

theorem rd_evtLevel_ne (s : State) {src k : Nat} (h : k ≠ R.EVT_PEND (src / 32)) : rd (evtLevel s src) k = rd s k := by
  unfold evtLevel
  split
  · exact rd_evtSet_ne s h
  · rfl

theorem rd_evtLevel_pend (s : State) (src i : Nat) : (rd (evtLevel s src) (R.EVT_PEND (src / 32))).getLsbD i =
    ((rd s (R.EVT_PEND (src / 32))).getLsbD i || (i == src % 32 && (sourceLevel s src && flag s (R.EVT_ROUTE src) F.EVT_ROUTE_EN))) := by
  unfold evtLevel
  split
  next h => rw [rd_evtSet_pend, h, Bool.true_and]
  next h => simp [h]

/-- An offset below the pending words is none of them. -/
theorem regKey_ne_EVT_PEND (page : Nat) {off i : Nat} (ho : off < 0x600) (hi : i < 0x280) : regKey page off 0 ≠ R.EVT_PEND i := by
  unfold regKey R.EVT_PEND regKey
  omega

theorem rd_raiseBit_ne (s : State) {page n k : Nat} (hi : k ≠ R.PG_ISR page) (he : k ≠ R.EVT_PEND (page / 32)) :
    rd (raiseBit s page n) k = rd s k :=
  (rd_evtLevel_ne _ he).trans (rd_wr_ne s _ hi)

theorem rd_raiseBit_isr (s : State) {page : Nat} (n : Nat) (hp : page < 0x100) :
    rd (raiseBit s page n) (R.PG_ISR page) = rd s (R.PG_ISR page) ||| BitVec.ofNat 32 (2 ^ n) :=
  (rd_evtLevel_ne _ (regKey_ne_EVT_PEND page (by decide) (by omega))).trans (by rw [rd_wr]; exact if_pos rfl)

/-- An interrupt cause that is raised stands in PG_ISR. -/
theorem raiseBit_isr_bit (s : State) {page n : Nat} (hp : page < 0x100) (hn : n < 32) :
    (rd (raiseBit s page n) (R.PG_ISR page)).getLsbD n = true := by
  rw [rd_raiseBit_isr s n hp, BitVec.getLsbD_or, BitVec.getLsbD_ofNat, Nat.testBit_two_pow_self]
  simp [hn]

/-- A one-bit field is its bit. -/
theorem bits_bit (w : Word) (n : Nat) : (bits w n n != 0) = w.getLsbD n := by
  have e : bits w n n = w.toNat >>> n % 2 := by rw [bits, natBits, Nat.add_sub_cancel_left, Nat.pow_one]
  rw [e, BitVec.getLsbD, Nat.testBit]
  simp

/-- A field as wide as the register is the register. -/
theorem withBits_all (w x : Word) : withBits w 31 0 (bits x 31 0) = x := by
  apply BitVec.eq_of_getLsbD_eq
  intro i hi
  rw [withBits_getLsbD _ _ _ (by decide) (by decide), if_pos ⟨Nat.zero_le i, by omega⟩, bits, natBits_testBit]
  simp [BitVec.getLsbD, hi]

end Sys2Proof.Machine
end

section
/-! SUPPORT. Rejections and denials (R24, R28, R65). -/

namespace Sys2Proof.Machine

open Sys2Proof.Safety

/-! ## Rejections (R28) -/

theorem rd_pgError_first (s : State) {page off : Nat} (c : Code) (hp : page < 0x100) (ho : off < 0x1000)
    (h : (rd s (R.PG_ERR page)).getLsbD 31 = false) :
    rd (pgError s page off c) (R.PG_ERR page) = BitVec.ofNat 32 (0x80000000 + off * 256 + codeNum c) ∧
    (rd (pgError s page off c) (R.PG_ISR page)).getLsbD 31 = true := by
  have h' : bit (rd s (R.PG_ERR page)) 31 = false := h
  have isr : R.PG_ERR page ≠ R.PG_ISR page := by simp [R.PG_ERR, R.PG_ISR, regKey]
  have pend : R.PG_ERR page ≠ R.EVT_PEND (page / 32) := regKey_ne_EVT_PEND page (by decide) (by omega)
  simp only [pgError, h', Bool.false_eq_true, if_false, Nat.mod_eq_of_lt ho]
  exact ⟨by rw [rd_raiseBit_ne _ isr pend, rd_wr, if_pos rfl], raiseBit_isr_bit _ hp (by decide)⟩

theorem regsAndEvents_pgError (s : State) {page off : Nat} (c : Code) :
    RegsAndEvents [R.PG_ERR page, R.PG_ISR page] s (pgError s page off c) := by
  unfold pgError
  dsimp only
  split
  · exact (onlyRegs_wr s _ (by simp)).regsAndEvents
  · exact (onlyRegs_wr s _ (by simp)).regsAndEvents.trans (regsAndEvents_raiseBit _ _ (by simp))

/-- A rejection after the first one sets OVF alone. -/
theorem pgError_later (s : State) {page off : Nat} (c : Code) (h : (rd s (R.PG_ERR page)).getLsbD 31 = true) :
    pgError s page off c = wr s (R.PG_ERR page) (withBits (rd s (R.PG_ERR page)) 30 30 1) := by
  have h' : bit (rd s (R.PG_ERR page)) 31 = true := h
  simp only [pgError, h', if_true]

/-! ## Denials (R24, R65) -/

/-- The requester flask is one of the 32. -/
theorem flaskOf_lt (s : State) (q : Requester) : flaskOf s q < 32 := by
  unfold flaskOf
  split
  · decide
  · decide
  · split
    · exact fld_lt _ _ _
    · decide
  · exact bits_lt _ _ _
  · decide

theorem regsAndEvents_deny (s : State) (f path target : Nat) :
    RegsAndEvents [R.FLK_DENY f, R.FLK_DENY_LAST, R.PG_ISR 0x31] s (deny s f path target) := by
  unfold deny
  dsimp only
  refine RegsAndEvents.trans ?_ (regsAndEvents_raiseBit _ _ (by simp))
  have counted : OnlyRegs [R.FLK_DENY f, R.FLK_DENY_LAST, R.PG_ISR 0x31] s (bumpSat s (R.FLK_DENY f) 1) := onlyRegs_wr s _ (by simp)
  split
  · exact counted.regsAndEvents
  · exact (counted.trans (onlyRegs_wr _ _ (by simp))).regsAndEvents

theorem rd_deny_ne (s : State) {f k : Nat} (path target : Nat) (count : k ≠ R.FLK_DENY f) (last : k ≠ R.FLK_DENY_LAST)
    (isr : k ≠ R.PG_ISR 0x31) (pend : k ≠ R.EVT_PEND 1) : rd (deny s f path target) k = rd s k := by
  unfold deny
  dsimp only
  rw [rd_raiseBit_ne _ isr pend]
  split
  · exact rd_wr_ne s _ count
  · rw [rd_wr_ne _ _ last]
    exact rd_wr_ne s _ count

/-- A denial counts for its flask. -/
theorem rd_deny_count (s : State) {f : Nat} (path target : Nat) (hf : f < 32) :
    rd (deny s f path target) (R.FLK_DENY f) = BitVec.ofNat 32 (satAdd 32 (rd s (R.FLK_DENY f)).toNat 1) := by
  have last : R.FLK_DENY f ≠ R.FLK_DENY_LAST := by simp only [R.FLK_DENY, R.FLK_DENY_LAST, regKey]; omega
  have isr : R.FLK_DENY f ≠ R.PG_ISR 0x31 := by simp only [R.FLK_DENY, R.PG_ISR, regKey]; omega
  have pend : R.FLK_DENY f ≠ R.EVT_PEND (0x31 / 32) := regKey_ne_EVT_PEND 0x31 (by omega) (by decide)
  unfold deny
  dsimp only
  rw [rd_raiseBit_ne _ isr pend]
  split
  · rw [bumpSat, rd_wr, if_pos rfl]
  · rw [rd_wr_ne _ _ last, bumpSat, rd_wr, if_pos rfl]

/-- The record of the last denial keeps the first one since it was cleared. -/
theorem rd_deny_last (s : State) {f : Nat} (path target : Nat) (hf : f < 32) :
    rd (deny s f path target) R.FLK_DENY_LAST = if (rd s R.FLK_DENY_LAST).getLsbD 31 then rd s R.FLK_DENY_LAST
      else BitVec.ofNat 32 (0x80000000 + f * 2 ^ 24 + path * 2 ^ 20 + target % 2 ^ 13) := by
  have count : R.FLK_DENY_LAST ≠ R.FLK_DENY f := by simp only [R.FLK_DENY, R.FLK_DENY_LAST, regKey]; omega
  have isr : R.FLK_DENY_LAST ≠ R.PG_ISR 0x31 := by decide
  have pend : R.FLK_DENY_LAST ≠ R.EVT_PEND (0x31 / 32) := by decide
  have valid : flag (bumpSat s (R.FLK_DENY f) 1) R.FLK_DENY_LAST F.FLK_DENY_LAST_VALID = (rd s R.FLK_DENY_LAST).getLsbD 31 := by
    rw [flag, fld, bumpSat, rd_wr_ne _ _ count]
    exact bits_bit _ _
  unfold deny
  dsimp only
  rw [rd_raiseBit_ne _ isr pend, valid]
  split
  · rw [bumpSat, rd_wr_ne _ _ count]
  · rw [rd_wr, if_pos rfl]

theorem settleReset_of_none {s : State} (h : s.boot.due = none) : settleReset s = s := by simp only [settleReset, h]

/-- An access that R24 denies is counted on path 9h and answered ACCESS_FLASK. -/
theorem gated_denied {s : State} {q : Requester} {page off : Nat} {k : State → State} (hm : modeNow s ≠ 0)
    (hd : debugBarred s q page off = false) (hp : pageAllowed s (flaskOf s q) page off = false) :
    gated s q page off k = { deny s (flaskOf s q) 9 page with answer := { code := .accessFlask, denied := true, words := [0] } } := by
  have hm' : fld s R.SYS_MODE F.SYS_MODE_MODE ≠ 0 := hm
  unfold gated
  simp only [hm', hd, hp, if_false, Bool.false_eq_true]

theorem exec_registerWrite (s : State) (q : Requester) (page : BitVec 8) (off : BitVec 12) (v : Word) :
    exec (.registerWrite q page off v) s = .next (registerWrite s q page.toNat off.toNat v) := rfl

theorem registerWrite_aligned {s : State} {q : Requester} {page off : Nat} {v : Word} (h4 : off % 4 = 0) :
    registerWrite s q page off v = settleReset (writeCommand s q page off v) := if_neg (not_not_intro h4)

theorem exec_registerWrite_denied {s : State} {q : Requester} {page : BitVec 8} {off : BitVec 12} (v : Word) (hs : s.boot.due = none)
    (hm : modeNow s ≠ 0) (hd : debugBarred s q page.toNat off.toNat = false)
    (hp : pageAllowed s (flaskOf s q) page.toNat off.toNat = false) (ha : off.toNat % 4 = 0) :
    exec (.registerWrite q page off v) s =
      .next { deny s (flaskOf s q) 9 page.toNat with answer := { code := .accessFlask, denied := true, words := [0] } } := by
  rw [exec_registerWrite, registerWrite_aligned ha, writeCommand, gated_denied hm hd hp, settleReset_of_none]
  rw [deny_boot]
  exact hs

/-- Settles O23: the first rejection is recorded, a later one sets OVF alone, and a denial touches no PG_ERR. -/
theorem rejectionKeepsTheFirstError : Obligations.RejectionKeepsTheFirstError := by
  unfold Obligations.RejectionKeepsTheFirstError
  intro s page off c
  dsimp only
  refine ⟨fun first => ?_, fun later => ?_, fun q v hs hm hd hp ha => ?_⟩
  · obtain ⟨err, isr⟩ := rd_pgError_first s c page.isLt off.isLt first
    exact ⟨err, isr, regsAndEvents_pgError s c⟩
  · rw [pgError_later s c later, rd_wr, if_pos rfl]
    refine ⟨?_, fun i hi => ?_, onlyRegs_wr s _ (by simp)⟩
    · rw [withBits_getLsbD _ _ _ (by decide) (by decide)]
      rfl
    · have off30 : ¬ (30 ≤ i ∧ i ≤ 30) := by omega
      rw [withBits_getLsbD _ _ _ (by decide) (by decide), if_neg off30]
  · refine ⟨_, exec_registerWrite_denied v hs hm hd hp ha, fun p => ?_⟩
    have hf := flaskOf_lt s q
    exact rd_deny_ne s 9 page.toNat (by simp only [R.PG_ERR, R.FLK_DENY, regKey]; omega)
      (by simp only [R.PG_ERR, R.FLK_DENY_LAST, regKey]; omega) (by simp only [R.PG_ERR, R.PG_ISR, regKey]; omega)
      (regKey_ne_EVT_PEND _ (by decide) (by decide))

/-- Settles O24: the denied write is counted, recorded and answered, and nothing else changes. -/
theorem deniedAccessIsCounted : Obligations.DeniedAccessIsCounted := by
  unfold Obligations.DeniedAccessIsCounted
  intro s q page off v hs hm hd hp ha
  have hf := flaskOf_lt s q
  have short : page.toNat % 2 ^ 13 = page.toNat := Nat.mod_eq_of_lt (by omega)
  refine ⟨_, exec_registerWrite_denied v hs hm hd hp ha, rfl, rfl, ?_, ?_, ?_, ?_⟩
  · have count := congrArg BitVec.toNat (rd_deny_count s 9 page.toNat hf)
    have lt := (rd s (R.FLK_DENY (flaskOf s q))).isLt
    refine count.trans ?_
    rw [BitVec.toNat_ofNat, satAdd]
    split <;> omega
  · exact raiseBit_isr_bit _ (by decide) (by decide)
  · exact (rd_deny_last s 9 page.toNat hf).trans (by rw [short]; rfl)
  · exact (regsAndEvents_deny s (flaskOf s q) 9 page.toNat).trans ⟨rfl, fun _ _ _ => rfl⟩

end Sys2Proof.Machine
end

section
/-! SUPPORT. Accesses that end with a bus error (R12, R13), and the state after reset. -/

namespace Sys2Proof.Machine

open Sys2Proof.Safety

/-! ## The address space (R12, R13) -/

theorem exec_addressDecodeError (s : State) (q : Requester) (addr : Word) (len : Nat) (data : Option (List Byte)) :
    exec (.addressDecodeError q addr len data) s = .next (addressAccess s q addr.toNat len data) := rfl

theorem exec_registerAccessMisaligned (s : State) (q : Requester) (addr : Word) (len : Nat) (w : Bool) :
    exec (.registerAccessMisaligned q addr len w) s = .next (served s q (fun s => misalignedAccess s q addr.toNat len)) := rfl

/-- A read that a decode error ends returns zeros. -/
theorem addressAccess_read_error {s : State} {q : Requester} {a len : Nat} (hq : ReachesWindow s q) (h : decodeError s a len false = true) :
    addressAccess s q a len none = { s with answer := { busError := true, bytes := List.replicate len 0 } } := by
  rw [addressAccess, served_reaches hq]
  simp only [Option.isSome_none, h, if_true, Bool.false_eq_true, if_false]

/-- A write that a decode error ends stores nothing. -/
theorem addressAccess_write_error {s : State} {q : Requester} {a len : Nat} {b : List Byte} (hq : ReachesWindow s q)
    (h : decodeError s a b.length true = true) : addressAccess s q a len (some b) = { s with answer := { busError := true } } := by
  rw [addressAccess, served_reaches hq]
  simp only [Option.isSome_some, h, if_true]

/-- An access that is not an aligned word ends with a bus error on the register pages, and in the window when it is no burst of a record. -/
theorem misalignedAccess_error {s : State} {q : Requester} {a len : Nat} (form : a % 4 ≠ 0 ∨ len ≠ 4)
    (range : pageIn a 0x40000000 0x400FFFFF = true ∨ pageIn a 0x50000000 0x5003FFFF = true ∧ recordBurst q a len = false) :
    misalignedAccess s q a len = { s with answer := { busError := true } } := by
  have hf : (a % 4 != 0 || len != 4) = true := by simpa using form
  have hr : (pageIn a 0x40000000 0x400FFFFF || (pageIn a 0x50000000 0x5003FFFF && !recordBurst q a len)) = true := by simpa using range
  unfold misalignedAccess
  rw [hf, hr]
  rfl

theorem pageIn_of_le {a lo hi : Nat} (h1 : lo ≤ a) (h2 : a ≤ hi) : pageIn a lo hi = true := by simp [pageIn, h1, h2]

/-- Only a channel of Ladle makes bursts of a record. -/
theorem recordBurst_false {q : Requester} {a len : Nat} (h : ∀ c, q = .ladle c → a % 32 ≠ 0 ∨ len ≠ 32) : recordBurst q a len = false := by
  cases q with
  | ladle c =>
    have other := h c rfl
    simp only [recordBurst, Bool.and_eq_false_iff, beq_eq_false_iff_ne]
    exact other
  | mgmt _ => rfl
  | sequencer _ => rfl
  | nrap _ => rfl
  | debug => rfl

/-- Settles O25: an access that ends with a bus error is answered so, and the state is else as it was. -/
theorem addressErrorsMoveNothing : Obligations.AddressErrorsMoveNothing := by
  unfold Obligations.AddressErrorsMoveNothing
  intro s q addr len hq
  refine ⟨fun h => ?_, fun data h => ?_, fun w lo hi form => ?_, fun w lo hi form burst => ?_⟩
  · rw [exec_addressDecodeError, addressAccess_read_error hq h]
  · rw [exec_addressDecodeError, addressAccess_write_error hq h]
  · rw [exec_registerAccessMisaligned, served_reaches hq, misalignedAccess_error form (.inl (pageIn_of_le lo hi))]
  · rw [exec_registerAccessMisaligned, served_reaches hq,
      misalignedAccess_error form (.inr ⟨pageIn_of_le lo hi, recordBurst_false burst⟩)]

/-! ## The state after reset -/

/-- The registers after reset hold their reset words. -/
theorem rd_reset (k : Nat) : rd State.reset k = resetWord k := rfl

/-- Every domain is ON and in C0 after reset (R463). -/
theorem domains_reset : ∀ d : Fin 14, domSt State.reset d.val = 2 ∧ domC State.reset d.val = 0 := by decide +kernel

/-- Settles O6: a key without an entry reads its reset value. -/
theorem resetStateIsTheSpecs : Obligations.ResetStateIsTheSpecs := by
  unfold Obligations.ResetStateIsTheSpecs
  refine ⟨rfl, rfl, reset_wf, rfl, by decide +kernel, domains_reset, fun _ => rfl, fun _ => rfl, fun _ => rfl, rfl, rfl, ?_, ?_, ?_, ?_⟩ <;>
    rw [rd_reset] <;> decide +kernel

end Sys2Proof.Machine
end

section
/-! SUPPORT. The path of a register write (R27 to R30), and wide registers (R14). -/

namespace Sys2Proof.Machine

open Sys2Proof.Safety

/-! ## Register writes that pass every check -/

/-- A write that breaks no rule of R30 has code NONE. -/
theorem tableCode_none {s : State} {page off : Nat} {d : RegDesc} {old v : Word} (ro : allReadOnly d = false) (rsv : reservedSet d v = false)
    (ext : extraReserved s page off v = false) (lock : (s.rwlLocked && lockedChange d old v) = false) (st : stateBars s page off old v = false)
    (dom : domainRefuses s page off d v = false) (ill : illegalField d v = false) (val : valueBars s page off old v = false) :
    tableCode s page off d old v = .none := by
  unfold tableCode
  simp only [ro, rsv, ext, lock, st, dom, ill, val, Bool.or_self, Bool.false_eq_true, if_false]

/-- A domain that is ON refuses nothing (R467, R468). -/
theorem domainRefuses_awake {s : State} {page : Nat} (h : Awake s page) (off : Nat) (d : RegDesc) (v : Word) :
    domainRefuses s page off d v = false := by
  simp [domainRefuses, domainBars, h.1]

/-- A register without RWL fields has nothing that the locked modes hold. -/
theorem lockedChange_none {d : RegDesc} (h : d.fields.all (fun f => f.acc != .rwl) = true) (s : State) (old v : Word) :
    (s.rwlLocked && lockedChange d old v) = false := by
  rw [Bool.and_eq_false_iff, lockedChange, List.any_eq_false]
  right
  intro f hf
  have acc := List.all_eq_true.mp h f hf
  rw [bne_iff_ne] at acc
  simp [acc]

/-- A register without reserved fields has no reserved bit to set. -/
theorem reservedSet_none {d : RegDesc} (h : d.fields.all (fun f => f.acc != .rsv) = true) (v : Word) : reservedSet d v = false := by
  rw [reservedSet, List.any_eq_false]
  intro f hf
  have acc := List.all_eq_true.mp h f hf
  rw [bne_iff_ne] at acc
  simp [acc]

/-- A register whose fields take every value bars none. -/
theorem illegalField_none {d : RegDesc} (h : d.fields.all (fun f => f.legal.isEmpty && f.mult == 1) = true) (v : Word) :
    illegalField d v = false := by
  rw [illegalField, List.any_eq_false]
  intro f hf
  have every := List.all_eq_true.mp h f hf
  rw [Bool.and_eq_true, beq_iff_eq] at every
  obtain ⟨legal, mult⟩ := every
  simp [valueLegal, legal, mult, Nat.mod_one]

/-- An accepted write outside the NRAP and host pages: the word, the domain's wake for an action, and the effect. -/
theorem acceptWrite_of_afterWrite {s r : State} {q : Requester} {page off : Nat} {d : RegDesc} {v : Word} (bind : page ≠ 0x80)
    (host : pageIn page 0x78 0x7A = false) (hc : chapterCode s page off v = .none)
    (h : let u := wr s (keyAt s page off d) (writtenWord d (rd s (keyAt s page off d)) v)
      afterWrite (if startsAction page off d then domainRuns u (pageDomain page) else u) q page off (rd s (keyAt s page off d)) v = (r, .none)) :
    acceptWrite s q page off d v = (r, .none) := by
  unfold acceptWrite
  dsimp only at h ⊢
  rw [if_neg (fun e => bind e.1)]
  simp only [hc, host, Bool.false_eq_true, false_and, if_false, h, if_true]

/-- An action in a domain that is in C0 already changes no register. -/
theorem onlyRegs_domainRuns (ks : List Nat) {s : State} {d : Nat} (h : domC s d = 0) : OnlyRegs ks s (domainRuns s d) := by
  have same : setDomC s d 0 = wr s (R.PWR_DOMSTAT d) (rd s (R.PWR_DOMSTAT d)) := by
    rw [setDomC, setFld, ← h]
    exact congrArg (wr s _) (withBits_self _ (by decide) (by decide))
  unfold domainRuns
  split
  · rw [same]
    refine (onlyRegs_wr_self ks s _).trans ⟨rfl, fun _ _ => rfl, fun e he => ?_⟩
    rw [tget_tput] at he
    split at he
    · exact absurd he (by decide)
    · exact he
  · exact OnlyRegs.refl ks s

/-- A register of WO fields alone stays as it is; the write is an action in a domain that runs. -/
def actionState (s : State) (key d : Nat) : State := domainRuns (wr s key (rd s key)) d

theorem onlyRegs_actionState (ks : List Nat) {s : State} {page : Nat} (h : Awake s page) (key : Nat) :
    OnlyRegs ks s (actionState s key (pageDomain page)) := by
  have c0 : domC (wr s key (rd s key)) (pageDomain page) = 0 := by
    rw [domC, fld, rd_wr_self]
    exact h.2
  exact (onlyRegs_wr_self ks s key).trans (onlyRegs_domainRuns ks c0)

/-- A write of a wide register's word that breaks no rule stages the word or commits the register (R14). -/
theorem writeCommand_wide {s r : State} {q : Requester} {page off base n : Nat} {v : Word} {d : RegDesc} (hr : Reaches s q page off)
    (ha : Awake s page) (hl : lockBarred q page off = false) (h40 : 0x40 ≤ off) (hp : (pageAlloc page).isSome) (hd : findReg page off = some d)
    (ho : ownWrite s q page off v = none) (ht : tableCode s page off d (rd s (keyAt s page off d)) v = .none)
    (hw : wideOf page off = some (base, n)) (h : wideWrite s q page off base d v = (r, .none)) :
    writeCommand s q page off v = answer (forwardConfig r page off v) .none := by
  have hp' : (pageAlloc page).isNone = false := by rw [Option.isNone_eq_false_iff]; exact hp
  have h40' : ¬ off < 0x40 := by omega
  have write : regWrite s q page off v = (forwardConfig r page off v, .none) := by
    unfold regWrite blockWrite
    simp only [hp', h40', hd, wakeFor_awake ha, ho, ht, hw, h, Bool.false_eq_true, if_false]
  rw [writeCommand, gated_reaches hr]
  simp only [hl, write, endCommand, Bool.false_eq_true, if_false, if_true]

/-- A register read of a requester that reaches the page. -/
theorem registerRead_reaches {s : State} {q : Requester} {page off : Nat} (hr : Reaches s q page off) (hl : lockBarred q page off = false)
    (h4 : off % 4 = 0) :
    registerRead s q page off = { (regRead s q page off).1 with answer := { words := [(regRead s q page off).2] } } := by
  rw [registerRead, if_neg (not_not_intro h4), readCommand, gated_reaches hr]
  simp only [hl, Bool.false_eq_true, if_false]

/-! ## Wide registers (R14) -/

/-- The field table of FRC_VALUE: two words, each one field that may be written freely. -/
def frcValueDesc : RegDesc := ⟨0x44, [(2, 4)], .one, [⟨31, 0, .rw, 0, [], 1⟩]⟩

theorem findReg_FRC_VALUE : findReg 0x32 0x44 = some frcValueDesc ∧ findReg 0x32 0x48 = some frcValueDesc := by decide

theorem wordNow_FRC_VALUE (s : State) : wordNow s 0x32 0x44 = rd s (R.FRC_VALUE 0) ∧ wordNow s 0x32 0x48 = rd s (R.FRC_VALUE 1) := by
  obtain ⟨low, high⟩ := findReg_FRC_VALUE
  have mask (w : Word) : w &&& readMask frcValueDesc = w := BitVec.and_allOnes
  constructor
  · rw [wordNow]
    simp only [low, mask]
    rfl
  · rw [wordNow]
    simp only [high, mask]
    rfl

/-- A read of a word of the FRC page's wide registers. -/
theorem regRead_wide_FRC {s : State} {q : Requester} {off base n : Nat} {d : RegDesc} (ha : Awake s 0x32) (h40 : 0x40 ≤ off)
    (hd : findReg 0x32 off = some d) (hw : wideOf 0x32 off = some (base, n)) : regRead s q 0x32 off = wideRead s q 0x32 off base n d := by
  have h40' : ¬ off < 0x40 := by omega
  simp [regRead, wakeFor_awake ha, hd, h40', hw, pageIn]

theorem heldWord_keepWord_same (s : State) (q : Requester) (k : Nat) (w : Word) : heldWord (keepWord s q k w) q k = some w := by
  simp [heldWord, keepWord]

theorem heldWord_keepWord_ne (s : State) {q r : Requester} {k j : Nat} (w : Word) (h : (r, j) ≠ (q, k)) :
    heldWord (keepWord s q k w) r j = heldWord s r j := by
  have head : (q == r && k == j) = false := by
    rw [Bool.and_eq_false_iff, beq_eq_false_iff_ne, beq_eq_false_iff_ne, ← not_and_or]
    exact fun e => h (by rw [e.1, e.2])
  have kept (x : KeptWord) : (!(x.who == q && x.key == k) && (x.who == r && x.key == j)) = (x.who == r && x.key == j) := by
    rw [Bool.and_eq_right_iff_imp]
    intro e
    simp only [Bool.and_eq_true, beq_iff_eq] at e
    rw [e.1, e.2, Bool.not_eq_true', Bool.and_eq_false_iff, beq_eq_false_iff_ne, beq_eq_false_iff_ne, ← not_and_or]
    exact fun e => h (by rw [e.1, e.2])
  simp only [heldWord, keepWord, List.find?_cons, head, List.find?_filter, Bool.decide_and, Bool.decide_eq_true, kept]

theorem exec_wideRegisterRead (s : State) (q : Requester) (page : BitVec 8) (off : BitVec 12) :
    exec (.wideRegisterRead q page off) s = .next (registerRead s q page.toNat off.toNat) := rfl

theorem exec_wideRegisterCommit (s : State) (q : Requester) (page : BitVec 8) (off : BitVec 12) (v : Word) :
    exec (.wideRegisterCommit q page off v) s = .next (registerWrite s q page.toNat off.toNat v) := rfl

/-- A read of the low word of FRC_VALUE keeps the high word for its requester. -/
theorem exec_read_FRC_VALUE_low {s : State} {q : Requester} (hr : Reaches s q 0x32 0x44) (ha : Awake s 0x32) :
    exec (.wideRegisterRead q 0x32 0x44) s =
      .next { keepWord s q (R.FRC_VALUE 1) (rd s (R.FRC_VALUE 1)) with answer := { words := [rd s (R.FRC_VALUE 0)] } } := by
  have read : regRead s q 0x32 0x44 = (keepWord s q (R.FRC_VALUE 1) (rd s (R.FRC_VALUE 1)), rd s (R.FRC_VALUE 0)) := by
    obtain ⟨low, high⟩ := wordNow_FRC_VALUE s
    rw [regRead_wide_FRC ha (by decide) findReg_FRC_VALUE.1 (n := 2) rfl]
    exact congrArg₂ (fun h l => (keepWord s q (R.FRC_VALUE 1) h, l)) high low
  rw [exec_wideRegisterRead]
  exact congrArg _ ((registerRead_reaches hr rfl rfl).trans (by rw [read]))

/-- A read of the high word returns the copy that its requester holds. -/
theorem exec_read_FRC_VALUE_high {s : State} {q : Requester} {w : Word} (hr : Reaches s q 0x32 0x48) (ha : Awake s 0x32)
    (hw : heldWord s q (R.FRC_VALUE 1) = some w) :
    exec (.wideRegisterRead q 0x32 0x48) s = .next { s with answer := { words := [w] } } := by
  have read : regRead s q 0x32 0x48 = (s, w) := by
    rw [regRead_wide_FRC ha (by decide) findReg_FRC_VALUE.2 (base := 0x44) (n := 2) rfl]
    exact congrArg (fun o : Option Word => (s, o.getD (wordNow s 0x32 0x48))) hw
  rw [exec_wideRegisterRead]
  exact congrArg _ ((registerRead_reaches hr rfl rfl).trans (by rw [read]))

/-- The low word that a commit of FRC_VALUE takes: the one that the requester has staged, or else the register's own. -/
def frcLowWord (s : State) (q : Requester) : Word :=
  ((s.stages.find? (fun h => h.who == q && h.key == R.FRC_VALUE 0)).map (·.word)).getD (rd s (R.FRC_VALUE 0))

/-- The state without a requester's stage of FRC_VALUE. -/
def withoutFrcStage (s : State) (q : Requester) : State :=
  { s with stages := s.stages.filter (fun h => !(h.who == q && h.key == R.FRC_VALUE 0)) }

/-- A write of the high word commits both words. -/
theorem exec_commit_FRC_VALUE {s : State} {q : Requester} (v : Word) (hs : s.boot.due = none) (hr : Reaches s q 0x32 0x48) (ha : Awake s 0x32) :
    exec (.wideRegisterCommit q 0x32 0x48 v) s =
      .next (answer (wr (wr (withoutFrcStage s q) (R.FRC_VALUE 0) (frcLowWord s q)) (R.FRC_VALUE 1) v) .none) := by
  have code : tableCode s 0x32 0x48 frcValueDesc (rd s (keyAt s 0x32 0x48 frcValueDesc)) v = .none :=
    tableCode_none rfl (reservedSet_none rfl v) rfl (lockedChange_none rfl s _ _) rfl (domainRefuses_awake ha _ _ v)
      (illegalField_none rfl v) rfl
  have write := writeCommand_wide (r := wr (wr (withoutFrcStage s q) (R.FRC_VALUE 0) (frcLowWord s q)) (R.FRC_VALUE 1) v) hr ha rfl (by decide)
    rfl findReg_FRC_VALUE.2 rfl code (base := 0x44) (n := 2) rfl rfl
  rw [exec_wideRegisterCommit]
  refine congrArg _ ((registerWrite_aligned rfl).trans ?_)
  rw [forwardConfig_other rfl] at write
  exact (congrArg settleReset write).trans (settleReset_of_none hs)

/-- Settles O26: the high word waits in a copy of its requester's, and a commit writes both words. -/
theorem wideRegistersMoveWhole : Obligations.WideRegistersMoveWhole := by
  unfold Obligations.WideRegistersMoveWhole
  intro s q hs
  refine ⟨fun hr ha => ?_, fun hr ha => ⟨fun w hw => exec_read_FRC_VALUE_high hr ha hw, fun v => ?_⟩⟩
  · exact ⟨_, exec_read_FRC_VALUE_low hr ha, rfl, heldWord_keepWord_same s q _ _, fun _ _ h => heldWord_keepWord_ne s _ h, rfl⟩
  · have low : R.FRC_VALUE 0 ≠ R.FRC_VALUE 1 := by decide
    have committed : rd (wr (wr (withoutFrcStage s q) (R.FRC_VALUE 0) (frcLowWord s q)) (R.FRC_VALUE 1) v) (R.FRC_VALUE 0) = frcLowWord s q := by
      rw [rd_wr_ne _ _ low, rd_wr, if_pos rfl]
    refine ⟨_, exec_commit_FRC_VALUE v hs hr ha, ?_, fun x hx => ?_, fun hx => ?_, fun k hk => ?_, rfl, rfl⟩
    · rw [rd_answer, rd_wr, if_pos rfl]
    · rw [rd_answer, committed, frcLowWord, hx]
      rfl
    · rw [rd_answer, committed, frcLowWord, hx]
      rfl
    · simp only [List.mem_cons, List.not_mem_nil, or_false, not_or] at hk
      rw [rd_answer, rd_wr_ne _ _ hk.2, rd_wr_ne _ _ hk.1]
      rfl

end Sys2Proof.Machine
end

section
/-! SUPPORT. The switchable power domains (R31, R32, R467, R489). -/

namespace Sys2Proof.Machine

open Sys2Proof.Safety

/-! ## Power domains (R31, R32, R467) -/

theorem PWR_DOMSTAT_ne_PG_ISR (d : Nat) : R.PWR_DOMSTAT d ≠ R.PG_ISR 1 := by simp only [R.PWR_DOMSTAT, R.PG_ISR, regKey]; omega

theorem PWR_DOMCTRL_ne_PG_ISR (d : Nat) : R.PWR_DOMCTRL d ≠ R.PG_ISR 1 := by simp only [R.PWR_DOMCTRL, R.PG_ISR, regKey]; omega

theorem PWR_DOMCTRL_ne_PWR_DOMSTAT {d e : Nat} (h : d < 14) : R.PWR_DOMCTRL d ≠ R.PWR_DOMSTAT e := by
  simp only [R.PWR_DOMCTRL, R.PWR_DOMSTAT, regKey]
  omega

/-- A change of STATE of a domain writes the field STATE, whatever it raises beside it. -/
theorem rd_setDomSt (s : State) {d : Nat} (st : Nat) (hd : d < 14) :
    rd (setDomSt s d st) (R.PWR_DOMSTAT d) = withBits (rd s (R.PWR_DOMSTAT d)) 31 30 st := by
  have raised : rd (raiseBit s 1 0) (R.PWR_DOMSTAT d) = rd s (R.PWR_DOMSTAT d) :=
    rd_raiseBit_ne s (PWR_DOMSTAT_ne_PG_ISR d) (regKey_ne_EVT_PEND 1 (by omega) (by decide))
  unfold setDomSt
  dsimp only
  rw [setFld, rd_wr, if_pos rfl]
  split
  · rfl
  · rw [raised]
    rfl

theorem rd_setDomSt_ne (s : State) {d k : Nat} (st : Nat) (stat : k ≠ R.PWR_DOMSTAT d) (isr : k ≠ R.PG_ISR 1) (pend : k ≠ R.EVT_PEND 0) :
    rd (setDomSt s d st) k = rd s k := by
  unfold setDomSt
  dsimp only
  rw [rd_setFld_ne _ _ _ stat]
  split
  · rfl
  · exact rd_raiseBit_ne s isr pend

/-- A change of STATE sets PG_ISR bit 0 of the PWR page (R489). -/
theorem setDomSt_isr {s : State} {d st : Nat} (h : domSt s d ≠ st) : (rd (setDomSt s d st) (R.PG_ISR 1)).getLsbD 0 = true := by
  unfold setDomSt
  dsimp only
  rw [rd_setFld_ne _ _ _ (PWR_DOMSTAT_ne_PG_ISR d).symm, if_neg h]
  exact raiseBit_isr_bit s (by decide) (by decide)

theorem regsAndEvents_setDomSt {ks : List Nat} (s : State) {d : Nat} (st : Nat) (stat : R.PWR_DOMSTAT d ∈ ks) (isr : R.PG_ISR 1 ∈ ks) :
    RegsAndEvents ks s (setDomSt s d st) := by
  unfold setDomSt
  dsimp only
  refine RegsAndEvents.trans ?_ (onlyRegs_setFld _ _ _ stat).regsAndEvents
  split
  · exact RegsAndEvents.refl ks s
  · exact regsAndEvents_raiseBit s 0 isr

theorem domSt_setDomSt (s : State) {d st : Nat} (hd : d < 14) (h : st < 4) : domSt (setDomSt s d st) d = st := by
  rw [domSt, fld, rd_setDomSt s st hd]
  exact (bits_withBits_same _ _ (by decide) (by decide)).trans (Nat.mod_eq_of_lt h)

/-- The fields of a domain's status below STATE outlast a change of STATE. -/
theorem fld_setDomSt (s : State) {d : Nat} (st : Nat) (f : Fld) (hd : d < 14) (hf : f.hi < 30) :
    fld (setDomSt s d st) (R.PWR_DOMSTAT d) f = fld s (R.PWR_DOMSTAT d) f := by
  rw [fld, rd_setDomSt s st hd]
  exact bits_withBits_ne _ _ (by decide) (by decide) (.inl hf)

theorem domC_setDomSt (s : State) {d : Nat} (st : Nat) (hd : d < 14) : domC (setDomSt s d st) d = domC s d :=
  fld_setDomSt s st F.PWR_DOMSTAT_CSTATE hd (by decide)

theorem domC_setDomC (s : State) (d : Nat) {c : Nat} (h : c < 8) : domC (setDomC s d c) d = c :=
  (fld_setFld_same s _ _ c (by decide) (by decide)).trans (Nat.mod_eq_of_lt h)

theorem domSt_setDomC (s : State) (d c : Nat) : domSt (setDomC s d c) d = domSt s d :=
  fld_setFld_other s _ _ _ c (by decide) (by decide) (.inr (by decide))

theorem domSt_answer (s : State) (c : Code) (d : Nat) : domSt (answer s c) d = domSt s d := rfl
theorem domC_answer (s : State) (c : Code) (d : Nat) : domC (answer s c) d = domC s d := rfl
theorem flag_answer (s : State) (c : Code) (k : Nat) (f : Fld) : flag (answer s c) k f = flag s k f := rfl

/-! ### Enables and disables of a domain -/

theorem enableFn_domain_off {s : State} {d : Fin 14} (hm : modeNow s ≠ mdBOOT) (h : domSt s d.val = 0) :
    enableFn s (.domain d) = setDomSt s d.val fsSTARTING := by
  have off : fnState s (.domain d) = fsOFF := h
  unfold enableFn
  rw [if_neg hm, if_pos off]
  rfl

theorem enableFn_domain_stopping {s : State} {d : Fin 14} (hm : modeNow s ≠ mdBOOT) (h : domSt s d.val = 3) :
    enableFn s (.domain d) = setFld s (R.PWR_DOMSTAT d.val) F.PWR_DOMSTAT_REARM 1 := by
  have stopping : fnState s (.domain d) = fsSTOPPING := h
  unfold enableFn
  rw [if_neg hm, stopping]
  rfl

theorem disableFn_domain_on {s : State} {d : Fin 14} (h : domSt s d.val = 2) :
    disableFn s (.domain d) = setDomC (setDomSt s d.val fsSTOPPING) d.val 0 := by
  have on : fnState s (.domain d) = fsON := h
  unfold disableFn
  rw [if_pos (.inr on)]
  rfl

/-- The field table of PWR_DOMCTRL. -/
def pwrDomctrlDesc : RegDesc := ⟨0x40, [(14, 4)], .one, [⟨31, 31, .rwp, 1, [], 1⟩, ⟨30, 30, .rwp, 0, [], 1⟩, ⟨29, 0, .rsv, 0, [], 1⟩]⟩

theorem findReg_PWR_DOMCTRL : ∀ d : Fin 14, findReg 0x01 (0x40 + 4 * d.val) = some pwrDomctrlDesc := by decide

theorem domctrl_index (d : Nat) : (0x40 + 4 * d - 0x40) / 4 = d := by omega

theorem domctrl_range (d : Fin 14) : pageIn (0x40 + 4 * d.val) 0x40 0x74 = true := pageIn_of_le (by omega) (by omega)

/-- The EN bit of PWR_DOMCTRLd is the domain's. -/
theorem fnOfReg_PWR_DOMCTRL (s : State) (d : Fin 14) : fnOfReg s 0x01 (0x40 + 4 * d.val) = some (.domain d) := by
  unfold fnOfReg
  rw [if_pos ⟨rfl, domctrl_range d⟩]
  simp only [domctrl_index, d.isLt, dif_pos]

/-- A word for PWR_DOMCTRL with its reserved bits at 0 breaks no rule on a switchable domain. -/
theorem tableCode_PWR_DOMCTRL {s : State} {d : Fin 14} (lo : 3 ≤ d.val) (hi : d.val ≤ 11) (ha : Awake s 0x01) (hl : s.rwlLocked = false)
    (old : Word) {v : Word} (hv : bits v 29 0 = 0) : tableCode s 0x01 (0x40 + 4 * d.val) pwrDomctrlDesc old v = .none := by
  have rsv : reservedSet pwrDomctrlDesc v = false := by simp [reservedSet, pwrDomctrlDesc, hv]
  have switchable : domSwitchable d.val = true := pageIn_of_le lo hi
  have deep : ¬ deepest d.val < 4 := by
    unfold deepest
    split
    · omega
    · split <;> omega
  have val : valueBars s 0x01 (0x40 + 4 * d.val) old v = false := by
    unfold valueBars
    rw [if_pos rfl]
    simp only [domctrl_index, switchable, deep, Bool.not_true, Bool.and_false, decide_false, Bool.or_self]
  exact tableCode_none rfl rsv rfl (by rw [hl]; rfl) rfl (domainRefuses_awake ha _ _ v) (illegalField_none rfl v) val

/-- An accepted write of PWR_DOMCTRLd sets the word and then enables or disables the domain. -/
theorem acceptWrite_PWR_DOMCTRL {s : State} {q : Requester} {d : Fin 14} {v : Word} (h : chapterCode s 0x01 (0x40 + 4 * d.val) v = .none) :
    acceptWrite s q 0x01 (0x40 + 4 * d.val) pwrDomctrlDesc v =
      ((let r := wr s (R.PWR_DOMCTRL d.val) (writtenWord pwrDomctrlDesc (rd s (R.PWR_DOMCTRL d.val)) v)
        if bit v 31 then enableFn r (.domain d) else disableFn r (.domain d)), .none) := by
  have key : keyAt s 0x01 (0x40 + 4 * d.val) pwrDomctrlDesc = R.PWR_DOMCTRL d.val := rfl
  have act : startsAction 0x01 (0x40 + 4 * d.val) pwrDomctrlDesc = false := rfl
  refine acceptWrite_of_afterWrite (by decide) rfl h ?_
  simp only [key, act, afterWrite, fnOfReg_PWR_DOMCTRL, Bool.false_eq_true, if_false]

/-- EN of PWR_DOMCTRL is written as the word gives it. -/
theorem writtenWord_PWR_DOMCTRL_en (old v : Word) : (writtenWord pwrDomctrlDesc old v).getLsbD 31 = v.getLsbD 31 := by
  have e : writtenWord pwrDomctrlDesc old v = withBits (withBits old 31 31 (bits v 31 31)) 30 30 (bits v 30 30) := rfl
  have above : ¬ (30 ≤ 31 ∧ 31 ≤ 30) := by omega
  rw [e, withBits_getLsbD _ _ _ (by decide) (by decide), if_neg above, withBits_getLsbD _ _ _ (by decide) (by decide), if_pos (by decide),
    bits, natBits_testBit]
  rfl

/-- The word that ENABLE_WRITE and DISABLE_WRITE give PWR_DOMCTRL: as it stands, but for EN. -/
def domctrlWord (s : State) (d : Fin 14) (on : Bool) : Word := withBits (rd s (R.PWR_DOMCTRL d.val)) 31 31 (b2n on)

theorem domctrlWord_en (s : State) (d : Fin 14) (on : Bool) : (domctrlWord s d on).getLsbD 31 = on := by
  rw [domctrlWord, withBits_getLsbD _ _ _ (by decide) (by decide), if_pos (by decide)]
  cases on <;> rfl

theorem domctrlWord_reserved {s : State} {d : Fin 14} (h : (rd s (R.PWR_DOMCTRL d.val)).toNat % 0x40000000 = 0) (on : Bool) :
    bits (domctrlWord s d on) 29 0 = 0 :=
  (bits_withBits_ne _ _ (by decide) (by decide) (.inl (by decide))).trans h

/-- PWR_DOMCTRLd with its word written. -/
def domctrlWritten (s : State) (d : Fin 14) (on : Bool) : State :=
  wr s (R.PWR_DOMCTRL d.val) (writtenWord pwrDomctrlDesc (rd s (R.PWR_DOMCTRL d.val)) (domctrlWord s d on))

theorem domctrlWritten_en (s : State) (d : Fin 14) (on : Bool) : (rd (domctrlWritten s d on) (R.PWR_DOMCTRL d.val)).getLsbD 31 = on := by
  rw [domctrlWritten, rd_wr, if_pos rfl, writtenWord_PWR_DOMCTRL_en, domctrlWord_en]

theorem domSt_domctrlWritten (s : State) (d : Fin 14) (on : Bool) : domSt (domctrlWritten s d on) d.val = domSt s d.val :=
  fld_wr_ne s _ _ (PWR_DOMCTRL_ne_PWR_DOMSTAT d.isLt).symm

theorem modeNow_domctrlWritten (s : State) (d : Fin 14) (on : Bool) : modeNow (domctrlWritten s d on) = modeNow s :=
  fld_wr_ne s _ _ (by simp only [R.SYS_MODE, R.PWR_DOMCTRL, regKey]; omega)

/-- A write of EN to a switchable domain, as its requester meets it. -/
theorem enWrite_domain {s : State} {q : Requester} {d : Fin 14} {on : Bool} (lo : 3 ≤ d.val) (hi : d.val ≤ 11)
    (hr : Reaches s q 0x01 (0x40 + 4 * d.val)) (ha : Awake s 0x01) (hl : s.rwlLocked = false)
    (hv : (rd s (R.PWR_DOMCTRL d.val)).toNat % 0x40000000 = 0) (hc : chapterCode s 0x01 (0x40 + 4 * d.val) (domctrlWord s d on) = .none) :
    enWrite s q (.domain d) on =
      answer (if on then enableFn (domctrlWritten s d on) (.domain d) else disableFn (domctrlWritten s d on) (.domain d)) .none := by
  have offset : R.PWR_DOMCTRL d.val % 4096 = 0x40 + 4 * d.val := by simp only [R.PWR_DOMCTRL, regKey]; omega
  have en : bit (domctrlWord s d on) 31 = on := domctrlWord_en s d on
  have write : enWrite s q (.domain d) on = writeCommand s q 0x01 (R.PWR_DOMCTRL d.val % 4096) (domctrlWord s d on) := rfl
  have accepted := acceptWrite_PWR_DOMCTRL (q := q) hc
  rw [write, offset, (writeCommand_action hr ha rfl (by omega) rfl (findReg_PWR_DOMCTRL d) rfl
    (tableCode_PWR_DOMCTRL lo hi ha hl _ (domctrlWord_reserved hv on)) rfl).1 _ accepted, forwardConfig_other rfl]
  simp only [en]
  rfl

/-- An enable of a domain meets no condition of its chapter. -/
theorem chapterCode_enable_domain {s : State} {d : Fin 14} {v : Word} (h : v.getLsbD 31 = true) :
    chapterCode s 0x01 (0x40 + 4 * d.val) v = .none := by
  have en : bit v 31 = true := h
  simp [chapterCode, fnOfReg_PWR_DOMCTRL, en, enableCheck]

/-- A disable of a domain whose functions are OFF and which no rule keeps running meets the condition of R467. -/
theorem chapterCode_disable_domain {s : State} {d : Fin 14} {v : Word} (h : v.getLsbD 31 = false) (lo : 3 ≤ d.val) (hi : d.val ≤ 11)
    (off : functionsOff s d.val = true) (keep : keepRunning s d.val = false) : chapterCode s 0x01 (0x40 + 4 * d.val) v = .none := by
  have en : bit v 31 = false := h
  have switchable : domSwitchable d.val = true := pageIn_of_le lo hi
  simp [chapterCode, fnOfReg_PWR_DOMCTRL, en, domainDisableCheck, switchable, off, keep]

theorem regsAndEvents_answer (ks : List Nat) (s : State) (c : Code) : RegsAndEvents ks s (answer s c) := (onlyRegs_answer ks s c).regsAndEvents

theorem regsAndEvents_setDomC {ks : List Nat} (s : State) {d : Nat} (c : Nat) (stat : R.PWR_DOMSTAT d ∈ ks) :
    RegsAndEvents ks s (setDomC s d c) := (onlyRegs_setFld s _ _ stat).regsAndEvents

theorem rd_setDomC_ne (s : State) {d k : Nat} (c : Nat) (h : k ≠ R.PWR_DOMSTAT d) : rd (setDomC s d c) k = rd s k := rd_setFld_ne s _ _ h

theorem flag_rearm_setDomC (s : State) (d c : Nat) :
    flag (setDomC s d c) (R.PWR_DOMSTAT d) F.PWR_DOMSTAT_REARM = flag s (R.PWR_DOMSTAT d) F.PWR_DOMSTAT_REARM :=
  congrArg (· != 0) (fld_setFld_other s _ F.PWR_DOMSTAT_CSTATE F.PWR_DOMSTAT_REARM c (by decide) (by decide) (.inr (by decide)))

theorem flag_rearm_setDomSt (s : State) {d : Nat} (st : Nat) (hd : d < 14) :
    flag (setDomSt s d st) (R.PWR_DOMSTAT d) F.PWR_DOMSTAT_REARM = flag s (R.PWR_DOMSTAT d) F.PWR_DOMSTAT_REARM :=
  congrArg (· != 0) (fld_setDomSt s st F.PWR_DOMSTAT_REARM hd (by decide))

/-- Writing REARM leaves STATE and CSTATE. -/
theorem fld_setRearm (s : State) (d n : Nat) {f : Fld} (h : f.hi < 29 ∨ 29 < f.lo) :
    fld (setFld s (R.PWR_DOMSTAT d) F.PWR_DOMSTAT_REARM n) (R.PWR_DOMSTAT d) f = fld s (R.PWR_DOMSTAT d) f :=
  fld_setFld_other s _ _ _ n (by decide) (by decide) h

theorem flag_setRearm (s : State) (d : Nat) (b : Bool) :
    flag (setFld s (R.PWR_DOMSTAT d) F.PWR_DOMSTAT_REARM (b2n b)) (R.PWR_DOMSTAT d) F.PWR_DOMSTAT_REARM = b := by
  rw [flag, fld_setFld_same _ _ _ _ (by decide) (by decide)]
  cases b <;> rfl

/-! ### Settling the domains -/

/-- An enable starts a domain that is OFF. -/
theorem enable_starts_domain {s : State} {d : Fin 14} (hm : modeNow s ≠ mdBOOT) (h : domSt s d.val = 0) :
    let t := answer (enableFn (domctrlWritten s d true) (.domain d)) .none
    domSt t d.val = 1 ∧ (rd t (R.PWR_DOMCTRL d.val)).getLsbD 31 = true ∧ (rd t (R.PG_ISR 0x01)).getLsbD 0 = true ∧ Accepted t ∧
      RegsAndEvents [R.PWR_DOMCTRL d.val, R.PWR_DOMSTAT d.val, R.PG_ISR 0x01] s t := by
  have off : domSt (domctrlWritten s d true) d.val = 0 := (domSt_domctrlWritten s d true).trans h
  dsimp only
  rw [enableFn_domain_off (by rw [modeNow_domctrlWritten]; exact hm) off, domSt_answer, rd_answer, rd_answer]
  refine ⟨domSt_setDomSt _ d.isLt (by decide), ?_, setDomSt_isr (by rw [off]; decide), rfl, ?_⟩
  · rw [rd_setDomSt_ne _ _ (PWR_DOMCTRL_ne_PWR_DOMSTAT d.isLt) (PWR_DOMCTRL_ne_PG_ISR _)
      (regKey_ne_EVT_PEND 1 (by omega) (by decide))]
    exact domctrlWritten_en s d true
  · exact ((onlyRegs_wr s _ (by simp)).regsAndEvents.trans (regsAndEvents_setDomSt _ _ (by simp) (by simp))).trans
      (regsAndEvents_answer _ _ _)

/-- An enable of a domain that is STOPPING latches its re-arm. -/
theorem enable_rearms_domain {s : State} {d : Fin 14} (hm : modeNow s ≠ mdBOOT) (h : domSt s d.val = 3) :
    let t := answer (enableFn (domctrlWritten s d true) (.domain d)) .none
    domSt t d.val = 3 ∧ flag t (R.PWR_DOMSTAT d.val) F.PWR_DOMSTAT_REARM = true ∧ Accepted t ∧
      RegsAndEvents [R.PWR_DOMCTRL d.val, R.PWR_DOMSTAT d.val] s t := by
  have stopping : domSt (domctrlWritten s d true) d.val = 3 := (domSt_domctrlWritten s d true).trans h
  dsimp only
  rw [enableFn_domain_stopping (by rw [modeNow_domctrlWritten]; exact hm) stopping, domSt_answer, flag_answer]
  refine ⟨?_, flag_setRearm _ _ true, rfl, ?_⟩
  · rw [domSt, fld_setRearm _ _ _ (.inr (by decide))]
    exact stopping
  · exact (((onlyRegs_wr s _ (by simp)).trans (onlyRegs_setFld _ _ _ (by simp))).trans (onlyRegs_answer _ _ _)).regsAndEvents

/-- A disable stops a domain that is ON, which leaves its sleep states. -/
theorem disable_stops_domain {s : State} {d : Fin 14} (h : domSt s d.val = 2) :
    let t := answer (disableFn (domctrlWritten s d false) (.domain d)) .none
    domSt t d.val = 3 ∧ domC t d.val = 0 ∧ (rd t (R.PWR_DOMCTRL d.val)).getLsbD 31 = false ∧ (rd t (R.PG_ISR 0x01)).getLsbD 0 = true ∧
      Accepted t ∧ RegsAndEvents [R.PWR_DOMCTRL d.val, R.PWR_DOMSTAT d.val, R.PG_ISR 0x01] s t := by
  have on : domSt (domctrlWritten s d false) d.val = 2 := (domSt_domctrlWritten s d false).trans h
  have key := PWR_DOMCTRL_ne_PWR_DOMSTAT (d := d.val) (e := d.val) d.isLt
  dsimp only
  rw [disableFn_domain_on on, domSt_answer, domC_answer, rd_answer, rd_answer]
  refine ⟨(domSt_setDomC _ _ _).trans (domSt_setDomSt _ d.isLt (by decide)), domC_setDomC _ _ (by decide), ?_, ?_, rfl, ?_⟩
  · rw [rd_setDomC_ne _ _ key, rd_setDomSt_ne _ _ key (PWR_DOMCTRL_ne_PG_ISR _) (regKey_ne_EVT_PEND 1 (by omega) (by decide))]
    exact domctrlWritten_en s d false
  · rw [rd_setDomC_ne _ _ (PWR_DOMSTAT_ne_PG_ISR _).symm]
    exact setDomSt_isr (by rw [on]; decide)
  · exact (((onlyRegs_wr s _ (by simp)).regsAndEvents.trans (regsAndEvents_setDomSt _ _ (by simp) (by simp))).trans
      (regsAndEvents_setDomC _ _ (by simp))).trans (regsAndEvents_answer _ _ _)

/-- A start of a domain ends ON in C0. -/
theorem startedFn_domain {s : State} {d : Fin 14} (h : domSt s d.val = 1) :
    let t := startedFn s (.domain d)
    domSt t d.val = 2 ∧ domC t d.val = 0 ∧ (rd t (R.PG_ISR 0x01)).getLsbD 0 = true ∧
      RegsAndEvents [R.PWR_DOMSTAT d.val, R.PG_ISR 0x01] s t := by
  have started : startedFn s (.domain d) = setDomC (setDomSt s d.val fsON) d.val 0 := if_pos h
  rw [started]
  refine ⟨(domSt_setDomC _ _ _).trans (domSt_setDomSt _ d.isLt (by decide)), domC_setDomC _ _ (by decide), ?_, ?_⟩
  · rw [rd_setDomC_ne _ _ (PWR_DOMSTAT_ne_PG_ISR _).symm]
    exact setDomSt_isr (by rw [h]; decide)
  · exact (regsAndEvents_setDomSt _ _ (by simp) (by simp)).trans (regsAndEvents_setDomC _ _ (by simp))

/-- A stop of a domain ends OFF in C4, or starts the domain again. -/
theorem domainOff_spec {s : State} {d : Nat} (hd : d < 14) (h : domSt s d = 3) :
    let t := domainOff s d
    domC t d = 4 ∧ domSt t d = (if flag s (R.PWR_DOMSTAT d) F.PWR_DOMSTAT_REARM then 1 else 0) ∧
      flag t (R.PWR_DOMSTAT d) F.PWR_DOMSTAT_REARM = false ∧ (rd t (R.PG_ISR 0x01)).getLsbD 0 = true ∧
      RegsAndEvents [R.PWR_DOMSTAT d, R.PG_ISR 0x01] s t := by
  have rearm : flag (setDomC (setDomSt s d fsOFF) d 4) (R.PWR_DOMSTAT d) F.PWR_DOMSTAT_REARM =
      flag s (R.PWR_DOMSTAT d) F.PWR_DOMSTAT_REARM := (flag_rearm_setDomC _ _ _).trans (flag_rearm_setDomSt s fsOFF hd)
  have off : domSt (setDomC (setDomSt s d fsOFF) d 4) d = 0 := (domSt_setDomC _ _ _).trans (domSt_setDomSt s hd (by decide))
  have deep : domC (setDomC (setDomSt s d fsOFF) d 4) d = 4 := domC_setDomC _ _ (by decide)
  have frame : RegsAndEvents [R.PWR_DOMSTAT d, R.PG_ISR 0x01] s (setDomC (setDomSt s d fsOFF) d 4) :=
    (regsAndEvents_setDomSt _ _ (by simp) (by simp)).trans (regsAndEvents_setDomC _ _ (by simp))
  unfold domainOff
  dsimp only
  rw [rearm]
  split
  next again =>
    refine ⟨?_, domSt_setDomSt _ hd (by decide), ?_, ?_, ?_⟩
    · exact ((domC_setDomSt _ _ hd).trans (fld_setRearm _ _ 0 (.inl (by decide)))).trans deep
    · exact (flag_rearm_setDomSt _ _ hd).trans (flag_setRearm _ _ false)
    · refine setDomSt_isr ?_
      rw [domSt, fld_setRearm _ _ 0 (.inr (by decide))]
      exact fun e => absurd (off.symm.trans e) (by decide)
    · exact (frame.trans (onlyRegs_setFld _ _ _ (by simp)).regsAndEvents).trans (regsAndEvents_setDomSt _ _ (by simp) (by simp))
  next done =>
    refine ⟨deep, off, rearm.trans (by simpa using done), ?_, frame⟩
    rw [rd_setDomC_ne _ _ (PWR_DOMSTAT_ne_PG_ISR _).symm]
    exact setDomSt_isr (by rw [h]; decide)

theorem exec_startingComplete (s : State) (fn : SwitchFn) : exec (.startingComplete fn) s = .next (startedFn s fn) := rfl

theorem exec_stoppingComplete (s : State) (fn : SwitchFn) : exec (.stoppingComplete fn) s = .next (stoppedFn s fn) := rfl

theorem exec_enableWrite_domain {s : State} {q : Requester} {d : Fin 14} (lo : 3 ≤ d.val) (hi : d.val ≤ 11)
    (hr : Reaches s q 0x01 (0x40 + 4 * d.val)) (ha : Awake s 0x01) (hl : s.rwlLocked = false)
    (hv : (rd s (R.PWR_DOMCTRL d.val)).toNat % 0x40000000 = 0) :
    exec (.enableWrite q (.domain d)) s = .next (answer (enableFn (domctrlWritten s d true) (.domain d)) .none) := by
  have write := enWrite_domain (on := true) lo hi hr ha hl hv (chapterCode_enable_domain (domctrlWord_en s d true))
  rw [if_pos rfl] at write
  exact congrArg Host.Outcome.next write

theorem exec_disableWrite_domain {s : State} {q : Requester} {d : Fin 14} (lo : 3 ≤ d.val) (hi : d.val ≤ 11)
    (hr : Reaches s q 0x01 (0x40 + 4 * d.val)) (ha : Awake s 0x01) (hl : s.rwlLocked = false)
    (hv : (rd s (R.PWR_DOMCTRL d.val)).toNat % 0x40000000 = 0) (off : functionsOff s d.val = true) (keep : keepRunning s d.val = false) :
    exec (.disableWrite q (.domain d)) s = .next (answer (disableFn (domctrlWritten s d false) (.domain d)) .none) := by
  have write := enWrite_domain (on := false) lo hi hr ha hl hv (chapterCode_disable_domain (domctrlWord_en s d false) lo hi off keep)
  rw [if_neg (by decide)] at write
  exact congrArg Host.Outcome.next write

/-- Settles O27, one lemma for each move of a domain. -/
theorem domainsSwitchThroughTheirStates : Obligations.DomainsSwitchThroughTheirStates := by
  unfold Obligations.DomainsSwitchThroughTheirStates
  intro s d lo hi
  refine ⟨fun q hr ha hm hl hv => ⟨fun h => ?_, fun h => ?_, fun h off keep => ?_⟩, fun h => ?_, fun h => ?_⟩
  · exact ⟨_, exec_enableWrite_domain lo hi hr ha hl hv, enable_starts_domain hm h⟩
  · exact ⟨_, exec_enableWrite_domain lo hi hr ha hl hv, enable_rearms_domain hm h⟩
  · exact ⟨_, exec_disableWrite_domain lo hi hr ha hl hv off keep, disable_stops_domain h⟩
  · exact ⟨_, exec_startingComplete s _, startedFn_domain h⟩
  · have stopped : stoppedFn s (.domain d) = domainOff s d.val := if_pos h
    exact ⟨_, (exec_stoppingComplete s _).trans (congrArg _ stopped), domainOff_spec d.isLt h⟩

end Sys2Proof.Machine
end

section
/-! SUPPORT. Clears and budgets (R37, R65, R85, R466). -/

namespace Sys2Proof.Machine

open Sys2Proof.Safety

/-! ## Clearing pending events (R37) -/

/-- A source's level stands in the header of its page and in the power fail line. -/
theorem sourceLevel_congr {s t : State} (isr : ∀ p, p < 0x100 → rd t (R.PG_ISR p) = rd s (R.PG_ISR p))
    (ier : ∀ p, p < 0x100 → rd t (R.PG_IER p) = rd s (R.PG_IER p)) (pfw : t.pfwLevel = s.pfwLevel) (src : Nat) :
    sourceLevel t src = sourceLevel s src := by
  unfold sourceLevel
  split
  next h => rw [pageLine, pageLine, isr src h, ier src h]
  next => rw [pfw]

/-- Whether a level source stands and is routed (R36, R37). -/
def standsRouted (s : State) (src : Nat) : Bool := sourceLevel s src && flag s (R.EVT_ROUTE src) F.EVT_ROUTE_EN

/-- A pending word is in no page's header and no route. -/
theorem standsRouted_congr {s t : State} {k : Nat} (hk : k < 0x280) (h : ∀ j, j ≠ R.EVT_PEND k → rd t j = rd s j)
    (pfw : t.pfwLevel = s.pfwLevel) {src : Nat} (hs : src < 0x140) : standsRouted t src = standsRouted s src := by
  have route : rd t (R.EVT_ROUTE src) = rd s (R.EVT_ROUTE src) := h _ (regKey_ne_EVT_PEND 7 (by omega) hk)
  rw [standsRouted, standsRouted, flag, fld, route,
    sourceLevel_congr (fun p _ => h _ (regKey_ne_EVT_PEND p (by decide) hk)) (fun p _ => h _ (regKey_ne_EVT_PEND p (by decide) hk)) pfw]
  rfl

/-- Sources of one pending word that look at their levels add the bits of those that stand and are routed. -/
theorem rd_forAll_evtLevel {k : Nat} (hk : k < 10) (l : List Nat) (s : State) (hl : ∀ src ∈ l, src / 32 = k) (i : Nat) :
    (rd (forAll evtLevel l s) (R.EVT_PEND k)).getLsbD i =
      ((rd s (R.EVT_PEND k)).getLsbD i || l.any (fun src => i == src % 32 && standsRouted s src)) := by
  induction l generalizing s with
  | nil => simp [forAll]
  | cons x l ih =>
    have hx : x / 32 = k := hl x (by simp)
    have rest : ∀ src ∈ l, src / 32 = k := fun src h => hl src (List.mem_cons_of_mem x h)
    have stays : ∀ src ∈ l, standsRouted (evtLevel s x) src = standsRouted s src := fun src h =>
      standsRouted_congr (k := k) (by omega) (fun j hj => rd_evtLevel_ne s (by rw [hx]; exact hj)) (by simp)
        (by have := rest src h; omega)
    have first := rd_evtLevel_pend s x i
    rw [hx] at first
    have any : l.any (fun src => i == src % 32 && standsRouted (evtLevel s x) src) =
        l.any (fun src => i == src % 32 && standsRouted s src) := by
      rw [Bool.eq_iff_iff, List.any_eq_true, List.any_eq_true]
      exact exists_congr fun src => and_congr_right fun h => by rw [stays src h]
    have step : forAll evtLevel (x :: l) s = forAll evtLevel l (evtLevel s x) := rfl
    rw [step, ih _ rest, first, any, List.any_cons, Bool.or_assoc]
    rfl

/-- The sources of pending word `k`. -/
def pendSources (k : Nat) : List Nat := (upTo 32).map (fun i => k * 32 + i)

theorem pendSources_any (k : Nat) {i : Nat} (hi : i < 32) (f : Nat → Bool) :
    (pendSources k).any (fun src => i == src % 32 && f src) = f (32 * k + i) := by
  rw [Bool.eq_iff_iff, List.any_eq_true]
  constructor
  · rintro ⟨src, hsrc, h⟩
    obtain ⟨j, hj, rfl⟩ := List.mem_map.mp hsrc
    have lt := List.mem_range.mp hj
    rw [Bool.and_eq_true, beq_iff_eq] at h
    have e : k * 32 + j = 32 * k + i := by omega
    rw [← e]
    exact h.2
  · intro h
    refine ⟨k * 32 + i, List.mem_map.mpr ⟨i, List.mem_range.mpr hi, rfl⟩, ?_⟩
    have e : k * 32 + i = 32 * k + i := by omega
    have m : i = (32 * k + i) % 32 := by omega
    rw [e, h, ← m]
    simp

/-- The field table of EVT_PEND. -/
def evtPendDesc : RegDesc := ⟨0x600, [(10, 4)], .one, [⟨31, 0, .w1c, 0, [], 1⟩]⟩

theorem findReg_EVT_PEND : ∀ k : Fin 10, findReg 0x07 (0x600 + 4 * k.val) = some evtPendDesc := by decide

/-- The state after a write of EVT_PENDk: the bits written 1 clear, and the word's sources look at their levels. -/
def pendCleared (s : State) (k : Fin 10) (mask : Word) : State :=
  forAll evtLevel (pendSources k.val) (wr s (R.EVT_PEND k.val) (rd s (R.EVT_PEND k.val) &&& ~~~mask))

theorem acceptWrite_EVT_PEND {s : State} (q : Requester) (k : Fin 10) (mask : Word) :
    acceptWrite s q 0x07 (0x600 + 4 * k.val) evtPendDesc mask = (pendCleared s k mask, .none) := by
  have key : keyAt s 0x07 (0x600 + 4 * k.val) evtPendDesc = R.EVT_PEND k.val := rfl
  have word : writtenWord evtPendDesc (rd s (R.EVT_PEND k.val)) mask = rd s (R.EVT_PEND k.val) &&& ~~~mask := withBits_all _ _
  have act : startsAction 0x07 (0x600 + 4 * k.val) evtPendDesc = false := rfl
  have fn (u : State) : fnOfReg u 0x07 (0x600 + 4 * k.val) = none := by simp [fnOfReg, pageIn]
  have code : chapterCode s 0x07 (0x600 + 4 * k.val) mask = .none := by simp [chapterCode, fn, pageIn]
  have route : pageIn (0x600 + 4 * k.val) 0x100 0x5CC = false := by simp [pageIn]; omega
  have pend : pageIn (0x600 + 4 * k.val) 0x600 0x624 = true := pageIn_of_le (by omega) (by omega)
  have index : (0x600 + 4 * k.val - 0x600) / 4 = k.val := by omega
  refine acceptWrite_of_afterWrite (by decide) rfl code ?_
  simp only [key, word, act, afterWrite, fn, route, pend, index, Bool.false_eq_true, if_false, if_true]
  rfl

theorem tableCode_EVT_PEND {s : State} {k : Fin 10} {mask : Word} (ha : Awake s 0x07) (h : k.val = 9 → mask.toNat < 0x100000) (old : Word) :
    tableCode s 0x07 (0x600 + 4 * k.val) evtPendDesc old mask = .none := by
  have ext : extraReserved s 0x07 (0x600 + 4 * k.val) mask = false := by
    unfold extraReserved
    rw [if_pos rfl, Bool.and_eq_false_iff]
    by_cases last : k.val = 9
    · right
      have small := h last
      have zero : bits mask 31 20 = 0 := by
        rw [bits, natBits, Nat.shiftRight_eq_div_pow, Nat.div_eq_of_lt small, Nat.zero_mod]
      rw [zero]
      rfl
    · left
      rw [beq_eq_false_iff_ne]
      omega
  exact tableCode_none rfl (reservedSet_none rfl mask) ext (lockedChange_none rfl s _ _) rfl (domainRefuses_awake ha _ _ mask) rfl rfl

theorem exec_eventPendClear {s : State} {q : Requester} {k : Fin 10} {mask : Word} (hr : Reaches s q 0x07 (0x600 + 4 * k.val)) (ha : Awake s 0x07)
    (h : k.val = 9 → mask.toNat < 0x100000) : exec (.eventPendClear q k mask) s = .next (answer (pendCleared s k mask) .none) := by
  have write := (writeCommand_action hr ha rfl (by omega) rfl (findReg_EVT_PEND k) rfl (tableCode_EVT_PEND ha h _) rfl).1 _
    (acceptWrite_EVT_PEND q k mask)
  rw [forwardConfig_other rfl] at write
  exact congrArg Host.Outcome.next write

theorem regsAndEvents_pendCleared (s : State) (k : Fin 10) (mask : Word) : RegsAndEvents [] s (pendCleared s k mask) :=
  RegsAndEvents.trans ⟨rfl, fun _ _ h => rd_wr_ne s _ (h k.val)⟩ (regsAndEvents_forAll (regsAndEvents_evtLevel []) _ _)

/-- A pending bit stays that is not written 1 or whose source stands and is routed. -/
theorem rd_pendCleared (s : State) (k : Fin 10) (mask : Word) {i : Nat} (hi : i < 32) :
    (rd (pendCleared s k mask) (R.EVT_PEND k.val)).getLsbD i =
      (((rd s (R.EVT_PEND k.val)).getLsbD i && !mask.getLsbD i) || standsRouted s (32 * k.val + i)) := by
  have same : standsRouted (wr s (R.EVT_PEND k.val) (rd s (R.EVT_PEND k.val) &&& ~~~mask)) (32 * k.val + i) =
      standsRouted s (32 * k.val + i) :=
    standsRouted_congr (k := k.val) (by omega) (fun _ h => rd_wr_ne s _ h) rfl (by omega)
  have sources : ∀ src ∈ pendSources k.val, src / 32 = k.val := by
    intro src h
    obtain ⟨j, hj, rfl⟩ := List.mem_map.mp h
    have lt := List.mem_range.mp hj
    omega
  rw [pendCleared, rd_forAll_evtLevel k.isLt _ _ sources, pendSources_any _ hi, same, rd_wr, if_pos rfl]
  simp [hi]

/-! ## Clearing denial counters (R65) -/

/-- The field table of FLK_DENY_CLR. -/
def flkDenyClrDesc : RegDesc := ⟨0x1C0, [], .one, [⟨31, 0, .wo, 0, [], 1⟩]⟩

theorem findReg_FLK_DENY_CLR : findReg 0x31 0x1C0 = some flkDenyClrDesc := by decide

theorem FLK_DENY_inj {m n : Nat} (h : R.FLK_DENY m = R.FLK_DENY n) : m = n := by
  simp only [R.FLK_DENY, regKey] at h
  omega

/-- Clear the denial counter of a flask that a mask names. -/
def clearDenial (mask : Word) (s : State) (n : Nat) : State := if bit mask n then wr s (R.FLK_DENY n) 0 else s

theorem rd_clearDenial (mask : Word) (s : State) (n f : Nat) :
    rd (clearDenial mask s n) (R.FLK_DENY f) = if f = n ∧ bit mask n then 0 else rd s (R.FLK_DENY f) := by
  unfold clearDenial
  by_cases hb : bit mask n = true
  · by_cases hf : f = n
    · rw [if_pos hb, if_pos ⟨hf, hb⟩, hf, rd_wr, if_pos rfl]
    · rw [if_pos hb, if_neg (fun e => hf e.1), rd_wr_ne s _ (fun e => hf (FLK_DENY_inj e))]
  · rw [if_neg hb, if_neg (fun e => hb e.2)]

theorem rd_forAll_clearDenial (mask : Word) (l : List Nat) (s : State) (f : Nat) :
    rd (forAll (clearDenial mask) l s) (R.FLK_DENY f) = if f ∈ l ∧ bit mask f then 0 else rd s (R.FLK_DENY f) := by
  induction l generalizing s with
  | nil => simp [forAll]
  | cons n l ih =>
    have step : forAll (clearDenial mask) (n :: l) s = forAll (clearDenial mask) l (clearDenial mask s n) := rfl
    rw [step, ih, rd_clearDenial]
    by_cases hf : f = n
    · subst hf
      by_cases hb : bit mask f = true
      · simp [hb]
      · simp [hb]
    · simp [hf]

theorem onlyRegs_clearDenials (mask : Word) (s : State) :
    OnlyRegs ((upTo 32).map R.FLK_DENY) s (forAll (clearDenial mask) (upTo 32) s) := by
  refine onlyRegs_forAll (fun n hn u => ?_) s
  unfold clearDenial
  split
  · exact onlyRegs_wr u 0 (List.mem_map_of_mem hn)
  · exact OnlyRegs.refl _ u

theorem acceptWrite_FLK_DENY_CLR {s : State} (q : Requester) (mask : Word) :
    acceptWrite s q 0x31 0x1C0 flkDenyClrDesc mask =
      (forAll (clearDenial mask) (upTo 32) (actionState s R.FLK_DENY_CLR (pageDomain 0x31)), .none) := by
  have act : startsAction 0x31 0x1C0 flkDenyClrDesc = true := rfl
  refine acceptWrite_of_afterWrite (by decide) rfl rfl ?_
  rw [act]
  rfl

theorem tableCode_FLK_DENY_CLR {s : State} {mask : Word} (ha : Awake s 0x31) (old : Word) :
    tableCode s 0x31 0x1C0 flkDenyClrDesc old mask = .none :=
  tableCode_none rfl (reservedSet_none rfl mask) rfl (lockedChange_none rfl s _ _) rfl (domainRefuses_awake ha _ _ mask)
    (illegalField_none rfl mask) rfl

/-- The state after a write of FLK_DENY_CLR. -/
def denialsCleared (s : State) (mask : Word) : State :=
  answer (forwardConfig (forAll (clearDenial mask) (upTo 32) (actionState s R.FLK_DENY_CLR (pageDomain 0x31))) 0x31 0x1C0 mask) .none

theorem exec_flkDenyClear {s : State} {q : Requester} (mask : Word) (hr : Reaches s q 0x31 0x1C0) (ha : Awake s 0x31) :
    exec (.flkDenyClear q mask) s = .next (denialsCleared s mask) :=
  congrArg Host.Outcome.next ((writeCommand_action hr ha rfl (by decide) rfl findReg_FLK_DENY_CLR rfl (tableCode_FLK_DENY_CLR ha _) rfl).1 _
    (acceptWrite_FLK_DENY_CLR q mask))

theorem rd_denialsCleared {s : State} (mask : Word) (ha : Awake s 0x31) (f : Fin 32) :
    rd (denialsCleared s mask) (R.FLK_DENY f.val) = if mask.getLsbD f.val then 0 else rd s (R.FLK_DENY f.val) := by
  have named : (f.val ∈ upTo 32 ∧ bit mask f.val = true) = (mask.getLsbD f.val = true) :=
    propext ⟨fun h => h.2, fun h => ⟨List.mem_range.mpr f.isLt, h⟩⟩
  rw [denialsCleared, rd_answer, rd_forwardConfig, rd_forAll_clearDenial, (onlyRegs_actionState [] ha _).regs _ List.not_mem_nil]
  simp only [named]

theorem onlyRegs_denialsCleared {s : State} (mask : Word) (ha : Awake s 0x31) :
    OnlyRegs ((upTo 32).map R.FLK_DENY) s (denialsCleared s mask) :=
  (((onlyRegs_actionState _ ha _).trans (onlyRegs_clearDenials mask _)).trans (onlyRegs_forwardConfig _ _ _ _ _)).trans (onlyRegs_answer _ _ _)

/-! ## Clearing a task's counters (R85) -/

/-- The field table of SCN_TCLR. -/
def scnTclrDesc : RegDesc := ⟨0x40, [], .one, [⟨31, 31, .wo, 0, [], 1⟩, ⟨30, 6, .rsv, 0, [], 1⟩, ⟨5, 0, .wo, 0, [], 1⟩]⟩

theorem findReg_SCN_TCLR : findReg 0x38 0x40 = some scnTclrDesc := by decide

/-- The word that names one task: ALL is 0, and the reserved bits are. -/
theorem taskWord_bits : ∀ n : Fin 64, bit (BitVec.ofNat 32 n.val) 31 = false ∧ bits (BitVec.ofNat 32 n.val) 30 6 = 0 ∧
    bits (BitVec.ofNat 32 n.val) 5 0 = n.val := by decide

theorem acceptWrite_SCN_TCLR {s : State} (q : Requester) (n : Fin 64) :
    acceptWrite s q 0x38 0x40 scnTclrDesc (BitVec.ofNat 32 n.val) =
      (clearTaskCounters (actionState s R.SCN_TCLR (pageDomain 0x38)) n.val, .none) := by
  obtain ⟨one, -, task⟩ := taskWord_bits n
  have act : startsAction 0x38 0x40 scnTclrDesc = true := rfl
  have clear (u : State) : clearCounters u (BitVec.ofNat 32 n.val) = clearTaskCounters u n.val := by
    simp only [clearCounters, one, task, Bool.false_eq_true, if_false]
  refine acceptWrite_of_afterWrite (by decide) rfl rfl ?_
  rw [act, ← clear]
  rfl

theorem tableCode_SCN_TCLR {s : State} {n : Fin 64} (ha : Awake s 0x38) (old : Word) :
    tableCode s 0x38 0x40 scnTclrDesc old (BitVec.ofNat 32 n.val) = .none := by
  obtain ⟨-, reserved, -⟩ := taskWord_bits n
  have rsv : reservedSet scnTclrDesc (BitVec.ofNat 32 n.val) = false := by
    simp only [reservedSet, scnTclrDesc, List.any_cons, List.any_nil, reserved]
    rfl
  exact tableCode_none rfl rsv rfl (lockedChange_none rfl s _ _) rfl (domainRefuses_awake ha _ _ _) (illegalField_none rfl _) rfl

/-- The state after a write of SCN_TCLR that names task `n`. -/
def taskCleared (s : State) (n : Fin 64) : State :=
  answer (forwardConfig (clearTaskCounters (actionState s R.SCN_TCLR (pageDomain 0x38)) n.val) 0x38 0x40 (BitVec.ofNat 32 n.val)) .none

theorem exec_taskCounterClear {s : State} {q : Requester} (n : Fin 64) (hr : Reaches s q 0x38 0x40) (ha : Awake s 0x38) :
    exec (.taskCounterClear q (BitVec.ofNat 32 n.val)) s = .next (taskCleared s n) :=
  congrArg Host.Outcome.next ((writeCommand_action hr ha rfl (by decide) rfl findReg_SCN_TCLR rfl (tableCode_SCN_TCLR ha _) rfl).1 _
    (acceptWrite_SCN_TCLR q n))

theorem SCN_TSTAT_ne (t : Nat) : R.SCN_TSTAT t ≠ R.SCN_TOVR t ∧ R.SCN_TSTAT t ≠ R.SCN_TTIME t ∧ R.SCN_TTIME t ≠ R.SCN_TOVR t := by
  simp only [R.SCN_TSTAT, R.SCN_TOVR, R.SCN_TTIME, regKey]
  omega

/-- What a clear leaves in a task's counter registers: DROPPED and COALESCED, MAX_US, CONSEC and LAST_CAUSE at 0, and STATE as it was. -/
theorem clearTaskCounters_spec (s : State) (t : Nat) :
    rd (clearTaskCounters s t) (R.SCN_TOVR t) = 0 ∧ fld (clearTaskCounters s t) (R.SCN_TTIME t) F.SCN_TTIME_MAX_US = 0 ∧
    fld (clearTaskCounters s t) (R.SCN_TSTAT t) F.SCN_TSTAT_CONSEC = 0 ∧ fld (clearTaskCounters s t) (R.SCN_TSTAT t) F.SCN_TSTAT_LAST_CAUSE = 0 ∧
    taskStateOf (clearTaskCounters s t) t = taskStateOf s t := by
  obtain ⟨statOvr, statTime, timeOvr⟩ := SCN_TSTAT_ne t
  unfold clearTaskCounters
  dsimp only
  refine ⟨?_, ?_, ?_, ?_, ?_⟩
  · rw [rd_setFld_ne _ _ _ statOvr.symm, rd_setFld_ne _ _ _ statOvr.symm, rd_setFld_ne _ _ _ timeOvr.symm, rd_wr, if_pos rfl]
  · rw [fld_setFld_ne _ _ _ _ statTime.symm, fld_setFld_ne _ _ _ _ statTime.symm, fld_setFld_same _ _ _ _ (by decide) (by decide)]
    rfl
  · rw [fld_setFld_other _ _ _ _ _ (by decide) (by decide) (.inl (by decide)), fld_setFld_same _ _ _ _ (by decide) (by decide)]
    rfl
  · rw [fld_setFld_same _ _ _ _ (by decide) (by decide)]
    rfl
  · rw [taskStateOf, fld_setFld_other _ _ _ _ _ (by decide) (by decide) (.inr (by decide)),
      fld_setFld_other _ _ _ _ _ (by decide) (by decide) (.inr (by decide)), fld_setFld_ne _ _ _ _ statTime, fld_wr_ne _ _ _ statOvr]
    rfl

theorem onlyRegs_clearTaskCounters (s : State) (t : Nat) :
    OnlyRegs [R.SCN_TOVR t, R.SCN_TTIME t, R.SCN_TSTAT t] s (clearTaskCounters s t) :=
  (((onlyRegs_wr s _ (by simp)).trans (onlyRegs_setFld _ _ _ (by simp))).trans (onlyRegs_setFld _ _ _ (by simp))).trans
    (onlyRegs_setFld _ _ _ (by simp))

theorem onlyRegs_taskCleared {s : State} (n : Fin 64) (ha : Awake s 0x38) :
    OnlyRegs [R.SCN_TOVR n.val, R.SCN_TTIME n.val, R.SCN_TSTAT n.val] s (taskCleared s n) :=
  (((onlyRegs_actionState _ ha _).trans (onlyRegs_clearTaskCounters _ _)).trans (onlyRegs_forwardConfig _ _ _ _ _)).trans (onlyRegs_answer _ _ _)

theorem rd_taskCleared (s : State) (n : Fin 64) (k : Nat) :
    rd (taskCleared s n) k = rd (clearTaskCounters (actionState s R.SCN_TCLR (pageDomain 0x38)) n.val) k := by
  rw [taskCleared, rd_answer, rd_forwardConfig]

theorem fld_taskCleared (s : State) (n : Fin 64) (k : Nat) (f : Fld) :
    fld (taskCleared s n) k f = fld (clearTaskCounters (actionState s R.SCN_TCLR (pageDomain 0x38)) n.val) k f := by
  rw [fld, fld, rd_taskCleared]

theorem taskCleared_spec {s : State} (n : Fin 64) (ha : Awake s 0x38) :
    rd (taskCleared s n) (R.SCN_TOVR n.val) = 0 ∧ fld (taskCleared s n) (R.SCN_TTIME n.val) F.SCN_TTIME_MAX_US = 0 ∧
    fld (taskCleared s n) (R.SCN_TSTAT n.val) F.SCN_TSTAT_CONSEC = 0 ∧ fld (taskCleared s n) (R.SCN_TSTAT n.val) F.SCN_TSTAT_LAST_CAUSE = 0 ∧
    taskStateOf (taskCleared s n) n.val = taskStateOf s n.val := by
  obtain ⟨ovr, time, consec, cause, state⟩ := clearTaskCounters_spec (actionState s R.SCN_TCLR (pageDomain 0x38)) n.val
  have before : taskStateOf (actionState s R.SCN_TCLR (pageDomain 0x38)) n.val = taskStateOf s n.val := by
    rw [taskStateOf, fld, (onlyRegs_actionState [] ha _).regs _ List.not_mem_nil]
    rfl
  rw [rd_taskCleared, fld_taskCleared, fld_taskCleared, fld_taskCleared, taskStateOf, fld_taskCleared]
  exact ⟨ovr, time, consec, cause, state.trans before⟩

/-! ## Latency budgets (R466) -/

theorem pageDomain_lt (page : BitVec 8) : pageDomain page.toNat < 14 := by
  have all : ∀ p : Fin 256, pageDomain p.val < 14 := by decide +kernel
  exact all ⟨page.toNat, page.isLt⟩

/-- A budget that is given while the domain is in C0 moves no domain. -/
theorem latencyChanged_C0 {s : State} {page : Nat} (h : domC s (pageDomain page) = 0) : latencyChanged s page = s := by
  simp [latencyChanged, h]

theorem exec_latencyWrite {s : State} {q : Requester} {page : BitVec 8} {v : Word} (hr : Reaches s q page.toNat 0x18)
    (hp : (pageAlloc page.toNat).isSome) (hv : v.toNat < 0x1000000) (hc : domC s (pageDomain page.toNat) = 0) :
    exec (.latencyWrite q page v) s = .next (answer (forwardConfig (wr s (R.PG_LAT page.toNat) v) page.toNat 0x18 v) .none) := by
  have reserved : bits v 31 24 = 0 := by
    rw [bits, natBits, Nat.shiftRight_eq_div_pow, Nat.div_eq_of_lt hv, Nat.zero_mod]
  have key : R.PWR_DOMSTAT (pageDomain page.toNat) ≠ R.PG_LAT page.toNat := by
    have lt := pageDomain_lt page
    simp only [R.PWR_DOMSTAT, R.PG_LAT, regKey]
    omega
  have c0 : domC (wr s (R.PG_LAT page.toNat) v) (pageDomain page.toNat) = 0 := (fld_wr_ne s v _ key).trans hc
  have alloc : (pageAlloc page.toNat).isNone = false := by rw [Option.isNone_eq_false_iff]; exact hp
  have header : headerWrite s page.toNat 0x18 v = (wr s (R.PG_LAT page.toNat) v, .none) := by
    simp [headerWrite, reserved, latencyChanged_C0 c0]
  have lock : lockBarred q page.toNat 0x18 = false := by simp [lockBarred, pageIn]
  have write : writeCommand s q page.toNat 0x18 v = answer (forwardConfig (wr s (R.PG_LAT page.toNat) v) page.toNat 0x18 v) .none := by
    rw [writeCommand, gated_reaches hr]
    simp [lock, regWrite, alloc, header, endCommand]
  exact congrArg Host.Outcome.next write

/-- Settles O28: each clear and the budget by the state that its command leaves. -/
theorem clearsAndBudgetsTakeEffect : Obligations.ClearsAndBudgetsTakeEffect := by
  unfold Obligations.ClearsAndBudgetsTakeEffect
  intro s q
  refine ⟨fun k mask hr ha h => ?_, fun mask hr ha => ?_, fun n hr ha => ?_, fun page v hr hp hv hc => ?_⟩
  · refine ⟨_, exec_eventPendClear hr ha h, rfl, (regsAndEvents_pendCleared s k mask).trans (regsAndEvents_answer _ _ _), fun i => ?_⟩
    rw [rd_answer]
    exact rd_pendCleared s k mask i.isLt
  · exact ⟨_, exec_flkDenyClear mask hr ha, rd_denialsCleared mask ha, rfl, onlyRegs_denialsCleared mask ha⟩
  · obtain ⟨ovr, time, consec, cause, state⟩ := taskCleared_spec n ha
    exact ⟨_, exec_taskCounterClear n hr ha, ovr, time, consec, cause, state, rfl, onlyRegs_taskCleared n ha⟩
  · refine ⟨_, exec_latencyWrite hr hp hv hc, ?_, rfl, ?_⟩
    · rw [rd_answer, rd_forwardConfig, rd_wr, if_pos rfl]
    · exact ((onlyRegs_wr s v (by simp)).trans (onlyRegs_forwardConfig _ _ _ _ _)).trans (onlyRegs_answer _ _ _)

end Sys2Proof.Machine
end

section
/-! SUPPORT. Point records: rights (R46), what an update of one record or one force leaves of the others, and committed writes (R41, R58). -/

namespace Sys2Proof.Machine

open Sys2Proof.Safety

/-! ## Rights (R46) -/

theorem mayRead_iff (f : Fin 32) (p : Point) :
    mayRead f.val p = true ↔ f.val = 0 ∨ (p.alloc = true ∧ (p.owner.toNat = f.val ∨ p.readers.getLsbD f.val = true)) := by
  have reader : p.readers.toNat.testBit f.val = p.readers.getLsbD f.val := rfl
  rw [mayRead, reader, Bool.or_eq_true, Bool.and_eq_true, Bool.or_eq_true, beq_iff_eq, beq_iff_eq]

theorem mayWrite_iff (f : Nat) (p : Point) : mayWrite f p = true ↔ p.alloc = true ∧ p.owner.toNat = f := by
  rw [mayWrite, Bool.and_eq_true, beq_iff_eq]

/-- Settles O29: the two rights of R46, each by its definition. -/
theorem pointRightsAreTheOwnersAndReaders : Obligations.PointRightsAreTheOwnersAndReaders := by
  unfold Obligations.PointRightsAreTheOwnersAndReaders
  exact fun f p => ⟨mayRead_iff f p, mayWrite_iff f.val p⟩

/-! ## Records and force table entries -/

@[simp] theorem pointAt_setPoint_same (s : State) (n : Nat) (p : Point) : pointAt (setPoint s n p) n = p := tget_tput_same _ _ _

theorem pointAt_setPoint_ne (s : State) {n m : Nat} (p : Point) (h : m ≠ n) : pointAt (setPoint s n p) m = pointAt s m := tget_tput_ne _ _ h

theorem samePoints_of_points {s t : State} (h : t.points = s.points) : SamePoints s t := fun n => by rw [pointAt, pointAt, h]

theorem points_of_onlyRegs {ks : List Nat} {s t : State} (h : OnlyRegs ks s t) : t.points = s.points := by rw [h.rest]

theorem samePoints_of_onlyRegs {ks : List Nat} {s t : State} (h : OnlyRegs ks s t) : SamePoints s t := samePoints_of_points (points_of_onlyRegs h)

theorem sameBytes_of_onlyRegs {ks : List Nat} {s t : State} (h : OnlyRegs ks s t) : SameBytes s t := by
  intro a
  rw [h.rest]
  rfl

@[simp] theorem forceAt_setForce_same (s : State) (k : Nat) (e : Option Force) : forceAt (setForce s k e) k = e := tget_tput_same _ _ _

/-- A streamed record stands in the twin's data alone (R339). -/
theorem streamPoint_twin (s : State) (n : Nat) : ∃ w, streamPoint s n = { s with twin := w } := by
  unfold streamPoint
  dsimp only
  split
  · exact ⟨_, rfl⟩
  · exact ⟨s.twin, rfl⟩

/-- A mirrored change of the force table stands in the twin's data alone (R340). -/
theorem mirrorForce_twin (s : State) (op k : Nat) (e : Force) : ∃ w, mirrorForce s op k e = { s with twin := w } := by
  unfold mirrorForce
  split
  · exact ⟨_, rfl⟩
  · exact ⟨s.twin, rfl⟩

/-- A committed write replaces the record with SEQ one up (R41). -/
theorem commitPoint_twin (s : State) (n : Nat) (p : Point) :
    ∃ w, commitPoint s n p = { setPoint s n { p with seq := (pointAt s n).seq + 1 } with twin := w } :=
  streamPoint_twin _ n

/-! ## Writes that R46 allows (R42, R44, R58) -/

/-- What a write leaves of a record that no force holds. -/
def writtenRecord (p : Point) (v : DWord) (q : Byte) (ts : DWord) (src : BitVec 16) : Point :=
  { p with value := normalize p.dtype v, quality := q, tstamp := ts, source := src, seq := p.seq + 1 }

/-- What a write leaves of the entry that forces its record. -/
def absorbedWrite (e : Force) (dtype : Byte) (v : DWord) (q : Byte) (ts : DWord) (src : BitVec 16) : Force :=
  { e with uValue := normalize dtype v, uTstamp := ts, uQuality := q, uSource := src, written := true }

theorem writePoint_unforced {s : State} {n : Nat} (h : forceOn s n = none) (v : DWord) (q : Byte) (ts : DWord) (src : BitVec 16) :
    ∃ w, writePoint s n v q ts src = { setPoint s n (writtenRecord (pointAt s n) v q ts src) with twin := w } := by
  unfold writePoint
  rw [h]
  exact commitPoint_twin s n _

theorem writePoint_forced {s : State} {n k : Nat} {e : Force} (h : forceOn s n = some (k, e)) (v : DWord) (q : Byte) (ts : DWord)
    (src : BitVec 16) :
    ∃ w, writePoint s n v q ts src = { setForce s k (some (absorbedWrite e (pointAt s n).dtype v q ts src)) with twin := w } := by
  unfold writePoint
  rw [h]
  exact mirrorForce_twin _ 3 k _

/-! ## Counters that stop at FFFF_FFFFh -/

theorem toNat_satAdd_one (w : Word) : (BitVec.ofNat 32 (satAdd 32 w.toNat 1)).toNat = min 0xFFFFFFFF (w.toNat + 1) := by
  have lt := w.isLt
  rw [BitVec.toNat_ofNat, satAdd]
  split <;> omega

theorem rd_bumpSat_one (s : State) (k : Nat) : (rd (bumpSat s k 1) k).toNat = min 0xFFFFFFFF ((rd s k).toNat + 1) := by
  rw [bumpSat, rd_wr_same]
  exact toNat_satAdd_one _

theorem rd_deny_one (s : State) {f : Nat} (path target : Nat) (hf : f < 32) :
    (rd (deny s f path target) (R.FLK_DENY f)).toNat = min 0xFFFFFFFF ((rd s (R.FLK_DENY f)).toNat + 1) := by
  rw [rd_deny_count s path target hf]
  exact toNat_satAdd_one _

end Sys2Proof.Machine
end

section
/-! SUPPORT. The point directory window (R53 to R55, R344). -/

namespace Sys2Proof.Machine

open Sys2Proof.Safety

/-! ## Commands that reach the window -/

theorem exec_windowRecordRead {s : State} {q : Requester} (hq : ReachesWindow s q) (pid : BitVec 13) (w : Fin 8) :
    exec (.windowRecordRead q pid w) s = .next (windowRead s q pid w.val) :=
  congrArg Host.Outcome.next (served_reaches hq)

theorem exec_windowStageLow {s : State} {q : Requester} (hq : ReachesWindow s q) (pid : BitVec 13) (v : Word) :
    exec (.windowStageLow q pid v) s = .next (windowWrite s q pid 0 v) :=
  congrArg Host.Outcome.next (served_reaches hq)

theorem exec_windowStageQuality {s : State} {q : Requester} (hq : ReachesWindow s q) (pid : BitVec 13) (v : Word) :
    exec (.windowStageQuality q pid v) s = .next (windowWrite s q pid 5 v) :=
  congrArg Host.Outcome.next (served_reaches hq)

theorem exec_windowCommit {s : State} {q : Requester} (hq : ReachesWindow s q) (pid : BitVec 13) (v : Word) :
    exec (.windowCommit q pid v) s = .next (windowWrite s q pid 1 v) :=
  congrArg Host.Outcome.next (served_reaches hq)

/-! ## Reads (R54) -/

/-- The state after a record has been captured for a requester whose read of word 0 it answers. -/
def recordCaptured (s : State) (q : Requester) (pid : BitVec 13) : State :=
  { s with winHolds := { who := q, point := pid, copy := pointAt s pid.toNat } :: s.winHolds.filter (fun h => h.who != q)
           answer := { words := [(pointAt s pid.toNat).value.setWidth 32] } }

theorem windowRead_first {s : State} {q : Requester} {pid : BitVec 13} (h : mayRead (flaskOf s q) (pointAt s pid.toNat) = true) :
    windowRead s q pid 0 = recordCaptured s q pid := by
  simp only [windowRead, tryRead, h, if_true]
  rfl

/-- A read of word 0 that R46 refuses captures the null record and counts a denial. -/
theorem windowRead_denied {s : State} {q : Requester} {pid : BitVec 13} (h : mayRead (flaskOf s q) (pointAt s pid.toNat) = false) :
    windowRead s q pid 0 =
      let t := deny s (flaskOf s q) (windowPath q) pid.toNat
      { t with winHolds := { who := q, point := pid, copy := nullPoint } :: t.winHolds.filter (fun h => h.who != q)
               answer := { denied := true, words := [0] } } := by
  simp only [windowRead, tryRead, h, if_true, Bool.false_eq_true, if_false]
  rfl

/-- The other words come from the copy that the requester has captured. -/
theorem windowRead_captured (s : State) (q : Requester) (pid : BitVec 13) {w : Nat} (h : w ≠ 0) :
    windowRead (recordCaptured s q pid) q pid w =
      { recordCaptured s q pid with answer := { words := [(recordWords (pointAt s pid.toNat)).getD w 0] } } := by
  rw [windowRead, if_neg h]
  simp only [recordCaptured, List.find?_cons, beq_self_eq_true, Bool.and_self]

theorem reachesWindow_recordCaptured {s : State} {q : Requester} (hq : ReachesWindow s q) (pid : BitVec 13) :
    ReachesWindow (recordCaptured s q pid) q := hq

/-! ## Stages (R55) -/

theorem windowStage_of_own (s : State) (q : Requester) (pid : BitVec 13) :
    (windowStage s q pid).who = q ∧ (windowStage s q pid).point = pid := by
  unfold windowStage
  split
  next st h =>
    have own := List.find?_some h
    rwa [Bool.and_eq_true, beq_iff_eq, beq_iff_eq] at own
  next => exact ⟨rfl, rfl⟩

theorem windowStage_setStage_some (s : State) {q : Requester} {pid : BitVec 13} {st : WinStage} (own : st.who = q ∧ st.point = pid) :
    windowStage (setStage s q (some st)) q pid = st := by
  obtain ⟨rfl, rfl⟩ := own
  simp only [windowStage, setStage, List.cons_append, List.find?_cons, beq_self_eq_true, Bool.and_self]

theorem windowStage_setStage_none (s : State) (q : Requester) (pid : BitVec 13) :
    windowStage (setStage s q none) q pid = { who := q, point := pid, low := none, quality := none } := by
  have gone : (s.winStages.filter (fun h => h.who != q)).find? (fun h => h.who == q && h.point == pid) = none := by
    rw [List.find?_eq_none]
    intro st hst
    have other : st.who ≠ q := by simpa using (List.mem_filter.mp hst).2
    simp [other]
  simp only [windowStage, setStage, List.nil_append, gone]

theorem windowWrite_low (s : State) (q : Requester) (pid : BitVec 13) (v : Word) :
    windowWrite s q pid 0 v = setStage { s with answer := {} } q (some { windowStage s q pid with low := some v }) := rfl

theorem windowWrite_quality (s : State) (q : Requester) (pid : BitVec 13) (v : Word) :
    windowWrite s q pid 5 v = if writerQuality (v.setWidth 8)
      then setStage { s with answer := {} } q (some { windowStage s q pid with quality := some (v.setWidth 8) }) else { s with answer := {} } := rfl

/-! ## Commits (R55, R58, R344) -/

/-- The write that a commit makes: the high half with the low half staged, and the quality staged. -/
def commitWrite (s : State) (q : Requester) (pid : BitVec 13) (v : Word) : State × Bool :=
  tryWrite { s with answer := {} } (flaskOf s q) (windowPath q) pid.toNat (v ++ (windowStage s q pid).low.getD 0)
    ((windowStage s q pid).quality.getD 0) s.now (windowSource q)

/-- The state after a commit's write: the requester's stage is gone. -/
def commitEnd (q : Requester) (r : State × Bool) : State := { setStage r.1 q none with answer := { denied := !r.2 } }

theorem windowWrite_high (s : State) (q : Requester) (pid : BitVec 13) (v : Word) :
    windowWrite s q pid 1 v = commitEnd q (commitWrite s q pid v) := rfl

theorem commitWrite_standby {s : State} {q : Requester} {pid : BitVec 13} {v : Word} (h : onStandby s = true) :
    commitWrite s q pid v = (bumpSat { s with answer := {} } R.MIR_LOCALW 1, true) := if_pos h

theorem commitWrite_denied {s : State} {q : Requester} {pid : BitVec 13} {v : Word} (h : onStandby s = false)
    (hw : mayWrite (flaskOf s q) (pointAt s pid.toNat) = false) :
    commitWrite s q pid v = (deny { s with answer := {} } (flaskOf s q) (windowPath q) pid.toNat, false) :=
  (if_neg (ne_true_of_eq_false h)).trans (if_neg (ne_true_of_eq_false hw))

theorem commitWrite_allowed {s : State} {q : Requester} {pid : BitVec 13} {v : Word} (h : onStandby s = false)
    (hw : mayWrite (flaskOf s q) (pointAt s pid.toNat) = true) :
    commitWrite s q pid v = (writePoint { s with answer := {} } pid.toNat (v ++ (windowStage s q pid).low.getD 0)
      ((windowStage s q pid).quality.getD 0) s.now (windowSource q), true) :=
  (if_neg (ne_true_of_eq_false h)).trans (if_pos hw)

/-! ## The window's obligation, clause by clause -/

/-- A record that R46 opens is answered, and its requester's reads of the other words give the copy captured. -/
theorem exec_windowRecordRead_open {s : State} {q : Requester} {pid : BitVec 13} (hq : ReachesWindow s q)
    (h : mayRead (flaskOf s q) (pointAt s pid.toNat) = true) :
    exec (.windowRecordRead q pid 0) s = .next (recordCaptured s q pid) ∧
    ∀ w : Fin 8, w.val ≠ 0 → exec (.windowRecordRead q pid w) (recordCaptured s q pid) =
      .next { recordCaptured s q pid with answer := { words := [(recordWords (pointAt s pid.toNat)).getD w.val 0] } } := by
  constructor
  · exact (exec_windowRecordRead hq pid 0).trans (congrArg _ (windowRead_first h))
  · intro w hw
    rw [exec_windowRecordRead (reachesWindow_recordCaptured hq pid), windowRead_captured s q pid hw]

/-- A record that R46 closes reads as the null record, and the denial is counted. -/
theorem exec_windowRecordRead_closed {s : State} {q : Requester} {pid : BitVec 13} (hq : ReachesWindow s q)
    (h : mayRead (flaskOf s q) (pointAt s pid.toNat) = false) :
    ∃ t, exec (.windowRecordRead q pid 0) s = .next t ∧ t.answer = { denied := true, words := [0] } ∧
      (rd t (R.FLK_DENY (flaskOf s q))).toNat = min 0xFFFFFFFF ((rd s (R.FLK_DENY (flaskOf s q))).toNat + 1) ∧ SamePoints s t := by
  refine ⟨_, (exec_windowRecordRead hq pid 0).trans (congrArg _ (windowRead_denied h)), rfl, ?_, ?_⟩
  · exact rd_deny_one s _ _ (flaskOf_lt s q)
  · exact samePoints_of_points (deny_points s _ _ _)

theorem exec_windowCommit_write {s : State} {q : Requester} {pid : BitVec 13} {v : Word} {r : State × Bool} (hq : ReachesWindow s q)
    (h : commitWrite s q pid v = r) : exec (.windowCommit q pid v) s = .next (commitEnd q r) := by
  rw [exec_windowCommit hq, windowWrite_high, h]

/-- A commit to a record that no force holds replaces it (R41, R55). -/
theorem exec_windowCommit_unforced {s : State} {q : Requester} {pid : BitVec 13} (v : Word) (hq : ReachesWindow s q) (hs : onStandby s = false)
    (hw : mayWrite (flaskOf s q) (pointAt s pid.toNat) = true) (hf : forceOn s pid.toNat = none) :
    ∃ t, exec (.windowCommit q pid v) s = .next t ∧
      pointAt t pid.toNat = writtenRecord (pointAt s pid.toNat) (v ++ (windowStage s q pid).low.getD 0)
        ((windowStage s q pid).quality.getD 0) s.now (windowSource q) ∧
      (∀ n, n ≠ pid.toNat → pointAt t n = pointAt s n) ∧ windowStage t q pid = { who := q, point := pid, low := none, quality := none } ∧
      t = { s with points := t.points, winStages := t.winStages, twin := t.twin, answer := {} } := by
  have unforced : forceOn { s with answer := {} } pid.toNat = none := hf
  obtain ⟨w, written⟩ := writePoint_unforced unforced (v ++ (windowStage s q pid).low.getD 0) ((windowStage s q pid).quality.getD 0) s.now
    (windowSource q)
  refine ⟨_, exec_windowCommit_write hq ((commitWrite_allowed hs hw).trans (by rw [written])), ?_, fun n hn => ?_, ?_, rfl⟩
  · exact pointAt_setPoint_same s pid.toNat _
  · exact pointAt_setPoint_ne s _ hn
  · exact windowStage_setStage_none _ q pid

/-- A commit to a forced record goes into what lies under the force (R58). -/
theorem exec_windowCommit_forced {s : State} {q : Requester} {pid : BitVec 13} {k : Nat} {e : Force} (v : Word) (hq : ReachesWindow s q)
    (hs : onStandby s = false) (hw : mayWrite (flaskOf s q) (pointAt s pid.toNat) = true) (hf : forceOn s pid.toNat = some (k, e)) :
    ∃ t, exec (.windowCommit q pid v) s = .next t ∧ SamePoints s t ∧
      forceAt t k = some (absorbedWrite e (pointAt s pid.toNat).dtype (v ++ (windowStage s q pid).low.getD 0)
        ((windowStage s q pid).quality.getD 0) s.now (windowSource q)) ∧
      t = { s with forces := t.forces, winStages := t.winStages, twin := t.twin, answer := {} } := by
  have forced : forceOn { s with answer := {} } pid.toNat = some (k, e) := hf
  obtain ⟨w, written⟩ := writePoint_forced forced (v ++ (windowStage s q pid).low.getD 0) ((windowStage s q pid).quality.getD 0) s.now
    (windowSource q)
  refine ⟨_, exec_windowCommit_write hq ((commitWrite_allowed hs hw).trans (by rw [written])), samePoints_of_points rfl, ?_, rfl⟩
  exact forceAt_setForce_same s k _

/-- A commit that R46 refuses is a counted denial. -/
theorem exec_windowCommit_denied {s : State} {q : Requester} {pid : BitVec 13} (v : Word) (hq : ReachesWindow s q) (hs : onStandby s = false)
    (hw : mayWrite (flaskOf s q) (pointAt s pid.toNat) = false) :
    ∃ t, exec (.windowCommit q pid v) s = .next t ∧ t.answer = { denied := true } ∧ SamePoints s t ∧
      (rd t (R.FLK_DENY (flaskOf s q))).toNat = min 0xFFFFFFFF ((rd s (R.FLK_DENY (flaskOf s q))).toNat + 1) := by
  refine ⟨_, exec_windowCommit_write hq (commitWrite_denied hs hw), rfl, ?_, ?_⟩
  · exact samePoints_of_points (deny_points _ _ _ _)
  · exact rd_deny_one { s with answer := {} } _ _ (flaskOf_lt s q)

/-- On a standby a commit is discarded and counted (R344). -/
theorem exec_windowCommit_standby {s : State} {q : Requester} (pid : BitVec 13) (v : Word) (hq : ReachesWindow s q) (hs : onStandby s = true) :
    ∃ t, exec (.windowCommit q pid v) s = .next t ∧ SamePoints s t ∧
      (rd t R.MIR_LOCALW).toNat = min 0xFFFFFFFF ((rd s R.MIR_LOCALW).toNat + 1) ∧ SameRegs [R.MIR_LOCALW] s t := by
  refine ⟨_, exec_windowCommit_write hq (commitWrite_standby hs), samePoints_of_points rfl, ?_, ?_⟩
  · exact rd_bumpSat_one s R.MIR_LOCALW
  · exact (onlyRegs_wr s _ List.mem_cons_self).regs

/-- Settles O30: reads and stages by the state they leave, and a commit by where its write goes. -/
theorem windowReadsAndCommitsWholeRecords : Obligations.WindowReadsAndCommitsWholeRecords := by
  unfold Obligations.WindowReadsAndCommitsWholeRecords
  intro s q pid hq
  dsimp only
  have own := windowStage_of_own s q pid
  refine ⟨fun h => ?_, exec_windowRecordRead_closed hq, fun v => ?_, fun v h => ?_, fun v h => ?_, fun v => ⟨?_, fun k e => ?_, ?_, ?_⟩⟩
  · obtain ⟨first, others⟩ := exec_windowRecordRead_open hq h
    exact ⟨_, first, rfl, rfl, others⟩
  · have stage : windowStage (windowWrite s q pid 0 v) q pid = { windowStage s q pid with low := some v } :=
      windowStage_setStage_some _ own
    exact ⟨_, exec_windowStageLow hq pid v, by rw [stage], by rw [stage], rfl⟩
  · have stage := windowStage_setStage_some { s with answer := {} } (st := { windowStage s q pid with quality := some (v.setWidth 8) }) own
    refine ⟨_, (exec_windowStageQuality hq pid v).trans (congrArg _ ((windowWrite_quality s q pid v).trans (if_pos h))), ?_, ?_, rfl⟩
    · rw [stage]
    · rw [stage]
  · rw [exec_windowStageQuality hq, windowWrite_quality, if_neg (ne_true_of_eq_false h)]
  · exact exec_windowCommit_unforced v hq
  · exact exec_windowCommit_forced v hq
  · exact exec_windowCommit_denied v hq
  · exact exec_windowCommit_standby pid v hq

end Sys2Proof.Machine
end

section
/-! SUPPORT. Administration of records by PTD_CMD (R62). -/

namespace Sys2Proof.Machine

open Sys2Proof.Safety

/-! ## The path of a write of PTD_CMD -/

/-- The field table of PTD_CMD. -/
def ptdCmdDesc : RegDesc := ⟨0x4C, [], .one, [⟨31, 3, .rsv, 0, [], 1⟩, ⟨2, 0, .wo, 0, [(0x1, 0x4)], 1⟩]⟩

theorem findReg_PTD_CMD : findReg 0x30 0x4C = some ptdCmdDesc := by decide

/-- The word that gives PTD_CMD one of its operations breaks no field of it. -/
theorem ptdCmdWord_fields : ∀ op : Fin 5, op ≠ 0 → reservedSet ptdCmdDesc (BitVec.ofNat 32 op.val) = false ∧
    illegalField ptdCmdDesc (BitVec.ofNat 32 op.val) = false ∧ bits (BitVec.ofNat 32 op.val) 2 0 = op.val := by decide

theorem tableCode_PTD_CMD {s : State} {op : Fin 5} (ha : Awake s 0x30) (h : op ≠ 0) (old : Word) :
    tableCode s 0x30 0x4C ptdCmdDesc old (BitVec.ofNat 32 op.val) = .none := by
  obtain ⟨rsv, ill, -⟩ := ptdCmdWord_fields op h
  exact tableCode_none rfl rsv rfl (lockedChange_none rfl s _ _) rfl (domainRefuses_awake ha _ _ _) ill rfl

/-- The state in which PTD_CMD runs its operation. -/
def ptdActive (s : State) : State := actionState s R.PTD_CMD (pageDomain 0x30)

theorem onlyRegs_ptdActive {s : State} (ha : Awake s 0x30) (ks : List Nat) : OnlyRegs ks s (ptdActive s) := onlyRegs_actionState ks ha _

theorem afterWrite_PTD_CMD (s : State) (q : Requester) (old v : Word) : afterWrite s q 0x30 0x4C old v = ptdCommand s (bits v 2 0) := rfl

/-- A write of PTD_CMD runs its operation; one that is turned away leaves PTD_CMD as it was. -/
theorem acceptWrite_PTD_CMD (s : State) (q : Requester) {op : Fin 5} (h : op ≠ 0) :
    acceptWrite s q 0x30 0x4C ptdCmdDesc (BitVec.ofNat 32 op.val) =
      (let r := ptdCommand (ptdActive s) op.val
       if r.2 = .none then r else (wr r.1 R.PTD_CMD (rd s R.PTD_CMD), r.2)) := by
  obtain ⟨-, -, code⟩ := ptdCmdWord_fields op h
  have act : startsAction 0x30 0x4C ptdCmdDesc = true := rfl
  unfold acceptWrite
  dsimp only
  rw [act]
  simp only [afterWrite_PTD_CMD, code]
  rfl

/-- An operation of PTD_CMD that is done. -/
theorem writeCommand_PTD_CMD_done {s r : State} {q : Requester} {op : Fin 5} (hr : Reaches s q 0x30 0x4C) (ha : Awake s 0x30) (h : op ≠ 0)
    (done : ptdCommand (ptdActive s) op.val = (r, .none)) :
    writeCommand s q 0x30 0x4C (BitVec.ofNat 32 op.val) = answer (forwardConfig r 0x30 0x4C (BitVec.ofNat 32 op.val)) .none := by
  refine (writeCommand_action hr ha rfl (by decide) rfl findReg_PTD_CMD rfl (tableCode_PTD_CMD ha h _) rfl).1 r ?_
  rw [acceptWrite_PTD_CMD s q h, done]
  rfl

/-- An operation of PTD_CMD that is turned away. -/
theorem writeCommand_PTD_CMD_refused {s r : State} {q : Requester} {op : Fin 5} {c : Code} (hr : Reaches s q 0x30 0x4C) (ha : Awake s 0x30)
    (h : op ≠ 0) (hc : c ≠ .none) (refused : ptdCommand (ptdActive s) op.val = (r, c)) :
    writeCommand s q 0x30 0x4C (BitVec.ofNat 32 op.val) = rejectWrite (wr r R.PTD_CMD (rd s R.PTD_CMD)) 0x30 0x4C c := by
  refine (writeCommand_action hr ha rfl (by decide) rfl findReg_PTD_CMD rfl (tableCode_PTD_CMD ha h _) rfl).2 _ c hc ?_
  rw [acceptWrite_PTD_CMD s q h, refused]
  exact if_neg hc

/-! ## What the state of the command shares with the one before -/

theorem points_ptdActive {s : State} (ha : Awake s 0x30) : (ptdActive s).points = s.points := points_of_onlyRegs (onlyRegs_ptdActive ha [])

theorem pointAt_ptdActive {s : State} (ha : Awake s 0x30) : SamePoints s (ptdActive s) := samePoints_of_onlyRegs (onlyRegs_ptdActive ha [])

theorem now_ptdActive {s : State} (ha : Awake s 0x30) : (ptdActive s).now = s.now := by rw [(onlyRegs_ptdActive ha []).rest]

theorem rd_ptdActive {s : State} (ha : Awake s 0x30) (k : Nat) : rd (ptdActive s) k = rd s k :=
  (onlyRegs_ptdActive ha []).regs k List.not_mem_nil

theorem fld_ptdActive {s : State} (ha : Awake s 0x30) (k : Nat) (f : Fld) : fld (ptdActive s) k f = fld s k f := by
  rw [fld, rd_ptdActive ha]
  rfl

/-- The check of ALLOC and UPDATE looks at the flasks' registers and at the directory alone. -/
theorem attrCheck_ptdActive {s : State} (ha : Awake s 0x30) (owner dtype : Nat) (grows : Bool) :
    attrCheck (ptdActive s) owner dtype grows = attrCheck s owner dtype grows := by
  have enabled : flaskEnabled (ptdActive s) owner = flaskEnabled s owner := by rw [flaskEnabled, flag, fld_ptdActive ha]; rfl
  have owned : ownedBy (ptdActive s) owner = ownedBy s owner := by rw [ownedBy, points_ptdActive ha]; rfl
  rw [attrCheck, enabled, owned, fld_ptdActive ha]
  rfl

/-! ## A record replaced -/

/-- A record has been put at a point, and PTD_ATTR shows whether it is allocated. -/
def recordPut (s : State) (n : Nat) (p : Point) : State := setFld (setPoint s n p) R.PTD_ATTR F.PTD_ATTR_ALLOC (b2n p.alloc)

/-- The same, as it stands when PTD_CMD has ended. -/
def ptdChanged (s : State) (n : Nat) (p : Point) (op : Fin 5) : State :=
  answer (forwardConfig (recordPut (ptdActive s) n p) 0x30 0x4C (BitVec.ofNat 32 op.val)) .none

/-- What PTD_CMD leaves when it has put a record. -/
theorem ptdChanged_spec {s : State} (ha : Awake s 0x30) (n : Nat) (p : Point) (op : Fin 5) :
    Accepted (ptdChanged s n p op) ∧ pointAt (ptdChanged s n p op) n = p ∧ (∀ m, m ≠ n → pointAt (ptdChanged s n p op) m = pointAt s m) ∧
      flag (ptdChanged s n p op) R.PTD_ATTR F.PTD_ATTR_ALLOC = p.alloc ∧ SameRegs [R.PTD_ATTR] s (ptdChanged s n p op) ∧
      SameBytes s (ptdChanged s n p op) := by
  have ended : OnlyRegs [R.PTD_ATTR] (setPoint (ptdActive s) n p) (ptdChanged s n p op) :=
    ((onlyRegs_setFld _ _ _ List.mem_cons_self).trans (onlyRegs_forwardConfig _ _ _ _ _)).trans (onlyRegs_answer _ _ _)
  have records (m : Nat) : pointAt (ptdChanged s n p op) m = pointAt (setPoint (ptdActive s) n p) m :=
    samePoints_of_onlyRegs ended m
  have shown : flag (ptdChanged s n p op) R.PTD_ATTR F.PTD_ATTR_ALLOC = (fld (recordPut (ptdActive s) n p) R.PTD_ATTR F.PTD_ATTR_ALLOC != 0) := by
    rw [flag, fld, ptdChanged, rd_answer, rd_forwardConfig]
    rfl
  refine ⟨rfl, ?_, fun m hm => ?_, ?_, ?_, ?_⟩
  · rw [records, pointAt_setPoint_same]
  · rw [records, pointAt_setPoint_ne _ _ hm, pointAt_ptdActive ha]
  · rw [shown, recordPut, fld_setFld_same _ _ _ _ (by decide) (by decide)]
    cases p.alloc <;> rfl
  · exact (onlyRegs_ptdActive ha _).regs.trans ended.regs
  · exact fun a => (sameBytes_of_onlyRegs ended a).trans (sameBytes_of_onlyRegs (onlyRegs_ptdActive ha []) a)

/-- An operation that ends by putting a record, as its requester meets it. -/
theorem writeCommand_PTD_CMD_put {s : State} {q : Requester} {op : Fin 5} {n : Nat} {p : Point} (hr : Reaches s q 0x30 0x4C) (ha : Awake s 0x30)
    (h : op ≠ 0) (put : ptdCommand (ptdActive s) op.val = (recordPut (ptdActive s) n p, .none)) :
    writeCommand s q 0x30 0x4C (BitVec.ofNat 32 op.val) = ptdChanged s n p op := writeCommand_PTD_CMD_done hr ha h put

/-! ## The operations -/

/-- The point that PTD_SEL selects, and its record. -/
abbrev selectedPoint (s : State) : Nat := fld s R.PTD_SEL F.PTD_SEL_POINT
abbrev selectedRecord (s : State) : Point := pointAt s (selectedPoint s)

/-- The check of the owner and the data type that the page gives. -/
abbrev attrCode (s : State) (grows : Bool) : Code :=
  attrCheck s (fld s R.PTD_ATTR F.PTD_ATTR_OWNER) (fld s R.PTD_ATTR F.PTD_ATTR_DTYPE) grows

theorem selectedPoint_ptdActive {s : State} (ha : Awake s 0x30) : selectedPoint (ptdActive s) = selectedPoint s := fld_ptdActive ha _ _

theorem selectedRecord_ptdActive {s : State} (ha : Awake s 0x30) : selectedRecord (ptdActive s) = selectedRecord s := by
  rw [selectedRecord, selectedPoint_ptdActive ha, pointAt_ptdActive ha]

theorem attrCode_ptdActive {s : State} (ha : Awake s 0x30) (grows : Bool) : attrCode (ptdActive s) grows = attrCode s grows := by
  rw [attrCode, fld_ptdActive ha, fld_ptdActive ha, attrCheck_ptdActive ha]

/-- The record that ALLOC and UPDATE are to give the selected point, with the page's attributes over a record. -/
def withAttributes (s : State) (p : Point) : Point :=
  { p with readers := rd s R.PTD_READERS, dtype := BitVec.ofNat 8 (fld s R.PTD_ATTR F.PTD_ATTR_DTYPE)
           owner := BitVec.ofNat 5 (fld s R.PTD_ATTR F.PTD_ATTR_OWNER) }

theorem withAttributes_ptdActive {s : State} (ha : Awake s 0x30) (p : Point) : withAttributes (ptdActive s) p = withAttributes s p := by
  simp only [withAttributes, rd_ptdActive ha, fld_ptdActive ha]

/-- ALLOC makes a free record the owner's, with value 0, QUALITY INIT and the present time (R62). -/
theorem ptdCommand_alloc {s : State} (free : (selectedRecord s).alloc = false) (check : attrCode s true = .none) :
    ptdCommand s 1 = (recordPut s (selectedPoint s) (withAttributes s { alloc := true, tstamp := s.now }), .none) := by
  simp only [ptdCommand, ptdAlloc, free, check, if_true, if_false, Bool.false_eq_true, pointAt_setPoint_same, recordPut, withAttributes]

/-- ALLOC turns an allocated record away. -/
theorem ptdCommand_alloc_taken {s : State} (taken : (selectedRecord s).alloc = true) : ptdCommand s 1 = (s, .notInState) := by
  simp only [ptdCommand, ptdAlloc, taken, if_true, reduceCtorEq, if_false]

theorem ptdCommand_free {s : State} (taken : (selectedRecord s).alloc = true) (unforced : (selectedRecord s).forced = false) :
    ptdCommand s 2 = (recordPut s (selectedPoint s) nullPoint, .none) := by
  simp only [ptdCommand, ptdFree, taken, unforced, Bool.not_true, Bool.or_self, OfNat.ofNat_ne_one, if_true, if_false, Bool.false_eq_true,
    pointAt_setPoint_same, recordPut]

theorem ptdCommand_update {s : State} (taken : (selectedRecord s).alloc = true) (unforced : (selectedRecord s).forced = false)
    (check : attrCode s ((selectedRecord s).owner.toNat != fld s R.PTD_ATTR F.PTD_ATTR_OWNER) = .none) :
    ptdCommand s 4 = (recordPut s (selectedPoint s) (withAttributes s (selectedRecord s)), .none) := by
  simp only [ptdCommand, ptdUpdate, taken, unforced, check, Bool.not_true, Bool.false_and, Bool.or_self, Nat.reduceEqDiff, if_true, if_false,
    Bool.false_eq_true, pointAt_setPoint_same, recordPut, withAttributes]

/-- The word that shows a record's attributes in PTD_ATTR. -/
def attrWord (p : Point) : Word := BitVec.ofNat 32 (b2n p.alloc * 2 ^ 31 + p.owner.toNat * 2 ^ 16 + p.dtype.toNat * 2 ^ 8)

theorem ptdCommand_load (s : State) : ptdCommand s 3 =
    (wr (wr s R.PTD_ATTR (attrWord (selectedRecord s))) R.PTD_READERS (selectedRecord s).readers, .none) := rfl

/-- The fields of the word are the record's attributes. -/
theorem bits_attrWord (p : Point) : bits (attrWord p) 20 16 = p.owner.toNat ∧ bits (attrWord p) 15 8 = p.dtype.toNat ∧
    (bits (attrWord p) 31 31 != 0) = p.alloc := by
  have owner := p.owner.isLt
  have dtype := p.dtype.isLt
  have alloc : b2n p.alloc < 2 := by cases p.alloc <;> decide
  have word : (attrWord p).toNat = b2n p.alloc * 2 ^ 31 + p.owner.toNat * 2 ^ 16 + p.dtype.toNat * 2 ^ 8 := by
    rw [attrWord, BitVec.toNat_ofNat]
    omega
  simp only [bits, natBits, word, Nat.shiftRight_eq_div_pow]
  refine ⟨by omega, by omega, ?_⟩
  have top : (b2n p.alloc * 2 ^ 31 + p.owner.toNat * 2 ^ 16 + p.dtype.toNat * 2 ^ 8) / 2 ^ 31 % 2 ^ (31 + 1 - 31) = b2n p.alloc := by omega
  rw [top]
  cases p.alloc <;> rfl

/-! ## The commands -/

theorem exec_ptdAlloc {s : State} {q : Requester} (hr : Reaches s q 0x30 0x4C) (ha : Awake s 0x30)
    (free : (selectedRecord s).alloc = false) (check : attrCode s true = .none) :
    exec (.ptdAlloc q) s = .next (ptdChanged s (selectedPoint s) (withAttributes s { alloc := true, tstamp := s.now }) 1) := by
  have run : ptdCommand (ptdActive s) 1 = (recordPut (ptdActive s) (selectedPoint s)
      (withAttributes s { alloc := true, tstamp := s.now }), .none) := by
    rw [ptdCommand_alloc (by rwa [selectedRecord_ptdActive ha]) (by rwa [attrCode_ptdActive ha]),
      selectedPoint_ptdActive ha, withAttributes_ptdActive ha, now_ptdActive ha]
  exact congrArg Host.Outcome.next (writeCommand_PTD_CMD_put (op := 1) hr ha (by decide) run)

theorem exec_ptdFree {s : State} {q : Requester} (hr : Reaches s q 0x30 0x4C) (ha : Awake s 0x30)
    (taken : (selectedRecord s).alloc = true) (unforced : (selectedRecord s).forced = false) :
    exec (.ptdFree q) s = .next (ptdChanged s (selectedPoint s) nullPoint 2) := by
  have run : ptdCommand (ptdActive s) 2 = (recordPut (ptdActive s) (selectedPoint s) nullPoint, .none) := by
    rw [ptdCommand_free (by rwa [selectedRecord_ptdActive ha]) (by rwa [selectedRecord_ptdActive ha]), selectedPoint_ptdActive ha]
  exact congrArg Host.Outcome.next (writeCommand_PTD_CMD_put (op := 2) hr ha (by decide) run)

theorem exec_ptdUpdate {s : State} {q : Requester} (hr : Reaches s q 0x30 0x4C) (ha : Awake s 0x30)
    (taken : (selectedRecord s).alloc = true) (unforced : (selectedRecord s).forced = false)
    (check : attrCode s ((selectedRecord s).owner.toNat != fld s R.PTD_ATTR F.PTD_ATTR_OWNER) = .none) :
    exec (.ptdUpdate q) s = .next (ptdChanged s (selectedPoint s) (withAttributes s (selectedRecord s)) 4) := by
  have run : ptdCommand (ptdActive s) 4 = (recordPut (ptdActive s) (selectedPoint s) (withAttributes s (selectedRecord s)), .none) := by
    rw [ptdCommand_update (by rwa [selectedRecord_ptdActive ha]) (by rwa [selectedRecord_ptdActive ha])
      (by rwa [selectedRecord_ptdActive ha, fld_ptdActive ha, attrCode_ptdActive ha]), selectedPoint_ptdActive ha, selectedRecord_ptdActive ha,
      withAttributes_ptdActive ha]
  exact congrArg Host.Outcome.next (writeCommand_PTD_CMD_put (op := 4) hr ha (by decide) run)

/-- LOAD shows the selected record's attributes, whether it is allocated or not, and changes nothing else. -/
theorem exec_ptdLoad {s : State} {q : Requester} (hr : Reaches s q 0x30 0x4C) (ha : Awake s 0x30) :
    ∃ t, exec (.ptdLoad q) s = .next t ∧ Accepted t ∧ rd t R.PTD_ATTR = attrWord (selectedRecord s) ∧
      rd t R.PTD_READERS = (selectedRecord s).readers ∧ OnlyRegs [R.PTD_ATTR, R.PTD_READERS] s t := by
  have write := writeCommand_PTD_CMD_done (op := 3) hr ha (by decide) (ptdCommand_load (ptdActive s))
  rw [selectedRecord_ptdActive ha] at write
  refine ⟨_, congrArg Host.Outcome.next write, rfl, ?_, ?_, ?_⟩
  · rw [rd_answer, rd_forwardConfig, rd_wr_ne _ _ (by decide), rd_wr_same]
  · rw [rd_answer, rd_forwardConfig, rd_wr_same]
  · exact ((((onlyRegs_ptdActive ha _).trans (onlyRegs_wr _ _ (by simp))).trans (onlyRegs_wr _ _ (by simp))).trans
      (onlyRegs_forwardConfig _ _ _ _ _)).trans (onlyRegs_answer _ _ _)

theorem exec_ptdAlloc_taken {s : State} {q : Requester} (hr : Reaches s q 0x30 0x4C) (ha : Awake s 0x30)
    (taken : (selectedRecord s).alloc = true) :
    exec (.ptdAlloc q) s = .next (rejectWrite (wr (ptdActive s) R.PTD_CMD (rd s R.PTD_CMD)) 0x30 0x4C .notInState) := by
  have refused : ptdCommand (ptdActive s) 1 = (ptdActive s, .notInState) :=
    ptdCommand_alloc_taken (by rwa [selectedRecord_ptdActive ha])
  exact congrArg Host.Outcome.next (writeCommand_PTD_CMD_refused (op := 1) hr ha (by decide) (by decide) refused)

/-- Settles O32: the three operations that put a record share what that leaves, and LOAD and the refusal have lemmas of their own. -/
theorem pointAdministrationFollowsItsTable : Obligations.PointAdministrationFollowsItsTable := by
  unfold Obligations.PointAdministrationFollowsItsTable
  intro s q hr ha
  dsimp only
  refine ⟨fun free check => ?_, fun taken unforced => ?_, ?_, fun taken unforced check => ?_, fun taken => ?_⟩
  · exact ⟨_, exec_ptdAlloc hr ha free check, ptdChanged_spec ha _ (withAttributes s { alloc := true, tstamp := s.now }) 1⟩
  · exact ⟨_, exec_ptdFree hr ha taken unforced, ptdChanged_spec ha _ nullPoint 2⟩
  · obtain ⟨t, run, accepted, attr, readers, frame⟩ := exec_ptdLoad hr ha
    obtain ⟨owner, dtype, alloc⟩ := bits_attrWord (selectedRecord s)
    rw [← attr] at owner dtype alloc
    exact ⟨t, run, accepted, readers, owner, dtype, alloc, frame⟩
  · obtain ⟨accepted, put, others, -, regs, bytes⟩ := ptdChanged_spec ha (selectedPoint s) (withAttributes s (selectedRecord s)) 4
    exact ⟨_, exec_ptdUpdate hr ha taken unforced check, accepted, put, others, regs, bytes⟩
  · refine ⟨_, exec_ptdAlloc_taken hr ha taken, rfl, fun n => ?_⟩
    exact (samePoints_of_points (rejectWrite_points _ _ _ _) n).trans (pointAt_ptdActive ha n)

end Sys2Proof.Machine
end

section
/-! SUPPORT. The scan's registers and its task table: what STATE, PEND and CUR_TASK read after a write, and what such a write leaves. -/

namespace Sys2Proof.Safety

open Sys2Proof.Machine

/-- A frame that allows more registers. -/
theorem OnlyRegs.mono {ks js : List Nat} {s t : State} (h : OnlyRegs ks s t) (sub : ks ⊆ js) : OnlyRegs js s t where
  rest := h.rest
  regs k hk := h.regs k (fun m => hk (sub m))
  exits := h.exits

end Sys2Proof.Safety

namespace Sys2Proof.Machine

open Sys2Proof.Safety

/-! ## Keys of the scan's registers -/

theorem SCC_STATUS_ne_SCN_TSTAT (c : Nat) {t : Nat} (ht : t < 64) : R.SCC_STATUS c ≠ R.SCN_TSTAT t := by
  simp only [R.SCC_STATUS, R.SCN_TSTAT, regKey]
  omega

theorem SCN_TCFG_ne_SCN_TSTAT {t : Nat} (u : Nat) (ht : t < 64) : R.SCN_TCFG t ≠ R.SCN_TSTAT u := by
  simp only [R.SCN_TCFG, R.SCN_TSTAT, regKey]
  omega

/-! ## What an update of registers alone leaves -/

theorem scan_of_onlyRegs {ks : List Nat} {s t : State} (h : OnlyRegs ks s t) : t.scan = s.scan := by rw [h.rest]

theorem taskAt_of_onlyRegs {ks : List Nat} {s t : State} (h : OnlyRegs ks s t) (n : Nat) : taskAt t n = taskAt s n := by
  rw [taskAt, scan_of_onlyRegs h, taskAt]

theorem causeQueue_of_onlyRegs {ks : List Nat} {s t : State} (h : OnlyRegs ks s t) (f : Nat) : causeQueue t f = causeQueue s f := by
  rw [causeQueue, scan_of_onlyRegs h, causeQueue]

theorem fld_of_sameRegs {ks : List Nat} {s t : State} (h : SameRegs ks s t) {k : Nat} (hk : k ∉ ks) (f : Fld) : fld t k f = fld s k f := by
  rw [fld, h k hk, fld]

/-- An update of the scan: registers of a list and data of its own may change, but no byte of memory and no point does. -/
structure ScanUpdate (ks : List Nat) (s t : State) : Prop where
  regs : SameRegs ks s t
  bytes : SameBytes s t
  points : SamePoints s t

theorem ScanUpdate.trans {ks : List Nat} {s t u : State} (a : ScanUpdate ks s t) (b : ScanUpdate ks t u) : ScanUpdate ks s u where
  regs := a.regs.trans b.regs
  bytes n := (b.bytes n).trans (a.bytes n)
  points n := (b.points n).trans (a.points n)

theorem scanUpdate_of_onlyRegs {ks js : List Nat} {s t : State} (h : OnlyRegs js s t) (sub : js ⊆ ks) : ScanUpdate ks s t where
  regs k hk := h.regs k (fun m => hk (sub m))
  bytes := sameBytes_of_onlyRegs h
  points := samePoints_of_onlyRegs h

/-- A change of the scan's own data. -/
theorem scanUpdate_scan (ks : List Nat) (s : State) (c : Scan) : ScanUpdate ks s { s with scan := c } :=
  ⟨fun _ _ => rfl, fun _ => rfl, fun _ => rfl⟩

theorem scanUpdate_setTask (ks : List Nat) (s : State) (t : Nat) (x : TaskState) : ScanUpdate ks s (setTask s t x) := scanUpdate_scan ks s _

theorem scanUpdate_setCauseQueue (ks : List Nat) (s : State) (f : Nat) (q : CauseQueue) : ScanUpdate ks s (setCauseQueue s f q) :=
  scanUpdate_scan ks s _

theorem scanUpdate_raiseBit {ks : List Nat} (s : State) {page : Nat} (n : Nat) (isr : R.PG_ISR page ∈ ks) (pend : R.EVT_PEND (page / 32) ∈ ks) :
    ScanUpdate ks s (raiseBit s page n) where
  regs _ hk := rd_raiseBit_ne s (fun e => hk (e ▸ isr)) (fun e => hk (e ▸ pend))
  bytes a := by simp only [byteAt, raiseBit_mem, raiseBit_resets, raiseBit_dramGen]
  points := samePoints_of_points (raiseBit_points s page n)

/-! ## The task table -/

@[simp] theorem rd_setTask (s : State) (t : Nat) (x : TaskState) (k : Nat) : rd (setTask s t x) k = rd s k := rfl

@[simp] theorem taskAt_setTask_same (s : State) (t : Nat) (x : TaskState) : taskAt (setTask s t x) t = x := tget_tput_same _ _ _

@[simp] theorem causeQueue_setCauseQueue_same (s : State) (f : Nat) (q : CauseQueue) : causeQueue (setCauseQueue s f q) f = q :=
  tget_tput_same _ _ _

/-! ## STATE, PEND and CUR_TASK -/

theorem taskStateOf_setTaskState (s : State) (t : Nat) {st : Nat} (h : st < 8) : taskStateOf (setTaskState s t st) t = st :=
  (fld_setFld_same s _ _ st (by decide) (by decide)).trans (Nat.mod_eq_of_lt h)

theorem curTask_setCurTask (s : State) (c : Nat) {t : Nat} (h : t < 128) : curTask (setCurTask s c t) c = t :=
  (fld_setFld_same s _ _ t (by decide) (by decide)).trans (Nat.mod_eq_of_lt h)

theorem onlyRegs_setTaskState (s : State) (t st : Nat) : OnlyRegs [R.SCN_TSTAT t] s (setTaskState s t st) :=
  onlyRegs_setFld s _ st List.mem_cons_self

theorem onlyRegs_showPend (s : State) (t : Nat) : OnlyRegs [R.SCN_TSTAT t] s (showPend s t) := by
  unfold showPend
  split
  · exact onlyRegs_setFld s _ _ List.mem_cons_self
  · exact OnlyRegs.refl _ s

/-- PEND is the lowest bit of SCN_TSTAT: what stands above it stays. -/
theorem fld_showPend (s : State) (t : Nat) {f : Fld} (hf : 0 < f.lo) : fld (showPend s t) (R.SCN_TSTAT t) f = fld s (R.SCN_TSTAT t) f := by
  unfold showPend
  split
  · exact fld_setFld_other s _ F.SCN_TSTAT_PEND f _ (by decide) (by decide) (.inr hf)
  · rfl

theorem taskStateOf_showPend (s : State) (t : Nat) : taskStateOf (showPend s t) t = taskStateOf s t := fld_showPend s t (by decide)

end Sys2Proof.Machine
end

section
/-! SUPPORT. Dispatch and resumption (R74, R82, R97, R107). -/

namespace Sys2Proof.Machine

open Sys2Proof.Safety

/-! ## A core that takes a task -/

/-- The registers show that a task runs on a core. -/
def occupied (s : State) (c t : Nat) : State := setCurTask (setTaskState s t tsRUNNING) c t

theorem onlyRegs_occupied (s : State) (c t : Nat) : OnlyRegs [R.SCN_TSTAT t, R.SCC_STATUS c] s (occupied s c t) :=
  (onlyRegs_setFld s _ _ (by simp)).trans (onlyRegs_setFld _ _ _ (by simp))

theorem curTask_occupied (s : State) (c : Nat) {t : Nat} (ht : t < 64) : curTask (occupied s c t) c = t := curTask_setCurTask _ c (by omega)

theorem taskStateOf_occupied (s : State) (c : Nat) {t : Nat} (ht : t < 64) : taskStateOf (occupied s c t) t = tsRUNNING :=
  (fld_setFld_ne _ _ _ _ (SCC_STATUS_ne_SCN_TSTAT c ht).symm).trans (taskStateOf_setTaskState s t (by decide))

/-- A dispatched task shows PEND as well. -/
def dispatched (s : State) (c t : Nat) : State := showPend (occupied s c t) t

theorem onlyRegs_dispatched (s : State) (c t : Nat) : OnlyRegs [R.SCN_TSTAT t, R.SCC_STATUS c] s (dispatched s c t) :=
  (onlyRegs_occupied s c t).trans ((onlyRegs_showPend _ t).mono (by simp))

theorem curTask_dispatched (s : State) (c : Nat) {t : Nat} (ht : t < 64) : curTask (dispatched s c t) c = t :=
  (fld_of_sameRegs (onlyRegs_showPend _ t).regs (by simpa using SCC_STATUS_ne_SCN_TSTAT c ht) _).trans (curTask_occupied s c ht)

theorem taskStateOf_dispatched (s : State) (c : Nat) {t : Nat} (ht : t < 64) : taskStateOf (dispatched s c t) t = tsRUNNING :=
  (taskStateOf_showPend _ t).trans (taskStateOf_occupied s c ht)

theorem taskAt_dispatched (s : State) (c t : Nat) (x : TaskState) : taskAt (dispatched (setTask s t x) c t) t = x :=
  (taskAt_of_onlyRegs (onlyRegs_dispatched _ c t) t).trans (taskAt_setTask_same s t x)

theorem scanUpdate_dispatched (s : State) (c t : Nat) (x : TaskState) :
    ScanUpdate [R.SCN_TSTAT t, R.SCC_STATUS c] s (dispatched (setTask s t x) c t) :=
  (scanUpdate_setTask _ s t x).trans (scanUpdate_of_onlyRegs (onlyRegs_dispatched _ c t) (List.Subset.refl _))

/-! ## The start of a run (R97, R107) -/

/-- The task's record as its run starts from a bank. -/
def startedTask (x : TaskState) (b : Bank) : TaskState :=
  { x with bank := b, run := some { step := .latch, release := x.relAt, execNs := 300 }, lostRetain := false }

/-- The bank that a run of a task starts with: the entry of its program, and TB's high word as it was (R107). -/
def freshBank (s : State) (t : Nat) : Bank :=
  match taskEntry s t with
  | some (m, e) =>
    { pc := BitVec.ofNat 32 (m.codeAt + e.entry), ib := BitVec.ofNat 32 (m.dataAt + e.progInst), tbHi := (taskAt s t).bank.tbHi }
  | none => { pc := 0, ib := 0, tbHi := (taskAt s t).bank.tbHi }

theorem freshBank_of_entry {s : State} {t : Nat} {m : Mould} {e : TaskEnt} (h : taskEntry s t = some (m, e)) :
    freshBank s t =
      { pc := BitVec.ofNat 32 (m.codeAt + e.entry), ib := BitVec.ofNat 32 (m.dataAt + e.progInst), tbHi := (taskAt s t).bank.tbHi } := by
  rw [freshBank, h]

/-- A CYCLIC or an EVENT task starts with its fresh bank. -/
theorem startRun_of_not_error {s : State} {t : Nat} (c : Nat) (trig : taskTrig s t ≠ 2) (kept : (taskAt s t).lostRetain = false) :
    startRun s c t = dispatched (setTask s t (startedTask (taskAt s t) (freshBank s t))) c t := by
  unfold startRun
  simp only [trig, kept, if_false, Bool.false_eq_true]
  unfold freshBank
  cases taskEntry s t <;> rfl

/-- The state after a task's flask has given its first cause record away: the rest is left, and no loss. -/
def causeTaken (s : State) (t : Nat) (rest : List Cause) : State := setCauseQueue s (taskFlask s t) { records := rest, lost := 0 }

/-- An ERROR task starts with the first cause record of its flask, which leaves the queue (R97). -/
theorem startRun_of_error {s : State} {t : Nat} {x : Cause} {rest : List Cause} (c : Nat) (trig : taskTrig s t = 2)
    (kept : (taskAt s t).lostRetain = false) (queued : (causeQueue s (taskFlask s t)).records = x :: rest) :
    startRun s c t = dispatched (setTask (causeTaken s t rest) t
      (startedTask (taskAt s t) (causeBank (freshBank s t) x (causeQueue s (taskFlask s t)).lost))) c t := by
  unfold startRun
  simp only [trig, kept, queued, if_true, if_false, Bool.false_eq_true]
  unfold freshBank
  cases taskEntry s t <;> rfl

/-- The work registers of an ERROR task hold the cause record (R97). -/
theorem breg_causeBank (b : Bank) (x : Cause) (lost : Nat) :
    breg (causeBank b x lost) 1 = BitVec.ofNat 32 (x.code * 2 ^ 24 + x.task * 2 ^ 16 + min lost 0xFFFF) ∧
    breg (causeBank b x lost) 2 = x.detail ∧ breg (causeBank b x lost) 3 = x.time.setWidth 32 ∧
    breg (causeBank b x lost) 4 = (x.time >>> 32).setWidth 32 := by
  have low : BitVec.ofNat 32 (x.time.toNat % 4294967296) = x.time.setWidth 32 := by
    apply BitVec.eq_of_toNat_eq
    simp
  have high : BitVec.ofNat 32 (x.time.toNat / 4294967296) = (x.time >>> 32).setWidth 32 := by
    apply BitVec.eq_of_toNat_eq
    simp [Nat.shiftRight_eq_div_pow]
  have read (n : BitVec 4) (h : n ≠ 0) : breg (causeBank b x lost) n = tget (fun _ => 0) (causeBank b x lost).w n.toNat := if_neg h
  rw [read 1 (by decide), read 2 (by decide), read 3 (by decide), read 4 (by decide)]
  simp [causeBank, tget_tput, low, high]

/-! ## The commands -/

theorem exec_taskDispatch (s : State) (c : Fin 8) : exec (.taskDispatch c) s = .next (dispatchCore s c.val) := rfl

theorem exec_runResume (s : State) (c : Fin 8) : exec (.runResume c) s = .next (resumeCore s c.val) := rfl

theorem preempt_idle {s : State} {c : Nat} (h : curTask s c = 0x7F) : preempt s c = s := if_pos h

/-- An idle core that is ON starts its first ready task when that is a released one (R74). -/
theorem dispatchCore_released {s : State} {c t : Nat} (idle : curTask s c = 0x7F) (first : firstReady s c = some t)
    (on : pageOn s (0x39 + c) = true) (released : taskStateOf s t = tsRELEASED) : dispatchCore s c = startRun s c t := by
  unfold dispatchCore
  simp only [on, preempt_idle idle, idle, first, released, Bool.not_true, Bool.false_eq_true, if_false, if_true]

/-- A preempted run goes on with 0.2 µs more on its time (R82). -/
def resumedTask (x : TaskState) (r : Run) : TaskState := { x with run := some { r with execNs := r.execNs + 200 } }

theorem resumeCore_preempted {s : State} {c t : Nat} {r : Run} (idle : curTask s c = 0x7F) (first : firstReady s c = some t)
    (waits : taskStateOf s t = tsPREEMPTED) (run : (taskAt s t).run = some r) :
    resumeCore s c = occupied (setTask s t (resumedTask (taskAt s t) r)) c t := by
  unfold resumeCore
  simp only [idle, first, waits, run, if_true, Option.map_some]
  rfl

/-- Settles O34: a dispatched run starts from its bank, a preempted one from where it was, and the registers of the task and the core show it. -/
theorem coresDispatchAndResume : Obligations.CoresDispatchAndResume := by
  unfold Obligations.CoresDispatchAndResume
  intro s c n idle first
  have ht := n.isLt
  refine ⟨fun on released kept => ⟨fun m e trig entry => ?_, fun x rest trig queued => ?_⟩, fun r waits run => ?_⟩
  · have start := exec_taskDispatch s c
    rw [dispatchCore_released idle first on released, startRun_of_not_error c.val trig kept] at start
    have task := taskAt_dispatched s c.val n.val (startedTask (taskAt s n.val) (freshBank s n.val))
    obtain ⟨regs, bytes, points⟩ := scanUpdate_dispatched s c.val n.val (startedTask (taskAt s n.val) (freshBank s n.val))
    exact ⟨_, start, curTask_dispatched _ _ ht, taskStateOf_dispatched _ _ ht, (congrArg TaskState.bank task).trans (freshBank_of_entry entry),
      congrArg TaskState.run task, regs, bytes, points⟩
  · have start := exec_taskDispatch s c
    rw [dispatchCore_released idle first on released, startRun_of_error c.val trig kept queued] at start
    obtain ⟨w1, w2, w3, w4⟩ := breg_causeBank (freshBank s n.val) x (causeQueue s (taskFlask s n.val)).lost
    have frame := (scanUpdate_setCauseQueue _ s (taskFlask s n.val) { records := rest, lost := 0 }).trans
      (scanUpdate_dispatched (causeTaken s n.val rest) c.val n.val
        (startedTask (taskAt s n.val) (causeBank (freshBank s n.val) x (causeQueue s (taskFlask s n.val)).lost)))
    refine ⟨_, start, curTask_dispatched _ _ ht, taskStateOf_dispatched _ _ ht, ?_, ?_, ?_, ?_, ?_, frame.regs⟩
    · rw [causeQueue_of_onlyRegs (onlyRegs_dispatched _ _ _)]
      exact congrArg CauseQueue.records (causeQueue_setCauseQueue_same s _ _)
    all_goals rw [taskAt_dispatched]
    exacts [w1, w2, w3, w4]
  · have resume := exec_runResume s c
    rw [resumeCore_preempted idle first waits run] at resume
    have frame := onlyRegs_occupied (setTask s n.val (resumedTask (taskAt s n.val) r)) c.val n.val
    have task := (taskAt_of_onlyRegs frame n.val).trans (taskAt_setTask_same s n.val _)
    obtain ⟨regs, bytes, points⟩ :=
      (scanUpdate_setTask _ s n.val (resumedTask (taskAt s n.val) r)).trans (scanUpdate_of_onlyRegs frame (List.Subset.refl _))
    exact ⟨_, resume, curTask_occupied _ _ ht, taskStateOf_occupied _ _ ht, (congrArg TaskState.bank task).trans rfl,
      congrArg TaskState.run task, regs, bytes, points⟩

end Sys2Proof.Machine
end

section
/-! SUPPORT. Bytes stored in a row, and the images of a task (R77). -/

namespace Sys2Proof.Machine

open Sys2Proof.Safety

/-! ## Bytes in a row -/

theorem bytesAt_congr {s t : State} {a n : Nat} (h : ∀ b, a ≤ b → b < a + n → byteAt t b = byteAt s b) : bytesAt t a n = bytesAt s a n := by
  induction n generalizing a with
  | zero => rfl
  | succ n ih => rw [bytesAt, bytesAt, h a (by omega) (by omega), ih (fun b lo hi => h b (by omega) (by omega))]

theorem putBytes_append (s : State) (a : Nat) (l l' : List Byte) : putBytes s a (l ++ l') = putBytes (putBytes s a l) (a + l.length) l' := by
  induction l generalizing s a with
  | nil => rfl
  | cons b l ih => rw [List.cons_append, putBytes, ih, putBytes, List.length_cons, Nat.add_right_comm, Nat.add_assoc]

/-- Stored bytes read back. -/
theorem bytesAt_putBytes_same (s : State) {a : Nat} (l : List Byte) (h : 0x20000 ≤ a) : bytesAt (putBytes s a l) a l.length = l := by
  induction l generalizing s a with
  | nil => rfl
  | cons b l ih =>
    have first : byteAt (putBytes (putByte s a b) (a + 1) l) a = b := by
      rw [byteAt_putBytes_outside _ _ _ (.inl (by omega)), byteAt_putByte_same s a b h]
    rw [putBytes, List.length_cons, bytesAt, first, ih _ (by omega)]

/-- A part of the stored bytes reads back at its place. -/
theorem bytesAt_putBytes_part (s : State) {a : Nat} (l m r : List Byte) (h : 0x20000 ≤ a) :
    bytesAt (putBytes s a (l ++ (m ++ r))) (a + l.length) m.length = m := by
  rw [putBytes_append, putBytes_append, bytesAt_congr (s := putBytes (putBytes s a l) (a + l.length) m)]
  · exact bytesAt_putBytes_same _ m (by omega)
  · exact fun b _ hi => byteAt_putBytes_outside _ _ _ (.inl hi)

@[simp] theorem pointAt_putBytes (s : State) (a : Nat) (l : List Byte) (n : Nat) : pointAt (putBytes s a l) n = pointAt s n := by
  rw [pointAt, putBytes_points, pointAt]

@[simp] theorem pointAt_setTask (s : State) (t : Nat) (x : TaskState) (n : Nat) : pointAt (setTask s t x) n = pointAt s n := rfl

@[simp] theorem taskAt_putBytes (s : State) (a : Nat) (l : List Byte) (t : Nat) : taskAt (putBytes s a l) t = taskAt s t := by
  rw [taskAt, putBytes_scan, taskAt]

@[simp] theorem rd_putBytes (s : State) (a : Nat) (l : List Byte) (k : Nat) : rd (putBytes s a l) k = rd s k := by
  rw [rd, putBytes_regs, rd]

/-! ## The input image -/

theorem length_leBytes (k n : Nat) : (leBytes k n).length = k := by
  induction k generalizing n with
  | zero => rfl
  | succ k ih => rw [leBytes, List.length_cons, ih]

theorem length_imageEntry (p : Point) : (imageEntry p).length = 16 := by
  simp only [imageEntry, List.length_append, length_leBytes, List.length_cons, List.length_nil]

/-- The image of a table of points: their entries in order. -/
def imageOf (s : State) (tbl : List Nat) : List Byte := tbl.flatMap (fun p => imageEntry (pointAt s p))

theorem length_imageOf (s : State) (tbl : List Nat) : (imageOf s tbl).length = 16 * tbl.length := by
  induction tbl with
  | nil => rfl
  | cons p tbl ih =>
    rw [imageOf, List.flatMap_cons, List.length_append, length_imageEntry, ← imageOf, ih, List.length_cons]
    omega

theorem imageOf_putBytes (s : State) (a : Nat) (l : List Byte) (tbl : List Nat) : imageOf (putBytes s a l) tbl = imageOf s tbl := by
  simp only [imageOf, pointAt_putBytes]

/-- The entry of a point stands at its place of the stored image. -/
theorem bytesAt_putImage (s u : State) {a : Nat} (tbl : List Nat) {i : Nat} (hi : i < tbl.length) (h : 0x20000 ≤ a) :
    bytesAt (putBytes u a (imageOf s tbl)) (a + 16 * i) 16 = imageEntry (pointAt s tbl[i]) := by
  have before : (imageOf s (tbl.take i)).length = 16 * i := by
    rw [length_imageOf, List.length_take_of_le (by omega)]
  have parts : imageOf s tbl = imageOf s (tbl.take i) ++ (imageEntry (pointAt s tbl[i]) ++ imageOf s (tbl.drop (i + 1))) := by
    conv_lhs => rw [← List.take_append_drop i tbl, List.drop_eq_getElem_cons hi]
    simp only [imageOf, List.flatMap_append, List.flatMap_cons]
  have part := bytesAt_putBytes_part u (imageOf s (tbl.take i)) (imageEntry (pointAt s tbl[i])) (imageOf s (tbl.drop (i + 1))) h
  rwa [← parts, before, length_imageEntry] at part

end Sys2Proof.Machine
end

section
/-! SUPPORT. The latch of a run (R77). -/

namespace Sys2Proof.Machine

open Sys2Proof.Safety

theorem SCN_ne_SCC_WAIT (c t : Nat) : R.SCN_TBUD t ≠ R.SCC_WAIT c ∧ R.SCN_TCFG t ≠ R.SCC_WAIT c := by
  simp only [R.SCC_WAIT, R.SCN_TBUD, R.SCN_TCFG, regKey]
  omega

theorem exec_inputLatch (s : State) (t : Fin 64) (w : Nat) : exec (.inputLatch t w) s = .next (latchRun s t.val w) := rfl

theorem onlyRegs_noteWait (s : State) (c w : Nat) : OnlyRegs [R.SCC_WAIT c] s (noteWait s c w) := onlyRegs_setFld s _ _ List.mem_cons_self

theorem fld_noteWait (s : State) (c w : Nat) {k : Nat} (h : k ≠ R.SCC_WAIT c) (f : Fld) : fld (noteWait s c w) k f = fld s k f :=
  fld_of_sameRegs (onlyRegs_noteWait s c w).regs (by simpa using h) f

/-- A watchdog time of 0 cuts nothing off (R86). -/
theorem watchdogHit_of_zero {s : State} {t : Nat} (h : fld s (R.SCN_TBUD t) F.SCN_TBUD_WDOG_US = 0) (r : Run) : watchdogHit s t r = false := by
  rw [watchdogHit, h]
  rfl

/-- A table of points that the flask may read is latched whole, and no denial is counted. -/
theorem foldl_latchEntry {f base : Nat} {tbl : List Nat} {s : State} (r : Run) (i : Nat) (readable : ∀ p ∈ tbl, mayRead f (pointAt s p) = true) :
    tbl.foldl (latchEntry f base) (s, r, i) = (putBytes s (base + 16 * i) (imageOf s tbl), r, i + tbl.length) := by
  induction tbl generalizing s i with
  | nil => rfl
  | cons p tbl ih =>
    have entry : latchEntry f base (s, r, i) p = (putBytes s (base + 16 * i) (imageEntry (pointAt s p)), r, i + 1) := by
      simp only [latchEntry, tryRead, readable p List.mem_cons_self, if_true]
    have rest : ∀ q ∈ tbl, mayRead f (pointAt (putBytes s (base + 16 * i) (imageEntry (pointAt s p))) q) = true := fun q hq => by
      rw [pointAt_putBytes]
      exact readable q (List.mem_cons_of_mem p hq)
    have next : base + 16 * (i + 1) = base + 16 * i + (imageEntry (pointAt s p)).length := by
      rw [length_imageEntry]
      omega
    rw [List.foldl_cons, entry, ih (i + 1) rest, imageOf_putBytes, next, ← putBytes_append, List.length_cons, Nat.add_right_comm, Nat.add_assoc]
    rfl

/-- The run after its latch. -/
def latchedRun (r : Run) (w n : Nat) (hash : DWord) : Run :=
  { r with step := .program, execNs := r.execNs + w + 100 + 4 * n, ihash := hash }

/-- The state after a latch that is not cut off: the longest wait, the image in memory, and the run in its program step. -/
def latchedState (s : State) (t w : Nat) (m : Mould) (e : TaskEnt) (r : Run) : State :=
  setTask (putBytes (noteWait s (taskCore s t) w) (m.dataAt + e.inImg) (imageOf s e.inTbl)) t { taskAt s t with run := some r }

theorem latchRun_open {s : State} {t w : Nat} {r : Run} {m : Mould} {e : TaskEnt} (run : (taskAt s t).run = some r)
    (entry : taskEntry s t = some (m, e)) (running : taskStateOf s t = tsRUNNING) (step : r.step = .latch)
    (wdog : fld s (R.SCN_TBUD t) F.SCN_TBUD_WDOG_US = 0) (readable : ∀ p ∈ e.inTbl, mayRead (taskFlask s t) (pointAt s p) = true) :
    ∃ hash, latchRun s t w = latchedState s t w m e (latchedRun r w e.inTbl.length hash) := by
  have image : e.inTbl.foldl (latchEntry (taskFlask s t) (m.dataAt + e.inImg)) (noteWait s (taskCore s t) w, r, 0) =
      (putBytes (noteWait s (taskCore s t) w) (m.dataAt + e.inImg) (imageOf s e.inTbl), r, 0 + e.inTbl.length) := foldl_latchEntry r 0 readable
  have flask : taskFlask (noteWait s (taskCore s t) w) t = taskFlask s t := fld_noteWait s _ w (SCN_ne_SCC_WAIT _ t).2 _
  have zero (x : Run) : fld (latchedState s t w m e x) (R.SCN_TBUD t) F.SCN_TBUD_WDOG_US = 0 := by
    rw [fld, latchedState, rd_setTask, rd_putBytes, ← fld, fld_noteWait s _ w (SCN_ne_SCC_WAIT _ t).1, wdog]
  have task : taskAt (putBytes (noteWait s (taskCore s t) w) (m.dataAt + e.inImg) (imageOf s e.inTbl)) t = taskAt s t := by
    rw [taskAt_putBytes, taskAt_of_onlyRegs (onlyRegs_noteWait s _ w)]
  unfold latchRun
  simp only [run, entry, running, step, flask, image, task, and_self, if_true, Nat.zero_add]
  exact ⟨_, if_neg (ne_true_of_eq_false (watchdogHit_of_zero (zero _) _))⟩

/-! ## What a latch leaves -/

theorem byteAt_latchedState (s : State) (t w : Nat) (m : Mould) (e : TaskEnt) (r : Run) {a : Nat}
    (h : a < m.dataAt + e.inImg ∨ m.dataAt + e.inImg + 16 * e.inTbl.length ≤ a) : byteAt (latchedState s t w m e r) a = byteAt s a :=
  (byteAt_putBytes_outside _ _ _ (by rwa [length_imageOf])).trans (sameBytes_of_onlyRegs (onlyRegs_noteWait s _ w) a)

theorem pointAt_latchedState (s : State) (t w : Nat) (m : Mould) (e : TaskEnt) (r : Run) : SamePoints s (latchedState s t w m e r) :=
  fun n => (pointAt_putBytes _ _ _ n).trans (samePoints_of_onlyRegs (onlyRegs_noteWait s _ w) n)

theorem bytesAt_latchedState (s : State) (t w : Nat) {m : Mould} {e : TaskEnt} (r : Run) {i : Nat} (hi : i < e.inTbl.length)
    (h : 0x20000 ≤ m.dataAt + e.inImg) :
    bytesAt (latchedState s t w m e r) (m.dataAt + e.inImg + 16 * i) 16 = imageEntry (pointAt s e.inTbl[i]) :=
  (bytesAt_congr (fun _ _ _ => rfl)).trans (bytesAt_putImage s (noteWait s (taskCore s t) w) e.inTbl hi h)

end Sys2Proof.Machine
end

section
/-! SUPPORT. The write-back of a run (R79). -/

namespace Sys2Proof.Machine

open Sys2Proof.Safety

theorem exec_outputWriteBack (s : State) (t : Fin 64) (w : Nat) : exec (.outputWriteBack t w) s = .next (writeBackRun s t.val w) := rfl

theorem SYS_MODE_ne_SCC_WAIT (c : Nat) : R.SYS_MODE ≠ R.SCC_WAIT c := by
  simp only [R.SYS_MODE, R.SCC_WAIT, regKey]
  omega

theorem onStandby_noteWait (s : State) (c w : Nat) : onStandby (noteWait s c w) = onStandby s :=
  congrArg (· == 5) (fld_noteWait s c w (SYS_MODE_ne_SCC_WAIT c) _)

/-- A local write that R46 allows outside STANDBY writes the point. -/
theorem tryWrite_allowed {s : State} {f pid : Nat} (live : onStandby s = false) (may : mayWrite f (pointAt s pid) = true) (path : Nat) (v : DWord)
    (q : Byte) (ts : DWord) (src : BitVec 16) : tryWrite s f path pid v q ts src = (writePoint s pid v q ts src, true) :=
  (if_neg (ne_true_of_eq_false live)).trans (if_pos may)

/-- The value of an output entry, and its quality. -/
abbrev entryValue (s : State) (a : Nat) : DWord := BitVec.ofNat 64 (loadN s a 8)
abbrev entryQuality (s : State) (a : Nat) : Byte := byteAt s (a + 8)

/-- An entry that is not held and not ON_CHANGE commits, and keeps what it has committed as its last value. -/
theorem writeEntry_commits {s : State} {f base pid : Nat} (ts : DWord) (src : BitVec 16) (r : Run) (live : onStandby s = false)
    (may : mayWrite f (pointAt s pid) = true) (hold : (byteAt s (base + 9)).getLsbD 0 = false)
    (quality : writerQuality (entryQuality s base) = true) :
    writeEntry f base ts src true (s, r, 0) (pid, false) =
      (putBytes (writePoint s pid (entryValue s base) (entryQuality s base) ts src) (base + 0x10)
        (leBytes 8 (loadN s base 8) ++ [entryQuality s base, 1]), r, 1) := by
  simp only [writeEntry, Nat.mul_zero, Nat.add_zero, hold, quality, tryWrite_allowed live may, Bool.false_and, Bool.or_self, Bool.not_true,
    Bool.false_eq_true, if_true, if_false, Nat.zero_add]

/-- The run after a write-back of one entry. -/
def writtenRun (r : Run) (w : Nat) (hash : DWord) : Run := { r with step := .retention, execNs := r.execNs + w + 106, ohash := hash }

/-- The record that a write-back of one entry leaves. -/
def writtenBack (s : State) (t base pid : Nat) : Point :=
  writtenRecord (pointAt s pid) (entryValue s base) (entryQuality s base) s.now (sourceOf 1 t)

/-- The state after a write-back of one entry: the longest wait, the record, the entry's last value, and the run in its retention step. -/
def writtenState (s : State) (t w base pid : Nat) (twin : Twin) (r : Run) : State :=
  setTask (putBytes { setPoint (noteWait s (taskCore s t) w) pid (writtenBack s t base pid) with twin := twin } (base + 0x10)
    (leBytes 8 (loadN s base 8) ++ [entryQuality s base, 1])) t { taskAt s t with run := some r }

theorem writeBackRun_single {s : State} {t w pid : Nat} {r : Run} {m : Mould} {e : TaskEnt} (run : (taskAt s t).run = some r)
    (entry : taskEntry s t = some (m, e)) (running : taskStateOf s t = tsRUNNING) (step : r.step = .writeBack) (table : e.outTbl = [(pid, false)])
    (deferred : r.deferred = []) (live : onStandby s = false) (may : mayWrite (taskFlask s t) (pointAt s pid) = true)
    (unforced : forceOn s pid = none) (hold : (byteAt s (m.dataAt + e.outImg + 9)).getLsbD 0 = false)
    (quality : writerQuality (entryQuality s (m.dataAt + e.outImg)) = true) :
    ∃ hash twin, writeBackRun s t w = writtenState s t w (m.dataAt + e.outImg) pid twin (writtenRun r w hash) := by
  have shadow : shadowing s = false := live
  have now : (noteWait s (taskCore s t) w).now = s.now := rfl
  have commits := writeEntry_commits (s := noteWait s (taskCore s t) w) (f := taskFlask s t) (base := m.dataAt + e.outImg) s.now (sourceOf 1 t) r
    ((onStandby_noteWait s _ w).trans live) may hold quality
  obtain ⟨twin, written⟩ := writePoint_unforced (s := noteWait s (taskCore s t) w) unforced (entryValue s (m.dataAt + e.outImg))
    (entryQuality s (m.dataAt + e.outImg)) s.now (sourceOf 1 t)
  have after : writeEntry (taskFlask s t) (m.dataAt + e.outImg) s.now (sourceOf 1 t) true (noteWait s (taskCore s t) w, r, 0) (pid, false) =
      (putBytes { setPoint (noteWait s (taskCore s t) w) pid (writtenBack s t (m.dataAt + e.outImg) pid) with twin := twin }
        (m.dataAt + e.outImg + 0x10) (leBytes 8 (loadN s (m.dataAt + e.outImg) 8) ++ [entryQuality s (m.dataAt + e.outImg), 1]), r, 1) :=
    commits.trans (congrArg (fun u => (putBytes u (m.dataAt + e.outImg + 0x10)
      (leBytes 8 (loadN s (m.dataAt + e.outImg) 8) ++ [entryQuality s (m.dataAt + e.outImg), 1]), r, 1)) written)
  have none_deferred (g : State × Run → DeferredWrite → State × Run) (x : State × Run) : r.deferred.foldl g x = x := by rw [deferred]; rfl
  have count : r.deferred.length = 0 := by rw [deferred]; rfl
  unfold writeBackRun
  simp only [run, entry, running, step, table, shadow, now, after, none_deferred, count, taskAt_putBytes, List.foldl_cons, List.foldl_nil,
    Bool.not_false, and_self, if_true]
  exact ⟨_, twin, rfl⟩

theorem pointAt_writtenState (s : State) (t w base pid : Nat) (twin : Twin) (r : Run) (n : Nat) :
    pointAt (writtenState s t w base pid twin r) n = if n = pid then writtenBack s t base pid else pointAt s n := by
  have stored : pointAt (writtenState s t w base pid twin r) n =
      pointAt { setPoint (noteWait s (taskCore s t) w) pid (writtenBack s t base pid) with twin := twin } n := by
    rw [writtenState, pointAt_setTask, pointAt_putBytes]
  rw [stored]
  exact tget_tput s.points pid n _

end Sys2Proof.Machine
end

section
/-! SUPPORT. What a run's end does to its task and its core (R83, R85, R88). -/

namespace Sys2Proof.Machine

open Sys2Proof.Safety

/-! ## Whether a task may be released -/

/-- Whether a task may be released hangs on the power-fail save, on its SCN_TCFG, on the mode and on the state of its core. -/
theorem mayRelease_congr {ks : List Nat} {s u : State} {t : Nat} (regs : SameRegs ks s u) (pfw : u.scan.pfw = s.scan.pfw)
    (cfg : R.SCN_TCFG t ∉ ks) (mode : R.SYS_MODE ∉ ks) (page : ∀ c, R.PG_STATE (0x39 + c) ∉ ks) : mayRelease u t = mayRelease s t := by
  have on (c : Nat) : pageOn u (0x39 + c) = pageOn s (0x39 + c) := congrArg (· == 2) (fld_of_sameRegs regs (page c) _)
  have core : taskCore u t = taskCore s t := fld_of_sameRegs regs cfg _
  have doze : flag u (R.SCN_TCFG t) F.SCN_TCFG_DOZE_RUN = flag s (R.SCN_TCFG t) F.SCN_TCFG_DOZE_RUN :=
    congrArg (· != 0) (fld_of_sameRegs regs cfg _)
  have now : modeNow u = modeNow s := fld_of_sameRegs regs mode _
  simp only [mayRelease, pfw, core, on, doze, now]

/-- No register of a task's status or run counters, nor a core's status, decides whether the task is enabled and may be released. -/
theorem release_keys {t : Nat} (c : Nat) (ht : t < 64) :
    R.SCN_TCFG t ∉ [R.SCN_TRUNS t, R.SCN_TTIME t, R.SCN_TSTAT t, R.SCC_STATUS c] ∧
    R.SYS_MODE ∉ [R.SCN_TRUNS t, R.SCN_TTIME t, R.SCN_TSTAT t, R.SCC_STATUS c] ∧
    ∀ p, R.PG_STATE (0x39 + p) ∉ [R.SCN_TRUNS t, R.SCN_TTIME t, R.SCN_TSTAT t, R.SCC_STATUS c] := by
  refine ⟨?_, ?_, fun p => ?_⟩
  all_goals
    simp only [List.mem_cons, List.not_mem_nil, or_false, not_or, R.SCN_TCFG, R.SCN_TRUNS, R.SCN_TTIME, R.SCN_TSTAT, R.SCC_STATUS, R.SYS_MODE,
      R.PG_STATE, regKey]
    omega

/-- The status of a task decides nothing of that. -/
theorem mayRelease_of_stat {s u : State} {t : Nat} (regs : SameRegs [R.SCN_TSTAT t] s u) (pfw : u.scan.pfw = s.scan.pfw) (ht : t < 64) :
    mayRelease u t = mayRelease s t := by
  obtain ⟨cfg, mode, page⟩ := release_keys 0 ht
  have sub : [R.SCN_TSTAT t] ⊆ [R.SCN_TRUNS t, R.SCN_TTIME t, R.SCN_TSTAT t, R.SCC_STATUS 0] := by simp
  exact mayRelease_congr regs pfw (fun m => cfg (sub m)) (fun m => mode (sub m)) fun c m => page c (sub m)

/-! ## The task's state after a run -/

theorem refreshTask_idle {s : State} {t : Nat} (idle : taskStateOf s t = tsIDLE) (may : mayRelease s t = true) : refreshTask s t = s := by
  simp [refreshTask, idle, may, tsIDLE, tsSUSPENDED]

/-- An enabled task that may be released and holds no event is IDLE after its run. -/
theorem leaveRun_idle {s : State} {t : Nat} (ht : t < 64) (enabled : taskEnabled s t = true) (may : mayRelease s t = true)
    (held : (taskAt s t).held = false) : leaveRun s t = showPend (setTaskState s t tsIDLE) t := by
  have frame := onlyRegs_setTaskState s t tsIDLE
  have stays : mayRelease (setTaskState s t tsIDLE) t = true :=
    (mayRelease_of_stat frame.regs (congrArg Scan.pfw (scan_of_onlyRegs frame)) ht).trans may
  have none_held : (taskAt (setTaskState s t tsIDLE) t).held = false := by rw [taskAt_of_onlyRegs frame, held]
  unfold leaveRun
  simp only [enabled, refreshTask_idle (taskStateOf_setTaskState s t (by decide)) stays, none_held, Bool.not_true, Bool.false_and,
    Bool.false_eq_true, if_false]

/-! ## The core -/

/-- A time has been added to a core's busy time. -/
def busyAdded (s : State) (c ns : Nat) : State :=
  { s with scan := { s.scan with busyNs := tput (fun _ => 0) s.scan.busyNs c (tget (fun _ => 0) s.scan.busyNs c + ns) } }

theorem rd_busyAdded (s : State) (c ns k : Nat) : rd (busyAdded s c ns) k = rd s k := rfl

theorem freeCore_own {s : State} {t : Nat} (ns : Nat) (h : curTask s (taskCore s t) = t) :
    freeCore s t ns = setCurTask (busyAdded s (taskCore s t) ns) (taskCore s t) 0x7F := if_pos h

theorem freeCore_other {s : State} {t : Nat} (ns : Nat) (h : curTask s (taskCore s t) ≠ t) : freeCore s t ns = busyAdded s (taskCore s t) ns :=
  if_neg h

/-- Beside the busy time, a core that is freed changes at most its status. -/
theorem onlyRegs_freeCore (s : State) (t ns : Nat) : OnlyRegs [R.SCC_STATUS (taskCore s t)] (busyAdded s (taskCore s t) ns) (freeCore s t ns) := by
  by_cases h : curTask s (taskCore s t) = t
  · rw [freeCore_own ns h]
    exact onlyRegs_setFld _ _ _ List.mem_cons_self
  · rw [freeCore_other ns h]
    exact OnlyRegs.refl _ _

theorem taskAt_freeCore (s : State) (t ns n : Nat) : taskAt (freeCore s t ns) n = taskAt s n := taskAt_of_onlyRegs (onlyRegs_freeCore s t ns) n

theorem scanUpdate_freeCore {ks : List Nat} (s : State) (t ns : Nat) (h : R.SCC_STATUS (taskCore s t) ∈ ks) : ScanUpdate ks s (freeCore s t ns) :=
  (scanUpdate_scan ks s _).trans (scanUpdate_of_onlyRegs (onlyRegs_freeCore s t ns) (by simpa using h))

/-! ## Runs of a module that no partner follows -/

/-- The active of no pair, outside STANDBY, mirrors nothing. -/
theorem mirrorRun_lone {s : State} (pair : pairActive s = false) (mode : modeNow s ≠ mdSTANDBY) (t : Nat) (r : Run) (cut : Bool) :
    mirrorRun s t r cut = s := by
  have shadow : shadowing s = false := beq_eq_false_iff_ne.mpr mode
  simp only [mirrorRun, pair, shadow, Bool.false_eq_true, if_false]

end Sys2Proof.Machine
end

section
/-! SUPPORT. The retention step and the end step of a run that wrote nothing retentive, and met no drop and no denial (R83, R85). -/

namespace Sys2Proof.Machine

open Sys2Proof.Safety

theorem exec_retentionCopy (s : State) (t : Fin 64) : exec (.retentionCopy t) s = .next (retentionRun s t.val) := rfl

/-- The run as its end step takes it, 100 ns later. -/
def endingRun (r : Run) : Run := { r with execNs := r.execNs + 100 }

/-- Where nothing is staged, the retention step is the end step. -/
theorem retentionRun_nothing {s : State} {t : Nat} {r : Run} {m : Mould} {e : TaskEnt} (run : (taskAt s t).run = some r)
    (entry : taskEntry s t = some (m, e)) (running : taskStateOf s t = tsRUNNING) (step : r.step = .retention) (dirty : r.dirty = [])
    (retain : hasRetain m e r = false) (fill : stageFill s ≤ 524288) : retentionRun s t = runEnd s t (endingRun r) := by
  have granules : (if shadowing s then [] else dirtyGranules s m r.dirty) = ([] : List Granule) := by
    rw [dirty]
    exact ite_self _
  have fits : ¬ 524288 < stageFill s + 32 * ([] : List Granule).length := Nat.not_lt.mpr fill
  unfold retentionRun
  simp only [run, entry, running, step, granules, fits, retain, and_self, if_true, if_false, Bool.false_eq_true, Nat.add_zero, List.append_nil,
    endingRun]

/-! ## The run's time -/

/-- The run is counted, and its time shown. -/
def runTimed (s : State) (t us : Nat) : State :=
  let s := setFld (bump s (R.SCN_TRUNS t) 1) (R.SCN_TTIME t) F.SCN_TTIME_LAST_US us
  setFld s (R.SCN_TTIME t) F.SCN_TTIME_MAX_US (max us (fld s (R.SCN_TTIME t) F.SCN_TTIME_MAX_US))

theorem onlyRegs_runTimed (s : State) (t us : Nat) : OnlyRegs [R.SCN_TRUNS t, R.SCN_TTIME t] s (runTimed s t us) :=
  ((onlyRegs_wr s _ (by simp)).trans (onlyRegs_setFld _ _ _ (by simp))).trans (onlyRegs_setFld _ _ _ (by simp))

theorem SCN_TRUNS_ne_SCN_TTIME (t : Nat) : R.SCN_TRUNS t ≠ R.SCN_TTIME t := by
  simp only [R.SCN_TRUNS, R.SCN_TTIME, regKey]
  omega

theorem rd_runTimed_runs (s : State) (t us : Nat) : rd (runTimed s t us) (R.SCN_TRUNS t) = rd s (R.SCN_TRUNS t) + 1 := by
  rw [runTimed, rd_setFld_ne _ _ _ (SCN_TRUNS_ne_SCN_TTIME t), rd_setFld_ne _ _ _ (SCN_TRUNS_ne_SCN_TTIME t), bump, rd_wr_same]
  rfl

theorem fld_runTimed_last (s : State) (t : Nat) {us : Nat} (h : us < 2 ^ 16) : fld (runTimed s t us) (R.SCN_TTIME t) F.SCN_TTIME_LAST_US = us := by
  rw [runTimed, fld_setFld_other _ _ _ _ _ (by decide) (by decide) (.inl (by decide)), fld_setFld_same _ _ _ _ (by decide) (by decide)]
  exact Nat.mod_eq_of_lt h

theorem usUp_lt (ns : Nat) : usUp ns < 2 ^ 16 := by
  rw [usUp]
  omega

/-! ## The end step -/

/-- The task's record after a run. -/
def endedTask (x : TaskState) (r : Run) : TaskState := { x with run := none, prevDone := some r.release }

/-- The run has been counted, and its task has none. -/
def runEnded (s : State) (t : Nat) (r : Run) : State := setTask (runTimed s t (usUp r.execNs)) t (endedTask (taskAt s t) r)

/-- The same, with the core free and CONSEC 0. -/
def runCounted (s : State) (t : Nat) (r : Run) : State := setFld (freeCore (runEnded s t r) t r.execNs) (R.SCN_TSTAT t) F.SCN_TSTAT_CONSEC 0

theorem runEnd_quiet {s : State} {t : Nat} {r : Run} (pair : pairActive s = false) (mode : modeNow s ≠ mdSTANDBY) (drops : r.drops = 0)
    (denials : r.denials = 0) : runEnd s t r = leaveRun (runCounted s t r) t := by
  have task : taskAt (runTimed s t (usUp r.execNs)) t = taskAt s t := taskAt_of_onlyRegs (onlyRegs_runTimed s t _) t
  unfold runEnd
  simp only [mirrorRun_lone pair mode, drops, denials, if_true, bne_self_eq_false, Bool.false_and, Bool.false_eq_true, if_false]
  rw [runCounted, runEnded, ← task]
  rfl

theorem rd_runEnded (s : State) (t : Nat) (r : Run) (k : Nat) : rd (runEnded s t r) k = rd (runTimed s t (usUp r.execNs)) k := by
  rw [runEnded, rd_setTask]

theorem fld_runEnded_core (s : State) {t : Nat} (r : Run) (c : Nat) {k : Nat} (h : k = R.SCN_TCFG t ∨ k = R.SCC_STATUS c) (f : Fld) :
    fld (runEnded s t r) k f = fld s k f := by
  rw [fld, rd_runEnded, ← fld]
  refine fld_of_sameRegs (onlyRegs_runTimed s t (usUp r.execNs)).regs ?_ f
  simp only [List.mem_cons, List.not_mem_nil, or_false, not_or, R.SCN_TCFG, R.SCC_STATUS, R.SCN_TRUNS, R.SCN_TTIME, regKey] at h ⊢
  omega

theorem taskCore_runEnded (s : State) (t : Nat) (r : Run) : taskCore (runEnded s t r) t = taskCore s t := fld_runEnded_core s r 0 (.inl rfl) _

/-- The registers that the end step writes. -/
abbrev endKeys (s : State) (t : Nat) : List Nat := [R.SCN_TRUNS t, R.SCN_TTIME t, R.SCN_TSTAT t, R.SCC_STATUS (taskCore s t)]

theorem scanUpdate_runCounted (s : State) (t : Nat) (r : Run) : ScanUpdate (endKeys s t) s (runCounted s t r) := by
  have core : R.SCC_STATUS (taskCore (runEnded s t r) t) ∈ endKeys s t := by
    rw [taskCore_runEnded]
    simp
  have timed : ScanUpdate (endKeys s t) s (runTimed s t (usUp r.execNs)) := scanUpdate_of_onlyRegs (onlyRegs_runTimed s t _) (by simp)
  have consec (u : State) : ScanUpdate (endKeys s t) u (setFld u (R.SCN_TSTAT t) F.SCN_TSTAT_CONSEC 0) :=
    scanUpdate_of_onlyRegs (onlyRegs_setFld (ks := [R.SCN_TSTAT t]) _ _ _ List.mem_cons_self) (by simp)
  exact ((timed.trans (scanUpdate_setTask _ _ t _)).trans (scanUpdate_freeCore (runEnded s t r) t _ core)).trans (consec _)

theorem taskAt_runCounted (s : State) (t : Nat) (r : Run) : taskAt (runCounted s t r) t = endedTask (taskAt s t) r :=
  (taskAt_freeCore (runEnded s t r) t r.execNs t).trans (taskAt_setTask_same _ t _)

/-- A register that neither the core's status nor the task's status is reads as the run's count and time leave it. -/
theorem rd_runCounted (s : State) {t k : Nat} (r : Run) (core : k ≠ R.SCC_STATUS (taskCore s t)) (stat : k ≠ R.SCN_TSTAT t) :
    rd (runCounted s t r) k = rd (runTimed s t (usUp r.execNs)) k := by
  have freed := (onlyRegs_freeCore (runEnded s t r) t r.execNs).regs k (by rw [taskCore_runEnded]; simpa using core)
  rw [runCounted, rd_setFld_ne _ _ _ stat, freed, rd_busyAdded, rd_runEnded]

theorem curTask_runCounted {s : State} {t : Nat} (r : Run) (ht : t < 64) (own : curTask s (taskCore s t) = t) :
    curTask (runCounted s t r) (taskCore s t) = 0x7F := by
  have ends : curTask (runEnded s t r) (taskCore (runEnded s t r) t) = t := by
    rw [taskCore_runEnded, curTask, fld_runEnded_core s r (taskCore s t) (.inr rfl)]
    exact own
  rw [curTask, runCounted, fld_setFld_ne _ _ _ _ (SCC_STATUS_ne_SCN_TSTAT _ ht), freeCore_own _ ends, taskCore_runEnded]
  exact curTask_setCurTask _ _ (by decide)

/-! ## The task leaves its run -/

/-- The state that a quiet run leaves behind. -/
def runLeft (s : State) (t : Nat) (r : Run) : State := showPend (setTaskState (runCounted s t r) t tsIDLE) t

theorem onlyRegs_runLeft (s : State) (t : Nat) (r : Run) : OnlyRegs [R.SCN_TSTAT t] (runCounted s t r) (runLeft s t r) :=
  (onlyRegs_setTaskState _ t _).trans (onlyRegs_showPend _ t)

theorem pfw_runCounted (s : State) (t : Nat) (r : Run) : (runCounted s t r).scan.pfw = s.scan.pfw := by
  have freed := scan_of_onlyRegs (onlyRegs_freeCore (runEnded s t r) t r.execNs)
  rw [runCounted, setFld_scan, freed]
  rfl

/-- An enabled task that may be released and holds no event leaves a quiet run for IDLE. -/
theorem leaveRun_runCounted {s : State} {t : Nat} (r : Run) (ht : t < 64) (enabled : taskEnabled s t = true) (may : mayRelease s t = true)
    (held : (taskAt s t).held = false) : leaveRun (runCounted s t r) t = runLeft s t r := by
  have regs := (scanUpdate_runCounted s t r).regs
  obtain ⟨cfg, mode, page⟩ := release_keys (taskCore s t) ht
  refine leaveRun_idle ht ?_ ?_ ?_
  · exact (congrArg (· != 0) (fld_of_sameRegs regs cfg _)).trans enabled
  · exact (mayRelease_congr regs (pfw_runCounted s t r) cfg mode page).trans may
  · rw [taskAt_runCounted]
    exact held

theorem retentionRun_quiet {s : State} {t : Nat} {r : Run} {m : Mould} {e : TaskEnt} (ht : t < 64) (run : (taskAt s t).run = some r)
    (entry : taskEntry s t = some (m, e)) (running : taskStateOf s t = tsRUNNING) (step : r.step = .retention) (dirty : r.dirty = [])
    (drops : r.drops = 0) (denials : r.denials = 0) (pair : pairActive s = false) (mode : modeNow s ≠ mdSTANDBY)
    (retain : hasRetain m e r = false) (fill : stageFill s ≤ 524288) (enabled : taskEnabled s t = true) (may : mayRelease s t = true)
    (held : (taskAt s t).held = false) : retentionRun s t = runLeft s t (endingRun r) := by
  rw [retentionRun_nothing run entry running step dirty retain fill, runEnd_quiet (r := endingRun r) pair mode drops denials,
    leaveRun_runCounted _ ht enabled may held]

theorem end_keys_ne (c t : Nat) :
    R.SCN_TRUNS t ≠ R.SCC_STATUS c ∧ R.SCN_TRUNS t ≠ R.SCN_TSTAT t ∧ R.SCN_TTIME t ≠ R.SCC_STATUS c ∧
    R.SCN_TTIME t ≠ R.SCN_TSTAT t := by
  simp only [R.SCN_TRUNS, R.SCN_TTIME, R.SCN_TSTAT, R.SCC_STATUS, regKey]
  omega

theorem rd_runLeft (s : State) {t k : Nat} (r : Run) (core : k ≠ R.SCC_STATUS (taskCore s t)) (stat : k ≠ R.SCN_TSTAT t) :
    rd (runLeft s t r) k = rd (runTimed s t (usUp r.execNs)) k :=
  ((onlyRegs_runLeft s t r).regs k (by simpa using stat)).trans (rd_runCounted s r core stat)

theorem curTask_runLeft {s : State} {t : Nat} (r : Run) (ht : t < 64) (own : curTask s (taskCore s t) = t) :
    curTask (runLeft s t r) (taskCore s t) = 0x7F :=
  (fld_of_sameRegs (onlyRegs_runLeft s t r).regs (by simpa using SCC_STATUS_ne_SCN_TSTAT _ ht) _).trans (curTask_runCounted r ht own)

theorem taskStateOf_runLeft (s : State) (t : Nat) (r : Run) : taskStateOf (runLeft s t r) t = tsIDLE :=
  (taskStateOf_showPend _ t).trans (taskStateOf_setTaskState _ t (by decide))

/-- CONSEC is 0: no drop fell into the run. -/
theorem consec_runLeft (s : State) (t : Nat) (r : Run) : fld (runLeft s t r) (R.SCN_TSTAT t) F.SCN_TSTAT_CONSEC = 0 := by
  rw [runLeft, fld_showPend _ t (by decide), setTaskState, fld_setFld_other _ _ _ _ _ (by decide) (by decide) (.inl (by decide)), runCounted,
    fld_setFld_same _ _ _ _ (by decide) (by decide)]
  rfl

theorem taskAt_runLeft (s : State) (t : Nat) (r : Run) : taskAt (runLeft s t r) t = endedTask (taskAt s t) r :=
  (taskAt_of_onlyRegs (onlyRegs_runLeft s t r) t).trans (taskAt_runCounted s t r)

theorem scanUpdate_runLeft (s : State) (t : Nat) (r : Run) : ScanUpdate (endKeys s t) s (runLeft s t r) :=
  (scanUpdate_runCounted s t r).trans (scanUpdate_of_onlyRegs (onlyRegs_runLeft s t r) (by simp))

/-- Settles O35: each step of the run beside its program has a state of its own, whose parts the statement names. -/
theorem runStepsMoveImagesAndEnd : Obligations.RunStepsMoveImagesAndEnd := by
  unfold Obligations.RunStepsMoveImagesAndEnd
  intro s n r m e run entry running
  refine ⟨fun w step wdog base readable => ?_, fun w pid step table deferred live may unforced hold quality => ?_,
    fun step dirty drops denials pair mode retain fill enabled may held own => ?_⟩
  · obtain ⟨hash, latch⟩ := latchRun_open (w := w) run entry running step wdog readable
    exact ⟨_, (exec_inputLatch s n w).trans (congrArg _ latch), ⟨_, congrArg TaskState.run (taskAt_setTask_same _ n.val _), rfl, rfl, rfl⟩,
      fun i hi => bytesAt_latchedState s n.val w _ hi base, fun a ha => byteAt_latchedState s n.val w m e _ ha,
      pointAt_latchedState s n.val w m e _⟩
  · obtain ⟨hash, twin, written⟩ := writeBackRun_single (w := w) run entry running step table deferred live may unforced hold quality
    have points := pointAt_writtenState s n.val w (m.dataAt + e.outImg) pid twin (writtenRun r w hash)
    exact ⟨_, (exec_outputWriteBack s n w).trans (congrArg _ written), (points pid).trans (if_pos rfl), fun k hk => (points k).trans (if_neg hk),
      ⟨_, congrArg TaskState.run (taskAt_setTask_same _ n.val _), rfl, rfl⟩⟩
  · have ended := (exec_retentionCopy s n).trans (congrArg _ (retentionRun_quiet n.isLt run entry running step dirty drops denials pair mode
      retain fill enabled may held))
    have task := taskAt_runLeft s n.val (endingRun r)
    obtain ⟨runsCore, runsStat, timeCore, timeStat⟩ := end_keys_ne (taskCore s n.val) n.val
    obtain ⟨regs, bytes, points⟩ := scanUpdate_runLeft s n.val (endingRun r)
    refine ⟨_, ended, congrArg TaskState.run task, congrArg TaskState.prevDone task, taskStateOf_runLeft s n.val _,
      curTask_runLeft _ n.isLt own, ?_, ?_, consec_runLeft s n.val _, regs, bytes, points⟩
    · rw [rd_runLeft s _ runsCore runsStat, rd_runTimed_runs]
    · rw [fld, rd_runLeft s _ timeCore timeStat, ← fld, fld_runTimed_last s n.val (usUp_lt _)]
      rfl

end Sys2Proof.Machine
end

section
/-! SUPPORT. Causes posted to a flask (R96, R98), and tasks that halt (R86). -/

namespace Sys2Proof.Machine

open Sys2Proof.Safety

/-! ## A cause -/

/-- LAST_CAUSE shows a cause of a task. -/
def causeShown (s : State) (code task : Nat) : State := if task < 64 then setFld s (R.SCN_TSTAT task) F.SCN_TSTAT_LAST_CAUSE code else s

theorem onlyRegs_causeShown (s : State) (code task : Nat) : OnlyRegs [R.SCN_TSTAT task] s (causeShown s code task) := by
  unfold causeShown
  split
  · exact onlyRegs_setFld s _ _ List.mem_cons_self
  · exact OnlyRegs.refl _ s

/-- The core that takes an undelivered cause: the task's, or core 0 (R98). -/
def causeCore (s : State) (task : Nat) : Nat := if task < 64 then taskCore s task else 0

theorem causeCore_lt (s : State) (task : Nat) : causeCore s task < 8 := by
  unfold causeCore
  split
  · exact fld_lt s (R.SCN_TCFG task) F.SCN_TCFG_CORE
  · decide

/-- The registers of a core that an undelivered cause may change: its record and its interrupt. -/
abbrev undeliveredKeys (c : Nat) : List Nat := [R.SCC_UCAUSE c, R.SCC_UDETAIL c, R.PG_ISR (0x39 + c), R.EVT_PEND ((0x39 + c) / 32)]

/-- An undelivered cause stands in the core's registers, the first of them whole. -/
def causeUndelivered (s : State) (c : Nat) (w detail : Word) : State :=
  raiseBit (if flag s (R.SCC_UCAUSE c) F.SCC_UCAUSE_VALID then setFld s (R.SCC_UCAUSE c) F.SCC_UCAUSE_OVF 1
    else wr (wr s (R.SCC_UCAUSE c) w) (R.SCC_UDETAIL c) detail) (0x39 + c) 0

theorem causeUndelivered_update (s : State) (c : Nat) (w detail : Word) :
    ScanUpdate (undeliveredKeys c) s (causeUndelivered s c w detail) ∧ (causeUndelivered s c w detail).scan = s.scan := by
  unfold causeUndelivered
  refine ⟨?_, ?_⟩
  · refine ScanUpdate.trans ?_ (scanUpdate_raiseBit _ _ (by simp) (by simp))
    split
    · exact scanUpdate_of_onlyRegs (onlyRegs_setFld s _ _ List.mem_cons_self) (List.Subset.refl _)
    · exact scanUpdate_of_onlyRegs ((onlyRegs_wr s _ (by simp)).trans (onlyRegs_wr _ _ (by simp))) (List.Subset.refl _)
  · rw [raiseBit_scan]
    split <;> rfl

/-- A cause goes into its flask's queue, or into the registers of a core, after LAST_CAUSE has shown it. -/
theorem postCause_cases (s : State) (f code task : Nat) (detail : Word) :
    (∃ q, postCause s f code task detail = setCauseQueue (causeShown s code task) f q) ∨
    ∃ w, postCause s f code task detail = causeUndelivered (causeShown s code task) (causeCore (causeShown s code task) task) w detail := by
  by_cases delivered : undelivered (causeShown s code task) f task = 0
  · left
    by_cases room : (causeQueue (causeShown s code task) f).records.length < 16
    · exact ⟨_, (if_pos delivered).trans (if_pos room)⟩
    · exact ⟨_, (if_pos delivered).trans (if_neg room)⟩
  · exact .inr ⟨_, if_neg delivered⟩

theorem postCause_update (s : State) (f code task : Nat) (detail : Word) :
    ScanUpdate (undeliveredKeys (causeCore (causeShown s code task) task)) (causeShown s code task) (postCause s f code task detail) ∧
    ∃ q, (postCause s f code task detail).scan = { s.scan with causes := q } := by
  have shown : (causeShown s code task).scan = s.scan := scan_of_onlyRegs (onlyRegs_causeShown s code task)
  obtain ⟨q, queued⟩ | ⟨w, kept⟩ := postCause_cases s f code task detail
  · rw [queued, ← shown]
    exact ⟨scanUpdate_setCauseQueue _ _ f q, _, rfl⟩
  · obtain ⟨update, scan⟩ := causeUndelivered_update (causeShown s code task) (causeCore (causeShown s code task) task) w detail
    rw [kept, scan, shown]
    exact ⟨update, s.scan.causes, rfl⟩

/-- A register of the scan page, or of the NVR page, is none that an undelivered cause may change. -/
theorem undeliveredKeys_not_mem {k c : Nat} (hc : c < 8) (h : k < 0x39 * 4096) (pend : ∀ i, i < 3 → k ≠ R.EVT_PEND i) :
    k ∉ undeliveredKeys c := by
  have event := pend ((0x39 + c) / 32) (by omega)
  simp only [List.mem_cons, List.not_mem_nil, or_false, not_or]
  refine ⟨?_, ?_, ?_, event⟩
  all_goals
    simp only [R.SCC_UCAUSE, R.SCC_UDETAIL, R.PG_ISR, regKey]
    omega

/-- A register below the cores' pages that is not the task's status outlasts a posted cause. -/
theorem rd_postCause (s : State) (f code task : Nat) (detail : Word) {k : Nat} (h : k < 0x39 * 4096) (pend : ∀ i, i < 3 → k ≠ R.EVT_PEND i)
    (stat : k ≠ R.SCN_TSTAT task) : rd (postCause s f code task detail) k = rd s k :=
  ((postCause_update s f code task detail).1.regs k (undeliveredKeys_not_mem (causeCore_lt _ _) h pend)).trans
    ((onlyRegs_causeShown s code task).regs k (by simpa using stat))

/-- SCN_TSTAT and SCN_TCFG stand below the cores' pages, and are no pending words of the event matrix. -/
theorem task_key_page {t k : Nat} (ht : t < 64) (hk : k = R.SCN_TSTAT t ∨ k = R.SCN_TCFG t) : k < 0x39 * 4096 ∧ ∀ i, i < 3 → k ≠ R.EVT_PEND i := by
  simp only [R.SCN_TSTAT, R.SCN_TCFG, R.EVT_PEND, regKey] at hk ⊢
  exact ⟨by omega, fun i hi => by omega⟩

/-- A posted cause of a task shows in its LAST_CAUSE (R96). -/
theorem lastCause_postCause (s : State) (f : Nat) {code task : Nat} (detail : Word) (ht : task < 64) (h : code < 256) :
    fld (postCause s f code task detail) (R.SCN_TSTAT task) F.SCN_TSTAT_LAST_CAUSE = code := by
  obtain ⟨page, pend⟩ := task_key_page ht (.inl rfl)
  rw [fld_of_sameRegs (postCause_update s f code task detail).1.regs (undeliveredKeys_not_mem (causeCore_lt _ _) page pend), causeShown, if_pos ht,
    fld_setFld_same _ _ _ _ (by decide) (by decide)]
  exact Nat.mod_eq_of_lt h

theorem postCause_moves_nothing (s : State) (f code task : Nat) (detail : Word) :
    SameBytes s (postCause s f code task detail) ∧ SamePoints s (postCause s f code task detail) := by
  have shown := onlyRegs_causeShown s code task
  have update := (postCause_update s f code task detail).1
  exact ⟨fun a => (update.bytes a).trans (sameBytes_of_onlyRegs shown a), fun n => (update.points n).trans (samePoints_of_onlyRegs shown n)⟩

theorem taskAt_postCause (s : State) (f code task : Nat) (detail : Word) (n : Nat) : taskAt (postCause s f code task detail) n = taskAt s n := by
  obtain ⟨q, scan⟩ := (postCause_update s f code task detail).2
  rw [taskAt, scan, taskAt]

/-! ## HALTED -/

theorem halt_keys_ne {t : Nat} (ht : t < 64) :
    R.SCN_TSTAT t ≠ R.SCN_TCFG t ∧ R.SCN_TSTAT t ≠ R.PG_ISR 0x38 ∧ R.SCN_TSTAT t ≠ R.EVT_PEND (0x38 / 32) ∧
    R.SCN_TCFG t ≠ R.PG_ISR 0x38 ∧ R.SCN_TCFG t ≠ R.EVT_PEND (0x38 / 32) := by
  simp only [R.SCN_TSTAT, R.SCN_TCFG, R.PG_ISR, R.EVT_PEND, regKey]
  omega

abbrev haltKeys (t : Nat) : List Nat := [R.SCN_TSTAT t, R.SCN_TCFG t, R.PG_ISR 0x38, R.EVT_PEND (0x38 / 32)]

theorem scanUpdate_haltTask (s : State) (t : Nat) : ScanUpdate (haltKeys t) s (haltTask s t) :=
  ((scanUpdate_of_onlyRegs (onlyRegs_setTaskState s t tsHALTED) (by simp)).trans
    (scanUpdate_of_onlyRegs (onlyRegs_setFld (ks := [R.SCN_TCFG t]) _ _ _ List.mem_cons_self) (by simp))).trans
    (scanUpdate_raiseBit _ 1 (by simp) (by simp))

theorem taskAt_haltTask (s : State) (t n : Nat) : taskAt (haltTask s t) n = taskAt s n := by
  rw [taskAt, haltTask, raiseBit_scan]
  rfl

/-- The status of a task that halts: HALTED, with its last cause as it was. -/
theorem rd_haltTask_stat (s : State) {t : Nat} (ht : t < 64) :
    rd (haltTask s t) (R.SCN_TSTAT t) = rd (setTaskState s t tsHALTED) (R.SCN_TSTAT t) := by
  obtain ⟨cfg, isr, pend, -, -⟩ := halt_keys_ne ht
  rw [haltTask, rd_raiseBit_ne _ isr pend, rd_setFld_ne _ _ _ cfg]

theorem taskStateOf_haltTask (s : State) {t : Nat} (ht : t < 64) : taskStateOf (haltTask s t) t = tsHALTED := by
  rw [taskStateOf, fld, rd_haltTask_stat s ht]
  exact taskStateOf_setTaskState s t (by decide)

theorem lastCause_haltTask (s : State) {t : Nat} (ht : t < 64) :
    fld (haltTask s t) (R.SCN_TSTAT t) F.SCN_TSTAT_LAST_CAUSE = fld s (R.SCN_TSTAT t) F.SCN_TSTAT_LAST_CAUSE := by
  rw [fld, rd_haltTask_stat s ht]
  exact fld_setFld_other s _ F.SCN_TSTAT_STATE _ _ (by decide) (by decide) (.inl (by decide))

theorem taskEnabled_haltTask (s : State) {t : Nat} (ht : t < 64) : taskEnabled (haltTask s t) t = false := by
  obtain ⟨-, -, -, isr, pend⟩ := halt_keys_ne ht
  rw [taskEnabled, flag, fld, haltTask, rd_raiseBit_ne _ isr pend, ← fld, fld_setFld_same _ _ _ _ (by decide) (by decide)]
  rfl

theorem haltTask_interrupt (s : State) (t : Nat) : (rd (haltTask s t) (R.PG_ISR 0x38)).getLsbD 1 = true := raiseBit_isr_bit _ (by decide) (by decide)

end Sys2Proof.Machine
end

section
/-! SUPPORT. The watchdog (R86). -/

namespace Sys2Proof.Machine

open Sys2Proof.Safety

theorem exec_watchdogExpiry (s : State) (t : Fin 64) : exec (.watchdogExpiry t) s = .next (watchdogCut s t.val) := rfl

/-- A run has gone, and its core is free. -/
def runGone (s : State) (t : Nat) (r : Run) : State := freeCore (setTask s t { taskAt s t with run := none }) t r.execNs

theorem scanUpdate_runGone (s : State) (t : Nat) (r : Run) : ScanUpdate [R.SCC_STATUS (taskCore s t)] s (runGone s t r) :=
  (scanUpdate_setTask _ s t _).trans (scanUpdate_freeCore (setTask s t { taskAt s t with run := none }) t r.execNs List.mem_cons_self)

/-- The state of a cut-off before the task leaves its run: the cause is posted. -/
def runCut (s : State) (t : Nat) (r : Run) (code : Nat) (detail : Word) : State :=
  postCause (runGone s t r) (taskFlask (runGone s t r) t) code t detail

/-- With TRAP_ACT the task of a run that is cut off halts, and its held event is gone. -/
def runHalted (s : State) (t : Nat) : State := showPend (haltTask (setTask s t { taskAt s t with held := false }) t) t

theorem rd_runCut_cfg (s : State) {t : Nat} (r : Run) (code : Nat) (detail : Word) (ht : t < 64) :
    rd (runCut s t r code detail) (R.SCN_TCFG t) = rd s (R.SCN_TCFG t) := by
  obtain ⟨page, pend⟩ := task_key_page ht (.inr rfl)
  have other : R.SCN_TCFG t ∉ [R.SCC_STATUS (taskCore s t)] := by
    simp only [List.mem_cons, List.not_mem_nil, or_false, R.SCN_TCFG, R.SCC_STATUS, regKey]
    omega
  rw [runCut, rd_postCause _ _ _ _ _ page pend (SCN_TCFG_ne_SCN_TSTAT t ht), (scanUpdate_runGone s t r).regs _ other]

theorem cutOff_halts {s : State} {t : Nat} {r : Run} (ht : t < 64) (run : (taskAt s t).run = some r) (pair : pairActive s = false)
    (mode : modeNow s ≠ mdSTANDBY) (act : flag s (R.SCN_TCFG t) F.SCN_TCFG_TRAP_ACT = true) (code : Nat) (detail : Word) :
    cutOff s t code detail = runHalted (runCut s t r code detail) t := by
  have acts : flag (runCut s t r code detail) (R.SCN_TCFG t) F.SCN_TCFG_TRAP_ACT = true := by
    rw [flag, fld, rd_runCut_cfg s r code detail ht]
    exact act
  unfold cutOff
  simp only [run, mirrorRun_lone pair mode]
  exact if_pos acts

theorem runCut_moves_nothing (s : State) (t : Nat) (r : Run) (code : Nat) (detail : Word) :
    SameBytes s (runCut s t r code detail) ∧ SamePoints s (runCut s t r code detail) := by
  have gone := scanUpdate_runGone s t r
  obtain ⟨bytes, points⟩ := postCause_moves_nothing (runGone s t r) (taskFlask (runGone s t r) t) code t detail
  exact ⟨fun a => (bytes a).trans (gone.bytes a), fun n => (points n).trans (gone.points n)⟩

theorem taskAt_runCut (s : State) (t : Nat) (r : Run) (code : Nat) (detail : Word) :
    taskAt (runCut s t r code detail) t = { taskAt s t with run := none } := by
  rw [runCut, taskAt_postCause, runGone, taskAt_freeCore, taskAt_setTask_same]

theorem lastCause_runCut (s : State) {t : Nat} (r : Run) {code : Nat} (detail : Word) (ht : t < 64) (h : code < 256) :
    fld (runCut s t r code detail) (R.SCN_TSTAT t) F.SCN_TSTAT_LAST_CAUSE = code := lastCause_postCause _ _ detail ht h

/-! ## The task that halts -/

theorem onlyRegs_runHalted (s : State) (t : Nat) :
    OnlyRegs [R.SCN_TSTAT t] (haltTask (setTask s t { taskAt s t with held := false }) t) (runHalted s t) := onlyRegs_showPend _ t

theorem taskAt_runHalted (s : State) (t : Nat) : taskAt (runHalted s t) t = { taskAt s t with held := false } := by
  rw [taskAt_of_onlyRegs (onlyRegs_runHalted s t), taskAt_haltTask, taskAt_setTask_same]

theorem scanUpdate_runHalted (s : State) (t : Nat) : ScanUpdate (haltKeys t) s (runHalted s t) :=
  ((scanUpdate_setTask _ s t _).trans (scanUpdate_haltTask _ t)).trans (scanUpdate_of_onlyRegs (onlyRegs_runHalted s t) (by simp))

theorem taskStateOf_runHalted (s : State) {t : Nat} (ht : t < 64) : taskStateOf (runHalted s t) t = tsHALTED :=
  (taskStateOf_showPend _ t).trans (taskStateOf_haltTask _ ht)

theorem taskEnabled_runHalted (s : State) {t : Nat} (ht : t < 64) : taskEnabled (runHalted s t) t = false :=
  (congrArg (· != 0) (fld_of_sameRegs (onlyRegs_runHalted s t).regs (by simpa using SCN_TCFG_ne_SCN_TSTAT t ht) _)).trans
    (taskEnabled_haltTask _ ht)

theorem lastCause_runHalted (s : State) {t : Nat} (ht : t < 64) :
    fld (runHalted s t) (R.SCN_TSTAT t) F.SCN_TSTAT_LAST_CAUSE = fld s (R.SCN_TSTAT t) F.SCN_TSTAT_LAST_CAUSE := by
  rw [runHalted, fld_showPend _ t (by decide), lastCause_haltTask _ ht, fld, rd_setTask, ← fld]

theorem runHalted_interrupt (s : State) {t : Nat} (ht : t < 64) : (rd (runHalted s t) (R.PG_ISR 0x38)).getLsbD 1 = true := by
  obtain ⟨-, isr, -, -, -⟩ := halt_keys_ne ht
  rw [(onlyRegs_runHalted s t).regs _ (by simpa using isr.symm)]
  exact haltTask_interrupt _ t

/-- The watchdog of a run cuts it off with cause WATCHDOG, and with TRAP_ACT its task halts. -/
theorem watchdogCut_halts {s : State} {t : Nat} {r : Run} (ht : t < 64) (run : (taskAt s t).run = some r) (pair : pairActive s = false)
    (mode : modeNow s ≠ mdSTANDBY) (act : flag s (R.SCN_TCFG t) F.SCN_TCFG_TRAP_ACT = true) :
    ∃ detail, watchdogCut s t = runHalted (runCut s t r 3 detail) t := ⟨_, cutOff_halts ht run pair mode act 3 _⟩

end Sys2Proof.Machine
end

section
/-! SUPPORT. The retention batches (R90, R92). -/

namespace Sys2Proof.Machine

open Sys2Proof.Safety

theorem exec_retentionBatchDrain (s : State) (ok : Bool) (failAt : Word) :
    exec (.retentionBatchDrain ok failAt) s = .next (drainBatch s ok failAt) := rfl

/-- A batch has left the staging buffer. -/
def batchTaken (s : State) (b : Batch) : State := { s with scan := { s.scan with batches := s.scan.batches.erase b } }

/-- A batch that is written is applied to its flask's retentive data. -/
def batchApplied (s : State) (b : Batch) : State := setNvr (batchTaken s b) b.flask (b.granules.foldl applyGranule (nvrOf s b.flask))

/-- A batch that failed is counted and reported, to its flask too. -/
def batchFailed (s : State) (b : Batch) (failAt : Word) : State :=
  raiseBit (postCause (nvrWriteFail (batchTaken s b)) b.flask 9 b.task failAt) 0x38 2

/-- The first batch whose flask has no generation waiting is the one that drains. -/
theorem drainBatch_first {s : State} {b : Batch} (first : s.scan.batches.find? (fun b => (newGenOf s b.flask).isNone) = some b) (failAt : Word) :
    drainBatch s true failAt = batchApplied s b ∧ drainBatch s false failAt = batchFailed s b failAt := by
  unfold drainBatch
  rw [first]
  exact ⟨rfl, rfl⟩

theorem nvrOf_batchApplied (s : State) (b : Batch) (f : Nat) :
    nvrOf (batchApplied s b) f = if f = b.flask then b.granules.foldl applyGranule (nvrOf s b.flask) else nvrOf s f :=
  tget_tput s.scan.nvr b.flask f _

/-- A failed batch leaves the retentive data: it is gone from the buffer, and a cause may be queued. -/
theorem scan_batchFailed (s : State) (b : Batch) (failAt : Word) :
    ∃ q, (batchFailed s b failAt).scan = { s.scan with batches := s.scan.batches.erase b, causes := q } := by
  obtain ⟨q, scan⟩ := (postCause_update (nvrWriteFail (batchTaken s b)) b.flask 9 b.task failAt).2
  have counted : (nvrWriteFail (batchTaken s b)).scan = (batchTaken s b).scan := by rw [nvrWriteFail, raiseBit_scan, bumpSat_scan]
  rw [batchFailed, raiseBit_scan, scan, counted]
  exact ⟨q, rfl⟩

theorem NVR_WRFAIL_keys :
    (R.NVR_WRFAIL ≠ R.PG_ISR 0x38 ∧ R.NVR_WRFAIL ≠ R.PG_ISR 0x0B) ∧ R.NVR_WRFAIL < 0x39 * 4096 ∧
    (∀ i, i < 3 → R.NVR_WRFAIL ≠ R.EVT_PEND i) ∧ ∀ t, R.NVR_WRFAIL ≠ R.SCN_TSTAT t := by
  refine ⟨by decide, by decide, by decide, fun t => ?_⟩
  simp only [R.NVR_WRFAIL, R.SCN_TSTAT, regKey]
  omega

/-- NVR_WRFAIL counts a failed batch (R92). -/
theorem rd_batchFailed_count (s : State) (b : Batch) (failAt : Word) :
    (rd (batchFailed s b failAt) R.NVR_WRFAIL).toNat = min 0xFFFFFFFF ((rd s R.NVR_WRFAIL).toNat + 1) := by
  obtain ⟨⟨isrScan, isrNvr⟩, page, pend, stat⟩ := NVR_WRFAIL_keys
  rw [batchFailed, rd_raiseBit_ne _ isrScan (pend (0x38 / 32) (by decide)), rd_postCause _ _ _ _ _ page pend (stat b.task), nvrWriteFail,
    rd_raiseBit_ne _ isrNvr (pend (0x0B / 32) (by decide)), rd_bumpSat_one]
  rfl

/-- Settles O36: a run that is cut off is posted before its task halts, and a batch that drains is applied or counted. -/
theorem watchdogAndDrainEndTheirWork : Obligations.WatchdogAndDrainEndTheirWork := by
  unfold Obligations.WatchdogAndDrainEndTheirWork
  intro s
  refine ⟨fun n r run pair mode act => ?_, fun b failAt first => ?_⟩
  · obtain ⟨detail, cut⟩ := watchdogCut_halts n.isLt run pair mode act
    have task := (taskAt_runHalted (runCut s n.val r 3 detail) n.val).trans (by rw [taskAt_runCut])
    obtain ⟨cutBytes, cutPoints⟩ := runCut_moves_nothing s n.val r 3 detail
    obtain ⟨-, bytes, points⟩ := scanUpdate_runHalted (runCut s n.val r 3 detail) n.val
    exact ⟨_, (exec_watchdogExpiry s n).trans (congrArg _ cut), congrArg TaskState.run task, taskStateOf_runHalted _ n.isLt,
      taskEnabled_runHalted _ n.isLt, (lastCause_runHalted _ n.isLt).trans (lastCause_runCut s r detail n.isLt (by decide)),
      runHalted_interrupt _ n.isLt, fun a => (bytes a).trans (cutBytes a), fun k => (points k).trans (cutPoints k)⟩
  · obtain ⟨applied, failed⟩ := drainBatch_first first failAt
    have nvr := nvrOf_batchApplied s b
    obtain ⟨q, scan⟩ := scan_batchFailed s b failAt
    refine ⟨⟨_, (exec_retentionBatchDrain s true failAt).trans (congrArg _ applied), rfl, (nvr b.flask).trans (if_pos rfl),
      fun f hf => (nvr f).trans (if_neg hf), rfl⟩, ⟨_, (exec_retentionBatchDrain s false failAt).trans (congrArg _ failed), ?_, fun f => ?_,
      rd_batchFailed_count s b failAt, raiseBit_isr_bit _ (by decide) (by decide)⟩⟩
    · rw [scan]
    · rw [nvrOf, scan, nvrOf]

end Sys2Proof.Machine
end

section
/-! SUPPORT. Writes of SCN_TCFG (R70, R78, R87, R88). -/

namespace Sys2Proof.Machine

open Sys2Proof.Safety

/-! ## The register -/

/-- The field table of SCN_TCFG. -/
def scnTcfgDesc : RegDesc :=
  ⟨0x100, [(64, 0x10)], .one,
    [⟨31, 31, .rwp, 0, [], 1⟩, ⟨30, 28, .rwp, 0, [(0x0, 0x2)], 1⟩, ⟨27, 27, .rsv, 0, [], 1⟩, ⟨26, 24, .rwp, 0, [], 1⟩, ⟨23, 20, .rsv, 0, [], 1⟩,
     ⟨19, 16, .rwp, 0, [], 1⟩, ⟨15, 13, .rsv, 0, [], 1⟩, ⟨12, 8, .rwp, 0, [], 1⟩, ⟨7, 3, .rsv, 0, [], 1⟩, ⟨2, 2, .rwp, 1, [], 1⟩,
     ⟨1, 1, .rwp, 0, [], 1⟩, ⟨0, 0, .rsv, 0, [], 1⟩]⟩

theorem findReg_SCN_TCFG : ∀ n : Fin 64, findReg 0x38 (0x100 + 16 * n.val) = some scnTcfgDesc := by decide

theorem tcfg_range (n : Fin 64) : pageIn (0x100 + 16 * n.val) 0x100 0x4FF = true := pageIn_of_le (by omega) (by omega)

theorem tcfg_index (n : Nat) : (0x100 + 16 * n) % 16 = 0 ∧ (0x100 + 16 * n - 0x100) / 16 = n := by omega

/-- EN of SCN_TCFG is written as the word gives it. -/
theorem writtenWord_SCN_TCFG_en (old v : Word) : bits (writtenWord scnTcfgDesc old v) 31 31 = bits v 31 31 := by
  have low (w : Word) (hi lo x : Nat) (h : lo ≤ hi) (h31 : hi < 31) : bits (withBits w hi lo x) 31 31 = bits w 31 31 :=
    bits_withBits_ne w x h (by omega) (.inr h31)
  have fields : writtenWord scnTcfgDesc old v = withBits (withBits (withBits (withBits (withBits (withBits (withBits old 31 31 (bits v 31 31))
      30 28 (bits v 30 28)) 26 24 (bits v 26 24)) 19 16 (bits v 19 16)) 12 8 (bits v 12 8)) 2 2 (bits v 2 2)) 1 1 (bits v 1 1) := rfl
  rw [fields, low _ 1 1 _ (by decide) (by decide), low _ 2 2 _ (by decide) (by decide), low _ 12 8 _ (by decide) (by decide),
    low _ 19 16 _ (by decide) (by decide), low _ 26 24 _ (by decide) (by decide), low _ 30 28 _ (by decide) (by decide),
    bits_withBits_same _ _ (by decide) (by decide)]
  exact Nat.mod_eq_of_lt (bits_lt v 31 31)

/-- The word that TASK_ENABLE and TASK_DISABLE give SCN_TCFG. -/
abbrev tcfgWord (v : Word) (on : Bool) : Word := withBits v 31 31 (b2n on)

theorem tcfgWord_en (v : Word) (on : Bool) : bit (tcfgWord v on) 31 = on ∧ bits (tcfgWord v on) 31 31 = b2n on := by
  refine ⟨?_, ?_⟩
  · rw [bit_withBits _ _ _ (by decide) (by decide)]
    cases on <;> rfl
  · rw [bits_withBits_same _ _ (by decide) (by decide)]
    cases on <;> rfl

/-- SCN_TCFGn with its word written. -/
def tcfgWritten (s : State) (n : Fin 64) (v : Word) (on : Bool) : State :=
  wr s (R.SCN_TCFG n.val) (writtenWord scnTcfgDesc (rd s (R.SCN_TCFG n.val)) (tcfgWord v on))

theorem taskEnabled_tcfgWritten (s : State) (n : Fin 64) (v : Word) (on : Bool) : taskEnabled (tcfgWritten s n v on) n.val = on := by
  have en : fld (tcfgWritten s n v on) (R.SCN_TCFG n.val) F.SCN_TCFG_EN = b2n on := by
    rw [fld, tcfgWritten, rd_wr_same]
    exact (writtenWord_SCN_TCFG_en _ _).trans (tcfgWord_en v on).2
  rw [taskEnabled, flag, en]
  cases on <;> rfl

theorem taskStateOf_tcfgWritten (s : State) (n : Fin 64) (v : Word) (on : Bool) : taskStateOf (tcfgWritten s n v on) n.val = taskStateOf s n.val :=
  fld_wr_ne s _ _ (SCN_TCFG_ne_SCN_TSTAT n.val n.isLt).symm

/-! ## The write -/

theorem fnOfReg_page38 (s : State) (off : Nat) : fnOfReg s 0x38 off = none := by simp [fnOfReg, pageIn]

/-- The conditions of R70 hold a write that sets EN of a task that is DISABLED or HALTED. -/
theorem chapterCode_SCN_TCFG (s : State) (n : Fin 64) (v : Word) : chapterCode s 0x38 (0x100 + 16 * n.val) v =
    if bit v 31 && (taskStateOf s n.val == tsDISABLED || taskStateOf s n.val == tsHALTED) then enableTaskCheck s n.val v (queueOwner s)
    else .none := by
  obtain ⟨aligned, index⟩ := tcfg_index n.val
  unfold chapterCode
  simp only [fnOfReg_page38, tcfg_range, aligned, index, and_self, if_true]

theorem afterWrite_SCN_TCFG (s : State) (q : Requester) (n : Fin 64) (old v : Word) :
    afterWrite s q 0x38 (0x100 + 16 * n.val) old v = (taskEnWrite s n.val v, .none) := by
  obtain ⟨aligned, index⟩ := tcfg_index n.val
  have enWrite : afterWrite s q 0x38 (0x100 + 16 * n.val) old v =
      if pageIn (0x100 + 16 * n.val) 0x100 0x4FF ∧ (0x100 + 16 * n.val) % 16 = 0 then (taskEnWrite s ((0x100 + 16 * n.val - 0x100) / 16) v, .none)
      else if 0x100 + 16 * n.val = 0x40 then (clearCounters s v, .none) else (s, .none) := by
    unfold afterWrite
    rw [fnOfReg_page38]
    rfl
  rw [enWrite, if_pos ⟨tcfg_range n, aligned⟩, index]

/-- The state after an accepted write of SCN_TCFG, where EN has made `r` of the state with the word written. -/
def tcfgEnded (r : State) (n : Fin 64) (v : Word) (on : Bool) : State :=
  answer (forwardConfig r 0x38 (0x100 + 16 * n.val) (tcfgWord v on)) .none

theorem onlyRegs_tcfgEnded (ks : List Nat) (r : State) (n : Fin 64) (v : Word) (on : Bool) : OnlyRegs ks r (tcfgEnded r n v on) :=
  (onlyRegs_forwardConfig ks r _ _ _).trans (onlyRegs_answer ks _ _)

/-- A write of SCN_TCFG that meets its conditions sets the word and then enables or disables the task. -/
theorem writeCommand_SCN_TCFG {s : State} {q : Requester} {n : Fin 64} {v : Word} {on : Bool} (hr : Reaches s q 0x38 (0x100 + 16 * n.val))
    (ha : Awake s 0x38) (table : tableCode s 0x38 (0x100 + 16 * n.val) scnTcfgDesc (rd s (R.SCN_TCFG n.val)) (tcfgWord v on) = .none)
    (chapter : chapterCode s 0x38 (0x100 + 16 * n.val) (tcfgWord v on) = .none) :
    writeCommand s q 0x38 (0x100 + 16 * n.val) (tcfgWord v on) =
      tcfgEnded (if on then enableTask (tcfgWritten s n v on) n.val else disableTask (tcfgWritten s n v on) n.val) n v on := by
  have key : keyAt s 0x38 (0x100 + 16 * n.val) scnTcfgDesc = R.SCN_TCFG n.val := rfl
  have act : startsAction 0x38 (0x100 + 16 * n.val) scnTcfgDesc = false := rfl
  have accepted : acceptWrite s q 0x38 (0x100 + 16 * n.val) scnTcfgDesc (tcfgWord v on) =
      (taskEnWrite (tcfgWritten s n v on) n.val (tcfgWord v on), .none) := by
    refine acceptWrite_of_afterWrite (by decide) rfl chapter ?_
    simp only [key, act, Bool.false_eq_true, if_false]
    exact afterWrite_SCN_TCFG _ q n _ _
  have write := (writeCommand_action hr ha rfl (by omega) rfl (findReg_SCN_TCFG n) rfl table rfl).1 _ accepted
  rw [write, taskEnWrite, (tcfgWord_en v on).1]
  rfl

/-! ## A task whose release is withdrawn (R88) -/

/-- A task has taken a state, and its release and its held event are withdrawn. -/
def taskParked (s : State) (t st : Nat) : State :=
  showPend (setTask (setTaskState s t st) t { taskAt s t with held := false, heldExchange := none }) t

theorem onlyRegs_taskParked (s : State) (t st : Nat) :
    OnlyRegs [R.SCN_TSTAT t] (setTask (setTaskState s t st) t { taskAt s t with held := false, heldExchange := none }) (taskParked s t st) :=
  onlyRegs_showPend _ t

theorem taskStateOf_taskParked (s : State) (t : Nat) {st : Nat} (h : st < 8) : taskStateOf (taskParked s t st) t = st :=
  (taskStateOf_showPend _ t).trans (taskStateOf_setTaskState s t h)

theorem held_taskParked (s : State) (t st : Nat) : (taskAt (taskParked s t st) t).held = false := by
  rw [taskAt_of_onlyRegs (onlyRegs_taskParked s t st), taskAt_setTask_same]

theorem scanUpdate_taskParked (s : State) (t st : Nat) : ScanUpdate [R.SCN_TSTAT t] s (taskParked s t st) :=
  ((scanUpdate_of_onlyRegs (onlyRegs_setTaskState s t st) (List.Subset.refl _)).trans (scanUpdate_setTask _ _ t _)).trans
    (scanUpdate_of_onlyRegs (onlyRegs_taskParked s t st) (List.Subset.refl _))

theorem pfw_taskParked (s : State) (t st : Nat) : (taskParked s t st).scan.pfw = s.scan.pfw := by
  rw [scan_of_onlyRegs (onlyRegs_taskParked s t st)]
  rfl

theorem disableTask_idle {s : State} {t : Nat} (h : taskStateOf s t = tsIDLE) : disableTask s t = taskParked s t tsDISABLED := if_pos (.inl h)

theorem refreshTask_barred {s : State} {t : Nat} (idle : taskStateOf s t = tsIDLE) (bar : mayRelease s t = false) :
    refreshTask s t = taskParked s t tsSUSPENDED := by
  simp [refreshTask, taskParked, idle, bar]

theorem mayRelease_taskParked (s : State) {t : Nat} (st : Nat) (ht : t < 64) : mayRelease (taskParked s t st) t = mayRelease s t :=
  mayRelease_of_stat (scanUpdate_taskParked s t st).regs (pfw_taskParked s t st) ht

/-! ## A task that is enabled -/

/-- Clearing LAST_VALID writes memory alone. -/
theorem clearLastValid_mem (s : State) (t : Nat) : ∃ m, clearLastValid s t = { s with mem := m } := by
  have stored (a : Nat → Nat) (l : List Nat) (u : State) : ∃ m, forAll (fun s i => putByte s (a i) 0) l u = { u with mem := m } := by
    induction l generalizing u with
    | nil => exact ⟨u.mem, rfl⟩
    | cons i l ih =>
      obtain ⟨m, rest⟩ := ih (putByte u (a i) 0)
      exact ⟨m, rest⟩
  unfold clearLastValid
  split
  next m e _ => exact stored (fun i => m.dataAt + e.outImg + 32 * i + 0x19) _ s
  next => exact ⟨s.mem, rfl⟩

/-- The record of a task that is enabled: nothing is left of its former releases. -/
def enabledTask (x : TaskState) : TaskState := { x with prevDone := none, held := false, heldExchange := none }

/-- A task that is enabled, IDLE before its first release point. -/
def taskReadied (s : State) (t : Nat) : State := setTaskState (setTask (clearLastValid s t) t (enabledTask (taskAt (clearLastValid s t) t))) t tsIDLE

theorem enableTask_disabled {s : State} {t : Nat} (h : taskStateOf s t = tsDISABLED) : enableTask s t = refreshTask (taskReadied s t) t :=
  if_pos (.inl h)

theorem taskReadied_spec (s : State) (t : Nat) :
    taskStateOf (taskReadied s t) t = tsIDLE ∧ (taskAt (taskReadied s t) t).held = false ∧ SameRegs [R.SCN_TSTAT t] s (taskReadied s t) ∧
    SamePoints s (taskReadied s t) := by
  obtain ⟨m, cleared⟩ := clearLastValid_mem s t
  unfold taskReadied
  rw [cleared]
  have frame := onlyRegs_setTaskState (setTask { s with mem := m } t (enabledTask (taskAt { s with mem := m } t))) t tsIDLE
  refine ⟨taskStateOf_setTaskState _ t (by decide), ?_, frame.regs, fun n => samePoints_of_onlyRegs frame n⟩
  rw [taskAt_of_onlyRegs frame, taskAt_setTask_same]
  rfl

/-- A readied task stays IDLE, or is SUSPENDED while it may not be released (R87, R88). -/
theorem refreshTask_idle_spec {s : State} {t : Nat} (ht : t < 64) (idle : taskStateOf s t = tsIDLE) (held : (taskAt s t).held = false) :
    taskStateOf (refreshTask s t) t = (if mayRelease (refreshTask s t) t then tsIDLE else tsSUSPENDED) ∧
    (taskAt (refreshTask s t) t).held = false ∧ SameRegs [R.SCN_TSTAT t] s (refreshTask s t) ∧ SamePoints s (refreshTask s t) := by
  cases may : mayRelease s t with
  | true =>
    rw [refreshTask_idle idle may, may]
    exact ⟨idle, held, fun _ _ => rfl, fun _ => rfl⟩
  | false =>
    have update := scanUpdate_taskParked s t tsSUSPENDED
    rw [refreshTask_barred idle may, mayRelease_taskParked s _ ht, may]
    exact ⟨taskStateOf_taskParked s t (by decide), held_taskParked s t _, update.regs, update.points⟩

/-! ## The commands -/

theorem exec_taskEnable (s : State) (q : Requester) (n : Fin 64) (v : Word) :
    exec (.taskEnable q n v) s = .next (writeCommand s q 0x38 (0x100 + 16 * n.val) (tcfgWord v true)) := rfl

theorem exec_taskDisable (s : State) (q : Requester) (n : Fin 64) (v : Word) :
    exec (.taskDisable q n v) s = .next (writeCommand s q 0x38 (0x100 + 16 * n.val) (tcfgWord v false)) := rfl

/-- What the end of the command shows of a task is what EN has made of it. -/
theorem tcfgEnded_task (r : State) (n : Fin 64) (v : Word) (on : Bool) (t : Nat) :
    taskStateOf (tcfgEnded r n v on) t = taskStateOf r t ∧ taskEnabled (tcfgEnded r n v on) t = taskEnabled r t ∧
    taskAt (tcfgEnded r n v on) t = taskAt r t ∧ mayRelease (tcfgEnded r n v on) t = mayRelease r t := by
  have frame := onlyRegs_tcfgEnded [] r n v on
  have regs (k : Nat) (f : Fld) : fld (tcfgEnded r n v on) k f = fld r k f := fld_of_sameRegs frame.regs List.not_mem_nil f
  exact ⟨regs _ _, congrArg (· != 0) (regs _ _), taskAt_of_onlyRegs frame t,
    mayRelease_congr frame.regs (congrArg Scan.pfw (scan_of_onlyRegs frame)) List.not_mem_nil List.not_mem_nil fun _ => List.not_mem_nil⟩

/-- The frame of the whole command, from that of what EN does. -/
theorem tcfgEnded_frame {s r : State} {n : Fin 64} {v : Word} {on : Bool} (regs : SameRegs [R.SCN_TSTAT n.val] (tcfgWritten s n v on) r)
    (points : SamePoints (tcfgWritten s n v on) r) :
    SameRegs [R.SCN_TCFG n.val, R.SCN_TSTAT n.val] s (tcfgEnded r n v on) ∧ SamePoints s (tcfgEnded r n v on) := by
  have written : OnlyRegs [R.SCN_TCFG n.val] s (tcfgWritten s n v on) := onlyRegs_wr s _ List.mem_cons_self
  have ended := onlyRegs_tcfgEnded [] r n v on
  refine ⟨fun k hk => ?_, fun m => (samePoints_of_onlyRegs ended m).trans ((points m).trans (samePoints_of_onlyRegs written m))⟩
  simp only [List.mem_cons, List.not_mem_nil, or_false, not_or] at hk
  rw [ended.regs k List.not_mem_nil, regs k (by simpa using hk.2), written.regs k (by simpa using hk.1)]

/-- Settles O38: EN readies a DISABLED task, whose state then shows whether it may be released, and withdraws an IDLE one. -/
theorem tasksEnableAndDisable : Obligations.TasksEnableAndDisable := by
  unfold Obligations.TasksEnableAndDisable
  intro s q n v d hr ha found
  obtain rfl : scnTcfgDesc = d := Option.some.inj ((findReg_SCN_TCFG n).symm.trans found)
  have stat := SCN_TCFG_ne_SCN_TSTAT n.val n.isLt
  refine ⟨fun table check disabled => ?_, fun table idle => ?_⟩
  · have chapter : chapterCode s 0x38 (0x100 + 16 * n.val) (tcfgWord v true) = .none := by
      rw [chapterCode_SCN_TCFG, (tcfgWord_en v true).1, disabled]
      exact (if_pos rfl).trans check
    have run := (exec_taskEnable s q n v).trans (congrArg Host.Outcome.next (writeCommand_SCN_TCFG hr ha table chapter))
    rw [if_pos rfl, enableTask_disabled ((taskStateOf_tcfgWritten s n v true).trans disabled)] at run
    obtain ⟨ready, none_held, readyRegs, readyPoints⟩ := taskReadied_spec (tcfgWritten s n v true) n.val
    obtain ⟨state, held, regs, points⟩ := refreshTask_idle_spec n.isLt ready none_held
    obtain ⟨endState, endEnabled, endTask, endMay⟩ :=
      tcfgEnded_task (refreshTask (taskReadied (tcfgWritten s n v true) n.val) n.val) n v true n.val
    obtain ⟨frame, samePoints⟩ := tcfgEnded_frame (readyRegs.trans regs) (fun m => (points m).trans (readyPoints m))
    refine ⟨_, run, rfl, ?_, ?_, ?_, frame, samePoints⟩
    · rw [endEnabled]
      exact (congrArg (· != 0) (fld_of_sameRegs (readyRegs.trans regs) (by simpa using stat) _)).trans (taskEnabled_tcfgWritten s n v true)
    · rw [endState, endMay, state]
    · rw [endTask, held]
  · have chapter : chapterCode s 0x38 (0x100 + 16 * n.val) (tcfgWord v false) = .none := by
      rw [chapterCode_SCN_TCFG, (tcfgWord_en v false).1]
      rfl
    have run := (exec_taskDisable s q n v).trans (congrArg Host.Outcome.next (writeCommand_SCN_TCFG hr ha table chapter))
    rw [if_neg Bool.false_ne_true, disableTask_idle ((taskStateOf_tcfgWritten s n v false).trans idle)] at run
    have update := scanUpdate_taskParked (tcfgWritten s n v false) n.val tsDISABLED
    obtain ⟨endState, endEnabled, -, -⟩ := tcfgEnded_task (taskParked (tcfgWritten s n v false) n.val tsDISABLED) n v false n.val
    obtain ⟨frame, samePoints⟩ := tcfgEnded_frame update.regs update.points
    refine ⟨_, run, rfl, ?_, ?_, frame, fun a => ?_, samePoints⟩
    · rw [endEnabled]
      exact (congrArg (· != 0) (fld_of_sameRegs update.regs (by simpa using stat) _)).trans (taskEnabled_tcfgWritten s n v false)
    · rw [endState, taskStateOf_taskParked _ _ (by decide)]
    · exact (sameBytes_of_onlyRegs (onlyRegs_tcfgEnded [] _ n v false) a).trans (update.bytes a)

end Sys2Proof.Machine
end

section
/-! SUPPORT. How Cast instructions retire: the cases that Laws/Cast leaves to each instruction (R108, R121, R140). -/

namespace Sys2Proof.Machine

open Sys2Proof.Safety

variable {s : State} {t : Fin 64} {c : CastCtx}

/-- An instruction whose fields are legal retires as its body says. -/
theorem castStep_legal (h : castCtx s t.val = some c) {legal : Bool} (hl : legal = true) (body : CastCtx → CastRes) :
    castStep t legal body s = castRetire c (body c) := by
  rw [castStep_eq h, if_pos hl]

/-- An instruction that ends its program step in time. -/
theorem castRetire_finish {n : Nat} (h : InTime c n) :
    castRetire c (.finish c n) = withRun c c.b { runFor c.r n with step := .writeBack } :=
  if_neg (ne_true_of_eq_false h)

/-- A REG-form operation completes with the word and the flags that it gives. -/
theorem castReg_done (h : castCtx s t.val = some c) {o : RegForm} {legal : Bool} (hl : legal = true) {n : Nat} (hn : InTime c n)
    {op : Word → Word → Word × Nat} {v : Word} {f : Nat} (e : op (breg c.b o.s1) (breg c.b o.s2) = (v, f)) :
    castReg t o legal n op s = afterSet c o.d v f n := by
  rw [castReg_eq h hl hn, e]

end Sys2Proof.Machine
end

section
/-! SUPPORT. Work registers and integer arithmetic (R104, R112, R113, R121). -/

namespace Sys2Proof.Machine

open Sys2Proof.Safety

/-- Settles O7: w0 is no place of the bank, and a write touches the place of its register alone. -/
theorem workRegisterZeroDiscardsWrites : Obligations.WorkRegisterZeroDiscardsWrites := by
  unfold Obligations.WorkRegisterZeroDiscardsWrites
  intro b d n v
  exact ⟨breg_zero b, if_pos rfl, breg_bset b d n v, bset_pc b d v, bset_ib b d v, bset_stack b d v, bset_sticky b d v, bset_tbHi b d v⟩

/-! ## SET -/

theorem not_slt_iff (a b : Word) : (!a.slt b) = true ↔ b.toInt ≤ a.toInt := by rw [← BitVec.sle_eq_not_slt, BitVec.sle_iff_toInt_le]

theorem not_ult_iff (a b : Word) : (!a.ult b) = true ↔ b.toNat ≤ a.toNat := by rw [← BitVec.ule_eq_not_ult, BitVec.ule_iff_toNat_le]

/-- SET with a relation that reads as a proposition gives its truth value (R121). -/
theorem castSetRelation_done {s : State} {t : Fin 64} {c : CastCtx} (h : castCtx s t.val = some c) {o : RegForm} (hn : InTime c 1)
    {x : BitVec 14} (hx : o.x = x) (legal : x.toNat ≤ 5) {p : Prop} [Decidable p]
    (e : setRelation x (breg c.b o.s1) (breg c.b o.s2) = true ↔ p) :
    exec (.set t o) s = .next (afterSet c o.d (if p then 1 else 0) 0 1) := by
  subst hx
  exact congrArg Host.Outcome.next (castReg_done h (decide_eq_true legal) hn (by rw [if_congr e rfl rfl]))

/-- Settles O8: each opcode is a REG-form or an IMM-form operation, and its field check passes. -/
theorem integerArithmeticWritesD : Obligations.IntegerArithmeticWritesD := by
  unfold Obligations.IntegerArithmeticWritesD
  intro s t c h
  have noX {o : RegForm} (hx : o.x = 0) : (o.x == 0) = true := beq_iff_eq.mpr hx
  refine ⟨fun o hx hn => ?_, fun o hx hn => ?_, fun o hn => ⟨fun hx => ?_, fun hx => ?_⟩, fun o hn => ?_, fun o hn => ?_⟩
  · exact ⟨congrArg _ (castReg_done h (noX hx) hn rfl), congrArg _ (castReg_done h (noX hx) hn rfl),
      congrArg _ (castReg_done h (noX hx) hn rfl), congrArg _ (castReg_done h (noX hx) hn rfl),
      congrArg _ (castReg_done h (noX hx) hn rfl)⟩
  · exact congrArg _ (castReg_done h (noX hx) hn rfl)
  · exact congrArg _ (castReg_done h (by simp [signBitOnly, hx]) hn (by rw [hx]; rfl))
  · exact congrArg _ (castReg_done h (by simp [signBitOnly, hx]) hn (by rw [hx]; rfl))
  · exact ⟨congrArg _ (castImm_eq h hn _), congrArg _ (castImm_eq h hn _), congrArg _ (castImm_eq h hn _), congrArg _ (castImm_eq h hn _),
      fun hs => congrArg _ ((castStep_legal h (beq_iff_eq.mpr hs) _).trans (castRetire_set hn)),
      fun hs => congrArg _ ((castStep_legal h (beq_iff_eq.mpr hs) _).trans (castRetire_set hn))⟩
  · refine ⟨fun hx => ?_, fun hx => ?_, fun hx => ?_, fun hx => ?_, fun hx => ?_, fun hx => ?_⟩
    · exact castSetRelation_done h hn hx (by decide) beq_iff_eq
    · rw [← ite_not]
      exact castSetRelation_done h hn hx (by decide) bne_iff_ne
    · exact castSetRelation_done h hn hx (by decide) BitVec.slt_iff_toInt_lt
    · exact castSetRelation_done h hn hx (by decide) (not_slt_iff _ _)
    · exact castSetRelation_done h hn hx (by decide) BitVec.ult_iff_toNat_lt
    · exact castSetRelation_done h hn hx (by decide) (not_ult_iff _ _)

end Sys2Proof.Machine
end

section
/-! SUPPORT. Shifts, saturation and bit fields (R114, R115, R116). -/

namespace Sys2Proof.Machine

open Sys2Proof.Safety

/-! ## SHF -/

theorem toNat_extractLsb'_low (x : BitVec 14) (w : Nat) : (x.extractLsb' 0 w).toNat = x.toNat % 2 ^ w := by
  rw [BitVec.extractLsb'_toNat, Nat.shiftRight_zero]

theorem shiftLegal_of {o : RegForm} (mid : o.x.extractLsb' 5 6 = 0) (imm : o.x.getLsbD 13 = true → o.s2 = 0)
    (reg : o.x.getLsbD 13 = false → o.x.extractLsb' 0 5 = 0) : shiftLegal o = true := by
  unfold shiftLegal
  cases hx : o.x.getLsbD 13
  · simp [mid, reg hx]
  · simp [mid, imm hx]

theorem shiftAmount_eq (o : RegForm) (b : Word) :
    shiftAmount o b = if o.x.getLsbD 13 then (o.x.extractLsb' 0 5).toNat else b.toNat % 32 := by
  rw [toNat_extractLsb'_low, shiftAmount]
  rfl

/-! ## The SAT operations -/

theorem clampInt_eq (lo hi x : Int) (h : lo ≤ hi) : clampInt lo hi x = max lo (min hi x) := by
  unfold clampInt
  omega

theorem clampS_eq (i : Int) : clampS i = (BitVec.ofInt 32 (max (-2147483648) (min 2147483647 i)),
    if max (-2147483648) (min 2147483647 i) = i then 0 else 128) := by
  rw [clampS, clampInt_eq _ _ _ (by decide)]
  rfl

/-- The lesser of two words in the order of a reading that determines the word. -/
theorem ite_eq_min_max {α : Type} [LinearOrder α] (read : Word → α) (word : α → Word) (back : ∀ a, word (read a) = a) (a b : Word)
    {p : Bool} (hp : p = true ↔ read a < read b) :
    (if p then a else b) = word (min (read a) (read b)) ∧ (if p then b else a) = word (max (read a) (read b)) := by
  by_cases lt : read a < read b
  · rw [if_pos (hp.mpr lt), if_pos (hp.mpr lt), min_eq_left lt.le, max_eq_right lt.le, back, back]
    exact ⟨rfl, rfl⟩
  · have no : ¬ p = true := fun e => lt (hp.mp e)
    rw [if_neg no, if_neg no, min_eq_right (not_lt.mp lt), max_eq_left (not_lt.mp lt), back, back]
    exact ⟨rfl, rfl⟩

theorem signed_min_max (a b : Word) :
    (if a.slt b then a else b) = BitVec.ofInt 32 (min a.toInt b.toInt) ∧ (if a.slt b then b else a) = BitVec.ofInt 32 (max a.toInt b.toInt) :=
  ite_eq_min_max BitVec.toInt (BitVec.ofInt 32) (fun _ => BitVec.ofInt_toInt) a b BitVec.slt_iff_toInt_lt

theorem unsigned_min_max (a b : Word) :
    (if a.ult b then a else b) = BitVec.ofNat 32 (min a.toNat b.toNat) ∧ (if a.ult b then b else a) = BitVec.ofNat 32 (max a.toNat b.toNat) :=
  ite_eq_min_max BitVec.toNat (BitVec.ofNat 32) (fun a => BitVec.ofNat_toNat 32 a ▸ BitVec.setWidth_eq a) a b BitVec.ult_iff_toNat_lt

/-! ## BFX -/

theorem bfxPos_eq (o : RegForm) : bfxPos o = (o.x.extractLsb' 8 5).toNat := by
  rw [BitVec.extractLsb'_toNat, Nat.shiftRight_eq_div_pow]
  rfl

theorem bfxWidth_eq (o : RegForm) : bfxWidth o = (o.x.extractLsb' 0 5).toNat + 1 := by
  rw [toNat_extractLsb'_low]
  rfl

theorem bfxLegal_of {o : RegForm} (hs : o.s2 = 0) (hx : o.x.extractLsb' 5 3 = 0) (fits : bfxPos o + bfxWidth o ≤ 32) : bfxLegal o = true := by
  simp [bfxLegal, hs, hx, fits]

theorem getLsbD_field (a : Word) {pos width : Nat} (fits : pos + width ≤ 32) (i : Nat) :
    (BitVec.ofNat 32 (a.toNat / 2 ^ pos % 2 ^ width)).getLsbD i = (decide (i < width) && a.getLsbD (pos + i)) := by
  rw [BitVec.getLsbD_ofNat, Nat.testBit_mod_two_pow, Nat.testBit_div_two_pow, Nat.add_comm i pos, ← BitVec.getLsbD]
  by_cases hi : i < width
  · simp [hi, show i < 32 by omega]
  · simp [hi]

theorem getLsbD_withBits_width (w : Word) {pos width : Nat} (wide : 0 < width) (fits : pos + width ≤ 32) (v : Word) (i : Nat) :
    (withBits w (pos + width - 1) pos v.toNat).getLsbD i = if pos ≤ i ∧ i < pos + width then v.getLsbD (i - pos) else w.getLsbD i := by
  rw [withBits_getLsbD w v.toNat i (by omega) (by omega), ← BitVec.getLsbD]
  exact if_congr (by omega) rfl rfl

/-- Settles O9: each result is the model's operation, read bit by bit or as a number. -/
theorem shiftSaturateFieldWritesD : Obligations.ShiftSaturateFieldWritesD := by
  unfold Obligations.ShiftSaturateFieldWritesD
  intro s t c h hn
  refine ⟨fun o mid imm reg => ?_, fun o hx => ?_, fun o pos width hs hx hpos hwidth fits => ?_⟩
  · have shf {k : BitVec 2} (hk : o.x.extractLsb' 11 2 = k) :
        exec (.shf t o) s = .next (afterSet c o.d (shift k (breg c.b o.s1) (if o.x.getLsbD 13 then (o.x.extractLsb' 0 5).toNat else
          (breg c.b o.s2).toNat % 32)) 0 1) :=
      congrArg Host.Outcome.next (castReg_done h (shiftLegal_of mid imm reg) hn (by rw [hk, shiftAmount_eq]))
    exact ⟨shf, shf, shf, shf⟩
  · have legal : satLegal o = true := decide_eq_true hx
    refine ⟨?_, ?_, fun hs => ?_, ?_, ?_, ?_, ?_⟩
    · exact congrArg Host.Outcome.next (castReg_done h legal hn (clampS_eq _))
    · exact congrArg Host.Outcome.next (castReg_done h legal hn (clampS_eq _))
    · have abs_legal : (satLegal o && o.s2 == 0) = true := by rw [legal, hs]; rfl
      exact congrArg Host.Outcome.next (castReg_done h abs_legal hn (by rw [Int.natCast_natAbs, clampS_eq]))
    · exact congrArg Host.Outcome.next (castReg_done h legal hn (congrArg (·, 0) (signed_min_max _ _).1))
    · exact congrArg Host.Outcome.next (castReg_done h legal hn (congrArg (·, 0) (signed_min_max _ _).2))
    · exact congrArg Host.Outcome.next (castReg_done h legal hn (congrArg (·, 0) (unsigned_min_max _ _).1))
    · exact congrArg Host.Outcome.next (castReg_done h legal hn (congrArg (·, 0) (unsigned_min_max _ _).2))
  · rw [← bfxPos_eq] at hpos
    rw [← bfxWidth_eq] at hwidth
    subst hpos hwidth
    refine ⟨⟨_, congrArg Host.Outcome.next (castReg_done h (bfxLegal_of hs hx fits) hn rfl), getLsbD_field _ fits⟩, ?_⟩
    exact ⟨_, congrArg Host.Outcome.next ((castStep_legal h (bfxLegal_of hs hx fits) _).trans (castRetire_set hn)),
      getLsbD_withBits_width _ (Nat.succ_pos _) fits _⟩

end Sys2Proof.Machine
end

section
/-! SUPPORT. Division (R117). -/

namespace Sys2Proof.Machine

open Sys2Proof.Safety

/-- DIV and REM: a zero divisor traps, another one lets the operation complete. -/
theorem castDivide_cases {s : State} {t : Fin 64} {c : CastCtx} {o : RegForm} (h : castCtx s t.val = some c) (hx : o.x.toNat ≤ 1)
    (op : Word → Word → Word × Nat) :
    (breg c.b o.s2 = 0 → castStep t (signBitOnly o) (castDivide op o) s = afterTrap c 5 34) ∧
    (breg c.b o.s2 ≠ 0 → InTime c 34 → ∀ v f, op (breg c.b o.s1) (breg c.b o.s2) = (v, f) →
      castStep t (signBitOnly o) (castDivide op o) s = afterSet c o.d v f 34) := by
  have legal : signBitOnly o = true := decide_eq_true hx
  rw [castStep_legal h legal, castDivide]
  refine ⟨fun zero => ?_, fun nonzero hn v f e => ?_⟩
  · rw [if_pos zero]
    rfl
  · rw [if_neg nonzero, e]
    exact castRetire_set hn

/-- The one signed quotient that 32 bits do not hold. -/
theorem signed_overflow : divide false 0x80000000 0xFFFFFFFF = (0x80000000, 64) ∧ remainder false 0x80000000 0xFFFFFFFF = (0, 64) := by decide

/-- Settles O10: the sign bit of X selects the operation, and the divisor whether it completes. -/
theorem divideTruncatesOrTrapsDivZero : Obligations.DivideTruncatesOrTrapsDivZero := by
  unfold Obligations.DivideTruncatesOrTrapsDivZero
  intro s t c o h
  refine ⟨fun nonzero hn => ?_, fun zero hx => ?_⟩
  · have done {x : BitVec 14} (hx : o.x = x) (le : x.toNat ≤ 1) (op : Word → Word → Word × Nat) :=
      (castDivide_cases h (hx ▸ le) op).2 nonzero hn
    refine ⟨fun hx => ?_, fun hx fits => ?_, fun hx ha hb => ?_⟩
    · exact ⟨congrArg Host.Outcome.next (done hx (by decide) _ _ _ (by rw [hx]; rfl)),
        congrArg Host.Outcome.next (done hx (by decide) _ _ _ (by rw [hx]; rfl))⟩
    · exact ⟨congrArg Host.Outcome.next (done hx (by decide) _ _ _ (by rw [hx]; exact congrArg _ (if_neg fits))),
        congrArg Host.Outcome.next (done hx (by decide) _ _ _ (by rw [hx]; exact congrArg _ (if_neg fits)))⟩
    · exact ⟨congrArg Host.Outcome.next (done hx (by decide) _ _ _ (by rw [hx, ha, hb]; exact signed_overflow.1)),
        congrArg Host.Outcome.next (done hx (by decide) _ _ _ (by rw [hx, ha, hb]; exact signed_overflow.2))⟩
  · exact ⟨congrArg Host.Outcome.next ((castDivide_cases h hx _).1 zero), congrArg Host.Outcome.next ((castDivide_cases h hx _).1 zero)⟩

end Sys2Proof.Machine
end

section
/-! SUPPORT. The special registers (R105). -/

namespace Sys2Proof.Machine

open Sys2Proof.Safety

/-- MTS writes IB alone (R105). -/
theorem exec_mts {s : State} {t : Fin 64} {c : CastCtx} {o : RegForm} (h : castCtx s t.val = some c) (hs2 : o.s2 = 0) (hd : o.d = 0)
    {x : BitVec 14} (hx : o.x = x) (le : x.toNat ≤ 3) :
    exec (.mts t o) s = .next (castRetire c
      (if x = 1 then .next (castAdv { c with b := { c.b with ib := breg c.b o.s1 } }) 2 else .trap tcSPECIAL 2)) := by
  have legal : (o.d == 0 && o.s2 == 0 && decide (o.x.toNat ≤ 3)) = true := by simp [hs2, hd, hx, le]
  subst hx
  exact congrArg Host.Outcome.next (castStep_legal h legal (castMts o))

/-- Settles O11: the select code names what MFS reads and whether MTS writes. -/
theorem specialRegistersMoveThroughMfsMts : Obligations.SpecialRegistersMoveThroughMfsMts := by
  unfold Obligations.SpecialRegistersMoveThroughMfsMts
  intro s t c o h hs2
  refine ⟨fun hs1 hn => ?_, fun hd => ⟨fun hx hn => ?_, fun hx => ?_⟩⟩
  · have mfs {x : BitVec 14} (hx : o.x = x) (le : x.toNat ≤ 3) {v : Word} (e : castSpecial c x.toNat = v) :
        exec (.mfs t o) s = .next (afterSet c o.d v 0 1) := by
      have legal : (o.s1 == 0 && o.s2 == 0 && decide (o.x.toNat ≤ 3)) = true := by simp [hs1, hs2, hx, le]
      rw [← e, ← hx]
      exact congrArg Host.Outcome.next ((castStep_legal h legal _).trans (castRetire_set hn))
    refine ⟨fun hx => mfs hx (by decide) rfl, fun hx => mfs hx (by decide) rfl, fun hx => mfs hx (by decide) rfl, fun hx empty => ?_,
      fun ra ib r hx top => ?_⟩
    · exact mfs hx (by decide) (by simp [castSpecial, empty])
    · exact mfs hx (by decide) (by simp [castSpecial, top])
  · rw [exec_mts h hs2 hd hx (by decide), if_pos rfl]
    exact congrArg Host.Outcome.next (castRetire_next hn)
  · obtain hx | hx | hx := hx <;> exact exec_mts h hs2 hd hx (by decide)

end Sys2Proof.Machine
end

section
/-! SUPPORT. Little-endian bytes and words, and the memory that Cast instructions reach (R110, R111). -/

namespace Sys2Proof.Machine

open Sys2Proof.Safety

/-! ## Bytes and words -/

theorem ofNat_leNat_cons (w : Nat) (b : Byte) (l : List Byte) : BitVec.ofNat (w + 8) (leNat (b :: l)) = BitVec.ofNat w (leNat l) ++ b := by
  apply BitVec.eq_of_toNat_eq
  rw [BitVec.toNat_append, BitVec.toNat_ofNat, BitVec.toNat_ofNat, ← Nat.shiftLeft_add_eq_or_of_lt b.isLt, Nat.shiftLeft_eq, leNat,
    Nat.add_comm w 8, Nat.pow_add, Nat.mod_mul, Nat.add_mul_mod_self_left, Nat.mod_eq_of_lt b.isLt,
    Nat.add_mul_div_left _ _ (by decide : 0 < 256), Nat.div_eq_of_lt b.isLt, Nat.zero_add, Nat.add_comm, Nat.mul_comm]

theorem ofNat_leNat_one (b : Byte) : BitVec.ofNat 8 (leNat [b]) = b := by
  rw [leNat, leNat, Nat.mul_zero, Nat.add_zero, BitVec.ofNat_toNat, BitVec.setWidth_eq]

theorem leNat_lt (l : List Byte) : leNat l < 256 ^ l.length := by
  induction l with
  | nil => exact Nat.one_pos
  | cons b l ih =>
    have lt := b.isLt
    rw [leNat, List.length_cons, Nat.pow_succ]
    omega

theorem leBytes_append (j k : Nat) {x : Nat} (y : Nat) (hx : x < 256 ^ j) : leBytes j x ++ leBytes k y = leBytes (j + k) (x + 256 ^ j * y) := by
  induction j generalizing x with
  | zero =>
    obtain rfl : x = 0 := by simpa using hx
    rw [leBytes, List.nil_append, Nat.zero_add, Nat.zero_add, Nat.pow_zero, Nat.one_mul]
  | succ j ih =>
    have split : x + 256 ^ (j + 1) * y = x + 256 * (256 ^ j * y) := by rw [Nat.pow_succ', Nat.mul_assoc]
    have first : BitVec.ofNat 8 (x + 256 * (256 ^ j * y)) = BitVec.ofNat 8 x :=
      BitVec.eq_of_toNat_eq (Nat.add_mul_mod_self_left x 256 _)
    rw [leBytes, Nat.add_right_comm, leBytes, split, List.cons_append, Nat.add_mul_div_left x _ (by decide : 0 < 256), first,
      ih (Nat.div_lt_of_lt_mul (by rwa [Nat.pow_succ'] at hx))]

theorem getElem_leBytes {n k : Nat} (x : Nat) (hk : k < n) : (leBytes n x)[k]'(by rwa [length_leBytes]) = BitVec.ofNat 8 (x >>> (8 * k)) := by
  induction n generalizing x k with
  | zero => exact absurd hk (Nat.not_lt_zero k)
  | succ n ih =>
    cases k with
    | zero => rfl
    | succ k =>
      have shift : x >>> (8 * (k + 1)) = (x / 256) >>> (8 * k) := by
        rw [Nat.mul_succ, Nat.add_comm, Nat.shiftRight_add, Nat.shiftRight_eq_div_pow x 8]
      rw [shift, ← ih (x / 256) (Nat.lt_of_succ_lt_succ hk)]
      rfl

/-! ## Bytes of memory -/

theorem length_bytesAt (s : State) (a n : Nat) : (bytesAt s a n).length = n := by
  induction n generalizing a with
  | zero => rfl
  | succ n ih => rw [bytesAt, List.length_cons, ih]

theorem getElem_bytesAt (s : State) (a : Nat) {n k : Nat} (hk : k < n) :
    (bytesAt s a n)[k]'(by rwa [length_bytesAt]) = byteAt s (a + k) := by
  induction n generalizing a k with
  | zero => exact absurd hk (Nat.not_lt_zero k)
  | succ n ih =>
    cases k with
    | zero => rfl
    | succ k => exact (ih (a + 1) (Nat.lt_of_succ_lt_succ hk)).trans (congrArg (byteAt s) (by omega))

theorem take_bytesAt (s : State) (a : Nat) {k n : Nat} (h : k ≤ n) : (bytesAt s a n).take k = bytesAt s a k := by
  induction k generalizing a n with
  | zero => rfl
  | succ k ih =>
    obtain ⟨n, rfl⟩ := Nat.exists_eq_add_of_le' h
    rw [← Nat.add_assoc, bytesAt, bytesAt, List.take_succ_cons, ih _ (Nat.le_add_left k n)]

theorem putBytes_eq (s : State) (a : Nat) (l : List Byte) : putBytes s a l = { s with mem := (putBytes s a l).mem } := by
  induction l generalizing s a with
  | nil => rfl
  | cons b l ih => exact (ih (putByte s a b) (a + 1)).trans rfl

theorem byteAt_putBytes_same (s : State) {a : Nat} (l : List Byte) (h : 0x20000 ≤ a) {k : Nat} (hk : k < l.length) :
    byteAt (putBytes s a l) (a + k) = l[k] := by
  rw [← getElem_bytesAt _ a hk]
  exact List.getElem_of_eq (bytesAt_putBytes_same s l h) _

/-! ## An instruction that stores -/

theorem inTime_castStore {c : CastCtx} {n : Nat} (h : InTime c n) (a : Nat) (l : List Byte) : InTime (castStore c a l) n := by
  have wdog : fld (putBytes c.s a l) (R.SCN_TBUD c.t) F.SCN_TBUD_WDOG_US = fld c.s (R.SCN_TBUD c.t) F.SCN_TBUD_WDOG_US := by
    rw [fld, rd_putBytes, fld]
  rw [InTime, watchdogHit] at h ⊢
  rwa [← wdog] at h

/-- An instruction that stores bytes and goes on in time. -/
theorem castRetire_store {c : CastCtx} {n : Nat} (h : InTime c n) (a : Nat) (l : List Byte) :
    castRetire c (.next (castAdv (castStore c a l)) n) = afterInstr (castStore c a l) (nextPc c.b) n :=
  castRetire_next (c := castStore c a l) (inTime_castStore h a l)

theorem withRun_mem (c : CastCtx) (m : List Host.Cell) (b : Bank) (r : Run) :
    withRun { c with s := { c.s with mem := m } } b r = { c.s with mem := m, scan := (withRun c b r).scan } := rfl

/-- The state after an instruction that stores bytes and leaves a bank: memory, the bank, the run's time and its dirty granules have changed
(R111), and nothing else. -/
theorem afterInstr_castStore (c : CastCtx) (a : Nat) (l : List Byte) (b : Bank) (n : Nat) :
    afterInstr (castStore c a l) b n = { c.s with
      mem := (putBytes c.s a l).mem
      scan := (withRun c b { runFor c.r n with dirty := markDirty c.m c.r.dirty a l.length }).scan } := by
  rw [← withRun_mem, ← putBytes_eq]
  rfl

end Sys2Proof.Machine
end

section
/-! SUPPORT. Loads and stores (R110, R111, R112). -/

namespace Sys2Proof.Machine

open Sys2Proof.Safety

variable {s : State} {t : Fin 64} {c : CastCtx} {o : MemForm}

/-! ## Loads -/

theorem loadCheck_seen {m : Mould} {a n : Nat} (aligned : a % n = 0) (window : inCode m a n = true ∨ inData m a n = true) :
    loadCheck m a n = 0 := by
  rw [loadCheck, if_neg (not_not_intro aligned), if_pos (by rwa [Bool.or_eq_true])]

theorem loadWord (s : State) (a : Nat) :
    BitVec.ofNat 32 (loadN s a 4) = byteAt s (a + 3) ++ byteAt s (a + 2) ++ byteAt s (a + 1) ++ byteAt s (a + 0) := by
  simp only [loadN, bytesAt]
  rw [ofNat_leNat_cons 24, ofNat_leNat_cons 16, ofNat_leNat_cons 8, ofNat_leNat_one]
  rfl

theorem loadHalf (s : State) (a : Nat) : BitVec.ofNat 16 (loadN s a 2) = byteAt s (a + 1) ++ byteAt s (a + 0) := by
  simp only [loadN, bytesAt]
  rw [ofNat_leNat_cons 8, ofNat_leNat_one]
  rfl

theorem loadByte (s : State) (a : Nat) : BitVec.ofNat 8 (loadN s a 1) = byteAt s (a + 0) := ofNat_leNat_one _

/-- A load that extends the `n` bytes of its number with zeros. -/
theorem ofNat_loadN_setWidth (s : State) (a : Nat) {n w : Nat} (h : w = 8 * n) :
    BitVec.ofNat 32 (loadN s a n) = (BitVec.ofNat w (loadN s a n)).setWidth 32 := by
  have lt : loadN s a n < 2 ^ w := by
    rw [h, Nat.pow_mul]
    exact (leNat_lt _).trans_eq (by rw [length_bytesAt])
  apply BitVec.eq_of_toNat_eq
  rw [BitVec.toNat_setWidth, BitVec.toNat_ofNat, BitVec.toNat_ofNat, Nat.mod_eq_of_lt lt]

/-- A load that passes its checks completes with the value that its number extends to. -/
theorem castLoad_done (h : castCtx s t.val = some c) (hn : InTime c 4) {n : Nat} {ext : Nat → Word}
    (aligned : memAddr c.m c.b o % n = 0) (window : inCode c.m (memAddr c.m c.b o) n = true ∨ inData c.m (memAddr c.m c.b o) n = true)
    {v : Word} (e : ext (loadN s (memAddr c.m c.b o) n) = v) : castStep t true (castLoad n ext o) s = afterSet c o.d v 0 4 := by
  obtain ⟨rfl, -⟩ := castCtx_eq h
  rw [castStep_legal h rfl, castLoad, loadCheck_seen aligned window, ← e]
  exact castRetire_set hn

theorem castLdd_done (h : castCtx s t.val = some c) (hn : InTime c 5) (even : o.d.toNat % 2 = 0)
    (aligned : memAddr c.m c.b o % 8 = 0) (window : inCode c.m (memAddr c.m c.b o) 8 = true ∨ inData c.m (memAddr c.m c.b o) 8 = true)
    {v w : Word} (low : BitVec.ofNat 32 (loadN s (memAddr c.m c.b o) 4) = v)
    (high : BitVec.ofNat 32 (loadN s (memAddr c.m c.b o + 4) 4) = w) :
    castStep t (evenPair o) (castLdd o) s = afterInstr c (nextPc (bset (bset c.b o.d v) (o.d + 1) w)) 5 := by
  obtain ⟨rfl, -⟩ := castCtx_eq h
  have legal : evenPair o = true := beq_iff_eq.mpr even
  rw [castStep_legal h legal, castLdd, loadCheck_seen aligned window, ← low, ← high]
  exact castRetire_next hn

/-- Settles O12: a load that passes its checks gives the number in its bytes, read low byte first. -/
theorem loadsFillD : Obligations.LoadsFillD := by
  unfold Obligations.LoadsFillD
  intro s t c o h
  refine ⟨fun hn => ⟨fun ⟨aligned, window⟩ => ?_, fun ⟨aligned, window⟩ => ⟨?_, ?_⟩, fun ⟨aligned, window⟩ => ⟨?_, ?_⟩⟩,
    fun hn ⟨aligned, window⟩ even => ?_⟩
  · exact congrArg Host.Outcome.next (castLoad_done h hn aligned window (loadWord s _))
  · exact congrArg Host.Outcome.next (castLoad_done h hn aligned window (congrArg (BitVec.signExtend 32) (loadHalf s _)))
  · exact congrArg Host.Outcome.next (castLoad_done h hn aligned window
      ((ofNat_loadN_setWidth s _ rfl).trans (congrArg (BitVec.setWidth 32) (loadHalf s _))))
  · exact congrArg Host.Outcome.next (castLoad_done h hn aligned window (congrArg (BitVec.signExtend 32) (loadByte s _)))
  · exact congrArg Host.Outcome.next (castLoad_done h hn aligned window
      ((ofNat_loadN_setWidth s _ rfl).trans (congrArg (BitVec.setWidth 32) (loadByte s _))))
  · exact congrArg Host.Outcome.next (castLdd_done h hn even aligned window (loadWord s _) (loadWord s _))

/-! ## Stores -/

theorem storeCheck_data {m : Mould} {a n : Nat} (aligned : a % n = 0) (window : inData m a n = true) : storeCheck m a n = 0 := by
  rw [storeCheck, if_neg (not_not_intro aligned), if_pos window]

/-- The eight bytes of a doubleword are those of its words, the low one first (R112). -/
theorem leBytes_words (lo hi : Word) : leBytes 4 lo.toNat ++ leBytes 4 hi.toNat = leBytes 8 (hi ++ lo).toNat := by
  have value : (hi ++ lo).toNat = lo.toNat + 256 ^ 4 * hi.toNat := by
    rw [BitVec.toNat_append, ← Nat.shiftLeft_add_eq_or_of_lt lo.isLt, Nat.shiftLeft_eq]
    omega
  rw [value, leBytes_append 4 4 _ lo.isLt]

/-- What an instruction that stores bytes into the data window leaves of memory. -/
theorem byteAt_stored {c : CastCtx} {a : Nat} (l : List Byte) (b : Bank) (n : Nat) (ram : 0x20000 ≤ a) :
    (∀ k (hk : k < l.length), byteAt (afterInstr (castStore c a l) b n) (a + k) = l[k]) ∧
    (∀ x, x < a ∨ a + l.length ≤ x → byteAt (afterInstr (castStore c a l) b n) x = byteAt c.s x) :=
  ⟨fun _ hk => byteAt_putBytes_same c.s l ram hk, fun _ hx => byteAt_putBytes_outside c.s a l hx⟩

/-- A store of the low `n` bytes of a value leaves them low byte first, every other byte as it was, and changes nothing beside memory and the
task. -/
theorem stored_spec {c : CastCtx} {n a : Nat} (v : Nat) (ram : 0x20000 ≤ a) {byte : Nat → Byte}
    (hb : ∀ k, k < n → byte k = BitVec.ofNat 8 (v >>> (8 * k))) :
    let u := afterInstr (castStore c a (leBytes n v)) (nextPc c.b) 1
    (∀ k, k < n → byteAt u (a + k) = byte k) ∧ (∀ x, x < a ∨ a + n ≤ x → byteAt u x = byteAt c.s x) ∧
    u = { c.s with
      mem := u.mem
      scan := (withRun c (nextPc c.b) { runFor c.r 1 with dirty := markDirty c.m c.r.dirty a n }).scan } := by
  have len := length_leBytes n v
  obtain ⟨inside, outside⟩ := byteAt_stored (c := c) (leBytes n v) (nextPc c.b) 1 ram
  rw [len] at outside
  refine ⟨fun k hk => ?_, outside, ?_⟩
  · rw [inside k (by rwa [len]), getElem_leBytes v hk, hb k hk]
  · conv_lhs => rw [afterInstr_castStore, len]
    rfl

/-- Settles O13: each store is one of low bytes first, and STD stores its two words as one number. -/
theorem storesPutLowBytes : Obligations.StoresPutLowBytes := by
  unfold Obligations.StoresPutLowBytes
  intro s t c o h hn
  obtain ⟨hs, -⟩ := castCtx_eq h
  have put {n : Nat} (aligned : memAddr c.m c.b o % n = 0) (window : inData c.m (memAddr c.m c.b o) n = true) :
      castStep t true (castPut n o) s = afterInstr (castStore c (memAddr c.m c.b o) (leBytes n (breg c.b o.d).toNat)) (nextPc c.b) 1 := by
    rw [castStep_legal h rfl, castPut, storeCheck_data aligned window]
    exact castRetire_store hn _ _
  subst hs
  refine ⟨fun aligned window ram => ?_, fun aligned window ram => ?_, fun aligned window ram => ?_, fun even aligned window ram => ?_⟩
  · exact ⟨_, congrArg Host.Outcome.next (put aligned window), stored_spec _ ram (fun _ _ => rfl)⟩
  · exact ⟨_, congrArg Host.Outcome.next (put aligned window), stored_spec _ ram (fun _ _ => rfl)⟩
  · exact ⟨_, congrArg Host.Outcome.next (put aligned window), stored_spec _ ram (fun _ _ => rfl)⟩
  · have legal : evenPair o = true := beq_iff_eq.mpr even
    have std : castStep t (evenPair o) (castStd o) c.s =
        afterInstr (castStore c (memAddr c.m c.b o) (leBytes 8 (breg c.b (o.d + 1) ++ breg c.b o.d).toNat)) (nextPc c.b) 1 := by
      rw [castStep_legal h legal, castStd, storeCheck_data aligned window, leBytes_words]
      exact castRetire_store hn _ _
    exact ⟨_, congrArg Host.Outcome.next std, stored_spec _ ram (fun _ _ => rfl)⟩

end Sys2Proof.Machine
end

section
/-! SUPPORT. Branches, calls, system functions and halts (R121 to R125, R138). -/

namespace Sys2Proof.Machine

open Sys2Proof.Safety

variable {s : State} {t : Fin 64} {c : CastCtx}

/-! ## Branches -/

/-- A branch whose condition reads as a proposition moves the PC by it (R121). -/
theorem castBranch_cases (h : castCtx s t.val = some c) (notTaken : InTime c 1) (taken : InTime c 3) (o : BrForm)
    {cond : Word → Word → Bool} {p : Prop} (e : cond (breg c.b o.a) (breg c.b o.b) = true ↔ p) :
    (p → Host.Outcome.next (castBranch t o cond s) =
      (.next (afterInstr c { c.b with pc := c.b.pc + 4 * o.imm.signExtend 32 } 3) : Host.Outcome State Fault Refusal)) ∧
    (¬ p → Host.Outcome.next (castBranch t o cond s) = (.next (afterInstr c (nextPc c.b) 1) : Host.Outcome State Fault Refusal)) := by
  rw [castBranch, castStep_legal h rfl]
  refine ⟨fun holds => ?_, fun fails => ?_⟩
  · rw [if_pos (e.mpr holds)]
    exact congrArg _ (castRetire_next taken)
  · rw [if_neg (fun x => fails (e.mp x))]
    exact congrArg _ (castRetire_next notTaken)

/-- Settles O15: each branch is one by its condition, and JMP always moves the PC. -/
theorem branchesMoveThePc : Obligations.BranchesMoveThePc := by
  unfold Obligations.BranchesMoveThePc
  intro s t c o h notTaken taken
  exact ⟨castBranch_cases h notTaken taken o beq_iff_eq, castBranch_cases h notTaken taken o bne_iff_ne,
    castBranch_cases h notTaken taken o BitVec.slt_iff_toInt_lt, castBranch_cases h notTaken taken o (not_slt_iff _ _),
    castBranch_cases h notTaken taken o BitVec.ult_iff_toNat_lt, castBranch_cases h notTaken taken o (not_ult_iff _ _),
    fun ha => congrArg Host.Outcome.next ((castStep_legal h (beq_iff_eq.mpr ha) _).trans (castRetire_next taken))⟩

/-! ## Calls -/

/-- The bank in the called code: the frame pushed, and IB taken from the named register (R123). -/
def calledBank (b : Bank) (inst : BitVec 4) (target : Word) : Bank :=
  { b with pc := target, ib := if inst = 0 then b.ib else breg b inst, stack := (b.pc + 4, b.ib) :: b.stack }

theorem castRetire_call (hn : InTime c 4) (inst : BitVec 4) (target : Word) :
    (c.b.stack.length < 16 → castRetire c (castCall c inst target) = afterInstr c (calledBank c.b inst target) 4) ∧
    (16 ≤ c.b.stack.length → castRetire c (castCall c inst target) = afterTrap c 6 4) := by
  refine ⟨fun room => ?_, fun full => ?_⟩
  · rw [castCall, if_neg (Nat.not_le.mpr room)]
    exact castRetire_next hn
  · rw [castCall, if_pos full]
    rfl

/-- CALLR checks its target before the stack (R124). -/
theorem exec_callr (h : castCtx s t.val = some c) {o : RegForm} (hs : o.s2 = 0) (hx : o.x = 0) :
    exec (.callr t o) s = .next (castRetire c
      (if (breg c.b o.s1).toNat % 4 ≠ 0 then .trap tcALIGN 4 else castCall c o.d (breg c.b o.s1))) :=
  congrArg Host.Outcome.next (castStep_legal h (by rw [hs, hx]; rfl) _)

/-- Settles O16: the calls share their push, and RET goes by what the stack holds. -/
theorem callsPushAndReturnsPop : Obligations.CallsPushAndReturnsPop := by
  unfold Obligations.CallsPushAndReturnsPop
  intro s t c h hn
  refine ⟨fun o hb => ?_, fun o hs hx => ⟨fun aligned room => ?_, fun misaligned => ?_, fun aligned full => ?_⟩, fun o hd hs1 hs2 hx => ?_⟩
  · have call : exec (.call t o) s = .next (castRetire c (castCall c o.a (brTarget c.b o.imm))) :=
      congrArg Host.Outcome.next (castStep_legal h (beq_iff_eq.mpr hb) _)
    rw [call]
    exact ⟨fun room => congrArg Host.Outcome.next ((castRetire_call hn _ _).1 room),
      fun full => congrArg Host.Outcome.next ((castRetire_call hn _ _).2 full)⟩
  · rw [exec_callr h hs hx, if_neg (not_not_intro aligned)]
    exact congrArg Host.Outcome.next ((castRetire_call hn _ _).1 room)
  · rw [exec_callr h hs hx, if_pos misaligned]
    rfl
  · rw [exec_callr h hs hx, if_neg (not_not_intro aligned)]
    exact congrArg Host.Outcome.next ((castRetire_call hn _ _).2 full)
  · have ret : exec (.ret t o) s = .next (castRetire c (castRet c)) :=
      congrArg Host.Outcome.next (castStep_legal h (by rw [hd, hs1, hs2, hx]; rfl) _)
    rw [ret]
    refine ⟨fun ra ib r frames => ?_, fun empty => ?_⟩
    · simp only [castRet, frames]
      exact congrArg Host.Outcome.next (castRetire_next hn)
    · simp only [castRet, empty]
      exact congrArg Host.Outcome.next (castRetire_finish hn)

/-! ## System functions -/

theorem lowWord_eq (v : DWord) : lowWord v = v.extractLsb' 0 32 := BitVec.setWidth_eq_extractLsb' (by decide)

theorem highWord_eq (v : DWord) : highWord v = v.extractLsb' 32 32 := by
  apply BitVec.eq_of_toNat_eq
  rw [highWord, BitVec.toNat_setWidth, BitVec.toNat_ushiftRight, BitVec.extractLsb'_toNat]

/-- A system function completes with its word (R125). -/
theorem castSys_done (h : castCtx s t.val = some c) (hn : InTime c 2) {o : ImmForm} (himm : o.imm.toNat < 256) (hs : o.s1 = 0)
    {f : CastCtx → Word} {v : Word} (e : f c = v) : castSys t o f s = afterSet c o.d v 0 2 := by
  have legal : sysLegal o = true := by simp [sysLegal, himm, hs]
  rw [castSys, castStep_legal h legal, e]
  exact castRetire_set hn

/-- Settles O17: every function but TB_LO and ST_CLR writes its word and goes on. -/
theorem systemFunctionsGiveTheirWords : Obligations.SystemFunctionsGiveTheirWords := by
  unfold Obligations.SystemFunctionsGiveTheirWords
  intro s t c o h hn himm
  obtain ⟨rfl, ht, -⟩ := castCtx_eq h
  refine ⟨fun hs => ?_, fun hd => ?_⟩
  · have done {f : CastCtx → Word} {v : Word} (e : f c = v) :
        Host.Outcome.next (castSys t o f c.s) = (.next (afterSet c o.d v 0 2) : Host.Outcome State Fault Refusal) :=
      congrArg _ (castSys_done h hn himm hs e)
    refine ⟨done (lowWord_eq _), done (highWord_eq _), ?_, done rfl, done rfl, done (by rw [ht]), done rfl, done (by rw [ht]),
      fun first => done ?_, fun p last => done ?_⟩
    · have legal : sysLegal o = true := by simp [sysLegal, himm, hs]
      rw [← lowWord_eq, ← highWord_eq]
      exact congrArg Host.Outcome.next ((castStep_legal h legal _).trans
        (castRetire_set (c := { c with b := { c.b with tbHi := highWord c.s.now } }) hn))
    · simp only [sysDt, ht, first]
    · simp only [sysDt, ht, last]
  · have legal : (decide (o.imm.toNat < 256) && o.d == 0) = true := by simp [himm, hd]
    exact congrArg Host.Outcome.next ((castStep_legal h legal _).trans (castRetire_next hn))

/-! ## Halts -/

theorem hltLegal_of {o : ImmForm} (hd : o.d = 0) (hs : o.s1 = 0) : hltLegal o = true := by rw [hltLegal, hd, hs]; rfl

theorem taskCore_lt (s : State) (t : Nat) : taskCore s t < 8 := fld_lt s _ _

/-- The context of a running task in its program step that no BRK has stopped (R122). -/
theorem castCtx_of {t : Nat} {r : Run} {m : Mould} {e : TaskEnt} (run : (taskAt s t).run = some r) (entry : taskEntry s t = some (m, e))
    (running : taskStateOf s t = tsRUNNING) (step : r.step = .program) (live : r.stopped = false) :
    castCtx s t = some { s, t, m, r, b := { (taskAt s t).bank with pc := reducePc m (taskAt s t).bank.pc } } := by
  simp [castCtx, run, entry, running, step, live]

/-- The context of a BRK, which has drawn a free value (R140, assumption 7). -/
def brkCtx (c : CastCtx) : CastCtx := { c with s := { c.s with free := c.s.free + 1 } }

theorem castCtx_drawn (h : castCtx s t.val = some c) : castCtx { s with free := s.free + 1 } t.val = some (brkCtx c) := by
  obtain ⟨u, n, m, r, b⟩ := c
  obtain ⟨rfl, rfl, run, running, step, live, bank, e, entry⟩ := castCtx_eq h
  dsimp only at bank
  subst bank
  exact castCtx_of (s := { u with free := u.free + 1 }) run entry running step live

theorem exec_hltBrk (h : castCtx s t.val = some c) {o : ImmForm} (legal : hltLegal o = true) (zero : o.imm.toNat % 65536 = 0) :
    exec (.hltBrk t o) s = .next (castRetire (brkCtx c) (castBrk (brkCtx c))) := by
  have brkLegal : (hltLegal o && o.imm.toNat % 2 ^ 16 == 0) = true := by simp [legal, zero]
  exact congrArg Host.Outcome.next (castStep_legal (castCtx_drawn h) brkLegal _)

/-- The state after a BRK that stops its task: the run is marked, and the debug page shows the core (R138, R414). -/
def stoppedAt (c : CastCtx) : State :=
  setFld (setTask c.s c.t { taskAt c.s c.t with bank := c.b, run := some { c.r with stopped := true } }) R.DBG_HOLD F.DBG_HOLD_STOPPED
    (fld c.s R.DBG_HOLD F.DBG_HOLD_STOPPED ||| 2 ^ taskCore c.s c.t)

theorem castRetire_hold (c : CastCtx) : castRetire c (.hold c) = stoppedAt c := rfl

theorem onlyRegs_stoppedAt (c : CastCtx) :
    OnlyRegs [R.DBG_HOLD] (setTask c.s c.t { taskAt c.s c.t with bank := c.b, run := some { c.r with stopped := true } }) (stoppedAt c) :=
  onlyRegs_setFld _ _ _ List.mem_cons_self

theorem scanUpdate_stoppedAt (c : CastCtx) : ScanUpdate [R.DBG_HOLD] c.s (stoppedAt c) :=
  (scanUpdate_setTask _ _ _ _).trans (scanUpdate_of_onlyRegs (onlyRegs_stoppedAt c) (List.Subset.refl _))

theorem stopped_stoppedAt (c : CastCtx) :
    fld (stoppedAt c) R.DBG_HOLD F.DBG_HOLD_STOPPED = fld c.s R.DBG_HOLD F.DBG_HOLD_STOPPED ||| 2 ^ taskCore c.s c.t := by
  have fits : fld c.s R.DBG_HOLD F.DBG_HOLD_STOPPED ||| 2 ^ taskCore c.s c.t < 2 ^ 8 :=
    Nat.or_lt_two_pow (fld_lt c.s _ _) (Nat.pow_lt_pow_right (by decide) (taskCore_lt c.s c.t))
  exact (fld_setFld_same _ _ _ _ (by decide) (by decide)).trans (Nat.mod_eq_of_lt fits)

theorem taskAt_stoppedAt (c : CastCtx) :
    taskAt (stoppedAt c) c.t = { taskAt c.s c.t with bank := c.b, run := some { c.r with stopped := true } } ∧
    ∀ k, k ≠ c.t → taskAt (stoppedAt c) k = taskAt c.s k :=
  ⟨(taskAt_of_onlyRegs (onlyRegs_stoppedAt c) _).trans (taskAt_setTask_same _ _ _),
    fun k hk => (taskAt_of_onlyRegs (onlyRegs_stoppedAt c) k).trans (tget_tput_ne _ _ hk)⟩

/-- Settles O18: END ends the step in time, TRAP and a BRK outside a session trap, and a BRK in one stops its task. -/
theorem haltsEndTrapOrStop : Obligations.HaltsEndTrapOrStop := by
  unfold Obligations.HaltsEndTrapOrStop
  intro s t c o h hd hs
  have legal := hltLegal_of hd hs
  obtain ⟨rfl, ht, -⟩ := castCtx_eq h
  refine ⟨fun zero hn => ?_, fun lo hi => ?_, fun zero held => ?_, fun zero free => ?_⟩
  · have endLegal : (hltLegal o && o.imm.toNat % 2 ^ 16 == 0) = true := by simp [legal, zero]
    exact congrArg Host.Outcome.next ((castStep_legal h endLegal _).trans (castRetire_finish hn))
  · have trapLegal : (hltLegal o && decide (0x80 ≤ o.imm.toNat % 2 ^ 16) && decide (o.imm.toNat % 2 ^ 16 ≤ 0xFF)) = true := by
      simp [legal, lo, hi]
    have code : o.imm.toNat % 256 = o.imm.toNat % 65536 := by omega
    rw [← code]
    exact congrArg Host.Outcome.next (castStep_legal h trapLegal _)
  · have stops : castBrk (brkCtx c) = .hold (brkCtx c) := if_pos (ht ▸ held)
    have brk := exec_hltBrk h legal zero
    rw [stops, castRetire_hold] at brk
    obtain ⟨task, others⟩ := taskAt_stoppedAt (brkCtx c)
    obtain ⟨regs, bytes, points⟩ := scanUpdate_stoppedAt (brkCtx c)
    rw [← ht]
    exact ⟨_, brk, congrArg TaskState.run task, congrArg TaskState.bank task, stopped_stoppedAt _, regs, bytes, points, others⟩
  · have traps : castBrk (brkCtx c) = .trap tcBRK (Config.freeWord (brkCtx c).s.free).toNat := if_neg (ne_true_of_eq_false (ht ▸ free))
    have brk := exec_hltBrk h legal zero
    rw [traps] at brk
    exact ⟨_, brk⟩

end Sys2Proof.Machine
end

section
/-! SUPPORT. Record instructions (R129 to R135). -/

namespace Sys2Proof.Machine

open Sys2Proof.Safety

variable {s : State} {t : Fin 64} {c : CastCtx}

/-! ## Instructions that store a row of bytes -/

/-- The bytes that an instruction stores, and what it leaves beside them. -/
theorem bytesAt_stored (c : CastCtx) {a : Nat} (l : List Byte) (b : Bank) (n : Nat) (ram : 0x20000 ≤ a) :
    bytesAt (afterInstr (castStore c a l) b n) a l.length = l ∧
    (∀ x, x < a ∨ a + l.length ≤ x → byteAt (afterInstr (castStore c a l) b n) x = byteAt c.s x) :=
  have same : bytesAt (afterInstr (castStore c a l) b n) a l.length = bytesAt (putBytes c.s a l) a l.length := bytesAt_congr (fun _ _ _ => rfl)
  ⟨same.trans (bytesAt_putBytes_same c.s l ram), (byteAt_stored l b n ram).2⟩

theorem getD_bytesAt (s : State) (a : Nat) {n k : Nat} (hk : k < n) : (bytesAt s a n).getD k 0 = byteAt s (a + k) := by
  rw [List.getD_eq_getElem _ _ (by rwa [length_bytesAt]), getElem_bytesAt s a hk]

/-! ## What a record instruction leaves -/

/-- A record that an instruction of certain kinds takes: aligned, in the data window, of a kind and version that fit (R130). -/
def RecordReady (c : CastCtx) (a lo hi : Nat) : Prop :=
  c.b.ib.toNat % 16 = 0 ∧ inData c.m a 32 = true ∧ lo ≤ loadN c.s a 2 ∧ loadN c.s a 2 ≤ hi ∧ byteAt c.s (a + 2) = 1 ∧ 0x20000 ≤ a

theorem recordCheck_ready {a lo hi : Nat} (ready : RecordReady c a lo hi) : recordCheck c a lo hi = 0 := by
  obtain ⟨aligned, window, above, below, version, -⟩ := ready
  simp [recordCheck, aligned, window, above, below, version]

/-- A record instruction whose record is ready stores its sixteen bytes after the header and completes. -/
theorem castRecord_done {o : RecForm} {lo hi n : Nat} (ready : RecordReady c (recAddr c.b o) lo hi) (hn : InTime c n) {i : Instr}
    {op : Nat → List Byte → Word × List Byte} (run : exec i c.s = .next (castRetire c (castRecord lo hi n o op c))) {d : Word} {l : List Byte}
    (e : op (loadN c.s (recAddr c.b o) 2) (bytesAt c.s (recAddr c.b o + 16) 16) = (d, l)) (len : l.length = 16) :
    ∃ u, exec i c.s = .next u ∧ bytesAt u (recAddr c.b o + 16) 16 = l ∧
      (∀ x, x < recAddr c.b o + 16 ∨ recAddr c.b o + 32 ≤ x → byteAt u x = byteAt c.s x) ∧
      u = { c.s with
        mem := u.mem
        scan := (withRun c (nextPc (bset c.b o.d d)) { runFor c.r n with dirty := markDirty c.m c.r.dirty (recAddr c.b o + 16) 16 }).scan } := by
  have stored : castRetire c (castRecord lo hi n o op c) =
      afterInstr (castStore c (recAddr c.b o + 16) l) (nextPc (bset c.b o.d d)) n := by
    rw [castRecord, recordCheck_ready ready, e]
    exact castRetire_set (c := castStore c (recAddr c.b o + 16) l) (inTime_castStore hn _ l)
  obtain ⟨-, -, -, -, -, ram⟩ := ready
  obtain ⟨inside, outside⟩ := bytesAt_stored c l (nextPc (bset c.b o.d d)) n (a := recAddr c.b o + 16) (by omega)
  rw [len] at inside outside
  refine ⟨_, run.trans (congrArg _ stored), inside, outside, ?_⟩
  conv_lhs => rw [afterInstr_castStore, len]
  rfl

/-! ## The operations on a record's bytes -/

/-- What TMR, CTR and EDG make of the kind and the sixteen bytes of their record (R133 to R135). -/
def tmrOp (c : CastCtx) (o : RecForm) (kind : Nat) (l : List Byte) : Word × List Byte :=
  let r := timerCall kind (timerOf l) (breg c.b o.s1 != 0) (breg c.b o.s2).toInt c.r.release.toNat
  (boolWord r.q, timerBytes r)
def ctrOp (c : CastCtx) (o : RecForm) (kind : Nat) (l : List Byte) : Word × List Byte :=
  let r := counterCall kind (signedOf 32 (leNat (l.take 4))) (l.getD 4 0).toNat (breg c.b o.s1) (breg c.b o.s2).toInt
  (BitVec.ofNat 32 (r.2 % 4), leBytes 4 (codeOf 32 r.1) ++ leBytes 12 r.2)
def edgOp (c : CastCtx) (o : RecForm) (kind : Nat) (l : List Byte) : Word × List Byte :=
  let r := edgeCall kind (l.getD 0 0).toNat (breg c.b o.s1 != 0)
  (boolWord r.1, leBytes 16 r.2)

theorem exec_tmr (h : castCtx s t.val = some c) (o : RecForm) :
    exec (.tmr t o) s = .next (castRetire c (castRecord 1 3 14 o (tmrOp c o) c)) :=
  congrArg Host.Outcome.next (castStep_legal h rfl _)

theorem exec_ctr (h : castCtx s t.val = some c) (o : RecForm) :
    exec (.ctr t o) s = .next (castRetire c (castRecord 4 6 10 o (ctrOp c o) c)) :=
  congrArg Host.Outcome.next (castStep_legal h rfl _)

theorem exec_edg (h : castCtx s t.val = some c) {o : RecForm} (hs : o.s2 = 0) :
    exec (.edg t o) s = .next (castRetire c (castRecord 7 8 6 o (edgOp c o) c)) :=
  congrArg Host.Outcome.next (castStep_legal h (beq_iff_eq.mpr hs) _)

theorem exec_trst (h : castCtx s t.val = some c) {o : RecForm} (hd : o.d = 0) (hs1 : o.s1 = 0) (hs2 : o.s2 = 0) :
    exec (.trst t o) s = .next (castRetire c (castRecord 1 8 4 o (fun _ _ => (0, List.replicate 16 0)) c)) := by
  have legal : (o.d == 0 && o.s1 == 0 && o.s2 == 0) = true := by rw [hd, hs1, hs2]; rfl
  exact congrArg Host.Outcome.next (castStep_legal h legal _)

theorem length_timerBytes (x : Timer) : (timerBytes x).length = 16 := by
  simp only [timerBytes, List.length_append, length_leBytes]

theorem length_counterBytes (x y : Nat) : (leBytes 4 x ++ leBytes 12 y).length = 16 := by
  rw [List.length_append, length_leBytes, length_leBytes]

theorem bne_zero_eq (w : Word) : (w != 0) = decide (w ≠ 0) := by rw [bne, beq_eq_decide, decide_not]

/-- The counter reads its value from the first four bytes, and its state from the fifth (R129). -/
theorem counterFields_bytesAt (s : State) (a : Nat) :
    leNat ((bytesAt s a 16).take 4) = loadN s a 4 ∧ (bytesAt s a 16).getD 4 0 = byteAt s (a + 4) :=
  ⟨by rw [take_bytesAt s a (by decide), loadN], getD_bytesAt s a (by decide)⟩

/-- Settles O19: each instruction passes the checks of its kinds and stores what its operation makes of the sixteen bytes. -/
theorem recordInstructionsUpdateTheirRecord : Obligations.RecordInstructionsUpdateTheirRecord := by
  unfold Obligations.RecordInstructionsUpdateTheirRecord
  intro s t c o h
  obtain ⟨rfl, -⟩ := castCtx_eq h
  refine ⟨fun ready hn => ⟨_, rfl, length_timerBytes _, ?_⟩, fun ready hn => ⟨_, rfl, length_counterBytes _ _, ?_⟩,
    fun ready hs2 hn => ⟨length_leBytes 16 _, ?_⟩, fun ready hd hs1 hs2 hn => ⟨rfl, ?_⟩⟩
  · exact castRecord_done ready hn (exec_tmr h o) (by rw [tmrOp, bne_zero_eq]; rfl) (length_timerBytes _)
  · obtain ⟨value, state⟩ := counterFields_bytesAt c.s (recAddr c.b o + 16)
    exact castRecord_done ready hn (exec_ctr h o) (by rw [ctrOp, value, state]) (length_counterBytes _ _)
  · have state : (bytesAt c.s (recAddr c.b o + 16) 16).getD 0 0 = byteAt c.s (recAddr c.b o + 16) := rfl
    exact castRecord_done ready hn (exec_edg h hs2) (by rw [edgOp, bne_zero_eq, state]; rfl) (length_leBytes 16 _)
  · exact castRecord_done ready hn (exec_trst h hd hs1 hs2) rfl rfl

end Sys2Proof.Machine
end

section
/-! SUPPORT. Point instructions (R46, R136, R137). -/

namespace Sys2Proof.Machine

open Sys2Proof.Safety

variable {s : State} {t : Fin 64} {c : CastCtx} {o : PntForm}

/-! ## A denial of a point instruction -/

theorem inTime_castDeny {n : Nat} (h : InTime c n) (f pid : Nat) (ht : c.t < 64) (hf : f < 32) : InTime (castDeny c f pid) n := by
  have wdog : fld (deny c.s f 2 pid) (R.SCN_TBUD c.t) F.SCN_TBUD_WDOG_US = fld c.s (R.SCN_TBUD c.t) F.SCN_TBUD_WDOG_US := by
    rw [fld, rd_deny_ne, fld]
    all_goals
      simp only [R.SCN_TBUD, R.FLK_DENY, R.FLK_DENY_LAST, R.PG_ISR, R.EVT_PEND, regKey]
      omega
  rw [InTime, watchdogHit] at h ⊢
  rwa [← wdog] at h

theorem taskFlask_lt (s : State) (t : Nat) : taskFlask s t < 32 := fld_lt s _ _

theorem sameBytes_deny (s : State) (f path target : Nat) : SameBytes s (deny s f path target) := fun a => by
  simp only [byteAt, deny_mem, deny_resets, deny_dramGen]

/-! ## The operands -/

theorem pointOperandCheck_data {a : Nat} (aligned : a % 8 = 0) (window : inData c.m a 16 = true) : pointOperandCheck c a = 0 := by
  rw [pointOperandCheck, if_neg (not_not_intro aligned), if_pos window]

/-- PRD with its operand checked goes by the read right of the task's flask. -/
theorem exec_prd (h : castCtx s t.val = some c) (hp : pntId c.b o < 0x2000) (aligned : (breg c.b o.addr).toNat % 8 = 0)
    (window : inData c.m (breg c.b o.addr).toNat 16 = true) (hn : InTime c 40) :
    (mayRead (taskFlask s t.val) (pointAt s (pntId c.b o)) = true → exec (.prd t o) s =
      .next (afterInstr (castStore c (breg c.b o.addr).toNat (imageEntry (pointAt s (pntId c.b o)))) (nextPc c.b) 40)) ∧
    (mayRead (taskFlask s t.val) (pointAt s (pntId c.b o)) = false → exec (.prd t o) s =
      .next (afterInstr (castStore (castDeny c (taskFlask s t.val) (pntId c.b o)) (breg c.b o.addr).toNat (imageEntry nullPoint))
        (nextPc (sticky c.b flagDN)) 40)) := by
  obtain ⟨rfl, ht, -⟩ := castCtx_eq h
  have run : exec (.prd t o) c.s = .next (castRetire c (castPrd o c)) := congrArg Host.Outcome.next (castStep_legal h rfl _)
  rw [run, castPrd, if_neg (Nat.not_le.mpr hp), pointOperandCheck_data aligned window, ← ht]
  refine ⟨fun may => congrArg _ ?_, fun barred => congrArg _ ?_⟩
  · simp only [may, if_true]
    exact castRetire_store hn _ _
  · simp only [barred, Bool.false_eq_true, if_false]
    exact castRetire_store (inTime_castDeny hn _ _ (ht ▸ t.isLt) (taskFlask_lt _ _)) _ _

/-- The write that PWR queues, with the value and the quality that memory holds (R137). -/
def queuedWrite (c : CastCtx) (o : PntForm) : DeferredWrite :=
  let a := (breg c.b o.addr).toNat
  { point := pntId c.b o, value := BitVec.ofNat 64 (loadN c.s a 8)
    quality := if writerQuality (byteAt c.s (a + 8)) then byteAt c.s (a + 8) else 0 }

theorem castPwr_checked (hp : pntId c.b o < 0x2000) (aligned : (breg c.b o.addr).toNat % 8 = 0)
    (window : inData c.m (breg c.b o.addr).toNat 16 = true) (room : c.r.deferred.length < 64) :
    castPwr o c = if mayWrite (taskFlask c.s c.t) (pointAt c.s (pntId c.b o))
      then .next (castAdv { c with r := { c.r with deferred := c.r.deferred ++ [queuedWrite c o] } }) 30
      else .next (castAdv (castDeny c (taskFlask c.s c.t) (pntId c.b o))) 30 := by
  rw [castPwr, if_neg (Nat.not_le.mpr hp), pointOperandCheck_data aligned window]
  exact if_neg (Nat.not_le.mpr room)

/-- PWR with its operand checked and room in the queue goes by the write right of the task's flask. -/
theorem exec_pwr (h : castCtx s t.val = some c) (hp : pntId c.b o < 0x2000) (aligned : (breg c.b o.addr).toNat % 8 = 0)
    (window : inData c.m (breg c.b o.addr).toNat 16 = true) (room : c.r.deferred.length < 64) (hn : InTime c 30) :
    (mayWrite (taskFlask s t.val) (pointAt s (pntId c.b o)) = true → exec (.pwr t o) s =
      .next (withRun c (nextPc c.b) { runFor c.r 30 with deferred := c.r.deferred ++ [queuedWrite c o] })) ∧
    (mayWrite (taskFlask s t.val) (pointAt s (pntId c.b o)) = false → exec (.pwr t o) s =
      .next (afterInstr (castDeny c (taskFlask s t.val) (pntId c.b o)) (nextPc (sticky c.b flagDN)) 30)) := by
  obtain ⟨rfl, ht, -⟩ := castCtx_eq h
  have run : exec (.pwr t o) c.s = .next (castRetire c (castPwr o c)) := congrArg Host.Outcome.next (castStep_legal h rfl _)
  rw [run, castPwr_checked hp aligned window room, ← ht]
  refine ⟨fun may => congrArg _ ?_, fun barred => congrArg _ ?_⟩
  · rw [if_pos may]
    exact castRetire_next (c := { c with r := { c.r with deferred := c.r.deferred ++ [queuedWrite c o] } }) hn
  · rw [if_neg (ne_true_of_eq_false barred)]
    exact castRetire_next (c := castDeny c _ _) (inTime_castDeny hn _ _ (ht ▸ t.isLt) (taskFlask_lt _ _))

/-- PTST goes by the read right of the task's flask. -/
theorem exec_ptst (h : castCtx s t.val = some c) (hp : pntId c.b o < 0x2000) (hn : InTime c 36) :
    (mayRead (taskFlask s t.val) (pointAt s (pntId c.b o)) = true → exec (.ptst t o) s =
      .next (afterSet c o.addr (testWord (taskFlask s t.val) (pointAt s (pntId c.b o))) 0 36)) ∧
    (mayRead (taskFlask s t.val) (pointAt s (pntId c.b o)) = false → exec (.ptst t o) s =
      .next (afterSet (castDeny c (taskFlask s t.val) (pntId c.b o)) o.addr 0x600 0 36)) := by
  obtain ⟨rfl, ht, -⟩ := castCtx_eq h
  have run : exec (.ptst t o) c.s = .next (castRetire c (castPtst o c)) := congrArg Host.Outcome.next (castStep_legal h rfl _)
  rw [run, castPtst, if_neg (Nat.not_le.mpr hp), ← ht]
  refine ⟨fun may => congrArg _ ?_, fun barred => congrArg _ ?_⟩
  · simp only [may, if_true]
    exact castRetire_set hn
  · simp only [barred, Bool.false_eq_true, if_false]
    exact castRetire_set (c := castDeny c _ _) (inTime_castDeny hn _ _ (ht ▸ t.isLt) (taskFlask_lt _ _))

/-! ## What the instructions leave -/

/-- An instruction that stores bytes moves no point and no register, and leaves its bank. -/
theorem frame_stored (d : CastCtx) (a : Nat) (l : List Byte) (b : Bank) (n : Nat) :
    SamePoints d.s (afterInstr (castStore d a l) b n) ∧ SameRegs [] d.s (afterInstr (castStore d a l) b n) ∧
    (taskAt (afterInstr (castStore d a l) b n) d.t).bank = b :=
  ⟨fun m => pointAt_putBytes d.s a l m, fun k _ => rd_putBytes d.s a l k, congrArg TaskState.bank (taskAt_setTask_same _ _ _)⟩

/-- The state after an instruction that stores an image entry. -/
theorem entryStored_spec (d : CastCtx) {a : Nat} (p : Point) (b : Bank) (n : Nat) (ram : 0x20000 ≤ a) :
    let u := afterInstr (castStore d a (imageEntry p)) b n
    bytesAt u a 16 = imageEntry p ∧ (∀ x, x < a ∨ a + 16 ≤ x → byteAt u x = byteAt d.s x) ∧ SamePoints d.s u ∧ SameRegs [] d.s u ∧
    (taskAt u d.t).bank = b := by
  obtain ⟨inside, outside⟩ := bytesAt_stored d (imageEntry p) b n ram
  rw [length_imageEntry] at inside outside
  exact ⟨inside, outside, frame_stored d a (imageEntry p) b n⟩

/-- Settles O20: with its operand checked, each instruction goes by the right that R46 gives the task's flask. -/
theorem pointInstructionsReachTheDirectory : Obligations.PointInstructionsReachTheDirectory := by
  unfold Obligations.PointInstructionsReachTheDirectory
  intro s t c o h pid p f a denied hp
  obtain ⟨rfl, ht, -⟩ := castCtx_eq h
  refine ⟨fun aligned window ram hn => ?_, fun aligned window room hn => ?_, exec_ptst h hp⟩
  · obtain ⟨allowed, closed⟩ := exec_prd h hp aligned window hn
    rw [← ht]
    refine ⟨fun may => ⟨_, allowed may, entryStored_spec c p (nextPc c.b) 40 ram⟩, fun barred => ?_⟩
    obtain ⟨inside, outside, points, frame⟩ := entryStored_spec denied nullPoint (nextPc denied.b) 40 ram
    exact ⟨_, closed barred, inside, fun x hx => (outside x hx).trans (sameBytes_deny _ _ _ _ x),
      fun m => (points m).trans (samePoints_of_points (deny_points _ _ _ _) m), frame⟩
  · obtain ⟨queued, closed⟩ := exec_pwr h hp aligned window room hn
    exact ⟨fun may => ⟨queuedWrite c o, rfl, rfl, rfl, queued may⟩, closed⟩

end Sys2Proof.Machine
end

section
/-! SUPPORT. The registers of an exchange: what XCH_STATUS and PG_ISR read after an operation's end (R152, R179), and what such an update leaves. -/

namespace Sys2Proof.Machine

open Sys2Proof.Safety

theorem sameBytes_of_regsAndEvents {ks : List Nat} {s t : State} (h : RegsAndEvents ks s t) : SameBytes s t := by
  intro a
  rw [h.rest]
  rfl

/-! ## STATE -/

/-- The registers that show the state of an exchange. -/
abbrev exchangeKeys : List Nat := [R.XCH_STATUS, R.PG_STATE 0x41, R.XCH_POOL]

theorem onlyRegs_setXchState (s : State) (st : Nat) : OnlyRegs exchangeKeys s (setXchState s st) :=
  ((onlyRegs_setFld s _ _ (by simp)).trans (onlyRegs_setFld _ _ _ (by simp))).trans (onlyRegs_setFld _ _ _ (by simp))

theorem rd_setXchState_status (s : State) (st : Nat) :
    rd (setXchState s st) R.XCH_STATUS = rd (setFld s R.XCH_STATUS F.XCH_STATUS_STATE st) R.XCH_STATUS :=
  (rd_setFld_ne _ _ _ (by decide)).trans (rd_setFld_ne _ _ _ (by decide))

theorem xchState_setXchState (s : State) {st : Nat} (h : st < 8) : xchState (setXchState s st) = st := by
  rw [xchState, fld, rd_setXchState_status, ← fld, fld_setFld_same _ _ _ _ (by decide) (by decide)]
  exact Nat.mod_eq_of_lt h

/-! ## The end of an operation (R179) -/

theorem rd_raiseBit_XCH_STATUS (s : State) (n : Nat) : rd (raiseBit s 0x41 n) R.XCH_STATUS = rd s R.XCH_STATUS :=
  rd_raiseBit_ne s (by decide) (by decide)

theorem regsAndEvents_xchEnd (s : State) (st result : Nat) : RegsAndEvents (R.PG_ISR 0x41 :: exchangeKeys) s (xchEnd s st result) := by
  have result : OnlyRegs exchangeKeys s (setFld s R.XCH_STATUS F.XCH_STATUS_RESULT result) := onlyRegs_setFld s _ _ (by simp)
  have shown := result.trans (onlyRegs_setXchState _ st)
  exact (shown.mono (List.subset_cons_self _ _)).regsAndEvents.trans (regsAndEvents_raiseBit _ _ List.mem_cons_self)

theorem rd_xchEnd_status (s : State) (st result : Nat) : rd (xchEnd s st result) R.XCH_STATUS =
    rd (setFld (setFld s R.XCH_STATUS F.XCH_STATUS_RESULT result) R.XCH_STATUS F.XCH_STATUS_STATE st) R.XCH_STATUS :=
  (rd_raiseBit_XCH_STATUS _ 0).trans (rd_setXchState_status _ st)

theorem xchState_xchEnd (s : State) {st : Nat} (result : Nat) (h : st < 8) : xchState (xchEnd s st result) = st := by
  rw [xchState, fld, rd_xchEnd_status, ← fld, fld_setFld_same _ _ _ _ (by decide) (by decide)]
  exact Nat.mod_eq_of_lt h

theorem result_xchEnd (s : State) (st : Nat) {result : Nat} (h : result < 256) :
    fld (xchEnd s st result) R.XCH_STATUS F.XCH_STATUS_RESULT = result := by
  rw [fld, rd_xchEnd_status, ← fld, fld_setFld_other _ _ _ _ _ (by decide) (by decide) (by decide),
    fld_setFld_same _ _ _ _ (by decide) (by decide)]
  exact Nat.mod_eq_of_lt h

theorem xchEnd_done (s : State) (st result : Nat) : (rd (xchEnd s st result) (R.PG_ISR 0x41)).getLsbD 0 = true :=
  raiseBit_isr_bit _ (by decide) (by decide)

theorem codeNum_lt (c : Code) : codeNum c < 256 := by cases c <;> decide

end Sys2Proof.Machine
end

section
/-! SUPPORT. The moulds, running, staged and retained, and the points: what each operation of an exchange leaves of them (R160 to R176). -/

namespace Sys2Proof.Machine

open Sys2Proof.Safety

/-- The moulds in force, the staged and the retained one, and the points. -/
structure ExchangeData where
  moulds : Table (Option Mould)
  staged : Option Mould
  retained : Option Mould
  points : Table Point

/-- The moulds and the points of a state. -/
def exchangeData (s : State) : ExchangeData := ⟨s.moulds, s.xch.staged, s.xch.retained, s.points⟩

section
variable {s : State} {d : ExchangeData}

theorem moulds_of_exchangeData (h : exchangeData s = d) : s.moulds = d.moulds := congrArg ExchangeData.moulds h

theorem staged_of_exchangeData (h : exchangeData s = d) : s.xch.staged = d.staged := congrArg ExchangeData.staged h

theorem retained_of_exchangeData (h : exchangeData s = d) : s.xch.retained = d.retained := congrArg ExchangeData.retained h

theorem points_of_exchangeData (h : exchangeData s = d) : s.points = d.points := congrArg ExchangeData.points h

end

/-- What each step of a fold leaves alone, the fold leaves alone. -/
theorem foldl_keeps {σ α β : Type} (p : σ → β) {f : σ → α → σ} (hf : ∀ x a, p (f x a) = p x) (l : List α) (x : σ) :
    p (l.foldl f x) = p x := by
  induction l generalizing x with
  | nil => rfl
  | cons a l ih => exact (ih (f x a)).trans (hf x a)

/-! ## Operations that move neither -/

theorem exchangeData_of_regsAndEvents {ks : List Nat} {s t : State} (h : RegsAndEvents ks s t) : exchangeData t = exchangeData s := by
  rw [h.rest]
  rfl

theorem exchangeData_of_onlyRegs {ks : List Nat} {s t : State} (h : OnlyRegs ks s t) : exchangeData t = exchangeData s :=
  exchangeData_of_regsAndEvents h.regsAndEvents

@[simp] theorem exchangeData_raiseBit (s : State) (page n : Nat) : exchangeData (raiseBit s page n) = exchangeData s :=
  exchangeData_of_regsAndEvents (regsAndEvents_raiseBit s n (ks := [R.PG_ISR page]) List.mem_cons_self)

@[simp] theorem exchangeData_setXchState (s : State) (st : Nat) : exchangeData (setXchState s st) = exchangeData s := rfl

@[simp] theorem exchangeData_xchEnd (s : State) (st result : Nat) : exchangeData (xchEnd s st result) = exchangeData s :=
  exchangeData_of_regsAndEvents (regsAndEvents_xchEnd s st result)

@[simp] theorem exchangeData_putBytes (s : State) (a : Nat) (l : List Byte) : exchangeData (putBytes s a l) = exchangeData s := by
  rw [putBytes_eq]
  rfl

@[simp] theorem exchangeData_advanceTo (s : State) (t : DWord) : exchangeData (advanceTo s t) = exchangeData s := by
  unfold advanceTo
  split <;> rfl

theorem exchangeData_postCause (s : State) (f code task : Nat) (detail : Word) :
    exchangeData (postCause s f code task detail) = exchangeData s := by
  have shown : exchangeData (causeShown s code task) = exchangeData s := exchangeData_of_onlyRegs (onlyRegs_causeShown s code task)
  obtain ⟨q, queued⟩ | ⟨w, undelivered⟩ := postCause_cases s f code task detail
  · rw [queued]
    exact shown
  · rw [undelivered, causeUndelivered, exchangeData_raiseBit]
    split <;> exact shown

@[simp] theorem exchangeData_dueReport (s : State) (r : Report) : exchangeData (dueReport s r) = exchangeData s := by
  unfold dueReport
  split <;> rfl

/-- A change of mould marks forces, and leaves moulds and points (R167). -/
theorem exchangeData_classifyForces (s : State) (f : Nat) (old new : Option Mould) :
    exchangeData (classifyForces s f old new).1 = exchangeData s := by
  have mark : ∀ (u : State) (k : Nat) (e : Force), exchangeData (mirrorForce (setForce u k (some e)) 4 k e) = exchangeData u := by
    intro u k e
    obtain ⟨w, mirrored⟩ := mirrorForce_twin (setForce u k (some e)) 4 k e
    rw [mirrored]
    rfl
  have marked := foldl_keeps exchangeData (fun u (x : Nat × Force) =>
    mark u x.1 { x.2 with orphan := forceClass old new x.2.point.toNat == 3 }) (touchedForces s f old new) s
  unfold classifyForces
  dsimp only
  split <;> exact marked

/-! ## Migration (R149, R162, R174) -/

/-- A field entry stores bytes. -/
theorem applyField_stores (src dst : Nat) (s : State) (f : FieldMap) : ∃ a l, applyField src dst s f = putBytes s a l := by
  unfold applyField
  dsimp only [storeN]
  split_ifs <;> exact ⟨_, _, rfl⟩

theorem exchangeData_applyField (src dst : Nat) (s : State) (f : FieldMap) : exchangeData (applyField src dst s f) = exchangeData s := by
  obtain ⟨a, l, stored⟩ := applyField_stores src dst s f
  rw [stored, exchangeData_putBytes]

theorem exchangeData_migrateInst (old new : Mould) (maps : List TypeMap) (rollback : Bool) (a : State × List Outcome) (e : InstEnt) :
    exchangeData (migrateInst old new maps rollback a e).1 = exchangeData a.1 := by
  unfold migrateInst
  dsimp only
  split
  · rfl
  split
  · rfl
  split
  · exact exchangeData_putBytes _ _ _
  split
  · exact foldl_keeps exchangeData (exchangeData_applyField _ _) _ _
  · rfl

theorem exchangeData_migrate (s : State) (old : Option Mould) (new : Mould) (rollback : Bool) :
    exchangeData (migrate s old new rollback).1 = exchangeData s := by
  cases old with
  | none => rfl
  | some o => exact foldl_keeps (fun a : State × List Outcome => exchangeData a.1) (exchangeData_migrateInst _ _ _ _) _ _

/-! ## Staging (R144) -/

theorem exchangeData_buildRegions (s : State) (a : Nat) (m : Mould) : exchangeData (buildRegions s a m) = exchangeData s := by
  refine (foldl_keeps exchangeData (fun u _ => exchangeData_putBytes u _ _) _ _).trans ?_
  rw [fillBytes, exchangeData_putBytes, exchangeData_putBytes, exchangeData_putBytes]

/-! ## The steps of the switch (R161 to R176) -/

/-- The end of migration: every kept record is carried, time has passed, and a rollback has cleared the written marks of the output images. -/
def migrationEnded (s : State) (old : Option Mould) (new : Mould) (rollback : Bool) (ns : Nat) : State :=
  let r := migrate s old new rollback
  let u := advanceTo r.1 (r.1.xch.tickAt + BitVec.ofNat 64 ((migrationNs r.2 ns + 9) / 10))
  if rollback then
    forAll (fun s (e : TaskEnt) => forAll (fun s i => putByte s (new.dataAt + e.outImg + 32 * i + 0x19) 0) (upTo e.outTbl.length) s) new.tasks u
  else u

theorem exchangeData_migrationEnded (s : State) (old : Option Mould) (new : Mould) (rollback : Bool) (ns : Nat) :
    exchangeData (migrationEnded s old new rollback ns) = exchangeData s := by
  have carried := exchangeData_migrate s old new rollback
  have cleared : ∀ (u : State) (e : TaskEnt), exchangeData
      (forAll (fun s i => putByte s (new.dataAt + e.outImg + 32 * i + 0x19) 0) (upTo e.outTbl.length) u) = exchangeData u :=
    fun u e => foldl_keeps exchangeData (fun _ _ => by rfl) _ u
  unfold migrationEnded
  dsimp only
  split
  · exact (foldl_keeps exchangeData cleared _ _).trans ((exchangeData_advanceTo _ _).trans carried)
  · exact (exchangeData_advanceTo _ _).trans carried

/-- A mould stands in force, with the mould to keep, the scan's data and XCH_TIME. -/
def mouldInForce (s : State) (f : Nat) (new : Mould) (keep : Option Mould) (c : Scan) (time : Word) : State :=
  wr { setMould s f (some new) with xch := { s.xch with staged := none, retained := keep }, scan := c } R.XCH_TIME time

theorem exchangeData_mouldInForce (s : State) (f : Nat) (new : Mould) (keep : Option Mould) (c : Scan) (time : Word) :
    exchangeData (mouldInForce s f new keep c time) =
      ⟨tput (fun _ => none) (exchangeData s).moulds f (some new), none, keep, (exchangeData s).points⟩ := rfl

/-- A task of the flask lets its held release go. -/
def letRelease (f : Nat) (s : State) (t : Nat) : State := if taskFlask s t = f then setTask s t { taskAt s t with heldExchange := none } else s

theorem exchangeData_letRelease (f : Nat) (s : State) (t : Nat) : exchangeData (letRelease f s t) = exchangeData s := by
  unfold letRelease
  split <;> rfl

/-- The exchange is over: releases go on, the block's state and interrupts say so, and a flask with a task is told. -/
def exchangeClosed (s : State) (f st : Nat) (detail : Word) : State :=
  let u := raiseBit (xchEnd (forAll (letRelease f) (upTo 64) s) st 0) 0x41 1
  if flaskHasTask u f then postCause u f 0x0B 0xFF detail else u

theorem exchangeData_exchangeClosed (s : State) (f st : Nat) (detail : Word) : exchangeData (exchangeClosed s f st detail) = exchangeData s := by
  have shown : exchangeData (raiseBit (xchEnd (forAll (letRelease f) (upTo 64) s) st 0) 0x41 1) = exchangeData s := by
    rw [exchangeData_raiseBit, exchangeData_xchEnd]
    exact foldl_keeps exchangeData (exchangeData_letRelease f) _ s
  unfold exchangeClosed
  dsimp only
  split
  · exact (exchangeData_postCause _ _ _ _ _).trans shown
  · exact shown

theorem enterMould_steps (s : State) (f : Nat) (new : Mould) (rollback : Bool) (ns : Nat) : ∃ c time st detail r,
    enterMould s f new rollback ns = dueReport (exchangeClosed (mouldInForce
      (classifyForces (migrationEnded s (mouldOf s f) new rollback ns) f (mouldOf s f) (some new)).1 f new
      (if rollback then none else mouldOf s f) c time) f st detail) r :=
  ⟨_, _, _, _, _, rfl⟩

/-- A mould entered is the flask's; the staged one is gone, and the old one is retained but in a rollback (R172, R174). -/
theorem exchangeData_enterMould (s : State) (f : Nat) (new : Mould) (rollback : Bool) (ns : Nat) :
    exchangeData (enterMould s f new rollback ns) =
      ⟨tput (fun _ => none) s.moulds f (some new), none, if rollback then none else mouldOf s f, s.points⟩ := by
  have marked := (exchangeData_classifyForces (migrationEnded s (mouldOf s f) new rollback ns) f (mouldOf s f) (some new)).trans
    (exchangeData_migrationEnded s (mouldOf s f) new rollback ns)
  obtain ⟨c, time, st, detail, r, steps⟩ := enterMould_steps s f new rollback ns
  rw [steps, exchangeData_dueReport, exchangeData_exchangeClosed, exchangeData_mouldInForce, marked]
  rfl

end Sys2Proof.Machine
end

section
/-! SUPPORT. What carries an exchange on (R155 to R161, R168, R176). -/

namespace Sys2Proof.Machine

open Sys2Proof.Safety

variable {s : State}

/-! ## The check of a container (R155, R156) -/

theorem exec_stageComplete (s : State) (c d : Word) : exec (.stageComplete c d) s = .next (stageComplete s c d) := rfl

/-- A good mould stands in its regions and is the staged one. -/
def mouldStaged (s : State) (m : Mould) : State :=
  let u := buildRegions s s.xch.src m
  { u with xch := { u.xch with staged := some m } }

theorem exchangeData_mouldStaged (s : State) (m : Mould) : exchangeData (mouldStaged s m) = { exchangeData s with staged := some m } := by
  have built := exchangeData_buildRegions s s.xch.src m
  exact congrArg (fun d : ExchangeData => { d with staged := some m }) built

theorem stageComplete_good {c d : Word} {m : Mould} {k : Code} (checking : xchState s = xsCHECKING)
    (check : stageCheck s (xchFlask s) c.toNat d.toNat = (k, some m)) : stageComplete s c d = xchEnd (mouldStaged s m) xsSTAGED 0 := by
  unfold stageComplete
  rw [if_neg (not_not_intro checking)]
  dsimp only
  rw [check]
  rfl

theorem stageComplete_bad {c d : Word} {k : Code} (checking : xchState s = xsCHECKING)
    (check : stageCheck s (xchFlask s) c.toNat d.toNat = (k, none)) :
    ∃ r, stageComplete s c d = dueReport (xchEnd s xsIDLE (codeNum k)) r := by
  unfold stageComplete
  rw [if_neg (not_not_intro checking)]
  dsimp only
  rw [check]
  exact ⟨_, rfl⟩

/-- A report that becomes due changes no register. -/
theorem rd_dueReport (s : State) (r : Report) (k : Nat) : rd (dueReport s r) k = rd s k := by
  unfold dueReport
  split <;> rfl

theorem sameBytes_dueReport (s : State) (r : Report) : SameBytes s (dueReport s r) := by
  intro a
  unfold dueReport
  split <;> rfl

theorem stageComplete_stages {c d : Word} {m : Mould} {k : Code} (checking : xchState s = xsCHECKING)
    (check : stageCheck s (xchFlask s) c.toNat d.toNat = (k, some m)) :
    ∃ t, exec (.stageComplete c d) s = .next t ∧ xchState t = xsSTAGED ∧ t.xch.staged = some m ∧ fld t R.XCH_STATUS F.XCH_STATUS_RESULT = 0 ∧
      t.moulds = s.moulds ∧ SamePoints s t := by
  have data := (exchangeData_xchEnd (mouldStaged s m) xsSTAGED 0).trans (exchangeData_mouldStaged s m)
  exact ⟨_, (exec_stageComplete s c d).trans (congrArg _ (stageComplete_good checking check)), xchState_xchEnd _ _ (by decide),
    staged_of_exchangeData data, result_xchEnd _ _ (by decide), moulds_of_exchangeData data,
    samePoints_of_points (points_of_exchangeData data)⟩

theorem stageComplete_refuses {c d : Word} {k : Code} (checking : xchState s = xsCHECKING)
    (check : stageCheck s (xchFlask s) c.toNat d.toNat = (k, none)) :
    ∃ t, exec (.stageComplete c d) s = .next t ∧ xchState t = xsIDLE ∧ fld t R.XCH_STATUS F.XCH_STATUS_RESULT = codeNum k ∧
      (rd t (R.PG_ISR 0x41)).getLsbD 0 = true ∧ t.moulds = s.moulds ∧ SameBytes s t ∧ SamePoints s t := by
  obtain ⟨r, refused⟩ := stageComplete_bad checking check
  have status := rd_dueReport (xchEnd s xsIDLE (codeNum k)) r R.XCH_STATUS
  have data := (exchangeData_dueReport (xchEnd s xsIDLE (codeNum k)) r).trans (exchangeData_xchEnd s _ _)
  have ended := sameBytes_of_regsAndEvents (regsAndEvents_xchEnd s xsIDLE (codeNum k))
  refine ⟨_, (exec_stageComplete s c d).trans (congrArg _ refused), ?_, ?_, ?_, moulds_of_exchangeData data,
    fun a => (sameBytes_dueReport _ r a).trans (ended a), samePoints_of_points (points_of_exchangeData data)⟩
  · rw [xchState, fld, status]
    exact xchState_xchEnd s _ (by decide)
  · rw [fld, status]
    exact result_xchEnd s _ (codeNum_lt k)
  · rw [rd_dueReport]
    exact xchEnd_done s _ _

/-! ## The exchange tick (R159, R160) -/

theorem exec_exchangeTick (s : State) (peer : Bool) : exec (.exchangeTick peer) s = .next (exchangeTick s peer) := rfl

/-- A release of the tick's boundary is held for the exchange. -/
def holdRelease (f : Nat) (s : State) (t : Nat) : State :=
  if taskFlask s t = f ∧ taskStateOf s t = tsRELEASED ∧ (taskAt s t).relAt = s.now then
    setTask s t { taskAt s t with heldExchange := some s.now }
  else s

/-- A state but for the scan's and the pair's data. -/
def besideScanAndTwin (s : State) : State := { s with scan := {}, twin := {} }

/-- Releases are held, and the active of a pair names the tick. -/
def tickNamed (s : State) (f : Nat) : State :=
  let u := forAll (holdRelease f) (upTo 64) s
  if pairActive u then
    { u with twin := { u.twin with xch := u.twin.xch ++
        [{ flask := Fin.ofNat 32 f, rollback := flag u R.XCH_STATUS F.XCH_STATUS_ROLLBACK, tick := BitVec.ofNat 64 (u.now.toNat / 100000) }] } }
  else u

theorem besideScanAndTwin_twin (s : State) (w : Twin) : besideScanAndTwin { s with twin := w } = besideScanAndTwin s := rfl

theorem besideScanAndTwin_tickNamed (s : State) (f : Nat) : besideScanAndTwin (tickNamed s f) = besideScanAndTwin s := by
  have hold : ∀ (u : State) (t : Nat), besideScanAndTwin (holdRelease f u t) = besideScanAndTwin u := by
    intro u t
    unfold holdRelease
    split <;> rfl
  have held : besideScanAndTwin (forAll (holdRelease f) (upTo 64) s) = besideScanAndTwin s := foldl_keeps besideScanAndTwin hold _ s
  unfold tickNamed
  dsimp only
  split
  · exact (besideScanAndTwin_twin _ _).trans held
  · exact held

theorem tickNamed_eq (s : State) (f : Nat) : tickNamed s f = { s with scan := (tickNamed s f).scan, twin := (tickNamed s f).twin } :=
  congrArg (fun u : State => { u with scan := (tickNamed s f).scan, twin := (tickNamed s f).twin }) (besideScanAndTwin_tickNamed s f)

theorem exchangeTick_taken {peer : Bool} (waiting : xchState s = xsWAITING) (boundary : s.now.toNat % 100000 = 0)
    (inTime : s.now.toNat ≤ xchDeadline s) (still : flaskRunning s (xchFlask s) = false) (ready : peerReady s peer = true) : ∃ c w,
    exchangeTick s peer = setXchState { s with scan := c, twin := w, xch := { s.xch with tickAt := s.now } } xsMIGRATING := by
  have taken : exchangeTick s peer = setXchState { tickNamed s (xchFlask s) with
      xch := { (tickNamed s (xchFlask s)).xch with tickAt := (tickNamed s (xchFlask s)).now } } xsMIGRATING :=
    if_pos ⟨waiting, boundary, inTime, by rw [still]; rfl, ready⟩
  rw [tickNamed_eq] at taken
  exact ⟨_, _, taken⟩

theorem exchangeTick_migrates {peer : Bool} (waiting : xchState s = xsWAITING) (boundary : s.now.toNat % 100000 = 0)
    (inTime : s.now.toNat ≤ xchDeadline s) (still : flaskRunning s (xchFlask s) = false) (ready : peerReady s peer = true) :
    ∃ t, exec (.exchangeTick peer) s = .next t ∧ xchState t = xsMIGRATING ∧ t.xch.tickAt = s.now ∧ t.moulds = s.moulds ∧ SameBytes s t ∧
      SamePoints s t ∧ SameRegs exchangeKeys s t := by
  obtain ⟨c, w, taken⟩ := exchangeTick_taken waiting boundary inTime still ready
  have shown := onlyRegs_setXchState { s with scan := c, twin := w, xch := { s.xch with tickAt := s.now } } xsMIGRATING
  exact ⟨_, (exec_exchangeTick s peer).trans (congrArg _ taken), xchState_setXchState _ (by decide), rfl, rfl,
    fun a => sameBytes_of_onlyRegs shown a, fun n => samePoints_of_onlyRegs shown n, shown.regs⟩

/-! ## The time-out (R159) -/

theorem exec_exchangeTimeout (s : State) : exec .exchangeTimeout s = .next (exchangeTimeout s) := rfl

/-- The state that a wait goes back to. -/
def waitedFrom (s : State) : Nat := if flag s R.XCH_STATUS F.XCH_STATUS_ROLLBACK then xsRETAINED else xsSTAGED

theorem waitedFrom_lt (s : State) : waitedFrom s < 8 := by
  unfold waitedFrom
  split <;> decide

theorem rd_advanceTo (s : State) (t : DWord) (k : Nat) : rd (advanceTo s t) k = rd s k := by rw [rd, advanceTo_regs, rd]

/-- The state at the deadline of a wait. -/
def waitEnded (s : State) : State := advanceTo s (BitVec.ofNat 64 (xchDeadline s))

theorem exchangeData_waitEnded (s : State) : exchangeData (waitEnded s) = exchangeData s := exchangeData_advanceTo s _

theorem sameBytes_waitEnded (s : State) : SameBytes s (waitEnded s) := fun a => by
  simp only [byteAt, waitEnded, advanceTo_mem, advanceTo_resets, advanceTo_dramGen]

theorem exchangeTimeout_waiting (waiting : xchState s = xsWAITING) :
    exchangeTimeout s = raiseBit (xchEnd (waitEnded s) (waitedFrom s) (codeNum .busy)) 0x41 2 := by
  have back : waitedFrom (waitEnded s) = waitedFrom s := by rw [waitedFrom, waitedFrom, flag, flag, fld, fld, waitEnded, rd_advanceTo]
  rw [← back]
  exact if_pos waiting

theorem exchangeTimeout_goesBack (waiting : xchState s = xsWAITING) :
    ∃ t, exec .exchangeTimeout s = .next t ∧ xchState t = waitedFrom s ∧ fld t R.XCH_STATUS F.XCH_STATUS_RESULT = 0x0C ∧
      (rd t (R.PG_ISR 0x41)).getLsbD 2 = true ∧ t.xch.staged = s.xch.staged ∧ t.moulds = s.moulds ∧ SameBytes s t ∧ SamePoints s t := by
  have update := (regsAndEvents_xchEnd (waitEnded s) (waitedFrom s) (codeNum .busy)).trans (regsAndEvents_raiseBit _ 2 List.mem_cons_self)
  have status := rd_raiseBit_XCH_STATUS (xchEnd (waitEnded s) (waitedFrom s) (codeNum .busy)) 2
  have data := (exchangeData_of_regsAndEvents update).trans (exchangeData_waitEnded s)
  refine ⟨_, (exec_exchangeTimeout s).trans (congrArg _ (exchangeTimeout_waiting waiting)), ?_, ?_, raiseBit_isr_bit _ (by decide) (by decide),
    staged_of_exchangeData data, moulds_of_exchangeData data,
    fun a => (sameBytes_of_regsAndEvents update a).trans (sameBytes_waitEnded s a), samePoints_of_points (points_of_exchangeData data)⟩
  · rw [xchState, fld, status]
    exact xchState_xchEnd _ _ (waitedFrom_lt s)
  · rw [fld, status]
    exact result_xchEnd _ _ (codeNum_lt .busy)

/-! ## The switch (R161, R172) -/

theorem exec_exchangeSwitch (s : State) (ns : Nat) : exec (.exchangeSwitch ns) s = .next (exchangeSwitch s ns) := rfl

theorem exchangeSwitch_staged {m : Mould} (ns : Nat) (migrating : xchState s = xsMIGRATING)
    (forward : flag s R.XCH_STATUS F.XCH_STATUS_ROLLBACK = false) (staged : s.xch.staged = some m) :
    exchangeSwitch s ns = enterMould s (xchFlask s) m false ns := by
  unfold exchangeSwitch
  rw [if_neg (not_not_intro migrating)]
  simp only [forward, staged, Bool.false_eq_true, if_false]

theorem exchangeSwitch_enters {m : Mould} (ns : Nat) (migrating : xchState s = xsMIGRATING)
    (forward : flag s R.XCH_STATUS F.XCH_STATUS_ROLLBACK = false) (staged : s.xch.staged = some m) :
    ∃ t, exec (.exchangeSwitch ns) s = .next t ∧ mouldOf t (xchFlask s) = some m ∧ (∀ f, f ≠ xchFlask s → mouldOf t f = mouldOf s f) ∧
      t.xch.staged = none ∧ t.xch.retained = mouldOf s (xchFlask s) ∧ SamePoints s t := by
  have data := exchangeData_enterMould s (xchFlask s) m false ns
  have moulds := moulds_of_exchangeData data
  exact ⟨_, (exec_exchangeSwitch s ns).trans (congrArg _ (exchangeSwitch_staged ns migrating forward staged)),
    (congrArg (tget _ · _) moulds).trans (tget_tput_same _ _ _), fun f hf => (congrArg (tget _ · f) moulds).trans (tget_tput_ne _ _ hf),
    staged_of_exchangeData data, retained_of_exchangeData data, samePoints_of_points (points_of_exchangeData data)⟩

/-! ## The report and the generation (R168, R176) -/

theorem exec_exchangeReport (s : State) : exec .exchangeReport s = .next (exchangeReport s) := rfl

/-- The bytes of a report stand in its buffer, and the later ones are still due. -/
def reportStored (s : State) (r : Report) (rest : List Report) : State :=
  putBytes { s with xch := { s.xch with reports := rest } } r.addr (reportBytes r).1

/-- TRUNC and the interrupt tell of the report. -/
def reportShown (s : State) (r : Report) : State :=
  raiseBit (setFld s R.XCH_STATUS F.XCH_STATUS_TRUNC (b2n (reportBytes r).2)) 0x41 3

theorem regsAndEvents_reportShown (s : State) (r : Report) : RegsAndEvents [R.PG_ISR 0x41, R.XCH_STATUS] s (reportShown s r) :=
  (onlyRegs_setFld s _ _ (by simp)).regsAndEvents.trans (regsAndEvents_raiseBit _ 3 List.mem_cons_self)

theorem exchangeReport_due {r : Report} {rest : List Report} (due : s.xch.reports = r :: rest) (room : 32 ≤ r.size) :
    exchangeReport s = reportShown (reportStored s r rest) r := by
  unfold exchangeReport
  rw [due]
  exact if_neg (Nat.not_lt.mpr room)

theorem exchangeReport_writes {r : Report} {rest : List Report} (due : s.xch.reports = r :: rest) (room : 32 ≤ r.size) (ram : 0x20000 ≤ r.addr) :
    ∃ t, exec .exchangeReport s = .next t ∧ t.xch.reports = rest ∧ bytesAt t r.addr (reportBytes r).1.length = (reportBytes r).1 ∧
      (∀ a, a < r.addr ∨ r.addr + (reportBytes r).1.length ≤ a → byteAt t a = byteAt s a) ∧ (rd t (R.PG_ISR 0x41)).getLsbD 3 = true := by
  have bytes := sameBytes_of_regsAndEvents (regsAndEvents_reportShown (reportStored s r rest) r)
  refine ⟨_, (exec_exchangeReport s).trans (congrArg _ (exchangeReport_due due room)), ?_, ?_, fun a outside => ?_,
    raiseBit_isr_bit _ (by decide) (by decide)⟩
  · rw [reportShown, raiseBit_xch, setFld_xch, reportStored, putBytes_xch]
  · exact (bytesAt_congr (fun a _ _ => bytes a)).trans (bytesAt_putBytes_same _ _ ram)
  · exact (bytes a).trans (byteAt_putBytes_outside _ _ _ outside)

theorem exec_generationApplied (s : State) (f : Fin 32) : exec (.generationApplied f) s = .next (applyGeneration s f.val) := rfl

/-- A generation stands in the NVR, and waits no more. -/
def generationInNvr (s : State) (f : Nat) (g : List NvrInst) : State :=
  { s with scan := { s.scan with nvr := tput (fun _ => []) s.scan.nvr f g, newGen := tput (fun _ => none) s.scan.newGen f none } }

theorem applyGeneration_waiting {f : Nat} {g : List NvrInst} (waiting : newGenOf s f = some g) : applyGeneration s f = generationInNvr s f g := by
  unfold applyGeneration
  rw [waiting]
  rfl

theorem nvrOf_generationInNvr (s : State) (f : Nat) (g : List NvrInst) (k : Nat) :
    nvrOf (generationInNvr s f g) k = if k = f then g else nvrOf s k := tget_tput _ _ _ _

theorem newGenOf_generationInNvr (s : State) (f : Nat) (g : List NvrInst) (k : Nat) :
    newGenOf (generationInNvr s f g) k = if k = f then none else newGenOf s k := tget_tput _ _ _ _

theorem generationApplied_fills {f : Fin 32} {g : List NvrInst} (waiting : newGenOf s f.val = some g) :
    ∃ t, exec (.generationApplied f) s = .next t ∧ nvrOf t f.val = g ∧ newGenOf t f.val = none ∧
      (∀ k, k ≠ f.val → nvrOf t k = nvrOf s k ∧ newGenOf t k = newGenOf s k) ∧ t = { s with scan := t.scan } := by
  have nvr := nvrOf_generationInNvr s f.val g
  have gen := newGenOf_generationInNvr s f.val g
  exact ⟨_, (exec_generationApplied s f).trans (congrArg _ (applyGeneration_waiting waiting)), (nvr _).trans (if_pos rfl),
    (gen _).trans (if_pos rfl), fun k hk => ⟨(nvr k).trans (if_neg hk), (gen k).trans (if_neg hk)⟩, rfl⟩

end Sys2Proof.Machine
end

section
/-! SUPPORT. The exchange (R155 to R161, R168, R176). -/

namespace Sys2Proof.Machine

/-- Settles O40: each command that carries an exchange on does its step, as the lemma of that step says. -/
theorem exchangeChecksMigratesAndReports : Obligations.ExchangeChecksMigratesAndReports := by
  unfold Obligations.ExchangeChecksMigratesAndReports
  intro s
  exact ⟨fun _ _ _ _ => stageComplete_stages, fun _ _ _ => stageComplete_refuses, fun _ => exchangeTick_migrates, exchangeTimeout_goesBack,
    fun _ ns => exchangeSwitch_enters ns, fun _ _ => exchangeReport_writes, fun _ _ => generationApplied_fills⟩

end Sys2Proof.Machine
end

section
/-! SUPPORT. The registers of a loop, and what a swap of its banks changes (R196). -/

namespace Sys2Proof.Machine

open Sys2Proof.Safety

/-! ## Keys -/

/-- The key of a loop's register at an offset of its engine's page. -/
abbrev loopReg (n off : Nat) : Nat := regKey (0x49 + n / 128) off (n % 128 + 1)

/-- A loop's register is none of those that no selector shows. -/
theorem loopReg_ne_plain (n off : Nat) {page off' : Nat} (hp : page < 0x100) (ho : off' < 0x1000) : loopReg n off ≠ regKey page off' 0 := by
  unfold loopReg regKey
  omega

/-- Two loops share no register, and neither do two offsets of one loop. -/
theorem loopReg_ne {m n a b : Nat} (hm : m < 512) (hn : n < 512) (ha : a < 0x1000) (hb : b < 0x1000) (h : m ≠ n ∨ a ≠ b) :
    loopReg m a ≠ loopReg n b := by
  unfold loopReg regKey
  omega

/-- An interrupt cause of a page reaches no loop's register. -/
theorem rd_raiseBit_loopReg (s : State) {page : Nat} (hp : page < 0x100) (cause n off : Nat) :
    rd (raiseBit s page cause) (loopReg n off) = rd s (loopReg n off) :=
  rd_raiseBit_ne s (loopReg_ne_plain n off hp (by decide)) (loopReg_ne_plain n off (by decide) (by omega))

/-- A rejection recorded on a page reaches none either. -/
theorem rd_rejectWrite_loopReg (s : State) {page : Nat} (hp : page < 0x100) (off' : Nat) (c : Code) (n off : Nat) :
    rd (rejectWrite s page off' c) (loopReg n off) = rd s (loopReg n off) := by
  have err (v : Word) : rd (wr s (R.PG_ERR page) v) (loopReg n off) = rd s (loopReg n off) :=
    rd_wr_ne s v (loopReg_ne_plain n off hp (by decide))
  rw [rejectWrite, rd_answer]
  unfold pgError
  dsimp only
  split
  · exact err _
  · rw [rd_raiseBit_loopReg _ hp, err]

/-! ## A swap that takes effect -/

/-- LPE_BANK after a swap: the other bank is in use, and none is pending. -/
def banksExchanged (s : State) (n : Nat) : State :=
  setFld (setFld s (R.LPE_BANK n) F.LPE_BANK_ACTIVE (1 - fld s (R.LPE_BANK n) F.LPE_BANK_ACTIVE)) (R.LPE_BANK n) F.LPE_BANK_SWAP_PEND 0

/-- A swap exchanges the banks, and says so in LPE_LSTAT and by an interrupt. -/
theorem swapNow_eq (s : State) (n : Nat) :
    swapNow s n = raiseBit (setFld (banksExchanged s n) (R.LPE_LSTAT n) F.LPE_LSTAT_SWAPPED 1) (0x49 + n / 128) 0 := rfl

theorem swapNow_takes (s : State) {n : Nat} (hn : n < 512) :
    flag (swapNow s n) (R.LPE_BANK n) F.LPE_BANK_SWAP_PEND = false ∧
    fld (swapNow s n) (R.LPE_BANK n) F.LPE_BANK_ACTIVE = 1 - fld s (R.LPE_BANK n) F.LPE_BANK_ACTIVE ∧
    flag (swapNow s n) (R.LPE_LSTAT n) F.LPE_LSTAT_SWAPPED = true := by
  have bank : rd (swapNow s n) (R.LPE_BANK n) = rd (banksExchanged s n) (R.LPE_BANK n) := by
    rw [swapNow_eq]
    exact (rd_raiseBit_loopReg _ (by omega) 0 n 0x13C).trans
      (rd_setFld_ne _ _ _ (loopReg_ne hn hn (by decide) (by decide) (.inr (by decide))))
  have stat : rd (swapNow s n) (R.LPE_LSTAT n) =
      rd (setFld (banksExchanged s n) (R.LPE_LSTAT n) F.LPE_LSTAT_SWAPPED 1) (R.LPE_LSTAT n) :=
    rd_raiseBit_loopReg _ (by omega) 0 n 0x140
  simp only [flag, fld, bank, stat]
  refine ⟨?_, ?_, ?_⟩
  · exact congrArg (· != 0) (fld_setFld_same _ _ F.LPE_BANK_SWAP_PEND 0 (by decide) (by decide))
  · refine (fld_setFld_other _ _ F.LPE_BANK_SWAP_PEND F.LPE_BANK_ACTIVE 0 (by decide) (by decide) (.inl (by decide))).trans ?_
    refine (fld_setFld_same _ _ F.LPE_BANK_ACTIVE _ (by decide) (by decide)).trans (Nat.mod_eq_of_lt ?_)
    exact Nat.lt_of_le_of_lt (Nat.sub_le 1 _) (by decide)
  · exact congrArg (· != 0) (fld_setFld_same _ _ F.LPE_LSTAT_SWAPPED 1 (by decide) (by decide))

/-! ## A swap that is requested -/

/-- A loop that is ON latches the swap (R196). -/
theorem requestSwap_on {s : State} {n : Nat} (on : loopSt s n = fsON) : requestSwap s n = setFld s (R.LPE_BANK n) F.LPE_BANK_SWAP_PEND 1 := by
  simp [requestSwap, on, fsON, fsOFF, fsSTOPPING]

/-- A loop that is OFF swaps at once (R196). -/
theorem requestSwap_off {s : State} {n : Nat} (off : loopSt s n = fsOFF) : requestSwap s n = swapNow s n := by
  simp [requestSwap, off]

theorem flag_latched (s : State) (n : Nat) :
    flag (setFld s (R.LPE_BANK n) F.LPE_BANK_SWAP_PEND 1) (R.LPE_BANK n) F.LPE_BANK_SWAP_PEND = true :=
  congrArg (· != 0) (fld_setFld_same _ _ F.LPE_BANK_SWAP_PEND 1 (by decide) (by decide))

theorem active_latched (s : State) (n : Nat) :
    fld (setFld s (R.LPE_BANK n) F.LPE_BANK_SWAP_PEND 1) (R.LPE_BANK n) F.LPE_BANK_ACTIVE = fld s (R.LPE_BANK n) F.LPE_BANK_ACTIVE :=
  fld_setFld_other _ _ F.LPE_BANK_SWAP_PEND F.LPE_BANK_ACTIVE 1 (by decide) (by decide) (.inl (by decide))

/-- Requesting a swap changes no register but the loop's LPE_BANK and LPE_LSTAT, its page's PG_ISR and what events reach. -/
theorem regsAndEvents_requestSwap (s : State) (n : Nat) :
    RegsAndEvents [R.LPE_BANK n, R.LPE_LSTAT n, R.PG_ISR (0x49 + n / 128)] s (requestSwap s n) := by
  have field (u : State) (k : Nat) (f : Fld) (v : Nat) (h : k ∈ [R.LPE_BANK n, R.LPE_LSTAT n, R.PG_ISR (0x49 + n / 128)]) :
      RegsAndEvents [R.LPE_BANK n, R.LPE_LSTAT n, R.PG_ISR (0x49 + n / 128)] u (setFld u k f v) := (onlyRegs_setFld u f v h).regsAndEvents
  unfold requestSwap
  dsimp only
  split
  · rw [swapNow_eq, banksExchanged]
    exact (((field _ _ _ _ (by simp)).trans (field _ _ _ _ (by simp))).trans (field _ _ _ _ (by simp))).trans
      (regsAndEvents_raiseBit _ _ (by simp))
  · exact field _ _ _ _ (by simp)

/-- Requesting a swap of one loop leaves every register of the others. -/
theorem rd_requestSwap_other (s : State) {m n : Nat} (hm : m < 512) (hn : n < 512) (h : m ≠ n) {off : Nat} (ho : off < 0x1000) :
    rd (requestSwap s n) (loopReg m off) = rd s (loopReg m off) := by
  have apart (u : State) {b : Nat} (hb : b < 0x1000) (f : Fld) (v : Nat) :
      rd (setFld u (loopReg n b) f v) (loopReg m off) = rd u (loopReg m off) := rd_setFld_ne u f v (loopReg_ne hm hn ho hb (.inl h))
  unfold requestSwap
  dsimp only
  split
  · rw [swapNow_eq, rd_raiseBit_loopReg _ (by omega), banksExchanged]
    exact ((apart _ (by decide) _ _).trans (apart _ (by decide) _ _)).trans (apart _ (by decide) _ _)
  · exact apart _ (by decide) _ _

end Sys2Proof.Machine
end

section
/-! SUPPORT. BANK_SWAP_REQUEST: LPE_LSEL shows the loop, and its SWAP acts (R196). -/

namespace Sys2Proof.Machine

open Sys2Proof.Safety

/-! ## Writes of a page of loop engines -/

/-- The field tables of LPE_LSEL and LPE_BANK. -/
def lpeLselDesc : RegDesc := ⟨0x40, [], .one, [⟨31, 7, .rsv, 0, [], 1⟩, ⟨6, 0, .rw, 0, [], 1⟩]⟩
def lpeBankDesc : RegDesc :=
  ⟨0x13C, [], .loop, [⟨31, 3, .rsv, 0, [], 1⟩, ⟨2, 2, .ro, 0, [], 1⟩, ⟨1, 1, .wo, 0, [], 1⟩, ⟨0, 0, .ro, 0, [], 1⟩]⟩

theorem findReg_LPE : ∀ e : Fin 4, findReg (0x49 + e.val) 0x40 = some lpeLselDesc ∧ findReg (0x49 + e.val) 0x13C = some lpeBankDesc := by decide

theorem pageAlloc_LPE : ∀ e : Fin 4, (pageAlloc (0x49 + e.val)).isSome = true := by decide

/-- The state of a loop bars neither the selector nor a swap. -/
theorem stateBars_LPE (s : State) (e : Fin 4) (old v : Word) :
    stateBars s (0x49 + e.val) 0x40 old v = false ∧ stateBars s (0x49 + e.val) 0x13C old v = false := by
  fin_cases e <;> simp [stateBars, pageIn]

theorem ownWrite_LPE (s : State) (q : Requester) (e : Fin 4) (v : Word) :
    ownWrite s q (0x49 + e.val) 0x40 v = none ∧ ownWrite s q (0x49 + e.val) 0x13C v = none := by
  fin_cases e <;> exact ⟨rfl, rfl⟩

theorem tableCode_LPE_LSEL {s : State} {e : Fin 4} (ha : Awake s (0x49 + e.val)) (slot : Fin 128) (old : Word) :
    tableCode s (0x49 + e.val) 0x40 lpeLselDesc old (BitVec.ofNat 32 slot.val) = .none := by
  have fields : ∀ k : Fin 128, reservedSet lpeLselDesc (BitVec.ofNat 32 k.val) = false := by decide
  exact tableCode_none rfl (fields slot) (by fin_cases e <;> rfl) (lockedChange_none rfl s _ _) (stateBars_LPE s e _ _).1
    (domainRefuses_awake ha _ _ _) (illegalField_none rfl _) (by fin_cases e <;> rfl)

theorem tableCode_LPE_BANK {s : State} {e : Fin 4} (ha : Awake s (0x49 + e.val)) (old : Word) :
    tableCode s (0x49 + e.val) 0x13C lpeBankDesc old 2 = .none :=
  tableCode_none rfl (by decide) (by fin_cases e <;> rfl) (lockedChange_none rfl s _ _) (stateBars_LPE s e _ _).2
    (domainRefuses_awake ha _ _ _) (illegalField_none rfl _) (by fin_cases e <;> rfl)

/-! ## The selector -/

/-- The engine of a loop, and its slot there. -/
abbrev engineOf (n : Fin 512) : Fin 4 := ⟨n.val / 128, by omega⟩
abbrev slotOf (n : Fin 512) : Fin 128 := ⟨n.val % 128, by omega⟩

/-- LPE_LSEL shows a loop. -/
def loopShown (s : State) (n : Fin 512) : State :=
  forwardConfig (setFld s (R.LPE_LSEL (n.val / 128)) F.LPE_LSEL_SLOT (n.val % 128)) (0x49 + n.val / 128) 0x40 (BitVec.ofNat 32 (n.val % 128))

theorem onlyRegs_loopShown {ks : List Nat} (s : State) {n : Fin 512} (h : R.LPE_LSEL (n.val / 128) ∈ ks) : OnlyRegs ks s (loopShown s n) :=
  (onlyRegs_setFld s _ _ h).trans (onlyRegs_forwardConfig ks _ _ _ _)

theorem slot_loopShown (s : State) (n : Fin 512) : fld (loopShown s n) (R.LPE_LSEL (n.val / 128)) F.LPE_LSEL_SLOT = n.val % 128 := by
  rw [fld, loopShown, rd_forwardConfig]
  exact (fld_setFld_same _ _ F.LPE_LSEL_SLOT _ (by decide) (by decide)).trans (Nat.mod_eq_of_lt (slotOf n).isLt)

/-- To show a loop changes no loop's register. -/
theorem rd_loopShown (s : State) (n : Fin 512) (m off : Nat) : rd (loopShown s n) (loopReg m off) = rd s (loopReg m off) := by
  refine (onlyRegs_loopShown (ks := [R.LPE_LSEL (n.val / 128)]) s List.mem_cons_self).regs _ ?_
  rw [List.mem_singleton]
  exact loopReg_ne_plain m off (by omega) (by decide)

/-- To show a loop leaves its engine's domain as it is. -/
theorem awake_loopShown {s : State} {n : Fin 512} (ha : Awake s (0x49 + n.val / 128)) : Awake (loopShown s n) (0x49 + n.val / 128) := by
  have domains : ∀ e : Fin 4, pageDomain (0x49 + e.val) = 5 := by decide
  have domain : pageDomain (0x49 + n.val / 128) = 5 := domains (engineOf n)
  have apart : R.PWR_DOMSTAT 5 ∉ [R.LPE_LSEL (n.val / 128)] := by
    simp only [List.mem_singleton, R.PWR_DOMSTAT, R.LPE_LSEL, regKey]
    omega
  have stat : rd (loopShown s n) (R.PWR_DOMSTAT 5) = rd s (R.PWR_DOMSTAT 5) := (onlyRegs_loopShown s List.mem_cons_self).regs _ apart
  simpa only [Awake, domSt, domC, fld, domain, stat] using ha

theorem afterWrite_LPE_LSEL (s : State) (q : Requester) (e : Fin 4) (old v : Word) : afterWrite s q (0x49 + e.val) 0x40 old v = (s, .none) := by
  fin_cases e <;> rfl

/-- A write of LPE_LSEL meets no condition of its own, and starts no action. -/
theorem lpeLsel_plain (s : State) (e : Fin 4) (v : Word) :
    chapterCode s (0x49 + e.val) 0x40 v = .none ∧ startsAction (0x49 + e.val) 0x40 lpeLselDesc = false ∧
    pageIn (0x49 + e.val) 0x78 0x7A = false ∧ wideOf (0x49 + e.val) 0x40 = none := by
  fin_cases e <;> exact ⟨rfl, rfl, rfl, rfl⟩

theorem regWrite_LPE_LSEL {s : State} (q : Requester) {n : Fin 512} (ha : Awake s (0x49 + n.val / 128)) :
    regWrite s q (0x49 + n.val / 128) 0x40 (BitVec.ofNat 32 (n.val % 128)) = (loopShown s n, .none) := by
  have low : ∀ k : Fin 128, bits (BitVec.ofNat 32 k.val) 6 0 = k.val := by decide
  have word : wr s (R.LPE_LSEL (n.val / 128)) (writtenWord lpeLselDesc (rd s (R.LPE_LSEL (n.val / 128))) (BitVec.ofNat 32 (n.val % 128))) =
      setFld s (R.LPE_LSEL (n.val / 128)) F.LPE_LSEL_SLOT (n.val % 128) :=
    congrArg (fun k => wr s (R.LPE_LSEL (n.val / 128)) (withBits (rd s (R.LPE_LSEL (n.val / 128))) 6 0 k)) (low (slotOf n))
  obtain ⟨chapter, act, host, narrow⟩ := lpeLsel_plain s (engineOf n) (BitVec.ofNat 32 (n.val % 128))
  have accepted : acceptWrite s q (0x49 + n.val / 128) 0x40 lpeLselDesc (BitVec.ofNat 32 (n.val % 128)) =
      (setFld s (R.LPE_LSEL (n.val / 128)) F.LPE_LSEL_SLOT (n.val % 128), .none) := by
    rw [← word]
    refine acceptWrite_of_afterWrite (by omega) host chapter ?_
    rw [act]
    exact afterWrite_LPE_LSEL _ q (engineOf n) _ _
  exact (regWrite_action ha (by decide) (pageAlloc_LPE (engineOf n)) (findReg_LPE (engineOf n)).1 (ownWrite_LPE s q (engineOf n) _).1
    (tableCode_LPE_LSEL (e := engineOf n) ha (slotOf n) _) narrow).1 _ accepted

/-! ## SWAP -/

/-- The state in which SWAP of a loop acts. -/
def swapActive (s : State) (n : Fin 512) : State :=
  actionState (loopShown s n) (R.LPE_BANK n.val) (pageDomain (0x49 + n.val / 128))

theorem onlyRegs_swapActive {ks : List Nat} {s : State} {n : Fin 512} (ha : Awake s (0x49 + n.val / 128)) (h : R.LPE_LSEL (n.val / 128) ∈ ks) :
    OnlyRegs ks s (swapActive s n) :=
  (onlyRegs_loopShown s h).trans (onlyRegs_actionState ks (awake_loopShown ha) _)

/-- The loops' registers read in it as before. -/
theorem rd_swapActive {s : State} {n : Fin 512} (ha : Awake s (0x49 + n.val / 128)) (m off : Nat) :
    rd (swapActive s n) (loopReg m off) = rd s (loopReg m off) :=
  ((onlyRegs_actionState [] (awake_loopShown ha) _).regs _ List.not_mem_nil).trans (rd_loopShown s n m off)

theorem fld_swapActive {s : State} {n : Fin 512} (ha : Awake s (0x49 + n.val / 128)) (m off : Nat) (f : Fld) :
    fld (swapActive s n) (loopReg m off) f = fld s (loopReg m off) f := by
  rw [fld, rd_swapActive ha]
  rfl

theorem selLoop_of_slot {s : State} {n : Fin 512} (shown : fld s (R.LPE_LSEL (n.val / 128)) F.LPE_LSEL_SLOT = n.val % 128) :
    selLoop s (0x49 + n.val / 128) = n.val := by
  rw [selLoop, Nat.add_sub_cancel_left, shown]
  exact Nat.div_add_mod' n.val 128

theorem selLoop_swapActive {s : State} {n : Fin 512} (ha : Awake s (0x49 + n.val / 128)) :
    selLoop (swapActive s n) (0x49 + n.val / 128) = n.val := by
  refine selLoop_of_slot (Eq.trans ?_ (slot_loopShown s n))
  exact congrArg (bits · 6 0) ((onlyRegs_actionState [] (awake_loopShown ha) _).regs _ List.not_mem_nil)

theorem keyAt_LPE_BANK (s : State) (n : Fin 512) :
    keyAt (loopShown s n) (0x49 + n.val / 128) 0x13C lpeBankDesc = R.LPE_BANK n.val := by
  have slot := slot_loopShown s n
  simp only [keyAt, lpeBankDesc, Nat.add_sub_cancel_left]
  rw [slot]
  rfl

theorem afterWrite_LPE_BANK (s : State) (q : Requester) (e : Fin 4) (old : Word) :
    afterWrite s q (0x49 + e.val) 0x13C old 2 = bankSwap s (selLoop s (0x49 + e.val)) := by
  fin_cases e <;> rfl

/-- A write of SWAP meets no condition of its own, and is an action: it sets no bit of LPE_BANK itself. -/
theorem lpeBank_action (s : State) (e : Fin 4) (old : Word) :
    chapterCode s (0x49 + e.val) 0x13C 2 = .none ∧ startsAction (0x49 + e.val) 0x13C lpeBankDesc = true ∧
    pageIn (0x49 + e.val) 0x78 0x7A = false ∧ wideOf (0x49 + e.val) 0x13C = none ∧ writtenWord lpeBankDesc old 2 = old := by
  fin_cases e <;> exact ⟨rfl, rfl, rfl, rfl, rfl⟩

/-- A write of SWAP acts on the loop that LPE_LSEL shows; one that is turned away leaves LPE_BANK as it was. -/
theorem acceptWrite_LPE_BANK {s : State} (q : Requester) {n : Fin 512} (ha : Awake s (0x49 + n.val / 128)) :
    acceptWrite (loopShown s n) q (0x49 + n.val / 128) 0x13C lpeBankDesc 2 =
      (let r := bankSwap (swapActive s n) n.val
       if r.2 = .none then r else (wr r.1 (R.LPE_BANK n.val) (rd (loopShown s n) (R.LPE_BANK n.val)), r.2)) := by
  obtain ⟨chapter, act, host, -, word⟩ := lpeBank_action (loopShown s n) (engineOf n) (rd (loopShown s n) (R.LPE_BANK n.val))
  have bind : ¬ (0x49 + n.val / 128 = 0x80 ∧ pageIn 0x13C 0x100 0x2FF = true ∧ 0x13C % 8 = 0) := by omega
  have effect (old : Word) : afterWrite (domainRuns (wr (loopShown s n) (R.LPE_BANK n.val) (rd (loopShown s n) (R.LPE_BANK n.val)))
      (pageDomain (0x49 + n.val / 128))) q (0x49 + n.val / 128) 0x13C old 2 = bankSwap (swapActive s n) n.val :=
    (afterWrite_LPE_BANK (swapActive s n) q (engineOf n) old).trans (congrArg _ (selLoop_swapActive ha))
  unfold acceptWrite
  rw [if_neg bind]
  dsimp only at chapter act host
  simp only [keyAt_LPE_BANK, chapter, act, host, word, effect, Bool.false_eq_true, false_and, if_false, if_true]

theorem exec_bankSwapRequest {s : State} {q : Requester} {n : Fin 512} (hr : Reaches s q (0x49 + n.val / 128) 0x13C)
    (ha : Awake s (0x49 + n.val / 128)) : exec (.bankSwapRequest q n) s =
      .next (endCommand (0x49 + n.val / 128) 0x13C (regWrite (loopShown s n) q (0x49 + n.val / 128) 0x13C 2)) := by
  have select : exec (.bankSwapRequest q n) s = .next (selectedWrite s q (0x49 + n.val / 128) 0x40 (n.val % 128) 0x13C 2) := rfl
  rw [select, selectedWrite, gated_reaches hr, regWrite_LPE_LSEL q ha]

theorem regWrite_LPE_BANK {s : State} (q : Requester) {n : Fin 512} (ha : Awake s (0x49 + n.val / 128)) :
    (∀ r, bankSwap (swapActive s n) n.val = (r, .none) → regWrite (loopShown s n) q (0x49 + n.val / 128) 0x13C 2 =
      (forwardConfig r (0x49 + n.val / 128) 0x13C 2, .none)) ∧
    (∀ r c, c ≠ .none → bankSwap (swapActive s n) n.val = (r, c) →
      regWrite (loopShown s n) q (0x49 + n.val / 128) 0x13C 2 =
        (wr r (R.LPE_BANK n.val) (rd (loopShown s n) (R.LPE_BANK n.val)), c)) := by
  have active : Awake (loopShown s n) (0x49 + n.val / 128) := awake_loopShown ha
  obtain ⟨-, -, -, narrow, -⟩ := lpeBank_action s (engineOf n) 0
  have table (old : Word) : tableCode (loopShown s n) (0x49 + n.val / 128) 0x13C lpeBankDesc old 2 = .none :=
    tableCode_LPE_BANK (e := engineOf n) active old
  have own : ownWrite (loopShown s n) q (0x49 + n.val / 128) 0x13C 2 = none := (ownWrite_LPE _ q (engineOf n) 2).2
  have found : findReg (0x49 + n.val / 128) 0x13C = some lpeBankDesc := (findReg_LPE (engineOf n)).2
  obtain ⟨done, refused⟩ := regWrite_action active (by decide) (pageAlloc_LPE (engineOf n)) found own (table _) narrow
  refine ⟨fun r hb => done r ?_, fun r c hc hb => refused _ c hc ?_⟩
  · simp only [acceptWrite_LPE_BANK q ha, hb, if_true]
  · simp only [acceptWrite_LPE_BANK q ha, hb, hc, if_false]

/-! ## The request as its requester meets it -/

theorem bankSwap_idle {s : State} {n : Nat} (idle : flag s (R.LPE_BANK n) F.LPE_BANK_SWAP_PEND = false) :
    bankSwap s n = (requestSwap s n, .none) := by
  simp [bankSwap, idle]

theorem bankSwap_pending {s : State} {n : Nat} (pending : flag s (R.LPE_BANK n) F.LPE_BANK_SWAP_PEND = true) : bankSwap s n = (s, .busy) := by
  simp [bankSwap, pending]

theorem pend_swapActive {s : State} {n : Fin 512} (ha : Awake s (0x49 + n.val / 128)) :
    flag (swapActive s n) (R.LPE_BANK n.val) F.LPE_BANK_SWAP_PEND = flag s (R.LPE_BANK n.val) F.LPE_BANK_SWAP_PEND :=
  congrArg (· != 0) (fld_swapActive ha n.val 0x13C F.LPE_BANK_SWAP_PEND)

theorem loopSt_swapActive {s : State} {n : Fin 512} (ha : Awake s (0x49 + n.val / 128)) : loopSt (swapActive s n) n.val = loopSt s n.val :=
  fld_swapActive ha n.val 0x140 F.LPE_LSTAT_STATE

/-- The state after SWAP of a loop has been done to `r`. -/
def swapAnswered (r : State) (n : Fin 512) : State := answer (forwardConfig r (0x49 + n.val / 128) 0x13C 2) .none

theorem onlyRegs_swapAnswered (ks : List Nat) (r : State) (n : Fin 512) : OnlyRegs ks r (swapAnswered r n) :=
  (onlyRegs_forwardConfig ks r _ _ _).trans (onlyRegs_answer ks _ _)

theorem fld_swapAnswered (r : State) (n : Fin 512) (k : Nat) (f : Fld) : fld (swapAnswered r n) k f = fld r k f := by
  rw [fld, (onlyRegs_swapAnswered [] r n).regs k List.not_mem_nil]
  rfl

theorem flag_swapAnswered (r : State) (n : Fin 512) (k : Nat) (f : Fld) : flag (swapAnswered r n) k f = flag r k f :=
  congrArg (· != 0) (fld_swapAnswered r n k f)

theorem exec_bankSwapRequest_taken {s : State} {q : Requester} {n : Fin 512} (hr : Reaches s q (0x49 + n.val / 128) 0x13C)
    (ha : Awake s (0x49 + n.val / 128)) (idle : flag s (R.LPE_BANK n.val) F.LPE_BANK_SWAP_PEND = false) :
    exec (.bankSwapRequest q n) s = .next (swapAnswered (requestSwap (swapActive s n) n.val) n) := by
  have run := bankSwap_idle ((pend_swapActive ha).trans idle)
  rw [exec_bankSwapRequest hr ha, (regWrite_LPE_BANK q ha).1 _ run, endCommand, if_pos rfl, swapAnswered]

theorem exec_bankSwapRequest_refused {s : State} {q : Requester} {n : Fin 512} (hr : Reaches s q (0x49 + n.val / 128) 0x13C)
    (ha : Awake s (0x49 + n.val / 128)) (pending : flag s (R.LPE_BANK n.val) F.LPE_BANK_SWAP_PEND = true) :
    exec (.bankSwapRequest q n) s =
      .next (rejectWrite (wr (swapActive s n) (R.LPE_BANK n.val) (rd (loopShown s n) (R.LPE_BANK n.val)))
        (0x49 + n.val / 128) 0x13C .busy) := by
  have run := bankSwap_pending ((pend_swapActive ha).trans pending)
  rw [exec_bankSwapRequest hr ha, (regWrite_LPE_BANK q ha).2 _ _ (by decide) run, endCommand, if_neg (by simp)]

/-- While the loop is ON the swap is latched, and the bank in use stays (R196). -/
theorem bankSwapRequest_latches {s : State} {q : Requester} {n : Fin 512} (hr : Reaches s q (0x49 + n.val / 128) 0x13C)
    (ha : Awake s (0x49 + n.val / 128)) (idle : flag s (R.LPE_BANK n.val) F.LPE_BANK_SWAP_PEND = false) (on : loopSt s n.val = 2) :
    ∃ t, exec (.bankSwapRequest q n) s = .next t ∧ Accepted t ∧ flag t (R.LPE_BANK n.val) F.LPE_BANK_SWAP_PEND = true ∧
      fld t (R.LPE_BANK n.val) F.LPE_BANK_ACTIVE = fld s (R.LPE_BANK n.val) F.LPE_BANK_ACTIVE ∧
      OnlyRegs [R.LPE_LSEL (n.val / 128), R.LPE_BANK n.val] s t := by
  have latched := requestSwap_on ((loopSt_swapActive ha).trans on)
  refine ⟨_, exec_bankSwapRequest_taken hr ha idle, rfl, ?_, ?_, ?_⟩
  · rw [flag_swapAnswered, latched, flag_latched]
  · rw [fld_swapAnswered, latched, active_latched]
    exact fld_swapActive ha n.val 0x13C _
  · rw [latched]
    exact ((onlyRegs_swapActive ha (by simp)).trans (onlyRegs_setFld _ _ _ (by simp))).trans (onlyRegs_swapAnswered _ _ _)

/-- While the loop is OFF the swap takes effect at once (R196). -/
theorem bankSwapRequest_swaps {s : State} {q : Requester} {n : Fin 512} (hr : Reaches s q (0x49 + n.val / 128) 0x13C)
    (ha : Awake s (0x49 + n.val / 128)) (idle : flag s (R.LPE_BANK n.val) F.LPE_BANK_SWAP_PEND = false) (off : loopSt s n.val = 0) :
    ∃ t, exec (.bankSwapRequest q n) s = .next t ∧ Accepted t ∧ flag t (R.LPE_BANK n.val) F.LPE_BANK_SWAP_PEND = false ∧
      fld t (R.LPE_BANK n.val) F.LPE_BANK_ACTIVE = 1 - fld s (R.LPE_BANK n.val) F.LPE_BANK_ACTIVE ∧
      flag t (R.LPE_LSTAT n.val) F.LPE_LSTAT_SWAPPED = true := by
  have swapped := requestSwap_off ((loopSt_swapActive ha).trans off)
  obtain ⟨cleared, active, shown⟩ := swapNow_takes (swapActive s n) n.isLt
  refine ⟨_, exec_bankSwapRequest_taken hr ha idle, rfl, ?_, ?_, ?_⟩
  · rw [flag_swapAnswered, swapped, cleared]
  · rw [fld_swapAnswered, swapped, active]
    exact congrArg (1 - ·) (fld_swapActive ha n.val 0x13C _)
  · rw [flag_swapAnswered, swapped, shown]

/-- A swap that is pending bars another, which changes nothing of LPE_BANK (R196). -/
theorem bankSwapRequest_bars {s : State} {q : Requester} {n : Fin 512} (hr : Reaches s q (0x49 + n.val / 128) 0x13C)
    (ha : Awake s (0x49 + n.val / 128)) (pending : flag s (R.LPE_BANK n.val) F.LPE_BANK_SWAP_PEND = true) :
    ∃ t, exec (.bankSwapRequest q n) s = .next t ∧ t.answer.code = .busy ∧ rd t (R.LPE_BANK n.val) = rd s (R.LPE_BANK n.val) := by
  refine ⟨_, exec_bankSwapRequest_refused hr ha pending, rfl, ?_⟩
  exact (rd_rejectWrite_loopReg _ (by omega) _ _ n.val 0x13C).trans ((rd_wr_same _ _ _).trans (rd_loopShown s n n.val 0x13C))

end Sys2Proof.Machine
end

section
/-! SUPPORT. GROUP_SWAP: a swap of every loop of the groups that LPG_GSWAP names (R199). -/

namespace Sys2Proof.Machine

open Sys2Proof.Safety

/-! ## A fold of updates of which each concerns a place of its own -/

/-- Where only the update of one place bears on what is seen of it, the fold shows that place as that update alone leaves it. -/
theorem forAll_view {σ α β : Type} {f : σ → α → σ} {view : σ → β} {l : List α} {m : α} (nodup : l.Nodup) (mem : m ∈ l)
    (other : ∀ u, ∀ a ∈ l, a ≠ m → view (f u a) = view u) (s : σ) : ∃ u, view u = view s ∧ view (forAll f l s) = view (f u m) := by
  obtain ⟨before, after, rfl⟩ := List.append_of_mem mem
  rw [List.nodup_middle, List.nodup_cons, List.mem_append, not_or] at nodup
  obtain ⟨⟨notBefore, notAfter⟩, -⟩ := nodup
  have keeps (part : List α) (sub : part ⊆ before ++ m :: after) (absent : m ∉ part) (u : σ) : view (part.foldl f u) = view u :=
    List.foldlRecOn part f rfl (motive := fun v => view v = view u)
      (fun v hv a ha => (other v a (sub ha) (fun e => absent (e ▸ ha))).trans hv)
  refine ⟨before.foldl f s, keeps before (by simp) notBefore s, ?_⟩
  rw [forAll, List.foldl_append]
  exact keeps after (by simp) notAfter _

/-! ## One loop of a group swap -/

/-- What LPG_GSWAP does to one loop. -/
def groupStep (groups : Nat) (s : State) (n : Nat) : State :=
  if groups.testBit (fld s (R.LPE_CTRL n) F.LPE_CTRL_GROUP) && !flag s (R.LPE_BANK n) F.LPE_BANK_SWAP_PEND then requestSwap s n else s

theorem groupSwap_eq (s : State) (groups : Nat) : groupSwap s groups = forAll (groupStep groups) (upTo 512) s := rfl

/-- The registers of a loop on which a swap depends or acts. -/
def swapView (n : Nat) (s : State) : Word × Word × Word := (rd s (R.LPE_BANK n), rd s (R.LPE_CTRL n), rd s (R.LPE_LSTAT n))

theorem swapView_ext {s t : State} {n : Nat} (h : swapView n t = swapView n s) :
    rd t (R.LPE_BANK n) = rd s (R.LPE_BANK n) ∧ rd t (R.LPE_CTRL n) = rd s (R.LPE_CTRL n) ∧ rd t (R.LPE_LSTAT n) = rd s (R.LPE_LSTAT n) := by
  simpa only [swapView, Prod.mk.injEq] using h

/-- The step of one loop leaves the others. -/
theorem swapView_groupStep_other (groups : Nat) (s : State) {m n : Nat} (hm : m < 512) (hn : n < 512) (h : n ≠ m) :
    swapView m (groupStep groups s n) = swapView m s := by
  unfold groupStep
  split
  · have same {off : Nat} (ho : off < 0x1000) := rd_requestSwap_other s hm hn h.symm ho
    exact congrArg₂ Prod.mk (same (off := 0x13C) (by decide))
      (congrArg₂ Prod.mk (same (off := 0x100) (by decide)) (same (off := 0x140) (by decide)))
  · rfl

/-- A loop outside the named groups is left alone. -/
theorem groupStep_unnamed {groups : Nat} {s : State} {n : Nat} (unnamed : groups.testBit (fld s (R.LPE_CTRL n) F.LPE_CTRL_GROUP) = false) :
    groupStep groups s n = s := by
  simp [groupStep, unnamed]

/-- A loop of the named groups that is ON has a swap pending afterwards, whether or not it had one before. -/
theorem groupStep_on {groups : Nat} {s : State} {n : Nat} (named : groups.testBit (fld s (R.LPE_CTRL n) F.LPE_CTRL_GROUP) = true)
    (on : loopSt s n = fsON) : flag (groupStep groups s n) (R.LPE_BANK n) F.LPE_BANK_SWAP_PEND = true := by
  unfold groupStep
  cases pend : flag s (R.LPE_BANK n) F.LPE_BANK_SWAP_PEND with
  | false =>
    simp only [named, Bool.not_false, Bool.and_self, if_true]
    rw [requestSwap_on on, flag_latched]
  | true => simpa using pend

theorem sameBytes_groupStep (groups : Nat) (s : State) (n : Nat) : SameBytes s (groupStep groups s n) := by
  unfold groupStep
  split
  · exact sameBytes_of_regsAndEvents (regsAndEvents_requestSwap s n)
  · exact fun _ => rfl

theorem points_groupStep (groups : Nat) (s : State) (n : Nat) : (groupStep groups s n).points = s.points := by
  unfold groupStep
  split
  · rw [(regsAndEvents_requestSwap s n).rest]
  · rfl

/-! ## All loops -/

/-- A group swap leaves each loop as its own step does. -/
theorem swapView_groupSwap (groups : Nat) (s : State) (n : Fin 512) :
    ∃ u, swapView n.val u = swapView n.val s ∧ swapView n.val (groupSwap s groups) = swapView n.val (groupStep groups u n.val) :=
  forAll_view List.nodup_range (List.mem_range.mpr n.isLt)
    (fun u _ ha h => swapView_groupStep_other groups u n.isLt (List.mem_range.mp ha) h) s

theorem groupSwap_named {groups : Nat} {s : State} {n : Fin 512} (named : groups.testBit (fld s (R.LPE_CTRL n.val) F.LPE_CTRL_GROUP) = true)
    (on : loopSt s n.val = fsON) : flag (groupSwap s groups) (R.LPE_BANK n.val) F.LPE_BANK_SWAP_PEND = true := by
  obtain ⟨u, before, after⟩ := swapView_groupSwap groups s n
  obtain ⟨-, ctrl, stat⟩ := swapView_ext before
  obtain ⟨bank, -, -⟩ := swapView_ext after
  rw [flag, fld, bank]
  refine groupStep_on (s := u) ?_ ?_
  · rw [fld, ctrl]
    exact named
  · rw [loopSt, fld, stat]
    exact on

theorem groupSwap_unnamed {groups : Nat} {s : State} {n : Fin 512}
    (unnamed : groups.testBit (fld s (R.LPE_CTRL n.val) F.LPE_CTRL_GROUP) = false) :
    rd (groupSwap s groups) (R.LPE_BANK n.val) = rd s (R.LPE_BANK n.val) := by
  obtain ⟨u, before, after⟩ := swapView_groupSwap groups s n
  obtain ⟨bank, ctrl, -⟩ := swapView_ext before
  have alone : groupStep groups u n.val = u := groupStep_unnamed (by rw [fld, ctrl]; exact unnamed)
  rw [alone] at after
  exact (swapView_ext after).1.trans bank

theorem sameBytes_groupSwap (groups : Nat) (s : State) : SameBytes s (groupSwap s groups) := fun a =>
  foldl_keeps (byteAt · a) (fun u n => sameBytes_groupStep groups u n a) (upTo 512) s

theorem points_groupSwap (groups : Nat) (s : State) : (groupSwap s groups).points = s.points :=
  foldl_keeps State.points (points_groupStep groups) (upTo 512) s

/-! ## The command -/

/-- The field table of LPG_GSWAP. -/
def lpgGswapDesc : RegDesc := ⟨0x40, [], .one, [⟨31, 16, .rsv, 0, [], 1⟩, ⟨15, 0, .wo, 0, [], 1⟩]⟩

theorem findReg_LPG_GSWAP : findReg 0x48 0x40 = some lpgGswapDesc := by decide

/-- The word that names groups has no bit above them. -/
theorem groupWord (g : BitVec 16) : reservedSet lpgGswapDesc (g.setWidth 32) = false ∧ bits (g.setWidth 32) 15 0 = g.toNat := by
  have word : (g.setWidth 32).toNat = g.toNat := by
    rw [BitVec.toNat_setWidth]
    exact Nat.mod_eq_of_lt (Nat.lt_trans g.isLt (by decide))
  have high : bits (g.setWidth 32) 31 16 = 0 := by
    rw [bits, natBits, word, Nat.shiftRight_eq_div_pow, Nat.div_eq_of_lt g.isLt, Nat.zero_mod]
  refine ⟨?_, ?_⟩
  · simp [reservedSet, lpgGswapDesc, high]
  · rw [bits, natBits, word, Nat.shiftRight_zero]
    exact Nat.mod_eq_of_lt g.isLt

theorem tableCode_LPG_GSWAP {s : State} (g : BitVec 16) (ha : Awake s 0x48) (old : Word) :
    tableCode s 0x48 0x40 lpgGswapDesc old (g.setWidth 32) = .none :=
  tableCode_none rfl (groupWord g).1 rfl (lockedChange_none rfl s _ _) rfl (domainRefuses_awake ha _ _ _) (illegalField_none rfl _) rfl

/-- The state in which a group swap acts. -/
def gswapActive (s : State) : State := actionState s R.LPG_GSWAP (pageDomain 0x48)

theorem onlyRegs_gswapActive {s : State} (ha : Awake s 0x48) : OnlyRegs [] s (gswapActive s) := onlyRegs_actionState [] ha _

theorem acceptWrite_LPG_GSWAP (s : State) (q : Requester) (g : BitVec 16) :
    acceptWrite s q 0x48 0x40 lpgGswapDesc (g.setWidth 32) = (groupSwap (gswapActive s) g.toNat, .none) := by
  have act : startsAction 0x48 0x40 lpgGswapDesc = true := rfl
  refine acceptWrite_of_afterWrite (by decide) rfl rfl ?_
  rw [act]
  exact congrArg (fun k => (groupSwap (gswapActive s) k, Code.none)) (groupWord g).2

/-- The state after GROUP_SWAP. -/
def groupsSwapped (s : State) (g : BitVec 16) : State :=
  answer (forwardConfig (groupSwap (gswapActive s) g.toNat) 0x48 0x40 (g.setWidth 32)) .none

theorem exec_groupSwap {s : State} {q : Requester} (g : BitVec 16) (hr : Reaches s q 0x48 0x40) (ha : Awake s 0x48) :
    exec (.groupSwap q g) s = .next (groupsSwapped s g) :=
  congrArg Host.Outcome.next ((writeCommand_action hr ha rfl (by decide) rfl findReg_LPG_GSWAP rfl (tableCode_LPG_GSWAP g ha _) rfl).1 _
    (acceptWrite_LPG_GSWAP s q g))

theorem rd_groupsSwapped (s : State) (g : BitVec 16) (k : Nat) :
    rd (groupsSwapped s g) k = rd (groupSwap (gswapActive s) g.toNat) k := by rw [groupsSwapped, rd_answer, rd_forwardConfig]

/-- A group swap makes a swap pending on every running loop of the groups it names, and reaches no loop of another (R199). -/
theorem groupSwap_reaches {s : State} {q : Requester} (g : BitVec 16) (hr : Reaches s q 0x48 0x40) (ha : Awake s 0x48) :
    ∃ t, exec (.groupSwap q g) s = .next t ∧ Accepted t ∧
      (∀ n : Fin 512, g.getLsbD (fld s (R.LPE_CTRL n.val) F.LPE_CTRL_GROUP) = true → loopSt s n.val = 2 →
        flag t (R.LPE_BANK n.val) F.LPE_BANK_SWAP_PEND = true) ∧
      (∀ n : Fin 512, g.getLsbD (fld s (R.LPE_CTRL n.val) F.LPE_CTRL_GROUP) = false → rd t (R.LPE_BANK n.val) = rd s (R.LPE_BANK n.val)) ∧
      SameBytes s t ∧ SamePoints s t := by
  have active (k : Nat) : rd (gswapActive s) k = rd s k := (onlyRegs_gswapActive ha).regs k List.not_mem_nil
  have ended : OnlyRegs [] (groupSwap (gswapActive s) g.toNat) (groupsSwapped s g) :=
    (onlyRegs_forwardConfig _ _ _ _ _).trans (onlyRegs_answer _ _ _)
  refine ⟨_, exec_groupSwap g hr ha, rfl, fun n named on => ?_, fun n unnamed => ?_, fun a => ?_, ?_⟩
  · rw [flag, fld, rd_groupsSwapped]
    refine groupSwap_named ?_ ?_
    · rw [fld, active]
      exact named
    · rw [loopSt, fld, active]
      exact on
  · rw [rd_groupsSwapped, groupSwap_unnamed (by rw [fld, active]; exact unnamed), active]
  · rw [sameBytes_of_onlyRegs ended, sameBytes_groupSwap, sameBytes_of_onlyRegs (onlyRegs_gswapActive ha)]
  · exact samePoints_of_points (((points_of_onlyRegs ended).trans (points_groupSwap _ _)).trans (points_of_onlyRegs (onlyRegs_gswapActive ha)))

/-- Settles O41: a request of one loop is latched, done or barred by that loop's state, and a group swap is such a request for each loop by itself. -/
theorem loopSwapsAreLatchedOrTaken : Obligations.LoopSwapsAreLatchedOrTaken := by
  unfold Obligations.LoopSwapsAreLatchedOrTaken
  intro s q
  exact ⟨fun _ hr ha => ⟨bankSwapRequest_latches hr ha, bankSwapRequest_swaps hr ha, bankSwapRequest_bars hr ha⟩,
    fun g hr ha => groupSwap_reaches g hr ha⟩

end Sys2Proof.Machine
end

section
/-! SUPPORT. The energy registers of a circuit (R220 to R222). -/

namespace Sys2Proof.Machine

/-! ## A circuit of the metering state -/

@[simp] theorem circAt_setCirc_same (s : State) (c : Nat) (x : Circuit) : circAt (setCirc s c x) c = x := tget_tput_same _ _ _

theorem circAt_setCirc_ne (s : State) {c d : Nat} (x : Circuit) (h : d ≠ c) : circAt (setCirc s c x) d = circAt s d := tget_tput_ne _ _ h

theorem circAt_of_meter {s t : State} (h : t.meter = s.meter) (c : Nat) : circAt t c = circAt s c := by rw [circAt, circAt, h]

/-! ## One entry of a list -/

theorem setAt_eq_set {α : Type} (l : List α) (i : Nat) (v : α) : setAt l i v = l.set i v := by
  induction l generalizing i with
  | nil => rfl
  | cons a l ih => cases i with
    | zero => rfl
    | succ i => exact congrArg (a :: ·) (ih i)

theorem length_setAt {α : Type} (l : List α) (i : Nat) (v : α) : (setAt l i v).length = l.length := by
  rw [setAt_eq_set, List.length_set]

theorem getD_setAt {α : Type} {l : List α} {i : Nat} (v d : α) (h : i < l.length) (j : Nat) :
    (setAt l i v).getD j d = if j = i then v else l.getD j d := by
  rw [setAt_eq_set, List.getD_eq_getElem?_getD, List.getD_eq_getElem?_getD]
  split
  next same => rw [same, List.getElem?_set_self h, Option.getD_some]
  next other => rw [List.getElem?_set_ne (Ne.symm other)]

/-! ## One register -/

/-- What a circuit holds for one energy register: the accumulator, its WRAPS and the sum of the interval. -/
@[ext] structure RegisterEnergy where
  acc : Nat
  wraps : Nat
  ivl : Nat

def energyAt (x : Circuit) (r : Nat) : RegisterEnergy := ⟨x.acc.getD r 0, x.wraps.getD r 0, x.ivl.getD r 0⟩

/-- A register to which `n` is added (R222). -/
def RegisterEnergy.plus (e : RegisterEnergy) (n : Nat) : RegisterEnergy :=
  ⟨(accAdd e.acc n).1, (e.wraps + b2n (accAdd e.acc n).2) % 256, e.ivl + n⟩

theorem RegisterEnergy.plus_zero {e : RegisterEnergy} (acc : e.acc < 2 ^ 64) (wraps : e.wraps < 256) : e.plus 0 = e := by
  have noCarry : (accAdd e.acc 0).2 = false := decide_eq_false (Nat.not_le_of_lt acc)
  refine RegisterEnergy.ext (Nat.mod_eq_of_lt acc) ?_ rfl
  simp only [plus, noCarry]
  exact Nat.mod_eq_of_lt wraps

/-- A circuit whose register `r` has taken `n` more. -/
def energyAdded (x : Circuit) (r n : Nat) : Circuit :=
  let e := (energyAt x r).plus n
  { x with acc := setAt x.acc r e.acc, wraps := setAt x.wraps r e.wraps, ivl := setAt x.ivl r e.ivl }

/-- A circuit has its six registers. -/
structure SixRegisters (x : Circuit) : Prop where
  acc : x.acc.length = 6
  wraps : x.wraps.length = 6
  ivl : x.ivl.length = 6

theorem sixRegisters_energyAdded {x : Circuit} (h : SixRegisters x) (r n : Nat) : SixRegisters (energyAdded x r n) where
  acc := (length_setAt _ _ _).trans h.acc
  wraps := (length_setAt _ _ _).trans h.wraps
  ivl := (length_setAt _ _ _).trans h.ivl

theorem energyAt_energyAdded {x : Circuit} (h : SixRegisters x) {r : Nat} (hr : r < 6) (n j : Nat) :
    energyAt (energyAdded x r n) j = if j = r then (energyAt x r).plus n else energyAt x j := by
  have entry {l : List Nat} (hl : l.length = 6) (v : Nat) : (setAt l r v).getD j 0 = if j = r then v else l.getD j 0 :=
    getD_setAt v 0 (hl ▸ hr) j
  simp only [energyAt, energyAdded, entry h.acc, entry h.wraps, entry h.ivl]
  split <;> rfl

/-- Adding energy changes the circuit in that register alone; the rest shows it in host registers and in interrupts. -/
theorem circAt_addEnergy (s : State) (c r n : Nat) : circAt (addEnergy s c r n) c = energyAdded (circAt s c) r n := by
  have meter : (addEnergy s c r n).meter = (setCirc s c (energyAdded (circAt s c) r n)).meter := by
    unfold addEnergy
    dsimp only
    split
    · rw [raiseBit_meter, setFld_meter]
      rfl
    · rfl
  rw [circAt_of_meter meter, circAt_setCirc_same]

/-! ## The nets of a cycle -/

/-- The register of an active net (R220): EIMP of a positive one, EEXP of a negative one. -/
def directionOf (cp : Int) : Option Nat := if 0 < cp then some 0 else if cp < 0 then some 1 else none

/-- A circuit whose register, if one is named, has taken `n` more. -/
def energyMoved (x : Circuit) (o : Option Nat) (n : Nat) : Circuit := o.elim x (energyAdded x · n)

/-- A cycle's nets go to the register of the active net's direction and to the quadrant's. -/
theorem circAt_applyNets (s : State) (c : Nat) (cp cq : Int) :
    circAt (applyNets s c cp cq) c =
      energyMoved (energyMoved (circAt s c) (directionOf cp) cp.natAbs) (quadrantOf cp cq) cq.natAbs := by
  have active : circAt (if 0 < cp then addEnergy s c 0 cp.natAbs else if cp < 0 then addEnergy s c 1 cp.natAbs else s) c =
      energyMoved (circAt s c) (directionOf cp) cp.natAbs := by
    unfold directionOf
    split
    · exact circAt_addEnergy s c 0 _
    · split
      · exact circAt_addEnergy s c 1 _
      · rfl
  rw [← active]
  unfold applyNets
  dsimp only
  cases quadrantOf cp cq with
  | some r => exact circAt_addEnergy _ c r _
  | none => rfl

theorem sixRegisters_energyMoved {x : Circuit} (h : SixRegisters x) (o : Option Nat) (n : Nat) : SixRegisters (energyMoved x o n) := by
  cases o with
  | some r => exact sixRegisters_energyAdded h r n
  | none => exact h

theorem energyAt_energyMoved {x : Circuit} (h : SixRegisters x) {o : Option Nat} (ho : ∀ r ∈ o, r < 6) (n j : Nat) :
    energyAt (energyMoved x o n) j = if o = some j then (energyAt x j).plus n else energyAt x j := by
  cases o with
  | none => rfl
  | some r =>
    simp only [Option.some.injEq]
    refine (energyAt_energyAdded h (ho r rfl) n j).trans ?_
    split
    next same => rw [if_pos same.symm, same]
    next other => rw [if_neg (Ne.symm other)]

theorem directionOf_eq_some {cp : Int} {r : Nat} : directionOf cp = some r ↔ r = 0 ∧ 0 < cp ∨ r = 1 ∧ cp < 0 := by
  unfold directionOf
  split
  · rw [Option.some.injEq]
    omega
  · split
    · rw [Option.some.injEq]
      omega
    · rw [iff_false_left (by simp)]
      omega

/-- The table of R221, from the register to the signs of the nets. -/
theorem quadrantOf_eq_some {cp cq : Int} {r : Nat} : quadrantOf cp cq = some r ↔
    r = 2 ∧ 0 ≤ cp ∧ 0 < cq ∨ r = 3 ∧ cp < 0 ∧ 0 < cq ∨ r = 4 ∧ cp ≤ 0 ∧ cq < 0 ∨ r = 5 ∧ 0 < cp ∧ cq < 0 := by
  unfold quadrantOf
  split
  · rw [iff_false_left (by simp)]
    omega
  · repeat' split
    all_goals
      rw [Option.some.injEq]
      omega

/-- What a cycle's nets add to a register. -/
def netOf (cp cq : Int) (r : Nat) : Nat :=
  if directionOf cp = some r then cp.natAbs else if quadrantOf cp cq = some r then cq.natAbs else 0

/-- Each register takes its net, and only once: the active net goes to one of the two first, the reactive net to one of the four others. -/
theorem energyAt_applyNets {s : State} {c r : Nat} (six : SixRegisters (circAt s c)) (acc : (energyAt (circAt s c) r).acc < 2 ^ 64)
    (wraps : (energyAt (circAt s c) r).wraps < 256) (cp cq : Int) :
    energyAt (circAt (applyNets s c cp cq) c) r = (energyAt (circAt s c) r).plus (netOf cp cq r) := by
  have direction : ∀ k ∈ directionOf cp, k < 6 := fun k hk => by
    have signs := directionOf_eq_some.mp hk
    omega
  have quadrant : ∀ k ∈ quadrantOf cp cq, k < 6 := fun k hk => by
    have signs := quadrantOf_eq_some.mp hk
    omega
  rw [circAt_applyNets, energyAt_energyMoved (sixRegisters_energyMoved six _ _) quadrant, energyAt_energyMoved six direction, netOf]
  by_cases active : directionOf cp = some r
  · have notBoth : quadrantOf cp cq ≠ some r := by
      rw [Ne, quadrantOf_eq_some]
      have signs := directionOf_eq_some.mp active
      omega
    rw [if_neg notBoth, if_pos active, if_pos active]
  · rw [if_neg active, if_neg active]
    split
    · rfl
    · exact (RegisterEnergy.plus_zero acc wraps).symm

theorem netOf_table (cp cq : Int) (r : Fin 6) : netOf cp cq r.val =
    if r.val = 0 then (if 0 < cp then cp.natAbs else 0)
    else if r.val = 1 then (if cp < 0 then cp.natAbs else 0)
    else if r.val = 2 then (if 0 ≤ cp ∧ 0 < cq then cq.natAbs else 0)
    else if r.val = 3 then (if cp < 0 ∧ 0 < cq then cq.natAbs else 0)
    else if r.val = 4 then (if cp ≤ 0 ∧ cq < 0 then cq.natAbs else 0)
    else (if 0 < cp ∧ cq < 0 then cq.natAbs else 0) := by
  fin_cases r <;> simp [netOf, directionOf_eq_some, quadrantOf_eq_some]

/-- Settles O42: each register takes its net alone, once, by the table of R221. -/
theorem cycleNetsGoToTheirRegisters : Obligations.CycleNetsGoToTheirRegisters := by
  unfold Obligations.CycleNetsGoToTheirRegisters
  intro s c cp cq r
  dsimp only
  intro acc wraps ivl accBound wrapsBound
  rw [← netOf_table]
  have taken := energyAt_applyNets ⟨acc, wraps, ivl⟩ (accBound r.val) (wrapsBound r.val) cp cq
  obtain ⟨accs, wrap, interval⟩ := RegisterEnergy.mk.inj taken
  refine ⟨accs, wrap.trans ?_, interval⟩
  simp only [accAdd, b2n, decide_eq_true_eq]
  rfl

end Sys2Proof.Machine
end

section
/-! SUPPORT. CIR_CMD: MTR_CSEL shows the circuit, and ZERO and CLR_MAX act on it (R226, R237). -/

namespace Sys2Proof.Machine

open Sys2Proof.Safety

/-! ## Keys -/

/-- The key of a circuit's register at an offset of page 50h. -/
abbrev circuitReg (c off : Nat) : Nat := regKey 0x50 off (c + 1)

/-- A circuit's register is none of those that no selector shows. -/
theorem circuitReg_ne_plain (c off : Nat) {page off' : Nat} (hp : page < 0x100) (ho : off' < 0x1000) : circuitReg c off ≠ regKey page off' 0 := by
  unfold circuitReg regKey
  omega

theorem circuitReg_ne (c : Nat) {a b : Nat} (h : a ≠ b) : circuitReg c a ≠ circuitReg c b := by
  unfold circuitReg regKey
  omega

/-! ## Writes of the page -/

/-- The field tables of MTR_CSEL and CIR_CMD. -/
def mtrCselDesc : RegDesc := ⟨0x80, [], .one, [⟨31, 6, .rsv, 0, [], 1⟩, ⟨5, 0, .rw, 0, [(0x0, 0x2F)], 1⟩]⟩
def cirCmdDesc : RegDesc := ⟨0x118, [], .circuit, [⟨31, 2, .rsv, 0, [], 1⟩, ⟨1, 0, .wo, 0, [(0x1, 0x2)], 1⟩]⟩

theorem findReg_MTR_CSEL : findReg 0x50 0x80 = some mtrCselDesc := by decide

theorem findReg_CIR_CMD : findReg 0x50 0x118 = some cirCmdDesc := by decide

/-- The operations of CIR_CMD (R237). -/
inductive CircuitOp where
  | zero
  | clrMax

/-- The word that requests an operation. -/
def CircuitOp.word : CircuitOp → Word
  | .zero => 1
  | .clrMax => 2

/-- What an operation does to a circuit. -/
def CircuitOp.run (o : CircuitOp) (s : State) (c : Nat) : State × Code :=
  match o with
  | .zero => circuitZero s c
  | .clrMax => circuitClrMax s c

/-- The state of a circuit bars neither the selector nor a command. -/
theorem stateBars_MTR (s : State) (old v : Word) : stateBars s 0x50 0x80 old v = false ∧ stateBars s 0x50 0x118 old v = false := by
  simp [stateBars, pageIn]

theorem tableCode_MTR_CSEL {s : State} (ha : Awake s 0x50) (c : Fin 48) (old : Word) :
    tableCode s 0x50 0x80 mtrCselDesc old (BitVec.ofNat 32 c.val) = .none := by
  have fields : ∀ k : Fin 48, reservedSet mtrCselDesc (BitVec.ofNat 32 k.val) = false ∧ illegalField mtrCselDesc (BitVec.ofNat 32 k.val) = false := by
    decide
  obtain ⟨reserved, legal⟩ := fields c
  exact tableCode_none rfl reserved rfl (lockedChange_none rfl s _ _) (stateBars_MTR s _ _).1 (domainRefuses_awake ha _ _ _) legal rfl

theorem tableCode_CIR_CMD {s : State} (ha : Awake s 0x50) (o : CircuitOp) (old : Word) :
    tableCode s 0x50 0x118 cirCmdDesc old o.word = .none := by
  have reserved : reservedSet cirCmdDesc o.word = false := by cases o <;> decide
  have legal : illegalField cirCmdDesc o.word = false := by cases o <;> decide
  exact tableCode_none rfl reserved rfl (lockedChange_none rfl s _ _) (stateBars_MTR s _ _).2 (domainRefuses_awake ha _ _ _) legal rfl

/-! ## The selector -/

/-- MTR_CSEL shows a circuit. -/
def circuitShown (s : State) (c : Fin 48) : State :=
  forwardConfig (setFld s R.MTR_CSEL F.MTR_CSEL_CIRCUIT c.val) 0x50 0x80 (BitVec.ofNat 32 c.val)

theorem onlyRegs_circuitShown {ks : List Nat} (s : State) (c : Fin 48) (h : R.MTR_CSEL ∈ ks) : OnlyRegs ks s (circuitShown s c) :=
  (onlyRegs_setFld s _ _ h).trans (onlyRegs_forwardConfig ks _ _ _ _)

theorem selCircuit_circuitShown (s : State) (c : Fin 48) : selCircuit (circuitShown s c) = c.val := by
  rw [selCircuit, fld, circuitShown, rd_forwardConfig]
  exact (fld_setFld_same _ _ F.MTR_CSEL_CIRCUIT _ (by decide) (by decide)).trans (Nat.mod_eq_of_lt (Nat.lt_trans c.isLt (by decide)))

/-- To show a circuit leaves the domain of the page as it is. -/
theorem awake_circuitShown {s : State} (c : Fin 48) (ha : Awake s 0x50) : Awake (circuitShown s c) 0x50 := by
  have apart : R.PWR_DOMSTAT (pageDomain 0x50) ∉ [R.MTR_CSEL] := by decide
  have stat := (onlyRegs_circuitShown s c List.mem_cons_self).regs _ apart
  simpa only [Awake, domSt, domC, fld, stat] using ha

theorem regWrite_MTR_CSEL {s : State} (q : Requester) (c : Fin 48) (ha : Awake s 0x50) :
    regWrite s q 0x50 0x80 (BitVec.ofNat 32 c.val) = (circuitShown s c, .none) := by
  have low : ∀ k : Fin 48, bits (BitVec.ofNat 32 k.val) 5 0 = k.val := by decide
  have word : wr s R.MTR_CSEL (writtenWord mtrCselDesc (rd s R.MTR_CSEL) (BitVec.ofNat 32 c.val)) = setFld s R.MTR_CSEL F.MTR_CSEL_CIRCUIT c.val :=
    congrArg (fun k => wr s R.MTR_CSEL (withBits (rd s R.MTR_CSEL) 5 0 k)) (low c)
  have accepted : acceptWrite s q 0x50 0x80 mtrCselDesc (BitVec.ofNat 32 c.val) = (setFld s R.MTR_CSEL F.MTR_CSEL_CIRCUIT c.val, .none) := by
    rw [← word]
    exact acceptWrite_of_afterWrite (by decide) rfl rfl rfl
  exact (regWrite_action ha (by decide) rfl findReg_MTR_CSEL rfl (tableCode_MTR_CSEL ha c _) rfl).1 _ accepted

/-! ## The command -/

/-- The state in which a command of a circuit acts. -/
def circuitActive (s : State) (c : Fin 48) : State := actionState (circuitShown s c) (R.CIR_CMD c.val) (pageDomain 0x50)

theorem onlyRegs_circuitActive {ks : List Nat} {s : State} (c : Fin 48) (ha : Awake s 0x50) (h : R.MTR_CSEL ∈ ks) :
    OnlyRegs ks s (circuitActive s c) :=
  (onlyRegs_circuitShown s c h).trans (onlyRegs_actionState ks (awake_circuitShown c ha) _)

theorem circSt_circuitActive {s : State} {c : Fin 48} (ha : Awake s 0x50) : circSt (circuitActive s c) c.val = circSt s c.val := by
  have apart : R.CIR_STAT c.val ∉ [R.MTR_CSEL] := by
    rw [List.mem_singleton]
    exact circuitReg_ne_plain c.val 0x11C (by decide) (by decide)
  rw [circSt, fld, (onlyRegs_circuitActive c ha List.mem_cons_self).regs _ apart]
  rfl

theorem selCircuit_circuitActive {s : State} {c : Fin 48} (ha : Awake s 0x50) : selCircuit (circuitActive s c) = c.val := by
  refine Eq.trans ?_ (selCircuit_circuitShown s c)
  exact congrArg (bits · 5 0) ((onlyRegs_actionState [] (awake_circuitShown c ha) _).regs _ List.not_mem_nil)

theorem afterWrite_CIR_CMD (s : State) (q : Requester) (o : CircuitOp) (old : Word) :
    afterWrite s q 0x50 0x118 old o.word = o.run s (selCircuit s) := by
  cases o <;> rfl

/-- CIR_CMD acts on the circuit that MTR_CSEL shows; a command that is turned away leaves the register as it was. -/
theorem acceptWrite_CIR_CMD {s : State} (q : Requester) {c : Fin 48} (o : CircuitOp) (ha : Awake s 0x50) :
    acceptWrite (circuitShown s c) q 0x50 0x118 cirCmdDesc o.word =
      (let r := o.run (circuitActive s c) c.val
       if r.2 = .none then r else (wr r.1 (R.CIR_CMD c.val) (rd (circuitShown s c) (R.CIR_CMD c.val)), r.2)) := by
  have key : keyAt (circuitShown s c) 0x50 0x118 cirCmdDesc = R.CIR_CMD c.val :=
    congrArg (fun k => regKey 0x50 0x118 (k + 1)) (selCircuit_circuitShown s c)
  have chapter : chapterCode (circuitShown s c) 0x50 0x118 o.word = .none := rfl
  have act : startsAction 0x50 0x118 cirCmdDesc = true := rfl
  have host : pageIn 0x50 0x78 0x7A = false := rfl
  have word (old : Word) : writtenWord cirCmdDesc old o.word = old := rfl
  have effect (old : Word) : afterWrite (domainRuns (wr (circuitShown s c) (R.CIR_CMD c.val) (rd (circuitShown s c) (R.CIR_CMD c.val)))
      (pageDomain 0x50)) q 0x50 0x118 old o.word = o.run (circuitActive s c) c.val :=
    (afterWrite_CIR_CMD (circuitActive s c) q o old).trans (congrArg _ (selCircuit_circuitActive ha))
  unfold acceptWrite
  rw [if_neg (by decide)]
  simp only [key, chapter, act, host, word, effect, Bool.false_eq_true, false_and, if_false, if_true]

/-- The state after a command of a circuit has been done and has left `r`. -/
def circuitAnswered (r : State) (o : CircuitOp) : State := answer (forwardConfig r 0x50 0x118 o.word) .none

theorem onlyRegs_circuitAnswered (ks : List Nat) (r : State) (o : CircuitOp) : OnlyRegs ks r (circuitAnswered r o) :=
  (onlyRegs_forwardConfig ks r _ _ _).trans (onlyRegs_answer ks _ _)

/-- A command of a circuit runs in the state in which MTR_CSEL shows it, and is answered with what it gives. -/
theorem selectedWrite_CIR_CMD {s : State} {q : Requester} (c : Fin 48) (o : CircuitOp) (hr : Reaches s q 0x50 0x118) (ha : Awake s 0x50) :
    (∀ r, o.run (circuitActive s c) c.val = (r, .none) → selectedWrite s q 0x50 0x80 c.val 0x118 o.word = circuitAnswered r o) ∧
    (∀ r k, k ≠ .none → o.run (circuitActive s c) c.val = (r, k) → selectedWrite s q 0x50 0x80 c.val 0x118 o.word =
      rejectWrite (wr r (R.CIR_CMD c.val) (rd (circuitShown s c) (R.CIR_CMD c.val))) 0x50 0x118 k) := by
  have active := awake_circuitShown c ha
  obtain ⟨done, refused⟩ := regWrite_action (q := q) active (by decide) rfl findReg_CIR_CMD rfl (tableCode_CIR_CMD active o _) rfl
  rw [selectedWrite, gated_reaches hr, regWrite_MTR_CSEL q c ha]
  refine ⟨fun r run => ?_, fun r k hk run => ?_⟩
  · have accepted := done r (by simp only [acceptWrite_CIR_CMD q o ha, run, if_true])
    rw [accepted, endCommand, if_pos rfl, circuitAnswered]
  · have accepted := refused (wr r (R.CIR_CMD c.val) (rd (circuitShown s c) (R.CIR_CMD c.val))) k hk
      (by simp only [acceptWrite_CIR_CMD q o ha, run, hk, if_false])
    rw [accepted, endCommand, if_neg hk]

/-! ## CLR_MAX (R226) -/

/-- CLR_MAX clears the maximum demand and its time, and nothing else of the circuit. -/
theorem circuitClrMax_clears {s : State} {q : Requester} (c : Fin 48) (hr : Reaches s q 0x50 0x118) (ha : Awake s 0x50) :
    ∃ t, exec (.circuitClrMax q c) s = .next t ∧ Accepted t ∧ rd t (R.CIR_MAXD c.val) = 0 ∧ rd t (R.CIR_MAXT c.val) = 0 ∧
      OnlyRegs [R.MTR_CSEL, R.CIR_MAXD c.val, R.CIR_MAXT c.val] s t := by
  have done := (selectedWrite_CIR_CMD c .clrMax hr ha).1 _ rfl
  have ended (k : Nat) := (onlyRegs_circuitAnswered [] (wr (wr (circuitActive s c) (R.CIR_MAXD c.val) 0) (R.CIR_MAXT c.val) 0) .clrMax).regs k
    List.not_mem_nil
  refine ⟨_, congrArg Host.Outcome.next done, rfl, ?_, ?_, ?_⟩
  · exact (ended _).trans ((rd_wr_ne _ _ (circuitReg_ne c.val (by decide))).trans (rd_wr_same _ _ _))
  · exact (ended _).trans (rd_wr_same _ _ _)
  · exact (((onlyRegs_circuitActive c ha (by simp)).trans (onlyRegs_wr _ _ (by simp))).trans (onlyRegs_wr _ _ (by simp))).trans
      (onlyRegs_circuitAnswered _ _ _)

/-! ## ZERO (R237) -/

theorem meter_of_onlyRegs {ks : List Nat} {s t : State} (h : OnlyRegs ks s t) : t.meter = s.meter := by rw [h.rest]

/-- A circuit whose accumulators, WRAPS and interval sums are 0. -/
def totalsCleared (x : Circuit) : Circuit :=
  { x with acc := [0, 0, 0, 0, 0, 0], wraps := [0, 0, 0, 0, 0, 0], ivl := [0, 0, 0, 0, 0, 0] }

/-- The host's copy of an energy register shows 0. -/
def clearEnergy (c : Nat) (s : State) (r : Nat) : State := showEnergy s (R.CIR_E c r) (R.CIR_EH c r) 0 0

/-- The host's registers after ZERO. -/
def totalsShownZero (s : State) (c : Nat) : State := wr (forAll (clearEnergy c) (upTo 6) s) (R.CIR_MAXD c) 0

/-- What ZERO leaves of a circuit that is OFF. -/
def circuitZeroed (s : State) (c : Nat) : State := saveRecord (totalsShownZero (setCirc s c (totalsCleared (circAt s c))) c)

theorem circuitZero_off {s : State} {c : Nat} (off : circSt s c = fsOFF) : circuitZero s c = (circuitZeroed s c, .none) := by
  rw [circuitZero, if_neg (not_not_intro off)]
  rfl

theorem circuitZero_barred {s : State} {c : Nat} (on : circSt s c ≠ fsOFF) : circuitZero s c = (s, .notInState) := by
  rw [circuitZero, if_pos on]

/-- The registers that ZERO clears. -/
def totalsKeys (c : Nat) : List Nat := R.CIR_MAXD c :: ((upTo 6).map (R.CIR_E c) ++ (upTo 6).map (R.CIR_EH c))

theorem onlyRegs_totalsShownZero (s : State) (c : Nat) : OnlyRegs (totalsKeys c) s (totalsShownZero s c) := by
  have each : ∀ r ∈ upTo 6, ∀ u, OnlyRegs (totalsKeys c) u (clearEnergy c u r) := fun r hr u => by
    have low : R.CIR_E c r ∈ totalsKeys c := List.mem_cons_of_mem _ (List.mem_append_left _ (List.mem_map_of_mem hr))
    have high : R.CIR_EH c r ∈ totalsKeys c := List.mem_cons_of_mem _ (List.mem_append_right _ (List.mem_map_of_mem hr))
    exact (onlyRegs_wr u _ low).trans (onlyRegs_wr _ _ high)
  exact (onlyRegs_forAll each s).trans (onlyRegs_wr _ 0 List.mem_cons_self)

theorem rd_clearEnergy (c : Nat) (s : State) (r : Nat) :
    rd (clearEnergy c s r) (R.CIR_E c r) = 0 ∧ rd (clearEnergy c s r) (R.CIR_EH c r) = 0 := by
  have apart : R.CIR_E c r ≠ R.CIR_EH c r := circuitReg_ne c (by omega)
  exact ⟨(rd_wr_ne _ _ apart).trans (rd_wr_same _ _ _), rd_wr_same _ _ _⟩

/-- To clear one register leaves the others of the circuit. -/
theorem rd_clearEnergy_ne (c : Nat) (s : State) {r off : Nat} (low : off ≠ 0x120 + 8 * r) (high : off ≠ 0x124 + 8 * r) :
    rd (clearEnergy c s r) (circuitReg c off) = rd s (circuitReg c off) :=
  (rd_wr_ne _ _ (circuitReg_ne c high)).trans (rd_wr_ne _ _ (circuitReg_ne c low))

/-- The words that show an energy register. -/
def energyWords (c r : Nat) (s : State) : Word × Word := (rd s (R.CIR_E c r), rd s (R.CIR_EH c r))

theorem energyWords_totalsShownZero (s : State) (c : Nat) (r : Fin 6) : energyWords c r.val (totalsShownZero s c) = (0, 0) := by
  have other (u : State) (a : Nat) (h : a ≠ r.val) : energyWords c r.val (clearEnergy c u a) = energyWords c r.val u :=
    congrArg₂ Prod.mk (rd_clearEnergy_ne c u (by omega) (by omega)) (rd_clearEnergy_ne c u (by omega) (by omega))
  obtain ⟨u, -, cleared⟩ := forAll_view List.nodup_range (List.mem_range.mpr r.isLt) (fun u a _ h => other u a h) s
  have demand (v : State) : energyWords c r.val (wr v (R.CIR_MAXD c) 0) = energyWords c r.val v :=
    congrArg₂ Prod.mk (rd_wr_ne _ _ (circuitReg_ne c (by omega))) (rd_wr_ne _ _ (circuitReg_ne c (by omega)))
  obtain ⟨low, high⟩ := rd_clearEnergy c u r.val
  exact (demand _).trans (cleared.trans (congrArg₂ Prod.mk low high))

/-! ### What a save leaves -/

theorem circAt_saveRecord (s : State) (c : Nat) : circAt (saveRecord s) c = circAt s c := rfl

theorem saves_saveRecord (s : State) : (saveRecord s).meter.saves = s.meter.saves + 1 := rfl

theorem rd_saveRecord (s : State) (k : Nat) : rd (saveRecord s) k = rd s k := rfl

theorem byteAt_saveRecord (s : State) (a : Nat) : byteAt (saveRecord s) a = byteAt s a := rfl

theorem points_saveRecord (s : State) : (saveRecord s).points = s.points := rfl

/-! ### The parts of what ZERO leaves -/

theorem circAt_circuitZeroed (s : State) (c d : Nat) :
    circAt (circuitZeroed s c) d = circAt (setCirc s c (totalsCleared (circAt s c))) d := by
  rw [circuitZeroed, circAt_saveRecord, circAt_of_meter (meter_of_onlyRegs (onlyRegs_totalsShownZero _ c))]

theorem saves_circuitZeroed (s : State) (c : Nat) : (circuitZeroed s c).meter.saves = s.meter.saves + 1 := by
  rw [circuitZeroed, saves_saveRecord, meter_of_onlyRegs (onlyRegs_totalsShownZero _ c)]
  rfl

theorem sameBytes_circuitZeroed (s : State) (c : Nat) : SameBytes s (circuitZeroed s c) := fun a => by
  rw [circuitZeroed, byteAt_saveRecord, sameBytes_of_onlyRegs (onlyRegs_totalsShownZero _ c)]
  rfl

theorem points_circuitZeroed (s : State) (c : Nat) : (circuitZeroed s c).points = s.points := by
  rw [circuitZeroed, points_saveRecord, points_of_onlyRegs (onlyRegs_totalsShownZero _ c)]
  rfl

theorem rd_circuitZeroed_energy (s : State) (c : Nat) (r : Fin 6) :
    rd (circuitZeroed s c) (R.CIR_E c r.val) = 0 ∧ rd (circuitZeroed s c) (R.CIR_EH c r.val) = 0 := by
  rw [circuitZeroed, rd_saveRecord, rd_saveRecord]
  exact Prod.mk.inj (energyWords_totalsShownZero _ c r)

theorem rd_circuitZeroed_MAXD (s : State) (c : Nat) : rd (circuitZeroed s c) (R.CIR_MAXD c) = 0 := by
  rw [circuitZeroed, rd_saveRecord, totalsShownZero, rd_wr_same]

/-- ZERO clears the totals of a circuit that is OFF, shows it, and saves the record. -/
theorem circuitZero_clears {s : State} {q : Requester} {c : Fin 48} (hr : Reaches s q 0x50 0x118) (ha : Awake s 0x50) (off : circSt s c.val = 0) :
    ∃ t, exec (.circuitZero q c) s = .next t ∧ Accepted t ∧ (circAt t c.val).acc = [0, 0, 0, 0, 0, 0] ∧
      (circAt t c.val).wraps = [0, 0, 0, 0, 0, 0] ∧ (∀ r : Fin 6, rd t (R.CIR_E c.val r.val) = 0 ∧ rd t (R.CIR_EH c.val r.val) = 0) ∧
      rd t (R.CIR_MAXD c.val) = 0 ∧ t.meter.saves = s.meter.saves + 1 ∧ (∀ d, d ≠ c.val → circAt t d = circAt s d) ∧
      SameBytes s t ∧ SamePoints s t := by
  have done := (selectedWrite_CIR_CMD c .zero hr ha).1 _ (circuitZero_off ((circSt_circuitActive ha).trans off))
  have before : OnlyRegs [R.MTR_CSEL] s (circuitActive s c) := onlyRegs_circuitActive c ha List.mem_cons_self
  have after := onlyRegs_circuitAnswered [] (circuitZeroed (circuitActive s c) c.val) .zero
  have reads (k : Nat) := after.regs k List.not_mem_nil
  have circuits (d : Nat) := (circAt_of_meter (meter_of_onlyRegs after) d).trans (circAt_circuitZeroed (circuitActive s c) c.val d)
  have own := (circuits c.val).trans (circAt_setCirc_same _ _ _)
  refine ⟨_, congrArg Host.Outcome.next done, rfl, congrArg Circuit.acc own, congrArg Circuit.wraps own, fun r => ?_, ?_, ?_, fun d other => ?_,
    fun a => ?_, ?_⟩
  · obtain ⟨low, high⟩ := rd_circuitZeroed_energy (circuitActive s c) c.val r
    exact ⟨(reads _).trans low, (reads _).trans high⟩
  · exact (reads _).trans (rd_circuitZeroed_MAXD _ _)
  · rw [meter_of_onlyRegs after, saves_circuitZeroed, meter_of_onlyRegs before]
  · rw [circuits, circAt_setCirc_ne _ _ other, circAt_of_meter (meter_of_onlyRegs before)]
  · rw [sameBytes_of_onlyRegs after, sameBytes_circuitZeroed, sameBytes_of_onlyRegs before]
  · exact samePoints_of_points (((points_of_onlyRegs after).trans (points_circuitZeroed _ _)).trans (points_of_onlyRegs before))

/-- ZERO of a circuit that is not OFF is turned away, and metering is as it was. -/
theorem circuitZero_refused {s : State} {q : Requester} {c : Fin 48} (hr : Reaches s q 0x50 0x118) (ha : Awake s 0x50) (on : circSt s c.val ≠ 0) :
    ∃ t, exec (.circuitZero q c) s = .next t ∧ t.answer.code = .notInState ∧ t.meter = s.meter := by
  have barred := circuitZero_barred fun off => on ((circSt_circuitActive ha).symm.trans off)
  have refused := (selectedWrite_CIR_CMD c .zero hr ha).2 _ _ (by decide) barred
  refine ⟨_, congrArg Host.Outcome.next refused, rfl, ?_⟩
  rw [rejectWrite_meter, wr_meter]
  exact meter_of_onlyRegs (onlyRegs_circuitActive (ks := [R.MTR_CSEL]) c ha List.mem_cons_self)

/-- Settles O44: each operation of CIR_CMD acts on the circuit that its row names, and ZERO by that circuit's state. -/
theorem circuitCommandsClearTotals : Obligations.CircuitCommandsClearTotals := by
  unfold Obligations.CircuitCommandsClearTotals
  exact fun _ _ c hr ha => ⟨circuitZero_clears hr ha, circuitZero_refused hr ha, circuitClrMax_clears c hr ha⟩

end Sys2Proof.Machine
end

section
/-! SUPPORT. The registers of a CAN controller, and what updates of a controller leave (R244 to R266). -/

namespace Sys2Proof.Machine

open Sys2Proof.Safety

/-! ## Keys -/

/-- The key of a controller's register at an offset of its page. -/
abbrev canReg (b off : Nat) : Nat := regKey (0x58 + b) off 0

/-- The offset of a transmit buffer's STATUS word. -/
abbrev statOff (n : Nat) : Nat := 0x408 + 0x50 * n

theorem canReg_ne (b : Nat) {o o' : Nat} (h : o ≠ o') : canReg b o ≠ canReg b o' := by
  unfold canReg regKey
  omega

/-- A register of a buffer is none of the controller's own. -/
theorem buffer_notMem {offs : List Nat} {off : Nat} (buffer : 0x400 ≤ off) (own : ∀ o ∈ offs, o < 0x400) : off ∉ offs :=
  fun mem => Nat.not_lt.mpr buffer (own off mem)

theorem le_statOff (n : Nat) : 0x400 ≤ statOff n := by
  unfold statOff
  omega

/-- The STATUS word of another buffer is not what the end of an attempt writes. -/
theorem statOff_notMem {k n : Nat} (h : k ≠ n) : statOff k ∉ [0x10, 0x98, statOff n] := by
  simp only [List.mem_cons, List.not_mem_nil, or_false, not_or]
  unfold statOff
  omega

/-- No register of a controller is the pending word of its page's events. -/
theorem canReg_ne_EVT_PEND (b off : Nat) : canReg b off ≠ R.EVT_PEND (fbPage b / 32) := by
  unfold canReg R.EVT_PEND regKey fbPage
  omega

/-! ## The frame of a controller's updates -/

/-- An update of a controller: among its registers it changes only those at the offsets of a list, and beside registers only what an event
reaches (R36, R37) and the hidden state of the buses. -/
structure BusUpdate (b : Nat) (offs : List Nat) (s t : State) : Prop where
  rest : t = { s with regs := t.regs, exiting := t.exiting, evtTarget := t.evtTarget, answer := t.answer, buses := t.buses,
                      twin := { s.twin with config := t.twin.config } }
  regs : ∀ off, off ∉ offs → rd t (canReg b off) = rd s (canReg b off)

section
variable {s t u : State} {b : Nat} {offs : List Nat}

theorem BusUpdate.refl (b : Nat) (offs : List Nat) (s : State) : BusUpdate b offs s s := ⟨rfl, fun _ _ => rfl⟩

theorem BusUpdate.trans (h : BusUpdate b offs s t) (k : BusUpdate b offs t u) : BusUpdate b offs s u where
  rest := by conv_lhs => rw [k.rest, h.rest]
  regs off out := (k.regs off out).trans (h.regs off out)

theorem BusUpdate.mono {wide : List Nat} (h : BusUpdate b offs s t) (sub : offs ⊆ wide) : BusUpdate b wide s t :=
  ⟨h.rest, fun off out => h.regs off fun mem => out (sub mem)⟩

theorem BusUpdate.sameBytes (h : BusUpdate b offs s t) : SameBytes s t := fun a => by
  rw [h.rest]
  rfl

theorem BusUpdate.samePoints (h : BusUpdate b offs s t) : SamePoints s t := samePoints_of_points (by rw [h.rest])

theorem BusUpdate.fld {off : Nat} (h : BusUpdate b offs s t) (out : off ∉ offs) (f : Fld) :
    fld t (canReg b off) f = Machine.fld s (canReg b off) f := congrArg (bits · f.hi f.lo) (h.regs off out)

theorem BusUpdate.flag {off : Nat} (h : BusUpdate b offs s t) (out : off ∉ offs) (f : Fld) :
    flag t (canReg b off) f = Machine.flag s (canReg b off) f := congrArg (· != 0) (h.fld out f)

theorem BusUpdate.of_regsAndEvents {ks : List Nat} (h : RegsAndEvents ks s t)
    (regs : ∀ off, off ∉ offs → rd t (canReg b off) = rd s (canReg b off)) : BusUpdate b offs s t where
  rest := by
    have buses : t.buses = s.buses := by rw [h.rest]
    rw [buses]
    exact h.rest
  regs := regs

theorem busUpdate_wr (s : State) {off : Nat} (v : Word) (mem : off ∈ offs) : BusUpdate b offs s (wr s (canReg b off) v) :=
  ⟨rfl, fun _ out => rd_wr_ne s v (canReg_ne b fun e => out (e ▸ mem))⟩

theorem busUpdate_setFld (s : State) {off : Nat} (f : Fld) (v : Nat) (mem : off ∈ offs) :
    BusUpdate b offs s (setFld s (canReg b off) f v) := busUpdate_wr s _ mem

theorem busUpdate_setBus (s : State) (x : CanBus) : BusUpdate b offs s (setBus s b x) := ⟨rfl, fun _ _ => rfl⟩

theorem busUpdate_canRaise (s : State) (n : Nat) (mem : 0x10 ∈ offs) : BusUpdate b offs s (canRaise s b n) :=
  .of_regsAndEvents (regsAndEvents_raiseBit (ks := [R.PG_ISR (fbPage b)]) s n List.mem_cons_self) fun off out =>
    rd_raiseBit_ne s (canReg_ne b fun e => out (e ▸ mem)) (canReg_ne_EVT_PEND b off)

end

@[simp] theorem busAt_setBus_same (s : State) (b : Nat) (x : CanBus) : busAt (setBus s b x) b = x := tget_tput_same _ _ _

theorem busAt_of_buses {s t : State} (h : t.buses = s.buses) (b : Nat) : busAt t b = busAt s b := by
  rw [busAt, busAt, h]

@[simp] theorem canRaise_buses (s : State) (b n : Nat) : (canRaise s b n).buses = s.buses := raiseBit_buses s _ n

/-! ## Transmit buffers (R259) -/

section
variable (s : State) (b n st : Nat)

theorem busUpdate_setBuf : BusUpdate b [0x98, statOff n] s (setBuf s b n st) :=
  (busUpdate_setFld s F.TXB_STAT_STATUS st (by simp)).trans (busUpdate_wr _ _ (by simp))

/-- The word of FB_TXPEND is no STATUS word. -/
theorem rd_setBuf_stat : rd (setBuf s b n st) (R.TXB_STAT b n) = rd (setFld s (R.TXB_STAT b n) F.TXB_STAT_STATUS st) (R.TXB_STAT b n) :=
  rd_setBit_ne _ _ _ (canReg_ne b (by omega))

theorem bufSt_setBuf {st : Nat} (h : st < 8) : bufSt (setBuf s b n st) b n = st := by
  rw [bufSt, fld, rd_setBuf_stat]
  exact (fld_setFld_same s _ F.TXB_STAT_STATUS st (by decide) (by decide)).trans (Nat.mod_eq_of_lt h)

theorem attempts_setBuf : fld (setBuf s b n st) (R.TXB_STAT b n) F.TXB_STAT_ATTEMPTS = fld s (R.TXB_STAT b n) F.TXB_STAT_ATTEMPTS := by
  rw [fld, rd_setBuf_stat]
  exact fld_setFld_other s _ F.TXB_STAT_STATUS F.TXB_STAT_ATTEMPTS st (by decide) (by decide) (.inl (by decide))

theorem setBuf_buses : (setBuf s b n st).buses = s.buses := rfl

theorem busUpdate_failBuf : BusUpdate b [0x10, 0x98, statOff n] s (failBuf s b n st) :=
  ((busUpdate_setBuf s b n st).mono (List.subset_cons_self _ _)).trans (busUpdate_canRaise _ 1 List.mem_cons_self)

theorem bufSt_failBuf {st : Nat} (h : st < 8) : bufSt (failBuf s b n st) b n = st :=
  ((busUpdate_canRaise (offs := [0x10]) (setBuf s b n st) 1 List.mem_cons_self).fld (by rw [List.mem_singleton]; omega) _).trans
    (bufSt_setBuf s b n h)

theorem failBuf_buses : (failBuf s b n st).buses = s.buses := canRaise_buses _ b 1

end

/-- What an update leaves of a buffer whose STATUS word is not among those it changes. -/
theorem BusUpdate.bufSt {s t : State} {b n : Nat} {offs : List Nat} (h : BusUpdate b offs s t) (out : statOff n ∉ offs) :
    bufSt t b n = Machine.bufSt s b n := h.fld out _

/-! ## The choice of the next frame (R260) -/

/-- One comparison of the choice: the better of the buffer preferred so far and the next one. -/
def preferred (s : State) (b : Nat) (m : Option Nat) (n : Nat) : Option Nat :=
  if bufSt s b n = bsPENDING then
    match m with
    | some k => if arbField s b n < arbField s b k then some n else m
    | none => some n
  else m

/-- The buffer that would win arbitration. -/
def winner (s : State) (b : Nat) : Option Nat := (upTo 16).foldl (preferred s b) none

/-- A chosen buffer is ACTIVE, at its next attempt. -/
def chosen (s : State) (b n : Nat) : State :=
  bumpFld (setBuf (setBus s b { busAt s b with active := some n, won := false, cancelled := false }) b n bsACTIVE) (R.TXB_STAT b n)
    F.TXB_STAT_ATTEMPTS 1

/-- A controller may begin a frame. -/
def MayChoose (s : State) (b : Nat) : Prop :=
  fbSt s b = 2 ∧ (fbSub s b = cbACTIVE ∨ fbSub s b = cbPASSIVE) ∧ (busAt s b).listen = false ∧ (busAt s b).active = none

theorem txChoice_eq (s : State) (b : Nat) : txChoice s b =
    if fbSt s b ≠ 2 || (fbSub s b != cbACTIVE && fbSub s b != cbPASSIVE) || (busAt s b).listen || (busAt s b).active.isSome then s
    else match winner s b with
      | none => s
      | some n => chosen s b n := rfl

theorem preferred_cases (s : State) (b : Nat) (m : Option Nat) (n : Nat) :
    preferred s b m n = m ∨ bufSt s b n = bsPENDING ∧ preferred s b m n = some n := by
  unfold preferred
  split
  next pending =>
    split
    · split
      · exact .inr ⟨pending, rfl⟩
      · exact .inl rfl
    · exact .inr ⟨pending, rfl⟩
  next => exact .inl rfl

/-- Once a buffer is preferred, some buffer stays so. -/
theorem preferred_isSome {s : State} {b n : Nat} {m : Option Nat} (h : m.isSome ∨ bufSt s b n = bsPENDING) : (preferred s b m n).isSome := by
  obtain same | ⟨-, taken⟩ := preferred_cases s b m n
  · cases m with
    | some k => rw [same]; rfl
    | none =>
      obtain absent | pending := h
      · exact absurd absent Bool.false_ne_true
      · rw [preferred, if_pos pending]; rfl
  · rw [taken]; rfl

/-- The winner is one of the 16 buffers, and PENDING. -/
theorem winner_pending {s : State} {b n : Nat} (h : winner s b = some n) : n < 16 ∧ bufSt s b n = bsPENDING := by
  have sound : ∀ k, winner s b = some k → k < 16 ∧ bufSt s b k = bsPENDING := by
    refine List.foldlRecOn (upTo 16) (preferred s b) (motive := fun m => ∀ k, m = some k → k < 16 ∧ bufSt s b k = bsPENDING)
      (fun _ e => nomatch e) (fun m before a mem k e => ?_)
    obtain same | ⟨pending, taken⟩ := preferred_cases s b m a
    · exact before k (same.symm.trans e)
    · obtain rfl := Option.some.inj (taken.symm.trans e)
      exact ⟨List.mem_range.mp mem, pending⟩
  exact sound n h

/-- There is a winner when a buffer is PENDING. -/
theorem winner_isSome {s : State} {b n : Nat} (hn : n < 16) (pending : bufSt s b n = bsPENDING) : (winner s b).isSome := by
  obtain ⟨before, after, split⟩ := List.append_of_mem (List.mem_range.mpr hn : n ∈ upTo 16)
  rw [winner, upTo, split, List.foldl_append, List.foldl_cons]
  exact List.foldlRecOn after (preferred s b) (motive := fun m => m.isSome = true) (preferred_isSome (.inr pending))
    (fun _ preferred _ _ => preferred_isSome (.inl preferred))

/-- With no buffer PENDING nothing is chosen. -/
theorem txChoice_nothing {s : State} {b : Nat} (h : ∀ n, n < 16 → bufSt s b n ≠ bsPENDING) : txChoice s b = s := by
  have none : winner s b = none := Option.eq_none_iff_forall_ne_some.mpr fun n e =>
    h n (winner_pending e).1 (winner_pending e).2
  rw [txChoice_eq, none]
  exact ite_self s

/-- The only PENDING buffer is chosen. -/
theorem txChoice_only {s : State} {b n : Nat} (may : MayChoose s b) (hn : n < 16) (pending : bufSt s b n = bsPENDING)
    (others : ∀ k, k < 16 → k ≠ n → bufSt s b k ≠ bsPENDING) : txChoice s b = chosen s b n := by
  obtain ⟨on, online, normal, free⟩ := may
  obtain ⟨k, best⟩ := Option.isSome_iff_exists.mp (winner_isSome hn pending)
  obtain ⟨hk, waits⟩ := winner_pending best
  obtain rfl : k = n := Classical.byContradiction fun other => others k hk other waits
  rw [txChoice_eq, best, on, normal, free]
  obtain active | passive := online
  · rw [active]; rfl
  · rw [passive]; rfl

theorem busUpdate_chosen (s : State) (b n : Nat) : BusUpdate b [0x98, statOff n] s (chosen s b n) :=
  ((busUpdate_setBus s _).trans (busUpdate_setBuf _ b n bsACTIVE)).trans (busUpdate_setFld _ F.TXB_STAT_ATTEMPTS _ (by simp))

theorem active_chosen (s : State) (b n : Nat) : (busAt (chosen s b n) b).active = some n :=
  congrArg CanBus.active (busAt_setBus_same s b _)

theorem bufSt_chosen (s : State) (b n : Nat) : bufSt (chosen s b n) b n = bsACTIVE :=
  (fld_setFld_other _ _ F.TXB_STAT_ATTEMPTS F.TXB_STAT_STATUS _ (by decide) (by decide) (.inr (by decide))).trans
    (bufSt_setBuf _ b n (by decide))

/-- A choice counts an attempt. -/
theorem attempts_chosen (s : State) (b n : Nat) : fld (chosen s b n) (R.TXB_STAT b n) F.TXB_STAT_ATTEMPTS =
    satAdd 8 (fld s (R.TXB_STAT b n) F.TXB_STAT_ATTEMPTS) 1 := by
  have sum : ∀ a, satAdd 8 a 1 < 2 ^ 8 := fun a => by unfold satAdd; split <;> omega
  rw [chosen, bumpFld, fld_setFld_same _ _ F.TXB_STAT_ATTEMPTS _ (by decide) (by decide), attempts_setBuf]
  exact Nat.mod_eq_of_lt (sum _)

end Sys2Proof.Machine
end

section
/-! SUPPORT. Requests of transmit buffers (R259, R260). -/

namespace Sys2Proof.Machine

open Sys2Proof.Safety

/-! ## The buffers that a word names -/

/-- The buffers whose bits are 1 in a word. -/
def namedBuffers (v : Word) : List Nat := (upTo 16).filter (fun n => bit v n)

theorem mem_namedBuffers {v : Word} {n : Nat} : n ∈ namedBuffers v ↔ n < 16 ∧ v.getLsbD n = true :=
  List.mem_filter.trans (and_congr_left' List.mem_range)

theorem nodup_namedBuffers (v : Word) : (namedBuffers v).Nodup := List.nodup_range.filter _

/-- A word below 2 to the 16 sets no reserved bit. -/
theorem bits_high {v : Word} (h : v.toNat < 65536) : bits v 31 16 = 0 := by
  rw [bits, natBits, Nat.shiftRight_eq_div_pow, Nat.div_eq_of_lt h, Nat.zero_mod]

/-- What a fold's every step leaves, the fold leaves. -/
theorem forAll_keeps {σ α β : Type} {f : σ → α → σ} {view : σ → β} {l : List α} (hf : ∀ u, ∀ a ∈ l, view (f u a) = view u) (s : σ) :
    view (forAll f l s) = view s :=
  List.foldlRecOn l f rfl (motive := fun u => view u = view s) fun u hu a ha => (hf u a ha).trans hu

/-! ## The request of one buffer -/

section
variable {s : State} {b n : Nat}

theorem requestBuf_busy (h : bufBusy s b n = true) : requestBuf s b n = s := if_pos h

theorem requestBuf_free (h : bufBusy s b n = false) : requestBuf s b n = setBuf (wr s (R.TXB_STAT b n) 0) b n bsPENDING :=
  if_neg (Bool.eq_false_iff.mp h)

/-- The registers that requests write. -/
def requestKeys (b : Nat) : List Nat := R.FB_TXPEND b :: (upTo 16).map (R.TXB_STAT b)

theorem onlyRegs_requestBuf (s : State) (b : Nat) (hn : n < 16) : OnlyRegs (requestKeys b) s (requestBuf s b n) := by
  have stat : R.TXB_STAT b n ∈ requestKeys b := List.mem_cons_of_mem _ (List.mem_map_of_mem (List.mem_range.mpr hn))
  cases h : bufBusy s b n with
  | true => rw [requestBuf_busy h]; exact OnlyRegs.refl _ s
  | false =>
    rw [requestBuf_free h]
    exact ((onlyRegs_wr s 0 stat).trans (onlyRegs_setFld _ _ _ stat)).trans (onlyRegs_wr _ _ List.mem_cons_self)

theorem busUpdate_requestBuf (s : State) (b n : Nat) : BusUpdate b [0x98, statOff n] s (requestBuf s b n) := by
  cases h : bufBusy s b n with
  | true => rw [requestBuf_busy h]; exact BusUpdate.refl b _ s
  | false =>
    rw [requestBuf_free h]
    exact (busUpdate_wr s 0 (by simp)).trans (busUpdate_setBuf _ b n _)

theorem rd_requestBuf_ne {k : Nat} (s : State) (b : Nat) (h : k ≠ n) : rd (requestBuf s b n) (R.TXB_STAT b k) = rd s (R.TXB_STAT b k) :=
  ((busUpdate_requestBuf s b n).mono (List.subset_cons_self 0x10 _)).regs _ (statOff_notMem h)

theorem requestBuf_pends (h : bufBusy s b n = false) :
    bufSt (requestBuf s b n) b n = bsPENDING ∧ fld (requestBuf s b n) (R.TXB_STAT b n) F.TXB_STAT_ATTEMPTS = 0 := by
  rw [requestBuf_free h]
  refine ⟨bufSt_setBuf _ b n (by decide), ?_⟩
  rw [attempts_setBuf, fld, rd_wr_same]
  rfl

/-- Whether a buffer is busy stands in its STATUS word. -/
theorem bufBusy_of_stat {t : State} (h : rd t (R.TXB_STAT b n) = rd s (R.TXB_STAT b n)) : bufBusy t b n = bufBusy s b n := by
  unfold bufBusy bufSt fld
  rw [h]

theorem bufSt_of_stat {t : State} (h : rd t (R.TXB_STAT b n) = rd s (R.TXB_STAT b n)) : bufSt t b n = bufSt s b n := by
  unfold bufSt fld
  rw [h]

end

/-! ## The request of the buffers that a word names -/

/-- The buffers that a word names are requested. -/
def txRequested (s : State) (b : Nat) (v : Word) : State := forAll (fun s n => requestBuf s b n) (namedBuffers v) s

section
variable {s : State} {b : Nat} {v : Word}

theorem canTxRequest_refused (hv : v.toNat < 65536) (refused : txRefused s b = true) (idle : Bool) :
    canTxRequest s b v idle = (s, .notInState) := by
  rw [canTxRequest, if_neg (not_not_intro (bits_high hv)), refused]
  rfl

theorem canTxRequest_taken (hv : v.toNat < 65536) (granted : txRefused s b = false) (ring : fbRing s b = false)
    (legal : ∀ n : Fin 16, v.getLsbD n.val = true → bufIllegal s b (rd s (R.TXB_CTL b n.val)) = false) (idle : Bool) :
    canTxRequest s b v idle = (if idle then txChoice (txRequested s b v) b else txRequested s b v, .none) := by
  have allLegal : (namedBuffers v).any (fun n => bufIllegal s b (rd s (R.TXB_CTL b n))) = false :=
    List.any_eq_false.mpr fun n mem => by
      obtain ⟨hn, named⟩ := mem_namedBuffers.mp mem
      exact Bool.eq_false_iff.mp (legal ⟨n, hn⟩ named)
  rw [namedBuffers] at allLegal
  rw [canTxRequest, if_neg (not_not_intro (bits_high hv)), granted, ring, allLegal]
  rfl

theorem onlyRegs_txRequested (s : State) (b : Nat) (v : Word) : OnlyRegs (requestKeys b) s (txRequested s b v) :=
  onlyRegs_forAll (fun _ mem u => onlyRegs_requestBuf u b (mem_namedBuffers.mp mem).1) s

/-- A request leaves the STATUS word of a buffer that it does not name, or that is busy. -/
theorem rd_txRequested_kept {n : Nat} (h : v.getLsbD n = false ∨ bufBusy s b n = true) :
    rd (txRequested s b v) (R.TXB_STAT b n) = rd s (R.TXB_STAT b n) := by
  have other (u : State) (a : Nat) (ne : a ≠ n) : rd (requestBuf u b a) (R.TXB_STAT b n) = rd u (R.TXB_STAT b n) :=
    rd_requestBuf_ne u b ne.symm
  by_cases mem : n ∈ namedBuffers v
  · obtain ⟨u, before, after⟩ := forAll_view (view := fun u => rd u (R.TXB_STAT b n)) (nodup_namedBuffers v) mem
      (fun u a _ ne => other u a ne) s
    have busy : bufBusy u b n = true :=
      (bufBusy_of_stat before).trans (h.resolve_left (by simp [(mem_namedBuffers.mp mem).2]))
    rw [requestBuf_busy busy] at after
    exact after.trans before
  · exact forAll_keeps (view := fun u => rd u (R.TXB_STAT b n)) (fun u a ha => other u a fun e => mem (e ▸ ha)) s

/-- A request makes a buffer that it names PENDING, with no attempt counted, unless the buffer is busy. -/
theorem txRequested_pends {n : Nat} (hn : n < 16) (named : v.getLsbD n = true) (free : bufBusy s b n = false) :
    bufSt (txRequested s b v) b n = bsPENDING ∧ fld (txRequested s b v) (R.TXB_STAT b n) F.TXB_STAT_ATTEMPTS = 0 := by
  obtain ⟨u, before, after⟩ := forAll_view (view := fun u => rd u (R.TXB_STAT b n)) (nodup_namedBuffers v)
    (mem_namedBuffers.mpr ⟨hn, named⟩) (fun u a _ ne => rd_requestBuf_ne u b ne.symm) s
  obtain ⟨pending, attempts⟩ := requestBuf_pends ((bufBusy_of_stat before).trans free)
  exact ⟨(bufSt_of_stat after).trans pending, (congrArg (bits · 7 0) after).trans attempts⟩

/-- A request that is taken leaves a controller that sends nothing free to choose. -/
theorem mayChoose_txRequested (granted : txRefused s b = false) (online : fbSub s b = cbACTIVE ∨ fbSub s b = cbPASSIVE)
    (idle : (busAt s b).active = none) : MayChoose (txRequested s b v) b := by
  have frame := onlyRegs_txRequested s b v
  have state : rd (txRequested s b v) (R.PG_STATE (fbPage b)) = rd s (R.PG_STATE (fbPage b)) := frame.regs _ (by
    simp only [requestKeys, List.mem_cons, List.mem_map, not_or, not_exists, not_and]
    exact ⟨canReg_ne b (by decide), fun n _ => canReg_ne b (by omega)⟩)
  have bus : busAt (txRequested s b v) b = busAt s b := busAt_of_buses (by rw [frame.rest]) b
  simp only [txRefused, Bool.or_eq_false_iff, bne_eq_false_iff_eq] at granted
  obtain ⟨⟨⟨⟨on, normal⟩, -⟩, -⟩, -⟩ := granted
  unfold MayChoose fbSt fbSub fld
  rw [state, bus]
  exact ⟨on, online, normal, idle⟩

/-- The only buffer requested while none is busy is sent at once. -/
theorem txChoice_txRequested {n : Fin 16} (granted : txRefused s b = false) (one : v = BitVec.ofNat 32 (2 ^ n.val))
    (free : ∀ k : Fin 16, bufBusy s b k.val = false) (online : fbSub s b = cbACTIVE ∨ fbSub s b = cbPASSIVE)
    (idle : (busAt s b).active = none) :
    ∃ t, txChoice (txRequested s b v) b = t ∧ (busAt t b).active = some n.val ∧ bufSt t b n.val = bsACTIVE ∧
      fld t (R.TXB_STAT b n.val) F.TXB_STAT_ATTEMPTS = 1 ∧ SameBytes s t ∧ SamePoints s t := by
  have powers : ∀ m k : Fin 16, (BitVec.ofNat 32 (2 ^ m.val)).getLsbD k.val = decide (m = k) := by decide
  have names (k : Fin 16) : v.getLsbD k.val = decide (n = k) := one ▸ powers n k
  obtain ⟨pending, attempts⟩ := txRequested_pends n.isLt ((names n).trans (by simp)) (free n)
  have others (k : Nat) (hk : k < 16) (ne : k ≠ n.val) : bufSt (txRequested s b v) b k ≠ bsPENDING := by
    have unnamed : v.getLsbD k = false := (names ⟨k, hk⟩).trans (decide_eq_false fun e => ne (congrArg Fin.val e).symm)
    have notPending := (Bool.or_eq_false_iff.mp (free ⟨k, hk⟩)).1
    rw [bufSt_of_stat (rd_txRequested_kept (.inl unnamed))]
    exact fun e => Bool.false_ne_true (notPending.symm.trans (beq_iff_eq.mpr e))
  have before := onlyRegs_txRequested s b v
  have after := busUpdate_chosen (txRequested s b v) b n.val
  refine ⟨_, txChoice_only (mayChoose_txRequested granted online idle) n.isLt pending others, active_chosen _ _ _, bufSt_chosen _ _ _, ?_,
    fun a => (after.sameBytes a).trans (sameBytes_of_onlyRegs before a), fun p => (after.samePoints p).trans (samePoints_of_onlyRegs before p)⟩
  rw [attempts_chosen, attempts]
  rfl

end

/-! ## The command -/

section
variable {s : State} {q : Requester} {b : Fin 8} {v : Word}

theorem exec_canTxRequest (hr : Reaches s q (fbPage b.val) 0x90) (idle : Bool) :
    exec (.canTxRequest q b v idle) s = .next (endCommand (fbPage b.val) 0x90 (canTxRequest s b.val v idle)) :=
  congrArg Host.Outcome.next (gated_reaches hr)

/-- A request that is taken while the bus is busy makes the buffers that it names PENDING. -/
theorem canTxRequest_pends (hr : Reaches s q (fbPage b.val) 0x90) (hv : v.toNat < 65536) (granted : txRefused s b.val = false)
    (ring : fbRing s b.val = false)
    (legal : ∀ n : Fin 16, v.getLsbD n.val = true → bufIllegal s b.val (rd s (R.TXB_CTL b.val n.val)) = false) :
    ∃ t, exec (.canTxRequest q b v false) s = .next t ∧ Accepted t ∧
      (∀ n : Fin 16, (v.getLsbD n.val = true → bufBusy s b.val n.val = false →
          bufSt t b.val n.val = bsPENDING ∧ fld t (R.TXB_STAT b.val n.val) F.TXB_STAT_ATTEMPTS = 0) ∧
        ((v.getLsbD n.val = false ∨ bufBusy s b.val n.val = true) → rd t (R.TXB_STAT b.val n.val) = rd s (R.TXB_STAT b.val n.val))) ∧
      OnlyRegs (requestKeys b.val) s t := by
  refine ⟨answer (txRequested s b.val v) .none, ?_, rfl, fun n => ⟨txRequested_pends n.isLt, rd_txRequested_kept⟩,
    (onlyRegs_txRequested s b.val v).trans (onlyRegs_answer _ _ _)⟩
  rw [exec_canTxRequest hr, canTxRequest_taken hv granted ring legal]
  rfl

/-- The request of one buffer on an idle bus, with no buffer busy, sends it at once. -/
theorem canTxRequest_sends (hr : Reaches s q (fbPage b.val) 0x90) (hv : v.toNat < 65536) (granted : txRefused s b.val = false)
    (ring : fbRing s b.val = false)
    (legal : ∀ n : Fin 16, v.getLsbD n.val = true → bufIllegal s b.val (rd s (R.TXB_CTL b.val n.val)) = false)
    {n : Fin 16} (one : v = BitVec.ofNat 32 (2 ^ n.val)) (free : ∀ k : Fin 16, bufBusy s b.val k.val = false)
    (online : fbSub s b.val = cbACTIVE ∨ fbSub s b.val = cbPASSIVE) (idle : (busAt s b.val).active = none) :
    ∃ t, exec (.canTxRequest q b v true) s = .next t ∧ Accepted t ∧ (busAt t b.val).active = some n.val ∧
      bufSt t b.val n.val = bsACTIVE ∧ fld t (R.TXB_STAT b.val n.val) F.TXB_STAT_ATTEMPTS = 1 ∧ SameBytes s t ∧ SamePoints s t := by
  obtain ⟨u, choice, active, status, attempts, bytes, points⟩ := txChoice_txRequested granted one free online idle
  refine ⟨answer u .none, ?_, rfl, active, status, attempts, bytes, points⟩
  rw [exec_canTxRequest hr, canTxRequest_taken hv granted ring legal, if_pos rfl, choice]
  rfl

/-- A request that the controller's state bars is turned away. -/
theorem canTxRequest_rejected (hr : Reaches s q (fbPage b.val) 0x90) (hv : v.toNat < 65536) (refused : txRefused s b.val = true) (idle : Bool) :
    ∃ t, exec (.canTxRequest q b v idle) s = .next t ∧ Rejected s t (fbPage b.val) 0x90 .notInState := by
  refine ⟨rejectWrite s (fbPage b.val) 0x90 .notInState, ?_, rfl, rfl⟩
  rw [exec_canTxRequest hr, canTxRequest_refused hv refused]
  rfl

end

end Sys2Proof.Machine
end

section
/-! SUPPORT. Attempts that fail, and cancels of transmit buffers (R261, R262). -/

namespace Sys2Proof.Machine

open Sys2Proof.Safety

/-! ## A lost arbitration (R261) -/

section
variable {s : State} {b n : Nat}

/-- How an attempt that fails leaves its buffer. -/
def failedStatus (s : State) (b : Nat) : Nat :=
  if (busAt s b).cancelled then bsCANCELLED else if flag s (R.FB_CTRL b) F.FB_CTRL_SSHOT then bsSSFAIL else bsPENDING

theorem noActive_active (s : State) (b : Nat) : (busAt (noActive s b) b).active = none := congrArg CanBus.active (busAt_setBus_same s b _)

/-- An attempt fails with or without TX_FAIL. -/
theorem attemptFails_cases (s : State) (b n : Nat) :
    attemptFails s b n = failBuf (noActive s b) b n (failedStatus s b) ∨ attemptFails s b n = setBuf (noActive s b) b n (failedStatus s b) := by
  have ctrl : flag (noActive s b) (R.FB_CTRL b) F.FB_CTRL_SSHOT = flag s (R.FB_CTRL b) F.FB_CTRL_SSHOT := rfl
  unfold attemptFails failedStatus
  dsimp only
  rw [ctrl]
  split
  · exact .inl rfl
  · split
    · exact .inl rfl
    · exact .inr rfl

theorem failedStatus_lt (s : State) (b : Nat) : failedStatus s b < 8 := by
  unfold failedStatus
  split
  · decide
  · split <;> decide

theorem busUpdate_attemptFails (s : State) (b n : Nat) : BusUpdate b [0x10, 0x98, statOff n] s (attemptFails s b n) := by
  have free : BusUpdate b [0x10, 0x98, statOff n] s (noActive s b) := busUpdate_setBus s _
  obtain fail | again := attemptFails_cases s b n
  · rw [fail]
    exact free.trans (busUpdate_failBuf _ b n _)
  · rw [again]
    exact free.trans ((busUpdate_setBuf _ b n _).mono (List.subset_cons_self _ _))

theorem bufSt_attemptFails (s : State) (b n : Nat) : bufSt (attemptFails s b n) b n = failedStatus s b := by
  obtain fail | again := attemptFails_cases s b n
  · rw [fail, bufSt_failBuf _ _ _ (failedStatus_lt s b)]
  · rw [again, bufSt_setBuf _ _ _ (failedStatus_lt s b)]

theorem active_attemptFails (s : State) (b n : Nat) : (busAt (attemptFails s b n) b).active = none := by
  obtain fail | again := attemptFails_cases s b n
  · rw [fail, busAt_of_buses (failBuf_buses _ _ _ _), noActive_active]
  · rw [again, busAt_of_buses (setBuf_buses _ _ _ _), noActive_active]

end

theorem exec_canArbitrationLost {s : State} {b : Fin 8} {n : Nat} (active : (busAt s b.val).active = some n) (lost : (busAt s b.val).won = false) :
    exec (.canArbitrationLost b) s = .next (attemptFails s b.val n) := by
  refine congrArg Host.Outcome.next ?_
  rw [active]
  exact if_neg (Bool.eq_false_iff.mp lost)

/-- A lost arbitration ends the attempt of the chosen buffer, and concerns no other buffer. -/
theorem canArbitrationLost_fails {s : State} {b : Fin 8} {n : Fin 16} (active : (busAt s b.val).active = some n.val)
    (lost : (busAt s b.val).won = false) :
    ∃ t, exec (.canArbitrationLost b) s = .next t ∧ (busAt t b.val).active = none ∧ bufSt t b.val n.val = failedStatus s b.val ∧
      (∀ k : Fin 16, k ≠ n → rd t (R.TXB_STAT b.val k.val) = rd s (R.TXB_STAT b.val k.val)) ∧ SameBytes s t ∧ SamePoints s t :=
  have frame := busUpdate_attemptFails s b.val n.val
  ⟨_, exec_canArbitrationLost active lost, active_attemptFails _ _ _, bufSt_attemptFails _ _ _,
    fun _ other => frame.regs _ (statOff_notMem (Fin.val_ne_of_ne other)), frame.sameBytes, frame.samePoints⟩

/-! ## The cancel of one buffer (R262) -/

section
variable {s : State} {b n : Nat} {ph : TxPhase}

theorem cancelBuf_pending (h : bufSt s b n = bsPENDING) : cancelBuf ph b s n = failBuf s b n bsCANCELLED := if_pos h

/-- Once a buffer's frame is out, its cancel is held. -/
theorem cancelBuf_active (out : ph ≠ .beforeSof) (h : bufSt s b n = bsACTIVE) :
    ∃ x : CanBus, x.cancelled = true ∧ cancelBuf ph b s n = setBus s b x := by
  have notPending : ¬ bufSt s b n = bsPENDING := by rw [h]; decide
  cases ph with
  | beforeSof => exact absurd rfl out
  | arbitration => exact ⟨{ busAt s b with cancelled := true }, rfl, (if_neg notPending).trans (if_pos h)⟩
  | afterArbitration => exact ⟨{ busAt s b with cancelled := true, won := true }, rfl, (if_neg notPending).trans (if_pos h)⟩

theorem cancelBuf_neither (pending : bufSt s b n ≠ bsPENDING) (active : bufSt s b n ≠ bsACTIVE) : cancelBuf ph b s n = s :=
  (if_neg pending).trans (if_neg active)

theorem busUpdate_cancelBuf (out : ph ≠ .beforeSof) (s : State) (b n : Nat) : BusUpdate b [0x10, 0x98, statOff n] s (cancelBuf ph b s n) := by
  by_cases pending : bufSt s b n = bsPENDING
  · rw [cancelBuf_pending pending]
    exact busUpdate_failBuf s b n _
  · by_cases active : bufSt s b n = bsACTIVE
    · obtain ⟨x, -, held⟩ := cancelBuf_active out active
      rw [held]
      exact busUpdate_setBus s x
    · rw [cancelBuf_neither pending active]
      exact BusUpdate.refl b _ s

theorem rd_cancelBuf_ne (out : ph ≠ .beforeSof) (s : State) (b : Nat) {k : Nat} (h : n ≠ k) :
    rd (cancelBuf ph b s n) (R.TXB_STAT b k) = rd s (R.TXB_STAT b k) :=
  (busUpdate_cancelBuf out s b n).regs _ (statOff_notMem h.symm)

end

/-! ## The cancels of a list -/

/-- The offsets that cancels write. -/
def cancelOffs : List Nat := 0x10 :: 0x98 :: (upTo 16).map statOff

theorem busUpdate_forAll {α : Type} {b : Nat} {offs : List Nat} {f : State → α → State} {l : List α} (hf : ∀ a ∈ l, ∀ s, BusUpdate b offs s (f s a))
    (s : State) : BusUpdate b offs s (forAll f l s) :=
  List.foldlRecOn l f (motive := BusUpdate b offs s) (BusUpdate.refl b offs s) fun u hu a ha => hu.trans (hf a ha u)

section
variable {s : State} {b n : Nat} {ph : TxPhase} {l : List Nat}

theorem busUpdate_cancels (out : ph ≠ .beforeSof) (l16 : ∀ n ∈ l, n < 16) (s : State) : BusUpdate b cancelOffs s (forAll (cancelBuf ph b) l s) :=
  busUpdate_forAll (fun n mem u => (busUpdate_cancelBuf out u b n).mono (by
    have stat : statOff n ∈ (upTo 16).map statOff := List.mem_map_of_mem (List.mem_range.mpr (l16 n mem))
    simp [cancelOffs, stat])) s

/-- A PENDING buffer of the list is CANCELLED. -/
theorem bufSt_cancels (out : ph ≠ .beforeSof) (nodup : l.Nodup) (mem : n ∈ l) (pending : bufSt s b n = bsPENDING) :
    bufSt (forAll (cancelBuf ph b) l s) b n = bsCANCELLED := by
  obtain ⟨u, before, after⟩ := forAll_view (view := fun u => rd u (R.TXB_STAT b n)) nodup mem (fun u a _ ne => rd_cancelBuf_ne out u b ne) s
  rw [bufSt_of_stat after, cancelBuf_pending ((bufSt_of_stat before).trans pending), bufSt_failBuf _ _ _ (by decide)]

/-- A buffer that is not PENDING keeps its STATUS word, and so does one beside the list. -/
theorem rd_cancels_kept (out : ph ≠ .beforeSof) (nodup : l.Nodup) (h : n ∉ l ∨ bufSt s b n ≠ bsPENDING) :
    rd (forAll (cancelBuf ph b) l s) (R.TXB_STAT b n) = rd s (R.TXB_STAT b n) := by
  by_cases mem : n ∈ l
  · obtain ⟨u, before, after⟩ := forAll_view (view := fun u => rd u (R.TXB_STAT b n)) nodup mem (fun u a _ ne => rd_cancelBuf_ne out u b ne) s
    have pending : bufSt u b n ≠ bsPENDING := by
      rw [bufSt_of_stat before]
      exact h.resolve_left (not_not_intro mem)
    have own : rd (cancelBuf ph b u n) (R.TXB_STAT b n) = rd u (R.TXB_STAT b n) := by
      by_cases active : bufSt u b n = bsACTIVE
      · obtain ⟨x, -, held⟩ := cancelBuf_active out active
        rw [held]
        rfl
      · rw [cancelBuf_neither pending active]
    exact after.trans (own.trans before)
  · exact forAll_keeps (view := fun u => rd u (R.TXB_STAT b n)) (fun u a ha => rd_cancelBuf_ne out u b fun e => mem (e ▸ ha)) s

/-- The cancel of ACTIVE buffers is held in the controller. -/
theorem cancelled_cancels (out : ph ≠ .beforeSof) (active : ∀ n ∈ l, bufSt s b n = bsACTIVE) (held : (busAt s b).cancelled = true ∨ l ≠ []) :
    (busAt (forAll (cancelBuf ph b) l s) b).cancelled = true := by
  induction l generalizing s with
  | nil => exact held.resolve_right (not_not_intro rfl)
  | cons a l ih =>
    obtain ⟨x, cancelled, step⟩ := cancelBuf_active out (active a List.mem_cons_self)
    rw [forAll, List.foldl_cons, step]
    exact ih (s := setBus s b x) (fun k mem => active k (List.mem_cons_of_mem a mem)) (.inl (by rw [busAt_setBus_same]; exact cancelled))

end

/-! ## The command -/

/-- The buffers that a word names and whose frames are chosen. -/
def namedActive (s : State) (b : Nat) (v : Word) : List Nat := (namedBuffers v).filter (fun n => bufSt s b n == bsACTIVE)

/-- The other buffers that a word names. -/
def namedIdle (s : State) (b : Nat) (v : Word) : List Nat := (namedBuffers v).filter (fun n => bufSt s b n != bsACTIVE)

/-- The buffers that a word names and that are not being sent are cancelled. -/
def idleCancelled (s : State) (b : Nat) (v : Word) (ph : TxPhase) : State := forAll (cancelBuf ph b) (namedIdle s b v) s

/-- Every buffer that a word names is cancelled, the one that is being sent last. -/
def txCancelled (s : State) (b : Nat) (v : Word) (ph : TxPhase) : State := forAll (cancelBuf ph b) (namedActive s b v) (idleCancelled s b v ph)

section
variable {s : State} {b : Nat} {v : Word} {ph : TxPhase} {n : Nat}

theorem canTxCancel_taken (hv : v.toNat < 65536) : canTxCancel s b v ph = (txCancelled s b v ph, .none) := by
  rw [canTxCancel, if_neg (not_not_intro (bits_high hv))]
  rfl

theorem mem_namedActive : n ∈ namedActive s b v ↔ n ∈ namedBuffers v ∧ bufSt s b n = bsACTIVE :=
  List.mem_filter.trans (and_congr_right' beq_iff_eq)

theorem mem_namedIdle : n ∈ namedIdle s b v ↔ n ∈ namedBuffers v ∧ bufSt s b n ≠ bsACTIVE :=
  List.mem_filter.trans (and_congr_right' bne_iff_ne)

theorem nodup_namedActive : (namedActive s b v).Nodup := (nodup_namedBuffers v).filter _

theorem nodup_namedIdle : (namedIdle s b v).Nodup := (nodup_namedBuffers v).filter _

theorem busUpdate_txCancelled (out : ph ≠ .beforeSof) (s : State) (b : Nat) (v : Word) : BusUpdate b cancelOffs s (txCancelled s b v ph) :=
  (busUpdate_cancels out (fun _ mem => (mem_namedBuffers.mp (mem_namedIdle.mp mem).1).1) s).trans
    (busUpdate_cancels out (fun _ mem => (mem_namedBuffers.mp (mem_namedActive.mp mem).1).1) _)

/-- A buffer whose frame is chosen keeps its STATUS word while the others are cancelled. -/
theorem rd_idleCancelled_active (out : ph ≠ .beforeSof) (active : bufSt s b n = bsACTIVE) :
    rd (idleCancelled s b v ph) (R.TXB_STAT b n) = rd s (R.TXB_STAT b n) :=
  rd_cancels_kept out nodup_namedIdle (.inl fun mem => (mem_namedIdle.mp mem).2 active)

/-- The cancel of the chosen buffer changes no STATUS word. -/
theorem rd_txCancelled_idle (out : ph ≠ .beforeSof) :
    rd (txCancelled s b v ph) (R.TXB_STAT b n) = rd (idleCancelled s b v ph) (R.TXB_STAT b n) := by
  by_cases mem : n ∈ namedActive s b v
  · have active := (mem_namedActive.mp mem).2
    have waits : bufSt (idleCancelled s b v ph) b n = bsACTIVE := (bufSt_of_stat (rd_idleCancelled_active out active)).trans active
    exact rd_cancels_kept out nodup_namedActive (.inr (by rw [waits]; decide))
  · exact rd_cancels_kept out nodup_namedActive (.inl mem)

theorem bufSt_txCancelled (out : ph ≠ .beforeSof) (hn : n < 16) (named : v.getLsbD n = true) (pending : bufSt s b n = bsPENDING) :
    bufSt (txCancelled s b v ph) b n = bsCANCELLED := by
  have mem : n ∈ namedIdle s b v := mem_namedIdle.mpr ⟨mem_namedBuffers.mpr ⟨hn, named⟩, by rw [pending]; decide⟩
  exact (bufSt_of_stat (rd_txCancelled_idle out)).trans (bufSt_cancels out nodup_namedIdle mem pending)

theorem rd_txCancelled_kept (out : ph ≠ .beforeSof) (h : v.getLsbD n = false ∨ bufSt s b n ≠ bsPENDING) :
    rd (txCancelled s b v ph) (R.TXB_STAT b n) = rd s (R.TXB_STAT b n) := by
  refine (rd_txCancelled_idle out).trans (rd_cancels_kept out nodup_namedIdle (h.imp_left fun unnamed mem => ?_))
  exact Bool.false_ne_true (unnamed.symm.trans (mem_namedBuffers.mp (mem_namedIdle.mp mem).1).2)

theorem cancelled_txCancelled (out : ph ≠ .beforeSof) (hn : n < 16) (named : v.getLsbD n = true) (active : bufSt s b n = bsACTIVE) :
    (busAt (txCancelled s b v ph) b).cancelled = true := by
  have mem : n ∈ namedActive s b v := mem_namedActive.mpr ⟨mem_namedBuffers.mpr ⟨hn, named⟩, active⟩
  refine cancelled_cancels out (fun k hk => ?_) (.inr (List.ne_nil_of_mem mem))
  have own := (mem_namedActive.mp hk).2
  exact (bufSt_of_stat (rd_idleCancelled_active out own)).trans own

end

/-- A cancel ends the PENDING buffers that it names, and is held for one whose frame is out. -/
theorem canTxCancel_cancels {s : State} {q : Requester} {b : Fin 8} {v : Word} {ph : TxPhase} (hr : Reaches s q (fbPage b.val) 0x94)
    (hv : v.toNat < 65536) (out : ph ≠ .beforeSof) :
    ∃ t, exec (.canTxCancel q b v ph) s = .next t ∧ Accepted t ∧
      (∀ n : Fin 16, (v.getLsbD n.val = true → bufSt s b.val n.val = bsPENDING → bufSt t b.val n.val = bsCANCELLED) ∧
        (v.getLsbD n.val = false ∨ bufSt s b.val n.val ≠ bsPENDING → rd t (R.TXB_STAT b.val n.val) = rd s (R.TXB_STAT b.val n.val)) ∧
        (v.getLsbD n.val = true → bufSt s b.val n.val = bsACTIVE → (busAt t b.val).cancelled = true)) ∧ SameBytes s t ∧ SamePoints s t := by
  have done : exec (.canTxCancel q b v ph) s = .next (answer (txCancelled s b.val v ph) .none) := by
    have run : exec (.canTxCancel q b v ph) s = .next (endCommand (fbPage b.val) 0x94 (canTxCancel s b.val v ph)) :=
      congrArg Host.Outcome.next (gated_reaches hr)
    rw [run, canTxCancel_taken hv]
    rfl
  have frame := busUpdate_txCancelled out s b.val v
  exact ⟨_, done, rfl, fun n => ⟨bufSt_txCancelled out n.isLt, rd_txCancelled_kept out, cancelled_txCancelled out n.isLt⟩,
    frame.sameBytes, frame.samePoints⟩

end Sys2Proof.Machine
end

section
/-! SUPPORT. Error counters (R251) and frames that are sent (R261). -/

namespace Sys2Proof.Machine

open Sys2Proof.Safety

/-! ## The error counters -/

section
variable {s : State} {b tec recv : Nat}

/-- The counters are shown in FB_ERRC. -/
theorem tecOf_setCounters (h : tec ≤ 256) : tecOf (setCounters s b tec recv) b = tec := by
  rw [tecOf, fld, setCounters, rd_wr_same, bits, natBits, BitVec.toNat_ofNat]
  show ((if 128 ≤ recv then 2147483648 else 0) + min recv 127 * 16777216 + min tec 256) % 4294967296 % 512 = tec
  split <;> omega

theorem busUpdate_setCounters (s : State) (b tec recv : Nat) : BusUpdate b [0x64] s (setCounters s b tec recv) :=
  (busUpdate_setBus s _).trans (busUpdate_wr _ _ List.mem_cons_self)

theorem active_setCounters (s : State) (b tec recv : Nat) : (busAt (setCounters s b tec recv) b).active = (busAt s b).active := by
  rw [setCounters, busAt_of_buses (wr_buses _ _ _), busAt_setBus_same]

/-- The warning of R251. -/
def warned (s : State) (b wasTec wasRec : Nat) : State :=
  if (96 ≤ tecOf s b ∧ wasTec < 96) ∨ (96 ≤ (busAt s b).recv ∧ wasRec < 96) then canRaise s b 2 else s

/-- The error state of a controller that stays on its bus. -/
def onlineState (s : State) (b : Nat) : State :=
  if passive s b then setFbSub (if fbSub s b = cbPASSIVE then s else canRaise s b 3) b cbPASSIVE else setFbSub s b cbACTIVE

theorem busUpdate_warned (s : State) (b wasTec wasRec : Nat) : BusUpdate b [0x10] s (warned s b wasTec wasRec) := by
  unfold warned
  split
  · exact busUpdate_canRaise s 2 List.mem_cons_self
  · exact BusUpdate.refl b _ s

theorem warned_buses (s : State) (b wasTec wasRec : Nat) : (warned s b wasTec wasRec).buses = s.buses := by
  unfold warned
  split
  · exact canRaise_buses s b 2
  · rfl

theorem busUpdate_onlineState (s : State) (b : Nat) : BusUpdate b [0x08, 0x10] s (onlineState s b) := by
  have sub (u : State) (n : Nat) : BusUpdate b [0x08, 0x10] u (setFbSub u b n) := busUpdate_setFld u F.PG_SUBSTATE n List.mem_cons_self
  unfold onlineState
  split
  · split
    · exact sub s _
    · exact (busUpdate_canRaise s 3 (by simp)).trans (sub _ _)
  · exact sub s _

theorem onlineState_buses (s : State) (b : Nat) : (onlineState s b).buses = s.buses := by
  unfold onlineState
  split
  · split
    · rfl
    · exact canRaise_buses s b 3
  · rfl

/-- A TEC of at most 255 keeps the controller on its bus (R252). -/
theorem errorState_online {wasTec wasRec : Nat} (h : tecOf s b ≤ 255) :
    errorState s b wasTec wasRec = onlineState (warned s b wasTec wasRec) b := by
  have low : ¬ 255 < tecOf (warned s b wasTec wasRec) b := by
    have same : tecOf (warned s b wasTec wasRec) b = tecOf s b :=
      (busUpdate_warned s b wasTec wasRec).fld (by rw [List.mem_singleton]; decide) _
    omega
  exact if_neg low

/-- Counting on a bus that the controller takes part in, short of bus-off. -/
theorem count_online (counts : (busAt s b).listen = false) (h : tec ≤ 255) :
    count s b tec recv = onlineState (warned (setCounters s b tec recv) b (tecOf s b) (busAt s b).recv) b := by
  have low : tecOf (setCounters s b tec recv) b ≤ 255 := by rw [tecOf_setCounters (by omega)]; exact h
  rw [count, counts]
  exact errorState_online low

theorem busUpdate_count (counts : (busAt s b).listen = false) (h : tec ≤ 255) : BusUpdate b [0x08, 0x10, 0x64] s (count s b tec recv) := by
  rw [count_online counts h]
  exact (((busUpdate_setCounters s b tec recv).mono (by simp)).trans ((busUpdate_warned _ b _ _).mono (by simp))).trans
    ((busUpdate_onlineState _ b).mono (by simp))

theorem tecOf_count (counts : (busAt s b).listen = false) (h : tec ≤ 255) : tecOf (count s b tec recv) b = tec := by
  have after := ((busUpdate_warned (setCounters s b tec recv) b (tecOf s b) (busAt s b).recv).mono
    (List.subset_cons_self _ _)).trans (busUpdate_onlineState _ b)
  rw [count_online counts h]
  exact (after.fld (off := 0x64) (by decide) F.FB_ERRC_TEC).trans (tecOf_setCounters (by omega))

theorem active_count (counts : (busAt s b).listen = false) (h : tec ≤ 255) : (busAt (count s b tec recv) b).active = (busAt s b).active := by
  rw [count_online counts h, busAt_of_buses ((onlineState_buses _ _).trans (warned_buses _ _ _ _)), active_setCounters]

end

/-! ## A frame that is sent -/

/-- The buffer of a frame that is sent: TX_DONE, its time stamp and whether a cancel came too late. -/
def bufferSent (s : State) (b n : Nat) (sof : DWord) : State :=
  wr (setFld (setBuf (noActive s b) b n bsTXDONE) (R.TXB_STAT b n) F.TXB_STAT_CANCEL_LATE (b2n (busAt s b).cancelled)) (R.TXB_TS b n)
    (sof.setWidth 32)

/-- The transmitter delay that a frame with a fast data phase measured (R247). -/
def delayShown (s : State) (b : Nat) (x : CanFrame) (tdcv : BitVec 7) : State :=
  if x.fdf && x.brs && flag s (R.FB_TDC b) F.FB_TDC_TDCEN then wr s (R.FB_TDCR b) (BitVec.ofNat 32 tdcv.toNat) else s

/-- A frame that is sent ends the count of its identifier's clashes (R264). -/
def clashEnded (s : State) (b n : Nat) : State :=
  if bits (rd s (R.FB_CLASH b)) 29 0 = bits (rd s (R.TXB_ID b n)) 29 0 then setFld s (R.FB_CLASHP b) F.FB_CLASHP_COUNT 0 else s

/-- The registers of a frame that is sent, before it counts. -/
def frameSent (s : State) (b n : Nat) (sof : DWord) (tdcv : BitVec 7) : State :=
  clashEnded (delayShown (bufferSent s b n sof) b (ownFrame s b n sof) tdcv) b n

/-- A frame that is sent lowers TEC and raises TX_DONE. -/
def sentCounted (s : State) (b : Nat) : State := canRaise (count s b (tecOf s b - 1) (busAt s b).recv) b 0

section
variable {s : State} {b n : Nat} {sof : DWord} {tdcv : BitVec 7}

theorem canTxDone_eq (active : (busAt s b).active = some n) : canTxDone s b sof tdcv =
    (let u := sentCounted (frameSent s b n sof tdcv) b
     txChoice (if flag u (R.FB_CTRL b) F.FB_CTRL_ECHO then deliver u b (ownFrame s b n sof) true else u) b) := by
  rw [canTxDone, active]
  rfl

/-- The offsets that a frame's end writes before it counts. -/
def sentOffs (n : Nat) : List Nat := [0x80, 0x88, 0x98, statOff n, 0x40C + 0x50 * n]

/-- The frame's end writes none of the controller's other registers. -/
theorem notMem_sentOffs {off : Nat} (n : Nat) (own : off < 0x400) (other : off ∉ [0x80, 0x88, 0x98]) : off ∉ sentOffs n := by
  simp only [sentOffs, List.mem_cons, List.not_mem_nil, or_false, not_or] at other ⊢
  unfold statOff
  omega

theorem busUpdate_bufferSent (s : State) (b n : Nat) (sof : DWord) : BusUpdate b (sentOffs n) s (bufferSent s b n sof) :=
  (((busUpdate_setBus s _).trans ((busUpdate_setBuf _ b n bsTXDONE).mono (by simp [sentOffs]))).trans
    (busUpdate_setFld _ F.TXB_STAT_CANCEL_LATE _ (by simp [sentOffs]))).trans (busUpdate_wr _ _ (by simp [sentOffs]))

theorem busUpdate_delayShown (s : State) (b : Nat) (x : CanFrame) (tdcv : BitVec 7) : BusUpdate b [0x80, 0x88] s (delayShown s b x tdcv) := by
  unfold delayShown
  split
  · exact busUpdate_wr s _ (by simp)
  · exact BusUpdate.refl b _ s

theorem busUpdate_clashEnded (s : State) (b n : Nat) : BusUpdate b [0x80, 0x88] s (clashEnded s b n) := by
  unfold clashEnded
  split
  · exact busUpdate_setFld s _ _ (by simp)
  · exact BusUpdate.refl b _ s

/-- What follows the end of a buffer in its controller's registers. -/
theorem busUpdate_frameSent_tail (s : State) (b n : Nat) (sof : DWord) (tdcv : BitVec 7) :
    BusUpdate b [0x80, 0x88] (bufferSent s b n sof) (frameSent s b n sof tdcv) :=
  (busUpdate_delayShown _ b _ tdcv).trans (busUpdate_clashEnded _ b n)

theorem busUpdate_frameSent (s : State) (b n : Nat) (sof : DWord) (tdcv : BitVec 7) : BusUpdate b (sentOffs n) s (frameSent s b n sof tdcv) :=
  (busUpdate_bufferSent s b n sof).trans ((busUpdate_frameSent_tail s b n sof tdcv).mono (by simp [sentOffs]))

theorem frameSent_buses (s : State) (b n : Nat) (sof : DWord) (tdcv : BitVec 7) : (frameSent s b n sof tdcv).buses = (noActive s b).buses := by
  have delay (u : State) (x : CanFrame) : (delayShown u b x tdcv).buses = u.buses := by unfold delayShown; split <;> rfl
  have clash (u : State) : (clashEnded u b n).buses = u.buses := by unfold clashEnded; split <;> rfl
  rw [frameSent, clash, delay]
  rfl

theorem busAt_frameSent (s : State) (b n : Nat) (sof : DWord) (tdcv : BitVec 7) :
    busAt (frameSent s b n sof tdcv) b = { busAt s b with active := none, won := false, cancelled := false } :=
  (busAt_of_buses (frameSent_buses s b n sof tdcv) b).trans (busAt_setBus_same s b _)

theorem bufSt_bufferSent (s : State) (b n : Nat) (sof : DWord) : bufSt (bufferSent s b n sof) b n = bsTXDONE := by
  have stamp : R.TXB_STAT b n ≠ R.TXB_TS b n := canReg_ne b (by omega)
  rw [bufSt, bufferSent, fld_wr_ne _ _ _ stamp,
    fld_setFld_other _ _ F.TXB_STAT_CANCEL_LATE F.TXB_STAT_STATUS _ (by decide) (by decide) (.inl (by decide))]
  exact bufSt_setBuf _ b n (by decide)

theorem bufSt_frameSent (s : State) (b n : Nat) (sof : DWord) (tdcv : BitVec 7) : bufSt (frameSent s b n sof tdcv) b n = bsTXDONE :=
  ((busUpdate_frameSent_tail s b n sof tdcv).bufSt (buffer_notMem (le_statOff n) (by decide))).trans (bufSt_bufferSent s b n sof)

theorem rd_frameSent_TS (s : State) (b n : Nat) (sof : DWord) (tdcv : BitVec 7) :
    rd (frameSent s b n sof tdcv) (R.TXB_TS b n) = sof.setWidth 32 :=
  ((busUpdate_frameSent_tail s b n sof tdcv).regs _ (buffer_notMem (by omega) (by decide))).trans (rd_wr_same _ _ _)

theorem bufSt_frameSent_ne {k : Nat} (h : k ≠ n) : bufSt (frameSent s b n sof tdcv) b k = bufSt s b k :=
  (busUpdate_frameSent s b n sof tdcv).bufSt (by
    simp only [sentOffs, List.mem_cons, List.not_mem_nil, or_false, not_or]
    unfold statOff
    omega)

theorem tecOf_frameSent (s : State) (b n : Nat) (sof : DWord) (tdcv : BitVec 7) : tecOf (frameSent s b n sof tdcv) b = tecOf s b :=
  (busUpdate_frameSent s b n sof tdcv).fld (notMem_sentOffs n (by decide) (by decide)) _

/-! ## What it counts -/

theorem busUpdate_sentCounted (counts : (busAt s b).listen = false) (h : tecOf s b ≤ 255) : BusUpdate b [0x08, 0x10, 0x64] s (sentCounted s b) :=
  (busUpdate_count counts (by omega)).trans (busUpdate_canRaise _ 0 (by simp))

theorem tecOf_sentCounted (counts : (busAt s b).listen = false) (h : tecOf s b ≤ 255) : tecOf (sentCounted s b) b = tecOf s b - 1 :=
  ((busUpdate_canRaise (offs := [0x10]) _ 0 List.mem_cons_self).fld (by decide) _).trans (tecOf_count counts (by omega))

theorem active_sentCounted (counts : (busAt s b).listen = false) (h : tecOf s b ≤ 255) :
    (busAt (sentCounted s b) b).active = (busAt s b).active := by
  rw [sentCounted, busAt_of_buses (canRaise_buses _ b 0), active_count counts (by omega)]

theorem isr_sentCounted (s : State) (hb : b < 8) : (rd (sentCounted s b) (R.PG_ISR (fbPage b))).getLsbD 0 = true :=
  raiseBit_isr_bit _ (by unfold fbPage; omega) (by decide)

end

/-! ## The command -/

/-- With no frame echoed and no buffer PENDING, a frame that is sent ends its buffer and counts, and nothing follows it. -/
theorem canTxDone_silent {s : State} {b n : Nat} {sof : DWord} {tdcv : BitVec 7} (active : (busAt s b).active = some n)
    (normal : (busAt s b).listen = false) (silent : flag s (R.FB_CTRL b) F.FB_CTRL_ECHO = false) (tec : tecOf s b ≤ 255)
    (idle : ∀ k, k < 16 → bufSt s b k ≠ bsPENDING) :
    canTxDone s b sof tdcv = sentCounted (frameSent s b n sof tdcv) b := by
  have counts : (busAt (frameSent s b n sof tdcv) b).listen = false := by rw [busAt_frameSent]; exact normal
  have low : tecOf (frameSent s b n sof tdcv) b ≤ 255 := by rw [tecOf_frameSent]; exact tec
  have tail := busUpdate_sentCounted counts low
  have echo : flag (sentCounted (frameSent s b n sof tdcv) b) (R.FB_CTRL b) F.FB_CTRL_ECHO = false :=
    (tail.flag (off := 0x40) (by decide) _).trans
      (((busUpdate_frameSent s b n sof tdcv).flag (off := 0x40) (notMem_sentOffs n (by decide) (by decide)) _).trans silent)
  have nothing (k : Nat) (hk : k < 16) : bufSt (sentCounted (frameSent s b n sof tdcv) b) b k ≠ bsPENDING := by
    rw [tail.bufSt (buffer_notMem (le_statOff k) (by decide))]
    by_cases own : k = n
    · rw [own, bufSt_frameSent]
      decide
    · rw [bufSt_frameSent_ne own]
      exact idle k hk
  rw [canTxDone_eq active]
  dsimp only
  rw [echo]
  exact txChoice_nothing nothing

/-- A frame that is sent leaves its buffer TX_DONE with the time of its start, and lowers TEC. -/
theorem canTxDone_done {s : State} {b : Fin 8} {n : Fin 16} {sof : DWord} {tdcv : BitVec 7} (active : (busAt s b.val).active = some n.val)
    (normal : (busAt s b.val).listen = false) (silent : flag s (R.FB_CTRL b.val) F.FB_CTRL_ECHO = false) (tec : tecOf s b.val ≤ 255)
    (idle : ∀ k : Fin 16, bufSt s b.val k.val ≠ bsPENDING) :
    ∃ t, exec (.canTxDone b sof tdcv) s = .next t ∧ bufSt t b.val n.val = bsTXDONE ∧ rd t (R.TXB_TS b.val n.val) = sof.setWidth 32 ∧
      tecOf t b.val = tecOf s b.val - 1 ∧ (busAt t b.val).active = none ∧ (rd t (R.PG_ISR (fbPage b.val))).getLsbD 0 = true ∧
      SameBytes s t ∧ SamePoints s t := by
  have ends := canTxDone_silent (sof := sof) (tdcv := tdcv) active normal silent tec fun k hk => idle ⟨k, hk⟩
  have bus := busAt_frameSent s b.val n.val sof tdcv
  have shown := tecOf_frameSent s b.val n.val sof tdcv
  have counts : (busAt (frameSent s b.val n.val sof tdcv) b.val).listen = false := (congrArg CanBus.listen bus).trans normal
  have low : tecOf (frameSent s b.val n.val sof tdcv) b.val ≤ 255 := shown.trans_le tec
  have head := busUpdate_frameSent s b.val n.val sof tdcv
  have tail := busUpdate_sentCounted counts low
  refine ⟨_, congrArg Host.Outcome.next ends, ?_, ?_, ?_, ?_, isr_sentCounted _ b.isLt,
    fun a => (tail.sameBytes a).trans (head.sameBytes a), fun p => (tail.samePoints p).trans (head.samePoints p)⟩
  · rw [tail.bufSt (buffer_notMem (le_statOff _) (by decide)), bufSt_frameSent]
  · exact (tail.regs _ (buffer_notMem (by omega) (by decide))).trans (rd_frameSent_TS _ _ _ _ _)
  · rw [tecOf_sentCounted counts low, shown]
  · rw [active_sentCounted counts low, bus]

/-- Settles O45: each command of the transmit buffers by what it does to the buffers that it concerns. The end of a frame takes the step of TEC
with it (log entry 23). -/
theorem canBuffersTransmit : Obligations.CanBuffersTransmit := by
  unfold Obligations.CanBuffersTransmit
  intro s b
  refine ⟨fun q v hr => ⟨fun hv granted ring legal => ?_, canTxRequest_rejected hr⟩, ?_, ?_, ?_⟩
  · exact ⟨canTxRequest_pends hr hv granted ring legal, fun _ => canTxRequest_sends hr hv granted ring legal⟩
  · exact fun n active lost => canArbitrationLost_fails active lost
  · exact fun n sof d active _ normal silent tec _ idle => canTxDone_done active normal silent tec idle
  · exact fun q v ph hr hv out _ => canTxCancel_cancels hr hv out

end Sys2Proof.Machine
end

section
/-! SUPPORT. The registers of a spur port, and what updates of a port leave (R267 to R275). -/

namespace Sys2Proof.Machine

open Sys2Proof.Safety

/-! ## Keys -/

/-- The key of a port's register at an offset of its page. -/
abbrev portReg (p off : Nat) : Nat := regKey (0x61 + p) off 0

theorem spuPage_lt (p : Fin 16) : spuPage p.val < 0x100 := by
  unfold spuPage
  omega

theorem portReg_ne (p : Nat) {o o' : Nat} (h : o ≠ o') : portReg p o ≠ portReg p o' := by
  unfold portReg regKey
  omega

/-- No register of a port is the pending word of its page's events. -/
theorem portReg_ne_EVT_PEND (p off : Nat) : portReg p off ≠ R.EVT_PEND (spuPage p / 32) := by
  unfold portReg R.EVT_PEND regKey spuPage
  omega

/-! ## The frame of a port's updates -/

/-- Memory and points read as before. -/
abbrev SameData (s t : State) : Prop := SameBytes s t ∧ SamePoints s t

theorem SameData.trans {s t u : State} : SameData s t → SameData t u → SameData s u
  | ⟨bytes, points⟩, ⟨bytes', points'⟩ => ⟨fun a => (bytes' a).trans (bytes a), fun n => (points' n).trans (points n)⟩

/-- An update of a port: of its registers it changes only those at the offsets of a list, of all others only the pending word of its events
(R36, R37), and it moves neither memory nor points. -/
structure PortUpdate (p : Nat) (offs : List Nat) (s t : State) : Prop where
  same : SameData s t
  own : ∀ off, off ∉ offs → rd t (portReg p off) = rd s (portReg p off)
  elsewhere : ∀ k, k / 0x1000 ≠ spuPage p → k ≠ R.EVT_PEND (spuPage p / 32) → rd t k = rd s k

section
variable {s t u : State} {p : Nat} {offs : List Nat}

theorem PortUpdate.refl (p : Nat) (offs : List Nat) (s : State) : PortUpdate p offs s s :=
  ⟨⟨fun _ => rfl, fun _ => rfl⟩, fun _ _ => rfl, fun _ _ _ => rfl⟩

theorem PortUpdate.trans (h : PortUpdate p offs s t) (k : PortUpdate p offs t u) : PortUpdate p offs s u where
  same := h.same.trans k.same
  own off out := (k.own off out).trans (h.own off out)
  elsewhere key page pend := (k.elsewhere key page pend).trans (h.elsewhere key page pend)

theorem PortUpdate.mono {wide : List Nat} (h : PortUpdate p offs s t) (sub : offs ⊆ wide) : PortUpdate p wide s t :=
  { h with own := fun off out => h.own off fun mem => out (sub mem) }

theorem PortUpdate.fld {off : Nat} (h : PortUpdate p offs s t) (out : off ∉ offs) (f : Fld) :
    fld t (portReg p off) f = Machine.fld s (portReg p off) f := congrArg (bits · f.hi f.lo) (h.own off out)

theorem PortUpdate.flag {off : Nat} (h : PortUpdate p offs s t) (out : off ∉ offs) (f : Fld) :
    flag t (portReg p off) f = Machine.flag s (portReg p off) f := congrArg (· != 0) (h.fld out f)

theorem PortUpdate.portSt (h : PortUpdate p offs s t) (out : 0x4C ∉ offs) : portSt t p = Machine.portSt s p := h.fld out _

theorem PortUpdate.pageSt (h : PortUpdate p offs s t) (out : 0x08 ∉ offs) : pageSt t (spuPage p) = Machine.pageSt s (spuPage p) := h.fld out _

theorem PortUpdate.linkSt (h : PortUpdate p offs s t) (out : 0x54 ∉ offs) : linkSt t p = Machine.linkSt s p := h.fld out _

theorem portUpdate_wr (s : State) {off : Nat} (v : Word) (mem : off ∈ offs) (inPage : off < 0x1000) :
    PortUpdate p offs s (wr s (portReg p off) v) where
  same := ⟨fun _ => rfl, fun _ => rfl⟩
  own _ out := rd_wr_ne s v (portReg_ne p fun e => out (e ▸ mem))
  elsewhere k page _ := rd_wr_ne s v fun e => page (by unfold portReg regKey at e; unfold spuPage; omega)

theorem portUpdate_setFld (s : State) {off : Nat} (f : Fld) (v : Nat) (mem : off ∈ offs) (inPage : off < 0x1000) :
    PortUpdate p offs s (setFld s (portReg p off) f v) := portUpdate_wr s _ mem inPage

theorem portUpdate_setPort (s : State) (x : SpurPort) : PortUpdate p offs s (setPort s p x) :=
  ⟨⟨fun _ => rfl, fun _ => rfl⟩, fun _ _ => rfl, fun _ _ _ => rfl⟩

theorem portUpdate_raise (s : State) (n : Nat) (mem : 0x10 ∈ offs) : PortUpdate p offs s (raiseBit s (spuPage p) n) where
  same := ⟨sameBytes_of_regsAndEvents (regsAndEvents_raiseBit (ks := [R.PG_ISR (spuPage p)]) s n List.mem_cons_self),
    samePoints_of_points (raiseBit_points s _ n)⟩
  own off out := rd_raiseBit_ne s (portReg_ne p fun e => out (e ▸ mem)) (portReg_ne_EVT_PEND p off)
  elsewhere k page pend := rd_raiseBit_ne s (fun e => page (by unfold R.PG_ISR regKey at e; unfold spuPage at *; omega)) pend

/-- An update ends with the hidden state of its port and an event. -/
theorem portUpdate_setPort_raise (s : State) (p : Nat) (x : SpurPort) (n : Nat) :
    PortUpdate p [0x10] s (raiseBit (setPort s p x) (spuPage p) n) :=
  (portUpdate_setPort s x).trans (portUpdate_raise _ n List.mem_cons_self)

/-- The passing of time changes no register. -/
theorem portUpdate_portTime (s : State) (n : Nat) : PortUpdate p offs s (portTime s p n) where
  same := ⟨fun a => by simp only [byteAt, portTime, advanceTo_mem, advanceTo_resets, advanceTo_dramGen],
    samePoints_of_points (advanceTo_points s _)⟩
  own _ _ := rd_advanceTo s _ _
  elsewhere _ _ _ := rd_advanceTo s _ _

end
end Sys2Proof.Machine
end

section
/-! SUPPORT. The states of a spur port, the steps of its CLASSIFY, and its PHY (R268, R270, R271). -/

namespace Sys2Proof.Machine

open Sys2Proof.Safety

/-! ## The port -/

@[simp] theorem portAt_setPort_same (s : State) (p : Nat) (x : SpurPort) : portAt (setPort s p x) p = x := tget_tput_same _ _ _

theorem portAt_of_ports {s t : State} (h : t.ports = s.ports) (p : Nat) : portAt t p = portAt s p := by rw [portAt, portAt, h]

theorem inStep_iff (s : State) (p n : Nat) : inStep s p n = true ↔ portSt s p = poCLASSIFY ∧ (portAt s p).step = n := by simp [inStep]

theorem supervised_iff (s : State) (p : Nat) : supervised s p = true ↔ portSt s p = poON ∧ podl s p = true := by simp [supervised]

/-- A step of CLASSIFY ends and the port goes on. -/
theorem stepEnds_go {s : State} {p : Nat} (go : (portAt s p).stopReq = false) (k : State → State) : stepEnds s p k = k s := if_neg (by simp [go])

/-- A step of CLASSIFY ends and the stop that waits for it begins. -/
theorem stepEnds_stop {s : State} {p : Nat} (stop : ¬ (portAt s p).stopReq = false) (k : State → State) : stepEnds s p k = portStop s p :=
  if_pos (by simpa using stop)

theorem portAt_portTime (s : State) (p n : Nat) : portAt (portTime s p n) p = portAt s p := portAt_of_ports (advanceTo_ports s _) p

/-! ## The entry of a state -/

section
variable (s : State) (p st : Nat)

theorem portUpdate_enterPort : PortUpdate p [0x08, 0x4C] s (enterPort s p st) :=
  ((portUpdate_setFld s F.SPU_PSTAT_PORT st (by simp) (by decide)).trans
    (portUpdate_setFld _ F.PG_SUBSTATE st List.mem_cons_self (by decide))).trans (portUpdate_setPort _ _)

/-- SUBSTATE shares no bit with the fields below it. -/
theorem pageField_enterPort {f : Fld} (low : f.hi < 8) :
    fld (enterPort s p st) (R.PG_STATE (spuPage p)) f = fld s (R.PG_STATE (spuPage p)) f :=
  (fld_setFld_other _ (R.PG_STATE (spuPage p)) F.PG_SUBSTATE f st (by decide) (by decide) (.inl low)).trans
    (fld_setFld_ne s F.SPU_PSTAT_PORT f st (portReg_ne p (by decide)))

theorem pageSt_enterPort : pageSt (enterPort s p st) (spuPage p) = pageSt s (spuPage p) := pageField_enterPort s p st (by decide)

/-- SPU_PSTAT keeps its fields above PORT. -/
theorem pstat_enterPort {f : Fld} (high : 2 < f.lo) : fld (enterPort s p st) (R.SPU_PSTAT p) f = fld s (R.SPU_PSTAT p) f :=
  (fld_setFld_ne _ F.PG_SUBSTATE f st (portReg_ne p (by decide))).trans
    (fld_setFld_other s (R.SPU_PSTAT p) F.SPU_PSTAT_PORT f st (by decide) (by decide) (.inr high))

theorem portSt_enterPort {st : Nat} (h : st < 8) : portSt (enterPort s p st) p = st :=
  (fld_setFld_ne _ F.PG_SUBSTATE F.SPU_PSTAT_PORT st (portReg_ne p (by decide))).trans
    ((fld_setFld_same s (R.SPU_PSTAT p) F.SPU_PSTAT_PORT st (by decide) (by decide)).trans (Nat.mod_eq_of_lt h))

theorem portAt_enterPort : portAt (enterPort s p st) p = { portAt s p with since := s.now, step := 0, tries := 0 } :=
  portAt_setPort_same _ _ _

theorem inStep_classify : inStep (classify s p) p 0 = true :=
  (inStep_iff _ _ _).mpr ⟨portSt_enterPort s p (by decide), congrArg SpurPort.step (portAt_enterPort s p poCLASSIFY)⟩

theorem inStep_classifyStep {s : State} {p : Nat} (h : portSt s p = poCLASSIFY) (step tries : Nat) :
    inStep (classifyStep s p step tries) p step = true :=
  (inStep_iff _ _ _).mpr ⟨h, congrArg SpurPort.step (portAt_setPort_same s p _)⟩

end

/-! ## The state of the page -/

section
variable (s : State) (p : Nat)

theorem portUpdate_setPageSt (st : Nat) : PortUpdate p [0x08] s (setPageSt s (spuPage p) st) :=
  portUpdate_setFld s F.PG_STATE st List.mem_cons_self (by decide)

theorem pageSt_setPageSt {st : Nat} (h : st < 4) (page : Nat) : pageSt (setPageSt s page st) page = st :=
  (fld_setFld_same s _ F.PG_STATE st (by decide) (by decide)).trans (Nat.mod_eq_of_lt h)

/-! ## The PHY (R268) -/

/-- The count and the event of a link that is lost. -/
def lossCounted (s : State) (p : Nat) : State := raiseBit (bumpSat s (R.SPU_LCNT p) 1) (spuPage p) 4

theorem portUpdate_setLink (st mode : Nat) : PortUpdate p [0x54] s (setLink s p st mode) :=
  (portUpdate_setFld s F.SPU_LINK_LINK st List.mem_cons_self (by decide)).trans
    (portUpdate_setFld _ F.SPU_LINK_MODE mode List.mem_cons_self (by decide))

theorem linkSt_setLink {st : Nat} (h : st < 4) (mode : Nat) : linkSt (setLink s p st mode) p = st :=
  (fld_setFld_other _ (R.SPU_LINK p) F.SPU_LINK_MODE F.SPU_LINK_LINK mode (by decide) (by decide) (.inl (by decide))).trans
    ((fld_setFld_same s (R.SPU_LINK p) F.SPU_LINK_LINK st (by decide) (by decide)).trans (Nat.mod_eq_of_lt h))

theorem mode_setLink (st : Nat) {mode : Nat} (h : mode < 4) : fld (setLink s p st mode) (R.SPU_LINK p) F.SPU_LINK_MODE = mode :=
  (fld_setFld_same _ (R.SPU_LINK p) F.SPU_LINK_MODE mode (by decide) (by decide)).trans (Nat.mod_eq_of_lt h)

theorem portUpdate_phyStart : PortUpdate p [0x54] s (phyStart s p) := by
  unfold phyStart
  split
  · exact portUpdate_setLink s p _ 0
  · exact PortUpdate.refl p _ s

theorem portUpdate_lossCounted : PortUpdate p [0x10, 0x58] s (lossCounted s p) :=
  (portUpdate_wr s _ (by simp) (by decide)).trans (portUpdate_raise _ 4 List.mem_cons_self)

theorem losses_lossCounted : (rd (lossCounted s p) (R.SPU_LCNT p)).toNat = min 0xFFFFFFFF ((rd s (R.SPU_LCNT p)).toNat + 1) := by
  have event : rd (lossCounted s p) (R.SPU_LCNT p) = rd (bumpSat s (R.SPU_LCNT p) 1) (R.SPU_LCNT p) :=
    (portUpdate_raise (p := p) (offs := [0x10]) _ 4 List.mem_cons_self).own 0x58 (by decide)
  rw [event, rd_bumpSat_one]

theorem linkLost_up {s : State} {p : Nat} (up : linkSt s p = lkUP) (st : Nat) : linkLost s p st = lossCounted (setLink s p st 0) p := if_pos up

theorem portUpdate_linkLost (st : Nat) : PortUpdate p [0x10, 0x54, 0x58] s (linkLost s p st) := by
  have link := (portUpdate_setLink s p st 0).mono (wide := [0x10, 0x54, 0x58]) (by simp)
  unfold linkLost
  split
  · exact link.trans ((portUpdate_lossCounted _ p).mono (by simp))
  · exact link

theorem linkSt_linkLost {st : Nat} (h : st < 4) : linkSt (linkLost s p st) p = st := by
  unfold linkLost
  split
  · exact ((portUpdate_lossCounted _ p).linkSt (by decide)).trans (linkSt_setLink s p h 0)
  · exact linkSt_setLink s p h 0

end

theorem sqiOf_lt (mse : Int) : sqiOf mse < 8 := by
  unfold sqiOf clampInt
  split
  · decide
  · split <;> omega

/-- The amplitude mode of a link that comes up: the forced one, or what auto-negotiation resolved. -/
def linkMode (s : State) (p : Nat) (full : Bool) : Nat :=
  if fld s (R.SPU_PCFG p) F.SPU_PCFG_AMP = 0 then (if full then 2 else 1) else fld s (R.SPU_PCFG p) F.SPU_PCFG_AMP

theorem linkMode_lt (s : State) (p : Nat) (full : Bool) : linkMode s p full < 4 := by
  have amp := fld_lt s (R.SPU_PCFG p) F.SPU_PCFG_AMP
  unfold linkMode
  split
  · cases full <;> decide
  · exact amp

/-- The state that a lost link goes back to: NEGOTIATING, or TRAINING where the mode is forced (log entry 24). -/
def linkRetry (s : State) (p : Nat) : Nat := if fld s (R.SPU_PCFG p) F.SPU_PCFG_AMP = 0 then 1 else 2

theorem linkRetry_lt (s : State) (p : Nat) : linkRetry s p < 4 := by
  unfold linkRetry
  split <;> decide

/-- SPU_LINK of a link that comes up. -/
def linkShown (s : State) (p : Nat) (full : Bool) (mse : Int) : State :=
  setFld (setLink s p lkUP (linkMode s p full)) (R.SPU_LINK p) F.SPU_LINK_SQI (sqiOf mse)

section
variable (s : State) (p : Nat) (full : Bool) (mse : Int)

theorem portUpdate_linkShown : PortUpdate p [0x54] s (linkShown s p full mse) :=
  (portUpdate_setLink s p _ _).trans (portUpdate_setFld _ _ _ List.mem_cons_self (by decide))

theorem sqi_linkShown : fld (linkShown s p full mse) (R.SPU_LINK p) F.SPU_LINK_SQI = sqiOf mse :=
  (fld_setFld_same _ (R.SPU_LINK p) F.SPU_LINK_SQI _ (by decide) (by decide)).trans (Nat.mod_eq_of_lt (sqiOf_lt mse))

/-- The signal quality shares no bit with the fields below it. -/
theorem link_linkShown {f : Fld} (low : f.hi < 8) :
    fld (linkShown s p full mse) (R.SPU_LINK p) f = fld (setLink s p lkUP (linkMode s p full)) (R.SPU_LINK p) f :=
  fld_setFld_other _ (R.SPU_LINK p) F.SPU_LINK_SQI f _ (by decide) (by decide) (.inl low)

end

/-- PHY_LINK_UP shows the link with its mode and signal quality. -/
theorem phyLinkUp_shown {s : State} {p : Fin 16} (full : Bool) (mse : Int) (started : linkSt s p.val ≠ lkDOWN) (waits : linkSt s p.val ≠ lkUP) :
    ∃ t, exec (.phyLinkUp p full mse) s = .next t ∧ linkSt t p.val = lkUP ∧ fld t (R.SPU_LINK p.val) F.SPU_LINK_SQI = sqiOf mse ∧
      (rd t (R.PG_ISR (spuPage p.val))).getLsbD 3 = true ∧ (SameBytes s t ∧ SamePoints s t) ∧
      fld t (R.SPU_LINK p.val) F.SPU_LINK_MODE = linkMode s p.val full := by
  have does : phyUp s p.val full mse = raiseBit (linkShown s p.val full mse) (spuPage p.val) 3 := if_neg (by simp [started, waits])
  have event : PortUpdate p.val [0x10] _ (raiseBit (linkShown s p.val full mse) (spuPage p.val) 3) :=
    portUpdate_raise _ 3 List.mem_cons_self
  have link (f : Fld) : fld _ (R.SPU_LINK p.val) f = fld (linkShown s p.val full mse) (R.SPU_LINK p.val) f :=
    event.fld (off := 0x54) (by decide) f
  refine ⟨_, congrArg Host.Outcome.next does, ?_, (link _).trans (sqi_linkShown s p.val full mse), raiseBit_isr_bit _ (spuPage_lt p) (by decide),
    (portUpdate_linkShown s p.val full mse).same.trans event.same, ?_⟩
  · exact (link _).trans ((link_linkShown s p.val full mse (by decide)).trans (linkSt_setLink s p.val (by decide) _))
  · exact (link _).trans ((link_linkShown s p.val full mse (by decide)).trans (mode_setLink s p.val _ (linkMode_lt s p.val full)))

/-- PHY_LINK_DOWN counts the link that was up. -/
theorem phyLinkDown_counts {s : State} {p : Fin 16} (up : linkSt s p.val = lkUP) :
    ∃ t, exec (.phyLinkDown p) s = .next t ∧ linkSt t p.val = linkRetry s p.val ∧ (rd t (R.PG_ISR (spuPage p.val))).getLsbD 4 = true ∧
      (rd t (R.SPU_LCNT p.val)).toNat = min 0xFFFFFFFF ((rd s (R.SPU_LCNT p.val)).toNat + 1) ∧ (SameBytes s t ∧ SamePoints s t) := by
  have does : phyDown s p.val = lossCounted (setLink s p.val (linkRetry s p.val) 0) p.val :=
    (if_pos up).trans (linkLost_up up (linkRetry s p.val))
  have before := portUpdate_setLink s p.val (linkRetry s p.val) 0
  have after := portUpdate_lossCounted (setLink s p.val (linkRetry s p.val) 0) p.val
  have count : rd _ (R.SPU_LCNT p.val) = rd s (R.SPU_LCNT p.val) := before.own 0x58 (by decide)
  refine ⟨_, congrArg Host.Outcome.next does, ?_, raiseBit_isr_bit _ (spuPage_lt p) (by decide), ?_, before.same.trans after.same⟩
  · exact (after.linkSt (by decide)).trans (linkSt_setLink s p.val (linkRetry_lt s p.val) 0)
  · rw [losses_lossCounted, count]

end Sys2Proof.Machine
end

section
/-! SUPPORT. A spur port that is stopped or forced off, and its discharge (R271 to R274). -/

namespace Sys2Proof.Machine

open Sys2Proof.Safety

/-! ## STOPPING -/

/-- STOPPING begins: the PHY stops. -/
def stopping (s : State) (p : Nat) : State := phyStop (setPageSt s (spuPage p) fsSTOPPING) p

section
variable (s : State) (p : Nat)

theorem portUpdate_stopping : PortUpdate p [0x08, 0x10, 0x54, 0x58] s (stopping s p) :=
  ((portUpdate_setPageSt s p fsSTOPPING).mono (by simp)).trans ((portUpdate_linkLost _ p lkDOWN).mono (by simp))

theorem pageSt_stopping : pageSt (stopping s p) (spuPage p) = fsSTOPPING :=
  ((portUpdate_linkLost _ p lkDOWN).pageSt (by decide)).trans (pageSt_setPageSt s (by decide) _)

theorem linkSt_stopping : linkSt (stopping s p) p = lkDOWN := linkSt_linkLost _ p (by decide)

end

/-- A port with power that is stopped discharges. -/
theorem portStop_discharges {s : State} {p : Nat} (power : podl s p = true) :
    portSt (portStop s p) p = poDISCHARGE ∧ pageSt (portStop s p) (spuPage p) = fsSTOPPING ∧ SameData s (portStop s p) := by
  have head := portUpdate_stopping s p
  have stop : portStop s p = if portSt (stopping s p) p = poDISCHARGE then stopping s p else enterPort (stopping s p) p poDISCHARGE :=
    if_pos ((head.flag (off := 0x40) (by decide) F.SPU_PCFG_PODL).trans power)
  rw [stop]
  split
  next discharges => exact ⟨discharges, pageSt_stopping s p, head.same⟩
  next =>
    exact ⟨portSt_enterPort _ p (by decide), (pageSt_enterPort _ p _).trans (pageSt_stopping s p),
      head.same.trans (portUpdate_enterPort _ p _).same⟩

/-! ## Faults (R271 to R273) -/

section
variable (s : State) (p : Nat)

/-- A fault clears EN and a pending re-arm (R33). -/
def enCleared : State := setFld (setFld s (R.PG_CTRL (spuPage p)) F.PG_EN 0) (R.PG_STATE (spuPage p)) F.PG_REARM 0

theorem portUpdate_enCleared : PortUpdate p [0x04, 0x08] s (enCleared s p) :=
  (portUpdate_setFld s F.PG_EN 0 List.mem_cons_self (by decide)).trans (portUpdate_setFld _ F.PG_REARM 0 (by simp) (by decide))

theorem en_enCleared : flag (enCleared s p) (R.PG_CTRL (spuPage p)) F.PG_EN = false :=
  congrArg (· != 0) ((fld_setFld_ne _ F.PG_REARM F.PG_EN 0 (portReg_ne p (by decide))).trans
    (fld_setFld_same s (R.PG_CTRL (spuPage p)) F.PG_EN 0 (by decide) (by decide)))

theorem pageSt_enCleared : pageSt (enCleared s p) (spuPage p) = pageSt s (spuPage p) :=
  (fld_setFld_other _ (R.PG_STATE (spuPage p)) F.PG_REARM F.PG_STATE 0 (by decide) (by decide) (.inl (by decide))).trans
    (fld_setFld_ne s F.PG_EN F.PG_STATE 0 (portReg_ne p (by decide)))

/-- SPU_FCNT counts a fault or a disconnect, and SPU_PSTAT shows its cause (R272). -/
def causeRecorded (cause : Nat) : State := setFld (bumpSat s (R.SPU_FCNT p) 1) (R.SPU_PSTAT p) F.SPU_PSTAT_CAUSE cause

theorem portUpdate_causeRecorded (cause : Nat) : PortUpdate p [0x4C, 0x5C] s (causeRecorded s p cause) :=
  (portUpdate_wr s _ (by simp) (by decide)).trans (portUpdate_setFld _ F.SPU_PSTAT_CAUSE cause List.mem_cons_self (by decide))

theorem cause_causeRecorded {cause : Nat} (h : cause < 8) : fld (causeRecorded s p cause) (R.SPU_PSTAT p) F.SPU_PSTAT_CAUSE = cause :=
  (fld_setFld_same _ (R.SPU_PSTAT p) F.SPU_PSTAT_CAUSE cause (by decide) (by decide)).trans (Nat.mod_eq_of_lt h)

/-- PORT shares no bit with CAUSE. -/
theorem portSt_causeRecorded (cause : Nat) : portSt (causeRecorded s p cause) p = portSt s p :=
  (fld_setFld_other _ (R.SPU_PSTAT p) F.SPU_PSTAT_CAUSE F.SPU_PSTAT_PORT cause (by decide) (by decide) (.inl (by decide))).trans
    (fld_wr_ne s _ _ (portReg_ne p (by decide)))

theorem count_causeRecorded (cause : Nat) :
    (rd (causeRecorded s p cause) (R.SPU_FCNT p)).toNat = min 0xFFFFFFFF ((rd s (R.SPU_FCNT p)).toNat + 1) := by
  have shown : rd (causeRecorded s p cause) (R.SPU_FCNT p) = rd (bumpSat s (R.SPU_FCNT p) 1) (R.SPU_FCNT p) :=
    rd_setFld_ne _ _ _ (portReg_ne p (by decide))
  rw [shown, rd_bumpSat_one]

/-- What the registers take of a fault before the port enters FAULT. -/
def faultRecorded (cause : Nat) : State := causeRecorded (enCleared (stopping s p) p) p cause

end

/-- A port that a cause has forced off between two states. -/
def ForcedOff (p cause : Nat) (s t : State) : Prop :=
  portSt t p = poFAULT ∧ fld t (R.SPU_PSTAT p) F.SPU_PSTAT_CAUSE = cause ∧ flag t (R.PG_CTRL (spuPage p)) F.PG_EN = false ∧
    pageSt t (spuPage p) = fsSTOPPING ∧ linkSt t p = lkDOWN ∧ (rd t (R.PG_ISR (spuPage p))).getLsbD 1 = true ∧
    (rd t (R.SPU_FCNT p)).toNat = min 0xFFFFFFFF ((rd s (R.SPU_FCNT p)).toNat + 1) ∧ SameData s t

/-- A fault is recorded, shown as the port's state and raised. -/
theorem portFault_eq (s : State) (p cause : Nat) : ∃ x, portFault s p cause =
    raiseBit (setPort (enterPort (faultRecorded s p cause) p poFAULT) p x) (spuPage p) 1 := ⟨_, rfl⟩

theorem portUpdate_portFault (s : State) (p cause : Nat) :
    PortUpdate p [0x04, 0x08, 0x10, 0x4C, 0x54, 0x58, 0x5C] s (portFault s p cause) := by
  obtain ⟨x, fault⟩ := portFault_eq s p cause
  have records := ((portUpdate_stopping s p).mono (by simp)).trans (((portUpdate_enCleared _ p).mono (by simp)).trans
    ((portUpdate_causeRecorded _ p cause).mono (wide := [0x04, 0x08, 0x10, 0x4C, 0x54, 0x58, 0x5C]) (by simp)))
  rw [fault]
  exact records.trans (((portUpdate_enterPort _ p poFAULT).mono (by simp)).trans ((portUpdate_setPort_raise _ p x 1).mono (by simp)))

theorem portFault_forcedOff (s : State) (p : Fin 16) {cause : Nat} (h : cause < 8) : ForcedOff p.val cause s (portFault s p.val cause) := by
  obtain ⟨x, fault⟩ := portFault_eq s p.val cause
  have same := (portUpdate_portFault s p.val cause).same
  have stops := portUpdate_stopping s p.val
  have clears := portUpdate_enCleared (stopping s p.val) p.val
  have records := portUpdate_causeRecorded (enCleared (stopping s p.val) p.val) p.val cause
  have enters := portUpdate_enterPort (faultRecorded s p.val cause) p.val poFAULT
  have raises := portUpdate_setPort_raise (enterPort (faultRecorded s p.val cause) p.val poFAULT) p.val x 1
  rw [fault] at same ⊢
  refine ⟨?_, ?_, ?_, ?_, ?_, raiseBit_isr_bit _ (spuPage_lt p) (by decide), ?_, same⟩
  · exact (raises.portSt (by decide)).trans (portSt_enterPort _ _ (by decide))
  · exact (raises.fld (off := 0x4C) (by decide) _).trans ((pstat_enterPort _ _ _ (by decide)).trans (cause_causeRecorded _ _ h))
  · exact (raises.flag (off := 0x04) (by decide) _).trans ((enters.flag (off := 0x04) (by decide) _).trans
      ((records.flag (off := 0x04) (by decide) _).trans (en_enCleared _ _)))
  · exact (raises.pageSt (by decide)).trans ((pageSt_enterPort _ _ _).trans ((records.pageSt (by decide)).trans
      ((pageSt_enCleared _ _).trans (pageSt_stopping s _))))
  · exact (raises.linkSt (by decide)).trans ((enters.linkSt (by decide)).trans ((records.linkSt (by decide)).trans
      ((clears.linkSt (by decide)).trans (linkSt_stopping s _))))
  · have after : rd _ (R.SPU_FCNT p.val) = rd (faultRecorded s p.val cause) (R.SPU_FCNT p.val) :=
      (raises.own 0x5C (by decide)).trans (enters.own 0x5C (by decide))
    have before : rd (enCleared (stopping s p.val) p.val) (R.SPU_FCNT p.val) = rd s (R.SPU_FCNT p.val) :=
      (clears.own 0x5C (by decide)).trans (stops.own 0x5C (by decide))
    rw [after, faultRecorded, count_causeRecorded, before]

/-- What comes before a fault may change all but the count of faults. -/
theorem ForcedOff.after {p cause : Nat} {s t u : State} (h : ForcedOff p cause t u) (same : SameData s t)
    (count : rd t (R.SPU_FCNT p) = rd s (R.SPU_FCNT p)) : ForcedOff p cause s u := by
  obtain ⟨port, shown, en, page, link, event, counted, data⟩ := h
  exact ⟨port, shown, en, page, link, event, count ▸ counted, same.trans data⟩

/-! ## The end of a discharge -/

section
variable {s : State} {p : Nat}

/-- Without a latched re-arm a port that is not reconnecting is OFF. -/
theorem portOff_unlatched (unlatched : flag s (R.PG_STATE (spuPage p)) F.PG_REARM = false) :
    portOff s p = setPort (setPageSt (enterPort s p poOFF) (spuPage p) fsOFF) p {} := by
  have rearm : flag (setPort (setPageSt (enterPort s p poOFF) (spuPage p) fsOFF) p {}) (R.PG_STATE (spuPage p)) F.PG_REARM = false :=
    (congrArg (· != 0) ((fld_setFld_other _ (R.PG_STATE (spuPage p)) F.PG_STATE F.PG_REARM fsOFF (by decide) (by decide)
      (.inr (by decide))).trans (pageField_enterPort s p poOFF (by decide)))).trans unlatched
  exact if_neg (by rw [rearm]; decide)

/-- A discharge leads back to CLASSIFY under ON, and to OFF otherwise. -/
theorem discharged_shown (unlatched : flag s (R.PG_STATE (spuPage p)) F.PG_REARM = false) :
    portSt (discharged s p) p = (if pageSt s (spuPage p) = fsON then poCLASSIFY else poOFF) ∧
      (pageSt s (spuPage p) ≠ fsON → pageSt (discharged s p) (spuPage p) = fsOFF) ∧
      fld (discharged s p) (R.SPU_PSTAT p) F.SPU_PSTAT_DIS_SLOW = fld s (R.SPU_PSTAT p) F.SPU_PSTAT_DIS_SLOW ∧
      SameData s (discharged s p) := by
  by_cases on : pageSt s (spuPage p) = fsON
  · have again : discharged s p = enterPort s p poCLASSIFY := if_pos on
    rw [again, if_pos on]
    exact ⟨portSt_enterPort s p (by decide), fun off => absurd on off, pstat_enterPort s p _ (by decide), (portUpdate_enterPort s p _).same⟩
  · have off : discharged s p = setPort (setPageSt (enterPort s p poOFF) (spuPage p) fsOFF) p {} := (if_neg on).trans (portOff_unlatched unlatched)
    have tail := portUpdate_setPageSt (enterPort s p poOFF) p fsOFF
    rw [off, if_neg on]
    exact ⟨(tail.portSt (by decide)).trans (portSt_enterPort s p (by decide)), fun _ => pageSt_setPageSt _ (by decide) _,
      (tail.fld (off := 0x4C) (by decide) _).trans (pstat_enterPort s p _ (by decide)), (portUpdate_enterPort s p _).same.trans tail.same⟩

end

end Sys2Proof.Machine
end

section
/-! SUPPORT. The commands of a spur port in CLASSIFY (R271). -/

namespace Sys2Proof.Machine

open Sys2Proof.Safety

variable {s : State} {p : Fin 16}

/-! ## Faults after a wait -/

/-- A fault at the end of a wait. -/
theorem waitedFault_forcedOff (s : State) (p : Fin 16) (wait : Nat) {cause : Nat} (h : cause < 8) :
    ForcedOff p.val cause s (portFault (portTime s p.val wait) p.val cause) :=
  (portFault_forcedOff (portTime s p.val wait) p h).after (portUpdate_portTime (offs := []) s wait).same (rd_advanceTo s _ _)

/-! ## The quiet check -/

theorem exec_quietCheckEnd (quiet : Bool) (first : inStep s p.val 0 = true) : ∃ wait, exec (.quietCheckEnd p quiet) s =
    .next (if quiet then stepEnds (portTime s p.val wait) p.val (fun u => classifyStep u p.val 1 0)
      else portFault (portTime s p.val wait) p.val 6) :=
  ⟨_, congrArg Host.Outcome.next (if_neg (by simp [first]))⟩

theorem quietCheckEnd_quiet (first : inStep s p.val 0 = true) (go : (portAt s p.val).stopReq = false) :
    ∃ t, exec (.quietCheckEnd p true) s = .next t ∧ inStep t p.val 1 = true ∧ SameRegs [] s t ∧ SameData s t := by
  obtain ⟨wait, does⟩ := exec_quietCheckEnd true first
  obtain ⟨classifies, -⟩ := (inStep_iff _ _ _).mp first
  have waits : PortUpdate p.val [] s (portTime s p.val wait) := portUpdate_portTime s wait
  have goes := stepEnds_go ((congrArg SpurPort.stopReq (portAt_portTime s p.val wait)).trans go) fun u => classifyStep u p.val 1 0
  exact ⟨_, does.trans (congrArg Host.Outcome.next goes), inStep_classifyStep ((waits.portSt (by decide)).trans classifies) 1 0,
    fun k _ => rd_advanceTo s _ k, waits.same.trans (portUpdate_setPort (p := p.val) (offs := []) _ _).same⟩

theorem quietCheckEnd_backfed (first : inStep s p.val 0 = true) :
    ∃ t, exec (.quietCheckEnd p false) s = .next t ∧ ForcedOff p.val 6 s t := by
  obtain ⟨wait, does⟩ := exec_quietCheckEnd false first
  exact ⟨_, does, waitedFault_forcedOff s p wait (by decide)⟩

theorem quietCheckEnd_stops (first : inStep s p.val 0 = true) (stop : ¬ (portAt s p.val).stopReq = false) (power : podl s p.val = true) :
    ∃ t, exec (.quietCheckEnd p true) s = .next t ∧ portSt t p.val = poDISCHARGE ∧ pageSt t (spuPage p.val) = fsSTOPPING ∧ SameData s t := by
  obtain ⟨wait, does⟩ := exec_quietCheckEnd true first
  have waits : PortUpdate p.val [] s (portTime s p.val wait) := portUpdate_portTime s wait
  have stops := stepEnds_stop (s := portTime s p.val wait) (by rw [portAt_portTime]; exact stop) fun u => classifyStep u p.val 1 0
  obtain ⟨port, page, same⟩ := portStop_discharges ((waits.flag (off := 0x40) (by decide) F.SPU_PCFG_PODL).trans power)
  exact ⟨_, does.trans (congrArg Host.Outcome.next stops), port, page, waits.same.trans same⟩

/-! ## Detection -/

theorem detectionResult_steps (v : Bool) (second : inStep s p.val 1 = true) (go : (portAt s p.val).stopReq = false) :
    ∃ t, exec (.detectionResult p v) s = .next t ∧ inStep t p.val (if v then 2 else 3) = true ∧ t = { s with ports := t.ports } := by
  obtain ⟨classifies, -⟩ := (inStep_iff _ _ _).mp second
  have does : exec (.detectionResult p v) s = .next (classifyStep s p.val (if v then 2 else 3) 0) :=
    congrArg Host.Outcome.next ((if_pos second).trans (stepEnds_go go fun u => classifyStep u p.val (if v then 2 else 3) 0))
  exact ⟨_, does, inStep_classifyStep classifies _ 0, rfl⟩

theorem exec_detectionRetry (waiting : inStep s p.val 3 = true) :
    ∃ wait, exec (.detectionRetry p) s = .next (classify (portTime s p.val wait) p.val) :=
  ⟨_, congrArg Host.Outcome.next (if_pos waiting)⟩

theorem detectionRetry_restarts (waiting : inStep s p.val 3 = true) :
    ∃ t, exec (.detectionRetry p) s = .next t ∧ inStep t p.val 0 = true ∧ SameData s t ∧
      SameRegs [R.SPU_PSTAT p.val, R.PG_STATE (spuPage p.val)] s t := by
  obtain ⟨wait, does⟩ := exec_detectionRetry waiting
  refine ⟨_, does, inStep_classify _ p.val,
    (portUpdate_portTime (offs := []) s wait).same.trans (portUpdate_enterPort _ p.val poCLASSIFY).same, fun k out => ?_⟩
  simp only [List.mem_cons, List.not_mem_nil, or_false, not_or] at out
  obtain ⟨notPstat, notState⟩ := out
  exact (rd_setFld_ne _ _ _ notState).trans ((rd_setFld_ne _ _ _ notPstat).trans (rd_advanceTo s _ k))

/-! ## SCCP -/

/-- SPU_PSTAT.CLASS takes the class that an attempt has read. -/
def classShown (s : State) (p n : Nat) : State := setFld s (R.SPU_PSTAT p) F.SPU_PSTAT_CLASS n

theorem portUpdate_classShown (s : State) (p n : Nat) : PortUpdate p [0x4C] s (classShown s p n) :=
  portUpdate_setFld s _ _ List.mem_cons_self (by decide)

theorem classAdmitted_classShown (s : State) (p n c : Nat) : classAdmitted (classShown s p n) p c = classAdmitted s p c := by
  have config (f : Fld) : fld (classShown s p n) (R.SPU_PCFG p) f = fld s (R.SPU_PCFG p) f :=
    (portUpdate_classShown s p n).fld (off := 0x40) (by decide) f
  rw [classAdmitted, config, config, classAdmitted]

/-- PORT shares no bit with CLASS. -/
theorem portSt_classShown (s : State) (p n : Nat) : portSt (classShown s p n) p = portSt s p :=
  fld_setFld_other s (R.SPU_PSTAT p) F.SPU_PSTAT_CLASS F.SPU_PSTAT_PORT n (by decide) (by decide) (.inl (by decide))

theorem sccpAttemptEnd_admitted (third : inStep s p.val 2 = true) {c : Fin 16} (admitted : classAdmitted s p.val c.val = true)
    (go : (portAt s p.val).stopReq = false) :
    ∃ t, exec (.sccpAttemptEnd p (some c)) s = .next t ∧ portSt t p.val = poPOWERUP ∧
      fld t (R.SPU_PSTAT p.val) F.SPU_PSTAT_CLASS = (c.val + 6) % 16 ∧ SameData s t := by
  let u := classShown s p.val ((c.val + 6) % 16)
  have shown : fld u (R.SPU_PSTAT p.val) F.SPU_PSTAT_CLASS = (c.val + 6) % 16 :=
    (fld_setFld_same s (R.SPU_PSTAT p.val) F.SPU_PSTAT_CLASS _ (by decide) (by decide)).trans (Nat.mod_mod _ _)
  have ends : sccpEnd s p.val (some c) = enterPort u p.val poPOWERUP :=
    (if_pos ((classAdmitted_classShown s _ _ _).trans admitted)).trans (stepEnds_go (s := u) go fun v => enterPort v p.val poPOWERUP)
  exact ⟨_, congrArg Host.Outcome.next ((if_pos third).trans ends), portSt_enterPort u p.val (by decide),
    (pstat_enterPort u p.val _ (by decide)).trans shown, (portUpdate_classShown s _ _).same.trans (portUpdate_enterPort u p.val _).same⟩

theorem sccpAttemptEnd_refused (third : inStep s p.val 2 = true) {c : Fin 16} (refused : classAdmitted s p.val c.val = false) :
    ∃ t, exec (.sccpAttemptEnd p (some c)) s = .next t ∧ ForcedOff p.val 5 s t := by
  let u := classShown s p.val ((c.val + 6) % 16)
  have shown : PortUpdate p.val [0x4C] s u := portUpdate_classShown s _ _
  have still : classAdmitted u p.val c.val = false := (classAdmitted_classShown s p.val _ c.val).trans refused
  have ends : sccpEnd s p.val (some c) = portFault u p.val 5 := if_neg (ne_true_of_eq_false still)
  exact ⟨_, congrArg Host.Outcome.next ((if_pos third).trans ends),
    (portFault_forcedOff u p (by decide)).after shown.same (shown.own 0x5C (by decide))⟩

/-- After the third attempt without a class the port waits for its next detection. -/
theorem sccpAttemptEnd_unread (third : inStep s p.val 2 = true) (go : (portAt s p.val).stopReq = false) :
    ∃ t, exec (.sccpAttemptEnd p none) s = .next t ∧ inStep t p.val (if (portAt s p.val).tries < 2 then 2 else 3) = true ∧ SameData s t := by
  let u := classShown s p.val 15
  let n := (portAt s p.val).tries + 1
  obtain ⟨classifies, -⟩ := (inStep_iff _ _ _).mp third
  have port : portSt u p.val = poCLASSIFY := (portSt_classShown s p.val 15).trans classifies
  have ends : sccpEnd s p.val none = if n < 3 then classifyStep u p.val 2 n else classifyStep u p.val 3 0 :=
    stepEnds_go (s := u) go fun v => if n < 3 then classifyStep v p.val 2 n else classifyStep v p.val 3 0
  have step (k m : Nat) : SameData s (classifyStep u p.val k m) :=
    (portUpdate_classShown s p.val 15).same.trans (portUpdate_setPort (p := p.val) (offs := []) u _).same
  refine ⟨_, congrArg Host.Outcome.next ((if_pos third).trans ends), ?_⟩
  by_cases more : (portAt s p.val).tries < 2
  · rw [if_pos more, if_pos (show n < 3 from Nat.succ_lt_succ more)]
    exact ⟨inStep_classifyStep port 2 n, step 2 n⟩
  · rw [if_neg more, if_neg (show ¬ n < 3 from fun h => more (Nat.lt_of_succ_lt_succ h))]
    exact ⟨inStep_classifyStep port 3 0, step 3 0⟩

end Sys2Proof.Machine
end

section
/-! SUPPORT. The commands of a spur port from POWER_UP to the end of its discharge (R270 to R273). -/

namespace Sys2Proof.Machine

open Sys2Proof.Safety

variable {s : State} {p : Fin 16}

/-! ## Power-up -/

theorem exec_powerUpTimeout (powers : portSt s p.val = poPOWERUP) :
    ∃ wait, exec (.powerUpTimeout p) s = .next (portFault (portTime s p.val wait) p.val 3) :=
  ⟨_, congrArg Host.Outcome.next (if_pos powers)⟩

theorem powerUpTimeout_forcedOff (powers : portSt s p.val = poPOWERUP) :
    ∃ t, exec (.powerUpTimeout p) s = .next t ∧ ForcedOff p.val 3 s t := by
  obtain ⟨wait, does⟩ := exec_powerUpTimeout powers
  exact ⟨_, does, waitedFault_forcedOff s p wait (by decide)⟩

/-- The port and its page show ON, and the port meter counts anew. -/
def onShown (s : State) (p : Nat) : State := portMeterPowerUp (setPageSt (enterPort s p poON) (spuPage p) fsON) p

/-- What follows of a port that is ON: the end of STARTING is raised, and the PHY starts. -/
def onStarted (s : State) (p : Nat) (starting : Bool) : State := phyStart (if starting then raiseBit s (spuPage p) 0 else s) p

theorem poweredUp_eq (s : State) (p : Nat) : ∃ x, poweredUp s p =
    onStarted (setPort (onShown s p) p x) p (pageSt s (spuPage p) == fsSTARTING) := ⟨_, rfl⟩

theorem portUpdate_meterPowerUp (s : State) (p : Nat) : PortUpdate p [0x194] s (portMeterPowerUp s p) :=
  have meter (x : PortMeter) : PortUpdate p [0x194] s (setPortMeter s p x) :=
    ⟨⟨fun _ => rfl, fun _ => rfl⟩, fun _ _ => rfl, fun _ _ _ => rfl⟩
  (meter _).trans (portUpdate_wr _ _ List.mem_cons_self (by decide))

theorem portUpdate_onStarted (s : State) (p : Nat) (starting : Bool) : PortUpdate p [0x10, 0x54] s (onStarted s p starting) := by
  have phy (u : State) : PortUpdate p [0x10, 0x54] u (phyStart u p) := (portUpdate_phyStart u p).mono (by simp)
  cases starting with
  | false => exact phy s
  | true => exact (portUpdate_raise s 0 List.mem_cons_self).trans (phy _)

theorem isr_onStarted (s : State) (p : Fin 16) : (rd (onStarted s p.val true) (R.PG_ISR (spuPage p.val))).getLsbD 0 = true := by
  have phy : rd _ (R.PG_ISR (spuPage p.val)) = rd (raiseBit s (spuPage p.val) 0) (R.PG_ISR (spuPage p.val)) :=
    (portUpdate_phyStart (raiseBit s (spuPage p.val) 0) p.val).own 0x10 (by decide)
  exact (congrArg (BitVec.getLsbD · 0) phy).trans (raiseBit_isr_bit s (spuPage_lt p) (by decide))

theorem powerUpReached_on (powers : portSt s p.val = poPOWERUP) :
    ∃ t, exec (.powerUpReached p) s = .next t ∧ portSt t p.val = poON ∧ pageSt t (spuPage p.val) = fsON ∧
      (pageSt s (spuPage p.val) = fsSTARTING → (rd t (R.PG_ISR (spuPage p.val))).getLsbD 0 = true) ∧
      rd t (R.SPU_PMR p.val) = rd s (R.SPU_PMRINIT p.val) ∧ SameData s t := by
  obtain ⟨x, up⟩ := poweredUp_eq s p.val
  have enters := portUpdate_enterPort s p.val poON
  have pages := portUpdate_setPageSt (enterPort s p.val poON) p.val fsON
  have meters : PortUpdate p.val [0x194] _ (onShown s p.val) := portUpdate_meterPowerUp _ p.val
  have starts := portUpdate_onStarted (setPort (onShown s p.val) p.val x) p.val (pageSt s (spuPage p.val) == fsSTARTING)
  have follows := (portUpdate_setPort (offs := [0x10, 0x54]) (onShown s p.val) x).trans starts
  refine ⟨_, congrArg Host.Outcome.next ((if_pos powers).trans up), ?_, ?_, fun starting => ?_, ?_,
    enters.same.trans (pages.same.trans (meters.same.trans follows.same))⟩
  · exact (follows.portSt (by decide)).trans ((meters.portSt (by decide)).trans ((pages.portSt (by decide)).trans
      (portSt_enterPort s p.val (by decide))))
  · exact (follows.pageSt (by decide)).trans ((meters.pageSt (by decide)).trans (pageSt_setPageSt _ (by decide) _))
  · rw [starting]
    exact isr_onStarted _ p
  · have init : rd _ (R.SPU_PMRINIT p.val) = rd s (R.SPU_PMRINIT p.val) :=
      (pages.own 0x18C (by decide)).trans (enters.own 0x18C (by decide))
    exact (follows.own 0x194 (by decide)).trans ((rd_wr_same _ (R.SPU_PMR p.val) _).trans init)

/-! ## Supervision (R272) -/

theorem portOverload_forcedOff (on : supervised s p.val = true) : ∃ t, exec (.portOverload p) s = .next t ∧ ForcedOff p.val 1 s t :=
  ⟨_, congrArg Host.Outcome.next (if_pos on), portFault_forcedOff s p (by decide)⟩

theorem portShort_forcedOff (on : supervised s p.val = true) : ∃ t, exec (.portShort p) s = .next t ∧ ForcedOff p.val 2 s t :=
  ⟨_, congrArg Host.Outcome.next (if_pos on), portFault_forcedOff s p (by decide)⟩

theorem exec_portDisconnect (on : supervised s p.val = true) : ∃ x, exec (.portDisconnect p) s =
    .next (raiseBit (setPort (causeRecorded (enterPort s p.val poDISCHARGE) p.val 7) p.val x) (spuPage p.val) 2) :=
  ⟨_, congrArg Host.Outcome.next (if_neg (by simp [on]))⟩

/-- A port whose station is gone discharges under ON. -/
theorem portDisconnect_discharges (on : supervised s p.val = true) :
    ∃ t, exec (.portDisconnect p) s = .next t ∧ portSt t p.val = poDISCHARGE ∧ fld t (R.SPU_PSTAT p.val) F.SPU_PSTAT_CAUSE = 7 ∧
      pageSt t (spuPage p.val) = pageSt s (spuPage p.val) ∧ (rd t (R.PG_ISR (spuPage p.val))).getLsbD 2 = true ∧ SameData s t := by
  obtain ⟨x, does⟩ := exec_portDisconnect on
  have enters := portUpdate_enterPort s p.val poDISCHARGE
  have records := portUpdate_causeRecorded (enterPort s p.val poDISCHARGE) p.val 7
  have raises := portUpdate_setPort_raise (causeRecorded (enterPort s p.val poDISCHARGE) p.val 7) p.val x 2
  refine ⟨_, does, ?_, ?_, ?_, raiseBit_isr_bit _ (spuPage_lt p) (by decide), enters.same.trans (records.same.trans raises.same)⟩
  · exact (raises.portSt (by decide)).trans ((portSt_causeRecorded _ _ 7).trans (portSt_enterPort s p.val (by decide)))
  · exact (raises.fld (off := 0x4C) (by decide) _).trans (cause_causeRecorded _ _ (by decide))
  · exact (raises.pageSt (by decide)).trans ((records.pageSt (by decide)).trans (pageSt_enterPort s p.val _))

/-- No supervision runs of a port that is not ON or delivers no power. -/
theorem unsupervised_ignored (off : supervised s p.val = false) :
    exec (.portOverload p) s = .next s ∧ exec (.portShort p) s = .next s ∧ exec (.portDisconnect p) s = .next s :=
  have not : ¬ supervised s p.val = true := ne_true_of_eq_false off
  ⟨congrArg Host.Outcome.next (if_neg not), congrArg Host.Outcome.next (if_neg not), congrArg Host.Outcome.next (if_pos (by simp [off]))⟩

/-! ## Cool-down and discharge -/

theorem exec_coolDownEnd (fault : portSt s p.val = poFAULT) :
    ∃ wait, exec (.coolDownEnd p) s = .next (enterPort (portTime s p.val wait) p.val poDISCHARGE) :=
  ⟨_, congrArg Host.Outcome.next (if_pos fault)⟩

theorem coolDownEnd_discharges (fault : portSt s p.val = poFAULT) :
    ∃ t, exec (.coolDownEnd p) s = .next t ∧ portSt t p.val = poDISCHARGE ∧ SameData s t := by
  obtain ⟨wait, does⟩ := exec_coolDownEnd fault
  exact ⟨_, does, portSt_enterPort _ p.val (by decide),
    (portUpdate_portTime (offs := []) s wait).same.trans (portUpdate_enterPort _ p.val poDISCHARGE).same⟩

/-- DIS_SLOW shows that a discharge has reached its limit. -/
def slowShown (s : State) (p : Nat) : State := setFld s (R.SPU_PSTAT p) F.SPU_PSTAT_DIS_SLOW 1

/-- The state that a discharge leads to. -/
def dischargedSt (s : State) (p : Nat) : Nat := if pageSt s (spuPage p) = fsON then poCLASSIFY else poOFF

theorem dischargeComplete_leaves (discharges : portSt s p.val = poDISCHARGE) (unlatched : flag s (R.PG_STATE (spuPage p.val)) F.PG_REARM = false) :
    ∃ t, exec (.dischargeComplete p) s = .next t ∧ portSt t p.val = dischargedSt s p.val ∧
      (pageSt s (spuPage p.val) ≠ fsON → pageSt t (spuPage p.val) = fsOFF) ∧ SameData s t := by
  obtain ⟨port, page, -, same⟩ := discharged_shown unlatched
  exact ⟨_, congrArg Host.Outcome.next (if_pos discharges), port, page, same⟩

theorem exec_dischargeLimit (discharges : portSt s p.val = poDISCHARGE) : ∃ wait, exec (.dischargeLimit p) s =
    .next (discharged (slowShown (portTime s p.val wait) p.val) p.val) :=
  ⟨_, congrArg Host.Outcome.next (if_pos discharges)⟩

theorem dischargeLimit_leaves (discharges : portSt s p.val = poDISCHARGE) (unlatched : flag s (R.PG_STATE (spuPage p.val)) F.PG_REARM = false) :
    ∃ t, exec (.dischargeLimit p) s = .next t ∧ portSt t p.val = dischargedSt s p.val ∧
      flag t (R.SPU_PSTAT p.val) F.SPU_PSTAT_DIS_SLOW = true ∧ SameData s t := by
  obtain ⟨wait, does⟩ := exec_dischargeLimit discharges
  have before : PortUpdate p.val [0x4C] s (slowShown (portTime s p.val wait) p.val) :=
    (portUpdate_portTime s wait).trans (portUpdate_setFld _ _ 1 List.mem_cons_self (by decide))
  have set : fld (slowShown (portTime s p.val wait) p.val) (R.SPU_PSTAT p.val) F.SPU_PSTAT_DIS_SLOW = 1 :=
    fld_setFld_same _ (R.SPU_PSTAT p.val) F.SPU_PSTAT_DIS_SLOW 1 (by decide) (by decide)
  obtain ⟨port, -, kept, same⟩ := discharged_shown ((before.flag (off := 0x08) (by decide) F.PG_REARM).trans unlatched)
  refine ⟨_, does, ?_, congrArg (· != 0) (kept.trans set), before.same.trans same⟩
  rw [port, before.pageSt (by decide), dischargedSt]

end Sys2Proof.Machine
end

section
/-! SUPPORT. The supervision of a rail group (R272), and the port states (R268, R270 to R273). -/

namespace Sys2Proof.Machine

open Sys2Proof.Safety

/-! ## The check of one port -/

/-- SPG_RAILV takes the voltage that a rail has been measured at. -/
def railMeasured (s : State) (g v : Nat) : State := setFld s R.SPG_RAILV (if g = 1 then F.SPG_RAILV_V1 else F.SPG_RAILV_V0) v

/-- Whether a rail stands under its limit. -/
def railLow (s : State) (g v : Nat) : Bool := decide (v < fld s R.SPG_RAILUV (if g = 1 then F.SPG_RAILUV_UV1 else F.SPG_RAILUV_UV0))

/-- A port that delivers power from a rail. -/
def onRail (s : State) (g p : Nat) : Prop := supervised s p = true ∧ fld s (R.SPU_PCFG p) F.SPU_PCFG_RAIL = g

/-- What a measurement of a rail does to one port. -/
def railStep (g : Nat) (low : Bool) (s : State) (p : Nat) : State :=
  if low && supervised s p && fld s (R.SPU_PCFG p) F.SPU_PCFG_RAIL == g then portFault s p 4 else s

section
variable {g p : Nat} {low : Bool} {s : State}

theorem railStep_faults (under : low = true) (on : onRail s g p) : railStep g low s p = portFault s p 4 := by
  obtain ⟨sup, rail⟩ := on
  exact if_pos (by simp [under, sup, rail])

theorem railStep_leaves (spared : ¬ (low = true ∧ onRail s g p)) : railStep g low s p = s :=
  if_neg (by simpa [onRail, and_assoc] using spared)

theorem portUpdate_railStep (g : Nat) (low : Bool) (s : State) (p : Nat) :
    PortUpdate p [0x04, 0x08, 0x10, 0x4C, 0x54, 0x58, 0x5C] s (railStep g low s p) := by
  unfold railStep
  split
  · exact portUpdate_portFault s p 4
  · exact PortUpdate.refl p _ s

end

/-- The checks of ports change neither memory, points nor the voltage shown. -/
theorem forAll_railStep_keeps (g : Nat) (low : Bool) {l : List Nat} (ports : ∀ q ∈ l, q < 16) (s : State) :
    SameData s (forAll (railStep g low) l s) ∧ rd (forAll (railStep g low) l s) R.SPG_RAILV = rd s R.SPG_RAILV := by
  induction l generalizing s with
  | nil => exact ⟨(PortUpdate.refl 0 [] s).same, rfl⟩
  | cons q l ih =>
    have lt : q < 16 := ports q List.mem_cons_self
    have step := portUpdate_railStep g low s q
    have shown : rd (railStep g low s q) R.SPG_RAILV = rd s R.SPG_RAILV := by
      refine step.elsewhere _ ?_ ?_
      · unfold R.SPG_RAILV regKey spuPage
        omega
      · unfold R.SPG_RAILV R.EVT_PEND regKey spuPage
        omega
    obtain ⟨data, still⟩ := ih (fun r hr => ports r (List.mem_cons_of_mem q hr)) (railStep g low s q)
    exact ⟨step.same.trans data, still.trans shown⟩

/-! ## The registers of one port -/

/-- The registers of a port. -/
def portRegs (p : Nat) (s : State) : Fin 0x1000 → Word := fun off => rd s (portReg p off.val)

/-- The update of one port leaves the registers of the others. -/
theorem PortUpdate.portRegs_ne {p q : Nat} {offs : List Nat} {s t : State} (h : PortUpdate q offs s t) (hp : p < 16) (hq : q < 16)
    (other : q ≠ p) : portRegs p t = portRegs p s := by
  funext off
  refine h.elsewhere _ (fun page => other ?_) ?_
  · unfold portReg regKey spuPage at page
    omega
  · unfold portReg R.EVT_PEND regKey spuPage
    omega

section
variable {s t : State} {g p : Nat} (same : portRegs p t = portRegs p s)
include same

theorem fld_of_portRegs (off : Fin 0x1000) (f : Fld) : fld t (portReg p off.val) f = fld s (portReg p off.val) f :=
  congrArg (bits · f.hi f.lo) (congrFun same off)

theorem onRail_of_portRegs : onRail t g p ↔ onRail s g p := by
  have port : portSt t p = portSt s p := fld_of_portRegs same 0x4C _
  have config (f : Fld) : fld t (R.SPU_PCFG p) f = fld s (R.SPU_PCFG p) f := fld_of_portRegs same 0x40 f
  rw [onRail, onRail, supervised_iff, supervised_iff, port, podl, podl, flag, flag, config, config]

end

/-- A fault is seen in its port's registers alone. -/
theorem ForcedOff.of_portRegs {p cause : Nat} {s t u w : State} (h : ForcedOff p cause u w) (before : portRegs p u = portRegs p s)
    (after : portRegs p t = portRegs p w) (data : SameData s t) : ForcedOff p cause s t := by
  obtain ⟨port, shown, en, page, link, event, count, -⟩ := h
  have isr : rd t (R.PG_ISR (spuPage p)) = rd w (R.PG_ISR (spuPage p)) := congrFun after 0x10
  have was : rd u (R.SPU_FCNT p) = rd s (R.SPU_FCNT p) := congrFun before 0x5C
  have is : rd t (R.SPU_FCNT p) = rd w (R.SPU_FCNT p) := congrFun after 0x5C
  exact ⟨(fld_of_portRegs after 0x4C _).trans port, (fld_of_portRegs after 0x4C _).trans shown,
    (congrArg (· != 0) (fld_of_portRegs after 0x04 _)).trans en, (fld_of_portRegs after 0x08 _).trans page,
    (fld_of_portRegs after 0x54 _).trans link, isr ▸ event, by rw [is, count, was], data⟩

/-! ## The measurement -/

/-- The ports after a measurement of a rail. -/
def railChecked (s : State) (g v : Nat) : State := forAll (railStep g (railLow (railMeasured s g v) g v)) (upTo 16) (railMeasured s g v)

theorem exec_railUndervoltage (s : State) (g : Fin 2) (v : BitVec 16) :
    exec (.railUndervoltage g v) s = .next (railChecked s g.val v.toNat) := rfl

section
variable (s : State) (g v : Nat)

theorem railLow_railMeasured : railLow (railMeasured s g v) g v = railLow s g v := by
  rw [railLow, railMeasured, fld_setFld_ne _ _ _ _ (by decide), railLow]

theorem volt_railMeasured (v : BitVec 16) :
    fld (railMeasured s g v.toNat) R.SPG_RAILV (if g = 1 then F.SPG_RAILV_V1 else F.SPG_RAILV_V0) = v.toNat := by
  unfold railMeasured
  split
  · exact (fld_setFld_same s _ F.SPG_RAILV_V1 _ (by decide) (by decide)).trans (Nat.mod_eq_of_lt v.isLt)
  · exact (fld_setFld_same s _ F.SPG_RAILV_V0 _ (by decide) (by decide)).trans (Nat.mod_eq_of_lt v.isLt)

theorem portRegs_railMeasured (p : Nat) : portRegs p (railMeasured s g v) = portRegs p s := by
  funext off
  refine rd_setFld_ne s _ _ ?_
  unfold portReg R.SPG_RAILV regKey
  omega

/-- The checks of the ports change neither memory, points nor the voltage shown. -/
theorem railChecked_keeps : SameData (railMeasured s g v) (railChecked s g v) ∧
    rd (railChecked s g v) R.SPG_RAILV = rd (railMeasured s g v) R.SPG_RAILV :=
  forAll_railStep_keeps g _ (fun _ hq => List.mem_range.mp hq) _

/-- Each port stands as its own check leaves it. -/
theorem portRegs_railChecked (p : Fin 16) : ∃ u, portRegs p.val u = portRegs p.val s ∧
    portRegs p.val (railChecked s g v) = portRegs p.val (railStep g (railLow s g v) u p.val) := by
  obtain ⟨u, before, after⟩ := forAll_view (f := railStep g (railLow (railMeasured s g v) g v)) (view := portRegs p.val) List.nodup_range
    (List.mem_range.mpr p.isLt)
    (fun t q hq other => (portUpdate_railStep g _ t q).portRegs_ne p.isLt (List.mem_range.mp hq) other) (railMeasured s g v)
  rw [railLow_railMeasured] at after
  exact ⟨u, before.trans (portRegs_railMeasured s g v p.val), by rw [railChecked, railLow_railMeasured]; exact after⟩

end

/-- A rail under its limit forces the ports off that it feeds. -/
theorem railUndervoltage_forces (s : State) (p : Fin 16) (g : Fin 2) (v : BitVec 16) :
    ∃ t, exec (.railUndervoltage g v) s = .next t ∧
      fld t R.SPG_RAILV (if g.val = 1 then F.SPG_RAILV_V1 else F.SPG_RAILV_V0) = v.toNat ∧ SameData s t ∧
      (railLow s g.val v.toNat = true ∧ onRail s g.val p.val → ForcedOff p.val 4 s t) ∧
      (¬ (railLow s g.val v.toNat = true ∧ onRail s g.val p.val) → portSt t p.val = portSt s p.val) := by
  obtain ⟨data, shown⟩ := railChecked_keeps s g.val v.toNat
  obtain ⟨u, before, after⟩ := portRegs_railChecked s g.val v.toNat p
  have fed : onRail u g.val p.val ↔ onRail s g.val p.val := onRail_of_portRegs before
  have same : SameData s (railChecked s g.val v.toNat) := SameData.trans ⟨fun _ => rfl, fun _ => rfl⟩ data
  refine ⟨_, exec_railUndervoltage s g v, ?_, same, fun forced => ?_, fun spared => ?_⟩
  · rw [fld, shown]
    exact volt_railMeasured s g.val v
  · obtain ⟨under, on⟩ := forced
    rw [railStep_faults under (fed.mpr on)] at after
    exact (portFault_forcedOff u p (by decide)).of_portRegs before after same
  · rw [railStep_leaves (by rw [fed]; exact spared)] at after
    exact fld_of_portRegs (after.trans before) 0x4C _

/-- What a measurement does to a port, as one choice. -/
theorem railUndervoltage_checks (s : State) (p : Fin 16) (g : Fin 2) (v : BitVec 16) :
    ∃ t, exec (.railUndervoltage g v) s = .next t ∧
      fld t R.SPG_RAILV (if g.val = 1 then F.SPG_RAILV_V1 else F.SPG_RAILV_V0) = v.toNat ∧ SameData s t ∧
      (if v.toNat < fld s R.SPG_RAILUV (if g.val = 1 then F.SPG_RAILUV_UV1 else F.SPG_RAILUV_UV0) ∧ supervised s p.val = true ∧
          fld s (R.SPU_PCFG p.val) F.SPU_PCFG_RAIL = g.val
        then ForcedOff p.val 4 s t else portSt t p.val = portSt s p.val) := by
  obtain ⟨t, does, shown, same, forces, spares⟩ := railUndervoltage_forces s p g v
  exact ⟨t, does, shown, same, ite_prop_iff_and.mpr
    ⟨fun ⟨under, on⟩ => forces ⟨decide_eq_true under, on⟩, fun spared => spares fun ⟨under, on⟩ => spared ⟨of_decide_eq_true under, on⟩⟩⟩

/-! ## The port states -/

/-- Settles O47: each command of a port by the step that it takes. A link that is lost negotiates, or trains where the mode is forced (log
entry 24). -/
theorem portsFollowTheirStates : Obligations.PortsFollowTheirStates := by
  unfold Obligations.PortsFollowTheirStates
  intro s p
  refine ⟨fun first => ⟨quietCheckEnd_quiet first, quietCheckEnd_backfed first, quietCheckEnd_stops first⟩,
    fun v => detectionResult_steps v, detectionRetry_restarts,
    fun third => ⟨fun c => ⟨sccpAttemptEnd_admitted third, sccpAttemptEnd_refused third⟩, sccpAttemptEnd_unread third⟩,
    fun powers => ⟨powerUpReached_on powers, powerUpTimeout_forcedOff powers⟩,
    fun on => ⟨portOverload_forcedOff on, portShort_forcedOff on, portDisconnect_discharges on⟩,
    unsupervised_ignored, railUndervoltage_checks s p, coolDownEnd_discharges,
    fun discharges unlatched => ⟨dischargeComplete_leaves discharges unlatched, dischargeLimit_leaves discharges unlatched⟩,
    phyLinkUp_shown, phyLinkDown_counts⟩

end Sys2Proof.Machine
end

section
/-! SUPPORT. The registers, the statistics and the hidden state of a host MAC, and what updates of a MAC leave (R299 to R305). -/

namespace Sys2Proof.Machine

open Sys2Proof.Safety

/-! ## Keys -/

/-- The key of a host MAC's register at an offset of its page. -/
abbrev macReg (m off : Nat) : Nat := regKey (0x78 + m) off 0

theorem hmPage_lt (m : Fin 6) : hmPage m.val < 0x100 := by
  unfold hmPage
  omega

theorem macReg_inj {m o o' : Nat} (h : macReg m o = macReg m o') : o = o' := by
  unfold macReg regKey at h
  omega

/-- No register of a MAC is the pending word of its page's events. -/
theorem macReg_ne_EVT_PEND (m off : Nat) : macReg m off ≠ R.EVT_PEND (hmPage m / 32) := by
  unfold macReg R.EVT_PEND regKey hmPage
  omega

theorem HM_CNT_inj {m k n : Nat} (h : R.HM_CNT m k = R.HM_CNT m n) : k = n := by
  have offsets : 0x200 + 0x4 * k = 0x200 + 0x4 * n := macReg_inj h
  omega

/-- A statistics counter is no register below the counters. -/
theorem HM_CNT_ne {m off : Nat} (below : off < 0x200) (n : Nat) : R.HM_CNT m n ≠ macReg m off := fun h => by
  have offsets : 0x200 + 0x4 * n = off := macReg_inj h
  omega

/-! ## The frame of a MAC's updates -/

/-- An update of a MAC: of the statistics it changes only the counters of a list, of the registers before them none but PG_ISR, and it moves
neither memory nor points. -/
structure MacUpdate (m : Nat) (cs : List Nat) (s t : State) : Prop where
  same : SameData s t
  config : ∀ off, off < 0xC0 → off ≠ 0x10 → rd t (macReg m off) = rd s (macReg m off)
  counts : ∀ n, n ∉ cs → rd t (R.HM_CNT m n) = rd s (R.HM_CNT m n)

section
variable {s t u : State} {m : Nat} {cs : List Nat}

theorem MacUpdate.refl (m : Nat) (cs : List Nat) (s : State) : MacUpdate m cs s s :=
  ⟨⟨fun _ => rfl, fun _ => rfl⟩, fun _ _ _ => rfl, fun _ _ => rfl⟩

theorem MacUpdate.trans (h : MacUpdate m cs s t) (k : MacUpdate m cs t u) : MacUpdate m cs s u where
  same := h.same.trans k.same
  config off low isr := (k.config off low isr).trans (h.config off low isr)
  counts n out := (k.counts n out).trans (h.counts n out)

theorem MacUpdate.mono {wide : List Nat} (h : MacUpdate m cs s t) (sub : cs ⊆ wide) : MacUpdate m wide s t :=
  { h with counts := fun n out => h.counts n fun mem => out (sub mem) }

theorem MacUpdate.pageSt (h : MacUpdate m cs s t) : pageSt t (hmPage m) = Machine.pageSt s (hmPage m) :=
  congrArg (bits · 1 0) (h.config 0x08 (by decide) (by decide))

theorem macUpdate_setHost (s : State) (x : HostMac) : MacUpdate m cs s (setHost s m x) :=
  ⟨⟨fun _ => rfl, fun _ => rfl⟩, fun _ _ _ => rfl, fun _ _ => rfl⟩

theorem rd_raiseBit_mac (s : State) {off : Nat} (n : Nat) (isr : off ≠ 0x10) :
    rd (raiseBit s (hmPage m) n) (macReg m off) = rd s (macReg m off) :=
  rd_raiseBit_ne s (fun e => isr (macReg_inj e)) (macReg_ne_EVT_PEND m off)

theorem sameData_raiseBit (s : State) (page n : Nat) : SameData s (raiseBit s page n) :=
  ⟨sameBytes_of_regsAndEvents (regsAndEvents_raiseBit (ks := [R.PG_ISR page]) s n List.mem_cons_self),
    samePoints_of_points (raiseBit_points s page n)⟩

theorem macUpdate_raise (s : State) (n : Nat) : MacUpdate m cs s (raiseBit s (hmPage m) n) where
  same := sameData_raiseBit s (hmPage m) n
  config _ _ isr := rd_raiseBit_mac s n isr
  counts k _ := rd_raiseBit_mac s (off := 0x200 + 0x4 * k) n (by omega)

/-- A write between the configuration and the counters. -/
theorem macUpdate_wr (s : State) {off : Nat} (v : Word) (high : 0xC0 ≤ off) (below : off < 0x200) : MacUpdate m cs s (wr s (macReg m off) v) where
  same := ⟨fun _ => rfl, fun _ => rfl⟩
  config _ low _ := rd_wr_ne s v fun e => by have := macReg_inj e; omega
  counts n _ := rd_wr_ne s v (HM_CNT_ne below n)

theorem macUpdate_bump (s : State) {n : Nat} (add : Nat) (mem : n ∈ cs) : MacUpdate m cs s (bump s (R.HM_CNT m n) add) where
  same := ⟨fun _ => rfl, fun _ => rfl⟩
  config _ low _ := rd_wr_ne s _ (HM_CNT_ne (by omega) n).symm
  counts _ out := rd_wr_ne s _ fun e => out (HM_CNT_inj e ▸ mem)

end

/-! ## Statistics (R304) -/

section
variable (s : State) (m n add : Nat)

/-- A count adds to its counter; where it crosses half range, a mark and an event follow. -/
theorem hmCount_cases : hmCount s m n add = bump s (R.HM_CNT m n) add ∨
    ∃ off v, 0xC0 ≤ off ∧ off < 0x200 ∧
      hmCount s m n add = raiseBit (wr (bump s (R.HM_CNT m n) add) (macReg m off) v) (hmPage m) 4 := by
  unfold hmCount
  dsimp only
  split
  · refine .inr ?_
    by_cases first : n < 32
    · exact ⟨0xC0, _, by decide, by decide, by rw [if_pos first]; rfl⟩
    · exact ⟨0xC4, _, by decide, by decide, by rw [if_neg first]; rfl⟩
  · exact .inl rfl

/-- After the addition a count changes no counter. -/
theorem macUpdate_bump_hmCount : MacUpdate m [] (bump s (R.HM_CNT m n) add) (hmCount s m n add) := by
  obtain plain | ⟨off, v, high, below, crossed⟩ := hmCount_cases s m n add
  · rw [plain]
    exact MacUpdate.refl m _ _
  · rw [crossed]
    exact (macUpdate_wr _ v high below).trans (macUpdate_raise _ 4)

theorem rd_hmCount_same : rd (hmCount s m n add) (R.HM_CNT m n) = rd s (R.HM_CNT m n) + BitVec.ofNat 32 add :=
  ((macUpdate_bump_hmCount s m n add).counts n List.not_mem_nil).trans (rd_wr_same _ _ _)

@[simp] theorem hmCount_hosts : (hmCount s m n add).hosts = s.hosts := by
  obtain plain | ⟨off, v, -, -, crossed⟩ := hmCount_cases s m n add
  · rw [plain, bump_hosts]
  · rw [crossed, raiseBit_hosts, wr_hosts, bump_hosts]

variable {n} {cs : List Nat}

theorem macUpdate_hmCount (mem : n ∈ cs) : MacUpdate m cs s (hmCount s m n add) :=
  (macUpdate_bump s add mem).trans ((macUpdate_bump_hmCount s m n add).mono (List.nil_subset cs))

theorem rd_hmCount_ne {k : Nat} (h : k ≠ n) : rd (hmCount s m n add) (R.HM_CNT m k) = rd s (R.HM_CNT m k) :=
  (macUpdate_hmCount s m add (cs := [n]) List.mem_cons_self).counts k (by simpa using h)

end

/-- A frame is entered in the counters from `first`: its octets, the frame, its destination's class and its size. -/
def tallied (s : State) (m first len : Nat) (mac : List Byte) (size : Nat) : State :=
  hmCount (hmCount (hmCount (hmCount s m first len) m (first + 1) 1) m (first + 2 + macClass mac) 1) m size 1

theorem le_sizeBucket (first len : Nat) (rx : Bool) : first ≤ sizeBucket first len rx := Nat.le_add_right _ _

section
variable (s : State) (m first len : Nat) (mac : List Byte) {size : Nat}

theorem macUpdate_tallied : MacUpdate m [first, first + 1, first + 2 + macClass mac, size] s (tallied s m first len mac size) :=
  (((macUpdate_hmCount s m _ (by simp)).trans (macUpdate_hmCount _ m _ (by simp))).trans (macUpdate_hmCount _ m _ (by simp))).trans
    (macUpdate_hmCount _ m _ (by simp))

theorem tallied_hosts : (tallied s m first len mac size).hosts = s.hosts := by simp only [tallied, hmCount_hosts]

variable (bucket : first + 2 ≤ size)
include bucket

theorem octets_tallied : rd (tallied s m first len mac size) (R.HM_CNT m first) = rd s (R.HM_CNT m first) + BitVec.ofNat 32 len := by
  rw [tallied, rd_hmCount_ne _ _ _ (by omega), rd_hmCount_ne _ _ _ (by omega), rd_hmCount_ne _ _ _ (by omega), rd_hmCount_same]

theorem frames_tallied : rd (tallied s m first len mac size) (R.HM_CNT m (first + 1)) = rd s (R.HM_CNT m (first + 1)) + 1 := by
  rw [tallied, rd_hmCount_ne _ _ _ (by omega), rd_hmCount_ne _ _ _ (by omega), rd_hmCount_same, rd_hmCount_ne _ _ _ (by omega)]
  rfl

end

/-! ## The hidden state -/

@[simp] theorem hostAt_setHost_same (s : State) (m : Nat) (x : HostMac) : hostAt (setHost s m x) m = x := tget_tput_same _ _ _

theorem hostAt_of_hosts {s t : State} (h : t.hosts = s.hosts) (m : Nat) : hostAt t m = hostAt s m := by rw [hostAt, hostAt, h]

theorem hostAt_hmCount (s : State) (m n add : Nat) : hostAt (hmCount s m n add) m = hostAt s m := hostAt_of_hosts (hmCount_hosts s m n add) m

theorem hmQueue_of_queues {s t : State} {m : Nat} (h : (hostAt t m).queues = (hostAt s m).queues) (q : Nat) : hmQueue t m q = hmQueue s m q := by
  rw [hmQueue, hmQueue, h]

theorem hmQueue_setHmQueue_same (s : State) (m q : Nat) (l : List TxFrame) : hmQueue (setHmQueue s m q l) m q = l := by
  rw [hmQueue, setHmQueue, hostAt_setHost_same, tget_tput_same]

/-- A frame that finds room on a queue of a MAC that is ON is placed at its end (R303). -/
theorem hmSend_placed {s : State} {m q : Nat} (on : pageSt s (hmPage m) = 2) (room : (hmQueue s m q).length < 64) (f : TxFrame) :
    hmSend s m q f = setHmQueue s m q (hmQueue s m q ++ [f]) := if_pos ⟨on, room⟩

theorem macUpdate_hmSend (s : State) (m q : Nat) (f : TxFrame) : MacUpdate m [38] s (hmSend s m q f) := by
  unfold hmSend
  split
  · exact macUpdate_setHost s _
  · exact (macUpdate_hmCount s m 1 List.mem_cons_self).trans (macUpdate_raise _ 2)

/-- A stamp is placed in one of the FIFOs, or is dropped with an event (R305). -/
theorem ptpPush_cases (s : State) (m : Nat) (tx : Bool) (x : PtpStamp) :
    (∃ rx tx', ptpPush s m tx x = setHost s m { hostAt s m with rx := rx, tx := tx' }) ∨ ptpPush s m tx x = raiseBit s (hmPage m) 5 := by
  by_cases room : (if tx then (hostAt s m).tx else (hostAt s m).rx).length < 16
  · refine .inl ?_
    rw [ptpPush, if_pos room]
    cases tx
    · exact ⟨_, _, rfl⟩
    · exact ⟨_, _, rfl⟩
  · exact .inr (if_neg room)

theorem macUpdate_ptpPush {cs : List Nat} (s : State) (m : Nat) (tx : Bool) (x : PtpStamp) : MacUpdate m cs s (ptpPush s m tx x) := by
  obtain ⟨rx, tx', pushed⟩ | dropped := ptpPush_cases s m tx x
  · rw [pushed]
    exact macUpdate_setHost s _
  · rw [dropped]
    exact macUpdate_raise s 5

/-- Beside the FIFOs a stamp changes nothing of a MAC. -/
theorem hostAt_ptpPush (s : State) (m : Nat) (tx : Bool) (x : PtpStamp) :
    ∃ rx tx', hostAt (ptpPush s m tx x) m = { hostAt s m with rx := rx, tx := tx' } := by
  obtain ⟨rx, tx', pushed⟩ | dropped := ptpPush_cases s m tx x
  · exact ⟨rx, tx', by rw [pushed, hostAt_setHost_same]⟩
  · exact ⟨_, _, by rw [dropped, hostAt_of_hosts (raiseBit_hosts s _ 5)]⟩

end Sys2Proof.Machine
end

section
/-! SUPPORT. Frames that a host MAC receives (R301, R302, R304). -/

namespace Sys2Proof.Machine

open Sys2Proof.Safety

/-! ## Good frames -/

/-- A good frame in the statistics. -/
def frameCounted (s : State) (m : Nat) (x : HostFrame) : State :=
  let r := tallied s m 0 (x.bytes.length + 4) (x.bytes.take 6) (sizeBucket 5 (x.bytes.length + 4) true)
  if tagged x.bytes then hmCount r m 19 1 else r

section
variable (s : State) (m : Nat) (x : HostFrame)

/-- A tag is counted after the frame itself. -/
theorem macUpdate_tag : MacUpdate m [19] (tallied s m 0 (x.bytes.length + 4) (x.bytes.take 6) (sizeBucket 5 (x.bytes.length + 4) true))
    (frameCounted s m x) := by
  unfold frameCounted
  dsimp only
  split
  · exact macUpdate_hmCount _ m 1 List.mem_cons_self
  · exact MacUpdate.refl m _ _

theorem sameData_frameCounted : SameData s (frameCounted s m x) := (macUpdate_tallied s m 0 _ _).same.trans (macUpdate_tag s m x).same

theorem pageSt_frameCounted : pageSt (frameCounted s m x) (hmPage m) = pageSt s (hmPage m) :=
  (macUpdate_tag s m x).pageSt.trans (macUpdate_tallied s m 0 _ _).pageSt

theorem hostAt_frameCounted : hostAt (frameCounted s m x) m = hostAt s m := by
  refine hostAt_of_hosts ?_ m
  unfold frameCounted
  dsimp only
  split
  · rw [hmCount_hosts, tallied_hosts]
  · exact tallied_hosts s m 0 _ _

theorem hmQueue_frameCounted (q : Nat) : hmQueue (frameCounted s m x) m q = hmQueue s m q :=
  hmQueue_of_queues (by rw [hostAt_frameCounted]) q

theorem octets_frameCounted : rd (frameCounted s m x) (R.HM_CNT m 0) = rd s (R.HM_CNT m 0) + BitVec.ofNat 32 (x.bytes.length + 4) :=
  ((macUpdate_tag s m x).counts 0 (by decide)).trans (octets_tallied s m 0 _ _ (Nat.le_trans (by decide) (le_sizeBucket 5 _ true)))

theorem frames_frameCounted : rd (frameCounted s m x) (R.HM_CNT m 1) = rd s (R.HM_CNT m 1) + 1 :=
  ((macUpdate_tag s m x).counts 1 (by decide)).trans (frames_tallied s m 0 _ _ (Nat.le_trans (by decide) (le_sizeBucket 5 _ true)))

theorem nrapCount_frameCounted : rd (frameCounted s m x) (R.HM_CNT m 23) = rd s (R.HM_CNT m 23) := by
  refine ((macUpdate_tag s m x).counts 23 (by decide)).trans ((macUpdate_tallied s m 0 _ _).counts 23 ?_)
  have classes : macClass (x.bytes.take 6) ≤ 2 := by
    unfold macClass
    split
    · exact Nat.le_refl 2
    · split <;> omega
  have sizes : sizeBucket 5 (x.bytes.length + 4) true ≤ 11 := by
    unfold sizeBucket
    split_ifs <;> omega
  simp only [List.mem_cons, List.not_mem_nil, or_false, not_or]
  omega

/-! ## What a good frame carries -/

theorem hostTakes_nrap (d : Datagram) : hostTakes s m x (.nrap d) =
    hmCount (setHost (frameCounted s m x) m { hostAt (frameCounted s m x) m with inbox := (hostAt (frameCounted s m x) m).inbox ++ [d] }) m 23 1 :=
  rfl

theorem hostTakes_request (mac : List Byte) (ip : Word) :
    hostTakes s m x (.arp mac ip true) = hmSend (frameCounted s m x) m 1 { kind := 0, mac := mac, ip := ip, port := 0, data := [] } := rfl

/-- After it is counted, a good frame is taken by its kind: it may place an answer on a queue, a datagram for the front end, or a stamp. -/
theorem macUpdate_hostTakes (k : HostKind) : MacUpdate m [22, 23, 38] (frameCounted s m x) (hostTakes s m x k) := by
  have answered (f : TxFrame) : MacUpdate m [22, 23, 38] (frameCounted s m x) (hmSend (frameCounted s m x) m 1 f) :=
    (macUpdate_hmSend _ m 1 f).mono (by simp)
  cases k with
  | arp mac ip request =>
    cases request with
    | false => exact MacUpdate.refl m _ _
    | true => exact answered _
  | echo ip data => exact answered _
  | nrap d => exact (macUpdate_setHost _ _).trans (macUpdate_hmCount _ m 1 (by simp))
  | ptp data =>
    unfold hostTakes
    dsimp only
    split
    · exact (macUpdate_hmCount _ m 1 (by simp)).trans (macUpdate_ptpPush _ m false _)
    · exact MacUpdate.refl m _ _

theorem inbox_hostTakes (d : Datagram) : (hostAt (hostTakes s m x (.nrap d)) m).inbox = (hostAt s m).inbox ++ [d] := by
  rw [hostTakes_nrap, hostAt_hmCount, hostAt_setHost_same, hostAt_frameCounted]

theorem nrapCount_hostTakes (d : Datagram) : rd (hostTakes s m x (.nrap d)) (R.HM_CNT m 23) = rd s (R.HM_CNT m 23) + 1 := by
  rw [hostTakes_nrap, rd_hmCount_same]
  exact congrArg (· + 1) (nrapCount_frameCounted s m x)

end

/-- An ARP request for a MAC that is ON places its reply on queue 1. -/
theorem queue_hostTakes {s : State} {m : Nat} (on : pageSt s (hmPage m) = 2) (room : (hmQueue s m 1).length < 64) (x : HostFrame) (mac : List Byte)
    (ip : Word) : hmQueue (hostTakes s m x (.arp mac ip true)) m 1 = hmQueue s m 1 ++ [{ kind := 0, mac := mac, ip := ip, port := 0, data := [] }] := by
  rw [hostTakes_request, hmSend_placed ((pageSt_frameCounted s m x).trans on) (by rwa [hmQueue_frameCounted]), hmQueue_setHmQueue_same,
    hmQueue_frameCounted]

/-! ## The receiver -/

section
variable {s : State} {m : Nat} {x : HostFrame}

theorem hostFrameReceived_ignored (h : pageSt s (hmPage m) ≠ 2 ∨ hmUp s m = false) : hostFrameReceived s m x = s :=
  if_pos (by simpa using h)

variable (on : pageSt s (hmPage m) = 2) (up : hmUp s m = true)
include on up

theorem receiverRuns : ¬ (pageSt s (hmPage m) ≠ 2 ∨ (!hmUp s m) = true) := by simp [on, up]

theorem hostFrameReceived_oversize (e : frameError x (fld s (R.HM_CFG m) F.HM_CFG_MAXLEN) = some 16) :
    hostFrameReceived s m x = raiseBit (hmCount (if x.fcsOk then s else hmCount s m 12 1) m 16 1) (hmPage m) 3 := by
  rw [hostFrameReceived, if_neg (receiverRuns on up), e]
  rfl

theorem hostFrameReceived_errored {n : Nat} (e : frameError x (fld s (R.HM_CFG m) F.HM_CFG_MAXLEN) = some n) (h : n ≠ 16) :
    hostFrameReceived s m x = hmCount s m n 1 := by
  rw [hostFrameReceived, if_neg (receiverRuns on up), e]
  split
  next is16 => exact absurd (Option.some.inj is16) h
  next is => rw [Option.some.inj is]
  next is => exact absurd is (Option.some_ne_none n)

variable (good : frameError x (fld s (R.HM_CFG m) F.HM_CFG_MAXLEN) = none) (plain : isPause x.bytes = false)
include good plain

theorem hostFrameReceived_overflow (full : x.overflow = true) : hostFrameReceived s m x = hmCount s m 20 1 := by
  rw [hostFrameReceived, if_neg (receiverRuns on up), good]
  simp only [plain, full, Bool.false_eq_true, if_false, if_true]

variable (room : x.overflow = false)
include room

theorem hostFrameReceived_filtered (refused : hostAccepts s m x.bytes = none) : hostFrameReceived s m x = hmCount s m 21 1 := by
  rw [hostFrameReceived, if_neg (receiverRuns on up), good]
  simp only [plain, room, refused, Bool.false_eq_true, if_false]

theorem hostFrameReceived_taken {k : HostKind} (accepted : hostAccepts s m x.bytes = some k) : hostFrameReceived s m x = hostTakes s m x k := by
  rw [hostFrameReceived, if_neg (receiverRuns on up), good]
  simp only [plain, room, accepted, Bool.false_eq_true, if_false]

end

/-! ## HOST_FRAME_RECEIVED -/

/-- A frame that is only counted: one counter of its MAC is one up. -/
structure CountedAlone (m n : Nat) (s t : State) : Prop where
  count : rd t (R.HM_CNT m n) = rd s (R.HM_CNT m n) + 1
  same : SameData s t
  host : hostAt t m = hostAt s m

theorem hmCount_countedAlone (s : State) (m n : Nat) : CountedAlone m n s (hmCount s m n 1) :=
  ⟨rd_hmCount_same s m n 1, (macUpdate_hmCount s m 1 (cs := [n]) List.mem_cons_self).same, hostAt_hmCount s m n 1⟩

/-- An event leaves the count as it is. -/
theorem CountedAlone.raiseBit {m n : Nat} {s t : State} (h : CountedAlone m n s t) (c : Nat) : CountedAlone m n s (raiseBit t (hmPage m) c) :=
  have event : MacUpdate m [] t (Machine.raiseBit t (hmPage m) c) := macUpdate_raise t c
  ⟨(event.counts n List.not_mem_nil).trans h.count, h.same.trans event.same, (hostAt_of_hosts (raiseBit_hosts t _ c) m).trans h.host⟩

/-- The FCS error of an oversize frame is counted before its length. -/
theorem CountedAlone.after_hmCount {m n c : Nat} {s t : State} (h : CountedAlone m n (hmCount s m c 1) t) (other : n ≠ c) : CountedAlone m n s t where
  count := by rw [h.count, rd_hmCount_ne s m 1 other]
  same := (hmCount_countedAlone s m c).same.trans h.same
  host := h.host.trans (hostAt_hmCount s m c 1)

section
variable {s : State} {m : Fin 6} {x : HostFrame} (on : pageSt s (hmPage m.val) = 2) (up : hmUp s m.val = true)
include on up

theorem oversize_counted (e : frameError x (fld s (R.HM_CFG m.val) F.HM_CFG_MAXLEN) = some 16) :
    CountedAlone m.val 16 s (hostFrameReceived s m.val x) ∧ (rd (hostFrameReceived s m.val x) (R.PG_ISR (hmPage m.val))).getLsbD 3 = true := by
  rw [hostFrameReceived_oversize on up e]
  refine ⟨CountedAlone.raiseBit ?_ 3, raiseBit_isr_bit _ (hmPage_lt m) (by decide)⟩
  cases x.fcsOk with
  | true => exact hmCount_countedAlone s m.val 16
  | false => exact (hmCount_countedAlone _ m.val 16).after_hmCount (by decide)

/-- A frame with an error is counted where R304 counts its error; an oversize one raises its event. -/
theorem hostFrameReceived_countsError {n : Nat} (e : frameError x (fld s (R.HM_CFG m.val) F.HM_CFG_MAXLEN) = some n) :
    ∃ t, exec (.hostFrameReceived m x) s = .next t ∧ rd t (R.HM_CNT m.val n) = rd s (R.HM_CNT m.val n) + 1 ∧
      (n = 16 → (rd t (R.PG_ISR (hmPage m.val))).getLsbD 3 = true) ∧ SameData s t ∧ hostAt t m.val = hostAt s m.val := by
  by_cases oversize : n = 16
  · subst oversize
    obtain ⟨⟨count, same, host⟩, event⟩ := oversize_counted on up e
    exact ⟨_, rfl, count, fun _ => event, same, host⟩
  · obtain ⟨count, same, host⟩ := hmCount_countedAlone s m.val n
    exact ⟨_, congrArg Host.Outcome.next (hostFrameReceived_errored on up e oversize), count, fun h => absurd h oversize, same, host⟩

variable (good : frameError x (fld s (R.HM_CFG m.val) F.HM_CFG_MAXLEN) = none) (plain : isPause x.bytes = false)
include good plain

theorem hostFrameReceived_countsOverflow (full : x.overflow = true) :
    ∃ t, exec (.hostFrameReceived m x) s = .next t ∧ rd t (R.HM_CNT m.val 20) = rd s (R.HM_CNT m.val 20) + 1 ∧ SameData s t ∧
      hostAt t m.val = hostAt s m.val := by
  obtain ⟨count, same, host⟩ := hmCount_countedAlone s m.val 20
  exact ⟨_, congrArg Host.Outcome.next (hostFrameReceived_overflow on up good plain full), count, same, host⟩

variable (room : x.overflow = false)
include room

theorem hostFrameReceived_countsFiltered (refused : hostAccepts s m.val x.bytes = none) :
    ∃ t, exec (.hostFrameReceived m x) s = .next t ∧ rd t (R.HM_CNT m.val 21) = rd s (R.HM_CNT m.val 21) + 1 ∧ SameData s t ∧
      hostAt t m.val = hostAt s m.val := by
  obtain ⟨count, same, host⟩ := hmCount_countedAlone s m.val 21
  exact ⟨_, congrArg Host.Outcome.next (hostFrameReceived_filtered on up good plain room refused), count, same, host⟩

/-- A frame that is accepted is counted with its octets; a datagram goes to the front end, and an ARP request is answered. -/
theorem hostFrameReceived_takes {k : HostKind} (accepted : hostAccepts s m.val x.bytes = some k) :
    ∃ t, exec (.hostFrameReceived m x) s = .next t ∧ rd t (R.HM_CNT m.val 1) = rd s (R.HM_CNT m.val 1) + 1 ∧
      rd t (R.HM_CNT m.val 0) = rd s (R.HM_CNT m.val 0) + BitVec.ofNat 32 (x.bytes.length + 4) ∧ SameData s t ∧
      (∀ d, k = .nrap d → (hostAt t m.val).inbox = (hostAt s m.val).inbox ++ [d] ∧ rd t (R.HM_CNT m.val 23) = rd s (R.HM_CNT m.val 23) + 1) ∧
      (∀ mac ip, k = .arp mac ip true → (hmQueue s m.val 1).length < 64 →
        hmQueue t m.val 1 = hmQueue s m.val 1 ++ [{ kind := 0, mac := mac, ip := ip, port := 0, data := [] }]) := by
  have takes := macUpdate_hostTakes s m.val x k
  refine ⟨_, congrArg Host.Outcome.next (hostFrameReceived_taken on up good plain room accepted),
    (takes.counts 1 (by decide)).trans (frames_frameCounted s m.val x), (takes.counts 0 (by decide)).trans (octets_frameCounted s m.val x),
    (sameData_frameCounted s m.val x).trans takes.same, ?_, ?_⟩
  · rintro d rfl
    exact ⟨inbox_hostTakes s m.val x d, nrapCount_hostTakes s m.val x d⟩
  · rintro mac ip rfl free
    exact queue_hostTakes on free x mac ip

end

end Sys2Proof.Machine
end

section
/-! SUPPORT. Frames that a host MAC sends (R303 to R305). -/

namespace Sys2Proof.Machine

open Sys2Proof.Safety

/-! ## Stamps of event messages (R305, R442) -/

/-- A sent event message is counted and its stamp placed in a FIFO; the servo may keep it as t3. -/
theorem stampSent_cases (s : State) (m : Nat) (f : TxFrame) (stamp : Nat) :
    stampSent s m f stamp = s ∨ ∃ x p, stampSent s m f stamp = { ptpPush (hmCount s m 39 1) m true x with ptp := p } := by
  unfold stampSent
  split
  · exact .inl rfl
  · split
    · exact .inl rfl
    · dsimp only
      split
      · exact .inr ⟨_, _, rfl⟩
      · exact .inr ⟨_, _, rfl⟩

theorem macUpdate_stampSent (s : State) (m : Nat) (f : TxFrame) (stamp : Nat) : MacUpdate m [39] s (stampSent s m f stamp) := by
  obtain general | ⟨x, p, event⟩ := stampSent_cases s m f stamp
  · rw [general]
    exact MacUpdate.refl m _ s
  · have pushed : MacUpdate m [39] s (ptpPush (hmCount s m 39 1) m true x) :=
      (macUpdate_hmCount s m 1 List.mem_cons_self).trans (macUpdate_ptpPush _ m true x)
    rw [event]
    exact ⟨pushed.same, pushed.config, pushed.counts⟩

/-- Beside the FIFOs a stamp changes nothing of a MAC. -/
theorem hostAt_stampSent (s : State) (m : Nat) (f : TxFrame) (stamp : Nat) :
    ∃ rx tx, hostAt (stampSent s m f stamp) m = { hostAt s m with rx := rx, tx := tx } := by
  obtain general | ⟨x, p, event⟩ := stampSent_cases s m f stamp
  · exact ⟨_, _, by rw [general]⟩
  · obtain ⟨rx, tx, pushed⟩ := hostAt_ptpPush (hmCount s m 39 1) m true x
    rw [hostAt_hmCount] at pushed
    exact ⟨rx, tx, by rw [event]; exact pushed⟩

/-! ## The head of the lowest queue (R303) -/

/-- The lowest queue that holds a frame. -/
theorem find_hmQueue {s : State} {m : Nat} {q : Fin 4} (below : ∀ k, k < q.val → hmQueue s m k = []) (held : hmQueue s m q.val ≠ []) :
    (upTo 4).find? (fun k => (hmQueue s m k).length != 0) = some q.val := by
  rw [upTo, List.find?_range_eq_some]
  refine ⟨?_, List.mem_range.mpr q.isLt, fun k lower => ?_⟩
  · simpa using held
  · simp [below k lower]

/-- The MAC whose frame has been taken from its queue and sent. -/
def frameTaken (s : State) (m q : Nat) (f : TxFrame) (r : List TxFrame) : State :=
  setHost (setHmQueue s m q r) m { hostAt (setHmQueue s m q r) m with sent := some f }

/-- The state after a frame has been sent and counted. -/
def headSent (s : State) (m q : Nat) (f : TxFrame) (r : List TxFrame) (stamp : Nat) : State :=
  stampSent (tallied (frameTaken s m q f r) m 26 (txLength s m f) f.mac (sizeBucket 31 (txLength s m f) false)) m f stamp

/-- A MAC that is not STOPPING goes on. -/
theorem hostStopped_other {s : State} {m : Nat} (h : pageSt s (hmPage m) ≠ 3) : hostStopped s m = s := if_pos h

section
variable (s : State) (m q : Nat) (f : TxFrame) (r : List TxFrame) (stamp : Nat)

theorem macUpdate_setHmQueue : MacUpdate m [] s (setHmQueue s m q r) := macUpdate_setHost s _

theorem macUpdate_frameTaken : MacUpdate m [] s (frameTaken s m q f r) := (macUpdate_setHmQueue s m q r).trans (macUpdate_setHost _ _)

/-- What the statistics of a sent frame change before its stamp. -/
theorem macUpdate_sentTallied : MacUpdate m [26, 27, 28 + macClass f.mac, sizeBucket 31 (txLength s m f) false] s
    (tallied (frameTaken s m q f r) m 26 (txLength s m f) f.mac (sizeBucket 31 (txLength s m f) false)) :=
  ((macUpdate_frameTaken s m q f r).mono (List.nil_subset _)).trans (macUpdate_tallied _ m 26 _ _)

theorem sameData_headSent : SameData s (headSent s m q f r stamp) :=
  (macUpdate_sentTallied s m q f r).same.trans (macUpdate_stampSent _ m f stamp).same

theorem pageSt_headSent : pageSt (headSent s m q f r stamp) (hmPage m) = pageSt s (hmPage m) :=
  (macUpdate_stampSent _ m f stamp).pageSt.trans (macUpdate_sentTallied s m q f r).pageSt

theorem octets_headSent : rd (headSent s m q f r stamp) (R.HM_CNT m 26) = rd s (R.HM_CNT m 26) + BitVec.ofNat 32 (txLength s m f) :=
  ((macUpdate_stampSent _ m f stamp).counts 26 (by decide)).trans
    (octets_tallied (frameTaken s m q f r) m 26 _ _ (Nat.le_trans (by decide) (le_sizeBucket 31 _ false)))

theorem frames_headSent : rd (headSent s m q f r stamp) (R.HM_CNT m 27) = rd s (R.HM_CNT m 27) + 1 :=
  ((macUpdate_stampSent _ m f stamp).counts 27 (by decide)).trans
    (frames_tallied (frameTaken s m q f r) m 26 _ _ (Nat.le_trans (by decide) (le_sizeBucket 31 _ false)))

theorem hostAt_headSent : ∃ rx tx, hostAt (headSent s m q f r stamp) m =
    { hostAt (setHmQueue s m q r) m with sent := some f, rx := rx, tx := tx } := by
  obtain ⟨rx, tx, stamped⟩ := hostAt_stampSent
    (tallied (frameTaken s m q f r) m 26 (txLength s m f) f.mac (sizeBucket 31 (txLength s m f) false)) m f stamp
  rw [hostAt_of_hosts (tallied_hosts _ m 26 _ _), frameTaken, hostAt_setHost_same] at stamped
  exact ⟨rx, tx, stamped⟩

end

/-! ## HOST_FRAME_TRANSMIT -/

section
variable {s : State} {m : Fin 6} {q : Fin 4} {f : TxFrame} {r : List TxFrame} (stamp : Nat)
  (on : pageSt s (hmPage m.val) = 2) (up : hmUp s m.val = true) (free : (hostAt s m.val).pause ≤ s.now)
  (below : ∀ k, k < q.val → hmQueue s m.val k = []) (head : hmQueue s m.val q.val = f :: r)
include on up free below head

/-- A MAC that is ON, up and not paused takes the head of its lowest queue that holds a frame. -/
theorem hostFrameTransmit_head (underrun : Bool) : hostFrameTransmit s m.val stamp underrun =
    if underrun then hmCount (setHmQueue s m.val q.val r) m.val 37 1 else headSent s m.val q.val f r stamp := by
  have sends : ¬ ((pageSt s (hmPage m.val) ≠ 2 ∧ pageSt s (hmPage m.val) ≠ 3) ∨ !hmUp s m.val ∨ s.now < (hostAt s m.val).pause) := by
    simp [on, up, free]
  have found := find_hmQueue below (by simp [head])
  have staysOn {t : State} (h : pageSt t (hmPage m.val) = pageSt s (hmPage m.val)) : hostStopped t m.val = t :=
    hostStopped_other (by rw [h, on]; decide)
  rw [hostFrameTransmit, if_neg sends, found]
  dsimp only
  rw [head]
  cases underrun with
  | true => exact staysOn (macUpdate_hmCount (cs := [37]) (setHmQueue s m.val q.val r) m.val 1 List.mem_cons_self).pageSt
  | false => exact staysOn (pageSt_headSent s m.val q.val f r stamp)

theorem hostFrameTransmit_sends : ∃ t, exec (.hostFrameTransmit m stamp false) s = .next t ∧ hmQueue t m.val q.val = r ∧
    (hostAt t m.val).sent = some f ∧ rd t (R.HM_CNT m.val 27) = rd s (R.HM_CNT m.val 27) + 1 ∧
    rd t (R.HM_CNT m.val 26) = rd s (R.HM_CNT m.val 26) + BitVec.ofNat 32 (txLength s m.val f) ∧ SameData s t := by
  have does : hostFrameTransmit s m.val stamp false = headSent s m.val q.val f r stamp := hostFrameTransmit_head stamp on up free below head false
  obtain ⟨rx, tx, host⟩ := hostAt_headSent s m.val q.val f r stamp
  have queues : (hostAt (headSent s m.val q.val f r stamp) m.val).queues = (hostAt (setHmQueue s m.val q.val r) m.val).queues := by rw [host]
  exact ⟨_, congrArg Host.Outcome.next does, (hmQueue_of_queues queues q.val).trans (hmQueue_setHmQueue_same s m.val q.val r),
    congrArg HostMac.sent host, frames_headSent s m.val q.val f r stamp, octets_headSent s m.val q.val f r stamp,
    sameData_headSent s m.val q.val f r stamp⟩

/-- An underrun spends the frame: it is counted and is not sent. -/
theorem hostFrameTransmit_underruns : ∃ t, exec (.hostFrameTransmit m stamp true) s = .next t ∧ hmQueue t m.val q.val = r ∧
    (hostAt t m.val).sent = (hostAt s m.val).sent ∧ rd t (R.HM_CNT m.val 37) = rd s (R.HM_CNT m.val 37) + 1 ∧ SameData s t := by
  have does : hostFrameTransmit s m.val stamp true = hmCount (setHmQueue s m.val q.val r) m.val 37 1 :=
    hostFrameTransmit_head stamp on up free below head true
  obtain ⟨count, same, host⟩ := hmCount_countedAlone (setHmQueue s m.val q.val r) m.val 37
  have sent : (hostAt (setHmQueue s m.val q.val r) m.val).sent = (hostAt s m.val).sent := by rw [setHmQueue, hostAt_setHost_same]
  exact ⟨_, congrArg Host.Outcome.next does,
    (hmQueue_of_queues (congrArg HostMac.queues host) q.val).trans (hmQueue_setHmQueue_same s m.val q.val r),
    (congrArg HostMac.sent host).trans sent, count, (macUpdate_setHmQueue s m.val q.val r).same.trans same⟩

end

end Sys2Proof.Machine
end

section
/-! SUPPORT. The register commands of a host MAC and its link (R299, R300, R304, R305), and the host MACs' obligation. -/

namespace Sys2Proof.Machine

open Sys2Proof.Safety

/-! ## HM_PTPRXPOP and HM_PTPTXPOP (R305) -/

theorem exec_ptpFifoPop {s : State} {q : Requester} {m : Fin 6} (tx : Bool) (hr : Reaches s q (hmPage m.val) (if tx then 0x8C else 0x7C)) :
    exec (.ptpFifoPop q m tx) s = .next (answer (ptpPop s m.val tx) .none) := congrArg Host.Outcome.next (gated_reaches hr)

theorem ptpFifoPop_tx {s : State} {q : Requester} {m : Fin 6} (hr : Reaches s q (hmPage m.val) 0x8C) :
    ∃ t, exec (.ptpFifoPop q m true) s = .next t ∧ Accepted t ∧ (hostAt t m.val).tx = (hostAt s m.val).tx.drop 1 ∧
      t = { s with hosts := t.hosts, answer := t.answer } :=
  ⟨_, exec_ptpFifoPop true hr, rfl, congrArg HostMac.tx (hostAt_setHost_same s m.val _), rfl⟩

theorem ptpFifoPop_rx {s : State} {q : Requester} {m : Fin 6} (hr : Reaches s q (hmPage m.val) 0x7C) :
    ∃ t, exec (.ptpFifoPop q m false) s = .next t ∧ Accepted t ∧ (hostAt t m.val).rx = (hostAt s m.val).rx.drop 1 ∧
      t = { s with hosts := t.hosts, answer := t.answer } :=
  ⟨_, exec_ptpFifoPop false hr, rfl, congrArg HostMac.rx (hostAt_setHost_same s m.val _), rfl⟩

/-! ## HM_CNTCLR (R304) -/

/-- The counters of a MAC cleared, without the half-range marks. -/
def countersCleared (s : State) (m : Nat) : State := forAll (fun s n => wr s (R.HM_CNT m n) 0) (upTo 40) s

/-- The registers that HM_CNTCLR clears. -/
def counterKeys (m : Nat) : List Nat := R.HM_CNTHALF0 m :: R.HM_CNTHALF1 m :: (upTo 40).map (R.HM_CNT m)

/-- The state after a CLR of HM_CNTCLR. -/
def statisticsCleared (s : State) (m : Nat) : State := wr (wr (countersCleared s m) (R.HM_CNTHALF0 m) 0) (R.HM_CNTHALF1 m) 0

section
variable (s : State) (m : Nat)

theorem rd_countersCleared (n : Fin 40) : rd (countersCleared s m) (R.HM_CNT m n.val) = 0 := by
  obtain ⟨u, -, cleared⟩ := forAll_view (f := fun s n => wr s (R.HM_CNT m n) 0) (view := fun u => rd u (R.HM_CNT m n.val)) List.nodup_range
    (List.mem_range.mpr n.isLt) (fun u k _ other => rd_wr_ne u 0 fun e => other (HM_CNT_inj e).symm) s
  exact cleared.trans (rd_wr_same u _ 0)

theorem onlyRegs_statisticsCleared : OnlyRegs (counterKeys m) s (statisticsCleared s m) := by
  have counters : OnlyRegs (counterKeys m) s (countersCleared s m) :=
    onlyRegs_forAll (fun n hn u => onlyRegs_wr u 0 (List.mem_cons_of_mem _ (List.mem_cons_of_mem _ (List.mem_map_of_mem hn)))) s
  exact (counters.trans (onlyRegs_wr _ 0 List.mem_cons_self)).trans (onlyRegs_wr _ 0 (List.mem_cons_of_mem _ List.mem_cons_self))

theorem rd_statisticsCleared (n : Fin 40) : rd (statisticsCleared s m) (R.HM_CNT m n.val) = 0 :=
  (rd_wr_ne _ 0 (HM_CNT_ne (off := 0xC4) (by decide) n.val)).trans
    ((rd_wr_ne _ 0 (HM_CNT_ne (off := 0xC0) (by decide) n.val)).trans (rd_countersCleared s m n))

theorem rd_statisticsCleared_half0 : rd (statisticsCleared s m) (R.HM_CNTHALF0 m) = 0 :=
  (rd_wr_ne _ 0 fun e => absurd (macReg_inj (o := 0xC0) (o' := 0xC4) e) (by decide)).trans (rd_wr_same _ _ 0)

end

section
variable {s : State} {q : Requester} {m : Fin 6} (hr : Reaches s q (hmPage m.val) 0xC8)
include hr

theorem macCounterClear_clears : ∃ t, exec (.macCounterClear q m 1) s = .next t ∧ Accepted t ∧
    (∀ n : Fin 40, rd t (R.HM_CNT m.val n.val) = 0) ∧ rd t (R.HM_CNTHALF0 m.val) = 0 ∧ rd t (R.HM_CNTHALF1 m.val) = 0 ∧
    OnlyRegs (counterKeys m.val) s t := by
  have done : exec (.macCounterClear q m 1) s = .next (answer (statisticsCleared s m.val) .none) := congrArg Host.Outcome.next (gated_reaches hr)
  have read (k : Nat) := rd_answer (statisticsCleared s m.val) .none k
  exact ⟨_, done, rfl, fun n => (read _).trans (rd_statisticsCleared s m.val n), (read _).trans (rd_statisticsCleared_half0 s m.val),
    (read _).trans (rd_wr_same _ _ 0), (onlyRegs_statisticsCleared s m.val).trans (onlyRegs_answer _ _ _)⟩

theorem macCounterClear_rejected (v : Word) (reserved : bits v 31 1 ≠ 0) :
    ∃ t, exec (.macCounterClear q m v) s = .next t ∧ Rejected s t (hmPage m.val) 0xC8 .reservedBits := by
  refine ⟨rejectWrite s (hmPage m.val) 0xC8 .reservedBits, (congrArg Host.Outcome.next (gated_reaches hr)).trans ?_, rfl, rfl⟩
  rw [hmCounterClear, if_pos reserved]
  rfl

end

/-! ## MDIO (R299) -/

section
variable {s : State} {q : Requester} {m : Fin 6} {v : Word} (hr : Reaches s q (hmPage m.val) 0x60) (legal : bits v 29 26 = 0)
include hr legal

theorem mdioAccess_starts (idle : flag s (R.HM_MDIO m.val) F.HM_MDIO_BUSY = false) :
    ∃ t, exec (.mdioAccess q m v) s = .next t ∧ Accepted t ∧ rd t (R.HM_MDIO m.val) = withBits v 31 31 1 ∧ OnlyRegs [R.HM_MDIO m.val] s t := by
  refine ⟨answer (wr s (R.HM_MDIO m.val) (withBits v 31 31 1)) .none, (congrArg Host.Outcome.next (gated_reaches hr)).trans ?_, rfl,
    rd_wr_same _ _ _, (onlyRegs_wr s _ List.mem_cons_self).trans (onlyRegs_answer _ _ _)⟩
  rw [mdioWrite, if_neg (not_not_intro legal), if_neg (Bool.eq_false_iff.mp idle)]
  rfl

theorem mdioAccess_busy (busy : flag s (R.HM_MDIO m.val) F.HM_MDIO_BUSY = true) :
    ∃ t, exec (.mdioAccess q m v) s = .next t ∧ Rejected s t (hmPage m.val) 0x60 .busy := by
  refine ⟨rejectWrite s (hmPage m.val) 0x60 .busy, (congrArg Host.Outcome.next (gated_reaches hr)).trans ?_, rfl, rfl⟩
  rw [mdioWrite, if_neg (not_not_intro legal), if_pos busy]
  rfl

end

/-- HM_MDIO with the data of the access: what a read brought, or what was written. -/
def mdioShown (s : State) (m data : Nat) : State :=
  if flag s (R.HM_MDIO m) F.HM_MDIO_WRITE then s else setFld s (R.HM_MDIO m) F.HM_MDIO_DATA data

theorem data_mdioShown (s : State) (m : Nat) (d : BitVec 16) : fld (mdioShown s m d.toNat) (R.HM_MDIO m) F.HM_MDIO_DATA =
    if flag s (R.HM_MDIO m) F.HM_MDIO_WRITE then fld s (R.HM_MDIO m) F.HM_MDIO_DATA else d.toNat := by
  unfold mdioShown
  split
  · rfl
  · exact (fld_setFld_same s _ F.HM_MDIO_DATA _ (by decide) (by decide)).trans (Nat.mod_eq_of_lt d.isLt)

theorem onlyRegs_mdioShown (s : State) (m data : Nat) : OnlyRegs [R.HM_MDIO m] s (mdioShown s m data) := by
  unfold mdioShown
  split
  · exact OnlyRegs.refl _ s
  · exact onlyRegs_setFld s _ data List.mem_cons_self

/-- The end of an access clears BUSY; the data of a read stand in HM_MDIO. -/
theorem mdioComplete_ends {s : State} {m : Fin 6} (d : BitVec 16) (busy : flag s (R.HM_MDIO m.val) F.HM_MDIO_BUSY = true) :
    ∃ t, exec (.mdioComplete m d) s = .next t ∧ flag t (R.HM_MDIO m.val) F.HM_MDIO_BUSY = false ∧ OnlyRegs [R.HM_MDIO m.val] s t ∧
      fld t (R.HM_MDIO m.val) F.HM_MDIO_DATA =
        (if flag s (R.HM_MDIO m.val) F.HM_MDIO_WRITE then fld s (R.HM_MDIO m.val) F.HM_MDIO_DATA else d.toNat) := by
  have done : mdioDone s m.val d.toNat = setFld (mdioShown s m.val d.toNat) (R.HM_MDIO m.val) F.HM_MDIO_BUSY 0 := if_neg (by simp [busy])
  refine ⟨_, congrArg Host.Outcome.next done, ?_, (onlyRegs_mdioShown s m.val _).trans (onlyRegs_setFld _ _ 0 List.mem_cons_self), ?_⟩
  · rw [flag, fld_setFld_same _ _ F.HM_MDIO_BUSY 0 (by decide) (by decide)]
    rfl
  · exact (fld_setFld_other _ _ F.HM_MDIO_BUSY F.HM_MDIO_DATA 0 (by decide) (by decide) (.inl (by decide))).trans (data_mdioShown s m.val d)

/-! ## The link (R299, R300) -/

/-- The rate of a link that comes up: the forced one, or the rate that the PHY reports. -/
def linkRate (s : State) (m speed : Nat) : Nat := if fld s (R.HM_CFG m) F.HM_CFG_SPEED = 0 then speed else fld s (R.HM_CFG m) F.HM_CFG_SPEED

/-- HM_LINK of a link that is up at a rate. -/
def linkSet (s : State) (m rate : Nat) : State := setFld (setFld s (R.HM_LINK m) F.HM_LINK_SPEED rate) (R.HM_LINK m) F.HM_LINK_UP 1

/-- HM_LINK of a link that is down. -/
def linkCleared (s : State) (m : Nat) : State := wr s (R.HM_LINK m) 0

section
variable (s : State) (m rate : Nat)

theorem hmUp_linkSet : hmUp (linkSet s m rate) m = true := by
  rw [hmUp, flag, linkSet, fld_setFld_same _ _ F.HM_LINK_UP 1 (by decide) (by decide)]
  rfl

theorem rate_linkSet : fld (linkSet s m rate) (R.HM_LINK m) F.HM_LINK_SPEED = rate % 4 :=
  (fld_setFld_other _ _ F.HM_LINK_UP F.HM_LINK_SPEED 1 (by decide) (by decide) (.inl (by decide))).trans
    (fld_setFld_same s _ F.HM_LINK_SPEED rate (by decide) (by decide))

theorem sameData_linkSet : SameData s (linkSet s m rate) := ⟨fun _ => rfl, fun _ => rfl⟩

theorem hmUp_linkCleared : hmUp (linkCleared s m) m = false := by
  rw [hmUp, flag, fld, linkCleared, rd_wr_same]
  rfl

theorem pageSt_linkCleared : pageSt (linkCleared s m) (hmPage m) = pageSt s (hmPage m) :=
  fld_wr_ne s 0 F.PG_STATE fun e => absurd (macReg_inj (o := 0x08) (o' := 0x54) e) (by decide)

theorem sameData_linkCleared : SameData s (linkCleared s m) := ⟨fun _ => rfl, fun _ => rfl⟩

end

/-- An event of the page leaves HM_LINK. -/
theorem link_raiseBit (s : State) (m n : Nat) : rd (raiseBit s (hmPage m) n) (R.HM_LINK m) = rd s (R.HM_LINK m) :=
  rd_raiseBit_mac s (off := 0x54) n (by decide)

theorem hmUp_of_link {s t : State} {m : Nat} (h : rd t (R.HM_LINK m) = rd s (R.HM_LINK m)) : hmUp t m = hmUp s m :=
  congrArg (fun w => bits w 3 3 != 0) h

/-- A link that comes up shows its rate, and raises its event where it was down. -/
theorem hostLinkUp_shown {s : State} {m : Fin 6} {sp : Fin 4} (rate : linkRate s m.val sp.val ≠ 0) :
    ∃ t, exec (.hostLinkUp m sp) s = .next t ∧ hmUp t m.val = true ∧
      fld t (R.HM_LINK m.val) F.HM_LINK_SPEED = linkRate s m.val sp.val % 4 ∧
      (hmUp s m.val = false → (rd t (R.PG_ISR (hmPage m.val))).getLsbD 0 = true) ∧ SameData s t := by
  have up := hmUp_linkSet s m.val (linkRate s m.val sp.val)
  have speed := rate_linkSet s m.val (linkRate s m.val sp.val)
  have same := sameData_linkSet s m.val (linkRate s m.val sp.val)
  have done : hostLinkUp s m.val sp.val = if hmUp s m.val then linkSet s m.val (linkRate s m.val sp.val)
      else raiseBit (linkSet s m.val (linkRate s m.val sp.val)) (hmPage m.val) 0 := if_neg rate
  cases was : hmUp s m.val with
  | true =>
    rw [was] at done
    exact ⟨_, congrArg Host.Outcome.next done, up, speed, fun down => Bool.noConfusion down, same⟩
  | false =>
    have link := link_raiseBit (linkSet s m.val (linkRate s m.val sp.val)) m.val 0
    rw [was] at done
    exact ⟨_, congrArg Host.Outcome.next done, (hmUp_of_link link).trans up, (congrArg (bits · 1 0) link).trans speed,
      fun _ => raiseBit_isr_bit _ (hmPage_lt m) (by decide), same.trans (sameData_raiseBit _ _ 0)⟩

/-- A link that goes down raises its event; a MAC that is not STOPPING keeps its queues and its state. -/
theorem hostLinkDown_shown {s : State} {m : Fin 6} (up : hmUp s m.val = true) (runs : pageSt s (hmPage m.val) ≠ 3) :
    ∃ t, exec (.hostLinkDown m) s = .next t ∧ hmUp t m.val = false ∧ (rd t (R.PG_ISR (hmPage m.val))).getLsbD 1 = true ∧
      hostAt t m.val = hostAt s m.val ∧ SameData s t := by
  have event : MacUpdate m.val [] (linkCleared s m.val) (raiseBit (linkCleared s m.val) (hmPage m.val) 1) := macUpdate_raise _ 1
  have state := event.pageSt.trans (pageSt_linkCleared s m.val)
  have done : hostLinkDown s m.val = raiseBit (linkCleared s m.val) (hmPage m.val) 1 :=
    (if_pos up).trans (hostStopped_other (ne_of_eq_of_ne state runs))
  exact ⟨_, congrArg Host.Outcome.next done, (hmUp_of_link (link_raiseBit _ m.val 1)).trans (hmUp_linkCleared s m.val),
    raiseBit_isr_bit _ (hmPage_lt m) (by decide), hostAt_of_hosts (raiseBit_hosts (linkCleared s m.val) _ 1) m.val,
    (sameData_linkCleared s m.val).trans event.same⟩

/-! ## The host MACs -/

/-- Settles O49: each command of a MAC by what it counts, takes, sends or shows. -/
theorem hostMacsCountAndCarryFrames : Obligations.HostMacsCountAndCarryFrames := by
  unfold Obligations.HostMacsCountAndCarryFrames
  intro s m
  refine ⟨fun x off => congrArg Host.Outcome.next (hostFrameReceived_ignored off),
    fun x on up => ⟨fun n error => hostFrameReceived_countsError on up error,
      hostFrameReceived_countsOverflow on up,
      fun good plain room => ⟨hostFrameReceived_countsFiltered on up good plain room, fun k => hostFrameReceived_takes on up good plain room⟩⟩,
    fun q f r stamp on up free below head => ⟨hostFrameTransmit_sends stamp on up free below head,
      hostFrameTransmit_underruns stamp on up free below head⟩,
    fun q => ptpFifoPop_tx, fun q => ptpFifoPop_rx,
    fun q hr => ⟨macCounterClear_clears hr, macCounterClear_rejected hr⟩,
    fun q v hr legal => ⟨mdioAccess_starts hr legal, mdioAccess_busy hr legal⟩,
    fun d => mdioComplete_ends d, fun sp => hostLinkUp_shown, hostLinkDown_shown⟩

end Sys2Proof.Machine
end

section
/-! SUPPORT. Updates by the pages that they touch, and what a change of mode leaves of the rest (R456). -/

namespace Sys2Proof.Machine

open Sys2Proof.Safety

/-! ## Memory, points and moulds -/

/-- What memory, points and moulds read from. -/
structure PlantData where
  mem : List Host.Cell
  resets : Nat
  dramGen : Nat
  points : Table Point
  moulds : Table (Option Mould)

def plantData (s : State) : PlantData := ⟨s.mem, s.resets, s.dramGen, s.points, s.moulds⟩

/-- Memory, points and moulds read as before. -/
abbrev SamePlant (s t : State) : Prop := SameBytes s t ∧ SamePoints s t ∧ t.moulds = s.moulds

theorem samePlant_of_plantData {s t : State} (h : plantData t = plantData s) : SamePlant s t := by
  have mem : t.mem = s.mem := congrArg PlantData.mem h
  have resets : t.resets = s.resets := congrArg PlantData.resets h
  have dram : t.dramGen = s.dramGen := congrArg PlantData.dramGen h
  exact ⟨fun a => by rw [byteAt, byteAt, mem, resets, dram], samePoints_of_points (congrArg PlantData.points h), congrArg PlantData.moulds h⟩

theorem plantData_of_regsAndEvents {ks : List Nat} {s t : State} (h : RegsAndEvents ks s t) : plantData t = plantData s := by
  rw [h.rest]
  rfl

@[simp] theorem plantData_raiseBit (s : State) (page n : Nat) : plantData (raiseBit s page n) = plantData s :=
  plantData_of_regsAndEvents (regsAndEvents_raiseBit s n (ks := [R.PG_ISR page]) List.mem_cons_self)

@[simp] theorem plantData_wr (s : State) (k : Nat) (v : Word) : plantData (wr s k v) = plantData s := rfl

@[simp] theorem plantData_setFld (s : State) (k : Nat) (f : Fld) (v : Nat) : plantData (setFld s k f v) = plantData s := rfl

@[simp] theorem plantData_setTwin (s : State) (x : Twin) : plantData (setTwin s x) = plantData s := rfl

@[simp] theorem plantData_advanceTo (s : State) (t : DWord) : plantData (advanceTo s t) = plantData s := by
  simp only [plantData, advanceTo_mem, advanceTo_resets, advanceTo_dramGen, advanceTo_points, advanceTo_moulds]

@[simp] theorem rd_setTwin (s : State) (x : Twin) (k : Nat) : rd (setTwin s x) k = rd s k := rfl

@[simp] theorem twin_setTwin (s : State) (x : Twin) : (setTwin s x).twin = x := rfl

/-! ## Updates of pages -/

/-- The page of a register's key. -/
def keyPage (k : Nat) : Nat := k / 4096 % 256

theorem keyPage_regKey {page off : Nat} (hp : page < 256) (ho : off < 4096) (win : Nat) : keyPage (regKey page off win) = page := by
  unfold keyPage regKey
  omega

theorem keyPage_PG_ISR {page : Nat} (hp : page < 256) : keyPage (R.PG_ISR page) = page := keyPage_regKey hp (by decide) 0

theorem keyPage_EVT_PEND {i : Nat} (hi : i < 8) : keyPage (R.EVT_PEND i) = 0x07 := keyPage_regKey (by decide) (by omega) 0

/-- An update that touches registers of some pages alone, and none of memory, points, moulds and the twin control. -/
structure PageUpdate (ps : List Nat) (s t : State) : Prop where
  data : plantData t = plantData s
  twin : t.twin = s.twin
  regs : ∀ k, keyPage k ∉ ps → rd t k = rd s k

section
variable {ps : List Nat} {s t u : State}

theorem PageUpdate.refl (ps : List Nat) (s : State) : PageUpdate ps s s := ⟨rfl, rfl, fun _ _ => rfl⟩

theorem PageUpdate.trans (h : PageUpdate ps s t) (k : PageUpdate ps t u) : PageUpdate ps s u where
  data := k.data.trans h.data
  twin := k.twin.trans h.twin
  regs n out := (k.regs n out).trans (h.regs n out)

theorem PageUpdate.fld (h : PageUpdate ps s t) {k : Nat} (out : keyPage k ∉ ps) (f : Fld) : fld t k f = Machine.fld s k f :=
  congrArg (bits · f.hi f.lo) (h.regs k out)

theorem pageUpdate_wr (s : State) {k : Nat} (v : Word) (mem : keyPage k ∈ ps) : PageUpdate ps s (wr s k v) :=
  ⟨rfl, rfl, fun _ out => rd_wr_ne s v fun e => out (e ▸ mem)⟩

theorem pageUpdate_setFld (s : State) {k : Nat} (f : Fld) (v : Nat) (mem : keyPage k ∈ ps) : PageUpdate ps s (setFld s k f v) :=
  pageUpdate_wr s _ mem

/-- An event touches its page's PG_ISR and the event matrix. -/
theorem pageUpdate_raiseBit (s : State) {page : Nat} (n : Nat) (hp : page < 256) (mem : page ∈ ps) (matrix : 0x07 ∈ ps) :
    PageUpdate ps s (raiseBit s page n) where
  data := plantData_raiseBit s page n
  twin := raiseBit_twin s page n
  regs _ out := rd_raiseBit_ne s (fun e => out (by rwa [e, keyPage_PG_ISR hp])) (fun e => out (by rwa [e, keyPage_EVT_PEND (by omega)]))

theorem pageUpdate_forAll {α : Type} {f : State → α → State} {l : List α} (hf : ∀ a ∈ l, ∀ s, PageUpdate ps s (f s a)) (s : State) :
    PageUpdate ps s (forAll f l s) := by
  induction l generalizing s with
  | nil => exact PageUpdate.refl ps s
  | cons a l ih => exact (hf a List.mem_cons_self s).trans (ih (fun b hb => hf b (List.mem_cons_of_mem a hb)) (f s a))

end

/-! ## What the mode governs -/

/-- The pages that follow the mode: the event matrix, and those of the scan, the loops, the meters, the CAN controllers and the port meters. -/
def modePages : List Nat := 0x07 :: List.range' 0x38 0x39

theorem mem_modePages {page : Nat} (low : 0x38 ≤ page) (high : page ≤ 0x70) : page ∈ modePages :=
  List.mem_cons_of_mem _ (List.mem_range'_1.mpr (by omega))

theorem keyPage_mem_modePages {page off : Nat} (ho : off < 4096) (win : Nat) (low : 0x38 ≤ page) (high : page ≤ 0x70) :
    keyPage (regKey page off win) ∈ modePages := by
  rw [keyPage_regKey (by omega) ho win]
  exact mem_modePages low high

theorem pageUpdate_raiseMode (s : State) {page : Nat} (n : Nat) (low : 0x38 ≤ page) (high : page ≤ 0x70) :
    PageUpdate modePages s (raiseBit s page n) :=
  pageUpdate_raiseBit s n (by omega) (mem_modePages low high) List.mem_cons_self

theorem pageUpdate_showPend (s : State) {t : Nat} (ht : t < 64) : PageUpdate modePages s (showPend s t) := by
  unfold showPend
  split
  · exact pageUpdate_setFld s _ _ (keyPage_mem_modePages (by omega) 0 (by decide) (by decide))
  · exact PageUpdate.refl _ s

theorem pageUpdate_refreshTask (s : State) {t : Nat} (ht : t < 64) : PageUpdate modePages s (refreshTask s t) := by
  have state (st : Nat) : PageUpdate modePages s (setTaskState s t st) :=
    pageUpdate_setFld s _ _ (keyPage_mem_modePages (by omega) 0 (by decide) (by decide))
  have task (u : State) (x : TaskState) : PageUpdate modePages u (setTask u t x) := ⟨rfl, rfl, fun _ _ => rfl⟩
  unfold refreshTask
  dsimp only
  split
  · split
    · split
      · exact state _
      · exact PageUpdate.refl _ s
    · exact ((state _).trans (task _ _)).trans (pageUpdate_showPend _ ht)
  · exact PageUpdate.refl _ s

theorem pageUpdate_refreshLoop (s : State) {n : Nat} (hn : n < 512) : PageUpdate modePages s (refreshLoop s n) := by
  have shown (v : Nat) : PageUpdate modePages s (setFld s (R.LPE_LSTAT n) F.LPE_LSTAT_SUSP v) :=
    pageUpdate_setFld s _ _ (keyPage_mem_modePages (by decide) _ (by omega) (by omega))
  have loop (u : State) (x : LoopState) : PageUpdate modePages u (setLoop u n x) := ⟨rfl, rfl, fun _ _ => rfl⟩
  unfold refreshLoop
  dsimp only
  split
  · exact PageUpdate.refl _ s
  · exact (shown _).trans (loop _ _)

theorem pageUpdate_refreshCircuit (s : State) {c : Nat} (hc : c < 48) : PageUpdate modePages s (refreshCircuit s c) := by
  have shown (v : Nat) : PageUpdate modePages s (setFld s (R.CIR_STAT c) F.CIR_STAT_SUSP v) :=
    pageUpdate_setFld s _ _ (keyPage_mem_modePages (by decide) _ (by decide) (by decide))
  have circuit (u : State) (x : Circuit) : PageUpdate modePages u (setCirc u c x) := ⟨rfl, rfl, fun _ _ => rfl⟩
  unfold refreshCircuit
  dsimp only
  split
  · exact PageUpdate.refl _ s
  · split
    · exact ((shown _).trans (circuit _ _)).trans (pageUpdate_raiseMode _ 0 (by omega) (by omega))
    · exact shown _

theorem pageUpdate_refreshPortMeter (s : State) {p : Nat} (hp : p < 16) : PageUpdate modePages s (refreshPortMeter s p) :=
  pageUpdate_setFld s _ _ (keyPage_mem_modePages (by decide) _ (by omega) (by omega))

theorem pageUpdate_startCan (s : State) {b : Nat} (hb : b < 8) : PageUpdate modePages s (startCan s b) := by
  have state (u : State) (f : Fld) (v : Nat) : PageUpdate modePages u (setFld u (R.PG_STATE (fbPage b)) f v) :=
    pageUpdate_setFld u _ _ (keyPage_mem_modePages (by decide) _ (by unfold fbPage; omega) (by unfold fbPage; omega))
  have bus (x : CanBus) : PageUpdate modePages s (setBus s b x) := ⟨rfl, rfl, fun _ _ => rfl⟩
  unfold startCan
  split
  · exact PageUpdate.refl _ s
  · exact ((bus _).trans (state _ _ _)).trans (state _ _ _)

/-- What the mode governs is on its own pages. -/
theorem pageUpdate_refreshAll (s : State) : PageUpdate modePages s (refreshAll s) := by
  have tasks := pageUpdate_forAll (fun t ht u => pageUpdate_refreshTask u (List.mem_range.mp ht)) (l := upTo 64)
  have loops := pageUpdate_forAll (fun n hn u => pageUpdate_refreshLoop u (List.mem_range.mp hn)) (l := upTo 512)
  have circuits := pageUpdate_forAll (fun c hc u => pageUpdate_refreshCircuit u (List.mem_range.mp hc)) (l := upTo 48)
  have ports := pageUpdate_forAll (fun p hp u => pageUpdate_refreshPortMeter u (List.mem_range.mp hp)) (l := upTo 16)
  have buses (u : State) : PageUpdate modePages u (refreshCan u) := pageUpdate_forAll (fun b hb u => by
    split
    · exact pageUpdate_startCan u (List.mem_range.mp hb)
    · exact PageUpdate.refl _ u) u
  exact ((((tasks s).trans (loops _)).trans (circuits _)).trans (ports _)).trans (buses _)

/-- A cause of no task goes to its flask's queue or to core 0 (R98). -/
theorem pageUpdate_postStart (s : State) (detail : Nat) : PageUpdate modePages s (postStart s detail) := by
  have undelivered (u : State) (w d : Word) : PageUpdate modePages u (causeUndelivered u 0 w d) := by
    have key {off : Nat} (ho : off < 4096) : keyPage (regKey 0x39 off 0) ∈ modePages := keyPage_mem_modePages ho 0 (by decide) (by decide)
    refine PageUpdate.trans ?_ (pageUpdate_raiseMode _ 0 (by decide) (by decide))
    split
    · exact pageUpdate_setFld u _ _ (key (by decide))
    · exact (pageUpdate_wr u _ (key (by decide))).trans (pageUpdate_wr _ _ (key (by decide)))
  refine pageUpdate_forAll (fun f _ u => ?_) s
  split
  · obtain ⟨q, queued⟩ | ⟨w, kept⟩ := postCause_cases u f 0x0A 0xFF (BitVec.ofNat 32 detail)
    · rw [queued]
      exact ⟨rfl, rfl, fun _ _ => rfl⟩
    · rw [kept]
      exact undelivered u w _
  · exact PageUpdate.refl _ u

end Sys2Proof.Machine
end

section
/-! SUPPORT. A change of mode, epochs, roles and SYNC: what each leaves of the twin page and of the twin control (R326, R328, R335, R347, R456). -/

namespace Sys2Proof.Machine

open Sys2Proof.Safety

/-- Two fields of a register share no bit. -/
abbrev Apart (f g : Fld) : Prop := g.hi < f.lo ∨ f.hi < g.lo

/-! ## Time -/

@[simp] theorem fld_advanceTo (s : State) (t : DWord) (k : Nat) (f : Fld) : fld (advanceTo s t) k f = fld s k f :=
  congrArg (bits · f.hi f.lo) (rd_advanceTo s t k)

@[simp] theorem roleOf_advanceTo (s : State) (t : DWord) : roleOf (advanceTo s t) = roleOf s := fld_advanceTo s t _ _

@[simp] theorem roleOf_setTwin (s : State) (x : Twin) : roleOf (setTwin s x) = roleOf s := rfl

/-! ## Epochs (R335) -/

/-- The epoch that an entry into the active role would give the module. -/
def epochDue (s : State) : Nat := nextEpoch (rd s R.TWN_EPOCH).toNat (rd s R.TWN_PEPOCH).toNat s.twin.maxSeen (isHome s)

/-- The twin control has changed in what an epoch's raise records alone. -/
def EpochsOnly (x y : Twin) : Prop := y = { x with raised := y.raised, epochEnd := y.epochEnd, epochNvr := y.epochNvr }

/-- An epoch taken, and written to the NVR. -/
def epochTaken (s : State) (n : Nat) : State :=
  setTwin (wr s R.TWN_EPOCH (BitVec.ofNat 32 n)) { s.twin with raised := true, epochNvr := BitVec.ofNat 32 n }

theorem raiseEpoch_eq (s : State) : raiseEpoch s =
    if epochDue s < 2 ^ 32 then (epochTaken s (epochDue s), true) else (setTwin s { s.twin with epochEnd := true }, false) := rfl

section
variable (s : State)

theorem raiseEpoch_made {s : State} (room : epochDue s < 2 ^ 32) : raiseEpoch s = (epochTaken s (epochDue s), true) := if_pos room

theorem rd_epochTaken (n : Nat) : rd (epochTaken s n) R.TWN_EPOCH = BitVec.ofNat 32 n := by rw [epochTaken, rd_setTwin, rd_wr_same]

theorem raised_room {s : State} (made : (raiseEpoch s).2 = true) : epochDue s < 2 ^ 32 := by
  by_contra full
  rw [raiseEpoch_eq, if_neg full] at made
  exact Bool.noConfusion made

@[simp] theorem plantData_raiseEpoch : plantData (raiseEpoch s).1 = plantData s := by
  rw [raiseEpoch_eq]
  split <;> rfl

theorem rd_raiseEpoch_ne {k : Nat} (h : k ≠ R.TWN_EPOCH) : rd (raiseEpoch s).1 k = rd s k := by
  rw [raiseEpoch_eq]
  split
  · exact rd_wr_ne s _ h
  · rfl

theorem epochsOnly_raiseEpoch : EpochsOnly s.twin (raiseEpoch s).1.twin := by
  rw [raiseEpoch_eq]
  split <;> rfl

@[simp] theorem plantData_loneEpoch : plantData (loneEpoch s) = plantData s := by
  unfold loneEpoch
  split
  · rfl
  · exact plantData_raiseEpoch s

theorem rd_loneEpoch_ne {k : Nat} (h : k ≠ R.TWN_EPOCH) : rd (loneEpoch s) k = rd s k := by
  unfold loneEpoch
  split
  · rfl
  · exact rd_raiseEpoch_ne s h

theorem epochsOnly_loneEpoch : EpochsOnly s.twin (loneEpoch s).twin := by
  unfold loneEpoch
  split
  · rfl
  · exact epochsOnly_raiseEpoch s

end

/-! ## The mode (R456) -/

/-- SYS_MODE shows a mode and the reason for it, a change raises its event, and the configuration locks. -/
def modeShown (s : State) (md reason : Nat) : State :=
  let u := wr s R.SYS_MODE (BitVec.ofNat 32 (reason * 2 ^ 24 + modeNow s * 2 ^ 12 + bits (rd s R.SYS_MODE) 11 6 * 2 ^ 6 + md))
  let u := if modeNow s = md then u else raiseBit u 0x00 0
  { u with wake := false, rwlLocked := u.rwlLocked || md == mdACTIVE || md == mdSTANDBY || md == mdDOZE }

/-- A mode entered: it is shown, and a lone module has its epoch (R329). -/
def modeEntered (s : State) (md reason : Nat) : State :=
  if md = mdACTIVE then loneEpoch (modeShown s md reason) else modeShown s md reason

section
variable (s : State) (md reason : Nat)

theorem pageUpdate_modeShown : PageUpdate [0x00, 0x07] s (modeShown s md reason) := by
  have word (v : Word) : PageUpdate [0x00, 0x07] s (wr s R.SYS_MODE v) := pageUpdate_wr s v (by decide)
  unfold modeShown
  dsimp only
  split
  · exact (word _).trans ⟨rfl, rfl, fun _ _ => rfl⟩
  · exact ((word _).trans (pageUpdate_raiseBit _ 0 (by decide) (by decide) (by decide))).trans ⟨rfl, rfl, fun _ _ => rfl⟩

/-- After its mode is shown, a module does on the mode's own pages what else the mode asks for. -/
theorem pageUpdate_changeMode : PageUpdate modePages (modeEntered s md reason) (changeMode s md reason) := by
  have started (u : State) : PageUpdate modePages u (if md = mdACTIVE ∧ modeNow s ≠ md then
      (match startDetail (modeNow s) with | some d => postStart u d | none => u) else u) := by
    split
    · split
      · exact pageUpdate_postStart u _
      · exact PageUpdate.refl _ u
    · exact PageUpdate.refl _ u
  exact (started _).trans (pageUpdate_refreshAll _)

theorem rd_modeEntered {k : Nat} (page : keyPage k ∉ [0x00, 0x07]) (epoch : k ≠ R.TWN_EPOCH) : rd (modeEntered s md reason) k = rd s k := by
  have shown := (pageUpdate_modeShown s md reason).regs k page
  unfold modeEntered
  split
  · exact (rd_loneEpoch_ne _ epoch).trans shown
  · exact shown

@[simp] theorem plantData_changeMode : plantData (changeMode s md reason) = plantData s := by
  refine (pageUpdate_changeMode s md reason).data.trans (Eq.trans ?_ (pageUpdate_modeShown s md reason).data)
  unfold modeEntered
  split
  · exact plantData_loneEpoch _
  · rfl

theorem rd_changeMode {k : Nat} (page : keyPage k ∉ 0x00 :: modePages) (epoch : k ≠ R.TWN_EPOCH) : rd (changeMode s md reason) k = rd s k := by
  have shown : [0x00, 0x07] ⊆ 0x00 :: modePages := List.cons_subset_cons _ (List.cons_subset_cons _ (List.nil_subset _))
  exact ((pageUpdate_changeMode s md reason).regs k fun mem => page (List.mem_cons_of_mem _ mem)).trans
    (rd_modeEntered s md reason (fun mem => page (shown mem)) epoch)

@[simp] theorem fld_changeMode_TWN_STAT (f : Fld) : fld (changeMode s md reason) R.TWN_STAT f = fld s R.TWN_STAT f :=
  congrArg (bits · f.hi f.lo) (rd_changeMode s md reason (by decide) (by decide))

@[simp] theorem roleOf_changeMode : roleOf (changeMode s md reason) = roleOf s := fld_changeMode_TWN_STAT s md reason _

@[simp] theorem syncOf_changeMode : syncOf (changeMode s md reason) = syncOf s := fld_changeMode_TWN_STAT s md reason _

theorem epochsOnly_changeMode : EpochsOnly s.twin (changeMode s md reason).twin := by
  rw [(pageUpdate_changeMode s md reason).twin, ← (pageUpdate_modeShown s md reason).twin]
  unfold modeEntered
  split
  · exact epochsOnly_loneEpoch _
  · rfl

/-- A paired module, or one whose epoch has been raised, keeps its epoch. -/
theorem epoch_changeMode {s : State} (kept : s.twin.raised = true) : rd (changeMode s md reason) R.TWN_EPOCH = rd s R.TWN_EPOCH := by
  have shown := pageUpdate_modeShown s md reason
  refine ((pageUpdate_changeMode s md reason).regs _ (by decide)).trans (Eq.trans ?_ (shown.regs _ (by decide)))
  unfold modeEntered
  split
  · rw [loneEpoch, shown.twin, kept, Bool.or_true, if_pos rfl]
  · rfl

theorem mode_word {x was md : Nat} (reason : Nat) (h : md < 16) :
    bits (BitVec.ofNat 32 (reason * 2 ^ 24 + was * 2 ^ 12 + x * 2 ^ 6 + md)) 3 0 = md := by
  simp only [bits, natBits, BitVec.toNat_ofNat, Nat.shiftRight_zero]
  omega

theorem modeNow_changeMode {md : Nat} (h : md < 16) : modeNow (changeMode s md reason) = md := by
  have shown : rd (modeShown s md reason) R.SYS_MODE =
      BitVec.ofNat 32 (reason * 2 ^ 24 + modeNow s * 2 ^ 12 + bits (rd s R.SYS_MODE) 11 6 * 2 ^ 6 + md) := by
    unfold modeShown
    dsimp only
    split
    · exact rd_wr_same s _ _
    · exact (rd_raiseBit_ne _ (by decide) (by decide)).trans (rd_wr_same s _ _)
  have entered : rd (modeEntered s md reason) R.SYS_MODE = rd (modeShown s md reason) R.SYS_MODE := by
    unfold modeEntered
    split
    · exact rd_loneEpoch_ne _ (by decide)
    · rfl
  rw [modeNow, (pageUpdate_changeMode s md reason).fld (by decide), fld, entered, shown]
  exact mode_word reason h

end

/-! ## The role (R326, R328) -/

section
variable (s : State) (r : Nat)

/-- The event of a role that changes. -/
def roleEvent (s : State) (r : Nat) : State := if roleOf s = r then s else raiseBit s 0x88 0

/-- A role stands in TWN_STAT and SUBSTATE. -/
def roleShown (s : State) (r : Nat) : State := setSub (setFld (roleEvent s r) R.TWN_STAT F.TWN_STAT_ROLE r) 0x88 r

theorem setRole_eq : setRole s r = roleLines (roleShown s r) := rfl

theorem rd_roleEvent_ne {k : Nat} (isr : k ≠ R.PG_ISR 0x88) (pend : k ≠ R.EVT_PEND 4) : rd (roleEvent s r) k = rd s k := by
  unfold roleEvent
  split
  · rfl
  · exact rd_raiseBit_ne s isr pend

theorem rd_roleShown_ne {k : Nat} (stat : k ≠ R.TWN_STAT) (state : k ≠ R.PG_STATE 0x88) (isr : k ≠ R.PG_ISR 0x88) (pend : k ≠ R.EVT_PEND 4) :
    rd (roleShown s r) k = rd s k :=
  (rd_setFld_ne _ _ _ state).trans ((rd_setFld_ne _ _ _ stat).trans (rd_roleEvent_ne s r isr pend))

theorem rd_roleLines_ne {k : Nat} (stat : k ≠ R.TWN_STAT) : rd (roleLines s) k = rd s k := by
  unfold roleLines
  dsimp only
  split
  · exact rd_setFld_ne _ _ _ stat
  · exact (rd_setFld_ne _ _ _ stat).trans (rd_setFld_ne _ _ _ stat)

theorem rd_setRole_ne {k : Nat} (stat : k ≠ R.TWN_STAT) (state : k ≠ R.PG_STATE 0x88) (isr : k ≠ R.PG_ISR 0x88) (pend : k ≠ R.EVT_PEND 4) :
    rd (setRole s r) k = rd s k :=
  (rd_roleLines_ne _ stat).trans (rd_roleShown_ne s r stat state isr pend)

@[simp] theorem paired_roleShown : paired (roleShown s r) = paired s := by
  rw [paired, flag, fld, rd_roleShown_ne s r (by decide) (by decide) (by decide) (by decide)]
  rfl

theorem fld_roleLines_other {f : Fld} (out : Apart F.TWN_STAT_ROLE_OUT f) (takeover : Apart F.TWN_STAT_TAKEOVER f) :
    fld (roleLines s) R.TWN_STAT f = fld s R.TWN_STAT f := by
  have line (u : State) (v : Nat) : fld (setFld u R.TWN_STAT F.TWN_STAT_ROLE_OUT v) R.TWN_STAT f = fld u R.TWN_STAT f :=
    fld_setFld_other u _ F.TWN_STAT_ROLE_OUT f v (by decide) (by decide) out
  have takeover (u : State) (v : Nat) : fld (setFld u R.TWN_STAT F.TWN_STAT_TAKEOVER v) R.TWN_STAT f = fld u R.TWN_STAT f :=
    fld_setFld_other u _ F.TWN_STAT_TAKEOVER f v (by decide) (by decide) takeover
  unfold roleLines
  dsimp only
  split
  · exact line s _
  · exact (takeover _ _).trans (line s _)

/-- ROLE_OUT is high in the active role of a pair (R326). -/
theorem roleOut_roleLines : flag (roleLines s) R.TWN_STAT F.TWN_STAT_ROLE_OUT = (paired s && roleOf s == rlACTIVE) := by
  have line : flag (setFld s R.TWN_STAT F.TWN_STAT_ROLE_OUT (b2n (paired s && roleOf s == rlACTIVE))) R.TWN_STAT F.TWN_STAT_ROLE_OUT =
      (paired s && roleOf s == rlACTIVE) := by
    rw [flag, fld_setFld_same _ _ _ _ (by decide) (by decide)]
    cases paired s && roleOf s == rlACTIVE <;> rfl
  unfold roleLines
  dsimp only
  split
  · exact line
  · rw [flag, fld_setFld_other _ _ F.TWN_STAT_TAKEOVER F.TWN_STAT_ROLE_OUT _ (by decide) (by decide) (.inr (by decide))]
    exact line

theorem roleOf_roleShown {r : Nat} (h : r < 8) : roleOf (roleShown s r) = r :=
  (fld_setFld_ne _ _ _ _ (by decide)).trans ((fld_setFld_same _ _ _ _ (by decide) (by decide)).trans (Nat.mod_eq_of_lt h))

theorem roleOf_setRole {r : Nat} (h : r < 8) : roleOf (setRole s r) = r :=
  (fld_roleLines_other _ (by decide) (by decide)).trans (roleOf_roleShown s h)

theorem roleOut_setRole {r : Nat} (h : r < 8) : flag (setRole s r) R.TWN_STAT F.TWN_STAT_ROLE_OUT = (paired s && r == rlACTIVE) := by
  rw [setRole_eq, roleOut_roleLines, roleOf_roleShown s h, paired_roleShown]

theorem roleOut_setRole_standby : flag (setRole s rlSTANDBY) R.TWN_STAT F.TWN_STAT_ROLE_OUT = false := by
  have passive : (rlSTANDBY == rlACTIVE) = false := rfl
  rw [roleOut_setRole s (by decide), passive, Bool.and_false]

/-- A field of TWN_STAT beside the role and its lines. -/
theorem fld_setRole_other {f : Fld} (role : Apart F.TWN_STAT_ROLE f) (out : Apart F.TWN_STAT_ROLE_OUT f) (takeover : Apart F.TWN_STAT_TAKEOVER f) :
    fld (setRole s r) R.TWN_STAT f = fld s R.TWN_STAT f := by
  have shown : fld (roleShown s r) R.TWN_STAT f = fld (roleEvent s r) R.TWN_STAT f :=
    (fld_setFld_ne _ _ f _ (by decide)).trans (fld_setFld_other _ _ F.TWN_STAT_ROLE f _ (by decide) (by decide) role)
  have event : fld (roleEvent s r) R.TWN_STAT f = fld s R.TWN_STAT f :=
    congrArg (bits · f.hi f.lo) (rd_roleEvent_ne s r (by decide) (by decide))
  exact (fld_roleLines_other _ out takeover).trans (shown.trans event)

@[simp] theorem syncOf_setRole : syncOf (setRole s r) = syncOf s := fld_setRole_other s r (by decide) (by decide) (by decide)

/-- A change of role raises its event. -/
theorem isr_setRole {s : State} {r : Nat} (changed : roleOf s ≠ r) : (rd (setRole s r) (R.PG_ISR 0x88)).getLsbD 0 = true := by
  rw [setRole_eq, rd_roleLines_ne _ (by decide), roleShown, setSub, rd_setFld_ne _ _ _ (by decide), rd_setFld_ne _ _ _ (by decide), roleEvent,
    if_neg changed]
  exact raiseBit_isr_bit s (by decide) (by decide)

theorem pageUpdate_setRole : PageUpdate [0x07, 0x88] s (setRole s r) := by
  have stat (u : State) (f : Fld) (v : Nat) : PageUpdate [0x07, 0x88] u (setFld u R.TWN_STAT f v) := pageUpdate_setFld u f v (by decide)
  have event : PageUpdate [0x07, 0x88] s (roleEvent s r) := by
    unfold roleEvent
    split
    · exact PageUpdate.refl _ s
    · exact pageUpdate_raiseBit s 0 (by decide) (by decide) (by decide)
  have lines (u : State) : PageUpdate [0x07, 0x88] u (roleLines u) := by
    unfold roleLines
    dsimp only
    split
    · exact stat u _ _
    · exact (stat u _ _).trans (stat _ _ _)
  exact ((event.trans (stat _ _ _)).trans (pageUpdate_setFld _ _ _ (by decide))).trans (lines _)

@[simp] theorem plantData_setRole : plantData (setRole s r) = plantData s := (pageUpdate_setRole s r).data

@[simp] theorem twin_setRole : (setRole s r).twin = s.twin := (pageUpdate_setRole s r).twin

end

/-! ## SYNC (R347) -/

section
variable (s : State) (v : Nat)

/-- The twin control of a module that has become SYNCED: the counts that run since then restart (R347, R349, R353). -/
def syncedTwin (s : State) : Twin :=
  { s.twin with sweeps := 0, shCompared := 0, shIncomp := 0, shMismatch := 0, laneErr0 := 0, laneErr1 := 0, hbSilent := 0, syncAt := s.now,
                sweepAt := s.now, queue := [] }

/-- SYNC shows a state; becoming SYNCED restarts counts, and both that and leaving SYNCED raise an event. -/
theorem setSync_cases : setSync s v = setFld s R.TWN_STAT F.TWN_STAT_SYNC v ∨
    setSync s v = raiseBit (setFld s R.TWN_STAT F.TWN_STAT_SYNC v) 0x88 6 ∨
    (v = sySYNCED ∧ setSync s v = raiseBit (setTwin (setFld s R.TWN_STAT F.TWN_STAT_SYNC v) (syncedTwin s)) 0x88 5) := by
  unfold setSync
  dsimp only
  split
  next synced => exact .inr (.inr ⟨synced.1, rfl⟩)
  · split
    · exact .inr (.inl rfl)
    · exact .inl rfl

theorem rd_setSync_ne {k : Nat} (isr : k ≠ R.PG_ISR 0x88) (pend : k ≠ R.EVT_PEND 4) :
    rd (setSync s v) k = rd (setFld s R.TWN_STAT F.TWN_STAT_SYNC v) k := by
  obtain same | event | ⟨-, synced⟩ := setSync_cases s v
  · rw [same]
  · rw [event, rd_raiseBit_ne _ isr pend]
  · rw [synced, rd_raiseBit_ne _ isr pend, rd_setTwin]

theorem syncOf_setSync {v : Nat} (h : v < 4) : syncOf (setSync s v) = v := by
  rw [syncOf, fld, rd_setSync_ne s v (by decide) (by decide), ← fld, fld_setFld_same _ _ _ _ (by decide) (by decide)]
  exact Nat.mod_eq_of_lt h

theorem fld_setSync_other {f : Fld} (out : f.hi < 24 ∨ 25 < f.lo) : fld (setSync s v) R.TWN_STAT f = fld s R.TWN_STAT f := by
  rw [fld, rd_setSync_ne s v (by decide) (by decide), ← fld]
  exact fld_setFld_other _ _ F.TWN_STAT_SYNC f _ (by decide) (by decide) out

@[simp] theorem roleOf_setSync : roleOf (setSync s v) = roleOf s := fld_setSync_other s v (.inr (by decide))

@[simp] theorem plantData_setSync : plantData (setSync s v) = plantData s := by
  obtain same | event | ⟨-, synced⟩ := setSync_cases s v
  · rw [same, plantData_setFld]
  · rw [event, plantData_raiseBit, plantData_setFld]
  · rw [synced, plantData_raiseBit, plantData_setTwin, plantData_setFld]

/-- A state other than SYNCED leaves the twin control. -/
theorem twin_setSync {s : State} {v : Nat} (other : v ≠ sySYNCED) : (setSync s v).twin = s.twin := by
  obtain same | event | ⟨synced, -⟩ := setSync_cases s v
  · rw [same, setFld_twin]
  · rw [event, raiseBit_twin, setFld_twin]
  · exact absurd synced other

/-- What does not count since SYNCED is kept. -/
theorem twin_setSync_keeps {α : Type} (part : Twin → α) (kept : part (syncedTwin s) = part s.twin) : part (setSync s v).twin = part s.twin := by
  obtain same | event | ⟨-, synced⟩ := setSync_cases s v
  · rw [same, setFld_twin]
  · rw [event, raiseBit_twin, setFld_twin]
  · rw [synced, raiseBit_twin, twin_setTwin, kept]

@[simp] theorem twin_setSync_UNSYNCED : (setSync s syUNSYNCED).twin = s.twin := twin_setSync (by decide)

end

end Sys2Proof.Machine
end

section
/-! SUPPORT. A module that changes its role at a tick boundary (R336, R351, R352). -/

namespace Sys2Proof.Machine

open Sys2Proof.Safety

/-! ## Handovers that are cancelled, and requests and exchanges that are dropped -/

section
variable (s : State)

@[simp] theorem twin_cancelHandover : (cancelHandover s).twin = { s.twin with hoReq := false, hoRev := false, hoTick := none } := rfl

@[simp] theorem plantData_cancelHandover : plantData (cancelHandover s) = plantData s := rfl

theorem rd_cancelHandover_ne {k : Nat} (h : k ≠ R.TWN_STAT) : rd (cancelHandover s) k = rd s k := rd_setFld_ne _ _ _ h

theorem fld_cancelHandover_other {f : Fld} (out : f.hi < 18 ∨ 18 < f.lo) : fld (cancelHandover s) R.TWN_STAT f = fld s R.TWN_STAT f :=
  fld_setFld_other _ _ F.TWN_STAT_HO_PEND f 0 (by decide) (by decide) out

@[simp] theorem roleOf_cancelHandover : roleOf (cancelHandover s) = roleOf s := fld_cancelHandover_other s (.inr (by decide))

@[simp] theorem syncOf_cancelHandover : syncOf (cancelHandover s) = syncOf s := fld_cancelHandover_other s (.inr (by decide))

/-- A mode request is dropped on the SYS page. -/
theorem pageUpdate_discardRequest : PageUpdate [0x00, 0x07, 0x41] s (discardRequest s) := by
  have mode (u : State) (f : Fld) (v : Nat) : PageUpdate [0x00, 0x07, 0x41] u (setFld u R.SYS_MODE f v) := pageUpdate_setFld u f v (by decide)
  unfold discardRequest
  dsimp only
  split
  · exact (((mode s _ _).trans (mode _ _ _)).trans (mode _ _ _)).trans (pageUpdate_raiseBit _ 1 (by decide) (by decide) (by decide))
  · exact PageUpdate.refl _ s

/-- An exchange whose tick nobody named goes back on the XCH page. -/
theorem pageUpdate_dropUnnamed : PageUpdate [0x00, 0x07, 0x41] s (dropUnnamed s) := by
  have xch (u : State) (k : Nat) (f : Fld) (v : Nat) (mem : keyPage k ∈ [0x00, 0x07, 0x41]) : PageUpdate [0x00, 0x07, 0x41] u (setFld u k f v) :=
    pageUpdate_setFld u f v mem
  unfold dropUnnamed
  split
  · exact (((xch s _ _ _ (by decide)).trans (xch _ _ _ _ (by decide))).trans (xch _ _ _ _ (by decide))).trans (xch _ _ _ _ (by decide))
  · exact PageUpdate.refl _ s

end

/-! ## A change of role -/

/-- What the change of a module's role leaves of the twin page: all but the role, its interrupt and, in ACTIVE, the epoch. -/
abbrev roleKeys : List Nat := [R.TWN_STAT, R.PG_STATE 0x88, R.PG_ISR 0x88, R.TWN_EPOCH]

/-- A module has taken a role at a boundary, with the mode and the SYNC that go with it; nothing is left to decide or to hand over. -/
structure RoleChanged (r md sync : Nat) (s t : State) : Prop where
  role : roleOf t = r
  mode : modeNow t = md
  shown : syncOf t = sync
  out : flag t R.TWN_STAT F.TWN_STAT_ROLE_OUT = (paired s && r == rlACTIVE)
  tick : t.twin.hoTick = none
  undecided : t.twin.decided = none
  stays : t.twin.demote = false
  regs : ∀ k, keyPage k = 0x88 → k ∉ roleKeys → rd t k = rd s k
  epoch : s.twin.raised = true → rd t R.TWN_EPOCH = rd s R.TWN_EPOCH
  data : plantData t = plantData s

section
variable {r md sync : Nat} {s t u : State}

/-- A change of role after an update of other pages. -/
theorem RoleChanged.before {ps : List Nat} (update : PageUpdate ps s t) (out : 0x88 ∉ ps) (h : RoleChanged r md sync t u) :
    RoleChanged r md sync s u where
  role := h.role
  mode := h.mode
  shown := h.shown
  out := by
    have pair : paired t = paired s := congrArg (· != 0) (update.fld (k := R.TWN_CFG) out F.TWN_CFG_PAIR)
    rw [h.out, pair]
  tick := h.tick
  undecided := h.undecided
  stays := h.stays
  regs k page other := (h.regs k page other).trans (update.regs k (page ▸ out))
  epoch raised := (h.epoch (update.twin ▸ raised)).trans (update.regs _ out)
  data := h.data.trans update.data

/-- A change of role shown by a flag of TWN_STAT and an event. -/
theorem RoleChanged.event (h : RoleChanged r md sync s t) {f : Fld} (le : f.lo ≤ f.hi) (low : f.hi < 22) (v n : Nat) :
    RoleChanged r md sync s (raiseBit (setFld t R.TWN_STAT f v) 0x88 n) := by
  have other (k : Nat) (isr : k ≠ R.PG_ISR 0x88) (pend : k ≠ R.EVT_PEND 4) (stat : k ≠ R.TWN_STAT) :
      rd (raiseBit (setFld t R.TWN_STAT f v) 0x88 n) k = rd t k := (rd_raiseBit_ne _ isr pend).trans (rd_setFld_ne _ _ _ stat)
  have stat (g : Fld) (high : f.hi < g.lo) : fld (raiseBit (setFld t R.TWN_STAT f v) 0x88 n) R.TWN_STAT g = fld t R.TWN_STAT g :=
    (congrArg (bits · g.hi g.lo) (rd_raiseBit_ne (setFld t R.TWN_STAT f v) (by decide) (by decide))).trans
      (fld_setFld_other t _ f g v le (by omega) (.inr high))
  have twin : (raiseBit (setFld t R.TWN_STAT f v) 0x88 n).twin = t.twin := raiseBit_twin _ _ _
  exact
    { role := (stat _ (by show f.hi < 29; omega)).trans h.role
      mode := (congrArg (bits · 3 0) (other R.SYS_MODE (by decide) (by decide) (by decide))).trans h.mode
      shown := (stat _ (by show f.hi < 24; omega)).trans h.shown
      out := (congrArg (· != 0) (stat F.TWN_STAT_ROLE_OUT low)).trans h.out
      tick := (congrArg Twin.hoTick twin).trans h.tick
      undecided := (congrArg Twin.decided twin).trans h.undecided
      stays := (congrArg Twin.demote twin).trans h.stays
      regs := fun k page out => by
        have keys : k ≠ R.TWN_STAT ∧ k ≠ R.PG_ISR 0x88 := ⟨fun e => out (by simp [e]), fun e => out (by simp [e])⟩
        have pend : k ≠ R.EVT_PEND 4 := fun e => absurd (e ▸ page) (by decide)
        exact (other k keys.2 pend keys.1).trans (h.regs k page out)
      epoch := fun raised => (other _ (by decide) (by decide) (by decide)).trans (h.epoch raised)
      data := (plantData_raiseBit _ _ _).trans h.data }

/-- A change of role ends with the change of mode. -/
theorem RoleChanged.ofMode (reason : Nat) (role : roleOf t = r) (shown : syncOf t = sync)
    (out : flag t R.TWN_STAT F.TWN_STAT_ROLE_OUT = (paired s && r == rlACTIVE)) (tick : t.twin.hoTick = none) (undecided : t.twin.decided = none)
    (stays : t.twin.demote = false) (regs : ∀ k, keyPage k = 0x88 → k ∉ roleKeys.take 3 → rd t k = rd s k)
    (raised : t.twin.raised = s.twin.raised) (data : plantData t = plantData s) (small : md < 16) :
    RoleChanged r md sync s (changeMode t md reason) := by
  have twin := epochsOnly_changeMode t md reason
  exact
    { role := (roleOf_changeMode t md reason).trans role
      mode := modeNow_changeMode t reason small
      shown := (syncOf_changeMode t md reason).trans shown
      out := (congrArg (· != 0) (fld_changeMode_TWN_STAT t md reason F.TWN_STAT_ROLE_OUT)).trans out
      tick := (congrArg Twin.hoTick twin).trans tick
      undecided := (congrArg Twin.decided twin).trans undecided
      stays := (congrArg Twin.demote twin).trans stays
      regs := fun k page other => (rd_changeMode t md reason (page ▸ by decide) fun e => other (by simp [e])).trans
        (regs k page fun mem => other (List.mem_of_mem_take mem))
      epoch := fun was => (epoch_changeMode md reason (raised.trans was)).trans (regs _ (by decide) (by decide))
      data := (plantData_changeMode t md reason).trans data }

end

section
variable (s : State) (reason : Nat)

/-- The partner's last heartbeat showed SAFE. -/
def partnerSafe (s : State) : Bool := match s.twin.hb with | some h => h.mode == 6 | none => false

/-- The active role taken, before the mode follows. -/
def activeTaken (s : State) : State := cancelHandover (setRole (setSync (clearMirror s) syUNSYNCED) rlACTIVE)

theorem becomeActive_eq : becomeActive s reason =
    changeMode (activeTaken (dropUnnamed (discardRequest s))) (if partnerSafe s then mdSAFE else mdACTIVE) reason := rfl

/-- The active role is entered UNSYNCED and in the partner's mode (R351). -/
theorem roleChanged_becomeActive :
    RoleChanged rlACTIVE (if partnerSafe s then mdSAFE else mdACTIVE) syUNSYNCED s (becomeActive s reason) := by
  rw [becomeActive_eq]
  refine RoleChanged.before ((pageUpdate_discardRequest s).trans (pageUpdate_dropUnnamed _)) (by decide) ?_
  generalize dropUnnamed (discardRequest s) = u
  have keys (k : Nat) (page : keyPage k = 0x88) (other : k ∉ roleKeys.take 3) : rd (activeTaken u) k = rd u k := by
    simp only [List.take, List.mem_cons, List.not_mem_nil, or_false, not_or] at other
    obtain ⟨stat, state, isr⟩ := other
    have pend : k ≠ R.EVT_PEND 4 := fun e => absurd (e ▸ page) (by decide)
    rw [activeTaken, rd_cancelHandover_ne _ stat, rd_setRole_ne _ _ stat state isr pend, rd_setSync_ne _ _ isr pend, rd_setFld_ne _ _ _ stat,
      clearMirror, rd_setTwin]
  have out : flag (activeTaken u) R.TWN_STAT F.TWN_STAT_ROLE_OUT = (paired u && rlACTIVE == rlACTIVE) := by
    have pair : paired (setSync (clearMirror u) syUNSYNCED) = paired u := by
      rw [paired, flag, fld, rd_setSync_ne _ _ (by decide) (by decide), rd_setFld_ne _ _ _ (by decide)]
      rfl
    rw [activeTaken, flag, fld_cancelHandover_other _ (.inr (by decide)), ← flag, roleOut_setRole _ (by decide), pair]
  refine RoleChanged.ofMode reason ?_ ?_ out rfl ?_ ?_ keys ?_ ?_ (by split <;> decide)
  · rw [activeTaken, roleOf_cancelHandover, roleOf_setRole _ (by decide)]
  · rw [activeTaken, syncOf_cancelHandover, syncOf_setRole, syncOf_setSync _ (by decide)]
  all_goals simp only [activeTaken, twin_cancelHandover, twin_setRole, twin_setSync_UNSYNCED, plantData_cancelHandover, plantData_setRole,
    plantData_setSync]
  all_goals rfl

/-- The standby role taken, before the mode follows. -/
def standbyTaken (s : State) (sync : Nat) : State :=
  let u := setSync (setRole (clearMirror (cancelHandover s)) rlSTANDBY) sync
  setTwin u { u.twin with heard := true }

theorem becomeStandby_eq (sync : Nat) : becomeStandby s reason sync = changeMode (standbyTaken (discardRequest s) sync) mdSTANDBY reason := rfl

/-- The standby role is entered in STANDBY, with the SYNC that is given (R336, R352). -/
theorem roleChanged_becomeStandby {sync : Nat} (h : sync < 4) : RoleChanged rlSTANDBY mdSTANDBY sync s (becomeStandby s reason sync) := by
  rw [becomeStandby_eq]
  refine RoleChanged.before (pageUpdate_discardRequest s) (by decide) ?_
  generalize discardRequest s = u
  have keys (k : Nat) (page : keyPage k = 0x88) (other : k ∉ roleKeys.take 3) : rd (standbyTaken u sync) k = rd u k := by
    simp only [List.take, List.mem_cons, List.not_mem_nil, or_false, not_or] at other
    obtain ⟨stat, state, isr⟩ := other
    have pend : k ≠ R.EVT_PEND 4 := fun e => absurd (e ▸ page) (by decide)
    rw [standbyTaken, rd_setTwin, rd_setSync_ne _ _ isr pend, rd_setFld_ne _ _ _ stat, rd_setRole_ne _ _ stat state isr pend, clearMirror,
      rd_setTwin, rd_cancelHandover_ne _ stat]
  have out : flag (standbyTaken u sync) R.TWN_STAT F.TWN_STAT_ROLE_OUT = (paired u && rlSTANDBY == rlACTIVE) := by
    have passive : (rlSTANDBY == rlACTIVE) = false := rfl
    rw [passive, Bool.and_false]
    exact (congrArg (· != 0) (fld_setSync_other _ sync (f := F.TWN_STAT_ROLE_OUT) (.inl (by decide)))).trans (roleOut_setRole_standby _)
  have twin {α : Type} (part : Twin → α) (kept : ∀ v, part (syncedTwin v) = part v.twin) :
      part (setSync (setRole (clearMirror (cancelHandover u)) rlSTANDBY) sync).twin = part (clearMirror (cancelHandover u)).twin := by
    rw [twin_setSync_keeps _ _ part (kept _), twin_setRole]
  refine RoleChanged.ofMode reason ?_ ?_ out ?_ ?_ ?_ keys ?_ ?_ (by decide)
  · exact (roleOf_setSync _ sync).trans (roleOf_setRole _ (by decide))
  · exact syncOf_setSync _ h
  · exact twin Twin.hoTick fun _ => rfl
  · exact twin Twin.decided fun _ => rfl
  · exact twin Twin.demote fun _ => rfl
  · exact twin Twin.raised fun _ => rfl
  · rw [standbyTaken, plantData_setTwin, plantData_setSync, plantData_setRole]
    rfl

end

end Sys2Proof.Machine
end

section
/-! SUPPORT. The decision, the role keeper, the demotion and the switch of a planned handover (R327, R334, R336, R351, R352). -/

namespace Sys2Proof.Machine

open Sys2Proof.Safety

/-! ## ENTER_ACTIVE_ROLE (R334, R351) -/

theorem enterActiveRole_undecided {s : State} (h : s.twin.decided = none) : enterActiveRole s = s := by
  rw [enterActiveRole, h]

/-- The word of TWN_TKO. -/
def takeoverWord (s : State) (reason silent : Nat) : Word :=
  BitVec.ofNat 32 (2 ^ 31 + b2n (syncOf s != sySYNCED) * 2 ^ 30 + fld s R.TWN_STAT F.TWN_STAT_PROLE * 2 ^ 21 + silent * 2 ^ 8 + reason)

theorem rd_recordTakeover (s : State) (reason silent : Nat) : rd (recordTakeover s reason silent) R.TWN_TKO = takeoverWord s reason silent :=
  (rd_wr_ne _ _ (by decide)).trans ((rd_wr_ne _ _ (by decide)).trans (rd_wr_same _ _ _))

theorem rd_recordTakeover_ne (s : State) (reason silent : Nat) {k : Nat} (tko : k ≠ R.TWN_TKO) (low : k ≠ R.TWN_TKOTB 0) (high : k ≠ R.TWN_TKOTB 1) :
    rd (recordTakeover s reason silent) k = rd s k :=
  (rd_wr_ne _ _ high).trans ((rd_wr_ne _ _ low).trans (rd_wr_ne _ _ tko))

/-- The fields of TWN_TKO lie side by side. -/
theorem takeoverWord_fields (s : State) {reason silent : Nat} (hr : reason < 256) (hs : silent < 256) :
    bits (takeoverWord s reason silent) 31 31 = 1 ∧ bits (takeoverWord s reason silent) 7 0 = reason ∧
      bits (takeoverWord s reason silent) 15 8 = silent := by
  have cold : b2n (syncOf s != sySYNCED) ≤ 1 := by cases syncOf s != sySYNCED <;> decide
  have partner : fld s R.TWN_STAT F.TWN_STAT_PROLE < 8 := fld_lt _ _ _
  simp only [takeoverWord, bits, natBits, BitVec.toNat_ofNat, Nat.shiftRight_eq_div_pow]
  omega

section
variable {s : State} {reason silent : Nat}

/-- The boundary at which a decision takes effect, with the takeover recorded. -/
def takeoverRecorded (s : State) (reason silent : Nat) : State := recordTakeover (advanceTo s (nextBoundary s)) reason silent

theorem enterActiveRole_decided (h : s.twin.decided = some (reason, silent)) : enterActiveRole s =
    if roleOf s = rlSTANDBY then raiseBit (setFld (becomeActive (takeoverRecorded s reason silent) 2) R.TWN_STAT F.TWN_STAT_TAKEOVER 1) 0x88 1
    else becomeActive (takeoverRecorded s reason silent) 2 := by
  rw [enterActiveRole, h]
  simp only [roleOf_advanceTo, beq_iff_eq]
  rfl

theorem partnerSafe_takeoverRecorded : partnerSafe (takeoverRecorded s reason silent) = partnerSafe s := by
  have twin : (takeoverRecorded s reason silent).twin = s.twin := by
    rw [takeoverRecorded, recordTakeover, wr_twin, wr_twin, wr_twin, advanceTo_twin]
  rw [partnerSafe, twin]
  rfl

theorem plantData_takeoverRecorded : plantData (takeoverRecorded s reason silent) = plantData s := by
  have recorded (u : State) : plantData (recordTakeover u reason silent) = plantData u := by
    simp only [recordTakeover, plantData_wr]
  rw [takeoverRecorded, recorded, plantData_advanceTo]

theorem paired_takeoverRecorded : paired (takeoverRecorded s reason silent) = paired s := by
  rw [paired, flag, fld, takeoverRecorded, rd_recordTakeover_ne _ _ _ (by decide) (by decide) (by decide), rd_advanceTo]
  rfl

/-- The decision makes the module the active one, in the partner's mode, with the takeover recorded. -/
theorem enterActiveRole_enters (h : s.twin.decided = some (reason, silent)) (hr : reason < 256) (hs : silent < 256) :
    ∃ t, exec .enterActiveRole s = .next t ∧
      roleOf t = rlACTIVE ∧ modeNow t = (if partnerSafe s then mdSAFE else mdACTIVE) ∧
      syncOf t = syUNSYNCED ∧ t.twin.decided = none ∧ flag t R.TWN_TKO F.TWN_TKO_VALID = true ∧ fld t R.TWN_TKO F.TWN_TKO_REASON = reason ∧
      fld t R.TWN_TKO F.TWN_TKO_SILENT = silent ∧
      (roleOf s = rlSTANDBY → flag t R.TWN_STAT F.TWN_STAT_TAKEOVER = true ∧ (rd t (R.PG_ISR 0x88)).getLsbD 1 = true) ∧
      flag t R.TWN_STAT F.TWN_STAT_ROLE_OUT = paired s ∧ SamePlant s t := by
  let u := takeoverRecorded s reason silent
  have became := roleChanged_becomeActive u 2
  have word : rd u R.TWN_TKO = takeoverWord (advanceTo s (nextBoundary s)) reason silent := rd_recordTakeover _ _ _
  obtain ⟨valid, why, slots⟩ := takeoverWord_fields (advanceTo s (nextBoundary s)) hr hs
  have parts {t : State} (changed : RoleChanged rlACTIVE (if partnerSafe u then mdSAFE else mdACTIVE) syUNSYNCED u t) :
      modeNow t = (if partnerSafe s then mdSAFE else mdACTIVE) ∧ flag t R.TWN_TKO F.TWN_TKO_VALID = true ∧
      fld t R.TWN_TKO F.TWN_TKO_REASON = reason ∧ fld t R.TWN_TKO F.TWN_TKO_SILENT = silent ∧
      flag t R.TWN_STAT F.TWN_STAT_ROLE_OUT = paired s ∧ SamePlant s t := by
    have shown : rd t R.TWN_TKO = takeoverWord (advanceTo s (nextBoundary s)) reason silent := (changed.regs _ (by decide) (by decide)).trans word
    refine ⟨partnerSafe_takeoverRecorded ▸ changed.mode, ?_, ?_, ?_, ?_, samePlant_of_plantData (changed.data.trans plantData_takeoverRecorded)⟩
    · exact congrArg (· != 0) ((congrArg (bits · 31 31) shown).trans valid)
    · exact (congrArg (bits · 7 0) shown).trans why
    · exact (congrArg (bits · 15 8) shown).trans slots
    · rw [changed.out, paired_takeoverRecorded]
      exact Bool.and_true _
  by_cases standby : roleOf s = rlSTANDBY
  · have changed := became.event (f := F.TWN_STAT_TAKEOVER) (by decide) (by decide) 1 1
    obtain ⟨mode, valid, why, slots, out, same⟩ := parts changed
    have done : enterActiveRole s = raiseBit (setFld (becomeActive u 2) R.TWN_STAT F.TWN_STAT_TAKEOVER 1) 0x88 1 :=
      (enterActiveRole_decided h).trans (if_pos standby)
    have shown : flag (raiseBit (setFld (becomeActive u 2) R.TWN_STAT F.TWN_STAT_TAKEOVER 1) 0x88 1) R.TWN_STAT F.TWN_STAT_TAKEOVER = true := by
      rw [flag, fld, rd_raiseBit_ne _ (by decide) (by decide), ← fld, fld_setFld_same _ _ _ _ (by decide) (by decide)]
      rfl
    exact ⟨_, congrArg Host.Outcome.next done, changed.role, mode, changed.shown, changed.undecided, valid, why, slots,
      fun _ => ⟨shown, raiseBit_isr_bit _ (by decide) (by decide)⟩, out, same⟩
  · obtain ⟨mode, valid, why, slots, out, same⟩ := parts became
    have done : enterActiveRole s = becomeActive u 2 := (enterActiveRole_decided h).trans (if_neg standby)
    exact ⟨_, congrArg Host.Outcome.next done, became.role, mode, became.shown, became.undecided, valid, why, slots,
      fun was => absurd was standby, out, same⟩

end

/-! ## ROLE_KEEPER_EXPIRY (R327) -/

/-- The role keeper's instant, and what falls due then. -/
def keeperDue (s : State) : State :=
  let u := advanceTo s (BitVec.ofNat 64 (gridTime s + 2500))
  setTwin u { u.twin with demote := true, hoTick := none, hoReq := false }

section
variable {s : State}

theorem roleKeeper_expired (pair : paired s = true) (role : roleOf s = rlACTIVE) (unsent : s.twin.sent = none) :
    roleKeeper s = setRole (keeperDue s) rlSTANDBY := if_neg (by simp [pair, role, unsent])

theorem roleKeeper_other (role : roleOf s ≠ rlACTIVE) : roleKeeper s = s := if_pos (by simp [role])

theorem roleKeeperExpiry_drops (pair : paired s = true) (role : roleOf s = rlACTIVE) (unsent : s.twin.sent = none) :
    ∃ t, exec .roleKeeperExpiry s = .next t ∧ roleOf t = rlSTANDBY ∧ t.twin.demote = true ∧
      flag t R.TWN_STAT F.TWN_STAT_ROLE_OUT = false ∧ (rd t (R.PG_ISR 0x88)).getLsbD 0 = true ∧ modeNow t = modeNow s ∧ SamePlant s t := by
  have before : roleOf (keeperDue s) = rlACTIVE := by simp only [keeperDue, roleOf_setTwin, roleOf_advanceTo, role]
  have changed : roleOf (keeperDue s) ≠ rlSTANDBY := ne_of_eq_of_ne before (by decide)
  have demoted : (keeperDue s).twin.demote = true := by rw [keeperDue, twin_setTwin]
  have kept : plantData (keeperDue s) = plantData s := by rw [keeperDue, plantData_setTwin, plantData_advanceTo]
  have mode : modeNow (setRole (keeperDue s) rlSTANDBY) = modeNow s := by
    rw [modeNow, fld, rd_setRole_ne _ _ (by decide) (by decide) (by decide) (by decide), keeperDue, rd_setTwin, rd_advanceTo]
    rfl
  refine ⟨_, congrArg Host.Outcome.next (roleKeeper_expired pair role unsent), roleOf_setRole _ (by decide), ?_, ?_, isr_setRole changed,
    mode, samePlant_of_plantData ((plantData_setRole _ _).trans kept)⟩
  · rw [twin_setRole, demoted]
  · exact roleOut_setRole_standby _

end

/-! ## DEMOTION (R336) -/

section
variable {s : State}

theorem demotion_none (h : s.twin.demote = false) : demotion s = s := if_pos (by simp [h])

theorem demotion_demotes (h : s.twin.demote = true) : ∃ t, exec .demotion s = .next t ∧ roleOf t = rlSTANDBY ∧ modeNow t = mdSTANDBY ∧
    syncOf t = syUNSYNCED ∧ t.twin.demote = false ∧ flag t R.TWN_STAT F.TWN_STAT_DEMOTED = true ∧ (rd t (R.PG_ISR 0x88)).getLsbD 2 = true ∧
    SamePlant s t := by
  let u := becomeStandby (advanceTo s (nextBoundary s)) 4 syUNSYNCED
  have done : demotion s = raiseBit (setFld u R.TWN_STAT F.TWN_STAT_DEMOTED 1) 0x88 2 := if_neg (by simp [h])
  have changed := (roleChanged_becomeStandby (advanceTo s (nextBoundary s)) 4 (sync := syUNSYNCED) (by decide)).event
    (f := F.TWN_STAT_DEMOTED) (by decide) (by decide) 1 2
  refine ⟨_, congrArg Host.Outcome.next done, changed.role, changed.mode, changed.shown, changed.stays, ?_, raiseBit_isr_bit _ (by decide) (by decide),
    samePlant_of_plantData (changed.data.trans (plantData_advanceTo s _))⟩
  rw [flag, fld, rd_raiseBit_ne _ (by decide) (by decide), ← fld, fld_setFld_same _ _ _ _ (by decide) (by decide)]
  rfl

end

/-! ## HANDOVER_SWITCH (R352) -/

section
variable {s : State} {k : Nat}

theorem handoverSwitch_none (h : s.twin.hoTick = none) : handoverSwitch s = s := by
  rw [handoverSwitch, h]

theorem handoverSwitch_early (h : s.twin.hoTick = some k) (early : s.nextTick < k) : handoverSwitch s = s := by
  rw [handoverSwitch, h]
  exact if_pos early

/-- The active of a handover is its pair's SYNCED standby. -/
theorem handoverSwitch_leaves (h : s.twin.hoTick = some k) (due : k ≤ s.nextTick) (role : roleOf s = rlACTIVE) :
    ∃ t, exec .handoverSwitch s = .next t ∧ roleOf t = rlSTANDBY ∧ modeNow t = mdSTANDBY ∧ syncOf t = sySYNCED ∧ t.twin.hoTick = none ∧
      SamePlant s t := by
  have done : handoverSwitch s = becomeStandby (advanceTo s (nextBoundary s)) 3 sySYNCED := by
    rw [handoverSwitch, h]
    exact (if_neg (Nat.not_lt.mpr due)).trans (if_pos ((roleOf_advanceTo s _).trans role))
  have changed := roleChanged_becomeStandby (advanceTo s (nextBoundary s)) 3 (sync := sySYNCED) (by decide)
  exact ⟨_, congrArg Host.Outcome.next done, changed.role, changed.mode, changed.shown, changed.tick,
    samePlant_of_plantData (changed.data.trans (plantData_advanceTo s _))⟩

theorem epochDue_advanceTo (s : State) (t : DWord) : epochDue (advanceTo s t) = epochDue s := by
  simp only [epochDue, isHome, flag, fld, rd_advanceTo, advanceTo_twin]

/-- A revertive return is recorded by its time alone, but for the third (R354). -/
theorem recordReturn_cases (s : State) : ∃ x : Twin, x = { s.twin with returns := x.returns } ∧
    (recordReturn s = setTwin s x ∨ recordReturn s = raiseBit (setFld (setTwin s x) R.TWN_STAT F.TWN_STAT_REV_SUSP 1) 0x88 7) := by
  refine ⟨{ s.twin with returns := calSeconds s :: recentReturns s }, rfl, ?_⟩
  unfold recordReturn
  dsimp only
  split
  · exact .inr rfl
  · exact .inl rfl

theorem RoleChanged.recordReturn {r md sync : Nat} {s t : State} (h : RoleChanged r md sync s t) : RoleChanged r md sync s (recordReturn t) := by
  obtain ⟨x, twin, cases⟩ := recordReturn_cases t
  have counted : RoleChanged r md sync s (setTwin t x) :=
    { h with tick := (congrArg Twin.hoTick twin).trans h.tick, undecided := (congrArg Twin.decided twin).trans h.undecided,
             stays := (congrArg Twin.demote twin).trans h.stays }
  obtain few | third := cases
  · rw [few]
    exact counted
  · rw [third]
    exact counted.event (by decide) (by decide) 1 7

/-- The standby of a handover is the active one, with an epoch of its own. -/
theorem handoverSwitch_enters (h : s.twin.hoTick = some k) (due : k ≤ s.nextTick) (role : roleOf s = rlSTANDBY) (made : (raiseEpoch s).2 = true) :
    ∃ t, exec .handoverSwitch s = .next t ∧ roleOf t = rlACTIVE ∧ syncOf t = syUNSYNCED ∧ rd t R.TWN_EPOCH = rd (raiseEpoch s).1 R.TWN_EPOCH ∧
      t.twin.hoTick = none ∧ SamePlant s t := by
  let u := advanceTo s (nextBoundary s)
  have now : epochDue u = epochDue s := epochDue_advanceTo s _
  have raisedAt := raiseEpoch_made (s := u) (now ▸ raised_room made)
  have raised : (raiseEpoch u).1.twin.raised = true := by rw [raisedAt]; rfl
  have epoch : rd (raiseEpoch u).1 R.TWN_EPOCH = rd (raiseEpoch s).1 R.TWN_EPOCH := by
    rw [raisedAt, raiseEpoch_made (raised_room made), rd_epochTaken, rd_epochTaken, now]
  have became := roleChanged_becomeActive (raiseEpoch u).1 3
  have done : ∃ rev : Bool, handoverSwitch s = if rev then recordReturn (becomeActive (raiseEpoch u).1 3) else becomeActive (raiseEpoch u).1 3 := by
    refine ⟨u.twin.hoRev, ?_⟩
    rw [handoverSwitch, h]
    refine (if_neg (Nat.not_lt.mpr due)).trans ((if_neg ?_).trans ((if_pos ((roleOf_advanceTo s _).trans role)).trans ?_))
    · exact ne_of_eq_of_ne ((roleOf_advanceTo s _).trans role) (by decide)
    · rw [raisedAt]
      exact if_pos rfl
  obtain ⟨rev, done⟩ := done
  have changed : ∃ md, RoleChanged rlACTIVE md syUNSYNCED (raiseEpoch u).1 (handoverSwitch s) := by
    rw [done]
    split
    · exact ⟨_, became.recordReturn⟩
    · exact ⟨_, became⟩
  obtain ⟨md, changed⟩ := changed
  exact ⟨_, rfl, changed.role, changed.shown, (changed.epoch raised).trans epoch, changed.tick,
    samePlant_of_plantData (changed.data.trans ((plantData_raiseEpoch u).trans (plantData_advanceTo s _)))⟩

end

end Sys2Proof.Machine
end

section
/-! SUPPORT. Updates of fields of TWN_STAT, and heartbeats sent and received (R331, R332, R336). -/

namespace Sys2Proof.Machine

open Sys2Proof.Safety

/-! ## Updates of TWN_STAT -/

/-- An update of the twin page that sets fields of TWN_STAT, shows the role and raises events; a part of the twin control stays, and so do
memory, points and moulds. -/
structure StatUpdate {α : Type} (part : Twin → α) (fs : List Fld) (s t : State) : Prop where
  data : plantData t = plantData s
  twin : part t.twin = part s.twin
  regs : ∀ k, keyPage k = 0x88 → k ∉ [R.TWN_STAT, R.PG_STATE 0x88, R.PG_ISR 0x88] → rd t k = rd s k
  stat : ∀ g : Fld, (∀ f ∈ fs, Apart f g) → fld t R.TWN_STAT g = fld s R.TWN_STAT g

section
variable {α : Type} {part : Twin → α} {fs : List Fld} {s t u : State}

theorem StatUpdate.refl (part : Twin → α) (fs : List Fld) (s : State) : StatUpdate part fs s s := ⟨rfl, rfl, fun _ _ _ => rfl, fun _ _ => rfl⟩

theorem StatUpdate.trans (h : StatUpdate part fs s t) (k : StatUpdate part fs t u) : StatUpdate part fs s u where
  data := k.data.trans h.data
  twin := k.twin.trans h.twin
  regs n page other := (k.regs n page other).trans (h.regs n page other)
  stat g apart := (k.stat g apart).trans (h.stat g apart)

/-- A condition decides whether an update is made. -/
theorem StatUpdate.ite (c : Prop) [Decidable c] (h : StatUpdate part fs s t) (k : StatUpdate part fs s u) :
    StatUpdate part fs s (if c then t else u) := by
  split
  · exact h
  · exact k

theorem statUpdate_setFld (s : State) (f : Fld) (v : Nat) (le : f.lo ≤ f.hi) (h32 : f.hi < 32) (mem : f ∈ fs) :
    StatUpdate part fs s (setFld s R.TWN_STAT f v) where
  data := plantData_setFld s _ f v
  twin := congrArg part (setFld_twin s _ f v)
  regs _ _ other := rd_setFld_ne s f v fun e => other (e ▸ List.mem_cons_self)
  stat g apart := fld_setFld_other s _ f g v le h32 (apart f mem)

/-- An update of other pages. -/
theorem statUpdate_page {ps : List Nat} (h : PageUpdate ps s t) (out : 0x88 ∉ ps) : StatUpdate part fs s t where
  data := h.data
  twin := congrArg part h.twin
  regs k page _ := h.regs k (page ▸ out)
  stat g _ := h.fld (k := R.TWN_STAT) out g

theorem statUpdate_raise (s : State) (n : Nat) : StatUpdate part fs s (raiseBit s 0x88 n) where
  data := plantData_raiseBit s _ n
  twin := congrArg part (raiseBit_twin s _ n)
  regs _ page other := rd_raiseBit_ne s (fun e => other (by simp [e])) fun e => absurd (e ▸ page) (by decide)
  stat g _ := congrArg (bits · g.hi g.lo) (rd_raiseBit_ne s (by decide) (by decide))

theorem statUpdate_setTwin (s : State) (x : Twin) (kept : part x = part s.twin) : StatUpdate part fs s (setTwin s x) where
  data := plantData_setTwin s x
  twin := kept
  regs k _ _ := rd_setTwin s x k
  stat g _ := congrArg (bits · g.hi g.lo) (rd_setTwin s x R.TWN_STAT)

/-- The fields of TWN_STAT that a role shows. -/
abbrev roleFields : List Fld := [F.TWN_STAT_ROLE, F.TWN_STAT_ROLE_OUT, F.TWN_STAT_TAKEOVER]

theorem statUpdate_setRole (s : State) (r : Nat) (sub : roleFields ⊆ fs) : StatUpdate part fs s (setRole s r) where
  data := plantData_setRole s r
  twin := congrArg part (twin_setRole s r)
  regs _ page other := rd_setRole_ne s r (fun e => other (by simp [e])) (fun e => other (by simp [e])) (fun e => other (by simp [e]))
    fun e => absurd (e ▸ page) (by decide)
  stat g apart := fld_setRole_other s r (apart _ (sub (by decide))) (apart _ (sub (by decide))) (apart _ (sub (by decide)))

theorem statUpdate_cancelHandover (s : State) (kept : part { s.twin with hoReq := false, hoRev := false, hoTick := none } = part s.twin)
    (mem : F.TWN_STAT_HO_PEND ∈ fs) : StatUpdate part fs s (cancelHandover s) :=
  (statUpdate_setTwin s _ kept).trans (statUpdate_setFld _ F.TWN_STAT_HO_PEND 0 (by decide) (by decide) mem)

theorem StatUpdate.flag (h : StatUpdate part fs s t) {g : Fld} (apart : ∀ f ∈ fs, Apart f g) :
    flag t R.TWN_STAT g = Machine.flag s R.TWN_STAT g := congrArg (· != 0) (h.stat g apart)

theorem StatUpdate.roleOf (h : StatUpdate part fs s t) (apart : ∀ f ∈ fs, Apart f F.TWN_STAT_ROLE) : roleOf t = Machine.roleOf s := h.stat _ apart

end

/-! ## HEARTBEAT_SEND (R331) -/

section
variable {s : State}

@[simp] theorem gridNow_advanceTo (s : State) (t : DWord) : gridNow (advanceTo s t) = gridNow s := by rw [gridNow, advanceTo_nextGrid, gridNow]

theorem heartbeatSend_lone (lone : paired s = false) : heartbeatSend s = s := if_pos (by simp [lone])

/-- The instant of a heartbeat: 5 µs after its grid point. -/
def beatInstant (s : State) : State := advanceTo s (BitVec.ofNat 64 (gridTime s + 500))

/-- A heartbeat made and sent. -/
def beatSent (s : State) : State := setTwin s { s.twin with sent := some (makeHeartbeat s), sentGrid := gridNow s }

theorem heartbeatSend_pair (pair : paired s = true) (speaks : roleOf s ≠ rlNONE ∨ linkUp s = true) :
    heartbeatSend s = beatSent (beatInstant s) := by
  have speaking : ¬ (!paired s || (roleOf s == rlNONE && !linkUp s)) = true := by
    obtain role | link := speaks
    · simp [pair, role]
    · simp [pair, link]
  rw [heartbeatSend, if_neg speaking, beatInstant]
  rfl

/-- A heartbeat shows the role, the mode, the epoch and the time of its module. -/
theorem beatSent_shows (s : State) : ∃ h, (beatSent s).twin.sent = some h ∧ h.role = BitVec.ofNat 8 (roleOf s) ∧
    h.mode = BitVec.ofNat 8 (modeNow s) ∧ h.home = isHome s ∧ h.epoch = rd s R.TWN_EPOCH ∧ h.tb = (beatSent s).now ∧
    h.grid = BitVec.ofNat 16 (gridNow s) ∧ (beatSent s).twin.sentGrid = gridNow s :=
  ⟨makeHeartbeat s, rfl, rfl, rfl, rfl, rfl, rfl, rfl, rfl⟩

theorem heartbeatSend_sends (pair : paired s = true) (speaks : roleOf s ≠ rlNONE ∨ linkUp s = true) :
    ∃ t h, exec .heartbeatSend s = .next t ∧ t.twin.sent = some h ∧ h.role = BitVec.ofNat 8 (roleOf s) ∧ h.mode = BitVec.ofNat 8 (modeNow s) ∧
      h.home = isHome s ∧ h.epoch = rd s R.TWN_EPOCH ∧ h.tb = t.now ∧ h.grid = BitVec.ofNat 16 (gridNow s) ∧ t.twin.sentGrid = gridNow s ∧
      t = { s with now := t.now, twin := t.twin } := by
  have role : roleOf (beatInstant s) = roleOf s := roleOf_advanceTo s _
  have mode : modeNow (beatInstant s) = modeNow s := fld_advanceTo s _ _ _
  have home : isHome (beatInstant s) = isHome s := congrArg (· != 0) (fld_advanceTo s _ _ F.TWN_CFG_HOME)
  have epoch : rd (beatInstant s) R.TWN_EPOCH = rd s R.TWN_EPOCH := rd_advanceTo s _ _
  have grid : gridNow (beatInstant s) = gridNow s := gridNow_advanceTo s _
  obtain ⟨h, sent, shown⟩ := beatSent_shows (beatInstant s)
  rw [role, mode, home, epoch, grid] at shown
  obtain ⟨hrole, hmode, hhome, hepoch, time, hgrid, sentGrid⟩ := shown
  refine ⟨_, h, congrArg Host.Outcome.next (heartbeatSend_pair pair speaks), sent, hrole, hmode, hhome, hepoch, time, hgrid, sentGrid, ?_⟩
  rw [beatInstant, advanceTo]
  split <;> rfl

end

/-! ## HEARTBEAT_RECEIVED (R332, R336) -/

/-- The pages of the timebase and of the event matrix. -/
abbrev timePages : List Nat := [0x06, 0x07]

theorem pageUpdate_timeEvent (s : State) (n : Nat) : PageUpdate timePages s (raiseBit s 0x06 n) :=
  pageUpdate_raiseBit s n (by decide) (by decide) (by decide)

theorem pageUpdate_countAligned (s : State) (off : Int) : PageUpdate timePages s (countAligned s off) := by
  have shown (u : State) (v n : Nat) : PageUpdate timePages u (raiseBit (setFld u R.TB_STAT F.TB_STAT_ALIGNED v) 0x06 n) :=
    (pageUpdate_setFld u _ v (by decide)).trans (pageUpdate_timeEvent _ n)
  unfold countAligned
  extract_lets was counts u on
  have counted : PageUpdate timePages s u := ⟨rfl, rfl, fun _ _ => rfl⟩
  split
  · exact counted.trans (shown u 1 2)
  · split
    · exact counted.trans (shown u 0 1)
    · exact counted

theorem pageUpdate_stepTo (s : State) (v : DWord) : PageUpdate timePages s (stepTo s v) := by
  unfold stepTo
  extract_lets n samples u
  have loaded : PageUpdate timePages s u := ⟨rfl, rfl, fun _ _ => rfl⟩
  exact loaded.trans ((pageUpdate_setFld u F.TB_STAT_STEPS _ (by decide)).trans (pageUpdate_timeEvent _ 0))

/-- The follower works on the timebase's page. -/
theorem pageUpdate_follow (s : State) (tb at_ : DWord) : PageUpdate timePages s (follow s tb at_) := by
  unfold follow
  split
  · exact PageUpdate.refl _ s
  · extract_lets off u
    have counted : PageUpdate timePages s u := (pageUpdate_wr s _ (by decide)).trans (pageUpdate_countAligned _ off)
    split
    · exact counted.trans (pageUpdate_stepTo u _)
    · exact counted.trans ⟨rfl, rfl, fun _ _ => rfl⟩

section
variable {s : State} {x : Heartbeat} {a : DWord} {roleIn : Bool}

/-- A heartbeat is for the last grid point and came in time (R332). -/
abbrev BeatValid (s : State) (x : Heartbeat) (a : DWord) : Prop :=
  x.grid.toNat = gridNow s % 65536 ∧ gridTime s ≤ a.toNat ∧ a.toNat < gridTime s + 5000

/-- The arrival of a heartbeat, with the level of ROLE_IN. -/
def beatArrived (s : State) (a : DWord) (roleIn : Bool) : State := setRoleIn (advanceTo s a) roleIn

theorem heartbeatReceived_deaf (deaf : paired s = false ∨ linkUp s = false) : heartbeatReceived s x a roleIn = s := by
  refine if_pos ?_
  obtain lone | down := deaf
  · simp [lone]
  · simp [down]

theorem heartbeatReceived_eq (pair : paired s = true) (link : linkUp s = true) : heartbeatReceived s x a roleIn =
    if BeatValid s x a then follow (takeHeartbeat (beatArrived s a roleIn) x roleIn) x.tb a else beatArrived s a roleIn := by
  have grid : gridNow (setRoleIn (advanceTo s a) roleIn) = gridNow s := gridNow_advanceTo s a
  refine (if_neg (by simp [pair, link])).trans ?_
  simp only [gridTime, grid]
  rfl

/-- A heartbeat that is not valid leaves the level of ROLE_IN alone. -/
theorem heartbeatReceived_ignores (pair : paired s = true) (link : linkUp s = true) (late : ¬ BeatValid s x a) :
    ∃ t, exec (.heartbeatReceived x a roleIn) s = .next t ∧ t.twin = s.twin ∧ flag t R.TWN_STAT F.TWN_STAT_ROLE_IN = roleIn ∧
      SameRegs [R.TWN_STAT] s t ∧ SamePlant s t := by
  refine ⟨beatArrived s a roleIn, congrArg Host.Outcome.next ((heartbeatReceived_eq pair link).trans (if_neg late)), advanceTo_twin s a, ?_,
    fun k hk => (rd_setFld_ne _ _ _ (by simpa using hk)).trans (rd_advanceTo s a k), samePlant_of_plantData (plantData_advanceTo s a)⟩
  rw [flag, beatArrived, setRoleIn, fld_setFld_same _ _ _ _ (by decide) (by decide)]
  cases roleIn <;> rfl

/-! ### The steps of a valid heartbeat -/

/-- LINK is shown, with its event when it was not. -/
def beatLinked (s : State) : State := if flag s R.TWN_STAT F.TWN_STAT_LINK then s else raiseBit (setFld s R.TWN_STAT F.TWN_STAT_LINK 1) 0x88 4

/-- The heartbeat is kept, and its epoch and role are shown. -/
def beatKept (s : State) (x : Heartbeat) : State :=
  setFld (wr (setTwin s { s.twin with hb := some x, hbNow := some x, heard := true }) R.TWN_PEPOCH x.epoch) R.TWN_STAT F.TWN_STAT_PROLE (x.role.toNat % 8)

/-- A partner that says ACTIVE without ROLE_IN is a mismatch. -/
def mismatchSeen (s : State) (x : Heartbeat) (roleIn : Bool) : State := if x.role == 2 && !roleIn then roleMismatch s else s

/-- A RESOLVING module that knows of an active one is its standby. -/
def standbyKnown (s : State) (x : Heartbeat) (roleIn : Bool) : State :=
  if roleOf s = rlRESOLVING ∧ (x.role = 2 ∨ roleIn) ∧ s.twin.decided.isNone then setRole s rlSTANDBY else s

/-- A demotion is due in an active module that hears one with a higher epoch. -/
def demotionDue (s : State) (x : Heartbeat) : State :=
  if roleOf s = rlACTIVE ∧ x.role = 2 ∧ rd s R.TWN_EPOCH < x.epoch then setTwin s { s.twin with demote := true } else s

/-- What a heartbeat has shown before it bears on roles. -/
def beatShown (s : State) (x : Heartbeat) (roleIn : Bool) : State :=
  mismatchSeen (setFld (beatKept (beatLinked s) x) R.TLM_STAT F.TLM_STAT_PLINKVER x.linkVer.toNat) x roleIn

theorem takeHeartbeat_eq (s : State) (x : Heartbeat) (roleIn : Bool) :
    takeHeartbeat s x roleIn = heartbeatHandover (demotionDue (standbyKnown (beatShown s x roleIn) x roleIn) x) x := rfl

/-- The fields of TWN_STAT that a heartbeat may change after its own are shown. -/
abbrev beatFields : List Fld := [F.TWN_STAT_ROLE, F.TWN_STAT_ROLE_OUT, F.TWN_STAT_TAKEOVER, F.TWN_STAT_ROLE_MISMATCH, F.TWN_STAT_HO_PEND]

section
variable {α : Type} {part : Twin → α} {fs : List Fld}

theorem statUpdate_beatLinked (s : State) (mem : F.TWN_STAT_LINK ∈ fs) : StatUpdate part fs s (beatLinked s) :=
  StatUpdate.ite _ (StatUpdate.refl _ _ s) ((statUpdate_setFld s F.TWN_STAT_LINK 1 (by decide) (by decide) mem).trans (statUpdate_raise _ 4))

theorem statUpdate_mismatchSeen (s : State) (kept : ∀ u w, part { u with flagsNow := w } = part u) (mem : F.TWN_STAT_ROLE_MISMATCH ∈ fs) :
    StatUpdate part fs s (mismatchSeen s x roleIn) := by
  have seen (u : State) : StatUpdate part fs u (noteFlag (setFld u R.TWN_STAT F.TWN_STAT_ROLE_MISMATCH 1) 8) :=
    (statUpdate_setFld u F.TWN_STAT_ROLE_MISMATCH 1 (by decide) (by decide) mem).trans (statUpdate_setTwin _ _ (kept _ _))
  refine StatUpdate.ite _ ?_ (StatUpdate.refl _ _ s)
  exact (StatUpdate.ite _ (StatUpdate.refl _ _ s) (statUpdate_raise s 8)).trans (seen _)

theorem statUpdate_standbyKnown (s : State) (sub : roleFields ⊆ fs) : StatUpdate part fs s (standbyKnown s x roleIn) :=
  StatUpdate.ite _ (statUpdate_setRole s _ sub) (StatUpdate.refl _ _ s)

theorem statUpdate_demotionDue (s : State) (kept : ∀ u, part { u with demote := true } = part u) : StatUpdate part fs s (demotionDue s x) :=
  StatUpdate.ite _ (statUpdate_setTwin s _ (kept _)) (StatUpdate.refl _ _ s)

/-- A heartbeat cancels or names a handover, or leaves it (R352). -/
theorem statUpdate_heartbeatHandover (s : State) (kept : ∀ u q r k, part { u with hoReq := q, hoRev := r, hoTick := k } = part u)
    (mem : F.TWN_STAT_HO_PEND ∈ fs) : StatUpdate part fs s (heartbeatHandover s x) := by
  have cancelled := statUpdate_cancelHandover s (kept _ _ _ _) mem
  have same := StatUpdate.refl part fs s
  have named (k : Nat) : StatUpdate part fs s (setFld (setTwin s { s.twin with hoTick := some k }) R.TWN_STAT F.TWN_STAT_HO_PEND 1) :=
    (statUpdate_setTwin s _ (kept s.twin s.twin.hoReq s.twin.hoRev (some k))).trans
      (statUpdate_setFld _ F.TWN_STAT_HO_PEND 1 (by decide) (by decide) mem)
  exact .ite _ (.ite _ (.ite _ same (named _)) (.ite _ cancelled same)) (.ite _ (.ite _ (named _) (.ite _ cancelled same)) same)

end

theorem link_beatLinked (s : State) : flag (beatLinked s) R.TWN_STAT F.TWN_STAT_LINK = true := by
  unfold beatLinked
  split
  next up => exact up
  next =>
    rw [flag, fld, rd_raiseBit_ne _ (by decide) (by decide), ← fld, fld_setFld_same _ _ _ _ (by decide) (by decide)]
    rfl

/-- A heartbeat kept stands in the twin page. -/
theorem beatKept_shows (s : State) (x : Heartbeat) : (beatKept s x).twin.hb = some x ∧ rd (beatKept s x) R.TWN_PEPOCH = x.epoch ∧
    fld (beatKept s x) R.TWN_STAT F.TWN_STAT_PROLE = x.role.toNat % 8 := by
  refine ⟨rfl, (rd_setFld_ne _ _ _ (by decide)).trans (rd_wr_same _ _ _), ?_⟩
  rw [beatKept, fld_setFld_same _ _ _ _ (by decide) (by decide)]
  exact Nat.mod_mod _ _

/-- Beside what it shows, a heartbeat kept leaves what roles rest on. -/
theorem beatKept_keeps (s : State) (x : Heartbeat) : plantData (beatKept s x) = plantData s ∧ (beatKept s x).twin.decided = s.twin.decided ∧
    rd (beatKept s x) R.TWN_EPOCH = rd s R.TWN_EPOCH ∧
    ∀ g, Apart F.TWN_STAT_PROLE g → fld (beatKept s x) R.TWN_STAT g = fld s R.TWN_STAT g := by
  refine ⟨rfl, rfl, (rd_setFld_ne _ _ _ (by decide)).trans (rd_wr_ne _ _ (by decide)), fun g apart => ?_⟩
  rw [beatKept, fld_setFld_other _ _ F.TWN_STAT_PROLE g _ (by decide) (by decide) apart, fld_wr_ne _ _ _ (by decide)]
  rfl

/-- What a valid heartbeat does after it is kept. -/
theorem statUpdate_afterKept {α : Type} {part : Twin → α} (s : State) (x : Heartbeat) (roleIn : Bool) (tb at_ : DWord)
    (flags : ∀ u w, part { u with flagsNow := w } = part u) (demote : ∀ u, part { u with demote := true } = part u)
    (handover : ∀ u q r k, part { u with hoReq := q, hoRev := r, hoTick := k } = part u) :
    StatUpdate part beatFields (beatKept (beatLinked s) x) (follow (takeHeartbeat s x roleIn) tb at_) := by
  have version := pageUpdate_setFld (ps := [0x7E]) (beatKept (beatLinked s) x) (k := R.TLM_STAT) F.TLM_STAT_PLINKVER x.linkVer.toNat (by decide)
  rw [takeHeartbeat_eq]
  exact ((((((statUpdate_page version (by decide)).trans (statUpdate_mismatchSeen _ flags (by decide))).trans
    (statUpdate_standbyKnown _ (by decide))).trans (statUpdate_demotionDue _ demote)).trans
    (statUpdate_heartbeatHandover _ handover (by decide))).trans (statUpdate_page (pageUpdate_follow _ _ _) (by decide)))

/-- What roles rest on when a heartbeat bears on them: they are as at its arrival. -/
theorem beatShown_keeps (s : State) (x : Heartbeat) (roleIn : Bool) : roleOf (beatShown s x roleIn) = roleOf s ∧
    (beatShown s x roleIn).twin.decided = s.twin.decided ∧ rd (beatShown s x roleIn) R.TWN_EPOCH = rd s R.TWN_EPOCH := by
  have link := statUpdate_beatLinked (part := Twin.decided) (fs := [F.TWN_STAT_LINK]) s (by decide)
  obtain ⟨-, undecided, epoch, stat⟩ := beatKept_keeps (beatLinked s) x
  have version := pageUpdate_setFld (ps := [0x7E]) (beatKept (beatLinked s) x) (k := R.TLM_STAT) F.TLM_STAT_PLINKVER x.linkVer.toNat (by decide)
  have rest : StatUpdate Twin.decided [F.TWN_STAT_ROLE_MISMATCH] (beatKept (beatLinked s) x) (beatShown s x roleIn) :=
    (statUpdate_page version (by decide)).trans (statUpdate_mismatchSeen _ (fun _ _ => rfl) (by decide))
  exact ⟨(rest.roleOf (by decide)).trans ((stat _ (by decide)).trans (link.roleOf (by decide))), rest.twin.trans (undecided.trans link.twin),
    (rest.regs _ (by decide) (by decide)).trans (epoch.trans (link.regs _ (by decide) (by decide)))⟩

/-- What a valid heartbeat does after roles have been looked at. -/
theorem statUpdate_afterRoles {α : Type} {part : Twin → α} (s : State) (x : Heartbeat) (tb at_ : DWord)
    (handover : ∀ u q r k, part { u with hoReq := q, hoRev := r, hoTick := k } = part u) :
    StatUpdate part [F.TWN_STAT_HO_PEND] s (follow (heartbeatHandover s x) tb at_) :=
  (statUpdate_heartbeatHandover s handover (by decide)).trans (statUpdate_page (pageUpdate_follow _ _ _) (by decide))

/-- A valid heartbeat is kept and shown, and bears on the roles. -/
theorem heartbeatReceived_takes (pair : paired s = true) (link : linkUp s = true) (valid : BeatValid s x a) :
    ∃ t, exec (.heartbeatReceived x a roleIn) s = .next t ∧ t.twin.hb = some x ∧ rd t R.TWN_PEPOCH = x.epoch ∧
      fld t R.TWN_STAT F.TWN_STAT_PROLE = x.role.toNat % 8 ∧ flag t R.TWN_STAT F.TWN_STAT_LINK = true ∧ SamePlant s t ∧
      (roleOf s = rlRESOLVING → x.role = 2 → s.twin.decided = none → roleOf t = rlSTANDBY) ∧
      (roleOf s = rlACTIVE → x.role = 2 → rd s R.TWN_EPOCH < x.epoch → t.twin.demote = true) := by
  let u := beatArrived s a roleIn
  have arrived : StatUpdate (fun x => x) [F.TWN_STAT_ROLE_IN] s u :=
    (statUpdate_page (ps := []) ⟨plantData_advanceTo s a, advanceTo_twin s a, fun k _ => rd_advanceTo s a k⟩ (by decide)).trans
      (statUpdate_setFld _ F.TWN_STAT_ROLE_IN _ (by decide) (by decide) (by decide))
  have shown := statUpdate_beatLinked (part := Twin.hb) (fs := [F.TWN_STAT_LINK]) u (by decide)
  have after := statUpdate_afterKept (part := Twin.hb) u x roleIn x.tb a (fun _ _ => rfl) (fun _ => rfl) (fun _ _ _ _ => rfl)
  obtain ⟨hb, epoch, role⟩ := beatKept_shows (beatLinked u) x
  obtain ⟨data, -, -, stat⟩ := beatKept_keeps (beatLinked u) x
  obtain ⟨wasRole, wasDecided, wasEpoch⟩ := beatShown_keeps u x roleIn
  refine ⟨_, congrArg Host.Outcome.next ((heartbeatReceived_eq pair link).trans (if_pos valid)), after.twin.trans hb,
    (after.regs _ (by decide) (by decide)).trans epoch, (after.stat _ (by decide)).trans role, ?_,
    samePlant_of_plantData (after.data.trans (data.trans (shown.data.trans arrived.data))), fun resolving two undecided => ?_,
    fun active two lower => ?_⟩
  · rw [after.flag (by decide), flag, stat F.TWN_STAT_LINK (by decide)]
    exact link_beatLinked u
  · have known : standbyKnown (beatShown u x roleIn) x roleIn = setRole (beatShown u x roleIn) rlSTANDBY :=
      if_pos ⟨wasRole.trans ((arrived.roleOf (by decide)).trans resolving), .inl two, by rw [wasDecided, arrived.twin, undecided]; rfl⟩
    rw [takeHeartbeat_eq, (statUpdate_afterRoles (part := fun _ => ()) _ x x.tb a fun _ _ _ _ => rfl).roleOf (by decide),
      (statUpdate_demotionDue (part := fun _ => ()) (fs := []) _ fun _ => rfl).roleOf (by decide), known, roleOf_setRole _ (by decide)]
  · have role : roleOf (beatShown u x roleIn) = rlACTIVE := wasRole.trans ((arrived.roleOf (by decide)).trans active)
    have known : standbyKnown (beatShown u x roleIn) x roleIn = beatShown u x roleIn := if_neg fun c => absurd (c.1.symm.trans role) (by decide)
    have due : demotionDue (beatShown u x roleIn) x = setTwin (beatShown u x roleIn) { (beatShown u x roleIn).twin with demote := true } :=
      if_pos ⟨role, two, by rwa [wasEpoch, arrived.regs _ (by decide) (by decide)]⟩
    rw [takeHeartbeat_eq, (statUpdate_afterRoles (part := Twin.demote) _ x x.tb a fun _ _ _ _ => rfl).twin, known, due, twin_setTwin]

end

end Sys2Proof.Machine
end

section
/-! SUPPORT. The check of a slot and the decision (R332 to R335), and the obligation of heartbeats, slots and roles. -/

namespace Sys2Proof.Machine

open Sys2Proof.Safety

/-! ## The steps of a slot's check -/

/-- The slot of the last grid point was silent: no valid heartbeat showed ACTIVE (R332). -/
def slotSilent (s : State) : Bool := match s.twin.hbNow with | some h => h.role != 2 | none => true

/-- The slot before it was silent. -/
def slotWasSilent (s : State) : Bool := match s.twin.slots with | y :: _ => y.1 | [] => false

/-- The instant of a slot's check, 50 µs after its grid point, with the level of ROLE_IN. -/
def slotInstant (s : State) (roleIn : Bool) : State := setRoleIn (advanceTo s (BitVec.ofNat 64 (gridTime s + 5000))) roleIn

/-- The slot recorded. -/
def slotRecorded (s : State) : State := recordSlot s (slotSilent s) s.twin.hbNow.isSome

/-- A RESOLVING module that finds ROLE_IN high is a standby. -/
def standbyFound (s : State) (roleIn : Bool) : State :=
  if roleOf s == rlRESOLVING && roleIn && s.twin.decided.isNone then setRole s rlSTANDBY else s

/-- What a slot's check does before the decision. -/
def slotSettled (s : State) (roleIn : Bool) : State :=
  slotHandover (standbyFound (slotLink (slotRecorded s) (slotSilent s) s.twin.hbNow.isSome roleIn (slotWasSilent s)) roleIn)
    (slotSilent s) s.twin.hbNow.isSome

/-- The decision that a slot's check may make. -/
def slotDecided (s : State) (roleIn : Bool) : State := if decides s roleIn then decide333 s else s

section
variable {s : State} {roleIn : Bool}

theorem slotCheck_lone (lone : paired s = false) : slotCheck s roleIn = s := if_pos (by simp [lone])

theorem slotCheck_pair (pair : paired s = true) : slotCheck s roleIn = slotDecided (slotSettled (slotInstant s roleIn) roleIn) roleIn := by
  have here : ¬ (!paired s) = true := by simp [pair]
  rw [slotCheck, if_neg here, slotInstant]
  generalize setRoleIn (advanceTo s (BitVec.ofNat 64 (gridTime s + 5000))) roleIn = u
  rfl

/-- The fields of TWN_STAT that a slot's check shows beside SILENT and the role. -/
abbrev slotFields : List Fld := [F.TWN_STAT_ROLE_IN, F.TWN_STAT_LINK, F.TWN_STAT_HO_PEND]

section
variable {α : Type} {part : Twin → α} {fs : List Fld}

theorem statUpdate_slotInstant (s : State) (mem : F.TWN_STAT_ROLE_IN ∈ fs) : StatUpdate part fs s (slotInstant s roleIn) :=
  (statUpdate_page (ps := []) ⟨plantData_advanceTo s _, advanceTo_twin s _, fun k _ => rd_advanceTo s _ k⟩ (by decide)).trans
    (statUpdate_setFld _ F.TWN_STAT_ROLE_IN _ (by decide) (by decide) mem)

theorem statUpdate_slotLink (s : State) (silent heard was : Bool) (mem : F.TWN_STAT_LINK ∈ fs) :
    StatUpdate part fs s (slotLink s silent heard roleIn was) := by
  have link (v : Nat) : StatUpdate part fs s (setFld s R.TWN_STAT F.TWN_STAT_LINK v) :=
    statUpdate_setFld s F.TWN_STAT_LINK v (by decide) (by decide) mem
  exact .ite _ ((link _).trans (statUpdate_raise _ 3)) (link _)

theorem statUpdate_slotHandover (s : State) (silent heard : Bool) (kept : ∀ u, part { u with hoReq := false, hoRev := false, hoTick := none } = part u)
    (mem : F.TWN_STAT_HO_PEND ∈ fs) : StatUpdate part fs s (slotHandover s silent heard) :=
  .ite _ (statUpdate_cancelHandover s (kept _) mem) (.refl _ _ s)

theorem statUpdate_standbyFound (s : State) (sub : roleFields ⊆ fs) : StatUpdate part fs s (standbyFound s roleIn) :=
  .ite _ (statUpdate_setRole s _ sub) (.refl _ _ s)

theorem statUpdate_slotRecorded (s : State) (kept : ∀ u l b n, part { u with slots := l, hbNow := b, hbSilent := n } = part u)
    (mem : F.TWN_STAT_SILENT ∈ fs) : StatUpdate part fs s (slotRecorded s) :=
  (statUpdate_setTwin s _ (kept s.twin _ none _)).trans (statUpdate_setFld _ F.TWN_STAT_SILENT _ (by decide) (by decide) mem)

/-- After the slot is recorded, its check shows the link, may find the role, and may cancel a handover. -/
theorem statUpdate_slotSettled (s : State) (kept : ∀ u, part { u with hoReq := false, hoRev := false, hoTick := none } = part u) :
    StatUpdate part (slotFields ++ roleFields) (slotRecorded s) (slotSettled s roleIn) :=
  ((statUpdate_slotLink _ _ _ _ (by decide)).trans (statUpdate_standbyFound _ (by decide))).trans
    (statUpdate_slotHandover _ _ _ kept (by decide))

end

theorem silent_slotRecorded (s : State) : fld (slotRecorded s) R.TWN_STAT F.TWN_STAT_SILENT =
    if slotSilent s then min 255 (fld s R.TWN_STAT F.TWN_STAT_SILENT + 1) else 0 := by
  have before : fld s R.TWN_STAT F.TWN_STAT_SILENT < 2 ^ 8 := fld_lt s _ _
  rw [slotRecorded, recordSlot, fld_setFld_same _ _ _ _ (by decide) (by decide)]
  show (if slotSilent s then satAdd 8 (fld s R.TWN_STAT F.TWN_STAT_SILENT) 1 else 0) % 2 ^ 8 = _
  split
  · unfold satAdd
    split <;> omega
  · rfl

theorem twin_slotRecorded (s : State) : (slotRecorded s).twin.slots = ((slotSilent s, s.twin.hbNow.isSome) :: s.twin.slots).take 4 ∧
    (slotRecorded s).twin.hbNow = none := ⟨rfl, rfl⟩

/-! ## The decision (R334, R335) -/

/-- TWN_TKO.REASON of a decision. -/
def decisionReason (s : State) : Nat :=
  if roleOf s = rlRESOLVING ∧ !s.twin.heard then 3 else if s.twin.slots.all (fun y => !y.2) then 1 else 2

/-- A decision made with an epoch of its own. -/
def decisionMade (s : State) : State :=
  setTwin (epochTaken s (epochDue s)) { (epochTaken s (epochDue s)).twin with
    decided := some (decisionReason s, fld (epochTaken s (epochDue s)) R.TWN_STAT F.TWN_STAT_SILENT) }

theorem rd_epochTaken_ne (s : State) (n : Nat) {k : Nat} (h : k ≠ R.TWN_EPOCH) : rd (epochTaken s n) k = rd s k := by
  rw [epochTaken, rd_setTwin, rd_wr_ne _ _ h]

theorem decisionMade_shows (s : State) : (decisionMade s).twin.decided.isSome = true ∧
    rd (decisionMade s) R.TWN_EPOCH = BitVec.ofNat 32 (epochDue s) ∧ (decisionMade s).twin.raised = true ∧
    (decisionMade s).twin.epochNvr = BitVec.ofNat 32 (epochDue s) ∧ roleOf (decisionMade s) = roleOf s := by
  refine ⟨rfl, ?_, rfl, rfl, ?_⟩
  · rw [decisionMade, rd_setTwin, rd_epochTaken]
  · rw [decisionMade, roleOf_setTwin, roleOf, fld, rd_epochTaken_ne s _ (by decide)]
    rfl

@[simp] theorem plantData_decisionMade (s : State) : plantData (decisionMade s) = plantData s := by
  rw [decisionMade, plantData_setTwin, epochTaken, plantData_setTwin, plantData_wr]

theorem decide333_made (room : epochDue s < 2 ^ 32) : decide333 s = decisionMade s := by
  rw [decide333, raiseEpoch_made room]
  rfl

theorem decide333_refused (full : ¬ epochDue s < 2 ^ 32) : decide333 s = setTwin s { s.twin with epochEnd := true } := by
  rw [decide333, raiseEpoch_eq, if_neg full]
  rfl

/-- A decision leaves the plant, TWN_STAT and the slots. -/
theorem slotDecided_keeps (s : State) (roleIn : Bool) : plantData (slotDecided s roleIn) = plantData s ∧
    rd (slotDecided s roleIn) R.TWN_STAT = rd s R.TWN_STAT ∧ (slotDecided s roleIn).twin.slots = s.twin.slots ∧
    (slotDecided s roleIn).twin.hbNow = s.twin.hbNow := by
  unfold slotDecided
  split
  · by_cases room : epochDue s < 2 ^ 32
    · rw [decide333_made room]
      exact ⟨plantData_decisionMade s, rd_epochTaken_ne s _ (by decide), rfl, rfl⟩
    · rw [decide333_refused room]
      exact ⟨rfl, rfl, rfl, rfl⟩
  · exact ⟨rfl, rfl, rfl, rfl⟩

/-- A home standby that has been let take over decides after four silent slots. -/
theorem decides_home (standby : roleOf s = rlSTANDBY) (home : isHome s = true) (enabled : flag s R.TWN_CFG F.TWN_CFG_TKO_EN = true)
    (undecided : s.twin.decided = none) (four : s.twin.slots.length = 4) (silent : ∀ y ∈ s.twin.slots, y.1 = true) : decides s false = true := by
  have other : (rlSTANDBY != rlRESOLVING) = true := rfl
  have all : s.twin.slots.all (fun y => y.1) = true := List.all_eq_true.mpr silent
  simp [decides, waits, standby, home, enabled, undecided, four, all, other]

/-! ## SLOT_CHECK -/

/-- A slot's check records the slot and counts the silent ones (R332). -/
theorem slotCheck_records (pair : paired s = true) : ∃ t, exec (.slotCheck roleIn) s = .next t ∧
    t.twin.slots = ((slotSilent s, s.twin.hbNow.isSome) :: s.twin.slots).take 4 ∧ t.twin.hbNow = none ∧
    fld t R.TWN_STAT F.TWN_STAT_SILENT = (if slotSilent s then min 255 (fld s R.TWN_STAT F.TWN_STAT_SILENT + 1) else 0) ∧ SamePlant s t := by
  let u := slotInstant s roleIn
  let v := slotSettled u roleIn
  have instant : StatUpdate (fun x => x) [F.TWN_STAT_ROLE_IN] s u := statUpdate_slotInstant s (by decide)
  have slotsKept := statUpdate_slotSettled (roleIn := roleIn) (part := Twin.slots) u fun _ => rfl
  have settled := statUpdate_slotSettled (roleIn := roleIn) (part := Twin.hbNow) u fun _ => rfl
  have recorded : StatUpdate (fun _ => ()) [F.TWN_STAT_SILENT] u (slotRecorded u) := statUpdate_slotRecorded u (fun _ _ _ _ => rfl) (by decide)
  have twin : u.twin = s.twin := instant.twin
  have silent : slotSilent u = slotSilent s := by rw [slotSilent, twin, slotSilent]
  obtain ⟨data, stat, slots, beat⟩ := slotDecided_keeps v roleIn
  obtain ⟨slot, none⟩ := twin_slotRecorded u
  refine ⟨_, congrArg Host.Outcome.next (slotCheck_pair pair), ?_, ?_, ?_, 
    samePlant_of_plantData (data.trans (settled.data.trans (recorded.data.trans instant.data)))⟩
  · rw [slots, slotsKept.twin, slot, silent, twin]
  · rw [beat, settled.twin, none]
  · rw [fld, stat, ← fld, settled.stat _ (by decide), silent_slotRecorded, silent, instant.stat _ (by decide)]

/-- The fourth silent slot makes a home standby decide, and raises its epoch (R333 to R335). -/
theorem slotCheck_decides (pair : paired s = true) (standby : roleOf s = rlSTANDBY) (home : isHome s = true)
    (enabled : flag s R.TWN_CFG F.TWN_CFG_TKO_EN = true) (undecided : s.twin.decided = none) (quiet : s.twin.hbNow = none)
    (three : 3 ≤ s.twin.slots.length) (silent : ∀ y ∈ s.twin.slots.take 3, y.1 = true) (room : epochDue s < 2 ^ 32) :
    ∃ t, exec (.slotCheck false) s = .next t ∧ t.twin.decided.isSome = true ∧ rd t R.TWN_EPOCH = BitVec.ofNat 32 (epochDue s) ∧
      t.twin.raised = true ∧ t.twin.epochNvr = BitVec.ofNat 32 (epochDue s) ∧ roleOf t = rlSTANDBY ∧ SamePlant s t := by
  let u := slotInstant s false
  let v := slotSettled u false
  have instant : StatUpdate (fun x => x) [F.TWN_STAT_ROLE_IN] s u := statUpdate_slotInstant s (by decide)
  have recorded {α : Type} (part : Twin → α) (kept : ∀ u l b n, part { u with slots := l, hbNow := b, hbSilent := n } = part u) :
      StatUpdate part [F.TWN_STAT_SILENT] u (slotRecorded u) := statUpdate_slotRecorded u kept (by decide)
  have unfound (w : State) : standbyFound w false = w := if_neg (by simp)
  have settled {α : Type} (part : Twin → α) (kept : ∀ u, part { u with hoReq := false, hoRev := false, hoTick := none } = part u) :
      StatUpdate part slotFields (slotRecorded u) v := by
    show StatUpdate _ _ _ (slotHandover (standbyFound _ false) _ _)
    rw [unfound]
    exact (statUpdate_slotLink _ _ _ _ (by decide)).trans (statUpdate_slotHandover _ _ _ kept (by decide))
  have record := recorded Twin.decided fun _ _ _ _ => rfl
  have settle := settled Twin.decided fun _ => rfl
  have twin : u.twin = s.twin := instant.twin
  have key (k : Nat) (page : keyPage k = 0x88) (other : k ∉ [R.TWN_STAT, R.PG_STATE 0x88, R.PG_ISR 0x88]) : rd v k = rd s k :=
    (settle.regs k page other).trans ((record.regs k page other).trans (instant.regs k page other))
  have role : roleOf v = rlSTANDBY :=
    (settle.roleOf (by decide)).trans ((record.roleOf (by decide)).trans ((instant.roleOf (by decide)).trans standby))
  have config (f : Fld) : flag v R.TWN_CFG f = flag s R.TWN_CFG f := by rw [flag, fld, key _ (by decide) (by decide), ← fld, ← flag]
  have due : epochDue v = epochDue s := by
    have seen : v.twin.maxSeen = s.twin.maxSeen :=
      (settled Twin.maxSeen fun _ => rfl).twin.trans ((recorded Twin.maxSeen fun _ _ _ _ => rfl).twin.trans (congrArg Twin.maxSeen twin))
    rw [epochDue, key _ (by decide) (by decide), key _ (by decide) (by decide), seen, isHome, config, ← isHome, epochDue]
  have slots : v.twin.slots = (true, false) :: s.twin.slots.take 3 := by
    have now : slotSilent u = true := by rw [slotSilent, twin, quiet]
    rw [(settled Twin.slots fun _ => rfl).twin, (twin_slotRecorded u).1, now, twin, quiet]
    rfl
  have decided : decides v false = true := by
    refine decides_home role ((config _).trans home) ((config _).trans enabled) ?_ ?_ ?_
    · exact settle.twin.trans (record.twin.trans ((congrArg Twin.decided twin).trans undecided))
    · rw [slots, List.length_cons, List.length_take, Nat.min_eq_left three]
    · rw [slots]
      exact List.forall_mem_cons.mpr ⟨rfl, silent⟩
  have done : slotCheck s false = decisionMade v := by
    rw [slotCheck_pair pair, slotDecided, if_pos decided, decide333_made (due.symm ▸ room)]
  obtain ⟨some, epoch, raised, stored, same⟩ := decisionMade_shows v
  exact ⟨decisionMade v, congrArg Host.Outcome.next done, some, due ▸ epoch, raised, due ▸ stored, same.trans role,
    samePlant_of_plantData ((plantData_decisionMade v).trans (settle.data.trans (record.data.trans instant.data)))⟩

end

/-! ## Heartbeats, slots and roles -/

/-- Settles O51: heartbeats, slots and changes of role each by its command. That the role changes at the role keeper's expiry, and that TWN_TKO
records every decision of R333, is DEDUCED (log 28). -/
theorem twinRolesFollowTheHeartbeats : Obligations.TwinRolesFollowTheHeartbeats := by
  unfold Obligations.TwinRolesFollowTheHeartbeats
  intro s
  exact ⟨fun lone => congrArg Host.Outcome.next (heartbeatSend_lone lone), heartbeatSend_sends,
    fun x a roleIn => ⟨fun deaf => congrArg Host.Outcome.next (heartbeatReceived_deaf deaf), heartbeatReceived_ignores, heartbeatReceived_takes⟩,
    fun roleIn => ⟨fun lone => congrArg Host.Outcome.next (slotCheck_lone lone), slotCheck_records⟩,
    slotCheck_decides, fun undecided => congrArg Host.Outcome.next (enterActiveRole_undecided undecided),
    fun reason silent => enterActiveRole_enters, roleKeeperExpiry_drops, fun role => congrArg Host.Outcome.next (roleKeeper_other role),
    fun stays => congrArg Host.Outcome.next (demotion_none stays), demotion_demotes⟩

end Sys2Proof.Machine
end

section
/-! SUPPORT. The commands of TWN_CMD, the revertive request and the link (R328, R338, R347, R352 to R354). -/

namespace Sys2Proof.Machine

open Sys2Proof.Safety

/-! ## TWN_CMD as its requester meets it -/

section
variable {s u : State} {q : Requester} {op : Nat} (hr : Reaches s q 0x88 0x54)
include hr

theorem twnGated_reaches : twnGated q op s = .next (endCommand 0x88 0x54 (twnCommand s op)) := congrArg Host.Outcome.next (gated_reaches hr)

theorem twnGated_taken (taken : twnCommand s op = (u, .none)) : twnGated q op s = .next (answer u .none) := by
  rw [twnGated_reaches hr, taken]
  rfl

theorem twnGated_rejected {c : Code} (error : c ≠ .none) (turned : twnCommand s op = (s, c)) :
    ∃ t, twnGated q op s = .next t ∧ Rejected s t 0x88 0x54 c := by
  refine ⟨rejectWrite s 0x88 0x54 c, ?_, rfl, rfl⟩
  rw [twnGated_reaches hr, turned, endCommand, if_neg error]

end

/-! ## The commands (R328, R347, R352, R354) -/

theorem twnCommand_handover {s : State} (role : roleOf s = rlACTIVE ∨ roleOf s = rlSTANDBY) (link : linkUp s = true) (ready : standbyReady s = true) :
    twnCommand s 1 = (setTwin s { s.twin with hoReq := true }, .none) := by
  refine (if_pos rfl).trans (if_neg ?_)
  obtain active | standby := role
  · simp [active, link, ready]
  · simp [standby, link, ready]

theorem twnCommand_handover_unready {s : State} (unready : linkUp s = false ∨ standbyReady s = false) : twnCommand s 1 = (s, .notInState) := by
  refine (if_pos rfl).trans (if_pos ?_)
  obtain down | unready := unready
  · simp [down]
  · simp [unready]

theorem twnCommand_cancel_idle {s : State} (unasked : s.twin.hoReq = false) (unnamed : s.twin.hoTick = none) : twnCommand s 2 = (s, .sequence) := by
  simp [twnCommand, unasked, unnamed]

theorem twnCommand_cancel_late {s : State} {k : Nat} (named : s.twin.hoTick = some k) (late : k * 100000 ≤ s.now.toNat + 100000) :
    twnCommand s 2 = (s, .busy) := by
  simp [twnCommand, named, late]

theorem twnCommand_cancel {s : State} {k : Nat} (named : s.twin.hoTick = some k) (early : s.now.toNat + 100000 < k * 100000) :
    twnCommand s 2 = (cancelHandover s, .none) := by
  simp [twnCommand, named, Nat.not_le.mpr early]

theorem twnCommand_resync {s : State} (standby : roleOf s = rlSTANDBY) : twnCommand s 5 = (fullResync s, .none) := by
  simp [twnCommand, standby]

theorem twnCommand_resync_other {s : State} (other : roleOf s ≠ rlSTANDBY) : twnCommand s 5 = (s, .notInState) := by
  simp [twnCommand, other]

/-- A one-bit field that is cleared reads 0. -/
theorem flag_setFld_zero (s : State) (k : Nat) (f : Fld) (le : f.lo ≤ f.hi) (h32 : f.hi < 32) : flag (setFld s k f 0) k f = false := by
  rw [flag, fld_setFld_same s k f 0 le h32, Nat.zero_mod]
  rfl

section
variable (s : State)

@[simp] theorem plantData_fullResync : plantData (fullResync s) = plantData s := plantData_setSync _ _

theorem twin_fullResync : (fullResync s).twin = { s.twin with queue := [], lastTick := none, ebase := [] } := twin_setSync_UNSYNCED _

theorem syncOf_fullResync : syncOf (fullResync s) = syUNSYNCED := syncOf_setSync _ (by decide)

theorem roleOf_fullResync : roleOf (fullResync s) = roleOf s := roleOf_setSync _ _

end

section
variable {s : State} {q : Requester} (hr : Reaches s q 0x88 0x54)
include hr

theorem handover_asks (role : roleOf s = rlACTIVE ∨ roleOf s = rlSTANDBY) (link : linkUp s = true) (ready : standbyReady s = true) :
    ∃ t, exec (.handover q) s = .next t ∧ Accepted t ∧ t = { s with twin := { s.twin with hoReq := true }, answer := t.answer } :=
  ⟨_, twnGated_taken hr (twnCommand_handover role link ready), rfl, rfl⟩

theorem cancelHo_cancels (k : Nat) (named : s.twin.hoTick = some k) (early : s.now.toNat + 100000 < k * 100000) :
    ∃ t, exec (.cancelHo q) s = .next t ∧ Accepted t ∧ t.twin.hoReq = false ∧ t.twin.hoTick = none ∧
      flag t R.TWN_STAT F.TWN_STAT_HO_PEND = false ∧ SameRegs [R.TWN_STAT] s t ∧ SamePlant s t :=
  ⟨_, twnGated_taken hr (twnCommand_cancel named early), rfl, rfl, rfl, flag_setFld_zero _ _ _ (by decide) (by decide),
    fun _ other => rd_cancelHandover_ne s (by simpa using other), samePlant_of_plantData (plantData_cancelHandover s)⟩

theorem rearmRev_rearms : ∃ t, exec (.rearmRev q) s = .next t ∧ Accepted t ∧ flag t R.TWN_STAT F.TWN_STAT_REV_SUSP = false ∧ t.twin.returns = [] ∧
    SameRegs [R.TWN_STAT] s t ∧ SamePlant s t :=
  ⟨_, twnGated_taken hr rfl, rfl, flag_setFld_zero _ _ _ (by decide) (by decide), rfl,
    fun _ other => rd_setFld_ne _ _ _ (by simpa using other), samePlant_of_plantData rfl⟩

theorem clrTko_clears : ∃ t, exec (.clrTko q) s = .next t ∧ Accepted t ∧ flag t R.TWN_STAT F.TWN_STAT_TAKEOVER = false ∧ OnlyRegs [R.TWN_STAT] s t :=
  ⟨_, twnGated_taken hr rfl, rfl, flag_setFld_zero _ _ _ (by decide) (by decide),
    (onlyRegs_setFld s _ 0 List.mem_cons_self).trans (onlyRegs_answer _ _ _)⟩

theorem resync_starts (standby : roleOf s = rlSTANDBY) : ∃ t, exec (.resync q) s = .next t ∧ Accepted t ∧ syncOf t = syUNSYNCED ∧
    t.twin.queue = [] ∧ roleOf t = rlSTANDBY ∧ SamePlant s t :=
  ⟨_, twnGated_taken hr (twnCommand_resync standby), rfl, syncOf_fullResync s, congrArg Twin.queue (twin_fullResync s),
    (roleOf_fullResync s).trans standby, samePlant_of_plantData (plantData_fullResync s)⟩

end

/-! ## REVERTIVE_REQUEST (R353) -/

section
variable {s : State}

theorem revertiveRequest_none (h : revertDue s = none) : revertiveRequest s = s := by
  rw [revertiveRequest, h]

/-- The home standby asks for the active role when its hold-off ends. -/
theorem revertiveRequest_asks (d : Nat) (h : revertDue s = some d) (swept : s.twin.sweeps ≠ 0) (unasked : s.twin.hoReq = false) :
    ∃ t, exec .revertiveRequest s = .next t ∧ t = { s with now := t.now, twin := { s.twin with hoReq := true, hoRev := true } } := by
  have due : ¬ (s.twin.sweeps = 0 ∨ s.twin.hoReq = true) := by simp [swept, unasked]
  have done : revertiveRequest s = setTwin (advanceTo s (BitVec.ofNat 64 d)) { s.twin with hoReq := true, hoRev := true } := by
    rw [revertiveRequest, h]
    refine (if_neg due).trans ?_
    rw [advanceTo]
    split <;> rfl
  refine ⟨_, congrArg Host.Outcome.next done, ?_⟩
  rw [advanceTo]
  split <;> rfl

end

/-! ## The link (R338, R347) -/

theorem linkPacketRetry_counts (s : State) (received : Bool) : ∃ t, exec (.linkPacketRetry received) s = .next t ∧
    (rd t (if received then R.TLM_CRC else R.TLM_RETRY)).toNat = min 0xFFFFFFFF ((rd s (if received then R.TLM_CRC else R.TLM_RETRY)).toNat + 1) ∧
    OnlyRegs [if received then R.TLM_CRC else R.TLM_RETRY] s t :=
  ⟨_, rfl, rd_bumpSat_one s _, onlyRegs_wr s _ List.mem_cons_self⟩

/-- The lanes that trained and are enabled. -/
def lanesUp (s : State) (lanes : Nat) : Nat := lanes &&& (fld s R.TLM_CFG F.TLM_CFG_LANE0 + 2 * fld s R.TLM_CFG F.TLM_CFG_LANE1)

/-- The event of a link that comes up. -/
def linkRisen (s : State) : State := if linkUp s then s else raiseBit s 0x7E 1

/-- The link shown up on its lanes. -/
def linkOn (s : State) (lanes : Nat) : State :=
  setFld (setFld (linkRisen s) R.TLM_STAT F.TLM_STAT_UP 1) R.TLM_STAT F.TLM_STAT_LANES (lanesUp s lanes)

section
variable {s : State}

theorem twinLinkUp_eq {lanes : Nat} (pair : paired s = true) (on : pageSt s 0x7E = 2) (trained : lanesUp s lanes ≠ 0) :
    twinLinkUp s lanes = linkOn s lanes := by
  refine if_neg (not_or.mpr ⟨trained, not_or.mpr ⟨not_not_intro on, ?_⟩⟩)
  simp [pair]

theorem plantData_linkRisen (s : State) : plantData (linkRisen s) = plantData s := by
  unfold linkRisen
  split
  · rfl
  · exact plantData_raiseBit s _ _

theorem twin_linkRisen (s : State) : (linkRisen s).twin = s.twin := by
  unfold linkRisen
  split
  · rfl
  · exact raiseBit_twin s _ _

theorem claisLinkUp_shows {lanes : BitVec 2} (pair : paired s = true) (on : pageSt s 0x7E = 2) (trained : lanesUp s lanes.toNat ≠ 0) :
    ∃ t, exec (.claisLinkUp lanes) s = .next t ∧ linkUp t = true ∧ fld t R.TLM_STAT F.TLM_STAT_LANES = lanesUp s lanes.toNat ∧
      (linkUp s = false → (rd t (R.PG_ISR 0x7E)).getLsbD 1 = true) ∧ t.twin = s.twin ∧ SamePlant s t := by
  have two : lanesUp s lanes.toNat < 4 := Nat.lt_of_le_of_lt Nat.and_le_left lanes.isLt
  refine ⟨linkOn s lanes.toNat, congrArg Host.Outcome.next (twinLinkUp_eq pair on trained), ?_, ?_, fun down => ?_, ?_, samePlant_of_plantData ?_⟩
  · rw [linkUp, flag, linkOn, fld_setFld_other _ _ F.TLM_STAT_LANES _ _ (by decide) (by decide) (by decide),
      fld_setFld_same _ _ _ _ (by decide) (by decide)]
    rfl
  · exact (fld_setFld_same _ _ _ _ (by decide) (by decide)).trans (Nat.mod_eq_of_lt two)
  · rw [linkOn, rd_setFld_ne _ _ _ (by decide), rd_setFld_ne _ _ _ (by decide), linkRisen, down, if_neg (by decide)]
    exact raiseBit_isr_bit s (by decide) (by decide)
  · rw [linkOn, setFld_twin, setFld_twin, twin_linkRisen]
  · rw [linkOn, plantData_setFld, plantData_setFld, plantData_linkRisen]

/-- The link shown down. -/
def linkOff (s : State) : State := setFld (setFld s R.TLM_STAT F.TLM_STAT_UP 0) R.TLM_STAT F.TLM_STAT_LANES 0

/-- A handover that is asked for or named ends. -/
def handoverEnded (s : State) : State := if s.twin.hoReq ∨ s.twin.hoTick.isSome then cancelHandover s else s

/-- No bulk transfer is under way, and a module that waits for the active role starts its resynchronization anew. -/
def transfersEnded (s : State) : State :=
  let u := setTwin s { s.twin with bulking := false }
  if waits u then fullResync u else u

theorem twinLinkDown_eq (s : State) : twinLinkDown s = transfersEnded (handoverEnded (linkOff s)) := rfl

theorem rd_handoverEnded_ne (s : State) {k : Nat} (h : k ≠ R.TWN_STAT) : rd (handoverEnded s) k = rd s k := by
  unfold handoverEnded
  split
  · exact rd_cancelHandover_ne s h
  · rfl

theorem roleOf_handoverEnded (s : State) : roleOf (handoverEnded s) = roleOf s := by
  unfold handoverEnded
  split
  · exact roleOf_cancelHandover s
  · rfl

theorem hoTick_handoverEnded (s : State) : (handoverEnded s).twin.hoTick = none := by
  unfold handoverEnded
  split
  next => rw [twin_cancelHandover]
  next idle => simpa using fun tick => idle (.inr tick)

theorem plantData_handoverEnded (s : State) : plantData (handoverEnded s) = plantData s := by
  unfold handoverEnded
  split
  · exact plantData_cancelHandover s
  · rfl

/-- What the end of the transfers leaves. -/
theorem transfersEnded_keeps (s : State) : plantData (transfersEnded s) = plantData s ∧ rd (transfersEnded s) R.TLM_STAT = rd s R.TLM_STAT ∧
    (transfersEnded s).twin.hoTick = s.twin.hoTick ∧ (transfersEnded s).twin.bulking = false := by
  unfold transfersEnded
  dsimp only
  split
  · rw [plantData_fullResync, twin_fullResync, fullResync, rd_setSync_ne _ _ (by decide) (by decide), rd_setFld_ne _ _ _ (by decide)]
    exact ⟨rfl, rfl, rfl, rfl⟩
  · exact ⟨rfl, rfl, rfl, rfl⟩

theorem syncOf_transfersEnded (standby : roleOf s = rlSTANDBY) : syncOf (transfersEnded s) = syUNSYNCED := by
  have waiting : waits (setTwin s { s.twin with bulking := false }) = true := by rw [waits, roleOf_setTwin, standby]; rfl
  rw [transfersEnded, if_pos waiting]
  exact syncOf_fullResync _

theorem claisLinkDown_shows (s : State) : ∃ t, exec .claisLinkDown s = .next t ∧ linkUp t = false ∧ fld t R.TLM_STAT F.TLM_STAT_LANES = 0 ∧
    t.twin.hoTick = none ∧ t.twin.bulking = false ∧ (roleOf s = rlSTANDBY → syncOf t = syUNSYNCED) ∧ SamePlant s t := by
  let u := handoverEnded (linkOff s)
  obtain ⟨data, link, tick, bulk⟩ := transfersEnded_keeps u
  have shown : rd (transfersEnded u) R.TLM_STAT = rd (linkOff s) R.TLM_STAT := link.trans (rd_handoverEnded_ne _ (by decide))
  have role : roleOf u = roleOf s :=
    (roleOf_handoverEnded _).trans ((fld_setFld_ne _ _ _ _ (by decide)).trans (fld_setFld_ne _ _ _ _ (by decide)))
  refine ⟨_, congrArg Host.Outcome.next (twinLinkDown_eq s), ?_, ?_, tick.trans (hoTick_handoverEnded _), bulk,
    fun standby => syncOf_transfersEnded (role.trans standby), samePlant_of_plantData (data.trans (plantData_handoverEnded _))⟩
  · rw [linkUp, flag, fld, shown, ← fld, linkOff, fld_setFld_other _ _ F.TLM_STAT_LANES _ _ (by decide) (by decide) (by decide), ← flag]
    exact flag_setFld_zero _ _ _ (by decide) (by decide)
  · rw [fld, shown, ← fld, linkOff, fld_setFld_same _ _ _ _ (by decide) (by decide)]
    rfl

end

end Sys2Proof.Machine
end

section
/-! SUPPORT. The Forecast, its records and the self-test sweep (R348, R349), and the obligation of handovers, link and Forecast. -/

namespace Sys2Proof.Machine

open Sys2Proof.Safety

/-! ## The words of a record -/

/-- A word of a Forecast record. -/
def recordWord (b : List Byte) (n : Nat) : Word := BitVec.ofNat 32 (leNat ((b.drop (4 * n)).take 4))

theorem leNat_leBytes (k x : Nat) : leNat (leBytes k x) = x % 256 ^ k := by
  induction k generalizing x with
  | zero => exact (Nat.mod_one x).symm
  | succ k ih =>
    have split : x % 256 ^ (k + 1) = x % 256 + 256 * (x / 256 % 256 ^ k) := by rw [Nat.pow_succ', Nat.mod_mul]
    rw [leBytes, leNat, ih, BitVec.toNat_ofNat, split]

/-- Words before a part are passed over. -/
theorem recordWord_append {p : List Byte} {k : Nat} (length : p.length = 4 * k) (b : List Byte) (n : Nat) :
    recordWord (p ++ b) (k + n) = recordWord b n := by
  rw [recordWord, recordWord, Nat.mul_add, ← length, List.drop_length_add_append]

theorem recordWord_leBytes (x : Nat) (b : List Byte) : recordWord (leBytes 4 x ++ b) 0 = BitVec.ofNat 32 x := by
  have four : ((leBytes 4 x ++ b).drop (4 * 0)).take 4 = leBytes 4 x := List.take_left' (length_leBytes 4 x)
  rw [recordWord, four, leNat_leBytes]
  exact BitVec.eq_of_toNat_eq (by rw [BitVec.toNat_ofNat, BitVec.toNat_ofNat]; exact Nat.mod_mod _ _)

/-- Eight bytes hold their number's low word first. -/
theorem leBytes_eight (x : Nat) : leBytes 8 x = leBytes 4 x ++ leBytes 4 (x / 256 / 256 / 256 / 256) := rfl

/-- The word that a record begins with: its magic, its version and the role. -/
theorem recordHead {r : Nat} (h : r < 8) : [0x46, 0x43, 0x01, BitVec.ofNat 8 r] = leBytes 4 (r * 2 ^ 24 + 0x014346) := by
  revert r
  decide

section
variable {key : Nat → Nat} (s : State) (b : List Byte)

theorem rd_putRecord (inj : ∀ m n, key m = key n → m = n) (n : Fin 64) : rd (putRecord s key b) (key n.val) = recordWord b n.val := by
  obtain ⟨u, -, put⟩ := forAll_view (f := fun s n => wr s (key n) (recordWord b n)) (view := fun u => rd u (key n.val)) List.nodup_range
    (List.mem_range.mpr n.isLt) (fun u k _ other => rd_wr_ne u _ fun e => other (inj _ _ e).symm) s
  exact put.trans (rd_wr_same u _ _)

theorem pageUpdate_putRecord (page : ∀ n, n < 64 → keyPage (key n) = 0x8A) : PageUpdate [0x8A] s (putRecord s key b) :=
  pageUpdate_forAll (fun n hn u => pageUpdate_wr u _ (by rw [page n (List.mem_range.mp hn)]; exact List.mem_cons_self)) s

end

theorem FCS_OWN_inj (m n : Nat) (h : R.FCS_OWN m = R.FCS_OWN n) : m = n := by
  unfold R.FCS_OWN regKey at h
  omega

theorem FCS_PART_inj (m n : Nat) (h : R.FCS_PART m = R.FCS_PART n) : m = n := by
  unfold R.FCS_PART regKey at h
  omega

theorem keyPage_FCS_OWN (n : Nat) (h : n < 64) : keyPage (R.FCS_OWN n) = 0x8A := keyPage_regKey (by decide) (by omega) 0

theorem keyPage_FCS_PART (n : Nat) (h : n < 64) : keyPage (R.FCS_PART n) = 0x8A := keyPage_regKey (by decide) (by omega) 0

/-! ## FORECAST_PUBLISH (R348, R349) -/

/-- A Forecast record by the words that the statement names. -/
theorem forecastBytes_parts (s : State) (pct bist tj : Word) : ∃ m rest : List Byte, m.length = 4 * 1 ∧ forecastBytes s pct bist tj =
    leBytes 4 (roleOf s * 2 ^ 24 + 0x014346) ++ (leBytes 4 s.twin.fcSeq ++ (leBytes 4 s.now.toNat ++ (leBytes 4 (s.now.toNat / 256 / 256 / 256 / 256) ++
      (leBytes 4 (rd s R.TWN_EPOCH).toNat ++ (m ++ (leBytes 4 (forecastFlags s) ++ rest)))))) := by
  rw [← recordHead (r := roleOf s) (fld_lt s R.TWN_STAT F.TWN_STAT_ROLE)]
  unfold forecastBytes
  simp only [leBytes_eight, List.append_assoc]
  exact ⟨[BitVec.ofNat 8 (modeNow s), BitVec.ofNat 8 (syncOf s), BitVec.ofNat 8 (pct.toNat % 101), BitVec.ofNat 8 (healthOf (forecastFlags s))], _, rfl, rfl⟩

/-- A record's number is drawn, with three free values (assumption 7). -/
def forecastNumbered (s : State) : State := (takeFree (takeFree (takeFree (setTwin s { s.twin with fcSeq := s.twin.fcSeq + 1 })).1).1).1

/-- The state whose record is published: at its period's end, with its number drawn. -/
def forecastDue (s : State) : State := forecastNumbered (advanceTo s (BitVec.ofNat 64 ((s.now.toNat + 9999999) / 10000000 * 10000000)))

/-- The counts that restart once a record is published. -/
def forecastRestarted (was : Nat) (s : State) : Twin :=
  { s.twin with mtrDiff := 0, mirMaxB := 0, mgmtDepth := 0, readyAt := if was ≠ 0 ∧ ownHealth s = 0 then s.now else s.twin.readyAt }

/-- The end of a publication: counts restart, and events say what has changed. -/
def forecastClosed (was : Nat) (s : State) : State :=
  let s := raiseBit (setTwin s (forecastRestarted was s)) 0x8A 0
  if ownHealth s = was then s
  else
    let s := raiseBit s 0x8A 1
    if ownHealth s ≠ 0 ∧ roleOf s = rlSTANDBY ∧ (s.twin.hoReq ∨ s.twin.hoTick.isSome) then cancelHandover s else s

theorem forecastPublish_eq (s : State) : ∃ was pct bist tj,
    forecastPublish s = forecastClosed was (putRecord (forecastDue s) R.FCS_OWN (forecastBytes (forecastDue s) pct bist tj)) := by
  unfold forecastPublish forecastDue
  generalize advanceTo s _ = u
  exact ⟨ownHealth u, _, _, _, rfl⟩

/-- What the end of a publication leaves, and its event. -/
structure ForecastClosed (s t : State) : Prop where
  regs : ∀ k, k ≠ R.TWN_STAT → k ≠ R.PG_ISR 0x8A → k ≠ R.EVT_PEND 4 → rd t k = rd s k
  now : t.now = s.now
  number : t.twin.fcSeq = s.twin.fcSeq
  told : (rd t (R.PG_ISR 0x8A)).getLsbD 0 = true
  data : plantData t = plantData s

section
variable (s : State)

theorem forecastClosed_first (x : Twin) (number : x.fcSeq = s.twin.fcSeq) : ForecastClosed s (raiseBit (setTwin s x) 0x8A 0) where
  regs _ _ isr pend := (rd_raiseBit_ne _ isr pend).trans (rd_setTwin _ _ _)
  now := raiseBit_now _ _ _
  number := (congrArg Twin.fcSeq (raiseBit_twin _ _ _)).trans number
  told := raiseBit_isr_bit _ (by decide) (by decide)
  data := plantData_raiseBit _ _ _

variable {s} {t : State}

theorem ForecastClosed.changed (h : ForecastClosed s t) : ForecastClosed s (raiseBit t 0x8A 1) where
  regs k stat isr pend := (rd_raiseBit_ne _ isr pend).trans (h.regs k stat isr pend)
  now := (raiseBit_now _ _ _).trans h.now
  number := (congrArg Twin.fcSeq (raiseBit_twin _ _ _)).trans h.number
  told := by rw [rd_raiseBit_isr _ _ (by decide), BitVec.getLsbD_or, h.told, Bool.true_or]
  data := (plantData_raiseBit _ _ _).trans h.data

theorem ForecastClosed.cancelled (h : ForecastClosed s t) : ForecastClosed s (cancelHandover t) where
  regs k stat isr pend := (rd_cancelHandover_ne t stat).trans (h.regs k stat isr pend)
  now := h.now
  number := h.number
  told := (congrArg (·.getLsbD 0) (rd_cancelHandover_ne t (by decide))).trans h.told
  data := h.data

theorem forecastClosed_closes (was : Nat) (s : State) : ForecastClosed s (forecastClosed was s) := by
  have first := forecastClosed_first s (forecastRestarted was s) rfl
  unfold forecastClosed
  dsimp only
  split
  · exact first
  · split
    · exact first.changed.cancelled
    · exact first.changed

/-- A record's flags rest on the registers and on the twin control, whatever the record's number. -/
theorem forecastFlags_congr {s t : State} {n : Nat} (regs : ∀ k, rd t k = rd s k) (twin : t.twin = { s.twin with fcSeq := n }) :
    forecastFlags t = forecastFlags s := by
  unfold forecastFlags
  simp only [roleOf, syncOf, flag, fld, regs, twin]

/-- What a record rests on is as it was when its number is drawn. -/
structure ForecastNumbered (s t : State) : Prop where
  regs : ∀ k, rd t k = rd s k
  twin : t.twin = { s.twin with fcSeq := s.twin.fcSeq + 1 }
  data : plantData t = plantData s

/-- A free value drawn leaves all that a record rests on. -/
theorem ForecastNumbered.drawn {s t : State} (h : ForecastNumbered s t) : ForecastNumbered s (takeFree t).1 := ⟨h.regs, h.twin, h.data⟩

theorem forecastNumbered_keeps (s : State) : ForecastNumbered s (forecastNumbered s) := by
  have first : ForecastNumbered s (setTwin s { s.twin with fcSeq := s.twin.fcSeq + 1 }) := ⟨fun _ => rfl, rfl, rfl⟩
  exact first.drawn.drawn.drawn

theorem forecastDue_keeps (s : State) : ForecastNumbered s (forecastDue s) := by
  unfold forecastDue
  generalize BitVec.ofNat 64 _ = due
  obtain ⟨regs, twin, data⟩ := forecastNumbered_keeps (advanceTo s due)
  exact ⟨fun k => (regs k).trans (congrArg (tget resetWord · k) (advanceTo_regs s due)), twin.trans (by rw [advanceTo_twin]),
    data.trans (plantData_advanceTo s due)⟩

theorem putRecord_now (s : State) (key : Nat → Nat) (b : List Byte) : (putRecord s key b).now = s.now :=
  forAll_keeps (f := fun s n => wr s (key n) (recordWord b n)) (view := State.now) (fun _ _ _ => rfl) s

/-- A Forecast record shows the role, its number, the time, the epoch and the flags. -/
theorem forecastPublish_publishes (s : State) : ∃ t, exec .forecastPublish s = .next t ∧
    rd t (R.FCS_OWN 0) = BitVec.ofNat 32 (roleOf s * 2 ^ 24 + 0x014346) ∧ rd t (R.FCS_OWN 1) = BitVec.ofNat 32 (s.twin.fcSeq + 1) ∧
    rd t (R.FCS_OWN 2) = t.now.setWidth 32 ∧ rd t (R.FCS_OWN 4) = rd s R.TWN_EPOCH ∧ rd t (R.FCS_OWN 6) = BitVec.ofNat 32 (forecastFlags s) ∧
    t.twin.fcSeq = s.twin.fcSeq + 1 ∧ (rd t (R.PG_ISR 0x8A)).getLsbD 0 = true ∧ SamePlant s t := by
  obtain ⟨was, pct, bist, tj, done⟩ := forecastPublish_eq s
  obtain ⟨regs, twin, data⟩ := forecastDue_keeps s
  have role : roleOf (forecastDue s) = roleOf s := congrArg (bits · F.TWN_STAT_ROLE.hi F.TWN_STAT_ROLE.lo) (regs R.TWN_STAT)
  have number : (forecastDue s).twin.fcSeq = s.twin.fcSeq + 1 := congrArg Twin.fcSeq twin
  obtain ⟨m, rest, four, bytes⟩ := forecastBytes_parts (forecastDue s) pct bist tj
  have put := pageUpdate_putRecord (forecastDue s) (forecastBytes (forecastDue s) pct bist tj) keyPage_FCS_OWN
  have closed := forecastClosed_closes was (putRecord (forecastDue s) R.FCS_OWN (forecastBytes (forecastDue s) pct bist tj))
  rw [← done] at closed
  have word (n : Fin 64) : rd (forecastPublish s) (R.FCS_OWN n.val) = recordWord (forecastBytes (forecastDue s) pct bist tj) n.val := by
    have page := keyPage_FCS_OWN n.val n.isLt
    refine (closed.regs _ (fun e => absurd (e ▸ page) (by decide)) ?_ ?_).trans (rd_putRecord _ _ FCS_OWN_inj n)
    · intro e
      unfold R.FCS_OWN R.PG_ISR regKey at e
      omega
    · exact regKey_ne_EVT_PEND 0x8A (by omega) (by decide)
  have skip (x : Nat) (b : List Byte) (n : Nat) : recordWord (leBytes 4 x ++ b) (1 + n) = recordWord b n :=
    recordWord_append (k := 1) (length_leBytes 4 x) b n
  have time : (forecastPublish s).now = (forecastDue s).now := closed.now.trans (putRecord_now _ _ _)
  rw [bytes] at word
  refine ⟨_, rfl, ?_, ?_, ?_, ?_, ?_, closed.number.trans ((congrArg Twin.fcSeq put.twin).trans number), closed.told,
    samePlant_of_plantData (closed.data.trans (put.data.trans data))⟩
  · rw [← role]
    exact (word 0).trans (recordWord_leBytes _ _)
  · rw [← number]
    exact (word 1).trans ((skip _ _ 0).trans (recordWord_leBytes _ _))
  · rw [time]
    refine (word 2).trans (((skip _ _ 1).trans ((skip _ _ 0).trans (recordWord_leBytes _ _))).trans ?_)
    exact BitVec.eq_of_toNat_eq (by rw [BitVec.toNat_ofNat, BitVec.toNat_setWidth])
  · rw [← regs R.TWN_EPOCH]
    refine (word 4).trans (((skip _ _ 3).trans ((skip _ _ 2).trans ((skip _ _ 1).trans ((skip _ _ 0).trans (recordWord_leBytes _ _))))).trans ?_)
    rw [BitVec.ofNat_toNat, BitVec.setWidth_eq]
  · rw [← forecastFlags_congr regs twin]
    refine (word 6).trans ((skip _ _ 5).trans ((skip _ _ 4).trans ((skip _ _ 3).trans ((skip _ _ 2).trans ((skip _ _ 1).trans ?_)))))
    exact (recordWord_append four _ 0).trans (recordWord_leBytes _ _)

end

/-! ## FORECAST_RECEIVED (R349) -/

section
variable {s : State} {b : List Byte}

theorem forecastReceived_ignored (h : b.length ≠ 256 ∨ linkUp s = false) : forecastReceived s b = s := by
  refine if_pos ?_
  obtain short | down := h
  · exact .inl short
  · exact .inr (by simp [down])

/-- A partner's record stands in FCS_PART. -/
theorem forecastReceived_shows (whole : b.length = 256) (link : linkUp s = true) : ∃ t, exec (.forecastReceived b) s = .next t ∧ SamePlant s t ∧
    t.twin = s.twin ∧ ∀ n : Fin 64, rd t (R.FCS_PART n.val) = recordWord b n.val := by
  let u := putRecord s R.FCS_PART b
  have put : PageUpdate [0x8A] s u := pageUpdate_putRecord s b keyPage_FCS_PART
  have word (n : Fin 64) : rd u (R.FCS_PART n.val) = recordWord b n.val := rd_putRecord s b FCS_PART_inj n
  have done : forecastReceived s b = if bits (rd u (R.FCS_PART 5)) 31 24 = bits (rd s (R.FCS_PART 5)) 31 24 then u else raiseBit u 0x8A 1 :=
    if_neg (by simp [whole, link])
  by_cases same : bits (rd u (R.FCS_PART 5)) 31 24 = bits (rd s (R.FCS_PART 5)) 31 24
  · exact ⟨u, congrArg Host.Outcome.next (done.trans (if_pos same)), samePlant_of_plantData put.data, put.twin, word⟩
  · refine ⟨raiseBit u 0x8A 1, congrArg Host.Outcome.next (done.trans (if_neg same)), samePlant_of_plantData ((plantData_raiseBit _ _ _).trans put.data),
      (raiseBit_twin _ _ _).trans put.twin, fun n => (rd_raiseBit_ne u ?_ ?_).trans (word n)⟩
    · intro e
      unfold R.FCS_PART R.PG_ISR regKey at e
      omega
    · exact regKey_ne_EVT_PEND 0x8A (by omega) (by decide)

end

/-! ## SELF_TEST_SWEEP_END (R348, R349) -/

/-- A step at a sweep's end: it may note conditions of the sweep, and changes nothing else of the twin control. -/
structure SweepStep (s t : State) : Prop where
  data : plantData t = plantData s
  twin : t.twin = { s.twin with flagsNow := t.twin.flagsNow }
  noted : ∀ n, s.twin.flagsNow.getLsbD n = true → t.twin.flagsNow.getLsbD n = true

section
variable {s t u : State}

theorem SweepStep.refl (s : State) : SweepStep s s := ⟨rfl, rfl, fun _ h => h⟩

theorem SweepStep.trans (h : SweepStep s t) (k : SweepStep t u) : SweepStep s u where
  data := k.data.trans h.data
  twin := by rw [k.twin, h.twin]
  noted n was := k.noted n (h.noted n was)

theorem SweepStep.ite (c : Prop) [Decidable c] (h : SweepStep s t) : SweepStep s (if c then t else s) := by
  split
  · exact h
  · exact SweepStep.refl s

/-- A step that leaves the twin control. -/
theorem SweepStep.ofTwin (data : plantData t = plantData s) (twin : t.twin = s.twin) : SweepStep s t where
  data := data
  twin := by rw [twin]
  noted _ was := by rwa [twin]

theorem flagsNow_noteFlag (s : State) {n : Nat} (small : n < 32) (m : Nat) :
    (noteFlag s n).twin.flagsNow.getLsbD m = (s.twin.flagsNow.getLsbD m || m == n) := by
  show (withBits s.twin.flagsNow n n 1).getLsbD m = _
  rw [withBits_getLsbD _ _ _ (Nat.le_refl n) small]
  by_cases same : m = n
  · simp [same]
  · rw [if_neg (by omega), beq_false_of_ne same, Bool.or_false]

theorem sweepStep_noteFlag (s : State) {n : Nat} (small : n < 32) : SweepStep s (noteFlag s n) :=
  ⟨rfl, rfl, fun m was => by rw [flagsNow_noteFlag s small, was, Bool.true_or]⟩

theorem sweepStep_bumpSat (s : State) (k n : Nat) : SweepStep s (bumpSat s k n) := .ofTwin rfl rfl

theorem sweepStep_laneFail (s : State) (lane : Nat) : SweepStep s (laneFail s lane) := by
  have event (u : State) : SweepStep u (raiseBit u 0x7E 0) := .ofTwin (plantData_raiseBit u _ _) (raiseBit_twin u _ _)
  have lanes (u : State) (v : Nat) : SweepStep u (setFld u R.TLM_STAT F.TLM_STAT_LANES v) := .ofTwin rfl rfl
  exact ((sweepStep_noteFlag s (by decide)).trans (event _)).trans (.ite _ (lanes _ _))

end

theorem satAdd_eq (a b : Nat) : satAdd 32 a b = min 0xFFFFFFFF (a + b) := by
  unfold satAdd
  split <;> omega

/-- A sweep's end counts its results, notes its conditions in steps, and closes the sweep's flags. -/
theorem sweepEnd_steps (s : State) (x : SweepResult) : ∃ u v, SweepStep u v ∧ plantData u = plantData s ∧ u.twin.sweeps = s.twin.sweeps + 1 ∧
    u.twin.sweepAt = s.now ∧ (flag s R.FCS_CFG F.FCS_CFG_KAT_EN = true → u.twin.katFail = satAdd 32 s.twin.katFail x.katFail) ∧
    (flag s R.FCS_CFG F.FCS_CFG_BIST_EN = true → roleOf s ≠ rlACTIVE → x.bistFail &&& 0x7FFFF ≠ 0 → v.twin.flagsNow.getLsbD 3 = true) ∧
    sweepEnd s x = setTwin v { v.twin with flagsLast := v.twin.flagsNow, flagsNow := 0 } := by
  unfold sweepEnd
  extract_lets bist scrub kat was fail counted failed scrubbed known lanes zero one
  have rest : SweepStep failed one :=
    (((((SweepStep.ite _ (sweepStep_noteFlag failed (by decide))).trans (.ite _ (sweepStep_noteFlag scrubbed (by decide)))).trans
      ((sweepStep_bumpSat known _ _).trans (sweepStep_bumpSat _ _ _))).trans (.ite _ (sweepStep_laneFail lanes 0))).trans
      (.ite _ (sweepStep_laneFail zero 1)))
  refine ⟨counted, one, (SweepStep.ite _ (sweepStep_noteFlag counted (by decide))).trans rest, rfl, rfl, rfl, fun enabled => ?_,
    fun enabled passive fails => rest.noted 3 ?_, rfl⟩
  · have known : kat = true := enabled
    show satAdd 32 s.twin.katFail (if kat then x.katFail else 0) = _
    rw [known, if_pos rfl]
  · have tested : bist = true := by simp [bist, enabled, passive]
    have failing : fail = x.bistFail &&& 0x7FFFF := by rw [show fail = if bist then x.bistFail &&& 0x7FFFF else 0 from rfl, tested, if_pos rfl]
    have noted : failed = noteFlag counted 3 := if_pos (by rw [failing]; exact bne_iff_ne.mpr fails)
    rw [noted, flagsNow_noteFlag counted (by decide)]
    exact Bool.or_true _

theorem selfTestSweepEnd_counts (s : State) (x : SweepResult) : ∃ t, exec (.selfTestSweepEnd x) s = .next t ∧ t.twin.sweeps = s.twin.sweeps + 1 ∧
    t.twin.sweepAt = s.now ∧ t.twin.flagsNow = 0 ∧
    (flag s R.FCS_CFG F.FCS_CFG_KAT_EN = true → t.twin.katFail = min 0xFFFFFFFF (s.twin.katFail + x.katFail)) ∧
    (flag s R.FCS_CFG F.FCS_CFG_BIST_EN = true → roleOf s ≠ rlACTIVE → x.bistFail &&& 0x7FFFF ≠ 0 → t.twin.flagsLast.getLsbD 3 = true) ∧
    SamePlant s t := by
  obtain ⟨u, v, step, data, sweeps, time, kat, bist, done⟩ := sweepEnd_steps s x
  exact ⟨_, congrArg Host.Outcome.next done, (congrArg Twin.sweeps step.twin).trans sweeps, (congrArg Twin.sweepAt step.twin).trans time, rfl,
    fun enabled => (congrArg Twin.katFail step.twin).trans ((kat enabled).trans (satAdd_eq _ _)), bist,
    samePlant_of_plantData (step.data.trans data)⟩

/-! ## Handovers, the link and the Forecast -/

/-- Settles O52: the commands of TWN_CMD by what each asks, clears or restarts, and the switch, the link and the Forecast each by its command.
That the switch is made at the boundary that is next is DEDUCED (log 34). -/
theorem handoversLinkAndForecast : Obligations.HandoversLinkAndForecast := by
  unfold Obligations.HandoversLinkAndForecast
  intro s
  exact ⟨fun q hr => ⟨handover_asks hr, fun unready => twnGated_rejected hr (by decide) (twnCommand_handover_unready unready),
      fun unasked unnamed => twnGated_rejected hr (by decide) (twnCommand_cancel_idle unasked unnamed),
      fun k named late => twnGated_rejected hr (by decide) (twnCommand_cancel_late named late), cancelHo_cancels hr, rearmRev_rearms hr,
      clrTko_clears hr, resync_starts hr, fun other => twnGated_rejected hr (by decide) (twnCommand_resync_other other)⟩,
    fun k named => ⟨fun early => congrArg Host.Outcome.next (handoverSwitch_early named early), handoverSwitch_leaves named,
      handoverSwitch_enters named⟩,
    fun unnamed => congrArg Host.Outcome.next (handoverSwitch_none unnamed), fun h => congrArg Host.Outcome.next (revertiveRequest_none h),
    revertiveRequest_asks, linkPacketRetry_counts s, fun lanes => claisLinkUp_shows, claisLinkDown_shows s, forecastPublish_publishes s,
    fun b => ⟨fun h => congrArg Host.Outcome.next (forecastReceived_ignored h), forecastReceived_shows⟩, selfTestSweepEnd_counts s⟩

end Sys2Proof.Machine
end

section
/-! SUPPORT. The block as a whole: the queue, the idle step, and what no step undoes. -/

namespace Sys2Proof.Machine

open Sys2Proof.Safety

theorem step_cons {s : State} {c : Instr} {rest : List Instr} (h : s.pending = c :: rest) : step s = exec c { s with pending := rest } := by
  unfold step
  rw [h]

theorem step_idle {s : State} (h : s.pending = []) : step s = .next (idle s) := by
  unfold step
  rw [h]

/-- Settles O1: the queue's front decides the branch of the step. -/
theorem stepRunsTheFrontCommand : Obligations.StepRunsTheFrontCommand := by
  unfold Obligations.StepRunsTheFrontCommand
  intro s c rest front
  exact step_cons front

/-- Settles O2: the idle step, branch by branch. -/
theorem emptyQueueLetsTimePass : Obligations.EmptyQueueLetsTimePass := by
  unfold Obligations.EmptyQueueLetsTimePass
  intro s empty
  rw [step_idle empty]
  unfold idle
  refine ⟨fun boot runs => ?_, fun boot waits => ?_, fun backup => ?_, fun up powered early => ?_, fun up powered due => ?_⟩
  · rw [if_pos boot, runs, if_neg Bool.false_ne_true]
  · rw [if_pos boot, if_pos waits]
  · rw [if_neg (by rw [backup]; decide), if_pos backup]
  · rw [if_neg up, if_neg powered, if_pos early]
  · rw [if_neg up, if_neg powered, if_neg (Nat.not_lt.mpr due)]

/-- Settles O3: every command answers a next state and leaves the queue alone. -/
theorem everyCommandCompletes : Obligations.EveryCommandCompletes := by
  unfold Obligations.EveryCommandCompletes
  intro c s
  obtain ⟨t, runs, kept⟩ := exec_kept c s
  exact ⟨t, runs, kept.pending⟩

/-- Settles O5: the fuses of `FusesKept`, which every step keeps. -/
theorem fusesAreNeverUndone : Obligations.FusesAreNeverUndone := by
  unfold Obligations.FusesAreNeverUndone
  intro s t taken
  obtain ⟨-, -, fuses⟩ := step_keeps taken
  exact ⟨fuses.killed, fuses.lock, fuses.svn, fuses.owner⟩

end Sys2Proof.Machine
end

section
/-! SUPPORT. What writes of the NOR leave: stores, torn ranges and the update journal (R479, R486, R494, R495). -/

namespace Sys2Proof.Machine

open Sys2Proof.Safety

/-- Bytes of a range have changed, and nothing else but the count of ranges left undefined. -/
structure RangeWritten (lo hi : Nat) (s t : State) : Prop where
  rest : t = { s with mem := t.mem, norGen := t.norGen }
  bytes : ∀ a, a < lo ∨ hi ≤ a → byteAt t a = byteAt s a

section
variable {lo hi : Nat} {s t u : State}

theorem RangeWritten.refl (lo hi : Nat) (s : State) : RangeWritten lo hi s s := ⟨rfl, fun _ _ => rfl⟩

theorem RangeWritten.trans (h : RangeWritten lo hi s t) (k : RangeWritten lo hi t u) : RangeWritten lo hi s u where
  rest := by conv_lhs => rw [k.rest, h.rest]
  bytes a out := (k.bytes a out).trans (h.bytes a out)

theorem RangeWritten.mono {lo' hi' : Nat} (h : RangeWritten lo hi s t) (low : lo' ≤ lo) (high : hi ≤ hi') : RangeWritten lo' hi' s t :=
  ⟨h.rest, fun a out => h.bytes a (by omega)⟩

theorem RangeWritten.rd (h : RangeWritten lo hi s t) (k : Nat) : rd t k = Machine.rd s k := by rw [h.rest]; rfl
theorem RangeWritten.fld (h : RangeWritten lo hi s t) (k : Nat) (f : Fld) : fld t k f = Machine.fld s k f := by rw [h.rest]; rfl
theorem RangeWritten.samePoints (h : RangeWritten lo hi s t) : SamePoints s t := fun n => by rw [h.rest]; rfl
theorem RangeWritten.recov (h : RangeWritten lo hi s t) : t.recov = s.recov := by rw [h.rest]
theorem RangeWritten.boot (h : RangeWritten lo hi s t) : t.boot = s.boot := by rw [h.rest]
theorem RangeWritten.upd (h : RangeWritten lo hi s t) : t.upd = s.upd := by rw [h.rest]

end

theorem rangeWritten_putBytes (s : State) (a : Nat) (l : List Byte) : RangeWritten a (a + l.length) s (putBytes s a l) where
  rest := by
    induction l generalizing s a with
    | nil => rfl
    | cons x r ih => rw [putBytes, ih]; rfl
  bytes b out := byteAt_putBytes_outside s a l out

theorem rangeWritten_fillBytes (s : State) (a n : Nat) (v : Byte) : RangeWritten a (a + n) s (fillBytes s a n v) := by
  have written := rangeWritten_putBytes s a (List.replicate n v)
  rwa [List.length_replicate] at written

theorem rangeWritten_tornNor (s : State) (off n : Nat) : RangeWritten (norBase + off) (norBase + off + n) s (tornNor s off n) := by
  have torn := rangeWritten_putBytes { s with norGen := s.norGen + 1 } (norBase + off)
    ((upTo n).map (fun i => Config.norByte (s.norGen + 1) (off + i)))
  rw [List.length_map, upTo, List.length_range] at torn
  exact RangeWritten.trans (t := { s with norGen := s.norGen + 1 }) ⟨rfl, fun _ _ => rfl⟩ torn

theorem length_storedSectors (n : Nat) : n + (4096 - n % 4096) % 4096 = (n + 4095) / 4096 * 4096 := by omega

theorem rangeWritten_storeNor (s : State) (off : Nat) (b : List Byte) :
    RangeWritten (norBase + off) (norBase + off + (b.length + 4095) / 4096 * 4096) s (storeNor s off b) := by
  have stored := rangeWritten_putBytes s (norBase + off) (b ++ List.replicate ((4096 - b.length % 4096) % 4096) 0xFF)
  rwa [List.length_append, List.length_replicate, length_storedSectors] at stored

/-- A store leaves the bytes given; what fills the last sector up lies behind them. -/
theorem bytesAt_storeNor (s : State) (off : Nat) (b : List Byte) : bytesAt (storeNor s off b) (norBase + off) b.length = b := by
  have rom : 0x20000 ≤ norBase + off := by unfold norBase; omega
  have part := bytesAt_putBytes_part s (a := norBase + off) [] b (List.replicate ((4096 - b.length % 4096) % 4096) 0xFF) rom
  exact part

/-! ## The journal (R494) -/

theorem jrecAt_idx {s : State} {i : Nat} {r : JRec} (h : jrecAt s i = some r) : r.idx = i := by
  unfold jrecAt at h
  simp only at h
  split at h
  · cases h; rfl
  · cases h

/-- The later of the best record so far and the one at an index. -/
def laterJrec (s : State) (best : Option JRec) (i : Nat) : Option JRec :=
  match jrecAt s i, best with
  | some r, some b => if b.jseq < r.jseq then some r else some b
  | some r, none => some r
  | none, b => b

theorem lastJrec_eq (s : State) : lastJrec s = (upTo 2048).foldl (laterJrec s) none := rfl

theorem laterJrec_cases (s : State) (best : Option JRec) (i : Nat) : laterJrec s best i = best ∨ laterJrec s best i = jrecAt s i := by
  unfold laterJrec
  split
  next r b found => split
                    · exact .inr found.symm
                    · exact .inl rfl
  next r found => exact .inr found.symm
  next => exact .inl rfl

theorem foldl_laterJrec_idx {s : State} {r : JRec} {l : List Nat} {best : Option JRec} (first : ∀ b, best = some b → b.idx < 2048)
    (inside : ∀ i ∈ l, i < 2048) (h : l.foldl (laterJrec s) best = some r) : r.idx < 2048 := by
  induction l generalizing best with
  | nil => exact first r h
  | cons i l ih =>
    refine ih (fun b e => ?_) (fun j mem => inside j (List.mem_cons_of_mem i mem)) h
    rcases laterJrec_cases s best i with kept | taken
    · exact first b (kept.symm.trans e)
    · exact jrecAt_idx (taken.symm.trans e) ▸ inside i List.mem_cons_self

theorem lastJrec_idx {s : State} {r : JRec} (h : lastJrec s = some r) : r.idx < 2048 := by
  rw [lastJrec_eq] at h
  exact foldl_laterJrec_idx (by simp) (fun _ mem => List.mem_range.mp mem) h

/-- The journal is read from its bytes alone. -/
theorem lastJrec_congr {s t : State} (h : SameBytes s t) : lastJrec t = lastJrec s := by
  have record : ∀ i, jrecAt t i = jrecAt s i := fun i => by
    unfold jrecAt
    rw [bytesAt_congr fun b _ _ => h b]
  have later : laterJrec t = laterJrec s := funext fun best => funext fun i => by
    unfold laterJrec
    rw [record]
  rw [lastJrec_eq, lastJrec_eq, later]

theorem journalOpen_congr {s t : State} (h : SameBytes s t) : journalOpen t = journalOpen s := by
  unfold journalOpen
  rw [lastJrec_congr h]

/-- The place of the next record: an erased one of the half in use, or the start of the other half, erased first. -/
theorem jplace_cases (s : State) : ∃ half, half < 2 ∧ ((∃ j, j < 1024 ∧ jplace s = (s, half * 1024 + j)) ∨
    jplace s = (fillBytes s (norBase + (1 - half) * 32768) 32768 0xFF, (1 - half) * 1024)) := by
  unfold jplace
  extract_lets i half
  have small : half < 2 := by
    rcases last : lastJrec s with _ | r
    · simp [half, i, last]
    · have := lastJrec_idx last
      simp only [half, i, last, Option.isSome_some, b2n, if_true, Nat.add_sub_cancel]
      omega
  refine ⟨half, small, ?_⟩
  split
  next j found => exact .inl ⟨j, List.mem_range.mp (List.mem_of_find?_eq_some found), rfl⟩
  next => exact .inr rfl

/-- A place for a record lies in the journal, and making it erases nothing else. -/
theorem jplace_inJournal (s : State) : (jplace s).2 < 2048 ∧ RangeWritten norBase (norBase + 0x10000) s (jplace s).1 := by
  obtain ⟨half, small, ⟨j, inside, placed⟩ | placed⟩ := jplace_cases s
  · rw [placed]
    dsimp only
    exact ⟨by omega, RangeWritten.refl _ _ s⟩
  · have erased := rangeWritten_fillBytes s (norBase + (1 - half) * 32768) 32768 0xFF
    rw [placed]
    dsimp only
    exact ⟨by omega, erased.mono (by omega) (by omega)⟩

/-- The bytes of a record but its CRC. -/
def jrecHead (n type : Nat) (digest : List Byte) : List Byte :=
  [0x4A, 0x52, BitVec.ofNat 8 type, 0] ++ leBytes 4 n ++ digest.take 16 ++ [0, 0, 0, 0]

theorem appendJrec_eq (s : State) (type : Nat) (digest : List Byte) : ∃ n, appendJrec s type digest =
    putBytes (jplace s).1 (norBase + 32 * (jplace s).2) (jrecHead n type digest ++ leBytes 4 (crc32 (jrecHead n type digest)).toNat) := by
  rcases place : jplace s with ⟨u, i⟩
  simp only [appendJrec, place]
  exact ⟨_, rfl⟩

theorem length_jrec_le (n type crc : Nat) (digest : List Byte) : (jrecHead n type digest ++ leBytes 4 crc).length ≤ 32 := by
  simp only [jrecHead, List.length_append, length_leBytes, List.length_cons, List.length_nil, List.length_take]
  omega

theorem rangeWritten_appendJrec (s : State) (type : Nat) (digest : List Byte) :
    RangeWritten norBase (norBase + 0x10000) s (appendJrec s type digest) := by
  obtain ⟨small, placed⟩ := jplace_inJournal s
  obtain ⟨n, appended⟩ := appendJrec_eq s type digest
  have short := length_jrec_le n type (crc32 (jrecHead n type digest)).toNat digest
  rw [appended]
  exact placed.trans ((rangeWritten_putBytes _ _ _).mono (by omega) (by omega))

/-- The journal's state is shown in UPD_STAT alone. -/
theorem onlyRegs_showJournal (s : State) : OnlyRegs [R.UPD_STAT] s (showJournal s) := onlyRegs_setFld s _ _ (by simp)

end Sys2Proof.Machine
end

section
/-! SUPPORT. The writer of the stored image (R495) and the recovery protocol (R505 to R508). -/

namespace Sys2Proof.Machine

open Sys2Proof.Safety

theorem recov_of_onlyRegs {ks : List Nat} {s t : State} (h : OnlyRegs ks s t) : t.recov = s.recov := by rw [h.rest]

/-! ## The writer of the stored image (R495) -/

section
variable (s : State) (manifest : List Byte) (src total : Nat)

/-- The image that a writer stores: the checked manifest, and the rest of the package. -/
def packageImage : List Byte := manifest ++ bytesAt s (src + 0x1A0) (total - 0x1A0)

/-- The journal has been opened for a manifest. -/
def journalOpened : State := appendJrec (setBoot s { s.boot with delivered := false }) 1 (sha256 manifest)

theorem rangeWritten_journalOpened :
    RangeWritten norBase (norBase + 0x10000) (setBoot s { s.boot with delivered := false }) (journalOpened s manifest) :=
  rangeWritten_appendJrec _ _ _

theorem onlyRegs_openImage : OnlyRegs [R.UPD_STAT] (journalOpened s manifest) (openImage s manifest) := onlyRegs_showJournal _

theorem byteAt_openImage {a : Nat} (out : a < norBase ∨ norBase + 0x10000 ≤ a) : byteAt (openImage s manifest) a = byteAt s a :=
  (sameBytes_of_onlyRegs (onlyRegs_openImage s manifest) a).trans ((rangeWritten_journalOpened s manifest).bytes a out)

theorem points_openImage : (openImage s manifest).points = s.points :=
  (points_of_onlyRegs (onlyRegs_openImage s manifest)).trans (by rw [(rangeWritten_journalOpened s manifest).rest]; rfl)

theorem recov_openImage : (openImage s manifest).recov = s.recov := by
  have opened : (setBoot s { s.boot with delivered := false }).recov = s.recov := rfl
  rw [recov_of_onlyRegs (onlyRegs_openImage s manifest), (rangeWritten_journalOpened s manifest).recov, opened]

theorem closeImage_torn : closeImage s manifest src total false = (tornNor s 0x10000 total, .auth) := rfl

theorem closeImage_failed (bad : packCheck (storeNor s 0x10000 (packageImage s manifest src total)) imageAt 16711680 false ≠ .none) :
    closeImage s manifest src total true = (storeNor s 0x10000 (packageImage s manifest src total), .auth) := by
  unfold closeImage
  exact if_neg bad

/-- The image is stored, and the journal closed. -/
def imageClosed : State := showJournal (appendJrec (storeNor s 0x10000 (packageImage s manifest src total)) 2 (sha256 manifest))

theorem closeImage_done (good : packCheck (storeNor s 0x10000 (packageImage s manifest src total)) imageAt 16711680 false = .none) :
    closeImage s manifest src total true = (imageClosed s manifest src total, .none) := by
  unfold closeImage
  exact if_pos good

theorem rangeWritten_journalClosed (u : State) :
    RangeWritten norBase (norBase + 0x10000) u (appendJrec u 2 (sha256 manifest)) := rangeWritten_appendJrec _ _ _

theorem bytesAt_storedImage : bytesAt (storeNor s 0x10000 (packageImage s manifest src total)) imageAt (packageImage s manifest src total).length =
    packageImage s manifest src total := bytesAt_storeNor s 0x10000 _

theorem bytesAt_imageClosed : bytesAt (imageClosed s manifest src total) imageAt (packageImage s manifest src total).length =
    packageImage s manifest src total := by
  refine (bytesAt_congr fun b low _ => ?_).trans (bytesAt_storedImage s manifest src total)
  have above : norBase + 0x10000 ≤ b := low
  exact (sameBytes_of_onlyRegs (onlyRegs_showJournal _) b).trans ((rangeWritten_journalClosed manifest _).bytes b (.inr above))

theorem points_stored (b : List Byte) : (storeNor s 0x10000 b).points = s.points := by rw [(rangeWritten_storeNor s 0x10000 b).rest]

theorem points_imageClosed : (imageClosed s manifest src total).points = s.points :=
  (points_of_onlyRegs (onlyRegs_showJournal _)).trans
    ((by rw [(rangeWritten_journalClosed manifest _).rest] : _ = _).trans (points_stored s (packageImage s manifest src total)))

theorem recov_imageClosed : (imageClosed s manifest src total).recov = s.recov := by
  unfold imageClosed
  rw [recov_of_onlyRegs (onlyRegs_showJournal _), (rangeWritten_journalClosed manifest _).recov, (rangeWritten_storeNor s 0x10000 _).recov]

end

/-! ## A request and its session (R507) -/

section
variable {s : State} {m : Fin 3} {mac : List Byte} {seq off total : Word} {data : List Byte}

/-- A request that is answered alike whatever it asks is answered so in each row. -/
theorem recoveryRows_answered {u : State} (room : data.length ≤ 1024) (due : u.boot.due = none)
    (same : ∀ k, recovRequest s m.val mac seq.toNat k = u) : ∀ i ∈ [Instr.recoveryInfo m mac seq, .recoveryChallenge m mac seq,
      .recoveryLoad m mac seq off data, .recoveryCommit m mac seq total, .recoveryClearTamper m mac seq data, .recoveryReset m mac seq],
      exec i s = .next u := by
  have short : ¬ 1024 < data.length := Nat.not_lt.mpr room
  have reset : settleReset (recovRequest s m.val mac seq.toNat recovReset) = u := (congrArg settleReset (same _)).trans (settleReset_of_none due)
  simp only [List.forall_mem_cons, List.not_mem_nil, false_imp_iff, implies_true, and_true]
  exact ⟨congrArg Host.Outcome.next (same _), congrArg Host.Outcome.next (same _), congrArg Host.Outcome.next ((if_neg short).trans (same _)),
    congrArg Host.Outcome.next (same _), congrArg Host.Outcome.next ((if_neg short).trans (same _)), congrArg Host.Outcome.next reset⟩

theorem recovRequest_outside (outside : modeNow s ≠ mdRECOVERY) (n : Nat) (me : Nat) (k : State → State) : recovRequest s me mac n k = s :=
  if_pos (.inl outside)

theorem served_recovery (mode : modeNow s = mdRECOVERY) (len : mac.length = 6) : ¬ (modeNow s ≠ mdRECOVERY ∨ mac.length ≠ 6) :=
  fun h => h.elim (· mode) (· len)

theorem recovRequest_other (mode : modeNow s = mdRECOVERY) (len : mac.length = 6) (held : s.recov.session.isSome = true)
    (other : s.recov.session ≠ some (m.val, mac)) (n : Nat) (k : State → State) :
    recovRequest s m.val mac n k = { s with answer := { code := .busy } } := by
  obtain ⟨p, party⟩ := Option.isSome_iff_exists.mp held
  have foreign : some p ≠ some (m.val, mac) := party ▸ other
  unfold recovRequest
  rw [if_neg (served_recovery mode len)]
  simp only [party]
  exact if_pos foreign

theorem recovRequest_again {n : Nat} (mode : modeNow s = mdRECOVERY) (len : mac.length = 6) (mine : s.recov.session = some (m.val, mac))
    (last : s.recov.seq = some n) (k : State → State) : recovRequest s m.val mac n k =
      { s with recov := { s.recov with at_ := s.now }, answer := { code := s.recov.respCode, bytes := s.recov.response } } := by
  unfold recovRequest
  rw [if_neg (served_recovery mode len)]
  simp [mine, last, setRecov, recovAgain]

theorem recovRequest_earlier {n j : Nat} (mode : modeNow s = mdRECOVERY) (len : mac.length = 6) (mine : s.recov.session = some (m.val, mac))
    (last : s.recov.seq = some n) (earlier : j < n) (k : State → State) : recovRequest s m.val mac j k =
      { s with recov := { s.recov with at_ := s.now }, answer := { code := .sequence } } := by
  have late : ¬ n < j := by omega
  have other : j ≠ n := by omega
  unfold recovRequest
  rw [if_neg (served_recovery mode len)]
  simp [mine, last, setRecov, late, other]

/-- The challenges drawn and the nonce that a request finds: those of its session, or a fresh one's. -/
def sessionChallenges (s : State) : Nat := if s.recov.session = none then 0 else s.recov.challenges
def sessionNonce (s : State) : Option (List Byte) := if s.recov.session = none then none else s.recov.nonce

/-- A request with a new SEQ has been taken into the session. -/
def requestTaken (s : State) (me : Nat × List Byte) (n : Nat) : State :=
  setRecov s { s.recov with session := some me, seq := some n, challenges := sessionChallenges s, nonce := sessionNonce s, at_ := s.now }

theorem recovRequest_new {j : Nat} (mode : modeNow s = mdRECOVERY) (len : mac.length = 6)
    (fresh : s.recov.session = none ∨ (s.recov.session = some (m.val, mac) ∧ (s.recov.seq = none ∨ ∃ n, s.recov.seq = some n ∧ n < j)))
    (k : State → State) : recovRequest s m.val mac j k = k (requestTaken s (m.val, mac) j) := by
  unfold recovRequest
  rw [if_neg (served_recovery mode len)]
  rcases fresh with free | ⟨mine, first | ⟨n, last, later⟩⟩
  · simp [free, setRecov, requestTaken, sessionChallenges, sessionNonce]
  · simp [mine, first, setRecov, requestTaken, sessionChallenges, sessionNonce]
  · simp [mine, last, later, setRecov, requestTaken, sessionChallenges, sessionNonce]

end

/-! ## Responses (R507, R508) -/

/-- The session holds a request of this party, and no point has changed. -/
structure InSession (s : State) (me : Nat × List Byte) (n : Nat) (t : State) : Prop where
  session : t.recov.session = some me
  seq : t.recov.seq = some n
  time : t.recov.at_ = s.now
  points : SamePoints s t

/-- A request of the session has been answered with a code and bytes, which the session keeps. -/
def Replied (s : State) (me : Nat × List Byte) (n : Nat) (t : State) (c : Code) (b : List Byte) : Prop :=
  t.answer = { code := c, bytes := b } ∧ t.recov.session = some me ∧ t.recov.seq = some n ∧ t.recov.at_ = s.now ∧ t.recov.respCode = c ∧
    t.recov.response = b ∧ SamePoints s t

section
variable {s t u : State} {me : Nat × List Byte} {n : Nat}

theorem inSession_requestTaken (s : State) (me : Nat × List Byte) (n : Nat) : InSession s me n (requestTaken s me n) :=
  ⟨rfl, rfl, rfl, fun _ => rfl⟩

/-- What changes neither the session nor a point stays in the session. -/
theorem InSession.keep (h : InSession s me n t) (session : u.recov.session = t.recov.session) (seq : u.recov.seq = t.recov.seq)
    (time : u.recov.at_ = t.recov.at_) (points : u.points = t.points) : InSession s me n u :=
  ⟨session.trans h.session, seq.trans h.seq, time.trans h.time, fun k => (samePoints_of_points points k).trans (h.points k)⟩

theorem InSession.replied (h : InSession s me n t) (c : Code) (b : List Byte) : Replied s me n (recovReply t c b) c b :=
  ⟨rfl, h.session, h.seq, h.time, rfl, rfl, h.points⟩

end

/-! ## What the requests ask -/

theorem bytesAt_recovReply (s : State) (c : Code) (b : List Byte) (a n : Nat) : bytesAt (recovReply s c b) a n = bytesAt s a n :=
  bytesAt_congr fun _ _ _ => rfl
theorem bytesAt_setRecov (s : State) (x : Recov) (a n : Nat) : bytesAt (setRecov s x) a n = bytesAt s a n := bytesAt_congr fun _ _ _ => rfl
theorem byteAt_setRecov (s : State) (x : Recov) (a : Nat) : byteAt (setRecov s x) a = byteAt s a := rfl
theorem byteAt_recovReply (s : State) (c : Code) (b : List Byte) (a : Nat) : byteAt (recovReply s c b) a = byteAt s a := rfl
theorem now_setRecov (s : State) (x : Recov) : (setRecov s x).now = s.now := rfl
theorem points_setRecov (s : State) (x : Recov) : (setRecov s x).points = s.points := rfl

theorem recovInfo_requestTaken (s : State) (me : Nat × List Byte) (n : Nat) : recovInfo (requestTaken s me n) = recovInfo s := by
  have bytes : SameBytes s (requestTaken s me n) := fun _ => rfl
  have live : liveCount (requestTaken s me n) = liveCount s := rfl
  unfold recovInfo
  rw [journalOpen_congr bytes, lastJrec_congr bytes, live]
  rfl

/-- The nonce of a challenge (R506, R508). -/
def challengeNonce (s : State) : List Byte := sha256 (factoryMac ++ leBytes 8 s.now.toNat ++ leBytes 4 (sessionChallenges s + 1))

/-! ### COMMIT and RESET -/

/-- The code of a COMMIT (R507). -/
def commitCode (s : State) (total : Nat) : Code :=
  if packCheck s 0x80000000 total true = .none ∧ loadN s 0x80000008 4 ≠ total then .illegalValue else packCheck s 0x80000000 total true

theorem packCheck_congr {s t : State} (bytes : SameBytes s t) (svn : t.otp.svn = s.otp.svn) (a limit : Nat) (check : Bool) :
    packCheck t a limit check = packCheck s a limit check := by
  have byte : byteAt t = byteAt s := funext bytes
  have run : bytesAt t = bytesAt s := funext fun a => funext fun n => bytesAt_congr fun b _ _ => bytes b
  have word : loadN t = loadN s := by unfold loadN; rw [run]
  have part : partAt t = partAt s := by unfold partAt; rw [word, run]
  have head : packHeadOk t = packHeadOk s := by unfold packHeadOk; rw [word, run, byte]
  have parts : packPartsOk t = packPartsOk s := by unfold packPartsOk; rw [word, run, byte, part]
  unfold packCheck
  rw [head, parts, byte, run, part, svn]

theorem commitCode_requestTaken (s : State) (me : Nat × List Byte) (n total : Nat) :
    commitCode (requestTaken s me n) total = commitCode s total := by
  have bytes : SameBytes s (requestTaken s me n) := fun _ => rfl
  have word : loadN (requestTaken s me n) = loadN s := funext fun a => funext fun k => congrArg leNat (bytesAt_congr fun b _ _ => bytes b)
  unfold commitCode
  rw [packCheck_congr bytes rfl, word]

/-- The commit of a request has opened the stored image. -/
def commitOpened (s : State) (total : Nat) : State :=
  setRecov (openImage s (bytesAt s 0x80000000 0x1A0)) { s.recov with commit := 1, code := 0, total := total }

theorem byteAt_commitOpened (s : State) (total : Nat) {a : Nat} (out : a < norBase ∨ norBase + 0x10000 ≤ a) :
    byteAt (commitOpened s total) a = byteAt s a := by
  rw [commitOpened, byteAt_setRecov, byteAt_openImage s _ out]

theorem points_commitOpened (s : State) (total : Nat) : (commitOpened s total).points = s.points := by
  rw [commitOpened, points_setRecov, points_openImage]

theorem recovCommit_busy {s : State} (busy : s.recov.commit = 1) (n : Nat) : recovCommit s n = recovReply s .busy [] := if_pos busy

theorem recovCommit_refused {s : State} (free : s.recov.commit ≠ 1) {n : Nat} (bad : commitCode s n ≠ .none) :
    recovCommit s n = recovReply s (commitCode s n) [] := (if_neg free).trans (if_neg bad)

theorem recovCommit_opens {s : State} (free : s.recov.commit ≠ 1) {n : Nat} (good : commitCode s n = .none) :
    recovCommit s n = recovReply (commitOpened s n) .none [] := (if_neg free).trans (if_pos good)

/-- A reset that is due is served outside BACKUP. -/
theorem settleReset_resetDue {u : State} (due : u.boot.due = none) (powered : modeNow u ≠ 0) (causes : Nat) :
    settleReset (resetDue u causes) = bootRom (moduleReset u causes) := by
  have restored : { resetDue u causes with boot := { (resetDue u causes).boot with due := none } } = u := by
    show { u with boot := { u.boot with due := none } } = u
    rw [← due]
  show resetModule { resetDue u causes with boot := { (resetDue u causes).boot with due := none } } causes = _
  rw [restored]
  exact if_neg (fun h => powered h.1)

/-! ### CLEAR_TAMPER -/

/-- The tamper latch, its timestamp and its context read 0; no other register and no slot has changed. -/
def TamperCleared (s t : State) : Prop :=
  rd t R.TMP_LATCH = 0 ∧ rd t R.TMP_CTX = 0 ∧ rd t (R.TMP_TS 0) = 0 ∧ rd t (R.TMP_TS 1) = 0 ∧
    SameRegs [R.TMP_LATCH, R.TMP_CTX, R.TMP_TS 0, R.TMP_TS 1] s t ∧ t.slots = s.slots

theorem recovClear_free {s : State} (free : s.otp.owner = none) (data : List Byte) :
    recovClear s data = recovReply (clearTamper s) .none [] := by
  unfold recovClear
  rw [free]

theorem recovClear_unchallenged {s : State} {h : List Byte} (owned : s.otp.owner = some h) (spent : s.recov.nonce = none) (data : List Byte) :
    recovClear s data = recovReply s .sequence [] := by
  unfold recovClear
  rw [owned, spent]

/-- The owner's key of a hash has signed the clearing of a nonce (R508). -/
def OwnerSigned (h nonce data : List Byte) : Prop :=
  data.length = 128 ∧ sha256 (data.take 64) = h ∧ ecdsaVerify (data.take 64) (sha256 (nonce ++ [0x43, 0x54])) (data.drop 64) = true

/-- The nonce of the session is spent. -/
def nonceSpent (s : State) : State := setRecov s { s.recov with nonce := none }

theorem recovClear_signed {s : State} {h n data : List Byte} (owned : s.otp.owner = some h) (nonce : s.recov.nonce = some n)
    (good : OwnerSigned h n data) : recovClear s data = recovReply (clearTamper (nonceSpent s)) .none [] := by
  unfold recovClear
  rw [owned, nonce]
  exact if_pos good

theorem recovClear_unsigned {s : State} {h n data : List Byte} (owned : s.otp.owner = some h) (nonce : s.recov.nonce = some n)
    (bad : ¬ OwnerSigned h n data) : recovClear s data = recovReply (nonceSpent s) .auth [] := by
  unfold recovClear
  rw [owned, nonce]
  exact if_neg bad

theorem byteAt_wr (s : State) (k : Nat) (v : Word) (a : Nat) : byteAt (wr s k v) a = byteAt s a := rfl

theorem byteAt_clearTamper (s : State) (a : Nat) : byteAt (clearTamper s) a = byteAt s a := by
  unfold clearTamper
  simp only [byteAt_wr]

theorem TamperCleared.of_regs {s t u v : State} (h : TamperCleared s t) (before : u.regs = s.regs) (after : v.regs = t.regs)
    (slotsBefore : u.slots = s.slots) (slotsAfter : v.slots = t.slots) : TamperCleared u v := by
  have old : ∀ k, rd u k = rd s k := fun k => congrArg (tget resetWord · k) before
  have new : ∀ k, rd v k = rd t k := fun k => congrArg (tget resetWord · k) after
  obtain ⟨latch, ctx, low, high, frame, slots⟩ := h
  exact ⟨(new _).trans latch, (new _).trans ctx, (new _).trans low, (new _).trans high,
    fun k out => (new k).trans ((frame k out).trans (old k).symm), slotsAfter.trans (slots.trans slotsBefore.symm)⟩

theorem tamperCleared_clearTamper (s : State) : TamperCleared s (clearTamper s) := by
  have apart : R.TMP_CTX ≠ R.TMP_LATCH ∧ R.TMP_CTX ≠ R.TMP_TS 0 ∧ R.TMP_CTX ≠ R.TMP_TS 1 ∧ R.TMP_TS 1 ≠ R.TMP_LATCH ∧ R.TMP_TS 1 ≠ R.TMP_TS 0 ∧
    R.TMP_TS 0 ≠ R.TMP_LATCH := by decide
  obtain ⟨cl, c0, c1, l1, a01, l0⟩ := apart
  refine ⟨?_, rd_wr_same _ _ _, ?_, ?_, fun k out => ?_, rfl⟩
  · rw [clearTamper, rd_wr_ne _ _ cl.symm, rd_wr_ne _ _ l1.symm, rd_wr_ne _ _ l0.symm, rd_wr_same]
  · rw [clearTamper, rd_wr_ne _ _ c0.symm, rd_wr_ne _ _ a01.symm, rd_wr_same]
  · rw [clearTamper, rd_wr_ne _ _ c1.symm, rd_wr_same]
  · simp only [List.mem_cons, List.not_mem_nil, not_or, or_false] at out
    obtain ⟨latch, ctx, low, high⟩ := out
    rw [clearTamper, rd_wr_ne _ _ ctx, rd_wr_ne _ _ high, rd_wr_ne _ _ low, rd_wr_ne _ _ latch]

/-! ## The requests -/

section
variable {s : State} {m : Fin 3} {mac : List Byte} {seq off total : Word} {data : List Byte} (mode : modeNow s = mdRECOVERY)
  (len : mac.length = 6)
  (fresh : s.recov.session = none ∨ (s.recov.session = some (m.val, mac) ∧ (s.recov.seq = none ∨ ∃ n, s.recov.seq = some n ∧ n < seq.toNat)))
include mode len fresh

theorem recoveryInfo_replies : ∃ t, exec (.recoveryInfo m mac seq) s = .next t ∧
    Replied s (m.val, mac) seq.toNat t .none (recovInfo s) ∧ SameBytes s t ∧ SameRegs [] s t := by
  refine ⟨_, congrArg Host.Outcome.next (recovRequest_new mode len fresh _), ?_, fun _ => rfl, fun _ _ => rfl⟩
  rw [recovInfo_requestTaken]
  exact (inSession_requestTaken s _ _).replied .none (recovInfo s)

theorem recoveryChallenge_replies : ∃ t, exec (.recoveryChallenge m mac seq) s = .next t ∧
    Replied s (m.val, mac) seq.toNat t .none (challengeNonce s) ∧ t.recov.nonce = some (challengeNonce s) ∧
    t.recov.challenges = sessionChallenges s + 1 ∧ SameBytes s t ∧ SameRegs [] s t :=
  ⟨_, congrArg Host.Outcome.next (recovRequest_new mode len fresh _),
    ((inSession_requestTaken s (m.val, mac) seq.toNat).keep rfl rfl rfl rfl).replied .none (challengeNonce s), rfl, rfl, fun _ => rfl, fun _ _ => rfl⟩

theorem recoveryLoad_taken (room : data.length ≤ 1024) : exec (.recoveryLoad m mac seq off data) s =
    .next (recovLoad (requestTaken s (m.val, mac) seq.toNat) off.toNat data) :=
  congrArg Host.Outcome.next ((if_neg (Nat.not_lt.mpr room)).trans (recovRequest_new mode len fresh _))

theorem recoveryLoad_loads (room : data.length ≤ 1024) (fits : off.toNat + data.length ≤ 16711680) :
    ∃ t, exec (.recoveryLoad m mac seq off data) s = .next t ∧ Replied s (m.val, mac) seq.toNat t .none [] ∧ SameRegs [] s t ∧
      bytesAt t (0x80000000 + off.toNat) data.length = data ∧
      ∀ a, a < 0x80000000 + off.toNat ∨ 0x80000000 + off.toNat + data.length ≤ a → byteAt t a = byteAt s a := by
  have stored := rangeWritten_putBytes (requestTaken s (m.val, mac) seq.toNat) (0x80000000 + off.toNat) data
  have session := (inSession_requestTaken s (m.val, mac) seq.toNat).keep (congrArg Recov.session stored.recov) (congrArg Recov.seq stored.recov)
    (congrArg Recov.at_ stored.recov) (by rw [stored.rest])
  refine ⟨_, (recoveryLoad_taken mode len fresh room).trans (congrArg Host.Outcome.next (if_neg (Nat.not_lt.mpr fits))), session.replied .none [],
    fun k _ => stored.rd k, ?_, stored.bytes⟩
  rw [bytesAt_recovReply]
  exact bytesAt_putBytes_same _ data (by omega)

theorem recoveryLoad_refuses (room : data.length ≤ 1024) (long : 16711680 < off.toNat + data.length) :
    ∃ t, exec (.recoveryLoad m mac seq off data) s = .next t ∧ Replied s (m.val, mac) seq.toNat t .illegalValue [] ∧ SameBytes s t ∧
      SameRegs [] s t :=
  ⟨_, (recoveryLoad_taken mode len fresh room).trans (congrArg Host.Outcome.next (if_pos long)),
    (inSession_requestTaken s _ _).replied .illegalValue [], fun _ => rfl, fun _ _ => rfl⟩

theorem recoveryCommit_taken : exec (.recoveryCommit m mac seq total) s =
    .next (recovCommit (requestTaken s (m.val, mac) seq.toNat) total.toNat) :=
  congrArg Host.Outcome.next (recovRequest_new mode len fresh _)

theorem recoveryCommit_busy (busy : s.recov.commit = 1) : ∃ t, exec (.recoveryCommit m mac seq total) s = .next t ∧
    Replied s (m.val, mac) seq.toNat t .busy [] ∧ SameBytes s t :=
  ⟨_, (recoveryCommit_taken mode len fresh).trans (congrArg Host.Outcome.next (recovCommit_busy (s := requestTaken s (m.val, mac) seq.toNat) busy _)),
    (inSession_requestTaken s _ _).replied .busy [], fun _ => rfl⟩

theorem recoveryCommit_checks (free : s.recov.commit ≠ 1) : ∃ t, exec (.recoveryCommit m mac seq total) s = .next t ∧
    Replied s (m.val, mac) seq.toNat t (commitCode s total.toNat) [] ∧
    t.recov.commit = (if commitCode s total.toNat = .none then 1 else s.recov.commit) ∧ (commitCode s total.toNat ≠ .none → SameBytes s t) ∧
    (commitCode s total.toNat = .none → t.recov.total = total.toNat ∧ ∀ a, a < norBase ∨ norBase + 0x10000 ≤ a → byteAt t a = byteAt s a) := by
  rw [recoveryCommit_taken mode len fresh, ← commitCode_requestTaken s (m.val, mac) seq.toNat total.toNat]
  have taken := inSession_requestTaken s (m.val, mac) seq.toNat
  have waiting : (requestTaken s (m.val, mac) seq.toNat).recov.commit ≠ 1 := free
  by_cases good : commitCode (requestTaken s (m.val, mac) seq.toNat) total.toNat = .none
  · have session : InSession s (m.val, mac) seq.toNat (commitOpened (requestTaken s (m.val, mac) seq.toNat) total.toNat) :=
      taken.keep rfl rfl rfl (points_commitOpened _ _)
    refine ⟨_, congrArg Host.Outcome.next (recovCommit_opens waiting good), ?_, ?_, fun bad => absurd good bad, fun _ => ⟨rfl, fun a out => ?_⟩⟩
    · rw [good]
      exact session.replied .none []
    · rw [if_pos good]
      rfl
    · exact (byteAt_recovReply _ _ _ _).trans (byteAt_commitOpened _ _ out)
  · refine ⟨_, congrArg Host.Outcome.next (recovCommit_refused waiting good), taken.replied _ [], ?_, fun _ _ => rfl, fun h => absurd h good⟩
    rw [if_neg good]
    rfl

theorem recoveryReset_taken : exec (.recoveryReset m mac seq) s = .next (settleReset (recovReset (requestTaken s (m.val, mac) seq.toNat))) :=
  congrArg Host.Outcome.next (congrArg settleReset (recovRequest_new mode len fresh _))

theorem recoveryReset_busy (due : s.boot.due = none) (busy : s.recov.commit = 1) : ∃ t, exec (.recoveryReset m mac seq) s = .next t ∧
    Replied s (m.val, mac) seq.toNat t .busy [] ∧ SameBytes s t := by
  have waits : recovReset (requestTaken s (m.val, mac) seq.toNat) = recovReply (requestTaken s (m.val, mac) seq.toNat) .busy [] := if_pos busy
  refine ⟨_, (recoveryReset_taken mode len fresh).trans (congrArg Host.Outcome.next ?_), (inSession_requestTaken s _ _).replied .busy [], fun _ => rfl⟩
  rw [waits, settleReset_of_none (s := recovReply (requestTaken s (m.val, mac) seq.toNat) .busy []) due]

theorem recoveryReset_resets (due : s.boot.due = none) (free : s.recov.commit ≠ 1) : ∃ u, exec (.recoveryReset m mac seq) s =
    .next (bootRom (moduleReset u 0x8)) ∧ u.answer = { code := .none } ∧ u = { s with recov := u.recov, answer := u.answer } := by
  have powered : modeNow s ≠ 0 := by rw [mode]; decide
  have resets : recovReset (requestTaken s (m.val, mac) seq.toNat) = resetDue (recovReply (requestTaken s (m.val, mac) seq.toNat) .none []) 0x8 :=
    if_neg free
  refine ⟨recovReply (requestTaken s (m.val, mac) seq.toNat) .none [], (recoveryReset_taken mode len fresh).trans (congrArg Host.Outcome.next ?_),
    rfl, rfl⟩
  rw [resets]
  exact settleReset_resetDue (u := recovReply (requestTaken s (m.val, mac) seq.toNat) .none []) due powered 0x8

theorem recoveryClearTamper_taken (room : data.length ≤ 1024) : exec (.recoveryClearTamper m mac seq data) s =
    .next (recovClear (requestTaken s (m.val, mac) seq.toNat) data) :=
  congrArg Host.Outcome.next ((if_neg (Nat.not_lt.mpr room)).trans (recovRequest_new mode len fresh _))

theorem recoveryClearTamper_free (room : data.length ≤ 1024) (free : s.otp.owner = none) :
    ∃ t, exec (.recoveryClearTamper m mac seq data) s = .next t ∧ Replied s (m.val, mac) seq.toNat t .none [] ∧ TamperCleared s t ∧ SameBytes s t :=
  ⟨_, (recoveryClearTamper_taken mode len fresh room).trans (congrArg Host.Outcome.next
      (recovClear_free (s := requestTaken s (m.val, mac) seq.toNat) free data)),
    ((inSession_requestTaken s (m.val, mac) seq.toNat).keep (u := clearTamper (requestTaken s (m.val, mac) seq.toNat)) rfl rfl rfl rfl).replied .none [],
    (tamperCleared_clearTamper (requestTaken s (m.val, mac) seq.toNat)).of_regs rfl rfl rfl rfl,
    fun a => (byteAt_recovReply _ _ _ a).trans (byteAt_clearTamper _ a)⟩

theorem recoveryClearTamper_unchallenged (room : data.length ≤ 1024) {h : List Byte} (owned : s.otp.owner = some h)
    (spent : sessionNonce s = none) : ∃ t, exec (.recoveryClearTamper m mac seq data) s = .next t ∧
      Replied s (m.val, mac) seq.toNat t .sequence [] ∧ SameRegs [] s t ∧ SameBytes s t :=
  ⟨_, (recoveryClearTamper_taken mode len fresh room).trans (congrArg Host.Outcome.next
      (recovClear_unchallenged (s := requestTaken s (m.val, mac) seq.toNat) owned spent data)),
    (inSession_requestTaken s _ _).replied .sequence [], fun _ _ => rfl, fun _ => rfl⟩

theorem recoveryClearTamper_signed (room : data.length ≤ 1024) {h n : List Byte} (owned : s.otp.owner = some h)
    (nonce : sessionNonce s = some n) (good : OwnerSigned h n data) : ∃ t, exec (.recoveryClearTamper m mac seq data) s = .next t ∧
      Replied s (m.val, mac) seq.toNat t .none [] ∧ TamperCleared s t ∧ t.recov.nonce = none ∧ SameBytes s t :=
  ⟨_, (recoveryClearTamper_taken mode len fresh room).trans (congrArg Host.Outcome.next
      (recovClear_signed (s := requestTaken s (m.val, mac) seq.toNat) owned nonce good)),
    ((inSession_requestTaken s (m.val, mac) seq.toNat).keep (u := clearTamper (nonceSpent (requestTaken s (m.val, mac) seq.toNat)))
      rfl rfl rfl rfl).replied .none [],
    (tamperCleared_clearTamper (nonceSpent (requestTaken s (m.val, mac) seq.toNat))).of_regs rfl rfl rfl rfl, rfl,
    fun a => (byteAt_recovReply _ _ _ a).trans (byteAt_clearTamper _ a)⟩

theorem recoveryClearTamper_unsigned (room : data.length ≤ 1024) {h n : List Byte} (owned : s.otp.owner = some h)
    (nonce : sessionNonce s = some n) (bad : ¬ OwnerSigned h n data) : ∃ t, exec (.recoveryClearTamper m mac seq data) s = .next t ∧
      Replied s (m.val, mac) seq.toNat t .auth [] ∧ SameRegs [] s t ∧ t.recov.nonce = none ∧ SameBytes s t :=
  ⟨_, (recoveryClearTamper_taken mode len fresh room).trans (congrArg Host.Outcome.next
      (recovClear_unsigned (s := requestTaken s (m.val, mac) seq.toNat) owned nonce bad)),
    ((inSession_requestTaken s (m.val, mac) seq.toNat).keep (u := nonceSpent (requestTaken s (m.val, mac) seq.toNat)) rfl rfl rfl rfl).replied .auth [], fun _ _ => rfl, rfl, fun _ => rfl⟩

end

/-! ## The end of a committed write, and of a session (R507) -/

section
variable {s : State}

/-- The image of a committed package. -/
abbrev committedImage (s : State) : List Byte := packageImage s (bytesAt s 0x80000000 0x1A0) 0x80000000 s.recov.total

theorem recoveryWriteComplete_none {ok : Bool} (none : s.recov.commit ≠ 1) : exec (.recoveryWriteComplete ok) s = .next s :=
  congrArg Host.Outcome.next (if_pos none)

/-- A committed write has ended with a code. -/
def writeEnded (u : State) (c : Code) : State :=
  setRecov u { u.recov with commit := (if c = .none then 2 else 3), code := codeNum c }

theorem recoveryWriteComplete_closes (busy : s.recov.commit = 1) {ok : Bool} {u : State} {c : Code}
    (closed : closeImage s (bytesAt s 0x80000000 0x1A0) 0x80000000 s.recov.total ok = (u, c)) :
    exec (.recoveryWriteComplete ok) s = .next (writeEnded u c) := by
  refine congrArg Host.Outcome.next ?_
  unfold recovWritten
  rw [if_neg (not_not_intro busy), closed]
  rfl

theorem recoveryWriteComplete_torn (busy : s.recov.commit = 1) : ∃ t, exec (.recoveryWriteComplete false) s = .next t ∧
    t.recov = { s.recov with commit := 3, code := codeNum .auth } ∧ SamePoints s t ∧
    ∀ a, a < imageAt ∨ imageAt + s.recov.total ≤ a → byteAt t a = byteAt s a := by
  have torn := rangeWritten_tornNor s 0x10000 s.recov.total
  refine ⟨_, recoveryWriteComplete_closes busy (closeImage_torn s _ _ _), ?_, torn.samePoints, torn.bytes⟩
  show { (tornNor s 0x10000 s.recov.total).recov with commit := 3, code := codeNum .auth } = _
  rw [torn.recov]

theorem recoveryWriteComplete_stores (busy : s.recov.commit = 1) : ∃ t, exec (.recoveryWriteComplete true) s = .next t ∧ SamePoints s t ∧
    bytesAt t imageAt (committedImage s).length = committedImage s ∧
    (packCheck (storeNor s 0x10000 (committedImage s)) imageAt 16711680 false = .none → t.recov = { s.recov with commit := 2, code := 0 }) ∧
    (packCheck (storeNor s 0x10000 (committedImage s)) imageAt 16711680 false ≠ .none →
      t.recov = { s.recov with commit := 3, code := codeNum .auth }) := by
  by_cases good : packCheck (storeNor s 0x10000 (committedImage s)) imageAt 16711680 false = .none
  · refine ⟨_, recoveryWriteComplete_closes busy (closeImage_done s _ _ _ good), samePoints_of_points ((points_setRecov _ _).trans (points_imageClosed s _ _ _)),
      (bytesAt_setRecov _ _ _ _).trans (bytesAt_imageClosed s _ _ _), fun _ => ?_, fun bad => absurd good bad⟩
    exact congrArg (fun x : Recov => { x with commit := 2, code := 0 }) (recov_imageClosed s _ _ _)
  · refine ⟨_, recoveryWriteComplete_closes busy (closeImage_failed s _ _ _ good), samePoints_of_points ((points_setRecov _ _).trans (points_stored s _)),
      (bytesAt_setRecov _ _ _ _).trans (bytesAt_storedImage s _ _ _), fun h => absurd h good, fun _ => ?_⟩
    exact congrArg (fun x : Recov => { x with commit := 3, code := codeNum .auth }) (rangeWritten_storeNor s 0x10000 _).recov

theorem le_advanceTo (s : State) (t : DWord) : s.now ≤ (advanceTo s t).now ∧ t ≤ (advanceTo s t).now := by
  unfold advanceTo
  split
  · exact ⟨BitVec.le_of_lt ‹_›, BitVec.le_refl t⟩
  · exact ⟨BitVec.le_refl s.now, BitVec.not_lt.mp ‹_›⟩

theorem setRecov_advanceTo_rest (s : State) (t : DWord) (x : Recov) : setRecov (advanceTo s t) x =
    { s with now := (setRecov (advanceTo s t) x).now, recov := (setRecov (advanceTo s t) x).recov } := by
  unfold advanceTo
  split <;> rfl

/-- A session that has ended. -/
def sessionEnded (x : Recov) : Recov := { x with session := none, seq := none, nonce := none }

theorem recoverySessionTimeout_none (none : s.recov.session = none) : exec .recoverySessionTimeout s = .next s := by
  refine congrArg Host.Outcome.next ?_
  unfold recovTimeout
  rw [none]

theorem recoverySessionTimeout_ends (held : s.recov.session.isSome = true) : ∃ t, exec .recoverySessionTimeout s = .next t ∧
    t.recov = { s.recov with session := none, seq := none, nonce := none } ∧ t = { s with now := t.now, recov := t.recov } ∧ s.now ≤ t.now ∧
    s.recov.at_ + 6000000000 ≤ t.now := by
  obtain ⟨p, party⟩ := Option.isSome_iff_exists.mp held
  have ends : recovTimeout s = setRecov (advanceTo s (s.recov.at_ + 6000000000)) (sessionEnded s.recov) := by
    unfold recovTimeout
    rw [party]
    rfl
  refine ⟨_, congrArg Host.Outcome.next ends, rfl, setRecov_advanceTo_rest s _ _, ?_⟩
  rw [now_setRecov]
  exact le_advanceTo s _

end

/-- Settles O60, request by request: what a foreign, a repeated and an earlier SEQ are answered, then what a new one does. The nonce's bytes and
the cause of RESET are the model's readings (logs 42 and 43). -/
theorem recoveryServesOneSession : Obligations.RecoveryServesOneSession := by
  unfold Obligations.RecoveryServesOneSession
  intro s due
  refine ⟨fun m mac seq off total data len room => ?_, fun ok => ?_, recoverySessionTimeout_none, recoverySessionTimeout_ends⟩
  · intro all r me
    refine ⟨fun outside => recoveryRows_answered room due (recovRequest_outside outside _ _),
      fun mode held other => recoveryRows_answered room due (recovRequest_other mode len held other _),
      fun n mode mine last => ⟨fun repeated => ?_, fun earlier => recoveryRows_answered room due (recovRequest_earlier mode len mine last earlier)⟩,
      fun mode fresh => ?_⟩
    · rw [← repeated] at last
      exact recoveryRows_answered room due (recovRequest_again mode len mine last)
    · intro reply count nonce fresh' c0 c
      exact ⟨recoveryInfo_replies mode len fresh, recoveryChallenge_replies mode len fresh, recoveryLoad_loads mode len fresh room,
        recoveryLoad_refuses mode len fresh room,
        fun busy => ⟨recoveryCommit_busy mode len fresh busy, recoveryReset_busy mode len fresh due busy⟩,
        recoveryCommit_checks mode len fresh, recoveryReset_resets mode len fresh due, recoveryClearTamper_free mode len fresh room,
        fun h owned => ⟨recoveryClearTamper_unchallenged mode len fresh room owned,
          fun b nonce => ⟨recoveryClearTamper_signed mode len fresh room owned nonce, recoveryClearTamper_unsigned mode len fresh room owned nonce⟩⟩⟩
  · refine ⟨recoveryWriteComplete_none, fun busy torn => ?_, fun busy whole => ?_⟩
    · rw [torn]
      exact recoveryWriteComplete_torn busy
    · rw [whole]
      exact recoveryWriteComplete_stores busy

end Sys2Proof.Machine
end

section
/-! SUPPORT. What the key store's updates and the plant's own engines leave alone: time, the update's own state, and the pages of neither. -/

namespace Sys2Proof.Machine

open Sys2Proof.Safety

/-! ## Updates of key slots (R405, R420) -/

/-- Slots have changed, and what the key store holds of them. -/
def KeysUpdated (s t : State) : Prop :=
  t = { s with slots := t.slots, crypto := { s.crypto with store := t.crypto.store, storeGen := t.crypto.storeGen } }

section
variable {s t u : State}

theorem KeysUpdated.refl (s : State) : KeysUpdated s s := rfl

theorem KeysUpdated.trans (h : KeysUpdated s t) (k : KeysUpdated t u) : KeysUpdated s u := by
  unfold KeysUpdated at h k ⊢
  conv_lhs => rw [k, h]

theorem keysUpdated_forAll {α : Type} {f : State → α → State} {l : List α} (hf : ∀ s a, KeysUpdated s (f s a)) (s : State) :
    KeysUpdated s (forAll f l s) := by
  induction l generalizing s with
  | nil => exact KeysUpdated.refl s
  | cons a l ih => exact (hf s a).trans (ih (f s a))

theorem keysUpdated_saveSlot (s : State) (n : Nat) : KeysUpdated s (saveSlot s n) := by
  unfold saveSlot
  dsimp only
  split
  · exact KeysUpdated.refl s
  · exact rfl

theorem keysUpdated_refill (s : State) (n : Nat) (x : KeySlot) : KeysUpdated s (refill s n x) :=
  KeysUpdated.trans (t := setSlot s n { x with gen := (slotAt s n).gen + 1 }) rfl (keysUpdated_saveSlot _ n)

theorem keysUpdated_emptySlot (k : Nat) (s : State) (n : Nat) : KeysUpdated s (emptySlot k s n) := by
  induction k generalizing s n with
  | zero => exact keysUpdated_refill s n {}
  | succ k ih =>
    unfold emptySlot
    dsimp only
    split
    · exact (keysUpdated_forAll (fun u c => ih u c) s).trans (keysUpdated_refill _ n {})
    · exact keysUpdated_refill s n {}

theorem keysUpdated_createSlot (s : State) (n : Nat) (x : KeySlot) : KeysUpdated s (createSlot s n x) := by
  unfold createSlot
  dsimp only
  split
  · exact (keysUpdated_forAll (fun u c => keysUpdated_emptySlot 9 u c) s).trans (keysUpdated_refill _ n x)
  · exact keysUpdated_refill s n x

theorem keysUpdated_flushWhere (s : State) (p : State → Nat → Bool) : KeysUpdated s (flushWhere s p) := by
  refine keysUpdated_forAll (fun u n => ?_) s
  split
  · exact keysUpdated_emptySlot 9 u n
  · exact KeysUpdated.refl u

theorem KeysUpdated.rd (h : KeysUpdated s t) (k : Nat) : rd t k = Machine.rd s k := by
  unfold KeysUpdated at h
  rw [h]
  rfl

end

/-! ## Updates beside the update and its pages -/

/-- What the module's control keeps beside the registers: the bars that modes set, the next tick, and the last heartbeat of a pair. -/
def control (s : State) : Nat × Bool × Bool × Option Heartbeat := (s.nextTick, s.rwlLocked, s.wake, s.twin.hb)

/-- What an activation keeps of its own: time, the update's state, its pause and hold, the firmware, the calendar beside the registers, and the
module's control. -/
def activation (s : State) : DWord × Upd × Bool × Bool × Boot × Rtc × Nat × Bool × Bool × Option Heartbeat :=
  (s.now, s.upd, s.paused, s.stationHold, s.boot, s.rtc, control s)

/-- An update that leaves time, the activation and the registers of some pages as they are. -/
structure Aside (ps : List Nat) (s t : State) : Prop where
  own : activation t = activation s
  regs : ∀ k, keyPage k ∈ ps → rd t k = rd s k

section
variable {ps : List Nat} {s t u : State}

theorem Aside.refl (ps : List Nat) (s : State) : Aside ps s s := ⟨rfl, fun _ _ => rfl⟩

theorem Aside.trans (h : Aside ps s t) (k : Aside ps t u) : Aside ps s u :=
  ⟨k.own.trans h.own, fun n page => (k.regs n page).trans (h.regs n page)⟩

theorem Aside.mono {qs : List Nat} (h : Aside ps s t) (sub : qs ⊆ ps) : Aside qs s t := ⟨h.own, fun k page => h.regs k (sub page)⟩

theorem Aside.fld (h : Aside ps s t) {k : Nat} (page : keyPage k ∈ ps) (f : Fld) : fld t k f = Machine.fld s k f :=
  congrArg (bits · f.hi f.lo) (h.regs k page)

theorem Aside.now (h : Aside ps s t) : t.now = s.now := congrArg Prod.fst h.own
theorem Aside.upd (h : Aside ps s t) : t.upd = s.upd := congrArg (·.2.1) h.own
theorem Aside.paused (h : Aside ps s t) : t.paused = s.paused := congrArg (·.2.2.1) h.own
theorem Aside.stationHold (h : Aside ps s t) : t.stationHold = s.stationHold := congrArg (·.2.2.2.1) h.own
theorem Aside.boot (h : Aside ps s t) : t.boot = s.boot := congrArg (·.2.2.2.2.1) h.own
theorem Aside.rtc (h : Aside ps s t) : t.rtc = s.rtc := congrArg (·.2.2.2.2.2.1) h.own
theorem Aside.control (h : Aside ps s t) : control t = Machine.control s := congrArg (·.2.2.2.2.2.2) h.own

/-- An update of neither registers nor what the activation keeps. -/
theorem aside_of_regs (own : activation t = activation s) (regs : t.regs = s.regs) : Aside ps s t :=
  ⟨own, fun k _ => congrArg (tget resetWord · k) regs⟩

theorem aside_wr (s : State) {k : Nat} (v : Word) (other : keyPage k ∉ ps) : Aside ps s (wr s k v) :=
  ⟨rfl, fun _ page => rd_wr_ne s v fun e => other (e ▸ page)⟩

theorem aside_setFld (s : State) {k : Nat} (f : Fld) (v : Nat) (other : keyPage k ∉ ps) : Aside ps s (setFld s k f v) := aside_wr s _ other
theorem aside_setBit (s : State) {k : Nat} (n : Nat) (b : Bool) (other : keyPage k ∉ ps) : Aside ps s (setBit s k n b) := aside_wr s _ other
theorem aside_bumpSat (s : State) {k : Nat} (n : Nat) (other : keyPage k ∉ ps) : Aside ps s (bumpSat s k n) := aside_wr s _ other
theorem aside_bumpFld (s : State) {k : Nat} (f : Fld) (n : Nat) (other : keyPage k ∉ ps) : Aside ps s (bumpFld s k f n) := aside_wr s _ other

theorem aside_raise (s : State) {page : Nat} (n : Nat) (hp : page < 256) (other : page ∉ ps) (matrix : 0x07 ∉ ps) : Aside ps s (raise s page n) := by
  have event : RegsAndEvents [R.PG_ISR page] s (raise s page n) :=
    (onlyRegs_wr s _ List.mem_cons_self).regsAndEvents.trans (regsAndEvents_evtLevel _ _ page)
  refine ⟨by rw [event.rest]; rfl, fun k inside => (rd_evtLevel_ne _ fun e => ?_).trans (rd_wr_ne s _ fun e => ?_)⟩
  · rw [e, keyPage_EVT_PEND (by omega)] at inside
    exact matrix inside
  · rw [e, keyPage_PG_ISR hp] at inside
    exact other inside

theorem aside_ite {c : Prop} [Decidable c] (h : Aside ps s t) (k : Aside ps s u) : Aside ps s (if c then t else u) := by
  split
  · exact h
  · exact k

theorem aside_forAll {α : Type} {f : State → α → State} {l : List α} (hf : ∀ a ∈ l, ∀ s, Aside ps s (f s a)) (s : State) :
    Aside ps s (forAll f l s) := by
  induction l generalizing s with
  | nil => exact Aside.refl ps s
  | cons a l ih => exact (hf a List.mem_cons_self s).trans (ih (fun b hb => hf b (List.mem_cons_of_mem a hb)) (f s a))

theorem KeysUpdated.aside (h : KeysUpdated s t) : Aside ps s t := by
  unfold KeysUpdated at h
  rw [h]
  exact ⟨rfl, fun _ _ => rfl⟩

theorem RangeWritten.aside {lo hi : Nat} (h : RangeWritten lo hi s t) : Aside ps s t := by
  rw [h.rest]
  exact ⟨rfl, fun _ _ => rfl⟩

end

/-! ## The plant's engines (the metering DSPs, the loops, the queues and their rings) -/

/-- The pages of the modes, of the calendar, of the timebase, of the locks, of the PTP servo, of the pair and of the update, which no engine of the
plant writes. -/
def keptPages : List Nat := [0x00, 0x04, 0x06, 0x0A, 0x7F, 0x88, 0x98]

/-- An engine's own page is none of them. -/
theorem other_page {page off : Nat} (hp : page < 256) (ho : off < 4096) (other : page ∉ keptPages) (win : Nat) :
    keyPage (regKey page off win) ∉ keptPages := by
  rwa [keyPage_regKey hp ho win]

theorem plant_page {page : Nat} (low : 0x10 ≤ page) (high : page < 0x7F) : page ∉ keptPages := by
  simp only [keptPages, List.mem_cons, List.not_mem_nil, or_false]
  omega

theorem aside_raiseBit (s : State) {page : Nat} (n : Nat) (low : 0x10 ≤ page) (high : page < 0x7F) : Aside keptPages s (raiseBit s page n) :=
  aside_raise s _ (by omega) (plant_page low high) (by decide)

/-! ### Points -/

theorem aside_commitPoint (s : State) (pid : Nat) (p : Point) : Aside keptPages s (commitPoint s pid p) := by
  unfold commitPoint streamPoint
  dsimp only
  split
  · exact ⟨rfl, fun _ _ => rfl⟩
  · exact ⟨rfl, fun _ _ => rfl⟩

theorem aside_writePoint (s : State) (pid : Nat) (v : DWord) (q : Byte) (ts : DWord) (src : BitVec 16) :
    Aside keptPages s (writePoint s pid v q ts src) := by
  unfold writePoint
  dsimp only
  split
  · unfold mirrorForce
    split
    · exact ⟨rfl, fun _ _ => rfl⟩
    · exact ⟨rfl, fun _ _ => rfl⟩
  · exact aside_commitPoint s pid _

theorem aside_deny (s : State) {f : Nat} (hf : f < 32) (path target : Nat) : Aside keptPages s (deny s f path target) := by
  have counted : Aside keptPages s (bumpSat s (R.FLK_DENY f) 1) := aside_bumpSat s 1 (other_page (by decide) (by omega) (by decide) 0)
  unfold deny
  dsimp only
  refine Aside.trans ?_ (aside_raiseBit _ 0 (by decide) (by decide))
  split
  · exact counted
  · exact counted.trans (aside_wr _ _ (by decide))

theorem aside_tryWrite (s : State) {f : Nat} (hf : f < 32) (path pid : Nat) (v : DWord) (q : Byte) (ts : DWord) (src : BitVec 16) :
    Aside keptPages s (tryWrite s f path pid v q ts src).1 := by
  unfold tryWrite fieldWrite
  split
  · exact aside_bumpSat s 1 (by decide)
  · split
    · exact aside_writePoint s pid v q ts src
    · exact aside_deny s hf path pid

/-! ### Metering -/

theorem circuit_page {off : Nat} (ho : off < 4096) (c : Nat) : keyPage (regKey 0x50 off (c + 1)) ∉ keptPages :=
  other_page (by decide) ho (by decide) (c + 1)

theorem aside_setCirc (s : State) (c : Nat) (x : Circuit) : Aside keptPages s (setCirc s c x) := aside_of_regs rfl rfl
theorem aside_setCurr (s : State) (i : Nat) (x : CurrCh) : Aside keptPages s (setCurr s i x) := aside_of_regs rfl rfl

theorem aside_publish (s : State) (c j : Nat) (v : DWord) (q : Byte) (ts : DWord) : Aside keptPages s (publish s c j v q ts) := by
  have flask : circFlask s c < 32 := fld_lt s _ F.CIR_CFG_FLASK
  have tried := aside_tryWrite s flask 4 (fld s (R.CIR_PTS c) F.CIR_PTS_PT_BASE + j) v q ts (sourceOf 3 c)
  unfold publish
  split
  · dsimp only
    split
    · exact tried
    · exact (tried.trans (aside_setFld _ _ _ (circuit_page (by decide) c))).trans (aside_raiseBit _ 4 (by decide) (by decide))
  · exact Aside.refl _ s

theorem aside_addEnergy (s : State) {r : Nat} (hr : r < 16) (c n : Nat) : Aside keptPages s (addEnergy s c r n) := by
  have page {off : Nat} (ho : off < 4096) := circuit_page ho c
  have shown (u : State) (acc wraps : Nat) : Aside keptPages u (showEnergy u (R.CIR_E c r) (R.CIR_EH c r) acc wraps) :=
    (aside_wr u _ (page (by omega))).trans (aside_wr _ _ (page (by omega)))
  unfold addEnergy
  dsimp only
  split
  · exact (((aside_setCirc s c _).trans (shown _ _ _)).trans (aside_setFld _ _ _ (page (by decide)))).trans (aside_raiseBit _ 3 (by decide) (by decide))
  · exact (aside_setCirc s c _).trans (shown _ _ _)

theorem quadrantOf_lt {cp cq : Int} {r : Nat} (h : quadrantOf cp cq = some r) : r < 16 := by
  unfold quadrantOf at h
  split at h
  · cases h
  · obtain rfl | rfl | rfl | rfl : r = 2 ∨ r = 4 ∨ r = 5 ∨ r = 3 := by grind
    all_goals decide

theorem aside_applyNets (s : State) (c : Nat) (cp cq : Int) : Aside keptPages s (applyNets s c cp cq) := by
  have active : Aside keptPages s (if 0 < cp then addEnergy s c 0 cp.natAbs else if cp < 0 then addEnergy s c 1 cp.natAbs else s) := by
    split
    · exact aside_addEnergy s (by decide) c _
    · split
      · exact aside_addEnergy s (by decide) c _
      · exact Aside.refl _ s
  unfold applyNets
  dsimp only
  split
  next r quadrant => exact active.trans (aside_addEnergy _ (quadrantOf_lt quadrant) c _)
  next => exact active

theorem aside_logNets (s : State) (c : Nat) (te : DWord) (cp cq : Int) : Aside keptPages s (logNets s c te cp cq) := by
  unfold logNets
  split
  · exact ⟨rfl, fun _ _ => rfl⟩
  · exact Aside.refl _ s

theorem aside_commitInterval (s : State) (c : Nat) (b : IvlClose) : Aside keptPages s (commitInterval s c b) := by
  have word (u : State) {off : Nat} (ho : off < 4096) (v : Word) : Aside keptPages u (wr u (regKey 0x50 off (c + 1)) v) :=
    aside_wr u v (circuit_page ho c)
  have demand (u : State) (j : Nat) (v : DWord) (q : Byte) : Aside keptPages u (publish u c j v q b.at_) := aside_publish u c j v q b.at_
  have closed (d e i : Word) (v w : DWord) (q : Byte) := (((((word s (off := 0x150) (by decide) d).trans (word _ (off := 0x154) (by decide) e)).trans
    (word _ (off := 0x158) (by decide) i)).trans (demand _ 11 v q)).trans (demand _ 12 w q))
  unfold commitInterval
  dsimp only
  refine Aside.trans (aside_ite ?_ (closed _ _ _ _ _ _)) (aside_setCirc _ c _)
  exact ((closed _ _ _ _ _ _).trans (word _ (off := 0x15C) (by decide) _)).trans (word _ (off := 0x160) (by decide) _)

theorem aside_publishCircuit (s : State) (c : Nat) (ts : DWord) : Aside keptPages s (publishCircuit s c ts) := by
  have word (u : State) {off : Nat} (ho : off < 4096) (v : Word) : Aside keptPages u (wr u (regKey 0x50 off (c + 1)) v) :=
    aside_wr u v (circuit_page ho c)
  have energies (x : Circuit) (q : Byte) (u : State) :=
    aside_forAll (fun j _ u => aside_publish u c j (energyValue (x.acc.getD j 0) (x.wraps.getD j 0)) q ts) (l := upTo 6) u
  have means (v w : Word) (x : Circuit) (q : Byte) := (((word s (off := 0x164) (by decide) v).trans (word _ (off := 0x168) (by decide) w)).trans
    (energies x q _))
  unfold publishCircuit
  dsimp only
  exact ((((((means _ _ _ _).trans (aside_publish _ c 6 _ _ ts)).trans (aside_publish _ c 7 _ _ ts)).trans (aside_publish _ c 8 _ _ ts)).trans
    (aside_publish _ c 9 _ _ ts)).trans (aside_publish _ c 10 _ _ ts)).trans (aside_setCirc _ c _)

theorem circChannels_lt {s : State} {c i : Nat} (h : i ∈ circChannels s c) : i < 64 := by
  obtain ⟨k, _, e⟩ := List.mem_map.mp h
  exact e ▸ fld_lt s _ F.CIR_ELEM_ICH

theorem aside_setX32 (s : State) {i : Nat} (hi : i < 64) (b : Bool) : Aside keptPages s (setX32 s i b) :=
  aside_setBit s _ b (other_page (by decide) (by omega) (by decide) 0)

theorem aside_pathAtCycle (s : State) {i : Nat} (hi : i < 64) : Aside keptPages s (pathAtCycle s i) := by
  unfold pathAtCycle
  exact aside_ite (aside_setCurr s i _) (aside_ite ((aside_setCurr s i _).trans (aside_setX32 _ hi true)) (aside_setCurr s i _))

theorem aside_freeChannels (s : State) (c : Nat) : Aside keptPages s (freeChannels s c) :=
  aside_forAll (fun i mem u => (aside_setX32 u (circChannels_lt mem) false).trans (aside_setCurr _ i {})) s

theorem aside_circuitFld (s : State) (c : Nat) (f : Fld) (v : Nat) : Aside keptPages s (setFld s (R.CIR_STAT c) f v) :=
  aside_setFld s f v (circuit_page (by decide) c)

theorem aside_refreshCircuit (s : State) {c : Nat} (hc : c < 48) : Aside keptPages s (refreshCircuit s c) := by
  unfold refreshCircuit
  dsimp only
  split
  · exact Aside.refl _ s
  · split
    · exact ((aside_circuitFld s c _ _).trans (aside_setCirc _ c _)).trans (aside_raiseBit _ 0 (by omega) (by omega))
    · exact aside_circuitFld s c _ _

theorem aside_startCircuit (s : State) {c : Nat} (hc : c < 48) : Aside keptPages s (startCircuit s c) :=
  (((((aside_circuitFld s c _ _).trans (aside_freeChannels _ c)).trans (aside_circuitFld _ c _ _)).trans (aside_setCirc _ c _)).trans
    (aside_refreshCircuit _ hc))

theorem aside_saveRecord (s : State) : Aside keptPages s (saveRecord s) := ⟨rfl, fun _ _ => rfl⟩

theorem aside_circuitOff (s : State) {c : Nat} (hc : c < 48) : Aside keptPages s (circuitOff s c) := by
  have off := (((((aside_setCirc s c { circAt s c with running := false, ivlPart := true }).trans (aside_freeChannels _ c)).trans
    (aside_circuitFld _ c F.CIR_STAT_STATE fsOFF)).trans (aside_circuitFld _ c F.CIR_STAT_SUSP 0)).trans (aside_circuitFld _ c F.CIR_STAT_ZC_FB 0)).trans
    (aside_saveRecord _)
  unfold circuitOff
  exact aside_ite ((off.trans (aside_circuitFld _ c _ 0)).trans (aside_startCircuit _ hc)) off

theorem aside_finishCycle (s : State) {c : Nat} (hc : c < 48) (te : DWord) (isLine : Bool) : Aside keptPages s (finishCycle s c te isLine) := by
  have closed : Aside keptPages s (match (circAt s c).closing with | some b => if b.at_ < te then commitInterval s c b else s | none => s) := by
    split
    · split
      · exact aside_commitInterval s c _
      · exact Aside.refl _ s
    · exact Aside.refl _ s
  have moved (u : State) (cp cq : Int) : Aside keptPages u (logNets (applyNets u c cp cq) c te cp cq) :=
    (aside_applyNets u c cp cq).trans (aside_logNets _ c te cp cq)
  have paths (u : State) : Aside keptPages u (forAll pathAtCycle (circChannels u c) u) :=
    aside_forAll (fun i mem w => aside_pathAtCycle w (circChannels_lt mem)) u
  have ended := fun x => (((closed.trans (moved _ (circAt s c).cp (circAt s c).cq)).trans (aside_setCirc _ c x)).trans (paths _))
  have published (u : State) (b : Bool) (h : Aside keptPages s u) : Aside keptPages s (if b then publishCircuit u c te else u) :=
    aside_ite (h.trans (aside_publishCircuit u c te)) h
  unfold finishCycle
  exact aside_ite ((published _ _ (ended _)).trans (aside_circuitOff _ hc)) (published _ _ (ended _))

theorem aside_taint (s : State) (p : Nat) : Aside keptPages s (taint s p) := aside_of_regs rfl rfl

theorem aside_meterSnapshot (s : State) : Aside keptPages s (meterSnapshot s) := by
  have cycles : ∀ c ∈ upTo 48, ∀ u, Aside keptPages u (if (circAt u c).running then finishCycle u c u.now false else u) :=
    fun c mem u => aside_ite (aside_finishCycle u (List.mem_range.mp mem) _ _) (Aside.refl _ u)
  unfold meterSnapshot
  exact (aside_forAll cycles s).trans (aside_forAll (fun p _ u => aside_taint u p) _)

/-! ### Loops, port meters and queues -/

theorem aside_refreshLoop (s : State) {n : Nat} (hn : n < 512) : Aside keptPages s (refreshLoop s n) := by
  have shown (v : Nat) : Aside keptPages s (setFld s (R.LPE_LSTAT n) F.LPE_LSTAT_SUSP v) :=
    aside_setFld s _ _ (other_page (by omega) (by decide) (plant_page (by omega) (by omega)) _)
  have loop (u : State) (x : LoopState) : Aside keptPages u (setLoop u n x) := aside_of_regs rfl rfl
  unfold refreshLoop
  exact aside_ite (Aside.refl _ s) ((shown _).trans (loop _ _))

theorem aside_refreshLoops (s : State) : Aside keptPages s (refreshLoops s) :=
  aside_forAll (fun _ mem u => aside_refreshLoop u (List.mem_range.mp mem)) s

theorem aside_refreshMeters (s : State) : Aside keptPages s (refreshMeters s) := by
  have ports : ∀ p ∈ upTo 16, ∀ u, Aside keptPages u (refreshPortMeter u p) := fun p mem u =>
    have small := List.mem_range.mp mem
    aside_setFld u _ _ (other_page (by omega) (by decide) (plant_page (by omega) (by omega)) _)
  unfold refreshMeters
  exact (aside_forAll (fun c mem u => aside_refreshCircuit u (List.mem_range.mp mem)) s).trans (aside_forAll ports _)

theorem aside_setQueue (s : State) (q : Nat) (x : Queue) : Aside keptPages s (setQueue s q x) := aside_of_regs rfl rfl

section
variable {q : Nat} (hq : q < 64)
include hq

theorem queue_page {off : Nat} (ho : off < 0x140) : keyPage (regKey (0x28 + q / 16) (off + 0x40 * (q % 16)) 0) ∉ keptPages :=
  other_page (by omega) (by omega) (plant_page (by omega) (by omega)) 0

theorem aside_setRd (s : State) (n : Nat) : Aside keptPages s (setRd s q n) :=
  (aside_setFld s F.TND_PTR_RD n (queue_page hq (off := 0x138) (by decide))).trans (aside_of_regs rfl rfl)

theorem aside_setWr (s : State) (n : Nat) : Aside keptPages s (setWr s q n) :=
  (aside_setFld s F.TND_PTR_WR n (queue_page hq (off := 0x138) (by decide))).trans (aside_of_regs rfl rfl)

theorem aside_dropPacket (s : State) : Aside keptPages s (dropPacket s q) := by
  unfold dropPacket
  dsimp only
  split
  · exact Aside.refl _ s
  · exact (((aside_setQueue s q _).trans (aside_setWr hq _ _)).trans
      (aside_bumpFld _ F.TND_CNT_DROPPED 1 (queue_page hq (off := 0x130) (by decide)))).trans (aside_raiseBit _ 16 (by omega) (by omega))

theorem aside_flushQueue (s : State) : Aside keptPages s (flushQueue s q) :=
  (((aside_dropPacket hq s).trans (aside_setQueue _ q _)).trans (aside_setRd hq _ 0)).trans (aside_setWr hq _ 0)

theorem aside_checkPointers (s : State) : Aside keptPages s (checkPointers s q) :=
  aside_ite (Aside.refl _ s) (((aside_flushQueue hq s).trans (aside_bumpSat _ 1 (queue_page hq (off := 0x134) (by decide)))).trans
    (aside_raiseBit _ 17 (by omega) (by omega)))

theorem aside_swapBanks (s : State) : Aside keptPages s (swapBanks s q) :=
  aside_ite (((aside_setQueue s q _).trans (aside_setRd hq _ 0)).trans (aside_setWr hq _ 0)) (Aside.refl _ s)

theorem aside_takeItem (s : State) : Aside keptPages s (takeItem s q).1 := by
  unfold takeItem
  dsimp only
  split
  · exact (aside_checkPointers hq s).trans (aside_swapBanks hq _)
  · exact (((aside_checkPointers hq s).trans (aside_setQueue _ q _)).trans (aside_setRd hq _ _)).trans (aside_swapBanks hq _)

theorem aside_takePacket (n : Nat) (s : State) (acc : List Word) : Aside keptPages s (takePacket q n s acc).1 := by
  induction n generalizing s acc with
  | zero => exact Aside.refl _ s
  | succ n ih =>
    have taken := aside_takeItem hq s
    unfold takePacket
    split
    next u e =>
      rw [e] at taken
      exact taken
    next u w sop eop e =>
      rw [e] at taken
      split
      · exact taken
      · exact taken.trans (ih u _)

end

theorem aside_ringEntry (s : State) {b : Nat} (hb : b < 8) (ws : List Word) : Aside keptPages s (ringEntry s b ws) := by
  have lost (u : State) : Aside keptPages u (countLost1 u b) :=
    aside_bumpSat u 1 (other_page (by omega) (by decide) (plant_page (by omega) (by omega)) 0)
  have stored (u : State) (a : Nat) (l : List Byte) : Aside keptPages u (putBytes u a l) := (rangeWritten_putBytes u a l).aside
  have bus (u : State) (x : CanBus) : Aside keptPages u (setBus u b x) := aside_of_regs rfl rfl
  unfold ringEntry
  split
  · exact (lost s).trans (aside_raiseBit _ 8 (by unfold fbPage; omega) (by unfold fbPage; omega))
  · exact aside_ite ((stored s _ _).trans (lost _)) ((stored s _ _).trans (bus _ _))

theorem aside_drainQueue {b q : Nat} (hb : b < 8) (hq : q < 64) (n : Nat) (s : State) : Aside keptPages s (drainQueue b q n s) := by
  induction n generalizing s with
  | zero => exact Aside.refl _ s
  | succ n ih =>
    have taken := aside_takePacket hq 32768 s []
    unfold drainQueue
    split
    next u e =>
      rw [e] at taken
      exact taken
    next u ws _ e =>
      rw [e] at taken
      exact (taken.trans (aside_ringEntry u hb ws)).trans (ih _)

theorem aside_resumeRings (s : State) : Aside keptPages s (resumeRings s) := by
  refine aside_forAll (fun b mem u => ?_) s
  exact aside_ite (aside_drainQueue (List.mem_range.mp mem) (fld_lt u _ F.FB_RXQ_QUEUE) 65536 u) (Aside.refl _ u)

end Sys2Proof.Machine
end

section
/-! SUPPORT. What a pause of the module completes and frees: Crucible commands, crypto jobs and the locks of restarted engines (R500). -/

namespace Sys2Proof.Machine

open Sys2Proof.Safety

/-! ## Commands and jobs that are running end -/

section
variable {s t : State}

theorem aside_cruEnd (s : State) (c : Code) : Aside keptPages s (cruEnd s c) := by
  have stopped : Aside keptPages s (setCrypto s { s.crypto with cru := none }) := aside_of_regs rfl rfl
  exact ((stopped.trans (aside_setFld _ _ 0 (by decide))).trans (aside_setFld _ _ (codeNum c) (by decide))).trans
    (aside_raise _ _ (by decide) (by decide) (by decide))

theorem aside_cryEnd (s : State) (c : Code) (pass : Bool) : Aside keptPages s (cryEnd s c pass) := by
  have stopped : Aside keptPages s (setCrypto s { s.crypto with cry := none }) := aside_of_regs rfl rfl
  exact (stopped.trans (aside_wr _ _ (by decide))).trans (aside_raise _ _ (by decide) (by decide) (by decide))

theorem crypto_cruEnd (s : State) (c : Code) : (cruEnd s c).crypto = { s.crypto with cru := none } := by
  unfold cruEnd
  simp only [raiseBit_crypto, setFld_crypto]
  rfl

theorem crypto_cryEnd (s : State) (c : Code) (pass : Bool) : (cryEnd s c pass).crypto = { s.crypto with cry := none } := by
  unfold cryEnd
  simp only [raise_crypto, wr_crypto]
  rfl

theorem aside_putBytes (s : State) (a : Nat) (l : List Byte) : Aside keptPages s (putBytes s a l) := (rangeWritten_putBytes s a l).aside

theorem aside_blankJob (s : State) (j : CryJob) : Aside keptPages s (blankJob s j) :=
  aside_ite (Aside.refl _ s) (rangeWritten_fillBytes s j.dst (cryOut j) 0).aside

theorem crypto_blankJob (s : State) (j : CryJob) : (blankJob s j).crypto = s.crypto := by
  unfold blankJob
  split
  · rfl
  · rw [(rangeWritten_fillBytes s j.dst (cryOut j) 0).rest]

/-- An operation that stops leaves the other's job as it is. -/
theorem aside_settleOps (idle : s.crypto.cru = none) : Aside keptPages s (settleOps s) ∧ (settleOps s).crypto.cru = none := by
  unfold settleOps stopCry
  rw [idle]
  dsimp only
  split
  next j job =>
    split
    · exact ⟨Aside.refl _ s, idle⟩
    · rw [raiseBit_crypto, crypto_cryEnd, crypto_blankJob]
      exact ⟨((aside_blankJob s j).trans (aside_cryEnd _ _ _)).trans (aside_raise _ _ (by decide) (by decide) (by decide)), idle⟩
  next => exact ⟨Aside.refl _ s, idle⟩

theorem drawBytes_fst (s : State) (n : Nat) : (drawBytes s n).1 = { s with drawn := s.drawn + n } := rfl

/-- Forming a key draws random bytes and changes nothing else. -/
theorem newMaterial_fst (s : State) (j : CruJob) : (newMaterial s j).1 = s ∨ ∃ n, (newMaterial s j).1 = { s with drawn := n } := by
  unfold newMaterial
  dsimp only
  split
  · exact .inr ⟨_, rfl⟩
  · split
    · exact .inl rfl
    · split
      · split
        · exact .inl rfl
        · exact .inl rfl
      · exact .inl rfl

theorem aside_newMaterial (s : State) (j : CruJob) : Aside keptPages s (newMaterial s j).1 := by
  obtain same | ⟨n, drawn⟩ := newMaterial_fst s j
  · rw [same]
    exact Aside.refl _ s
  · rw [drawn]
    exact aside_of_regs rfl rfl

/-- A command ends: nothing is running in the Crucible. -/
theorem cruComplete_ends (s : State) (entropy : Bool) : Aside keptPages s (cruComplete s entropy) ∧ (cruComplete s entropy).crypto.cru = none := by
  have ended (u : State) (c : Code) (h : Aside keptPages s u) : Aside keptPages s (cruEnd u c) ∧ (cruEnd u c).crypto.cru = none :=
    ⟨h.trans (aside_cruEnd u c), by rw [crypto_cruEnd]⟩
  unfold cruComplete
  split
  next idle => exact ⟨Aside.refl _ s, idle⟩
  next j job =>
    have formed := aside_newMaterial s j
    split
    · exact ended s _ (Aside.refl _ s)
    · split
      · split
        next u m e =>
          rw [e] at formed
          have drawn : Aside keptPages u (drawBytes u m.length).1 := aside_of_regs rfl rfl
          have created := (keysUpdated_createSlot (drawBytes u m.length).1 j.target { attr := newAttr (drawBytes u m.length).1 j.attr, pgen := (slotAt (drawBytes u m.length).1 (attrParent j.attr)).gen, material := m, share := (drawBytes u m.length).2 }).aside (ps := keptPages)
          obtain ⟨left, free⟩ := ended _ .none ((formed.trans drawn).trans created)
          obtain ⟨settled, still⟩ := aside_settleOps free
          exact ⟨left.trans settled, still⟩
        next u e =>
          rw [e] at formed
          exact ended u _ formed
      · split
        · exact ended _ _ (aside_putBytes s _ _)
        · exact ended s _ (Aside.refl _ s)

theorem aside_putTag (s : State) (b : List Byte) : Aside keptPages s (putTag s b) :=
  aside_forAll (fun n mem u => aside_wr u _ (other_page (by decide) (by have := List.mem_range.mp mem; omega) (by decide) 0)) s

theorem crypto_putTag (s : State) (b : List Byte) : (putTag s b).crypto = s.crypto :=
  forAll_keeps (view := State.crypto) (fun u n _ => wr_crypto u (R.CRY_TAG n) _) s

/-- The state before a job ends: memory, the tag and the random stream may have moved. -/
structure JobRan (s t : State) : Prop where
  aside : Aside keptPages s t
  crypto : t.crypto = s.crypto

theorem JobRan.refl (s : State) : JobRan s s := ⟨Aside.refl _ s, rfl⟩

theorem jobRan_putBytes {s t : State} (h : JobRan s t) (a : Nat) (l : List Byte) : JobRan s (putBytes t a l) :=
  ⟨h.aside.trans (aside_putBytes t a l), (putBytes_crypto t a l).trans h.crypto⟩

theorem jobRan_putTag (s : State) (b : List Byte) : JobRan s (putTag s b) := ⟨aside_putTag s b, crypto_putTag s b⟩

/-- A job that is running ends. -/
def JobEnds (s t : State) : Prop := ∃ u c pass, t = cryEnd u c pass ∧ JobRan s u

theorem jobEnds_cryEnd {s u : State} (h : JobRan s u) (c : Code) (pass : Bool) : JobEnds s (cryEnd u c pass) := ⟨u, c, pass, rfl, h⟩

theorem jobEnds_ite {s t u : State} {c : Prop} [Decidable c] (h : JobEnds s t) (k : JobEnds s u) : JobEnds s (if c then t else u) := by
  split
  · exact h
  · exact k

theorem jobEnds_stored (s : State) (a : Nat) (l : List Byte) (pass : Bool) : JobEnds s (cryEnd (putBytes s a l) .none pass) :=
  jobEnds_cryEnd (jobRan_putBytes (JobRan.refl s) a l) _ pass

theorem jobEnds_tagged (s : State) (b : List Byte) (a : Nat) (l : List Byte) : JobEnds s (cryEnd (putBytes (putTag s b) a l) .none false) :=
  jobEnds_cryEnd (jobRan_putBytes (jobRan_putTag s b) a l) _ _

theorem jobEnds_judged (s : State) (ok : Bool) : JobEnds s (cryVerdict s ok) := jobEnds_cryEnd (JobRan.refl s) _ ok

theorem jobEnds_drawn (s : State) (n a : Nat) (l : List Byte) : JobEnds s (cryEnd (putBytes (drawBytes s n).1 a l) .none false) := by
  have ran : JobRan s (drawBytes s n).1 := ⟨aside_of_regs rfl rfl, rfl⟩
  exact jobEnds_cryEnd (jobRan_putBytes ran a l) _ _

theorem jobEnds_opened (s : State) (j : CryJob) (o : Option (List Byte)) :
    JobEnds s (match o with | some pt => cryEnd (putBytes s j.dst pt) .none true | none => cryEnd (blankJob s j) .auth false) := by
  cases o with
  | some pt => exact jobEnds_stored s _ _ _
  | none => exact jobEnds_cryEnd ⟨aside_blankJob s j, crypto_blankJob s j⟩ _ _

theorem cryComplete_job {s : State} {j : CryJob} (job : s.crypto.cry = some j) : JobEnds s (cryComplete s) := by
  unfold cryComplete
  rw [job]
  dsimp only
  refine jobEnds_ite ?_ (jobEnds_ite ?_ (jobEnds_ite ?_ (jobEnds_ite ?_ (jobEnds_ite ?_ (jobEnds_ite ?_ (jobEnds_ite ?_ (jobEnds_ite ?_
    (jobEnds_ite ?_ (jobEnds_ite ?_ ?_)))))))))
  · exact jobEnds_tagged s _ _ _
  · exact jobEnds_opened s j _
  · exact jobEnds_stored s _ _ _
  · exact jobEnds_cryEnd (jobRan_putTag s _) _ _
  · exact jobEnds_judged s _
  · exact jobEnds_tagged s _ _ _
  · exact jobEnds_judged s _
  · exact jobEnds_drawn s _ _ _
  · exact jobEnds_stored s _ _ _
  · exact jobEnds_judged s _
  · exact jobEnds_stored s _ _ _

theorem cryComplete_ends (s : State) : Aside keptPages s (cryComplete s) ∧ (cryComplete s).crypto = { s.crypto with cry := none } := by
  rcases job : s.crypto.cry with _ | j
  · have idle : cryComplete s = s := by
      unfold cryComplete
      rw [job]
    rw [idle, ← job]
    exact ⟨Aside.refl _ s, rfl⟩
  · obtain ⟨u, c, pass, ended, ran⟩ := cryComplete_job job
    rw [ended, crypto_cryEnd, ran.crypto]
    exact ⟨ran.aside.trans (aside_cryEnd u c pass), rfl⟩

end

/-! ## The locks of restarted engines (R500) -/

/-- The word of a lock that is broken when the engine that holds it restarts. -/
def lockBroken (w : Word) : Word := withBits (withBits w 31 31 0) 30 30 1

/-- What a restart of a requester does to a lock's word. -/
def lockAtRestart (w : Word) (req : Nat) : Word := if bits w 31 31 ≠ 0 ∧ bits w 20 16 = req then lockBroken w else w

theorem rd_lockTimers (s : State) (x : Table LockTimer) (k : Nat) : rd { s with lockTimers := x } k = rd s k := rfl

theorem rd_freeLock (s : State) {n k : Nat} (held : k ≠ R.LCK_HELD (n / 32)) : rd (freeLock s n true) k =
    rd (setFld (setFld s (R.LCK_STAT n) F.LCK_STAT_HELD 0) (R.LCK_STAT n) F.LCK_STAT_BROKEN 1) k := by
  unfold freeLock
  rw [rd_setBit_ne _ _ _ held, rd_lockTimers]
  rfl

theorem rd_freeLock_raised (s : State) {n : Nat} (hn : n < 64) :
    rd (raiseBit (freeLock s n true) 0x0A 1) (R.LCK_STAT n) = lockBroken (rd s (R.LCK_STAT n)) := by
  have isr : R.LCK_STAT n ≠ R.PG_ISR 0x0A := by simp only [R.LCK_STAT, R.PG_ISR, regKey]; omega
  have pend : R.LCK_STAT n ≠ R.EVT_PEND (0x0A / 32) := by simp only [R.LCK_STAT, R.EVT_PEND, regKey]; omega
  have held : R.LCK_STAT n ≠ R.LCK_HELD (n / 32) := by simp only [R.LCK_STAT, R.LCK_HELD, regKey]; omega
  rw [rd_raiseBit_ne _ isr pend, rd_freeLock s held, rd_setFld_same, rd_setFld_same]
  rfl

theorem rd_freeLock_raised_ne (s : State) {m n : Nat} (hn : n < 64) (hm : m < 64) (ne : m ≠ n) :
    rd (raiseBit (freeLock s m true) 0x0A 1) (R.LCK_STAT n) = rd s (R.LCK_STAT n) := by
  have isr : R.LCK_STAT n ≠ R.PG_ISR 0x0A := by simp only [R.LCK_STAT, R.PG_ISR, regKey]; omega
  have pend : R.LCK_STAT n ≠ R.EVT_PEND (0x0A / 32) := by simp only [R.LCK_STAT, R.EVT_PEND, regKey]; omega
  have held : R.LCK_STAT n ≠ R.LCK_HELD (m / 32) := by simp only [R.LCK_STAT, R.LCK_HELD, regKey]; omega
  have other : R.LCK_STAT n ≠ R.LCK_STAT m := by simp only [R.LCK_STAT, regKey]; omega
  rw [rd_raiseBit_ne _ isr pend, rd_freeLock s held, rd_setFld_ne _ _ _ other, rd_setFld_ne _ _ _ other]

/-- One lock at the restart of a requester. -/
def lockStep (req : Nat) (s : State) (n : Nat) : State :=
  if lockHeld s n && fld s (R.LCK_STAT n) F.LCK_STAT_REQ == req then raiseBit (freeLock s n true) 0x0A 1 else s

theorem breakLocks_eq (s : State) (req : Nat) : breakLocks s req = forAll (lockStep req) (upTo 64) s := rfl

theorem rd_lockStep (req : Nat) (s : State) {n : Nat} (hn : n < 64) :
    rd (lockStep req s n) (R.LCK_STAT n) = lockAtRestart (rd s (R.LCK_STAT n)) req := by
  unfold lockStep lockAtRestart
  by_cases held : bits (rd s (R.LCK_STAT n)) 31 31 ≠ 0 ∧ bits (rd s (R.LCK_STAT n)) 20 16 = req
  · rw [if_pos held, if_pos (by simpa [lockHeld, flag, fld, F.LCK_STAT_HELD, F.LCK_STAT_REQ] using held)]
    exact rd_freeLock_raised s hn
  · rw [if_neg held, if_neg (by simpa [lockHeld, flag, fld, F.LCK_STAT_HELD, F.LCK_STAT_REQ] using held)]

theorem rd_breakLocks (s : State) (req : Nat) {n : Nat} (hn : n < 64) :
    rd (breakLocks s req) (R.LCK_STAT n) = lockAtRestart (rd s (R.LCK_STAT n)) req := by
  obtain ⟨u, before, after⟩ := forAll_view (f := lockStep req) (view := fun u => rd u (R.LCK_STAT n)) (l := upTo 64) (m := n) List.nodup_range
    (List.mem_range.mpr hn) (fun u m mem ne => by
      unfold lockStep
      split
      · exact rd_freeLock_raised_ne u hn (List.mem_range.mp mem) ne
      · rfl) s
  rw [breakLocks_eq]
  refine after.trans ((rd_lockStep req u hn).trans ?_)
  exact congrArg (lockAtRestart · req) before

theorem rd_breakAll (l : List Nat) (s : State) {n : Nat} (hn : n < 64) :
    rd (forAll breakLocks l s) (R.LCK_STAT n) = l.foldl lockAtRestart (rd s (R.LCK_STAT n)) := by
  induction l generalizing s with
  | nil => rfl
  | cons r l ih => exact (ih (breakLocks s r)).trans (congrArg (l.foldl lockAtRestart) (rd_breakLocks s r hn))

theorem bits_lockBroken_held (w : Word) : bits (lockBroken w) 31 31 = 0 := by
  rw [lockBroken, bits_withBits_ne _ _ (by decide) (by decide) (by decide), bits_withBits_same _ _ (by decide) (by decide), Nat.zero_mod]

theorem foldl_lockAtRestart_free {w : Word} (free : bits w 31 31 = 0) (l : List Nat) : l.foldl lockAtRestart w = w := by
  induction l with
  | nil => rfl
  | cons r l ih =>
    have stays : lockAtRestart w r = w := if_neg (fun h => h.1 free)
    rwa [List.foldl_cons, stays]

theorem foldl_lockAtRestart {w : Word} (held : bits w 31 31 ≠ 0) {l : List Nat} (mem : bits w 20 16 ∈ l) :
    l.foldl lockAtRestart w = lockBroken w := by
  induction l with
  | nil => cases mem
  | cons r l ih =>
    rw [List.foldl_cons]
    by_cases own : bits w 20 16 = r
    · rw [lockAtRestart, if_pos ⟨held, own⟩]
      exact foldl_lockAtRestart_free (bits_lockBroken_held w) l
    · rw [lockAtRestart, if_neg (fun h => own h.2)]
      exact ih ((List.mem_cons.mp mem).resolve_left own)

/-- A lock that a restarted engine holds is free and BROKEN. -/
theorem lock_breakAll {s : State} {n : Nat} (hn : n < 64) (held : lockHeld s n = true) (owner : fld s (R.LCK_STAT n) F.LCK_STAT_REQ ∈ restarted) :
    lockHeld (forAll breakLocks restarted s) n = false ∧ flag (forAll breakLocks restarted s) (R.LCK_STAT n) F.LCK_STAT_BROKEN = true := by
  have word : rd (forAll breakLocks restarted s) (R.LCK_STAT n) = lockBroken (rd s (R.LCK_STAT n)) :=
    (rd_breakAll restarted s hn).trans (foldl_lockAtRestart (by simpa [lockHeld, flag, fld, F.LCK_STAT_HELD] using held) owner)
  constructor
  · simp only [lockHeld, flag, fld, word, F.LCK_STAT_HELD, bits_lockBroken_held, bne_self_eq_false]
  · simp only [flag, fld, word, F.LCK_STAT_BROKEN, lockBroken]
    rw [bits_withBits_same _ _ (by decide) (by decide)]
    rfl

/-- Locks are broken beside the PTP servo and the update. -/
theorem aside_breakAll (s : State) : Aside [0x7F, 0x98] s (forAll breakLocks restarted s) := by
  have lock (u : State) {off : Nat} (ho : off < 4096) : keyPage (regKey 0x0A off 0) ∉ [0x7F, 0x98] := by
    rw [keyPage_regKey (by decide) ho]
    decide
  refine aside_forAll (fun r _ u => aside_forAll (fun n mem v => ?_) u) s
  have small := List.mem_range.mp mem
  have timers (x y : State) : y = { x with lockTimers := y.lockTimers } → Aside [0x7F, 0x98] x y := fun e => by
    rw [e]
    exact aside_of_regs rfl rfl
  refine aside_ite ?_ (Aside.refl _ v)
  exact ((((aside_setFld v F.LCK_STAT_HELD 0 (lock v (by omega))).trans (aside_setFld _ F.LCK_STAT_BROKEN 1 (lock v (by omega)))).trans
    (timers _ _ rfl)).trans (aside_setBit _ _ false (lock v (by omega)))).trans (aside_raise _ _ (by decide) (by decide) (by decide))

theorem crypto_breakAll (s : State) : (forAll breakLocks restarted s).crypto = s.crypto := by
  refine forAll_keeps (view := State.crypto) (fun u r _ => forAll_keeps (view := State.crypto) (fun v n _ => ?_) u) s
  split
  · exact (raiseBit_crypto _ _ _).trans rfl
  · rfl

end Sys2Proof.Machine
end

section
/-! SUPPORT. The UPD page: its commands, and the ends of CHECK and WRITE (R493 to R499, R503, R504). -/

namespace Sys2Proof.Machine

open Sys2Proof.Safety

/-! ## A command as its requester meets it -/

section
variable {s u : State} {q : Requester} {page off : Nat} {k : State → State × Code} (hr : Reaches s q page off)
include hr

theorem gated_taken (taken : k s = (u, .none)) : gated s q page off (fun s => endCommand page off (k s)) = answer u .none := by
  rw [gated_reaches hr, taken]
  rfl

theorem gated_turned {c : Code} (error : c ≠ .none) (turned : k s = (s, c)) :
    Rejected s (gated s q page off (fun s => endCommand page off (k s))) page off c := by
  have rejected : gated s q page off (fun s => endCommand page off (k s)) = rejectWrite s page off c := by
    rw [gated_reaches hr, turned, endCommand, if_neg error]
  rw [rejected]
  exact ⟨rfl, rfl⟩

end

theorem due_of_rejected {s t : State} {page off : Nat} {c : Code} (h : Rejected s t page off c) (due : s.boot.due = none) : t.boot.due = none := by
  rw [h.recorded]
  exact (congrArg Boot.due (pgError_boot s page off c)).trans due

theorem upd_of_onlyRegs {ks : List Nat} {s t : State} (h : OnlyRegs ks s t) : t.upd = s.upd := by rw [h.rest]
theorem boot_of_onlyRegs {ks : List Nat} {s t : State} (h : OnlyRegs ks s t) : t.boot = s.boot := by rw [h.rest]

/-! ## The state of an update -/

section
variable (s : State)

theorem onlyRegs_enterUpd (st : Nat) : OnlyRegs [R.UPD_STAT, R.UPD_STAGED] s (enterUpd s st) :=
  (onlyRegs_setFld s _ st (by simp)).trans (onlyRegs_wr _ _ (by simp))

theorem stat_enterUpd (st : Nat) (f : Fld) : fld (enterUpd s st) R.UPD_STAT f = fld (setFld s R.UPD_STAT F.UPD_STAT_STATE st) R.UPD_STAT f :=
  fld_wr_ne _ _ f (by decide)

theorem updState_enterUpd {st : Nat} (hs : st < 8) : updState (enterUpd s st) = st := by
  refine (stat_enterUpd s st _).trans ((fld_setFld_same s _ _ st (by decide) (by decide)).trans ?_)
  exact Nat.mod_eq_of_lt hs

theorem code_enterUpd (st : Nat) : fld (enterUpd s st) R.UPD_STAT F.UPD_STAT_CODE = fld s R.UPD_STAT F.UPD_STAT_CODE :=
  (stat_enterUpd s st _).trans (fld_setFld_other s _ _ _ st (by decide) (by decide) (by decide))

theorem jopen_enterUpd (st : Nat) : fld (enterUpd s st) R.UPD_STAT F.UPD_STAT_JOPEN = fld s R.UPD_STAT F.UPD_STAT_JOPEN :=
  (stat_enterUpd s st _).trans (fld_setFld_other s _ _ _ st (by decide) (by decide) (by decide))

/-- UPD_STAGED shows no RELEASE but in CHECKED and WRITTEN. -/
theorem staged_enterUpd {st : Nat} (checked : st ≠ udCHECKED) (written : st ≠ udWRITTEN) : rd (enterUpd s st) R.UPD_STAGED = 0 := by
  unfold enterUpd
  rw [if_neg (not_or.mpr ⟨checked, written⟩)]
  exact rd_wr_same _ _ _

theorem staged_enterUpd_CHECKED : rd (enterUpd s udCHECKED) R.UPD_STAGED = BitVec.ofNat 32 (leNat (sliceD 0 s.upd.manifest 0xC 4)) :=
  rd_wr_same _ _ _

/-- A command of UPD_CMD is done: LAST names it. -/
def updDone (op : Nat) : State := answer (setFld s R.UPD_STAT F.UPD_STAT_LAST op) .none

theorem onlyRegs_updDone (op : Nat) : OnlyRegs [R.UPD_STAT] s (updDone s op) := (onlyRegs_setFld s _ op (by simp)).trans (onlyRegs_answer _ _ _)

theorem updState_updDone (op : Nat) : updState (updDone s op) = updState s := fld_setFld_other s _ _ _ op (by decide) (by decide) (by decide)

theorem last_updDone {op : Nat} (ho : op < 8) : fld (updDone s op) R.UPD_STAT F.UPD_STAT_LAST = op :=
  (fld_setFld_same s _ _ op (by decide) (by decide)).trans (Nat.mod_eq_of_lt ho)

end

/-! ## Who is turned away, and what is taken (R496) -/

section
variable {s u : State} {op : Nat} (low : 1 ≤ op) (high : op ≤ 6)
include low high

theorem updWord : bits (BitVec.ofNat 32 op) 2 0 = op ∧ bits (BitVec.ofNat 32 op) 31 3 = 0 := by
  interval_cases op <;> decide

theorem updCommand_outside (outside : serviceMode s = false) : updCommand s (BitVec.ofNat 32 op) = (s, .notInState) := by
  obtain ⟨field, rest⟩ := updWord low high
  unfold updCommand
  rw [field, rest, if_neg (by decide), if_neg (by omega), outside]
  rfl

theorem updCommand_served (served : serviceMode s = true) : updCommand s (BitVec.ofNat 32 op) =
    match updOp s op with
    | (s, .none) => (setFld s R.UPD_STAT F.UPD_STAT_LAST op, .none)
    | r => r := by
  obtain ⟨field, rest⟩ := updWord low high
  unfold updCommand
  rw [field, rest, if_neg (by decide), if_neg (by omega), served]
  rfl

theorem updCommand_taken (served : serviceMode s = true) (taken : updOp s op = (u, .none)) :
    updCommand s (BitVec.ofNat 32 op) = (setFld u R.UPD_STAT F.UPD_STAT_LAST op, .none) := by
  rw [updCommand_served low high served, taken]

theorem updCommand_turned (served : serviceMode s = true) {c : Code} (error : c ≠ .none) (turned : updOp s op = (s, c)) :
    updCommand s (BitVec.ofNat 32 op) = (s, c) := by
  rw [updCommand_served low high served, turned]
  split
  next e => exact absurd (congrArg Prod.snd e) error
  next => rfl

end

section
variable {s u : State} {q : Requester} {op : Nat} (hr : Reaches s q 0x98 0x48)
include hr

theorem updRow_outside (low : 1 ≤ op) (high : op ≤ 6) (outside : serviceMode s = false) :
    ∃ t, updRow q op s = .next t ∧ Rejected s t 0x98 0x48 .notInState :=
  ⟨_, rfl, gated_turned hr (by decide) (updCommand_outside low high outside)⟩

theorem updRow_turned (served : serviceMode s = true) {c : Code} (error : c ≠ .none) (turned : updOp s op = (s, c)) (low : 1 ≤ op) (high : op ≤ 6) :
    ∃ t, updRow q op s = .next t ∧ Rejected s t 0x98 0x48 c :=
  ⟨_, rfl, gated_turned hr error (updCommand_turned low high served error turned)⟩

theorem updRow_taken (served : serviceMode s = true) (taken : updOp s op = (u, .none)) (low : 1 ≤ op) (high : op ≤ 6) :
    updRow q op s = .next (updDone u op) :=
  congrArg Host.Outcome.next (gated_taken hr (updCommand_taken low high served taken))

/-- ACTIVATE, whose reset follows at once where it asks for one. -/
theorem updActivate_outside (due : s.boot.due = none) (outside : serviceMode s = false) :
    ∃ t, exec (.updActivate q) s = .next t ∧ Rejected s t 0x98 0x48 .notInState := by
  have turned := gated_turned (k := fun s => updCommand s (BitVec.ofNat 32 3)) hr (c := .notInState) (by decide) (updCommand_outside (by decide) (by decide) outside)
  exact ⟨_, congrArg Host.Outcome.next (settleReset_of_none (due_of_rejected turned due)), turned⟩

theorem updActivate_turned (due : s.boot.due = none) (served : serviceMode s = true) {c : Code} (error : c ≠ .none)
    (turned : updActivate s = (s, c)) : ∃ t, exec (.updActivate q) s = .next t ∧ Rejected s t 0x98 0x48 c := by
  have rejected := gated_turned (k := fun s => updCommand s (BitVec.ofNat 32 3)) hr error (updCommand_turned (by decide) (by decide) served error turned)
  exact ⟨_, congrArg Host.Outcome.next (settleReset_of_none (due_of_rejected rejected due)), rejected⟩

theorem updActivate_taken (served : serviceMode s = true) (taken : updActivate s = (u, .none)) :
    exec (.updActivate q) s = .next (settleReset (updDone u 3)) :=
  congrArg (fun t => Host.Outcome.next (settleReset t)) 
    (gated_taken (k := fun s => updCommand s (BitVec.ofNat 32 3)) hr (updCommand_taken (by decide) (by decide) served taken))

end

/-! ## What each command does -/

theorem updBusy_iff (st : Nat) : updBusy st = true ↔ st = udCHECKING ∨ st = udWRITING ∨ st = udACTIVATING := by
  simp [updBusy, or_assoc]

theorem updBusy_false {st : Nat} (free : ¬ (st = udCHECKING ∨ st = udWRITING ∨ st = udACTIVATING)) : updBusy st = false :=
  Bool.eq_false_iff.mpr fun busy => free ((updBusy_iff st).mp busy)

section
variable (s : State)

/-- CHECK begins. -/
def checkBegun : State := enterUpd (setUpd s { s.upd with src := (rd s R.UPD_SRC).toNat, len := (rd s R.UPD_LEN).toNat }) udCHECKING

/-- WRITE begins. -/
def writeBegun : State := enterUpd (wr (openImage s s.upd.manifest) R.UPD_PROG 0) udWRITING

def setOtp (o : Otp) : State := { s with otp := o }

/-- The fuses count the SVN that runs. -/
def svnCommitted : State := setOtp s { s.otp with svn := max s.otp.svn (min 64 s.boot.fw.svn) }

/-- The digest of the owner's key is recorded. -/
def ownerRecorded : State := setOtp s { s.otp with owner := some (sha256 (bytesAt s (rd s R.UPD_SRC).toNat 64)) }

/-- A warm activation begins; B1 is the next tick. -/
def activationBegun : State := enterUpd (setUpd s { s.upd with b1 := some s.nextTick }) udACTIVATING

end

section
variable {s : State}

theorem updOp_check_busy (busy : updBusy (updState s) = true) : updOp s 1 = (s, .busy) := by simp [updOp, busy]
theorem updOp_check (free : updBusy (updState s) = false) : updOp s 1 = (checkBegun s, .none) := by simp [updOp, free, checkBegun]

theorem updOp_write_unchecked (st : updState s ≠ udCHECKED) : updOp s 2 = (s, .sequence) := by simp [updOp, st]
theorem updOp_write_busy (st : updState s = udCHECKED) (store : s.boot.store.isSome = true) : updOp s 2 = (s, .busy) := by simp [updOp, st, store]

theorem updOp_write (st : updState s = udCHECKED) (free : s.boot.store = none) : updOp s 2 = (writeBegun s, .none) := by
  simp [updOp, st, free, writeBegun]

theorem updOp_abandon (st : updState s = udCHECKED) : updOp s 4 = (enterUpd s udIDLE, .none) := by simp [updOp, st]

theorem updOp_abandon_running (st : updState s = udWRITING ∨ updState s = udACTIVATING) : updOp s 4 = (s, .notInState) := by
  obtain st | st := st
  · simp [updOp, st, udWRITING, udCHECKED]
  · simp [updOp, st, udACTIVATING, udCHECKED]

theorem updOp_abandon_none (st : updState s ∉ [udCHECKED, udWRITING, udACTIVATING]) : updOp s 4 = (s, .sequence) := by
  simp only [List.mem_cons, List.not_mem_nil, or_false, not_or] at st
  simp [updOp, st]

theorem updOp_svn_busy (busy : updBusy (updState s) = true) : updOp s 5 = (s, .busy) := by simp [updOp, busy]

theorem updOp_svn (free : updBusy (updState s) = false) (st : updState s ≠ udCHECKED) : updOp s 5 = (svnCommitted s, .none) := by
  simp [updOp, free, st, svnCommitted, setOtp]

theorem updOp_owner (s : State) : updOp s 6 = ownerRecord s := rfl

theorem ownerRecord_outside (mode : modeNow s ≠ mdCOMMISSION) : ownerRecord s = (s, .notInState) := if_pos mode

theorem ownerRecord_programmed (mode : modeNow s = mdCOMMISSION) (owned : s.otp.owner.isSome = true) : ownerRecord s = (s, .lockedConfig) := by
  simp [ownerRecord, mode, owned]

theorem ownerRecord_records (mode : modeNow s = mdCOMMISSION) (free : s.otp.owner = none) (st : updState s = udIDLE)
    (inside : inDram s (rd s R.UPD_SRC).toNat 64 = true) : ownerRecord s = (ownerRecorded s, .none) := by
  simp [ownerRecord, mode, free, st, inside, ownerRecorded, setOtp]

theorem updActivate_unwritten (st : updState s ≠ udWRITTEN) : updActivate s = (s, .sequence) := if_pos st

theorem updActivate_active (st : updState s = udWRITTEN) (role : roleOf s = rlACTIVE) (synced : partnerSynced s = true) :
    updActivate s = (s, .notInState) := by
  simp [updActivate, st, role, synced]

theorem updActivate_standby (st : updState s = udWRITTEN) (role : roleOf s = rlSTANDBY ∨ roleOf s = rlRESOLVING) :
    updActivate s = (resetDue s 0x8, .none) := by
  obtain role | role := role
  · simp [updActivate, st, role, rlSTANDBY, rlACTIVE]
  · simp [updActivate, st, role, rlRESOLVING, rlACTIVE]

section
variable (st : updState s = udWRITTEN) (standby : roleOf s ≠ rlSTANDBY) (resolving : roleOf s ≠ rlRESOLVING)
  (alone : roleOf s ≠ rlACTIVE ∨ partnerSynced s = false)
include st standby resolving alone

theorem updActivate_role : updActivate s =
    if modeNow s ≠ mdACTIVE ∧ modeNow s ≠ mdSAFE ∧ modeNow s ≠ mdCOMMISSION then (s, .notInState)
    else if xchState s = xsCHECKING ∨ xchState s = xsWAITING ∨ xchState s = xsMIGRATING ∨ s.boot.store.isSome then (s, .busy)
    else (activationBegun s, .none) := by
  unfold updActivate
  rw [if_neg (not_not_intro st), if_neg, if_neg (not_or.mpr ⟨standby, resolving⟩)]
  · rfl
  · rintro ⟨role, synced⟩
    exact alone.elim (· role) (fun unsynced => by simp [unsynced] at synced)

theorem updActivate_dozing (mode : modeNow s = mdDOZE) : updActivate s = (s, .notInState) := by
  rw [updActivate_role st standby resolving alone, if_pos (by rw [mode]; decide)]

theorem updActivate_busy (mode : modeNow s ∈ [mdACTIVE, mdSAFE, mdCOMMISSION])
    (busy : xchState s ∈ [xsCHECKING, xsWAITING, xsMIGRATING] ∨ s.boot.store.isSome = true) : updActivate s = (s, .busy) := by
  simp only [List.mem_cons, List.not_mem_nil, or_false] at mode busy
  rw [updActivate_role st standby resolving alone, if_neg (by tauto), if_pos (by tauto)]

theorem updActivate_begins (mode : modeNow s ∈ [mdACTIVE, mdSAFE, mdCOMMISSION]) (free : xchState s ∉ [xsCHECKING, xsWAITING, xsMIGRATING])
    (unstored : s.boot.store = none) : updActivate s = (activationBegun s, .none) := by
  simp only [List.mem_cons, List.not_mem_nil, or_false] at mode free
  rw [updActivate_role st standby resolving alone, if_neg (by tauto), if_neg (by rw [unstored]; simpa [not_or] using free)]

end

end

/-! ## What a command leaves -/

section
variable {s : State} {q : Requester} (hr : Reaches s q 0x98 0x48) (served : serviceMode s = true)

theorem samePoints_setUpd (s : State) (x : Upd) : SamePoints s (setUpd s x) := fun _ => rfl
theorem byteAt_setUpd (s : State) (x : Upd) (a : Nat) : byteAt (setUpd s x) a = byteAt s a := rfl

/-- A command that enters a state leaves memory and points as they are. -/
theorem entered_keeps {x : Upd} {st op : Nat} (hs : st < 8) (ho : op < 8) (checked : st ≠ udCHECKED) (written : st ≠ udWRITTEN) :
    let t := updDone (enterUpd (setUpd s x) st) op
    Accepted t ∧ updState t = st ∧ fld t R.UPD_STAT F.UPD_STAT_LAST = op ∧ rd t R.UPD_STAGED = 0 ∧ t.upd = x ∧
      SameRegs [R.UPD_STAT, R.UPD_STAGED] s t ∧ SameBytes s t ∧ SamePoints s t := by
  intro t
  have entered := onlyRegs_enterUpd (setUpd s x) st
  have done := (onlyRegs_updDone (enterUpd (setUpd s x) st) op).mono (js := [R.UPD_STAT, R.UPD_STAGED]) (by simp)
  have all := entered.trans done
  exact ⟨rfl, (updState_updDone _ op).trans (updState_enterUpd _ hs), last_updDone _ ho,
    ((onlyRegs_updDone _ op).regs _ (by decide)).trans (staged_enterUpd _ checked written), upd_of_onlyRegs all, all.regs,
    fun a => (sameBytes_of_onlyRegs all a).trans (byteAt_setUpd s x a), samePoints_of_points ((points_of_onlyRegs all).trans rfl)⟩

theorem rd_setOtp (s : State) (o : Otp) (k : Nat) : rd (setOtp s o) k = rd s k := rfl
theorem byteAt_setOtp (s : State) (o : Otp) (a : Nat) : byteAt (setOtp s o) a = byteAt s a := rfl
theorem updState_setOtp (s : State) (o : Otp) : updState (setOtp s o) = updState s := rfl

/-- A command that touches the fuses alone. -/
theorem fused_keeps {o : Otp} {op : Nat} (ho : op < 8) : let t := updDone (setOtp s o) op
    Accepted t ∧ t.otp = o ∧ SameRegs [R.UPD_STAT] s t ∧ updState t = updState s ∧ fld t R.UPD_STAT F.UPD_STAT_LAST = op ∧
      SameBytes s t ∧ SamePoints s t := by
  intro t
  have done := onlyRegs_updDone (setOtp s o) op
  exact ⟨rfl, rfl, fun k out => (done.regs k out).trans (rd_setOtp s o k), (updState_updDone _ op).trans (updState_setOtp s o), last_updDone _ ho,
    fun a => (sameBytes_of_onlyRegs done a).trans (byteAt_setOtp s o a), fun _ => rfl⟩

include hr served

theorem updCheck_begins (free : updBusy (updState s) = false) : ∃ t, exec (.updCheck q) s = .next t ∧ Accepted t ∧ updState t = udCHECKING ∧
    fld t R.UPD_STAT F.UPD_STAT_LAST = 1 ∧ rd t R.UPD_STAGED = 0 ∧
    t.upd = { s.upd with src := (rd s R.UPD_SRC).toNat, len := (rd s R.UPD_LEN).toNat } ∧ SameRegs [R.UPD_STAT, R.UPD_STAGED] s t ∧
    SameBytes s t ∧ SamePoints s t :=
  ⟨_, updRow_taken hr served (updOp_check free) (by decide) (by decide), entered_keeps (by decide) (by decide) (by decide) (by decide)⟩

theorem updAbandon_abandons (st : updState s = udCHECKED) : ∃ t, exec (.updAbandon q) s = .next t ∧ Accepted t ∧ updState t = udIDLE ∧
    fld t R.UPD_STAT F.UPD_STAT_LAST = 4 ∧ rd t R.UPD_STAGED = 0 ∧ SameRegs [R.UPD_STAT, R.UPD_STAGED] s t ∧ SameBytes s t ∧ SamePoints s t := by
  obtain ⟨done, state, last, staged, -, regs, data⟩ := entered_keeps (s := s) (x := s.upd) (st := udIDLE) (op := 4) (by decide) (by decide)
    (by decide) (by decide)
  exact ⟨_, updRow_taken hr served (updOp_abandon st) (by decide) (by decide), done, state, last, staged, regs, data⟩

theorem updWrite_begins (st : updState s = udCHECKED) (free : s.boot.store = none) : ∃ t, exec (.updWrite q) s = .next t ∧ Accepted t ∧
    updState t = udWRITING ∧ fld t R.UPD_STAT F.UPD_STAT_LAST = 2 ∧ rd t R.UPD_PROG = 0 ∧ t.upd = s.upd ∧
    t.boot = { s.boot with delivered := false } ∧ SameRegs [R.UPD_STAT, R.UPD_STAGED, R.UPD_PROG] s t ∧ SamePoints s t ∧
    ∀ a, a < norBase ∨ norBase + 0x10000 ≤ a → byteAt t a = byteAt s a := by
  have opened := onlyRegs_openImage s s.upd.manifest
  have journal := rangeWritten_journalOpened s s.upd.manifest
  have shown := (onlyRegs_wr (openImage s s.upd.manifest) (ks := [R.UPD_STAT, R.UPD_STAGED, R.UPD_PROG]) (k := R.UPD_PROG) 0 (by simp))
  have entered := (onlyRegs_enterUpd (wr (openImage s s.upd.manifest) R.UPD_PROG 0) udWRITING).mono
    (js := [R.UPD_STAT, R.UPD_STAGED, R.UPD_PROG]) (by simp)
  have done := (onlyRegs_updDone (writeBegun s) 2).mono (js := [R.UPD_STAT, R.UPD_STAGED, R.UPD_PROG]) (by simp)
  have since := ((shown.trans entered).trans done)
  have all := (opened.mono (js := [R.UPD_STAT, R.UPD_STAGED, R.UPD_PROG]) (by simp)).trans since
  refine ⟨_, updRow_taken hr served (updOp_write st free) (by decide) (by decide), rfl, (updState_updDone _ 2).trans (updState_enterUpd _ (by decide)),
    last_updDone _ (by decide), ?_, (upd_of_onlyRegs all).trans journal.upd, (boot_of_onlyRegs all).trans journal.boot, fun k out => ?_, ?_,
    fun a out => ?_⟩
  · exact ((onlyRegs_updDone (writeBegun s) 2).regs _ (by decide)).trans (((onlyRegs_enterUpd _ udWRITING).regs _ (by decide)).trans (rd_wr_same _ _ _))
  · exact (all.regs k out).trans (journal.rd k)
  · exact samePoints_of_points ((points_of_onlyRegs since).trans (points_openImage s s.upd.manifest))
  · exact (sameBytes_of_onlyRegs since a).trans (byteAt_openImage s s.upd.manifest out)

theorem updSvnCommit_commits (free : updBusy (updState s) = false) (st : updState s ≠ udCHECKED) : ∃ t, exec (.updSvnCommit q) s = .next t ∧
    Accepted t ∧ t.otp = { s.otp with svn := max s.otp.svn (min 64 s.boot.fw.svn) } ∧ SameRegs [R.UPD_STAT] s t ∧ updState t = updState s ∧
    fld t R.UPD_STAT F.UPD_STAT_LAST = 5 ∧ SameBytes s t ∧ SamePoints s t :=
  ⟨_, updRow_taken hr served (updOp_svn free st) (by decide) (by decide), fused_keeps (by decide)⟩

theorem updOwnerPk_records (mode : modeNow s = mdCOMMISSION) (free : s.otp.owner = none) (st : updState s = udIDLE)
    (inside : inDram s (rd s R.UPD_SRC).toNat 64 = true) : ∃ t, exec (.updOwnerPk q) s = .next t ∧ Accepted t ∧
      t.otp = { s.otp with owner := some (sha256 (bytesAt s (rd s R.UPD_SRC).toNat 64)) } ∧ SameRegs [R.UPD_STAT] s t ∧ updState t = updState s ∧
      fld t R.UPD_STAT F.UPD_STAT_LAST = 6 ∧ SameBytes s t ∧ SamePoints s t :=
  ⟨_, updRow_taken hr served ((updOp_owner s).trans (ownerRecord_records mode free st inside)) (by decide) (by decide),
    fused_keeps (by decide)⟩

theorem updActivate_resets (due : s.boot.due = none) (st : updState s = udWRITTEN) (role : roleOf s = rlSTANDBY ∨ roleOf s = rlRESOLVING) :
    ∃ u, exec (.updActivate q) s = .next (bootRom (moduleReset u 0x8)) ∧ OnlyRegs [R.UPD_STAT] s u ∧ Accepted u := by
  have done := onlyRegs_updDone s 3
  have powered : modeNow (updDone s 3) ≠ 0 := by
    rw [modeNow, fld_of_sameRegs done.regs (by decide)]
    exact hr.1
  have asks : updDone (resetDue s 0x8) 3 = resetDue (updDone s 3) 0x8 := rfl
  refine ⟨updDone s 3, ?_, done, rfl⟩
  rw [updActivate_taken hr served (updActivate_standby st role), asks]
  exact congrArg Host.Outcome.next (settleReset_resetDue (u := updDone s 3) due powered 0x8)

theorem updActivate_pauses (due : s.boot.due = none) (taken : updActivate s = (activationBegun s, .none)) : ∃ t, exec (.updActivate q) s = .next t ∧
    Accepted t ∧ updState t = udACTIVATING ∧ t.upd = { s.upd with b1 := some s.nextTick } ∧ fld t R.UPD_STAT F.UPD_STAT_LAST = 3 ∧
    SameRegs [R.UPD_STAT, R.UPD_STAGED] s t ∧ SameBytes s t ∧ SamePoints s t := by
  obtain ⟨done, state, last, -, upd, regs, data⟩ := entered_keeps (s := s) (x := { s.upd with b1 := some s.nextTick }) (st := udACTIVATING) (op := 3)
    (by decide) (by decide) (by decide) (by decide)
  exact ⟨_, (updActivate_taken hr served taken).trans (congrArg Host.Outcome.next (settleReset_of_none due)), done, state, upd, last, regs, data⟩

end

end Sys2Proof.Machine
end

section
/-! SUPPORT. The ends of CHECK and WRITE (R493, R495) and warm activation (R500 to R502). -/

namespace Sys2Proof.Machine

open Sys2Proof.Safety

/-! ## The end of a CHECK or a WRITE -/

section
variable (s : State)

/-- The cause that the end of a CHECK or WRITE raises. -/
def updCause (cause : Nat) (c : Code) : Nat := if c = .none then cause else 2

/-- The state before the end raises its cause. -/
def updEntered (st : Nat) (c : Code) : State := enterUpd (setFld s R.UPD_STAT F.UPD_STAT_CODE (codeNum c)) st

theorem updEnd_eq (st cause : Nat) (c : Code) : updEnd s st cause c = raiseBit (updEntered s st c) 0x98 (updCause cause c) := rfl

theorem onlyRegs_updEntered (st : Nat) (c : Code) : OnlyRegs [R.UPD_STAT, R.UPD_STAGED] s (updEntered s st c) :=
  (onlyRegs_setFld s _ _ (by simp)).trans (onlyRegs_enterUpd _ st)

theorem regsAndEvents_updEnd (st cause : Nat) (c : Code) : RegsAndEvents [R.UPD_STAT, R.UPD_STAGED, R.PG_ISR 0x98] s (updEnd s st cause c) :=
  ((onlyRegs_updEntered s st c).mono (by simp)).regsAndEvents.trans (regsAndEvents_raiseBit _ _ (by simp))

theorem rd_updEnd (st cause : Nat) (c : Code) {k : Nat} (isr : k ≠ R.PG_ISR 0x98) (pend : k ≠ R.EVT_PEND 4) :
    rd (updEnd s st cause c) k = rd (updEntered s st c) k := rd_raiseBit_ne _ isr pend

theorem stat_updEnd (st cause : Nat) (c : Code) (f : Fld) : fld (updEnd s st cause c) R.UPD_STAT f = fld (updEntered s st c) R.UPD_STAT f :=
  congrArg (bits · f.hi f.lo) (rd_updEnd s st cause c (by decide) (by decide))

theorem updState_updEnd {st : Nat} (hs : st < 8) (cause : Nat) (c : Code) : updState (updEnd s st cause c) = st :=
  (stat_updEnd s st cause c _).trans (updState_enterUpd _ hs)

theorem code_updEnd (st cause : Nat) (c : Code) : fld (updEnd s st cause c) R.UPD_STAT F.UPD_STAT_CODE = codeNum c := by
  refine (stat_updEnd s st cause c _).trans ((code_enterUpd _ st).trans ((fld_setFld_same s _ _ _ (by decide) (by decide)).trans ?_))
  exact Nat.mod_eq_of_lt (codeNum_lt c)

theorem jopen_updEnd (st cause : Nat) (c : Code) :
    fld (updEnd s st cause c) R.UPD_STAT F.UPD_STAT_JOPEN = fld s R.UPD_STAT F.UPD_STAT_JOPEN :=
  (stat_updEnd s st cause c _).trans ((jopen_enterUpd _ st).trans (fld_setFld_other s _ _ _ _ (by decide) (by decide) (by decide)))

theorem isr_updEnd (st : Nat) {cause : Nat} (hc : cause < 32) (c : Code) : (rd (updEnd s st cause c) (R.PG_ISR 0x98)).getLsbD (updCause cause c) = true := by
  refine raiseBit_isr_bit _ (by decide) ?_
  split
  · exact hc
  · decide

theorem upd_updEnd (st cause : Nat) (c : Code) : (updEnd s st cause c).upd = s.upd := by rw [(regsAndEvents_updEnd s st cause c).rest]

theorem samePlant_updEnd (st cause : Nat) (c : Code) : SamePlant s (updEnd s st cause c) :=
  samePlant_of_plantData (plantData_of_regsAndEvents (regsAndEvents_updEnd s st cause c))

end

/-! ## CHECK (R493) -/

section
variable (s : State)

/-- The code of the first check that a package fails. -/
def checkCode : Code :=
  let c := if inDram s s.upd.src s.upd.len = false ∨ s.upd.len < 0x1A0 then Code.illegalValue else packCheck s s.upd.src s.upd.len true
  if c = .none ∧ loadN s (s.upd.src + 8) 4 ≠ s.upd.len then .illegalValue else c

/-- A package has passed its checks: its manifest is kept. -/
def checkPassed : State := updEnd (setUpd s { s.upd with manifest := bytesAt s s.upd.src 0x1A0 }) udCHECKED 0 .none

/-- A package has failed its checks. -/
def checkFailed : State := updEnd (setUpd s { s.upd with manifest := [] }) udIDLE 0 (checkCode s)

variable {s}

theorem checkComplete_none (st : updState s ≠ udCHECKING) : checkComplete s = s := if_pos st

theorem checkComplete_checks (st : updState s = udCHECKING) :
    checkComplete s = if checkCode s = .none then checkPassed s else checkFailed s := by
  have checked : (if (!inDram s s.upd.src s.upd.len) = true ∨ s.upd.len < 0x1A0 then Code.illegalValue else packCheck s s.upd.src s.upd.len true) =
      if inDram s s.upd.src s.upd.len = false ∨ s.upd.len < 0x1A0 then Code.illegalValue else packCheck s s.upd.src s.upd.len true := by
    simp only [Bool.not_eq_true']
  unfold checkComplete
  rw [if_neg (not_not_intro st)]
  dsimp only
  rw [checked]
  rfl

theorem sliceD_bytesAt {n i k : Nat} (h : i + k ≤ n) (s : State) (a : Nat) : sliceD 0 (bytesAt s a n) i k = bytesAt s (a + i) k := by
  induction k generalizing i with
  | zero => rfl
  | succ k ih =>
    rw [sliceD, bytesAt, ih (by omega), Nat.add_assoc]
    congr 1
    have inside : i < n := by omega
    rw [List.getD_eq_getElem _ _ (by rwa [length_bytesAt]), getElem_bytesAt]
    exact inside

theorem checkPassed_shows (s : State) : fld (checkPassed s) R.UPD_STAT F.UPD_STAT_CODE = 0 ∧ SameBytes s (checkPassed s) ∧ SamePoints s (checkPassed s) ∧
    updState (checkPassed s) = udCHECKED ∧ (checkPassed s).upd = { s.upd with manifest := bytesAt s s.upd.src 0x1A0 } ∧
    (rd (checkPassed s) (R.PG_ISR 0x98)).getLsbD 0 = true ∧
    rd (checkPassed s) R.UPD_STAGED = BitVec.ofNat 32 (loadN s (s.upd.src + 0xC) 4) := by
  obtain ⟨bytes, points, -⟩ := samePlant_updEnd (setUpd s { s.upd with manifest := bytesAt s s.upd.src 0x1A0 }) udCHECKED 0 .none
  refine ⟨code_updEnd _ _ _ _, fun a => (bytes a).trans (byteAt_setUpd _ _ a), fun n => (points n).trans (samePoints_setUpd _ _ n),
    updState_updEnd _ (by decide) _ _, upd_updEnd _ _ _ _, isr_updEnd _ _ (by decide) .none, ?_⟩
  refine (rd_updEnd _ _ _ _ (by decide) (by decide)).trans ((staged_enterUpd_CHECKED _).trans ?_)
  refine congrArg (fun b => BitVec.ofNat 32 (leNat b)) ?_
  exact sliceD_bytesAt (by decide) s s.upd.src

theorem checkFailed_shows (bad : checkCode s ≠ .none) : fld (checkFailed s) R.UPD_STAT F.UPD_STAT_CODE = codeNum (checkCode s) ∧
    SameBytes s (checkFailed s) ∧ SamePoints s (checkFailed s) ∧ updState (checkFailed s) = udIDLE ∧
    (checkFailed s).upd = { s.upd with manifest := [] } ∧ (rd (checkFailed s) (R.PG_ISR 0x98)).getLsbD 2 = true ∧
    rd (checkFailed s) R.UPD_STAGED = 0 := by
  obtain ⟨bytes, points, -⟩ := samePlant_updEnd (setUpd s { s.upd with manifest := [] }) udIDLE 0 (checkCode s)
  have isr := isr_updEnd (setUpd s { s.upd with manifest := [] }) udIDLE (cause := 0) (by decide) (checkCode s)
  rw [updCause, if_neg bad] at isr
  exact ⟨code_updEnd _ _ _ _, fun a => (bytes a).trans (byteAt_setUpd _ _ a), fun n => (points n).trans (samePoints_setUpd _ _ n),
    updState_updEnd _ (by decide) _ _, upd_updEnd _ _ _ _, isr,
    (rd_updEnd _ _ _ _ (by decide) (by decide)).trans (staged_enterUpd _ (by decide) (by decide))⟩

theorem checkComplete_ends (st : updState s = udCHECKING) : ∃ t, exec .checkComplete s = .next t ∧
    fld t R.UPD_STAT F.UPD_STAT_CODE = codeNum (checkCode s) ∧ (SameBytes s t ∧ SamePoints s t) ∧
    (checkCode s = .none → updState t = udCHECKED ∧ t.upd = { s.upd with manifest := bytesAt s s.upd.src 0x1A0 } ∧
      (rd t (R.PG_ISR 0x98)).getLsbD 0 = true ∧ rd t R.UPD_STAGED = BitVec.ofNat 32 (loadN s (s.upd.src + 0xC) 4)) ∧
    (checkCode s ≠ .none → updState t = udIDLE ∧ t.upd = { s.upd with manifest := [] } ∧ (rd t (R.PG_ISR 0x98)).getLsbD 2 = true ∧
      rd t R.UPD_STAGED = 0) := by
  refine ⟨_, congrArg Host.Outcome.next (checkComplete_checks st), ?_⟩
  by_cases good : checkCode s = .none
  · obtain ⟨code, bytes, points, shown⟩ := checkPassed_shows s
    rw [if_pos good, good]
    exact ⟨code, ⟨bytes, points⟩, fun _ => shown, fun bad => absurd rfl bad⟩
  · obtain ⟨code, bytes, points, shown⟩ := checkFailed_shows good
    rw [if_neg good]
    exact ⟨code, ⟨bytes, points⟩, fun h => absurd h good, fun _ => shown⟩

end

/-! ## WRITE (R495) -/

section
variable {s : State}

/-- The image that a WRITE stores. -/
abbrev writtenImage (s : State) : List Byte := packageImage s s.upd.manifest s.upd.src s.upd.len

/-- A WRITE ends with what the writer left and its code. -/
def writeLeft (u : State) (c : Code) : State :=
  updEnd (wr u R.UPD_PROG (BitVec.ofNat 32 ((u.upd.len + 4095) / 4096 * 4096))) (if c = .none then udWRITTEN else udIDLE) 1 c

theorem writeComplete_none {ok : Bool} (idle : updState s ≠ udWRITING ∨ s.upd.manifest = []) : writeComplete s ok = s := if_pos idle

theorem writeComplete_closes (st : updState s = udWRITING) (kept : s.upd.manifest ≠ []) {ok : Bool} {u : State} {c : Code}
    (closed : closeImage s s.upd.manifest s.upd.src s.upd.len ok = (u, c)) : exec (.writeComplete ok) s = .next (writeLeft u c) := by
  refine congrArg Host.Outcome.next ?_
  unfold writeComplete
  rw [if_neg (not_or.mpr ⟨not_not_intro st, kept⟩), closed]
  rfl

theorem onlyRegs_progShown (u : State) (v : Word) : OnlyRegs [R.UPD_PROG] u (wr u R.UPD_PROG v) := onlyRegs_wr u v List.mem_cons_self

theorem samePlant_writeLeft (u : State) (c : Code) : SamePlant u (writeLeft u c) := by
  obtain ⟨bytes, points, moulds⟩ := samePlant_updEnd (wr u R.UPD_PROG (BitVec.ofNat 32 ((u.upd.len + 4095) / 4096 * 4096)))
    (if c = .none then udWRITTEN else udIDLE) 1 c
  have shown := onlyRegs_progShown u (BitVec.ofNat 32 ((u.upd.len + 4095) / 4096 * 4096))
  exact ⟨fun a => (bytes a).trans (sameBytes_of_onlyRegs shown a), fun n => (points n).trans (samePoints_of_points (points_of_onlyRegs shown) n),
    moulds⟩

theorem prog_writeLeft (u : State) (c : Code) : rd (writeLeft u c) R.UPD_PROG = BitVec.ofNat 32 ((u.upd.len + 4095) / 4096 * 4096) :=
  (rd_updEnd _ _ _ _ (by decide) (by decide)).trans (((onlyRegs_updEntered _ _ _).regs _ (by decide)).trans (rd_wr_same _ _ _))

theorem writeLeft_failed (u : State) : updState (writeLeft u .auth) = udIDLE ∧ fld (writeLeft u .auth) R.UPD_STAT F.UPD_STAT_CODE = codeNum .auth ∧
    (rd (writeLeft u .auth) (R.PG_ISR 0x98)).getLsbD 2 = true ∧
    flag (writeLeft u .auth) R.UPD_STAT F.UPD_STAT_JOPEN = flag u R.UPD_STAT F.UPD_STAT_JOPEN :=
  ⟨updState_updEnd _ (by decide) _ _, code_updEnd _ _ _ _, isr_updEnd _ _ (by decide) .auth,
    congrArg (· != 0) ((jopen_updEnd _ _ _ _).trans (fld_wr_ne u _ _ (by decide)))⟩

theorem writeLeft_done (u : State) : updState (writeLeft u .none) = udWRITTEN ∧ fld (writeLeft u .none) R.UPD_STAT F.UPD_STAT_CODE = 0 ∧
    (rd (writeLeft u .none) (R.PG_ISR 0x98)).getLsbD 1 = true :=
  ⟨updState_updEnd _ (by decide) _ _, code_updEnd _ _ _ _, isr_updEnd _ _ (by decide) .none⟩

theorem writeComplete_torn (st : updState s = udWRITING) (kept : s.upd.manifest ≠ []) : ∃ t, exec (.writeComplete false) s = .next t ∧
    updState t = udIDLE ∧ fld t R.UPD_STAT F.UPD_STAT_CODE = codeNum .auth ∧ (rd t (R.PG_ISR 0x98)).getLsbD 2 = true ∧ SamePoints s t ∧
    ∀ a, a < imageAt ∨ imageAt + s.upd.len ≤ a → byteAt t a = byteAt s a := by
  have torn := rangeWritten_tornNor s 0x10000 s.upd.len
  obtain ⟨state, code, isr, -⟩ := writeLeft_failed (tornNor s 0x10000 s.upd.len)
  obtain ⟨bytes, points, -⟩ := samePlant_writeLeft (tornNor s 0x10000 s.upd.len) .auth
  exact ⟨_, writeComplete_closes st kept (closeImage_torn s _ _ _), state, code, isr, fun n => (points n).trans (torn.samePoints n),
    fun a out => (bytes a).trans (torn.bytes a out)⟩

theorem upd_imageClosed (s : State) (manifest : List Byte) (src total : Nat) : (imageClosed s manifest src total).upd = s.upd := by
  unfold imageClosed
  rw [upd_of_onlyRegs (onlyRegs_showJournal _), (rangeWritten_journalClosed manifest _).upd, (rangeWritten_storeNor s 0x10000 _).upd]

theorem writeComplete_stores (st : updState s = udWRITING) (kept : s.upd.manifest ≠ []) : ∃ t, exec (.writeComplete true) s = .next t ∧
    bytesAt t imageAt (writtenImage s).length = writtenImage s ∧ SamePoints s t ∧
    rd t R.UPD_PROG = BitVec.ofNat 32 ((s.upd.len + 4095) / 4096 * 4096) ∧
    (packCheck (storeNor s 0x10000 (writtenImage s)) imageAt 16711680 false = .none →
      updState t = udWRITTEN ∧ fld t R.UPD_STAT F.UPD_STAT_CODE = 0 ∧ (rd t (R.PG_ISR 0x98)).getLsbD 1 = true) ∧
    (packCheck (storeNor s 0x10000 (writtenImage s)) imageAt 16711680 false ≠ .none →
      updState t = udIDLE ∧ fld t R.UPD_STAT F.UPD_STAT_CODE = codeNum .auth ∧ (rd t (R.PG_ISR 0x98)).getLsbD 2 = true ∧
      flag t R.UPD_STAT F.UPD_STAT_JOPEN = flag s R.UPD_STAT F.UPD_STAT_JOPEN) := by
  by_cases good : packCheck (storeNor s 0x10000 (writtenImage s)) imageAt 16711680 false = .none
  · obtain ⟨bytes, points, -⟩ := samePlant_writeLeft (imageClosed s s.upd.manifest s.upd.src s.upd.len) .none
    refine ⟨_, writeComplete_closes st kept (closeImage_done s _ _ _ good), ?_, fun n => (points n).trans (samePoints_of_points (points_imageClosed s _ _ _) n),
      (prog_writeLeft _ _).trans (by rw [upd_imageClosed]), fun _ => writeLeft_done _, fun bad => absurd good bad⟩
    exact (bytesAt_congr fun b _ _ => bytes b).trans (bytesAt_imageClosed s _ _ _)
  · obtain ⟨state, code, isr, jopen⟩ := writeLeft_failed (storeNor s 0x10000 (writtenImage s))
    obtain ⟨bytes, points, -⟩ := samePlant_writeLeft (storeNor s 0x10000 (writtenImage s)) .auth
    have stored := rangeWritten_storeNor s 0x10000 (writtenImage s)
    refine ⟨_, writeComplete_closes st kept (closeImage_failed s _ _ _ good), ?_, fun n => (points n).trans (samePoints_of_points (points_stored s _) n),
      (prog_writeLeft _ _).trans (by rw [stored.upd]), fun h => absurd h good,
      fun _ => ⟨state, code, isr, jopen.trans (congrArg (· != 0) (stored.fld _ _))⟩⟩
    exact (bytesAt_congr fun b _ _ => bytes b).trans (bytesAt_storedImage s _ _ _)

end

/-! ## Warm activation (R500 to R502) -/

theorem aside_stat {ps : List Nat} {s t : State} (h : Aside ps s t) (page : 0x98 ∈ ps) (f : Fld) : fld t R.UPD_STAT f = fld s R.UPD_STAT f :=
  h.fld (k := R.UPD_STAT) page f

section
variable {s : State}

/-- The stations get HOLD frames. -/
def stationsHeld (s : State) : State := { s with stationHold := true }

theorem updState_stationsHeld (s : State) : updState (stationsHeld s) = updState s := rfl

/-- A hold begins at an instant: the cycles end, and the meters keep their record. -/
def holdBegun (s : State) (t : DWord) : State := saveRecord (meterSnapshot (stationsHeld (advanceTo s t)))

theorem holdBegun_shows (s : State) (t : DWord) :
    (holdBegun s t).stationHold = true ∧ updState (holdBegun s t) = updState s ∧ t ≤ (holdBegun s t).now := by
  have left := (aside_meterSnapshot (stationsHeld (advanceTo s t))).trans (aside_saveRecord _)
  refine ⟨left.stationHold, (aside_stat left (by decide) _).trans ((updState_stationsHeld _).trans (fld_advanceTo s t _ _)), ?_⟩
  rw [holdBegun, left.now]
  exact (le_advanceTo s t).2

theorem activationHold_due {b : Nat} (due : s.upd.b1 = some b) : activationHold s =
    if updState s ≠ udACTIVATING ∨ s.stationHold ∨ s.paused then s else holdBegun s (BitVec.ofNat 64 (b * 100000)) := by
  simp only [activationHold, due, holdBegun, stationsHeld]

theorem activationHold_none (undue : s.upd.b1 = none) : activationHold s = s := by simp only [activationHold, undue]

theorem activationHold_waits (idle : s.upd.b1 = none ∨ updState s ≠ udACTIVATING ∨ s.paused = true) : activationHold s = s := by
  rcases due : s.upd.b1 with _ | b
  · exact activationHold_none due
  · rw [due] at idle
    rw [activationHold_due due]
    exact if_pos (idle.resolve_left (Option.some_ne_none b) |>.imp_right .inr)

theorem activationHold_held {b : Nat} (due : s.upd.b1 = some b) (held : s.stationHold = true) : activationHold s = s := by
  rw [activationHold_due due]
  exact if_pos (.inr (.inl held))

theorem activationHold_holds {b : Nat} (due : s.upd.b1 = some b) (st : updState s = udACTIVATING) (running : s.paused = false)
    (free : s.stationHold = false) : ∃ t, exec .activationHold s = .next t ∧ t.stationHold = true ∧ updState t = updState s ∧
      BitVec.ofNat 64 (b * 100000) ≤ t.now := by
  have holds : activationHold s = holdBegun s (BitVec.ofNat 64 (b * 100000)) := by
    rw [activationHold_due due, if_neg]
    simp [st, running, free]
  exact ⟨_, congrArg Host.Outcome.next holds, holdBegun_shows s _⟩

/-! ### The pause -/

/-- What runs in the Crucible and its engine completes. -/
def pauseDrained (s : State) : State := cryComplete (cruComplete s true)

/-- The engines of a module stop. -/
def enginesStopped (s : State) : State := { s with paused := true, stationHold := true, upd := { s.upd with pauseAt := s.now } }

theorem rd_enginesStopped (s : State) (k : Nat) : rd (enginesStopped s) k = rd s k := rfl
theorem crypto_enginesStopped (s : State) : (enginesStopped s).crypto = s.crypto := rfl
theorem own_enginesStopped (s : State) : activation (enginesStopped s) = (s.now, { s.upd with pauseAt := s.now }, true, true, s.boot, s.rtc, control s) := rfl

/-- The restarted engines hold no lock, and the PTP servo stands still. -/
def pauseFreed (s : State) : State := forAll breakLocks restarted s
def pauseServo (s : State) : State := if ptpOn s then setPtpState s ptDISABLED else s

/-- A pause begins. -/
def pauseBegun (s : State) : State := refreshMeters (refreshLoops (pauseServo (pauseFreed (enginesStopped (pauseDrained s)))))

theorem activationPauseStart_due {b : Nat} (due : s.upd.b1 = some b) : activationPauseStart s =
    if updState s ≠ udACTIVATING ∨ s.paused then s else pauseBegun (advanceTo s (BitVec.ofNat 64 ((b + 3) * 100000))) := by
  generalize at_ : BitVec.ofNat 64 ((b + 3) * 100000) = t
  simp only [activationPauseStart, due, at_]
  rfl

theorem activationPauseStart_waits (idle : s.upd.b1 = none ∨ updState s ≠ udACTIVATING ∨ s.paused = true) : activationPauseStart s = s := by
  rcases due : s.upd.b1 with _ | b
  · simp only [activationPauseStart, due]
  · rw [due] at idle
    rw [activationPauseStart_due due]
    exact if_pos (idle.resolve_left (Option.some_ne_none b))

theorem aside_pauseDrained (s : State) : Aside keptPages s (pauseDrained s) := (cruComplete_ends s true).1.trans (cryComplete_ends _).1

theorem crypto_pauseDrained (s : State) : (pauseDrained s).crypto.cru = none ∧ (pauseDrained s).crypto.cry = none := by
  unfold pauseDrained
  rw [(cryComplete_ends _).2]
  exact ⟨(cruComplete_ends s true).2, rfl⟩

theorem rd_stopped (s : State) {k : Nat} (page : keyPage k ∈ keptPages) : rd (enginesStopped (pauseDrained s)) k = rd s k :=
  (rd_enginesStopped _ k).trans ((aside_pauseDrained s).regs k page)

/-- The servo's halt touches its own page. -/
theorem pauseServo_keeps (s : State) : activation (pauseServo s) = activation s ∧ (pauseServo s).crypto = s.crypto ∧
    ∀ k, keyPage k ≠ 0x7F → rd (pauseServo s) k = rd s k := by
  unfold pauseServo
  split
  · exact ⟨rfl, rfl, fun k page => rd_setFld_ne s _ _ (fun e => page (e ▸ rfl))⟩
  · exact ⟨rfl, rfl, fun _ _ => rfl⟩

theorem crypto_refresh (s : State) : (refreshMeters (refreshLoops s)).crypto = s.crypto := by
  have circuit (u : State) (c : Nat) : (refreshCircuit u c).crypto = u.crypto := by
    unfold refreshCircuit
    dsimp only
    split
    · rfl
    · split
      · exact (raiseBit_crypto _ _ _).trans rfl
      · rfl
  have loop (u : State) (n : Nat) : (refreshLoop u n).crypto = u.crypto := by
    unfold refreshLoop
    dsimp only
    split
    · rfl
    · rfl
  have port (u : State) (p : Nat) : (refreshPortMeter u p).crypto = u.crypto := setFld_crypto u _ _ _
  unfold refreshMeters refreshLoops
  exact ((forAll_keeps (view := State.crypto) (fun u p _ => port u p) _).trans
    (forAll_keeps (view := State.crypto) (fun u c _ => circuit u c) _)).trans (forAll_keeps (view := State.crypto) (fun u n _ => loop u n) s)

theorem aside_refresh (s : State) : Aside keptPages s (refreshMeters (refreshLoops s)) := (aside_refreshLoops s).trans (aside_refreshMeters _)

theorem pauseBegun_stops (s : State) : (pauseBegun s).paused = true ∧ (pauseBegun s).stationHold = true ∧
    (pauseBegun s).upd.pauseAt = (pauseBegun s).now ∧ (pauseBegun s).now = s.now ∧ (pauseBegun s).crypto.cru = none ∧
    (pauseBegun s).crypto.cry = none := by
  have own : activation (pauseBegun s) = activation (enginesStopped (pauseDrained s)) :=
    (aside_refresh _).own.trans ((pauseServo_keeps _).1.trans (aside_breakAll _).own)
  rw [own_enginesStopped, activation] at own
  simp only [Prod.mk.injEq] at own
  obtain ⟨now, upd, paused, held, -⟩ := own
  have crypto : (pauseBegun s).crypto = (pauseDrained s).crypto :=
    (crypto_refresh _).trans ((pauseServo_keeps _).2.1.trans ((crypto_breakAll _).trans (crypto_enginesStopped _)))
  rw [paused, held, upd, crypto, now]
  exact ⟨rfl, rfl, rfl, (aside_pauseDrained s).now, crypto_pauseDrained s⟩

theorem rd_pauseFreed (s : State) {k : Nat} (page : keyPage k = 0x7F) : rd (pauseFreed (enginesStopped (pauseDrained s))) k = rd s k :=
  ((aside_breakAll _).regs k (by rw [page]; decide)).trans (rd_stopped s (by rw [page]; decide))

theorem pauseBegun_servo {s : State} (on : ptpOn s = true) : ptpState (pauseBegun s) = ptDISABLED := by
  have still : ptpOn (pauseFreed (enginesStopped (pauseDrained s))) = true := by
    rw [← on, ptpOn, ptpOn, pageOn, pageOn, fld, fld, rd_pauseFreed s (k := R.PG_STATE 0x7F) (by decide)]
  refine ((aside_refresh _).fld (k := R.PTP_STAT) (by decide) _).trans ?_
  rw [pauseServo, if_pos still]
  exact fld_setFld_same _ _ _ _ (by decide) (by decide)

theorem pauseBegun_locks {s : State} {n : Nat} (hn : n < 64) (held : lockHeld s n = true) (owner : fld s (R.LCK_STAT n) F.LCK_STAT_REQ ∈ restarted) :
    lockHeld (pauseBegun s) n = false ∧ flag (pauseBegun s) (R.LCK_STAT n) F.LCK_STAT_BROKEN = true := by
  have page : keyPage (R.LCK_STAT n) = 0x0A := keyPage_regKey (by decide) (by omega) 0
  have before : rd (enginesStopped (pauseDrained s)) (R.LCK_STAT n) = rd s (R.LCK_STAT n) := rd_stopped s (by rw [page]; decide)
  have after : rd (pauseBegun s) (R.LCK_STAT n) = rd (pauseFreed (enginesStopped (pauseDrained s))) (R.LCK_STAT n) :=
    ((aside_refresh _).regs _ (by rw [page]; decide)).trans ((pauseServo_keeps _).2.2 _ (by rw [page]; decide))
  have broken := lock_breakAll (s := enginesStopped (pauseDrained s)) hn (by rw [← held, lockHeld, lockHeld, flag, flag, fld, fld, before])
    (by rwa [fld, before])
  rwa [lockHeld, flag, flag, fld, fld, after]

theorem activationPauseStart_pauses {b : Nat} (due : s.upd.b1 = some b) (st : updState s = udACTIVATING) (running : s.paused = false) :
    ∃ t, exec .activationPauseStart s = .next t ∧ t.paused = true ∧ t.stationHold = true ∧ t.upd.pauseAt = t.now ∧
      BitVec.ofNat 64 ((b + 3) * 100000) ≤ t.now ∧ t.crypto.cru = none ∧ t.crypto.cry = none ∧ (ptpOn s = true → ptpState t = ptDISABLED) ∧
      ∀ n : Fin 64, lockHeld s n.val = true → fld s (R.LCK_STAT n.val) F.LCK_STAT_REQ ∈ restarted → lockHeld t n.val = false ∧
        flag t (R.LCK_STAT n.val) F.LCK_STAT_BROKEN = true := by
  have begins : activationPauseStart s = pauseBegun (advanceTo s (BitVec.ofNat 64 ((b + 3) * 100000))) := by
    rw [activationPauseStart_due due, if_neg]
    simp [st, running]
  have fields (k : Nat) (f : Fld) (t : DWord) : fld (advanceTo s t) k f = fld s k f := fld_advanceTo s t k f
  generalize BitVec.ofNat 64 ((b + 3) * 100000) = at_ at begins ⊢
  obtain ⟨paused, held, pauseAt, now, cru, cry⟩ := pauseBegun_stops (advanceTo s at_)
  refine ⟨_, congrArg Host.Outcome.next begins, paused, held, pauseAt, ?_, cru, cry, fun on => pauseBegun_servo ?_, fun n held owner =>
    pauseBegun_locks n.isLt ?_ ?_⟩
  · rw [now]
    exact (le_advanceTo s at_).2
  · rwa [ptpOn, pageOn, fields]
  · rwa [lockHeld, flag, fields]
  · rwa [fields]

end

end Sys2Proof.Machine
end

section
/-! SUPPORT. The end of an activation's pause (R500, R501). -/

namespace Sys2Proof.Machine

open Sys2Proof.Safety

section
variable (s : State)

theorem own_of_onlyRegs {ks : List Nat} {s t : State} (h : OnlyRegs ks s t) : activation t = activation s := by
  rw [h.rest]
  rfl

/-- The pause is over: no hold, no boundary. -/
def pauseLifted : State := { s with paused := false, stationHold := false, upd := { s.upd with b1 := none } }

theorem rd_pauseLifted (k : Nat) : rd (pauseLifted s) k = rd s k := rfl
theorem own_pauseLifted : activation (pauseLifted s) = (s.now, { s.upd with b1 := none }, false, false, s.boot, s.rtc, control s) := rfl

/-- The rings, loops and meters go on. -/
def plantResumed : State := resumeRings (refreshMeters (refreshLoops (pauseLifted s)))

/-- The servo listens again. -/
def servoResumed : State := if ptpOn s then setPtpState s ptLISTENING else s

theorem resumeAll_eq : resumeAll s = servoResumed (plantResumed s) := rfl

theorem aside_plantResumed : Aside keptPages (pauseLifted s) (plantResumed s) := (aside_refresh _).trans (aside_resumeRings _)

theorem servoResumed_keeps : activation (servoResumed s) = activation s ∧ ∀ k, keyPage k ≠ 0x7F → rd (servoResumed s) k = rd s k := by
  unfold servoResumed
  split
  · exact ⟨rfl, fun k page => rd_setFld_ne s _ _ (fun e => page (e ▸ rfl))⟩
  · exact ⟨rfl, fun _ _ => rfl⟩

theorem own_resumeAll : activation (resumeAll s) = (s.now, { s.upd with b1 := none }, false, false, s.boot, s.rtc, control s) := by
  rw [resumeAll_eq, (servoResumed_keeps _).1, (aside_plantResumed s).own, own_pauseLifted]

theorem rd_resumeAll {k : Nat} (page : keyPage k = 0x98) : rd (resumeAll s) k = rd s k := by
  have other : keyPage k ≠ 0x7F := by rw [page]; decide
  rw [resumeAll_eq, (servoResumed_keeps _).2 k other, (aside_plantResumed s).regs k (by rw [page]; decide), rd_pauseLifted]

theorem resumeAll_servo {s : State} (on : ptpOn s = true) : ptpState (resumeAll s) = ptLISTENING := by
  have still : ptpOn (plantResumed s) = true := by
    rw [← on, ptpOn, ptpOn, pageOn, pageOn, fld, fld, (aside_plantResumed s).regs (R.PG_STATE 0x7F) (by decide), rd_pauseLifted]
  rw [resumeAll_eq, servoResumed, if_pos still]
  exact fld_setFld_same _ _ _ _ (by decide) (by decide)

theorem runFirmware_keeps (f : Firmware) : (runFirmware s f).now = s.now ∧ (runFirmware s f).upd = s.upd ∧
    (runFirmware s f).boot.due = s.boot.due ∧ rd (runFirmware s f) R.UPD_RUN = f.release ∧
    ∀ k, k ≠ R.UPD_RUN → k ≠ R.UPD_SVN → rd (runFirmware s f) k = rd s k := by
  have shown (u : State) (v : Nat) : rd (setFld (wr u R.UPD_RUN f.release) R.UPD_SVN F.UPD_SVN_RUN v) R.UPD_RUN = f.release :=
    (rd_setFld_ne _ _ _ (by decide)).trans (rd_wr_same _ _ _)
  exact ⟨rfl, rfl, rfl, shown _ _, fun k run svn => (rd_setFld_ne _ _ _ svn).trans (rd_wr_ne _ _ run)⟩

/-- The module goes on with a firmware, IDLE. -/
def activationDone (f : Firmware) : State := enterUpd (resumeAll (runFirmware s f)) udIDLE

theorem activationDone_shows (f : Firmware) : (activationDone s f).now = s.now ∧ (activationDone s f).paused = false ∧
    (activationDone s f).stationHold = false ∧ (activationDone s f).upd = { s.upd with b1 := none } ∧ (activationDone s f).boot.due = s.boot.due ∧
    updState (activationDone s f) = udIDLE ∧ rd (activationDone s f) R.UPD_RUN = f.release ∧
    fld (activationDone s f) R.UPD_ACT F.UPD_ACT_COUNT = fld s R.UPD_ACT F.UPD_ACT_COUNT ∧
    (ptpOn s = true → ptpState (activationDone s f) = ptLISTENING) := by
  obtain ⟨now, upd, due, release, regs⟩ := runFirmware_keeps s f
  have entered := onlyRegs_enterUpd (resumeAll (runFirmware s f)) udIDLE
  have own : activation (activationDone s f) = activation (resumeAll (runFirmware s f)) := own_of_onlyRegs entered
  rw [own_resumeAll, activation] at own
  simp only [Prod.mk.injEq] at own
  obtain ⟨now', upd', paused, held, boot, -⟩ := own
  have act : rd (activationDone s f) R.UPD_ACT = rd s R.UPD_ACT :=
    (entered.regs _ (by decide)).trans ((rd_resumeAll _ (by decide)).trans (regs _ (by decide) (by decide)))
  refine ⟨now'.trans now, paused, held, upd'.trans (by rw [upd]), (congrArg Boot.due boot).trans due, updState_enterUpd _ (by decide),
    (entered.regs _ (by decide)).trans ((rd_resumeAll _ (by decide)).trans release), by rw [fld, act, fld], fun on => ?_⟩
  have still : ptpOn (runFirmware s f) = true := by rw [← on, ptpOn, ptpOn, pageOn, pageOn, fld, fld, regs _ (by decide) (by decide)]
  exact (fld_of_sameRegs entered.regs (by decide) _).trans (resumeAll_servo still)

/-- The activation is counted, with its pause. -/
def activationCounted (v : Nat) : State :=
  raiseBit (bumpFld (setFld s R.UPD_ACT F.UPD_ACT_PAUSE_MS v) R.UPD_ACT F.UPD_ACT_COUNT 1) 0x98 3

theorem rd_activationCounted (v : Nat) {k : Nat} (act : k ≠ R.UPD_ACT) (isr : k ≠ R.PG_ISR 0x98) (pend : k ≠ R.EVT_PEND 4) :
    rd (activationCounted s v) k = rd s k :=
  (rd_raiseBit_ne _ isr pend).trans ((rd_setFld_ne _ _ _ act).trans (rd_setFld_ne _ _ _ act))

theorem own_activationCounted (v : Nat) : activation (activationCounted s v) = activation s := by
  have event := regsAndEvents_raiseBit (ks := [R.PG_ISR 0x98]) (bumpFld (setFld s R.UPD_ACT F.UPD_ACT_PAUSE_MS v) R.UPD_ACT F.UPD_ACT_COUNT 1)
    3 List.mem_cons_self
  rw [activationCounted, event.rest]
  rfl

theorem act_activationCounted (v : Nat) (f : Fld) : fld (activationCounted s v) R.UPD_ACT f =
    fld (bumpFld (setFld s R.UPD_ACT F.UPD_ACT_PAUSE_MS v) R.UPD_ACT F.UPD_ACT_COUNT 1) R.UPD_ACT f :=
  congrArg (bits · f.hi f.lo) (rd_raiseBit_ne _ (by decide) (by decide))

theorem ms_activationCounted {v : Nat} (hv : v ≤ 0xFFFF) : fld (activationCounted s v) R.UPD_ACT F.UPD_ACT_PAUSE_MS = v := by
  refine (act_activationCounted s v _).trans ((fld_setFld_other _ _ _ _ _ (by decide) (by decide) (by decide)).trans
    ((fld_setFld_same s _ _ _ (by decide) (by decide)).trans ?_))
  exact Nat.mod_eq_of_lt (Nat.lt_succ_of_le hv)

theorem satAdd_one_16 (n : Nat) : satAdd 16 n 1 % 2 ^ 16 = min 0xFFFF (n + 1) := by
  unfold satAdd
  split <;> omega

theorem count_activationCounted (v : Nat) : fld (activationCounted s v) R.UPD_ACT F.UPD_ACT_COUNT =
    min 0xFFFF (fld s R.UPD_ACT F.UPD_ACT_COUNT + 1) := by
  have before : fld (setFld s R.UPD_ACT F.UPD_ACT_PAUSE_MS v) R.UPD_ACT F.UPD_ACT_COUNT = fld s R.UPD_ACT F.UPD_ACT_COUNT :=
    fld_setFld_other _ _ _ _ _ (by decide) (by decide) (by decide)
  refine (act_activationCounted s v _).trans ((fld_setFld_same _ _ _ _ (by decide) (by decide)).trans ?_)
  rw [before]
  exact satAdd_one_16 _

end

section
variable {s : State} {ok : Bool} {k : Nat}

theorem activationPauseEnd_none (idle : s.paused = false ∨ updState s ≠ udACTIVATING) : activationPauseEnd s ok k = s :=
  if_pos (by simpa using idle)

/-- The tick at which a pause ends. -/
def pauseEndAt (s : State) (k : Nat) : DWord :=
  BitVec.ofNat 64 ((max s.now.toNat (s.upd.pauseAt.toNat + min k 40000000) + 99999) / 100000 * 100000)

/-- A pause has ended. -/
def pauseEnded (s : State) (t : DWord) : State :=
  let u := activationDone (advanceTo s t) (fwAt (advanceTo s t) imageAt)
  activationCounted u (min 0xFFFF ((u.now - u.upd.pauseAt).toNat / 100000))

theorem activationPauseEnd_paused (paused : s.paused = true) (st : updState s = udACTIVATING) : activationPauseEnd s ok k =
    if !ok ∨ imageCheck s false ≠ .none then resetDue { s with paused := false } 0x8 else pauseEnded s (pauseEndAt s k) := by
  unfold activationPauseEnd
  rw [if_neg (by simp [paused, st])]
  rfl

theorem release_fwAt (s : State) (t : DWord) :
    (fwAt (advanceTo s t) imageAt).release = BitVec.ofNat 32 (loadN s (imageAt + 0xC) 4) := by
  have same : bytesAt (advanceTo s t) (imageAt + 0xC) 4 = bytesAt s (imageAt + 0xC) 4 :=
    bytesAt_congr fun b _ _ => (samePlant_of_plantData (plantData_advanceTo s t)).1 b
  rw [fwAt, loadN, same, loadN]

theorem activationPauseEnd_resets (due : s.boot.due = none) (paused : s.paused = true) (st : updState s = udACTIVATING) (powered : modeNow s ≠ 0)
    (bad : ok = false ∨ imageCheck s false ≠ .none) :
    exec (.activationPauseEnd ok k) s = .next (bootRom (moduleReset { s with paused := false } 0x8)) := by
  have resets : activationPauseEnd s ok k = resetDue { s with paused := false } 0x8 := by
    rw [activationPauseEnd_paused paused st, if_pos (by simpa using bad)]
  refine congrArg Host.Outcome.next ((congrArg settleReset resets).trans ?_)
  exact settleReset_resetDue (u := { s with paused := false }) due powered 0x8

theorem activationPauseEnd_ends (due : s.boot.due = none) (paused : s.paused = true) (st : updState s = udACTIVATING)
    (good : imageCheck s false = .none) : ∃ t, exec (.activationPauseEnd true k) s = .next t ∧
      t.paused = false ∧ t.stationHold = false ∧ updState t = udIDLE ∧ t.upd.b1 = none ∧ s.now ≤ t.now ∧ (rd t (R.PG_ISR 0x98)).getLsbD 3 = true ∧
      rd t R.UPD_RUN = BitVec.ofNat 32 (loadN s (imageAt + 0xC) 4) ∧ (ptpOn s = true → ptpState t = ptLISTENING) ∧
      fld t R.UPD_ACT F.UPD_ACT_COUNT = min 0xFFFF (fld s R.UPD_ACT F.UPD_ACT_COUNT + 1) ∧
      fld t R.UPD_ACT F.UPD_ACT_PAUSE_MS = min 0xFFFF ((t.now - s.upd.pauseAt).toNat / 100000) := by
  have ends : activationPauseEnd s true k = pauseEnded s (pauseEndAt s k) := by
    rw [activationPauseEnd_paused paused st, if_neg (by simp [good])]
  generalize pauseEndAt s k = at_ at ends
  have fields (k : Nat) (f : Fld) : fld (advanceTo s at_) k f = fld s k f := fld_advanceTo s at_ k f
  obtain ⟨now, unpaused, free, upd, reset, state, release, count, servo⟩ := activationDone_shows (advanceTo s at_) (fwAt (advanceTo s at_) imageAt)
  rw [release_fwAt] at release
  rw [advanceTo_upd] at upd
  rw [fields] at count
  rw [advanceTo_boot] at reset
  unfold pauseEnded at ends
  generalize activationDone (advanceTo s at_) (fwAt (advanceTo s at_) imageAt) = u at ends now unpaused free upd reset state release count servo
  dsimp only at ends
  have bound : min 0xFFFF ((u.now - u.upd.pauseAt).toNat / 100000) ≤ 0xFFFF := Nat.min_le_left _ _
  have ms : min 0xFFFF ((u.now - u.upd.pauseAt).toNat / 100000) = min 0xFFFF ((u.now - s.upd.pauseAt).toNat / 100000) := by rw [upd]
  generalize min 0xFFFF ((u.now - u.upd.pauseAt).toNat / 100000) = v at ends bound ms
  have own := own_activationCounted u v
  simp only [activation, Prod.mk.injEq] at own
  obtain ⟨now', upd', paused', held', boot', -⟩ := own
  refine ⟨activationCounted u v, ?_, paused'.trans unpaused, held'.trans free, ?_, by rw [upd', upd], ?_,
    raiseBit_isr_bit _ (by decide) (by decide), (rd_activationCounted u v (by decide) (by decide) (by decide)).trans release, fun on => ?_,
    (count_activationCounted u v).trans (by rw [count]), (ms_activationCounted u bound).trans (by rw [now']; exact ms)⟩
  · refine congrArg Host.Outcome.next ((congrArg settleReset ends).trans (settleReset_of_none ?_))
    rw [boot', reset, due]
  · rw [updState, fld, rd_activationCounted u v (by decide) (by decide) (by decide)]
    exact state
  · rw [now', now]
    exact (le_advanceTo s at_).1
  · rw [ptpState, fld, rd_activationCounted u v (by decide) (by decide) (by decide)]
    exact servo (by rwa [ptpOn, pageOn, fields])

end

end Sys2Proof.Machine
end

section
/-! SUPPORT. O59: the UPD page and warm activation, from the commands and the ends of what they begin. -/

namespace Sys2Proof.Machine

open Sys2Proof.Safety

/-- Settles O59: the commands of UPD_CMD one by one, then the ends of CHECK and WRITE, then the hold, the pause and the end of a warm activation. -/
theorem updatesRunThroughTheirStates : Obligations.UpdatesRunThroughTheirStates := by
  unfold Obligations.UpdatesRunThroughTheirStates
  intro s due isr same st busy last
  have free (idle : ¬ busy) : updBusy (updState s) = false := updBusy_false idle
  refine ⟨fun q hr => ?_, fun idle => congrArg Host.Outcome.next (checkComplete_none idle), checkComplete_ends, fun ok => ?_, fun idle => ?_,
    fun b b1 active running => ?_, fun ok k => ?_⟩
  · intro no
    refine ⟨fun outside => ?_, fun served => ⟨fun busy => ?_, fun idle => ?_, fun unchecked => ?_, fun checked store => ?_,
      updWrite_begins hr served, updAbandon_abandons hr served, fun running => ?_, fun none => ?_, fun idle unchecked => ?_, fun mode => ?_,
      fun mode owned => ?_, fun mode fresh idle inside => ?_, fun unwritten => ?_, fun written role synced => ?_, updActivate_resets hr served due,
      fun written standby resolving alone => ⟨fun mode => ?_, fun mode => ⟨fun busy => ?_, fun idle unstored => ?_⟩⟩⟩⟩
    · simp only [List.forall_mem_cons, List.not_mem_nil, false_imp_iff, implies_true, and_true]
      exact ⟨updRow_outside hr (by decide) (by decide) outside, updRow_outside hr (by decide) (by decide) outside, updActivate_outside hr due outside,
        updRow_outside hr (by decide) (by decide) outside, updRow_outside hr (by decide) (by decide) outside,
        updRow_outside hr (by decide) (by decide) outside⟩
    · have busy := (updBusy_iff (updState s)).mpr busy
      exact ⟨updRow_turned hr served (by decide) (updOp_check_busy busy) (by decide) (by decide),
        updRow_turned hr served (by decide) (updOp_svn_busy busy) (by decide) (by decide)⟩
    · exact updCheck_begins hr served (free idle)
    · exact updRow_turned hr served (by decide) (updOp_write_unchecked unchecked) (by decide) (by decide)
    · exact updRow_turned hr served (by decide) (updOp_write_busy checked store) (by decide) (by decide)
    · exact updRow_turned hr served (by decide) (updOp_abandon_running running) (by decide) (by decide)
    · exact updRow_turned hr served (by decide) (updOp_abandon_none none) (by decide) (by decide)
    · exact updSvnCommit_commits hr served (free idle) unchecked
    · exact updRow_turned hr served (by decide) ((updOp_owner s).trans (ownerRecord_outside mode)) (by decide) (by decide)
    · exact updRow_turned hr served (by decide) ((updOp_owner s).trans (ownerRecord_programmed mode owned)) (by decide) (by decide)
    · exact updOwnerPk_records hr served mode fresh idle inside
    · exact updActivate_turned hr due served (by decide) (updActivate_unwritten unwritten)
    · exact updActivate_turned hr due served (by decide) (updActivate_active written role synced)
    · exact updActivate_turned hr due served (by decide) (updActivate_dozing written standby resolving alone mode)
    · exact updActivate_turned hr due served (by decide) (updActivate_busy written standby resolving alone mode busy)
    · exact updActivate_pauses hr served due (updActivate_begins written standby resolving alone mode idle unstored)
  · refine ⟨fun idle => congrArg Host.Outcome.next (writeComplete_none idle), fun writing kept torn => ?_, fun writing kept whole => ?_⟩
    · rw [torn]
      exact writeComplete_torn writing kept
    · rw [whole]
      exact writeComplete_stores writing kept
  · exact ⟨congrArg Host.Outcome.next (activationHold_waits idle), congrArg Host.Outcome.next (activationPauseStart_waits idle)⟩
  · exact ⟨fun held => congrArg Host.Outcome.next (activationHold_held b1 held), activationHold_holds b1 active running,
      activationPauseStart_pauses b1 active running⟩
  · refine ⟨fun idle => ?_, fun paused active powered bad => activationPauseEnd_resets due paused active powered bad,
      fun paused active started good => ?_⟩
    · exact congrArg Host.Outcome.next ((congrArg settleReset (activationPauseEnd_none idle)).trans (settleReset_of_none due))
    · rw [started]
      exact activationPauseEnd_ends due paused active good

end Sys2Proof.Machine
end

section
/-! SUPPORT. The timebase and the PTP servo (R438 to R443). -/

namespace Sys2Proof.Machine

open Sys2Proof.Safety

/-! ## Events -/

/-- An event clears no cause. -/
theorem isr_raiseBit_mono (s : State) {page other : Nat} (ho : other < 256) (n : Nat) {b : Nat}
    (h : (rd s (R.PG_ISR page)).getLsbD b = true) : (rd (raiseBit s other n) (R.PG_ISR page)).getLsbD b = true := by
  by_cases e : page = other
  · rw [e] at h ⊢
    rw [rd_raiseBit_isr s n ho, BitVec.getLsbD_or, h, Bool.true_or]
  · have isr : R.PG_ISR page ≠ R.PG_ISR other := by simp only [R.PG_ISR, regKey]; omega
    rw [rd_raiseBit_ne s isr (regKey_ne_EVT_PEND page (by decide) (by omega))]
    exact h

theorem SameData.of_plantData {s t : State} (h : plantData t = plantData s) : SameData s t :=
  ⟨(samePlant_of_plantData h).1, (samePlant_of_plantData h).2.1⟩

/-! ## The timebase (R438, R439, R441) -/

section
variable {s : State} {q : Requester} {v : DWord}

/-- The timebase has been loaded. -/
def timeLoaded (s : State) (v : DWord) : State :=
  { s with now := v, nextTick := v.toNat / 100000 + 1, nextGrid := v.toNat / 25000 + 1, meter := { s.meter with nextSample := v.toNat / 12500 + 1 } }

theorem stepTo_eq (s : State) (v : DWord) : stepTo s v = raiseBit (bumpFld (timeLoaded s v) R.TB_STAT F.TB_STAT_STEPS 1) 0x06 0 := rfl

theorem rd_timeLoaded (s : State) (v : DWord) (k : Nat) : rd (timeLoaded s v) k = rd s k := rfl

theorem fld_bumpFld (s : State) (k : Nat) (f : Fld) (le : f.lo ≤ f.hi) (h32 : f.hi < 32) :
    fld (bumpFld s k f 1) k f = min (2 ^ (f.hi + 1 - f.lo) - 1) (fld s k f + 1) := by
  have pos := Nat.two_pow_pos (f.hi + 1 - f.lo)
  refine (fld_setFld_same s k f _ le h32).trans ?_
  unfold satAdd
  split
  · rw [Nat.mod_eq_of_lt (by assumption)]
    omega
  · rw [Nat.mod_eq_of_lt (by omega)]
    omega

theorem steps_stepTo (s : State) (v : DWord) : fld (stepTo s v) R.TB_STAT F.TB_STAT_STEPS = min 255 (fld s R.TB_STAT F.TB_STAT_STEPS + 1) := by
  rw [stepTo_eq, fld, rd_raiseBit_ne _ (by decide) (by decide)]
  exact fld_bumpFld (timeLoaded s v) _ _ (by decide) (by decide)

theorem stepTo_loads (s : State) (v : DWord) : (stepTo s v).now = v ∧ (stepTo s v).nextTick = v.toNat / 100000 + 1 ∧
    (stepTo s v).nextGrid = v.toNat / 25000 + 1 ∧ (stepTo s v).meter = { s.meter with nextSample := v.toNat / 12500 + 1 } := by
  rw [stepTo_eq, raiseBit_now, raiseBit_nextTick, raiseBit_nextGrid, raiseBit_meter]
  exact ⟨rfl, rfl, rfl, rfl⟩

theorem tbStep_steps (hr : Reaches s q 0x06 0x54) (mode : modeNow s = mdCOMMISSION) (own : following s = false) : ∃ t, exec (.tbStep q v) s = .next t ∧
    Accepted t ∧ t.now = v ∧ t.nextTick = v.toNat / 100000 + 1 ∧ t.nextGrid = v.toNat / 25000 + 1 ∧
    t.meter = { s.meter with nextSample := v.toNat / 12500 + 1 } ∧ fld t R.TB_STAT F.TB_STAT_STEPS = min 255 (fld s R.TB_STAT F.TB_STAT_STEPS + 1) ∧
    (rd t (R.PG_ISR 0x06)).getLsbD 0 = true ∧ SameBytes s t ∧ SamePoints s t := by
  have taken : tbStep s v = (stepTo s v, .none) := if_neg (by simp [mode, own])
  obtain ⟨now, tick, grid, samples⟩ := stepTo_loads s v
  obtain ⟨bytes, points⟩ := SameData.of_plantData (pageUpdate_stepTo s v).data
  have told := onlyRegs_answer [] (stepTo s v) .none
  exact ⟨_, congrArg Host.Outcome.next (gated_taken (k := fun s => tbStep s v) hr taken), rfl, now, tick, grid, samples, steps_stepTo s v,
    raiseBit_isr_bit _ (by decide) (by decide), fun a => (sameBytes_of_onlyRegs told a).trans (bytes a), points⟩

theorem tbStep_refused (hr : Reaches s q 0x06 0x54) (bad : modeNow s ≠ mdCOMMISSION ∨ following s = true) :
    ∃ t, exec (.tbStep q v) s = .next t ∧ Rejected s t 0x06 0x54 .notInState :=
  ⟨_, rfl, gated_turned (k := fun s => tbStep s v) hr (by decide) (if_pos bad)⟩

theorem tbSlew_refused {v : Word} (hr : Reaches s q 0x06 0x4C) (bad : following s = true ∨ ptpOn s = true) :
    ∃ t, exec (.tbSlew q v) s = .next t ∧ Rejected s t 0x06 0x4C .notInState :=
  ⟨_, rfl, gated_turned (k := fun s => tbSlew s v) hr (by decide) (if_pos bad)⟩

theorem toInt_ofInt_32 {n : Int} (low : -0x80000000 ≤ n) (high : n ≤ 0x7FFFFFFF) : (BitVec.ofInt 32 n).toInt = n := by
  rw [BitVec.toInt_ofInt]
  exact Int.bmod_eq_of_le (by omega) (by omega)

theorem tbSlew_adds {v : Word} (hr : Reaches s q 0x06 0x4C) (own : following s = false) (off : ptpOn s = false)
    (low : -0x80000000 ≤ (rd s R.TB_SLEW).toInt + v.toInt) (high : (rd s R.TB_SLEW).toInt + v.toInt ≤ 0x7FFFFFFF) :
    ∃ t, exec (.tbSlew q v) s = .next t ∧ Accepted t ∧ (rd t R.TB_SLEW).toInt = (rd s R.TB_SLEW).toInt + v.toInt ∧ OnlyRegs [R.TB_SLEW] s t := by
  have taken : tbSlew s v = (wr s R.TB_SLEW (BitVec.ofInt 32 ((rd s R.TB_SLEW).toInt + v.toInt)), .none) := by
    unfold tbSlew
    rw [if_neg (by simp [own, off])]
    exact if_neg (by omega)
  refine ⟨_, congrArg Host.Outcome.next (gated_taken (k := fun s => tbSlew s v) hr taken), rfl, ?_,
    (onlyRegs_wr s _ List.mem_cons_self).trans (onlyRegs_answer _ _ _)⟩
  rw [rd_answer, rd_wr_same]
  exact toInt_ofInt_32 low high

theorem linkDelay_down (rtt : Nat) (down : flag s R.TLM_STAT F.TLM_STAT_UP = false) : exec (.linkDelayMeasure rtt) s = .next s :=
  congrArg Host.Outcome.next (if_neg (by simp [down]))

theorem linkDelay_measures (rtt : Nat) (up : flag s R.TLM_STAT F.TLM_STAT_UP = true) : ∃ t, exec (.linkDelayMeasure rtt) s = .next t ∧
    rd t R.TB_LINKDLY = BitVec.ofNat 32 (rtt / 2) ∧ t = { s with regs := t.regs } ∧ SameRegs [R.TB_LINKDLY] s t :=
  ⟨_, congrArg Host.Outcome.next (if_pos up), rd_wr_same _ _ _, rfl, (onlyRegs_wr s _ List.mem_cons_self).regs⟩

end

/-! ## Announce (R442, R443) -/

section
variable {s : State} {d : Byte} {src : BitVec 80} {seq : BitVec 16} {a m : PtpAnnounce} {origin corr stamp : Int} {two : Bool}

/-- The servo hears a message: it runs, no pause holds it, and the message is of its domain. -/
def ptpHere (s : State) (d : Byte) : Bool := ptpOn s && !s.paused && d.toNat == fld s R.PTP_CFG F.PTP_CFG_DOMAIN

theorem exec_announce (s : State) (d : Byte) (a : PtpAnnounce) :
    exec (.ptpMessage (.announce d a)) s = .next (if ptpHere s d then ptpAnnounce s a else s) := rfl

theorem exec_sync (s : State) (d : Byte) (src : BitVec 80) (seq : BitVec 16) (two : Bool) (origin corr stamp : Int) :
    exec (.ptpMessage (.sync d src seq two origin corr stamp)) s = .next (if !ptpHere s d || !fromMaster s src then s
      else if two then setPtp s { s.ptp with wait := some (seq.toNat, stamp, corr) } else ptpSync s (origin + corr) stamp) := rfl

theorem exec_followUp (s : State) (d : Byte) (src : BitVec 80) (seq : BitVec 16) (origin corr : Int) :
    exec (.ptpMessage (.followUp d src seq origin corr)) s = .next (if !ptpHere s d || !fromMaster s src then s
      else match s.ptp.wait with
        | some (q, t2, c) => if q = seq.toNat then ptpSync s (origin + c + corr) t2 else s
        | none => s) := rfl

theorem exec_delayResp (s : State) (d : Byte) (src : BitVec 80) (seq : BitVec 16) (receive corr : Int) :
    exec (.ptpMessage (.delayResp d src seq receive corr)) s = .next (if !ptpHere s d || !fromMaster s src || seq.toNat != s.ptp.reqSeq then s
      else match s.ptp.t3 with
        | some t3 => wr (setPtp s { s.ptp with delay := ((s.ptp.t2 - s.ptp.t1) + (receive - corr - t3)) / 2, t3 := none }) R.PTP_DELAY
            (BitVec.ofInt 32 (((s.ptp.t2 - s.ptp.t1) + (receive - corr - t3)) / 2))
        | none => s) := rfl

theorem ptpMessages_unheard (away : ptpHere s d = false) : exec (.ptpMessage (.announce d a)) s = .next s ∧
    exec (.ptpMessage (.sync d src seq two origin corr stamp)) s = .next s ∧
    exec (.ptpMessage (.followUp d src seq origin corr)) s = .next s ∧ exec (.ptpMessage (.delayResp d src seq origin corr)) s = .next s := by
  rw [exec_announce, exec_sync, exec_followUp, exec_delayResp, away]
  exact ⟨rfl, rfl, rfl, rfl⟩

theorem ptpMessages_foreign (foreign : fromMaster s src = false) : exec (.ptpMessage (.sync d src seq two origin corr stamp)) s = .next s ∧
    exec (.ptpMessage (.followUp d src seq origin corr)) s = .next s ∧ exec (.ptpMessage (.delayResp d src seq origin corr)) s = .next s := by
  rw [exec_sync, exec_followUp, exec_delayResp, foreign]
  simp only [Bool.not_false, Bool.or_true, Bool.true_or, if_true, and_self]

/-- A master is taken: the present one's next Announce, or a new one's first. -/
def masterTaken (s : State) (a : PtpAnnounce) (same : Bool) : State :=
  setPtp s { s.ptp with master := some a, announceAt := s.now
                        originSet := s.ptp.originSet && (match s.ptp.master with | some m => m.gm == a.gm | none => true)
                        wait := if same then s.ptp.wait else none, good := if same then s.ptp.good else 0 }

theorem announce_worse (master : s.ptp.master = some m) (locked : ptpState s ≠ ptLISTENING) (other : a.src ≠ m.src)
    (worse : comesBefore (bmcaKey a) (bmcaKey m) = false) : ptpAnnounce s a = s := by
  unfold ptpAnnounce
  simp [master, locked, Ne.symm other, worse]

theorem announce_same (master : s.ptp.master = some m) (locked : ptpState s ≠ ptLISTENING) (own : a.src = m.src) :
    ptpAnnounce s a = masterTaken s a true := by
  unfold ptpAnnounce masterTaken
  simp [master, locked, own]

theorem announce_new (new : ptpState s = ptLISTENING ∨ s.ptp.master = none ∨
    ∃ m, s.ptp.master = some m ∧ a.src ≠ m.src ∧ comesBefore (bmcaKey a) (bmcaKey m) = true) :
    ptpAnnounce s a = setPtpState (masterTaken s a false) ptUNCALIBRATED := by
  rcases master : s.ptp.master with _ | m
  · unfold ptpAnnounce masterTaken
    simp [master]
  · by_cases listening : ptpState s = ptLISTENING
    · unfold ptpAnnounce masterTaken
      simp [master, listening]
    · obtain ⟨m', same, other, better⟩ := (new.resolve_left listening).resolve_left (by simp [master])
      obtain rfl : m = m' := Option.some.inj (master.symm.trans same)
      unfold ptpAnnounce masterTaken
      simp [master, listening, Ne.symm other, better]

theorem announce_heard (here : ptpHere s d = true) : exec (.ptpMessage (.announce d a)) s = .next (ptpAnnounce s a) := by
  rw [exec_announce, here, if_pos rfl]

theorem masterTaken_rest (s : State) (a : PtpAnnounce) (same : Bool) : masterTaken s a same = { s with ptp := (masterTaken s a same).ptp } := rfl

theorem rd_masterTaken (s : State) (a : PtpAnnounce) (same : Bool) (k : Nat) : rd (masterTaken s a same) k = rd s k := rfl

theorem plantData_masterTaken (s : State) (a : PtpAnnounce) (same : Bool) : plantData (masterTaken s a same) = plantData s := rfl

theorem announce_refreshes (here : ptpHere s d = true) (master : s.ptp.master = some m) (locked : ptpState s ≠ ptLISTENING) (own : a.src = m.src) :
    ∃ t, exec (.ptpMessage (.announce d a)) s = .next t ∧ t.ptp.master = some a ∧ t.ptp.announceAt = s.now ∧ t.ptp.good = s.ptp.good ∧
      t = { s with ptp := t.ptp } :=
  ⟨_, (announce_heard here).trans (congrArg Host.Outcome.next (announce_same master locked own)), rfl, rfl, rfl, masterTaken_rest _ _ _⟩

theorem ptpState_setPtpState (s : State) {n : Nat} (hn : n < 8) : ptpState (setPtpState s n) = n :=
  (fld_setFld_same s _ _ n (by decide) (by decide)).trans (Nat.mod_eq_of_lt hn)

theorem announce_selects (here : ptpHere s d = true) (new : ptpState s = ptLISTENING ∨ s.ptp.master = none ∨
    ∃ m, s.ptp.master = some m ∧ a.src ≠ m.src ∧ comesBefore (bmcaKey a) (bmcaKey m) = true) :
    ∃ t, exec (.ptpMessage (.announce d a)) s = .next t ∧ ptpState t = ptUNCALIBRATED ∧ t.ptp.master = some a ∧ t.ptp.good = 0 ∧
      SameRegs [R.PTP_STAT] s t ∧ SameBytes s t ∧ SamePoints s t := by
  have shown := onlyRegs_setFld (ks := [R.PTP_STAT]) (masterTaken s a false) F.PTP_STAT_STATE ptUNCALIBRATED List.mem_cons_self
  exact ⟨_, (announce_heard here).trans (congrArg Host.Outcome.next (announce_new new)), ptpState_setPtpState _ (by decide), rfl, rfl,
    fun k out => (shown.regs k out).trans (rd_masterTaken s a false k),
    SameData.of_plantData ((plantData_of_regsAndEvents shown.regsAndEvents).trans (plantData_masterTaken s a false))⟩

end

/-! ## Sync (R443) -/

section
variable (s : State)

/-- A Sync's times and the offset are noted, and the servo is SLAVE after 16 good ones. -/
def syncGood (off : Int) : Nat := if off.natAbs ≤ 1000 then s.ptp.good + 1 else 0
def syncTimes (t1 t2 off : Int) : State :=
  wr (setPtp s { s.ptp with originSet := true, syncAt := s.now, wait := none, t1 := t1, t2 := t2, good := syncGood s off }) R.PTP_OFS
    (BitVec.ofInt 32 (sat32 off))
def syncNoted (t1 t2 off : Int) : State :=
  if 16 ≤ syncGood s off ∧ ptpState (syncTimes s t1 t2 off) ≠ ptSLAVE then raiseBit (setPtpState (syncTimes s t1 t2 off) ptSLAVE) 0x7F 0
  else syncTimes s t1 t2 off

/-- The offset that a Sync measures from PTP_ORIGIN. -/
def syncOffset (t1 t2 : Int) : Int := t2 + ptpOrigin s - t1 - s.ptp.delay

theorem ptpSync_kept {t1 t2 : Int} (set : s.ptp.originSet = true) (near : (syncOffset s t1 t2).natAbs ≤ 1000000) :
    ptpSync s t1 t2 = sendDelayReq (servoRate (syncNoted s t1 t2 (syncOffset s t1 t2))) := by
  have keep : (!s.ptp.originSet || decide (1000000 < (t2 + ptpOrigin s - t1 - s.ptp.delay).natAbs)) = false := by
    rw [set, Bool.not_true, Bool.false_or]
    exact decide_eq_false (Nat.not_lt.mpr near)
  simp only [ptpSync, keep, Bool.false_eq_true, if_false]
  rfl

theorem ptpSync_renewed {t1 t2 : Int} (far : s.ptp.originSet = false ∨ 1000000 < (syncOffset s t1 t2).natAbs) :
    ptpSync s t1 t2 = sendDelayReq (servoRate (syncNoted (setOrigin s (t1 + s.ptp.delay - t2)) t1 t2 0)) := by
  have renew : (!s.ptp.originSet || decide (1000000 < (t2 + ptpOrigin s - t1 - s.ptp.delay).natAbs)) = true := by
    obtain unset | far := far
    · rw [unset]
      rfl
    · rw [Bool.or_eq_true]
      exact .inr (decide_eq_true far)
  simp only [ptpSync, renew, if_true]
  rfl

/-! ### What the end of a Sync leaves alone -/

/-- The registers that hold the servo's state, offset and origin, and the rate of the timebase. -/
abbrev servoKeys : List Nat := [R.PTP_STAT, R.PTP_OFS, R.PTP_ORIGIN 0, R.PTP_ORIGIN 1]
abbrev rateKeys : List Nat := R.TB_RATE :: servoKeys

/-- An update that neither those registers nor memory and points feel; causes of the servo's page stay set. -/
structure ServoKept (ks : List Nat) (s t : State) : Prop where
  data : plantData t = plantData s
  regs : ∀ k ∈ ks, rd t k = rd s k
  causes : ∀ n, (rd s (R.PG_ISR 0x7F)).getLsbD n = true → (rd t (R.PG_ISR 0x7F)).getLsbD n = true

theorem ServoKept.trans {ks : List Nat} {s t u : State} (h : ServoKept ks s t) (k : ServoKept ks t u) : ServoKept ks s u :=
  ⟨k.data.trans h.data, fun r mem => (k.regs r mem).trans (h.regs r mem), fun n set => k.causes n (h.causes n set)⟩

theorem ServoKept.mono {ks js : List Nat} {s t : State} (h : ServoKept ks s t) (sub : js ⊆ ks) : ServoKept js s t :=
  ⟨h.data, fun k mem => h.regs k (sub mem), h.causes⟩

theorem servoKept_of_regs {ks : List Nat} {s t : State} (data : plantData t = plantData s) (regs : t.regs = s.regs) : ServoKept ks s t where
  data := data
  regs k _ := congrArg (tget resetWord · k) regs
  causes n set := (congrArg (fun r => (tget resetWord r (R.PG_ISR 0x7F)).getLsbD n) regs).trans set

theorem servoKept_wr {ks : List Nat} {k : Nat} (v : Word) (other : k ∉ ks) (isr : R.PG_ISR 0x7F ≠ k) : ServoKept ks s (wr s k v) where
  data := rfl
  regs r mem := rd_wr_ne s v fun e => other (e ▸ mem)
  causes b set := by
    rw [rd_wr_ne s v isr]
    exact set

theorem servoKept_servoRate : ServoKept servoKeys s (servoRate s) := by
  unfold servoRate
  split
  · exact servoKept_of_regs rfl rfl
  · exact (servoKept_of_regs (s := s) (t := { s with free := s.free + 1 }) rfl rfl).trans (servoKept_wr (ks := servoKeys) _ (k := R.TB_RATE) _ (by decide) (by decide))

theorem ptp_servoRate : (servoRate s).ptp = s.ptp := by
  unfold servoRate
  split <;> rfl

theorem servoRate_following (follows : following s = true) : servoRate s = s := if_pos follows

theorem servoRate_rate (own : following s = false) : -100000 ≤ (rd (servoRate s) R.TB_RATE).toInt ∧ (rd (servoRate s) R.TB_RATE).toInt ≤ 100000 := by
  have trimmed : rd (servoRate s) R.TB_RATE = BitVec.ofInt 32 (((Config.freeWord s.free).toNat % 200001 : Nat) - 100000 : Int) := by
    unfold servoRate
    rw [own]
    exact rd_wr_same _ _ _
  rw [trimmed, toInt_ofInt_32 (by omega) (by omega)]
  omega

theorem servoKept_raiseBit {page : Nat} (hp : page < 256) (n : Nat) : ServoKept rateKeys s (raiseBit s page n) where
  data := plantData_raiseBit s page n
  regs k mem := by
    simp only [rateKeys, servoKeys, List.mem_cons, List.not_mem_nil, or_false] at mem
    have isr : k ≠ R.PG_ISR page := by
      simp only [R.PG_ISR, R.TB_RATE, R.PTP_STAT, R.PTP_OFS, R.PTP_ORIGIN, regKey] at mem ⊢
      omega
    have pend : k ≠ R.EVT_PEND (page / 32) := by
      simp only [R.EVT_PEND, R.TB_RATE, R.PTP_STAT, R.PTP_OFS, R.PTP_ORIGIN, regKey] at mem ⊢
      omega
    exact rd_raiseBit_ne s isr pend
  causes b set := isr_raiseBit_mono s hp n set

theorem servoKept_mac {m off : Nat} (high : 0xC0 ≤ off) (small : off < 4096) (v : Word) :
    ServoKept rateKeys s (wr s (regKey (0x78 + m) off 0) v) := by
  refine servoKept_wr s v (fun mem => ?_) (by simp only [R.PG_ISR, regKey]; omega)
  simp only [rateKeys, servoKeys, List.mem_cons, List.not_mem_nil, or_false, R.TB_RATE, R.PTP_STAT, R.PTP_OFS, R.PTP_ORIGIN, regKey] at mem
  omega

theorem servoKept_hmCount {m : Nat} (hm : m < 8) : ServoKept rateKeys s (hmCount s m 38 1) := by
  have counted : ServoKept rateKeys s (bump s (R.HM_CNT m 38) 1) := servoKept_mac s (by decide) (by decide) _
  unfold hmCount
  dsimp only
  split
  · exact (counted.trans (servoKept_mac _ (off := 0xC4) (by decide) (by decide) _)).trans (servoKept_raiseBit _ (by unfold hmPage; omega) 4)
  · exact counted

theorem servoKept_hmSend {m : Nat} (hm : m < 8) (q : Nat) (f : TxFrame) : ServoKept rateKeys s (hmSend s m q f) := by
  unfold hmSend
  split
  · exact servoKept_of_regs rfl rfl
  · exact (servoKept_hmCount s hm).trans (servoKept_raiseBit _ (by unfold hmPage; omega) 2)

theorem ptp_hmSend (m q : Nat) (f : TxFrame) : (hmSend s m q f).ptp = s.ptp := by
  unfold hmSend
  split
  · rfl
  · show (raiseBit (hmCount s m 38 1) (hmPage m) 2).ptp = _
    rw [raiseBit_ptp]
    unfold hmCount
    dsimp only
    split
    · exact (raiseBit_ptp _ _ _).trans rfl
    · rfl

/-- A Delay_Req is numbered. -/
def delayAsked : State := setPtp s { s.ptp with reqSeq := (s.ptp.reqSeq + 1) % 65536, t3 := none }

theorem sendDelayReq_eq : ∃ f, sendDelayReq s = hmSend (delayAsked s) (fld s R.PTP_CFG F.PTP_CFG_PORT) 0 f := by
  unfold sendDelayReq
  dsimp only
  split
  · exact ⟨_, rfl⟩
  · exact ⟨_, rfl⟩

theorem servoKept_sendDelayReq : ServoKept rateKeys s (sendDelayReq s) := by
  obtain ⟨f, sent⟩ := sendDelayReq_eq s
  have asked : ServoKept rateKeys s (delayAsked s) := servoKept_of_regs rfl rfl
  rw [sent]
  exact asked.trans (servoKept_hmSend _ (fld_lt s _ F.PTP_CFG_PORT) 0 f)

theorem ptp_sendDelayReq : (sendDelayReq s).ptp = { s.ptp with reqSeq := (s.ptp.reqSeq + 1) % 65536, t3 := none } := by
  obtain ⟨f, sent⟩ := sendDelayReq_eq s
  rw [sent, ptp_hmSend]
  rfl

/-- The end of a Sync: the timebase is trimmed and a Delay_Req sent. -/
def syncEnded : State := sendDelayReq (servoRate s)

theorem servoKept_syncEnded : ServoKept servoKeys s (syncEnded s) :=
  (servoKept_servoRate s).trans ((servoKept_sendDelayReq _).mono (List.subset_cons_self _ _))

theorem ptp_syncEnded : (syncEnded s).ptp = { s.ptp with reqSeq := (s.ptp.reqSeq + 1) % 65536, t3 := none } := by
  rw [syncEnded, ptp_sendDelayReq, ptp_servoRate]

theorem rate_syncEnded : rd (syncEnded s) R.TB_RATE = rd (servoRate s) R.TB_RATE := (servoKept_sendDelayReq _).regs _ List.mem_cons_self

/-! ### What a Sync notes -/

theorem following_congr {s t : State} (twin : t.twin = s.twin) (stat : rd t R.TWN_STAT = rd s R.TWN_STAT) : following t = following s := by
  unfold following roleOf flag fld
  rw [twin, stat]

section
variable (t1 t2 off : Int)

theorem ptp_syncNoted : (syncNoted s t1 t2 off).ptp =
    { s.ptp with originSet := true, syncAt := s.now, wait := none, t1 := t1, t2 := t2, good := syncGood s off } := by
  unfold syncNoted
  split
  · exact (raiseBit_ptp _ _ _).trans rfl
  · rfl

theorem rd_syncTimes {k : Nat} (other : k ≠ R.PTP_OFS) : rd (syncTimes s t1 t2 off) k = rd s k := rd_wr_ne _ _ other

theorem rd_syncNoted {k : Nat} (stat : k ≠ R.PTP_STAT) (isr : k ≠ R.PG_ISR 0x7F) (pend : k ≠ R.EVT_PEND 3) :
    rd (syncNoted s t1 t2 off) k = rd (syncTimes s t1 t2 off) k := by
  unfold syncNoted
  split
  · exact (rd_raiseBit_ne _ isr pend).trans (rd_setFld_ne _ _ _ stat)
  · rfl

theorem ofs_syncNoted : rd (syncNoted s t1 t2 off) R.PTP_OFS = BitVec.ofInt 32 (sat32 off) :=
  (rd_syncNoted s t1 t2 off (by decide) (by decide) (by decide)).trans (rd_wr_same _ _ _)

theorem plantData_syncNoted : plantData (syncNoted s t1 t2 off) = plantData s := by
  unfold syncNoted
  split
  · exact (plantData_raiseBit _ _ _).trans rfl
  · rfl

theorem twin_syncNoted : (syncNoted s t1 t2 off).twin = s.twin := by
  unfold syncNoted
  split
  · exact (raiseBit_twin _ _ _).trans rfl
  · rfl

theorem ptpState_syncTimes : ptpState (syncTimes s t1 t2 off) = ptpState s := fld_wr_ne _ _ _ (by decide)

theorem ptpState_syncNoted_bad (bad : syncGood s off = 0) : ptpState (syncNoted s t1 t2 off) = ptpState s := by
  unfold syncNoted
  rw [if_neg (by omega), ptpState_syncTimes]

/-- After 16 good Syncs the servo is SLAVE, and its entry is a cause. -/
theorem syncNoted_locked (enough : 16 ≤ syncGood s off) : ptpState (syncNoted s t1 t2 off) = ptSLAVE ∧
    (ptpState s ≠ ptSLAVE → (rd (syncNoted s t1 t2 off) (R.PG_ISR 0x7F)).getLsbD 0 = true) := by
  unfold syncNoted
  by_cases already : ptpState s = ptSLAVE
  · rw [if_neg (by rw [ptpState_syncTimes]; exact fun h => h.2 already), ptpState_syncTimes]
    exact ⟨already, fun not => absurd already not⟩
  · rw [if_pos ⟨enough, by rwa [ptpState_syncTimes]⟩]
    refine ⟨?_, fun _ => raiseBit_isr_bit _ (by decide) (by decide)⟩
    rw [ptpState, fld, rd_raiseBit_ne _ (by decide) (by decide)]
    exact ptpState_setPtpState _ (by decide)

theorem causes_syncNoted {n : Nat} (set : (rd s (R.PG_ISR 0x7F)).getLsbD n = true) :
    (rd (syncNoted s t1 t2 off) (R.PG_ISR 0x7F)).getLsbD n = true := by
  have kept : (rd (syncTimes s t1 t2 off) (R.PG_ISR 0x7F)).getLsbD n = true := by rwa [rd_syncTimes s t1 t2 off (by decide)]
  unfold syncNoted
  split
  · refine isr_raiseBit_mono _ (by decide) 0 ?_
    rwa [setPtpState, rd_setFld_ne _ _ _ (by decide)]
  · exact kept

end

/-- A near offset is shown as it is. -/
theorem sat32_near {off : Int} (near : off.natAbs ≤ 1000000) : sat32 off = off := by
  unfold sat32 clampInt
  rw [if_neg (by omega), if_neg (by omega)]

/-! ### The origin -/

theorem codeOf_lt (n : Int) : codeOf 64 n < 2 ^ 64 := by
  unfold codeOf
  omega

theorem rd_setOrigin (n : Int) : rd (setOrigin s n) (R.PTP_ORIGIN 0) = BitVec.ofNat 32 (codeOf 64 n) ∧
    rd (setOrigin s n) (R.PTP_ORIGIN 1) = BitVec.ofNat 32 (codeOf 64 n / 2 ^ 32) := by
  unfold setOrigin
  exact ⟨(rd_raiseBit_ne _ (by decide) (by decide)).trans ((rd_wr_ne _ _ (by decide)).trans (rd_wr_same _ _ _)),
    (rd_raiseBit_ne _ (by decide) (by decide)).trans (rd_wr_same _ _ _)⟩

theorem setOrigin_keeps (n : Int) : plantData (setOrigin s n) = plantData s ∧ (setOrigin s n).ptp = s.ptp ∧ (setOrigin s n).now = s.now ∧
    (setOrigin s n).twin = s.twin ∧ rd (setOrigin s n) R.TB_RATE = rd s R.TB_RATE ∧ rd (setOrigin s n) R.TWN_STAT = rd s R.TWN_STAT ∧
    (rd (setOrigin s n) (R.PG_ISR 0x7F)).getLsbD 2 = true := by
  have other {k : Nat} (isr : k ≠ R.PG_ISR 0x7F) (pend : k ≠ R.EVT_PEND 3) (low : k ≠ R.PTP_ORIGIN 0) (high : k ≠ R.PTP_ORIGIN 1) :
      rd (setOrigin s n) k = rd s k := (rd_raiseBit_ne _ isr pend).trans ((rd_wr_ne _ _ high).trans (rd_wr_ne _ _ low))
  exact ⟨(plantData_raiseBit _ _ _).trans rfl, (raiseBit_ptp _ _ _).trans rfl, (raiseBit_now _ _ _).trans rfl, (raiseBit_twin _ _ _).trans rfl,
    other (by decide) (by decide) (by decide) (by decide), other (by decide) (by decide) (by decide) (by decide),
    raiseBit_isr_bit _ (by decide) (by decide)⟩

end

theorem ptpOrigin_setOrigin (s : State) (n : Int) : ptpOrigin (setOrigin s n) = (codeOf 64 n : Nat) := by
  obtain ⟨low, high⟩ := rd_setOrigin s n
  have bound := codeOf_lt n
  rw [ptpOrigin, low, high, BitVec.toNat_ofNat, BitVec.toNat_ofNat]
  generalize codeOf 64 n = v at bound
  norm_cast
  omega

theorem ptpOrigin_congr {s t : State} (h : ServoKept servoKeys s t) : ptpOrigin t = ptpOrigin s := by
  unfold ptpOrigin
  rw [h.regs _ (by decide), h.regs _ (by decide)]

theorem ptpState_congr {s t : State} (h : ServoKept servoKeys s t) : ptpState t = ptpState s := by
  unfold ptpState fld
  rw [h.regs _ (by decide)]

/-- What every Sync leaves, whichever offset it notes in the state `u`. -/
theorem syncEnded_shows (u : State) (t1 t2 off : Int) : let t := syncEnded (syncNoted u t1 t2 off)
    t.ptp.t1 = t1 ∧ t.ptp.t2 = t2 ∧ t.ptp.originSet = true ∧ t.ptp.syncAt = u.now ∧ t.ptp.wait = none ∧
    t.ptp.reqSeq = (u.ptp.reqSeq + 1) % 65536 ∧ t.ptp.good = syncGood u off ∧ plantData t = plantData u ∧
    rd t R.PTP_OFS = BitVec.ofInt 32 (sat32 off) ∧ (following u = true → rd t R.TB_RATE = rd u R.TB_RATE) ∧
    (following u = false → -100000 ≤ (rd t R.TB_RATE).toInt ∧ (rd t R.TB_RATE).toInt ≤ 100000) := by
  intro t
  have ended := servoKept_syncEnded (syncNoted u t1 t2 off)
  have noted (k : Nat) (ofs : k ≠ R.PTP_OFS) (stat : k ≠ R.PTP_STAT) (isr : k ≠ R.PG_ISR 0x7F) (pend : k ≠ R.EVT_PEND 3) :
      rd (syncNoted u t1 t2 off) k = rd u k := (rd_syncNoted u t1 t2 off stat isr pend).trans (rd_syncTimes u t1 t2 off ofs)
  have follows : following (syncNoted u t1 t2 off) = following u :=
    following_congr (twin_syncNoted u t1 t2 off) (noted _ (by decide) (by decide) (by decide) (by decide))
  have ptp : t.ptp = _ := (ptp_syncEnded _).trans (by rw [ptp_syncNoted])
  rw [ptp]
  refine ⟨rfl, rfl, rfl, rfl, rfl, rfl, rfl, ended.data.trans (plantData_syncNoted u t1 t2 off),
    (ended.regs _ (by decide)).trans (ofs_syncNoted u t1 t2 off), fun on => ?_, fun own => ?_⟩
  · rw [rate_syncEnded, servoRate_following _ (follows.trans on)]
    exact noted _ (by decide) (by decide) (by decide) (by decide)
  · rw [rate_syncEnded]
    exact servoRate_rate _ (follows.trans own)

section
variable {s : State} {t1 t2 : Int}

theorem ptpSync_keeps (set : s.ptp.originSet = true) (near : (syncOffset s t1 t2).natAbs ≤ 1000000) :
    rd (ptpSync s t1 t2) R.PTP_OFS = BitVec.ofInt 32 (syncOffset s t1 t2) ∧ ptpOrigin (ptpSync s t1 t2) = ptpOrigin s ∧
    (1000 < (syncOffset s t1 t2).natAbs → (ptpSync s t1 t2).ptp.good = 0 ∧ ptpState (ptpSync s t1 t2) = ptpState s) ∧
    ((syncOffset s t1 t2).natAbs ≤ 1000 → (ptpSync s t1 t2).ptp.good = s.ptp.good + 1 ∧ (15 ≤ s.ptp.good → ptpState (ptpSync s t1 t2) = ptSLAVE) ∧
      (15 ≤ s.ptp.good → ptpState s ≠ ptSLAVE → (rd (ptpSync s t1 t2) (R.PG_ISR 0x7F)).getLsbD 0 = true)) := by
  have eq : ptpSync s t1 t2 = syncEnded (syncNoted s t1 t2 (syncOffset s t1 t2)) := ptpSync_kept s set near
  obtain ⟨-, -, -, -, -, -, good, -, ofs, -⟩ := syncEnded_shows s t1 t2 (syncOffset s t1 t2)
  have ended := servoKept_syncEnded (syncNoted s t1 t2 (syncOffset s t1 t2))
  rw [sat32_near near] at ofs
  rw [eq, good, ptpState_congr ended]
  refine ⟨ofs, (ptpOrigin_congr ended).trans ?_, fun far => ?_, fun close => ?_⟩
  · have other (k : Nat) (ofs : k ≠ R.PTP_OFS) (stat : k ≠ R.PTP_STAT) (isr : k ≠ R.PG_ISR 0x7F) (pend : k ≠ R.EVT_PEND 3) :
        rd (syncNoted s t1 t2 (syncOffset s t1 t2)) k = rd s k := (rd_syncNoted s _ _ _ stat isr pend).trans (rd_syncTimes s _ _ _ ofs)
    unfold ptpOrigin
    rw [other _ (by decide) (by decide) (by decide) (by decide), other _ (by decide) (by decide) (by decide) (by decide)]
  · have bad : syncGood s (syncOffset s t1 t2) = 0 := if_neg (by omega)
    exact ⟨bad, ptpState_syncNoted_bad s _ _ _ bad⟩
  · have counted : syncGood s (syncOffset s t1 t2) = s.ptp.good + 1 := if_pos close
    have locked (enough : 15 ≤ s.ptp.good) := syncNoted_locked s t1 t2 (syncOffset s t1 t2) (by rw [counted]; omega)
    exact ⟨counted, fun enough => (locked enough).1, fun enough free => ended.causes 0 ((locked enough).2 free)⟩

theorem ptpSync_renews (far : s.ptp.originSet = false ∨ 1000000 < (syncOffset s t1 t2).natAbs) :
    rd (ptpSync s t1 t2) R.PTP_OFS = 0 ∧ ptpOrigin (ptpSync s t1 t2) = (codeOf 64 (t1 + s.ptp.delay - t2) : Nat) ∧
    (rd (ptpSync s t1 t2) (R.PG_ISR 0x7F)).getLsbD 2 = true := by
  have eq : ptpSync s t1 t2 = syncEnded (syncNoted (setOrigin s (t1 + s.ptp.delay - t2)) t1 t2 0) := ptpSync_renewed s far
  obtain ⟨-, -, -, -, -, -, -, -, ofs, -⟩ := syncEnded_shows (setOrigin s (t1 + s.ptp.delay - t2)) t1 t2 0
  have ended := servoKept_syncEnded (syncNoted (setOrigin s (t1 + s.ptp.delay - t2)) t1 t2 0)
  obtain ⟨-, -, -, -, -, -, renewed⟩ := setOrigin_keeps s (t1 + s.ptp.delay - t2)
  rw [eq]
  refine ⟨ofs.trans (by decide), (ptpOrigin_congr ended).trans (Eq.trans ?_ (ptpOrigin_setOrigin s _)), ended.causes 2 (causes_syncNoted _ _ _ _ renewed)⟩
  unfold ptpOrigin
  rw [rd_syncNoted _ _ _ _ (by decide) (by decide) (by decide), rd_syncNoted _ _ _ _ (by decide) (by decide) (by decide),
    rd_syncTimes _ _ _ _ (by decide), rd_syncTimes _ _ _ _ (by decide)]

theorem ptpSync_shows (t1 t2 : Int) (s : State) : (ptpSync s t1 t2).ptp.t1 = t1 ∧ (ptpSync s t1 t2).ptp.t2 = t2 ∧
    (ptpSync s t1 t2).ptp.originSet = true ∧ (ptpSync s t1 t2).ptp.syncAt = s.now ∧ (ptpSync s t1 t2).ptp.wait = none ∧
    (ptpSync s t1 t2).ptp.reqSeq = (s.ptp.reqSeq + 1) % 65536 ∧ SameBytes s (ptpSync s t1 t2) ∧ SamePoints s (ptpSync s t1 t2) ∧
    (following s = true → rd (ptpSync s t1 t2) R.TB_RATE = rd s R.TB_RATE) ∧
    (following s = false → -100000 ≤ (rd (ptpSync s t1 t2) R.TB_RATE).toInt ∧ (rd (ptpSync s t1 t2) R.TB_RATE).toInt ≤ 100000) := by
  by_cases near : s.ptp.originSet = true ∧ (syncOffset s t1 t2).natAbs ≤ 1000000
  · have eq : ptpSync s t1 t2 = syncEnded (syncNoted s t1 t2 (syncOffset s t1 t2)) := ptpSync_kept s near.1 near.2
    obtain ⟨first, second, set, at_, wait, seq, -, data, -, rate⟩ := syncEnded_shows s t1 t2 (syncOffset s t1 t2)
    obtain ⟨bytes, points⟩ := SameData.of_plantData data
    rw [eq]
    exact ⟨first, second, set, at_, wait, seq, bytes, points, rate⟩
  · have far : s.ptp.originSet = false ∨ 1000000 < (syncOffset s t1 t2).natAbs := by
      rcases set : s.ptp.originSet with _ | _
      · exact .inl rfl
      · exact .inr (Nat.not_le.mp fun close => near ⟨set, close⟩)
    have eq : ptpSync s t1 t2 = syncEnded (syncNoted (setOrigin s (t1 + s.ptp.delay - t2)) t1 t2 0) := ptpSync_renewed s far
    obtain ⟨first, second, set, at_, wait, seq, -, data, -, rate⟩ := syncEnded_shows (setOrigin s (t1 + s.ptp.delay - t2)) t1 t2 0
    obtain ⟨plant, ptp, now, twin, word, stat, -⟩ := setOrigin_keeps s (t1 + s.ptp.delay - t2)
    obtain ⟨bytes, points⟩ := SameData.of_plantData (data.trans plant)
    rw [following_congr twin stat, word] at rate
    rw [eq]
    exact ⟨first, second, set, at_.trans now, wait, seq.trans (by rw [ptp]), bytes, points, rate⟩

end

/-! ## The servo's messages from its master -/

section
variable {s : State} {d : Byte} {src : BitVec 80} {seq : BitVec 16} {origin corr stamp : Int} (here : ptpHere s d = true)
  (master : fromMaster s src = true)
include here master

theorem sync_heard (two : Bool) : exec (.ptpMessage (.sync d src seq two origin corr stamp)) s =
    .next (if two then setPtp s { s.ptp with wait := some (seq.toNat, stamp, corr) } else ptpSync s (origin + corr) stamp) := by
  rw [exec_sync, here, master]
  rfl

theorem followUp_heard : exec (.ptpMessage (.followUp d src seq origin corr)) s = .next (match s.ptp.wait with
    | some (q, t2, c) => if q = seq.toNat then ptpSync s (origin + c + corr) t2 else s
    | none => s) := by
  rw [exec_followUp, here, master]
  rfl

theorem followUp_completes {t2 c : Int} (wait : s.ptp.wait = some (seq.toNat, t2, c)) : exec (.ptpMessage (.followUp d src seq origin corr)) s =
    exec (.ptpMessage (.sync d src seq false (origin + c) corr t2)) s := by
  rw [followUp_heard here master, sync_heard here master, wait]
  simp

theorem followUp_other {n : Nat} {t2 c : Int} (wait : s.ptp.wait = some (n, t2, c)) (other : n ≠ seq.toNat) :
    exec (.ptpMessage (.followUp d src seq origin corr)) s = .next s := by
  rw [followUp_heard here master, wait]
  simp [other]

theorem delayResp_measures {t3 : Int} (own : seq.toNat = s.ptp.reqSeq) (sent : s.ptp.t3 = some t3) :
    ∃ t, exec (.ptpMessage (.delayResp d src seq origin corr)) s = .next t ∧
      t.ptp = { s.ptp with delay := ((s.ptp.t2 - s.ptp.t1) + (origin - corr - t3)) / 2, t3 := none } ∧
      rd t R.PTP_DELAY = BitVec.ofInt 32 (((s.ptp.t2 - s.ptp.t1) + (origin - corr - t3)) / 2) ∧ SameRegs [R.PTP_DELAY] s t ∧
      SameBytes s t ∧ SamePoints s t := by
  rw [exec_delayResp, here, master, sent, own]
  simp only [Bool.not_true, Bool.or_self, bne_self_eq_false, Bool.false_eq_true, if_false]
  generalize ((s.ptp.t2 - s.ptp.t1) + (origin - corr - t3)) / 2 = y
  exact ⟨_, rfl, rfl, rd_wr_same _ _ _, fun k out => rd_wr_ne _ _ (fun e => out (e ▸ List.mem_cons_self)), SameData.of_plantData rfl⟩

end

end Sys2Proof.Machine
end

section
/-! SUPPORT. The servo's timeouts, the calendar and its alarm, and the backup domain (R443 to R451). -/

namespace Sys2Proof.Machine

open Sys2Proof.Safety

/-! ## Timeouts (R443) -/

section
variable {s : State}

theorem announceTimeout_none (idle : s.ptp.master = none ∨ ptpOn s = false) : announceTimeout s = s := by
  unfold announceTimeout
  split
  next m master => exact if_pos (.inl (by simp [idle.resolve_left (by simp [master])]))
  next => rfl

theorem announceTimeout_listens {m : PtpAnnounce} (master : s.ptp.master = some m) (on : ptpOn s = true) (locked : ptpState s ≠ ptLISTENING) :
    ∃ t, exec .ptpAnnounceTimeout s = .next t ∧ ptpState t = ptLISTENING ∧ t.ptp = s.ptp ∧ s.now ≤ t.now ∧ SameRegs [R.PTP_STAT] s t ∧
      SameBytes s t ∧ SamePoints s t := by
  have listens : announceTimeout s =
      setPtpState (advanceTo s (s.ptp.announceAt + BitVec.ofNat 64 (3 * announceCounts m))) ptLISTENING := by
    unfold announceTimeout
    simp only [master, on, locked, Bool.not_true, Bool.false_eq_true, or_self, if_false]
  generalize s.ptp.announceAt + BitVec.ofNat 64 (3 * announceCounts m) = at_ at listens
  have shown := onlyRegs_setFld (ks := [R.PTP_STAT]) (advanceTo s at_) F.PTP_STAT_STATE ptLISTENING List.mem_cons_self
  exact ⟨_, congrArg Host.Outcome.next listens, ptpState_setPtpState _ (by decide), advanceTo_ptp s at_, (le_advanceTo s at_).1,
    fun k out => (shown.regs k out).trans (rd_advanceTo s at_ k),
    SameData.of_plantData ((plantData_of_regsAndEvents shown.regsAndEvents).trans (plantData_advanceTo s at_))⟩

theorem syncTimeout_none (idle : ptpOn s = false ∨ ptpState s ≠ ptSLAVE) : syncTimeout s = s :=
  if_pos (idle.imp_left (fun off => by simp [off]))

/-- The servo holds over from an instant on. -/
def heldOver (s : State) (at_ : DWord) : State :=
  raiseBit (setPtpState (setPtp (advanceTo s at_) { (advanceTo s at_).ptp with good := 0 }) ptHOLDOVER) 0x7F 1

theorem heldOver_shows (s : State) (at_ : DWord) : ptpState (heldOver s at_) = ptHOLDOVER ∧
    (rd (heldOver s at_) (R.PG_ISR 0x7F)).getLsbD 1 = true ∧ rd (heldOver s at_) R.TB_RATE = rd s R.TB_RATE ∧
    (heldOver s at_).ptp = { s.ptp with good := 0 } ∧ SameBytes s (heldOver s at_) ∧ SamePoints s (heldOver s at_) := by
  have reset (u : State) (x : Ptp) (k : Nat) : rd (setPtp u x) k = rd u k := rfl
  have data (u : State) (x : Ptp) : plantData (setPtpState (setPtp u x) ptHOLDOVER) = plantData u := rfl
  refine ⟨?_, raiseBit_isr_bit _ (by decide) (by decide), ?_, ?_, SameData.of_plantData ?_⟩
  · rw [heldOver, ptpState, fld, rd_raiseBit_ne _ (by decide) (by decide)]
    exact ptpState_setPtpState _ (by decide)
  · rw [heldOver, rd_raiseBit_ne _ (by decide) (by decide), setPtpState, rd_setFld_ne _ _ _ (by decide), reset, rd_advanceTo]
  · rw [heldOver, raiseBit_ptp, setPtpState, setFld_ptp, advanceTo_ptp]
    rfl
  · rw [heldOver, plantData_raiseBit, data, plantData_advanceTo]

theorem syncTimeout_holds (on : ptpOn s = true) (slave : ptpState s = ptSLAVE) : ∃ t, exec .ptpSyncTimeout s = .next t ∧ ptpState t = ptHOLDOVER ∧
    (rd t (R.PG_ISR 0x7F)).getLsbD 1 = true ∧ rd t R.TB_RATE = rd s R.TB_RATE ∧ t.ptp = { s.ptp with good := 0 } ∧ SameBytes s t ∧ SamePoints s t := by
  have holds : syncTimeout s = heldOver s (s.ptp.syncAt + 300000000) := by
    generalize at_ : s.ptp.syncAt + 300000000 = a
    unfold syncTimeout
    rw [if_neg (by simp [on, slave]), at_]
    rfl
  exact ⟨_, congrArg Host.Outcome.next holds, heldOver_shows s _⟩

end

/-! ## What leaves the calendar alone -/

/-- An update beside the calendar: the registers of its page, its own state and its causes stay. -/
structure CalendarKept (s t : State) : Prop where
  rtc : t.rtc = s.rtc
  regs : ∀ k, keyPage k = 0x04 → k ≠ R.PG_ISR 0x04 → rd t k = rd s k
  causes : ∀ n, (rd s (R.PG_ISR 0x04)).getLsbD n = true → (rd t (R.PG_ISR 0x04)).getLsbD n = true

section
variable {s t u : State}

theorem CalendarKept.refl (s : State) : CalendarKept s s := ⟨rfl, fun _ _ _ => rfl, fun _ h => h⟩

theorem CalendarKept.trans (h : CalendarKept s t) (k : CalendarKept t u) : CalendarKept s u :=
  ⟨k.rtc.trans h.rtc, fun x page isr => (k.regs x page isr).trans (h.regs x page isr), fun n set => k.causes n (h.causes n set)⟩

theorem CalendarKept.fld (h : CalendarKept s t) {k : Nat} (page : keyPage k = 0x04) (isr : k ≠ R.PG_ISR 0x04) (f : Fld) :
    fld t k f = Machine.fld s k f := congrArg (bits · f.hi f.lo) (h.regs k page isr)

theorem calendarKept_of_page (rtc : t.rtc = s.rtc) (regs : ∀ k, keyPage k = 0x04 → rd t k = rd s k) : CalendarKept s t :=
  ⟨rtc, fun k page _ => regs k page, fun n set => by rwa [regs _ (keyPage_PG_ISR (by decide))]⟩

theorem calendarKept_wr (s : State) {k : Nat} (v : Word) (other : keyPage k ≠ 0x04) : CalendarKept s (wr s k v) :=
  calendarKept_of_page rfl fun _ page => rd_wr_ne s v fun e => other (e ▸ page)

theorem keyPage_pend {i : Nat} (hi : i < 16) : keyPage (R.EVT_PEND i) = 0x07 := keyPage_regKey (by decide) (by omega) 0

theorem calendarKept_raiseBit (s : State) {page : Nat} (hp : page < 256) (n : Nat) : CalendarKept s (raiseBit s page n) where
  rtc := raiseBit_rtc s page n
  regs k inside isr := by
    by_cases e : page = 4
    · rw [e]
      exact rd_raiseBit_ne s isr fun p => absurd (inside.symm.trans (p ▸ keyPage_pend (by decide))) (by decide)
    · refine rd_raiseBit_ne s (fun p => e ?_) fun p => absurd (inside.symm.trans (p ▸ keyPage_pend (by omega))) (by decide)
      rw [p, keyPage_PG_ISR hp] at inside
      exact inside
  causes b set := isr_raiseBit_mono s hp n set

theorem calendarKept_evtSet (s : State) {src : Nat} (hs : src < 512) : CalendarKept s (evtSet s src) := by
  have event := regsAndEvents_evtSet [] s src
  refine calendarKept_of_page (by rw [event.rest]) fun k page => rd_evtSet_ne s fun e => ?_
  rw [e, keyPage_pend (by omega)] at page
  exact absurd page (by decide)

theorem calendarKept_discardRequest (s : State) : CalendarKept s (discardRequest s) := by
  unfold discardRequest
  dsimp only
  split
  · exact (((calendarKept_wr s _ (by decide)).trans (calendarKept_wr _ _ (by decide))).trans (calendarKept_wr _ _ (by decide))).trans
      (calendarKept_raiseBit _ (by decide) 1)
  · exact CalendarKept.refl s

theorem calendarKept_wakeEvent (s : State) (f : Fld) : CalendarKept s (wakeEvent s f) := by
  have woken : CalendarKept s { s with wake := true } := calendarKept_of_page rfl fun _ _ => rfl
  unfold wakeEvent
  split
  · exact CalendarKept.refl s
  · split
    · exact woken.trans (calendarKept_evtSet _ (by decide))
    · split
      · exact calendarKept_discardRequest s
      · exact CalendarKept.refl s

theorem plantData_evtSet (s : State) (src : Nat) : plantData (evtSet s src) = plantData s := plantData_of_regsAndEvents (regsAndEvents_evtSet [] s src)

theorem plantData_wakeEvent (s : State) (f : Fld) : plantData (wakeEvent s f) = plantData s := by
  unfold wakeEvent
  split
  · rfl
  · split
    · exact (plantData_evtSet _ _).trans rfl
    · split
      · exact (pageUpdate_discardRequest s).data
      · rfl

theorem calendarKept_of_aside (h : Aside keptPages s t) : CalendarKept s t :=
  calendarKept_of_page h.rtc fun k page => h.regs k (by rw [page]; decide)

end

/-! ## The alarm (R448, R449) -/

section
variable (s : State) (cause : Nat)

/-- The alarm is shown as fired. -/
def alarmShown : State := raiseBit (setFld (setFld s R.RTC_STAT F.RTC_STAT_FIRED 1) R.RTC_STAT F.RTC_STAT_ACAUSE cause) 0x04 0

theorem fireAlarm_eq : fireAlarm s cause = wakeEvent (if flag (alarmShown s cause) R.RTC_CTRL F.RTC_CTRL_WAKE ∧ modeNow (alarmShown s cause) ≠ 0
    then evtSet (alarmShown s cause) 0x130 else alarmShown s cause) F.SYS_DOZECFG_ALARM := rfl

theorem calendarKept_fired : CalendarKept (alarmShown s cause) (fireAlarm s cause) := by
  rw [fireAlarm_eq]
  split
  · exact (calendarKept_evtSet _ (by decide)).trans (calendarKept_wakeEvent _ _)
  · exact calendarKept_wakeEvent _ _

theorem plantData_fireAlarm : plantData (fireAlarm s cause) = plantData s := by
  have shown : plantData (alarmShown s cause) = plantData s := (plantData_raiseBit _ _ _).trans rfl
  rw [fireAlarm_eq, plantData_wakeEvent]
  split
  · rw [plantData_evtSet, shown]
  · exact shown

theorem rtc_fireAlarm : (fireAlarm s cause).rtc = s.rtc := (calendarKept_fired s cause).rtc.trans ((raiseBit_rtc _ _ _).trans rfl)

/-- Firing touches RTC_STAT alone of the calendar's registers. -/
theorem rd_fireAlarm {k : Nat} (page : keyPage k = 0x04) (isr : k ≠ R.PG_ISR 0x04) (stat : k ≠ R.RTC_STAT) : rd (fireAlarm s cause) k = rd s k := by
  have pend : k ≠ R.EVT_PEND 0 := fun e => absurd (page.symm.trans (e ▸ keyPage_pend (by decide))) (by decide)
  rw [(calendarKept_fired s cause).regs k page isr, alarmShown, rd_raiseBit_ne _ isr pend, rd_setFld_ne _ _ _ stat, rd_setFld_ne _ _ _ stat]

theorem stat_fireAlarm (f : Fld) : fld (fireAlarm s cause) R.RTC_STAT f =
    fld (setFld (setFld s R.RTC_STAT F.RTC_STAT_FIRED 1) R.RTC_STAT F.RTC_STAT_ACAUSE cause) R.RTC_STAT f := by
  rw [(calendarKept_fired s cause).fld (by decide) (by decide)]
  exact congrArg (bits · f.hi f.lo) (rd_raiseBit_ne _ (by decide) (by decide))

theorem stat_fireAlarm_other {f : Fld} (high : 4 ≤ f.lo) : fld (fireAlarm s cause) R.RTC_STAT f = fld s R.RTC_STAT f := by
  have fired : F.RTC_STAT_FIRED.hi < f.lo := Nat.lt_of_lt_of_le (by decide) high
  have told : F.RTC_STAT_ACAUSE.hi < f.lo := Nat.lt_of_lt_of_le (by decide) high
  rw [stat_fireAlarm, fld_setFld_other _ _ _ _ _ (by decide) (by decide) (.inr told), fld_setFld_other _ _ _ _ _ (by decide) (by decide) (.inr fired)]

theorem fireAlarm_fires {s : State} : flag (fireAlarm s 1) R.RTC_STAT F.RTC_STAT_FIRED = true ∧ fld (fireAlarm s 1) R.RTC_STAT F.RTC_STAT_ACAUSE = 1 ∧
    (rd (fireAlarm s 1) (R.PG_ISR 0x04)).getLsbD 0 = true := by
  refine ⟨?_, ?_, (calendarKept_fired s 1).causes 0 (raiseBit_isr_bit _ (by decide) (by decide))⟩
  · rw [flag, stat_fireAlarm, fld_setFld_other _ _ _ _ _ (by decide) (by decide) (by decide), fld_setFld_same _ _ _ _ (by decide) (by decide)]
    rfl
  · rw [stat_fireAlarm, fld_setFld_same _ _ _ _ (by decide) (by decide)]
    rfl

end

/-! ## The rollover (R444, R446, R447) -/

section
variable (s : State)

/-- The calendar's second has rolled over. -/
def secondRolled (n : Word × Word) : State := captureTb (wr (wr s R.RTC_DATE n.1) R.RTC_TIME n.2)

theorem rtcRollover_rolls (free : rtcHeld s = false) : rtcRollover s = alarmNow (secondRolled s (nextSecond (rd s R.RTC_DATE) (rd s R.RTC_TIME))) := by
  unfold rtcRollover
  rw [free]
  rfl

variable {s} in
theorem captureTb_captures (powered : modeNow s ≠ 0) : rd (captureTb s) (R.RTC_TBCAP 0) = s.now.setWidth 32 ∧
    rd (captureTb s) (R.RTC_TBCAP 1) = (s.now >>> 32).setWidth 32 := by
  unfold captureTb
  rw [if_neg powered]
  exact ⟨(rd_wr_ne _ _ (by decide)).trans (rd_wr_same _ _ _), rd_wr_same _ _ _⟩

theorem rd_captureTb {k : Nat} (low : k ≠ R.RTC_TBCAP 0) (high : k ≠ R.RTC_TBCAP 1) : rd (captureTb s) k = rd s k := by
  unfold captureTb
  split
  · rfl
  · exact (rd_wr_ne _ _ high).trans (rd_wr_ne _ _ low)

theorem plantData_captureTb : plantData (captureTb s) = plantData s := by
  unfold captureTb
  split <;> rfl

theorem rd_secondRolled (n : Word × Word) {k : Nat} (date : k ≠ R.RTC_DATE) (time : k ≠ R.RTC_TIME) (low : k ≠ R.RTC_TBCAP 0)
    (high : k ≠ R.RTC_TBCAP 1) : rd (secondRolled s n) k = rd s k :=
  (rd_captureTb _ low high).trans ((rd_wr_ne _ _ time).trans (rd_wr_ne _ _ date))

theorem date_secondRolled (n : Word × Word) : rd (secondRolled s n) R.RTC_DATE = n.1 ∧ rd (secondRolled s n) R.RTC_TIME = n.2 :=
  ⟨(rd_captureTb _ (by decide) (by decide)).trans ((rd_wr_ne _ _ (by decide)).trans (rd_wr_same _ _ _)),
    (rd_captureTb _ (by decide) (by decide)).trans (rd_wr_same _ _ _)⟩

variable {s} in
theorem capture_secondRolled (n : Word × Word) (powered : modeNow s ≠ 0) : rd (secondRolled s n) (R.RTC_TBCAP 0) = s.now.setWidth 32 ∧
    rd (secondRolled s n) (R.RTC_TBCAP 1) = (s.now >>> 32).setWidth 32 := by
  have mode : modeNow (wr (wr s R.RTC_DATE n.1) R.RTC_TIME n.2) = modeNow s := (fld_wr_ne _ _ _ (by decide)).trans (fld_wr_ne _ _ _ (by decide))
  exact captureTb_captures (by rwa [mode])

/-- The alarm looks at its own registers. -/
theorem alarmMatch_congr {s t : State} (time : rd t R.RTC_ALMT = rd s R.RTC_ALMT) (date : rd t R.RTC_ALMD = rd s R.RTC_ALMD) (d x : Word) :
    alarmMatch t d x = alarmMatch s d x := by
  unfold alarmMatch alarmDay alarmTime
  rw [time, date]

/-- The alarm is enabled and has not fired, as the statement spells it. -/
abbrev Armed (s : State) : Prop := flag s R.RTC_CTRL F.RTC_CTRL_ALM_EN = true ∧ flag s R.RTC_STAT F.RTC_STAT_FIRED = false

theorem alarmArmed_iff : alarmArmed s = true ↔ Armed s := by
  unfold alarmArmed Armed
  simp

theorem alarmNow_fires (armed : Armed s) (hit : alarmMatch s (rd s R.RTC_DATE) (rd s R.RTC_TIME) = true) : alarmNow s = fireAlarm s 1 :=
  if_pos ⟨(alarmArmed_iff s).mpr armed, hit⟩

theorem alarmNow_silent (silent : ¬ Armed s ∨ alarmMatch s (rd s R.RTC_DATE) (rd s R.RTC_TIME) = false) : alarmNow s = s :=
  if_neg fun h => silent.elim (fun unarmed => unarmed ((alarmArmed_iff s).mp h.1)) (fun miss => by simp [miss] at h)

theorem rtcRollover_advances (free : rtcHeld s = false) : let n := nextSecond (rd s R.RTC_DATE) (rd s R.RTC_TIME)
    ∃ t, exec .rtcSecondRollover s = .next t ∧ rd t R.RTC_DATE = n.1 ∧ rd t R.RTC_TIME = n.2 ∧ (SameBytes s t ∧ SamePoints s t) ∧
      (modeNow s ≠ 0 → rd t (R.RTC_TBCAP 0) = s.now.setWidth 32 ∧ rd t (R.RTC_TBCAP 1) = (s.now >>> 32).setWidth 32) ∧
      (Armed s → alarmMatch s n.1 n.2 = true → flag t R.RTC_STAT F.RTC_STAT_FIRED = true ∧ fld t R.RTC_STAT F.RTC_STAT_ACAUSE = 1 ∧
        (rd t (R.PG_ISR 0x04)).getLsbD 0 = true) ∧
      (¬ Armed s ∨ alarmMatch s n.1 n.2 = false → rd t R.RTC_STAT = rd s R.RTC_STAT) := by
  intro n
  obtain ⟨date, time⟩ := date_secondRolled s n
  have other (k : Nat) (d : k ≠ R.RTC_DATE) (x : k ≠ R.RTC_TIME) (low : k ≠ R.RTC_TBCAP 0) (high : k ≠ R.RTC_TBCAP 1) :=
    rd_secondRolled s n d x low high
  have armed : Armed (secondRolled s n) ↔ Armed s := by
    unfold Armed flag fld
    rw [other _ (by decide) (by decide) (by decide) (by decide), other _ (by decide) (by decide) (by decide) (by decide)]
  have hits : alarmMatch (secondRolled s n) (rd (secondRolled s n) R.RTC_DATE) (rd (secondRolled s n) R.RTC_TIME) = alarmMatch s n.1 n.2 := by
    rw [date, time]
    exact alarmMatch_congr (other _ (by decide) (by decide) (by decide) (by decide)) (other _ (by decide) (by decide) (by decide) (by decide)) _ _
  have data : plantData (secondRolled s n) = plantData s := (plantData_captureTb _).trans rfl
  refine ⟨_, congrArg Host.Outcome.next (rtcRollover_rolls s free), ?_⟩
  by_cases fires : Armed s ∧ alarmMatch s n.1 n.2 = true
  · have kept {k : Nat} (page : keyPage k = 0x04) (isr : k ≠ R.PG_ISR 0x04) (stat : k ≠ R.RTC_STAT) := rd_fireAlarm (secondRolled s n) 1 page isr stat
    rw [alarmNow_fires _ (armed.mpr fires.1) (hits.trans fires.2), kept (by decide) (by decide) (by decide), kept (by decide) (by decide) (by decide),
      kept (by decide) (by decide) (by decide), kept (by decide) (by decide) (by decide)]
    exact ⟨date, time, SameData.of_plantData ((plantData_fireAlarm _ _).trans data), capture_secondRolled n, fun _ _ => fireAlarm_fires,
      fun silent => absurd fires (by rw [not_and_or, Bool.not_eq_true]; exact silent)⟩
  · have silent : ¬ Armed s ∨ alarmMatch s n.1 n.2 = false := by rwa [not_and_or, Bool.not_eq_true] at fires
    rw [alarmNow_silent _ (by rwa [armed, hits])]
    exact ⟨date, time, SameData.of_plantData data, capture_secondRolled n, fun a h => absurd ⟨a, h⟩ fires,
      fun _ => other _ (by decide) (by decide) (by decide) (by decide)⟩

end

/-! ## Held and released (R445, R449) -/

section
variable {v : Word}

theorem withBits_hold (v : Word) : withBits v 0 0 1 = v ||| 1 := by
  have mask : ∀ i : Fin 32, (1 : Word).getLsbD i.val = decide (i.val = 0) := by decide
  refine BitVec.eq_of_getLsbD_eq fun i hi => ?_
  rw [withBits_getLsbD _ _ _ (by decide) (by decide), BitVec.getLsbD_or, mask ⟨i, hi⟩]
  by_cases first : i = 0
  · simp [first]
  · rw [if_neg (by omega)]
    simp [first]

theorem withBits_release (v : Word) : withBits v 0 0 0 = v &&& 0xFFFFFFFE := by
  have mask : ∀ i : Fin 32, (0xFFFFFFFE : Word).getLsbD i.val = decide (i.val ≠ 0) := by decide
  refine BitVec.eq_of_getLsbD_eq fun i hi => ?_
  rw [withBits_getLsbD _ _ _ (by decide) (by decide), BitVec.getLsbD_and, mask ⟨i, hi⟩]
  by_cases first : i = 0
  · simp [first]
  · rw [if_neg (by omega)]
    simp [first]

theorem hold_legal (legal : v &&& 0xFFFFFFE2 = 0) : (v ||| 1) &&& ~~~0x1D = 0 := by
  have mask : (~~~0x1D : Word) = 0xFFFFFFE2 := by decide
  rw [mask, BitVec.and_comm, BitVec.and_or_distrib_left, BitVec.and_comm, legal]
  decide

theorem release_legal (legal : v &&& 0xFFFFFFE2 = 0) : (v &&& 0xFFFFFFFE) &&& ~~~0x1D = 0 := by
  have mask : (0xFFFFFFFE : Word) &&& ~~~0x1D = 0xFFFFFFE2 := by decide
  rw [BitVec.and_assoc, mask, legal]

theorem bit_hold (v : Word) : bit (v ||| 1) 0 = true := by
  rw [← withBits_hold, bit_withBits _ _ _ (by decide) (by decide)]
  rfl

theorem bit_release (v : Word) : bit (v &&& 0xFFFFFFFE) 0 = false := by
  rw [← withBits_release, bit_withBits _ _ _ (by decide) (by decide)]
  rfl

end

section
variable (s : State)

/-- A sample touches RTC_SUBSEC alone, and nothing while the calendar is held. -/
theorem sampleSubsec_held (held : rtcHeld s = true) : sampleSubsec s = s := if_pos held

theorem sampleSubsec_keeps : plantData (sampleSubsec s) = plantData s ∧ (sampleSubsec s).rtc = s.rtc ∧ (sampleSubsec s).holds = s.holds ∧
    SameRegs [R.RTC_SUBSEC] s (sampleSubsec s) := by
  unfold sampleSubsec
  split
  · exact ⟨rfl, rfl, rfl, fun _ _ => rfl⟩
  · exact ⟨rfl, rfl, rfl, fun k out => rd_wr_ne { s with free := s.free + 1 } _ fun e => out (e ▸ List.mem_cons_self)⟩

/-- The stage is empty. -/
def stageCleared : State := { s with rtc := { s.rtc with stageDate := none, stageTime := none } }

theorem rd_stageCleared (k : Nat) : rd (stageCleared s) k = rd s k := rfl
theorem plantData_stageCleared : plantData (stageCleared s) = plantData s := rfl
theorem meter_stageCleared : (stageCleared s).meter = s.meter := rfl
theorem stage_stageCleared : (stageCleared s).rtc.stageDate = none ∧ (stageCleared s).rtc.stageTime = none := ⟨rfl, rfl⟩

theorem rtcHold_eq : rtcHold s = stageCleared (setFld (sampleSubsec s) R.RTC_STAT F.RTC_STAT_HELD 1) := rfl

theorem rtcHold_freezes : rtcHeld (rtcHold s) = true ∧ SameRegs [R.RTC_STAT, R.RTC_SUBSEC] s (rtcHold s) ∧ plantData (rtcHold s) = plantData s ∧
    (rtcHold s).rtc.stageDate = none ∧ (rtcHold s).rtc.stageTime = none := by
  obtain ⟨data, -, -, regs⟩ := sampleSubsec_keeps s
  have shown := onlyRegs_setFld (ks := [R.RTC_STAT]) (sampleSubsec s) F.RTC_STAT_HELD 1 List.mem_cons_self
  rw [rtcHold_eq]
  refine ⟨?_, fun k out => ?_, ?_, rfl, rfl⟩
  · rw [rtcHeld, flag, fld, rd_stageCleared, ← fld, fld_setFld_same _ _ _ _ (by decide) (by decide)]
    rfl
  · simp only [List.mem_cons, List.not_mem_nil, or_false, not_or] at out
    rw [rd_stageCleared, shown.regs k (by simp [out.1]), regs k (by simp [out.2])]
  · rw [plantData_stageCleared, plantData_of_regsAndEvents shown.regsAndEvents, data]

end

section
variable {s : State} {q : Requester} {v : Word} (hr : Reaches s q 0x04 0x48) (legal : v &&& 0xFFFFFFE2 = 0)

theorem ctrlWrite_hold (legal : v &&& 0xFFFFFFE2 = 0) : rtcCtrlWrite s (withBits v 0 0 1) =
    (if rtcHeld s = false then rtcHold (wr s R.RTC_CTRL (v ||| 1)) else wr s R.RTC_CTRL (v ||| 1), .none) := by
  rw [withBits_hold]
  unfold rtcCtrlWrite
  simp only [hold_legal legal, bit_hold]
  cases rtcHeld s <;> simp

theorem ctrlWrite_release (legal : v &&& 0xFFFFFFE2 = 0) (exists_ : rtcHeld s = true → dateExists (s.rtc.stageDate.getD (rd s R.RTC_DATE)) = true) :
    rtcCtrlWrite s (withBits v 0 0 0) =
      (if rtcHeld s = true then rtcRelease (wr s R.RTC_CTRL (v &&& 0xFFFFFFFE)) else wr s R.RTC_CTRL (v &&& 0xFFFFFFFE), .none) := by
  rw [withBits_release]
  unfold rtcCtrlWrite
  simp only [release_legal legal, bit_release]
  cases held : rtcHeld s
  · simp
  · simp [exists_ held]

theorem ctrlWrite_release_bad (legal : v &&& 0xFFFFFFE2 = 0) (held : rtcHeld s = true)
    (unreal : dateExists (s.rtc.stageDate.getD (rd s R.RTC_DATE)) = false) : rtcCtrlWrite s (withBits v 0 0 0) = (s, .illegalValue) := by
  rw [withBits_release]
  unfold rtcCtrlWrite
  simp only [release_legal legal, bit_release]
  simp [held, unreal]

theorem rtcHeld_wr_CTRL (s : State) (w : Word) : rtcHeld (wr s R.RTC_CTRL w) = rtcHeld s := congrArg (· != 0) (fld_wr_ne s w _ (by decide))

include hr legal

theorem rtcHold_holds : ∃ t, exec (.rtcHold q v) s = .next t ∧ Accepted t ∧ rd t R.RTC_CTRL = v ||| 1 ∧ rtcHeld t = true ∧
    rd t R.RTC_DATE = rd s R.RTC_DATE ∧ rd t R.RTC_TIME = rd s R.RTC_TIME ∧ (rtcHeld s = true → t.rtc = s.rtc) ∧
    (rtcHeld s = false → t.rtc.stageDate = none ∧ t.rtc.stageTime = none) ∧ SameRegs [R.RTC_CTRL, R.RTC_STAT, R.RTC_SUBSEC] s t ∧
    (SameBytes s t ∧ SamePoints s t) := by
  have written := (onlyRegs_wr s (ks := [R.RTC_CTRL, R.RTC_STAT, R.RTC_SUBSEC]) (k := R.RTC_CTRL) (v ||| 1) List.mem_cons_self)
  refine ⟨_, congrArg Host.Outcome.next (gated_taken (k := fun s => rtcCtrlWrite s (withBits v 0 0 1)) hr (ctrlWrite_hold legal)), rfl, ?_⟩
  cases held : rtcHeld s
  · obtain ⟨frozen, regs, data, date, time⟩ := rtcHold_freezes (wr s R.RTC_CTRL (v ||| 1))
    have all : SameRegs [R.RTC_CTRL, R.RTC_STAT, R.RTC_SUBSEC] s (rtcHold (wr s R.RTC_CTRL (v ||| 1))) :=
      SameRegs.trans written.regs fun k out => regs k (fun mem => out (List.mem_cons_of_mem _ mem))
    exact ⟨(regs _ (by decide)).trans (rd_wr_same _ _ _), frozen, all _ (by decide), all _ (by decide), fun h => absurd h (by decide),
      fun _ => ⟨date, time⟩, all, SameData.of_plantData (s := s) (t := rtcHold (wr s R.RTC_CTRL (v ||| 1))) (data.trans rfl)⟩
  · exact ⟨rd_wr_same _ _ _, (rtcHeld_wr_CTRL s _).trans held, written.regs _ (by decide), written.regs _ (by decide), fun _ => rfl,
      fun h => absurd h (by decide), written.regs,
      SameData.of_plantData (s := s) (t := wr s R.RTC_CTRL (v ||| 1)) rfl⟩

theorem rtcRelease_free (free : rtcHeld s = false) : ∃ t, exec (.rtcRelease q v) s = .next t ∧ Accepted t ∧ rd t R.RTC_CTRL = v &&& 0xFFFFFFFE ∧
    OnlyRegs [R.RTC_CTRL] s t := by
  have taken : rtcCtrlWrite s (withBits v 0 0 0) = (wr s R.RTC_CTRL (v &&& 0xFFFFFFFE), .none) := by
    rw [ctrlWrite_release legal (fun held => absurd (held.symm.trans free) (by decide)), if_neg (by rw [free]; decide)]
  exact ⟨_, congrArg Host.Outcome.next (gated_taken (k := fun s => rtcCtrlWrite s (withBits v 0 0 0)) hr taken), rfl, rd_wr_same _ _ _,
    (onlyRegs_wr s _ List.mem_cons_self).trans (onlyRegs_answer _ _ _)⟩

theorem rtcRelease_unreal (held : rtcHeld s = true) (unreal : dateExists (s.rtc.stageDate.getD (rd s R.RTC_DATE)) = false) :
    ∃ t, exec (.rtcRelease q v) s = .next t ∧ Rejected s t 0x04 0x48 .illegalValue :=
  ⟨_, rfl, gated_turned (k := fun s => rtcCtrlWrite s (withBits v 0 0 0)) hr (by decide) (ctrlWrite_release_bad legal held unreal)⟩

end

/-! ### The release of a held calendar -/

/-- An update that may fire the alarm, and touches nothing else of the calendar. -/
structure AlarmOnly (s t : State) : Prop where
  rtc : t.rtc = s.rtc
  regs : ∀ k, keyPage k = 0x04 → k ≠ R.PG_ISR 0x04 → k ≠ R.RTC_STAT → rd t k = rd s k
  stat : ∀ f : Fld, 4 ≤ f.lo → fld t R.RTC_STAT f = fld s R.RTC_STAT f

section
variable {s t u : State}

theorem AlarmOnly.refl (s : State) : AlarmOnly s s := ⟨rfl, fun _ _ _ _ => rfl, fun _ _ => rfl⟩

theorem AlarmOnly.trans (h : AlarmOnly s t) (k : AlarmOnly t u) : AlarmOnly s u :=
  ⟨k.rtc.trans h.rtc, fun n page isr stat => (k.regs n page isr stat).trans (h.regs n page isr stat),
    fun f high => (k.stat f high).trans (h.stat f high)⟩

theorem CalendarKept.alarmOnly (h : CalendarKept s t) : AlarmOnly s t :=
  ⟨h.rtc, fun k page isr _ => h.regs k page isr, fun f _ => h.fld (by decide) (by decide) f⟩

theorem alarmOnly_fireAlarm (s : State) (cause : Nat) : AlarmOnly s (fireAlarm s cause) :=
  ⟨rtc_fireAlarm s cause, fun _ page isr stat => rd_fireAlarm s cause page isr stat, fun _ high => stat_fireAlarm_other s cause high⟩

/-- A skipped alarm is shown. -/
def skipShown (s : State) : State := raiseBit (setFld s R.RTC_STAT F.RTC_STAT_ALARM_SKIPPED 1) 0x04 1

theorem alarmOnly_skipShown (s : State) : AlarmOnly s (skipShown s) := by
  have shown : AlarmOnly s (setFld s R.RTC_STAT F.RTC_STAT_ALARM_SKIPPED 1) :=
    ⟨rfl, fun k _ _ stat => rd_setFld_ne s _ _ stat, fun f high => fld_setFld_other s _ _ _ _ (by decide) (by decide)
      (.inr (Nat.lt_of_lt_of_le (by decide) high))⟩
  exact shown.trans (calendarKept_raiseBit _ (by decide) 1).alarmOnly

theorem alarmOnly_ite {c : Prop} [Decidable c] (h : AlarmOnly s t) (k : AlarmOnly s u) : AlarmOnly s (if c then t else u) := by
  split
  · exact h
  · exact k

theorem alarmOnly_alarmMoved (s : State) (date time : Word) : AlarmOnly s (alarmMoved s date time) := by
  have skipped (c : Prop) [Decidable c] : AlarmOnly s (if c then skipShown s else s) := alarmOnly_ite (alarmOnly_skipShown s) (AlarmOnly.refl s)
  unfold alarmMoved
  exact alarmOnly_ite (AlarmOnly.refl s) (alarmOnly_ite ((skipped _).trans (alarmOnly_fireAlarm _ 1))
    (alarmOnly_ite ((skipped _).trans (alarmOnly_fireAlarm _ 2)) (skipped _)))

theorem alarmMoved_fires (s : State) (date time : Word) (armed : Armed s) (hit : alarmMatch s (rd s R.RTC_DATE) (rd s R.RTC_TIME) = true) :
    ∃ u, alarmMoved s date time = fireAlarm u 1 := by
  unfold alarmMoved
  simp only [(alarmArmed_iff s).mpr armed, hit, Bool.not_true, Bool.false_eq_true, if_false, if_true]
  exact ⟨_, rfl⟩

theorem aside_closeCircuit (s : State) (adj unal : Bool) (c : Nat) : Aside keptPages s (closeCircuit adj unal s c) := by
  have old : Aside keptPages s (match (circAt s c).closing with | some old => commitInterval s c old | none => s) := by
    split
    · exact aside_commitInterval s c _
    · exact Aside.refl _ s
  unfold closeCircuit
  exact aside_ite (old.trans (aside_setCirc _ c _)) (aside_ite (old.trans (aside_commitInterval _ c _)) (old.trans (aside_setCirc _ c _)))

theorem aside_closeIntervals (s : State) (adj unal : Bool) : Aside keptPages s (closeIntervals s adj unal) := by
  have started (u : State) : Aside keptPages u { u with meter := { u.meter with ivlStart := u.now } } := aside_of_regs rfl rfl
  have circuits := aside_forAll (fun c _ u => aside_closeCircuit u adj unal c) (l := upTo 48) s
  exact ((circuits.trans (started _)).trans (aside_raiseBit _ 5 (by decide) (by decide))).trans (aside_saveRecord _)

end

section
variable (s : State) (date time : Word)

/-- The staged value is loaded. -/
def calendarLoaded : State := wr (wr (wr s R.RTC_DATE date) R.RTC_TIME time) R.RTC_SUBSEC 0

/-- The calendar runs and is valid. -/
def calendarFreed : State := setFld (setFld (calendarLoaded s date time) R.RTC_STAT F.RTC_STAT_HELD 0) R.RTC_STAT F.RTC_STAT_VALID 1

/-- The calendar runs from a value on. -/
def calendarReleased : State := captureTb (stageCleared (calendarFreed s date time))

theorem rtcRelease_eq : rtcRelease s =
    if s.rtc.stageDate.getD (rd s R.RTC_DATE) = rd s R.RTC_DATE ∧ s.rtc.stageTime.getD (rd s R.RTC_TIME) = rd s R.RTC_TIME then
      calendarReleased s (s.rtc.stageDate.getD (rd s R.RTC_DATE)) (s.rtc.stageTime.getD (rd s R.RTC_TIME))
    else closeIntervals (alarmMoved (calendarReleased s (s.rtc.stageDate.getD (rd s R.RTC_DATE)) (s.rtc.stageTime.getD (rd s R.RTC_TIME)))
      (rd s R.RTC_DATE) (rd s R.RTC_TIME)) true false := rfl

theorem rd_calendarFreed {k : Nat} (stat : k ≠ R.RTC_STAT) : rd (calendarFreed s date time) k = rd (calendarLoaded s date time) k :=
  (rd_setFld_ne _ _ _ stat).trans (rd_setFld_ne _ _ _ stat)

theorem rd_calendarReleased {k : Nat} (low : k ≠ R.RTC_TBCAP 0) (high : k ≠ R.RTC_TBCAP 1) :
    rd (calendarReleased s date time) k = rd (calendarFreed s date time) k := (rd_captureTb _ low high).trans (rd_stageCleared _ k)

theorem rd_calendarLoaded {k : Nat} (d : k ≠ R.RTC_DATE) (x : k ≠ R.RTC_TIME) (sub : k ≠ R.RTC_SUBSEC) :
    rd (calendarLoaded s date time) k = rd s k := (rd_wr_ne _ _ sub).trans ((rd_wr_ne _ _ x).trans (rd_wr_ne _ _ d))

theorem calendarReleased_shows : rd (calendarReleased s date time) R.RTC_DATE = date ∧ rd (calendarReleased s date time) R.RTC_TIME = time ∧
    rd (calendarReleased s date time) R.RTC_SUBSEC = 0 ∧ rd (calendarReleased s date time) R.RTC_CTRL = rd s R.RTC_CTRL ∧
    rd (calendarReleased s date time) R.RTC_ALMT = rd s R.RTC_ALMT ∧ rd (calendarReleased s date time) R.RTC_ALMD = rd s R.RTC_ALMD := by
  have shown {k : Nat} (stat : k ≠ R.RTC_STAT) (low : k ≠ R.RTC_TBCAP 0) (high : k ≠ R.RTC_TBCAP 1) :
      rd (calendarReleased s date time) k = rd (calendarLoaded s date time) k :=
    (rd_calendarReleased s date time low high).trans (rd_calendarFreed s date time stat)
  have other {k : Nat} (stat : k ≠ R.RTC_STAT) (low : k ≠ R.RTC_TBCAP 0) (high : k ≠ R.RTC_TBCAP 1) (d : k ≠ R.RTC_DATE) (x : k ≠ R.RTC_TIME)
      (sub : k ≠ R.RTC_SUBSEC) : rd (calendarReleased s date time) k = rd s k := (shown stat low high).trans (rd_calendarLoaded s date time d x sub)
  exact ⟨(shown (by decide) (by decide) (by decide)).trans ((rd_wr_ne _ _ (by decide)).trans ((rd_wr_ne _ _ (by decide)).trans (rd_wr_same _ _ _))),
    (shown (by decide) (by decide) (by decide)).trans ((rd_wr_ne _ _ (by decide)).trans (rd_wr_same _ _ _)),
    (shown (by decide) (by decide) (by decide)).trans (rd_wr_same _ _ _),
    other (by decide) (by decide) (by decide) (by decide) (by decide) (by decide),
    other (by decide) (by decide) (by decide) (by decide) (by decide) (by decide),
    other (by decide) (by decide) (by decide) (by decide) (by decide) (by decide)⟩

theorem stat_calendarReleased (f : Fld) : fld (calendarReleased s date time) R.RTC_STAT f = fld (calendarFreed s date time) R.RTC_STAT f :=
  congrArg (bits · f.hi f.lo) (rd_calendarReleased s date time (by decide) (by decide))

theorem calendarReleased_runs : rtcHeld (calendarReleased s date time) = false ∧
    flag (calendarReleased s date time) R.RTC_STAT F.RTC_STAT_VALID = true ∧
    fld (calendarReleased s date time) R.RTC_STAT F.RTC_STAT_FIRED = fld s R.RTC_STAT F.RTC_STAT_FIRED := by
  refine ⟨?_, ?_, ?_⟩
  · rw [rtcHeld, flag, stat_calendarReleased, calendarFreed, fld_setFld_other _ _ _ _ _ (by decide) (by decide) (by decide),
      fld_setFld_same _ _ _ _ (by decide) (by decide)]
    rfl
  · rw [flag, stat_calendarReleased, calendarFreed, fld_setFld_same _ _ _ _ (by decide) (by decide)]
    rfl
  · rw [stat_calendarReleased, calendarFreed, fld_setFld_other _ _ _ _ _ (by decide) (by decide) (by decide),
      fld_setFld_other _ _ _ _ _ (by decide) (by decide) (by decide), fld, rd_calendarLoaded _ _ _ (by decide) (by decide) (by decide), fld]

theorem calendarReleased_keeps : plantData (calendarReleased s date time) = plantData s ∧ (calendarReleased s date time).meter = s.meter ∧
    (calendarReleased s date time).rtc.stageDate = none ∧ (calendarReleased s date time).rtc.stageTime = none := by
  have captured (u : State) : plantData (captureTb u) = plantData u ∧ (captureTb u).meter = u.meter ∧ (captureTb u).rtc = u.rtc := by
    unfold captureTb
    split
    · exact ⟨rfl, rfl, rfl⟩
    · exact ⟨rfl, rfl, rfl⟩
  obtain ⟨data, meter, rtc⟩ := captured (stageCleared (calendarFreed s date time))
  rw [plantData_stageCleared, calendarFreed, plantData_setFld, plantData_setFld, calendarLoaded, plantData_wr, plantData_wr, plantData_wr] at data
  rw [meter_stageCleared, calendarFreed, setFld_meter, setFld_meter, calendarLoaded, wr_meter, wr_meter, wr_meter] at meter
  rw [calendarReleased, rtc]
  exact ⟨data, meter, stage_stageCleared _⟩

variable {s} in
theorem capture_calendarReleased (powered : modeNow s ≠ 0) : rd (calendarReleased s date time) (R.RTC_TBCAP 0) = s.now.setWidth 32 := by
  have mode : modeNow (stageCleared (calendarFreed s date time)) = modeNow s := by
    rw [modeNow, fld, rd_stageCleared, rd_calendarFreed _ _ _ (by decide), rd_calendarLoaded _ _ _ (by decide) (by decide) (by decide), modeNow, fld]
  exact (captureTb_captures (by rwa [mode])).1

end

end Sys2Proof.Machine
end

section
/-! SUPPORT. O57: the release of a held calendar, the reader's capture, the backup supply and its reset. -/

namespace Sys2Proof.Machine

open Sys2Proof.Safety

/-! ## Release (R445, R449) -/

section
variable {s : State}

/-- What a release leaves, whether or not it moves the clock. -/
theorem rtcRelease_shows (powered : modeNow s ≠ 0) : rd (rtcRelease s) R.RTC_CTRL = rd s R.RTC_CTRL ∧ rtcHeld (rtcRelease s) = false ∧
    flag (rtcRelease s) R.RTC_STAT F.RTC_STAT_VALID = true ∧ rd (rtcRelease s) R.RTC_DATE = s.rtc.stageDate.getD (rd s R.RTC_DATE) ∧
    rd (rtcRelease s) R.RTC_TIME = s.rtc.stageTime.getD (rd s R.RTC_TIME) ∧ rd (rtcRelease s) R.RTC_SUBSEC = 0 ∧
    (rtcRelease s).rtc.stageDate = none ∧ (rtcRelease s).rtc.stageTime = none ∧ rd (rtcRelease s) (R.RTC_TBCAP 0) = s.now.setWidth 32 := by
  generalize hd : s.rtc.stageDate.getD (rd s R.RTC_DATE) = date
  generalize ht : s.rtc.stageTime.getD (rd s R.RTC_TIME) = time
  have kept : AlarmOnly (calendarReleased s date time) (rtcRelease s) := by
    rw [rtcRelease_eq, hd, ht]
    exact alarmOnly_ite (AlarmOnly.refl _) ((alarmOnly_alarmMoved _ _ _).trans (calendarKept_of_aside (aside_closeIntervals _ true false)).alarmOnly)
  obtain ⟨d, x, sub, ctrl, -, -⟩ := calendarReleased_shows s date time
  obtain ⟨held, valid, -⟩ := calendarReleased_runs s date time
  obtain ⟨-, -, stageDate, stageTime⟩ := calendarReleased_keeps s date time
  have regs {k : Nat} (page : keyPage k = 0x04) (isr : k ≠ R.PG_ISR 0x04) (stat : k ≠ R.RTC_STAT) := kept.regs k page isr stat
  rw [kept.rtc, regs (by decide) (by decide) (by decide), regs (by decide) (by decide) (by decide), regs (by decide) (by decide) (by decide),
    regs (by decide) (by decide) (by decide), regs (by decide) (by decide) (by decide)]
  exact ⟨ctrl, (congrArg (· != 0) (kept.stat _ (by decide))).trans held, (congrArg (· != 0) (kept.stat _ (by decide))).trans valid, d, x, sub,
    stageDate, stageTime, capture_calendarReleased date time powered⟩

theorem rtcRelease_still (date : s.rtc.stageDate.getD (rd s R.RTC_DATE) = rd s R.RTC_DATE)
    (time : s.rtc.stageTime.getD (rd s R.RTC_TIME) = rd s R.RTC_TIME) : plantData (rtcRelease s) = plantData s ∧ (rtcRelease s).meter = s.meter := by
  obtain ⟨data, meter, -⟩ := calendarReleased_keeps s (s.rtc.stageDate.getD (rd s R.RTC_DATE)) (s.rtc.stageTime.getD (rd s R.RTC_TIME))
  rw [rtcRelease_eq, if_pos ⟨date, time⟩]
  exact ⟨data, meter⟩

theorem rtcRelease_fires {date time : Word} (hd : s.rtc.stageDate.getD (rd s R.RTC_DATE) = date) (ht : s.rtc.stageTime.getD (rd s R.RTC_TIME) = time)
    (moved : date ≠ rd s R.RTC_DATE ∨ time ≠ rd s R.RTC_TIME) (armed : Armed s) (hit : alarmMatch s date time = true) :
    flag (rtcRelease s) R.RTC_STAT F.RTC_STAT_FIRED = true ∧ fld (rtcRelease s) R.RTC_STAT F.RTC_STAT_ACAUSE = 1 ∧
      (rd (rtcRelease s) (R.PG_ISR 0x04)).getLsbD 0 = true := by
  obtain ⟨d, x, -, ctrl, almt, almd⟩ := calendarReleased_shows s date time
  obtain ⟨-, -, fired⟩ := calendarReleased_runs s date time
  have armed' : Armed (calendarReleased s date time) := by
    unfold Armed flag
    rw [fired, fld, ctrl]
    exact armed
  obtain ⟨u, fires⟩ := alarmMoved_fires (calendarReleased s date time) (rd s R.RTC_DATE) (rd s R.RTC_TIME) armed'
    (by rw [d, x, alarmMatch_congr almt almd, hit])
  have released : rtcRelease s = closeIntervals (fireAlarm u 1) true false := by
    rw [rtcRelease_eq, hd, ht, if_neg (by tauto), fires]
  have kept := calendarKept_of_aside (aside_closeIntervals (fireAlarm u 1) true false)
  obtain ⟨fired', cause, isr⟩ := fireAlarm_fires (s := u)
  rw [released]
  exact ⟨(congrArg (· != 0) (kept.fld (by decide) (by decide) _)).trans fired', (kept.fld (by decide) (by decide) _).trans cause, kept.causes 0 isr⟩

theorem rtcRelease_releases {q : Requester} {v : Word} (hr : Reaches s q 0x04 0x48) (legal : v &&& 0xFFFFFFE2 = 0) (held : rtcHeld s = true) :
    let date := s.rtc.stageDate.getD (rd s R.RTC_DATE)
    let time := s.rtc.stageTime.getD (rd s R.RTC_TIME)
    dateExists date = true → ∃ t, exec (.rtcRelease q v) s = .next t ∧ Accepted t ∧ rd t R.RTC_CTRL = v &&& 0xFFFFFFFE ∧
      rtcHeld t = false ∧ flag t R.RTC_STAT F.RTC_STAT_VALID = true ∧ rd t R.RTC_DATE = date ∧ rd t R.RTC_TIME = time ∧ rd t R.RTC_SUBSEC = 0 ∧
      t.rtc.stageDate = none ∧ t.rtc.stageTime = none ∧ rd t (R.RTC_TBCAP 0) = s.now.setWidth 32 ∧
      (date = rd s R.RTC_DATE → time = rd s R.RTC_TIME → (SameBytes s t ∧ SamePoints s t) ∧ t.meter = s.meter) ∧
      (date ≠ rd s R.RTC_DATE ∨ time ≠ rd s R.RTC_TIME → v.getLsbD 2 = true → flag s R.RTC_STAT F.RTC_STAT_FIRED = false →
        alarmMatch s date time = true → flag t R.RTC_STAT F.RTC_STAT_FIRED = true ∧ fld t R.RTC_STAT F.RTC_STAT_ACAUSE = 1 ∧
          (rd t (R.PG_ISR 0x04)).getLsbD 0 = true) := by
  intro date time exists_
  generalize written : wr s R.RTC_CTRL (v &&& 0xFFFFFFFE) = u
  have taken : rtcCtrlWrite s (withBits v 0 0 0) = (rtcRelease u, .none) := by
    rw [ctrlWrite_release legal fun _ => exists_, if_pos held, written]
  have rtc : u.rtc = s.rtc := by rw [← written]; rfl
  have now : u.now = s.now := by rw [← written]; rfl
  have meter : u.meter = s.meter := by rw [← written]; rfl
  have data : plantData u = plantData s := by rw [← written]; rfl
  have other {k : Nat} (ne : k ≠ R.RTC_CTRL) : rd u k = rd s k := by rw [← written, rd_wr_ne _ _ ne]
  have ctrl : rd u R.RTC_CTRL = v &&& 0xFFFFFFFE := by rw [← written, rd_wr_same]
  have powered : modeNow u ≠ 0 := by
    rw [modeNow, fld, other (by decide)]
    exact hr.1
  have hd : u.rtc.stageDate.getD (rd u R.RTC_DATE) = date := by rw [rtc, other (by decide)]
  have ht : u.rtc.stageTime.getD (rd u R.RTC_TIME) = time := by rw [rtc, other (by decide)]
  have shows_ := rtcRelease_shows powered
  rw [ctrl, hd, ht, now] at shows_
  obtain ⟨ctrl', free, valid, d, x, sub, stageDate, stageTime, tb⟩ := shows_
  refine ⟨_, congrArg Host.Outcome.next (gated_taken (k := fun s => rtcCtrlWrite s (withBits v 0 0 0)) hr taken), rfl, ctrl', free, valid, d, x, sub,
    stageDate, stageTime, tb, fun sameDate sameTime => ?_, fun moved enabled unfired hit => ?_⟩
  · obtain ⟨plant, meters⟩ := rtcRelease_still (s := u) (by rw [hd, other (by decide), sameDate]) (by rw [ht, other (by decide), sameTime])
    have told := onlyRegs_answer [] (rtcRelease u) .none
    exact ⟨SameData.of_plantData ((plantData_of_regsAndEvents told.regsAndEvents).trans (plant.trans data)), meters.trans meter⟩
  · have armed : Armed u := by
      refine ⟨?_, by rwa [flag, fld, other (by decide)]⟩
      have bit2 : bit (v &&& 0xFFFFFFFE) 2 = true := by
        rw [← withBits_release, bit_withBits _ _ _ (by decide) (by decide), if_neg (by decide)]
        exact enabled
      rw [flag, fld, ctrl]
      exact (bits_bit _ 2).trans bit2
    exact rtcRelease_fires hd ht (by rwa [other (by decide), other (by decide)]) armed
      (by rwa [alarmMatch_congr (other (by decide)) (other (by decide))])

end

/-! ## The reader's capture, the alarm's arming and the backup supply (R442, R443, R448, R451) -/

section
variable {s : State} {q : Requester}

/-- What a word kept for a reader leaves. -/
theorem rd_keepWord (s : State) (q : Requester) (k : Nat) (w : Word) (j : Nat) : rd (keepWord s q k w) j = rd s j := rfl

theorem plantData_keepWord (s : State) (q : Requester) (k : Nat) (w : Word) : plantData (keepWord s q k w) = plantData s := rfl

theorem exec_rtcTimeRead (hr : Reaches s q 0x04 0x40) :
    exec (.rtcTimeRead q) s = .next { (rtcTimeRead s q).1 with answer := { words := [(rtcTimeRead s q).2] } } :=
  congrArg Host.Outcome.next (gated_reaches hr)

theorem rtcTimeRead_captures (hr : Reaches s q 0x04 0x40) : ∃ t, exec (.rtcTimeRead q) s = .next t ∧ t.answer = { words := [rd s R.RTC_TIME] } ∧
    heldWord t q R.RTC_DATE = some (rd s R.RTC_DATE) ∧ heldWord t q R.RTC_SUBSEC = some (rd t R.RTC_SUBSEC) ∧ SameRegs [R.RTC_SUBSEC] s t ∧
    (SameBytes s t ∧ SamePoints s t) ∧ (rtcHeld s = true → rd t R.RTC_SUBSEC = rd s R.RTC_SUBSEC) := by
  obtain ⟨data, -, -, regs⟩ := sampleSubsec_keeps s
  have date : rd (sampleSubsec s) R.RTC_DATE = rd s R.RTC_DATE := regs _ (by decide)
  have time : rd (sampleSubsec s) R.RTC_TIME = rd s R.RTC_TIME := regs _ (by decide)
  have still (held : rtcHeld s = true) : rd (sampleSubsec s) R.RTC_SUBSEC = rd s R.RTC_SUBSEC := by rw [sampleSubsec_held s held]
  have read : rtcTimeRead s q = (keepWord (keepWord (sampleSubsec s) q R.RTC_DATE (rd (sampleSubsec s) R.RTC_DATE)) q R.RTC_SUBSEC
    (rd (sampleSubsec s) R.RTC_SUBSEC), rd (sampleSubsec s) R.RTC_TIME) := rfl
  rw [exec_rtcTimeRead hr, read, date, time]
  generalize sampleSubsec s = u at *
  exact ⟨_, rfl, rfl, (heldWord_keepWord_ne _ _ (by simp [R.RTC_DATE, R.RTC_SUBSEC, regKey])).trans (heldWord_keepWord_same _ _ _ _), heldWord_keepWord_same _ _ _ _, regs,
    SameData.of_plantData data, still⟩

theorem alarmArm_clears (hr : Reaches s q 0x04 0x50) : ∃ t, exec (.alarmArm q) s = .next t ∧ Accepted t ∧
    flag t R.RTC_STAT F.RTC_STAT_FIRED = false ∧ OnlyRegs [R.RTC_STAT] s t ∧
    ∀ n : Fin 32, n.val ≠ 2 → (rd t R.RTC_STAT).getLsbD n.val = (rd s R.RTC_STAT).getLsbD n.val := by
  refine ⟨_, congrArg Host.Outcome.next (gated_taken (k := fun s => rtcCommand s 1) hr rfl), rfl, flag_setFld_zero s _ _ (by decide) (by decide),
    (onlyRegs_setFld s _ 0 List.mem_cons_self).trans (onlyRegs_answer _ _ _), fun n ne => ?_⟩
  have written : rd (setFld s R.RTC_STAT F.RTC_STAT_FIRED 0) R.RTC_STAT = withBits (rd s R.RTC_STAT) 2 2 0 := rd_wr_same _ _ _
  refine (congrArg (·.getLsbD n.val) written).trans ?_
  rw [withBits_getLsbD _ _ _ (by decide) (by decide), if_neg fun range => ne (by omega)]

theorem supplySwitch_moves {b : Bool} (other : flag s R.RTC_STAT F.RTC_STAT_ON_VBKP ≠ b) : ∃ t, exec (.backupSupplySwitch b) s = .next t ∧
    flag t R.RTC_STAT F.RTC_STAT_ON_VBKP = b ∧ (rd t (R.PG_ISR 0x04)).getLsbD 2 = true ∧ RegsAndEvents [R.RTC_STAT, R.PG_ISR 0x04] s t := by
  refine ⟨_, congrArg Host.Outcome.next (if_neg other), ?_, raiseBit_isr_bit _ (by decide) (by decide), ?_⟩
  · rw [flag, fld, rd_raiseBit_ne _ (by decide) (by decide), ← fld, fld_setFld_same _ _ _ _ (by decide) (by decide)]
    cases b <;> rfl
  · exact (onlyRegs_setFld s _ _ (by simp)).regsAndEvents.trans (regsAndEvents_raiseBit _ _ (by simp))

/-- The domain's reset sets the backup pages back and leaves the other registers (R451). -/
theorem rd_backupReset (s : State) (k : Nat) : rd (backupReset s) k = if inBackup k then resetWord k else rd s k := by
  refine (tget_tkeep _ _ k).trans ?_
  cases inBackup k <;> rfl

theorem backupReset_sets (s : State) : ∃ t, exec .backupDomainReset s = .next t ∧ (∀ k, inBackup k = true → rd t k = resetWord k) ∧
    (∀ k, inBackup k = false → rd t k = rd s k) ∧ rd t R.RTC_DATE = 0x101 ∧ rd t R.RTC_TIME = 0x06000000 ∧
    flag t R.RTC_STAT F.RTC_STAT_BDOM_LOST = true ∧ flag t R.RTC_STAT F.RTC_STAT_VALID = false ∧ rd t R.TMP_LATCH = 0 ∧ t.rtc = {} ∧ t.otp = s.otp ∧
    t.crypto.store = s.crypto.store ∧ (SameBytes s t ∧ SamePoints s t) := by
  have back {k : Nat} (page : inBackup k = true) : rd (backupReset s) k = resetWord k := (rd_backupReset s k).trans (if_pos page)
  refine ⟨_, rfl, fun k page => back page, fun k page => (rd_backupReset s k).trans (if_neg (by simp [page])), (back (by decide)).trans (by decide),
    (back (by decide)).trans (by decide), ?_, ?_, (back (by decide)).trans (by decide), rfl, rfl, rfl, SameData.of_plantData rfl⟩
  · rw [flag, fld, back (by decide)]
    decide
  · rw [flag, fld, back (by decide)]
    decide

end

/-! ## O57 -/

/-- A Sync of the master's that carries its own time (R439). -/
theorem sync_measures {s : State} {d : Byte} {src : BitVec 80} {seq : BitVec 16} {origin corr stamp : Int} (here : ptpHere s d = true)
    (own : fromMaster s src = true) :
    let off := stamp + ptpOrigin s - (origin + corr) - s.ptp.delay
    let v := codeOf 64 (origin + corr + s.ptp.delay - stamp)
    ∃ t, exec (.ptpMessage (.sync d src seq false origin corr stamp)) s = .next t ∧ t.ptp.t1 = origin + corr ∧ t.ptp.t2 = stamp ∧
      t.ptp.originSet = true ∧ t.ptp.syncAt = s.now ∧ t.ptp.wait = none ∧ t.ptp.reqSeq = (s.ptp.reqSeq + 1) % 65536 ∧
      (SameBytes s t ∧ SamePoints s t) ∧ (following s = true → rd t R.TB_RATE = rd s R.TB_RATE) ∧
      (following s = false → -100000 ≤ (rd t R.TB_RATE).toInt ∧ (rd t R.TB_RATE).toInt ≤ 100000) ∧
      (s.ptp.originSet = true → off.natAbs ≤ 1000000 → rd t R.PTP_OFS = BitVec.ofInt 32 off ∧ ptpOrigin t = ptpOrigin s ∧
        (1000 < off.natAbs → t.ptp.good = 0 ∧ ptpState t = ptpState s) ∧
        (off.natAbs ≤ 1000 → t.ptp.good = s.ptp.good + 1 ∧ (15 ≤ s.ptp.good → ptpState t = ptSLAVE) ∧
          (15 ≤ s.ptp.good → ptpState s ≠ ptSLAVE → (rd t (R.PG_ISR 0x7F)).getLsbD 0 = true))) ∧
      (s.ptp.originSet = false ∨ 1000000 < off.natAbs → rd t R.PTP_OFS = 0 ∧ ptpOrigin t = v ∧ (rd t (R.PG_ISR 0x7F)).getLsbD 2 = true) := by
  intro off v
  obtain ⟨t1, t2, set, at_, wait, req, bytes, points, follows, rate⟩ := ptpSync_shows (origin + corr) stamp s
  exact ⟨_, sync_heard here own false, t1, t2, set, at_, wait, req, ⟨bytes, points⟩, follows, rate, ptpSync_keeps, ptpSync_renews⟩

/-- Settles O57: each clause is the theorem of its operation above; the rate stays within R438 whatever the servo chooses (log 7), and the
masters' order is the model's `bmcaKey` (log 40). -/
theorem timeServoCalendarAndBackup : Obligations.TimeServoCalendarAndBackup := by
  unfold Obligations.TimeServoCalendarAndBackup
  intro s isr same
  refine ⟨fun q v hr => ⟨tbStep_steps hr, tbStep_refused hr⟩, fun q v hr => ⟨tbSlew_refused hr, tbSlew_adds hr⟩,
    fun rtt => ⟨linkDelay_down rtt, linkDelay_measures rtt⟩, fun d src seq a origin corr stamp two => ⟨ptpMessages_unheard, fun here =>
      ⟨fun m master locked other worse => (announce_heard here).trans (congrArg _ (announce_worse master locked other worse)),
        fun m => announce_refreshes here, announce_selects here, ptpMessages_foreign, fun own =>
          ⟨sync_heard here own true, fun t2 c => followUp_completes here own, fun n t2 c => followUp_other here own, sync_measures here own,
            fun t3 => delayResp_measures here own⟩⟩⟩, fun m => announceTimeout_listens, fun idle => congrArg _ (announceTimeout_none idle),
    syncTimeout_holds, fun idle => congrArg _ (syncTimeout_none idle), fun held => congrArg _ (if_pos held), rtcRollover_advances s, rfl,
    fun q v hr legal => ⟨rtcHold_holds hr legal, rtcRelease_free hr legal, rtcRelease_unreal hr legal, rtcRelease_releases hr legal⟩,
    fun q => rtcTimeRead_captures, fun q => alarmArm_clears, fun b => ⟨fun here => congrArg _ (if_pos here), supplySwitch_moves⟩, backupReset_sets s⟩

end Sys2Proof.Machine
end

section
/-! SUPPORT. What the loop engines, the port meters, the stations, the lite channels and the transmit rings leave alone at a tick (R192, R234, R278,
R389, R258). -/

namespace Sys2Proof.Machine

open Sys2Proof.Safety

/-! ## Sequences of updates -/

section
variable {s : State}

/-- A left fold of updates. -/
theorem aside_foldl {ps : List Nat} {α β : Type} {f : β → α → β} {out : β → State} {l : List α} (hf : ∀ a ∈ l, ∀ b, Aside ps (out b) (out (f b a)))
    (b : β) : Aside ps (out b) (out (l.foldl f b)) := by
  induction l generalizing b with
  | nil => exact Aside.refl ps _
  | cons a l ih => exact (hf a List.mem_cons_self b).trans (ih (fun c hc => hf c (List.mem_cons_of_mem a hc)) (f b a))

/-- A further update that is made or not. -/
theorem aside_then {ps : List Nat} {c : Prop} [Decidable c] {t u : State} (h : Aside ps s t) (k : Aside ps t u) : Aside ps s (if c then u else t) :=
  aside_ite (h.trans k) h

theorem aside_else {ps : List Nat} {c : Prop} [Decidable c] {t u : State} (h : Aside ps s t) (k : Aside ps t u) : Aside ps s (if c then t else u) :=
  aside_ite h (h.trans k)

/-- An update of a pair's first part, where the second comes out of a choice. -/
theorem aside_ite_fst {ps : List Nat} {α : Type} {c : Prop} [Decidable c] {x y : State × α} (h : Aside ps s x.1) (k : Aside ps s y.1) :
    Aside ps s (if c then x else y).1 := by
  split
  · exact h
  · exact k

end

/-! ## Points read and written for an engine -/

section
variable (s : State)

theorem aside_tryRead {f : Nat} (hf : f < 32) (path pid : Nat) : Aside keptPages s (tryRead s f path pid).1 :=
  aside_ite_fst (Aside.refl _ s) (aside_deny s hf path pid)

theorem aside_fieldWrite {f : Nat} (hf : f < 32) (path pid : Nat) (v : DWord) (q : Byte) (ts : DWord) (src : BitVec 16) :
    Aside keptPages s (fieldWrite s f path pid v q ts src).1 :=
  aside_ite_fst (aside_writePoint s pid v q ts src) (aside_deny s hf path pid)

theorem aside_mirrorForce (op k : Nat) (e : Force) : Aside keptPages s (mirrorForce s op k e) := by
  unfold mirrorForce
  split
  · exact ⟨rfl, fun _ _ => rfl⟩
  · exact Aside.refl _ s

/-- A cause is posted to the queue of a flask's ERROR task, or recorded as undelivered (R96 to R99). -/
theorem aside_postCause (f code task : Nat) (detail : Word) : Aside keptPages s (postCause s f code task detail) := by
  have noted : Aside keptPages s (if task < 64 then setFld s (R.SCN_TSTAT task) F.SCN_TSTAT_LAST_CAUSE code else s) := by
    split
    · exact aside_setFld s _ _ (other_page (by decide) (by omega) (by decide) 0)
    · exact Aside.refl _ s
  have noted_core : (if task < 64 then taskCore (if task < 64 then setFld s (R.SCN_TSTAT task) F.SCN_TSTAT_LAST_CAUSE code else s) task else 0) < 8 := by
    split
    · exact fld_lt _ _ F.SCN_TCFG_CORE
    · decide
  unfold postCause
  dsimp only
  refine noted.trans ?_
  generalize (if task < 64 then setFld s (R.SCN_TSTAT task) F.SCN_TSTAT_LAST_CAUSE code else s) = u at noted_core ⊢
  generalize (if task < 64 then taskCore u task else 0) = c at noted_core ⊢
  have page {off : Nat} (ho : off < 4096) : keyPage (regKey (0x39 + c) off 0) ∉ keptPages :=
    other_page (by omega) ho (plant_page (by omega) (by omega)) 0
  refine aside_ite (aside_ite ?_ ?_) ((aside_ite ?_ ?_).trans (aside_raiseBit _ 0 (by omega) (by omega)))
  · exact ⟨rfl, fun _ _ => rfl⟩
  · exact ⟨rfl, fun _ _ => rfl⟩
  · exact aside_setFld u _ _ (page (by decide))
  · exact (aside_wr u _ (page (by decide))).trans (aside_wr _ _ (page (by decide)))

theorem aside_postStart (detail : Nat) : Aside keptPages s (postStart s detail) :=
  aside_forAll (fun f _ u => aside_ite (aside_postCause u f _ _ _) (Aside.refl _ u)) s

end

/-! ## One loop (R182, R188 to R190, R194 to R197, R200) -/

theorem aside_setLoop (s : State) (n : Nat) (x : LoopState) : Aside keptPages s (setLoop s n x) := aside_of_regs rfl rfl

theorem aside_loopInput (s : State) (n pid : Nat) : Aside keptPages s (loopInput s n pid).1 := by
  have read := aside_tryRead s (fld_lt s (R.LPE_CFG n) F.LPE_CFG_FLASK : loopFlask s n < 32) 3 pid
  unfold loopInput
  dsimp only
  split
  · split
    · exact read
    · exact read
  · exact read

theorem aside_loopSetpoint (s : State) (n : Nat) (now : List (Nat × Int)) : Aside keptPages s (loopSetpoint s now n).1 :=
  aside_ite_fst (Aside.refl _ s) (aside_ite_fst (aside_loopInput s n _) (aside_ite_fst (Aside.refl _ s) (Aside.refl _ s)))

theorem aside_loopTarget (s : State) (n : Nat) : Aside keptPages s (loopTarget s n).1 := by
  have read := aside_loopInput s n (loopRef s n)
  refine aside_ite_fst ?_ (Aside.refl _ s)
  dsimp only
  split
  · exact read.trans (aside_setLoop _ n _)
  · exact read

section
variable {n : Nat} (hn : n < 512)
include hn

theorem loop_page {off : Nat} (ho : off < 4096) (win : Nat) : keyPage (regKey (0x49 + n / 128) off win) ∉ keptPages :=
  other_page (by omega) ho (plant_page (by omega) (by omega)) win

theorem aside_loopStatus (s : State) (f : Fld) (v : Nat) : Aside keptPages s (setFld s (R.LPE_LSTAT n) f v) :=
  aside_setFld s f v (loop_page hn (by decide) _)

theorem aside_loopBank (s : State) (f : Fld) (v : Nat) : Aside keptPages s (setFld s (R.LPE_BANK n) f v) :=
  aside_setFld s f v (loop_page hn (by decide) _)

theorem aside_setLoopSt (s : State) (st : Nat) : Aside keptPages s (setLoopSt s n st) :=
  (aside_setFld s F.LPE_COUNT_ON _ (loop_page hn (off := 0x48) (by decide) 0)).trans (aside_loopStatus hn _ _ _)

theorem aside_loopFlag (s : State) (f : Fld) (cause : Nat) : Aside keptPages s (loopFlag s n f cause) :=
  (aside_loopStatus hn s f 1).trans (aside_raiseBit _ cause (by omega) (by omega))

theorem aside_setProfile (s : State) (x : Profile) : Aside keptPages s (setProfile s n x) :=
  ((aside_wr s _ (loop_page hn (off := 0x160) (by decide) _)).trans (aside_wr _ _ (loop_page hn (off := 0x164) (by decide) _))).trans
    (aside_wr _ _ (loop_page hn (off := 0x168) (by decide) _))

theorem aside_startLoop (s : State) : Aside keptPages s (startLoop s n) := by
  have started (x : LoopState) := (aside_setLoopSt hn s fsSTARTING).trans (aside_setLoop _ n x)
  unfold startLoop
  dsimp only
  generalize begun : setLoop (setLoopSt s n fsSTARTING) n _ = u
  refine ((begun ▸ started _ : Aside keptPages s u).trans ?_).trans (aside_refreshLoop _ hn)
  refine aside_ite ?_ (Aside.refl _ u)
  have read := aside_loopInput u n (fld u (R.LPE_PTS n) F.LPE_PTS_IN_PT)
  split
  · exact read.trans (aside_setProfile hn _ _)
  · split
    · exact ((read.trans (aside_loopInput _ n _)).trans (aside_setLoop _ n _)).trans (aside_setProfile hn _ _)
    · exact read.trans (aside_setProfile hn _ _)

theorem aside_finishLoop (s : State) : Aside keptPages s (finishLoop s n) := by
  have off := (aside_setLoopSt hn s fsOFF).trans (aside_loopStatus hn _ F.LPE_LSTAT_SUSP 0)
  exact aside_ite (aside_ite ((off.trans (aside_loopStatus hn _ _ 0)).trans (aside_startLoop hn _)) off) (Aside.refl _ s)

theorem aside_setSecState (s : State) {k j : Nat} (hk : k < 8) (hj : j < 2) (v : Int) : Aside keptPages s (setSecState s n k j v) := by
  have low : 0x220 + 0x10 * k + 0x8 * j + 0x4 * 1 < 4096 := by omega
  have stored (x y : Word) := (aside_wr s x (loop_page hn (off := 0x220 + 0x10 * k + 0x8 * j + 0x4 * 0) (by omega) (n % 128 + 1))).trans
    (aside_wr _ y (loop_page hn low (n % 128 + 1)))
  exact aside_ite ((stored _ _).trans (aside_loopFlag hn _ _ 3)) (stored _ _)

theorem aside_replaceStates (s : State) : Aside keptPages s (replaceStates s n) := by
  refine aside_ite (aside_forAll (fun i mem u => ?_) s) (Aside.refl _ s)
  have small := List.mem_range.mp mem
  exact aside_setSecState hn u (by omega) (by omega) _

theorem aside_sectionUpdate (s : State) {k : Nat} (hk : k < 8) (x f : Int) : Aside keptPages s (sectionUpdate s n k x f) :=
  (aside_setSecState hn s hk (by decide) _).trans (aside_setSecState hn _ hk (by decide) _)

theorem aside_backCalc (s : State) : Aside keptPages s (backCalc s n) := by
  have sections : loopNsec s n < 8 := fld_lt s _ F.LPE_CFG_NSEC
  have last : loopNsec s n - 1 < 8 := by omega
  exact (aside_setSecState hn s last (by decide) _).trans (aside_setSecState hn _ last (by decide) _)

theorem aside_swapNow (s : State) : Aside keptPages s (swapNow s n) :=
  ((aside_loopBank hn s _ _).trans (aside_loopBank hn _ _ 0)).trans (aside_loopFlag hn _ _ 0)

theorem aside_beforeSample (s : State) : Aside keptPages s (beforeSample s n).1 := by
  have replaced (x : LoopState) := (aside_replaceStates hn s).trans (aside_setLoop _ n x)
  have swapped (x : LoopState) (c : Bool) := (replaced x).trans (aside_ite (c := c = true) (aside_swapNow hn _) (Aside.refl _ _))
  exact aside_ite_fst ((swapped _ _).trans (aside_backCalc hn _)) (swapped _ _)

theorem aside_showDone (s : State) (t : Word) : Aside keptPages s (showDone s n t) := aside_loopStatus hn s _ _

theorem aside_profileSample (s : State) (ev : Option Word) : Aside keptPages s (profileSample s n ev).1 := by
  have target := aside_loopTarget s n
  have moved (x : Profile) (t : Word) := (target.trans (aside_setProfile hn _ x)).trans (aside_showDone hn _ t)
  unfold profileSample
  dsimp only
  split
  · exact target.trans (aside_showDone hn _ _)
  · exact aside_ite_fst (moved _ _) (moved _ _)

theorem aside_selectOutput (s : State) (usable : Bool) : Aside keptPages s (selectOutput s n usable).1 := by
  have read := aside_loopInput s n (fld s (R.LPE_PTO n) F.LPE_PTO_TRK_PT)
  refine aside_ite_fst (Aside.refl _ s) (aside_ite_fst ?_ (aside_ite_fst (Aside.refl _ s) (Aside.refl _ s)))
  dsimp only
  split
  · exact read
  · exact read.trans (aside_loopFlag hn _ _ 1)

omit hn in
theorem length_outputPass (s : State) (x : Int) (k m : Nat) : (outputPass s n x k m).length = m := by
  induction m generalizing x k with
  | zero => rfl
  | succ m ih => exact congrArg (· + 1) (ih _ (k + 1))

omit hn in
theorem length_evaluated {c : Prop} [Decidable c] (s : State) (n : Nat) (x : Int) (k m : Nat) :
    (if c then outputPass s n x k m else []).length ≤ m := by
  split
  · exact (length_outputPass s x k m).le
  · exact Nat.zero_le m

/-- What a sample takes up before its outputs are formed: the swap, the input, the profiler and the set-point. -/
theorem aside_sampleInputs (s : State) (now : List (Nat × Int)) (pid : Nat) {c : Prop} [Decidable c] (ev : Option Word) :
    let u := (loopInput (beforeSample s n).1 n pid).1
    Aside keptPages s (loopSetpoint (if c then profileSample u n ev else (u, false)).1 now n).1 :=
  (((aside_beforeSample hn s).trans (aside_loopInput _ n pid)).trans (aside_ite_fst (aside_profileSample hn _ ev) (Aside.refl _ _))).trans
    (aside_loopSetpoint _ n now)

theorem aside_sampleLoop (k : Nat) (a : State × List (Nat × Int) × Nat) : Aside keptPages a.1 (sampleLoop k a n).1 := by
  obtain ⟨s, now, cyc⟩ := a
  have word (u : State) {off : Nat} (ho : off < 4096) (v : Word) : Aside keptPages u (wr u (regKey (0x49 + n / 128) off (n % 128 + 1)) v) :=
    aside_wr u v (loop_page hn ho _)
  unfold sampleLoop
  dsimp only
  refine aside_then ?_ (aside_setLoopSt hn _ _)
  refine Aside.trans ?_ (aside_setLoop _ n _)
  refine aside_then ?_ (Aside.trans ?sections (word _ (off := 0x260) (by decide) _))
  case sections =>
    refine aside_foldl (out := id) (fun a mem u => ?_) _
    have place := (List.mem_zipIdx mem).2.1
    have sections : loopNsec (beforeSample s n).1 n < 8 := fld_lt _ _ F.LPE_CFG_NSEC
    have most := Nat.lt_of_lt_of_le place (Nat.add_le_add_left (length_evaluated _ _ _ _ _) 0)
    exact aside_sectionUpdate hn u (by omega) _ _
  refine Aside.trans ?_ (aside_loopStatus hn _ _ _)
  refine Aside.trans ?_ (aside_loopStatus hn _ _ _)
  refine Aside.trans ?_ (aside_selectOutput hn _ _)
  refine aside_else ?_ (aside_loopFlag hn _ _ 1)
  refine Aside.trans ?_ (aside_loopStatus hn _ _ _)
  have inputs := fun pid c [Decidable c] ev => aside_sampleInputs hn s now pid (c := c) ev
  split
  · refine Aside.trans ?_ (word _ (off := 0x26C) (by decide) _)
    split
    · exact (inputs _ _ _).trans (word _ (off := 0x268) (by decide) _)
    · exact inputs _ _ _
  · split
    · exact (inputs _ _ _).trans (word _ (off := 0x268) (by decide) _)
    · exact inputs _ _ _

end

theorem mem_samplesAt_lt {s : State} {k e n : Nat} (he : e < 4) (h : n ∈ samplesAt s k e) : n < 512 := by
  obtain ⟨i, mem, place⟩ := List.mem_map.mp (List.mem_of_mem_filter h)
  have small := List.mem_range.mp mem
  omega

/-- The cycles of an evaluation are counted. -/
def engineBusy (s : State) (e cyc : Nat) : State :=
  { s with free := s.free + 1, loopBusy := tput (fun _ => 0) s.loopBusy e (tget (fun _ => 0) s.loopBusy e + cyc) }

theorem aside_engineBusy (s : State) (e cyc : Nat) : Aside keptPages s (engineBusy s e cyc) := aside_of_regs rfl rfl

theorem aside_engineTick (k : Nat) {e : Nat} (he : e < 4) (a : State × List (Nat × Int)) : Aside keptPages a.1 (engineTick k a e).1 := by
  refine aside_ite_fst (Aside.refl _ _) ?_
  have sampled := aside_foldl (out := Prod.fst) (f := sampleLoop k) (l := samplesAt a.1 k e)
    (fun n mem b => aside_sampleLoop (mem_samplesAt_lt he mem) k b) (a.1, a.2, 0)
  exact (sampled.trans (aside_engineBusy _ e _)).trans (aside_setFld (k := R.LPE_LOAD e) (engineBusy _ e _) F.LPE_LOAD_MAX_EVAL _
    (other_page (by omega) (by decide) (plant_page (by omega) (by omega)) 0))

theorem aside_engineTicks (s : State) (k : Nat) : Aside keptPages s (engineTicks s k) :=
  aside_foldl (out := Prod.fst) (fun _ mem b => aside_engineTick k (List.mem_range.mp mem) b) (s, [])

theorem aside_measureLoops (s : State) : Aside keptPages s (measureLoops s) :=
  (aside_forAll (fun _ mem u => aside_setFld u _ _ (other_page (by have := List.mem_range.mp mem; omega) (by decide)
    (plant_page (by omega) (by have := List.mem_range.mp mem; omega)) 0)) s).trans (aside_of_regs rfl rfl)

theorem aside_measureLoad (s : State) : Aside keptPages s (measureLoad s) :=
  (aside_forAll (fun c mem u => aside_setFld u _ _ (other_page (by have := List.mem_range.mp mem; omega) (by decide)
    (plant_page (by omega) (by have := List.mem_range.mp mem; omega)) 0)) s).trans (aside_of_regs rfl rfl)

/-! ## Port meters (R234) -/

section
variable {p : Nat} (hp : p < 16)
include hp

theorem spur_page {off : Nat} (ho : off < 4096) : keyPage (regKey (0x61 + p) off 0) ∉ keptPages :=
  other_page (by omega) ho (plant_page (by omega) (by omega)) 0

omit hp in
theorem aside_setPortMeter (s : State) (p : Nat) (x : PortMeter) : Aside keptPages s (setPortMeter s p x) := aside_of_regs rfl rfl

theorem aside_addPortEnergy (s : State) {r : Nat} (hr : r < 3) (n : Nat) : Aside keptPages s (addPortEnergy s p r n) := by
  have shown (u : State) (acc wraps : Nat) : Aside keptPages u (showEnergy u (R.SPU_PME p r) (R.SPU_PMEH p r) acc wraps) :=
    (aside_wr u _ (spur_page hp (by omega))).trans (aside_wr _ _ (spur_page hp (by omega)))
  have added := fun x a w => (aside_setPortMeter s p x).trans (shown _ a w)
  exact aside_then (added _ _ _) ((aside_setFld _ _ _ (spur_page hp (off := 0x190) (by decide))).trans (aside_raiseBit _ 9 (by omega) (by omega)))

omit hp in
theorem aside_publishPort (s : State) (p j : Nat) (v : DWord) (q : Byte) : Aside keptPages s (publishPort s p j v q) :=
  aside_ite (aside_tryWrite s (by decide) 4 _ v q s.now _) (Aside.refl _ s)

omit hp in
theorem aside_publishPortMeter (s : State) (p : Nat) : Aside keptPages s (publishPortMeter s p) :=
  (((((((aside_publishPort s p 0 _ _).trans (aside_publishPort _ p 1 _ _)).trans (aside_publishPort _ p 2 _ _)).trans
    (aside_publishPort _ p 3 _ _)).trans (aside_publishPort _ p 4 _ _)).trans (aside_publishPort _ p 5 _ _)).trans
    (aside_publishPort _ p 6 _ _)).trans (aside_setPortMeter _ p _)

/-- The energy of a tick, with what the cable loses. -/
theorem aside_tickEnergy (s : State) (loss e : Int) : Aside keptPages s
    (let s := if 0 < e then addPortEnergy s p 0 e.natAbs else bumpSat s (R.SPU_PMREV p) 1
     let s := if loss < e then addPortEnergy s p 1 (e - loss).natAbs else s
     if 0 < loss then addPortEnergy s p 2 loss.natAbs else s) :=
  aside_then (aside_then (aside_ite (aside_addPortEnergy hp s (by decide) _) (aside_bumpSat s 1 (spur_page hp (off := 0x198) (by decide))))
    (aside_addPortEnergy hp _ (by decide) _)) (aside_addPortEnergy hp _ (by decide) _)

theorem aside_portTick (s : State) : Aside keptPages s (portTick s p) := by
  have shown (v w : Nat) := (aside_setFld s F.SPU_PMEAS_VOLT v (spur_page hp (off := 0x50) (by decide))).trans
    (aside_setFld _ F.SPU_PMEAS_CURR w (spur_page hp (off := 0x50) (by decide)))
  unfold portTick
  dsimp only
  refine aside_then (Aside.trans ?_ (aside_setPortMeter _ p _)) (aside_publishPortMeter _ p)
  split
  · refine Aside.trans ?_ (aside_wr _ _ (spur_page hp (off := 0x194) (by decide)))
    exact aside_then (aside_ite (Aside.refl _ s) (shown _ _)) (aside_tickEnergy hp _ _ _)
  · exact aside_then (aside_ite (Aside.refl _ s) (shown _ _)) (aside_tickEnergy hp _ _ _)

end

theorem aside_meterTick (s : State) (k : Nat) : Aside keptPages s (meterTick s k) := by
  have dsp {d off : Nat} (hd : d < 2) (ho : off < 4096) : keyPage (regKey (0x51 + d) off 0) ∉ keptPages :=
    other_page (by omega) ho (plant_page (by omega) (by omega)) 0
  have lost : ∀ d ∈ upTo 2, ∀ u, Aside keptPages u (countLost u d) := fun d mem u =>
    aside_ite (aside_bumpSat u 1 (dsp (List.mem_range.mp mem) (by decide))) (Aside.refl _ u)
  refine aside_then ((aside_forAll (fun p mem u => aside_portTick (List.mem_range.mp mem) u) s).trans (aside_forAll lost _)) ?_
  exact aside_forAll (fun d mem u => (aside_of_regs rfl rfl : Aside keptPages u (takeFree u).1).trans
    (aside_setFld _ _ _ (dsp (List.mem_range.mp mem) (by decide)))) _

end Sys2Proof.Machine
end

section
/-! SUPPORT. What the stations, the lite channels and the transmit rings leave alone at a tick, and what an engine's updates leave of the mode
(R278, R389, R258, R461). -/

namespace Sys2Proof.Machine

open Sys2Proof.Safety

/-! ## Stations (R276 to R294) -/

section
variable {p : Nat} (hp : p < 16)
include hp

omit hp in
theorem aside_setStn (s : State) (p : Nat) (x : Station) : Aside keptPages s (setStn s p x) := aside_of_regs rfl rfl

theorem aside_service (s : State) (f : Fld) (v : Nat) : Aside keptPages s (setFld s (R.SPU_SSTAT p) f v) :=
  aside_setFld s f v (spur_page hp (by decide))

theorem aside_showStn (s : State) (st : Nat) : Aside keptPages s (showStn s p st) :=
  ((aside_service hp s _ _).trans (aside_setBit _ _ _ (by decide))).trans (aside_setBit _ _ _ (by decide))

omit hp in
theorem spuFlask_lt (s : State) (p : Nat) : spuFlask s p < 32 := fld_lt s _ F.PG_OWNER

omit hp in
theorem aside_commitSubs (s : State) (p : Nat) : Aside keptPages s (commitSubs s p) :=
  aside_forAll (fun _ _ u => aside_fieldWrite u (spuFlask_lt u p) 5 _ _ _ _ _) s

omit hp in
theorem aside_commitStale (s : State) (p : Nat) : Aside keptPages s (commitStale s p) := by
  refine aside_forAll (fun c _ u => aside_ite ?_ (aside_deny u (spuFlask_lt u p) 5 _)) s
  split
  · exact (aside_of_regs rfl rfl : Aside keptPages u (setForce u _ _)).trans (aside_mirrorForce _ 3 _ _)
  · exact aside_commitPoint u _ _

omit hp in
theorem aside_svcSubs (s : State) (p : Nat) : Aside keptPages s (svcSubs s p) :=
  aside_ite ((aside_commitSubs s p).trans (aside_setStn _ p _)) (Aside.refl _ s)

theorem aside_svcStart (s : State) : Aside keptPages s (svcStart s p) :=
  (((aside_service hp s _ _).trans (aside_setStn _ p _)).trans (aside_showStn hp _ _)).trans (aside_service hp _ _ _)

theorem aside_svcOff (s : State) : Aside keptPages s (svcOff s p) :=
  aside_then ((((aside_service hp s _ _).trans (aside_showStn hp _ _)).trans (aside_setStn _ p _)).trans (aside_service hp _ _ _))
    ((aside_service hp _ _ _).trans (aside_svcStart hp _))

theorem aside_svcTick (s : State) : Aside keptPages s (svcTick s p) :=
  aside_ite ((aside_svcSubs s p).trans (aside_service hp _ _ _)) (aside_ite ((aside_svcSubs s p).trans (aside_svcOff hp _)) (Aside.refl _ s))

omit hp in
theorem aside_postStation (s : State) (p code : Nat) : Aside keptPages s (postStation s p code) :=
  aside_else (aside_postCause s _ _ _ _) (aside_postCause _ _ _ _ _)

/-- A drop-out up to the wake event that it may be. -/
def stationDropped (s : State) (p : Nat) : State :=
  postStation (raiseBit (bumpSat (commitSubs (showStn (setStn s p { stnAt s p with dropDue := false }) p stDROPPED) p) (R.SPU_SDROPS p) 1) (spuPage p) 5) p 6

omit hp in
theorem dropStation_eq (s : State) (p : Nat) :
    dropStation s p = if (stnAt s p).dropDue then wakeEvent (stationDropped s p) F.SYS_DOZECFG_STN else s := by
  unfold dropStation
  cases (stnAt s p).dropDue <;> rfl

theorem aside_stationDropped (s : State) : Aside keptPages s (stationDropped s p) :=
  (((((aside_setStn s p _).trans (aside_showStn hp _ _)).trans (aside_commitSubs _ p)).trans
    (aside_bumpSat _ 1 (spur_page hp (off := 0x120) (by decide)))).trans (aside_raiseBit _ 5 (by unfold spuPage; omega) (by unfold spuPage; omega))).trans
    (aside_postStation _ p 6)

/-- A spur that has answered in its cycle. -/
def cycleAnswered (s : State) (p : Nat) : State :=
  if stnSt s p = stDROPPED then postStation (raiseBit (setFld (showStn s p stUP) (R.SPU_SSTAT p) F.SPU_SSTAT_MISSES 0) (spuPage p) 6) p 7
  else setFld (showStn s p stUP) (R.SPU_SSTAT p) F.SPU_SSTAT_MISSES 0

/-- The consequence of a number of misses. -/
def missesCounted (s : State) (p st n : Nat) : State :=
  if fld s (R.SPU_SCFG p) F.SPU_SCFG_DROP_N ≤ n then setStn s p { stnAt s p with dropDue := true }
  else if st = stUP then commitStale (showStn s p stMISSING) p
  else s

/-- A spur that has not. -/
def cycleMissed (s : State) (p : Nat) : State :=
  if stnSt s p = stDROPPED then bumpSat s (R.SPU_SMISS p) 1
  else missesCounted (setFld (bumpSat s (R.SPU_SMISS p) 1) (R.SPU_SSTAT p) F.SPU_SSTAT_MISSES
    (fld (bumpSat s (R.SPU_SMISS p) 1) (R.SPU_SSTAT p) F.SPU_SSTAT_MISSES + 1)) p (stnSt s p)
    (fld (bumpSat s (R.SPU_SMISS p) 1) (R.SPU_SSTAT p) F.SPU_SSTAT_MISSES + 1)

/-- The close of a cycle, once a drop-out that was due has been served. -/
def cycleClosed (s : State) (p : Nat) : State :=
  if svcSt s p != fsON || s.paused then s
  else if (stnAt s p).got then cycleAnswered (setStn s p { stnAt s p with got := false }) p
  else cycleMissed (setStn s p { stnAt s p with got := false }) p

omit hp in
theorem closeCycle_eq (s : State) (p : Nat) : closeCycle s p = cycleClosed (dropStation s p) p := rfl

theorem aside_cycleAnswered (s : State) : Aside keptPages s (cycleAnswered s p) := by
  have up := (aside_showStn hp s stUP).trans (aside_service hp _ F.SPU_SSTAT_MISSES 0)
  exact aside_ite ((up.trans (aside_raiseBit _ 6 (by unfold spuPage; omega) (by unfold spuPage; omega))).trans (aside_postStation _ p 7)) up

theorem aside_missesCounted (s : State) (st n : Nat) : Aside keptPages s (missesCounted s p st n) :=
  aside_ite (aside_setStn s p _) (aside_ite ((aside_showStn hp s _).trans (aside_commitStale _ p)) (Aside.refl _ s))

theorem aside_cycleMissed (s : State) : Aside keptPages s (cycleMissed s p) := by
  have missed := aside_bumpSat s 1 (ps := keptPages) (k := R.SPU_SMISS p) (spur_page hp (off := 0x11C) (by decide))
  unfold cycleMissed
  generalize bumpSat s (R.SPU_SMISS p) 1 = u at missed ⊢
  exact aside_ite missed ((missed.trans (aside_service hp _ _ _)).trans (aside_missesCounted hp _ _ _))

theorem aside_cycleClosed (s : State) : Aside keptPages s (cycleClosed s p) := by
  have begun := aside_setStn s p { stnAt s p with got := false }
  exact aside_ite (Aside.refl _ s) (aside_ite (begun.trans (aside_cycleAnswered hp _)) (begun.trans (aside_cycleMissed hp _)))

end

/-! ## Lite channels (R389, R390) -/

theorem aside_setLadle (s : State) (ch : Nat) (x : LadleCh) : Aside keptPages s (setLadle s ch x) := aside_of_regs rfl rfl

section
variable {k : Nat} (hk : k < 48)
include hk

theorem aside_liteStatus (s : State) (f : Fld) (v : Nat) : Aside keptPages s (setFld s (R.lSTAT k) f v) :=
  aside_setFld s f v (other_page (by omega) (by omega) (plant_page (by omega) (by omega)) 0)

theorem aside_liteCheckFault (s : State) (c : Code) : Aside keptPages s (liteCheckFault s k c) := by
  unfold liteCheckFault
  dsimp only
  refine Aside.trans ?_ (aside_raiseBit _ _ (by omega) (by omega))
  refine Aside.trans ?_ (aside_setBit _ _ _ (other_page (by decide) (by omega) (by decide) 0))
  refine Aside.trans ?_ (aside_setLadle _ _ _)
  refine Aside.trans ?_ (aside_liteStatus hk _ _ _)
  exact (aside_liteStatus hk s _ _).trans (aside_liteStatus hk _ _ _)

theorem aside_liteBegin (s : State) (j : LadleJob) (c : Code) : Aside keptPages s (liteBegin s k j c) := by
  unfold liteBegin
  split
  · exact aside_setLadle s _ _
  · exact aside_liteCheckFault hk s _

theorem aside_liteStart (s : State) : Aside keptPages s (liteStart s k) := aside_liteBegin hk s (liteJob s k) (jobCheck s (0x10 + k) (liteJob s k) false)

theorem aside_liteTrigger (s : State) : Aside keptPages s (liteTrigger s k) :=
  aside_ite (Aside.refl _ s) (aside_ite (aside_ite (aside_liteStatus hk s _ _) (aside_liteStatus hk s _ _)) (aside_liteStart hk s))

end

theorem aside_liteTriggers (s : State) (trig tsrc : Nat) : Aside keptPages s (liteTriggers s trig tsrc) :=
  aside_forAll (fun _ mem u => aside_ite (aside_liteTrigger (List.mem_range.mp mem) u) (Aside.refl _ u)) s

/-! ## Transmit rings (R258, R259) -/

section
variable {b : Nat} (hb : b < 8)
include hb

theorem bus_page {off : Nat} (ho : off < 4096) : keyPage (regKey (0x58 + b) off 0) ∉ keptPages :=
  other_page (by omega) ho (plant_page (by omega) (by omega)) 0

omit hb in
theorem aside_setBus (s : State) (b : Nat) (x : CanBus) : Aside keptPages s (setBus s b x) := aside_of_regs rfl rfl

theorem aside_setBuf (s : State) {n : Nat} (hn : n < 16) (st : Nat) : Aside keptPages s (setBuf s b n st) :=
  (aside_setFld s F.TXB_STAT_STATUS st (bus_page hb (off := 0x408 + 0x50 * n) (by omega))).trans
    (aside_setBit _ n _ (bus_page hb (off := 0x98) (by decide)))

theorem aside_requestBuf (s : State) {n : Nat} (hn : n < 16) : Aside keptPages s (requestBuf s b n) :=
  aside_ite (Aside.refl _ s) ((aside_wr s 0 (bus_page hb (off := 0x408 + 0x50 * n) (by omega))).trans (aside_setBuf hb _ hn _))

theorem aside_txChoice (s : State) : Aside keptPages s (txChoice s b) := by
  rw [txChoice_eq]
  refine aside_ite (Aside.refl _ s) ?_
  split
  · exact Aside.refl _ s
  next n best =>
    have small : n < 16 := (winner_pending best).1
    exact ((aside_setBus s b _).trans (aside_setBuf hb _ small _)).trans
      (aside_bumpFld _ F.TXB_STAT_ATTEMPTS 1 (bus_page hb (off := 0x408 + 0x50 * n) (by omega)))

/-- The words of a buffer's data, each from the buffers' state before it. -/
theorem aside_bufferData {n : Nat} (hn : n < 16) (f : State → Nat → Word) (s : State) :
    Aside keptPages s (forAll (fun s i => wr s (R.TXB_DATA b n i) (f s i)) (upTo 16) s) :=
  aside_forAll (fun i mem u => aside_wr u _ (bus_page hb (off := 0x410 + 0x50 * n + 0x4 * i)
    (by have := List.mem_range.mp mem; omega))) s

theorem aside_takeEntries (base txn k : Nat) (s : State) : Aside keptPages s (takeEntries b base txn k s) := by
  induction k generalizing s with
  | zero => exact Aside.refl _ s
  | succ k ih =>
    have stored (u : State) (a n v : Nat) : Aside keptPages u (storeN u a n v) := aside_putBytes u a _
    unfold takeEntries
    dsimp only
    split
    · exact (((stored s _ _ _).trans (aside_bumpSat _ 1 (bus_page hb (off := 0x78) (by decide)))).trans (stored _ _ _ _)).trans (ih _)
    · split
      · exact Aside.refl _ s
      next n place =>
        have small : n < 16 := List.mem_range.mp (List.mem_of_find?_eq_some place)
        exact ((((aside_wr s _ (bus_page hb (off := 0x400 + 0x50 * n) (by omega))).trans
          (aside_wr _ _ (bus_page hb (off := 0x404 + 0x50 * n) (by omega)))).trans (aside_bufferData hb small _ _)).trans
          ((aside_requestBuf hb _ small).trans (stored _ _ _ _))).trans (ih _)

theorem aside_serveTxRing (s : State) : Aside keptPages s (serveTxRing s b) := by
  unfold serveTxRing
  dsimp only
  split
  · exact Aside.refl _ s
  · exact aside_ite (Aside.refl _ s) (aside_ite (aside_putBytes s _ _) ((aside_takeEntries hb _ _ _ s).trans (aside_txChoice hb _)))

end

theorem aside_serveTxRings (s : State) : Aside keptPages s (serveTxRings s) :=
  aside_forAll (fun _ mem u => aside_serveTxRing (List.mem_range.mp mem) u) s

end Sys2Proof.Machine
end

section
/-! SUPPORT. What a tick boundary and a change of mode leave of time, of the mode and of the timebase's slew (R441, R456, R457, R461, R192). -/

namespace Sys2Proof.Machine

open Sys2Proof.Safety

/-! ## Time goes on -/

/-- Time has not gone back, and the next tick is the same. -/
structure Onward (s t : State) : Prop where
  tick : t.nextTick = s.nextTick
  now : s.now ≤ t.now

theorem Onward.refl (s : State) : Onward s s := ⟨rfl, BitVec.le_refl _⟩

theorem Onward.trans {s t u : State} (h : Onward s t) (k : Onward t u) : Onward s u := ⟨k.tick.trans h.tick, BitVec.le_trans h.now k.now⟩

theorem onward_advanceTo (s : State) (at_ : DWord) : Onward s (advanceTo s at_) := ⟨advanceTo_nextTick s at_, (le_advanceTo s at_).1⟩

theorem Aside.onward {ps : List Nat} {s t : State} (h : Aside ps s t) : Onward s t :=
  ⟨congrArg (·.1) h.control, h.now ▸ BitVec.le_refl _⟩

/-! ## Updates beside the mode -/

/-- Time, the next tick, and the bars that the mode sets. -/
def bars (s : State) : DWord × Nat × Bool × Bool := (s.now, s.nextTick, s.rwlLocked, s.wake)

/-- An update that leaves the mode, its bars and time as they are. -/
structure ModeKept (s t : State) : Prop where
  bars : bars t = bars s
  mode : rd t R.SYS_MODE = rd s R.SYS_MODE

section
variable {s t u : State}

theorem ModeKept.refl (s : State) : ModeKept s s := ⟨rfl, rfl⟩

theorem ModeKept.trans (h : ModeKept s t) (k : ModeKept t u) : ModeKept s u := ⟨k.bars.trans h.bars, k.mode.trans h.mode⟩

theorem onward_of_bars (h : Machine.bars t = Machine.bars s) : Onward s t := by
  have now : t.now = s.now := congrArg (·.1) h
  exact ⟨congrArg (·.2.1) h, now ▸ BitVec.le_refl _⟩

theorem ModeKept.onward (h : ModeKept s t) : Onward s t := onward_of_bars h.bars

theorem ModeKept.modeNow (h : ModeKept s t) : modeNow t = Machine.modeNow s := congrArg (bits · 3 0) h.mode

@[simp] theorem bars_raiseBit (s : State) (page n : Nat) : Machine.bars (raiseBit s page n) = Machine.bars s := by
  simp only [Machine.bars, raiseBit_now, raiseBit_nextTick, raiseBit_rwlLocked, raiseBit_wake]

theorem modeKept_setTwin (s : State) (x : Twin) : ModeKept s (setTwin s x) := ⟨rfl, rfl⟩

theorem modeKept_setFld (s : State) {k : Nat} (f : Fld) (v : Nat) (other : R.SYS_MODE ≠ k) : ModeKept s (setFld s k f v) :=
  ⟨rfl, rd_setFld_ne s f v other⟩

theorem modeKept_raiseTwin (s : State) (n : Nat) : ModeKept s (raiseBit s 0x88 n) := ⟨bars_raiseBit s _ _, rd_raiseBit_ne s (by decide) (by decide)⟩

theorem modeKept_setSync (s : State) (v : Nat) : ModeKept s (setSync s v) := by
  have shown := modeKept_setFld s F.TWN_STAT_SYNC v (k := R.TWN_STAT) (by decide)
  obtain same | event | ⟨-, synced⟩ := setSync_cases s v
  · rw [same]
    exact shown
  · rw [event]
    exact shown.trans (modeKept_raiseTwin _ 6)
  · rw [synced]
    exact (shown.trans (modeKept_setTwin _ _)).trans (modeKept_raiseTwin _ 5)

theorem modeKept_setRole (s : State) (r : Nat) : ModeKept s (setRole s r) := by
  have event : ModeKept s (roleEvent s r) := by
    unfold roleEvent
    split
    · exact ModeKept.refl s
    · exact modeKept_raiseTwin s 0
  have lines (u : State) : ModeKept u (roleLines u) := by
    have out (v : Nat) := modeKept_setFld u F.TWN_STAT_ROLE_OUT v (k := R.TWN_STAT) (by decide)
    unfold roleLines
    dsimp only
    split
    · exact out _
    · exact (out _).trans (modeKept_setFld _ _ 0 (by decide))
  exact ((event.trans (modeKept_setFld _ F.TWN_STAT_ROLE r (k := R.TWN_STAT) (by decide))).trans
    (modeKept_setFld _ F.PG_SUBSTATE r (k := R.PG_STATE 0x88) (by decide))).trans (lines _)

theorem modeKept_startResolving (s : State) : ModeKept s (startResolving s) :=
  ((modeKept_setTwin s _).trans (modeKept_setRole _ rlRESOLVING)).trans (modeKept_setSync _ syUNSYNCED)

theorem modeKept_requestedRole (s : State) (md : Nat) : ModeKept s (requestedRole s md) := by
  unfold requestedRole
  split
  · exact ModeKept.refl s
  · split
    · exact modeKept_startResolving s
    · split
      · exact (modeKept_setRole s rlNONE).trans (modeKept_setSync _ syUNSYNCED)
      · exact ModeKept.refl s

theorem modeKept_cancelHandover (s : State) : ModeKept s (cancelHandover s) :=
  (modeKept_setTwin s _).trans (modeKept_setFld _ F.TWN_STAT_HO_PEND 0 (k := R.TWN_STAT) (by decide))

theorem modeKept_dropUnnamed (s : State) : ModeKept s (dropUnnamed s) := by
  have xch (u : State) {k : Nat} (f : Fld) (v : Nat) (other : R.SYS_MODE ≠ k) := modeKept_setFld u f v other
  unfold dropUnnamed
  split
  · exact (((xch s _ _ (by decide)).trans (xch _ _ _ (by decide))).trans (xch _ _ _ (by decide))).trans (xch _ _ _ (by decide))
  · exact ModeKept.refl s

theorem modeKept_raiseEpoch (s : State) : ModeKept s (raiseEpoch s).1 := by
  rw [raiseEpoch_eq]
  split
  · exact ⟨rfl, rd_wr_ne s _ (by decide)⟩
  · exact ⟨rfl, rfl⟩

theorem modeKept_loneEpoch (s : State) : ModeKept s (loneEpoch s) := by
  unfold loneEpoch
  split
  · exact ModeKept.refl s
  · exact modeKept_raiseEpoch s

theorem bars_discardRequest (s : State) : Machine.bars (discardRequest s) = Machine.bars s := by
  unfold discardRequest
  split
  · exact bars_raiseBit _ _ _
  · rfl

end

/-! ## A change of mode (R456) -/

section
variable (s : State)

theorem aside_refreshTask {t : Nat} (ht : t < 64) : Aside keptPages s (refreshTask s t) := by
  have status (u : State) (f : Fld) (v : Nat) : Aside keptPages u (setFld u (R.SCN_TSTAT t) f v) :=
    aside_setFld u f v (other_page (by decide) (by omega) (by decide) 0)
  have pending (u : State) : Aside keptPages u (showPend u t) := aside_ite (status u _ _) (Aside.refl _ u)
  have held (u : State) (x : TaskState) : Aside keptPages u (setTask u t x) := aside_of_regs rfl rfl
  exact aside_ite (aside_ite (aside_ite (status s _ _) (Aside.refl _ s)) (((status s _ _).trans (held _ _)).trans (pending _))) (Aside.refl _ s)

theorem aside_startCan {b : Nat} (hb : b < 8) : Aside keptPages s (startCan s b) := by
  have state (u : State) (f : Fld) (v : Nat) : Aside keptPages u (setFld u (R.PG_STATE (fbPage b)) f v) :=
    aside_setFld u f v (bus_page hb (by decide))
  exact aside_ite (Aside.refl _ s) (((aside_setBus s b _).trans (state _ _ _)).trans (state _ _ _))

theorem aside_refreshTasks : Aside keptPages s (refreshTasks s) :=
  aside_forAll (fun _ mem u => aside_refreshTask u (List.mem_range.mp mem)) s

theorem aside_refreshCan : Aside keptPages s (refreshCan s) :=
  aside_forAll (fun _ mem u => aside_ite (aside_startCan u (List.mem_range.mp mem)) (Aside.refl _ u)) s

theorem aside_refreshAll : Aside keptPages s (refreshAll s) :=
  (((aside_refreshTasks s).trans (aside_refreshLoops _)).trans (aside_refreshMeters _)).trans (aside_refreshCan _)

variable (md reason : Nat)

theorem aside_changeMode : Aside keptPages (modeEntered s md reason) (changeMode s md reason) := by
  have started (u : State) : Aside keptPages u (if md = mdACTIVE ∧ modeNow s ≠ md then
      (match startDetail (modeNow s) with | some d => postStart u d | none => u) else u) := by
    split
    · split
      · exact aside_postStart u _
      · exact Aside.refl _ u
    · exact Aside.refl _ u
  exact (started _).trans (aside_refreshAll _)

theorem modeKept_modeEntered : ModeKept (modeShown s md reason) (modeEntered s md reason) := by
  unfold modeEntered
  split
  · exact modeKept_loneEpoch _
  · exact ModeKept.refl _

theorem clock_modeShown : (modeShown s md reason).now = s.now ∧ (modeShown s md reason).nextTick = s.nextTick := by
  unfold modeShown
  dsimp only
  split
  · exact ⟨rfl, rfl⟩
  · exact ⟨raiseBit_now _ _ _, raiseBit_nextTick _ _ _⟩

theorem onward_changeMode : Onward s (changeMode s md reason) := by
  obtain ⟨now, tick⟩ := clock_modeShown s md reason
  have shown : Onward s (modeShown s md reason) := ⟨tick, now ▸ BitVec.le_refl _⟩
  exact (shown.trans (modeKept_modeEntered s md reason).onward).trans (aside_changeMode s md reason).onward

end

end Sys2Proof.Machine
end

section
/-! SUPPORT. What the tick boundary settles before its engines work: roles that are due, and the mode (R333, R336, R351, R457, R461). -/

namespace Sys2Proof.Machine

open Sys2Proof.Safety

/-! ## Roles -/

section
variable (s : State)

theorem onward_discardRequest : Onward s (discardRequest s) := onward_of_bars (bars_discardRequest s)

theorem onward_becomeStandby (reason sync : Nat) : Onward s (becomeStandby s reason sync) :=
  (onward_discardRequest s).trans (((((modeKept_cancelHandover _).trans (modeKept_setTwin _ _)).trans (modeKept_setRole _ rlSTANDBY)).trans
    ((modeKept_setSync _ sync).trans (modeKept_setTwin _ _))).onward.trans (onward_changeMode _ mdSTANDBY reason))

theorem onward_becomeActive (reason : Nat) : Onward s (becomeActive s reason) :=
  (onward_discardRequest s).trans (((((modeKept_dropUnnamed _).trans (modeKept_setTwin _ _)).trans (modeKept_setSync _ syUNSYNCED)).trans
    ((modeKept_setRole _ rlACTIVE).trans (modeKept_cancelHandover _))).onward.trans (onward_changeMode _ _ reason))

theorem modeKept_recordTakeover (reason silent : Nat) : ModeKept s (recordTakeover s reason silent) :=
  ⟨rfl, (rd_wr_ne _ _ (by decide)).trans ((rd_wr_ne _ _ (by decide)).trans (rd_wr_ne s _ (by decide)))⟩

theorem modeKept_recordReturn : ModeKept s (recordReturn s) := by
  unfold recordReturn
  dsimp only
  split
  · exact ((modeKept_setTwin s _).trans (modeKept_setFld _ F.TWN_STAT_REV_SUSP 1 (k := R.TWN_STAT) (by decide))).trans (modeKept_raiseTwin _ 7)
  · exact modeKept_setTwin s _

theorem onward_enterActiveRole : Onward s (enterActiveRole s) := by
  unfold enterActiveRole
  split
  · exact Onward.refl s
  next reason silent _ =>
    have active := ((onward_advanceTo s (nextBoundary s)).trans (modeKept_recordTakeover _ reason silent).onward).trans (onward_becomeActive _ 2)
    dsimp only
    split
    · exact active.trans ((modeKept_setFld _ F.TWN_STAT_TAKEOVER 1 (k := R.TWN_STAT) (by decide)).trans (modeKept_raiseTwin _ 1)).onward
    · exact active

theorem onward_demotion : Onward s (demotion s) := by
  unfold demotion
  split
  · exact Onward.refl s
  · exact ((onward_advanceTo s (nextBoundary s)).trans (onward_becomeStandby _ 4 syUNSYNCED)).trans
      ((modeKept_setFld _ F.TWN_STAT_DEMOTED 1 (k := R.TWN_STAT) (by decide)).trans (modeKept_raiseTwin _ 2)).onward

theorem onward_handoverSwitch : Onward s (handoverSwitch s) := by
  have reached := onward_advanceTo s (nextBoundary s)
  unfold handoverSwitch
  split
  · exact Onward.refl s
  · dsimp only
    split
    · exact Onward.refl s
    · split
      · exact reached.trans (onward_becomeStandby _ 3 sySYNCED)
      · split
        · have raised := reached.trans (modeKept_raiseEpoch (advanceTo s (nextBoundary s))).onward
          split
          · split
            · exact (raised.trans (onward_becomeActive _ 3)).trans (modeKept_recordReturn _).onward
            · exact raised.trans (onward_becomeActive _ 3)
          · exact raised.trans (modeKept_cancelHandover _).onward
        · exact reached

/-- The request's bits fall. -/
def requestCleared : State := setFld (setFld s R.SYS_MODE F.SYS_MODE_PEND 0) R.SYS_MODE F.SYS_MODE_REQ 0

theorem onward_settleMode : Onward s (settleMode s) := by
  have cleared : Onward s (requestCleared s) := onward_of_bars rfl
  unfold settleMode
  split
  · exact (onward_discardRequest s).trans (onward_changeMode _ mdACTIVE 5)
  · split
    · dsimp only
      split
      · exact cleared
      · exact (cleared.trans (modeKept_requestedRole _ _).onward).trans (onward_changeMode _ _ 1)
    · exact Onward.refl s

theorem onward_settleBoundary : Onward s (settleBoundary s) :=
  (((onward_enterActiveRole s).trans (onward_demotion _)).trans (onward_handoverSwitch _)).trans (onward_settleMode _)

end

/-! ## The mode -/

section
variable {s : State}

/-- No role is due. -/
abbrev Quiet (s : State) : Prop := s.twin.decided = none ∧ s.twin.demote = false ∧ s.twin.hoTick = none

theorem settleBoundary_quiet (quiet : Quiet s) : settleBoundary s = settleMode s := by
  obtain ⟨decided, demote, handover⟩ := quiet
  have enter : enterActiveRole s = s := by simp only [enterActiveRole, decided]
  have demoted : demotion s = s := by simp only [demotion, demote, Bool.not_false, if_true]
  have switched : handoverSwitch s = s := by simp only [handoverSwitch, handover]
  rw [settleBoundary, enter, demoted, switched]

theorem settleMode_idle (wake : s.wake = false) (pend : flag s R.SYS_MODE F.SYS_MODE_PEND = false) : settleMode s = s := by
  simp only [settleMode, wake, pend, Bool.false_eq_true, false_and, if_false]

theorem settleMode_wakes (wake : s.wake = true) (mode : modeNow s = mdDOZE) : settleMode s = changeMode (discardRequest s) mdACTIVE 5 :=
  if_pos ⟨wake, mode⟩

/-- The mode that a request leads to: a paired module goes from COMMISSION to STANDBY (R330, R457). -/
def modeTaken (s : State) : Nat :=
  if modeNow s = mdCOMMISSION ∧ fld s R.SYS_MODE F.SYS_MODE_REQ = mdACTIVE ∧ paired s = true then mdSTANDBY else fld s R.SYS_MODE F.SYS_MODE_REQ

theorem modeNow_requestCleared (s : State) : modeNow (requestCleared s) = modeNow s :=
  (fld_setFld_other _ _ F.SYS_MODE_REQ F.SYS_MODE_MODE 0 (by decide) (by decide) (by decide)).trans
    (fld_setFld_other s _ F.SYS_MODE_PEND F.SYS_MODE_MODE 0 (by decide) (by decide) (by decide))

theorem pend_requestCleared (s : State) : flag (requestCleared s) R.SYS_MODE F.SYS_MODE_PEND = false :=
  (congrArg (· != 0) (fld_setFld_other _ _ F.SYS_MODE_REQ F.SYS_MODE_PEND 0 (by decide) (by decide) (by decide))).trans
    (flag_setFld_zero s _ _ (by decide) (by decide))

theorem paired_requestCleared (s : State) : paired (requestCleared s) = paired s :=
  congrArg (· != 0) ((fld_setFld_ne _ _ _ _ (by decide)).trans (fld_setFld_ne s _ _ _ (by decide)))

variable (awake : s.wake = false ∨ modeNow s ≠ mdDOZE) (pend : flag s R.SYS_MODE F.SYS_MODE_PEND = true)
include awake pend

theorem settleMode_refuses (barred : requestAllowed (modeNow s) (fld s R.SYS_MODE F.SYS_MODE_REQ) = false) : settleMode s = requestCleared s := by
  have asleep : ¬ (s.wake = true ∧ modeNow s = mdDOZE) := fun both => awake.elim (fun w => by simp [w] at both) (fun m => m both.2)
  have barred' : requestAllowed (modeNow (requestCleared s)) (fld s R.SYS_MODE F.SYS_MODE_REQ) = false := by rw [modeNow_requestCleared, barred]
  unfold settleMode
  rw [if_neg asleep, if_pos pend]
  exact if_pos (by rw [requestCleared] at barred'; rw [barred']; rfl)

theorem settleMode_takes (allowed : requestAllowed (modeNow s) (fld s R.SYS_MODE F.SYS_MODE_REQ) = true) :
    settleMode s = changeMode (requestedRole (requestCleared s) (modeTaken s)) (modeTaken s) 1 := by
  have asleep : ¬ (s.wake = true ∧ modeNow s = mdDOZE) := fun both => awake.elim (fun w => by simp [w] at both) (fun m => m both.2)
  have mode := modeNow_requestCleared s
  have pair := paired_requestCleared s
  rw [requestCleared] at mode pair
  unfold settleMode modeTaken
  rw [if_neg asleep, if_pos pend]
  dsimp only
  rw [mode, pair, if_neg (by rw [allowed]; decide)]
  rfl

end

end Sys2Proof.Machine
end

section
/-! SUPPORT. The work of a tick boundary leaves the mode, the slew and the pair's state; the mode that a boundary takes is the one requested
(R192, R278, R441, R457, R461). -/

namespace Sys2Proof.Machine

open Sys2Proof.Safety

/-! ## A mode taken -/

section
variable (s : State) (md reason : Nat)

theorem rd_modeShown : rd (modeShown s md reason) R.SYS_MODE =
    BitVec.ofNat 32 (reason * 2 ^ 24 + modeNow s * 2 ^ 12 + bits (rd s R.SYS_MODE) 11 6 * 2 ^ 6 + md) := by
  unfold modeShown
  dsimp only
  split
  · exact rd_wr_same s _ _
  · exact (rd_raiseBit_ne _ (by decide) (by decide)).trans (rd_wr_same s _ _)

/-- The fields of SYS_MODE's word. -/
theorem mode_fields {w : Word} {was md reason : Nat} (hwas : was < 16) (hmd : md < 16) (hr : reason < 256) (pend : bits w 7 7 = 0) :
    let v : Word := BitVec.ofNat 32 (reason * 2 ^ 24 + was * 2 ^ 12 + bits w 11 6 * 2 ^ 6 + md)
    bits v 31 24 = reason ∧ bits v 15 12 = was ∧ bits v 7 7 = 0 ∧ bits v 3 0 = md := by
  simp only [bits, natBits, BitVec.toNat_ofNat, Nat.shiftRight_eq_div_pow] at pend ⊢
  generalize w.toNat = x at pend
  refine ⟨?_, ?_, ?_, ?_⟩ <;> omega

/-- A mode has been taken for a reason from another, and no request waits. -/
structure ModeTaken (was md reason : Nat) (locked : Bool) (t : State) : Prop where
  mode : modeNow t = md
  reason : fld t R.SYS_MODE F.SYS_MODE_REASON = reason
  prev : fld t R.SYS_MODE F.SYS_MODE_PREV = was
  pend : flag t R.SYS_MODE F.SYS_MODE_PEND = false
  wake : t.wake = false
  event : was ≠ md → (rd t (R.PG_ISR 0x00)).getLsbD 0 = true
  locked : t.rwlLocked = (locked || md == mdACTIVE || md == mdSTANDBY || md == mdDOZE)

variable {s md reason}

theorem changeMode_takes (hmd : md < 16) (hr : reason < 256) (pend : flag s R.SYS_MODE F.SYS_MODE_PEND = false) :
    ModeTaken (modeNow s) md reason s.rwlLocked (changeMode s md reason) := by
  have pend' : bits (rd s R.SYS_MODE) 7 7 = 0 := by simpa [flag, fld, F.SYS_MODE_PEND] using pend
  obtain ⟨shownReason, shownPrev, shownPend, shownMode⟩ := mode_fields (w := rd s R.SYS_MODE) (fld_lt s R.SYS_MODE F.SYS_MODE_MODE) hmd hr pend'
  have entered := modeKept_modeEntered s md reason
  have aside := aside_changeMode s md reason
  have word : rd (changeMode s md reason) R.SYS_MODE =
      BitVec.ofNat 32 (reason * 2 ^ 24 + modeNow s * 2 ^ 12 + bits (rd s R.SYS_MODE) 11 6 * 2 ^ 6 + md) :=
    (aside.regs _ (by decide)).trans (entered.mode.trans (rd_modeShown s md reason))
  have isr : rd (changeMode s md reason) (R.PG_ISR 0x00) = rd (modeShown s md reason) (R.PG_ISR 0x00) := by
    rw [aside.regs _ (by decide)]
    unfold modeEntered
    split
    · exact rd_loneEpoch_ne _ (by decide)
    · rfl
  have control := aside.control
  have kept := entered.bars
  simp only [Machine.control, Machine.bars, Prod.mk.injEq] at control kept
  refine ⟨?_, ?_, ?_, ?_, ?_, fun changed => ?_, ?_⟩
  · rw [modeNow, fld, word]
    exact shownMode
  · rw [fld, word]
    exact shownReason
  · rw [fld, word]
    exact shownPrev
  · rw [flag, fld, word]
    exact congrArg (· != 0) shownPend
  · rw [control.2.2.1, kept.2.2.2]
    rfl
  · rw [isr, modeShown]
    rw [if_neg changed]
    exact raiseBit_isr_bit _ (by decide) (by decide)
  · rw [control.2.1, kept.2.2.1, modeShown]
    split
    · rfl
    · rw [raiseBit_rwlLocked]
      rfl

end

/-! ## The work of a tick -/

/-- The work of the engines at a boundary leaves time, the next tick, the bars of configuration, the slew and the pair's state; the mode changes
only where a request is discarded, and a wake is noted only in DOZE. -/
structure TickWork (s t : State) : Prop where
  clock : (t.now, t.nextTick, t.rwlLocked, t.twin.hb) = (s.now, s.nextTick, s.rwlLocked, s.twin.hb)
  slew : rd t R.TB_SLEW = rd s R.TB_SLEW
  stat : rd t R.TWN_STAT = rd s R.TWN_STAT
  causes : ∀ n, (rd s (R.PG_ISR 0x00)).getLsbD n = true → (rd t (R.PG_ISR 0x00)).getLsbD n = true
  mode : flag s R.SYS_MODE F.SYS_MODE_PEND = false → rd t R.SYS_MODE = rd s R.SYS_MODE ∧ (modeNow s ≠ mdDOZE → t.wake = s.wake)

section
variable {s t u : State}

theorem TickWork.refl (s : State) : TickWork s s := ⟨rfl, rfl, rfl, fun _ => id, fun _ => ⟨rfl, fun _ => rfl⟩⟩

theorem TickWork.trans (h : TickWork s t) (k : TickWork t u) : TickWork s u where
  clock := k.clock.trans h.clock
  slew := k.slew.trans h.slew
  stat := k.stat.trans h.stat
  causes n set := k.causes n (h.causes n set)
  mode idle := by
    obtain ⟨same, wake⟩ := h.mode idle
    obtain ⟨same', wake'⟩ := k.mode (by rw [flag, fld, same]; exact idle)
    exact ⟨same'.trans same, fun awake => (wake' (by rw [modeNow, fld, same]; exact awake)).trans (wake awake)⟩

theorem TickWork.now (h : TickWork s t) : t.now = s.now := congrArg (·.1) h.clock
theorem TickWork.nextTick (h : TickWork s t) : t.nextTick = s.nextTick := congrArg (·.2.1) h.clock
theorem TickWork.rwlLocked (h : TickWork s t) : t.rwlLocked = s.rwlLocked := congrArg (·.2.2.1) h.clock

theorem TickWork.following (h : TickWork s t) : following t = Machine.following s := by
  have hb : t.twin.hb = s.twin.hb := congrArg (·.2.2.2) h.clock
  simp only [Machine.following, roleOf, flag, fld, h.stat, hb]

theorem Aside.tickWork (h : Aside keptPages s t) : TickWork s t := by
  have control := h.control
  simp only [Machine.control, Prod.mk.injEq] at control
  obtain ⟨tick, locked, wake, hb⟩ := control
  exact ⟨by rw [h.now, tick, locked, hb], h.regs _ (by decide), h.regs _ (by decide), fun n set => by rwa [h.regs _ (by decide)],
    fun _ => ⟨h.regs _ (by decide), fun _ => wake⟩⟩

theorem tickWork_ite {c : Prop} [Decidable c] (h : TickWork s t) (k : TickWork s u) : TickWork s (if c then t else u) := by
  split
  · exact h
  · exact k

theorem tickWork_forAll {α : Type} {f : State → α → State} {l : List α} (hf : ∀ a ∈ l, ∀ s, TickWork s (f s a)) (s : State) :
    TickWork s (forAll f l s) := by
  induction l generalizing s with
  | nil => exact TickWork.refl s
  | cons a l ih => exact (hf a List.mem_cons_self s).trans (ih (fun b hb => hf b (List.mem_cons_of_mem a hb)) (f s a))

/-- The registers of SYS, TB and TWN that the work of a tick is held against. -/
def tickKeys : List Nat := [R.SYS_MODE, R.PG_ISR 0x00, R.TB_SLEW, R.TWN_STAT]

theorem tickWork_wr (s : State) {k : Nat} (v : Word) (out : k ∉ tickKeys) : TickWork s (wr s k v) := by
  have other {j : Nat} (mem : j ∈ tickKeys) : rd (wr s k v) j = rd s j := rd_wr_ne s v fun e => out (e ▸ mem)
  exact ⟨rfl, other (by decide), other (by decide), fun n set => by rwa [other (by decide)], fun _ => ⟨other (by decide), fun _ => rfl⟩⟩

/-- A level source reaches only the pending words of the sources that there are. -/
theorem rd_evtLevel_high (s : State) (src : Nat) {k : Nat} (out : ∀ i < 10, k ≠ R.EVT_PEND i) : rd (evtLevel s src) k = rd s k := by
  by_cases low : src < 0x140
  · exact rd_evtLevel_ne s (out _ (by omega))
  · have idle : sourceLevel s src = false := by
      have ne : src ≠ 0x133 := by omega
      rw [sourceLevel, if_neg (by omega), beq_eq_false_iff_ne.mpr ne, Bool.false_and]
    rw [evtLevel, idle, if_neg (by decide)]

theorem tickWork_raiseBit (s : State) {page : Nat} (n : Nat) (high : 0x10 ≤ page) : TickWork s (raiseBit s page n) := by
  have pend {k : Nat} (mem : k ∈ tickKeys) : ∀ i < 10, k ≠ R.EVT_PEND i := by
    simp only [tickKeys, List.mem_cons, List.not_mem_nil, or_false] at mem
    intro i hi
    simp only [R.EVT_PEND, regKey]
    simp only [R.SYS_MODE, R.PG_ISR, R.TB_SLEW, R.TWN_STAT, regKey] at mem
    omega
  have isr {k : Nat} (mem : k ∈ tickKeys) : k ≠ R.PG_ISR page := by
    simp only [tickKeys, List.mem_cons, List.not_mem_nil, or_false] at mem
    simp only [R.SYS_MODE, R.PG_ISR, R.TB_SLEW, R.TWN_STAT, regKey] at mem ⊢
    omega
  have other {k : Nat} (mem : k ∈ tickKeys) : rd (raiseBit s page n) k = rd s k :=
    (rd_evtLevel_high _ page (pend mem)).trans (rd_wr_ne s _ (isr mem))
  refine ⟨by simp only [raiseBit_now, raiseBit_nextTick, raiseBit_rwlLocked, raiseBit_twin], other (by decide), other (by decide),
    fun n set => by rwa [other (by decide)], fun _ => ⟨other (by decide), fun _ => raiseBit_wake s page n⟩⟩

/-- A wake event of DOZE, or the discard of a request for it (R458, R461). -/
theorem tickWork_wakeEvent (s : State) (f : Fld) : TickWork s (wakeEvent s f) := by
  unfold wakeEvent
  split
  · exact TickWork.refl s
  · split
    next doze =>
      have other {k : Nat} (ne : k ≠ R.EVT_PEND 9) : rd (evtSet { s with wake := true } 0x132) k = rd s k := rd_evtSet_ne _ ne
      refine ⟨by simp only [evtSet_now, evtSet_nextTick, evtSet_rwlLocked, evtSet_twin], other (by decide), other (by decide),
        fun n set => by rwa [other (by decide)], fun _ => ⟨other (by decide), fun awake => absurd doze awake⟩⟩
    · split
      next requested =>
        have update := pageUpdate_discardRequest s
        have bars := bars_discardRequest s
        simp only [Machine.bars, Prod.mk.injEq] at bars
        obtain ⟨now, tick, locked, -⟩ := bars
        refine ⟨by rw [now, tick, locked, update.twin], update.regs _ (by decide), update.regs _ (by decide), fun n set => ?_,
          fun idle => absurd (idle.symm.trans requested.1) (by decide)⟩
        rw [discardRequest, if_pos requested.1]
        refine isr_raiseBit_mono _ (by decide) 1 ?_
        rwa [rd_setFld_ne _ _ _ (by decide), rd_setFld_ne _ _ _ (by decide), rd_setFld_ne _ _ _ (by decide)]
      · exact TickWork.refl s

end

/-! ## The outputs that are due: of any loop that a state holds -/

section
variable (s : State) (n : Nat)

/-- No register of a loop's window is one of these. -/
theorem loop_key {off : Nat} : regKey (0x49 + n / 128) off (n % 128 + 1) ∉ tickKeys := by
  simp only [tickKeys, List.mem_cons, List.not_mem_nil, or_false, R.SYS_MODE, R.PG_ISR, R.TB_SLEW, R.TWN_STAT, regKey]
  omega

theorem tickWork_loopFlag (f : Fld) (cause : Nat) : TickWork s (loopFlag s n f cause) :=
  (tickWork_wr s _ (loop_key n)).trans (tickWork_raiseBit _ cause (by omega))

theorem tickWork_commitOutput (o : LoopOut) : TickWork s (commitOutput s n o) := by
  have flask : loopFlask s n < 32 := fld_lt s _ F.LPE_CFG_FLASK
  unfold commitOutput
  refine tickWork_ite (aside_bumpSat s 1 (by decide)).tickWork (tickWork_ite ?_ ?_)
  · split
    · exact (aside_writePoint s _ _ _ _ _).tickWork
    · exact tickWork_loopFlag s n _ 4
  · exact (aside_deny s flask 3 _).tickWork.trans (tickWork_loopFlag _ n _ 2)

theorem tickWork_applyOutput (k : Nat) : TickWork s (applyOutput k s n) := by
  unfold applyOutput
  split
  next o _ =>
    exact tickWork_ite (((tickWork_commitOutput s n o).trans (tickWork_wr _ o.u (loop_key n))).trans (aside_setLoop _ n _).tickWork) (TickWork.refl s)
  · exact TickWork.refl s

end

/-! ## The boundary -/

section
variable (s : State)

theorem tickWork_loopTick (k : Nat) : TickWork s (loopTick s k) :=
  (((aside_refreshLoops s).tickWork.trans (tickWork_forAll (fun n _ u => tickWork_applyOutput u n k) _)).trans
    (aside_forAll (fun _ mem u => aside_finishLoop (List.mem_range.mp mem) u) _).tickWork).trans (aside_engineTicks _ k).tickWork

theorem tickWork_closeCycle {p : Nat} (hp : p < 16) : TickWork s (closeCycle s p) := by
  rw [closeCycle_eq, dropStation_eq]
  exact (tickWork_ite ((aside_stationDropped hp s).tickWork.trans (tickWork_wakeEvent _ _)) (TickWork.refl s)).trans (aside_cycleClosed hp _).tickWork

theorem tickWork_stationTick : TickWork s (stationTick s) :=
  (tickWork_forAll (fun _ mem u => tickWork_closeCycle u (List.mem_range.mp mem)) s).trans
    (aside_forAll (fun _ mem u => aside_svcTick (List.mem_range.mp mem) u) _).tickWork

/-- The tick's number moves on. -/
def tickNumbered (k : Nat) : State := { s with nextTick := k + 1 }

/-- The stations' outputs come from the points as they stand at the boundary (R278). -/
def snapshotTaken : State := { s with snapshot := s.points }

theorem tickWork_snapshotTaken : TickWork s (snapshotTaken s) := ⟨rfl, rfl, rfl, fun _ => id, fun _ => ⟨rfl, fun _ => rfl⟩⟩

/-- The engines' work of a tick, up to the slew. -/
def tickWorked (k : Nat) : State :=
  let u := meterTick (stationTick (snapshotTaken (loopTick s k))) k
  serveTxRings (if k % 1000 = 0 then measureLoops (measureLoad u) else u)

theorem tickBoundary_eq : tickBoundary s = if modeNow s = 0 then s else
    liteTriggers (absorbSlew (tickWorked (tickNumbered (settleBoundary (advanceTo s (BitVec.ofNat 64 (s.nextTick * 100000)))) s.nextTick) s.nextTick)) 1 0 :=
  rfl

theorem tickWork_tickWorked (k : Nat) : TickWork s (tickWorked s k) := by
  have stations : TickWork s (meterTick (stationTick (snapshotTaken (loopTick s k))) k) :=
    (((tickWork_loopTick s k).trans (tickWork_snapshotTaken _)).trans (tickWork_stationTick _)).trans (aside_meterTick _ k).tickWork
  exact (tickWork_ite (stations.trans ((aside_measureLoad _).trans (aside_measureLoops _)).tickWork) stations).trans (aside_serveTxRings _).tickWork

end

end Sys2Proof.Machine
end

section
/-! SUPPORT. O58: the tick boundary and the changes of mode (R192, R441, R456 to R458, R461). -/

namespace Sys2Proof.Machine

open Sys2Proof.Safety

/-! ## The slew (R441) -/

section
variable {s : State}

/-- What the absorption of a slew leaves. -/
theorem absorbSlew_slew (own : following s = false) :
    (rd (absorbSlew s) R.TB_SLEW).toInt = (rd s R.TB_SLEW).toInt - clampInt (-10) 10 (rd s R.TB_SLEW).toInt := by
  have low := BitVec.le_toInt (rd s R.TB_SLEW)
  have high := BitVec.toInt_lt (x := rd s R.TB_SLEW)
  unfold absorbSlew
  dsimp only
  split
  next idle =>
    obtain zero | follows := idle
    · rw [zero]
      rfl
    · exact absurd (own.symm.trans follows) (by decide)
  next =>
    rw [rd_wr_same]
    refine toInt_ofInt_32 ?_ ?_ <;> unfold clampInt <;> split_ifs <;> omega

theorem absorbSlew_regs (s : State) : absorbSlew s = { s with regs := (absorbSlew s).regs } ∧ SameRegs [R.TB_SLEW] s (absorbSlew s) := by
  unfold absorbSlew
  dsimp only
  split
  · exact ⟨rfl, fun _ _ => rfl⟩
  · exact ⟨rfl, fun k out => rd_wr_ne s _ fun e => out (e ▸ List.mem_cons_self)⟩

theorem absorbSlew_clock (s : State) : (absorbSlew s).nextTick = s.nextTick ∧ (absorbSlew s).now = s.now := by
  unfold absorbSlew
  dsimp only
  split
  · exact ⟨rfl, rfl⟩
  · exact ⟨rfl, rfl⟩

end

/-! ## What a boundary leaves of the mode it has settled -/

/-- Work that leaves the mode and its bars. -/
structure ModeWork (s t : State) : Prop where
  locked : t.rwlLocked = s.rwlLocked
  causes : ∀ n, (rd s (R.PG_ISR 0x00)).getLsbD n = true → (rd t (R.PG_ISR 0x00)).getLsbD n = true
  mode : flag s R.SYS_MODE F.SYS_MODE_PEND = false → rd t R.SYS_MODE = rd s R.SYS_MODE ∧ (modeNow s ≠ mdDOZE → t.wake = s.wake)

section
variable {s t u : State}

theorem ModeWork.refl (s : State) : ModeWork s s := ⟨rfl, fun _ => id, fun _ => ⟨rfl, fun _ => rfl⟩⟩

theorem TickWork.modeWork (h : TickWork s t) : ModeWork s t := ⟨h.rwlLocked, h.causes, h.mode⟩

theorem ModeWork.trans (h : ModeWork s t) (k : ModeWork t u) : ModeWork s u where
  locked := k.locked.trans h.locked
  causes n set := k.causes n (h.causes n set)
  mode idle := by
    obtain ⟨same, wake⟩ := h.mode idle
    obtain ⟨same', wake'⟩ := k.mode (by rw [flag, fld, same]; exact idle)
    exact ⟨same'.trans same, fun awake => (wake' (by rw [modeNow, fld, same]; exact awake)).trans (wake awake)⟩

theorem modeWork_absorbSlew (s : State) : ModeWork s (absorbSlew s) := by
  obtain ⟨rest, regs⟩ := absorbSlew_regs s
  exact ⟨by rw [rest], fun n set => by rwa [regs _ (by decide)], fun _ => ⟨regs _ (by decide), fun _ => by rw [rest]⟩⟩

/-- The state after a boundary's work. -/
def tickDone (s : State) (k : Nat) : State := liteTriggers (absorbSlew (tickWorked (tickNumbered s k) k)) 1 0

theorem tickWork_triggered (s : State) : TickWork s (liteTriggers s 1 0) := (aside_liteTriggers s 1 0).tickWork

theorem tickNumbered_work (s : State) (k : Nat) : ModeWork s (tickNumbered s k) := ⟨rfl, fun _ => id, fun _ => ⟨rfl, fun _ => rfl⟩⟩

theorem modeWork_tickDone (s : State) (k : Nat) : ModeWork s (tickDone s k) :=
  (((tickNumbered_work s k).trans (tickWork_tickWorked _ k).modeWork).trans (modeWork_absorbSlew _)).trans (tickWork_triggered _).modeWork

theorem tickDone_clock (s : State) (k : Nat) : (tickDone s k).nextTick = k + 1 ∧ (tickDone s k).now = s.now := by
  have worked := tickWork_tickWorked (tickNumbered s k) k
  have lite := tickWork_triggered (absorbSlew (tickWorked (tickNumbered s k) k))
  obtain ⟨tick, now⟩ := absorbSlew_clock (tickWorked (tickNumbered s k) k)
  exact ⟨lite.nextTick.trans (tick.trans worked.nextTick), lite.now.trans (now.trans worked.now)⟩

theorem tickDone_slew {s : State} (k : Nat) (own : following s = false) :
    (rd (tickDone s k) R.TB_SLEW).toInt = (rd s R.TB_SLEW).toInt - clampInt (-10) 10 (rd s R.TB_SLEW).toInt := by
  have worked := tickWork_tickWorked (tickNumbered s k) k
  rw [tickDone, (tickWork_triggered _).slew, absorbSlew_slew (worked.following.trans own), worked.slew]
  rfl

theorem exec_tickBoundary (powered : modeNow s ≠ 0) :
    exec .tickBoundary s = .next (tickDone (settleBoundary (advanceTo s (nextBoundary s))) s.nextTick) :=
  congrArg Host.Outcome.next ((tickBoundary_eq s).trans (if_neg powered))

theorem exec_modeChange (due : s.wake = true ∨ flag s R.SYS_MODE F.SYS_MODE_PEND = true) :
    exec .modeChange s = .next (settleBoundary (advanceTo s (nextBoundary s))) :=
  congrArg Host.Outcome.next (if_pos (by simpa using due))

theorem modeChange_idle (wake : s.wake = false) (pend : flag s R.SYS_MODE F.SYS_MODE_PEND = false) : exec .modeChange s = .next s :=
  congrArg Host.Outcome.next (if_neg (by simp [wake, pend]))

end

/-! ## The boundary -/

section
variable {s : State}

theorem modeNow_advanceTo (s : State) (at_ : DWord) : modeNow (advanceTo s at_) = modeNow s := fld_advanceTo s at_ _ _

theorem pend_advanceTo (s : State) (at_ : DWord) :
    flag (advanceTo s at_) R.SYS_MODE F.SYS_MODE_PEND = flag s R.SYS_MODE F.SYS_MODE_PEND := congrArg (· != 0) (fld_advanceTo s at_ _ _)

theorem quiet_advanceTo (quiet : Quiet s) (at_ : DWord) : Quiet (advanceTo s at_) := by rwa [Quiet, advanceTo_twin]

theorem tickBoundary_goesOn (powered : modeNow s ≠ 0) : ∃ t, exec .tickBoundary s = .next t ∧ t.nextTick = s.nextTick + 1 ∧ s.now ≤ t.now ∧
    BitVec.ofNat 64 (s.nextTick * 100000) ≤ t.now ∧
    (Quiet s → s.wake = false → flag s R.SYS_MODE F.SYS_MODE_PEND = false → modeNow t = modeNow s ∧ (following s = false →
      (rd t R.TB_SLEW).toInt = (rd s R.TB_SLEW).toInt - clampInt (-10) 10 (rd s R.TB_SLEW).toInt)) := by
  obtain ⟨forward, reached⟩ := le_advanceTo s (nextBoundary s)
  have settled := (onward_settleBoundary (advanceTo s (nextBoundary s))).now
  obtain ⟨tick, now⟩ := tickDone_clock (settleBoundary (advanceTo s (nextBoundary s))) s.nextTick
  refine ⟨_, exec_tickBoundary powered, tick, now ▸ BitVec.le_trans forward settled, now ▸ BitVec.le_trans reached settled, fun quiet wake pend => ?_⟩
  have idle : settleBoundary (advanceTo s (nextBoundary s)) = advanceTo s (nextBoundary s) :=
    (settleBoundary_quiet (quiet_advanceTo quiet _)).trans (settleMode_idle ((advanceTo_wake s _).trans wake) ((pend_advanceTo s _).trans pend))
  rw [idle]
  obtain ⟨same, -⟩ := (modeWork_tickDone (advanceTo s (nextBoundary s)) s.nextTick).mode ((pend_advanceTo s _).trans pend)
  refine ⟨(congrArg (bits · 3 0) same).trans (modeNow_advanceTo s _), fun own => ?_⟩
  have own' : following (advanceTo s (nextBoundary s)) = false := (following_congr (advanceTo_twin s _) (rd_advanceTo s _ _)).trans own
  rw [tickDone_slew _ own', rd_advanceTo]

/-- What both commands of a boundary leave of the mode that it settles. -/
theorem boundary_settles (powered : modeNow s ≠ 0) (quiet : Quiet s) (due : s.wake = true ∨ flag s R.SYS_MODE F.SYS_MODE_PEND = true) {i : Instr}
    (mem : i ∈ [Instr.tickBoundary, .modeChange]) :
    ∃ t, exec i s = .next t ∧ ModeWork (settleMode (advanceTo s (nextBoundary s))) t := by
  have settled := settleBoundary_quiet (quiet_advanceTo quiet (nextBoundary s))
  rw [← settled]
  obtain rfl | rfl : i = .tickBoundary ∨ i = .modeChange := by simpa using mem
  · exact ⟨_, exec_tickBoundary powered, modeWork_tickDone _ _⟩
  · exact ⟨_, exec_modeChange due, ModeWork.refl _⟩

/-- A mode that has been taken is still the mode after the boundary's work. -/
theorem ModeTaken.work {was md reason : Nat} {locked : Bool} {u t : State} (h : ModeTaken was md reason locked u) (work : ModeWork u t) :
    modeNow t = md ∧ fld t R.SYS_MODE F.SYS_MODE_REASON = reason ∧ fld t R.SYS_MODE F.SYS_MODE_PREV = was ∧
    flag t R.SYS_MODE F.SYS_MODE_PEND = false ∧ (md ≠ mdDOZE → t.wake = false) ∧ (was ≠ md → (rd t (R.PG_ISR 0x00)).getLsbD 0 = true) ∧
    t.rwlLocked = (locked || md == mdACTIVE || md == mdSTANDBY || md == mdDOZE) := by
  obtain ⟨same, wake⟩ := work.mode h.pend
  have field (f : Fld) : fld t R.SYS_MODE f = fld u R.SYS_MODE f := congrArg (bits · f.hi f.lo) same
  refine ⟨(field _).trans h.mode, (field _).trans h.reason, (field _).trans h.prev, (congrArg (· != 0) (field _)).trans h.pend, fun other => ?_,
    fun changed => work.causes 0 (h.event changed), work.locked.trans h.locked⟩
  exact (wake (by rwa [h.mode])).trans h.wake

theorem pend_discardRequest (s : State) : flag (discardRequest s) R.SYS_MODE F.SYS_MODE_PEND = false := by
  unfold discardRequest
  split
  next =>
    have raised : rd (raiseBit (setFld (requestCleared s) R.SYS_MODE F.SYS_MODE_DISC 1) 0x00 1) R.SYS_MODE =
      rd (setFld (requestCleared s) R.SYS_MODE F.SYS_MODE_DISC 1) R.SYS_MODE := rd_raiseBit_ne _ (by decide) (by decide)
    refine Eq.trans (congrArg (fun w => bits w 7 7 != 0) raised) ?_
    exact (congrArg (· != 0) (fld_setFld_other _ _ F.SYS_MODE_DISC F.SYS_MODE_PEND 1 (by decide) (by decide) (by decide))).trans (pend_requestCleared s)
  next idle => simpa using idle

theorem modeNow_discardRequest (s : State) : modeNow (discardRequest s) = modeNow s := by
  unfold discardRequest
  split
  next =>
    have raised : rd (raiseBit (setFld (requestCleared s) R.SYS_MODE F.SYS_MODE_DISC 1) 0x00 1) R.SYS_MODE =
      rd (setFld (requestCleared s) R.SYS_MODE F.SYS_MODE_DISC 1) R.SYS_MODE := rd_raiseBit_ne _ (by decide) (by decide)
    refine Eq.trans (congrArg (fun w => bits w 3 0) raised) ?_
    exact (fld_setFld_other _ _ F.SYS_MODE_DISC F.SYS_MODE_MODE 1 (by decide) (by decide) (by decide)).trans (modeNow_requestCleared s)
  next => rfl

theorem boundary_wakes (powered : modeNow s ≠ 0) (quiet : Quiet s) {i : Instr} (mem : i ∈ [Instr.tickBoundary, .modeChange]) (wake : s.wake = true)
    (mode : modeNow s = mdDOZE) : ∃ t, exec i s = .next t ∧ modeNow t = mdACTIVE ∧ fld t R.SYS_MODE F.SYS_MODE_REASON = 5 ∧
      flag t R.SYS_MODE F.SYS_MODE_PEND = false ∧ t.wake = false ∧ (rd t (R.PG_ISR 0x00)).getLsbD 0 = true := by
  obtain ⟨t, run, work⟩ := boundary_settles powered quiet (.inl wake) mem
  rw [settleMode_wakes ((advanceTo_wake s _).trans wake) ((modeNow_advanceTo s _).trans mode)] at work
  obtain ⟨md, reason, -, pend, awake, event, -⟩ := (changeMode_takes (by decide) (by decide) (pend_discardRequest _)).work work
  have was : modeNow (discardRequest (advanceTo s (nextBoundary s))) ≠ mdACTIVE := by
    rw [modeNow_discardRequest, modeNow_advanceTo, mode]
    decide
  exact ⟨t, run, md, reason, pend, awake (by decide), event was⟩

theorem requestAllowed_other {was req : Nat} (h : requestAllowed was req = true) : was ≠ req ∧ (req = 3 ∨ req = 4 ∨ req = 6 ∨ req = 7) := by
  unfold requestAllowed at h
  split_ifs at h
  all_goals
    simp only [mdCOMMISSION, mdACTIVE, mdSAFE, mdDOZE, mdSTANDBY, Bool.or_eq_true, Bool.and_eq_true, beq_iff_eq] at *
    omega

theorem boundary_takes (powered : modeNow s ≠ 0) (quiet : Quiet s) {i : Instr} (mem : i ∈ [Instr.tickBoundary, .modeChange])
    (awake : s.wake = false ∨ modeNow s ≠ mdDOZE) (pend : flag s R.SYS_MODE F.SYS_MODE_PEND = true)
    (allowed : requestAllowed (modeNow s) (fld s R.SYS_MODE F.SYS_MODE_REQ) = true) : ∃ t, exec i s = .next t ∧ modeNow t = modeTaken s ∧
      fld t R.SYS_MODE F.SYS_MODE_REASON = 1 ∧ fld t R.SYS_MODE F.SYS_MODE_PREV = modeNow s ∧ flag t R.SYS_MODE F.SYS_MODE_PEND = false ∧
      (rd t (R.PG_ISR 0x00)).getLsbD 0 = true ∧
      t.rwlLocked = (s.rwlLocked || modeTaken s == mdACTIVE || modeTaken s == mdSTANDBY || modeTaken s == mdDOZE) := by
  obtain ⟨t, run, work⟩ := boundary_settles powered quiet (.inr pend) mem
  have mode := modeNow_advanceTo s (nextBoundary s)
  have req : fld (advanceTo s (nextBoundary s)) R.SYS_MODE F.SYS_MODE_REQ = fld s R.SYS_MODE F.SYS_MODE_REQ := fld_advanceTo s _ _ _
  have target : modeTaken (advanceTo s (nextBoundary s)) = modeTaken s := by
    rw [modeTaken, mode, req, paired, flag, fld_advanceTo]
    rfl
  obtain ⟨other, requests⟩ := requestAllowed_other allowed
  have changed : modeNow s ≠ modeTaken s := by
    unfold modeTaken
    split
    next taken => rw [taken.1]; decide
    next => exact other
  have small : modeTaken s < 16 := by
    unfold modeTaken
    split
    · decide
    · omega
  rw [settleMode_takes (by rwa [advanceTo_wake, mode]) ((pend_advanceTo s _).trans pend) (by rw [mode, req, allowed]), target] at work
  have role := modeKept_requestedRole (requestCleared (advanceTo s (nextBoundary s))) (modeTaken s)
  have was : modeNow (requestedRole (requestCleared (advanceTo s (nextBoundary s))) (modeTaken s)) = modeNow s :=
    role.modeNow.trans ((modeNow_requestCleared _).trans mode)
  have locked : (requestedRole (requestCleared (advanceTo s (nextBoundary s))) (modeTaken s)).rwlLocked = s.rwlLocked :=
    (congrArg (·.2.2.1) role.bars).trans (advanceTo_rwlLocked s _)
  have cleared : flag (requestedRole (requestCleared (advanceTo s (nextBoundary s))) (modeTaken s)) R.SYS_MODE F.SYS_MODE_PEND = false :=
    (congrArg (fun w => bits w 7 7 != 0) role.mode).trans (pend_requestCleared _)
  have taken := (changeMode_takes small (by decide : 1 < 256) cleared).work work
  rw [was, locked] at taken
  obtain ⟨md, reason, prev, idle, -, event, bar⟩ := taken
  exact ⟨t, run, md, reason, prev, idle, event changed, bar⟩

theorem boundary_refuses (powered : modeNow s ≠ 0) (quiet : Quiet s) {i : Instr} (mem : i ∈ [Instr.tickBoundary, .modeChange])
    (awake : s.wake = false ∨ modeNow s ≠ mdDOZE) (pend : flag s R.SYS_MODE F.SYS_MODE_PEND = true)
    (barred : requestAllowed (modeNow s) (fld s R.SYS_MODE F.SYS_MODE_REQ) = false) : ∃ t, exec i s = .next t ∧ modeNow t = modeNow s ∧
      flag t R.SYS_MODE F.SYS_MODE_PEND = false := by
  obtain ⟨t, run, work⟩ := boundary_settles powered quiet (.inr pend) mem
  have mode := modeNow_advanceTo s (nextBoundary s)
  rw [settleMode_refuses (by rwa [advanceTo_wake, mode]) ((pend_advanceTo s _).trans pend) (by rw [mode, fld_advanceTo, barred])] at work
  obtain ⟨same, -⟩ := work.mode (pend_requestCleared _)
  exact ⟨t, run, (congrArg (bits · 3 0) same).trans ((modeNow_requestCleared _).trans mode),
    (congrArg (fun w => bits w 7 7 != 0) same).trans (pend_requestCleared _)⟩

/-- A request's bar on the configuration (R457, R458). -/
theorem boundary_changes (powered : modeNow s ≠ 0) (quiet : Quiet s) {i : Instr} (mem : i ∈ [Instr.tickBoundary, .modeChange])
    (awake : s.wake = false ∨ modeNow s ≠ mdDOZE) (pend : flag s R.SYS_MODE F.SYS_MODE_PEND = true)
    (allowed : requestAllowed (modeNow s) (fld s R.SYS_MODE F.SYS_MODE_REQ) = true) :
    let req := fld s R.SYS_MODE F.SYS_MODE_REQ
    ∃ t, exec i s = .next t ∧ modeNow t = (if modeNow s = mdCOMMISSION ∧ req = mdACTIVE ∧ paired s = true then mdSTANDBY else req) ∧
      fld t R.SYS_MODE F.SYS_MODE_REASON = 1 ∧ fld t R.SYS_MODE F.SYS_MODE_PREV = modeNow s ∧ flag t R.SYS_MODE F.SYS_MODE_PEND = false ∧
      (rd t (R.PG_ISR 0x00)).getLsbD 0 = true ∧ (req = mdCOMMISSION ∨ req = mdSAFE → t.rwlLocked = s.rwlLocked) ∧
      (req = mdACTIVE ∨ req = mdDOZE → t.rwlLocked = true) := by
  obtain ⟨t, run, md, reason, prev, idle, event, locked⟩ := boundary_takes powered quiet mem awake pend allowed
  refine ⟨t, run, md, reason, prev, idle, event, fun free => ?_, fun bars => ?_⟩
  · have target : modeTaken s = fld s R.SYS_MODE F.SYS_MODE_REQ := if_neg fun taken => by obtain h | h := free <;> rw [taken.2.1] at h <;> cases h
    rw [locked, target]
    obtain h | h := free <;> rw [h] <;> simp [mdCOMMISSION, mdSAFE, mdACTIVE, mdSTANDBY, mdDOZE]
  · rw [locked, modeTaken]
    split
    · simp
    · obtain h | h := bars <;> rw [h] <;> simp

end

end Sys2Proof.Machine
end

section
/-! SUPPORT. O58: mode requests and the power states of the domains (R456, R463 to R465). -/

namespace Sys2Proof.Machine

open Sys2Proof.Safety

/-! ## Requests of a mode (R456) -/

section
variable {s : State} {q : Requester} {v : Word}

/-- SYS_MODE with a request in it. -/
def modeRequested (s : State) (n : Nat) : State := setFld (setFld s R.SYS_MODE F.SYS_MODE_PEND 1) R.SYS_MODE F.SYS_MODE_REQ n

theorem onlyRegs_modeRequested (s : State) (n : Nat) : OnlyRegs [R.SYS_MODE] s (modeRequested s n) :=
  (onlyRegs_setFld s _ 1 (by simp)).trans (onlyRegs_setFld _ _ n (by simp))

theorem req_modeRequested (s : State) {n : Nat} (hn : n < 16) : fld (modeRequested s n) R.SYS_MODE F.SYS_MODE_REQ = n :=
  (fld_setFld_same _ _ _ n (by decide) (by decide)).trans (Nat.mod_eq_of_lt hn)

theorem pend_modeRequested (s : State) (n : Nat) : flag (modeRequested s n) R.SYS_MODE F.SYS_MODE_PEND = true := by
  have kept : fld (modeRequested s n) R.SYS_MODE F.SYS_MODE_PEND = fld (setFld s R.SYS_MODE F.SYS_MODE_PEND 1) R.SYS_MODE F.SYS_MODE_PEND :=
    fld_setFld_other _ _ _ _ n (by decide) (by decide) (by decide)
  rw [flag, kept, fld_setFld_same _ _ _ _ (by decide) (by decide)]
  rfl

theorem modeNow_modeRequested (s : State) (n : Nat) : modeNow (modeRequested s n) = modeNow s :=
  (fld_setFld_other _ _ F.SYS_MODE_REQ F.SYS_MODE_MODE n (by decide) (by decide) (by decide)).trans
    (fld_setFld_other s _ F.SYS_MODE_PEND F.SYS_MODE_MODE 1 (by decide) (by decide) (by decide))

/-- A request of a mode's code alone is what R456 answers. -/
theorem modeRequest_written (small : v.toNat < 16) :
    (if bits v 31 4 ≠ 0 then (s, Code.reservedBits) else modeRequest s (bits v 3 0)) = modeRequest s v.toNat := by
  have high : bits v 31 4 = 0 := by unfold bits natBits; omega
  have low : bits v 3 0 = v.toNat := by unfold bits natBits; omega
  rw [high, low]
  rfl

theorem modeRequest_turned {c : Code} (hr : Reaches s q 0x00 0x44) (small : v.toNat < 16) (error : c ≠ .none)
    (turned : modeRequest s v.toNat = (s, c)) : ∃ t, exec (.modeRequest q v) s = .next t ∧ Rejected s t 0x00 0x44 c :=
  ⟨_, rfl, gated_turned (k := fun s => if bits v 31 4 ≠ 0 then (s, .reservedBits) else modeRequest s (bits v 3 0)) hr error
    ((modeRequest_written small).trans turned)⟩

theorem modeRequest_unknown (hr : Reaches s q 0x00 0x44) (small : v.toNat < 16) (unknown : v.toNat ∉ [3, 4, 6, 7]) :
    ∃ t, exec (.modeRequest q v) s = .next t ∧ Rejected s t 0x00 0x44 .illegalValue :=
  modeRequest_turned hr small (by decide) (if_pos (by simpa using unknown))

theorem modeRequest_busy (hr : Reaches s q 0x00 0x44) (small : v.toNat < 16) (known : v.toNat ∈ [3, 4, 6, 7])
    (pend : flag s R.SYS_MODE F.SYS_MODE_PEND = true) : ∃ t, exec (.modeRequest q v) s = .next t ∧ Rejected s t 0x00 0x44 .busy :=
  modeRequest_turned hr small (by decide) ((if_neg (by simp at known; omega)).trans (if_pos pend))

theorem modeRequest_barred (hr : Reaches s q 0x00 0x44) (small : v.toNat < 16) (known : v.toNat ∈ [3, 4, 6, 7])
    (pend : flag s R.SYS_MODE F.SYS_MODE_PEND = false) (barred : requestAllowed (modeNow s) v.toNat = false) :
    ∃ t, exec (.modeRequest q v) s = .next t ∧ Rejected s t 0x00 0x44 .notInState :=
  modeRequest_turned hr small (by decide)
    ((if_neg (by simp at known; omega)).trans ((if_neg (by simp [pend])).trans (if_pos (by simp [barred]))))

theorem modeRequest_taken (hr : Reaches s q 0x00 0x44) (small : v.toNat < 16) (known : v.toNat ∈ [3, 4, 6, 7])
    (pend : flag s R.SYS_MODE F.SYS_MODE_PEND = false) (allowed : requestAllowed (modeNow s) v.toNat = true) :
    ∃ t, exec (.modeRequest q v) s = .next t ∧ Accepted t ∧ flag t R.SYS_MODE F.SYS_MODE_PEND = true ∧ fld t R.SYS_MODE F.SYS_MODE_REQ = v.toNat ∧
      modeNow t = modeNow s ∧ OnlyRegs [R.SYS_MODE] s t := by
  have taken : modeRequest s v.toNat = (modeRequested s v.toNat, .none) :=
    (if_neg (by simp at known; omega)).trans ((if_neg (by simp [pend])).trans (if_neg (by simp [allowed])))
  have run := gated_taken (k := fun s => if bits v 31 4 ≠ 0 then (s, .reservedBits) else modeRequest s (bits v 3 0)) hr
    ((modeRequest_written small).trans taken)
  exact ⟨_, congrArg Host.Outcome.next run, rfl, pend_modeRequested s _, req_modeRequested s (by simp at known; omega), modeNow_modeRequested s _,
    (onlyRegs_modeRequested s _).trans (onlyRegs_answer _ _ _)⟩

end

/-! ## The power states of a domain (R463 to R465) -/

section
variable {s : State} {d : Fin 14}

/-- A domain leaves its power state. -/
abbrev leaving (s : State) (d : Nat) : Bool := tget (fun _ => false) s.exiting d

theorem chooseState_le (s : State) (d : Nat) : chooseState s d ≤ 4 := by
  unfold chooseState
  split_ifs <;> omega

theorem setDomC_rest (s : State) (d c : Nat) : setDomC s d c = { s with regs := (setDomC s d c).regs } := rfl

theorem onlyRegs_setDomC (s : State) (d c : Nat) : OnlyRegs [R.PWR_DOMSTAT d] s (setDomC s d c) := onlyRegs_setFld s _ c (by simp)

theorem domainStateChange_stays (stays : leaving s d.val = true ∨ domSt s d.val ≠ 2) : exec (.domainStateChange d) s = .next s :=
  congrArg Host.Outcome.next (if_pos (by simpa using stays))

theorem domainStateChange_chooses (settled : leaving s d.val = false) (on : domSt s d.val = 2) : ∃ t, exec (.domainStateChange d) s = .next t ∧
    domC t d.val = chooseState s d.val ∧ domSt t d.val = 2 ∧ SameRegs [R.PWR_DOMSTAT d.val] s t ∧ t = { s with regs := t.regs } := by
  have small := chooseState_le s d.val
  exact ⟨_, congrArg Host.Outcome.next (if_neg (by simp [settled, on])), domC_setDomC s _ (by omega), (domSt_setDomC s _ _).trans on,
    (onlyRegs_setDomC s _ _).regs, setDomC_rest s _ _⟩

theorem domainPrewake_stays (stays : domSt s d.val ≠ 2 ∨ domC s d.val = 0) : exec (.domainPrewake d) s = .next s := by
  refine congrArg Host.Outcome.next ?_
  obtain off | awake := stays
  · exact if_neg off
  · unfold domainWake
    split
    · exact if_pos awake
    · rfl

theorem domainPrewake_begins (on : domSt s d.val = 2) (asleep : domC s d.val ≠ 0) : ∃ t, exec (.domainPrewake d) s = .next t ∧
    leaving t d.val = true ∧ (∀ e, e ≠ d.val → leaving t e = leaving s e) ∧ t = { s with exiting := t.exiting } :=
  ⟨_, congrArg Host.Outcome.next ((if_pos on).trans (if_neg asleep)), tget_tput_same _ _ _, fun _ other => tget_tput_ne _ _ other, rfl⟩

/-- The exit of domain `d` is over. -/
def exitEnded (s : State) (d : Nat) : State := { s with exiting := tput (fun _ => false) s.exiting d false }

theorem onlyRegs_exitEnded (s : State) (d : Nat) : OnlyRegs [] s (exitEnded s d) where
  rest := rfl
  regs _ _ := rfl
  exits e set := by
    by_cases same : e = d
    · rw [same, exitEnded, tget_tput_same] at set
      cases set
    · rwa [exitEnded, tget_tput_ne _ _ same] at set

theorem domainExitComplete_stays (stays : leaving s d.val = false ∨ domSt s d.val ≠ 2) : exec (.domainExitComplete d) s = .next s := by
  refine congrArg Host.Outcome.next ?_
  obtain settled | off := stays
  · exact if_neg (by simp [settled])
  · split
    · exact if_neg off
    · rfl

theorem domainExitComplete_ends (leaves : leaving s d.val = true) (on : domSt s d.val = 2) : ∃ t, exec (.domainExitComplete d) s = .next t ∧
    domC t d.val = 0 ∧ domSt t d.val = 2 ∧ leaving t d.val = false ∧ SameRegs [R.PWR_DOMSTAT d.val] s t ∧ SameBytes s t ∧ SamePoints s t := by
  have only := (onlyRegs_setDomC s d.val 0).trans ((onlyRegs_exitEnded (setDomC s d.val 0) d.val).mono (by simp))
  obtain ⟨bytes, points⟩ := SameData.of_plantData (plantData_of_regsAndEvents (only.regsAndEvents))
  refine ⟨exitEnded (setDomC s d.val 0) d.val, ?_, domC_setDomC s _ (by decide), (domSt_setDomC s _ _).trans on, tget_tput_same _ _ _,
    only.regs, bytes, points⟩
  exact congrArg Host.Outcome.next ((if_pos leaves).trans (if_pos on))

end

end Sys2Proof.Machine
end

section
/-! SUPPORT. O58: what a module reset sets back and what it keeps (R469, R470). -/

namespace Sys2Proof.Machine

open Sys2Proof.Safety

/-! ## The operations of the NOR that a reset cuts off (R479, R486) -/

section
variable {s t u : State}

/-- Bytes of the NOR have changed, and nothing else but the count of ranges left undefined. -/
def NorTorn (s t : State) : Prop := ∃ hi, RangeWritten norBase hi s t

theorem NorTorn.refl (s : State) : NorTorn s s := ⟨0, RangeWritten.refl _ _ s⟩

theorem NorTorn.trans : NorTorn s t → NorTorn t u → NorTorn s u
  | ⟨a, h⟩, ⟨b, k⟩ => ⟨max a b, (h.mono (Nat.le_refl _) (Nat.le_max_left a b)).trans (k.mono (Nat.le_refl _) (Nat.le_max_right a b))⟩

theorem norTorn_tornNor (s : State) (off n : Nat) : NorTorn s (tornNor s off n) :=
  ⟨_, (rangeWritten_tornNor s off n).mono (Nat.le_add_right _ _) (Nat.le_refl _)⟩

theorem norTorn_ite {c : Prop} [Decidable c] (h : NorTorn s t) : NorTorn s (if c then t else s) := by
  split
  · exact h
  · exact NorTorn.refl s

theorem norTorn_store (s : State) (job : Option NorJob) (n : NorJob → Nat) :
    NorTorn s (match job with | some j => tornNor s j.off (n j) | none => s) := by
  cases job with
  | none => exact NorTorn.refl s
  | some j => exact norTorn_tornNor s _ _

theorem norTorn_xspi (s : State) (job : Option NorJob) :
    NorTorn s (match job with | some j => if j.op = 3 then s else tornNor s j.off j.len | none => s) := by
  cases job with
  | none => exact NorTorn.refl s
  | some j =>
    dsimp only
    split
    · exact NorTorn.refl s
    · exact norTorn_tornNor s _ _

theorem norTorn_interruptNor (s : State) : NorTorn s (interruptNor s) := by
  unfold interruptNor
  dsimp only
  refine NorTorn.trans ?_ (norTorn_xspi _ _)
  refine NorTorn.trans ?_ (norTorn_store _ _ _)
  refine NorTorn.trans ?_ (norTorn_ite (norTorn_tornNor _ _ _))
  exact norTorn_ite (norTorn_tornNor _ _ _)

theorem interruptNor_rest (s : State) : interruptNor s = { s with mem := (interruptNor s).mem, norGen := (interruptNor s).norGen } := by
  obtain ⟨_, torn⟩ := norTorn_interruptNor s
  exact torn.rest

/-- No operation of the NOR stands: none is cut off. -/
theorem interruptNor_idle (update : updState s ≠ udWRITING) (recovery : s.recov.commit ≠ 1) (store : s.boot.store = none)
    (xspi : s.boot.xspi = none) : interruptNor s = s := by
  have writing : ¬ (updState s = udWRITING ∧ s.upd.manifest ≠ []) := fun h => update h.1
  simp only [interruptNor, if_neg writing, if_neg recovery, store, xspi]

end

/-! ## The registers and hidden state of a reset -/

section
variable {s : State} {c : Nat}

/-- The state with everything but what R470 keeps set back. -/
def resetBare (s : State) (c : Nat) : State :=
  { pending := s.pending, regs := tkeep (fun k => if c % 2 = 1 then inBackup k else keptReg k) s.regs
    mem := s.mem.filter (fun c => pageIn c.1 0x30000000 0x3FFFFFFF)
    resets := s.resets + 1, free := s.free, drawn := s.drawn, norGen := s.norGen, answer := s.answer
    nvrForces := s.nvrForces, scan := { nvr := s.scan.nvr }, meter := { saves := s.meter.saves, nvr := s.meter.nvr }
    evLog := s.evLog
    twin := { returns := s.twin.returns, epochNvr := s.twin.epochNvr, evSeq := s.twin.evSeq }, nrap := { bootNvr := s.nrap.bootNvr }
    rtc := s.rtc, otp := s.otp
    crypto := { store := s.crypto.store, storeGen := s.crypto.storeGen, erasePend := s.crypto.erasePend }
    boot := { env := s.boot.env, delivered := s.boot.delivered, recover := c.testBit 9 } }

/-- SYS_RSTCAUSE after a reset. -/
def resetCauses (s : State) (c : Nat) : Word := (if c % 2 = 1 then 0 else rd s R.SYS_RSTCAUSE) ||| BitVec.ofNat 32 c

/-- The state with its causes and the suspension of returns. -/
def resetRecorded (s : State) (c : Nat) : State :=
  setFld (wr (resetBare s c) R.SYS_RSTCAUSE (resetCauses s c)) R.TWN_STAT F.TWN_STAT_REV_SUSP (fld s R.TWN_STAT F.TWN_STAT_REV_SUSP)

theorem moduleReset_eq (s : State) (c : Nat) : moduleReset s c = evtLevel (evtLevel (resetRecorded (interruptNor s) c) 4) 5 := rfl

theorem rd_resetBare (s : State) (c k : Nat) :
    rd (resetBare s c) k = if (if c % 2 = 1 then inBackup k else keptReg k) = true then rd s k else resetWord k := tget_tkeep _ _ _

theorem rd_resetRecorded {k : Nat} (s : State) (c : Nat) (cause : k ≠ R.SYS_RSTCAUSE) (stat : k ≠ R.TWN_STAT) :
    rd (resetRecorded s c) k = rd (resetBare s c) k :=
  (rd_setFld_ne _ _ _ stat).trans (rd_wr_ne _ _ cause)

/-- The levels of the backup domain's pages touch the first word of pending events alone. -/
theorem rd_moduleReset {k : Nat} (s : State) (c : Nat) (event : k ≠ R.EVT_PEND 0) : rd (moduleReset s c) k = rd (resetRecorded s c) k := by
  rw [moduleReset_eq, rd_evtLevel_ne _ event, rd_evtLevel_ne _ event, interruptNor_rest]
  rfl

theorem rstcause_moduleReset (s : State) (c : Nat) : rd (moduleReset s c) R.SYS_RSTCAUSE = resetCauses s c := by
  rw [rd_moduleReset s c (by decide), resetRecorded, rd_setFld_ne _ _ _ (by decide), rd_wr_same]

theorem pfwst_moduleReset (s : State) (even : c % 2 = 0) : rd (moduleReset s c) R.SCN_PFWST = rd s R.SCN_PFWST := by
  rw [rd_moduleReset s c (by decide), rd_resetRecorded s c (by decide) (by decide), rd_resetBare, if_neg (show ¬ c % 2 = 1 by omega)]
  exact if_pos rfl

theorem pfwst_powerOn (s : State) : rd (moduleReset s 1) R.SCN_PFWST = resetWord R.SCN_PFWST := by
  rw [rd_moduleReset s 1 (by decide), rd_resetRecorded s 1 (by decide) (by decide), rd_resetBare]
  rfl

theorem backup_ne {k j : Nat} (backup : inBackup k = true) (other : inBackup j = false) : k ≠ j := by
  rintro rfl
  exact absurd (backup.symm.trans other) (by decide)

theorem backup_moduleReset (s : State) (c : Nat) {k : Nat} (backup : inBackup k = true) : rd (moduleReset s c) k = rd s k := by
  rw [rd_moduleReset s c (backup_ne backup (by decide)),
    rd_resetRecorded s c (backup_ne backup (by decide)) (backup_ne backup (by decide)), rd_resetBare, if_pos]
  simp [keptReg, backup]

theorem others_moduleReset (s : State) (c : Nat) {k : Nat} (other : inBackup k = false)
    (out : k ∉ [R.SYS_RSTCAUSE, R.SCN_PFWST, R.TWN_STAT, R.EVT_PEND 0]) : rd (moduleReset s c) k = resetWord k := by
  simp only [List.mem_cons, List.not_mem_nil, or_false, not_or] at out
  obtain ⟨cause, power, stat, event⟩ := out
  rw [rd_moduleReset s c event, rd_resetRecorded s c cause stat, rd_resetBare, if_neg]
  simp [keptReg, other, cause, power]

theorem susp_moduleReset (s : State) (c : Nat) :
    fld (moduleReset s c) R.TWN_STAT F.TWN_STAT_REV_SUSP = fld s R.TWN_STAT F.TWN_STAT_REV_SUSP := by
  have stat : rd (moduleReset s c) R.TWN_STAT = rd (resetRecorded s c) R.TWN_STAT := rd_moduleReset s c (by decide)
  refine (congrArg (fun w => bits w F.TWN_STAT_REV_SUSP.hi F.TWN_STAT_REV_SUSP.lo) stat).trans ?_
  refine (fld_setFld_same _ _ _ _ (by decide) (by decide)).trans (Nat.mod_eq_of_lt ?_)
  exact fld_lt s _ _

end

/-! ## The bytes of the NOR -/

theorem mfind_below {m : List Host.Cell} {b a : Nat} (wf : mwfFrom b m = true) (low : a < b) : mfind m a = none := by
  cases m with
  | nil => rfl
  | cons x r =>
    obtain ⟨j, v⟩ := x
    simp only [mwfFrom, Bool.and_eq_true, decide_eq_true_eq] at wf
    rw [mfind, if_neg (by omega), if_pos (by omega)]

theorem mfind_filter {m : List Host.Cell} {b a : Nat} {p : Host.Cell → Bool} (wf : mwfFrom b m = true) (kept : ∀ v, p (a, v) = true) :
    mfind (m.filter p) a = mfind m a := by
  induction m generalizing b with
  | nil => rfl
  | cons x r ih =>
    obtain ⟨j, v⟩ := x
    simp only [mwfFrom, Bool.and_eq_true, decide_eq_true_eq] at wf
    obtain ⟨-, rest⟩ := wf
    by_cases here : a = j
    · subst here
      rw [List.filter_cons_of_pos (kept v), mfind, mfind, if_pos rfl, if_pos rfl]
    · have tail : mfind (r.filter p) a = mfind ((j, v) :: r) a := by
        rw [ih rest, mfind, if_neg here]
        split
        next below => exact mfind_below rest (by omega)
        next => rfl
      cases h : p (j, v) with
      | true =>
        rw [List.filter_cons_of_pos h, mfind, mfind, if_neg here, if_neg here, ih rest]
      | false => rw [List.filter_cons_of_neg (by simp [h]), tail]

theorem byteAt_nor {s : State} {a : Nat} (low : 0x30000000 ≤ a) (high : a ≤ 0x3FFFFFFF) : byteAt s a = (match mfind s.mem a with
    | some b => b
    | none => if norErased a then 0xFF else Config.norByte 0 (a - 0x30000000)) := by
  unfold byteAt
  rw [if_neg (by omega)]
  cases mfind s.mem a with
  | some b => rfl
  | none =>
    dsimp only
    cases erased : norErased a with
    | true => rfl
    | false =>
      have factory : pageIn a 0x30010000 0x30FFFFFF = true := by
        simp only [norErased, pageIn, Bool.or_eq_false_iff, Bool.and_eq_false_iff, decide_eq_false_iff_not, Bool.and_eq_true,
          decide_eq_true_eq] at erased ⊢
        omega
      rw [factory]
      rfl

theorem nor_moduleReset {s : State} (c : Nat) (wf : Memory.wf s.mem = true) (idle : interruptNor s = s) {a : Nat} (low : 0x30000000 ≤ a)
    (high : a ≤ 0x3FFFFFFF) : byteAt (moduleReset s c) a = byteAt s a := by
  have mem : (moduleReset s c).mem = s.mem.filter (fun c => pageIn c.1 0x30000000 0x3FFFFFFF) := by
    rw [moduleReset_eq, evtLevel_mem, evtLevel_mem, idle]
    rfl
  rw [byteAt_nor low high, byteAt_nor low high, mem, mfind_filter wf fun v => by simp [pageIn, low, high]]

/-! ## A module reset (R469, R470) -/

section
variable (s : State) (c : Nat)

theorem moduleReset_clears : let r := moduleReset s c
    r.now = 0 ∧ r.points = [] ∧ r.forces = [] ∧ r.moulds = [] ∧ r.slots = [] ∧ r.lockTimers = [] ∧ r.rwlLocked = false := by
  dsimp only
  rw [moduleReset_eq]
  simp only [evtLevel_now, evtLevel_points, evtLevel_forces, evtLevel_moulds, evtLevel_slots, evtLevel_lockTimers, evtLevel_rwlLocked]
  exact ⟨rfl, rfl, rfl, rfl, rfl, rfl, rfl⟩

theorem moduleReset_keeps : let r := moduleReset s c
    r.otp = s.otp ∧ r.nvrForces = s.nvrForces ∧ r.scan.nvr = s.scan.nvr ∧ r.crypto.store = s.crypto.store ∧ r.resets = s.resets + 1 ∧
      r.pending = s.pending := by
  dsimp only
  rw [moduleReset_eq, interruptNor_rest]
  simp only [evtLevel_otp, evtLevel_nvrForces, evtLevel_scan, evtLevel_crypto, evtLevel_resets, evtLevel_pending]
  exact ⟨rfl, rfl, rfl, rfl, rfl, rfl⟩

end

end Sys2Proof.Machine
end

section
/-! SUPPORT. O58: who asks for a reset, and what a reset begins with (R469, R472, R456). -/

namespace Sys2Proof.Machine

open Sys2Proof.Safety

/-! ## The resets of the module's own watchers -/

theorem watcherReset {s : State} {i : Instr} {c : Nat} (even : c % 2 = 0) (run : exec i s = .next (resetModule s c)) :
    (modeNow s = 0 → exec i s = .next s) ∧ (modeNow s ≠ 0 → exec i s = .next (bootRom (moduleReset s c))) := by
  rw [run]
  exact ⟨fun held => congrArg Host.Outcome.next (if_pos ⟨held, even⟩), fun powered => congrArg Host.Outcome.next (if_neg fun h => powered h.1)⟩

theorem watcherResets {s : State} {p : Instr × Nat}
    (mem : p ∈ [(Instr.resetPin, 0x4), (.mgmtWatchdogReset, 0x10), (.lockstepReset, 0x20), (.thermalReset, 0x80)]) :
    (modeNow s = 0 → exec p.1 s = .next s) ∧ (modeNow s ≠ 0 → exec p.1 s = .next (bootRom (moduleReset s p.2))) := by
  obtain rfl | rfl | rfl | rfl := by simpa using mem
  · exact watcherReset (c := 0x4) (by decide) rfl
  · exact watcherReset (c := 0x10) (by decide) rfl
  · exact watcherReset (c := 0x20) (by decide) rfl
  · exact watcherReset (c := 0x80) (by decide) rfl

/-! ## SYS_CMD -/

section
variable {s : State} {q : Requester}

/-- The field table of SYS_CMD. -/
def sysCmdDesc : RegDesc := ⟨0x48, [], .one, [⟨31, 16, .wo, 0, [(0x5253, 0x5253)], 1⟩, ⟨15, 2, .rsv, 0, [], 1⟩, ⟨1, 0, .wo, 0, [(0x1, 0x2)], 1⟩]⟩

theorem findReg_SYS_CMD : findReg 0x00 0x48 = some sysCmdDesc := by decide

/-- The word of a command of SYS_CMD. -/
def sysWord (key : BitVec 16) (op : Nat) : Word := BitVec.ofNat 32 (key.toNat * 65536 + op)

theorem sysWord_fields (key : BitVec 16) {op : Nat} (small : op < 4) :
    bits (sysWord key op) 31 16 = key.toNat ∧ bits (sysWord key op) 15 2 = 0 ∧ bits (sysWord key op) 1 0 = op := by
  have room := key.isLt
  have word : (sysWord key op).toNat = key.toNat * 65536 + op := by
    rw [sysWord, BitVec.toNat_ofNat]
    omega
  refine ⟨?_, ?_, ?_⟩ <;> rw [bits, natBits, word] <;> omega

theorem valueLegal_key (n : Nat) : valueLegal ⟨31, 16, .wo, 0, [(0x5253, 0x5253)], 1⟩ n = decide (n = 0x5253) := by
  rw [Bool.eq_iff_iff]
  simp [valueLegal, Nat.mod_one]
  omega

theorem illegalField_SYS_CMD (key : BitVec 16) {op : Nat} (named : op = 1 ∨ op = 2) :
    illegalField sysCmdDesc (sysWord key op) = !decide (key = 0x5253) := by
  obtain ⟨keyField, -, opField⟩ := sysWord_fields key (op := op) (by omega)
  have fields : illegalField sysCmdDesc (sysWord key op) =
    (!valueLegal ⟨31, 16, .wo, 0, [(0x5253, 0x5253)], 1⟩ key.toNat || !valueLegal ⟨1, 0, .wo, 0, [(0x1, 0x2)], 1⟩ op) := by
    have split (v : Word) : illegalField sysCmdDesc v =
      (!valueLegal ⟨31, 16, .wo, 0, [(0x5253, 0x5253)], 1⟩ (bits v 31 16) || !valueLegal ⟨1, 0, .wo, 0, [(0x1, 0x2)], 1⟩ (bits v 1 0)) := by
      simp [illegalField, sysCmdDesc, accWritable, show (Acc.wo != Acc.w1c) = true from rfl, show (Acc.rsv == Acc.rw) = false from rfl,
        show (Acc.rsv == Acc.w1c) = false from rfl, show (Acc.rsv == Acc.wo) = false from rfl, show (Acc.rsv == Acc.rwp) = false from rfl,
        show (Acc.rsv == Acc.rwl) = false from rfl]
    rw [split, keyField, opField]
  have op_legal : valueLegal ⟨1, 0, .wo, 0, [(0x1, 0x2)], 1⟩ op = true := by obtain rfl | rfl := named <;> rfl
  have same : key = 0x5253 ↔ key.toNat = 0x5253 := BitVec.toNat_inj.symm
  rw [fields, op_legal, valueLegal_key]
  simp only [same, Bool.not_true, Bool.or_false]

theorem tableCode_SYS_CMD (awake : Awake s 0x00) {key : BitVec 16} {op : Nat} (named : op = 1 ∨ op = 2) (old : Word) :
    tableCode s 0x00 0x48 sysCmdDesc old (sysWord key op) = if key = 0x5253 then .none else .illegalValue := by
  obtain ⟨keyField, reserved, opField⟩ := sysWord_fields key (op := op) (by omega)
  have rsv : reservedSet sysCmdDesc (sysWord key op) = false := by
    simp only [reservedSet, sysCmdDesc, List.any_cons, List.any_nil, reserved]
    rfl
  have illegal := illegalField_SYS_CMD key named
  by_cases right : key = 0x5253
  · rw [if_pos right]
    exact tableCode_none rfl rsv rfl (lockedChange_none rfl s _ _) rfl (domainRefuses_awake awake _ _ _) (illegal.trans (by simp [right])) rfl
  · rw [if_neg right, tableCode]
    have lock : (s.rwlLocked && lockedChange sysCmdDesc old (sysWord key op)) = false := lockedChange_none rfl s _ _
    have dom : domainRefuses s 0x00 0x48 sysCmdDesc (sysWord key op) = false := domainRefuses_awake awake _ _ _
    have bars : stateBars s 0x00 0x48 old (sysWord key op) = false := rfl
    have extra : extraReserved s 0x00 0x48 (sysWord key op) = false := rfl
    have ro : allReadOnly sysCmdDesc = false := rfl
    simp only [rsv, lock, dom, bars, extra, illegal, right, ro, Bool.or_self, Bool.false_eq_true, if_false, decide_false, Bool.not_false, Bool.true_or,
      if_true]

/-- The state in which a command of SYS_CMD asks for its reset. -/
def sysAsked (s : State) : State := answer (actionState s R.SYS_CMD (pageDomain 0x00)) .none

theorem onlyRegs_sysAsked (awake : Awake s 0x00) : OnlyRegs [] s (sysAsked s) :=
  (onlyRegs_actionState [] awake _).trans (onlyRegs_answer _ _ _)

theorem acceptWrite_SYS_CMD (s : State) (q : Requester) (v : Word) :
    acceptWrite s q 0x00 0x48 sysCmdDesc v =
      (resetDue (actionState s R.SYS_CMD (pageDomain 0x00)) (if bits v 1 0 = 2 then 0x208 else 0x8), .none) := by
  have act : startsAction 0x00 0x48 sysCmdDesc = true := rfl
  refine acceptWrite_of_afterWrite (by decide) rfl rfl ?_
  rw [act]
  rfl

theorem writeCommand_SYS_CMD (hr : Reaches s q 0x00 0x48) (awake : Awake s 0x00) {op : Nat} (named : op = 1 ∨ op = 2) :
    writeCommand s q 0x00 0x48 (sysWord 0x5253 op) = resetDue (sysAsked s) (if op = 2 then 0x208 else 0x8) := by
  obtain ⟨-, -, opField⟩ := sysWord_fields 0x5253 (op := op) (by omega)
  have code := tableCode_SYS_CMD awake (key := 0x5253) named (rd s (keyAt s 0x00 0x48 sysCmdDesc))
  rw [if_pos rfl] at code
  rw [(writeCommand_action hr awake rfl (by decide) rfl findReg_SYS_CMD rfl code rfl).1 _ (acceptWrite_SYS_CMD s q _), opField,
    forwardConfig_other rfl]
  rfl

theorem sysCommand_resets (hr : Reaches s q 0x00 0x48) (awake : Awake s 0x00) (due : s.boot.due = none) {op : Nat} (named : op = 1 ∨ op = 2) :
    settleReset (writeCommand s q 0x00 0x48 (sysWord 0x5253 op)) = bootRom (moduleReset (sysAsked s) (if op = 2 then 0x208 else 0x8)) := by
  have only := onlyRegs_sysAsked awake
  rw [writeCommand_SYS_CMD hr awake named]
  refine settleReset_resetDue ((congrArg Boot.due (boot_of_onlyRegs only)).trans due) ?_ _
  rw [modeNow, fld, only.regs _ List.not_mem_nil]
  exact hr.1

/-- A write that the rules of its fields turn away. -/
theorem writeCommand_turned {page off : Nat} {v : Word} {d : RegDesc} {c : Code} (hr : Reaches s q page off) (ha : Awake s page)
    (hl : lockBarred q page off = false) (h40 : 0x40 ≤ off) (hp : (pageAlloc page).isSome) (hd : findReg page off = some d)
    (ho : ownWrite s q page off v = none) (ht : tableCode s page off d (rd s (keyAt s page off d)) v = c) (error : c ≠ .none) :
    writeCommand s q page off v = rejectWrite s page off c := by
  have hp' : (pageAlloc page).isNone = false := by rw [Option.isNone_eq_false_iff]; exact hp
  have h40' : ¬ off < 0x40 := by omega
  have write : regWrite s q page off v = (s, c) := by
    unfold regWrite blockWrite
    simp only [hp', h40', hd, wakeFor_awake ha, ho, ht, Bool.false_eq_true, if_false]
  rw [writeCommand, gated_reaches hr]
  simp only [hl, write, endCommand, Bool.false_eq_true, if_false, if_neg error]

theorem sysCommand_keyless (hr : Reaches s q 0x00 0x48) (awake : Awake s 0x00) (due : s.boot.due = none) {op : Nat} (named : op = 1 ∨ op = 2)
    {key : BitVec 16} (wrong : key ≠ 0x5253) :
    Rejected s (settleReset (writeCommand s q 0x00 0x48 (sysWord key op))) 0x00 0x48 .illegalValue := by
  have code := tableCode_SYS_CMD awake (key := key) named (rd s (keyAt s 0x00 0x48 sysCmdDesc))
  rw [if_neg wrong] at code
  rw [writeCommand_turned hr awake rfl (by decide) rfl findReg_SYS_CMD rfl code (by decide),
    settleReset_of_none ((congrArg Boot.due (rejectWrite_boot s _ _ _)).trans due)]
  exact ⟨rfl, rfl⟩

theorem sysCommands_reset (hr : Reaches s q 0x00 0x48) (awake : Awake s 0x00) (due : s.boot.due = none) {p : Instr × Nat}
    (mem : p ∈ [(Instr.sysReset q 0x5253, 0x8), (.sysRecover q 0x5253, 0x208)]) :
    ∃ u, exec p.1 s = .next (bootRom (moduleReset u p.2)) ∧ Accepted u ∧ OnlyRegs [] s u := by
  obtain rfl | rfl := by simpa using mem
  · exact ⟨_, congrArg Host.Outcome.next (sysCommand_resets hr awake due (.inl rfl)), rfl, onlyRegs_sysAsked awake⟩
  · exact ⟨_, congrArg Host.Outcome.next (sysCommand_resets hr awake due (.inr rfl)), rfl, onlyRegs_sysAsked awake⟩

theorem sysCommands_rejected (hr : Reaches s q 0x00 0x48) (awake : Awake s 0x00) (due : s.boot.due = none) {key : BitVec 16} (wrong : key ≠ 0x5253)
    {i : Instr} (mem : i ∈ [Instr.sysReset q key, .sysRecover q key]) : ∃ t, exec i s = .next t ∧ Rejected s t 0x00 0x48 .illegalValue := by
  obtain rfl | rfl := by simpa using mem
  · exact ⟨_, rfl, sysCommand_keyless hr awake due (.inl rfl) wrong⟩
  · exact ⟨_, rfl, sysCommand_keyless hr awake due (.inr rfl) wrong⟩

end

/-! ## The supplies (R450, R452, R456, R472) -/

section
variable {s : State}

theorem regsAndEvents_supplySwitch (s : State) (b : Bool) : RegsAndEvents [R.RTC_STAT, R.PG_ISR 0x04] s (supplySwitch s b) := by
  unfold supplySwitch
  split
  · exact RegsAndEvents.refl _ s
  · exact (onlyRegs_setFld s _ _ (by simp)).regsAndEvents.trans (regsAndEvents_raiseBit _ _ (by simp))

theorem onVbkp_supplySwitch (s : State) (b : Bool) : flag (supplySwitch s b) R.RTC_STAT F.RTC_STAT_ON_VBKP = b := by
  unfold supplySwitch
  split
  next already => exact already
  next =>
    rw [flag, fld, rd_raiseBit_ne _ (by decide) (by decide), ← fld, fld_setFld_same _ _ _ _ (by decide) (by decide)]
    cases b <;> rfl

theorem rd_supplySwitch (s : State) {k : Nat} (b : Bool) (stat : k ≠ R.RTC_STAT) (isr : k ≠ R.PG_ISR 0x04) (event : k ≠ R.EVT_PEND 0) :
    rd (supplySwitch s b) k = rd s k := by
  unfold supplySwitch
  split
  · rfl
  · rw [rd_raiseBit_ne _ isr event, rd_setFld_ne _ _ _ stat]

theorem supplySwitch_boot (s : State) (b : Bool) : (supplySwitch s b).boot = s.boot := by rw [(regsAndEvents_supplySwitch s b).rest]

/-- Power comes on, with what the ROM finds around it. -/
def powerGiven (s : State) (x : BootEnv) : State := setBoot (moduleReset s 1) { (moduleReset s 1).boot with env := x }

theorem rd_powerGiven (s : State) (x : BootEnv) (k : Nat) : rd (powerGiven s x) k = rd (moduleReset s 1) k := rfl

theorem powerOnReset_boots (s : State) (x : BootEnv) : ∃ r, exec (.powerOnReset x) s = .next (bootRom r) ∧ r.boot.env = x ∧ rd r R.SYS_RSTCAUSE = 1 ∧
    modeNow r = mdBOOT ∧ r.now = 0 ∧ flag r R.RTC_STAT F.RTC_STAT_ON_VBKP = false ∧ rd r R.SCN_PFWST = resetWord R.SCN_PFWST ∧ r.otp = s.otp := by
  have rest := (regsAndEvents_supplySwitch (powerGiven s x) false).rest
  obtain ⟨now, -⟩ := moduleReset_clears s 1
  obtain ⟨otp, -⟩ := moduleReset_keeps s 1
  refine ⟨supplySwitch (powerGiven s x) false, rfl, congrArg Boot.env (supplySwitch_boot _ _), ?_, ?_, by rw [rest]; exact now, onVbkp_supplySwitch _ _,
    ?_, by rw [rest]; exact otp⟩
  · rw [rd_supplySwitch _ _ (by decide) (by decide) (by decide), rd_powerGiven, rstcause_moduleReset, resetCauses, if_pos rfl]
    rfl
  · rw [modeNow, fld, rd_supplySwitch _ _ (by decide) (by decide) (by decide), rd_powerGiven, others_moduleReset s 1 (by decide) (by decide)]
    decide
  · rw [rd_supplySwitch _ _ (by decide) (by decide) (by decide), rd_powerGiven, pfwst_powerOn]

/-- The state with one more good rail. -/
def railGood (s : State) (rail : Fin 5) : State :=
  setBoot s { s.boot with env := { s.boot.env with rails := s.boot.env.rails ||| BitVec.ofNat 5 (2 ^ rail.val) } }

theorem supplyGood_noted {rail : Fin 5} (ms : Nat) (idle : ¬ (modeNow s = mdBOOT ∧ flag s R.BOOT_STAT F.BOOT_STAT_RAILWAIT = true)) :
    exec (.supplyGood rail ms) s = .next (railGood s rail) := congrArg Host.Outcome.next (if_neg idle)

/-- A ROM whose rails are not all good waits on. -/
theorem bootRom_waits {u : State} (mode : modeNow u = mdBOOT) (phase : bootPhase u = 5) (rails : u.boot.env.rails.toNat % 4 ≠ 3) :
    bootRom u = railWait u := by
  have started : (if bootPhase u < 5 then bootStart u else u) = u := if_neg (by omega)
  unfold bootRom
  rw [if_neg (not_not_intro mode), started]
  dsimp only
  rw [if_neg (by omega), if_neg rails]

theorem supplyGood_waits {rail : Fin 5} (ms : Nat) (mode : modeNow s = mdBOOT) (wait : flag s R.BOOT_STAT F.BOOT_STAT_RAILWAIT = true)
    (phase : bootPhase s = 5) (rails : (railGood s rail).boot.env.rails.toNat % 4 ≠ 3) : ∃ t, exec (.supplyGood rail ms) s = .next t ∧
      t.boot.env = (railGood s rail).boot.env ∧ modeNow t = mdBOOT ∧ bootPhase t = 5 ∧ flag t R.BOOT_STAT F.BOOT_STAT_RAILWAIT = true ∧
      BitVec.ofNat 64 (ms * 100000) ≤ t.now := by
  obtain ⟨-, reached⟩ := le_advanceTo (railGood s rail) (BitVec.ofNat 64 (ms * 100000))
  have boots : exec (.supplyGood rail ms) s = .next (bootRom (advanceTo (railGood s rail) (BitVec.ofNat 64 (ms * 100000)))) :=
    congrArg Host.Outcome.next (if_pos ⟨mode, wait⟩)
  have mode' : modeNow (railGood s rail) = mdBOOT := mode
  have phase' : bootPhase (railGood s rail) = 5 := phase
  rw [bootRom_waits ((modeNow_advanceTo (railGood s rail) _).trans mode') ((fld_advanceTo (railGood s rail) _ _ _).trans phase')
    (by rwa [advanceTo_boot])] at boots
  refine ⟨_, boots, congrArg Boot.env (advanceTo_boot _ _), ?_, ?_, ?_, reached⟩
  · exact (fld_setFld_ne _ _ _ _ (by decide)).trans ((modeNow_advanceTo _ _).trans mode')
  · exact (fld_setFld_other _ _ _ _ 1 (by decide) (by decide) (by decide)).trans ((fld_advanceTo _ _ _ _).trans phase')
  · exact congrArg (· != 0) (fld_setFld_same _ R.BOOT_STAT F.BOOT_STAT_RAILWAIT 1 (by decide) (by decide))

/-- The module is held in reset (R456). -/
def heldInReset (s : State) : State := setFld (moduleReset s 0) R.SYS_MODE F.SYS_MODE_MODE 0

theorem modeNow_heldInReset (s : State) : modeNow (heldInReset s) = 0 := fld_setFld_same _ _ _ 0 (by decide) (by decide)

theorem backup_heldInReset {s : State} {k : Nat} (backup : inBackup k = true) : rd (heldInReset s) k = rd s k :=
  (rd_setFld_ne _ _ _ (backup_ne backup (by decide))).trans (backup_moduleReset s 0 backup)

theorem heldInReset_clears (s : State) :
    (heldInReset s).now = 0 ∧ (heldInReset s).points = [] ∧ (heldInReset s).slots = [] ∧ (heldInReset s).otp = s.otp := by
  obtain ⟨now, points, -, -, slots, -⟩ := moduleReset_clears s 0
  obtain ⟨otp, -⟩ := moduleReset_keeps s 0
  exact ⟨now, points, slots, otp⟩

theorem supplyFail_holds (s : State) (b : Bool) : ∃ t, exec (.supplyFail b) s = .next t ∧ modeNow t = 0 ∧ t.now = 0 ∧ t.points = [] ∧ t.slots = [] ∧
    t.otp = s.otp ∧ (b = true → flag t R.RTC_STAT F.RTC_STAT_ON_VBKP = true ∧ rd t R.RTC_DATE = rd s R.RTC_DATE ∧ rd t R.RTC_TIME = rd s R.RTC_TIME ∧
      rd t R.TMP_LATCH = rd s R.TMP_LATCH) ∧ (b = false → ∀ k, inBackup k = true → rd t k = resetWord k) := by
  obtain ⟨now, points, slots, otp⟩ := heldInReset_clears s
  have mode := modeNow_heldInReset s
  cases b with
  | true =>
    have switched := regsAndEvents_supplySwitch (heldInReset s) true
    have kept {k : Nat} (backup : inBackup k = true) (stat : k ≠ R.RTC_STAT) (isr : k ≠ R.PG_ISR 0x04) :
        rd (supplySwitch (heldInReset s) true) k = rd s k :=
      (rd_supplySwitch _ _ stat isr (backup_ne backup (by decide))).trans (backup_heldInReset backup)
    refine ⟨supplySwitch (heldInReset s) true, rfl, ?_, ?_, ?_, ?_, ?_, fun _ => ⟨onVbkp_supplySwitch _ _, kept (by decide) (by decide) (by decide),
      kept (by decide) (by decide) (by decide), kept (by decide) (by decide) (by decide)⟩, nofun⟩
    · rwa [modeNow, fld, rd_supplySwitch _ _ (by decide) (by decide) (by decide)]
    all_goals rw [switched.rest]; assumption
  | false =>
    refine ⟨backupReset (heldInReset s), rfl, ?_, now, points, slots, otp, nofun, fun _ k backup => (rd_backupReset _ k).trans (if_pos backup)⟩
    rw [modeNow, fld, rd_backupReset]
    exact mode

end

end Sys2Proof.Machine
end

section
/-! SUPPORT. O58: stores and XSPI commands (R479 to R482, R486). -/

namespace Sys2Proof.Machine

open Sys2Proof.Safety

/-! ## An operation of the NOR begins -/

section
variable {s : State} {q : Requester}

/-- An operation has begun: its job stands in the boot state, and its status register shows BUSY. -/
def jobBegun (s : State) (b : Boot) (k : Nat) : State := wr (setBoot s b) k 0x80000000

theorem jobBegun_shows (s : State) (b : Boot) (k : Nat) : let t := answer (jobBegun s b k) .none
    Accepted t ∧ t.boot = b ∧ rd t k = 0x80000000 ∧ SameRegs [k] s t ∧ (SameBytes s t ∧ SamePoints s t) :=
  ⟨rfl, rfl, rd_wr_same _ _ _, fun _ out => rd_wr_ne _ _ fun e => out (e ▸ List.mem_cons_self), fun _ => rfl, fun _ => rfl⟩

/-- The job that BOOT_SCMD starts. -/
def storeJob (s : State) (op : Nat) : NorJob :=
  { op := op, src := (rd s R.BOOT_SSRC).toNat, off := (rd s R.BOOT_SOFF).toNat, len := (rd s R.BOOT_SLEN).toNat }

theorem storeStart_outside {v : Word} (legal : bits v 31 2 = 0) (named : bits v 1 0 = 1 ∨ bits v 1 0 = 2) (mode : serviceMode s = false) :
    storeStart s v = (s, .notInState) := by
  unfold storeStart
  dsimp only
  rw [if_neg (by simp [legal]), if_neg (by omega), if_pos (by simp [mode])]

theorem storeStart_busy {v : Word} (legal : bits v 31 2 = 0) (named : bits v 1 0 = 1 ∨ bits v 1 0 = 2) (mode : serviceMode s = true)
    (busy : ¬ (s.boot.store = none ∧ flag s R.UPD_STAT F.UPD_STAT_JOPEN = false)) : storeStart s v = (s, .busy) := by
  have held : s.boot.store.isSome = true ∨ flag s R.UPD_STAT F.UPD_STAT_JOPEN = true := by
    rw [not_and_or, Bool.not_eq_false, ← ne_eq, ← Option.isSome_iff_ne_none] at busy
    exact busy
  unfold storeStart
  dsimp only
  rw [if_neg (by simp [legal]), if_neg (by omega), if_neg (by simp [mode]), if_pos held]

theorem storeStart_pattern (mode : serviceMode s = true) (free : s.boot.store = none) (closed : flag s R.UPD_STAT F.UPD_STAT_JOPEN = false)
    (dram : inDram s (storeJob s 1).src (storeJob s 1).len = true) (low : 16 ≤ (storeJob s 1).len) (high : (storeJob s 1).len ≤ 0x100000) :
    storeStart s 1 = (jobBegun s { s.boot with store := some { storeJob s 1 with off := 0x1000000 + spareCopy s * 0x100000 } } R.BOOT_SSTAT,
      .none) := by
  unfold storeStart
  dsimp only
  rw [if_neg (by decide), if_neg (by decide), if_neg (by simp [mode]), if_neg (by simp [free, closed]), if_neg]
  · rfl
  · rintro (bad | bad | ⟨-, bad⟩ | ⟨bad, -⟩)
    · exact absurd (dram.symm.trans ((Bool.not_eq_true' _).mp bad)) (by decide)
    · exact absurd low (Nat.not_le.mpr bad)
    · exact absurd high (Nat.not_le.mpr bad)
    · exact absurd bad (by decide)

theorem storeStart_blob (mode : serviceMode s = true) (free : s.boot.store = none) (closed : flag s R.UPD_STAT F.UPD_STAT_JOPEN = false)
    (dram : inDram s (storeJob s 2).src (storeJob s 2).len = true) (low : 16 ≤ (storeJob s 2).len) (sector : (storeJob s 2).off % 4096 = 0)
    (blobs : 0x1200000 ≤ (storeJob s 2).off) (fits : (storeJob s 2).off + (storeJob s 2).len ≤ (rd s R.XSPI_SIZE).toNat) :
    storeStart s 2 = (jobBegun s { s.boot with store := some (storeJob s 2) } R.BOOT_SSTAT, .none) := by
  unfold storeStart
  dsimp only
  rw [if_neg (by decide), if_neg (by decide), if_neg (by simp [mode]), if_neg (by simp [free, closed]), if_neg]
  · rfl
  · rintro (bad | bad | ⟨bad, -⟩ | ⟨-, bad | bad | bad⟩)
    · exact absurd (dram.symm.trans ((Bool.not_eq_true' _).mp bad)) (by decide)
    · exact absurd low (Nat.not_le.mpr bad)
    · exact absurd bad (by decide)
    · exact bad sector
    · exact absurd blobs (Nat.not_le.mpr bad)
    · exact absurd fits (Nat.not_le.mpr bad)

theorem bootStores_turned {c : Code} (hr : Reaches s q 0x02 0x60) (error : c ≠ .none) {i : Instr} (mem : i ∈ [Instr.bootStorePattern q, .bootStoreBlob q])
    (turned : ∀ v : Word, v = 1 ∨ v = 2 → storeStart s v = (s, c)) : ∃ t, exec i s = .next t ∧ Rejected s t 0x02 0x60 c := by
  obtain rfl | rfl := by simpa using mem
  · exact ⟨_, rfl, gated_turned (k := fun s => storeStart s 1) hr error (turned 1 (.inl rfl))⟩
  · exact ⟨_, rfl, gated_turned (k := fun s => storeStart s 2) hr error (turned 2 (.inr rfl))⟩

theorem bootStores_outside (hr : Reaches s q 0x02 0x60) (mode : serviceMode s = false) {i : Instr}
    (mem : i ∈ [Instr.bootStorePattern q, .bootStoreBlob q]) : ∃ t, exec i s = .next t ∧ Rejected s t 0x02 0x60 .notInState :=
  bootStores_turned hr (by decide) mem fun v named => storeStart_outside (by obtain rfl | rfl := named <;> rfl)
    (by obtain rfl | rfl := named; exacts [.inl rfl, .inr rfl]) mode

theorem bootStores_busy (hr : Reaches s q 0x02 0x60) (mode : serviceMode s = true)
    (busy : ¬ (s.boot.store = none ∧ flag s R.UPD_STAT F.UPD_STAT_JOPEN = false)) {i : Instr}
    (mem : i ∈ [Instr.bootStorePattern q, .bootStoreBlob q]) : ∃ t, exec i s = .next t ∧ Rejected s t 0x02 0x60 .busy :=
  bootStores_turned hr (by decide) mem fun v named => storeStart_busy (by obtain rfl | rfl := named <;> rfl)
    (by obtain rfl | rfl := named; exacts [.inl rfl, .inr rfl]) mode busy

/-- What a command whose operation begins leaves. -/
theorem job_taken {page off : Nat} {k : State → State × Code} {i : Instr} {b : Boot} {stat : Nat} (hr : Reaches s q page off)
    (run : exec i s = .next (gated s q page off (fun s => endCommand page off (k s)))) (begun : k s = (jobBegun s b stat, .none)) :
    ∃ t, exec i s = .next t ∧ Accepted t ∧ t.boot = b ∧ rd t stat = 0x80000000 ∧ SameRegs [stat] s t ∧ (SameBytes s t ∧ SamePoints s t) :=
  ⟨_, run.trans (congrArg Host.Outcome.next (gated_taken hr begun)), jobBegun_shows s b stat⟩

/-- The job that XSPI_CMD starts. -/
def xspiJob (s : State) (op : Nat) : NorJob :=
  { op := op, src := (rd s R.XSPI_SRC).toNat, off := (rd s R.XSPI_OFF).toNat, len := (rd s R.XSPI_LEN).toNat }

theorem xspiStart_busy {v : Word} (legal : bits v 31 2 = 0) (named : bits v 1 0 ≠ 0) (busy : ¬ (s.boot.store = none ∧ s.boot.xspi = none)) :
    xspiStart s v = (s, .busy) := by
  have held : s.boot.xspi.isSome = true ∨ s.boot.store.isSome = true := by
    rw [not_and_or, ← ne_eq, ← ne_eq, ← Option.isSome_iff_ne_none, ← Option.isSome_iff_ne_none] at busy
    exact busy.symm
  unfold xspiStart
  dsimp only
  rw [if_neg (by simp [legal]), if_neg named, if_pos held]

/-- The firmware's row is written in COMMISSION alone. -/
theorem xspiStart_barred {v : Word} (legal : bits v 31 2 = 0) (named : bits v 1 0 ≠ 0) (write : bits v 1 0 ≠ 3)
    (free : s.boot.store = none ∧ s.boot.xspi = none) (firmware : xspiRow s (rd s R.XSPI_OFF).toNat (rd s R.XSPI_LEN).toNat = 1)
    (mode : modeNow s ≠ mdCOMMISSION) : xspiStart s v = (s, .notInState) := by
  unfold xspiStart
  dsimp only
  rw [if_neg (by simp [legal]), if_neg named, if_neg (by simp [free.1, free.2]), if_pos (.inr ⟨write, firmware, mode⟩)]

/-- The ranges that a command of XSPI_CMD may name. -/
def XspiLegal (s : State) (j : NorJob) : Prop :=
  j.len ≠ 0 ∧ (j.op ≠ 3 → xspiRow s j.off j.len = 3 ∨ (xspiRow s j.off j.len = 1 ∧ modeNow s = mdCOMMISSION)) ∧ xspiRow s j.off j.len ≠ 0 ∧
    (j.op = 1 → j.off % 4096 = 0 ∧ j.len % 4096 = 0) ∧ (j.op ≠ 1 → j.off % 256 = 0 ∧ j.len % 256 = 0 ∧ inDram s j.src j.len = true)

theorem xspiStart_taken {v : Word} (legal : bits v 31 2 = 0) (named : bits v 1 0 ≠ 0) (free : s.boot.store = none ∧ s.boot.xspi = none)
    (mode : serviceMode s = true) (fits : XspiLegal s (xspiJob s (bits v 1 0))) :
    xspiStart s v = (jobBegun s { s.boot with xspi := some (xspiJob s (bits v 1 0)) } R.XSPI_STAT, .none) := by
  obtain ⟨len, writes, row, erase, other⟩ := fits
  unfold xspiStart
  dsimp only
  rw [if_neg (by simp [legal]), if_neg named, if_neg (by simp [free.1, free.2]), if_neg, if_neg]
  · rfl
  · rintro (bad | ⟨write, bad⟩ | bad | ⟨op, bad⟩ | ⟨op, bad | bad | bad⟩)
    · exact row bad
    · obtain h | ⟨h, -⟩ := writes write <;> exact absurd (bad.symm.trans h) (by decide)
    · exact len bad
    · exact bad.elim (· (erase op).1) (· (erase op).2)
    · exact bad (other op).1
    · exact bad (other op).2.1
    · exact absurd ((other op).2.2.symm.trans ((Bool.not_eq_true' _).mp bad)) (by decide)
  · rintro (bad | ⟨write, row1, commission⟩)
    · simp [mode] at bad
    · obtain h | ⟨-, h⟩ := writes write
      · exact absurd (row1.symm.trans h) (by decide)
      · exact commission h

theorem xspiCommands_busy (hr : Reaches s q 0x0D 0x54) (busy : ¬ (s.boot.store = none ∧ s.boot.xspi = none)) {i : Instr}
    (mem : i ∈ [Instr.xspiErase q, .xspiProgram q, .xspiVerify q]) : ∃ t, exec i s = .next t ∧ Rejected s t 0x0D 0x54 .busy := by
  obtain rfl | rfl | rfl := by simpa using mem
  · exact ⟨_, rfl, gated_turned (k := fun s => xspiStart s 1) hr (by decide) (xspiStart_busy rfl (by decide) busy)⟩
  · exact ⟨_, rfl, gated_turned (k := fun s => xspiStart s 2) hr (by decide) (xspiStart_busy rfl (by decide) busy)⟩
  · exact ⟨_, rfl, gated_turned (k := fun s => xspiStart s 3) hr (by decide) (xspiStart_busy rfl (by decide) busy)⟩

theorem xspiCommands_barred (hr : Reaches s q 0x0D 0x54) (free : s.boot.store = none ∧ s.boot.xspi = none)
    (firmware : xspiRow s (rd s R.XSPI_OFF).toNat (rd s R.XSPI_LEN).toNat = 1) (mode : modeNow s ≠ mdCOMMISSION) {i : Instr}
    (mem : i ∈ [Instr.xspiErase q, .xspiProgram q]) : ∃ t, exec i s = .next t ∧ Rejected s t 0x0D 0x54 .notInState := by
  obtain rfl | rfl := by simpa using mem
  · exact ⟨_, rfl, gated_turned (k := fun s => xspiStart s 1) hr (by decide) (xspiStart_barred rfl (by decide) (by decide) free firmware mode)⟩
  · exact ⟨_, rfl, gated_turned (k := fun s => xspiStart s 2) hr (by decide) (xspiStart_barred rfl (by decide) (by decide) free firmware mode)⟩

/-- An XSPI command is taken, with the job of its operation. -/
def XspiTaken (s : State) (i : Instr) (op : Nat) : Prop :=
  ∃ t, exec i s = .next t ∧ Accepted t ∧ t.boot = { s.boot with xspi := some (xspiJob s op) } ∧ rd t R.XSPI_STAT = 0x80000000 ∧
    SameRegs [R.XSPI_STAT] s t ∧ (SameBytes s t ∧ SamePoints s t)

section
variable (hr : Reaches s q 0x0D 0x54) (free : s.boot.store = none ∧ s.boot.xspi = none) (mode : serviceMode s = true)
include hr free mode

theorem xspiErase_taken (fits : XspiLegal s (xspiJob s 1)) : XspiTaken s (.xspiErase q) 1 :=
  job_taken (k := fun s => xspiStart s 1) hr rfl (xspiStart_taken rfl (by decide) free mode fits)

theorem xspiProgram_taken (fits : XspiLegal s (xspiJob s 2)) : XspiTaken s (.xspiProgram q) 2 :=
  job_taken (k := fun s => xspiStart s 2) hr rfl (xspiStart_taken rfl (by decide) free mode fits)

theorem xspiVerify_taken (fits : XspiLegal s (xspiJob s 3)) : XspiTaken s (.xspiVerify q) 3 :=
  job_taken (k := fun s => xspiStart s 3) hr rfl (xspiStart_taken rfl (by decide) free mode fits)

end

end

/-! ## An operation of the NOR ends -/

section
variable {s : State} {j : NorJob}

theorem rd_raise_ne (s : State) {page causes k : Nat} (isr : k ≠ R.PG_ISR page) (event : k ≠ R.EVT_PEND (page / 32)) :
    rd (raise s page causes) k = rd s k := (rd_evtLevel_ne _ event).trans (rd_wr_ne s _ isr)

theorem raise_isr (s : State) {page causes n : Nat} (hp : page < 0x100) (set : causes.testBit n = true) (hn : n < 32) :
    (rd (raise s page causes) (R.PG_ISR page)).getLsbD n = true := by
  have event : R.PG_ISR page ≠ R.EVT_PEND (page / 32) := regKey_ne_EVT_PEND page (by decide) (by omega)
  have isr : rd (raise s page causes) (R.PG_ISR page) = rd s (R.PG_ISR page) ||| BitVec.ofNat 32 causes :=
    (rd_evtLevel_ne _ event).trans (rd_wr_same _ _ _)
  rw [isr, BitVec.getLsbD_or, BitVec.getLsbD_ofNat, set]
  simp [hn]

/-- The end of an operation: its status word and its interrupt causes. -/
def jobEnded (s : State) (stat : Nat) (w : Word) (page causes : Nat) : State := raise (wr s stat w) page causes

theorem jobEnded_data (s : State) (stat : Nat) (w : Word) (page causes : Nat) :
    SameBytes s (jobEnded s stat w page causes) ∧ SamePoints s (jobEnded s stat w page causes) ∧ (jobEnded s stat w page causes).boot = s.boot := by
  have only : RegsAndEvents [stat, R.PG_ISR page] s (jobEnded s stat w page causes) :=
    ((onlyRegs_wr s _ (by simp)).regsAndEvents.trans (onlyRegs_wr _ _ (by simp)).regsAndEvents).trans (regsAndEvents_evtLevel _ _ page)
  obtain ⟨bytes, points⟩ := SameData.of_plantData (plantData_of_regsAndEvents only)
  exact ⟨bytes, points, by rw [only.rest]⟩

theorem bytesAt_setBoot (s : State) (b : Boot) (a n : Nat) : bytesAt (setBoot s b) a n = bytesAt s a n := bytesAt_congr fun _ _ _ => rfl

/-- The verdict on a store (R479). -/
def storeCode (s : State) (j : NorJob) : Code :=
  if j.op = 2 then .none else if patOk s j.src j.len = false then .auth
  else if (patHead s j.src).seq ≤ (rd s R.BOOT_PATSEQ).toNat then .sequence else .none

/-- The state with a store's bytes in the NOR and its job done with. -/
def storeWritten (s : State) (j : NorJob) : State :=
  setBoot (if storeCode s j = .none then storeNor s j.off (bytesAt s j.src j.len) else s) { s.boot with store := none }

theorem bootStoreComplete_ends (job : s.boot.store = some j) : exec .bootStoreComplete s =
    .next (jobEnded (storeWritten s j) R.BOOT_SSTAT (BitVec.ofNat 32 (codeNum (storeCode s j))) 0x02 (if storeCode s j = .none then 1 else 3)) := by
  refine congrArg Host.Outcome.next ?_
  have boot : (if storeCode s j = .none then storeNor s j.off (bytesAt s j.src j.len) else s).boot = s.boot := by
    split
    · exact (rangeWritten_storeNor s _ _).boot
    · rfl
  have code : (if j.op = 2 then .none else if (!patOk s j.src j.len) = true then .auth
      else if (patHead s j.src).seq ≤ (rd s R.BOOT_PATSEQ).toNat then .sequence else .none) = storeCode s j := by
    unfold storeCode
    cases patOk s j.src j.len <;> rfl
  unfold storeComplete
  rw [job]
  dsimp only
  rw [code]
  simp only [boot]
  rfl

theorem bootStoreComplete_stores (job : s.boot.store = some j) :
    let c := storeCode s j
    ∃ t, exec .bootStoreComplete s = .next t ∧ t.boot = { s.boot with store := none } ∧ rd t R.BOOT_SSTAT = BitVec.ofNat 32 (codeNum c) ∧
      (rd t (R.PG_ISR 0x02)).getLsbD 0 = true ∧ SamePoints s t ∧ (c ≠ .none → (rd t (R.PG_ISR 0x02)).getLsbD 1 = true ∧ SameBytes s t) ∧
      (c = .none → bytesAt t (norBase + j.off) j.len = bytesAt s j.src j.len ∧
        ∀ a, a < norBase + j.off ∨ norBase + j.off + (j.len + 4095) / 4096 * 4096 ≤ a → byteAt t a = byteAt s a) := by
  intro c
  obtain ⟨bytes, points, boot⟩ := jobEnded_data (storeWritten s j) R.BOOT_SSTAT (BitVec.ofNat 32 (codeNum c)) 0x02 (if c = .none then 1 else 3)
  have written := rangeWritten_storeNor s j.off (bytesAt s j.src j.len)
  refine ⟨_, bootStoreComplete_ends job, boot, ?_, raise_isr _ (by decide) (by split <;> rfl) (by decide), fun n => (points n).trans ?_,
    fun bad => ⟨?_, fun a => (bytes a).trans ?_⟩, fun good => ⟨?_, fun a out => (bytes a).trans ?_⟩⟩
  · exact (rd_raise_ne _ (by decide) (by decide)).trans (rd_wr_same _ _ _)
  · unfold storeWritten
    split
    · exact written.samePoints n
    · rfl
  · exact raise_isr _ (by decide) (by rw [if_neg bad]; rfl) (by decide)
  · rw [storeWritten, if_neg bad]
    rfl
  · have stored : bytesAt (storeWritten s j) (norBase + j.off) j.len = bytesAt s j.src j.len := by
      have back := bytesAt_storeNor s j.off (bytesAt s j.src j.len)
      rw [length_bytesAt] at back
      rw [storeWritten, if_pos good]
      exact (bytesAt_setBoot _ _ _ _).trans back
    exact (bytesAt_congr fun a _ _ => bytes a).trans stored
  · rw [storeWritten, if_pos good]
    refine written.bytes a ?_
    rwa [length_bytesAt]

/-! ## The end of an XSPI command (R481, R486) -/

/-- The status word of a command that has ended. -/
def xspiWord (differ ok : Bool) (sectors : Nat) : Word := BitVec.ofNat 32 (b2n differ * 2 ^ 30 + (if ok then 0 else 65536) + sectors % 65536)

theorem statusWord_fields {m c n : Nat} (hm : m < 2) (hc : c < 256) (hn : n < 65536) : let w := BitVec.ofNat 32 (m * 2 ^ 30 + c * 65536 + n)
    bits w 31 31 = 0 ∧ bits w 30 30 = m ∧ bits w 23 16 = c ∧ bits w 15 0 = n := by
  have word : (BitVec.ofNat 32 (m * 2 ^ 30 + c * 65536 + n)).toNat = m * 2 ^ 30 + c * 65536 + n := by
    rw [BitVec.toNat_ofNat]
    omega
  refine ⟨?_, ?_, ?_, ?_⟩ <;> rw [bits, natBits, word] <;> omega

theorem xspiWord_fields (differ ok : Bool) (sectors : Nat) : bits (xspiWord differ ok sectors) 31 31 = 0 ∧
    bits (xspiWord differ ok sectors) 30 30 = b2n differ ∧ bits (xspiWord differ ok sectors) 23 16 = codeNum (if ok then .none else .illegalValue) ∧
    bits (xspiWord differ ok sectors) 15 0 = sectors % 65536 := by
  have word : xspiWord differ ok sectors = BitVec.ofNat 32 (b2n differ * 2 ^ 30 + codeNum (if ok then .none else .illegalValue) * 65536 +
      sectors % 65536) := by cases ok <;> rfl
  rw [word]
  exact statusWord_fields (by cases differ <;> decide) (by cases ok <;> decide) (Nat.mod_lt _ (by decide))

/-- The bytes that a command which runs to its end leaves (R481). -/
def xspiBytes (s : State) (j : NorJob) : List Byte :=
  if j.op = 1 then List.replicate j.len 0xFF
  else List.zipWith (· &&& ·) (bytesAt s (norBase + j.off) j.len) (bytesAt s j.src j.len)

theorem length_xspiBytes (s : State) (j : NorJob) : (xspiBytes s j).length = j.len := by
  unfold xspiBytes
  split
  · exact List.length_replicate
  · rw [List.length_zipWith, length_bytesAt, length_bytesAt, min_self]

theorem xspiEffect_verify (verify : j.op = 3) (ok : Bool) : xspiEffect s j ok = s := if_pos verify

theorem xspiEffect_writes (write : j.op ≠ 3) (closed : flag s R.UPD_STAT F.UPD_STAT_JOPEN = false) :
    xspiEffect s j true = putBytes s (norBase + j.off) (xspiBytes s j) := by
  unfold xspiEffect xspiBytes
  rw [if_neg write, if_neg (by simp [closed]), if_neg (by decide)]
  split
  · rfl
  · rfl

theorem xspiEffect_torn (write : j.op ≠ 3) (closed : flag s R.UPD_STAT F.UPD_STAT_JOPEN = false) :
    xspiEffect s j false = tornNor s j.off j.len := by
  unfold xspiEffect
  rw [if_neg write, if_neg (by simp [closed]), if_pos (by decide)]

theorem rangeWritten_xspiEffect (write : j.op ≠ 3) (closed : flag s R.UPD_STAT F.UPD_STAT_JOPEN = false) (ok : Bool) :
    RangeWritten (norBase + j.off) (norBase + j.off + j.len) s (xspiEffect s j ok) := by
  cases ok with
  | true =>
    have written := rangeWritten_putBytes s (norBase + j.off) (xspiBytes s j)
    rw [xspiEffect_writes write closed]
    rwa [length_xspiBytes] at written
  | false =>
    rw [xspiEffect_torn write closed]
    exact rangeWritten_tornNor s _ _

/-- Whatever a command does to the NOR, it leaves the rest. -/
theorem norTorn_xspiEffect (s : State) (j : NorJob) (ok : Bool) : ∃ lo hi, RangeWritten lo hi s (xspiEffect s j ok) := by
  unfold xspiEffect
  split
  · exact ⟨0, 0, RangeWritten.refl _ _ s⟩
  · split
    · exact ⟨_, _, rangeWritten_tornNor s _ _⟩
    · split
      · exact ⟨_, _, rangeWritten_tornNor s _ _⟩
      · split
        · exact ⟨_, _, rangeWritten_fillBytes s _ _ _⟩
        · exact ⟨_, _, rangeWritten_putBytes s _ _⟩

/-- The state with an XSPI command's job done with. -/
def xspiFreed (s : State) : State := setBoot s { s.boot with xspi := none }

theorem xspiCommandComplete_ends (ok : Bool) (job : s.boot.xspi = some j) : exec (.xspiCommandComplete ok) s =
    .next (jobEnded (xspiEffect (xspiFreed s) j ok) R.XSPI_STAT
      (xspiWord (j.op == 3 && bytesAt s (norBase + j.off) j.len != bytesAt s j.src j.len) ok ((j.len + 4095) / 4096)) 0x0D (if ok then 1 else 3)) := by
  refine congrArg Host.Outcome.next ?_
  unfold xspiComplete
  rw [job]
  rfl

theorem xspiCommandComplete_runs (ok : Bool) (job : s.boot.xspi = some j) :
    let a := norBase + j.off
    ∃ t, exec (.xspiCommandComplete ok) s = .next t ∧ t.boot = { s.boot with xspi := none } ∧ (rd t (R.PG_ISR 0x0D)).getLsbD 0 = true ∧
      SamePoints s t ∧ flag t R.XSPI_STAT F.XSPI_STAT_BUSY = false ∧
      fld t R.XSPI_STAT F.XSPI_STAT_CODE = codeNum (if ok then .none else .illegalValue) ∧
      fld t R.XSPI_STAT F.XSPI_STAT_SECTORS = (j.len + 4095) / 4096 % 65536 ∧
      flag t R.XSPI_STAT F.XSPI_STAT_MISMATCH = (j.op == 3 && bytesAt s a j.len != bytesAt s j.src j.len) ∧
      (ok = false → (rd t (R.PG_ISR 0x0D)).getLsbD 1 = true) ∧ (j.op = 3 → SameBytes s t) ∧
      (j.op ≠ 3 → flag s R.UPD_STAT F.UPD_STAT_JOPEN = false → (∀ b, b < a ∨ a + j.len ≤ b → byteAt t b = byteAt s b) ∧
        (ok = true → bytesAt t a j.len = if j.op = 1 then List.replicate j.len 0xFF
          else List.zipWith (· &&& ·) (bytesAt s a j.len) (bytesAt s j.src j.len))) := by
  intro a
  have ends := xspiCommandComplete_ends ok job
  generalize hdiffer : (j.op == 3 && bytesAt s (norBase + j.off) j.len != bytesAt s j.src j.len) = differ at ends ⊢
  obtain ⟨busy, mismatch, code, sectors⟩ := xspiWord_fields differ ok ((j.len + 4095) / 4096)
  obtain ⟨bytes, points, boot⟩ := jobEnded_data (xspiEffect (xspiFreed s) j ok) R.XSPI_STAT (xspiWord differ ok ((j.len + 4095) / 4096)) 0x0D
    (if ok then 1 else 3)
  obtain ⟨lo, hi, effect⟩ := norTorn_xspiEffect (xspiFreed s) j ok
  have stat : rd (jobEnded (xspiEffect (xspiFreed s) j ok) R.XSPI_STAT (xspiWord differ ok ((j.len + 4095) / 4096)) 0x0D (if ok then 1 else 3))
      R.XSPI_STAT = xspiWord differ ok ((j.len + 4095) / 4096) := (rd_raise_ne _ (by decide) (by decide)).trans (rd_wr_same _ _ _)
  refine ⟨_, ends, boot.trans effect.boot, raise_isr _ (by decide) (by cases ok <;> rfl) (by decide), fun n => (points n).trans (effect.samePoints n),
    ?_, ?_, ?_, ?_, fun failed => raise_isr _ (by decide) (by rw [failed]; rfl) (by decide), fun verify b => (bytes b).trans ?_,
    fun write closed => ⟨fun b out => (bytes b).trans ?_, fun good => ?_⟩⟩
  · rw [flag, fld, stat]
    exact congrArg (· != 0) busy
  · rw [fld, stat]
    exact code
  · rw [fld, stat]
    exact sectors
  · rw [flag, fld, stat]
    refine (congrArg (· != 0) mismatch).trans ?_
    cases differ <;> rfl
  · rw [xspiEffect_verify verify]
    rfl
  · exact (rangeWritten_xspiEffect (s := xspiFreed s) write closed ok).bytes b out
  · refine (bytesAt_congr fun b _ _ => bytes b).trans ?_
    have back := bytesAt_putBytes_same (xspiFreed s) (xspiBytes (xspiFreed s) j) (a := a) (by unfold a norBase; omega)
    rw [length_xspiBytes] at back
    rw [good, xspiEffect_writes (s := xspiFreed s) write closed]
    refine back.trans ?_
    have free (b n : Nat) : bytesAt (xspiFreed s) b n = bytesAt s b n := bytesAt_congr fun _ _ _ => rfl
    rw [xspiBytes, free, free]

end

/-! ## The memory and the clocks (R482) -/

section
variable {s : State}

theorem mr4Poll_moves {m : Fin 3} (trained : flag s R.DDR_STAT F.DDR_STAT_TRAINED = true) (other : fld s R.DDR_STAT F.DDR_STAT_MULT ≠ 2 ^ m.val) :
    ∃ t, exec (.mr4Poll m) s = .next t ∧ fld t R.DDR_STAT F.DDR_STAT_MULT = 2 ^ m.val ∧ (rd t (R.PG_ISR 0x0C)).getLsbD 0 = true ∧
      RegsAndEvents [R.DDR_STAT, R.PG_ISR 0x0C] s t := by
  refine ⟨_, congrArg Host.Outcome.next (if_neg (by simp [trained, other])), ?_, raiseBit_isr_bit _ (by decide) (by decide), ?_⟩
  · rw [fld, rd_raiseBit_ne _ (by decide) (by decide)]
    refine (fld_setFld_same s R.DDR_STAT F.DDR_STAT_MULT _ (by decide) (by decide)).trans ?_
    exact (by decide : ∀ m : Fin 3, 2 ^ m.val % 2 ^ (2 + 1 - 0) = 2 ^ m.val) m
  · exact (onlyRegs_setFld s _ _ (by simp)).regsAndEvents.trans (regsAndEvents_raiseBit _ _ (by simp))

theorem mr4Poll_stays {m : Fin 3} (stays : flag s R.DDR_STAT F.DDR_STAT_TRAINED = false ∨ fld s R.DDR_STAT F.DDR_STAT_MULT = 2 ^ m.val) :
    exec (.mr4Poll m) s = .next s := congrArg Host.Outcome.next (if_pos (by simpa using stays))

theorem rd_setBit_bit (s : State) (k : Nat) {n : Nat} (b : Bool) (hn : n < 32) (m : Nat) :
    (rd (setBit s k n b) k).getLsbD m = if m = n then b else (rd s k).getLsbD m := by
  rw [setBit, rd_wr_same, withBits_getLsbD _ _ _ (Nat.le_refl n) hn]
  by_cases same : m = n
  · rw [if_pos (by omega), if_pos same, same, Nat.sub_self]
    cases b <;> rfl
  · rw [if_neg (by omega), if_neg same]

theorem pllRelock_locks {n : Fin 32} (powered : modeNow s ≠ 0) : ∃ t, exec (.pllRelock n) s = .next t ∧ (rd t R.CLK_LOCK).getLsbD n.val = true ∧
    t = { s with regs := t.regs } ∧ SameRegs [R.CLK_LOCK] s t ∧ ∀ m, m ≠ n.val → (rd t R.CLK_LOCK).getLsbD m = (rd s R.CLK_LOCK).getLsbD m := by
  refine ⟨setBit s R.CLK_LOCK n true, congrArg Host.Outcome.next (if_neg powered), ?_, rfl, fun k out => rd_setBit_ne s _ _ ?_, fun m other => ?_⟩
  · rw [rd_setBit_bit _ _ _ n.isLt, if_pos rfl]
  · exact fun e => out (e ▸ List.mem_cons_self)
  · rw [rd_setBit_bit _ _ _ n.isLt, if_neg other]

/-- The registers of a lost lock, before its event. -/
def lockLost (s : State) (n : Nat) : State := bumpSat (setBit (setBit s R.CLK_LOCK n false) R.CLK_UNLOCK n true) R.CLK_LOSSCNT 1

theorem onlyRegs_lockLost (s : State) (n : Nat) : OnlyRegs [R.CLK_LOCK, R.CLK_UNLOCK, R.CLK_LOSSCNT, R.PG_ISR 0x03] s (lockLost s n) :=
  ((onlyRegs_wr s _ (by simp)).trans (onlyRegs_wr _ _ (by simp))).trans (onlyRegs_wr _ _ (by simp))

theorem rd_lockLost (s : State) {n : Nat} (hn : n < 32) : (rd (lockLost s n) R.CLK_LOCK).getLsbD n = false ∧
    (rd (lockLost s n) R.CLK_UNLOCK).getLsbD n = true ∧ (rd (lockLost s n) R.CLK_LOSSCNT).toNat = min 0xFFFFFFFF ((rd s R.CLK_LOSSCNT).toNat + 1) := by
  refine ⟨?_, ?_, ?_⟩
  · rw [lockLost, bumpSat, rd_wr_ne _ _ (by decide), rd_setBit_ne _ _ _ (by decide), rd_setBit_bit _ _ _ hn, if_pos rfl]
  · rw [lockLost, bumpSat, rd_wr_ne _ _ (by decide), rd_setBit_bit _ _ _ hn, if_pos rfl]
  · rw [lockLost, rd_bumpSat_one, rd_setBit_ne _ _ _ (by decide), rd_setBit_ne _ _ _ (by decide)]

theorem pllLockLoss_counts {n : Fin 32} (runs : islandRuns s n.val = true) : ∃ t, exec (.pllLockLoss n) s = .next t ∧
    (rd t R.CLK_LOCK).getLsbD n.val = false ∧ (rd t R.CLK_UNLOCK).getLsbD n.val = true ∧
    (rd t R.CLK_LOSSCNT).toNat = min 0xFFFFFFFF ((rd s R.CLK_LOSSCNT).toNat + 1) ∧ (rd t (R.PG_ISR 0x03)).getLsbD 0 = true ∧
    RegsAndEvents [R.CLK_LOCK, R.CLK_UNLOCK, R.CLK_LOSSCNT, R.PG_ISR 0x03] s t := by
  obtain ⟨lock, unlock, count⟩ := rd_lockLost s n.isLt
  refine ⟨raiseBit (lockLost s n) 0x03 0, congrArg Host.Outcome.next (if_neg (by simp [runs])), ?_, ?_, ?_,
    raiseBit_isr_bit _ (by decide) (by decide), (onlyRegs_lockLost s n).regsAndEvents.trans (regsAndEvents_raiseBit _ _ (by simp))⟩
  all_goals rwa [rd_raiseBit_ne _ (by decide) (by decide)]

end

end Sys2Proof.Machine
end

section
/-! SUPPORT. O58 settled: modes, power domains, resets and the NOR (R456 to R486). -/

namespace Sys2Proof.Machine

open Sys2Proof.Safety

/-! ## The clauses of the NOR's commands, put together -/

section
variable {s : State} {q : Requester}

theorem xspi_legal {op : Nat} (row : xspiRow s (xspiJob s op).off (xspiJob s op).len = 3 ∨
      (xspiRow s (xspiJob s op).off (xspiJob s op).len = 1 ∧ modeNow s = mdCOMMISSION)) (len : (xspiJob s op).len ≠ 0)
    (erase : op = 1 → (xspiJob s op).off % 4096 = 0 ∧ (xspiJob s op).len % 4096 = 0)
    (other : op ≠ 1 → (xspiJob s op).off % 256 = 0 ∧ (xspiJob s op).len % 256 = 0 ∧ inDram s (xspiJob s op).src (xspiJob s op).len = true) :
    XspiLegal s (xspiJob s op) :=
  ⟨len, fun _ => row, fun none => by obtain h | ⟨h, -⟩ := row <;> exact absurd (none.symm.trans h) (by decide), erase, other⟩

end

/-- Settles O58. BUSY before the transition check and the mode code 0 are the model's reading (log 29), the ten counts of TB_SLEW in a tick
rest on log 44, the domains' offers on log 47, and the suspension that outlives a reset on R354 (DEDUCED). -/
theorem modesPowerResetsAndNor : Obligations.ModesPowerResetsAndNor := by
  unfold Obligations.ModesPowerResetsAndNor
  intro s isr same pend req quiet
  refine ⟨fun held => congrArg Host.Outcome.next (if_pos held), tickBoundary_goesOn, modeChange_idle,
    fun powered calm i mem => ⟨boundary_wakes powered calm mem, boundary_changes powered calm mem, boundary_refuses powered calm mem⟩,
    fun q v hr small => ⟨modeRequest_unknown hr small, modeRequest_busy hr small, modeRequest_barred hr small, modeRequest_taken hr small⟩,
    fun d => ⟨domainStateChange_stays, domainStateChange_chooses, domainPrewake_stays, domainPrewake_begins, domainExitComplete_stays,
      domainExitComplete_ends⟩,
    fun c => ?_, fun p => watcherResets,
    fun q hr awake due => ⟨fun p => sysCommands_reset hr awake due, fun key wrong i => sysCommands_rejected hr awake due wrong⟩,
    powerOnReset_boots s, fun rail ms => ⟨supplyGood_noted ms, fun waits => supplyGood_waits ms waits.1 waits.2⟩, supplyFail_holds s,
    fun q hr => ⟨fun mode i => bootStores_outside hr mode, fun mode busy i => bootStores_busy hr mode busy, ?_, ?_⟩,
    fun idle => ?_, fun j => bootStoreComplete_stores, fun q hr => ⟨fun busy i => xspiCommands_busy hr busy, ?_, ?_, ?_⟩,
    fun ok idle => ?_, fun j ok => xspiCommandComplete_runs ok, fun m => ⟨mr4Poll_stays, mr4Poll_moves⟩,
    fun n => ⟨fun idle => congrArg Host.Outcome.next (if_pos (by simp [idle])), pllLockLoss_counts,
      fun held => congrArg Host.Outcome.next (if_pos held), pllRelock_locks⟩⟩
  · obtain ⟨now, points, forces, moulds, slots, locks, bar⟩ := moduleReset_clears s c
    obtain ⟨otp, nvr, scan, store, resets, pending⟩ := moduleReset_keeps s c
    exact ⟨now, points, forces, moulds, slots, locks, bar, otp, nvr, scan, store, resets, pending, rstcause_moduleReset s c, pfwst_moduleReset s,
      fun k => backup_moduleReset s c, fun k => others_moduleReset s c, susp_moduleReset s c, fun wf update recovery stores xspi a =>
        nor_moduleReset c wf (interruptNor_idle update recovery stores xspi)⟩
  · exact fun mode free dram low high => job_taken (k := fun s => storeStart s 1) hr rfl (storeStart_pattern mode free.1 free.2 dram low high)
  · exact fun mode free dram low sector blobs fits =>
      job_taken (k := fun s => storeStart s 2) hr rfl (storeStart_blob mode free.1 free.2 dram low sector blobs fits)
  · refine congrArg Host.Outcome.next ?_
    unfold storeComplete
    rw [idle]
  · intro free mode row len
    exact ⟨fun off sectors => xspiErase_taken hr free mode (xspi_legal row len (fun _ => ⟨off, sectors⟩) (fun other => absurd rfl other)),
      fun off pages dram => xspiProgram_taken hr free mode (xspi_legal row len nofun fun _ => ⟨off, pages, dram⟩)⟩
  · exact fun free mode row len off pages dram =>
      xspiVerify_taken hr free mode ⟨len, fun write => absurd rfl write, row, nofun, fun _ => ⟨off, pages, dram⟩⟩
  · exact fun free _ firmware mode i => xspiCommands_barred hr free firmware mode
  · refine congrArg Host.Outcome.next ?_
    unfold xspiComplete
    rw [idle]

end Sys2Proof.Machine
end

section
/-! SUPPORT. O55 refuted: a transfer out of the NVR (R379, R484). -/

namespace Sys2Proof.Machine

open Sys2Proof.Safety

/-- A transfer of one byte from the key store's range of the NVR to SRAM. -/
def keyStoreJob : LadleJob := { addr := 0, ctrl := 0, len := 1, src := 0x20040000, dst := 0x10000000, next := 0 }

/-- Lite channel 0 has that transfer in hand, and the byte store holds 5 at its source. -/
def keyStoreMove : State := { State.reset with mem := [(0x20040000, 5)], ladle := [(16, { job := some keyStoreJob })] }

/-- The transfer meets every premise of the statement's clause. -/
theorem keyStoreMove_ready :
    (ladleAt keyStoreMove 16).job = some keyStoreJob ∧ moving keyStoreMove 16 = true ∧ jobSrcQ keyStoreJob = false ∧ jobDstQ keyStoreJob = false ∧
    (ladleAt keyStoreMove 16).ended = false ∧ (ladleAt keyStoreMove 16).done = 0 ∧
    rangeCode keyStoreMove (ladleFlask keyStoreMove 16) 0x20040000 1 false = .none ∧
    rangeCode keyStoreMove (ladleFlask keyStoreMove 16) 0x10000000 1 true = .none ∧ decodeError keyStoreMove 0x20040000 1 false = false ∧
    decodeError keyStoreMove 0x10000000 1 true = false := by
  decide +kernel

/-- The key store reads as 00h, whatever the byte store holds there (R484). -/
theorem keyStoreMove_moves : bytesAt (ladleTransaction keyStoreMove 16 1) 0x10000000 1 = [0] ∧ bytesAt keyStoreMove 0x20040000 1 = [5] := by
  decide +kernel

/-- Refutes O55: the clause of a transaction asks for the bytes of the byte store at the source, but a read of the NVR does not give those: in the
key store's range it gives 00h (R484). `keyStoreMove` moves 00h where the byte store holds 5. -/
theorem not_channelsMoveAndQueuesDeliver : ¬ Obligations.ChannelsMoveAndQueuesDeliver := by
  unfold Obligations.ChannelsMoveAndQueuesDeliver
  intro h
  obtain ⟨-, transaction, -⟩ := h keyStoreMove
  obtain ⟨job, moves, srcQ, dstQ, going, start, readable, writable, mapped, mapped'⟩ := keyStoreMove_ready
  obtain ⟨t, run, moved, -⟩ := transaction 16 1 keyStoreJob job moves srcQ dstQ going (by decide +kernel) rfl rfl rfl rfl readable writable mapped mapped'
    (by decide)
  obtain ⟨zero, five⟩ := keyStoreMove_moves
  have ran : t = ladleTransaction keyStoreMove 16 1 := (Host.Outcome.next.inj run).symm
  rw [ran] at moved
  exact absurd (zero.symm.trans (moved.trans five)) (by decide)

end Sys2Proof.Machine
end

section
/-! SUPPORT. O56: what the key slots hold after a flush, a creation and a purge (R404, R405, R418). -/

namespace Sys2Proof.Machine

open Sys2Proof.Safety

/-! ## One slot -/

section
variable {s t u : State} {n : Nat}

theorem slotAt_setSlot_same (s : State) (n : Nat) (x : KeySlot) : slotAt (setSlot s n x) n = x := tget_tput_same _ _ _

theorem slotAt_setSlot_ne (s : State) {m n : Nat} (x : KeySlot) (other : m ≠ n) : slotAt (setSlot s n x) m = slotAt s m := tget_tput_ne _ _ other

theorem slots_saveSlot (s : State) (n : Nat) : (saveSlot s n).slots = s.slots := by
  unfold saveSlot
  dsimp only
  split
  · rfl
  · rfl

theorem slotAt_saveSlot (s : State) (m n : Nat) : slotAt (saveSlot s m) n = slotAt s n := congrArg (tget _ · n) (slots_saveSlot s m)

theorem slotAt_refill_same (s : State) (n : Nat) (x : KeySlot) : slotAt (refill s n x) n = { x with gen := (slotAt s n).gen + 1 } :=
  (slotAt_saveSlot _ n n).trans (slotAt_setSlot_same s n _)

theorem slotAt_refill_ne (s : State) {m n : Nat} (x : KeySlot) (other : m ≠ n) : slotAt (refill s n x) m = slotAt s m :=
  (slotAt_saveSlot _ n m).trans (slotAt_setSlot_ne s _ other)

/-- A slot holds a key. -/
abbrev filled (s : State) (n : Nat) : Bool := attrValid (slotAt s n).attr

theorem filled_refill_empty (s : State) (n : Nat) : filled (refill s n {}) n = false := by
  rw [filled, slotAt_refill_same]
  exact (by decide : attrValid 0 = false)

/-! ## Slots that have been emptied -/

/-- Slots have been emptied, and the others are as they were. -/
structure Emptied (s t : State) : Prop where
  keys : KeysUpdated s t
  slots : ∀ n, slotAt t n = slotAt s n ∨ filled t n = false

theorem Emptied.refl (s : State) : Emptied s s := ⟨KeysUpdated.refl s, fun _ => .inl rfl⟩

theorem Emptied.kept (h : Emptied s t) (full : filled t n = true) : slotAt t n = slotAt s n :=
  (h.slots n).resolve_right fun e => absurd (e.symm.trans full) (by decide)

theorem Emptied.empty (h : Emptied s t) (out : filled s n = false) : filled t n = false := by
  obtain same | gone := h.slots n
  · rwa [filled, same]
  · exact gone

theorem Emptied.trans (h : Emptied s t) (k : Emptied t u) : Emptied s u := by
  refine ⟨h.keys.trans k.keys, fun n => ?_⟩
  obtain same | gone := k.slots n
  · rw [filled, same]
    exact h.slots n
  · exact .inr gone

theorem emptied_refill (s : State) (n : Nat) : Emptied s (refill s n {}) := by
  refine ⟨keysUpdated_refill s n {}, fun m => ?_⟩
  by_cases here : m = n
  · rw [here]
    exact .inr (filled_refill_empty s n)
  · exact .inl (slotAt_refill_ne s {} here)

theorem emptied_forAll {f : State → Nat → State} {l : List Nat} (hf : ∀ u, ∀ a ∈ l, Emptied u (f u a)) (s : State) : Emptied s (forAll f l s) := by
  induction l generalizing s with
  | nil => exact Emptied.refl s
  | cons a l ih =>
    exact (hf s a List.mem_cons_self).trans (ih (fun u b mem => hf u b (List.mem_cons_of_mem a mem)) (f s a))

theorem emptied_emptySlot (k : Nat) (s : State) (n : Nat) : Emptied s (emptySlot k s n) := by
  induction k generalizing s n with
  | zero => exact emptied_refill s n
  | succ k ih =>
    unfold emptySlot
    dsimp only
    split
    · exact (emptied_forAll (fun u c _ => ih u c) s).trans (emptied_refill _ n)
    · exact emptied_refill s n

theorem filled_flushSlot (s : State) (n : Nat) : filled (flushSlot s n) n = false := by
  show filled (emptySlot 9 s n) n = false
  unfold emptySlot
  exact filled_refill_empty _ n

/-- One step of a flush of the slots that a condition names. -/
def flushStep (p : State → Nat → Bool) (s : State) (n : Nat) : State := if p s n then flushSlot s n else s

theorem flushWhere_eq (s : State) (p : State → Nat → Bool) : flushWhere s p = forAll (flushStep p) (upTo 256) s := rfl

theorem emptied_flushStep (p : State → Nat → Bool) (s : State) (n : Nat) : Emptied s (flushStep p s n) := by
  unfold flushStep
  split
  · exact emptied_emptySlot 9 s n
  · exact Emptied.refl s

theorem emptied_flushWhere (s : State) (p : State → Nat → Bool) : Emptied s (flushWhere s p) := emptied_forAll (fun u n _ => emptied_flushStep p u n) s

/-- A flush empties the slots that its condition still names when their turn comes. -/
theorem flushSteps_empty {p : State → Nat → Bool} {l : List Nat} {i : Nat} (mem : i ∈ l)
    (named : ∀ u, Emptied s u → filled u i = true → p u i = true) : filled (forAll (flushStep p) l s) i = false := by
  induction l generalizing s with
  | nil => cases mem
  | cons a l ih =>
    have first := emptied_flushStep p s a
    by_cases here : i = a
    · have rest : Emptied (flushStep p s a) (forAll (flushStep p) (a :: l) s) := emptied_forAll (fun u n _ => emptied_flushStep p u n) _
      refine rest.empty ?_
      rw [← here]
      cases full : filled s i with
      | true =>
        rw [flushStep, if_pos (named s (Emptied.refl s) full)]
        exact filled_flushSlot s i
      | false => exact (emptied_flushStep p s i).empty full
    · exact ih ((List.mem_cons.mp mem).resolve_left here) fun u emptied => named u (first.trans emptied)

theorem flushWhere_empty {p : State → Nat → Bool} {i : Nat} (small : i < 256) (named : ∀ u, Emptied s u → filled u i = true → p u i = true) :
    filled (flushWhere s p) i = false := flushSteps_empty (List.mem_range.mpr small) named

end

/-! ## LIVE keys (R404) -/

section
variable {s t u : State} {k n : Nat}

theorem liveFrom_succ (s : State) (k n : Nat) : liveFrom s (k + 1) n = true ↔ filled s n = true ∧
    (if n = 0 then flag s R.CRU_STAT F.CRU_STAT_SEALED = false
     else (slotAt s (attrParent (slotAt s n).attr)).gen = (slotAt s n).pgen ∧ liveFrom s k (attrParent (slotAt s n).attr) = true) := by
  rw [liveFrom]
  cases full : filled s n with
  | false => simp [show attrValid (slotAt s n).attr = false from full]
  | true =>
    rw [show attrValid (slotAt s n).attr = true from full]
    by_cases root : n = 0 <;> simp [root]

theorem filled_of_liveFrom (live : liveFrom s k n = true) : filled s n = true := by
  cases k with
  | zero => cases live
  | succ k => exact ((liveFrom_succ s k n).mp live).1

/-- A key that is LIVE within fewer ancestors is LIVE within more. -/
theorem liveFrom_mono {j : Nat} (live : liveFrom s k n = true) (le : k ≤ j) : liveFrom s j n = true := by
  induction k generalizing n j with
  | zero => cases live
  | succ k ih =>
    obtain ⟨i, rfl⟩ : ∃ i, j = i + 1 := ⟨j - 1, by omega⟩
    rw [liveFrom_succ] at live ⊢
    obtain ⟨full, rest⟩ := live
    refine ⟨full, ?_⟩
    split
    next root => rwa [if_pos root] at rest
    next child =>
      rw [if_neg child] at rest
      exact ⟨rest.1, ih rest.2 (by omega)⟩

/-- The seal of the Crucible is the same. -/
theorem KeysUpdated.sealed (h : KeysUpdated s t) : flag t R.CRU_STAT F.CRU_STAT_SEALED = flag s R.CRU_STAT F.CRU_STAT_SEALED := by
  rw [flag, fld, h.rd]
  rfl

/-- Emptying slots makes no key LIVE. -/
theorem Emptied.liveFrom (h : Emptied s t) (live : liveFrom t k n = true) : Machine.liveFrom s k n = true := by
  induction k generalizing n with
  | zero => cases live
  | succ k ih =>
    rw [liveFrom_succ] at live ⊢
    obtain ⟨full, rest⟩ := live
    have same := h.kept full
    rw [filled, same] at full
    refine ⟨full, ?_⟩
    split
    next root =>
      rw [if_pos root, h.keys.sealed] at rest
      exact rest
    next child =>
      rw [if_neg child, same] at rest
      obtain ⟨gen, parent⟩ := rest
      rw [h.kept (filled_of_liveFrom parent)] at gen
      exact ⟨gen, ih parent⟩

/-- Slots have been emptied, but no LIVE one. -/
structure Purged (s t : State) : Prop where
  emptied : Emptied s t
  live : ∀ n, keyLive s n = true → slotAt t n = slotAt s n

theorem Purged.refl (s : State) : Purged s s := ⟨Emptied.refl s, fun _ _ => rfl⟩

/-- LIVE keys stay LIVE when no LIVE slot is touched. -/
theorem Purged.liveFrom (h : Purged s t) (le : k ≤ 9) (live : Machine.liveFrom s k n = true) : Machine.liveFrom t k n = true := by
  induction k generalizing n with
  | zero => cases live
  | succ k ih =>
    have same := h.live n (liveFrom_mono live le)
    rw [liveFrom_succ] at live ⊢
    obtain ⟨full, rest⟩ := live
    rw [filled, same]
    refine ⟨full, ?_⟩
    split
    next root =>
      rw [if_pos root, ← h.emptied.keys.sealed] at rest
      exact rest
    next child =>
      rw [if_neg child] at rest
      obtain ⟨gen, parent⟩ := rest
      rw [h.live _ (liveFrom_mono parent (by omega))]
      exact ⟨gen, ih (by omega) parent⟩

theorem Purged.keyLive (h : Purged s t) (n : Nat) : keyLive t n = Machine.keyLive s n :=
  Bool.eq_iff_iff.mpr ⟨fun live => h.emptied.liveFrom live, fun live => h.liveFrom (Nat.le_refl 9) live⟩

theorem purged_refill (h : Purged s u) (dead : keyLive s n = false) : Purged s (refill u n {}) := by
  refine ⟨h.emptied.trans (emptied_refill u n), fun m live => ?_⟩
  have other : m ≠ n := fun e => absurd (dead.symm.trans (e ▸ live)) (by decide)
  exact (slotAt_refill_ne u {} other).trans (h.live m live)

/-- The slots that name a slot without a LIVE key are not LIVE either. -/
theorem child_dead (h : Purged s u) (root : attrParent (slotAt s 0).attr = 0) (dead : keyLive s n = false) {c : Nat} (mem : c ∈ childrenOf u n) :
    keyLive s c = false := by
  rw [childrenOf, List.mem_filter] at mem
  simp only [Bool.and_eq_true, bne_iff_ne, beq_iff_eq] at mem
  obtain ⟨-, ⟨other, -⟩, parent⟩ := mem
  rw [← Bool.not_eq_true]
  intro live
  rw [h.live c live] at parent
  by_cases zero : c = 0
  · rw [zero, root] at parent
    exact other (zero.trans parent)
  · obtain ⟨-, up⟩ := (liveFrom_succ s 8 c).mp live
    rw [if_neg zero, parent] at up
    exact absurd (dead.symm.trans (liveFrom_mono up.2 (by decide : 8 ≤ 9))) (by decide)

theorem purged_emptySlot (root : attrParent (slotAt s 0).attr = 0) (k : Nat) (h : Purged s u) (dead : keyLive s n = false) :
    Purged s (emptySlot k u n) := by
  induction k generalizing u n with
  | zero => exact purged_refill h dead
  | succ k ih =>
    unfold emptySlot
    dsimp only
    split
    · have children : ∀ l : List Nat, (∀ c ∈ l, keyLive s c = false) → ∀ u, Purged s u → Purged s (forAll (fun s c => emptySlot k s c) l u) := by
        intro l
        induction l with
        | nil => exact fun _ u h => h
        | cons c l ihl =>
          exact fun all u h => ihl (fun d mem => all d (List.mem_cons_of_mem c mem)) _ (ih h (all c List.mem_cons_self))
      exact purged_refill (children _ (fun c mem => child_dead h root dead mem) u h) dead
    · exact purged_refill h dead

/-- PURGE's condition: a key that is not LIVE. -/
def orphan (s : State) (n : Nat) : Bool := attrValid (slotAt s n).attr && !keyLive s n

theorem purged_orphans (root : attrParent (slotAt s 0).attr = 0) (l : List Nat) (h : Purged s u) : Purged s (forAll (flushStep orphan) l u) := by
  induction l generalizing u with
  | nil => exact h
  | cons n l ih =>
    refine ih ?_
    unfold flushStep
    split
    next dead =>
      rw [orphan, Bool.and_eq_true, Bool.not_eq_true', h.keyLive] at dead
      exact purged_emptySlot root 9 h dead.2
    next => exact h

/-- PURGE empties the slots without a LIVE key, and no other (R418). -/
theorem flushOrphans_purges (root : attrParent (slotAt s 0).attr = 0) {n : Nat} (small : n < 256) :
    (keyLive s n = true → slotAt (flushWhere s orphan) n = slotAt s n) ∧ (keyLive s n = false → filled (flushWhere s orphan) n = false) := by
  refine ⟨(purged_orphans root (upTo 256) (Purged.refl s)).live n, fun dead => flushWhere_empty small fun u emptied full => ?_⟩
  have still : keyLive u n = false := by
    rw [← Bool.not_eq_true]
    exact fun live => absurd (dead.symm.trans (emptied.liveFrom live)) (by decide)
  rw [orphan, still, show attrValid (slotAt u n).attr = true from full]
  rfl

end

/-! ## Creation -/

/-- A create command puts its key in its slot, with the next GEN; a GEN that does not wrap touches no other slot (R405). -/
theorem slotAt_createSlot {s : State} {n : Nat} (room : (slotAt s n).gen ≠ 0xFFFF) (x : KeySlot) :
    slotAt (createSlot s n x) n = { x with gen := (slotAt s n).gen + 1 } ∧ ∀ m, m ≠ n → slotAt (createSlot s n x) m = slotAt s m := by
  have plain : createSlot s n x = refill s n x := by
    unfold createSlot
    rw [if_neg room]
  rw [plain]
  exact ⟨slotAt_refill_same s n x, fun m other => slotAt_refill_ne s x other⟩

end Sys2Proof.Machine
end

section
/-! SUPPORT. O56: how commands and jobs begin and end (R417, R418, R422, R423). -/

namespace Sys2Proof.Machine

open Sys2Proof.Safety

/-! ## Operations that end -/

/-- Crucible commands and jobs have ended: of the registers, their own two pages and the event matrix may have moved, but not CRU_STAT. -/
structure OpsEnded (s t : State) : Prop where
  rest : t = { s with regs := t.regs, exiting := t.exiting, evtTarget := t.evtTarget, answer := t.answer, mem := t.mem, xch := t.xch,
                      twin := { s.twin with config := t.twin.config }
                      crypto := { s.crypto with cru := t.crypto.cru, cry := t.crypto.cry } }
  stat : rd t R.CRU_STAT = rd s R.CRU_STAT
  pages : ∀ k, keyPage k ∈ [0x00, 0x01, 0x05, 0xA0] → rd t k = rd s k

section
variable {s t u : State}

theorem OpsEnded.refl (s : State) : OpsEnded s s := ⟨rfl, rfl, fun _ _ => rfl⟩

theorem OpsEnded.trans (h : OpsEnded s t) (k : OpsEnded t u) : OpsEnded s u where
  rest := by conv_lhs => rw [k.rest, h.rest]
  stat := k.stat.trans h.stat
  pages n page := (k.pages n page).trans (h.pages n page)

theorem opsEnded_ite {c : Prop} [Decidable c] (h : OpsEnded s t) (k : OpsEnded s u) : OpsEnded s (if c then t else u) := by
  split
  · exact h
  · exact k

theorem OpsEnded.slots (h : OpsEnded s t) : t.slots = s.slots := by rw [h.rest]
theorem OpsEnded.slotAt (h : OpsEnded s t) (n : Nat) : slotAt t n = Machine.slotAt s n := congrArg (tget _ · n) h.slots
theorem OpsEnded.otp (h : OpsEnded s t) : t.otp = s.otp := by rw [h.rest]
theorem OpsEnded.store (h : OpsEnded s t) : t.crypto.store = s.crypto.store := by rw [h.rest]
theorem OpsEnded.erasePend (h : OpsEnded s t) : t.crypto.erasePend = s.crypto.erasePend := by rw [h.rest]
theorem OpsEnded.nonce (h : OpsEnded s t) : t.crypto.nonce = s.crypto.nonce := by rw [h.rest]
theorem OpsEnded.samePoints (h : OpsEnded s t) : SamePoints s t := samePoints_of_points (by rw [h.rest])
theorem OpsEnded.fld (h : OpsEnded s t) {k : Nat} (page : keyPage k ∈ [0x00, 0x01, 0x05, 0xA0]) (f : Fld) : fld t k f = Machine.fld s k f :=
  congrArg (bits · f.hi f.lo) (h.pages k page)

theorem opsEnded_wr (s : State) {k : Nat} (v : Word) (stat : k ≠ R.CRU_STAT) (page : keyPage k ∉ [0x00, 0x01, 0x05, 0xA0]) : OpsEnded s (wr s k v) :=
  ⟨rfl, rd_wr_ne s v stat.symm, fun _ inside => rd_wr_ne s v fun e => page (e ▸ inside)⟩

theorem opsEnded_raise (s : State) {page : Nat} (causes : Nat) (crypto : page = 0x90 ∨ page = 0x91) : OpsEnded s (raise s page causes) := by
  have event : RegsAndEvents [R.PG_ISR page] s (raise s page causes) :=
    (onlyRegs_wr s _ List.mem_cons_self).regsAndEvents.trans (regsAndEvents_evtLevel _ _ page)
  have keys {k : Nat} (isr : k ≠ R.PG_ISR page) (pend : k ≠ R.EVT_PEND (page / 32)) : rd (raise s page causes) k = rd s k := rd_raise_ne s isr pend
  have crypto' : (raise s page causes).crypto = s.crypto := raise_crypto s page causes
  refine ⟨?_, keys ?_ ?_, fun k inside => keys (fun e => ?_) fun e => ?_⟩
  · conv_lhs => rw [event.rest]
    rw [crypto']
    conv_rhs => rw [event.rest]
  · obtain rfl | rfl := crypto <;> decide
  · obtain rfl | rfl := crypto <;> decide
  · rw [e, keyPage_PG_ISR (by omega)] at inside
    obtain rfl | rfl := crypto <;> exact absurd inside (by decide)
  · rw [e, keyPage_EVT_PEND (by omega)] at inside
    exact absurd inside (by decide)

theorem opsEnded_fillBytes (s : State) (a n : Nat) (v : Byte) : OpsEnded s (fillBytes s a n v) := by
  have written := rangeWritten_fillBytes s a n v
  refine ⟨?_, written.rd _, fun k _ => written.rd k⟩
  have norGen : (fillBytes s a n v).norGen = s.norGen := putBytes_norGen s a _
  conv_lhs => rw [written.rest, norGen]
  rw [written.rest]

/-- The Crucible's command is done with. -/
def cruFreed (s : State) : State := setCrypto s { s.crypto with cru := none }

/-- The job is done with. -/
def cryFreed (s : State) : State := setCrypto s { s.crypto with cry := none }

theorem opsEnded_cruFreed (s : State) : OpsEnded s (cruFreed s) := ⟨rfl, rfl, fun _ _ => rfl⟩
theorem opsEnded_cryFreed (s : State) : OpsEnded s (cryFreed s) := ⟨rfl, rfl, fun _ _ => rfl⟩

theorem opsEnded_cruEnd (s : State) (c : Code) : OpsEnded s (cruEnd s c) :=
  (((opsEnded_cruFreed s).trans (opsEnded_wr _ _ (by decide) (by decide))).trans (opsEnded_wr _ _ (by decide) (by decide))).trans
    (opsEnded_raise _ _ (.inl rfl))

theorem opsEnded_cryEnd (s : State) (c : Code) (pass : Bool) : OpsEnded s (cryEnd s c pass) :=
  ((opsEnded_cryFreed s).trans (opsEnded_wr _ _ (by decide) (by decide))).trans (opsEnded_raise _ _ (.inr rfl))

theorem opsEnded_stopCru (s : State) (c : Code) : OpsEnded s (stopCru s c) := by
  unfold stopCru
  split
  · exact (opsEnded_ite (opsEnded_fillBytes s _ _ _) (OpsEnded.refl s)).trans (opsEnded_cruEnd _ _)
  · exact OpsEnded.refl s

theorem opsEnded_stopCry (s : State) (c : Code) : OpsEnded s (stopCry s c) := by
  unfold stopCry
  split
  · exact OpsEnded.trans (opsEnded_ite (OpsEnded.refl s) (opsEnded_fillBytes s _ _ _)) (opsEnded_cryEnd _ _ _)
  · exact OpsEnded.refl s

/-- The Recast check is aborted. -/
def checkAborted (s : State) : State := { s with xch := { s.xch with aborted := true } }

theorem opsEnded_abortOps (s : State) : OpsEnded s (abortOps s) := by
  have aborted (u : State) : OpsEnded u (checkAborted u) := ⟨rfl, rfl, fun _ _ => rfl⟩
  exact ((opsEnded_stopCru s _).trans (opsEnded_stopCry _ _)).trans (opsEnded_ite (aborted _) (OpsEnded.refl _))

/-- Settling ends operations, and does nothing else. -/
theorem opsEnded_settleOps (s : State) : OpsEnded s (settleOps s) := by
  have orphanedCru (u : State) : OpsEnded u (raiseBit (stopCru u .orphaned) 0x90 1) := (opsEnded_stopCru u _).trans (opsEnded_raise _ _ (.inl rfl))
  have orphanedCry (u : State) : OpsEnded u (raiseBit (stopCry u .orphaned) 0x90 1) := (opsEnded_stopCry u _).trans (opsEnded_raise _ _ (.inl rfl))
  have first : OpsEnded s (match s.crypto.cru with
      | some j => if (cruKeys j).all (keyLive s) then s else raiseBit (stopCru s .orphaned) 0x90 1
      | none => s) := by
    split
    · exact opsEnded_ite (OpsEnded.refl s) (orphanedCru s)
    · exact OpsEnded.refl s
  have second (u : State) : OpsEnded u (match u.crypto.cry with
      | some j => if decide (11 ≤ j.op) || keyLive u j.slot then u else raiseBit (stopCry u .orphaned) 0x90 1
      | none => u) := by
    split
    · exact opsEnded_ite (OpsEnded.refl u) (orphanedCry u)
    · exact OpsEnded.refl u
  exact first.trans (second _)

/-- Operations whose keys are LIVE go on. -/
theorem settleOps_lives (keys : ∀ j, s.crypto.cru = some j → (cruKeys j).all (keyLive s) = true) (idle : s.crypto.cry = none) : settleOps s = s := by
  unfold settleOps
  split
  next j job =>
    rw [if_pos (keys j job)]
    dsimp only
    rw [idle]
  next =>
    dsimp only
    rw [idle]

end

/-! ## What an end shows -/

section
variable {s : State}

theorem cruEnd_shows (s : State) (c : Code) : let t := cruEnd s c
    t.crypto.cru = none ∧ flag t R.CRU_RESULT F.CRU_RESULT_BUSY = false ∧ fld t R.CRU_RESULT F.CRU_RESULT_CODE = codeNum c ∧
      (rd t (R.PG_ISR 0x90)).getLsbD 0 = true ∧ SamePoints s t ∧ SameBytes s t := by
  have result (f : Fld) : fld (cruEnd s c) R.CRU_RESULT f =
      fld (setFld (setFld (cruFreed s) R.CRU_RESULT F.CRU_RESULT_BUSY 0) R.CRU_RESULT F.CRU_RESULT_CODE (codeNum c)) R.CRU_RESULT f :=
    congrArg (bits · f.hi f.lo) (rd_raiseBit_ne _ (by decide) (by decide))
  have only : RegsAndEvents [R.CRU_RESULT, R.PG_ISR 0x90] (cruFreed s) (cruEnd s c) :=
    ((onlyRegs_setFld _ _ 0 (by simp)).trans (onlyRegs_setFld _ _ (codeNum c) (by simp))).regsAndEvents.trans (regsAndEvents_raiseBit _ _ (by simp))
  obtain ⟨bytes, points⟩ := SameData.of_plantData (plantData_of_regsAndEvents only)
  refine ⟨by rw [crypto_cruEnd], ?_, ?_, raiseBit_isr_bit _ (by decide) (by decide), points, bytes⟩
  · refine (congrArg (· != 0) ((result _).trans (fld_setFld_other _ _ F.CRU_RESULT_CODE F.CRU_RESULT_BUSY _ (by decide) (by decide) (by decide)))).trans ?_
    exact congrArg (· != 0) (fld_setFld_same (cruFreed s) R.CRU_RESULT F.CRU_RESULT_BUSY 0 (by decide) (by decide))
  · refine (result _).trans ((fld_setFld_same _ _ F.CRU_RESULT_CODE _ (by decide) (by decide)).trans (Nat.mod_eq_of_lt ?_))
    exact codeNum_lt c

theorem cryEnd_shows (s : State) (c : Code) (pass : Bool) : let t := cryEnd s c pass
    t.crypto.cry = none ∧ rd t R.CRY_STAT = BitVec.ofNat 32 ((if pass then 256 else 0) + codeNum c) ∧ (rd t (R.PG_ISR 0x91)).getLsbD 0 = true ∧
      (rd t (R.PG_ISR 0x91)).getLsbD 1 = ((rd s (R.PG_ISR 0x91)).getLsbD 1 || c != .none) ∧ SamePoints s t ∧ SameBytes s t := by
  have only : RegsAndEvents [R.CRY_STAT, R.PG_ISR 0x91] (cryFreed s) (cryEnd s c pass) :=
    ((onlyRegs_wr _ _ (by simp)).trans (onlyRegs_wr _ _ (by simp))).regsAndEvents.trans (regsAndEvents_evtLevel _ _ 0x91)
  obtain ⟨bytes, points⟩ := SameData.of_plantData (plantData_of_regsAndEvents only)
  have stat : rd (cryEnd s c pass) R.CRY_STAT = BitVec.ofNat 32 (256 * b2n pass + codeNum c) :=
    (rd_raise_ne _ (by decide) (by decide)).trans (rd_wr_same _ _ _)
  have isr : rd (cryEnd s c pass) (R.PG_ISR 0x91) = rd s (R.PG_ISR 0x91) ||| BitVec.ofNat 32 (if c = .none then 1 else 3) :=
    (rd_evtLevel_ne _ (regKey_ne_EVT_PEND 0x91 (by decide) (by decide))).trans ((rd_wr_same _ _ _).trans
      (congrArg (· ||| _) (rd_wr_ne _ _ (by decide))))
  refine ⟨by rw [crypto_cryEnd], ?_, raise_isr _ (by decide) (by split <;> rfl) (by decide), ?_, points, bytes⟩
  · rw [stat]
    cases pass <;> rfl
  · rw [isr, BitVec.getLsbD_or]
    by_cases none : c = .none
    · rw [none]
      rfl
    · rw [if_neg none, bne_iff_ne.mpr none]
      rfl

end

end Sys2Proof.Machine
end

section
/-! SUPPORT. O56: a command of CRU_CMD, from its checks to its end (R408, R410, R417 to R420). -/

namespace Sys2Proof.Machine

open Sys2Proof.Safety

/-! ## What the checks read -/

/-- The slots and the registers that the checks of R417 and R422 read are the same. -/
structure SameChecks (s t : State) : Prop where
  slots : t.slots = s.slots
  stat : rd t R.CRU_STAT = rd s R.CRU_STAT
  mode : rd t R.SYS_MODE = rd s R.SYS_MODE
  dram : rd t R.DDR_CFG = rd s R.DDR_CFG
  flasks : ∀ f, f < 32 → rd t (R.FLK_CFG f) = rd s (R.FLK_CFG f)

theorem attrOwner_lt (w : Word) : attrOwner w < 32 := by
  unfold attrOwner bits natBits
  omega

section
variable {s t : State} (h : SameChecks s t)
include h

theorem SameChecks.slotAt (n : Nat) : slotAt t n = Machine.slotAt s n := congrArg (tget _ · n) h.slots

theorem SameChecks.sealed : flag t R.CRU_STAT F.CRU_STAT_SEALED = flag s R.CRU_STAT F.CRU_STAT_SEALED :=
  congrArg (fun w => bits w 31 31 != 0) h.stat

theorem SameChecks.liveFrom (k n : Nat) : liveFrom t k n = Machine.liveFrom s k n := by
  induction k generalizing n with
  | zero => rfl
  | succ k ih =>
    rw [Machine.liveFrom, Machine.liveFrom]
    simp only [h.slotAt, h.sealed, ih]

theorem SameChecks.keyLive (n : Nat) : keyLive t n = Machine.keyLive s n := h.liveFrom 9 n

theorem SameChecks.inDram (a n : Nat) : inDram t a n = Machine.inDram s a n := by
  have size : dramSize t = dramSize s := by rw [dramSize, dramSize, h.dram]
  rw [Machine.inDram, Machine.inDram, size]

theorem SameChecks.inRam (a n : Nat) : inRam t a n = Machine.inRam s a n := by rw [Machine.inRam, Machine.inRam, h.inDram]

theorem SameChecks.flaskEnabled (w : Word) : flaskEnabled t (attrOwner w) = Machine.flaskEnabled s (attrOwner w) := by
  rw [Machine.flaskEnabled, Machine.flaskEnabled, flag, flag, fld, fld, h.flasks _ (attrOwner_lt w)]

theorem SameChecks.modeNow : modeNow t = Machine.modeNow s := congrArg (bits · 3 0) h.mode

theorem SameChecks.keyCheck (n usage : Nat) : keyCheck t n usage = Machine.keyCheck s n usage := by
  simp only [Machine.keyCheck, h.slotAt, h.keyLive]

theorem SameChecks.newKeyCheck (w : Word) : newKeyCheck t w = Machine.newKeyCheck s w := by
  simp only [Machine.newKeyCheck, h.slotAt, h.flaskEnabled]

theorem SameChecks.createCheck (j : CruJob) : createCheck t j = Machine.createCheck s j := by
  simp only [Machine.createCheck, h.keyLive, h.keyCheck, h.newKeyCheck, h.inRam]

theorem SameChecks.wrapCheck (j : CruJob) : wrapCheck t j = Machine.wrapCheck s j := by
  simp only [Machine.wrapCheck, h.slotAt, h.keyLive, h.keyCheck, h.inRam]

theorem SameChecks.cruCheck (j : CruJob) : cruCheck t j = Machine.cruCheck s j := by
  have sealed : cruSealed t = cruSealed s := h.sealed
  simp only [Machine.cruCheck, cruMode, sealed, h.modeNow, h.createCheck, h.wrapCheck, h.slotAt]
  rfl

theorem SameChecks.cryCheck (j : CryJob) : cryCheck t j = Machine.cryCheck s j := by
  have sealed : cruSealed t = cruSealed s := h.sealed
  simp only [Machine.cryCheck, sealed, h.slotAt, h.keyLive, h.inRam]

end

theorem keyPage_FLK_CFG {f : Nat} (hf : f < 32) : keyPage (R.FLK_CFG f) = 0x31 :=
  keyPage_regKey (off := 0x40 + 0x4 * f) (by decide) (by omega) 0

theorem SameChecks.of_onlyRegs {s t : State} {ks : List Nat} (h : OnlyRegs ks s t) (pages : ∀ k ∈ ks, keyPage k = 0x90 ∨ keyPage k = 0x91)
    (stat : R.CRU_STAT ∉ ks) : SameChecks s t := by
  have out {k : Nat} (page : keyPage k ≠ 0x90) (page' : keyPage k ≠ 0x91) : k ∉ ks := fun mem => (pages k mem).elim page page'
  refine ⟨by rw [h.rest], h.regs _ stat, h.regs _ (out (by decide) (by decide)), h.regs _ (out (by decide) (by decide)), fun f hf => h.regs _ (out ?_ ?_)⟩
  · rw [keyPage_FLK_CFG hf]
    decide
  · rw [keyPage_FLK_CFG hf]
    decide

/-! ## A write of CRU_CMD -/

/-- CRU_KEYIN0 to 7. -/
def keyinRegs : List Nat := (upTo 8).map R.CRU_KEYIN

/-- CRU_KEYIN cleared. -/
def keyinCleared (s : State) : State := forAll (fun s n => wr s (R.CRU_KEYIN n) 0) (upTo 8) s

/-- The command that the registers of the Crucible's page describe. -/
def cruJob (s : State) (op : Nat) : CruJob :=
  ⟨op, fld s R.CRU_SLOT F.CRU_SLOT_TARGET, fld s R.CRU_SLOT F.CRU_SLOT_AUX, rd s R.CRU_ATTR, (rd s R.CRU_ADDR).toNat, regBytes s R.CRU_LABEL 4,
    regBytes s R.CRU_KEYIN 8⟩

section
variable {s : State}

theorem onlyRegs_keyinCleared (s : State) : OnlyRegs keyinRegs s (keyinCleared s) :=
  onlyRegs_forAll (fun _ mem u => onlyRegs_wr u 0 (List.mem_map_of_mem mem)) s

theorem keyinRegs_eq : keyinRegs = [R.CRU_KEYIN 0, R.CRU_KEYIN 1, R.CRU_KEYIN 2, R.CRU_KEYIN 3, R.CRU_KEYIN 4, R.CRU_KEYIN 5, R.CRU_KEYIN 6, R.CRU_KEYIN 7] :=
  rfl

theorem CRU_KEYIN_inj {m n : Nat} (other : m ≠ n) : R.CRU_KEYIN m ≠ R.CRU_KEYIN n := by
  unfold R.CRU_KEYIN regKey
  omega

theorem rd_keyinCleared (s : State) (n : Fin 8) : rd (keyinCleared s) (R.CRU_KEYIN n.val) = 0 := by
  obtain ⟨u, -, after⟩ := forAll_view (f := fun s n => wr s (R.CRU_KEYIN n) 0) (view := fun u => rd u (R.CRU_KEYIN n.val)) (l := upTo 8) (m := n.val)
    List.nodup_range (List.mem_range.mpr n.isLt) (fun u m _ other => rd_wr_ne u 0 (CRU_KEYIN_inj other.symm)) s
  exact after.trans (rd_wr_same u _ 0)

theorem sameChecks_keyinCleared (s : State) : SameChecks s (keyinCleared s) :=
  SameChecks.of_onlyRegs (onlyRegs_keyinCleared s) (by rw [keyinRegs_eq]; decide) (by rw [keyinRegs_eq]; decide)

theorem keyin_out {k : Nat} (out : k ∉ [R.CRU_KEYIN 0, R.CRU_KEYIN 1, R.CRU_KEYIN 2, R.CRU_KEYIN 3, R.CRU_KEYIN 4, R.CRU_KEYIN 5, R.CRU_KEYIN 6,
    R.CRU_KEYIN 7]) : rd (keyinCleared s) k = rd s k := (onlyRegs_keyinCleared s).regs k (by rwa [keyinRegs_eq])

/-- The command that a state of `u` has been taken with. -/
def cruTaken (u : State) (j : CruJob) : State :=
  setCrypto (wr u R.CRU_RESULT (BitVec.ofNat 32 (0x80000000 + j.op * 256))) { u.crypto with cru := some j }

/-- What a write of a command's code alone does, once the block is free (R417). -/
theorem cruStart_checks {op : Nat} (small : op < 16) (free : flag s R.CRU_RESULT F.CRU_RESULT_BUSY = false) (awake : s.paused = false) :
    cruStart s (BitVec.ofNat 32 op) = match cruCheck s (cruJob s op) with
      | .none => (settleOps (cruNow (cruTaken (keyinCleared s) (cruJob s op)) (cruJob s op)), .none)
      | c => (setFld (keyinCleared s) R.CRU_RESULT F.CRU_RESULT_CODE (codeNum c), c) := by
  have word : bits (BitVec.ofNat 32 op) 31 4 = 0 ∧ bits (BitVec.ofNat 32 op) 3 0 = op := by
    have same : (BitVec.ofNat 32 op).toNat = op := by
      rw [BitVec.toNat_ofNat]
      omega
    constructor <;> rw [bits, natBits, same] <;> omega
  have free' : flag (keyinCleared s) R.CRU_RESULT F.CRU_RESULT_BUSY = false := by
    rw [flag, fld, keyin_out (by decide)]
    exact free
  have awake' : (keyinCleared s).paused = false := by
    rw [(onlyRegs_keyinCleared s).rest]
    exact awake
  have checks := (sameChecks_keyinCleared s).cruCheck (cruJob s op)
  have pass : ¬ (flag (keyinCleared s) R.CRU_RESULT F.CRU_RESULT_BUSY = true ∨ (keyinCleared s).paused = true) := by simp [free', awake']
  obtain ⟨high, low⟩ := word
  unfold cruStart
  dsimp only
  rw [high, low, if_neg (by decide)]
  refine (if_neg pass).trans ?_
  rw [← checks]
  rfl

end

end Sys2Proof.Machine
end

section
/-! SUPPORT. O56: the commands of CRU_CMD (R410, R417, R418). -/

namespace Sys2Proof.Machine

open Sys2Proof.Safety

/-! ## What the checks of R417 say of a command that passes them -/

section
variable {s : State} {j : CruJob}

theorem keyLive_of_keyCheck {n usage : Nat} (pass : keyCheck s n usage = .none) : keyLive s n = true := by
  unfold keyCheck at pass
  dsimp only at pass
  split at pass
  · cases pass
  · split at pass
    · cases pass
    next live => simpa using live

/-- A check that is followed by others has passed when they all have. -/
theorem first_passed {c next : Code} (pass : (match c with | .none => next | c => c) = .none) : c = .none := by
  cases c
  case none => rfl
  all_goals cases pass

theorem parent_live (pass : createCheck s j = .none) : keyLive s (attrParent j.attr) = true := by
  unfold createCheck at pass
  split at pass
  · cases pass
  · split at pass
    · cases pass
    · split at pass
      · cases pass
      · exact keyLive_of_keyCheck (first_passed pass)

theorem wrapped_live (pass : wrapCheck s j = .none) : keyLive s j.aux = true ∧ keyLive s j.target = true := by
  unfold wrapCheck at pass
  dsimp only at pass
  split at pass
  · cases pass
  next target => exact ⟨keyLive_of_keyCheck (first_passed pass), by simpa using fun dead => target (.inr dead)⟩

theorem cruKeys_live (pass : cruCheck s j = .none) : (cruKeys j).all (keyLive s) = true := by
  unfold cruCheck at pass
  unfold cruKeys
  by_cases wrap : j.op = 4
  · rw [if_pos wrap]
    have check : wrapCheck s j = .none := by
      split_ifs at pass
      · omega
      · exact pass
    obtain ⟨aux, target⟩ := wrapped_live check
    simp [aux, target]
  · rw [if_neg wrap]
    split
    next create =>
      have check : createCheck s j = .none := by
        split_ifs at pass
        exact pass
      simp [parent_live check]
    next => rfl

end

/-! ## A command that is turned away -/

theorem rd_pgError_ne (s : State) {page off k : Nat} (c : Code) (err : k ≠ R.PG_ERR page) (isr : k ≠ R.PG_ISR page) (pend : k ≠ R.EVT_PEND (page / 32)) :
    rd (pgError s page off c) k = rd s k := by
  unfold pgError
  dsimp only
  split
  · exact rd_wr_ne s _ err
  · rw [rd_raiseBit_ne _ isr pend, rd_wr_ne s _ err]

/-- A rejection touches the page's error registers and the event matrix alone. -/
theorem rejectWrite_keeps (s : State) (page off : Nat) (c : Code) : (rejectWrite s page off c).slots = s.slots ∧
    (rejectWrite s page off c).crypto = s.crypto ∧ (rejectWrite s page off c).otp = s.otp ∧ SameBytes s (rejectWrite s page off c) ∧
    SamePoints s (rejectWrite s page off c) := by
  have only := (regsAndEvents_pgError s (page := page) (off := off) c).trans (onlyRegs_answer _ _ c).regsAndEvents
  obtain ⟨bytes, points⟩ := SameData.of_plantData (plantData_of_regsAndEvents only)
  exact ⟨rejectWrite_slots s page off c, rejectWrite_crypto s page off c, rejectWrite_otp s page off c, bytes, points⟩

section
variable {s : State} {q : Requester} {op : Nat}

/-- The state in which a command's code has been recorded. -/
def cruRefused (s : State) (c : Code) : State := setFld (keyinCleared s) R.CRU_RESULT F.CRU_RESULT_CODE (codeNum c)

theorem onlyRegs_cruRefused (s : State) (c : Code) : OnlyRegs (R.CRU_RESULT :: keyinRegs) s (cruRefused s c) :=
  ((onlyRegs_keyinCleared s).mono (List.subset_cons_self _ _)).trans (onlyRegs_setFld _ _ _ List.mem_cons_self)

theorem cruStart_refuses (small : op < 16) (free : flag s R.CRU_RESULT F.CRU_RESULT_BUSY = false) (awake : s.paused = false) {c : Code}
    (check : cruCheck s (cruJob s op) = c) (error : c ≠ .none) : cruStart s (BitVec.ofNat 32 op) = (cruRefused s c, c) := by
  rw [cruStart_checks small free awake, check]
  cases c
  case none => exact absurd rfl error
  all_goals rfl

theorem keyin_cruRefused (s : State) (c : Code) (n : Fin 8) : rd (cruRefused s c) (R.CRU_KEYIN n.val) = 0 := by
  have other : R.CRU_KEYIN n.val ≠ R.CRU_RESULT := by
    unfold R.CRU_KEYIN R.CRU_RESULT regKey
    omega
  rw [cruRefused, rd_setFld_ne _ _ _ other]
  exact rd_keyinCleared s n

theorem cruCommand_refused {i : Instr} (run : exec i s = cruCommand q op s) (small : op < 16) (hr : Reaches s q 0x90 0x64)
    (free : flag s R.CRU_RESULT F.CRU_RESULT_BUSY = false) (awake : s.paused = false) (error : cruCheck s (cruJob s op) ≠ .none) :
    ∃ t, exec i s = .next t ∧ t.answer = { code := cruCheck s (cruJob s op) } ∧ t.slots = s.slots ∧ t.crypto = s.crypto ∧ t.otp = s.otp ∧
      (∀ n : Fin 8, rd t (R.CRU_KEYIN n.val) = 0) ∧ fld t R.CRU_RESULT F.CRU_RESULT_CODE = codeNum (cruCheck s (cruJob s op)) ∧
      (SameBytes s t ∧ SamePoints s t) := by
  generalize check : cruCheck s (cruJob s op) = c at error ⊢
  have only := onlyRegs_cruRefused s c
  obtain ⟨bytes, points⟩ := SameData.of_plantData (plantData_of_regsAndEvents only.regsAndEvents)
  obtain ⟨slots, crypto, otp, bytes', points'⟩ := rejectWrite_keeps (cruRefused s c) 0x90 0x64 c
  have rejected : exec i s = .next (rejectWrite (cruRefused s c) 0x90 0x64 c) := by
    rw [run]
    refine congrArg Host.Outcome.next ?_
    rw [gated_reaches hr, cruStart_refuses small free awake check error, endCommand, if_neg error]
  refine ⟨_, rejected, rfl, slots.trans (by rw [only.rest]), crypto.trans (by rw [only.rest]), otp.trans (by rw [only.rest]), fun n => ?_, ?_,
    fun a => (bytes' a).trans (bytes a), fun n => (points' n).trans (points n)⟩
  · have keys : R.CRU_KEYIN n.val ≠ R.PG_ERR 0x90 ∧ R.CRU_KEYIN n.val ≠ R.PG_ISR 0x90 ∧ R.CRU_KEYIN n.val ≠ R.EVT_PEND (0x90 / 32) := by
      refine ⟨?_, ?_, ?_⟩
      · unfold R.CRU_KEYIN R.PG_ERR regKey
        omega
      · unfold R.CRU_KEYIN R.PG_ISR regKey
        omega
      · unfold R.CRU_KEYIN R.EVT_PEND regKey
        omega
    exact (rd_pgError_ne _ c keys.1 keys.2.1 keys.2.2).trans (keyin_cruRefused s c n)
  · refine (congrArg (bits · 7 0) (rd_pgError_ne (cruRefused s c) c (by decide) (by decide) (by decide) : rd (pgError _ 0x90 0x64 c) R.CRU_RESULT = _)).trans ?_
    exact (fld_setFld_same _ _ F.CRU_RESULT_CODE _ (by decide) (by decide)).trans (Nat.mod_eq_of_lt (codeNum_lt c))

end

/-! ## A command that is taken -/

/-- A command in flight may change slots, what is kept of them, the root's fuse, and CRU_STAT. -/
structure CruActs (s t : State) : Prop where
  cru : t.crypto.cru = s.crypto.cru
  cry : t.crypto.cry = s.crypto.cry
  regs : ∀ k, k ≠ R.CRU_STAT → rd t k = rd s k
  data : plantData t = plantData s

section
variable {s t u : State} {j : CruJob}

theorem CruActs.refl (s : State) : CruActs s s := ⟨rfl, rfl, fun _ _ => rfl, rfl⟩

theorem CruActs.trans (h : CruActs s t) (k : CruActs t u) : CruActs s u :=
  ⟨k.cru.trans h.cru, k.cry.trans h.cry, fun n out => (k.regs n out).trans (h.regs n out), k.data.trans h.data⟩

theorem KeysUpdated.cruActs (h : KeysUpdated s t) : CruActs s t := by
  refine ⟨?_, ?_, fun k _ => h.rd k, ?_⟩
  all_goals rw [h]
  rfl

/-- The root's fuse is blown. -/
def rootKilled (s : State) : State := { s with otp := { s.otp with killed := true } }

/-- Nothing is left in the key store. -/
def storeCleared (s : State) : State := setCrypto s { s.crypto with store := [], storeGen := [] }

/-- CRU_STAT as KILL leaves it. -/
def killShown (s : State) : State := setFld (setFld s R.CRU_STAT F.CRU_STAT_SEALED 1) R.CRU_STAT F.CRU_STAT_ROOT_STATE 3

theorem killRoot_eq (s : State) : killRoot s = killShown (storeCleared (flushWhere (rootKilled s) (fun s n => attrValid (slotAt s n).attr))) := rfl

theorem cruActs_killRoot (s : State) : CruActs s (killRoot s) := by
  have blown : CruActs s (rootKilled s) := ⟨rfl, rfl, fun _ _ => rfl, rfl⟩
  have cleared (u : State) : CruActs u (storeCleared u) := ⟨rfl, rfl, fun _ _ => rfl, rfl⟩
  have shown (u : State) : CruActs u (killShown u) :=
    ⟨rfl, rfl, fun k out => (rd_setFld_ne _ _ _ out).trans (rd_setFld_ne _ _ _ out), rfl⟩
  exact ((blown.trans (keysUpdated_flushWhere _ _).cruActs).trans (cleared _)).trans (shown _)

theorem cruActs_cruNow (s : State) (j : CruJob) : CruActs s (cruNow s j) := by
  unfold cruNow
  split
  · exact (keysUpdated_emptySlot 9 s j.target).cruActs
  · split
    · exact (keysUpdated_flushWhere s _).cruActs
    · split
      · exact cruActs_killRoot s
      · exact CruActs.refl s

theorem cruNow_later (later : j.op ≤ 5) (s : State) : cruNow s j = s := by
  unfold cruNow
  rw [if_neg (by omega), if_neg (by omega), if_neg (by omega)]

/-- DESTROY, PURGE and KILL use no key. -/
theorem cruKeys_now (now : 6 ≤ j.op) : cruKeys j = [] := by
  unfold cruKeys
  rw [if_neg (by omega), if_neg (by omega)]

theorem regs_cruTaken (s : State) (j : CruJob) : SameRegs (R.CRU_RESULT :: keyinRegs) s (cruTaken (keyinCleared s) j) :=
  (((onlyRegs_keyinCleared s).mono (List.subset_cons_self _ _)).trans (onlyRegs_wr _ _ List.mem_cons_self)).regs

theorem cruTaken_keeps (u : State) (j : CruJob) : (cruTaken u j).slots = u.slots ∧ (cruTaken u j).otp = u.otp ∧
    (cruTaken u j).crypto.cry = u.crypto.cry ∧ plantData (cruTaken u j) = plantData u := ⟨rfl, rfl, rfl, rfl⟩

theorem slots_cruTaken (s : State) (j : CruJob) : (cruTaken (keyinCleared s) j).slots = s.slots := by
  have slots : (keyinCleared s).slots = s.slots := by rw [(onlyRegs_keyinCleared s).rest]
  exact (cruTaken_keeps _ j).1.trans slots

theorem otp_cruTaken (s : State) (j : CruJob) : (cruTaken (keyinCleared s) j).otp = s.otp := by
  have otp : (keyinCleared s).otp = s.otp := by rw [(onlyRegs_keyinCleared s).rest]
  exact (cruTaken_keeps _ j).2.1.trans otp

theorem cry_cruTaken (s : State) (j : CruJob) : (cruTaken (keyinCleared s) j).crypto.cry = s.crypto.cry := by
  have crypto : (keyinCleared s).crypto = s.crypto := by rw [(onlyRegs_keyinCleared s).rest]
  exact (cruTaken_keeps _ j).2.2.1.trans (congrArg Crypto.cry crypto)

theorem data_cruTaken (s : State) (j : CruJob) : plantData (cruTaken (keyinCleared s) j) = plantData s :=
  (cruTaken_keeps _ j).2.2.2.trans (plantData_of_regsAndEvents (onlyRegs_keyinCleared s).regsAndEvents)

theorem sameChecks_cruTaken (s : State) (j : CruJob) : SameChecks s (cruTaken (keyinCleared s) j) := by
  have regs := regs_cruTaken s j
  have out {k : Nat} (page : keyPage k ≠ 0x90) : k ∉ R.CRU_RESULT :: keyinRegs := by
    rw [keyinRegs_eq]
    intro mem
    exact page ((by decide : ∀ k ∈ [R.CRU_RESULT, R.CRU_KEYIN 0, R.CRU_KEYIN 1, R.CRU_KEYIN 2, R.CRU_KEYIN 3, R.CRU_KEYIN 4, R.CRU_KEYIN 5,
      R.CRU_KEYIN 6, R.CRU_KEYIN 7], keyPage k = 0x90) k mem)
  exact ⟨slots_cruTaken s j, regs _ (by rw [keyinRegs_eq]; decide), regs _ (out (by decide)), regs _ (out (by decide)), fun f hf =>
    regs _ (out (by rw [keyPage_FLK_CFG hf]; decide))⟩

/-- The command has acted as far as it does at the write. -/
def cruActed (s : State) (j : CruJob) : State := cruNow (cruTaken (keyinCleared s) j) j

theorem settleOps_cruActed (check : cruCheck s j = .none) (idle : s.crypto.cry = none) : settleOps (cruActed s j) = cruActed s j := by
  have acts := cruActs_cruNow (cruTaken (keyinCleared s) j) j
  refine settleOps_lives (fun k job => ?_) (acts.cry.trans ((cry_cruTaken s j).trans idle))
  obtain rfl : j = k := Option.some.inj (acts.cru.symm.trans job)
  by_cases now : 6 ≤ j.op
  · rw [cruKeys_now now]
    rfl
  · have same : cruActed s j = cruTaken (keyinCleared s) j := cruNow_later (by omega) _
    have live : keyLive (cruActed s j) = keyLive s := funext fun n => by rw [same, (sameChecks_cruTaken s j).keyLive]
    rw [live]
    exact cruKeys_live check

theorem cruActed_shows (s : State) (j : CruJob) : (cruActed s j).crypto.cru = some j ∧
    rd (cruActed s j) R.CRU_RESULT = BitVec.ofNat 32 (0x80000000 + j.op * 256) ∧ (∀ n : Fin 8, rd (cruActed s j) (R.CRU_KEYIN n.val) = 0) ∧
    (SameBytes s (cruActed s j) ∧ SamePoints s (cruActed s j)) := by
  have acts := cruActs_cruNow (cruTaken (keyinCleared s) j) j
  refine ⟨acts.cru, (acts.regs _ (by decide)).trans (rd_wr_same _ _ _), fun n => ?_, SameData.of_plantData (acts.data.trans (data_cruTaken s j))⟩
  have stat : R.CRU_KEYIN n.val ≠ R.CRU_STAT := by
    unfold R.CRU_KEYIN R.CRU_STAT regKey
    omega
  have result : R.CRU_KEYIN n.val ≠ R.CRU_RESULT := by
    unfold R.CRU_KEYIN R.CRU_RESULT regKey
    omega
  exact (acts.regs _ stat).trans ((rd_wr_ne (keyinCleared s) _ result).trans (rd_keyinCleared s n))

theorem cruActed_later (later : j.op ≤ 5) : SameRegs (R.CRU_RESULT :: keyinRegs) s (cruActed s j) ∧ (cruActed s j).slots = s.slots ∧
    (cruActed s j).otp = s.otp := by
  rw [cruActed, cruNow_later later]
  exact ⟨regs_cruTaken s j, slots_cruTaken s j, otp_cruTaken s j⟩

theorem cruActed_destroys (destroy : j.op = 6) : filled (cruActed s j) j.target = false ∧ (cruActed s j).otp = s.otp := by
  have flushed : cruActed s j = flushSlot (cruTaken (keyinCleared s) j) j.target := if_pos destroy
  have keys := keysUpdated_emptySlot 9 (cruTaken (keyinCleared s) j) j.target
  rw [flushed]
  refine ⟨filled_flushSlot _ _, Eq.trans ?_ (otp_cruTaken s j)⟩
  unfold flushSlot
  rw [keys]

theorem cruActed_purges (purge : j.op = 7) (root : attrParent (slotAt s 0).attr = 0) : (cruActed s j).otp = s.otp ∧ ∀ n : Fin 256,
    (keyLive s n.val = true → slotAt (cruActed s j) n.val = slotAt s n.val) ∧ (keyLive s n.val = false → filled (cruActed s j) n.val = false) := by
  have checks := sameChecks_cruTaken s j
  have purged : cruActed s j = flushWhere (cruTaken (keyinCleared s) j) orphan := by
    unfold cruActed cruNow
    rw [if_neg (by omega), if_pos purge]
    rfl
  have keys := keysUpdated_flushWhere (cruTaken (keyinCleared s) j) orphan
  have root' : attrParent (slotAt (cruTaken (keyinCleared s) j) 0).attr = 0 := by rwa [checks.slotAt]
  rw [purged]
  refine ⟨Eq.trans (by rw [keys]) (otp_cruTaken s j), fun n => ?_⟩
  have slot := flushOrphans_purges root' n.isLt
  rwa [checks.keyLive, checks.slotAt] at slot

theorem cruActed_kills (kill : j.op = 8) : (cruActed s j).otp.killed = true ∧ flag (cruActed s j) R.CRU_STAT F.CRU_STAT_SEALED = true ∧
    fld (cruActed s j) R.CRU_STAT F.CRU_STAT_ROOT_STATE = 3 ∧ (cruActed s j).crypto.store = [] ∧ ∀ n : Fin 256, filled (cruActed s j) n.val = false := by
  have killed : cruActed s j = killRoot (cruTaken (keyinCleared s) j) := by
    unfold cruActed cruNow
    rw [if_neg (by omega), if_neg (by omega), if_pos kill]
  generalize cruTaken (keyinCleared s) j = v at killed
  have keys := keysUpdated_flushWhere (rootKilled v) (fun s n => attrValid (slotAt s n).attr)
  have empty (n : Fin 256) := flushWhere_empty (s := rootKilled v) (p := fun s n => attrValid (slotAt s n).attr) n.isLt fun _ _ full => full
  rw [killed, killRoot_eq]
  generalize flushWhere (rootKilled v) (fun s n => attrValid (slotAt s n).attr) = u at keys empty ⊢
  refine ⟨?_, ?_, fld_setFld_same _ _ F.CRU_STAT_ROOT_STATE 3 (by decide) (by decide), rfl, empty⟩
  · show u.otp.killed = true
    rw [keys]
    rfl
  · refine (congrArg (· != 0) (fld_setFld_other _ _ F.CRU_STAT_ROOT_STATE F.CRU_STAT_SEALED 3 (by decide) (by decide) (by decide))).trans ?_
    exact congrArg (· != 0) (fld_setFld_same _ R.CRU_STAT F.CRU_STAT_SEALED 1 (by decide) (by decide))

theorem op_cruJob (s : State) (op : Nat) : (cruJob s op).op = op := rfl

theorem cruCommand_taken {q : Requester} {op : Nat} {i : Instr} (run : exec i s = cruCommand q op s) (small : op < 16) (hr : Reaches s q 0x90 0x64)
    (free : flag s R.CRU_RESULT F.CRU_RESULT_BUSY = false) (awake : s.paused = false) (check : cruCheck s (cruJob s op) = .none)
    (idle : s.crypto.cry = none) : ∃ t, exec i s = .next t ∧ Accepted t ∧ t.crypto.cru = some (cruJob s op) ∧
      rd t R.CRU_RESULT = BitVec.ofNat 32 (0x80000000 + op * 256) ∧ (∀ n : Fin 8, rd t (R.CRU_KEYIN n.val) = 0) ∧ (SameBytes s t ∧ SamePoints s t) ∧
      (op ≤ 5 → SameRegs (R.CRU_RESULT :: keyinRegs) s t ∧ t.slots = s.slots ∧ t.otp = s.otp) ∧
      (op = 6 → attrValid (slotAt t (cruJob s op).target).attr = false ∧ t.otp = s.otp) ∧
      (op = 7 → attrParent (slotAt s 0).attr = 0 → t.otp = s.otp ∧ ∀ n : Fin 256, (keyLive s n.val = true → slotAt t n.val = slotAt s n.val) ∧
        (keyLive s n.val = false → attrValid (slotAt t n.val).attr = false)) ∧
      (op = 8 → t.otp.killed = true ∧ flag t R.CRU_STAT F.CRU_STAT_SEALED = true ∧ fld t R.CRU_STAT F.CRU_STAT_ROOT_STATE = 3 ∧
        t.crypto.store = [] ∧ ∀ n : Fin 256, attrValid (slotAt t n.val).attr = false) := by
  obtain ⟨cru, result, keyin, bytes, points⟩ := cruActed_shows s (cruJob s op)
  have started : cruStart s (BitVec.ofNat 32 op) = (cruActed s (cruJob s op), .none) := by
    rw [cruStart_checks small free awake, check]
    exact congrArg (·, Code.none) (settleOps_cruActed check idle)
  have taken : exec i s = .next (answer (cruActed s (cruJob s op)) .none) :=
    run.trans (congrArg Host.Outcome.next (gated_taken (k := fun s => cruStart s (BitVec.ofNat 32 op)) hr started))
  rw [op_cruJob] at result
  exact ⟨_, taken, rfl, cru, result, keyin, ⟨bytes, points⟩, fun later => cruActed_later later, fun destroy => cruActed_destroys destroy,
    fun purge root => cruActed_purges purge root, fun kill => cruActed_kills kill⟩

end

end Sys2Proof.Machine
end

section
/-! SUPPORT. O56: the ends of Crucible commands, re-masking, and the start of crypto jobs (R402, R404, R416, R418, R422). -/

namespace Sys2Proof.Machine

open Sys2Proof.Safety

/-! ## The end of a command -/

section
variable {s : State} {j : CruJob}

theorem cruComplete_none (e : Bool) (idle : s.crypto.cru = none) : exec (.cruCommandComplete e) s = .next s := by
  refine congrArg Host.Outcome.next ?_
  unfold cruComplete
  rw [idle]

/-- A command of the Crucible has ended with a code. -/
def CruEnded (s t : State) (c : Code) : Prop :=
  t.crypto.cru = none ∧ flag t R.CRU_RESULT F.CRU_RESULT_BUSY = false ∧ fld t R.CRU_RESULT F.CRU_RESULT_CODE = codeNum c ∧
    (rd t (R.PG_ISR 0x90)).getLsbD 0 = true ∧ SamePoints s t

theorem cruEnded_cruEnd {s u : State} (points : SamePoints s u) (c : Code) : CruEnded s (cruEnd u c) c := by
  obtain ⟨cru, busy, code, isr, points', -⟩ := cruEnd_shows u c
  exact ⟨cru, busy, code, isr, fun n => (points' n).trans (points n)⟩

theorem bytes_cruEnd (s : State) (c : Code) : SameBytes s (cruEnd s c) := (cruEnd_shows s c).2.2.2.2.2

theorem slots_cruEnd (s : State) (c : Code) : (cruEnd s c).slots = s.slots := (opsEnded_cruEnd s c).slots

theorem cruCommandComplete_ends (c : Code) {e : Bool} (ends : cruComplete s e = cruEnd s c) :
    ∃ t, exec (.cruCommandComplete e) s = .next t ∧ CruEnded s t c ∧ t.slots = s.slots ∧ SameBytes s t :=
  ⟨_, congrArg Host.Outcome.next ends, cruEnded_cruEnd (fun _ => rfl) c, slots_cruEnd s c, bytes_cruEnd s c⟩

theorem cruComplete_starves (job : s.crypto.cru = some j) (generate : j.op = 1) : cruComplete s false = cruEnd s .busy := by
  unfold cruComplete
  rw [job]
  exact if_pos ⟨generate, rfl⟩

theorem cruComplete_empty (job : s.crypto.cru = some j) (now : 6 ≤ j.op) : cruComplete s true = cruEnd s .none := by
  unfold cruComplete
  rw [job]
  dsimp only
  rw [if_neg (by simp), if_neg (by omega), if_neg (by omega)]

/-- The blob that WRAP writes. -/
def wrapBlob (s : State) (j : CruJob) : List Byte :=
  kwWrap (aesKeyOf (slotAt s j.aux)) (blobHead (slotAt s j.target).attr ++ (slotAt s j.target).material)

theorem cruComplete_wraps (job : s.crypto.cru = some j) (wrap : j.op = 4) :
    cruComplete s true = cruEnd (putBytes s j.addr (wrapBlob s j)) .none := by
  unfold cruComplete
  rw [job]
  dsimp only
  rw [if_neg (by simp), if_neg (by omega), if_pos wrap]
  rfl

theorem cruCommandComplete_wraps (job : s.crypto.cru = some j) (wrap : j.op = 4) (rom : 0x20000 ≤ j.addr) :
    ∃ t, exec (.cruCommandComplete true) s = .next t ∧ CruEnded s t .none ∧ t.slots = s.slots ∧
      bytesAt t j.addr (wrapBlob s j).length = wrapBlob s j ∧
      ∀ a, a < j.addr ∨ j.addr + (wrapBlob s j).length ≤ a → byteAt t a = byteAt s a := by
  have written := rangeWritten_putBytes s j.addr (wrapBlob s j)
  have bytes := bytes_cruEnd (putBytes s j.addr (wrapBlob s j)) .none
  refine ⟨_, congrArg Host.Outcome.next (cruComplete_wraps job wrap), cruEnded_cruEnd written.samePoints .none,
    (slots_cruEnd _ _).trans (by rw [written.rest]), (bytesAt_congr fun a _ _ => bytes a).trans (bytesAt_putBytes_same s _ rom),
    fun a out => (bytes a).trans (written.bytes a out)⟩

/-- The state in which the random share of a new key has been drawn. -/
def shareDrawn (u : State) (n : Nat) : State := { u with drawn := u.drawn + n }

/-- A new key, as it goes into its slot. -/
def newKey (u : State) (j : CruJob) (m : List Byte) : KeySlot :=
  { attr := newAttr u j.attr, pgen := (slotAt u (attrParent j.attr)).gen, material := m, share := (upTo m.length).map (fun i => Config.randomByte (u.drawn + i)) }

theorem cruComplete_creates (job : s.crypto.cru = some j) (create : j.op ≤ 3 ∨ j.op = 5) {u : State} {m : List Byte}
    (formed : newMaterial s j = (u, some m)) :
    cruComplete s true = settleOps (cruEnd (createSlot (shareDrawn u m.length) j.target (newKey u j m)) .none) := by
  unfold cruComplete
  rw [job]
  dsimp only
  rw [if_neg (by simp), if_pos create, formed]
  rfl

theorem cruComplete_fails (job : s.crypto.cru = some j) (create : j.op ≤ 3 ∨ j.op = 5) {u : State} (failed : newMaterial s j = (u, none)) :
    cruComplete s true = cruEnd u .auth := by
  unfold cruComplete
  rw [job]
  dsimp only
  rw [if_neg (by simp), if_pos create, failed]

/-- Forming a key draws random bytes alone. -/
theorem newMaterial_keeps {u : State} {o : Option (List Byte)} (formed : newMaterial s j = (u, o)) : ∃ n, u = { s with drawn := n } := by
  obtain same | ⟨n, drawn⟩ := newMaterial_fst s j
  · rw [formed] at same
    exact ⟨s.drawn, same⟩
  · rw [formed] at drawn
    exact ⟨n, drawn⟩

theorem cruCommandComplete_fails (job : s.crypto.cru = some j) (create : j.op ∈ [2, 3, 5]) {u : State} (failed : newMaterial s j = (u, none)) :
    ∃ t, exec (.cruCommandComplete true) s = .next t ∧ CruEnded s t .auth ∧ t.slots = s.slots ∧ SameBytes s t := by
  obtain ⟨n, rfl⟩ := newMaterial_keeps failed
  have op : j.op ≤ 3 ∨ j.op = 5 := by simp at create; omega
  exact ⟨_, congrArg Host.Outcome.next (cruComplete_fails job op failed), cruEnded_cruEnd (u := { s with drawn := n }) (fun _ => rfl) .auth,
    slots_cruEnd _ _, bytes_cruEnd { s with drawn := n } _⟩

theorem cruCommandComplete_creates (job : s.crypto.cru = some j) (create : j.op ∈ [1, 2, 3, 5]) {u : State} {m : List Byte}
    (formed : newMaterial s j = (u, some m)) (idle : s.crypto.cry = none) (room : (slotAt s j.target).gen ≠ 0xFFFF) :
    ∃ t, exec (.cruCommandComplete true) s = .next t ∧ CruEnded s t .none ∧ SameBytes s t ∧ (slotAt t j.target).material = m ∧
      (slotAt t j.target).attr = newAttr s j.attr ∧ (slotAt t j.target).pgen = (slotAt s (attrParent j.attr)).gen ∧
      (slotAt t j.target).gen = (slotAt s j.target).gen + 1 ∧ ∀ n, n ≠ j.target → slotAt t n = slotAt s n := by
  obtain ⟨d, rfl⟩ := newMaterial_keeps formed
  have op : j.op ≤ 3 ∨ j.op = 5 := by simp at create; omega
  have ends := cruComplete_creates job op formed
  have keys := keysUpdated_createSlot (shareDrawn { s with drawn := d } m.length) j.target (newKey { s with drawn := d } j m)
  obtain ⟨slot, others⟩ := slotAt_createSlot (s := shareDrawn { s with drawn := d } m.length) room (newKey { s with drawn := d } j m)
  generalize createSlot (shareDrawn { s with drawn := d } m.length) j.target (newKey { s with drawn := d } j m) = v at ends keys slot others
  have crypto : (cruEnd v .none).crypto = { v.crypto with cru := none } := crypto_cruEnd v .none
  have settled : settleOps (cruEnd v .none) = cruEnd v .none := by
    refine settleOps_lives (fun k busy => ?_) ?_
    · rw [crypto] at busy
      cases busy
    · rw [crypto]
      show v.crypto.cry = none
      rw [keys]
      exact idle
  have slots (n : Nat) : slotAt (cruEnd v .none) n = slotAt v n := congrArg (tget _ · n) (slots_cruEnd v .none)
  obtain ⟨bytes, points⟩ : SameBytes s v ∧ SamePoints s v := SameData.of_plantData (by rw [keys]; rfl)
  rw [settled] at ends
  refine ⟨_, congrArg Host.Outcome.next ends, cruEnded_cruEnd points .none, fun a => (bytes_cruEnd v .none a).trans (bytes a), ?_, ?_, ?_, ?_,
    fun n other => (slots n).trans (others n other)⟩
  all_goals
    rw [slots, slot]
    rfl

end

/-! ## Re-masking (R416) -/

/-- One slot of a re-masking. -/
def remaskStep (s : State) (n : Nat) : State :=
  if attrValid (slotAt s n).attr then
    setSlot { s with drawn := s.drawn + (slotAt s n).material.length } n { slotAt s n with
      share := xorBytes (slotAt s n).share ((upTo (slotAt s n).material.length).map (fun i => Config.randomByte (s.drawn + i))) }
  else s

theorem remask_eq (s : State) : remask s = forAll remaskStep (upTo 256) s := rfl

/-- Only slots and the count of random bytes may have moved. -/
def Remasked (s t : State) : Prop := t = { s with slots := t.slots, drawn := t.drawn }

theorem Remasked.trans {s t u : State} (h : Remasked s t) (k : Remasked t u) : Remasked s u := by
  unfold Remasked at *
  conv_lhs => rw [k, h]

theorem remasked_step (s : State) (n : Nat) : Remasked s (remaskStep s n) := by
  unfold remaskStep
  split
  · exact rfl
  · exact rfl

theorem slotAt_remaskStep_ne (s : State) {m n : Nat} (other : m ≠ n) : slotAt (remaskStep s n) m = slotAt s m := by
  unfold remaskStep
  split
  · exact slotAt_setSlot_ne _ _ other
  · rfl

theorem remasked_forAll (l : List Nat) (s : State) : Remasked s (forAll remaskStep l s) := by
  induction l generalizing s with
  | nil => exact rfl
  | cons n l ih => exact (remasked_step s n).trans (ih _)

theorem remask_slots (s : State) : ∃ t, exec .remask s = .next t ∧ t = { s with slots := t.slots, drawn := t.drawn } ∧
    ∀ n : Fin 256, (attrValid (slotAt s n.val).attr = false → slotAt t n.val = slotAt s n.val) ∧ (attrValid (slotAt s n.val).attr = true →
      ∃ r : List Byte, r.length = (slotAt s n.val).material.length ∧ slotAt t n.val = { slotAt s n.val with share := xorBytes (slotAt s n.val).share r }) := by
  refine ⟨_, rfl, ?_, fun n => ?_⟩
  · rw [remask_eq]
    exact remasked_forAll _ s
  · obtain ⟨u, before, after⟩ := forAll_view (f := remaskStep) (view := fun u => slotAt u n.val) (l := upTo 256) (m := n.val) List.nodup_range
      (List.mem_range.mpr n.isLt) (fun u m _ other => slotAt_remaskStep_ne u other.symm) s
    rw [remask_eq, after]
    dsimp only at before ⊢
    rw [← before]
    refine ⟨fun empty => ?_, fun full => ⟨(upTo (slotAt u n.val).material.length).map (fun i => Config.randomByte (u.drawn + i)), ?_, ?_⟩⟩
    · rw [remaskStep, if_neg (by simp [empty])]
    · rw [List.length_map, upTo, List.length_range]
    · rw [remaskStep, if_pos full]
      exact slotAt_setSlot_same _ _ _

end Sys2Proof.Machine
end

section
/-! SUPPORT. O56: crypto jobs, from CRY_GO to their end (R422, R423). -/

namespace Sys2Proof.Machine

open Sys2Proof.Safety

/-! ## A write of CRY_GO -/

section
variable {s : State} {q : Requester} {op : Nat} {slot : BitVec 8}

/-- The job that the registers of the engine's page describe, with an operation and a slot. -/
def cryJob (s : State) (op : Nat) (slot : BitVec 8) : CryJob :=
  ⟨op, slot.toNat, (rd s R.CRY_SRC).toNat, (rd s R.CRY_DST).toNat, (rd s R.CRY_LEN).toNat, (rd s R.CRY_AUX).toNat, (rd s R.CRY_AUXLEN).toNat,
    regBytes s R.CRY_IV 3, regBytes s R.CRY_TAG 4⟩

/-- CRY_JOB written. -/
def jobWritten (s : State) (op : Nat) (slot : BitVec 8) : State := wr s R.CRY_JOB (BitVec.ofNat 32 (slot.toNat * 256 + op))

/-- The job started. -/
def jobStarted (s : State) (op : Nat) (slot : BitVec 8) : State :=
  wr (setCrypto (jobWritten s op slot) { s.crypto with cry := some (cryJob s op slot) }) R.CRY_STAT 0x80000000

theorem onlyRegs_jobWritten (s : State) (op : Nat) (slot : BitVec 8) : OnlyRegs [R.CRY_JOB] s (jobWritten s op slot) :=
  onlyRegs_wr s _ List.mem_cons_self

theorem rd_jobWritten (s : State) (op : Nat) (slot : BitVec 8) {k : Nat} (other : k ≠ R.CRY_JOB) : rd (jobWritten s op slot) k = rd s k :=
  rd_wr_ne s _ other

theorem regBytes_congr {s t : State} {key : Nat → Nat} {n : Nat} (same : ∀ i, i < n → rd t (key i) = rd s (key i)) :
    regBytes t key n = regBytes s key n := by
  unfold regBytes
  exact congrArg List.flatten (List.map_congr_left fun i mem => by rw [same i (List.mem_range.mp mem)])

theorem fields_jobWritten (small : op < 256) : fld (jobWritten s op slot) R.CRY_JOB F.CRY_JOB_OP = op ∧
    fld (jobWritten s op slot) R.CRY_JOB F.CRY_JOB_SLOT = slot.toNat := by
  have word : rd (jobWritten s op slot) R.CRY_JOB = BitVec.ofNat 32 (slot.toNat * 256 + op) := rd_wr_same _ _ _
  have value : (BitVec.ofNat 32 (slot.toNat * 256 + op)).toNat = slot.toNat * 256 + op := by
    rw [BitVec.toNat_ofNat]
    have := slot.isLt
    omega
  have := slot.isLt
  constructor
  · rw [fld, word, bits, value, natBits, Nat.shiftRight_eq_div_pow]
    show (slot.toNat * 256 + op) / 2 ^ 0 % 2 ^ 8 = op
    omega
  · rw [fld, word, bits, value, natBits, Nat.shiftRight_eq_div_pow]
    show (slot.toNat * 256 + op) / 2 ^ 8 % 2 ^ 8 = slot.toNat
    omega

theorem CRY_IV_ne_JOB (i : Nat) : R.CRY_IV i ≠ R.CRY_JOB := by
  unfold R.CRY_IV R.CRY_JOB regKey
  omega

theorem CRY_TAG_ne_JOB (i : Nat) : R.CRY_TAG i ≠ R.CRY_JOB := by
  unfold R.CRY_TAG R.CRY_JOB regKey
  omega

/-- What CRY_GO does, once CRY_JOB is written and the engine is free. -/
theorem cryGo_checks (small : op < 256) (free : flag s R.CRY_STAT F.CRY_STAT_BUSY = false) (awake : s.paused = false) :
    cryGo (jobWritten s op slot) 1 = match cryCheck s (cryJob s op slot) with
      | .none => (jobStarted s op slot, .none)
      | c => (jobWritten s op slot, c) := by
  obtain ⟨opField, slotField⟩ := fields_jobWritten (s := s) (slot := slot) small
  have checks : SameChecks s (jobWritten s op slot) := SameChecks.of_onlyRegs (onlyRegs_jobWritten s op slot) (by decide) (by decide)
  have iv : regBytes (jobWritten s op slot) R.CRY_IV 3 = regBytes s R.CRY_IV 3 := regBytes_congr fun i _ => rd_jobWritten s op slot (CRY_IV_ne_JOB i)
  have tag : regBytes (jobWritten s op slot) R.CRY_TAG 4 = regBytes s R.CRY_TAG 4 := regBytes_congr fun i _ => rd_jobWritten s op slot (CRY_TAG_ne_JOB i)
  have free' : flag (jobWritten s op slot) R.CRY_STAT F.CRY_STAT_BUSY = false :=
    (congrArg (fun w => bits w 31 31 != 0) (rd_jobWritten s op slot (by decide))).trans free
  have pass : ¬ (flag (jobWritten s op slot) R.CRY_STAT F.CRY_STAT_BUSY = true ∨ (jobWritten s op slot).paused = true) := by
    rw [free', show (jobWritten s op slot).paused = false from awake]
    simp
  unfold cryGo
  dsimp only
  rw [opField, slotField, iv, tag, rd_jobWritten s op slot (by decide), rd_jobWritten s op slot (by decide), rd_jobWritten s op slot (by decide),
    rd_jobWritten s op slot (by decide), rd_jobWritten s op slot (by decide), if_neg (by decide), if_neg (by decide), if_neg pass]
  rw [← checks.cryCheck]
  rfl

theorem cryCommand_taken {i : Instr} (run : exec i s = cryCommand q op slot s) (small : op < 256) (hr : Reaches s q 0x91 0x74)
    (free : flag s R.CRY_STAT F.CRY_STAT_BUSY = false) (awake : s.paused = false) (check : cryCheck s (cryJob s op slot) = .none) :
    ∃ t, exec i s = .next t ∧ Accepted t ∧ t.crypto = { s.crypto with cry := some (cryJob s op slot) } ∧ rd t R.CRY_STAT = 0x80000000 ∧
      rd t R.CRY_JOB = BitVec.ofNat 32 (slot.toNat * 256 + op) ∧ SameRegs [R.CRY_JOB, R.CRY_STAT] s t ∧ t.slots = s.slots ∧
      (SameBytes s t ∧ SamePoints s t) := by
  have started : cryGo (jobWritten s op slot) 1 = (jobStarted s op slot, .none) := by rw [cryGo_checks small free awake, check]
  have taken : exec i s = .next (answer (jobStarted s op slot) .none) :=
    run.trans (congrArg Host.Outcome.next (gated_taken (k := fun s => cryGo (jobWritten s op slot) 1) hr started))
  have written := rd_wr_same s R.CRY_JOB (BitVec.ofNat 32 (slot.toNat * 256 + op))
  refine ⟨_, taken, rfl, rfl, rd_wr_same _ _ _, (rd_wr_ne _ _ (by decide)).trans written, fun k out => ?_, rfl, fun _ => rfl, fun _ => rfl⟩
  simp only [List.mem_cons, List.not_mem_nil, or_false, not_or] at out
  exact (rd_wr_ne _ _ out.2).trans (rd_jobWritten s op slot out.1)

theorem cryCommand_refused {i : Instr} (run : exec i s = cryCommand q op slot s) (small : op < 256) (hr : Reaches s q 0x91 0x74)
    (free : flag s R.CRY_STAT F.CRY_STAT_BUSY = false) (awake : s.paused = false) (error : cryCheck s (cryJob s op slot) ≠ .none) :
    ∃ t, exec i s = .next t ∧ t.answer = { code := cryCheck s (cryJob s op slot) } ∧ t.crypto = s.crypto ∧ t.slots = s.slots ∧
      (SameBytes s t ∧ SamePoints s t) := by
  generalize check : cryCheck s (cryJob s op slot) = c at error ⊢
  have refused : cryGo (jobWritten s op slot) 1 = (jobWritten s op slot, c) := by
    rw [cryGo_checks small free awake, check]
    cases c
    case none => exact absurd rfl error
    all_goals rfl
  have only := onlyRegs_jobWritten s op slot
  obtain ⟨bytes, points⟩ := SameData.of_plantData (plantData_of_regsAndEvents only.regsAndEvents)
  obtain ⟨slots, crypto, -, bytes', points'⟩ := rejectWrite_keeps (jobWritten s op slot) 0x91 0x74 c
  have rejected : exec i s = .next (rejectWrite (jobWritten s op slot) 0x91 0x74 c) := by
    rw [run]
    refine congrArg Host.Outcome.next ?_
    rw [gated_reaches hr]
    show endCommand 0x91 0x74 (cryGo (jobWritten s op slot) 1) = _
    rw [refused, endCommand, if_neg error]
  exact ⟨_, rejected, rfl, crypto, slots, fun a => (bytes' a).trans (bytes a), fun n => (points' n).trans (points n)⟩

end

/-! ## The tag's registers -/

theorem leBytes_leNat (l : List Byte) : leBytes l.length (leNat l) = l := by
  induction l with
  | nil => rfl
  | cons b l ih =>
    have low : BitVec.ofNat 8 (b.toNat + 256 * leNat l) = b := by
      apply BitVec.eq_of_toNat_eq
      rw [BitVec.toNat_ofNat]
      have := b.isLt
      omega
    have high : (b.toNat + 256 * leNat l) / 256 = leNat l := by
      have := b.isLt
      omega
    rw [leNat, List.length_cons, leBytes, low, high, ih]

theorem leBytes_word {l : List Byte} (four : l.length = 4) : leBytes 4 (BitVec.ofNat 32 (leNat l)).toNat = l := by
  have fits := leNat_lt l
  rw [four] at fits
  rw [BitVec.toNat_ofNat, Nat.mod_eq_of_lt (by omega)]
  conv_lhs => rw [← four]
  exact leBytes_leNat l

theorem CRY_TAG_inj {m n : Nat} (other : m ≠ n) : R.CRY_TAG m ≠ R.CRY_TAG n := by
  unfold R.CRY_TAG regKey
  omega

theorem rd_putTag (s : State) (b : List Byte) {n : Nat} (small : n < 4) :
    rd (putTag s b) (R.CRY_TAG n) = BitVec.ofNat 32 (leNat (sliceD 0 b (4 * n) 4)) := by
  obtain ⟨u, -, after⟩ := forAll_view (f := fun s n => wr s (R.CRY_TAG n) (BitVec.ofNat 32 (leNat (sliceD 0 b (4 * n) 4))))
    (view := fun u => rd u (R.CRY_TAG n)) (l := upTo 4) (m := n) List.nodup_range (List.mem_range.mpr small)
    (fun u m _ other => rd_wr_ne u _ (CRY_TAG_inj other.symm)) s
  exact after.trans (rd_wr_same u _ _)

theorem regBytes_putTag (s : State) (b : List Byte) : regBytes (putTag s b) R.CRY_TAG 4 = sliceD 0 b 0 16 := by
  have words : regBytes (putTag s b) R.CRY_TAG 4 = ((upTo 4).map fun n => sliceD 0 b (4 * n) 4).flatten := by
    refine congrArg List.flatten (List.map_congr_left fun n mem => ?_)
    rw [rd_putTag s b (List.mem_range.mp mem)]
    exact leBytes_word rfl
  rw [words]
  rfl

theorem onlyRegs_putTag (s : State) (b : List Byte) : OnlyRegs ((upTo 4).map R.CRY_TAG) s (putTag s b) :=
  onlyRegs_forAll (fun _ mem u => onlyRegs_wr u _ (List.mem_map_of_mem mem)) s

/-! ## The end of a job -/

/-- A job has ended with a code and a verdict, having written a range of memory. -/
def CryEnded (s t : State) (dst : Nat) (c : Code) (pass : Bool) (n : Nat) : Prop :=
  t.crypto.cry = none ∧ rd t R.CRY_STAT = BitVec.ofNat 32 ((if pass then 256 else 0) + codeNum c) ∧ (rd t (R.PG_ISR 0x91)).getLsbD 0 = true ∧
    (rd t (R.PG_ISR 0x91)).getLsbD 1 = ((rd s (R.PG_ISR 0x91)).getLsbD 1 || c != .none) ∧ t.slots = s.slots ∧ SamePoints s t ∧
    ∀ a, a < dst ∨ dst + n ≤ a → byteAt t a = byteAt s a

/-- A job has run: its tag or the random stream may have moved. -/
structure JobComputed (s t : State) : Prop where
  isr : rd t (R.PG_ISR 0x91) = rd s (R.PG_ISR 0x91)
  slots : t.slots = s.slots
  points : SamePoints s t
  bytes : SameBytes s t

section
variable {s v : State} {j : CryJob} {dst : Nat}

theorem JobComputed.refl (s : State) : JobComputed s s := ⟨rfl, rfl, fun _ => rfl, fun _ => rfl⟩

theorem jobComputed_putTag (s : State) (b : List Byte) : JobComputed s (putTag s b) := by
  have only := onlyRegs_putTag s b
  obtain ⟨bytes, points⟩ := SameData.of_plantData (plantData_of_regsAndEvents only.regsAndEvents)
  exact ⟨only.regs _ (by decide), by rw [only.rest], points, bytes⟩

theorem jobComputed_drawBytes (s : State) (n : Nat) : JobComputed s (drawBytes s n).1 := ⟨rfl, rfl, fun _ => rfl, fun _ => rfl⟩

theorem slots_cryEnd (s : State) (c : Code) (pass : Bool) : (cryEnd s c pass).slots = s.slots := (opsEnded_cryEnd s c pass).slots

theorem bytes_cryEnd (s : State) (c : Code) (pass : Bool) : SameBytes s (cryEnd s c pass) := (cryEnd_shows s c pass).2.2.2.2.2

theorem cryEnded_cryEnd {u : State} {n : Nat} (ran : JobComputed s v) (written : RangeWritten dst (dst + n) v u) (c : Code) (pass : Bool) :
    CryEnded s (cryEnd u c pass) dst c pass n := by
  obtain ⟨cry, stat, done, failed, points, bytes⟩ := cryEnd_shows u c pass
  refine ⟨cry, stat, done, ?_, (slots_cryEnd u c pass).trans (Eq.trans (by rw [written.rest]) ran.slots),
    fun n => (points n).trans ((written.samePoints n).trans (ran.points n)), fun a out => (bytes a).trans ((written.bytes a out).trans (ran.bytes a))⟩
  rw [failed, written.rd, ran.isr]

theorem tag_cryEnd (s : State) (c : Code) (pass : Bool) : regBytes (cryEnd s c pass) R.CRY_TAG 4 = regBytes s R.CRY_TAG 4 := by
  refine regBytes_congr fun n _ => (rd_raise_ne _ ?_ ?_).trans (rd_wr_ne (cryFreed s) _ ?_)
  · unfold R.CRY_TAG R.PG_ISR regKey
    omega
  · unfold R.CRY_TAG R.EVT_PEND regKey
    omega
  · unfold R.CRY_TAG R.CRY_STAT regKey
    omega

/-- A job that writes its output ends with it there. -/
theorem cryJob_gives (ran : JobComputed s v) (rom : 0x20000 ≤ dst) {b : List Byte} {c : Code} {pass : Bool} (ends : cryComplete s = cryEnd (putBytes v dst b) c pass) :
    ∃ t, exec .cryJobComplete s = .next t ∧ (CryEnded s t dst c pass b.length ∧ bytesAt t dst b.length = b) ∧
      regBytes t R.CRY_TAG 4 = regBytes v R.CRY_TAG 4 := by
  refine ⟨_, congrArg Host.Outcome.next ends, ⟨cryEnded_cryEnd ran (rangeWritten_putBytes v dst b) c pass,
    (bytesAt_congr fun a _ _ => bytes_cryEnd _ c pass a).trans (bytesAt_putBytes_same v b rom)⟩, (tag_cryEnd _ c pass).trans ?_⟩
  exact regBytes_congr fun n _ => rd_putBytes v dst b (R.CRY_TAG n)

/-- A job that only computes its tag ends with it in CRY_TAG. -/
theorem cryJob_tags {b : List Byte} {pass : Bool} (dst : Nat) (ends : cryComplete s = cryEnd (putTag s b) .none pass) :
    ∃ t, exec .cryJobComplete s = .next t ∧ CryEnded s t dst .none pass 0 ∧ regBytes t R.CRY_TAG 4 = sliceD 0 b 0 16 :=
  ⟨_, congrArg Host.Outcome.next ends, cryEnded_cryEnd (jobComputed_putTag s b) (RangeWritten.refl _ _ _) .none pass, (tag_cryEnd _ .none pass).trans (regBytes_putTag s b)⟩

/-- A verification ends with its verdict. -/
theorem cryJob_judges {ok : Bool} (dst : Nat) (ends : cryComplete s = cryVerdict s ok) :
    ∃ t, exec .cryJobComplete s = .next t ∧ CryEnded s t dst (if ok then .none else .auth) ok 0 :=
  ⟨_, congrArg Host.Outcome.next ends, cryEnded_cryEnd (JobComputed.refl s) (RangeWritten.refl _ _ _) _ ok⟩

end

end Sys2Proof.Machine
end

section
/-! SUPPORT. O56: the twelve jobs (R422). -/

namespace Sys2Proof.Machine

open Sys2Proof.Safety

section
variable {s : State} {j : CryJob} (job : s.crypto.cry = some j)
include job

/-- The data that a job works on. -/
def jobData (s : State) (j : CryJob) : List Byte := bytesAt s j.src j.len

/-- What GCM makes of a job's data. -/
def jobSealed (s : State) (j : CryJob) : List Byte × List Byte :=
  gcmSeal (aesKeyOf (slotAt s j.slot)) j.iv (bytesAt s j.aux j.auxLen) (jobData s j)
def jobOpened (s : State) (j : CryJob) : Option (List Byte) :=
  gcmOpen (aesKeyOf (slotAt s j.slot)) j.iv (bytesAt s j.aux j.auxLen) (jobData s j) j.tag

omit job in
theorem cryComplete_idle (idle : s.crypto.cry = none) : exec .cryJobComplete s = .next s := by
  refine congrArg Host.Outcome.next ?_
  unfold cryComplete
  rw [idle]

theorem cryComplete_seals (op : j.op = 1) : cryComplete s = cryEnd (putBytes (putTag s (jobSealed s j).2) j.dst (jobSealed s j).1) .none false := by
  unfold cryComplete
  rw [job]
  exact if_pos op

theorem cryComplete_opens (op : j.op = 2) : cryComplete s = match jobOpened s j with
    | some b => cryEnd (putBytes s j.dst b) .none true
    | none => cryEnd (blankJob s j) .auth false := by
  unfold cryComplete
  rw [job]
  dsimp only
  rw [if_neg (by omega), if_pos op]
  rfl

theorem cryComplete_counts (op : j.op = 3 ∨ j.op = 4) :
    cryComplete s = cryEnd (putBytes s j.dst (ctrCrypt (aesKeyOf (slotAt s j.slot)) (j.iv ++ j.tag.take 4) (jobData s j))) .none false := by
  unfold cryComplete
  rw [job]
  dsimp only
  rw [if_neg (by omega), if_neg (by omega), if_pos (by omega)]
  rfl

theorem cryComplete_macs (op : j.op = 5) : cryComplete s = cryEnd (putTag s (aesCmac (aesKeyOf (slotAt s j.slot)) (jobData s j))) .none false := by
  unfold cryComplete
  rw [job]
  dsimp only
  rw [if_neg (by omega), if_neg (by omega), if_neg (by omega), if_pos op]
  rfl

theorem cryComplete_checksMac (op : j.op = 6) : cryComplete s = cryVerdict s (aesCmac (aesKeyOf (slotAt s j.slot)) (jobData s j) == j.tag) := by
  unfold cryComplete
  rw [job]
  dsimp only
  rw [if_neg (by omega), if_neg (by omega), if_neg (by omega), if_neg (by omega), if_pos op]
  rfl

theorem cryComplete_hmacs (op : j.op = 7) : cryComplete s = cryEnd (putBytes (putTag s ((hmac256 (slotAt s j.slot).material (jobData s j)).take 16)) j.dst
    (hmac256 (slotAt s j.slot).material (jobData s j))) .none false := by
  unfold cryComplete
  rw [job]
  dsimp only
  rw [if_neg (by omega), if_neg (by omega), if_neg (by omega), if_neg (by omega), if_neg (by omega), if_pos op]
  rfl

theorem cryComplete_checksHmac (op : j.op = 8) :
    cryComplete s = cryVerdict s (hmac256 (slotAt s j.slot).material (jobData s j) == bytesAt s j.aux 32) := by
  unfold cryComplete
  rw [job]
  dsimp only
  rw [if_neg (by omega), if_neg (by omega), if_neg (by omega), if_neg (by omega), if_neg (by omega), if_neg (by omega), if_pos op]
  rfl

/-- The random bytes that a signature draws. -/
def signDrawn (s : State) : List Byte := (drawBytes s 40).2

theorem cryComplete_signs (op : j.op = 9) : cryComplete s = cryEnd (putBytes (drawBytes s 40).1 j.dst
    (ecdsaSign (beNat (slotAt s j.slot).material) (beNat (ecKeyOf (signDrawn s))) (sha256 (jobData s j)))) .none false := by
  have data : bytesAt (drawBytes s 40).1 j.src j.len = jobData s j := bytesAt_congr fun _ _ _ => rfl
  unfold cryComplete
  rw [job]
  dsimp only
  rw [if_neg (by omega), if_neg (by omega), if_neg (by omega), if_neg (by omega), if_neg (by omega), if_neg (by omega), if_neg (by omega), if_pos op, data]
  rfl

theorem cryComplete_derives (op : j.op = 10) : cryComplete s = cryEnd (putBytes s j.dst (ecPublic (beNat (slotAt s j.slot).material))) .none false := by
  unfold cryComplete
  rw [job]
  dsimp only
  rw [if_neg (by omega), if_neg (by omega), if_neg (by omega), if_neg (by omega), if_neg (by omega), if_neg (by omega), if_neg (by omega), if_neg (by omega),
    if_pos op]

theorem cryComplete_checksSign (op : j.op = 11) :
    cryComplete s = cryVerdict s (ecdsaVerify ((bytesAt s j.aux 128).take 64) (sha256 (jobData s j)) ((bytesAt s j.aux 128).drop 64)) := by
  unfold cryComplete
  rw [job]
  dsimp only
  rw [if_neg (by omega), if_neg (by omega), if_neg (by omega), if_neg (by omega), if_neg (by omega), if_neg (by omega), if_neg (by omega), if_neg (by omega),
    if_neg (by omega), if_pos op]
  rfl

theorem cryComplete_hashes (op : j.op = 12) : cryComplete s = cryEnd (putBytes s j.dst (sha256 (jobData s j))) .none false := by
  unfold cryComplete
  rw [job]
  dsimp only
  rw [if_neg (by omega), if_neg (by omega), if_neg (by omega), if_neg (by omega), if_neg (by omega), if_neg (by omega), if_neg (by omega), if_neg (by omega),
    if_neg (by omega), if_neg (by omega)]
  rfl

/-! ## As the engine shows them -/

theorem cryJob_seals (op : j.op = 1) (rom : 0x20000 ≤ j.dst) : ∃ t, exec .cryJobComplete s = .next t ∧
    (CryEnded s t j.dst .none false (jobSealed s j).1.length ∧ bytesAt t j.dst (jobSealed s j).1.length = (jobSealed s j).1) ∧
    regBytes t R.CRY_TAG 4 = sliceD 0 (jobSealed s j).2 0 16 := by
  obtain ⟨t, run, gives, tag⟩ := cryJob_gives (jobComputed_putTag s _) rom (cryComplete_seals job op)
  exact ⟨t, run, gives, tag.trans (regBytes_putTag s _)⟩

theorem cryJob_opens (op : j.op = 2) (rom : 0x20000 ≤ j.dst) {b : List Byte} (opened : jobOpened s j = some b) :
    ∃ t, exec .cryJobComplete s = .next t ∧ CryEnded s t j.dst .none true b.length ∧ bytesAt t j.dst b.length = b := by
  have ends := cryComplete_opens job op
  rw [opened] at ends
  obtain ⟨t, run, ⟨ended, bytes⟩, -⟩ := cryJob_gives (JobComputed.refl s) rom ends
  exact ⟨t, run, ended, bytes⟩

theorem cryJob_blanks (op : j.op = 2) (rom : 0x20000 ≤ j.dst) (failed : jobOpened s j = none) :
    ∃ t, exec .cryJobComplete s = .next t ∧ CryEnded s t j.dst .auth false j.len ∧ bytesAt t j.dst j.len = List.replicate j.len 0 := by
  have ends := cryComplete_opens job op
  have blank : blankJob s j = putBytes s j.dst (List.replicate j.len 0) := by
    unfold blankJob cryOut
    rw [if_neg (by omega), if_pos (by omega)]
    rfl
  rw [failed] at ends
  dsimp only at ends
  rw [blank] at ends
  obtain ⟨t, run, ⟨ended, bytes⟩, -⟩ := cryJob_gives (JobComputed.refl s) rom ends
  rw [List.length_replicate] at ended bytes
  exact ⟨t, run, ended, bytes⟩

theorem cryJob_hmacs (op : j.op = 7) (rom : 0x20000 ≤ j.dst) : let h := hmac256 (slotAt s j.slot).material (jobData s j)
    ∃ t, exec .cryJobComplete s = .next t ∧ (CryEnded s t j.dst .none false h.length ∧ bytesAt t j.dst h.length = h) ∧
      regBytes t R.CRY_TAG 4 = sliceD 0 (h.take 16) 0 16 := by
  obtain ⟨t, run, gives, tag⟩ := cryJob_gives (jobComputed_putTag s _) rom (cryComplete_hmacs job op)
  exact ⟨t, run, gives, tag.trans (regBytes_putTag s _)⟩

theorem cryJob_signs (op : j.op = 9) (rom : 0x20000 ≤ j.dst) : ∃ t c, exec .cryJobComplete s = .next t ∧ c.length = 40 ∧
    (let b := ecdsaSign (beNat (slotAt s j.slot).material) (beNat (ecKeyOf c)) (sha256 (jobData s j))
     CryEnded s t j.dst .none false b.length ∧ bytesAt t j.dst b.length = b) := by
  obtain ⟨t, run, gives, -⟩ := cryJob_gives (jobComputed_drawBytes s 40) rom (cryComplete_signs job op)
  exact ⟨t, signDrawn s, run, by rw [signDrawn, drawBytes, List.length_map, upTo, List.length_range], gives⟩

omit job in
/-- A job that only writes its output. -/
theorem cryJob_writes {b : List Byte} (rom : 0x20000 ≤ j.dst) (ends : cryComplete s = cryEnd (putBytes s j.dst b) .none false) :
    ∃ t, exec .cryJobComplete s = .next t ∧ CryEnded s t j.dst .none false b.length ∧ bytesAt t j.dst b.length = b := by
  obtain ⟨t, run, gives, -⟩ := cryJob_gives (JobComputed.refl s) rom ends
  exact ⟨t, run, gives⟩

end

end Sys2Proof.Machine
end

section
/-! SUPPORT. O56: the latch and the response of the tamper block (R428 to R431). -/

namespace Sys2Proof.Machine

open Sys2Proof.Safety

/-! ## Updates beside the Crucible -/

/-- An update of the registers of some pages, beside the slots and the operations of the Crucible. -/
structure CryptoBeside (ps : List Nat) (s t : State) : Prop where
  pages : PageUpdate ps s t
  slots : t.slots = s.slots
  crypto : t.crypto = s.crypto

section
variable {ps : List Nat} {s t u : State}

theorem CryptoBeside.refl (ps : List Nat) (s : State) : CryptoBeside ps s s := ⟨PageUpdate.refl ps s, rfl, rfl⟩

theorem CryptoBeside.trans (h : CryptoBeside ps s t) (k : CryptoBeside ps t u) : CryptoBeside ps s u :=
  ⟨h.pages.trans k.pages, k.slots.trans h.slots, k.crypto.trans h.crypto⟩

theorem CryptoBeside.samePoints (h : CryptoBeside ps s t) : SamePoints s t := (SameData.of_plantData h.pages.data).2

theorem CryptoBeside.sameBytes (h : CryptoBeside ps s t) : SameBytes s t := (SameData.of_plantData h.pages.data).1

theorem cryptoBeside_wr (s : State) {k : Nat} (v : Word) (mem : keyPage k ∈ ps) : CryptoBeside ps s (wr s k v) := ⟨pageUpdate_wr s v mem, rfl, rfl⟩

theorem cryptoBeside_setFld (s : State) {k : Nat} (f : Fld) (v : Nat) (mem : keyPage k ∈ ps) : CryptoBeside ps s (setFld s k f v) :=
  cryptoBeside_wr s _ mem

theorem cryptoBeside_ite {c : Prop} [Decidable c] (h : CryptoBeside ps s t) (k : CryptoBeside ps s u) : CryptoBeside ps s (if c then t else u) := by
  split
  · exact h
  · exact k

theorem cryptoBeside_raiseBit (s : State) {page : Nat} (n : Nat) (hp : page < 256) (mem : page ∈ ps) (matrix : 0x07 ∈ ps) :
    CryptoBeside ps s (raiseBit s page n) :=
  ⟨pageUpdate_raiseBit s n hp mem matrix, raiseBit_slots s page n, raiseBit_crypto s page n⟩

theorem cryptoBeside_evtSet (s : State) {src : Nat} (hs : src < 512) (matrix : 0x07 ∈ ps) : CryptoBeside ps s (evtSet s src) := by
  refine ⟨⟨plantData_evtSet s src, evtSet_twin s src, fun k out => rd_evtSet_ne s fun e => out ?_⟩, evtSet_slots s src, evtSet_crypto s src⟩
  rwa [e, keyPage_pend (by omega)]

end

/-! ## The latch (R428) -/

section
variable {s : State} {n : Nat}

/-- The pin's level shown. -/
def pinShown (s : State) (n : Nat) : State :=
  if n ≤ 3 then wr s R.TMP_PINS (withBits (rd s R.TMP_PINS) n n (b2n ((fld s R.TMP_CFG F.TMP_CFG_POL).testBit n))) else s

/-- The source seen. -/
def seenShown (s : State) (n : Nat) : State := setFld s R.TMP_LATCH ⟨n, n⟩ 1

/-- The first source shown. -/
def firstShown (s : State) (n : Nat) : State := setFld (setFld s R.TMP_LATCH F.TMP_LATCH_VALID 1) R.TMP_LATCH F.TMP_LATCH_FIRST (2 ^ n)

/-- The timestamp and the context of the first event shown. -/
def stampShown (s : State) (a b : Word) : State := wr (wr s (R.TMP_TS 0) a) (R.TMP_TS 1) b

def contextShown (s : State) : State := wr s R.TMP_CTX (BitVec.ofNat 32 (tamperCase s))

theorem tamperLatch_full (full : flag (seenShown s n) R.TMP_LATCH F.TMP_LATCH_VALID = true) :
    tamperLatch s n = raiseBit (setFld (seenShown s n) R.TMP_LATCH F.TMP_LATCH_OVF 1) 0x05 0 :=
  congrArg (raiseBit · 0x05 0) (if_pos full)

theorem tamperLatch_clear (clear : flag (seenShown s n) R.TMP_LATCH F.TMP_LATCH_VALID = false) :
    ∃ a b, tamperLatch s n = raiseBit (contextShown (stampShown (firstShown (seenShown s n) n) a b)) 0x05 0 :=
  ⟨_, _, congrArg (raiseBit · 0x05 0) (if_neg fun full => absurd (clear.symm.trans full) (by decide))⟩

theorem latch_pages (u : State) (f : Fld) (v : Nat) : CryptoBeside [0x05, 0x07] u (setFld u R.TMP_LATCH f v) := cryptoBeside_setFld u f v (by decide)

theorem stamp_pages (s : State) (a b : Word) : CryptoBeside [0x05, 0x07] s (stampShown s a b) :=
  (cryptoBeside_wr s _ (by decide)).trans (cryptoBeside_wr _ _ (by decide))

theorem pin_pages (s : State) (n : Nat) : CryptoBeside [0x05, 0x07] s (pinShown s n) :=
  cryptoBeside_ite (cryptoBeside_wr s _ (by decide)) (CryptoBeside.refl _ s)

theorem tamperLatch_pages (s : State) (n : Nat) : CryptoBeside [0x05, 0x07] s (tamperLatch s n) := by
  have raised (u : State) : CryptoBeside [0x05, 0x07] u (raiseBit u 0x05 0) := cryptoBeside_raiseBit u 0 (by decide) (by decide) (by decide)
  have seen := latch_pages s ⟨n, n⟩ 1
  cases valid : flag (seenShown s n) R.TMP_LATCH F.TMP_LATCH_VALID with
  | true =>
    rw [tamperLatch_full valid]
    exact (seen.trans (latch_pages _ _ _)).trans (raised _)
  | false =>
    obtain ⟨a, b, latched⟩ := tamperLatch_clear valid
    have first : CryptoBeside [0x05, 0x07] (seenShown s n) (firstShown (seenShown s n) n) := (latch_pages _ _ _).trans (latch_pages _ _ _)
    rw [latched]
    exact (((seen.trans first).trans (stamp_pages _ a b)).trans (cryptoBeside_wr _ _ (by decide))).trans (raised _)

theorem tamperLatch_cfg (s : State) (n : Nat) : rd (tamperLatch s n) R.TMP_CFG = rd s R.TMP_CFG := by
  have raised (u : State) : rd (raiseBit u 0x05 0) R.TMP_CFG = rd u R.TMP_CFG := rd_raiseBit_ne u (by decide) (by decide)
  have latch (u : State) (f : Fld) (v : Nat) : rd (setFld u R.TMP_LATCH f v) R.TMP_CFG = rd u R.TMP_CFG := rd_setFld_ne u f v (by decide)
  have seen : rd (seenShown s n) R.TMP_CFG = rd s R.TMP_CFG := latch s _ _
  cases valid : flag (seenShown s n) R.TMP_LATCH F.TMP_LATCH_VALID with
  | true =>
    rw [tamperLatch_full valid, raised, latch, seen]
  | false =>
    obtain ⟨a, b, latched⟩ := tamperLatch_clear valid
    have stamped (u : State) : rd (stampShown u a b) R.TMP_CFG = rd u R.TMP_CFG := (rd_wr_ne _ _ (by decide)).trans (rd_wr_ne _ _ (by decide))
    rw [latched, raised, contextShown, rd_wr_ne _ _ (by decide), stamped, firstShown, latch, latch, seen]

theorem tamperLatch_isr (s : State) (n : Nat) : (rd (tamperLatch s n) (R.PG_ISR 0x05)).getLsbD 0 = true := by
  cases valid : flag (seenShown s n) R.TMP_LATCH F.TMP_LATCH_VALID with
  | true =>
    rw [tamperLatch_full valid]
    exact raiseBit_isr_bit _ (by decide) (by decide)
  | false =>
    obtain ⟨a, b, latched⟩ := tamperLatch_clear valid
    rw [latched]
    exact raiseBit_isr_bit _ (by decide) (by decide)

/-- What the case of an event is read from. -/
theorem tamperCase_congr {t : State} (h : CryptoBeside [0x05, 0x07] s t) : tamperCase t = tamperCase s := by
  have mode : modeNow t = modeNow s := h.pages.fld (by decide) F.SYS_MODE_MODE
  have dom : domC t 12 = domC s 12 := h.pages.fld (by decide) F.PWR_DOMSTAT_CSTATE
  have xch : xchState t = xchState s := h.pages.fld (by decide) F.XCH_STATUS_STATE
  have busy : keyBusy t = keyBusy s := by rw [keyBusy, keyBusy, h.crypto, xch]
  rw [tamperCase, tamperCase, mode, dom, busy]

theorem getLsbD_setFld_other (s : State) (k : Nat) (f : Fld) (v i : Nat) (h : f.lo ≤ f.hi) (h32 : f.hi < 32) (out : i < f.lo ∨ f.hi < i) :
    (rd (setFld s k f v) k).getLsbD i = (rd s k).getLsbD i := by
  rw [rd_setFld_same, withBits_getLsbD _ _ _ h h32, if_neg (by omega)]

variable (small : n < 6)
include small

theorem seenShown_bit (s : State) : (rd (seenShown s n) R.TMP_LATCH).getLsbD n = true := by
  rw [seenShown, rd_setFld_same, withBits_getLsbD _ _ _ (Nat.le_refl n) (by omega)]
  simp

theorem seenShown_fld (s : State) {f : Fld} (high : 6 ≤ f.lo) : fld (seenShown s n) R.TMP_LATCH f = fld s R.TMP_LATCH f :=
  fld_setFld_other s _ ⟨n, n⟩ f 1 (Nat.le_refl n) (show n < 32 by omega) (.inr (show n < f.lo by omega))

/-- An event when one is latched already: it is counted as seen, and OVF is set. -/
theorem tamperLatch_overflows (full : flag s R.TMP_LATCH F.TMP_LATCH_VALID = true) : let t := tamperLatch s n
    flag t R.TMP_LATCH F.TMP_LATCH_VALID = true ∧ (rd t R.TMP_LATCH).getLsbD n = true ∧ flag t R.TMP_LATCH F.TMP_LATCH_OVF = true ∧
      rd t R.TMP_CTX = rd s R.TMP_CTX ∧ fld t R.TMP_LATCH F.TMP_LATCH_FIRST = fld s R.TMP_LATCH F.TMP_LATCH_FIRST ∧
      ∀ i : Fin 2, rd t (R.TMP_TS i.val) = rd s (R.TMP_TS i.val) := by
  have valid : flag (seenShown s n) R.TMP_LATCH F.TMP_LATCH_VALID = true := (congrArg (· != 0) (seenShown_fld small s (by decide))).trans full
  rw [tamperLatch_full valid]
  have keys {k : Nat} (isr : k ≠ R.PG_ISR 0x05) (pend : k ≠ R.EVT_PEND 0) : rd (raiseBit (setFld (seenShown s n) R.TMP_LATCH F.TMP_LATCH_OVF 1) 0x05 0) k =
    rd (setFld (seenShown s n) R.TMP_LATCH F.TMP_LATCH_OVF 1) k := rd_raiseBit_ne _ isr pend
  have latch := keys (k := R.TMP_LATCH) (by decide) (by decide)
  have other {k : Nat} (out : k ≠ R.TMP_LATCH) : rd (setFld (seenShown s n) R.TMP_LATCH F.TMP_LATCH_OVF 1) k = rd s k :=
    (rd_setFld_ne _ _ _ out).trans (rd_setFld_ne _ _ _ out)
  refine ⟨?_, ?_, ?_, ?_, ?_, fun i => ?_⟩
  · exact (congrArg (fun w => bits w 31 31 != 0) latch).trans ((congrArg (· != 0)
      (fld_setFld_other _ _ F.TMP_LATCH_OVF F.TMP_LATCH_VALID 1 (by decide) (by decide) (by decide))).trans valid)
  · rw [latch, getLsbD_setFld_other _ _ F.TMP_LATCH_OVF _ _ (by decide) (by decide) (.inl (show n < 30 by omega))]
    exact seenShown_bit small s
  · exact (congrArg (fun w => bits w 30 30 != 0) latch).trans (congrArg (· != 0) (fld_setFld_same _ _ F.TMP_LATCH_OVF 1 (by decide) (by decide)))
  · exact (keys (by decide) (by decide)).trans (other (by decide))
  · exact (congrArg (bits · 13 8) latch).trans ((fld_setFld_other _ _ F.TMP_LATCH_OVF F.TMP_LATCH_FIRST 1 (by decide) (by decide) (by decide)).trans
      (seenShown_fld small s (by decide)))
  · match i with
    | 0 => exact (keys (by decide) (by decide)).trans (other (by decide))
    | 1 => exact (keys (by decide) (by decide)).trans (other (by decide))

/-- The first event: its source, its time and its case are latched. -/
theorem tamperLatch_first (clear : flag s R.TMP_LATCH F.TMP_LATCH_VALID = false) : let t := tamperLatch s n
    flag t R.TMP_LATCH F.TMP_LATCH_VALID = true ∧ (rd t R.TMP_LATCH).getLsbD n = true ∧ fld t R.TMP_LATCH F.TMP_LATCH_FIRST = 2 ^ n ∧
      rd t R.TMP_CTX = BitVec.ofNat 32 (tamperCase s) := by
  have invalid : flag (seenShown s n) R.TMP_LATCH F.TMP_LATCH_VALID = false := (congrArg (· != 0) (seenShown_fld small s (by decide))).trans clear
  obtain ⟨a, b, latched⟩ := tamperLatch_clear invalid
  have same : tamperCase (stampShown (firstShown (seenShown s n) n) a b) = tamperCase s :=
    tamperCase_congr ((((latch_pages s _ _).trans (latch_pages _ _ _)).trans (latch_pages _ _ _)).trans (stamp_pages _ a b))
  have keys {k : Nat} (isr : k ≠ R.PG_ISR 0x05) (pend : k ≠ R.EVT_PEND 0) : rd (tamperLatch s n) k =
      rd (contextShown (stampShown (firstShown (seenShown s n) n) a b)) k := by
    rw [latched]
    exact rd_raiseBit_ne _ isr pend
  have latch : rd (tamperLatch s n) R.TMP_LATCH = rd (firstShown (seenShown s n) n) R.TMP_LATCH :=
    (keys (by decide) (by decide)).trans ((rd_wr_ne _ _ (by decide)).trans ((rd_wr_ne _ _ (by decide)).trans (rd_wr_ne _ _ (by decide))))
  refine ⟨?_, ?_, ?_, ?_⟩
  · refine (congrArg (fun w => bits w 31 31 != 0) latch).trans ?_
    exact (congrArg (· != 0) (fld_setFld_other _ _ F.TMP_LATCH_FIRST F.TMP_LATCH_VALID _ (by decide) (by decide) (by decide))).trans
      (congrArg (· != 0) (fld_setFld_same _ R.TMP_LATCH F.TMP_LATCH_VALID 1 (by decide) (by decide)))
  · rw [latch, firstShown, getLsbD_setFld_other _ _ F.TMP_LATCH_FIRST _ _ (by decide) (by decide) (.inl (show n < 8 by omega)),
      getLsbD_setFld_other _ _ F.TMP_LATCH_VALID _ _ (by decide) (by decide) (.inl (show n < 31 by omega))]
    exact seenShown_bit small s
  · refine (congrArg (bits · 13 8) latch).trans ((fld_setFld_same _ _ F.TMP_LATCH_FIRST _ (by decide) (by decide)).trans (Nat.mod_eq_of_lt ?_))
    exact Nat.pow_lt_pow_right (by decide) small
  · rw [keys (by decide) (by decide), contextShown, same]
    exact rd_wr_same _ _ _

end

end Sys2Proof.Machine
end

section
/-! SUPPORT. O56: what a tamper event's response leaves of the keys (R429, R430). -/

namespace Sys2Proof.Machine

open Sys2Proof.Safety

/-! ## The response's steps -/

/-- A step of the response: the SYS and TMP pages and the points stay, and slots are at most emptied. -/
structure Responds (s t : State) : Prop where
  pages : ∀ k, keyPage k ∈ [0x00, 0x05] → rd t k = rd s k
  points : SamePoints s t
  slots : ∀ n, slotAt t n = slotAt s n ∨ filled t n = false

section
variable {s t u : State}

theorem Responds.refl (s : State) : Responds s s := ⟨fun _ _ => rfl, fun _ => rfl, fun _ => .inl rfl⟩

theorem Responds.trans (h : Responds s t) (k : Responds t u) : Responds s u := by
  refine ⟨fun n page => (k.pages n page).trans (h.pages n page), fun n => (k.points n).trans (h.points n), fun n => ?_⟩
  obtain same | gone := k.slots n
  · rw [filled, same]
    exact h.slots n
  · exact .inr gone

theorem Responds.fld (h : Responds s t) {k : Nat} (page : keyPage k ∈ [0x00, 0x05]) (f : Fld) : fld t k f = Machine.fld s k f :=
  congrArg (bits · f.hi f.lo) (h.pages k page)

theorem Responds.modeNow (h : Responds s t) : modeNow t = Machine.modeNow s := h.fld (by decide) F.SYS_MODE_MODE

theorem Responds.erase (h : Responds s t) : flag t R.TMP_CFG F.TMP_CFG_ERASE = flag s R.TMP_CFG F.TMP_CFG_ERASE :=
  congrArg (· != 0) (h.fld (by decide) F.TMP_CFG_ERASE)

theorem Responds.empty (h : Responds s t) {n : Nat} (out : filled s n = false) : filled t n = false := by
  obtain same | gone := h.slots n
  · rwa [filled, same]
  · exact gone

theorem responds_of_slots (slots : t.slots = s.slots) (pages : ∀ k, keyPage k ∈ [0x00, 0x05] → rd t k = rd s k) (points : SamePoints s t) : Responds s t :=
  ⟨pages, points, fun n => .inl (congrArg (tget _ · n) slots)⟩

theorem OpsEnded.responds (h : OpsEnded s t) : Responds s t := by
  refine responds_of_slots h.slots (fun k page => h.pages k ?_) h.samePoints
  simp only [List.mem_cons, List.not_mem_nil, or_false] at page ⊢
  omega

theorem Emptied.responds (h : Emptied s t) : Responds s t :=
  ⟨fun k _ => h.keys.rd k, samePoints_of_points (by rw [h.keys]), h.slots⟩

theorem responds_setCrypto (s : State) (x : Crypto) : Responds s (setCrypto s x) := responds_of_slots rfl (fun _ _ => rfl) fun _ => rfl

/-! ## The flush (R429) -/

theorem sealByTamper_seals (s : State) : Responds s (sealByTamper s) ∧ (sealByTamper s).slots = [] ∧
    flag (sealByTamper s) R.CRU_STAT F.CRU_STAT_SEALED = true := by
  refine ⟨⟨fun k page => rd_wr_ne _ _ fun e => ?_, fun _ => rfl, fun _ => .inr (show attrValid 0 = false by decide)⟩, rfl, ?_⟩
  · rw [e] at page
    exact absurd page (by decide)
  · exact congrArg (· != 0) (fld_setFld_same { s with slots := [] } R.CRU_STAT F.CRU_STAT_SEALED 1 (by decide) (by decide))

/-- The slots that the case of an event flushes. -/
def tamperFlush (s : State) (c : Nat) : State :=
  let s := if c = 3 then abortOps s else s
  if c = 1 then sealByTamper s else if c = 5 then s else settleOps (raiseBit (flushWhere s volatileSlot) 0x90 2)

theorem opsEnded_flushShown (s : State) : OpsEnded s (settleOps (raiseBit s 0x90 2)) := (opsEnded_raise s _ (.inl rfl)).trans (opsEnded_settleOps _)

theorem responds_tamperFlush (s : State) (c : Nat) : Responds s (tamperFlush s c) := by
  have aborted : Responds s (if c = 3 then abortOps s else s) := (opsEnded_ite (opsEnded_abortOps s) (OpsEnded.refl s)).responds
  unfold tamperFlush
  dsimp only
  split
  · exact aborted.trans (sealByTamper_seals _).1
  · split
    · exact aborted
    · exact (aborted.trans (emptied_flushWhere _ _).responds).trans (opsEnded_flushShown _).responds

theorem tamperFlush_seals (s : State) : (tamperFlush s 1).slots = [] ∧ flag (tamperFlush s 1) R.CRU_STAT F.CRU_STAT_SEALED = true :=
  (sealByTamper_seals s).2

theorem tamperFlush_unpowered (s : State) : tamperFlush s 5 = s := rfl

/-- What makes a slot volatile is the same while it keeps its key. -/
theorem volatileSlot_congr {n : Nat} (slot : slotAt t n = slotAt s n) (stat : rd t R.CRU_STAT = rd s R.CRU_STAT) : volatileSlot t n = volatileSlot s n := by
  have debug : debugRoot t = debugRoot s := congrArg (fun w => bits w 30 30 != 0) stat
  rw [volatileSlot, volatileSlot, slot, debug]

theorem tamperFlush_empties {c : Nat} (running : c ≠ 1) (powered : c ≠ 5) {i : Nat} (small : i < 256) (volatile : volatileSlot s i = true) :
    filled (tamperFlush s c) i = false := by
  have ended : OpsEnded s (if c = 3 then abortOps s else s) := opsEnded_ite (opsEnded_abortOps s) (OpsEnded.refl s)
  unfold tamperFlush
  rw [if_neg running, if_neg powered]
  refine (opsEnded_flushShown _).responds.empty (flushWhere_empty small fun u emptied full => ?_)
  rw [volatileSlot_congr ((emptied.kept full).trans (ended.slotAt i)) ((emptied.keys.rd _).trans ended.stat)]
  exact volatile

/-! ## The erase (R430) -/

/-- A slot other than 0 whose key is persistent. -/
def keptSlot (s : State) (n : Nat) : Bool := n != 0 && attrValid (slotAt s n).attr && attrPersist (slotAt s n).attr

theorem tamperErase_off (off : flag s R.TMP_CFG F.TMP_CFG_ERASE = false) : tamperErase s = s := by
  unfold tamperErase
  rw [off]
  rfl

theorem tamperErase_waits (on : flag s R.TMP_CFG F.TMP_CFG_ERASE = true) (unpowered : modeNow s = 0) :
    tamperErase s = setCrypto s { s.crypto with erasePend := true } := by
  unfold tamperErase
  rw [on]
  exact if_pos unpowered

theorem tamperErase_erases (on : flag s R.TMP_CFG F.TMP_CFG_ERASE = true) (powered : modeNow s ≠ 0) :
    tamperErase s = storeCleared (flushWhere s keptSlot) := by
  unfold tamperErase
  rw [on]
  exact if_neg powered

theorem responds_tamperErase (s : State) : Responds s (tamperErase s) := by
  cases erase : flag s R.TMP_CFG F.TMP_CFG_ERASE with
  | false =>
    rw [tamperErase_off erase]
    exact Responds.refl s
  | true =>
    by_cases powered : modeNow s = 0
    · rw [tamperErase_waits erase powered]
      exact responds_setCrypto s _
    · rw [tamperErase_erases erase powered]
      exact (emptied_flushWhere s keptSlot).responds.trans (responds_setCrypto _ _)

theorem tamperErase_clears (on : flag s R.TMP_CFG F.TMP_CFG_ERASE = true) (powered : modeNow s ≠ 0) : (tamperErase s).crypto.store = [] ∧
    ∀ i, i < 256 → i ≠ 0 → attrPersist (slotAt s i).attr = true → filled (tamperErase s) i = false := by
  rw [tamperErase_erases on powered]
  refine ⟨rfl, fun i small other persist => (responds_setCrypto _ _).empty (flushWhere_empty small fun u emptied full => ?_)⟩
  have same := emptied.kept full
  rw [filled] at full
  rw [keptSlot, full, same, persist]
  simp [other]

theorem tamperErase_unpowered (unpowered : modeNow s = 0) : (tamperErase s).slots = s.slots ∧ (tamperErase s).crypto.store = s.crypto.store ∧
    (tamperErase s).crypto.erasePend = (s.crypto.erasePend || flag s R.TMP_CFG F.TMP_CFG_ERASE) := by
  cases erase : flag s R.TMP_CFG F.TMP_CFG_ERASE with
  | false =>
    rw [tamperErase_off erase, Bool.or_false]
    exact ⟨rfl, rfl, rfl⟩
  | true =>
    rw [tamperErase_waits erase unpowered, Bool.or_true]
    exact ⟨rfl, rfl, rfl⟩

theorem flushSteps_nothing {p : State → Nat → Bool} {l : List Nat} (none : ∀ n, p s n = false) : forAll (flushStep p) l s = s := by
  induction l with
  | nil => rfl
  | cons n l ih =>
    show forAll (flushStep p) l (flushStep p s n) = s
    rw [flushStep, none n]
    exact ih

/-- With no slot filled, an erase leaves the slots and CRU_STAT. -/
theorem tamperErase_sealed (powered : modeNow s ≠ 0) (empty : s.slots = []) : (tamperErase s).slots = [] ∧
    rd (tamperErase s) R.CRU_STAT = rd s R.CRU_STAT := by
  cases erase : flag s R.TMP_CFG F.TMP_CFG_ERASE with
  | false =>
    rw [tamperErase_off erase]
    exact ⟨empty, rfl⟩
  | true =>
    have nothing (n : Nat) : keptSlot s n = false := by
      rw [keptSlot, slotAt, empty]
      exact (congrArg (· && attrPersist 0) (congrArg (n != 0 && ·) (by decide : attrValid 0 = false))).trans (by simp)
    rw [tamperErase_erases erase powered, flushWhere_eq, flushSteps_nothing nothing]
    exact ⟨empty, rfl⟩

/-! ## The whole response -/

/-- The response but for the domains that it wakes. -/
def tamperSettled (s : State) (c : Nat) : State := settleOps (tamperErase (tamperFlush s c))

theorem responds_tamperSettled (s : State) (c : Nat) : Responds s (tamperSettled s c) :=
  ((responds_tamperFlush s c).trans (responds_tamperErase _)).trans (opsEnded_settleOps _).responds

theorem tamperSettled_seals (powered : modeNow s ≠ 0) : (tamperSettled s 1).slots = [] ∧ flag (tamperSettled s 1) R.CRU_STAT F.CRU_STAT_SEALED = true := by
  obtain ⟨flushed, shown⟩ := tamperFlush_seals s
  obtain ⟨slots, stat⟩ := tamperErase_sealed (s := tamperFlush s 1) (by rwa [(responds_tamperFlush s 1).modeNow]) flushed
  have ended := opsEnded_settleOps (tamperErase (tamperFlush s 1))
  exact ⟨ended.slots.trans slots, (congrArg (fun w => bits w 31 31 != 0) (ended.stat.trans stat)).trans shown⟩

theorem tamperSettled_empties {c : Nat} (running : c ≠ 1) (powered : c ≠ 5) {i : Nat} (small : i < 256) (volatile : volatileSlot s i = true) :
    filled (tamperSettled s c) i = false :=
  (opsEnded_settleOps _).responds.empty ((responds_tamperErase _).empty (tamperFlush_empties running powered small volatile))

theorem tamperSettled_unpowered (unpowered : modeNow s = 0) : (tamperSettled s 5).slots = s.slots ∧
    (tamperSettled s 5).crypto.store = s.crypto.store ∧
    (tamperSettled s 5).crypto.erasePend = (s.crypto.erasePend || flag s R.TMP_CFG F.TMP_CFG_ERASE) := by
  obtain ⟨slots, store, pend⟩ := tamperErase_unpowered unpowered
  have ended := opsEnded_settleOps (tamperErase s)
  exact ⟨ended.slots.trans slots, ended.store.trans store, ended.erasePend.trans pend⟩

theorem tamperSettled_clears {c : Nat} (on : flag s R.TMP_CFG F.TMP_CFG_ERASE = true) (powered : modeNow s ≠ 0) : (tamperSettled s c).crypto.store = [] ∧
    ∀ i, i < 256 → i ≠ 0 → attrPersist (slotAt s i).attr = true → filled (tamperSettled s c) i = false := by
  have flushed := responds_tamperFlush s c
  obtain ⟨store, empties⟩ := tamperErase_clears (flushed.erase.trans on) (by rwa [flushed.modeNow])
  have ended := opsEnded_settleOps (tamperErase (tamperFlush s c))
  refine ⟨ended.store.trans store, fun i small other persist => ended.responds.empty ?_⟩
  obtain same | gone := flushed.slots i
  · exact empties i small other (by rwa [same])
  · exact (responds_tamperErase _).empty gone

/-- Domains 2 and 12 are demanded, where a flush met domain 12 out of C0 and TMP_CFG asks for a wake. -/
def eraseDemanded (s : State) : State := demand (demand s 2) 12

theorem tamperRespond_eq (s : State) (c : Nat) : tamperRespond s c =
    if c = 2 ∧ flag (tamperSettled s c) R.TMP_CFG F.TMP_CFG_WAKE = true then eraseDemanded (tamperSettled s c) else tamperSettled s c := rfl

theorem tamperRespond_shows (s : State) (c : Nat) : (tamperRespond s c).slots = (tamperSettled s c).slots ∧
    (tamperRespond s c).crypto = (tamperSettled s c).crypto ∧ (tamperRespond s c).points = (tamperSettled s c).points ∧
    ∀ k, rd (tamperRespond s c) k = rd (tamperSettled s c) k := by
  rw [tamperRespond_eq]
  split
  · simp [eraseDemanded]
  · exact ⟨rfl, rfl, rfl, fun _ => rfl⟩

end

end Sys2Proof.Machine
end

section
/-! SUPPORT. O56: a tamper event, from its latch to its wake (R428 to R431). -/

namespace Sys2Proof.Machine

open Sys2Proof.Safety

section
variable {s : State} {n : Fin 6}

/-! ## The wake -/

/-- The event and the wake that an event of a powered module gives. -/
def tamperWoken (s : State) : State := wakeEvent (if flag s R.TMP_CFG F.TMP_CFG_WAKE then evtSet s 0x131 else s) F.SYS_DOZECFG_TAMP

theorem cryptoBeside_discardRequest (s : State) : CryptoBeside [0x00, 0x07, 0x41] s (discardRequest s) := by
  have mode (u : State) (f : Fld) (v : Nat) : CryptoBeside [0x00, 0x07, 0x41] u (setFld u R.SYS_MODE f v) := cryptoBeside_setFld u f v (by decide)
  unfold discardRequest
  dsimp only
  split
  · exact (((mode s _ _).trans (mode _ _ _)).trans (mode _ _ _)).trans (cryptoBeside_raiseBit _ 1 (by decide) (by decide) (by decide))
  · exact CryptoBeside.refl _ s

theorem cryptoBeside_wakeEvent (s : State) (f : Fld) : CryptoBeside [0x00, 0x07, 0x41] s (wakeEvent s f) := by
  have woken : CryptoBeside [0x00, 0x07, 0x41] s { s with wake := true } := ⟨⟨rfl, rfl, fun _ _ => rfl⟩, rfl, rfl⟩
  unfold wakeEvent
  split
  · exact CryptoBeside.refl _ s
  · split
    · exact woken.trans (cryptoBeside_evtSet _ (by decide) (by decide))
    · split
      · exact cryptoBeside_discardRequest s
      · exact CryptoBeside.refl _ s

theorem cryptoBeside_tamperWoken (s : State) : CryptoBeside [0x00, 0x07, 0x41] s (tamperWoken s) :=
  (cryptoBeside_ite (cryptoBeside_evtSet s (by decide) (by decide)) (CryptoBeside.refl _ s)).trans (cryptoBeside_wakeEvent _ _)

/-! ## An event of a source that is not enabled -/

theorem tamperEvent_off (off : tamperEnabled s n.val = false) : exec (.tamperEvent n) s = .next s := by
  refine congrArg Host.Outcome.next ?_
  unfold tamperEvent
  rw [off]
  rfl

/-! ## An event that is latched -/

/-- The state in which an event has been latched. -/
def eventLatched (s : State) (n : Nat) : State := tamperLatch (pinShown s n) n

/-- The state in which it has been responded to. -/
def eventAnswered (s : State) (n : Nat) : State :=
  if tamperResponds (eventLatched s n) n then tamperRespond (eventLatched s n) (tamperCase s) else eventLatched s n

theorem tamperEvent_on (on : tamperEnabled s n.val = true) :
    exec (.tamperEvent n) s = .next (if tamperCase s = 5 then eventAnswered s n.val else tamperWoken (eventAnswered s n.val)) := by
  refine congrArg Host.Outcome.next ?_
  unfold tamperEvent
  rw [on]
  rfl

theorem rd_pinShown (s : State) (n : Nat) {k : Nat} (other : k ≠ R.TMP_PINS) : rd (pinShown s n) k = rd s k := by
  unfold pinShown
  split
  · exact rd_wr_ne s _ other
  · rfl

theorem eventLatched_pages (s : State) (n : Nat) : CryptoBeside [0x05, 0x07] s (eventLatched s n) := (pin_pages s n).trans (tamperLatch_pages _ n)

theorem eventLatched_cfg (s : State) (n : Nat) : rd (eventLatched s n) R.TMP_CFG = rd s R.TMP_CFG :=
  (tamperLatch_cfg _ n).trans (rd_pinShown s n (by decide))

theorem eventLatched_responds (s : State) (n : Nat) : tamperResponds (eventLatched s n) n = tamperResponds s n :=
  congrArg (fun w => decide (4 ≤ n) || (bits w 15 12).testBit n) (eventLatched_cfg s n)

theorem eventLatched_erase (s : State) (n : Nat) : flag (eventLatched s n) R.TMP_CFG F.TMP_CFG_ERASE = flag s R.TMP_CFG F.TMP_CFG_ERASE :=
  congrArg (fun w => bits w 21 21 != 0) (eventLatched_cfg s n)

/-- What an event's latch shows of it. -/
structure EventShown (s t : State) (n : Nat) : Prop where
  valid : flag t R.TMP_LATCH F.TMP_LATCH_VALID = true
  seen : (rd t R.TMP_LATCH).getLsbD n = true
  isr : (rd t (R.PG_ISR 0x05)).getLsbD 0 = true
  later : flag s R.TMP_LATCH F.TMP_LATCH_VALID = true → flag t R.TMP_LATCH F.TMP_LATCH_OVF = true ∧ rd t R.TMP_CTX = rd s R.TMP_CTX ∧
    fld t R.TMP_LATCH F.TMP_LATCH_FIRST = fld s R.TMP_LATCH F.TMP_LATCH_FIRST ∧ ∀ i : Fin 2, rd t (R.TMP_TS i.val) = rd s (R.TMP_TS i.val)
  first : flag s R.TMP_LATCH F.TMP_LATCH_VALID = false → fld t R.TMP_LATCH F.TMP_LATCH_FIRST = 2 ^ n ∧ rd t R.TMP_CTX = BitVec.ofNat 32 (tamperCase s)

theorem eventLatched_shown (s : State) (n : Fin 6) : EventShown s (eventLatched s n.val) n.val := by
  have latch : rd (pinShown s n.val) R.TMP_LATCH = rd s R.TMP_LATCH := rd_pinShown s _ (by decide)
  have held : flag (pinShown s n.val) R.TMP_LATCH F.TMP_LATCH_VALID = flag s R.TMP_LATCH F.TMP_LATCH_VALID := congrArg (fun w => bits w 31 31 != 0) latch
  have isr := tamperLatch_isr (pinShown s n.val) n.val
  cases valid : flag s R.TMP_LATCH F.TMP_LATCH_VALID with
  | true =>
    obtain ⟨now, seen, ovf, ctx, first, ts⟩ := tamperLatch_overflows n.isLt (held.trans valid)
    have stamps (i : Fin 2) : rd (pinShown s n.val) (R.TMP_TS i.val) = rd s (R.TMP_TS i.val) := by
      match i with
      | 0 => exact rd_pinShown s _ (by decide)
      | 1 => exact rd_pinShown s _ (by decide)
    exact ⟨now, seen, isr, fun _ => ⟨ovf, ctx.trans (rd_pinShown s _ (by decide)), first.trans (congrArg (bits · 13 8) latch),
      fun i => (ts i).trans (stamps i)⟩, fun clear => absurd (valid.symm.trans clear) (by decide)⟩
  | false =>
    obtain ⟨now, seen, first, ctx⟩ := tamperLatch_first n.isLt (held.trans valid)
    rw [tamperCase_congr (pin_pages s n.val)] at ctx
    exact ⟨now, seen, isr, fun full => absurd (valid.symm.trans full) (by decide), fun _ => ⟨first, ctx⟩⟩

theorem EventShown.of_page {t u : State} {n : Nat} (h : EventShown s t n) (page : ∀ k, keyPage k = 0x05 → rd u k = rd t k) : EventShown s u n where
  valid := (congrArg (fun w => bits w 31 31 != 0) (page R.TMP_LATCH (by decide))).trans h.valid
  seen := (congrArg (BitVec.getLsbD · n) (page R.TMP_LATCH (by decide))).trans h.seen
  isr := (congrArg (BitVec.getLsbD · 0) (page (R.PG_ISR 0x05) (by decide))).trans h.isr
  later full := by
    obtain ⟨ovf, ctx, first, ts⟩ := h.later full
    refine ⟨(congrArg (fun w => bits w 30 30 != 0) (page R.TMP_LATCH (by decide))).trans ovf, (page _ (by decide)).trans ctx,
      (congrArg (bits · 13 8) (page R.TMP_LATCH (by decide))).trans first, fun i => (page _ ?_).trans (ts i)⟩
    exact keyPage_regKey (by decide) (by omega) 0
  first clear := by
    obtain ⟨first, ctx⟩ := h.first clear
    exact ⟨(congrArg (bits · 13 8) (page R.TMP_LATCH (by decide))).trans first, (page _ (by decide)).trans ctx⟩

/-- What an event leaves of the keys, by the case it fell in. -/
structure EventKeys (s t : State) (n : Nat) : Prop where
  points : SamePoints s t
  spared : tamperResponds s n = false → t.slots = s.slots ∧ t.crypto = s.crypto ∧ SameBytes s t
  sealed : tamperResponds s n = true → tamperCase s = 1 → t.slots = [] ∧ flag t R.CRU_STAT F.CRU_STAT_SEALED = true
  emptied : tamperResponds s n = true → tamperCase s ≠ 1 → tamperCase s ≠ 5 → ∀ i : Fin 256, volatileSlot s i.val = true → filled t i.val = false
  unpowered : tamperResponds s n = true → tamperCase s = 5 → t.slots = s.slots ∧ t.crypto.store = s.crypto.store ∧
    t.crypto.erasePend = (s.crypto.erasePend || flag s R.TMP_CFG F.TMP_CFG_ERASE)
  erased : tamperResponds s n = true → tamperCase s ≠ 5 → flag s R.TMP_CFG F.TMP_CFG_ERASE = true → t.crypto.store = [] ∧
    ∀ i : Fin 256, i.val ≠ 0 → attrPersist (slotAt s i.val).attr = true → filled t i.val = false

theorem EventKeys.of_beside {ps : List Nat} {t u : State} {n : Nat} (h : EventKeys s t n) (beside : CryptoBeside ps t u) (stat : 0x90 ∉ ps) :
    EventKeys s u n where
  points i := (beside.samePoints i).trans (h.points i)
  spared off := by
    obtain ⟨slots, crypto, bytes⟩ := h.spared off
    exact ⟨beside.slots.trans slots, beside.crypto.trans crypto, fun a => (beside.sameBytes a).trans (bytes a)⟩
  sealed on boot := by
    obtain ⟨slots, shown⟩ := h.sealed on boot
    exact ⟨beside.slots.trans slots, (congrArg (· != 0) (beside.pages.fld (k := R.CRU_STAT) stat F.CRU_STAT_SEALED)).trans shown⟩
  emptied on running powered i volatile := by
    rw [filled, slotAt, beside.slots]
    exact h.emptied on running powered i volatile
  unpowered on off := by
    obtain ⟨slots, store, pend⟩ := h.unpowered on off
    rw [beside.slots, beside.crypto]
    exact ⟨slots, store, pend⟩
  erased on powered erase := by
    obtain ⟨store, empty⟩ := h.erased on powered erase
    rw [beside.crypto]
    refine ⟨store, fun i other persist => ?_⟩
    rw [filled, slotAt, beside.slots]
    exact empty i other persist

/-- The case of an event with the module unpowered. -/
theorem tamperCase_five : tamperCase s = 5 ↔ modeNow s = 0 := by
  unfold tamperCase
  split_ifs <;> simp_all

theorem eventAnswered_shown (s : State) (n : Fin 6) : EventShown s (eventAnswered s n.val) n.val := by
  have latched := eventLatched_shown s n
  unfold eventAnswered
  split
  · refine latched.of_page fun k page => ((tamperRespond_shows _ _).2.2.2 k).trans ((responds_tamperSettled _ _).pages k ?_)
    rw [page]
    decide
  · exact latched

theorem volatileSlot_latched (s : State) (n i : Nat) : volatileSlot (eventLatched s n) i = volatileSlot s i := by
  have beside := eventLatched_pages s n
  exact volatileSlot_congr (congrArg (tget _ · i) beside.slots) (beside.pages.regs _ (by decide))

theorem eventAnswered_spares {n : Nat} (spared : tamperResponds s n = false) : eventAnswered s n = eventLatched s n :=
  if_neg fun on => absurd (((eventLatched_responds s n).trans spared).symm.trans on) (by decide)

theorem eventAnswered_responds {n : Nat} (responds : tamperResponds s n = true) : eventAnswered s n = tamperRespond (eventLatched s n) (tamperCase s) :=
  if_pos ((eventLatched_responds s n).trans responds)

theorem eventKeys_spared {n : Nat} (off : tamperResponds s n = false) : EventKeys s (eventAnswered s n) n := by
  have beside := eventLatched_pages s n
  have never {p : Prop} (on : tamperResponds s n = true) : p := absurd (off.symm.trans on) (by decide)
  rw [eventAnswered_spares off]
  exact ⟨beside.samePoints, fun _ => ⟨beside.slots, beside.crypto, beside.sameBytes⟩, fun on => never on, fun on => never on, fun on => never on,
    fun on => never on⟩

theorem eventKeys_responds {n : Nat} (on : tamperResponds s n = true) : EventKeys s (eventAnswered s n) n := by
  have beside := eventLatched_pages s n
  have erase := eventLatched_erase s n
  have volatile := volatileSlot_latched s n
  have mode : modeNow (eventLatched s n) = modeNow s := beside.pages.fld (by decide) F.SYS_MODE_MODE
  have answered := responds_tamperSettled (eventLatched s n) (tamperCase s)
  obtain ⟨slots, crypto, points, regs⟩ := tamperRespond_shows (eventLatched s n) (tamperCase s)
  have slot (i : Nat) : slotAt (eventLatched s n) i = slotAt s i := congrArg (tget _ · i) beside.slots
  rw [eventAnswered_responds on]
  generalize tamperRespond (eventLatched s n) (tamperCase s) = t at slots crypto points regs ⊢
  have empty {i : Nat} (gone : filled (tamperSettled (eventLatched s n) (tamperCase s)) i = false) : filled t i = false := by
    rwa [filled, slotAt, slots]
  refine ⟨fun i => ?_, fun off => absurd (off.symm.trans on) (by decide), fun _ boot => ?_, fun _ running powered i v => ?_, fun _ off => ?_,
    fun _ powered e => ?_⟩
  · exact (samePoints_of_points points i).trans ((answered.points i).trans (beside.samePoints i))
  · have powered : modeNow (eventLatched s n) ≠ 0 := by
      rw [mode]
      exact fun off => absurd (boot.symm.trans (tamperCase_five.mpr off)) (by decide)
    rw [boot] at slots regs
    obtain ⟨none, shown⟩ := tamperSettled_seals powered
    exact ⟨slots.trans none, (congrArg (fun w => bits w 31 31 != 0) (regs R.CRU_STAT)).trans shown⟩
  · exact empty (tamperSettled_empties running powered i.isLt ((volatile i.val).trans v))
  · have unpowered : modeNow (eventLatched s n) = 0 := mode.trans (tamperCase_five.mp off)
    rw [off] at slots crypto
    obtain ⟨kept, store, pend⟩ := tamperSettled_unpowered unpowered
    rw [slots, crypto, kept, store, pend, beside.slots, beside.crypto, erase]
    exact ⟨rfl, rfl, rfl⟩
  · have on' : modeNow (eventLatched s n) ≠ 0 := by
      rw [mode]
      exact fun off => powered (tamperCase_five.mpr off)
    obtain ⟨store, clears⟩ := tamperSettled_clears (c := tamperCase s) (erase.trans e) on'
    exact ⟨(congrArg Crypto.store crypto).trans store, fun i other persist => empty (clears i.val i.isLt other (by rwa [slot]))⟩

theorem eventKeys_answered (s : State) (n : Nat) : EventKeys s (eventAnswered s n) n := by
  cases on : tamperResponds s n with
  | true => exact eventKeys_responds on
  | false => exact eventKeys_spared on

/-- An event of an enabled source is latched and answered. -/
theorem tamperEvent_answers (on : tamperEnabled s n.val = true) : ∃ t, exec (.tamperEvent n) s = .next t ∧ EventShown s t n.val ∧ EventKeys s t n.val := by
  have shown := eventAnswered_shown s n
  have keys := eventKeys_answered s n.val
  have woken := cryptoBeside_tamperWoken (eventAnswered s n.val)
  by_cases off : tamperCase s = 5
  · exact ⟨_, (tamperEvent_on on).trans (congrArg Host.Outcome.next (if_pos off)), shown, keys⟩
  · refine ⟨_, (tamperEvent_on on).trans (congrArg Host.Outcome.next (if_neg off)), shown.of_page fun k page => woken.pages.regs k ?_,
      keys.of_beside woken (by decide)⟩
    rw [page]
    decide

/-! ## Clearing the latch (R431) -/

theorem tamperLatchClear_clears {q : Requester} (hr : Reaches s q 0x05 0x44) : ∃ t, exec (.tamperLatchClear q) s = .next t ∧ Accepted t ∧
    rd t R.TMP_LATCH = 0 ∧ rd t R.TMP_CTX = 0 ∧ rd t (R.TMP_TS 0) = 0 ∧ rd t (R.TMP_TS 1) = 0 ∧
    OnlyRegs [R.TMP_LATCH, R.TMP_CTX, R.TMP_TS 0, R.TMP_TS 1] s t := by
  have cleared : OnlyRegs [R.TMP_LATCH, R.TMP_CTX, R.TMP_TS 0, R.TMP_TS 1] s (clearTamper s) :=
    (((onlyRegs_wr s _ (by simp)).trans (onlyRegs_wr _ _ (by simp))).trans (onlyRegs_wr _ _ (by simp))).trans (onlyRegs_wr _ _ (by simp))
  refine ⟨_, congrArg Host.Outcome.next (gated_reaches hr), rfl, ?_, rd_wr_same _ _ _, ?_, ?_, cleared.trans (onlyRegs_answer _ _ _)⟩
  · exact (rd_wr_ne _ _ (by decide)).trans ((rd_wr_ne _ _ (by decide)).trans ((rd_wr_ne _ _ (by decide)).trans (rd_wr_same _ _ _)))
  · exact (rd_wr_ne _ _ (by decide)).trans ((rd_wr_ne _ _ (by decide)).trans (rd_wr_same _ _ _))
  · exact (rd_wr_ne _ _ (by decide)).trans (rd_wr_same _ _ _)

end

end Sys2Proof.Machine
end

section
/-! SUPPORT. O56: debug sessions: the challenge, the hold, the resume and the end (R413 to R415). -/

namespace Sys2Proof.Machine

open Sys2Proof.Safety

/-! ## A bit cleared by subtraction -/

/-- A number with a bit set, as what stands above and below the bit. -/
theorem eq_of_testBit {x c : Nat} (set : x.testBit c = true) : x = 2 ^ (c + 1) * (x / 2 ^ (c + 1)) + (2 ^ c * 1 + x % 2 ^ c) := by
  rw [Nat.testBit_eq_decide_div_mod_eq, decide_eq_true_eq] at set
  have high : x / 2 ^ c = 2 * (x / 2 ^ (c + 1)) + 1 := by
    rw [Nat.pow_succ, ← Nat.div_div_eq_div_mul]
    omega
  calc x = 2 ^ c * (x / 2 ^ c) + x % 2 ^ c := (Nat.div_add_mod x (2 ^ c)).symm
    _ = 2 ^ (c + 1) * (x / 2 ^ (c + 1)) + (2 ^ c * 1 + x % 2 ^ c) := by rw [high, Nat.pow_succ]; ring

theorem testBit_sub_two_pow {x c : Nat} (set : x.testBit c = true) (i : Nat) :
    (x - 2 ^ c).testBit i = if i = c then false else x.testBit i := by
  have parts := eq_of_testBit set
  have low : x % 2 ^ c < 2 ^ c := Nat.mod_lt _ (Nat.two_pow_pos c)
  have double : 2 ^ (c + 1) = 2 ^ c * 2 := Nat.pow_succ 2 c
  have less : x - 2 ^ c = 2 ^ (c + 1) * (x / 2 ^ (c + 1)) + x % 2 ^ c := by omega
  rw [less, Nat.testBit_two_pow_mul_add _ (by omega)]
  by_cases here : i = c
  · rw [if_pos here, here, if_pos (Nat.lt_succ_self c)]
    exact Nat.testBit_lt_two_pow low
  · rw [if_neg here]
    conv_rhs => rw [parts, Nat.testBit_two_pow_mul_add _ (by omega)]
    by_cases below : i < c + 1
    · rw [if_pos below, if_pos below, Nat.testBit_two_pow_mul_add _ low, if_pos (by omega)]
    · rw [if_neg below, if_neg below]

/-! ## Resuming a core (R414) -/

section
variable {s t u : State}

/-- A task that is stopped at a BRK resumed at the next instruction. -/
def taskResumed (x : TaskState) : TaskState :=
  { x with run := x.run.map (fun r => { r with stopped := false }), bank := { x.bank with pc := x.bank.pc + 4 } }

/-- Cores that a debug session has stopped. -/
abbrev stoppedCores (s : State) : Nat := fld s R.DBG_HOLD F.DBG_HOLD_STOPPED

theorem stoppedCores_lt (s : State) : stoppedCores s < 256 := Nat.mod_lt _ (by decide)

theorem debugGo_stopped {c : Nat} (stopped : (stoppedCores s).testBit c = true) : debugGo s c =
    setFld (setTask s (curTask s c) (taskResumed (taskAt s (curTask s c)))) R.DBG_HOLD F.DBG_HOLD_STOPPED (stoppedCores s - 2 ^ c) := if_pos stopped

theorem debugGo_running {c : Nat} (running : (stoppedCores s).testBit c = false) : debugGo s c = s :=
  if_neg fun stopped => absurd (running.symm.trans stopped) (by decide)

theorem stoppedCores_debugGo (s : State) (c i : Nat) :
    (stoppedCores (debugGo s c)).testBit i = if i = c then false else (stoppedCores s).testBit i := by
  have small := stoppedCores_lt s
  cases stopped : (stoppedCores s).testBit c with
  | true =>
    have left : stoppedCores (debugGo s c) = stoppedCores s - 2 ^ c := by
      rw [debugGo_stopped stopped]
      exact (fld_setFld_same _ _ F.DBG_HOLD_STOPPED _ (by decide) (by decide)).trans (Nat.mod_eq_of_lt (Nat.lt_of_le_of_lt (Nat.sub_le _ _) small))
    rw [left]
    exact testBit_sub_two_pow stopped i
  | false =>
    rw [debugGo_running stopped]
    split
    next here => rw [here, stopped]
    next => rfl

/-- Cores have been resumed: DBG_HOLD and tasks have moved, and nothing else that a session reads. -/
structure CoresResumed (s t : State) : Prop where
  regs : SameRegs [R.DBG_HOLD] s t
  slots : t.slots = s.slots
  data : plantData t = plantData s

theorem CoresResumed.refl (s : State) : CoresResumed s s := ⟨fun _ _ => rfl, rfl, rfl⟩

theorem CoresResumed.trans (h : CoresResumed s t) (k : CoresResumed t u) : CoresResumed s u :=
  ⟨h.regs.trans k.regs, k.slots.trans h.slots, k.data.trans h.data⟩

theorem coresResumed_debugGo (s : State) (c : Nat) : CoresResumed s (debugGo s c) := by
  cases stopped : (stoppedCores s).testBit c with
  | true =>
    rw [debugGo_stopped stopped]
    exact ⟨fun k out => rd_setFld_ne _ _ _ (by simpa using out), rfl, rfl⟩
  | false =>
    rw [debugGo_running stopped]
    exact CoresResumed.refl s

theorem coresResumed_forAll (l : List Nat) (s : State) : CoresResumed s (forAll debugGo l s) := by
  induction l generalizing s with
  | nil => exact CoresResumed.refl s
  | cons c l ih => exact (coresResumed_debugGo s c).trans (ih _)

/-- Resuming every core leaves none stopped. -/
theorem stoppedCores_forAll (s : State) : stoppedCores (forAll debugGo (upTo 8) s) = 0 := by
  refine Nat.eq_of_testBit_eq fun i => ?_
  rw [Nat.zero_testBit]
  by_cases small : i < 8
  · obtain ⟨u, -, after⟩ := forAll_view (f := debugGo) (view := fun u => (stoppedCores u).testBit i) (l := upTo 8) (m := i) List.nodup_range
      (List.mem_range.mpr small) (fun u a _ other => (stoppedCores_debugGo u a i).trans (if_neg other.symm)) s
    exact after.trans ((stoppedCores_debugGo u i i).trans (if_pos rfl))
  · have le : 2 ^ 8 ≤ 2 ^ i := Nat.pow_le_pow_right (by decide) (by omega)
    exact Nat.testBit_lt_two_pow (Nat.lt_of_lt_of_le (stoppedCores_lt _) le)

/-! ## DBG_GO -/

theorem bit_oneHot {c i : Nat} (small : c < 32) : bit (BitVec.ofNat 32 (2 ^ c)) i = decide (i = c) := by
  have same : (BitVec.ofNat 32 (2 ^ c)).toNat = 2 ^ c := by
    rw [BitVec.toNat_ofNat]
    exact Nat.mod_eq_of_lt (Nat.pow_lt_pow_right (by decide) small)
  rw [bit, same, Nat.testBit_two_pow]
  exact decide_eq_decide.mpr eq_comm

/-- The steps of a write of DBG_GO with one bit come to the resume of one core. -/
theorem goWrite_one (s : State) (c : Fin 8) : goWrite s (BitVec.ofNat 32 (2 ^ c.val)) = (debugGo s c.val, .none) := by
  have small := c.isLt
  have bits32 (i : Nat) : bit (BitVec.ofNat 32 (2 ^ c.val)) i = decide (i = c.val) := bit_oneHot (by omega)
  have legal : ¬ bits (BitVec.ofNat 32 (2 ^ c.val)) 31 8 ≠ 0 := by
    have lt : 2 ^ c.val < 2 ^ 8 := Nat.pow_lt_pow_right (by decide) small
    rw [bits, natBits, Nat.shiftRight_eq_div_pow, BitVec.toNat_ofNat, Nat.mod_eq_of_lt (Nat.lt_trans lt (by decide)), Nat.div_eq_of_lt lt]
    decide
  obtain ⟨u, before, after⟩ := forAll_view (f := fun s i => if bit (BitVec.ofNat 32 (2 ^ c.val)) i then debugGo s i else s) (view := id) (l := upTo 8)
    (m := c.val) List.nodup_range (List.mem_range.mpr small) (fun u i _ other => if_neg fun set => other (of_decide_eq_true ((bits32 i).symm.trans set))) s
  refine (if_neg legal).trans (congrArg (·, Code.none) (Eq.trans after ?_))
  rw [show u = s from before]
  exact if_pos ((bits32 c.val).trans (decide_eq_true rfl))

theorem debugGo_resumes {q : Requester} (c : Fin 8) (hr : Reaches s q 0xA0 0x50) (stopped : (stoppedCores s).testBit c.val = true) :
    ∃ t, exec (.debugGo q (BitVec.ofNat 32 (2 ^ c.val))) s = .next t ∧ Accepted t ∧ (stoppedCores t).testBit c.val = false ∧
      (taskAt t (curTask s c.val)).bank.pc = (taskAt s (curTask s c.val)).bank.pc + 4 ∧
      (taskAt t (curTask s c.val)).run = (taskAt s (curTask s c.val)).run.map (fun r => { r with stopped := false }) ∧
      (∀ n, n ≠ curTask s c.val → taskAt t n = taskAt s n) ∧ SameRegs [R.DBG_HOLD] s t ∧ (SameBytes s t ∧ SamePoints s t) := by
  have taken : exec (.debugGo q (BitVec.ofNat 32 (2 ^ c.val))) s = .next (answer (debugGo s c.val) .none) :=
    congrArg Host.Outcome.next (gated_taken (k := fun s => goWrite s (BitVec.ofNat 32 (2 ^ c.val))) hr (goWrite_one s c))
  have resumed := coresResumed_debugGo s c.val
  have left := stoppedCores_debugGo s c.val c.val
  have task : taskAt (debugGo s c.val) (curTask s c.val) = taskResumed (taskAt s (curTask s c.val)) := by
    rw [debugGo_stopped stopped]
    exact taskAt_setTask_same s _ _
  have others (n : Nat) (other : n ≠ curTask s c.val) : taskAt (debugGo s c.val) n = taskAt s n := by
    rw [debugGo_stopped stopped]
    exact tget_tput_ne _ _ other
  exact ⟨_, taken, rfl, left.trans (if_pos rfl), congrArg (fun x => x.bank.pc) task, congrArg TaskState.run task, others, resumed.regs,
    SameData.of_plantData resumed.data⟩

/-! ## DBG_HOLD -/

theorem debugHold_holds {v : Word} (hr : Reaches s .debug 0xA0 0x4C) (legal : v.toNat < 0x10000)
    (session : flag s R.DBG_STAT F.DBG_STAT_SESSION = true) : ∃ t, exec (.debugHold .debug v) s = .next t ∧ Accepted t ∧
      fld t R.DBG_HOLD F.DBG_HOLD_HOLD = v.toNat % 256 ∧ fld t R.DBG_HOLD F.DBG_HOLD_STOPPED = fld s R.DBG_HOLD F.DBG_HOLD_STOPPED ∧
      OnlyRegs [R.DBG_HOLD] s t := by
  have high : bits v 31 16 = 0 := by
    rw [bits, natBits, Nat.shiftRight_eq_div_pow]
    omega
  have low : bits v 7 0 = v.toNat % 256 := by
    rw [bits, natBits, Nat.shiftRight_eq_div_pow]
    omega
  have held : holdWrite s .debug v = (setFld s R.DBG_HOLD F.DBG_HOLD_HOLD (bits v 7 0), .none) := by
    unfold holdWrite
    rw [if_neg (by simp [high]), if_neg (by simp [session])]
  refine ⟨_, congrArg Host.Outcome.next (gated_taken (k := fun s => holdWrite s .debug v) hr held), rfl, ?_, ?_,
    (onlyRegs_setFld s _ _ List.mem_cons_self).trans (onlyRegs_answer _ _ _)⟩
  · refine (fld_setFld_same s R.DBG_HOLD F.DBG_HOLD_HOLD _ (by decide) (by decide)).trans ?_
    rw [low]
    exact Nat.mod_mod _ _
  · exact fld_setFld_other s _ F.DBG_HOLD_HOLD F.DBG_HOLD_STOPPED _ (by decide) (by decide) (by decide)

theorem debugHold_refused {q : Requester} {v : Word} (hr : Reaches s q 0xA0 0x4C) (legal : v.toNat < 0x10000) (foreign : q ≠ .debug) :
    ∃ t, exec (.debugHold q v) s = .next t ∧ Rejected s t 0xA0 0x4C .notInState := by
  have high : bits v 31 16 = 0 := by
    rw [bits, natBits, Nat.shiftRight_eq_div_pow]
    omega
  have turned : holdWrite s q v = (s, .notInState) := by
    unfold holdWrite
    rw [if_neg (by simp [high]), if_pos (.inl foreign)]
  exact ⟨_, rfl, gated_turned (k := fun s => holdWrite s q v) hr (by decide) turned⟩

/-! ## The challenge (R413) -/

/-- A fresh nonce shown in DBG_CHAL. -/
def challengeShown (s : State) (b : List Byte) : State :=
  forAll (fun s n => wr s (R.DBG_CHAL n) (BitVec.ofNat 32 (leNat (sliceD 0 b (4 * n) 4)))) (upTo 8) s

theorem onlyRegs_challengeShown (s : State) (b : List Byte) : OnlyRegs ((upTo 8).map R.DBG_CHAL) s (challengeShown s b) :=
  onlyRegs_forAll (fun _ mem u => onlyRegs_wr u _ (List.mem_map_of_mem mem)) s

theorem DBG_CHAL_inj {m n : Nat} (other : m ≠ n) : R.DBG_CHAL m ≠ R.DBG_CHAL n := by
  unfold R.DBG_CHAL regKey
  omega

theorem rd_challengeShown (s : State) (b : List Byte) (n : Fin 8) :
    rd (challengeShown s b) (R.DBG_CHAL n.val) = BitVec.ofNat 32 (leNat (sliceD 0 b (4 * n.val) 4)) := by
  obtain ⟨u, -, after⟩ := forAll_view (f := fun s n => wr s (R.DBG_CHAL n) (BitVec.ofNat 32 (leNat (sliceD 0 b (4 * n) 4))))
    (view := fun u => rd u (R.DBG_CHAL n.val)) (l := upTo 8) (m := n.val) List.nodup_range (List.mem_range.mpr n.isLt)
    (fun u m _ other => rd_wr_ne u _ (DBG_CHAL_inj other.symm)) s
  exact after.trans (rd_wr_same u _ _)

/-- The nonce recorded. -/
def nonceKept (s : State) (b : List Byte) : State := setFld (setCrypto s { s.crypto with nonce := b }) R.DBG_STAT F.DBG_STAT_NONCE 1

theorem drawNonce_eq {b : List Byte} (drawn : drawBytes s 32 = (u, b)) : drawNonce s = nonceKept (challengeShown u b) b := by
  unfold drawNonce
  rw [drawn]
  rfl

/-- What a draw of random bytes gives. -/
theorem drawBytes_gives {n : Nat} {b : List Byte} (drawn : drawBytes s n = (u, b)) : u = { s with drawn := s.drawn + n } ∧ b.length = n := by
  obtain ⟨rfl, rfl⟩ := Prod.mk.inj drawn
  exact ⟨rfl, by rw [List.length_map, upTo, List.length_range]⟩

theorem nonceKept_shows (s : State) (b : List Byte) : (nonceKept s b).crypto.nonce = b ∧ flag (nonceKept s b) R.DBG_STAT F.DBG_STAT_NONCE = true ∧
    SameRegs [R.DBG_STAT] s (nonceKept s b) ∧ (nonceKept s b).slots = s.slots ∧ plantData (nonceKept s b) = plantData s :=
  ⟨rfl, congrArg (· != 0) (fld_setFld_same _ R.DBG_STAT F.DBG_STAT_NONCE 1 (by decide) (by decide)),
    fun k out => rd_setFld_ne _ _ _ (by simpa using out), rfl, rfl⟩

theorem drawNonce_shows (s : State) : (drawNonce s).crypto.nonce.length = 32 ∧ flag (drawNonce s) R.DBG_STAT F.DBG_STAT_NONCE = true ∧
    (∀ n : Fin 8, rd (drawNonce s) (R.DBG_CHAL n.val) = BitVec.ofNat 32 (leNat (sliceD 0 (drawNonce s).crypto.nonce (4 * n.val) 4))) ∧
    SameRegs (R.DBG_STAT :: (upTo 8).map R.DBG_CHAL) s (drawNonce s) ∧ (drawNonce s).slots = s.slots ∧ plantData (drawNonce s) = plantData s := by
  rcases drawn : drawBytes s 32 with ⟨u, b⟩
  obtain ⟨rest, length⟩ := drawBytes_gives drawn
  have shown := onlyRegs_challengeShown u b
  have words := rd_challengeShown u b
  rw [drawNonce_eq drawn]
  generalize challengeShown u b = v at shown words ⊢
  obtain ⟨nonce, flagged, regs, slots, data⟩ := nonceKept_shows v b
  rw [nonce]
  refine ⟨length, flagged, fun n => (regs _ ?_).trans (words n), fun k out => ?_, ?_, ?_⟩
  · rw [List.mem_singleton]
    unfold R.DBG_CHAL R.DBG_STAT regKey
    omega
  · rw [List.mem_cons, not_or] at out
    refine (regs k (by simpa using out.1)).trans ((shown.regs k out.2).trans ?_)
    rw [rest]
    rfl
  · have kept : v.slots = u.slots := by rw [shown.rest]
    exact slots.trans (kept.trans (by rw [rest]))
  · have drawn : plantData u = plantData s := by
      rw [rest]
      rfl
    exact data.trans ((plantData_of_regsAndEvents shown.regsAndEvents).trans drawn)

theorem debugChallenge_draws {q : Requester} (hr : Reaches s q 0xA0 0x80) : ∃ t, exec (.debugChallenge q) s = .next t ∧ t.crypto.nonce.length = 32 ∧
    flag t R.DBG_STAT F.DBG_STAT_NONCE = true ∧ t.answer = { words := [rd t (R.DBG_CHAL 0)] } ∧
    (∀ n : Fin 8, rd t (R.DBG_CHAL n.val) = BitVec.ofNat 32 (leNat (sliceD 0 t.crypto.nonce (4 * n.val) 4))) ∧
    SameRegs (R.DBG_STAT :: (upTo 8).map R.DBG_CHAL) s t ∧ t.slots = s.slots ∧ (SameBytes s t ∧ SamePoints s t) := by
  obtain ⟨length, flagged, words, regs, slots, data⟩ := drawNonce_shows s
  exact ⟨_, congrArg Host.Outcome.next (gated_reaches hr), length, flagged, rfl, words, regs, slots, SameData.of_plantData data⟩

end

end Sys2Proof.Machine
end

section
/-! SUPPORT. O56: the commands of DBG_CMD (R411, R413 to R415). -/

namespace Sys2Proof.Machine

open Sys2Proof.Safety

/-! ## Commands of other requesters, and LOCKFUSE -/

section
variable {s : State} {q : Requester}

theorem debugCommand_foreign (foreign : q ≠ .debug) {v : Word} (mem : v ∈ [1, 2, 3]) : debugCommand s q v = (s, .notInState) := by
  have fields : ¬ bits v 15 3 ≠ 0 ∧ ¬ (bits v 2 0 = 0 ∨ 5 ≤ bits v 2 0) ∧ bits v 2 0 ≠ 4 := by
    simp only [List.mem_cons, List.not_mem_nil, or_false] at mem
    obtain rfl | rfl | rfl := mem
    · decide
    · decide
    · decide
  obtain ⟨reserved, legal, other⟩ := fields
  unfold debugCommand
  dsimp only
  rw [if_neg reserved, if_neg legal, if_neg other, if_pos foreign]

/-- A turned-away reset resets nothing. -/
theorem settleReset_rejected {t : State} {page off : Nat} {c : Code} (due : s.boot.due = none) (rejected : Rejected s t page off c) : settleReset t = t :=
  settleReset_of_none (due_of_rejected rejected due)

theorem debugCommands_refused (hr : Reaches s q 0xA0 0x48) (due : s.boot.due = none) (foreign : q ≠ .debug) {i : Instr}
    (mem : i ∈ [Instr.debugOpen q, .debugClose q, .debugReset q]) : ∃ t, exec i s = .next t ∧ Rejected s t 0xA0 0x48 .notInState := by
  have rejected (v : Word) (one : v ∈ [1, 2, 3]) :
      Rejected s (gated s q 0xA0 0x48 (fun s => endCommand 0xA0 0x48 (debugCommand s q v))) 0xA0 0x48 .notInState :=
    gated_turned (k := fun s => debugCommand s q v) hr (by decide) (debugCommand_foreign foreign one)
  simp only [List.mem_cons, List.not_mem_nil, or_false] at mem
  obtain rfl | rfl | rfl := mem
  · exact ⟨_, rfl, rejected 1 (by decide)⟩
  · exact ⟨_, rfl, rejected 2 (by decide)⟩
  · exact ⟨_, congrArg Host.Outcome.next (settleReset_rejected due (rejected 3 (by decide))), rejected 3 (by decide)⟩

/-- The word that a LOCKFUSE writes. -/
def lockWord (key : BitVec 16) : Word := BitVec.ofNat 32 (key.toNat * 65536 + 4)

theorem lockWord_fields (key : BitVec 16) : bits (lockWord key) 15 3 = 0 ∧ bits (lockWord key) 2 0 = 4 ∧ bits (lockWord key) 31 16 = key.toNat := by
  have := key.isLt
  have value : (lockWord key).toNat = key.toNat * 65536 + 4 := by
    rw [lockWord, BitVec.toNat_ofNat]
    omega
  refine ⟨?_, ?_, ?_⟩ <;>
  · rw [bits, natBits, value, Nat.shiftRight_eq_div_pow]
    omega

theorem debugCommand_lock (key : BitVec 16) : debugCommand s q (lockWord key) =
    if modeNow s ≠ mdCOMMISSION then (s, .notInState)
    else if key.toNat ≠ 0x4C4B then (s, .illegalValue)
    else ({ s with otp := { s.otp with debugLock := true } }, .none) := by
  obtain ⟨reserved, op, high⟩ := lockWord_fields key
  unfold debugCommand
  dsimp only
  rw [reserved, op, high, if_neg (by decide), if_neg (by decide), if_pos rfl]

theorem debugLockfuse_locks (hr : Reaches s q 0xA0 0x48) (key : BitVec 16) :
    (modeNow s = mdCOMMISSION → key = 0x4C4B → exec (.debugLockfuse q key) s =
      .next { s with otp := { s.otp with debugLock := true }, answer := { code := .none } }) ∧
    (modeNow s ≠ mdCOMMISSION → ∃ t, exec (.debugLockfuse q key) s = .next t ∧ Rejected s t 0xA0 0x48 .notInState) ∧
    (modeNow s = mdCOMMISSION → key ≠ 0x4C4B → ∃ t, exec (.debugLockfuse q key) s = .next t ∧ Rejected s t 0xA0 0x48 .illegalValue) := by
  refine ⟨fun mode right => ?_, fun mode => ?_, fun mode wrong => ?_⟩
  · have taken : debugCommand s q (lockWord key) = ({ s with otp := { s.otp with debugLock := true } }, .none) := by
      rw [debugCommand_lock, if_neg (by simp [mode]), if_neg (by simp [right])]
    exact congrArg Host.Outcome.next (gated_taken (k := fun s => debugCommand s q (lockWord key)) hr taken)
  · exact ⟨_, rfl, gated_turned (k := fun s => debugCommand s q (lockWord key)) hr (by decide) ((debugCommand_lock key).trans (if_pos mode))⟩
  · have other : key.toNat ≠ 0x4C4B := fun same => wrong (BitVec.eq_of_toNat_eq same)
    exact ⟨_, rfl, gated_turned (k := fun s => debugCommand s q (lockWord key)) hr (by decide)
      ((debugCommand_lock key).trans ((if_neg (by simp [mode])).trans (if_pos other)))⟩

end

/-! ## CLOSE and RESET -/

section
variable {s : State} (hr : Reaches s .debug 0xA0 0x48)

theorem debugCommand_close (s : State) : debugCommand s .debug 2 =
    if flag s R.DBG_STAT F.DBG_STAT_SESSION then (debugClose s, .none) else (s, .sequence) := by
  unfold debugCommand
  dsimp only
  rw [if_neg (by decide), if_neg (by decide), if_neg (by decide), if_neg (by decide), if_neg (by decide), if_neg (by decide), if_pos (by decide)]

theorem debugCommand_reset (s : State) : debugCommand s .debug 3 =
    if flag s R.DBG_STAT F.DBG_STAT_SESSION then (resetDue s 0x100, .none) else (s, .notInState) := by
  unfold debugCommand
  dsimp only
  rw [if_neg (by decide), if_neg (by decide), if_neg (by decide), if_neg (by decide), if_neg (by decide), if_neg (by decide), if_neg (by decide)]

/-- A session that has ended: no core is stopped. -/
theorem debugClose_shows (s : State) : flag (debugClose s) R.DBG_STAT F.DBG_STAT_SESSION = false ∧ stoppedCores (debugClose s) = 0 ∧
    SameRegs [R.DBG_STAT, R.DBG_HOLD] s (debugClose s) ∧ (debugClose s).slots = s.slots ∧ plantData (debugClose s) = plantData s := by
  have resumed := coresResumed_forAll (upTo 8) s
  have stopped := stoppedCores_forAll s
  unfold debugClose
  generalize forAll debugGo (upTo 8) s = u at resumed stopped ⊢
  refine ⟨congrArg (· != 0) (fld_setFld_same u R.DBG_STAT F.DBG_STAT_SESSION 0 (by decide) (by decide)),
    (fld_setFld_ne u F.DBG_STAT_SESSION _ 0 (by decide)).trans stopped, fun k out => ?_, resumed.slots, resumed.data⟩
  simp only [List.mem_cons, List.not_mem_nil, or_false, not_or] at out
  exact (rd_setFld_ne u _ _ out.1).trans (resumed.regs k (by simpa using out.2))

include hr

theorem debugClose_ends (session : flag s R.DBG_STAT F.DBG_STAT_SESSION = true) : ∃ t, exec (.debugClose .debug) s = .next t ∧ Accepted t ∧
    flag t R.DBG_STAT F.DBG_STAT_SESSION = false ∧ fld t R.DBG_HOLD F.DBG_HOLD_STOPPED = 0 ∧ SameRegs [R.DBG_STAT, R.DBG_HOLD] s t ∧
    t.slots = s.slots ∧ (SameBytes s t ∧ SamePoints s t) := by
  obtain ⟨ended, stopped, regs, slots, data⟩ := debugClose_shows s
  exact ⟨_, congrArg Host.Outcome.next (gated_taken (k := fun s => debugCommand s .debug 2) hr ((debugCommand_close s).trans (if_pos session))), rfl, ended,
    stopped, regs, slots, SameData.of_plantData data⟩

theorem debugClose_refused (closed : flag s R.DBG_STAT F.DBG_STAT_SESSION = false) :
    ∃ t, exec (.debugClose .debug) s = .next t ∧ Rejected s t 0xA0 0x48 .sequence :=
  ⟨_, rfl, gated_turned (k := fun s => debugCommand s .debug 2) hr (by decide) ((debugCommand_close s).trans (if_neg (by simp [closed])))⟩

theorem debugReset_resets (due : s.boot.due = none) (session : flag s R.DBG_STAT F.DBG_STAT_SESSION = true) :
    exec (.debugReset .debug) s = .next (bootRom (moduleReset { s with answer := { code := .none } } 0x100)) := by
  have taken := gated_taken (k := fun s => debugCommand s .debug 3) hr ((debugCommand_reset s).trans (if_pos session))
  refine congrArg Host.Outcome.next ((congrArg settleReset taken).trans ?_)
  exact settleReset_resetDue (u := { s with answer := { code := .none } }) due hr.1 0x100

theorem debugReset_refused (due : s.boot.due = none) (closed : flag s R.DBG_STAT F.DBG_STAT_SESSION = false) :
    ∃ t, exec (.debugReset .debug) s = .next t ∧ Rejected s t 0xA0 0x48 .notInState := by
  have rejected := gated_turned (k := fun s => debugCommand s .debug 3) hr (by decide) ((debugCommand_reset s).trans (if_neg (by simp [closed])))
  exact ⟨_, congrArg Host.Outcome.next (settleReset_rejected due rejected), rejected⟩

end

/-! ## OPEN -/

section
variable {s : State}

/-- The nonce used up. -/
def openSpent (s : State) : State := setFld (setCrypto s { s.crypto with nonce := [], openWait := false }) R.DBG_STAT F.DBG_STAT_NONCE 0

/-- The response cleared. -/
def responseCleared (s : State) : State := forAll (fun s n => wr s (R.DBG_RESP n) 0) (upTo 32) s

/-- The verdict shown. -/
def openJudged (s : State) (c : Code) : State := setFld (responseCleared (openSpent s)) R.DBG_STAT F.DBG_STAT_CODE (codeNum c)

theorem debugOpen_opens (good : openCheck s = .none) :
    debugOpen s = raiseBit (setFld (debugActive (openJudged s .none)) R.DBG_STAT F.DBG_STAT_SESSION 1) 0xA0 0 := by
  unfold debugOpen openJudged responseCleared openSpent
  dsimp only
  rw [good, if_pos rfl]

theorem debugOpen_fails (bad : openCheck s ≠ .none) : debugOpen s = raiseBit (bumpFld (openJudged s (openCheck s)) R.DBG_STAT F.DBG_STAT_FAILS 1) 0xA0 1 := by
  unfold debugOpen openJudged responseCleared openSpent
  dsimp only
  rw [if_neg bad]

theorem onlyRegs_responseCleared (s : State) : OnlyRegs ((upTo 32).map R.DBG_RESP) s (responseCleared s) :=
  onlyRegs_forAll (fun _ mem u => onlyRegs_wr u _ (List.mem_map_of_mem mem)) s

theorem DBG_RESP_inj {m n : Nat} (other : m ≠ n) : R.DBG_RESP m ≠ R.DBG_RESP n := by
  unfold R.DBG_RESP regKey
  omega

theorem DBG_RESP_ne_STAT (n : Nat) : R.DBG_RESP n ≠ R.DBG_STAT := by
  unfold R.DBG_RESP R.DBG_STAT regKey
  omega

theorem rd_responseCleared (s : State) (n : Fin 32) : rd (responseCleared s) (R.DBG_RESP n.val) = 0 := by
  obtain ⟨u, -, after⟩ := forAll_view (f := fun s n => wr s (R.DBG_RESP n) 0) (view := fun u => rd u (R.DBG_RESP n.val)) (l := upTo 32) (m := n.val)
    List.nodup_range (List.mem_range.mpr n.isLt) (fun u m _ other => rd_wr_ne u 0 (DBG_RESP_inj other.symm)) s
  exact after.trans (rd_wr_same u _ 0)

/-- What an OPEN leaves, whatever its verdict. -/
structure OpenJudged (s t : State) (c : Code) : Prop where
  nonce : t.crypto.nonce = []
  spent : flag t R.DBG_STAT F.DBG_STAT_NONCE = false
  cleared : ∀ n : Fin 32, rd t (R.DBG_RESP n.val) = 0
  code : fld t R.DBG_STAT F.DBG_STAT_CODE = codeNum c

/-- What an OPEN leaves alone up to its verdict. -/
structure OpenSpared (s t : State) : Prop where
  slots : t.slots = s.slots
  data : plantData t = plantData s
  fields : ∀ f : Fld, (f.hi < 16 ∨ 28 < f.lo) → fld t R.DBG_STAT f = fld s R.DBG_STAT f

theorem openSpent_shows (s : State) : (openSpent s).crypto.nonce = [] ∧ flag (openSpent s) R.DBG_STAT F.DBG_STAT_NONCE = false ∧
    OpenSpared s (openSpent s) := by
  refine ⟨rfl, congrArg (· != 0) (fld_setFld_same _ R.DBG_STAT F.DBG_STAT_NONCE 0 (by decide) (by decide)), rfl, rfl, fun f out => ?_⟩
  exact fld_setFld_other _ _ F.DBG_STAT_NONCE f 0 (by decide) (by decide) (by
    show f.hi < 28 ∨ 28 < f.lo
    omega)

theorem openJudged_shows (s : State) (c : Code) : OpenJudged s (openJudged s c) c ∧ OpenSpared s (openJudged s c) := by
  obtain ⟨nonce, spent, spared⟩ := openSpent_shows s
  have only := onlyRegs_responseCleared (openSpent s)
  have clear := rd_responseCleared (openSpent s)
  unfold openJudged
  generalize openSpent s = u at nonce spent spared only clear ⊢
  generalize responseCleared u = v at only clear ⊢
  have stat : rd v R.DBG_STAT = rd u R.DBG_STAT := only.regs _ fun mem => by
    obtain ⟨n, -, same⟩ := List.mem_map.mp mem
    exact DBG_RESP_ne_STAT n same
  have crypto : v.crypto = u.crypto := by rw [only.rest]
  have slots : v.slots = u.slots := by rw [only.rest]
  refine ⟨⟨?_, ?_, fun n => (rd_setFld_ne _ _ _ (DBG_RESP_ne_STAT _)).trans (clear n), ?_⟩, (setFld_slots v _ _ _).trans (slots.trans spared.slots),
    (plantData_setFld v _ _ _).trans ((plantData_of_regsAndEvents only.regsAndEvents).trans spared.data), fun f out => ?_⟩
  · rw [setFld_crypto, crypto, nonce]
  · exact (congrArg (· != 0) (fld_setFld_other v _ F.DBG_STAT_CODE F.DBG_STAT_NONCE _ (by decide) (by decide) (by decide))).trans
      ((congrArg (fun w => bits w 28 28 != 0) stat).trans spent)
  · exact (fld_setFld_same v _ F.DBG_STAT_CODE _ (by decide) (by decide)).trans (Nat.mod_eq_of_lt (codeNum_lt c))
  · refine (fld_setFld_other v _ F.DBG_STAT_CODE f _ (by decide) (by decide) ?_).trans ((congrArg (bits · f.hi f.lo) stat).trans (spared.fields f out))
    show f.hi < 16 ∨ 23 < f.lo
    omega

/-! ### A failed OPEN -/

theorem satAdd_one_8 (n : Nat) (h : n < 256) : satAdd 8 n 1 % 2 ^ 8 = min 255 (n + 1) := by
  unfold satAdd
  split <;> omega

theorem OpenJudged.of_fails {u : State} {c : Code} (h : OpenJudged s u c) : OpenJudged s (raiseBit (bumpFld u R.DBG_STAT F.DBG_STAT_FAILS 1) 0xA0 1) c := by
  have keys {k : Nat} (isr : k ≠ R.PG_ISR 0xA0) (pend : k ≠ R.EVT_PEND 5) : rd (raiseBit (bumpFld u R.DBG_STAT F.DBG_STAT_FAILS 1) 0xA0 1) k =
    rd (bumpFld u R.DBG_STAT F.DBG_STAT_FAILS 1) k := rd_raiseBit_ne _ isr pend
  have stat := keys (k := R.DBG_STAT) (by decide) (by decide)
  refine ⟨?_, ?_, fun n => (keys ?_ ?_).trans ((rd_setFld_ne _ _ _ (DBG_RESP_ne_STAT _)).trans (h.cleared n)), ?_⟩
  · rw [raiseBit_crypto, bumpFld_crypto, h.nonce]
  · refine (congrArg (fun w => bits w 28 28 != 0) stat).trans ?_
    exact (congrArg (· != 0) (fld_setFld_other u _ F.DBG_STAT_FAILS F.DBG_STAT_NONCE _ (by decide) (by decide) (by decide))).trans h.spent
  · unfold R.DBG_RESP R.PG_ISR regKey
    omega
  · unfold R.DBG_RESP R.EVT_PEND regKey
    omega
  · refine (congrArg (bits · 23 16) stat).trans ?_
    exact (fld_setFld_other u _ F.DBG_STAT_FAILS F.DBG_STAT_CODE _ (by decide) (by decide) (by decide)).trans h.code

theorem debugOpen_failed (bad : openCheck s ≠ .none) : let t := debugOpen s
    OpenJudged s t (openCheck s) ∧ flag t R.DBG_STAT F.DBG_STAT_SESSION = flag s R.DBG_STAT F.DBG_STAT_SESSION ∧
      (rd t (R.PG_ISR 0xA0)).getLsbD 1 = true ∧ t.slots = s.slots ∧
      fld t R.DBG_STAT F.DBG_STAT_FAILS = min 255 (fld s R.DBG_STAT F.DBG_STAT_FAILS + 1) ∧ plantData t = plantData s := by
  obtain ⟨judged, spared⟩ := openJudged_shows s (openCheck s)
  rw [debugOpen_fails bad]
  generalize openJudged s (openCheck s) = u at judged spared ⊢
  have stat : rd (raiseBit (bumpFld u R.DBG_STAT F.DBG_STAT_FAILS 1) 0xA0 1) R.DBG_STAT = rd (bumpFld u R.DBG_STAT F.DBG_STAT_FAILS 1) R.DBG_STAT :=
    rd_raiseBit_ne _ (by decide) (by decide)
  refine ⟨judged.of_fails, ?_, raiseBit_isr_bit _ (by decide) (by decide), (raiseBit_slots _ _ _).trans ((bumpFld_slots u _ _ _).trans spared.slots), ?_,
    (plantData_raiseBit _ _ _).trans ((plantData_setFld u _ _ _).trans spared.data)⟩
  · refine (congrArg (fun w => bits w 31 31 != 0) stat).trans (congrArg (· != 0) ?_)
    exact (fld_setFld_other u _ F.DBG_STAT_FAILS F.DBG_STAT_SESSION _ (by decide) (by decide) (by decide)).trans (spared.fields F.DBG_STAT_SESSION (.inr (by decide)))
  · refine (congrArg (bits · 7 0) stat).trans ((fld_setFld_same u _ F.DBG_STAT_FAILS _ (by decide) (by decide)).trans ?_)
    rw [spared.fields F.DBG_STAT_FAILS (.inl (by decide))]
    exact satAdd_one_8 _ (fld_lt s R.DBG_STAT F.DBG_STAT_FAILS)

/-! ### A session that opens (R411) -/

/-- A slot other than 0 that holds a key. -/
def otherSlot (s : State) (n : Nat) : Bool := n != 0 && attrValid (slotAt s n).attr

/-- The test root in slot 0. -/
def testRooted (s : State) : State :=
  setSlot s 0 { slotAt s 0 with attr := 0xC1C00000, material := List.replicate 32 0xA5, share := List.replicate 32 0 }

/-- The Crucible as debug finds it active, before DBG_STAT says so. -/
def debugRooted (s : State) : State := testRooted (flushWhere (setFld (abortOps s) R.CRU_STAT F.CRU_STAT_DEBUG_ROOT 1) otherSlot)

theorem debugActive_active (active : flag s R.DBG_STAT F.DBG_STAT_ACTIVE = true) : debugActive s = s := if_pos active

theorem debugActive_roots (passive : flag s R.DBG_STAT F.DBG_STAT_ACTIVE = false) :
    debugActive s = setFld (debugRooted s) R.DBG_STAT F.DBG_STAT_ACTIVE 1 :=
  if_neg fun active => absurd (passive.symm.trans active) (by decide)

theorem debugRooted_shows (s : State) : (∀ k, keyPage k = 0xA0 → rd (debugRooted s) k = rd s k) ∧ (debugRooted s).crypto.nonce = s.crypto.nonce ∧
    flag (debugRooted s) R.CRU_STAT F.CRU_STAT_DEBUG_ROOT = true ∧ (slotAt (debugRooted s) 0).material = List.replicate 32 0xA5 ∧
    ∀ i : Fin 256, i.val ≠ 0 → filled (debugRooted s) i.val = false := by
  have aborted := opsEnded_abortOps s
  unfold debugRooted
  generalize abortOps s = u at aborted ⊢
  have shown : flag (setFld u R.CRU_STAT F.CRU_STAT_DEBUG_ROOT 1) R.CRU_STAT F.CRU_STAT_DEBUG_ROOT = true :=
    congrArg (· != 0) (fld_setFld_same u R.CRU_STAT F.CRU_STAT_DEBUG_ROOT 1 (by decide) (by decide))
  have page {k : Nat} (inside : keyPage k = 0xA0) : rd (setFld u R.CRU_STAT F.CRU_STAT_DEBUG_ROOT 1) k = rd s k := by
    refine (rd_setFld_ne u _ _ fun e => ?_).trans (aborted.pages k (by rw [inside]; decide))
    rw [e] at inside
    exact absurd inside (by decide)
  have nonce : (setFld u R.CRU_STAT F.CRU_STAT_DEBUG_ROOT 1).crypto.nonce = s.crypto.nonce := aborted.nonce
  generalize setFld u R.CRU_STAT F.CRU_STAT_DEBUG_ROOT 1 = v at shown page nonce ⊢
  have keys := keysUpdated_flushWhere v otherSlot
  have empty {i : Nat} (small : i < 256) (other : i ≠ 0) : filled (flushWhere v otherSlot) i = false := flushWhere_empty small fun x _ full => by
    rw [filled] at full
    rw [otherSlot, full]
    simp [other]
  generalize flushWhere v otherSlot = x at keys empty ⊢
  refine ⟨fun k inside => (keys.rd k).trans (page inside), ?_, (congrArg (fun w => bits w 30 30 != 0) (keys.rd R.CRU_STAT)).trans shown,
    congrArg KeySlot.material (slotAt_setSlot_same x 0 _), fun i other => ?_⟩
  · refine Eq.trans ?_ nonce
    show x.crypto.nonce = v.crypto.nonce
    rw [keys]
  · exact (congrArg (fun y : KeySlot => attrValid y.attr) (slotAt_setSlot_ne x _ other)).trans (empty i.isLt other)

/-- A session that is active: DBG_STAT but for ACTIVE, and the other registers of its page, are as they were. -/
structure DebugActive (s t : State) : Prop where
  regs : ∀ k, keyPage k = 0xA0 → k ≠ R.DBG_STAT → rd t k = rd s k
  fields : ∀ f : Fld, (f.hi < 30 ∨ 30 < f.lo) → fld t R.DBG_STAT f = fld s R.DBG_STAT f
  active : flag t R.DBG_STAT F.DBG_STAT_ACTIVE = true
  nonce : t.crypto.nonce = s.crypto.nonce
  rooted : flag s R.DBG_STAT F.DBG_STAT_ACTIVE = false → flag t R.CRU_STAT F.CRU_STAT_DEBUG_ROOT = true ∧
    (slotAt t 0).material = List.replicate 32 0xA5 ∧ ∀ i : Fin 256, i.val ≠ 0 → filled t i.val = false

theorem debugActive_shows (s : State) : DebugActive s (debugActive s) := by
  cases active : flag s R.DBG_STAT F.DBG_STAT_ACTIVE with
  | true =>
    rw [debugActive_active active]
    exact ⟨fun _ _ _ => rfl, fun _ _ => rfl, active, rfl, fun passive => absurd (active.symm.trans passive) (by decide)⟩
  | false =>
    obtain ⟨page, nonce, root, material, empty⟩ := debugRooted_shows s
    rw [debugActive_roots active]
    generalize debugRooted s = u at page nonce root material empty ⊢
    refine ⟨fun k inside other => (rd_setFld_ne u _ _ other).trans (page k inside), fun f out => ?_,
      congrArg (· != 0) (fld_setFld_same u R.DBG_STAT F.DBG_STAT_ACTIVE 1 (by decide) (by decide)), nonce, fun _ => ⟨?_, material, empty⟩⟩
    · exact (fld_setFld_other u _ F.DBG_STAT_ACTIVE f 1 (by decide) (by decide) out).trans
        (congrArg (bits · f.hi f.lo) (page R.DBG_STAT (by decide)))
    · exact (congrArg (fun w => bits w 30 30 != 0) (rd_setFld_ne u F.DBG_STAT_ACTIVE 1 (by decide) : rd _ R.CRU_STAT = _)).trans root

theorem debugOpen_opened (good : openCheck s = .none) : let t := debugOpen s
    OpenJudged s t .none ∧ flag t R.DBG_STAT F.DBG_STAT_SESSION = true ∧ flag t R.DBG_STAT F.DBG_STAT_ACTIVE = true ∧
      (rd t (R.PG_ISR 0xA0)).getLsbD 0 = true ∧
      (flag s R.DBG_STAT F.DBG_STAT_ACTIVE = false → flag t R.CRU_STAT F.CRU_STAT_DEBUG_ROOT = true ∧
        (slotAt t 0).material = List.replicate 32 0xA5 ∧ ∀ i : Fin 256, i.val ≠ 0 → filled t i.val = false) := by
  obtain ⟨judged, spared⟩ := openJudged_shows s .none
  rw [debugOpen_opens good]
  generalize openJudged s .none = j at judged spared ⊢
  have active := debugActive_shows j
  generalize debugActive j = u at active ⊢
  have keys {k : Nat} (isr : k ≠ R.PG_ISR 0xA0) (pend : k ≠ R.EVT_PEND 5) : rd (raiseBit (setFld u R.DBG_STAT F.DBG_STAT_SESSION 1) 0xA0 0) k =
    rd (setFld u R.DBG_STAT F.DBG_STAT_SESSION 1) k := rd_raiseBit_ne _ isr pend
  have slots : (raiseBit (setFld u R.DBG_STAT F.DBG_STAT_SESSION 1) 0xA0 0).slots = u.slots := (raiseBit_slots _ _ _).trans (setFld_slots u _ _ _)
  have field (f : Fld) : fld (raiseBit (setFld u R.DBG_STAT F.DBG_STAT_SESSION 1) 0xA0 0) R.DBG_STAT f =
    fld (setFld u R.DBG_STAT F.DBG_STAT_SESSION 1) R.DBG_STAT f := congrArg (bits · f.hi f.lo) (keys (by decide) (by decide))
  have other {f : Fld} (below : f.hi < 31) : fld (raiseBit (setFld u R.DBG_STAT F.DBG_STAT_SESSION 1) 0xA0 0) R.DBG_STAT f = fld u R.DBG_STAT f :=
    (field f).trans (fld_setFld_other u _ F.DBG_STAT_SESSION f 1 (by decide) (by decide) (.inl below))
  refine ⟨⟨?_, ?_, fun n => ?_, ?_⟩, ?_, ?_, raiseBit_isr_bit _ (by decide) (by decide), fun passive => ?_⟩
  · rw [raiseBit_crypto, setFld_crypto, active.nonce, judged.nonce]
  · exact (congrArg (· != 0) ((other (f := F.DBG_STAT_NONCE) (by decide)).trans (active.fields _ (.inl (by decide))))).trans judged.spent
  · refine (keys ?_ ?_).trans ((rd_setFld_ne u _ _ (DBG_RESP_ne_STAT _)).trans ((active.regs _ ?_ (DBG_RESP_ne_STAT _)).trans (judged.cleared n)))
    · unfold R.DBG_RESP R.PG_ISR regKey
      omega
    · unfold R.DBG_RESP R.EVT_PEND regKey
      omega
    · exact keyPage_regKey (by decide) (by omega) 0
  · exact (other (f := F.DBG_STAT_CODE) (by decide)).trans ((active.fields _ (.inl (by decide))).trans judged.code)
  · exact congrArg (· != 0) ((field _).trans (fld_setFld_same u R.DBG_STAT F.DBG_STAT_SESSION 1 (by decide) (by decide)))
  · exact (congrArg (· != 0) (other (f := F.DBG_STAT_ACTIVE) (by decide))).trans active.active
  · obtain ⟨root, material, empty⟩ := active.rooted ((congrArg (· != 0) (spared.fields F.DBG_STAT_ACTIVE (.inr (by decide)))).trans passive)
    have slot (n : Nat) : slotAt (raiseBit (setFld u R.DBG_STAT F.DBG_STAT_SESSION 1) 0xA0 0) n = slotAt u n := congrArg (tget _ · n) slots
    refine ⟨?_, (congrArg KeySlot.material (slot 0)).trans material, fun i other => ?_⟩
    · have stat : rd (raiseBit (setFld u R.DBG_STAT F.DBG_STAT_SESSION 1) 0xA0 0) R.CRU_STAT = rd u R.CRU_STAT :=
        (keys (by decide) (by decide)).trans (rd_setFld_ne u _ _ (by decide))
      exact (congrArg (fun w => bits w 30 30 != 0) stat).trans root
    · exact (congrArg (fun y : KeySlot => attrValid y.attr) (slot i.val)).trans (empty i other)

theorem debugCommand_open (now : modeNow s = mdBOOT → 4 ≤ fld s R.BOOT_STAT F.BOOT_STAT_PHASE) : debugCommand s .debug 1 = (debugOpen s, .none) := by
  unfold debugCommand
  dsimp only
  rw [if_neg (by decide), if_neg (by decide), if_neg (by decide), if_neg (by decide), if_neg (by decide), if_pos (by decide), if_neg]
  exact fun early => absurd (now early.1) (Nat.not_le.mpr early.2)

end

end Sys2Proof.Machine
end

section
/-! SUPPORT. O56: keys, crypto jobs, tamper events and debug sessions, settled. -/

namespace Sys2Proof.Machine

open Sys2Proof.Safety

section
variable {s : State}

/-! ## The commands of CRU_CMD and CRY_GO -/

theorem cruCommands_run (q : Requester) (s : State) : ∀ p ∈ [(1, Instr.cruGenerate q), (2, .cruDerive q), (3, .cruUnwrap q), (4, .cruWrap q),
    (5, .cruLoad q), (6, .cruDestroy q), (7, .cruPurge q), (8, .cruKill q)], p.1 < 16 ∧ exec p.2 s = cruCommand q p.1 s := by
  simp only [List.forall_mem_cons]
  exact ⟨⟨by decide, rfl⟩, ⟨by decide, rfl⟩, ⟨by decide, rfl⟩, ⟨by decide, rfl⟩, ⟨by decide, rfl⟩, ⟨by decide, rfl⟩, ⟨by decide, rfl⟩,
    ⟨by decide, rfl⟩, List.forall_mem_nil _⟩

theorem cryJobs_run (q : Requester) (slot : BitVec 8) (s : State) : ∀ p ∈ [(1, Instr.cryGcmEnc q slot), (2, .cryGcmDec q slot), (3, .cryCtrEnc q slot),
    (4, .cryCtrDec q slot), (5, .cryCmacGen q slot), (6, .cryCmacVer q slot), (7, .cryHmacGen q slot), (8, .cryHmacVer q slot),
    (9, .cryEcdsaSign q slot), (10, .cryEcdsaPub q slot), (11, .cryEcdsaVer q slot), (12, .crySha256 q slot)],
    p.1 < 256 ∧ exec p.2 s = cryCommand q p.1 slot s := by
  simp only [List.forall_mem_cons]
  exact ⟨⟨by decide, rfl⟩, ⟨by decide, rfl⟩, ⟨by decide, rfl⟩, ⟨by decide, rfl⟩, ⟨by decide, rfl⟩, ⟨by decide, rfl⟩, ⟨by decide, rfl⟩,
    ⟨by decide, rfl⟩, ⟨by decide, rfl⟩, ⟨by decide, rfl⟩, ⟨by decide, rfl⟩, ⟨by decide, rfl⟩, List.forall_mem_nil _⟩

/-! ## A session's command from the debug port -/

theorem debugOpen_taken (hr : Reaches s .debug 0xA0 0x48) (now : modeNow s = mdBOOT → 4 ≤ fld s R.BOOT_STAT F.BOOT_STAT_PHASE) :
    exec (.debugOpen .debug) s = .next (answer (debugOpen s) .none) :=
  congrArg Host.Outcome.next (gated_taken (k := fun s => debugCommand s .debug 1) hr (debugCommand_open now))

theorem debugOpen_judges (s : State) : OpenJudged s (debugOpen s) (openCheck s) := by
  by_cases good : openCheck s = .none
  · rw [good]
    exact (debugOpen_opened good).1
  · exact (debugOpen_failed good).1

end

/-- Settles O56. The commands DESTROY, PURGE and KILL act at the write (log 45), and the CTR block counts as a whole (log 41): an operation is followed from
its checks over the state that the write leaves (`cruStart_checks`, `cryGo_checks`) to its end (`cruEnd_shows`, `cryEnd_shows`); a flush only empties slots
(`Emptied`), so what a tamper event or a session leaves of the keys follows step by step (`Responds`). -/
theorem keysJobsTamperAndDebug : Obligations.KeysJobsTamperAndDebug := by
  unfold Obligations.KeysJobsTamperAndDebug
  intro s isr same keyin
  refine ⟨fun q hr free awake p mem => ?_, fun e => cruComplete_none e, fun j job => ⟨fun generate => ?_, fun u m create formed idle room => ?_,
    fun u create failed => ?_, fun wrap rom => ?_, fun now => ?_⟩, remask_slots s, fun q slot hr free awake p mem => ?_, cryComplete_idle,
    fun j job rom => ?_, fun n => ⟨tamperEvent_off, fun on => ?_⟩, fun q => tamperLatchClear_clears, fun q => debugChallenge_draws,
    fun q hr due => ⟨fun foreign i => debugCommands_refused hr due foreign, debugLockfuse_locks hr⟩, fun hr due => ⟨fun now => ?_, debugClose_ends hr,
      debugClose_refused hr, debugReset_resets hr due, debugReset_refused hr due⟩,
    fun q v hr legal => ⟨fun port session => ?_, debugHold_refused hr legal⟩, fun q c hr => debugGo_resumes c hr⟩
  · obtain ⟨small, run⟩ := cruCommands_run q s p mem
    exact ⟨cruCommand_refused run small hr free awake, cruCommand_taken run small hr free awake⟩
  · obtain ⟨t, run, ended, slots, bytes⟩ := cruCommandComplete_ends .busy (cruComplete_starves job generate)
    exact ⟨t, run, ended, slots, bytes⟩
  · exact cruCommandComplete_creates job create formed idle room
  · exact cruCommandComplete_fails job create failed
  · exact cruCommandComplete_wraps job wrap rom
  · exact cruCommandComplete_ends .none (cruComplete_empty job now)
  · obtain ⟨small, run⟩ := cryJobs_run q slot s p mem
    exact ⟨cryCommand_taken run small hr free awake, cryCommand_refused run small hr free awake⟩
  · exact ⟨fun op => cryJob_seals job op rom, fun b op => cryJob_opens job op rom, fun op => cryJob_blanks job op rom,
      fun op => cryJob_writes rom (cryComplete_counts job op), fun op => cryJob_tags j.dst (cryComplete_macs job op),
      fun op => cryJob_judges j.dst (cryComplete_checksMac job op), fun op => cryJob_hmacs job op rom,
      fun op => cryJob_judges j.dst (cryComplete_checksHmac job op), fun op => cryJob_signs job op rom,
      fun op => cryJob_writes rom (cryComplete_derives job op), fun op => cryJob_judges j.dst (cryComplete_checksSign job op),
      fun op => cryJob_writes rom (cryComplete_hashes job op)⟩
  · obtain ⟨t, run, shown, keys⟩ := tamperEvent_answers on
    exact ⟨t, run, shown.valid, shown.seen, shown.isr, keys.points, shown.later, shown.first, keys.spared, fun responds =>
      ⟨keys.sealed responds, keys.emptied responds, keys.unpowered responds, keys.erased responds⟩⟩
  · have judged := debugOpen_judges s
    refine ⟨_, debugOpen_taken hr now, rfl, judged.spent, judged.nonce, judged.cleared, judged.code, fun good => (debugOpen_opened good).2, fun bad => ?_⟩
    obtain ⟨-, session, told, slots, fails, data⟩ := debugOpen_failed bad
    exact ⟨session, told, slots, fails, SameData.of_plantData data⟩
  · subst port
    exact debugHold_holds hr legal session

end Sys2Proof.Machine
end
